-- ==== Sys2Proof/Word.lean ====
section
/-!
DEFINITION. The word types of the T3280 and their plainest arithmetic (R1: 32-bit registers; R254: 72-bit memory words).
-/
namespace Sys2Proof

/-- A register word (R1). -/
abbrev Word := BitVec 32

/-- A byte of a buffer or message. -/
abbrev Byte := BitVec 8

/-- An on-chip memory word: 64 data bits in [63:0], 8 check bits in [71:64] (R254). -/
abbrev MemWord := BitVec 72

end Sys2Proof
end

