-- ==== Sys2Proof/Config.lean ====
section
/-!
DEFINITION. What one implementation or the spec's silence fixes: the names of the carriers and access paths, and the free
values (opaque constants: nothing can be proved of what they are).
-/
namespace Sys2Proof

/-- The two optical carriers (glossary, Table 0.4). -/
inductive Carrier where
  | A | B
  deriving DecidableEq, Repr

/-- A carrier's instance number, 0 for A and 1 for B (R31). -/
def Carrier.idx : Carrier → Nat
  | .A => 0
  | .B => 1

/-- The carrier of an instance number; numbers above 1 map to B (Table 2.6). -/
def Carrier.ofIdx : Nat → Carrier
  | 0 => .A
  | _ => .B

/-- The other carrier. -/
def Carrier.other : Carrier → Carrier
  | .A => .B
  | .B => .A

/-- The access paths of R12. `wmp p` is the path of WMP REG messages of session path `p`: 0 mailbox, 1 I3C,
2 and 3 the management channels of carriers A and B. -/
inductive Path where
  | cxl
  | plough
  | hedge
  | wmp (p : Fin 4)
  deriving DecidableEq, Repr

/-- A number for each access path, used to key its shadows and staging copies (R12). -/
def Path.idx : Path → Nat
  | .cxl => 0
  | .plough => 1
  | .hedge => 2
  | .wmp p => 3 + p.val

/-- The `k`-th free word: a value the spec leaves open (log 5). It has no body, so no proof can see it. -/
opaque Config.freeWord : Nat → Word

/-- The cause within the MEM block of the fault log entry for a correction in a region (R364, Table 18.4): the spec gives the entry no code; left
free (log 60). -/
opaque Config.correctedCode : (region : Nat) → Word

/-- A latency that the spec gives as constant for a plan and the equaliser lengths, without its value, in 2^−8 ns (R70, R92, R121): 0 the
receive chain, 1 the transmit chain, 2 the encoder, 3 the decoder; the plan as its records (type, instance, body). Left free (log 68). -/
opaque Config.latency : (chain : Nat) → (plan : List (Nat × Nat × List (BitVec 8))) → Carrier → (taps : List Nat) → Nat

/-- The symbols of SSPRQ as level indices, by place in its sequence of 65,535 (Table 7.4): the spec names IEEE 802.3 Clause 120 and lists none;
left free (log 73). -/
opaque Config.ssprq : Nat → Fin 4

/-- The bits of the LT_GEN pattern of a carrier (R108): the spec does not give it; left free (log 82). -/
opaque Config.lineTest : Carrier → Nat → Bool

/-- A word that a forwarding carrier sends when no received multiframe brings it one (R42, R109): the spec does not say what it is; left free
(log 82). -/
opaque Config.missingWord : (multiframe word : Nat) → BitVec 128

/-- The values of c(−3) to c(1) of a preset of IEEE 802.3 Clause 162 or 136, in 1/1,000 of the peak level (R150): the spec names the Clauses and
lists no values; left free (log 84). -/
opaque Config.presetTaps : (clause preset : Nat) → List Int

/-- The level index of symbol k that a lane sends: client data coded by IEEE 802.3, or training frames (R150, R151): the spec gives neither
coding; left free (log 84). -/
opaque Config.laneData : (lane k : Nat) → Fin 4
opaque Config.laneTraining : (lane k : Nat) → Fin 4

/-- What a lane's PRBS generator starts from (R155): the spec gives no seed; left free (log 84). -/
opaque Config.genSeed : (lane pattern : Nat) → Nat

/-- The quarter-wave sine table of 1,024 entries, in 1/65,536 (R236): the spec names it and lists no entries; left free
(log 5). -/
opaque Config.sineTable : Nat → Nat

/-- The result of RSASSA-PSS verification with SHA-512 under a key, as a function of key, message and signature
(R30, R281): the spec names RFC 8017 and states no result; left free (log 5). -/
opaque Config.rsaVerify : (key message signature : List Byte) → Bool

/-- HMAC-SHA-512 of a message under a key (R286, R289): the spec names it and states no result; left free (log 5). -/
opaque Config.hmac : (key message : List Byte) → List Byte

/-- Hedge's device-unique key, and the bytes of a key record (its SERVICE flag and the keys of slots 6 to 11) as its HMAC covers them (R284): the spec
gives neither; left free (log 5). -/
opaque Config.deviceKey : List Byte
opaque Config.keyRecord : (service : Bool) → (keys : List (List Byte)) → List Byte

/-- The 256-bit hash of a key that OTP holds (R284); left free (log 5). -/
opaque Config.keyHash : (key : List Byte) → List Byte

/-- What a KEY_UPDATE image's body asks for: keys by slot, slots to revoke, and the VENDOR key (R285, R293). -/
structure KeyUpdate where
  install : List (Nat × List Byte)
  revoke : List Nat
  vendor : Option (List Byte)
  deriving DecidableEq, Repr, Inhabited

/-- The content of a KEY_UPDATE body: the spec gives it no layout; left free (log 5). -/
opaque Config.keyUpdate : (body : List Byte) → KeyUpdate

/-- The bodies of KEY_INSTALL and KEY_REVOKE, to which the spec gives no layout, as the MAC covers them; left free (log 5). -/
opaque Config.keyInstallBody : (slot : Nat) → (key : List Byte) → List Byte
opaque Config.keyRevokeBody : (slot : Nat) → List Byte

/-- The number of ones in a byte. -/
def onesOf (b : BitVec 8) : Nat := ((List.range 8).filter (fun i => b.getLsbD i)).length

/-- The data columns of the check matrix (R254): 64 different bytes of odd weight; the check bits' own columns are the eight bytes
of weight 1. -/
structure CheckCode where
  columns : List (BitVec 8)
  count : columns.length = 64
  odd : columns.all (fun b => onesOf b % 2 = 1 && onesOf b ≠ 1) = true
  different : columns.eraseDups.length = 64

/-- Such columns exist: the least such bytes. Nothing follows from which they are: the matrix itself is left free. -/
def CheckCode.least : CheckCode :=
  ⟨(((List.range 256).map (BitVec.ofNat 8)).filter (fun b => onesOf b % 2 = 1 && onesOf b ≠ 1)).take 64, by decide +kernel, by decide +kernel,
    by decide +kernel⟩

/-- The check matrix of the memories: the spec names a Hsiao code and lists no columns; left free (log 5). -/
opaque Config.checkCode [Inhabited CheckCode] : CheckCode

/-- Its columns. -/
def checkColumns : List (BitVec 8) := (@Config.checkCode ⟨CheckCode.least⟩).columns

/-- sin of `phase`/2^32 of a turn for a phase of at most a quarter, in 2^−48, by the series to the 19th power. -/
def sineSeries (phase : Nat) : Nat :=
  let x := phase * 1768559438007110 / 2 ^ 32
  let x2 := x * x / 2 ^ 48
  x * ([342, 272, 210, 156, 110, 72, 42, 20, 6].foldl (fun acc k => 2 ^ 48 - x2 * acc / 2 ^ 48 / k) (2 ^ 48)) / 2 ^ 48

/-- sin of `phase`/2^32 of a turn, in 2^−48. -/
def sine48 (phase : Nat) : Int :=
  let p := phase % 2 ^ 32
  let r := p % 2 ^ 30
  let m : Int := sineSeries (if p / 2 ^ 30 % 2 = 1 then 2 ^ 30 - r else r)
  if p < 2 ^ 31 then m else -m

/-- Whether the 16-bit sine of the headland chains' mixers is rounded up at a 32-bit phase (R212): the spec does not say how it is rounded; left
free (log 77). -/
opaque Config.sineUp : (phase : Nat) → Bool

/-- The 16-bit sine, 1 being 2^15: one of the two values about the exact one (R212). -/
def sine16 (phase : Nat) : Int := max (-32768) (min 32767 (sine48 phase / 2 ^ 33 + (if Config.sineUp phase then 1 else 0)))

/-- Tap at distance d from the centre of a half-band filter of 2 h + 1 taps, 2^−15: ½ at the centre, 0 at other even distances, and a unity
sum; `outer` holds the taps at distances 3, 5 and on. -/
def halfBandTap (outer : List Int) (d : Nat) : Int :=
  if d = 0 then 16384
  else if d % 2 = 0 then 0
  else if d = 1 then 8192 - outer.foldl (· + ·) 0
  else outer.getD ((d - 3) / 2) 0

/-- A half-band filter's amplitude at a frequency of f Hz, sampled at `rate`, in 2^−48. -/
def halfBandGain (outer : List Int) (rate f : Nat) : Int :=
  let cos (d : Nat) : Int := sine48 (f * d * 2 ^ 32 / rate + 2 ^ 30)
  16384 * 2 ^ 33 + ((List.range (outer.length + 1)).map (fun i => 2 * halfBandTap outer (2 * i + 1) * cos (2 * i + 1) / 2 ^ 15)).foldl (· + ·) 0

/-- The amplitude of a chain at f Hz as a quotient: the CIC's (sin 8x / 8 sin x)^4 and both half-bands' (Table 10.3). -/
def chainGain (outer1 outer2 : List Int) (f : Nat) : Nat × Nat :=
  let s (k : Nat) : Nat := (sine48 (f * k * 2 ^ 32 / 2000000)).natAbs
  let h := (halfBandGain outer1 125000 f).natAbs * (halfBandGain outer2 62500 f).natAbs
  if f = 0 then (h, 2 ^ 96) else (s 8 ^ 4 * h, (8 * s 1) ^ 4 * 2 ^ 96)

/-- Whether a chain is flat within ±0.1 dB across ±5 kHz, taken at every 500 Hz, and attenuates ±30 kHz by at least 60 dB (R212). -/
def chainFlat (outer1 outer2 : List Int) : Bool :=
  ((List.range 11).all fun i =>
    let (n, d) := chainGain outer1 outer2 (500 * i)
    n ^ 200 ≤ 10 * d ^ 200 && d ^ 200 ≤ 10 * n ^ 200) &&
  (let (n, d) := chainGain outer1 outer2 30000
   1000 * n ≤ d)

/-- The outer taps of the two half-band filters, of 11 and 19 taps, that meet R212. -/
structure HalfBands where
  first : List Int
  second : List Int
  lengths : first.length = 2 ∧ second.length = 4
  flat : chainFlat first second = true

/-- Such taps exist: those of the maximally flat filters. Nothing follows from which they are: the part's are left free. -/
def HalfBands.some : HalfBands := ⟨[-1600, 192], [-2205, 567, -101, 9], by decide +kernel, by decide +kernel⟩

/-- The outer taps of the part's half-band filters: the spec does not give them; left free (log 77). -/
opaque Config.halfBands [Inhabited HalfBands] : HalfBands

/-- Those of half-band 1 or 2. -/
def halfBand (filter : Nat) : List Int :=
  let h := @Config.halfBands ⟨HalfBands.some⟩
  if filter = 1 then h.first else h.second

/-- The threshold of a chain's primary or second preamble correlator, in 1/65,536 of a perfect correlation squared (R218): the spec names a threshold
and gives no value; left free (log 86). -/
opaque Config.hlThreshold : (second : Bool) → Fin 65536

/-- The vendor's MIPI manufacturer ID (R298): the spec does not give it; left free (log 5). -/
opaque Config.mipiId : Nat

/-- The Vendor ID of Nairaold (Table 13.4): the spec names no number (log 89). -/
opaque Config.vendorId : BitVec 16

end Sys2Proof
end

