-- ==== Sys2Proof/Syntax.lean ====
section
/-!
DEFINITION. The commands of the block: one constructor for each row of spec/opcode_table.json, with the operands its rule
gives it. Measured quantities and what a partner, the host or the optics send arrive as operands (log 4).
-/
namespace Sys2Proof

/-- What a polarisation of a subcarrier measured over an interval, in any common unit of power: mean symbol energy, and the error
variance of pilots and decisions (Table 3.3). -/
structure SignalNoise where
  signal : Nat
  noise : Nat
  deriving DecidableEq, Repr

/-- What the estimators of a carrier measured over an interval (R69): by subcarrier the powers of X and Y; PDL in 1/256 dB and DGD in
0.01 ps from the equaliser's inverse Jones response; whether the decoder has converged; the clock loop's offset in ppb and the carrier
loop's in kHz. -/
structure Estimates where
  subs : List (SignalNoise × SignalNoise)
  pdl : Nat
  qMeasured : Bool
  dgdMean : Nat
  dgdPeak : Nat
  clkOffset : Int
  freqOffset : Int
  deriving DecidableEq, Repr

/-- What a frame period's samples give to adaptation (R56, R63): the residual dispersion that tracking finds, ps/nm; by subcarrier the
gradient of the equaliser's algorithm by tap (33 (4 i + j) + t), and the same at the new groups of a hitless re-plan. -/
structure Adaptation where
  residual : Int
  taps : List (List Int)
  build : List (List Int)
  deriving DecidableEq, Repr

/-- A gradual transmit control of Table 4.2, with which of its values moves. -/
inductive GradualControl where
  /-- the power offset of a subcarrier, 0.1 dB -/
  | power (sub : Fin 16)
  /-- the skew of a tributary, 1/256 sample -/
  | skew (tributary : Fin 4)
  /-- an IQ value, 2^−14: 0 and 1 GAIN and PHASE of X, 2 and 3 those of Y -/
  | iq (value : Fin 4)
  /-- the headland depth, 0.1 % -/
  | depth
  deriving DecidableEq, Repr


/-- A frame from the host ASIC and what its decoding met (R165, R169). -/
structure ClientFrame where
  /-- destination address to FCS -/
  bytes : List Byte
  /-- an invalid block in it, or an uncorrectable codeword overlapping it -/
  bad : Bool
  /-- RS symbols corrected and RS codewords uncorrectable since the last frame -/
  corrected : Nat
  uncorrectable : Nat
  /-- an invalid 66-bit block outside a frame since the last frame -/
  stray : Bool
  deriving DecidableEq, Repr

/-- What has come due at a port since its last command: words on carriers A and B, and frame bytes that left the egress buffer (R171, R175). -/
structure DueWords where
  a : Nat
  b : Nat
  out : Nat
  deriving DecidableEq, Repr

/-- What a preamble correlator sees (R218): the discriminator's 16 symbols, latest last, and the magnitude of the chain's output. -/
structure Preamble where
  symbols : List Int
  level : Nat
  deriving DecidableEq, Repr

/-- What adaptation gives a lane's equalisers (R148): the DFE tap, the CTLE peaking, the 16 FFE taps, and which of CTLE, FFE and DFE changed by
less than one step over the last 64 µs. -/
structure LaneEq where
  h1 : Int
  ctle : Nat
  ffe : List Int
  still : List Bool
  deriving DecidableEq, Repr

/-- Who reads a word of the on-chip memories (Table 13.2): an agent; Hedge the plan buffer; a client port's ingress or egress, with how many of
its next frames hold a byte of the word; a datapath of a carrier its shaping or NLC table; a Plough core. -/
inductive MemReader where
  | agent
  | plan
  | client (port : Fin 16) (egress : Bool) (frames : Fin 3)
  | table (c : Carrier)
  | plough
  deriving DecidableEq, Repr

/-- Eye figures of a lane (R158). -/
structure EyeFigures where
  upper : Nat
  middle : Nat
  lower : Nat
  width : Nat
  snr : Nat
  deriving DecidableEq, Repr

/-- A training request of the partner (R150). Taps are numbered 0 for c(−3) to 5 for c(2). -/
inductive CoeffRequest where
  /-- one step up or down of a tap -/
  | step (tap : Fin 6) (up : Bool)
  /-- a preset of the Clause -/
  | preset (number : Fin 8)
  /-- reserved or contradictory control fields -/
  | contradictory
  deriving DecidableEq, Repr

/-- A time value as it is carried (R115): seconds, nanoseconds, fraction in 2^−16 ns. -/
structure Stamp where
  sec : Nat
  ns : Nat
  frac : Nat
  deriving DecidableEq, Repr

/-- What a self-test reports of a unit (R355, R356): the count its counter reached, its mismatches as words in the layout of
`BIST_FAIL_k_WHERE`, and whether a spare row of it failed. -/
structure BistReport where
  unit : Fin 916
  count : Nat
  bad : List Word
  spareBad : Bool
  deriving DecidableEq, Repr

/-- What a WMP message carries beside its CLASS, TYPE and body (R133, R286): the session path it arrives on (0 mailbox, 1 I3C,
2 and 3 the management channels), the VERSION byte, TAG, SESSION, COUNTER and MAC. -/
structure Envelope where
  path : Fin 4
  version : Nat
  tag : Nat
  session : Nat
  counter : Nat
  mac : List Byte
  deriving DecidableEq, Repr

/-- How a plan command comes: as a write of `PLAN_COMMAND` over a path, or as a PLAN_CMD message (R44, R286). -/
inductive Sender where
  | reg (path : Path)
  | wmp (e : Envelope)
  deriving DecidableEq, Repr

/-- What raised a task's exception (R295): a read of a block's alias page, a counter CSR, an access at an offset of its memory, a store outside it,
anything else. -/
inductive TaskCause where
  | read (block : Nat)
  | counter (bit : Nat)
  | memory (offset : Nat)
  | store
  | other
  deriving DecidableEq, Repr

/-- A transfer of the board manager to the target (R298, R299): a private write to an address, whole or ended mid-message; DISEC and ENEC of
hot-join; a CCC that is not supported; an HDR entry. -/
inductive I3cWrite where
  | message (addr : Fin 128) (bytes : List (BitVec 8)) (whole : Bool)
  | disec
  | enec
  | unsupported
  | hdr
  deriving DecidableEq, Repr

/-- How a dynamic address is assigned (R298): ENTDAA; SETDASA to a static address; SETNEWDA to a dynamic one. -/
inductive I3cAssign where
  | entdaa
  | setdasa (static : Fin 128)
  | setnewda (old : Fin 128)
  deriving DecidableEq, Repr


/-- Image types (Table 14.3). -/
inductive ImageType where
  | hedge | plough | keyUpdate | task
  deriving DecidableEq, Repr


/-- Why a wake step failed (R327). -/
inductive WakeCause where
  | avsNoAck | avsNak | oscNotReady | pllNoLock
  deriving DecidableEq, Repr

/-- An instant at a tap of Gleaner (R303): its words, and whether the tap marks it unsettled (R304). -/
structure TapInstant where
  words : List Nat
  unsettled : Bool
  deriving DecidableEq, Repr

/-- A block of 32 instants at a burst tap (R306): its number since arming, the GLEAN cycle since arming in which it arrives, its words in
order, how many line frames lie between its own and the last one received, its block index in its frame, and the decisions of the symbols
whose centres lie within it. -/
structure TapBlock where
  number : Nat
  cycle : Nat
  words : List Nat
  back : Nat
  index : Nat
  decisions : List Nat
  deriving DecidableEq, Repr

/-- What a unit's tap has delivered since the last command that told of it and the state does not say: how many instants PORT_STATE has had
(one each ns), or the blocks of a burst tap. -/
structure TapFeed where
  instants : Nat
  blocks : List TapBlock
  deriving DecidableEq, Repr

/-- What a unit's sequencer meets in a cycle (R307): the instants at a burst tap, and the GLEAN cycles since the last one told of. -/
structure GleanCycle where
  instants : List TapInstant
  elapsed : Nat
  deriving DecidableEq, Repr

/-- A record that the part writes into the window (R268): of a spill, with the stored bits of each entry's word turned over since its last access,
and µs since the recording ended (R312); or Plough's, its own or a task's, with the 64-byte place in the window and its body (R295). -/
inductive WindowRecord where
  | spill (upsets : List MemWord) (deadUs : Nat)
  | plough (task : Option (Fin 8)) (at64 : Nat) (body : List (BitVec 8))
  deriving DecidableEq, Repr

/-- What a Plough core has done since its counters were last told of (R315, R316): occurrences of a counter's event in a privilege, cycles and instructions
retired; a CSR write to the counter in the cycle of the last occurrence. -/
structure CoreRun where
  occurrences : Nat
  priv : Fin 4
  cycles : Nat
  retired : Nat
  write : Option (BitVec 64)
  deriving DecidableEq, Repr

/-- A sample of a Plough core's precise sampler (R317): PC, instruction word, LATENCY, TASK, privilege. -/
structure PreciseSample where
  pc : BitVec 64
  insn : Word
  latency : Nat
  task : Fin 9
  priv : Fin 4
  deriving DecidableEq, Repr

/-- Who made a window request (R270). -/
inductive WindowUser where
  | plan | firmware | gleaner | plough
  deriving DecidableEq, Repr

/-- What self-test finds around a reset (R355 to R357): reports of the units that a run cut short had reached, reports of the quick
test (every other unit it runs on passes), and its length in ms. -/
structure BootTest where
  reached : List BistReport
  quick : List BistReport
  quickMs : Nat
  deriving DecidableEq, Repr

/-- What the part meets as it carries out a register write that starts a command with a row of its own: the self-test around a reset,
the junction temperature (°C) and quality of a calibration store, a port's new width and speed, what the taps of Gleaner's units have
delivered, what the statistics counters count in the cycle of the write, and the symbols of a burst that were sent. `more` are the words of a
request of 8 bytes or more after its first (R264). -/
structure Ambient where
  more : List Word
  test : BootTest
  temp : Int
  quality : Nat
  width : Fin 16
  speed : Fin 7
  feeds : List TapFeed
  now : List Nat
  sent : Nat
  deriving DecidableEq, Repr

/-- The commands, in the order of the table. -/
inductive Instr where
  /-- REGISTER_WRITE (R3): a 32-bit write over an access path, to BAR0 or, at 0x400_0000 + its offset, to BAR2 -/
  | registerWrite (path : Path) (addr : Nat) (value : Word) (amb : Ambient)
  /-- NARROW_WRITE (R5): a write of n + 1 bytes, the low ones of `value` -/
  | narrowWrite (path : Path) (addr : Nat) (n : Fin 3) (value : Word)
  /-- RC_READ (R3, R264): a read of n + 1 bytes; `upset`: stored bits of the staging word behind a capture entry turned over since its last access -/
  | rcRead (path : Path) (addr : Nat) (n : Fin 4096) (upset : MemWord)
  /-- WIDE_LOW_READ (R11, R264): a read of n + 1 bytes that begins in a wide value -/
  | wideLowRead (path : Path) (addr : Nat) (n : Fin 4096) (upset : MemWord)
  /-- WIDE_LOWER_WRITE (R13): a lower word of a writable wide value -/
  | wideLowerWrite (path : Path) (addr : Nat) (value : Word) (amb : Ambient)
  /-- WIDE_UPPER_WRITE (R13): its most significant word -/
  | wideUpperWrite (path : Path) (addr : Nat) (value : Word) (amb : Ambient)
  /-- INT_SET_WRITE (R7): a block's INT_SET -/
  | intSetWrite (path : Path) (addr : Nat) (value : Word) (amb : Ambient)
  /-- INT_STATUS_WRITE (R26): a block's INT_STATUS or INT_ENABLE -/
  | intStatusWrite (path : Path) (addr : Nat) (value : Word) (amb : Ambient)
  /-- DOWN_REGISTER_ACCESS (R332): an access of n + 1 bytes to a register that is down -/
  | downRegisterAccess (path : Path) (addr : Nat) (write : Bool) (n : Fin 4)
  /-- LOAD_WINDOW (R45). -/
  | loadWindow (sender : Sender)
  /-- LOAD_SLOT (R45). -/
  | loadSlot (sender : Sender) (slot : Fin 4)
  /-- PLAN_CHUNK (R45): `data` of 1 to 1,024 bytes at a buffer offset -/
  | planChunk (e : Envelope) (offset : Word) (data : List Byte)
  /-- VALIDATE (R43). -/
  | validate (sender : Sender)
  /-- APPLY_COLD (R47). -/
  | applyCold (sender : Sender)
  /-- PREPARE_HITLESS (R49). -/
  | prepareHitless (sender : Sender)
  /-- CANCEL (R50). -/
  | cancel (sender : Sender)
  /-- STORE_SLOT (R45). -/
  | storeSlot (sender : Sender) (slot : Fin 4)
  /-- LOAD_DONE (R45): `data` are the bytes a window copy delivered; a slot copy takes its bytes from the slot -/
  | loadDone (data : List Byte)
  /-- LOAD_SOURCE_ERROR (R45). -/
  | loadSourceError
  /-- VALIDATION_COMPLETE (R43). -/
  | validationComplete
  /-- COLD_APPLY_STAGE (R47): `ms` after t0: 1, 5, 20, 40, 60 or 80 (Table 2.19) -/
  | coldApplyStage (ms : Nat)
  /-- COLD_APPLY_COMPLETE (R47). -/
  | coldApplyComplete
  /-- STORE_SLOT_DONE (R45): whether the read-back equals what was written -/
  | storeSlotDone (same : Bool)
  /-- BUILD_READY (R50). -/
  | buildReady
  /-- BUILD_TIMEOUT (R50). -/
  | buildTimeout
  /-- BUILD_FAULT (R50): a physical furrow of the build -/
  | buildFault (furrow : Fin 104)
  /-- SWITCH_ABORT_DEADLINE (R50). -/
  | switchAbortDeadline
  /-- SWITCH_START (R50): the transmit multiframe that begins -/
  | switchStart (mf : Nat)
  /-- RX_SELECTOR_SWITCH (R50). -/
  | rxSelectorSwitch (c : Carrier)
  /-- SWITCH_DONE (R50). -/
  | switchDone
  /-- RX_FRAME_PERIOD (R53): RMS codes of XI, XQ, YI, YQ; samples of each that reached +127 or −128; subcarriers whose correlation exceeds 0.9; what adaptation takes from it -/
  | rxFramePeriod (c : Carrier) (rms : List Byte) (clips : List Nat) (singular : List (Fin 16)) (adapt : Adaptation)
  /-- LOS_ASSERT (R53). -/
  | losAssert (c : Carrier)
  /-- LOS_CLEAR (R53). -/
  | losClear (c : Carrier)
  /-- RX_QUEUE_OVF (R53). -/
  | rxQueueOvf (c : Carrier)
  /-- SWAP (R58): a write of SWAP = 1 with PAIR -/
  | swap (path : Path) (c : Carrier) (pair : Bool)
  /-- NLC_EXCHANGE (R58). -/
  | nlcExchange (c : Carrier)
  /-- NLC_EVAL_END (R60): the 16 multiframes after an exchange have passed -/
  | nlcEvalEnd (c : Carrier)
  /-- NLC_SHADOW_WRITE (R59): a shadow word, or SHADOW_TERMS without a word -/
  | nlcShadowWrite (path : Path) (c : Carrier) (word : Option (Fin 4096)) (value : Word)
  /-- TAP_SNAPSHOT (R64). -/
  | tapSnapshot (path : Path) (c : Carrier) (sub : Fin 16)
  /-- TAP_LOAD (R64). -/
  | tapLoad (path : Path) (c : Carrier) (sub : Fin 16)
  /-- TAP_DONE (R64). -/
  | tapDone (c : Carrier) (sub : Fin 16)
  /-- RESTART (R71). -/
  | restart (path : Path) (c : Carrier)
  /-- AGC_SETTLED (R71). -/
  | agcSettled (c : Carrier)
  /-- CD_SEARCH_COMPLETE (R56): the scores of the coarse candidates and of the fine ones, in ascending order of dispersion -/
  | cdSearchComplete (c : Carrier) (coarse fine : List Nat)
  /-- CLOCK_LOCKED (R71). -/
  | clockLocked (c : Carrier)
  /-- FREQ_STABLE (R71). -/
  | freqStable (c : Carrier)
  /-- CMA_CONVERGED (R71). -/
  | cmaConverged (c : Carrier)
  /-- PILOTS_FOUND (R71): the pilot position passed to the framer -/
  | pilotsFound (c : Carrier) (position : Nat)
  /-- SNR_STABLE (R71): the time since LOS was left, µs -/
  | snrStable (c : Carrier) (acqUs : Nat)
  /-- ACQ_LIMIT (R71). -/
  | acqLimit (c : Carrier)
  /-- PILOT_LOCK_LOST (R71). -/
  | pilotLockLost (c : Carrier) (sub : Fin 16)
  /-- CLOCK_LOCK_LOST (R71). -/
  | clockLockLost (c : Carrier)
  /-- CYCLE_SLIP (R67): at a pilot, the multiple of π/2 by which the phases disagree (0: none); whether it persists beyond the next
  pilot -/
  | cycleSlip (c : Carrier) (turn : Fin 4) (persists : Bool)
  /-- EST_INTERVAL_END (R69): the interval's measurements -/
  | estIntervalEnd (c : Carrier) (est : Estimates)
  /-- GROUP_CONVERGED (R72). -/
  | groupConverged (group : Fin 32)
  /-- MUTE (R86). -/
  | mute (path : Path) (c : Carrier)
  /-- UNMUTE (R86). -/
  | unmute (path : Path) (c : Carrier)
  /-- TX_RAMP_END (R86). -/
  | txRampEnd (c : Carrier)
  /-- TX_QUEUE_UNF (R86). -/
  | txQueueUnf (c : Carrier)
  /-- RESP_LOAD (R83). -/
  | respLoad (path : Path) (c : Carrier)
  /-- RESP_LOADED (R83). -/
  | respLoaded (c : Carrier)
  /-- GRADUAL_CONTROL_STEP (R75). -/
  | gradualControlStep (c : Carrier) (control : GradualControl)
  /-- TX_FRAME_PERIOD (R84): samples of XI, XQ, YI, YQ that clipped -/
  | txFramePeriod (c : Carrier) (clips : List Nat)
  /-- ENTROPY_TARGET_WRITE (R87). -/
  | entropyTargetWrite (path : Path) (c : Carrier) (sub : Fin 16) (target : Nat)
  /-- STEP_ARM (R88): ARM with STEP_MF = mf -/
  | stepArm (path : Path) (c : Carrier) (mf : Nat)
  /-- STEP_CANCEL (R88). -/
  | stepCancel (path : Path) (c : Carrier)
  /-- ENTROPY_STEP (R88). -/
  | entropyStep (c : Carrier)
  /-- LINE_FRAME_SEND (R100). -/
  | lineFrameSend (c : Carrier)
  /-- TX_MULTIFRAME_START (R112). -/
  | txMultiframeStart (c : Carrier)
  /-- ADOPT (R112). -/
  | adopt (path : Path) (c : Carrier)
  /-- FAW_MATCH (R110): the 128 sign bits at the candidate overhead positions from a position on -/
  | fawMatch (c : Carrier) (position : Nat) (signs : List Byte)
  /-- FAW_MISS (R110): the 128 sign bits at the expected position -/
  | fawMiss (c : Carrier) (signs : List Byte)
  /-- RESYNC (R110). -/
  | resync (path : Path) (c : Carrier)
  /-- OVERHEAD_RECEIVED (R99): the 512 overhead bytes as received -/
  | overheadReceived (c : Carrier) (bytes : List Byte)
  /-- MCC_CELL_RECEIVED (R113): a cell of 32 bytes -/
  | mccCellReceived (c : Carrier) (cell : List Byte)
  /-- RX_STEP_ARM (R116). -/
  | rxStepArm (path : Path) (c : Carrier) (mf : Nat)
  /-- RX_STEP_DEADLINE (R116). -/
  | rxStepDeadline (c : Carrier)
  /-- RX_STEP_SWITCH (R116). -/
  | rxStepSwitch (c : Carrier)
  /-- FEC_BLOCK_DECODED (R119): label bits corrected, how many of them lie in the frame after the one that the block begins in; the iteration in
  which the syndrome first reached zero, from 1, none if never -/
  | fecBlockDecoded (c : Carrier) (corrected later : Nat) (reached : Option (Fin 13))
  /-- ENGINE_RESIDUE_FAIL (R117). -/
  | engineResidueFail (c : Carrier) (engine : Fin 13)
  /-- FEC_SNAPSHOT (R119). -/
  | fecSnapshot (path : Path) (c : Carrier) (clear : Bool)
  /-- FEC_SNAPSHOT_COPY (R119): what each counter counts in the copy's cycle (R319) -/
  | fecSnapshotCopy (c : Carrier) (now : List Nat)
  /-- RX_MULTIFRAME_END (R119): the label bits of the multiframe received, and its words in order (R109) -/
  | rxMultiframeEnd (c : Carrier) (labelBits : Nat) (words : List (BitVec 128))
  /-- LOCKED (R125). -/
  | locked (c : Carrier)
  /-- CAPS_RECEIVED (R131). -/
  | capsReceived (c : Carrier) (tag : Nat) (body : List Byte)
  /-- CAPS_ACK_RECEIVED (R131): with the measured round trip, µs -/
  | capsAckReceived (c : Carrier) (tag : Nat) (body : List Byte) (rtt : Nat)
  /-- REQUEST_RETRY (R134): the retry time of a CAPS (0), or of a PROPOSE of a re-plan (1) or a step (2), has passed -/
  | requestRetry (c : Carrier) (request : Fin 3)
  /-- ALIGN_COMPLETE (R125). -/
  | alignComplete (c : Carrier)
  /-- ALIGN_TIMEOUT (R125). -/
  | alignTimeout (c : Carrier)
  /-- LOSS_HOLD_EXPIRED (R125). -/
  | lossHoldExpired (c : Carrier)
  /-- BACKOFF_EXPIRED (R125). -/
  | backoffExpired (c : Carrier)
  /-- INCOMPATIBLE_RETRY (R125). -/
  | incompatibleRetry (c : Carrier)
  /-- RENEGOTIATE (R142). -/
  | renegotiate (path : Path) (c : Carrier)
  /-- TAKE_E (R142). -/
  | takeE (path : Path) (c : Carrier)
  /-- TAKE_E_APPLY (R142). -/
  | takeEApply (c : Carrier)
  /-- BEACON_TIMER (R126). -/
  | beaconTimer (c : Carrier)
  /-- BEACON_RECEIVED (R129): a headland message with a good CRC received on a carrier's channel, with its RSSI -/
  | beaconReceived (c : Carrier) (bytes : List Byte) (rssi : Nat)
  /-- QUERY_RECEIVED (R128): whether a QUERY was answered in the last 2 s -/
  | queryReceived (c : Carrier) (bytes : List Byte) (recent : Bool)
  /-- LINK_DOWN_RECEIVED (R128). -/
  | linkDownReceived (c : Carrier) (bytes : List Byte)
  /-- NEIGHBOUR_EXPIRED (R129). -/
  | neighbourExpired (entry : Fin 16)
  /-- PROPOSE_RECEIVED (R136). -/
  | proposeReceived (c : Carrier) (tag : Nat) (body : List Byte)
  /-- ACCEPT_RECEIVED (R138). -/
  | acceptReceived (c : Carrier) (tag : Nat) (body : List Byte) (rtt : Nat)
  /-- COMMIT_LEFT_QUEUE (R138): of an entropy step, or of a re-plan -/
  | commitLeftQueue (c : Carrier) (step : Bool)
  /-- COMMIT_RECEIVED (R138). -/
  | commitReceived (c : Carrier) (tag : Nat) (body : List Byte)
  /-- WITHDRAW_RECEIVED (R139). -/
  | withdrawReceived (c : Carrier) (tag : Nat) (body : List Byte)
  /-- NAK_RECEIVED (R137). -/
  | nakReceived (c : Carrier) (tag : Nat) (code : Nat) (rtt : Nat)
  /-- PROPOSAL_DEADLINE (R139): of an entropy step, or of a re-plan -/
  | proposalDeadline (c : Carrier) (step : Bool)
  /-- ACCEPTED_DEADLINE (R139): of an entropy step, or of a re-plan -/
  | acceptedDeadline (c : Carrier) (step : Bool)
  /-- SIGNAL_DETECT (R151, R154): the amplitude in mVppd -/
  | signalDetect (lane : Fin 16) (amplitude : Nat)
  /-- PARTNER_FRAME_MARKERS (R151). -/
  | partnerFrameMarkers (lane : Fin 16)
  /-- CDR_CONVERGED (R149, R151): the signal's offset from the lane's nominal rate, parts in 10^9 -/
  | cdrConverged (lane : Fin 16) (offset : Int) (eq : LaneEq)
  /-- DETECT_LIMIT_EXPIRED (R149, R151): the signal's offset from the lane's nominal rate, parts in 10^9; none for no signal of that rate -/
  | detectLimitExpired (lane : Fin 16) (offset : Option Int) (eq : LaneEq)
  /-- TRAINING_DONE (R151): training's duration; whether the partner granted precoding and whether it requested precoding -/
  | trainingDone (lane : Fin 16) (ms : Nat) (granted requested : Bool) (eq : LaneEq)
  /-- TRAIN_LIMIT_EXPIRED (R151). -/
  | trainLimitExpired (lane : Fin 16)
  /-- SIGNAL_LOST (R151, R154): the amplitude in mVppd -/
  | signalLost (lane : Fin 16) (amplitude : Nat)
  /-- IDLE_LIMIT_EXPIRED (R151). -/
  | idleLimitExpired (lane : Fin 16)
  /-- WAKE_BURST (R154): UI for which the CDR has held phase lock when the burst ends -/
  | wakeBurst (lane : Fin 16) (heldUi : Nat)
  /-- OVERLONG_BURST (R154). -/
  | overlongBurst (lane : Fin 16)
  /-- RETRAIN (R151). -/
  | retrain (path : Path) (lane : Fin 16)
  /-- FAILED_WAIT_EXPIRED (R151). -/
  | failedWaitExpired (lane : Fin 16)
  /-- HOLDOFF_EXPIRED (R151). -/
  | holdoffExpired (lane : Fin 16)
  /-- TX_IDLE_SET (R153). -/
  | txIdleSet (path : Path) (lane : Fin 16)
  /-- TX_IDLE_CLEAR (R153). -/
  | txIdleClear (path : Path) (lane : Fin 16)
  /-- QUAD_UNLOCK (R153). -/
  | quadUnlock (quad : Fin 4)
  /-- QUAD_RELOCK (R153). -/
  | quadRelock (quad : Fin 4)
  /-- PARTNER_COEFF_REQUEST (R150). -/
  | partnerCoeffRequest (lane : Fin 16) (req : CoeffRequest)
  /-- TX_FFE_WRITE (R147): a write of TX_FFE_PRE, or of TX_FFE_POST -/
  | txFfeWrite (path : Path) (lane : Fin 16) (post : Bool) (value : Word)
  /-- PRECODE_WRITE (R146): PRECODE_TX, or PRECODE_RX -/
  | precodeWrite (path : Path) (lane : Fin 16) (receive value : Bool)
  /-- CHECKER_LOCK (R156): level indices at the ball under a lock dropped by a write and not yet counted, and the last ones, which lock; in near-end
  loopback only their number counts (R159), as in the two commands below -/
  | checkerLock (lane : Fin 16) (counted rx : List (Fin 4))
  /-- CHK_LOCK_LOST (R156): the level indices at the ball since the last ones counted -/
  | chkLockLost (lane : Fin 16) (rx : List (Fin 4))
  /-- CHK_SNAPSHOT (R156). -/
  | chkSnapshot (path : Path) (lane : Fin 16) (clear : Bool)
  /-- CHK_SNAPSHOT_COPY (R156): the level indices at the ball since the last ones counted, and those of the copy's cycle -/
  | chkSnapshotCopy (lane : Fin 16) (rx now : List (Fin 4))
  /-- INJ_SINGLE (R157). -/
  | injSingle (path : Path) (lane : Fin 16)
  /-- INJ_BURST (R157). -/
  | injBurst (path : Path) (lane : Fin 16)
  /-- INJ_BURST_END (R157). -/
  | injBurstEnd (lane : Fin 16)
  /-- INJ_RATE_START (R157). -/
  | injRateStart (path : Path) (lane : Fin 16)
  /-- INJ_RATE_INTERVAL (R157): symbols sent since the interval was last counted -/
  | injRateInterval (lane : Fin 16) (symbols : Nat)
  /-- INJ_STOP (R157): symbols sent since the injector's last command -/
  | injStop (path : Path) (lane : Fin 16) (sent : Nat)
  /-- EYE_PUBLISH (R158). -/
  | eyePublish (lane : Fin 16) (eye : EyeFigures) (eq : LaneEq)
  /-- LOOP_NEAR_WRITE (R159). -/
  | loopNearWrite (path : Path) (lane : Fin 16) (value : Bool)
  /-- PCS_ALIGNED (R167): the skew in ns -/
  | pcsAligned (port : Fin 16) (skew : Nat)
  /-- CLIENT_ALIGN_TIMEOUT (R167): violation 0x01, 0x02 or 0x03 -/
  | clientAlignTimeout (port : Fin 16) (cause : Fin 3)
  /-- HI_SER (R165). -/
  | hiSer (port : Fin 16)
  /-- MARKER_LOCK_LOST (R167). -/
  | markerLockLost (port : Fin 16)
  /-- CLIENT_FRAME_INGRESS (R169). -/
  | clientFrameIngress (port : Fin 16) (frame : ClientFrame) (due : DueWords)
  /-- ORDERED_SET_INGRESS (R169): 0 none any more, 1 LF, 2 RF, 3 LI, else unknown -/
  | orderedSetIngress (port : Fin 16) (set : Nat) (due : DueWords)
  /-- ORDERED_SET_REPEAT (R169). -/
  | orderedSetRepeat (port : Fin 16) (due : DueWords)
  /-- LPI_RECEIVED (R169). -/
  | lpiReceived (port : Fin 16)
  /-- RECORD_RECEIVED (R174): the bytes of a record where one is expected; whether any came from an uncorrectable block or an unaligned frame period; frame bytes that left the egress buffer since the last such count -/
  | recordReceived (port : Fin 16) (c : Carrier) (record : List Byte) (errored : Bool) (drained : Nat)
  /-- ORDERED_SET_TIMEOUT (R176). -/
  | orderedSetTimeout (port : Fin 16)
  /-- SEGMENT_COMPLETE (R178): the measured differential delay; frame bytes that left the egress buffer since the last such count -/
  | segmentComplete (port : Fin 16) (delayNs drained : Nat)
  /-- WTR_EXPIRED (R178). -/
  | wtrExpired (port : Fin 16)
  /-- FORCE_SEL_WRITE (R178). -/
  | forceSelWrite (path : Path) (port : Fin 16) (value : Fin 4)
  /-- LOOP_WRITE (R180). -/
  | loopWrite (path : Path) (port : Fin 16) (value : Fin 4)
  /-- CLIENT_SNAPSHOT (R182). -/
  | clientSnapshot (path : Path) (port : Fin 16) (clear : Bool)
  /-- CLIENT_SNAPSHOT_COPY (R182): what each counter counts in the copy's cycle (R319) -/
  | clientSnapshotCopy (port : Fin 16) (now : List Nat)
  /-- TIME_SET_COMMIT (R186): the top word; the lower words are the path's staged ones -/
  | timeSetCommit (path : Path) (value : Word)
  /-- INVALIDATE (R186). -/
  | invalidate (path : Path)
  /-- TIME_ADJ_COMMIT (R187): the word written to TIME_ADJ_HI -/
  | timeAdjCommit (path : Path) (value : Word)
  /-- SLEW_COMPLETE (R187). -/
  | slewComplete
  /-- REF_LOST (R189). -/
  | refLost
  /-- REF_RESTORED (R189). -/
  | refRestored
  /-- SERVO_MEASUREMENT (R190): the stamp of a rising edge of TC0 -/
  | servoMeasurement (edge : Stamp)
  /-- TT_MEASUREMENT (R193). -/
  | ttMeasurement
  /-- TT_SET_TIMEOUT (R194). -/
  | ttSetTimeout
  /-- TP_ARM (R199). -/
  | tpArm (path : Path) (n : Fin 4)
  /-- TP_STOP (R199). -/
  | tpStop (path : Path) (n : Fin 4)
  /-- TP_EDGE (R199). -/
  | tpEdge (n : Fin 4)
  /-- CAPTURE_EDGE (R201). -/
  | captureEdge (m : Fin 2) (falling : Bool)
  /-- CAPTURE_READ (R202). -/
  | captureRead (path : Path) (m : Fin 2)
  /-- GO (R208). -/
  | go (path : Path)
  /-- ABORT (R210). -/
  | abort (path : Path)
  /-- TX_PACKET_END (R208). -/
  | txPacketEnd
  /-- SYNC (R214). -/
  | sync (path : Path)
  /-- SYNC_N (R214). -/
  | syncN
  /-- ADCB_SAMPLES_RETURN (R213). -/
  | adcbSamplesReturn
  /-- CHAIN_SETTLED (R213): the samples since the last ones brought or the last chain reset -/
  | chainSettled (chain : Fin 8) (samples : List Int)
  /-- DETECTOR_WINDOW_END (R215): likewise -/
  | detectorWindowEnd (samples : List Int)
  /-- PRIMARY_DETECTION (R219) -/
  | primaryDetection (chain : Fin 8) (preamble : Preamble)
  /-- NEW_PREAMBLE (R218, R219): its symbol timing less the current one in 1/256 symbol, its frequency and the running AFC estimate in Hz -/
  | newPreamble (chain : Fin 8) (preamble : Preamble) (timing frequency afc : Int)
  /-- SYNC_WORD_MATCH (R219): the 32 symbols received, the mean magnitude of the chain's output over them, the AFC estimate in Hz -/
  | syncWordMatch (chain : Fin 8) (word : Word) (level : Nat) (foffset : Int)
  /-- SYNC_WINDOW_END (R219). -/
  | syncWindowEnd (chain : Fin 8)
  /-- LENGTH_BYTE (R219). -/
  | lengthByte (chain : Fin 8) (value : Byte)
  /-- LAST_CRC_BIT (R219): payload and CRC as received, whitened -/
  | lastCrcBit (chain : Fin 8) (data : List Byte)
  /-- POP (R220). -/
  | pop (path : Path)
  /-- ADC_FRAME_START (R224). -/
  | adcFrameStart
  /-- SEQ_START (R224). -/
  | seqStart (path : Path)
  /-- CONVERSION_COMPLETE (R225): the raw code; the 50 MHz cycles since the last command that said how many passed -/
  | conversionComplete (raw : Fin 4096) (elapsed : Nat)
  /-- INJ_GO (R226). -/
  | injGo (path : Path) (channel : Fin 32) (sample : Fin 16) (gain : Fin 4)
  /-- CAL_ZERO (R229). -/
  | calZero (path : Path) (channel : Fin 32) (gain : Fin 4)
  /-- CAL_FULL (R229). -/
  | calFull (path : Path)
  /-- CAL_CANCEL (R229). -/
  | calCancel (path : Path)
  /-- CAL_STEP_COMPLETE (R229). -/
  | calStepComplete
  /-- CAL_ZERO_TIMEOUT (R229). -/
  | calZeroTimeout
  /-- CAL_G_WRITE (R228): the pair 4c + g -/
  | calGWrite (path : Path) (pair : Fin 128) (value : Word)
  /-- DIAG (R231). -/
  | diag (path : Path) (channel : Fin 32)
  /-- DIAG_COMPLETE (R231): the raw codes, in order, of those of the 16 conversions that no CONVERSION_COMPLETE brought -/
  | diagComplete (raws : List (Fin 4096))
  /-- PDAC_UPDATE (R232): the 50 MHz cycles since the last command that said how many passed -/
  | pdacUpdate (ch : Fin 20) (elapsed : Nat)
  /-- PDAC_QUEUE_PUSH (R233). -/
  | pdacQueuePush (path : Path) (ch : Fin 20) (code : Fin 65536)
  /-- SPAN_WRITE (R234). -/
  | spanWrite (path : Path) (ch : Fin 20) (span : Fin 4)
  /-- SPAN_DONE (R234). -/
  | spanDone (ch : Fin 20)
  /-- OVER_TEMP (R237): the die temperature, °C -/
  | overTemp (temp : Int)
  /-- OT_CLEAR (R237): the die temperature, °C -/
  | otClear (temp : Int)
  /-- LATCHED_CLEAR (R237). -/
  | latchedClear (path : Path)
  /-- ENGINE_FRAME_START (R241). -/
  | engineFrameStart
  /-- LOOP_UPDATE (R241). -/
  | loopUpdate (loop : Fin 16)
  /-- LOOP_MODE_WRITE (R245). -/
  | loopModeWrite (path : Path) (loop : Fin 16) (mode : Fin 8)
  /-- LOOP_RECLOSE (R245). -/
  | loopReclose (loop : Fin 16)
  /-- LOOP_REGISTER_WRITE (R249): a word of the loop's window -/
  | loopRegisterWrite (path : Path) (loop : Fin 16) (word : Fin 64) (value : Word)
  /-- TRACE_RUN (R251). -/
  | traceRun (path : Path) (buffer : Fin 4) (run : Bool)
  /-- TRACE_STOP (R251). -/
  | traceStop (buffer : Fin 4)
  /-- MEMORY_READ (R256): `upset`: stored bits turned over since the last access -/
  | memoryRead (region : Fin 9) (word : Nat) (upset : MemWord) (reader : MemReader)
  /-- MEMORY_PARTIAL_WRITE (R257): a bit of `bytes` for each byte written -/
  | memoryPartialWrite (region : Fin 9) (word : Nat) (bytes : Fin 256) (value : BitVec 64) (upset : MemWord)
  /-- MEMORY_FULL_WRITE (R257). -/
  | memoryFullWrite (region : Fin 9) (word : Nat) (value : BitVec 64)
  /-- FLIP_ARM (R261). -/
  | flipArm (path : Path) (region : Fin 16) (check : Byte)
  /-- HARROW_STEP (R260): `lapMs`: ms since the lap began -/
  | harrowStep (region : Fin 9) (upset : MemWord) (lapMs : Nat)
  /-- BUCKET_LEAK (R259). -/
  | bucketLeak (region : Fin 9)
  /-- MEMORY_INIT_DONE (R255). -/
  | memoryInitDone
  /-- CXL_PERST_DEASSERT (R265). -/
  | cxlPerstDeassert
  /-- CXL_L0_REACHED (R265). -/
  | cxlL0Reached (proto : Fin 3) (width : Fin 16) (speed : Fin 7)
  /-- CXL_TRAINING_TIMEOUT (R265). -/
  | cxlTrainingTimeout
  /-- CXL_LINK_RECOVERY (R265). -/
  | cxlLinkRecovery
  /-- CXL_LINK_DOWN (R265). -/
  | cxlLinkDown
  /-- CXL_PERST_ASSERT (R265). -/
  | cxlPerstAssert
  /-- CXL_HOT_RESET (R265). -/
  | cxlHotReset
  /-- CXL_REF_LOST (R265). -/
  | cxlRefLost
  /-- CXL_RETRAIN (R265): the word written, and what recovery reports -/
  | cxlRetrain (path : Path) (value : Word) (width : Fin 16) (speed : Fin 7)
  /-- GRANT (R267). -/
  | grant (path : Path)
  /-- REVOKE (R267). -/
  | revoke (path : Path)
  /-- WRITE_BACK_COMPLETE (R267). -/
  | writeBackComplete
  /-- WRITE_BACK_TIMEOUT (R267). -/
  | writeBackTimeout
  /-- WINDOW_REQUEST_TIMEOUT (R270). -/
  | windowRequestTimeout (user : WindowUser)
  /-- WINDOW_HOST_ERROR (R270). -/
  | windowHostError (user : WindowUser)
  /-- HOST_SNOOP (R270): in 64-byte units of the window -/
  | hostSnoop (line : Nat)
  /-- MBX_GO (R271). -/
  | mbxGo (length : Fin 8192)
  /-- MBX_COMMAND_DONE (R271). -/
  | mbxCommandDone
  /-- MBX_NOTIFY_HEAD_WRITE (R271). -/
  | mbxNotifyHeadWrite (head : Fin 16)
  /-- MSIX_ENABLE (R272): the host writes MSI-X Enable and the function mask -/
  | msixEnable (enable masked : Bool)
  /-- POR (R334): what the boot's self-test finds -/
  | por (test : BootTest)
  /-- RESET_N (R334). -/
  | resetN (test : BootTest)
  /-- WARM_RESET (R334). -/
  | warmReset (path : Path) (test : BootTest)
  /-- HELLO (R289). -/
  | hello (e : Envelope) (role : Fin 256)
  /-- PROVE (R289): whether more than 5 s have passed since the challenge -/
  | prove (e : Envelope) (sid : Nat) (nonce proof : List Byte) (late : Bool)
  /-- END (R290). -/
  | endSession (e : Envelope)
  /-- SET_ROLE_KEY (R293). -/
  | setRoleKey (e : Envelope) (role : Fin 256) (key : List Byte)
  /-- LC_CHANGE (R294). -/
  | lcChange (e : Envelope) (target : Fin 256)
  /-- REG_READ (R286): `upset` as in a read of a register -/
  | regRead (e : Envelope) (addr : Word) (count : Fin 256) (upset : MemWord)
  /-- REG_WRITE (R394). -/
  | regWrite (e : Envelope) (addr : Word) (words : List Word) (amb : Ambient)
  /-- FW_CHUNK (R286). -/
  | fwChunk (e : Envelope) (type : Fin 256) (offset : Nat) (data : List Byte)
  /-- FW_LOAD_WINDOW (R286): offset in 4 KiB units -/
  | fwLoadWindow (e : Envelope) (type : Fin 256) (offset length : Nat)
  /-- FW_VERIFY (R281). -/
  | fwVerify (e : Envelope)
  /-- FW_VERIFY_DONE (R281). -/
  | fwVerifyDone
  /-- FW_ACTIVATE (R297). -/
  | fwActivate (e : Envelope)
  /-- FW_COMMIT (R282). -/
  | fwCommit (e : Envelope)
  /-- KEY_INSTALL (R284). -/
  | keyInstall (e : Envelope) (slot : Fin 256) (key : List Byte)
  /-- KEY_REVOKE (R285). -/
  | keyRevoke (e : Envelope) (slot : Fin 256)
  /-- TASK_INSTALL (R295). -/
  | taskInstall (e : Envelope) (index : Fin 256)
  /-- TASK_REMOVE (R295). -/
  | taskRemove (e : Envelope) (index : Fin 256)
  /-- STEP_REQUEST (R287): sixteen E_TARGET bytes -/
  | stepRequest (e : Envelope) (carrier : Fin 256) (targets : List Byte)
  /-- MGR_RENEGOTIATE (R287). -/
  | mgrRenegotiate (e : Envelope) (carrier : Fin 256)
  /-- HL_SEND (R287). -/
  | hlSend (e : Envelope) (carrier sub : Fin 256) (data : List Byte)
  /-- REPLAN_SWITCH (R287). -/
  | replanSwitch (e : Envelope) (carrier : Fin 256)
  /-- UNKNOWN_CLASS (R299). -/
  | unknownClass (e : Envelope) (cls typ : Fin 256)
  /-- SESSION_IDLE_TIMEOUT (R290): of a path -/
  | sessionIdleTimeout (p : Fin 4)
  /-- LOCKOUT_EXPIRED (R291): of the role of code r + 1 -/
  | lockoutExpired (r : Fin 4)
  /-- TRIAL_EXPIRED (R282). -/
  | trialExpired
  /-- READY_TIMEOUT (R282). -/
  | readyTimeout
  /-- PLOUGH_READY (R282). -/
  | ploughReady (core : Fin 4)
  /-- HEARTBEAT (R296). -/
  | heartbeat (core : Fin 4)
  /-- PLOUGH_WATCHDOG (R296): the silent core -/
  | ploughWatchdog (core : Fin 4)
  /-- HEDGE_WATCHDOG (R296). -/
  | hedgeWatchdog
  /-- PLOUGH_RESTART (R296). -/
  | ploughRestart (path : Path)
  /-- TASK_BUDGET_EXCEEDED (R295): the share of a core in the window, % -/
  | taskBudgetExceeded (t : Fin 8) (cpu : Nat)
  /-- TASK_EXCEPTION (R295). -/
  | taskException (t : Fin 8) (cause : TaskCause)
  /-- I3C_PRIVATE_WRITE (R298): whether the transfer ended with the message -/
  | i3cPrivateWrite (transfer : I3cWrite)
  /-- I3C_PRIVATE_READ (R298). -/
  | i3cPrivateRead (addr : Fin 128)
  /-- I3C_ADDRESS_ASSIGN (R298). -/
  | i3cAddressAssign (how : I3cAssign) (addr : Fin 128)
  /-- HOT_JOIN_TIMER (R298). -/
  | hotJoinTimer
  /-- CPU_SWINT_SET (R301). -/
  | cpuSwintSet (path : Path) (bits : Fin 16384)
  /-- UNIT_ARM (R310): a bit for each unit -/
  | unitArm (path : Path) (units : Fin 16)
  /-- UNIT_STOP (R310): `feeds`: by unit what its tap has delivered since last told -/
  | unitStop (path : Path) (units : Fin 16) (feeds : List TapFeed)
  /-- UNIT_FORCE (R310). -/
  | unitForce (path : Path) (units : Fin 16) (feeds : List TapFeed)
  /-- GLEAN_ARM_EDGE (R310). -/
  | gleanArmEdge
  /-- GLEAN_FIRE_N_EDGE (R310). -/
  | gleanFireNEdge (feeds : List TapFeed)
  /-- SEQUENCER_TRIGGER (R307): a cycle of the unit, and what the taps delivered before it -/
  | sequencerTrigger (unit : Fin 4) (cycle : GleanCycle) (feeds : List TapFeed)
  /-- CAPTURE_COMPLETE (R308): what the tap has delivered up to the last POST entry -/
  | captureComplete (unit : Fin 4) (feed : TapFeed)
  /-- SPILL_RECORD_WRITTEN (R268, R312) -/
  | spillRecordWritten (record : WindowRecord)
  /-- READ_DATA_READ (R313): `upset`: stored bits of the entry's word turned over since its last access -/
  | readDataRead (path : Path) (unit : Fin 4) (upset : MemWord)
  /-- STAT_SNAPSHOT (R318): `now`: by counter the occurrences in the cycle of the copy (R319) -/
  | statSnapshot (path : Path) (clear : Bool) (now : List Nat)
  /-- STAT_LOAD (R318): the high word; the low word is the path's staged one -/
  | statLoad (path : Path) (counter : Fin 32) (value : Word) (now : List Nat)
  /-- PS_SAMPLE (R317): occurrences of EVENT since last told, and the sample of the last one -/
  | psSample (core : Fin 4) (occurrences : Nat) (sample : PreciseSample)
  /-- HPM_COUNTER_OVERFLOW (R316): mhpmcounter3 to mhpmcounter14 -/
  | hpmCounterOverflow (core : Fin 4) (counter : Fin 12) (run : CoreRun)
  /-- VOTE_WRITE (R323). -/
  | voteWrite (path : Path) (domain : Fin 27) (value : Word)
  /-- DROP_TIMER_EXPIRED (R324). -/
  | dropTimerExpired (domain : Fin 27)
  /-- FENCE_COMPLETE (R326). -/
  | fenceComplete (domain : Fin 27)
  /-- WAKE_COMPLETE (R326). -/
  | wakeComplete (domain : Fin 27)
  /-- WAKE_STEP_FAIL (R328). -/
  | wakeStepFail (domain : Fin 27) (cause : WakeCause)
  /-- WAKE_RETRY_GAP_EXPIRED (R326). -/
  | wakeRetryGapExpired (domain : Fin 27)
  /-- WAKE_RETRY (R326). -/
  | wakeRetry (path : Path)
  /-- DOMAIN_RESET (R334). -/
  | domainReset (path : Path) (domain : Fin 27)
  /-- WAKE_SOURCE_FIRED (R329): a source whose event has no command of its own -/
  | wakeSourceFired (source : Fin 8)
  /-- WAKE_TIMER_WRITE (R329). -/
  | wakeTimerWrite (path : Path) (value : Word)
  /-- WAKE_TIMER_EXPIRED (R329). -/
  | wakeTimerExpired
  /-- PL_REQUEST (R330). -/
  | plRequest (path : Path) (level : Fin 4)
  /-- AVS_VOLTAGE_DONE (R331): the voltage read, mV -/
  | avsVoltageDone (port : Fin 2) (mv : Fin 4096)
  /-- AVS_ACK_TIMEOUT (R331). -/
  | avsAckTimeout (port : Fin 2)
  /-- AVS_ERROR_ACK (R331). -/
  | avsErrorAck (port : Fin 2)
  /-- PL_RETRY (R330). -/
  | plRetry
  /-- SHUTDOWN (R336). -/
  | shutdown (path : Path)
  /-- SEED_STORE_WRITES_DONE (R336). -/
  | seedStoreWritesDone
  /-- BIST_COMPLETE (R355): units that failed or stopped short; every other unit under test reached its planned count -/
  | bistComplete (reports : List BistReport)
  /-- BIST_UNIT_TIMEOUT (R355). -/
  | bistUnitTimeout (report : BistReport)
  /-- BIST_RESULTS_WRITTEN (R362): whether the read-back matches; what the boot after a RUN finds -/
  | bistResultsWritten (same : Bool) (test : BootTest)
  /-- CAL_RUN (R347). -/
  | calRun (path : Path) (slot : Fin 32)
  /-- CAL_RUN_DONE (R347): the body that RUN measured for its slot -/
  | calRunDone (body : List Byte)
  /-- CAL_STORE (R345): the die's temperature and the record's quality figure (Table 17.6) -/
  | calStore (path : Path) (slot : Fin 32) (temp : Int) (quality : Nat)
  /-- CAL_STORE_DONE (R345): whether the read-back equals what was written -/
  | calStoreDone (same : Bool)
  /-- CAL_RELOAD (R344). -/
  | calReload (path : Path) (slot : Fin 32)
  /-- CAL_GRADUAL_STEP (R348). -/
  | calGradualStep (slot : Fin 32)
  /-- BG_TRACK_ESTIMATE (R350): an estimate for ADC (0, 1) or DAC (2, 3) of carrier A or B -/
  | bgTrackEstimate (slot : Fin 4) (body : List Byte) (quality : Nat) (temp : Int)
  /-- BIST_RUN (R363). -/
  | bistRun (path : Path)
  /-- HARD_REPAIR (R359). -/
  | hardRepair (path : Path)
  /-- HARD_FALLOW (R359). -/
  | hardFallow (path : Path) (unit : Fin 1024)
  /-- CLEAR_FALLOW (R361). -/
  | clearFallow (path : Path) (unit : Fin 1024)
  /-- FURROW_RESIDUE_FAIL (R364). -/
  | furrowResidueFail (furrow : Fin 104)
  /-- CLOCK_STOP (R364): the block, and which of its home clocks stopped: LRX 0, LTX 1; FEC A 0, B 1; HRXn n, HTXQq 16 + q -/
  | clockStop (block : Fin 39) (clk : Fin 20)
  /-- CFG_PARITY (R364). -/
  | cfgParity (block : Fin 39)
  /-- LOCKSTEP_MISMATCH (R364). -/
  | lockstepMismatch
  /-- D2D_CRC_ERROR (R364): whether the retry failed too -/
  | d2dCrcError (again : Bool)
  /-- SUPPLY_OUT_OF_RANGE (R364). -/
  | supplyOutOfRange
  /-- AON_REGISTER_UPSET (R364). -/
  | aonRegisterUpset
  /-- ACK (R366). -/
  | ack (path : Path)
  /-- FAULT_TEST (R366). -/
  | faultTest (path : Path)
  /-- FAULT_TEST_END (R366). -/
  | faultTestEnd
  /-- THERM_TRIP (R380): the two readings, °C -/
  | thermTrip (first second : Int)
  /-- QUALIFIER_CHANGE (R383): the new level at the ball and how long it holds, 1.25 ns -/
  | qualifierChange (q : Fin 15) (high : Bool) (width : Nat)
  /-- MIN_GAP_END (R383). -/
  | minGapEnd (q : Fin 15)
  /-- STUCK (R383). -/
  | stuck (q : Fin 15)
  /-- STUCK_RELEASE (R383). -/
  | stuckRelease (q : Fin 15)
  /-- CXL_REF_RESTORED (R265). -/
  | cxlRefRestored
  /-- HEDGE_RESTART_COMPLETE (R297). -/
  | hedgeRestartComplete
  /-- IMAGE_LOADED (R286): the bytes that the window delivered -/
  | imageLoaded (data : List Byte)
  /-- HARD_DONE (R359). -/
  | hardDone
  /-- HKADC_RESULT_READ (R225): entry 0 to 15; 16 the injected result -/
  | hkadcResultRead (path : Path) (e : Fin 17)
  /-- I3C_DYNAMIC_ADDRESS_LOST (R290). -/
  | i3cDynamicAddressLost
  /-- PROPOSE (R135): an entropy step or a re-plan (with SOLE) at multiframe mf -/
  | propose (c : Carrier) (step sole : Bool) (mf : Nat)
  deriving DecidableEq, Repr

end Sys2Proof
end

