-- ==== Sys2Proof/Decode.lean ====
section
/-!
DEFINITION. Commands that a word spells by the table's bits. The T3280 has no instruction decoder, and no row of spec/opcode_table.json
gives its command bits: its commands arrive as register writes, WMP messages, line and pin events (log 2).
-/
namespace Sys2Proof

/-- The command that a word spells: none, since no row gives bits. -/
def decodeTableWord (_nbits _w : Nat) : Option Instr := none

end Sys2Proof
end

