-- ==== Sys2Proof/Machine/RegMap.lean ====
section
/-!
DEFINITION. The register map of BAR0 (Table 1.11 and the register chapters): the address of every register (`R`), the
place of every field (`F`), and the table of rows (base, instances, reset value, fields with access and legal range).
Written from the register tables of spec/01 to spec/19; instances are indexed by `Nat`, carriers by `Carrier`.
-/
namespace Sys2Proof.Machine

/-- Access types, Table 0.3 (R3). -/
inductive Access where
  | rw | ro | w1c | w1s | wo | rc | rws
  deriving DecidableEq, Repr

/-- What a written field is replaced by when it is out of range (R8 to R10): the legal set of one field. -/
inductive Legal where
  /-- every encoding is legal -/
  | any
  /-- clamped to `lo` … `hi` (R8), which also maps reserved codes to the nearest legal one (R10) -/
  | between (lo hi : Nat)
  /-- a two's complement field clamped to `lo` … `hi` (R8) -/
  | signed (lo hi : Int)
  /-- odd values `lo` … `hi`; an even value takes the odd value below it (R9) -/
  | odd (lo hi : Nat)
  /-- from `min` up to the value of the field `hi`:`lo` of the same word less `delta` -/
  | upTo (min hi lo delta : Nat)
  /-- channels 0 to 23 and 29; other values map to 29 (R231) -/
  | diagChannel
  /-- 1, 2, 4 or 8, the nearest, the lower of two equally near (R10) -/
  | laneWidth
  /-- 0 or 2 to 255; 1 lies halfway and takes the lower (R9) -/
  | zeroOrTwoUp
  /-- a domain index 3 to 25; others map to 3 (R338) -/
  | wakeDomain
  /-- a condition code of Gleaner: bits 5:3 the kind, bits 2:0 the index; an index beyond its kind's highest maps to that (R307) -/
  | gleanCond
  deriving DecidableEq, Repr

/-- One field of a register row. -/
structure FieldSpec where
  hi : Nat
  lo : Nat
  acc : Access
  legal : Legal
  deriving DecidableEq, Repr

/-- One register of the map, with its instances as (count, stride) pairs, widest stride first. -/
structure Row where
  base : Nat
  dims : List (Nat × Nat)
  reset : Nat
  fields : List FieldSpec
  deriving DecidableEq, Repr

/-- A field of one register: its byte address in BAR0 and its bit range. -/
structure Fld where
  addr : Nat
  hi : Nat
  lo : Nat
  deriving DecidableEq, Repr

/-! ### Addresses -/
def R.GLOBAL_ID : Nat := 0x0
def R.GLOBAL_INT_STATUS : Nat := 0x4
def R.GLOBAL_INT_ENABLE : Nat := 0x8
def R.GLOBAL_INT_SET : Nat := 0xC
def R.GLOBAL_CAPABILITY : Nat := 0x10
def R.GLOBAL_MODE : Nat := 0x14
def R.GLOBAL_ACCESS_ERR : Nat := 0x18
def R.GLOBAL_INT_SUMMARY_LO : Nat := 0x20
def R.GLOBAL_INT_SUMMARY_HI : Nat := 0x24
def R.GLOBAL_INTN_ENABLE_LO : Nat := 0x28
def R.GLOBAL_INTN_ENABLE_HI : Nat := 0x2C
def R.GLOBAL_SCRATCH : Nat := 0x30
def R.PLAN_ID : Nat := 0x100000
def R.PLAN_INT_STATUS : Nat := 0x100004
def R.PLAN_INT_ENABLE : Nat := 0x100008
def R.PLAN_INT_SET : Nat := 0x10000C
def R.PLAN_COMMAND : Nat := 0x100010
def R.PLAN_SRC_OFFSET : Nat := 0x100014
def R.PLAN_SRC_LENGTH : Nat := 0x100018
def R.PLAN_STATUS : Nat := 0x10001C
def R.PLAN_RUN_EPOCH : Nat := 0x100020
def R.PLAN_BUF_EPOCH : Nat := 0x100024
def R.PLAN_FORMAT : Nat := 0x100028
def R.PLAN_SWITCH : Nat := 0x10002C
def R.PLAN_BOOT : Nat := 0x100030
def R.PLAN_FURROWS : Nat := 0x100034
def R.PLAN_IGNORED : Nat := 0x100038
def R.FURROW_ID : Nat := 0x200000
def R.FURROW_INT_STATUS : Nat := 0x200004
def R.FURROW_INT_ENABLE : Nat := 0x200008
def R.FURROW_INT_SET : Nat := 0x20000C
def R.FURROW_RX_CTRL (c : Carrier) : Nat := 0x240000 + 0x20000 * c.idx
def R.FURROW_RX_STATE (c : Carrier) : Nat := 0x240004 + 0x20000 * c.idx
def R.FURROW_RX_ACQ_TIME (c : Carrier) : Nat := 0x240008 + 0x20000 * c.idx
def R.FURROW_RX_CD_CTRL (c : Carrier) : Nat := 0x240010 + 0x20000 * c.idx
def R.FURROW_RX_CD_SET (c : Carrier) : Nat := 0x240014 + 0x20000 * c.idx
def R.FURROW_RX_CD_EST (c : Carrier) : Nat := 0x240018 + 0x20000 * c.idx
def R.FURROW_RX_NLC_CTRL (c : Carrier) : Nat := 0x240020 + 0x20000 * c.idx
def R.FURROW_RX_NLC_TERMS (c : Carrier) : Nat := 0x240024 + 0x20000 * c.idx
def R.FURROW_RX_NLC_PARAM (c : Carrier) : Nat := 0x240028 + 0x20000 * c.idx
def R.FURROW_RX_NLC_STATUS (c : Carrier) : Nat := 0x24002C + 0x20000 * c.idx
def R.FURROW_RX_CLK_CTRL (c : Carrier) : Nat := 0x240030 + 0x20000 * c.idx
def R.FURROW_RX_CLK_OFFSET (c : Carrier) : Nat := 0x240034 + 0x20000 * c.idx
def R.FURROW_RX_CPR_CTRL (c : Carrier) : Nat := 0x240038 + 0x20000 * c.idx
def R.FURROW_RX_FO_EST (c : Carrier) : Nat := 0x24003C + 0x20000 * c.idx
def R.FURROW_RX_EST_CTRL (c : Carrier) : Nat := 0x240040 + 0x20000 * c.idx
def R.FURROW_RX_SNR (c : Carrier) : Nat := 0x240044 + 0x20000 * c.idx
def R.FURROW_RX_OSNR (c : Carrier) : Nat := 0x240048 + 0x20000 * c.idx
def R.FURROW_RX_SNR_TRX (c : Carrier) : Nat := 0x24004C + 0x20000 * c.idx
def R.FURROW_RX_DGD (c : Carrier) : Nat := 0x240050 + 0x20000 * c.idx
def R.FURROW_RX_PDL (c : Carrier) : Nat := 0x240054 + 0x20000 * c.idx
def R.FURROW_RX_Q (c : Carrier) : Nat := 0x240058 + 0x20000 * c.idx
def R.FURROW_RX_SLIPS (c : Carrier) : Nat := 0x24005C + 0x20000 * c.idx
def R.FURROW_RX_SKEW_XI (c : Carrier) : Nat := 0x240060 + 0x20000 * c.idx
def R.FURROW_RX_SKEW_XQ (c : Carrier) : Nat := 0x240064 + 0x20000 * c.idx
def R.FURROW_RX_SKEW_YI (c : Carrier) : Nat := 0x240068 + 0x20000 * c.idx
def R.FURROW_RX_SKEW_YQ (c : Carrier) : Nat := 0x24006C + 0x20000 * c.idx
def R.FURROW_RX_DEMAP_CTRL (c : Carrier) : Nat := 0x240070 + 0x20000 * c.idx
def R.FURROW_RX_LATENCY (c : Carrier) : Nat := 0x240074 + 0x20000 * c.idx
def R.FURROW_RX_SC_EQ_CTRL (c : Carrier) (s : Nat) : Nat := 0x241000 + 0x20000 * c.idx + 0x100 * s
def R.FURROW_RX_SC_TAP_CMD (c : Carrier) (s : Nat) : Nat := 0x241004 + 0x20000 * c.idx + 0x100 * s
def R.FURROW_RX_SC_SNR (c : Carrier) (s : Nat) : Nat := 0x241008 + 0x20000 * c.idx + 0x100 * s
def R.FURROW_RX_SC_STATUS (c : Carrier) (s : Nat) : Nat := 0x24100C + 0x20000 * c.idx + 0x100 * s
def R.FURROW_RX_NLC_SHADOW (c : Carrier) (w : Nat) : Nat := 0x244000 + 0x20000 * c.idx + 0x4 * w
def R.FURROW_RX_NLC_ACTIVE (c : Carrier) (w : Nat) : Nat := 0x248000 + 0x20000 * c.idx + 0x4 * w
def R.FURROW_TX_CTRL (c : Carrier) : Nat := 0x24C000 + 0x20000 * c.idx
def R.FURROW_TX_ROLL_OFF (c : Carrier) : Nat := 0x24C004 + 0x20000 * c.idx
def R.FURROW_TX_MOD (c : Carrier) : Nat := 0x24C008 + 0x20000 * c.idx
def R.FURROW_TX_RESP (c : Carrier) : Nat := 0x24C00C + 0x20000 * c.idx
def R.FURROW_TX_STEP (c : Carrier) : Nat := 0x24C010 + 0x20000 * c.idx
def R.FURROW_TX_NET (c : Carrier) : Nat := 0x24C014 + 0x20000 * c.idx
def R.FURROW_TX_SLOTS (c : Carrier) : Nat := 0x24C018 + 0x20000 * c.idx
def R.FURROW_TX_STEP_STATUS (c : Carrier) : Nat := 0x24C01C + 0x20000 * c.idx
def R.FURROW_TX_IQ_X (c : Carrier) : Nat := 0x24C020 + 0x20000 * c.idx
def R.FURROW_TX_IQ_Y (c : Carrier) : Nat := 0x24C024 + 0x20000 * c.idx
def R.FURROW_TX_SKEW_XI (c : Carrier) : Nat := 0x24C030 + 0x20000 * c.idx
def R.FURROW_TX_SKEW_XQ (c : Carrier) : Nat := 0x24C034 + 0x20000 * c.idx
def R.FURROW_TX_SKEW_YI (c : Carrier) : Nat := 0x24C038 + 0x20000 * c.idx
def R.FURROW_TX_SKEW_YQ (c : Carrier) : Nat := 0x24C03C + 0x20000 * c.idx
def R.FURROW_TX_HL (c : Carrier) : Nat := 0x24C040 + 0x20000 * c.idx
def R.FURROW_TX_CLIP (c : Carrier) : Nat := 0x24C044 + 0x20000 * c.idx
def R.FURROW_TX_LATENCY (c : Carrier) : Nat := 0x24C048 + 0x20000 * c.idx
def R.FURROW_TX_SC_ENTROPY (c : Carrier) (s : Nat) : Nat := 0x24D000 + 0x20000 * c.idx + 0x40 * s
def R.FURROW_TX_SC_RANGE (c : Carrier) (s : Nat) : Nat := 0x24D004 + 0x20000 * c.idx + 0x40 * s
def R.FURROW_TX_SC_POWER (c : Carrier) (s : Nat) : Nat := 0x24D008 + 0x20000 * c.idx + 0x40 * s
def R.FURROW_TX_SC_NET (c : Carrier) (s : Nat) : Nat := 0x24D00C + 0x20000 * c.idx + 0x40 * s
def R.FURROW_TX_SC_LAST_STEP (c : Carrier) (s : Nat) : Nat := 0x24D010 + 0x20000 * c.idx + 0x40 * s
def R.FURROW_TX_RESP_SHADOW (c : Carrier) (w : Nat) : Nat := 0x24E000 + 0x20000 * c.idx + 0x4 * w
def R.FURROW_RX_TAP_SHADOW (c : Carrier) (s : Nat) (w : Nat) : Nat := 0x250000 + 0x20000 * c.idx + 0x800 * s + 0x4 * w
def R.LINE_ID (c : Carrier) : Nat := 0x400000 + 0x100000 * c.idx
def R.LINE_INT_STATUS (c : Carrier) : Nat := 0x400004 + 0x100000 * c.idx
def R.LINE_INT_ENABLE (c : Carrier) : Nat := 0x400008 + 0x100000 * c.idx
def R.LINE_INT_SET (c : Carrier) : Nat := 0x40000C + 0x100000 * c.idx
def R.LINE_RX_LEVEL (c : Carrier) : Nat := 0x400100 + 0x100000 * c.idx
def R.LINE_RX_LOS_CFG (c : Carrier) : Nat := 0x400104 + 0x100000 * c.idx
def R.LINE_RX_CLIP (c : Carrier) : Nat := 0x400108 + 0x100000 * c.idx
def R.LINE_RX_QUEUE (c : Carrier) : Nat := 0x40010C + 0x100000 * c.idx
def R.LINE_TX_CTRL (c : Carrier) : Nat := 0x400200 + 0x100000 * c.idx
def R.LINE_TX_QUEUE (c : Carrier) : Nat := 0x400204 + 0x100000 * c.idx
def R.FEC_ID : Nat := 0x600000
def R.FEC_INT_STATUS : Nat := 0x600004
def R.FEC_INT_ENABLE : Nat := 0x600008
def R.FEC_INT_SET : Nat := 0x60000C
def R.FEC_CFG (c : Carrier) : Nat := 0x600100 + 0x40000 * c.idx
def R.FEC_CTRL (c : Carrier) : Nat := 0x600104 + 0x40000 * c.idx
def R.FEC_ENGINES (c : Carrier) : Nat := 0x600108 + 0x40000 * c.idx
def R.FEC_SD (c : Carrier) : Nat := 0x60010C + 0x40000 * c.idx
def R.FEC_BER (c : Carrier) : Nat := 0x600110 + 0x40000 * c.idx
def R.FEC_STATUS (c : Carrier) : Nat := 0x600114 + 0x40000 * c.idx
def R.FEC_LAT_ENC (c : Carrier) : Nat := 0x600118 + 0x40000 * c.idx
def R.FEC_LAT_DEC (c : Carrier) : Nat := 0x60011C + 0x40000 * c.idx
def R.FEC_CORR_BITS_LO (c : Carrier) : Nat := 0x600120 + 0x40000 * c.idx
def R.FEC_CORR_BITS_HI (c : Carrier) : Nat := 0x600124 + 0x40000 * c.idx
def R.FEC_BLOCKS_LO (c : Carrier) : Nat := 0x600128 + 0x40000 * c.idx
def R.FEC_BLOCKS_HI (c : Carrier) : Nat := 0x60012C + 0x40000 * c.idx
def R.FEC_UNCORR_LO (c : Carrier) : Nat := 0x600130 + 0x40000 * c.idx
def R.FEC_UNCORR_HI (c : Carrier) : Nat := 0x600134 + 0x40000 * c.idx
def R.FEC_ITER_LIMIT_LO (c : Carrier) : Nat := 0x600138 + 0x40000 * c.idx
def R.FEC_ITER_LIMIT_HI (c : Carrier) : Nat := 0x60013C + 0x40000 * c.idx
def R.LINK_ID : Nat := 0x700000
def R.LINK_INT_STATUS : Nat := 0x700004
def R.LINK_INT_ENABLE : Nat := 0x700008
def R.LINK_INT_SET : Nat := 0x70000C
def R.LINK_ALIGN_CFG (c : Carrier) : Nat := 0x700100 + 0x40000 * c.idx
def R.LINK_ALIGN_STATUS (c : Carrier) : Nat := 0x700104 + 0x40000 * c.idx
def R.LINK_TX_FRAME (c : Carrier) : Nat := 0x700108 + 0x40000 * c.idx
def R.LINK_RX_FRAME (c : Carrier) : Nat := 0x70010C + 0x40000 * c.idx
def R.LINK_NUMBERING (c : Carrier) : Nat := 0x700110 + 0x40000 * c.idx
def R.LINK_PEER_CFG (c : Carrier) : Nat := 0x700114 + 0x40000 * c.idx
def R.LINK_PEER_NODE (c : Carrier) : Nat := 0x700118 + 0x40000 * c.idx
def R.LINK_PEER_EPOCH (c : Carrier) : Nat := 0x70011C + 0x40000 * c.idx
def R.LINK_PEER_SW (c : Carrier) : Nat := 0x700120 + 0x40000 * c.idx
def R.LINK_DEFECTS (c : Carrier) : Nat := 0x700124 + 0x40000 * c.idx
def R.LINK_RX_STEP (c : Carrier) : Nat := 0x700128 + 0x40000 * c.idx
def R.LINK_PEER_SNR_SEQ (c : Carrier) : Nat := 0x70012C + 0x40000 * c.idx
def R.LINK_PEER_SNR (c : Carrier) (s : Nat) : Nat := 0x700140 + 0x40000 * c.idx + 0x4 * s
def R.LINK_OH_COUNT (c : Carrier) : Nat := 0x700180 + 0x40000 * c.idx
def R.LINK_OH_CORR (c : Carrier) : Nat := 0x700184 + 0x40000 * c.idx
def R.LINK_MCC_COUNT (c : Carrier) : Nat := 0x700188 + 0x40000 * c.idx
def R.LINK_ERR_FRAMES (c : Carrier) : Nat := 0x70018C + 0x40000 * c.idx
def R.LINK_MF_WORDS (c : Carrier) : Nat := 0x700190 + 0x40000 * c.idx
def R.LINK_STATE (c : Carrier) : Nat := 0x708000 + 0x40000 * c.idx
def R.LINK_MGR_CTRL (c : Carrier) : Nat := 0x708004 + 0x40000 * c.idx
def R.LINK_FEATURES (c : Carrier) : Nat := 0x708008 + 0x40000 * c.idx
def R.LINK_PEER_FEATURES (c : Carrier) : Nat := 0x70800C + 0x40000 * c.idx
def R.LINK_CANDIDATE (c : Carrier) : Nat := 0x708010 + 0x40000 * c.idx
def R.LINK_COMMIT (c : Carrier) : Nat := 0x708014 + 0x40000 * c.idx
def R.LINK_RTT (c : Carrier) : Nat := 0x708018 + 0x40000 * c.idx
def R.LINK_LINK_COUNT (c : Carrier) : Nat := 0x70801C + 0x40000 * c.idx
def R.LINK_VIOLATION (c : Carrier) : Nat := 0x708020 + 0x40000 * c.idx
def R.LINK_HL_IGNORED : Nat := 0x7083F0
def R.LINK_NB_NODE (n : Nat) : Nat := 0x708400 + 0x8 * n
def R.LINK_NB_INFO (n : Nat) : Nat := 0x708404 + 0x8 * n
def R.HOSTLANE_ID : Nat := 0x800000
def R.HOSTLANE_INT_STATUS : Nat := 0x800004
def R.HOSTLANE_INT_ENABLE : Nat := 0x800008
def R.HOSTLANE_INT_SET : Nat := 0x80000C
def R.HOSTLANE_QUAD_STATUS : Nat := 0x800010
def R.HOSTLANE_CTRL (n : Nat) : Nat := 0x801000 + 0x100 * n
def R.HOSTLANE_STATE (n : Nat) : Nat := 0x801004 + 0x100 * n
def R.HOSTLANE_EVENT (n : Nat) : Nat := 0x801008 + 0x100 * n
def R.HOSTLANE_EVENT_ENABLE (n : Nat) : Nat := 0x80100C + 0x100 * n
def R.HOSTLANE_TX_FFE_PRE (n : Nat) : Nat := 0x801010 + 0x100 * n
def R.HOSTLANE_TX_FFE_POST (n : Nat) : Nat := 0x801014 + 0x100 * n
def R.HOSTLANE_TX_CFG (n : Nat) : Nat := 0x801018 + 0x100 * n
def R.HOSTLANE_RX_CFG (n : Nat) : Nat := 0x80101C + 0x100 * n
def R.HOSTLANE_RX_EQ_STATUS (n : Nat) : Nat := 0x801020 + 0x100 * n
def R.HOSTLANE_TRAIN_CFG (n : Nat) : Nat := 0x801024 + 0x100 * n
def R.HOSTLANE_TRAIN_STATUS (n : Nat) : Nat := 0x801028 + 0x100 * n
def R.HOSTLANE_IDLE_CFG (n : Nat) : Nat := 0x80102C + 0x100 * n
def R.HOSTLANE_GEN_CFG (n : Nat) : Nat := 0x801030 + 0x100 * n
def R.HOSTLANE_CHK_CFG (n : Nat) : Nat := 0x801034 + 0x100 * n
def R.HOSTLANE_INJ_CTRL (n : Nat) : Nat := 0x801038 + 0x100 * n
def R.HOSTLANE_INJ_RATE (n : Nat) : Nat := 0x80103C + 0x100 * n
def R.HOSTLANE_INJ_COUNT (n : Nat) : Nat := 0x801040 + 0x100 * n
def R.HOSTLANE_EYE_HEIGHT (n : Nat) : Nat := 0x801044 + 0x100 * n
def R.HOSTLANE_EYE_WIDTH (n : Nat) : Nat := 0x801048 + 0x100 * n
def R.HOSTLANE_LANE_COUNT (n : Nat) : Nat := 0x80104C + 0x100 * n
def R.HOSTLANE_VIOLATION (n : Nat) : Nat := 0x801050 + 0x100 * n
def R.HOSTLANE_CHK_BITS_LO (n : Nat) : Nat := 0x801060 + 0x100 * n
def R.HOSTLANE_CHK_BITS_HI (n : Nat) : Nat := 0x801064 + 0x100 * n
def R.HOSTLANE_CHK_ERR_BITS_LO (n : Nat) : Nat := 0x801068 + 0x100 * n
def R.HOSTLANE_CHK_ERR_BITS_HI (n : Nat) : Nat := 0x80106C + 0x100 * n
def R.HOSTLANE_CHK_ERR_SYMS_LO (n : Nat) : Nat := 0x801070 + 0x100 * n
def R.HOSTLANE_CHK_ERR_SYMS_HI (n : Nat) : Nat := 0x801074 + 0x100 * n
def R.CLIENT_ID : Nat := 0x900000
def R.CLIENT_INT_STATUS : Nat := 0x900004
def R.CLIENT_INT_ENABLE : Nat := 0x900008
def R.CLIENT_INT_SET : Nat := 0x90000C
def R.CLIENT_CFG (p : Nat) : Nat := 0x901000 + 0x100 * p
def R.CLIENT_CTRL (p : Nat) : Nat := 0x901004 + 0x100 * p
def R.CLIENT_FRAME (p : Nat) : Nat := 0x901008 + 0x100 * p
def R.CLIENT_STATE (p : Nat) : Nat := 0x90100C + 0x100 * p
def R.CLIENT_EVENT (p : Nat) : Nat := 0x901010 + 0x100 * p
def R.CLIENT_EVENT_ENABLE (p : Nat) : Nat := 0x901014 + 0x100 * p
def R.CLIENT_PROT (p : Nat) : Nat := 0x901018 + 0x100 * p
def R.CLIENT_PROT_STATUS (p : Nat) : Nat := 0x90101C + 0x100 * p
def R.CLIENT_ERR (p : Nat) : Nat := 0x901020 + 0x100 * p
def R.CLIENT_VIOLATION (p : Nat) : Nat := 0x901028 + 0x100 * p
def R.CLIENT_IN_FRAMES_LO (p : Nat) : Nat := 0x901040 + 0x100 * p
def R.CLIENT_IN_FRAMES_HI (p : Nat) : Nat := 0x901044 + 0x100 * p
def R.CLIENT_IN_FCS_ERR_LO (p : Nat) : Nat := 0x901048 + 0x100 * p
def R.CLIENT_IN_FCS_ERR_HI (p : Nat) : Nat := 0x90104C + 0x100 * p
def R.CLIENT_RS_CORR_LO (p : Nat) : Nat := 0x901050 + 0x100 * p
def R.CLIENT_RS_CORR_HI (p : Nat) : Nat := 0x901054 + 0x100 * p
def R.CLIENT_RS_UNCORR_LO (p : Nat) : Nat := 0x901058 + 0x100 * p
def R.CLIENT_RS_UNCORR_HI (p : Nat) : Nat := 0x90105C + 0x100 * p
def R.CLIENT_OUT_FRAMES_LO (p : Nat) : Nat := 0x901060 + 0x100 * p
def R.CLIENT_OUT_FRAMES_HI (p : Nat) : Nat := 0x901064 + 0x100 * p
def R.CLIENT_OUT_ERR_LO (p : Nat) : Nat := 0x901068 + 0x100 * p
def R.CLIENT_OUT_ERR_HI (p : Nat) : Nat := 0x90106C + 0x100 * p
def R.TIME_ID : Nat := 0xA00000
def R.TIME_INT_STATUS : Nat := 0xA00004
def R.TIME_INT_ENABLE : Nat := 0xA00008
def R.TIME_INT_SET : Nat := 0xA0000C
def R.TIME_STATUS : Nat := 0xA00010
def R.TIME_CTRL : Nat := 0xA00014
def R.TIME_SERVO : Nat := 0xA00018
def R.TIME_NOW_0 : Nat := 0xA00020
def R.TIME_NOW_1 : Nat := 0xA00024
def R.TIME_NOW_2 : Nat := 0xA00028
def R.TIME_NOW_3 : Nat := 0xA0002C
def R.TIME_SET_0 : Nat := 0xA00030
def R.TIME_SET_1 : Nat := 0xA00034
def R.TIME_SET_2 : Nat := 0xA00038
def R.TIME_SET_3 : Nat := 0xA0003C
def R.TIME_ADJ_LO : Nat := 0xA00040
def R.TIME_ADJ_HI : Nat := 0xA00044
def R.TIME_ADJ_CTRL : Nat := 0xA00048
def R.TIME_ADJ_REMAIN : Nat := 0xA0004C
def R.TIME_FREQ : Nat := 0xA00050
def R.TIME_FREQ_APPLIED : Nat := 0xA00054
def R.TIME_LINE_A_TX_EXT : Nat := 0xA00060
def R.TIME_LINE_A_RX_EXT : Nat := 0xA00064
def R.TIME_LINE_B_TX_EXT : Nat := 0xA00068
def R.TIME_LINE_B_RX_EXT : Nat := 0xA0006C
def R.TIME_TT_OFFSET : Nat := 0xA00070
def R.TIME_TT_DELAY : Nat := 0xA00074
def R.TIME_ASYMMETRY : Nat := 0xA00078
def R.TIME_TT_STATUS : Nat := 0xA0007C
def R.TIME_PORT_CTRL (p : Nat) : Nat := 0xA01000 + 0x20 * p
def R.TIME_PORT_IN_LAT (p : Nat) : Nat := 0xA01004 + 0x20 * p
def R.TIME_PORT_OUT_LAT (p : Nat) : Nat := 0xA01008 + 0x20 * p
def R.TIME_PORT_CORRECTED (p : Nat) : Nat := 0xA0100C + 0x20 * p
def R.TIME_PORT_FAULTS (p : Nat) : Nat := 0xA01010 + 0x20 * p
def R.TIME_PORT_FIELD (p : Nat) : Nat := 0xA01014 + 0x20 * p
def R.TP_CTRL (n : Nat) : Nat := 0xA02000 + 0x40 * n
def R.TP_START_0 (n : Nat) : Nat := 0xA02010 + 0x40 * n
def R.TP_START_1 (n : Nat) : Nat := 0xA02014 + 0x40 * n
def R.TP_START_2 (n : Nat) : Nat := 0xA02018 + 0x40 * n
def R.TP_START_3 (n : Nat) : Nat := 0xA0201C + 0x40 * n
def R.TP_PERIOD (n : Nat) : Nat := 0xA02020 + 0x40 * n
def R.TP_WIDTH (n : Nat) : Nat := 0xA02024 + 0x40 * n
def R.TP_DELAY (n : Nat) : Nat := 0xA02028 + 0x40 * n
def R.TC_CTRL (m : Nat) : Nat := 0xA03000 + 0x40 * m
def R.TC_CAP_0 (m : Nat) : Nat := 0xA03010 + 0x40 * m
def R.TC_CAP_1 (m : Nat) : Nat := 0xA03014 + 0x40 * m
def R.TC_CAP_2 (m : Nat) : Nat := 0xA03018 + 0x40 * m
def R.TC_CAP_3 (m : Nat) : Nat := 0xA0301C + 0x40 * m
def R.TC_DELAY (m : Nat) : Nat := 0xA03020 + 0x40 * m
def R.HEADLAND_ID : Nat := 0xB00000
def R.HEADLAND_INT_STATUS : Nat := 0xB00004
def R.HEADLAND_INT_ENABLE : Nat := 0xB00008
def R.HEADLAND_INT_SET : Nat := 0xB0000C
def R.HEADLAND_RX_CFG : Nat := 0xB00010
def R.HEADLAND_SYNC_WORD : Nat := 0xB00014
def R.HEADLAND_IN_CFG : Nat := 0xB00018
def R.HEADLAND_DC_LEVEL : Nat := 0xB0001C
def R.HEADLAND_IN_DET : Nat := 0xB00020
def R.HEADLAND_DET_CFG : Nat := 0xB00024
def R.HEADLAND_BEACON : Nat := 0xB00028
def R.HEADLAND_IN_CLIP : Nat := 0xB0002C
def R.HEADLAND_TX_CTRL : Nat := 0xB00040
def R.HEADLAND_TX_DATA (k : Nat) : Nat := 0xB00044 + 0x4 * k
def R.HEADLAND_TX_COUNT : Nat := 0xB00080
def R.HEADLAND_TX_STATUS : Nat := 0xB00084
def R.HEADLAND_CHAIN_CFG (k : Nat) : Nat := 0xB01000 + 0x40 * k
def R.HEADLAND_CHAIN_STATUS (k : Nat) : Nat := 0xB01004 + 0x40 * k
def R.HEADLAND_CHAIN_APPLIED (k : Nat) : Nat := 0xB01008 + 0x40 * k
def R.HEADLAND_CHAIN_SAT (k : Nat) : Nat := 0xB0100C + 0x40 * k
def R.HEADLAND_CHAIN_RX_COUNT (k : Nat) : Nat := 0xB01010 + 0x40 * k
def R.HEADLAND_CHAIN_CAPTURE (k : Nat) : Nat := 0xB01014 + 0x40 * k
def R.HEADLAND_RXQ_HEAD0 : Nat := 0xB02000
def R.HEADLAND_RXQ_HEAD1 : Nat := 0xB02004
def R.HEADLAND_RXQ_CTRL : Nat := 0xB02008
def R.HEADLAND_RXQ_DATA (k : Nat) : Nat := 0xB02010 + 0x4 * k
def R.HKADC_ID : Nat := 0xC00000
def R.HKADC_INT_STATUS : Nat := 0xC00004
def R.HKADC_INT_ENABLE : Nat := 0xC00008
def R.HKADC_INT_SET : Nat := 0xC0000C
def R.HKADC_SEQ_CTRL : Nat := 0xC00010
def R.HKADC_SEQ_STATUS : Nat := 0xC00014
def R.HKADC_INJ_CTRL : Nat := 0xC00020
def R.HKADC_INJ_RESULT : Nat := 0xC00024
def R.HKADC_COUNT : Nat := 0xC00028
def R.HKADC_CAL_CTRL : Nat := 0xC00030
def R.HKADC_CAL_TARGET : Nat := 0xC00034
def R.HKADC_TESTDAC : Nat := 0xC00040
def R.HKADC_DIAG : Nat := 0xC00044
def R.HKADC_ENTRY (e : Nat) : Nat := 0xC00100 + 0x4 * e
def R.HKADC_RESULT (e : Nat) : Nat := 0xC00200 + 0x4 * e
def R.HKADC_CAL_OFS (j : Nat) : Nat := 0xC00400 + 0x8 * j
def R.HKADC_CAL_G (j : Nat) : Nat := 0xC00404 + 0x8 * j
def R.PDAC_ID : Nat := 0xC80000
def R.PDAC_INT_STATUS : Nat := 0xC80004
def R.PDAC_INT_ENABLE : Nat := 0xC80008
def R.PDAC_INT_SET : Nat := 0xC8000C
def R.PDAC_GLOBAL : Nat := 0xC80010
def R.PDAC_OT_STATUS : Nat := 0xC80014
def R.PDAC_SINE_FTW (g : Nat) : Nat := 0xC80040 + 0x10 * g
def R.PDAC_SINE_AMP (g : Nat) : Nat := 0xC80044 + 0x10 * g
def R.PDAC_SINE_PHASE (g : Nat) : Nat := 0xC80048 + 0x10 * g
def R.PDAC_CH_CFG (k : Nat) : Nat := 0xC80100 + 0x20 * k
def R.PDAC_CH_CODE (k : Nat) : Nat := 0xC80104 + 0x20 * k
def R.PDAC_CH_SAFE (k : Nat) : Nat := 0xC80108 + 0x20 * k
def R.PDAC_CH_QUEUE (k : Nat) : Nat := 0xC8010C + 0x20 * k
def R.PDAC_CH_CLOCK (k : Nat) : Nat := 0xC80110 + 0x20 * k
def R.PDAC_CH_COUNT (k : Nat) : Nat := 0xC80114 + 0x20 * k
def R.PDAC_CH_SLEW (d : Nat) : Nat := 0xC80318 + 0x20 * d
def R.LOOP_ID : Nat := 0xD00000
def R.LOOP_INT_STATUS : Nat := 0xD00004
def R.LOOP_INT_ENABLE : Nat := 0xD00008
def R.LOOP_INT_SET : Nat := 0xD0000C
def R.LOOP_FRAME : Nat := 0xD00010
def R.LOOP_ENGINE_LOAD : Nat := 0xD00014
def R.LOOP_TRACE_CTRL (b : Nat) : Nat := 0xD00100 + 0x10 * b
def R.LOOP_TRACE_STATUS (b : Nat) : Nat := 0xD00104 + 0x10 * b
def R.LOOP_CTRL (n : Nat) : Nat := 0xD01000 + 0x100 * n
def R.LOOP_INPUT (n : Nat) : Nat := 0xD01004 + 0x100 * n
def R.LOOP_STALE (n : Nat) : Nat := 0xD01008 + 0x100 * n
def R.LOOP_PLAUS (n : Nat) : Nat := 0xD0100C + 0x100 * n
def R.LOOP_FE (n : Nat) : Nat := 0xD01010 + 0x100 * n
def R.LOOP_MAN_OUT (n : Nat) : Nat := 0xD01014 + 0x100 * n
def R.LOOP_P_LAW (n : Nat) (x : Nat) : Nat := 0xD01020 + 0x100 * n + 0x20 * x
def R.LOOP_P_SETPOINT (n : Nat) (x : Nat) : Nat := 0xD01024 + 0x100 * n + 0x20 * x
def R.LOOP_P_KP (n : Nat) (x : Nat) : Nat := 0xD01028 + 0x100 * n + 0x20 * x
def R.LOOP_P_KI (n : Nat) (x : Nat) : Nat := 0xD0102C + 0x100 * n + 0x20 * x
def R.LOOP_P_KD_SCALE (n : Nat) (x : Nat) : Nat := 0xD01030 + 0x100 * n + 0x20 * x
def R.LOOP_P_OFFSET (n : Nat) (x : Nat) : Nat := 0xD01034 + 0x100 * n + 0x20 * x
def R.LOOP_P_OUT_LIM (n : Nat) (x : Nat) : Nat := 0xD01038 + 0x100 * n + 0x20 * x
def R.LOOP_STATUS (n : Nat) : Nat := 0xD01080 + 0x100 * n
def R.LOOP_OUT (n : Nat) : Nat := 0xD01084 + 0x100 * n
def R.LOOP_ERROR (n : Nat) : Nat := 0xD01088 + 0x100 * n
def R.LOOP_INTEG (n : Nat) : Nat := 0xD0108C + 0x100 * n
def R.LOOP_FLAGS (n : Nat) : Nat := 0xD01090 + 0x100 * n
def R.LOOP_FLAG_ENABLE (n : Nat) : Nat := 0xD01094 + 0x100 * n
def R.LOOP_COUNT (n : Nat) : Nat := 0xD01098 + 0x100 * n
def R.LOOP_TRACE_DATA (b : Nat) (w : Nat) : Nat := 0xD08000 + 0x4000 * b + 0x4 * w
def R.MEM_ID : Nat := 0xE00000
def R.MEM_INT_STATUS : Nat := 0xE00004
def R.MEM_INT_ENABLE : Nat := 0xE00008
def R.MEM_INT_SET : Nat := 0xE0000C
def R.MEM_HARROW_CTRL : Nat := 0xE00010
def R.MEM_HARROW_LAP : Nat := 0xE00014
def R.MEM_LAST_CE : Nat := 0xE00020
def R.MEM_LAST_UE : Nat := 0xE00024
def R.MEM_FLIP_DATA_LO : Nat := 0xE00030
def R.MEM_FLIP_DATA_HI : Nat := 0xE00034
def R.MEM_FLIP_CTRL : Nat := 0xE00038
def R.MEM_FLIP_ADDR : Nat := 0xE0003C
def R.MEM_BUCKET (r : Nat) : Nat := 0xE00100 + 0x10 * r
def R.MEM_CE (r : Nat) : Nat := 0xE00104 + 0x10 * r
def R.MEM_UE (r : Nat) : Nat := 0xE00108 + 0x10 * r
def R.MEM_HARROW (r : Nat) : Nat := 0xE0010C + 0x10 * r
def R.CXLCTL_ID : Nat := 0xE80000
def R.CXLCTL_INT_STATUS : Nat := 0xE80004
def R.CXLCTL_INT_ENABLE : Nat := 0xE80008
def R.CXLCTL_INT_SET : Nat := 0xE8000C
def R.CXLCTL_LINK : Nat := 0xE80010
def R.CXLCTL_LINK_CTRL : Nat := 0xE80014
def R.CXLCTL_WIN_BASE : Nat := 0xE80020
def R.CXLCTL_WIN_SIZE : Nat := 0xE80024
def R.CXLCTL_WIN_CMD : Nat := 0xE80028
def R.CXLCTL_WIN_EPOCH : Nat := 0xE8002C
def R.CXLCTL_WIN_COUNT : Nat := 0xE80030
def R.CXLCTL_VIOLATION : Nat := 0xE80034
def R.CXLCTL_LINK_COUNT : Nat := 0xE80038
def R.SEC_ID : Nat := 0xF00000
def R.SEC_INT_STATUS : Nat := 0xF00004
def R.SEC_INT_ENABLE : Nat := 0xF00008
def R.SEC_INT_SET : Nat := 0xF0000C
def R.SEC_LC : Nat := 0xF00010
def R.SEC_BOOT : Nat := 0xF00014
def R.SEC_HEDGE_VERSION : Nat := 0xF00018
def R.SEC_PLOUGH_VERSION : Nat := 0xF0001C
def R.SEC_SVN : Nat := 0xF00020
def R.SEC_KEYS : Nat := 0xF00024
def R.SEC_SESSION_CFG : Nat := 0xF00030
def R.SEC_RWS_DROPPED : Nat := 0xF00034
def R.SEC_SESSION (p : Nat) : Nat := 0xF00040 + 0x4 * p
def R.SEC_LOCKOUT (r : Nat) : Nat := 0xF00050 + 0x4 * r
def R.SEC_FW_STATUS : Nat := 0xF00060
def R.SEC_VIOLATION : Nat := 0xF00070
def R.SEC_WMP_COUNT : Nat := 0xF00074
def R.CPU_ID : Nat := 0xF80000
def R.CPU_INT_STATUS : Nat := 0xF80004
def R.CPU_INT_ENABLE : Nat := 0xF80008
def R.CPU_INT_SET : Nat := 0xF8000C
def R.CPU_STATUS : Nat := 0xF80010
def R.CPU_CTRL : Nat := 0xF80014
def R.CPU_HEARTBEAT : Nat := 0xF80018
def R.CPU_COUNT : Nat := 0xF8001C
def R.CPU_ROUTE_LO : Nat := 0xF80030
def R.CPU_ROUTE_HI : Nat := 0xF80034
def R.CPU_SWINT_SET : Nat := 0xF80038
def R.CPU_SWINT : Nat := 0xF8003C
def R.CPU_TASK (t : Nat) : Nat := 0xF80100 + 0x10 * t
def R.GLEAN_ID : Nat := 0x1000000
def R.GLEAN_INT_STATUS : Nat := 0x1000004
def R.GLEAN_INT_ENABLE : Nat := 0x1000008
def R.GLEAN_INT_SET : Nat := 0x100000C
def R.GLEAN_ARM_CTRL : Nat := 0x1000010
def R.GLEAN_XDEV : Nat := 0x1000014
def R.GLEAN_SPILL_BASE : Nat := 0x1000020
def R.GLEAN_SPILL_SIZE : Nat := 0x1000024
def R.GLEAN_SPILL_WPTR : Nat := 0x1000028
def R.GLEAN_SPILL_RPTR : Nat := 0x100002C
def R.GLEAN_CTRL (u : Nat) : Nat := 0x1001000 + 0x400 * u
def R.GLEAN_TAP (u : Nat) : Nat := 0x1001004 + 0x400 * u
def R.GLEAN_GAP (u : Nat) : Nat := 0x1001008 + 0x400 * u
def R.GLEAN_DEPTH (u : Nat) : Nat := 0x100100C + 0x400 * u
def R.GLEAN_PRE (u : Nat) : Nat := 0x1001010 + 0x400 * u
def R.GLEAN_POST (u : Nat) : Nat := 0x1001014 + 0x400 * u
def R.GLEAN_STATUS (u : Nat) : Nat := 0x1001018 + 0x400 * u
def R.GLEAN_STATE (u : Nat) : Nat := 0x100101C + 0x400 * u
def R.GLEAN_EVT (u : Nat) (k : Nat) : Nat := 0x1001020 + 0x400 * u + 0x4 * k
def R.GLEAN_CMP_MASK (u : Nat) (k : Nat) : Nat := 0x1001040 + 0x400 * u + 0x10 * k
def R.GLEAN_CMP_VALUE (u : Nat) (k : Nat) : Nat := 0x1001044 + 0x400 * u + 0x10 * k
def R.GLEAN_CMP_VALUE2 (u : Nat) (k : Nat) : Nat := 0x1001048 + 0x400 * u + 0x10 * k
def R.GLEAN_CMP_CTRL (u : Nat) (k : Nat) : Nat := 0x100104C + 0x400 * u + 0x10 * k
def R.GLEAN_STATE_S (u : Nat) (s : Nat) : Nat := 0x1001080 + 0x400 * u + 0x4 * s
def R.GLEAN_CNT_LIMIT (u : Nat) (k : Nat) : Nat := 0x10010A0 + 0x400 * u + 0x4 * k
def R.GLEAN_TMR_LIMIT (u : Nat) (k : Nat) : Nat := 0x10010A8 + 0x400 * u + 0x4 * k
def R.GLEAN_CNT (u : Nat) (k : Nat) : Nat := 0x10010B0 + 0x400 * u + 0x4 * k
def R.GLEAN_TRIG_TIME_0 (u : Nat) : Nat := 0x10010C0 + 0x400 * u
def R.GLEAN_TRIG_TIME_1 (u : Nat) : Nat := 0x10010C4 + 0x400 * u
def R.GLEAN_TRIG_TIME_2 (u : Nat) : Nat := 0x10010C8 + 0x400 * u
def R.GLEAN_TRIG_TIME_3 (u : Nat) : Nat := 0x10010CC + 0x400 * u
def R.GLEAN_TRIG_TAG (u : Nat) : Nat := 0x10010D0 + 0x400 * u
def R.GLEAN_PRE_ACTUAL (u : Nat) : Nat := 0x10010D4 + 0x400 * u
def R.GLEAN_LAST_DEAD (u : Nat) : Nat := 0x10010D8 + 0x400 * u
def R.GLEAN_COUNT (u : Nat) : Nat := 0x10010DC + 0x400 * u
def R.GLEAN_READ_PTR (u : Nat) : Nat := 0x10010E0 + 0x400 * u
def R.GLEAN_READ_DATA_LO (u : Nat) : Nat := 0x10010E8 + 0x400 * u
def R.GLEAN_READ_DATA_HI (u : Nat) : Nat := 0x10010EC + 0x400 * u
def R.GLEAN_STAT_CTRL : Nat := 0x1008000
def R.GLEAN_STAT_SRC (i : Nat) : Nat := 0x1008200 + 0x4 * i
def R.GLEAN_STAT_LO (i : Nat) : Nat := 0x1008400 + 0x8 * i
def R.GLEAN_STAT_HI (i : Nat) : Nat := 0x1008404 + 0x8 * i
def R.GLEAN_OVF_MAP (k : Nat) : Nat := 0x1009000 + 0x4 * k
def R.GLEAN_PS_CTRL (k : Nat) : Nat := 0x100A000 + 0x20 * k
def R.GLEAN_PS_PERIOD (k : Nat) : Nat := 0x100A004 + 0x20 * k
def R.GLEAN_PS_STATUS (k : Nat) : Nat := 0x100A008 + 0x20 * k
def R.GLEAN_PS_LEVEL (k : Nat) : Nat := 0x100A00C + 0x20 * k
def R.GLEAN_PS_BUF (k : Nat) (w : Nat) : Nat := 0x100C000 + 0x2000 * k + 0x4 * w
def R.PWR_ID : Nat := 0x1100000
def R.PWR_INT_STATUS : Nat := 0x1100004
def R.PWR_INT_ENABLE : Nat := 0x1100008
def R.PWR_INT_SET : Nat := 0x110000C
def R.PWR_CTRL : Nat := 0x1100010
def R.PWR_STATUS : Nat := 0x1100014
def R.PWR_PL : Nat := 0x1100018
def R.PWR_PL_VOLT : Nat := 0x110001C
def R.PWR_FAIL : Nat := 0x1100020
def R.PWR_ACCESS_DOWN_LOG : Nat := 0x1100030
def R.PWR_ACCESS_DOWN_COUNT : Nat := 0x1100034
def R.PWR_WAKE_LATCH : Nat := 0x1100040
def R.PWR_WAKE_COUNT : Nat := 0x1100044
def R.PWR_WAKE_TIMER : Nat := 0x1100048
def R.PWR_WAKE_MAP (k : Nat) : Nat := 0x1100050 + 0x4 * k
def R.PWR_AVS (p : Nat) : Nat := 0x1100070 + 0x4 * p
def R.PWR_VOTE (d : Nat) : Nat := 0x1101000 + 0x10 * d
def R.PWR_DOM_CFG (d : Nat) : Nat := 0x1101004 + 0x10 * d
def R.PWR_DOM_STATUS (d : Nat) : Nat := 0x1101008 + 0x10 * d
def R.CAL_ID : Nat := 0x1180000
def R.CAL_INT_STATUS : Nat := 0x1180004
def R.CAL_INT_ENABLE : Nat := 0x1180008
def R.CAL_INT_SET : Nat := 0x118000C
def R.CAL_CMD : Nat := 0x1180010
def R.CAL_STATUS : Nat := 0x1180014
def R.CAL_BG : Nat := 0x1180018
def R.CAL_SLOT (s : Nat) : Nat := 0x1180100 + 0x4 * s
def R.CAL_SEQ (s : Nat) : Nat := 0x1180200 + 0x4 * s
def R.BIST_ID : Nat := 0x1200000
def R.BIST_INT_STATUS : Nat := 0x1200004
def R.BIST_INT_ENABLE : Nat := 0x1200008
def R.BIST_INT_SET : Nat := 0x120000C
def R.BIST_CTRL : Nat := 0x1200010
def R.BIST_STATUS : Nat := 0x1200014
def R.BIST_FALLOW (k : Nat) : Nat := 0x1200020 + 0x4 * k
def R.BIST_FALLOW_OTHER : Nat := 0x1200030
def R.BIST_FALLOW_CORES : Nat := 0x1200034
def R.BIST_REPAIR : Nat := 0x1200038
def R.BIST_UNIT_SEL : Nat := 0x1200040
def R.BIST_UNIT_RESULT : Nat := 0x1200044
def R.BIST_FAIL_UNIT (k : Nat) : Nat := 0x1200100 + 0x8 * k
def R.BIST_FAIL_WHERE (k : Nat) : Nat := 0x1200104 + 0x8 * k
def R.FAULT_ID : Nat := 0x1280000
def R.FAULT_INT_STATUS : Nat := 0x1280004
def R.FAULT_INT_ENABLE : Nat := 0x1280008
def R.FAULT_INT_SET : Nat := 0x128000C
def R.FAULT_CTRL : Nat := 0x1280010
def R.FAULT_STATUS : Nat := 0x1280014
def R.FAULT_ENTRY_CODE (i : Nat) : Nat := 0x1281000 + 0x10 * i
def R.FAULT_ENTRY_DETAIL (i : Nat) : Nat := 0x1281004 + 0x10 * i
def R.FAULT_ENTRY_TIME_LO (i : Nat) : Nat := 0x1281008 + 0x10 * i
def R.FAULT_ENTRY_TIME_HI (i : Nat) : Nat := 0x128100C + 0x10 * i
def R.PINS_ID : Nat := 0x1300000
def R.PINS_INT_STATUS : Nat := 0x1300004
def R.PINS_INT_ENABLE : Nat := 0x1300008
def R.PINS_INT_SET : Nat := 0x130000C
def R.PINS_STRAPS : Nat := 0x1300010
def R.PINS_THERM : Nat := 0x1300014
def R.PINS_GPIO_CTRL : Nat := 0x1300020
def R.PINS_GPIO_IN : Nat := 0x1300024
def R.PINS_QUAL_CFG (q : Nat) : Nat := 0x1300100 + 0x10 * q
def R.PINS_QUAL_STATUS (q : Nat) : Nat := 0x1300104 + 0x10 * q
def R.MBX_DOORBELL : Nat := 0x4000000
def R.MBX_STATUS : Nat := 0x4000004
def R.MBX_NOTIFY_HEAD : Nat := 0x4000008
def R.MBX_NOTIFY_TAIL : Nat := 0x400000C
def R.MBX_COMMAND (w : Nat) : Nat := 0x4001000 + 0x4 * w
def R.MBX_RESPONSE (w : Nat) : Nat := 0x4002000 + 0x4 * w
def R.MBX_RING (w : Nat) : Nat := 0x4003000 + 0x4 * w
def R.MSIX_ADDR_LO (v : Nat) : Nat := 0x4008000 + 0x10 * v
def R.MSIX_ADDR_HI (v : Nat) : Nat := 0x4008004 + 0x10 * v
def R.MSIX_DATA (v : Nat) : Nat := 0x4008008 + 0x10 * v
def R.MSIX_CTRL (v : Nat) : Nat := 0x400800C + 0x10 * v
def R.MSIX_PBA (w : Nat) : Nat := 0x4009000 + 0x4 * w

/-! ### Fields -/
def F.GLOBAL_ID.PART : Fld := ⟨R.GLOBAL_ID, 31, 16⟩
def F.GLOBAL_ID.REVISION : Fld := ⟨R.GLOBAL_ID, 15, 0⟩
def F.GLOBAL_INT_STATUS.MODE_CHANGED : Fld := ⟨R.GLOBAL_INT_STATUS, 2, 2⟩
def F.GLOBAL_INT_STATUS.ACCESS_ERR_SAT : Fld := ⟨R.GLOBAL_INT_STATUS, 1, 1⟩
def F.GLOBAL_INT_STATUS.NARROW_WRITE : Fld := ⟨R.GLOBAL_INT_STATUS, 0, 0⟩
def F.GLOBAL_INT_ENABLE.BITS0 : Fld := ⟨R.GLOBAL_INT_ENABLE, 2, 0⟩
def F.GLOBAL_INT_SET.BITS0 : Fld := ⟨R.GLOBAL_INT_SET, 2, 0⟩
def F.GLOBAL_CAPABILITY.PLOUGH_CORES : Fld := ⟨R.GLOBAL_CAPABILITY, 26, 24⟩
def F.GLOBAL_CAPABILITY.FEC_B_ENGINES : Fld := ⟨R.GLOBAL_CAPABILITY, 23, 20⟩
def F.GLOBAL_CAPABILITY.FEC_A_ENGINES : Fld := ⟨R.GLOBAL_CAPABILITY, 19, 16⟩
def F.GLOBAL_CAPABILITY.ACTIVE_LIMIT : Fld := ⟨R.GLOBAL_CAPABILITY, 15, 8⟩
def F.GLOBAL_CAPABILITY.HEALTHY_FURROWS : Fld := ⟨R.GLOBAL_CAPABILITY, 7, 0⟩
def F.GLOBAL_MODE.MIN_PL : Fld := ⟨R.GLOBAL_MODE, 11, 8⟩
def F.GLOBAL_MODE.MODE : Fld := ⟨R.GLOBAL_MODE, 3, 0⟩
def F.GLOBAL_ACCESS_ERR.NARROW_WRITES : Fld := ⟨R.GLOBAL_ACCESS_ERR, 15, 0⟩
def F.GLOBAL_INT_SUMMARY_LO.BLOCK : Fld := ⟨R.GLOBAL_INT_SUMMARY_LO, 31, 0⟩
def F.GLOBAL_INT_SUMMARY_HI.VECTOR : Fld := ⟨R.GLOBAL_INT_SUMMARY_HI, 31, 16⟩
def F.GLOBAL_INT_SUMMARY_HI.BLOCK : Fld := ⟨R.GLOBAL_INT_SUMMARY_HI, 6, 0⟩
def F.GLOBAL_INTN_ENABLE_LO.BLOCK : Fld := ⟨R.GLOBAL_INTN_ENABLE_LO, 31, 0⟩
def F.GLOBAL_INTN_ENABLE_HI.VECTOR : Fld := ⟨R.GLOBAL_INTN_ENABLE_HI, 31, 16⟩
def F.GLOBAL_INTN_ENABLE_HI.BLOCK : Fld := ⟨R.GLOBAL_INTN_ENABLE_HI, 6, 0⟩
def F.GLOBAL_SCRATCH.VALUE : Fld := ⟨R.GLOBAL_SCRATCH, 31, 0⟩
def F.PLAN_ID.BLOCK : Fld := ⟨R.PLAN_ID, 15, 8⟩
def F.PLAN_ID.VERSION : Fld := ⟨R.PLAN_ID, 7, 0⟩
def F.PLAN_INT_STATUS.BOOT_FALLBACK : Fld := ⟨R.PLAN_INT_STATUS, 8, 8⟩
def F.PLAN_INT_STATUS.SWITCH_ABORTED : Fld := ⟨R.PLAN_INT_STATUS, 7, 7⟩
def F.PLAN_INT_STATUS.SWITCH_DONE : Fld := ⟨R.PLAN_INT_STATUS, 6, 6⟩
def F.PLAN_INT_STATUS.SWITCH_ARMED : Fld := ⟨R.PLAN_INT_STATUS, 5, 5⟩
def F.PLAN_INT_STATUS.BUILD_READY : Fld := ⟨R.PLAN_INT_STATUS, 4, 4⟩
def F.PLAN_INT_STATUS.APPLIED : Fld := ⟨R.PLAN_INT_STATUS, 3, 3⟩
def F.PLAN_INT_STATUS.REJECTED : Fld := ⟨R.PLAN_INT_STATUS, 2, 2⟩
def F.PLAN_INT_STATUS.VALID : Fld := ⟨R.PLAN_INT_STATUS, 1, 1⟩
def F.PLAN_INT_STATUS.LOAD_DONE : Fld := ⟨R.PLAN_INT_STATUS, 0, 0⟩
def F.PLAN_INT_ENABLE.BITS0 : Fld := ⟨R.PLAN_INT_ENABLE, 8, 0⟩
def F.PLAN_INT_SET.BITS0 : Fld := ⟨R.PLAN_INT_SET, 8, 0⟩
def F.PLAN_COMMAND.SLOT : Fld := ⟨R.PLAN_COMMAND, 7, 4⟩
def F.PLAN_COMMAND.CMD : Fld := ⟨R.PLAN_COMMAND, 3, 0⟩
def F.PLAN_SRC_OFFSET.OFFSET : Fld := ⟨R.PLAN_SRC_OFFSET, 23, 0⟩
def F.PLAN_SRC_LENGTH.LENGTH : Fld := ⟨R.PLAN_SRC_LENGTH, 20, 0⟩
def F.PLAN_STATUS.RECORD : Fld := ⟨R.PLAN_STATUS, 31, 16⟩
def F.PLAN_STATUS.REASON : Fld := ⟨R.PLAN_STATUS, 15, 8⟩
def F.PLAN_STATUS.STATE : Fld := ⟨R.PLAN_STATUS, 2, 0⟩
def F.PLAN_RUN_EPOCH.EPOCH : Fld := ⟨R.PLAN_RUN_EPOCH, 31, 0⟩
def F.PLAN_BUF_EPOCH.EPOCH : Fld := ⟨R.PLAN_BUF_EPOCH, 31, 0⟩
def F.PLAN_FORMAT.FRAME_MAJOR_MAX : Fld := ⟨R.PLAN_FORMAT, 31, 24⟩
def F.PLAN_FORMAT.FRAME_MAJOR_MIN : Fld := ⟨R.PLAN_FORMAT, 23, 16⟩
def F.PLAN_FORMAT.PLAN_MAJOR : Fld := ⟨R.PLAN_FORMAT, 15, 8⟩
def F.PLAN_FORMAT.PLAN_MINOR : Fld := ⟨R.PLAN_FORMAT, 7, 0⟩
def F.PLAN_SWITCH.SWITCH_MF : Fld := ⟨R.PLAN_SWITCH, 31, 8⟩
def F.PLAN_SWITCH.HSTATE : Fld := ⟨R.PLAN_SWITCH, 2, 0⟩
def F.PLAN_BOOT.NO_PLAN : Fld := ⟨R.PLAN_BOOT, 8, 8⟩
def F.PLAN_BOOT.LAST_BOOT_SLOT : Fld := ⟨R.PLAN_BOOT, 5, 4⟩
def F.PLAN_BOOT.BOOT_SLOT : Fld := ⟨R.PLAN_BOOT, 0, 0⟩
def F.PLAN_FURROWS.HEADROOM : Fld := ⟨R.PLAN_FURROWS, 23, 16⟩
def F.PLAN_FURROWS.BUILDING : Fld := ⟨R.PLAN_FURROWS, 15, 8⟩
def F.PLAN_FURROWS.RUNNING : Fld := ⟨R.PLAN_FURROWS, 7, 0⟩
def F.PLAN_IGNORED.COMMANDS : Fld := ⟨R.PLAN_IGNORED, 15, 0⟩
def F.FURROW_ID.BLOCK : Fld := ⟨R.FURROW_ID, 15, 8⟩
def F.FURROW_ID.VERSION : Fld := ⟨R.FURROW_ID, 7, 0⟩
def F.FURROW_INT_STATUS.BITS24 : Fld := ⟨R.FURROW_INT_STATUS, 29, 24⟩
def F.FURROW_INT_STATUS.BITS0 : Fld := ⟨R.FURROW_INT_STATUS, 21, 0⟩
def F.FURROW_INT_ENABLE.BITS24 : Fld := ⟨R.FURROW_INT_ENABLE, 29, 24⟩
def F.FURROW_INT_ENABLE.BITS0 : Fld := ⟨R.FURROW_INT_ENABLE, 21, 0⟩
def F.FURROW_INT_SET.BITS24 : Fld := ⟨R.FURROW_INT_SET, 29, 24⟩
def F.FURROW_INT_SET.BITS0 : Fld := ⟨R.FURROW_INT_SET, 21, 0⟩
def F.FURROW_RX_CTRL.HOLD_ACQ (c : Carrier) : Fld := ⟨(R.FURROW_RX_CTRL c), 1, 1⟩
def F.FURROW_RX_CTRL.RESTART (c : Carrier) : Fld := ⟨(R.FURROW_RX_CTRL c), 0, 0⟩
def F.FURROW_RX_STATE.PILOT_LOCK (c : Carrier) : Fld := ⟨(R.FURROW_RX_STATE c), 31, 16⟩
def F.FURROW_RX_STATE.RETRIES (c : Carrier) : Fld := ⟨(R.FURROW_RX_STATE c), 15, 8⟩
def F.FURROW_RX_STATE.STATE (c : Carrier) : Fld := ⟨(R.FURROW_RX_STATE c), 3, 0⟩
def F.FURROW_RX_ACQ_TIME.VALUE (c : Carrier) : Fld := ⟨(R.FURROW_RX_ACQ_TIME c), 31, 0⟩
def F.FURROW_RX_CD_CTRL.SPAN (c : Carrier) : Fld := ⟨(R.FURROW_RX_CD_CTRL c), 24, 16⟩
def F.FURROW_RX_CD_CTRL.MODE (c : Carrier) : Fld := ⟨(R.FURROW_RX_CD_CTRL c), 1, 0⟩
def F.FURROW_RX_CD_SET.VALUE (c : Carrier) : Fld := ⟨(R.FURROW_RX_CD_SET c), 31, 0⟩
def F.FURROW_RX_CD_EST.VALUE (c : Carrier) : Fld := ⟨(R.FURROW_RX_CD_EST c), 31, 0⟩
def F.FURROW_RX_NLC_CTRL.REVERT_PCT (c : Carrier) : Fld := ⟨(R.FURROW_RX_NLC_CTRL c), 31, 24⟩
def F.FURROW_RX_NLC_CTRL.ACTIVE_BANK (c : Carrier) : Fld := ⟨(R.FURROW_RX_NLC_CTRL c), 8, 8⟩
def F.FURROW_RX_NLC_CTRL.EVAL (c : Carrier) : Fld := ⟨(R.FURROW_RX_NLC_CTRL c), 7, 7⟩
def F.FURROW_RX_NLC_CTRL.SWAP_PENDING (c : Carrier) : Fld := ⟨(R.FURROW_RX_NLC_CTRL c), 6, 6⟩
def F.FURROW_RX_NLC_CTRL.PAIR (c : Carrier) : Fld := ⟨(R.FURROW_RX_NLC_CTRL c), 4, 4⟩
def F.FURROW_RX_NLC_CTRL.BYPASS (c : Carrier) : Fld := ⟨(R.FURROW_RX_NLC_CTRL c), 1, 1⟩
def F.FURROW_RX_NLC_CTRL.SWAP (c : Carrier) : Fld := ⟨(R.FURROW_RX_NLC_CTRL c), 0, 0⟩
def F.FURROW_RX_NLC_TERMS.ACTIVE (c : Carrier) : Fld := ⟨(R.FURROW_RX_NLC_TERMS c), 27, 16⟩
def F.FURROW_RX_NLC_TERMS.SHADOW (c : Carrier) : Fld := ⟨(R.FURROW_RX_NLC_TERMS c), 11, 0⟩
def F.FURROW_RX_NLC_PARAM.XDELAY (c : Carrier) : Fld := ⟨(R.FURROW_RX_NLC_PARAM c), 25, 16⟩
def F.FURROW_RX_NLC_PARAM.GAIN (c : Carrier) : Fld := ⟨(R.FURROW_RX_NLC_PARAM c), 15, 0⟩
def F.FURROW_RX_NLC_STATUS.REVERTS (c : Carrier) : Fld := ⟨(R.FURROW_RX_NLC_STATUS c), 31, 24⟩
def F.FURROW_RX_NLC_STATUS.SWAPS (c : Carrier) : Fld := ⟨(R.FURROW_RX_NLC_STATUS c), 23, 16⟩
def F.FURROW_RX_NLC_STATUS.WR_DROPPED (c : Carrier) : Fld := ⟨(R.FURROW_RX_NLC_STATUS c), 15, 0⟩
def F.FURROW_RX_CLK_CTRL.FREEZE (c : Carrier) : Fld := ⟨(R.FURROW_RX_CLK_CTRL c), 8, 8⟩
def F.FURROW_RX_CLK_CTRL.BW (c : Carrier) : Fld := ⟨(R.FURROW_RX_CLK_CTRL c), 2, 0⟩
def F.FURROW_RX_CLK_OFFSET.VALUE (c : Carrier) : Fld := ⟨(R.FURROW_RX_CLK_OFFSET c), 31, 0⟩
def F.FURROW_RX_CPR_CTRL.FO_RANGE (c : Carrier) : Fld := ⟨(R.FURROW_RX_CPR_CTRL c), 18, 16⟩
def F.FURROW_RX_CPR_CTRL.DD_MODE (c : Carrier) : Fld := ⟨(R.FURROW_RX_CPR_CTRL c), 8, 8⟩
def F.FURROW_RX_CPR_CTRL.PILOT_AVG (c : Carrier) : Fld := ⟨(R.FURROW_RX_CPR_CTRL c), 5, 0⟩
def F.FURROW_RX_FO_EST.VALUE (c : Carrier) : Fld := ⟨(R.FURROW_RX_FO_EST c), 31, 0⟩
def F.FURROW_RX_EST_CTRL.SEQ (c : Carrier) : Fld := ⟨(R.FURROW_RX_EST_CTRL c), 31, 16⟩
def F.FURROW_RX_EST_CTRL.HOLD (c : Carrier) : Fld := ⟨(R.FURROW_RX_EST_CTRL c), 8, 8⟩
def F.FURROW_RX_EST_CTRL.AVG_MF (c : Carrier) : Fld := ⟨(R.FURROW_RX_EST_CTRL c), 5, 0⟩
def F.FURROW_RX_SNR.VALID (c : Carrier) : Fld := ⟨(R.FURROW_RX_SNR c), 31, 31⟩
def F.FURROW_RX_SNR.VALUE (c : Carrier) : Fld := ⟨(R.FURROW_RX_SNR c), 15, 0⟩
def F.FURROW_RX_OSNR.VALID (c : Carrier) : Fld := ⟨(R.FURROW_RX_OSNR c), 31, 31⟩
def F.FURROW_RX_OSNR.VALUE (c : Carrier) : Fld := ⟨(R.FURROW_RX_OSNR c), 15, 0⟩
def F.FURROW_RX_SNR_TRX.VALUE (c : Carrier) : Fld := ⟨(R.FURROW_RX_SNR_TRX c), 15, 0⟩
def F.FURROW_RX_DGD.PEAK (c : Carrier) : Fld := ⟨(R.FURROW_RX_DGD c), 31, 16⟩
def F.FURROW_RX_DGD.MEAN (c : Carrier) : Fld := ⟨(R.FURROW_RX_DGD c), 15, 0⟩
def F.FURROW_RX_PDL.VALID (c : Carrier) : Fld := ⟨(R.FURROW_RX_PDL c), 31, 31⟩
def F.FURROW_RX_PDL.VALUE (c : Carrier) : Fld := ⟨(R.FURROW_RX_PDL c), 15, 0⟩
def F.FURROW_RX_Q.VALID (c : Carrier) : Fld := ⟨(R.FURROW_RX_Q c), 31, 31⟩
def F.FURROW_RX_Q.VALUE (c : Carrier) : Fld := ⟨(R.FURROW_RX_Q c), 15, 0⟩
def F.FURROW_RX_SLIPS.UNRESOLVED (c : Carrier) : Fld := ⟨(R.FURROW_RX_SLIPS c), 31, 16⟩
def F.FURROW_RX_SLIPS.CORRECTED (c : Carrier) : Fld := ⟨(R.FURROW_RX_SLIPS c), 15, 0⟩
def F.FURROW_RX_SKEW_XI.SKEW (c : Carrier) : Fld := ⟨(R.FURROW_RX_SKEW_XI c), 15, 0⟩
def F.FURROW_RX_SKEW_XQ.SKEW (c : Carrier) : Fld := ⟨(R.FURROW_RX_SKEW_XQ c), 15, 0⟩
def F.FURROW_RX_SKEW_YI.SKEW (c : Carrier) : Fld := ⟨(R.FURROW_RX_SKEW_YI c), 15, 0⟩
def F.FURROW_RX_SKEW_YQ.SKEW (c : Carrier) : Fld := ⟨(R.FURROW_RX_SKEW_YQ c), 15, 0⟩
def F.FURROW_RX_DEMAP_CTRL.LLR_SCALE (c : Carrier) : Fld := ⟨(R.FURROW_RX_DEMAP_CTRL c), 15, 8⟩
def F.FURROW_RX_DEMAP_CTRL.METRIC (c : Carrier) : Fld := ⟨(R.FURROW_RX_DEMAP_CTRL c), 0, 0⟩
def F.FURROW_RX_LATENCY.VALUE (c : Carrier) : Fld := ⟨(R.FURROW_RX_LATENCY c), 31, 0⟩
def F.FURROW_RX_SC_EQ_CTRL.MU_ACQ (c : Carrier) (s : Nat) : Fld := ⟨(R.FURROW_RX_SC_EQ_CTRL c s), 28, 24⟩
def F.FURROW_RX_SC_EQ_CTRL.MU_TRACK (c : Carrier) (s : Nat) : Fld := ⟨(R.FURROW_RX_SC_EQ_CTRL c s), 20, 16⟩
def F.FURROW_RX_SC_EQ_CTRL.MODE (c : Carrier) (s : Nat) : Fld := ⟨(R.FURROW_RX_SC_EQ_CTRL c s), 10, 8⟩
def F.FURROW_RX_SC_EQ_CTRL.TAPS (c : Carrier) (s : Nat) : Fld := ⟨(R.FURROW_RX_SC_EQ_CTRL c s), 5, 0⟩
def F.FURROW_RX_SC_TAP_CMD.BUSY (c : Carrier) (s : Nat) : Fld := ⟨(R.FURROW_RX_SC_TAP_CMD c s), 8, 8⟩
def F.FURROW_RX_SC_TAP_CMD.LOAD (c : Carrier) (s : Nat) : Fld := ⟨(R.FURROW_RX_SC_TAP_CMD c s), 1, 1⟩
def F.FURROW_RX_SC_TAP_CMD.SNAPSHOT (c : Carrier) (s : Nat) : Fld := ⟨(R.FURROW_RX_SC_TAP_CMD c s), 0, 0⟩
def F.FURROW_RX_SC_SNR.SNR_Y (c : Carrier) (s : Nat) : Fld := ⟨(R.FURROW_RX_SC_SNR c s), 31, 16⟩
def F.FURROW_RX_SC_SNR.SNR_X (c : Carrier) (s : Nat) : Fld := ⟨(R.FURROW_RX_SC_SNR c s), 15, 0⟩
def F.FURROW_RX_SC_STATUS.SINGULAR (c : Carrier) (s : Nat) : Fld := ⟨(R.FURROW_RX_SC_STATUS c s), 31, 24⟩
def F.FURROW_RX_SC_STATUS.CMD_IGNORED (c : Carrier) (s : Nat) : Fld := ⟨(R.FURROW_RX_SC_STATUS c s), 23, 16⟩
def F.FURROW_RX_SC_STATUS.CONVERGED (c : Carrier) (s : Nat) : Fld := ⟨(R.FURROW_RX_SC_STATUS c s), 3, 3⟩
def F.FURROW_RX_SC_STATUS.PILOT_LOCK (c : Carrier) (s : Nat) : Fld := ⟨(R.FURROW_RX_SC_STATUS c s), 2, 2⟩
def F.FURROW_RX_NLC_SHADOW.WORD (c : Carrier) (w : Nat) : Fld := ⟨(R.FURROW_RX_NLC_SHADOW c w), 31, 0⟩
def F.FURROW_RX_NLC_ACTIVE.WORD (c : Carrier) (w : Nat) : Fld := ⟨(R.FURROW_RX_NLC_ACTIVE c w), 31, 0⟩
def F.FURROW_TX_CTRL.RESP_BYPASS (c : Carrier) : Fld := ⟨(R.FURROW_TX_CTRL c), 2, 2⟩
def F.FURROW_TX_CTRL.HL_INJECT (c : Carrier) : Fld := ⟨(R.FURROW_TX_CTRL c), 1, 1⟩
def F.FURROW_TX_CTRL.PD_BYPASS (c : Carrier) : Fld := ⟨(R.FURROW_TX_CTRL c), 0, 0⟩
def F.FURROW_TX_ROLL_OFF.PLAN (c : Carrier) : Fld := ⟨(R.FURROW_TX_ROLL_OFF c), 25, 16⟩
def F.FURROW_TX_ROLL_OFF.EFFECTIVE (c : Carrier) : Fld := ⟨(R.FURROW_TX_ROLL_OFF c), 9, 0⟩
def F.FURROW_TX_MOD.CLIP_RATIO (c : Carrier) : Fld := ⟨(R.FURROW_TX_MOD c), 23, 16⟩
def F.FURROW_TX_MOD.MOD_INDEX (c : Carrier) : Fld := ⟨(R.FURROW_TX_MOD c), 8, 0⟩
def F.FURROW_TX_RESP.DROPPED (c : Carrier) : Fld := ⟨(R.FURROW_TX_RESP c), 31, 16⟩
def F.FURROW_TX_RESP.BOOST (c : Carrier) : Fld := ⟨(R.FURROW_TX_RESP c), 15, 8⟩
def F.FURROW_TX_RESP.BUSY (c : Carrier) : Fld := ⟨(R.FURROW_TX_RESP c), 4, 4⟩
def F.FURROW_TX_RESP.LOAD (c : Carrier) : Fld := ⟨(R.FURROW_TX_RESP c), 0, 0⟩
def F.FURROW_TX_STEP.STEP_MF (c : Carrier) : Fld := ⟨(R.FURROW_TX_STEP c), 31, 8⟩
def F.FURROW_TX_STEP.REASON (c : Carrier) : Fld := ⟨(R.FURROW_TX_STEP c), 7, 5⟩
def F.FURROW_TX_STEP.ARMED (c : Carrier) : Fld := ⟨(R.FURROW_TX_STEP c), 2, 2⟩
def F.FURROW_TX_STEP.CANCEL (c : Carrier) : Fld := ⟨(R.FURROW_TX_STEP c), 1, 1⟩
def F.FURROW_TX_STEP.ARM (c : Carrier) : Fld := ⟨(R.FURROW_TX_STEP c), 0, 0⟩
def F.FURROW_TX_NET.NET_TARGET (c : Carrier) : Fld := ⟨(R.FURROW_TX_NET c), 31, 16⟩
def F.FURROW_TX_NET.NET_CURRENT (c : Carrier) : Fld := ⟨(R.FURROW_TX_NET c), 15, 0⟩
def F.FURROW_TX_SLOTS.USED (c : Carrier) : Fld := ⟨(R.FURROW_TX_SLOTS c), 22, 16⟩
def F.FURROW_TX_SLOTS.TARGET (c : Carrier) : Fld := ⟨(R.FURROW_TX_SLOTS c), 14, 8⟩
def F.FURROW_TX_SLOTS.CURRENT (c : Carrier) : Fld := ⟨(R.FURROW_TX_SLOTS c), 6, 0⟩
def F.FURROW_TX_STEP_STATUS.REFUSED (c : Carrier) : Fld := ⟨(R.FURROW_TX_STEP_STATUS c), 31, 24⟩
def F.FURROW_TX_STEP_STATUS.DONE (c : Carrier) : Fld := ⟨(R.FURROW_TX_STEP_STATUS c), 23, 16⟩
def F.FURROW_TX_STEP_STATUS.DROPPED (c : Carrier) : Fld := ⟨(R.FURROW_TX_STEP_STATUS c), 15, 0⟩
def F.FURROW_TX_IQ_X.PHASE (c : Carrier) : Fld := ⟨(R.FURROW_TX_IQ_X c), 31, 16⟩
def F.FURROW_TX_IQ_X.GAIN (c : Carrier) : Fld := ⟨(R.FURROW_TX_IQ_X c), 15, 0⟩
def F.FURROW_TX_IQ_Y.PHASE (c : Carrier) : Fld := ⟨(R.FURROW_TX_IQ_Y c), 31, 16⟩
def F.FURROW_TX_IQ_Y.GAIN (c : Carrier) : Fld := ⟨(R.FURROW_TX_IQ_Y c), 15, 0⟩
def F.FURROW_TX_SKEW_XI.SKEW (c : Carrier) : Fld := ⟨(R.FURROW_TX_SKEW_XI c), 15, 0⟩
def F.FURROW_TX_SKEW_XQ.SKEW (c : Carrier) : Fld := ⟨(R.FURROW_TX_SKEW_XQ c), 15, 0⟩
def F.FURROW_TX_SKEW_YI.SKEW (c : Carrier) : Fld := ⟨(R.FURROW_TX_SKEW_YI c), 15, 0⟩
def F.FURROW_TX_SKEW_YQ.SKEW (c : Carrier) : Fld := ⟨(R.FURROW_TX_SKEW_YQ c), 15, 0⟩
def F.FURROW_TX_HL.ACTIVE (c : Carrier) : Fld := ⟨(R.FURROW_TX_HL c), 24, 24⟩
def F.FURROW_TX_HL.RAMPING (c : Carrier) : Fld := ⟨(R.FURROW_TX_HL c), 16, 16⟩
def F.FURROW_TX_HL.APPLIED (c : Carrier) : Fld := ⟨(R.FURROW_TX_HL c), 13, 8⟩
def F.FURROW_TX_HL.DEPTH (c : Carrier) : Fld := ⟨(R.FURROW_TX_HL c), 5, 0⟩
def F.FURROW_TX_CLIP.CLIPPED (c : Carrier) : Fld := ⟨(R.FURROW_TX_CLIP c), 15, 0⟩
def F.FURROW_TX_LATENCY.VALUE (c : Carrier) : Fld := ⟨(R.FURROW_TX_LATENCY c), 31, 0⟩
def F.FURROW_TX_SC_ENTROPY.TARGET (c : Carrier) (s : Nat) : Fld := ⟨(R.FURROW_TX_SC_ENTROPY c s), 23, 16⟩
def F.FURROW_TX_SC_ENTROPY.CURRENT (c : Carrier) (s : Nat) : Fld := ⟨(R.FURROW_TX_SC_ENTROPY c s), 15, 8⟩
def F.FURROW_TX_SC_ENTROPY.BASE (c : Carrier) (s : Nat) : Fld := ⟨(R.FURROW_TX_SC_ENTROPY c s), 1, 0⟩
def F.FURROW_TX_SC_RANGE.HOLD_MF (c : Carrier) (s : Nat) : Fld := ⟨(R.FURROW_TX_SC_RANGE c s), 31, 24⟩
def F.FURROW_TX_SC_RANGE.MAX_STEP (c : Carrier) (s : Nat) : Fld := ⟨(R.FURROW_TX_SC_RANGE c s), 23, 16⟩
def F.FURROW_TX_SC_RANGE.MAX (c : Carrier) (s : Nat) : Fld := ⟨(R.FURROW_TX_SC_RANGE c s), 15, 8⟩
def F.FURROW_TX_SC_RANGE.MIN (c : Carrier) (s : Nat) : Fld := ⟨(R.FURROW_TX_SC_RANGE c s), 7, 0⟩
def F.FURROW_TX_SC_POWER.RAMPING (c : Carrier) (s : Nat) : Fld := ⟨(R.FURROW_TX_SC_POWER c s), 16, 16⟩
def F.FURROW_TX_SC_POWER.APPLIED (c : Carrier) (s : Nat) : Fld := ⟨(R.FURROW_TX_SC_POWER c s), 15, 8⟩
def F.FURROW_TX_SC_POWER.OFFSET (c : Carrier) (s : Nat) : Fld := ⟨(R.FURROW_TX_SC_POWER c s), 7, 0⟩
def F.FURROW_TX_SC_NET.TARGET (c : Carrier) (s : Nat) : Fld := ⟨(R.FURROW_TX_SC_NET c s), 31, 16⟩
def F.FURROW_TX_SC_NET.CURRENT (c : Carrier) (s : Nat) : Fld := ⟨(R.FURROW_TX_SC_NET c s), 15, 0⟩
def F.FURROW_TX_SC_LAST_STEP.VALID (c : Carrier) (s : Nat) : Fld := ⟨(R.FURROW_TX_SC_LAST_STEP c s), 24, 24⟩
def F.FURROW_TX_SC_LAST_STEP.MF (c : Carrier) (s : Nat) : Fld := ⟨(R.FURROW_TX_SC_LAST_STEP c s), 23, 0⟩
def F.FURROW_TX_RESP_SHADOW.WORD (c : Carrier) (w : Nat) : Fld := ⟨(R.FURROW_TX_RESP_SHADOW c w), 31, 0⟩
def F.FURROW_RX_TAP_SHADOW.WORD (c : Carrier) (s : Nat) (w : Nat) : Fld := ⟨(R.FURROW_RX_TAP_SHADOW c s w), 31, 0⟩
def F.LINE_ID.BLOCK (c : Carrier) : Fld := ⟨(R.LINE_ID c), 15, 8⟩
def F.LINE_ID.VERSION (c : Carrier) : Fld := ⟨(R.LINE_ID c), 7, 0⟩
def F.LINE_INT_STATUS.RX_QUEUE_OVF (c : Carrier) : Fld := ⟨(R.LINE_INT_STATUS c), 2, 2⟩
def F.LINE_INT_STATUS.RX_CLIP (c : Carrier) : Fld := ⟨(R.LINE_INT_STATUS c), 1, 1⟩
def F.LINE_INT_STATUS.RX_LOS (c : Carrier) : Fld := ⟨(R.LINE_INT_STATUS c), 0, 0⟩
def F.LINE_INT_STATUS.TX_RAMPED (c : Carrier) : Fld := ⟨(R.LINE_INT_STATUS c), 17, 17⟩
def F.LINE_INT_STATUS.TX_QUEUE_UNF (c : Carrier) : Fld := ⟨(R.LINE_INT_STATUS c), 16, 16⟩
def F.LINE_INT_ENABLE.BITS16 (c : Carrier) : Fld := ⟨(R.LINE_INT_ENABLE c), 17, 16⟩
def F.LINE_INT_ENABLE.BITS0 (c : Carrier) : Fld := ⟨(R.LINE_INT_ENABLE c), 2, 0⟩
def F.LINE_INT_SET.BITS16 (c : Carrier) : Fld := ⟨(R.LINE_INT_SET c), 17, 16⟩
def F.LINE_INT_SET.BITS0 (c : Carrier) : Fld := ⟨(R.LINE_INT_SET c), 2, 0⟩
def F.LINE_RX_LEVEL.YQ_RMS (c : Carrier) : Fld := ⟨(R.LINE_RX_LEVEL c), 31, 24⟩
def F.LINE_RX_LEVEL.YI_RMS (c : Carrier) : Fld := ⟨(R.LINE_RX_LEVEL c), 23, 16⟩
def F.LINE_RX_LEVEL.XQ_RMS (c : Carrier) : Fld := ⟨(R.LINE_RX_LEVEL c), 15, 8⟩
def F.LINE_RX_LEVEL.XI_RMS (c : Carrier) : Fld := ⟨(R.LINE_RX_LEVEL c), 7, 0⟩
def F.LINE_RX_LOS_CFG.LOS (c : Carrier) : Fld := ⟨(R.LINE_RX_LOS_CFG c), 16, 16⟩
def F.LINE_RX_LOS_CFG.HYST (c : Carrier) : Fld := ⟨(R.LINE_RX_LOS_CFG c), 15, 8⟩
def F.LINE_RX_LOS_CFG.THRESH (c : Carrier) : Fld := ⟨(R.LINE_RX_LOS_CFG c), 7, 0⟩
def F.LINE_RX_CLIP.CLIPPED (c : Carrier) : Fld := ⟨(R.LINE_RX_CLIP c), 15, 0⟩
def F.LINE_RX_QUEUE.OVERFLOWS (c : Carrier) : Fld := ⟨(R.LINE_RX_QUEUE c), 15, 0⟩
def F.LINE_TX_CTRL.TX_STATE (c : Carrier) : Fld := ⟨(R.LINE_TX_CTRL c), 17, 16⟩
def F.LINE_TX_CTRL.MUTE (c : Carrier) : Fld := ⟨(R.LINE_TX_CTRL c), 1, 1⟩
def F.LINE_TX_CTRL.ENABLED (c : Carrier) : Fld := ⟨(R.LINE_TX_CTRL c), 0, 0⟩
def F.LINE_TX_QUEUE.UNDERFLOWS (c : Carrier) : Fld := ⟨(R.LINE_TX_QUEUE c), 15, 0⟩
def F.FEC_ID.BLOCK : Fld := ⟨R.FEC_ID, 15, 8⟩
def F.FEC_ID.VERSION : Fld := ⟨R.FEC_ID, 7, 0⟩
def F.FEC_INT_STATUS.BITS8 : Fld := ⟨R.FEC_INT_STATUS, 13, 8⟩
def F.FEC_INT_STATUS.BITS0 : Fld := ⟨R.FEC_INT_STATUS, 5, 0⟩
def F.FEC_INT_ENABLE.BITS8 : Fld := ⟨R.FEC_INT_ENABLE, 13, 8⟩
def F.FEC_INT_ENABLE.BITS0 : Fld := ⟨R.FEC_INT_ENABLE, 5, 0⟩
def F.FEC_INT_SET.BITS8 : Fld := ⟨R.FEC_INT_SET, 13, 8⟩
def F.FEC_INT_SET.BITS0 : Fld := ⟨R.FEC_INT_SET, 5, 0⟩
def F.FEC_CFG.HEALTHY (c : Carrier) : Fld := ⟨(R.FEC_CFG c), 19, 16⟩
def F.FEC_CFG.ENGINES (c : Carrier) : Fld := ⟨(R.FEC_CFG c), 11, 8⟩
def F.FEC_CFG.SPARE_HELD (c : Carrier) : Fld := ⟨(R.FEC_CFG c), 4, 4⟩
def F.FEC_CFG.CODE (c : Carrier) : Fld := ⟨(R.FEC_CFG c), 1, 0⟩
def F.FEC_CTRL.SD_MF (c : Carrier) : Fld := ⟨(R.FEC_CTRL c), 15, 8⟩
def F.FEC_CTRL.CLEAR (c : Carrier) : Fld := ⟨(R.FEC_CTRL c), 2, 2⟩
def F.FEC_CTRL.EARLY_STOP (c : Carrier) : Fld := ⟨(R.FEC_CTRL c), 1, 1⟩
def F.FEC_CTRL.SNAPSHOT (c : Carrier) : Fld := ⟨(R.FEC_CTRL c), 0, 0⟩
def F.FEC_ENGINES.FAILED (c : Carrier) : Fld := ⟨(R.FEC_ENGINES c), 28, 16⟩
def F.FEC_ENGINES.ACTIVE (c : Carrier) : Fld := ⟨(R.FEC_ENGINES c), 12, 0⟩
def F.FEC_SD.SD_SET (c : Carrier) : Fld := ⟨(R.FEC_SD c), 31, 16⟩
def F.FEC_SD.SD_CLEAR (c : Carrier) : Fld := ⟨(R.FEC_SD c), 15, 0⟩
def F.FEC_BER.BER (c : Carrier) : Fld := ⟨(R.FEC_BER c), 31, 0⟩
def F.FEC_STATUS.ALIGNED (c : Carrier) : Fld := ⟨(R.FEC_STATUS c), 2, 2⟩
def F.FEC_STATUS.UNC_MF (c : Carrier) : Fld := ⟨(R.FEC_STATUS c), 1, 1⟩
def F.FEC_STATUS.SD (c : Carrier) : Fld := ⟨(R.FEC_STATUS c), 0, 0⟩
def F.FEC_LAT_ENC.VALUE (c : Carrier) : Fld := ⟨(R.FEC_LAT_ENC c), 31, 0⟩
def F.FEC_LAT_DEC.VALUE (c : Carrier) : Fld := ⟨(R.FEC_LAT_DEC c), 31, 0⟩
def F.FEC_CORR_BITS_LO.VALUE (c : Carrier) : Fld := ⟨(R.FEC_CORR_BITS_LO c), 31, 0⟩
def F.FEC_CORR_BITS_HI.VALUE (c : Carrier) : Fld := ⟨(R.FEC_CORR_BITS_HI c), 15, 0⟩
def F.FEC_BLOCKS_LO.VALUE (c : Carrier) : Fld := ⟨(R.FEC_BLOCKS_LO c), 31, 0⟩
def F.FEC_BLOCKS_HI.VALUE (c : Carrier) : Fld := ⟨(R.FEC_BLOCKS_HI c), 15, 0⟩
def F.FEC_UNCORR_LO.VALUE (c : Carrier) : Fld := ⟨(R.FEC_UNCORR_LO c), 31, 0⟩
def F.FEC_UNCORR_HI.VALUE (c : Carrier) : Fld := ⟨(R.FEC_UNCORR_HI c), 15, 0⟩
def F.FEC_ITER_LIMIT_LO.VALUE (c : Carrier) : Fld := ⟨(R.FEC_ITER_LIMIT_LO c), 31, 0⟩
def F.FEC_ITER_LIMIT_HI.VALUE (c : Carrier) : Fld := ⟨(R.FEC_ITER_LIMIT_HI c), 15, 0⟩
def F.LINK_ID.BLOCK : Fld := ⟨R.LINK_ID, 15, 8⟩
def F.LINK_ID.VERSION : Fld := ⟨R.LINK_ID, 7, 0⟩
def F.LINK_INT_STATUS.BITS31 : Fld := ⟨R.LINK_INT_STATUS, 31, 31⟩
def F.LINK_INT_STATUS.BITS0 : Fld := ⟨R.LINK_INT_STATUS, 29, 0⟩
def F.LINK_INT_ENABLE.BITS31 : Fld := ⟨R.LINK_INT_ENABLE, 31, 31⟩
def F.LINK_INT_ENABLE.BITS0 : Fld := ⟨R.LINK_INT_ENABLE, 29, 0⟩
def F.LINK_INT_SET.BITS31 : Fld := ⟨R.LINK_INT_SET, 31, 31⟩
def F.LINK_INT_SET.BITS0 : Fld := ⟨R.LINK_INT_SET, 29, 0⟩
def F.LINK_ALIGN_CFG.RESYNC (c : Carrier) : Fld := ⟨(R.LINK_ALIGN_CFG c), 31, 31⟩
def F.LINK_ALIGN_CFG.HITS (c : Carrier) : Fld := ⟨(R.LINK_ALIGN_CFG c), 15, 12⟩
def F.LINK_ALIGN_CFG.MISS (c : Carrier) : Fld := ⟨(R.LINK_ALIGN_CFG c), 11, 8⟩
def F.LINK_ALIGN_CFG.FAW_TOL (c : Carrier) : Fld := ⟨(R.LINK_ALIGN_CFG c), 5, 0⟩
def F.LINK_ALIGN_STATUS.OH_GOOD (c : Carrier) : Fld := ⟨(R.LINK_ALIGN_STATUS c), 5, 5⟩
def F.LINK_ALIGN_STATUS.MF_LOCK (c : Carrier) : Fld := ⟨(R.LINK_ALIGN_STATUS c), 4, 4⟩
def F.LINK_ALIGN_STATUS.STATE (c : Carrier) : Fld := ⟨(R.LINK_ALIGN_STATUS c), 1, 0⟩
def F.LINK_TX_FRAME.VALUE (c : Carrier) : Fld := ⟨(R.LINK_TX_FRAME c), 31, 0⟩
def F.LINK_RX_FRAME.VALUE (c : Carrier) : Fld := ⟨(R.LINK_RX_FRAME c), 31, 0⟩
def F.LINK_NUMBERING.SLIPS (c : Carrier) : Fld := ⟨(R.LINK_NUMBERING c), 31, 24⟩
def F.LINK_NUMBERING.D (c : Carrier) : Fld := ⟨(R.LINK_NUMBERING c), 23, 16⟩
def F.LINK_NUMBERING.ROLE (c : Carrier) : Fld := ⟨(R.LINK_NUMBERING c), 3, 2⟩
def F.LINK_NUMBERING.SLIP_ENABLE (c : Carrier) : Fld := ⟨(R.LINK_NUMBERING c), 1, 1⟩
def F.LINK_NUMBERING.ADOPT (c : Carrier) : Fld := ⟨(R.LINK_NUMBERING c), 0, 0⟩
def F.LINK_PEER_CFG.VERSION (c : Carrier) : Fld := ⟨(R.LINK_PEER_CFG c), 31, 24⟩
def F.LINK_PEER_CFG.CONFIG (c : Carrier) : Fld := ⟨(R.LINK_PEER_CFG c), 23, 16⟩
def F.LINK_PEER_CFG.DEFECTS (c : Carrier) : Fld := ⟨(R.LINK_PEER_CFG c), 15, 8⟩
def F.LINK_PEER_CFG.NUMBERING (c : Carrier) : Fld := ⟨(R.LINK_PEER_CFG c), 7, 0⟩
def F.LINK_PEER_NODE.VALUE (c : Carrier) : Fld := ⟨(R.LINK_PEER_NODE c), 31, 0⟩
def F.LINK_PEER_EPOCH.VALUE (c : Carrier) : Fld := ⟨(R.LINK_PEER_EPOCH c), 31, 0⟩
def F.LINK_PEER_SW.SW_MF (c : Carrier) : Fld := ⟨(R.LINK_PEER_SW c), 31, 8⟩
def F.LINK_PEER_SW.TYPE (c : Carrier) : Fld := ⟨(R.LINK_PEER_SW c), 7, 6⟩
def F.LINK_PEER_SW.ARMED (c : Carrier) : Fld := ⟨(R.LINK_PEER_SW c), 5, 5⟩
def F.LINK_DEFECTS.FORCE_BDI (c : Carrier) : Fld := ⟨(R.LINK_DEFECTS c), 8, 8⟩
def F.LINK_DEFECTS.SENT (c : Carrier) : Fld := ⟨(R.LINK_DEFECTS c), 7, 0⟩
def F.LINK_RX_STEP.MF (c : Carrier) : Fld := ⟨(R.LINK_RX_STEP c), 31, 8⟩
def F.LINK_RX_STEP.MATCHED (c : Carrier) : Fld := ⟨(R.LINK_RX_STEP c), 2, 2⟩
def F.LINK_RX_STEP.ARMED (c : Carrier) : Fld := ⟨(R.LINK_RX_STEP c), 1, 1⟩
def F.LINK_RX_STEP.ARM (c : Carrier) : Fld := ⟨(R.LINK_RX_STEP c), 0, 0⟩
def F.LINK_PEER_SNR_SEQ.VALID (c : Carrier) : Fld := ⟨(R.LINK_PEER_SNR_SEQ c), 31, 16⟩
def F.LINK_PEER_SNR_SEQ.SEQ (c : Carrier) : Fld := ⟨(R.LINK_PEER_SNR_SEQ c), 15, 0⟩
def F.LINK_PEER_SNR.Y (c : Carrier) (s : Nat) : Fld := ⟨(R.LINK_PEER_SNR c s), 31, 16⟩
def F.LINK_PEER_SNR.X (c : Carrier) (s : Nat) : Fld := ⟨(R.LINK_PEER_SNR c s), 15, 0⟩
def F.LINK_OH_COUNT.OH_UNCORR (c : Carrier) : Fld := ⟨(R.LINK_OH_COUNT c), 31, 16⟩
def F.LINK_OH_COUNT.FAW_MISSES (c : Carrier) : Fld := ⟨(R.LINK_OH_COUNT c), 15, 0⟩
def F.LINK_OH_CORR.BYTES (c : Carrier) : Fld := ⟨(R.LINK_OH_CORR c), 31, 0⟩
def F.LINK_MCC_COUNT.RX_DROPPED (c : Carrier) : Fld := ⟨(R.LINK_MCC_COUNT c), 31, 16⟩
def F.LINK_MCC_COUNT.SEQ_GAPS (c : Carrier) : Fld := ⟨(R.LINK_MCC_COUNT c), 15, 0⟩
def F.LINK_ERR_FRAMES.FRAMES (c : Carrier) : Fld := ⟨(R.LINK_ERR_FRAMES c), 31, 0⟩
def F.LINK_MF_WORDS.W (c : Carrier) : Fld := ⟨(R.LINK_MF_WORDS c), 21, 0⟩
def F.LINK_STATE.BACKOFF (c : Carrier) : Fld := ⟨(R.LINK_STATE c), 26, 24⟩
def F.LINK_STATE.WMP_MAJOR (c : Carrier) : Fld := ⟨(R.LINK_STATE c), 23, 20⟩
def F.LINK_STATE.WMP_MINOR (c : Carrier) : Fld := ⟨(R.LINK_STATE c), 19, 16⟩
def F.LINK_STATE.FRAME_MAJOR (c : Carrier) : Fld := ⟨(R.LINK_STATE c), 15, 12⟩
def F.LINK_STATE.FRAME_MINOR (c : Carrier) : Fld := ⟨(R.LINK_STATE c), 11, 8⟩
def F.LINK_STATE.STATE (c : Carrier) : Fld := ⟨(R.LINK_STATE c), 3, 0⟩
def F.LINK_MGR_CTRL.AUTO_FOLLOW (c : Carrier) : Fld := ⟨(R.LINK_MGR_CTRL c), 16, 16⟩
def F.LINK_MGR_CTRL.LOSS_HOLD (c : Carrier) : Fld := ⟨(R.LINK_MGR_CTRL c), 15, 8⟩
def F.LINK_MGR_CTRL.TAKE_E (c : Carrier) : Fld := ⟨(R.LINK_MGR_CTRL c), 1, 1⟩
def F.LINK_MGR_CTRL.RENEGOTIATE (c : Carrier) : Fld := ⟨(R.LINK_MGR_CTRL c), 0, 0⟩
def F.LINK_FEATURES.VALUE (c : Carrier) : Fld := ⟨(R.LINK_FEATURES c), 31, 0⟩
def F.LINK_PEER_FEATURES.VALUE (c : Carrier) : Fld := ⟨(R.LINK_PEER_FEATURES c), 31, 0⟩
def F.LINK_CANDIDATE.VALUE (c : Carrier) : Fld := ⟨(R.LINK_CANDIDATE c), 31, 0⟩
def F.LINK_COMMIT.M (c : Carrier) : Fld := ⟨(R.LINK_COMMIT c), 31, 8⟩
def F.LINK_COMMIT.KIND (c : Carrier) : Fld := ⟨(R.LINK_COMMIT c), 7, 6⟩
def F.LINK_COMMIT.INITIATOR (c : Carrier) : Fld := ⟨(R.LINK_COMMIT c), 5, 5⟩
def F.LINK_COMMIT.CSTATE (c : Carrier) : Fld := ⟨(R.LINK_COMMIT c), 2, 0⟩
def F.LINK_RTT.RTT (c : Carrier) : Fld := ⟨(R.LINK_RTT c), 31, 0⟩
def F.LINK_LINK_COUNT.LOSSES (c : Carrier) : Fld := ⟨(R.LINK_LINK_COUNT c), 31, 24⟩
def F.LINK_LINK_COUNT.ABORTS (c : Carrier) : Fld := ⟨(R.LINK_LINK_COUNT c), 23, 16⟩
def F.LINK_LINK_COUNT.SOLE_SWITCH (c : Carrier) : Fld := ⟨(R.LINK_LINK_COUNT c), 15, 8⟩
def F.LINK_LINK_COUNT.NAKS (c : Carrier) : Fld := ⟨(R.LINK_LINK_COUNT c), 7, 0⟩
def F.LINK_VIOLATION.LAST (c : Carrier) : Fld := ⟨(R.LINK_VIOLATION c), 23, 16⟩
def F.LINK_VIOLATION.COUNT (c : Carrier) : Fld := ⟨(R.LINK_VIOLATION c), 15, 0⟩
def F.LINK_HL_IGNORED.COUNT : Fld := ⟨R.LINK_HL_IGNORED, 15, 0⟩
def F.LINK_NB_NODE.NODE (n : Nat) : Fld := ⟨(R.LINK_NB_NODE n), 31, 0⟩
def F.LINK_NB_INFO.CENTRE_N (n : Nat) : Fld := ⟨(R.LINK_NB_INFO n), 31, 16⟩
def F.LINK_NB_INFO.RSSI (n : Nat) : Fld := ⟨(R.LINK_NB_INFO n), 15, 8⟩
def F.LINK_NB_INFO.CARRIER (n : Nat) : Fld := ⟨(R.LINK_NB_INFO n), 7, 7⟩
def F.LINK_NB_INFO.PEER (n : Nat) : Fld := ⟨(R.LINK_NB_INFO n), 6, 6⟩
def F.LINK_NB_INFO.AGE (n : Nat) : Fld := ⟨(R.LINK_NB_INFO n), 5, 0⟩
def F.HOSTLANE_ID.BLOCK : Fld := ⟨R.HOSTLANE_ID, 15, 8⟩
def F.HOSTLANE_ID.VERSION : Fld := ⟨R.HOSTLANE_ID, 7, 0⟩
def F.HOSTLANE_INT_STATUS.QUAD_UNLOCK : Fld := ⟨R.HOSTLANE_INT_STATUS, 19, 16⟩
def F.HOSTLANE_INT_STATUS.LANE : Fld := ⟨R.HOSTLANE_INT_STATUS, 15, 0⟩
def F.HOSTLANE_INT_ENABLE.BITS0 : Fld := ⟨R.HOSTLANE_INT_ENABLE, 19, 0⟩
def F.HOSTLANE_INT_SET.BITS0 : Fld := ⟨R.HOSTLANE_INT_SET, 19, 0⟩
def F.HOSTLANE_QUAD_STATUS.POWERED : Fld := ⟨R.HOSTLANE_QUAD_STATUS, 19, 16⟩
def F.HOSTLANE_QUAD_STATUS.PLL_LOCK : Fld := ⟨R.HOSTLANE_QUAD_STATUS, 3, 0⟩
def F.HOSTLANE_CTRL.RETRAIN (n : Nat) : Fld := ⟨(R.HOSTLANE_CTRL n), 31, 31⟩
def F.HOSTLANE_CTRL.LOOP_NEAR (n : Nat) : Fld := ⟨(R.HOSTLANE_CTRL n), 8, 8⟩
def F.HOSTLANE_CTRL.ALLOW_IDLE (n : Nat) : Fld := ⟨(R.HOSTLANE_CTRL n), 4, 4⟩
def F.HOSTLANE_CTRL.TRAIN_EN (n : Nat) : Fld := ⟨(R.HOSTLANE_CTRL n), 3, 3⟩
def F.HOSTLANE_CTRL.RX_INVERT (n : Nat) : Fld := ⟨(R.HOSTLANE_CTRL n), 1, 1⟩
def F.HOSTLANE_CTRL.TX_INVERT (n : Nat) : Fld := ⟨(R.HOSTLANE_CTRL n), 0, 0⟩
def F.HOSTLANE_STATE.RATE (n : Nat) : Fld := ⟨(R.HOSTLANE_STATE n), 25, 24⟩
def F.HOSTLANE_STATE.PORT (n : Nat) : Fld := ⟨(R.HOSTLANE_STATE n), 23, 20⟩
def F.HOSTLANE_STATE.IN_PORT (n : Nat) : Fld := ⟨(R.HOSTLANE_STATE n), 16, 16⟩
def F.HOSTLANE_STATE.PARTNER (n : Nat) : Fld := ⟨(R.HOSTLANE_STATE n), 9, 8⟩
def F.HOSTLANE_STATE.SIGNAL (n : Nat) : Fld := ⟨(R.HOSTLANE_STATE n), 5, 5⟩
def F.HOSTLANE_STATE.CDR_LOCK (n : Nat) : Fld := ⟨(R.HOSTLANE_STATE n), 4, 4⟩
def F.HOSTLANE_STATE.STATE (n : Nat) : Fld := ⟨(R.HOSTLANE_STATE n), 2, 0⟩
def F.HOSTLANE_EVENT.SNAP_DONE (n : Nat) : Fld := ⟨(R.HOSTLANE_EVENT n), 9, 9⟩
def F.HOSTLANE_EVENT.HOLDOFF (n : Nat) : Fld := ⟨(R.HOSTLANE_EVENT n), 8, 8⟩
def F.HOSTLANE_EVENT.VIOLATION (n : Nat) : Fld := ⟨(R.HOSTLANE_EVENT n), 7, 7⟩
def F.HOSTLANE_EVENT.CHK_LOCK_LOST (n : Nat) : Fld := ⟨(R.HOSTLANE_EVENT n), 6, 6⟩
def F.HOSTLANE_EVENT.RETRAIN_SEEN (n : Nat) : Fld := ⟨(R.HOSTLANE_EVENT n), 5, 5⟩
def F.HOSTLANE_EVENT.BURST_SHORT (n : Nat) : Fld := ⟨(R.HOSTLANE_EVENT n), 4, 4⟩
def F.HOSTLANE_EVENT.SIGNAL_LOST (n : Nat) : Fld := ⟨(R.HOSTLANE_EVENT n), 3, 3⟩
def F.HOSTLANE_EVENT.TRAIN_FAIL (n : Nat) : Fld := ⟨(R.HOSTLANE_EVENT n), 2, 2⟩
def F.HOSTLANE_EVENT.DATA_DOWN (n : Nat) : Fld := ⟨(R.HOSTLANE_EVENT n), 1, 1⟩
def F.HOSTLANE_EVENT.DATA_UP (n : Nat) : Fld := ⟨(R.HOSTLANE_EVENT n), 0, 0⟩
def F.HOSTLANE_EVENT_ENABLE.BITS (n : Nat) : Fld := ⟨(R.HOSTLANE_EVENT_ENABLE n), 9, 0⟩
def F.HOSTLANE_TX_FFE_PRE.C_M1 (n : Nat) : Fld := ⟨(R.HOSTLANE_TX_FFE_PRE n), 23, 16⟩
def F.HOSTLANE_TX_FFE_PRE.C_M2 (n : Nat) : Fld := ⟨(R.HOSTLANE_TX_FFE_PRE n), 15, 8⟩
def F.HOSTLANE_TX_FFE_PRE.C_M3 (n : Nat) : Fld := ⟨(R.HOSTLANE_TX_FFE_PRE n), 7, 0⟩
def F.HOSTLANE_TX_FFE_POST.C_P2 (n : Nat) : Fld := ⟨(R.HOSTLANE_TX_FFE_POST n), 23, 16⟩
def F.HOSTLANE_TX_FFE_POST.C_P1 (n : Nat) : Fld := ⟨(R.HOSTLANE_TX_FFE_POST n), 15, 8⟩
def F.HOSTLANE_TX_FFE_POST.C_0 (n : Nat) : Fld := ⟨(R.HOSTLANE_TX_FFE_POST n), 7, 0⟩
def F.HOSTLANE_TX_CFG.AMPLITUDE (n : Nat) : Fld := ⟨(R.HOSTLANE_TX_CFG n), 22, 16⟩
def F.HOSTLANE_TX_CFG.TX_IDLE (n : Nat) : Fld := ⟨(R.HOSTLANE_TX_CFG n), 8, 8⟩
def F.HOSTLANE_TX_CFG.IN_IDLE (n : Nat) : Fld := ⟨(R.HOSTLANE_TX_CFG n), 4, 4⟩
def F.HOSTLANE_TX_CFG.PRECODE_TX (n : Nat) : Fld := ⟨(R.HOSTLANE_TX_CFG n), 0, 0⟩
def F.HOSTLANE_RX_CFG.CTLE_SET (n : Nat) : Fld := ⟨(R.HOSTLANE_RX_CFG n), 22, 16⟩
def F.HOSTLANE_RX_CFG.DFE_MODE (n : Nat) : Fld := ⟨(R.HOSTLANE_RX_CFG n), 11, 10⟩
def F.HOSTLANE_RX_CFG.FFE_MODE (n : Nat) : Fld := ⟨(R.HOSTLANE_RX_CFG n), 9, 8⟩
def F.HOSTLANE_RX_CFG.CTLE_MODE (n : Nat) : Fld := ⟨(R.HOSTLANE_RX_CFG n), 7, 6⟩
def F.HOSTLANE_RX_CFG.PRECODE_RX (n : Nat) : Fld := ⟨(R.HOSTLANE_RX_CFG n), 0, 0⟩
def F.HOSTLANE_RX_EQ_STATUS.H1 (n : Nat) : Fld := ⟨(R.HOSTLANE_RX_EQ_STATUS n), 31, 24⟩
def F.HOSTLANE_RX_EQ_STATUS.CTLE (n : Nat) : Fld := ⟨(R.HOSTLANE_RX_EQ_STATUS n), 22, 16⟩
def F.HOSTLANE_RX_EQ_STATUS.CONVERGED (n : Nat) : Fld := ⟨(R.HOSTLANE_RX_EQ_STATUS n), 0, 0⟩
def F.HOSTLANE_TRAIN_CFG.DETECT_LIMIT (n : Nat) : Fld := ⟨(R.HOSTLANE_TRAIN_CFG n), 23, 16⟩
def F.HOSTLANE_TRAIN_CFG.TRAIN_LIMIT (n : Nat) : Fld := ⟨(R.HOSTLANE_TRAIN_CFG n), 15, 0⟩
def F.HOSTLANE_TRAIN_STATUS.LAST_MS (n : Nat) : Fld := ⟨(R.HOSTLANE_TRAIN_STATUS n), 31, 16⟩
def F.HOSTLANE_TRAIN_STATUS.DROPPED (n : Nat) : Fld := ⟨(R.HOSTLANE_TRAIN_STATUS n), 15, 8⟩
def F.HOSTLANE_TRAIN_STATUS.PARTNER_PRECODE (n : Nat) : Fld := ⟨(R.HOSTLANE_TRAIN_STATUS n), 0, 0⟩
def F.HOSTLANE_IDLE_CFG.IDLE_LIMIT (n : Nat) : Fld := ⟨(R.HOSTLANE_IDLE_CFG n), 31, 24⟩
def F.HOSTLANE_IDLE_CFG.SD_ON (n : Nat) : Fld := ⟨(R.HOSTLANE_IDLE_CFG n), 15, 8⟩
def F.HOSTLANE_IDLE_CFG.SD_OFF (n : Nat) : Fld := ⟨(R.HOSTLANE_IDLE_CFG n), 7, 0⟩
def F.HOSTLANE_GEN_CFG.GEN_EN (n : Nat) : Fld := ⟨(R.HOSTLANE_GEN_CFG n), 8, 8⟩
def F.HOSTLANE_GEN_CFG.PATTERN (n : Nat) : Fld := ⟨(R.HOSTLANE_GEN_CFG n), 3, 0⟩
def F.HOSTLANE_CHK_CFG.LOCK_LOSSES (n : Nat) : Fld := ⟨(R.HOSTLANE_CHK_CFG n), 31, 24⟩
def F.HOSTLANE_CHK_CFG.SNAP_PENDING (n : Nat) : Fld := ⟨(R.HOSTLANE_CHK_CFG n), 19, 19⟩
def F.HOSTLANE_CHK_CFG.CLEAR (n : Nat) : Fld := ⟨(R.HOSTLANE_CHK_CFG n), 18, 18⟩
def F.HOSTLANE_CHK_CFG.SNAPSHOT (n : Nat) : Fld := ⟨(R.HOSTLANE_CHK_CFG n), 17, 17⟩
def F.HOSTLANE_CHK_CFG.LOCK (n : Nat) : Fld := ⟨(R.HOSTLANE_CHK_CFG n), 16, 16⟩
def F.HOSTLANE_CHK_CFG.CHK_EN (n : Nat) : Fld := ⟨(R.HOSTLANE_CHK_CFG n), 8, 8⟩
def F.HOSTLANE_CHK_CFG.PATTERN (n : Nat) : Fld := ⟨(R.HOSTLANE_CHK_CFG n), 3, 0⟩
def F.HOSTLANE_INJ_CTRL.BURST_LEN (n : Nat) : Fld := ⟨(R.HOSTLANE_INJ_CTRL n), 24, 16⟩
def F.HOSTLANE_INJ_CTRL.ACTIVE (n : Nat) : Fld := ⟨(R.HOSTLANE_INJ_CTRL n), 9, 9⟩
def F.HOSTLANE_INJ_CTRL.POINT (n : Nat) : Fld := ⟨(R.HOSTLANE_INJ_CTRL n), 8, 8⟩
def F.HOSTLANE_INJ_CTRL.BITS (n : Nat) : Fld := ⟨(R.HOSTLANE_INJ_CTRL n), 5, 4⟩
def F.HOSTLANE_INJ_CTRL.CMD (n : Nat) : Fld := ⟨(R.HOSTLANE_INJ_CTRL n), 2, 0⟩
def F.HOSTLANE_INJ_RATE.INTERVAL (n : Nat) : Fld := ⟨(R.HOSTLANE_INJ_RATE n), 23, 0⟩
def F.HOSTLANE_INJ_COUNT.INJECTED (n : Nat) : Fld := ⟨(R.HOSTLANE_INJ_COUNT n), 31, 0⟩
def F.HOSTLANE_EYE_HEIGHT.VALID (n : Nat) : Fld := ⟨(R.HOSTLANE_EYE_HEIGHT n), 31, 31⟩
def F.HOSTLANE_EYE_HEIGHT.UPPER (n : Nat) : Fld := ⟨(R.HOSTLANE_EYE_HEIGHT n), 29, 20⟩
def F.HOSTLANE_EYE_HEIGHT.MIDDLE (n : Nat) : Fld := ⟨(R.HOSTLANE_EYE_HEIGHT n), 19, 10⟩
def F.HOSTLANE_EYE_HEIGHT.LOWER (n : Nat) : Fld := ⟨(R.HOSTLANE_EYE_HEIGHT n), 9, 0⟩
def F.HOSTLANE_EYE_WIDTH.SEQ (n : Nat) : Fld := ⟨(R.HOSTLANE_EYE_WIDTH n), 31, 24⟩
def F.HOSTLANE_EYE_WIDTH.WIDTH (n : Nat) : Fld := ⟨(R.HOSTLANE_EYE_WIDTH n), 23, 16⟩
def F.HOSTLANE_EYE_WIDTH.SNR (n : Nat) : Fld := ⟨(R.HOSTLANE_EYE_WIDTH n), 15, 0⟩
def F.HOSTLANE_LANE_COUNT.TRAINS (n : Nat) : Fld := ⟨(R.HOSTLANE_LANE_COUNT n), 31, 24⟩
def F.HOSTLANE_LANE_COUNT.SIG_LOST (n : Nat) : Fld := ⟨(R.HOSTLANE_LANE_COUNT n), 23, 16⟩
def F.HOSTLANE_LANE_COUNT.BURST_SHORT (n : Nat) : Fld := ⟨(R.HOSTLANE_LANE_COUNT n), 15, 8⟩
def F.HOSTLANE_LANE_COUNT.RETRAINS (n : Nat) : Fld := ⟨(R.HOSTLANE_LANE_COUNT n), 7, 0⟩
def F.HOSTLANE_VIOLATION.LAST (n : Nat) : Fld := ⟨(R.HOSTLANE_VIOLATION n), 23, 16⟩
def F.HOSTLANE_VIOLATION.COUNT (n : Nat) : Fld := ⟨(R.HOSTLANE_VIOLATION n), 15, 0⟩
def F.HOSTLANE_CHK_BITS_LO.VALUE (n : Nat) : Fld := ⟨(R.HOSTLANE_CHK_BITS_LO n), 31, 0⟩
def F.HOSTLANE_CHK_BITS_HI.VALUE (n : Nat) : Fld := ⟨(R.HOSTLANE_CHK_BITS_HI n), 15, 0⟩
def F.HOSTLANE_CHK_ERR_BITS_LO.VALUE (n : Nat) : Fld := ⟨(R.HOSTLANE_CHK_ERR_BITS_LO n), 31, 0⟩
def F.HOSTLANE_CHK_ERR_BITS_HI.VALUE (n : Nat) : Fld := ⟨(R.HOSTLANE_CHK_ERR_BITS_HI n), 15, 0⟩
def F.HOSTLANE_CHK_ERR_SYMS_LO.VALUE (n : Nat) : Fld := ⟨(R.HOSTLANE_CHK_ERR_SYMS_LO n), 31, 0⟩
def F.HOSTLANE_CHK_ERR_SYMS_HI.VALUE (n : Nat) : Fld := ⟨(R.HOSTLANE_CHK_ERR_SYMS_HI n), 15, 0⟩
def F.CLIENT_ID.BLOCK : Fld := ⟨R.CLIENT_ID, 15, 8⟩
def F.CLIENT_ID.VERSION : Fld := ⟨R.CLIENT_ID, 7, 0⟩
def F.CLIENT_INT_STATUS.PORT : Fld := ⟨R.CLIENT_INT_STATUS, 15, 0⟩
def F.CLIENT_INT_ENABLE.BITS0 : Fld := ⟨R.CLIENT_INT_ENABLE, 15, 0⟩
def F.CLIENT_INT_SET.BITS0 : Fld := ⟨R.CLIENT_INT_SET, 15, 0⟩
def F.CLIENT_CFG.IN_USE (p : Nat) : Fld := ⟨(R.CLIENT_CFG p), 31, 31⟩
def F.CLIENT_CFG.RATE (p : Nat) : Fld := ⟨(R.CLIENT_CFG p), 27, 25⟩
def F.CLIENT_CFG.LANE_RATE (p : Nat) : Fld := ⟨(R.CLIENT_CFG p), 24, 23⟩
def F.CLIENT_CFG.REVERTIVE (p : Nat) : Fld := ⟨(R.CLIENT_CFG p), 22, 22⟩
def F.CLIENT_CFG.CARRIERS (p : Nat) : Fld := ⟨(R.CLIENT_CFG p), 21, 20⟩
def F.CLIENT_CFG.LANES (p : Nat) : Fld := ⟨(R.CLIENT_CFG p), 19, 16⟩
def F.CLIENT_CFG.FIRST_LANE (p : Nat) : Fld := ⟨(R.CLIENT_CFG p), 15, 12⟩
def F.CLIENT_CFG.SLOTS (p : Nat) : Fld := ⟨(R.CLIENT_CFG p), 6, 0⟩
def F.CLIENT_CTRL.SNAPSHOT (p : Nat) : Fld := ⟨(R.CLIENT_CTRL p), 31, 31⟩
def F.CLIENT_CTRL.CLEAR (p : Nat) : Fld := ⟨(R.CLIENT_CTRL p), 30, 30⟩
def F.CLIENT_CTRL.FORCE_SEL (p : Nat) : Fld := ⟨(R.CLIENT_CTRL p), 9, 8⟩
def F.CLIENT_CTRL.FORCE_LF (p : Nat) : Fld := ⟨(R.CLIENT_CTRL p), 5, 5⟩
def F.CLIENT_CTRL.LOOP (p : Nat) : Fld := ⟨(R.CLIENT_CTRL p), 1, 0⟩
def F.CLIENT_FRAME.MAX_FRAME (p : Nat) : Fld := ⟨(R.CLIENT_FRAME p), 13, 0⟩
def F.CLIENT_STATE.SKEW (p : Nat) : Fld := ⟨(R.CLIENT_STATE p), 31, 24⟩
def F.CLIENT_STATE.SELECTED (p : Nat) : Fld := ⟨(R.CLIENT_STATE p), 17, 16⟩
def F.CLIENT_STATE.ALIGNED (p : Nat) : Fld := ⟨(R.CLIENT_STATE p), 9, 9⟩
def F.CLIENT_STATE.EGRESS_DATA (p : Nat) : Fld := ⟨(R.CLIENT_STATE p), 8, 8⟩
def F.CLIENT_STATE.INGRESS (p : Nat) : Fld := ⟨(R.CLIENT_STATE p), 2, 0⟩
def F.CLIENT_EVENT.SNAP_DONE (p : Nat) : Fld := ⟨(R.CLIENT_EVENT p), 8, 8⟩
def F.CLIENT_EVENT.HUNT (p : Nat) : Fld := ⟨(R.CLIENT_EVENT p), 7, 7⟩
def F.CLIENT_EVENT.VIOLATION (p : Nat) : Fld := ⟨(R.CLIENT_EVENT p), 6, 6⟩
def F.CLIENT_EVENT.ALIGN_LOST (p : Nat) : Fld := ⟨(R.CLIENT_EVENT p), 5, 5⟩
def F.CLIENT_EVENT.SWITCHED (p : Nat) : Fld := ⟨(R.CLIENT_EVENT p), 4, 4⟩
def F.CLIENT_EVENT.EGRESS_UP (p : Nat) : Fld := ⟨(R.CLIENT_EVENT p), 3, 3⟩
def F.CLIENT_EVENT.EGRESS_LF (p : Nat) : Fld := ⟨(R.CLIENT_EVENT p), 2, 2⟩
def F.CLIENT_EVENT.INGRESS_DOWN (p : Nat) : Fld := ⟨(R.CLIENT_EVENT p), 1, 1⟩
def F.CLIENT_EVENT.INGRESS_UP (p : Nat) : Fld := ⟨(R.CLIENT_EVENT p), 0, 0⟩
def F.CLIENT_EVENT_ENABLE.BITS (p : Nat) : Fld := ⟨(R.CLIENT_EVENT_ENABLE p), 8, 0⟩
def F.CLIENT_PROT.WTR (p : Nat) : Fld := ⟨(R.CLIENT_PROT p), 31, 20⟩
def F.CLIENT_PROT.SD_TRIGGER (p : Nat) : Fld := ⟨(R.CLIENT_PROT p), 0, 0⟩
def F.CLIENT_PROT_STATUS.DIFF_DELAY (p : Nat) : Fld := ⟨(R.CLIENT_PROT_STATUS p), 31, 16⟩
def F.CLIENT_PROT_STATUS.SWITCHES (p : Nat) : Fld := ⟨(R.CLIENT_PROT_STATUS p), 15, 8⟩
def F.CLIENT_PROT_STATUS.B_GOOD (p : Nat) : Fld := ⟨(R.CLIENT_PROT_STATUS p), 1, 1⟩
def F.CLIENT_PROT_STATUS.A_GOOD (p : Nat) : Fld := ⟨(R.CLIENT_PROT_STATUS p), 0, 0⟩
def F.CLIENT_ERR.RUNTS (p : Nat) : Fld := ⟨(R.CLIENT_ERR p), 31, 24⟩
def F.CLIENT_ERR.OVERSIZE (p : Nat) : Fld := ⟨(R.CLIENT_ERR p), 23, 16⟩
def F.CLIENT_ERR.IN_DROP (p : Nat) : Fld := ⟨(R.CLIENT_ERR p), 15, 8⟩
def F.CLIENT_ERR.OUT_DROP (p : Nat) : Fld := ⟨(R.CLIENT_ERR p), 7, 0⟩
def F.CLIENT_VIOLATION.LAST (p : Nat) : Fld := ⟨(R.CLIENT_VIOLATION p), 23, 16⟩
def F.CLIENT_VIOLATION.COUNT (p : Nat) : Fld := ⟨(R.CLIENT_VIOLATION p), 15, 0⟩
def F.CLIENT_IN_FRAMES_LO.VALUE (p : Nat) : Fld := ⟨(R.CLIENT_IN_FRAMES_LO p), 31, 0⟩
def F.CLIENT_IN_FRAMES_HI.VALUE (p : Nat) : Fld := ⟨(R.CLIENT_IN_FRAMES_HI p), 15, 0⟩
def F.CLIENT_IN_FCS_ERR_LO.VALUE (p : Nat) : Fld := ⟨(R.CLIENT_IN_FCS_ERR_LO p), 31, 0⟩
def F.CLIENT_IN_FCS_ERR_HI.VALUE (p : Nat) : Fld := ⟨(R.CLIENT_IN_FCS_ERR_HI p), 15, 0⟩
def F.CLIENT_RS_CORR_LO.VALUE (p : Nat) : Fld := ⟨(R.CLIENT_RS_CORR_LO p), 31, 0⟩
def F.CLIENT_RS_CORR_HI.VALUE (p : Nat) : Fld := ⟨(R.CLIENT_RS_CORR_HI p), 15, 0⟩
def F.CLIENT_RS_UNCORR_LO.VALUE (p : Nat) : Fld := ⟨(R.CLIENT_RS_UNCORR_LO p), 31, 0⟩
def F.CLIENT_RS_UNCORR_HI.VALUE (p : Nat) : Fld := ⟨(R.CLIENT_RS_UNCORR_HI p), 15, 0⟩
def F.CLIENT_OUT_FRAMES_LO.VALUE (p : Nat) : Fld := ⟨(R.CLIENT_OUT_FRAMES_LO p), 31, 0⟩
def F.CLIENT_OUT_FRAMES_HI.VALUE (p : Nat) : Fld := ⟨(R.CLIENT_OUT_FRAMES_HI p), 15, 0⟩
def F.CLIENT_OUT_ERR_LO.VALUE (p : Nat) : Fld := ⟨(R.CLIENT_OUT_ERR_LO p), 31, 0⟩
def F.CLIENT_OUT_ERR_HI.VALUE (p : Nat) : Fld := ⟨(R.CLIENT_OUT_ERR_HI p), 15, 0⟩
def F.TIME_ID.BLOCK : Fld := ⟨R.TIME_ID, 15, 8⟩
def F.TIME_ID.VERSION : Fld := ⟨R.TIME_ID, 7, 0⟩
def F.TIME_INT_STATUS.BITS8 : Fld := ⟨R.TIME_INT_STATUS, 17, 8⟩
def F.TIME_INT_STATUS.BITS0 : Fld := ⟨R.TIME_INT_STATUS, 5, 0⟩
def F.TIME_INT_ENABLE.BITS8 : Fld := ⟨R.TIME_INT_ENABLE, 17, 8⟩
def F.TIME_INT_ENABLE.BITS0 : Fld := ⟨R.TIME_INT_ENABLE, 5, 0⟩
def F.TIME_INT_SET.BITS8 : Fld := ⟨R.TIME_INT_SET, 17, 8⟩
def F.TIME_INT_SET.BITS0 : Fld := ⟨R.TIME_INT_SET, 5, 0⟩
def F.TIME_STATUS.ROLE : Fld := ⟨R.TIME_STATUS, 11, 10⟩
def F.TIME_STATUS.TT_STATE : Fld := ⟨R.TIME_STATUS, 9, 8⟩
def F.TIME_STATUS.SERVO_ACTIVE : Fld := ⟨R.TIME_STATUS, 6, 6⟩
def F.TIME_STATUS.REF : Fld := ⟨R.TIME_STATUS, 5, 4⟩
def F.TIME_STATUS.SLEWING : Fld := ⟨R.TIME_STATUS, 3, 3⟩
def F.TIME_STATUS.PLL_LOCK : Fld := ⟨R.TIME_STATUS, 2, 2⟩
def F.TIME_STATUS.HOLDOVER : Fld := ⟨R.TIME_STATUS, 1, 1⟩
def F.TIME_STATUS.VALID : Fld := ⟨R.TIME_STATUS, 0, 0⟩
def F.TIME_CTRL.INVALIDATE : Fld := ⟨R.TIME_CTRL, 1, 1⟩
def F.TIME_CTRL.SERVO_EN : Fld := ⟨R.TIME_CTRL, 0, 0⟩
def F.TIME_SERVO.STEP_US : Fld := ⟨R.TIME_SERVO, 31, 24⟩
def F.TIME_SERVO.LOCK_NS : Fld := ⟨R.TIME_SERVO, 23, 16⟩
def F.TIME_SERVO.KI : Fld := ⟨R.TIME_SERVO, 11, 8⟩
def F.TIME_SERVO.KP : Fld := ⟨R.TIME_SERVO, 3, 0⟩
def F.TIME_NOW_0.WORD : Fld := ⟨R.TIME_NOW_0, 31, 0⟩
def F.TIME_NOW_1.WORD : Fld := ⟨R.TIME_NOW_1, 31, 0⟩
def F.TIME_NOW_2.WORD : Fld := ⟨R.TIME_NOW_2, 31, 0⟩
def F.TIME_NOW_3.WORD : Fld := ⟨R.TIME_NOW_3, 31, 0⟩
def F.TIME_SET_0.WORD : Fld := ⟨R.TIME_SET_0, 31, 0⟩
def F.TIME_SET_1.WORD : Fld := ⟨R.TIME_SET_1, 31, 0⟩
def F.TIME_SET_2.WORD : Fld := ⟨R.TIME_SET_2, 31, 0⟩
def F.TIME_SET_3.WORD : Fld := ⟨R.TIME_SET_3, 31, 0⟩
def F.TIME_ADJ_LO.FRAC : Fld := ⟨R.TIME_ADJ_LO, 31, 16⟩
def F.TIME_ADJ_HI.NS : Fld := ⟨R.TIME_ADJ_HI, 31, 0⟩
def F.TIME_ADJ_CTRL.SLEW_PPM : Fld := ⟨R.TIME_ADJ_CTRL, 25, 16⟩
def F.TIME_ADJ_CTRL.MODE : Fld := ⟨R.TIME_ADJ_CTRL, 0, 0⟩
def F.TIME_ADJ_REMAIN.NS : Fld := ⟨R.TIME_ADJ_REMAIN, 31, 0⟩
def F.TIME_FREQ.F : Fld := ⟨R.TIME_FREQ, 31, 0⟩
def F.TIME_FREQ_APPLIED.F : Fld := ⟨R.TIME_FREQ_APPLIED, 31, 0⟩
def F.TIME_LINE_A_TX_EXT.VALUE : Fld := ⟨R.TIME_LINE_A_TX_EXT, 31, 0⟩
def F.TIME_LINE_A_RX_EXT.VALUE : Fld := ⟨R.TIME_LINE_A_RX_EXT, 31, 0⟩
def F.TIME_LINE_B_TX_EXT.VALUE : Fld := ⟨R.TIME_LINE_B_TX_EXT, 31, 0⟩
def F.TIME_LINE_B_RX_EXT.VALUE : Fld := ⟨R.TIME_LINE_B_RX_EXT, 31, 0⟩
def F.TIME_TT_OFFSET.VALUE : Fld := ⟨R.TIME_TT_OFFSET, 31, 0⟩
def F.TIME_TT_DELAY.VALUE : Fld := ⟨R.TIME_TT_DELAY, 31, 0⟩
def F.TIME_ASYMMETRY.VALUE : Fld := ⟨R.TIME_ASYMMETRY, 31, 0⟩
def F.TIME_TT_STATUS.SEQ : Fld := ⟨R.TIME_TT_STATUS, 31, 16⟩
def F.TIME_TT_STATUS.DISCARDED : Fld := ⟨R.TIME_TT_STATUS, 15, 0⟩
def F.TIME_PORT_CTRL.TC_EN (p : Nat) : Fld := ⟨(R.TIME_PORT_CTRL p), 0, 0⟩
def F.TIME_PORT_IN_LAT.VALUE (p : Nat) : Fld := ⟨(R.TIME_PORT_IN_LAT p), 31, 0⟩
def F.TIME_PORT_OUT_LAT.VALUE (p : Nat) : Fld := ⟨(R.TIME_PORT_OUT_LAT p), 31, 0⟩
def F.TIME_PORT_CORRECTED.COUNT (p : Nat) : Fld := ⟨(R.TIME_PORT_CORRECTED p), 31, 0⟩
def F.TIME_PORT_FAULTS.UNSYNC (p : Nat) : Fld := ⟨(R.TIME_PORT_FAULTS p), 31, 16⟩
def F.TIME_PORT_FAULTS.RANGE (p : Nat) : Fld := ⟨(R.TIME_PORT_FAULTS p), 15, 0⟩
def F.TIME_PORT_FIELD.UNSTAMPED (p : Nat) : Fld := ⟨(R.TIME_PORT_FIELD p), 31, 16⟩
def F.TIME_PORT_FIELD.NONZERO (p : Nat) : Fld := ⟨(R.TIME_PORT_FIELD p), 15, 0⟩
def F.TP_CTRL.LATE (n : Nat) : Fld := ⟨(R.TP_CTRL n), 9, 9⟩
def F.TP_CTRL.ACTIVE (n : Nat) : Fld := ⟨(R.TP_CTRL n), 8, 8⟩
def F.TP_CTRL.POLARITY (n : Nat) : Fld := ⟨(R.TP_CTRL n), 4, 4⟩
def F.TP_CTRL.MODE (n : Nat) : Fld := ⟨(R.TP_CTRL n), 3, 3⟩
def F.TP_CTRL.STOP (n : Nat) : Fld := ⟨(R.TP_CTRL n), 1, 1⟩
def F.TP_CTRL.ARM (n : Nat) : Fld := ⟨(R.TP_CTRL n), 0, 0⟩
def F.TP_START_0.FRAC (n : Nat) : Fld := ⟨(R.TP_START_0 n), 31, 16⟩
def F.TP_START_1.NS (n : Nat) : Fld := ⟨(R.TP_START_1 n), 29, 0⟩
def F.TP_START_2.SEC_LO (n : Nat) : Fld := ⟨(R.TP_START_2 n), 31, 0⟩
def F.TP_START_3.SEC_HI (n : Nat) : Fld := ⟨(R.TP_START_3 n), 15, 0⟩
def F.TP_PERIOD.NS (n : Nat) : Fld := ⟨(R.TP_PERIOD n), 31, 0⟩
def F.TP_WIDTH.NS (n : Nat) : Fld := ⟨(R.TP_WIDTH n), 31, 0⟩
def F.TP_DELAY.VALUE (n : Nat) : Fld := ⟨(R.TP_DELAY n), 31, 0⟩
def F.TC_CTRL.LOST (m : Nat) : Fld := ⟨(R.TC_CTRL m), 31, 16⟩
def F.TC_CTRL.LEVEL (m : Nat) : Fld := ⟨(R.TC_CTRL m), 12, 8⟩
def F.TC_CTRL.EDGE (m : Nat) : Fld := ⟨(R.TC_CTRL m), 2, 1⟩
def F.TC_CTRL.EN (m : Nat) : Fld := ⟨(R.TC_CTRL m), 0, 0⟩
def F.TC_CAP_0.WORD (m : Nat) : Fld := ⟨(R.TC_CAP_0 m), 31, 0⟩
def F.TC_CAP_1.WORD (m : Nat) : Fld := ⟨(R.TC_CAP_1 m), 31, 0⟩
def F.TC_CAP_2.WORD (m : Nat) : Fld := ⟨(R.TC_CAP_2 m), 31, 0⟩
def F.TC_CAP_3.WORD (m : Nat) : Fld := ⟨(R.TC_CAP_3 m), 31, 0⟩
def F.TC_DELAY.VALUE (m : Nat) : Fld := ⟨(R.TC_DELAY m), 31, 0⟩
def F.HEADLAND_ID.BLOCK : Fld := ⟨R.HEADLAND_ID, 15, 8⟩
def F.HEADLAND_ID.VERSION : Fld := ⟨R.HEADLAND_ID, 7, 0⟩
def F.HEADLAND_INT_STATUS.BITS0 : Fld := ⟨R.HEADLAND_INT_STATUS, 10, 0⟩
def F.HEADLAND_INT_ENABLE.BITS0 : Fld := ⟨R.HEADLAND_INT_ENABLE, 10, 0⟩
def F.HEADLAND_INT_SET.BITS0 : Fld := ⟨R.HEADLAND_INT_SET, 10, 0⟩
def F.HEADLAND_RX_CFG.CAPTURE_DB : Fld := ⟨R.HEADLAND_RX_CFG, 23, 16⟩
def F.HEADLAND_RX_CFG.SYNC_TOL : Fld := ⟨R.HEADLAND_RX_CFG, 11, 8⟩
def F.HEADLAND_RX_CFG.RX_MASK : Fld := ⟨R.HEADLAND_RX_CFG, 7, 0⟩
def F.HEADLAND_SYNC_WORD.WORD : Fld := ⟨R.HEADLAND_SYNC_WORD, 31, 0⟩
def F.HEADLAND_IN_CFG.SYNC : Fld := ⟨R.HEADLAND_IN_CFG, 31, 31⟩
def F.HEADLAND_IN_CFG.DC_K : Fld := ⟨R.HEADLAND_IN_CFG, 20, 16⟩
def F.HEADLAND_IN_CFG.DC_FREEZE : Fld := ⟨R.HEADLAND_IN_CFG, 9, 9⟩
def F.HEADLAND_IN_CFG.AUTO_SHIFT : Fld := ⟨R.HEADLAND_IN_CFG, 8, 8⟩
def F.HEADLAND_IN_CFG.LOOP : Fld := ⟨R.HEADLAND_IN_CFG, 4, 4⟩
def F.HEADLAND_IN_CFG.IN_B_EN : Fld := ⟨R.HEADLAND_IN_CFG, 1, 1⟩
def F.HEADLAND_IN_CFG.IN_A_EN : Fld := ⟨R.HEADLAND_IN_CFG, 0, 0⟩
def F.HEADLAND_DC_LEVEL.SETTLED : Fld := ⟨R.HEADLAND_DC_LEVEL, 31, 31⟩
def F.HEADLAND_DC_LEVEL.LEVEL : Fld := ⟨R.HEADLAND_DC_LEVEL, 23, 0⟩
def F.HEADLAND_IN_DET.VALID : Fld := ⟨R.HEADLAND_IN_DET, 31, 31⟩
def F.HEADLAND_IN_DET.SEQ : Fld := ⟨R.HEADLAND_IN_DET, 30, 24⟩
def F.HEADLAND_IN_DET.PEAK : Fld := ⟨R.HEADLAND_IN_DET, 23, 12⟩
def F.HEADLAND_IN_DET.RMS : Fld := ⟨R.HEADLAND_IN_DET, 11, 0⟩
def F.HEADLAND_DET_CFG.DEC : Fld := ⟨R.HEADLAND_DET_CFG, 15, 12⟩
def F.HEADLAND_DET_CFG.ATK : Fld := ⟨R.HEADLAND_DET_CFG, 11, 8⟩
def F.HEADLAND_DET_CFG.WIN : Fld := ⟨R.HEADLAND_DET_CFG, 2, 0⟩
def F.HEADLAND_BEACON.INTERVAL : Fld := ⟨R.HEADLAND_BEACON, 13, 0⟩
def F.HEADLAND_IN_CLIP.CLIPS : Fld := ⟨R.HEADLAND_IN_CLIP, 15, 0⟩
def F.HEADLAND_TX_CTRL.LENGTH : Fld := ⟨R.HEADLAND_TX_CTRL, 29, 24⟩
def F.HEADLAND_TX_CTRL.SUB : Fld := ⟨R.HEADLAND_TX_CTRL, 18, 16⟩
def F.HEADLAND_TX_CTRL.CARRIER : Fld := ⟨R.HEADLAND_TX_CTRL, 12, 12⟩
def F.HEADLAND_TX_CTRL.ABORTED : Fld := ⟨R.HEADLAND_TX_CTRL, 9, 9⟩
def F.HEADLAND_TX_CTRL.BUSY : Fld := ⟨R.HEADLAND_TX_CTRL, 8, 8⟩
def F.HEADLAND_TX_CTRL.ABORT : Fld := ⟨R.HEADLAND_TX_CTRL, 1, 1⟩
def F.HEADLAND_TX_CTRL.GO : Fld := ⟨R.HEADLAND_TX_CTRL, 0, 0⟩
def F.HEADLAND_TX_DATA.WORD (k : Nat) : Fld := ⟨(R.HEADLAND_TX_DATA k), 31, 0⟩
def F.HEADLAND_TX_COUNT.DROPPED : Fld := ⟨R.HEADLAND_TX_COUNT, 31, 24⟩
def F.HEADLAND_TX_COUNT.REFUSED : Fld := ⟨R.HEADLAND_TX_COUNT, 23, 16⟩
def F.HEADLAND_TX_COUNT.SENT : Fld := ⟨R.HEADLAND_TX_COUNT, 15, 0⟩
def F.HEADLAND_TX_STATUS.DARKENED : Fld := ⟨R.HEADLAND_TX_STATUS, 16, 16⟩
def F.HEADLAND_TX_STATUS.REASON : Fld := ⟨R.HEADLAND_TX_STATUS, 2, 0⟩
def F.HEADLAND_CHAIN_CFG.SHIFT2 (k : Nat) : Fld := ⟨(R.HEADLAND_CHAIN_CFG k), 20, 16⟩
def F.HEADLAND_CHAIN_CFG.SHIFT1 (k : Nat) : Fld := ⟨(R.HEADLAND_CHAIN_CFG k), 12, 8⟩
def F.HEADLAND_CHAIN_CFG.SHIFT0 (k : Nat) : Fld := ⟨(R.HEADLAND_CHAIN_CFG k), 4, 0⟩
def F.HEADLAND_CHAIN_STATUS.ENV (k : Nat) : Fld := ⟨(R.HEADLAND_CHAIN_STATUS k), 31, 24⟩
def F.HEADLAND_CHAIN_STATUS.RSSI (k : Nat) : Fld := ⟨(R.HEADLAND_CHAIN_STATUS k), 23, 16⟩
def F.HEADLAND_CHAIN_STATUS.RXSTATE (k : Nat) : Fld := ⟨(R.HEADLAND_CHAIN_STATUS k), 3, 2⟩
def F.HEADLAND_CHAIN_STATUS.REDUCED (k : Nat) : Fld := ⟨(R.HEADLAND_CHAIN_STATUS k), 1, 1⟩
def F.HEADLAND_CHAIN_STATUS.SETTLED (k : Nat) : Fld := ⟨(R.HEADLAND_CHAIN_STATUS k), 0, 0⟩
def F.HEADLAND_CHAIN_APPLIED.SHIFT2 (k : Nat) : Fld := ⟨(R.HEADLAND_CHAIN_APPLIED k), 20, 16⟩
def F.HEADLAND_CHAIN_APPLIED.SHIFT1 (k : Nat) : Fld := ⟨(R.HEADLAND_CHAIN_APPLIED k), 12, 8⟩
def F.HEADLAND_CHAIN_APPLIED.SHIFT0 (k : Nat) : Fld := ⟨(R.HEADLAND_CHAIN_APPLIED k), 4, 0⟩
def F.HEADLAND_CHAIN_SAT.COUNT (k : Nat) : Fld := ⟨(R.HEADLAND_CHAIN_SAT k), 15, 0⟩
def F.HEADLAND_CHAIN_RX_COUNT.GOOD (k : Nat) : Fld := ⟨(R.HEADLAND_CHAIN_RX_COUNT k), 31, 24⟩
def F.HEADLAND_CHAIN_RX_COUNT.CRC_BAD (k : Nat) : Fld := ⟨(R.HEADLAND_CHAIN_RX_COUNT k), 23, 16⟩
def F.HEADLAND_CHAIN_RX_COUNT.HDR_BAD (k : Nat) : Fld := ⟨(R.HEADLAND_CHAIN_RX_COUNT k), 15, 8⟩
def F.HEADLAND_CHAIN_RX_COUNT.NO_SYNC (k : Nat) : Fld := ⟨(R.HEADLAND_CHAIN_RX_COUNT k), 7, 0⟩
def F.HEADLAND_CHAIN_CAPTURE.FALSE_START (k : Nat) : Fld := ⟨(R.HEADLAND_CHAIN_CAPTURE k), 31, 24⟩
def F.HEADLAND_CHAIN_CAPTURE.CAPTURED_OVER (k : Nat) : Fld := ⟨(R.HEADLAND_CHAIN_CAPTURE k), 23, 16⟩
def F.HEADLAND_CHAIN_CAPTURE.IGNORED (k : Nat) : Fld := ⟨(R.HEADLAND_CHAIN_CAPTURE k), 15, 8⟩
def F.HEADLAND_CHAIN_CAPTURE.ABANDONED (k : Nat) : Fld := ⟨(R.HEADLAND_CHAIN_CAPTURE k), 7, 0⟩
def F.HEADLAND_RXQ_HEAD0.VALID : Fld := ⟨R.HEADLAND_RXQ_HEAD0, 31, 31⟩
def F.HEADLAND_RXQ_HEAD0.SUB : Fld := ⟨R.HEADLAND_RXQ_HEAD0, 26, 24⟩
def F.HEADLAND_RXQ_HEAD0.LENGTH : Fld := ⟨R.HEADLAND_RXQ_HEAD0, 21, 16⟩
def F.HEADLAND_RXQ_HEAD0.RSSI : Fld := ⟨R.HEADLAND_RXQ_HEAD0, 15, 8⟩
def F.HEADLAND_RXQ_HEAD0.CAPTURED : Fld := ⟨R.HEADLAND_RXQ_HEAD0, 1, 1⟩
def F.HEADLAND_RXQ_HEAD0.RESTARTED : Fld := ⟨R.HEADLAND_RXQ_HEAD0, 0, 0⟩
def F.HEADLAND_RXQ_HEAD1.SEQ : Fld := ⟨R.HEADLAND_RXQ_HEAD1, 31, 16⟩
def F.HEADLAND_RXQ_HEAD1.FOFFSET : Fld := ⟨R.HEADLAND_RXQ_HEAD1, 15, 0⟩
def F.HEADLAND_RXQ_CTRL.OVERFLOW : Fld := ⟨R.HEADLAND_RXQ_CTRL, 31, 16⟩
def F.HEADLAND_RXQ_CTRL.LEVEL : Fld := ⟨R.HEADLAND_RXQ_CTRL, 11, 8⟩
def F.HEADLAND_RXQ_CTRL.POP : Fld := ⟨R.HEADLAND_RXQ_CTRL, 0, 0⟩
def F.HEADLAND_RXQ_DATA.WORD (k : Nat) : Fld := ⟨(R.HEADLAND_RXQ_DATA k), 31, 0⟩
def F.HKADC_ID.BLOCK : Fld := ⟨R.HKADC_ID, 15, 8⟩
def F.HKADC_ID.VERSION : Fld := ⟨R.HKADC_ID, 7, 0⟩
def F.HKADC_INT_STATUS.BITS0 : Fld := ⟨R.HKADC_INT_STATUS, 6, 0⟩
def F.HKADC_INT_ENABLE.BITS0 : Fld := ⟨R.HKADC_INT_ENABLE, 6, 0⟩
def F.HKADC_INT_SET.BITS0 : Fld := ⟨R.HKADC_INT_SET, 6, 0⟩
def F.HKADC_SEQ_CTRL.START : Fld := ⟨R.HKADC_SEQ_CTRL, 31, 31⟩
def F.HKADC_SEQ_CTRL.LOW_POWER : Fld := ⟨R.HKADC_SEQ_CTRL, 8, 8⟩
def F.HKADC_SEQ_CTRL.LENGTH : Fld := ⟨R.HKADC_SEQ_CTRL, 7, 4⟩
def F.HKADC_SEQ_CTRL.MODE : Fld := ⟨R.HKADC_SEQ_CTRL, 1, 0⟩
def F.HKADC_SEQ_STATUS.LATE : Fld := ⟨R.HKADC_SEQ_STATUS, 31, 16⟩
def F.HKADC_SEQ_STATUS.PASS_US : Fld := ⟨R.HKADC_SEQ_STATUS, 15, 8⟩
def F.HKADC_SEQ_STATUS.LP_ACTIVE : Fld := ⟨R.HKADC_SEQ_STATUS, 1, 1⟩
def F.HKADC_SEQ_STATUS.RUNNING : Fld := ⟨R.HKADC_SEQ_STATUS, 0, 0⟩
def F.HKADC_INJ_CTRL.GO : Fld := ⟨R.HKADC_INJ_CTRL, 31, 31⟩
def F.HKADC_INJ_CTRL.LEVEL : Fld := ⟨R.HKADC_INJ_CTRL, 18, 16⟩
def F.HKADC_INJ_CTRL.SAMPLE : Fld := ⟨R.HKADC_INJ_CTRL, 11, 8⟩
def F.HKADC_INJ_CTRL.GAIN : Fld := ⟨R.HKADC_INJ_CTRL, 7, 6⟩
def F.HKADC_INJ_CTRL.CHANNEL : Fld := ⟨R.HKADC_INJ_CTRL, 4, 0⟩
def F.HKADC_INJ_RESULT.VALID : Fld := ⟨R.HKADC_INJ_RESULT, 31, 31⟩
def F.HKADC_INJ_RESULT.OVERRUN : Fld := ⟨R.HKADC_INJ_RESULT, 30, 30⟩
def F.HKADC_INJ_RESULT.TAG : Fld := ⟨R.HKADC_INJ_RESULT, 29, 24⟩
def F.HKADC_INJ_RESULT.VALUE : Fld := ⟨R.HKADC_INJ_RESULT, 23, 0⟩
def F.HKADC_COUNT.INJ_DROPPED : Fld := ⟨R.HKADC_COUNT, 15, 0⟩
def F.HKADC_CAL_CTRL.CMD : Fld := ⟨R.HKADC_CAL_CTRL, 31, 28⟩
def F.HKADC_CAL_CTRL.STATE : Fld := ⟨R.HKADC_CAL_CTRL, 27, 24⟩
def F.HKADC_CAL_CTRL.REASON : Fld := ⟨R.HKADC_CAL_CTRL, 23, 20⟩
def F.HKADC_CAL_CTRL.GAIN : Fld := ⟨R.HKADC_CAL_CTRL, 17, 16⟩
def F.HKADC_CAL_CTRL.CHANNEL : Fld := ⟨R.HKADC_CAL_CTRL, 4, 0⟩
def F.HKADC_CAL_TARGET.FS_TARGET : Fld := ⟨R.HKADC_CAL_TARGET, 11, 0⟩
def F.HKADC_TESTDAC.DIAG : Fld := ⟨R.HKADC_TESTDAC, 31, 31⟩
def F.HKADC_TESTDAC.RESULT : Fld := ⟨R.HKADC_TESTDAC, 30, 28⟩
def F.HKADC_TESTDAC.CHANNEL : Fld := ⟨R.HKADC_TESTDAC, 20, 16⟩
def F.HKADC_TESTDAC.CODE : Fld := ⟨R.HKADC_TESTDAC, 9, 0⟩
def F.HKADC_DIAG.TOL : Fld := ⟨R.HKADC_DIAG, 31, 24⟩
def F.HKADC_DIAG.WORST : Fld := ⟨R.HKADC_DIAG, 15, 0⟩
def F.HKADC_ENTRY.GAIN (e : Nat) : Fld := ⟨(R.HKADC_ENTRY e), 17, 16⟩
def F.HKADC_ENTRY.SAMPLE (e : Nat) : Fld := ⟨(R.HKADC_ENTRY e), 15, 8⟩
def F.HKADC_ENTRY.CHANNEL (e : Nat) : Fld := ⟨(R.HKADC_ENTRY e), 4, 0⟩
def F.HKADC_RESULT.VALID (e : Nat) : Fld := ⟨(R.HKADC_RESULT e), 31, 31⟩
def F.HKADC_RESULT.OVERRUN (e : Nat) : Fld := ⟨(R.HKADC_RESULT e), 30, 30⟩
def F.HKADC_RESULT.TAG (e : Nat) : Fld := ⟨(R.HKADC_RESULT e), 29, 24⟩
def F.HKADC_RESULT.VALUE (e : Nat) : Fld := ⟨(R.HKADC_RESULT e), 23, 0⟩
def F.HKADC_CAL_OFS.OFS (j : Nat) : Fld := ⟨(R.HKADC_CAL_OFS j), 23, 0⟩
def F.HKADC_CAL_G.G (j : Nat) : Fld := ⟨(R.HKADC_CAL_G j), 23, 0⟩
def F.PDAC_ID.BLOCK : Fld := ⟨R.PDAC_ID, 15, 8⟩
def F.PDAC_ID.VERSION : Fld := ⟨R.PDAC_ID, 7, 0⟩
def F.PDAC_INT_STATUS.BITS0 : Fld := ⟨R.PDAC_INT_STATUS, 5, 0⟩
def F.PDAC_INT_ENABLE.BITS0 : Fld := ⟨R.PDAC_INT_ENABLE, 5, 0⟩
def F.PDAC_INT_SET.BITS0 : Fld := ⟨R.PDAC_INT_SET, 5, 0⟩
def F.PDAC_GLOBAL.TEMP : Fld := ⟨R.PDAC_GLOBAL, 31, 24⟩
def F.PDAC_GLOBAL.OT_LIMIT : Fld := ⟨R.PDAC_GLOBAL, 23, 16⟩
def F.PDAC_GLOBAL.OT : Fld := ⟨R.PDAC_GLOBAL, 8, 8⟩
def F.PDAC_GLOBAL.MON : Fld := ⟨R.PDAC_GLOBAL, 4, 0⟩
def F.PDAC_OT_STATUS.TRIPS : Fld := ⟨R.PDAC_OT_STATUS, 31, 16⟩
def F.PDAC_OT_STATUS.LATCHED : Fld := ⟨R.PDAC_OT_STATUS, 0, 0⟩
def F.PDAC_SINE_FTW.FTW (g : Nat) : Fld := ⟨(R.PDAC_SINE_FTW g), 31, 0⟩
def F.PDAC_SINE_AMP.EN (g : Nat) : Fld := ⟨(R.PDAC_SINE_AMP g), 31, 31⟩
def F.PDAC_SINE_AMP.AMP (g : Nat) : Fld := ⟨(R.PDAC_SINE_AMP g), 14, 0⟩
def F.PDAC_SINE_PHASE.VALUE (g : Nat) : Fld := ⟨(R.PDAC_SINE_PHASE g), 31, 0⟩
def F.PDAC_CH_CFG.SPAN_BUSY (k : Nat) : Fld := ⟨(R.PDAC_CH_CFG k), 31, 31⟩
def F.PDAC_CH_CFG.SINE_SEL (k : Nat) : Fld := ⟨(R.PDAC_CH_CFG k), 19, 18⟩
def F.PDAC_CH_CFG.SINE_EN (k : Nat) : Fld := ⟨(R.PDAC_CH_CFG k), 17, 17⟩
def F.PDAC_CH_CFG.OT_SAFE (k : Nat) : Fld := ⟨(R.PDAC_CH_CFG k), 16, 16⟩
def F.PDAC_CH_CFG.SPAN (k : Nat) : Fld := ⟨(R.PDAC_CH_CFG k), 9, 8⟩
def F.PDAC_CH_CFG.SOURCE (k : Nat) : Fld := ⟨(R.PDAC_CH_CFG k), 1, 0⟩
def F.PDAC_CH_CODE.APPLIED (k : Nat) : Fld := ⟨(R.PDAC_CH_CODE k), 31, 16⟩
def F.PDAC_CH_CODE.CODE (k : Nat) : Fld := ⟨(R.PDAC_CH_CODE k), 15, 0⟩
def F.PDAC_CH_SAFE.SAFE_MV (k : Nat) : Fld := ⟨(R.PDAC_CH_SAFE k), 12, 0⟩
def F.PDAC_CH_QUEUE.CODE (k : Nat) : Fld := ⟨(R.PDAC_CH_QUEUE k), 15, 0⟩
def F.PDAC_CH_CLOCK.LEVEL (k : Nat) : Fld := ⟨(R.PDAC_CH_CLOCK k), 28, 24⟩
def F.PDAC_CH_CLOCK.DIV (k : Nat) : Fld := ⟨(R.PDAC_CH_CLOCK k), 15, 0⟩
def F.PDAC_CH_COUNT.UNDERFLOW (k : Nat) : Fld := ⟨(R.PDAC_CH_COUNT k), 31, 24⟩
def F.PDAC_CH_COUNT.OVERFLOW (k : Nat) : Fld := ⟨(R.PDAC_CH_COUNT k), 23, 16⟩
def F.PDAC_CH_COUNT.SPAN_REFUSED (k : Nat) : Fld := ⟨(R.PDAC_CH_COUNT k), 15, 8⟩
def F.PDAC_CH_COUNT.SINE_CLIP (k : Nat) : Fld := ⟨(R.PDAC_CH_COUNT k), 7, 0⟩
def F.PDAC_CH_SLEW.RATE (d : Nat) : Fld := ⟨(R.PDAC_CH_SLEW d), 31, 16⟩
def F.PDAC_CH_SLEW.STEP (d : Nat) : Fld := ⟨(R.PDAC_CH_SLEW d), 15, 0⟩
def F.LOOP_ID.BLOCK : Fld := ⟨R.LOOP_ID, 15, 8⟩
def F.LOOP_ID.VERSION : Fld := ⟨R.LOOP_ID, 7, 0⟩
def F.LOOP_INT_STATUS.TRACE_STOP : Fld := ⟨R.LOOP_INT_STATUS, 19, 16⟩
def F.LOOP_INT_STATUS.LOOP : Fld := ⟨R.LOOP_INT_STATUS, 15, 0⟩
def F.LOOP_INT_ENABLE.BITS0 : Fld := ⟨R.LOOP_INT_ENABLE, 19, 0⟩
def F.LOOP_INT_SET.BITS0 : Fld := ⟨R.LOOP_INT_SET, 19, 0⟩
def F.LOOP_FRAME.COUNT : Fld := ⟨R.LOOP_FRAME, 31, 0⟩
def F.LOOP_ENGINE_LOAD.PEAK : Fld := ⟨R.LOOP_ENGINE_LOAD, 25, 16⟩
def F.LOOP_ENGINE_LOAD.LAST : Fld := ⟨R.LOOP_ENGINE_LOAD, 9, 0⟩
def F.LOOP_TRACE_CTRL.POST (b : Nat) : Fld := ⟨(R.LOOP_TRACE_CTRL b), 27, 16⟩
def F.LOOP_TRACE_CTRL.EVERY_FRAME (b : Nat) : Fld := ⟨(R.LOOP_TRACE_CTRL b), 11, 11⟩
def F.LOOP_TRACE_CTRL.STOP_ON_EVENT (b : Nat) : Fld := ⟨(R.LOOP_TRACE_CTRL b), 10, 10⟩
def F.LOOP_TRACE_CTRL.RUN (b : Nat) : Fld := ⟨(R.LOOP_TRACE_CTRL b), 9, 9⟩
def F.LOOP_TRACE_CTRL.SIGNAL (b : Nat) : Fld := ⟨(R.LOOP_TRACE_CTRL b), 6, 4⟩
def F.LOOP_TRACE_CTRL.LOOP (b : Nat) : Fld := ⟨(R.LOOP_TRACE_CTRL b), 3, 0⟩
def F.LOOP_TRACE_STATUS.WRAPPED (b : Nat) : Fld := ⟨(R.LOOP_TRACE_STATUS b), 13, 13⟩
def F.LOOP_TRACE_STATUS.STOPPED (b : Nat) : Fld := ⟨(R.LOOP_TRACE_STATUS b), 12, 12⟩
def F.LOOP_TRACE_STATUS.WR_PTR (b : Nat) : Fld := ⟨(R.LOOP_TRACE_STATUS b), 11, 0⟩
def F.LOOP_CTRL.PDAC (n : Nat) : Fld := ⟨(R.LOOP_CTRL n), 28, 24⟩
def F.LOOP_CTRL.DIV (n : Nat) : Fld := ⟨(R.LOOP_CTRL n), 23, 16⟩
def F.LOOP_CTRL.FE_HOLD (n : Nat) : Fld := ⟨(R.LOOP_CTRL n), 11, 11⟩
def F.LOOP_CTRL.AUTO_RECLOSE (n : Nat) : Fld := ⟨(R.LOOP_CTRL n), 9, 9⟩
def F.LOOP_CTRL.SAFE_ON_LOSS (n : Nat) : Fld := ⟨(R.LOOP_CTRL n), 8, 8⟩
def F.LOOP_CTRL.MODE (n : Nat) : Fld := ⟨(R.LOOP_CTRL n), 2, 0⟩
def F.LOOP_INPUT.AUX_LIMIT (n : Nat) : Fld := ⟨(R.LOOP_INPUT n), 27, 16⟩
def F.LOOP_INPUT.AUX_EN (n : Nat) : Fld := ⟨(R.LOOP_INPUT n), 8, 8⟩
def F.LOOP_INPUT.AUX_ENTRY (n : Nat) : Fld := ⟨(R.LOOP_INPUT n), 7, 4⟩
def F.LOOP_INPUT.FB_ENTRY (n : Nat) : Fld := ⟨(R.LOOP_INPUT n), 3, 0⟩
def F.LOOP_STALE.STALE_MOVE (n : Nat) : Fld := ⟨(R.LOOP_STALE n), 31, 16⟩
def F.LOOP_STALE.STALE_COUNT (n : Nat) : Fld := ⟨(R.LOOP_STALE n), 15, 8⟩
def F.LOOP_STALE.STALE_BAND (n : Nat) : Fld := ⟨(R.LOOP_STALE n), 7, 0⟩
def F.LOOP_PLAUS.PLAUS_MAX (n : Nat) : Fld := ⟨(R.LOOP_PLAUS n), 27, 16⟩
def F.LOOP_PLAUS.PLAUS_MIN (n : Nat) : Fld := ⟨(R.LOOP_PLAUS n), 11, 0⟩
def F.LOOP_FE.FE_TIME (n : Nat) : Fld := ⟨(R.LOOP_FE n), 31, 24⟩
def F.LOOP_FE.FE_LIMIT (n : Nat) : Fld := ⟨(R.LOOP_FE n), 23, 0⟩
def F.LOOP_MAN_OUT.MAN_OUT (n : Nat) : Fld := ⟨(R.LOOP_MAN_OUT n), 15, 0⟩
def F.LOOP_P_LAW.INVERT (n : Nat) (x : Nat) : Fld := ⟨(R.LOOP_P_LAW n x), 12, 12⟩
def F.LOOP_P_LAW.GEN (n : Nat) (x : Nat) : Fld := ⟨(R.LOOP_P_LAW n x), 9, 8⟩
def F.LOOP_P_LAW.HARM (n : Nat) (x : Nat) : Fld := ⟨(R.LOOP_P_LAW n x), 5, 4⟩
def F.LOOP_P_LAW.LAW (n : Nat) (x : Nat) : Fld := ⟨(R.LOOP_P_LAW n x), 2, 0⟩
def F.LOOP_P_SETPOINT.VALUE (n : Nat) (x : Nat) : Fld := ⟨(R.LOOP_P_SETPOINT n x), 23, 0⟩
def F.LOOP_P_KP.VALUE (n : Nat) (x : Nat) : Fld := ⟨(R.LOOP_P_KP n x), 23, 0⟩
def F.LOOP_P_KI.VALUE (n : Nat) (x : Nat) : Fld := ⟨(R.LOOP_P_KI n x), 23, 0⟩
def F.LOOP_P_KD_SCALE.VALUE (n : Nat) (x : Nat) : Fld := ⟨(R.LOOP_P_KD_SCALE n x), 23, 0⟩
def F.LOOP_P_OFFSET.VALUE (n : Nat) (x : Nat) : Fld := ⟨(R.LOOP_P_OFFSET n x), 23, 0⟩
def F.LOOP_P_OUT_LIM.OUT_MAX (n : Nat) (x : Nat) : Fld := ⟨(R.LOOP_P_OUT_LIM n x), 31, 16⟩
def F.LOOP_P_OUT_LIM.OUT_MIN (n : Nat) (x : Nat) : Fld := ⟨(R.LOOP_P_OUT_LIM n x), 15, 0⟩
def F.LOOP_STATUS.REFUSED (n : Nat) : Fld := ⟨(R.LOOP_STATUS n), 31, 24⟩
def F.LOOP_STATUS.LOSS_CAUSE (n : Nat) : Fld := ⟨(R.LOOP_STATUS n), 9, 8⟩
def F.LOOP_STATUS.HOLD_CAUSE (n : Nat) : Fld := ⟨(R.LOOP_STATUS n), 6, 4⟩
def F.LOOP_STATUS.STATE (n : Nat) : Fld := ⟨(R.LOOP_STATUS n), 2, 0⟩
def F.LOOP_OUT.GOOD (n : Nat) : Fld := ⟨(R.LOOP_OUT n), 31, 16⟩
def F.LOOP_OUT.CODE (n : Nat) : Fld := ⟨(R.LOOP_OUT n), 15, 0⟩
def F.LOOP_ERROR.E (n : Nat) : Fld := ⟨(R.LOOP_ERROR n), 23, 0⟩
def F.LOOP_INTEG.I (n : Nat) : Fld := ⟨(R.LOOP_INTEG n), 23, 0⟩
def F.LOOP_FLAGS.RECLOSED (n : Nat) : Fld := ⟨(R.LOOP_FLAGS n), 5, 5⟩
def F.LOOP_FLAGS.AUX_LIMIT (n : Nat) : Fld := ⟨(R.LOOP_FLAGS n), 4, 4⟩
def F.LOOP_FLAGS.DL_MISS (n : Nat) : Fld := ⟨(R.LOOP_FLAGS n), 3, 3⟩
def F.LOOP_FLAGS.FE_TRIP (n : Nat) : Fld := ⟨(R.LOOP_FLAGS n), 2, 2⟩
def F.LOOP_FLAGS.MODE_CLAMP (n : Nat) : Fld := ⟨(R.LOOP_FLAGS n), 1, 1⟩
def F.LOOP_FLAGS.FB_LOST (n : Nat) : Fld := ⟨(R.LOOP_FLAGS n), 0, 0⟩
def F.LOOP_FLAG_ENABLE.BITS (n : Nat) : Fld := ⟨(R.LOOP_FLAG_ENABLE n), 5, 0⟩
def F.LOOP_COUNT.DL_MISSES (n : Nat) : Fld := ⟨(R.LOOP_COUNT n), 31, 24⟩
def F.LOOP_COUNT.FB_LOSSES (n : Nat) : Fld := ⟨(R.LOOP_COUNT n), 23, 16⟩
def F.LOOP_COUNT.FE_TRIPS (n : Nat) : Fld := ⟨(R.LOOP_COUNT n), 15, 8⟩
def F.LOOP_COUNT.CLAMPS (n : Nat) : Fld := ⟨(R.LOOP_COUNT n), 7, 0⟩
def F.LOOP_TRACE_DATA.WORD (b : Nat) (w : Nat) : Fld := ⟨(R.LOOP_TRACE_DATA b w), 31, 0⟩
def F.MEM_ID.BLOCK : Fld := ⟨R.MEM_ID, 15, 8⟩
def F.MEM_ID.VERSION : Fld := ⟨R.MEM_ID, 7, 0⟩
def F.MEM_INT_STATUS.FLIP_DONE : Fld := ⟨R.MEM_INT_STATUS, 21, 21⟩
def F.MEM_INT_STATUS.INIT_DONE : Fld := ⟨R.MEM_INT_STATUS, 20, 20⟩
def F.MEM_INT_STATUS.HARROW_SLOW : Fld := ⟨R.MEM_INT_STATUS, 19, 19⟩
def F.MEM_INT_STATUS.POISON_WRITE : Fld := ⟨R.MEM_INT_STATUS, 18, 18⟩
def F.MEM_INT_STATUS.UE_FOUND : Fld := ⟨R.MEM_INT_STATUS, 17, 17⟩
def F.MEM_INT_STATUS.CE_OVF : Fld := ⟨R.MEM_INT_STATUS, 8, 0⟩
def F.MEM_INT_ENABLE.BITS17 : Fld := ⟨R.MEM_INT_ENABLE, 21, 17⟩
def F.MEM_INT_ENABLE.BITS0 : Fld := ⟨R.MEM_INT_ENABLE, 8, 0⟩
def F.MEM_INT_SET.BITS17 : Fld := ⟨R.MEM_INT_SET, 21, 17⟩
def F.MEM_INT_SET.BITS0 : Fld := ⟨R.MEM_INT_SET, 8, 0⟩
def F.MEM_HARROW_CTRL.LAP_LIMIT : Fld := ⟨R.MEM_HARROW_CTRL, 31, 16⟩
def F.MEM_HARROW_CTRL.PACE : Fld := ⟨R.MEM_HARROW_CTRL, 5, 4⟩
def F.MEM_HARROW_CTRL.EN : Fld := ⟨R.MEM_HARROW_CTRL, 0, 0⟩
def F.MEM_HARROW_LAP.LAPS : Fld := ⟨R.MEM_HARROW_LAP, 31, 16⟩
def F.MEM_HARROW_LAP.LAST_LAP : Fld := ⟨R.MEM_HARROW_LAP, 15, 0⟩
def F.MEM_LAST_CE.REGION : Fld := ⟨R.MEM_LAST_CE, 31, 28⟩
def F.MEM_LAST_CE.SYNDROME : Fld := ⟨R.MEM_LAST_CE, 27, 20⟩
def F.MEM_LAST_CE.WORD : Fld := ⟨R.MEM_LAST_CE, 19, 0⟩
def F.MEM_LAST_UE.REGION : Fld := ⟨R.MEM_LAST_UE, 31, 28⟩
def F.MEM_LAST_UE.SYNDROME : Fld := ⟨R.MEM_LAST_UE, 27, 20⟩
def F.MEM_LAST_UE.WORD : Fld := ⟨R.MEM_LAST_UE, 19, 0⟩
def F.MEM_FLIP_DATA_LO.MASK : Fld := ⟨R.MEM_FLIP_DATA_LO, 31, 0⟩
def F.MEM_FLIP_DATA_HI.MASK : Fld := ⟨R.MEM_FLIP_DATA_HI, 31, 0⟩
def F.MEM_FLIP_CTRL.ARM : Fld := ⟨R.MEM_FLIP_CTRL, 31, 31⟩
def F.MEM_FLIP_CTRL.ARMED : Fld := ⟨R.MEM_FLIP_CTRL, 30, 30⟩
def F.MEM_FLIP_CTRL.CHECK : Fld := ⟨R.MEM_FLIP_CTRL, 15, 8⟩
def F.MEM_FLIP_CTRL.REGION : Fld := ⟨R.MEM_FLIP_CTRL, 3, 0⟩
def F.MEM_FLIP_ADDR.REGION : Fld := ⟨R.MEM_FLIP_ADDR, 31, 28⟩
def F.MEM_FLIP_ADDR.WORD : Fld := ⟨R.MEM_FLIP_ADDR, 19, 0⟩
def F.MEM_BUCKET.THRESH (r : Nat) : Fld := ⟨(R.MEM_BUCKET r), 31, 24⟩
def F.MEM_BUCKET.LEAK_MS (r : Nat) : Fld := ⟨(R.MEM_BUCKET r), 23, 8⟩
def F.MEM_BUCKET.LEVEL (r : Nat) : Fld := ⟨(R.MEM_BUCKET r), 7, 0⟩
def F.MEM_CE.COUNT (r : Nat) : Fld := ⟨(R.MEM_CE r), 31, 0⟩
def F.MEM_UE.UE (r : Nat) : Fld := ⟨(R.MEM_UE r), 31, 16⟩
def F.MEM_UE.POISON_WRITES (r : Nat) : Fld := ⟨(R.MEM_UE r), 15, 0⟩
def F.MEM_HARROW.CORRECTED (r : Nat) : Fld := ⟨(R.MEM_HARROW r), 31, 16⟩
def F.MEM_HARROW.POISONED (r : Nat) : Fld := ⟨(R.MEM_HARROW r), 15, 0⟩
def F.CXLCTL_ID.BLOCK : Fld := ⟨R.CXLCTL_ID, 15, 8⟩
def F.CXLCTL_ID.VERSION : Fld := ⟨R.CXLCTL_ID, 7, 0⟩
def F.CXLCTL_INT_STATUS.NOTIFY_OVF : Fld := ⟨R.CXLCTL_INT_STATUS, 8, 8⟩
def F.CXLCTL_INT_STATUS.VIOLATION : Fld := ⟨R.CXLCTL_INT_STATUS, 7, 7⟩
def F.CXLCTL_INT_STATUS.WIN_FAULT : Fld := ⟨R.CXLCTL_INT_STATUS, 6, 6⟩
def F.CXLCTL_INT_STATUS.WIN_LOST : Fld := ⟨R.CXLCTL_INT_STATUS, 5, 5⟩
def F.CXLCTL_INT_STATUS.WIN_REVOKED : Fld := ⟨R.CXLCTL_INT_STATUS, 4, 4⟩
def F.CXLCTL_INT_STATUS.WIN_GRANTED : Fld := ⟨R.CXLCTL_INT_STATUS, 3, 3⟩
def F.CXLCTL_INT_STATUS.SURPRISE : Fld := ⟨R.CXLCTL_INT_STATUS, 2, 2⟩
def F.CXLCTL_INT_STATUS.LINK_DOWN : Fld := ⟨R.CXLCTL_INT_STATUS, 1, 1⟩
def F.CXLCTL_INT_STATUS.LINK_UP : Fld := ⟨R.CXLCTL_INT_STATUS, 0, 0⟩
def F.CXLCTL_INT_ENABLE.BITS0 : Fld := ⟨R.CXLCTL_INT_ENABLE, 8, 0⟩
def F.CXLCTL_INT_SET.BITS0 : Fld := ⟨R.CXLCTL_INT_SET, 8, 0⟩
def F.CXLCTL_LINK.WIDTH : Fld := ⟨R.CXLCTL_LINK, 23, 16⟩
def F.CXLCTL_LINK.SPEED : Fld := ⟨R.CXLCTL_LINK, 15, 8⟩
def F.CXLCTL_LINK.PROTO : Fld := ⟨R.CXLCTL_LINK, 5, 4⟩
def F.CXLCTL_LINK.STATE : Fld := ⟨R.CXLCTL_LINK, 1, 0⟩
def F.CXLCTL_LINK_CTRL.RETRAIN : Fld := ⟨R.CXLCTL_LINK_CTRL, 31, 31⟩
def F.CXLCTL_LINK_CTRL.MAX_WIDTH : Fld := ⟨R.CXLCTL_LINK_CTRL, 19, 16⟩
def F.CXLCTL_LINK_CTRL.MAX_SPEED : Fld := ⟨R.CXLCTL_LINK_CTRL, 3, 0⟩
def F.CXLCTL_WIN_BASE.BASE : Fld := ⟨R.CXLCTL_WIN_BASE, 31, 0⟩
def F.CXLCTL_WIN_SIZE.SIZE : Fld := ⟨R.CXLCTL_WIN_SIZE, 8, 0⟩
def F.CXLCTL_WIN_CMD.WSTATE : Fld := ⟨R.CXLCTL_WIN_CMD, 5, 4⟩
def F.CXLCTL_WIN_CMD.CMD : Fld := ⟨R.CXLCTL_WIN_CMD, 1, 0⟩
def F.CXLCTL_WIN_EPOCH.EPOCH : Fld := ⟨R.CXLCTL_WIN_EPOCH, 31, 0⟩
def F.CXLCTL_WIN_COUNT.TIMEOUTS : Fld := ⟨R.CXLCTL_WIN_COUNT, 31, 24⟩
def F.CXLCTL_WIN_COUNT.HOST_ERR : Fld := ⟨R.CXLCTL_WIN_COUNT, 23, 16⟩
def F.CXLCTL_WIN_COUNT.DROPPED : Fld := ⟨R.CXLCTL_WIN_COUNT, 15, 8⟩
def F.CXLCTL_WIN_COUNT.RANGE : Fld := ⟨R.CXLCTL_WIN_COUNT, 7, 0⟩
def F.CXLCTL_VIOLATION.LAST : Fld := ⟨R.CXLCTL_VIOLATION, 23, 16⟩
def F.CXLCTL_VIOLATION.COUNT : Fld := ⟨R.CXLCTL_VIOLATION, 15, 0⟩
def F.CXLCTL_LINK_COUNT.SURPRISES : Fld := ⟨R.CXLCTL_LINK_COUNT, 31, 24⟩
def F.CXLCTL_LINK_COUNT.TRAIN_FAILS : Fld := ⟨R.CXLCTL_LINK_COUNT, 23, 16⟩
def F.CXLCTL_LINK_COUNT.CORR_ERR : Fld := ⟨R.CXLCTL_LINK_COUNT, 15, 0⟩
def F.SEC_ID.BLOCK : Fld := ⟨R.SEC_ID, 15, 8⟩
def F.SEC_ID.VERSION : Fld := ⟨R.SEC_ID, 7, 0⟩
def F.SEC_INT_STATUS.BITS0 : Fld := ⟨R.SEC_INT_STATUS, 11, 0⟩
def F.SEC_INT_ENABLE.BITS0 : Fld := ⟨R.SEC_INT_ENABLE, 11, 0⟩
def F.SEC_INT_SET.BITS0 : Fld := ⟨R.SEC_INT_SET, 11, 0⟩
def F.SEC_LC.KEYS_SET : Fld := ⟨R.SEC_LC, 19, 16⟩
def F.SEC_LC.JTAG_OPEN : Fld := ⟨R.SEC_LC, 8, 8⟩
def F.SEC_LC.STATE : Fld := ⟨R.SEC_LC, 2, 0⟩
def F.SEC_BOOT.PLOUGH_TRIAL : Fld := ⟨R.SEC_BOOT, 7, 7⟩
def F.SEC_BOOT.PLOUGH_FALLBACK : Fld := ⟨R.SEC_BOOT, 6, 6⟩
def F.SEC_BOOT.PLOUGH_SLOT : Fld := ⟨R.SEC_BOOT, 4, 4⟩
def F.SEC_BOOT.HEDGE_TRIAL : Fld := ⟨R.SEC_BOOT, 3, 3⟩
def F.SEC_BOOT.HEDGE_FALLBACK : Fld := ⟨R.SEC_BOOT, 2, 2⟩
def F.SEC_BOOT.HEDGE_SLOT : Fld := ⟨R.SEC_BOOT, 0, 0⟩
def F.SEC_HEDGE_VERSION.VERSION : Fld := ⟨R.SEC_HEDGE_VERSION, 31, 0⟩
def F.SEC_PLOUGH_VERSION.VERSION : Fld := ⟨R.SEC_PLOUGH_VERSION, 31, 0⟩
def F.SEC_SVN.KEY_UPDATE : Fld := ⟨R.SEC_SVN, 21, 16⟩
def F.SEC_SVN.PLOUGH : Fld := ⟨R.SEC_SVN, 13, 8⟩
def F.SEC_SVN.HEDGE : Fld := ⟨R.SEC_SVN, 5, 0⟩
def F.SEC_KEYS.REVOKED : Fld := ⟨R.SEC_KEYS, 27, 16⟩
def F.SEC_KEYS.PRESENT : Fld := ⟨R.SEC_KEYS, 11, 0⟩
def F.SEC_SESSION_CFG.COMMIT_S : Fld := ⟨R.SEC_SESSION_CFG, 31, 16⟩
def F.SEC_SESSION_CFG.IDLE_S : Fld := ⟨R.SEC_SESSION_CFG, 11, 0⟩
def F.SEC_RWS_DROPPED.COUNT : Fld := ⟨R.SEC_RWS_DROPPED, 15, 0⟩
def F.SEC_SESSION.OPEN (p : Nat) : Fld := ⟨(R.SEC_SESSION p), 31, 31⟩
def F.SEC_SESSION.ROLE (p : Nat) : Fld := ⟨(R.SEC_SESSION p), 26, 24⟩
def F.SEC_SESSION.IDLE_LEFT (p : Nat) : Fld := ⟨(R.SEC_SESSION p), 15, 0⟩
def F.SEC_LOCKOUT.LEFT (r : Nat) : Fld := ⟨(R.SEC_LOCKOUT r), 31, 16⟩
def F.SEC_LOCKOUT.N (r : Nat) : Fld := ⟨(R.SEC_LOCKOUT r), 11, 8⟩
def F.SEC_LOCKOUT.FAILURES (r : Nat) : Fld := ⟨(R.SEC_LOCKOUT r), 2, 0⟩
def F.SEC_FW_STATUS.TRIAL_LEFT : Fld := ⟨R.SEC_FW_STATUS, 31, 16⟩
def F.SEC_FW_STATUS.REASON : Fld := ⟨R.SEC_FW_STATUS, 15, 8⟩
def F.SEC_FW_STATUS.TYPE : Fld := ⟨R.SEC_FW_STATUS, 7, 4⟩
def F.SEC_FW_STATUS.STATE : Fld := ⟨R.SEC_FW_STATUS, 2, 0⟩
def F.SEC_VIOLATION.LAST : Fld := ⟨R.SEC_VIOLATION, 23, 16⟩
def F.SEC_VIOLATION.COUNT : Fld := ⟨R.SEC_VIOLATION, 15, 0⟩
def F.SEC_WMP_COUNT.MAC_BAD : Fld := ⟨R.SEC_WMP_COUNT, 31, 24⟩
def F.SEC_WMP_COUNT.REPLAY : Fld := ⟨R.SEC_WMP_COUNT, 23, 16⟩
def F.SEC_WMP_COUNT.NO_SESSION : Fld := ⟨R.SEC_WMP_COUNT, 15, 8⟩
def F.SEC_WMP_COUNT.ROLE : Fld := ⟨R.SEC_WMP_COUNT, 7, 0⟩
def F.CPU_ID.BLOCK : Fld := ⟨R.CPU_ID, 15, 8⟩
def F.CPU_ID.VERSION : Fld := ⟨R.CPU_ID, 7, 0⟩
def F.CPU_INT_STATUS.BITS0 : Fld := ⟨R.CPU_INT_STATUS, 4, 0⟩
def F.CPU_INT_ENABLE.BITS0 : Fld := ⟨R.CPU_INT_ENABLE, 4, 0⟩
def F.CPU_INT_SET.BITS0 : Fld := ⟨R.CPU_INT_SET, 4, 0⟩
def F.CPU_STATUS.STATE : Fld := ⟨R.CPU_STATUS, 10, 8⟩
def F.CPU_STATUS.READY : Fld := ⟨R.CPU_STATUS, 7, 4⟩
def F.CPU_STATUS.CORES_UP : Fld := ⟨R.CPU_STATUS, 3, 0⟩
def F.CPU_CTRL.RESTART : Fld := ⟨R.CPU_CTRL, 0, 0⟩
def F.CPU_HEARTBEAT.WORD : Fld := ⟨R.CPU_HEARTBEAT, 31, 0⟩
def F.CPU_COUNT.RESTARTS : Fld := ⟨R.CPU_COUNT, 31, 24⟩
def F.CPU_COUNT.WDOG : Fld := ⟨R.CPU_COUNT, 23, 16⟩
def F.CPU_COUNT.ALIAS_DROPPED : Fld := ⟨R.CPU_COUNT, 15, 0⟩
def F.CPU_ROUTE_LO.BLOCK : Fld := ⟨R.CPU_ROUTE_LO, 31, 0⟩
def F.CPU_ROUTE_HI.VECTOR : Fld := ⟨R.CPU_ROUTE_HI, 31, 16⟩
def F.CPU_ROUTE_HI.BLOCK : Fld := ⟨R.CPU_ROUTE_HI, 6, 0⟩
def F.CPU_SWINT_SET.BITS : Fld := ⟨R.CPU_SWINT_SET, 13, 0⟩
def F.CPU_SWINT.BITS : Fld := ⟨R.CPU_SWINT, 13, 0⟩
def F.CPU_TASK.LOADED (t : Nat) : Fld := ⟨(R.CPU_TASK t), 31, 31⟩
def F.CPU_TASK.RUNNING (t : Nat) : Fld := ⟨(R.CPU_TASK t), 30, 30⟩
def F.CPU_TASK.DISABLED (t : Nat) : Fld := ⟨(R.CPU_TASK t), 29, 29⟩
def F.CPU_TASK.FAULTS (t : Nat) : Fld := ⟨(R.CPU_TASK t), 23, 16⟩
def F.CPU_TASK.BUDGET (t : Nat) : Fld := ⟨(R.CPU_TASK t), 15, 8⟩
def F.CPU_TASK.CPU (t : Nat) : Fld := ⟨(R.CPU_TASK t), 7, 0⟩
def F.GLEAN_ID.BLOCK : Fld := ⟨R.GLEAN_ID, 15, 8⟩
def F.GLEAN_ID.VERSION : Fld := ⟨R.GLEAN_ID, 7, 0⟩
def F.GLEAN_INT_STATUS.BITS0 : Fld := ⟨R.GLEAN_INT_STATUS, 20, 0⟩
def F.GLEAN_INT_ENABLE.BITS0 : Fld := ⟨R.GLEAN_INT_ENABLE, 20, 0⟩
def F.GLEAN_INT_SET.BITS0 : Fld := ⟨R.GLEAN_INT_SET, 20, 0⟩
def F.GLEAN_ARM_CTRL.FORCE : Fld := ⟨R.GLEAN_ARM_CTRL, 19, 16⟩
def F.GLEAN_ARM_CTRL.STOP : Fld := ⟨R.GLEAN_ARM_CTRL, 11, 8⟩
def F.GLEAN_ARM_CTRL.ARM : Fld := ⟨R.GLEAN_ARM_CTRL, 3, 0⟩
def F.GLEAN_XDEV.FIRE_WIDTH : Fld := ⟨R.GLEAN_XDEV, 15, 8⟩
def F.GLEAN_XDEV.FIRE_IN : Fld := ⟨R.GLEAN_XDEV, 2, 2⟩
def F.GLEAN_XDEV.FIRE_OUT : Fld := ⟨R.GLEAN_XDEV, 1, 1⟩
def F.GLEAN_XDEV.ARM_OUT : Fld := ⟨R.GLEAN_XDEV, 0, 0⟩
def F.GLEAN_SPILL_BASE.BASE : Fld := ⟨R.GLEAN_SPILL_BASE, 23, 0⟩
def F.GLEAN_SPILL_SIZE.SIZE : Fld := ⟨R.GLEAN_SPILL_SIZE, 16, 0⟩
def F.GLEAN_SPILL_WPTR.PTR : Fld := ⟨R.GLEAN_SPILL_WPTR, 21, 0⟩
def F.GLEAN_SPILL_RPTR.PTR : Fld := ⟨R.GLEAN_SPILL_RPTR, 21, 0⟩
def F.GLEAN_CTRL.SUB (u : Nat) : Fld := ⟨(R.GLEAN_CTRL u), 22, 16⟩
def F.GLEAN_CTRL.PIN_ARM (u : Nat) : Fld := ⟨(R.GLEAN_CTRL u), 6, 6⟩
def F.GLEAN_CTRL.FIRE_JOIN (u : Nat) : Fld := ⟨(R.GLEAN_CTRL u), 5, 5⟩
def F.GLEAN_CTRL.SPILL (u : Nat) : Fld := ⟨(R.GLEAN_CTRL u), 4, 4⟩
def F.GLEAN_CTRL.AUTO_REARM (u : Nat) : Fld := ⟨(R.GLEAN_CTRL u), 3, 3⟩
def F.GLEAN_CTRL.WAIT_PRE (u : Nat) : Fld := ⟨(R.GLEAN_CTRL u), 2, 2⟩
def F.GLEAN_CTRL.MODE (u : Nat) : Fld := ⟨(R.GLEAN_CTRL u), 1, 0⟩
def F.GLEAN_TAP.BURST (u : Nat) : Fld := ⟨(R.GLEAN_TAP u), 22, 16⟩
def F.GLEAN_TAP.TAP2 (u : Nat) : Fld := ⟨(R.GLEAN_TAP u), 15, 8⟩
def F.GLEAN_TAP.TAP (u : Nat) : Fld := ⟨(R.GLEAN_TAP u), 7, 0⟩
def F.GLEAN_GAP.BLOCKS (u : Nat) : Fld := ⟨(R.GLEAN_GAP u), 23, 0⟩
def F.GLEAN_DEPTH.VALUE (u : Nat) : Fld := ⟨(R.GLEAN_DEPTH u), 16, 0⟩
def F.GLEAN_PRE.VALUE (u : Nat) : Fld := ⟨(R.GLEAN_PRE u), 16, 0⟩
def F.GLEAN_POST.VALUE (u : Nat) : Fld := ⟨(R.GLEAN_POST u), 16, 0⟩
def F.GLEAN_STATUS.COUNT (u : Nat) : Fld := ⟨(R.GLEAN_STATUS u), 16, 0⟩
def F.GLEAN_STATE.SEQ (u : Nat) : Fld := ⟨(R.GLEAN_STATE u), 6, 4⟩
def F.GLEAN_STATE.STATE (u : Nat) : Fld := ⟨(R.GLEAN_STATE u), 2, 0⟩
def F.GLEAN_EVT.BLOCK_ONLY (u : Nat) (k : Nat) : Fld := ⟨(R.GLEAN_EVT u k), 16, 16⟩
def F.GLEAN_EVT.CODE (u : Nat) (k : Nat) : Fld := ⟨(R.GLEAN_EVT u k), 15, 0⟩
def F.GLEAN_CMP_MASK.VALUE (u : Nat) (k : Nat) : Fld := ⟨(R.GLEAN_CMP_MASK u k), 23, 0⟩
def F.GLEAN_CMP_VALUE.VALUE (u : Nat) (k : Nat) : Fld := ⟨(R.GLEAN_CMP_VALUE u k), 23, 0⟩
def F.GLEAN_CMP_VALUE2.VALUE (u : Nat) (k : Nat) : Fld := ⟨(R.GLEAN_CMP_VALUE2 u k), 23, 0⟩
def F.GLEAN_CMP_CTRL.WORD (u : Nat) (k : Nat) : Fld := ⟨(R.GLEAN_CMP_CTRL u k), 5, 4⟩
def F.GLEAN_CMP_CTRL.OP (u : Nat) (k : Nat) : Fld := ⟨(R.GLEAN_CMP_CTRL u k), 2, 0⟩
def F.GLEAN_STATE_S.BITS (u : Nat) (s : Nat) : Fld := ⟨(R.GLEAN_STATE_S u s), 31, 4⟩
def F.GLEAN_CNT_LIMIT.VALUE (u : Nat) (k : Nat) : Fld := ⟨(R.GLEAN_CNT_LIMIT u k), 31, 0⟩
def F.GLEAN_TMR_LIMIT.VALUE (u : Nat) (k : Nat) : Fld := ⟨(R.GLEAN_TMR_LIMIT u k), 31, 0⟩
def F.GLEAN_CNT.VALUE (u : Nat) (k : Nat) : Fld := ⟨(R.GLEAN_CNT u k), 31, 0⟩
def F.GLEAN_TRIG_TIME_0.WORD (u : Nat) : Fld := ⟨(R.GLEAN_TRIG_TIME_0 u), 31, 0⟩
def F.GLEAN_TRIG_TIME_1.WORD (u : Nat) : Fld := ⟨(R.GLEAN_TRIG_TIME_1 u), 31, 0⟩
def F.GLEAN_TRIG_TIME_2.WORD (u : Nat) : Fld := ⟨(R.GLEAN_TRIG_TIME_2 u), 31, 0⟩
def F.GLEAN_TRIG_TIME_3.WORD (u : Nat) : Fld := ⟨(R.GLEAN_TRIG_TIME_3 u), 31, 0⟩
def F.GLEAN_TRIG_TAG.VALUE (u : Nat) : Fld := ⟨(R.GLEAN_TRIG_TAG u), 31, 0⟩
def F.GLEAN_PRE_ACTUAL.VALUE (u : Nat) : Fld := ⟨(R.GLEAN_PRE_ACTUAL u), 16, 0⟩
def F.GLEAN_LAST_DEAD.US (u : Nat) : Fld := ⟨(R.GLEAN_LAST_DEAD u), 31, 0⟩
def F.GLEAN_COUNT.CAPTURES (u : Nat) : Fld := ⟨(R.GLEAN_COUNT u), 31, 16⟩
def F.GLEAN_COUNT.IGNORED (u : Nat) : Fld := ⟨(R.GLEAN_COUNT u), 15, 8⟩
def F.GLEAN_COUNT.INVALID (u : Nat) : Fld := ⟨(R.GLEAN_COUNT u), 7, 0⟩
def F.GLEAN_READ_PTR.VALUE (u : Nat) : Fld := ⟨(R.GLEAN_READ_PTR u), 16, 0⟩
def F.GLEAN_READ_DATA_LO.WORD (u : Nat) : Fld := ⟨(R.GLEAN_READ_DATA_LO u), 31, 0⟩
def F.GLEAN_READ_DATA_HI.WORD (u : Nat) : Fld := ⟨(R.GLEAN_READ_DATA_HI u), 31, 0⟩
def F.GLEAN_STAT_CTRL.SNAP_PENDING : Fld := ⟨R.GLEAN_STAT_CTRL, 2, 2⟩
def F.GLEAN_STAT_CTRL.CLEAR : Fld := ⟨R.GLEAN_STAT_CTRL, 1, 1⟩
def F.GLEAN_STAT_CTRL.SNAPSHOT : Fld := ⟨R.GLEAN_STAT_CTRL, 0, 0⟩
def F.GLEAN_STAT_SRC.KIND (i : Nat) : Fld := ⟨(R.GLEAN_STAT_SRC i), 31, 30⟩
def F.GLEAN_STAT_SRC.BLOCK_ONLY (i : Nat) : Fld := ⟨(R.GLEAN_STAT_SRC i), 16, 16⟩
def F.GLEAN_STAT_SRC.CODE (i : Nat) : Fld := ⟨(R.GLEAN_STAT_SRC i), 15, 0⟩
def F.GLEAN_STAT_LO.VALUE (i : Nat) : Fld := ⟨(R.GLEAN_STAT_LO i), 31, 0⟩
def F.GLEAN_STAT_HI.OVF_AT_WRITE (i : Nat) : Fld := ⟨(R.GLEAN_STAT_HI i), 17, 17⟩
def F.GLEAN_STAT_HI.OVF (i : Nat) : Fld := ⟨(R.GLEAN_STAT_HI i), 16, 16⟩
def F.GLEAN_STAT_HI.VALUE (i : Nat) : Fld := ⟨(R.GLEAN_STAT_HI i), 15, 0⟩
def F.GLEAN_OVF_MAP.OVF_AT_WRITE (k : Nat) : Fld := ⟨(R.GLEAN_OVF_MAP k), 13, 8⟩
def F.GLEAN_OVF_MAP.OVF (k : Nat) : Fld := ⟨(R.GLEAN_OVF_MAP k), 5, 0⟩
def F.GLEAN_PS_CTRL.EN (k : Nat) : Fld := ⟨(R.GLEAN_PS_CTRL k), 31, 31⟩
def F.GLEAN_PS_CTRL.WRAP (k : Nat) : Fld := ⟨(R.GLEAN_PS_CTRL k), 30, 30⟩
def F.GLEAN_PS_CTRL.JITTER (k : Nat) : Fld := ⟨(R.GLEAN_PS_CTRL k), 27, 24⟩
def F.GLEAN_PS_CTRL.EVENT (k : Nat) : Fld := ⟨(R.GLEAN_PS_CTRL k), 23, 16⟩
def F.GLEAN_PS_PERIOD.VALUE (k : Nat) : Fld := ⟨(R.GLEAN_PS_PERIOD k), 27, 0⟩
def F.GLEAN_PS_STATUS.LOST (k : Nat) : Fld := ⟨(R.GLEAN_PS_STATUS k), 31, 16⟩
def F.GLEAN_PS_STATUS.INDEX (k : Nat) : Fld := ⟨(R.GLEAN_PS_STATUS k), 8, 0⟩
def F.GLEAN_PS_LEVEL.LEVEL (k : Nat) : Fld := ⟨(R.GLEAN_PS_LEVEL k), 9, 0⟩
def F.GLEAN_PS_BUF.WORD (k : Nat) (w : Nat) : Fld := ⟨(R.GLEAN_PS_BUF k w), 31, 0⟩
def F.PWR_ID.BLOCK : Fld := ⟨R.PWR_ID, 15, 8⟩
def F.PWR_ID.VERSION : Fld := ⟨R.PWR_ID, 7, 0⟩
def F.PWR_INT_STATUS.SHUTDOWN_DONE : Fld := ⟨R.PWR_INT_STATUS, 5, 5⟩
def F.PWR_INT_STATUS.PL_DONE : Fld := ⟨R.PWR_INT_STATUS, 4, 4⟩
def F.PWR_INT_STATUS.WAKE_REPLAYED : Fld := ⟨R.PWR_INT_STATUS, 3, 3⟩
def F.PWR_INT_STATUS.ACCESS_DOWN : Fld := ⟨R.PWR_INT_STATUS, 2, 2⟩
def F.PWR_INT_STATUS.PL_FAIL : Fld := ⟨R.PWR_INT_STATUS, 1, 1⟩
def F.PWR_INT_STATUS.WAKE_FAIL : Fld := ⟨R.PWR_INT_STATUS, 0, 0⟩
def F.PWR_INT_ENABLE.BITS0 : Fld := ⟨R.PWR_INT_ENABLE, 5, 0⟩
def F.PWR_INT_SET.BITS0 : Fld := ⟨R.PWR_INT_SET, 5, 0⟩
def F.PWR_CTRL.SHUTDOWN : Fld := ⟨R.PWR_CTRL, 31, 31⟩
def F.PWR_CTRL.WARM_RESET : Fld := ⟨R.PWR_CTRL, 30, 30⟩
def F.PWR_CTRL.BIST_SKIP : Fld := ⟨R.PWR_CTRL, 29, 29⟩
def F.PWR_CTRL.WAKE_RETRY : Fld := ⟨R.PWR_CTRL, 0, 0⟩
def F.PWR_STATUS.HALTED : Fld := ⟨R.PWR_STATUS, 31, 31⟩
def F.PWR_STATUS.SHUTTING : Fld := ⟨R.PWR_STATUS, 30, 30⟩
def F.PWR_STATUS.RESET_CAUSE : Fld := ⟨R.PWR_STATUS, 25, 24⟩
def F.PWR_STATUS.IGNORED : Fld := ⟨R.PWR_STATUS, 7, 0⟩
def F.PWR_PL.BUSY : Fld := ⟨R.PWR_PL, 31, 31⟩
def F.PWR_PL.MIN : Fld := ⟨R.PWR_PL, 17, 16⟩
def F.PWR_PL.APPLIED : Fld := ⟨R.PWR_PL, 9, 8⟩
def F.PWR_PL.REQUEST : Fld := ⟨R.PWR_PL, 1, 0⟩
def F.PWR_PL_VOLT.PL3 : Fld := ⟨R.PWR_PL_VOLT, 31, 24⟩
def F.PWR_PL_VOLT.PL2 : Fld := ⟨R.PWR_PL_VOLT, 23, 16⟩
def F.PWR_PL_VOLT.PL1 : Fld := ⟨R.PWR_PL_VOLT, 15, 8⟩
def F.PWR_PL_VOLT.PL0 : Fld := ⟨R.PWR_PL_VOLT, 7, 0⟩
def F.PWR_FAIL.DOMAIN : Fld := ⟨R.PWR_FAIL, 31, 24⟩
def F.PWR_FAIL.CAUSE : Fld := ⟨R.PWR_FAIL, 19, 16⟩
def F.PWR_FAIL.ATTEMPTS : Fld := ⟨R.PWR_FAIL, 11, 8⟩
def F.PWR_FAIL.FAILS : Fld := ⟨R.PWR_FAIL, 7, 0⟩
def F.PWR_ACCESS_DOWN_LOG.BLOCK : Fld := ⟨R.PWR_ACCESS_DOWN_LOG, 31, 24⟩
def F.PWR_ACCESS_DOWN_LOG.WRITE : Fld := ⟨R.PWR_ACCESS_DOWN_LOG, 23, 23⟩
def F.PWR_ACCESS_DOWN_LOG.PATH : Fld := ⟨R.PWR_ACCESS_DOWN_LOG, 22, 21⟩
def F.PWR_ACCESS_DOWN_LOG.OFFSET : Fld := ⟨R.PWR_ACCESS_DOWN_LOG, 20, 0⟩
def F.PWR_ACCESS_DOWN_COUNT.COUNT : Fld := ⟨R.PWR_ACCESS_DOWN_COUNT, 15, 0⟩
def F.PWR_WAKE_LATCH.BITS : Fld := ⟨R.PWR_WAKE_LATCH, 7, 0⟩
def F.PWR_WAKE_COUNT.COALESCED : Fld := ⟨R.PWR_WAKE_COUNT, 31, 16⟩
def F.PWR_WAKE_COUNT.WAKES : Fld := ⟨R.PWR_WAKE_COUNT, 15, 0⟩
def F.PWR_WAKE_TIMER.EN : Fld := ⟨R.PWR_WAKE_TIMER, 31, 31⟩
def F.PWR_WAKE_TIMER.MS : Fld := ⟨R.PWR_WAKE_TIMER, 23, 0⟩
def F.PWR_WAKE_MAP.EN (k : Nat) : Fld := ⟨(R.PWR_WAKE_MAP k), 15, 15⟩
def F.PWR_WAKE_MAP.DOMAIN (k : Nat) : Fld := ⟨(R.PWR_WAKE_MAP k), 12, 8⟩
def F.PWR_WAKE_MAP.CLIENT (k : Nat) : Fld := ⟨(R.PWR_WAKE_MAP k), 2, 0⟩
def F.PWR_AVS.MV (p : Nat) : Fld := ⟨(R.PWR_AVS p), 31, 20⟩
def F.PWR_AVS.NOACKS (p : Nat) : Fld := ⟨(R.PWR_AVS p), 15, 8⟩
def F.PWR_AVS.NAKS (p : Nat) : Fld := ⟨(R.PWR_AVS p), 7, 0⟩
def F.PWR_VOTE.VOTES (d : Nat) : Fld := ⟨(R.PWR_VOTE d), 7, 0⟩
def F.PWR_DOM_CFG.RESET (d : Nat) : Fld := ⟨(R.PWR_DOM_CFG d), 31, 31⟩
def F.PWR_DOM_CFG.DROP_STATE (d : Nat) : Fld := ⟨(R.PWR_DOM_CFG d), 1, 0⟩
def F.PWR_DOM_STATUS.FAILED (d : Nat) : Fld := ⟨(R.PWR_DOM_STATUS d), 31, 31⟩
def F.PWR_DOM_STATUS.CAUSE (d : Nat) : Fld := ⟨(R.PWR_DOM_STATUS d), 19, 16⟩
def F.PWR_DOM_STATUS.ATTEMPTS (d : Nat) : Fld := ⟨(R.PWR_DOM_STATUS d), 11, 8⟩
def F.PWR_DOM_STATUS.STATE (d : Nat) : Fld := ⟨(R.PWR_DOM_STATUS d), 2, 0⟩
def F.CAL_ID.BLOCK : Fld := ⟨R.CAL_ID, 15, 8⟩
def F.CAL_ID.VERSION : Fld := ⟨R.CAL_ID, 7, 0⟩
def F.CAL_INT_STATUS.TABLE_BAD : Fld := ⟨R.CAL_INT_STATUS, 6, 6⟩
def F.CAL_INT_STATUS.SETTLED : Fld := ⟨R.CAL_INT_STATUS, 5, 5⟩
def F.CAL_INT_STATUS.RUN_DONE : Fld := ⟨R.CAL_INT_STATUS, 4, 4⟩
def F.CAL_INT_STATUS.STORE_FAIL : Fld := ⟨R.CAL_INT_STATUS, 3, 3⟩
def F.CAL_INT_STATUS.STORED : Fld := ⟨R.CAL_INT_STATUS, 2, 2⟩
def F.CAL_INT_STATUS.IMPLAUSIBLE : Fld := ⟨R.CAL_INT_STATUS, 1, 1⟩
def F.CAL_INT_STATUS.CAL_MISSING : Fld := ⟨R.CAL_INT_STATUS, 0, 0⟩
def F.CAL_INT_ENABLE.BITS0 : Fld := ⟨R.CAL_INT_ENABLE, 6, 0⟩
def F.CAL_INT_SET.BITS0 : Fld := ⟨R.CAL_INT_SET, 6, 0⟩
def F.CAL_CMD.CMD : Fld := ⟨R.CAL_CMD, 31, 28⟩
def F.CAL_CMD.SLOT : Fld := ⟨R.CAL_CMD, 20, 16⟩
def F.CAL_STATUS.REASON : Fld := ⟨R.CAL_STATUS, 31, 24⟩
def F.CAL_STATUS.SLOT : Fld := ⟨R.CAL_STATUS, 23, 19⟩
def F.CAL_STATUS.STATE : Fld := ⟨R.CAL_STATUS, 18, 16⟩
def F.CAL_STATUS.FIELD : Fld := ⟨R.CAL_STATUS, 15, 0⟩
def F.CAL_BG.BG_EN : Fld := ⟨R.CAL_BG, 31, 31⟩
def F.CAL_BG.TEMP_DELTA : Fld := ⟨R.CAL_BG, 15, 8⟩
def F.CAL_BG.MIN_HOURS : Fld := ⟨R.CAL_BG, 7, 0⟩
def F.CAL_SLOT.VALID_A (s : Nat) : Fld := ⟨(R.CAL_SLOT s), 31, 31⟩
def F.CAL_SLOT.VALID_B (s : Nat) : Fld := ⟨(R.CAL_SLOT s), 30, 30⟩
def F.CAL_SLOT.USING_B (s : Nat) : Fld := ⟨(R.CAL_SLOT s), 29, 29⟩
def F.CAL_SLOT.MISSING (s : Nat) : Fld := ⟨(R.CAL_SLOT s), 28, 28⟩
def F.CAL_SLOT.MOVING (s : Nat) : Fld := ⟨(R.CAL_SLOT s), 27, 27⟩
def F.CAL_SLOT.SOURCE (s : Nat) : Fld := ⟨(R.CAL_SLOT s), 26, 25⟩
def F.CAL_SLOT.QUALITY (s : Nat) : Fld := ⟨(R.CAL_SLOT s), 15, 0⟩
def F.CAL_SEQ.SEQ (s : Nat) : Fld := ⟨(R.CAL_SEQ s), 31, 0⟩
def F.BIST_ID.BLOCK : Fld := ⟨R.BIST_ID, 15, 8⟩
def F.BIST_ID.VERSION : Fld := ⟨R.BIST_ID, 7, 0⟩
def F.BIST_INT_STATUS.REPAIR_FULL : Fld := ⟨R.BIST_INT_STATUS, 5, 5⟩
def F.BIST_INT_STATUS.HARD_DONE : Fld := ⟨R.BIST_INT_STATUS, 4, 4⟩
def F.BIST_INT_STATUS.SPARES_OUT : Fld := ⟨R.BIST_INT_STATUS, 3, 3⟩
def F.BIST_INT_STATUS.UNIT_FAIL : Fld := ⟨R.BIST_INT_STATUS, 2, 2⟩
def F.BIST_INT_STATUS.QUICK_RAN : Fld := ⟨R.BIST_INT_STATUS, 1, 1⟩
def F.BIST_INT_STATUS.INCOMPLETE : Fld := ⟨R.BIST_INT_STATUS, 0, 0⟩
def F.BIST_INT_ENABLE.BITS0 : Fld := ⟨R.BIST_INT_ENABLE, 5, 0⟩
def F.BIST_INT_SET.BITS0 : Fld := ⟨R.BIST_INT_SET, 5, 0⟩
def F.BIST_CTRL.CMD : Fld := ⟨R.BIST_CTRL, 31, 28⟩
def F.BIST_CTRL.UNIT : Fld := ⟨R.BIST_CTRL, 9, 0⟩
def F.BIST_STATUS.IGNORED : Fld := ⟨R.BIST_STATUS, 31, 24⟩
def F.BIST_STATUS.QUICK_MS : Fld := ⟨R.BIST_STATUS, 19, 16⟩
def F.BIST_STATUS.SOURCE : Fld := ⟨R.BIST_STATUS, 9, 8⟩
def F.BIST_STATUS.STATE : Fld := ⟨R.BIST_STATUS, 2, 0⟩
def F.BIST_FALLOW.BITS (k : Nat) : Fld := ⟨(R.BIST_FALLOW k), 31, 0⟩
def F.BIST_FALLOW_OTHER.FEC_B : Fld := ⟨R.BIST_FALLOW_OTHER, 28, 16⟩
def F.BIST_FALLOW_OTHER.FEC_A : Fld := ⟨R.BIST_FALLOW_OTHER, 12, 0⟩
def F.BIST_FALLOW_CORES.CORES : Fld := ⟨R.BIST_FALLOW_CORES, 3, 0⟩
def F.BIST_REPAIR.SOFT_ROWS : Fld := ⟨R.BIST_REPAIR, 31, 24⟩
def F.BIST_REPAIR.SPARE_ARRAYS : Fld := ⟨R.BIST_REPAIR, 23, 16⟩
def F.BIST_REPAIR.ROW_FREE : Fld := ⟨R.BIST_REPAIR, 14, 8⟩
def F.BIST_REPAIR.FALLOW_FREE : Fld := ⟨R.BIST_REPAIR, 5, 0⟩
def F.BIST_UNIT_SEL.UNIT : Fld := ⟨R.BIST_UNIT_SEL, 9, 0⟩
def F.BIST_UNIT_RESULT.RESULT : Fld := ⟨R.BIST_UNIT_RESULT, 31, 30⟩
def F.BIST_UNIT_RESULT.IN_SERVICE_FAIL : Fld := ⟨R.BIST_UNIT_RESULT, 29, 29⟩
def F.BIST_UNIT_RESULT.FUSED : Fld := ⟨R.BIST_UNIT_RESULT, 28, 28⟩
def F.BIST_UNIT_RESULT.SOURCE : Fld := ⟨R.BIST_UNIT_RESULT, 27, 26⟩
def F.BIST_UNIT_RESULT.COUNT : Fld := ⟨R.BIST_UNIT_RESULT, 24, 0⟩
def F.BIST_FAIL_UNIT.VALID (k : Nat) : Fld := ⟨(R.BIST_FAIL_UNIT k), 31, 31⟩
def F.BIST_FAIL_UNIT.UNIT (k : Nat) : Fld := ⟨(R.BIST_FAIL_UNIT k), 9, 0⟩
def F.BIST_FAIL_WHERE.WHERE (k : Nat) : Fld := ⟨(R.BIST_FAIL_WHERE k), 31, 0⟩
def F.FAULT_ID.BLOCK : Fld := ⟨R.FAULT_ID, 15, 8⟩
def F.FAULT_ID.VERSION : Fld := ⟨R.FAULT_ID, 7, 0⟩
def F.FAULT_INT_STATUS.FAULT_N_ON : Fld := ⟨R.FAULT_INT_STATUS, 2, 2⟩
def F.FAULT_INT_STATUS.LOG_LOST : Fld := ⟨R.FAULT_INT_STATUS, 1, 1⟩
def F.FAULT_INT_STATUS.NEW_ENTRY : Fld := ⟨R.FAULT_INT_STATUS, 0, 0⟩
def F.FAULT_INT_ENABLE.BITS0 : Fld := ⟨R.FAULT_INT_ENABLE, 2, 0⟩
def F.FAULT_INT_SET.BITS0 : Fld := ⟨R.FAULT_INT_SET, 2, 0⟩
def F.FAULT_CTRL.TEST : Fld := ⟨R.FAULT_CTRL, 1, 1⟩
def F.FAULT_CTRL.ACK : Fld := ⟨R.FAULT_CTRL, 0, 0⟩
def F.FAULT_STATUS.ASSERTED : Fld := ⟨R.FAULT_STATUS, 31, 31⟩
def F.FAULT_STATUS.NEXT : Fld := ⟨R.FAULT_STATUS, 21, 16⟩
def F.FAULT_STATUS.LOST : Fld := ⟨R.FAULT_STATUS, 15, 8⟩
def F.FAULT_STATUS.ACTIVE : Fld := ⟨R.FAULT_STATUS, 6, 0⟩
def F.FAULT_ENTRY_CODE.COUNT (i : Nat) : Fld := ⟨(R.FAULT_ENTRY_CODE i), 31, 24⟩
def F.FAULT_ENTRY_CODE.ACTIVE (i : Nat) : Fld := ⟨(R.FAULT_ENTRY_CODE i), 19, 19⟩
def F.FAULT_ENTRY_CODE.CLASS (i : Nat) : Fld := ⟨(R.FAULT_ENTRY_CODE i), 18, 17⟩
def F.FAULT_ENTRY_CODE.CODE (i : Nat) : Fld := ⟨(R.FAULT_ENTRY_CODE i), 15, 0⟩
def F.FAULT_ENTRY_DETAIL.VALUE (i : Nat) : Fld := ⟨(R.FAULT_ENTRY_DETAIL i), 31, 0⟩
def F.FAULT_ENTRY_TIME_LO.NS (i : Nat) : Fld := ⟨(R.FAULT_ENTRY_TIME_LO i), 31, 0⟩
def F.FAULT_ENTRY_TIME_HI.SEC (i : Nat) : Fld := ⟨(R.FAULT_ENTRY_TIME_HI i), 31, 0⟩
def F.PINS_ID.BLOCK : Fld := ⟨R.PINS_ID, 15, 8⟩
def F.PINS_ID.VERSION : Fld := ⟨R.PINS_ID, 7, 0⟩
def F.PINS_INT_STATUS.THERM_TRIP : Fld := ⟨R.PINS_INT_STATUS, 16, 16⟩
def F.PINS_INT_STATUS.STUCK : Fld := ⟨R.PINS_INT_STATUS, 14, 0⟩
def F.PINS_INT_ENABLE.BITS16 : Fld := ⟨R.PINS_INT_ENABLE, 16, 16⟩
def F.PINS_INT_ENABLE.BITS0 : Fld := ⟨R.PINS_INT_ENABLE, 14, 0⟩
def F.PINS_INT_SET.BITS16 : Fld := ⟨R.PINS_INT_SET, 16, 16⟩
def F.PINS_INT_SET.BITS0 : Fld := ⟨R.PINS_INT_SET, 14, 0⟩
def F.PINS_STRAPS.TEST_EN : Fld := ⟨R.PINS_STRAPS, 2, 2⟩
def F.PINS_STRAPS.I3C_ADDR : Fld := ⟨R.PINS_STRAPS, 1, 0⟩
def F.PINS_THERM.TEMP : Fld := ⟨R.PINS_THERM, 31, 24⟩
def F.PINS_THERM.TRIPPED : Fld := ⟨R.PINS_THERM, 0, 0⟩
def F.PINS_GPIO_CTRL.EVENT : Fld := ⟨R.PINS_GPIO_CTRL, 23, 16⟩
def F.PINS_GPIO_CTRL.OE : Fld := ⟨R.PINS_GPIO_CTRL, 15, 8⟩
def F.PINS_GPIO_CTRL.OUT : Fld := ⟨R.PINS_GPIO_CTRL, 7, 0⟩
def F.PINS_GPIO_IN.LEVEL : Fld := ⟨R.PINS_GPIO_IN, 7, 0⟩
def F.PINS_QUAL_CFG.STUCK_LIMIT (q : Nat) : Fld := ⟨(R.PINS_QUAL_CFG q), 31, 24⟩
def F.PINS_QUAL_CFG.MIN_GAP (q : Nat) : Fld := ⟨(R.PINS_QUAL_CFG q), 23, 12⟩
def F.PINS_QUAL_CFG.ACTIVE_LOW (q : Nat) : Fld := ⟨(R.PINS_QUAL_CFG q), 8, 8⟩
def F.PINS_QUAL_CFG.MIN_WIDTH (q : Nat) : Fld := ⟨(R.PINS_QUAL_CFG q), 7, 0⟩
def F.PINS_QUAL_STATUS.RAW (q : Nat) : Fld := ⟨(R.PINS_QUAL_STATUS q), 31, 31⟩
def F.PINS_QUAL_STATUS.QUALIFIED (q : Nat) : Fld := ⟨(R.PINS_QUAL_STATUS q), 30, 30⟩
def F.PINS_QUAL_STATUS.MASKED (q : Nat) : Fld := ⟨(R.PINS_QUAL_STATUS q), 29, 29⟩
def F.PINS_QUAL_STATUS.STUCKS (q : Nat) : Fld := ⟨(R.PINS_QUAL_STATUS q), 23, 16⟩
def F.PINS_QUAL_STATUS.COALESCED (q : Nat) : Fld := ⟨(R.PINS_QUAL_STATUS q), 15, 8⟩
def F.PINS_QUAL_STATUS.FILTERED (q : Nat) : Fld := ⟨(R.PINS_QUAL_STATUS q), 7, 0⟩
def F.MBX_DOORBELL.GO : Fld := ⟨R.MBX_DOORBELL, 31, 31⟩
def F.MBX_DOORBELL.LENGTH : Fld := ⟨R.MBX_DOORBELL, 12, 0⟩
def F.MBX_STATUS.BUSY : Fld := ⟨R.MBX_STATUS, 31, 31⟩
def F.MBX_STATUS.DONE : Fld := ⟨R.MBX_STATUS, 30, 30⟩
def F.MBX_STATUS.ERROR : Fld := ⟨R.MBX_STATUS, 29, 28⟩
def F.MBX_STATUS.LENGTH : Fld := ⟨R.MBX_STATUS, 12, 0⟩
def F.MBX_NOTIFY_HEAD.HEAD : Fld := ⟨R.MBX_NOTIFY_HEAD, 3, 0⟩
def F.MBX_NOTIFY_TAIL.LOST : Fld := ⟨R.MBX_NOTIFY_TAIL, 31, 16⟩
def F.MBX_NOTIFY_TAIL.TAIL : Fld := ⟨R.MBX_NOTIFY_TAIL, 3, 0⟩
def F.MBX_COMMAND.WORD (w : Nat) : Fld := ⟨(R.MBX_COMMAND w), 31, 0⟩
def F.MBX_RESPONSE.WORD (w : Nat) : Fld := ⟨(R.MBX_RESPONSE w), 31, 0⟩
def F.MBX_RING.WORD (w : Nat) : Fld := ⟨(R.MBX_RING w), 31, 0⟩
def F.MSIX_ADDR_LO.ADDR (v : Nat) : Fld := ⟨(R.MSIX_ADDR_LO v), 31, 2⟩
def F.MSIX_ADDR_HI.ADDR (v : Nat) : Fld := ⟨(R.MSIX_ADDR_HI v), 31, 0⟩
def F.MSIX_DATA.DATA (v : Nat) : Fld := ⟨(R.MSIX_DATA v), 31, 0⟩
def F.MSIX_CTRL.MASK (v : Nat) : Fld := ⟨(R.MSIX_CTRL v), 0, 0⟩
def F.MSIX_PBA.BITS (w : Nat) : Fld := ⟨(R.MSIX_PBA w), 31, 0⟩

/-! ### The table of rows, by block ID -/
def rowsGLOBAL0 : List Row := [
  ⟨0x0, [], 0x328000B1, [⟨31, 16, .ro, .any⟩, ⟨15, 0, .ro, .any⟩]⟩,
  ⟨0x4, [], 0x0, [⟨2, 2, .w1c, .any⟩, ⟨1, 1, .w1c, .any⟩, ⟨0, 0, .w1c, .any⟩]⟩,
  ⟨0x8, [], 0x0, [⟨2, 0, .rw, .any⟩]⟩,
  ⟨0xC, [], 0x0, [⟨2, 0, .wo, .any⟩]⟩,
  ⟨0x10, [], 0x4DD6068, [⟨26, 24, .ro, .any⟩, ⟨23, 20, .ro, .any⟩, ⟨19, 16, .ro, .any⟩, ⟨15, 8, .ro, .any⟩, ⟨7, 0, .ro, .any⟩]⟩,
  ⟨0x14, [], 0x305, [⟨11, 8, .ro, .any⟩, ⟨3, 0, .ro, .any⟩]⟩,
  ⟨0x18, [], 0x0, [⟨15, 0, .rc, .any⟩]⟩,
  ⟨0x20, [], 0x0, [⟨31, 0, .ro, .any⟩]⟩,
  ⟨0x24, [], 0x0, [⟨31, 16, .ro, .any⟩, ⟨6, 0, .ro, .any⟩]⟩,
  ⟨0x28, [], 0x0, [⟨31, 0, .rw, .any⟩]⟩,
  ⟨0x2C, [], 0x0, [⟨31, 16, .rw, .any⟩, ⟨6, 0, .rw, .any⟩]⟩,
  ⟨0x30, [], 0x0, [⟨31, 0, .rw, .any⟩]⟩]

/-- The rows of the GLOBAL block. -/
def rowsGLOBAL : List Row := rowsGLOBAL0
def rowsPLAN0 : List Row := [
  ⟨0x100000, [], 0x201, [⟨15, 8, .ro, .any⟩, ⟨7, 0, .ro, .any⟩]⟩,
  ⟨0x100004, [], 0x0, [⟨8, 8, .w1c, .any⟩, ⟨7, 7, .w1c, .any⟩, ⟨6, 6, .w1c, .any⟩, ⟨5, 5, .w1c, .any⟩, ⟨4, 4, .w1c, .any⟩, ⟨3, 3, .w1c, .any⟩, ⟨2, 2, .w1c, .any⟩, ⟨1, 1, .w1c, .any⟩, ⟨0, 0, .w1c, .any⟩]⟩,
  ⟨0x100008, [], 0x0, [⟨8, 0, .rw, .any⟩]⟩,
  ⟨0x10000C, [], 0x0, [⟨8, 0, .wo, .any⟩]⟩,
  ⟨0x100010, [], 0x0, [⟨7, 4, .rws, .between 0 3⟩, ⟨3, 0, .rws, .between 0 7⟩]⟩,
  ⟨0x100014, [], 0x0, [⟨23, 0, .rw, .any⟩]⟩,
  ⟨0x100018, [], 0x0, [⟨20, 0, .rw, .between 0 1048576⟩]⟩,
  ⟨0x10001C, [], 0xFFFF0000, [⟨31, 16, .ro, .any⟩, ⟨15, 8, .ro, .any⟩, ⟨2, 0, .ro, .any⟩]⟩,
  ⟨0x100020, [], 0x0, [⟨31, 0, .ro, .any⟩]⟩,
  ⟨0x100024, [], 0x0, [⟨31, 0, .ro, .any⟩]⟩,
  ⟨0x100028, [], 0x2010100, [⟨31, 24, .ro, .any⟩, ⟨23, 16, .ro, .any⟩, ⟨15, 8, .ro, .any⟩, ⟨7, 0, .ro, .any⟩]⟩,
  ⟨0x10002C, [], 0x0, [⟨31, 8, .ro, .any⟩, ⟨2, 0, .ro, .any⟩]⟩,
  ⟨0x100030, [], 0x0, [⟨8, 8, .ro, .any⟩, ⟨5, 4, .ro, .any⟩, ⟨0, 0, .rws, .any⟩]⟩,
  ⟨0x100034, [], 0x0, [⟨23, 16, .ro, .any⟩, ⟨15, 8, .ro, .any⟩, ⟨7, 0, .ro, .any⟩]⟩,
  ⟨0x100038, [], 0x0, [⟨15, 0, .rc, .any⟩]⟩]

/-- The rows of the PLAN block. -/
def rowsPLAN : List Row := rowsPLAN0
def rowsFURROW0 : List Row := [
  ⟨0x200000, [], 0x401, [⟨15, 8, .ro, .any⟩, ⟨7, 0, .ro, .any⟩]⟩,
  ⟨0x200004, [], 0x0, [⟨29, 24, .w1c, .any⟩, ⟨21, 0, .w1c, .any⟩]⟩,
  ⟨0x200008, [], 0x0, [⟨29, 24, .rw, .any⟩, ⟨21, 0, .rw, .any⟩]⟩,
  ⟨0x20000C, [], 0x0, [⟨29, 24, .wo, .any⟩, ⟨21, 0, .wo, .any⟩]⟩,
  ⟨0x240000, [(2, 0x20000)], 0x0, [⟨1, 1, .rw, .any⟩, ⟨0, 0, .wo, .any⟩]⟩,
  ⟨0x240004, [(2, 0x20000)], 0x0, [⟨31, 16, .ro, .any⟩, ⟨15, 8, .ro, .any⟩, ⟨3, 0, .ro, .any⟩]⟩,
  ⟨0x240008, [(2, 0x20000)], 0x0, [⟨31, 0, .ro, .any⟩]⟩,
  ⟨0x240010, [(2, 0x20000)], 0x50000, [⟨24, 16, .rw, .between 1 300⟩, ⟨1, 0, .rw, .between 0 2⟩]⟩,
  ⟨0x240014, [(2, 0x20000)], 0x0, [⟨31, 0, .rw, .signed (-300000) 300000⟩]⟩,
  ⟨0x240018, [(2, 0x20000)], 0x0, [⟨31, 0, .ro, .any⟩]⟩,
  ⟨0x240020, [(2, 0x20000)], 0x0, [⟨31, 24, .rw, .between 0 100⟩, ⟨8, 8, .ro, .any⟩, ⟨7, 7, .ro, .any⟩, ⟨6, 6, .ro, .any⟩, ⟨4, 4, .rw, .any⟩, ⟨1, 1, .rw, .any⟩, ⟨0, 0, .wo, .any⟩]⟩,
  ⟨0x240024, [(2, 0x20000)], 0x0, [⟨27, 16, .ro, .any⟩, ⟨11, 0, .rw, .between 0 2048⟩]⟩,
  ⟨0x240028, [(2, 0x20000)], 0x1000, [⟨25, 16, .rw, .signed (-512) 511⟩, ⟨15, 0, .rw, .any⟩]⟩,
  ⟨0x24002C, [(2, 0x20000)], 0x0, [⟨31, 24, .rc, .any⟩, ⟨23, 16, .rc, .any⟩, ⟨15, 0, .rc, .any⟩]⟩,
  ⟨0x240030, [(2, 0x20000)], 0x4, [⟨8, 8, .rw, .any⟩, ⟨2, 0, .rw, .any⟩]⟩,
  ⟨0x240034, [(2, 0x20000)], 0x0, [⟨31, 0, .ro, .any⟩]⟩]
def rowsFURROW1 : List Row := [
  ⟨0x240038, [(2, 0x20000)], 0x50108, [⟨18, 16, .rw, .between 1 5⟩, ⟨8, 8, .rw, .any⟩, ⟨5, 0, .rw, .between 1 32⟩]⟩,
  ⟨0x24003C, [(2, 0x20000)], 0x0, [⟨31, 0, .ro, .any⟩]⟩,
  ⟨0x240040, [(2, 0x20000)], 0x4, [⟨31, 16, .ro, .any⟩, ⟨8, 8, .rw, .any⟩, ⟨5, 0, .rw, .between 1 32⟩]⟩,
  ⟨0x240044, [(2, 0x20000)], 0x0, [⟨31, 31, .ro, .any⟩, ⟨15, 0, .ro, .any⟩]⟩,
  ⟨0x240048, [(2, 0x20000)], 0x0, [⟨31, 31, .ro, .any⟩, ⟨15, 0, .ro, .any⟩]⟩,
  ⟨0x24004C, [(2, 0x20000)], 0x0, [⟨15, 0, .rw, .any⟩]⟩,
  ⟨0x240050, [(2, 0x20000)], 0x0, [⟨31, 16, .ro, .any⟩, ⟨15, 0, .ro, .any⟩]⟩,
  ⟨0x240054, [(2, 0x20000)], 0x0, [⟨31, 31, .ro, .any⟩, ⟨15, 0, .ro, .any⟩]⟩,
  ⟨0x240058, [(2, 0x20000)], 0x0, [⟨31, 31, .ro, .any⟩, ⟨15, 0, .ro, .any⟩]⟩,
  ⟨0x24005C, [(2, 0x20000)], 0x0, [⟨31, 16, .rc, .any⟩, ⟨15, 0, .rc, .any⟩]⟩,
  ⟨0x240060, [(2, 0x20000)], 0x0, [⟨15, 0, .rw, .signed (-16384) 16383⟩]⟩,
  ⟨0x240064, [(2, 0x20000)], 0x0, [⟨15, 0, .rw, .signed (-16384) 16383⟩]⟩,
  ⟨0x240068, [(2, 0x20000)], 0x0, [⟨15, 0, .rw, .signed (-16384) 16383⟩]⟩,
  ⟨0x24006C, [(2, 0x20000)], 0x0, [⟨15, 0, .rw, .signed (-16384) 16383⟩]⟩,
  ⟨0x240070, [(2, 0x20000)], 0x0, [⟨15, 8, .rw, .any⟩, ⟨0, 0, .rw, .any⟩]⟩,
  ⟨0x240074, [(2, 0x20000)], 0x0, [⟨31, 0, .ro, .any⟩]⟩]
def rowsFURROW2 : List Row := [
  ⟨0x241000, [(2, 0x20000), (16, 0x100)], 0x80C0015, [⟨28, 24, .rw, .between 4 20⟩, ⟨20, 16, .rw, .between 4 20⟩, ⟨10, 8, .rw, .between 0 4⟩, ⟨5, 0, .rw, .odd 9 33⟩]⟩,
  ⟨0x241004, [(2, 0x20000), (16, 0x100)], 0x0, [⟨8, 8, .ro, .any⟩, ⟨1, 1, .wo, .any⟩, ⟨0, 0, .wo, .any⟩]⟩,
  ⟨0x241008, [(2, 0x20000), (16, 0x100)], 0x0, [⟨31, 16, .ro, .any⟩, ⟨15, 0, .ro, .any⟩]⟩,
  ⟨0x24100C, [(2, 0x20000), (16, 0x100)], 0x0, [⟨31, 24, .rc, .any⟩, ⟨23, 16, .rc, .any⟩, ⟨3, 3, .ro, .any⟩, ⟨2, 2, .ro, .any⟩]⟩,
  ⟨0x244000, [(2, 0x20000), (4096, 0x4)], 0x0, [⟨31, 0, .rw, .any⟩]⟩,
  ⟨0x248000, [(2, 0x20000), (4096, 0x4)], 0x0, [⟨31, 0, .ro, .any⟩]⟩,
  ⟨0x24C000, [(2, 0x20000)], 0x2, [⟨2, 2, .rw, .any⟩, ⟨1, 1, .rw, .any⟩, ⟨0, 0, .rw, .any⟩]⟩,
  ⟨0x24C004, [(2, 0x20000)], 0x0, [⟨25, 16, .ro, .any⟩, ⟨9, 0, .ro, .any⟩]⟩,
  ⟨0x24C008, [(2, 0x20000)], 0x640080, [⟨23, 16, .rw, .between 60 140⟩, ⟨8, 0, .rw, .between 26 256⟩]⟩,
  ⟨0x24C00C, [(2, 0x20000)], 0x0, [⟨31, 16, .rc, .any⟩, ⟨15, 8, .rw, .between 0 120⟩, ⟨4, 4, .ro, .any⟩, ⟨0, 0, .wo, .any⟩]⟩,
  ⟨0x24C010, [(2, 0x20000)], 0x0, [⟨31, 8, .rw, .any⟩, ⟨7, 5, .ro, .any⟩, ⟨2, 2, .ro, .any⟩, ⟨1, 1, .wo, .any⟩, ⟨0, 0, .wo, .any⟩]⟩,
  ⟨0x24C014, [(2, 0x20000)], 0x0, [⟨31, 16, .ro, .any⟩, ⟨15, 0, .ro, .any⟩]⟩,
  ⟨0x24C018, [(2, 0x20000)], 0x0, [⟨22, 16, .ro, .any⟩, ⟨14, 8, .ro, .any⟩, ⟨6, 0, .ro, .any⟩]⟩,
  ⟨0x24C01C, [(2, 0x20000)], 0x0, [⟨31, 24, .rc, .any⟩, ⟨23, 16, .rc, .any⟩, ⟨15, 0, .rc, .any⟩]⟩,
  ⟨0x24C020, [(2, 0x20000)], 0x0, [⟨31, 16, .rw, .signed (-8192) 8191⟩, ⟨15, 0, .rw, .signed (-8192) 8191⟩]⟩,
  ⟨0x24C024, [(2, 0x20000)], 0x0, [⟨31, 16, .rw, .signed (-8192) 8191⟩, ⟨15, 0, .rw, .signed (-8192) 8191⟩]⟩]
def rowsFURROW3 : List Row := [
  ⟨0x24C030, [(2, 0x20000)], 0x0, [⟨15, 0, .rw, .signed (-16384) 16383⟩]⟩,
  ⟨0x24C034, [(2, 0x20000)], 0x0, [⟨15, 0, .rw, .signed (-16384) 16383⟩]⟩,
  ⟨0x24C038, [(2, 0x20000)], 0x0, [⟨15, 0, .rw, .signed (-16384) 16383⟩]⟩,
  ⟨0x24C03C, [(2, 0x20000)], 0x0, [⟨15, 0, .rw, .signed (-16384) 16383⟩]⟩,
  ⟨0x24C040, [(2, 0x20000)], 0x0, [⟨24, 24, .ro, .any⟩, ⟨16, 16, .ro, .any⟩, ⟨13, 8, .ro, .any⟩, ⟨5, 0, .rw, .between 5 40⟩]⟩,
  ⟨0x24C044, [(2, 0x20000)], 0x0, [⟨15, 0, .rc, .any⟩]⟩,
  ⟨0x24C048, [(2, 0x20000)], 0x0, [⟨31, 0, .ro, .any⟩]⟩,
  ⟨0x24D000, [(2, 0x20000), (16, 0x40)], 0x0, [⟨23, 16, .rw, .any⟩, ⟨15, 8, .ro, .any⟩, ⟨1, 0, .ro, .any⟩]⟩,
  ⟨0x24D004, [(2, 0x20000), (16, 0x40)], 0x0, [⟨31, 24, .ro, .any⟩, ⟨23, 16, .ro, .any⟩, ⟨15, 8, .ro, .any⟩, ⟨7, 0, .ro, .any⟩]⟩,
  ⟨0x24D008, [(2, 0x20000), (16, 0x40)], 0x0, [⟨16, 16, .ro, .any⟩, ⟨15, 8, .ro, .any⟩, ⟨7, 0, .rw, .signed (-30) 30⟩]⟩,
  ⟨0x24D00C, [(2, 0x20000), (16, 0x40)], 0x0, [⟨31, 16, .ro, .any⟩, ⟨15, 0, .ro, .any⟩]⟩,
  ⟨0x24D010, [(2, 0x20000), (16, 0x40)], 0x0, [⟨24, 24, .ro, .any⟩, ⟨23, 0, .ro, .any⟩]⟩,
  ⟨0x24E000, [(2, 0x20000), (68, 0x4)], 0x0, [⟨31, 0, .rw, .any⟩]⟩,
  ⟨0x250000, [(2, 0x20000), (16, 0x800), (512, 0x4)], 0x0, [⟨31, 0, .rw, .any⟩]⟩]

/-- The rows of the FURROW block. -/
def rowsFURROW : List Row := rowsFURROW0 ++ rowsFURROW1 ++ rowsFURROW2 ++ rowsFURROW3
def rowsLINE0 : List Row := [
  ⟨0x400000, [], 0x801, [⟨15, 8, .ro, .any⟩, ⟨7, 0, .ro, .any⟩]⟩,
  ⟨0x500000, [], 0xA01, [⟨15, 8, .ro, .any⟩, ⟨7, 0, .ro, .any⟩]⟩,
  ⟨0x400004, [(2, 0x100000)], 0x0, [⟨17, 17, .w1c, .any⟩, ⟨16, 16, .w1c, .any⟩, ⟨2, 2, .w1c, .any⟩, ⟨1, 1, .w1c, .any⟩, ⟨0, 0, .w1c, .any⟩]⟩,
  ⟨0x400008, [(2, 0x100000)], 0x0, [⟨17, 16, .rw, .any⟩, ⟨2, 0, .rw, .any⟩]⟩,
  ⟨0x40000C, [(2, 0x100000)], 0x0, [⟨17, 16, .wo, .any⟩, ⟨2, 0, .wo, .any⟩]⟩,
  ⟨0x400100, [(2, 0x100000)], 0x0, [⟨31, 24, .ro, .any⟩, ⟨23, 16, .ro, .any⟩, ⟨15, 8, .ro, .any⟩, ⟨7, 0, .ro, .any⟩]⟩,
  ⟨0x400104, [(2, 0x100000)], 0x10206, [⟨16, 16, .ro, .any⟩, ⟨15, 8, .rw, .between 0 32⟩, ⟨7, 0, .rw, .between 1 64⟩]⟩,
  ⟨0x400108, [(2, 0x100000)], 0x0, [⟨15, 0, .rc, .any⟩]⟩,
  ⟨0x40010C, [(2, 0x100000)], 0x0, [⟨15, 0, .rc, .any⟩]⟩,
  ⟨0x400200, [(2, 0x100000)], 0x0, [⟨17, 16, .ro, .any⟩, ⟨1, 1, .rw, .any⟩, ⟨0, 0, .ro, .any⟩]⟩,
  ⟨0x400204, [(2, 0x100000)], 0x0, [⟨15, 0, .rc, .any⟩]⟩]

/-- The rows of the LINE block. -/
def rowsLINE : List Row := rowsLINE0
def rowsFEC0 : List Row := [
  ⟨0x600000, [], 0xC01, [⟨15, 8, .ro, .any⟩, ⟨7, 0, .ro, .any⟩]⟩,
  ⟨0x600004, [], 0x0, [⟨13, 8, .w1c, .any⟩, ⟨5, 0, .w1c, .any⟩]⟩,
  ⟨0x600008, [], 0x0, [⟨13, 8, .rw, .any⟩, ⟨5, 0, .rw, .any⟩]⟩,
  ⟨0x60000C, [], 0x0, [⟨13, 8, .wo, .any⟩, ⟨5, 0, .wo, .any⟩]⟩,
  ⟨0x600100, [(2, 0x40000)], 0xD0000, [⟨19, 16, .ro, .any⟩, ⟨11, 8, .ro, .any⟩, ⟨4, 4, .ro, .any⟩, ⟨1, 0, .ro, .any⟩]⟩,
  ⟨0x600104, [(2, 0x40000)], 0x802, [⟨15, 8, .rw, .between 1 255⟩, ⟨2, 2, .wo, .any⟩, ⟨1, 1, .rw, .any⟩, ⟨0, 0, .wo, .any⟩]⟩,
  ⟨0x600108, [(2, 0x40000)], 0x0, [⟨28, 16, .ro, .any⟩, ⟨12, 0, .ro, .any⟩]⟩,
  ⟨0x60010C, [(2, 0x40000)], 0x0, [⟨31, 16, .rw, .any⟩, ⟨15, 0, .rw, .upTo 0 31 16 0⟩]⟩,
  ⟨0x600110, [(2, 0x40000)], 0x0, [⟨31, 0, .ro, .any⟩]⟩,
  ⟨0x600114, [(2, 0x40000)], 0x0, [⟨2, 2, .ro, .any⟩, ⟨1, 1, .ro, .any⟩, ⟨0, 0, .ro, .any⟩]⟩,
  ⟨0x600118, [(2, 0x40000)], 0x0, [⟨31, 0, .ro, .any⟩]⟩,
  ⟨0x60011C, [(2, 0x40000)], 0x0, [⟨31, 0, .ro, .any⟩]⟩,
  ⟨0x600120, [(2, 0x40000)], 0x0, [⟨31, 0, .ro, .any⟩]⟩,
  ⟨0x600124, [(2, 0x40000)], 0x0, [⟨15, 0, .ro, .any⟩]⟩,
  ⟨0x600128, [(2, 0x40000)], 0x0, [⟨31, 0, .ro, .any⟩]⟩,
  ⟨0x60012C, [(2, 0x40000)], 0x0, [⟨15, 0, .ro, .any⟩]⟩]
def rowsFEC1 : List Row := [
  ⟨0x600130, [(2, 0x40000)], 0x0, [⟨31, 0, .ro, .any⟩]⟩,
  ⟨0x600134, [(2, 0x40000)], 0x0, [⟨15, 0, .ro, .any⟩]⟩,
  ⟨0x600138, [(2, 0x40000)], 0x0, [⟨31, 0, .ro, .any⟩]⟩,
  ⟨0x60013C, [(2, 0x40000)], 0x0, [⟨15, 0, .ro, .any⟩]⟩]

/-- The rows of the FEC block. -/
def rowsFEC : List Row := rowsFEC0 ++ rowsFEC1
def rowsLINK0 : List Row := [
  ⟨0x700000, [], 0xE01, [⟨15, 8, .ro, .any⟩, ⟨7, 0, .ro, .any⟩]⟩,
  ⟨0x700004, [], 0x0, [⟨31, 31, .w1c, .any⟩, ⟨29, 0, .w1c, .any⟩]⟩,
  ⟨0x700008, [], 0x0, [⟨31, 31, .rw, .any⟩, ⟨29, 0, .rw, .any⟩]⟩,
  ⟨0x70000C, [], 0x0, [⟨31, 31, .wo, .any⟩, ⟨29, 0, .wo, .any⟩]⟩,
  ⟨0x700100, [(2, 0x40000)], 0x350C, [⟨31, 31, .wo, .any⟩, ⟨15, 12, .rw, .between 2 15⟩, ⟨11, 8, .rw, .between 2 15⟩, ⟨5, 0, .rw, .between 0 32⟩]⟩,
  ⟨0x700104, [(2, 0x40000)], 0x0, [⟨5, 5, .ro, .any⟩, ⟨4, 4, .ro, .any⟩, ⟨1, 0, .ro, .any⟩]⟩,
  ⟨0x700108, [(2, 0x40000)], 0x0, [⟨31, 0, .ro, .any⟩]⟩,
  ⟨0x70010C, [(2, 0x40000)], 0x0, [⟨31, 0, .ro, .any⟩]⟩,
  ⟨0x700110, [(2, 0x40000)], 0x2, [⟨31, 24, .rc, .any⟩, ⟨23, 16, .ro, .any⟩, ⟨3, 2, .ro, .any⟩, ⟨1, 1, .rw, .any⟩, ⟨0, 0, .wo, .any⟩]⟩,
  ⟨0x700114, [(2, 0x40000)], 0x0, [⟨31, 24, .ro, .any⟩, ⟨23, 16, .ro, .any⟩, ⟨15, 8, .ro, .any⟩, ⟨7, 0, .ro, .any⟩]⟩,
  ⟨0x700118, [(2, 0x40000)], 0x0, [⟨31, 0, .ro, .any⟩]⟩,
  ⟨0x70011C, [(2, 0x40000)], 0x0, [⟨31, 0, .ro, .any⟩]⟩,
  ⟨0x700120, [(2, 0x40000)], 0x0, [⟨31, 8, .ro, .any⟩, ⟨7, 6, .ro, .any⟩, ⟨5, 5, .ro, .any⟩]⟩,
  ⟨0x700124, [(2, 0x40000)], 0x0, [⟨8, 8, .rw, .any⟩, ⟨7, 0, .ro, .any⟩]⟩,
  ⟨0x700128, [(2, 0x40000)], 0x0, [⟨31, 8, .rw, .any⟩, ⟨2, 2, .ro, .any⟩, ⟨1, 1, .ro, .any⟩, ⟨0, 0, .wo, .any⟩]⟩,
  ⟨0x70012C, [(2, 0x40000)], 0x0, [⟨31, 16, .ro, .any⟩, ⟨15, 0, .ro, .any⟩]⟩]
def rowsLINK1 : List Row := [
  ⟨0x700140, [(2, 0x40000), (16, 0x4)], 0x0, [⟨31, 16, .ro, .any⟩, ⟨15, 0, .ro, .any⟩]⟩,
  ⟨0x700180, [(2, 0x40000)], 0x0, [⟨31, 16, .rc, .any⟩, ⟨15, 0, .rc, .any⟩]⟩,
  ⟨0x700184, [(2, 0x40000)], 0x0, [⟨31, 0, .rc, .any⟩]⟩,
  ⟨0x700188, [(2, 0x40000)], 0x0, [⟨31, 16, .rc, .any⟩, ⟨15, 0, .rc, .any⟩]⟩,
  ⟨0x70018C, [(2, 0x40000)], 0x0, [⟨31, 0, .rc, .any⟩]⟩,
  ⟨0x700190, [(2, 0x40000)], 0x0, [⟨21, 0, .ro, .any⟩]⟩,
  ⟨0x708000, [(2, 0x40000)], 0x0, [⟨26, 24, .ro, .any⟩, ⟨23, 20, .ro, .any⟩, ⟨19, 16, .ro, .any⟩, ⟨15, 12, .ro, .any⟩, ⟨11, 8, .ro, .any⟩, ⟨3, 0, .ro, .any⟩]⟩,
  ⟨0x708004, [(2, 0x40000)], 0x10A00, [⟨16, 16, .rw, .any⟩, ⟨15, 8, .rw, .between 1 255⟩, ⟨1, 1, .wo, .any⟩, ⟨0, 0, .wo, .any⟩]⟩,
  ⟨0x708008, [(2, 0x40000)], 0x0, [⟨31, 0, .ro, .any⟩]⟩,
  ⟨0x70800C, [(2, 0x40000)], 0x0, [⟨31, 0, .ro, .any⟩]⟩,
  ⟨0x708010, [(2, 0x40000)], 0x0, [⟨31, 0, .ro, .any⟩]⟩,
  ⟨0x708014, [(2, 0x40000)], 0x0, [⟨31, 8, .ro, .any⟩, ⟨7, 6, .ro, .any⟩, ⟨5, 5, .ro, .any⟩, ⟨2, 0, .ro, .any⟩]⟩,
  ⟨0x708018, [(2, 0x40000)], 0x0, [⟨31, 0, .ro, .any⟩]⟩,
  ⟨0x70801C, [(2, 0x40000)], 0x0, [⟨31, 24, .rc, .any⟩, ⟨23, 16, .rc, .any⟩, ⟨15, 8, .rc, .any⟩, ⟨7, 0, .rc, .any⟩]⟩,
  ⟨0x708020, [(2, 0x40000)], 0x0, [⟨23, 16, .ro, .any⟩, ⟨15, 0, .rc, .any⟩]⟩,
  ⟨0x7083F0, [], 0x0, [⟨15, 0, .rc, .any⟩]⟩]
def rowsLINK2 : List Row := [
  ⟨0x708400, [(16, 0x8)], 0x0, [⟨31, 0, .ro, .any⟩]⟩,
  ⟨0x708404, [(16, 0x8)], 0x0, [⟨31, 16, .ro, .any⟩, ⟨15, 8, .ro, .any⟩, ⟨7, 7, .ro, .any⟩, ⟨6, 6, .ro, .any⟩, ⟨5, 0, .ro, .any⟩]⟩]

/-- The rows of the LINK block. -/
def rowsLINK : List Row := rowsLINK0 ++ rowsLINK1 ++ rowsLINK2
def rowsHOSTLANE0 : List Row := [
  ⟨0x800000, [], 0x1001, [⟨15, 8, .ro, .any⟩, ⟨7, 0, .ro, .any⟩]⟩,
  ⟨0x800004, [], 0x0, [⟨19, 16, .w1c, .any⟩, ⟨15, 0, .w1c, .any⟩]⟩,
  ⟨0x800008, [], 0x0, [⟨19, 0, .rw, .any⟩]⟩,
  ⟨0x80000C, [], 0x0, [⟨19, 0, .wo, .any⟩]⟩,
  ⟨0x800010, [], 0x0, [⟨19, 16, .ro, .any⟩, ⟨3, 0, .ro, .any⟩]⟩,
  ⟨0x801000, [(16, 0x100)], 0x18, [⟨31, 31, .wo, .any⟩, ⟨8, 8, .rw, .any⟩, ⟨4, 4, .rw, .any⟩, ⟨3, 3, .rw, .any⟩, ⟨1, 1, .rw, .any⟩, ⟨0, 0, .rw, .any⟩]⟩,
  ⟨0x801004, [(16, 0x100)], 0x0, [⟨25, 24, .ro, .any⟩, ⟨23, 20, .ro, .any⟩, ⟨16, 16, .ro, .any⟩, ⟨9, 8, .ro, .any⟩, ⟨5, 5, .ro, .any⟩, ⟨4, 4, .ro, .any⟩, ⟨2, 0, .ro, .any⟩]⟩,
  ⟨0x801008, [(16, 0x100)], 0x0, [⟨9, 9, .w1c, .any⟩, ⟨8, 8, .w1c, .any⟩, ⟨7, 7, .w1c, .any⟩, ⟨6, 6, .w1c, .any⟩, ⟨5, 5, .w1c, .any⟩, ⟨4, 4, .w1c, .any⟩, ⟨3, 3, .w1c, .any⟩, ⟨2, 2, .w1c, .any⟩, ⟨1, 1, .w1c, .any⟩, ⟨0, 0, .w1c, .any⟩]⟩,
  ⟨0x80100C, [(16, 0x100)], 0x0, [⟨9, 0, .rw, .any⟩]⟩,
  ⟨0x801010, [(16, 0x100)], 0xFA0000, [⟨23, 16, .rw, .any⟩, ⟨15, 8, .rw, .any⟩, ⟨7, 0, .rw, .any⟩]⟩,
  ⟨0x801014, [(16, 0x100)], 0xFC36, [⟨23, 16, .rw, .any⟩, ⟨15, 8, .rw, .any⟩, ⟨7, 0, .rw, .any⟩]⟩,
  ⟨0x801018, [(16, 0x100)], 0x500000, [⟨22, 16, .rw, .between 40 120⟩, ⟨8, 8, .rw, .any⟩, ⟨4, 4, .ro, .any⟩, ⟨0, 0, .rw, .any⟩]⟩,
  ⟨0x80101C, [(16, 0x100)], 0x140000, [⟨22, 16, .rw, .between 0 40⟩, ⟨11, 10, .rw, .between 0 2⟩, ⟨9, 8, .rw, .between 0 2⟩, ⟨7, 6, .rw, .between 0 2⟩, ⟨0, 0, .rw, .any⟩]⟩,
  ⟨0x801020, [(16, 0x100)], 0x0, [⟨31, 24, .ro, .any⟩, ⟨22, 16, .ro, .any⟩, ⟨0, 0, .ro, .any⟩]⟩,
  ⟨0x801024, [(16, 0x100)], 0x501F4, [⟨23, 16, .rw, .between 1 100⟩, ⟨15, 0, .rw, .between 10 5000⟩]⟩,
  ⟨0x801028, [(16, 0x100)], 0x0, [⟨31, 16, .ro, .any⟩, ⟨15, 8, .rc, .any⟩, ⟨0, 0, .ro, .any⟩]⟩]
def rowsHOSTLANE1 : List Row := [
  ⟨0x80102C, [(16, 0x100)], 0xA003C1E, [⟨31, 24, .rw, .between 1 255⟩, ⟨15, 8, .rw, .between 20 200⟩, ⟨7, 0, .rw, .upTo 10 15 8 10⟩]⟩,
  ⟨0x801030, [(16, 0x100)], 0x6, [⟨8, 8, .rw, .any⟩, ⟨3, 0, .rw, .between 0 8⟩]⟩,
  ⟨0x801034, [(16, 0x100)], 0x6, [⟨31, 24, .rc, .any⟩, ⟨19, 19, .ro, .any⟩, ⟨18, 18, .wo, .any⟩, ⟨17, 17, .wo, .any⟩, ⟨16, 16, .ro, .any⟩, ⟨8, 8, .rw, .any⟩, ⟨3, 0, .rw, .between 0 8⟩]⟩,
  ⟨0x801038, [(16, 0x100)], 0x10010, [⟨24, 16, .rw, .between 1 256⟩, ⟨9, 9, .ro, .any⟩, ⟨8, 8, .rw, .any⟩, ⟨5, 4, .rw, .between 1 3⟩, ⟨2, 0, .wo, .any⟩]⟩,
  ⟨0x80103C, [(16, 0x100)], 0x2710, [⟨23, 0, .rw, .between 16 16777215⟩]⟩,
  ⟨0x801040, [(16, 0x100)], 0x0, [⟨31, 0, .rc, .any⟩]⟩,
  ⟨0x801044, [(16, 0x100)], 0x0, [⟨31, 31, .ro, .any⟩, ⟨29, 20, .ro, .any⟩, ⟨19, 10, .ro, .any⟩, ⟨9, 0, .ro, .any⟩]⟩,
  ⟨0x801048, [(16, 0x100)], 0x0, [⟨31, 24, .ro, .any⟩, ⟨23, 16, .ro, .any⟩, ⟨15, 0, .ro, .any⟩]⟩,
  ⟨0x80104C, [(16, 0x100)], 0x0, [⟨31, 24, .rc, .any⟩, ⟨23, 16, .rc, .any⟩, ⟨15, 8, .rc, .any⟩, ⟨7, 0, .rc, .any⟩]⟩,
  ⟨0x801050, [(16, 0x100)], 0x0, [⟨23, 16, .ro, .any⟩, ⟨15, 0, .rc, .any⟩]⟩,
  ⟨0x801060, [(16, 0x100)], 0x0, [⟨31, 0, .ro, .any⟩]⟩,
  ⟨0x801064, [(16, 0x100)], 0x0, [⟨15, 0, .ro, .any⟩]⟩,
  ⟨0x801068, [(16, 0x100)], 0x0, [⟨31, 0, .ro, .any⟩]⟩,
  ⟨0x80106C, [(16, 0x100)], 0x0, [⟨15, 0, .ro, .any⟩]⟩,
  ⟨0x801070, [(16, 0x100)], 0x0, [⟨31, 0, .ro, .any⟩]⟩,
  ⟨0x801074, [(16, 0x100)], 0x0, [⟨15, 0, .ro, .any⟩]⟩]

/-- The rows of the HOSTLANE block. -/
def rowsHOSTLANE : List Row := rowsHOSTLANE0 ++ rowsHOSTLANE1
def rowsCLIENT0 : List Row := [
  ⟨0x900000, [], 0x1201, [⟨15, 8, .ro, .any⟩, ⟨7, 0, .ro, .any⟩]⟩,
  ⟨0x900004, [], 0x0, [⟨15, 0, .w1c, .any⟩]⟩,
  ⟨0x900008, [], 0x0, [⟨15, 0, .rw, .any⟩]⟩,
  ⟨0x90000C, [], 0x0, [⟨15, 0, .wo, .any⟩]⟩,
  ⟨0x901000, [(16, 0x100)], 0x0, [⟨31, 31, .ro, .any⟩, ⟨27, 25, .ro, .any⟩, ⟨24, 23, .ro, .any⟩, ⟨22, 22, .ro, .any⟩, ⟨21, 20, .ro, .any⟩, ⟨19, 16, .ro, .any⟩, ⟨15, 12, .ro, .any⟩, ⟨6, 0, .ro, .any⟩]⟩,
  ⟨0x901004, [(16, 0x100)], 0x0, [⟨31, 31, .wo, .any⟩, ⟨30, 30, .wo, .any⟩, ⟨9, 8, .rw, .between 0 2⟩, ⟨5, 5, .rw, .any⟩, ⟨1, 0, .rw, .between 0 2⟩]⟩,
  ⟨0x901008, [(16, 0x100)], 0x2580, [⟨13, 0, .rw, .between 64 9600⟩]⟩,
  ⟨0x90100C, [(16, 0x100)], 0x0, [⟨31, 24, .ro, .any⟩, ⟨17, 16, .ro, .any⟩, ⟨9, 9, .ro, .any⟩, ⟨8, 8, .ro, .any⟩, ⟨2, 0, .ro, .any⟩]⟩,
  ⟨0x901010, [(16, 0x100)], 0x0, [⟨8, 8, .w1c, .any⟩, ⟨7, 7, .w1c, .any⟩, ⟨6, 6, .w1c, .any⟩, ⟨5, 5, .w1c, .any⟩, ⟨4, 4, .w1c, .any⟩, ⟨3, 3, .w1c, .any⟩, ⟨2, 2, .w1c, .any⟩, ⟨1, 1, .w1c, .any⟩, ⟨0, 0, .w1c, .any⟩]⟩,
  ⟨0x901014, [(16, 0x100)], 0x0, [⟨8, 0, .rw, .any⟩]⟩,
  ⟨0x901018, [(16, 0x100)], 0x12C00001, [⟨31, 20, .rw, .between 1 3600⟩, ⟨0, 0, .rw, .any⟩]⟩,
  ⟨0x90101C, [(16, 0x100)], 0x0, [⟨31, 16, .ro, .any⟩, ⟨15, 8, .rc, .any⟩, ⟨1, 1, .ro, .any⟩, ⟨0, 0, .ro, .any⟩]⟩,
  ⟨0x901020, [(16, 0x100)], 0x0, [⟨31, 24, .rc, .any⟩, ⟨23, 16, .rc, .any⟩, ⟨15, 8, .rc, .any⟩, ⟨7, 0, .rc, .any⟩]⟩,
  ⟨0x901028, [(16, 0x100)], 0x0, [⟨23, 16, .ro, .any⟩, ⟨15, 0, .rc, .any⟩]⟩,
  ⟨0x901040, [(16, 0x100)], 0x0, [⟨31, 0, .ro, .any⟩]⟩,
  ⟨0x901044, [(16, 0x100)], 0x0, [⟨15, 0, .ro, .any⟩]⟩]
def rowsCLIENT1 : List Row := [
  ⟨0x901048, [(16, 0x100)], 0x0, [⟨31, 0, .ro, .any⟩]⟩,
  ⟨0x90104C, [(16, 0x100)], 0x0, [⟨15, 0, .ro, .any⟩]⟩,
  ⟨0x901050, [(16, 0x100)], 0x0, [⟨31, 0, .ro, .any⟩]⟩,
  ⟨0x901054, [(16, 0x100)], 0x0, [⟨15, 0, .ro, .any⟩]⟩,
  ⟨0x901058, [(16, 0x100)], 0x0, [⟨31, 0, .ro, .any⟩]⟩,
  ⟨0x90105C, [(16, 0x100)], 0x0, [⟨15, 0, .ro, .any⟩]⟩,
  ⟨0x901060, [(16, 0x100)], 0x0, [⟨31, 0, .ro, .any⟩]⟩,
  ⟨0x901064, [(16, 0x100)], 0x0, [⟨15, 0, .ro, .any⟩]⟩,
  ⟨0x901068, [(16, 0x100)], 0x0, [⟨31, 0, .ro, .any⟩]⟩,
  ⟨0x90106C, [(16, 0x100)], 0x0, [⟨15, 0, .ro, .any⟩]⟩]

/-- The rows of the CLIENT block. -/
def rowsCLIENT : List Row := rowsCLIENT0 ++ rowsCLIENT1
def rowsTIME0 : List Row := [
  ⟨0xA00000, [], 0x1401, [⟨15, 8, .ro, .any⟩, ⟨7, 0, .ro, .any⟩]⟩,
  ⟨0xA00004, [], 0x0, [⟨17, 8, .w1c, .any⟩, ⟨5, 0, .w1c, .any⟩]⟩,
  ⟨0xA00008, [], 0x0, [⟨17, 8, .rw, .any⟩, ⟨5, 0, .rw, .any⟩]⟩,
  ⟨0xA0000C, [], 0x0, [⟨17, 8, .wo, .any⟩, ⟨5, 0, .wo, .any⟩]⟩,
  ⟨0xA00010, [], 0x0, [⟨11, 10, .ro, .any⟩, ⟨9, 8, .ro, .any⟩, ⟨6, 6, .ro, .any⟩, ⟨5, 4, .ro, .any⟩, ⟨3, 3, .ro, .any⟩, ⟨2, 2, .ro, .any⟩, ⟨1, 1, .ro, .any⟩, ⟨0, 0, .ro, .any⟩]⟩,
  ⟨0xA00014, [], 0x1, [⟨1, 1, .wo, .any⟩, ⟨0, 0, .rw, .any⟩]⟩,
  ⟨0xA00018, [], 0x1140602, [⟨31, 24, .rw, .between 1 255⟩, ⟨23, 16, .rw, .between 1 255⟩, ⟨11, 8, .rw, .any⟩, ⟨3, 0, .rw, .any⟩]⟩,
  ⟨0xA00020, [], 0x0, [⟨31, 0, .ro, .any⟩]⟩,
  ⟨0xA00024, [], 0x0, [⟨31, 0, .ro, .any⟩]⟩,
  ⟨0xA00028, [], 0x0, [⟨31, 0, .ro, .any⟩]⟩,
  ⟨0xA0002C, [], 0x0, [⟨31, 0, .ro, .any⟩]⟩,
  ⟨0xA00030, [], 0x0, [⟨31, 0, .wo, .any⟩]⟩,
  ⟨0xA00034, [], 0x0, [⟨31, 0, .wo, .any⟩]⟩,
  ⟨0xA00038, [], 0x0, [⟨31, 0, .wo, .any⟩]⟩,
  ⟨0xA0003C, [], 0x0, [⟨31, 0, .wo, .any⟩]⟩,
  ⟨0xA00040, [], 0x0, [⟨31, 16, .wo, .any⟩]⟩]
def rowsTIME1 : List Row := [
  ⟨0xA00044, [], 0x0, [⟨31, 0, .wo, .any⟩]⟩,
  ⟨0xA00048, [], 0x640000, [⟨25, 16, .rw, .between 1 500⟩, ⟨0, 0, .rw, .any⟩]⟩,
  ⟨0xA0004C, [], 0x0, [⟨31, 0, .ro, .any⟩]⟩,
  ⟨0xA00050, [], 0x0, [⟨31, 0, .rw, .signed (-128000000) 128000000⟩]⟩,
  ⟨0xA00054, [], 0x0, [⟨31, 0, .ro, .any⟩]⟩,
  ⟨0xA00060, [], 0x0, [⟨31, 0, .rw, .any⟩]⟩,
  ⟨0xA00064, [], 0x0, [⟨31, 0, .rw, .any⟩]⟩,
  ⟨0xA00068, [], 0x0, [⟨31, 0, .rw, .any⟩]⟩,
  ⟨0xA0006C, [], 0x0, [⟨31, 0, .rw, .any⟩]⟩,
  ⟨0xA00070, [], 0x0, [⟨31, 0, .ro, .any⟩]⟩,
  ⟨0xA00074, [], 0x0, [⟨31, 0, .ro, .any⟩]⟩,
  ⟨0xA00078, [], 0x0, [⟨31, 0, .rw, .any⟩]⟩,
  ⟨0xA0007C, [], 0x0, [⟨31, 16, .ro, .any⟩, ⟨15, 0, .rc, .any⟩]⟩,
  ⟨0xA01000, [(16, 0x20)], 0x0, [⟨0, 0, .rw, .any⟩]⟩,
  ⟨0xA01004, [(16, 0x20)], 0x0, [⟨31, 0, .rw, .any⟩]⟩,
  ⟨0xA01008, [(16, 0x20)], 0x0, [⟨31, 0, .rw, .any⟩]⟩]
def rowsTIME2 : List Row := [
  ⟨0xA0100C, [(16, 0x20)], 0x0, [⟨31, 0, .rc, .any⟩]⟩,
  ⟨0xA01010, [(16, 0x20)], 0x0, [⟨31, 16, .rc, .any⟩, ⟨15, 0, .rc, .any⟩]⟩,
  ⟨0xA01014, [(16, 0x20)], 0x0, [⟨31, 16, .rc, .any⟩, ⟨15, 0, .rc, .any⟩]⟩,
  ⟨0xA02000, [(4, 0x40)], 0x0, [⟨9, 9, .w1c, .any⟩, ⟨8, 8, .ro, .any⟩, ⟨4, 4, .rw, .any⟩, ⟨3, 3, .rw, .any⟩, ⟨1, 1, .wo, .any⟩, ⟨0, 0, .wo, .any⟩]⟩,
  ⟨0xA02010, [(4, 0x40)], 0x0, [⟨31, 16, .rw, .any⟩]⟩,
  ⟨0xA02014, [(4, 0x40)], 0x0, [⟨29, 0, .rw, .between 0 999999999⟩]⟩,
  ⟨0xA02018, [(4, 0x40)], 0x0, [⟨31, 0, .rw, .any⟩]⟩,
  ⟨0xA0201C, [(4, 0x40)], 0x0, [⟨15, 0, .rw, .any⟩]⟩,
  ⟨0xA02020, [(4, 0x40)], 0x3B9ACA00, [⟨31, 0, .rw, .between 20 4294967295⟩]⟩,
  ⟨0xA02024, [(4, 0x40)], 0x64, [⟨31, 0, .rw, .any⟩]⟩,
  ⟨0xA02028, [(4, 0x40)], 0x0, [⟨31, 0, .rw, .between 0 16777215⟩]⟩,
  ⟨0xA03000, [(2, 0x40)], 0x2, [⟨31, 16, .rc, .any⟩, ⟨12, 8, .ro, .any⟩, ⟨2, 1, .rw, .between 1 3⟩, ⟨0, 0, .rw, .any⟩]⟩,
  ⟨0xA03010, [(2, 0x40)], 0x0, [⟨31, 0, .ro, .any⟩]⟩,
  ⟨0xA03014, [(2, 0x40)], 0x0, [⟨31, 0, .ro, .any⟩]⟩,
  ⟨0xA03018, [(2, 0x40)], 0x0, [⟨31, 0, .ro, .any⟩]⟩,
  ⟨0xA0301C, [(2, 0x40)], 0x0, [⟨31, 0, .ro, .any⟩]⟩]
def rowsTIME3 : List Row := [
  ⟨0xA03020, [(2, 0x40)], 0x0, [⟨31, 0, .rw, .any⟩]⟩]

/-- The rows of the TIME block. -/
def rowsTIME : List Row := rowsTIME0 ++ rowsTIME1 ++ rowsTIME2 ++ rowsTIME3
def rowsHEADLAND0 : List Row := [
  ⟨0xB00000, [], 0x1601, [⟨15, 8, .ro, .any⟩, ⟨7, 0, .ro, .any⟩]⟩,
  ⟨0xB00004, [], 0x0, [⟨10, 0, .w1c, .any⟩]⟩,
  ⟨0xB00008, [], 0x0, [⟨10, 0, .rw, .any⟩]⟩,
  ⟨0xB0000C, [], 0x0, [⟨10, 0, .wo, .any⟩]⟩,
  ⟨0xB00010, [], 0x603FF, [⟨23, 16, .rw, .between 0 20⟩, ⟨11, 8, .rw, .between 0 8⟩, ⟨7, 0, .rw, .any⟩]⟩,
  ⟨0xB00014, [], 0x5A0FC3B1, [⟨31, 0, .rw, .any⟩]⟩,
  ⟨0xB00018, [], 0xE0103, [⟨31, 31, .wo, .any⟩, ⟨20, 16, .rw, .between 8 20⟩, ⟨9, 9, .rw, .any⟩, ⟨8, 8, .rw, .any⟩, ⟨4, 4, .rw, .any⟩, ⟨1, 1, .rw, .any⟩, ⟨0, 0, .rw, .any⟩]⟩,
  ⟨0xB0001C, [], 0x0, [⟨31, 31, .ro, .any⟩, ⟨23, 0, .ro, .any⟩]⟩,
  ⟨0xB00020, [], 0x0, [⟨31, 31, .ro, .any⟩, ⟨30, 24, .ro, .any⟩, ⟨23, 12, .ro, .any⟩, ⟨11, 0, .ro, .any⟩]⟩,
  ⟨0xB00024, [], 0x8402, [⟨15, 12, .rw, .between 1 15⟩, ⟨11, 8, .rw, .between 1 15⟩, ⟨2, 0, .rw, .between 0 6⟩]⟩,
  ⟨0xB00028, [], 0x3E8, [⟨13, 0, .rw, .between 100 10000⟩]⟩,
  ⟨0xB0002C, [], 0x0, [⟨15, 0, .rc, .any⟩]⟩,
  ⟨0xB00040, [], 0x1000000, [⟨29, 24, .rw, .between 1 60⟩, ⟨18, 16, .rw, .any⟩, ⟨12, 12, .rw, .any⟩, ⟨9, 9, .ro, .any⟩, ⟨8, 8, .ro, .any⟩, ⟨1, 1, .wo, .any⟩, ⟨0, 0, .wo, .any⟩]⟩,
  ⟨0xB00044, [(15, 0x4)], 0x0, [⟨31, 0, .rw, .any⟩]⟩,
  ⟨0xB00080, [], 0x0, [⟨31, 24, .rc, .any⟩, ⟨23, 16, .rc, .any⟩, ⟨15, 0, .rc, .any⟩]⟩,
  ⟨0xB00084, [], 0x0, [⟨16, 16, .ro, .any⟩, ⟨2, 0, .ro, .any⟩]⟩]
def rowsHEADLAND1 : List Row := [
  ⟨0xB01000, [(8, 0x40)], 0x30300, [⟨20, 16, .rw, .signed (-8) 8⟩, ⟨12, 8, .rw, .signed (-8) 8⟩, ⟨4, 0, .rw, .signed (-8) 8⟩]⟩,
  ⟨0xB01004, [(8, 0x40)], 0x0, [⟨31, 24, .ro, .any⟩, ⟨23, 16, .ro, .any⟩, ⟨3, 2, .ro, .any⟩, ⟨1, 1, .ro, .any⟩, ⟨0, 0, .ro, .any⟩]⟩,
  ⟨0xB01008, [(8, 0x40)], 0x30300, [⟨20, 16, .ro, .any⟩, ⟨12, 8, .ro, .any⟩, ⟨4, 0, .ro, .any⟩]⟩,
  ⟨0xB0100C, [(8, 0x40)], 0x0, [⟨15, 0, .rc, .any⟩]⟩,
  ⟨0xB01010, [(8, 0x40)], 0x0, [⟨31, 24, .rc, .any⟩, ⟨23, 16, .rc, .any⟩, ⟨15, 8, .rc, .any⟩, ⟨7, 0, .rc, .any⟩]⟩,
  ⟨0xB01014, [(8, 0x40)], 0x0, [⟨31, 24, .rc, .any⟩, ⟨23, 16, .rc, .any⟩, ⟨15, 8, .rc, .any⟩, ⟨7, 0, .rc, .any⟩]⟩,
  ⟨0xB02000, [], 0x0, [⟨31, 31, .ro, .any⟩, ⟨26, 24, .ro, .any⟩, ⟨21, 16, .ro, .any⟩, ⟨15, 8, .ro, .any⟩, ⟨1, 1, .ro, .any⟩, ⟨0, 0, .ro, .any⟩]⟩,
  ⟨0xB02004, [], 0x0, [⟨31, 16, .ro, .any⟩, ⟨15, 0, .ro, .any⟩]⟩,
  ⟨0xB02008, [], 0x0, [⟨31, 16, .rc, .any⟩, ⟨11, 8, .ro, .any⟩, ⟨0, 0, .wo, .any⟩]⟩,
  ⟨0xB02010, [(15, 0x4)], 0x0, [⟨31, 0, .ro, .any⟩]⟩]

/-- The rows of the HEADLAND block. -/
def rowsHEADLAND : List Row := rowsHEADLAND0 ++ rowsHEADLAND1
def rowsHKADC0 : List Row := [
  ⟨0xC00000, [], 0x1801, [⟨15, 8, .ro, .any⟩, ⟨7, 0, .ro, .any⟩]⟩,
  ⟨0xC00004, [], 0x0, [⟨6, 0, .w1c, .any⟩]⟩,
  ⟨0xC00008, [], 0x0, [⟨6, 0, .rw, .any⟩]⟩,
  ⟨0xC0000C, [], 0x0, [⟨6, 0, .wo, .any⟩]⟩,
  ⟨0xC00010, [], 0x0, [⟨31, 31, .wo, .any⟩, ⟨8, 8, .rw, .any⟩, ⟨7, 4, .rw, .any⟩, ⟨1, 0, .rw, .any⟩]⟩,
  ⟨0xC00014, [], 0x0, [⟨31, 16, .rc, .any⟩, ⟨15, 8, .ro, .any⟩, ⟨1, 1, .ro, .any⟩, ⟨0, 0, .ro, .any⟩]⟩,
  ⟨0xC00020, [], 0x900, [⟨31, 31, .wo, .any⟩, ⟨18, 16, .ro, .any⟩, ⟨11, 8, .rw, .between 0 9⟩, ⟨7, 6, .rw, .any⟩, ⟨4, 0, .rw, .any⟩]⟩,
  ⟨0xC00024, [], 0x0, [⟨31, 31, .ro, .any⟩, ⟨30, 30, .ro, .any⟩, ⟨29, 24, .ro, .any⟩, ⟨23, 0, .ro, .any⟩]⟩,
  ⟨0xC00028, [], 0x0, [⟨15, 0, .rc, .any⟩]⟩,
  ⟨0xC00030, [], 0x0, [⟨31, 28, .wo, .any⟩, ⟨27, 24, .ro, .any⟩, ⟨23, 20, .ro, .any⟩, ⟨17, 16, .rw, .any⟩, ⟨4, 0, .rw, .any⟩]⟩,
  ⟨0xC00034, [], 0xE66, [⟨11, 0, .rw, .between 1 4095⟩]⟩,
  ⟨0xC00040, [], 0x0, [⟨31, 31, .wo, .any⟩, ⟨30, 28, .ro, .any⟩, ⟨20, 16, .rw, .diagChannel⟩, ⟨9, 0, .rw, .any⟩]⟩,
  ⟨0xC00044, [], 0x10000000, [⟨31, 24, .rw, .between 1 255⟩, ⟨15, 0, .ro, .any⟩]⟩,
  ⟨0xC00100, [(16, 0x4)], 0x0, [⟨17, 16, .rw, .any⟩, ⟨15, 8, .rw, .any⟩, ⟨4, 0, .rw, .any⟩]⟩,
  ⟨0xC00200, [(16, 0x4)], 0x0, [⟨31, 31, .ro, .any⟩, ⟨30, 30, .ro, .any⟩, ⟨29, 24, .ro, .any⟩, ⟨23, 0, .ro, .any⟩]⟩,
  ⟨0xC00400, [(128, 0x8)], 0x0, [⟨23, 0, .rw, .any⟩]⟩]
def rowsHKADC1 : List Row := [
  ⟨0xC00404, [(128, 0x8)], 0x400000, [⟨23, 0, .rw, .any⟩]⟩]

/-- The rows of the HKADC block. -/
def rowsHKADC : List Row := rowsHKADC0 ++ rowsHKADC1
def rowsPDAC0 : List Row := [
  ⟨0xC80000, [], 0x1901, [⟨15, 8, .ro, .any⟩, ⟨7, 0, .ro, .any⟩]⟩,
  ⟨0xC80004, [], 0x0, [⟨5, 0, .w1c, .any⟩]⟩,
  ⟨0xC80008, [], 0x0, [⟨5, 0, .rw, .any⟩]⟩,
  ⟨0xC8000C, [], 0x0, [⟨5, 0, .wo, .any⟩]⟩,
  ⟨0xC80010, [], 0x730000, [⟨31, 24, .ro, .any⟩, ⟨23, 16, .rw, .between 90 125⟩, ⟨8, 8, .ro, .any⟩, ⟨4, 0, .rw, .between 0 19⟩]⟩,
  ⟨0xC80014, [], 0x0, [⟨31, 16, .rc, .any⟩, ⟨0, 0, .w1c, .any⟩]⟩,
  ⟨0xC80040, [(4, 0x10)], 0xA7C6, [⟨31, 0, .rw, .between 42950 1717987⟩]⟩,
  ⟨0xC80044, [(4, 0x10)], 0x0, [⟨31, 31, .rw, .any⟩, ⟨14, 0, .rw, .any⟩]⟩,
  ⟨0xC80048, [(4, 0x10)], 0x0, [⟨31, 0, .ro, .any⟩]⟩,
  ⟨0xC80100, [(20, 0x20)], 0x10000, [⟨31, 31, .ro, .any⟩, ⟨19, 18, .rw, .any⟩, ⟨17, 17, .rw, .any⟩, ⟨16, 16, .rw, .any⟩, ⟨9, 8, .rw, .between 0 2⟩, ⟨1, 0, .rw, .between 0 2⟩]⟩,
  ⟨0xC80104, [(20, 0x20)], 0x0, [⟨31, 16, .ro, .any⟩, ⟨15, 0, .rw, .any⟩]⟩,
  ⟨0xC80108, [(20, 0x20)], 0x0, [⟨12, 0, .rw, .between 0 5000⟩]⟩,
  ⟨0xC8010C, [(20, 0x20)], 0x0, [⟨15, 0, .wo, .any⟩]⟩,
  ⟨0xC80110, [(20, 0x20)], 0x64, [⟨28, 24, .ro, .any⟩, ⟨15, 0, .rw, .between 100 65535⟩]⟩,
  ⟨0xC80114, [(20, 0x20)], 0x0, [⟨31, 24, .rc, .any⟩, ⟨23, 16, .rc, .any⟩, ⟨15, 8, .rc, .any⟩, ⟨7, 0, .rc, .any⟩]⟩,
  ⟨0xC80318, [(4, 0x20)], 0x3E80040, [⟨31, 16, .rw, .between 1 65535⟩, ⟨15, 0, .rw, .between 1 65535⟩]⟩]

/-- The rows of the PDAC block. -/
def rowsPDAC : List Row := rowsPDAC0
def rowsLOOP0 : List Row := [
  ⟨0xD00000, [], 0x1A01, [⟨15, 8, .ro, .any⟩, ⟨7, 0, .ro, .any⟩]⟩,
  ⟨0xD00004, [], 0x0, [⟨19, 16, .w1c, .any⟩, ⟨15, 0, .ro, .any⟩]⟩,
  ⟨0xD00008, [], 0x0, [⟨19, 0, .rw, .any⟩]⟩,
  ⟨0xD0000C, [], 0x0, [⟨19, 0, .wo, .any⟩]⟩,
  ⟨0xD00010, [], 0x0, [⟨31, 0, .ro, .any⟩]⟩,
  ⟨0xD00014, [], 0x0, [⟨25, 16, .rc, .any⟩, ⟨9, 0, .ro, .any⟩]⟩,
  ⟨0xD00100, [(4, 0x10)], 0x0, [⟨27, 16, .rw, .any⟩, ⟨11, 11, .rw, .any⟩, ⟨10, 10, .rw, .any⟩, ⟨9, 9, .rw, .any⟩, ⟨6, 4, .rw, .between 0 5⟩, ⟨3, 0, .rw, .any⟩]⟩,
  ⟨0xD00104, [(4, 0x10)], 0x0, [⟨13, 13, .ro, .any⟩, ⟨12, 12, .ro, .any⟩, ⟨11, 0, .ro, .any⟩]⟩,
  ⟨0xD01000, [(16, 0x100)], 0x10000, [⟨28, 24, .rw, .between 0 19⟩, ⟨23, 16, .rw, .between 1 255⟩, ⟨11, 11, .rw, .any⟩, ⟨9, 9, .rw, .any⟩, ⟨8, 8, .rw, .any⟩, ⟨2, 0, .rw, .between 0 4⟩]⟩,
  ⟨0xD01004, [(16, 0x100)], 0xFFF0000, [⟨27, 16, .rw, .any⟩, ⟨8, 8, .rw, .any⟩, ⟨7, 4, .rw, .any⟩, ⟨3, 0, .rw, .any⟩]⟩,
  ⟨0xD01008, [(16, 0x100)], 0x1001001, [⟨31, 16, .rw, .between 1 65535⟩, ⟨15, 8, .rw, .zeroOrTwoUp⟩, ⟨7, 0, .rw, .any⟩]⟩,
  ⟨0xD0100C, [(16, 0x100)], 0xFFF0000, [⟨27, 16, .rw, .any⟩, ⟨11, 0, .rw, .upTo 0 27 16 0⟩]⟩,
  ⟨0xD01010, [(16, 0x100)], 0x10000000, [⟨31, 24, .rw, .between 1 255⟩, ⟨23, 0, .rw, .any⟩]⟩,
  ⟨0xD01014, [(16, 0x100)], 0x0, [⟨15, 0, .rw, .any⟩]⟩,
  ⟨0xD01020, [(16, 0x100), (2, 0x20)], 0x10, [⟨12, 12, .rw, .any⟩, ⟨9, 8, .rw, .any⟩, ⟨5, 4, .rw, .between 1 2⟩, ⟨2, 0, .rw, .between 0 4⟩]⟩,
  ⟨0xD01024, [(16, 0x100), (2, 0x20)], 0x0, [⟨23, 0, .rw, .any⟩]⟩]
def rowsLOOP1 : List Row := [
  ⟨0xD01028, [(16, 0x100), (2, 0x20)], 0x0, [⟨23, 0, .rw, .any⟩]⟩,
  ⟨0xD0102C, [(16, 0x100), (2, 0x20)], 0x0, [⟨23, 0, .rw, .any⟩]⟩,
  ⟨0xD01030, [(16, 0x100), (2, 0x20)], 0x0, [⟨23, 0, .rw, .any⟩]⟩,
  ⟨0xD01034, [(16, 0x100), (2, 0x20)], 0x0, [⟨23, 0, .rw, .any⟩]⟩,
  ⟨0xD01038, [(16, 0x100), (2, 0x20)], 0xFFFF0000, [⟨31, 16, .rw, .any⟩, ⟨15, 0, .rw, .upTo 0 31 16 0⟩]⟩,
  ⟨0xD01080, [(16, 0x100)], 0x0, [⟨31, 24, .rc, .any⟩, ⟨9, 8, .ro, .any⟩, ⟨6, 4, .ro, .any⟩, ⟨2, 0, .ro, .any⟩]⟩,
  ⟨0xD01084, [(16, 0x100)], 0x0, [⟨31, 16, .ro, .any⟩, ⟨15, 0, .ro, .any⟩]⟩,
  ⟨0xD01088, [(16, 0x100)], 0x0, [⟨23, 0, .ro, .any⟩]⟩,
  ⟨0xD0108C, [(16, 0x100)], 0x0, [⟨23, 0, .ro, .any⟩]⟩,
  ⟨0xD01090, [(16, 0x100)], 0x0, [⟨5, 5, .w1c, .any⟩, ⟨4, 4, .w1c, .any⟩, ⟨3, 3, .w1c, .any⟩, ⟨2, 2, .w1c, .any⟩, ⟨1, 1, .w1c, .any⟩, ⟨0, 0, .w1c, .any⟩]⟩,
  ⟨0xD01094, [(16, 0x100)], 0x0, [⟨5, 0, .rw, .any⟩]⟩,
  ⟨0xD01098, [(16, 0x100)], 0x0, [⟨31, 24, .rc, .any⟩, ⟨23, 16, .rc, .any⟩, ⟨15, 8, .rc, .any⟩, ⟨7, 0, .rc, .any⟩]⟩,
  ⟨0xD08000, [(4, 0x4000), (4096, 0x4)], 0x0, [⟨31, 0, .ro, .any⟩]⟩]

/-- The rows of the LOOP block. -/
def rowsLOOP : List Row := rowsLOOP0 ++ rowsLOOP1
def rowsMEM0 : List Row := [
  ⟨0xE00000, [], 0x1C01, [⟨15, 8, .ro, .any⟩, ⟨7, 0, .ro, .any⟩]⟩,
  ⟨0xE00004, [], 0x0, [⟨21, 21, .w1c, .any⟩, ⟨20, 20, .w1c, .any⟩, ⟨19, 19, .w1c, .any⟩, ⟨18, 18, .w1c, .any⟩, ⟨17, 17, .w1c, .any⟩, ⟨8, 0, .w1c, .any⟩]⟩,
  ⟨0xE00008, [], 0x0, [⟨21, 17, .rw, .any⟩, ⟨8, 0, .rw, .any⟩]⟩,
  ⟨0xE0000C, [], 0x0, [⟨21, 17, .wo, .any⟩, ⟨8, 0, .wo, .any⟩]⟩,
  ⟨0xE00010, [], 0x2580001, [⟨31, 16, .rw, .between 10 65535⟩, ⟨5, 4, .rw, .between 0 2⟩, ⟨0, 0, .rw, .any⟩]⟩,
  ⟨0xE00014, [], 0x0, [⟨31, 16, .ro, .any⟩, ⟨15, 0, .ro, .any⟩]⟩,
  ⟨0xE00020, [], 0x0, [⟨31, 28, .ro, .any⟩, ⟨27, 20, .ro, .any⟩, ⟨19, 0, .ro, .any⟩]⟩,
  ⟨0xE00024, [], 0x0, [⟨31, 28, .ro, .any⟩, ⟨27, 20, .ro, .any⟩, ⟨19, 0, .ro, .any⟩]⟩,
  ⟨0xE00030, [], 0x0, [⟨31, 0, .rws, .any⟩]⟩,
  ⟨0xE00034, [], 0x0, [⟨31, 0, .rws, .any⟩]⟩,
  ⟨0xE00038, [], 0x0, [⟨31, 31, .wo, .any⟩, ⟨30, 30, .ro, .any⟩, ⟨15, 8, .rws, .any⟩, ⟨3, 0, .rws, .between 0 8⟩]⟩,
  ⟨0xE0003C, [], 0x0, [⟨31, 28, .ro, .any⟩, ⟨19, 0, .ro, .any⟩]⟩,
  ⟨0xE00100, [(9, 0x10)], 0x1003E800, [⟨31, 24, .rw, .between 1 255⟩, ⟨23, 8, .rw, .between 1 65535⟩, ⟨7, 0, .ro, .any⟩]⟩,
  ⟨0xE00104, [(9, 0x10)], 0x0, [⟨31, 0, .rc, .any⟩]⟩,
  ⟨0xE00108, [(9, 0x10)], 0x0, [⟨31, 16, .rc, .any⟩, ⟨15, 0, .rc, .any⟩]⟩,
  ⟨0xE0010C, [(9, 0x10)], 0x0, [⟨31, 16, .rc, .any⟩, ⟨15, 0, .rc, .any⟩]⟩]

/-- The rows of the MEM block. -/
def rowsMEM : List Row := rowsMEM0
def rowsCXLCTL0 : List Row := [
  ⟨0xE80000, [], 0x1D01, [⟨15, 8, .ro, .any⟩, ⟨7, 0, .ro, .any⟩]⟩,
  ⟨0xE80004, [], 0x0, [⟨8, 8, .w1c, .any⟩, ⟨7, 7, .w1c, .any⟩, ⟨6, 6, .w1c, .any⟩, ⟨5, 5, .w1c, .any⟩, ⟨4, 4, .w1c, .any⟩, ⟨3, 3, .w1c, .any⟩, ⟨2, 2, .w1c, .any⟩, ⟨1, 1, .w1c, .any⟩, ⟨0, 0, .w1c, .any⟩]⟩,
  ⟨0xE80008, [], 0x0, [⟨8, 0, .rw, .any⟩]⟩,
  ⟨0xE8000C, [], 0x0, [⟨8, 0, .wo, .any⟩]⟩,
  ⟨0xE80010, [], 0x0, [⟨23, 16, .ro, .any⟩, ⟨15, 8, .ro, .any⟩, ⟨5, 4, .ro, .any⟩, ⟨1, 0, .ro, .any⟩]⟩,
  ⟨0xE80014, [], 0x80006, [⟨31, 31, .wo, .any⟩, ⟨19, 16, .rw, .laneWidth⟩, ⟨3, 0, .rw, .between 1 6⟩]⟩,
  ⟨0xE80020, [], 0x0, [⟨31, 0, .rw, .any⟩]⟩,
  ⟨0xE80024, [], 0x1, [⟨8, 0, .rw, .between 1 256⟩]⟩,
  ⟨0xE80028, [], 0x0, [⟨5, 4, .ro, .any⟩, ⟨1, 0, .wo, .any⟩]⟩,
  ⟨0xE8002C, [], 0x0, [⟨31, 0, .ro, .any⟩]⟩,
  ⟨0xE80030, [], 0x0, [⟨31, 24, .rc, .any⟩, ⟨23, 16, .rc, .any⟩, ⟨15, 8, .rc, .any⟩, ⟨7, 0, .rc, .any⟩]⟩,
  ⟨0xE80034, [], 0x0, [⟨23, 16, .ro, .any⟩, ⟨15, 0, .rc, .any⟩]⟩,
  ⟨0xE80038, [], 0x0, [⟨31, 24, .rc, .any⟩, ⟨23, 16, .rc, .any⟩, ⟨15, 0, .rc, .any⟩]⟩]

/-- The rows of the CXLCTL block. -/
def rowsCXLCTL : List Row := rowsCXLCTL0
def rowsSEC0 : List Row := [
  ⟨0xF00000, [], 0x1E01, [⟨15, 8, .ro, .any⟩, ⟨7, 0, .ro, .any⟩]⟩,
  ⟨0xF00004, [], 0x0, [⟨11, 0, .w1c, .any⟩]⟩,
  ⟨0xF00008, [], 0x0, [⟨11, 0, .rw, .any⟩]⟩,
  ⟨0xF0000C, [], 0x0, [⟨11, 0, .wo, .any⟩]⟩,
  ⟨0xF00010, [], 0x0, [⟨19, 16, .ro, .any⟩, ⟨8, 8, .ro, .any⟩, ⟨2, 0, .ro, .any⟩]⟩,
  ⟨0xF00014, [], 0x0, [⟨7, 7, .ro, .any⟩, ⟨6, 6, .ro, .any⟩, ⟨4, 4, .ro, .any⟩, ⟨3, 3, .ro, .any⟩, ⟨2, 2, .ro, .any⟩, ⟨0, 0, .ro, .any⟩]⟩,
  ⟨0xF00018, [], 0x0, [⟨31, 0, .ro, .any⟩]⟩,
  ⟨0xF0001C, [], 0x0, [⟨31, 0, .ro, .any⟩]⟩,
  ⟨0xF00020, [], 0x0, [⟨21, 16, .ro, .any⟩, ⟨13, 8, .ro, .any⟩, ⟨5, 0, .ro, .any⟩]⟩,
  ⟨0xF00024, [], 0x0, [⟨27, 16, .ro, .any⟩, ⟨11, 0, .ro, .any⟩]⟩,
  ⟨0xF00030, [], 0x258012C, [⟨31, 16, .rws, .between 60 65535⟩, ⟨11, 0, .rws, .between 10 3600⟩]⟩,
  ⟨0xF00034, [], 0x0, [⟨15, 0, .rc, .any⟩]⟩,
  ⟨0xF00040, [(4, 0x4)], 0x0, [⟨31, 31, .ro, .any⟩, ⟨26, 24, .ro, .any⟩, ⟨15, 0, .ro, .any⟩]⟩,
  ⟨0xF00050, [(4, 0x4)], 0x0, [⟨31, 16, .ro, .any⟩, ⟨11, 8, .ro, .any⟩, ⟨2, 0, .ro, .any⟩]⟩,
  ⟨0xF00060, [], 0x0, [⟨31, 16, .ro, .any⟩, ⟨15, 8, .ro, .any⟩, ⟨7, 4, .ro, .any⟩, ⟨2, 0, .ro, .any⟩]⟩,
  ⟨0xF00070, [], 0x0, [⟨23, 16, .ro, .any⟩, ⟨15, 0, .rc, .any⟩]⟩]
def rowsSEC1 : List Row := [
  ⟨0xF00074, [], 0x0, [⟨31, 24, .rc, .any⟩, ⟨23, 16, .rc, .any⟩, ⟨15, 8, .rc, .any⟩, ⟨7, 0, .rc, .any⟩]⟩]

/-- The rows of the SEC block. -/
def rowsSEC : List Row := rowsSEC0 ++ rowsSEC1
def rowsCPU0 : List Row := [
  ⟨0xF80000, [], 0x1F01, [⟨15, 8, .ro, .any⟩, ⟨7, 0, .ro, .any⟩]⟩,
  ⟨0xF80004, [], 0x0, [⟨4, 0, .w1c, .any⟩]⟩,
  ⟨0xF80008, [], 0x0, [⟨4, 0, .rw, .any⟩]⟩,
  ⟨0xF8000C, [], 0x0, [⟨4, 0, .wo, .any⟩]⟩,
  ⟨0xF80010, [], 0x0, [⟨10, 8, .ro, .any⟩, ⟨7, 4, .ro, .any⟩, ⟨3, 0, .ro, .any⟩]⟩,
  ⟨0xF80014, [], 0x0, [⟨0, 0, .wo, .any⟩]⟩,
  ⟨0xF80018, [], 0x0, [⟨31, 0, .wo, .any⟩]⟩,
  ⟨0xF8001C, [], 0x0, [⟨31, 24, .rc, .any⟩, ⟨23, 16, .rc, .any⟩, ⟨15, 0, .rc, .any⟩]⟩,
  ⟨0xF80030, [], 0x0, [⟨31, 0, .rw, .any⟩]⟩,
  ⟨0xF80034, [], 0x0, [⟨31, 16, .rw, .any⟩, ⟨6, 0, .rw, .any⟩]⟩,
  ⟨0xF80038, [], 0x0, [⟨13, 0, .wo, .any⟩]⟩,
  ⟨0xF8003C, [], 0x0, [⟨13, 0, .w1c, .any⟩]⟩,
  ⟨0xF80100, [(8, 0x10)], 0x0, [⟨31, 31, .ro, .any⟩, ⟨30, 30, .ro, .any⟩, ⟨29, 29, .ro, .any⟩, ⟨23, 16, .ro, .any⟩, ⟨15, 8, .ro, .any⟩, ⟨7, 0, .ro, .any⟩]⟩]

/-- The rows of the CPU block. -/
def rowsCPU : List Row := rowsCPU0
def rowsGLEAN0 : List Row := [
  ⟨0x1000000, [], 0x2001, [⟨15, 8, .ro, .any⟩, ⟨7, 0, .ro, .any⟩]⟩,
  ⟨0x1000004, [], 0x0, [⟨20, 0, .w1c, .any⟩]⟩,
  ⟨0x1000008, [], 0x0, [⟨20, 0, .rw, .any⟩]⟩,
  ⟨0x100000C, [], 0x0, [⟨20, 0, .wo, .any⟩]⟩,
  ⟨0x1000010, [], 0x0, [⟨19, 16, .wo, .any⟩, ⟨11, 8, .wo, .any⟩, ⟨3, 0, .wo, .any⟩]⟩,
  ⟨0x1000014, [], 0xA00, [⟨15, 8, .rw, .between 10 250⟩, ⟨2, 2, .rw, .any⟩, ⟨1, 1, .rw, .any⟩, ⟨0, 0, .rw, .any⟩]⟩,
  ⟨0x1000020, [], 0x0, [⟨23, 0, .rw, .any⟩]⟩,
  ⟨0x1000024, [], 0x10, [⟨16, 0, .rw, .between 16 65536⟩]⟩,
  ⟨0x1000028, [], 0x0, [⟨21, 0, .ro, .any⟩]⟩,
  ⟨0x100002C, [], 0x0, [⟨21, 0, .rw, .any⟩]⟩,
  ⟨0x1001000, [(4, 0x400)], 0x0, [⟨22, 16, .rw, .any⟩, ⟨6, 6, .rw, .any⟩, ⟨5, 5, .rw, .any⟩, ⟨4, 4, .rw, .any⟩, ⟨3, 3, .rw, .any⟩, ⟨2, 2, .rw, .any⟩, ⟨1, 0, .rw, .between 0 2⟩]⟩,
  ⟨0x1001004, [(4, 0x400)], 0x10001, [⟨22, 16, .rw, .between 1 64⟩, ⟨15, 8, .rw, .any⟩, ⟨7, 0, .rw, .any⟩]⟩,
  ⟨0x1001008, [(4, 0x400)], 0x0, [⟨23, 0, .rw, .any⟩]⟩,
  ⟨0x100100C, [(4, 0x400)], 0x10000, [⟨16, 0, .rw, .any⟩]⟩,
  ⟨0x1001010, [(4, 0x400)], 0x0, [⟨16, 0, .rw, .any⟩]⟩,
  ⟨0x1001014, [(4, 0x400)], 0x10000, [⟨16, 0, .rw, .any⟩]⟩]
def rowsGLEAN1 : List Row := [
  ⟨0x1001018, [(4, 0x400)], 0x0, [⟨16, 0, .ro, .any⟩]⟩,
  ⟨0x100101C, [(4, 0x400)], 0x0, [⟨6, 4, .ro, .any⟩, ⟨2, 0, .ro, .any⟩]⟩,
  ⟨0x1001020, [(4, 0x400), (4, 0x4)], 0x0, [⟨16, 16, .rw, .any⟩, ⟨15, 0, .rw, .any⟩]⟩,
  ⟨0x1001040, [(4, 0x400), (4, 0x10)], 0xFFFFFF, [⟨23, 0, .rw, .any⟩]⟩,
  ⟨0x1001044, [(4, 0x400), (4, 0x10)], 0x0, [⟨23, 0, .rw, .any⟩]⟩,
  ⟨0x1001048, [(4, 0x400), (4, 0x10)], 0x0, [⟨23, 0, .rw, .any⟩]⟩,
  ⟨0x100104C, [(4, 0x400), (4, 0x10)], 0x20, [⟨5, 4, .rw, .between 0 2⟩, ⟨2, 0, .rw, .between 0 6⟩]⟩,
  ⟨0x1001080, [(4, 0x400), (8, 0x4)], 0x0, [⟨31, 26, .rw, .gleanCond⟩, ⟨25, 20, .rw, .gleanCond⟩, ⟨19, 4, .rw, .any⟩]⟩,
  ⟨0x10010A0, [(4, 0x400), (2, 0x4)], 0xFFFFFFFF, [⟨31, 0, .rw, .any⟩]⟩,
  ⟨0x10010A8, [(4, 0x400), (2, 0x4)], 0xFFFFFFFF, [⟨31, 0, .rw, .any⟩]⟩,
  ⟨0x10010B0, [(4, 0x400), (2, 0x4)], 0x0, [⟨31, 0, .ro, .any⟩]⟩,
  ⟨0x10010C0, [(4, 0x400)], 0x0, [⟨31, 0, .ro, .any⟩]⟩,
  ⟨0x10010C4, [(4, 0x400)], 0x0, [⟨31, 0, .ro, .any⟩]⟩,
  ⟨0x10010C8, [(4, 0x400)], 0x0, [⟨31, 0, .ro, .any⟩]⟩,
  ⟨0x10010CC, [(4, 0x400)], 0x0, [⟨31, 0, .ro, .any⟩]⟩,
  ⟨0x10010D0, [(4, 0x400)], 0x0, [⟨31, 0, .ro, .any⟩]⟩]
def rowsGLEAN2 : List Row := [
  ⟨0x10010D4, [(4, 0x400)], 0x0, [⟨16, 0, .ro, .any⟩]⟩,
  ⟨0x10010D8, [(4, 0x400)], 0x0, [⟨31, 0, .ro, .any⟩]⟩,
  ⟨0x10010DC, [(4, 0x400)], 0x0, [⟨31, 16, .rc, .any⟩, ⟨15, 8, .rc, .any⟩, ⟨7, 0, .rc, .any⟩]⟩,
  ⟨0x10010E0, [(4, 0x400)], 0x0, [⟨16, 0, .rw, .any⟩]⟩,
  ⟨0x10010E8, [(4, 0x400)], 0x0, [⟨31, 0, .ro, .any⟩]⟩,
  ⟨0x10010EC, [(4, 0x400)], 0x0, [⟨31, 0, .ro, .any⟩]⟩,
  ⟨0x1008000, [], 0x0, [⟨2, 2, .ro, .any⟩, ⟨1, 1, .wo, .any⟩, ⟨0, 0, .wo, .any⟩]⟩,
  ⟨0x1008200, [(32, 0x4)], 0x0, [⟨31, 30, .rw, .any⟩, ⟨16, 16, .rw, .any⟩, ⟨15, 0, .rw, .any⟩]⟩,
  ⟨0x1008400, [(32, 0x8)], 0x0, [⟨31, 0, .ro, .any⟩]⟩,
  ⟨0x1008404, [(32, 0x8)], 0x0, [⟨17, 17, .ro, .any⟩, ⟨16, 16, .ro, .any⟩, ⟨15, 0, .ro, .any⟩]⟩,
  ⟨0x1009000, [(44, 0x4)], 0x0, [⟨13, 8, .ro, .any⟩, ⟨5, 0, .ro, .any⟩]⟩,
  ⟨0x100A000, [(4, 0x20)], 0x10000, [⟨31, 31, .rw, .any⟩, ⟨30, 30, .rw, .any⟩, ⟨27, 24, .rw, .between 0 12⟩, ⟨23, 16, .rw, .any⟩]⟩,
  ⟨0x100A004, [(4, 0x20)], 0x10000, [⟨27, 0, .rw, .between 64 268435455⟩]⟩,
  ⟨0x100A008, [(4, 0x20)], 0x0, [⟨31, 16, .rc, .any⟩, ⟨8, 0, .ro, .any⟩]⟩,
  ⟨0x100A00C, [(4, 0x20)], 0x0, [⟨9, 0, .ro, .any⟩]⟩,
  ⟨0x100C000, [(4, 0x2000), (2048, 0x4)], 0x0, [⟨31, 0, .ro, .any⟩]⟩]

/-- The rows of the GLEAN block. -/
def rowsGLEAN : List Row := rowsGLEAN0 ++ rowsGLEAN1 ++ rowsGLEAN2
def rowsPWR0 : List Row := [
  ⟨0x1100000, [], 0x2201, [⟨15, 8, .ro, .any⟩, ⟨7, 0, .ro, .any⟩]⟩,
  ⟨0x1100004, [], 0x0, [⟨5, 5, .w1c, .any⟩, ⟨4, 4, .w1c, .any⟩, ⟨3, 3, .w1c, .any⟩, ⟨2, 2, .w1c, .any⟩, ⟨1, 1, .w1c, .any⟩, ⟨0, 0, .w1c, .any⟩]⟩,
  ⟨0x1100008, [], 0x0, [⟨5, 0, .rw, .any⟩]⟩,
  ⟨0x110000C, [], 0x0, [⟨5, 0, .wo, .any⟩]⟩,
  ⟨0x1100010, [], 0x0, [⟨31, 31, .wo, .any⟩, ⟨30, 30, .wo, .any⟩, ⟨29, 29, .rws, .any⟩, ⟨0, 0, .wo, .any⟩]⟩,
  ⟨0x1100014, [], 0x0, [⟨31, 31, .ro, .any⟩, ⟨30, 30, .ro, .any⟩, ⟨25, 24, .ro, .any⟩, ⟨7, 0, .rc, .any⟩]⟩,
  ⟨0x1100018, [], 0x30303, [⟨31, 31, .ro, .any⟩, ⟨17, 16, .ro, .any⟩, ⟨9, 8, .ro, .any⟩, ⟨1, 0, .rw, .any⟩]⟩,
  ⟨0x110001C, [], 0x0, [⟨31, 24, .ro, .any⟩, ⟨23, 16, .ro, .any⟩, ⟨15, 8, .ro, .any⟩, ⟨7, 0, .ro, .any⟩]⟩,
  ⟨0x1100020, [], 0x0, [⟨31, 24, .ro, .any⟩, ⟨19, 16, .ro, .any⟩, ⟨11, 8, .ro, .any⟩, ⟨7, 0, .rc, .any⟩]⟩,
  ⟨0x1100030, [], 0x0, [⟨31, 24, .ro, .any⟩, ⟨23, 23, .ro, .any⟩, ⟨22, 21, .ro, .any⟩, ⟨20, 0, .ro, .any⟩]⟩,
  ⟨0x1100034, [], 0x0, [⟨15, 0, .rc, .any⟩]⟩,
  ⟨0x1100040, [], 0x0, [⟨7, 0, .ro, .any⟩]⟩,
  ⟨0x1100044, [], 0x0, [⟨31, 16, .rc, .any⟩, ⟨15, 0, .rc, .any⟩]⟩,
  ⟨0x1100048, [], 0x0, [⟨31, 31, .rw, .any⟩, ⟨23, 0, .rw, .between 1 16777215⟩]⟩,
  ⟨0x1100050, [(4, 0x4)], 0x8300, [⟨15, 15, .rw, .any⟩, ⟨12, 8, .rw, .wakeDomain⟩, ⟨2, 0, .rw, .any⟩]⟩,
  ⟨0x1100060, [], 0x8307, [⟨15, 15, .rw, .any⟩, ⟨12, 8, .rw, .wakeDomain⟩, ⟨2, 0, .rw, .any⟩]⟩]
def rowsPWR1 : List Row := [
  ⟨0x1100064, [(3, 0x4)], 0x8300, [⟨15, 15, .rw, .any⟩, ⟨12, 8, .rw, .wakeDomain⟩, ⟨2, 0, .rw, .any⟩]⟩,
  ⟨0x1100070, [(2, 0x4)], 0x0, [⟨31, 20, .ro, .any⟩, ⟨15, 8, .rc, .any⟩, ⟨7, 0, .rc, .any⟩]⟩,
  ⟨0x1101000, [(27, 0x10)], 0x0, [⟨7, 0, .rw, .any⟩]⟩,
  ⟨0x1101034, [(23, 0x10)], 0x1, [⟨31, 31, .wo, .any⟩, ⟨1, 0, .rws, .between 0 2⟩]⟩,
  ⟨0x1101008, [(3, 0x10)], 0x3, [⟨31, 31, .ro, .any⟩, ⟨19, 16, .ro, .any⟩, ⟨11, 8, .ro, .any⟩, ⟨2, 0, .ro, .any⟩]⟩,
  ⟨0x1101038, [(23, 0x10)], 0x0, [⟨31, 31, .ro, .any⟩, ⟨19, 16, .ro, .any⟩, ⟨11, 8, .ro, .any⟩, ⟨2, 0, .ro, .any⟩]⟩,
  ⟨0x11011A8, [], 0x3, [⟨31, 31, .ro, .any⟩, ⟨19, 16, .ro, .any⟩, ⟨11, 8, .ro, .any⟩, ⟨2, 0, .ro, .any⟩]⟩]

/-- The rows of the PWR block. -/
def rowsPWR : List Row := rowsPWR0 ++ rowsPWR1
def rowsCAL0 : List Row := [
  ⟨0x1180000, [], 0x2301, [⟨15, 8, .ro, .any⟩, ⟨7, 0, .ro, .any⟩]⟩,
  ⟨0x1180004, [], 0x0, [⟨6, 6, .w1c, .any⟩, ⟨5, 5, .w1c, .any⟩, ⟨4, 4, .w1c, .any⟩, ⟨3, 3, .w1c, .any⟩, ⟨2, 2, .w1c, .any⟩, ⟨1, 1, .w1c, .any⟩, ⟨0, 0, .w1c, .any⟩]⟩,
  ⟨0x1180008, [], 0x0, [⟨6, 0, .rw, .any⟩]⟩,
  ⟨0x118000C, [], 0x0, [⟨6, 0, .wo, .any⟩]⟩,
  ⟨0x1180010, [], 0x0, [⟨31, 28, .wo, .any⟩, ⟨20, 16, .rws, .any⟩]⟩,
  ⟨0x1180014, [], 0x0, [⟨31, 24, .ro, .any⟩, ⟨23, 19, .ro, .any⟩, ⟨18, 16, .ro, .any⟩, ⟨15, 0, .ro, .any⟩]⟩,
  ⟨0x1180018, [], 0x80000A18, [⟨31, 31, .rw, .any⟩, ⟨15, 8, .rw, .between 2 60⟩, ⟨7, 0, .rw, .between 1 255⟩]⟩,
  ⟨0x1180100, [(32, 0x4)], 0x0, [⟨31, 31, .ro, .any⟩, ⟨30, 30, .ro, .any⟩, ⟨29, 29, .ro, .any⟩, ⟨28, 28, .ro, .any⟩, ⟨27, 27, .ro, .any⟩, ⟨26, 25, .ro, .any⟩, ⟨15, 0, .ro, .any⟩]⟩,
  ⟨0x1180200, [(32, 0x4)], 0x0, [⟨31, 0, .ro, .any⟩]⟩]

/-- The rows of the CAL block. -/
def rowsCAL : List Row := rowsCAL0
def rowsBIST0 : List Row := [
  ⟨0x1200000, [], 0x2401, [⟨15, 8, .ro, .any⟩, ⟨7, 0, .ro, .any⟩]⟩,
  ⟨0x1200004, [], 0x0, [⟨5, 5, .w1c, .any⟩, ⟨4, 4, .w1c, .any⟩, ⟨3, 3, .w1c, .any⟩, ⟨2, 2, .w1c, .any⟩, ⟨1, 1, .w1c, .any⟩, ⟨0, 0, .w1c, .any⟩]⟩,
  ⟨0x1200008, [], 0x0, [⟨5, 0, .rw, .any⟩]⟩,
  ⟨0x120000C, [], 0x0, [⟨5, 0, .wo, .any⟩]⟩,
  ⟨0x1200010, [], 0x0, [⟨31, 28, .wo, .any⟩, ⟨9, 0, .rws, .between 0 915⟩]⟩,
  ⟨0x1200014, [], 0x0, [⟨31, 24, .rc, .any⟩, ⟨19, 16, .ro, .any⟩, ⟨9, 8, .ro, .any⟩, ⟨2, 0, .ro, .any⟩]⟩,
  ⟨0x1200020, [(4, 0x4)], 0x0, [⟨31, 0, .ro, .any⟩]⟩,
  ⟨0x1200030, [], 0x0, [⟨28, 16, .ro, .any⟩, ⟨12, 0, .ro, .any⟩]⟩,
  ⟨0x1200034, [], 0x0, [⟨3, 0, .ro, .any⟩]⟩,
  ⟨0x1200038, [], 0x4020, [⟨31, 24, .ro, .any⟩, ⟨23, 16, .ro, .any⟩, ⟨14, 8, .ro, .any⟩, ⟨5, 0, .ro, .any⟩]⟩,
  ⟨0x1200040, [], 0x0, [⟨9, 0, .rw, .between 0 915⟩]⟩,
  ⟨0x1200044, [], 0x0, [⟨31, 30, .ro, .any⟩, ⟨29, 29, .ro, .any⟩, ⟨28, 28, .ro, .any⟩, ⟨27, 26, .ro, .any⟩, ⟨24, 0, .ro, .any⟩]⟩,
  ⟨0x1200100, [(16, 0x8)], 0x0, [⟨31, 31, .ro, .any⟩, ⟨9, 0, .ro, .any⟩]⟩,
  ⟨0x1200104, [(16, 0x8)], 0x0, [⟨31, 0, .ro, .any⟩]⟩]

/-- The rows of the BIST block. -/
def rowsBIST : List Row := rowsBIST0
def rowsFAULT0 : List Row := [
  ⟨0x1280000, [], 0x2501, [⟨15, 8, .ro, .any⟩, ⟨7, 0, .ro, .any⟩]⟩,
  ⟨0x1280004, [], 0x0, [⟨2, 2, .w1c, .any⟩, ⟨1, 1, .w1c, .any⟩, ⟨0, 0, .w1c, .any⟩]⟩,
  ⟨0x1280008, [], 0x0, [⟨2, 0, .rw, .any⟩]⟩,
  ⟨0x128000C, [], 0x0, [⟨2, 0, .wo, .any⟩]⟩,
  ⟨0x1280010, [], 0x0, [⟨1, 1, .wo, .any⟩, ⟨0, 0, .wo, .any⟩]⟩,
  ⟨0x1280014, [], 0x0, [⟨31, 31, .ro, .any⟩, ⟨21, 16, .ro, .any⟩, ⟨15, 8, .rc, .any⟩, ⟨6, 0, .ro, .any⟩]⟩,
  ⟨0x1281000, [(64, 0x10)], 0x0, [⟨31, 24, .ro, .any⟩, ⟨19, 19, .ro, .any⟩, ⟨18, 17, .ro, .any⟩, ⟨15, 0, .ro, .any⟩]⟩,
  ⟨0x1281004, [(64, 0x10)], 0x0, [⟨31, 0, .ro, .any⟩]⟩,
  ⟨0x1281008, [(64, 0x10)], 0x0, [⟨31, 0, .ro, .any⟩]⟩,
  ⟨0x128100C, [(64, 0x10)], 0x0, [⟨31, 0, .ro, .any⟩]⟩]

/-- The rows of the FAULT block. -/
def rowsFAULT : List Row := rowsFAULT0
def rowsPINS0 : List Row := [
  ⟨0x1300000, [], 0x2601, [⟨15, 8, .ro, .any⟩, ⟨7, 0, .ro, .any⟩]⟩,
  ⟨0x1300004, [], 0x0, [⟨16, 16, .w1c, .any⟩, ⟨14, 0, .w1c, .any⟩]⟩,
  ⟨0x1300008, [], 0x0, [⟨16, 16, .rw, .any⟩, ⟨14, 0, .rw, .any⟩]⟩,
  ⟨0x130000C, [], 0x0, [⟨16, 16, .wo, .any⟩, ⟨14, 0, .wo, .any⟩]⟩,
  ⟨0x1300010, [], 0x0, [⟨2, 2, .ro, .any⟩, ⟨1, 0, .ro, .any⟩]⟩,
  ⟨0x1300014, [], 0x0, [⟨31, 24, .ro, .any⟩, ⟨0, 0, .ro, .any⟩]⟩,
  ⟨0x1300020, [], 0x0, [⟨23, 16, .rw, .any⟩, ⟨15, 8, .rw, .any⟩, ⟨7, 0, .rw, .any⟩]⟩,
  ⟨0x1300024, [], 0x0, [⟨7, 0, .ro, .any⟩]⟩,
  ⟨0x1300100, [], 0x1064150, [⟨31, 24, .rw, .any⟩, ⟨23, 12, .rw, .any⟩, ⟨8, 8, .ro, .any⟩, ⟨7, 0, .rw, .between 1 255⟩]⟩,
  ⟨0x1300110, [], 0x13E8110, [⟨31, 24, .rw, .any⟩, ⟨23, 12, .rw, .any⟩, ⟨8, 8, .ro, .any⟩, ⟨7, 0, .rw, .between 1 255⟩]⟩,
  ⟨0x1300120, [], 0x100A108, [⟨31, 24, .rw, .any⟩, ⟨23, 12, .rw, .any⟩, ⟨8, 8, .ro, .any⟩, ⟨7, 0, .rw, .between 1 255⟩]⟩,
  ⟨0x1300130, [(2, 0x10)], 0x64064008, [⟨31, 24, .rw, .any⟩, ⟨23, 12, .rw, .any⟩, ⟨8, 8, .ro, .any⟩, ⟨7, 0, .rw, .between 1 255⟩]⟩,
  ⟨0x1300150, [(2, 0x10)], 0xFF, [⟨31, 24, .rw, .any⟩, ⟨23, 12, .rw, .any⟩, ⟨8, 8, .rw, .any⟩, ⟨7, 0, .rw, .between 1 255⟩]⟩,
  ⟨0x1300170, [(8, 0x10)], 0x64008, [⟨31, 24, .rw, .any⟩, ⟨23, 12, .rw, .any⟩, ⟨8, 8, .rw, .any⟩, ⟨7, 0, .rw, .between 1 255⟩]⟩,
  ⟨0x1300104, [(15, 0x10)], 0x0, [⟨31, 31, .ro, .any⟩, ⟨30, 30, .ro, .any⟩, ⟨29, 29, .ro, .any⟩, ⟨23, 16, .rc, .any⟩, ⟨15, 8, .rc, .any⟩, ⟨7, 0, .rc, .any⟩]⟩]

/-- The rows of the PINS block. -/
def rowsPINS : List Row := rowsPINS0
def rowsBAR20 : List Row := [
  ⟨0x4000000, [], 0x0, [⟨31, 31, .wo, .any⟩, ⟨12, 0, .wo, .any⟩]⟩,
  ⟨0x4000004, [], 0x0, [⟨31, 31, .ro, .any⟩, ⟨30, 30, .ro, .any⟩, ⟨29, 28, .ro, .any⟩, ⟨12, 0, .ro, .any⟩]⟩,
  ⟨0x4000008, [], 0x0, [⟨3, 0, .rw, .any⟩]⟩,
  ⟨0x400000C, [], 0x0, [⟨31, 16, .ro, .any⟩, ⟨3, 0, .ro, .any⟩]⟩,
  ⟨0x4001000, [(1024, 0x4)], 0x0, [⟨31, 0, .rw, .any⟩]⟩,
  ⟨0x4002000, [(1024, 0x4)], 0x0, [⟨31, 0, .ro, .any⟩]⟩,
  ⟨0x4003000, [(1024, 0x4)], 0x0, [⟨31, 0, .ro, .any⟩]⟩,
  ⟨0x4008000, [(64, 0x10)], 0x0, [⟨31, 2, .rw, .any⟩]⟩,
  ⟨0x4008004, [(64, 0x10)], 0x0, [⟨31, 0, .rw, .any⟩]⟩,
  ⟨0x4008008, [(64, 0x10)], 0x0, [⟨31, 0, .rw, .any⟩]⟩,
  ⟨0x400800C, [(64, 0x10)], 0x1, [⟨0, 0, .rw, .any⟩]⟩,
  ⟨0x4009000, [(2, 0x4)], 0x0, [⟨31, 0, .ro, .any⟩]⟩]

/-- The rows of the BAR2 block. -/
def rowsBAR2 : List Row := rowsBAR20

/-- The rows that can hold an address of the 512 KiB page `id` (block IDs, R24). -/
def blockRows (id : Nat) : List Row :=
  match id with
  | 0 => rowsGLOBAL
  | 2 => rowsPLAN
  | 4 => rowsFURROW
  | 8 | 10 => rowsLINE
  | 12 => rowsFEC
  | 14 => rowsLINK
  | 16 => rowsHOSTLANE
  | 18 => rowsCLIENT
  | 20 => rowsTIME
  | 22 => rowsHEADLAND
  | 24 => rowsHKADC
  | 25 => rowsPDAC
  | 26 => rowsLOOP
  | 28 => rowsMEM
  | 29 => rowsCXLCTL
  | 30 => rowsSEC
  | 31 => rowsCPU
  | 32 => rowsGLEAN
  | 34 => rowsPWR
  | 35 => rowsCAL
  | 36 => rowsBIST
  | 37 => rowsFAULT
  | 38 => rowsPINS
  | 128 => rowsBAR2
  | _ => []

/-- Whether offset `off` falls on an instance of a row. -/
def onInstance : Nat → List (Nat × Nat) → Bool
  | off, [] => off == 0
  | off, (n, st) :: ds => off / st < n && onInstance (off % st) ds

/-- Whether the register row holds the byte address `a`. -/
def Row.holds (r : Row) (a : Nat) : Bool := r.base ≤ a && onInstance (a - r.base) r.dims

/-- The row of a BAR0 word address; none for an unassigned offset (R4). -/
def rowAt (a : Nat) : Option Row := (blockRows (a / 0x80000)).find? (fun r => r.holds a)

/-- What a register word reads as before anything has written it: the reset value of its row (R3). -/
def resetWord (a : Nat) : Word :=
  match rowAt a with
  | some r => BitVec.ofNat 32 r.reset
  | none => 0

end Sys2Proof.Machine
end

