-- ==== Sys2Proof/Machine/Store.lean ====
section
/-!
DEFINITION. Sparse stores in one canonical form: a list of (address, value) pairs with rising addresses and no pair equal to
what an unlisted address reads as (R255 for memories; the reset values of R3 for registers).
-/
namespace Sys2Proof.Machine

/-- A sparse store: the pairs that differ from the default, addresses rising. -/
abbrev Store (α : Type) := List (Nat × α)

/-- Reads one address: the listed value, or the default of an unlisted address. -/
def Store.read {α : Type} (dflt : Nat → α) : Store α → Nat → α
  | [], a => dflt a
  | (b, v) :: st, a => if a = b then v else Store.read dflt st a

/-- Removes every entry of an address. -/
def Store.drop {α : Type} : Store α → Nat → Store α
  | [], _ => []
  | (b, v) :: st, a => if a = b then Store.drop st a else (b, v) :: Store.drop st a

/-- Puts a pair into a rising list, replacing an earlier value of the address. -/
def Store.put {α : Type} : Store α → Nat → α → Store α
  | [], a, w => [(a, w)]
  | (b, v) :: st, a, w =>
    if a < b then (a, w) :: (b, v) :: st
    else if a = b then (a, w) :: st
    else (b, v) :: Store.put st a w

/-- Writes one address and keeps the canonical form: writing the default removes the entry. -/
def Store.write {α : Type} [DecidableEq α] (dflt : Nat → α) (st : Store α) (a : Nat) (w : α) : Store α :=
  if w = dflt a then Store.drop st a else Store.put st a w

/-- All addresses of the list lie above `n`, and they rise. -/
def Store.risingFrom {α : Type} : Nat → Store α → Bool
  | _, [] => true
  | n, (b, _) :: st => n ≤ b && Store.risingFrom (b + 1) st

/-- The canonical form: addresses rise strictly, and no entry equals the default of its address. -/
def Store.wf {α : Type} [DecidableEq α] (dflt : Nat → α) (st : Store α) : Bool :=
  Store.risingFrom 0 st && st.all (fun p => p.2 ≠ dflt p.1)

end Sys2Proof.Machine
end

