-- ==== Sys2Proof/Machine/State.lean ====
section
/-!
DEFINITION. The state of the T3280 as plain data: the registers of BAR0 and BAR2, the shadows and staging copies of wide
values, the internal state each chapter gives its engines, the queue of waiting commands, and the state after reset.
-/
namespace Sys2Proof.Machine

/-- Why a step stops. -/
inductive Fault where
  /-- A memory command names a word beyond its region (Table 13.1): an address that does not exist. Raised by MEMORY_READ,
  MEMORY_PARTIAL_WRITE and MEMORY_FULL_WRITE; safe. -/
  | noSuchWord
  deriving DecidableEq, Repr

/-- Why a command is refused. -/
inductive Refusal where
  /-- The command of this mnemonic has no meaning in the model; safe. -/
  | notModelled (mnemonic : String)
  deriving DecidableEq, Repr

/-- A pair of values, one for each carrier. -/
structure Duo (α : Type) where
  A : α
  B : α
  deriving DecidableEq, Repr

/-- The local time counter (R184): seconds, nanoseconds, fraction in 2^−32 ns. -/
structure Clock where
  sec : Nat
  ns : Nat
  frac : Nat
  deriving DecidableEq, Repr

/-- Time zero. -/
def Clock.zero : Clock := ⟨0, 0, 0⟩

/-- A live 48-bit counter and its overflow flag (R319). -/
structure Ctr48 where
  value : Nat := 0
  ovf : Bool := false
  /-- a load met a wrap's cycle since the last copy -/
  atWrite : Bool := false
  deriving DecidableEq, Repr

/-- The answer to a request of the partner in training (R150, Tables 7.5 and 7.6). -/
inductive CoeffAnswer where
  | updated
  | atLimit
  | notUpdated
  deriving DecidableEq, Repr

/-- A message sent out of the part, newest first in `State.sent`. -/
inductive Out where
  /-- an MSI-X message of a vector (R26) -/
  | msix (vector : Nat)
  /-- an issue of an event code (R28) -/
  | event (code : Nat)
  /-- the DETAIL of the event code issued last: the unit of UNIT_FAIL (R371) -/
  | detail (value : Nat)
  /-- a WMP NOTIFY EVENT on a path (R395) -/
  | notify (path code : Nat) (time : Clock) (count : Nat)
  /-- the answer to a WMP request on a path: done, or a NAK code (Tables 6.6 and 14.7) -/
  | reply (path : Nat) (nak : Option Nat)
  /-- the 512 overhead bytes of a line frame sent on a carrier (R97 to R100) -/
  | overhead (c : Carrier) (bytes : List Byte)
  /-- code 0 on every tributary of a carrier: a missing block, or the transmitter OFF (R86) -/
  | dacZero (c : Carrier)
  /-- a headland packet sent on a carrier and subcarrier: every byte on the air, preamble to CRC (R206) -/
  | headland (c : Carrier) (sub : Nat) (bytes : List Byte)
  /-- an in-band interrupt on I3C with its mandatory byte (R298) -/
  | ibi (byte : Nat)
  /-- the Hot-Join request, and the bytes of a private read; none for a NACK (R298) -/
  | hotJoin
  | i3cRead (bytes : Option (List Byte))
  | i3cIdentity (id : Nat) (bcr dcr : Byte)
  /-- a wake burst of a host lane, its levels negated or not, with its data at once after it (R145, R152); the precoder, or the decoder, takes its state as 0 at the lane's next
  symbol (R146); a changed pattern restarts at the lane's next 256-symbol boundary (R155) -/
  | wakeBurst (lane : Nat) (inverted : Bool)
  | precoderRestart (lane : Nat) (receive : Bool)
  | generatorRestart (lane : Nat) (pattern : Nat)
  /-- the answer to a training request of the partner, and this end's request for precoding at the start of training (R150) -/
  | trainingAnswer (lane : Nat) (answer : CoeffAnswer)
  | precodeRequest (lane : Nat) (wanted : Bool)
  /-- a record of a client port's stream given to a carrier (R168 to R171) -/
  | record (port : Nat) (c : Carrier) (bytes : List Byte)
  /-- a frame sent to the host ASIC on a port with the average gap before it; errored frames end in an error control character (R175, R176) -/
  | clientFrame (port : Nat) (bytes : List Byte) (err : Bool) (gap : Nat)
  /-- a record written into the device memory window: its offset in 64-byte units and its bytes (R268, R312) -/
  | window (at64 : Nat) (bytes : List Byte)
  /-- the answer to a host snoop: the line's bytes if the part holds it (R270) -/
  | snoop (data : Option (List Byte))
  /-- what a carrier sends or receives in the frame in progress is errored, since a shaping or NLC entry could not be read (R258) -/
  | errored (c : Carrier)
  /-- pulses of GLEAN_ARM and of GLEAN_FIRE_N, the latter in units of 10 ns (R310) -/
  | gleanArm
  | gleanFire (width : Nat)
  /-- a pulse output's ball changes to this level (R199) -/
  | pulse (n : Nat) (high : Bool)
  /-- a voltage write on an AVS port, mV (R331) -/
  | avsWrite (port mv : Nat)
  deriving DecidableEq, Repr

/-- A request of class MGR on its way to Plough (R287, Table 14.6). -/
inductive MgrReq where
  | step (c : Carrier) (targets : List Byte)
  | renegotiate (c : Carrier)
  | headland (c : Carrier) (sub : Nat) (data : List Byte)
  | replan (c : Carrier)
  deriving DecidableEq, Repr

/-- What a latched wake event stands for, delivered when its target is ON (R329). -/
inductive Deferred where
  | nothing
  | raise (blk bit : Nat) (code : Option Nat)
  deriving DecidableEq, Repr

/-- A latched wake event: its source and what it stands for. -/
structure WakeItem where
  source : Nat
  act : Deferred
  deriving DecidableEq, Repr

/-- What an AVS port is asked for (R331): a domain's wake, the level change, VDD_CONV to standby. -/
inductive AvsReq where
  | wake (d : Nat)
  | level
  | standby
  deriving DecidableEq, Repr

/-- Power control beyond its registers (chapter 16). -/
structure PowerSt where
  /-- domains whose 100 µs timer runs (R324) -/
  dropTimers : List Nat := []
  /-- latched wake events in order of arrival (R329) -/
  latched : List WakeItem := []
  /-- the state each WAKING domain wakes from -/
  wakingFrom : Store Nat := []
  /-- AVS requests waiting for voltage-done, by port, in order of arrival (R331) -/
  avs : List (Nat × AvsReq) := []
  /-- domains in the 10 ms gap before their next attempt, and those whose RESET waits for the end of their wake -/
  gaps : List Nat := []
  resets : List Nat := []
  /-- the level that the running change goes to, its failed AVS steps, and whether its 10 ms gap runs (R330) -/
  plTarget : Nat := 3
  plFails : Nat := 0
  plGap : Bool := false
  /-- VDD_CONV is at its standby level (R322) -/
  standby : Bool := true
  /-- a SHUTDOWN waits for the buffer to leave APPLYING (R337); the running shut-down skips BIST; it was a BIST RUN -/
  shutWaits : Bool := false
  shutSkips : Bool := false
  shutRun : Bool := false
  /-- the shut-down has reached BIST, and its results wait to be written -/
  shutTests : Bool := false
  /-- HALTED, and SHUTDOWN_DONE waits for every precision output to reach its safe value (Table 16.9) -/
  shutOwes : Bool := false
  deriving DecidableEq, Repr

/-- What a record of self-test results holds (R362): by unit a word in the layout of `BIST_UNIT_RESULT`, an absent one UNTESTED;
soft row repairs (array, row), spare-array assignments (array, spare unit), arrays beyond repair, and the last run's failing
reports: unit and a word in the layout of `BIST_FAIL_k_WHERE`. -/
structure BistRecord where
  units : Store Word := []
  soft : List (Nat × Nat) := []
  spares : List (Nat × Nat) := []
  beyond : List Nat := []
  reports : List (Nat × Word) := []
  deriving DecidableEq, Repr

/-- A copy of the BIST record in the seed store (R362): SEQ of its header, and its body. -/
structure BistCopy where
  seq : Word
  body : BistRecord
  deriving DecidableEq, Repr

/-- Self-test and repair beyond their registers (chapter 18). -/
structure BistSt where
  /-- the seed store's copies A and B of the record, where valid, and the AON result registers where they hold a newer run (R362) -/
  copyA : Option BistCopy := none
  copyB : Option BistCopy := none
  aon : Option BistRecord := none
  /-- units judged so far in the run in progress -/
  judged : List Nat := []
  /-- regions of Table 18.3 beyond repair, as applied at boot -/
  lost : List Nat := []
  /-- row fuses and fallow fuses burnt (R359); the fuses that the command in progress burns: rows, or a unit -/
  rowFuses : List (Nat × Nat) := []
  fallowFuses : List Nat := []
  fusing : Option (List (Nat × Nat) × List Nat) := none
  deriving DecidableEq, Repr

/-- One sub-converter's interleave calibration: offset in 1/16 LSB, gain in 2^−14, skew in 10 fs (R342). -/
structure IlEntry where
  ofs : Int
  gain : Int
  skew : Int
  deriving DecidableEq, Repr

/-- A calibration record about to be stored (R345). -/
structure CalStore where
  slot : Nat
  source : Nat
  temp : Int
  quality : Nat
  body : List Byte
  deriving DecidableEq, Repr

/-- Calibration beyond its registers (chapter 17). -/
structure CalSt where
  /-- the seed store's copies A and B of the 32 slots; an erased slot is empty -/
  copyA : List (List Byte) := List.replicate 32 []
  copyB : List (List Byte) := List.replicate 32 []
  /-- interleave values in force of slots 0 to 3 by sub-converter; an absent one is zero -/
  il : List (List IlEntry) := [[], [], [], []]
  /-- time-bus latencies in force, 2^−8 ns (R342) -/
  timeBus : List Nat := List.replicate 8 0
  /-- bodies that movements go to, by slot; the step of a TX_RESP movement and the set it began from -/
  target : List (Option (List Byte)) := List.replicate 32 none
  respStep : List Nat := [0, 0]
  respFrom : List (List Word) := [[], []]
  /-- stores waiting and running, oldest first -/
  stores : List CalStore := []
  /-- the copy of each slot that holds the record in use (true: B), and its TEMP -/
  used : List (Option Bool) := List.replicate 32 none
  temp : List Int := List.replicate 32 0
  /-- the slot that RUN measures; slots whose values were measured by the part and not written since -/
  running : Nat := 0
  measured : List Nat := []
  /-- seconds since background tracking last stored a record of slots 0 to 3 (R350) -/
  bgAge : List (Option Nat) := List.replicate 4 none
  /-- the seed store's TABLE (R341), and the CXL subsystem ids that boot read from it -/
  table : List Byte := []
  subsys : Nat := 0
  /-- the words of the fault log that the seed store's LOG partition holds (R367) -/
  faultCopy : List Word := []
  deriving DecidableEq, Repr

/-- A Gleaner unit beyond its registers (R304 to R313). -/
structure GleanUnit where
  /-- the words +0x00 to +0xAC of the unit's window as latched at ARM (R309) -/
  cfg : List Word := []
  /-- entries written to staging since arming; how many the capture holds, the latest of them; the trigger entry's index in it (R304, R308) -/
  total : Nat := 0
  count : Nat := 0
  trigEntry : Option Nat := none
  /-- instants at the tap since arming; the index of the last stored one and its masked words (R305) -/
  index : Nat := 0
  stored : Option (Nat × List Nat) := none
  /-- blocks still to take in the burst, the number of the last block taken, and the cycle in which its queue is empty (R306) -/
  burst : Nat := 0
  taken : Option Nat := none
  drained : Nat := 0
  /-- it was armed by AUTO_REARM; captures since reset; DEAD_US of the capture -/
  auto : Bool := false
  captures : Nat := 0
  dead : Nat := 0xFFFFFFFF
  /-- the first entry of the next spill record -/
  spillAt : Nat := 0
  /-- the last masked words 0 and 1 that each comparator saw (R307) -/
  seen : List (Nat × Nat) := []
  /-- event codes that have arrived, and whether another joined unit has fired, since the sequencer's last cycle told of; GLEAN cycles since each timer
  started (R307) -/
  arrived : List Nat := []
  joined : Bool := false
  timers : List Nat := [0, 0]
  deriving DecidableEq, Repr

/-- A Plough core's counters (R315, R316): mcycle, minstret, mhpmcounter3 to 14 and mhpmevent3 to 14; the local count-overflow
interrupt is pending; occurrences of the sampler's EVENT until its next sample (R317). -/
structure CoreSt where
  mcycle : BitVec 64 := 0
  minstret : BitVec 64 := 0
  counters : List (BitVec 64) := List.replicate 12 0
  events : List (BitVec 64) := List.replicate 12 0
  overflow : Bool := false
  psLeft : Nat := 0
  deriving DecidableEq, Repr

/-- An instant that a tap has delivered to a unit at a local time (R303). -/
structure Tapped where
  unit : Nat
  time : Clock
  instant : TapInstant
  deriving DecidableEq, Repr

/-- Gleaner beyond its registers (chapter 15). -/
structure GleanSt where
  /-- instants delivered and not yet met by their units, oldest first (R303) -/
  due : List Tapped := []
  /-- the 32 live statistics counters (R318) -/
  stats : List Ctr48 := []
  units : List GleanUnit := List.replicate 4 {}
  cores : List CoreSt := List.replicate 4 {}
  /-- SEQ of the next spill record of this epoch -/
  seq : Nat := 0
  deriving DecidableEq, Repr

/-- An access to a word of the on-chip memories (R255 to R257). -/
inductive MemAccess where
  | read (region word : Nat) (upset : MemWord) (reader : MemReader)
  | merge (region word bytes : Nat) (value : BitVec 64) (upset : MemWord)
  | write (region word : Nat) (value : BitVec 64)
  deriving DecidableEq, Repr

/-- The on-chip memories beyond their registers (chapter 13): words by region × 2^20 + index, 64 data bits and in [71:64] the
syndrome that they read with; the harrow's next word by region and the regions walked in this lap; what the last read gave its
consumer, none if uncorrectable. -/
structure MemSt where
  words : Store MemWord := []
  /-- accesses that wait for their region's initialisation, in order of arrival (R255); words of region 7 whose entry is to be recomputed (R258) -/
  waiting : List MemAccess := []
  stale : List Nat := []
  next : List Nat := List.replicate 9 0
  walked : List Nat := []
  last : Option (BitVec 64) := some 0
  /-- mtval of Plough's last access fault: the byte address in its SRAM (R258) -/
  mtval : Nat := 0
  /-- ms since the harrow's lap began, as its last step told (R260) -/
  lapMs : Nat := 0
  deriving DecidableEq, Repr

/-- A dword of the configuration space that Table 13.4 fixes. -/
inductive CfgDword where
  | id | revision | bar0 | bar2 | subsystem | msix | aer
  deriving DecidableEq, Repr

/-- The CXL port and the window beyond their registers (chapter 13): CXL_PERST_N is deasserted, the reference is present; window
requests in a row without completion; the response of the command in progress is discarded; modified lines held, oldest first; SEQ of the next
record of TYPE 2 of this epoch (R268); the AER correctable error status (R263). -/
structure CxlSt where
  released : Bool := false
  refOk : Bool := true
  timeouts : Nat := 0
  discard : Bool := false
  lines : List (Nat × List Byte) := []
  taskSeq : Nat := 0
  taskBytes : List Nat := List.replicate 8 0
  aer : Word := 0
  deriving DecidableEq, Repr

/-- An input qualifier beyond its registers (R383): the level last delivered (true: active), and whether a
gap runs in which nothing is delivered. -/
structure QualSt where
  delivered : Bool := false
  gap : Bool := false
  /-- the time of the first edge that the gap absorbed, 2^−32 ns (R383) -/
  first : Option Int := none
  deriving DecidableEq, Repr

/-- One record of a field plan (R31). -/
structure Rec where
  typ : Nat
  flags : Nat
  inst : Nat
  body : List Byte
  deriving DecidableEq, Repr

/-- A field plan as parsed: what its header says and its records in order (R29). -/
structure Plan where
  mode : Nat
  major : Nat
  epoch : Nat
  recs : List Rec
  deriving DecidableEq, Repr

/-- Where a load of the plan buffer takes its bytes from (R45). -/
inductive LoadKind where
  | idle | window | slot | chunk
  deriving DecidableEq, Repr

/-- A command that goes on once validation ends (Table 2.18). -/
inductive PlanAfter where
  | validate | applyCold | prepareHitless | boot
  deriving DecidableEq, Repr

/-- A stage group bound to physical furrows (R47, R50). -/
structure Bound where
  group : Nat
  kind : Nat
  carrier : Carrier
  first : Nat
  count : Nat
  furrows : List Nat
  deriving DecidableEq, Repr

/-- The plan buffer, the seed store's plan slots and the running structure beyond their registers (chapter 2). -/
structure PlanSt where
  /-- the plan buffer's bytes; past the list's end they read 0xFF -/
  buf : List Byte := []
  /-- bytes delivered by the load and bytes it was to deliver (R393) -/
  delivered : Nat := 0
  expected : Nat := 0
  load : LoadKind := .idle
  /-- the byte ranges written by chunks since the load began: first and end (R45) -/
  written : List (Nat × Nat) := []
  after : PlanAfter := .validate
  /-- the seed store's plan slots 0 to 3, erased bytes 0xFF beyond each list -/
  slots : List (List Byte) := [[], [], [], []]
  /-- the slot a STORE_SLOT writes -/
  storing : Nat := 0
  /-- the running image (Table 2.18) -/
  running : Option Plan := none
  /-- the running plan's groups and the physical furrows they hold -/
  bound : List Bound := []
  /-- the new groups of a hitless re-plan -/
  build : List Bound := []
  /-- the switch multiframe proposed to the peer and not yet committed (Table 2.20) -/
  proposedMf : Option Nat := none
  /-- new groups that have reported converged (R72) -/
  converged : List Nat := []
  /-- carriers whose receive selectors have switched -/
  rxSwitched : List Carrier := []
  /-- the cold apply's last stage passed, in ms after t0 (Table 2.19) -/
  applyMs : Nat := 0
  /-- the validation of the boot slot tries the other slot if it fails (R46) -/
  bootTried : List Nat := []
  deriving DecidableEq, Repr

/-- The compensation of one receive chain (R56): the applied CD value, ps/nm; whether a newly written CD_SET is still to be reached; frame
periods since tracking last moved it. -/
structure CdLoop where
  applied : Int := 0
  moving : Bool := false
  wait : Nat := 0
  deriving DecidableEq, Repr

/-- What the new receive groups of a hitless re-plan copied from the old ones when their build began, and hold since (Table 3.6): control
registers (address, word), the applied CD and skews, live taps and their lengths. -/
structure RxCopy where
  regs : List (Nat × Word) := []
  cd : CdLoop := {}
  skew : List Int := [0, 0, 0, 0]
  taps : List (Store Word) := List.replicate 16 []
  lengths : List Nat := List.replicate 16 21
  deriving DecidableEq, Repr

/-- One carrier's receive chain beyond its registers (chapter 3). -/
structure RxSt where
  cd : CdLoop := {}
  /-- the applied skews of XI, XQ, YI, YQ, 1/256 sample (R54) -/
  skew : List Int := [0, 0, 0, 0]
  /-- the NLC stage is bypassed; multiframes of the interval that runs (R52) -/
  bypass : Bool := false
  avgMf : Nat := 4
  /-- frame periods in a row with every tributary below THRESH − HYST, and by tributary those above THRESH (R53) -/
  dark : Nat := 0
  lit : List Nat := [0, 0, 0, 0]
  /-- the next AUTO search covers the kind's full range (Table 3.5) -/
  fullSearch : Bool := false
  /-- the two NLC banks, words 0 to 4,095; ACTIVE_BANK says which is active (R58) -/
  bank0 : Store Word := []
  bank1 : Store Word := []
  /-- the pending swap exchanges both carriers' banks, at this carrier's boundary (R58) -/
  pair : Bool := false
  /-- the pending swap is this carrier's own, not its partner's pair -/
  owner : Bool := true
  /-- the pending swap is an automatic revert; the running comparison judges both carriers (R60) -/
  reverting : Bool := false
  evalPair : Bool := false
  /-- the percentage by which the running comparison is judged (R60) -/
  evalPct : Nat := 0
  /-- equaliser taps of subcarriers 0 to 15: shadow, live, the pending command (true: LOAD), and TAPS in use (R63, R64) -/
  tapShadow : List (Store Word) := List.replicate 16 []
  tapLive : List (Store Word) := List.replicate 16 []
  tapCmd : List (Option Bool) := List.replicate 16 none
  tapsInUse : List Nat := List.replicate 16 21
  /-- the pilot position passed to the framer (Table 3.5) -/
  pilotPos : Option Nat := none
  /-- the new groups of a hitless re-plan (R72) -/
  copy : RxCopy := {}
  deriving DecidableEq, Repr

/-- One carrier's transmit chain beyond its registers (chapter 4). -/
structure TxSt where
  /-- the applied skews of XI, XQ, YI, YQ, 1/256 sample (R83) -/
  skew : List Int := [0, 0, 0, 0]
  /-- the applied IQ values: GAIN and PHASE of X, GAIN and PHASE of Y (R83) -/
  iq : List Int := [0, 0, 0, 0]
  /-- the active DAC response set, 68 words, and the BOOST applied to it -/
  resp : List Word := List.replicate 68 0
  boost : Nat := 0
  /-- MOD_INDEX, CLIP_RATIO, PD_BYPASS and RESP_BYPASS as taken at the last transmit frame boundary (Table 4.2) -/
  modIndex : Nat := 128
  clipRatio : Nat := 100
  pdBypass : Bool := false
  respBypass : Bool := false
  /-- how far the ramp has come, of the symbol rate in 0.25 GBd × 10^6 for its 1 ms (R86) -/
  ramp : Nat := 0
  deriving DecidableEq, Repr

/-- A transmit multiframe as its last frame left it (R107 to R109): its number, the frames and label bits (modulo a block) before it since the
cold apply, its frames, the FEC code if any, its subcarriers as (base, ENTROPY), CAP and W; its frames' overhead; each port's slots with the
words that the port's stream gave them, in order; and the received words that it forwards. -/
structure TxMf where
  number : Nat
  first : Nat
  labels : Nat
  frames : Nat
  code : Option Nat
  subs : List (Nat × Nat)
  cap : Nat
  total : Nat
  overhead : List (List Byte)
  streams : List (List Nat × List (BitVec 128))
  received : Option (List (BitVec 128))
  deriving DecidableEq, Repr

/-- One carrier's line framer and decoder beyond their registers (chapter 5). -/
structure LineSt where
  /-- the transmit frame number is the first of a multiframe not yet sent; a multiframe has started since the cold apply -/
  fresh : Bool := true
  started : Bool := false
  /-- frames sent since the cold apply, and label bits before the next frame, modulo a block (R95, R107) -/
  frames : Nat := 0
  labels : Nat := 0
  /-- the same at the first frame of the transmit multiframe in progress, with the entropies and the slot capacity in force in it, and the
  overhead of its frames so far (R109) -/
  mfFrames : Nat := 0
  mfLabels : Nat := 0
  mfE : List Nat := []
  mfCap : Nat := 0
  mfBytes : List (List Byte) := []
  /-- the transmit multiframes that are over since the cold apply, oldest first; the words of received multiframes that wait to be forwarded
  on the other carrier, oldest first (R42, R109) -/
  mfs : List TxMf := []
  rxWords : List (List (BitVec 128)) := []
  /-- SLIP sent in the current transmit multiframe, the jump made, and multiframes since the last slip (R112) -/
  slip : Nat := 0
  adopted : Bool := false
  sinceSlip : Nat := 16
  /-- frame alignment: expected position, hits and misses (Table 5.3) -/
  expected : Nat := 0
  hits : Nat := 0
  misses : Nat := 0
  /-- the decoder waits for the next good FEC_PTR; label bits from the start of the frame in which the next block begins to that block, the
  number of that frame since block alignment, whether it is already counted as errored, and its corrected label bits so far (R107, R120, R303) -/
  awaitPtr : Bool := false
  decPos : Nat := 0
  decFrame : Nat := 0
  /-- the place of the first frame since block alignment in the layout's rotation (R95) -/
  decPhase : Nat := 0
  decErr : Bool := false
  decCorr : Nat := 0
  /-- blocks decoded since block alignment: those before the first are erased (R117) -/
  decBlock : Nat := 0
  /-- frames received since block alignment, and the last 64 of them, newest first: their numbers, and whether an uncorrectable block lies
  in them (R61) -/
  seen : Nat := 0
  frameLog : List (Nat × Bool) := []
  /-- multiframe alignment: the last good number, consecutive rising numbers, consecutive wrong ones (R111) -/
  last : Option Nat := none
  run : Nat := 0
  wrong : Nat := 0
  /-- SLIP received in the current multiframe; a jump has been received -/
  rxSlip : Nat := 0
  jumped : Bool := false
  /-- the peer's last announced step (M and targets) and re-plan (R116) -/
  annM : Option Nat := none
  annE : List Nat := []
  annReplan : Option Nat := none
  /-- the targets captured for the armed receive step (R116) -/
  capE : List Nat := []
  /-- receive entropies and bases in force (R68) -/
  rxE : List Nat := []
  rxB : List Nat := []
  /-- TAKE_E pending, and the values of the next good overhead (R142) -/
  takeE : Bool := false
  taken : Option (List Nat × List Nat) := none
  /-- management channel cells in the transmit queue and those waiting at their sender for room in it, the last SEQ sent, the last SEQ
  received, the message in assembly, and messages received for the link manager (R113) -/
  cells : List (List Byte) := []
  unsent : List (List Byte) := []
  txSeq : Nat := 0
  rxSeq : Option Nat := none
  asm : Option (List Byte) := none
  rxMsgs : List (List Byte) := []
  /-- the published estimator interval ended in TRACK (R114) -/
  snrValid : Bool := false
  /-- the last peer frame whose arrival has been stamped, and its time (R115) -/
  ttRef : Option Nat := none
  ttTime : Clock := Clock.zero
  /-- the multiframe before the current one was marked SLIP ≠ 0 -/
  prevSlip : Bool := false
  /-- live decoder counters CORR_BITS, BLOCKS, UNCORR, ITER_LIMIT; whether they run; a pending snapshot with CLEAR (R119) -/
  live : List Ctr48 := [{}, {}, {}, {}]
  counting : Bool := false
  snap : Option Bool := none
  /-- corrected bits of this received multiframe, and whether it had an uncorrectable block (R119) -/
  corrMf : Nat := 0
  uncMf : Bool := false
  /-- corrected bits of the last 16 received multiframes, newest first; those before the exchange that is judged and since it (R60) -/
  corrHist : List Nat := []
  evalBefore : Nat := 0
  evalAfter : Nat := 0
  /-- received multiframes in a row with a BER above SD_SET, and with one below SD_CLEAR (R119) -/
  sdUp : Nat := 0
  sdDown : Nat := 0
  /-- an uncorrectable overhead was reported in this received multiframe -/
  ohMf : Bool := false
  /-- the frame version sent, and the agreed one that takes effect at the next transmit multiframe (R130, R131) -/
  version : Option Nat := none
  nextVersion : Option Nat := none
  /-- the previous agreed version, accepted for so many multiframes more -/
  oldVersion : Nat := 0
  transition : Nat := 0
  /-- a wrong VERSION, or a wrong E_CURRENT, was seen in this received multiframe; consecutive multiframes of each -/
  verMf : Bool := false
  verBad : Nat := 0
  eMf : Bool := false
  eBad : Nat := 0
  deriving DecidableEq, Repr

/-- A CAPS body (Table 6.5). -/
structure Caps where
  node : Nat
  frameLo : Nat
  frameHi : Nat
  frameMinor : Nat
  wmpLo : Nat
  wmpHi : Nat
  wmpMinor : Nat
  plan : Nat
  mode : Nat
  features : Nat
  rate : Nat
  count : Nat
  code : Nat
  forward : Nat
  bases : Nat
  epoch : Nat
  lowMinors : Nat
  deriving DecidableEq, Repr

/-- Agreed versions as VERSION bytes, and agreed features (R131). -/
structure Agreed where
  frame : Nat
  wmp : Nat
  features : Nat
  deriving DecidableEq, Repr

/-- A change proposed by this end, or held for the peer (R135, R136): CSTATE 1 PROPOSED, 2 ACCEPTED, 3 ARMED. -/
structure Proposal where
  kind : Nat
  m : Nat
  sole : Bool
  cstate : Nat
  tag : Nat
  body : List Byte
  sends : Nat
  deriving DecidableEq, Repr

/-- One carrier's link manager beyond its registers (chapter 6). -/
structure LinkSt where
  /-- the tag of the CAPS waiting for its answer, with its transmissions so far -/
  capsTag : Option Nat := none
  capsSends : Nat := 0
  nextTag : Nat := 1
  /-- the last request answered: its tag and the response (R134) -/
  answered : Option (Nat × List Byte) := none
  peer : Option Caps := none
  /-- this end's agreed values, and a CAPS_ACK that came before them -/
  agreed : Option Agreed := none
  ackSeen : Option (List Byte) := none
  /-- this end's proposals, and those held for the peer: at most one of each kind -/
  own : List Proposal := []
  held : List Proposal := []
  /-- the peer of the last negotiation that completed (R127) -/
  negotiated : Option Nat := none
  /-- beacons in fast mode (R126) -/
  fast : Bool := false
  /-- receive entropies taken since ALIGN was entered -/
  eTaken : Bool := false
  /-- the back-off of LOST has elapsed -/
  backoffOver : Bool := false
  deriving DecidableEq, Repr

/-- What a locked checker expects (R156): its pattern, the register or place of the next symbol, and which of the last 256 bits, latest
first, were in error. -/
structure ChkRef where
  pattern : Nat
  reg : Nat
  errors : List Bool
  deriving DecidableEq, Repr

/-- A lane's pattern generator (R155): the pattern that runs, its register or place, symbols since the last 256-symbol boundary, and the pattern
that starts at the next one. -/
structure LaneGen where
  pattern : Nat := 6
  reg : Nat := 0
  count : Nat := 0
  next : Option Nat := none
  deriving DecidableEq, Repr

/-- One host lane beyond its registers (chapter 7). -/
structure LaneSt where
  /-- entries to NO_SIGNAL in the current second (Table 7.2) -/
  noSignals : Nat := 0
  /-- TX_IDLE has taken effect in DATA (R153) -/
  idle : Bool := false
  /-- TX_IDLE was cleared in DATA without PLL lock: the wake burst waits for the lock (R153) -/
  wakeOwed : Bool := false
  /-- the generator; the precoder's state; symbols sent of data or training frames; and in near-end loopback the level indices sent and not yet
  received (R146, R155, R159) -/
  gen : LaneGen := {}
  txPre : Nat := 0
  sent : Nat := 0
  wire : List Nat := []
  /-- live checker counters: bits, bit errors, symbol errors; the CLEAR of the pending snapshot (R156) -/
  chk : List Ctr48 := [{}, {}, {}]
  chkClear : Bool := false
  /-- the checker's reference: that of a lock, or of one dropped by a write whose last symbols are not yet counted -/
  chkRef : Option ChkRef := none
  /-- the symbols of a running BURST still to change; whether RATE runs, and the symbols of its interval so far; a SINGLE that waits for a symbol (R157) -/
  burst : Option Nat := none
  rate : Bool := false
  rateCount : Nat := 0
  single : Bool := false
  /-- the receiver's FFE: 3 precursors, the main tap, 12 postcursors; and which of CTLE, FFE and DFE changed by less than one step over the
  last 64 µs (R148) -/
  ffe : List Int := [0, 0, 0, 1] ++ List.replicate 12 0
  still : List Bool := [false, false, false]
  deriving DecidableEq, Repr

/-- A segment of a port's record stream as a carrier delivered it: its MARK number, whether it is bad, its records, and how many of them the
egress has forwarded already (R170, R174, R179). -/
structure Segment where
  mark : Nat
  bad : Bool
  recs : List (List Byte)
  sent : Nat := 0
  deriving DecidableEq, Repr

/-- One carrier's copy of a port's stream at the egress (R174). -/
structure CopySt where
  sync : Bool := false
  /-- good headers in a row found in HUNT -/
  found : Nat := 0
  /-- the segment being received, and those complete and not yet forwarded, oldest first -/
  cur : Option Segment := none
  segs : List Segment := []
  deriving DecidableEq, Repr

/-- One client port beyond its registers (chapter 8). -/
structure PortSt where
  /-- live counters IN_FRAMES, IN_FCS_ERR, RS_CORR, RS_UNCORR, OUT_FRAMES, OUT_ERR; a pending snapshot with CLEAR (R182) -/
  live : List Ctr48 := [{}, {}, {}, {}, {}, {}]
  snap : Option Bool := none
  /-- the ordered set received from the host ASIC and the one sent to it: 0 none, 1 LF, 2 RF, 3 LI (R169, R176) -/
  setIn : Nat := 0
  setOut : Nat := 0
  /-- codes 0x05 and 0x06 of Table 8.7 already counted -/
  quiet : List Nat := []
  /-- the number of the next MARK; stream bytes since the start of the last MARK, none before the first; the carrier of the
  segment in JOINT (R170, R177) -/
  mark : Nat := 0
  segLen : Option Nat := none
  segCarrier : Carrier := .A
  /-- stream bytes that wait for each carrier's words, in complete records; the words that its transmit multiframe in progress has drawn, in
  order; frame bytes that wait in the egress buffer (R171, R173, R175, R177) -/
  stream : Duo (List Byte) := ⟨[], []⟩
  drawn : Duo (List (BitVec 128)) := ⟨[], []⟩
  held : Nat := 0
  /-- frames to come from the host ASIC, and to it, that hold a byte of an uncorrectable word: they are carried with ERR (R258) -/
  spoilIn : Nat := 0
  spoilOut : Nat := 0
  copies : Duo CopySt := ⟨{}, {}⟩
  /-- the next MARK the JOINT egress forwards, and the numbers that a loss of alignment skipped: the first, and the first after them (R177) -/
  next : Option Nat := none
  skipFrom : Nat := 0
  skipTo : Nat := 0
  /-- the selected copy is forwarded again from its next MARK (R179) -/
  resume : Bool := false
  /-- an unaligned switch left this copy within a record: a frame in progress ends with ERR (R179) -/
  ending : Option Carrier := none
  /-- wait to restore runs (Table 8.6) -/
  wtr : Bool := false
  deriving DecidableEq, Repr

/-- The last beacon heard of one carrier of a neighbour (R129): that carrier, its CENTRE_N as 16 bits, its SYMBOL_RATE, and the RSSI. -/
structure Heard where
  carrier : Nat
  centre : Nat
  rate : Nat
  rssi : Nat
  deriving DecidableEq, Repr

/-- A pulse output as armed (R199): times in 2^−32 ns. -/
structure PulseSt where
  /-- the leading edge next due or in progress -/
  lead : Int := 0
  period : Int := 0
  width : Int := 0
  /-- a pulse is in progress; STOP waits for its end -/
  high : Bool := false
  stopping : Bool := false
  deriving DecidableEq, Repr

/-- A capture queue (R201): stamps with the FALLING bit, oldest first; a stamp was lost since the last one read. -/
structure CaptureSt where
  queue : List (Clock × Bool) := []
  lost : Bool := false
  deriving DecidableEq, Repr

/-- The times of a two-way transfer that a peer's multiframe-start frame brings (R192), in 2^−16 ns: t1 (its TX_TIME), t2 (this end's
stamp of its arrival), t4 (its RX_TIME), the frame TT_REF_FRAME that t3 is for, whether its TX_VALID and RX_VALID are both 1, and whether
its overhead was good. -/
structure TransferSet where
  t1 : Int := 0
  t2 : Int := 0
  t4 : Int := 0
  ref : Nat := 0
  valid : Bool := false
  good : Bool := false
  deriving DecidableEq, Repr

/-- The TIME block beyond its registers (chapter 9). -/
structure TimeSt where
  /-- the slew remainder, 2^−16 ns (R187) -/
  slew : Int := 0
  /-- the servo's frequency, 2^−8 ppb, while it acts; its integral, 2^−16 ns; its first measurement is due (R190) -/
  servoF : Option Int := none
  integ : Int := 0
  first : Bool := true
  /-- consecutive measurements inside and outside the lock windows, and lock, of the TC0 servo -/
  servoIn : Nat := 0
  servoOut : Nat := 0
  servoLock : Bool := false
  /-- the same counts of the line transfer -/
  ttIn : Nat := 0
  ttOut : Nat := 0
  /-- TX_TIME of the last 1,024 multiframe-start frames: number, time in 2^−32 ns, near a SLIP (R192, R194) -/
  sent : List (Nat × Int × Bool) := []
  /-- the times of the last peer frame that began a multiframe, until TT_MEASUREMENT takes them (R192) -/
  set : Option TransferSet := none
  /-- the peer's TX_VALID and RX_VALID were both 1 in the last good overhead that began a multiframe -/
  setValid : Bool := false
  pulses : List PulseSt := [{}, {}, {}, {}]
  captures : List CaptureSt := [{}, {}]
  deriving DecidableEq, Repr

/-- A packet in the headland receive queue (R220). -/
structure HlPacket where
  sub : Nat
  rssi : Nat
  captured : Bool
  restarted : Bool
  foffset : Int
  data : List Byte
  deriving DecidableEq, Repr

/-- A decimation chain's filters (R212): samples as (real, imaginary) pairs. -/
structure ChainDsp where
  /-- the mixer's 32-bit phase -/
  phase : Nat := 0
  /-- the CIC's integrators and combs, first stage first; samples since its last output -/
  ints : List (Int × Int) := List.replicate 4 (0, 0)
  combs : List (Int × Int) := List.replicate 4 (0, 0)
  fill : Nat := 0
  /-- the half-bands' inputs, latest first; an input came since the last output -/
  hb1 : List (Int × Int) := List.replicate 11 (0, 0)
  odd1 : Bool := false
  hb2 : List (Int × Int) := List.replicate 19 (0, 0)
  odd2 : Bool := false
  /-- the 32-bit index of the next output (R214); outputs still to be marked UNSETTLED (R213, R217) -/
  index : Nat := 0
  left : Nat := 46
  /-- the envelope: output magnitude with the shifts removed, full scale 2^46 (R215, R216) -/
  env : Nat := 0
  deriving DecidableEq, Repr

/-- One decimation chain's receiver beyond its registers (R217 to R219). -/
structure ChainSt where
  /-- PRE_RSSI, then RSSI from the sync word on: the reference of Table 10.4 -/
  ref : Nat := 0
  /-- SYNC_WORD and SYNC_TOL latched at detection; the AFC estimate; LENGTH; the packet's flags -/
  word : Word := 0
  tol : Nat := 0
  foffset : Int := 0
  length : Nat := 0
  captured : Bool := false
  restarted : Bool := false
  /-- consecutive windows without saturation and below −12 dBFS; of the window in progress, whether the chain saturated and whether its output
  stayed below (R217) -/
  quiet : Nat := 0
  saturated : Bool := false
  low : Bool := true
  dsp : ChainDsp := {}
  deriving DecidableEq, Repr

/-- The HEADLAND block beyond its registers (chapter 10). -/
structure HeadlandSt where
  /-- the receive queue, oldest first -/
  queue : List HlPacket := []
  chains : List ChainSt := List.replicate 8 {}
  /-- no detector window has ended since the chains were reset (R215) -/
  firstWindow : Bool := true
  /-- the DC blocker's d in 2^−12 codes, none before the first sample after a chain reset; samples left of its fast phase (R211, R213) -/
  dc : Option Int := none
  fast : Nat := 1024
  /-- the window in progress: its samples so far, the largest |y| and the sum of y squared (R215) -/
  seen : Nat := 0
  peak : Nat := 0
  squares : Nat := 0
  /-- messages that the link manager has waiting for the modem: carrier, subcarrier, payload -/
  waiting : List (Carrier × Nat × List Byte) := []
  deriving DecidableEq, Repr

/-- What an ADC-A conversion is for: a sequence entry, an injected request, or the calibration step that runs (R225, R226, R230). -/
inductive ConvFor where
  | entry (e : Nat)
  | inject
  | cal
  /-- of a calibration step that has been left: it counts nowhere (Table 11.2) -/
  | left
  /-- of a diagnosis (R231) -/
  | diag
  deriving DecidableEq, Repr

/-- An ADC-A conversion, with the coefficients it began with (R228). -/
structure Conversion where
  what : ConvFor
  channel : Nat
  gain : Nat
  ofs : Int
  g : Nat
  deriving DecidableEq, Repr

/-- A diagnosis (R231): its channel, the CODE to restore, 50 MHz cycles left of the settling time, and the calibrated results so far. -/
structure DiagSt where
  channel : Nat
  code : Nat
  wait : Nat := 1000
  results : List Nat := []
  deriving DecidableEq, Repr

/-- The HKADC block beyond its registers (chapter 11). -/
structure AdcSt where
  /-- the conversion in progress; injected requests waiting, oldest first: channel and gain -/
  current : Option Conversion := none
  requests : List (Nat × Nat) := []
  /-- requests that still complete before the calibration step that runs (R230) -/
  early : Nat := 0
  /-- the pass: entries as latched at its start, and the next to convert (R224) -/
  pass : Option (List Word × Nat) := none
  mode : Nat := 0
  lowPower : Bool := false
  starts : Nat := 0
  /-- entries written since the last pass boundary -/
  dirty : List Nat := []
  /-- results that a register path has read: entries 0 to 15, 16 the injected result (R225) -/
  read : List Nat := []
  /-- raw codes of the entries, and the sine accumulators at the end of their sampling times -/
  raw : List Nat := List.replicate 16 0
  phases : List (List Word) := List.replicate 16 []
  /-- OFS words in force by channel and gain: 4c + g (R228) -/
  ofs : Store Word := []
  /-- the channel and gain of the calibration, and Z in 2^−12 LSB (R229) -/
  calChannel : Nat := 0
  calGain : Nat := 0
  z : Int := 0
  /-- the step's conversions so far and the sum of their raw codes; a pass has ended since the last one (R229, R230) -/
  calCount : Nat := 0
  calSum : Nat := 0
  calDue : Bool := false
  diag : Option DiagSt := none
  /-- the pass in progress began in an earlier frame; entries converted in this frame's pass; frames since each entry last converted (R241, R247) -/
  late : Bool := false
  converted : List Nat := []
  idle : List Nat := List.replicate 16 0
  deriving DecidableEq, Repr

/-- A span change in progress (R234): 2 moving to the safe value in the old span, 4 moving to the source in the new one. -/
structure SpanChange where
  step : Nat
  old : Nat
  new : Nat
  safeMv : Nat
  deriving DecidableEq, Repr

/-- A PDAC channel beyond its registers (R232 to R235). -/
structure PdacSt where
  queue : List Nat := []
  /-- the base code last taken and the one the output stage has reached; the sine term last added -/
  last : Nat := 0
  base : Nat := 0
  /-- slew budget carried forward, in 1/50,000 code -/
  carry : Nat := 0
  span : Nat := 0
  change : Option SpanChange := none
  /-- the loop's output code, if a loop drives the channel; held at the safe value after a feedback loss (R247) -/
  loopCode : Option Nat := none
  lossSafe : Bool := false
  deriving DecidableEq, Repr

/-- A control loop beyond its registers (chapter 12). -/
structure LoopSt where
  /-- the integrator, the output and the last feedback, in the units of R243; last X, f and e -/
  integ : Int := 0
  u : Int := 0
  x : Int := 0
  f : Int := 0
  e : Int := 0
  /-- u0 of a hand-over whose first update is due (R246); the law last used -/
  preload : Option Int := none
  law : Nat := 0
  /-- the code computed in this frame, handed over at the next frame -/
  out : Option Nat := none
  /-- lock-in: the sum of sample × reference, 2^−16, and the frames summed -/
  sum : Int := 0
  frames : Nat := 0
  /-- supervision: (raw code, output code) of the last updates, newest first; implausible updates in a row; the output before the
  first of them; updates in a row beyond FE_LIMIT -/
  hist : List (Nat × Nat) := []
  wild : Nat := 0
  goodOut : Nat := 0
  fe : Nat := 0
  /-- frames of the period so far; an update is due (R241) -/
  period : Nat := 0
  due : Bool := false
  deriving DecidableEq, Repr

/-- A trace buffer beyond its registers: words still to record after the stopping event (R251). -/
structure TraceSt where
  post : Option Nat := none
  deriving DecidableEq, Repr

/-- The control engine and its converters. -/
structure AnaSt where
  adc : AdcSt := {}
  pdac : List PdacSt := List.replicate 20 {}
  loops : List LoopSt := List.replicate 16 {}
  traces : List TraceSt := List.replicate 4 {}
  /-- the cycles that the engine has used in this frame (R241) -/
  cycles : Nat := 0
  deriving DecidableEq, Repr

/-- A session path (R288 to R290): the open session's ID, MAC keys, last accepted COUNTER and MAC failures; and the challenge that
waits for its PROVE: ID, role and the part's random. -/
structure SessionSt where
  sid : Nat := 0
  keyIn : List Byte := []
  keyOut : List Byte := []
  counter : Nat := 0
  macBad : Nat := 0
  challenge : Option (Nat × Nat × List Byte) := none
  deriving DecidableEq, Repr

/-- What Hedge does: it runs, restarts (R297), or only the ROM's WMP subset runs (R279). -/
inductive HedgeState where
  | running | restarting | romOnly
  deriving DecidableEq, Repr

/-- Firmware, keys and sessions beyond their registers (chapter 14). -/
structure SecSt where
  /-- the public keys of slots 0 to 11, empty where absent, and the OTP hashes of slots 0 to 5 (R284) -/
  keys : List (List Byte) := List.replicate 12 []
  hashes : List (List Byte) := List.replicate 6 []
  /-- OTP: the life cycle but for SERVICE, the revoked slots, the fuse counts of HEDGE, PLOUGH and KEY_UPDATE -/
  lcOtp : Nat := 0
  revoked : List Nat := []
  fuses : List Nat := [0, 0, 0]
  /-- the key record: the SERVICE flag and the role keys of roles 1 to 4; the SET_ROLE_KEY of BLANK has been used (R293) -/
  service : Bool := false
  roleKeys : List (Option (List Byte)) := List.replicate 4 none
  blankUsed : Bool := false
  /-- the key record's HMAC, none while none is stored, and whether the record passed its check at Hedge's start (R284) -/
  recordMac : Option (List Byte) := none
  recordGood : Bool := true
  /-- JTAG has been unlocked in SERVICE (R293, Table 14.10) -/
  jtag : Bool := false
  /-- the seed store's images: HEDGE A and B, PLOUGH A and B; the active slots and TRIAL flags of HEDGE and PLOUGH (R282) -/
  images : List (List Byte) := List.replicate 4 []
  active : List Nat := [0, 0]
  trial : List Bool := [false, false]
  /-- the task store's entries (R295) -/
  tasks : List (List Byte) := List.replicate 8 []
  /-- the staged image: its bytes, the ranges that chunks have written, bytes a window load is to deliver; the verdict that the
  verification in progress will give (0 passes) -/
  staged : List Byte := []
  written : List (Nat × Nat) := []
  expected : Option Nat := none
  verdict : Nat := 0
  /-- the image being activated waits for its processor's start -/
  activating : Option ImageType := none
  /-- watchdog restarts in the trial; ages in seconds of Plough's watchdog restarts (R296) -/
  trialWdogs : Nat := 0
  restartAges : List Nat := []
  hedge : HedgeState := .running
  sessions : List SessionSt := List.replicate 4 {}
  /-- the last message delivered on each path, and the responses that wait for the mailbox and for I3C -/
  requests : List (Option (List Byte)) := List.replicate 4 none
  /-- the REG message being carried out carries no session (R292) -/
  bare : Bool := false
  /-- a rollback counter being burnt: which, its count before, and the second ticks until it surely is (R283) -/
  burning : Option (Nat × Nat × Nat) := none
  /-- WMP_MAJORS of the running Plough image (R280) -/
  wmpMajors : Nat := 0x12
  /-- I3C hot-join is enabled (R298) -/
  hotJoin : Bool := true
  mbxResp : Option (List Byte) := none
  i3cResp : Option (List Byte) := none
  deriving DecidableEq, Repr

/-- The state of the block. -/
structure State where
  /-- register words that differ from their reset values, by BAR0 byte address (BAR2 above it) -/
  regs : Store Word := []
  /-- shadows of wide values, by path and address (R11, R12) -/
  shadows : Store Word := []
  /-- staging copies of wide writes, by path and address (R13) -/
  staging : Store Word := []
  /-- what the last register read returned -/
  readData : Word := 0
  /-- the bytes that the last read of 8 bytes or more returned (R264) -/
  burst : List Byte := []
  /-- the local time (R184) -/
  clock : Clock := Clock.zero
  /-- MSI-X enable and function mask of the configuration space (R272) -/
  msixEnabled : Bool := false
  msixMasked : Bool := false
  /-- occurrences of each code since its last notification, by path and code, and the time of the first (R395) -/
  occ : Store Nat := []
  occTime : Store Clock := []
  /-- codes already issued in the current second, for the codes limited to once per second -/
  limited : List Nat := []
  /-- notifications waiting for the board manager's private read, oldest first (R298, R395) -/
  i3cNotes : List (List Byte) := []
  /-- the I3C dynamic address (R298) -/
  i3cAddress : Option Nat := none
  /-- the WMP version the part sends (R133) -/
  wmpMajor : Nat := 1
  wmpMinor : Nat := 0
  /-- MGR requests delivered to Plough and not yet handled (R287) -/
  mgrInbox : List (Envelope × MgrReq) := []
  /-- FAULT_TEST runs (R366) -/
  faultTest : Bool := false
  /-- fault log entries, the one written longest ago first (R367) -/
  faultOrder : List Nat := List.range 64
  /-- home clocks that are stopped, as block and clock of the block (R332, Tables 1.9 and 1.13) -/
  stoppedClocks : List (Nat × Nat) := []
  plan : PlanSt := {}
  rx : Duo RxSt := ⟨{}, {}⟩
  tx : Duo TxSt := ⟨{}, {}⟩
  line : Duo LineSt := ⟨{}, {}⟩
  link : Duo LinkSt := ⟨{}, {}⟩
  /-- neighbour entries in the order last heard, oldest first; what each entry's last beacon of either of its carriers said; and the version
  and epoch fields of its last beacon (R125, R129) -/
  neighbours : List Nat := []
  nbHeard : List (List Heard) := List.replicate 16 []
  nbVersions : List Nat := List.replicate 16 0
  /-- the module maker's label (Table 6.3); six spaces if unset -/
  label : List Byte := List.replicate 6 0x20
  lanes : List LaneSt := List.replicate 16 {}
  ports : List PortSt := List.replicate 16 {}
  time : TimeSt := {}
  head : HeadlandSt := {}
  ana : AnaSt := {}
  sec : SecSt := {}
  power : PowerSt := {}
  cal : CalSt := {}
  bist : BistSt := {}
  glean : GleanSt := {}
  mem : MemSt := {}
  cxl : CxlSt := {}
  quals : List QualSt := List.replicate 15 {}
  /-- what the part has sent, newest first -/
  sent : List Out := []
  /-- free values taken so far (the model's own) -/
  freeCount : Nat := 0
  /-- commands waiting, first in first out -/
  pending : List Instr := []
  deriving DecidableEq, Repr

/-- The state right after reset: every register at its reset value, nothing waiting. -/
def State.reset : State := {}

end Sys2Proof.Machine
end

