-- ==== Sys2Proof/Machine/Ops.lean ====
section
/-!
DEFINITION. The named operations over State: register words and fields, saturating counters, free values, interrupts and
MSI-X (R26, R272), event codes and notifications (R28, R395, R271), the fault log (R364 to R367), wake sources (R329), rights
(R277, R292, R394) and down registers (R332). Every meaning is written over these.
-/
namespace Sys2Proof.Machine

/-! ### Register words and fields -/

/-- The stored word of a register. -/
def State.rd (s : State) (a : Nat) : Word := Store.read resetWord s.regs a

/-- Stores a register word. -/
def State.wr (s : State) (a : Nat) (w : Word) : State := { s with regs := Store.write resetWord s.regs a w }

/-- The bits `hi`:`lo` of a word, as a number. -/
def bitsOf (w : Word) (hi lo : Nat) : Nat := w.toNat / 2 ^ lo % 2 ^ (hi + 1 - lo)

/-- A word with its bits `hi`:`lo` replaced by the low bits of `v`. -/
def withBits (w : Word) (hi lo v : Nat) : Word :=
  BitVec.ofNat 32 (w.toNat - bitsOf w hi lo * 2 ^ lo + v % 2 ^ (hi + 1 - lo) * 2 ^ lo)

/-- The value of a register field. -/
def State.get (s : State) (f : Fld) : Nat := bitsOf (s.rd f.addr) f.hi f.lo

/-- A one-bit field as a truth value. -/
def State.on (s : State) (f : Fld) : Bool := s.get f != 0

/-- Sets a register field from inside the part. -/
def State.set (s : State) (f : Fld) (v : Nat) : State := s.wr f.addr (withBits (s.rd f.addr) f.hi f.lo v)

/-- Sets a one-bit field. -/
def State.setB (s : State) (f : Fld) (b : Bool) : State := s.set f (if b then 1 else 0)

/-- The two's complement reading of an `n`-bit number. -/
def toSigned (n v : Nat) : Int := if v < 2 ^ (n - 1) then (v : Int) else (v : Int) - (2 ^ n : Nat)

/-- The `n`-bit two's complement encoding of an integer, modulo 2^n. -/
def ofSigned (n : Nat) (v : Int) : Nat := (v % (2 ^ n : Nat)).toNat

/-- A field read as a signed number. -/
def State.getS (s : State) (f : Fld) : Int := toSigned (f.hi + 1 - f.lo) (s.get f)

/-- Sets a field to a signed number. -/
def State.setS (s : State) (f : Fld) (v : Int) : State := s.set f (ofSigned (f.hi + 1 - f.lo) v)

/-- The largest value a field holds. -/
def Fld.top (f : Fld) : Nat := 2 ^ (f.hi + 1 - f.lo) - 1

/-- Adds to a saturating counter field. -/
def State.bump (s : State) (f : Fld) (n : Nat := 1) : State := s.set f (min f.top (s.get f + n))

/-- Sets a field, saturating at its largest value. -/
def State.setSat (s : State) (f : Fld) (v : Nat) : State := s.set f (min f.top v)

/-- Adds to a field that wraps. -/
def State.wrapAdd (s : State) (f : Fld) (n : Nat := 1) : State := s.set f (s.get f + n)

/-- Puts a 48-bit value into its low and high words (R11). -/
def State.set48 (s : State) (lo hi : Fld) (v : Nat) : State := (s.set lo v).set hi (v / 2 ^ 32)

/-- An integer clamped between two limits (R8). -/
def clampI (lo hi v : Int) : Int := max lo (min hi v)

/-- A number clamped between two limits (R8). -/
def clampN (lo hi v : Nat) : Nat := max lo (min hi v)

/-- The integer nearest to p / q, the lower of two equally near (R9); q is positive. -/
def roundHalfDown (p : Int) (q : Nat) : Int := -((q - 2 * p) / (2 * q))

/-- One step of at most `step` from `cur` towards `target`. -/
def stepTowards (step cur target : Int) : Int :=
  if cur < target then min target (cur + step) else max target (cur - step)

/-- Element of a list, with a default beyond its end. -/
def nth {α : Type} (l : List α) (i : Nat) (d : α) : α := l.getD i d

/-- Takes the next free word: a value the spec leaves open (log 5). -/
def State.freeWord (s : State) : Word × State :=
  (Config.freeWord s.freeCount, { s with freeCount := s.freeCount + 1 })

/-- Sends something out of the part: the newest first. -/
def State.send (s : State) (o : Out) : State := { s with sent := o :: s.sent }

/-- Updates one carrier's half of a pair. -/
def Duo.upd {α : Type} (d : Duo α) (c : Carrier) (f : α → α) : Duo α :=
  match c with
  | .A => { d with A := f d.A }
  | .B => { d with B := f d.B }

/-- One carrier's half of a pair. -/
def Duo.at {α : Type} (d : Duo α) (c : Carrier) : α :=
  match c with
  | .A => d.A
  | .B => d.B

/-- Updates the memories' internal state. -/
def State.onMem (s : State) (f : MemSt → MemSt) : State := { s with mem := f s.mem }

/-! ### Bytes -/

/-- The `n` bytes of a number, most significant first (R286). -/
def beBytes : Nat → Nat → List Byte
  | 0, _ => []
  | n + 1, v => BitVec.ofNat 8 (v / 256 ^ n) :: beBytes n v

/-- The number of a byte string, most significant first. -/
def beNat (bs : List Byte) : Nat := bs.foldl (fun a b => 256 * a + b.toNat) 0

/-- The number of a byte string, least significant first (R29). -/
def leNat (bs : List Byte) : Nat := bs.foldr (fun b a => b.toNat + 256 * a) 0

/-- The `n` bytes of a number, least significant first. -/
def leBytes : Nat → Nat → List Byte
  | 0, _ => []
  | n + 1, v => BitVec.ofNat 8 v :: leBytes n (v / 256)

/-- A slice of a byte string. -/
def slice (bs : List Byte) (off n : Nat) : List Byte := (bs.drop off).take n

/-- One step of a right-shifting CRC. -/
def crcBit (poly crc : Nat) : Nat := if crc % 2 = 1 then (crc / 2) ^^^ poly else crc / 2

/-- CRC-32C (reflected polynomial 0x82F6_3B78, all ones in and out) of a byte string. -/
def crc32c (bs : List Byte) : Nat :=
  let go (crc : Nat) (b : Byte) : Nat := (List.range 8).foldl (fun c _ => crcBit 0x82F63B78 c) (crc ^^^ b.toNat)
  (bs.foldl go 0xFFFFFFFF) ^^^ 0xFFFFFFFF

/-! ### Interrupts and MSI-X -/

/-- The address of a block's INT_STATUS (R2, R24). -/
def intStatus (blk : Nat) : Nat := blk * 0x80000 + 4

/-- The address of a block's INT_ENABLE. -/
def intEnable (blk : Nat) : Nat := blk * 0x80000 + 8

/-- The bits of `LOOP_INT_STATUS` that follow the loops' flags (R253): bit n is 1 while loop n's (FLAGS & FLAG_ENABLE) is
not zero. -/
def State.loopBits (s : State) : Nat :=
  (List.range 16).foldl (fun a n =>
    if (s.rd (R.LOOP_FLAGS n) &&& s.rd (R.LOOP_FLAG_ENABLE n)) = 0 then a else a + 2 ^ n) 0

/-- INT_STATUS of a block as it reads. -/
def State.status (s : State) (blk : Nat) : Word :=
  if blk = 0x1A then s.rd (intStatus blk) ||| BitVec.ofNat 32 s.loopBits else s.rd (intStatus blk)

/-- (INT_STATUS & INT_ENABLE) of a block (R26). -/
def State.enabled (s : State) (blk : Nat) : Word := s.status blk &&& s.rd (intEnable blk)

/-- BAR2 registers are kept beside BAR0, above its last address (Table 13.8). -/
def bar2 (off : Nat) : Nat := 0x4000000 + off


/-- Whether the cause of an MSI-X vector is present (Table 1.12, R26). -/
def State.cause (s : State) (v : Nat) : Bool :=
  if v < 0x27 then s.enabled v != 0
  else if v = 0x30 then s.on F.MBX_STATUS.DONE
  else if v = 0x31 then s.get F.MBX_NOTIFY_HEAD.HEAD != s.get F.MBX_NOTIFY_TAIL.TAIL
  else if 0x32 ≤ v ∧ v < 0x40 then s.get ⟨R.CPU_SWINT, v - 0x32, v - 0x32⟩ != 0
  else false

/-- The pending bit of a vector in the MSI-X pending bit array (Table 13.8). -/
def pba (v : Nat) : Fld := ⟨bar2 (0x9000 + 4 * (v / 32)), v % 32, v % 32⟩

/-- The mask bit of a vector: bit 0 of the last word of its table entry (R272). -/
def vectorMask (v : Nat) : Fld := ⟨bar2 (0x8000 + 16 * v + 12), 0, 0⟩

/-- Whether the CXL port is UP (R265). -/
def State.cxlUp (s : State) : Bool := s.get F.CXLCTL_LINK.STATE = 2

/-- Sends a vector's MSI-X message, or sets its pending bit while it is masked or the port is not UP (R26, R266, R272; log 88). Nothing is
sent while MSI-X is disabled. -/
def State.msix (s : State) (v : Nat) : State :=
  if s.msixEnabled then
    if !s.cxlUp || s.msixMasked || s.on (vectorMask v) then s.setB (pba v) true
    else s.send (.msix v)
  else s

/-- The message of a cause that went from absent to present (R26). -/
def State.msixEdge (before after : State) (v : Nat) : State :=
  if after.cause v && !before.cause v then after.msix v else after

/-- Sets bits of a block's INT_STATUS and sends its message when the enabled status becomes non-zero (R7, R26). -/
def State.raiseMask (s : State) (blk : Nat) (mask : Word) : State :=
  s.msixEdge (s.wr (intStatus blk) (s.rd (intStatus blk) ||| mask)) blk

/-- Raises one interrupt bit of a block. -/
def State.raise (s : State) (blk bit : Nat) : State := s.raiseMask blk (BitVec.ofNat 32 (2 ^ bit))

/-! ### Event codes and notifications -/

/-- Key of a path's count of a code's occurrences since its last notification (R395). -/
def occKey (p code : Nat) : Nat := p * 0x10000 + code

/-- The 12-byte time value of R115: seconds, nanoseconds, fraction in 2^−16 ns. -/
def timeBytes (t : Clock) : List Byte := beBytes 6 t.sec ++ beBytes 4 t.ns ++ beBytes 2 (t.frac / 2 ^ 16)

/-- The WMP message of a NOTIFY EVENT (R133, R286, Table 14.6): header, body of 20 bytes, trailer of zeros. -/
def notifyBytes (major minor : Nat) (code : Nat) (t : Clock) (count : Nat) : List Byte :=
  [BitVec.ofNat 8 (16 * major + minor), 0x06, 0x01, 0] ++ beBytes 2 0 ++ beBytes 2 20
    ++ beBytes 2 code ++ beBytes 2 0 ++ timeBytes t ++ beBytes 4 count ++ List.replicate 40 0

/-- Writes bytes into consecutive little-endian words from a word-aligned address. -/
def State.putBytes (s : State) (a : Nat) (bs : List Byte) : State :=
  (List.range ((bs.length + 3) / 4)).foldl
    (fun s i => s.wr (a + 4 * i) (BitVec.ofNat 32 (leNat (slice bs (4 * i) 4)))) s

/-- The bytes of consecutive little-endian words. -/
def State.getBytes (s : State) (a n : Nat) : List Byte :=
  ((List.range ((n + 3) / 4)).flatMap (fun i => leBytes 4 (s.rd (a + 4 * i)).toNat)).take n

/-- The cells of a message with its CRC-32C (R113): VALID, SOM and EOM set, SEQ filled when a cell is sent. -/
def cellsOf (msg : List Byte) : List (List Byte) :=
  let full := msg ++ beBytes 4 (crc32c msg)
  let n := (full.length + 27) / 28
  (List.range n).map fun i =>
    let data := slice full (28 * i) 28
    let ctrl := 0x80 + (if i = 0 then 0x40 else 0) + (if i + 1 = n then 0x20 else 0)
    [BitVec.ofNat 8 ctrl, 0, BitVec.ofNat 8 data.length, 0] ++ data ++ List.replicate (28 - data.length) 0

/-- Cells that wait at their sender fill the framer's queue of 64 (R113). -/
def LineSt.fillQueue (l : LineSt) : LineSt :=
  let room := 64 - l.cells.length
  { l with cells := l.cells ++ l.unsent.take room, unsent := l.unsent.drop room }

/-- Queues a message for a carrier's management channel: what finds no room in the framer's queue waits at its sender. A message is at most
2,048 bytes, CRC included (R113). -/
def State.mccSend (s : State) (c : Carrier) (msg : List Byte) : State :=
  if 2044 < msg.length then s else
  { s with line := s.line.upd c fun l => { l with unsent := l.unsent ++ cellsOf msg }.fillQueue }

/-- Whether the notification ring is full: 15 wait (R271). -/
def State.ringFull (s : State) : Bool := (s.get F.MBX_NOTIFY_TAIL.TAIL + 1) % 16 = s.get F.MBX_NOTIFY_HEAD.HEAD

/-- Puts a notification into the mailbox ring, or counts it lost when 15 wait (R271). -/
def State.ringPut (s : State) (bs : List Byte) : State :=
  let t := s.get F.MBX_NOTIFY_TAIL.TAIL
  if s.ringFull then (s.bump F.MBX_NOTIFY_TAIL.LOST).raise 0x1D 8
  else
    let s' := (s.putBytes (bar2 (0x3000 + 256 * t)) bs).set F.MBX_NOTIFY_TAIL.TAIL ((t + 1) % 16)
    State.msixEdge s s' 0x31

/-- Whether a path is sending notifications (R395). -/
def State.notifies (s : State) (p : Nat) : Bool :=
  if p = 0 then s.cxlUp
  else if p = 1 then true
  else s.on (F.SEC_SESSION.OPEN p)

/-- Counts one occurrence of a code on one path; its first occurrence fixes the time (R395). -/
def State.countOcc (s : State) (p code : Nat) : State :=
  let k := occKey p code
  let n := Store.read (fun _ => 0) s.occ k
  { s with
    occ := Store.write (fun _ => 0) s.occ k (n + 1)
    occTime := if n = 0 then Store.write (fun _ => Clock.zero) s.occTime k s.clock else s.occTime }

/-- Issues the notification of a code on one path, if the path sends, and clears the path's count (R395). -/
def State.notifyOn (s : State) (p code : Nat) : State :=
  if s.notifies p then
    let k := occKey p code
    let n := Store.read (fun _ => 0) s.occ k
    let t := Store.read (fun _ => Clock.zero) s.occTime k
    let s := { s with occ := Store.write (fun _ => 0) s.occ k 0 }
    let s := s.send (.notify p code t n)
    let bs := notifyBytes s.wmpMajor s.wmpMinor code t n
    if p = 0 then s.ringPut bs
    else if p = 1 then
      let s := { s with i3cNotes := s.i3cNotes ++ [bs] }
      if s.i3cAddress.isSome then s.send (.ibi 0x01) else s
    else s.mccSend (Carrier.ofIdx (p - 2)) bs
  else s

/-- Adds `n` to a 48-bit counter held as a number; wrapping sets its OVF flag (R319). -/
def Ctr48.add (c : Ctr48) (n : Nat) : Ctr48 :=
  if c.value + n < 2 ^ 48 then { c with value := c.value + n }
  else { c with value := (c.value + n) % 2 ^ 48, ovf := true }

/-- Counters of a set with what they count in one cycle. -/
def counted (now : List Nat) (cs : List Ctr48) : List Ctr48 := cs.zipIdx.map fun p => p.1.add (nth now p.2 0)

/-- What a snapshot shows of counters: their values after the increments of its cycle, `after`; OVF; and OVF_AT_WRITE after a load that met
a wrap, or where its CLEAR meets a wrap in this cycle (R319). -/
def copied (clear : Bool) (before after : List Ctr48) : List Ctr48 :=
  after.zipIdx.map fun p => { p.1 with atWrite := p.1.atWrite || (clear && p.1.value < (nth before p.2 {}).value) }

/-- The live counters after a snapshot: their flags are cleared, or with CLEAR the counters too (R319). -/
def snapped (clear : Bool) (cs : List Ctr48) : List Ctr48 := cs.map fun c => if clear then {} else { value := c.value }

/-- A bit for each counter with a flag. -/
def flagMap (cs : List Ctr48) (f : Ctr48 → Bool) : Nat := (cs.zipIdx.map (fun p => if f p.1 then 2 ^ p.2 else 0)).foldl (· + ·) 0

/-- `GLEAN_OVF_MAP_k` of a set, written in the cycle of its copy (R319). -/
def State.ovfMap (s : State) (k : Nat) (cs : List Ctr48) : State :=
  (s.set (F.GLEAN_OVF_MAP.OVF k) (flagMap cs (·.ovf))).set (F.GLEAN_OVF_MAP.OVF_AT_WRITE k) (flagMap cs (·.atWrite))

/-- Whether a statistics source counts an event code (R318): KIND 1, the code or any cause of its block. -/
def State.statCounts (s : State) (i code : Nat) : Bool :=
  s.get (F.GLEAN_STAT_SRC.KIND i) = 1 &&
    (if s.on (F.GLEAN_STAT_SRC.BLOCK_ONLY i) then s.get (F.GLEAN_STAT_SRC.CODE i) / 256 = code / 256
     else s.get (F.GLEAN_STAT_SRC.CODE i) = code)

/-- Whether an addition to the live statistics counters wraps one (R319). -/
def State.statWraps (s : State) (n : Nat → Nat) : Bool :=
  (List.range 32).any (fun i => (nth s.glean.stats i {}).value + n i ≥ 2 ^ 48)

/-- Adds to the live statistics counters (R318); a wrap sets STAT_OVF (R319, Table 15.7). -/
def State.statCount (s : State) (n : Nat → Nat) : State :=
  let st := (List.range 32).map (fun i => (nth s.glean.stats i {}).add (n i))
  let t := { s with glean := { s.glean with stats := st } }
  if s.statWraps n then t.raise 0x20 20 else t

/-- What each statistics counter counts of one occurrence of a code. -/
def State.statOf (s : State) (code i : Nat) : Nat := if s.statCounts i code then 1 else 0

/-- An occurrence of an event code reaches Gleaner: its statistics counters, and the event matches of the units' sequencers (R307, R318). -/
def State.gleanHears (s : State) (code : Nat) : State :=
  let s := s.statCount (s.statOf code)
  let hear (p : GleanUnit × Nat) : GleanUnit :=
    if s.get (F.GLEAN_STATE.STATE p.2) = 1 then { p.1 with arrived := p.1.arrived ++ [code] } else p.1
  { s with glean := { s.glean with units := s.glean.units.zipIdx.map hear } }

/-- The word at an offset of a unit's window that is in force: as written while the unit is IDLE or DONE, else as latched at ARM (R309). -/
def State.gleanWord (s : State) (u off : Nat) : Word :=
  if s.get (F.GLEAN_STATE.STATE u) = 0 || s.get (F.GLEAN_STATE.STATE u) = 5 then s.rd (R.GLEAN_CTRL u + off)
  else nth (nth s.glean.units u {}).cfg (off / 4) 0

/-- Instances of a tap that the part's state feeds (Table 15.1): ports, chains, sequence entries, loops with signals, PDAC channels. -/
def tapInstances (u tap : Nat) : Nat :=
  if u = 2 then 16
  else if u = 3 then nth [1, 1, 8, 16, 128, 20, 1] tap 1
  else 1

/-- The instance that a unit's SUB selects: SUB beyond the tap's instances is taken modulo their number (DESIGN CHOICE, log 79). -/
def State.tapSub (s : State) (u : Nat) : Nat :=
  bitsOf (s.gleanWord u 0) 22 16 % tapInstances u (bitsOf (s.gleanWord u 4) 7 0)

/-- Whether a unit's comparators are looked at: it records, or a statistics counter counts their matches (R318). -/
def State.tapHeard (s : State) (u : Nat) : Bool :=
  s.get (F.GLEAN_STATE.STATE u) = 1 || s.get (F.GLEAN_STATE.STATE u) = 2
    || (List.range 32).any (fun i => s.get (F.GLEAN_STAT_SRC.KIND i) = 2 && s.get (F.GLEAN_STAT_SRC.CODE i) / 16 % 4 = u)

/-- An instant at an instance of a tap is delivered to the unit, if the unit has selected it (R303). -/
def State.tapped (s : State) (u tap inst : Nat) (x : TapInstant) : State :=
  if bitsOf (s.gleanWord u 4) 7 0 = tap && s.tapSub u = inst && s.tapHeard u then
    { s with glean := { s.glean with due := s.glean.due ++ [⟨u, s.clock, x⟩] } }
  else s

/-- What follows from an occurrence of a code: STAT_OVF where a statistics counter wraps (Table 15.7), and where the code is issued NOTIFY_OVF if its
notification finds the mailbox ring full (R271, R276). -/
def State.follows (s : State) (code : Nat) (issued : Bool) : List Nat :=
  (if s.statWraps (s.statOf code) then [0x2040] else []) ++ (if issued && s.cxlUp && s.ringFull then [0x1D09] else [])

/-- One code is issued (R28): it reaches Gleaner, is counted for every path and notified on every sending path. -/
def State.issue (s : State) (code : Nat) : State :=
  let s := (List.range 4).foldl (fun s p => s.countOcc p code) (s.gleanHears code)
  let s := s.send (.event code)
  (List.range 4).foldl (fun s p => s.notifyOn p code) s

/-- Codes are issued in turn, each with those that follow from it; no code follows from itself, and the chain ends after four codes
(DESIGN CHOICE, log 87). -/
def State.issueAll : Nat → List Nat → State → State
  | 0, _, s => s
  | _, [], s => s
  | n + 1, c :: cs, s => State.issueAll n (cs ++ (s.follows c true).filter (· ≠ c)) (s.issue c)

/-- An occurrence of an event code (R28), with the codes that follow from it. -/
def State.event (s : State) (code : Nat) : State := State.issueAll 4 [code] s

/-- An occurrence of a code whose issue is limited to once per second: counted always, issued only if not yet issued in
this second (log 7). -/
def State.eventOncePerSecond (s : State) (code : Nat) : State :=
  if s.limited.contains code then
    State.issueAll 3 (s.follows code false) ((List.range 4).foldl (fun s p => s.countOcc p code) (s.gleanHears code))
  else ({ s with limited := code :: s.limited }).event code

/-- Adds to the live statistics counters outside an event, with STAT_OVF's event (Table 15.7). -/
def State.statAdd (s : State) (n : Nat → Nat) : State := if s.statWraps n then (s.statCount n).event 0x2040 else s.statCount n

/-- Raises an interrupt bit and issues its event code. -/
def State.raiseEvent (s : State) (blk bit code : Nat) : State := (s.raise blk bit).event code

/-- Raises an interrupt bit and issues its code at most once per second. -/
def State.raiseLimited (s : State) (blk bit code : Nat) : State := (s.raise blk bit).eventOncePerSecond code

/-- Raises an interrupt bit with its code, both at most once per second; every occurrence is counted. -/
def State.raiseOnce (s : State) (blk bit code : Nat) : State :=
  if s.limited.contains code then s.eventOncePerSecond code else s.raiseLimited blk bit code

/-! ### The fault log (R364 to R367) -/

/-- Whether FAULT_N is low: a DETECTED entry is active, or TEST runs (R366). -/
def State.detectedActive (s : State) : Bool :=
  (List.range 64).any (fun i => s.on (F.FAULT_ENTRY_CODE.ACTIVE i) && s.get (F.FAULT_ENTRY_CODE.CLASS i) = 2)

/-- Sets FAULT_STATUS from the entries and the test, and raises FAULT_N_ON when FAULT_N goes low (R366, R370). -/
def State.faultPin (s : State) : State :=
  let low := s.detectedActive || s.faultTest
  let was := s.on F.FAULT_STATUS.ASSERTED
  let n := ((List.range 64).filter (fun i => s.on (F.FAULT_ENTRY_CODE.ACTIVE i))).length
  let s := (s.setB F.FAULT_STATUS.ASSERTED low).set F.FAULT_STATUS.ACTIVE n
  if low && !was then s.raise 0x25 2 else s

/-- The entry a new code takes: NEXT, or the inactive entry written longest ago (R367). -/
def State.faultSlot (s : State) : Option Nat :=
  let nx := s.get F.FAULT_STATUS.NEXT
  if !s.on (F.FAULT_ENTRY_CODE.ACTIVE nx) then some nx
  else s.faultOrder.find? (fun i => !s.on (F.FAULT_ENTRY_CODE.ACTIVE i))

/-- A self-test runs: MARCH or LOGIC (R369). -/
def State.bistRuns (s : State) : Bool := s.get F.BIST_STATUS.STATE = 1 || s.get F.BIST_STATUS.STATE = 2

/-- Writes a fault log entry of a class (1 MASKED, 2 DETECTED), or counts the code in its active entry (R367). A masked
entry's cause ends at once; a DETECTED one is held until ACK. A repeat that is DETECTED makes its entry so. Where the spec states no
DETAIL it is a free value (log 5). -/
def State.faultLog (s : State) (code cls : Nat) (detail : Option Nat) : State :=
  match (List.range 64).find? (fun i => s.on (F.FAULT_ENTRY_CODE.ACTIVE i) && s.get (F.FAULT_ENTRY_CODE.CODE i) = code) with
  | some i => ((s.bump (F.FAULT_ENTRY_CODE.COUNT i)).set (F.FAULT_ENTRY_CODE.CLASS i) (max cls (s.get (F.FAULT_ENTRY_CODE.CLASS i)))).faultPin
  | none =>
    match s.faultSlot with
    | none => (s.bump F.FAULT_STATUS.LOST).raiseEvent 0x25 1 0x2506
    | some i =>
      let s := s.wr (R.FAULT_ENTRY_CODE i) 0
      let s := s.set (F.FAULT_ENTRY_CODE.COUNT i) 1
      let s := s.setB (F.FAULT_ENTRY_CODE.ACTIVE i) true
      let s := s.set (F.FAULT_ENTRY_CODE.CLASS i) cls
      let s := s.set (F.FAULT_ENTRY_CODE.CODE i) code
      let s := match detail with
        | some d => s.set (F.FAULT_ENTRY_DETAIL.VALUE i) d
        | none => let (w, s) := s.freeWord; s.wr (R.FAULT_ENTRY_DETAIL i) w
      let s := s.set (F.FAULT_ENTRY_TIME_LO.NS i) s.clock.ns
      let s := s.set (F.FAULT_ENTRY_TIME_HI.SEC i) s.clock.sec
      let s := s.set F.FAULT_STATUS.NEXT ((i + 1) % 64)
      let s := { s with faultOrder := s.faultOrder.filter (· ≠ i) ++ [i] }
      (s.raise 0x25 0).faultPin

/-- An event that is also a DETECTED fault of Table 18.4. -/
def State.detected (s : State) (code : Nat) (detail : Option Nat) : State := (s.event code).faultLog code 2 detail

/-! ### Power: what is down (R332) -/

/-- The state of a power domain (R326). -/
def State.domState (s : State) (d : Nat) : Nat := s.get (F.PWR_DOM_STATUS.STATE d)

/-- Whether a domain is ON. -/
def State.domOn (s : State) (d : Nat) : Bool := s.domState d = 3

/-- Whether the part is SHUTTING or HALTED (R336). -/
def State.shut (s : State) : Bool := s.on F.PWR_STATUS.SHUTTING || s.on F.PWR_STATUS.HALTED

/-- Whether any furrow group is powered; if none is, the FURROW clock stops (R51). -/
def State.furrowClock (s : State) : Bool := (List.range 13).any (fun g => s.domOn (6 + g))

/-- The block ID of a BAR0 address (R24). -/
def blockOf (a : Nat) : Nat :=
  let p := a / 0x80000
  if 4 ≤ p ∧ p < 8 then 4 else if p < 0x18 then p / 2 * 2 else if 0x1A ≤ p ∧ p < 0x1C then 0x1A else if 0x20 ≤ p ∧ p < 0x22 then 0x20
  else p

/-- The first byte address of a block. -/
def blockBase (blk : Nat) : Nat := blk * 0x80000

/-- Whether an address is one of a block's four header registers (R2). -/
def isHeader (a : Nat) : Bool := a % 0x80000 < 0x10 && (rowAt a).isSome

/-- The domain that holds a register: Table 1.11, and per carrier or quad where a block spans several. -/
def holdingDomain (a : Nat) : Nat :=
  match blockOf a with
  | 0x08 => 4
  | 0x0A => 5
  | 0x0C => if a % 0x80000 < 0x40000 then 19 else 20
  | 0x10 => if 0x801000 ≤ a ∧ a < 0x802000 then 21 + (a - 0x801000) / 0x400 else 2
  | 0x12 => 25
  | 0x1E => 1
  | 0x1F => 3
  | 0x22 => 0
  | 0x25 => 0
  | 0x26 => 0
  | _ => 2

/-- The home clocks of a register, as (block, clock) pairs of `State.stoppedClocks` (Tables 1.9 and 1.11): a carrier's half of FEC has
that carrier's clocks; a lane's window has HRXn, clock n, and HTXQq, clock 16 + q (R144); LINE blocks have LRX, clock 0, and LTX,
clock 1; every other block has one clock. -/
def homeClocks (a : Nat) : List (Nat × Nat) :=
  let b := blockOf a
  match b with
  | 0x08 => [(b, 0), (b, 1)]
  | 0x0A => [(b, 0), (b, 1)]
  | 0x0C => [(b, if a % 0x80000 < 0x40000 then 0 else 1)]
  | 0x10 => if 0x801000 ≤ a ∧ a < 0x802000 then [(b, (a - 0x801000) / 0x100), (b, 16 + (a - 0x801000) / 0x400)] else []
  | _ => [(b, 0)]

/-- A clock of a block as `homeClocks` numbers it: blocks of one clock have clock 0 alone. -/
def clockOf (block n : Nat) : Nat × Nat :=
  match block with
  | 0x08 => (block, n % 2)
  | 0x0A => (block, n % 2)
  | 0x0C => (block, n % 2)
  | 0x10 => (block, n % 20)
  | _ => (block, 0)

/-- The power domain of a block's clock (Table 1.9). -/
def clockDomain (block n : Nat) : Nat :=
  match block with
  | 0x0C => 19 + n % 2
  | 0x10 => if n % 20 < 16 then 21 + n % 20 / 4 else 21 + (n % 20 - 16)
  | _ => holdingDomain (blockBase block + 0x10)

/-- Whether a register is down: its domain is not ON, or its home clock is stopped (R332, R23, R51). Header registers and unassigned
offsets (R4) never are. -/
def State.isDown (s : State) (a : Nat) : Bool :=
  (rowAt a).isSome && !isHeader a &&
    (!s.domOn (holdingDomain a) || (homeClocks a).any s.stoppedClocks.contains
      || (0x200000 ≤ a && a < 0x400000 && !s.furrowClock))

/-- Whether a clock of a block is powered and not gated (Tables 1.11 and 1.13): the furrow clock is gated while no furrow group is
powered (R51). -/
def State.clockRuns (s : State) (block n : Nat) : Bool :=
  s.domOn (clockDomain block n) && (block != 0x04 || s.furrowClock)

/-! ### Rights (R277, R292, R394) -/

/-- The session path whose session an access carries, if any (R292, R394). -/
def pathSession : Path → Option Nat
  | .cxl => some 0
  | .wmp p => some p.val
  | _ => none

/-- The role of the open session of a path; READER without one (R288). -/
def State.roleOn (s : State) (p : Nat) : Nat :=
  if s.on (F.SEC_SESSION.OPEN p) then s.get (F.SEC_SESSION.ROLE p) else 0

/-- The number of a WMP path, if the path is one. -/
def wmpPath : Path → Option Nat
  | .wmp p => some p.val
  | _ => none

/-- Whether an RWS write of a least role takes effect (R292): an open session of that role on the path, for a REG message the session that it
carries; never through the Plough alias; Hedge writes on behalf of a session (Table 14.1). -/
def State.rwsAllowed (s : State) (p : Path) (least : Nat) : Bool :=
  match p with
  | .hedge => true
  | .plough => false
  | _ => !(s.sec.bare && (wmpPath p).isSome) && match pathSession p with
    | some q => s.on (F.SEC_SESSION.OPEN q) && least ≤ s.roleOn q
    | none => false

/-- Whether a plain register write of a path is accepted: over I3C and the management channel it needs OPERATOR (R292). -/
def State.rwAllowed (s : State) (p : Path) : Bool :=
  match p with
  | .wmp q => q.val = 0 || 1 ≤ s.roleOn q.val
  | _ => true

/-- Whether Hedge carries no register access of a WMP path out: none while it restarts (R297), and no write while the ROM alone answers (R279). -/
def State.unheard (s : State) (p : Path) (write : Bool) : Bool :=
  match p with
  | .wmp _ => s.sec.hedge = .restarting || (write && s.sec.hedge = .romOnly)
  | _ => false

/-- Whether an access counts as a CXL access (R394): BAR0 over CXL, or WMP REG on the mailbox. -/
def isCxl : Path → Bool
  | .cxl => true
  | .wmp p => p.val = 0
  | _ => false

/-- Whether a path may write the transmit registers and POP: Plough, through its alias (R208, R220). -/
def ploughPath : Path → Bool
  | .plough => true
  | _ => false

/-- PATH of `PWR_ACCESS_DOWN_LOG` (R394). -/
def logCode : Path → Nat
  | .cxl => 0
  | .plough => 2
  | .hedge => 3
  | .wmp p => if p.val = 0 then 0 else if p.val = 1 then 1 else 3

/-- Counts a discarded RWS write (R292), or a Plough alias access that Table 14.1 forbids (R277). -/
def State.rwsDropped (s : State) (p : Path) : State :=
  let s := s.bump F.SEC_RWS_DROPPED.COUNT
  match p with
  | .plough => s.bump F.CPU_COUNT.ALIAS_DROPPED
  | _ => s

/-! ### WMP answers and refusals (R286, R287, R299) -/

/-- Updates the security state. -/
def State.onSec (s : State) (f : SecSt → SecSt) : State := { s with sec := f s.sec }

/-- The state of a session path. -/
def State.session (s : State) (p : Nat) : SessionSt := nth s.sec.sessions p {}

/-- Updates a session path. -/
def State.onSession (s : State) (p : Nat) (f : SessionSt → SessionSt) : State :=
  s.onSec fun x => { x with sessions := x.sessions.modify p f }

/-- A session's trailer and MAC over a message (R286, R290); zeros for session 0. -/
def wmpSeal (key : List Byte) (head body : List Byte) (session counter : Nat) : List Byte :=
  let tail := beBytes 4 session ++ beBytes 4 counter
  tail ++ (if session = 0 then List.replicate 32 0 else (Config.hmac key (head ++ body ++ tail)).take 32)

/-- A WMP response (R133, R286): FLAGS bit 0, bit 1 for a NAK, whose body is its code; it carries the request's TAG, SESSION and
COUNTER. -/
def State.wmpResponse (s : State) (p version cls typ tag session counter : Nat) (nak : Option Nat) (body : List Byte) : List Byte :=
  let (flags, body) := match nak with
    | some n => (3, beBytes 1 n)
    | none => (1, body)
  let head := beBytes 1 version ++ beBytes 1 cls ++ beBytes 1 typ ++ beBytes 1 flags ++ beBytes 2 tag ++ beBytes 2 body.length
  head ++ body ++ wmpSeal (s.session p).keyOut head body session counter

/-- Hands a response to its path: the mailbox's waits for its command's end, I3C's for a private read, with an IBI (R271, R298). -/
def State.respond (s : State) (p : Nat) (bytes : List Byte) : State :=
  if p = 0 then s.onSec fun x => { x with mbxResp := some bytes }
  else if p = 1 then
    let s := s.onSec fun x => { x with i3cResp := some bytes }
    if s.i3cAddress.isSome then s.send (.ibi 0x02) else s
  else s.mccSend (Carrier.ofIdx (p - 2)) bytes

/-- The response to the message last delivered on a path. -/
def State.respondLast (s : State) (p : Nat) (nak : Option Nat) : State :=
  match nth s.sec.requests p none with
  | none => s
  | some m =>
    let len := beNat (slice m 6 2)
    let s := s.onSec fun x => { x with requests := x.requests.set p none }
    s.respond p (s.wmpResponse p (beNat (slice m 0 1)) (beNat (slice m 1 1)) (beNat (slice m 2 1)) (beNat (slice m 4 2))
      (beNat (slice m (8 + len) 4)) (beNat (slice m (12 + len) 4)) nak [])

/-- Answers a WMP request: nothing on the other paths. -/
def State.answer (s : State) (p : Path) (nak : Option Nat) : State :=
  match wmpPath p with
  | some q => (s.send (.reply q nak)).respondLast q nak
  | none => s

/-- A session ends: SESSION_END (R290). -/
def State.sessionEnd (s : State) (p : Nat) : State :=
  if s.on (F.SEC_SESSION.OPEN p) then
    ((s.wr (R.SEC_SESSION p) 0).onSession p fun x => { challenge := x.challenge }).raise 0x1E 1
  else s

/-- Records a violation of Table 14.12 (R299). -/
def State.violate (s : State) (code : Nat) : State :=
  ((s.bump F.SEC_VIOLATION.COUNT).set F.SEC_VIOLATION.LAST code).raiseLimited 0x1E 11 0x1E10

/-- A WMP message is delivered on a path: with a LENGTH that disagrees with its bytes it is refused, else it waits for its class's
command (Table 14.12). -/
def State.deliver? (s : State) (p : Nat) (bytes : List Byte) : State :=
  let s := s.onSec fun x => { x with requests := x.requests.set p (some bytes) }
  let trailer := if beNat (slice bytes 1 1) = 4 then 0 else 40
  if bytes.length < 8 || bytes.length ≠ 8 + beNat (slice bytes 6 2) + trailer then
    let s := s.violate 0x01
    (s.send (.reply p (some 0x02))).respondLast p (some 0x02)
  else s

/-- A request whose path has no right to it: an RWS write is discarded and counted (R292); a WMP request below its class's
least role is refused with ROLE (Tables 14.7 and 14.12). -/
def State.refuseRight (s : State) (p : Path) : State :=
  match wmpPath p with
  | none => s.rwsDropped p
  | some _ => ((s.bump F.SEC_WMP_COUNT.ROLE).violate 0x07).answer p (some 0x11)

/-! ### The device memory window (R267, R270) -/

/-- Whether the window is GRANTED. -/
def State.windowGranted (s : State) : Bool := s.get F.CXLCTL_WIN_CMD.WSTATE = 1

/-- Whether `len` bytes from an offset lie within WIN_SIZE. -/
def State.inWindow (s : State) (off len : Nat) : Bool := off + len ≤ s.get F.CXLCTL_WIN_SIZE.SIZE * 0x10000000

/-- A window request that fails, counted in one of the fields of `CXLCTL_WIN_COUNT` (R270). -/
def State.windowFault (s : State) (count : Fld) : State := (s.bump count).raiseOnce 0x1D 6 0x1D07

/-- A window request was completed: those without completion are counted in a row (Table 13.6). -/
def State.windowAnswered (s : State) : State := { s with cxl := { s.cxl with timeouts := 0 } }

/-- The plan-signing keys that check 7 accepts (Tables 2.17 and 14.5): slots 6 to 9, present and not revoked. -/
def State.planKeys (s : State) : List (Nat × List Byte) :=
  ((List.range 4).map (6 + ·)).filterMap fun k =>
    if s.on ⟨R.SEC_KEYS, k, k⟩ && !s.on ⟨R.SEC_KEYS, 16 + k, 16 + k⟩ then some (k, nth s.sec.keys k []) else none

/-! ### Healthy units (R360, R361) -/

/-- The copy of the BIST record in use, with whether it is copy B: the newer of the valid ones (R362, R344). -/
def BistSt.used (b : BistSt) : Option (Bool × BistCopy) :=
  match b.copyA, b.copyB with
  | some x, some y => if 1 ≤ (y.seq - x.seq).toNat && (y.seq - x.seq).toNat < 2 ^ 31 then some (true, y) else some (false, x)
  | some x, none => some (false, x)
  | none, some y => some (true, y)
  | none, none => none

/-- The BIST record in use. -/
def BistSt.record (b : BistSt) : Option BistRecord := b.used.map (·.2.body)

/-- A record is written: to the copy not in use with the next SEQ, or to copy A with SEQ 1 (R345). -/
def BistSt.store (b : BistSt) (r : BistRecord) : BistSt :=
  match b.used with
  | some (true, y) => { b with copyA := some ⟨y.seq + 1, r⟩ }
  | some (false, x) => { b with copyB := some ⟨x.seq + 1, r⟩ }
  | none => { b with copyA := some ⟨1, r⟩ }

/-- A store that is cut short, or whose read-back differs: the copy written holds no valid record (R345). -/
def BistSt.cut (b : BistSt) : BistSt :=
  match b.used with
  | some (true, _) => { b with copyA := none }
  | some (false, _) => { b with copyB := none }
  | none => { b with copyA := none }

/-- A record with a unit's mark set or cleared. -/
def BistRecord.mark (r : BistRecord) (u : Nat) (v : Bool) : BistRecord :=
  { r with units := Store.write (fun _ => 0) r.units u (withBits (Store.read (fun _ => 0) r.units u) 29 29 (if v then 1 else 0)) }

/-- Sets or clears a unit's IN_SERVICE_FAIL in the BIST record and the results shown. -/
def State.setMark (s : State) (u : Nat) (v : Bool) : State :=
  let b := s.bist.store ((s.bist.record.getD {}).mark u v)
  { s with bist := { b with aon := b.aon.map (·.mark u v) } }

/-- Raises UNIT_FAIL for a unit: its event carries the unit number as its DETAIL (R371). -/
def State.unitFail (s : State) (u : Nat) : State := (s.raiseEvent 0x24 2 0x2403).send (.detail u)

/-- Marks a unit IN_SERVICE_FAIL and raises UNIT_FAIL (R361, R371). -/
def State.markInService (s : State) (u : Nat) : State := (s.setMark u true).unitFail u

/-- The results in use: the AON result registers' where they hold a newer run, else the record's (R362), with the rows that fuses hold
whatever the seed store says (R359). -/
def State.results (s : State) : BistRecord :=
  let r := (s.bist.aon <|> s.bist.record).getD {}
  { r with soft := r.soft ++ s.bist.rowFuses.filter (fun q => !r.soft.contains q && !r.spares.any (fun a => a.1 = q.1)) }

/-- A unit's entry in the results in use. -/
def State.unitWord (s : State) (u : Nat) : Word := Store.read (fun _ => 0) s.results.units u

/-- Whether a unit carries IN_SERVICE_FAIL. -/
def State.inServiceFail (s : State) (u : Nat) : Bool := bitsOf (s.unitWord u) 29 29 = 1

/-- Whether a furrow may be bound: neither fallow nor marked in service (R360, R361). -/
def State.furrowHealthy (s : State) (f : Nat) : Bool :=
  !s.on ⟨R.BIST_FALLOW (f / 32), f % 32, f % 32⟩ && !s.inServiceFail f

/-- The healthy furrows, ascending. -/
def State.healthyFurrows (s : State) : List Nat := (List.range 104).filter s.furrowHealthy

/-- The healthy engines of a carrier, ascending (R117); none once its decoder's region is beyond repair (Table 18.3). -/
def State.healthyEngines (s : State) (c : Carrier) : List Nat :=
  if s.bist.lost.contains c.idx then [] else (List.range 13).filter (fun e => !s.on ⟨R.FEC_ENGINES c, 16 + e, 16 + e⟩ && !s.inServiceFail (104 + 13 * c.idx + e))

/-! ### Votes and wake sources (R323, R326, R329) -/

/-- Updates power control's internal state. -/
def State.onPower (s : State) (f : PowerSt → PowerSt) : State := { s with power := f s.power }

/-- The AVS port of a domain's rail (Table 16.1); none for the host lane rails. -/
def avsPort (d : Nat) : Option Nat := if d = 4 ∨ d = 5 then some 1 else if 21 ≤ d ∧ d ≤ 24 then none else some 0

/-- The voltage of VDD_CORE for a level, mV: the fuse table of `PWR_PL_VOLT` (R330, R338). -/
def State.levelVolts (s : State) (l : Nat) : Nat := 500 + 2 * bitsOf (s.rd R.PWR_PL_VOLT) (8 * l + 7) (8 * l)

/-- The voltage that a request writes, mV (R322, R327, R330): VDD_CORE for the level, VDD_CONV at 0.900 V or at standby. -/
def State.avsVolts (s : State) (p : Nat) : AvsReq → Nat
  | .wake _ => if p = 0 then s.levelVolts (s.get F.PWR_PL.APPLIED) else 900
  | .level => s.levelVolts s.power.plTarget
  | .standby => 600

/-- The request that an AVS port serves. -/
def State.avsFront (s : State) (p : Nat) : Option AvsReq := (s.power.avs.find? (fun q => q.1 = p)).map (·.2)

/-- A port whose request at the front was none or another before writes its voltage (R331). -/
def State.avsServe (s : State) (p : Nat) (before : Option AvsReq) : State :=
  match s.avsFront p with
  | none => s
  | some r => if before = some r then s else s.send (.avsWrite p (s.avsVolts p r))

/-- Asks an AVS port for a transaction, behind those that wait (R331). -/
def State.avsAsk (s : State) (p : Nat) (r : AvsReq) : State :=
  (s.onPower fun w => { w with avs := w.avs ++ [(p, r)] }).avsServe p (s.avsFront p)

/-- A wake's sequence starts: from REST or OFF its first step asks the rail's AVS port for the target voltage (R327). -/
def State.wakeSequence (s : State) (d : Nat) : State :=
  match avsPort d with
  | some p =>
    if Store.read (fun _ => 0) s.power.wakingFrom d = 2 then s
    else (s.onPower fun w => { w with standby := if p = 1 then false else w.standby }).avsAsk p (.wake d)
  | none => s

/-- Starts the wake of a sleeping domain that is not FAILED (Table 16.3); none wakes in HALTED (R336). -/
def State.wakeDomain (s : State) (d : Nat) : State :=
  if s.domState d ≤ 2 && !s.on (F.PWR_DOM_STATUS.FAILED d) && !s.on F.PWR_STATUS.HALTED then
    let was := s.domState d
    let s := s.onPower fun w => { w with wakingFrom := Store.write (fun _ => 0) w.wakingFrom d was }
    ((s.set (F.PWR_DOM_STATUS.STATE d) 4).set (F.PWR_DOM_STATUS.ATTEMPTS d) 1).wakeSequence d
  else s

/-- Whether a domain may only be ON (Table 16.1). -/
def onOnly (d : Nat) : Bool := d = 0 || d = 1 || d = 2 || d = 26

/-- Stores a domain's votes and acts on the change (Table 16.3): a first vote cancels the drop timer or starts a wake; the
last vote withdrawn starts the timer. Votes of ON-only domains have no effect (R323). -/
def State.setVotes (s : State) (d votes : Nat) : State :=
  let was := s.get (F.PWR_VOTE.VOTES d)
  let s := s.set (F.PWR_VOTE.VOTES d) votes
  if onOnly d then s
  else if votes ≠ 0 then
    let s := s.onPower fun w => { w with dropTimers := w.dropTimers.filter (· ≠ d) }
    s.wakeDomain d
  else if was ≠ 0 && s.domState d = 3 then s.onPower fun w => { w with dropTimers := d :: w.dropTimers.filter (· ≠ d) }
  else s

/-- Sets or withdraws one vote bit of a domain. -/
def State.vote (s : State) (d bit : Nat) (v : Bool) : State :=
  let was := s.get (F.PWR_VOTE.VOTES d)
  let cleared := was - was / 2 ^ bit % 2 * 2 ^ bit
  s.setVotes d (if v then cleared + 2 ^ bit else cleared)

/-- Delivers what a wake event stands for (R329). -/
def State.deliver (s : State) (w : WakeItem) : State :=
  match w.act with
  | .nothing => s
  | .raise blk bit none => s.raise blk bit
  | .raise blk bit (some code) => s.raiseEvent blk bit code

/-- A wake source fires (R329): delivered at once if it is unmapped or its target is ON; otherwise latched once, with its
client's vote set on the target. -/
def State.wakeSource (s : State) (k : Nat) (act : Deferred) : State :=
  let d := s.get (F.PWR_WAKE_MAP.DOMAIN k)
  let item : WakeItem := ⟨k, act⟩
  if !s.on (F.PWR_WAKE_MAP.EN k) || s.domOn d then s.deliver item
  else
    let s :=
      if s.on ⟨R.PWR_WAKE_LATCH, k, k⟩ then s.bump F.PWR_WAKE_COUNT.COALESCED
      else
        let s := s.onPower fun w => { w with latched := w.latched ++ [item] }
        (s.setB ⟨R.PWR_WAKE_LATCH, k, k⟩ true).bump F.PWR_WAKE_COUNT.WAKES
    s.vote d (s.get (F.PWR_WAKE_MAP.CLIENT k)) true

/-! ### Movements of calibration records (R348) -/

/-- Updates calibration's internal state. -/
def State.onCal (s : State) (f : CalSt → CalSt) : State := { s with cal := f s.cal }

/-- Raises a CAL bit with its event code, if it has one (R353). -/
def State.calRaise (s : State) (bit : Nat) : State :=
  if bit = 4 || bit = 5 then s.raise 0x23 bit else s.raiseEvent 0x23 bit (0x2301 + bit)

/-- The movement of a slot ends; SETTLED when it was the last. -/
def State.calSettle (s : State) (slot : Nat) : State :=
  let s := (s.onCal fun k => { k with target := k.target.set slot none }).set (F.CAL_SLOT.MOVING slot) 0
  if s.cal.target.all Option.isNone then s.calRaise 5 else s

end Sys2Proof.Machine
end

