-- ==== Sys2Proof/Machine/Plan.lean ====
section
/-!
DEFINITION. Field plans (chapter 2): parsing a bit-stream (R29 to R31, R391), the clamped values of its records (R8 to R10,
R33, R39), rates and capacities (R17, R80), and the checks of Table 2.17 with their reason codes.
-/
namespace Sys2Proof.Machine

/-! ### Bytes of the buffer -/

/-- One byte of an image; erased storage past its end reads 0xFF. -/
def imgByte (img : List Byte) (i : Nat) : Nat := (nth img i 0xFF#8).toNat

/-- A little-endian field of an image (R29). -/
def imgLe (img : List Byte) (off n : Nat) : Nat :=
  (List.range n).foldr (fun i a => imgByte img (off + i) + 256 * a) 0

/-- TOTAL_LEN of a header (Table 2.1). -/
def imgTotal (img : List Byte) : Nat := imgLe img 0x1C 4

/-- The largest plan (R29). -/
def planMax : Nat := 0x100000

/-- Bytes a load by slot or chunks is to deliver (R393). -/
def imgDeliver (img : List Byte) : Nat := min (imgTotal img) planMax

/-! ### Records -/

/-- The known record types of Table 2.3. -/
def recKnown (t : Nat) : Bool := 1 ≤ t && t ≤ 0x0E

/-- Whether a body length matches Table 2.3 (R391), judged on the bytes as written. Unknown types need a multiple of 4
(R31). -/
def recLenOk (r : Rec) : Bool :=
  let n := r.body.length
  match r.typ with
  | 0x01 => n = 16
  | 0x02 => 4 ≤ n && n = 4 + 4 * leNat (r.body.take 1)
  | 0x03 => n % 8 = 0
  | 0x04 => n % 4 = 0
  | 0x05 => n = 4
  | 0x06 => n = 8
  | 0x07 => n % 4 = 0
  | 0x08 => n = 8
  | 0x09 => n = 4
  | 0x0A => n % 8 = 0
  | 0x0B => 8 ≤ n && n % 8 = 0
  | 0x0C => n % 4 = 0 && n ≤ 512
  | 0x0D => n = 12
  | 0x0E => n = 8
  | _ => n % 4 = 0

/-- What a check answers: none where it passes, else the reason code and the record (0xFFFF outside the records). -/
abbrev Verdict := Option (Nat × Nat)

/-- Reads the records of a body of bytes; `k` is the next record's index. A record that does not fit, or whose length does
not match, is answered with its index (check 9). -/
def parseRecs : Nat → Nat → List Byte → Except Nat (List Rec)
  | _, _, [] => .ok []
  | 0, k, _ => .error k
  | fuel + 1, k, bs =>
    if bs.length < 8 then .error k
    else
      let n := leNat (slice bs 4 4)
      if bs.length < 8 + n then .error k
      else
        let r : Rec := ⟨leNat (slice bs 0 2), leNat (slice bs 2 1), leNat (slice bs 3 1), slice bs 8 n⟩
        if recLenOk r then (parseRecs fuel (k + 1) (bs.drop (8 + n))).map (r :: ·) else .error k

/-- RECORDS_LEN of a header. -/
def imgRecsLen (img : List Byte) : Nat := imgLe img 0x18 4

/-- The records of an image. -/
def imgRecs (img : List Byte) : Except Nat (List Rec) :=
  parseRecs (imgRecsLen img / 8 + 1) 0 ((slice img 64 (imgRecsLen img)))

/-- The plan an image spells, with the records it holds. -/
def imgPlan (img : List Byte) : Plan :=
  { mode := imgByte img 0x0C, major := imgByte img 0x05, epoch := imgLe img 0x10 4,
    recs := match imgRecs img with
      | .ok rs => rs
      | .error _ => [] }

/-- The record of a type and instance. -/
def Plan.rec? (p : Plan) (typ inst : Nat) : Option Rec := p.recs.find? (fun r => r.typ = typ && r.inst = inst)

/-- The index of a record of a type and instance, 0xFFFF if there is none. -/
def Plan.recIdx (p : Plan) (typ inst : Nat) : Nat :=
  (p.recs.findIdx? (fun r => r.typ = typ && r.inst = inst)).getD 0xFFFF

/-- Whether a plan has a record of a type and instance. -/
def Plan.has (p : Plan) (typ inst : Nat) : Bool := (p.rec? typ inst).isSome

/-- One little-endian field of a record's body. -/
def Rec.le (r : Rec) (off n : Nat) : Nat := leNat (slice r.body off n)

/-- A signed field of a record's body. -/
def Rec.leS (r : Rec) (off n : Nat) : Int := toSigned (8 * n) (r.le off n)

/-- The entries of `n` bytes of a body from an offset. -/
def Rec.entries (r : Rec) (off n : Nat) : List (List Byte) :=
  (List.range ((r.body.length - off) / n)).map (fun i => slice r.body (off + n * i) n)

/-! ### The clamped values (check 13) -/

/-- A CARRIER record (Table 2.4). -/
structure CarrierRec where
  /-- units of 0.25 GBd -/
  rate : Nat
  subs : Nat
  tx : Bool
  rx : Bool
  /-- units of 0.001 -/
  rollOff : Nat
  /-- units of 12.5 GHz -/
  slotWidth : Nat
  cdPreset : Int
  centreN : Int
  deriving DecidableEq, Repr

/-- The CARRIER record of a carrier, clamped. -/
def Plan.carrier (p : Plan) (c : Carrier) : Option CarrierRec :=
  (p.rec? 1 c.idx).map fun r =>
    { rate := clampN 0xF0 0x460 (r.le 0 2), subs := clampN 1 16 (r.le 2 1), tx := r.le 3 1 % 2 = 1, rx := r.le 3 1 / 2 % 2 = 1,
      rollOff := clampN 5 200 (r.le 4 2), slotWidth := clampN 5 32 (r.le 6 1),
      cdPreset := clampI (-300000) 300000 (r.leS 8 4), centreN := clampI (-960) 960 (r.leS 12 2) }

/-- One SUBCARRIER entry (Table 2.5). -/
structure SubRec where
  /-- 0 QPSK, 1 16-QAM, 2 64-QAM -/
  base : Nat
  /-- units of 0.1 dB -/
  power : Int
  /-- units of 1/32 bit -/
  entropy : Nat
  deriving DecidableEq, Repr

/-- The top of a base's ENTROPY range (Table 2.5); the bottom is 64 (R39). -/
def entropyTop (base : Nat) : Nat := if base = 0 then 64 else if base = 1 then 128 else 192

/-- Bits per symbol of a base (R80). -/
def baseBits (base : Nat) : Nat := 2 * (base + 1)

/-- A SUBCARRIER entry's four bytes, clamped. -/
def subOf (e : List Byte) : SubRec :=
  let base := min 2 (leNat (slice e 0 1))
  { base := base, power := clampI (-30) 30 (toSigned 8 (leNat (slice e 1 1))),
    entropy := clampN 64 (entropyTop base) (leNat (slice e 2 2)) }

/-- The SUBCARRIER entries of a carrier (R33): the first clamped COUNT of them; a missing one reads as four zero bytes. -/
def Plan.subs (p : Plan) (c : Carrier) : List SubRec :=
  match p.rec? 2 c.idx with
  | none => []
  | some r => (List.range (clampN 1 16 (r.le 0 1))).map (fun i => subOf (slice r.body (4 + 4 * i) 4))

/-- A FURROW_MAP group (Table 2.6). -/
structure GroupRec where
  group : Nat
  kind : Nat
  carrier : Carrier
  first : Nat
  count : Nat
  deriving DecidableEq, Repr

/-- The groups of a plan, in the order of the record. -/
def Plan.groups (p : Plan) : List GroupRec :=
  match p.rec? 3 0 with
  | none => []
  | some r => (r.entries 0 8).map fun e =>
    { group := leNat (slice e 0 1), kind := leNat (slice e 1 1), carrier := Carrier.ofIdx (leNat (slice e 2 1)),
      first := leNat (slice e 3 1), count := clampN 1 32 (leNat (slice e 4 1)) }

/-- A ROUTE entry. -/
structure RouteRec where
  src : Nat
  srcPort : Nat
  dst : Nat
  dstPort : Nat
  deriving DecidableEq, Repr

/-- The routes of a plan. -/
def Plan.routes (p : Plan) : List RouteRec :=
  match p.rec? 4 0 with
  | none => []
  | some r => (r.entries 0 4).map fun e =>
    ⟨leNat (slice e 0 1), leNat (slice e 1 1), leNat (slice e 2 1), leNat (slice e 3 1)⟩

/-- An FEC record (Table 2.9). -/
structure FecRec where
  code : Nat
  engines : Nat
  noSpare : Bool
  deriving DecidableEq, Repr

/-- The FEC record of a carrier, clamped. -/
def Plan.fec (p : Plan) (c : Carrier) : Option FecRec :=
  (p.rec? 5 c.idx).map fun r => ⟨min 2 (r.le 0 1), clampN 1 12 (r.le 1 1), r.le 2 1 ≠ 0⟩

/-- A FRAME record (Table 2.10). -/
structure FrameRec where
  major : Nat
  minor : Nat
  mgmt : Bool
  time : Bool
  snr : Bool
  forward : Nat
  node : Nat
  deriving DecidableEq, Repr

/-- The FRAME record, clamped. -/
def Plan.frame (p : Plan) : Option FrameRec :=
  (p.rec? 6 0).map fun r =>
    { major := r.le 0 1, minor := r.le 1 1, mgmt := r.le 2 1 % 2 = 1, time := r.le 2 1 / 2 % 2 = 1,
      snr := r.le 2 1 / 4 % 2 = 1, forward := min 2 (r.le 3 1), node := r.le 4 4 }

/-- A SLOT_MAP run. -/
structure RunRec where
  carrier : Carrier
  first : Nat
  count : Nat
  port : Nat
  deriving DecidableEq, Repr

/-- The SLOT_MAP runs, clamped. -/
def Plan.runs (p : Plan) : List RunRec :=
  match p.rec? 7 0 with
  | none => []
  | some r => (r.entries 0 4).map fun e =>
    let f := min 63 (leNat (slice e 1 1))
    ⟨Carrier.ofIdx (leNat (slice e 0 1)), f, clampN 1 (64 - f) (leNat (slice e 2 1)), min 15 (leNat (slice e 3 1))⟩

/-- The slots of a port on a carrier, in the order of the runs. -/
def Plan.portSlots (p : Plan) (c : Carrier) (port : Nat) : List Nat :=
  (p.runs.filter (fun r => r.carrier = c && r.port = port)).flatMap (fun r => (List.range r.count).map (r.first + ·))

/-- All assigned slots of a carrier. -/
def Plan.slots (p : Plan) (c : Carrier) : List Nat :=
  (p.runs.filter (fun r => r.carrier = c)).flatMap (fun r => (List.range r.count).map (r.first + ·))

/-- A CLIENT_PORT record (Table 2.11). -/
structure PortRec where
  rate : Nat
  laneRate : Nat
  firstLane : Nat
  lanes : Nat
  precodeTx : Bool
  precodeRx : Bool
  revertive : Bool
  deriving DecidableEq, Repr

/-- The CLIENT_PORT record of a port, clamped. -/
def Plan.port (p : Plan) (n : Nat) : Option PortRec :=
  (p.rec? 8 n).map fun r =>
    { rate := min 4 (r.le 0 1), laneRate := min 2 (r.le 1 1), firstLane := min 15 (r.le 2 1), lanes := r.le 3 1,
      precodeTx := r.le 4 1 % 2 = 1, precodeRx := r.le 4 1 / 2 % 2 = 1, revertive := r.le 4 1 / 4 % 2 = 1 }

/-- Ports with a CLIENT_PORT record, ascending. -/
def Plan.portList (p : Plan) : List Nat := (List.range 16).filter (fun n => p.has 8 n)

/-- Lanes of a port by rate and lane rate (Table 2.12); none where the table has a dash. -/
def lanesOf (rate laneRate : Nat) : Option Nat :=
  let gbps := [100, 200, 400, 800, 1600]
  let perLane := [200, 100, 50]
  let n := nth gbps rate 0 / nth perLane laneRate 1
  if n = 0 ∨ 8 < n then none else some n

/-- Slots of a port by rate (Table 2.12). -/
def slotsOf (rate : Nat) : Nat := 4 * 2 ^ rate

/-- A SHAPING_TABLE entry (R39). -/
structure ShapeRec where
  min : Nat
  max : Nat
  maxStep : Nat
  holdMf : Nat
  deriving DecidableEq, Repr

/-- The step ranges of a carrier's subcarriers (R39): the initial entropy alone without a record. -/
def Plan.shaping (p : Plan) (c : Carrier) : List ShapeRec :=
  (List.range (p.subs c).length).map fun i =>
    let s := nth (p.subs c) i ⟨0, 0, 64⟩
    match p.rec? 0x0A c.idx with
    | none => ⟨s.entropy, s.entropy, 0, 0⟩
    | some r =>
      let e := slice r.body (8 * i) 8
      ⟨clampN 64 s.entropy (leNat (slice e 0 2)), clampN s.entropy (entropyTop s.base) (leNat (slice e 2 2)),
        leNat (slice e 4 1), leNat (slice e 5 1)⟩

/-- A nonlinear-compensation term: indices and coefficient (NLC_INIT). -/
structure NlcTerm where
  m : Int
  n : Int
  re : Int
  im : Int
  deriving DecidableEq, Repr

/-- The terms of a carrier's NLC_INIT record, at most 2,048 (R40); none without a record. -/
def Plan.nlcInit (p : Plan) (c : Carrier) : List NlcTerm :=
  match p.rec? 0x0B c.idx with
  | none => []
  | some r => ((r.entries 8 8).take 2048).map fun e =>
    ⟨toSigned 8 (leNat (slice e 0 1)), toSigned 8 (leNat (slice e 1 1)), toSigned 24 (leNat (slice e 2 3)),
      toSigned 24 (leNat (slice e 5 3))⟩

/-! ### Stage kinds (Table 2.7), rates and sizes (R17, R34) -/

/-- What Table 2.7 says of a stage kind. Rates: `fs` says Fs, else Rs. -/
structure KindRow where
  inFs : Bool
  outFs : Bool
  sizeFs : Bool
  passes : Nat
  inputs : Nat
  deriving DecidableEq, Repr

/-- The row of a stage kind; none for an unknown code. -/
def kindRow : Nat → Option KindRow
  | 0x01 => some ⟨false, true, true, 1, 1⟩
  | 0x02 => some ⟨true, true, true, 1, 1⟩
  | 0x10 => some ⟨true, true, true, 1, 1⟩
  | 0x11 => some ⟨true, true, true, 2, 1⟩
  | 0x12 => some ⟨true, true, true, 1, 1⟩
  | 0x13 => some ⟨true, true, true, 1, 2⟩
  | 0x14 => some ⟨true, true, true, 1, 1⟩
  | 0x15 => some ⟨true, false, false, 1, 1⟩
  | 0x16 => some ⟨false, false, false, 1, 1⟩
  | 0x20 => some ⟨false, false, false, 1, 0⟩
  | 0x21 => some ⟨false, false, false, 1, 1⟩
  | _ => none

/-- A carrier's rate in units of 1/320 GSa/s: Fs = 9/8 Rs (R17). -/
def CarrierRec.speed (cr : CarrierRec) (fs : Bool) : Nat := if fs then 90 * cr.rate else 80 * cr.rate

/-- 32 furrow clocks of a performance level, in the same units. -/
def furrowSpeed (pl : Nat) : Nat := nth [16384, 12288, 8192, 4096] pl 4096

/-- Furrows a group needs at a level (R34). -/
def GroupRec.needs (g : GroupRec) (cr : CarrierRec) (pl : Nat) : Nat :=
  match kindRow g.kind with
  | none => 0
  | some k => k.passes * ((cr.speed k.sizeFs + furrowSpeed pl - 1) / furrowSpeed pl)

/-- Whether every group of a plan works at a level. -/
def Plan.worksAt (p : Plan) (pl : Nat) : Bool :=
  p.groups.all fun g => match p.carrier g.carrier with
    | some cr => g.needs cr pl ≤ g.count
    | none => false

/-- The plan's minimum performance level (R34); 3 without groups. -/
def Plan.minPl (p : Plan) : Nat :=
  if p.worksAt 3 then 3 else if p.worksAt 2 then 2 else if p.worksAt 1 then 1 else 0

/-- The plan's furrow total (R35). -/
def Plan.furrowTotal (p : Plan) : Nat := (p.groups.map (·.count)).foldl (· + ·) 0

/-- 1 − r of a code, in thousandths (R80). -/
def codeLoss (code : Nat) : Nat := nth [135, 176, 219] code 219

/-- A subcarrier's share of the net rate (R80) in units of 1/(16,384,000 · COUNT) Gb/s: rate is in 0.25 GBd. -/
def subNet (rate code : Nat) (s : SubRec) : Nat := rate * 251 * (1000 * s.entropy - 32 * codeLoss code * baseBits s.base)

/-- The net rate of a carrier with given subcarriers, as a numerator over 16,384,000 · COUNT Gb/s (R80). -/
def netNum (rate code : Nat) (ss : List SubRec) : Nat := (ss.map (subNet rate code)).foldl (· + ·) 0

/-- The net rate in units of 1/16 Gb/s, truncated. -/
def netSixteenths (rate code : Nat) (ss : List SubRec) : Nat :=
  if ss.length = 0 then 0 else 16 * netNum rate code ss / (16384000 * ss.length)

/-- Slots a net rate carries (R80). -/
def netSlots (rate code : Nat) (ss : List SubRec) : Nat :=
  if ss.length = 0 then 0 else min 64 (netNum rate code ss / (16384000 * ss.length * 25))

/-- A carrier's slot capacity at its initial entropies (R38): 0 without CARRIER, SUBCARRIER or FEC. -/
def Plan.capacity (p : Plan) (c : Carrier) : Nat :=
  match p.carrier c, p.fec c with
  | some cr, some f => netSlots cr.rate f.code (p.subs c)
  | _, _ => 0

/-! ### Checks 2 to 12: the header and the frame of the records -/

/-- Plan-signing key slots that are held and not revoked, as check 7 sees them, with each slot's key. -/
abbrev PlanKeys := List (Nat × List Byte)

/-- Checks 1 to 8 (Table 2.17), with the length judged only for LOAD_WINDOW. A source that delivers no byte, as an erased or never stored
slot of R393 does, fails check 1 as LOAD_SOURCE (DESIGN CHOICE, log 21: the spec is silent on it). -/
def headerChecks (img : List Byte) (load : LoadKind) (delivered expected srcLen : Nat) (idWord : Nat) (keys : PlanKeys) :
    Verdict :=
  let bad (reason : Nat) : Verdict := some (reason, 0xFFFF)
  let total := imgTotal img
  let recsLen := imgRecsLen img
  let sigOff := 64 + recsLen + 4
  if delivered = 0 ∨ delivered ≠ expected then bad 0x09
  else if 64 + recsLen + 532 ≠ total ∨ planMax < total ∨ imgLe img 6 2 ≠ 64 ∨ (load = .window ∧ srcLen ≠ total) then bad 0x01
  else if imgLe img 0 4 ≠ 0x4C504654 then bad 0x02
  else if imgByte img 5 ≠ 1 ∨ 7 < imgByte img 0x0C then bad 0x03
  else if imgLe img 8 2 ≠ idWord / 0x10000 ∨ imgLe img 0x0A 2 ≠ idWord % 0x10000 then bad 0x04
  else if crc32c (slice img 0 (64 + recsLen)) ≠ imgLe img (64 + recsLen) 4 then bad 0x05
  else match keys.find? (fun k => k.1 = imgByte img (sigOff + 4)) with
    | none => bad 0x06
    | some (_, key) =>
      if imgLe img sigOff 4 ≠ 0x47495354 ∨ imgByte img (sigOff + 5) ≠ 1 ∨ imgLe img (sigOff + 6) 2 ≠ 64 then bad 0x06
      else if Config.rsaVerify key (slice img 0 sigOff) (slice img (sigOff + 16) 512) then none
      else bad 0x07

/-- The first index at which a predicate over (index, element) holds. -/
def firstIdx {α : Type} (l : List α) (f : Nat → α → Bool) : Option Nat :=
  (l.zipIdx.find? (fun p => f p.2 p.1)).map (·.2)

/-- Checks 9 to 12. -/
def frameChecks (img : List Byte) : Verdict :=
  match imgRecs img with
  | .error k => some (0x10, k)
  | .ok rs =>
    if rs.length ≠ imgLe img 0x14 2 then some (0x14, 0xFFFF)
    else match firstIdx rs (fun i r => (rs.take i).any (fun q => q.typ = r.typ && q.inst = r.inst)) with
      | some k => some (0x11, k)
      | none => (firstIdx rs (fun _ r => !recKnown r.typ && r.flags % 2 = 1)).map (fun k => (0x12, k))

/-! ### Check 14: records by mode (R42, Table 2.16) -/

/-- How a record type stands in a mode: not allowed, optional, required. -/
inductive Need where
  | no | opt | req
  deriving DecidableEq, Repr

/-- Table 2.16. For carrier types, `req` means required for each carrier of the mode. -/
def need (mode typ : Nat) : Need :=
  let line : Bool := mode ≤ 4
  match typ with
  | 0x01 | 0x02 | 0x03 | 0x04 => if line || mode = 6 then .req else .no
  | 0x05 | 0x06 => if line then .req else if mode = 6 then .opt else .no
  | 0x07 => if mode ≤ 3 then .req else .no
  | 0x08 => if mode ≤ 3 || mode = 7 then .req else .no
  | 0x0A | 0x0B => if line || mode = 6 then .opt else .no
  | _ => .opt

/-- Types whose INSTANCE names a carrier (Table 2.3). -/
def carrierType (t : Nat) : Bool := t = 1 || t = 2 || t = 5 || t = 0x0A || t = 0x0B

/-- Whether a record's INSTANCE is one its TYPE allows (R42). -/
def instOk (r : Rec) : Bool :=
  if carrierType r.typ then r.inst ≤ 1
  else if r.typ = 8 || r.typ = 0x0C then r.inst ≤ 15
  else r.inst = 0

/-- Whether record `i` of a plan is allowed (R42). Unknown records are skipped (R31). -/
def Plan.allowed (p : Plan) (i : Nat) (r : Rec) : Bool :=
  !recKnown r.typ ||
  (need p.mode r.typ ≠ .no && instOk r &&
    (!(carrierType r.typ && r.typ ≠ 1) || p.has 1 r.inst) &&
    -- SINGLE has one carrier: a second CARRIER record is not allowed
    !(p.mode = 3 && r.typ = 1 && (p.recs.take i).any (fun q => q.typ = 1)))

/-- FORWARD allowed by mode (R42). -/
def Plan.forwardOk (p : Plan) : Bool :=
  match p.frame with
  | none => true
  | some f =>
    match p.mode with
    | 0 | 2 | 3 => f.forward = 0
    | 1 => f.forward = 1
    | 4 => f.forward = 2
    | 6 => f.forward = 0 || (f.forward = 2 && p.has 1 0 && p.has 1 1)
    | _ => true

/-- Whether a record that the mode requires is missing. -/
def Plan.missing (p : Plan) : Bool :=
  let both := p.mode ≤ 2 || p.mode = 4
  let carriers := [0, 1].filter (fun c => p.has 1 c)
  (both && carriers.length ≠ 2) ||
  ((p.mode = 3 || p.mode = 6) && carriers.isEmpty) ||
  carriers.any (fun c => [2, 5].any (fun t => need p.mode t = .req && !p.has t c)) ||
  [3, 4, 6, 7].any (fun t => need p.mode t = .req && !p.has t 0) ||
  (need p.mode 8 = .req && p.portList.isEmpty)

/-- Check 14. -/
def Plan.check14 (p : Plan) : Verdict :=
  match firstIdx p.recs (fun i r => !p.allowed i r) with
  | some k => some (0x15, k)
  | none => if p.missing then some (0x13, 0xFFFF) else if !p.forwardOk then some (0x15, p.recIdx 6 0) else none

/-! ### Checks 15 to 18 -/

/-- Check 15: FRAME_MAJOR within the majors of `PLAN_FORMAT`. -/
def Plan.check15 (p : Plan) (majMin majMax : Nat) : Verdict :=
  match p.frame with
  | some f => if majMin ≤ f.major ∧ f.major ≤ majMax then none else some (0x16, p.recIdx 6 0)
  | none => none

/-- The two carriers, in order. -/
def carriers : List Carrier := [.A, .B]

/-- A verdict on the offending record that stands first; none if there is none. -/
def firstRec (reason : Nat) (offending : List Nat) : Verdict :=
  offending.head?.map (fun k => (reason, offending.foldl min k))

/-- The records of a type, one for each carrier that fails a test. -/
def Plan.failing (p : Plan) (typ : Nat) (bad : Carrier → Bool) : List Nat :=
  (carriers.filter bad).map (fun c => p.recIdx typ c.idx)

/-- A test of each carrier, as a verdict on its record of a type. -/
def Plan.perCarrier (p : Plan) (reason typ : Nat) (bad : Carrier → Bool) : Verdict := firstRec reason (p.failing typ bad)

/-- Check 16: R33 and R32. -/
def Plan.check16 (p : Plan) : Verdict :=
  let subsBad (c : Carrier) : Bool := match p.carrier c with
    | some cr => (p.subs c).length ≠ cr.subs
    | none => false
  let shapeBad (c : Carrier) : Bool := match p.carrier c, p.rec? 0x0A c.idx with
    | some cr, some r => r.body.length ≠ 8 * cr.subs
    | _, _ => false
  let wide (c : Carrier) : Bool := match p.carrier c with
    | some cr => 50000 * cr.slotWidth < cr.rate * (1000 + cr.rollOff)
    | none => false
  firstRec 0x32 (p.failing 2 subsBad ++ p.failing 0x0A shapeBad) <|> p.perCarrier 0x31 1 wide

/-- Whether a kind is allowed in a plan's mode and its carrier's direction (Table 2.7). -/
def Plan.kindOk (p : Plan) (g : GroupRec) : Bool :=
  match p.carrier g.carrier with
  | none => false
  | some cr =>
    if g.kind = 1 ∨ g.kind = 2 then cr.tx
    else if g.kind = 0x20 ∨ g.kind = 0x21 then p.mode = 6
    else if g.kind = 0x13 then p.mode = 1 && cr.rx
    else cr.rx

/-- Whether two logical ranges overlap. -/
def GroupRec.overlaps (g h : GroupRec) : Bool := g.first < h.first + h.count && h.first < g.first + g.count

/-- Check 17. -/
def Plan.check17 (p : Plan) : Verdict :=
  let gs := p.groups
  let k := p.recIdx 3 0
  let anyBad (f : Nat → GroupRec → Bool) : Bool := (firstIdx gs f).isSome
  if anyBad (fun i g => 31 < g.group || (gs.take i).any (fun h => h.group = g.group)) then some (0x25, k)
  else if anyBad (fun _ g => (kindRow g.kind).isNone) then some (0x26, k)
  else if anyBad (fun _ g => !p.kindOk g) then some (0x24, k)
  else if anyBad (fun _ g => 96 < g.first + g.count) then some (0x20, k)
  else if anyBad (fun i g => (gs.take i).any (fun h => h.overlaps g)) then some (0x21, k)
  else none

/-- Check 18. -/
def Plan.check18 (p : Plan) (healthy : Nat) : Verdict :=
  let k := p.recIdx 3 0
  if !p.worksAt 0 then some (0x22, k)
  else if 96 < p.furrowTotal ∨ healthy < p.furrowTotal then some (0x23, k)
  else none

/-! ### Check 19: routes (R36, R392) -/

/-- A group by its number. -/
def Plan.group? (p : Plan) (n : Nat) : Option GroupRec := p.groups.find? (fun g => g.group = n)

/-- An endpoint that exists (Table 2.8, R392): its carrier, whether it is a source, and whether its rate is Fs. -/
def Plan.endpoint (p : Plan) (code : Nat) : Option (Carrier × Bool × Bool) :=
  if code < 0x80 ∨ 0x87 < code then none
  else
    let c := Carrier.ofIdx (code % 2)
    match p.carrier c with
    | none => none
    | some cr =>
      let fec := (p.fec c).isSome
      match (code - 0x80) / 2 with
      | 0 => if cr.rx then some (c, true, true) else none
      | 1 => if cr.tx then some (c, false, true) else none
      | 2 => if cr.tx && fec then some (c, true, false) else none
      | _ => if cr.rx && fec then some (c, false, false) else none

/-- What a route's source is: its carrier, its rate, and whether it is a group; none where it may not be a source. -/
def Plan.routeSrc (p : Plan) (r : RouteRec) : Option (Carrier × Nat × Bool) :=
  if r.srcPort ≠ 0 then none
  else if r.src < 0x80 then
    match p.group? r.src with
    | none => none
    | some g => match kindRow g.kind, p.carrier g.carrier with
      | some k, some cr => some (g.carrier, cr.speed k.outFs, true)
      | _, _ => none
  else match p.endpoint r.src with
    | some (c, true, fs) => (p.carrier c).map (fun cr => (c, cr.speed fs, false))
    | _ => none

/-- What a route's destination is: its carrier, its rate, and whether it is input 1 of RX_NLCJ. -/
def Plan.routeDst (p : Plan) (r : RouteRec) : Option (Carrier × Nat × Bool) :=
  if r.dst < 0x80 then
    match p.group? r.dst with
    | none => none
    | some g => match kindRow g.kind, p.carrier g.carrier with
      | some k, some cr =>
        if r.dstPort < k.inputs then some (g.carrier, cr.speed k.inFs, g.kind = 0x13 && r.dstPort = 1) else none
      | _, _ => none
  else match p.endpoint r.dst with
    | some (c, false, fs) => if r.dstPort = 0 then (p.carrier c).map (fun cr => (c, cr.speed fs, false)) else none
    | _ => none

/-- Inputs that must be fed by exactly one route: every group input, and every DAC and DEC sink that exists. -/
def Plan.mustFeed (p : Plan) : List (Nat × Nat) :=
  p.groups.flatMap (fun g => match kindRow g.kind with
    | some k => (List.range k.inputs).map (fun i => (g.group, i))
    | none => [])
  ++ ([0x82, 0x83, 0x86, 0x87].filter (fun e => (p.endpoint e).isSome)).map (fun e => (e, 0))

/-- Whether a route joins what may be joined: equal rates, one carrier, but for input 1 of RX_NLCJ. -/
def Plan.routeRateOk (p : Plan) (r : RouteRec) : Bool :=
  match p.routeSrc r, p.routeDst r with
  | some (sc, sr, sg), some (dc, dr, x) => sr = dr && (if x then sg && sc ≠ dc else sc = dc)
  | _, _ => false

/-- One round of removing groups that no remaining group feeds. -/
def pruneGroups (routes : List RouteRec) (live : List Nat) : List Nat :=
  live.filter (fun g => routes.any (fun r => r.dst = g && live.contains r.src))

/-- Whether the routes form a cycle: some groups remain however often the unfed ones are removed. -/
def Plan.routeCycle (p : Plan) : Bool :=
  !((List.range 32).foldl (fun live _ => pruneGroups p.routes live) (p.groups.map (·.group))).isEmpty

/-- Check 19. -/
def Plan.check19 (p : Plan) : Verdict :=
  let k := p.recIdx 4 0
  if p.routes.any (fun r => (p.routeSrc r).isNone || (p.routeDst r).isNone) then some (0x28, k)
  else if p.mustFeed.any (fun d => (p.routes.filter (fun r => r.dst = d.1 && r.dstPort = d.2)).length ≠ 1) then some (0x29, k)
  else if p.routes.any (fun r => !p.routeRateOk r) then some (0x2A, k)
  else if p.routeCycle then some (0x2B, k)
  else none

/-! ### Checks 20 to 23 -/

/-- Check 20: engines within the carrier's healthy ones. -/
def Plan.check20 (p : Plan) (engines : Carrier → Nat) : Verdict :=
  p.perCarrier 0x30 5 fun c => match p.fec c with
    | some f => engines c < f.engines
    | none => false

/-- Check 21: FORM matches the kind of the carrier's NLC groups, of which there is one (R40). While region 7 is beyond repair,
plans with SHAPING_TABLE or NLC groups are rejected here (Table 18.3). -/
def Plan.check21 (p : Plan) (noShape : Bool) : Verdict :=
  if noShape && (p.has 0x0A 0 || p.has 0x0A 1) then some (0x33, p.recIdx 0x0A (if p.has 0x0A 0 then 0 else 1))
  else if noShape && p.groups.any (fun g => g.kind = 0x12 || g.kind = 0x13) then some (0x33, p.recIdx 3 0)
  else p.perCarrier 0x33 0x0B fun c => match p.rec? 0x0B c.idx with
    | none => false
    | some r =>
      let form := min 1 (r.le 0 1)
      let gs := p.groups.filter (fun g => g.carrier = c && (g.kind = 0x12 || g.kind = 0x13))
      gs.isEmpty || gs.any (fun g => g.kind ≠ 0x12 + form)

/-- The lanes of a port. -/
def PortRec.laneList (q : PortRec) : List Nat := (List.range q.lanes).map (q.firstLane + ·)

/-- Check 22 (R37). While region 3 is beyond repair, plans with CLIENT_PORT records are rejected (Table 18.3). -/
def Plan.check22 (p : Plan) (noClient : Bool) : Verdict :=
  let ports := p.recs.zipIdx.filterMap (fun x => if x.1.typ = 8 then (p.port x.1.inst).map (fun q => (x.2, q)) else none)
  let countBad (q : PortRec) : Bool := lanesOf q.rate q.laneRate ≠ some q.lanes || 16 < q.firstLane + q.lanes
  let hit (i : Nat) (q : PortRec) : Bool :=
    (ports.take i).any (fun m => m.2.laneList.any (fun l => q.laneList.contains l))
  match ports.find? (fun x => noClient || countBad x.2) with
  | some x => some (0x3C, x.1)
  | none => (ports.zipIdx.find? (fun x => hit x.2 x.1.2)).map (fun x => (0x3D, x.1.1))

/-- Whether a list of slots has no repeats. -/
def noRepeats (l : List Nat) : Bool := l.eraseDups.length = l.length

/-- Whether a port's slots agree with Table 2.12 (R38): on one carrier but in JOINT; in PROTECTED on each carrier. -/
def Plan.portSlotsOk (p : Plan) (n : Nat) : Bool :=
  match p.port n with
  | none => false
  | some q =>
    let a := (p.portSlots .A n).length
    let b := (p.portSlots .B n).length
    let want := slotsOf q.rate
    if p.mode = 2 then a = want && b = want
    else a + b = want && (p.mode = 1 || a = 0 || b = 0)

/-- Whether a port holds the same slots on both carriers. -/
def Plan.sameSlots (p : Plan) (n : Nat) : Bool :=
  (p.portSlots .A n).all (fun k => (p.portSlots .B n).contains k)
    && (p.portSlots .B n).all (fun k => (p.portSlots .A n).contains k)

/-- Check 23 (R38). -/
def Plan.check23 (p : Plan) : Verdict :=
  let k := p.recIdx 7 0
  let mapped := p.has 7 0
  let forward2 := p.mode = 4 || (p.mode = 6 && (p.frame.map (·.forward)) = some 2)
  if !noRepeats (p.slots .A) || !noRepeats (p.slots .B) then some (0x38, k)
  else if mapped && p.runs.any (fun r => !p.has 8 r.port) then some (0x3A, k)
  else if mapped && p.mode ≠ 2 && p.portList.any (fun n => !p.portSlotsOk n) then some (0x3A, k)
  else if mapped && p.mode = 2 && p.portList.any (fun n => !p.sameSlots n || !p.portSlotsOk n) then some (0x3B, k)
  else if (p.slots .A).any (fun x => p.capacity .A ≤ x) || (p.slots .B).any (fun x => p.capacity .B ≤ x) then some (0x39, k)
  else if forward2 && p.capacity .A ≠ p.capacity .B then some (0x39, 0xFFFF)
  else none

/-- Checks 14 to 23 of a plan: the majors supported, healthy furrows and engines, and lost memory regions come from the part. -/
def Plan.checks (p : Plan) (majMin majMax healthy : Nat) (engines : Carrier → Nat) (lost : List Nat) : Verdict :=
  p.check14 <|> p.check15 majMin majMax <|> p.check16 <|> p.check17 <|> p.check18 healthy <|> p.check19
    <|> p.check20 engines <|> p.check21 (lost.contains 7) <|> p.check22 (lost.contains 3) <|> p.check23

/-! ### Check 24 (R49) -/

/-- Whether a record type may change in a hitless re-plan. -/
def hitlessFree (t : Nat) : Bool := t = 3 || t = 4 || t = 9 || t = 0x0A || t = 0x0B

/-- The records that a hitless re-plan must leave alone. -/
def Plan.fixed (p : Plan) : List Rec := p.recs.filter (fun r => !hitlessFree r.typ)

/-- The first record of the new plan that is not in the running one, if any. -/
def Plan.changed (new run : Plan) : Option Nat :=
  firstIdx new.recs (fun _ r => !hitlessFree r.typ && !run.recs.contains r)

/-- Whether a group of the running plan is the same (R49). -/
def GroupRec.same (g h : GroupRec) : Bool :=
  g.group = h.group && g.kind = h.kind && g.carrier = h.carrier && g.first = h.first && g.count = h.count

/-- The new groups of a re-plan (R49). -/
def Plan.newGroups (new run : Plan) : List GroupRec := new.groups.filter (fun g => !run.groups.any (fun h => g.same h))

/-- Check 24 (R49): the running plan, its epoch register and the headroom. -/
def Plan.check24 (new : Plan) (running : Option Plan) (runEpoch headroom : Nat) : Verdict :=
  match running with
  | none => some (0x40, 0xFFFF)
  | some run =>
    if new.epoch ≤ runEpoch then some (0x08, 0xFFFF)
    else if new.major ≠ run.major then some (0x41, 0xFFFF)
    else if new.mode ≠ run.mode then some (0x40, 0xFFFF)
    else match new.changed run with
      | some k => some (0x40, k)
      | none =>
        if run.fixed.any (fun r => !new.recs.contains r) then some (0x40, 0xFFFF)
        else if headroom < ((new.newGroups run).map (·.count)).foldl (· + ·) 0 then some (0x42, new.recIdx 3 0)
        else none

/-! ### The running plan -/

/-- The running plan's CARRIER record of a carrier. -/
def State.runCarrier (s : State) (c : Carrier) : Option CarrierRec := s.plan.running.bind (·.carrier c)

/-- Subcarriers of a carrier in the running plan; 0 where it is not in use. -/
def State.subCount (s : State) (c : Carrier) : Nat := ((s.runCarrier c).map (·.subs)).getD 0

/-- The running plan's FEC record of a carrier. -/
def State.runFec (s : State) (c : Carrier) : Option FecRec := s.plan.running.bind (·.fec c)

/-- Whether the running plan has a group of a kind on a carrier. -/
def State.hasKind (s : State) (c : Carrier) (kind : Nat) : Bool := s.plan.bound.any (fun b => b.carrier = c && b.kind = kind)

/-- The running mode (Table 1.5). -/
def State.mode (s : State) : Nat := s.get F.GLOBAL_MODE.MODE

end Sys2Proof.Machine
end

