-- ==== Sys2Proof/Machine/Operands.lean ====
section
/-!
DEFINITION. The forms a register access takes: legal values (R8 to R10), writes by access type (R3), reads with derived fields
(R25, R253, R369), wide values with shadows and staging copies (R11 to R13).
-/
namespace Sys2Proof.Machine

/-- The highest index of a condition kind of Gleaner (R307): kinds 2, 3 and 7 name 4 things, kinds 5 and 6 two, kind 4 one. -/
def condTop : Nat → Nat
  | 2 => 3
  | 3 => 3
  | 4 => 0
  | 5 => 1
  | 6 => 1
  | 7 => 3
  | _ => 7

/-- The legal value nearest to a written one (R8 to R10); `w` is the word written so far, for limits set by another field. -/
def Legal.apply (l : Legal) (width v : Nat) (w : Word) : Nat :=
  match l with
  | .any => v
  | .between lo hi => clampN lo hi v
  | .signed lo hi => ofSigned width (clampI lo hi (toSigned width v))
  | .odd lo hi => let u := clampN lo hi v; if u % 2 = 0 then u - 1 else u
  | .upTo mn hi lo delta => max mn (min v (bitsOf w hi lo - delta))
  | .diagChannel => if v ≤ 23 then v else 29
  | .laneWidth => if v ≤ 1 then 1 else if v ≤ 3 then 2 else if v ≤ 6 then 4 else 8
  | .zeroOrTwoUp => if v = 1 then 0 else v
  | .wakeDomain => if 3 ≤ v ∧ v ≤ 25 then v else 3
  | .gleanCond => v / 8 * 8 + min (v % 8) (condTop (v / 8))

/-- One field of a written word, by its access type (R3): `old` is the register, `new` the word written, `acc` the word
built so far. `rws` says whether an RWS field accepts the write. -/
def writeField (rws : Bool) (old new acc : Word) (f : FieldSpec) : Word :=
  let o := bitsOf old f.hi f.lo
  let n := bitsOf new f.hi f.lo
  let k := f.hi + 1 - f.lo
  match f.acc with
  | .rw => withBits acc f.hi f.lo (f.legal.apply k n acc)
  | .rws => if rws then withBits acc f.hi f.lo (f.legal.apply k n acc) else acc
  | .w1c => withBits acc f.hi f.lo (BitVec.ofNat 32 o &&& ~~~ BitVec.ofNat 32 n).toNat
  | .w1s => withBits acc f.hi f.lo (BitVec.ofNat 32 o ||| BitVec.ofNat 32 n).toNat
  | .ro => acc
  | .wo => acc
  | .rc => acc

/-- The word a register holds after a write (R3, R4): fields in descending order, so that a limit set by a higher field is
the new one. -/
def Row.written (r : Row) (rws : Bool) (old new : Word) : Word :=
  r.fields.foldl (fun acc f => writeField rws old new acc f) old

/-- Whether a row has a field of an access type. -/
def Row.has (r : Row) (a : Access) : Bool := r.fields.any (fun f => f.acc == a)

/-- The register after a read: RC fields take their reset value (R3). -/
def Row.afterRead (r : Row) (old : Word) : Word :=
  r.fields.foldl (fun acc f =>
    match f.acc with
    | .rc => withBits acc f.hi f.lo (bitsOf (BitVec.ofNat 32 r.reset) f.hi f.lo)
    | _ => acc) old

/-- What software reads: WO fields read 0 (R3). -/
def Row.visible (r : Row) (w : Word) : Word :=
  r.fields.foldl (fun acc f =>
    match f.acc with
    | .wo => withBits acc f.hi f.lo 0
    | _ => acc) w

/-- Key of a path's copy of a wide value's word (R12). -/
def wideKey (p : Path) (a : Nat) : Nat := p.idx * 0x8000000 + a

/-- The shadow of a wide value's upper word for a path (R11); zero after reset. -/
def State.shadow (s : State) (p : Path) (a : Nat) : Word := Store.read (fun _ => 0) s.shadows (wideKey p a)

/-- Latches one upper word into a path's shadow. -/
def State.latch (s : State) (p : Path) (a : Nat) (w : Word) : State :=
  { s with shadows := Store.write (fun _ => 0) s.shadows (wideKey p a) w }

/-- The staging copy of a lower word for a path (R13); zero after reset. -/
def State.staged (s : State) (p : Path) (a : Nat) : Word := Store.read (fun _ => 0) s.staging (wideKey p a)

/-- Holds a lower word in a path's staging copy. -/
def State.stage (s : State) (p : Path) (a : Nat) (w : Word) : State :=
  { s with staging := Store.write (fun _ => 0) s.staging (wideKey p a) w }

/-- The wide values of BAR0 (R11): the low word's address and the number of words. -/
def wideOf (a : Nat) : Option (Nat × Nat) :=
  let inRange (base n stride w : Nat) : Option (Nat × Nat) :=
    if base ≤ a ∧ a < base + n * stride then
      let off := (a - base) % stride
      if off < 4 * w then some (a - off, w) else none
    else none
  let firstSome (l : List (Option (Nat × Nat))) : Option (Nat × Nat) := (l.filterMap id).head?
  match blockOf a with
  | 0x0C => firstSome [inRange 0x600120 4 8 2, inRange 0x640120 4 8 2]
  | 0x10 => firstSome ((List.range 16).map (fun n => inRange (0x801060 + 0x100 * n) 3 8 2))
  | 0x12 => firstSome ((List.range 16).map (fun p => inRange (0x901040 + 0x100 * p) 6 8 2))
  | 0x14 => firstSome ([inRange 0xA00020 1 16 4, inRange 0xA00030 1 16 4]
      ++ (List.range 4).map (fun n => inRange (0xA02010 + 0x40 * n) 1 16 4)
      ++ (List.range 2).map (fun m => inRange (0xA03010 + 0x40 * m) 1 16 4))
  | 0x20 => firstSome ((List.range 4).flatMap (fun u =>
      [inRange (0x10010C0 + 0x400 * u) 1 16 4, inRange (0x10010E8 + 0x400 * u) 1 8 2])
      ++ [inRange 0x1008400 32 8 2])
  | 0x25 => firstSome ((List.range 64).map (fun i => inRange (0x1281008 + 16 * i) 1 8 2))
  | _ => none

/-- `GLOBAL_INT_SUMMARY_LO` and `_HI` as they read (R25): bit n follows block n, VECTOR bit k the cause of vector 0x30 + k. -/
def State.summaryBits (s : State) (base n : Nat) : Nat :=
  (List.range n).foldl (fun a i => if s.cause (base + i) then a + 2 ^ i else a) 0

/-- The low summary word. -/
def State.summaryLo (s : State) : Word := BitVec.ofNat 32 (s.summaryBits 0 32)

/-- The high summary word. -/
def State.summaryHi (s : State) : Word := BitVec.ofNat 32 (s.summaryBits 0x20 7 + s.summaryBits 0x30 16 * 0x10000)

/-- Whether INT_N is low (R27): any bit of (summary & `GLOBAL_INTN_ENABLE_*`). -/
def State.intN (s : State) : Bool :=
  (s.summaryLo &&& s.rd R.GLOBAL_INTN_ENABLE_LO) != 0 || (s.summaryHi &&& s.rd R.GLOBAL_INTN_ENABLE_HI) != 0

/-- The four words of a time value (R185): fraction in [31:16] of the low word, nanoseconds, seconds low, seconds high. -/
def timeWord (t : Clock) (i : Nat) : Word :=
  match i with
  | 0 => BitVec.ofNat 32 (t.frac / 2 ^ 16 * 2 ^ 16)
  | 1 => BitVec.ofNat 32 t.ns
  | 2 => BitVec.ofNat 32 t.sec
  | _ => BitVec.ofNat 32 (t.sec / 2 ^ 32)

/-! ### Windows that are not plain register words (R57 to R59, R64, R65) -/

/-- The NLC bank of a carrier that is active, or the shadow one. -/
def State.nlcBank (s : State) (c : Carrier) (active : Bool) : Store Word :=
  if s.on (F.FURROW_RX_NLC_CTRL.ACTIVE_BANK c) = active then (s.rx.at c).bank1 else (s.rx.at c).bank0

/-- Words of a tap shadow in use: 16 filters of 17 words (R64). -/
def tapWords : Nat := 272

/-- A subcarrier's tap shadow word. -/
def State.tapWord (s : State) (c : Carrier) (sub w : Nat) : Word :=
  if w < tapWords then Store.read (fun _ => 0) (nth (s.rx.at c).tapShadow sub []) w else 0

/-- The subcarrier whose receive or transmit window holds an address, with its carrier (Table 3.1). -/
def subWindow (a : Nat) : Option (Carrier × Nat) :=
  let c := Carrier.ofIdx ((a - 0x240000) / 0x20000 % 2)
  let off := (a - 0x240000) % 0x20000
  if a < 0x240000 ∨ 0x280000 ≤ a then none
  else if 0x1000 ≤ off ∧ off < 0x2000 then some (c, (off - 0x1000) / 0x100)
  else if 0x10000 ≤ off ∧ off < 0x18000 then some (c, (off - 0x10000) / 0x800)
  else if 0xD000 ≤ off ∧ off < 0xD400 then some (c, (off - 0xD000) / 0x40)
  else none

/-- Whether an address lies in a window of a subcarrier the carrier does not have: it reads 0 and ignores writes (R65). -/
def State.absentSub (s : State) (a : Nat) : Bool :=
  match subWindow a with
  | some (c, k) => s.subCount c ≤ k
  | none => false

/-- RAMPING of a transmit subcarrier's power: the applied offset is not the target (R93). -/
def State.powerRamping (s : State) (c : Carrier) (k : Nat) : Bool :=
  s.get (F.FURROW_TX_SC_POWER.APPLIED c k) != s.get (F.FURROW_TX_SC_POWER.OFFSET c k)

/-- The depth that headland injection moves towards: DEPTH while HL_INJECT is 1, else 0 (R85). -/
def State.depthTarget (s : State) (c : Carrier) : Nat :=
  if s.on (F.FURROW_TX_CTRL.HL_INJECT c) then s.get (F.FURROW_TX_HL.DEPTH c) else 0

/-- RAMPING of headland injection (R92). -/
def State.depthRamping (s : State) (c : Carrier) : Bool := s.get (F.FURROW_TX_HL.APPLIED c) != s.depthTarget c

/-- A word with the RAMPING bit (bit 16) as derived. -/
def withRamping (w : Word) (r : Bool) : Word := withBits w 16 16 (if r then 1 else 0)

/-! ### Stages behind the furrow windows (R51, R74) -/

/-- The stage kinds behind the status fields of a word of a carrier's window; none for a word of controls alone (Tables 2.7 and 3.1,
chapter 4). -/
def stageKinds (off : Nat) : List Nat :=
  if off < 0x1000 then
    match off with
    | 0x04 => [0x10, 0x11, 0x12, 0x13, 0x14, 0x15, 0x16, 0x21]
    | 0x08 => [0x10, 0x11, 0x12, 0x13, 0x14, 0x15, 0x16, 0x21]
    | 0x74 => [0x10, 0x11, 0x12, 0x13, 0x14, 0x15, 0x16, 0x21]
    | 0x18 => [0x10, 0x11]
    | 0x20 => [0x12, 0x13]
    | 0x24 => [0x12, 0x13]
    | 0x2C => [0x12, 0x13]
    | 0x34 => [0x15]
    | 0x3C => [0x15]
    | 0x5C => [0x15]
    | 0x50 => [0x14]
    | 0x54 => [0x14]
    | 0x40 => [0x16, 0x21]
    | 0x44 => [0x16, 0x21]
    | 0x48 => [0x16, 0x21]
    | 0x58 => [0x16, 0x21]
    | _ => []
  else if off < 0x2000 then (if off % 0x100 = 8 then [0x16, 0x21] else [0x14])
  else if 0xC000 ≤ off ∧ off < 0xC100 then
    match off with
    | 0xC004 => [1]
    | 0xC00C => [2]
    | 0xC010 => [1]
    | 0xC014 => [1]
    | 0xC018 => [1]
    | 0xC01C => [1]
    | 0xC040 => [2]
    | 0xC044 => [2]
    | 0xC048 => [1, 2]
    | _ => []
  else if 0xD000 ≤ off ∧ off < 0xD400 then [1]
  else []

/-- Whether a stage of some kinds runs on a carrier: a running group of such a kind with its furrow groups powered. -/
def State.stageRuns (s : State) (c : Carrier) (kinds : List Nat) : Bool :=
  s.plan.bound.any fun b => b.carrier = c && kinds.contains b.kind && b.furrows.all fun f => s.domOn (6 + f / 8)

/-- Whether the stage behind a word of a carrier's window is not running: its status fields read 0 (R51, R74). -/
def State.idleStage (s : State) (a : Nat) : Bool :=
  let kinds := stageKinds ((a - 0x240000) % 0x20000)
  0x240000 ≤ a && a < 0x280000 && !kinds.isEmpty && !s.stageRuns (Carrier.ofIdx ((a - 0x240000) / 0x20000)) kinds

/-- A word whose status fields read 0: only what software writes stays. -/
def Row.idle (r : Row) (w : Word) : Word :=
  r.fields.foldl (fun acc f =>
    match f.acc with
    | .ro => withBits acc f.hi f.lo 0
    | .rc => withBits acc f.hi f.lo 0
    | _ => acc) w

/-- A latency of the running plan in 2^−8 ns: 0 the receive chain's, 1 the transmit chain's, 2 the encoder's, 3 the decoder's; 0 where
the carrier has no such stage (R70, R92, R121, log 68). -/
def State.latency (s : State) (chain : Nat) (c : Carrier) : Nat :=
  match s.plan.running with
  | none => 0
  | some (p : Plan) =>
    let runs := match chain with
      | 0 => s.stageRuns c [0x10, 0x11, 0x14, 0x15, 0x16, 0x21]
      | 1 => s.stageRuns c [1, 2]
      | 2 => ((p.carrier c).map CarrierRec.tx).getD false && (p.fec c).isSome
      | _ => ((p.carrier c).map CarrierRec.rx).getD false && (p.fec c).isSome
    let taps := if chain = 0 then (List.range (s.subCount c)).map (fun k => nth (s.rx.at c).tapsInUse k 21) else []
    if runs then Config.latency chain (p.recs.map fun (r : Rec) => (r.typ, r.inst, r.body)) c taps % 2 ^ 32 else 0

/-- The latency register at an address, if it is one: the chain and the carrier. -/
def latencyAt (a : Nat) : Option (Nat × Carrier) :=
  [Carrier.A, Carrier.B].findSome? fun c =>
    if a = R.FURROW_RX_LATENCY c then some (0, c) else if a = R.FURROW_TX_LATENCY c then some (1, c)
    else if a = R.FEC_LAT_ENC c then some (2, c) else if a = R.FEC_LAT_DEC c then some (3, c) else none

/-- ACTIVE of headland injection: the modem sends on this carrier (R92, R213). -/
def State.headlandActive (s : State) (c : Carrier) : Bool :=
  s.on F.HEADLAND_TX_CTRL.BUSY && s.get F.HEADLAND_TX_CTRL.CARRIER = c.idx

/-- `FURROW_TX_HL` with RAMPING and ACTIVE as the part derives them. -/
def State.viewHl (s : State) (c : Carrier) : Word :=
  withBits (withRamping (s.rd (R.FURROW_TX_HL c)) (s.depthRamping c)) 24 24 (if s.headlandActive c then 1 else 0)

/-- A word of a carrier's furrow window: fields derived at the read, and no status where the stage is not running. -/
def State.viewFurrow (s : State) (a : Nat) : Word :=
  let c := Carrier.ofIdx ((a - 0x240000) / 0x20000)
  let off := (a - 0x240000) % 0x20000
  let w :=
    if off = 0xC040 then s.viewHl c
    else if 0xD000 ≤ off ∧ off < 0xD400 ∧ off % 0x40 = 8 then withRamping (s.rd a) (s.powerRamping c ((off - 0xD000) / 0x40))
    else s.rd a
  match rowAt a with
  | some r => if s.idleStage a then r.idle (r.visible w) else r.visible w
  | none => 0

/-- A neighbour entry's NODE_ID. -/
def State.nbNode (s : State) (n : Nat) : Nat := s.get (F.LINK_NB_NODE.NODE n)

/-- Whether a node is a local carrier's negotiated peer (R142). -/
def State.isPeer (s : State) (node : Nat) : Bool :=
  node ≠ 0 && ((s.link.at .A).negotiated = some node || (s.link.at .B).negotiated = some node)

/-- What a register word reads as, with the fields the part derives at the read. -/
def State.view (s : State) (a : Nat) : Word :=
  if a = R.GLOBAL_INT_SUMMARY_LO then s.summaryLo
  else if a = R.GLOBAL_INT_SUMMARY_HI then s.summaryHi
  else if a = intStatus 0x1A then s.status 0x1A
  else if a = R.CPU_SWINT_SET then s.rd R.CPU_SWINT
  else if a = R.PLAN_FURROWS then
    withBits (s.rd a) 23 16 (s.healthyFurrows.length - s.get F.PLAN_FURROWS.RUNNING)
  else if a = R.HOSTLANE_QUAD_STATUS then
    withBits (s.rd a) 19 16 ((List.range 4).foldl (fun m q => if s.domOn (21 + q) then m + 2 ^ q else m) 0)
  else if 0xA00020 ≤ a ∧ a < 0xA00030 then timeWord s.clock ((a - 0xA00020) / 4)
  else if 0x708404 ≤ a ∧ a < 0x708484 ∧ a % 8 = 4 then
    withBits (s.rd a) 6 6 (if s.isPeer (s.rd (a - 4)).toNat then 1 else 0)
  else if s.absentSub a then 0
  else if a = R.MSIX_PBA 0 || a = R.MSIX_PBA 1 then
    let first := 32 * ((a - R.MSIX_PBA 0) / 4)
    s.rd a &&& BitVec.ofNat 32 ((List.range 32).foldl (fun m i => if s.cause (first + i) then m + 2 ^ i else m) 0)
  else if (a = R.HEADLAND_DC_LEVEL || a = R.HEADLAND_IN_DET || (0xB01000 ≤ a && a < 0xB01200 && a % 0x40 = 4)) && !s.domOn 26 then 0
  else if (latencyAt a).isSome then
    let (chain, c) := (latencyAt a).getD (0, .A)
    BitVec.ofNat 32 (s.latency chain c)
  else if 0x240000 ≤ a ∧ a < 0x280000 ∧ 0x4000 ≤ (a - 0x240000) % 0x20000 ∧ (a - 0x240000) % 0x20000 < 0xC000 then
    let off := (a - 0x240000) % 0x20000
    let c := Carrier.ofIdx ((a - 0x240000) / 0x20000)
    Store.read (fun _ => 0) (s.nlcBank c (0x8000 ≤ off)) (off % 0x4000 / 4)
  else if 0x240000 ≤ a ∧ a < 0x280000 ∧ 0x10000 ≤ (a - 0x240000) % 0x20000 ∧ (a - 0x240000) % 0x20000 < 0x18000 then
    let off := (a - 0x240000) % 0x20000 - 0x10000
    s.tapWord (Carrier.ofIdx ((a - 0x240000) / 0x20000)) (off / 0x800) (off % 0x800 / 4)
  else if 0x240000 ≤ a ∧ a < 0x280000 then s.viewFurrow a
  else match rowAt a with
    | some r => r.visible (s.rd a)
    | none => 0

/-! ### Register accesses by a command: down registers (R332) and rights (R292) -/

/-- An access to a register that is down: logged and counted, and reported by the block once per second (R332). -/
def State.downAccess (s : State) (p : Path) (a : Nat) (write : Bool) : State :=
  let s := s.set F.PWR_ACCESS_DOWN_LOG.BLOCK (blockOf a)
  let s := s.setB F.PWR_ACCESS_DOWN_LOG.WRITE write
  let s := s.set F.PWR_ACCESS_DOWN_LOG.PATH (logCode p)
  let s := s.set F.PWR_ACCESS_DOWN_LOG.OFFSET (a - blockBase (blockOf a))
  let s := s.bump F.PWR_ACCESS_DOWN_COUNT.COUNT
  (s.raise 0x22 2).eventOncePerSecond (blockOf a * 256 + 0xF2)

/-- A read of a register that is down: 0xFFFF_FFFF, which a wide value's low word also latches into its shadow (R332, R11). -/
def State.downRead (s : State) (p : Path) (a : Nat) : State :=
  let s := match wideOf a with
    | some (lo, n) => if a = lo then (List.range (n - 1)).foldl (fun (s : State) i => s.latch p (lo + 4 * (i + 1)) 0xFFFFFFFF) s else s
    | none => s
  { s.downAccess p a false with readData := 0xFFFFFFFF }

/-- What a path gets whose access Hedge does not carry out: no answer while it restarts, NAK STATE from the ROM. -/
def State.unanswered (s : State) (p : Path) : State := if s.sec.hedge = .romOnly then s.answer p (some 0x16) else s

/-- A write of a plain RW register over a path: discarded if the register is down (R332), refused if the path has no right
to write (R292). -/
def State.rwWrite (s : State) (p : Path) (a : Nat) (k : State → State) : State :=
  if s.unheard p true then s.unanswered p
  else if s.isDown a then s.downAccess p a true
  else if s.rwAllowed p then k s
  else s.refuseRight p

/-- A write of an RWS register of a least role: discarded and counted below it (R292). -/
def State.rwsWrite (s : State) (p : Path) (a least : Nat) (k : State → State) : State :=
  if s.unheard p true then s.unanswered p
  else if s.isDown a then s.downAccess p a true
  else if !s.rwAllowed p then s.refuseRight p
  else if s.rwsAllowed p least then k s
  else s.rwsDropped p

end Sys2Proof.Machine
end

