-- ==== Sys2Proof/Machine/AnaOps.lean ====
section
/-!
DEFINITION. Operations shared by the converters and the control loops (chapters 11 and 12): which loops are closed and what they
use (R245, R229), spans and safe values (R232, R234), the sine term (R236), and loop hand-overs (R246).
-/
namespace Sys2Proof.Machine

/-! ### Internal state -/

/-- Updates ADC-A's internal state. -/
def State.onAdc (s : State) (f : AdcSt → AdcSt) : State := { s with ana := { s.ana with adc := f s.ana.adc } }

/-- A PDAC channel beyond its registers. -/
def State.dac (s : State) (k : Nat) : PdacSt := nth s.ana.pdac k {}

/-- Updates a PDAC channel. -/
def State.onDac (s : State) (k : Nat) (f : PdacSt → PdacSt) : State :=
  { s with ana := { s.ana with pdac := s.ana.pdac.modify k f } }

/-- A loop beyond its registers. -/
def State.lp (s : State) (n : Nat) : LoopSt := nth s.ana.loops n {}

/-- Updates a loop. -/
def State.onLoop (s : State) (n : Nat) (f : LoopSt → LoopSt) : State :=
  { s with ana := { s.ana with loops := s.ana.loops.modify n f } }

/-- OFS and G of a channel and gain are committed together (R228). -/
def State.commitPair (s : State) (j : Nat) (ofs g : Word) : State :=
  let s := (s.wr (R.HKADC_CAL_OFS j) ofs).wr (R.HKADC_CAL_G j) g
  s.onAdc fun a => { a with ofs := Store.write (fun _ => 0) a.ofs j ofs }

/-! ### Loops (R245) -/

/-- A loop's state: 0 OFF, 1 MANUAL, 2 HOLD, 3 CLOSED_A, 4 CLOSED_B. -/
def State.loopState (s : State) (n : Nat) : Nat := s.get (F.LOOP_STATUS.STATE n)

/-- Why a loop is in HOLD. -/
def State.holdCause (s : State) (n : Nat) : Nat := s.get (F.LOOP_STATUS.HOLD_CAUSE n)

/-- Whether a loop is closed: CLOSED_A or CLOSED_B, or HOLD with cause 1 and AUTO_RECLOSE (R245). -/
def State.closed (s : State) (n : Nat) : Bool :=
  s.loopState n = 3 || s.loopState n = 4
    || (s.loopState n = 2 && s.holdCause n = 1 && s.on (F.LOOP_CTRL.AUTO_RECLOSE n))

/-- Whether a closed loop uses an ADC-A channel: an entry that it reads names the channel (R229). -/
def State.channelInUse (s : State) (ch : Nat) : Bool :=
  (List.range 16).any fun n =>
    s.closed n && (s.get (F.HKADC_ENTRY.CHANNEL (s.get (F.LOOP_INPUT.FB_ENTRY n))) = ch
      || (s.on (F.LOOP_INPUT.AUX_EN n) && s.get (F.HKADC_ENTRY.CHANNEL (s.get (F.LOOP_INPUT.AUX_ENTRY n))) = ch))

/-- Whether a closed loop drives a PDAC channel (R234). -/
def State.dacInLoop (s : State) (k : Nat) : Bool :=
  (List.range 16).any fun n => s.closed n && s.get (F.LOOP_CTRL.PDAC n) = k

/-- A flag of a loop starts the last POST words of the buffers that record it (R251). -/
def State.traceEvent (s : State) (n : Nat) : State :=
  (List.range 4).foldl (fun s b =>
    if s.on (F.LOOP_TRACE_CTRL.RUN b) && s.on (F.LOOP_TRACE_CTRL.STOP_ON_EVENT b) && s.get (F.LOOP_TRACE_CTRL.LOOP b) = n
        && (nth s.ana.traces b {}).post = none then
      { s with ana := { s.ana with traces := s.ana.traces.set b { post := some (s.get (F.LOOP_TRACE_CTRL.POST b)) } } }
    else s) s

/-- Sets a bit of a loop's FLAGS with its event code 0x1A00 + (b + 1) × 16 + n; DL_MISS and FE_TRIP at most once per second
(R253). The block's message follows the flags that are enabled; the loop's trace buffers meet their stopping event. -/
def State.loopFlag (s : State) (n b : Nat) : State :=
  let s := (s.msixEdge (s.set ⟨R.LOOP_FLAGS n, b, b⟩ 1) 0x1A).traceEvent n
  let code := 0x1A00 + (b + 1) * 16 + n
  if b = 2 || b = 3 then s.eventOncePerSecond code else s.event code

/-! ### Spans and safe values (R232, R234) -/

/-- A span's limits in mV. -/
def spanLow : Nat → Nat
  | 2 => 1250
  | _ => 0
def spanHigh : Nat → Nat
  | 0 => 2500
  | 1 => 5000
  | _ => 3750

/-- The code nearest to a voltage in a span. -/
def mvCode (span mv : Nat) : Nat :=
  let lo := spanLow span
  let w := spanHigh span - lo
  let v := clampN lo (spanHigh span) mv - lo
  min 65535 ((2 * v * 65536 + w - 1) / (2 * w))

/-- The channel's safe code in its current span. -/
def State.safeCode (s : State) (k : Nat) : Nat := mvCode (s.dac k).span (s.get (F.PDAC_CH_SAFE.SAFE_MV k))

/-- Whether a channel is held at its safe value: over-temperature, feedback loss, or a shut-down (R234, R237, Table 16.9). -/
def State.heldSafe (s : State) (k : Nat) : Bool :=
  s.shut || (s.on F.PDAC_OT_STATUS.LATCHED && s.on (F.PDAC_CH_CFG.OT_SAFE k)) || (s.dac k).lossSafe

/-- SHUTDOWN_DONE follows HALTED once every precision output has reached its safe value (Table 16.9). -/
def State.shutdownDone (s : State) : State :=
  if s.power.shutOwes && (List.range 20).all (fun k => s.get (F.PDAC_CH_CODE.APPLIED k) = s.safeCode k) then
    (s.onPower fun w => { w with shutOwes := false }).raiseEvent 0x22 5 0x2206
  else s

/-! ### Sine (R236) -/

/-- The sine of an accumulator, 1/65,536: two quadrant bits and ten index bits of the quarter-wave table. -/
def sineOf (phase : Word) : Int :=
  let top := bitsOf phase 31 20
  let i := top % 1024
  match top / 1024 with
  | 0 => Config.sineTable i
  | 1 => Config.sineTable (1023 - i)
  | 2 => -(Config.sineTable i : Int)
  | _ => -(Config.sineTable (1023 - i) : Int)

/-- The nearest whole number of 1/65,536ths, the lower of two equally near (R9). -/
def round16 (x : Int) : Int := roundHalfDown x 65536

/-- 50 MHz cycles pass: every generator's accumulator advances by FTW in each (R236). -/
def State.sineAdvance (s : State) (cycles : Nat) : State :=
  (List.range 4).foldl (fun s g => s.wrapAdd (F.PDAC_SINE_PHASE.VALUE g) (cycles * s.get (F.PDAC_SINE_FTW.FTW g))) s

/-- A generator's accumulator. -/
def State.sinePhase (s : State) (g : Nat) : Word := s.rd (R.PDAC_SINE_PHASE g)

/-! ### Hand-over (R246) -/

/-- The profile in use: 0 A, 1 B. -/
def State.profile (s : State) (n : Nat) : Nat := if s.loopState n = 4 then 1 else 0

/-- The channel a loop drives. -/
def State.loopDac (s : State) (n : Nat) : Nat := s.get (F.LOOP_CTRL.PDAC n)

/-- A code handed to the loop's channel. -/
def State.handOut (s : State) (n code : Nat) : State :=
  (s.set (F.LOOP_OUT.CODE n) code).onDac (s.loopDac n) fun d => { d with loopCode := some code }

/-- A loop enters the state that MODE selects, without a jump (R246): u0 is the base code that the output stage has reached, or
the nearer limit of the profile with MODE_CLAMP. The checks of a loop that goes OFF or MANUAL start anew; otherwise they go on, so that feedback
can be lost at the first update (R250). -/
def State.handOver (s : State) (n mode : Nat) : State :=
  let k := s.loopDac n
  let u0 : Int := (s.dac k).base * 256
  let s := (s.set (F.LOOP_STATUS.STATE n) mode).set (F.LOOP_STATUS.HOLD_CAUSE n) 0
  let s := s.set (F.LOOP_OUT.GOOD n) 0
  let s := s.onDac k fun d => { d with lossSafe := false }
  let s := s.onLoop n fun l => 
    { l with hist := if mode < 2 then [] else l.hist, wild := if mode < 2 then 0 else l.wild, fe := if mode < 2 then 0 else l.fe,
             out := none, sum := 0, frames := 0, period := 0, due := false }
  if mode = 0 then s.onDac k fun d => { d with loopCode := none }
  else
    let x := mode - 3
    let lo : Int := s.get (F.LOOP_P_OUT_LIM.OUT_MIN n x) * 256
    let hi : Int := s.get (F.LOOP_P_OUT_LIM.OUT_MAX n x) * 256
    let u := if 3 ≤ mode then clampI lo hi u0 else u0
    let s := if u ≠ u0 then (s.bump (F.LOOP_COUNT.CLAMPS n)).loopFlag n 1 else s
    let s := s.onLoop n fun l =>
      { l with u := u, preload := some u, goodOut := (u / 256).toNat, law := s.get (F.LOOP_P_LAW.LAW n x) }
    s.handOut n (u / 256).toNat

/-- A loop is held by the part (Table 12.3). -/
def State.loopHold (s : State) (n cause : Nat) : State :=
  ((s.set (F.LOOP_STATUS.STATE n) 2).set (F.LOOP_STATUS.HOLD_CAUSE n) cause).onLoop n fun l => { l with out := none }

/-- MODE is written (Table 12.3): stored while the part holds the loop for over-temperature or a plan load. -/
def State.modeWrite (s : State) (n mode : Nat) : State :=
  let s := s.set (F.LOOP_CTRL.MODE n) mode
  if s.loopState n = 2 && (s.holdCause n = 2 || s.holdCause n = 4) then s else s.handOver n mode

/-- Whether another loop that is not OFF drives a channel. -/
def State.dacTaken (s : State) (n k : Nat) : Bool :=
  (List.range 16).any fun m => m ≠ n && s.loopState m ≠ 0 && s.loopDac m = k

/-- The channel that a loop drove before its PDAC changed is driven by no loop (R233). -/
def State.releaseDac (s : State) (n old : Nat) : State :=
  if s.loopState n = 0 || s.loopDac n = old then s else s.onDac old fun d => { d with loopCode := none, lossSafe := false }

/-- A write of LOOP_n_CTRL: refused whole while another loop drives its channel, unless it turns the loop OFF (Table 12.3). -/
def State.ctrlWrite (s : State) (n : Nat) (old new w : Word) : State :=
  let mode := min 4 (bitsOf w 2 0)
  if mode ≠ 0 && s.dacTaken n (bitsOf new 28 24) then s.bump (F.LOOP_STATUS.REFUSED n)
  else ((s.wr (R.LOOP_CTRL n) (withBits new 2 0 (bitsOf old 2 0))).releaseDac n (bitsOf old 28 24)).modeWrite n mode

/-- A write of a word of a loop's window (R249): alone, and discarded where the loop is closed or the plan is loading. -/
def State.loopWrite (s : State) (n off : Nat) (w : Word) : State :=
  let a := R.LOOP_CTRL n + off
  match rowAt a with
  | none => s
  | some r =>
    let old := s.rd a
    let new := r.written false old w
    let fixed : List (Nat × Nat) := if off = 0 then [(28, 24), (23, 16)] else if off = 4 then [(7, 4), (3, 0)] else []
    let kept := if s.closed n then fixed.filter (fun (hi, lo) => bitsOf new hi lo ≠ bitsOf old hi lo) else []
    let new := kept.foldl (fun x (hi, lo) => withBits x hi lo (bitsOf old hi lo)) new
    let s := if kept.isEmpty then s else s.bump (F.LOOP_STATUS.REFUSED n)
    if off = 0 then s.ctrlWrite n old new w else s.msixEdge (s.wr a new) 0x1A

/-- The paths whose writes of a loop's window are discarded while the plan loads the loop (R249): CXL and I3C, with their WMP messages, and
Plough. -/
def loopBarred : Path → Bool
  | .cxl => true
  | .plough => true
  | .hedge => false
  | .wmp p => p.val < 2

/-- A write of a loop's window over a path: discarded and counted while the plan loads the loop (R249). -/
def State.loopWritePath (s : State) (p : Path) (n off : Nat) (w : Word) : State :=
  if s.loopState n = 2 && s.holdCause n = 4 && loopBarred p then s.bump (F.LOOP_STATUS.REFUSED n)
  else s.loopWrite n off w

/-! ### Trace buffers (R251) -/

/-- A signal of a loop by its code: raw V, f or for lock-in X, e, u, I, else the code applied to its channel (R251). -/
def State.loopSignal (s : State) (n sig : Nat) : Int :=
  let l := s.lp n
  match sig with
  | 0 => s.get (F.HKADC_RESULT.VALUE (s.get (F.LOOP_INPUT.FB_ENTRY n)))
  | 1 => if s.get (F.LOOP_P_LAW.LAW n (s.profile n)) = 2 then l.x else l.f
  | 2 => l.e
  | 3 => l.u
  | 4 => l.integ
  | _ => s.get (F.PDAC_CH_CODE.APPLIED (s.loopDac n))

/-- Records a word in a running buffer; after the stopping event only POST words more. -/
def State.traceRecord (s : State) (b : Nat) : State :=
  let t := nth s.ana.traces b {}
  if s.on (F.LOOP_TRACE_CTRL.RUN b) && t.post ≠ some 0 then
    let n := s.get (F.LOOP_TRACE_CTRL.LOOP b)
    let v := s.loopSignal n (s.get (F.LOOP_TRACE_CTRL.SIGNAL b))
    let p := s.get (F.LOOP_TRACE_STATUS.WR_PTR b)
    let s := s.wr (R.LOOP_TRACE_DATA b p) (BitVec.ofNat 32 (s.get F.LOOP_FRAME.COUNT % 256 * 2 ^ 24 + ofSigned 24 v))
    let s := s.set (F.LOOP_TRACE_STATUS.WR_PTR b) (p + 1)
    let s := if p = 4095 then s.set (F.LOOP_TRACE_STATUS.WRAPPED b) 1 else s
    { s with ana := { s.ana with traces := s.ana.traces.modify b fun t => { post := t.post.map (· - 1) } } }
  else s

end Sys2Proof.Machine
end

