-- ==== Sys2Proof/Machine/Analogue.lean ====
section
/-!
DEFINITION. ADC-A (R223 to R231) and the precision outputs (R232 to R237).
-/
namespace Sys2Proof.Machine

/-! ### The sequence (R224) -/

/-- The calibration's state: 0 IDLE, 1 ZERO_RUN, 2 ZERO_DONE, 3 FULL_RUN. -/
def State.calState (s : State) : Nat := s.get F.HKADC_CAL_CTRL.STATE

/-- A conversion that begins now, with the coefficients in force (R228). -/
def State.conversion (s : State) (what : ConvFor) (ch gain : Nat) : Conversion :=
  let j := 4 * ch + gain
  ⟨what, ch, gain, toSigned 24 (bitsOf (Store.read (fun _ => 0) s.ana.adc.ofs j) 23 0), s.get (F.HKADC_CAL_G.G j)⟩

/-- A result's fields: entry 0 to 15, or the injected result. -/
def resultWord (e : Nat) : Nat := if e < 16 then R.HKADC_RESULT e else R.HKADC_INJ_RESULT

/-- Written entries lose VALID at the boundary (R224). -/
def State.clearDirty (s : State) : State :=
  let s := s.ana.adc.dirty.foldl (fun s e => s.set (F.HKADC_RESULT.VALID e) 0) s
  s.onAdc fun a => { a with dirty := [] }

/-- LOW_POWER takes effect: at a pass boundary, or at once while no pass runs (R224). -/
def State.takePower (s : State) : State :=
  let lp := s.on F.HKADC_SEQ_CTRL.LOW_POWER
  (s.onAdc fun a => { a with lowPower := lp }).setB F.HKADC_SEQ_STATUS.LP_ACTIVE lp

/-- A pass starts: entries, LENGTH, MODE and LOW_POWER are taken. -/
def State.passStart (s : State) : State :=
  let s := s.clearDirty
  let n := s.get F.HKADC_SEQ_CTRL.LENGTH + 1
  let s := s.onAdc fun a =>
    { a with pass := some ((List.range n).map (fun e => s.rd (R.HKADC_ENTRY e)), 0), mode := s.get F.HKADC_SEQ_CTRL.MODE, late := false }
  (s.set F.HKADC_SEQ_STATUS.RUNNING 1).takePower

/-- The duration of a pass in µs: Σ (T_S + 1.0 µs), four times as long in low-power mode (R223, R224). -/
def passUs (entries : List Word) (lowPower : Bool) : Nat :=
  let tenths := (entries.map (fun w => bitsOf w 15 8 + 11)).foldl (· + ·) 0
  (if lowPower then 4 * tenths else tenths) / 10

/-- What starts without a frame: CONTINUOUS passes back to back, SINGLE once for each START. -/
def State.passKick (s : State) : State :=
  if s.ana.adc.pass.isSome then s
  else match s.get F.HKADC_SEQ_CTRL.MODE with
    | 2 => s.passStart
    | 3 => if 0 < s.ana.adc.starts then (s.onAdc fun a => { a with starts := a.starts - 1 }).passStart else s
    | _ => s

/-- The pass has converted its last entry; a calibration conversion may follow it (R230). -/
def State.passEnd (s : State) (entries : List Word) : State :=
  let s := s.setSat F.HKADC_SEQ_STATUS.PASS_US (passUs entries s.ana.adc.lowPower)
  ((s.set F.HKADC_SEQ_STATUS.RUNNING 0).onAdc fun a => { a with pass := none, calDue := true }).clearDirty.takePower

/-- Whether a calibration step's conversions are still to come: 64 in all (R229). -/
def State.calStepping (s : State) : Bool := (s.calState = 1 || s.calState = 3) && s.ana.adc.calCount < 64

/-- Whether the calibration step converts next (R230): one after each pass, or back to back while the sequence is OFF, or SINGLE with no START
waiting. -/
def State.calReady (s : State) : Bool :=
  s.calStepping && s.ana.adc.pass.isNone
    && (s.ana.adc.calDue || s.get F.HKADC_SEQ_CTRL.MODE = 0 || (s.get F.HKADC_SEQ_CTRL.MODE = 3 && s.ana.adc.starts = 0))

/-- An injected request may run: not during a calibration step, except one that waited when the step was commanded; it runs at once when the step's
last conversion has ended (R230). -/
def State.mayInject (s : State) : Bool :=
  !s.ana.adc.requests.isEmpty && (!s.calStepping || 0 < s.ana.adc.early)

/-- The channel of a diagnosis that has settled at its level and converts next (R231). -/
def State.diagReady (s : State) : Option Nat :=
  match s.ana.adc.diag with
  | some d => if d.wait = 0 && d.results.length < 16 then some d.channel else none
  | none => none

/-- LEVEL shows the requests waiting. -/
def State.showRequests (s : State) : State := s.set F.HKADC_INJ_CTRL.LEVEL s.ana.adc.requests.length

/-- The next entry of the pass begins, a pass that has no more entries ends. -/
def State.nextEntry (s : State) : State :=
  match s.ana.adc.pass with
  | some (es, k) =>
    match es[k]? with
    | some w => s.onAdc fun a =>
      { a with current := some (s.conversion (.entry k) (bitsOf w 4 0) (bitsOf w 17 16)), pass := some (es, k + 1) }
    | none => s
  | none => s

/-- What follows while nothing is injected: the pass, or the calibration step's conversion before the next pass (R230). -/
def State.passNext (s : State) : State :=
  let s := match s.ana.adc.pass with
    | some (es, k) => if es.length ≤ k then s.passEnd es else s
    | none => s
  if s.calReady then
    s.onAdc fun a => { a with current := some (s.conversion .cal a.calChannel a.calGain), calDue := false }
  else s.passKick.nextEntry

/-- The next conversion begins if none is in progress: a waiting request first, then a diagnosis's injected conversion, then the sequence
(R226, R230, R231). -/
def State.convertNext (s : State) : State :=
  if s.ana.adc.current.isSome then s
  else if s.mayInject then
    match s.ana.adc.requests with
    | (ch, g) :: rest => (s.onAdc fun a =>
      { a with current := some (s.conversion .inject ch g), requests := rest, early := a.early - 1 }).showRequests
    | [] => s
  else match s.diagReady with
    | some ch => s.onAdc fun a => { a with current := some (s.conversion .diag ch 0) }
    | none => s.passNext

/-- VALUE of a raw code (R228). -/
def calibrated (raw : Nat) (ofs : Int) (g : Nat) : Nat :=
  (clampI 0 0xFFFFFF ((raw * 4096 - ofs) * g / 2 ^ 22)).toNat

/-- A loop in HOLD with cause 1 counts good samples of its feedback entry (R247). -/
def State.goodSample (s : State) (e raw : Nat) : State :=
  (List.range 16).foldl (fun s n =>
    if s.loopState n = 2 && s.holdCause n = 1 && s.get (F.LOOP_INPUT.FB_ENTRY n) = e then
      if s.get (F.LOOP_PLAUS.PLAUS_MIN n) ≤ raw && raw ≤ s.get (F.LOOP_PLAUS.PLAUS_MAX n) then s.bump (F.LOOP_OUT.GOOD n)
      else s.set (F.LOOP_OUT.GOOD n) 0
    else s) s

/-- A result word is written: TAG, VALID, OVERRUN, VALUE (R225). -/
def State.resultIn (s : State) (e value : Nat) : State :=
  let a := resultWord e
  let unread := s.on ⟨a, 31, 31⟩ && !s.ana.adc.read.contains e
  let s := (s.set ⟨a, 23, 0⟩ value).set ⟨a, 29, 24⟩ (s.get ⟨a, 29, 24⟩ + 1)
  let s := (s.set ⟨a, 31, 31⟩ 1).setB ⟨a, 30, 30⟩ unread
  (s.onAdc fun x => { x with read := x.read.filter (· ≠ e) }).tapped 3 3 e ⟨[value], false⟩

/-- Whether diagnosis holds a channel's ball disconnected (R231). -/
def State.diagOn (s : State) (ch : Nat) : Bool := s.ana.adc.diag.any (fun d => d.channel = ch)

/-- The levels that diagnosis drives, four conversions at each (R231). -/
def diagLevel (conversions : Nat) : Nat := 128 + 256 * (conversions / 4)

/-- A result of the diagnosis; after four it drives its next level, which settles for 20 µs (R231). -/
def State.diagResult (s : State) (value : Nat) : State :=
  let n := (s.ana.adc.diag.map fun d => d.results.length + 1).getD 0
  let next := n % 4 = 0 && n < 16
  let s := s.onAdc fun a =>
    { a with diag := a.diag.map fun d => { d with results := d.results ++ [value], wait := if next then 1000 else 0 } }
  if next then s.set F.HKADC_TESTDAC.CODE (diagLevel n) else s

/-- An entry has converted: no frame has passed since, and in a pass of this frame a loop may read it (R241, R247). -/
def State.entryConverted (s : State) (e : Nat) : State :=
  s.onAdc fun a => { a with idle := a.idle.set e 0, converted := if a.late then a.converted else e :: a.converted }

/-- The conversion in progress ends (R225, R226, R229). -/
def State.conversionDone (s : State) (raw : Nat) : State :=
  match s.ana.adc.current with
  | none => s
  | some c =>
    let s := s.onAdc fun a => { a with current := none }
    let v := calibrated raw c.ofs c.g
    let s := match c.what with
      | .entry e =>
        if s.diagOn c.channel then s
        else
          let s := s.onAdc fun a => { a with raw := a.raw.set e raw, phases := a.phases.set e ((List.range 4).map s.sinePhase) }
          ((s.resultIn e v).entryConverted e).goodSample e raw
      | .inject => (s.resultIn 16 v).raise 0x18 1
      | .cal => s.onAdc fun a => { a with calCount := a.calCount + 1, calSum := a.calSum + raw }
      | .left => s
      | .diag => s.diagResult v
    s.convertNext

/-- 50 MHz cycles pass: the sine generators advance, and a diagnosis settles (R231, R236). -/
def State.cyclesPass (s : State) (cycles : Nat) : State :=
  let s := (s.sineAdvance cycles).onAdc fun a => { a with diag := a.diag.map fun d => { d with wait := d.wait - cycles } }
  if s.diagReady.isSome then s.convertNext else s

/-- INJ_GO: queued, or discarded when four wait (R226). -/
def State.injGo (s : State) (ch sample gain : Nat) : State :=
  let s := (s.set F.HKADC_INJ_CTRL.CHANNEL ch).set F.HKADC_INJ_CTRL.SAMPLE (min 9 sample)
  let s := s.set F.HKADC_INJ_CTRL.GAIN gain
  if 4 ≤ s.ana.adc.requests.length then (s.bump F.HKADC_COUNT.INJ_DROPPED).raiseEvent 0x18 6 0x1807
  else ((s.onAdc fun a => { a with requests := a.requests ++ [(ch, gain)] }).showRequests).convertNext

/-! ### Calibration (Table 11.2) -/

/-- A REASON of Table 11.2: CAL_REFUSED and event 0x1810 + REASON. -/
def State.calRefused (s : State) (reason : Nat) : State :=
  (s.set F.HKADC_CAL_CTRL.REASON reason).raiseEvent 0x18 3 (0x1810 + reason)

/-- The calibration enters a state; entering a step, the requests that wait complete first (R230). A conversion in progress of a step that is left
counts in no other. -/
def State.toCal (s : State) (st : Nat) : State :=
  (s.set F.HKADC_CAL_CTRL.STATE st).onAdc fun a =>
    { a with current := a.current.map (fun c => if c.what = .cal then { c with what := .left } else c), early := if st = 1 ∨ st = 3 then a.requests.length else 0, calCount := 0, calSum := 0, calDue := false }

/-- ZERO. Table 11.2 has no row for it in ZERO_DONE, where it does nothing (DESIGN CHOICE, log 78). -/
def State.calZero (s : State) (ch gain : Nat) : State :=
  let s := (s.set F.HKADC_CAL_CTRL.CHANNEL ch).set F.HKADC_CAL_CTRL.GAIN gain
  match s.calState with
  | 0 =>
    if s.channelInUse ch then s.calRefused 1
    else (((s.onAdc fun a => { a with calChannel := ch, calGain := gain }).set F.HKADC_CAL_CTRL.REASON 0).toCal 1).convertNext
  | 2 => s
  | _ => s.calRefused 2

/-- FULL. -/
def State.calFull (s : State) : State :=
  match s.calState with
  | 0 => s.calRefused 3
  | 2 => if s.channelInUse s.ana.adc.calChannel then s.calRefused 1 else ((s.set F.HKADC_CAL_CTRL.REASON 0).toCal 3).convertNext
  | _ => s.calRefused 2

/-- CANCEL: nothing to cancel in IDLE. -/
def State.calCancel (s : State) : State := if s.calState = 0 then s else ((s.toCal 0).calRefused 6).convertNext

/-- The full step's mean gives G, and the result is judged (R229). -/
def State.calFullDone (s : State) (f : Int) : State :=
  let a := s.ana.adc
  let g : Int := if f ≤ a.z then 0 else s.get F.HKADC_CAL_TARGET.FS_TARGET * 2 ^ 34 / (f - a.z)
  let plausible := a.z < f && a.z.natAbs ≤ 64 * 4096 && 3774874 ≤ g && g ≤ 4613734
  let s := s.toCal 0
  if s.channelInUse a.calChannel then s.calRefused 1
  else if plausible then
    let s := { s with cal := { s.cal with measured := 8 :: s.cal.measured.filter (· ≠ 8) } }
    (s.commitPair (4 * a.calChannel + a.calGain) (BitVec.ofNat 32 (ofSigned 24 a.z)) (BitVec.ofNat 32 g.toNat)).raiseEvent
      0x18 2 0x1803
  else s.calRefused 4

/-- The 64th conversion of a step has ended: Z or F is the mean, in 2^−12 LSB (R229). -/
def State.calStep (s : State) : State :=
  let mean : Int := s.ana.adc.calSum * 64
  if s.ana.adc.calCount < 64 then s
  else match s.calState with
    | 1 => ((s.onAdc fun a => { a with z := mean }).toCal 2).convertNext
    | 3 => (s.calFullDone mean).convertNext
    | _ => s

/-! ### Diagnosis (R231) -/

/-- The channel that diagnosis takes: 0 to 23 or 29. -/
def diagChannel (ch : Nat) : Nat := if ch ≤ 23 then ch else 29

/-- DIAG starts, or is refused: the first of the four levels is driven. While one runs a further DIAG does nothing (DESIGN CHOICE, log 78). -/
def State.diagStart (s : State) (ch : Nat) : State :=
  let ch := diagChannel ch
  let s := s.set F.HKADC_TESTDAC.CHANNEL ch
  if s.ana.adc.diag.isSome then s
  else if s.channelInUse ch || s.calState ≠ 0 then s.set F.HKADC_TESTDAC.RESULT 4
  else
    let s := s.onAdc fun a => { a with diag := some { channel := ch, code := s.get F.HKADC_TESTDAC.CODE } }
    (s.set F.HKADC_TESTDAC.CODE (diagLevel 0)).set F.HKADC_TESTDAC.RESULT 1

/-- A write of HKADC_TESTDAC: while a diagnosis drives the test DAC, the CODE written is the one restored at its end (R231). -/
def State.testDacWrite (s : State) (w : Word) : State :=
  match s.ana.adc.diag with
  | some d =>
    (s.onAdc fun a => { a with diag := some { d with code := bitsOf w 9 0 } }).set F.HKADC_TESTDAC.CODE (diagLevel (min 12 d.results.length))
  | none => s

/-- The largest |error| of diagnosis in 1/16 LSB, to the nearest (R9): calibrated results in order, compared with 4 × k LSB at their levels. -/
def diagWorst (values : List Nat) : Nat :=
  values.zipIdx.foldl (fun m (v, i) => max m (roundHalfDown ((v : Int) - 4 * diagLevel i * 4096).natAbs 256).toNat) 0

/-- Diagnosis ends with its 16 conversions: PASS if WORST ≤ TOL LSB, CODE is restored (R231). `raws` are codes of conversions not yet counted, at
×1. -/
def State.diagEnd (s : State) (raws : List Nat) : State :=
  match s.ana.adc.diag with
  | none => s
  | some d =>
    let c := s.conversion .diag d.channel 0
    let values := (d.results ++ raws.map fun raw => calibrated raw c.ofs c.g).take 16
    if values.length < 16 then s
    else
      let worst := diagWorst values
      let pass := worst ≤ 16 * s.get F.HKADC_DIAG.TOL
      let s := s.onAdc fun a =>
        { a with diag := none, current := a.current.bind fun c => if c.what = .diag then none else some c }
      let s := ((s.setSat F.HKADC_DIAG.WORST worst).set F.HKADC_TESTDAC.RESULT (if pass then 2 else 3)).set F.HKADC_TESTDAC.CODE d.code
      let s := s.raise 0x18 4
      (if pass then s else s.raiseEvent 0x18 5 0x1806).convertNext

/-! ### Precision outputs (R232 to R237) -/

/-- The base code of an update from the channel's source, and the state after taking it (R232, R233). -/
def State.baseCode (s : State) (k : Nat) : Nat × State :=
  match s.get (F.PDAC_CH_CFG.SOURCE k) with
  | 0 => (s.get (F.PDAC_CH_CODE.CODE k), s)
  | 1 =>
    match (s.dac k).queue with
    | c :: rest => (c, (s.onDac k fun d => { d with queue := rest }).set (F.PDAC_CH_CLOCK.LEVEL k) rest.length)
    | [] => ((s.dac k).last, (s.bump (F.PDAC_CH_COUNT.UNDERFLOW k)).raiseLimited 0x19 1 0x1902)
  | _ => ((s.dac k).loopCode.getD (s.dac k).last, s)

/-- The sine term of a channel (R236): ±round(AMP × table / 65,536). -/
def State.sineTerm (s : State) (k : Nat) : Int :=
  let g := s.get (F.PDAC_CH_CFG.SINE_SEL k)
  if s.on (F.PDAC_CH_CFG.SINE_EN k) && s.on (F.PDAC_SINE_AMP.EN g) then
    let v := sineOf (s.sinePhase g)
    let m : Int := round16 (s.get (F.PDAC_SINE_AMP.AMP g) * (v.natAbs : Int))
    if v < 0 then -m else m
  else 0

/-- The output stage (R235): one step on PDAC0 to PDAC15; on PDAC16 to PDAC19 at most min(STEP, RATE × t_u), fractions carried
forward, with t_u = DIV / 50,000 ms. -/
def State.outputStage (s : State) (k target : Nat) : State :=
  if k < 16 then s.set (F.PDAC_CH_CODE.APPLIED k) target
  else
    let total := (s.dac k).carry + s.get (F.PDAC_CH_SLEW.RATE (k - 16)) * s.get (F.PDAC_CH_CLOCK.DIV k)
    let most := min (s.get (F.PDAC_CH_SLEW.STEP (k - 16))) (total / 50000)
    let cur := s.get (F.PDAC_CH_CODE.APPLIED k)
    let s := s.set (F.PDAC_CH_CODE.APPLIED k) (stepTowards most cur target).toNat
    s.onDac k fun d => { d with carry := total % 50000 }

/-- A code with the sine term, clamped; a clamped sample is counted in SINE_CLIP (R232). -/
def State.withSine (s : State) (k base : Nat) : Nat × State :=
  let t := base + s.sineTerm k
  let c := clampI 0 65535 t
  (c.toNat, if c ≠ t then (s.bump (F.PDAC_CH_COUNT.SINE_CLIP k)).raiseLimited 0x19 5 0x1906 else s)

/-- The output moves to a base code through the output stage; the base code reached excludes the sine term. -/
def State.driveTo (s : State) (k base : Nat) : State :=
  let (target, s) := s.withSine k base
  let s := s.outputStage k target
  let reached : Int := s.get (F.PDAC_CH_CODE.APPLIED k)
  let b := if reached = target then (base : Int) else reached - (target - base)
  s.onDac k fun d => { d with base := (clampI 0 65535 b).toNat, last := base }

/-- The output moves to a code without the sine term through the output stage; the base code is the one reached. -/
def State.drivePlain (s : State) (k code : Nat) : State :=
  let s := s.outputStage k code
  s.onDac k fun d => { d with base := s.get (F.PDAC_CH_CODE.APPLIED k) }

/-- The source's code during a span change: the queue is not read (R234). -/
def State.sourceCode (s : State) (k : Nat) : Nat :=
  match s.get (F.PDAC_CH_CFG.SOURCE k) with
  | 0 => s.get (F.PDAC_CH_CODE.CODE k)
  | 1 => (s.dac k).last
  | _ => (s.dac k).loopCode.getD (s.dac k).last

/-- An update of a channel (R232, R234): a span change moves through its steps, a channel held safe ignores its source. -/
def State.dacUpdate (s : State) (k : Nat) : State :=
  match (s.dac k).change with
  | some c =>
    if c.step = 2 then
      if s.get (F.PDAC_CH_CODE.APPLIED k) = mvCode c.old c.safeMv then
        let code := mvCode c.new c.safeMv
        (s.set (F.PDAC_CH_CODE.APPLIED k) code).onDac k fun d =>
          { d with span := c.new, base := code, change := some { c with step := 4 } }
      else s.drivePlain k (mvCode c.old c.safeMv)
    else if s.heldSafe k then s.drivePlain k (s.safeCode k)
    else s.driveTo k (s.sourceCode k)
  | none =>
    if s.heldSafe k then s.drivePlain k (s.safeCode k)
    else
      let (base, s) := s.baseCode k
      s.driveTo k base

/-- PDAC_CODE of an update (Table 15.1). -/
def State.dacTold (s : State) (k : Nat) : State := s.tapped 3 5 k ⟨[s.get (F.PDAC_CH_CODE.APPLIED k)], false⟩

/-- A span change begins (R234): V_s is SAFE_MV clamped to the overlap of the spans. -/
def State.spanStart (s : State) (k new : Nat) : State :=
  let old := (s.dac k).span
  if old = new then s
  else
    let mv := clampN (max (spanLow old) (spanLow new)) (min (spanHigh old) (spanHigh new)) (s.get (F.PDAC_CH_SAFE.SAFE_MV k))
    (s.set (F.PDAC_CH_CFG.SPAN_BUSY k) 1).onDac k fun d => { d with change := some ⟨2, old, new, mv⟩ }

/-- SPAN is written (R234): discarded while a closed loop drives the channel, stored while a change runs. -/
def State.spanWrite (s : State) (k span : Nat) : State :=
  let span := min 2 span
  if s.dacInLoop k then (s.bump (F.PDAC_CH_COUNT.SPAN_REFUSED k)).raiseEvent 0x19 4 0x1905
  else
    let s := s.set (F.PDAC_CH_CFG.SPAN k) span
    if (s.dac k).change.isSome then s else s.spanStart k span

/-- Whether a channel's output has reached what it moves to at the end of a span change: its source's code, or held safe the safe value (R234). -/
def State.spanReached (s : State) (k : Nat) : Bool :=
  if s.heldSafe k then s.get (F.PDAC_CH_CODE.APPLIED k) = s.safeCode k else (s.dac k).base = s.sourceCode k

/-- A span change completes; a SPAN written meanwhile begins a further one. -/
def State.spanDone (s : State) (k : Nat) : State :=
  match (s.dac k).change with
  | some c =>
    if c.step = 4 && s.spanReached k then
      let s := ((s.set (F.PDAC_CH_CFG.SPAN_BUSY k) 0).onDac k fun d => { d with change := none }).raise 0x19 3
      s.spanStart k (s.get (F.PDAC_CH_CFG.SPAN k))
    else s
  | none => s

/-- Loops whose channel goes safe on over-temperature are held (Table 12.3). -/
def State.holdLoops (s : State) : State :=
  (List.range 16).foldl (fun s n =>
    if s.loopState n ≠ 0 && s.on (F.PDAC_CH_CFG.OT_SAFE (s.loopDac n)) then s.loopHold n 2 else s) s

/-- LATCHED is cleared unless OT is still 1 (R237): outputs and loops return, with the checks applied afresh (R250). -/
def State.clearLatched (s : State) : State :=
  if s.on F.PDAC_GLOBAL.OT || !s.on F.PDAC_OT_STATUS.LATCHED then s
  else
    let s := s.set F.PDAC_OT_STATUS.LATCHED 0
    (List.range 16).foldl (fun s n =>
      if s.loopState n = 2 && s.holdCause n = 2 then
        (s.onLoop n fun l => { l with hist := [], wild := 0 }).handOver n (s.get (F.LOOP_CTRL.MODE n))
      else s) s

/-- A push to a channel's queue (R233). -/
def State.dacPush (s : State) (k code : Nat) : State :=
  if 16 ≤ (s.dac k).queue.length then (s.bump (F.PDAC_CH_COUNT.OVERFLOW k)).raiseLimited 0x19 2 0x1903
  else
    let s := s.onDac k fun d => { d with queue := d.queue ++ [code] }
    s.set (F.PDAC_CH_CLOCK.LEVEL k) (s.dac k).queue.length

/-! ### Meanings -/

/-- A FRAME start is lost (R224). -/
def State.frameLost (s : State) : State := (s.bump F.HKADC_SEQ_STATUS.LATE).raiseEvent 0x18 0 0x1801

/-- A frame of the sequence starts (R224, R230): no entry has converted in its pass yet; a pass still running loses the start. -/
def State.adcFrame (s : State) : State :=
  let s := s.onAdc fun a => { a with converted := [] }
  match s.ana.adc.pass with
  | some _ => if s.ana.adc.mode = 1 then (s.onAdc fun a => { a with late := true }).frameLost else s
  | none =>
    if s.get F.HKADC_SEQ_CTRL.MODE = 1 then
      if s.ana.adc.current.any (fun c => c.what = .cal || c.what = .left) then s.frameLost else s.passStart.convertNext
    else s

/-- ADC_FRAME_START (R224, R230). -/
def execAdcFrameStart (s : State) : Host.Outcome State Fault Refusal := .next s.adcFrame

/-- SEQ_START (R224): one pass in SINGLE. -/
def execSeqStart (path : Path) (s : State) : Host.Outcome State Fault Refusal :=
  .next (s.rwWrite path R.HKADC_SEQ_CTRL fun s =>
    if s.get F.HKADC_SEQ_CTRL.MODE = 3 then (s.onAdc fun a => { a with starts := a.starts + 1 }).convertNext else s)

/-- CONVERSION_COMPLETE (R225): `elapsed` 50 MHz cycles after the last command that said how many passed, at the end of the sampling time. -/
def execConversionComplete (raw : Fin 4096) (elapsed : Nat) (s : State) : Host.Outcome State Fault Refusal :=
  .next ((s.cyclesPass elapsed).conversionDone raw)

/-- INJ_GO (R226). -/
def execInjGo (path : Path) (channel : Fin 32) (sample : Fin 16) (gain : Fin 4) (s : State) :
    Host.Outcome State Fault Refusal :=
  .next (s.rwWrite path R.HKADC_INJ_CTRL fun s => s.injGo channel sample gain)

/-- CAL_ZERO (Table 11.2). -/
def execCalZero (path : Path) (channel : Fin 32) (gain : Fin 4) (s : State) : Host.Outcome State Fault Refusal :=
  .next (s.rwWrite path R.HKADC_CAL_CTRL fun s => s.calZero channel gain)

/-- CAL_FULL (Table 11.2). -/
def execCalFull (path : Path) (s : State) : Host.Outcome State Fault Refusal :=
  .next (s.rwWrite path R.HKADC_CAL_CTRL fun s => s.calFull)

/-- CAL_CANCEL (Table 11.2). -/
def execCalCancel (path : Path) (s : State) : Host.Outcome State Fault Refusal :=
  .next (s.rwWrite path R.HKADC_CAL_CTRL fun s => s.calCancel)

/-- CAL_STEP_COMPLETE (R229, Table 11.2). -/
def execCalStepComplete (s : State) : Host.Outcome State Fault Refusal := .next s.calStep

/-- CAL_ZERO_TIMEOUT (Table 11.2). -/
def execCalZeroTimeout (s : State) : Host.Outcome State Fault Refusal :=
  .next (if s.calState = 2 then (s.toCal 0).calRefused 5 else s)

/-- CAL_G_WRITE (R228): G commits the pair. -/
def execCalGWrite (path : Path) (pair : Fin 128) (value : Word) (s : State) : Host.Outcome State Fault Refusal :=
  .next (s.rwWrite path (R.HKADC_CAL_G pair) fun s =>
    s.commitPair pair (s.rd (R.HKADC_CAL_OFS pair)) (value &&& 0xFFFFFF))

/-- DIAG (R231). -/
def execDiag (path : Path) (channel : Fin 32) (s : State) : Host.Outcome State Fault Refusal :=
  .next (s.rwWrite path R.HKADC_TESTDAC fun s => s.diagStart channel)

/-- DIAG_COMPLETE (R231). -/
def execDiagComplete (raws : List (Fin 4096)) (s : State) : Host.Outcome State Fault Refusal := .next (s.diagEnd (raws.map (·.val)))

/-- PDAC_UPDATE (R232): `elapsed` 50 MHz cycles after the last command that said how many passed. -/
def execPdacUpdate (ch : Fin 20) (elapsed : Nat) (s : State) : Host.Outcome State Fault Refusal :=
  .next (((s.cyclesPass elapsed).dacUpdate ch).dacTold ch).shutdownDone

/-- PDAC_QUEUE_PUSH (R233). -/
def execPdacQueuePush (path : Path) (ch : Fin 20) (code : Fin 65536) (s : State) : Host.Outcome State Fault Refusal :=
  .next (s.rwWrite path (R.PDAC_CH_QUEUE ch) fun s => s.dacPush ch code)

/-- SPAN_WRITE (R234). -/
def execSpanWrite (path : Path) (ch : Fin 20) (span : Fin 4) (s : State) : Host.Outcome State Fault Refusal :=
  .next (s.rwWrite path (R.PDAC_CH_CFG ch) fun s => s.spanWrite ch span)

/-- SPAN_DONE (R234). -/
def execSpanDone (ch : Fin 20) (s : State) : Host.Outcome State Fault Refusal := .next (s.spanDone ch)

/-- OVER_TEMP (R237, Table 12.3): the second of two consecutive readings of this temperature; a trip if it lies above OT_LIMIT and OT is not
set yet. -/
def execOverTemp (temp : Int) (s : State) : Host.Outcome State Fault Refusal :=
  .next (
    let s := s.setS F.PDAC_GLOBAL.TEMP temp
    if s.on F.PDAC_GLOBAL.OT || temp ≤ s.get F.PDAC_GLOBAL.OT_LIMIT then s
    else
      let s := ((s.set F.PDAC_GLOBAL.OT 1).set F.PDAC_OT_STATUS.LATCHED 1).bump F.PDAC_OT_STATUS.TRIPS
      (s.holdLoops.raiseEvent 0x19 0 0x1901).faultLog 0x1901 1 none)

/-- OT_CLEAR (R237): a reading below OT_LIMIT − 10 °C. -/
def execOtClear (temp : Int) (s : State) : Host.Outcome State Fault Refusal :=
  .next (
    let s := s.setS F.PDAC_GLOBAL.TEMP temp
    if temp < (s.get F.PDAC_GLOBAL.OT_LIMIT : Int) - 10 then s.set F.PDAC_GLOBAL.OT 0 else s)

/-- LATCHED_CLEAR (R237). -/
def execLatchedClear (path : Path) (s : State) : Host.Outcome State Fault Refusal :=
  .next (s.rwWrite path R.PDAC_OT_STATUS fun s => s.clearLatched)

/-- HKADC_RESULT_READ (R225): a read over any register path marks the result as read. -/
def execHkadcResultRead (path : Path) (e : Fin 17) (s : State) : Host.Outcome State Fault Refusal :=
  .next (
    if s.unheard path false then s
    else if s.isDown (resultWord e) then s.downRead path (resultWord e)
    else { (s.onAdc fun a => { a with read := e.val :: a.read.filter (· ≠ e.val) }) with readData := s.rd (resultWord e) })

end Sys2Proof.Machine
end

