-- ==== Sys2Proof/Machine/MemWords.lean ====
section
/-!
DEFINITION. The words of the on-chip memories (R254 to R258, R261): check bits, what a read finds and its consumer does, writes, the flip mask
and buckets; the harrow's laps (R260).
-/
namespace Sys2Proof.Machine

/-! ### Regions and words (Table 13.1) -/

/-- Words of a region. -/
def regionWords (r : Nat) : Nat := nth [524288, 524288, 425984, 524288, 524288, 32768, 262144, 262144, 65536] r 0

/-- The domain that powers a word. -/
def wordDomain (r w : Nat) : Nat :=
  match r with
  | 0 => 19
  | 1 => 20
  | 2 => 6 + w / 0x8000
  | 3 => 25
  | 5 => 1
  | _ => 2

/-- The key of a word. -/
def memKey (r w : Nat) : Nat := r * 2 ^ 20 + w

/-- A stored word. -/
def State.memWord (s : State) (r w : Nat) : MemWord := Store.read (fun _ => 0) s.mem.words (memKey r w)

/-- Stores a word. -/
def State.memPut (s : State) (r w : Nat) (x : MemWord) : State :=
  s.onMem fun m => { m with words := Store.write (fun _ => 0) m.words (memKey r w) x }

/-- A word's data bits, and the syndrome that it reads with. -/
def dataOf (x : MemWord) : BitVec 64 := x.setWidth 64
def syndromeOf (x : MemWord) : BitVec 8 := (x >>> 64).setWidth 8

/-- A word from its data bits and its syndrome. -/
def memWordOf (d : BitVec 64) (y : BitVec 8) : MemWord := (y.setWidth 72 <<< 64) ||| d.setWidth 72

/-- What turning some data bits over adds to the syndrome. -/
def dataSyndrome (m : BitVec 64) : BitVec 8 :=
  (List.range 64).foldl (fun y i => if m.getLsbD i then y ^^^ nth checkColumns i 0 else y) 0

/-- A word with some of its stored bits turned over. -/
def turned (x m : MemWord) : MemWord :=
  if m = 0 then x
  else memWordOf (dataOf x ^^^ dataOf m) (syndromeOf x ^^^ syndromeOf m ^^^ dataSyndrome (dataOf m))

/-- The poison syndrome. -/
def poison : BitVec 8 := 0xFF

/-- Whether a syndrome is that of a correctable error (R256). -/
def correctable (y : BitVec 8) : Bool := onesOf y % 2 = 1

/-! ### Buckets (R259) -/

/-- One correction: the region's counter, `MEM_LAST_CE` and one unit into the bucket; a masked fault, which is logged as such (R364). -/
def State.corrected (s : State) (r w : Nat) (y : BitVec 8) : State :=
  let s := s.bump (F.MEM_CE.COUNT r)
  let s := ((s.set F.MEM_LAST_CE.REGION r).set F.MEM_LAST_CE.SYNDROME y.toNat).set F.MEM_LAST_CE.WORD w
  let n := s.get (F.MEM_BUCKET.LEVEL r) + 1
  let s :=
    if s.get (F.MEM_BUCKET.THRESH r) ≤ n then (s.set (F.MEM_BUCKET.LEVEL r) 0).raiseEvent 0x1C r (0x1C10 + r)
    else s.set (F.MEM_BUCKET.LEVEL r) n
  s.faultLog (0x1C01 + (Config.correctedCode r).toNat % 0xEF) 1 none

/-! ### Reading (R256) -/

/-- The corrected data of a correctable word: the bit whose column is the syndrome is turned over. A syndrome that is no column's comes
from three errors or more; what correction makes of those the spec does not say: a free value (log 5). -/
def State.correction (s : State) (x : MemWord) : BitVec 64 × State :=
  let y := syndromeOf x
  match checkColumns.findIdx? (· = y) with
  | some i => (dataOf x ^^^ (1 <<< i), s)
  | none =>
    if onesOf y = 1 then (dataOf x, s)
    else
      let (a, s) := s.freeWord
      let (b, s) := s.freeWord
      (a.setWidth 64 ||| (b.setWidth 64 <<< 32), s)

/-- An uncorrectable word that was not poison is poisoned and logged. -/
def State.poisoned (s : State) (r w : Nat) (d : BitVec 64) : State :=
  let s := (s.memPut r w (memWordOf d poison)).bump (F.MEM_UE.UE r)
  ((s.set F.MEM_LAST_UE.REGION r).set F.MEM_LAST_UE.SYNDROME 0xFF).set F.MEM_LAST_UE.WORD w

/-- What a read finds in a word, and what it leaves: the data, or none if uncorrectable. -/
def State.memFetch (s : State) (r w : Nat) (upset : MemWord) : Option (BitVec 64) × State :=
  let x := turned (s.memWord r w) upset
  let y := syndromeOf x
  if y = 0 then (some (dataOf x), s.memPut r w x)
  else if correctable y then
    let (d, s) := s.correction x
    (some d, (s.memPut r w (memWordOf d 0)).corrected r w y)
  else if y = poison then (none, s.memPut r w x)
  else (none, ((s.poisoned r w (dataOf x)).raise 0x1C 17).detected 0x1C01 none)

/-! ### The consumers of uncorrectable data (R258) -/

/-- What the consumer of an uncorrectable read of regions 0 to 3, 7 and 8 is given and does (Table 13.2): soft values of 0, a fault report of the
furrow, ERR on the client frames that hold a byte of the word, errored output of the frame in progress and an entry to be recomputed, a word
of 0. -/
def State.consumed (s : State) (r w : Nat) (reader : MemReader) : State :=
  match r with
  | 0 => s.onMem fun m => { m with last := some 0 }
  | 1 => s.onMem fun m => { m with last := some 0 }
  | 2 => s.detected 0x0480 (some (w / 4096))
  | 3 =>
    match reader with
    | .client p egress n =>
      { s with ports := s.ports.modify p fun q =>
          if egress then { q with spoilOut := q.spoilOut + n } else { q with spoilIn := q.spoilIn + n } }
    | _ => s
  | 7 =>
    let s := s.onMem fun m => { m with stale := w :: m.stale.filter (· ≠ w) }
    match reader with
    | .table c => s.send (.errored c)
    | _ => s
  | 8 => s.onMem fun m => { m with last := some 0 }
  | _ => s

/-- The part recomputes the entries of region 7 that could not be read, by the next multiframe boundary (R258). Region 7's layout the spec does
not give: what an entry holds again is a free value (log 5). -/
def State.entriesRemade (s : State) : State :=
  let s' := s.mem.stale.foldl (fun (s : State) w =>
    let (a, s) := s.freeWord
    let (b, s) := s.freeWord
    s.memPut 7 w (memWordOf (a.setWidth 64 ||| (b.setWidth 64 <<< 32)) 0)) s
  s'.onMem fun m => { m with stale := [] }

/-- A read by an agent of a word that can be reached: what it finds is its consumer's. -/
def State.memGet (s : State) (r w : Nat) (upset : MemWord) (reader : MemReader) : State :=
  let (d, s) := s.memFetch r w upset
  let s := s.onMem fun m => { m with last := d }
  if d.isNone then s.consumed r w reader else s

/-! ### Writing (R257, R261) -/

/-- An agent's word is stored; an armed flip mask turns its bits over (R261). -/
def State.memStore (s : State) (r w : Nat) (x : MemWord) : State :=
  if s.on F.MEM_FLIP_CTRL.ARMED && s.get F.MEM_FLIP_CTRL.REGION = r then
    let mask := (s.rd R.MEM_FLIP_DATA_LO).setWidth 64 ||| ((s.rd R.MEM_FLIP_DATA_HI).setWidth 64 <<< 32)
    let s := s.memPut r w (turned x (memWordOf mask (BitVec.ofNat 8 (s.get F.MEM_FLIP_CTRL.CHECK))))
    let s := ((s.set F.MEM_FLIP_ADDR.REGION r).set F.MEM_FLIP_ADDR.WORD w).set F.MEM_FLIP_CTRL.ARMED 0
    s.raise 0x1C 21
  else s.memPut r w x

/-- Some bytes of a word replaced. -/
def mergeBytes (old new : BitVec 64) (bytes : Nat) : BitVec 64 :=
  let mask := (List.range 8).foldl (fun (m : BitVec 64) i => if bytes / 2 ^ i % 2 = 1 then m ||| (0xFF <<< (8 * i)) else m) 0
  (old &&& ~~~mask) ||| (new &&& mask)

/-- A full 64-bit write: check bits from its data alone. -/
def State.memPutFull (s : State) (r w : Nat) (d : BitVec 64) : State := s.memStore r w (memWordOf d 0)

/-- A write of fewer than 64 bits (R257). -/
def State.memPutSome (s : State) (r w bytes : Nat) (d : BitVec 64) (upset : MemWord) : State :=
  let x := turned (s.memWord r w) upset
  let y := syndromeOf x
  if y = 0 then s.memStore r w (memWordOf (mergeBytes (dataOf x) d bytes) 0)
  else if correctable y then
    let (old, s) := s.correction x
    (s.corrected r w y).memStore r w (memWordOf (mergeBytes old d bytes) 0)
  else if y = poison then s.memStore r w (memWordOf (mergeBytes (dataOf x) d bytes) poison)
  else
    let s := (s.poisoned r w (dataOf x)).bump (F.MEM_UE.POISON_WRITES r)
    let s := s.memStore r w (memWordOf (mergeBytes (dataOf x) d bytes) poison)
    (s.raise 0x1C 18).detected 0x1C02 none

/-! ### Accesses that wait (R255) -/

/-- An access that arrives before its region's initialisation has ended waits. -/
def State.memWait (s : State) (x : MemAccess) : State := s.onMem fun m => { m with waiting := m.waiting ++ [x] }

/-- Carries out an access to a region whose domain can be off, 0 to 3. -/
def State.memAccess (s : State) : MemAccess → State
  | .read r w upset reader => s.memGet r w upset reader
  | .merge r w bytes d upset => s.memPutSome r w bytes d upset
  | .write r w d => s.memPutFull r w d

/-- The region and word of an access. -/
def MemAccess.place : MemAccess → Nat × Nat
  | .read r w _ _ => (r, w)
  | .merge r w _ _ _ => (r, w)
  | .write r w _ => (r, w)

/-- Accesses that waited and whose domain is ON now are carried out, in the order of their arrival. -/
def State.memResume (s : State) : State :=
  let ready (x : MemAccess) : Bool := s.domOn (wordDomain x.place.1 x.place.2)
  let (go, stay) := s.mem.waiting.partition ready
  go.foldl State.memAccess (s.onMem fun m => { m with waiting := stay })

/-! ### The laps of the harrow (R260) -/

/-- The first powered word of a region from an index on: region 2 spans the furrow groups. -/
def State.poweredFrom (s : State) (r w : Nat) : Option Nat :=
  if r = 2 then
    ((List.range 13).find? (fun g => w / 0x8000 ≤ g && s.domOn (6 + g))).map (fun g => if g = w / 0x8000 then w else g * 0x8000)
  else if s.domOn (wordDomain r w) then some w else none

/-- A lap ends when every powered region has been walked; `ms` since it began. -/
def State.lapEnd (s : State) (ms : Nat) : State :=
  if (List.range 9).all (fun r => s.mem.walked.contains r || (s.poweredFrom r 0).isNone) then
    let s := (s.onMem fun m => { m with walked := [], lapMs := 0 }).wrapAdd F.MEM_HARROW_LAP.LAPS
    let s := s.setSat F.MEM_HARROW_LAP.LAST_LAP ms
    if s.get F.MEM_HARROW_CTRL.LAP_LIMIT < ms then s.raiseEvent 0x1C 19 0x1C03 else s
  else s

end Sys2Proof.Machine
end

