-- ==== Sys2Proof/Machine/Wmp.lean ====
section
/-!
DEFINITION. WMP messages: replies and refusals, and the checks of a message before it is carried out (R279, R286, R290, R299).
-/
namespace Sys2Proof.Machine

/-! ### NAK codes and raises -/

/-- Raises a SEC bit with its event code, if it has one (Table 14.13). AUTH_FAIL is issued at most once per second. -/
def State.secRaise (s : State) (b : Nat) : State :=
  if b = 0 || b = 1 then s.raise 0x1E b
  else if b = 2 then s.raiseLimited 0x1E 2 0x1E03
  else s.raiseEvent 0x1E b (0x1E01 + b)

/-- Raises a CPU bit with its event code; TASK_BUDGET at most once per second. -/
def State.cpuRaise (s : State) (b : Nat) : State :=
  if b = 4 then s.raiseLimited 0x1F 4 0x1F05 else s.raiseEvent 0x1F b (0x1F01 + b)

/-- The bytes of a message's header (R133). -/
def wmpHead (e : Envelope) (cls typ len : Nat) : List Byte :=
  beBytes 1 e.version ++ beBytes 1 cls ++ beBytes 1 typ ++ beBytes 1 0 ++ beBytes 2 e.tag ++ beBytes 2 len

/-- Sends the response to a message, with a body where it is not a NAK. -/
def State.reply (s : State) (e : Envelope) (cls typ : Nat) (nak : Option Nat) (body : List Byte) : State :=
  let p := e.path.val
  let s := (s.send (.reply p nak)).onSec fun x => { x with requests := x.requests.set p none }
  s.respond p (s.wmpResponse p e.version cls typ e.tag e.session e.counter nak body)

/-- Refuses a message with a NAK. -/
def State.nak (s : State) (e : Envelope) (cls typ code : Nat) : State := s.reply e cls typ (some code) []

/-- Refuses a message whose session's role is too low (Table 14.12). -/
def State.roleNak (s : State) (e : Envelope) (cls typ : Nat) : State := ((s.bump F.SEC_WMP_COUNT.ROLE).violate 0x07).nak e cls typ 0x11

/-- A message is done. -/
def State.done (s : State) (e : Envelope) (cls typ : Nat) : State := s.reply e cls typ none []

/-- What the ROM's subset answers (R279): SESSION, REG READ, and FW_CHUNK of a Hedge image. -/
def romAnswers (cls typ : Nat) (hedgeImage : Bool) : Bool := cls = 1 || (cls = 2 && typ = 1) || (cls = 5 && typ = 1 && hedgeImage)

/-! ### The checks of a message (R286, R290, Table 14.12) -/

/-- A message whose WMP major is not supported is answered at WMP 2.0. -/
def State.versionNak (s : State) (e : Envelope) (cls typ : Nat) : State :=
  (s.violate 0x03).nak { e with version := 0x20 } cls typ 0x0F

/-- A MAC that fails: MAC_BAD, and the session's end at the 16th (R290). -/
def State.macBad (s : State) (e : Envelope) (cls typ : Nat) : State :=
  let p := e.path.val
  let s := ((s.bump F.SEC_WMP_COUNT.MAC_BAD).violate 0x04).nak e cls typ 0x12
  let s := s.onSession p fun x => { x with macBad := x.macBad + 1 }
  if 16 ≤ (s.session p).macBad then s.sessionEnd p else s

/-- After a request: IDLE time anew; the session ends once COUNTER has reached its largest value. -/
def State.sessionUsed (s : State) (e : Envelope) (k : State → State) : State :=
  let p := e.path.val
  let s := k (s.set (F.SEC_SESSION.IDLE_LEFT p) (s.get F.SEC_SESSION_CFG.IDLE_S))
  if e.counter = 0xFFFFFFFF then s.sessionEnd p else s

/-- Handles a message of least role `least` on its path, after the checks in order: version, session, MAC, COUNTER, role. Nothing
answers while Hedge restarts; the ROM refuses what is not in its subset. -/
def State.wmp (s : State) (e : Envelope) (cls typ : Nat) (body : List Byte) (least : Nat) (k : State → State) (hedgeImage : Bool := false) :
    State :=
  let p := e.path.val
  if s.sec.hedge = .restarting then s
  else if e.version / 16 = 0 ∨ 2 < e.version / 16 then s.versionNak e cls typ
  else if s.sec.hedge = .romOnly && !romAnswers cls typ hedgeImage then s.nak e cls typ 0x16
  else if e.session = 0 then
    if least = 0 then k s else s.roleNak e cls typ
  else if !s.on (F.SEC_SESSION.OPEN p) || (s.session p).sid ≠ e.session then
    ((s.bump F.SEC_WMP_COUNT.NO_SESSION).violate 0x06).nak e cls typ 0x10
  else
    let head := wmpHead e cls typ body.length
    let tail := beBytes 4 e.session ++ beBytes 4 e.counter
    if e.mac ≠ (Config.hmac (s.session p).keyIn (head ++ body ++ tail)).take 32 then s.macBad e cls typ
    else if e.counter ≤ (s.session p).counter then ((s.bump F.SEC_WMP_COUNT.REPLAY).violate 0x05).nak e cls typ 0x13
    else
      let s := s.onSession p fun x => { x with counter := e.counter }
      if s.roleOn p < least then s.roleNak e cls typ
      else s.sessionUsed e k

end Sys2Proof.Machine
end

