-- ==== Sys2Proof/Machine/PlanLoad.lean ====
section
/-!
DEFINITION. The plan buffer (R43 to R45, R393, Tables 2.17 and 2.18): loading, validating and storing, and the release of a
hitless build (Table 2.20).
-/
namespace Sys2Proof.Machine

/-- The buffer's state: 0 EMPTY, 1 LOADING, 2 LOADED, 3 VALIDATING, 4 VALID, 5 REJECTED, 6 APPLYING, 7 STORING. -/
def State.bufState (s : State) : Nat := s.get F.PLAN_STATUS.STATE

/-- The hitless state: 0 IDLE, 1 BUILDING, 2 READY, 3 ARMED, 4 SWITCHING. -/
def State.hState (s : State) : Nat := s.get F.PLAN_SWITCH.HSTATE

/-- Sets the buffer's state. -/
def State.toBuf (s : State) (st : Nat) : State := s.set F.PLAN_STATUS.STATE st

/-- Updates the plan's internal state. -/
def State.onPlan (s : State) (f : PlanSt → PlanSt) : State := { s with plan := f s.plan }

/-- Answers a plan command to its sender: nothing to a register write over CXL or the alias. -/
def State.planAnswer (s : State) (x : Sender) (nak : Option Nat) : State :=
  match x with
  | .reg p => s.answer p nak
  | .wmp e => s.reply e 3 2 nak []

/-- A plan command not listed for the state (Table 2.18): counted, and answered NAK STATE over WMP (R45). -/
def State.planIgnored (s : State) (x : Sender) : State := (s.bump F.PLAN_IGNORED.COMMANDS).planAnswer x (some 0x16)

/-- A plan command is accepted: its code and slot are what `PLAN_COMMAND` reads back; over WMP it is answered (R287). -/
def State.planAccepted (s : State) (x : Sender) (cmd : Nat) : State := (s.set F.PLAN_COMMAND.CMD cmd).planAnswer x none

/-- Runs a plan command, `word` being what `PLAN_COMMAND` is written with. A register write needs an OPERATOR session of its path (R292); a PLAN_CMD
message passes the checks of its class (R286, R290). Hedge carries plan commands out: while it restarts a message is refused with BUSY (R287), and the
ROM alone has no plan class (R279). -/
def State.planCommand (s : State) (x : Sender) (word : Nat) (k : State → State) : State :=
  match x with
  | .reg p => s.rwsWrite p R.PLAN_COMMAND 1 fun s => if s.sec.hedge = .running then k s else s
  | .wmp e => if s.sec.hedge = .restarting then s.nak e 3 2 0x05 else s.wmp e 3 2 (beBytes 4 word) 1 k

/-- A plan is rejected: REASON and RECORD set, REJECTED raised, event 0x02nn issued (R43). -/
def State.rejectPlan (s : State) (st reason record : Nat) : State :=
  (((s.toBuf st).set F.PLAN_STATUS.REASON reason).set F.PLAN_STATUS.RECORD record).raiseEvent 0x02 2 (0x0200 + reason)

/-- Whether a new load may start: EMPTY, LOADED, VALID or REJECTED, with HSTATE IDLE (Table 2.18). -/
def State.mayLoad (s : State) : Bool :=
  (s.bufState = 0 || s.bufState = 2 || s.bufState = 4 || s.bufState = 5) && s.hState = 0

/-- A load starts: LOADING, the record of bytes written cleared. -/
def State.startLoad (s : State) (k : LoadKind) (expected : Nat) : State :=
  (s.toBuf 1).onPlan fun q => { q with load := k, expected := expected, delivered := 0, written := [], buf := [] }

/-- A load is complete: LOADED, LOAD_DONE, and the buffer's epoch shown. -/
def State.loaded (s : State) : State :=
  let s := s.toBuf 2
  let s := s.set F.PLAN_BUF_EPOCH.EPOCH (imgLe s.plan.buf 0x10 4)
  s.raise 0x02 0

/-- A load fails at its source: EMPTY, REJECTED, LOAD_SOURCE (Table 2.18). -/
def State.sourceError (s : State) : State :=
  (s.onPlan fun q => { q with load := .idle }).rejectPlan 0 0x09 0xFFFF

/-- LOAD_WINDOW starts copying; without a granted window, or beyond its size, the source fails at once (R45, R270). -/
def State.loadWindow (s : State) : State :=
  let len := s.get F.PLAN_SRC_LENGTH.LENGTH
  let s := s.startLoad .window len
  if !s.windowGranted then s.sourceError
  else if !s.inWindow (s.get F.PLAN_SRC_OFFSET.OFFSET * 4096) len then (s.windowFault F.CXLCTL_WIN_COUNT.RANGE).sourceError
  else s

/-- LOAD_SLOT starts copying min(TOTAL_LEN, 1 MiB) bytes of a slot (R393). -/
def State.loadSlot (s : State) (slot : Nat) : State :=
  let img := nth s.plan.slots slot []
  (s.startLoad .slot (imgDeliver img)).onPlan fun q => { q with buf := img }

/-- Whether `k` bytes from 0 are all in a set of byte ranges; each round extends the covered prefix. -/
def covered (ranges : List (Nat × Nat)) (k : Nat) : Bool :=
  k ≤ ranges.foldl (fun m _ => ranges.foldl (fun m r => if r.1 ≤ m then max m r.2 else m) m) 0

/-- A byte string written over another at an offset, the gap before it zero. -/
def splice (buf : List Byte) (off : Nat) (data : List Byte) : List Byte :=
  buf.take off ++ List.replicate (off - buf.length) 0 ++ data ++ buf.drop (off + data.length)

/-- Bytes a chunk load is to deliver, once chunks have covered the header's TOTAL_LEN (R45). -/
def PlanSt.chunkTotal (q : PlanSt) : Option Nat :=
  if [0x1C, 0x1D, 0x1E, 0x1F].all (fun i => q.written.any (fun r => r.1 ≤ i && i < r.2)) then some (imgDeliver q.buf) else none

/-- A chunk's bytes written and recorded; the load completes when every byte of the plan is there (R45). -/
def State.chunkWrite (s : State) (off : Nat) (data : List Byte) : State :=
  let s := s.onPlan fun q =>
    { q with buf := splice q.buf off data, written := (off, off + data.length) :: q.written }
  match s.plan.chunkTotal with
  | none => s
  | some n =>
    if covered s.plan.written n then
      (s.onPlan fun q => { q with buf := q.buf.take n, delivered := n, expected := n }).loaded
    else s

/-- A PLAN_CHUNK (R45, Tables 2.18 and 14.6), and its NAK: of no bytes or more than 1,024 it is malformed, out of sequence or beyond the buffer it is
answered STATE (Table 14.12). -/
def State.planChunk (s : State) (off : Nat) (data : List Byte) : State × Option Nat :=
  if data = [] ∨ 1024 < data.length then (s, some 0x02)
  else if planMax < off + data.length then (s.violate 0x0C, some 0x16)
  else if s.bufState = 1 && s.plan.load = .chunk then (s.chunkWrite off data, none)
  else if s.mayLoad then ((s.startLoad .chunk 0).chunkWrite off data, none)
  else ((s.bump F.PLAN_IGNORED.COMMANDS).violate 0x0C, some 0x16)

/-- The chunk bytes a plan command reads: header checks then records (checks 1 to 23). -/
def State.validation (s : State) : Verdict :=
  let q := s.plan
  let plan := imgPlan q.buf
  headerChecks q.buf q.load q.delivered q.expected (s.get F.PLAN_SRC_LENGTH.LENGTH) (s.rd R.GLOBAL_ID).toNat s.planKeys
    <|> frameChecks q.buf
    <|> plan.checks (s.get F.PLAN_FORMAT.FRAME_MAJOR_MIN) (s.get F.PLAN_FORMAT.FRAME_MAJOR_MAX)
      s.healthyFurrows.length
      (fun c => match c with
        | .A => s.get F.GLOBAL_CAPABILITY.FEC_A_ENGINES
        | .B => s.get F.GLOBAL_CAPABILITY.FEC_B_ENGINES)
      s.bist.lost

/-- Starts validation on behalf of a command (Table 2.18). -/
def State.startValidation (s : State) (after : PlanAfter) : State := (s.toBuf 3).onPlan fun q => { q with after := after }

/-- STORE_SLOT starts: the slot takes the buffer's bytes. -/
def State.storeSlot (s : State) (slot : Nat) : State :=
  (s.toBuf 7).onPlan fun q =>
    { q with storing := slot, slots := q.slots.set slot (q.buf.take (imgTotal q.buf)) }

/-- Hitless state set. -/
def State.toH (s : State) (h : Nat) : State := s.set F.PLAN_SWITCH.HSTATE h

/-- Whether the plan keeps its vote after APPLIED: POWER FLAGS bit 1; FLAGS is 0b11 without a record (Table 2.13). -/
def Plan.holdsVote (p : Plan) : Bool :=
  match p.rec? 9 0 with
  | some r => r.le 1 1 / 2 % 2 = 1
  | none => true

/-- The furrow group domains that hold bound furrows: eight furrows to a domain (Table 16.1). -/
def furrowDomains (bs : List Bound) : List Nat := ((bs.flatMap (·.furrows)).map (fun f => 6 + f / 8)).eraseDups

/-- The plan's vote (bit 6) set or withdrawn on domains. -/
def State.planVotes (s : State) (ds : List Nat) (v : Bool) : State := ds.foldl (fun s d => s.vote d 6 v) s

/-- A hitless build is released (Table 2.20): its vote leaves the domains that the running plan does not hold. -/
def State.releaseBuild (s : State) : State :=
  let keep := match s.plan.running with
    | some run => if run.holdsVote then furrowDomains s.plan.bound else []
    | none => []
  let s := s.planVotes ((furrowDomains s.plan.build).filter (fun d => !keep.contains d)) false
  ((s.toH 0).set F.PLAN_FURROWS.BUILDING 0).onPlan fun q => { q with build := [], proposedMf := none, rxSwitched := [], converged := [] }

/-- A hitless re-plan ends without switching, with its reason: SWITCH_ABORTED (Table 2.20). -/
def State.abortSwitch (s : State) (reason : Nat) : State :=
  ((s.releaseBuild).set F.PLAN_STATUS.REASON reason).raiseEvent 0x02 7 (0x0200 + reason)

/-- CANCEL: releases a build in BUILDING or READY, so a re-plan ended without switching; otherwise counted (Table 2.20). -/
def State.planCancel (s : State) (x : Sender) : State :=
  if s.hState = 1 || s.hState = 2 then ((s.planAccepted x 6).releaseBuild).raise 0x02 7 else s.planIgnored x

/-! ### Meanings -/

/-- LOAD_WINDOW (R45, Table 2.18). -/
def execLoadWindow (sender : Sender) (s : State) : Host.Outcome State Fault Refusal :=
  .next (s.planCommand sender 1 fun s => if s.mayLoad then (s.planAccepted sender 1).loadWindow else s.planIgnored sender)

/-- LOAD_SLOT (R45, Table 2.18). -/
def execLoadSlot (sender : Sender) (slot : Fin 4) (s : State) : Host.Outcome State Fault Refusal :=
  .next (s.planCommand sender (2 + 16 * slot) fun s =>
    if s.mayLoad then ((s.planAccepted sender 2).set F.PLAN_COMMAND.SLOT slot).loadSlot slot else s.planIgnored sender)

/-- VALIDATE (Table 2.18). -/
def execValidate (sender : Sender) (s : State) : Host.Outcome State Fault Refusal :=
  .next (s.planCommand sender 3 fun s =>
    if s.bufState = 2 then (s.planAccepted sender 3).startValidation .validate else s.planIgnored sender)

/-- CANCEL (Table 2.20). -/
def execCancel (sender : Sender) (s : State) : Host.Outcome State Fault Refusal :=
  .next (s.planCommand sender 6 fun s => s.planCancel sender)

/-- STORE_SLOT (R45): writes the VALID buffer to a slot. -/
def execStoreSlot (sender : Sender) (slot : Fin 4) (s : State) : Host.Outcome State Fault Refusal :=
  .next (s.planCommand sender (7 + 16 * slot) fun s =>
    if s.bufState = 4 then ((s.planAccepted sender 7).set F.PLAN_COMMAND.SLOT slot).storeSlot slot else s.planIgnored sender)

/-- LOAD_DONE (R45): the copy has delivered its bytes; those of a window copy arrive with the command. -/
def execLoadDone (data : List Byte) (s : State) : Host.Outcome State Fault Refusal :=
  .next (
    if s.bufState = 1 then
      match s.plan.load with
      | .window => (s.onPlan fun q => { q with buf := data.take q.expected, delivered := data.length }).windowAnswered.loaded
      | .slot => (s.onPlan fun q => { q with delivered := q.expected }).loaded
      | _ => s
    else s)

/-- LOAD_SOURCE_ERROR (R45, Table 2.18). -/
def execLoadSourceError (s : State) : Host.Outcome State Fault Refusal :=
  .next (if s.bufState = 1 then s.sourceError else s)

/-- STORE_SLOT_DONE (R45): VALID again; on a mismatch the slot is erased and REASON is LOAD_SOURCE. -/
def execStoreSlotDone (same : Bool) (s : State) : Host.Outcome State Fault Refusal :=
  .next (
    if s.bufState = 7 then
      let s := s.toBuf 4
      if same then s
      else (s.set F.PLAN_STATUS.REASON 0x09).onPlan fun q => { q with slots := q.slots.set q.storing [] }
    else s)

/-- BUILD_TIMEOUT (R50, Table 2.20). -/
def execBuildTimeout (s : State) : Host.Outcome State Fault Refusal :=
  .next (if s.hState = 1 then s.abortSwitch 0x44 else s)

/-- A fault on a build furrow in BUILDING, READY or ARMED aborts the re-plan (R50, Table 2.20). -/
def State.buildFault (s : State) (furrow : Nat) : State :=
  if (s.hState = 1 || s.hState = 2 || s.hState = 3) && s.plan.build.any (fun b => b.furrows.contains furrow) then s.abortSwitch 0x45
  else s

/-- BUILD_FAULT (R50, Table 2.20). -/
def execBuildFault (furrow : Fin 104) (s : State) : Host.Outcome State Fault Refusal := .next (s.buildFault furrow)

/-- SWITCH_ABORT_DEADLINE (R50, Table 2.20): READY, a proposed M, and no commit. -/
def execSwitchAbortDeadline (s : State) : Host.Outcome State Fault Refusal :=
  .next (if s.hState = 2 && s.plan.proposedMf.isSome then s.abortSwitch 0x46 else s)

end Sys2Proof.Machine
end

