-- ==== Sys2Proof/Machine/LineOps.lean ====
section
/-!
DEFINITION. Shared operations of the line framer and the link manager that other chapters use: frame and multiframe alignment
lost (R110, R111), multiframe numbers (R88, R101), link states (Table 6.1).
-/
namespace Sys2Proof.Machine

/-- Updates a carrier's framer state. -/
def State.onLine (s : State) (c : Carrier) (f : LineSt → LineSt) : State := { s with line := s.line.upd c f }

/-- Updates a carrier's link manager state. -/
def State.onLink (s : State) (c : Carrier) (f : LinkSt → LinkSt) : State := { s with link := s.link.upd c f }

/-- Raises a framer bit of the LINK block with its event (Table 5.5). -/
def State.frameRaise (s : State) (c : Carrier) (bit : Nat) : State :=
  s.raiseEvent 0x0E (bit + 8 * c.idx) (0x0E01 + bit + 0x10 * c.idx)

/-- Raises a link manager bit with its event (Table 6.8): bit 16 is 0 here. -/
def State.mgrRaise (s : State) (c : Carrier) (n : Nat) : State :=
  s.raiseEvent 0x0E (16 + n + 8 * c.idx) (0x0E21 + n + 0x10 * c.idx)

/-- Raises a FEC bit with its event (Table 5.5). -/
def State.fecRaise (s : State) (c : Carrier) (bit : Nat) : State :=
  s.raiseEvent 0x0C (bit + 8 * c.idx) (0x0C01 + bit + 0x10 * c.idx)

/-- The frame alignment state: 0 OOF, 1 PRE, 2 IF. -/
def State.alignState (s : State) (c : Carrier) : Nat := s.get (F.LINK_ALIGN_STATUS.STATE c)

/-- Whether multiframe lock is held. -/
def State.mfLocked (s : State) (c : Carrier) : Bool := s.on (F.LINK_ALIGN_STATUS.MF_LOCK c)

/-- Locked (R125): frame alignment IF and multiframe lock. -/
def State.locked (s : State) (c : Carrier) : Bool := s.alignState c = 2 && s.mfLocked c

/-- Multiframe lock is lost, with MF_LOST if it was held (R111); the received multiframe broken off is not published (R119). -/
def State.mfLost (s : State) (c : Carrier) : State :=
  let s := s.onLine c fun l => { l with last := none, run := 0, wrong := 0, rxSlip := 0, corrMf := 0, uncMf := false }
  if s.mfLocked c then (s.set (F.LINK_ALIGN_STATUS.MF_LOCK c) 0).frameRaise c 3 else s

/-- The comparison after a swap is abandoned without a revert, at both carriers if it judges both (R60). -/
def State.evalAbandon (s : State) (c : Carrier) : State :=
  let s := if s.on (F.FURROW_RX_NLC_CTRL.EVAL c) && (s.rx.at c).evalPair then s.set (F.FURROW_RX_NLC_CTRL.EVAL c.other) 0 else s
  s.set (F.FURROW_RX_NLC_CTRL.EVAL c) 0

/-- Frame alignment goes to OOF: FRAME_LOST if it was IF, MF_LOST if multiframe was locked; the decoder's alignment and a
running swap comparison end (Table 5.3, R60). -/
def State.alignLost (s : State) (c : Carrier) : State :=
  let s := if s.alignState c = 2 then s.frameRaise c 1 else s
  let s := s.mfLost c
  let s := (s.set (F.FEC_STATUS.ALIGNED c) 0).evalAbandon c
  let s := s.onLine c fun l =>
    { l with counting := false, hits := 0, misses := 0, awaitPtr := false, asm := none, rxSeq := none }
  s.set (F.LINK_ALIGN_STATUS.STATE c) 0

/-- The transmit multiframe C of a carrier (R101). -/
def State.txMf (s : State) (c : Carrier) : Nat := s.get (F.LINK_TX_FRAME.VALUE c) / 256

/-- The multiframe number being received (R101). -/
def State.rxMf (s : State) (c : Carrier) : Nat := s.get (F.LINK_RX_FRAME.VALUE c) / 256

/-- How far `m` lies ahead of `n`, modulo 2^24 (R88). -/
def mfAhead (m n : Nat) : Nat := (m % 2 ^ 24 + 2 ^ 24 - n % 2 ^ 24) % 2 ^ 24

/-- `m` is at least `x` ahead of `n` (R88). -/
def mfAtLeast (m n x : Nat) : Bool := x ≤ mfAhead m n && mfAhead m n < 2 ^ 23

/-- Multiframe periods that cover a time in µs, rounded up: T_MF = 67,108,864 / Rs, with Rs in units of 0.25 GBd (R95). -/
def State.mfCeil (s : State) (c : Carrier) (us : Nat) : Nat :=
  let rate := ((s.runCarrier c).map (·.rate)).getD 0
  (us * rate * 1000 + 268435455) / 268435456

/-- The link state of a carrier (Table 6.1). -/
def State.linkState (s : State) (c : Carrier) : Nat := s.get (F.LINK_STATE.STATE c)

/-- Whether a re-plan is armed or switching at a multiframe. -/
def State.replanAt (s : State) (m : Nat) : Bool :=
  (s.hState = 3 || s.hState = 4) && s.get F.PLAN_SWITCH.SWITCH_MF = m

/-- The state of `CPU_STATUS`: 0 DOWN, 1 STARTING, 2 RUNNING, 3 QUIESCING, 4 HELD. -/
def State.cpu (s : State) : Nat := s.get F.CPU_STATUS.STATE

/-- What Plough's link managers do (chapter 6): only while Plough is RUNNING. They freeze during a restart (R297), links stay in the
state they held in HELD (R296), and without Plough there is no link management (R279). -/
def State.managed (s : State) (k : State → State) : State := if s.cpu = 2 then k s else s

/-- The link manager records a peer or neighbour violation (R141, Table 6.7). -/
def State.linkViolation (s : State) (c : Carrier) (code : Nat) : State :=
  s.managed fun s => ((s.bump (F.LINK_VIOLATION.COUNT c)).set (F.LINK_VIOLATION.LAST c) code).mgrRaise c 5

/-- A write that only Plough may make came over another path: discarded and counted (R89). -/
def State.ploughOnly (s : State) (p : Path) (c : Carrier) (k : State → State) : State :=
  match p with
  | .plough => k s
  | _ => s.bump (F.FURROW_TX_STEP_STATUS.DROPPED c)

end Sys2Proof.Machine
end

