-- ==== Sys2Proof/Machine/HeadlandOps.lean ====
section
/-!
DEFINITION. The headland modem (chapter 10): packets (R206, R207) and sending (R208 to R210), used by the link manager.
-/
namespace Sys2Proof.Machine

/-! ### Packets (R206, R207) -/

/-- CRC-16-CCITT: initial value 0xFFFF, not reflected, no final XOR. -/
def crc16 (bs : List Byte) : Nat :=
  bs.foldl (fun crc b =>
    (List.range 8).foldl (fun c _ => if 0x8000 ≤ c then (2 * c % 0x10000) ^^^ 0x1021 else 2 * c) (crc ^^^ (b.toNat * 256))) 0xFFFF

/-- The whitening sequence's register after one bit: x^9 + x^5 + 1, its oldest bit going out. -/
def whitenStep (r : Nat) : Nat := 2 * r % 512 + (r / 256 + r / 16) % 2

/-- One byte of the whitening sequence, most significant bit first, and the register after it. -/
def whitenByte (r : Nat) : Nat × Nat :=
  (List.range 8).foldl (fun (acc, r) _ => (2 * acc + r / 256, whitenStep r)) (0, r)

/-- Whitens, or unwhitens, a byte string (R207). -/
def whitenFrom : Nat → List Byte → List Byte
  | _, [] => []
  | r, b :: bs => let (w, r') := whitenByte r; (b ^^^ BitVec.ofNat 8 w) :: whitenFrom r' bs

/-- Whitening from all ones. -/
def whiten (bs : List Byte) : List Byte := whitenFrom 511 bs

/-- Parity of the bits of `v` selected by a mask. -/
def parity (v mask : Nat) : Nat := ((List.range 8).filter (fun i => v / 2 ^ i % 2 = 1 && mask / 2 ^ i % 2 = 1)).length % 2

/-- The length byte: check bits 7 (LENGTH bits 5, 3, 1) and 6 (bits 4, 2, 0) (R207). -/
def lengthByte (n : Nat) : Nat := parity n 0x2A * 128 + parity n 0x15 * 64 + n

/-- Whether a header passes: both check bits agree and LENGTH lies within 1 to 60. -/
def headerOk (b : Nat) : Bool := b = lengthByte (b % 64) && 1 ≤ b % 64 && b % 64 ≤ 60

/-- A packet as sent (Table 10.1). -/
def packetOf (sync : Word) (payload : List Byte) : List Byte :=
  let lb : Byte := BitVec.ofNat 8 (lengthByte payload.length)
  List.replicate 6 0xAA ++ beBytes 4 sync.toNat ++ [lb] ++ whiten (payload ++ beBytes 2 (crc16 (lb :: payload)))

/-! ### Sending (R208 to R210) -/

/-- Updates the HEADLAND block's internal state. -/
def State.onHead (s : State) (f : HeadlandSt → HeadlandSt) : State := { s with head := f s.head }

/-- Counts a discarded write or command (R208, R220). -/
def State.headlandDropped (s : State) : State := s.bump F.HEADLAND_TX_COUNT.DROPPED

/-- Why a packet on a carrier would be refused: 1 DARK, 2 NO_INJECT. -/
def State.headlandRefusal (s : State) (c : Carrier) : Option Nat :=
  if s.get (F.LINE_TX_CTRL.TX_STATE c) ≠ 2 ∨ !s.on (F.LINE_TX_CTRL.ENABLED c) then some 1
  else if !s.on (F.FURROW_TX_CTRL.HL_INJECT c) then some 2
  else none

/-- The payload bytes written to `HEADLAND_TX_DATA_k`: byte 4k in [31:24]. -/
def State.txPayload (s : State) : List Byte :=
  ((List.range 15).flatMap (fun k => beBytes 4 (s.rd (R.HEADLAND_TX_DATA k)).toNat)).take (s.get F.HEADLAND_TX_CTRL.LENGTH)

/-- GO (R208): refused, or on air; with LOOP it is never refused and reaches the line only if nothing refuses it. DARKENED shows a packet whose
carrier is not ON (R221). -/
def State.go (s : State) : State :=
  let c := Carrier.ofIdx (s.get F.HEADLAND_TX_CTRL.CARRIER)
  match s.headlandRefusal c, s.on F.HEADLAND_IN_CFG.LOOP with
  | some r, false =>
    ((s.set F.HEADLAND_TX_STATUS.REASON r).bump F.HEADLAND_TX_COUNT.REFUSED).raiseEvent 0x16 3 0x1604
  | r, _ =>
    let s := (s.set F.HEADLAND_TX_CTRL.BUSY 1).set F.HEADLAND_TX_CTRL.ABORTED 0
    let s := s.setB F.HEADLAND_TX_STATUS.DARKENED (s.get (F.LINE_TX_CTRL.TX_STATE c) ≠ 2)
    if r.isNone then s.send (.headland c (s.get F.HEADLAND_TX_CTRL.SUB) (packetOf (s.rd R.HEADLAND_SYNC_WORD) s.txPayload)) else s

/-- The link manager writes a message to the transmit registers and GO. -/
def State.headlandLoad (s : State) (c : Carrier) (sub : Nat) (payload : List Byte) : State :=
  let bytes := payload ++ List.replicate (60 - payload.length) 0
  let s := (List.range 15).foldl (fun s k => s.wr (R.HEADLAND_TX_DATA k) (BitVec.ofNat 32 (beNat (slice bytes (4 * k) 4)))) s
  let s := (s.set F.HEADLAND_TX_CTRL.LENGTH payload.length).set F.HEADLAND_TX_CTRL.SUB sub
  (s.set F.HEADLAND_TX_CTRL.CARRIER c.idx).go

/-- While the modem is free, the link manager's waiting messages go to it, at most `n` of them. -/
def State.headlandPump (s : State) : Nat → State
  | 0 => s
  | n + 1 =>
    if s.on F.HEADLAND_TX_CTRL.BUSY then s
    else match s.head.waiting with
      | [] => s
      | (c, sub, bytes) :: rest => ((s.onHead fun h => { h with waiting := rest }).headlandLoad c sub bytes).headlandPump n

/-- A message that the link manager sends as soon as the current packet ends (R128, R208). -/
def State.headlandSend (s : State) (c : Carrier) (sub : Nat) (bytes : List Byte) : State :=
  let s := s.onHead fun h => { h with waiting := h.waiting ++ [(c, sub, bytes)] }
  s.headlandPump s.head.waiting.length

/-- TX_SUBCARRIER of the running plan's HEADLAND record; 0 without one (Table 2.14). -/
def State.planSub (s : State) : Nat := ((s.plan.running.bind (·.rec? 0x0D 0)).map (fun r => min 7 (r.le 0 1))).getD 0

/-- ABORT of a packet on air (Table 10.2). -/
def State.headlandAbort (s : State) : State :=
  if s.on F.HEADLAND_TX_CTRL.BUSY then s.set F.HEADLAND_TX_CTRL.ABORTED 1 else s

/-- The carrier of the packet on air mutes or ramps down (Table 10.2). -/
def State.headlandDarken (s : State) (c : Carrier) : State :=
  if s.on F.HEADLAND_TX_CTRL.BUSY && s.get F.HEADLAND_TX_CTRL.CARRIER = c.idx then
    (s.set F.HEADLAND_TX_STATUS.DARKENED 1).raiseEvent 0x16 10 0x160B
  else s

end Sys2Proof.Machine
end

