-- ==== Sys2Proof/Machine/Decibel.lean ====
section
/-!
DEFINITION. Ratios in 1/256 dB and Q (R69), in exact and fixed-point integer arithmetic that the kernel evaluates: 40 fraction bits
for powers of ten, 128 for the error function (log 67).
-/
namespace Sys2Proof.Machine

/-- The largest `n` below 2^bits with `ok n`, for an `ok` that holds up to some bound: bit by bit from the top. -/
def highest (ok : Nat → Bool) (bits : Nat) : Nat :=
  (List.range bits).foldl (fun n i => let m := n + 2 ^ (bits - 1 - i); if ok m then m else n) 0

/-- Whether 2,560 log10(p / q) is at least n − ½, exactly: 10^(2n − 1) ≤ (p / q)^5120. -/
def dbAtLeast (p q n : Nat) : Bool := 10 ^ (2 * n) * q ^ 5120 ≤ 10 * p ^ 5120

/-- The ratio p / q of two powers in 1/256 dB, to the nearest (R9, Table 3.3); none where there is no such value: a zero power, a ratio
below 0 dB or one beyond the 16 bits of a register. -/
def db256 (p q : Nat) : Option Nat :=
  if p = 0 || q = 0 || !dbAtLeast p q 0 || dbAtLeast p q 65536 then none else some (highest (dbAtLeast p q) 16)

/-- The power ratio of `k` / 256 dB, 10^(k / 2,560), with 40 fraction bits. -/
def powerOf (k : Nat) : Nat :=
  10 ^ (k / 2560) * highest (fun x => x ^ 2560 ≤ 10 ^ (k % 2560) * 2 ^ 102400) 44

/-- OSNR from SNR and SNR_TRX in 1/256 dB and the symbol rate in 0.25 GBd (R69): 1/SNR_ASE = 1/SNR − 1/SNR_TRX, and
Rs / 12.5 GHz = rate / 50. SNR_TRX = 0 disables the correction. None where the rest of the noise is not positive. -/
def osnrOf (snr trx rate : Nat) : Option Nat :=
  let a := powerOf snr
  let b := powerOf trx
  if trx = 0 then db256 (rate * a) (50 * 2 ^ 40)
  else if trx ≤ snr then none
  else db256 (rate * (a * b / (b - a))) (50 * 2 ^ 40)

/-- e^x of a fixed-point x (128 fraction bits) below 32, by its series. -/
def expFix (x : Nat) : Nat :=
  ((List.range 160).foldl (fun (acc, term) i => (acc + term, term * x / (2 ^ 128 * (i + 1)))) (0, 2 ^ 128)).1

/-- erfc of the root of a fixed-point y = x² (128 fraction bits): 1 − (2/√π) x e^(−y) Σ (2y)^k / (1·3·…·(2k+1)). -/
def erfcRoot (y : Nat) : Nat :=
  let series := ((List.range 160).foldl (fun (acc, term) i => (acc + term, term * (2 * y) / (2 ^ 128 * (2 * i + 3)))) (0, 2 ^ 128)).1
  let x := Nat.sqrt (y * 2 ^ 128)
  -- 2^128 × 2/√π
  let c := 383967533763538142977158567454335403656
  2 ^ 128 - c * x / 2 ^ 128 * series / expFix y

/-- Whether 20 log10(√2 · erfc⁻¹(2 · BER)) is at least (n − ½)/256 dB, for a BER in 2^−32: then erfc(x) ≥ 2 BER at
x² = 10^((2n − 1)/5,120) / 2. -/
def qAtLeast (ber n : Nat) : Bool :=
  let half := highest (fun x => x ^ 5120 ≤ 10 * 2 ^ 204800) 42
  let y := powerOf n * 2 ^ 127 / half
  2 * ber * 2 ^ 96 ≤ erfcRoot y

/-- Q of a pre-FEC BER in units of 2^−32 (R69), 1/256 dB to the nearest; none for BER 0 and where Q lies below 0 dB. -/
def qOf (ber : Nat) : Option Nat :=
  if ber = 0 || !qAtLeast ber 0 then none else some (highest (qAtLeast ber) 12)

end Sys2Proof.Machine
end

