-- ==== Sys2Proof/Machine/Receive.lean ====
section
/-!
DEFINITION. The coherent receive chain (chapter 3): levels and loss of signal (R53), chromatic dispersion (R56), nonlinear
compensation banks (R58 to R60), equaliser taps (R63, R64), estimators (R69), acquisition (R71) and re-plan convergence (R72).
-/
namespace Sys2Proof.Machine

/-- Raises a receive bit of a LINE block with its event 0x0801 + bit, B 0x0A01 + bit (R55). -/
def State.lineRaise (s : State) (c : Carrier) (bit : Nat) : State :=
  let blk := 0x08 + 2 * c.idx
  s.raiseEvent blk bit (blk * 256 + 1 + bit)

/-- Raises a receive bit of the FURROW block with its event (Table 3.7). -/
def State.rxRaise (s : State) (c : Carrier) (bit : Nat) : State :=
  s.raiseEvent 0x04 (bit + 8 * c.idx) (0x0401 + bit + 0x10 * c.idx)

/-- Updates a carrier's receive state. -/
def State.onRx (s : State) (c : Carrier) (f : RxSt → RxSt) : State := { s with rx := s.rx.upd c f }

/-! ### Acquisition states (Table 3.5) -/

/-- The acquisition state of a carrier: 0 IDLE, 1 LOS, 2 AGC, 3 CD_SEARCH, 4 CLOCK, 5 FREQ, 6 EQ_BLIND, 7 PILOT, 8 EQ_TRAIN,
9 TRACK. -/
def State.rxState (s : State) (c : Carrier) : Nat := s.get (F.FURROW_RX_STATE.STATE c)

/-- Sets the acquisition state; leaving EQ_TRAIN and TRACK loses frame alignment (Table 5.3). -/
def State.toRx (s : State) (c : Carrier) (st : Nat) : State :=
  let was := s.rxState c
  let s := s.set (F.FURROW_RX_STATE.STATE c) st
  if (was = 8 || was = 9) && !(st = 8 || st = 9) then s.alignLost c else s

/-- The default of a live tap word: the identity, h(i, i) centre tap 0x2000 (R64). -/
def identityTap (w : Nat) : Word := if w % 17 = 8 ∧ w / 17 % 5 = 0 ∧ w < tapWords then 0x2000 else 0

/-- Whether tap `t` is in use with TAPS = `n` (R64). -/
def tapUsed (n t : Nat) : Bool := 16 - (n - 1) / 2 ≤ t && t ≤ 16 + (n - 1) / 2

/-- A tap word with the taps out of use set to 0. -/
def maskTap (n w : Nat) (v : Word) : Word :=
  let even := 2 * (w % 17)
  withBits (withBits v 15 0 (if tapUsed n even then bitsOf v 15 0 else 0)) 31 16
    (if tapUsed n (even + 1) then bitsOf v 31 16 else 0)

/-- Copies a tap set, masking the taps out of use: `src` and `dst` say what an unlisted word reads as. -/
def copyTaps (src dst : Nat → Word) (n : Nat) (st : Store Word) : Store Word :=
  (List.range tapWords).foldl (fun acc w => Store.write dst acc w (maskTap n w (Store.read src st w))) []

/-- The masking of a live set when TAPS changes (R63). -/
def trimTaps (n : Nat) (st : Store Word) : Store Word := copyTaps identityTap identityTap n st

/-- Sets the pilot lock bit of one subcarrier in both of its registers. -/
def State.pilotLock (s : State) (c : Carrier) (sub : Nat) (v : Bool) : State :=
  (s.setB (F.FURROW_RX_SC_STATUS.PILOT_LOCK c sub) v).setB ⟨R.FURROW_RX_STATE c, 16 + sub, 16 + sub⟩ v

/-- The carrier's estimates are no longer measured: their VALID bits clear, but registers that HOLD keeps stay (R69). -/
def State.estInvalid (s : State) (c : Carrier) : State :=
  if s.on (F.FURROW_RX_EST_CTRL.HOLD c) then s
  else (((s.set (F.FURROW_RX_SNR.VALID c) 0).set (F.FURROW_RX_OSNR.VALID c) 0).set (F.FURROW_RX_PDL.VALID c) 0).set
    (F.FURROW_RX_Q.VALID c) 0

/-- All adaptive state but the applied CD value is cleared (R71): live taps to the identity, locks and convergence. -/
def State.clearAdaptive (s : State) (c : Carrier) : State :=
  let s := s.onRx c fun r => { r with tapLive := List.replicate 16 [], pilotPos := none }
  let s := (List.range 16).foldl (fun s k => (s.pilotLock c k false).set (F.FURROW_RX_SC_STATUS.CONVERGED c k) 0) s
  s.estInvalid c

/-- Leaving TRACK raises LOCK_LOST (Table 3.7). -/
def State.leaveTrack (s : State) (c : Carrier) : State :=
  if s.rxState c = 9 then (s.estInvalid c).rxRaise c 1 else s

/-- Entry to LOS from any state but IDLE (Table 3.5): only the loss of light raises LOCK_LOST with it. -/
def State.toLos (s : State) (c : Carrier) : State :=
  if s.rxState c = 0 then s else (s.clearAdaptive c).toRx c 1

/-- A transition that HOLD_ACQ stops (marked † in Table 3.5). -/
def State.acquire (s : State) (c : Carrier) (src : Nat) (k : State → State) : State :=
  if s.rxState c = src && !s.on (F.FURROW_RX_CTRL.HOLD_ACQ c) then k s else s

/-- The CD range of the carrier's compensation kind, ps/nm (R56). -/
def State.cdRange (s : State) (c : Carrier) : Int := if s.hasKind c 0x11 then 300000 else 100000

/-- Entry to CD_SEARCH: in FIXED or TRACK mode CD_SET is applied and the chain goes on to CLOCK (Table 3.5). -/
def State.enterCdSearch (s : State) (c : Carrier) : State :=
  if s.get (F.FURROW_RX_CD_CTRL.MODE c) = 0 then s.toRx c 3
  else (s.onRx c fun r => { r with cd := { r.cd with applied := s.getS (F.FURROW_RX_CD_SET.VALUE c) } }).toRx c 4

/-- The coarse candidates of an AUTO search, ascending, 1,000 ps/nm apart (R56): over the kind's full range where CD_SET is 0 or the last
attempts failed (Table 3.5), else over CD_SET ± SPAN × 1,000 ps/nm clamped to the range. -/
def State.cdCandidates (s : State) (c : Carrier) : List Int :=
  let top := s.cdRange c
  let set := s.getS (F.FURROW_RX_CD_SET.VALUE c)
  let span : Int := s.get (F.FURROW_RX_CD_CTRL.SPAN c) * 1000
  let all := set = 0 || (s.rx.at c).fullSearch
  let lo := if all then -top else clampI (-top) top (set - span)
  let hi := if all then top else clampI (-top) top (set + span)
  (List.range (((hi - lo) / 1000).toNat + 1)).map fun (i : Nat) => lo + 1000 * (i : Int)

/-- The fine candidates around a coarse one: ±1,000 ps/nm in steps of 20, 101 of them (R56). -/
def fineCandidates (mid : Int) : List Int := (List.range 101).map fun (i : Nat) => mid - 1000 + 20 * (i : Int)

/-- The candidate of the highest score, the first of several; a candidate without a score has 0 (log 67). -/
def bestOf : List Int → List Nat → Int → Nat → Int
  | [], _, best, _ => best
  | x :: xs, scores, best, top =>
    if top < scores.headD 0 then bestOf xs scores.tail x (scores.headD 0) else bestOf xs scores.tail best top

/-- The result of an AUTO search (R56): the best fine candidate around the best coarse one, within the kind's range. -/
def State.cdBest (s : State) (c : Carrier) (coarse fine : List Nat) : Int :=
  let cs := s.cdCandidates c
  let mid := bestOf cs coarse (cs.headD 0) 0
  clampI (-s.cdRange c) (s.cdRange c) (bestOf (fineCandidates mid) fine mid 0)

/-! ### Nonlinear compensation banks (R58 to R60) -/

/-- Whether a swap with PAIR exchanges both carriers' banks: JOINT only (R58). -/
def State.paired (s : State) (c : Carrier) : Bool := s.on (F.FURROW_RX_NLC_CTRL.PAIR c) && s.mode = 1

/-- Marks a swap as pending on a carrier. -/
def State.pend (s : State) (c : Carrier) (pair owner reverting : Bool) : State :=
  (s.set (F.FURROW_RX_NLC_CTRL.SWAP_PENDING c) 1).onRx c fun r =>
    { r with pair := pair, owner := owner, reverting := reverting }

/-- Requests a swap (R58): no effect while one is pending. A paired request is pending on both carriers; a swap of the other carrier's
own that was pending there goes with it (DESIGN CHOICE, log 69). -/
def State.requestSwap (s : State) (c : Carrier) (reverting : Bool) : State :=
  if s.on (F.FURROW_RX_NLC_CTRL.SWAP_PENDING c) then s
  else if s.paired c then (s.pend c true true reverting).pend c.other true false reverting
  else s.pend c false true reverting

/-- The percentage that judges a swap (R60): REVERT_PCT of the carrier that asked for it, or, of a pair whose requester has 0, the partner's
(DESIGN CHOICE, log 69). -/
def State.swapPct (s : State) (c : Carrier) (pair : Bool) : Nat :=
  let own := s.get (F.FURROW_RX_NLC_CTRL.REVERT_PCT c)
  if own = 0 && pair then s.get (F.FURROW_RX_NLC_CTRL.REVERT_PCT c.other) else own

/-- The comparison of R60 begins at an exchange that is not itself a revert and is judged by a percentage: the count before it is that of
the last 16 received multiframes (log 69). A comparison that the exchange interrupts is over. -/
def State.evalStart (s : State) (c : Carrier) (pct : Nat) (reverting : Bool) : State :=
  let s := s.evalAbandon c
  if reverting || pct = 0 then s
  else
    let s := s.onLine c fun l => { l with evalBefore := l.corrHist.foldl (· + ·) 0, evalAfter := 0 }
    (s.set (F.FURROW_RX_NLC_CTRL.EVAL c) 1).onRx c fun r => { r with evalPair := false, evalPct := pct }

/-- The comparison of a paired swap at both carriers. -/
def State.evalStartPair (s : State) (c : Carrier) (pct : Nat) (reverting : Bool) : State :=
  let s := (s.evalStart c pct reverting).evalStart c.other pct reverting
  carriers.foldl (fun s c => s.onRx c fun r => { r with evalPair := true }) s

/-- One carrier's banks exchanged: ACTIVE_BANK toggles, the term counts change places, SWAPS and NLC_SWAPPED (R58). -/
def State.exchangeOne (s : State) (c : Carrier) : State :=
  let a := s.get (F.FURROW_RX_NLC_TERMS.ACTIVE c)
  let sh := s.get (F.FURROW_RX_NLC_TERMS.SHADOW c)
  let reverting := (s.rx.at c).reverting
  let s := s.set (F.FURROW_RX_NLC_CTRL.SWAP_PENDING c) 0
  let s := s.set (F.FURROW_RX_NLC_CTRL.ACTIVE_BANK c) (1 - s.get (F.FURROW_RX_NLC_CTRL.ACTIVE_BANK c))
  let s := (s.set (F.FURROW_RX_NLC_TERMS.ACTIVE c) sh).set (F.FURROW_RX_NLC_TERMS.SHADOW c) a
  let s := (s.bump (F.FURROW_RX_NLC_STATUS.SWAPS c)).rxRaise c 2
  let s := if reverting then (s.bump (F.FURROW_RX_NLC_STATUS.REVERTS c)).rxRaise c 3 else s
  s.onRx c fun r => { r with owner := true, reverting := false }

/-- The exchange at a carrier's frame boundary: of both carriers for a paired swap, of which it is the requester (R58). -/
def State.exchange (s : State) (c : Carrier) : State :=
  let r := s.rx.at c
  if !s.on (F.FURROW_RX_NLC_CTRL.SWAP_PENDING c) || !r.owner then s
  else if r.pair then
    let back := r.reverting
    ((s.exchangeOne c).exchangeOne c.other).evalStartPair c (s.swapPct c true) back
  else (s.exchangeOne c).evalStart c (s.swapPct c false) r.reverting

/-- The comparison ends: the part swaps back when the count of corrected bits rose by more than REVERT_PCT %; a pair is judged on the sum
of its counts, once, when the comparison of either ends (R60, log 69). A swap of the user's that still waits for the
same boundary becomes the revert (DESIGN CHOICE, log 69). -/
def State.evalEnd (s : State) (c : Carrier) : State :=
  if !s.on (F.FURROW_RX_NLC_CTRL.EVAL c) then s
  else
    let pct := (s.rx.at c).evalPct
    let pair := (s.rx.at c).evalPair
    let own := s.line.at c
    let partner := s.line.at c.other
    let before := own.evalBefore + (if pair then partner.evalBefore else 0)
    let after := own.evalAfter + (if pair then partner.evalAfter else 0)
    let s := s.evalAbandon c
    if before * (100 + pct) < 100 * after then
      if pair then (s.pend c true true true).pend c.other true false true else s.pend c false true true
    else s

/-- Whether shadow writes are discarded: a swap pends or a comparison runs (R59). -/
def State.shadowLocked (s : State) (c : Carrier) : Bool :=
  s.on (F.FURROW_RX_NLC_CTRL.SWAP_PENDING c) || s.on (F.FURROW_RX_NLC_CTRL.EVAL c)

/-- A write to the shadow window or to SHADOW_TERMS (R59). -/
def State.shadowWrite (s : State) (c : Carrier) (word : Option Nat) (v : Word) : State :=
  if s.shadowLocked c then s.bump (F.FURROW_RX_NLC_STATUS.WR_DROPPED c)
  else match word with
    | none => s.set (F.FURROW_RX_NLC_TERMS.SHADOW c) (min 2048 (bitsOf v 11 0))
    | some w =>
      if s.on (F.FURROW_RX_NLC_CTRL.ACTIVE_BANK c) then
        s.onRx c fun r => { r with bank0 := Store.write (fun _ => 0) r.bank0 w v }
      else s.onRx c fun r => { r with bank1 := Store.write (fun _ => 0) r.bank1 w v }

/-! ### Equaliser tap commands (R64) -/

/-- A tap command: ignored and counted while BUSY; subcarriers the carrier does not have ignore writes (R64, R65). -/
def State.tapCommand (s : State) (c : Carrier) (sub : Nat) (load : Bool) : State :=
  if s.subCount c ≤ sub then s
  else if s.on (F.FURROW_RX_SC_TAP_CMD.BUSY c sub) then s.bump (F.FURROW_RX_SC_STATUS.CMD_IGNORED c sub)
  else (s.set (F.FURROW_RX_SC_TAP_CMD.BUSY c sub) 1).onRx c fun r => { r with tapCmd := r.tapCmd.set sub (some load) }

/-- A tap command carried out at its frame boundary. -/
def State.tapDone (s : State) (c : Carrier) (sub : Nat) : State :=
  if !s.on (F.FURROW_RX_SC_TAP_CMD.BUSY c sub) then s
  else
    let n := s.get (F.FURROW_RX_SC_EQ_CTRL.TAPS c sub)
    let r := s.rx.at c
    let r' :=
      match nth r.tapCmd sub none with
      | some true => { r with tapLive := r.tapLive.set sub (copyTaps (fun _ => 0) identityTap n (nth r.tapShadow sub [])) }
      | some false => { r with tapShadow := r.tapShadow.set sub (copyTaps identityTap (fun _ => 0) n (nth r.tapLive sub [])) }
      | none => r
    let s := s.onRx c fun _ => { r' with tapCmd := r'.tapCmd.set sub none }
    (s.set (F.FURROW_RX_SC_TAP_CMD.BUSY c sub) 0).rxRaise c 6

/-- An equaliser algorithm (R63). -/
inductive EqAlgorithm where
  | cma | pilot | dd
  deriving DecidableEq, Repr

/-- The algorithm in force for MODE in an acquisition state (R63): AUTO follows the sequence, and adapts by none between its states
(log 67); FREEZE holds the taps. -/
def eqAlgorithm (mode state : Nat) : Option EqAlgorithm :=
  match mode with
  | 0 => if state = 6 then some .cma else if state = 8 then some .pilot else if state = 9 then some .dd else none
  | 1 => some .cma
  | 2 => some .pilot
  | 3 => some .dd
  | _ => none

/-- The step size's exponent (R63): MU_ACQ in EQ_BLIND and EQ_TRAIN, MU_TRACK otherwise. -/
def eqStep (ctrl : Word) (state : Nat) : Nat := if state = 6 || state = 8 then bitsOf ctrl 28 24 else bitsOf ctrl 20 16

/-- Tap `t` of filter (i, j) of a live set, f = 4 i + j (R64). -/
def tapOf (st : Store Word) (f t : Nat) : Int :=
  toSigned 16 (bitsOf (Store.read identityTap st (17 * f + t / 2)) (16 * (t % 2) + 15) (16 * (t % 2)))

/-- A live set made of its taps by filter and tap, the taps out of use 0. -/
def tapsFrom (n : Nat) (tap : Nat → Nat → Int) : Store Word :=
  (List.range tapWords).filterMap fun w =>
    let half (t : Nat) : Nat := if t ≤ 32 && tapUsed n t then ofSigned 16 (clampI (-32768) 32767 (tap (w / 17) t)) else 0
    let v : Word := BitVec.ofNat 32 (half (2 * (w % 17)) + 65536 * half (2 * (w % 17) + 1))
    if v = identityTap w then none else some (w, v)

/-- Adaptation of a live set over a frame period (R63): every tap in use moves by the gradient of the algorithm in force times the step
size, to the nearest tap value (R9). -/
def adaptTaps (ctrl : Word) (state : Nat) (grad : List Int) (st : Store Word) : Store Word :=
  match eqAlgorithm (bitsOf ctrl 10 8) state with
  | none => st
  | some _ =>
    if grad.isEmpty then st
    else tapsFrom (bitsOf ctrl 5 0) fun f t => tapOf st f t + roundHalfDown (nth grad (33 * f + t) 0) (2 ^ eqStep ctrl state)

/-- Y filters as the orthogonal complement of the X filters (R63): for an X output p of the Jones vector (x, y), Y takes −q* and p*,
reversed in time (DESIGN CHOICE, log 67). -/
def complementTaps (n : Nat) (st : Store Word) : Store Word :=
  tapsFrom n fun f t =>
    let x (i j : Nat) : Int := tapOf st (4 * i + j) (32 - t)
    match f with
    | 8 => -x 0 2
    | 9 => x 0 3
    | 10 => x 0 0
    | 11 => -x 0 1
    | 12 => x 1 2
    | 13 => -x 1 3
    | 14 => -x 1 0
    | 15 => x 1 1
    | _ => tapOf st f t

/-- Whether singularity is checked: in CMA and PILOT, held or as AUTO follows them (R63, log 67). -/
def State.checksSingular (s : State) (c : Carrier) (sub : Nat) : Bool :=
  let alg := eqAlgorithm (s.get (F.FURROW_RX_SC_EQ_CTRL.MODE c sub)) (s.rxState c)
  alg = some .cma || alg = some .pilot

/-- A singular subcarrier: its Y filters are re-initialised from its X filters, SINGULAR, EQ_SINGULAR (R63). -/
def State.singular (s : State) (c : Carrier) (sub : Nat) : State :=
  if s.subCount c ≤ sub || !s.checksSingular c sub then s
  else
    let n := s.get (F.FURROW_RX_SC_EQ_CTRL.TAPS c sub)
    let s := s.onRx c fun r => { r with tapLive := r.tapLive.modify sub (complementTaps n) }
    (s.bump (F.FURROW_RX_SC_STATUS.SINGULAR c sub)).rxRaise c 5

/-- A control register as the new groups of a build copied it, or as it stands (R72). -/
def State.copiedWord (s : State) (c : Carrier) (a : Nat) : Word :=
  (((s.rx.at c).copy.regs.find? (fun x => x.1 = a)).map (·.2)).getD (s.rd a)

/-- The equalisers adapt over a frame period: the running ones, and the new ones of a hitless re-plan from their copies (R63, R72). -/
def State.adapt (s : State) (c : Carrier) (a : Adaptation) : State :=
  let state := s.rxState c
  let building := s.plan.build.any fun b => b.carrier = c && b.kind = 0x14
  (List.range (s.subCount c)).foldl (fun s k =>
    let ctrl := s.rd (R.FURROW_RX_SC_EQ_CTRL c k)
    s.onRx c fun r =>
      let copied := s.copiedWord c (R.FURROW_RX_SC_EQ_CTRL c k)
      { r with
        tapLive := r.tapLive.modify k (adaptTaps ctrl state (nth a.taps k []))
        copy := if building then { r.copy with taps := r.copy.taps.modify k (adaptTaps copied state (nth a.build k [])) } else r.copy }) s

/-! ### Frame periods and estimators -/

/-- The applied CD over a frame period (R52, R56): in FIXED it goes to CD_SET by 1 ps/nm; in TRACK it goes to a newly written CD_SET; in
AUTO and TRACK it tracks, by at most 1 ps/nm per multiframe of 256 frame periods, once the search is over. -/
def CdLoop.step (r : CdLoop) (mode state : Nat) (set top residual : Int) : CdLoop :=
  if mode = 1 || (mode = 2 && r.moving) then
    let v := stepTowards 1 r.applied set
    { r with applied := v, moving := r.moving && v ≠ set }
  else if state < 4 then { r with wait := 0 }
  else if r.wait < 255 then { r with wait := r.wait + 1 }
  else { r with applied := clampI (-top) top (r.applied + clampI (-1) 1 residual), wait := 0 }

/-- The compensation of the new groups over a frame period: fed the old groups' input, they find what is left after their own value (R72). -/
def State.cdCopyStep (s : State) (c : Carrier) (residual : Int) : CdLoop :=
  let r := s.rx.at c
  if !s.plan.build.any (fun b => b.carrier = c) then r.copy.cd else
  let ctrl := s.copiedWord c (R.FURROW_RX_CD_CTRL c)
  let set := toSigned 32 (s.copiedWord c (R.FURROW_RX_CD_SET c)).toNat
  r.copy.cd.step (bitsOf ctrl 1 0) (s.rxState c) set (s.cdRange c) (residual + r.cd.applied - r.copy.cd.applied)

/-- The gradual movements of one frame period: the applied CD, and skews towards their registers, in the new groups of a re-plan towards
the copied ones (R52, R54, R72); an NLC bypass takes effect at the boundary (R58). -/
def State.gradualRx (s : State) (c : Carrier) (residual : Int) : State :=
  let set := s.getS (F.FURROW_RX_CD_SET.VALUE c)
  let mode := s.get (F.FURROW_RX_CD_CTRL.MODE c)
  let state := s.rxState c
  let top := s.cdRange c
  let bypass := s.on (F.FURROW_RX_NLC_CTRL.BYPASS c)
  let skews := [s.getS (F.FURROW_RX_SKEW_XI.SKEW c), s.getS (F.FURROW_RX_SKEW_XQ.SKEW c), s.getS (F.FURROW_RX_SKEW_YI.SKEW c),
    s.getS (F.FURROW_RX_SKEW_YQ.SKEW c)]
  s.onRx c fun r =>
    let copied := [R.FURROW_RX_SKEW_XI c, R.FURROW_RX_SKEW_XQ c, R.FURROW_RX_SKEW_YI c, R.FURROW_RX_SKEW_YQ c].zip r.copy.skew |>.map fun x =>
      match r.copy.regs.find? (fun y => y.1 = x.1) with
      | some y => stepTowards 1 x.2 (toSigned 16 (bitsOf y.2 15 0))
      | none => x.2
    { r with
      cd := r.cd.step mode state set top residual
      skew := r.skew.zipWith (fun cur t => stepTowards 1 cur t) skews, bypass := bypass
      copy := { r.copy with skew := copied, cd := s.cdCopyStep c residual } }

/-- A change of TAPS takes effect at a frame boundary (R63). -/
def State.tapsChange (s : State) (c : Carrier) : State :=
  (List.range (s.subCount c)).foldl (fun s k =>
    let n := s.get (F.FURROW_RX_SC_EQ_CTRL.TAPS c k)
    if nth (s.rx.at c).tapsInUse k 21 = n then s
    else s.onRx c fun r => { r with tapsInUse := r.tapsInUse.set k n, tapLive := r.tapLive.modify k (trimTaps n) }) s

/-- Samples of a tributary in a frame period: 262,144 symbols at Fs = 9/8 Rs. -/
def frameSamples : Nat := 294912

/-- Whether more than 1 in 65,536 samples of a tributary clipped in a frame period (R53, R84). -/
def frameClipped (clips : List Nat) : Bool := clips.any fun n => frameSamples < 65536 * n

/-- LOS is set, and acquisition returns to LOS (R53, Table 3.5). -/
def State.losSet (s : State) (c : Carrier) : State :=
  if s.on (F.LINE_RX_LOS_CFG.LOS c) then s
  else ((s.set (F.LINE_RX_LOS_CFG.LOS c) 1).lineRaise c 0).leaveTrack c |>.toLos c

/-- LOS is cleared (R53, Table 3.5): wake source 7 (Table 16.4). -/
def State.losDrop (s : State) (c : Carrier) : State :=
  let s := if s.on (F.LINE_RX_LOS_CFG.LOS c) then (s.set (F.LINE_RX_LOS_CFG.LOS c) 0).wakeSource 7 .nothing else s
  if s.rxState c = 1 then s.toRx c 2 else s

/-- Loss of signal by the levels of a frame period (R53): all four tributaries below THRESH − HYST, or one above THRESH, for 16 of them
in a row. Light that lasts takes a chain in LOS on to AGC also where the bit LOS is already 0, as after RESTART or an apply (DEDUCED, log 25). -/
def State.losWatch (s : State) (c : Carrier) (rms : List Nat) : State :=
  let thresh := s.get (F.LINE_RX_LOS_CFG.THRESH c)
  let low := rms.all (fun v => v + s.get (F.LINE_RX_LOS_CFG.HYST c) < thresh)
  let s := s.onRx c fun r =>
    { r with
      dark := if low then min 16 (r.dark + 1) else 0
      lit := r.lit.zipWith (fun n v => if thresh < v then min 16 (n + 1) else 0) rms }
  if (s.rx.at c).dark = 16 then s.losSet c
  else if (s.rx.at c).lit.any (· = 16) then s.losDrop c
  else s

/-- The end of a frame period (R52, R53, R63). -/
def State.framePeriod (s : State) (c : Carrier) (rms : List Byte) (clips : List Nat) (singular : List Nat) (a : Adaptation) : State :=
  let s := s.set (F.LINE_RX_LEVEL.XI_RMS c) (nth rms 0 0).toNat
  let s := s.set (F.LINE_RX_LEVEL.XQ_RMS c) (nth rms 1 0).toNat
  let s := s.set (F.LINE_RX_LEVEL.YI_RMS c) (nth rms 2 0).toNat
  let s := s.set (F.LINE_RX_LEVEL.YQ_RMS c) (nth rms 3 0).toNat
  let s := s.losWatch c ((List.range 4).map fun k => (nth rms k 0).toNat)
  let s := if frameClipped clips then (s.bump (F.LINE_RX_CLIP.CLIPPED c)).lineRaise c 1 else s
  if s.rxState c = 0 then s
  else
    let s := singular.foldl (fun s k => s.singular c k) (s.adapt c a)
    (s.gradualRx c a.residual).tapsChange c

/-- Writes a value in 1/256 dB; where the formula gives none that its field could hold, a free value (R69, log 5). -/
def State.setDb (s : State) (f : Fld) (v : Option Nat) : State :=
  match v with
  | some n => s.set f n
  | none => s.freeWord.2.set f s.freeWord.1.toNat

/-- Sets one of the estimator registers that share the layout VALID and VALUE. A quantity whose formula has no value can not be measured: VALID
is 0 and VALUE free (DEDUCED, log 26). -/
def State.estimate (s : State) (valid value : Fld) (ok : Bool) (v : Option Nat) : State := (s.setB valid (ok && v.isSome)).setDb value v

/-- The carrier SNR of an interval: total signal power over total noise power of all subcarriers and polarisations (Table 3.3). -/
def carrierSnr (e : Estimates) (count : Nat) : Option Nat :=
  let xs := e.subs.take count
  let sum (f : SignalNoise → Nat) : Nat := (xs.map (fun x => f x.1 + f x.2)).foldl (· + ·) 0
  db256 (sum (·.signal)) (sum (·.noise))

/-- All estimator registers of a carrier published together (R69). -/
def State.publish (s : State) (c : Carrier) (e : Estimates) : State :=
  let track := s.rxState c = 9
  let rate := ((s.runCarrier c).map (·.rate)).getD 0
  let snr := carrierSnr e (s.subCount c)
  let osnr := snr.bind fun n => osnrOf n (s.get (F.FURROW_RX_SNR_TRX.VALUE c)) rate
  let s := (List.range (s.subCount c)).foldl (fun s k =>
    let v := nth e.subs k (⟨0, 0⟩, ⟨0, 0⟩)
    (s.setDb (F.FURROW_RX_SC_SNR.SNR_X c k) (db256 v.1.signal v.1.noise)).setDb (F.FURROW_RX_SC_SNR.SNR_Y c k)
      (db256 v.2.signal v.2.noise)) s
  let s := s.estimate (F.FURROW_RX_SNR.VALID c) (F.FURROW_RX_SNR.VALUE c) track snr
  let s := s.estimate (F.FURROW_RX_OSNR.VALID c) (F.FURROW_RX_OSNR.VALUE c) track osnr
  let s := s.estimate (F.FURROW_RX_PDL.VALID c) (F.FURROW_RX_PDL.VALUE c) track (some (min 65535 e.pdl))
  let s := s.estimate (F.FURROW_RX_Q.VALID c) (F.FURROW_RX_Q.VALUE c) (track && e.qMeasured) (qOf (s.get (F.FEC_BER.BER c)))
  let s := (s.setSat (F.FURROW_RX_DGD.MEAN c) e.dgdMean).setSat (F.FURROW_RX_DGD.PEAK c) e.dgdPeak
  let s := s.setS (F.FURROW_RX_CD_EST.VALUE c) (s.rx.at c).cd.applied
  -- FREEZE holds the clock loop's frequency; the loops reach ±100 ppm and ±FO_RANGE GHz (R66)
  let s := if s.on (F.FURROW_RX_CLK_CTRL.FREEZE c) then s
    else s.setS (F.FURROW_RX_CLK_OFFSET.VALUE c) (clampI (-100000) 100000 e.clkOffset)
  let reach : Int := s.get (F.FURROW_RX_CPR_CTRL.FO_RANGE c) * 1000000
  let s := s.setS (F.FURROW_RX_FO_EST.VALUE c) (clampI (-reach) reach e.freqOffset)
  let s := s.onLine c fun l => { l with snrValid := track }
  (s.wrapAdd (F.FURROW_RX_EST_CTRL.SEQ c)).raise 0x04 (7 + 8 * c.idx)

/-! ### Meanings -/

/-- RX_FRAME_PERIOD (R53). -/
def execRxFramePeriod (c : Carrier) (rms : List Byte) (clips : List Nat) (singular : List (Fin 16)) (adapt : Adaptation)
    (s : State) : Host.Outcome State Fault Refusal :=
  .next (s.framePeriod c rms clips (singular.map (·.val)) adapt)

/-- LOS_ASSERT (R53, Table 3.5). -/
def execLosAssert (c : Carrier) (s : State) : Host.Outcome State Fault Refusal :=
  .next (s.losSet c)

/-- LOS_CLEAR (R53, Table 3.5): wake source 7 (Table 16.4). -/
def execLosClear (c : Carrier) (s : State) : Host.Outcome State Fault Refusal :=
  .next (s.losDrop c)

/-- RX_QUEUE_OVF (R53). -/
def execRxQueueOvf (c : Carrier) (s : State) : Host.Outcome State Fault Refusal :=
  .next ((s.bump (F.LINE_RX_QUEUE.OVERFLOWS c)).lineRaise c 2)

/-- SWAP (R58). -/
def execSwap (path : Path) (c : Carrier) (pair : Bool) (s : State) : Host.Outcome State Fault Refusal :=
  .next (s.rwWrite path (R.FURROW_RX_NLC_CTRL c) fun s =>
    (s.setB (F.FURROW_RX_NLC_CTRL.PAIR c) pair).requestSwap c false)

/-- NLC_EXCHANGE (R58). -/
def execNlcExchange (c : Carrier) (s : State) : Host.Outcome State Fault Refusal :=
  .next (s.exchange c)

/-- NLC_EVAL_END (R60). -/
def execNlcEvalEnd (c : Carrier) (s : State) : Host.Outcome State Fault Refusal :=
  .next (s.evalEnd c)

/-- NLC_SHADOW_WRITE (R59). -/
def execNlcShadowWrite (path : Path) (c : Carrier) (word : Option (Fin 4096)) (value : Word) (s : State) :
    Host.Outcome State Fault Refusal :=
  .next (s.rwWrite path (R.FURROW_RX_NLC_TERMS c) fun s => s.shadowWrite c (word.map (·.val)) value)

/-- TAP_SNAPSHOT (R64). -/
def execTapSnapshot (path : Path) (c : Carrier) (sub : Fin 16) (s : State) : Host.Outcome State Fault Refusal :=
  .next (s.rwWrite path (R.FURROW_RX_SC_TAP_CMD c sub) fun s => s.tapCommand c sub false)

/-- TAP_LOAD (R64). -/
def execTapLoad (path : Path) (c : Carrier) (sub : Fin 16) (s : State) : Host.Outcome State Fault Refusal :=
  .next (s.rwWrite path (R.FURROW_RX_SC_TAP_CMD c sub) fun s => s.tapCommand c sub true)

/-- TAP_DONE (R64). -/
def execTapDone (c : Carrier) (sub : Fin 16) (s : State) : Host.Outcome State Fault Refusal :=
  .next (s.tapDone c sub)

/-- RESTART (R71): RETRIES counts from here. -/
def execRestart (path : Path) (c : Carrier) (s : State) : Host.Outcome State Fault Refusal :=
  .next (s.rwWrite path (R.FURROW_RX_CTRL c) fun s => (s.set (F.FURROW_RX_STATE.RETRIES c) 0).toLos c)

/-- AGC_SETTLED (Table 3.5). -/
def execAgcSettled (c : Carrier) (s : State) : Host.Outcome State Fault Refusal :=
  .next (s.acquire c 2 fun s => s.enterCdSearch c)

/-- CD_SEARCH_COMPLETE (R56, Table 3.5): MODE is AUTO. -/
def execCdSearchComplete (c : Carrier) (coarse fine : List Nat) (s : State) : Host.Outcome State Fault Refusal :=
  .next (s.acquire c 3 fun s =>
    if s.get (F.FURROW_RX_CD_CTRL.MODE c) = 0 then
      (s.onRx c fun r => { r with cd := { r.cd with applied := s.cdBest c coarse fine, wait := 0 }, fullSearch := false }).toRx c 4
    else s)

/-- CLOCK_LOCKED (Table 3.5). -/
def execClockLocked (c : Carrier) (s : State) : Host.Outcome State Fault Refusal :=
  .next (s.acquire c 4 fun s => s.toRx c 5)

/-- FREQ_STABLE (Table 3.5). -/
def execFreqStable (c : Carrier) (s : State) : Host.Outcome State Fault Refusal :=
  .next (s.acquire c 5 fun s => s.toRx c 6)

/-- CMA_CONVERGED (Table 3.5). -/
def execCmaConverged (c : Carrier) (s : State) : Host.Outcome State Fault Refusal :=
  .next (s.acquire c 6 fun s => s.toRx c 7)

/-- PILOTS_FOUND (Table 3.5): every subcarrier's pilots held, the position passed to the framer. -/
def execPilotsFound (c : Carrier) (position : Nat) (s : State) : Host.Outcome State Fault Refusal :=
  .next (s.acquire c 7 fun s =>
    let s := (List.range (s.subCount c)).foldl (fun s k => s.pilotLock c k true) s
    (s.onRx c fun r => { r with pilotPos := some position }).toRx c 8)

/-- SNR_STABLE (Table 3.5): TRACK, ACQ_TIME and ACQ_DONE. -/
def execSnrStable (c : Carrier) (acqUs : Nat) (s : State) : Host.Outcome State Fault Refusal :=
  .next (s.acquire c 8 fun s => ((s.setSat (F.FURROW_RX_ACQ_TIME.VALUE c) acqUs).toRx c 9).rxRaise c 0)

/-- ACQ_LIMIT (Table 3.5). -/
def execAcqLimit (c : Carrier) (s : State) : Host.Outcome State Fault Refusal :=
  .next (
    if 2 ≤ s.rxState c && s.rxState c ≤ 8 then
      let n := s.get (F.FURROW_RX_STATE.RETRIES c) + 1
      let s := s.setSat (F.FURROW_RX_STATE.RETRIES c) n
      if n % 4 = 0 then (s.onRx c fun r => { r with fullSearch := true }).toRx c 2 else s.enterCdSearch c
    else s)

/-- PILOT_LOCK_LOST (Table 3.5). -/
def execPilotLockLost (c : Carrier) (sub : Fin 16) (s : State) : Host.Outcome State Fault Refusal :=
  .next (
    let s := s.pilotLock c sub false
    if s.rxState c = 9 then (s.leaveTrack c).toRx c 6 else s)

/-- CLOCK_LOCK_LOST (Table 3.5). -/
def execClockLockLost (c : Carrier) (s : State) : Host.Outcome State Fault Refusal :=
  .next (if s.rxState c = 9 then (s.leaveTrack c).toRx c 4 else s)

/-- CYCLE_SLIP (R67): the pilot phase disagrees with the unwrapped decision-directed phase by `turn` quarter turns; 0 is no slip. -/
def execCycleSlip (c : Carrier) (turn : Fin 4) (persists : Bool) (s : State) : Host.Outcome State Fault Refusal :=
  .next (
    if turn = 0 then s
    else if persists then (s.bump (F.FURROW_RX_SLIPS.UNRESOLVED c)).rxRaise c 4 else s.bump (F.FURROW_RX_SLIPS.CORRECTED c))

/-- EST_INTERVAL_END (R69): nothing is published while HOLD is 1; a new AVG_MF begins with the next interval (Table 3.2). -/
def execEstIntervalEnd (c : Carrier) (est : Estimates) (s : State) : Host.Outcome State Fault Refusal :=
  .next (
    let s := s.onRx c fun r => { r with avgMf := s.get (F.FURROW_RX_EST_CTRL.AVG_MF c) }
    if s.on (F.FURROW_RX_EST_CTRL.HOLD c) || s.rxState c = 0 then s else s.publish c est)

/-- GROUP_CONVERGED (R72): recorded for the build; the windows address the new group, and show it, from the switch. -/
def execGroupConverged (group : Fin 32) (s : State) : Host.Outcome State Fault Refusal :=
  .next (
    match s.plan.build.find? (fun b => b.group = group.val) with
    | none => s
    | some _ => s.onPlan fun q => { q with converged := group.val :: q.converged.filter (· ≠ group.val) })

end Sys2Proof.Machine
end

