-- ==== Sys2Proof/Machine/Transmit.lean ====
section
/-!
DEFINITION. Transmit processing and shaping (chapter 4): muting and ramps (R86), gradual controls (R75), the DAC response set
(R83), clipping (R84), net rates (R80) and hitless entropy steps (R87 to R89).
-/
namespace Sys2Proof.Machine

/-- Raises a transmit bit of the FURROW block with its event (Table 4.6): bit 16 is 0 here. -/
def State.txRaise (s : State) (c : Carrier) (n : Nat) : State :=
  s.raiseEvent 0x04 (16 + n + 8 * c.idx) (0x0421 + n + 0x10 * c.idx)

/-- Updates a carrier's transmit state. -/
def State.onTx (s : State) (c : Carrier) (f : TxSt → TxSt) : State := { s with tx := s.tx.upd c f }

/-- The transmitter state: 0 OFF, 1 RAMP_UP, 2 ON, 3 RAMP_DOWN. -/
def State.txState (s : State) (c : Carrier) : Nat := s.get (F.LINE_TX_CTRL.TX_STATE c)

/-- Sets the transmitter state. -/
def State.toTx (s : State) (c : Carrier) (st : Nat) : State := s.set (F.LINE_TX_CTRL.TX_STATE c) st

/-- The transmitter starts to ramp down: from RAMP_UP the ramp reverses (R86). -/
def State.rampDown (s : State) (c : Carrier) : State :=
  if s.txState c = 2 || s.txState c = 1 then (s.toTx c 3).headlandDarken c else s

/-- The transmitter starts to ramp up if the plan has the carrier transmit, it is not muted and no cold apply or shut-down holds it off
(R75, R86, R336). -/
def State.rampUp (s : State) (c : Carrier) : State :=
  if (s.txState c = 0 || s.txState c = 3) && s.on (F.LINE_TX_CTRL.ENABLED c) && !s.on (F.LINE_TX_CTRL.MUTE c)
      && s.bufState != 6 && !s.shut then s.toTx c 1
  else s

/-! ### Net rates (R80, R87) -/

/-- The subcarriers of a carrier with the entropies of a field: TARGET or CURRENT. -/
def State.txSubs (s : State) (c : Carrier) (f : Carrier → Nat → Fld) : List SubRec :=
  (List.range (s.subCount c)).map fun k => ⟨s.get (F.FURROW_TX_SC_ENTROPY.BASE c k), 0, s.get (f c k)⟩

/-- One subcarrier's net rate in units of 1/16 Gb/s, truncated. -/
def subSixteenths (rate code count : Nat) (x : SubRec) : Nat := 16 * subNet rate code x / (16384000 * count)

/-- The net rates and capacities recomputed from the entropies in force and staged (R80, R87). -/
def State.netUpdate (s : State) (c : Carrier) : State :=
  let target := s.txSubs c F.FURROW_TX_SC_ENTROPY.TARGET
  let current := s.txSubs c F.FURROW_TX_SC_ENTROPY.CURRENT
  match s.runCarrier c, s.runFec c with
  | some cr, some f =>
    let s := s.setSat (F.FURROW_TX_NET.NET_TARGET c) (netSixteenths cr.rate f.code target)
    let s := s.setSat (F.FURROW_TX_NET.NET_CURRENT c) (netSixteenths cr.rate f.code current)
    let s := s.set (F.FURROW_TX_SLOTS.TARGET c) (netSlots cr.rate f.code target)
    let s := s.set (F.FURROW_TX_SLOTS.CURRENT c) (netSlots cr.rate f.code current)
    let n := target.length
    (List.range n).foldl (fun s k =>
      let s := s.setSat (F.FURROW_TX_SC_NET.TARGET c k) (subSixteenths cr.rate f.code n (nth target k ⟨0, 0, 64⟩))
      s.setSat (F.FURROW_TX_SC_NET.CURRENT c k) (subSixteenths cr.rate f.code n (nth current k ⟨0, 0, 64⟩))) s
  | _, _ =>
    let s := ((s.wr (R.FURROW_TX_NET c) 0).set (F.FURROW_TX_SLOTS.TARGET c) 0).set (F.FURROW_TX_SLOTS.CURRENT c) 0
    (List.range target.length).foldl (fun s k => s.wr (R.FURROW_TX_SC_NET c k) 0) s

/-! ### Gradual controls (R75, R82) -/

/-- The written targets of the skews and IQ values. -/
def State.skewTargets (s : State) (c : Carrier) : List Int :=
  [s.getS (F.FURROW_TX_SKEW_XI.SKEW c), s.getS (F.FURROW_TX_SKEW_XQ.SKEW c), s.getS (F.FURROW_TX_SKEW_YI.SKEW c),
    s.getS (F.FURROW_TX_SKEW_YQ.SKEW c)]

/-- GAIN and PHASE of X, then of Y. -/
def State.iqTargets (s : State) (c : Carrier) : List Int :=
  [s.getS (F.FURROW_TX_IQ_X.GAIN c), s.getS (F.FURROW_TX_IQ_X.PHASE c), s.getS (F.FURROW_TX_IQ_Y.GAIN c),
    s.getS (F.FURROW_TX_IQ_Y.PHASE c)]

/-- Whether every gradual control of a carrier has reached its target (R94). -/
def State.settled (s : State) (c : Carrier) : Bool :=
  !s.depthRamping c && (List.range (s.subCount c)).all (fun k => !s.powerRamping c k)
    && (s.tx.at c).skew = s.skewTargets c && (s.tx.at c).iq = s.iqTargets c

/-- RAMP_SETTLED where a write leaves every control at its target that was not there before it (R94). -/
def State.settleNote (s before : State) (c : Carrier) : State :=
  if !before.settled c && s.settled c then s.raise 0x04 (21 + 8 * c.idx) else s

/-- One step of a value of a list towards its target. -/
def stepAt (l targets : List Int) (k : Nat) : List Int := l.set k (stepTowards 1 (nth l k 0) (nth targets k 0))

/-- A gradual control moves one step towards its written value; RAMP_SETTLED when the last one arrives (R75, R94). -/
def State.gradualStep (s : State) (c : Carrier) (g : GradualControl) : State :=
  let before := s
  let s :=
    match g with
    | .power k =>
      if k.val < s.subCount c then
        s.setS (F.FURROW_TX_SC_POWER.APPLIED c k)
          (stepTowards 1 (s.getS (F.FURROW_TX_SC_POWER.APPLIED c k)) (s.getS (F.FURROW_TX_SC_POWER.OFFSET c k)))
      else s
    | .skew k => s.onTx c fun x => { x with skew := stepAt x.skew (s.skewTargets c) k }
    | .iq k => s.onTx c fun x => { x with iq := stepAt x.iq (s.iqTargets c) k }
    | .depth =>
      s.setS (F.FURROW_TX_HL.APPLIED c)
        (stepTowards 1 (s.get (F.FURROW_TX_HL.APPLIED c)) (s.depthTarget c))
  s.settleNote before c

/-- The controls taken at a transmit frame boundary (Table 4.2). -/
def State.boundaryControls (s : State) (c : Carrier) : State :=
  let pd := s.on (F.FURROW_TX_CTRL.PD_BYPASS c)
  let resp := s.on (F.FURROW_TX_CTRL.RESP_BYPASS c)
  let mu := s.get (F.FURROW_TX_MOD.MOD_INDEX c)
  let ratio := s.get (F.FURROW_TX_MOD.CLIP_RATIO c)
  s.onTx c fun x => { x with modIndex := mu, clipRatio := ratio, pdBypass := pd, respBypass := resp }

/-- Every gradual control takes its target at once: boot and cold apply (R75). -/
def State.gradualJump (s : State) (c : Carrier) : State :=
  let before := s
  let s := (List.range (s.subCount c)).foldl (fun s k =>
    s.set (F.FURROW_TX_SC_POWER.APPLIED c k) (s.get (F.FURROW_TX_SC_POWER.OFFSET c k))) s
  let s := s.set (F.FURROW_TX_HL.APPLIED c) (s.depthTarget c)
  ((s.onTx c fun x => { x with skew := s.skewTargets c, iq := s.iqTargets c }).boundaryControls c).settleNote before c

/-! ### The DAC response set (R83) -/

/-- A LOAD: discarded and counted while one waits. -/
def State.respLoad (s : State) (c : Carrier) : State :=
  if s.on (F.FURROW_TX_RESP.BUSY c) then s.bump (F.FURROW_TX_RESP.DROPPED c) else s.set (F.FURROW_TX_RESP.BUSY c) 1

/-- A write to the response shadow: discarded and counted while a LOAD waits. -/
def State.respShadowWrite (s : State) (c : Carrier) (w : Nat) (v : Word) : State :=
  if s.on (F.FURROW_TX_RESP.BUSY c) then s.bump (F.FURROW_TX_RESP.DROPPED c) else s.wr (R.FURROW_TX_RESP_SHADOW c w) v

/-- The shadow becomes active at the transmit frame boundary, with the BOOST written; a TX_RESP record that moves the sets stops moving them
(R348; DEDUCED, log 91). -/
def State.respLoaded (s : State) (c : Carrier) : State :=
  if !s.on (F.FURROW_TX_RESP.BUSY c) then s
  else
    let words := (List.range 68).map (fun w => s.rd (R.FURROW_TX_RESP_SHADOW c w))
    let boost := s.get (F.FURROW_TX_RESP.BOOST c)
    let s := ((s.onTx c fun x => { x with resp := words, boost := boost }).set (F.FURROW_TX_RESP.BUSY c) 0).txRaise c 3
    if (nth s.cal.target (4 + c.idx) none).isSome then
      (s.onCal fun k => { k with measured := k.measured.filter (· ≠ 4 + c.idx) }).calSettle (4 + c.idx)
    else s.onCal fun k => { k with measured := k.measured.filter (· ≠ 4 + c.idx) }

/-! ### Entropy steps (R87, R88) -/

/-- A staged TARGET, clamped to the range and then to MAX_STEP of CURRENT (R87). -/
def State.clampTarget (s : State) (c : Carrier) (k v : Nat) : Nat :=
  let cur := s.get (F.FURROW_TX_SC_ENTROPY.CURRENT c k)
  let step := s.get (F.FURROW_TX_SC_RANGE.MAX_STEP c k)
  clampN (cur - step) (cur + step) (clampN (s.get (F.FURROW_TX_SC_RANGE.MIN c k)) (s.get (F.FURROW_TX_SC_RANGE.MAX c k)) v)

/-- Whether an entropy step is armed. -/
def State.stepArmed (s : State) (c : Carrier) : Bool := s.on (F.FURROW_TX_STEP.ARMED c)

/-- Plough stages a TARGET (R87, R89). A window above the subcarrier count ignores writes of every path, uncounted (R93; DEDUCED, log 71). -/
def State.writeTarget (s : State) (p : Path) (c : Carrier) (k v : Nat) : State :=
  if s.subCount c ≤ k then s
  else s.ploughOnly p c fun s =>
    if s.stepArmed c then s.bump (F.FURROW_TX_STEP_STATUS.DROPPED c)
    else (s.set (F.FURROW_TX_SC_ENTROPY.TARGET c k) (s.clampTarget c k v)).netUpdate c

/-- Check 4 of Table 4.4: every subcarrier that changes has held its entropy for HOLD_MF multiframes, modulo 2^24; the half window of R88
bounds the lead over C alone (DEDUCED, log 71). -/
def State.holdOk (s : State) (c : Carrier) (m : Nat) : Bool :=
  (List.range (s.subCount c)).all fun k =>
    s.get (F.FURROW_TX_SC_ENTROPY.TARGET c k) = s.get (F.FURROW_TX_SC_ENTROPY.CURRENT c k)
      || !s.on (F.FURROW_TX_SC_LAST_STEP.VALID c k)
      || s.get (F.FURROW_TX_SC_RANGE.HOLD_MF c k) ≤ mfAhead m (s.get (F.FURROW_TX_SC_LAST_STEP.MF c k))

/-- The first failing check of Table 4.4 for an ARM at `m`: its REASON, 0 if all pass. -/
def State.armReason (s : State) (c : Carrier) (m : Nat) : Nat :=
  if !((s.runCarrier c).map (·.tx)).getD false then 1
  else if !mfAtLeast m (s.txMf c) 65 then 2
  else if s.replanAt m then 3
  else if !s.holdOk c m then 4
  else if s.get (F.FURROW_TX_SLOTS.TARGET c) < s.get (F.FURROW_TX_SLOTS.USED c) then 5
  else 0

/-- ARM at multiframe `m` (Tables 4.4 and 4.5). -/
def State.stepArm (s : State) (c : Carrier) (m : Nat) : State :=
  if s.stepArmed c then s.bump (F.FURROW_TX_STEP_STATUS.DROPPED c)
  else
    let s := s.set (F.FURROW_TX_STEP.STEP_MF c) m
    match s.armReason c (m % 2 ^ 24) with
    | 0 => (s.set (F.FURROW_TX_STEP.ARMED c) 1).txRaise c 0
    | r => ((s.set (F.FURROW_TX_STEP.REASON c) r).bump (F.FURROW_TX_STEP_STATUS.REFUSED c)).txRaise c 2

/-- The first symbol of transmit multiframe M: CURRENT takes TARGET (Table 4.5). -/
def State.stepDone (s : State) (c : Carrier) : State :=
  let m := s.get (F.FURROW_TX_STEP.STEP_MF c)
  let s := (List.range (s.subCount c)).foldl (fun s k =>
    let t := s.get (F.FURROW_TX_SC_ENTROPY.TARGET c k)
    if t = s.get (F.FURROW_TX_SC_ENTROPY.CURRENT c k) then s
    else ((s.set (F.FURROW_TX_SC_ENTROPY.CURRENT c k) t).set (F.FURROW_TX_SC_LAST_STEP.MF c k) m).set
      (F.FURROW_TX_SC_LAST_STEP.VALID c k) 1) s
  (((s.set (F.FURROW_TX_STEP.ARMED c) 0).bump (F.FURROW_TX_STEP_STATUS.DONE c)).netUpdate c).txRaise c 1

/-! ### Meanings -/

/-- MUTE (R86). -/
def execMute (path : Path) (c : Carrier) (s : State) : Host.Outcome State Fault Refusal :=
  .next (s.rwWrite path (R.LINE_TX_CTRL c) fun s => (s.set (F.LINE_TX_CTRL.MUTE c) 1).rampDown c)

/-- UNMUTE (R86). -/
def execUnmute (path : Path) (c : Carrier) (s : State) : Host.Outcome State Fault Refusal :=
  .next (s.rwWrite path (R.LINE_TX_CTRL c) fun s => (s.set (F.LINE_TX_CTRL.MUTE c) 0).rampUp c)

/-- The length of a ramp in the units of `TxSt.ramp`: 1 ms at the carrier's symbol rate (R86). -/
def State.rampFull (s : State) (c : Carrier) : Nat := ((s.runCarrier c).map (·.rate)).getD 0 * 1000000

/-- A ramp comes further by one frame period, 1,048,576 of its units, up or down from where it is (R86). -/
def State.rampStep (s : State) (c : Carrier) : State :=
  if s.txState c = 1 then s.onTx c fun x => { x with ramp := min (s.rampFull c) (x.ramp + 1048576) }
  else if s.txState c = 3 then s.onTx c fun x => { x with ramp := x.ramp - 1048576 }
  else s

/-- TX_RAMP_END (R86): in OFF the DACs send code 0. -/
def execTxRampEnd (c : Carrier) (s : State) : Host.Outcome State Fault Refusal :=
  .next (
    if s.txState c = 1 then ((s.onTx c fun x => { x with ramp := s.rampFull c }).toTx c 2).lineRaise c 17
    else if s.txState c = 3 then (((s.onTx c fun x => { x with ramp := 0 }).toTx c 0).send (.dacZero c)).lineRaise c 17
    else s)

/-- TX_QUEUE_UNF (R86): code 0 for the missing block. -/
def execTxQueueUnf (c : Carrier) (s : State) : Host.Outcome State Fault Refusal :=
  .next (((s.send (.dacZero c)).bump (F.LINE_TX_QUEUE.UNDERFLOWS c)).lineRaise c 16)

/-- RESP_LOAD (R83). -/
def execRespLoad (path : Path) (c : Carrier) (s : State) : Host.Outcome State Fault Refusal :=
  .next (s.rwWrite path (R.FURROW_TX_RESP c) fun s => s.respLoad c)

/-- RESP_LOADED (R83). -/
def execRespLoaded (c : Carrier) (s : State) : Host.Outcome State Fault Refusal :=
  .next (s.respLoaded c)

/-- GRADUAL_CONTROL_STEP (R75). -/
def execGradualControlStep (c : Carrier) (control : GradualControl) (s : State) : Host.Outcome State Fault Refusal :=
  .next (s.gradualStep c control)

/-- TX_FRAME_PERIOD (R84): boundary controls, and a BOOST written while no LOAD waits, take effect (Table 4.2); a ramp comes further. -/
def execTxFramePeriod (c : Carrier) (clips : List Nat) (s : State) : Host.Outcome State Fault Refusal :=
  .next (
    let boost := s.get (F.FURROW_TX_RESP.BOOST c)
    let s := if s.on (F.FURROW_TX_RESP.BUSY c) then s else s.onTx c fun x => { x with boost := boost }
    let s := (s.boundaryControls c).rampStep c
    if frameClipped clips then (s.bump (F.FURROW_TX_CLIP.CLIPPED c)).txRaise c 4 else s)

/-- ENTROPY_TARGET_WRITE (R87, R89). -/
def execEntropyTargetWrite (path : Path) (c : Carrier) (sub : Fin 16) (target : Nat) (s : State) :
    Host.Outcome State Fault Refusal :=
  .next (
    if s.isDown (R.FURROW_TX_SC_ENTROPY c sub) then s.downAccess path (R.FURROW_TX_SC_ENTROPY c sub) true
    else s.writeTarget path c sub target)

/-- STEP_ARM (R88, R89). -/
def execStepArm (path : Path) (c : Carrier) (mf : Nat) (s : State) : Host.Outcome State Fault Refusal :=
  .next (
    if s.isDown (R.FURROW_TX_STEP c) then s.downAccess path (R.FURROW_TX_STEP c) true
    else s.ploughOnly path c fun s => s.stepArm c mf)

/-- STEP_CANCEL (Table 4.5): counted in DROPPED, armed or not. -/
def execStepCancel (path : Path) (c : Carrier) (s : State) : Host.Outcome State Fault Refusal :=
  .next (
    if s.isDown (R.FURROW_TX_STEP c) then s.downAccess path (R.FURROW_TX_STEP c) true
    else s.bump (F.FURROW_TX_STEP_STATUS.DROPPED c))

end Sys2Proof.Machine
end

