-- ==== Sys2Proof/Machine/CalOps.lean ====
section
/-!
DEFINITION. Calibration records (chapter 17): their layout (R342, R343), plausibility (R346), the choice between copies (R344) and
their application, at once or gradually (R348).
-/
namespace Sys2Proof.Machine

/-! ### Records (R342, R343) -/

/-- The record type of a slot (Table 17.2); 0 for the reserved slots 10 to 15. -/
def calType (slot : Nat) : Nat :=
  if slot < 8 then slot / 2 + 1 else if slot = 8 then 5 else if slot = 9 then 6 else if slot < 16 then 0 else 7

/-- The INSTANCE of a slot's record. -/
def calInst (slot : Nat) : Nat := if slot < 8 then slot % 2 else if slot < 16 then 0 else slot - 16

/-- The body length of a record type. -/
def calLen : Nat → Nat
  | 1 => 5120
  | 2 => 5120
  | 3 => 272
  | 4 => 44
  | 5 => 1024
  | 6 => 160
  | 7 => 16
  | _ => 0

/-- A record: header, body, CRC-32C. -/
def calRecord (slot seq source quality : Nat) (temp : Int) (body : List Byte) : List Byte :=
  let head := leBytes 4 0x4C414354 ++ leBytes 2 (calType slot) ++ leBytes 1 (calInst slot) ++ leBytes 1 1 ++ leBytes 4 seq
    ++ leBytes 4 body.length ++ leBytes 1 source ++ leBytes 1 (ofSigned 8 temp) ++ leBytes 2 quality ++ List.replicate 12 0
  head ++ body ++ leBytes 4 (crc32c (head ++ body))

/-- SEQ, SOURCE, TEMP, QUALITY and the body of a copy. -/
def calSeq (r : List Byte) : Nat := leNat (slice r 8 4)
def calSource (r : List Byte) : Nat := leNat (slice r 16 1)
def calTemp (r : List Byte) : Int := toSigned 8 (leNat (slice r 17 1))
def calQuality (r : List Byte) : Nat := leNat (slice r 18 2)
def calBody (slot : Nat) (r : List Byte) : List Byte := slice r 32 (calLen (calType slot))

/-- Whether a copy is valid (R344). -/
def calValid (slot : Nat) (r : List Byte) : Bool :=
  let n := calLen (calType slot)
  n ≠ 0 && 36 + n ≤ r.length && leNat (slice r 0 4) = 0x4C414354 && leNat (slice r 4 2) = calType slot
    && leNat (slice r 6 1) = calInst slot && leNat (slice r 7 1) = 1 && leNat (slice r 12 4) = n
    && crc32c (slice r 0 (32 + n)) = leNat (slice r (32 + n) 4)

/-- A word of a body, and its signed fields. -/
def calWord (body : List Byte) (i : Nat) : Word := BitVec.ofNat 32 (leNat (slice body (4 * i) 4))
def calSigned (body : List Byte) (off n : Nat) : Int := toSigned (8 * n) (leNat (slice body off n))

/-! ### Plausibility (R346) -/

/-- Whether a signed value lies within ±limit. -/
def within (limit : Nat) (v : Int) : Bool := -(limit : Int) ≤ v && v ≤ limit

/-- A tap of a response set: set `j`, tap `t` (R83). -/
def respTap (body : List Byte) (j t : Nat) : Int := calSigned body (68 * j + 2 * t) 2

/-- The six FFE taps of a HOST_LANE body, c(−3) to c(2): words in the layout of the lane's registers. -/
def laneTaps (body : List Byte) : List Int :=
  [calSigned body 0 1, calSigned body 1 1, calSigned body 2 1, calSigned body 4 1, calSigned body 5 1, calSigned body 6 1]

/-- The fields of a body with their byte offsets, each with whether it meets Table 17.3. -/
def calFields (slot : Nat) (body : List Byte) : List (Nat × Bool) :=
  match calType slot with
  | 1 | 2 => (List.range 1024).flatMap fun e =>
      [(5 * e, within 64 (calSigned body (5 * e) 1)), (5 * e + 1, within 819 (calSigned body (5 * e + 1) 2)),
        (5 * e + 3, within 100 (calSigned body (5 * e + 3) 2))]
  | 3 => (List.range 4).flatMap fun j =>
      let total := ((List.range 33).map (fun t => (respTap body j t).natAbs)).foldl (· + ·) 0
      let centre := respTap body j 16
      [(68 * j, total ≤ 0x8000), (68 * j + 32, 0x1000 ≤ centre && centre ≤ 0x3000)]
  | 4 =>
      (List.range 8).map (fun i => (4 * i, within 2048 (calSigned body (4 * i) 2)))
      ++ [32, 34, 36, 38].map (fun o => (o, within 4096 (calSigned body o 2)))
      ++ [(40, let v := leNat (slice body 40 4); 2560 ≤ v && v ≤ 10240)]
  | 5 => (List.range 128).flatMap fun j =>
      let g := leNat (slice body (8 * j + 4) 3)
      [(8 * j, within 262144 (calSigned body (8 * j) 3)), (8 * j + 4, 3774874 ≤ g && g ≤ 4613734)]
  | 6 => (List.range 40).map fun i => (4 * i, leNat (slice body (4 * i) 4) ≤ 256000000)
  | 7 =>
      let taps := laneTaps body
      let limits := [8, 12, 24, 64, 24, 12]
      let offs := [0, 1, 2, 4, 5, 6]
      let side : List Nat := ((List.range 6).filter (· ≠ 3)).map (fun i => (nth taps i 0).natAbs)
      let sum : Nat := side.foldl (· + ·) 0
      (List.range 6).map (fun i => (nth offs i 0,
        if i = 3 then decide (24 ≤ nth taps 3 0) && decide (nth taps 3 0 ≤ 64 - (sum : Int)) else within (nth limits i 0) (nth taps i 0)))
      ++ [(0, decide (sum ≤ 40)), (8, let v := bitsOf (calWord body 2) 22 16; decide (40 ≤ v) && decide (v ≤ 120)),
        (12, decide (bitsOf (calWord body 3) 22 16 ≤ 40))]
  | _ => []

/-- The offset of the first field that fails R346; none for a plausible body. -/
def calFault (slot : Nat) (body : List Byte) : Option Nat := ((calFields slot body).find? (fun f => !f.2)).map (·.1)

/-- A record that fails R346 is reported; the values in use are kept. -/
def State.calImplausible (s : State) (slot field : Nat) : State :=
  (((s.set F.CAL_STATUS.REASON 3).set F.CAL_STATUS.SLOT slot).set F.CAL_STATUS.FIELD field).calRaise 1

/-! ### Application at once (R348) -/

/-- The registers of an OPTICS body's words, in the order of Table 17.2. -/
def opticsReg (c : Carrier) : List Nat :=
  [R.FURROW_RX_SKEW_XI c, R.FURROW_RX_SKEW_XQ c, R.FURROW_RX_SKEW_YI c, R.FURROW_RX_SKEW_YQ c,
    R.FURROW_TX_SKEW_XI c, R.FURROW_TX_SKEW_XQ c, R.FURROW_TX_SKEW_YI c, R.FURROW_TX_SKEW_YQ c,
    R.FURROW_TX_IQ_X c, R.FURROW_TX_IQ_Y c, R.FURROW_RX_SNR_TRX c]

/-- An interleave entry of a body. -/
def ilEntry (body : List Byte) (e : Nat) : IlEntry :=
  ⟨calSigned body (5 * e) 1, calSigned body (5 * e + 1) 2, calSigned body (5 * e + 3) 2⟩

/-- The OPTICS registers take a body's words. -/
def State.opticsWrite (s : State) (c : Carrier) (body : List Byte) : State :=
  (opticsReg c).zipIdx.foldl (fun s p =>
    let keep : Word := if p.2 = 8 ∨ p.2 = 9 then 0xFFFFFFFF else 0xFFFF
    s.wr p.1 (calWord body p.2 &&& keep)) s

/-- A host lane takes the starting values of a HOST_LANE body. -/
def State.laneStart (s : State) (n : Nat) (body : List Byte) : State :=
  let s := s.wr (R.HOSTLANE_TX_FFE_PRE n) (calWord body 0 &&& 0xFFFFFF)
  let s := s.wr (R.HOSTLANE_TX_FFE_POST n) (calWord body 1 &&& 0xFFFFFF)
  let s := s.set (F.HOSTLANE_TX_CFG.AMPLITUDE n) (bitsOf (calWord body 2) 22 16)
  s.set (F.HOSTLANE_RX_CFG.CTLE_SET n) (bitsOf (calWord body 3) 22 16)

/-- A body's values take effect at once: boot and cold apply. -/
def State.calApply (s : State) (slot : Nat) (body : List Byte) : State :=
  let inst := calInst slot
  let c := Carrier.ofIdx inst
  match calType slot with
  | 1 | 2 => s.onCal fun k => { k with il := k.il.set slot ((List.range 1024).map (ilEntry body)) }
  | 3 => s.onTx c fun x => { x with resp := (List.range 68).map (calWord body) }
  | 4 =>
    let s := s.opticsWrite c body
    let rx := [s.getS (F.FURROW_RX_SKEW_XI.SKEW c), s.getS (F.FURROW_RX_SKEW_XQ.SKEW c), s.getS (F.FURROW_RX_SKEW_YI.SKEW c),
      s.getS (F.FURROW_RX_SKEW_YQ.SKEW c)]
    let s := s.onRx c fun r => { r with skew := rx }
    s.onTx c fun x => { x with skew := s.skewTargets c, iq := s.iqTargets c }
  | 5 => (List.range 128).foldl (fun s j =>
      s.commitPair j (calWord body (2 * j) &&& 0xFFFFFF) (calWord body (2 * j + 1) &&& 0xFFFFFF)) s
  | 6 =>
    let s := s.onCal fun k => { k with timeBus := (List.range 8).map (fun i => (calWord body i).toNat) }
    (List.range 16).foldl (fun s p =>
      (s.wr (R.TIME_PORT_IN_LAT p) (calWord body (8 + 2 * p))).wr (R.TIME_PORT_OUT_LAT p) (calWord body (9 + 2 * p))) s
  | 7 => s.laneStart inst body
  | _ => s

/-! ### Gradual application (Table 17.4) -/

/-- A record is moved towards its values from those reached (R348, R349); OPTICS registers take their targets, which R52 and R75
approach, and SNR_TRX at once. -/
def State.calMove (s : State) (slot : Nat) (body : List Byte) : State :=
  let c := Carrier.ofIdx (calInst slot)
  let s := (s.onCal fun k => { k with target := k.target.set slot (some body) }).set (F.CAL_SLOT.MOVING slot) 1
  match calType slot with
  | 3 => s.onCal fun k =>
      { k with respStep := k.respStep.set (calInst slot) 0, respFrom := k.respFrom.set (calInst slot) (s.tx.at c).resp }
  | 4 => (s.opticsWrite c body).settleNote s c
  | _ => s

/-- A tap of the 16 sets between two words, to the nearest step (R9). -/
def respBetween (a b : Word) (k lo : Nat) : Nat :=
  let x := toSigned 16 (bitsOf a (lo + 15) lo)
  let y := toSigned 16 (bitsOf b (lo + 15) lo)
  ofSigned 16 (x + roundHalfDown ((y - x) * k) 16)

/-- The `k`-th of 16 sets from one response set to another. -/
def respSet (src : List Word) (body : List Byte) (k : Nat) : List Word :=
  (List.range 68).map fun w =>
    let a := nth src w 0
    let b := calWord body w
    withBits (withBits a 15 0 (respBetween a b k 0)) 31 16 (respBetween a b k 16)

/-- A number moved by at most `step` towards another. -/
def nearer (step cur target : Nat) : Nat := (stepTowards step cur target).toNat

/-- One step of a slot's movement (Table 17.4). A HOST_LANE record waits for DETECT. -/
def State.calStepMove (s : State) (slot : Nat) : State :=
  let inst := calInst slot
  let c := Carrier.ofIdx inst
  match nth s.cal.target slot none with
  | none => s
  | some body =>
    match calType slot with
    | 1 | 2 =>
      let old := nth s.cal.il slot []
      let il := (List.range 1024).map fun e =>
        let t := ilEntry body e
        let x := nth old e ⟨0, 0, 0⟩
        (⟨stepTowards 1 x.ofs t.ofs, stepTowards 1 x.gain t.gain, stepTowards 1 x.skew t.skew⟩ : IlEntry)
      let s := s.onCal fun k => { k with il := k.il.set slot il }
      if il = (List.range 1024).map (ilEntry body) then s.calSettle slot else s
    | 3 =>
      let k := nth s.cal.respStep inst 0 + 1
      let set := respSet (nth s.cal.respFrom inst []) body k
      let s := (s.onTx c fun x => { x with resp := set }).txRaise c 3
      let s := s.onCal fun q => { q with respStep := q.respStep.set inst k }
      if 16 ≤ k then s.calSettle slot else s
    | 4 =>
      let rx := [s.getS (F.FURROW_RX_SKEW_XI.SKEW c), s.getS (F.FURROW_RX_SKEW_XQ.SKEW c), s.getS (F.FURROW_RX_SKEW_YI.SKEW c),
        s.getS (F.FURROW_RX_SKEW_YQ.SKEW c)]
      if (s.rx.at c).skew = rx && (s.tx.at c).skew = s.skewTargets c && (s.tx.at c).iq = s.iqTargets c then s.calSettle slot else s
    | 5 =>
      let s := (List.range 128).foldl (fun s j =>
        let ofs := stepTowards 16 (s.getS (F.HKADC_CAL_OFS.OFS j)) (calSigned body (8 * j) 3)
        let g := nearer 64 (s.get (F.HKADC_CAL_G.G j)) (leNat (slice body (8 * j + 4) 3))
        s.commitPair j (BitVec.ofNat 32 (ofSigned 24 ofs)) (BitVec.ofNat 32 g)) s
      let there := (List.range 128).all fun j =>
        s.getS (F.HKADC_CAL_OFS.OFS j) = calSigned body (8 * j) 3 && s.get (F.HKADC_CAL_G.G j) = leNat (slice body (8 * j + 4) 3)
      if there then s.calSettle slot else s
    | 6 =>
      let bus := (List.range 8).map fun i => nearer 16 (nth s.cal.timeBus i 0) (calWord body i).toNat
      let s := s.onCal fun k => { k with timeBus := bus }
      let s := (List.range 16).foldl (fun s p =>
        let s := s.set (F.TIME_PORT_IN_LAT.VALUE p) (nearer 16 (s.get (F.TIME_PORT_IN_LAT.VALUE p)) (calWord body (8 + 2 * p)).toNat)
        s.set (F.TIME_PORT_OUT_LAT.VALUE p) (nearer 16 (s.get (F.TIME_PORT_OUT_LAT.VALUE p)) (calWord body (9 + 2 * p)).toNat)) s
      let there := bus = (List.range 8).map (fun i => (calWord body i).toNat) && (List.range 16).all fun p =>
        s.rd (R.TIME_PORT_IN_LAT p) = calWord body (8 + 2 * p) && s.rd (R.TIME_PORT_OUT_LAT p) = calWord body (9 + 2 * p)
      if there then s.calSettle slot else s
    | _ => s

/-- At a lane's entry to DETECT its waiting HOST_LANE record is taken (Table 17.4). -/
def State.laneCalibrate (s : State) (n : Nat) : State :=
  match nth s.cal.target (16 + n) none with
  | some body => (s.laneStart n body).calSettle (16 + n)
  | none => s

/-- The word of a moving record that a register takes, with its slot. -/
def calOwner (a : Nat) : Option (Nat × Nat) :=
  let optics (c : Carrier) : Option (Nat × Nat) := ((opticsReg c).findIdx? (· = a)).map (fun i => (6 + c.idx, i))
  let port : Option (Nat × Nat) :=
    ((List.range 16).find? (fun p => R.TIME_PORT_IN_LAT p = a)).map (fun p => (9, 8 + 2 * p))
      <|> ((List.range 16).find? (fun p => R.TIME_PORT_OUT_LAT p = a)).map (fun p => (9, 9 + 2 * p))
  let lane : Option (Nat × Nat) := (List.range 16).findSome? fun n =>
    ([R.HOSTLANE_TX_FFE_PRE n, R.HOSTLANE_TX_FFE_POST n, R.HOSTLANE_TX_CFG n, R.HOSTLANE_RX_CFG n].findIdx? (· = a)).map
      (fun i => (16 + n, i))
  let adc : Option (Nat × Nat) := if 0xC00400 ≤ a ∧ a < 0xC00800 then some (8, (a - 0xC00400) / 4) else none
  optics .A <|> optics .B <|> adc <|> port <|> lane

/-- A host write takes over a register under movement: the record's value for it becomes the one written (R348). The slot's values
are no longer the part's own measurement. -/
def State.calTakeover (s : State) (a : Nat) : State :=
  match calOwner a with
  | none => s
  | some (slot, i) =>
    let s := s.onCal fun k => { k with measured := k.measured.filter (· ≠ slot) }
    match nth s.cal.target slot none with
    | none => s
    | some body =>
      let body := body.take (4 * i) ++ leBytes 4 (s.rd a).toNat ++ body.drop (4 * i + 4)
      s.onCal fun k => { k with target := k.target.set slot (some body) }

/-! ### Choosing a record (R344) -/

/-- The copies of a slot that are valid, the newer first; without a newer one copy A comes first. -/
def State.calCopies (s : State) (slot : Nat) : List (Bool × List Byte) :=
  let a := nth s.cal.copyA slot []
  let b := nth s.cal.copyB slot []
  let newer := (calSeq b + 2 ^ 32 - calSeq a) % 2 ^ 32
  match calValid slot a, calValid slot b with
  | true, true => if 1 ≤ newer && newer < 2 ^ 31 then [(true, b), (false, a)] else [(false, a), (true, b)]
  | true, false => [(false, a)]
  | false, true => [(true, b)]
  | false, false => []

/-- What `CAL_SLOT_s` and `CAL_SEQ_s` show of the record in use. -/
def State.calShow (s : State) (slot : Nat) (toB : Bool) (r : List Byte) : State :=
  let s := (s.setB (F.CAL_SLOT.USING_B slot) toB).set (F.CAL_SLOT.MISSING slot) 0
  let s := (s.set (F.CAL_SLOT.SOURCE slot) (calSource r)).set (F.CAL_SLOT.QUALITY slot) (calQuality r)
  let s := s.set (F.CAL_SEQ.SEQ slot) (calSeq r)
  s.onCal fun k => { k with used := k.used.set slot (some toB), temp := k.temp.set slot (calTemp r) }

/-- A slot's record is chosen and applied, at once or gradually (R344). -/
def State.calLoad (s : State) (slot : Nat) (now : Bool) : State :=
  if calType slot = 0 then s
  else
    let s := s.setB (F.CAL_SLOT.VALID_A slot) (calValid slot (nth s.cal.copyA slot []))
    let s := s.setB (F.CAL_SLOT.VALID_B slot) (calValid slot (nth s.cal.copyB slot []))
    let copies := s.calCopies slot
    let s := match copies with
      | (_, r) :: _ => match calFault slot (calBody slot r) with
        | some f => s.calImplausible slot f
        | none => s
      | [] => s
    match copies.find? (fun q => (calFault slot (calBody slot q.2)).isNone) with
    | some (toB, r) =>
      let s := s.calShow slot toB r
      if now then s.calApply slot (calBody slot r) else s.calMove slot (calBody slot r)
    | none =>
      let s := s.onCal fun k => { k with used := k.used.set slot none }
      let s := ((s.set (F.CAL_SLOT.USING_B slot) 0).set (F.CAL_SLOT.SOURCE slot) 0).set (F.CAL_SLOT.QUALITY slot) 0
      ((s.set (F.CAL_SEQ.SEQ slot) 0).set (F.CAL_SLOT.MISSING slot) 1).calRaise 0

/-! ### RUN, STORE and background tracking (R345, R347, R350) -/

/-- The state of the calibration controller: 0 IDLE, 1 RUNNING, 2 STORING. -/
def State.calBusy (s : State) : Nat := s.get F.CAL_STATUS.STATE

/-- A command refused (R352). -/
def State.calRefuse (s : State) (slot reason : Nat) : State := (s.set F.CAL_STATUS.REASON reason).set F.CAL_STATUS.SLOT slot

/-- The values now in a slot's registers, as a body (R347). -/
def State.calCapture (s : State) (slot : Nat) : List Byte :=
  let inst := calInst slot
  let c := Carrier.ofIdx inst
  let words (ws : List Word) : List Byte := ws.flatMap (fun w => leBytes 4 w.toNat)
  match calType slot with
  | 1 | 2 => (List.range 1024).flatMap fun e =>
      let x := nth (nth s.cal.il slot []) e ⟨0, 0, 0⟩
      leBytes 1 (ofSigned 8 x.ofs) ++ leBytes 2 (ofSigned 16 x.gain) ++ leBytes 2 (ofSigned 16 x.skew)
  | 3 => words (s.tx.at c).resp
  | 4 => words ((opticsReg c).map s.rd)
  | 5 => words ((List.range 128).flatMap fun j => [s.rd (R.HKADC_CAL_OFS j), s.rd (R.HKADC_CAL_G j)])
  | 6 => words (s.cal.timeBus.map (BitVec.ofNat 32)
      ++ (List.range 16).flatMap (fun p => [s.rd (R.TIME_PORT_IN_LAT p), s.rd (R.TIME_PORT_OUT_LAT p)]))
  | 7 => words [s.rd (R.HOSTLANE_TX_FFE_PRE inst), s.rd (R.HOSTLANE_TX_FFE_POST inst),
      withBits 0 22 16 (s.get (F.HOSTLANE_TX_CFG.AMPLITUDE inst)), withBits 0 22 16 (s.get (F.HOSTLANE_RX_CFG.CTLE_SET inst))]
  | _ => []

/-- A store joins the queue; stores run one after another (Table 17.5). -/
def State.calEnqueue (s : State) (q : CalStore) : State :=
  let s := s.onCal fun k => { k with stores := k.stores ++ [q] }
  if s.calBusy = 0 then s.set F.CAL_STATUS.STATE 2 else s

/-- RUN (R347): measured in LINE_TEST, of whichever record type (log 58). -/
def State.calRun (s : State) (slot : Nat) : State :=
  if calType slot = 0 then s.calRefuse slot 5
  else if s.shut || s.calBusy ≠ 0 then s.calRefuse slot 1
  else if s.mode ≠ 6 then s.calRefuse slot 2
  else (s.onCal fun k => { k with running := slot }).set F.CAL_STATUS.STATE 1

/-- STORE (R345, R347): the values pass R346 or are not stored. -/
def State.calStore (s : State) (slot : Nat) (temp : Int) (quality : Nat) : State :=
  if calType slot = 0 then s.calRefuse slot 5
  else if s.shut then s.calRefuse slot 1
  else
    let body := s.calCapture slot
    match calFault slot body with
    | some f => s.calImplausible slot f
    | none => s.calEnqueue ⟨slot, if s.cal.measured.contains slot then 0 else 2, temp, quality, body⟩

/-- RUN completes with its measurement: applied gradually if it passes R346. -/
def State.calRunDone (s : State) (body : List Byte) : State :=
  if s.calBusy ≠ 1 then s
  else
    let slot := s.cal.running
    let s := s.set F.CAL_STATUS.STATE (if s.cal.stores.isEmpty then 0 else 2)
    let body := body.take (calLen (calType slot)) ++ List.replicate (calLen (calType slot) - body.length) 0
    let s := match calFault slot body with
      | some f => s.calImplausible slot f
      | none => (s.calMove slot body).onCal fun k => { k with measured := slot :: k.measured.filter (· ≠ slot) }
    s.calRaise 4

/-- SEQ of a slot's next record. -/
def State.calNextSeq (s : State) (slot : Nat) : Nat :=
  match nth s.cal.used slot none with
  | some _ => (s.get (F.CAL_SEQ.SEQ slot) + 1) % 2 ^ 32
  | none => 1

/-- Bytes written to one copy of a slot. -/
def State.calWriteCopy (s : State) (slot : Nat) (toB : Bool) (bytes : List Byte) : State :=
  s.onCal fun k => if toB then { k with copyB := k.copyB.set slot bytes } else { k with copyA := k.copyA.set slot bytes }

/-- The running store ends with its read-back: STORED, or the copy erased again and STORE_FAIL (R345). -/
def State.calStored (s : State) (same : Bool) : State :=
  match s.cal.stores with
  | [] => s
  | q :: rest =>
    let s := s.onCal fun k => { k with stores := rest }
    let s := if s.calBusy = 2 && rest.isEmpty then s.set F.CAL_STATUS.STATE 0 else s
    let toB := match nth s.cal.used q.slot none with
      | some inB => !inB
      | none => false
    if same then
      let bytes := calRecord q.slot (s.calNextSeq q.slot) q.source q.quality q.temp q.body
      let s := s.calWriteCopy q.slot toB bytes
      let s := s.setB (if toB then F.CAL_SLOT.VALID_B q.slot else F.CAL_SLOT.VALID_A q.slot) true
      (s.calShow q.slot toB bytes).calRaise 2
    else
      let s := s.calWriteCopy q.slot toB []
      let s := s.setB (if toB then F.CAL_SLOT.VALID_B q.slot else F.CAL_SLOT.VALID_A q.slot) false
      (s.calRefuse q.slot 4).calRaise 3

/-- Whether MIN_HOURS have passed since background tracking last stored a record of the slot (R350). -/
def State.bgMayStore (s : State) (slot : Nat) : Bool :=
  match nth s.cal.bgAge slot none with
  | some n => 3600 * s.get F.CAL_BG.MIN_HOURS ≤ n
  | none => true

/-- A second passes. -/
def State.calSecond (s : State) : State := s.onCal fun k => { k with bgAge := k.bgAge.map (·.map (· + 1)) }

/-- Background tracking's estimate of a carrier's interleave mismatch (R350). -/
def State.calTrack (s : State) (slot : Nat) (body : List Byte) (quality : Nat) (temp : Int) : State :=
  let c := Carrier.ofIdx (slot % 2)
  let active := if slot < 2 then s.rxState c = 9 else s.txState c = 2
  let body := body.take (calLen (calType slot)) ++ List.replicate (calLen (calType slot) - body.length) 0
  if !s.on F.CAL_BG.BG_EN || !active then s
  else match calFault slot body with
    | some f => s.calImplausible slot f
    | none =>
      let s := s.calMove slot body
      let moved := (temp - nth s.cal.temp slot 0).natAbs
      if s.get F.CAL_BG.TEMP_DELTA ≤ moved && s.bgMayStore slot && !s.shut then
        (s.onCal fun k => { k with bgAge := k.bgAge.set slot (some 0) }).calEnqueue ⟨slot, 1, temp, quality, body⟩
      else s

/-- A cold apply, at t0 + 40 ms: every movement's target and every record in use takes effect at once (R348, R349). -/
def State.calColdApply (s : State) : State :=
  (List.range 32).foldl (fun s slot =>
    match nth s.cal.target slot none, nth s.cal.used slot none with
    | some body, _ => (s.calApply slot body).calSettle slot
    | none, some toB => s.calApply slot (calBody slot (nth (if toB then s.cal.copyB else s.cal.copyA) slot []))
    | none, none => s) s

end Sys2Proof.Machine
end

