-- ==== Sys2Proof/Machine/Calibration.lean ====
section
/-!
DEFINITION. The commands of calibration (chapter 17).
-/
namespace Sys2Proof.Machine

/-- A CAL_CMD of a slot over a path: MAKER (R352). -/
def State.calCommand (s : State) (p : Path) (slot : Nat) (k : State → State) : State :=
  s.rwsWrite p R.CAL_CMD 2 fun s => k (s.set F.CAL_CMD.SLOT slot)

/-- CAL_RUN (R347). -/
def execCalRun (path : Path) (slot : Fin 32) (s : State) : Host.Outcome State Fault Refusal :=
  .next (s.calCommand path slot fun s => s.calRun slot)

/-- CAL_RUN_DONE (R347). -/
def execCalRunDone (body : List Byte) (s : State) : Host.Outcome State Fault Refusal := .next (s.calRunDone body)

/-- CAL_STORE (R345, R347). -/
def execCalStore (path : Path) (slot : Fin 32) (temp : Int) (quality : Nat) (s : State) : Host.Outcome State Fault Refusal :=
  .next (s.calCommand path slot fun s => s.calStore slot temp quality)

/-- CAL_STORE_DONE (R345). -/
def execCalStoreDone (same : Bool) (s : State) : Host.Outcome State Fault Refusal := .next (s.calStored same)

/-- CAL_RELOAD (R344). -/
def execCalReload (path : Path) (slot : Fin 32) (s : State) : Host.Outcome State Fault Refusal :=
  .next (s.calCommand path slot fun s => if calType slot = 0 then s.calRefuse slot 5 else s.calLoad slot false)

/-- CAL_GRADUAL_STEP (R348). -/
def execCalGradualStep (slot : Fin 32) (s : State) : Host.Outcome State Fault Refusal := .next (s.calStepMove slot)

/-- BG_TRACK_ESTIMATE (R350). -/
def execBgTrackEstimate (slot : Fin 4) (body : List Byte) (quality : Nat) (temp : Int) (s : State) :
    Host.Outcome State Fault Refusal :=
  .next (s.calTrack slot body quality temp)

end Sys2Proof.Machine
end

