-- ==== Sys2Proof/Machine/TimeOps.lean ====
section
/-!
DEFINITION. Time operations that other chapters use (chapter 9): the local clock as a count (R184), the applied frequency (R188),
line stamps (R191, R192), and the line transfer's states (Table 9.3).
-/
namespace Sys2Proof.Machine

/-! ### The local clock -/

/-- Ticks of 2^−32 ns in a nanosecond and in a second. -/
def nsTicks : Int := 2 ^ 32
def secTicks : Int := 1000000000 * 2 ^ 32

/-- The clock as a count of 2^−32 ns. -/
def Clock.ticks (t : Clock) : Int := t.sec * secTicks + t.ns * nsTicks + t.frac

/-- The clock of a count; the seconds wrap after 2^48 − 1 (R184). -/
def Clock.ofTicks (n : Int) : Clock :=
  let m := n % (2 ^ 48 * secTicks)
  ⟨(m / secTicks).toNat, (m % secTicks / nsTicks).toNat, (m % nsTicks).toNat⟩

/-- A carried time value as a count of 2^−16 ns. -/
def stampUnits (t : Stamp) : Int := (t.sec * 1000000000 + t.ns) * 65536 + t.frac

/-- The same of a time value's 12 bytes in the overhead (R115). -/
def bytesUnits (bs : List Byte) : Int :=
  (beNat (slice bs 0 6) * 1000000000 + beNat (slice bs 6 4)) * 65536 + beNat (slice bs 10 2)

/-- Updates the TIME block's internal state. -/
def State.onTime (s : State) (f : TimeSt → TimeSt) : State := { s with time := f s.time }

/-- Raises a TIME interrupt bit with its event code (Table 9.4). -/
def State.timeRaise (s : State) (bit code : Nat) : State := s.raiseEvent 0x14 bit code

/-- The slew term, 2^−8 ppb: SLEW_PPM of the remainder's sign (R187). -/
def State.slewTerm (s : State) : Int :=
  let f : Int := s.get F.TIME_ADJ_CTRL.SLEW_PPM * 256000
  if s.time.slew = 0 then 0 else if s.time.slew < 0 then -f else f

/-- The frequency without the slew term: the servo's, or TIME_FREQ while no servo acts (R188). -/
def State.baseFreq (s : State) : Int := s.time.servoF.getD (s.getS F.TIME_FREQ.F)

/-- The limit of the applied frequency: ±500 ppm in 2^−8 ppb. -/
def freqTop : Int := 128000000

/-- The applied frequency F, 2^−8 ppb (R188). -/
def State.freqApplied (s : State) : Int := clampI (-freqTop) freqTop (s.baseFreq + s.slewTerm)

/-- The registers that follow the slew and the servo (R203). -/
def State.timeShow (s : State) : State :=
  let s := s.setB F.TIME_STATUS.SLEWING (s.time.slew ≠ 0)
  let s := s.setB F.TIME_STATUS.SERVO_ACTIVE s.time.servoF.isSome
  let s := s.setS F.TIME_ADJ_REMAIN.NS (s.time.slew / 65536)
  s.setS F.TIME_FREQ_APPLIED.F s.freqApplied

/-! ### Pulse outputs -/

/-- A pulse output beyond its registers. -/
def State.pulse (s : State) (n : Nat) : PulseSt := nth s.time.pulses n {}

/-- Updates a pulse output. -/
def State.onPulse (s : State) (n : Nat) (f : PulseSt → PulseSt) : State :=
  s.onTime fun t => { t with pulses := t.pulses.modify n f }

/-- The grid of output edges, 78.125 ps, in 2^−32 ns, and the grid instant nearest to a time (R199). DEDUCED from R9: the earlier of two
equally near. -/
def edgeGrid : Nat := 335544320
def onGrid (t : Int) : Int := roundHalfDown t edgeGrid * edgeGrid

/-- The instant at which the pending edge of a pulse output is issued: on the grid, DELAY early (R191, R199). -/
def State.pulseEdge (s : State) (n : Nat) : Int :=
  let p := s.pulse n
  onGrid ((if p.high then p.lead + p.width else p.lead) - s.get (F.TP_DELAY.VALUE n) * 2 ^ 24)

/-- The level of a pulse output's ball: active in a pulse, else inactive; POLARITY says which of them is high (R199). -/
def State.pulseLevel (s : State) (n : Nat) : Bool :=
  (s.on (F.TP_CTRL.ACTIVE n) && (s.pulse n).high) != s.on (F.TP_CTRL.POLARITY n)

/-- A change that a pulse output's ball shows. -/
def State.pulseShow (s : State) (n : Nat) (f : State → State) : State :=
  if (f s).pulseLevel n = s.pulseLevel n then f s else (f s).send (.pulse n ((f s).pulseLevel n))

/-- A pulse output's pending edge is issued (R199): a leading edge starts a pulse; a trailing one ends it, ends a ONCE or
stopped output, and sets the next period's edge. -/
def State.issueEdge (s : State) (n : Nat) : State :=
  if s.on (F.TP_CTRL.ACTIVE n) then
    let p := s.pulse n
    s.pulseShow n fun s =>
      if p.high then
        let s := s.onPulse n fun p => { p with high := false, lead := p.lead + p.period, stopping := false }
        if p.stopping || !s.on (F.TP_CTRL.MODE n) then s.set (F.TP_CTRL.ACTIVE n) 0 else s
      else s.onPulse n fun p => { p with high := true }
  else s

/-- The output's next edge of its kind in PERIODIC after a time: the pulse in progress ends at the first trailing edge after it, and the
next pulse starts at the first leading edge after it; the edges between are skipped (R200). -/
def PulseSt.skipTo (p : PulseSt) (now : Int) : PulseSt :=
  let next := if p.high then p.lead + p.width else p.lead
  if next ≤ now && 0 < p.period then { p with lead := p.lead + ((now - next) / p.period + 1) * p.period } else p

/-- After a forward step: a pending edge that was passed is issued at once, and PERIODIC goes on from the next edge in the
new time (R200). -/
def State.passEdge (s : State) (n : Nat) : State :=
  let now := s.clock.ticks
  if s.on (F.TP_CTRL.ACTIVE n) && s.pulseEdge n ≤ now then
    let s := s.issueEdge n
    if s.on (F.TP_CTRL.MODE n) then s.onPulse n (·.skipTo now) else s
  else s

/-- The clock is set to a count; a forward step passes pending edges (R200). -/
def State.clockTo (s : State) (n : Int) : State :=
  let was := s.clock.ticks
  let s := { s with clock := Clock.ofTicks n }
  if was < s.clock.ticks then (List.range 4).foldl State.passEdge s else s

/-- The clock steps by an offset in 2^−16 ns (R187). -/
def State.clockStep (s : State) (units : Int) : State := s.clockTo (s.clock.ticks + units * 65536)

/-- Whether the TIME domain's clock runs: a stopped one adds nothing to the local clock (R184, Table 1.13). -/
def State.timeRuns (s : State) : Bool := !s.stoppedClocks.contains (0x14, 0)

/-- The clock's advance over one second of the TIME domain (R184): 10^9 ns × (1 + F × 10^−9); the slew uses up its
remainder (R187). -/
def State.clockSecond (s : State) : State :=
  let rate := s.slewTerm * 256
  let slewed := if s.time.slew < 0 then max s.time.slew rate else min s.time.slew rate
  let base := s.baseFreq * 256
  let total := clampI (-freqTop * 256) (freqTop * 256) (base + slewed)
  let used := if slewed < 0 then clampI slewed 0 (total - base) else clampI 0 slewed (total - base)
  let s := { s with clock := Clock.ofTicks (s.clock.ticks + secTicks + total * 65536) }
  (s.onTime fun t => { t with slew := t.slew - used }).timeShow

/-! ### Line stamps (R191, R192) -/

/-- The carrier that the TIME record names (Table 2.15). -/
def State.ttCarrier (s : State) (c : Carrier) : Bool :=
  match s.plan.running.bind (·.rec? 0x0E 0) with
  | some r => min 1 (r.le 2 1) = c.idx
  | none => c = .A

/-- The EXT register of a carrier's transmit or receive side. -/
def lineExt : Carrier → Bool → Fld
  | .A, true => F.TIME_LINE_A_TX_EXT.VALUE
  | .A, false => F.TIME_LINE_A_RX_EXT.VALUE
  | .B, true => F.TIME_LINE_B_TX_EXT.VALUE
  | .B, false => F.TIME_LINE_B_RX_EXT.VALUE

/-- TX_TIME of a frame that leaves the framer now, in 2^−32 ns (Table 9.2). -/
def State.txStamp (s : State) (c : Carrier) : Int :=
  s.clock.ticks + (s.latency 2 c + s.latency 1 c + s.getS (lineExt c true)) * 2 ^ 24

/-- The stamp of a peer frame that reaches the framer now, in 2^−32 ns (Table 9.2). -/
def State.rxStamp (s : State) (c : Carrier) : Int :=
  s.clock.ticks - (s.latency 3 c + s.latency 0 c + s.getS (lineExt c false)) * 2 ^ 24

/-- Keeps the TX_TIME of a multiframe-start frame of the TIME record's carrier, with whether its multiframe or the one before
was marked SLIP (R192, R194). -/
def State.recordDeparture (s : State) (c : Carrier) (number : Nat) : State :=
  if number % 256 = 0 && s.ttCarrier c then
    let l := s.line.at c
    s.onTime fun t => { t with sent := ((number, s.txStamp c, l.slip ≠ 0 || l.prevSlip) :: t.sent).take 1024 }
  else s

/-- The current transmit multiframe is marked SLIP after its first frame was sent. -/
def State.markSlip (s : State) (c : Carrier) : State :=
  if s.ttCarrier c then
    s.onTime fun t => { t with sent := t.sent.modify 0 (fun (n, x, m) => (n, x, m || n / 256 = s.txMf c)) }
  else s

/-- Stamps the arrival of a peer frame that begins a multiframe (R192). -/
def State.stampArrival (s : State) (c : Carrier) (number : Nat) : State :=
  if number % 256 = 0 && s.ttCarrier c then
    s.onLine c fun l => { l with ttRef := some number, ttTime := Clock.ofTicks (s.rxStamp c) }
  else s

/-- A peer frame that begins a multiframe brings the times of a transfer (R192): t1, t4, the frame t3 is for and the peer's TX_VALID and
RX_VALID from its good overhead, t2 from its stamp. -/
def State.transferArrival (s : State) (c : Carrier) (number : Nat) (oh : List Byte) : State :=
  if number % 256 = 0 && s.ttCarrier c then
    let flags := (nth oh 160 0).toNat
    let t2 := (s.line.at c).ttTime.ticks / 65536
    let valid : Bool := flags / 128 % 2 = 1 && flags / 64 % 2 = 1
    s.onTime fun t =>
      { t with
        setValid := valid,
        set := some
          { t1 := bytesUnits (slice oh 168 12), t2 := t2, t4 := bytesUnits (slice oh 180 12), ref := beNat (slice oh 164 4),
            valid := valid, good := true } }
  else s

/-- A peer frame that begins a multiframe, by the number expected, had no good overhead: its set, valid as the last one was, is there to
be discarded (R194). -/
def State.transferBad (s : State) (c : Carrier) : State :=
  if s.mfLocked c && s.get (F.LINK_RX_FRAME.VALUE c) % 256 = 0 && s.ttCarrier c then
    s.onTime fun t => { t with set := some { valid := t.setValid, good := false } }
  else s

/-! ### The line transfer (Table 9.3) -/

/-- The line transfer's state: 0 OFF, 1 WAIT, 2 MEASURING, 3 SYNCED. -/
def State.ttState (s : State) : Nat := s.get F.TIME_STATUS.TT_STATE

/-- Whether the line transfer is the servo's source: follower with REF 3 and SERVO_EN (R189). -/
def State.lineSteers (s : State) : Bool :=
  s.get F.TIME_STATUS.REF = 3 && s.get F.TIME_STATUS.ROLE = 2 && s.on F.TIME_CTRL.SERVO_EN

/-- The servo stops: TIME_FREQ takes effect (R188). -/
def State.servoStop (s : State) : State :=
  (s.onTime fun t => { t with servoF := none, integ := 0, first := true, servoIn := 0, servoOut := 0, servoLock := false }).timeShow

/-- The line transfer enters a state and counts afresh; the line's servo stops outside MEASURING and SYNCED, and its first measurement
in MEASURING may step the clock (R190). -/
def State.toTt (s : State) (st : Nat) : State :=
  let s := (s.set F.TIME_STATUS.TT_STATE st).onTime fun t => { t with ttIn := 0, ttOut := 0 }
  if s.get F.TIME_STATUS.REF = 3 then
    if st < 2 then s.servoStop else if st = 2 then s.onTime fun t => { t with first := true } else s
  else s

/-- Back to WAIT from WAIT, MEASURING or SYNCED, with SYNC_LOST if it was SYNCED. -/
def State.ttWait (s : State) : State :=
  if s.ttState = 0 then s
  else
    let was := s.ttState = 3
    let s := s.toTt 1
    if was then s.timeRaise 1 0x1402 else s

/-- Whether line time transfer is agreed on a carrier (Table 6.4, bit 3). -/
def State.ttFeature (s : State) (c : Carrier) : Bool := s.get (F.LINK_FEATURES.VALUE c) / 8 % 2 = 1

/-- At the move to ALIGN of the TIME record's carrier, an agreed line time transfer takes effect (Table 9.3). -/
def State.ttAgreed (s : State) (c : Carrier) : State :=
  if s.ttCarrier c && s.ttState = 0 && s.ttFeature c && s.get F.TIME_STATUS.ROLE ≠ 0 then s.toTt 1 else s

/-- A renegotiation whose agreed features lack line time transfer turns it off (Table 9.3). -/
def State.ttLapsed (s : State) (c : Carrier) : State :=
  if s.ttCarrier c && !s.ttFeature c && s.ttState ≠ 0 then s.toTt 0 else s

end Sys2Proof.Machine
end

