-- ==== Sys2Proof/Machine/Residence.lean ====
section
/-!
DEFINITION. Residence correction of PTP event messages in client frames (R195 to R198).
-/
namespace Sys2Proof.Machine

/-- The 16-bit number at an offset of a frame, most significant byte first. -/
def be16 (b : List Byte) (off : Nat) : Nat := beNat (slice b off 2)

/-- Bytes replaced at an offset. -/
def patch (b : List Byte) (off : Nat) (data : List Byte) : List Byte := b.take off ++ data ++ b.drop (off + data.length)

/-- The offset of the Ethertype after up to `n` VLAN tags (R195). -/
def etherOffset (b : List Byte) : Nat → Nat → Nat
  | 0, off => off
  | n + 1, off => if be16 b off = 0x8100 ∨ be16 b off = 0x88A8 then etherOffset b n (off + 4) else off

/-- Where a frame's PTP message begins, and where its UDP header begins if it has one; `true` marks IPv6. -/
structure PtpAt where
  msg : Nat
  udp : Option Nat
  v6 : Bool
  deriving DecidableEq, Repr

/-- A candidate PTP message: Ethertype 0x88F7, or UDP to port 319 over IPv4 or IPv6 (R195). -/
def ptpCandidate (b : List Byte) : Option PtpAt :=
  let e := etherOffset b 2 12
  match be16 b e with
  | 0x88F7 => some ⟨e + 2, none, false⟩
  | 0x0800 =>
    let ip := e + 2
    let u := ip + (nth b ip 0).toNat % 16 * 4
    if (nth b ip 0).toNat / 16 = 4 ∧ (nth b (ip + 9) 0).toNat = 17 ∧ be16 b (ip + 6) % 0x2000 = 0 ∧ be16 b (u + 2) = 319 then
      some ⟨u + 8, some u, false⟩
    else none
  | 0x86DD =>
    let ip := e + 2
    let u := ip + 40
    if (nth b ip 0).toNat / 16 = 6 ∧ (nth b (ip + 6) 0).toNat = 17 ∧ be16 b (u + 2) = 319 then some ⟨u + 8, some u, true⟩
    else none
  | _ => none

/-- A PTP event message: version 2, messageType 0 to 3, its header whole before the FCS (R195). -/
def ptpAt (b : List Byte) : Option PtpAt :=
  match ptpCandidate b with
  | some m =>
    if m.msg + 38 ≤ b.length ∧ (nth b m.msg 0).toNat % 16 ≤ 3 ∧ (nth b (m.msg + 1) 0).toNat % 16 = 2 then some m else none
  | none => none

/-- CRC-32 of IEEE 802.3 without the final inversion's effect on differences. -/
def crc32 (bs : List Byte) : Nat :=
  bs.foldl (fun crc b => (List.range 8).foldl (fun c _ => crcBit 0xEDB88320 c) (crc ^^^ b.toNat)) 0xFFFFFFFF

/-- The FCS adjusted by the CRC difference of the changed bytes (R198). -/
def fcsAdjust (old new : List Byte) : List Byte :=
  let n := old.length - 4
  let fcs := leNat (old.drop n)
  new.take n ++ leBytes 4 (fcs ^^^ crc32 (old.take n) ^^^ crc32 (new.take n))

/-- One 16-bit word's change in a ones' complement checksum: HC' = ~(~HC + ~m + m') (RFC 1624, R198). -/
def checksumStep (hc m m' : Nat) : Nat :=
  let sum := (0xFFFF - hc) + (0xFFFF - m) + m'
  let f1 := sum % 0x10000 + sum / 0x10000
  0xFFFF - (f1 % 0x10000 + f1 / 0x10000)

/-- The UDP checksum after words of the message changed; a zero IPv4 checksum stays zero (R198). -/
def udpAdjust (old new : List Byte) (m : PtpAt) : List Byte :=
  match m.udp with
  | none => new
  | some u =>
    let hc := be16 old (u + 6)
    if hc = 0 ∧ !m.v6 then new
    else
      let hc' := (List.range 6).foldl (fun h i => checksumStep h (be16 old (m.msg + 8 + 2 * i)) (be16 new (m.msg + 8 + 2 * i))) hc
      patch new (u + 6) (beBytes 2 hc')

/-- A frame with correctionField and messageTypeSpecific replaced, checksums adjusted (R198). -/
def ptpRewrite (b : List Byte) (m : PtpAt) (correction specific : Nat) : List Byte :=
  let new := patch b (m.msg + 8) (beBytes 8 (correction % 2 ^ 64) ++ beBytes 4 specific)
  fcsAdjust b (udpAdjust b new m)

/-- The seconds code and nanoseconds of a stamp (R196). -/
def stampCode (t : Clock) : Nat := (t.sec % 3 + 1) * 2 ^ 30 + t.ns

/-- The fraction of a stamp, 2^−16 ns. -/
def stampFrac (t : Clock) : Nat := t.frac / 2 ^ 16

/-- Client ingress and egress stamps of a port (Table 9.2). -/
def State.inStamp (s : State) (p : Nat) : Clock := Clock.ofTicks (s.clock.ticks - s.get (F.TIME_PORT_IN_LAT.VALUE p) * 2 ^ 24)
def State.outStamp (s : State) (p : Nat) : Clock := Clock.ofTicks (s.clock.ticks + s.get (F.TIME_PORT_OUT_LAT.VALUE p) * 2 ^ 24)

/-- A frame at ingress (R196). -/
def State.stampIn (s : State) (p : Nat) (b : List Byte) : List Byte × State :=
  if s.on (F.TIME_PORT_CTRL.TC_EN p) then
    match ptpAt b with
    | some m =>
      let t := s.inStamp p
      let cf := beNat (slice b (m.msg + 8) 8)
      let s := if beNat (slice b (m.msg + 16) 4) ≠ 0 then s.bump (F.TIME_PORT_FIELD.NONZERO p) else s
      (ptpRewrite b m (cf + 2 ^ 64 - stampFrac t) (stampCode t), s)
    | none => (b, s)
  else (b, s)

/-- Residence in whole ns from the ingress field to the egress stamp (R197). -/
def residence (field : Nat) (t : Clock) : Int :=
  let ds := (stampCode t / 2 ^ 30 + 3 - field / 2 ^ 30) % 3
  (ds * 1000000000 : Nat) + t.ns - (field % 2 ^ 30 : Nat)

/-- A frame at egress (R197): a frame carried with ERR is left as it arrived. -/
def State.stampOut (s : State) (p : Nat) (b : List Byte) (err : Bool) : List Byte × State :=
  if s.on (F.TIME_PORT_CTRL.TC_EN p) && !err then
    match ptpAt b with
    | some m =>
      let t := s.outStamp p
      let cf := beNat (slice b (m.msg + 8) 8)
      let field := beNat (slice b (m.msg + 16) 4)
      if field = 0 then (b, s.bump (F.TIME_PORT_FIELD.UNSTAMPED p))
      else
        let r := residence field t
        if 1000000000 ≤ r then
          (ptpRewrite b m cf 0, (s.bump (F.TIME_PORT_FAULTS.RANGE p)).raiseOnce 0x14 17 0x1431)
        else
          let s := s.bump (F.TIME_PORT_CORRECTED.COUNT p)
          let s := if s.ttState = 3 then s else (s.bump (F.TIME_PORT_FAULTS.UNSYNC p)).raiseOnce 0x14 16 0x1430
          (ptpRewrite b m (ofSigned 64 (cf + r * 2 ^ 16 + stampFrac t)) 0, s)
    | none => (b, s)
  else (b, s)

end Sys2Proof.Machine
end

