-- ==== Sys2Proof/Machine/ClientOps.lean ====
section
/-!
DEFINITION. The client ports' shared operations (chapter 8): events, violations, the ingress state machine over its lanes
(Table 8.3), the traffic condition and what the egress sends (R176), and the record stream toward the line (R168 to R171).
-/
namespace Sys2Proof.Machine

/-- Updates one port. -/
def State.onPort (s : State) (p : Nat) (f : PortSt → PortSt) : State := { s with ports := s.ports.modify p f }

/-- One port beyond its registers. -/
def State.port (s : State) (p : Nat) : PortSt := nth s.ports p {}

/-- Whether a port has a CLIENT_PORT record. -/
def State.portUsed (s : State) (p : Nat) : Bool := s.on (F.CLIENT_CFG.IN_USE p)

/-- Whether a port has slots on a carrier. -/
def State.portOn (s : State) (p : Nat) (c : Carrier) : Bool := s.get (F.CLIENT_CFG.CARRIERS p) / 2 ^ c.idx % 2 = 1

/-- Sets a bit of a port's EVENT register: the block's bit rises when an enabled one becomes 1, and the event code issues
for every bit but SNAP_DONE (R182, R183). -/
def State.clientEvent (s : State) (p b : Nat) : State :=
  let f : Fld := ⟨R.CLIENT_EVENT p, b, b⟩
  let rises := !s.on f && s.on ⟨R.CLIENT_EVENT_ENABLE p, b, b⟩
  let s := s.set f 1
  let s := if rises then s.raise 0x12 p else s
  if b = 8 then s else s.event (0x1200 + (b + 1) * 16 + p)

/-- Records a client violation of the host ASIC (R181). -/
def State.clientViolation (s : State) (p code : Nat) : State :=
  ((s.bump (F.CLIENT_VIOLATION.COUNT p)).set (F.CLIENT_VIOLATION.LAST p) code).clientEvent p 6

/-- Records violation 0x05 or 0x06, at most once per 1 ms (R181); between two ticks of the model no time passes (log 7). -/
def State.clientViolationQuiet (s : State) (p code : Nat) : State :=
  if (s.port p).quiet.contains code then s
  else (s.onPort p fun q => { q with quiet := code :: q.quiet }).clientViolation p code

/-! ### The egress (R176) -/

/-- Whether the cold-apply window of Table 2.19 is open, or a shut-down holds the egress at LF (Table 16.9). -/
def State.applying (s : State) : Bool := s.bufState = 6 || s.shut

/-- Whether a carrier is in TRAFFIC. -/
def State.inTraffic (s : State) (c : Carrier) : Bool := s.linkState c = 4

/-- The traffic condition of a port (R176): none is asked in HOST_TEST, where a port has no carriers, but with LOOP = 0 its egress sends LF (R180). A
LOOP = LINE that an earlier mode left there counts as a loop: the spec speaks of a write only (DESIGN CHOICE, log 85). -/
def State.trafficOk (s : State) (p : Nat) : Bool :=
  match s.mode with
  | 1 => s.inTraffic .A && s.inTraffic .B
  | 2 => s.inTraffic .A || s.inTraffic .B
  | 7 => s.get (F.CLIENT_CTRL.LOOP p) ≠ 0
  | _ => (s.portOn p .A && s.inTraffic .A) || (s.portOn p .B && s.inTraffic .B)

/-- EGRESS_DATA follows R176, with EGRESS_UP or EGRESS_LF when it changes. -/
def State.egressUpdate (s : State) (p : Nat) : State :=
  if s.portUsed p then
    let up := s.trafficOk p && !s.applying && !s.on (F.CLIENT_CTRL.FORCE_LF p)
    let was := s.on (F.CLIENT_STATE.EGRESS_DATA p)
    let s := s.setB (F.CLIENT_STATE.EGRESS_DATA p) up
    if up && !was then s.clientEvent p 3 else if was && !up then s.clientEvent p 2 else s
  else s

/-- Every port's egress. -/
def State.egressAll (s : State) : State := (List.range 16).foldl State.egressUpdate s

/-! ### The record stream (R168 to R171) -/

/-- CRC-8 with polynomial x^8 + x^2 + x + 1 and initial value 0, bits in transmission order (R168). -/
def crc8 (bs : List Byte) : Nat :=
  bs.foldl (fun crc b =>
    (List.range 8).foldl (fun c _ => if 128 ≤ c then (2 * c % 256) ^^^ 0x07 else 2 * c) (crc ^^^ b.toNat)) 0

/-- A record header: KIND, ERR, LENGTH and HEC (Table 8.4). -/
def recordHeader (kind : Nat) (err : Bool) (len : Nat) : List Byte :=
  let top := beBytes 3 (kind * 2 ^ 22 + (if err then 2 ^ 21 else 0) + len * 2 ^ 6)
  top ++ beBytes 1 (crc8 top)

/-- A FRAME record: the frame padded with zeros to a multiple of 4 bytes (Table 8.5). -/
def frameRecord (bytes : List Byte) (err : Bool) : List Byte :=
  recordHeader 0 err bytes.length ++ bytes ++ List.replicate ((4 - bytes.length % 4) % 4) 0

/-- An ORDERED_SET record: 1 LF, 2 RF, 3 LI. -/
def setRecord (set : Nat) : List Byte := recordHeader 1 false set

/-- A MARK record. -/
def markRecord (n : Nat) : List Byte := recordHeader 2 false 4 ++ beBytes 4 n

/-- Gleaner's word of a record: its header [31:8] (Table 15.1). -/
def recordWord (rec : List Byte) : Nat := beNat (slice rec 0 3)

/-- Gives a record to the carriers that carry it: all the port's carriers, in JOINT the segment's one (R177). -/
def State.toCarriers (s : State) (p : Nat) (rec : List Byte) : State :=
  let give (s : State) (c : Carrier) : State :=
    if s.portOn p c then (s.send (.record p c rec)).onPort p fun q => { q with stream := q.stream.upd c (· ++ rec) } else s
  let s := s.tapped 2 2 p ⟨[recordWord rec], false⟩
  if s.mode = 1 then give s (s.port p).segCarrier else give (give s .A) .B

/-- The number the first MARK of a port takes: the spec states none (log 5). -/
def State.firstMark (s : State) (p : Nat) : State :=
  if (s.port p).segLen.isNone then
    let (w, s) := s.freeWord
    s.onPort p fun q => { q with mark := w.toNat }
  else s

/-- The carrier of a new segment in JOINT: of those with slots of the port the one with the smaller backlog, ties to A (R177). -/
def State.segmentCarrier (s : State) (p : Nat) : Carrier :=
  let q := (s.port p).stream
  if !s.portOn p .A then .B else if s.portOn p .B && q.B.length < q.A.length then .B else .A

/-- A MARK before the record that would start 8,192 or more bytes after the last MARK (R170). -/
def State.markIfDue (s : State) (p : Nat) : State :=
  let due : Bool := match (s.port p).segLen with
    | none => true
    | some n => 8192 ≤ n
  if due then
    let s := s.firstMark p
    let c := s.segmentCarrier p
    let s := s.onPort p fun q => { q with segCarrier := c }
    let s := s.toCarriers p (markRecord (s.port p).mark)
    s.onPort p fun q => { q with mark := (q.mark + 1) % 2 ^ 32, segLen := some 8 }
  else s

/-- Sends a record toward the line (R170). -/
def State.toLine (s : State) (p : Nat) (rec : List Byte) : State :=
  let s := s.markIfDue p
  (s.toCarriers p rec).onPort p fun q => { q with segLen := q.segLen.map (· + rec.length) }

/-! ### Frames and ordered sets toward the host ASIC -/

/-- The egress buffer of a port: 8 KiB per slot (R175). -/
def State.egressBytes (s : State) (p : Nat) : Nat := 8192 * s.get (F.CLIENT_CFG.SLOTS p)

/-- The average gap: 12 bytes while the egress buffer is less than half full, 8 at half full and above (R175). -/
def State.egressGap (s : State) (p : Nat) : Nat := if 2 * (s.port p).held < s.egressBytes p then 12 else 8

/-- Frame bytes leave the egress buffer. -/
def State.egressDrain (s : State) (p n : Nat) : State := s.onPort p fun q => { q with held := q.held - n }

/-- A frame for the host ASIC ends an ordered set sent in place of idles (R176). It goes out if the egress carries data; one that finds no room in
the buffer is discarded and counted (R175); PTP messages are corrected (R197). -/
def State.toHost (s : State) (p : Nat) (bytes : List Byte) (err : Bool) : State :=
  let s := s.onPort p fun q => { q with setOut := 0 }
  if !s.on (F.CLIENT_STATE.EGRESS_DATA p) then s
  else if s.egressBytes p < (s.port p).held + bytes.length then s.bump (F.CLIENT_ERR.OUT_DROP p)
  else
    let s := s.onPort p fun q =>
      { q with held := q.held + bytes.length, live := (q.live.modify 4 (·.add 1)).modify 5 (·.add (if err then 1 else 0)) }
    let (out, s) := s.stampOut p bytes err
    s.send (.clientFrame p out err (s.egressGap p))

/-- The fields of a record's header: KIND, ERR, LENGTH. -/
def headerFields (rec : List Byte) : Nat × Bool × Nat :=
  let h := beNat (rec.take 4)
  (h / 2 ^ 30, h / 2 ^ 29 % 2 = 1, h / 2 ^ 14 % 2 ^ 14)

/-- Whether a header's HEC is good (R168). -/
def hecGood (rec : List Byte) : Bool := 4 ≤ rec.length && crc8 (rec.take 3) = (nth rec 3 0).toNat

/-- A record as it is treated: a FRAME that holds an errored byte, or that is cut off before its end, has ERR (R174, R179). A cut one ends with
the bytes that came. -/
def withErr (bad : Bool) (rec : List Byte) : List Byte :=
  match headerFields rec with
  | (0, err, len) =>
    if rec.length < 4 + len then frameRecord (rec.drop 4) true
    else if bad && !err then recordHeader 0 true len ++ rec.drop 4
    else rec
  | _ => rec

/-- Forwards one record to the host ASIC: a frame, with ERR where it holds a byte of an uncorrectable word (R258), or an ordered set in place of
idles (R176). -/
def State.forwardToHost (s : State) (p : Nat) (rec : List Byte) : State :=
  match headerFields rec with
  | (0, err, len) =>
    let spoiled : Bool := 0 < (s.port p).spoilOut
    (s.onPort p fun q => { q with spoilOut := q.spoilOut - 1 }).toHost p (slice rec 4 len) (err || spoiled)
  | (1, _, set) => s.onPort p fun q => { q with setOut := set }
  | _ => s

/-- Forwards a record that the line delivered, `bad` giving frames ERR: with LOOP = LINE it also goes back toward the line, with LOOP = HOST the
host does not receive it (R180). -/
def State.forward (s : State) (p : Nat) (bad : Bool) (rec : List Byte) : State :=
  let rec' := withErr bad rec
  let s := s.tapped 2 3 p ⟨[recordWord rec'], false⟩
  let s := if s.get (F.CLIENT_CTRL.LOOP p) = 2 && (headerFields rec').1 < 2 then s.toLine p rec' else s
  if s.get (F.CLIENT_CTRL.LOOP p) = 1 then s else s.forwardToHost p rec'

/-- A record of the host ASIC: toward the line unless the line's records replace it, and with LOOP = HOST to the port's own
egress (R180). -/
def State.ingressRecord (s : State) (p : Nat) (rec : List Byte) : State :=
  let s := if s.get (F.CLIENT_CTRL.LOOP p) = 2 then s else s.toLine p rec
  if s.get (F.CLIENT_CTRL.LOOP p) = 1 then s.forwardToHost p rec else s

/-! ### The ingress state machine (Table 8.3) -/

/-- The ingress state: 0 DISABLED, 1 DOWN, 2 ALIGNING, 3 UP, 4 IDLE. -/
def State.ingress (s : State) (p : Nat) : Nat := s.get (F.CLIENT_STATE.INGRESS p)

/-- Sets the ingress state. -/
def State.toIngress (s : State) (p st : Nat) : State := s.set (F.CLIENT_STATE.INGRESS p) st

/-- The lanes of a port. -/
def State.portLanes (s : State) (p : Nat) : List Nat :=
  (List.range (s.get (F.CLIENT_CFG.LANES p))).map (s.get (F.CLIENT_CFG.FIRST_LANE p) + ·)

/-- A lane's state (Table 7.1). -/
def State.laneState (s : State) (n : Nat) : Nat := s.get (F.HOSTLANE_STATE.STATE n)

/-- Whether all lanes of a port are in DATA. -/
def State.lanesData (s : State) (p : Nat) : Bool := (s.portLanes p).all (fun n => s.laneState n = 4)

/-- Whether a lane of a port is in neither DATA nor IDLE. -/
def State.laneDown (s : State) (p : Nat) : Bool := (s.portLanes p).any (fun n => s.laneState n ≠ 4 && s.laneState n ≠ 5)

/-- The port goes DOWN and sends LF toward the line (Table 8.2); with all lanes in DATA it aligns again at once. -/
def State.ingressDown (s : State) (p : Nat) : State :=
  let s := (s.toIngress p 1).onPort p fun q => { q with setIn := 0 }
  let s := s.ingressRecord p (setRecord 1)
  if s.lanesData p then s.toIngress p 2 else s

/-- The ingress follows a change of its lanes (Table 8.3). -/
def State.lanesChanged (s : State) (p : Nat) : State :=
  if !s.portUsed p then s
  else match s.ingress p with
    | 1 => if s.lanesData p then s.toIngress p 2 else s
    | 3 =>
      if s.laneDown p then (s.clientEvent p 1).ingressDown p
      else if s.lanesData p then s
      else (s.toIngress p 4).onPort p fun q => { q with setIn := 0 }
    | 4 =>
      if s.laneDown p then (s.clientEvent p 1).ingressDown p
      else if s.lanesData p then s.toIngress p 2
      else s
    | _ => s

/-- An UP port goes DOWN with INGRESS_DOWN: hi_ser, or marker lock lost. -/
def State.ingressFails (s : State) (p : Nat) : State := (s.clientEvent p 1).ingressDown p

end Sys2Proof.Machine
end

