-- ==== Sys2Proof/Machine/LinkOps.lean ====
section
/-!
DEFINITION. The link manager's operations (chapter 6): LINK messages and cells (R113, R133, R134), capabilities and agreed values
(R130, R131), link states (R125), headland messages (R126 to R129), and the two-way commit (R135 to R139).
-/
namespace Sys2Proof.Machine

/-! ### Messages on the management channel -/

/-- The WMP version byte sent: the agreed one, 1.0 before agreement. -/
def State.wmpVersion (s : State) (c : Carrier) : Nat :=
  let v := 16 * s.get (F.LINK_STATE.WMP_MAJOR c) + s.get (F.LINK_STATE.WMP_MINOR c)
  if v = 0 then 0x10 else v

/-- A LINK message (R133). -/
def State.linkMsg (s : State) (c : Carrier) (typ flags tag : Nat) (body : List Byte) : List Byte :=
  beBytes 1 (s.wmpVersion c) ++ beBytes 1 4 ++ beBytes 1 typ ++ beBytes 1 flags ++ beBytes 2 tag ++ beBytes 2 body.length ++ body

/-- Answers a request and keeps the response for a retransmission (R134). -/
def State.linkAnswer (s : State) (c : Carrier) (typ flags tag : Nat) (body : List Byte) : State :=
  let msg := s.linkMsg c typ flags tag body
  (s.mccSend c msg).onLink c fun k => { k with answered := some (tag, msg) }

/-- Refuses a message with a NAK (Table 6.6), counted in NAKS; of a request (CAPS, PROPOSE) it is the response kept (R134). -/
def State.linkNak (s : State) (c : Carrier) (typ tag code : Nat) : State :=
  let s := if typ = 0x01 || typ = 0x10 then s.linkAnswer c typ 3 tag (beBytes 1 code)
    else s.mccSend c (s.linkMsg c typ 3 tag (beBytes 1 code))
  s.bump (F.LINK_LINK_COUNT.NAKS c)

/-- A LINK message of bad length or encoding (code 0x02 of Table 6.7). -/
def State.linkMalformed (s : State) (c : Carrier) (typ tag : Nat) : State := (s.linkViolation c 0x02).linkNak c typ tag 0x02

/-- What COMMIT, WITHDRAW and ACCEPT carry (Table 6.5): KIND and M; none of a bad length or an illegal KIND. -/
def changeOf (body : List Byte) : Option (Nat × Nat) :=
  let kind := beNat (slice body 0 1)
  if body.length = 6 ∧ (kind = 1 ∨ kind = 2) then some (kind, beNat (slice body 2 3)) else none

/-- Answers a request again if its TAG is that of the last request answered (R134); else handles it. -/
def State.linkRequest (s : State) (c : Carrier) (tag : Nat) (k : State → State) : State :=
  match (s.link.at c).answered with
  | some (t, msg) => if t = tag then s.mccSend c msg else k s
  | none => k s

/-- The front message taken from the receive queue by the link manager. -/
def State.mccTake (s : State) (c : Carrier) : State := s.onLine c fun l => { l with rxMsgs := l.rxMsgs.drop 1 }

/-- A tag for a new request. -/
def State.linkTag (s : State) (c : Carrier) : Nat := (s.link.at c).nextTag

/-- The tag is used. -/
def State.tagUsed (s : State) (c : Carrier) : State :=
  s.onLink c fun k => { k with nextTag := (k.nextTag + 1) % 2 ^ 16 }

/-! ### What this end offers (R130, R131, Table 6.4) -/

/-- This part's NODE_ID. -/
def State.nodeId (s : State) : Nat := ((s.plan.running.bind (·.frame)).map (·.node)).getD 0

/-- The running plan's FRAME record, absent fields zero. -/
def State.runFrame (s : State) : FrameRec :=
  (s.plan.running.bind (·.frame)).getD ⟨0, 0, false, false, false, 0, 0⟩

/-- Frame majors this end offers: those of `PLAN_FORMAT`, not above the plan's FRAME_MAJOR. -/
def State.frameLo (s : State) : Nat := s.get F.PLAN_FORMAT.FRAME_MAJOR_MIN
def State.frameHi (s : State) : Nat := min (s.get F.PLAN_FORMAT.FRAME_MAJOR_MAX) s.runFrame.major

/-- A sum of feature bits. -/
def bitSum (bs : List Bool) : Nat := (bs.zipIdx.map (fun p => if p.1 then 2 ^ p.2 else 0)).foldl (· + ·) 0

/-- The feature bits this end offers on a carrier (Table 6.4). -/
def State.offers (s : State) (c : Carrier) : Nat :=
  let shaping := ((s.plan.running.map (fun p => p.has 0x0A c.idx))).getD false
  bitSum [true, shaping, true, s.runFrame.time, s.runFrame.snr, true, s.on (F.LINK_MGR_CTRL.AUTO_FOLLOW c), s.mode = 1]

/-- BASES: bits [2k + 1:2k] hold the base of subcarrier k. -/
def basesOf (ss : List SubRec) : Nat := (ss.zipIdx.map (fun p => p.1.base * 4 ^ p.2)).foldl (· + ·) 0

/-- The running plan's subcarriers of a carrier. -/
def State.runSubs (s : State) (c : Carrier) : List SubRec := (s.plan.running.map (·.subs c)).getD []

/-- The code of a carrier, 0 without an FEC record. -/
def State.codeOf (s : State) (c : Carrier) : Nat := ((s.runFec c).map (·.code)).getD 0

/-- This end's CAPS (Table 6.5). -/
def State.ownCaps (s : State) (c : Carrier) : Caps :=
  { node := s.nodeId, frameLo := s.frameLo, frameHi := s.frameHi, frameMinor := 0, wmpLo := s.sec.wmpMajors / 16, wmpHi := s.sec.wmpMajors % 16, wmpMinor := 0,
    plan := 16 * s.get F.PLAN_FORMAT.PLAN_MAJOR + s.get F.PLAN_FORMAT.PLAN_MINOR, mode := s.mode, features := s.offers c,
    rate := ((s.runCarrier c).map (·.rate)).getD 0, count := s.subCount c, code := s.codeOf c, forward := s.runFrame.forward,
    bases := basesOf (s.runSubs c), epoch := s.get F.PLAN_RUN_EPOCH.EPOCH, lowMinors := 0 }

/-- The body of a CAPS. -/
def Caps.body (k : Caps) : List Byte :=
  beBytes 4 k.node ++ beBytes 1 (16 * k.frameLo + k.frameHi) ++ beBytes 1 k.frameMinor ++ beBytes 1 (16 * k.wmpLo + k.wmpHi)
    ++ beBytes 1 k.wmpMinor ++ beBytes 1 k.plan ++ beBytes 1 k.mode ++ beBytes 4 k.features ++ beBytes 2 k.rate
    ++ beBytes 1 k.count ++ beBytes 1 k.code ++ beBytes 1 k.forward ++ beBytes 4 k.bases ++ beBytes 4 k.epoch
    ++ beBytes 1 k.lowMinors

/-- A CAPS body read; none where its length is not 28. -/
def capsOf (b : List Byte) : Option Caps :=
  if b.length ≠ 28 then none
  else
    let f (o n : Nat) : Nat := beNat (slice b o n)
    some { node := f 0 4, frameLo := f 4 1 / 16, frameHi := f 4 1 % 16, frameMinor := f 5 1, wmpLo := f 6 1 / 16,
           wmpHi := f 6 1 % 16, wmpMinor := f 7 1, plan := f 8 1, mode := f 9 1, features := f 10 4, rate := f 14 2,
           count := f 16 1, code := f 17 1, forward := f 18 1, bases := f 19 4, epoch := f 23 4, lowMinors := f 27 1 }

/-- An end's minor at a frame major (R131). -/
def Caps.frameMinorAt (k : Caps) (m : Nat) : Nat := if m = k.frameHi then k.frameMinor else if m = k.frameLo then k.lowMinors / 16 else 0

/-- An end's minor at a WMP major (R131). -/
def Caps.wmpMinorAt (k : Caps) (m : Nat) : Nat := if m = k.wmpHi then k.wmpMinor else if m = k.wmpLo then k.lowMinors % 16 else 0

/-- Feature bits whose minimum frame major is 2 (Table 6.4): 1, 2, 5, 6. -/
def majorTwoBits : Nat := 0x66

/-- The agreed values of two ends (R131); none without a common frame or WMP major. -/
def agree (a b : Caps) : Option Agreed :=
  let fm := min a.frameHi b.frameHi
  let wm := min a.wmpHi b.wmpHi
  if fm < max a.frameLo b.frameLo ∨ wm < max a.wmpLo b.wmpLo ∨ fm = 0 ∨ wm = 0 then none
  else
    let feats := a.features &&& b.features &&& 0xFF
    some { frame := 16 * fm + min (a.frameMinorAt fm) (b.frameMinorAt fm),
           wmp := 16 * wm + min (a.wmpMinorAt wm) (b.wmpMinorAt wm),
           features := if fm < 2 then feats - (feats &&& majorTwoBits) else feats }

/-- Whether two configurations agree (R131). -/
def sameConfig (a b : Caps) : Bool :=
  a.rate = b.rate && a.count = b.count && a.code = b.code && a.forward = b.forward && a.bases = b.bases

/-- In JOINT each carrier's peer must be the same node (R124, R131). -/
def State.jointPeerOk (s : State) (c : Carrier) (node : Nat) : Bool :=
  s.mode != 1 || match (s.link.at c.other).peer with
    | some k => k.node = node
    | none => true

/-- The body of a CAPS_ACK. -/
def Agreed.body (g : Agreed) : List Byte := beBytes 1 g.frame ++ beBytes 1 g.wmp ++ beBytes 4 g.features ++ beBytes 2 0

/-! ### Link states (Table 6.2) -/

/-- Sets the link state; leaving TRAFFIC returns the line transfer to WAIT (Table 9.3), and the client
ports' egress follows the traffic condition (R124, R176). -/
def State.toLink (s : State) (c : Carrier) (st : Nat) : State :=
  let s := if s.linkState c = 4 && st ≠ 4 && s.ttCarrier c then s.ttWait else s
  let s := if s.linkState c = 4 && st ≠ 4 then s.sessionEnd (2 + c.idx) else s
  (s.set (F.LINK_STATE.STATE c) st).egressAll

/-- Shows the commit in progress: this end's proposal, else the one held for the peer (R142). -/
def State.showCommit (s : State) (c : Carrier) : State :=
  let k := s.link.at c
  match k.own.head?, k.held.head? with
  | some p, _ =>
    (((s.set (F.LINK_COMMIT.M c) p.m).set (F.LINK_COMMIT.KIND c) p.kind).set (F.LINK_COMMIT.INITIATOR c) 1).set
      (F.LINK_COMMIT.CSTATE c) p.cstate
  | none, some p =>
    (((s.set (F.LINK_COMMIT.M c) p.m).set (F.LINK_COMMIT.KIND c) p.kind).set (F.LINK_COMMIT.INITIATOR c) 0).set
      (F.LINK_COMMIT.CSTATE c) (min 3 (if p.cstate = 4 then 2 else p.cstate))
  | none, none => s.wr (R.LINK_COMMIT c) 0

/-- A list of proposals with the one of a kind replaced. -/
def putKind (l : List Proposal) (kind : Nat) (p : Option Proposal) : List Proposal := p.toList ++ l.filter (fun q => q.kind ≠ kind)

/-- The proposal of a kind. -/
def kindOf (l : List Proposal) (kind : Nat) : Option Proposal := l.find? (fun q => q.kind = kind)

/-- Sets this end's proposal of a kind. -/
def State.setOwn (s : State) (c : Carrier) (kind : Nat) (p : Option Proposal) : State :=
  (s.onLink c fun k => { k with own := putKind k.own kind p }).showCommit c

/-- Sets the proposal of a kind held for the peer. -/
def State.setHeld (s : State) (c : Carrier) (kind : Nat) (p : Option Proposal) : State :=
  (s.onLink c fun k => { k with held := putKind k.held kind p }).showCommit c

/-- A commit is withdrawn or released: counted, COMMIT_ABORT (R139). -/
def State.commitAbort (s : State) (c : Carrier) : State := (s.bump (F.LINK_LINK_COUNT.ABORTS c)).mgrRaise c 4

/-- The proposals that are armed. -/
def armedOf (l : List Proposal) : List Proposal := l.filter (fun q => q.cstate = 3 || q.cstate = 4)

/-- Commits not yet armed are abandoned on leaving TRAFFIC (R125). -/
def State.abandonCommits (s : State) (c : Carrier) : State :=
  if s.linkState c = 4 then
    (s.onLink c fun k => { k with own := armedOf k.own, held := armedOf k.held }).showCommit c
  else s

/-- Sends CAPS as a new request (R131, R134). -/
def State.sendCaps (s : State) (c : Carrier) : State :=
  let tag := s.linkTag c
  let s := s.mccSend c (s.linkMsg c 1 0 tag (s.ownCaps c).body)
  (s.tagUsed c).onLink c fun k => { k with capsTag := some tag, capsSends := 1 }

/-- Entry to NEGOTIATE: CAPS sent. -/
def State.enterNegotiate (s : State) (c : Carrier) : State :=
  let s := (s.abandonCommits c).toLink c 2
  (s.onLink c fun k => { k with agreed := none, ackSeen := none, negotiated := none, eTaken := false, backoffOver := false }).sendCaps c

/-- A LINK_DOWN on the headland channel (R128): PEER_NODE is the negotiated peer's, 0 before NEGOTIATE completes (Table 6.3). -/
def State.linkDownMsg (s : State) (c : Carrier) : List Byte :=
  beBytes 1 3 ++ beBytes 1 c.idx ++ beBytes 4 s.nodeId ++ beBytes 4 ((s.link.at c).negotiated.getD 0)

/-- Entry to LOST: counted, LINK_DOWN raised, beacons in fast mode, the back-off started (R125). -/
def State.enterLost (s : State) (c : Carrier) : State :=
  let s := (s.abandonCommits c).toLink c 5
  let s := s.onLink c fun k => { k with fast := true, capsTag := none, backoffOver := false }
  (s.bump (F.LINK_LINK_COUNT.LOSSES c)).mgrRaise c 1

/-- BACKOFF + 1, saturating at 6 (R125). -/
def State.backoffUp (s : State) (c : Carrier) : State :=
  s.set (F.LINK_STATE.BACKOFF c) (min 6 (s.get (F.LINK_STATE.BACKOFF c) + 1))

/-- Entry to INCOMPATIBLE. -/
def State.enterIncompatible (s : State) (c : Carrier) : State :=
  let s := (s.abandonCommits c).toLink c 6
  (s.onLink c fun k => { k with capsTag := none }).mgrRaise c 2

/-- TAKE_E: ignored in TRAFFIC or while a receive step is armed (R142). -/
def State.takeE (s : State) (c : Carrier) : State :=
  if s.linkState c = 4 || s.on (F.LINK_RX_STEP.ARMED c) then s
  else s.onLine c fun l => { l with takeE := true, taken := none }

/-- Whether numbering is adopted on a carrier: frame major 2 agreed, the feature agreed, and a role (Table 6.2). -/
def State.adopts (s : State) (c : Carrier) : Bool :=
  2 ≤ s.get (F.LINK_STATE.FRAME_MAJOR c) && s.get (F.LINK_NUMBERING.ROLE c) != 0
    && s.get (F.LINK_FEATURES.VALUE c) / 32 % 2 = 1

/-- ADOPT: the adopter jumps at its next multiframe (R112); a pair on version 1 has no jumps (R102). -/
def State.adopt (s : State) (c : Carrier) : State :=
  if s.get (F.LINK_NUMBERING.ROLE c) = 2 && 2 ≤ s.get (F.LINK_STATE.FRAME_MAJOR c) then (s.onLine c fun l => { l with slip := 3, adopted := false }).markSlip c else s

/-- Entry to ALIGN: TAKE_E, and the adopter writes ADOPT (Table 6.2). -/
def State.enterAlign (s : State) (c : Carrier) : State :=
  let s := (s.toLink c 3).ttAgreed c
  let s := s.onLink c fun k => { k with eTaken := false }
  let s := s.onLine c fun l => { l with jumped := false }
  let s := s.takeE c
  if s.adopts c then s.adopt c else s

/-- The agreed values take effect: versions, features, numbering role; BACKOFF 0 (Table 6.2, R112). -/
def State.applyAgreed (s : State) (c : Carrier) (g : Agreed) : State :=
  let peer := ((s.link.at c).peer.map (·.node)).getD 0
  let role := if s.nodeId < peer then 1 else if peer < s.nodeId then 2 else 0
  let s := (s.set (F.LINK_STATE.FRAME_MAJOR c) (g.frame / 16)).set (F.LINK_STATE.FRAME_MINOR c) (g.frame % 16)
  let s := (s.set (F.LINK_STATE.WMP_MAJOR c) (g.wmp / 16)).set (F.LINK_STATE.WMP_MINOR c) (g.wmp % 16)
  let s := (s.set (F.LINK_FEATURES.VALUE c) g.features).set (F.LINK_STATE.BACKOFF c) 0
  let s := (s.set (F.LINK_NUMBERING.ROLE c) role).ttLapsed c
  s.onLink c fun k => { k with capsTag := none, negotiated := k.peer.map (·.node) }

/-- A CAPS_ACK with this end's agreed values (Table 6.2); other values are a violation and count as no answer (R141). -/
def State.capsAck (s : State) (c : Carrier) (g : Agreed) (body : List Byte) : State :=
  if body = g.body then
    let s := s.applyAgreed c g
    if s.linkState c = 2 then s.enterAlign c else s
  else s.linkViolation c 0x0B

/-- A peer CAPS (R131): settled and answered with CAPS_ACK, or INCOMPATIBLE. In TRAFFIC the exchange runs both ways (Table 6.2): this end's
CAPS goes first, unless one is outstanding. -/
def State.capsReceived (s : State) (c : Carrier) (tag : Nat) (k : Caps) : State :=
  let s := (s.onLink c fun x => { x with peer := some k }).set (F.LINK_PEER_FEATURES.VALUE c) k.features
  match agree (s.ownCaps c) k with
  | some g =>
    if sameConfig (s.ownCaps c) k && s.jointPeerOk c k.node then
      let s := if s.linkState c = 4 && s.locked c && (s.link.at c).capsTag.isNone then s.sendCaps c else s
      let s := s.linkAnswer c 2 1 tag g.body
      let s := s.onLine c fun l => { l with nextVersion := some g.frame }
      let early := (s.link.at c).ackSeen
      let s := s.onLink c fun x => { x with agreed := some g, ackSeen := none }
      match early with
      | some b => s.capsAck c g b
      | none => s
    else (s.linkNak c 1 tag 0x0D).enterIncompatible c
  | none => (s.linkNak c 1 tag 0x0D).enterIncompatible c

/-- Starts a CAPS exchange: in TRAFFIC without leaving it, from INCOMPATIBLE by NEGOTIATE, while locked (Table 6.2). -/
def State.renegotiate (s : State) (c : Carrier) : State := s.managed fun s =>
  if !s.locked c then s
  else if s.linkState c = 4 then s.sendCaps c
  else if s.linkState c = 6 then s.enterNegotiate c
  else s

/-! ### The headland channel (R126 to R129) -/

/-- The beacon of a carrier (Table 6.3). -/
def State.beacon (s : State) (c : Carrier) : List Byte :=
  let cr := (s.runCarrier c).getD ⟨0, 0, false, false, 0, 0, 0, 0⟩
  let peer := (s.link.at c).negotiated.getD 0
  beBytes 1 1 ++ beBytes 1 (32 * s.linkState c + 16 * c.idx) ++ beBytes 4 s.nodeId ++ beBytes 2 (ofSigned 16 cr.centreN)
    ++ beBytes 2 cr.rate ++ beBytes 1 (16 * s.frameLo + s.get F.PLAN_FORMAT.FRAME_MAJOR_MAX) ++ beBytes 1 0x20
    ++ beBytes 1 (16 * s.get F.PLAN_FORMAT.PLAN_MAJOR + s.get F.PLAN_FORMAT.PLAN_MINOR) ++ beBytes 1 s.mode
    ++ beBytes 4 (s.offers c) ++ beBytes 4 peer ++ beBytes 4 (s.get F.PLAN_RUN_EPOCH.EPOCH) ++ s.label

/-- Sends a beacon of a lit carrier: not in DARK, and only while the transmitter is ON (R126). -/
def State.sendBeacon (s : State) (c : Carrier) : State :=
  if s.linkState c != 0 && s.txState c = 2 then s.headlandSend c s.planSub (s.beacon c) else s

/-- A headland message that is ignored: unknown, or of the wrong length (R128, R141). -/
def State.headlandIgnored (s : State) (c : Carrier) (code : Nat) : State :=
  (s.bump F.LINK_HL_IGNORED.COUNT).linkViolation c code

/-- The neighbour entry a node is listed in. -/
def State.nbFind (s : State) (node : Nat) : Option Nat := (List.range 16).find? (fun n => s.nbNode n = node)

/-- The entry a new node takes: a free one, else the one heard longest ago (R129). -/
def State.nbSlot (s : State) : Nat := ((List.range 16).find? (fun n => s.nbNode n = 0)).getD (nth s.neighbours 0 0)

/-- The version and epoch fields of a beacon: bytes 10 to 12 and 22 to 25 (Table 6.3). -/
def beaconVersions (bytes : List Byte) : Nat := beNat (slice bytes 10 3 ++ slice bytes 22 4)

/-- Whether a beacon of a listed node differs in its version or epoch fields from that node's last one. -/
def State.beaconChanged (s : State) (bytes : List Byte) : Bool :=
  match s.nbFind (beNat (slice bytes 2 4)) with
  | some n => nth s.nbVersions n 0 != beaconVersions bytes
  | none => false

/-- An INCOMPATIBLE carrier negotiates again when its peer's beacon shows other version or epoch fields, while locked (Table 6.2). -/
def State.beaconRetry (s : State) (changed : Bool) (node : Nat) (c : Carrier) : State :=
  if changed && s.linkState c = 6 && s.locked c && ((s.link.at c).peer.map (·.node)) = some node then s.enterNegotiate c else s

/-- Fills or refreshes a neighbour entry from a beacon (R129). -/
def State.nbEnter (s : State) (bytes : List Byte) (rssi : Nat) : State :=
  let node := beNat (slice bytes 2 4)
  let known := s.nbFind node
  let n := known.getD s.nbSlot
  let heard : Heard := ⟨beNat (slice bytes 1 1) / 16 % 2, beNat (slice bytes 6 2), beNat (slice bytes 8 2), rssi⟩
  let others := if known.isSome then (nth s.nbHeard n []).filter (fun h => h.carrier ≠ heard.carrier) else []
  let s := s.set (F.LINK_NB_NODE.NODE n) node
  let s := s.set (F.LINK_NB_INFO.CENTRE_N n) (beNat (slice bytes 6 2))
  let s := s.setSat (F.LINK_NB_INFO.RSSI n) rssi
  let s := s.set (F.LINK_NB_INFO.CARRIER n) (beNat (slice bytes 1 1) / 16)
  let s := s.set (F.LINK_NB_INFO.AGE n) 0
  let s := { s with neighbours := s.neighbours.filter (· ≠ n) ++ [n], nbHeard := s.nbHeard.set n (heard :: others), nbVersions := s.nbVersions.set n (beaconVersions bytes) }
  if known.isSome then s else s.mgrRaise .A 6

/-- The beacons heard that name a candidate peer for a carrier: another node's, of the carrier's CENTRE_N and SYMBOL_RATE (R129), as NODE_ID and
RSSI. -/
def State.qualifying (s : State) (cr : CarrierRec) : List (Nat × Nat) :=
  (List.range 16).flatMap fun n =>
    if s.nbNode n = 0 || s.nbNode n = s.nodeId then []
    else ((nth s.nbHeard n []).filter fun h => h.centre = ofSigned 16 cr.centreN && h.rate = cr.rate).map fun h => (s.nbNode n, h.rssi)

/-- The stronger of two by RSSI, the first if they are equal. -/
def stronger (best : Option (Nat × Nat)) (x : Nat × Nat) : Option (Nat × Nat) :=
  match best with
  | some b => if b.2 < x.2 then some x else some b
  | none => some x

/-- The candidate peer of a carrier: of those that qualify the one with the highest RSSI (R129), 0 if there is none. -/
def State.candidate (s : State) (c : Carrier) : State :=
  match s.runCarrier c with
  | some cr => s.set (F.LINK_CANDIDATE.VALUE c) ((((s.qualifying cr).foldl stronger none).map (·.1)).getD 0)
  | none => s

/-! ### Agreeing a change (R135 to R139) -/

/-- RTT in µs. -/
def State.rtt (s : State) (c : Carrier) : Nat := s.get (F.LINK_RTT.RTT c)

/-- Whether a feature bit is in the agreed set. -/
def State.featureAgreed (s : State) (c : Carrier) (bit : Nat) : Bool := s.get (F.LINK_FEATURES.VALUE c) / 2 ^ bit % 2 = 1

/-- The feature a kind of change needs: 1 re-plan bit 2, 2 entropy step bit 1 (Table 6.4). -/
def kindFeature (kind : Nat) : Nat := if kind = 1 then 2 else 1

/-- Whether the peer's PLAN_MAJOR differs (R132). -/
def State.formatSkew (s : State) (c : Carrier) : Bool :=
  match (s.link.at c).peer with
  | some k => k.plan / 16 != s.get F.PLAN_FORMAT.PLAN_MAJOR
  | none => false

/-- The NAK that refuses a change on the conditions of R132 and R135 (checks 1 to 4 of Table 6.6); none if they hold. FORMAT_SKEW comes
before the features, which it holds whatever they say (R132). -/
def State.changeNak (s : State) (c : Carrier) (kind : Nat) : Option Nat :=
  if s.linkState c ≠ 4 then some 0x0C
  else if kind = 1 && s.formatSkew c then some 0x09
  else if s.offers c / 2 ^ kindFeature kind % 2 = 0 then some 0x03
  else if !s.featureAgreed c (kindFeature kind) then some 0x04
  else if s.get (F.LINK_NUMBERING.ROLE c) = 0 then some 0x0A
  else none

/-- The least lead of a proposed M over C (R135). -/
def State.leastLead (s : State) (c : Carrier) : Nat := 64 + s.mfCeil c (2 * s.rtt c + 20000)

/-- The margin an initiator needs to arm (R138). -/
def State.armLead (s : State) (c : Carrier) : Nat := 64 + s.mfCeil c (s.rtt c) + 2

/-- Multiframes held by armed or accepted changes of a carrier (check 7 of Table 6.6). -/
def State.heldMfs (s : State) (c : Carrier) : List Nat :=
  (if s.stepArmed c then [s.get (F.FURROW_TX_STEP.STEP_MF c)] else [])
    ++ (if s.on (F.LINK_RX_STEP.ARMED c) then [s.get (F.LINK_RX_STEP.MF c)] else [])
    ++ (if s.hState = 3 || s.hState = 4 then [s.get F.PLAN_SWITCH.SWITCH_MF] else [])
    ++ (s.link.at c).held.map (·.m) ++ ((s.link.at c).own.filter (fun p => 2 ≤ p.cstate)).map (·.m)

/-- Sends a PROPOSE for a change (R135); the conditions of R135 refuse it, and M keeps the least lead and is not held. -/
def State.propose (s : State) (c : Carrier) (kind : Nat) (sole : Bool) (m : Nat) : State :=
  if (s.changeNak c kind).isSome || (kindOf (s.link.at c).own kind).isSome || !mfAtLeast m (s.txMf c) (s.leastLead c)
      || (s.heldMfs c).contains m || (kind = 1 && s.hState != 2) then s
  else
    let tag := s.linkTag c
    let targets := (List.range 16).map fun k =>
      if kind = 2 && k < s.subCount c then s.get (F.FURROW_TX_SC_ENTROPY.TARGET c k) else 0
    let body := beBytes 1 kind ++ beBytes 1 (if kind = 1 && sole then 1 else 0) ++ beBytes 3 m ++ beBytes 1 0
      ++ beBytes 4 (if kind = 1 then s.get F.PLAN_BUF_EPOCH.EPOCH else 0) ++ targets.flatMap (beBytes 1 ·)
    let s := s.mccSend c (s.linkMsg c 0x10 0 tag body)
    let s := (s.tagUsed c).setOwn c kind (some ⟨kind, m, sole, 1, tag, body, 1⟩)
    if kind = 1 then s.onPlan fun q => { q with proposedMf := some m } else s

/-- A proposal's body as COMMIT and WITHDRAW carry it. -/
def commitBody (p : Proposal) : List Byte := beBytes 1 p.kind ++ beBytes 1 0 ++ beBytes 3 p.m ++ beBytes 1 0

/-- This end withdraws its own proposal: WITHDRAW sent, the commit aborted (R138, R139). -/
def State.withdrawOwn (s : State) (c : Carrier) (kind : Nat) : State :=
  match kindOf (s.link.at c).own kind with
  | some p =>
    let s := s.mccSend c (s.linkMsg c 0x13 0 p.tag (commitBody p))
    (s.setOwn c kind none).commitAbort c
  | none => s

/-- The commit event of a re-plan with switch multiframe M: ARMED if C is below M − 64 and no entropy step is armed at M
(Table 2.20). -/
def State.replanCommit (s : State) (c : Carrier) (m : Nat) : State :=
  let stepAtM (d : Carrier) : Bool := s.stepArmed d && s.get (F.FURROW_TX_STEP.STEP_MF d) = m
  if s.hState = 2 && mfAtLeast m (s.txMf c) 65 && !stepAtM .A && !stepAtM .B then
    ((s.toH 3).set F.PLAN_SWITCH.SWITCH_MF m).raise 0x02 5
  else s

/-- Arms the receive side of a step at M: matched at once if the kept announcement names M (R116). -/
def State.rxStepArm (s : State) (c : Carrier) (m : Nat) : State :=
  let s := (s.set (F.LINK_RX_STEP.MF c) m).set (F.LINK_RX_STEP.ARMED c) 1
  let s := s.onLine c fun l => { l with capE := l.annE }
  s.setB (F.LINK_RX_STEP.MATCHED c) ((s.line.at c).annM = some (m % 2 ^ 24))

/-- The reference count of a responder: the received multiframe for a step, its own for a re-plan (R136). -/
def State.reference (s : State) (c : Carrier) (kind : Nat) : Nat := if kind = 2 then s.rxMf c else s.txMf c

/-- The responder arms a held change, if its reference count is still below M − 64 (R138). A receive step armed already is the held one if it is
at its M; one at another M stays, and the held change waits (R122). -/
def State.armHeld (s : State) (c : Carrier) (kind : Nat) : State :=
  match kindOf (s.link.at c).held kind with
  | none => s
  | some p =>
    if p.cstate ≠ 2 then s
    else if !mfAtLeast p.m (s.reference c p.kind) 65 then s
    else if p.kind = 2 then
      let armed (s : State) : State := (s.setHeld c kind (some { p with cstate := 3 })).mgrRaise c 3
      if !s.on (F.LINK_RX_STEP.ARMED c) then armed (s.rxStepArm c p.m)
      else if s.get (F.LINK_RX_STEP.MF c) = p.m then armed s
      else s
    else if p.sole then s.setHeld c kind (some { p with cstate := 4 })
    else
      let s' := s.replanCommit c p.m
      if s'.hState = 3 && s'.replanAt p.m then (s'.setHeld c kind (some { p with cstate := 3 })).mgrRaise c 3
      else (s'.setHeld c kind none).commitAbort c

/-- The responder's checks of a PROPOSE (Table 6.6, R137): the first failure's NAK. -/
def State.proposeNak (s : State) (c : Carrier) (kind m : Nat) (sole : Bool) : Option Nat :=
  let k := s.link.at c
  let keeper := s.get (F.LINK_NUMBERING.ROLE c) = 1
  let crossing := k.own.any (fun p => p.cstate = 1 && p.kind = kind && (kind = 1 || p.m = m))
  let busy := (kindOf k.held kind).isSome
  let ref := s.reference c kind
  match s.changeNak c kind with
  | some n => some n
  | none =>
    if busy then some 0x05
    else if !mfAtLeast m ref 64 || mfAhead m ref < 64 + s.mfCeil c (2 * s.rtt c) then some 0x06
    else if (s.heldMfs c).contains m then some 0x0B
    else if kind = 1 && !sole && s.hState != 2 then some 0x07
    else if crossing && keeper then some 0x08
    else none

/-- A PROPOSE: ACCEPT and M held, or a NAK; a crossing adopter withdraws its own (R136, R137). -/
def State.proposeReceived (s : State) (c : Carrier) (tag : Nat) (body : List Byte) : State :=
  let kind := beNat (slice body 0 1)
  let sole := beNat (slice body 1 1)
  let m := beNat (slice body 2 3)
  if body.length ≠ 26 ∨ kind = 0 ∨ 2 < kind ∨ 1 < sole then s.linkMalformed c 0x10 tag
  else match s.proposeNak c kind m (sole = 1) with
    | some n => s.linkNak c 0x10 tag n
    | none =>
      let crossing := (s.link.at c).own.any (fun p => p.cstate = 1 && p.kind = kind && (kind = 1 || p.m = m))
      let s := s.linkAnswer c 0x11 1 tag (commitBody ⟨kind, m, false, 0, 0, [], 0⟩)
      let s := s.setHeld c kind (some ⟨kind, m, sole = 1, 2, tag, [], 0⟩)
      -- the responder's own build has an abort deadline for M too (Table 2.20)
      let s := if kind = 1 ∧ sole = 0 then s.onPlan fun q => { q with proposedMf := some m } else s
      if crossing then s.withdrawOwn c kind else s

/-- ACCEPT of this end's proposal: COMMIT if the margin allows, else WITHDRAW (R138); no matching proposal is a violation, and one of a
proposal already accepted changes nothing. -/
def State.acceptReceived (s : State) (c : Carrier) (tag : Nat) (body : List Byte) : State :=
  match changeOf body with
  | none => s.linkMalformed c 0x11 tag
  | some (kind, m) => match kindOf (s.link.at c).own kind with
    | some p =>
      if 2 ≤ p.cstate && p.m = m then s
      else if p.cstate = 1 && p.m = m then
        if mfAtLeast m (s.txMf c) (s.armLead c) then
          (s.mccSend c (s.linkMsg c 0x12 0 p.tag (commitBody p))).setOwn c kind (some { p with cstate := 2 })
        else s.withdrawOwn c kind
      else s.linkViolation c 0x03
    | none => s.linkViolation c 0x03

/-- The COMMIT has left the queue: the initiator arms its step or re-plan (R138). An arming that is refused ends the commit. -/
def State.commitLeft (s : State) (c : Carrier) (kind : Nat) : State :=
  match kindOf (s.link.at c).own kind with
  | some p =>
    if p.cstate ≠ 2 then s
    else if p.kind = 2 then
      let s' := s.stepArm c p.m
      if s'.stepArmed c && s'.get (F.FURROW_TX_STEP.STEP_MF c) = p.m then (s'.setOwn c kind (some { p with cstate := 3 })).mgrRaise c 3
      else (s'.setOwn c kind none).commitAbort c
    else
      let s' := s.replanCommit c p.m
      if s'.hState = 3 && s'.replanAt p.m then (s'.setOwn c kind (some { p with cstate := 3 })).mgrRaise c 3
      else (s'.setOwn c kind none).commitAbort c
  | none => s

/-- A change of a kind at a multiframe is over on a carrier: its proposals end. -/
def State.commitOver (s : State) (c : Carrier) (kind m : Nat) : State :=
  let rest (l : List Proposal) : List Proposal := l.filter (fun q => !(q.kind = kind && q.m = m))
  (s.onLink c fun k => { k with own := rest k.own, held := rest k.held }).showCommit c

end Sys2Proof.Machine
end

