-- ==== Sys2Proof/Machine/Overhead.lean ====
section
/-!
DEFINITION. Line frame overhead: the fields of Table 5.1 as sent (R97 to R101, R106, R107, R112 to R116, R120, R130), with the
Reed-Solomon code of R99.
-/
namespace Sys2Proof.Machine

/-! ### The Reed-Solomon code (R99) -/

/-- Multiplication in GF(2^8) with x^8 + x^4 + x^3 + x^2 + 1. -/
def gfMul (a b : Nat) : Nat :=
  ((List.range 8).foldl (fun (acc : Nat × Nat) i =>
    let sum := if b / 2 ^ i % 2 = 1 then acc.1 ^^^ acc.2 else acc.1
    let x2 := if acc.2 < 128 then 2 * acc.2 else (2 * acc.2) ^^^ 0x11D
    (sum, x2)) (0, a)).1

/-- α^i, α = 2. -/
def gfPow (i : Nat) : Nat := (List.range i).foldl (fun a _ => gfMul a 2) 1

/-- The generator g(x) = Π (x − α^i), i = 0 to 15: its 17 coefficients, highest degree first. -/
def rsGen : List Nat :=
  (List.range 16).foldl (fun g i =>
    let shifted := g ++ [0]
    let scaled := 0 :: g.map (gfMul (gfPow i))
    shifted.zipWith (· ^^^ ·) scaled) [1]

/-- The 16 parity bytes of 108 information bytes, highest-degree coefficient first. -/
def rsParity (info : List Byte) : List Byte :=
  let g := rsGen.drop 1
  (info.foldl (fun reg b =>
    let fb := b.toNat ^^^ nth reg 0 0
    (reg.drop 1 ++ [0]).zipWith (fun r k => r ^^^ gfMul fb k) g) (List.replicate 16 0)).map (BitVec.ofNat 8 ·)

/-- The frame alignment word (R98). -/
def faw : List Byte :=
  [0xF6, 0x28, 0x3C, 0x91, 0xA7, 0x5E, 0x0D, 0xC4, 0x6B, 0x12, 0xE9, 0x57, 0xB0, 0x8F, 0x34, 0xDA]

/-! ### Positions and label bits (R95 to R97, R106) -/

/-- How many positions of [a, b) are s modulo n. -/
def countMod (a b n s : Nat) : Nat := (b + n - 1 - s) / n - (a + n - 1 - s) / n

/-- Positions of a frame. -/
def framePositions : Nat := 262144

/-- The overhead positions of frame `f`: its first 1,024 positions that are not pilots (R97). -/
def overheadPositions (count f : Nat) : List Nat :=
  (((List.range (1024 + 16 * count + 64)).map (f * framePositions + ·)).filter (fun g => g / count % 64 ≠ 0)).take 1024

/-- The subcarriers of a frame's overhead positions. -/
def overheadSubs (count f : Nat) : List Nat := (overheadPositions count f).map (· % count)

/-- Payload positions of a subcarrier in frame `f`: all but pilots and overhead. -/
def payloadOf (count f s : Nat) : Nat :=
  let a := f * framePositions
  countMod a (a + framePositions) count s - countMod a (a + framePositions) (64 * count) s
    - ((overheadSubs count f).filter (· = s)).length

/-- Label bits of frame `f`: 2 × m for each payload position (R106). -/
def labelBitsOf (ss : List SubRec) (f : Nat) : Nat :=
  (ss.zipIdx.map (fun p => payloadOf ss.length f p.2 * 2 * baseBits p.1.base)).foldl (· + ·) 0

/-- Bits of a code block (R103). -/
def blockBits : Nat := 96000

/-- FEC_PTR: label bits to the first block boundary at or after the frame's first label bit (R107). -/
def fecPtr (labels : Nat) : Nat := (blockBits - labels % blockBits) % blockBits

/-! ### The fields of Table 5.1 -/

/-- The DEFECTS byte from the receive side (R120). -/
def State.defects (s : State) (c : Carrier) : Nat :=
  (if !s.locked c || s.on (F.LINK_DEFECTS.FORCE_BDI c) then 0x80 else 0) + (if s.on (F.FEC_STATUS.SD c) then 0x40 else 0)
    + (if s.on (F.FEC_STATUS.UNC_MF c) then 0x20 else 0)

/-- The frame version sent: the agreed one, FRAME_MAJOR_MIN.0 before (R130). -/
def State.sentVersion (s : State) (c : Carrier) : Nat :=
  ((s.line.at c).version).getD (16 * s.get F.PLAN_FORMAT.FRAME_MAJOR_MIN)

/-- What a frame announces (R116): 0 nothing, 1 the armed re-plan, 2 the armed step; both armed alternate. -/
def State.announces (s : State) (c : Carrier) (number : Nat) : Nat :=
  let re := s.hState = 3
  let st := s.stepArmed c
  if re && st then (if number % 2 = 0 then 1 else 2) else if re then 1 else if st then 2 else 0

/-- Whether a byte of the overhead is used by a version: version 1 reserves 23, 36 to 47 and 64 to 79 (R100). -/
def versionByte (major i : Nat) : Bool :=
  !(major < 2 && (i = 23 || (36 ≤ i && i ≤ 47) || (64 ≤ i && i ≤ 79)))

/-- The bytes every version keeps (R130): the FAW, 16 to 22, NODE_ID and the management channel cell. -/
def alwaysByte (i : Nat) : Bool := i ≤ 22 || (28 ≤ i && i ≤ 31) || (200 ≤ i && i ≤ 231)

/-- A byte of the first segment that covers it, 0 outside all. -/
def segByte (segs : List (Nat × List Byte)) (i : Nat) : Byte :=
  match segs.find? (fun g => g.1 ≤ i && i < g.1 + g.2.length) with
  | some g => nth g.2 (i - g.1) 0
  | none => 0

/-- The fields of a frame's overhead at their bytes (Table 5.1). -/
def State.overheadSegs (s : State) (c : Carrier) (number : Nat) (cell : List Byte) : List (Nat × List Byte) :=
  let l := s.line.at c
  let n := s.subCount c
  let fr := s.runFrame
  let ann := s.announces c number
  let byteOf (f : Nat → Nat) : List Byte := (List.range 16).flatMap (fun k => beBytes 1 (if k < n then f k else 0))
  let snr := (List.range 16).flatMap fun k =>
    if k < n then beBytes 2 (s.get (F.FURROW_RX_SC_SNR.SNR_X c k)) ++ beBytes 2 (s.get (F.FURROW_RX_SC_SNR.SNR_Y c k))
    else List.replicate 4 0
  let tt := fr.time && s.on F.TIME_STATUS.VALID
  let role := if s.ttCarrier c then s.get F.TIME_STATUS.ROLE else 0
  [(0, faw), (16, beBytes 4 number), (20, beBytes 1 (s.sentVersion c)),
   (21, beBytes 1 (16 * (n - 1) + 4 * s.codeOf c + fr.forward)), (22, beBytes 1 (s.defects c)),
   (23, beBytes 1 (4 * s.get (F.LINK_NUMBERING.ROLE c) + l.slip)),
   (24, beBytes 4 (if (s.runFec c).isSome then fecPtr l.labels else 0)), (28, beBytes 4 s.nodeId),
   (32, beBytes 4 (s.get F.PLAN_RUN_EPOCH.EPOCH)), (36, beBytes 1 (if ann = 0 then 0 else 64 * ann + 32)),
   (38, beBytes 3 (if ann = 1 then s.get F.PLAN_SWITCH.SWITCH_MF else if ann = 2 then s.get (F.FURROW_TX_STEP.STEP_MF c) else 0)),
   (42, beBytes 4 (if ann = 1 then s.get F.PLAN_BUF_EPOCH.EPOCH else 0)),
   (48, byteOf (fun k => s.get (F.FURROW_TX_SC_ENTROPY.CURRENT c k))),
   (64, if ann = 2 then byteOf (fun k => s.get (F.FURROW_TX_SC_ENTROPY.TARGET c k)) else List.replicate 16 0),
   (80, beBytes 4 (basesOf (s.runSubs c))), (88, beBytes 2 (s.get (F.FURROW_RX_EST_CTRL.SEQ c))),
   (90, beBytes 2 (if fr.snr && l.snrValid then 2 ^ n - 1 else 0)), (92, snr),
   (160, beBytes 1 ((if tt then 0x80 else 0) + (if tt && l.ttRef.isSome then 0x40 else 0) + 16 * role)),
   (164, beBytes 4 (l.ttRef.getD 0)), (168, timeBytes (Clock.ofTicks (s.txStamp c))),
   (180, timeBytes l.ttTime), (200, cell)]

/-- The 512 overhead bytes of a frame: fields, version 1 without the fields it lacks, and parity (R99, R100). -/
def State.overheadBytes (s : State) (c : Carrier) (number : Nat) (cell : List Byte) : List Byte :=
  let segs := s.overheadSegs c number cell
  let major := s.sentVersion c / 16
  let info := (List.range 448).map fun i => if versionByte major i then segByte segs i else 0
  info ++ (List.range 4).flatMap (fun w => rsParity (slice info (16 + 108 * w) 108))

/-! ### Sending -/

/-- The next cell to send with its SEQ, and the framer after it; an idle cell when none waits (R113). -/
def LineSt.nextCell (l : LineSt) : List Byte × LineSt :=
  match l.cells with
  | [] => ([0, BitVec.ofNat 8 l.txSeq] ++ List.replicate 30 0, l)
  | x :: rest =>
    let q := (l.txSeq + 1) % 256
    (x.set 1 (BitVec.ofNat 8 q), { l with cells := rest, txSeq := q }.fillQueue)

/-- A line frame is built and sent (R95 to R101): its number, its overhead, one management cell. -/
def State.sendFrame (s : State) (c : Carrier) : State :=
  if s.on (F.LINE_TX_CTRL.ENABLED c) then
    let l := s.line.at c
    let now := s.get (F.LINK_TX_FRAME.VALUE c)
    let number := if l.fresh then now else (now + 1) % 2 ^ 32
    let s := (s.set (F.LINK_TX_FRAME.VALUE c) number).set (F.LINK_DEFECTS.SENT c) (s.defects c)
    let oh := s.overheadBytes c number l.nextCell.1
    let s := s.send (.overhead c oh)
    let s := s.recordDeparture c number
    let bits := labelBitsOf (s.runSubs c) l.frames
    let es := (List.range (s.subCount c)).map fun k => s.get (F.FURROW_TX_SC_ENTROPY.CURRENT c k)
    s.onLine c fun _ =>
      { l.nextCell.2 with
        fresh := false, frames := l.frames + 1, labels := (l.labels + bits) % blockBits,
        mfFrames := if l.fresh then l.frames else l.mfFrames, mfLabels := if l.fresh then l.labels else l.mfLabels,
        mfE := if l.fresh then es else l.mfE, mfCap := if l.fresh then s.get (F.FURROW_TX_SLOTS.CURRENT c) else l.mfCap,
        mfBytes := if l.fresh then [oh] else l.mfBytes ++ [oh] }
  else s

end Sys2Proof.Machine
end

