-- ==== Sys2Proof/Machine/Shaping.lean ====
section
/-!
DEFINITION. Probabilistic amplitude shaping (R77, R78): compositions, the constant-composition matcher and its inverse, shortened blocks,
and symbol energies (R79). All in exact integer arithmetic.
-/
namespace Sys2Proof.Machine

/-- The amplitudes of a base: {1, 3} for 16-QAM, {1, 3, 5, 7} for 64-QAM; a QPSK subcarrier has no matcher (R77). -/
def amplitudesOf (base : Nat) : List Nat :=
  match base with
  | 0 => []
  | 1 => [1, 3]
  | _ => [1, 3, 5, 7]

/-- Amplitudes of a full block: I and Q of 1,280 symbols. -/
def matcherAmps : Nat := 2560

/-- Input bits of a full block at an ENTROPY value. -/
def matcherBits (entropy : Nat) : Nat := 40 * (entropy - 64)

/-- Whether the matcher is bypassed: the top of the base's range (R77). -/
def matcherBypassed (base entropy : Nat) : Bool := base ≠ 0 && entropyTop base ≤ entropy

/-- Whether a subcarrier's matcher is in use. -/
def matcherUsed (base entropy : Nat) : Bool := base ≠ 0 && !matcherBypassed base entropy

/-- n amplitudes in the proportions of some weights: the floor of each share, and the rest one each to the largest fractional parts, a tie
to the smaller amplitude (R77). -/
def apportion (n : Nat) (ws : List Nat) : List Nat :=
  let total := ws.foldl (· + ·) 0
  let floors := ws.map fun w => n * w / total
  let fracs := ws.map fun w => n * w % total
  let rest := n - floors.foldl (· + ·) 0
  floors.zipIdx.map fun (f, i) =>
    let mine := nth fracs i 0
    let ahead := (fracs.zipIdx.filter fun (r, j) => mine < r || (r = mine && j < i)).length
    if ahead < rest then f + 1 else f

/-- P_ν of each amplitude up to a common factor, at ν = v × 2^−16, with 128 fraction bits: 1, t, t³ and t⁶ for t = e^(−8ν). -/
def shapeWeights (base v : Nat) : List Nat :=
  let t := 2 ^ 256 / expFix (v * 2 ^ 128 / 8192)
  let t3 := t * t * t / 2 ^ 256
  ([2 ^ 128, t, t3, t3 * t3 / 2 ^ 128] : List Nat).take (amplitudesOf base).length

/-- n!. -/
def factorial (n : Nat) : Nat := (List.range n).foldl (fun a i => a * (i + 1)) 1

/-- Sequences of a composition: n! / Π n_a!. -/
def sequences (ns : List Nat) : Nat := factorial (ns.foldl (· + ·) 0) / (ns.map factorial).foldl (· * ·) 1

/-- The composition of a full block at ν = v × 2^−16. -/
def compositionAt (base v : Nat) : List Nat := apportion matcherAmps (shapeWeights base v)

/-- Whether the composition at ν has at least 2^bits sequences: log2 (n! / Π n_a!) ≥ bits, exactly. -/
def compositionHolds (base v bits : Nat) : Bool :=
  2 ^ bits * ((compositionAt base v).map factorial).foldl (· * ·) 1 ≤ factorial matcherAmps

/-- The first number at or below a bound for which a test holds, going down. -/
def firstDown (ok : Nat → Bool) : Nat → Nat
  | 0 => 0
  | n + 1 => if ok (n + 1) then n + 1 else firstDown ok n

/-- The composition of a full block at an ENTROPY value: that of the largest ν in [0, 2] with at least 2^k sequences (R77). The search goes
down from the largest ν with 2^(k − 10): between ν and any larger ν the number of sequences rises by less than 2^10 (log 70). -/
def composition (base entropy : Nat) : List Nat :=
  let k := matcherBits entropy
  let near := min 131072 (highest (fun v => v ≤ 131072 && compositionHolds base v (k - 10)) 18)
  compositionAt base (firstDown (fun v => compositionHolds base v k) near)

/-- The composition of a block of n′ amplitudes: n′ × n_a / n by the rounding rule of R77 (R78). -/
def shortened (ns : List Nat) (n : Nat) : List Nat := apportion n ns

/-- The input bits of a block of n′ amplitudes: min(floor(k n′ / n), floor(log2(n′! / Π n′_a!))) (R78). -/
def shortenedBits (ns : List Nat) (k n : Nat) : Nat :=
  if n = matcherAmps then k else min (k * n / matcherAmps) (sequences (shortened ns n)).log2

/-- The I-th sequence of a composition in lexicographic order, as indices into the alphabet: `n` amplitudes (R77). -/
def unrank : Nat → List Nat → Nat → List Nat
  | 0, _, _ => []
  | n + 1, ns, i =>
    let pick := (List.range ns.length).foldl (fun (found : Option Nat × Nat) a =>
      match found.1 with
      | some _ => found
      | none =>
        let here := if nth ns a 0 = 0 then 0 else sequences (ns.modify a (· - 1))
        if found.2 < here then (some a, found.2) else (none, found.2 - here)) (none, i)
    let a := pick.1.getD 0
    a :: unrank n (ns.modify a (· - 1)) pick.2

/-- The place of a sequence among those of its composition: what a dematcher computes. -/
def rankOf : List Nat → List Nat → Nat
  | [], _ => 0
  | a :: as, ns =>
    let before := ((List.range a).map fun b => if nth ns b 0 = 0 then 0 else sequences (ns.modify b (· - 1))).foldl (· + ·) 0
    before + rankOf as (ns.modify a (· - 1))

/-- A number from bits, the first most significant. -/
def ofBits (bs : List Bool) : Nat := bs.foldl (fun a b => 2 * a + (if b then 1 else 0)) 0

/-- The amplitudes of a matcher block of `n` amplitudes from its input bits (R77, R78). -/
def matchBlock (base entropy n : Nat) (input : List Bool) : List Nat :=
  let ns := composition base entropy
  (unrank n (if n = matcherAmps then ns else shortened ns n) (ofBits input)).map fun i => nth (amplitudesOf base) i 1

/-- Twice Σ n_a a² and n: the mean energy E_s of a subcarrier's symbols as a fraction; uniform when the matcher is bypassed, 2 for QPSK
(R79). -/
def symbolEnergy (base entropy : Nat) : Nat × Nat :=
  if base = 0 then (2, 1)
  else
    let as := amplitudesOf base
    let ns := if matcherBypassed base entropy then as.map fun _ => 1 else composition base entropy
    (2 * ((ns.zip as).map fun (n, a) => n * a * a).foldl (· + ·) 0, ns.foldl (· + ·) 0)

/-- The prior of each amplitude of a subcarrier (R68): n_a of n, or uniform. -/
def amplitudePrior (base entropy : Nat) : List (Nat × Nat) :=
  let as := amplitudesOf base
  let ns := if matcherUsed base entropy then composition base entropy else as.map fun _ => 1
  as.zip ns

end Sys2Proof.Machine
end

