-- ==== Sys2Proof/Machine/LineCode.lean ====
section
/-!
DEFINITION. What a line frame carries beside its overhead fields: pilots (R96), overhead symbols (R97), Reed-Solomon decoding (R99), the
line code (R103 to R105), label bits and the placement of blocks (R106, R107), the net stream (R108) and its words (R109).
-/
namespace Sys2Proof.Machine

/-! ### Reed-Solomon decoding (R99) -/

/-- The inverse in GF(2^8): a^254. -/
def gfInv (a : Nat) : Nat := (List.range 253).foldl (fun x _ => gfMul x a) a

/-- A polynomial, lowest degree first, at a point. -/
def gfEval (p : List Nat) (x : Nat) : Nat := p.foldr (fun c acc => c ^^^ gfMul acc x) 0

/-- A sum of products of two lists. -/
def gfDot (a b : List Nat) : Nat := (a.zipWith gfMul b).foldl (· ^^^ ·) 0

/-- The sum of two polynomials. -/
def gfAdd (a b : List Nat) : List Nat :=
  (List.range (max a.length b.length)).map fun i => nth a i 0 ^^^ nth b i 0

/-- The 16 syndromes of a received codeword of 124 bytes, highest degree first: its values at α^0 to α^15. -/
def rsSyndromes (word : List Nat) : List Nat :=
  (List.range 16).map fun i => let x := gfPow i; word.foldl (fun acc b => gfMul acc x ^^^ b) 0

/-- The search for the error locator: the locator and the one before its last change of length, with the number of errors, the gap and the
discrepancy then. -/
structure RsSearch where
  loc : List Nat := [1]
  old : List Nat := [1]
  errors : Nat := 0
  gap : Nat := 1
  disc : Nat := 1

/-- One step of the search (Berlekamp and Massey) on the syndromes up to `n`. -/
def RsSearch.next (r : RsSearch) (syn : List Nat) (n : Nat) : RsSearch :=
  let d := gfDot r.loc ((List.range r.loc.length).map fun i => if i ≤ n then nth syn (n - i) 0 else 0)
  if d = 0 then { r with gap := r.gap + 1 }
  else
    let k := gfMul d (gfInv r.disc)
    let loc := gfAdd r.loc (List.replicate r.gap 0 ++ r.old.map (gfMul k))
    if 2 * r.errors ≤ n then { loc := loc, old := r.loc, errors := n + 1 - r.errors, gap := 1, disc := d }
    else { r with loc := loc, gap := r.gap + 1 }

/-- A codeword decoded: with its byte errors corrected and their number; none where it has more than 8 (R99). -/
def rsDecode (word : List Byte) : Option (List Byte × Nat) :=
  let w := word.map (·.toNat)
  let syn := rsSyndromes w
  if syn.all (· = 0) then some (word, 0)
  else
    let r := (List.range 16).foldl (fun r n => r.next syn n) ({} : RsSearch)
    let omega := (List.range 16).map fun i => gfDot (r.loc.take (i + 1)) ((List.range (i + 1)).map fun j => nth syn (i - j) 0)
    let slope := (List.range r.loc.length).map fun i => if i % 2 = 0 then nth r.loc (i + 1) 0 else 0
    let fixed := w.zipIdx.map fun (b, j) =>
      let x := gfPow (123 - j)
      let xi := gfInv x
      if gfEval r.loc xi = 0 then b ^^^ gfMul x (gfMul (gfEval omega xi) (gfInv (gfEval slope xi))) else b
    let wrong := ((w.zip fixed).filter fun (a, b) => a ≠ b).length
    if r.errors ≤ 8 && wrong = r.errors && (rsSyndromes fixed).all (· = 0) then some (fixed.map (BitVec.ofNat 8 ·), wrong) else none

/-- The four codewords of 512 received overhead bytes: information and parity (R99). -/
def rsWord (bytes : List Byte) (c : Nat) : List Byte := slice bytes (16 + 108 * c) 108 ++ slice bytes (448 + 16 * c) 16

/-- Received overhead decoded: its bytes 0 to 447 and the bytes corrected; none where a codeword does not decode (R99). -/
def overheadDecode (bytes : List Byte) : Option (List Byte × Nat) :=
  match rsDecode (rsWord bytes 0), rsDecode (rsWord bytes 1), rsDecode (rsWord bytes 2), rsDecode (rsWord bytes 3) with
  | some a, some b, some c, some d =>
    some (slice bytes 0 16 ++ a.1.take 108 ++ b.1.take 108 ++ c.1.take 108 ++ d.1.take 108, a.2 + b.2 + c.2 + d.2)
  | _, _, _, _ => none

/-- Bit errors between 16 received bytes and the FAW (R98, R110). -/
def fawErrors (signs : List Byte) : Nat :=
  ((List.range 16).map fun i => ((List.range 8).filter fun b => (nth signs i 0).getLsbD b != (nth faw i 0).getLsbD b).length).foldl (· + ·) 0

/-! ### Pilots and overhead symbols (R96, R97) -/

/-- A symbol before its normalisation: a point and the mean energy it is divided by the root of, as a fraction (R79). -/
structure Symbol where
  i : Int
  q : Int
  energy : Nat × Nat
  deriving DecidableEq, Repr

/-- A QPSK point from two bits: 0 gives +1, 1 gives −1. -/
def qpsk (bi bq : Bool) : Symbol := ⟨if bi then -1 else 1, if bq then -1 else 1, (2, 1)⟩

/-- Whether position G is a pilot (R96). -/
def isPilot (count g : Nat) : Bool := g / count % 64 = 0

/-- One step of the pilot generator, x^7 + x^6 + 1: bit 6 goes out, bits 6 and 5 feed back. -/
def pilotNext (reg : Nat) : Nat := reg * 2 % 128 + (reg / 64 + reg / 32) % 2

/-- Output bit n of the pilot generator of subcarrier s and polarisation p, seeded with 1 + 3 (2 s + p) (R96). -/
def pilotBit (s p n : Nat) : Bool := (List.range n).foldl (fun r _ => pilotNext r) (1 + 3 * (2 * s + p)) / 64 % 2 = 1

/-- The symbol of pilot n of a subcarrier and polarisation: its next two output bits, I then Q; the sequence repeats every 127 pilots. -/
def pilotSymbol (s p n : Nat) : Symbol := qpsk (pilotBit s p (2 * (n % 127))) (pilotBit s p (2 * (n % 127) + 1))

/-- Overhead bit n: byte n / 8, most significant bit first (R97). -/
def overheadBit (bytes : List Byte) (n : Nat) : Bool := (nth bytes (n / 8) 0).getLsbD (7 - n % 8)

/-- Overhead symbol j of a polarisation (0 X, 1 Y): bits 4 j + 2 p and 4 j + 2 p + 1 (R97). -/
def overheadSymbol (bytes : List Byte) (j p : Nat) : Symbol :=
  qpsk (overheadBit bytes (4 * j + 2 * p)) (overheadBit bytes (4 * j + 2 * p + 1))

/-! ### The line code (R103 to R105) -/

/-- Column and row groups have 96 bits (R103). -/
def groupBits : Nat := 96

/-- Parity column groups of a code, and row groups of a block: Pg = 1,000 − Kg (Table 5.2). -/
def parityGroups (code : Nat) : Nat := codeLoss code

/-- Information column groups Kg, information bits K, parity bits P (Table 5.2). -/
def infoGroups (code : Nat) : Nat := 1000 - parityGroups code
def infoBitsOf (code : Nat) : Nat := groupBits * infoGroups code
def parityBitsOf (code : Nat) : Nat := groupBits * parityGroups code

/-- The row group of block t to which information column group c of block t − j connects, and its shift (R104). -/
def rowGroup (code j c : Nat) : Nat := (c + 45 * j) % parityGroups code
def rowShift (j c : Nat) : Nat := (37 * c * (j + 1) + 13 * j) % groupBits

/-- The exclusive-or of a list of bits. -/
def xorAll (bs : List Bool) : Bool := bs.foldl xor false

/-- A chain of blocks: bit n of block t, with blocks before block 0 all zero (R105). -/
abbrev Chain := Nat → Nat → Bool

/-- The information bits connected to check (r, z) of block t: bit z′ of group c enters check bit (z′ + σ) mod 96 (R104). -/
def checkInfo (code : Nat) (info : Chain) (t r z : Nat) : Bool :=
  xorAll ((List.range 3).map fun j =>
    if t < j then false
    else xorAll (((List.range (infoGroups code)).filter fun c => rowGroup code j c = r).map fun c =>
      info (t - j) (groupBits * c + (z + groupBits - rowShift j c) % groupBits)))

/-- Parity bit z of group g of block t: p[0] = y[0], p[g] = y[g] xor p[g − 1] (R105). -/
def parityBit (code : Nat) (info : Chain) (t : Nat) : Nat → Nat → Bool
  | 0, z => checkInfo code info t 0 z
  | g + 1, z => xor (checkInfo code info t (g + 1) z) (parityBit code info t g z)

/-- A block as encoded: information bits, then parity bits (R103, R105). -/
def encodeBlock (code : Nat) (info : Chain) (t n : Nat) : Bool :=
  if n < infoBitsOf code then info t n
  else parityBit code info t ((n - infoBitsOf code) / groupBits) ((n - infoBitsOf code) % groupBits)

/-- Check (r, z) of block t over a chain: information bits of blocks t, t − 1 and t − 2, and parity groups r and r − 1 of its own block with
shift 0 (R104). It equals false in a code chain. -/
def checkBit (code : Nat) (chain : Chain) (t r z : Nat) : Bool :=
  let parity (g : Nat) : Bool := chain t (infoBitsOf code + groupBits * g + z)
  xor (checkInfo code chain t r z) (xor (parity r) (if r = 0 then false else parity (r - 1)))

/-! ### Label bits and blocks (R106, R107) -/

/-- A slot of the label stream: position, polarisation (true Y), axis (true Q), and the amplitude's bit, none for the sign. -/
structure Slot where
  g : Nat
  y : Bool
  q : Bool
  amp : Option Nat
  deriving DecidableEq, Repr

/-- Amplitude bits of an axis: (m − 2) / 2. -/
def ampBits (base : Nat) : Nat := (baseBits base - 2) / 2

/-- The slots of a payload position in order: X then Y; on each sign I, sign Q, I amplitude bits, Q amplitude bits (R106). -/
def slotsAt (base g : Nat) : List Slot :=
  [false, true].flatMap fun y =>
    [⟨g, y, false, none⟩, ⟨g, y, true, none⟩] ++ (List.range (ampBits base)).map (fun b => ⟨g, y, false, some b⟩)
      ++ (List.range (ampBits base)).map (fun b => ⟨g, y, true, some b⟩)

/-- An amplitude's label, most significant bit first (R106). -/
def ampLabel (base a : Nat) : List Bool :=
  match base, a with
  | 1, 1 => [false]
  | 1, _ => [true]
  | 2, 1 => [false, false]
  | 2, 3 => [false, true]
  | 2, 5 => [true, true]
  | 2, _ => [true, false]
  | _, _ => []

/-- The amplitude of a label; 1 on a QPSK base. -/
def ampOfLabel (base : Nat) (bits : List Bool) : Nat := ((amplitudesOf base).find? fun a => ampLabel base a = bits).getD 1

/-- The symbol of a polarisation from its label bits in order, with its subcarrier's mean energy (R79, R106). -/
def payloadSymbol (base : Nat) (energy : Nat × Nat) (bits : List Bool) : Symbol :=
  let sign (b : Bool) (a : Nat) : Int := if b then -(a : Int) else a
  let k := ampBits base
  ⟨sign (nth bits 0 false) (ampOfLabel base ((bits.drop 2).take k)), sign (nth bits 1 false) (ampOfLabel base ((bits.drop (2 + k)).take k)), energy⟩

/-- Whether position G carries payload: neither a pilot nor overhead (R97). -/
def isPayload (count g : Nat) : Bool := !isPilot count g && !(overheadPositions count (g / framePositions)).contains g

/-- The label stream of a carrier over its first positions, by the bases of its subcarriers (R107). -/
def labelStream (bases : List Nat) (positions : Nat) : List Slot :=
  (List.range positions).flatMap fun g => if isPayload bases.length g then slotsAt (nth bases (g % bases.length) 0) g else []

/-- The block bits that the slots of one block carry, in label order: the last P sign slots take the parity bits, all others the
information bits (R107). -/
def blockPlacement (code : Nat) (slots : List Slot) : List Nat :=
  let free := (slots.filter fun x => x.amp = none).length - parityBitsOf code
  (slots.foldl (fun (acc : List Nat × Nat × Nat × Nat) x =>
    let (out, signs, info, parity) := acc
    if x.amp = none && free ≤ signs then ((infoBitsOf code + parity) :: out, signs + 1, info, parity + 1)
    else (info :: out, if x.amp = none then signs + 1 else signs, info + 1, parity)) ([], 0, 0, 0)).1.reverse

/-! ### The net stream (R108) -/

/-- The scrambler x^31 + x^28 + 1, all ones at the first net bit of a multiframe: bit 30 goes out, bits 30 and 27 feed back. -/
def scramblerNext (reg : Nat) : Nat := reg * 2 % 2 ^ 31 + (reg / 2 ^ 30 + reg / 2 ^ 27) % 2
def scramblerBit (n : Nat) : Bool := (List.range n).foldl (fun r _ => scramblerNext r) (2 ^ 31 - 1) / 2 ^ 30 % 2 = 1

/-- Net bit n of a multiframe as it is consumed: exclusive-or of the data and the scrambler (R108). -/
def scrambled (data : Nat → Bool) (n : Nat) : Bool := xor (data n) (scramblerBit n)

/-- What the information slots of a multiframe have drawn so far: net bits consumed, bits given out (latest first), and by 2 s + p the
label bits of the matcher block in progress and the amplitudes still to come in the multiframe. -/
structure Feed where
  next : Nat
  out : List Bool
  waiting : List (List Bool)
  left : List Nat

/-- The information bit of a slot (R108): a sign slot and an amplitude slot of a bypassed matcher take the next net bit; an amplitude slot of
a matcher in use takes its output, and a matcher block draws its input bits at its first amplitude slot. Subcarriers as (base, ENTROPY). -/
def Feed.take (f : Feed) (subs : List (Nat × Nat)) (net : Nat → Bool) (x : Slot) : Feed :=
  let s := x.g % subs.length
  let (base, e) := nth subs s (0, 64)
  let k := 2 * s + (if x.y then 1 else 0)
  if x.amp = none || !matcherUsed base e then { f with next := f.next + 1, out := net f.next :: f.out }
  else
    let f :=
      if (nth f.waiting k []).isEmpty then
        let n := min matcherAmps (nth f.left k 0)
        let bits := shortenedBits (composition base e) (matcherBits e) n
        let input := (List.range bits).map fun i => net (f.next + i)
        { f with
          next := f.next + bits, waiting := f.waiting.set k ((matchBlock base e n input).flatMap (ampLabel base)),
          left := f.left.modify k (· - n) }
      else f
    { f with out := (nth f.waiting k []).headD false :: f.out, waiting := f.waiting.modify k (·.drop 1) }

/-! ### Net bits of a multiframe (R109) -/

/-- Payload symbols of a subcarrier over `n` frames from frame `f`: the layout repeats every `count` frames at the latest (R95). -/
def payloadOver (count s f n : Nat) : Nat :=
  let c := if 262144 % (64 * count) = 0 then 1 else count
  ((List.range c).map fun r => payloadOf count (f + r) s * ((n + c - 1 - r) / c)).foldl (· + ·) 0

/-- Sign slots among the first `x` label bits of a row of positions of given bits per symbol and polarisation. -/
def signsOf : List Nat → Nat → Nat
  | [], _ => 0
  | m :: ms, x => if 2 * m ≤ x then 4 + signsOf ms (x - 2 * m) else min 2 x + min 2 (x - m)

/-- Sign slots among the first `x` label bits of frame `f`: the rest of the row in which the overhead ends, whole rows of one position a
subcarrier, and the beginning of one (R95, R97, R106). -/
def signsIn (bases : List Nat) (f x : Nat) : Nat :=
  let count := bases.length
  let ms := bases.map baseBits
  let first := ((overheadPositions count f).getLastD 0 + 1) % count
  let head := if first = 0 then [] else ms.drop first
  let headBits := 2 * head.foldl (· + ·) 0
  let row := 2 * ms.foldl (· + ·) 0
  if x ≤ headBits then signsOf head x
  else 4 * head.length + (x - headBits) / row * (4 * count) + signsOf ms ((x - headBits) % row)

/-- Sign slots that carry parity over `n` frames from frame `f`, with `labels` label bits of a block before them (R107). -/
def paritySlots (code : Nat) (bases : List Nat) (f n labels total : Nat) : Nat :=
  let p := parityBitsOf code
  let lead := fecPtr labels
  let head := if labels % blockBits = 0 then 0 else min p (signsIn bases f lead)
  let rest := total - lead
  let tail := rest % blockBits
  let last := if tail = 0 then 0 else p - min p (signsIn bases (f + n) (blockBits - tail))
  head + rest / blockBits * p + last

/-- The net bits that `n` frames from frame `f` consume, N_F for a multiframe (R109): sign slots without parity, the input bits of matcher
blocks, and the amplitude slots of bypassed matchers. -/
def netBits (code : Nat) (subs : List (Nat × Nat)) (f n labels : Nat) : Nat :=
  let count := subs.length
  let symbols := subs.zipIdx.map fun (x, s) => (x, payloadOver count s f n)
  let total := (symbols.map fun (x, k) => k * 2 * baseBits x.1).foldl (· + ·) 0
  let signs := (symbols.map fun (_, k) => 4 * k).foldl (· + ·) 0
  let amps := (symbols.map fun (x, k) =>
    if x.1 = 0 then 0
    else if matcherBypassed x.1 x.2 then 2 * k * (baseBits x.1 - 2)
    else
      let rest := 2 * (k % 1280)
      let short := if rest = 0 then 0 else shortenedBits (composition x.1 x.2) (matcherBits x.2) rest
      2 * (k / 1280 * matcherBits x.2 + short)).foldl (· + ·) 0
  signs - paritySlots code (subs.map (·.1)) f n labels total + amps

/-- The slot of word w, and the words of a slot in a multiframe of W words (R109). -/
def wordSlot (cap w : Nat) : Nat := w % cap
def slotWords (cap words slot : Nat) : Nat := (words + cap - 1 - slot) / cap

/-- The net bits of a multiframe before scrambling (R109): word by word, most significant bit first, then fill. `words` gives the 128-bit
word of a slot in its order; none for a slot without a run, sent as zero. -/
def netData (cap total : Nat) (words : (slot : Nat) → (k : Nat) → Option (BitVec 128)) (n : Nat) : Bool :=
  let w := n / 128
  if total ≤ w then false
  else match words (wordSlot cap w) (w / cap) with
    | some v => v.getMsbD (n % 128)
    | none => false

end Sys2Proof.Machine
end

