-- ==== Sys2Proof/Machine/SlotWords.lean ====
section
/-!
DEFINITION. The words of the transmit multiframes: a client port's record stream in the 128-bit words of its slots (R109, R171), received words
forwarded (R42), and the information bits that they give the code (R78, R108).
-/
namespace Sys2Proof.Machine

/-- A FILL record (Table 8.5). -/
def fillRecord : List Byte := recordHeader 3 false 0

/-- A word from its 16 bytes: byte j is bits 8 j to 8 j + 7, most significant bit first (R171). -/
def wordOfBytes (bs : List Byte) : BitVec 128 := BitVec.ofNat 128 (beNat bs)

/-- The bytes of a word. -/
def bytesOfWord (w : BitVec 128) : List Byte := beBytes 16 w.toNat

/-- A word that is due, and the stream bytes that still wait: the first 16 of those of the complete records waiting, completed with FILL
records. Every record is a multiple of 4 bytes long, so FILL records complete a word exactly (R168, R171). -/
def dueWord (waiting : List Byte) : BitVec 128 × List Byte :=
  (wordOfBytes (waiting.take 16 ++ (List.replicate ((16 - waiting.length) / 4) fillRecord).flatten), waiting.drop 16)

/-- The next `n` words that are due, and the stream bytes that still wait. -/
def drawWords : Nat → List Byte → List (BitVec 128) × List Byte
  | 0, waiting => ([], waiting)
  | n + 1, waiting =>
    let (w, left) := dueWord waiting
    let (ws, rest) := drawWords n left
    (w :: ws, rest)

/-- The stream bytes of received words. -/
def streamOf (ws : List (BitVec 128)) : List Byte := ws.flatMap bytesOfWord

/-- Which word of its port's stream in a multiframe the word of slot `slot` in round `k` is: a port's words come in ascending order of word
number, so by rounds and within a round by slots (R109, R171). -/
def wordIndex (slots : List Nat) (slot k : Nat) : Nat := k * slots.length + (slots.filter (· < slot)).length

/-- Words of a port that come due on a carrier take its waiting stream bytes (R171). -/
def State.drawPort (s : State) (p : Nat) (c : Carrier) (n : Nat) : State :=
  s.onPort p fun q =>
    let (ws, rest) := drawWords n (q.stream.at c)
    { q with stream := q.stream.upd c (fun _ => rest), drawn := q.drawn.upd c (· ++ ws) }

/-- What has come due at a port since its last command: words of its slots, and bytes of its egress buffer (R171, R175). -/
def State.wordsDue (s : State) (p : Nat) (due : DueWords) : State :=
  let draw (s : State) (c : Carrier) (n : Nat) : State := if s.portOn p c then s.drawPort p c n else s
  draw (draw (s.egressDrain p due.out) .A due.a) .B due.b

/-- The words that a port's slots have in a multiframe (R109). -/
def wordsNeeded (cap words : Nat) (slots : List Nat) : Nat := (slots.map (slotWords cap words)).foldl (· + ·) 0

/-- A port's words of the multiframe that ends on a carrier: those drawn in it, and the rest as they come due (R171). The model settles which
bytes a word takes at the commands that bring records and at the multiframe's end (DESIGN CHOICE, log 82). -/
def State.portWords (s : State) (c : Carrier) (p n : Nat) : List (BitVec 128) × State :=
  let s := s.drawPort p c (n - ((s.port p).drawn.at c).length)
  (((s.port p).drawn.at c).take n, s.onPort p fun q => { q with drawn := q.drawn.upd c (·.drop n) })

/-- The words of every port with slots on a carrier. -/
def State.allWords (s : State) (c : Carrier) (cap words : Nat) : List (List Nat × List (BitVec 128)) × State :=
  match s.plan.running with
  | none => ([], s)
  | some plan =>
    ((List.range 16).filter fun p => !(plan.portSlots c p).isEmpty).foldl (fun acc p =>
      let slots := plan.portSlots c p
      let (ws, s) := acc.2.portWords c p (wordsNeeded cap words slots)
      (acc.1 ++ [(slots, ws)], s)) ([], s)

/-- W of the transmit multiframe that ends: floor(N_F / 128) over the frames sent in it (R109); 0 without an FEC record. -/
def State.mfWords (s : State) (c : Carrier) : Nat :=
  let l := s.line.at c
  match s.runFec c with
  | none => 0
  | some f => netBits f.code ((s.runSubs c).map (·.base) |>.zip l.mfE) l.mfFrames (l.frames - l.mfFrames) l.mfLabels / 128

/-- A transmit multiframe of which a frame was sent is over: its words are those of its ports' streams, or with FORWARD 2 those of the other
carrier's next received multiframe (R42, R109). -/
def State.endMf (s : State) (c : Carrier) : State :=
  let l := s.line.at c
  if l.fresh then s
  else
    let total := s.mfWords c
    let (streams, s) := s.allWords c l.mfCap total
    let forward := s.runFrame.forward = 2
    let received := if forward then some ((s.line.at c.other).rxWords.headD []) else none
    let mf : TxMf := ⟨s.get (F.LINK_TX_FRAME.VALUE c) / 256, l.mfFrames, l.mfLabels, l.frames - l.mfFrames, (s.runFec c).map (·.code),
      (s.runSubs c).map (·.base) |>.zip l.mfE, l.mfCap, total, l.mfBytes, streams, received⟩
    let s := { s with line := s.line.upd c fun l => { l with mfs := l.mfs ++ [mf] } }
    { s with line := s.line.upd c.other fun l => { l with rxWords := if forward then l.rxWords.drop 1 else l.rxWords } }

/-! ### The bits of the multiframes sent -/

/-- The word of a slot in its round in a multiframe: with FORWARD 2 word w is the received word w; a slot without a run has none, and its words
are sent as zero, as all are in LINE_TEST with FORWARD 0 (R42, R109, R171). -/
def TxMf.word (m : TxMf) (slot k : Nat) : Option (BitVec 128) :=
  match m.received with
  | some ws => let w := k * m.cap + slot; some (nth ws w (Config.missingWord m.number w))
  | none => (m.streams.find? fun x => x.1.contains slot).map fun x => nth x.2 (wordIndex x.1 slot k) 0

/-- Net bit n of a multiframe as it is consumed (R108, R109). -/
def TxMf.net (m : TxMf) (n : Nat) : Bool := scrambled (netData m.cap m.total m.word) n

/-- What a multiframe begins with: nothing consumed and nothing waiting, and all its payload amplitudes still to come, by 2 s + p; a matcher
block therefore never crosses into the next multiframe, and the last of one is short (R78). -/
def TxMf.feed (m : TxMf) : Feed :=
  let n := m.subs.length
  ⟨0, [], List.replicate (2 * n) [], (List.range n).flatMap fun s => let k := 2 * payloadOver n s m.first m.frames; [k, k]⟩

/-- The label stream since the cold apply, over the frames before frame `f` (R107). -/
def TxMf.slotsBefore (m : TxMf) (f : Nat) : List Slot := labelStream (m.subs.map (·.1)) (f * framePositions)

/-- The block bit that label slot `i` of the stream carries; `slots` reaches past the end of the slot's block (R107). -/
def blockBit (code : Nat) (slots : List Slot) (i : Nat) : Nat :=
  nth (blockPlacement code ((slots.drop (i / blockBits * blockBits)).take blockBits)) (i % blockBits) 0

/-- The information bits of a multiframe in label order: each of its slots that carries no parity draws one (R108). A block is shorter than a
frame, so one more frame completes the last. -/
def TxMf.info (m : TxMf) (code : Nat) : List Bool :=
  let slots := m.slotsBefore (m.first + m.frames + 1)
  let start := (m.slotsBefore m.first).length
  let stop := (m.slotsBefore (m.first + m.frames)).length
  let own := ((List.range stop).drop start).filter fun i => blockBit code slots i < infoBitsOf code
  (own.foldl (fun f i => f.take m.subs m.net (nth slots i ⟨0, false, false, none⟩)) m.feed).out.reverse

/-- The information bits of a carrier's blocks, from the multiframes sent since the cold apply (R103, R107, R108). -/
def LineSt.info (l : LineSt) (code : Nat) : Chain := fun t n => nth (l.mfs.flatMap (·.info code)) (infoBitsOf code * t + n) false

end Sys2Proof.Machine
end

