-- ==== Sys2Proof/Machine/Client.lean ====
section
/-!
DEFINITION. Ethernet clients (chapter 8): what arrives from the host ASIC (R167, R169), the egress of the line's copies (R174),
JOINT order (R177), the protection selector (R178, R179), loopbacks (R180) and counter snapshots (R182).
-/
namespace Sys2Proof.Machine

/-! ### Ingress -/

/-- Whether a frame's FCS is that of its bytes (R165): IEEE 802.3's CRC-32, sent least significant byte first. -/
def fcsGood (bytes : List Byte) : Bool :=
  let n := bytes.length - 4
  4 ≤ bytes.length && leNat (bytes.drop n) = crc32 (bytes.take n) ^^^ 0xFFFFFFFF

/-- Counts a frame and what its decoding met (R165, R181, R182). -/
def State.ingressCount (s : State) (p : Nat) (f : ClientFrame) : State :=
  let s := s.onPort p fun q =>
    { q with live := (((q.live.modify 0 (·.add 1)).modify 1 (·.add (if fcsGood f.bytes then 0 else 1))).modify 2
        (·.add f.corrected)).modify 3 (·.add f.uncorrectable) }
  let s := if 0 < f.uncorrectable then s.clientViolationQuiet p 5 else s
  if f.stray then s.clientViolationQuiet p 6 else s

/-- Bytes waiting in a port's ingress buffer: shared by both carriers in JOINT, the same for both in PROTECTED. -/
def State.waiting (s : State) (p : Nat) : Nat :=
  let q := (s.port p).stream
  if s.mode = 1 then q.A.length + q.B.length else max q.A.length q.B.length

/-- A frame from the host ASIC (R169, R173), a PTP message stamped (R196). -/
def State.frameIn (s : State) (p : Nat) (f : ClientFrame) : State :=
  let top := s.get (F.CLIENT_FRAME.MAX_FRAME p)
  let s := s.ingressCount p f
  if f.bytes.length < 64 then (s.bump (F.CLIENT_ERR.RUNTS p)).clientViolation p 8
  else
    let tooLong := top < f.bytes.length
    let s := if tooLong then (s.bump (F.CLIENT_ERR.OVERSIZE p)).clientViolation p 7 else s
    let (bytes, s) := s.stampIn p f.bytes
    let spoiled : Bool := 0 < (s.port p).spoilIn
    let s := s.onPort p fun q => { q with spoilIn := q.spoilIn - 1 }
    let r := frameRecord (bytes.take top) (f.bad || tooLong || spoiled)
    if 8192 * s.get (F.CLIENT_CFG.SLOTS p) < s.waiting p + r.length then
      (s.bump (F.CLIENT_ERR.IN_DROP p)).clientViolation p 9
    else s.ingressRecord p r

/-- An ordered set from the host ASIC (R169). -/
def State.setReceived (s : State) (p set : Nat) : State :=
  if 3 < set then s.clientViolation p 0x0B
  else
    let was := (s.port p).setIn
    let s := s.onPort p fun q => { q with setIn := set }
    if set ≠ 0 && set ≠ was then s.ingressRecord p (setRecord set) else s

/-- The ordered set that repeats toward the line: the host's while UP, LF while DOWN or ALIGNING (Table 8.2, R169). -/
def State.repeated (s : State) (p : Nat) : Nat :=
  match s.ingress p with
  | 1 => 1
  | 2 => 1
  | 3 => (s.port p).setIn
  | _ => 0

/-! ### Egress -/

/-- One carrier's copy at the egress. -/
def State.copyOf (s : State) (p : Nat) (c : Carrier) : CopySt := (s.port p).copies.at c

/-- Updates one copy. -/
def State.onCopy (s : State) (p : Nat) (c : Carrier) (f : CopySt → CopySt) : State :=
  s.onPort p fun q => { q with copies := q.copies.upd c f }

/-- The carrier of the selected copy in PROTECTED. -/
def State.selected (s : State) (p : Nat) : Carrier := if s.get (F.CLIENT_STATE.SELECTED p) = 2 then .B else .A

/-- The good bit of a copy's last segment. -/
def goodBit (p : Nat) : Carrier → Fld
  | .A => F.CLIENT_PROT_STATUS.A_GOOD p
  | .B => F.CLIENT_PROT_STATUS.B_GOOD p

/-- Forwards what a segment still holds. -/
def State.forwardRest (s : State) (p : Nat) (bad : Bool) (g : Segment) : State :=
  (g.recs.drop g.sent).foldl (fun s rec => s.forward p bad rec) s

/-- ALIGNED falls, with ALIGN_LOST (R177, R179). -/
def State.alignedLost (s : State) (p : Nat) : State :=
  if s.on (F.CLIENT_STATE.ALIGNED p) then (s.set (F.CLIENT_STATE.ALIGNED p) 0).clientEvent p 5 else s

/-- The selector changes copy (Table 8.6). Unaligned, the new copy is forwarded from its next MARK, what either copy holds is lost, and a frame in
progress on the old one is ended with ERR (R179); `inside` says that the old copy is within a record (DEDUCED, log 74). -/
def State.switchTo (s : State) (p : Nat) (c : Carrier) (inside : Bool) : State :=
  let aligned := s.on (F.CLIENT_STATE.ALIGNED p)
  let s := s.set (F.CLIENT_STATE.SELECTED p) (c.idx + 1)
  let s := (s.bump (F.CLIENT_PROT_STATUS.SWITCHES p)).clientEvent p 4
  let s := s.onPort p fun q => { q with wtr := c = .B && s.on (F.CLIENT_CFG.REVERTIVE p) }
  if aligned then s
  else s.onPort p fun q =>
    { q with resume := true, ending := if inside then some c.other else none,
             copies := ⟨{ q.copies.A with segs := [] }, { q.copies.B with segs := [] }⟩ }

/-- Whether a copy is good: its last segment is, and its carrier is in TRAFFIC (R178). -/
def State.copyGood (s : State) (p : Nat) (c : Carrier) : Bool := s.on (goodBit p c) && s.inTraffic c

/-- Whether a copy's carrier has signal degrade. -/
def State.copySd (s : State) (c : Carrier) : Bool := s.on (F.FEC_STATUS.SD c)

/-- The selector's choice after a segment (Table 8.6). -/
def State.select (s : State) (p : Nat) (inside : Bool) : State :=
  let cur := s.selected p
  let oth := cur.other
  let free := s.get (F.CLIENT_CTRL.FORCE_SEL p) = 0
  let bad := !s.copyGood p cur && s.copyGood p oth
  let sd := s.copySd cur && s.on (F.CLIENT_PROT.SD_TRIGGER p) && s.copyGood p oth && !s.copySd oth
  if free && (bad || sd) then s.switchTo p oth inside else s

/-- PROTECTED: the copies are no longer aligned, and the selected one is forwarded as it arrives: first its complete segments, then what has
arrived of the next (R179). -/
def State.unalign (s : State) (p : Nat) : State :=
  if s.on (F.CLIENT_STATE.ALIGNED p) then
    let k := s.copyOf p (s.selected p)
    let s := s.alignedLost p
    let s := k.segs.foldl (fun s g => s.forwardRest p g.bad g) s
    let s := k.cur.toList.foldl (fun s g => s.forwardRest p false g) s
    let s := s.onCopy p (s.selected p) fun k => { k with segs := [], cur := k.cur.map fun g => { g with sent := g.recs.length } }
    s.onCopy p (s.selected p).other fun k => { k with segs := [] }
  else s

/-- A copy leaves SYNC: HUNT, the frame in progress and the segment end (R174). -/
def State.toHunt (s : State) (p : Nat) (c : Carrier) : State :=
  let s := if s.mode = 2 then s.unalign p else s
  let s := s.onCopy p c fun k => { k with sync := false, found := 0, cur := k.cur.map (fun g => { g with bad := true }) }
  let s := ((s.setB (goodBit p c) false).clientEvent p 7).onPort p fun q => { q with ending := if q.ending = some c then none else q.ending }
  if s.mode = 2 && s.selected p = c then s.select p false else s

/-- A MARK ends the segment in progress and begins the next; a number that is not one more than the last makes the new
segment bad (R174). In JOINT the segments of a port are shared out to its carriers, and their numbers are followed where the egress puts them in
order (R177; DEDUCED, log 74). A segment that the selected copy was not forwarded from its MARK on is lost whole (R179). -/
def State.markIn (s : State) (p : Nat) (c : Carrier) (n : Nat) (errored : Bool) : State :=
  let k := s.copyOf p c
  let skips : Bool := match k.cur with
    | some g => s.mode ≠ 1 && (g.mark + 1) % 2 ^ 32 ≠ n
    | none => false
  let lost : Bool := s.mode = 2 && s.selected p = c && (s.port p).resume
  let done := k.cur.toList.map fun g => if lost then { g with sent := g.recs.length } else g
  let s := match k.cur with
    | some g => s.setB (goodBit p c) (!g.bad)
    | none => s
  s.onCopy p c fun k => { k with segs := k.segs ++ done, cur := some ⟨n, errored || skips, [], 0⟩ }

/-- Bytes that segments hold. -/
def heldBytes (segs : List Segment) : Nat := ((segs.flatMap (·.recs)).map (·.length)).foldl (· + ·) 0

/-- All the segments of a copy, that in progress last. -/
def CopySt.all (k : CopySt) : List Segment := k.segs ++ k.cur.toList

/-- Whether MARK number `a` lies at or before `b` in the order of the stream, which wraps at 2^32 (R170). -/
def markUpTo (a b : Nat) : Bool := (b + 2 ^ 32 - a) % 2 ^ 32 < 2 ^ 31

/-- The carrier whose oldest complete segment bears a number. -/
def State.headAt (s : State) (p n : Nat) : Option (Carrier × Segment) :=
  let at' (c : Carrier) : Option (Carrier × Segment) :=
    match (s.copyOf p c).segs with
    | g :: _ => if g.mark = n then some (c, g) else none
    | [] => none
  (at' .A).or (at' .B)

/-- The MARK numbers that either copy holds, that of a segment in progress among them. -/
def State.heldMarks (s : State) (p : Nat) : List Nat := ((s.copyOf p .A).all ++ (s.copyOf p .B).all).map (·.mark)

/-- The lowest MARK number held. -/
def State.lowestMark (s : State) (p : Nat) : Option Nat :=
  match s.heldMarks p with
  | [] => none
  | n :: rest => some (rest.foldl (fun m k => if markUpTo m k then m else k) n)

/-- JOINT: the egress buffer is full at 16 KiB per slot (R177). -/
def State.jointFull (s : State) (p : Nat) : Bool :=
  16384 * s.get (F.CLIENT_CFG.SLOTS p) ≤ heldBytes ((s.copyOf p .A).all ++ (s.copyOf p .B).all)

/-- The MARK that the JOINT egress awaits; at the start the lowest held, once every carrier with slots of the port holds one or the buffer is full
(DEDUCED, log 74). -/
def State.jointNext (s : State) (p : Nat) : Option Nat :=
  let shows (c : Carrier) : Bool := !s.portOn p c || !(s.copyOf p c).all.isEmpty
  match (s.port p).next with
  | some n => some n
  | none => if (shows .A && shows .B) || s.jointFull p then s.lowestMark p else none

/-- Segments whose numbers a loss of alignment skipped are lost (R177). -/
def State.dropSkipped (s : State) (p : Nat) : State :=
  let q := s.port p
  let gone (g : Segment) : Bool := (g.mark + 2 ^ 32 - q.skipFrom) % 2 ^ 32 < (q.skipTo + 2 ^ 32 - q.skipFrom) % 2 ^ 32
  s.onPort p fun q => { q with copies := ⟨{ q.copies.A with segs := q.copies.A.segs.filter (!gone ·) },
                                          { q.copies.B with segs := q.copies.B.segs.filter (!gone ·) }⟩ }

/-- JOINT: releases segments in MARK order, at most `fuel` of them; a bad one in its turn, with ERR (R177). -/
def State.releaseJoint (s : State) (p : Nat) : Nat → State
  | 0 => s
  | fuel + 1 =>
    match (s.jointNext p).bind (s.headAt p) with
    | some (c, g) =>
      let s := s.forwardRest p g.bad g
      let s := s.onCopy p c fun k => { k with segs := k.segs.drop 1 }
      let s := (s.onPort p fun q => { q with next := some ((g.mark + 1) % 2 ^ 32) }).set (F.CLIENT_STATE.ALIGNED p) 1
      s.releaseJoint p fuel
    | none => s

/-- JOINT: the egress after a record; a buffer that is full when the MARK awaited has not arrived loses alignment, and the egress resumes at the
lowest MARK held (R177). -/
def State.jointEgress (s : State) (p : Nat) : State :=
  let s := s.dropSkipped p
  let fuel := (s.copyOf p .A).segs.length + (s.copyOf p .B).segs.length
  let s := s.releaseJoint p fuel
  match (s.port p).next, s.lowestMark p with
  | some n, some low =>
    if s.jointFull p && !(s.heldMarks p).contains n then
      let s := (s.alignedLost p).onPort p fun q => { q with next := some low, skipFrom := n, skipTo := low }
      (s.dropSkipped p).releaseJoint p fuel
    else s
  | _, _ => s

/-- The segments that a buffer of `room` bytes keeps: the newest. -/
def fitTo (room : Nat) : List Segment → List Segment
  | [] => []
  | g :: rest => if heldBytes (g :: rest) ≤ room then g :: rest else fitTo room rest

/-- PROTECTED: a copy keeps 32 KiB per slot; aligned copies of which one needs more are aligned no longer (R178, R179). -/
def State.copyBound (s : State) (p : Nat) (c : Carrier) : State :=
  let room := 32768 * s.get (F.CLIENT_CFG.SLOTS p)
  let s := if room < heldBytes (s.copyOf p c).all then s.unalign p else s
  s.onCopy p c fun k => { k with segs := fitTo room k.segs }

/-- PROTECTED: a MARK of a copy. The copy that is forwarded again begins here; unaligned, the selector chooses at either copy's MARK, within a
record of the other (R174, R179). -/
def State.protectedMark (s : State) (p : Nat) (c : Carrier) : State :=
  if s.on (F.CLIENT_STATE.ALIGNED p) then s
  else
    let begin' (s : State) : State := if s.selected p = c then s.onPort p fun q => { q with resume := false } else s
    begin' ((begin' s).select p (s.selected p ≠ c))

/-- PROTECTED: a record of a copy, kept in its segment; the selected copy's is forwarded as it arrives while the copies are not aligned (R179). -/
def State.protectedRecord (s : State) (p : Nat) (c : Carrier) (rec : List Byte) (errored : Bool) : State :=
  if !s.on (F.CLIENT_STATE.ALIGNED p) && s.selected p = c && !(s.port p).resume then
    (s.forward p errored rec).onCopy p c fun k => { k with cur := k.cur.map fun g => { g with sent := g.recs.length } }
  else s

/-- PROTECTED: the record that a switch left in progress is over; a frame ends with ERR (R179). -/
def State.endedRecord (s : State) (p : Nat) (c : Carrier) (rec : List Byte) : State :=
  if (s.port p).ending = some c then
    let s := s.onPort p fun q => { q with ending := none }
    if (headerFields rec).1 = 0 then s.forward p true rec else s
  else s

/-- A record in SYNC (R174): JOINT and PROTECTED keep it in its segment, an errored frame with ERR; the others forward it. -/
def State.recordIn (s : State) (p : Nat) (c : Carrier) (rec : List Byte) (errored : Bool) : State :=
  let kind := (headerFields rec).1
  let s := s.endedRecord p c rec
  if kind = 3 then s
  else if kind = 2 then
    let s := s.markIn p c (beNat (slice rec 4 4)) errored
    if s.mode = 1 then s.jointEgress p
    else if s.mode = 2 then (s.protectedMark p c).copyBound p c
    else s.onCopy p c fun k => { k with segs := [] }
  else
    let s := s.onCopy p c fun k =>
      { k with cur := k.cur.map (fun g => { g with bad := g.bad || errored, recs := if s.mode = 1 ∨ s.mode = 2 then g.recs ++ [withErr errored rec] else [] }) }
    if s.mode = 1 then s.jointEgress p
    else if s.mode = 2 then (s.protectedRecord p c rec errored).copyBound p c
    else s.forward p errored rec

/-- The bytes of a record where one is expected, or a position examined in HUNT (R174). -/
def State.recordReceived (s : State) (p : Nat) (c : Carrier) (rec : List Byte) (errored : Bool) : State :=
  let k := s.copyOf p c
  if k.sync then
    if hecGood rec then s.recordIn p c rec errored else s.toHunt p c
  else if !hecGood rec then s.onCopy p c fun k => { k with found := 0 }
  else if k.found = 0 then s.onCopy p c fun k => { k with found := 1 }
  else (s.onCopy p c fun k => { k with sync := true, found := 0 }).recordIn p c rec errored

/-- The differential delay that the buffer absorbs: 32 KiB per slot at 25 Gb/s per slot, in ns (R178). -/
def bufferDelayNs : Nat := 10485

/-- The copies' oldest segments that belong together: aligned copies go on in step, whatever a garbled MARK says; unaligned ones meet at their
first common MARK number (R178). Each with the segments after it. -/
def pairOf (aligned : Bool) (a b : List Segment) : Option ((Segment × List Segment) × (Segment × List Segment)) :=
  let head (l : List Segment) : Option (Segment × List Segment) := match l with
    | g :: rest => some (g, rest)
    | [] => none
  let both (a b : List Segment) := (head a).bind fun x => (head b).map fun y => (x, y)
  if aligned then both a b
  else
    match a.find? (fun g => b.any (fun h => h.mark = g.mark)) with
    | none => none
    | some g => both (a.dropWhile fun h => h.mark ≠ g.mark) (b.dropWhile fun h => h.mark ≠ g.mark)

/-- PROTECTED: both copies of a segment are complete; the selector works and forwards what is left of one, with ERR if the selected copy is not
good (R178, Table 8.6). A delay beyond the buffer leaves the copies unaligned (R179). DIFF_DELAY is to the nearest microsecond (R9). -/
def State.segmentComplete (s : State) (p delayNs : Nat) : State :=
  let s := s.setSat (F.CLIENT_PROT_STATUS.DIFF_DELAY p) (roundHalfDown delayNs 1000).toNat
  let a := s.copyOf p .A
  let b := s.copyOf p .B
  if bufferDelayNs < delayNs ∨ !a.sync ∨ !b.sync then
    (s.unalign p).onPort p fun q =>
      { q with copies := ⟨{ q.copies.A with segs := [] }, { q.copies.B with segs := [] }⟩ }
  else
    match pairOf (s.on (F.CLIENT_STATE.ALIGNED p)) a.segs b.segs with
    | none => s
    | some ((ga, ra), (gb, rb)) =>
      let s := s.set (F.CLIENT_STATE.ALIGNED p) 1
      let s := (s.setB (goodBit p .A) (!ga.bad)).setB (goodBit p .B) (!gb.bad)
      let s := s.select p false
      let g := match s.selected p with
        | .A => ga
        | .B => gb
      let s := s.onPort p fun q =>
        { q with resume := false, ending := none, copies := ⟨{ q.copies.A with segs := ra }, { q.copies.B with segs := rb }⟩ }
      s.forwardRest p (!s.copyGood p (s.selected p)) { g with sent := max ga.sent gb.sent }

/-- FORCE_SEL forces or releases the selection (Table 8.6). -/
def State.forceSel (s : State) (p v : Nat) : State :=
  let v := min 2 v
  let s := s.set (F.CLIENT_CTRL.FORCE_SEL p) v
  if s.mode = 2 && v ≠ 0 && s.get (F.CLIENT_STATE.SELECTED p) ≠ v then s.switchTo p (Carrier.ofIdx (v - 1)) true else s

/-- LOOP is written; LINE is stored as HOST in HOST_TEST (R180). -/
def State.portLoopWrite (s : State) (p v : Nat) : State :=
  let v := min 2 v
  (s.set (F.CLIENT_CTRL.LOOP p) (if s.mode = 7 then min 1 v else v)).egressUpdate p

/-- Asks for a counter snapshot; one pending already has no further effect (R182). -/
def State.clientSnap (s : State) (p : Nat) (clear : Bool) : State :=
  s.onPort p fun q => if q.snap.isSome then q else { q with snap := some clear }

/-- Copies the counters (R182), after what they count in the copy's cycle (R319). -/
def State.clientCopy (s : State) (p : Nat) (now : List Nat) : State :=
  match (s.port p).snap with
  | none => s.onPort p fun q => { q with live := counted now q.live }
  | some clear =>
    let after := counted now (s.port p).live
    let shown := copied clear (s.port p).live after
    let v (k : Nat) : Nat := (nth shown k {}).value
    let s := s.set48 (F.CLIENT_IN_FRAMES_LO.VALUE p) (F.CLIENT_IN_FRAMES_HI.VALUE p) (v 0)
    let s := s.set48 (F.CLIENT_IN_FCS_ERR_LO.VALUE p) (F.CLIENT_IN_FCS_ERR_HI.VALUE p) (v 1)
    let s := s.set48 (F.CLIENT_RS_CORR_LO.VALUE p) (F.CLIENT_RS_CORR_HI.VALUE p) (v 2)
    let s := s.set48 (F.CLIENT_RS_UNCORR_LO.VALUE p) (F.CLIENT_RS_UNCORR_HI.VALUE p) (v 3)
    let s := s.set48 (F.CLIENT_OUT_FRAMES_LO.VALUE p) (F.CLIENT_OUT_FRAMES_HI.VALUE p) (v 4)
    let s := s.set48 (F.CLIENT_OUT_ERR_LO.VALUE p) (F.CLIENT_OUT_ERR_HI.VALUE p) (v 5)
    let s := s.ovfMap (18 + p) shown
    let s := s.onPort p fun q => { q with snap := none, live := snapped clear after }
    s.clientEvent p 8

/-- A write of a port's control field: windows of ports without a CLIENT_PORT record ignore writes (R182). -/
def State.portWrite (s : State) (path : Path) (p : Nat) (k : State → State) : State :=
  s.rwWrite path (R.CLIENT_CTRL p) fun s => if s.portUsed p then k s else s

/-! ### Meanings -/

/-- PCS_ALIGNED (Table 8.3, R166). -/
def execPcsAligned (port : Fin 16) (skew : Nat) (s : State) : Host.Outcome State Fault Refusal :=
  .next (
    if s.ingress port = 2 && skew ≤ 200 then
      ((s.toIngress port 3).setSat (F.CLIENT_STATE.SKEW port) skew).clientEvent port 0
    else s)

/-- CLIENT_ALIGN_TIMEOUT (Table 8.3): retried at once (Table 8.7). -/
def execClientAlignTimeout (port : Fin 16) (cause : Fin 3) (s : State) : Host.Outcome State Fault Refusal :=
  .next (if s.ingress port = 2 then (s.clientViolation port (cause + 1)).ingressDown port else s)

/-- HI_SER (Table 8.3, violation 0x04). -/
def execHiSer (port : Fin 16) (s : State) : Host.Outcome State Fault Refusal :=
  .next (if s.ingress port = 3 then (s.clientViolation port 4).ingressFails port else s)

/-- MARKER_LOCK_LOST (Table 8.3). -/
def execMarkerLockLost (port : Fin 16) (s : State) : Host.Outcome State Fault Refusal :=
  .next (if s.ingress port = 3 then s.ingressFails port else s)

/-- CLIENT_FRAME_INGRESS (R169): frames count while the ingress is UP. -/
def execClientFrameIngress (port : Fin 16) (frame : ClientFrame) (due : DueWords) (s : State) :
    Host.Outcome State Fault Refusal :=
  .next (
    let s := s.wordsDue port due
    if s.ingress port = 3 then s.frameIn port frame else s)

/-- ORDERED_SET_INGRESS (R169). -/
def execOrderedSetIngress (port : Fin 16) (set : Nat) (due : DueWords) (s : State) : Host.Outcome State Fault Refusal :=
  .next (
    let s := s.wordsDue port due
    if s.ingress port = 3 then s.setReceived port set else s)

/-- ORDERED_SET_REPEAT (R169, Table 8.2). -/
def execOrderedSetRepeat (port : Fin 16) (due : DueWords) (s : State) : Host.Outcome State Fault Refusal :=
  .next (
    let s := s.wordsDue port due
    if s.repeated port = 0 then s else s.ingressRecord port (setRecord (s.repeated port)))

/-- LPI_RECEIVED (R169): treated as idle, a violation once per episode. -/
def execLpiReceived (port : Fin 16) (s : State) : Host.Outcome State Fault Refusal :=
  .next (if s.ingress port = 3 then s.clientViolation port 0x0A else s)

/-- RECORD_RECEIVED (R174). -/
def execRecordReceived (port : Fin 16) (c : Carrier) (record : List Byte) (errored : Bool) (drained : Nat) (s : State) :
    Host.Outcome State Fault Refusal :=
  .next (if s.portOn port c then (s.egressDrain port drained).recordReceived port c record errored else s)

/-- ORDERED_SET_TIMEOUT (R176). -/
def execOrderedSetTimeout (port : Fin 16) (s : State) : Host.Outcome State Fault Refusal :=
  .next (s.onPort port fun q => { q with setOut := 0 })

/-- SEGMENT_COMPLETE (R178). -/
def execSegmentComplete (port : Fin 16) (delayNs drained : Nat) (s : State) : Host.Outcome State Fault Refusal :=
  .next (if s.mode = 2 && s.portUsed port then (s.egressDrain port drained).segmentComplete port delayNs else s)

/-- WTR_EXPIRED (Table 8.6). -/
def execWtrExpired (port : Fin 16) (s : State) : Host.Outcome State Fault Refusal :=
  .next (
    if (s.port port).wtr && s.selected port = .B && s.on (F.CLIENT_CFG.REVERTIVE port) && s.get (F.CLIENT_CTRL.FORCE_SEL port) = 0
        && s.copyGood port .A && !s.copySd .A then
      s.switchTo port .A true
    else s)

/-- FORCE_SEL_WRITE (Table 8.6, R10). -/
def execForceSelWrite (path : Path) (port : Fin 16) (value : Fin 4) (s : State) : Host.Outcome State Fault Refusal :=
  .next (s.portWrite path port fun s => s.forceSel port value)

/-- LOOP_WRITE (R180). -/
def execLoopWrite (path : Path) (port : Fin 16) (value : Fin 4) (s : State) : Host.Outcome State Fault Refusal :=
  .next (s.portWrite path port fun s => s.portLoopWrite port value)

/-- CLIENT_SNAPSHOT (R182). -/
def execClientSnapshot (path : Path) (port : Fin 16) (clear : Bool) (s : State) : Host.Outcome State Fault Refusal :=
  .next (s.portWrite path port fun s => s.clientSnap port clear)

/-- CLIENT_SNAPSHOT_COPY (R182). -/
def execClientSnapshotCopy (port : Fin 16) (now : List Nat) (s : State) : Host.Outcome State Fault Refusal :=
  .next (s.clientCopy port now)

end Sys2Proof.Machine
end

