-- ==== Sys2Proof/Machine/LaneSignal.lean ====
section
/-!
DEFINITION. Symbols of a host lane: levels and Gray bits (R145), precoding (R146), the transmit FFE (R147), the wake burst (R152), patterns
(R155), the checker's reference (R156), injection (R157), and what a lane sends and hears (Table 7.1, R159).
-/
namespace Sys2Proof.Machine

/-! ### Levels, Gray bits, precoding (R145, R146) -/

/-- The level index V of a pair of Gray bits, MSB first (R145). -/
def grayValue : Bool → Bool → Nat
  | false, false => 0
  | false, true => 1
  | true, true => 2
  | true, false => 3

/-- The Gray bits of a level index, MSB first. -/
def grayBits (v : Nat) : List Bool := [2 ≤ v, v = 1 || v = 2]

/-- The level of an index: −3, −1, +1 or +3. -/
def levelOf (v : Nat) : Int := 2 * v - 3

/-- The index of a level. -/
def valueOf (l : Int) : Nat := ((l + 3) / 2).toNat

/-- TX_INVERT and RX_INVERT negate levels. -/
def inverted (on : Bool) (l : Int) : Int := if on then -l else l

/-- The precoded symbols: P(j) = (V(j) − P(j−1)) mod 4 from the state given (R146). -/
def precode : Nat → List Nat → List Nat
  | _, [] => []
  | p, v :: vs => let q := (v + 4 - p % 4) % 4; q :: precode q vs

/-- The decoded symbols: R(j) = (P(j) + P(j−1)) mod 4 (R146). -/
def precodeDecode : Nat → List Nat → List Nat
  | _, [] => []
  | p, q :: qs => (q + p) % 4 :: precodeDecode q qs

/-- The transmit FFE's output at symbol k in 1/64 of the peak level 3, taps c(−3) to c(2) (R147). -/
def ffeOutput (taps : List Int) (level : Int → Int) (k : Int) : Int :=
  ((List.range 6).map fun i => nth taps i 0 * level (k + 3 - i)).foldl (· + ·) 0

/-- The levels of a wake burst: 8,192 UI of −3 and +3, starting with −3 (R152), negated by TX_INVERT (R145). -/
def wakeLevels (invert : Bool) : List Int := (List.range 8192).map fun i => inverted invert (if i % 2 = 0 then -3 else 3)

/-- The peak-to-peak swing of a lane's transmitter with c(0) = 64 and all other taps 0, mVppd (R147). -/
def State.swing (s : State) (n : Nat) : Nat := 10 * s.get (F.HOSTLANE_TX_CFG.AMPLITUDE n)

/-- The voltage at the ball for an FFE output: half the swing at 64 times the peak level 3, so in units of 1/384 mV (R147). -/
def State.laneVoltage (s : State) (n : Nat) (ffe : Int) : Int := s.swing n * ffe

/-! ### Patterns (R155) -/

/-- The length and feedback of a PRBS pattern's register (Table 7.4); the quaternary patterns use PRBS13's and PRBS31's (PRESUMED, log 73). -/
def prbsTaps : Nat → Nat × List Nat
  | 0 => (7, [7, 6])
  | 1 => (9, [9, 5])
  | 2 => (13, [13, 12, 2, 1])
  | 3 => (15, [15, 14])
  | 4 => (23, [23, 18])
  | 5 => (31, [31, 28])
  | 6 => (13, [13, 12, 2, 1])
  | _ => (31, [31, 28])

/-- The next bit of a PRBS after the bits in a register, bit 0 the last one. -/
def prbsBit (pat reg : Nat) : Bool := xorAll ((prbsTaps pat).2.map fun t => reg.testBit (t - 1))

/-- A register with one more bit. -/
def prbsPush (pat reg : Nat) (b : Bool) : Nat := (2 * reg + (if b then 1 else 0)) % 2 ^ (prbsTaps pat).1

/-- Bits per symbol: one for patterns 0 to 5, two for the quaternary ones (Table 7.4). -/
def patternBits (pat : Nat) : Nat := if pat < 6 then 1 else 2

/-- The bits of a symbol under a pattern: the MSB of a one-bit pattern, else both Gray bits. -/
def symbolBits (pat v : Nat) : List Bool := (grayBits v).take (patternBits pat)

/-- The next symbol's bits of a pattern and what its register becomes; for SSPRBS the register is the place in the sequence. -/
def patternNext (pat reg : Nat) : List Bool × Nat :=
  if 8 ≤ pat then (grayBits (Config.ssprq (reg % 65535)), (reg + 1) % 65535)
  else
    (List.range (patternBits pat)).foldl (fun (out, reg) _ => let b := prbsBit pat reg; (out ++ [b], prbsPush pat reg b)) ([], reg)

/-- The symbol of a pattern's bits: a one-bit pattern sends −3 and +3. -/
def bitsSymbol : List Bool → Nat
  | [b] => if b then 3 else 0
  | [m, l] => grayValue m l
  | _ => 0

/-- The first `n` symbols of a pattern from a register. -/
def patternSymbols (pat : Nat) : Nat → Nat → List Nat
  | _, 0 => []
  | reg, n + 1 => let (bs, reg') := patternNext pat reg; bitsSymbol bs :: patternSymbols pat reg' n

/-! ### The checker (R156) -/

/-- Whether the last bits received lock a PRBS: its register seeded from them, and the next 64 predicted without error. The register after. -/
def prbsLock (pat : Nat) (bits : List Bool) : Option Nat :=
  let n := (prbsTaps pat).1
  let last := bits.drop (bits.length - (n + 64))
  let seed := (last.take n).foldl (prbsPush pat) 0
  let run := (last.drop n).foldl (fun (ok, reg) b => (ok && prbsBit pat reg = b, prbsPush pat reg b)) (true, seed)
  if n + 64 ≤ bits.length && run.1 then some run.2 else none

/-- Whether the last 64 symbols match a place of SSPRBS: the place after them. -/
def ssprqLock (rx : List Nat) : Option Nat :=
  let last := rx.drop (rx.length - 64)
  if rx.length < 64 then none
  else ((List.range 65535).find? fun p => last.zipIdx.all fun (v, k) => (Config.ssprq ((p + k) % 65535)).val = v).map fun p => (p + 64) % 65535

/-- The reference a checker takes from received symbols (R156). -/
def chkLockOn (pat : Nat) (rx : List Nat) : Option ChkRef :=
  (if pat < 8 then prbsLock pat (rx.flatMap (symbolBits pat)) else ssprqLock rx).map fun reg => ⟨pat, reg, []⟩

/-- One received symbol against the reference: its bit errors, and the reference after it, with the errors of the last 256 bits. -/
def ChkRef.step (r : ChkRef) (v : Nat) : Nat × ChkRef :=
  let (want, reg) := patternNext r.pattern r.reg
  let wrong := (want.zip (symbolBits r.pattern v)).map fun (a, b) => a != b
  ((wrong.filter (· = true)).length, { r with reg := reg, errors := (wrong.reverse ++ r.errors).take 256 })

/-- Whether 64 or more bits of the last 256 are in error. -/
def ChkRef.lost (r : ChkRef) : Bool := 64 ≤ (r.errors.filter (· = true)).length

/-! ### Generator (R155) -/

/-- What a pattern starts from: a register that is not 0, or the first place of SSPRBS. -/
def genStart (lane pat : Nat) : Nat := if 8 ≤ pat then 0 else 1 + Config.genSeed lane pat % (2 ^ (prbsTaps pat).1 - 1)

/-- A generator that starts with a pattern. -/
def LaneGen.start (lane pat : Nat) : LaneGen := ⟨pat, genStart lane pat, 0, none⟩

/-- The generator at a symbol: a changed pattern restarts at a 256-symbol boundary. -/
def LaneGen.due (g : LaneGen) (lane : Nat) : LaneGen :=
  match g.next with
  | some p => if g.count = 0 then .start lane p else g
  | none => g

/-- The next symbols of a generator, and the generator after them. -/
def LaneGen.run (lane : Nat) : LaneGen → Nat → List Nat × LaneGen
  | g, 0 => ([], g)
  | g, k + 1 =>
    let g := g.due lane
    let (bs, reg) := patternNext g.pattern g.reg
    let (vs, g') := LaneGen.run lane { g with reg := reg, count := (g.count + 1) % 256 } k
    (bitsSymbol bs :: vs, g')

/-! ### Injection (R157) -/

/-- A symbol with the Gray bits of BITS inverted: 1 LSB, 2 MSB, 3 both. -/
def injectBits (which v : Nat) : Nat :=
  match grayBits v with
  | [m, l] => grayValue (if 2 ≤ which then !m else m) (if which % 2 = 1 then !l else l)
  | _ => v

/-- Whether the symbol `j` from now is changed: of a BURST while it lasts, by RATE every INTERVAL symbols, and by a SINGLE the first one that
carries no rate error. -/
def LaneSt.injMark (l : LaneSt) (every j : Nat) : Bool :=
  let rated (j : Nat) : Bool := l.rate && (l.rateCount + j + 1) % every = 0
  decide (j < l.burst.getD 0) || rated j || (l.single && j = (if rated 0 then 1 else 0))

/-- The marks of a lane's next `k` symbols. -/
def State.injMarks (s : State) (n k : Nat) : List Bool :=
  (List.range k).map ((nth s.lanes n {}).injMark (s.get (F.HOSTLANE_INJ_RATE.INTERVAL n)))

/-- Symbols with the marked ones changed. -/
def injectAt (which : Nat) (marks : List Bool) (vs : List Nat) : List Nat :=
  vs.zipIdx.map fun (v, k) => if nth marks k false then injectBits which v else v

/-! ### What a lane sends and hears (Table 7.1, R159) -/

/-- What a transmitter sends. -/
inductive LaneOutput where
  | idle
  | training
  | data
  | pattern (code : Nat)
  deriving DecidableEq, Repr

/-- Whether the transmit PLL of a lane's quad is locked. -/
def State.pllLocked (s : State) (n : Nat) : Bool := s.on ⟨R.HOSTLANE_QUAD_STATUS, n / 4, n / 4⟩

/-- One lane beyond its registers. -/
def State.lane (s : State) (n : Nat) : LaneSt := nth s.lanes n {}

/-- Whether a transmitter sends nothing: DISABLED, its PLL unlocked, or TX_IDLE in force (R144, R153). -/
def State.laneSilent (s : State) (n : Nat) : Bool := s.laneState n = 0 || !s.pllLocked n || (s.lane n).idle

/-- Whether the lane trains: TRAIN_EN, ignored in near-end loopback (R159). -/
def State.trains (s : State) (n : Nat) : Bool := s.on (F.HOSTLANE_CTRL.TRAIN_EN n) && !s.on (F.HOSTLANE_CTRL.LOOP_NEAR n)

/-- Whether the generator runs: GEN_EN, in DATA and IDLE only (R155). -/
def State.genRuns (s : State) (n : Nat) : Bool := s.on (F.HOSTLANE_GEN_CFG.GEN_EN n) && (s.laneState n = 4 || s.laneState n = 5)

/-- The column "Transmitter sends" of Table 7.1; the generator replaces client data in DATA and IDLE only (R155). -/
def State.laneSends (s : State) (n : Nat) : LaneOutput :=
  if s.laneSilent n then .idle
  else if s.genRuns n then .pattern (s.get (F.HOSTLANE_GEN_CFG.PATTERN n))
  else match s.laneState n with
    | 1 => if s.trains n then .training else .data
    | 4 => .data
    | 5 => .data
    | _ => .training

/-- The symbols that a lane sends next, before injection and precoding (R151, R155). -/
def State.laneSource (s : State) (n k : Nat) : List Nat :=
  let l := s.lane n
  match s.laneSends n with
  | .idle => []
  | .pattern _ => (l.gen.run n k).1
  | .data => (List.range k).map fun j => (Config.laneData n (l.sent + j)).val
  | .training => (List.range k).map fun j => (Config.laneTraining n (l.sent + j)).val

/-- The symbols after injection and precoding. A pattern bypasses the precoder, and POINT says on which side of it data is changed (R146, R155,
R157). -/
def State.laneCoded (s : State) (n : Nat) (vs : List Nat) : List Nat :=
  let inject := injectAt (s.get (F.HOSTLANE_INJ_CTRL.BITS n)) (s.injMarks n vs.length)
  let pre (vs : List Nat) : List Nat := if s.on (F.HOSTLANE_TX_CFG.PRECODE_TX n) then precode (s.lane n).txPre vs else vs
  match s.laneSends n with
  | .data => if s.on (F.HOSTLANE_INJ_CTRL.POINT n) then inject (pre vs) else pre (inject vs)
  | _ => inject vs

/-- The levels of the symbols that a lane sends: inversion comes last (R145). -/
def State.laneLevels (s : State) (n : Nat) (vs : List Nat) : List Int :=
  (s.laneCoded n vs).map fun v => inverted (s.on (F.HOSTLANE_CTRL.TX_INVERT n)) (levelOf v)

/-- The precoder's state after symbols of data. -/
def State.preAfter (s : State) (n : Nat) (vs : List Nat) : Nat :=
  let inject := injectAt (s.get (F.HOSTLANE_INJ_CTRL.BITS n)) (s.injMarks n vs.length)
  match s.laneSends n with
  | .data => (precode (s.lane n).txPre (if s.on (F.HOSTLANE_INJ_CTRL.POINT n) then vs else inject vs)).getLastD (s.lane n).txPre
  | _ => (s.lane n).txPre

/-- A lane after its next `k` symbols: the generator runs on through electrical idle (Table 7.5); the injector changes symbols that are sent, and
counts them; what is sent in near-end loopback is kept for the receiver (R157, R159). -/
def State.laneRun (s : State) (n k : Nat) : State :=
  let every := s.get (F.HOSTLANE_INJ_RATE.INTERVAL n)
  let marks := (s.injMarks n k).filter (· = true)
  let vs := s.laneSource n k
  let sent := (s.laneLevels n vs).map valueOf
  let looped := s.on (F.HOSTLANE_CTRL.LOOP_NEAR n)
  let pre := s.preAfter n vs
  let gen := if s.genRuns n then ((s.lane n).gen.run n k).2 else (s.lane n).gen
  if s.laneSilent n then { s with lanes := s.lanes.modify n fun l => { l with gen := gen } }
  else
    { s.bump (F.HOSTLANE_INJ_COUNT.INJECTED n) marks.length with
      lanes := s.lanes.modify n fun l =>
        { l with
          gen := gen, txPre := pre, sent := l.sent + k, wire := if looped then l.wire ++ sent else l.wire, burst := l.burst.map (· - k),
          rateCount := if l.rate then (l.rateCount + k) % every else l.rateCount,
          single := l.single && !(List.range k).any fun j => j = (if l.rate && (l.rateCount + 1) % every = 0 then 1 else 0) } }

/-- The symbols that a receiver takes, inverted before all else (R145), and the lane after them: in near-end loopback as many of its own
transmitter's as came in, else those at the ball (R159). The checker watches these. -/
def State.laneHears (s : State) (n : Nat) (ball : List (Fin 4)) : List (Fin 4) × State :=
  let k := ball.length
  let looped := s.on (F.HOSTLANE_CTRL.LOOP_NEAR n)
  let s := if looped then s.laneRun n (k - (s.lane n).wire.length) else s
  let heard := if looped then (s.lane n).wire.take k else ball.map (·.val)
  let s := if looped then { s with lanes := s.lanes.modify n fun l => { l with wire := l.wire.drop k } } else s
  (heard.map fun v => Fin.ofNat 4 (valueOf (inverted (s.on (F.HOSTLANE_CTRL.RX_INVERT n)) (levelOf v))), s)

/-- The amplitude that signal detect sees, mVppd: in near-end loopback the lane's own (R154, R159). -/
def State.amplitudeSeen (s : State) (n ball : Nat) : Nat :=
  if s.on (F.HOSTLANE_CTRL.LOOP_NEAR n) then (if s.laneSilent n then 0 else s.swing n) else ball

/-- Whether the CDR locks to a signal of a given offset from the nominal rate, parts in 10^9: within ±200 ppm (R149); the lane's own has none. -/
def State.cdrLocks (s : State) (n : Nat) (offset : Option Int) : Bool :=
  s.on (F.HOSTLANE_CTRL.LOOP_NEAR n) || offset.any fun x => x.natAbs ≤ 200000

/-- The symbols delivered to the client engine of those taken since the decoder's last restart: in DATA and IDLE only, decoded with PRECODE_RX
(R146, R151). -/
def State.laneDelivers (s : State) (n : Nat) (symbols : List Nat) : List Nat :=
  if s.laneState n = 4 || s.laneState n = 5 then if s.on (F.HOSTLANE_RX_CFG.PRECODE_RX n) then precodeDecode 0 symbols else symbols else []

end Sys2Proof.Machine
end

