-- ==== Sys2Proof/Machine/HostLane.lean ====
section
/-!
DEFINITION. Host lanes (chapter 7): the lane state machine (Table 7.2), electrical idle (R153, R154), precoding (R146), the
transmit equaliser's taps (R147), training requests (R150), the checker (R156), the injector (R157) and eye figures (R158).
-/
namespace Sys2Proof.Machine

/-! ### Lanes -/

/-- Updates one lane. -/
def State.onLane (s : State) (n : Nat) (f : LaneSt → LaneSt) : State := { s with lanes := s.lanes.modify n f }

/-- Sets a bit of a lane's EVENT register: the block's bit rises when an enabled one becomes 1, and the event code issues for
every bit but SNAP_DONE (R162, R163). -/
def State.laneEvent (s : State) (n b : Nat) : State :=
  let f : Fld := ⟨R.HOSTLANE_EVENT n, b, b⟩
  let rises := !s.on f && s.on ⟨R.HOSTLANE_EVENT_ENABLE n, b, b⟩
  let s := s.set f 1
  let s := if rises then s.raise 0x10 n else s
  if b = 9 then s else s.event (0x1000 + (b + 1) * 16 + n)

/-- Records a violation of the host ASIC at a lane (R161). -/
def State.laneViolation (s : State) (n code : Nat) : State :=
  ((s.bump (F.HOSTLANE_VIOLATION.COUNT n)).set (F.HOSTLANE_VIOLATION.LAST n) code).laneEvent n 7

/-- A SINGLE changes the next symbol, or the one after it where that carries a rate error (R157); on a silent lane it waits. -/
def State.singleRun (s : State) (n : Nat) : State :=
  let l := s.lane n
  s.laneRun n (if l.rate && (l.rateCount + 1) % s.get (F.HOSTLANE_INJ_RATE.INTERVAL n) = 0 then 2 else 1)

/-- IN_IDLE: the transmitter sends nothing, or near-end loopback idles the ball (R144, R153, R159). A SINGLE that waits changes the first
symbol sent (R157). -/
def State.showIdle (s : State) (n : Nat) : State :=
  let s := s.setB (F.HOSTLANE_TX_CFG.IN_IDLE n) (s.laneSilent n || s.on (F.HOSTLANE_CTRL.LOOP_NEAR n))
  if (s.lane n).single then s.singleRun n else s

/-- The precoder, or the decoder, takes its state as 0 at the next symbol (R146). -/
def State.precoderRestart (s : State) (n : Nat) (receive : Bool) : State :=
  (s.onLane n fun l => if receive then l else { l with txPre := 0 }).send (.precoderRestart n receive)

/-- The wake burst with its data after it (R152). -/
def State.wakeSend (s : State) (n : Nat) : State :=
  ((s.onLane n fun l => { l with wakeOwed := false }).send (.wakeBurst n (s.on (F.HOSTLANE_CTRL.TX_INVERT n)))).precoderRestart n false

/-- Electrical idle begins or ends by TX_IDLE; its end in DATA is a wake burst, after which the precoder restarts (R152, R153). Without lock of
the quad's PLL the transmitter stays idle, and the burst waits for the lock (DEDUCED, log 84). -/
def State.laneIdle (s : State) (n : Nat) (v : Bool) : State :=
  let wakes := (s.lane n).idle && !v && s.laneState n = 4
  let owes := !v && s.laneState n = 4 && !s.pllLocked n && (wakes || (s.lane n).wakeOwed)
  let s := (s.onLane n fun l => { l with idle := v, wakeOwed := owes }).showIdle n
  if wakes && s.pllLocked n then s.wakeSend n else s

/-- The port that holds a lane, if any. -/
def State.lanePort (s : State) (n : Nat) : Option Nat :=
  if s.on (F.HOSTLANE_STATE.IN_PORT n) then some (s.get (F.HOSTLANE_STATE.PORT n)) else none

/-- A lane enters a state (Table 7.1): the receiver is off in DISABLED, its CDR has no lock where it waits for signal, has lost it or locks anew,
TX_IDLE takes effect in DATA and ends outside DATA and IDLE (R153), eye figures are valid in DATA only (R158), a waiting HOST_LANE record is
taken at DETECT (R348), and the client port follows (Table 8.3). -/
def State.toLane (s : State) (n st : Nat) : State :=
  let s := s.set (F.HOSTLANE_STATE.STATE n) st
  let s := if st = 0 then s.set (F.HOSTLANE_STATE.SIGNAL n) 0 else s
  let s := if st = 3 || st = 4 || st = 6 then s else s.set (F.HOSTLANE_STATE.CDR_LOCK n) 0
  let s := if st = 2 then s.laneCalibrate n else s
  let s := s.laneIdle n (if st = 4 then s.on (F.HOSTLANE_TX_CFG.TX_IDLE n) else st = 5 && (s.lane n).idle)
  let s := if st = 4 then s else s.set (F.HOSTLANE_EYE_HEIGHT.VALID n) 0
  match s.lanePort n with
  | some p => s.lanesChanged p
  | none => s

/-- DATA_DOWN if the lane leaves DATA or IDLE. -/
def State.dataDown (s : State) (n : Nat) : State :=
  if s.laneState n = 4 || s.laneState n = 5 then s.laneEvent n 1 else s

/-- An entry to NO_SIGNAL; the 16th within 1 s goes to HOLDOFF with violation 0x07, but not from DISABLED or HOLDOFF (Table 7.2). -/
def State.noSignal (s : State) (n : Nat) : State :=
  let k := (s.lane n).noSignals + 1
  if 16 ≤ k && s.laneState n != 0 && s.laneState n != 7 then
    ((((s.onLane n fun l => { l with noSignals := 0 }).toLane n 7).laneEvent n 8).laneViolation n 7)
  else (s.onLane n fun l => { l with noSignals := k }).toLane n 1

/-- The modes of CTLE, FFE and DFE in order. -/
def State.eqModes (s : State) (n : Nat) : List Nat :=
  [s.get (F.HOSTLANE_RX_CFG.CTLE_MODE n), s.get (F.HOSTLANE_RX_CFG.FFE_MODE n), s.get (F.HOSTLANE_RX_CFG.DFE_MODE n)]

/-- CONVERGED: every AUTO stage has kept still (R148). -/
def State.showConverged (s : State) (n : Nat) : State :=
  s.setB (F.HOSTLANE_RX_EQ_STATUS.CONVERGED n) (((s.eqModes n).zip (s.lane n).still).all fun (m, still) => m != 0 || still)

/-- FIXED and OFF apply their settings: CTLE_SET, the FFE's main tap alone, no feedback (R148). -/
def State.eqSettings (s : State) (n : Nat) : State :=
  let s := if s.get (F.HOSTLANE_RX_CFG.CTLE_MODE n) = 1 then s.set (F.HOSTLANE_RX_EQ_STATUS.CTLE n) (s.get (F.HOSTLANE_RX_CFG.CTLE_SET n)) else s
  let s := if s.get (F.HOSTLANE_RX_CFG.FFE_MODE n) = 2 then
      s.onLane n fun l => { l with ffe := [0, 0, 0, nth l.ffe 3 0] ++ List.replicate 12 0 }
    else s
  let s := if s.get (F.HOSTLANE_RX_CFG.DFE_MODE n) = 2 then s.set (F.HOSTLANE_RX_EQ_STATUS.H1 n) 0 else s
  s.showConverged n

/-- The equalisers as adaptation leaves them: AUTO adapts, FIXED and OFF apply their settings, FREEZE holds (R148). Peaking goes up to 20 dB. -/
def State.setEq (s : State) (n : Nat) (eq : LaneEq) : State :=
  let s := if s.get (F.HOSTLANE_RX_CFG.CTLE_MODE n) = 0 then s.set (F.HOSTLANE_RX_EQ_STATUS.CTLE n) (min 40 eq.ctle) else s
  let s := if s.get (F.HOSTLANE_RX_CFG.FFE_MODE n) = 0 then s.onLane n fun l => { l with ffe := (List.range 16).map fun k => nth eq.ffe k 0 } else s
  let s := if s.get (F.HOSTLANE_RX_CFG.DFE_MODE n) = 0 then s.setS (F.HOSTLANE_RX_EQ_STATUS.H1 n) eq.h1 else s
  (s.onLane n fun l => { l with still := (List.range 3).map fun k => nth eq.still k false }).eqSettings n

/-- The lane enters DATA from DETECT or TRAIN with a partner: 1 TRAINED, 2 STATIC (Table 7.2); precoding starts with state 0 (R146). -/
def State.laneUp (s : State) (n partner : Nat) (eq : LaneEq) : State :=
  let s := (s.setEq n eq).set (F.HOSTLANE_STATE.CDR_LOCK n) 1
  let s := ((s.set (F.HOSTLANE_STATE.PARTNER n) partner).toLane n 4).laneEvent n 0
  (s.precoderRestart n false).precoderRestart n true

/-- The lane enters FAILED with a violation (Table 7.2). -/
def State.laneFail (s : State) (n code : Nat) : State := ((s.toLane n 6).laneEvent n 2).laneViolation n code

/-- Discards a write or a command at a lane (Table 7.5). -/
def State.laneDropped (s : State) (n : Nat) : State := s.bump (F.HOSTLANE_TRAIN_STATUS.DROPPED n)

/-- RETRAIN (Table 7.2): dropped in DETECT and TRAIN (Table 7.5). -/
def State.retrain (s : State) (n : Nat) : State :=
  match s.laneState n with
  | 0 => s
  | 7 => s
  | 2 => s.laneDropped n
  | 3 => s.laneDropped n
  | _ => (s.dataDown n).toLane n 2

/-- Training starts: the CDR holds the partner's frames, and this end asks for precoding if PRECODE_RX is 1 (R150). -/
def State.trainStart (s : State) (n : Nat) : State :=
  ((s.set (F.HOSTLANE_STATE.CDR_LOCK n) 1).toLane n 3).send (.precodeRequest n (s.on (F.HOSTLANE_RX_CFG.PRECODE_RX n)))

/-- Partner frame markers in 3 consecutive frames (Table 7.2). -/
def State.markers (s : State) (n : Nat) : State :=
  if !s.trains n then s
  else match s.laneState n with
    | 2 => (s.bump (F.HOSTLANE_LANE_COUNT.TRAINS n)).trainStart n
    | 4 => (((s.laneEvent n 5).laneEvent n 1).bump (F.HOSTLANE_LANE_COUNT.RETRAINS n)).trainStart n
    | _ => s

/-- The end of training: precoding as settled with the partner (R150), LAST_MS, DATA (Table 7.2). -/
def State.trained (s : State) (n ms : Nat) (granted requested : Bool) (eq : LaneEq) : State :=
  let wants := s.on (F.HOSTLANE_RX_CFG.PRECODE_RX n)
  let s := s.setB (F.HOSTLANE_TRAIN_STATUS.PARTNER_PRECODE n) (wants && granted)
  let s := s.setB (F.HOSTLANE_RX_CFG.PRECODE_RX n) (wants && granted)
  let s := s.setB (F.HOSTLANE_TX_CFG.PRECODE_TX n) requested
  (s.setSat (F.HOSTLANE_TRAIN_STATUS.LAST_MS n) ms).laneUp n 1 eq

/-- SIGNAL_LOST with DATA_DOWN and its violation, then NO_SIGNAL (Table 7.2). -/
def State.signalGone (s : State) (n code : Nat) : State :=
  let s := (s.bump (F.HOSTLANE_LANE_COUNT.SIG_LOST n)).laneEvent n 3
  ((s.laneEvent n 1).laneViolation n code).noSignal n

/-- An amplitude above SD_ON: signal detect asserts, and held it takes NO_SIGNAL to DETECT (R154, Table 7.2). A receiver that is off sees
nothing. -/
def State.signalFound (s : State) (n ball : Nat) : State :=
  let amplitude := s.amplitudeSeen n ball
  if s.laneState n = 0 || amplitude ≤ s.get (F.HOSTLANE_IDLE_CFG.SD_ON n) then s
  else
    let s := s.set (F.HOSTLANE_STATE.SIGNAL n) 1
    if s.laneState n = 1 then s.toLane n 2 else s

/-- An amplitude below SD_OFF: signal detect and with it the CDR's lock are lost (R154, Table 7.2). -/
def State.signalLost (s : State) (n ball : Nat) : State :=
  let amplitude := s.amplitudeSeen n ball
  if s.get (F.HOSTLANE_IDLE_CFG.SD_OFF n) ≤ amplitude then s
  else
    let s := (s.set (F.HOSTLANE_STATE.SIGNAL n) 0).set (F.HOSTLANE_STATE.CDR_LOCK n) 0
    if s.laneState n = 4 then
      if s.on (F.HOSTLANE_CTRL.ALLOW_IDLE n) then s.toLane n 5 else s.signalGone n 3
    else s

/-- A wake burst in IDLE (R154): DATA again, the decoder's state 0 after it (R146); a burst with less than 1,024 UI of held phase is short. -/
def State.wakeBurst (s : State) (n heldUi : Nat) : State :=
  if s.laneState n = 5 then
    let s := ((s.set (F.HOSTLANE_STATE.SIGNAL n) 1).setB (F.HOSTLANE_STATE.CDR_LOCK n) (heldUi != 0)).toLane n 4
    let s := s.precoderRestart n true
    if heldUi < 1024 then ((s.bump (F.HOSTLANE_LANE_COUNT.BURST_SHORT n)).laneEvent n 4).laneViolation n 5 else s
  else s

/-- TX_IDLE is written: obeyed in DATA, stored elsewhere (R153, Table 7.5). -/
def State.txIdle (s : State) (n : Nat) (v : Bool) : State :=
  let s := s.setB (F.HOSTLANE_TX_CFG.TX_IDLE n) v
  if s.laneState n = 4 then s.laneIdle n v else s

/-! ### Transmit FFE (R147) -/

/-- The range of tap `k`: 0 c(−3), 1 c(−2), 2 c(−1), 3 c(0), 4 c(1), 5 c(2). -/
def tapLimit (k : Nat) : Int := nth [8, 12, 24, 64, 24, 12] k 0

/-- The field of a tap. -/
def tapField (n k : Nat) : Fld :=
  match k with
  | 0 => F.HOSTLANE_TX_FFE_PRE.C_M3 n
  | 1 => F.HOSTLANE_TX_FFE_PRE.C_M2 n
  | 2 => F.HOSTLANE_TX_FFE_PRE.C_M1 n
  | 3 => F.HOSTLANE_TX_FFE_POST.C_0 n
  | 4 => F.HOSTLANE_TX_FFE_POST.C_P1 n
  | _ => F.HOSTLANE_TX_FFE_POST.C_P2 n

/-- The taps c(−3) to c(2) of a lane. -/
def State.taps (s : State) (n : Nat) : List Int := (List.range 6).map fun k => s.getS (tapField n k)

/-- The sum of |c| over the non-main taps other than `k`. -/
def sideSum (taps : List Int) (k : Nat) : Int :=
  ([0, 1, 2, 4, 5].filter (· ≠ k)).foldl (fun a i => a + (nth taps i 0).natAbs) 0

/-- A new value of tap `k` clamped among the current ones (R147): a non-main tap to its range and to the budget of 40. -/
def clampTap (taps : List Int) (k : Nat) (v : Int) : List Int :=
  let r := clampI (-tapLimit k) (tapLimit k) v
  let b := 40 - sideSum taps k
  taps.set k (clampI (-b) b r)

/-- c(0) clamped to [24, 64 − Σ|non-main taps|] (R147). -/
def clampMain (taps : List Int) (v : Int) : List Int := taps.set 3 (clampI 24 (64 - sideSum taps 3) v)

/-- New values of some non-main taps in ascending order, then c(0) (R147). -/
def clampTaps (taps : List Int) (side : List (Nat × Int)) (main : Int) : List Int :=
  clampMain (side.foldl (fun t (k, v) => clampTap t k v) taps) main

/-- Stores all six taps together. -/
def State.setTaps (s : State) (n : Nat) (taps : List Int) : State :=
  (List.range 6).foldl (fun s k => s.setS (tapField n k) (nth taps k 0)) s

/-- A write of TX_FFE_PRE or TX_FFE_POST, discarded during TRAIN (R147, Table 7.5). C_0 is read as signed like the other taps (DESIGN CHOICE, log
84). -/
def State.ffeWrite (s : State) (n : Nat) (post : Bool) (w : Word) : State :=
  if s.laneState n = 3 then s.laneDropped n
  else
    let b (hi lo : Nat) : Int := toSigned 8 (bitsOf w hi lo)
    let t := s.taps n
    s.setTaps n (
      if post then clampTaps t [(4, b 15 8), (5, b 23 16)] (b 7 0)
      else clampTaps t [(0, b 7 0), (1, b 15 8), (2, b 23 16)] (nth t 3 0))

/-- The lowest and highest tap a partner may address: c(−3) at 106.25 GBd, c(−1) at the lower rates, up to c(1) (R150). -/
def State.addressed (s : State) (n k : Nat) : Bool :=
  k ≤ 4 && (if s.get (F.HOSTLANE_STATE.RATE n) = 0 then true else 2 ≤ k)

/-- A preset's value in 1/1,000 of the peak to the nearest 1/64, the lower of two (R9, R150). -/
def presetTap (v : Int) : Int := (128 * v + 999) / 2000

/-- A partner's request in training (R150): a tap at its limit stays, answered so (Table 7.5); taps that the Clause does not address keep their
values; a reserved or contradictory request, a tap that the Clause does not address among them, changes nothing and is answered so (Table 7.6). -/
def State.coeffRequest (s : State) (n : Nat) (r : CoeffRequest) : State :=
  if s.laneState n = 3 then
    let t := s.taps n
    match r with
    | .step k up =>
      if s.addressed n k then
        let v := nth t k 0 + (if up then 1 else -1)
        let t' := if k.val = 3 then clampMain t v else clampMain (clampTap t k v) (nth t 3 0)
        (s.setTaps n t').send (.trainingAnswer n (if nth t' k 0 = v then .updated else .atLimit))
      else (s.laneViolation n 2).send (.trainingAnswer n .notUpdated)
    | .preset number =>
      let vals := Config.presetTaps (if s.get (F.HOSTLANE_STATE.RATE n) = 0 then 162 else 136) number
      let side := ([0, 1, 2, 4].filter (s.addressed n)).map fun k => (k, presetTap (nth vals k 0))
      (s.setTaps n (clampTaps t side (presetTap (nth vals 3 0)))).send (.trainingAnswer n .updated)
    | .contradictory => (s.laneViolation n 2).send (.trainingAnswer n .notUpdated)
  else s

/-- PRECODE_TX or PRECODE_RX is written, in force at the next symbol with state 0; discarded during TRAIN (R146, Table 7.5). -/
def State.precodeWrite (s : State) (n : Nat) (rx v : Bool) : State :=
  if s.laneState n = 3 then s.laneDropped n
  else
    let f := if rx then F.HOSTLANE_RX_CFG.PRECODE_RX n else F.HOSTLANE_TX_CFG.PRECODE_TX n
    if s.on f = v then s else (s.setB f v).precoderRestart n rx

/-! ### Checker (R156) -/

/-- Counts one symbol of a locked checker: bits, bit errors, and whether the symbol is wrong. -/
def LaneSt.chkAdd (l : LaneSt) (bits wrong : Nat) : LaneSt :=
  { l with chk := ((l.chk.modify 0 (·.add bits)).modify 1 (·.add wrong)).modify 2 (·.add (if wrong = 0 then 0 else 1)) }

/-- One received symbol at the checker: counted against its reference; 64 bits of 256 in error lose the lock. -/
def State.chkStep (s : State) (n : Nat) (v : Fin 4) : State :=
  match (s.lane n).chkRef with
  | none => s
  | some r =>
    let (wrong, r') := r.step v
    let s := s.onLane n fun l => { (l.chkAdd (patternBits r.pattern) wrong) with chkRef := if r'.lost then none else some r' }
    if r'.lost && s.on (F.HOSTLANE_CHK_CFG.LOCK n) then
      ((s.set (F.HOSTLANE_CHK_CFG.LOCK n) 0).bump (F.HOSTLANE_CHK_CFG.LOCK_LOSSES n)).laneEvent n 6
    else s

/-- Received symbols at the checker; a lock that a write dropped ends with them. -/
def State.chkRun (s : State) (n : Nat) (ball : List (Fin 4)) : State :=
  let (rx, s) := s.laneHears n ball
  let s := rx.foldl (fun s v => s.chkStep n v) s
  if s.on (F.HOSTLANE_CHK_CFG.LOCK n) then s else s.onLane n fun l => { l with chkRef := none }

/-- SNAPSHOT is asked for; one pending already has no further effect. -/
def State.chkSnap (s : State) (n : Nat) (clear : Bool) : State :=
  if s.on (F.HOSTLANE_CHK_CFG.SNAP_PENDING n) then s
  else (s.set (F.HOSTLANE_CHK_CFG.SNAP_PENDING n) 1).onLane n fun l => { l with chkClear := clear }

/-- The three counters are copied together, after the increments of the copy's cycle; `before` are the counters before it (R319). -/
def State.chkCopy (s : State) (n : Nat) (before : List Ctr48) : State :=
  if s.on (F.HOSTLANE_CHK_CFG.SNAP_PENDING n) then
    let shown := copied (s.lane n).chkClear before (s.lane n).chk
    let v (k : Nat) : Nat := (nth shown k {}).value
    let s := s.set48 (F.HOSTLANE_CHK_BITS_LO.VALUE n) (F.HOSTLANE_CHK_BITS_HI.VALUE n) (v 0)
    let s := s.set48 (F.HOSTLANE_CHK_ERR_BITS_LO.VALUE n) (F.HOSTLANE_CHK_ERR_BITS_HI.VALUE n) (v 1)
    let s := s.set48 (F.HOSTLANE_CHK_ERR_SYMS_LO.VALUE n) (F.HOSTLANE_CHK_ERR_SYMS_HI.VALUE n) (v 2)
    let s := (s.set (F.HOSTLANE_CHK_CFG.SNAP_PENDING n) 0).ovfMap (2 + n) shown
    (s.onLane n fun l => { l with chk := snapped l.chkClear l.chk }).laneEvent n 9
  else s

/-! ### Injector (R157) -/

/-- ACTIVE: a BURST or RATE runs. -/
def State.showInj (s : State) (n : Nat) : State :=
  s.setB (F.HOSTLANE_INJ_CTRL.ACTIVE n) ((s.lane n).burst.isSome || (s.lane n).rate)

/-- An injector command over a path; SINGLE, BURST and RATE_START are ignored while a BURST runs. -/
def State.injCommand (s : State) (path : Path) (n : Nat) (k : State → State) : State :=
  s.rwWrite path (R.HOSTLANE_INJ_CTRL n) fun s => if (s.lane n).burst.isSome then s else (k s).showInj n

/-- SINGLE: the next symbol is changed, once the transmitter sends one. -/
def State.injSingle (s : State) (n : Nat) : State := (s.onLane n fun l => { l with single := true }).singleRun n

/-- BURST: BURST_LEN symbols. -/
def State.injBurst (s : State) (n : Nat) : State :=
  s.onLane n fun l => { l with burst := some (s.get (F.HOSTLANE_INJ_CTRL.BURST_LEN n)) }

/-- RATE_START: the interval count starts anew. -/
def State.injRate (s : State) (n : Nat) : State := s.onLane n fun l => { l with rate := true, rateCount := 0 }

/-- Symbols sent while RATE runs: one of every INTERVAL is changed. -/
def State.rateSymbols (s : State) (n k : Nat) : State := if (s.lane n).rate then s.laneRun n k else s

/-- The last symbol of a BURST has been sent; a silent lane sends none, and its burst waits. -/
def State.burstEnd (s : State) (n : Nat) : State :=
  match (s.lane n).burst with
  | some left => if s.laneSilent n then s else ((s.laneRun n left).onLane n fun l => { l with burst := none }).showInj n
  | none => s

/-- STOP ends RATE or BURST; symbols already sent were changed. -/
def State.injStop (s : State) (n sent : Nat) : State :=
  let s := if (s.lane n).burst.isSome || (s.lane n).rate then s.laneRun n sent else s
  (s.onLane n fun l => { l with burst := none, rate := false }).showInj n

/-! ### Eye figures (R158) -/

/-- A lane in DATA publishes its figures. -/
def State.eyePublish (s : State) (n : Nat) (e : EyeFigures) (eq : LaneEq) : State :=
  if s.laneState n = 4 then
    let s := (s.setEq n eq).set (F.HOSTLANE_EYE_HEIGHT.VALID n) 1
    let s := s.setSat (F.HOSTLANE_EYE_HEIGHT.UPPER n) e.upper
    let s := s.setSat (F.HOSTLANE_EYE_HEIGHT.MIDDLE n) e.middle
    let s := s.setSat (F.HOSTLANE_EYE_HEIGHT.LOWER n) e.lower
    let s := s.setSat (F.HOSTLANE_EYE_WIDTH.WIDTH n) e.width
    (s.setSat (F.HOSTLANE_EYE_WIDTH.SNR n) e.snr).wrapAdd (F.HOSTLANE_EYE_WIDTH.SEQ n)
  else s

/-- LOOP_NEAR is written: a change acts as RETRAIN (R159). -/
def State.loopNear (s : State) (n : Nat) (v : Bool) : State :=
  if s.on (F.HOSTLANE_CTRL.LOOP_NEAR n) = v then s
  else (((s.onLane n fun l => { l with wire := [] }).setB (F.HOSTLANE_CTRL.LOOP_NEAR n) v).showIdle n).retrain n

/-- The lanes of a quad show their idle state again. -/
def State.showQuad (s : State) (q : Nat) : State := (List.range 4).foldl (fun s i => s.showIdle (4 * q + i)) s

/-! ### Meanings -/

/-- SIGNAL_DETECT (Table 7.2, R154). -/
def execSignalDetect (lane : Fin 16) (amplitude : Nat) (s : State) : Host.Outcome State Fault Refusal :=
  .next (s.signalFound lane amplitude)

/-- PARTNER_FRAME_MARKERS (Table 7.2). -/
def execPartnerFrameMarkers (lane : Fin 16) (s : State) : Host.Outcome State Fault Refusal := .next (s.markers lane)

/-- CDR_CONVERGED (Table 7.2, R149, R159). -/
def execCdrConverged (lane : Fin 16) (offset : Int) (eq : LaneEq) (s : State) : Host.Outcome State Fault Refusal :=
  .next (if s.laneState lane = 2 && !s.trains lane && s.cdrLocks lane (some offset) then s.laneUp lane 2 eq else s)

/-- DETECT_LIMIT_EXPIRED (Table 7.2, R149). -/
def execDetectLimitExpired (lane : Fin 16) (offset : Option Int) (eq : LaneEq) (s : State) : Host.Outcome State Fault Refusal :=
  .next (
    if s.laneState lane = 2 then
      if s.cdrLocks lane offset then s.laneUp lane 2 eq else (s.set (F.HOSTLANE_STATE.CDR_LOCK lane) 0).laneFail lane 6
    else s)

/-- TRAINING_DONE (Table 7.2). -/
def execTrainingDone (lane : Fin 16) (ms : Nat) (granted requested : Bool) (eq : LaneEq) (s : State) :
    Host.Outcome State Fault Refusal :=
  .next (if s.laneState lane = 3 then s.trained lane ms granted requested eq else s)

/-- TRAIN_LIMIT_EXPIRED (Table 7.2). -/
def execTrainLimitExpired (lane : Fin 16) (s : State) : Host.Outcome State Fault Refusal :=
  .next (if s.laneState lane = 3 then s.laneFail lane 1 else s)

/-- SIGNAL_LOST (Table 7.2, R154). -/
def execSignalLost (lane : Fin 16) (amplitude : Nat) (s : State) : Host.Outcome State Fault Refusal := .next (s.signalLost lane amplitude)

/-- IDLE_LIMIT_EXPIRED (Table 7.2). -/
def execIdleLimitExpired (lane : Fin 16) (s : State) : Host.Outcome State Fault Refusal :=
  .next (if s.laneState lane = 5 then s.signalGone lane 4 else s)

/-- WAKE_BURST (R154). -/
def execWakeBurst (lane : Fin 16) (heldUi : Nat) (s : State) : Host.Outcome State Fault Refusal :=
  .next (s.wakeBurst lane heldUi)

/-- OVERLONG_BURST (R154, violation 0x08). -/
def execOverlongBurst (lane : Fin 16) (s : State) : Host.Outcome State Fault Refusal :=
  .next (if s.laneState lane = 4 || s.laneState lane = 5 then s.laneViolation lane 8 else s)

/-- RETRAIN (Table 7.2). -/
def execRetrain (path : Path) (lane : Fin 16) (s : State) : Host.Outcome State Fault Refusal :=
  .next (s.rwWrite path (R.HOSTLANE_CTRL lane) fun s => s.retrain lane)

/-- FAILED_WAIT_EXPIRED (Table 7.2). -/
def execFailedWaitExpired (lane : Fin 16) (s : State) : Host.Outcome State Fault Refusal :=
  .next (if s.laneState lane = 6 then s.noSignal lane else s)

/-- HOLDOFF_EXPIRED (Table 7.2). -/
def execHoldoffExpired (lane : Fin 16) (s : State) : Host.Outcome State Fault Refusal :=
  .next (if s.laneState lane = 7 then s.noSignal lane else s)

/-- TX_IDLE_SET (R153). -/
def execTxIdleSet (path : Path) (lane : Fin 16) (s : State) : Host.Outcome State Fault Refusal :=
  .next (s.rwWrite path (R.HOSTLANE_TX_CFG lane) fun s => s.txIdle lane true)

/-- TX_IDLE_CLEAR (R153). -/
def execTxIdleClear (path : Path) (lane : Fin 16) (s : State) : Host.Outcome State Fault Refusal :=
  .next (s.rwWrite path (R.HOSTLANE_TX_CFG lane) fun s => s.txIdle lane false)

/-- QUAD_UNLOCK (R153, R163). -/
def execQuadUnlock (quad : Fin 4) (s : State) : Host.Outcome State Fault Refusal :=
  .next ((((s.set ⟨R.HOSTLANE_QUAD_STATUS, quad, quad⟩ 0).showQuad quad).raiseEvent 0x10 (16 + quad) (0x10A0 + quad)))

/-- QUAD_RELOCK (R153): wake bursts that waited for the lock are sent. -/
def execQuadRelock (quad : Fin 4) (s : State) : Host.Outcome State Fault Refusal :=
  .next (
    let s := (s.set ⟨R.HOSTLANE_QUAD_STATUS, quad, quad⟩ 1).showQuad quad
    (List.range 4).foldl (fun s i => if (s.lane (4 * quad + i)).wakeOwed then s.wakeSend (4 * quad + i) else s) s)

/-- PARTNER_COEFF_REQUEST (R150). -/
def execPartnerCoeffRequest (lane : Fin 16) (req : CoeffRequest) (s : State) : Host.Outcome State Fault Refusal :=
  .next (s.coeffRequest lane req)

/-- TX_FFE_WRITE (R147). -/
def execTxFfeWrite (path : Path) (lane : Fin 16) (post : Bool) (value : Word) (s : State) : Host.Outcome State Fault Refusal :=
  .next (s.rwWrite path (R.HOSTLANE_TX_FFE_PRE lane) fun s => s.ffeWrite lane post value)

/-- PRECODE_WRITE (R146). -/
def execPrecodeWrite (path : Path) (lane : Fin 16) (receive value : Bool) (s : State) : Host.Outcome State Fault Refusal :=
  .next (s.rwWrite path (R.HOSTLANE_TX_CFG lane) fun s => s.precodeWrite lane receive value)

/-- CHECKER_LOCK (R156): an enabled checker without lock, of a lane that delivers symbols, takes its reference from them. -/
def execCheckerLock (lane : Fin 16) (counted rx : List (Fin 4)) (s : State) : Host.Outcome State Fault Refusal :=
  .next (
    let s := s.chkRun lane counted
    if s.on (F.HOSTLANE_CHK_CFG.CHK_EN lane) && !s.on (F.HOSTLANE_CHK_CFG.LOCK lane) && (s.laneState lane = 4 || s.laneState lane = 5) then
      let (rx, s) := s.laneHears lane rx
      match chkLockOn (s.get (F.HOSTLANE_CHK_CFG.PATTERN lane)) (rx.map (·.val)) with
      | some r => (s.onLane lane fun l => { l with chkRef := some r }).set (F.HOSTLANE_CHK_CFG.LOCK lane) 1
      | none => s
    else s)

/-- CHK_LOCK_LOST (R156). -/
def execChkLockLost (lane : Fin 16) (rx : List (Fin 4)) (s : State) : Host.Outcome State Fault Refusal :=
  .next (s.chkRun lane rx)

/-- CHK_SNAPSHOT (R156). -/
def execChkSnapshot (path : Path) (lane : Fin 16) (clear : Bool) (s : State) : Host.Outcome State Fault Refusal :=
  .next (s.rwWrite path (R.HOSTLANE_CHK_CFG lane) fun s => s.chkSnap lane clear)

/-- CHK_SNAPSHOT_COPY (R156): `now` are the symbols of the copy's cycle. -/
def execChkSnapshotCopy (lane : Fin 16) (rx now : List (Fin 4)) (s : State) : Host.Outcome State Fault Refusal :=
  let s := s.chkRun lane rx
  .next ((s.chkRun lane now).chkCopy lane (s.lane lane).chk)

/-- INJ_SINGLE (R157). -/
def execInjSingle (path : Path) (lane : Fin 16) (s : State) : Host.Outcome State Fault Refusal :=
  .next (s.injCommand path lane fun s => s.injSingle lane)

/-- INJ_BURST (R157). -/
def execInjBurst (path : Path) (lane : Fin 16) (s : State) : Host.Outcome State Fault Refusal :=
  .next (s.injCommand path lane fun s => s.injBurst lane)

/-- INJ_BURST_END (R157). -/
def execInjBurstEnd (lane : Fin 16) (s : State) : Host.Outcome State Fault Refusal :=
  .next (s.burstEnd lane)

/-- INJ_RATE_START (R157). -/
def execInjRateStart (path : Path) (lane : Fin 16) (s : State) : Host.Outcome State Fault Refusal :=
  .next (s.injCommand path lane fun s => s.injRate lane)

/-- INJ_RATE_INTERVAL (R157). -/
def execInjRateInterval (lane : Fin 16) (symbols : Nat) (s : State) : Host.Outcome State Fault Refusal :=
  .next (s.rateSymbols lane symbols)

/-- INJ_STOP (R157). -/
def execInjStop (path : Path) (lane : Fin 16) (sent : Nat) (s : State) : Host.Outcome State Fault Refusal :=
  .next (s.rwWrite path (R.HOSTLANE_INJ_CTRL lane) fun s => s.injStop lane sent)

/-- EYE_PUBLISH (R158). -/
def execEyePublish (lane : Fin 16) (eye : EyeFigures) (eq : LaneEq) (s : State) : Host.Outcome State Fault Refusal :=
  .next (s.eyePublish lane eye eq)

/-- LOOP_NEAR_WRITE (R159). -/
def execLoopNearWrite (path : Path) (lane : Fin 16) (value : Bool) (s : State) : Host.Outcome State Fault Refusal :=
  .next (s.rwWrite path (R.HOSTLANE_CTRL lane) fun s => s.loopNear lane value)

end Sys2Proof.Machine
end

