-- ==== Sys2Proof/Machine/PowerOps.lean ====
section
/-!
DEFINITION. Power operations that other chapters use (chapter 16): performance levels (R330), AVS requests (R331), what a sleep
state loses (R325), and the domain states (Table 16.3).
-/
namespace Sys2Proof.Machine

/-! ### Performance levels (R330) -/

/-- The level in force. -/
def State.level (s : State) : Nat := s.get F.PWR_PL.APPLIED

/-- A level change towards `REQUEST` starts, unless one runs or nothing changes: a slower level takes the divider first (R330). -/
def State.plStart (s : State) : State :=
  let target := s.get F.PWR_PL.REQUEST
  if s.on F.PWR_PL.BUSY || target = s.level then s
  else
    let s := (s.set F.PWR_PL.BUSY 1).onPower fun w => { w with plTarget := target, plFails := 0, plGap := false }
    let s := if s.level < target then s.set F.PWR_PL.APPLIED target else s
    s.avsAsk 0 .level

/-- REQUEST is written, clamped to MIN: acted on at once, or next while BUSY (R330). -/
def State.plRequest (s : State) (level : Nat) : State :=
  (s.set F.PWR_PL.REQUEST (min level (s.get F.PWR_PL.MIN))).plStart

/-- MIN and REQUEST load from a plan (R17, R330). -/
def State.plLoad (s : State) (minPl request : Nat) : State := (s.set F.PWR_PL.MIN minPl).plRequest request

/-- The voltage of a level change is done: the level is in force, PL_DONE is raised, and a REQUEST stored meanwhile is acted on. -/
def State.plDone (s : State) : State :=
  (((s.set F.PWR_PL.APPLIED s.power.plTarget).set F.PWR_PL.BUSY 0).raise 0x22 4).plStart

/-- The AVS step of a level change failed: three retries 10 ms apart, then PL_FAIL; a REQUEST stored meanwhile is acted on. -/
def State.plFailed (s : State) : State :=
  if s.power.plFails < 3 then s.onPower fun w => { w with plFails := w.plFails + 1, plGap := true }
  else
    let tried := s.power.plTarget
    let s := (s.set F.PWR_PL.BUSY 0).raiseEvent 0x22 1 0x2202
    if s.get F.PWR_PL.REQUEST = tried then s else s.plStart

/-- The 10 ms gap of a level change ends: its AVS step is asked for again. -/
def State.plRetry (s : State) : State :=
  if s.power.plGap then (s.onPower fun w => { w with plGap := false }).avsAsk 0 .level else s

/-! ### What sleep loses (R325, Table 16.2) -/

/-- A register word after REST or OFF: RW and RWS fields kept or at reset; status, counters and flags 0. -/
def Row.slept (r : Row) (off : Bool) (w : Word) : Word :=
  r.fields.foldl (fun acc f =>
    match f.acc with
    | .rw | .rws => if off then withBits acc f.hi f.lo (bitsOf (BitVec.ofNat 32 r.reset) f.hi f.lo) else acc
    | _ => withBits acc f.hi f.lo 0) w

/-- The registers of a domain after REST or OFF; header registers are kept. What self-test found of the FEC engines stays;
Plough and its tasks resume from REST, and restart on the image after OFF, with the tasks loaded as they were. -/
def State.regsSlept (s : State) (d : Nat) (off : Bool) : State :=
  let kept (a : Nat) (w : Word) : Word :=
    match rowAt a with
    | none => w
    | some r =>
      let x := r.slept off w
      if a = R.FEC_CFG .A ∨ a = R.FEC_CFG .B then withBits x 19 16 (bitsOf w 19 16)
      else if a = R.CPU_STATUS then
        (if off then (if bitsOf w 10 8 = 0 ∨ bitsOf w 10 8 = 4 then w else withBits (withBits w 10 8 1) 7 4 0) else w)
      else if R.CPU_TASK 0 ≤ a ∧ a ≤ R.CPU_TASK 7 then (if off then w &&& 0xA0000000 else w)
      else if a = R.FEC_ENGINES .A ∨ a = R.FEC_ENGINES .B then withBits x 28 16 (bitsOf w 28 16)
      else x
  { s with regs := s.regs.foldl (fun st p =>
      if holdingDomain p.1 = d && !isHeader p.1 then Store.write resetWord st p.1 (kept p.1 p.2) else st) s.regs }

/-- The quad's transmit PLL locks or loses lock; its lanes show idle accordingly (R144). -/
def State.quadPll (s : State) (q : Nat) (v : Bool) : State :=
  let s := s.setB ⟨R.HOSTLANE_QUAD_STATUS, q, q⟩ v
  (List.range 4).foldl (fun s i => s.showIdle (4 * q + i)) s

/-- Carriers with bound furrows in a furrow group domain. -/
def State.carriersIn (s : State) (d : Nat) : List Carrier :=
  [Carrier.A, .B].filter (fun c => s.plan.bound.any (fun b => b.carrier = c && b.furrows.any (fun f => 6 + f / 8 = d)))

/-- The adaptive and datapath state that a domain loses in REST or OFF. -/
def State.stateSlept (s : State) (d : Nat) : State :=
  if d = 4 ∨ d = 5 then
    (s.onRx (Carrier.ofIdx (d - 4)) fun r => { r with dark := 0, lit := [0, 0, 0, 0] }).onTx (Carrier.ofIdx (d - 4)) fun x => { x with ramp := 0 }
  else if 6 ≤ d ∧ d ≤ 18 then (s.carriersIn d).foldl State.clearAdaptive s
  else if d = 19 ∨ d = 20 then s.onLine (Carrier.ofIdx (d - 19)) fun l => { l with counting := false, live := [{}, {}, {}, {}], snap := none }
  else if 21 ≤ d ∧ d ≤ 24 then
    let s := (List.range 4).foldl (fun s i => s.onLane (4 * (d - 21) + i) fun _ => {}) s
    s.quadPll (d - 21) false
  else if d = 25 then (List.range 16).foldl (fun s p => s.onPort p fun _ => {}) s
  else s

/-- The cores' CSRs are lost when their domain goes OFF, and read as after reset (Table 16.2, log 55). -/
def State.coresLost (s : State) (d st : Nat) : State :=
  if d = 3 ∧ st = 0 then { s with glean := { s.glean with cores := s.glean.cores.map fun x => { psLeft := x.psLeft } } } else s

/-- A domain enters a sleep state: 0 OFF, 1 REST, 2 DOZE (Table 16.3). With both line domains in REST or OFF, VDD_CONV goes to
standby (R322). -/
def State.sleepDomain (s : State) (d st : Nat) : State :=
  let s := s.set (F.PWR_DOM_STATUS.STATE d) st
  if st = 2 then s
  else
    let s := (((s.stateSlept d).regsSlept d (st = 0)).coresLost d st).lapEnd s.mem.lapMs
    if (d = 4 ∨ d = 5) ∧ s.domState 4 ≤ 1 ∧ s.domState 5 ≤ 1 ∧ !s.power.standby then
      (s.onPower fun w => { w with standby := true }).avsAsk 1 .standby
    else s

/-! ### Wakes (Table 16.3) -/

/-- Whether a memory word lies in a domain (Table 13.1) and is not retained: regions 0 to 3. -/
def wordLost (d key : Nat) : Bool :=
  match key / 2 ^ 20 with
  | 0 => d = 19
  | 1 => d = 20
  | 2 => d = 6 + key % 2 ^ 20 / 0x8000
  | 3 => d = 25
  | _ => false

/-- A domain that returns from REST or OFF finds its words initialised, and the harrow starts its regions anew (R255, R260). -/
def State.wordsInit (s : State) (d : Nat) : State :=
  let region : Option Nat := if d = 19 then some 0 else if d = 20 then some 1 else if 6 ≤ d ∧ d ≤ 18 then some 2 else if d = 25 then some 3 else none
  match region with
  | none => s
  | some r => { s with mem := { s.mem with words := s.mem.words.filter (fun p => !wordLost d p.1), next := s.mem.next.set r 0 } }

/-- A decoder that returns from REST or OFF has lost its block alignment: with frame alignment held it waits for the next good FEC_PTR (R325). -/
def State.decoderAnew (s : State) (d : Nat) : State :=
  if d = 19 ∨ d = 20 then
    let c := Carrier.ofIdx (d - 19)
    let aligned : Bool := s.get (F.LINK_ALIGN_STATUS.STATE c) = 2
    (s.onLine c fun l =>
      { l with awaitPtr := aligned, decPos := 0, decFrame := 0, decErr := false, decCorr := 0, decBlock := 0, seen := 0, frameLog := [] }).set
        (F.FEC_STATUS.ALIGNED c) 0
  else s

/-- Withdraws a domain's AVS request. -/
def State.avsDrop (s : State) (d : Nat) : State :=
  let t := s.onPower fun w => { w with avs := w.avs.filter (fun q => q.2 ≠ .wake d) }
  (t.avsServe 0 (s.avsFront 0)).avsServe 1 (s.avsFront 1)

/-- Whether step 1 of a domain's wake still waits for its voltage (R327). -/
def State.voltPending (s : State) (d : Nat) : Bool := s.power.avs.any (fun q => q.2 = .wake d)

/-- The latched wake events of a domain are delivered in order of arrival, and WAKE_REPLAYED raised (R329). -/
def State.replay (s : State) (d : Nat) : State :=
  let mine := s.power.latched.filter (fun w => s.get (F.PWR_WAKE_MAP.DOMAIN w.source) = d)
  if mine.isEmpty then s
  else
    let s := s.onPower fun w => { w with latched := w.latched.filter (fun x => !mine.contains x) }
    let s := mine.foldl (fun s w => (s.deliver w).setB ⟨R.PWR_WAKE_LATCH, w.source, w.source⟩ false) s
    s.raise 0x22 3

/-- A domain is taken through OFF, and wakes again if votes remain and it has not failed (R334). -/
def State.domainOff (s : State) (d : Nat) : State :=
  let s := (s.avsDrop d).onPower fun w =>
    { w with dropTimers := w.dropTimers.filter (· ≠ d), gaps := w.gaps.filter (· ≠ d), resets := w.resets.filter (· ≠ d) }
  let s := s.sleepDomain d 0
  if s.get (F.PWR_VOTE.VOTES d) ≠ 0 then s.wakeDomain d else s

/-- A RESET that waited for the end of a wake is acted on (R337). -/
def State.resetNow (s : State) (d : Nat) : State := if s.power.resets.contains d then s.domainOff d else s

/-- A wake's sequence is complete: ON, latched events replayed, and the drop timer started if no vote remains (Table 16.3). It cannot
complete before its step 1 has, nor in the gap between two attempts. -/
def State.wakeDone (s : State) (d : Nat) : State :=
  if s.domState d ≠ 4 || s.voltPending d || s.power.gaps.contains d then s
  else
    let s := s.set (F.PWR_DOM_STATUS.STATE d) 3
    let s := (if Store.read (fun _ => 0) s.power.wakingFrom d = 2 then s else (s.wordsInit d).decoderAnew d).memResume
    let s := if 21 ≤ d ∧ d ≤ 24 then s.quadPll (d - 21) true else s
    let s := s.replay d
    let s := if s.get (F.PWR_VOTE.VOTES d) = 0 then s.onPower fun w => { w with dropTimers := d :: w.dropTimers } else s
    s.resetNow d

/-- A wake step failed: the 10 ms gap before the next attempt, or after the fourth attempt FAILED (R328). -/
def State.wakeFail (s : State) (d cause : Nat) : State :=
  if s.domState d ≠ 4 then s
  else
    let n := s.get (F.PWR_DOM_STATUS.ATTEMPTS d)
    let s := s.avsDrop d
    if n < 4 then s.onPower fun w => { w with gaps := d :: w.gaps.filter (· ≠ d) }
    else
      let s := (s.set (F.PWR_DOM_STATUS.FAILED d) 1).set (F.PWR_DOM_STATUS.CAUSE d) cause
      let s := s.sleepDomain d (if Store.read (fun _ => 0) s.power.wakingFrom d = 0 then 0 else 1)
      let s := ((s.set F.PWR_FAIL.DOMAIN d).set F.PWR_FAIL.CAUSE cause).set F.PWR_FAIL.ATTEMPTS n
      let s := ((s.bump F.PWR_FAIL.FAILS).raise 0x22 0).detected (0x2210 + cause) none
      s.resetNow d

/-- The 10 ms gap ends: one attempt more, and the sequence restarts (Table 16.3). -/
def State.wakeAgain (s : State) (d : Nat) : State :=
  if s.domState d = 4 && s.power.gaps.contains d then
    let s := s.onPower fun w => { w with gaps := w.gaps.filter (· ≠ d) }
    (s.set (F.PWR_DOM_STATUS.ATTEMPTS d) (s.get (F.PWR_DOM_STATUS.ATTEMPTS d) + 1)).wakeSequence d
  else s

/-! ### AVS (R331) -/

/-- The port's request is over; the next one writes its voltage. -/
def State.avsPop (s : State) (p : Nat) : State :=
  (s.onPower fun w => { w with avs := w.avs.eraseP (fun q => q.1 = p) }).avsServe p none

/-- Voltage-done: the reading is recorded, and the waiting request goes on. -/
def State.avsDone (s : State) (p mv : Nat) : State :=
  match s.avsFront p with
  | none => s
  | some r =>
    let s := (s.set (F.PWR_AVS.MV p) mv).avsPop p
    match r with
    | .level => s.plDone
    | _ => s

/-- The port's request failed: 1 AVS_NOACK, 2 AVS_NAK. -/
def State.avsFail (s : State) (p cause : Nat) : State :=
  match s.avsFront p with
  | none => s
  | some r =>
    let s := (s.bump (if cause = 1 then F.PWR_AVS.NOACKS p else F.PWR_AVS.NAKS p)).avsPop p
    match r with
    | .level => s.plFailed
    | .wake d => s.wakeFail d cause
    | .standby => s

/-- A wake step fails (R327): step 1 as the request that its rail's port serves, steps 3 and 4 once the voltage is done. No other step can
fail then, and none in the gap between two attempts. -/
def State.wakeStepFail (s : State) (d cause : Nat) : State :=
  match avsPort d with
  | some p =>
    if s.avsFront p = some (.wake d) then (if cause ≤ 2 then s.avsFail p cause else s)
    else if s.voltPending d || cause ≤ 2 || s.power.gaps.contains d then s
    else s.wakeFail d cause
  | none => if cause ≤ 2 || s.power.gaps.contains d then s else s.wakeFail d cause

end Sys2Proof.Machine
end

