-- ==== Sys2Proof/Machine/BistOps.lean ====
section
/-!
DEFINITION. Self-test and repair (chapter 18): the test units (R354), their results (R356), repair (R358), what the boot takes
from them (R360, R362), and the fault log's acknowledgement (R366).
-/
namespace Sys2Proof.Machine

/-- Updates self-test's internal state. -/
def State.onBist (s : State) (f : BistSt → BistSt) : State := { s with bist := f s.bist }

/-! ### Test units (R354, Table 18.1) -/

/-- Arrays of each region, in unit order. -/
def regionArrays : List Nat := [128, 128, 104, 128, 128, 8, 64, 64, 16]

/-- The region of an array. -/
def arrayRegion (a : Nat) : Nat :=
  if a < 128 then 0 else if a < 256 then 1 else if a < 360 then 2 else if a < 488 then 3 else if a < 616 then 4
  else if a < 624 then 5 else if a < 688 then 6 else if a < 752 then 7 else 8

/-- The region of a spare array's unit, in the order Table 18.1 lists them. -/
def spareRegion (u : Nat) : Nat := nth [0, 0, 1, 1, 3, 3, 4, 4, 6, 6, 7, 7, 5, 8] (u - 902) 8

/-- The region that a memory unit belongs to. -/
def unitRegion (u : Nat) : Nat := if u < 902 then arrayRegion (u - 134) else spareRegion u

/-- Whether a unit is a memory array. -/
def isMemory (u : Nat) : Bool := 134 ≤ u

/-- The domain of a memory array (Table 13.1). -/
def arrayDomain (u : Nat) : Nat :=
  match unitRegion u with
  | 0 => 19
  | 1 => 20
  | 2 => 6 + (u - 134 - 256) / 8
  | 3 => 25
  | 5 => 1
  | _ => 2

/-- The domain that a unit lies in. -/
def unitDomain (u : Nat) : Nat :=
  if u < 104 then 6 + u / 8 else if u < 117 then 19 else if u < 130 then 20 else if u < 134 then 3 else arrayDomain u

/-- The planned count of a unit (Table 18.1). -/
def planned (quick : Bool) (u : Nat) : Nat :=
  if isMemory u then (if quick then 40960 else 360448)
  else if 104 ≤ u ∧ u < 130 then (if quick then 2 ^ 14 else 2 ^ 18)
  else if quick then 2 ^ 16 else 2 ^ 20

/-! ### Results (R356) -/

/-- The result code of a test: a mismatch fails whatever the count. -/
def judge (plan count : Nat) (bad : Bool) : Nat := if bad then 2 else if plan ≤ count then 1 else 3

/-- An entry with a new result; IN_SERVICE_FAIL is kept (R361). -/
def entryWith (old : Word) (result source count : Nat) : Word :=
  withBits (withBits (withBits old 31 30 result) 27 26 source) 24 0 (min (2 ^ 25 - 1) count)

/-- Result of an entry. -/
def entryResult (w : Word) : Nat := bitsOf w 31 30

/-- A unit's entry in a record. -/
def BistRecord.entry (r : BistRecord) (u : Nat) : Word := Store.read (fun _ => 0) r.units u

/-- A record with a unit's entry replaced. -/
def BistRecord.put (r : BistRecord) (u : Nat) (w : Word) : BistRecord := { r with units := Store.write (fun _ => 0) r.units u w }

/-! ### Repair (R358) -/

/-- Whether a spare array may take an array's place: of its region, not assigned, and not failing. -/
def BistRecord.spareFor (r : BistRecord) (a : Nat) : Option Nat :=
  ((List.range 14).map (902 + ·)).find? fun u =>
    spareRegion u = arrayRegion a && !(r.spares.any (fun q => q.2 = u)) && entryResult (r.entry u) ≠ 2

/-- An array is replaced whole, or is beyond repair. -/
def BistRecord.replaceArray (r : BistRecord) (a : Nat) : BistRecord :=
  let r := { r with soft := r.soft.filter (fun q => q.1 ≠ a), spares := r.spares.filter (fun q => q.1 ≠ a) }
  match r.spareFor a with
  | some u => { r with spares := r.spares ++ [(a, u)] }
  | none => { r with beyond := if r.beyond.contains a then r.beyond else r.beyond ++ [a] }

/-- The rows of a memory unit's mismatches. -/
def badRows (bad : List Word) : List Nat := (bad.map (fun w => bitsOf w 22 16)).eraseDups

/-- The repair of a failing array: up to two rows by spare rows, else the array by a spare array. A row that fails again under its
repair, or a spare row that fails, takes the array; so does a failing spare array that is in use. -/
def BistRecord.repair (r : BistRecord) (u : Nat) (bad : List Word) (spareBad : Bool) : BistRecord :=
  if u < 134 then r
  else if 902 ≤ u then
    match r.spares.find? (fun q => q.2 = u) with
    | some (a, _) => r.replaceArray a
    | none => r
  else
    let a := u - 134
    let had := (r.soft.filter (fun q => q.1 = a)).map (·.2)
    let rows := badRows bad
    if spareBad || rows.any (fun x => had.contains x) || 2 < had.length + rows.length || r.spares.any (fun q => q.1 = a) then r.replaceArray a
    else { r with soft := r.soft ++ rows.map (fun x => (a, x)) }

/-- One unit's report judged into a record, with its repair and its failing reports. -/
def BistRecord.take (r : BistRecord) (quick : Bool) (source : Nat) (rep : BistReport) : BistRecord :=
  let u := rep.unit.val
  let failed := !rep.bad.isEmpty || rep.spareBad
  let r := r.put u (entryWith (r.entry u) (judge (planned quick u) rep.count failed) source rep.count)
  let r := { r with reports := (r.reports ++ rep.bad.map (fun w => (u, w))).take 16 }
  if failed then r.repair u rep.bad rep.spareBad else r

/-- A unit that reached its planned count without a mismatch. -/
def BistRecord.pass (r : BistRecord) (quick : Bool) (source u : Nat) : BistRecord :=
  r.put u (entryWith (r.entry u) 1 source (planned quick u))

/-- A unit whose test never started; its previous repairs stay. -/
def BistRecord.untested (r : BistRecord) (source u : Nat) : BistRecord := r.put u (entryWith (r.entry u) 0 source 0)

/-- A run over some units: reports decide the units they name; the rest pass, or were never started. -/
def BistRecord.run (r : BistRecord) (quick : Bool) (source : Nat) (units : List Nat) (reports : List BistReport) (restPass : Bool) :
    BistRecord :=
  let r := (reports.filter (fun p => units.contains p.unit.val)).foldl (fun r p => r.take quick source p) r
  (units.filter (fun u => !reports.any (fun p => p.unit.val = u))).foldl
    (fun r u => if restPass then r.pass quick source u else r.untested source u) r

/-- Raises a BIST bit with its event code, if it has one (R371). -/
def State.bistRaise (s : State) (b : Nat) : State := if b = 1 || b = 4 then s.raise 0x24 b else s.raiseEvent 0x24 b (0x2401 + b)

/-- The failing reports of the latest run (R369). -/
def State.showReports (s : State) (r : BistRecord) : State :=
  (List.range 16).foldl (fun s k =>
    match r.reports[k]? with
    | some (u, w) => (s.wr (R.BIST_FAIL_UNIT k) (BitVec.ofNat 32 (2 ^ 31 + u))).wr (R.BIST_FAIL_WHERE k) w
    | none => (s.wr (R.BIST_FAIL_UNIT k) 0).wr (R.BIST_FAIL_WHERE k) 0) s

/-- Units of a list with a result in a record. -/
def BistRecord.withResult (r : BistRecord) (units : List Nat) (results : List Nat) : List Nat :=
  units.filter (fun u => results.contains (entryResult (r.entry u)))

/-! ### The full test (R355) -/

/-- The source of the run in progress: 2 on command, else 0. -/
def State.bistSource (s : State) : Nat := if s.power.shutRun then 2 else 0

/-- The units under test: those whose domain has not failed to wake. -/
def State.underTest (s : State) : List Nat := (List.range 916).filter (fun u => !s.on (F.PWR_DOM_STATUS.FAILED (unitDomain u)))

/-- The domains that a BIST holds awake with Hedge's vote. -/
def bistDomains : List Nat := (List.range 23).map (3 + ·)

/-- A BIST starts: Hedge votes for what it tests, and the AON result registers start a run in which nothing has been tested. -/
def State.bistStart (s : State) : State :=
  let src := s.bistSource
  let base := { s.results with reports := [] }
  let s := s.onBist fun b => { b with aon := some ((List.range 916).foldl (fun r u => r.untested src u) base), judged := [] }
  let s := (s.set F.BIST_STATUS.STATE 1).set F.BIST_STATUS.SOURCE src
  bistDomains.foldl (fun s d => s.vote d 0 true) s

/-- A unit is stopped at twice its planned time, and judged (R355); one of logic shows that the run has come to LOGIC. -/
def State.bistStop (s : State) (rep : BistReport) : State :=
  if s.bistRuns && s.underTest.contains rep.unit.val && !s.bist.judged.contains rep.unit.val then
    (if rep.unit.val < 134 then s.set F.BIST_STATUS.STATE 2 else s).onBist fun b =>
      { b with aon := b.aon.map (fun r => r.take false s.bistSource rep), judged := rep.unit.val :: b.judged }
  else s

/-- The AON result registers of a run: units that reports name, the rest passing or never started. -/
def State.bistHold (s : State) (reports : List BistReport) (restPass : Bool) : State :=
  let units := s.underTest.filter (fun u => !s.bist.judged.contains u)
  let src := s.bistSource
  s.onBist fun b => { b with aon := b.aon.map (fun r => r.run false src units reports restPass), judged := [] }

/-- The full BIST finishes: its results are held, Hedge's votes released, the failing units and an incomplete run reported. -/
def State.bistEnd (s : State) (reports : List BistReport) : State :=
  let s := s.bistHold reports true
  let r := s.results
  let s := (s.showReports r).set F.BIST_STATUS.STATE 3
  let s := (r.withResult (List.range 916) [2]).foldl State.unitFail s
  let s := if (r.withResult (List.range 916) [0, 3]).isEmpty then s else s.bistRaise 0
  bistDomains.foldl (fun s d => s.vote d 0 false) s

/-- The results are written to the seed store; a copy whose read-back differs leaves the previous record (R345, R362). -/
def State.bistWritten (s : State) (same : Bool) : State :=
  let s := s.set F.BIST_STATUS.STATE 0
  s.onBist fun b =>
    match b.aon with
    | none => b
    | some r => if same then { b.store r with aon := none } else b.cut

/-! ### Boot (R357, R358, R360) -/

/-- The units that the quick test runs on: latest result INCOMPLETE or UNTESTED, but region 5. -/
def State.quickUnits (s : State) : List Nat :=
  (s.results.withResult (List.range 916) [0, 3]).filter (fun u => !(isMemory u && unitRegion u = 5))

/-- The quick test at boot: nothing without units; its results are merged and written to the record. -/
def State.quickTest (s : State) (reports : List BistReport) (ms : Nat) : State :=
  let units := s.quickUnits
  if units.isEmpty then s
  else
    let r := ({ s.results with reports := [] }).run true 1 units reports true
    let s := s.onBist fun b => { b.store r with aon := none }
    let s := ((s.showReports r).setSat F.BIST_STATUS.QUICK_MS ms).set F.BIST_STATUS.SOURCE 1
    let s := (r.withResult units [2]).foldl State.unitFail (s.bistRaise 1)
    if (r.withResult (List.range 916) [0, 3]).isEmpty then s else s.bistRaise 0

/-- Whether a unit is fallow (R360). -/
def State.fallow (s : State) (u : Nat) : Bool :=
  let r := s.results
  entryResult (r.entry u) = 2 || s.inServiceFail u || s.bist.fallowFuses.contains u
    || (u < 104 && r.beyond.contains (256 + u))

/-- A bit mask of some numbers. -/
def maskOf (ns : List Nat) : Nat := (ns.map (2 ^ ·)).foldl (· + ·) 0

/-- `BIST_REPAIR` (R369). -/
def State.showRepair (s : State) : State :=
  let r := s.results
  let s := s.setSat F.BIST_REPAIR.SOFT_ROWS (r.soft.filter (fun q => !s.bist.rowFuses.contains q)).length
  let s := s.set F.BIST_REPAIR.SPARE_ARRAYS r.spares.length
  (s.set F.BIST_REPAIR.ROW_FREE (64 - s.bist.rowFuses.length)).set F.BIST_REPAIR.FALLOW_FREE (32 - s.bist.fallowFuses.length)

/-- Engines that a carrier's decoder can use: none once its region is beyond repair (Table 18.3). -/
def State.engineCount (s : State) (c : Carrier) : Nat :=
  if s.bist.lost.contains c.idx then 0 else ((List.range 13).filter (fun e => !s.fallow (104 + 13 * c.idx + e))).length

/-- Boot takes the fallow set: `BIST_FALLOW_*`, `BIST_REPAIR`, `GLOBAL_CAPABILITY` and the FAILED engines; cases of Table 18.3 are
applied and reported (R360). -/
def State.fallowSet (s : State) : State :=
  let r := s.results
  let lost := (((r.beyond.map arrayRegion).filter (· ≠ 2)).eraseDups)
  let s := s.onBist fun b => { b with lost := lost }
  let fallow := (List.range 134).filter s.fallow
  let s := (List.range 4).foldl (fun s k =>
    s.wr (R.BIST_FALLOW k) (BitVec.ofNat 32 (maskOf (((fallow.filter (· < 104)).filter (fun f => f / 32 = k)).map (· % 32))))) s
  let eng (c : Carrier) : List Nat := (List.range 13).filter (fun e => fallow.contains (104 + 13 * c.idx + e))
  let s := (s.set F.BIST_FALLOW_OTHER.FEC_A (maskOf (eng .A))).set F.BIST_FALLOW_OTHER.FEC_B (maskOf (eng .B))
  let cores := (List.range 4).filter (fun c => fallow.contains (130 + c))
  let s := s.set F.BIST_FALLOW_CORES.CORES (maskOf cores)
  let s := [Carrier.A, Carrier.B].foldl (fun s c =>
    (s.set (F.FEC_ENGINES.FAILED c) (maskOf (eng c))).set (F.FEC_CFG.HEALTHY c) (s.engineCount c)) s
  let good := 104 - (fallow.filter (· < 104)).length
  let s := (s.set F.GLOBAL_CAPABILITY.HEALTHY_FURROWS good).set F.GLOBAL_CAPABILITY.ACTIVE_LIMIT (min 96 good)
  let s := (s.set F.GLOBAL_CAPABILITY.FEC_A_ENGINES (s.engineCount .A)).set F.GLOBAL_CAPABILITY.FEC_B_ENGINES (s.engineCount .B)
  let s := (s.set F.GLOBAL_CAPABILITY.PLOUGH_CORES (4 - cores.length)).showRepair
  if r.beyond.isEmpty then s else s.bistRaise 3

/-! ### Fuses (R359) -/

/-- Soft row repairs not yet fused, in ascending order of array. -/
def State.unfused (s : State) : List (Nat × Nat) :=
  let soft := s.results.soft.filter (fun q => !s.bist.rowFuses.contains q)
  (List.range 768).flatMap (fun a => soft.filter (fun q => q.1 = a))

/-- The fuse command in progress has burnt its entries. -/
def State.fused (s : State) : State :=
  match s.bist.fusing with
  | none => s
  | some (rows, units) =>
    let s := s.onBist fun b =>
      { b with rowFuses := b.rowFuses ++ rows, fallowFuses := b.fallowFuses ++ units, fusing := none }
    ((if s.get F.BIST_STATUS.STATE = 4 then s.set F.BIST_STATUS.STATE 0 else s).showRepair).bistRaise 4

/-- Starts burning fuses; none free burns nothing and raises REPAIR_FULL. HARD_REPAIR burns as many as are free. STATE shows a self-test
in progress before the fuses. -/
def State.fuse (s : State) (rows : List (Nat × Nat)) (units : List Nat) : State :=
  let freeRows := 64 - s.bist.rowFuses.length
  let freeUnits := 32 - s.bist.fallowFuses.length
  if (!rows.isEmpty && freeRows = 0) || (!units.isEmpty && freeUnits = 0) then s.bistRaise 5
  else (s.onBist fun b => { b with fusing := some (rows.take freeRows, units.take freeUnits) }).set F.BIST_STATUS.STATE
    (if s.get F.BIST_STATUS.STATE = 0 then 4 else s.get F.BIST_STATUS.STATE)

/-- Commands on BIST_CTRL ignored (Table 18.5). -/
def State.bistIgnored (s : State) : State := s.bump F.BIST_STATUS.IGNORED

/-- The least role of a self-test command in a life-cycle state (Table 14.10); none where the state does not allow it. -/
def bistRole (lc : Nat) (mayMaker : Bool) : Option Nat :=
  match lc with
  | 0 => some 4
  | 1 => if mayMaker then some 2 else none
  | 3 => some 3
  | _ => none

/-- The life-cycle state (R300). -/
def State.lifeCycle (s : State) : Nat := s.get F.SEC_LC.STATE

/-- A self-test command, where the state and the session's role allow it; else discarded and counted (R369). -/
def State.bistCommand (s : State) (p : Path) (mayMaker : Bool) (k : State → State) : State :=
  match bistRole s.lifeCycle mayMaker with
  | some least => s.rwsWrite p R.BIST_CTRL least k
  | none =>
    if s.unheard p true then s.unanswered p
    else if s.isDown R.BIST_CTRL then s.downAccess p R.BIST_CTRL true
    else if s.rwAllowed p then s.rwsDropped p else s.refuseRight p

/-! ### The fault log's acknowledgement (R366) -/

/-- Whether an entry's cause persists: its block's clock is stopped, its domain FAILED, or its loop in HOLD with cause 1. -/
def State.causePersists (s : State) (i : Nat) : Bool :=
  let code := s.get (F.FAULT_ENTRY_CODE.CODE i)
  if code % 256 = 0xF0 then s.stoppedClocks.any (fun c => c.1 = code / 256)
  else if 0x2211 ≤ code ∧ code ≤ 0x2214 then
    (List.range 27).any (fun d => s.on (F.PWR_DOM_STATUS.FAILED d) && s.get (F.PWR_DOM_STATUS.CAUSE d) + 0x2210 = code)
  else if 0x1A10 ≤ code ∧ code < 0x1A20 then s.loopState (code - 0x1A10) = 2 && s.holdCause (code - 0x1A10) = 1
  else false

/-- ACK: entries whose cause has ended are no longer active. -/
def State.faultAck (s : State) : State :=
  ((List.range 64).foldl (fun s i =>
    if s.on (F.FAULT_ENTRY_CODE.ACTIVE i) && !s.causePersists i then s.set (F.FAULT_ENTRY_CODE.ACTIVE i) 0 else s) s).faultPin

end Sys2Proof.Machine
end

