-- ==== Sys2Proof/Machine/HeadlandSignal.lean ====
section
/-!
DEFINITION. The headland receive path's samples (R211, R212, R215, R216): the DC blocker, the decimation chains of Table 10.3, and the
detectors, in integer arithmetic. A sample has 12 fraction bits of an ADC-B code, so full scale (2,048 codes) is 2^23.
-/
namespace Sys2Proof.Machine

/-- A complex sample. -/
abbrev Iq := Int × Int

/-! ### The DC blocker (R211, R213) -/

/-- Saturation to a signed 24-bit sample. -/
def word24 (v : Int) : Int := clampI (-(2 ^ 23)) (2 ^ 23 - 1) v

/-- The blocker of one sample: its y, and d and the samples left of the fast phase after it. The first sample after a chain reset loads d;
the fast phase runs with DC_K = 6; `frozen` holds d. The shift by DC_K rounds downward (DESIGN CHOICE, log 77). -/
def blockSample (k : Nat) (frozen : Bool) (dc : Option Int) (fast : Nat) (x : Int) : Int × Int × Nat :=
  let d := dc.getD (x * 4096)
  let e := x * 4096 - d
  let k := if 0 < fast then 6 else k
  (word24 e, if frozen then d else d + e / 2 ^ k, fast - 1)

/-- The blocker over a run of samples: the outputs in order, and its state after them. -/
def blockRun (k : Nat) (frozen : Bool) : Option Int → Nat → List Int → List Int × Option Int × Nat
  | dc, fast, [] => ([], dc, fast)
  | dc, fast, x :: xs =>
    let (y, d, fast) := blockSample k frozen dc fast x
    let (ys, dc, fast) := blockRun k frozen (some d) fast xs
    (y :: ys, dc, fast)

/-! ### The stages of a chain (Table 10.3) -/

/-- A quotient rounded to the nearest, halves upward. -/
def halfUp (p : Int) (q : Nat) : Int := (2 * p + q) / (2 * q)

/-- A shift of −8 to +8: up with saturation, down with halves rounded upward (R212). -/
def shiftBy (n v : Int) : Int := if 0 ≤ n then word24 (v * 2 ^ n.toNat) else halfUp v (2 ^ (-n).toNat)

/-- A stage's output of an exact value: shifted and saturated, and whether it saturated. -/
def stageOut (n : Int) (v : Iq) : Iq × Bool :=
  let exact (v : Int) : Int := if 0 ≤ n then v * 2 ^ n.toNat else halfUp v (2 ^ (-n).toNat)
  let out : Iq := (shiftBy n (word24 v.1), shiftBy n (word24 v.2))
  (out, out != (exact v.1, exact v.2))

/-- The mixer's phase step of chain c: f_c = 150 + 30 c kHz of the 1 MSa/s. -/
def mixStep (c : Nat) : Nat := ((150 + 30 * c) * 2 ^ 32 + 500) / 1000

/-- y times exp(−j 2π f t) by the 16-bit sine, 1 being 2^15. -/
def mixed (phase : Nat) (y : Int) : Iq :=
  (halfUp (y * sine16 ((phase + 2 ^ 30) % 2 ^ 32)) (2 ^ 15), -halfUp (y * sine16 phase) (2 ^ 15))

/-- Four integrators in a row. -/
def integrate : List Iq → Iq → List Iq
  | [], _ => []
  | a :: as, v => let b : Iq := (a.1 + v.1, a.2 + v.2); b :: integrate as b

/-- Four combs in a row: what they hold next, and their output. -/
def comb : List Iq → Iq → List Iq × Iq
  | [], v => ([], v)
  | a :: as, v => let (rest, out) := comb as (v.1 - a.1, v.2 - a.2); (v :: rest, out)

/-- A half-band filter's exact output over its inputs. -/
def halfBandOut (filter : Nat) (xs : List Iq) : Iq :=
  let h := xs.length / 2
  let tap (i : Nat) : Int := halfBandTap (halfBand filter) (if i ≤ h then h - i else i - h)
  let sum := xs.zipIdx.foldl (fun (a : Iq) (x, i) => (a.1 + tap i * x.1, a.2 + tap i * x.2)) (0, 0)
  (halfUp sum.1 (2 ^ 15), halfUp sum.2 (2 ^ 15))

/-- A half-band stage takes a sample: inputs and parity after it, and its output at every second. -/
def halfBandStep (filter : Nat) (shift : Int) (xs : List Iq) (odd : Bool) (v : Iq) : List Iq × Bool × Option (Iq × Bool) :=
  let xs := (v :: xs).take xs.length
  (xs, !odd, if odd then some (stageOut shift (halfBandOut filter xs)) else none)

/-! ### Preamble correlation (R218) -/

/-- What samples y add to the largest |y| and to the sum of squares. -/
def peakWith (top : Nat) (ys : List Int) : Nat := ys.foldl (fun m y => max m y.natAbs) top
def squaresWith (sum : Nat) (ys : List Int) : Nat := ys.foldl (fun a y => a + y.natAbs ^ 2) sum

/-- Whether 16 symbols correlate with the alternating pattern beyond a correlator's threshold: the square of the sum of the symbols with alternating
signs, over 16 times the sum of their squares (log 86). -/
def correlates (second : Bool) (symbols : List Int) : Bool :=
  let sum := symbols.zipIdx.foldl (fun (a : Int) (x, i) => if i % 2 = 0 then a + x else a - x) 0
  (Config.hlThreshold second).val * (16 * squaresWith 0 symbols) < 65536 * sum.natAbs ^ 2

/-! ### Levels (R215, R216) -/

/-- The code of a level on the scale of R216, `m` over a full scale of 2^46: r with 40 log10(m / 2^46) nearest to r − 255, within 0 to
255. -/
def levelCode (m : Nat) : Nat := ((List.range 255).filter (fun i => 2 ^ 3680 < m ^ 80 * 10 ^ (509 - 2 * i))).length

/-- The magnitude of a chain output with the chain's shifts removed, full scale 2^46. -/
def inputMagnitude (shifts : Int) (v : Iq) : Nat := Nat.sqrt (v.1 ^ 2 + v.2 ^ 2).toNat * 2 ^ (24 - shifts).toNat

/-- Whether a chain output lies below −12 dBFS at the chain output. -/
def quietOut (v : Iq) : Bool := (v.1 ^ 2 + v.2 ^ 2) ^ 10 * 10 ^ 12 < 2 ^ 460

/-! ### One chain over a window -/

/-- A chain's filters, its saturated samples, whether all settled outputs lay below −12 dBFS, and its outputs with their UNSETTLED marks, latest
first. -/
structure ChainRun where
  dsp : ChainDsp
  sat : Nat
  quiet : Bool
  outs : List (Iq × Bool) := []

/-- An output of the chain: marked UNSETTLED while any are left to mark, and otherwise smoothed into the envelope with attack `atk` and decay
`dec`; its index counts. -/
def ChainRun.output (r : ChainRun) (shifts : Int) (atk dec : Nat) (v : Iq) : ChainRun :=
  let d := r.dsp
  let r := { r with outs := (v, decide (0 < d.left)) :: r.outs }
  let m := inputMagnitude shifts v
  if 0 < d.left then { r with dsp := { d with left := d.left - 1, index := (d.index + 1) % 2 ^ 32 } }
  else
    let env := if d.env ≤ m then d.env + (m - d.env) / 2 ^ atk else d.env - (d.env - m) / 2 ^ dec
    { r with dsp := { d with env := env, index := (d.index + 1) % 2 ^ 32 }, quiet := r.quiet && quietOut v }

/-- Counts a stage's output if it saturated. -/
def ChainRun.count (r : ChainRun) (sat : Bool) : ChainRun := if sat then { r with sat := r.sat + 1 } else r

/-- A sample through the half-bands: HB1, HB2, output (Table 10.3). -/
def ChainRun.halfBands (r : ChainRun) (s1 s2 total : Int) (atk dec : Nat) (v : Iq) : ChainRun :=
  let (xs, odd, out) := halfBandStep 1 s1 r.dsp.hb1 r.dsp.odd1 v
  let r := { r with dsp := { r.dsp with hb1 := xs, odd1 := odd } }
  match out with
  | none => r
  | some (v, sat) =>
    let (xs, odd, out) := halfBandStep 2 s2 r.dsp.hb2 r.dsp.odd2 v
    let r := { r.count sat with dsp := { r.dsp with hb2 := xs, odd2 := odd } }
    match out with
    | none => r
    | some (v, sat) => (r.count sat).output total atk dec v

/-- A sample y through chain `c` with its applied shifts: mixer, CIC with its gain of 4,096 on the codes, half-bands. -/
def ChainRun.sample (c : Nat) (s0 s1 s2 : Int) (atk dec : Nat) (r : ChainRun) (y : Int) : ChainRun :=
  let d := r.dsp
  let ints := integrate d.ints (mixed d.phase y)
  let d := { d with phase := (d.phase + mixStep c) % 2 ^ 32, ints := ints }
  if d.fill < 7 then { r with dsp := { d with fill := d.fill + 1 } }
  else
    let (combs, v) := comb d.combs (nth ints 3 (0, 0))
    let (v, sat) := stageOut s0 (halfUp v.1 4096, halfUp v.2 4096)
    ({ r.count sat with dsp := { d with combs := combs, fill := 0 } }).halfBands s1 s2 (s0 + s1 + s2) atk dec v

/-! ### The input's detectors (R215) -/

/-- PEAK of the largest |y| of a window: in codes, to the nearest (R9). -/
def peakCode (top : Nat) : Nat := (roundHalfDown top 4096).toNat

/-- RMS of y in codes over n samples, to the nearest (R9). -/
def rmsCode (squares n : Nat) : Nat :=
  if n = 0 then 0
  else
    let r := Nat.sqrt (squares / n) / 4096
    if n * (4096 * (2 * r + 1)) ^ 2 < 4 * squares then r + 1 else r

/-- CLIPS: raw codes of 0 or 4,095. -/
def clipsOf (xs : List Int) : Nat := (xs.filter (fun x => x = 0 || x = 4095)).length

end Sys2Proof.Machine
end

