-- ==== Sys2Proof/Machine/Headland.lean ====
section
/-!
DEFINITION. The headland channel's commands (chapter 10): sending, chain resets (R213, R214), detector windows (R215 to R217),
the receiver of Table 10.4, and the receive queue (R220).
-/
namespace Sys2Proof.Machine

/-- A write of a transmit register: Plough's alone (R208). -/
def State.headlandWrite (s : State) (p : Path) (k : State → State) : State :=
  if s.isDown R.HEADLAND_TX_CTRL then s.downAccess p R.HEADLAND_TX_CTRL true
  else if ploughPath p then k s else s.headlandDropped

/-! ### Chains -/

/-- A chain's receiver. -/
def State.chain (s : State) (k : Nat) : ChainSt := nth s.head.chains k {}

/-- Updates a chain's receiver. -/
def State.onChain (s : State) (k : Nat) (f : ChainSt → ChainSt) : State :=
  s.onHead fun h => { h with chains := h.chains.modify k f }

/-- A receiver's state: 0 SEARCH, 1 PREAMBLE, 2 HEADER, 3 PAYLOAD. -/
def State.rxHl (s : State) (k : Nat) : Nat := s.get (F.HEADLAND_CHAIN_STATUS.RXSTATE k)

/-- A receiver enters a state. -/
def State.toHl (s : State) (k st : Nat) : State := s.set (F.HEADLAND_CHAIN_STATUS.RXSTATE k) st

/-- A receiver's reception ends; the packet's flags are cleared. -/
def State.toSearch (s : State) (k : Nat) : State :=
  (s.toHl k 0).onChain k fun x => { x with captured := false, restarted := false }

/-- A reception in progress is abandoned (Table 10.4). -/
def State.abandon (s : State) (k : Nat) : State :=
  if s.rxHl k = 0 then s else (s.bump (F.HEADLAND_CHAIN_CAPTURE.ABANDONED k)).toSearch k

/-- A chain reset (R213, R214): receptions abandoned, outputs unsettled, filters, phases and output indexes afresh, d to be loaded with the
next sample, a detector window begins and is not valid. -/
def State.chainReset (s : State) : State :=
  let s := (List.range 8).foldl (fun s k => ((s.abandon k).set (F.HEADLAND_CHAIN_STATUS.SETTLED k) 0).onChain k fun x => { x with dsp := {}, saturated := false, low := true }) s
  let s := (s.set F.HEADLAND_DC_LEVEL.SETTLED 0).set F.HEADLAND_IN_DET.VALID 0
  s.onHead fun h => { h with firstWindow := true, dc := none, fast := 1024, seen := 0, peak := 0, squares := 0 }

/-- SYNC and SYNC_N (R214). -/
def State.chainsSync (s : State) : State := s.chainReset.raiseEvent 0x16 8 0x1609

/-- Whether a subcarrier is listened to. -/
def State.listens (s : State) (k : Nat) : Bool := s.get F.HEADLAND_RX_CFG.RX_MASK / 2 ^ k % 2 = 1

/-- Whether every enabled chain is settled, and one is enabled. -/
def State.chainsSettled (s : State) : Bool :=
  s.get F.HEADLAND_RX_CFG.RX_MASK ≠ 0 && (List.range 8).all (fun i => !s.listens i || s.on (F.HEADLAND_CHAIN_STATUS.SETTLED i))

/-- DC_LEVEL.SETTLED follows the enabled chains (R221). -/
def State.showSettled (s : State) : State := s.setB F.HEADLAND_DC_LEVEL.SETTLED s.chainsSettled

/-- A chain's marking of unsettled outputs has ended (R213); SETTLED is raised when that of the last enabled chain ends. -/
def State.chainSettled (s : State) (k : Nat) : State :=
  if (s.chain k).dsp.left ≠ 0 || s.on (F.HEADLAND_CHAIN_STATUS.SETTLED k) then s
  else
    let s := s.set (F.HEADLAND_CHAIN_STATUS.SETTLED k) 1
    let s := if s.chainsSettled && !s.on F.HEADLAND_DC_LEVEL.SETTLED then s.raise 0x16 9 else s
    s.showSettled

/-! ### Detector windows (R215, R217) -/

/-- The written and applied shift fields of a chain, in the order in which they are reduced. -/
def shiftFields (k : Nat) : List (Fld × Fld) :=
  [(F.HEADLAND_CHAIN_CFG.SHIFT2 k, F.HEADLAND_CHAIN_APPLIED.SHIFT2 k),
   (F.HEADLAND_CHAIN_CFG.SHIFT1 k, F.HEADLAND_CHAIN_APPLIED.SHIFT1 k),
   (F.HEADLAND_CHAIN_CFG.SHIFT0 k, F.HEADLAND_CHAIN_APPLIED.SHIFT0 k)]

/-- REDUCED: an applied shift differs from the written one. -/
def State.showReduced (s : State) (k : Nat) : State :=
  s.setB (F.HEADLAND_CHAIN_STATUS.REDUCED k) ((shiftFields k).any (fun (w, a) => s.getS w ≠ s.getS a))

/-- The written shifts apply. -/
def State.applyShifts (s : State) (k : Nat) : State :=
  ((shiftFields k).foldl (fun s (w, a) => s.setS a (s.getS w)) s).showReduced k

/-- With AUTO_SHIFT = 1 a written shift below the applied one applies at once; a higher one is reached by restoring (R217; DEDUCED, log 77). -/
def State.lowerShifts (s : State) (k : Nat) : State :=
  ((shiftFields k).foldl (fun s (w, a) => s.setS a (min (s.getS a) (s.getS w))) s).showReduced k

/-- One shift is reduced by one; the 14 outputs after it are unsettled. -/
def State.reduceShift (s : State) (k : Nat) : State :=
  match (shiftFields k).find? (fun (_, a) => -8 < s.getS a) with
  | some (_, a) =>
    ((((s.setS a (s.getS a - 1)).set (F.HEADLAND_CHAIN_STATUS.SETTLED k) 0).showReduced k).onChain k fun x =>
      { x with dsp := { x.dsp with left := max 14 x.dsp.left } }).showSettled
  | none => s

/-- One step is restored, in the reverse order. -/
def State.restoreShift (s : State) (k : Nat) : State :=
  match (shiftFields k).reverse.find? (fun (w, a) => s.getS a < s.getS w) with
  | some (_, a) => (s.setS a (s.getS a + 1)).showReduced k
  | none => s

/-- A chain's applied shifts, SHIFT0 first. -/
def State.appliedShifts (s : State) (k : Nat) : Int × Int × Int :=
  (s.getS (F.HEADLAND_CHAIN_APPLIED.SHIFT0 k), s.getS (F.HEADLAND_CHAIN_APPLIED.SHIFT1 k), s.getS (F.HEADLAND_CHAIN_APPLIED.SHIFT2 k))

/-- Samples y through a chain (Table 10.3). -/
def State.chainRun (s : State) (k : Nat) (ys : List Int) : ChainRun :=
  let (s0, s1, s2) := s.appliedShifts k
  ys.foldl (ChainRun.sample k s0 s1 s2 (s.get F.HEADLAND_DET_CFG.ATK) (s.get F.HEADLAND_DET_CFG.DEC)) ⟨(s.chain k).dsp, 0, true, []⟩

/-- AUTO_SHIFT at a window's end (R217): whether the chain saturated, and whether its output stayed below −12 dBFS. -/
def State.autoShift (s : State) (k : Nat) (saturated low : Bool) : State :=
  if !s.on F.HEADLAND_IN_CFG.AUTO_SHIFT then s
  else if saturated then (s.onChain k fun x => { x with quiet := 0 }).reduceShift k
  else
    let n := if low then (s.chain k).quiet + 1 else 0
    if 16 ≤ n then (s.onChain k fun x => { x with quiet := 0 }).restoreShift k
    else s.onChain k fun x => { x with quiet := n }

/-- A complex output as a tap's words: I and Q, signed 24-bit (Table 15.1). -/
def tapIq (x : Iq × Bool) : TapInstant := ⟨[ofSigned 24 x.1.1, ofSigned 24 x.1.2], x.2⟩

/-- Samples y through one chain: its filters advance, its marking may end, and saturated samples are counted (R212, R213). -/
def State.chainFeed (s : State) (ys : List Int) (k : Nat) : State :=
  let r := s.chainRun k ys
  let s := s.onChain k fun x => { x with dsp := r.dsp, saturated := x.saturated || 0 < r.sat, low := x.low && r.quiet }
  let s := r.outs.foldr (fun x s => s.tapped 3 2 k (tapIq x)) (s.chainSettled k)
  if 0 < r.sat then (s.bump (F.HEADLAND_CHAIN_SAT.COUNT k) r.sat).raiseLimited 0x16 7 0x1608 else s

/-- One chain at a window's end: ENV and AUTO_SHIFT (R215, R217). -/
def State.chainWindow (s : State) (k : Nat) : State :=
  let x := s.chain k
  let s := s.set (F.HEADLAND_CHAIN_STATUS.ENV k) (levelCode x.dsp.env)
  (s.onChain k fun x => { x with saturated := false, low := true }).autoShift k x.saturated x.low

/-- Whether the receive path gets samples (R211, R221): PD_ANA is on and ADC-B is not in its low-power mode, which it is in while RX_MASK
and LOOP are 0 (the spec says "only while"; DESIGN CHOICE, log 77). -/
def State.adcbRuns (s : State) : Bool :=
  s.domOn 26 && (s.get F.HEADLAND_RX_CFG.RX_MASK ≠ 0 || s.on F.HEADLAND_IN_CFG.LOOP)

/-- A detector window: 2^(WIN + 10) samples (R215). -/
def State.windowSize (s : State) : Nat := 2 ^ (min 6 (s.get F.HEADLAND_DET_CFG.WIN) + 10)

/-- Samples of one window go through the DC blocker, the input's detectors and the chains (R211 to R213, R215): LEVEL shows d, and clips are counted
as they occur. -/
def State.feedSamples (s : State) (samples : List Int) : State :=
  let (ys, dc, fast) := blockRun (s.get F.HEADLAND_IN_CFG.DC_K) (s.on F.HEADLAND_IN_CFG.DC_FREEZE) s.head.dc s.head.fast samples
  let clips := if s.on F.HEADLAND_IN_CFG.LOOP then 0 else clipsOf samples
  let s := match dc with
    | some d => s.setSat F.HEADLAND_DC_LEVEL.LEVEL d.toNat
    | none => s
  let s := s.onHead fun h =>
    { h with dc := dc, fast := fast, seen := h.seen + samples.length, peak := peakWith h.peak ys, squares := squaresWith h.squares ys }
  let s := if 0 < clips then (s.bump F.HEADLAND_IN_CLIP.CLIPS clips).raiseLimited 0x16 6 0x1607 else s
  let s := ys.foldl (fun s y => s.tapped 3 1 0 ⟨[ofSigned 24 y], false⟩) s
  (List.range 8).foldl (State.chainFeed · ys ·) s

/-- A window ends: all detector values are published and SEQ advances (R215 to R217). -/
def State.windowEnd (s : State) : State :=
  let h := s.head
  let s := s.setSat F.HEADLAND_IN_DET.PEAK (peakCode h.peak)
  let s := (s.setSat F.HEADLAND_IN_DET.RMS (rmsCode h.squares h.seen)).wrapAdd F.HEADLAND_IN_DET.SEQ
  let s := s.setB F.HEADLAND_IN_DET.VALID (!h.firstWindow)
  let s := s.onHead fun h => { h with firstWindow := false, seen := 0, peak := 0, squares := 0 }
  (List.range 8).foldl State.chainWindow s

/-- Samples reach the receive path, through at most `fuel` windows; each window ends with its last sample (R215). -/
def State.samplesIn : Nat → List Int → State → State
  | 0, _, s => s
  | fuel + 1, samples, s =>
    if samples.isEmpty then s
    else
      let room := max 1 (s.windowSize - s.head.seen)
      let s := s.feedSamples (samples.take room)
      let s := if s.windowSize ≤ s.head.seen then s.windowEnd else s
      State.samplesIn fuel (samples.drop room) s

/-! ### The receiver (Table 10.4) -/

/-- Starts on a preamble: PRE_RSSI, SYNC_WORD and SYNC_TOL are latched (R218). -/
def State.startPreamble (s : State) (k rssi : Nat) : State :=
  (s.toHl k 1).onChain k fun x =>
    { x with ref := rssi, word := s.rd R.HEADLAND_SYNC_WORD, tol := s.get F.HEADLAND_RX_CFG.SYNC_TOL }

/-- Restarts by the false-start rule. -/
def State.falseStart (s : State) (k rssi : Nat) : State :=
  let s := (s.bump (F.HEADLAND_CHAIN_CAPTURE.FALSE_START k)).raiseLimited 0x16 4 0x1605
  (s.startPreamble k rssi).onChain k fun x => { x with restarted := true }

/-- Restarts by capture. -/
def State.captureOver (s : State) (k rssi : Nat) : State :=
  let s := (s.bump (F.HEADLAND_CHAIN_CAPTURE.CAPTURED_OVER k)).raiseLimited 0x16 5 0x1606
  (s.startPreamble k rssi).onChain k fun x => { x with captured := true }

/-- The code of a magnitude at a chain's output: the chain's gain, the applied shifts among it, is removed (R216). -/
def State.levelAt (s : State) (k level : Nat) : Nat :=
  let (s0, s1, s2) := s.appliedShifts k
  levelCode (level * 2 ^ (24 - (s0 + s1 + s2)).toNat)

/-- AFC corrects offsets within ±2 kHz (R218). -/
def afcLimit (hz : Int) : Int := clampI (-2000) 2000 hz

/-- Whether a detection belongs to the current reception: its timing lies within ±1/4 symbol of the current one, modulo one symbol, and its frequency
within ±300 Hz of the current AFC estimate, which is frozen from the sync word on (R218). -/
def State.ownSignal (s : State) (k : Nat) (timing frequency afc : Int) : Bool :=
  let t := timing % 256
  let estimate := if s.rxHl k = 1 then afcLimit afc else (s.chain k).foffset
  (t ≤ 64 || 192 ≤ t) && (frequency - estimate).natAbs ≤ 300

/-- A new preamble of the second correlator; its own signal is ignored without count (R218). -/
def State.newPreamble (s : State) (k rssi : Nat) (own : Bool) : State :=
  if own then s
  else
    let stronger := (s.chain k).ref + 2 * s.get F.HEADLAND_RX_CFG.CAPTURE_DB ≤ rssi
    match s.rxHl k with
    | 1 => s.falseStart k rssi
    | 2 => if stronger then s.falseStart k rssi else s.bump (F.HEADLAND_CHAIN_CAPTURE.IGNORED k)
    | 3 => if stronger then s.captureOver k rssi else s.bump (F.HEADLAND_CHAIN_CAPTURE.IGNORED k)
    | _ => s

/-- Bits in which two words differ. -/
def bitsDiffer (a b : Word) : Nat := ((List.range 32).filter (fun i => (a ^^^ b).toNat / 2 ^ i % 2 = 1)).length

/-- A sync word's 32 symbols: matched when at most SYNC_TOL differ (R218). -/
def State.syncMatch (s : State) (k : Nat) (word : Word) (rssi : Nat) (foffset : Int) : State :=
  let x := s.chain k
  if s.rxHl k = 1 && bitsDiffer word x.word ≤ x.tol then
    ((s.toHl k 2).set (F.HEADLAND_CHAIN_STATUS.RSSI k) rssi).onChain k fun x => { x with ref := rssi, foffset := afcLimit foffset }
  else s

/-- The length byte is checked (R207). -/
def State.lengthIn (s : State) (k : Nat) (b : Byte) : State :=
  if s.rxHl k = 2 then
    if headerOk b.toNat then (s.toHl k 3).onChain k fun x => { x with length := b.toNat % 64 }
    else (s.bump (F.HEADLAND_CHAIN_RX_COUNT.HDR_BAD k)).toSearch k
  else s

/-- The head entry's registers follow the queue (R220). -/
def State.showQueue (s : State) : State :=
  let s := s.set F.HEADLAND_RXQ_CTRL.LEVEL s.head.queue.length
  let p := (s.head.queue.head?).getD ⟨0, 0, false, false, 0, []⟩
  let s := s.setB F.HEADLAND_RXQ_HEAD0.VALID (!s.head.queue.isEmpty)
  let s := (s.set F.HEADLAND_RXQ_HEAD0.SUB p.sub).set F.HEADLAND_RXQ_HEAD0.LENGTH p.data.length
  let s := (s.set F.HEADLAND_RXQ_HEAD0.RSSI p.rssi).setB F.HEADLAND_RXQ_HEAD0.CAPTURED p.captured
  let s := (s.setB F.HEADLAND_RXQ_HEAD0.RESTARTED p.restarted).setS F.HEADLAND_RXQ_HEAD1.FOFFSET p.foffset
  let bytes := p.data ++ List.replicate (60 - p.data.length) 0
  (List.range 15).foldl (fun s k => s.wr (R.HEADLAND_RXQ_DATA k) (BitVec.ofNat 32 (beNat (slice bytes (4 * k) 4)))) s

/-- A good packet enters the queue, or is lost to a full one (R220). -/
def State.enqueue (s : State) (p : HlPacket) : State :=
  if 8 ≤ s.head.queue.length then (s.bump F.HEADLAND_RXQ_CTRL.OVERFLOW).raiseEvent 0x16 1 0x1602
  else ((s.onHead fun h => { h with queue := h.queue ++ [p] }).showQueue).wakeSource 1 (.raise 0x16 0 none)

/-- The last CRC bit: payload and CRC are unwhitened and checked (R207). -/
def State.lastCrc (s : State) (k : Nat) (data : List Byte) : State :=
  if s.rxHl k = 3 then
    let x := s.chain k
    let plain := whiten (data.take (x.length + 2))
    let payload := plain.take x.length
    let s := s.toSearch k
    if crc16 (BitVec.ofNat 8 (lengthByte x.length) :: payload) = beNat (plain.drop x.length) then
      (s.bump (F.HEADLAND_CHAIN_RX_COUNT.GOOD k)).enqueue ⟨k, x.ref, x.captured, x.restarted, x.foffset, payload⟩
    else s.bump (F.HEADLAND_CHAIN_RX_COUNT.CRC_BAD k)
  else s

/-- POP (R220). -/
def State.pop (s : State) : State :=
  (s.onHead fun h => { h with queue := h.queue.drop 1 }).showQueue.wrapAdd F.HEADLAND_RXQ_HEAD1.SEQ

/-! ### Meanings -/

/-- GO (R208): discarded while BUSY. -/
def execGo (path : Path) (s : State) : Host.Outcome State Fault Refusal :=
  .next (s.headlandWrite path fun s => if s.on F.HEADLAND_TX_CTRL.BUSY then s.headlandDropped else s.go)

/-- ABORT (R210). -/
def execAbort (path : Path) (s : State) : Host.Outcome State Fault Refusal :=
  .next (s.headlandWrite path fun s => s.headlandAbort)

/-- TX_PACKET_END (R208). -/
def execTxPacketEnd (s : State) : Host.Outcome State Fault Refusal :=
  .next (
    if s.on F.HEADLAND_TX_CTRL.BUSY then
      let s := ((s.set F.HEADLAND_TX_CTRL.BUSY 0).bump F.HEADLAND_TX_COUNT.SENT).raise 0x16 2
      s.headlandPump s.head.waiting.length
    else s)

/-- SYNC (R214). -/
def execSync (path : Path) (s : State) : Host.Outcome State Fault Refusal :=
  .next (s.rwWrite path R.HEADLAND_IN_CFG fun s => s.chainsSync)

/-- SYNC_N (R214). -/
def execSyncN (s : State) : Host.Outcome State Fault Refusal := .next s.chainsSync

/-- ADCB_SAMPLES_RETURN (R213). -/
def execAdcbSamplesReturn (s : State) : Host.Outcome State Fault Refusal := .next s.chainReset

/-- CHAIN_SETTLED (R213): with the samples since the last ones that a command brought, or the last chain reset; ADC-B codes or, with LOOP = 1, the
modem's 2,048 × depth × h(t) in codes. -/
def execChainSettled (chain : Fin 8) (samples : List Int) (s : State) : Host.Outcome State Fault Refusal :=
  .next (if s.adcbRuns then (State.samplesIn samples.length samples s).chainSettled chain else s)

/-- DETECTOR_WINDOW_END (R215): with samples likewise; the window ends when they complete it. -/
def execDetectorWindowEnd (samples : List Int) (s : State) : Host.Outcome State Fault Refusal :=
  .next (if s.adcbRuns then State.samplesIn samples.length samples s else s)

/-- PRIMARY_DETECTION (Table 10.4): on settled samples of a subcarrier that is listened to. -/
def execPrimaryDetection (chain : Fin 8) (preamble : Preamble) (s : State) : Host.Outcome State Fault Refusal :=
  .next (
    if s.rxHl chain = 0 && s.on (F.HEADLAND_CHAIN_STATUS.SETTLED chain) && s.listens chain && correlates false preamble.symbols then
      s.startPreamble chain (s.levelAt chain preamble.level)
    else s)

/-- NEW_PREAMBLE (Table 10.4). -/
def execNewPreamble (chain : Fin 8) (preamble : Preamble) (timing frequency afc : Int) (s : State) : Host.Outcome State Fault Refusal :=
  .next (
    if correlates true preamble.symbols then
      s.newPreamble chain (s.levelAt chain preamble.level) (s.ownSignal chain timing frequency afc)
    else s)

/-- SYNC_WORD_MATCH (Table 10.4). -/
def execSyncWordMatch (chain : Fin 8) (word : Word) (level : Nat) (foffset : Int) (s : State) :
    Host.Outcome State Fault Refusal := .next (s.syncMatch chain word (s.levelAt chain level) foffset)

/-- SYNC_WINDOW_END (Table 10.4). -/
def execSyncWindowEnd (chain : Fin 8) (s : State) : Host.Outcome State Fault Refusal :=
  .next (if s.rxHl chain = 1 then (s.bump (F.HEADLAND_CHAIN_RX_COUNT.NO_SYNC chain)).toSearch chain else s)

/-- LENGTH_BYTE (Table 10.4). -/
def execLengthByte (chain : Fin 8) (value : Byte) (s : State) : Host.Outcome State Fault Refusal :=
  .next (s.lengthIn chain value)

/-- LAST_CRC_BIT (Table 10.4). -/
def execLastCrcBit (chain : Fin 8) (data : List Byte) (s : State) : Host.Outcome State Fault Refusal :=
  .next (s.lastCrc chain data)

/-- POP (R220): Plough's alone. -/
def execPop (path : Path) (s : State) : Host.Outcome State Fault Refusal := .next (s.headlandWrite path fun s => s.pop)

end Sys2Proof.Machine
end

