-- ==== Sys2Proof/Machine/Line.lean ====
section
/-!
DEFINITION. The line framer and the decoder (chapter 5): frame and multiframe alignment (R110, R111), received overhead (R99,
R100, R114, R116), the management channel (R113), receive steps (R116), decoder engines (R117) and counters (R119).
-/
namespace Sys2Proof.Machine

/-! ### Transmit multiframes (R109, R112) -/

/-- D = R − T of R112, as a signed 24-bit difference. -/
def mfDiff (r t : Nat) : Int := toSigned 24 (mfAhead r t)

/-- Whether a change is armed on either direction of a carrier, so that no slip is made (R112). -/
def State.changeArmed (s : State) (c : Carrier) : Bool :=
  s.stepArmed c || s.hState = 3 || s.on (F.LINK_RX_STEP.ARMED c) || s.on (F.LINK_PEER_SW.ARMED c)

/-- The number of the transmit multiframe that begins, by the SLIP marked in the one before (R112). -/
def State.nextMf (s : State) (c : Carrier) : Nat :=
  let l := s.line.at c
  let t := s.txMf c
  if !l.started then t
  else match l.slip with
    | 1 => (t + 2) % 2 ^ 24
    | 2 => t
    | 3 => s.rxMf c
    | _ => (t + 1) % 2 ^ 24

/-- A transmit multiframe begins (R112, R131): it takes its number, an agreed frame version takes effect, and the adopter decides a slip,
which version 1 has not (R102). -/
def State.startMf (s : State) (c : Carrier) : State :=
  let l := s.line.at c
  let jump := l.started && l.slip = 3
  let slipped := l.started && (l.slip = 1 || l.slip = 2)
  let mf := s.nextMf c
  let s := ((s.setSat (F.LINK_MF_WORDS.W c) (s.mfWords c)).endMf c).entriesRemade
  let s := s.set (F.LINK_TX_FRAME.VALUE c) (mf * 256)
  let s := if jump || slipped then s.raise 0x0E (7 + 8 * c.idx) else s
  let s := if slipped then s.bump (F.LINK_NUMBERING.SLIPS c) else s
  let first := 16 * s.get F.PLAN_FORMAT.FRAME_MAJOR_MIN
  let s := s.onLine c fun l =>
    { l with
      fresh := true, started := true, slip := 0, prevSlip := l.started && l.slip ≠ 0, adopted := l.adopted || jump,
      sinceSlip := if slipped then 1 else l.sinceSlip + 1,
      version := l.nextVersion.orElse (fun _ => l.version), nextVersion := none,
      oldVersion := if l.nextVersion.isSome && l.nextVersion ≠ l.version then l.version.getD first else l.oldVersion,
      transition := if l.nextVersion.isSome then 16 else l.transition - 1 }
  let d := mfDiff (s.rxMf c) mf
  let s := s.setS (F.LINK_NUMBERING.D c) (clampI (-127) 127 d)
  let l := s.line.at c
  if s.get (F.LINK_NUMBERING.ROLE c) = 2 && s.on (F.LINK_NUMBERING.SLIP_ENABLE c) && l.adopted && 16 ≤ l.sinceSlip
      && s.mfLocked c && !s.changeArmed c && 2 ≤ s.sentVersion c / 16 then
    if 2 ≤ d then s.onLine c fun l => { l with slip := 1 }
    else if d ≤ -2 then s.onLine c fun l => { l with slip := 2 }
    else s
  else s

/-! ### Frame alignment (Table 5.3) -/

/-- Hunting runs only in EQ_TRAIN or TRACK (R110). -/
def State.hunts (s : State) (c : Carrier) : Bool := s.rxState c = 8 || s.rxState c = 9

/-- Sets the alignment state. -/
def State.toAlign (s : State) (c : Carrier) (st : Nat) : State := s.set (F.LINK_ALIGN_STATUS.STATE c) st

/-- A FAW match at a position. -/
def State.fawMatch (s : State) (c : Carrier) (pos : Nat) : State :=
  let l := s.line.at c
  let next (s : State) (f : LineSt → LineSt) : State := s.onLine c fun l => f { l with expected := pos + framePositions }
  if !s.hunts c then s
  else if s.alignState c = 0 then (next s fun l => { l with hits := 1, misses := 0 }).toAlign c 1
  else if pos ≠ l.expected then s
  else if s.alignState c = 1 then
    if l.hits + 1 < s.get (F.LINK_ALIGN_CFG.HITS c) then next s fun l => { l with hits := l.hits + 1 }
    else ((next s fun l => { l with hits := 0, misses := 0, awaitPtr := true }).toAlign c 2).frameRaise c 0
  else next s fun l => { l with misses := 0 }

/-- No FAW match at the expected position; MISS misses are a fault of the line path (Table 18.4). The miss that loses the frame counts in
FAW_MISSES too, "misses while IF" (DEDUCED, log 72). -/
def State.fawMiss (s : State) (c : Carrier) : State :=
  let l := s.line.at c
  if s.alignState c = 1 then (s.onLine c fun l => { l with hits := 0 }).toAlign c 0
  else if s.alignState c = 2 then
    let s := s.bump (F.LINK_OH_COUNT.FAW_MISSES c)
    if l.misses + 1 < s.get (F.LINK_ALIGN_CFG.MISS c) then
      s.onLine c fun l => { l with misses := l.misses + 1, expected := l.expected + framePositions }
    else (s.alignLost c).faultLog (0x0E02 + 0x10 * c.idx) 2 none
  else s

/-! ### Received overhead -/

/-- A received overhead with the bytes that its version gives no meaning read as 0 (R130, R131). -/
def State.readOverhead (s : State) (c : Carrier) (bytes : List Byte) : List Byte :=
  let v := (nth bytes 20 0).toNat
  let agreed := ((s.line.at c).version).getD 0
  let l := s.line.at c
  let strange := agreed ≠ 0 && v ≠ agreed && !(l.transition ≠ 0 && v = l.oldVersion)
  let supported := s.get F.PLAN_FORMAT.FRAME_MAJOR_MIN ≤ v / 16 && v / 16 ≤ s.get F.PLAN_FORMAT.FRAME_MAJOR_MAX
  (List.range 448).map fun i =>
    if alwaysByte i || (!strange && supported && versionByte (v / 16) i) then nth bytes i 0 else 0

/-- Whether a VERSION byte is neither agreed nor in transition (Table 6.7). -/
def State.versionStrange (s : State) (c : Carrier) (v : Nat) : Bool :=
  let l := s.line.at c
  match l.version with
  | some a => v ≠ a && !(l.transition ≠ 0 && v = l.oldVersion)
  | none => false

/-- The expected number of the next frame: +1, or by the SLIP seen at a multiframe boundary (R111, R112). -/
def nextNumber (slip n : Nat) : Nat :=
  if n % 256 = 255 then
    match slip with
    | 1 => (n + 1 + 256) % 2 ^ 32
    | 2 => (n + 2 ^ 32 - 255) % 2 ^ 32
    | _ => (n + 1) % 2 ^ 32
  else (n + 1) % 2 ^ 32

/-- Multiframe lock on a good overhead numbered `n` while not locked (R111): lock after three numbers that each rise by one, apart from
announced slips and jumps. -/
def State.mfHunt (s : State) (c : Carrier) (n : Nat) : State :=
  let l := s.line.at c
  -- a boundary lies between two numbers that name different multiframes, or that a repeated multiframe (SLIP 2) sets back
  let crosses (m : Nat) : Bool := n / 256 ≠ m / 256 || n % 256 ≤ m % 256
  let run := match l.last with
    | some m => if n = nextNumber l.rxSlip m || (l.rxSlip = 3 && crosses m) then l.run + 1 else 1
    | none => 1
  -- a slip or jump of the multiframe that is over has had its effect
  let ended := match l.last with
    | some m => crosses m
    | none => false
  let s := s.onLine c fun l =>
    { l with
      last := some n, run := run, wrong := 0, rxSlip := if ended then 0 else l.rxSlip, jumped := l.jumped || (ended && l.rxSlip = 3) }
  if 3 ≤ run then
    let s := (s.set (F.LINK_ALIGN_STATUS.MF_LOCK c) 1).set (F.LINK_RX_FRAME.VALUE c) n
    (s.onLine c fun l => { l with counting := true, corrMf := 0, uncMf := false }).frameRaise c 2
  else s

/-- The numbering of one received frame: the expected number advances; three wrong numbers lose the lock (R111); a jump
relocks without loss (R112). -/
def State.mfTrack (s : State) (c : Carrier) (good : Option Nat) : State :=
  if !s.mfLocked c then
    match good with
    | some n => s.mfHunt c n
    | none => s
  else
    let l := s.line.at c
    let was := s.get (F.LINK_RX_FRAME.VALUE c)
    let e := nextNumber l.rxSlip was
    let boundary := was % 256 = 255
    let jumping := l.rxSlip = 3
    let s := s.set (F.LINK_RX_FRAME.VALUE c) e
    let s := if boundary && !jumping then s.onLine c fun l => { l with rxSlip := 0 } else s
    match good with
    | none => s
    | some n =>
      if jumping && (boundary || n / 256 ≠ was / 256) then
        (s.set (F.LINK_RX_FRAME.VALUE c) n).onLine c fun l => { l with rxSlip := 0, jumped := true, wrong := 0, last := some n }
      else if n = e then s.onLine c fun l => { l with wrong := 0, last := some n }
      else if l.wrong + 1 < 3 then s.onLine c fun l => { l with wrong := l.wrong + 1 }
      else (s.mfLost c).mfHunt c n

/-- The peer registers of one good overhead (R122). -/
def State.peerFields (s : State) (c : Carrier) (oh : List Byte) : State :=
  let f (o n : Nat) : Nat := beNat (slice oh o n)
  let s := if s.get (F.LINK_PEER_CFG.DEFECTS c) ≠ f 22 1 then s.frameRaise c 5 else s
  let s := (s.set (F.LINK_PEER_CFG.VERSION c) (f 20 1)).set (F.LINK_PEER_CFG.CONFIG c) (f 21 1)
  let s := (s.set (F.LINK_PEER_CFG.DEFECTS c) (f 22 1)).set (F.LINK_PEER_CFG.NUMBERING c) (f 23 1)
  let s := (s.set (F.LINK_PEER_NODE.VALUE c) (f 28 4)).set (F.LINK_PEER_EPOCH.VALUE c) (f 32 4)
  let s := ((s.set (F.LINK_PEER_SW.SW_MF c) (f 38 3)).set (F.LINK_PEER_SW.TYPE c) (f 36 1 / 64)).set
    (F.LINK_PEER_SW.ARMED c) (f 36 1 / 32)
  let s := (s.set (F.LINK_PEER_SNR_SEQ.SEQ c) (f 88 2)).set (F.LINK_PEER_SNR_SEQ.VALID c) (f 90 2)
  (List.range 16).foldl (fun s k =>
    (s.set (F.LINK_PEER_SNR.X c k) (f (92 + 4 * k) 2)).set (F.LINK_PEER_SNR.Y c k) (f (94 + 4 * k) 2)) s

/-- The peer's announced change (R116, R138, R140): kept, its targets captured while the step is armed, and the held change armed by any
frame that announces it; an unaccepted step is followed with AUTO_FOLLOW and M at least 8 ahead, else a violation, once for each M. -/
def State.announced (s : State) (c : Carrier) (oh : List Byte) : State :=
  let ctrl := (nth oh 36 0).toNat
  let m := beNat (slice oh 38 3)
  if ctrl / 32 % 2 = 0 then s
  else if ctrl / 64 = 2 then
    let fresh := (s.line.at c).annM ≠ some m
    let targets := (slice oh 64 16).map (·.toNat)
    let s := s.onLine c fun l => { l with annM := some m, annE := targets }
    let here := s.on (F.LINK_RX_STEP.ARMED c) && s.get (F.LINK_RX_STEP.MF c) = m
    let s := if !here && fresh then s.frameRaise c 6 else s
    let accepted := match kindOf (s.link.at c).held 2 with
      | some p => p.m = m && 2 ≤ p.cstate
      | none => false
    if here then
      let s := (s.onLine c fun l => { l with capE := targets }).set (F.LINK_RX_STEP.MATCHED c) 1
      if accepted then s.managed (·.armHeld c 2) else s
    else if accepted then s.managed (·.armHeld c 2)
    else if s.on (F.LINK_MGR_CTRL.AUTO_FOLLOW c) && mfAtLeast m (s.rxMf c) 8 && !s.on (F.LINK_RX_STEP.ARMED c) then
      s.managed (·.rxStepArm c m)
    else if fresh then s.linkViolation c 0x07 else s
  else if ctrl / 64 = 1 then
    let fresh := (s.line.at c).annReplan ≠ some m
    let s := s.onLine c fun l => { l with annReplan := some m }
    let accepted : Bool := match kindOf (s.link.at c).held 1 with
      | some p => p.m = m && 2 ≤ p.cstate
      | none => false
    if s.replanAt m then s
    else
      let s := if fresh then s.frameRaise c 6 else s
      if accepted then s.managed (·.armHeld c 1)
      else if fresh then s.linkViolation c 0x07 else s
  else s

/-- What the link manager makes of a good overhead in ALIGN and TRAFFIC (Tables 6.2 and 6.7). -/
def State.peerChecks (s : State) (c : Carrier) (oh : List Byte) (node0 : Nat) : State :=
  let f (o n : Nat) : Nat := beNat (slice oh o n)
  let node := f 28 4
  let st := s.linkState c
  let s := if node = s.nodeId && node0 ≠ node then (s.set (F.LINK_NUMBERING.ROLE c) 0).linkViolation c 0x08 else s
  let own := 16 * (s.subCount c - 1) + 4 * s.codeOf c + s.runFrame.forward
  if st ≠ 3 && st ≠ 4 then s
  else if (s.link.at c).negotiated ≠ some node then (s.mgrRaise c 7).enterNegotiate c
  else if f 21 1 ≠ own then (s.linkViolation c 0x05).enterIncompatible c
  else
    let e := (slice oh 48 (s.subCount c)).map (·.toNat)
    let l := s.line.at c
    if st = 4 && e ≠ l.rxE && !s.on (F.LINK_RX_STEP.ARMED c) then
      let s := if l.eMf || l.eBad ≠ 0 then s else s.linkViolation c 0x06
      s.onLine c fun l => { l with eMf := true }
    else s

/-- The place in the layout's rotation of the frame that begins at a received position, for a pilot row found at another: rows of pilots lie
64 × COUNT positions apart (R95, R96). -/
def rotation (count start pilot : Nat) : Nat :=
  ((List.range count).find? fun (r : Nat) => ((start : Int) - pilot - framePositions * r) % (64 * count) = 0).getD 0

/-- The decoder takes block alignment from a good FEC_PTR: its first block begins there, in the frame just received (Table 5.3, R107), whose
rotation the pilots and the frame start give (R95); the blocks before are erased (R117). -/
def State.blockAlign (s : State) (c : Carrier) (ptr : Nat) : State :=
  let phase := rotation (s.subCount c) ((s.line.at c).expected - framePositions) ((s.rx.at c).pilotPos.getD 0)
  (s.onLine c fun l =>
    { l with awaitPtr := false, decPos := ptr, decFrame := 0, decPhase := phase, decErr := false, decCorr := 0, decBlock := 0, seen := 0, frameLog := [] }).set
      (F.FEC_STATUS.ALIGNED c) 1

/-- A received frame is entered with its number: the one read, else the one expected (R61). -/
def State.logFrame (s : State) (c : Carrier) (number : Option Nat) : State :=
  s.onLine c fun l =>
    { l with seen := l.seen + 1, frameLog := ((number.getD (s.get (F.LINK_RX_FRAME.VALUE c)), false) :: l.frameLog).take 64 }

/-- A good overhead (R99, R100): numbering, peer fields, announcements, TAKE_E, time stamps and the link manager's checks. -/
def State.goodOverhead (s : State) (c : Carrier) (bytes : List Byte) : State :=
  let v := (nth bytes 20 0).toNat
  let oh := s.readOverhead c bytes
  let number := beNat (slice oh 16 4)
  let node0 := s.get (F.LINK_PEER_NODE.VALUE c)
  let strange := s.versionStrange c v
  let s := s.mfTrack c (some number)
  let slip := (nth oh 23 0).toNat % 4
  let s := if slip ≠ 0 && (s.line.at c).rxSlip ≠ slip then
      (s.onLine c fun l => { l with rxSlip := slip }).raise 0x0E (7 + 8 * c.idx) else s
  let s := if (s.line.at c).awaitPtr then s.blockAlign c (beNat (slice oh 24 4) % 2 ^ 17) else s
  let s := s.peerFields c (oh.set 20 (BitVec.ofNat 8 v))
  let s := if strange && !(s.line.at c).verMf then (s.onLine c fun l => { l with verMf := true }).linkViolation c 0x04 else s
  let e := (slice oh 48 (s.subCount c)).map (·.toNat)
  let b := (List.range (s.subCount c)).map (fun k => beNat (slice oh 80 4) / 4 ^ k % 4)
  let s := s.onLine c fun l => if l.takeE && l.taken.isNone then { l with taken := some (e, b) } else l
  let s := (s.stampArrival c number).transferArrival c number oh
  ((s.announced c oh).managed (·.peerChecks c oh node0)).logFrame c (some number)

/-- A received frame's overhead (R99): used only while frame alignment is IF, and good when its four codewords decode. -/
def State.overheadIn (s : State) (c : Carrier) (bytes : List Byte) : State :=
  if s.alignState c ≠ 2 then s
  else match overheadDecode bytes with
    | some (info, n) =>
      let s := s.setSat (F.LINK_OH_CORR.BYTES c) (s.get (F.LINK_OH_CORR.BYTES c) + n)
      (s.set (F.LINK_ALIGN_STATUS.OH_GOOD c) 1).goodOverhead c info
    | none =>
      let l := s.line.at c
      let s := (s.set (F.LINK_ALIGN_STATUS.OH_GOOD c) 0).bump (F.LINK_OH_COUNT.OH_UNCORR c)
      let s := if l.ohMf then s else s.frameRaise c 4
      let s := if l.asm.isSome then s.bump (F.LINK_MCC_COUNT.RX_DROPPED c) else s
      ((s.onLine c fun l => { l with ohMf := true, asm := none }).mfTrack c none).transferBad c |>.logFrame c none

/-! ### The management channel (R113) -/

/-- Cells that the waiting messages fill. -/
def cellsHeld (msgs : List (List Byte)) : Nat := (msgs.map (fun m => (m.length + 31) / 28)).foldl (· + ·) 0

/-- A message in assembly is discarded and counted. -/
def State.asmDrop (s : State) (c : Carrier) : State :=
  if (s.line.at c).asm.isSome then (s.bump (F.LINK_MCC_COUNT.RX_DROPPED c)).onLine c fun l => { l with asm := none } else s

/-- LINK message TYPEs of Table 6.5. -/
def linkTypes : List Nat := [1, 2, 0x10, 0x11, 0x12, 0x13]

/-- A complete message: its CRC-32C is checked; a LINK message of unknown TYPE or of a LENGTH that is not its body's is
refused at once; other classes go to Hedge (R113, R133, R141, R286). One too short for its header is of wrong LENGTH too. -/
def State.asmDone (s : State) (c : Carrier) (msg : List Byte) : State :=
  let n := msg.length
  if n < 4 ∨ 2048 < n ∨ crc32c (msg.take (n - 4)) ≠ beNat (msg.drop (n - 4)) then
    (s.bump (F.LINK_MCC_COUNT.RX_DROPPED c)).linkViolation c 0x0C
  else
    let m := msg.take (n - 4)
    let typ := beNat (slice m 2 1)
    let tag := beNat (slice m 4 2)
    if beNat (slice m 1 1) = 4 ∧ !linkTypes.contains typ then
      s.managed fun s => (s.linkViolation c 0x01).linkNak c typ tag 0x01
    else if beNat (slice m 1 1) = 4 ∧ beNat (slice m 6 2) + 8 ≠ m.length then
      s.managed fun s => s.linkMalformed c typ tag
    else if beNat (slice m 1 1) = 4 then s.onLine c fun l => { l with rxMsgs := l.rxMsgs ++ [m] }
    else s.deliver? (2 + c.idx) m

/-- A received cell: added to the message in assembly, or discarded (R113). The receive queue holds the cells of complete messages that the link
manager has not taken: a message in assembly may be longer than 64 cells, and other classes leave for Hedge at once; a cell discarded for a
full queue leaves the expected SEQ as it was, so the next cell taken counts a gap (DESIGN CHOICE, log 83). -/
def State.cellIn (s : State) (c : Carrier) (cell : List Byte) : State :=
  let ctrl := (nth cell 0 0).toNat
  let seq := (nth cell 1 0).toNat
  let len := (nth cell 2 0).toNat
  let l := s.line.at c
  if ctrl < 0x80 then s
  else if 64 ≤ cellsHeld l.rxMsgs then s.bump (F.LINK_MCC_COUNT.RX_DROPPED c)
  else
    let gap : Bool := match l.rxSeq with
      | some q => seq ≠ (q + 1) % 256
      | none => false
    let s := s.onLine c fun l => { l with rxSeq := some seq }
    let s := if gap then (s.bump (F.LINK_MCC_COUNT.SEQ_GAPS c)).asmDrop c else s
    let som := ctrl / 0x40 % 2 = 1
    let s := if som then s.asmDrop c else s
    if len = 0 ∨ 28 < len then s.asmDrop c
    else
      let before := if som then some [] else (s.line.at c).asm
      match before with
      | none => s
      | some a =>
        let msg := a ++ slice cell 4 len
        if 2048 < msg.length then
          (((s.onLine c fun l => { l with asm := some msg }).asmDrop c)).linkViolation c 0x0C
        else if ctrl / 0x20 % 2 = 1 then (s.onLine c fun l => { l with asm := none }).asmDone c msg
        else s.onLine c fun l => { l with asm := some msg }

/-! ### The decoder -/

/-- Where the decoder stands after a block: the block after it, and the errored frames that it adds. A frame is errored when any of its
label bits belongs to an uncorrectable block; a block lies in one frame or two (R107, R120). It is noted for Gleaner too (R61). -/
def LineSt.afterBlock (l : LineSt) (subs : List SubRec) (unc : Bool) : LineSt × Nat :=
  let bits := labelBitsOf subs (l.decPhase + l.decFrame)
  let stop := l.decPos + blockBits
  let spans : Bool := bits < stop
  let here := if unc && !l.decErr then 1 else 0
  let next := if unc && spans then 1 else 0
  let mark (k : Nat) (m : List (Nat × Bool)) : List (Nat × Bool) :=
    if unc && k < l.seen then m.modify (l.seen - 1 - k) (fun p => (p.1, true)) else m
  let m := mark l.decFrame l.frameLog
  let l := { l with decBlock := l.decBlock + 1, frameLog := if spans then mark (l.decFrame + 1) m else m }
  if bits ≤ stop then ({ l with decPos := stop - bits, decFrame := l.decFrame + 1, decErr := unc && spans }, here + next)
  else ({ l with decPos := stop, decErr := l.decErr || unc }, here)

/-- The iterations that engines work on a block: with EARLY_STOP none once its syndrome is zero (R117). -/
def engineWork (early : Bool) (engines : Nat) (reached : Option Nat) : Nat := if early then min engines (reached.getD engines) else engines

/-- Gleaner's word of a frame (Table 15.1): its corrected label bits, and whether a block in it was uncorrectable. -/
def frameWord (corr : Nat) (unc : Bool) : Nat := min (2 ^ 20 - 1) corr + (if unc then 2 ^ 23 else 0)

/-- A frame's last block tells Gleaner of the frame; `later` of the block's corrected bits lie in the next one (Table 15.1). -/
def State.frameTold (s : State) (c : Carrier) (corr later : Nat) (unc : Bool) : State :=
  let l := s.line.at c
  if labelBitsOf (s.runSubs c) (l.decPhase + l.decFrame) ≤ l.decPos + blockBits then
    (s.onLine c fun l => { l with decCorr := later }).tapped c.idx 5 0 ⟨[frameWord (l.decCorr + (corr - later)) (l.decErr || unc)], false⟩
  else s.onLine c fun l => { l with decCorr := l.decCorr + corr }

/-- A block has passed the engines in use (R119): its syndrome first reached zero in an iteration, none if never. It counts as
uncorrectable in the latter case, and in ITER_LIMIT in either that or the last iteration. The counters run from the first MF lock (R111); errored
frames count always (R120). -/
def State.decodedBlock (s : State) (c : Carrier) (corr later : Nat) (reached : Option Nat) : State :=
  let unc := reached.isNone
  let s := s.frameTold c corr later unc
  let l := s.line.at c
  let last : Bool := match reached with
    | none => true
    | some k => s.get (F.FEC_CFG.ENGINES c) ≤ k
  let (after, frames) := l.afterBlock (s.runSubs c) unc
  let s := (s.onLine c fun _ => after).setSat (F.LINK_ERR_FRAMES.FRAMES c) (s.get (F.LINK_ERR_FRAMES.FRAMES c) + frames)
  if !l.counting then s
  else
    let add (k n : Nat) (x : List Ctr48) : List Ctr48 := x.modify k (fun z => z.add n)
    let live := add 3 (if last then 1 else 0) (add 2 (if unc then 1 else 0) (add 1 1 (add 0 corr l.live)))
    let first := unc && !l.uncMf
    let s := s.onLine c fun l =>
      { l with live := live, corrMf := l.corrMf + corr, evalAfter := l.evalAfter + corr, uncMf := l.uncMf || unc }
    if first then s.fecRaise c 0 else s

/-- An engine fails in service (R117): replaced by the spare, or the pipeline closes over it. If the held spare itself fails, the next idle
healthy engine is the spare; HEALTHY keeps the number that boot found (DESIGN CHOICE, log 83). -/
def State.engineFail (s : State) (c : Carrier) (e : Nat) : State :=
  let s := (s.set ⟨R.FEC_ENGINES c, 16 + e, 16 + e⟩ 1).markInService (104 + 13 * c.idx + e)
  let active (k : Nat) : Bool := s.get ⟨R.FEC_ENGINES c, k, k⟩ = 1
  let failed (k : Nat) : Bool := s.get ⟨R.FEC_ENGINES c, 16 + k, 16 + k⟩ = 1
  let spare := (List.range 13).find? (fun k => !active k && !failed k)
  if active e then
    let s := s.set ⟨R.FEC_ENGINES c, e, e⟩ 0
    match s.on (F.FEC_CFG.SPARE_HELD c), spare with
    | true, some k => ((s.set ⟨R.FEC_ENGINES c, k, k⟩ 1).set (F.FEC_CFG.SPARE_HELD c) 0).fecRaise c 2 |>.faultLog (0x0C03 + 0x10 * c.idx) 1 none
    | _, _ => (s.set (F.FEC_CFG.ENGINES c) (s.get (F.FEC_CFG.ENGINES c) - 1)).fecRaise c 3 |>.faultLog (0x0C04 + 0x10 * c.idx) 2 none
  else if spare.isNone then s.set (F.FEC_CFG.SPARE_HELD c) 0 else s

/-- The snapshot is copied at the frame boundary (R119), after what the counters count in the copy's cycle (R319). -/
def State.snapCopy (s : State) (c : Carrier) (now : List Nat) : State :=
  let l := s.line.at c
  let after := counted now l.live
  match l.snap with
  | none => s.onLine c fun l => { l with live := after }
  | some clear =>
    let shown := copied clear l.live after
    let v (k : Nat) : Nat := (nth shown k {}).value
    let put (s : State) (lo hi : Fld) (x : Nat) : State := (s.set lo x).set hi (x / 2 ^ 32)
    let s := put s (F.FEC_CORR_BITS_LO.VALUE c) (F.FEC_CORR_BITS_HI.VALUE c) (v 0)
    let s := put s (F.FEC_BLOCKS_LO.VALUE c) (F.FEC_BLOCKS_HI.VALUE c) (v 1)
    let s := put s (F.FEC_UNCORR_LO.VALUE c) (F.FEC_UNCORR_HI.VALUE c) (v 2)
    let s := put s (F.FEC_ITER_LIMIT_LO.VALUE c) (F.FEC_ITER_LIMIT_HI.VALUE c) (v 3)
    let s := s.ovfMap c.idx shown
    let s := s.onLine c fun l => { l with snap := none, live := snapped clear after }
    s.raise 0x0C (5 + 8 * c.idx)

/-- The signal-degrade state after a multiframe (R119). -/
def State.degrade (s : State) (c : Carrier) (corr bits : Nat) : State :=
  let l := s.line.at c
  let above := s.get (F.FEC_SD.SD_SET c) * bits < corr * 2 ^ 20
  let below := corr * 2 ^ 20 < s.get (F.FEC_SD.SD_CLEAR c) * bits
  let up := if above then l.sdUp + 1 else 0
  let down := if below then l.sdDown + 1 else 0
  let n := s.get (F.FEC_CTRL.SD_MF c)
  let s := s.onLine c fun l => { l with sdUp := up, sdDown := down }
  if n ≤ up && !s.on (F.FEC_STATUS.SD c) then (s.set (F.FEC_STATUS.SD c) 1).fecRaise c 1
  else if n ≤ down && s.on (F.FEC_STATUS.SD c) then (s.set (F.FEC_STATUS.SD c) 0).fecRaise c 4
  else s

/-- What persists over multiframes at the link manager (Table 6.7): 16 of a strange VERSION renegotiate, 64 of a strange
E_CURRENT lose the link. -/
def State.mfChecks (s : State) (c : Carrier) : State :=
  let l := s.line.at c
  let vb := if l.verMf then l.verBad + 1 else 0
  let eb := if l.eMf then l.eBad + 1 else 0
  let s := s.onLine c fun l =>
    { l with verMf := false, verBad := if vb = 16 then 0 else vb, eMf := false, eBad := if eb = 64 then 0 else eb, ohMf := false }
  let s := if vb = 16 then s.renegotiate c else s
  if eb = 64 && s.linkState c = 4 then s.managed (·.enterLost c) else s

/-- The end of a received multiframe (R119): its words wait to be forwarded (R42). -/
def State.rxMfEnd (s : State) (c : Carrier) (bits : Nat) (words : List (BitVec 128)) : State :=
  let s := s.entriesRemade
  let l := s.line.at c
  let s := if l.counting && s.runFrame.forward = 2 then s.onLine c fun l => { l with rxWords := l.rxWords ++ [words] } else s
  let s :=
    if l.counting && bits ≠ 0 then
      let s := s.setSat (F.FEC_BER.BER c) (roundHalfDown (l.corrMf * 2 ^ 32 : Nat) bits).toNat
      (s.setB (F.FEC_STATUS.UNC_MF c) l.uncMf).degrade c l.corrMf bits
    else s
  (s.onLine c fun l => { l with corrMf := 0, uncMf := false, corrHist := (l.corrMf :: l.corrHist).take 16 }).mfChecks c

/-! ### Meanings -/

/-- LINE_FRAME_SEND (R100). -/
def execLineFrameSend (c : Carrier) (s : State) : Host.Outcome State Fault Refusal :=
  .next (s.sendFrame c)

/-- TX_MULTIFRAME_START (R112): a change held with SOLE = 1 is released once M has passed (R138). -/
def execTxMultiframeStart (c : Carrier) (s : State) : Host.Outcome State Fault Refusal :=
  .next (
    let s := s.startMf c
    match kindOf (s.link.at c).held 1 with
    | some p => if p.cstate = 4 && !mfAtLeast p.m (s.txMf c) 1 then s.setHeld c 1 none else s
    | none => s)

/-- ADOPT (R112). -/
def execAdopt (path : Path) (c : Carrier) (s : State) : Host.Outcome State Fault Refusal :=
  .next (s.rwWrite path (R.LINK_NUMBERING c) fun s => s.adopt c)

/-- Whether 128 sign bits match the FAW with at most FAW_TOL bit errors (R110). -/
def State.fawMatches (s : State) (c : Carrier) (signs : List Byte) : Bool := fawErrors signs ≤ s.get (F.LINK_ALIGN_CFG.FAW_TOL c)

/-- FAW_MATCH (Table 5.3): sign bits with more errors are no match. -/
def execFawMatch (c : Carrier) (position : Nat) (signs : List Byte) (s : State) : Host.Outcome State Fault Refusal :=
  .next (if s.fawMatches c signs then s.fawMatch c position else s)

/-- FAW_MISS (Table 5.3): sign bits that match are no miss. -/
def execFawMiss (c : Carrier) (signs : List Byte) (s : State) : Host.Outcome State Fault Refusal :=
  .next (if s.fawMatches c signs then s else s.fawMiss c)

/-- RESYNC (Table 5.3). -/
def execResync (path : Path) (c : Carrier) (s : State) : Host.Outcome State Fault Refusal :=
  .next (s.rwWrite path (R.LINK_ALIGN_CFG c) fun s => s.alignLost c)

/-- OVERHEAD_RECEIVED (R99). -/
def execOverheadReceived (c : Carrier) (bytes : List Byte) (s : State) : Host.Outcome State Fault Refusal :=
  .next (s.overheadIn c bytes)

/-- MCC_CELL_RECEIVED (R113). -/
def execMccCellReceived (c : Carrier) (cell : List Byte) (s : State) : Host.Outcome State Fault Refusal :=
  .next (s.cellIn c cell)

/-- RX_STEP_ARM (R116, R122): only Plough; discarded and counted while armed. -/
def execRxStepArm (path : Path) (c : Carrier) (mf : Nat) (s : State) : Host.Outcome State Fault Refusal :=
  .next (
    if s.isDown (R.LINK_RX_STEP c) then s.downAccess path (R.LINK_RX_STEP c) true
    else s.ploughOnly path c fun s =>
      if s.on (F.LINK_RX_STEP.ARMED c) then s.bump (F.FURROW_TX_STEP_STATUS.DROPPED c) else s.rxStepArm c mf)

/-- RX_STEP_DEADLINE (R116): SW_MISMATCH for an armed step or re-plan without its announcement, once received multiframe M − 8 of its own M
has begun. -/
def execRxStepDeadline (c : Carrier) (s : State) : Host.Outcome State Fault Refusal :=
  .next (
    let due (m : Nat) : Bool := mfAhead m (s.rxMf c) ≤ 8
    let step := s.on (F.LINK_RX_STEP.ARMED c) && due (s.get (F.LINK_RX_STEP.MF c)) && !s.on (F.LINK_RX_STEP.MATCHED c)
    let replan := s.hState = 3 && due (s.get F.PLAN_SWITCH.SWITCH_MF) && (s.line.at c).annReplan ≠ some (s.get F.PLAN_SWITCH.SWITCH_MF)
    if step || replan then s.frameRaise c 6 else s)

/-- RX_STEP_SWITCH (R116): the captured targets take effect if the step matched; ARMED clears, and MATCHED with it (DESIGN CHOICE, log 72). -/
def execRxStepSwitch (c : Carrier) (s : State) : Host.Outcome State Fault Refusal :=
  .next (
    if s.on (F.LINK_RX_STEP.ARMED c) then
      let m := s.get (F.LINK_RX_STEP.MF c)
      let n := s.subCount c
      let s := if s.on (F.LINK_RX_STEP.MATCHED c) then s.onLine c fun l => { l with rxE := l.capE.take n } else s
      ((s.set (F.LINK_RX_STEP.ARMED c) 0).set (F.LINK_RX_STEP.MATCHED c) 0).commitOver c 2 m
    else s)

/-- FEC_BLOCK_DECODED (R119). -/
def execFecBlockDecoded (c : Carrier) (corrected later : Nat) (reached : Option (Fin 13)) (s : State) : Host.Outcome State Fault Refusal :=
  .next (s.decodedBlock c corrected later (reached.map (·.val)))

/-- ENGINE_RESIDUE_FAIL (R117): an engine under test is judged by the test (Table 18.5). -/
def execEngineResidueFail (c : Carrier) (engine : Fin 13) (s : State) : Host.Outcome State Fault Refusal :=
  .next (if s.bistRuns then s else s.engineFail c engine)

/-- FEC_SNAPSHOT (R119): no further effect while one is pending. -/
def execFecSnapshot (path : Path) (c : Carrier) (clear : Bool) (s : State) : Host.Outcome State Fault Refusal :=
  .next (s.rwWrite path (R.FEC_CTRL c) fun s =>
    s.onLine c fun l => if l.snap.isSome then l else { l with snap := some clear })

/-- FEC_SNAPSHOT_COPY (R119). -/
def execFecSnapshotCopy (c : Carrier) (now : List Nat) (s : State) : Host.Outcome State Fault Refusal :=
  .next (s.snapCopy c now)

/-- RX_MULTIFRAME_END (R119). -/
def execRxMultiframeEnd (c : Carrier) (labelBits : Nat) (words : List (BitVec 128)) (s : State) : Host.Outcome State Fault Refusal :=
  .next (s.rxMfEnd c labelBits words)

/-- ENTROPY_STEP (Table 4.5): the first symbol of transmit multiframe M. -/
def execEntropyStep (c : Carrier) (s : State) : Host.Outcome State Fault Refusal :=
  .next (
    if s.stepArmed c then (s.stepDone c).commitOver c 2 (s.get (F.FURROW_TX_STEP.STEP_MF c)) else s)

end Sys2Proof.Machine
end

