-- ==== Sys2Proof/Machine/Link.lean ====
section
/-!
DEFINITION. The meanings of the link manager's commands (chapter 6). What the manager does, it does while Plough runs.
-/
namespace Sys2Proof.Machine

/-- LOCKED (Table 6.2): SEARCH goes to NEGOTIATE; LOST does once its back-off has elapsed, at once for BACKOFF 0. -/
def execLocked (c : Carrier) (s : State) : Host.Outcome State Fault Refusal :=
  .next (s.managed fun s =>
    if !s.locked c then s
    else if s.linkState c = 1 then s.enterNegotiate c
    else if s.linkState c = 5 && ((s.link.at c).backoffOver || s.get (F.LINK_STATE.BACKOFF c) = 0) then s.enterNegotiate c
    else s)

/-- CAPS_RECEIVED (R131, R134): a repeated request is answered again in any state; a new one is taken in NEGOTIATE, ALIGN and TRAFFIC; a
bad length is a violation (Table 6.7). -/
def execCapsReceived (c : Carrier) (tag : Nat) (body : List Byte) (s : State) : Host.Outcome State Fault Refusal :=
  .next (s.managed fun s =>
    (s.mccTake c).linkRequest c tag fun s =>
      match capsOf body with
      | none => s.linkMalformed c 1 tag
      | some k => if s.linkState c = 2 || s.linkState c = 3 || s.linkState c = 4 then s.capsReceived c tag k else s)

/-- CAPS_ACK_RECEIVED (R131): the answer to the CAPS outstanding; kept until the peer's own CAPS gives the agreed values. -/
def execCapsAckReceived (c : Carrier) (tag : Nat) (body : List Byte) (rtt : Nat) (s : State) :
    Host.Outcome State Fault Refusal :=
  .next (s.managed fun s =>
    let s := s.mccTake c
    if body.length ≠ 8 then s.linkMalformed c 2 tag
    else if (s.link.at c).capsTag ≠ some tag then s
    else
      let s := s.setSat (F.LINK_RTT.RTT c) rtt
      match (s.link.at c).agreed with
      | some g => s.capsAck c g body
      | none => s.onLink c fun k => { k with ackSeen := some body })

/-- REQUEST_RETRY (R134): a request without a response is retransmitted with the same TAG, abandoned after the fourth transmission. -/
def execRequestRetry (c : Carrier) (request : Fin 3) (s : State) : Host.Outcome State Fault Refusal :=
  .next (s.managed fun s =>
    let k := s.link.at c
    if request.val = 0 then
      match k.capsTag with
      | none => s
      | some tag =>
        if k.ackSeen.isSome then s
        else if k.capsSends < 4 then
          (s.mccSend c (s.linkMsg c 1 0 tag (s.ownCaps c).body)).onLink c fun k => { k with capsSends := k.capsSends + 1 }
        else if s.linkState c = 2 then (s.backoffUp c).enterLost c
        else s.onLink c fun k => { k with capsTag := none }
    else
      match kindOf k.own request with
      | none => s
      | some p =>
        if p.cstate ≠ 1 then s
        else if p.sends < 4 then
          (s.mccSend c (s.linkMsg c 0x10 0 p.tag p.body)).setOwn c request (some { p with sends := p.sends + 1 })
        else s.withdrawOwn c request)

/-- ALIGN_COMPLETE (Table 6.2): the entropies taken, and the jump made or received where numbering is adopted. -/
def execAlignComplete (c : Carrier) (s : State) : Host.Outcome State Fault Refusal :=
  .next (s.managed fun s =>
    let l := s.line.at c
    let jump := if s.get (F.LINK_NUMBERING.ROLE c) = 2 then l.adopted else l.jumped
    if s.linkState c = 3 && (s.link.at c).eTaken && (!s.adopts c || jump) then (s.toLink c 4).mgrRaise c 0 else s)

/-- ALIGN_TIMEOUT (Table 6.2). -/
def execAlignTimeout (c : Carrier) (s : State) : Host.Outcome State Fault Refusal :=
  .next (s.managed fun s => if s.linkState c = 3 then (s.backoffUp c).enterLost c else s)

/-- LOSS_HOLD_EXPIRED (Table 6.2): LINK_DOWN is sent twice on the headland channel. -/
def execLossHoldExpired (c : Carrier) (s : State) : Host.Outcome State Fault Refusal :=
  .next (s.managed fun s =>
    let st := s.linkState c
    if (st = 2 || st = 3 || st = 4 || st = 6) && !s.locked c then
      let msg := s.linkDownMsg c
      ((s.enterLost c).headlandSend c s.planSub msg).headlandSend c s.planSub msg
    else s)

/-- BACKOFF_EXPIRED (Table 6.2). -/
def execBackoffExpired (c : Carrier) (s : State) : Host.Outcome State Fault Refusal :=
  .next (s.managed fun s =>
    if s.linkState c = 5 then
      if s.locked c then s.enterNegotiate c else s.onLink c fun k => { k with backoffOver := true }
    else s)

/-- INCOMPATIBLE_RETRY (Table 6.2). -/
def execIncompatibleRetry (c : Carrier) (s : State) : Host.Outcome State Fault Refusal :=
  .next (s.managed fun s => if s.linkState c = 6 && s.locked c then s.enterNegotiate c else s)

/-- RENEGOTIATE (R142). -/
def execRenegotiate (path : Path) (c : Carrier) (s : State) : Host.Outcome State Fault Refusal :=
  .next (s.rwWrite path (R.LINK_MGR_CTRL c) fun s => s.renegotiate c)

/-- TAKE_E (R142): Plough only. -/
def execTakeE (path : Path) (c : Carrier) (s : State) : Host.Outcome State Fault Refusal :=
  .next (
    if s.isDown (R.LINK_MGR_CTRL c) then s.downAccess path (R.LINK_MGR_CTRL c) true
    else s.ploughOnly path c fun s => s.takeE c)

/-- TAKE_E_APPLY (R142): the values of the next good overhead take effect. -/
def execTakeEApply (c : Carrier) (s : State) : Host.Outcome State Fault Refusal :=
  .next (
    match (s.line.at c).taken with
    | some (e, b) =>
      (s.onLine c fun l => { l with takeE := false, taken := none, rxE := e, rxB := b, eBad := 0, eMf := false }).onLink c
        fun k => { k with eTaken := true }
    | none => s)

/-- BEACON_TIMER (R126). -/
def execBeaconTimer (c : Carrier) (s : State) : Host.Outcome State Fault Refusal :=
  .next (s.managed fun s => s.sendBeacon c)

/-- BEACON_RECEIVED (R129): every beacon enters the neighbour table, and the candidates are chosen anew; this part's own NODE_ID is a
violation besides, a message of another TYPE or length is ignored (R128, R141), and a changed peer ends INCOMPATIBLE (Table 6.2). -/
def execBeaconReceived (c : Carrier) (bytes : List Byte) (rssi : Nat) (s : State) : Host.Outcome State Fault Refusal :=
  .next (s.managed fun s =>
    if bytes.length ≠ 32 ∨ beNat (slice bytes 0 1) ≠ 1 then s.headlandIgnored c 0x09
    else
      let node := beNat (slice bytes 2 4)
      let changed := s.beaconChanged bytes
      let s := carriers.foldl State.candidate (s.nbEnter bytes rssi)
      let s := if node = s.nodeId then (s.set (F.LINK_NUMBERING.ROLE c) 0).linkViolation c 0x08 else s
      carriers.foldl (fun s c => s.beaconRetry changed node c) s)

/-- QUERY_RECEIVED (R128): one beacon per lit carrier; more than one QUERY in 2 s is ignored. -/
def execQueryReceived (c : Carrier) (bytes : List Byte) (recent : Bool) (s : State) : Host.Outcome State Fault Refusal :=
  .next (s.managed fun s =>
    let target := beNat (slice bytes 2 4)
    if bytes.length ≠ 6 ∨ beNat (slice bytes 0 1) ≠ 2 then s.headlandIgnored c 0x09
    else if target ≠ s.nodeId ∧ target ≠ 0xFFFFFFFF then s
    else if recent then s.headlandIgnored c 0x0A
    else (s.sendBeacon .A).sendBeacon .B)

/-- LINK_DOWN_RECEIVED (R128): beacons in fast mode if it names this part as PEER_NODE. -/
def execLinkDownReceived (c : Carrier) (bytes : List Byte) (s : State) : Host.Outcome State Fault Refusal :=
  .next (s.managed fun s =>
    if bytes.length ≠ 10 ∨ beNat (slice bytes 0 1) ≠ 3 then s.headlandIgnored c 0x09
    else if beNat (slice bytes 6 4) = s.nodeId then s.onLink c fun k => { k with fast := true }
    else s)

/-- NEIGHBOUR_EXPIRED (R129): the entry is freed, and the candidates are chosen anew. -/
def execNeighbourExpired (entry : Fin 16) (s : State) : Host.Outcome State Fault Refusal :=
  .next (s.managed fun s =>
    if s.nbNode entry = 0 then s
    else
      let s := (s.wr (R.LINK_NB_NODE entry) 0).wr (R.LINK_NB_INFO entry) 0
      carriers.foldl State.candidate (({ s with neighbours := s.neighbours.filter (· ≠ entry.val), nbHeard := s.nbHeard.set entry [] }).mgrRaise .A 6))

/-- PROPOSE_RECEIVED (R134, R136, R137). -/
def execProposeReceived (c : Carrier) (tag : Nat) (body : List Byte) (s : State) : Host.Outcome State Fault Refusal :=
  .next (s.managed fun s => (s.mccTake c).linkRequest c tag fun s => s.proposeReceived c tag body)

/-- ACCEPT_RECEIVED (R138): RTT is refreshed by every answered request (R134). -/
def execAcceptReceived (c : Carrier) (tag : Nat) (body : List Byte) (rtt : Nat) (s : State) : Host.Outcome State Fault Refusal :=
  .next (s.managed fun s =>
    let s := s.mccTake c
    let known := (s.link.at c).own.any (fun p => p.tag = tag)
    let s := if known then s.setSat (F.LINK_RTT.RTT c) rtt else s
    s.acceptReceived c tag body)

/-- COMMIT_LEFT_QUEUE (R138). -/
def execCommitLeftQueue (c : Carrier) (step : Bool) (s : State) : Host.Outcome State Fault Refusal :=
  .next (s.managed fun s => s.commitLeft c (if step then 2 else 1))

/-- COMMIT_RECEIVED (R138): the held change is armed; one already armed stays so; no matching proposal is a violation. -/
def execCommitReceived (c : Carrier) (tag : Nat) (body : List Byte) (s : State) : Host.Outcome State Fault Refusal :=
  .next (s.managed fun s =>
    let s := s.mccTake c
    match changeOf body with
    | none => s.linkMalformed c 0x12 tag
    | some (kind, m) => match kindOf (s.link.at c).held kind with
      | some p => if p.m = m then s.armHeld c kind else s.linkViolation c 0x03
      | none => s.linkViolation c 0x03)

/-- WITHDRAW_RECEIVED (R139): releases the hold on M; a change armed already stays so, and SW_MISMATCH answers it (R140, R141). -/
def execWithdrawReceived (c : Carrier) (tag : Nat) (body : List Byte) (s : State) : Host.Outcome State Fault Refusal :=
  .next (s.managed fun s =>
    let s := s.mccTake c
    match changeOf body with
    | none => s.linkMalformed c 0x13 tag
    | some (kind, m) => match kindOf (s.link.at c).held kind with
      | some p =>
        if p.m ≠ m then s.linkViolation c 0x03 else if p.cstate = 2 then (s.setHeld c kind none).commitAbort c else s
      | none => s.linkViolation c 0x03)

/-- NAK_RECEIVED (R137): ends the request it answers, which refreshes a known RTT (R134); on COLLISION the proposal is withdrawn. -/
def execNakReceived (c : Carrier) (tag code rtt : Nat) (s : State) : Host.Outcome State Fault Refusal :=
  .next (s.managed fun s =>
    let s := s.mccTake c
    let k := s.link.at c
    let answers := k.capsTag = some tag || k.own.any (fun p => p.tag = tag && p.cstate = 1)
    let s := if answers && s.rtt c != 0 then s.setSat (F.LINK_RTT.RTT c) rtt else s
    if k.capsTag = some tag then s.onLink c fun k => { k with capsTag := none }
    else match k.own.find? (fun p => p.tag = tag && p.cstate = 1) with
      | some p =>
        if code = 0x08 then s.withdrawOwn c p.kind else s.setOwn c p.kind none
      | none => s)

/-- PROPOSAL_DEADLINE (R139): a proposal neither accepted nor refused is withdrawn. -/
def execProposalDeadline (c : Carrier) (step : Bool) (s : State) : Host.Outcome State Fault Refusal :=
  .next (s.managed fun s =>
    let kind := if step then 2 else 1
    match kindOf (s.link.at c).own kind with
    | some p => if p.cstate = 1 then s.withdrawOwn c kind else s
    | none => s)

/-- ACCEPTED_DEADLINE (R139): an accepted proposal not armed by M − 64 is released, and with it this end's own build (Table 2.20). -/
def execAcceptedDeadline (c : Carrier) (step : Bool) (s : State) : Host.Outcome State Fault Refusal :=
  .next (s.managed fun s =>
    let kind := if step then 2 else 1
    match kindOf (s.link.at c).held kind with
    | some p =>
      if p.cstate = 2 then
        let s := (s.setHeld c kind none).commitAbort c
        if kind = 1 && !p.sole && s.hState = 2 then s.abortSwitch 0x46 else s
      else s
    | none => s)

/-- PROPOSE (R135). -/
def execPropose (c : Carrier) (step sole : Bool) (mf : Nat) (s : State) : Host.Outcome State Fault Refusal :=
  .next (s.managed fun s => s.propose c (if step then 2 else 1) sole mf)

end Sys2Proof.Machine
end

