-- ==== Sys2Proof/Machine/PlanOps.lean ====
section
/-!
DEFINITION. What a plan does to the part (chapter 2): the domains it uses (Tables 2.13 and 2.19), binding (R47), the values its
records write (R48), the stages of a cold apply (Table 2.19), and the hitless re-plan's local side (Table 2.20).
-/
namespace Sys2Proof.Machine

/-! ### Binding -/

/-- The groups of a plan in the order of their logical furrows. -/
def byFirst (gs : List GroupRec) : List GroupRec :=
  (List.range 96).flatMap (fun l => gs.filter (fun g => g.first = l))

/-- Groups bound to the furrows of a pool, in ascending order. -/
def bindGroups : List GroupRec → List Nat → List Bound
  | [], _ => []
  | g :: gs, pool => ⟨g.group, g.kind, g.carrier, g.first, g.count, pool.take g.count⟩ :: bindGroups gs (pool.drop g.count)

/-- The binding of a plan on the healthy furrows (R47). -/
def State.bindPlan (s : State) (p : Plan) : List Bound := bindGroups (byFirst p.groups) s.healthyFurrows

/-! ### Power (Tables 2.13 and 2.19) -/

/-- The line domain and the FEC domain of a carrier (Table 16.1). -/
def lineDomain (c : Carrier) : Nat := 4 + c.idx
def fecDomain (c : Carrier) : Nat := 19 + c.idx

/-- The client and host lane domains of some ports. -/
def Plan.portDomains (p : Plan) (ports : List Nat) : List Nat :=
  if ports.isEmpty then []
  else 25 :: ((ports.filterMap p.port).flatMap (fun q => q.laneList.map (fun l => 21 + l / 4))).eraseDups

/-- Every domain a plan uses, with its binding. -/
def Plan.domains (p : Plan) (bs : List Bound) : List Nat :=
  let lit := carriers.filter (fun c => ((p.carrier c).map (fun r => r.tx || r.rx)).getD false)
  lit.map lineDomain ++ (lit.filter (fun c => (p.fec c).isSome)).map fecDomain ++ furrowDomains bs ++ p.portDomains p.portList

/-- POWER FLAGS bit 0: unused furrow groups and converters are gated; it is 1 without a record (Table 2.13). -/
def Plan.gates (p : Plan) : Bool :=
  match p.rec? 9 0 with
  | some r => r.le 1 1 % 2 = 1
  | none => true

/-- PL_REQUEST of a plan: clamped to MIN_PL; MIN_PL without a record (Table 2.13). -/
def Plan.plRequest (p : Plan) : Nat :=
  match p.rec? 9 0 with
  | some r => min (min 3 (r.le 0 1)) p.minPl
  | none => p.minPl

/-- Domains that keep the plan's vote although the plan does not use them: line domains, furrow groups and host lane quads while its
POWER FLAGS do not let them be gated (Table 2.13, R144). -/
def Plan.spares (p : Plan) (d : Nat) : Bool := !p.gates && (4 ≤ d && d ≤ 18 || 21 ≤ d && d ≤ 24)

/-- The plan's vote is set on the domains it uses and withdrawn from the others but those it spares. -/
def State.planVotesFor (s : State) (p : Plan) (bs : List Bound) : State :=
  let used := p.domains bs
  let spared (d : Nat) : Bool := p.spares d
  let others := ((List.range 23).map (3 + ·)).filter (fun d => !used.contains d && !spared d)
  (s.planVotes used true).planVotes others false

/-- The plan's vote withdrawn from every domain. -/
def State.planVotesNone (s : State) : State := s.planVotes ((List.range 23).map (3 + ·)) false

/-- A carrier's link manager votes, or withdraws its votes, on the carrier's domains (Table 16.11). -/
def State.linkVotes (s : State) (c : Carrier) (v : Bool) : State :=
  match s.plan.running with
  | none => s
  | some p =>
    let ports := p.portList.filter (fun n => !(p.portSlots c n).isEmpty)
    let ds := [lineDomain c, fecDomain c] ++ furrowDomains (s.plan.bound.filter (fun b => b.carrier = c)) ++ p.portDomains ports
    ds.foldl (fun s d => s.vote d (4 + c.idx) v) s

/-! ### t0: what stops (Tables 2.19, 3.5, 6.2, 7.2, 8.3) -/

/-- A carrier's link manager goes to DARK: its votes are withdrawn, and what it agreed is over. -/
def State.linkDark (s : State) (c : Carrier) : State :=
  let s := if s.linkState c = 0 then s else s.linkVotes c false
  let tag := s.linkTag c
  let s := (s.onLink c fun _ => { nextTag := tag }).toLink c 0
  let s := (s.wr (R.LINK_COMMIT c) 0).wr (R.LINK_FEATURES c) 0
  let s := (s.wr (R.LINK_PEER_FEATURES c) 0).set (F.LINK_NUMBERING.ROLE c) 0
  let s := (s.set (F.LINK_STATE.FRAME_MAJOR c) 0).set (F.LINK_STATE.FRAME_MINOR c) 0
  ((s.set (F.LINK_STATE.WMP_MAJOR c) 0).set (F.LINK_STATE.WMP_MINOR c) 0).set (F.LINK_STATE.BACKOFF c) 0

/-- A carrier's armed entropy steps are discarded (Table 4.5, R122). -/
def State.stepsDiscard (s : State) (c : Carrier) : State :=
  ((s.set (F.FURROW_TX_STEP.ARMED c) 0).set (F.LINK_RX_STEP.ARMED c) 0).set (F.LINK_RX_STEP.MATCHED c) 0

/-- Client ports and host lanes go to DISABLED. Table 7.2's row for the cold apply names no action, so a lane that leaves DATA or IDLE so raises no
DATA_DOWN (DESIGN CHOICE, log 84). -/
def State.hostSideStops (s : State) : State :=
  let s := (List.range 16).foldl (fun s p => s.toIngress p 0) s
  (List.range 16).foldl (fun s n => if s.laneState n = 0 then s else (s.toLane n 0).set (F.HOSTLANE_STATE.PARTNER n) 0) s

/-- The status that a carrier's receive stages have shown is over with them (R51). -/
def State.rxStatusClear (s : State) (c : Carrier) : State :=
  let s := [R.FURROW_RX_ACQ_TIME c, R.FURROW_RX_CD_EST c, R.FURROW_RX_CLK_OFFSET c, R.FURROW_RX_FO_EST c, R.FURROW_RX_SNR c,
    R.FURROW_RX_OSNR c, R.FURROW_RX_DGD c, R.FURROW_RX_PDL c, R.FURROW_RX_Q c].foldl (fun s a => s.wr a 0) s
  (List.range 16).foldl (fun s k => s.wr (R.FURROW_RX_SC_SNR c k) 0) (s.set (F.FURROW_RX_STATE.RETRIES c) 0)

/-- A carrier's receive groups are released: its chain is IDLE, its status reads 0, and a running swap comparison ends (Table 3.5, R51,
R60). -/
def State.rxRelease (s : State) (c : Carrier) : State :=
  (((s.clearAdaptive c).toRx c 0).evalAbandon c).rxStatusClear c

/-- A cold apply starts (t0): APPLYING, egress at local fault, transmitters ramp down, links DARK; a re-plan is superseded. -/
def State.applyStart (s : State) : State :=
  let s := if s.hState = 0 then s else s.abortSwitch 0x47
  let s := (s.toBuf 6).onPlan fun q => { q with applyMs := 0 }
  let s := s.egressAll.headlandAbort
  let s := carriers.foldl State.rampDown s
  let s := carriers.foldl State.linkDark s
  let s := carriers.foldl State.stepsDiscard s
  s.hostSideStops.toTt 0

/-! ### t0 + 20 ms: stage programs -/

/-- An NLC set as words of a bank (R57). -/
def nlcWords (ts : List NlcTerm) : Store Word :=
  ts.zipIdx.foldl (fun st p =>
    let re := ofSigned 24 p.1.re
    let w0 : Word := BitVec.ofNat 32 (ofSigned 8 p.1.m + 256 * ofSigned 8 p.1.n + 65536 * (re % 65536))
    let w1 : Word := BitVec.ofNat 32 (re / 65536 + 256 * ofSigned 24 p.1.im)
    Store.write (fun _ => 0) (Store.write (fun _ => 0) st (2 * p.2) w0) (2 * p.2 + 1) w1) []

/-- A swap pending in a group that is replaced is discarded, a pair's at both carriers (R72). -/
def State.swapDiscard (s : State) (c : Carrier) : State :=
  let s := if s.on (F.FURROW_RX_NLC_CTRL.SWAP_PENDING c) && (s.rx.at c).pair then s.set (F.FURROW_RX_NLC_CTRL.SWAP_PENDING c.other) 0 else s
  s.set (F.FURROW_RX_NLC_CTRL.SWAP_PENDING c) 0

/-- A carrier's NLC groups start with NLC_INIT in the active bank and an empty shadow (R58). -/
def State.nlcStart (s : State) (c : Carrier) (p : Plan) : State :=
  let ts := p.nlcInit c
  let s := s.swapDiscard c
  let set := nlcWords ts
  let active := s.on (F.FURROW_RX_NLC_CTRL.ACTIVE_BANK c)
  let s := s.onRx c fun r =>
    { r with bank0 := if active then [] else set, bank1 := if active then set else [], pair := false, owner := true, reverting := false }
  let s := (s.set (F.FURROW_RX_NLC_TERMS.ACTIVE c) ts.length).set (F.FURROW_RX_NLC_TERMS.SHADOW c) 0
  s.evalAbandon c

/-- A carrier's SHAPING ranges (R39). -/
def State.rangesWrite (s : State) (c : Carrier) (p : Plan) : State :=
  (p.shaping c).zipIdx.foldl (fun s x =>
    let s := (s.set (F.FURROW_TX_SC_RANGE.MIN c x.2) x.1.min).set (F.FURROW_TX_SC_RANGE.MAX c x.2) x.1.max
    (s.set (F.FURROW_TX_SC_RANGE.MAX_STEP c x.2) x.1.maxStep).set (F.FURROW_TX_SC_RANGE.HOLD_MF c x.2) x.1.holdMf) s

/-- A headland field of the HEADLAND record, clamped, or its default (Table 2.14). -/
def Plan.headland (p : Plan) (off n lo hi dflt : Nat) : Nat :=
  match p.rec? 0x0D 0 with
  | some r => clampN lo hi (r.le off n)
  | none => dflt

/-- The transmit registers of a carrier that plan records set (R48, R75, R91); REASON starts at 0 (DESIGN CHOICE, log 71). -/
def State.txRegs (s : State) (c : Carrier) (p : Plan) : State :=
  let ro := ((p.carrier c).map (·.rollOff)).getD 0
  let subs := p.subs c
  let s := (s.set (F.FURROW_TX_ROLL_OFF.PLAN c) ro).set (F.FURROW_TX_ROLL_OFF.EFFECTIVE c) (min ro 125)
  let s := s.set (F.FURROW_TX_STEP.REASON c) 0
  let s := (List.range 16).foldl (fun s k =>
    let x := nth subs k ⟨0, 0, 0⟩
    let s := (s.set (F.FURROW_TX_SC_ENTROPY.TARGET c k) x.entropy).set (F.FURROW_TX_SC_ENTROPY.CURRENT c k) x.entropy
    let s := (s.set (F.FURROW_TX_SC_ENTROPY.BASE c k) x.base).wr (R.FURROW_TX_SC_RANGE c k) 0
    (s.setS (F.FURROW_TX_SC_POWER.OFFSET c k) x.power).wr (R.FURROW_TX_SC_LAST_STEP c k) 0) s
  s.rangesWrite c p

/-- The receive registers and filters of a carrier at binding: CD_SET, NLC sets, and equaliser filters as new; the tap shadow holds zeros
(DESIGN CHOICE, log 69: the spec gives it identity taps at a re-plan's switch only). -/
def State.rxRegs (s : State) (c : Carrier) (p : Plan) : State :=
  let cd := ((p.carrier c).map (·.cdPreset)).getD 0
  let s := s.setS (F.FURROW_RX_CD_SET.VALUE c) (clampI (-s.cdRange c) (s.cdRange c) cd)
  let s := s.nlcStart c p
  let s := (List.range 16).foldl (fun s k => s.set (F.FURROW_RX_SC_TAP_CMD.BUSY c k) 0) s
  let taps := (List.range 16).map (fun k => s.get (F.FURROW_RX_SC_EQ_CTRL.TAPS c k))
  s.onRx c fun r =>
    { r with
      tapShadow := List.replicate 16 [], tapCmd := List.replicate 16 none, tapsInUse := taps, cd := { r.cd with moving := true }
      bypass := s.on (F.FURROW_RX_NLC_CTRL.BYPASS c), avgMf := s.get (F.FURROW_RX_EST_CTRL.AVG_MF c) }

/-- t0 + 20 ms: the groups are bound, and stage programs, routes and NLC_INIT loaded. -/
def State.applyBind (s : State) (p : Plan) : State :=
  let s := carriers.foldl State.rxRelease s
  let s := s.onPlan fun q => { q with bound := s.bindPlan p, build := [] }
  let s := s.set F.PLAN_FURROWS.RUNNING p.furrowTotal
  carriers.foldl (fun s c => (s.rxRegs c p).txRegs c p) s

/-! ### t0 + 60 ms: loops, headland, time -/

/-- LOOP_DEFAULTS of a loop (R41): held, written word by word, handed over. -/
def State.loopDefaults (s : State) (n : Nat) (r : Rec) : State :=
  let s := s.loopHold n 4
  let s := ((r.entries 0 4).take 24).zipIdx.foldl (fun s w => s.loopWrite n (4 * w.2) (BitVec.ofNat 32 (leNat w.1))) s
  let mode := s.get (F.LOOP_CTRL.MODE n)
  let s := s.handOver n mode
  if mode ≠ 0 && s.on F.PDAC_OT_STATUS.LATCHED && s.on (F.PDAC_CH_CFG.OT_SAFE (s.loopDac n)) then s.loopHold n 2 else s

/-- The loops of a plan. -/
def State.loopsApply (s : State) (p : Plan) : State :=
  (List.range 16).foldl (fun s n => match p.rec? 0x0C n with
    | some r => s.loopDefaults n r
    | none => s) s

/-- What the HEADLAND record sets (Table 2.14, R91). -/
def State.headlandApply (s : State) (p : Plan) : State :=
  let s := s.set F.HEADLAND_TX_CTRL.SUB (p.headland 0 1 0 7 0)
  let s := s.set F.HEADLAND_BEACON.INTERVAL (p.headland 2 2 100 10000 1000)
  let s := s.set F.HEADLAND_RX_CFG.SYNC_TOL (p.headland 4 1 0 8 3)
  let s := s.set F.HEADLAND_RX_CFG.CAPTURE_DB (p.headland 5 1 0 20 6)
  let s := s.set F.HEADLAND_RX_CFG.RX_MASK (p.headland 6 1 0 0xFF 0xFF)
  let s := carriers.foldl (fun s c => s.set (F.FURROW_TX_HL.DEPTH c) (p.headland 1 1 5 40 10)) s
  let s := s.wr R.HEADLAND_SYNC_WORD (BitVec.ofNat 32 (p.headland 8 4 0 0xFFFFFFFF 0x5A0FC3B1))
  ((List.range 8).foldl (fun s k => if s.listens k then s else s.abandon k) s).showSettled

/-- The TIME registers (Table 2.15, R189); REF 2 enables TC0 (R203). -/
def State.timeApply (s : State) (p : Plan) : State :=
  let f (off n d : Nat) : Nat := match p.rec? 0x0E 0 with
    | some r => r.le off n
    | none => d
  let role := min 2 (f 1 1 0)
  let ref := min 3 (f 0 1 0)
  let ref := if ref = 3 && role ≠ 2 then 0 else ref
  let s := if ref = s.get F.TIME_STATUS.REF && role = s.get F.TIME_STATUS.ROLE then s else s.servoStop
  let s := if ref = 2 then s.set (F.TC_CTRL.EN 0) 1 else s
  ((s.set F.TIME_STATUS.REF ref).set F.TIME_STATUS.ROLE role).set F.TIME_ASYMMETRY.VALUE (f 4 4 0)

/-! ### t0 + 80 ms: framer, FEC, client, host lanes -/

/-- The degrade thresholds of a code (R119). -/
def sdSet : Nat → Nat
  | 0 => 22649
  | 1 => 32086
  | _ => 42467
def sdClear : Nat → Nat
  | 0 => 20133
  | 1 => 28521
  | _ => 37749

/-- A carrier's FEC registers: engines bound in ascending order, the next healthy one held as the spare (R117). -/
def State.fecApply (s : State) (c : Carrier) (p : Plan) : State :=
  let s := (s.set (F.FEC_STATUS.SD c) 0).set (F.FEC_STATUS.UNC_MF c) 0
  match p.fec c with
  | none =>
    ((s.set (F.FEC_CFG.ENGINES c) 0).set (F.FEC_CFG.SPARE_HELD c) 0).set (F.FEC_ENGINES.ACTIVE c) 0 |>.set (F.FEC_CFG.CODE c) 0
  | some f =>
    let es := s.healthyEngines c
    let s := (s.set (F.FEC_CFG.CODE c) f.code).set (F.FEC_CFG.ENGINES c) f.engines
    let s := s.setB (F.FEC_CFG.SPARE_HELD c) (!f.noSpare && f.engines < es.length)
    let s := s.set (F.FEC_ENGINES.ACTIVE c) (((es.take f.engines).map (2 ^ ·)).foldl (· + ·) 0)
    (s.set (F.FEC_SD.SD_SET c) (sdSet f.code)).set (F.FEC_SD.SD_CLEAR c) (sdClear f.code)

/-- A carrier's framer as new: frame 0 is the next (R95, R101), with its slot map; receive entropies are the plan's own (R68). -/
def State.framerApply (s : State) (c : Carrier) (p : Plan) : State :=
  let subs := p.subs c
  let s := s.onLine c fun l => { live := l.live, rxE := subs.map (·.entropy), rxB := subs.map (·.base) }
  let s := (s.wr (R.LINK_TX_FRAME c) 0).wr (R.LINK_RX_FRAME c) 0
  let s := s.set (F.FURROW_TX_SLOTS.USED c) ((p.slots c).foldl (fun a k => max a (k + 1)) 0)
  s.setB (F.LINE_TX_CTRL.ENABLED c) (((p.carrier c).map (·.tx)).getD false)

/-- A client port's registers and stream state (Table 8.1). -/
def State.portApply (s : State) (n : Nat) (p : Plan) : State :=
  let q := s.port n
  let s := (s.onPort n fun _ => { live := q.live }).wr (R.CLIENT_STATE n) 0
  let s := s.wr (R.CLIENT_CFG n) 0
  match p.port n with
  | none => s
  | some r =>
    let on (c : Carrier) : Nat := if (p.portSlots c n).isEmpty then 0 else 2 ^ c.idx
    let s := ((s.set (F.CLIENT_CFG.IN_USE n) 1).set (F.CLIENT_CFG.RATE n) r.rate).set (F.CLIENT_CFG.LANE_RATE n) r.laneRate
    let s := ((s.setB (F.CLIENT_CFG.REVERTIVE n) r.revertive).set (F.CLIENT_CFG.CARRIERS n) (on .A + on .B))
    let s := ((s.set (F.CLIENT_CFG.LANES n) r.lanes).set (F.CLIENT_CFG.FIRST_LANE n) r.firstLane).set (F.CLIENT_CFG.SLOTS n) (slotsOf r.rate)
    if p.mode = 2 then s.set (F.CLIENT_STATE.SELECTED n) 1 else s

/-- A host lane's registers: the port that holds it, its rate, and the starting precoding (R37, R146). -/
def State.laneApply (s : State) (n : Nat) (p : Plan) : State :=
  let s := ((s.set (F.HOSTLANE_STATE.IN_PORT n) 0).set (F.HOSTLANE_STATE.PORT n) 0).set (F.HOSTLANE_STATE.RATE n) 0
  match p.portList.find? (fun m => ((p.port m).map (fun q => q.laneList.contains n)).getD false) with
  | none => s
  | some m =>
    match p.port m with
    | none => s
    | some q =>
      let s := ((s.set (F.HOSTLANE_STATE.IN_PORT n) 1).set (F.HOSTLANE_STATE.PORT n) m).set (F.HOSTLANE_STATE.RATE n) q.laneRate
      (s.setB (F.HOSTLANE_TX_CFG.PRECODE_TX n) q.precodeTx).setB (F.HOSTLANE_RX_CFG.PRECODE_RX n) q.precodeRx

/-- The lanes of a port leave DISABLED: host lanes begin training (Tables 2.19 and 7.2). -/
def State.lanesStart (s : State) : State :=
  (List.range 16).foldl (fun s n => if s.on (F.HOSTLANE_STATE.IN_PORT n) then s.noSignal n else s) s

/-- t0 + 80 ms. -/
def State.applyFramer (s : State) (p : Plan) : State :=
  let s := carriers.foldl (fun s c => (s.fecApply c p).framerApply c p) s
  let s := (List.range 16).foldl (fun s n => s.portApply n p) s
  ((List.range 16).foldl (fun s n => s.laneApply n p) s).lanesStart

/-! ### The stages in order -/

/-- One stage of Table 2.19. -/
def State.applyStage (s : State) (p : Plan) (ms : Nat) : State :=
  match ms with
  | 1 => (s.planVotesFor p (s.bindPlan p)).plLoad p.minPl p.plRequest
  | 20 => s.applyBind p
  | 40 => s.calColdApply
  | 60 => ((s.loopsApply p).headlandApply p).timeApply p
  | 80 => s.applyFramer p
  | _ => s

/-- The stages up to `ms` that have not run. -/
def State.applyUpTo (s : State) (ms : Nat) : State :=
  let p := imgPlan s.plan.buf
  let due := [1, 5, 20, 40, 60, 80].filter (fun t => s.plan.applyMs < t && t ≤ ms)
  (due.foldl (fun s t => s.applyStage p t) s).onPlan fun q => { q with applyMs := max q.applyMs ms }

/-! ### t0 + 100 ms -/

/-- APPLIED at a carrier: its receive chain acquires, its link manager leaves DARK with its votes set, beacons fast (Tables 3.5 and
6.2). Without Plough links stay in DARK (R279). -/
def State.carrierApplied (s : State) (c : Carrier) (p : Plan) : State :=
  let tx := ((p.carrier c).map (·.tx)).getD false
  let rx := ((p.carrier c).map (·.rx)).getD false
  let s := (s.netUpdate c).gradualJump c
  let s := if rx then (s.set (F.FURROW_RX_STATE.RETRIES c) 0).toRx c 1 else s
  let s := s.rampUp c
  if tx && rx && p.frame.isSome && s.cpu ≠ 0 && s.cpu ≠ 4 then ((s.toLink c 1).onLink c fun k => { k with fast := true }).linkVotes c true else s

/-- `GLOBAL_MODE` follows the plan applied: MODE_CHANGED if the mode differs (R16, R25). -/
def State.modeApply (s : State) (mode minPl : Nat) : State :=
  let was := s.mode
  let s := (s.set F.GLOBAL_MODE.MODE mode).set F.GLOBAL_MODE.MIN_PL minPl
  if was = mode then s else s.raiseEvent 0x00 2 0x0002

/-- The cold apply is complete (t0 + 100 ms). -/
def State.applyDone (s : State) : State :=
  let p := imgPlan s.plan.buf
  let s := (s.applyUpTo 80).toBuf 4
  let s := s.onPlan fun q => { q with running := some p }
  let s := s.set F.PLAN_RUN_EPOCH.EPOCH p.epoch
  let s := carriers.foldl (fun s c => s.carrierApplied c p) s
  let s := s.modeApply p.mode p.minPl
  let s := (List.range 16).foldl (fun s n => if s.portUsed n then (s.toIngress n 1).lanesChanged n else s) s
  let s := s.egressAll.raiseEvent 0x02 3 0x0250
  if p.holdsVote then s else s.planVotesNone

/-! ### Hitless re-plan (R49, R50, Table 2.20) -/

/-- The control registers of a carrier's window that belong to a group of a kind: a new group copies them, and writes during BUILDING do not
reach it (R72, Table 3.6; that those which the table does not name are copied too is DEDUCED, log 24). -/
def copiedRegs (c : Carrier) (kind : Nat) : List Nat :=
  match kind with
  | 0x10 => [R.FURROW_RX_CD_CTRL c, R.FURROW_RX_CD_SET c, R.FURROW_RX_SKEW_XI c, R.FURROW_RX_SKEW_XQ c, R.FURROW_RX_SKEW_YI c, R.FURROW_RX_SKEW_YQ c]
  | 0x11 => [R.FURROW_RX_CD_CTRL c, R.FURROW_RX_CD_SET c, R.FURROW_RX_SKEW_XI c, R.FURROW_RX_SKEW_XQ c, R.FURROW_RX_SKEW_YI c, R.FURROW_RX_SKEW_YQ c]
  | 0x12 => [R.FURROW_RX_NLC_CTRL c, R.FURROW_RX_NLC_PARAM c]
  | 0x13 => [R.FURROW_RX_NLC_CTRL c, R.FURROW_RX_NLC_PARAM c]
  | 0x14 => (List.range 16).map fun k => R.FURROW_RX_SC_EQ_CTRL c k
  | 0x15 => [R.FURROW_RX_CLK_CTRL c, R.FURROW_RX_CPR_CTRL c]
  | 0x16 => [R.FURROW_RX_DEMAP_CTRL c]
  | _ => []

/-- The new receive groups of a build copy the old groups' state (Table 3.6). -/
def State.rxCopy (s : State) (c : Carrier) : State :=
  let kinds := (s.plan.build.filter (fun b => b.carrier = c)).map (·.kind)
  s.onRx c fun r =>
    { r with copy := { regs := (kinds.flatMap (copiedRegs c)).map fun a => (a, s.rd a), cd := r.cd, skew := r.skew, taps := r.tapLive, lengths := r.tapsInUse } }

/-- PREPARE_HITLESS with the buffer VALID: check 24, then the new groups are bound in furrows that the running plan does not use;
a faster MIN_PL raises the level first (R330). -/
def State.prepare (s : State) : State :=
  let p := imgPlan s.plan.buf
  let headroom := s.healthyFurrows.length - s.get F.PLAN_FURROWS.RUNNING
  match p.check24 s.plan.running (s.get F.PLAN_RUN_EPOCH.EPOCH) headroom with
  | some (reason, k) => s.rejectPlan 4 reason k
  | none =>
    let s := if p.minPl < s.level then s.plRequest p.minPl else s
    let held := s.plan.bound.flatMap (·.furrows)
    let pool := s.healthyFurrows.filter (fun f => !held.contains f)
    let fresh := match s.plan.running with
      | some run => p.newGroups run
      | none => []
    let build := bindGroups (byFirst fresh) pool
    let s := s.onPlan fun q => { q with build := build, converged := [], proposedMf := none, rxSwitched := [] }
    let s := carriers.foldl State.rxCopy s
    let s := s.set F.PLAN_FURROWS.BUILDING ((build.map (·.count)).foldl (· + ·) 0)
    (s.planVotes (furrowDomains build) true).toH 1

/-- Groups that report convergence: receive groups but the NLC ones, which converge at once, as transmit groups do (R72, R90). -/
def Bound.reports (b : Bound) : Bool := b.kind = 0x10 || b.kind = 0x11 || b.kind = 0x14 || b.kind = 0x15 || b.kind = 0x16 || b.kind = 0x21

/-- All new groups have converged. -/
def State.allConverged (s : State) : Bool := s.plan.build.all (fun b => !b.reports || s.plan.converged.contains b.group)

/-- Carriers whose receive selectors are still to switch. -/
def State.rxToSwitch (s : State) : List Carrier :=
  carriers.filter fun c => ((s.runCarrier c).map (·.rx)).getD false && !s.plan.rxSwitched.contains c

/-- The identity taps of a shadow window (R64). -/
def identityShadow : Store Word := [(8, 0x2000), (93, 0x2000), (178, 0x2000), (263, 0x2000)]

/-- A group's control register takes the word that it copied; the status bits of `FURROW_RX_NLC_CTRL` are the stage's own. -/
def State.restore (s : State) (c : Carrier) (a : Nat) (w : Word) : State :=
  if a = R.FURROW_RX_NLC_CTRL c then s.wr a (withBits w 8 6 (bitsOf (s.rd a) 8 6)) else s.wr a w

/-- A receive chain's selector takes the new groups' output: its windows address the new groups, with what they copied and have adapted
since (R58, R72). -/
def State.rxSwitch (s : State) (c : Carrier) : State :=
  let p := imgPlan s.plan.buf
  let built (k : Nat) : Bool := s.plan.build.any (fun b => b.carrier = c && b.kind = k)
  let nlc (k : Nat) : Bool := k = 0x12 || k = 0x13
  let drops := s.plan.bound.any (fun b => b.carrier = c && nlc b.kind) && !p.groups.any (fun g => g.carrier = c && nlc g.kind)
  let copy := (s.rx.at c).copy
  let s := copy.regs.foldl (fun s x => s.restore c x.1 x.2) (s.evalAbandon c)
  let s := s.onRx c fun r =>
    { r with
      cd := if built 0x10 || built 0x11 then copy.cd else r.cd
      skew := if built 0x10 || built 0x11 then copy.skew else r.skew,
      tapLive := if built 0x14 then copy.taps else r.tapLive,
      tapsInUse := if built 0x14 then copy.lengths else r.tapsInUse,
      copy := {} }
  let s := if built 0x12 || built 0x13 then s.nlcStart c p else if drops then s.swapDiscard c else s
  let s := if built 0x14 then
      let s := (List.range (s.subCount c)).foldl (fun s k => s.set (F.FURROW_RX_SC_STATUS.CONVERGED c k) 1) s
      (List.range 16).foldl (fun s k => s.set (F.FURROW_RX_SC_TAP_CMD.BUSY c k) 0)
        (s.onRx c fun r => { r with tapCmd := List.replicate 16 none, tapShadow := List.replicate 16 identityShadow })
    else s
  s.onPlan fun q => { q with rxSwitched := c :: q.rxSwitched }

/-- The first symbol of transmit multiframe M: SWITCHING; a response LOAD pending in a replaced group is discarded (R90); receive
chains without alignment switch at once. -/
def State.switchStart (s : State) : State :=
  let s := s.toH 4
  let s := carriers.foldl (fun s c =>
    if s.plan.build.any (fun b => b.carrier = c && b.kind = 2) then s.set (F.FURROW_TX_RESP.BUSY c) 0 else s) s
  s.rxToSwitch.foldl (fun s c => if s.alignState c = 2 then s else s.rxSwitch c) s

/-- The POWER record is applied: votes, PL_REQUEST (Tables 2.13 and 2.20). -/
def State.powerApply (s : State) (p : Plan) : State :=
  let s := s.planVotesFor p s.plan.bound
  let s := if p.holdsVote then s else s.planVotesNone
  s.plLoad p.minPl p.plRequest

/-- A re-plan that leaves POWER unchanged keeps the level asked for, never slower than the new MIN_PL (R17, R48); the plan's vote
follows its groups from one set of furrow groups to the next. -/
def State.votesFollow (s : State) (p : Plan) (was : List Bound) : State :=
  let now := furrowDomains s.plan.bound
  let s := if p.holdsVote then s.planVotes now true else s
  let s := s.planVotes ((furrowDomains was).filter (fun d => !p.holdsVote || !now.contains d && !p.spares d)) false
  s.plLoad p.minPl (s.get F.PWR_PL.REQUEST)

/-- All selectors have switched: the old groups are released, POWER applied, the epoch taken (Table 2.20). -/
def State.switchDone (s : State) : State :=
  let p := imgPlan s.plan.buf
  let m := s.get F.PLAN_SWITCH.SWITCH_MF
  let sole (c : Carrier) : Bool := (s.link.at c).own.any (fun q => q.kind = 1 && q.m = m && q.sole)
    || ((s.link.at c).negotiated.isSome && (s.line.at c).annReplan ≠ some m)
  let s := carriers.foldl (fun s c => if sole c then s.bump (F.LINK_LINK_COUNT.SOLE_SWITCH c) else s) s
  let was := s.plan.bound ++ s.plan.build
  let kept := s.plan.bound.filter (fun b => p.groups.any (fun g =>
    g.group = b.group && g.kind = b.kind && g.carrier = b.carrier && g.first = b.first && g.count = b.count))
  let changed (t : Nat) (c : Carrier) : Bool := (s.plan.running.bind (·.rec? t c.idx)) ≠ p.rec? t c.idx
  let power := changed 9 .A
  let s := carriers.foldl (fun s c => if changed 0x0A c then s.rangesWrite c p else s) s
  let s := s.onPlan fun q => { q with bound := kept ++ q.build, build := [], converged := [], rxSwitched := [], proposedMf := none, running := some p }
  let s := ((s.set F.PLAN_FURROWS.RUNNING p.furrowTotal).set F.PLAN_FURROWS.BUILDING 0).toH 0
  let s := if power then s.powerApply p else s.votesFollow p was
  let s := s.set F.GLOBAL_MODE.MIN_PL p.minPl
  let s := s.set F.PLAN_RUN_EPOCH.EPOCH p.epoch
  let s := carriers.foldl (fun s c => s.commitOver c 1 m) s
  s.raiseEvent 0x02 6 0x0251

/-! ### Validation ends, and boot (R43, R46) -/

/-- A boot slot is loaded and its validation started. -/
def State.bootSlot (s : State) (slot : Nat) : State :=
  let s := (s.loadSlot slot).loaded
  let s := s.onPlan fun q => { q with delivered := q.expected, bootTried := slot :: q.bootTried }
  s.startValidation .boot

/-- The boot plan's load and validation start (R46). -/
def State.bootPlan (s : State) : State :=
  (s.onPlan fun q => { q with bootTried := [] }).bootSlot (s.get F.PLAN_BOOT.BOOT_SLOT)

/-- A boot slot is rejected: the other one is tried; after both, no plan (R46). -/
def State.bootRejected (s : State) : State :=
  let tried := s.plan.bootTried
  let s := s.raise 0x02 8
  if tried.length < 2 then s.bootSlot (1 - nth tried 0 0)
  else (s.set F.PLAN_BOOT.NO_PLAN 1).event 0x0252

/-- Whether the buffer's plan may be applied: not in a shut-down (R336); in RETIRED only STANDBY (Table 14.10). -/
def State.mayApply (s : State) : Bool := !s.shut && (s.get F.SEC_LC.STATE != 4 || (imgPlan s.plan.buf).mode = 5)

/-- Validation ends (Table 2.18). A command that waited for it goes on if the plan may be applied. -/
def State.validated (s : State) : State :=
  let after := s.plan.after
  match s.validation with
  | some (reason, k) =>
    let s := s.rejectPlan 5 reason k
    if after = .boot then s.bootRejected else s
  | none =>
    let s := ((s.toBuf 4).set F.PLAN_STATUS.REASON 0).set F.PLAN_STATUS.RECORD 0xFFFF
    let s := s.raise 0x02 1
    match after with
    | .validate => s
    | .applyCold => if s.mayApply then s.applyStart else s
    | .prepareHitless => if s.hState = 0 && s.mayApply then s.prepare else s
    | .boot => if !s.mayApply then s else (s.set F.PLAN_BOOT.LAST_BOOT_SLOT (nth s.plan.bootTried 0 0)).applyStart

end Sys2Proof.Machine
end

