-- ==== Sys2Proof/Machine/SecOps.lean ====
section
/-!
DEFINITION. Firmware, sessions and life cycle (chapter 14): sessions and lockout
(R288 to R291), keys (R284, R285), images (R280 to R283), the life cycle (R294), Plough and its tasks (R295, R296), and the
processors' part of the boot chain (R279).
-/
namespace Sys2Proof.Machine

/-! ### Sessions (R288, R289, R291) -/

/-- The key of a role. -/
def State.roleKey (s : State) (r : Nat) : List Byte := (nth s.sec.roleKeys (r - 1) none).getD []

/-- Whether a role is locked: its lockout time has not run out. -/
def State.locked? (s : State) (r : Nat) : Bool := s.on (F.SEC_LOCKOUT.LEFT (r - 1))

/-- The lockout of a lockout count (R291), in seconds. -/
def lockSeconds (n : Nat) : Nat := min 3840 (60 * 2 ^ (n - 1))

/-- GLOBAL_ID as 4 little-endian bytes. -/
def State.idBytes (s : State) : List Byte := leBytes 4 (s.rd R.GLOBAL_ID).toNat

/-- ASCII labels of R289. -/
def labelH : List Byte := [0x57, 0x4D, 0x50, 0x2D, 0x48]
def labelD : List Byte := [0x57, 0x4D, 0x50, 0x2D, 0x44]
def labelOkm : List Byte := [0x54, 0x33, 0x32, 0x38, 0x30, 0x20, 0x57, 0x4D, 0x50, 0x20, 0x73, 0x65, 0x73, 0x73, 0x69, 0x6F, 0x6E]

/-- A proof of R289: label, the two nonces in its order, SID, ROLE, PATH and GLOBAL_ID under the role key. -/
def State.proof (s : State) (label n1 n2 : List Byte) (sid role path : Nat) : List Byte :=
  Config.hmac (s.roleKey role) (label ++ n1 ++ n2 ++ beBytes 4 sid ++ beBytes 1 role ++ beBytes 1 path ++ s.idBytes)

/-- HKDF-SHA-512 for 128 bytes (R289). -/
def hkdf (salt ikm info : List Byte) : List Byte :=
  let prk := Config.hmac salt ikm
  let t1 := Config.hmac prk (info ++ [1])
  t1.take 64 ++ (Config.hmac prk (t1 ++ info ++ [2])).take 64

/-- A random number of `n` words: free values (log 5). -/
def State.random : Nat → State → List Byte × State
  | 0, s => ([], s)
  | n + 1, s =>
    let (w, s) := s.freeWord
    let (rest, s) := State.random n s
    (beBytes 4 w.toNat ++ rest, s)

/-- HELLO (R289): ends the path's session; ROLE 1 to 4, not locked; answered with a challenge. -/
def State.hello (s : State) (e : Envelope) (role : Nat) : State :=
  let p := e.path.val
  let s := s.sessionEnd p
  if role = 0 ∨ 4 < role then s.nak e 1 1 0x02
  else if s.locked? role then s.nak e 1 1 0x14
  else
    let (w, s) := s.freeWord
    let sid := if w = 0 then 1 else w.toNat
    let (nd, s) := s.random 8
    let s := s.onSession p fun x => { x with challenge := some (sid, role, nd) }
    s.reply e 1 1 none (beBytes 4 sid ++ nd)

/-- A proof that fails: MAC_BAD, AUTH_FAIL, and a lockout at the fifth in a row (R291). -/
def State.proofFailed (s : State) (e : Envelope) (role : Nat) : State :=
  let f := s.get (F.SEC_LOCKOUT.FAILURES (role - 1)) + 1
  let s := ((s.bump F.SEC_WMP_COUNT.MAC_BAD).violate 0x08).secRaise 2
  let s :=
    if f < 5 then s.set (F.SEC_LOCKOUT.FAILURES (role - 1)) f
    else
      let n := min 15 (s.get (F.SEC_LOCKOUT.N (role - 1)) + 1)
      (((s.set (F.SEC_LOCKOUT.FAILURES (role - 1)) 0).set (F.SEC_LOCKOUT.N (role - 1)) n).set (F.SEC_LOCKOUT.LEFT (role - 1))
        (lockSeconds n)).secRaise 3
  s.nak e 1 2 0x12

/-- The session opens: its keys, COUNTER from 1, IDLE time (R289, R290). -/
def State.sessionOpen (s : State) (p sid role : Nat) (okm : List Byte) : State :=
  let s := s.sessionEnd p
  let s := s.onSession p fun _ => { sid := sid, keyIn := okm.take 64, keyOut := okm.drop 64 }
  let s := ((s.set (F.SEC_SESSION.OPEN p) 1).set (F.SEC_SESSION.ROLE p) role).set (F.SEC_SESSION.IDLE_LEFT p)
    (s.get F.SEC_SESSION_CFG.IDLE_S)
  s.secRaise 0

/-- PROVE (R289): every refusal ends the challenge; only a proof that fails counts towards lockout. -/
def State.prove (s : State) (e : Envelope) (sid : Nat) (nonce proof : List Byte) (late : Bool) : State :=
  let p := e.path.val
  match (s.session p).challenge with
  | none => s.nak e 1 2 0x16
  | some (sid', role, nd) =>
    let s := s.onSession p fun x => { x with challenge := none }
    if sid ≠ sid' || late then s.nak e 1 2 0x16
    else if s.locked? role then s.nak e 1 2 0x14
    else if proof = s.proof labelH nd nonce sid role p then
      let okm := hkdf (nd ++ nonce) (s.roleKey role) (labelOkm ++ beBytes 4 sid ++ beBytes 1 role ++ beBytes 1 p)
      let s := ((s.set (F.SEC_LOCKOUT.FAILURES (role - 1)) 0).set (F.SEC_LOCKOUT.N (role - 1)) 0)
      let s := s.reply e 1 2 none (s.proof labelD nonce nd sid role p)
      s.sessionOpen p sid role okm
    else s.proofFailed e role

/-- Sessions of a role end, as the role's key has changed. -/
def State.roleSessionsEnd (s : State) (role : Nat) : State :=
  (List.range 4).foldl (fun s p => if s.on (F.SEC_SESSION.OPEN p) && s.roleOn p = role then s.sessionEnd p else s) s

/-- Every session ends. -/
def State.sessionsEnd (s : State) : State := (List.range 4).foldl State.sessionEnd s

/-- What `SEC_LC` shows: the life cycle, the keys set, and JTAG (Table 14.10), in SERVICE only once unlocked: the spec names no message that unlocks
it (log 90). -/
def State.showLc (s : State) : State :=
  let x := s.sec
  let lc := if x.lcOtp = 2 && x.service && x.recordGood then 3 else x.lcOtp
  let keys := (List.range 4).foldl (fun m r => if (nth x.roleKeys r none).isSome then m + 2 ^ r else m) 0
  ((s.set F.SEC_LC.STATE lc).set F.SEC_LC.KEYS_SET keys).setB F.SEC_LC.JTAG_OPEN (lc = 0 || lc = 4 || (lc = 3 && x.jtag))

/-- A role's key is set (R293): the sessions of the role end after the response. -/
def State.setRoleKey (s : State) (e : Envelope) (role : Nat) (key : List Byte) : State :=
  let s := (s.onSec fun x => { x with roleKeys := x.roleKeys.set (role - 1) (some key) }).showLc
  ((s.done e 1 4).roleSessionsEnd role).secRaise 10

/-- SET_ROLE_KEY in a session: no role above the session's own, and the VENDOR key only by KEY_UPDATE image. -/
def State.roleKeyIn (s : State) (e : Envelope) (role : Nat) (key : List Byte) : State :=
  if role = 0 ∨ 4 < role ∨ key.length ≠ 32 then s.nak e 1 4 0x02
  else if role = 4 ∨ s.roleOn e.path.val < role then s.roleNak e 1 4
  else s.setRoleKey e role key

/-- SET_ROLE_KEY without a session: in BLANK, for MAKER, on paths 0 and 1, once. -/
def State.roleKeyBlank (s : State) (e : Envelope) (role : Nat) (key : List Byte) : State :=
  if role = 0 ∨ 4 < role ∨ key.length ≠ 32 then s.nak e 1 4 0x02
  else if role = 2 && s.lifeCycle = 0 && e.path.val < 2 && !s.sec.blankUsed then
    (s.onSec fun x => { x with blankUsed := true }).setRoleKey e role key
  else s.roleNak e 1 4

/-! ### Keys (R284, R285) -/

/-- The key slots of a class: 0 FIRMWARE, 1 KEY_ROOT, 2 PLAN, 3 TASK. -/
def classSlots : Nat → List Nat
  | 0 => [0, 1, 2, 3]
  | 1 => [4, 5]
  | 2 => [6, 7, 8, 9]
  | _ => [10, 11]

/-- The class of a slot. -/
def slotClass (k : Nat) : Nat := if k < 4 then 0 else if k < 6 then 1 else if k < 10 then 2 else 3

/-- Whether a slot holds a key; slots 0 to 5 only where it fits its hash, slots 6 to 11 only while the key record passes its check (R284). -/
def SecSt.present (x : SecSt) (k : Nat) : Bool :=
  let key := nth x.keys k []
  !key.isEmpty && if 5 < k then x.recordGood else Config.keyHash key = nth x.hashes k []

/-- Present and not revoked. -/
def SecSt.usable (x : SecSt) (k : Nat) : Bool := x.present k && !x.revoked.contains k

/-- What `SEC_KEYS` shows. -/
def State.showKeys (s : State) : State :=
  (s.set F.SEC_KEYS.PRESENT (maskOf ((List.range 12).filter s.sec.present))).set F.SEC_KEYS.REVOKED
    (maskOf ((List.range 12).filter s.sec.revoked.contains))

/-- The HMAC of the key record (R284). -/
def SecSt.recordSeal (x : SecSt) : List Byte := Config.hmac Config.deviceKey (Config.keyRecord x.service (x.keys.drop 6))

/-- Whether the key record passes its check; without an HMAC only an empty one does. -/
def SecSt.recordChecks (x : SecSt) : Bool :=
  match x.recordMac with
  | some m => m = x.recordSeal
  | none => !x.service && (x.keys.drop 6).all List.isEmpty

/-- Hedge loads the key record and checks it (R279, R284). -/
def State.recordLoad (s : State) : State := s.onSec fun x => { x with recordGood := x.recordChecks }

/-- The key record is written anew; of one that failed its check nothing is taken over. -/
def State.recordWrite (s : State) (f : SecSt → SecSt) : State :=
  s.onSec fun x =>
    let x := if x.recordGood then x else { x with keys := x.keys.take 6 ++ List.replicate 6 [], service := false, recordGood := true }
    { f x with recordMac := some (f x).recordSeal }

/-- A key enters a slot of the key record. -/
def State.keyIn (s : State) (k : Nat) (key : List Byte) : State :=
  ((s.recordWrite fun x => { x with keys := x.keys.set k key }).showKeys).secRaise 10

/-- Whether revoking a slot leaves its class with no present, unrevoked key (R285). -/
def State.lastKey (s : State) (k : Nat) : Bool :=
  !(classSlots (slotClass k)).any (fun j => j ≠ k && s.sec.usable j)

/-- A slot's revocation bit is burnt. -/
def State.keyOut (s : State) (k : Nat) : State :=
  ((s.onSec fun x => { x with revoked := k :: x.revoked.filter (· ≠ k) }).showKeys).secRaise 10

/-! ### Images (R280, R281) -/

/-- The code of an image type. -/
def imageCode : ImageType → Nat
  | .hedge => 1
  | .plough => 2
  | .keyUpdate => 3
  | .task => 4

/-- The image type of a code. -/
def imageType? : Nat → Option ImageType
  | 1 => some .hedge
  | 2 => some .plough
  | 3 => some .keyUpdate
  | 4 => some .task
  | _ => none

/-- The largest BODY_LEN of a type. -/
def imageBodyMax : ImageType → Nat
  | .hedge => 160 * 1024
  | .plough => 3 * 1024 * 1024
  | .keyUpdate => 16 * 1024
  | .task => 512 * 1024

/-- Header fields of an image; SVN above 63 is 63 (R8). -/
def fwBody (img : List Byte) : Nat := imgLe img 0x1C 4
def fwTotal (img : List Byte) : Nat := imgLe img 0x20 4
def fwSvn (img : List Byte) : Nat := min 63 (imgLe img 0x0E 2)
def fwType (img : List Byte) : Option ImageType := imageType? (imgByte img 0x0C)

/-- The classes whose keys sign a type (Table 14.5). -/
def imageSigners : ImageType → List Nat
  | .hedge | .plough => [0]
  | .keyUpdate => [1]
  | .task => [0, 3]

/-- TASK_ID of an image, clamped (R295, R8). -/
def taskId (img : List Byte) : Nat := min 7 (imgByte img 64)

/-- The fuse count of a type; for a task the SVN of the installed task of the same ID, if there is one (Table 14.4). -/
def State.svnFloor (s : State) (t : ImageType) (img : List Byte) : Nat :=
  match t with
  | .hedge => nth s.sec.fuses 0 0
  | .plough => nth s.sec.fuses 1 0
  | .keyUpdate => nth s.sec.fuses 2 0
  | .task =>
    let old := nth s.sec.tasks (taskId img) []
    if old.isEmpty then 0 else fwSvn old

/-- Whether a life-cycle state accepts a type (Table 14.10). -/
def lcAccepts (lc : Nat) (t : ImageType) : Bool :=
  match lc with
  | 0 => match t with
    | .task => false
    | _ => true
  | 4 => false
  | _ => true

/-- The image checks of Table 14.4 in order: the first failure's REASON, 0 if all pass. `accept` adds the life-cycle check. -/
def State.imageCheck (s : State) (img : List Byte) (delivered : Nat) (accept : Bool) : Nat :=
  let sig := 64 + fwBody img + 4
  if delivered = 0 ∨ delivered ≠ fwTotal img then 0x09
  else match fwType img with
    | none => 0x01
    | some t =>
      if fwTotal img ≠ 64 + fwBody img + 532 ∨ imageBodyMax t < fwBody img ∨ imgLe img 6 2 ≠ 64 then 0x01
      else if imgLe img 0 4 ≠ 0x49574654 ∨ imgByte img 5 ≠ 1 then 0x02
      else if imgLe img 8 2 ≠ (s.rd R.GLOBAL_ID).toNat / 0x10000 ∨ imgLe img 0x0A 2 ≠ (s.rd R.GLOBAL_ID).toNat % 0x10000 then 0x04
      else if crc32c (slice img 0 (sig - 4)) ≠ imgLe img (sig - 4) 4 then 0x05
      else
        let k := imgByte img (sig + 4)
        if !((imageSigners t).flatMap classSlots).contains k || !s.sec.usable k || imgLe img sig 4 ≠ 0x47495354
            || imgByte img (sig + 5) ≠ 1 || imgLe img (sig + 6) 2 ≠ 64 then 0x06
        else if !Config.rsaVerify (nth s.sec.keys k []) (slice img 0 sig) (slice img (sig + 16) 512) then 0x07
        else if fwSvn img < s.svnFloor t img then 0x0A
        else if accept && !lcAccepts s.lifeCycle t then 0x0B
        else 0

/-! ### The staged image (R281, R282, SEC_FW_STATUS) -/

/-- The state of `SEC_FW_STATUS`: 0 EMPTY, 1 LOADING, 2 LOADED, 3 VERIFYING, 4 VALID, 5 REJECTED, 6 ACTIVATING, 7 TRIAL. -/
def State.fwState (s : State) : Nat := s.get F.SEC_FW_STATUS.STATE

/-- Sets the state. -/
def State.toFw (s : State) (st : Nat) : State := s.set F.SEC_FW_STATUS.STATE st

/-- A new load of the staged image may start. -/
def State.mayStage (s : State) : Bool := s.fwState = 0 || s.fwState = 2 || s.fwState = 4 || s.fwState = 5

/-- A load of the staged image starts. -/
def State.stageStart (s : State) (t : ImageType) (expected : Option Nat) : State :=
  let s := s.onSec fun x => { x with staged := [], written := [], expected := expected }
  ((s.set F.SEC_FW_STATUS.TYPE (imageCode t)).set F.SEC_FW_STATUS.REASON 0).toFw 1

/-- A chunk's bytes written; the load completes once every byte of TOTAL_LEN is there. -/
def State.stageBytes (s : State) (off : Nat) (data : List Byte) : State :=
  let s := s.onSec fun x => { x with staged := splice x.staged off data, written := (off, off + data.length) :: x.written }
  let x := s.sec
  let known := [0x20, 0x21, 0x22, 0x23].all (fun i => x.written.any (fun r => r.1 ≤ i && i < r.2))
  if known && covered x.written (fwTotal x.staged) then s.toFw 2 else s

/-- FW_CHUNK: a chunk at offset 0, or of another type, starts a load where one may start; a load by chunks goes on with its own
type; otherwise it is out of sequence (Table 14.12). -/
def State.fwChunk (s : State) (e : Envelope) (t : ImageType) (off : Nat) (data : List Byte) : State :=
  let same := s.fwState = 1 && s.get F.SEC_FW_STATUS.TYPE = imageCode t && s.sec.expected.isNone
  if data = [] ∨ 1024 < data.length then s.nak e 5 1 0x02
  else if 64 + imageBodyMax t + 532 < off + data.length then (s.violate 0x0C).nak e 5 1 0x16
  else if same then (s.stageBytes off data).done e 5 1
  else if off = 0 && (s.mayStage || s.fwState = 1) then ((s.stageStart t none).stageBytes off data).done e 5 1
  else (s.violate 0x0C).nak e 5 1 0x16

/-- A load from the window fails: REJECTED with LOAD_SOURCE. -/
def State.fwSourceError (s : State) : State :=
  ((s.set F.SEC_FW_STATUS.REASON 0x09).toFw 5).secRaise 5

/-- FW_LOAD_WINDOW (R286, R270). -/
def State.fwLoadWindow (s : State) (e : Envelope) (t : ImageType) (off len : Nat) : State :=
  if !s.mayStage then s.nak e 5 2 0x16
  else if !s.windowGranted then s.nak e 5 2 0x19
  else
    let s := (s.stageStart t (some len)).done e 5 2
    if s.inWindow (off * 4096) len then s else (s.windowFault F.CXLCTL_WIN_COUNT.RANGE).fwSourceError

/-- The copy from the window completes. -/
def State.fwLoaded (s : State) (data : List Byte) : State :=
  match s.fwState, s.sec.expected with
  | 1, some n =>
    if s.windowGranted then
      (s.onSec fun x => { x with staged := data.take n, written := [(0, min n data.length)], expected := none }).toFw 2
    else s.fwSourceError
  | _, _ => s

/-- FW_VERIFY: the verdict is that of the keys and fuses at its start (R281). -/
def State.fwVerify (s : State) (e : Envelope) : State :=
  if s.fwState = 3 then s.nak e 5 3 0x05
  else if s.fwState = 2 then
    let v := s.imageCheck s.sec.staged s.sec.staged.length true
    ((s.onSec fun x => { x with verdict := v }).toFw 3).done e 5 3
  else s.nak e 5 3 0x16

/-! ### Plough and its tasks (R295, R296) -/

/-- A task's descriptor, each value clamped (R295, R8). -/
structure TaskDesc where
  /-- the cores it may run on, its memory in KiB, its share of a core in %, the blocks it may read, the counters, its window space in KiB -/
  cores : Nat
  memKib : Nat
  share : Nat
  readMask : Nat
  cntMask : Nat
  winKib : Nat
  deriving DecidableEq, Repr

/-- The descriptor at the start of a TASK image's body. MEM_KIB goes to the nearer multiple of 4, the lower of two (R9). -/
def taskDesc (img : List Byte) : TaskDesc where
  cores := imgByte img (64 + 1) % 16
  memKib := (4 * roundHalfDown (clampN 4 512 (imgLe img (64 + 2) 2)) 4).toNat
  share := clampN 1 50 (imgByte img (64 + 4))
  readMask := imgLe img (64 + 8) 8
  cntMask := imgLe img (64 + 16) 2 % 2 ^ 15
  winKib := clampN 0 4096 (imgLe img (64 + 18) 2)

/-- Whether a task may read a block's pages: never SEC (0x1E) or CPU (0x1F). -/
def TaskDesc.reads (d : TaskDesc) (block : Nat) : Bool := block ≠ 0x1E && block ≠ 0x1F && d.readMask.testBit block

/-- Whether a task may read a counter CSR: bit 0 cycle, 1 time, 2 instret, 3 to 14 hpmcounter3 to hpmcounter14. -/
def TaskDesc.counts (d : TaskDesc) (bit : Nat) : Bool := d.cntMask.testBit bit

/-- The healthy Plough cores. -/
def State.goodCores (s : State) : Nat := maskOf ((List.range 4).filter (fun c => !s.on ⟨R.BIST_FALLOW_CORES, c, c⟩))

/-- All tasks stop. -/
def State.tasksStop (s : State) : State := (List.range 8).foldl (fun s t => s.set (F.CPU_TASK.RUNNING t) 0) s

/-- Plough stops: DOWN, QUIESCING or HELD, no core released, tasks stopped. -/
def State.ploughStop (s : State) (st : Nat) : State :=
  (((s.set F.CPU_STATUS.STATE st).set F.CPU_STATUS.READY 0).set F.CPU_STATUS.CORES_UP 0).tasksStop

/-- Plough starts: the healthy cores released, under Hedge's vote until it is ready. -/
def State.ploughStart (s : State) : State :=
  ((s.ploughStop 1).set F.CPU_STATUS.CORES_UP s.goodCores).vote 3 0 true

/-- A Plough restart of all cores on the same image. -/
def State.ploughRestart (s : State) : State := ((s.bump F.CPU_COUNT.RESTARTS).ploughStart).cpuRaise 0

/-- Whether extension tasks run (Table 14.10). -/
def State.tasksRun (s : State) : Bool := s.lifeCycle = 1 || s.lifeCycle = 2 || s.lifeCycle = 3

/-- Whether a task may run: by the life cycle, loaded, not disabled, and some released core is one of its CORES (R295). -/
def State.taskMayRun (s : State) (t : Nat) : Bool :=
  s.tasksRun && s.on (F.CPU_TASK.LOADED t) && !s.on (F.CPU_TASK.DISABLED t)
    && (taskDesc (nth s.sec.tasks t [])).cores &&& s.get F.CPU_STATUS.CORES_UP ≠ 0

/-- The tasks that may run start. -/
def State.tasksStart (s : State) : State :=
  (List.range 8).foldl (fun s t => if s.taskMayRun t then s.set (F.CPU_TASK.RUNNING t) 1 else s) s

/-- A core signals READY; with the last released core Plough runs under its own vote, its link managers resume, and an image being
activated is on trial (R282, R297). -/
def State.ploughReady (s : State) (core : Nat) : State :=
  if s.cpu = 1 && s.domOn 3 && s.on ⟨R.CPU_STATUS, core, core⟩ then
    let s := s.set ⟨R.CPU_STATUS, 4 + core, 4 + core⟩ 1
    if s.get F.CPU_STATUS.READY = s.get F.CPU_STATUS.CORES_UP then
      let s := ((s.set F.CPU_STATUS.STATE 2).vote 3 1 true).vote 3 0 false
      let s := s.tasksStart
      if s.sec.activating = some .plough then
        ((s.onSec fun x => { x with activating := none }).toFw 7).secRaise 6
      else s
    else s
  else s

/-! ### Slots and boot (R279, R282) -/

/-- Where an image of HEDGE (0) or PLOUGH (1) lies in slot A or B. -/
def State.slotImage (s : State) (kind slot : Nat) : List Byte := nth s.sec.images (2 * kind + slot) []

/-- Whether a slot's image verifies and is of its type. -/
def State.slotGood (s : State) (kind slot : Nat) : Bool :=
  let img := s.slotImage kind slot
  imgByte img 0x0C = kind + 1 && s.imageCheck img (min img.length (fwTotal img)) false = 0

/-- The slot that boots: the active one, else the other (R282). -/
def State.slotPick (s : State) (kind : Nat) : Option Nat :=
  let a := nth s.sec.active kind 0
  if s.slotGood kind a then some a else if s.slotGood kind (1 - a) then some (1 - a) else none

/-- What `SEC_FW_STATUS` shows of a trial that a boot record names. -/
def State.showTrial (s : State) : State :=
  if nth s.sec.trial 0 false || nth s.sec.trial 1 false then
    let t := if nth s.sec.trial 0 false then 1 else 2
    ((s.set F.SEC_FW_STATUS.TYPE t).toFw 7).set F.SEC_FW_STATUS.TRIAL_LEFT (s.get F.SEC_SESSION_CFG.COMMIT_S)
  else s

/-- What the security block shows of the OTP and the key record. -/
def State.showOtp (s : State) : State :=
  let s := s.showLc.showKeys
  let f (i : Nat) : Nat := min 63 (nth s.sec.fuses i 0)
  ((s.set F.SEC_SVN.HEDGE (f 0)).set F.SEC_SVN.PLOUGH (f 1)).set F.SEC_SVN.KEY_UPDATE (f 2)

/-- Boot step 1: the Hedge ROM verifies an image, or keeps its WMP subset with event 0x1E0D. -/
def State.hedgeBoot (s : State) : State :=
  let s := s.recordLoad.showOtp
  match s.slotPick 0, s.bist.lost.contains 5 with
  | some k, false =>
    let fell := k ≠ nth s.sec.active 0 0
    let s := (s.set F.SEC_BOOT.HEDGE_SLOT k).setB F.SEC_BOOT.HEDGE_FALLBACK fell
    let s := (s.setB F.SEC_BOOT.HEDGE_TRIAL (nth s.sec.trial 0 false)).wr R.SEC_HEDGE_VERSION (BitVec.ofNat 32 (imgLe (s.slotImage 0 k) 0x10 4))
    let s := s.onSec fun x => { x with hedge := .running }
    if fell then s.event 0x1E0C else s
  | _, _ => (s.onSec fun x => { x with hedge := .romOnly }).event 0x1E0D

/-- What is shown of the Plough image of a slot that starts: SEC_BOOT, VERSION and FRAME_MAJORS; its WMP_MAJORS go into CAPS (R280, R300). -/
def State.ploughShown (s : State) (k : Nat) : State :=
  let img := s.slotImage 1 k
  let s := (s.set F.SEC_BOOT.PLOUGH_SLOT k).setB F.SEC_BOOT.PLOUGH_TRIAL (nth s.sec.trial 1 false)
  let s := s.wr R.SEC_PLOUGH_VERSION (BitVec.ofNat 32 (imgLe img 0x10 4))
  let s := (s.set F.PLAN_FORMAT.FRAME_MAJOR_MIN (imgByte img 0x25 / 16)).set F.PLAN_FORMAT.FRAME_MAJOR_MAX (imgByte img 0x25 % 16)
  s.onSec fun x => { x with wmpMajors := imgByte img 0x24 }

/-- Boot step 3: Hedge verifies the Plough image and releases the healthy cores, or reports 0x1E0E. -/
def State.ploughBoot (s : State) : State :=
  let noCore := s.get F.GLOBAL_CAPABILITY.PLOUGH_CORES = 0 || s.bist.lost.contains 4
  match s.slotPick 1, noCore with
  | some k, false =>
    let fell := k ≠ nth s.sec.active 1 0
    let s := (s.ploughShown k).setB F.SEC_BOOT.PLOUGH_FALLBACK fell
    let s := if fell then s.event 0x1E0C else s
    s.ploughStart
  | _, _ => (s.ploughStop 0).event 0x1E0E

/-! ### Activation, commit and revert (R282, R283, R297) -/

/-- A Hedge restart: sessions end; votes and latched wake events stay (R297, R334). -/
def State.hedgeRestart (s : State) : State := (s.sessionsEnd).onSec fun x =>
  { x with hedge := .restarting, sessions := List.replicate 4 {}, requests := List.replicate 4 none }

/-- The image goes into the slot that is not active, which becomes the active one, on trial. -/
def State.slotTake (s : State) (kind : Nat) (img : List Byte) : State :=
  s.onSec fun x =>
    let other := 1 - nth x.active kind 0
    { x with images := x.images.set (2 * kind + other) img, active := x.active.set kind other, trial := x.trial.set kind true,
             trialWdogs := 0 }

/-- The revocations that a KEY_UPDATE image asks for and may: slots 0 to 3 and 6 to 11, and 4 or 5 by the other of the two (R285). -/
def keyRevocations (img : List Byte) : List Nat :=
  let signer := imgByte img (64 + fwBody img + 8)
  (Config.keyUpdate (slice img 64 (fwBody img))).revoke.filter fun k => k ≤ 11 && ((k ≠ 4 && k ≠ 5) || k ≠ signer)

/-- The keys that a KEY_UPDATE image installs and revokes. -/
def State.keysUpdate (s : State) (img : List Byte) : State :=
  let u := Config.keyUpdate (slice img 64 (fwBody img))
  let s := (u.install.filter (fun q => 6 ≤ q.1 && q.1 ≤ 11)).foldl (fun s q => s.keyIn q.1 q.2) s
  (keyRevocations img).foldl State.keyOut s

/-- Whether a KEY_UPDATE image would leave a class of a slot that it revokes with no present, unrevoked key (R285). -/
def State.keysLast (s : State) (img : List Byte) : Bool :=
  let x := (s.keysUpdate img).sec
  (keyRevocations img).any fun k => !(classSlots (slotClass k)).any x.usable

/-- The requests of a KEY_UPDATE image: its keys, and the VENDOR key (R285, R293). -/
def State.keyUpdate (s : State) (img : List Byte) : State :=
  let s := s.keysUpdate img
  match (Config.keyUpdate (slice img 64 (fwBody img))).vendor with
  | some key => (((s.onSec fun x => { x with roleKeys := x.roleKeys.set 3 (some key) }).showLc).roleSessionsEnd 4).secRaise 10
  | none => s

/-- FW_ACTIVATE of a VALID staged image (R297, Table 14.11). -/
def State.fwActivate (s : State) (e : Envelope) : State :=
  if s.bufState = 6 then s.nak e 5 4 0x05
  else if s.fwState ≠ 4 then s.nak e 5 4 0x16
  else
    let img := s.sec.staged
    let left (s : State) : State := s.set F.SEC_FW_STATUS.TRIAL_LEFT (s.get F.SEC_SESSION_CFG.COMMIT_S)
    match fwType img with
    | some .hedge =>
      let s := (((s.done e 5 4).slotTake 0 img).toFw 6).onSec fun x => { x with activating := some .hedge }
      (left s).hedgeRestart
    | some .plough =>
      let s := (((s.done e 5 4).slotTake 1 img).toFw 6).onSec fun x => { x with activating := some .plough }
      let s := carriers.foldl State.abandonCommits (left s)
      ((s.ploughStop 3).bump F.CPU_COUNT.RESTARTS).vote 3 0 true |>.cpuRaise 0
    | some .keyUpdate =>
      if s.keysLast img then s.nak e 5 4 0x18 else (((left (s.done e 5 4)).toFw 7).keyUpdate img).secRaise 6
    | _ => s.nak e 5 4 0x16

/-- The image on trial becomes permanent: its rollback counter advances to its SVN (R282, R283). -/
def State.fwCommit (s : State) (e : Envelope) : State :=
  if s.fwState ≠ 7 then s.nak e 5 5 0x16
  else
    let t := s.get F.SEC_FW_STATUS.TYPE
    let kind := t - 1
    let img := if t = 3 then s.sec.staged else s.slotImage kind (nth s.sec.active kind 0)
    let s := s.onSec fun x =>
      let f := nth x.fuses kind 0
      { x with
        trial := if kind < 2 then x.trial.set kind false else x.trial
        fuses := x.fuses.set kind (max f (fwSvn img))
        burning := if f < fwSvn img then some (kind, f, 2) else x.burning }
    let s := (s.set F.SEC_BOOT.HEDGE_TRIAL (if kind = 0 then 0 else s.get F.SEC_BOOT.HEDGE_TRIAL)).set F.SEC_BOOT.PLOUGH_TRIAL
      (if kind = 1 then 0 else s.get F.SEC_BOOT.PLOUGH_TRIAL)
    let s := ((s.showOtp).set F.SEC_FW_STATUS.TRIAL_LEFT 0).toFw 0
    (s.done e 5 5).secRaise 8

/-- The image on trial fails: the previous slot is active again, FW_REVERTED, and its processor restarts on it (R282). -/
def State.fwRevert (s : State) : State :=
  if s.fwState ≠ 6 && s.fwState ≠ 7 then s
  else
    let t := s.get F.SEC_FW_STATUS.TYPE
    let s := ((s.set F.SEC_FW_STATUS.TRIAL_LEFT 0).toFw 0).onSec fun x => { x with activating := none, trialWdogs := 0 }
    let back (s : State) (kind : Nat) : State :=
      s.onSec fun x => { x with active := x.active.set kind (1 - nth x.active kind 0), trial := x.trial.set kind false }
    if t = 1 then ((back s 0).secRaise 7).hedgeRestart
    else if t = 2 then
      let s := (((back s 1).set F.SEC_BOOT.PLOUGH_TRIAL 0).secRaise 7).bump F.CPU_COUNT.RESTARTS
      s.ploughBoot.cpuRaise 0
    else s.secRaise 7

/-- The second verification of the copy loaded into Plough SRAM ends (Table 14.11): the cores are released, or the image is reverted. -/
def State.copyVerified (s : State) : State :=
  let k := nth s.sec.active 1 0
  if s.slotGood 1 k then (s.ploughShown k).ploughStart else s.fwRevert

/-- Verification ends: of a staged image, or of the copy of a Plough image being activated. -/
def State.fwVerified (s : State) : State :=
  if s.fwState = 6 && s.sec.activating = some .plough && s.cpu = 3 then s.copyVerified
  else if s.fwState ≠ 3 then s
  else if s.sec.verdict = 0 then ((s.set F.SEC_FW_STATUS.REASON 0).toFw 4).secRaise 4
  else ((s.set F.SEC_FW_STATUS.REASON s.sec.verdict).toFw 5).secRaise 5

/-- A Hedge restart ends (R297): the ROM verifies again; an activated image is on trial. -/
def State.hedgeRestarted (s : State) : State :=
  if s.sec.hedge ≠ .restarting then s
  else
    let s := s.hedgeBoot
    if s.sec.activating = some .hedge then
      ((s.onSec fun x => { x with activating := none }).toFw 7).secRaise 6
    else s

/-- A watchdog restart in a trial counts; the third ends the trial (R282). Answers whether it did. -/
def State.trialWatchdog (s : State) (t : Nat) : Bool × State :=
  if (s.fwState = 6 || s.fwState = 7) && s.get F.SEC_FW_STATUS.TYPE = t then
    let s := s.onSec fun x => { x with trialWdogs := x.trialWdogs + 1 }
    if 3 ≤ s.sec.trialWdogs then (true, s.fwRevert) else (false, s)
  else (false, s)

/-- A silent Plough core (R296): a restart, and at the third within 60 s HELD, with the core marked (R361). -/
def State.ploughWatchdog (s : State) (core : Nat) : State :=
  if s.cpu ≠ 1 && s.cpu ≠ 2 then s
  else
    let s := ((s.bump F.CPU_COUNT.WDOG).cpuRaise 2).faultLog 0x1F03 2 none
    let s := s.onSec fun x => { x with restartAges := 0 :: x.restartAges }
    match s.trialWatchdog 2 with
    | (true, s) => s
    | (false, s) =>
      if 3 ≤ s.sec.restartAges.length then
        ((s.onSec fun x => { x with restartAges := [] }).ploughStop 4).cpuRaise 1 |>.markInService (130 + core)
      else s.ploughRestart

/-- The block IDs that are assigned (Table 1.11). -/
def blockIds : List Nat :=
  [0x00, 0x02, 0x04, 0x08, 0x0A, 0x0C, 0x0E, 0x10, 0x12, 0x14, 0x16, 0x18, 0x19, 0x1A, 0x1C, 0x1D, 0x1E, 0x1F, 0x20, 0x22, 0x23,
    0x24, 0x25, 0x26]

/-- The code that a free word names among those that R28 lets a block's chapter define: an assigned block and a cause 0x01 to 0xEF. -/
def chapterCode (w : Word) : Nat := nth blockIds (w.toNat / 256 % 24) 0 * 256 + 1 + w.toNat % 256 % 0xEF

/-- 8 ms without Hedge's kick (R296): detected, and a Hedge restart. The spec gives the entry no code: a free one among those of R28
(log 5). -/
def State.hedgeWatchdog (s : State) : State :=
  let (w, s) := s.freeWord
  let s := s.faultLog (chapterCode w) 2 none
  match s.trialWatchdog 1 with
  | (true, s) => s
  | (false, s) => s.hedgeRestart

/-! ### Extension tasks (R295) -/

/-- TASK_INSTALL of the VALID staged task: into the entry of its TASK_ID. -/
def State.taskInstall (s : State) (e : Envelope) (index : Nat) : State :=
  let img := s.sec.staged
  if s.fwState ≠ 4 ∨ fwType img ≠ some .task ∨ 7 < index ∨ taskId img ≠ index then s.nak e 5 8 0x16
  else
    let s := (s.onSec fun x => { x with tasks := x.tasks.set index img }).toFw 0
    let s := s.wr (R.CPU_TASK index) 0
    let s := s.set (F.CPU_TASK.LOADED index) 1
    (if s.cpu = 2 && s.taskMayRun index then s.set (F.CPU_TASK.RUNNING index) 1 else s).done e 5 8

/-- TASK_REMOVE. -/
def State.taskRemove (s : State) (e : Envelope) (index : Nat) : State :=
  if 7 < index then s.nak e 5 9 0x02
  else ((s.onSec fun x => { x with tasks := x.tasks.set index [] }).wr (R.CPU_TASK index) 0).done e 5 9

/-! ### Life cycle (R294, Table 14.9) -/

/-- Whether a stored boot plan validates. -/
def State.slotPlanGood (s : State) (slot : Nat) : Bool :=
  let img := nth s.plan.slots slot []
  let n := imgDeliver img
  (({ s with plan := { s.plan with buf := img, load := .slot, delivered := n, expected := n } }).validation).isNone

/-- A plan image of STANDBY with no records, for the cold apply of RETIRED. -/
def standbyImage : List Byte :=
  leBytes 4 0x4C504654 ++ [0, 1] ++ leBytes 2 64 ++ leBytes 2 0x3280 ++ leBytes 2 0x00B1 ++ [5] ++ List.replicate 51 0

/-- The life cycle moves: LC_CHANGED, every session ends after the response. -/
def State.lcMove (s : State) (e : Envelope) (f : SecSt → SecSt) : State :=
  (((s.onSec f).showLc.done e 1 5).sessionsEnd).secRaise 9

/-- LC_CHANGE (Table 14.9): a request not in the table is refused with LIFE_CYCLE. -/
def State.lcChange (s : State) (e : Envelope) (target : Nat) : State :=
  let role := s.roleOn e.path.val
  let keys := (nth s.sec.roleKeys 0 none).isSome && (nth s.sec.roleKeys 1 none).isSome
  match s.lifeCycle, target with
  | 0, 1 =>
    if role < 2 then s.roleNak e 1 5
    else if !keys then s.nak e 1 5 0x15
    else s.lcMove e fun x => { x with lcOtp := 1 }
  | 1, 2 =>
    if role < 2 then s.roleNak e 1 5
    else if !(s.slotPlanGood 0 || s.slotPlanGood 1) then s.nak e 1 5 0x15
    else (s.recordWrite fun x => { x with service := false }).lcMove e fun x => { x with lcOtp := 2 }
  | 2, 3 => if role < 3 then s.roleNak e 1 5 else (s.recordWrite fun x => { x with service := true }).lcMove e id
  | 3, 2 =>
    if role < 3 then s.roleNak e 1 5
    else
      let s := if s.bist.fusing.isSome then
          s.onBist (fun b => { b with fusing := none }) |>.set F.BIST_STATUS.STATE
            (if s.get F.BIST_STATUS.STATE = 4 then 0 else s.get F.BIST_STATUS.STATE)
        else s
      (s.recordWrite fun x => { x with service := false }).lcMove e fun x => { x with jtag := false }
  | n, 4 =>
    if n = 0 ∨ n = 4 then s.nak e 1 5 0x15
    else if role < 4 then s.roleNak e 1 5
    else
      let s := s.lcMove e fun x =>
        { x with lcOtp := 4, service := false, roleKeys := List.replicate 4 none, keys := x.keys.take 6 ++ List.replicate 6 [],
                 recordMac := none, recordGood := true }
      let s := (s.showLc.showKeys.tasksStop).onPlan fun q => { q with buf := standbyImage, delivered := standbyImage.length, expected := standbyImage.length }
      s.applyStart
  | _, _ => s.nak e 1 5 0x15

/-! ### MGR requests (R287) -/

/-- A multiframe for a proposal: at least the least lead ahead; which one the spec leaves to the link manager (log 5). -/
def State.someMf (s : State) (c : Carrier) : Nat × State :=
  let (w, s) := s.freeWord
  ((s.txMf c + s.leastLead c + w.toNat % 2 ^ 20) % 2 ^ 24, s)

/-- The TYPE of a request (Table 14.6). -/
def mgrType : MgrReq → Nat
  | .step _ _ => 1
  | .renegotiate _ => 2
  | .headland _ _ _ => 3
  | .replan _ => 4

/-- A link manager handles a request: refused by the conditions of R135, or done. -/
def State.mgrHandle (s : State) (e : Envelope) (m : MgrReq) : State :=
  match m with
  | .step c targets =>
    match s.changeNak c 2 with
    | some n => s.nak e 7 1 n
    | none =>
      if (kindOf (s.link.at c).own 2).isSome || s.stepArmed c then s.nak e 7 1 0x05
      else
        let s := (List.range 16).foldl (fun s k => s.writeTarget .plough c k (nth targets k 0).toNat) s
        let (mf, s) := s.someMf c
        (s.propose c 2 false mf).done e 7 1
  | .renegotiate c => (s.renegotiate c).done e 7 2
  | .headland c sub data => (s.headlandSend c sub data).done e 7 3
  | .replan c =>
    match s.changeNak c 1 with
    | some n => s.nak e 7 4 n
    | none =>
      if (kindOf (s.link.at c).own 1).isSome then s.nak e 7 4 0x05
      else if s.hState ≠ 2 then s.nak e 7 4 0x07
      else
        let (mf, s) := s.someMf c
        (s.propose c 1 false mf).done e 7 4

/-- A request reaches an awake Plough (R287): its link managers handle it, or it is refused, with BUSY while Plough restarts and with STATE while it is
DOWN or HELD. -/
def State.mgrGive (s : State) (e : Envelope) (m : MgrReq) : State :=
  if s.cpu = 2 then s.mgrHandle e m else s.nak e 7 (mgrType m) (if s.cpu = 0 || s.cpu = 4 then 0x16 else 0x05)

/-- Requests that waited for Plough's wake reach it, in order. -/
def State.mgrDrain (s : State) : State :=
  s.mgrInbox.foldl (fun s q => s.mgrGive q.1 q.2) { s with mgrInbox := [] }

/-- An MGR request on its way to Plough: NAK STATE while it is DOWN or HELD; asleep, it waits for the wake that it causes (wake source 2). -/
def State.mgrRequest (s : State) (e : Envelope) (m : MgrReq) : State :=
  if s.domOn 3 || s.cpu = 0 || s.cpu = 4 then s.mgrGive e m
  else ({ s with mgrInbox := s.mgrInbox ++ [(e, m)] }).wakeSource 2 .nothing

end Sys2Proof.Machine
end

