-- ==== Sys2Proof/Machine/GleanOps.lean ====
section
/-!
DEFINITION. Gleaner's units (R303 to R313), its statistics counters (R318, R319), and the Plough cores' precise samplers (R317).
-/
namespace Sys2Proof.Machine

/-! ### Units -/

/-- A unit's state: 0 IDLE, 1 ARMED, 2 FIRED, 3 SPILLING, 4 HELD, 5 DONE. -/
def State.unitState (s : State) (u : Nat) : Nat := s.get (F.GLEAN_STATE.STATE u)

/-- A unit beyond its registers. -/
def State.unit (s : State) (u : Nat) : GleanUnit := nth s.glean.units u {}

/-- Updates Gleaner's internal state. -/
def State.onGlean (s : State) (f : GleanSt → GleanSt) : State := { s with glean := f s.glean }

/-- Updates a unit. -/
def State.onUnit (s : State) (u : Nat) (f : GleanUnit → GleanUnit) : State :=
  s.onGlean fun g => { g with units := g.units.modify u f }

/-- The word at an offset of a unit's window, as latched at ARM (R309). -/
def GleanUnit.word (g : GleanUnit) (off : Nat) : Word := nth g.cfg (off / 4) 0

/-- FIRE_JOIN, SPILL, AUTO_REARM and WAIT_PRE as latched. -/
def GleanUnit.join (g : GleanUnit) : Bool := bitsOf (g.word 0) 5 5 = 1
def GleanUnit.spills (g : GleanUnit) : Bool := bitsOf (g.word 0) 4 4 = 1
def GleanUnit.rearms (g : GleanUnit) : Bool := bitsOf (g.word 0) 3 3 = 1
def GleanUnit.waits (g : GleanUnit) : Bool := bitsOf (g.word 0) 2 2 = 1

/-- DEPTH, PRE and POST as latched. -/
def GleanUnit.depth (g : GleanUnit) : Nat := bitsOf (g.word 0xC) 16 0
def GleanUnit.pre (g : GleanUnit) : Nat := bitsOf (g.word 0x10) 16 0
def GleanUnit.post (g : GleanUnit) : Nat := bitsOf (g.word 0x14) 16 0

/-- TAP, TAP2, BURST, GAP, SUB and MODE as latched. -/
def GleanUnit.tap (g : GleanUnit) : Nat := bitsOf (g.word 4) 7 0
def GleanUnit.tap2 (g : GleanUnit) : Nat := bitsOf (g.word 4) 15 8
def GleanUnit.bursts (g : GleanUnit) : Nat := bitsOf (g.word 4) 22 16
def GleanUnit.gap (g : GleanUnit) : Nat := bitsOf (g.word 8) 23 0
def GleanUnit.sub (g : GleanUnit) : Nat := bitsOf (g.word 0) 22 16
def GleanUnit.mode (g : GleanUnit) : Nat := bitsOf (g.word 0) 1 0

/-- A unit as its comparators see it: with the configuration in force (R309). -/
def State.unitNow (s : State) (u : Nat) : GleanUnit :=
  { s.unit u with cfg := (List.range 44).map fun i => s.gleanWord u (4 * i) }

/-- Words of an instant at a unit's tap (Table 15.1). -/
def instantWords (u tap : Nat) : Nat := if (u < 2 && tap ≤ 3) || (u = 3 && tap = 2) then 2 else 1

/-- Whether a unit's tap is a burst tap (Table 15.1): there every MODE acts as BURST, and on the others BURST acts as CONTINUOUS (R305). -/
def burstTap (u tap : Nat) : Bool := (u < 2 && tap ≤ 4) || (u = 2 && tap = 1)

/-- Sets a unit's state. -/
def State.toUnit (s : State) (u st : Nat) : State := s.set (F.GLEAN_STATE.STATE u) st

/-! ### Recording (R304 to R306) -/

/-- A sample's entry. -/
def sampleEntry (tag : Nat) (word : Bool) (again unsettled : Bool) (x : Nat) : BitVec 64 :=
  let bit (b : Bool) (k : Nat) : Nat := if b then 2 ^ k else 0
  BitVec.ofNat 64 (tag % 2 ^ 32 * 2 ^ 32 + bit word 29 + bit again 26 + bit unsettled 24 + x % 2 ^ 24)

/-- The entries of an instant's words. -/
def instantEntries (tag : Nat) (again unsettled : Bool) (words : List Nat) : List (BitVec 64) :=
  words.zipIdx.map fun p => sampleEntry tag (p.2 = 1) again unsettled p.1

/-- A block header's entry. -/
def headerEntry (frame index : Nat) (good : Bool) : BitVec 64 :=
  BitVec.ofNat 64 (frame % 2 ^ 32 * 2 ^ 32 + 2 ^ 27 + (if good then 2 ^ 23 else 0) + index % 2 ^ 14)

/-! ### Staging (R304, R308): entry `n` written since arming lies in word 65,536 u + n mod DEPTH of region 6 (DESIGN CHOICE, log 79) -/

/-- The word of region 6 that holds a unit's entry. -/
def GleanUnit.slot (g : GleanUnit) (u n : Nat) : Nat := 65536 * u + n % max 1 g.depth

/-- Whether a fired unit holds its PRE_ACTUAL + POST entries. -/
def GleanUnit.complete (g : GleanUnit) : Bool :=
  match g.trigEntry with
  | some p => p + g.post ≤ g.count
  | none => false

/-- One more entry is written: a ring of DEPTH, and once the unit has fired up to POST entries after those kept before the trigger. -/
def GleanUnit.wrote (g : GleanUnit) : GleanUnit :=
  { g with total := g.total + 1, count := if g.trigEntry.isSome then g.count + 1 else min g.depth (g.count + 1) }

/-- An entry goes into staging. -/
def State.putEntry (s : State) (u : Nat) (e : BitVec 64) : State :=
  let g := s.unit u
  if g.complete then s else (s.memPutFull 6 (g.slot u g.total) e).onUnit u GleanUnit.wrote

/-- Entries go into staging, and COUNT follows. -/
def State.putEntries (s : State) (u : Nat) (es : List (BitVec 64)) : State :=
  let s := es.foldl (fun s e => s.putEntry u e) s
  s.setSat (F.GLEAN_STATUS.COUNT u) (s.unit u).count

/-- An entry that staging could not correct: INVALID, with SAMPLE and TAG 0; the other flags are free (log 5). -/
def spoiled (w : Word) : BitVec 64 := ((w &&& 0x2D000000) ||| 0x2000000).setWidth 64

/-- Reads entry `i` of a unit's capture from staging, with stored bits of its word turned over (Table 13.2). -/
def State.entryRead (s : State) (u i : Nat) (upset : MemWord) : BitVec 64 × State :=
  let g := s.unit u
  match s.memFetch 6 (g.slot u (g.total - g.count + i)) upset with
  | (some e, s) => (e, s)
  | (none, s) => let (w, s) := s.freeWord; (spoiled w, s)

/-- Reads entries from `i` on, one for each mask of upsets. -/
def State.entriesFrom (s : State) (u : Nat) : Nat → List MemWord → List (BitVec 64) × State
  | _, [] => ([], s)
  | i, m :: ms =>
    let (e, s) := s.entryRead u i m
    let (es, s) := State.entriesFrom s u (i + 1) ms
    (e :: es, s)

/-- An instant at a continuous tap (R305): in CHANGE_ONLY it is stored only where a word under CMP0's MASK differs from the last stored
instant, first after arming, or 2^31 instants after the last stored one. -/
def GleanUnit.instant (g : GleanUnit) (n : Nat) (x : TapInstant) : GleanUnit × List (BitVec 64) :=
  let words := x.words.take n
  let seen := words.map (fun w => w % 2 ^ 24 &&& bitsOf (g.word 0x40) 23 0)
  let (keep, again) : Bool × Bool :=
    if g.mode ≠ 1 then (true, false)
    else match g.stored with
      | none => (true, false)
      | some (k, old) => (seen ≠ old || 2 ^ 31 ≤ g.index - k, 2 ^ 31 ≤ g.index - k)
  let h := { g with index := g.index + 1 }
  if keep then ({ h with stored := some (g.index, seen) }, instantEntries g.index again x.unsettled words) else (h, [])

/-- The entries of a block: header and samples; in NLC pair mode a second header with the decoder's verdict, and the decisions. A header
before decisions carries GOOD, one before samples not (DEDUCED, log 79). -/
def GleanUnit.blockEntries (g : GleanUnit) (n frame : Nat) (good : Bool) (b : TapBlock) : List (BitVec 64) :=
  let tag (k : Nat) : Nat := 32 * b.number + k / n
  let samples := (b.words.take (32 * n)).zipIdx.map fun p => sampleEntry (tag p.2) (p.2 % n = 1) false false p.1
  let decides := g.tap = 4
  headerEntry frame b.index (decides && good) :: samples
    ++ (if g.tap2 = 4 then headerEntry frame b.index good :: b.decisions.map (sampleEntry (tag 0) false false false) else [])

/-- Whether a block is taken into the queue (R306): the next of a burst, or the first of a new one once the queue is empty and GAP blocks have
passed. -/
def GleanUnit.takes (g : GleanUnit) (b : TapBlock) : Bool :=
  g.burst ≠ 0 || match g.taken with
    | none => true
    | some k => g.drained ≤ b.cycle && k + g.gap < b.number

/-- A block at a burst tap: taken whole, one entry into staging in each cycle, or skipped. -/
def GleanUnit.block (g : GleanUnit) (n frame : Nat) (good : Bool) (b : TapBlock) : GleanUnit × List (BitVec 64) :=
  let h := { g with index := 32 * (b.number + 1) }
  if g.takes b then
    let es := g.blockEntries n frame good b
    let left := (if g.burst ≠ 0 then g.burst else max 1 g.bursts) - 1
    ({ h with burst := left, taken := some b.number, drained := max g.drained b.cycle + es.length }, es)
  else (h, [])

/-- The number of a received frame by how many lie between it and the last one received, and whether no uncorrectable block was reported in
it (R61). A frame that the log no longer holds counts back from the expected number. -/
def State.frameBack (s : State) (c : Carrier) (back : Nat) : Nat × Bool :=
  match (s.line.at c).frameLog[back]? with
  | some (n, bad) => (n, !bad)
  | none => ((s.get (F.LINK_RX_FRAME.VALUE c) + 2 ^ 32 - back % 2 ^ 32) % 2 ^ 32, true)

/-- Whether a unit records. -/
def State.recording (s : State) (u : Nat) : Bool := s.unitState u = 1 || s.unitState u = 2

/-- A unit takes what its tap delivered, and the entries go into staging. -/
def State.recorded (s : State) (u : Nat) (x : GleanUnit × List (BitVec 64)) : State := (s.onUnit u fun _ => x.1).putEntries u x.2

/-- A block at a recording unit's burst tap, with its frame; of HOST_RX, which has no line frames, the header's frame number is a free value
(log 79). -/
def State.recordBlock (s : State) (u : Nat) (b : TapBlock) : State :=
  let g := s.unit u
  let n := instantWords u g.tap
  if !s.recording u || !burstTap u g.tap then s
  else if u < 2 then
    let (frame, good) := s.frameBack (Carrier.ofIdx u) b.back
    s.recorded u (g.block n frame good b)
  else
    let (w, s) := s.freeWord
    s.recorded u ((s.unit u).block n w.toNat false b)

/-- An instant at a recording unit's continuous tap. -/
def State.recordInstant (s : State) (u : Nat) (x : TapInstant) : State :=
  let g := s.unit u
  if !s.recording u || burstTap u g.tap then s else s.recorded u (g.instant (instantWords u g.tap) x)

/-- The word of PORT_STATE (Table 15.1). -/
def State.portWord (s : State) (p : Nat) : Nat :=
  s.get (F.CLIENT_STATE.INGRESS p) + s.get (F.CLIENT_STATE.SELECTED p) * 8 + s.get (F.CLIENT_STATE.ALIGNED p) * 32
    + s.get (F.CLIENT_STATE.EGRESS_DATA p) * 64

/-- PORT_STATE at a unit now, where that is its tap. -/
def State.portInstant (s : State) (u : Nat) : List TapInstant :=
  if u = 2 && bitsOf (s.gleanWord u 4) 7 0 = 4 then [⟨[s.portWord (s.tapSub u)], false⟩] else []

/-! ### Arming (Table 15.3, R309) -/

/-- A unit enters ARMED: configuration latched, the previous capture discarded, the sequencer in S0 with its counters clear. -/
def State.armNow (s : State) (u : Nat) (auto : Bool) (dead : Nat) : State :=
  let s := s.onUnit u fun g =>
    { captures := g.captures, cfg := (List.range 44).map (fun i => s.rd (R.GLEAN_CTRL u + 4 * i)), auto := auto, dead := dead }
  let s := s.onGlean fun g => { g with due := g.due.filter (·.unit ≠ u) }
  let s := ((s.toUnit u 1).set (F.GLEAN_STATE.SEQ u) 0).set (F.GLEAN_STATUS.COUNT u) 0
  (((s.wr (R.GLEAN_CNT u 0) 0).wr (R.GLEAN_CNT u 1) 0).wr (R.GLEAN_LAST_DEAD u) (BitVec.ofNat 32 dead))

/-- ARM of a unit: IGNORED while SPILLING or HELD; without region 6 the units stay IDLE (Table 18.3). -/
def State.arm (s : State) (u : Nat) : State :=
  if s.bist.lost.contains 6 then s
  else if s.unitState u = 3 || s.unitState u = 4 then s.bump (F.GLEAN_COUNT.IGNORED u)
  else s.armNow u false 0xFFFFFFFF

/-- Whether a bit of a mask is set. -/
def inMask (m u : Nat) : Bool := m / 2 ^ u % 2 = 1

/-- Units of a mask. -/
def unitsOf (m : Nat) : List Nat := (List.range 4).filter (inMask m)

/-- Whether an ARM of a unit is accepted. -/
def State.mayArm (s : State) (u : Nat) : Bool := !s.bist.lost.contains 6 && s.unitState u ≠ 3 && s.unitState u ≠ 4

/-- An ARM of some units at once; with ARM_OUT the part drives GLEAN_ARM where it arms one (R310). -/
def State.armAll (s : State) (us : List Nat) : State :=
  let arms := us.any s.mayArm
  let s := us.foldl State.arm s
  if s.on F.GLEAN_XDEV.ARM_OUT && arms then s.send .gleanArm else s

/-! ### Firing (R308, R310) -/

/-- One ARMED unit fires at a local time: TRIG_TIME, TRIG_TAG and PRE_ACTUAL latched, and the last PRE_ACTUAL entries kept; FIRED, wake source 4. -/
def State.fireOne (s : State) (now : Clock) (u : Nat) : State :=
  let g := s.unit u
  let pre := min g.pre g.count
  let s := (List.range 4).foldl (fun s k => s.wr (R.GLEAN_TRIG_TIME_0 u + 4 * k) (timeWord now k)) s
  let s := s.wr (R.GLEAN_TRIG_TAG u) (BitVec.ofNat 32 g.index)
  let s := (s.setSat (F.GLEAN_PRE_ACTUAL.VALUE u) pre).setSat (F.GLEAN_STATUS.COUNT u) pre
  let s := (s.toUnit u 2).onUnit u fun g => { g with count := pre, trigEntry := some pre }
  s.wakeSource 4 (.raise 0x20 u (some (0x2010 + u)))

/-- The units of a list that are ARMED, and those of them with FIRE_JOIN. -/
def State.armed (s : State) (us : List Nat) : List Nat := us.filter fun u => s.unitState u = 1
def State.joining (s : State) (us : List Nat) : List Nat := (s.armed us).filter fun u => (s.unit u).join

/-- Units fire in one cycle; joined ones among them make one pulse of GLEAN_FIRE_N (R310). -/
def State.fireSet (s : State) (now : Clock) (us : List Nat) : State :=
  let pulse := s.on F.GLEAN_XDEV.FIRE_OUT && s.joining us ≠ []
  let s := (s.armed us).foldl (fun s u => s.fireOne now u) s
  if pulse then s.send (.gleanFire (s.get F.GLEAN_XDEV.FIRE_WIDTH)) else s

/-- Whether some joined unit of those that fired is another one than this. -/
def joinedBy (fired : List Nat) (u : Nat) : Bool := fired.any (· ≠ u)

/-- The cycle after joined units fired (R307, R310): the ARMED units with FIRE_JOIN fire, 1 ns later; the others' JOIN conditions see it. GLEAN_FIRE_N
is low by then, and their pull makes no second pulse. -/
def State.joinedFire (s : State) (now : Clock) (fired : List Nat) : State :=
  let others := s.armed ((List.range 4).filter (joinedBy fired))
  let s := others.foldl (fun s u => s.onUnit u fun g => { g with joined := true }) s
  (s.joining others).foldl (fun s u => s.fireOne (Clock.ofTicks (now.ticks + nsTicks)) u) s

/-- Units fire, and in the cycle after it those that join them. -/
def State.fire (s : State) (now : Clock) (us : List Nat) : State := (s.fireSet now us).joinedFire now (s.joining us)

/-- A qualified edge of GLEAN_FIRE_N (R310): with FIRE_IN, armed units with FIRE_JOIN fire. -/
def State.fireEdge (s : State) : State :=
  if s.on F.GLEAN_XDEV.FIRE_IN then s.fire s.clock (s.joining (List.range 4)) else s

/-! ### The end of a capture (Table 15.3) -/

/-- Whether an entry is INVALID (R304). -/
def entryInvalid (e : BitVec 64) : Bool := bitsOf (e.setWidth 32) 25 25 = 1

/-- Recording ends: SPILLING, or DONE. -/
def State.captureEnd (s : State) (u : Nat) : State :=
  let s := s.onUnit u fun g => { g with captures := (g.captures + 1) % 2 ^ 32, spillAt := 0 }
  let s := (s.setSat (F.GLEAN_STATUS.COUNT u) (s.unit u).count).bump (F.GLEAN_COUNT.CAPTURES u)
  if (s.unit u).spills && s.windowGranted then s.toUnit u 3
  else (s.toUnit u 5).raise 0x20 (4 + u)

/-- Recording ends once POST entries are recorded. -/
def State.captureDone (s : State) (u : Nat) : State :=
  if s.unitState u = 2 && (s.unit u).complete then s.captureEnd u else s

/-- STOP of a unit: the entries so far are kept. -/
def State.stop (s : State) (u : Nat) : State :=
  if s.unitState u = 1 then (s.wr (R.GLEAN_TRIG_TAG u) 0xFFFFFFFF).captureEnd u
  else if s.unitState u = 2 then s.captureEnd u
  else if s.unitState u = 4 then s.toUnit u 5
  else s

/-- A write of `GLEAN_ARM_CTRL` (R310, Table 15.5): units named in FORCE fire but for those named in STOP; what STOP and ARM name stops and is
armed in that cycle, and joining follows in the next. -/
def State.armCtrl (s : State) (arms stops forces : List Nat) : State :=
  let us := forces.filter fun u => !stops.contains u
  let fired := s.joining us
  let now := s.clock
  ((stops.foldl State.stop (s.fireSet now us)).armAll arms).joinedFire now fired

/-! ### The window (R312, R313) -/

/-- The window leaves GRANTED: SPILLING units are HELD. -/
def State.spillHold (s : State) : State :=
  (List.range 4).foldl (fun s u => if s.unitState u = 3 then (s.toUnit u 4).raiseEvent 0x20 (8 + u) (0x2020 + u) else s) s

/-- The window is GRANTED: HELD units spill again from entry 0; SEQ starts anew with the epoch (R268). -/
def State.spillResume (s : State) : State :=
  let s := s.onGlean fun g => { g with seq := 0 }
  (List.range 4).foldl (fun s u =>
    if s.unitState u = 4 then (s.toUnit u 3).onUnit u fun g => { g with spillAt := 0 } else s) s

/-- A window record of a TYPE (1 Gleaner spill, 2 Plough record) with its header, padded to 64 bytes (R268). -/
def windowRecord (epoch : Word) (flags seq : Nat) (body : List Byte) (type : Nat := 1) : List Byte :=
  let head := leBytes 4 0x43525754 ++ leBytes 4 epoch.toNat ++ leBytes 2 type ++ leBytes 2 flags ++ leBytes 4 body.length
    ++ leBytes 4 seq ++ leBytes 8 0
  let all := head ++ leBytes 4 (crc32c (head ++ body)) ++ body
  all ++ List.replicate ((64 - all.length % 64) % 64) 0

/-- The spill descriptor of Table 15.4. -/
def State.spillDescriptor (s : State) (u first n : Nat) : List Byte :=
  let g := s.unit u
  let time : Clock := ⟨(s.rd (R.GLEAN_TRIG_TIME_2 u)).toNat + (s.rd (R.GLEAN_TRIG_TIME_3 u)).toNat * 2 ^ 32,
    (s.rd (R.GLEAN_TRIG_TIME_1 u)).toNat, (s.rd (R.GLEAN_TRIG_TIME_0 u)).toNat⟩
  [BitVec.ofNat 8 u, BitVec.ofNat 8 (bitsOf (g.word 4) 7 0), BitVec.ofNat 8 (bitsOf (g.word 4) 15 8), BitVec.ofNat 8 (bitsOf (g.word 0) 1 0)]
    ++ leBytes 4 g.captures ++ leBytes 4 first ++ leBytes 4 n ++ leBytes 4 (g.trigEntry.getD 0xFFFFFFFF) ++ timeBytes time
    ++ leBytes 4 (s.rd (R.GLEAN_TRIG_TAG u)).toNat ++ leBytes 4 (s.get (F.GLEAN_PRE_ACTUAL.VALUE u)) ++ leBytes 4 g.dead ++ leBytes 4 0

/-- The part writes lines into the window, and holds up to 1,024 of them. -/
def State.linesOut (s : State) (at64 : Nat) (bytes : List Byte) : State :=
  let fresh := (List.range ((bytes.length + 63) / 64)).map (fun i => (at64 + i, slice bytes (64 * i) 64))
  let lines := (s.cxl.lines.filter (fun l => !fresh.any (fun f => f.1 = l.1))) ++ fresh
  { s.send (.window at64 bytes) with cxl := { s.cxl with timeouts := 0, lines := lines.drop (lines.length - 1024) } }

/-- Whether a request of `n` 64-byte units at an offset of the ring lies within WIN_SIZE (R270). -/
def State.ringReach (s : State) (off n : Nat) : Bool := s.inWindow (s.get F.GLEAN_SPILL_BASE.BASE * 4096 + off * 64) (n * 64)

/-- Writes a spill record at an offset of the ring; the write pointer follows. -/
def State.ringWrite (s : State) (off : Nat) (flags : Nat) (body : List Byte) (next : Nat) : State :=
  let bytes := windowRecord (s.rd R.CXLCTL_WIN_EPOCH) flags s.glean.seq body
  let s := s.linesOut (s.get F.GLEAN_SPILL_BASE.BASE * 64 + off) bytes
  (s.set F.GLEAN_SPILL_WPTR.PTR next).onGlean fun g => { g with seq := (g.seq + 1) % 2 ^ 32 }

/-- Counts INVALID entries that were spilled or read (Table 15.7). -/
def State.invalidSeen (s : State) (u n : Nat) : State :=
  if n = 0 then s else (s.bump (F.GLEAN_COUNT.INVALID u) n).raiseEvent 0x20 (12 + u) (0x2030 + u)

/-- The last record of a spill is written: DONE, and with AUTO_REARM a new capture. -/
def State.spilled (s : State) (u deadUs : Nat) : State :=
  let s := s.raise 0x20 (4 + u)
  if (s.unit u).rearms then s.armNow u true (min 0xFFFFFFFF deadUs) else s.toUnit u 5

/-- A record of up to 4,096 entries is written for the first SPILLING unit (R312); without ring space the spill waits, and a request beyond
WIN_SIZE is not issued (R270). A record that would end beyond the ring, or a write pointer that lies beyond it since SPILL_SIZE was made smaller,
puts the WRAP header at the write pointer and the record at offset 0. -/
def State.spillRecord (s : State) (upsets : List MemWord) (deadUs : Nat) : State :=
  match (List.range 4).find? (fun u => s.unitState u = 3), s.windowGranted with
  | some u, true =>
    let g := s.unit u
    let n := min 4096 (g.count - g.spillAt)
    let len := (32 + 48 + 8 * n + 63) / 64
    let size := s.get F.GLEAN_SPILL_SIZE.SIZE * 64
    let w := s.get F.GLEAN_SPILL_WPTR.PTR
    let wraps := size < w + len
    let used := (min w size + size - s.get F.GLEAN_SPILL_RPTR.PTR % size) % size
    let off := if wraps then 0 else w
    if size - used < (if wraps then size - w else 0) + len + 1 then s
    else if !s.ringReach off len || (wraps && !s.ringReach w 1) then s.windowFault F.CXLCTL_WIN_COUNT.RANGE
    else
      let (part, s) := s.entriesFrom u g.spillAt ((List.range n).map fun i => nth upsets i 0)
      let last := g.count ≤ g.spillAt + n
      let invalid := (part.filter entryInvalid).length
      let flags := u + (if g.spillAt = 0 then 4 else 0) + (if last then 8 else 0) + (if 0 < invalid then 16 else 0)
      let body := s.spillDescriptor u g.spillAt n ++ part.flatMap (fun e => leBytes 8 e.toNat)
      let s := if wraps then s.ringWrite w (u + 32) [] 0 else s
      let s := s.ringWrite off flags body ((off + len) % size)
      let s := (s.onUnit u fun g => { g with spillAt := g.spillAt + n }).invalidSeen u invalid
      if last then s.spilled u deadUs else s
  | _, _ => s

/-- A record of Plough's is written at a 64-byte place in the window (R268, R295): its own with FLAGS 0, a running task's with TASK_ID + 1, a body of up to
64 KiB and no more in this epoch than its WIN_KIB. Beyond WIN_SIZE it is not issued (R270). What a longer body or a full share does the
spec does not say: nothing is written (DESIGN CHOICE, log 90). -/
def State.ploughRecord (s : State) (task : Option (Fin 8)) (at64 : Nat) (body : List Byte) : State :=
  let bytes := windowRecord (s.rd R.CXLCTL_WIN_EPOCH) (match task with | some t => t.val + 1 | none => 0) s.cxl.taskSeq body 2
  let allowed := match task with
    | some t => s.on (F.CPU_TASK.RUNNING t) && body.length ≤ 65536
        && nth s.cxl.taskBytes t 0 + bytes.length ≤ 1024 * (taskDesc (nth s.sec.tasks t [])).winKib
    | none => s.get F.CPU_STATUS.STATE = 2
  if !s.windowGranted || !allowed then s
  else if !s.inWindow (at64 * 64) bytes.length then s.windowFault F.CXLCTL_WIN_COUNT.RANGE
  else
    let s := s.linesOut at64 bytes
    { s with cxl := { s.cxl with
        taskSeq := (s.cxl.taskSeq + 1) % 2 ^ 32
        taskBytes := match task with | some t => s.cxl.taskBytes.modify t (· + bytes.length) | none => s.cxl.taskBytes } }

/-- READ_DATA's low word is read over a path: the entry at READ_PTR is latched and READ_PTR advances (R313). What lies beyond the
capture the spec does not say: a free value (log 5). -/
def State.readEntry (s : State) (p : Path) (u : Nat) (upset : MemWord) : State :=
  let k := s.get (F.GLEAN_READ_PTR.VALUE u)
  let within := k < (s.unit u).count
  let (e, s) :=
    if within then s.entryRead u k upset
    else
      let (a, s) := s.freeWord
      let (b, s) := s.freeWord
      (a.setWidth 64 ||| (b.setWidth 64 <<< 32), s)
  let lo : Word := e.setWidth 32
  let hi : Word := (e >>> 32).setWidth 32
  let s := (s.wr (R.GLEAN_READ_DATA_LO u) lo).wr (R.GLEAN_READ_DATA_HI u) hi
  let s := (s.latch p (R.GLEAN_READ_DATA_HI u) hi).wrapAdd (F.GLEAN_READ_PTR.VALUE u)
  let s := if entryInvalid e && within then s.invalidSeen u 1 else s
  { s with readData := lo }

/-! ### The sequencer (R307) -/

/-- Whether comparator `k` matches a masked word. -/
def GleanUnit.compares (g : GleanUnit) (k : Nat) (v : Nat) (before : Option Nat) : Bool :=
  let val := bitsOf (g.word (0x44 + 16 * k)) 23 0
  let v2 := bitsOf (g.word (0x48 + 16 * k)) 23 0
  let x := toSigned 24 v
  let lo := toSigned 24 val
  let hi := toSigned 24 v2
  match bitsOf (g.word (0x4C + 16 * k)) 2 0 with
  | 0 => v = val
  | 1 => v ≠ val
  | 2 => lo < x
  | 3 => x < lo
  | 4 => lo ≤ x && x ≤ hi
  | 5 => !(lo ≤ x && x ≤ hi)
  | _ => match before with
    | some b => v ≠ b
    | none => false

/-- The masked word of a comparator. -/
def GleanUnit.masked (g : GleanUnit) (k v : Nat) : Nat := v % 2 ^ 24 &&& bitsOf (g.word (0x40 + 16 * k)) 23 0

/-- Runs comparator `k` over the cycle's words; keys of words seen are 2 × k + word. Answers the matches and the words now seen. -/
def GleanUnit.matchWords (k : Nat) : GleanUnit → List (Bool × Nat) → Nat × GleanUnit
  | g, [] => (0, g)
  | g, (w, v) :: rest =>
    let sel := bitsOf (g.word (0x4C + 16 * k)) 5 4
    let key := 2 * k + (if w then 1 else 0)
    let x := g.masked k v
    let hit := (sel = 2 || (sel = 1) = w) && g.compares k x ((g.seen.find? (fun p => p.1 = key)).map (·.2))
    let (n, g) := GleanUnit.matchWords k { g with seen := (key, x) :: g.seen.filter (fun p => p.1 ≠ key) } rest
    ((if hit then 1 else 0) + n, g)

/-- Whether an event match sees its code in a cycle. -/
def GleanUnit.sees (g : GleanUnit) (k : Nat) (codes : List Nat) : Bool :=
  let w := g.word (0x20 + 4 * k)
  codes.any fun c => if bitsOf w 16 16 = 1 then c / 256 = bitsOf w 15 8 else c = bitsOf w 15 0

/-- Whether a condition of Table 15.2 holds; an index beyond its kind's range maps to the highest. -/
def State.condHolds (s : State) (u : Nat) (hits : List Nat) (cond : Nat) : Bool :=
  let g := s.unit u
  let i4 := min 3 (cond % 8)
  let i2 := min 1 (cond % 8)
  match cond / 8 with
  | 1 => true
  | 2 => 0 < nth hits i4 0
  | 3 => g.sees i4 g.arrived
  | 4 => g.joined
  | 5 => s.rd (R.GLEAN_CNT u i2) = g.word (0xA0 + 4 * i2)
  | 6 => (g.word (0xA8 + 4 * i2)).toNat ≤ nth g.timers i2 0
  | 7 => nth hits i4 0 = 0
  | _ => false

/-- A counter of the sequencer is incremented; it stops at its LIMIT. -/
def State.seqCount (s : State) (u k : Nat) : State :=
  let v := s.rd (R.GLEAN_CNT u k)
  if v = (s.unit u).word (0xA0 + 4 * k) then s else s.wr (R.GLEAN_CNT u k) (v + 1)

/-- The action of the condition taken: counters, the next state with CLR_ENTRY and TSTART, and firing. -/
def State.seqTake (s : State) (now : Clock) (u next inc : Nat) (trig : Bool) : State :=
  let s := [0, 1].foldl (fun s k => if inMask inc k then s.seqCount u k else s) s
  let entered := next ≠ s.get (F.GLEAN_STATE.SEQ u)
  let w := (s.unit u).word (0x80 + 4 * next)
  let s := [0, 1].foldl (fun s k => if entered && inMask (bitsOf w 7 6) k then s.wr (R.GLEAN_CNT u k) 0 else s) s
  let restart (p : Nat × Nat) : Nat := if entered && inMask (bitsOf w 5 4) p.2 then 0 else p.1
  let s := (s.set (F.GLEAN_STATE.SEQ u) next).onUnit u fun g => { g with timers := g.timers.zipIdx.map restart }
  if trig then s.fire now [u] else s

/-- The statistics counters that count matches of a unit's comparators (R318, KIND 2). -/
def State.statMatches (s : State) (u : Nat) (hits : List Nat) : State :=
  let n (i : Nat) : Nat :=
    if s.get (F.GLEAN_STAT_SRC.KIND i) = 2 && s.get (F.GLEAN_STAT_SRC.CODE i) / 16 % 4 = u then
      nth hits (s.get (F.GLEAN_STAT_SRC.CODE i) % 4) 0
    else 0
  s.statAdd n

/-- The conditions of a cycle: A, then B; none until PRE entries are recorded with WAIT_PRE. -/
def State.seqConditions (s : State) (now : Clock) (u : Nat) (hits : List Nat) : State :=
  let g := s.unit u
  if s.unitState u ≠ 1 || (g.waits && g.count < g.pre) then s
  else
    let w := g.word (0x80 + 4 * s.get (F.GLEAN_STATE.SEQ u))
    if s.condHolds u hits (bitsOf w 31 26) then s.seqTake now u (bitsOf w 19 17) (bitsOf w 11 10) (bitsOf w 13 13 = 1)
    else if s.condHolds u hits (bitsOf w 25 20) then s.seqTake now u (bitsOf w 16 14) (bitsOf w 9 8) (bitsOf w 12 12 = 1)
    else s

/-- The comparators of a unit over a cycle's words: how often each matched, and the words now seen. -/
def GleanUnit.matchAll (g : GleanUnit) (xs : List TapInstant) : List Nat × GleanUnit :=
  let words := xs.flatMap fun x => x.words.zipIdx.map fun p => (decide (p.2 = 1), p.1)
  (List.range 4).foldl (fun (acc : List Nat × GleanUnit) k =>
    let (n, g) := acc.2.matchWords k words
    (acc.1 ++ [n], g)) ([], g)

/-- A cycle of a unit: comparators and sequencer meet the cycle's instants, the events that have arrived and a join; then the instants of a
continuous tap are recorded, so that those of the firing cycle come after the trigger (R308). -/
def State.seqCycle (s : State) (now : Clock) (u : Nat) (xs : List TapInstant) : State :=
  let (hits, g) := (s.unitNow u).matchAll xs
  let s := (s.onUnit u fun x => { x with seen := g.seen }).statMatches u hits
  let s := s.seqConditions now u hits
  let s := s.onUnit u fun x => { x with arrived := [], joined := false }
  xs.foldl (fun s x => s.recordInstant u x) s

/-- The units meet the instants that the taps have delivered to them, each in a cycle of its own, in the order of their arrival. -/
def State.meetDue (s : State) : State :=
  s.glean.due.foldl (fun s d => s.seqCycle d.time d.unit [d.instant]) (s.onGlean fun g => { g with due := [] })

/-- What a unit's tap has delivered beside: instants of PORT_STATE, blocks of a burst tap. -/
def State.record (s : State) (u : Nat) (f : TapFeed) : State :=
  let s := (List.replicate f.instants ()).foldl (fun s _ => s.portInstant u |>.foldl (fun s x => s.seqCycle s.clock u [x]) s) s
  f.blocks.foldl (fun s b => s.recordBlock u b) s

/-- What the taps of all units have delivered. -/
def State.recordAll (s : State) (feeds : List TapFeed) : State :=
  (List.range 4).foldl (fun s u => s.record u (nth feeds u ⟨0, []⟩)) s.meetDue

/-- Timers of a unit count GLEAN cycles (R307). -/
def State.timersRun (s : State) (u n : Nat) : State := s.onUnit u fun g => { g with timers := g.timers.map (· + n) }

/-- A cycle of which a command tells: the timers have run on, and the cycle's instants are those of the burst tap, or of PORT_STATE as it is. -/
def State.seqRun (s : State) (u : Nat) (c : GleanCycle) : State :=
  let s := s.timersRun u c.elapsed
  s.seqCycle s.clock u (if burstTap u (bitsOf (s.gleanWord u 4) 7 0) then c.instants else s.portInstant u)

/-! ### DEPTH, PRE and POST (R309), TAP and TAP2 (R303, R306) -/

/-- The clamp of DEPTH, PRE and POST after a write to any of them. -/
def State.depthClamp (s : State) (u : Nat) : State :=
  let d := clampN 16 65536 (s.get (F.GLEAN_DEPTH.VALUE u))
  let pre := min (d - 1) (s.get (F.GLEAN_PRE.VALUE u))
  let post := clampN 1 (d - pre) (s.get (F.GLEAN_POST.VALUE u))
  ((s.set (F.GLEAN_DEPTH.VALUE u) d).set (F.GLEAN_PRE.VALUE u) pre).set (F.GLEAN_POST.VALUE u) post

/-- Tap codes of a unit end at this one (Table 15.1). -/
def tapTop (u : Nat) : Nat := if u < 2 then 5 else if u = 2 then 4 else 6

/-- TAP and TAP2 as stored: an unlisted TAP maps to 0x01; TAP2 is kept only in NLC pair mode. -/
def State.tapClamp (s : State) (u : Nat) : State :=
  let t := s.get (F.GLEAN_TAP.TAP u)
  let t := if 1 ≤ t && t ≤ tapTop u then t else 1
  let t2 := if u < 2 && t = 2 && s.get (F.GLEAN_TAP.TAP2 u) = 4 then 4 else 0
  (s.set (F.GLEAN_TAP.TAP u) t).set (F.GLEAN_TAP.TAP2 u) t2

/-! ### Statistics (R318, R319) -/

/-- SNAPSHOT: all 32 counters are copied after what they count in this cycle, with CLEAR they restart. -/
def State.statSnap (s : State) (clear : Bool) (now : List Nat) : State :=
  let before := (List.range 32).map (fun i => nth s.glean.stats i {})
  let s := s.statAdd (fun i => nth now i 0)
  let shown := copied clear before s.glean.stats
  let s := (List.range 32).foldl (fun s i =>
    let c := nth shown i {}
    let s := s.set48 (F.GLEAN_STAT_LO.VALUE i) (F.GLEAN_STAT_HI.VALUE i) c.value
    (s.setB (F.GLEAN_STAT_HI.OVF i) c.ovf).setB (F.GLEAN_STAT_HI.OVF_AT_WRITE i) c.atWrite) s
  s.onGlean fun g => { g with stats := snapped clear g.stats }

/-- A live counter is loaded: what it counts in this cycle is lost, but a wrap sets OVF, and OVF_AT_WRITE with it (R319). -/
def State.statLoad (s : State) (i v : Nat) (now : List Nat) : State :=
  let wrap : Bool := 2 ^ 48 ≤ (nth s.glean.stats i {}).value + nth now i 0
  (s.statAdd (fun k => nth now k 0)).onGlean fun g =>
    { g with stats := g.stats.modify i (fun c => { c with value := v % 2 ^ 48, atWrite := c.atWrite || wrap }) }

/-! ### Precise sampling and counters of the cores (R315 to R317) -/

/-- A sample is written into a core's buffer, or lost. -/
def State.psSample (s : State) (c : Nat) (x : PreciseSample) : State :=
  if !s.on (F.GLEAN_PS_CTRL.EN c) then s
  else if !s.on (F.GLEAN_PS_CTRL.WRAP c) && s.get (F.GLEAN_PS_LEVEL.LEVEL c) = 512 then s.bump (F.GLEAN_PS_STATUS.LOST c)
  else
    let k := s.get (F.GLEAN_PS_STATUS.INDEX c)
    let tail := min 65535 x.latency * 65536 + x.task.val * 4096 + x.priv.val * 256 + s.get (F.GLEAN_PS_CTRL.EVENT c)
    let s := (s.wr (R.GLEAN_PS_BUF c (4 * k)) (x.pc.setWidth 32)).wr (R.GLEAN_PS_BUF c (4 * k + 1)) ((x.pc >>> 32).setWidth 32)
    let s := (s.wr (R.GLEAN_PS_BUF c (4 * k + 2)) x.insn).wr (R.GLEAN_PS_BUF c (4 * k + 3)) (BitVec.ofNat 32 tail)
    let s := s.set (F.GLEAN_PS_STATUS.INDEX c) ((k + 1) % 512)
    let n := s.get (F.GLEAN_PS_LEVEL.LEVEL c)
    let s := s.set (F.GLEAN_PS_LEVEL.LEVEL c) (min 512 (n + 1))
    if n + 1 = 384 || n + 1 = 512 then s.raise 0x20 (16 + c) else s

/-- Updates a core's counters. -/
def State.onCore (s : State) (c : Nat) (f : CoreSt → CoreSt) : State := s.onGlean fun g => { g with cores := g.cores.modify c f }

/-- Occurrences in the next period: PERIOD with its low JITTER bits random, which are free values (log 5). -/
def State.psPeriod (s : State) (c : Nat) : Nat × State :=
  let p := s.get (F.GLEAN_PS_PERIOD.VALUE c)
  let j := s.get (F.GLEAN_PS_CTRL.JITTER c)
  if j = 0 then (p, s)
  else
    let (w, s) := s.freeWord
    (p / 2 ^ j * 2 ^ j + w.toNat % 2 ^ j, s)

/-- A period begins, some occurrences of it having passed. -/
def State.psBegin (s : State) (c past : Nat) : State :=
  let (p, s) := s.psPeriod c
  s.onCore c fun x => { x with psLeft := p - past }

/-- Occurrences of EVENT: at every PERIOD-th a sample is taken (R317). -/
def State.psOccur (s : State) (c n : Nat) (x : PreciseSample) : State :=
  let left := (nth s.glean.cores c {}).psLeft
  if !s.on (F.GLEAN_PS_CTRL.EN c) then s
  else if n < left then s.onCore c fun k => { k with psLeft := left - n }
  else (s.psSample c x).psBegin c (n - left)

/-- What a core's counter CSR reads (R315): 0 mcycle, 2 minstret, 3 to 14 the programmable counters, the rest 0. -/
def CoreSt.counter (x : CoreSt) (k : Nat) : BitVec 64 :=
  if k = 0 then x.mcycle else if k = 2 then x.minstret else if 3 ≤ k ∧ k ≤ 14 then nth x.counters (k - 3) 0 else 0

/-- Whether a programmable counter counts in a privilege (R315): its event number is not reserved, and the mode-inhibit bit of the privilege is
clear (Sscofpmf: bits 62 to 60 for M, S and U). -/
def eventCounts (e : BitVec 64) (priv : Nat) : Bool :=
  1 ≤ e.toNat % 256 && e.toNat % 256 ≤ 0x12 && !e.getLsbD (if priv = 3 then 62 else if priv = 1 then 61 else 60)

/-- A programmable counter counts (R316). A wrap sets OF, and raises the local interrupt if OF was 0. A CSR write stands and its cycle's increment
is lost. -/
def CoreSt.count (x : CoreSt) (k : Nat) (r : CoreRun) : CoreSt :=
  let e := nth x.events k 0
  let n := if eventCounts e r.priv then r.occurrences else 0
  let v := (nth x.counters k 0).toNat + (if r.write.isSome then n - 1 else n)
  let y := { x with
    counters := x.counters.set k (r.write.getD (BitVec.ofNat 64 v))
    mcycle := x.mcycle + BitVec.ofNat 64 r.cycles
    minstret := x.minstret + BitVec.ofNat 64 r.retired }
  if 2 ^ 64 ≤ v then { y with events := x.events.set k (e ||| (1 <<< 63)), overflow := x.overflow || !e.getLsbD 63 } else y

end Sys2Proof.Machine
end

