-- ==== Sys2Proof/Machine/CxlOps.lean ====
section
/-!
DEFINITION. The CXL port (R263 to R266), the device memory window (R267 to R270), the mailbox (R271), MSI-X enabling (R272) and the
host's violations (R273).
-/
namespace Sys2Proof.Machine

/-- Updates the port's internal state. -/
def State.onCxl (s : State) (f : CxlSt → CxlSt) : State := { s with cxl := f s.cxl }

/-- Raises a bit of the block with its event code (R276). -/
def State.cxlRaise (s : State) (b : Nat) : State := s.raiseEvent 0x1D b (0x1D01 + b)

/-- Records a violation of Table 13.9. -/
def State.cxlViolate (s : State) (code : Nat) : State :=
  ((s.bump F.CXLCTL_VIOLATION.COUNT).set F.CXLCTL_VIOLATION.LAST code).cxlRaise 7

/-! ### The window (Table 13.6) -/

/-- The window's state: 0 NONE, 1 GRANTED, 2 REVOKING. -/
def State.winState (s : State) : Nat := s.get F.CXLCTL_WIN_CMD.WSTATE

/-- Window users stop as the window leaves GRANTED (R266, R267): loads fail at their source, spills are HELD. -/
def State.winUsersStop (s : State) : State :=
  let s := if s.bufState = 1 && s.plan.load = .window then s.sourceError else s
  let s := if s.fwState = 1 && s.sec.expected.isSome then s.fwSourceError else s
  s.spillHold

/-- The window is lost: lines discarded, WIN_LOST. -/
def State.winLose (s : State) : State :=
  if s.winState = 0 then s
  else
    let s := if s.winState = 1 then (s.set F.CXLCTL_WIN_CMD.WSTATE 0).winUsersStop else s.set F.CXLCTL_WIN_CMD.WSTATE 0
    (s.onCxl fun c => { c with lines := [], timeouts := 0 }).cxlRaise 5

/-- GRANT: a new epoch. -/
def State.winGrant (s : State) : State :=
  if s.winState ≠ 0 || !s.cxlUp || s.get F.CXLCTL_LINK.PROTO ≠ 2 then s.cxlViolate 0x05
  else
    let s := (s.set F.CXLCTL_WIN_CMD.WSTATE 1).wrapAdd F.CXLCTL_WIN_EPOCH.EPOCH
    ((s.onCxl fun c => { c with timeouts := 0, taskSeq := 0, taskBytes := List.replicate 8 0 }).cxlRaise 3).spillResume

/-- REVOKE: users paused, lines written back. -/
def State.winRevoke (s : State) : State :=
  match s.winState with
  | 0 => s.cxlViolate 0x05
  | 1 => (s.set F.CXLCTL_WIN_CMD.WSTATE 2).winUsersStop
  | _ => s

/-- A window command over a path: only the host's take effect (R267). -/
def State.winCommand (s : State) (p : Path) (k : State → State) : State :=
  s.rwWrite p R.CXLCTL_WIN_CMD fun s => if isCxl p then k s else s.bump F.CXLCTL_WIN_COUNT.DROPPED

/-- The operation that needed a failed request fails as its chapter lays down (R45, R270). -/
def State.userFails (s : State) (u : WindowUser) : State :=
  match u with
  | .plan => if s.bufState = 1 && s.plan.load = .window then s.sourceError else s
  | .firmware => if s.fwState = 1 && s.sec.expected.isSome then s.fwSourceError else s
  | _ => s

/-- A request has had no completion for 10 ms; after four in a row the window is lost. -/
def State.winTimeout (s : State) (u : WindowUser) : State :=
  if s.winState = 0 then s
  else
    let s := ((s.windowFault F.CXLCTL_WIN_COUNT.TIMEOUTS).cxlViolate 0x07).userFails u
    let s := s.onCxl fun c => { c with timeouts := c.timeouts + 1 }
    if s.winState = 1 && 4 ≤ s.cxl.timeouts then s.winLose else s

/-- A request was completed with an error or poisoned data. -/
def State.winError (s : State) (u : WindowUser) : State :=
  if s.winState = 0 then s
  else ((s.windowFault F.CXLCTL_WIN_COUNT.HOST_ERR).cxlViolate 0x06 |>.onCxl fun c => { c with timeouts := 0 }).userFails u

/-- A snoop takes a line that the part holds; any other is answered with no data (R270). -/
def State.snoop (s : State) (line : Nat) : State :=
  let held := (s.cxl.lines.find? (fun l => l.1 = line)).map (·.2)
  (s.send (.snoop held)).onCxl fun c => { c with lines := c.lines.filter (fun l => l.1 ≠ line) }

/-! ### The port (Table 13.5) -/

/-- The port's state: 0 DOWN, 1 TRAINING, 2 UP. -/
def State.portState (s : State) : Nat := s.get F.CXLCTL_LINK.STATE

/-- The port enters DOWN: nothing is reported of the link. -/
def State.portDown (s : State) : State := s.wr R.CXLCTL_LINK 0

/-- The port leaves UP (R265, R266): LINK_DOWN; a surprise while the window is not NONE; the mailbox's response is discarded and the
session of path 0 ends (R290). -/
def State.leaveUp (s : State) : State :=
  let surprise := s.winState ≠ 0
  let s := s.portDown.cxlRaise 1
  let s := if surprise then ((s.bump F.CXLCTL_LINK_COUNT.SURPRISES).cxlRaise 2).winLose else s
  let s := s.onCxl fun c => { c with discard := s.on F.MBX_STATUS.BUSY }
  s.sessionEnd 0

/-- The port goes to DOWN from TRAINING or UP. -/
def State.portLoss (s : State) : State :=
  match s.portState with
  | 2 => s.leaveUp
  | 1 => s.portDown
  | _ => s

/-- Training starts. -/
def State.train (s : State) : State := s.portDown.set F.CXLCTL_LINK.STATE 1

/-- The configuration space's dwords that Table 13.4 fixes, at their PCIe offsets (PRESUMED, log 89): Vendor ID and Device ID; Revision ID and
class code; BAR0 and BAR2 as 64-bit non-prefetchable, without the addresses that the host gives them; the subsystem ids from the seed store; the
MSI-X capability's message control with 64 vectors, Enable and the function mask; AER's correctable error status. -/
def State.configWord (s : State) : CfgDword → Word
  | .id => 0x32800000 ||| Config.vendorId.setWidth 32
  | .revision => 0x028000B1
  | .bar0 => 0x4
  | .bar2 => 0x4
  | .subsystem => BitVec.ofNat 32 s.cal.subsys
  | .msix => BitVec.ofNat 32 ((63 + (if s.msixMasked then 2 ^ 14 else 0) + (if s.msixEnabled then 2 ^ 15 else 0)) * 2 ^ 16 + 0x11)
  | .aer => s.cxl.aer

/-- The sizes of BAR0 and BAR2 (Table 13.4). -/
def bar0Bytes : Nat := 64 * 2 ^ 20
def bar2Bytes : Nat := 64 * 2 ^ 10

/-- The port logic and its configuration space are reset: MSI-X disabled, its vectors masked and none pending. -/
def State.configReset (s : State) : State :=
  let s := { s with msixEnabled := false, msixMasked := false, cxl := { s.cxl with aer := 0 } }
  let s := (List.range 64).foldl (fun s v => s.set (vectorMask v) 1) s
  (s.wr (R.MSIX_PBA 0) 0).wr (R.MSIX_PBA 1) 0

/-! ### Mailbox (R271) -/

/-- GO with a LENGTH. -/
def State.mbxGo (s : State) (len : Nat) : State :=
  if !s.cxlUp then s
  else if s.on F.MBX_STATUS.BUSY then s.cxlViolate 0x01
  else if len = 0 then
    let s := (s.cxlViolate 0x03).wr R.MBX_STATUS 0
    let t := (s.set F.MBX_STATUS.ERROR 1).set F.MBX_STATUS.DONE 1
    State.msixEdge s t 0x30
  else
    let s := ((s.wr R.MBX_STATUS 0).set F.MBX_STATUS.BUSY 1).onCxl fun c => { c with discard := false }
    (s.onSec fun x => { x with mbxResp := none }).deliver? 0 (s.getBytes (R.MBX_COMMAND 0) (min 4096 len))

/-- The command ends: its response is written and DONE set, or after the loss of the port it is discarded (R266). -/
def State.mbxDone (s : State) : State :=
  if !s.on F.MBX_STATUS.BUSY then s
  else match s.sec.mbxResp with
    | none => s
    | some r =>
      let s := s.onSec fun x => { x with mbxResp := none }
      if s.cxl.discard then (s.wr R.MBX_STATUS 0).onCxl fun c => { c with discard := false }
      else
        let s := s.putBytes (R.MBX_RESPONSE 0) (r.take 4096)
        let s := (s.set F.MBX_STATUS.BUSY 0).set F.MBX_STATUS.LENGTH (min 4096 r.length)
        State.msixEdge s (s.set F.MBX_STATUS.DONE 1) 0x30

/-- The host moves HEAD: to an entry that the part has written, else to TAIL (R8, R273). The message follows while entries remain
(R26). -/
def State.headWrite (s : State) (h : Nat) : State :=
  let old := s.get F.MBX_NOTIFY_HEAD.HEAD
  let tail := s.get F.MBX_NOTIFY_TAIL.TAIL
  let s := if (h + 16 - old) % 16 ≤ (tail + 16 - old) % 16 then s.set F.MBX_NOTIFY_HEAD.HEAD h
    else (s.set F.MBX_NOTIFY_HEAD.HEAD tail).cxlViolate 0x08
  if s.cause 0x31 then s.msix 0x31 else s

/-! ### MSI-X (R272) -/

/-- A pending vector that is no longer masked, while the port is UP, sends its message if its cause is still present (log 88). -/
def State.msixReleaseOne (s : State) (v : Nat) : State :=
  if s.msixEnabled && s.cxlUp && s.on (pba v) && !s.msixMasked && !s.on (vectorMask v) then
    let s := s.setB (pba v) false
    if s.cause v then s.send (.msix v) else s
  else s

/-- Every pending vector that may sends its message. -/
def State.msixRelease (s : State) : State := (List.range 64).foldl State.msixReleaseOne s

/-- The host writes MSI-X Enable and the function mask: as MSI-X becomes enabled every vector whose cause is present is pending (R272). -/
def State.msixWrite (s : State) (enable masked : Bool) : State :=
  let rises := enable && !s.msixEnabled
  let s := { s with msixEnabled := enable, msixMasked := masked }
  let s := if rises then (List.range 64).foldl (fun s v => if s.cause v then s.setB (pba v) true else s) s else s
  s.msixRelease

end Sys2Proof.Machine
end

