-- ==== Sys2Proof/Machine/Cxl.lean ====
section
/-!
DEFINITION. The commands of the CXL port, the device memory window, the mailbox and MSI-X (R263 to R273).
-/
namespace Sys2Proof.Machine

/-! ### The port (Table 13.5) -/

/-- CXL_PERST_DEASSERT (R265). -/
def execCxlPerstDeassert (s : State) : Host.Outcome State Fault Refusal :=
  .next (
    let s := s.onCxl fun c => { c with released := true }
    if s.portState = 0 && s.cxl.refOk then s.train else s)

/-- An UP link reports its width and speed, within MAX_WIDTH and MAX_SPEED (R265). -/
def State.linkShow (s : State) (width speed : Nat) : State :=
  (s.set F.CXLCTL_LINK.WIDTH (min width (s.get F.CXLCTL_LINK_CTRL.MAX_WIDTH))).set F.CXLCTL_LINK.SPEED
    (min speed (s.get F.CXLCTL_LINK_CTRL.MAX_SPEED))

/-- CXL_L0_REACHED (R265): LINK_UP, which is wake source 3 (Table 16.4). -/
def execCxlL0Reached (proto : Fin 3) (width : Fin 16) (speed : Fin 7) (s : State) : Host.Outcome State Fault Refusal :=
  .next (
    if s.portState = 1 then
      let s := (s.set F.CXLCTL_LINK.STATE 2).set F.CXLCTL_LINK.PROTO proto
      ((s.linkShow width speed).wakeSource 3 (.raise 0x1D 0 (some 0x1D01))).msixRelease
    else s)

/-- CXL_TRAINING_TIMEOUT (R265). -/
def execCxlTrainingTimeout (s : State) : Host.Outcome State Fault Refusal :=
  .next (if s.portState = 1 then s.bump F.CXLCTL_LINK_COUNT.TRAIN_FAILS else s)

/-- CXL_LINK_RECOVERY (R265): AER shows a receiver error (PRESUMED, log 89). -/
def execCxlLinkRecovery (s : State) : Host.Outcome State Fault Refusal :=
  .next (
    if s.portState = 2 then (s.bump F.CXLCTL_LINK_COUNT.CORR_ERR).onCxl fun c => { c with aer := c.aer ||| 1 } else s)

/-- CXL_LINK_DOWN (R265, R266). -/
def execCxlLinkDown (s : State) : Host.Outcome State Fault Refusal := .next (if s.portState = 2 then s.leaveUp else s)

/-- CXL_PERST_ASSERT (R265). -/
def execCxlPerstAssert (s : State) : Host.Outcome State Fault Refusal :=
  .next ((s.onCxl fun c => { c with released := false }).portLoss).configReset

/-- CXL_HOT_RESET (R265). -/
def execCxlHotReset (s : State) : Host.Outcome State Fault Refusal := .next s.portLoss.configReset

/-- CXL_REF_LOST (R265). -/
def execCxlRefLost (s : State) : Host.Outcome State Fault Refusal :=
  .next (s.onCxl fun c => { c with refOk := false }).portLoss

/-- CXL_REF_RESTORED (R265): CXL_PERST_N is already deasserted. -/
def execCxlRefRestored (s : State) : Host.Outcome State Fault Refusal :=
  .next (
    let s := s.onCxl fun c => { c with refOk := true }
    if s.portState = 0 && s.cxl.released then s.train else s)

/-- CXL_RETRAIN (R265): the limits are stored; an UP link reports its new width and speed. -/
def execCxlRetrain (path : Path) (value : Word) (width : Fin 16) (speed : Fin 7) (s : State) : Host.Outcome State Fault Refusal :=
  .next (s.rwWrite path R.CXLCTL_LINK_CTRL fun s =>
    let s := match rowAt R.CXLCTL_LINK_CTRL with
      | some r => s.wr R.CXLCTL_LINK_CTRL (r.written false (s.rd R.CXLCTL_LINK_CTRL) value)
      | none => s
    if s.portState = 2 then s.linkShow width speed else s)

/-! ### The device memory window (Table 13.6) -/

/-- GRANT (R267). -/
def execGrant (path : Path) (s : State) : Host.Outcome State Fault Refusal := .next (s.winCommand path State.winGrant)

/-- REVOKE (R267). -/
def execRevoke (path : Path) (s : State) : Host.Outcome State Fault Refusal := .next (s.winCommand path State.winRevoke)

/-- WRITE_BACK_COMPLETE (R267). -/
def execWriteBackComplete (s : State) : Host.Outcome State Fault Refusal :=
  .next (
    if s.winState = 2 then
      ((s.set F.CXLCTL_WIN_CMD.WSTATE 0).onCxl fun c => { c with lines := [] }).cxlRaise 4
    else s)

/-- WRITE_BACK_TIMEOUT (R267). -/
def execWriteBackTimeout (s : State) : Host.Outcome State Fault Refusal := .next (if s.winState = 2 then s.winLose else s)

/-- WINDOW_REQUEST_TIMEOUT (R270, Table 13.6). -/
def execWindowRequestTimeout (user : WindowUser) (s : State) : Host.Outcome State Fault Refusal := .next (s.winTimeout user)

/-- WINDOW_HOST_ERROR (R270). -/
def execWindowHostError (user : WindowUser) (s : State) : Host.Outcome State Fault Refusal := .next (s.winError user)

/-- HOST_SNOOP (R270). -/
def execHostSnoop (line : Nat) (s : State) : Host.Outcome State Fault Refusal := .next (s.snoop line)

/-! ### Mailbox and MSI-X -/

/-- MBX_GO (R271). -/
def execMbxGo (length : Fin 8192) (s : State) : Host.Outcome State Fault Refusal := .next (s.mbxGo length)

/-- MBX_COMMAND_DONE (R271). -/
def execMbxCommandDone (s : State) : Host.Outcome State Fault Refusal := .next s.mbxDone

/-- MBX_NOTIFY_HEAD_WRITE (R271, R273). -/
def execMbxNotifyHeadWrite (head : Fin 16) (s : State) : Host.Outcome State Fault Refusal := .next (s.headWrite head)

/-- MSIX_ENABLE (R272). -/
def execMsixEnable (enable masked : Bool) (s : State) : Host.Outcome State Fault Refusal := .next (s.msixWrite enable masked)

end Sys2Proof.Machine
end

