-- ==== Sys2Proof/Machine/Faults.lean ====
section
/-!
DEFINITION. The commands of self-test, repair and the fault log (chapter 18).
-/
namespace Sys2Proof.Machine

/-! ### Self-test and repair -/

/-- BIST_COMPLETE (R355): the full BIST finishes and its results are held. -/
def execBistComplete (reports : List BistReport) (s : State) : Host.Outcome State Fault Refusal :=
  .next (if s.bistRuns then s.bistEnd reports else s)

/-- BIST_UNIT_TIMEOUT (R355). -/
def execBistUnitTimeout (report : BistReport) (s : State) : Host.Outcome State Fault Refusal := .next (s.bistStop report)

/-- A row fuse for each soft row repair not yet fused (R359); ignored while a BIST or a fuse command runs. -/
def State.hardRepair (s : State) : State :=
  if s.bistRuns || s.bist.fusing.isSome then s.bistIgnored else s.fuse s.unfused []

/-- HARD_REPAIR (R359): ignored while a BIST runs (Table 18.5). -/
def execHardRepair (path : Path) (s : State) : Host.Outcome State Fault Refusal :=
  .next (s.bistCommand path false State.hardRepair)

/-- HARD_FALLOW (R359). -/
def execHardFallow (path : Path) (unit : Fin 1024) (s : State) : Host.Outcome State Fault Refusal :=
  .next (s.bistCommand path false fun s =>
    let u := min 915 unit.val
    let s := s.set F.BIST_CTRL.UNIT u
    if s.bist.fusing.isSome then s.bistIgnored
    else s.fuse [] (if s.bist.fallowFuses.contains u then [] else [u]))

/-- HARD_DONE (R359). -/
def execHardDone (s : State) : Host.Outcome State Fault Refusal := .next s.fused

/-- CLEAR_FALLOW (R361): a fallow fuse keeps the unit fallow. -/
def execClearFallow (path : Path) (unit : Fin 1024) (s : State) : Host.Outcome State Fault Refusal :=
  .next (s.bistCommand path true fun s =>
    let u := min 915 unit.val
    (s.set F.BIST_CTRL.UNIT u).setMark u false)

/-! ### Faults (R364) -/

/-- FURROW_RESIDUE_FAIL (R361, R364): not logged while the furrow is under test; BUILD_FAULT in a build (Table 18.5). -/
def execFurrowResidueFail (furrow : Fin 104) (s : State) : Host.Outcome State Fault Refusal :=
  .next (
    if s.bistRuns then s
    else ((s.detected 0x0480 (some furrow.val)).markInService furrow).buildFault furrow)

/-- CLOCK_STOP (R364, Table 1.13): a home clock of a block stopped while the block was powered and not gated. -/
def execClockStop (block : Fin 39) (clk : Fin 20) (s : State) : Host.Outcome State Fault Refusal :=
  .next (
    if (rowAt (blockBase block)).isNone || !s.clockRuns block clk then s
    else ({ s with stoppedClocks := clockOf block clk :: s.stoppedClocks.filter (· ≠ clockOf block clk) }).detected
      (block.val * 256 + 0xF0) none)

/-- CFG_PARITY (R364, Table 1.13). -/
def execCfgParity (block : Fin 39) (s : State) : Host.Outcome State Fault Refusal :=
  .next (if (rowAt (blockBase block)).isNone then s else s.detected (block.val * 256 + 0xF1) none)

/-- LOCKSTEP_MISMATCH (R364): logged, and Hedge restarts. -/
def execLockstepMismatch (s : State) : Host.Outcome State Fault Refusal := .next (s.detected 0x2501 none).hedgeRestart

/-- D2D_CRC_ERROR (R364): the one retry masks a single error; a repeated one is detected. -/
def execD2dCrcError (again : Bool) (s : State) : Host.Outcome State Fault Refusal :=
  .next (if again then s.detected 0x2502 none else s.faultLog 0x2502 1 none)

/-- SUPPLY_OUT_OF_RANGE (R364). -/
def execSupplyOutOfRange (s : State) : Host.Outcome State Fault Refusal := .next (s.detected 0x2503 none)

/-- AON_REGISTER_UPSET (R364): masked. -/
def execAonRegisterUpset (s : State) : Host.Outcome State Fault Refusal := .next ((s.event 0x2504).faultLog 0x2504 1 none)

/-! ### The fault log (R366) -/

/-- ACK (R366): accepted from any path. -/
def execAck (path : Path) (s : State) : Host.Outcome State Fault Refusal :=
  .next (if s.isDown R.FAULT_CTRL then s.downAccess path R.FAULT_CTRL true else s.faultAck)

/-- FAULT_TEST (R366): in a MAKER session, FAULT_N is asserted without an entry. -/
def execFaultTest (path : Path) (s : State) : Host.Outcome State Fault Refusal :=
  .next (s.rwsWrite path R.FAULT_CTRL 2 fun s => ({ s with faultTest := true }).faultPin)

/-- FAULT_TEST_END (R366). -/
def execFaultTestEnd (s : State) : Host.Outcome State Fault Refusal := .next ({ s with faultTest := false }).faultPin

end Sys2Proof.Machine
end

