-- ==== Sys2Proof/Machine/Gleaner.lean ====
section
/-!
DEFINITION. The commands of Gleaner and of the performance counters (chapter 15).
-/
namespace Sys2Proof.Machine

/-! ### Arming, stopping, firing (R310) -/

/-- UNIT_ARM (R310, Table 15.3). -/
def execUnitArm (path : Path) (units : Fin 16) (s : State) : Host.Outcome State Fault Refusal :=
  .next (s.rwWrite path R.GLEAN_ARM_CTRL fun s => s.armCtrl (unitsOf units) [] [])

/-- UNIT_STOP (Table 15.3). -/
def execUnitStop (path : Path) (units : Fin 16) (feeds : List TapFeed) (s : State) : Host.Outcome State Fault Refusal :=
  .next (s.rwWrite path R.GLEAN_ARM_CTRL fun s => (s.recordAll feeds).armCtrl [] (unitsOf units) [])

/-- UNIT_FORCE (R310). -/
def execUnitForce (path : Path) (units : Fin 16) (feeds : List TapFeed) (s : State) : Host.Outcome State Fault Refusal :=
  .next (s.rwWrite path R.GLEAN_ARM_CTRL fun s => (s.recordAll feeds).armCtrl [] [] (unitsOf units))

/-- GLEAN_ARM_EDGE (R310): GLEAN_ARM is an input while ARM_OUT is 0; PIN_ARM as it is in force (R309). -/
def execGleanArmEdge (s : State) : Host.Outcome State Fault Refusal :=
  .next (
    if s.on F.GLEAN_XDEV.ARM_OUT then s
    else ((List.range 4).filter (fun u => bitsOf (s.gleanWord u 0) 6 6 = 1)).foldl State.arm s)

/-- GLEAN_FIRE_N_EDGE (R310): with FIRE_IN, armed units with FIRE_JOIN fire. -/
def execGleanFireNEdge (feeds : List TapFeed) (s : State) : Host.Outcome State Fault Refusal :=
  .next (s.recordAll feeds).fireEdge

/-- SEQUENCER_TRIGGER (R307): a cycle of a unit's sequencer. -/
def execSequencerTrigger (unit : Fin 4) (cycle : GleanCycle) (feeds : List TapFeed) (s : State) :
    Host.Outcome State Fault Refusal :=
  .next ((s.recordAll feeds).seqRun unit cycle)

/-- CAPTURE_COMPLETE (R308). -/
def execCaptureComplete (unit : Fin 4) (feed : TapFeed) (s : State) : Host.Outcome State Fault Refusal :=
  .next ((s.meetDue.record unit feed).captureDone unit)

/-- SPILL_RECORD_WRITTEN (R312); Plough's records into the window, for which the table has no row of their own, come with it too (log 90). -/
def execSpillRecordWritten (record : WindowRecord) (s : State) : Host.Outcome State Fault Refusal :=
  .next (
    match record with
    | .spill upsets deadUs => s.spillRecord upsets deadUs
    | .plough task at64 body => s.ploughRecord task at64 body)

/-- READ_DATA_READ (R313). -/
def execReadDataRead (path : Path) (unit : Fin 4) (upset : MemWord) (s : State) : Host.Outcome State Fault Refusal :=
  .next (
    if s.unheard path false then s
    else if s.isDown (R.GLEAN_READ_DATA_LO unit) then s.downRead path (R.GLEAN_READ_DATA_LO unit)
    else s.readEntry path unit upset)

/-! ### Statistics counters (R318) -/

/-- STAT_SNAPSHOT (R318). -/
def execStatSnapshot (path : Path) (clear : Bool) (now : List Nat) (s : State) : Host.Outcome State Fault Refusal :=
  .next (s.rwWrite path R.GLEAN_STAT_CTRL fun s => s.statSnap clear now)

/-- STAT_LOAD (R318, R13): the staged low word and the high word written. -/
def execStatLoad (path : Path) (counter : Fin 32) (value : Word) (now : List Nat) (s : State) :
    Host.Outcome State Fault Refusal :=
  .next (s.rwWrite path (R.GLEAN_STAT_HI counter) fun s =>
    s.statLoad counter ((s.staged path (R.GLEAN_STAT_LO counter)).toNat + bitsOf value 15 0 * 2 ^ 32) now)

/-! ### The Plough cores (R316, R317) -/

/-- PS_SAMPLE (R317). -/
def execPsSample (core : Fin 4) (occurrences : Nat) (sample : PreciseSample) (s : State) : Host.Outcome State Fault Refusal :=
  .next (s.psOccur core occurrences sample)

/-- HPM_COUNTER_OVERFLOW (R316). -/
def execHpmCounterOverflow (core : Fin 4) (counter : Fin 12) (run : CoreRun) (s : State) : Host.Outcome State Fault Refusal :=
  .next (s.onCore core fun x => x.count counter run)

end Sys2Proof.Machine
end

