-- ==== Sys2Proof/Machine/Loops.lean ====
section
/-!
DEFINITION. The control loops (chapter 12): the engine's frame (R241, R242), the laws (R243, R244), supervision (R247, R248),
commands and trace buffers.
-/
namespace Sys2Proof.Machine

/-! ### One update -/

/-- The 24-bit signed limits of a signal (R243). -/
def sat24 (x : Int) : Int := clampI (-(2 ^ 23)) (2 ^ 23 - 1) x

/-- The integrator's 48-bit accumulator (R243; that it is wider than the signals is DEDUCED, log 78). -/
def sat48 (x : Int) : Int := clampI (-(2 ^ 47)) (2 ^ 47 - 1) x

/-- A profile's numbers. -/
def State.setpoint (s : State) (n x : Nat) : Int := s.getS (F.LOOP_P_SETPOINT.VALUE n x)
def State.gainKp (s : State) (n x : Nat) : Int := s.get (F.LOOP_P_KP.VALUE n x)
def State.gainKi (s : State) (n x : Nat) : Int := s.get (F.LOOP_P_KI.VALUE n x)
def State.gainKd (s : State) (n x : Nat) : Int := s.get (F.LOOP_P_KD_SCALE.VALUE n x)

/-- X, the in-phase amplitude of the frames summed: (2 / N) × Σ s × r (R243). -/
def State.lockX (s : State) (n : Nat) : Int :=
  let l := s.lp n
  if l.frames = 0 then 0 else roundHalfDown (2 * l.sum) (65536 * l.frames)

/-- f, the feedback after the law's processing (Table 12.2). -/
def State.feedback (s : State) (n x : Nat) (v : Int) : Int :=
  let ofs := s.getS (F.LOOP_P_OFFSET.VALUE n x)
  match s.get (F.LOOP_P_LAW.LAW n x) with
  | 2 => sat24 (s.lockX n - ofs)
  | 3 => sat24 (round16 ((v - ofs) * s.gainKd n x))
  | _ => sat24 (v - ofs)

/-- e = SETPOINT − f, negated by INVERT (R243). -/
def State.loopError (s : State) (n x : Nat) (f : Int) : Int :=
  let e := s.setpoint n x - f
  sat24 (if s.on (F.LOOP_P_LAW.INVERT n x) then -e else e)

/-- FF of CONST_CURRENT (Table 12.2). -/
def State.feedForward (s : State) (n x : Nat) : Int :=
  if s.get (F.LOOP_P_LAW.LAW n x) = 4 then round16 (s.setpoint n x * s.gainKd n x) else 0

/-- The output and the integrator of one update (R243, R244): the integrator moves first, then the output is clamped, and the
integrator holds where the limit or a CONST_POWER ceiling stops the output. Answers u, I and whether a ceiling holds u. -/
def State.law (s : State) (n x : Nat) (f e : Int) : Int × Int × Bool :=
  let l := s.lp n
  let kp := round16 (s.gainKp n x * e)
  let i := sat48 (l.integ + round16 (s.gainKi n x * e))
  let d := if s.get (F.LOOP_P_LAW.LAW n x) = 1 then round16 (s.gainKd n x * (f - l.f)) else 0
  let raw := s.feedForward n x + kp + i - d
  let lo : Int := s.get (F.LOOP_P_OUT_LIM.OUT_MIN n x) * 256
  let hi : Int := s.get (F.LOOP_P_OUT_LIM.OUT_MAX n x) * 256
  let u := clampI lo hi raw
  let ceiling := s.get (F.LOOP_P_LAW.LAW n x) = 3 && s.on (F.LOOP_INPUT.AUX_EN n)
    && s.get (F.LOOP_INPUT.AUX_LIMIT n) < s.get (F.HKADC_RESULT.VALUE (s.get (F.LOOP_INPUT.AUX_ENTRY n))) / 4096 && l.u < u
  let held := (hi < raw && 0 < e) || (raw < lo && e < 0) || ceiling
  (if ceiling then l.u else u, if held then l.integ else i, ceiling)

/-- The integrator at the first update in a new state: the law's output equals u0 (R246). -/
def State.preloadOf (s : State) (n x : Nat) (e u0 : Int) : Int := sat48 (u0 - round16 (s.gainKp n x * e) - s.feedForward n x)

/-- The code nearest to an output (R9). -/
def outCode (u : Int) : Nat := (clampI 0 65535 (roundHalfDown u 256)).toNat

/-- The registers that show a loop's last update. -/
def State.showLoop (s : State) (n : Nat) : State :=
  (s.setS (F.LOOP_ERROR.E n) (s.lp n).e).setS (F.LOOP_INTEG.I n) (s.lp n).integ

/-! ### Supervision (R247, R248) -/

/-- The output goes to the last good value, or to the channel's safe value; FB_LOST, HOLD with cause 1. All but
the stale check are faults of Table 18.4. The run that the stale check judges ends (DEDUCED, log 78). -/
def State.feedbackLost (s : State) (n cause lastGood : Nat) : State :=
  let s := (((s.onLoop n fun l => { l with hist := [], wild := 0 }).loopHold n 1).set (F.LOOP_STATUS.LOSS_CAUSE n) cause).set (F.LOOP_OUT.GOOD n) 0
  let s := (s.bump (F.LOOP_COUNT.FB_LOSSES n)).loopFlag n 0
  let s := if cause = 1 then s else s.faultLog (0x1A10 + n) 2 none
  if s.on (F.LOOP_CTRL.SAFE_ON_LOSS n) then s.onDac (s.loopDac n) fun d => { d with lossSafe := true }
  else s.handOut n lastGood

/-- Whether the stale check fails: over the last STALE_COUNT updates the raw code has stayed within the band of its first value
while the output has moved. Answers the output before the run. -/
def State.stale (s : State) (n : Nat) : Option Nat :=
  let cnt := s.get (F.LOOP_STALE.STALE_COUNT n)
  let win := (s.lp n).hist.take cnt
  let band := s.get (F.LOOP_STALE.STALE_BAND n)
  let move := s.get (F.LOOP_STALE.STALE_MOVE n)
  match win.getLast? with
  | some (r0, o0) =>
    if cnt ≠ 0 && win.length = cnt && win.all (fun (r, _) => r ≤ r0 + band && r0 ≤ r + band)
        && win.any (fun (_, o) => o0 + move < o || o + move < o0) then some o0
    else none
  | none => none

/-- The following error of an update (R248). Answers whether the loop is to be held. -/
def State.following (s : State) (n : Nat) (e : Int) : Bool × State :=
  let lim := s.get (F.LOOP_FE.FE_LIMIT n)
  let k := if 0 < lim && lim < e.natAbs then (s.lp n).fe + 1 else 0
  if 0 < k && s.get (F.LOOP_FE.FE_TIME n) ≤ k then
    let s := s.onLoop n fun l => { l with fe := 0 }
    (s.on (F.LOOP_CTRL.FE_HOLD n), (s.bump (F.LOOP_COUNT.FE_TRIPS n)).loopFlag n 2)
  else (false, s.onLoop n fun l => { l with fe := k })

/-- LOOP_SIGNAL of an update (Table 15.1): signals 0 to 7 of the loop. -/
def State.loopTold (s : State) (n : Nat) : State :=
  (List.range 8).foldl (fun s k => s.tapped 3 4 (n + 16 * k) ⟨[ofSigned 24 (s.loopSignal n k)], false⟩) s

/-- The trace buffers that record a loop's updates, and Gleaner's tap. -/
def State.traceUpdate (s : State) (n : Nat) : State :=
  let s := s.loopTold n
  (List.range 4).foldl (fun s b =>
    if s.get (F.LOOP_TRACE_CTRL.LOOP b) = n && !s.on (F.LOOP_TRACE_CTRL.EVERY_FRAME b) then s.traceRecord b else s) s

/-- An update whose feedback is good: the law runs, or preloads at the first update or after a change of LAW, with u within the limits now in force
(R244, R246). -/
def State.runLaw (s : State) (n : Nat) (f e : Int) : State :=
  let x := s.profile n
  let law := s.get (F.LOOP_P_LAW.LAW n x)
  let l := s.lp n
  let pre := if l.preload.isSome then l.preload else if law ≠ l.law then some l.u else none
  let (u, i, ceiling) : Int × Int × Bool := match pre with
    | some u0 =>
      let u := clampI (s.get (F.LOOP_P_OUT_LIM.OUT_MIN n x) * 256) (s.get (F.LOOP_P_OUT_LIM.OUT_MAX n x) * 256) u0
      (u, s.preloadOf n x e u, false)
    | none => s.law n x f e
  let s := s.onLoop n fun l =>
    { l with u := u, integ := i, f := f, e := e, preload := none, law := law, out := some (outCode u), goodOut := outCode u }
  if ceiling && !s.on (F.LOOP_FLAGS.AUX_LIMIT n) then s.loopFlag n 4 else s

/-- Whether a loop's feedback has not been refreshed for 2 loop periods: FB_ENTRY has not converted since (R247). -/
def State.notRefreshed (s : State) (n : Nat) : Bool :=
  2 * s.get (F.LOOP_CTRL.DIV n) < nth s.ana.adc.idle (s.get (F.LOOP_INPUT.FB_ENTRY n)) 0

/-- The checks and the law of a closed loop's update (R243 to R248). -/
def State.checkedUpdate (s : State) (n : Nat) : State :=
  let x := s.profile n
  let en := s.get (F.LOOP_INPUT.FB_ENTRY n)
  let v : Int := s.get (F.HKADC_RESULT.VALUE en)
  let raw := nth s.ana.adc.raw en 0
  let fresh := s.on (F.HKADC_RESULT.VALID en)
  let sane := s.get (F.LOOP_PLAUS.PLAUS_MIN n) ≤ raw && raw ≤ s.get (F.LOOP_PLAUS.PLAUS_MAX n)
  let wild := if sane then 0 else (s.lp n).wild + 1
  let s := s.onLoop n fun l => { l with wild := wild, hist := ((raw, s.get (F.LOOP_OUT.CODE n)) :: l.hist).take 255 }
  match s.stale n with
  | some good =>
    let (_, s) := if fresh && sane then s.following n (s.loopError n x (s.feedback n x v)) else (false, s)
    s.feedbackLost n 1 (if (s.lp n).preload.isSome then (s.lp n).goodOut else good)
  | none =>
    if s.notRefreshed n then s.feedbackLost n 2 (s.lp n).goodOut
    else if 2 ≤ wild then s.feedbackLost n 3 (s.lp n).goodOut
    else if !fresh || !sane then s
    else
      let f := s.feedback n x v
      let e := s.loopError n x f
      let (hold, s) := s.following n e
      if hold then (s.onLoop n fun l => { l with f := f, e := e }).loopHold n 3 else s.runLaw n f e

/-- A closed loop's update; lock-in sums the frames since it anew, whatever its checks find (R243). -/
def State.closedUpdate (s : State) (n : Nat) : State :=
  let x := s.lockX n
  (s.checkedUpdate n).onLoop n fun l => { l with x := x, sum := 0, frames := 0 }

/-- Whether a loop runs an update when it is due: MANUAL, CLOSED_A or CLOSED_B. -/
def State.updates (s : State) (n : Nat) : Bool := s.loopState n = 1 || s.loopState n = 3 || s.loopState n = 4

/-- The cycles of an update (Table 12.1); the spec gives MANUAL none (DESIGN CHOICE, log 78: 0). -/
def State.updateCost (s : State) (n : Nat) : Nat :=
  if s.loopState n = 1 then 0
  else match s.get (F.LOOP_P_LAW.LAW n (s.profile n)) with
    | 0 => 36
    | 1 => 48
    | 2 => 44
    | _ => 40

/-- The cycles of a frame that serve updates and lock-in samples (R241). -/
def frameCycles : Nat := 960

/-- Whether every ADC-A entry that a loop reads has converted in this frame's pass; MANUAL reads none (R241). -/
def State.entriesRead (s : State) (n : Nat) : Bool :=
  s.loopState n = 1 || (s.ana.adc.converted.contains (s.get (F.LOOP_INPUT.FB_ENTRY n))
    && (!s.on (F.LOOP_INPUT.AUX_EN n) || s.ana.adc.converted.contains (s.get (F.LOOP_INPUT.AUX_ENTRY n))))

/-- Whether the engine can take a loop's update now: it is due, the entries it reads have converted, no lower loop's is still to be taken, and the
frame has the cycles left for it (R241). -/
def State.mayUpdate (s : State) (n : Nat) : Bool :=
  (s.lp n).due && s.updates n && s.entriesRead n && (List.range n).all (fun m => !((s.lp m).due && s.updates m))
    && s.ana.cycles + s.updateCost n ≤ frameCycles

/-- An update of a loop (R241). -/
def State.loopRun (s : State) (n : Nat) : State :=
  let s := if s.loopState n = 1 then
      let code := s.get (F.LOOP_MAN_OUT.MAN_OUT n)
      s.onLoop n fun l => { l with u := code * 256, out := some code, preload := none }
    else s.closedUpdate n
  (s.showLoop n).traceUpdate n

/-- A due loop's update, with the cycles it uses (R241). One that the engine cannot take now does nothing. -/
def State.loopUpdate (s : State) (n : Nat) : State :=
  if s.mayUpdate n then
    let s := { s with ana := { s.ana with cycles := s.ana.cycles + s.updateCost n } }
    (s.onLoop n fun l => { l with due := false }).loopRun n
  else s

/-! ### Frames (R241, R242) -/

/-- Whether a closed loop locks in. -/
def State.locksIn (s : State) (n : Nat) : Bool :=
  (s.loopState n = 3 || s.loopState n = 4) && s.get (F.LOOP_P_LAW.LAW n (s.profile n)) = 2

/-- A lock-in loop's sample of the frame: the entry's value times the reference of generator GEN at HARM (R243). -/
def State.lockIn (s : State) (n : Nat) : State :=
  let x := s.profile n
  if s.locksIn n then
    let en := s.get (F.LOOP_INPUT.FB_ENTRY n)
    let ph := nth (nth s.ana.adc.phases en []) (s.get (F.LOOP_P_LAW.GEN n x)) 0
    let r := sineOf (ph * BitVec.ofNat 32 (s.get (F.LOOP_P_LAW.HARM n x)))
    s.onLoop n fun l => { l with sum := l.sum + s.get (F.HKADC_RESULT.VALUE en) * r, frames := l.frames + 1 }
  else s

/-- The last frame's outputs go to their channels together. -/
def State.handOutputs (s : State) (n : Nat) : State :=
  match (s.lp n).out with
  | some code => (s.handOut n code).onLoop n fun l => { l with out := none }
  | none => s

/-- A missed deadline (R242): an update still due at the next frame's start is counted and stays due. One that could not start since its entry no
longer converts finds the feedback not refreshed (R247; DEDUCED, log 78). -/
def State.deadlineMiss (s : State) (n : Nat) : State :=
  if (s.lp n).due && s.updates n then
    let s := (s.bump (F.LOOP_COUNT.DL_MISSES n)).loopFlag n 3
    if s.loopState n ≠ 1 && s.notRefreshed n then s.feedbackLost n 2 (s.lp n).goodOut else s
  else s

/-- A frame of a loop's period passes: the loop is due every DIV frames (R241). -/
def State.periodFrame (s : State) (n : Nat) : State :=
  if s.updates n then
    s.onLoop n fun l => if s.get (F.LOOP_CTRL.DIV n) ≤ l.period + 1 then { l with period := 0, due := true } else { l with period := l.period + 1 }
  else s

/-- An engine frame starts (R241, R242): LAST and PEAK of the frame before, its missed deadlines and its outputs; then the loops due in the
new frame and their lock-in samples, 6 cycles each. -/
def State.engineFrame (s : State) : State :=
  let s := s.wrapAdd F.LOOP_FRAME.COUNT
  let s := s.setSat F.LOOP_ENGINE_LOAD.LAST s.ana.cycles
  let s := s.setSat F.LOOP_ENGINE_LOAD.PEAK (max s.ana.cycles (s.get F.LOOP_ENGINE_LOAD.PEAK))
  let s := s.onAdc fun a => { a with converted := [], idle := a.idle.map (· + 1) }
  let s := (List.range 16).foldl State.deadlineMiss s
  let s := (List.range 16).foldl State.handOutputs s
  let s := (List.range 16).foldl State.periodFrame s
  let s := { s with ana := { s.ana with cycles := 6 * ((List.range 16).filter s.locksIn).length } }
  let s := (List.range 16).foldl State.lockIn s
  (List.range 4).foldl (fun s b => if s.on (F.LOOP_TRACE_CTRL.EVERY_FRAME b) then s.traceRecord b else s) s

/-- RECLOSE (Table 12.3). -/
def State.reclose (s : State) (n : Nat) : State :=
  if s.loopState n = 2 && s.holdCause n = 1 && s.on (F.LOOP_CTRL.AUTO_RECLOSE n) && 256 ≤ s.get (F.LOOP_OUT.GOOD n) then
    (s.handOver n (s.get (F.LOOP_CTRL.MODE n))).loopFlag n 5
  else s

/-! ### Trace buffers (R251) -/

/-- A running buffer stops. -/
def State.traceHalt (s : State) (b : Nat) : State :=
  if s.on (F.LOOP_TRACE_CTRL.RUN b) then
    ((s.set (F.LOOP_TRACE_CTRL.RUN b) 0).set (F.LOOP_TRACE_STATUS.STOPPED b) 1).raise 0x1A (16 + b)
  else s

/-- RUN is written: a buffer starts at word 0; clearing RUN stops it at once. -/
def State.traceRun (s : State) (b : Nat) (run : Bool) : State :=
  if run then
    if s.on (F.LOOP_TRACE_CTRL.RUN b) then s
    else
      let s := (s.wr (R.LOOP_TRACE_STATUS b) 0).set (F.LOOP_TRACE_CTRL.RUN b) 1
      { s with ana := { s.ana with traces := s.ana.traces.set b {} } }
  else s.traceHalt b

/-! ### Meanings -/

/-- ENGINE_FRAME_START (R241, R242). -/
def execEngineFrameStart (s : State) : Host.Outcome State Fault Refusal := .next s.engineFrame

/-- LOOP_UPDATE (R241, R243). -/
def execLoopUpdate (loop : Fin 16) (s : State) : Host.Outcome State Fault Refusal := .next (s.loopUpdate loop)

/-- LOOP_MODE_WRITE (R245, Table 12.3). -/
def execLoopModeWrite (path : Path) (loop : Fin 16) (mode : Fin 8) (s : State) : Host.Outcome State Fault Refusal :=
  .next (s.rwWrite path (R.LOOP_CTRL loop) fun s =>
    s.loopWritePath path loop 0 (withBits (s.rd (R.LOOP_CTRL loop)) 2 0 mode))

/-- LOOP_RECLOSE (Table 12.3). -/
def execLoopReclose (loop : Fin 16) (s : State) : Host.Outcome State Fault Refusal := .next (s.reclose loop)

/-- LOOP_REGISTER_WRITE (R249). -/
def execLoopRegisterWrite (path : Path) (loop : Fin 16) (word : Fin 64) (value : Word) (s : State) :
    Host.Outcome State Fault Refusal :=
  .next (s.rwWrite path (R.LOOP_CTRL loop) fun s => s.loopWritePath path loop (4 * word) value)

/-- TRACE_RUN (R251). -/
def execTraceRun (path : Path) (buffer : Fin 4) (run : Bool) (s : State) : Host.Outcome State Fault Refusal :=
  .next (s.rwWrite path (R.LOOP_TRACE_CTRL buffer) fun s => s.traceRun buffer run)

/-- TRACE_STOP (R251): the words after the stopping event are recorded. -/
def execTraceStop (buffer : Fin 4) (s : State) : Host.Outcome State Fault Refusal :=
  .next (if (nth s.ana.traces buffer.val {}).post = some 0 then s.traceHalt buffer else s)

end Sys2Proof.Machine
end

