-- ==== Sys2Proof/Machine/MemOps.lean ====
section
/-!
DEFINITION. Accesses to the on-chip memories by their agents (R255 to R258), the harrow (R260) and the init engine (R255).
-/
namespace Sys2Proof.Machine

/-! ### Agents (R255 to R258) -/

/-- What the consumer of an uncorrectable read does (Table 13.2): a validation that reads the plan buffer ends, Plough takes an access fault
with the address in mtval, Hedge's own SRAM is a fault of Hedge; the others as `State.consumed` says. -/
def State.uncorrectable (s : State) (r w : Nat) (reader : MemReader) : State :=
  if r = 4 then
    if reader = .plan then
      if s.bufState = 3 then
        let boot := s.plan.after = .boot
        let s := s.rejectPlan 5 0x09 0xFFFF
        if boot then s.bootRejected else s
      else s
    else s.onMem fun m => { m with mtval := 8 * w }
  else if r = 5 then (s.detected 0x2501 none).hedgeRestart
  else s.consumed r w reader

/-- A read by an agent; it waits while the word's domain is not ON. A Plough core has no right to Hedge's SRAM: it reads 0, and is counted (R277). -/
def State.memRead (s : State) (r w : Nat) (upset : MemWord) (reader : MemReader) : State :=
  if r = 5 ∧ reader = .plough then (s.onMem fun m => { m with last := some 0 }).bump F.CPU_COUNT.ALIAS_DROPPED
  else if !s.domOn (wordDomain r w) then s.memWait (.read r w upset reader)
  else
    let (d, s) := s.memFetch r w upset
    let s := s.onMem fun m => { m with last := d }
    if d.isNone then s.uncorrectable r w reader else s

/-- A full 64-bit write by an agent. -/
def State.memWrite (s : State) (r w : Nat) (d : BitVec 64) : State :=
  if s.domOn (wordDomain r w) then s.memPutFull r w d else s.memWait (.write r w d)

/-- A write of fewer than 64 bits by an agent. -/
def State.memMerge (s : State) (r w bytes : Nat) (d : BitVec 64) (upset : MemWord) : State :=
  if s.domOn (wordDomain r w) then s.memPutSome r w bytes d upset else s.memWait (.merge r w bytes d upset)

/-! ### The harrow (R260) -/

/-- The harrow looks at one word. -/
def State.harrowWord (s : State) (r w : Nat) (upset : MemWord) : State :=
  let y := syndromeOf (turned (s.memWord r w) upset)
  let s := (s.memFetch r w upset).2
  if y = 0 then s
  else if correctable y then s.bump (F.MEM_HARROW.CORRECTED r)
  else if y = poison then s.bump (F.MEM_HARROW.POISONED r)
  else s

/-- A region's end is reached: it is walked, and its pointer returns to its first word. -/
def State.regionWalked (s : State) (r ms : Nat) : State :=
  (s.onMem fun m => { m with next := m.next.set r 0, walked := if m.walked.contains r then m.walked else r :: m.walked }).lapEnd ms

/-- The harrow's pointer passes a word; after the region's last powered word the region is walked. -/
def State.harrowPass (s : State) (r w ms : Nat) : State :=
  match if w + 1 < regionWords r then s.poweredFrom r (w + 1) else none with
  | some n => s.onMem fun m => { m with next := m.next.set r n }
  | none => s.regionWalked r ms

/-- One step of the harrow in a region; it rests while EN is 0 and during a BIST (R355). With no powered word left from the pointer on, a region
with others before it is walked. -/
def State.harrow (s : State) (r : Nat) (upset : MemWord) (ms : Nat) : State :=
  if !s.on F.MEM_HARROW_CTRL.EN || s.bistRuns then s
  else
    let s := s.onMem fun m => { m with lapMs := ms }
    match s.poweredFrom r (nth s.mem.next r 0) with
    | none => if (s.poweredFrom r 0).isSome then s.regionWalked r ms else s
    | some w => (s.harrowWord r w upset).harrowPass r w ms

/-- The init engine has written every word: data 0, valid check bits; accesses that waited for it are carried out (R255). -/
def State.memInit (s : State) : State :=
  ((s.onMem fun m => { waiting := m.waiting }).raise 0x1C 20).memResume

end Sys2Proof.Machine
end

