-- ==== Sys2Proof/Machine/Memory.lean ====
section
/-!
DEFINITION. The commands of the on-chip memories (R254 to R262).
-/
namespace Sys2Proof.Machine

/-- MEMORY_READ (R256, Table 13.2). -/
def execMemoryRead (region : Fin 9) (word : Nat) (upset : MemWord) (reader : MemReader) (s : State) :
    Host.Outcome State Fault Refusal :=
  if word < regionWords region then .next (s.memRead region word upset reader) else .fault .noSuchWord

/-- MEMORY_PARTIAL_WRITE (R257). -/
def execMemoryPartialWrite (region : Fin 9) (word : Nat) (bytes : Fin 256) (value : BitVec 64) (upset : MemWord) (s : State) :
    Host.Outcome State Fault Refusal :=
  if word < regionWords region then .next (s.memMerge region word bytes value upset) else .fault .noSuchWord

/-- MEMORY_FULL_WRITE (R257, R261). -/
def execMemoryFullWrite (region : Fin 9) (word : Nat) (value : BitVec 64) (s : State) : Host.Outcome State Fault Refusal :=
  if word < regionWords region then .next (s.memWrite region word value) else .fault .noSuchWord

/-- FLIP_ARM (R261): MAKER. -/
def execFlipArm (path : Path) (region : Fin 16) (check : Byte) (s : State) : Host.Outcome State Fault Refusal :=
  .next (s.rwsWrite path R.MEM_FLIP_CTRL 2 fun s =>
    ((s.set F.MEM_FLIP_CTRL.REGION (min 8 region.val)).set F.MEM_FLIP_CTRL.CHECK check.toNat).set F.MEM_FLIP_CTRL.ARMED 1)

/-- HARROW_STEP (R260). -/
def execHarrowStep (region : Fin 9) (upset : MemWord) (lapMs : Nat) (s : State) : Host.Outcome State Fault Refusal :=
  .next (s.harrow region upset lapMs)

/-- BUCKET_LEAK (R259). -/
def execBucketLeak (region : Fin 9) (s : State) : Host.Outcome State Fault Refusal :=
  .next (s.set (F.MEM_BUCKET.LEVEL region) (s.get (F.MEM_BUCKET.LEVEL region) - 1))

/-- MEMORY_INIT_DONE (R255). -/
def execMemoryInitDone (s : State) : Host.Outcome State Fault Refusal := .next s.memInit

end Sys2Proof.Machine
end

