-- ==== Sys2Proof/Machine/ShutOps.lean ====
section
/-!
DEFINITION. The orderly shut-down (R336, R337, Table 16.9).
-/
namespace Sys2Proof.Machine

/-- Up to t0 + 1 ms: SHUTTING, transmitters ramp down, egress at LF, loops OFF, outputs held safe, links DARK, tasks stopped. -/
def State.shutNow (s : State) : State :=
  let s := (s.set F.PWR_STATUS.SHUTTING 1).onPower fun w => { w with shutWaits := false, shutTests := false }
  let s := carriers.foldl State.rampDown s
  let s := s.egressAll
  let s := (List.range 16).foldl (fun s n => (s.set (F.LOOP_CTRL.MODE n) 0).handOver n 0) s
  let s := carriers.foldl State.linkDark s
  let s := carriers.foldl State.stepsDiscard s
  s.tasksStop

/-- What a shut-down waits for: a cold apply, and wakes (Table 16.10). -/
def State.shutHeld (s : State) : Bool := s.bufState = 6 || (List.range 27).any (fun d => s.domState d = 4)

/-- A shut-down is asked for: ignored and counted while one runs or the part is HALTED; it waits for a cold apply or a wake. -/
def State.shutRequest (s : State) (skip run : Bool) : State :=
  if s.shut then s.bump F.PWR_STATUS.IGNORED
  else
    let s := s.onPower fun w => { w with shutSkips := skip || (w.shutWaits && w.shutSkips), shutRun := run || (w.shutWaits && w.shutRun) }
    if s.shutHeld then s.onPower fun w => { w with shutWaits := true } else s.shutNow

/-- A shut-down that waited proceeds. -/
def State.shutTry (s : State) : State := if s.power.shutWaits && !s.shutHeld then s.shutNow else s

/-- A domain is switched off, whatever its state. -/
def State.haltDomain (s : State) (d : Nat) : State :=
  ((s.avsDrop d).onPower fun w =>
    { w with dropTimers := w.dropTimers.filter (· ≠ d), gaps := w.gaps.filter (· ≠ d), resets := w.resets.filter (· ≠ d) }).sleepDomain d 0

/-- HALTED: only PD_AON, PD_HEDGE, PD_FABRIC and PD_ANA stay ON; SHUTDOWN_DONE once the outputs are safe. -/
def State.halt (s : State) : State :=
  let s := (s.set F.PWR_STATUS.HALTED 1).set F.PWR_STATUS.SHUTTING 0
  let s := (List.range 23).foldl (fun s i => s.haltDomain (3 + i)) s
  (s.onPower fun w => { w with shutOwes := true, shutTests := false, shutSkips := false, shutRun := false }).shutdownDone

/-- Whether the shut-down tests: not skipped, and the life cycle allows it (R336, Table 14.10). -/
def State.shutTesting (s : State) : Bool :=
  !s.power.shutSkips && (s.power.shutRun || !s.on F.PWR_CTRL.BIST_SKIP) && s.lifeCycle ≠ 4

/-- The words of the fault log's entries. -/
def State.faultWords (s : State) : List Word :=
  (List.range 64).flatMap fun i =>
    [s.rd (R.FAULT_ENTRY_CODE i), s.rd (R.FAULT_ENTRY_DETAIL i), s.rd (R.FAULT_ENTRY_TIME_LO i), s.rd (R.FAULT_ENTRY_TIME_HI i)]

/-- Plough copies the fault log to the seed store's LOG partition (R367), where Plough runs. -/
def State.faultCopied (s : State) : State := if s.cpu = 2 then s.onCal fun k => { k with faultCopy := s.faultWords } else s

/-- t_s and after: the fault log copied, Plough halted, all votes but Hedge's withdrawn; BIST starts, or HALTED follows. -/
def State.seedWritesDone (s : State) : State :=
  if s.on F.PWR_STATUS.SHUTTING && !s.power.shutTests && s.cal.stores.isEmpty then
    let s := s.faultCopied.ploughStop 0
    let s := (List.range 27).foldl (fun s d => s.setVotes d (s.get (F.PWR_VOTE.VOTES d) % 2)) s
    if s.shutTesting then (s.onPower fun w => { w with shutTests := true }).bistStart else s.halt
  else s

end Sys2Proof.Machine
end

