-- ==== Sys2Proof/Machine/Time.lean ====
section
/-!
DEFINITION. The TIME block (chapter 9): setting and adjusting the clock (R186, R187), references and the servo (R189, R190), the
two-way line transfer (R192 to R194), pulse outputs (R199, R200) and capture inputs (R201, R202).
-/
namespace Sys2Proof.Machine

/-! ### Setting and adjusting -/

/-- The four words of a time value as a clock; nanoseconds above 999,999,999 clamp (R185). -/
def clockOfWords (w0 w1 w2 w3 : Word) : Clock :=
  ⟨bitsOf w3 15 0 * 2 ^ 32 + w2.toNat, min 999999999 (bitsOf w1 29 0), bitsOf w0 31 16 * 2 ^ 16⟩

/-- TIME_SET commits (R186): VALID, CLOCK_SET, the slew cancelled, the line transfer from any state to WAIT (Table 9.3). -/
def State.timeSet (s : State) (t : Clock) : State :=
  let s := s.clockTo t.ticks
  let s := (s.onTime fun x => { x with slew := 0 }).set F.TIME_STATUS.VALID 1
  (s.toTt 1).timeShow.timeRaise 4 0x1405

/-- An offset in 2^−16 ns is applied by MODE (R187). -/
def State.timeAdjust (s : State) (units : Int) : State :=
  if s.on F.TIME_ADJ_CTRL.MODE then (s.onTime fun t => { t with slew := t.slew + units }).timeShow
  else (s.clockStep units).timeRaise 5 0x1406

/-- The slew remainder is used up: the clock has moved by it and the slew term ends (R187). A slew passes no edge: each is issued as the clock
reaches it (R200). -/
def State.slewDone (s : State) : State :=
  let units := s.time.slew
  let s := { s with clock := Clock.ofTicks (s.clock.ticks + units * 65536) }
  (s.onTime fun t => { t with slew := 0 }).timeShow

/-- One measurement, offset in 2^−16 ns: a step on a first measurement beyond STEP_US, else the PI law. A positive offset is a
clock ahead of its source, so the frequency is lowered. -/
def State.servoStep (s : State) (off : Int) : State :=
  let stepAt : Int := s.get F.TIME_SERVO.STEP_US * 1000 * 65536
  if s.time.first && stepAt < off.natAbs then
    ((s.onTime fun t => { t with first := false, servoF := some (t.servoF.getD 0) }).clockStep (-off)).timeShow.timeRaise 5 0x1406
  else
    let integ := s.time.integ + off
    let p : Int := off / 256 / 2 ^ s.get F.TIME_SERVO.KP
    let i : Int := integ / 256 / 2 ^ s.get F.TIME_SERVO.KI
    (s.onTime fun t =>
      { t with first := false, integ := integ, servoF := some (clampI (-freqTop) freqTop (-(p + i))) }).timeShow

/-- Whether an offset lies within ±`k` × LOCK_NS. -/
def State.inLock (s : State) (k : Nat) (off : Int) : Bool := off.natAbs ≤ k * s.get F.TIME_SERVO.LOCK_NS * 65536

/-- Consecutive measurements inside the lock window and outside four times it. -/
def State.lockCounts (s : State) (inside outside : Nat) (off : Int) : Nat × Nat :=
  (if s.inLock 1 off then inside + 1 else 0, if s.inLock 4 off then 0 else outside + 1)

/-- The offset of TC0 (Table 9.1): the signed distance of a rising edge's stamp from the nearest whole second, 2^−16 ns. A stamp half a
second from both is judged by the earlier (R9). -/
def wholeSecondOffset (units : Int) : Int := units - roundHalfDown units 65536000000000 * 65536000000000

/-- A measurement of TC0 (R190): steering, then SYNCED after 16 inside, SYNC_LOST after 4 outside. DEDUCED: TC0's servo that loses SYNCED is
in MEASURING again, so its next measurement may step the clock. -/
def State.servoMeasure (s : State) (off : Int) : State :=
  let s := s.servoStep off
  let (a, b) := s.lockCounts s.time.servoIn s.time.servoOut off
  let s := s.onTime fun t => { t with servoIn := a, servoOut := b }
  if !s.time.servoLock && 16 ≤ a then (s.onTime fun t => { t with servoLock := true }).timeRaise 0 0x1401
  else if s.time.servoLock && 4 ≤ b then (s.onTime fun t => { t with servoLock := false, servoIn := 0, first := true }).timeRaise 1 0x1402
  else s

/-- The stamp of a rising edge of TC0, in 2^−16 ns, is a measurement while TC0 is the source and the servo may steer (R189, R190). -/
def State.tcMeasure (s : State) (units : Int) : State :=
  if s.get F.TIME_STATUS.REF = 2 && s.on F.TIME_CTRL.SERVO_EN then s.servoMeasure (wholeSecondOffset units) else s

/-! ### The line transfer (R193, R194) -/

/-- The TX_TIME history's entry of a frame. -/
def State.departure (s : State) (frame : Nat) : Option (Int × Bool) :=
  (s.time.sent.find? (fun e => e.1 = frame)).map (fun e => e.2)

/-- Table 9.3 after a complete set with its OFFSET. -/
def State.ttTrack (s : State) (off : Int) : State :=
  let s := if s.ttState = 1 then s.toTt 2 else s
  let s := if s.lineSteers then s.servoStep off else s
  let (a, b) := s.lockCounts s.time.ttIn s.time.ttOut off
  let s := s.onTime fun t => { t with ttIn := a, ttOut := b }
  if s.ttState = 2 && 16 ≤ a then
    let s := s.toTt 3
    let s := if s.get F.TIME_STATUS.ROLE = 2 then s.set F.TIME_STATUS.VALID 1 else s
    s.timeRaise 0 0x1401
  else if s.ttState = 3 && 4 ≤ b then (s.toTt 2).timeRaise 1 0x1402
  else s

/-- A set is discarded (R194). -/
def State.ttDiscard (s : State) : State := s.bump F.TIME_TT_STATUS.DISCARDED

/-- A set of four times (R193): t3 from the history; discards by R194. -/
def State.ttMeasure (s : State) (m : TransferSet) : State :=
  match s.departure m.ref with
  | none => s.ttDiscard
  | some (t3, slip) =>
    let d1 := m.t2 - m.t1
    let d2 := m.t4 - t3 / 65536
    let mean := (d1 + d2) / 2
    if slip || !m.good || mean < 0 || 250000000 * 65536 < mean then s.ttDiscard
    else
      let a := s.getS F.TIME_ASYMMETRY.VALUE
      let off := (d1 - d2) / 2 - (if s.get F.TIME_STATUS.ROLE = 2 then a else -a)
      let s := s.setS F.TIME_TT_OFFSET.VALUE (clampI (-(2 ^ 31)) (2 ^ 31 - 1) (off / 256))
      let s := s.setSat F.TIME_TT_DELAY.VALUE (mean / 65536).toNat
      let s := s.tapped 3 6 0 ⟨[s.get F.TIME_TT_OFFSET.VALUE % 2 ^ 24], false⟩
      (s.wrapAdd F.TIME_TT_STATUS.SEQ).ttTrack off

/-! ### Pulse outputs (R199, R200) -/

/-- The programmed START of a pulse output. -/
def State.tpStart (s : State) (n : Nat) : Clock :=
  clockOfWords (s.rd (R.TP_START_0 n)) (s.rd (R.TP_START_1 n)) (s.rd (R.TP_START_2 n)) (s.rd (R.TP_START_3 n))

/-- ARM (R199, R200): the limits of PERIOD and WIDTH, and a START less than 1 µs ahead. -/
def State.tpArm (s : State) (n : Nat) : State :=
  let per := clampN 20 4294967295 (s.get (F.TP_PERIOD.NS n))
  let wid := clampN 1 (per - 1) (s.get (F.TP_WIDTH.NS n))
  let start := (s.tpStart n).ticks
  let least := s.clock.ticks + 1000 * nsTicks
  let period := per * nsTicks
  let late := start < least
  let lead := if late then start + ((least - start + period - 1) / period) * period else start
  let s := if late then (s.set (F.TP_CTRL.LATE n) 1).timeRaise (8 + n) (0x1410 + n) else s
  if late && !s.on (F.TP_CTRL.MODE n) then s
  else
    s.pulseShow n fun s =>
      (s.onPulse n fun _ => { lead := lead, period := period, width := wid * nsTicks, high := false, stopping := false }).set
        (F.TP_CTRL.ACTIVE n) 1

/-- STOP: at once, or after the pulse in progress (R199). -/
def State.tpStop (s : State) (n : Nat) : State :=
  if (s.pulse n).high then s.onPulse n fun p => { p with stopping := true } else s.pulseShow n (·.set (F.TP_CTRL.ACTIVE n) 0)

/-- The local clock reaches a programmed edge: if the model's clock is behind, it is there now (log 1). -/
def State.tpEdge (s : State) (n : Nat) : State :=
  if s.on (F.TP_CTRL.ACTIVE n) && s.timeRuns then
    let s := if s.clock.ticks < s.pulseEdge n then { s with clock := Clock.ofTicks (s.pulseEdge n) } else s
    s.issueEdge n
  else s

/-! ### Capture inputs (R201, R202) -/

/-- A capture queue. -/
def State.capture (s : State) (m : Nat) : CaptureSt := nth s.time.captures m {}

/-- Updates a capture queue and shows its LEVEL. -/
def State.onCapture (s : State) (m : Nat) (f : CaptureSt → CaptureSt) : State :=
  let s := s.onTime fun t => { t with captures := t.captures.modify m f }
  s.set (F.TC_CTRL.LEVEL m) (s.capture m).queue.length

/-- Whether captures are enabled: EN, forced to 1 for TC0 while REF is 2 (R203). -/
def State.captureOn (s : State) (m : Nat) : Bool := s.on (F.TC_CTRL.EN m) || (m = 0 && s.get F.TIME_STATUS.REF = 2)

/-- The qualifier delay of TC0 and TC1, (MIN_WIDTH + 3) × 1.25 ns, in 2^−32 ns (R383). -/
def State.tcQualDelay (s : State) (m : Nat) : Int := (s.get (F.PINS_QUAL_CFG.MIN_WIDTH (3 + m)) + 3) * 5368709120

/-- The stamp of an edge that the qualifier delivers at a time: less the qualifier delay and DELAY (Table 9.2). -/
def State.tcStamp (s : State) (m : Nat) (time : Int) : Clock :=
  Clock.ofTicks (time - s.tcQualDelay m - s.get (F.TC_DELAY.VALUE m) * 2 ^ 24)

/-- A stamp joins the queue, or is lost to a full one (R201). -/
def State.captureStamp (s : State) (m : Nat) (falling : Bool) (t : Clock) : State :=
  if (s.capture m).queue.length < 16 then
    (s.onCapture m fun c => { c with queue := c.queue ++ [(t, falling)] }).raise 0x14 (12 + m)
  else ((s.bump (F.TC_CTRL.LOST m)).onCapture m fun c => { c with lost := true }).timeRaise (14 + m) (0x1420 + m)

/-- An edge that the qualifier delivers, of the selected kind, is stamped (R201, R191); a rising one of TC0 is the servo's measurement
(R190). -/
def State.captureEdge (s : State) (m : Nat) (falling : Bool) (time : Int) : State :=
  let sel := s.get (F.TC_CTRL.EDGE m)
  if s.captureOn m && (sel = 3 || sel = (if falling then 2 else 1)) then
    let t := s.tcStamp m time
    let s := s.captureStamp m falling t
    if m = 0 && !falling then s.tcMeasure (t.ticks / 65536) else s
  else s

/-- The low word of `TC_m_CAP` is read: the oldest stamp is taken and its upper words are latched for the path (R202); OVF says that stamps
were lost before it (R201). The CAPTURE bit falls with the last stamp (R204). -/
def State.captureRead (s : State) (p : Path) (m : Nat) : State :=
  match (s.capture m).queue with
  | [] => { s with readData := 0 }
  | (t, falling) :: rest =>
    let ovf := (s.capture m).lost
    let s := s.onCapture m fun _ => { queue := rest, lost := false }
    let s := if rest.isEmpty then s.setB ⟨intStatus 0x14, 12 + m, 12 + m⟩ false else s
    let s := s.latch p (R.TC_CAP_1 m) (timeWord t 1)
    let s := s.latch p (R.TC_CAP_2 m) (timeWord t 2)
    let s := s.latch p (R.TC_CAP_3 m) (timeWord t 3)
    let low := timeWord t 0 ||| BitVec.ofNat 32 (1 + (if falling then 2 else 0) + (if ovf then 4 else 0))
    { s with readData := low }

/-! ### Meanings -/

/-- TIME_SET_COMMIT (R186, R13). -/
def execTimeSetCommit (path : Path) (value : Word) (s : State) : Host.Outcome State Fault Refusal :=
  .next (s.rwWrite path R.TIME_SET_3 fun s =>
    s.timeSet (clockOfWords (s.staged path R.TIME_SET_0) (s.staged path R.TIME_SET_1) (s.staged path R.TIME_SET_2) value))

/-- INVALIDATE (R186). -/
def execInvalidate (path : Path) (s : State) : Host.Outcome State Fault Refusal :=
  .next (s.rwWrite path R.TIME_CTRL fun s => s.set F.TIME_STATUS.VALID 0)

/-- TIME_ADJ_COMMIT (R187, R13). -/
def execTimeAdjCommit (path : Path) (value : Word) (s : State) : Host.Outcome State Fault Refusal :=
  .next (s.rwWrite path R.TIME_ADJ_HI fun s =>
    s.timeAdjust (toSigned 32 value.toNat * 65536 + (bitsOf (s.staged path R.TIME_ADJ_LO) 31 16 : Int)))

/-- SLEW_COMPLETE (R187). -/
def execSlewComplete (s : State) : Host.Outcome State Fault Refusal := .next (if s.timeRuns then s.slewDone else s)

/-- REF_LOST (R189). -/
def execRefLost (s : State) : Host.Outcome State Fault Refusal :=
  .next (
    if s.on F.TIME_STATUS.HOLDOVER then s
    else ((s.set F.TIME_STATUS.PLL_LOCK 0).set F.TIME_STATUS.HOLDOVER 1).timeRaise 2 0x1403)

/-- REF_RESTORED (R189). -/
def execRefRestored (s : State) : Host.Outcome State Fault Refusal :=
  .next (
    if s.on F.TIME_STATUS.HOLDOVER then
      ((s.set F.TIME_STATUS.PLL_LOCK 1).set F.TIME_STATUS.HOLDOVER 0).timeRaise 3 0x1404
    else s)

/-- SERVO_MEASUREMENT (R190): the servo's part of a rising edge of TC0 with this stamp, for an edge that no CAPTURE_EDGE delivers
(log 4); the line's measurements are TT_MEASUREMENT. -/
def execServoMeasurement (edge : Stamp) (s : State) : Host.Outcome State Fault Refusal :=
  .next (s.tcMeasure (stampUnits edge))

/-- TT_MEASUREMENT (R192 to R194): on the times that the last peer frame which began a multiframe brought. -/
def execTtMeasurement (s : State) : Host.Outcome State Fault Refusal :=
  .next (
    match s.time.set with
    | some m =>
      let s := s.onTime fun t => { t with set := none }
      if s.ttState ≠ 0 && m.valid && s.on F.TIME_STATUS.VALID then s.ttMeasure m else s
    | none => s)

/-- TT_SET_TIMEOUT (Table 9.3). -/
def execTtSetTimeout (s : State) : Host.Outcome State Fault Refusal := .next s.ttWait

/-- TP_ARM (R199, R200). -/
def execTpArm (path : Path) (n : Fin 4) (s : State) : Host.Outcome State Fault Refusal :=
  .next (s.rwWrite path (R.TP_CTRL n) fun s => s.tpArm n)

/-- TP_STOP (R199). -/
def execTpStop (path : Path) (n : Fin 4) (s : State) : Host.Outcome State Fault Refusal :=
  .next (s.rwWrite path (R.TP_CTRL n) fun s => s.tpStop n)

/-- TP_EDGE (R199). -/
def execTpEdge (n : Fin 4) (s : State) : Host.Outcome State Fault Refusal := .next (s.tpEdge n)

/-- CAPTURE_EDGE (R201): an edge that the qualifier delivers now; a masked input delivers none (R383). -/
def execCaptureEdge (m : Fin 2) (falling : Bool) (s : State) : Host.Outcome State Fault Refusal :=
  .next (if s.on (F.PINS_QUAL_STATUS.MASKED (3 + m)) then s else s.captureEdge m falling s.clock.ticks)

/-- CAPTURE_READ (R202). -/
def execCaptureRead (path : Path) (m : Fin 2) (s : State) : Host.Outcome State Fault Refusal :=
  .next (
    if s.unheard path false then s
    else if s.isDown (R.TC_CAP_0 m) then s.downRead path (R.TC_CAP_0 m)
    else s.captureRead path m)

end Sys2Proof.Machine
end

