-- ==== Sys2Proof/Machine/Pins.lean ====
section
/-!
DEFINITION. The thermal trip (R380) and the input qualifiers (R383, R384).
-/
namespace Sys2Proof.Machine

/-- THERM_TRIP (R380): two readings in a row; both above 115 °C they trip, and the orderly shut-down skips BIST. -/
def execThermTrip (first second : Int) (s : State) : Host.Outcome State Fault Refusal :=
  .next (
    let s := s.set F.PINS_THERM.TEMP (ofSigned 8 (clampI (-128) 127 second))
    if first ≤ 115 || second ≤ 115 || s.on F.PINS_THERM.TRIPPED then s
    else (((s.set F.PINS_THERM.TRIPPED 1).raise 0x26 16).detected 0x2601 none).shutRequest true false)

/-! ### Input qualifiers -/

/-- A qualifier's internal state. -/
def State.qual (s : State) (q : Nat) : QualSt := nth s.quals q {}

/-- Updates it. -/
def State.onQual (s : State) (q : Nat) (f : QualSt → QualSt) : State := { s with quals := s.quals.modify q f }

/-- Whether a ball's level is an input's active level. -/
def State.isActive (s : State) (q : Nat) (high : Bool) : Bool := high != s.on (F.PINS_QUAL_CFG.ACTIVE_LOW q)

/-- The level at the ball, which `PINS_GPIO_IN` shows too. -/
def State.rawLevel (s : State) (q : Nat) (high : Bool) : State :=
  let s := s.setB (F.PINS_QUAL_STATUS.RAW q) high
  if 7 ≤ q then s.setB ⟨R.PINS_GPIO_IN, q - 7, q - 7⟩ high else s

/-- What a delivered change does at its consumer, with the time of its edge: WAKE_N is wake source 0 and a GPIO event input wake source 6
(Table 16.4), SYNC_N resets the chains (R214), GLEAN_FIRE_N fires units with FIRE_IN (R310), TC0 and TC1 are stamped (R201). The spec names
no consumer of the balls LOS_A and LOS_B (log 4). -/
def State.consume (s : State) (q : Nat) (active : Bool) (time : Int) : State :=
  if q = 3 || q = 4 then s.captureEdge (q - 3) (!active) time
  else if !active then s
  else if q = 0 then s.wakeSource 0 .nothing
  else if q = 1 then s.chainsSync
  else if q = 2 then s.fireEdge
  else if 7 ≤ q && s.on ⟨R.PINS_GPIO_CTRL, 16 + (q - 7), 16 + (q - 7)⟩ then s.wakeSource 6 .nothing
  else s

/-- A change whose edge was at a time is delivered; an assertion starts the gap, unless MIN_GAP is 0. -/
def State.qualDeliver (s : State) (q : Nat) (active : Bool) (time : Int) : State :=
  let gap := active && s.on (F.PINS_QUAL_CFG.MIN_GAP q)
  (s.onQual q fun _ => { delivered := active, gap := gap }).consume q active time

/-- A new level that holds for `width` × 1.25 ns: filtered, absorbed in a gap, or delivered. A masked input delivers nothing. -/
def State.qualChange (s : State) (q : Nat) (high : Bool) (width : Nat) : State :=
  let active := s.isActive q high
  if s.on (F.PINS_QUAL_STATUS.MASKED q) || active = s.on (F.PINS_QUAL_STATUS.QUALIFIED q) then s.rawLevel q high
  else if width < s.get (F.PINS_QUAL_CFG.MIN_WIDTH q) then (s.rawLevel q (!high)).bump (F.PINS_QUAL_STATUS.FILTERED q)
  else
    let s := (s.rawLevel q high).setB (F.PINS_QUAL_STATUS.QUALIFIED q) active
    if (s.qual q).gap then
      let s := s.onQual q fun x => { x with first := some (x.first.getD s.clock.ticks) }
      if active then s.bump (F.PINS_QUAL_STATUS.COALESCED q) else s
    else s.qualDeliver q active s.clock.ticks

/-- QUALIFIER_CHANGE (R383). -/
def execQualifierChange (q : Fin 15) (high : Bool) (width : Nat) (s : State) : Host.Outcome State Fault Refusal :=
  .next (s.qualChange q high width)

/-- MIN_GAP_END (R383). -/
def execMinGapEnd (q : Fin 15) (s : State) : Host.Outcome State Fault Refusal :=
  .next (
    if (s.qual q).gap then
      let time := (s.qual q).first.getD s.clock.ticks
      let s := s.onQual q fun x => { x with gap := false, first := none }
      let now := s.on (F.PINS_QUAL_STATUS.QUALIFIED q)
      if s.on (F.PINS_QUAL_STATUS.MASKED q) || now = (s.qual q).delivered then s else s.qualDeliver q now time
    else s)

/-- STUCK (R383, R390). -/
def execStuck (q : Fin 15) (s : State) : Host.Outcome State Fault Refusal :=
  .next (
    if s.on (F.PINS_QUAL_CFG.STUCK_LIMIT q) && s.on (F.PINS_QUAL_STATUS.QUALIFIED q) && !s.on (F.PINS_QUAL_STATUS.MASKED q) then
      ((s.bump (F.PINS_QUAL_STATUS.STUCKS q)).set (F.PINS_QUAL_STATUS.MASKED q) 1).raiseEvent 0x26 q (0x2610 + q.val)
    else s)

/-- STUCK_RELEASE (R383): nothing is delivered. -/
def execStuckRelease (q : Fin 15) (s : State) : Host.Outcome State Fault Refusal :=
  .next (
    if s.on (F.PINS_QUAL_STATUS.MASKED q) then
      let s := (s.rawLevel q (s.on (F.PINS_QUAL_CFG.ACTIVE_LOW q))).set (F.PINS_QUAL_STATUS.QUALIFIED q) 0
      (s.set (F.PINS_QUAL_STATUS.MASKED q) 0).onQual q fun x => { x with delivered := false }
    else s)

end Sys2Proof.Machine
end

