-- ==== Sys2Proof/Machine/PlanApply.lean ====
section
/-!
DEFINITION. The commands that apply a plan: the cold apply (R47, Table 2.19) and the hitless re-plan (R49, R50, Table 2.20).
-/
namespace Sys2Proof.Machine

/-- PLAN_CHUNK (R45): an OPERATOR request over WMP, refused with BUSY while Hedge restarts (R287). -/
def execPlanChunk (e : Envelope) (offset : Word) (data : List Byte) (s : State) : Host.Outcome State Fault Refusal :=
  .next (
    if s.sec.hedge = .restarting then s.nak e 3 1 0x05
    else s.wmp e 3 1 (beBytes 4 offset.toNat ++ data) 1 fun s =>
      let (s, nak) := s.planChunk offset.toNat data
      s.reply e 3 1 nak [])

/-! ### Cold apply -/

/-- APPLY_COLD (Table 2.18): a LOADED plan is validated first. -/
def execApplyCold (sender : Sender) (s : State) : Host.Outcome State Fault Refusal :=
  .next (s.planCommand sender 4 fun s =>
    if s.bufState = 2 && s.mayApply then (s.planAccepted sender 4).startValidation .applyCold
    else if s.bufState = 4 && s.mayApply then (s.planAccepted sender 4).applyStart
    else s.planIgnored sender)

/-- VALIDATION_COMPLETE (R43, Table 2.18). -/
def execValidationComplete (s : State) : Host.Outcome State Fault Refusal := .next (if s.bufState = 3 then s.validated else s)

/-- COLD_APPLY_STAGE (Table 2.19): the stages up to `ms` after t0. -/
def execColdApplyStage (ms : Nat) (s : State) : Host.Outcome State Fault Refusal :=
  .next (if s.bufState = 6 then s.applyUpTo (min 80 ms) else s)

/-- COLD_APPLY_COMPLETE (Table 2.19): t0 + 100 ms. A shut-down that waited proceeds. -/
def execColdApplyComplete (s : State) : Host.Outcome State Fault Refusal :=
  .next (if s.bufState = 6 then s.applyDone.shutTry else s)

/-! ### Hitless re-plan -/

/-- PREPARE_HITLESS (Tables 2.18 and 2.20). -/
def execPrepareHitless (sender : Sender) (s : State) : Host.Outcome State Fault Refusal :=
  .next (s.planCommand sender 5 fun s =>
    if s.bufState = 2 && s.hState = 0 && s.mayApply then (s.planAccepted sender 5).startValidation .prepareHitless
    else if s.bufState = 4 && s.hState = 0 && s.mayApply then (s.planAccepted sender 5).prepare
    else s.planIgnored sender)

/-- BUILD_READY (Table 2.20): READY once every new group has converged. -/
def execBuildReady (s : State) : Host.Outcome State Fault Refusal :=
  .next (if s.hState = 1 && s.allConverged then (s.toH 2).raise 0x02 4 else s)

/-- SWITCH_START (Table 2.20): transmit multiframe M begins. -/
def execSwitchStart (mf : Nat) (s : State) : Host.Outcome State Fault Refusal :=
  .next (if s.hState = 3 && mf = s.get F.PLAN_SWITCH.SWITCH_MF then s.switchStart else s)

/-- RX_SELECTOR_SWITCH (Table 2.20): received multiframe M begins at a carrier. -/
def execRxSelectorSwitch (c : Carrier) (s : State) : Host.Outcome State Fault Refusal :=
  .next (if s.hState = 4 && s.rxToSwitch.contains c then s.rxSwitch c else s)

/-- SWITCH_DONE (Table 2.20): all selectors have switched. -/
def execSwitchDone (s : State) : Host.Outcome State Fault Refusal :=
  .next (if s.hState = 4 && s.rxToSwitch.isEmpty then s.switchDone else s)

end Sys2Proof.Machine
end

