-- ==== Sys2Proof/Machine/Power.lean ====
section
/-!
DEFINITION. The commands of power control (chapter 16).
-/
namespace Sys2Proof.Machine

/-! ### Votes and domain states (R323 to R328) -/

/-- The vote bits that a path owns (R323, R394), as a mask. -/
def voteMask : Path → Nat
  | .cxl => 0x04
  | .plough => 0xB2
  | .hedge => 0x4D
  | .wmp p => if p.val = 0 then 0x04 else if p.val = 1 then 0x08 else 0

/-- The votes after a write: the mask's bits from the word, the others kept. -/
def votesMerged (old new mask : Nat) : Nat := (old &&& (0xFF ^^^ mask)) ||| (new &&& mask)

/-- A write of a domain's votes over a path (R323). Plough's is counted as forbidden where it would change a bit that is none of its own (R277; DESIGN
CHOICE, log 90). -/
def State.voteIn (s : State) (p : Path) (d new : Nat) : State :=
  let old := s.get (F.PWR_VOTE.VOTES d)
  let s := if ploughPath p && (old ^^^ new) &&& 0x4D ≠ 0 then s.bump F.CPU_COUNT.ALIAS_DROPPED else s
  s.setVotes d (votesMerged old new (voteMask p))

/-- VOTE_WRITE (R323, Table 16.3). -/
def execVoteWrite (path : Path) (domain : Fin 27) (value : Word) (s : State) : Host.Outcome State Fault Refusal :=
  .next (s.rwWrite path (R.PWR_VOTE domain) fun s => s.voteIn path domain (bitsOf value 7 0))

/-- DROP_TIMER_EXPIRED (R324): the fence of a domain without votes starts. -/
def execDropTimerExpired (domain : Fin 27) (s : State) : Host.Outcome State Fault Refusal :=
  .next (
    if s.power.dropTimers.contains domain.val && s.domOn domain then
      (s.onPower fun w => { w with dropTimers := w.dropTimers.filter (· ≠ domain.val) }).set (F.PWR_DOM_STATUS.STATE domain) 5
    else s)

/-- The sleep state that DROP_STATE names (Table 16.3): DOZE, REST or OFF. -/
def dropTarget : Nat → Nat
  | 0 => 2
  | 1 => 1
  | _ => 0

/-- FENCE_COMPLETE (Table 16.3): the domain sleeps; a vote added meanwhile wakes it at once. -/
def execFenceComplete (domain : Fin 27) (s : State) : Host.Outcome State Fault Refusal :=
  .next (
    if s.domState domain = 5 then
      let s := s.sleepDomain domain (dropTarget (s.get (F.PWR_DOM_CFG.DROP_STATE domain)))
      if s.get (F.PWR_VOTE.VOTES domain) ≠ 0 then s.wakeDomain domain else s
    else s)

/-- What waits for a wake's end goes on: MGR requests, and a shut-down. -/
def State.afterWake (s : State) : State := (if s.domOn 3 then s.mgrDrain else s).shutTry

/-- WAKE_COMPLETE (Table 16.3). -/
def execWakeComplete (domain : Fin 27) (s : State) : Host.Outcome State Fault Refusal := .next (s.wakeDone domain).afterWake

/-- The CAUSE code of a failed step (R327, R338). -/
def causeCode : WakeCause → Nat
  | .avsNoAck => 1
  | .avsNak => 2
  | .oscNotReady => 3
  | .pllNoLock => 4

/-- WAKE_STEP_FAIL (R328). -/
def execWakeStepFail (domain : Fin 27) (cause : WakeCause) (s : State) : Host.Outcome State Fault Refusal :=
  .next (s.wakeStepFail domain (causeCode cause)).shutTry

/-- WAKE_RETRY_GAP_EXPIRED (Table 16.3). -/
def execWakeRetryGapExpired (domain : Fin 27) (s : State) : Host.Outcome State Fault Refusal := .next (s.wakeAgain domain)

/-- The domains whose wake has failed. -/
def State.failedDomains (s : State) : List Nat := (List.range 27).filter (fun d => s.on (F.PWR_DOM_STATUS.FAILED d))

/-- WAKE_RETRY (Tables 16.3 and 16.10). -/
def execWakeRetry (path : Path) (s : State) : Host.Outcome State Fault Refusal :=
  .next (s.rwsWrite path R.PWR_CTRL 1 fun s =>
    if s.failedDomains.isEmpty then s.bump F.PWR_STATUS.IGNORED
    else s.failedDomains.foldl (fun s d => (s.set (F.PWR_DOM_STATUS.FAILED d) 0).wakeDomain d) s)

/-- DOMAIN_RESET (R334, Tables 16.3 and 16.10): ignored on ON-only domains; during a wake acted on when it ends. -/
def execDomainReset (path : Path) (domain : Fin 27) (s : State) : Host.Outcome State Fault Refusal :=
  .next (s.rwsWrite path (R.PWR_DOM_CFG domain) 1 fun s =>
    if onOnly domain then s
    else if s.domState domain = 4 then s.onPower fun w => { w with resets := domain.val :: w.resets.filter (· ≠ domain.val) }
    else s.domainOff domain)

/-! ### Wake sources (R329) -/

/-- WAKE_SOURCE_FIRED (R329). -/
def execWakeSourceFired (source : Fin 8) (s : State) : Host.Outcome State Fault Refusal :=
  .next (s.wakeSource source .nothing)

/-- WAKE_TIMER_WRITE (R329): EN starts or restarts the timer with the period written, of at least 1 ms; else it stops. -/
def execWakeTimerWrite (path : Path) (value : Word) (s : State) : Host.Outcome State Fault Refusal :=
  .next (s.rwWrite path R.PWR_WAKE_TIMER fun s =>
    (s.set F.PWR_WAKE_TIMER.EN (bitsOf value 31 31)).set F.PWR_WAKE_TIMER.MS (max 1 (bitsOf value 23 0)))

/-- WAKE_TIMER_EXPIRED (R329). -/
def execWakeTimerExpired (s : State) : Host.Outcome State Fault Refusal :=
  .next (if s.on F.PWR_WAKE_TIMER.EN then (s.set F.PWR_WAKE_TIMER.EN 0).wakeSource 5 .nothing else s)

/-! ### Performance levels and AVSBus (R330, R331) -/

/-- PL_REQUEST (R330). -/
def execPlRequest (path : Path) (level : Fin 4) (s : State) : Host.Outcome State Fault Refusal :=
  .next (s.rwWrite path R.PWR_PL fun s => s.plRequest level)

/-- AVS_VOLTAGE_DONE (R331). -/
def execAvsVoltageDone (port : Fin 2) (mv : Fin 4096) (s : State) : Host.Outcome State Fault Refusal := .next (s.avsDone port mv)

/-- AVS_ACK_TIMEOUT (R331): AVS_NOACK. -/
def execAvsAckTimeout (port : Fin 2) (s : State) : Host.Outcome State Fault Refusal := .next (s.avsFail port 1).shutTry

/-- AVS_ERROR_ACK (R331): AVS_NAK. -/
def execAvsErrorAck (port : Fin 2) (s : State) : Host.Outcome State Fault Refusal := .next (s.avsFail port 2).shutTry

/-- PL_RETRY (R330). -/
def execPlRetry (s : State) : Host.Outcome State Fault Refusal := .next s.plRetry

/-! ### Shut-down (R336, R337) -/

/-- SHUTDOWN (R336). -/
def execShutdown (path : Path) (s : State) : Host.Outcome State Fault Refusal :=
  .next (s.rwsWrite path R.PWR_CTRL 1 fun s => s.shutRequest false false)

/-- SEED_STORE_WRITES_DONE (Table 16.9). -/
def execSeedStoreWritesDone (s : State) : Host.Outcome State Fault Refusal := .next s.seedWritesDone

end Sys2Proof.Machine
end

