-- ==== Sys2Proof/Machine/ResetOps.lean ====
section
/-!
DEFINITION. Resets and the boot chain (R334, R335, R279, R357, R360, R341, R344, R46).
-/
namespace Sys2Proof.Machine

/-! ### What a reset keeps -/

/-- Whether a register keeps its value over a warm reset: those of the always-on blocks but their headers, the straps, and what the
seed store holds (R334, R291, R46). -/
def keptWarm (a : Nat) : Bool :=
  ((blockOf a = 0x22 || blockOf a = 0x25 || blockOf a = 0x26) && !isHeader a) || a = R.PLAN_BOOT
    || (R.SEC_LOCKOUT 0 ≤ a && a ≤ R.SEC_LOCKOUT 3)

/-- Whether a register keeps its value over a POR: straps and what the seed store holds. -/
def keptCold (a : Nat) : Bool := a = R.PINS_STRAPS || a = R.PLAN_BOOT || (R.SEC_LOCKOUT 0 ≤ a && a ≤ R.SEC_LOCKOUT 3)

/-- The registers with those that are not kept at their reset values. -/
def keepRegs (keep : Nat → Bool) (regs : Store Word) : Store Word := regs.filter (fun p => keep p.1)

/-- What OTP and the seed store keep of the security state (R282, R284, R293, R294, R295). -/
def SecSt.kept (x : SecSt) : SecSt :=
  { keys := x.keys, hashes := x.hashes, lcOtp := x.lcOtp, revoked := x.revoked, fuses := x.fuses, service := x.service,
    roleKeys := x.roleKeys, blankUsed := x.blankUsed, images := x.images, active := x.active, trial := x.trial, tasks := x.tasks,
    recordMac := x.recordMac, recordGood := x.recordGood }

/-- A free number below a bound: how far a write to the seed store had come (log 5). -/
def State.freeBelow (s : State) (n : Nat) : Nat × State :=
  let (w, s) := s.freeWord
  (w.toNat % (n + 1), s)

/-- Fuse entries that a reset cuts short: some first ones are burnt, each whole (R359). -/
def State.fuseCut (s : State) : State :=
  match s.bist.fusing with
  | none => s
  | some (rows, units) =>
    let (n, s) := s.freeBelow (rows.length + units.length)
    s.onBist fun b => { b with rowFuses := b.rowFuses ++ rows.take n, fallowFuses := b.fallowFuses ++ units.take n, fusing := none }

/-- Writes to the seed store that a reset cuts short: the plan slot holds some first part of its image (R45), a calibration record's copy
some first part of the record (R345), and the BIST record's copy no whole record (Table 18.5). -/
def State.seedCut (s : State) : State :=
  let s :=
    if s.bufState = 7 then
      let img := nth s.plan.slots s.plan.storing []
      let (n, s) := s.freeBelow (img.length - 1)
      s.onPlan fun q => { q with slots := q.slots.set q.storing (img.take n) }
    else s
  let s := if s.get F.BIST_STATUS.STATE = 3 then s.onBist BistSt.cut else s
  match s.cal.stores with
  | [] => s
  | q :: _ =>
    if s.calBusy ≠ 2 then s
    else
      let toB := match nth s.cal.used q.slot none with
        | some inB => !inB
        | none => false
      let bytes := calRecord q.slot (s.calNextSeq q.slot) q.source q.quality q.temp q.body
      let (n, s) := s.freeBelow (bytes.length - 1)
      s.calWriteCopy q.slot toB (bytes.take n)

/-- A rollback counter that a loss of power catches while it is burnt: its count lies somewhere between the old and the new (R283). -/
def State.rollbackCut (s : State) : State :=
  match s.sec.burning with
  | none => s
  | some (kind, old, _) =>
    let (n, s) := s.freeBelow (nth s.sec.fuses kind 0 - old)
    s.onSec fun x => { x with fuses := x.fuses.set kind (old + n) }

/-- What every reset keeps: OTP, the seed store, the pins, what has been sent and what waits. -/
def State.base (s : State) : State :=
  { State.reset with
    plan := { slots := s.plan.slots }
    sec := s.sec.kept
    cal := { copyA := s.cal.copyA, copyB := s.cal.copyB, table := s.cal.table, faultCopy := s.cal.faultCopy }
    bist := { copyA := s.bist.copyA, copyB := s.bist.copyB, rowFuses := s.bist.rowFuses, fallowFuses := s.bist.fallowFuses }
    cxl := { released := s.cxl.released, refOk := s.cxl.refOk }
    sent := s.sent
    freeCount := s.freeCount
    pending := s.pending }

/-- `PLAN_BOOT` after a reset: the boot slot only. -/
def State.bootSlotOnly (s : State) : State := s.wr R.PLAN_BOOT (BitVec.ofNat 32 (s.get F.PLAN_BOOT.BOOT_SLOT))

/-- A POR (Table 16.7): a lockout that remains starts again at its full length (R291). -/
def State.coldReset (s : State) : State :=
  let s := s.seedCut.fuseCut.rollbackCut
  let s := ({ s.base with regs := keepRegs keptCold s.regs }).bootSlotOnly
  (List.range 4).foldl (fun s r =>
    if s.on (F.SEC_LOCKOUT.LEFT r) then s.set (F.SEC_LOCKOUT.LEFT r) (lockSeconds (s.get (F.SEC_LOCKOUT.N r))) else s) s

/-- The always-on registers after a warm reset: not shutting, the slowest level, no trip, qualified levels inactive (R334, R380, R384);
the domains as after POR, with the votes of the CXL host and the board manager. -/
def State.aonWarm (s : State) (cause : Nat) : State :=
  let s := ((s.set F.PWR_STATUS.HALTED 0).set F.PWR_STATUS.SHUTTING 0).set F.PWR_STATUS.RESET_CAUSE cause
  let s := (s.wr R.PWR_PL (resetWord R.PWR_PL)).set F.PINS_THERM.TRIPPED 0
  let s := (List.range 15).foldl (fun s q => (s.set (F.PINS_QUAL_STATUS.QUALIFIED q) 0).set (F.PINS_QUAL_STATUS.MASKED q) 0) s
  (List.range 27).foldl (fun s d =>
    let votes := s.get (F.PWR_VOTE.VOTES d) &&& 0x0C
    ((s.wr (R.PWR_DOM_STATUS d) (resetWord (R.PWR_DOM_STATUS d))).set (F.PWR_VOTE.VOTES d) 0).setVotes d votes) s

/-- A wake source still latched sets its vote again (R334). -/
def State.latchedVotes (s : State) : State :=
  s.power.latched.foldl (fun s w => s.vote (s.get (F.PWR_WAKE_MAP.DOMAIN w.source)) (s.get (F.PWR_WAKE_MAP.CLIENT w.source)) true) s

/-- A warm reset (Table 16.7): every domain but PD_AON. A self-test cut short leaves what it had reached (R355, R362). -/
def State.warmReset (s : State) (cause : Nat) (reached : List BistReport) : State :=
  let s := if s.bistRuns then s.bistHold reached false else s
  let s := s.seedCut.fuseCut
  let kept := { s.base with
    regs := keepRegs keptWarm s.regs
    bist := { s.base.bist with aon := s.bist.aon }
    power := { latched := s.power.latched }
    faultTest := s.faultTest
    faultOrder := s.faultOrder }
  ((kept.bootSlotOnly).aonWarm cause).latchedVotes

/-! ### Boot -/

/-- Whether a TABLE record is good (R341). -/
def tableGood (t : List Byte) : Bool :=
  t.length = 64 && leNat (slice t 0 4) = 0x42545354 && leNat (slice t 60 4) = crc32c (t.take 60)

/-- The label and the subsystem ids of the TABLE, or TABLE_BAD. -/
def State.tableRead (s : State) : State :=
  let t := s.cal.table
  if tableGood t then ({ s with label := slice t 16 6 }).onCal fun k => { k with subsys := leNat (slice t 12 4) }
  else (({ s with label := List.replicate 6 0x20 }).onCal fun k => { k with subsys := 0 }).calRaise 6

/-- The installed tasks as `CPU_TASK_t` shows them (R295). -/
def State.tasksShow (s : State) : State :=
  (List.range 8).foldl (fun s t => if (nth s.sec.tasks t []).isEmpty then s else s.set (F.CPU_TASK.LOADED t) 1) s

/-- The boot (Tables 16.8 and 14.2): VDD_CORE for PL3 and VDD_CONV at standby, memories, the quick test and the fallow set, TABLE and calibration records, a random epoch, then
the chain. RETIRED tests nothing and skips steps 3 and 4. -/
def State.boot (s : State) (test : BootTest) : State :=
  let retired := s.sec.lcOtp = 4
  let s := (s.send (.avsWrite 0 (s.levelVolts 3))).send (.avsWrite 1 600)
  let s := (s.set F.TIME_STATUS.PLL_LOCK 1).memInit
  let s := if retired then s else s.quickTest test.quick test.quickMs
  let s := s.fallowSet.tableRead
  let s := (List.range 32).foldl (fun s slot => s.calLoad slot true) s
  let (w, s) := s.freeWord
  let s := s.wr R.CXLCTL_WIN_EPOCH w
  let s := s.hedgeBoot.showTrial.tasksShow
  let s := if s.cxl.released && s.cxl.refOk then s.train else s
  if s.sec.hedge = .running && !retired then s.ploughBoot.bootPlan else s

end Sys2Proof.Machine
end

