-- ==== Sys2Proof/Machine/Reset.lean ====
section
/-!
DEFINITION. The reset commands (R334) and the self-test commands that end in a reset (R362, R363).
-/
namespace Sys2Proof.Machine

/-- POR (R334, R335). -/
def execPor (test : BootTest) (s : State) : Host.Outcome State Fault Refusal := .next (s.coldReset.boot test)

/-- RESET_N (R334). -/
def execResetN (test : BootTest) (s : State) : Host.Outcome State Fault Refusal := .next ((s.warmReset 1 test.reached).boot test)

/-- WARM_RESET (R334). -/
def execWarmReset (path : Path) (test : BootTest) (s : State) : Host.Outcome State Fault Refusal :=
  .next (s.rwsWrite path R.PWR_CTRL 1 fun s => (s.warmReset 2 test.reached).boot test)

/-- RUN starts the shut-down to a BIST (R355); ignored while one or a fuse command runs, or the part shuts down. -/
def State.bistRun (s : State) : State :=
  if s.bistRuns || s.bist.fusing.isSome || s.shut then s.bistIgnored else s.shutRequest false true

/-- BIST_RUN (R363): ignored while self-test or a fuse command runs, or in a shut-down (Table 18.5). -/
def execBistRun (path : Path) (s : State) : Host.Outcome State Fault Refusal :=
  .next (s.bistCommand path true State.bistRun)

/-- BIST_RESULTS_WRITTEN (R362, R363): HALTED follows, or after RUN a warm reset. -/
def execBistResultsWritten (same : Bool) (test : BootTest) (s : State) : Host.Outcome State Fault Refusal :=
  .next (
    if s.get F.BIST_STATUS.STATE ≠ 3 then s
    else
      let run := s.power.shutRun
      let s := s.bistWritten same
      if run then (s.warmReset 2 test.reached).boot test else s.halt)

end Sys2Proof.Machine
end

