-- ==== Sys2Proof/Machine/Security.lean ====
section
/-!
DEFINITION. The commands of firmware and security (chapter 14): WMP messages by class and type, the timers and watchdogs, Plough's
tasks, and the I3C port.
-/
namespace Sys2Proof.Machine

/-! ### Class SESSION (R289 to R294) -/

/-- One byte and three reserved ones. -/
def byteBody (v : Nat) : List Byte := beBytes 1 v ++ [0, 0, 0]

/-- HELLO (R289). -/
def execHello (e : Envelope) (role : Fin 256) (s : State) : Host.Outcome State Fault Refusal :=
  .next (s.wmp e 1 1 (byteBody role) 0 fun s => s.hello e role)

/-- PROVE (R289): `late` is more than 5 s after the challenge. -/
def execProve (e : Envelope) (sid : Nat) (nonce proof : List Byte) (late : Bool) (s : State) : Host.Outcome State Fault Refusal :=
  .next (s.wmp e 1 2 (beBytes 4 sid ++ nonce ++ proof) 0 fun s => s.prove e sid nonce proof late)

/-- A request that needs a session and has none (R289, Table 14.7). -/
def State.noSession (s : State) (e : Envelope) (cls typ : Nat) : State :=
  ((s.bump F.SEC_WMP_COUNT.NO_SESSION).violate 0x06).nak e cls typ 0x10

/-- END (R290): the session ends after its response. -/
def execEndSession (e : Envelope) (s : State) : Host.Outcome State Fault Refusal :=
  .next (s.wmp e 1 3 [] 0 fun s => if e.session = 0 then s.noSession e 1 3 else (s.done e 1 3).sessionEnd e.path)

/-- SET_ROLE_KEY (R293). -/
def execSetRoleKey (e : Envelope) (role : Fin 256) (key : List Byte) (s : State) : Host.Outcome State Fault Refusal :=
  .next (s.wmp e 1 4 (byteBody role ++ key) 0 fun s => if e.session = 0 then s.roleKeyBlank e role key else s.roleKeyIn e role key)

/-- LC_CHANGE (R294). -/
def execLcChange (e : Envelope) (target : Fin 256) (s : State) : Host.Outcome State Fault Refusal :=
  .next (s.wmp e 1 5 (byteBody target) 1 fun s => s.lcChange e target)

/-! ### Class FW (R280 to R285) -/

/-- The image type that a TYPE byte stands for: reserved codes map to the nearest (R10). -/
def imageTypeOf (v : Nat) : ImageType := (imageType? (clampN 1 4 v)).getD .hedge

/-- FW_CHUNK (R286). -/
def execFwChunk (e : Envelope) (type : Fin 256) (offset : Nat) (data : List Byte) (s : State) : Host.Outcome State Fault Refusal :=
  .next (s.wmp e 5 1 (beBytes 1 type ++ beBytes 4 offset ++ data) 1 (fun s => s.fwChunk e (imageTypeOf type) offset data)
    (imageTypeOf type = .hedge))

/-- FW_LOAD_WINDOW (R286). -/
def execFwLoadWindow (e : Envelope) (type : Fin 256) (offset length : Nat) (s : State) : Host.Outcome State Fault Refusal :=
  .next (s.wmp e 5 2 (beBytes 1 type ++ beBytes 4 offset ++ beBytes 4 length) 1 fun s => s.fwLoadWindow e (imageTypeOf type) offset length)

/-- FW_VERIFY (R281). -/
def execFwVerify (e : Envelope) (s : State) : Host.Outcome State Fault Refusal := .next (s.wmp e 5 3 [] 1 fun s => s.fwVerify e)

/-- FW_VERIFY_DONE (R281). -/
def execFwVerifyDone (s : State) : Host.Outcome State Fault Refusal := .next s.fwVerified

/-- FW_ACTIVATE (R297). -/
def execFwActivate (e : Envelope) (s : State) : Host.Outcome State Fault Refusal := .next (s.wmp e 5 4 [] 1 fun s => s.fwActivate e)

/-- FW_COMMIT (R282, R283). -/
def execFwCommit (e : Envelope) (s : State) : Host.Outcome State Fault Refusal := .next (s.wmp e 5 5 [] 1 fun s => s.fwCommit e)

/-- IMAGE_LOADED (R286): the copy from the window completes. -/
def execImageLoaded (data : List Byte) (s : State) : Host.Outcome State Fault Refusal :=
  .next (if s.fwState = 1 && s.sec.expected.isSome then (s.fwLoaded data).windowAnswered else s)

/-- KEY_INSTALL (R284): a plan or task key, slots 6 to 11. -/
def execKeyInstall (e : Envelope) (slot : Fin 256) (key : List Byte) (s : State) : Host.Outcome State Fault Refusal :=
  .next (s.wmp e 5 6 (Config.keyInstallBody slot key) 2 fun s =>
    if slot.val < 6 ∨ 11 < slot.val then s.nak e 5 6 0x02 else (s.keyIn slot key).done e 5 6)

/-- KEY_REVOKE (R285): slots 6 to 11, never a class's last key. -/
def execKeyRevoke (e : Envelope) (slot : Fin 256) (s : State) : Host.Outcome State Fault Refusal :=
  .next (s.wmp e 5 7 (Config.keyRevokeBody slot) 2 fun s =>
    if slot.val < 6 ∨ 11 < slot.val then s.nak e 5 7 0x02
    else if s.lastKey slot then s.nak e 5 7 0x18
    else (s.keyOut slot).done e 5 7)

/-- TASK_INSTALL (R295): INDEX above 7 is 7 (R8). -/
def execTaskInstall (e : Envelope) (index : Fin 256) (s : State) : Host.Outcome State Fault Refusal :=
  .next (s.wmp e 5 8 (beBytes 1 index) 2 fun s => s.taskInstall e (min 7 index))

/-- TASK_REMOVE (R295). -/
def execTaskRemove (e : Envelope) (index : Fin 256) (s : State) : Host.Outcome State Fault Refusal :=
  .next (s.wmp e 5 9 (beBytes 1 index) 2 fun s => s.taskRemove e (min 7 index))

/-! ### Class MGR (R287) -/

/-- The carrier of a CARRIER byte: reserved codes map to B, the nearest (R10). -/
def carrierOf (v : Nat) : Carrier := Carrier.ofIdx (min 1 v)

/-- STEP_REQUEST (R287). -/
def execStepRequest (e : Envelope) (carrier : Fin 256) (targets : List Byte) (s : State) : Host.Outcome State Fault Refusal :=
  .next (s.wmp e 7 1 (beBytes 1 carrier ++ [0] ++ targets) 1 fun s => s.mgrRequest e (.step (carrierOf carrier) targets))

/-- MGR_RENEGOTIATE (R287). -/
def execMgrRenegotiate (e : Envelope) (carrier : Fin 256) (s : State) : Host.Outcome State Fault Refusal :=
  .next (s.wmp e 7 2 (beBytes 1 carrier) 1 fun s => s.mgrRequest e (.renegotiate (carrierOf carrier)))

/-- HL_SEND (R287): a SUB above 15 is 15 (R8). -/
def execHlSend (e : Envelope) (carrier sub : Fin 256) (data : List Byte) (s : State) : Host.Outcome State Fault Refusal :=
  .next (s.wmp e 7 3 (beBytes 1 carrier ++ beBytes 1 sub ++ beBytes 1 data.length ++ data) 1 fun s =>
    s.mgrRequest e (.headland (carrierOf carrier) (min 15 sub) data))

/-- REPLAN_SWITCH (R287). -/
def execReplanSwitch (e : Envelope) (carrier : Fin 256) (s : State) : Host.Outcome State Fault Refusal :=
  .next (s.wmp e 7 4 (beBytes 1 carrier) 1 fun s => s.mgrRequest e (.replan (carrierOf carrier)))

/-! ### Classes and types that are not accepted (R286, R299) -/

/-- Whether a class takes messages on a path (R286). -/
def classTaken (path cls : Nat) : Bool := cls = 1 || cls = 2 || cls = 3 || cls = 5 || cls = 7 || (cls = 4 && 2 ≤ path)

/-- Whether a type belongs to a class of Table 14.6; those of class LINK have commands of their own. -/
def typeKnown (cls typ : Nat) : Bool :=
  match cls with
  | 1 => 1 ≤ typ && typ ≤ 5
  | 2 | 3 => 1 ≤ typ && typ ≤ 2
  | 5 => 1 ≤ typ && typ ≤ 9
  | 7 => 1 ≤ typ && typ ≤ 4
  | 4 => true
  | _ => false

/-- UNKNOWN_CLASS (R299): a class, or a type of a class, that is not accepted. -/
def execUnknownClass (e : Envelope) (cls typ : Fin 256) (s : State) : Host.Outcome State Fault Refusal :=
  .next (
    if s.sec.hedge = .restarting then s
    else if e.version / 16 = 0 ∨ 2 < e.version / 16 then s.versionNak e cls typ
    else if classTaken e.path cls && typeKnown cls typ then s
    else (s.violate 0x02).nak e cls typ (if classTaken e.path cls then 0x01 else 0x0E))

/-! ### Timers of sessions and images -/

/-- SESSION_IDLE_TIMEOUT (R290). -/
def execSessionIdleTimeout (p : Fin 4) (s : State) : Host.Outcome State Fault Refusal := .next (s.sessionEnd p)

/-- LOCKOUT_EXPIRED (R291): the role of code `r` + 1. -/
def execLockoutExpired (r : Fin 4) (s : State) : Host.Outcome State Fault Refusal := .next (s.set (F.SEC_LOCKOUT.LEFT r) 0)

/-- TRIAL_EXPIRED (R282). -/
def execTrialExpired (s : State) : Host.Outcome State Fault Refusal := .next s.fwRevert

/-- READY_TIMEOUT (R282): the image on trial has not signalled READY 5 s after its start. -/
def execReadyTimeout (s : State) : Host.Outcome State Fault Refusal :=
  .next (
    let t := s.get F.SEC_FW_STATUS.TYPE
    if (t = 1 && s.sec.hedge = .restarting) || (t = 2 && s.cpu = 1) then s.fwRevert else s)

/-! ### Plough and Hedge (R295 to R297) -/

/-- PLOUGH_READY (R282, R297). -/
def execPloughReady (core : Fin 4) (s : State) : Host.Outcome State Fault Refusal := .next (s.ploughReady core)

/-- HEARTBEAT (R296): restarts the watchdog of the core, whose expiry is a command of its own (log 3). -/
def execHeartbeat (_core : Fin 4) (s : State) : Host.Outcome State Fault Refusal := .next s

/-- PLOUGH_WATCHDOG (R296). -/
def execPloughWatchdog (core : Fin 4) (s : State) : Host.Outcome State Fault Refusal := .next (s.ploughWatchdog core)

/-- HEDGE_WATCHDOG (R296). -/
def execHedgeWatchdog (s : State) : Host.Outcome State Fault Refusal := .next s.hedgeWatchdog

/-- HEDGE_RESTART_COMPLETE (R297). -/
def execHedgeRestartComplete (s : State) : Host.Outcome State Fault Refusal := .next s.hedgeRestarted

/-- PLOUGH_RESTART (R296): nothing to restart while no image is released, or while one is being activated. -/
def execPloughRestart (path : Path) (s : State) : Host.Outcome State Fault Refusal :=
  .next (s.rwsWrite path R.CPU_CTRL 1 fun s => if s.cpu = 0 || s.cpu = 3 then s else s.ploughRestart)

/-- CPU_PCT of an installed task, clamped (R295, R8). -/
def State.taskShare (s : State) (t : Nat) : Nat := (taskDesc (nth s.sec.tasks t [])).share

/-- TASK_BUDGET_EXCEEDED (R295): a window of 100 ms ends in which the task would have used more than its share. -/
def execTaskBudgetExceeded (t : Fin 8) (cpu : Nat) (s : State) : Host.Outcome State Fault Refusal :=
  .next (
    if s.on (F.CPU_TASK.RUNNING t) then
      let s := s.set (F.CPU_TASK.CPU t) (min (s.taskShare t) cpu)
      if s.taskShare t < cpu then (s.bump (F.CPU_TASK.BUDGET t)).cpuRaise 4 else s
    else s)

/-- Whether an access raises an exception in the sandbox (R295): a block outside READ_MASK, a counter outside CNT_MASK, memory beyond its MEM_KIB, a store
elsewhere; any other cause does. -/
def TaskDesc.forbids (d : TaskDesc) : TaskCause → Bool
  | .read block => !d.reads block
  | .counter bit => !d.counts bit
  | .memory offset => 1024 * d.memKib ≤ offset
  | .store => true
  | .other => true

/-- TASK_EXCEPTION (R295): stopped; disabled at the third fault. -/
def execTaskException (t : Fin 8) (cause : TaskCause) (s : State) : Host.Outcome State Fault Refusal :=
  .next (
    if s.on (F.CPU_TASK.RUNNING t) && (taskDesc (nth s.sec.tasks t [])).forbids cause then
      let s := (s.set (F.CPU_TASK.RUNNING t) 0).bump (F.CPU_TASK.FAULTS t)
      (if 3 ≤ s.get (F.CPU_TASK.FAULTS t) then s.set (F.CPU_TASK.DISABLED t) 1 else s).cpuRaise 3
    else s)

/-- CPU_SWINT_SET (R301): of Plough only; each new cause raises its vector. -/
def execCpuSwintSet (path : Path) (bits : Fin 16384) (s : State) : Host.Outcome State Fault Refusal :=
  .next (s.rwWrite path R.CPU_SWINT_SET fun s =>
    match path with
    | .plough =>
      let t := s.set F.CPU_SWINT.BITS (s.get F.CPU_SWINT.BITS ||| bits.val)
      (List.range 14).foldl (fun u k => if !s.cause (0x32 + k) && t.cause (0x32 + k) then u.msix (0x32 + k) else u) t
    | _ => s)

/-! ### I3C (R298, R299) -/

/-- The static address, by the strap balls. -/
def State.i3cStatic (s : State) : Nat := 0x58 + s.get F.PINS_STRAPS.I3C_ADDR

/-- The provisional ID: the vendor's MIPI manufacturer ID in [47:33], 0x3280 in [31:16], the straps in [15:0]. -/
def State.i3cId (s : State) : Nat := Config.mipiId % 2 ^ 15 * 2 ^ 33 + 0x3280 * 2 ^ 16 + (s.rd R.PINS_STRAPS).toNat % 2 ^ 16

/-- BCR: IBI-capable, with a mandatory byte; DCR. -/
def i3cBcr : Byte := 0x06
def i3cDcr : Byte := 0x00

/-- Whether the target answers an address: its dynamic one, or else its static one. -/
def State.i3cAnswers (s : State) (addr : Nat) : Bool := addr = s.i3cAddress.getD s.i3cStatic

/-- A private write of one WMP message: NACKed while Hedge restarts or a command runs; cut short or too long, it is discarded. -/
def State.i3cMessage (s : State) (bytes : List Byte) (whole : Bool) : State :=
  if s.sec.hedge = .restarting then s
  else if (nth s.sec.requests 1 none).isSome then s.violate 0x09
  else if !whole || 4096 < bytes.length then s.violate 0x0A
  else s.deliver? 1 bytes

/-- I3C_PRIVATE_WRITE (R298, Table 14.12); the transfers of the port that are no private write, for which the table has no row, come with it (log 90). -/
def execI3cPrivateWrite (transfer : I3cWrite) (s : State) : Host.Outcome State Fault Refusal :=
  .next (
    match transfer with
    | .message addr bytes whole => if s.i3cAnswers addr then s.i3cMessage bytes whole else s
    | .disec => s.onSec fun x => { x with hotJoin := false }
    | .enec => s.onSec fun x => { x with hotJoin := true }
    | .unsupported => s.violate 0x0B
    | .hdr => s.violate 0x0B)

/-- I3C_PRIVATE_READ (R298): the pending response, else the oldest notification, else a NACK. -/
def execI3cPrivateRead (addr : Fin 128) (s : State) : Host.Outcome State Fault Refusal :=
  .next (
    if !s.i3cAnswers addr then s
    else if s.sec.hedge = .restarting then s.send (.i3cRead none)
    else match s.sec.i3cResp, s.i3cNotes with
      | some r, _ => (s.onSec fun x => { x with i3cResp := none }).send (.i3cRead (some r))
      | none, n :: rest => ({ s with i3cNotes := rest }).send (.i3cRead (some n))
      | none, [] => s.send (.i3cRead none))

/-- The target takes a dynamic address; what waits is announced (R298, R395). -/
def State.i3cTake (s : State) (addr : Nat) : State :=
  let s := { s with i3cAddress := some addr }
  let s := if s.sec.i3cResp.isSome then s.send (.ibi 0x02) else s
  if s.i3cNotes.isEmpty then s else s.send (.ibi 0x01)

/-- I3C_ADDRESS_ASSIGN (R298): ENTDAA finds a target without a dynamic address, which answers with its identity; SETDASA one at its static address;
SETNEWDA one at the dynamic address named. -/
def execI3cAddressAssign (how : I3cAssign) (addr : Fin 128) (s : State) : Host.Outcome State Fault Refusal :=
  .next (
    match how with
    | .entdaa => if s.i3cAddress.isSome then s else (s.send (.i3cIdentity s.i3cId i3cBcr i3cDcr)).i3cTake addr
    | .setdasa static => if s.i3cAddress.isNone && static.val = s.i3cStatic then s.i3cTake addr else s
    | .setnewda old => if s.i3cAddress = some old.val then s.i3cTake addr else s)

/-- HOT_JOIN_TIMER (R298): without a dynamic address, unless DISEC has disabled hot-join. -/
def execHotJoinTimer (s : State) : Host.Outcome State Fault Refusal :=
  .next (if s.i3cAddress.isNone && s.sec.hotJoin then s.send .hotJoin else s)

/-- I3C_DYNAMIC_ADDRESS_LOST (R290): the session of path 1 ends. -/
def execI3cDynamicAddressLost (s : State) : Host.Outcome State Fault Refusal := .next (State.sessionEnd { s with i3cAddress := none } 1)

end Sys2Proof.Machine
end

