-- ==== Sys2Proof/Machine/RegOps.lean ====
section
/-!
DEFINITION. What a 32-bit register write does, block by block: its fields are stored by access type (R3, R8 to R10), and the bits that
stand for commands run them. Rights and down registers come first (`State.regWrite`, in RegAccess).
-/
namespace Sys2Proof.Machine

/-! ### Storing a word -/

/-- The least role of an RWS register (R292): MAKER for CAL_CMD and the flip mask, else OPERATOR. -/
def leastRole (a : Nat) : Nat :=
  if a = R.CAL_CMD || a = R.MEM_FLIP_CTRL || a = R.MEM_FLIP_DATA_LO || a = R.MEM_FLIP_DATA_HI then 2 else 1

/-- Stores a written word by the access types of its fields, keeping some bit ranges as they are; an RWS field without the right is
discarded and counted (R3, R292). A host write takes over a register under calibration movement (R348). -/
def State.store (s : State) (p : Path) (a : Nat) (v : Word) (keep : List (Nat × Nat) := []) : State :=
  match rowAt a with
  | none => s
  | some r =>
    let ok := s.rwsAllowed p (leastRole a)
    let old := s.rd a
    let new := keep.foldl (fun x (hi, lo) => withBits x hi lo (bitsOf old hi lo)) (r.written ok old v)
    let s := if r.has .rws && !ok then s.rwsDropped p else s
    (s.wr a new).calTakeover a

/-- Runs a command that an RWS register's write starts, with the right of its role (R292). -/
def State.guarded (s : State) (p : Path) (least : Nat) (k : State → State) : State :=
  if s.rwsAllowed p least then k s else s.rwsDropped p

/-- Runs `k` where a written bit is 1. -/
def State.whenBit (s : State) (v : Word) (b : Nat) (k : State → State) : State := if bitsOf v b b = 1 then k s else s

/-- The state a meaning answers; the state itself where it answers none. -/
def State.took (s : State) (o : Host.Outcome State Fault Refusal) : State :=
  match o with
  | .next t => t
  | _ => s

/-- The carrier whose second copy of a block's window lies `stride` bytes above the first. -/
def carrierAt (base stride a : Nat) : Carrier := Carrier.ofIdx ((a - base) / stride % 2)

/-! ### PLAN -/

/-- A write of `PLAN_COMMAND`: SLOT, where 4 to 15 map to 3, takes its value with every CMD; CMD 0 starts nothing and 8 to 15 map to
7, and it reads back the last command accepted (R44, R3). -/
def State.wPlan (s : State) (p : Path) (a : Nat) (v : Word) : State :=
  if a = R.PLAN_COMMAND then
    s.guarded p 1 fun s =>
      let slot : Fin 4 := ⟨min 3 (bitsOf v 7 4), by omega⟩
      let s := s.set F.PLAN_COMMAND.SLOT slot
      match bitsOf v 3 0 with
      | 0 => s
      | 1 => s.took (execLoadWindow (.reg .hedge) s)
      | 2 => s.took (execLoadSlot (.reg .hedge) slot s)
      | 3 => s.took (execValidate (.reg .hedge) s)
      | 4 => s.took (execApplyCold (.reg .hedge) s)
      | 5 => s.took (execPrepareHitless (.reg .hedge) s)
      | 6 => s.took (execCancel (.reg .hedge) s)
      | _ => s.took (execStoreSlot (.reg .hedge) slot s)
  else s.store p a v

/-! ### FURROW -/

/-- A write of a carrier's own FURROW registers, at an offset of its window. -/
def State.wFurrowCarrier (s : State) (p : Path) (c : Carrier) (off a : Nat) (v : Word) : State :=
  match off with
  | 0x0000 =>
    let s := s.store p a v
    s.whenBit v 0 fun s => s.took (execRestart p c s)
  | 0x0014 =>
    (s.setS (F.FURROW_RX_CD_SET.VALUE c) (clampI (-s.cdRange c) (s.cdRange c) (toSigned 32 v.toNat))).onRx c fun r =>
      { r with cd := { r.cd with moving := true } }
  | 0x0020 =>
    let s := s.store p a v
    s.whenBit v 0 fun s => s.requestSwap c false
  | 0x0024 => s.shadowWrite c none v
  | 0xC00C =>
    let s := s.store p a v
    s.whenBit v 0 fun s => s.respLoad c
  | 0xC010 =>
    if ploughPath p && !s.stepArmed c then
      let s := s.store p a v
      let s := s.whenBit v 1 fun s => s.took (execStepCancel p c s)
      s.whenBit v 0 fun s => s.stepArm c (bitsOf v 31 8)
    else s.bump (F.FURROW_TX_STEP_STATUS.DROPPED c)
  | _ => s.store p a v

/-- What a write of the FURROW block stores and starts. -/
def State.wFurrowWord (s : State) (p : Path) (a : Nat) (v : Word) : State :=
  let c := carrierAt 0x240000 0x20000 a
  let off := (a - 0x240000) % 0x20000
  if a < 0x240000 then s.store p a v
  else if s.absentSub a then s
  else if 0x1000 ≤ off ∧ off < 0x2000 ∧ off % 0x100 = 4 then
    if bitsOf v 1 1 = 1 then s.tapCommand c ((off - 0x1000) / 0x100) true
    else s.whenBit v 0 fun s => s.tapCommand c ((off - 0x1000) / 0x100) false
  else if 0x4000 ≤ off ∧ off < 0x8000 then s.shadowWrite c (some ((off - 0x4000) / 4)) v
  else if 0x8000 ≤ off ∧ off < 0xC000 then s
  else if 0xD000 ≤ off ∧ off < 0xD400 ∧ off % 0x40 = 0 then s.writeTarget p c ((off - 0xD000) / 0x40) (bitsOf v 23 16)
  else if 0xE000 ≤ off ∧ off < 0xE110 then s.respShadowWrite c ((off - 0xE000) / 4) v
  else if 0x10000 ≤ off ∧ off < 0x18000 then
    let w := (off - 0x10000) % 0x800 / 4
    if w < tapWords then
      s.onRx c fun r =>
        { r with tapShadow := r.tapShadow.modify ((off - 0x10000) / 0x800) fun m => Store.write (fun _ => 0) m w v }
    else s
  else s.wFurrowCarrier p c off a v

/-- A write of the FURROW block: it may leave a carrier's gradual controls at their targets (R94). -/
def State.wFurrow (s : State) (p : Path) (a : Nat) (v : Word) : State :=
  let t := s.wFurrowWord p a v
  if a < 0x240000 then t else t.settleNote s (carrierAt 0x240000 0x20000 a)

/-! ### LINE, FEC, LINK -/

/-- A write of a LINE block: a change of MUTE starts a ramp (R86). -/
def State.wLine (s : State) (p : Path) (c : Carrier) (a : Nat) (v : Word) : State :=
  if a = R.LINE_TX_CTRL c then
    let was := s.on (F.LINE_TX_CTRL.MUTE c)
    let s := s.store p a v
    match was, s.on (F.LINE_TX_CTRL.MUTE c) with
    | false, true => s.rampDown c
    | true, false => s.rampUp c
    | _, _ => s
  else s.store p a v

/-- A write of the FEC block. -/
def State.wFec (s : State) (p : Path) (a : Nat) (v : Word) : State :=
  let c := carrierAt 0x600000 0x40000 a
  if a = R.FEC_CTRL c then
    let s := s.store p a v
    s.whenBit v 0 fun s => s.took (execFecSnapshot p c (bitsOf v 2 2 = 1) s)
  else s.store p a v

/-- Whether an address is a link manager register of a carrier or a neighbour entry, whose RO fields Plough writes (R142). -/
def linkManagerReg (a : Nat) : Bool := 0x8000 ≤ (a - 0x700000) % 0x40000 && (rowAt a).isSome

/-- Every field of a word as Plough writes it: the RO fields as plain ones. -/
def Row.ploughWritten (r : Row) (old new : Word) : Word :=
  r.fields.foldl (fun acc f => writeField false old new acc { f with acc := if f.acc == .ro then .rw else f.acc }) old

/-- A write of the LINK block. -/
def State.wLink (s : State) (p : Path) (a : Nat) (v : Word) : State :=
  let c := carrierAt 0x700000 0x40000 a
  let store (s : State) : State :=
    if ploughPath p && linkManagerReg a then
      match rowAt a with
      | some r => s.wr a (r.ploughWritten (s.rd a) v)
      | none => s
    else s.store p a v
  if a = R.LINK_ALIGN_CFG c then (store s).whenBit v 31 fun s => s.alignLost c
  else if a = R.LINK_NUMBERING c then (store s).whenBit v 0 fun s => s.adopt c
  else if a = R.LINK_RX_STEP c then
    if ploughPath p && !s.on (F.LINK_RX_STEP.ARMED c) then
      let s := s.set (F.LINK_RX_STEP.MF c) (bitsOf v 31 8)
      s.whenBit v 0 fun s => s.took (execRxStepArm p c (bitsOf v 31 8) s)
    else s.bump (F.FURROW_TX_STEP_STATUS.DROPPED c)
  else if a = R.LINK_MGR_CTRL c then
    let s := (store s).whenBit v 0 fun s => s.took (execRenegotiate p c s)
    s.whenBit v 1 fun s => s.took (execTakeE p c s)
  else store s

/-! ### HOSTLANE -/

/-- Stores an enable register of a lane's or port's events: bits that become enabled while set raise the block's bit (R160, R182). -/
def State.enableWrite (s : State) (p : Path) (a event blk bit : Nat) (v : Word) : State :=
  let was := s.rd event &&& s.rd a
  let s := s.store p a v
  if (s.rd event &&& s.rd a &&& ~~~ was) = 0 then s else s.raise blk bit

/-- A write of a lane's window at an offset. -/
def State.wLane (s : State) (p : Path) (n off a : Nat) (v : Word) (m : Ambient) : State :=
  match off with
  | 0x00 =>
    let s := (s.store p a v [(8, 8)])
    let near := bitsOf v 8 8 = 1
    if s.on (F.HOSTLANE_CTRL.LOOP_NEAR n) = near then s.whenBit v 31 fun s => s.retrain n
    else s.loopNear n near
  | 0x0C => s.enableWrite p a (R.HOSTLANE_EVENT n) 0x10 n v
  | 0x10 => (s.ffeWrite n false v).calTakeover a
  | 0x14 => (s.ffeWrite n true v).calTakeover a
  | 0x18 =>
    let s := s.store p a v [(8, 8), (0, 0)]
    let pre := bitsOf v 0 0 = 1
    let s := if s.on (F.HOSTLANE_TX_CFG.PRECODE_TX n) = pre then s else s.precodeWrite n false pre
    s.txIdle n (bitsOf v 8 8 = 1)
  | 0x1C =>
    let s := s.store p a v [(0, 0)]
    let pre := bitsOf v 0 0 = 1
    let s := if s.on (F.HOSTLANE_RX_CFG.PRECODE_RX n) = pre then s else s.precodeWrite n true pre
    s.eqSettings n
  | 0x30 =>
    let was := s.get (F.HOSTLANE_GEN_CFG.PATTERN n)
    let ran := s.on (F.HOSTLANE_GEN_CFG.GEN_EN n)
    let s := s.store p a v
    let pat := s.get (F.HOSTLANE_GEN_CFG.PATTERN n)
    if !s.on (F.HOSTLANE_GEN_CFG.GEN_EN n) then s
    else if !ran then s.onLane n fun l => { l with gen := .start n pat }
    else if pat != was then (s.onLane n fun l => { l with gen := { l.gen with next := some pat } }).send (.generatorRestart n pat)
    else s
  | 0x34 =>
    let was := s.get (F.HOSTLANE_CHK_CFG.PATTERN n)
    let s := s.store p a v
    let s := if s.get (F.HOSTLANE_CHK_CFG.PATTERN n) = was && s.on (F.HOSTLANE_CHK_CFG.CHK_EN n) then s
      else s.set (F.HOSTLANE_CHK_CFG.LOCK n) 0
    s.whenBit v 17 fun s => s.chkSnap n (bitsOf v 18 18 = 1)
  | 0x38 =>
    let s := s.store p a v
    match bitsOf v 2 0 with
    | 0 => s
    | 1 => s.injCommand p n fun s => s.injSingle n
    | 2 => s.injCommand p n fun s => s.injBurst n
    | 3 => s.injCommand p n fun s => s.injRate n
    | _ => s.injStop n m.sent
  | _ => s.store p a v

/-- A write of the HOSTLANE block. -/
def State.wHostLane (s : State) (p : Path) (a : Nat) (v : Word) (m : Ambient) : State :=
  if 0x801000 ≤ a ∧ a < 0x802000 then s.wLane p ((a - 0x801000) / 0x100) ((a - 0x801000) % 0x100) a v m else s.store p a v

/-! ### CLIENT -/

/-- A write of a port's window at an offset; a port without a CLIENT_PORT record ignores it (R182). -/
def State.wPort (s : State) (p : Path) (n off a : Nat) (v : Word) : State :=
  if !s.portUsed n then s
  else match off with
    | 0x04 =>
      let s := (s.store p a v [(9, 8), (1, 0)]).forceSel n (bitsOf v 9 8)
      let s := s.portLoopWrite n (bitsOf v 1 0)
      s.whenBit v 31 fun s => s.clientSnap n (bitsOf v 30 30 = 1)
    | 0x14 => s.enableWrite p a (R.CLIENT_EVENT n) 0x12 n v
    | _ => s.store p a v

/-- A write of the CLIENT block. -/
def State.wClient (s : State) (p : Path) (a : Nat) (v : Word) : State :=
  if 0x901000 ≤ a ∧ a < 0x902000 then s.wPort p ((a - 0x901000) / 0x100) ((a - 0x901000) % 0x100) a v else s.store p a v

/-! ### TIME -/

/-- A write of a pulse output's or capture input's window at an offset; WIDTH stays below PERIOD (R199). -/
def State.wTimeIo (s : State) (p : Path) (a : Nat) (v : Word) : State :=
  let off := a % 0x40
  if a < 0xA03000 then
    let n := (a - 0xA02000) / 0x40
    if off = 0 then
      let s := s.pulseShow n (·.store p a v)
      let s := s.whenBit v 1 fun s => s.tpStop n
      s.whenBit v 0 fun s => s.tpArm n
    else if 0x10 ≤ off ∧ off < 0x1C then s.stage p a v
    else if off = 0x1C then
      let s := s.store p (R.TP_START_0 n) (s.staged p (R.TP_START_0 n))
      let s := s.store p (R.TP_START_1 n) (s.staged p (R.TP_START_1 n))
      (s.store p (R.TP_START_2 n) (s.staged p (R.TP_START_2 n))).store p a v
    else
      let s := s.store p a v
      s.set (F.TP_WIDTH.NS n) (clampN 1 (s.get (F.TP_PERIOD.NS n) - 1) (s.get (F.TP_WIDTH.NS n)))
  else
    let s := s.store p a v
    if a = R.TC_CTRL 0 && s.get F.TIME_STATUS.REF = 2 then s.set (F.TC_CTRL.EN 0) 1 else s

/-- A write of the TIME block. -/
def State.wTime (s : State) (p : Path) (a : Nat) (v : Word) : State :=
  if a = R.TIME_CTRL then
    let was := s.on F.TIME_CTRL.SERVO_EN
    let s := s.store p a v
    let s := if was && !s.on F.TIME_CTRL.SERVO_EN then s.servoStop else s
    s.whenBit v 1 fun s => s.set F.TIME_STATUS.VALID 0
  else if a = R.TIME_SET_0 || a = R.TIME_SET_1 || a = R.TIME_SET_2 || a = R.TIME_ADJ_LO then s.stage p a v
  else if a = R.TIME_SET_3 then s.took (execTimeSetCommit p v s)
  else if a = R.TIME_ADJ_HI then s.took (execTimeAdjCommit p v s)
  else if a = R.TIME_FREQ || a = R.TIME_ADJ_CTRL then (s.store p a v).timeShow
  else if a = intStatus 0x14 then
    let s := s.store p a v
    (List.range 2).foldl (fun s k => if (s.capture k).queue.isEmpty then s else s.setB ⟨intStatus 0x14, 12 + k, 12 + k⟩ true) s
  else if 0xA02000 ≤ a ∧ a < 0xA04000 then s.wTimeIo p a v
  else s.store p a v

/-! ### HEADLAND -/

/-- A write of the transmit registers: Plough's alone, and while BUSY only ABORT (R208). -/
def State.wHeadTx (s : State) (p : Path) (a : Nat) (v : Word) : State :=
  s.headlandWrite p fun s =>
    if a = R.HEADLAND_TX_CTRL then
      if s.on F.HEADLAND_TX_CTRL.BUSY then
        if bitsOf v 1 1 = 1 then s.headlandAbort else s.headlandDropped
      else
        let s := s.store p a v
        s.whenBit v 0 fun s => s.go
    else if s.on F.HEADLAND_TX_CTRL.BUSY then s.headlandDropped
    else s.store p a v

/-- A write of `HEADLAND_IN_CFG`: a change of an input or of LOOP resets the chains (R213), AUTO_SHIFT = 0 restores the written
shifts (R215). -/
def State.wHeadIn (s : State) (p : Path) (a : Nat) (v : Word) : State :=
  let inputs (s : State) : Nat × Nat × Nat := (s.get F.HEADLAND_IN_CFG.IN_A_EN, s.get F.HEADLAND_IN_CFG.IN_B_EN, s.get F.HEADLAND_IN_CFG.LOOP)
  let was := inputs s
  let s := s.store p a v
  let s := if inputs s = was then s else s.chainReset
  let s := if s.on F.HEADLAND_IN_CFG.AUTO_SHIFT then s else (List.range 8).foldl State.applyShifts s
  s.whenBit v 31 fun s => s.chainsSync

/-- A write of the HEADLAND block. -/
def State.wHeadland (s : State) (p : Path) (a : Nat) (v : Word) : State :=
  if a = R.HEADLAND_TX_CTRL || (R.HEADLAND_TX_DATA 0 ≤ a && a < R.HEADLAND_TX_DATA 15) then s.wHeadTx p a v
  else if a = R.HEADLAND_RXQ_CTRL then s.whenBit v 0 fun s => s.took (execPop p s)
  else if a = R.HEADLAND_IN_CFG then s.wHeadIn p a v
  else if a = R.HEADLAND_RX_CFG then
    let s := s.store p a v
    ((List.range 8).foldl (fun s k => if s.listens k then s else s.abandon k) s).showSettled
  else if 0xB01000 ≤ a ∧ a < 0xB01200 ∧ a % 0x40 = 0 then
    let k := (a - 0xB01000) / 0x40
    let s := s.store p a v
    if s.on F.HEADLAND_IN_CFG.AUTO_SHIFT then s.lowerShifts k else s.applyShifts k
  else s.store p a v

/-! ### HKADC, PDAC, LOOP -/

/-- A write of the HKADC block. -/
def State.wHkadc (s : State) (p : Path) (a : Nat) (v : Word) : State :=
  let b (hi lo : Nat) : Nat := bitsOf v hi lo
  if a = R.HKADC_SEQ_CTRL then
    let s := s.store p a v
    let s := if bitsOf v 31 31 = 1 && s.get F.HKADC_SEQ_CTRL.MODE = 3 then s.onAdc fun x => { x with starts := x.starts + 1 } else s
    (if s.ana.adc.pass.isNone then s.takePower else s).convertNext
  else if R.HKADC_ENTRY 0 ≤ a ∧ a < R.HKADC_ENTRY 16 then
    let e := (a - R.HKADC_ENTRY 0) / 4
    let s := (s.store p a v).onAdc fun x => { x with dirty := e :: x.dirty.filter (· ≠ e) }
    if s.ana.adc.pass.isNone then s.clearDirty else s
  else if a = R.HKADC_INJ_CTRL then
    if b 31 31 = 1 then s.injGo (b 4 0) (b 11 8) (b 7 6) else s.store p a v
  else if a = R.HKADC_CAL_CTRL then
    let s := s.store p a v
    match b 31 28 with
    | 0 => s
    | 1 => s.calZero (b 4 0) (b 17 16)
    | 2 => s.calFull
    | _ => s.calCancel
  else if a = R.HKADC_TESTDAC then
    let s := (s.store p a v).testDacWrite v
    s.whenBit v 31 fun s => s.diagStart (b 20 16)
  else if R.HKADC_CAL_OFS 0 ≤ a ∧ a < R.HKADC_CAL_OFS 128 ∧ a % 8 = 4 then
    let j := (a - R.HKADC_CAL_OFS 0) / 8
    (s.commitPair j (s.rd (R.HKADC_CAL_OFS j)) (v &&& 0xFFFFFF)).calTakeover a
  else s.store p a v

/-- A write of the PDAC block. -/
def State.wPdac (s : State) (p : Path) (a : Nat) (v : Word) : State :=
  let k := (a - R.PDAC_CH_CFG 0) / 0x20
  if a = R.PDAC_OT_STATUS then s.whenBit v 0 fun s => s.clearLatched
  else if R.PDAC_CH_CFG 0 ≤ a ∧ a < R.PDAC_CH_CFG 20 then
    if a = R.PDAC_CH_CFG k then
      let s := s.store p a v [(9, 8)]
      if s.get (F.PDAC_CH_CFG.SPAN k) = min 2 (bitsOf v 9 8) then s else s.spanWrite k (bitsOf v 9 8)
    else if a = R.PDAC_CH_QUEUE k then s.dacPush k (bitsOf v 15 0)
    else s.store p a v
  else s.store p a v

/-- A write of the LOOP block. -/
def State.wLoop (s : State) (p : Path) (a : Nat) (v : Word) : State :=
  if R.LOOP_CTRL 0 ≤ a ∧ a < R.LOOP_CTRL 16 then s.loopWritePath p ((a - R.LOOP_CTRL 0) / 0x100) ((a - R.LOOP_CTRL 0) % 0x100) v
  else if R.LOOP_TRACE_CTRL 0 ≤ a ∧ a < R.LOOP_TRACE_CTRL 4 ∧ a % 16 = 0 then
    (s.store p a v [(9, 9)]).traceRun ((a - R.LOOP_TRACE_CTRL 0) / 16) (bitsOf v 9 9 = 1)
  else s.store p a v

/-! ### MEM, CXLCTL -/

/-- A write of the MEM block: the flip mask needs a MAKER session (R261). -/
def State.wMem (s : State) (p : Path) (a : Nat) (v : Word) : State :=
  if a = R.MEM_FLIP_CTRL then
    s.guarded p 2 fun s =>
      let s := s.store p a v
      s.whenBit v 31 fun s => s.set F.MEM_FLIP_CTRL.ARMED 1
  else s.store p a v

/-- A write of the CXLCTL block: the window's registers are the host's alone, and fixed while a window exists (R267, R273). -/
def State.wCxl (s : State) (p : Path) (a : Nat) (v : Word) (m : Ambient) : State :=
  if a = R.CXLCTL_LINK_CTRL then
    if bitsOf v 31 31 = 1 then s.took (execCxlRetrain p v m.width m.speed s) else s.store p a v
  else if a = R.CXLCTL_WIN_BASE || a = R.CXLCTL_WIN_SIZE then
    if !isCxl p then s.bump F.CXLCTL_WIN_COUNT.DROPPED
    else if s.winState ≠ 0 then s.cxlViolate 0x04
    else s.store p a v
  else if a = R.CXLCTL_WIN_CMD then
    match bitsOf v 1 0 with
    | 1 => s.took (execGrant p s)
    | 2 => s.took (execRevoke p s)
    | _ => s.winCommand p id
  else s.store p a v

/-! ### CPU, GLEAN -/

/-- A write of `CPU_SWINT`: bits still set send their messages again when the host writes (R26). -/
def State.swintClear (s : State) (p : Path) (a : Nat) (v : Word) : State :=
  let s := s.store p a v
  if isCxl p then (List.range 14).foldl (fun s k => if s.cause (0x32 + k) then s.msix (0x32 + k) else s) s else s

/-- A write of the CPU block. -/
def State.wCpu (s : State) (p : Path) (a : Nat) (v : Word) : State :=
  if a = R.CPU_CTRL then s.guarded p 1 fun s => s.whenBit v 0 fun s => s.took (execPloughRestart p s)
  else if a = R.CPU_SWINT_SET then s.took (execCpuSwintSet p ⟨bitsOf v 13 0, by simp only [bitsOf]; omega⟩ s)
  else if a = R.CPU_SWINT then s.swintClear p a v
  else s.store p a v

/-- A write of a unit's window at an offset: DEPTH, PRE and POST, and TAP and TAP2, limit one another (R309, R303). -/
def State.wUnit (s : State) (p : Path) (u off a : Nat) (v : Word) : State :=
  let s := s.store p a v
  if off = 4 then s.tapClamp u
  else if 0x0C ≤ off ∧ off ≤ 0x14 then s.depthClamp u
  else s

/-- A write of a precise sampler's window: EN from 0 to 1 starts an empty buffer. -/
def State.wSampler (s : State) (p : Path) (c a : Nat) (v : Word) : State :=
  let was := s.on (F.GLEAN_PS_CTRL.EN c)
  let s := s.store p a v
  if a = R.GLEAN_PS_CTRL c && !was && s.on (F.GLEAN_PS_CTRL.EN c) then
    ((s.set (F.GLEAN_PS_STATUS.INDEX c) 0).set (F.GLEAN_PS_LEVEL.LEVEL c) 0).psBegin c 0
  else s

/-- A write of the GLEAN block: FORCE meets STOP in the same write, and STOP wins (Table 15.5). -/
def State.wGlean (s : State) (p : Path) (a : Nat) (v : Word) (m : Ambient) : State :=
  if a = R.GLEAN_ARM_CTRL then
    (s.recordAll m.feeds).armCtrl (unitsOf (bitsOf v 3 0)) (unitsOf (bitsOf v 11 8)) (unitsOf (bitsOf v 19 16))
  else if a = R.GLEAN_STAT_CTRL then s.whenBit v 0 fun s => s.statSnap (bitsOf v 1 1 = 1) m.now
  else if R.GLEAN_STAT_LO 0 ≤ a ∧ a < R.GLEAN_STAT_LO 32 then
    if a % 8 = 0 then s.stage p a v
    else s.statLoad ((a - R.GLEAN_STAT_LO 0) / 8) ((s.staged p (a - 4)).toNat + bitsOf v 15 0 * 2 ^ 32) m.now
  else if 0x1001000 ≤ a ∧ a < 0x1002000 then s.wUnit p ((a - 0x1001000) / 0x400) ((a - 0x1001000) % 0x400) a v
  else if R.GLEAN_PS_CTRL 0 ≤ a ∧ a < R.GLEAN_PS_CTRL 4 then s.wSampler p ((a - R.GLEAN_PS_CTRL 0) / 0x20) a v
  else s.store p a v

/-! ### PWR, CAL, BIST, FAULT, PINS -/

/-- A write of the PWR block. The command bits of `PWR_CTRL` act in ascending order. -/
def State.wPwr (s : State) (p : Path) (a : Nat) (v : Word) (m : Ambient) : State :=
  if a = R.PWR_CTRL then
    s.guarded p 1 fun s =>
      let s := s.store p a v
      let s := s.whenBit v 0 fun s => s.took (execWakeRetry p s)
      let s := s.whenBit v 30 fun s => s.took (execWarmReset p m.test s)
      s.whenBit v 31 fun s => s.shutRequest false false
  else if a = R.PWR_PL then s.plRequest (bitsOf v 1 0)
  else if a = R.PWR_WAKE_TIMER then s.took (execWakeTimerWrite p v s)
  else if h : R.PWR_VOTE 0 ≤ a ∧ a < R.PWR_VOTE 27 then
    let d := (a - R.PWR_VOTE 0) / 0x10
    if a % 0x10 = 0 then s.voteIn p d (bitsOf v 7 0)
    else if a % 0x10 = 4 then
      s.guarded p 1 fun s =>
        if onOnly d then s
        else
          let s := s.store p a v
          s.whenBit v 31 fun s =>
            s.took (execDomainReset p ⟨(a - R.PWR_VOTE 0) / 0x10, by have h1 := h.1; have h2 := h.2; simp only [R.PWR_VOTE] at h1 h2 ⊢; omega⟩ s)
    else s.store p a v
  else s.store p a v

/-- A write of the CAL block: CAL_CMD 3 to 15 is RELOAD. -/
def State.wCal (s : State) (p : Path) (a : Nat) (v : Word) (m : Ambient) : State :=
  if a = R.CAL_CMD then
    let slot : Fin 32 := ⟨bitsOf v 20 16, by simp only [bitsOf]; omega⟩
    match bitsOf v 31 28 with
    | 0 => s.store p a v
    | 1 => s.took (execCalRun p slot s)
    | 2 => s.took (execCalStore p slot m.temp m.quality s)
    | _ => s.took (execCalReload p slot s)
  else s.store p a v

/-- A write of the BIST block: BIST_CTRL by Table 14.10, UNIT with every CMD; codes above 4 are CLEAR_FALLOW. -/
def State.wBist (s : State) (p : Path) (a : Nat) (v : Word) : State :=
  if a = R.BIST_CTRL then
    let unit : Fin 1024 := ⟨bitsOf v 9 0, by simp only [bitsOf]; omega⟩
    let unitIn (s : State) : State := s.set F.BIST_CTRL.UNIT (min 915 unit.val)
    match bitsOf v 31 28 with
    | 0 => s.bistCommand p true unitIn
    | 1 => s.bistCommand p true fun s => (unitIn s).bistRun
    | 2 => s.bistCommand p false fun s => (unitIn s).hardRepair
    | 3 => s.took (execHardFallow p unit s)
    | _ => s.took (execClearFallow p unit s)
  else s.store p a v

/-- A write of the FAULT block. -/
def State.wFault (s : State) (p : Path) (a : Nat) (v : Word) : State :=
  if a = R.FAULT_CTRL then
    let s := s.whenBit v 0 fun s => s.faultAck
    s.whenBit v 1 fun s => s.took (execFaultTest p s)
  else s.store p a v

/-- The balls that the part drives take their level (R389). -/
def State.gpioDriven (s : State) : State :=
  (List.range 8).foldl (fun s n =>
    if s.on ⟨R.PINS_GPIO_CTRL, 8 + n, 8 + n⟩ then s.rawLevel (7 + n) (s.on ⟨R.PINS_GPIO_CTRL, n, n⟩) else s) s

/-- A write of the PINS block: EVENT forces a GPIO's OE to 0 (R389). -/
def State.wPins (s : State) (p : Path) (a : Nat) (v : Word) : State :=
  let s := s.store p a v
  if a = R.PINS_GPIO_CTRL then
    (s.set F.PINS_GPIO_CTRL.OE (s.get F.PINS_GPIO_CTRL.OE &&& (0xFF ^^^ s.get F.PINS_GPIO_CTRL.EVENT))).gpioDriven
  else s

/-! ### BAR2 (R271, R272) -/

/-- Whether an address lies in the command buffer, or in the response buffer or the notification ring. -/
def inCommand (a : Nat) : Bool := R.MBX_COMMAND 0 ≤ a && a < R.MBX_COMMAND 1024
def inReadOnly (a : Nat) : Bool := R.MBX_COMMAND 1024 ≤ a && a < R.MBX_COMMAND 1024 + 0x2000

/-- Bytes of the command buffer are replaced, of any number and alignment; while BUSY they are discarded (R271, R273). -/
def State.commandBytes (s : State) (a : Nat) (bytes : List Byte) : State :=
  if s.on F.MBX_STATUS.BUSY then s.cxlViolate 0x02
  else
    (bytes.zipIdx.filter (fun b => inCommand (a + b.2))).foldl
      (fun s b => s.set ⟨(a + b.2) / 4 * 4, 8 * ((a + b.2) % 4) + 7, 8 * ((a + b.2) % 4)⟩ b.1.toNat) s

/-- A host write of a BAR2 word, at 0x400_0000 + its offset. -/
def State.wBar2 (s : State) (p : Path) (a : Nat) (v : Word) : State :=
  if a = R.MBX_DOORBELL then s.whenBit v 31 fun s => s.mbxGo (bitsOf v 12 0)
  else if a = R.MBX_NOTIFY_HEAD then s.headWrite (bitsOf v 3 0)
  else if inCommand a then s.commandBytes a (leBytes 4 v.toNat)
  else (s.store p a v).msixRelease

end Sys2Proof.Machine
end

