-- ==== Sys2Proof/Machine/RegAccess.lean ====
section
/-!
DEFINITION. Register accesses over a path: whole words, narrow and down accesses (R3 to R5, R332), wide values (R11 to R13), interrupt
registers (R7, R26), and WMP REG messages (R286, R394).
-/
namespace Sys2Proof.Machine

/-! ### Writing -/

/-- Runs the write of a register by its block. -/
def State.blockWrite (s : State) (p : Path) (a : Nat) (v : Word) (m : Ambient) : State :=
  match blockOf a with
  | 0x02 => s.wPlan p a v
  | 0x04 => s.wFurrow p a v
  | 0x08 => s.wLine p .A a v
  | 0x0A => s.wLine p .B a v
  | 0x0C => s.wFec p a v
  | 0x0E => s.wLink p a v
  | 0x10 => s.wHostLane p a v m
  | 0x12 => s.wClient p a v
  | 0x14 => s.wTime p a v
  | 0x16 => s.wHeadland p a v
  | 0x18 => s.wHkadc p a v
  | 0x19 => s.wPdac p a v
  | 0x1A => s.wLoop p a v
  | 0x1C => s.wMem p a v
  | 0x1D => s.wCxl p a v m
  | 0x1F => s.wCpu p a v
  | 0x20 => s.wGlean p a v m
  | 0x22 => s.wPwr p a v m
  | 0x23 => s.wCal p a v m
  | 0x24 => s.wBist p a v
  | 0x25 => s.wFault p a v
  | 0x26 => s.wPins p a v
  | _ => s.store p a v

/-- The W1C bits of a block's INT_STATUS among those of a word: those that an event sets. -/
def eventBits (a : Nat) (v : Word) : Word :=
  match rowAt (intStatus (blockOf a)) with
  | some r => (r.fields.filter (fun f => f.acc = .w1c)).foldl (fun acc f => withBits acc f.hi f.lo (bitsOf v f.hi f.lo)) 0
  | none => 0

/-- INT_SET: the bits written 1 are set as by the real event (R7). A bit of INT_STATUS that no event sets, since it follows a level
(LOOP_INT_STATUS 15:0, R253), ignores it (DESIGN CHOICE, log 81). -/
def State.intSet (s : State) (a : Nat) (v : Word) : State := s.raiseMask (blockOf a) (eventBits a v)

/-- INT_STATUS or INT_ENABLE is written: the message goes again while the enabled status is not zero (R26). -/
def State.intWrite (s : State) (p : Path) (a : Nat) (v : Word) (m : Ambient) : State :=
  let s := s.blockWrite p a v m
  if s.cause (blockOf a) then s.msix (blockOf a) else s

/-- A write that is accepted: the SEC block is closed to Plough (R277). -/
def State.regAccepted (s : State) (p : Path) (a : Nat) (v : Word) (m : Ambient) : State :=
  if ploughPath p && blockOf a = 0x1E then
    let s := s.bump F.CPU_COUNT.ALIAS_DROPPED
    if (rowAt a).any (fun r => r.has .rws) then s.bump F.SEC_RWS_DROPPED.COUNT else s
  else if isHeader a then
    match a % 16 with
    | 4 => s.intWrite p a v m
    | 8 => s.intWrite p a v m
    | 12 => s.intSet a v
    | _ => s
  else s.blockWrite p a v m

/-- Counts a discarded narrow write of one word (R5, R25), and its access to a down register (R332). -/
def State.narrowWord (s : State) (p : Path) (a : Nat) : State :=
  let s := if s.isDown a then s.downAccess p a true else s
  let was := s.get F.GLOBAL_ACCESS_ERR.NARROW_WRITES
  let s := (s.bump F.GLOBAL_ACCESS_ERR.NARROW_WRITES).raiseEvent 0x00 0 0x0001
  if was = 0xFFFE then s.raise 0x00 1 else s

/-- The words that an access of `n` bytes touches (R5). -/
def wordsTouched (a n : Nat) : List Nat := if a / 4 = (a + n - 1) / 4 then [a / 4 * 4] else [a / 4 * 4, a / 4 * 4 + 4]

/-- The end of BAR0 (R24). -/
def bar0End : Nat := 0x4000000

/-- A BAR2 write of some bytes that is no whole word: those in the command buffer replace its bytes; those to a register, the MSI-X table or the
pending bit array are discarded and counted once for each word; the rest is read-only (R271). -/
def State.narrowBar2 (s : State) (p : Path) (a : Nat) (bytes : List Byte) : State :=
  let ours (w : Nat) : Bool := (List.range bytes.length).any (fun i => (a + i) / 4 * 4 = w)
  let s := if (List.range bytes.length).any (fun i => inCommand (a + i)) then s.commandBytes a bytes else s
  ((wordsTouched a bytes.length).filter (fun w => ours w && !inCommand w && !inReadOnly w && (rowAt w).isSome)).foldl (fun s w => s.narrowWord p w) s

/-- A 32-bit write over a path. BAR2 lies above BAR0 and is the host's alone; an unaligned write is a narrow one to each of its
words (R5); unassigned offsets ignore writes (R4). -/
def State.regWrite (s : State) (p : Path) (a : Nat) (v : Word) (m : Ambient) : State :=
  if bar0End ≤ a then
    match p with
    | .cxl => if a % 4 = 0 then s.wBar2 p a v else s.narrowBar2 p a (leBytes 4 v.toNat)
    | _ => s
  else if s.unheard p true then s.unanswered p
  else if a % 4 ≠ 0 then (wordsTouched a 4).foldl (fun s w => s.narrowWord p w) s
  else if (rowAt a).isNone then s
  else s.rwWrite p a fun s => s.regAccepted p a v m

/-- A request of 8 bytes or more over CXL is carried out as 32-bit accesses in ascending address order (R264). -/
def State.writeWords (s : State) (p : Path) (a : Nat) (words : List Word) (m : Ambient) : State :=
  words.zipIdx.foldl (fun (s : State) w => s.regWrite p (a + 4 * w.2) w.1 m) s

/-- A narrow write over a path: discarded and counted in BAR0 (R5); BAR2 follows its own rules (R271). -/
def State.narrowWrite (s : State) (p : Path) (a n : Nat) (v : Word) : State :=
  if bar0End ≤ a then
    match p with
    | .cxl => s.narrowBar2 p a (leBytes n v.toNat)
    | _ => s
  else if s.unheard p true then s.unanswered p
  else (wordsTouched a n).foldl (fun s w => s.narrowWord p w) s

/-! ### Reading -/

/-- Whether a unit of `BIST_UNIT_RESULT` is fused: its fallow fuse or a row fuse of its array is burnt (R359). -/
def State.unitFused (s : State) (u : Nat) : Bool :=
  s.bist.fallowFuses.contains u || (isMemory u && s.bist.rowFuses.any (fun f => f.1 = u - 134))

/-- What a read of a word returns, before its side effects. -/
def State.shown (s : State) (a : Nat) : Word :=
  if a = R.BIST_UNIT_RESULT then
    let u := s.get F.BIST_UNIT_SEL.UNIT
    withBits (s.unitWord u) 28 28 (if s.unitFused u then 1 else 0)
  else if 0x901000 ≤ a ∧ a < 0x902000 ∧ !s.portUsed ((a - 0x901000) / 0x100) then 0
  else s.view a

/-- The side effects of a read (R3, R11): RC fields clear, the low word of a wide value latches its upper words; an upper word
reads the path's shadow. -/
def State.readWord (s : State) (p : Path) (a : Nat) : State :=
  match rowAt a with
  | none => { s with readData := 0 }
  | some r =>
    match wideOf a with
    | some (lo, n) =>
      if a = lo then
        let t := (List.range (n - 1)).foldl (fun (t : State) i => t.latch p (lo + 4 * (i + 1)) (s.shown (lo + 4 * (i + 1)))) s
        { t with readData := s.shown a }
      else { s with readData := s.shadow p a }
    | none => { (s.wr a (r.afterRead (s.rd a))) with readData := s.shown a }

/-- A read of an aligned word over a path. -/
def State.regRead (s : State) (p : Path) (a : Nat) (upset : MemWord) : State :=
  if bar0End ≤ a then
    match p with
    | .cxl => { s with readData := s.shown a }
    | _ => { s with readData := 0 }
  else if s.isDown a then s.downRead p a
  else if a = R.TC_CAP_0 0 then s.captureRead p 0
  else if a = R.TC_CAP_0 1 then s.captureRead p 1
  else if 0x10010E8 ≤ a ∧ a < 0x1002000 ∧ (a - 0x10010E8) % 0x400 = 0 then s.readEntry p ((a - 0x10010E8) / 0x400) upset
  else if R.HKADC_RESULT 0 ≤ a ∧ a < R.HKADC_RESULT 16 then
    s.took (execHkadcResultRead p ⟨(a - R.HKADC_RESULT 0) / 4 % 17, Nat.mod_lt _ (by omega)⟩ s)
  else if a = R.HKADC_INJ_RESULT then s.took (execHkadcResultRead p 16 s)
  else s.readWord p a

/-- The words that a request of `n` bytes touches, ascending (R5, R264). -/
def wordsSpanned (a n : Nat) : List Nat := (List.range ((a % 4 + n + 3) / 4)).map (a / 4 * 4 + 4 * ·)

/-- A read of `n` bytes: the addressed bytes, with the side effects of a full read of each word touched, in ascending order (R5, R264). -/
def State.readBytes (s : State) (p : Path) (a n : Nat) (upset : MemWord) : State :=
  if s.unheard p false then s
  else
    let (bs, s) := (wordsSpanned a n).foldl (fun (acc : List Byte × State) w =>
      let t := acc.2.regRead p w upset
      (acc.1 ++ leBytes 4 t.readData.toNat, t)) ([], s)
    let got := slice bs (a % 4) n
    { s with readData := BitVec.ofNat 32 (leNat (got.take 4)), burst := if 8 ≤ n then got else s.burst }

/-! ### WMP REG (R286, R394) -/

/-- Whether a REG message's words lie in BAR0, aligned. -/
def regSpan (addr count : Nat) : Bool := addr % 4 = 0 && addr + 4 * count ≤ bar0End

/-- A REG READ: words in ascending order over the path of the message, answered most significant byte first. -/
def State.regMessageRead (s : State) (e : Envelope) (addr count : Nat) (upset : MemWord) : State :=
  let n := clampN 1 64 count
  if regSpan addr n then
    let (body, s) := (List.range n).foldl (fun (acc : List Byte × State) i =>
      let t := acc.2.regRead (.wmp e.path) (addr + 4 * i) upset
      (acc.1 ++ beBytes 4 t.readData.toNat, t)) ([], s)
    s.reply e 2 1 none body
  else s.nak e 2 1 0x02

/-- A REG WRITE: words in ascending order, with the rights of the path and the session that the message carries (R292, R394). -/
def State.regMessageWrite (s : State) (e : Envelope) (addr : Nat) (words : List Word) (m : Ambient) : State :=
  if regSpan addr words.length then
    let s := s.onSec fun x => { x with bare := e.session = 0 }
    let s := words.zipIdx.foldl (fun (s : State) w => s.regWrite (.wmp e.path) (addr + 4 * w.2) w.1 m) s
    (s.onSec fun x => { x with bare := false }).done e 2 2
  else s.nak e 2 2 0x02

/-! ### Meanings -/

/-- REGISTER_WRITE (R3, R264). -/
def execRegisterWrite (path : Path) (addr : Nat) (value : Word) (amb : Ambient) (s : State) : Host.Outcome State Fault Refusal :=
  .next ((s.regWrite path addr value amb).writeWords path (addr + 4) amb.more amb)

/-- NARROW_WRITE (R5). -/
def execNarrowWrite (path : Path) (addr : Nat) (n : Fin 3) (value : Word) (s : State) : Host.Outcome State Fault Refusal :=
  .next (s.narrowWrite path addr (n + 1) value)

/-- RC_READ (R3, R5, R264). -/
def execRcRead (path : Path) (addr : Nat) (n : Fin 4096) (upset : MemWord) (s : State) : Host.Outcome State Fault Refusal :=
  .next (s.readBytes path addr (n + 1) upset)

/-- WIDE_LOW_READ (R11, R5, R264). -/
def execWideLowRead (path : Path) (addr : Nat) (n : Fin 4096) (upset : MemWord) (s : State) : Host.Outcome State Fault Refusal :=
  .next (s.readBytes path addr (n + 1) upset)

/-- WIDE_LOWER_WRITE (R13): held in the path's staging copy. -/
def execWideLowerWrite (path : Path) (addr : Nat) (value : Word) (amb : Ambient) (s : State) : Host.Outcome State Fault Refusal :=
  .next ((s.regWrite path addr value amb).writeWords path (addr + 4) amb.more amb)

/-- WIDE_UPPER_WRITE (R13): the most significant word commits the staged ones. -/
def execWideUpperWrite (path : Path) (addr : Nat) (value : Word) (amb : Ambient) (s : State) : Host.Outcome State Fault Refusal :=
  .next (s.regWrite path addr value amb)

/-- INT_SET_WRITE (R7). -/
def execIntSetWrite (path : Path) (addr : Nat) (value : Word) (amb : Ambient) (s : State) : Host.Outcome State Fault Refusal :=
  .next (s.regWrite path addr value amb)

/-- INT_STATUS_WRITE (R26). -/
def execIntStatusWrite (path : Path) (addr : Nat) (value : Word) (amb : Ambient) (s : State) : Host.Outcome State Fault Refusal :=
  .next (s.regWrite path addr value amb)

/-- DOWN_REGISTER_ACCESS (R332, R5): a read returns the addressed bytes of 0xFFFF_FFFF, a write is discarded; a register that is not
down is read, and keeps its value. -/
def execDownRegisterAccess (path : Path) (addr : Nat) (write : Bool) (n : Fin 4) (s : State) : Host.Outcome State Fault Refusal :=
  .next (
    if !write then s.readBytes path addr (n + 1) 0
    else if n = 3 && addr % 4 = 0 && s.unheard path true then s.unanswered path
    else if n = 3 && addr % 4 = 0 then (if addr < bar0End && s.isDown addr then s.downAccess path addr true else s)
    else s.narrowWrite path addr (n + 1) 0)

/-- REG_READ (R286). -/
def execRegRead (e : Envelope) (addr : Word) (count : Fin 256) (upset : MemWord) (s : State) : Host.Outcome State Fault Refusal :=
  .next (s.wmp e 2 1 (beBytes 4 addr.toNat ++ beBytes 1 count) 0 fun s => s.regMessageRead e addr.toNat count upset)

/-- REG_WRITE (R286, R292, R394): over I3C and the management channels it needs OPERATOR. -/
def execRegWrite (e : Envelope) (addr : Word) (words : List Word) (amb : Ambient) (s : State) : Host.Outcome State Fault Refusal :=
  .next (s.wmp e 2 2 (beBytes 4 addr.toNat ++ words.flatMap (fun w => beBytes 4 w.toNat)) (if e.path.val = 0 then 0 else 1)
    fun s => s.regMessageWrite e addr.toNat words amb)

end Sys2Proof.Machine
end

