-- ==== Sys2Proof/Machine/Dispatch.lean ====
section
/-!
DEFINITION. The meaning of each command: one arm per constructor of `Instr`.
-/
namespace Sys2Proof.Machine

/-- The effect of a command on everything but the queue. -/
def exec (i : Instr) (s : State) : Host.Outcome State Fault Refusal :=
  match i with
  | .registerWrite path addr value amb => Sys2Proof.Machine.execRegisterWrite path addr value amb s
  | .narrowWrite path addr n value => Sys2Proof.Machine.execNarrowWrite path addr n value s
  | .rcRead path addr n bad => Sys2Proof.Machine.execRcRead path addr n bad s
  | .wideLowRead path addr n bad => Sys2Proof.Machine.execWideLowRead path addr n bad s
  | .wideLowerWrite path addr value amb => Sys2Proof.Machine.execWideLowerWrite path addr value amb s
  | .wideUpperWrite path addr value amb => Sys2Proof.Machine.execWideUpperWrite path addr value amb s
  | .intSetWrite path addr value amb => Sys2Proof.Machine.execIntSetWrite path addr value amb s
  | .intStatusWrite path addr value amb => Sys2Proof.Machine.execIntStatusWrite path addr value amb s
  | .downRegisterAccess path addr write n => Sys2Proof.Machine.execDownRegisterAccess path addr write n s
  | .loadWindow sender => Sys2Proof.Machine.execLoadWindow sender s
  | .loadSlot sender slot => Sys2Proof.Machine.execLoadSlot sender slot s
  | .planChunk e offset data => Sys2Proof.Machine.execPlanChunk e offset data s
  | .validate sender => Sys2Proof.Machine.execValidate sender s
  | .applyCold sender => Sys2Proof.Machine.execApplyCold sender s
  | .prepareHitless sender => Sys2Proof.Machine.execPrepareHitless sender s
  | .cancel sender => Sys2Proof.Machine.execCancel sender s
  | .storeSlot sender slot => Sys2Proof.Machine.execStoreSlot sender slot s
  | .loadDone data => Sys2Proof.Machine.execLoadDone data s
  | .loadSourceError => Sys2Proof.Machine.execLoadSourceError s
  | .validationComplete => Sys2Proof.Machine.execValidationComplete s
  | .coldApplyStage ms => Sys2Proof.Machine.execColdApplyStage ms s
  | .coldApplyComplete => Sys2Proof.Machine.execColdApplyComplete s
  | .storeSlotDone same => Sys2Proof.Machine.execStoreSlotDone same s
  | .buildReady => Sys2Proof.Machine.execBuildReady s
  | .buildTimeout => Sys2Proof.Machine.execBuildTimeout s
  | .buildFault furrow => Sys2Proof.Machine.execBuildFault furrow s
  | .switchAbortDeadline => Sys2Proof.Machine.execSwitchAbortDeadline s
  | .switchStart mf => Sys2Proof.Machine.execSwitchStart mf s
  | .rxSelectorSwitch c => Sys2Proof.Machine.execRxSelectorSwitch c s
  | .switchDone => Sys2Proof.Machine.execSwitchDone s
  | .rxFramePeriod c rms clips singular adapt => Sys2Proof.Machine.execRxFramePeriod c rms clips singular adapt s
  | .losAssert c => Sys2Proof.Machine.execLosAssert c s
  | .losClear c => Sys2Proof.Machine.execLosClear c s
  | .rxQueueOvf c => Sys2Proof.Machine.execRxQueueOvf c s
  | .swap path c pair => Sys2Proof.Machine.execSwap path c pair s
  | .nlcExchange c => Sys2Proof.Machine.execNlcExchange c s
  | .nlcEvalEnd c => Sys2Proof.Machine.execNlcEvalEnd c s
  | .nlcShadowWrite path c word value => Sys2Proof.Machine.execNlcShadowWrite path c word value s
  | .tapSnapshot path c sub => Sys2Proof.Machine.execTapSnapshot path c sub s
  | .tapLoad path c sub => Sys2Proof.Machine.execTapLoad path c sub s
  | .tapDone c sub => Sys2Proof.Machine.execTapDone c sub s
  | .restart path c => Sys2Proof.Machine.execRestart path c s
  | .agcSettled c => Sys2Proof.Machine.execAgcSettled c s
  | .cdSearchComplete c coarse fine => Sys2Proof.Machine.execCdSearchComplete c coarse fine s
  | .clockLocked c => Sys2Proof.Machine.execClockLocked c s
  | .freqStable c => Sys2Proof.Machine.execFreqStable c s
  | .cmaConverged c => Sys2Proof.Machine.execCmaConverged c s
  | .pilotsFound c position => Sys2Proof.Machine.execPilotsFound c position s
  | .snrStable c acqUs => Sys2Proof.Machine.execSnrStable c acqUs s
  | .acqLimit c => Sys2Proof.Machine.execAcqLimit c s
  | .pilotLockLost c sub => Sys2Proof.Machine.execPilotLockLost c sub s
  | .clockLockLost c => Sys2Proof.Machine.execClockLockLost c s
  | .cycleSlip c turn persists => Sys2Proof.Machine.execCycleSlip c turn persists s
  | .estIntervalEnd c est => Sys2Proof.Machine.execEstIntervalEnd c est s
  | .groupConverged group => Sys2Proof.Machine.execGroupConverged group s
  | .mute path c => Sys2Proof.Machine.execMute path c s
  | .unmute path c => Sys2Proof.Machine.execUnmute path c s
  | .txRampEnd c => Sys2Proof.Machine.execTxRampEnd c s
  | .txQueueUnf c => Sys2Proof.Machine.execTxQueueUnf c s
  | .respLoad path c => Sys2Proof.Machine.execRespLoad path c s
  | .respLoaded c => Sys2Proof.Machine.execRespLoaded c s
  | .gradualControlStep c control => Sys2Proof.Machine.execGradualControlStep c control s
  | .txFramePeriod c clips => Sys2Proof.Machine.execTxFramePeriod c clips s
  | .entropyTargetWrite path c sub target => Sys2Proof.Machine.execEntropyTargetWrite path c sub target s
  | .stepArm path c mf => Sys2Proof.Machine.execStepArm path c mf s
  | .stepCancel path c => Sys2Proof.Machine.execStepCancel path c s
  | .entropyStep c => Sys2Proof.Machine.execEntropyStep c s
  | .lineFrameSend c => Sys2Proof.Machine.execLineFrameSend c s
  | .txMultiframeStart c => Sys2Proof.Machine.execTxMultiframeStart c s
  | .adopt path c => Sys2Proof.Machine.execAdopt path c s
  | .fawMatch c position signs => Sys2Proof.Machine.execFawMatch c position signs s
  | .fawMiss c signs => Sys2Proof.Machine.execFawMiss c signs s
  | .resync path c => Sys2Proof.Machine.execResync path c s
  | .overheadReceived c bytes => Sys2Proof.Machine.execOverheadReceived c bytes s
  | .mccCellReceived c cell => Sys2Proof.Machine.execMccCellReceived c cell s
  | .rxStepArm path c mf => Sys2Proof.Machine.execRxStepArm path c mf s
  | .rxStepDeadline c => Sys2Proof.Machine.execRxStepDeadline c s
  | .rxStepSwitch c => Sys2Proof.Machine.execRxStepSwitch c s
  | .fecBlockDecoded c corrected later reached => Sys2Proof.Machine.execFecBlockDecoded c corrected later reached s
  | .engineResidueFail c engine => Sys2Proof.Machine.execEngineResidueFail c engine s
  | .fecSnapshot path c clear => Sys2Proof.Machine.execFecSnapshot path c clear s
  | .fecSnapshotCopy c now => Sys2Proof.Machine.execFecSnapshotCopy c now s
  | .rxMultiframeEnd c labelBits words => Sys2Proof.Machine.execRxMultiframeEnd c labelBits words s
  | .locked c => Sys2Proof.Machine.execLocked c s
  | .capsReceived c tag body => Sys2Proof.Machine.execCapsReceived c tag body s
  | .capsAckReceived c tag body rtt => Sys2Proof.Machine.execCapsAckReceived c tag body rtt s
  | .requestRetry c request => Sys2Proof.Machine.execRequestRetry c request s
  | .alignComplete c => Sys2Proof.Machine.execAlignComplete c s
  | .alignTimeout c => Sys2Proof.Machine.execAlignTimeout c s
  | .lossHoldExpired c => Sys2Proof.Machine.execLossHoldExpired c s
  | .backoffExpired c => Sys2Proof.Machine.execBackoffExpired c s
  | .incompatibleRetry c => Sys2Proof.Machine.execIncompatibleRetry c s
  | .renegotiate path c => Sys2Proof.Machine.execRenegotiate path c s
  | .takeE path c => Sys2Proof.Machine.execTakeE path c s
  | .takeEApply c => Sys2Proof.Machine.execTakeEApply c s
  | .beaconTimer c => Sys2Proof.Machine.execBeaconTimer c s
  | .beaconReceived c bytes rssi => Sys2Proof.Machine.execBeaconReceived c bytes rssi s
  | .queryReceived c bytes recent => Sys2Proof.Machine.execQueryReceived c bytes recent s
  | .linkDownReceived c bytes => Sys2Proof.Machine.execLinkDownReceived c bytes s
  | .neighbourExpired entry => Sys2Proof.Machine.execNeighbourExpired entry s
  | .proposeReceived c tag body => Sys2Proof.Machine.execProposeReceived c tag body s
  | .acceptReceived c tag body rtt => Sys2Proof.Machine.execAcceptReceived c tag body rtt s
  | .commitLeftQueue c step => Sys2Proof.Machine.execCommitLeftQueue c step s
  | .commitReceived c tag body => Sys2Proof.Machine.execCommitReceived c tag body s
  | .withdrawReceived c tag body => Sys2Proof.Machine.execWithdrawReceived c tag body s
  | .nakReceived c tag code rtt => Sys2Proof.Machine.execNakReceived c tag code rtt s
  | .proposalDeadline c step => Sys2Proof.Machine.execProposalDeadline c step s
  | .acceptedDeadline c step => Sys2Proof.Machine.execAcceptedDeadline c step s
  | .signalDetect lane amplitude => Sys2Proof.Machine.execSignalDetect lane amplitude s
  | .partnerFrameMarkers lane => Sys2Proof.Machine.execPartnerFrameMarkers lane s
  | .cdrConverged lane offset eq => Sys2Proof.Machine.execCdrConverged lane offset eq s
  | .detectLimitExpired lane offset eq => Sys2Proof.Machine.execDetectLimitExpired lane offset eq s
  | .trainingDone lane ms granted requested eq => Sys2Proof.Machine.execTrainingDone lane ms granted requested eq s
  | .trainLimitExpired lane => Sys2Proof.Machine.execTrainLimitExpired lane s
  | .signalLost lane amplitude => Sys2Proof.Machine.execSignalLost lane amplitude s
  | .idleLimitExpired lane => Sys2Proof.Machine.execIdleLimitExpired lane s
  | .wakeBurst lane heldUi => Sys2Proof.Machine.execWakeBurst lane heldUi s
  | .overlongBurst lane => Sys2Proof.Machine.execOverlongBurst lane s
  | .retrain path lane => Sys2Proof.Machine.execRetrain path lane s
  | .failedWaitExpired lane => Sys2Proof.Machine.execFailedWaitExpired lane s
  | .holdoffExpired lane => Sys2Proof.Machine.execHoldoffExpired lane s
  | .txIdleSet path lane => Sys2Proof.Machine.execTxIdleSet path lane s
  | .txIdleClear path lane => Sys2Proof.Machine.execTxIdleClear path lane s
  | .quadUnlock quad => Sys2Proof.Machine.execQuadUnlock quad s
  | .quadRelock quad => Sys2Proof.Machine.execQuadRelock quad s
  | .partnerCoeffRequest lane req => Sys2Proof.Machine.execPartnerCoeffRequest lane req s
  | .txFfeWrite path lane post value => Sys2Proof.Machine.execTxFfeWrite path lane post value s
  | .precodeWrite path lane receive value => Sys2Proof.Machine.execPrecodeWrite path lane receive value s
  | .checkerLock lane counted rx => Sys2Proof.Machine.execCheckerLock lane counted rx s
  | .chkLockLost lane rx => Sys2Proof.Machine.execChkLockLost lane rx s
  | .chkSnapshot path lane clear => Sys2Proof.Machine.execChkSnapshot path lane clear s
  | .chkSnapshotCopy lane rx now => Sys2Proof.Machine.execChkSnapshotCopy lane rx now s
  | .injSingle path lane => Sys2Proof.Machine.execInjSingle path lane s
  | .injBurst path lane => Sys2Proof.Machine.execInjBurst path lane s
  | .injBurstEnd lane => Sys2Proof.Machine.execInjBurstEnd lane s
  | .injRateStart path lane => Sys2Proof.Machine.execInjRateStart path lane s
  | .injRateInterval lane symbols => Sys2Proof.Machine.execInjRateInterval lane symbols s
  | .injStop path lane sent => Sys2Proof.Machine.execInjStop path lane sent s
  | .eyePublish lane eye eq => Sys2Proof.Machine.execEyePublish lane eye eq s
  | .loopNearWrite path lane value => Sys2Proof.Machine.execLoopNearWrite path lane value s
  | .pcsAligned port skew => Sys2Proof.Machine.execPcsAligned port skew s
  | .clientAlignTimeout port cause => Sys2Proof.Machine.execClientAlignTimeout port cause s
  | .hiSer port => Sys2Proof.Machine.execHiSer port s
  | .markerLockLost port => Sys2Proof.Machine.execMarkerLockLost port s
  | .clientFrameIngress port frame due => Sys2Proof.Machine.execClientFrameIngress port frame due s
  | .orderedSetIngress port set due => Sys2Proof.Machine.execOrderedSetIngress port set due s
  | .orderedSetRepeat port due => Sys2Proof.Machine.execOrderedSetRepeat port due s
  | .lpiReceived port => Sys2Proof.Machine.execLpiReceived port s
  | .recordReceived port c record errored drained => Sys2Proof.Machine.execRecordReceived port c record errored drained s
  | .orderedSetTimeout port => Sys2Proof.Machine.execOrderedSetTimeout port s
  | .segmentComplete port delayNs drained => Sys2Proof.Machine.execSegmentComplete port delayNs drained s
  | .wtrExpired port => Sys2Proof.Machine.execWtrExpired port s
  | .forceSelWrite path port value => Sys2Proof.Machine.execForceSelWrite path port value s
  | .loopWrite path port value => Sys2Proof.Machine.execLoopWrite path port value s
  | .clientSnapshot path port clear => Sys2Proof.Machine.execClientSnapshot path port clear s
  | .clientSnapshotCopy port now => Sys2Proof.Machine.execClientSnapshotCopy port now s
  | .timeSetCommit path value => Sys2Proof.Machine.execTimeSetCommit path value s
  | .invalidate path => Sys2Proof.Machine.execInvalidate path s
  | .timeAdjCommit path value => Sys2Proof.Machine.execTimeAdjCommit path value s
  | .slewComplete => Sys2Proof.Machine.execSlewComplete s
  | .refLost => Sys2Proof.Machine.execRefLost s
  | .refRestored => Sys2Proof.Machine.execRefRestored s
  | .servoMeasurement edge => Sys2Proof.Machine.execServoMeasurement edge s
  | .ttMeasurement => Sys2Proof.Machine.execTtMeasurement s
  | .ttSetTimeout => Sys2Proof.Machine.execTtSetTimeout s
  | .tpArm path n => Sys2Proof.Machine.execTpArm path n s
  | .tpStop path n => Sys2Proof.Machine.execTpStop path n s
  | .tpEdge n => Sys2Proof.Machine.execTpEdge n s
  | .captureEdge m falling => Sys2Proof.Machine.execCaptureEdge m falling s
  | .captureRead path m => Sys2Proof.Machine.execCaptureRead path m s
  | .go path => Sys2Proof.Machine.execGo path s
  | .abort path => Sys2Proof.Machine.execAbort path s
  | .txPacketEnd => Sys2Proof.Machine.execTxPacketEnd s
  | .sync path => Sys2Proof.Machine.execSync path s
  | .syncN => Sys2Proof.Machine.execSyncN s
  | .adcbSamplesReturn => Sys2Proof.Machine.execAdcbSamplesReturn s
  | .chainSettled chain samples => Sys2Proof.Machine.execChainSettled chain samples s
  | .detectorWindowEnd samples => Sys2Proof.Machine.execDetectorWindowEnd samples s
  | .primaryDetection chain preamble => Sys2Proof.Machine.execPrimaryDetection chain preamble s
  | .newPreamble chain preamble timing frequency afc => Sys2Proof.Machine.execNewPreamble chain preamble timing frequency afc s
  | .syncWordMatch chain word level foffset => Sys2Proof.Machine.execSyncWordMatch chain word level foffset s
  | .syncWindowEnd chain => Sys2Proof.Machine.execSyncWindowEnd chain s
  | .lengthByte chain value => Sys2Proof.Machine.execLengthByte chain value s
  | .lastCrcBit chain data => Sys2Proof.Machine.execLastCrcBit chain data s
  | .pop path => Sys2Proof.Machine.execPop path s
  | .adcFrameStart => Sys2Proof.Machine.execAdcFrameStart s
  | .seqStart path => Sys2Proof.Machine.execSeqStart path s
  | .conversionComplete raw elapsed => Sys2Proof.Machine.execConversionComplete raw elapsed s
  | .injGo path channel sample gain => Sys2Proof.Machine.execInjGo path channel sample gain s
  | .calZero path channel gain => Sys2Proof.Machine.execCalZero path channel gain s
  | .calFull path => Sys2Proof.Machine.execCalFull path s
  | .calCancel path => Sys2Proof.Machine.execCalCancel path s
  | .calStepComplete => Sys2Proof.Machine.execCalStepComplete s
  | .calZeroTimeout => Sys2Proof.Machine.execCalZeroTimeout s
  | .calGWrite path pair value => Sys2Proof.Machine.execCalGWrite path pair value s
  | .diag path channel => Sys2Proof.Machine.execDiag path channel s
  | .diagComplete raws => Sys2Proof.Machine.execDiagComplete raws s
  | .pdacUpdate ch elapsed => Sys2Proof.Machine.execPdacUpdate ch elapsed s
  | .pdacQueuePush path ch code => Sys2Proof.Machine.execPdacQueuePush path ch code s
  | .spanWrite path ch span => Sys2Proof.Machine.execSpanWrite path ch span s
  | .spanDone ch => Sys2Proof.Machine.execSpanDone ch s
  | .overTemp temp => Sys2Proof.Machine.execOverTemp temp s
  | .otClear temp => Sys2Proof.Machine.execOtClear temp s
  | .latchedClear path => Sys2Proof.Machine.execLatchedClear path s
  | .engineFrameStart => Sys2Proof.Machine.execEngineFrameStart s
  | .loopUpdate loop => Sys2Proof.Machine.execLoopUpdate loop s
  | .loopModeWrite path loop mode => Sys2Proof.Machine.execLoopModeWrite path loop mode s
  | .loopReclose loop => Sys2Proof.Machine.execLoopReclose loop s
  | .loopRegisterWrite path loop word value => Sys2Proof.Machine.execLoopRegisterWrite path loop word value s
  | .traceRun path buffer run => Sys2Proof.Machine.execTraceRun path buffer run s
  | .traceStop buffer => Sys2Proof.Machine.execTraceStop buffer s
  | .memoryRead region word upset planRead => Sys2Proof.Machine.execMemoryRead region word upset planRead s
  | .memoryPartialWrite region word bytes value upset => Sys2Proof.Machine.execMemoryPartialWrite region word bytes value upset s
  | .memoryFullWrite region word value => Sys2Proof.Machine.execMemoryFullWrite region word value s
  | .flipArm path region check => Sys2Proof.Machine.execFlipArm path region check s
  | .harrowStep region upset lapMs => Sys2Proof.Machine.execHarrowStep region upset lapMs s
  | .bucketLeak region => Sys2Proof.Machine.execBucketLeak region s
  | .memoryInitDone => Sys2Proof.Machine.execMemoryInitDone s
  | .cxlPerstDeassert => Sys2Proof.Machine.execCxlPerstDeassert s
  | .cxlL0Reached proto width speed => Sys2Proof.Machine.execCxlL0Reached proto width speed s
  | .cxlTrainingTimeout => Sys2Proof.Machine.execCxlTrainingTimeout s
  | .cxlLinkRecovery => Sys2Proof.Machine.execCxlLinkRecovery s
  | .cxlLinkDown => Sys2Proof.Machine.execCxlLinkDown s
  | .cxlPerstAssert => Sys2Proof.Machine.execCxlPerstAssert s
  | .cxlHotReset => Sys2Proof.Machine.execCxlHotReset s
  | .cxlRefLost => Sys2Proof.Machine.execCxlRefLost s
  | .cxlRetrain path value width speed => Sys2Proof.Machine.execCxlRetrain path value width speed s
  | .grant path => Sys2Proof.Machine.execGrant path s
  | .revoke path => Sys2Proof.Machine.execRevoke path s
  | .writeBackComplete => Sys2Proof.Machine.execWriteBackComplete s
  | .writeBackTimeout => Sys2Proof.Machine.execWriteBackTimeout s
  | .windowRequestTimeout user => Sys2Proof.Machine.execWindowRequestTimeout user s
  | .windowHostError user => Sys2Proof.Machine.execWindowHostError user s
  | .hostSnoop line => Sys2Proof.Machine.execHostSnoop line s
  | .mbxGo length => Sys2Proof.Machine.execMbxGo length s
  | .mbxCommandDone => Sys2Proof.Machine.execMbxCommandDone s
  | .mbxNotifyHeadWrite head => Sys2Proof.Machine.execMbxNotifyHeadWrite head s
  | .msixEnable enable masked => Sys2Proof.Machine.execMsixEnable enable masked s
  | .por test => Sys2Proof.Machine.execPor test s
  | .resetN test => Sys2Proof.Machine.execResetN test s
  | .warmReset path test => Sys2Proof.Machine.execWarmReset path test s
  | .hello e role => Sys2Proof.Machine.execHello e role s
  | .prove e sid nonce proof late => Sys2Proof.Machine.execProve e sid nonce proof late s
  | .endSession e => Sys2Proof.Machine.execEndSession e s
  | .setRoleKey e role key => Sys2Proof.Machine.execSetRoleKey e role key s
  | .lcChange e target => Sys2Proof.Machine.execLcChange e target s
  | .regRead e addr count bad => Sys2Proof.Machine.execRegRead e addr count bad s
  | .regWrite e addr words amb => Sys2Proof.Machine.execRegWrite e addr words amb s
  | .fwChunk e type offset data => Sys2Proof.Machine.execFwChunk e type offset data s
  | .fwLoadWindow e type offset length => Sys2Proof.Machine.execFwLoadWindow e type offset length s
  | .fwVerify e => Sys2Proof.Machine.execFwVerify e s
  | .fwVerifyDone => Sys2Proof.Machine.execFwVerifyDone s
  | .fwActivate e => Sys2Proof.Machine.execFwActivate e s
  | .fwCommit e => Sys2Proof.Machine.execFwCommit e s
  | .keyInstall e slot key => Sys2Proof.Machine.execKeyInstall e slot key s
  | .keyRevoke e slot => Sys2Proof.Machine.execKeyRevoke e slot s
  | .taskInstall e index => Sys2Proof.Machine.execTaskInstall e index s
  | .taskRemove e index => Sys2Proof.Machine.execTaskRemove e index s
  | .stepRequest e carrier targets => Sys2Proof.Machine.execStepRequest e carrier targets s
  | .mgrRenegotiate e carrier => Sys2Proof.Machine.execMgrRenegotiate e carrier s
  | .hlSend e carrier sub data => Sys2Proof.Machine.execHlSend e carrier sub data s
  | .replanSwitch e carrier => Sys2Proof.Machine.execReplanSwitch e carrier s
  | .unknownClass e cls typ => Sys2Proof.Machine.execUnknownClass e cls typ s
  | .sessionIdleTimeout p => Sys2Proof.Machine.execSessionIdleTimeout p s
  | .lockoutExpired r => Sys2Proof.Machine.execLockoutExpired r s
  | .trialExpired => Sys2Proof.Machine.execTrialExpired s
  | .readyTimeout => Sys2Proof.Machine.execReadyTimeout s
  | .ploughReady core => Sys2Proof.Machine.execPloughReady core s
  | .heartbeat core => Sys2Proof.Machine.execHeartbeat core s
  | .ploughWatchdog core => Sys2Proof.Machine.execPloughWatchdog core s
  | .hedgeWatchdog => Sys2Proof.Machine.execHedgeWatchdog s
  | .ploughRestart path => Sys2Proof.Machine.execPloughRestart path s
  | .taskBudgetExceeded t cpu => Sys2Proof.Machine.execTaskBudgetExceeded t cpu s
  | .taskException t cause => Sys2Proof.Machine.execTaskException t cause s
  | .i3cPrivateWrite transfer => Sys2Proof.Machine.execI3cPrivateWrite transfer s
  | .i3cPrivateRead addr => Sys2Proof.Machine.execI3cPrivateRead addr s
  | .i3cAddressAssign how addr => Sys2Proof.Machine.execI3cAddressAssign how addr s
  | .hotJoinTimer => Sys2Proof.Machine.execHotJoinTimer s
  | .cpuSwintSet path bits => Sys2Proof.Machine.execCpuSwintSet path bits s
  | .unitArm path units => Sys2Proof.Machine.execUnitArm path units s
  | .unitStop path units feeds => Sys2Proof.Machine.execUnitStop path units feeds s
  | .unitForce path units feeds => Sys2Proof.Machine.execUnitForce path units feeds s
  | .gleanArmEdge => Sys2Proof.Machine.execGleanArmEdge s
  | .gleanFireNEdge feeds => Sys2Proof.Machine.execGleanFireNEdge feeds s
  | .sequencerTrigger unit cycle feeds => Sys2Proof.Machine.execSequencerTrigger unit cycle feeds s
  | .captureComplete unit feed => Sys2Proof.Machine.execCaptureComplete unit feed s
  | .spillRecordWritten record => Sys2Proof.Machine.execSpillRecordWritten record s
  | .readDataRead path unit upset => Sys2Proof.Machine.execReadDataRead path unit upset s
  | .statSnapshot path clear now => Sys2Proof.Machine.execStatSnapshot path clear now s
  | .statLoad path counter value now => Sys2Proof.Machine.execStatLoad path counter value now s
  | .psSample core occurrences sample => Sys2Proof.Machine.execPsSample core occurrences sample s
  | .hpmCounterOverflow core counter run => Sys2Proof.Machine.execHpmCounterOverflow core counter run s
  | .voteWrite path domain value => Sys2Proof.Machine.execVoteWrite path domain value s
  | .dropTimerExpired domain => Sys2Proof.Machine.execDropTimerExpired domain s
  | .fenceComplete domain => Sys2Proof.Machine.execFenceComplete domain s
  | .wakeComplete domain => Sys2Proof.Machine.execWakeComplete domain s
  | .wakeStepFail domain cause => Sys2Proof.Machine.execWakeStepFail domain cause s
  | .wakeRetryGapExpired domain => Sys2Proof.Machine.execWakeRetryGapExpired domain s
  | .wakeRetry path => Sys2Proof.Machine.execWakeRetry path s
  | .domainReset path domain => Sys2Proof.Machine.execDomainReset path domain s
  | .wakeSourceFired source => Sys2Proof.Machine.execWakeSourceFired source s
  | .wakeTimerWrite path value => Sys2Proof.Machine.execWakeTimerWrite path value s
  | .wakeTimerExpired => Sys2Proof.Machine.execWakeTimerExpired s
  | .plRequest path level => Sys2Proof.Machine.execPlRequest path level s
  | .avsVoltageDone port mv => Sys2Proof.Machine.execAvsVoltageDone port mv s
  | .avsAckTimeout port => Sys2Proof.Machine.execAvsAckTimeout port s
  | .avsErrorAck port => Sys2Proof.Machine.execAvsErrorAck port s
  | .plRetry => Sys2Proof.Machine.execPlRetry s
  | .shutdown path => Sys2Proof.Machine.execShutdown path s
  | .seedStoreWritesDone => Sys2Proof.Machine.execSeedStoreWritesDone s
  | .bistComplete reports => Sys2Proof.Machine.execBistComplete reports s
  | .bistUnitTimeout report => Sys2Proof.Machine.execBistUnitTimeout report s
  | .bistResultsWritten same test => Sys2Proof.Machine.execBistResultsWritten same test s
  | .calRun path slot => Sys2Proof.Machine.execCalRun path slot s
  | .calRunDone body => Sys2Proof.Machine.execCalRunDone body s
  | .calStore path slot temp quality => Sys2Proof.Machine.execCalStore path slot temp quality s
  | .calStoreDone same => Sys2Proof.Machine.execCalStoreDone same s
  | .calReload path slot => Sys2Proof.Machine.execCalReload path slot s
  | .calGradualStep slot => Sys2Proof.Machine.execCalGradualStep slot s
  | .bgTrackEstimate slot body quality temp => Sys2Proof.Machine.execBgTrackEstimate slot body quality temp s
  | .bistRun path => Sys2Proof.Machine.execBistRun path s
  | .hardRepair path => Sys2Proof.Machine.execHardRepair path s
  | .hardFallow path unit => Sys2Proof.Machine.execHardFallow path unit s
  | .clearFallow path unit => Sys2Proof.Machine.execClearFallow path unit s
  | .furrowResidueFail furrow => Sys2Proof.Machine.execFurrowResidueFail furrow s
  | .clockStop block clk => Sys2Proof.Machine.execClockStop block clk s
  | .cfgParity block => Sys2Proof.Machine.execCfgParity block s
  | .lockstepMismatch => Sys2Proof.Machine.execLockstepMismatch s
  | .d2dCrcError again => Sys2Proof.Machine.execD2dCrcError again s
  | .supplyOutOfRange => Sys2Proof.Machine.execSupplyOutOfRange s
  | .aonRegisterUpset => Sys2Proof.Machine.execAonRegisterUpset s
  | .ack path => Sys2Proof.Machine.execAck path s
  | .faultTest path => Sys2Proof.Machine.execFaultTest path s
  | .faultTestEnd => Sys2Proof.Machine.execFaultTestEnd s
  | .thermTrip first second => Sys2Proof.Machine.execThermTrip first second s
  | .qualifierChange q high width => Sys2Proof.Machine.execQualifierChange q high width s
  | .minGapEnd q => Sys2Proof.Machine.execMinGapEnd q s
  | .stuck q => Sys2Proof.Machine.execStuck q s
  | .stuckRelease q => Sys2Proof.Machine.execStuckRelease q s
  | .cxlRefRestored => Sys2Proof.Machine.execCxlRefRestored s
  | .hedgeRestartComplete => Sys2Proof.Machine.execHedgeRestartComplete s
  | .imageLoaded data => Sys2Proof.Machine.execImageLoaded data s
  | .hardDone => Sys2Proof.Machine.execHardDone s
  | .hkadcResultRead path e => Sys2Proof.Machine.execHkadcResultRead path e s
  | .i3cDynamicAddressLost => Sys2Proof.Machine.execI3cDynamicAddressLost s
  | .propose c step sole mf => Sys2Proof.Machine.execPropose c step sole mf s

end Sys2Proof.Machine
end

