-- ==== Sys2Proof/Machine/Second.lean ====
section
/-!
DEFINITION. What one second does that passes with no command waiting (log 1, log 7): the local clock advances (R184), limits of once per
second begin anew, and the seconds that registers count down run (R282, R290, R291).
-/
namespace Sys2Proof.Machine

/-- A session's idle time runs: at its end the session ends (R290). -/
def State.idleSecond (s : State) (p : Nat) : State :=
  if !s.on (F.SEC_SESSION.OPEN p) then s
  else if s.get (F.SEC_SESSION.IDLE_LEFT p) ≤ 1 then s.sessionEnd p
  else s.set (F.SEC_SESSION.IDLE_LEFT p) (s.get (F.SEC_SESSION.IDLE_LEFT p) - 1)

/-- A role's lockout runs (R291). -/
def State.lockoutSecond (s : State) (r : Nat) : State :=
  s.set (F.SEC_LOCKOUT.LEFT r) (s.get (F.SEC_LOCKOUT.LEFT r) - 1)

/-- A trial runs: at its end the image is reverted (R282). -/
def State.trialSecond (s : State) : State :=
  match s.get F.SEC_FW_STATUS.TRIAL_LEFT with
  | 0 => s
  | 1 => s.fwRevert
  | n => s.set F.SEC_FW_STATUS.TRIAL_LEFT (n - 1)

/-- A neighbour entry's AGE counts the seconds since it was last heard, to 63 (R142). -/
def State.ageSecond (s : State) (n : Nat) : State :=
  if s.nbNode n = 0 then s else s.setSat (F.LINK_NB_INFO.AGE n) (s.get (F.LINK_NB_INFO.AGE n) + 1)

/-- A rollback counter in burning: at most 63 bits of 5 ms each, so the second tick after its commit finds it burnt (R283). -/
def burnSecond : Option (Nat × Nat × Nat) → Option (Nat × Nat × Nat)
  | some (kind, old, n + 2) => some (kind, old, n + 1)
  | _ => none

/-- One second. The 10^9 cycles of GLEAN count in the statistics counters of KIND 3 (R318); watchdog restarts older than 60 s no
longer count (R296). -/
def State.second (s : State) : State :=
  let s := if s.timeRuns then s.clockSecond else s
  let s := { s with limited := [], lanes := s.lanes.map (fun (l : LaneSt) => { l with noSignals := 0 }), ports := s.ports.map (fun (q : PortSt) => { q with quiet := [] }) }
  let s := s.onSec fun x =>
    { x with restartAges := (x.restartAges.map (· + 1)).filter (· < 60), burning := burnSecond x.burning }
  let s := s.statAdd fun i => if s.get (F.GLEAN_STAT_SRC.KIND i) = 3 && !s.stoppedClocks.contains (0x20, 0) then 1000000000 else 0
  let s := (List.range 4).foldl State.idleSecond s.calSecond
  let s := (List.range 4).foldl State.lockoutSecond s
  let s := (List.range 16).foldl State.ageSecond s
  s.trialSecond

end Sys2Proof.Machine
end

