-- ==== Sys2Proof/WellFormed.lean ====
section
/-!
DEFINITION. Well-formed commands: the lengths and ranges that the spec gives the operands of a command and that its type leaves open.
-/
namespace Sys2Proof

/-- BAR0, or BAR2 above it (R24, R271). -/
def addressed (addr : Nat) : Bool := addr < 0x4010000

/-- The fields of a WMP message's header and trailer (R133, R286). -/
def Envelope.wf (e : Envelope) : Bool :=
  e.version < 256 && e.tag < 2 ^ 16 && e.session < 2 ^ 32 && e.counter < 2 ^ 32 && e.mac.length = 32

/-- A message of a chunk holds at most 4,096 bytes (R286); one of no bytes or more than 1,024 is refused as malformed (Table 14.6). -/
def chunkSized (data : List Byte) : Bool := data.length ≤ 4096

/-- The plan buffer holds 1 MiB (R45). -/
def planSized (data : List Byte) : Bool := data.length ≤ 0x100000

/-- A multiframe number has 24 bits (R102). -/
def multiframe (mf : Nat) : Bool := mf < 2 ^ 24

/-- One value for each of XI, XQ, YI and YQ (R53). -/
def perTributary (rms : List Byte) : Bool := rms.length = 4

/-- One value for each of 16 subcarriers (Table 14.6). -/
def perSubcarrier (targets : List Byte) : Bool := targets.length = 16

/-- The overhead of a frame as received: four codewords of 128 bytes (R99). -/
def overheadSized (bytes : List Byte) : Bool := bytes.length = 512

/-- The 128 sign bits of a frame alignment word (R98). -/
def fawSized (signs : List Byte) : Bool := signs.length = 16

/-- A cell of the management channel (R113). -/
def cellSized (cell : List Byte) : Bool := cell.length = 32

/-- A TAG has 16 bits (R133). -/
def tagged (tag : Nat) : Bool := tag < 2 ^ 16

/-- A headland payload has at most 60 bytes (R207). -/
def packetSized (bytes : List Byte) : Bool := bytes.length ≤ 60

/-- Keys and session nonces have 256 bits (R288, R289). -/
def keySized (key : List Byte) : Bool := key.length = 32

/-- A block of a burst tap has 32 instants of one or two words, and its index has 14 bits (R304, R306). -/
def blockSized (b : TapBlock) : Bool := (b.words.length = 32 || b.words.length = 64) && b.index < 2 ^ 14

/-- An instant has one or two words (R303). -/
def instantSized (x : TapInstant) : Bool := x.words.length = 1 || x.words.length = 2

/-- What a tap of Gleaner delivers. -/
def feedSized (f : TapFeed) : Bool := f.blocks.all blockSized

/-- One feed for each of Gleaner's units (R303). -/
def perUnit (feeds : List TapFeed) : Bool := feeds.length = 4 && feeds.all feedSized

/-- A temperature that a calibration record can hold: a signed byte, °C (R343). -/
def degrees (temp : Int) : Bool := -128 ≤ temp && temp ≤ 127

/-- What adaptation gives: peaking of 0 to 20 dB in 0.5 dB steps, 16 FFE taps, and a mark for each stage (R148). -/
def eqSized (eq : LaneEq) : Bool := eq.ctle ≤ 40 && eq.ffe.length = 16 && eq.still.length = 3

/-- A sample that ADC-B or the modem in its place gives the chains, in codes (R211, R221). -/
def adcCode (x : Int) : Bool := -2048 ≤ x && x ≤ 4095

/-- A plan command's sender. -/
def Sender.wf : Sender → Bool
  | .reg _ => true
  | .wmp e => e.wf

/-- Whether a command is well-formed. -/
def Instr.wf : Instr → Bool
  | .registerWrite _ addr _ _ => addressed addr
  | .narrowWrite _ addr _ _ => addressed addr
  | .rcRead _ addr _ _ => addressed addr
  | .wideLowRead _ addr _ _ => addressed addr
  | .wideLowerWrite _ addr _ _ => addressed addr
  | .wideUpperWrite _ addr _ _ => addressed addr
  | .intSetWrite _ addr _ _ => addressed addr
  | .intStatusWrite _ addr _ _ => addressed addr
  | .downRegisterAccess _ addr _ _ => addressed addr
  | .loadWindow sender => sender.wf
  | .loadSlot sender _ => sender.wf
  | .planChunk e _ data => e.wf && chunkSized data
  | .validate sender => sender.wf
  | .applyCold sender => sender.wf
  | .prepareHitless sender => sender.wf
  | .cancel sender => sender.wf
  | .storeSlot sender _ => sender.wf
  | .loadDone data => planSized data
  | .loadSourceError => true
  | .validationComplete => true
  | .coldApplyStage _ => true
  | .coldApplyComplete => true
  | .storeSlotDone _ => true
  | .buildReady => true
  | .buildTimeout => true
  | .buildFault _ => true
  | .switchAbortDeadline => true
  | .switchStart mf => multiframe mf
  | .rxSelectorSwitch _ => true
  | .switchDone => true
  | .rxFramePeriod _ rms clips _ _ => perTributary rms && clips.length = 4
  | .losAssert _ => true
  | .losClear _ => true
  | .rxQueueOvf _ => true
  | .swap _ _ _ => true
  | .nlcExchange _ => true
  | .nlcEvalEnd _ => true
  | .nlcShadowWrite _ _ _ _ => true
  | .tapSnapshot _ _ _ => true
  | .tapLoad _ _ _ => true
  | .tapDone _ _ => true
  | .restart _ _ => true
  | .agcSettled _ => true
  | .cdSearchComplete _ _ _ => true
  | .clockLocked _ => true
  | .freqStable _ => true
  | .cmaConverged _ => true
  | .pilotsFound _ _ => true
  | .snrStable _ _ => true
  | .acqLimit _ => true
  | .pilotLockLost _ _ => true
  | .clockLockLost _ => true
  | .cycleSlip _ _ _ => true
  | .estIntervalEnd _ _ => true
  | .groupConverged _ => true
  | .mute _ _ => true
  | .unmute _ _ => true
  | .txRampEnd _ => true
  | .txQueueUnf _ => true
  | .respLoad _ _ => true
  | .respLoaded _ => true
  | .gradualControlStep _ _ => true
  | .txFramePeriod _ clips => clips.length = 4
  | .entropyTargetWrite _ _ _ _ => true
  | .stepArm _ _ mf => multiframe mf
  | .stepCancel _ _ => true
  | .entropyStep _ => true
  | .lineFrameSend _ => true
  | .txMultiframeStart _ => true
  | .adopt _ _ => true
  | .fawMatch _ _ signs => fawSized signs
  | .fawMiss _ signs => fawSized signs
  | .resync _ _ => true
  | .overheadReceived _ bytes => overheadSized bytes
  | .mccCellReceived _ cell => cellSized cell
  | .rxStepArm _ _ mf => multiframe mf
  | .rxStepDeadline _ => true
  | .rxStepSwitch _ => true
  | .fecBlockDecoded _ corrected later _ => corrected ≤ 96000 && later ≤ corrected
  | .engineResidueFail _ _ => true
  | .fecSnapshot _ _ _ => true
  | .fecSnapshotCopy _ _ => true
  | .rxMultiframeEnd _ _ _ => true
  | .locked _ => true
  | .capsReceived _ tag _ => tagged tag
  | .capsAckReceived _ tag _ _ => tagged tag
  | .requestRetry _ _ => true
  | .alignComplete _ => true
  | .alignTimeout _ => true
  | .lossHoldExpired _ => true
  | .backoffExpired _ => true
  | .incompatibleRetry _ => true
  | .renegotiate _ _ => true
  | .takeE _ _ => true
  | .takeEApply _ => true
  | .beaconTimer _ => true
  | .beaconReceived _ bytes rssi => packetSized bytes && rssi < 256
  | .queryReceived _ bytes _ => packetSized bytes
  | .linkDownReceived _ bytes => packetSized bytes
  | .neighbourExpired _ => true
  | .proposeReceived _ tag _ => tagged tag
  | .acceptReceived _ tag _ _ => tagged tag
  | .commitLeftQueue _ _ => true
  | .commitReceived _ tag _ => tagged tag
  | .withdrawReceived _ tag _ => tagged tag
  | .nakReceived _ tag code _ => tagged tag && code < 256
  | .proposalDeadline _ _ => true
  | .acceptedDeadline _ _ => true
  | .signalDetect _ _ => true
  | .partnerFrameMarkers _ => true
  | .cdrConverged _ _ eq => eqSized eq
  | .detectLimitExpired _ _ eq => eqSized eq
  | .trainingDone _ _ _ _ eq => eqSized eq
  | .trainLimitExpired _ => true
  | .signalLost _ _ => true
  | .idleLimitExpired _ => true
  | .wakeBurst _ _ => true
  | .overlongBurst _ => true
  | .retrain _ _ => true
  | .failedWaitExpired _ => true
  | .holdoffExpired _ => true
  | .txIdleSet _ _ => true
  | .txIdleClear _ _ => true
  | .quadUnlock _ => true
  | .quadRelock _ => true
  | .partnerCoeffRequest _ _ => true
  | .txFfeWrite _ _ _ _ => true
  | .precodeWrite _ _ _ _ => true
  | .checkerLock _ _ _ => true
  | .chkLockLost _ _ => true
  | .chkSnapshot _ _ _ => true
  | .chkSnapshotCopy _ _ _ => true
  | .injSingle _ _ => true
  | .injBurst _ _ => true
  | .injBurstEnd _ => true
  | .injRateStart _ _ => true
  | .injRateInterval _ _ => true
  | .injStop _ _ _ => true
  | .eyePublish _ _ eq => eqSized eq
  | .loopNearWrite _ _ _ => true
  | .pcsAligned _ _ => true
  | .clientAlignTimeout _ _ => true
  | .hiSer _ => true
  | .markerLockLost _ => true
  | .clientFrameIngress _ _ _ => true
  | .orderedSetIngress _ _ _ => true
  | .orderedSetRepeat _ _ => true
  | .lpiReceived _ => true
  | .recordReceived _ _ _ _ _ => true
  | .orderedSetTimeout _ => true
  | .segmentComplete _ _ _ => true
  | .wtrExpired _ => true
  | .forceSelWrite _ _ _ => true
  | .loopWrite _ _ _ => true
  | .clientSnapshot _ _ _ => true
  | .clientSnapshotCopy _ _ => true
  | .timeSetCommit _ _ => true
  | .invalidate _ => true
  | .timeAdjCommit _ _ => true
  | .slewComplete => true
  | .refLost => true
  | .refRestored => true
  | .servoMeasurement _ => true
  | .ttMeasurement => true
  | .ttSetTimeout => true
  | .tpArm _ _ => true
  | .tpStop _ _ => true
  | .tpEdge _ => true
  | .captureEdge _ _ => true
  | .captureRead _ _ => true
  | .go _ => true
  | .abort _ => true
  | .txPacketEnd => true
  | .sync _ => true
  | .syncN => true
  | .adcbSamplesReturn => true
  | .chainSettled _ samples => samples.all adcCode
  | .detectorWindowEnd samples => samples.all adcCode
  | .primaryDetection _ p => p.symbols.length = 16
  | .newPreamble _ p _ _ _ => p.symbols.length = 16
  | .syncWordMatch _ _ _ _ => true
  | .syncWindowEnd _ => true
  | .lengthByte _ _ => true
  | .lastCrcBit _ data => packetSized data
  | .pop _ => true
  | .adcFrameStart => true
  | .seqStart _ => true
  | .conversionComplete _ _ => true
  | .injGo _ _ _ _ => true
  | .calZero _ _ _ => true
  | .calFull _ => true
  | .calCancel _ => true
  | .calStepComplete => true
  | .calZeroTimeout => true
  | .calGWrite _ _ _ => true
  | .diag _ _ => true
  | .diagComplete raws => raws.length ≤ 16
  | .pdacUpdate _ _ => true
  | .pdacQueuePush _ _ _ => true
  | .spanWrite _ _ _ => true
  | .spanDone _ => true
  | .overTemp _ => true
  | .otClear _ => true
  | .latchedClear _ => true
  | .engineFrameStart => true
  | .loopUpdate _ => true
  | .loopModeWrite _ _ _ => true
  | .loopReclose _ => true
  | .loopRegisterWrite _ _ _ _ => true
  | .traceRun _ _ _ => true
  | .traceStop _ => true
  | .memoryRead _ _ _ _ => true
  | .memoryPartialWrite _ _ _ _ _ => true
  | .memoryFullWrite _ _ _ => true
  | .flipArm _ _ _ => true
  | .harrowStep _ _ _ => true
  | .bucketLeak _ => true
  | .memoryInitDone => true
  | .cxlPerstDeassert => true
  | .cxlL0Reached _ _ _ => true
  | .cxlTrainingTimeout => true
  | .cxlLinkRecovery => true
  | .cxlLinkDown => true
  | .cxlPerstAssert => true
  | .cxlHotReset => true
  | .cxlRefLost => true
  | .cxlRetrain _ _ _ _ => true
  | .grant _ => true
  | .revoke _ => true
  | .writeBackComplete => true
  | .writeBackTimeout => true
  | .windowRequestTimeout _ => true
  | .windowHostError _ => true
  | .hostSnoop _ => true
  | .mbxGo _ => true
  | .mbxCommandDone => true
  | .mbxNotifyHeadWrite _ => true
  | .msixEnable _ _ => true
  | .por _ => true
  | .resetN _ => true
  | .warmReset _ _ => true
  | .hello e _ => e.wf
  | .prove e sid nonce proof _ => e.wf && sid < 2 ^ 32 && keySized nonce && proof.length = 64
  | .endSession e => e.wf
  | .setRoleKey e _ key => e.wf && keySized key
  | .lcChange e _ => e.wf
  | .regRead e _ _ _ => e.wf
  | .regWrite e _ words _ => e.wf && words.length ≤ 1012
  | .fwChunk e _ offset data => e.wf && offset < 2 ^ 32 && data.length ≤ 1024
  | .fwLoadWindow e _ offset length => e.wf && offset < 2 ^ 32 && length < 2 ^ 32
  | .fwVerify e => e.wf
  | .fwVerifyDone => true
  | .fwActivate e => e.wf
  | .fwCommit e => e.wf
  | .keyInstall e _ key => e.wf && keySized key
  | .keyRevoke e _ => e.wf
  | .taskInstall e _ => e.wf
  | .taskRemove e _ => e.wf
  | .stepRequest e _ targets => e.wf && perSubcarrier targets
  | .mgrRenegotiate e _ => e.wf
  | .hlSend e _ _ data => e.wf && packetSized data
  | .replanSwitch e _ => e.wf
  | .unknownClass e _ _ => e.wf
  | .sessionIdleTimeout _ => true
  | .lockoutExpired _ => true
  | .trialExpired => true
  | .readyTimeout => true
  | .ploughReady _ => true
  | .heartbeat _ => true
  | .ploughWatchdog _ => true
  | .hedgeWatchdog => true
  | .ploughRestart _ => true
  | .taskBudgetExceeded _ _ => true
  | .taskException _ _ => true
  | .i3cPrivateWrite _ => true
  | .i3cPrivateRead _ => true
  | .i3cAddressAssign _ _ => true
  | .hotJoinTimer => true
  | .cpuSwintSet _ _ => true
  | .unitArm _ _ => true
  | .unitStop _ _ feeds => perUnit feeds
  | .unitForce _ _ feeds => perUnit feeds
  | .gleanArmEdge => true
  | .gleanFireNEdge feeds => perUnit feeds
  | .sequencerTrigger _ cycle feeds => cycle.instants.all instantSized && perUnit feeds
  | .captureComplete _ feed => feedSized feed
  | .spillRecordWritten record =>
    match record with
    | .spill upsets _ => upsets.length ≤ 4096
    | .plough _ _ body => body.length < 2 ^ 32
  | .readDataRead _ _ _ => true
  | .statSnapshot _ _ _ => true
  | .statLoad _ _ _ _ => true
  | .psSample _ _ _ => true
  | .hpmCounterOverflow _ _ _ => true
  | .voteWrite _ _ _ => true
  | .dropTimerExpired _ => true
  | .fenceComplete _ => true
  | .wakeComplete _ => true
  | .wakeStepFail _ _ => true
  | .wakeRetryGapExpired _ => true
  | .wakeRetry _ => true
  | .domainReset _ _ => true
  | .wakeSourceFired _ => true
  | .wakeTimerWrite _ _ => true
  | .wakeTimerExpired => true
  | .plRequest _ _ => true
  | .avsVoltageDone _ _ => true
  | .avsAckTimeout _ => true
  | .avsErrorAck _ => true
  | .plRetry => true
  | .shutdown _ => true
  | .seedStoreWritesDone => true
  | .bistComplete _ => true
  | .bistUnitTimeout _ => true
  | .bistResultsWritten _ _ => true
  | .calRun _ _ => true
  | .calRunDone _ => true
  | .calStore _ _ temp _ => degrees temp
  | .calStoreDone _ => true
  | .calReload _ _ => true
  | .calGradualStep _ => true
  | .bgTrackEstimate _ _ _ temp => degrees temp
  | .bistRun _ => true
  | .hardRepair _ => true
  | .hardFallow _ _ => true
  | .clearFallow _ _ => true
  | .furrowResidueFail _ => true
  | .clockStop _ _ => true
  | .cfgParity _ => true
  | .lockstepMismatch => true
  | .d2dCrcError _ => true
  | .supplyOutOfRange => true
  | .aonRegisterUpset => true
  | .ack _ => true
  | .faultTest _ => true
  | .faultTestEnd => true
  | .thermTrip _ _ => true
  | .qualifierChange _ _ _ => true
  | .minGapEnd _ => true
  | .stuck _ => true
  | .stuckRelease _ => true
  | .cxlRefRestored => true
  | .hedgeRestartComplete => true
  | .imageLoaded _ => true
  | .hardDone => true
  | .hkadcResultRead _ _ => true
  | .i3cDynamicAddressLost => true
  | .propose _ _ _ mf => multiframe mf

end Sys2Proof
end

