-- ==== Sys2Proof/Safety.lean ====
section
/-!
DEFINITION. What counts as a safe state and a safe run: stores in their canonical form (R3, R255), and steps that answer a next state.
-/
namespace Sys2Proof.Machine

/-- The register file in canonical form: addresses rise, and no entry equals its register's reset value. -/
def State.regsCanonical (s : State) : Bool := Store.wf resetWord s.regs

/-- The on-chip memories in canonical form: addresses rise, and no entry is the zero word that memory initialisation leaves (R255). -/
def State.memCanonical (s : State) : Bool := Store.wf (fun _ => 0) s.mem.words

/-- Both stores in canonical form. -/
def State.canonical (s : State) : Bool := s.regsCanonical && s.memCanonical

/-- The bits of a rollback counter that are surely burnt: while it is being burnt, those of its count before (R283). -/
def SecSt.burnt (x : SecSt) (i : Nat) : Nat :=
  match x.burning with
  | some (k, old, _) => if k = i then min old (nth x.fuses i 0) else nth x.fuses i 0
  | none => nth x.fuses i 0

/-- Every OTP bit burnt in `s` is burnt in `t`: revoked key slots (R285), rollback counts (R283), fuses of rows and of
fallow units (R359). -/
structure State.BurntIn (s t : State) : Prop where
  revoked : ∀ k ∈ s.sec.revoked, k ∈ t.sec.revoked
  counts : ∀ i, s.sec.burnt i ≤ t.sec.burnt i
  rows : ∀ q ∈ s.bist.rowFuses, q ∈ t.bist.rowFuses
  units : ∀ u ∈ s.bist.fallowFuses, u ∈ t.bist.fallowFuses

/-- A state whose next step answers a next state. -/
def State.steps (s : State) : Prop := ∃ t, step s = .next t

/-- Whether an INT_STATUS bit of a block is set (R26). -/
def State.flag (s : State) (blk bit : Nat) : Bool := (s.rd (intStatus blk)).getLsbD bit

/-- A write over a path reaches a register: it is not down (R332), and the path may write (R292). -/
abbrev State.mayWrite (s : State) (p : Path) (a : Nat) : Prop := s.unheard p true = false ∧ s.isDown a = false ∧ s.rwAllowed p = true

/-- A read over a path reaches a register: Hedge carries the path's reads out (R297), and the register is not down (R332). -/
abbrev State.mayRead (s : State) (p : Path) (a : Nat) : Prop := s.unheard p false = false ∧ s.isDown a = false

/-- A write over a path reaches an RWS register of a least role (R292). -/
abbrev State.mayWriteRws (s : State) (p : Path) (a least : Nat) : Prop := s.mayWrite p a ∧ s.rwsAllowed p least = true

/-- The transmit taps c(−3) to c(2) of a lane within R147: each in its range, 40 for the non-main taps, 24 to the rest of 64 for c(0). -/
def tapsLegal (taps : List Int) : Bool :=
  taps.length = 6 && (List.range 6).all (fun k => (nth taps k 0).natAbs ≤ tapLimit k) && sideSum taps 3 ≤ 40
    && 24 ≤ nth taps 3 0 && nth taps 3 0 ≤ 64 - sideSum taps 3

/-- A state without what interrupts, event codes and notifications write. -/
def State.hushed (s : State) : State :=
  { s with regs := [], sent := [], glean := { s.glean with stats := [], units := s.glean.units.map fun u => { u with arrived := [] } }, occ := [], occTime := [], i3cNotes := [], limited := [],
           line := ⟨{ s.line.A with cells := [], unsent := [] }, { s.line.B with cells := [], unsent := [] }⟩ }

/-- A BAR0 word that is no INT_STATUS: interrupts and events leave it alone. -/
def ordinary (a : Nat) : Prop := a < 0x4000000 ∧ a % 0x80000 ≠ 4

/-- Every BAR0 word but the INT_STATUS words and those of a list reads in `t` as in `s`. -/
def State.keepsRegs (s t : State) (but : List Nat) : Prop := ∀ x, ordinary x → x ∉ but → t.rd x = s.rd x

/-- From `s` to `t` only the BAR0 words of a list changed, beside interrupts and what is sent: every other word, the memories and all
other state are as before. -/
def State.onlyRegs (s t : State) (but : List Nat) : Prop := t.hushed = s.hushed ∧ s.keepsRegs t but

/-- The commands that may change words of the on-chip memories: the memory accesses and the harrow of chapter 13, the resets and wakes that
initialise regions (R255), the end of a self-test, register writes, which may start a reset, register reads, which may read a capture's
entry, the commands that Gleaner records entries in (R303), and multiframe boundaries, at which entries of shaping and NLC are computed
anew (R258). -/
def writesMemory : Instr → Bool
  | .memoryRead .. | .memoryPartialWrite .. | .memoryFullWrite .. | .harrowStep .. | .memoryInitDone .. => true
  | .por .. | .resetN .. | .warmReset .. | .bistResultsWritten .. | .wakeComplete .. => true
  | .registerWrite .. | .wideLowerWrite .. | .wideUpperWrite .. | .intSetWrite .. | .intStatusWrite .. | .regWrite .. => true
  | .rcRead .. | .wideLowRead .. | .regRead .. | .downRegisterAccess .. | .readDataRead .. => true
  | .unitForce .. | .unitStop .. | .gleanFireNEdge .. | .sequencerTrigger .. | .captureComplete .. | .spillRecordWritten .. => true
  | .txMultiframeStart .. | .rxMultiframeEnd .. => true
  | _ => false

/-- A WMP message's WMP major is supported (R299), and Hedge runs. -/
abbrev State.wmpReady (s : State) (e : Envelope) : Prop :=
  s.sec.hedge = .running ∧ 1 ≤ e.version / 16 ∧ e.version / 16 ≤ 2

/-- A WMP message in a session of its path passes its checks: session, MAC, COUNTER and least role (R290, R293). -/
abbrev State.wmpInSession (s : State) (e : Envelope) (cls typ : Nat) (body : List Byte) (least : Nat) : Prop :=
  s.wmpReady e ∧ e.session ≠ 0 ∧ s.on (F.SEC_SESSION.OPEN e.path) = true ∧ (s.session e.path).sid = e.session
  ∧ e.mac = (Config.hmac (s.session e.path).keyIn
      (wmpHead e cls typ body.length ++ body ++ (beBytes 4 e.session ++ beBytes 4 e.counter))).take 32
  ∧ (s.session e.path).counter < e.counter ∧ e.counter < 0xFFFFFFFF ∧ least ≤ s.roleOn e.path

/-- A plan command is taken up, `word` being what `PLAN_COMMAND` is written with: Hedge runs; a register write finds PLAN not down and an OPERATOR
session (R45, R292); a PLAN_CMD message passes its checks (R286, R290). -/
def State.mayPlan (s : State) (x : Sender) (word : Nat) : Bool :=
  match x with
  | .reg p => s.sec.hedge = .running && !s.isDown R.PLAN_COMMAND && s.rwsAllowed p 1
  | .wmp e => decide (s.wmpInSession e 3 2 (beBytes 4 word) 1)

/-- The registers that carrying out a plan command's message writes: its session's IDLE_LEFT. -/
def senderRegs : Sender → List Nat
  | .reg _ => []
  | .wmp e => [R.SEC_SESSION e.path]

/-- The states that some steps lead to. -/
inductive Reaches : State → State → Prop where
  | refl (s : State) : Reaches s s
  | tail {s t u : State} (h : Reaches s t) (hs : step t = .next u) : Reaches s u

end Sys2Proof.Machine
end

