-- ==== Sys2Proof/Certificates/Slice0/Obligations.lean ====
section
/-!
DEFINITION. The statements for the provers. A clause that ends in `∃ t, exec … = .next t ∧ …` says that its command completes on the
states and operands of its hypotheses, and what the next state holds.
-/
open Sys2Proof Sys2Proof.Machine

/-- O1. For every state and command: a step of the state with the command at the front of its queue is exec of the command on the
state with the rest of the queue. That the block takes its commands from a queue is the model's choice (log 1). -/
def Obligations.StepRunsFrontCommand : Prop :=
  ∀ (s : State) (c : Instr) (rest : List Instr), step { s with pending := c :: rest } = exec c { s with pending := rest }

/-- O2. Whatever next state a command answers, the queue of waiting commands is as it was. That the queue is the model's own is log 1. -/
def Obligations.QueueIsLeftAlone : Prop :=
  ∀ (s : State) (c : Instr) (t : State), exec c s = .next t → t.pending = s.pending

/-- O3. State.reset has its register store and its on-chip memory store in canonical form (the model's own invariant, log 16), lists
no memory word, and has an empty queue. GLOBAL_ID reads 0x3280_00B1, every coefficient OFS 0 and G 0x40_0000, CAL_BG 0x8000_0A18,
and the input qualifiers' configurations the values of Table 19.9. -/
def Obligations.ResetHoldsTheGivenValues : Prop :=
  State.reset.canonical = true ∧ State.reset.mem.words = [] ∧ State.reset.pending = []
  ∧ State.reset.rd R.GLOBAL_ID = 0x328000B1 ∧ State.reset.rd R.CAL_BG = 0x80000A18
  ∧ (∀ j : Fin 128, State.reset.rd (R.HKADC_CAL_OFS j) = 0 ∧ State.reset.rd (R.HKADC_CAL_G j) = 0x400000)
  ∧ (∀ q : Fin 15, State.reset.rd (R.PINS_QUAL_CFG q) = match q.val with
      | 0 => 0x01064150 | 1 => 0x013E8110 | 2 => 0x0100A108 | 3 | 4 => 0x64064008 | 5 | 6 => 0xFF | _ => 0x00064008)

/-- O4. From every state whose register store and on-chip memory store are in canonical form (addresses rising, no entry at its
default), every step that answers a next state answers one whose two stores are in canonical form. The form is the model's own
invariant (log 16). -/
def Obligations.StepKeepsStoresCanonical : Prop :=
  ∀ (s t : State), s.canonical = true → step s = .next t → t.canonical = true

/-- O5. At every step, every key slot that is revoked stays revoked, the bits of each rollback count that are surely burnt stay (while
FW_COMMIT burns a count, those of the count before), and every burnt row fuse and fallow fuse stays burnt. -/
def Obligations.BurntBitsStay : Prop :=
  ∀ (s t : State), step s = .next t → s.BurntIn t

/-- O6. Every command but MEMORY_READ, MEMORY_PARTIAL_WRITE, MEMORY_FULL_WRITE, HARROW_STEP, MEMORY_INIT_DONE, POR, RESET_N,
WARM_RESET, BIST_RESULTS_WRITTEN, WAKE_COMPLETE, the register writes (which may start one of them), the register reads (which may
read a capture entry), the commands that record Gleaner entries (UNIT_FORCE, UNIT_STOP, GLEAN_FIRE_N_EDGE, SEQUENCER_TRIGGER,
CAPTURE_COMPLETE, SPILL_RECORD_WRITTEN) and the multiframe boundaries (which compute shaping and NLC entries anew) leaves every
word of the on-chip memories as it was. -/
def Obligations.MemoryWordsChangeOnlyByMemoryCommands : Prop :=
  ∀ (s : State) (c : Instr) (t : State), writesMemory c = false → exec c s = .next t → t.mem.words = s.mem.words

/-- O7. For a write of one word (a request of 8 bytes or more brings more): one that may reach GLOBAL_SCRATCH gives it the written
value and changes nothing else; one to GLOBAL_ID changes nothing; one to an unassigned aligned offset of BAR0 changes nothing at
all. Concludes exec = next, on conditions on state and operands alone, with the own effect of: registerWrite. -/
def Obligations.RegisterWritesStoreByAccessType : Prop :=
  (∀ (s : State) (path : Path) (value : Word) (amb : Ambient), s.mayWrite path R.GLOBAL_SCRATCH → amb.more = [] → ∃ t, exec
      (.registerWrite path R.GLOBAL_SCRATCH value amb) s = .next t ∧ t.rd R.GLOBAL_SCRATCH = value ∧ s.onlyRegs t [R.GLOBAL_SCRATCH])
  ∧ (∀ (s : State) (path : Path) (value : Word) (amb : Ambient), s.mayWrite path R.GLOBAL_ID → amb.more = [] → ∃ t, exec
      (.registerWrite path R.GLOBAL_ID value amb) s = .next t ∧ t.rd R.GLOBAL_ID = s.rd R.GLOBAL_ID ∧ s.onlyRegs t [])
  ∧ (∀ (s : State) (path : Path) (addr : Nat) (value : Word) (amb : Ambient), addr < 0x4000000 → addr % 4 = 0 → rowAt addr = none →
      s.unheard path true = false → amb.more = [] → ∃ t, exec (.registerWrite path addr value amb) s = .next t ∧ t = s)

/-- O8. A narrow write within a word that is not down is counted in NARROW_WRITES and raises NARROW_WRITE, and changes nothing else. A
read of bytes of GLOBAL_ACCESS_ERR returns those bytes and clears the RC count. The low read of a decoder counter returns the low
word and copies the upper word into the shadow of its own path, leaving the shadows of other paths; an upper read returns the
shadow. A write to a lower word of TP_n_START is held in the staging copy and changes no register; the write of the upper word
commits all four words, and so does one request of 16 bytes that begins at the lowest. Concludes exec = next, on conditions on
state and operands alone, with the own effect of: narrowWrite, rcRead, wideLowRead, wideLowerWrite, wideUpperWrite. -/
def Obligations.NarrowAndWideAccesses : Prop :=
  (∀ (s : State) (path : Path) (addr : Nat) (n : Fin 3) (value : Word), addr < 0x4000000 → addr % 4 + n.val < 4 → s.unheard path true
      = false → s.isDown (addr / 4 * 4) = false → ∃ t, exec (.narrowWrite path addr n value) s = .next t ∧ t.get
      (F.GLOBAL_ACCESS_ERR.NARROW_WRITES) = min (F.GLOBAL_ACCESS_ERR.NARROW_WRITES).top (s.get (F.GLOBAL_ACCESS_ERR.NARROW_WRITES) +
      1) ∧ t.flag 0 0 = true ∧ s.onlyRegs t [R.GLOBAL_ACCESS_ERR])
  ∧ (∀ (s : State) (path : Path) (k : Nat) (n : Fin 4096) (upset : MemWord), k + n.val < 4 → s.mayRead path R.GLOBAL_ACCESS_ERR → ∃ t,
      exec (.rcRead path (R.GLOBAL_ACCESS_ERR + k) n upset) s = .next t ∧ t.readData = BitVec.ofNat 32 (bitsOf (s.rd
      R.GLOBAL_ACCESS_ERR) (8 * k + 8 * n.val + 7) (8 * k)) ∧ t.get F.GLOBAL_ACCESS_ERR.NARROW_WRITES = 0 ∧ s.keepsRegs t
      [R.GLOBAL_ACCESS_ERR] ∧ t.mem = s.mem)
  ∧ (∀ (s : State) (path other : Path) (c : Carrier) (upset : MemWord), s.mayRead path (R.FEC_CORR_BITS_LO c) → other ≠ path → ∃ t,
      exec (.wideLowRead path (R.FEC_CORR_BITS_LO c) 3 upset) s = .next t ∧ t.readData = s.rd (R.FEC_CORR_BITS_LO c) ∧ t.shadow path
      (R.FEC_CORR_BITS_HI c) = s.rd (R.FEC_CORR_BITS_HI c) ∧ t.shadow other (R.FEC_CORR_BITS_HI c) = s.shadow other
      (R.FEC_CORR_BITS_HI c) ∧ t.regs = s.regs ∧ t.mem = s.mem)
  ∧ (∀ (s : State) (path : Path) (c : Carrier) (upset : MemWord), s.mayRead path (R.FEC_CORR_BITS_HI c) → ∃ t, exec (.wideLowRead path
      (R.FEC_CORR_BITS_HI c) 3 upset) s = .next t ∧ t = { s with readData := s.shadow path (R.FEC_CORR_BITS_HI c) })
  ∧ (∀ (s : State) (path : Path) (n : Fin 4) (i : Fin 3) (value : Word) (amb : Ambient), s.mayWrite path (R.TP_START_0 n + 4 * i) →
      amb.more = [] → ∃ t, exec (.wideLowerWrite path (R.TP_START_0 n + 4 * i) value amb) s = .next t ∧ t.staged path (R.TP_START_0 n
      + 4 * i) = value ∧ t.regs = s.regs ∧ t.mem = s.mem)
  ∧ (∀ (s : State) (path : Path) (n : Fin 4) (value : Word) (amb : Ambient), s.mayWrite path (R.TP_START_3 n) → ∃ t, exec
      (.wideUpperWrite path (R.TP_START_3 n) value amb) s = .next t ∧ t.get (F.TP_START_0.FRAC n) = bitsOf (s.staged path
      (R.TP_START_0 n)) 31 16 ∧ t.get (F.TP_START_1.NS n) = min 999999999 (bitsOf (s.staged path (R.TP_START_1 n)) 29 0) ∧ t.rd
      (R.TP_START_2 n) = s.staged path (R.TP_START_2 n) ∧ t.get (F.TP_START_3.SEC_HI n) = bitsOf value 15 0 ∧ s.onlyRegs t
      [R.TP_START_0 n, R.TP_START_1 n, R.TP_START_2 n, R.TP_START_3 n])
  ∧ (∀ (s : State) (path : Path) (n : Fin 4) (w0 w1 w2 w3 : Word) (amb : Ambient), s.mayWrite path (R.TP_START_0 n) → amb.more = [w1,
      w2, w3] → ∃ t, exec (.wideLowerWrite path (R.TP_START_0 n) w0 amb) s = .next t ∧ t.get (F.TP_START_0.FRAC n) = bitsOf w0 31 16 ∧
      t.get (F.TP_START_1.NS n) = min 999999999 (bitsOf w1 29 0) ∧ t.rd (R.TP_START_2 n) = w2 ∧ t.get (F.TP_START_3.SEC_HI n) = bitsOf
      w3 15 0 ∧ s.keepsRegs t [R.TP_START_0 n, R.TP_START_1 n, R.TP_START_2 n, R.TP_START_3 n] ∧ t.mem = s.mem)

/-- O9. A write of GLOBAL_INT_SET sets the implemented bits written 1 in INT_STATUS and changes nothing else. Where MSI-X is enabled
and unmasked, the port is UP and the block's enabled status becomes non-zero, its message is sent. A write of GLOBAL_INT_STATUS
clears exactly the bits written 1; if the enabled status is still non-zero (MSI-X enabled and unmasked, the port UP), the message
is sent again. Concludes exec = next, on conditions on state and operands alone, with the own effect of: intSetWrite,
intStatusWrite. -/
def Obligations.InterruptRegistersAndMessages : Prop :=
  (∀ (s : State) (path : Path) (value : Word) (amb : Ambient), s.mayWrite path R.GLOBAL_INT_SET → ∃ t, exec (.intSetWrite path
      R.GLOBAL_INT_SET value amb) s = .next t ∧ t.rd R.GLOBAL_INT_STATUS = s.rd R.GLOBAL_INT_STATUS ||| (value &&& 7) ∧ s.onlyRegs t
      [])
  ∧ (∀ (s : State) (path : Path) (value : Word) (amb : Ambient), s.mayWrite path R.GLOBAL_INT_SET → s.msixEnabled = true → s.cxlUp =
      true → s.msixMasked = false → s.on (vectorMask 0) = false → s.cause 0 = false → (value &&& 7 &&& s.rd R.GLOBAL_INT_ENABLE) ≠ 0 →
      ∃ t, exec (.intSetWrite path R.GLOBAL_INT_SET value amb) s = .next t ∧ t.sent = .msix 0 :: s.sent)
  ∧ (∀ (s : State) (path : Path) (value : Word) (amb : Ambient), s.mayWrite path R.GLOBAL_INT_STATUS → ∃ t, exec (.intStatusWrite path
      R.GLOBAL_INT_STATUS value amb) s = .next t ∧ t.rd R.GLOBAL_INT_STATUS = s.rd R.GLOBAL_INT_STATUS &&& ~~~(value &&& 7) ∧
      s.onlyRegs t [])
  ∧ (∀ (s : State) (path : Path) (value : Word) (amb : Ambient), s.mayWrite path R.GLOBAL_INT_STATUS → s.msixEnabled = true → s.cxlUp
      = true → s.msixMasked = false → s.on (vectorMask 0) = false → (s.rd R.GLOBAL_INT_STATUS &&& ~~~(value &&& 7) &&& s.rd
      R.GLOBAL_INT_ENABLE) ≠ 0 → ∃ t, exec (.intStatusWrite path R.GLOBAL_INT_STATUS value amb) s = .next t ∧ t.sent = .msix 0 ::
      s.sent)

/-- O10. A whole read of a register that is down returns 0xFFFF_FFFF; a whole write is discarded; both are logged with their path and
counted, and ACCESS_DOWN rises. REG READ of GLOBAL_SCRATCH on the mailbox is answered with its word, most significant byte first.
REG WRITE on the mailbox without a session, and in an OPERATOR session on any path, writes the word and is answered. Concludes
exec = next, on conditions on state and operands alone, with the own effect of: downRegisterAccess, regRead, regWrite. -/
def Obligations.DownRegistersAndRegMessages : Prop :=
  (∀ (s : State) (path : Path) (addr : Nat) (write : Bool), addr < 0x4000000 → addr % 4 = 0 → s.unheard path write = false → s.isDown
      addr = true → ∃ t, exec (.downRegisterAccess path addr write 3) s = .next t ∧ (write = false → t.readData = 0xFFFFFFFF) ∧ t.get
      F.PWR_ACCESS_DOWN_LOG.BLOCK = blockOf addr ∧ t.get F.PWR_ACCESS_DOWN_LOG.OFFSET = addr - blockBase (blockOf addr) ∧ t.on
      F.PWR_ACCESS_DOWN_LOG.WRITE = write ∧ t.get F.PWR_ACCESS_DOWN_LOG.PATH = logCode path ∧ t.get (F.PWR_ACCESS_DOWN_COUNT.COUNT) =
      min (F.PWR_ACCESS_DOWN_COUNT.COUNT).top (s.get (F.PWR_ACCESS_DOWN_COUNT.COUNT) + 1) ∧ t.flag 0x22 2 = true ∧ s.keepsRegs t
      [R.PWR_ACCESS_DOWN_LOG, R.PWR_ACCESS_DOWN_COUNT] ∧ t.mem = s.mem)
  ∧ (∀ (s : State) (e : Envelope) (upset : MemWord), s.wmpReady e → e.session = 0 → e.path = 0 → s.isDown R.GLOBAL_SCRATCH = false → ∃
      t, exec (.regRead e 0x30 1 upset) s = .next t ∧ t.sent = .reply 0 none :: s.sent ∧ t.sec.mbxResp = some (s.wmpResponse 0
      e.version 2 1 e.tag 0 e.counter none (beBytes 4 (s.rd R.GLOBAL_SCRATCH).toNat)) ∧ s.keepsRegs t [] ∧ t.mem = s.mem)
  ∧ (∀ (s : State) (e : Envelope) (value : Word) (amb : Ambient), s.wmpReady e → e.session = 0 → e.path = 0 → s.isDown
      R.GLOBAL_SCRATCH = false → ∃ t, exec (.regWrite e 0x30 [value] amb) s = .next t ∧ t.rd R.GLOBAL_SCRATCH = value ∧ t.sent =
      .reply 0 none :: s.sent ∧ s.keepsRegs t [R.GLOBAL_SCRATCH] ∧ t.mem = s.mem)
  ∧ (∀ (s : State) (e : Envelope) (value : Word) (amb : Ambient), s.wmpInSession e 2 2 (beBytes 4 0x30 ++ beBytes 4 value.toNat) (if
      e.path.val = 0 then 0 else 1) → s.isDown R.GLOBAL_SCRATCH = false → ∃ t, exec (.regWrite e 0x30 [value] amb) s = .next t ∧ t.rd
      R.GLOBAL_SCRATCH = value ∧ (t.session e.path).counter = e.counter ∧ t.get (F.SEC_SESSION.IDLE_LEFT e.path) = s.get
      F.SEC_SESSION_CFG.IDLE_S ∧ .reply e.path none ∈ t.sent ∧ s.keepsRegs t [R.GLOBAL_SCRATCH, R.SEC_SESSION e.path] ∧ t.mem = s.mem)

/-- O11. Commands of a sender with the right to them. LOAD_WINDOW while a load may start makes the buffer LOADING with a granted
window that holds the span; without a grant, or with a span beyond the window, it is EMPTY with REASON 0x09 and RECORD 0xFFFF, and
REJECTED is raised. LOAD_SLOT makes it LOADING with the bytes that the slot is to deliver. LOAD_DONE of either load makes it
LOADED with the bytes delivered and raises LOAD_DONE. LOAD_SOURCE_ERROR while LOADING makes it EMPTY, REASON 0x09, RECORD 0xFFFF,
and raises REJECTED. A PLAN_CHUNK that does not reach the header's end starts a load; one that holds the whole plan completes it.
STORE_SLOT of a VALID buffer puts its TOTAL_LEN bytes into the slot, STORING; STORE_SLOT_DONE makes it VALID, and on a mismatch
erases the slot and sets REASON 0x09. LOAD_WINDOW, LOAD_SLOT, VALIDATE, APPLY_COLD, PREPARE_HITLESS, STORE_SLOT and CANCEL in a
state that does not list them are counted in PLAN_IGNORED and change neither the buffer nor the plan. Concludes exec = next, on
conditions on state and operands alone, with the own effect of: loadWindow, loadSlot, loadDone, loadSourceError, planChunk,
storeSlot, storeSlotDone, validate, applyCold, prepareHitless, cancel. -/
def Obligations.PlanBufferLoadsAndStores : Prop :=
  (∀ (s : State) (sender : Sender), s.mayPlan sender 1 = true → s.mayLoad = true → s.windowGranted = true → s.inWindow (s.get
      F.PLAN_SRC_OFFSET.OFFSET * 4096) (s.get F.PLAN_SRC_LENGTH.LENGTH) = true → ∃ t, exec (.loadWindow sender) s = .next t ∧
      t.bufState = 1 ∧ t.get F.PLAN_COMMAND.CMD = 1 ∧ t.plan.load = .window ∧ t.plan.expected = s.get F.PLAN_SRC_LENGTH.LENGTH ∧
      s.keepsRegs t (R.PLAN_STATUS :: R.PLAN_COMMAND :: senderRegs sender) ∧ t.mem = s.mem)
  ∧ (∀ (s : State) (sender : Sender), s.mayPlan sender 1 = true → s.mayLoad = true → s.windowGranted = false → ∃ t, exec (.loadWindow
      sender) s = .next t ∧ t.bufState = 0 ∧ t.get F.PLAN_STATUS.REASON = 9 ∧ t.get F.PLAN_STATUS.RECORD = 0xFFFF ∧ t.flag 0x02 2 =
      true ∧ s.keepsRegs t (R.PLAN_STATUS :: R.PLAN_COMMAND :: senderRegs sender))
  ∧ (∀ (s : State) (sender : Sender), s.mayPlan sender 1 = true → s.mayLoad = true → s.windowGranted = true → s.inWindow (s.get
      F.PLAN_SRC_OFFSET.OFFSET * 4096) (s.get F.PLAN_SRC_LENGTH.LENGTH) = false → ∃ t, exec (.loadWindow sender) s = .next t ∧
      t.bufState = 0 ∧ t.get F.PLAN_STATUS.REASON = 9 ∧ t.get F.PLAN_STATUS.RECORD = 0xFFFF ∧ t.flag 0x02 2 = true)
  ∧ (∀ (s : State) (sender : Sender) (slot : Fin 4), s.mayPlan sender (2 + 16 * slot) = true → s.mayLoad = true → ∃ t, exec (.loadSlot
      sender slot) s = .next t ∧ t.bufState = 1 ∧ t.get F.PLAN_COMMAND.CMD = 2 ∧ t.get F.PLAN_COMMAND.SLOT = slot ∧ t.plan.load =
      .slot ∧ t.plan.expected = imgDeliver (nth s.plan.slots slot []) ∧ s.keepsRegs t (R.PLAN_STATUS :: R.PLAN_COMMAND :: senderRegs
      sender) ∧ t.mem = s.mem)
  ∧ (∀ (s : State) (data : List Byte), s.bufState = 1 → s.plan.load = .window → ∃ t, exec (.loadDone data) s = .next t ∧ t.bufState =
      2 ∧ t.plan.buf = data.take s.plan.expected ∧ t.plan.delivered = data.length ∧ t.flag 0x02 0 = true ∧ s.keepsRegs t
      [R.PLAN_STATUS, R.PLAN_BUF_EPOCH])
  ∧ (∀ (s : State) (data : List Byte), s.bufState = 1 → s.plan.load = .slot → ∃ t, exec (.loadDone data) s = .next t ∧ t.bufState = 2
      ∧ t.plan.buf = s.plan.buf ∧ t.plan.delivered = s.plan.expected ∧ t.flag 0x02 0 = true ∧ s.keepsRegs t [R.PLAN_STATUS,
      R.PLAN_BUF_EPOCH])
  ∧ (∀ (s : State), s.bufState = 1 → ∃ t, exec (.loadSourceError) s = .next t ∧ t.bufState = 0 ∧ t.get F.PLAN_STATUS.REASON = 9 ∧
      t.get F.PLAN_STATUS.RECORD = 0xFFFF ∧ t.flag 0x02 2 = true ∧ s.keepsRegs t [R.PLAN_STATUS])
  ∧ (∀ (s : State) (e : Envelope) (offset : Word) (data : List Byte), s.wmpInSession e 3 1 (beBytes 4 offset.toNat ++ data) 1 →
      s.mayLoad = true → data ≠ [] → offset.toNat + data.length ≤ 0x1F → ∃ t, exec (.planChunk e offset data) s = .next t ∧ t.bufState
      = 1 ∧ t.plan.load = .chunk ∧ t.plan.buf = splice [] offset.toNat data ∧ .reply e.path none ∈ t.sent ∧ s.keepsRegs t
      [R.PLAN_STATUS, R.SEC_SESSION e.path])
  ∧ (∀ (s : State) (e : Envelope) (data : List Byte), s.wmpInSession e 3 1 (beBytes 4 0 ++ data) 1 → s.mayLoad = true → 0x20 ≤
      data.length → imgDeliver data ≤ data.length → data.length ≤ 1024 → ∃ t, exec (.planChunk e 0 data) s = .next t ∧ t.bufState = 2
      ∧ t.plan.buf = data.take (imgDeliver data) ∧ t.plan.delivered = imgDeliver data ∧ t.flag 0x02 0 = true ∧ .reply e.path none ∈
      t.sent ∧ s.keepsRegs t [R.PLAN_STATUS, R.PLAN_BUF_EPOCH, R.SEC_SESSION e.path])
  ∧ (∀ (s : State) (sender : Sender) (slot : Fin 4), s.mayPlan sender (7 + 16 * slot) = true → s.bufState = 4 → s.plan.slots.length =
      4 → ∃ t, exec (.storeSlot sender slot) s = .next t ∧ t.bufState = 7 ∧ t.get F.PLAN_COMMAND.CMD = 7 ∧ t.get F.PLAN_COMMAND.SLOT =
      slot ∧ nth t.plan.slots slot [] = s.plan.buf.take (imgTotal s.plan.buf) ∧ s.keepsRegs t (R.PLAN_STATUS :: R.PLAN_COMMAND ::
      senderRegs sender))
  ∧ (∀ (s : State) (same : Bool), s.bufState = 7 → ∃ t, exec (.storeSlotDone same) s = .next t ∧ t.bufState = 4 ∧ (same = false →
      t.get F.PLAN_STATUS.REASON = 9) ∧ t.plan.slots = (if same then s.plan.slots else s.plan.slots.set s.plan.storing []) ∧
      s.keepsRegs t [R.PLAN_STATUS] ∧ t.mem = s.mem)
  ∧ (∀ (s : State) (sender : Sender), s.mayPlan sender (1) = true → s.mayLoad = false → ∃ t, exec (.loadWindow sender) s = .next t ∧
      t.get F.PLAN_IGNORED.COMMANDS = min F.PLAN_IGNORED.COMMANDS.top (s.get F.PLAN_IGNORED.COMMANDS + 1) ∧ t.bufState = s.bufState ∧
      s.keepsRegs t (R.PLAN_IGNORED :: senderRegs sender) ∧ t.plan = s.plan)
  ∧ (∀ (s : State) (sender : Sender) (slot : Fin 4), s.mayPlan sender (2 + 16 * slot) = true → s.mayLoad = false → ∃ t, exec
      (.loadSlot sender slot) s = .next t ∧ t.get F.PLAN_IGNORED.COMMANDS = min F.PLAN_IGNORED.COMMANDS.top (s.get
      F.PLAN_IGNORED.COMMANDS + 1) ∧ t.bufState = s.bufState ∧ s.keepsRegs t (R.PLAN_IGNORED :: senderRegs sender) ∧ t.plan = s.plan)
  ∧ (∀ (s : State) (sender : Sender), s.mayPlan sender (3) = true → s.bufState ≠ 2 → ∃ t, exec (.validate sender) s = .next t ∧ t.get
      F.PLAN_IGNORED.COMMANDS = min F.PLAN_IGNORED.COMMANDS.top (s.get F.PLAN_IGNORED.COMMANDS + 1) ∧ t.bufState = s.bufState ∧
      s.keepsRegs t (R.PLAN_IGNORED :: senderRegs sender) ∧ t.plan = s.plan)
  ∧ (∀ (s : State) (sender : Sender), s.mayPlan sender (4) = true → s.bufState ≠ 2 → s.bufState ≠ 4 → ∃ t, exec (.applyCold sender) s
      = .next t ∧ t.get F.PLAN_IGNORED.COMMANDS = min F.PLAN_IGNORED.COMMANDS.top (s.get F.PLAN_IGNORED.COMMANDS + 1) ∧ t.bufState =
      s.bufState ∧ s.keepsRegs t (R.PLAN_IGNORED :: senderRegs sender) ∧ t.plan = s.plan)
  ∧ (∀ (s : State) (sender : Sender), s.mayPlan sender (5) = true → s.hState ≠ 0 → ∃ t, exec (.prepareHitless sender) s = .next t ∧
      t.get F.PLAN_IGNORED.COMMANDS = min F.PLAN_IGNORED.COMMANDS.top (s.get F.PLAN_IGNORED.COMMANDS + 1) ∧ t.bufState = s.bufState ∧
      s.keepsRegs t (R.PLAN_IGNORED :: senderRegs sender) ∧ t.plan = s.plan)
  ∧ (∀ (s : State) (sender : Sender) (slot : Fin 4), s.mayPlan sender (7 + 16 * slot) = true → s.bufState ≠ 4 → ∃ t, exec (.storeSlot
      sender slot) s = .next t ∧ t.get F.PLAN_IGNORED.COMMANDS = min F.PLAN_IGNORED.COMMANDS.top (s.get F.PLAN_IGNORED.COMMANDS + 1) ∧
      t.bufState = s.bufState ∧ s.keepsRegs t (R.PLAN_IGNORED :: senderRegs sender) ∧ t.plan = s.plan)
  ∧ (∀ (s : State) (sender : Sender), s.mayPlan sender (6) = true → s.hState ≠ 1 → s.hState ≠ 2 → ∃ t, exec (.cancel sender) s = .next
      t ∧ t.get F.PLAN_IGNORED.COMMANDS = min F.PLAN_IGNORED.COMMANDS.top (s.get F.PLAN_IGNORED.COMMANDS + 1) ∧ t.bufState =
      s.bufState ∧ s.keepsRegs t (R.PLAN_IGNORED :: senderRegs sender) ∧ t.plan = s.plan)

/-- O12. VALIDATE of a LOADED buffer starts validation. VALIDATION_COMPLETE of a VALIDATE makes it VALID with REASON 0 and RECORD
0xFFFF and raises VALID where every check passes, and REJECTED with the first failing check's reason and record, raising REJECTED,
otherwise. APPLY_COLD of a LOADED buffer validates first; of a VALID one it starts the apply: APPLYING, both link managers DARK
with their armed transmit steps discarded, all lanes and ports DISABLED. COLD_APPLY_STAGE runs the stages up to its time; that of
20 ms binds the plan. COLD_APPLY_COMPLETE, with no shut-down waiting, makes the plan the running one: VALID, epoch, GLOBAL_MODE,
and APPLIED, with MODE_CHANGED where the mode differs. Concludes exec = next, on conditions on state and operands alone, with the
own effect of: validate, validationComplete, applyCold, coldApplyStage, coldApplyComplete. -/
def Obligations.ValidationAndColdApply : Prop :=
  (∀ (s : State) (sender : Sender), s.mayPlan sender 3 = true → s.bufState = 2 → ∃ t, exec (.validate sender) s = .next t ∧ t.bufState
      = 3 ∧ t.get F.PLAN_COMMAND.CMD = 3 ∧ t.plan.after = .validate ∧ s.keepsRegs t (R.PLAN_STATUS :: R.PLAN_COMMAND :: senderRegs
      sender))
  ∧ (∀ (s : State), s.bufState = 3 → s.plan.after = .validate → ∃ t, exec (.validationComplete) s = .next t ∧ t.bufState = (if
      s.validation.isNone then 4 else 5) ∧ t.get F.PLAN_STATUS.REASON = ((s.validation.map (·.1)).getD 0) % 256 ∧ t.get
      F.PLAN_STATUS.RECORD = ((s.validation.map (·.2)).getD 0xFFFF) % 65536 ∧ t.flag 0x02 (if s.validation.isNone then 1 else 2) =
      true ∧ s.keepsRegs t [R.PLAN_STATUS] ∧ t.plan = s.plan)
  ∧ (∀ (s : State) (sender : Sender), s.mayPlan sender 4 = true → s.bufState = 2 → s.mayApply = true → ∃ t, exec (.applyCold sender) s
      = .next t ∧ t.bufState = 3 ∧ t.plan.after = .applyCold ∧ s.keepsRegs t (R.PLAN_STATUS :: R.PLAN_COMMAND :: senderRegs sender))
  ∧ (∀ (s : State) (sender : Sender) (c : Carrier) (n : Fin 16), s.mayPlan sender 4 = true → s.bufState = 4 → s.mayApply = true → ∃ t,
      exec (.applyCold sender) s = .next t ∧ t.bufState = 6 ∧ t.get F.PLAN_COMMAND.CMD = 4 ∧ t.linkState c = 0 ∧ t.get
      (F.LINK_NUMBERING.ROLE c) = 0 ∧ t.on (F.FURROW_TX_STEP.ARMED c) = false ∧ t.laneState n = 0 ∧ t.get (F.CLIENT_STATE.INGRESS n) =
      0 ∧ t.hState = 0 ∧ t.plan.applyMs = 0 ∧ t.mem = s.mem)
  ∧ (∀ (s : State) (ms : Nat), s.bufState = 6 → ∃ t, exec (.coldApplyStage ms) s = .next t ∧ t.bufState = 6 ∧ t.plan.applyMs = max
      s.plan.applyMs (min 80 ms) ∧ ((s.plan.applyMs < 20 ∧ 20 ≤ ms) → (t.plan.bound = s.bindPlan (imgPlan s.plan.buf) ∧ t.get
      F.PLAN_FURROWS.RUNNING = (imgPlan s.plan.buf).furrowTotal % 256)) ∧ t.mem = s.mem)
  ∧ (∀ (s : State), s.bufState = 6 → s.shut = false → ∃ t, exec (.coldApplyComplete) s = .next t ∧ t.bufState = 4 ∧ t.plan.running =
      some (imgPlan s.plan.buf) ∧ t.get F.PLAN_RUN_EPOCH.EPOCH = (imgPlan s.plan.buf).epoch ∧ t.get F.GLOBAL_MODE.MODE = (imgPlan
      s.plan.buf).mode % 16 ∧ t.flag 0x02 3 = true ∧ ((s.mode ≠ (imgPlan s.plan.buf).mode % 16) → t.flag 0x00 2 = true) ∧ t.mem =
      s.mem)

/-- O13. PREPARE_HITLESS of a VALID buffer with no re-plan under way, whose check 24 passes, binds the new groups to healthy furrows
that the running plan does not hold and goes to BUILDING. BUILD_READY in BUILDING goes to READY once every new group has
converged, raising BUILD_READY of PLAN_INT_STATUS. CANCEL, BUILD_TIMEOUT, BUILD_FAULT of a build furrow and SWITCH_ABORT_DEADLINE
of a proposed switch, each in its states, go to IDLE with no build left and raise SWITCH_ABORTED; REASON is 0x44, 0x45 and 0x46
after the last three. SWITCH_START at the armed M goes from ARMED to SWITCHING; RX_SELECTOR_SWITCH switches a carrier that is to
switch and leaves the other carrier's chain; SWITCH_DONE with none left to switch makes the plan the running one, with its epoch
and furrow total, goes to IDLE with no build, and raises SWITCH_DONE. Concludes exec = next, on conditions on state and operands
alone, with the own effect of: prepareHitless, buildReady, cancel, buildTimeout, buildFault, switchAbortDeadline, switchStart,
rxSelectorSwitch, switchDone. -/
def Obligations.HitlessReplanFollowsTable220 : Prop :=
  (∀ (s : State) (sender : Sender), s.mayPlan sender 5 = true → s.bufState = 4 → s.hState = 0 → s.mayApply = true → (imgPlan
      s.plan.buf).check24 s.plan.running (s.get F.PLAN_RUN_EPOCH.EPOCH) (s.healthyFurrows.length - s.get F.PLAN_FURROWS.RUNNING) =
      none → ∃ t, exec (.prepareHitless sender) s = .next t ∧ t.hState = 1 ∧ t.get F.PLAN_COMMAND.CMD = 5 ∧ t.bufState = 4 ∧
      t.plan.running = s.plan.running ∧ t.plan.bound = s.plan.bound ∧ t.plan.build = bindGroups (byFirst ((s.plan.running.map fun run
      => (imgPlan s.plan.buf).newGroups run).getD [])) (s.healthyFurrows.filter fun f => !(s.plan.bound.flatMap (·.furrows)).contains
      f) ∧ t.plan.converged = [] ∧ t.mem = s.mem)
  ∧ (∀ (s : State), s.hState = 1 → s.allConverged = true → ∃ t, exec (.buildReady) s = .next t ∧ t.hState = 2 ∧ t.flag 0x02 4 = true ∧
      s.onlyRegs t [R.PLAN_SWITCH])
  ∧ (∀ (s : State) (sender : Sender), s.mayPlan sender 6 = true → s.hState = 1 ∨ s.hState = 2 → ∃ t, exec (.cancel sender) s = .next t
      ∧ t.hState = 0 ∧ t.plan.build = [] ∧ t.get F.PLAN_FURROWS.BUILDING = 0 ∧ t.get F.PLAN_COMMAND.CMD = 6 ∧ t.flag 0x02 7 = true ∧
      t.plan.running = s.plan.running ∧ t.mem = s.mem)
  ∧ (∀ (s : State), s.hState = 1 → ∃ t, exec (.buildTimeout) s = .next t ∧ t.hState = 0 ∧ t.plan.build = [] ∧ t.get
      F.PLAN_STATUS.REASON = 0x44 ∧ t.flag 0x02 7 = true ∧ t.bufState = s.bufState ∧ t.mem = s.mem)
  ∧ (∀ (s : State) (furrow : Fin 104), s.hState = 1 ∨ s.hState = 2 ∨ s.hState = 3 → s.plan.build.any (fun b => b.furrows.contains
      furrow.val) = true → ∃ t, exec (.buildFault furrow) s = .next t ∧ t.hState = 0 ∧ t.plan.build = [] ∧ t.get F.PLAN_STATUS.REASON
      = 0x45 ∧ t.flag 0x02 7 = true ∧ t.mem = s.mem)
  ∧ (∀ (s : State), s.hState = 2 → s.plan.proposedMf.isSome = true → ∃ t, exec (.switchAbortDeadline) s = .next t ∧ t.hState = 0 ∧
      t.plan.build = [] ∧ t.get F.PLAN_STATUS.REASON = 0x46 ∧ t.flag 0x02 7 = true ∧ t.mem = s.mem)
  ∧ (∀ (s : State) (mf : Nat), s.hState = 3 → mf = s.get F.PLAN_SWITCH.SWITCH_MF → ∃ t, exec (.switchStart mf) s = .next t ∧ t.hState
      = 4 ∧ t.plan.running = s.plan.running ∧ t.plan.build = s.plan.build ∧ t.mem = s.mem)
  ∧ (∀ (s : State) (c : Carrier), s.hState = 4 → c ∈ s.rxToSwitch → ∃ t, exec (.rxSelectorSwitch c) s = .next t ∧ c ∈
      t.plan.rxSwitched ∧ t.hState = 4 ∧ c ∉ t.rxToSwitch ∧ t.rx.at c.other = s.rx.at c.other ∧ t.mem = s.mem)
  ∧ (∀ (s : State), s.hState = 4 → s.rxToSwitch = [] → ∃ t, exec (.switchDone) s = .next t ∧ t.hState = 0 ∧ t.plan.running = some
      (imgPlan s.plan.buf) ∧ t.plan.build = [] ∧ t.get F.PLAN_RUN_EPOCH.EPOCH = (imgPlan s.plan.buf).epoch ∧ t.get
      F.PLAN_FURROWS.RUNNING = (imgPlan s.plan.buf).furrowTotal % 256 ∧ t.get F.PLAN_FURROWS.BUILDING = 0 ∧ t.flag 0x02 6 = true ∧
      t.mode = s.mode ∧ t.mem = s.mem)

/-- O14. While HOLD_ACQ is 0, AGC_SETTLED, CD_SEARCH_COMPLETE, CLOCK_LOCKED, FREQ_STABLE, CMA_CONVERGED, PILOTS_FOUND and SNR_STABLE
complete in their source state and move the carrier to the state that Table 3.5 names. CLOCK_LOCKED, FREQ_STABLE, CMA_CONVERGED
and, in AUTO mode, AGC_SETTLED change nothing but STATE. CD_SEARCH_COMPLETE in AUTO mode applies the fine candidate of the highest
score around the coarse candidate of the highest score (cdBest); AGC_SETTLED in FIXED or TRACK mode applies CD_SET. PILOTS_FOUND
keeps the pilot position and locks the subcarriers' pilots. SNR_STABLE writes ACQ_TIME, saturating, and raises ACQ_DONE. Concludes
exec = next, on conditions on state and operands alone, with the own effect of: agcSettled, cdSearchComplete, clockLocked,
freqStable, cmaConverged, pilotsFound, snrStable. -/
def Obligations.ReceiveAcquisitionAdvances : Prop :=
  (∀ (s : State) (c : Carrier), s.on (F.FURROW_RX_CTRL.HOLD_ACQ c) = false → s.rxState c = 2 → s.get (F.FURROW_RX_CD_CTRL.MODE c) = 0
      → ∃ t, exec (.agcSettled c) s = .next t ∧ t = s.set (F.FURROW_RX_STATE.STATE c) 3)
  ∧ (∀ (s : State) (c : Carrier), s.on (F.FURROW_RX_CTRL.HOLD_ACQ c) = false → s.rxState c = 2 → s.get (F.FURROW_RX_CD_CTRL.MODE c) ≠
      0 → ∃ t, exec (.agcSettled c) s = .next t ∧ t.rxState c = 4 ∧ (t.rx.at c).cd.applied = s.getS (F.FURROW_RX_CD_SET.VALUE c) ∧
      s.keepsRegs t [R.FURROW_RX_STATE c] ∧ t.mem = s.mem)
  ∧ (∀ (s : State) (c : Carrier) (coarse fine : List Nat), s.on (F.FURROW_RX_CTRL.HOLD_ACQ c) = false → s.rxState c = 3 → s.get
      (F.FURROW_RX_CD_CTRL.MODE c) = 0 → ∃ t, exec (.cdSearchComplete c coarse fine) s = .next t ∧ t.rxState c = 4 ∧ (t.rx.at
      c).cd.applied = s.cdBest c coarse fine ∧ (t.rx.at c).fullSearch = false ∧ s.keepsRegs t [R.FURROW_RX_STATE c] ∧ t.mem = s.mem)
  ∧ (∀ (s : State) (c : Carrier), s.on (F.FURROW_RX_CTRL.HOLD_ACQ c) = false → s.rxState c = 4 → ∃ t, exec (.clockLocked c) s = .next
      t ∧ t = s.set (F.FURROW_RX_STATE.STATE c) 5)
  ∧ (∀ (s : State) (c : Carrier), s.on (F.FURROW_RX_CTRL.HOLD_ACQ c) = false → s.rxState c = 5 → ∃ t, exec (.freqStable c) s = .next t
      ∧ t = s.set (F.FURROW_RX_STATE.STATE c) 6)
  ∧ (∀ (s : State) (c : Carrier), s.on (F.FURROW_RX_CTRL.HOLD_ACQ c) = false → s.rxState c = 6 → ∃ t, exec (.cmaConverged c) s = .next
      t ∧ t = s.set (F.FURROW_RX_STATE.STATE c) 7)
  ∧ (∀ (s : State) (c : Carrier) (position : Nat), s.on (F.FURROW_RX_CTRL.HOLD_ACQ c) = false → s.rxState c = 7 → ∃ t, exec
      (.pilotsFound c position) s = .next t ∧ t.rxState c = 8 ∧ (t.rx.at c).pilotPos = some position ∧ (∀ k < min 16 (s.subCount c),
      t.on (F.FURROW_RX_SC_STATUS.PILOT_LOCK c k) = true) ∧ t.mem = s.mem)
  ∧ (∀ (s : State) (c : Carrier) (us : Nat), s.on (F.FURROW_RX_CTRL.HOLD_ACQ c) = false → s.rxState c = 8 → ∃ t, exec (.snrStable c
      us) s = .next t ∧ t.rxState c = 9 ∧ t.get (F.FURROW_RX_ACQ_TIME.VALUE c) = min (F.FURROW_RX_ACQ_TIME.VALUE c).top us ∧ t.flag
      0x04 (8 * c.idx) = true ∧ s.onlyRegs t [R.FURROW_RX_STATE c, R.FURROW_RX_ACQ_TIME c])

/-- O15. While HOLD_ACQ is 1, none of AGC_SETTLED, CD_SEARCH_COMPLETE, CLOCK_LOCKED, FREQ_STABLE, CMA_CONVERGED, PILOTS_FOUND and
SNR_STABLE, the events marked with a dagger in Table 3.5, changes anything. -/
def Obligations.HoldAcqStopsAcquisition : Prop :=
  (∀ (s : State) (c : Carrier), s.on (F.FURROW_RX_CTRL.HOLD_ACQ c) = true → ∃ t, exec (.agcSettled c) s = .next t ∧ t = s)
  ∧ (∀ (s : State) (c : Carrier) (coarse fine : List Nat), s.on (F.FURROW_RX_CTRL.HOLD_ACQ c) = true → ∃ t, exec (.cdSearchComplete c
      coarse fine) s = .next t ∧ t = s)
  ∧ (∀ (s : State) (c : Carrier), s.on (F.FURROW_RX_CTRL.HOLD_ACQ c) = true → ∃ t, exec (.clockLocked c) s = .next t ∧ t = s)
  ∧ (∀ (s : State) (c : Carrier), s.on (F.FURROW_RX_CTRL.HOLD_ACQ c) = true → ∃ t, exec (.freqStable c) s = .next t ∧ t = s)
  ∧ (∀ (s : State) (c : Carrier), s.on (F.FURROW_RX_CTRL.HOLD_ACQ c) = true → ∃ t, exec (.cmaConverged c) s = .next t ∧ t = s)
  ∧ (∀ (s : State) (c : Carrier) (position : Nat), s.on (F.FURROW_RX_CTRL.HOLD_ACQ c) = true → ∃ t, exec (.pilotsFound c position) s =
      .next t ∧ t = s)
  ∧ (∀ (s : State) (c : Carrier) (us : Nat), s.on (F.FURROW_RX_CTRL.HOLD_ACQ c) = true → ∃ t, exec (.snrStable c us) s = .next t ∧ t =
      s)

/-- O16. LOS_ASSERT where LOS is 0 sets LOS, raises RX_LOS and takes any state but IDLE to LOS, where the live taps are at the
identity, no subcarrier is locked or converged, the SNR estimate is not valid unless HOLD keeps it, and the applied CD value
stays. LOS_CLEAR of a chain in LOS clears LOS and goes on to AGC. RESTART from any state but IDLE goes to LOS with RETRIES at 0,
the live taps at the identity and the applied CD value kept. In TRACK a lost pilot goes back to EQ_BLIND and a lost clock to
CLOCK, with LOCK_LOST. A limit in AGC to EQ_TRAIN counts RETRIES, saturating, and goes to AGC when the new count is a multiple of
4, else in AUTO mode to CD_SEARCH with the CD value kept, and in FIXED or TRACK mode to CLOCK with CD_SET applied. RX_QUEUE_OVF
and CYCLE_SLIP of a turn other than 0 count and raise, a corrected slip without a raise. Concludes exec = next, on conditions on
state and operands alone, with the own effect of: losAssert, losClear, restart, pilotLockLost, clockLockLost, acqLimit,
rxQueueOvf, cycleSlip. -/
def Obligations.ReceiveLossesAndRestart : Prop :=
  (∀ (s : State) (c : Carrier) (k : Fin 16), s.on (F.LINE_RX_LOS_CFG.LOS c) = false → s.rxState c ≠ 0 → ∃ t, exec (.losAssert c) s =
      .next t ∧ t.on (F.LINE_RX_LOS_CFG.LOS c) = true ∧ t.on (F.FURROW_RX_SC_STATUS.PILOT_LOCK c k) = false ∧ t.on
      (F.FURROW_RX_SC_STATUS.CONVERGED c k) = false ∧ t.rxState c = 1 ∧ t.flag (8 + 2 * c.idx) 0 = true ∧ (t.rx.at c).cd.applied =
      (s.rx.at c).cd.applied ∧ (t.rx.at c).tapLive = List.replicate 16 [] ∧ (s.on (F.FURROW_RX_EST_CTRL.HOLD c) = false → t.on
      (F.FURROW_RX_SNR.VALID c) = false) ∧ t.mem = s.mem)
  ∧ (∀ (s : State) (c : Carrier), s.rxState c = 1 → ∃ t, exec (.losClear c) s = .next t ∧ t.on (F.LINE_RX_LOS_CFG.LOS c) = false ∧
      t.rxState c = 2)
  ∧ (∀ (s : State) (c : Carrier), s.on (F.LINE_RX_LOS_CFG.LOS c) = true → s.rxState c = 1 → s.on (F.PWR_WAKE_MAP.EN 7) = false → ∃ t,
      exec (.losClear c) s = .next t ∧ t.on (F.LINE_RX_LOS_CFG.LOS c) = false ∧ t.rxState c = 2 ∧ s.onlyRegs t [R.LINE_RX_LOS_CFG c,
      R.FURROW_RX_STATE c])
  ∧ (∀ (s : State) (path : Path) (c : Carrier), s.mayWrite path (R.FURROW_RX_CTRL c) → s.rxState c ≠ 0 → ∃ t, exec (.restart path c) s
      = .next t ∧ t.rxState c = 1 ∧ t.get (F.FURROW_RX_STATE.RETRIES c) = 0 ∧ (t.rx.at c).cd.applied = (s.rx.at c).cd.applied ∧
      (t.rx.at c).tapLive = List.replicate 16 [] ∧ t.mem = s.mem)
  ∧ (∀ (s : State) (c : Carrier) (sub : Fin 16), s.rxState c = 9 → ∃ t, exec (.pilotLockLost c sub) s = .next t ∧ t.rxState c = 6 ∧
      t.on (F.FURROW_RX_SC_STATUS.PILOT_LOCK c sub) = false ∧ t.flag 0x04 (1 + 8 * c.idx) = true ∧ t.rx = s.rx ∧ t.mem = s.mem)
  ∧ (∀ (s : State) (c : Carrier), s.rxState c = 9 → ∃ t, exec (.clockLockLost c) s = .next t ∧ t.rxState c = 4 ∧ t.flag 0x04 (1 + 8 *
      c.idx) = true ∧ t.rx = s.rx ∧ t.mem = s.mem)
  ∧ (∀ (s : State) (c : Carrier), 2 ≤ s.rxState c → s.rxState c ≤ 8 → (s.get (F.FURROW_RX_STATE.RETRIES c) + 1) % 4 = 0 → ∃ t, exec
      (.acqLimit c) s = .next t ∧ t.rxState c = 2 ∧ t.get (F.FURROW_RX_STATE.RETRIES c) = min (F.FURROW_RX_STATE.RETRIES c).top (s.get
      (F.FURROW_RX_STATE.RETRIES c) + 1) ∧ (t.rx.at c).fullSearch = true)
  ∧ (∀ (s : State) (c : Carrier), 2 ≤ s.rxState c → s.rxState c ≤ 8 → (s.get (F.FURROW_RX_STATE.RETRIES c) + 1) % 4 ≠ 0 → s.get
      (F.FURROW_RX_CD_CTRL.MODE c) = 0 → ∃ t, exec (.acqLimit c) s = .next t ∧ t.rxState c = 3 ∧ t.get (F.FURROW_RX_STATE.RETRIES c) =
      min (F.FURROW_RX_STATE.RETRIES c).top (s.get (F.FURROW_RX_STATE.RETRIES c) + 1) ∧ (t.rx.at c).cd.applied = (s.rx.at
      c).cd.applied)
  ∧ (∀ (s : State) (c : Carrier), 2 ≤ s.rxState c → s.rxState c ≤ 8 → (s.get (F.FURROW_RX_STATE.RETRIES c) + 1) % 4 ≠ 0 → s.get
      (F.FURROW_RX_CD_CTRL.MODE c) ≠ 0 → ∃ t, exec (.acqLimit c) s = .next t ∧ t.rxState c = 4 ∧ t.get (F.FURROW_RX_STATE.RETRIES c) =
      min (F.FURROW_RX_STATE.RETRIES c).top (s.get (F.FURROW_RX_STATE.RETRIES c) + 1) ∧ (t.rx.at c).cd.applied = s.getS
      (F.FURROW_RX_CD_SET.VALUE c))
  ∧ (∀ (s : State) (c : Carrier), ∃ t, exec (.rxQueueOvf c) s = .next t ∧ t.get (F.LINE_RX_QUEUE.OVERFLOWS c) = min
      (F.LINE_RX_QUEUE.OVERFLOWS c).top (s.get (F.LINE_RX_QUEUE.OVERFLOWS c) + 1) ∧ t.flag (8 + 2 * c.idx) 2 = true ∧ s.onlyRegs t
      [R.LINE_RX_QUEUE c])
  ∧ (∀ (s : State) (c : Carrier) (turn : Fin 4), turn ≠ 0 → ∃ t, exec (.cycleSlip c turn true) s = .next t ∧ t.get
      (F.FURROW_RX_SLIPS.UNRESOLVED c) = min (F.FURROW_RX_SLIPS.UNRESOLVED c).top (s.get (F.FURROW_RX_SLIPS.UNRESOLVED c) + 1) ∧
      t.flag 0x04 (4 + 8 * c.idx) = true ∧ s.onlyRegs t [R.FURROW_RX_SLIPS c])
  ∧ (∀ (s : State) (c : Carrier) (turn : Fin 4), turn ≠ 0 → ∃ t, exec (.cycleSlip c turn false) s = .next t ∧ t.get
      (F.FURROW_RX_SLIPS.CORRECTED c) = min (F.FURROW_RX_SLIPS.CORRECTED c).top (s.get (F.FURROW_RX_SLIPS.CORRECTED c) + 1) ∧
      s.onlyRegs t [R.FURROW_RX_SLIPS c])

/-- O17. A SWAP that reaches the register with none pending pends and leaves the banks alone: on the carrier, or in JOINT with PAIR on
both; one while a swap pends starts nothing. NLC_EXCHANGE of the requester clears SWAP_PENDING, toggles ACTIVE_BANK, exchanges the
term counts, counts SWAPS and raises NLC_SWAPPED, at both carriers for a paired swap; the words of neither bank change, so the
shadow holds the set that was active. For an unpaired swap that is no revert EVAL starts where REVERT_PCT is not 0, with the count
of the last 16 received multiframes (log 69). NLC_EVAL_END ends a comparison, and a swap back pends exactly where the count after
exceeds the count before by more than the percentage, a pair being judged on its sums and swapped back together. A shadow write
during a pending swap or a comparison is discarded and counted in WR_DROPPED; else it writes a word of the bank that is not
active, or SHADOW_TERMS up to 2,048. Concludes exec = next, on conditions on state and operands alone, with the own effect of:
swap, nlcExchange, nlcEvalEnd, nlcShadowWrite. -/
def Obligations.NonlinearBanksSwap : Prop :=
  (∀ (s : State) (path : Path) (c : Carrier) (pair : Bool), s.mayWrite path (R.FURROW_RX_NLC_CTRL c) → s.on
      (F.FURROW_RX_NLC_CTRL.SWAP_PENDING c) = false → pair = false ∨ s.mode ≠ 1 → ∃ t, exec (.swap path c pair) s = .next t ∧ t.on
      (F.FURROW_RX_NLC_CTRL.SWAP_PENDING c) = true ∧ t.get (F.FURROW_RX_NLC_CTRL.ACTIVE_BANK c) = s.get
      (F.FURROW_RX_NLC_CTRL.ACTIVE_BANK c) ∧ (t.rx.at c).bank0 = (s.rx.at c).bank0 ∧ (t.rx.at c).bank1 = (s.rx.at c).bank1 ∧
      s.keepsRegs t [R.FURROW_RX_NLC_CTRL c] ∧ t.mem = s.mem)
  ∧ (∀ (s : State) (path : Path) (c : Carrier) (a : Carrier), s.mayWrite path (R.FURROW_RX_NLC_CTRL c) → s.on
      (F.FURROW_RX_NLC_CTRL.SWAP_PENDING c) = false → s.mode = 1 → ∃ t, exec (.swap path c true) s = .next t ∧ t.on
      (F.FURROW_RX_NLC_CTRL.SWAP_PENDING a) = true ∧ (t.rx.at a).pair = true ∧ (t.rx.at c).owner = true ∧ (t.rx.at a).bank0 = (s.rx.at
      a).bank0 ∧ (t.rx.at a).bank1 = (s.rx.at a).bank1 ∧ s.keepsRegs t [R.FURROW_RX_NLC_CTRL .A, R.FURROW_RX_NLC_CTRL .B] ∧ t.mem =
      s.mem)
  ∧ (∀ (s : State) (path : Path) (c : Carrier) (pair : Bool), s.mayWrite path (R.FURROW_RX_NLC_CTRL c) → s.on
      (F.FURROW_RX_NLC_CTRL.SWAP_PENDING c) = true → ∃ t, exec (.swap path c pair) s = .next t ∧ t = s.setB (F.FURROW_RX_NLC_CTRL.PAIR
      c) pair)
  ∧ (∀ (s : State) (c : Carrier), s.on (F.FURROW_RX_NLC_CTRL.SWAP_PENDING c) = true → (s.rx.at c).owner = true → (s.rx.at c).pair =
      false → (s.rx.at c).reverting = false → ∃ t, exec (.nlcExchange c) s = .next t ∧ t.on (F.FURROW_RX_NLC_CTRL.SWAP_PENDING c) =
      false ∧ t.get (F.FURROW_RX_NLC_CTRL.ACTIVE_BANK c) = 1 - s.get (F.FURROW_RX_NLC_CTRL.ACTIVE_BANK c) ∧ t.get
      (F.FURROW_RX_NLC_TERMS.ACTIVE c) = s.get (F.FURROW_RX_NLC_TERMS.SHADOW c) ∧ t.get (F.FURROW_RX_NLC_TERMS.SHADOW c) = s.get
      (F.FURROW_RX_NLC_TERMS.ACTIVE c) ∧ (t.rx.at c).bank0 = (s.rx.at c).bank0 ∧ (t.rx.at c).bank1 = (s.rx.at c).bank1 ∧ t.get
      (F.FURROW_RX_NLC_STATUS.SWAPS c) = min (F.FURROW_RX_NLC_STATUS.SWAPS c).top (s.get (F.FURROW_RX_NLC_STATUS.SWAPS c) + 1) ∧
      t.flag 0x04 (2 + 8 * c.idx) = true ∧ t.on (F.FURROW_RX_NLC_CTRL.EVAL c) = decide (s.get (F.FURROW_RX_NLC_CTRL.REVERT_PCT c) ≠ 0)
      ∧ (s.get (F.FURROW_RX_NLC_CTRL.REVERT_PCT c) ≠ 0 → ((t.line.at c).evalBefore = (s.line.at c).corrHist.foldl (· + ·) 0 ∧ (t.rx.at
      c).evalPct = s.get (F.FURROW_RX_NLC_CTRL.REVERT_PCT c))) ∧ s.keepsRegs t [R.FURROW_RX_NLC_CTRL c.other, R.FURROW_RX_NLC_CTRL c,
      R.FURROW_RX_NLC_TERMS c, R.FURROW_RX_NLC_STATUS c])
  ∧ (∀ (s : State) (c : Carrier) (a : Carrier), s.on (F.FURROW_RX_NLC_CTRL.SWAP_PENDING c) = true → (s.rx.at c).owner = true →
      (s.rx.at c).pair = true → ∃ t, exec (.nlcExchange c) s = .next t ∧ t.on (F.FURROW_RX_NLC_CTRL.SWAP_PENDING a) = false ∧ t.get
      (F.FURROW_RX_NLC_CTRL.ACTIVE_BANK a) = 1 - s.get (F.FURROW_RX_NLC_CTRL.ACTIVE_BANK a) ∧ t.get (F.FURROW_RX_NLC_TERMS.ACTIVE a) =
      s.get (F.FURROW_RX_NLC_TERMS.SHADOW a) ∧ t.get (F.FURROW_RX_NLC_TERMS.SHADOW a) = s.get (F.FURROW_RX_NLC_TERMS.ACTIVE a) ∧
      (t.rx.at a).bank0 = (s.rx.at a).bank0 ∧ (t.rx.at a).bank1 = (s.rx.at a).bank1 ∧ t.get (F.FURROW_RX_NLC_STATUS.SWAPS a) = min
      (F.FURROW_RX_NLC_STATUS.SWAPS a).top (s.get (F.FURROW_RX_NLC_STATUS.SWAPS a) + 1) ∧ t.flag 0x04 (2 + 8 * a.idx) = true ∧ t.mem =
      s.mem)
  ∧ (∀ (s : State) (c : Carrier), s.on (F.FURROW_RX_NLC_CTRL.EVAL c) = true → (s.rx.at c).evalPair = false → s.on
      (F.FURROW_RX_NLC_CTRL.SWAP_PENDING c) = false → ∃ t, exec (.nlcEvalEnd c) s = .next t ∧ t.on (F.FURROW_RX_NLC_CTRL.EVAL c) =
      false ∧ t.on (F.FURROW_RX_NLC_CTRL.SWAP_PENDING c) = decide ((s.line.at c).evalBefore * (100 + (s.rx.at c).evalPct) < 100 *
      (s.line.at c).evalAfter) ∧ s.keepsRegs t [R.FURROW_RX_NLC_CTRL c] ∧ t.mem = s.mem)
  ∧ (∀ (s : State) (c : Carrier) (a : Carrier), s.on (F.FURROW_RX_NLC_CTRL.EVAL c) = true → (s.rx.at c).evalPair = true → s.on
      (F.FURROW_RX_NLC_CTRL.SWAP_PENDING c) = false → s.on (F.FURROW_RX_NLC_CTRL.SWAP_PENDING c.other) = false → ∃ t, exec
      (.nlcEvalEnd c) s = .next t ∧ t.on (F.FURROW_RX_NLC_CTRL.EVAL c) = false ∧ t.on (F.FURROW_RX_NLC_CTRL.SWAP_PENDING a) = decide
      (((s.line.at c).evalBefore + (s.line.at c.other).evalBefore) * (100 + (s.rx.at c).evalPct) < 100 * ((s.line.at c).evalAfter +
      (s.line.at c.other).evalAfter)) ∧ s.keepsRegs t [R.FURROW_RX_NLC_CTRL .A, R.FURROW_RX_NLC_CTRL .B] ∧ t.mem = s.mem)
  ∧ (∀ (s : State) (path : Path) (c : Carrier) (word : Option (Fin 4096)) (value : Word), s.mayWrite path (R.FURROW_RX_NLC_TERMS c) →
      (s.on (F.FURROW_RX_NLC_CTRL.SWAP_PENDING c) || s.on (F.FURROW_RX_NLC_CTRL.EVAL c)) = true → ∃ t, exec (.nlcShadowWrite path c
      word value) s = .next t ∧ t = s.bump (F.FURROW_RX_NLC_STATUS.WR_DROPPED c))
  ∧ (∀ (s : State) (path : Path) (c : Carrier) (w : Fin 4096) (value : Word), s.mayWrite path (R.FURROW_RX_NLC_TERMS c) → (s.on
      (F.FURROW_RX_NLC_CTRL.SWAP_PENDING c) || s.on (F.FURROW_RX_NLC_CTRL.EVAL c)) = false → ∃ t, exec (.nlcShadowWrite path c (some
      w) value) s = .next t ∧ Store.read (fun _ => 0) (t.nlcBank c false) w.val = value ∧ t.nlcBank c true = s.nlcBank c true ∧ t.regs
      = s.regs ∧ t.mem = s.mem)
  ∧ (∀ (s : State) (path : Path) (c : Carrier) (value : Word), s.mayWrite path (R.FURROW_RX_NLC_TERMS c) → (s.on
      (F.FURROW_RX_NLC_CTRL.SWAP_PENDING c) || s.on (F.FURROW_RX_NLC_CTRL.EVAL c)) = false → ∃ t, exec (.nlcShadowWrite path c none
      value) s = .next t ∧ t = s.set (F.FURROW_RX_NLC_TERMS.SHADOW c) (min 2048 (bitsOf value 11 0)))

/-- O18. TAP_SNAPSHOT and TAP_LOAD of a subcarrier the carrier has set BUSY and copy nothing yet; while BUSY a further command changes
nothing but its count; of another subcarrier they do nothing. At the frame boundary TAP_DONE clears BUSY and raises TAP_DONE: a
snapshot copies the live taps in use to the shadow, a load the shadow to the live taps. EST_INTERVAL_END publishes nothing while
HOLD is 1 or the chain is IDLE, and otherwise publishes: SNR and Q are VALID in TRACK where their formula has a value (Q where
measured), SNR shows its value, PDL, CD and the clock offset theirs (the last held by FREEZE); SEQ counts with wrap, EST_READY is
raised, and AVG_MF is taken for the next interval. RX_FRAME_PERIOD writes the four levels, counts and raises a clipped period, and
at the 16th dark period in a row sets LOS and goes to LOS. GROUP_CONVERGED records a group of the build. Concludes exec = next, on
conditions on state and operands alone, with the own effect of: tapSnapshot, tapLoad, tapDone, estIntervalEnd, rxFramePeriod,
groupConverged. -/
def Obligations.TapCommandsAndEstimates : Prop :=
  (∀ (s : State) (path : Path) (c : Carrier) (sub : Fin 16), s.mayWrite path (R.FURROW_RX_SC_TAP_CMD c sub) → sub.val < s.subCount c →
      s.on (F.FURROW_RX_SC_TAP_CMD.BUSY c sub) = false → ∃ t, exec (.tapSnapshot path c sub) s = .next t ∧ t.on
      (F.FURROW_RX_SC_TAP_CMD.BUSY c sub) = true ∧ (t.rx.at c).tapLive = (s.rx.at c).tapLive ∧ (t.rx.at c).tapShadow = (s.rx.at
      c).tapShadow ∧ s.keepsRegs t [R.FURROW_RX_SC_TAP_CMD c sub] ∧ t.mem = s.mem)
  ∧ (∀ (s : State) (path : Path) (c : Carrier) (sub : Fin 16), s.mayWrite path (R.FURROW_RX_SC_TAP_CMD c sub) → sub.val < s.subCount c
      → s.on (F.FURROW_RX_SC_TAP_CMD.BUSY c sub) = false → ∃ t, exec (.tapLoad path c sub) s = .next t ∧ t.on
      (F.FURROW_RX_SC_TAP_CMD.BUSY c sub) = true ∧ (t.rx.at c).tapLive = (s.rx.at c).tapLive ∧ (t.rx.at c).tapShadow = (s.rx.at
      c).tapShadow ∧ s.keepsRegs t [R.FURROW_RX_SC_TAP_CMD c sub] ∧ t.mem = s.mem)
  ∧ (∀ (s : State) (path : Path) (c : Carrier) (sub : Fin 16), s.mayWrite path (R.FURROW_RX_SC_TAP_CMD c sub) → sub.val < s.subCount c
      → s.on (F.FURROW_RX_SC_TAP_CMD.BUSY c sub) = true → ∃ t, exec (.tapSnapshot path c sub) s = .next t ∧ t = s.bump
      (F.FURROW_RX_SC_STATUS.CMD_IGNORED c sub))
  ∧ (∀ (s : State) (path : Path) (c : Carrier) (sub : Fin 16), s.mayWrite path (R.FURROW_RX_SC_TAP_CMD c sub) → sub.val < s.subCount c
      → s.on (F.FURROW_RX_SC_TAP_CMD.BUSY c sub) = true → ∃ t, exec (.tapLoad path c sub) s = .next t ∧ t = s.bump
      (F.FURROW_RX_SC_STATUS.CMD_IGNORED c sub))
  ∧ (∀ (s : State) (path : Path) (c : Carrier) (sub : Fin 16), s.mayWrite path (R.FURROW_RX_SC_TAP_CMD c sub) → s.subCount c ≤ sub.val
      → ∃ t, exec (.tapSnapshot path c sub) s = .next t ∧ t = s)
  ∧ (∀ (s : State) (path : Path) (c : Carrier) (sub : Fin 16), s.mayWrite path (R.FURROW_RX_SC_TAP_CMD c sub) → s.subCount c ≤ sub.val
      → ∃ t, exec (.tapLoad path c sub) s = .next t ∧ t = s)
  ∧ (∀ (s : State) (c : Carrier) (sub : Fin 16), s.on (F.FURROW_RX_SC_TAP_CMD.BUSY c sub) = true → (s.rx.at c).tapCmd.length = 16 →
      (s.rx.at c).tapShadow.length = 16 → (s.rx.at c).tapLive.length = 16 → nth (s.rx.at c).tapCmd sub none = some true → ∃ t, exec
      (.tapDone c sub) s = .next t ∧ t.on (F.FURROW_RX_SC_TAP_CMD.BUSY c sub) = false ∧ nth (t.rx.at c).tapLive sub [] = copyTaps (fun
      _ => 0) identityTap (s.get (F.FURROW_RX_SC_EQ_CTRL.TAPS c sub)) (nth (s.rx.at c).tapShadow sub []) ∧ t.flag 0x04 (6 + 8 * c.idx)
      = true ∧ s.keepsRegs t [R.FURROW_RX_SC_TAP_CMD c sub])
  ∧ (∀ (s : State) (c : Carrier) (sub : Fin 16), s.on (F.FURROW_RX_SC_TAP_CMD.BUSY c sub) = true → (s.rx.at c).tapCmd.length = 16 →
      (s.rx.at c).tapShadow.length = 16 → (s.rx.at c).tapLive.length = 16 → nth (s.rx.at c).tapCmd sub none = some false → ∃ t, exec
      (.tapDone c sub) s = .next t ∧ t.on (F.FURROW_RX_SC_TAP_CMD.BUSY c sub) = false ∧ nth (t.rx.at c).tapShadow sub [] = copyTaps
      identityTap (fun _ => 0) (s.get (F.FURROW_RX_SC_EQ_CTRL.TAPS c sub)) (nth (s.rx.at c).tapLive sub []) ∧ t.flag 0x04 (6 + 8 *
      c.idx) = true ∧ s.keepsRegs t [R.FURROW_RX_SC_TAP_CMD c sub])
  ∧ (∀ (s : State) (c : Carrier) (est : Estimates), s.on (F.FURROW_RX_EST_CTRL.HOLD c) = true ∨ s.rxState c = 0 → ∃ t, exec
      (.estIntervalEnd c est) s = .next t ∧ t.regs = s.regs ∧ t.sent = s.sent ∧ t.mem = s.mem)
  ∧ (∀ (s : State) (c : Carrier) (est : Estimates), s.on (F.FURROW_RX_EST_CTRL.HOLD c) = false → s.rxState c ≠ 0 → ∃ t, exec
      (.estIntervalEnd c est) s = .next t ∧ t.on (F.FURROW_RX_SNR.VALID c) = (decide (s.rxState c = 9) && (carrierSnr est (s.subCount
      c)).isSome) ∧ t.on (F.FURROW_RX_Q.VALID c) = (decide (s.rxState c = 9) && est.qMeasured && (qOf (s.get (F.FEC_BER.BER
      c))).isSome) ∧ (∀ n, carrierSnr est (s.subCount c) = some n → t.get (F.FURROW_RX_SNR.VALUE c) = n) ∧ t.get
      (F.FURROW_RX_PDL.VALUE c) = min 65535 est.pdl ∧ t.getS (F.FURROW_RX_CD_EST.VALUE c) = (s.rx.at c).cd.applied ∧ t.getS
      (F.FURROW_RX_CLK_OFFSET.VALUE c) = (if s.on (F.FURROW_RX_CLK_CTRL.FREEZE c) then s.getS (F.FURROW_RX_CLK_OFFSET.VALUE c) else
      clampI (-100000) 100000 est.clkOffset) ∧ t.get (F.FURROW_RX_EST_CTRL.SEQ c) = (s.get (F.FURROW_RX_EST_CTRL.SEQ c) + 1) %
      ((F.FURROW_RX_EST_CTRL.SEQ c).top + 1) ∧ t.flag 0x04 (7 + 8 * c.idx) = true ∧ (t.rx.at c).avgMf = s.get
      (F.FURROW_RX_EST_CTRL.AVG_MF c) ∧ t.mem = s.mem)
  ∧ (∀ (s : State) (c : Carrier) (rms : List Byte) (clips : List Nat) (singular : List (Fin 16)) (adapt : Adaptation), ∃ t, exec
      (.rxFramePeriod c rms clips singular adapt) s = .next t ∧ t.get (F.LINE_RX_LEVEL.XI_RMS c) = (nth rms 0 0).toNat ∧ t.get
      (F.LINE_RX_LEVEL.XQ_RMS c) = (nth rms 1 0).toNat ∧ t.get (F.LINE_RX_LEVEL.YI_RMS c) = (nth rms 2 0).toNat ∧ t.get
      (F.LINE_RX_LEVEL.YQ_RMS c) = (nth rms 3 0).toNat ∧ (frameClipped clips = true → t.get (F.LINE_RX_CLIP.CLIPPED c) = min
      (F.LINE_RX_CLIP.CLIPPED c).top (s.get (F.LINE_RX_CLIP.CLIPPED c) + 1) ∧ t.flag (8 + 2 * c.idx) 1 = true) ∧ t.mem = s.mem)
  ∧ (∀ (s : State) (c : Carrier) (rms : List Byte) (clips : List Nat) (singular : List (Fin 16)) (adapt : Adaptation), s.rxState c ≠ 0
      → s.on (F.LINE_RX_LOS_CFG.LOS c) = false → 15 ≤ (s.rx.at c).dark → (∀ k : Fin 4, (nth rms k 0).toNat + s.get
      (F.LINE_RX_LOS_CFG.HYST c) < s.get (F.LINE_RX_LOS_CFG.THRESH c)) → ∃ t, exec (.rxFramePeriod c rms clips singular adapt) s =
      .next t ∧ t.on (F.LINE_RX_LOS_CFG.LOS c) = true ∧ t.rxState c = 1 ∧ t.flag (8 + 2 * c.idx) 0 = true ∧ t.mem = s.mem)
  ∧ (∀ (s : State) (group : Fin 32) (b : Bound), s.plan.build.find? (fun b => b.group = group.val) = some b → ∃ t, exec
      (.groupConverged group) s = .next t ∧ group.val ∈ t.plan.converged ∧ t.plan.build = s.plan.build ∧ t.regs = s.regs ∧ t.mem =
      s.mem)

/-- O19. From ON or RAMP_UP a MUTE that reaches the register goes to RAMP_DOWN with MUTE at 1; from OFF or RAMP_DOWN it sets MUTE and
the state stays. From OFF or RAMP_DOWN an UNMUTE of a carrier that the plan has transmit goes to RAMP_UP where no cold apply or
shut-down holds it off; elsewhere it clears MUTE and the state stays. TX_RAMP_END goes from RAMP_UP to ON and from RAMP_DOWN to
OFF, where the DACs send code 0, and raises TX_RAMPED. TX_QUEUE_UNF sends code 0 for the missing block, counts and raises
TX_QUEUE_UNF. Concludes exec = next, on conditions on state and operands alone, with the own effect of: mute, unmute, txRampEnd,
txQueueUnf. -/
def Obligations.TransmitterStateFollowsR86 : Prop :=
  (∀ (s : State) (path : Path) (c : Carrier), s.mayWrite path (R.LINE_TX_CTRL c) → s.txState c = 2 ∨ s.txState c = 1 → ∃ t, exec
      (.mute path c) s = .next t ∧ t.txState c = 3 ∧ t.on (F.LINE_TX_CTRL.MUTE c) = true ∧ s.keepsRegs t [R.LINE_TX_CTRL c,
      R.HEADLAND_TX_STATUS, R.HEADLAND_TX_CTRL] ∧ t.mem = s.mem)
  ∧ (∀ (s : State) (path : Path) (c : Carrier), s.mayWrite path (R.LINE_TX_CTRL c) → s.txState c = 0 ∨ s.txState c = 3 → ∃ t, exec
      (.mute path c) s = .next t ∧ t = s.set (F.LINE_TX_CTRL.MUTE c) 1)
  ∧ (∀ (s : State) (path : Path) (c : Carrier), s.mayWrite path (R.LINE_TX_CTRL c) → (s.txState c = 1 ∨ s.txState c = 2) ∨ s.on
      (F.LINE_TX_CTRL.ENABLED c) = false ∨ s.bufState = 6 ∨ s.shut = true → ∃ t, exec (.unmute path c) s = .next t ∧ t = s.set
      (F.LINE_TX_CTRL.MUTE c) 0)
  ∧ (∀ (s : State) (path : Path) (c : Carrier), s.mayWrite path (R.LINE_TX_CTRL c) → s.txState c = 0 ∨ s.txState c = 3 → s.on
      (F.LINE_TX_CTRL.ENABLED c) = true → s.bufState ≠ 6 → s.shut = false → ∃ t, exec (.unmute path c) s = .next t ∧ t.txState c = 1 ∧
      t.on (F.LINE_TX_CTRL.MUTE c) = false ∧ s.onlyRegs t [R.LINE_TX_CTRL c])
  ∧ (∀ (s : State) (c : Carrier), s.txState c = 1 → ∃ t, exec (.txRampEnd c) s = .next t ∧ t.txState c = 2 ∧ (t.tx.at c).ramp =
      s.rampFull c ∧ t.flag (8 + 2 * c.idx) 17 = true ∧ s.keepsRegs t [R.LINE_TX_CTRL c] ∧ t.mem = s.mem)
  ∧ (∀ (s : State) (c : Carrier), s.txState c = 3 → ∃ t, exec (.txRampEnd c) s = .next t ∧ t.txState c = 0 ∧ (t.tx.at c).ramp = 0 ∧
      .dacZero c ∈ t.sent ∧ t.flag (8 + 2 * c.idx) 17 = true ∧ s.keepsRegs t [R.LINE_TX_CTRL c] ∧ t.mem = s.mem)
  ∧ (∀ (s : State) (c : Carrier), ∃ t, exec (.txQueueUnf c) s = .next t ∧ t.get (F.LINE_TX_QUEUE.UNDERFLOWS c) = min
      (F.LINE_TX_QUEUE.UNDERFLOWS c).top (s.get (F.LINE_TX_QUEUE.UNDERFLOWS c) + 1) ∧ .dacZero c ∈ t.sent ∧ t.flag (8 + 2 * c.idx) 16
      = true ∧ s.onlyRegs t [R.LINE_TX_QUEUE c])

/-- O20. RESP_LOAD waits with BUSY; while one waits another is discarded and counted in DROPPED. RESP_LOADED of a waiting LOAD copies
the 68 shadow words and BOOST into the active set, clears BUSY and raises RESP_LOADED. GRADUAL_CONTROL_STEP moves one value (a
subcarrier's power offset, a skew, an IQ value, the headland depth) by at most one step towards its target and leaves every other
as it was; that of a subcarrier the carrier has not does nothing. TX_FRAME_PERIOD counts a frame period in which more than 1 in
65,536 samples of a tributary clipped and raises TX_CLIP; MOD_INDEX, CLIP_RATIO, the bypasses, and a BOOST written while no LOAD
waits take effect. Concludes exec = next, on conditions on state and operands alone, with the own effect of: respLoad, respLoaded,
gradualControlStep, txFramePeriod. -/
def Obligations.ResponseSetAndGradualControls : Prop :=
  (∀ (s : State) (path : Path) (c : Carrier), s.mayWrite path (R.FURROW_TX_RESP c) → s.on (F.FURROW_TX_RESP.BUSY c) = false → ∃ t,
      exec (.respLoad path c) s = .next t ∧ t = s.set (F.FURROW_TX_RESP.BUSY c) 1)
  ∧ (∀ (s : State) (path : Path) (c : Carrier), s.mayWrite path (R.FURROW_TX_RESP c) → s.on (F.FURROW_TX_RESP.BUSY c) = true → ∃ t,
      exec (.respLoad path c) s = .next t ∧ t = s.bump (F.FURROW_TX_RESP.DROPPED c))
  ∧ (∀ (s : State) (c : Carrier), s.on (F.FURROW_TX_RESP.BUSY c) = true → ∃ t, exec (.respLoaded c) s = .next t ∧ (t.tx.at c).resp =
      (List.range 68).map (fun w => s.rd (R.FURROW_TX_RESP_SHADOW c w)) ∧ (t.tx.at c).boost = s.get (F.FURROW_TX_RESP.BOOST c) ∧ t.on
      (F.FURROW_TX_RESP.BUSY c) = false ∧ t.flag 0x04 (19 + 8 * c.idx) = true ∧ (nth s.cal.target (4 + c.idx) none = none →
      s.keepsRegs t [R.FURROW_TX_RESP c]) ∧ t.mem = s.mem)
  ∧ (∀ (s : State) (c : Carrier) (sub : Fin 16), sub.val < s.subCount c → ∃ t, exec (.gradualControlStep c (.power sub)) s = .next t ∧
      t.getS (F.FURROW_TX_SC_POWER.APPLIED c sub) = stepTowards 1 (s.getS (F.FURROW_TX_SC_POWER.APPLIED c sub)) (s.getS
      (F.FURROW_TX_SC_POWER.OFFSET c sub)) ∧ s.onlyRegs t [R.FURROW_TX_SC_POWER c sub])
  ∧ (∀ (s : State) (c : Carrier) (sub : Fin 16), s.subCount c ≤ sub.val → (s.settled c) = true → ∃ t, exec (.gradualControlStep c
      (.power sub)) s = .next t ∧ t = s)
  ∧ (∀ (s : State) (c : Carrier) (k : Fin 4), (s.tx.at c).skew.length = 4 → ∃ t, exec (.gradualControlStep c (.skew k)) s = .next t ∧
      nth (t.tx.at c).skew k 0 = stepTowards 1 (nth (s.tx.at c).skew k 0) (nth (s.skewTargets c) k 0) ∧ (t.tx = s.tx.upd c fun x => {
      x with skew := (t.tx.at c).skew }) ∧ (∀ j : Fin 4, j ≠ k → nth (t.tx.at c).skew j 0 = nth (s.tx.at c).skew j 0) ∧ s.keepsRegs t
      [] ∧ t.mem = s.mem)
  ∧ (∀ (s : State) (c : Carrier) (k : Fin 4), (s.tx.at c).iq.length = 4 → ∃ t, exec (.gradualControlStep c (.iq k)) s = .next t ∧ nth
      (t.tx.at c).iq k 0 = stepTowards 1 (nth (s.tx.at c).iq k 0) (nth (s.iqTargets c) k 0) ∧ (t.tx = s.tx.upd c fun x => { x with iq
      := (t.tx.at c).iq }) ∧ (∀ j : Fin 4, j ≠ k → nth (t.tx.at c).iq j 0 = nth (s.tx.at c).iq j 0) ∧ s.keepsRegs t [] ∧ t.mem =
      s.mem)
  ∧ (∀ (s : State) (c : Carrier), ∃ t, exec (.gradualControlStep c .depth) s = .next t ∧ (t.get (F.FURROW_TX_HL.APPLIED c) : Int) =
      stepTowards 1 (s.get (F.FURROW_TX_HL.APPLIED c)) (s.depthTarget c) ∧ s.onlyRegs t [R.FURROW_TX_HL c])
  ∧ (∀ (s : State) (c : Carrier) (clips : List Nat), frameClipped clips = true → ∃ t, exec (.txFramePeriod c clips) s = .next t ∧
      t.get (F.FURROW_TX_CLIP.CLIPPED c) = min (F.FURROW_TX_CLIP.CLIPPED c).top (s.get (F.FURROW_TX_CLIP.CLIPPED c) + 1) ∧ t.flag 0x04
      (20 + 8 * c.idx) = true ∧ (t.tx.at c).clipRatio = s.get (F.FURROW_TX_MOD.CLIP_RATIO c) ∧ s.keepsRegs t [R.FURROW_TX_CLIP c] ∧
      t.mem = s.mem)
  ∧ (∀ (s : State) (c : Carrier) (clips : List Nat), s.on (F.FURROW_TX_RESP.BUSY c) = false → frameClipped clips = false → ∃ t, exec
      (.txFramePeriod c clips) s = .next t ∧ (t.tx.at c).boost = s.get (F.FURROW_TX_RESP.BOOST c) ∧ (t.tx.at c).modIndex = s.get
      (F.FURROW_TX_MOD.MOD_INDEX c) ∧ (t.tx.at c).pdBypass = s.on (F.FURROW_TX_CTRL.PD_BYPASS c) ∧ (t.tx.at c).respBypass = s.on
      (F.FURROW_TX_CTRL.RESP_BYPASS c) ∧ (t.tx.at c).resp = (s.tx.at c).resp ∧ t.regs = s.regs ∧ t.mem = s.mem)

/-- O21. Over the Plough alias with no step armed ENTROPY_TARGET_WRITE stores TARGET clamped to the range and then to MAX_STEP of
CURRENT, and leaves CURRENT; while a step is armed, and over any other path, it is discarded and counted in DROPPED; in a window
above the subcarrier count it is ignored. STEP_ARM over another path than the alias is discarded and counted in DROPPED. Over the
alias with no step armed it takes the first failing check of Table 4.4 as REASON, counts REFUSED and raises STEP_REFUSED, or arms
and raises STEP_ARMED where none fails; while a step is armed it is discarded and counted in DROPPED and REASON is not written.
STEP_CANCEL is counted in DROPPED and changes nothing else. At the multiframe STEP_MF ENTROPY_STEP gives every subcarrier CURRENT
= TARGET, disarms, counts DONE and raises STEP_DONE. Concludes exec = next, on conditions on state and operands alone, with the
own effect of: entropyTargetWrite, stepArm, stepCancel, entropyStep. -/
def Obligations.EntropyStepsStagedAndArmed : Prop :=
  (∀ (s : State) (c : Carrier) (sub : Fin 16) (target : Nat), s.isDown (R.FURROW_TX_SC_ENTROPY c sub) = false → sub.val < s.subCount c
      → s.stepArmed c = false → ∃ t, exec (.entropyTargetWrite .plough c sub target) s = .next t ∧ t.get
      (F.FURROW_TX_SC_ENTROPY.TARGET c sub) = s.clampTarget c sub target % 256 ∧ t.get (F.FURROW_TX_SC_ENTROPY.CURRENT c sub) = s.get
      (F.FURROW_TX_SC_ENTROPY.CURRENT c sub) ∧ t.tx = s.tx ∧ t.mem = s.mem)
  ∧ (∀ (s : State) (c : Carrier) (sub : Fin 16) (target : Nat) (path : Path), s.isDown (R.FURROW_TX_SC_ENTROPY c sub) = false →
      sub.val < s.subCount c → path ≠ .plough → ∃ t, exec (.entropyTargetWrite path c sub target) s = .next t ∧ t = s.bump
      (F.FURROW_TX_STEP_STATUS.DROPPED c))
  ∧ (∀ (s : State) (c : Carrier) (sub : Fin 16) (target : Nat) (path : Path), s.isDown (R.FURROW_TX_SC_ENTROPY c sub) = false →
      s.subCount c ≤ sub.val → ∃ t, exec (.entropyTargetWrite path c sub target) s = .next t ∧ t = s)
  ∧ (∀ (s : State) (c : Carrier) (sub : Fin 16) (target : Nat), s.isDown (R.FURROW_TX_SC_ENTROPY c sub) = false → sub.val < s.subCount
      c → s.stepArmed c = true → ∃ t, exec (.entropyTargetWrite .plough c sub target) s = .next t ∧ t = s.bump
      (F.FURROW_TX_STEP_STATUS.DROPPED c))
  ∧ (∀ (s : State) (c : Carrier) (mf : Nat) (path : Path), s.isDown (R.FURROW_TX_STEP c) = false → path ≠ .plough → ∃ t, exec
      (.stepArm path c mf) s = .next t ∧ t = s.bump (F.FURROW_TX_STEP_STATUS.DROPPED c))
  ∧ (∀ (s : State) (c : Carrier) (mf : Nat), s.isDown (R.FURROW_TX_STEP c) = false → s.stepArmed c = true → ∃ t, exec (.stepArm
      .plough c mf) s = .next t ∧ t = s.bump (F.FURROW_TX_STEP_STATUS.DROPPED c))
  ∧ (∀ (s : State) (c : Carrier) (mf : Nat), s.isDown (R.FURROW_TX_STEP c) = false → s.stepArmed c = false → s.armReason c (mf % 2 ^
      24) ≠ 0 → ∃ t, exec (.stepArm .plough c mf) s = .next t ∧ t.get (F.FURROW_TX_STEP.REASON c) = s.armReason c (mf % 2 ^ 24) ∧
      t.stepArmed c = false ∧ t.get (F.FURROW_TX_STEP_STATUS.REFUSED c) = min (F.FURROW_TX_STEP_STATUS.REFUSED c).top (s.get
      (F.FURROW_TX_STEP_STATUS.REFUSED c) + 1) ∧ t.flag 0x04 (18 + 8 * c.idx) = true ∧ s.onlyRegs t [R.FURROW_TX_STEP c,
      R.FURROW_TX_STEP_STATUS c])
  ∧ (∀ (s : State) (c : Carrier) (mf : Nat), s.isDown (R.FURROW_TX_STEP c) = false → s.stepArmed c = false → s.armReason c (mf % 2 ^
      24) = 0 → ∃ t, exec (.stepArm .plough c mf) s = .next t ∧ t.stepArmed c = true ∧ t.get (F.FURROW_TX_STEP.STEP_MF c) = mf % 2 ^
      24 ∧ t.flag 0x04 (16 + 8 * c.idx) = true ∧ s.onlyRegs t [R.FURROW_TX_STEP c])
  ∧ (∀ (s : State) (c : Carrier) (path : Path), s.isDown (R.FURROW_TX_STEP c) = false → ∃ t, exec (.stepCancel path c) s = .next t ∧ t
      = s.bump (F.FURROW_TX_STEP_STATUS.DROPPED c))
  ∧ (∀ (s : State) (c : Carrier), s.stepArmed c = true → s.subCount c ≤ 16 → s.txMf c = s.get (F.FURROW_TX_STEP.STEP_MF c) → ∃ t, exec
      (.entropyStep c) s = .next t ∧ t.stepArmed c = false ∧ (∀ k < s.subCount c, t.get (F.FURROW_TX_SC_ENTROPY.CURRENT c k) = s.get
      (F.FURROW_TX_SC_ENTROPY.TARGET c k)) ∧ t.get (F.FURROW_TX_STEP_STATUS.DONE c) = min (F.FURROW_TX_STEP_STATUS.DONE c).top (s.get
      (F.FURROW_TX_STEP_STATUS.DONE c) + 1) ∧ t.flag 0x04 (17 + 8 * c.idx) = true ∧ t.mem = s.mem)

/-- O22. While the carrier hunts (EQ_TRAIN or TRACK), a FAW match (at most FAW_TOL sign bits off: fawMatches) in OOF goes to PRE and
expects the next FAW one frame of positions later; in PRE a match at the expected position counts, and the one that makes HITS
goes to IF and raises FRAME_LOCK; in IF it clears the misses. Matches elsewhere, too few sign bits, and matches while the carrier
does not hunt, change nothing. A miss in PRE goes back to OOF; in IF it counts FAW_MISSES and expects the next frame until MISS
misses in a row, which go to OOF with FRAME_LOST and no multiframe lock (the last of them counts too: log 72); in OOF it changes
nothing. RESYNC goes to OOF with no multiframe lock and FEC not aligned. Concludes exec = next, on conditions on state and
operands alone, with the own effect of: fawMatch, fawMiss, resync. -/
def Obligations.FrameAlignmentFollowsTable53 : Prop :=
  (∀ (s : State) (c : Carrier) (pos : Nat) (signs : List Byte), s.fawMatches c signs = true → s.hunts c = true → s.alignState c = 0 →
      ∃ t, exec (.fawMatch c pos signs) s = .next t ∧ t.alignState c = 1 ∧ (t.line.at c).expected = pos + framePositions ∧ (t.line.at
      c).hits = 1 ∧ s.keepsRegs t [R.LINK_ALIGN_STATUS c] ∧ t.mem = s.mem)
  ∧ (∀ (s : State) (c : Carrier) (pos : Nat) (signs : List Byte), s.fawMatches c signs = true → s.hunts c = true → s.alignState c = 1
      → pos = (s.line.at c).expected → (s.line.at c).hits + 1 < s.get (F.LINK_ALIGN_CFG.HITS c) → ∃ t, exec (.fawMatch c pos signs) s
      = .next t ∧ t.alignState c = 1 ∧ (t.line.at c).hits = (s.line.at c).hits + 1 ∧ (t.line.at c).expected = pos + framePositions ∧
      t.regs = s.regs)
  ∧ (∀ (s : State) (c : Carrier) (pos : Nat) (signs : List Byte), s.fawMatches c signs = true → s.hunts c = true → s.alignState c = 1
      → pos = (s.line.at c).expected → s.get (F.LINK_ALIGN_CFG.HITS c) ≤ (s.line.at c).hits + 1 → ∃ t, exec (.fawMatch c pos signs) s
      = .next t ∧ t.alignState c = 2 ∧ (t.line.at c).expected = pos + framePositions ∧ t.flag 0x0E (8 * c.idx) = true ∧ s.keepsRegs t
      [R.LINK_ALIGN_STATUS c] ∧ t.mem = s.mem)
  ∧ (∀ (s : State) (c : Carrier) (pos : Nat) (signs : List Byte), s.fawMatches c signs = true → s.hunts c = true → s.alignState c = 2
      → pos = (s.line.at c).expected → ∃ t, exec (.fawMatch c pos signs) s = .next t ∧ t.alignState c = 2 ∧ (t.line.at c).misses = 0 ∧
      (t.line.at c).expected = pos + framePositions ∧ t.regs = s.regs)
  ∧ (∀ (s : State) (c : Carrier) (pos : Nat) (signs : List Byte), s.fawMatches c signs = false ∨ s.hunts c = false ∨ (s.alignState c ≠
      0 ∧ pos ≠ (s.line.at c).expected) → ∃ t, exec (.fawMatch c pos signs) s = .next t ∧ t = s)
  ∧ (∀ (s : State) (c : Carrier) (signs : List Byte), s.fawMatches c signs = false → s.alignState c = 1 → ∃ t, exec (.fawMiss c signs)
      s = .next t ∧ t.alignState c = 0 ∧ (t.line.at c).hits = 0 ∧ s.keepsRegs t [R.LINK_ALIGN_STATUS c])
  ∧ (∀ (s : State) (c : Carrier) (signs : List Byte), s.fawMatches c signs = false → s.alignState c = 2 → (s.line.at c).misses + 1 <
      s.get (F.LINK_ALIGN_CFG.MISS c) → ∃ t, exec (.fawMiss c signs) s = .next t ∧ t.alignState c = 2 ∧ t.get
      (F.LINK_OH_COUNT.FAW_MISSES c) = min (F.LINK_OH_COUNT.FAW_MISSES c).top (s.get (F.LINK_OH_COUNT.FAW_MISSES c) + 1) ∧ (t.line.at
      c).misses = (s.line.at c).misses + 1 ∧ (t.line.at c).expected = (s.line.at c).expected + framePositions ∧ s.keepsRegs t
      [R.LINK_OH_COUNT c])
  ∧ (∀ (s : State) (c : Carrier) (signs : List Byte), s.fawMatches c signs = false → s.alignState c = 2 → s.get (F.LINK_ALIGN_CFG.MISS
      c) ≤ (s.line.at c).misses + 1 → ∃ t, exec (.fawMiss c signs) s = .next t ∧ t.alignState c = 0 ∧ t.mfLocked c = false ∧ t.get
      (F.LINK_OH_COUNT.FAW_MISSES c) = min (F.LINK_OH_COUNT.FAW_MISSES c).top (s.get (F.LINK_OH_COUNT.FAW_MISSES c) + 1) ∧ t.flag 0x0E
      (1 + 8 * c.idx) = true ∧ (t.line.at c).counting = false ∧ t.mem = s.mem)
  ∧ (∀ (s : State) (c : Carrier) (signs : List Byte), s.fawMatches c signs = true ∨ (s.alignState c ≠ 1 ∧ s.alignState c ≠ 2) → ∃ t,
      exec (.fawMiss c signs) s = .next t ∧ t = s)
  ∧ (∀ (s : State) (path : Path) (c : Carrier), s.mayWrite path (R.LINK_ALIGN_CFG c) → ∃ t, exec (.resync path c) s = .next t ∧
      t.alignState c = 0 ∧ t.mfLocked c = false ∧ t.on (F.FEC_STATUS.ALIGNED c) = false ∧ (t.line.at c).counting = false ∧ t.mem =
      s.mem)

/-- O23. LINE_FRAME_SEND of an enabled carrier sends one overhead and numbers the frame, one more than the last unless a multiframe
has just begun. TX_MULTIFRAME_START after the first starts the number of R112: one more without a SLIP, two with SLIP 1, the same
with SLIP 2, the received number with SLIP 3; W of the multiframe that ends is shown. ADOPT by the adopter, with frame version 2
agreed, marks SLIP 3. An overhead in frame that does not decode counts OH_UNCORR, clears OH_GOOD and drops the message in
assembly; one that decodes adds its corrected bytes and sets OH_GOOD; out of frame neither has an effect. A cell without VALID
changes nothing; a cell that starts a message and does not end it, with room in the queue, begins the assembly with its bytes.
Every block that the encoder of R105 makes, over any chain of information bits, satisfies every check of R104. Concludes exec =
next, on conditions on state and operands alone, with the own effect of: lineFrameSend, txMultiframeStart, adopt,
overheadReceived, mccCellReceived. -/
def Obligations.FramesNumbersAndCells : Prop :=
  (∀ (s : State) (c : Carrier), s.on (F.LINE_TX_CTRL.ENABLED c) = true → ∃ t, exec (.lineFrameSend c) s = .next t ∧ t.get
      (F.LINK_TX_FRAME.VALUE c) = (if (s.line.at c).fresh then s.get (F.LINK_TX_FRAME.VALUE c) else (s.get (F.LINK_TX_FRAME.VALUE c) +
      1) % 2 ^ 32) ∧ (t.line.at c).fresh = false ∧ (t.line.at c).frames = (s.line.at c).frames + 1 ∧ t.sent.length = s.sent.length + 1
      ∧ s.keepsRegs t [R.LINK_TX_FRAME c, R.LINK_DEFECTS c] ∧ t.mem = s.mem)
  ∧ (∀ (s : State) (c : Carrier), (s.line.at c).started = true → ∃ t, exec (.txMultiframeStart c) s = .next t ∧ t.txMf c = (match
      (s.line.at c).slip with | 1 => (s.txMf c + 2) % 2 ^ 24 | 2 => s.txMf c | 3 => s.rxMf c | _ => (s.txMf c + 1) % 2 ^ 24) ∧ t.get
      (F.LINK_MF_WORDS.W c) = min (F.LINK_MF_WORDS.W c).top (s.mfWords c) ∧ (t.line.at c).fresh = true)
  ∧ (∀ (s : State) (path : Path) (c : Carrier), s.mayWrite path (R.LINK_NUMBERING c) → s.get (F.LINK_NUMBERING.ROLE c) = 2 → 2 ≤ s.get
      (F.LINK_STATE.FRAME_MAJOR c) → ∃ t, exec (.adopt path c) s = .next t ∧ (t.line.at c).slip = 3 ∧ (t.line.at c).adopted = false ∧
      t.mem = s.mem)
  ∧ (∀ (s : State) (c : Carrier) (bytes : List Byte), s.alignState c = 2 → overheadDecode bytes = none → ∃ t, exec (.overheadReceived
      c bytes) s = .next t ∧ t.on (F.LINK_ALIGN_STATUS.OH_GOOD c) = false ∧ t.get (F.LINK_OH_COUNT.OH_UNCORR c) = min
      (F.LINK_OH_COUNT.OH_UNCORR c).top (s.get (F.LINK_OH_COUNT.OH_UNCORR c) + 1) ∧ (t.line.at c).asm = none ∧ t.mem = s.mem)
  ∧ (∀ (s : State) (c : Carrier) (n : Nat) (bytes info : List Byte), s.alignState c = 2 → overheadDecode bytes = some (info, n) → ∃ t,
      exec (.overheadReceived c bytes) s = .next t ∧ t.on (F.LINK_ALIGN_STATUS.OH_GOOD c) = true ∧ t.get (F.LINK_OH_CORR.BYTES c) =
      min (F.LINK_OH_CORR.BYTES c).top (s.get (F.LINK_OH_CORR.BYTES c) + n))
  ∧ (∀ (s : State) (c : Carrier) (bytes : List Byte), s.alignState c ≠ 2 → ∃ t, exec (.overheadReceived c bytes) s = .next t ∧ t = s)
  ∧ (∀ (s : State) (c : Carrier) (cell : List Byte), (nth cell 0 0).toNat < 0x80 → ∃ t, exec (.mccCellReceived c cell) s = .next t ∧ t
      = s)
  ∧ (∀ (s : State) (c : Carrier) (cell : List Byte), (nth cell 0 0).toNat = 0xC0 → 1 ≤ (nth cell 2 0).toNat → (nth cell 2 0).toNat ≤
      28 → cellsHeld (s.line.at c).rxMsgs < 64 → (s.line.at c).asm = none → (s.line.at c).rxSeq = none → ∃ t, exec (.mccCellReceived c
      cell) s = .next t ∧ (t.line.at c).asm = some (slice cell 4 (nth cell 2 0).toNat) ∧ (t.line.at c).rxSeq = some (nth cell 1
      0).toNat ∧ t.regs = s.regs ∧ t.mem = s.mem)
  ∧ (∀ (code t r z : Nat) (info : Chain), r < parityGroups code → z < groupBits → checkBit code (encodeBlock code info) t r z = false)

/-- O24. While the decoder counters run, FEC_BLOCK_DECODED adds the block to them: uncorrectable where its syndrome never reached
zero, at the iteration limit in that case or in the last engine; errored frames count always. FEC_SNAPSHOT pends, and one while a
snapshot pends changes nothing; FEC_SNAPSHOT_COPY copies the four counters, with what they count in its cycle, into their
registers, starts them anew where CLEAR was asked, and raises SNAP_DONE. RX_MULTIFRAME_END writes BER from the corrected bits of
the multiframe and starts the count anew. RX_STEP_ARM over the alias with none armed arms the receive step at M; over other paths,
and while one is armed, it is discarded and counted. RX_STEP_SWITCH of an armed step disarms (and clears MATCHED: log 72), and the
captured targets take effect where the step matched. RX_STEP_DEADLINE of an armed step at most 8 multiframes ahead without its
announcement raises SW_MISMATCH. ENGINE_RESIDUE_FAIL outside self-test marks the engine failed and no longer active. Concludes
exec = next, on conditions on state and operands alone, with the own effect of: fecBlockDecoded, fecSnapshot, fecSnapshotCopy,
rxMultiframeEnd, rxStepArm, rxStepDeadline, rxStepSwitch, engineResidueFail. -/
def Obligations.DecoderCountersAndReceiveSteps : Prop :=
  (∀ (s : State) (c : Carrier) (n later : Nat) (reached : Option (Fin 13)), (s.line.at c).counting = true → (s.line.at c).live.length
      = 4 → ∃ t, exec (.fecBlockDecoded c n later reached) s = .next t ∧ nth (t.line.at c).live 0 {} = (nth (s.line.at c).live 0
      {}).add n ∧ nth (t.line.at c).live 1 {} = (nth (s.line.at c).live 1 {}).add 1 ∧ nth (t.line.at c).live 2 {} = (nth (s.line.at
      c).live 2 {}).add (if reached.isNone then 1 else 0) ∧ nth (t.line.at c).live 3 {} = (nth (s.line.at c).live 3 {}).add (if
      reached.all (fun k => s.get (F.FEC_CFG.ENGINES c) ≤ k.val) then 1 else 0) ∧ t.get (F.LINK_ERR_FRAMES.FRAMES c) = min
      (F.LINK_ERR_FRAMES.FRAMES c).top (s.get (F.LINK_ERR_FRAMES.FRAMES c) + ((s.line.at c).afterBlock (s.runSubs c)
      reached.isNone).2) ∧ (t.line.at c).corrMf = (s.line.at c).corrMf + n ∧ s.keepsRegs t [R.LINK_ERR_FRAMES c] ∧ t.mem = s.mem)
  ∧ (∀ (s : State) (c : Carrier) (n later : Nat) (reached : Option (Fin 13)), (s.line.at c).counting = false → ∃ t, exec
      (.fecBlockDecoded c n later reached) s = .next t ∧ t.get (F.LINK_ERR_FRAMES.FRAMES c) = min (F.LINK_ERR_FRAMES.FRAMES c).top
      (s.get (F.LINK_ERR_FRAMES.FRAMES c) + ((s.line.at c).afterBlock (s.runSubs c) reached.isNone).2) ∧ (t.line.at c).live =
      (s.line.at c).live ∧ s.keepsRegs t [R.LINK_ERR_FRAMES c] ∧ t.mem = s.mem)
  ∧ (∀ (s : State) (path : Path) (c : Carrier) (clear : Bool), s.mayWrite path (R.FEC_CTRL c) → (s.line.at c).snap = none → ∃ t, exec
      (.fecSnapshot path c clear) s = .next t ∧ (t.line.at c).snap = some clear ∧ (t.line.at c).live = (s.line.at c).live ∧ t.regs =
      s.regs ∧ t.mem = s.mem)
  ∧ (∀ (s : State) (path : Path) (c : Carrier) (clear : Bool), s.mayWrite path (R.FEC_CTRL c) → (s.line.at c).snap.isSome = true → ∃
      t, exec (.fecSnapshot path c clear) s = .next t ∧ (t.line.at c).snap = (s.line.at c).snap ∧ t.regs = s.regs ∧ t.mem = s.mem)
  ∧ (∀ (s : State) (c : Carrier) (clear : Bool) (now : List Nat), (s.line.at c).snap = some clear → (s.line.at c).live.length = 4 → ∃
      t, exec (.fecSnapshotCopy c now) s = .next t ∧ t.get (F.FEC_CORR_BITS_LO.VALUE c) = ((nth (s.line.at c).live 0 {}).add (nth now
      0 0)).value % 2 ^ 32 ∧ t.get (F.FEC_BLOCKS_LO.VALUE c) = ((nth (s.line.at c).live 1 {}).add (nth now 1 0)).value % 2 ^ 32 ∧
      t.get (F.FEC_UNCORR_LO.VALUE c) = ((nth (s.line.at c).live 2 {}).add (nth now 2 0)).value % 2 ^ 32 ∧ t.get
      (F.FEC_ITER_LIMIT_LO.VALUE c) = ((nth (s.line.at c).live 3 {}).add (nth now 3 0)).value % 2 ^ 32 ∧ (t.line.at c).live = snapped
      clear (counted now (s.line.at c).live) ∧ (t.line.at c).snap = none ∧ t.flag 0x0C (5 + 8 * c.idx) = true ∧ t.mem = s.mem)
  ∧ (∀ (s : State) (c : Carrier) (bits : Nat) (words : List (BitVec 128)), (s.line.at c).counting = true → bits ≠ 0 → ∃ t, exec
      (.rxMultiframeEnd c bits words) s = .next t ∧ t.get (F.FEC_BER.BER c) = min (F.FEC_BER.BER c).top (roundHalfDown ((s.line.at
      c).corrMf * 2 ^ 32 : Nat) bits).toNat ∧ t.on (F.FEC_STATUS.UNC_MF c) = (s.line.at c).uncMf ∧ (t.line.at c).corrMf = 0 ∧
      (t.line.at c).uncMf = false)
  ∧ (∀ (s : State) (c : Carrier) (mf : Nat), s.isDown (R.LINK_RX_STEP c) = false → s.on (F.LINK_RX_STEP.ARMED c) = false → ∃ t, exec
      (.rxStepArm .plough c mf) s = .next t ∧ t.on (F.LINK_RX_STEP.ARMED c) = true ∧ t.get (F.LINK_RX_STEP.MF c) = mf % 2 ^ 24 ∧ t.on
      (F.LINK_RX_STEP.MATCHED c) = decide ((s.line.at c).annM = some (mf % 2 ^ 24)) ∧ s.onlyRegs t [R.LINK_RX_STEP c])
  ∧ (∀ (s : State) (path : Path) (c : Carrier) (mf : Nat), s.isDown (R.LINK_RX_STEP c) = false → path ≠ .plough ∨ s.on
      (F.LINK_RX_STEP.ARMED c) = true → ∃ t, exec (.rxStepArm path c mf) s = .next t ∧ t = s.bump (F.FURROW_TX_STEP_STATUS.DROPPED c))
  ∧ (∀ (s : State) (c : Carrier), s.on (F.LINK_RX_STEP.ARMED c) = true → s.on (F.LINK_RX_STEP.MATCHED c) = false → mfAhead (s.get
      (F.LINK_RX_STEP.MF c)) (s.rxMf c) ≤ 8 → ∃ t, exec (.rxStepDeadline c) s = .next t ∧ t.flag 0x0E (6 + 8 * c.idx) = true ∧
      s.onlyRegs t [])
  ∧ (∀ (s : State) (c : Carrier), s.on (F.LINK_RX_STEP.ARMED c) = true → ∃ t, exec (.rxStepSwitch c) s = .next t ∧ t.on
      (F.LINK_RX_STEP.ARMED c) = false ∧ t.on (F.LINK_RX_STEP.MATCHED c) = false ∧ (t.line.at c).rxE = (if s.on
      (F.LINK_RX_STEP.MATCHED c) then (s.line.at c).capE.take (s.subCount c) else (s.line.at c).rxE) ∧ t.mem = s.mem)
  ∧ (∀ (s : State) (c : Carrier) (engine : Fin 13), s.bistRuns = false → ∃ t, exec (.engineResidueFail c engine) s = .next t ∧ t.get
      ⟨R.FEC_ENGINES c, 16 + engine.val, 16 + engine.val⟩ = 1 ∧ t.get ⟨R.FEC_ENGINES c, engine.val, engine.val⟩ = 0 ∧ t.mem = s.mem)

/-- O25. While Plough runs, LOCKED takes a locked carrier from SEARCH, and from LOST with BACKOFF 0, to NEGOTIATE with a CAPS
outstanding. ALIGN_COMPLETE with the entropies taken, and the jump made where numbering is to be adopted, goes from ALIGN to
TRAFFIC and raises LINK_UP; before that it changes nothing. ALIGN_TIMEOUT goes from ALIGN to LOST with BACKOFF one more, at most
6; LOSS_HOLD_EXPIRED goes to LOST while not locked; both count LOSSES and raise LINK_DOWN. BACKOFF_EXPIRED in LOST, and
INCOMPATIBLE_RETRY, go to NEGOTIATE while locked. RENEGOTIATE, while locked, starts a CAPS in TRAFFIC and stays there, and goes
from INCOMPATIBLE to NEGOTIATE. TAKE_E of Plough asks for the next entropies, in TRAFFIC or with a receive step armed it changes
nothing, and of another path it is counted in DROPPED; TAKE_E_APPLY takes them. REQUEST_RETRY sends a CAPS or a proposal without
answer again, at most four times in all; then a CAPS of NEGOTIATE goes to LOST and a proposal is withdrawn. While Plough is not
RUNNING, LOCKED, LOSS_HOLD_EXPIRED, ALIGN_TIMEOUT, BACKOFF_EXPIRED, ALIGN_COMPLETE, INCOMPATIBLE_RETRY and REQUEST_RETRY change
nothing. Concludes exec = next, on conditions on state and operands alone, with the own effect of: locked, alignComplete,
alignTimeout, lossHoldExpired, backoffExpired, incompatibleRetry, renegotiate, takeE, takeEApply, requestRetry. -/
def Obligations.LinkStatesFollowTable62 : Prop :=
  (∀ (s : State) (c : Carrier), s.cpu = 2 → s.linkState c = 1 → s.locked c = true → ∃ t, exec (.locked c) s = .next t ∧ t.linkState c
      = 2 ∧ (t.link.at c).capsTag = some (s.linkTag c) ∧ (t.link.at c).agreed = none ∧ t.mem = s.mem)
  ∧ (∀ (s : State) (c : Carrier), s.cpu = 2 → s.linkState c = 5 → s.locked c = true → s.get (F.LINK_STATE.BACKOFF c) = 0 → ∃ t, exec
      (.locked c) s = .next t ∧ t.linkState c = 2 ∧ (t.link.at c).capsTag = some (s.linkTag c) ∧ t.mem = s.mem)
  ∧ (∀ (s : State) (c : Carrier), s.cpu = 2 → s.linkState c = 3 → (s.link.at c).eTaken = true → (s.adopts c = false ∨ (if s.get
      (F.LINK_NUMBERING.ROLE c) = 2 then (s.line.at c).adopted else (s.line.at c).jumped) = true) → ∃ t, exec (.alignComplete c) s =
      .next t ∧ t.linkState c = 4 ∧ t.flag 0x0E (16 + 8 * c.idx) = true ∧ t.link = s.link ∧ t.mem = s.mem)
  ∧ (∀ (s : State) (c : Carrier), s.cpu = 2 → (s.linkState c ≠ 3 ∨ (s.link.at c).eTaken = false ∨ (s.adopts c = true ∧ (if s.get
      (F.LINK_NUMBERING.ROLE c) = 2 then (s.line.at c).adopted else (s.line.at c).jumped) = false)) → ∃ t, exec (.alignComplete c) s =
      .next t ∧ t = s)
  ∧ (∀ (s : State) (c : Carrier), s.cpu = 2 → s.linkState c = 3 → ∃ t, exec (.alignTimeout c) s = .next t ∧ t.linkState c = 5 ∧ t.get
      (F.LINK_STATE.BACKOFF c) = min 6 (s.get (F.LINK_STATE.BACKOFF c) + 1) ∧ t.get (F.LINK_LINK_COUNT.LOSSES c) = min
      (F.LINK_LINK_COUNT.LOSSES c).top (s.get (F.LINK_LINK_COUNT.LOSSES c) + 1) ∧ t.flag 0x0E (17 + 8 * c.idx) = true ∧ (t.link.at
      c).fast = true ∧ t.mem = s.mem)
  ∧ (∀ (s : State) (c : Carrier), s.cpu = 2 → s.linkState c = 2 ∨ s.linkState c = 3 ∨ s.linkState c = 4 ∨ s.linkState c = 6 → s.locked
      c = false → ∃ t, exec (.lossHoldExpired c) s = .next t ∧ t.linkState c = 5 ∧ t.get (F.LINK_LINK_COUNT.LOSSES c) = min
      (F.LINK_LINK_COUNT.LOSSES c).top (s.get (F.LINK_LINK_COUNT.LOSSES c) + 1) ∧ t.flag 0x0E (17 + 8 * c.idx) = true ∧ (t.link.at
      c).fast = true ∧ t.mem = s.mem)
  ∧ (∀ (s : State) (c : Carrier), s.cpu = 2 → s.linkState c = 5 → ∃ t, exec (.backoffExpired c) s = .next t ∧ t.linkState c = (if
      s.locked c then 2 else 5) ∧ (t.link.at c).backoffOver = !s.locked c ∧ t.mem = s.mem)
  ∧ (∀ (s : State) (c : Carrier), s.cpu = 2 → s.linkState c = 6 → s.locked c = true → ∃ t, exec (.incompatibleRetry c) s = .next t ∧
      t.linkState c = 2 ∧ (t.link.at c).capsTag = some (s.linkTag c))
  ∧ (∀ (s : State) (path : Path) (c : Carrier), s.cpu = 2 → s.mayWrite path (R.LINK_MGR_CTRL c) → s.linkState c = 4 → s.locked c =
      true → ∃ t, exec (.renegotiate path c) s = .next t ∧ (t.link.at c).capsTag = some (s.linkTag c) ∧ (t.link.at c).capsSends = 1 ∧
      t.regs = s.regs ∧ t.mem = s.mem)
  ∧ (∀ (s : State) (path : Path) (c : Carrier), s.cpu = 2 → s.mayWrite path (R.LINK_MGR_CTRL c) → s.linkState c = 6 → s.locked c =
      true → ∃ t, exec (.renegotiate path c) s = .next t ∧ t.linkState c = 2 ∧ (t.link.at c).capsTag = some (s.linkTag c) ∧ (t.link.at
      c).capsSends = 1 ∧ t.mem = s.mem)
  ∧ (∀ (s : State) (c : Carrier), s.isDown (R.LINK_MGR_CTRL c) = false → s.linkState c = 4 ∨ s.on (F.LINK_RX_STEP.ARMED c) = true → ∃
      t, exec (.takeE .plough c) s = .next t ∧ t = s)
  ∧ (∀ (s : State) (c : Carrier) (path : Path), s.isDown (R.LINK_MGR_CTRL c) = false → path ≠ .plough → ∃ t, exec (.takeE path c) s =
      .next t ∧ t = s.bump (F.FURROW_TX_STEP_STATUS.DROPPED c))
  ∧ (∀ (s : State) (c : Carrier), s.isDown (R.LINK_MGR_CTRL c) = false → s.linkState c ≠ 4 → s.on (F.LINK_RX_STEP.ARMED c) = false → ∃
      t, exec (.takeE .plough c) s = .next t ∧ (t.line.at c).takeE = true ∧ (t.line.at c).taken = none ∧ t.regs = s.regs ∧ t.mem =
      s.mem)
  ∧ (∀ (s : State) (c : Carrier) (e b : List Nat), (s.line.at c).taken = some (e, b) → ∃ t, exec (.takeEApply c) s = .next t ∧
      (t.line.at c).rxE = e ∧ (t.line.at c).rxB = b ∧ (t.line.at c).takeE = false ∧ (t.link.at c).eTaken = true ∧ t.regs = s.regs ∧
      t.mem = s.mem)
  ∧ (∀ (s : State) (c : Carrier) (tag : Nat), s.cpu = 2 → (s.link.at c).capsTag = some tag → (s.link.at c).ackSeen = none → (s.link.at
      c).capsSends < 4 → ∃ t, exec (.requestRetry c 0) s = .next t ∧ (t.link.at c).capsSends = (s.link.at c).capsSends + 1 ∧
      (t.link.at c).capsTag = some tag ∧ (t.line.at c).cells ++ (t.line.at c).unsent = (s.line.at c).cells ++ (s.line.at c).unsent ++
      cellsOf (s.linkMsg c 1 0 tag (s.ownCaps c).body) ∧ t.regs = s.regs)
  ∧ (∀ (s : State) (c : Carrier) (tag : Nat), s.cpu = 2 → (s.link.at c).capsTag = some tag → (s.link.at c).ackSeen = none → 4 ≤
      (s.link.at c).capsSends → s.linkState c = 2 → ∃ t, exec (.requestRetry c 0) s = .next t ∧ t.linkState c = 5 ∧ t.get
      (F.LINK_LINK_COUNT.LOSSES c) = min (F.LINK_LINK_COUNT.LOSSES c).top (s.get (F.LINK_LINK_COUNT.LOSSES c) + 1) ∧ (t.link.at
      c).capsTag = none)
  ∧ (∀ (s : State) (c : Carrier) (request : Fin 3) (p : Proposal), s.cpu = 2 → request ≠ 0 → kindOf (s.link.at c).own request = some p
      → p.cstate = 1 → p.sends < 4 → ∃ t, exec (.requestRetry c request) s = .next t ∧ (kindOf (t.link.at c).own request).map
      (·.sends) = some (p.sends + 1) ∧ t.linkState c = s.linkState c ∧ t.mem = s.mem)
  ∧ (∀ (s : State) (c : Carrier) (request : Fin 3) (p : Proposal), s.cpu = 2 → request ≠ 0 → kindOf (s.link.at c).own request = some p
      → p.cstate = 1 → 4 ≤ p.sends → ∃ t, exec (.requestRetry c request) s = .next t ∧ kindOf (t.link.at c).own request = none ∧ t.get
      (F.LINK_LINK_COUNT.ABORTS c) = min (F.LINK_LINK_COUNT.ABORTS c).top (s.get (F.LINK_LINK_COUNT.ABORTS c) + 1) ∧ t.flag 0x0E (20 +
      8 * c.idx) = true ∧ t.mem = s.mem)
  ∧ (∀ (s : State) (c : Carrier), s.cpu ≠ 2 → ∃ t, exec (.locked c) s = .next t ∧ t = s)
  ∧ (∀ (s : State) (c : Carrier), s.cpu ≠ 2 → ∃ t, exec (.lossHoldExpired c) s = .next t ∧ t = s)
  ∧ (∀ (s : State) (c : Carrier), s.cpu ≠ 2 → ∃ t, exec (.alignTimeout c) s = .next t ∧ t = s)
  ∧ (∀ (s : State) (c : Carrier), s.cpu ≠ 2 → ∃ t, exec (.backoffExpired c) s = .next t ∧ t = s)
  ∧ (∀ (s : State) (c : Carrier), s.cpu ≠ 2 → ∃ t, exec (.alignComplete c) s = .next t ∧ t = s)
  ∧ (∀ (s : State) (c : Carrier), s.cpu ≠ 2 → ∃ t, exec (.incompatibleRetry c) s = .next t ∧ t = s)
  ∧ (∀ (s : State) (c : Carrier) (request : Fin 3), s.cpu ≠ 2 → ∃ t, exec (.requestRetry c request) s = .next t ∧ t = s)

/-- O26. While Plough runs, a peer CAPS, the first request answered on the carrier, does this: in NEGOTIATE, ALIGN or TRAFFIC, with a
common frame and WMP major, the same configuration and, in JOINT, the same peer, it gives the agreed values and is answered with
them, and in TRAFFIC this end's own CAPS goes out unless one is outstanding; without a common major it takes the link to
INCOMPATIBLE and counts NAKS; of a wrong length it is violation 0x02 in any state and counts NAKS. A CAPS_ACK that carries this
end's agreed values takes NEGOTIATE to ALIGN with the agreed frame and WMP majors and features, BACKOFF 0, the round trip, and the
numbering role by NODE_ID. The agreed values do not depend on which end computes them. Concludes exec = next, on conditions on
state and operands alone, with the own effect of: capsReceived, capsAckReceived. -/
def Obligations.CapabilitiesAreSettledAlike : Prop :=
  (∀ (a b : Caps), agree a b = agree b a)
  ∧ (∀ (s : State) (c : Carrier) (tag : Nat) (body : List Byte) (k : Caps) (g : Agreed), s.cpu = 2 → s.linkState c = 2 ∨ s.linkState c
      = 3 ∨ s.linkState c = 4 → (s.link.at c).answered = none → (s.link.at c).ackSeen = none → capsOf body = some k → agree (s.ownCaps
      c) k = some g → sameConfig (s.ownCaps c) k = true → s.jointPeerOk c k.node = true → ∃ t, exec (.capsReceived c tag body) s =
      .next t ∧ (t.link.at c).agreed = some g ∧ (t.link.at c).peer = some k ∧ (t.link.at c).answered = some (tag, s.linkMsg c 2 1 tag
      g.body) ∧ t.get (F.LINK_PEER_FEATURES.VALUE c) = k.features % 2 ^ 32 ∧ t.linkState c = s.linkState c ∧ (s.linkState c = 4 ∧
      s.locked c = true ∧ (s.link.at c).capsTag = none → (t.link.at c).capsTag = some (s.linkTag c)) ∧ s.keepsRegs t
      [R.LINK_PEER_FEATURES c] ∧ t.mem = s.mem)
  ∧ (∀ (s : State) (c : Carrier) (tag : Nat) (body : List Byte) (k : Caps), s.cpu = 2 → s.linkState c = 2 ∨ s.linkState c = 3 ∨
      s.linkState c = 4 → (s.link.at c).answered = none → capsOf body = some k → agree (s.ownCaps c) k = none → ∃ t, exec
      (.capsReceived c tag body) s = .next t ∧ t.linkState c = 6 ∧ t.get (F.LINK_LINK_COUNT.NAKS c) = min (F.LINK_LINK_COUNT.NAKS
      c).top (s.get (F.LINK_LINK_COUNT.NAKS c) + 1) ∧ t.flag 0x0E (18 + 8 * c.idx) = true ∧ (t.link.at c).peer = some k ∧ (t.link.at
      c).answered.map (·.1) = some tag)
  ∧ (∀ (s : State) (c : Carrier) (tag : Nat) (body : List Byte), s.cpu = 2 → (s.link.at c).answered = none → body.length ≠ 28 → ∃ t,
      exec (.capsReceived c tag body) s = .next t ∧ t.get (F.LINK_VIOLATION.COUNT c) = min (F.LINK_VIOLATION.COUNT c).top (s.get
      (F.LINK_VIOLATION.COUNT c) + 1) ∧ t.get (F.LINK_VIOLATION.LAST c) = 2 ∧ t.get (F.LINK_LINK_COUNT.NAKS c) = min
      (F.LINK_LINK_COUNT.NAKS c).top (s.get (F.LINK_LINK_COUNT.NAKS c) + 1) ∧ t.flag 0x0E (21 + 8 * c.idx) = true ∧ s.keepsRegs t
      [R.LINK_VIOLATION c, R.LINK_LINK_COUNT c])
  ∧ (∀ (s : State) (c : Carrier) (tag rtt : Nat) (body : List Byte) (g : Agreed), s.cpu = 2 → (s.link.at c).capsTag = some tag →
      (s.link.at c).agreed = some g → body = g.body → s.linkState c = 2 → ∃ t, exec (.capsAckReceived c tag body rtt) s = .next t ∧
      t.linkState c = 3 ∧ t.get (F.LINK_STATE.FRAME_MAJOR c) = g.frame / 16 % 16 ∧ t.get (F.LINK_STATE.WMP_MAJOR c) = g.wmp / 16 % 16
      ∧ t.get (F.LINK_FEATURES.VALUE c) = g.features % 2 ^ 32 ∧ t.get (F.LINK_STATE.BACKOFF c) = 0 ∧ t.get (F.LINK_RTT.RTT c) = min
      (F.LINK_RTT.RTT c).top rtt ∧ t.get (F.LINK_NUMBERING.ROLE c) = (let peer := ((s.link.at c).peer.map (·.node)).getD 0; if
      s.nodeId < peer then 1 else if peer < s.nodeId then 2 else 0) ∧ (t.link.at c).capsTag = none ∧ t.mem = s.mem)

/-- O27. While Plough runs: a beacon timer of a carrier that is not DARK, its transmitter ON, sends a beacon; with a packet on air, or
other messages before it, the beacon waits; of another carrier it does nothing. A beacon of another node not yet listed enters the
neighbour table with its centre and RSSI and raises NEIGHBOUR; one with this part's own NODE_ID enters it too, is violation 0x08
and clears the numbering role. A beacon, QUERY or LINK_DOWN of a wrong length or type is ignored and counted, violation 0x09.
QUERY for another node changes nothing; a repeated one is ignored and counted, violation 0x0A; otherwise both carriers' beacons
are due. LINK_DOWN that names this part makes its beacons fast, and one that does not changes nothing. An expired neighbour's
entry is freed and NEIGHBOUR raised. While Plough is not RUNNING these commands change nothing. Concludes exec = next, on
conditions on state and operands alone, with the own effect of: beaconTimer, beaconReceived, queryReceived, linkDownReceived,
neighbourExpired. -/
def Obligations.HeadlandMessagesAreHandled : Prop :=
  (∀ (s : State) (c : Carrier), s.cpu = 2 → s.linkState c ≠ 0 → s.txState c = 2 → s.on F.HEADLAND_TX_CTRL.BUSY = true → ∃ t, exec
      (.beaconTimer c) s = .next t ∧ t.head.waiting = s.head.waiting ++ [(c, s.planSub, s.beacon c)] ∧ t.regs = s.regs ∧ t.mem =
      s.mem)
  ∧ (∀ (s : State) (c : Carrier), s.cpu = 2 → s.linkState c ≠ 0 → s.txState c = 2 → s.on F.HEADLAND_TX_CTRL.BUSY = false →
      s.head.waiting = [] → s.headlandRefusal c = none → ∃ t, exec (.beaconTimer c) s = .next t ∧ t.on F.HEADLAND_TX_CTRL.BUSY = true
      ∧ t.get F.HEADLAND_TX_CTRL.CARRIER = c.idx ∧ t.get F.HEADLAND_TX_CTRL.LENGTH = 32 ∧ t.head.waiting = [] ∧ t.mem = s.mem)
  ∧ (∀ (s : State) (c : Carrier), s.cpu = 2 → s.linkState c = 0 ∨ s.txState c ≠ 2 → ∃ t, exec (.beaconTimer c) s = .next t ∧ t = s)
  ∧ (∀ (s : State) (c : Carrier) (bytes : List Byte) (rssi : Nat), s.cpu = 2 → bytes.length = 32 → beNat (slice bytes 0 1) = 1 → beNat
      (slice bytes 2 4) ≠ s.nodeId → s.nbFind (beNat (slice bytes 2 4)) = none → ∃ t, exec (.beaconReceived c bytes rssi) s = .next t
      ∧ t.nbNode s.nbSlot = beNat (slice bytes 2 4) ∧ t.get (F.LINK_NB_INFO.CENTRE_N s.nbSlot) = beNat (slice bytes 6 2) % 65536 ∧
      t.get (F.LINK_NB_INFO.RSSI s.nbSlot) = min (F.LINK_NB_INFO.RSSI s.nbSlot).top rssi ∧ t.get (F.LINK_NB_INFO.AGE s.nbSlot) = 0 ∧
      t.flag 0x0E 22 = true ∧ s.keepsRegs t [R.LINK_NB_NODE s.nbSlot, R.LINK_NB_INFO s.nbSlot, R.LINK_CANDIDATE .A, R.LINK_CANDIDATE
      .B] ∧ t.mem = s.mem)
  ∧ (∀ (s : State) (c : Carrier) (bytes : List Byte) (rssi : Nat), s.cpu = 2 → bytes.length = 32 → beNat (slice bytes 0 1) = 1 → beNat
      (slice bytes 2 4) = s.nodeId → s.nbFind s.nodeId = none → ∃ t, exec (.beaconReceived c bytes rssi) s = .next t ∧ t.nbNode
      s.nbSlot = s.nodeId ∧ t.get (F.LINK_VIOLATION.LAST c) = 8 ∧ t.get (F.LINK_VIOLATION.COUNT c) = min (F.LINK_VIOLATION.COUNT
      c).top (s.get (F.LINK_VIOLATION.COUNT c) + 1) ∧ t.get (F.LINK_NUMBERING.ROLE c) = 0 ∧ t.flag 0x0E (21 + 8 * c.idx) = true ∧
      s.keepsRegs t [R.LINK_VIOLATION c, R.LINK_NUMBERING c, R.LINK_NB_NODE s.nbSlot, R.LINK_NB_INFO s.nbSlot, R.LINK_CANDIDATE .A,
      R.LINK_CANDIDATE .B] ∧ t.mem = s.mem)
  ∧ (∀ (s : State) (c : Carrier) (bytes : List Byte) (rssi : Nat), s.cpu = 2 → bytes.length ≠ 32 ∨ beNat (slice bytes 0 1) ≠ 1 → ∃ t,
      exec (.beaconReceived c bytes rssi) s = .next t ∧ t.get (F.LINK_HL_IGNORED.COUNT) = min (F.LINK_HL_IGNORED.COUNT).top (s.get
      (F.LINK_HL_IGNORED.COUNT) + 1) ∧ t.get (F.LINK_VIOLATION.LAST c) = 9 ∧ t.flag 0x0E (21 + 8 * c.idx) = true ∧ s.onlyRegs t
      [R.LINK_VIOLATION c, R.LINK_HL_IGNORED])
  ∧ (∀ (s : State) (c : Carrier) (bytes : List Byte) (recent : Bool), s.cpu = 2 → bytes.length ≠ 6 ∨ beNat (slice bytes 0 1) ≠ 2 → ∃
      t, exec (.queryReceived c bytes recent) s = .next t ∧ t.get (F.LINK_HL_IGNORED.COUNT) = min (F.LINK_HL_IGNORED.COUNT).top (s.get
      (F.LINK_HL_IGNORED.COUNT) + 1) ∧ t.get (F.LINK_VIOLATION.LAST c) = 9 ∧ t.flag 0x0E (21 + 8 * c.idx) = true ∧ s.onlyRegs t
      [R.LINK_VIOLATION c, R.LINK_HL_IGNORED])
  ∧ (∀ (s : State) (c : Carrier) (bytes : List Byte), s.cpu = 2 → bytes.length ≠ 10 ∨ beNat (slice bytes 0 1) ≠ 3 → ∃ t, exec
      (.linkDownReceived c bytes) s = .next t ∧ t.get (F.LINK_HL_IGNORED.COUNT) = min (F.LINK_HL_IGNORED.COUNT).top (s.get
      (F.LINK_HL_IGNORED.COUNT) + 1) ∧ t.get (F.LINK_VIOLATION.LAST c) = 9 ∧ t.flag 0x0E (21 + 8 * c.idx) = true ∧ s.onlyRegs t
      [R.LINK_VIOLATION c, R.LINK_HL_IGNORED])
  ∧ (∀ (s : State) (c : Carrier) (bytes : List Byte), s.cpu = 2 → bytes.length = 10 → beNat (slice bytes 0 1) = 3 → beNat (slice bytes
      6 4) ≠ s.nodeId → ∃ t, exec (.linkDownReceived c bytes) s = .next t ∧ t = s)
  ∧ (∀ (s : State) (c : Carrier) (bytes : List Byte) (recent : Bool), s.cpu = 2 → bytes.length = 6 → beNat (slice bytes 0 1) = 2 →
      beNat (slice bytes 2 4) ≠ s.nodeId → beNat (slice bytes 2 4) ≠ 0xFFFFFFFF → ∃ t, exec (.queryReceived c bytes recent) s = .next
      t ∧ t = s)
  ∧ (∀ (s : State) (c : Carrier) (bytes : List Byte), s.cpu = 2 → bytes.length = 6 → beNat (slice bytes 0 1) = 2 → beNat (slice bytes
      2 4) = s.nodeId ∨ beNat (slice bytes 2 4) = 0xFFFFFFFF → ∃ t, exec (.queryReceived c bytes true) s = .next t ∧ t.get
      (F.LINK_HL_IGNORED.COUNT) = min (F.LINK_HL_IGNORED.COUNT).top (s.get (F.LINK_HL_IGNORED.COUNT) + 1) ∧ t.get
      (F.LINK_VIOLATION.LAST c) = 10 ∧ s.onlyRegs t [R.LINK_VIOLATION c, R.LINK_HL_IGNORED])
  ∧ (∀ (s : State) (c : Carrier) (bytes : List Byte), s.cpu = 2 → bytes.length = 6 → beNat (slice bytes 0 1) = 2 → beNat (slice bytes
      2 4) = s.nodeId ∨ beNat (slice bytes 2 4) = 0xFFFFFFFF → s.on F.HEADLAND_TX_CTRL.BUSY = true → s.linkState .A ≠ 0 ∧ s.txState .A
      = 2 → s.linkState .B ≠ 0 ∧ s.txState .B = 2 → ∃ t, exec (.queryReceived c bytes false) s = .next t ∧ t.head.waiting =
      s.head.waiting ++ [(.A, s.planSub, s.beacon .A), (.B, s.planSub, s.beacon .B)] ∧ t.regs = s.regs)
  ∧ (∀ (s : State) (c : Carrier) (bytes : List Byte), s.cpu = 2 → bytes.length = 10 → beNat (slice bytes 0 1) = 3 → beNat (slice bytes
      6 4) = s.nodeId → ∃ t, exec (.linkDownReceived c bytes) s = .next t ∧ (t.link.at c).fast = true ∧ t.regs = s.regs ∧ t.mem =
      s.mem)
  ∧ (∀ (s : State) (entry : Fin 16), s.cpu = 2 → s.nbNode entry ≠ 0 → ∃ t, exec (.neighbourExpired entry) s = .next t ∧ t.nbNode entry
      = 0 ∧ t.rd (R.LINK_NB_INFO entry) = 0 ∧ t.flag 0x0E 22 = true ∧ s.keepsRegs t [R.LINK_NB_NODE entry, R.LINK_NB_INFO entry] ∧
      entry.val ∉ t.neighbours)
  ∧ (∀ (s : State) (c : Carrier), s.cpu ≠ 2 → ∃ t, exec (.beaconTimer c) s = .next t ∧ t = s)
  ∧ (∀ (s : State) (c : Carrier) (bytes : List Byte) (rssi : Nat), s.cpu ≠ 2 → ∃ t, exec (.beaconReceived c bytes rssi) s = .next t ∧
      t = s)
  ∧ (∀ (s : State) (c : Carrier) (bytes : List Byte) (recent : Bool), s.cpu ≠ 2 → ∃ t, exec (.queryReceived c bytes recent) s = .next
      t ∧ t = s)
  ∧ (∀ (s : State) (c : Carrier) (bytes : List Byte), s.cpu ≠ 2 → ∃ t, exec (.linkDownReceived c bytes) s = .next t ∧ t = s)
  ∧ (∀ (s : State) (entry : Fin 16), s.cpu ≠ 2 → ∃ t, exec (.neighbourExpired entry) s = .next t ∧ t = s)

/-- O28. While Plough runs: PROPOSE of a step or a re-plan whose conditions hold and whose M keeps the least lead is outstanding, and
the COMMIT register shows it. A PROPOSE, the first request answered, that passes the responder's checks is accepted and its M
held; one that fails is answered NAK and counted. An ACCEPT of the outstanding proposal with margin accepts it and takes the round
trip; without margin it is withdrawn. A COMMIT that has left the queue arms a re-plan at M. A COMMIT received for a held step arms
the receive step at M. WITHDRAW of a held proposal not armed, PROPOSAL_DEADLINE and ACCEPTED_DEADLINE release it, count ABORTS and
raise COMMIT_ABORT; the last of an unarmed re-plan without SOLE in READY ends the build with REASON 0x46. A NAK ends the
outstanding CAPS (and refreshes a known RTT) or the proposal. While Plough is not RUNNING, PROPOSE, PROPOSE_RECEIVED,
ACCEPT_RECEIVED, COMMIT_LEFT_QUEUE, COMMIT_RECEIVED, WITHDRAW_RECEIVED, NAK_RECEIVED, PROPOSAL_DEADLINE and ACCEPTED_DEADLINE
change nothing. Concludes exec = next, on conditions on state and operands alone, with the own effect of: propose,
proposeReceived, acceptReceived, commitLeftQueue, commitReceived, withdrawReceived, nakReceived, proposalDeadline,
acceptedDeadline. -/
def Obligations.TwoWayCommitFollowsR135ToR139 : Prop :=
  (∀ (s : State) (c : Carrier) (sole : Bool) (mf : Nat), s.cpu = 2 → s.changeNak c 1 = none → kindOf (s.link.at c).own 1 = none →
      mfAtLeast mf (s.txMf c) (s.leastLead c) = true → (s.heldMfs c).contains mf = false → s.hState = 2 → ∃ t, exec (.propose c false
      sole mf) s = .next t ∧ (kindOf (t.link.at c).own 1).map (fun p => (p.m, p.sole, p.cstate)) = some (mf, sole, 1) ∧
      t.plan.proposedMf = some mf ∧ t.get (F.LINK_COMMIT.M c) = mf % 2 ^ 24 ∧ t.get (F.LINK_COMMIT.INITIATOR c) = 1 ∧ t.get
      (F.LINK_COMMIT.CSTATE c) = 1 ∧ s.keepsRegs t [R.LINK_COMMIT c] ∧ t.mem = s.mem)
  ∧ (∀ (s : State) (c : Carrier) (mf : Nat), s.cpu = 2 → s.changeNak c 2 = none → kindOf (s.link.at c).own 2 = none → mfAtLeast mf
      (s.txMf c) (s.leastLead c) = true → (s.heldMfs c).contains mf = false → (s.link.at c).own = [] ∧ (s.link.at c).held = [] → ∃ t,
      exec (.propose c true false mf) s = .next t ∧ (kindOf (t.link.at c).own 2).map (fun p => (p.m, p.sole, p.cstate)) = some (mf,
      false, 1) ∧ t.get (F.LINK_COMMIT.M c) = mf % 2 ^ 24 ∧ t.get (F.LINK_COMMIT.INITIATOR c) = 1 ∧ t.get (F.LINK_COMMIT.CSTATE c) = 1
      ∧ t.plan = s.plan ∧ s.keepsRegs t [R.LINK_COMMIT c] ∧ t.mem = s.mem)
  ∧ (∀ (s : State) (c : Carrier) (tag : Nat) (body : List Byte), s.cpu = 2 → (s.link.at c).answered = none → body.length = 26 → beNat
      (slice body 0 1) = 1 ∨ beNat (slice body 0 1) = 2 → beNat (slice body 1 1) = 0 → s.proposeNak c (beNat (slice body 0 1)) (beNat
      (slice body 2 3)) false = none → (s.link.at c).own = [] → ∃ t, exec (.proposeReceived c tag body) s = .next t ∧ (kindOf
      (t.link.at c).held (beNat (slice body 0 1))).map (fun p => (p.m, p.cstate, p.tag)) = some (beNat (slice body 2 3), 2, tag) ∧
      (t.link.at c).answered.map (·.1) = some tag ∧ t.get (F.LINK_COMMIT.INITIATOR c) = 0 ∧ t.get (F.LINK_COMMIT.CSTATE c) = 2 ∧
      s.keepsRegs t [R.LINK_COMMIT c] ∧ t.mem = s.mem)
  ∧ (∀ (s : State) (c : Carrier) (tag n : Nat) (body : List Byte), s.cpu = 2 → (s.link.at c).answered = none → body.length = 26 →
      beNat (slice body 0 1) = 1 ∨ beNat (slice body 0 1) = 2 → beNat (slice body 1 1) = 0 → s.proposeNak c (beNat (slice body 0 1))
      (beNat (slice body 2 3)) false = some n → ∃ t, exec (.proposeReceived c tag body) s = .next t ∧ (t.link.at c).held = (s.link.at
      c).held ∧ (t.link.at c).answered.map (·.1) = some tag ∧ t.get (F.LINK_LINK_COUNT.NAKS c) = min (F.LINK_LINK_COUNT.NAKS c).top
      (s.get (F.LINK_LINK_COUNT.NAKS c) + 1) ∧ s.keepsRegs t [R.LINK_LINK_COUNT c])
  ∧ (∀ (s : State) (c : Carrier) (tag rtt : Nat) (body : List Byte) (p : Proposal), s.cpu = 2 → body.length = 6 → beNat (slice body 0
      1) = 1 ∨ beNat (slice body 0 1) = 2 → kindOf (s.link.at c).own (beNat (slice body 0 1)) = some p → p.cstate = 1 → p.m = beNat
      (slice body 2 3) → mfAtLeast p.m (s.txMf c) ((s.setSat (F.LINK_RTT.RTT c) rtt).armLead c) = true → p.tag = tag → ∃ t, exec
      (.acceptReceived c tag body rtt) s = .next t ∧ (kindOf (t.link.at c).own p.kind).map (·.cstate) = some 2 ∧ t.get (F.LINK_RTT.RTT
      c) = min (F.LINK_RTT.RTT c).top rtt ∧ s.keepsRegs t [R.LINK_RTT c, R.LINK_COMMIT c] ∧ t.mem = s.mem)
  ∧ (∀ (s : State) (c : Carrier) (tag rtt : Nat) (body : List Byte) (p : Proposal), s.cpu = 2 → body.length = 6 → beNat (slice body 0
      1) = 1 ∨ beNat (slice body 0 1) = 2 → kindOf (s.link.at c).own (beNat (slice body 0 1)) = some p → p.cstate = 1 → p.m = beNat
      (slice body 2 3) → mfAtLeast p.m (s.txMf c) ((s.setSat (F.LINK_RTT.RTT c) rtt).armLead c) = false → p.tag = tag → ∃ t, exec
      (.acceptReceived c tag body rtt) s = .next t ∧ kindOf (t.link.at c).own (beNat (slice body 0 1)) = none ∧ t.get
      (F.LINK_LINK_COUNT.ABORTS c) = min (F.LINK_LINK_COUNT.ABORTS c).top (s.get (F.LINK_LINK_COUNT.ABORTS c) + 1) ∧ t.flag 0x0E (20 +
      8 * c.idx) = true ∧ t.mem = s.mem)
  ∧ (∀ (s : State) (c : Carrier) (p : Proposal), s.cpu = 2 → kindOf (s.link.at c).own 1 = some p → p.cstate = 2 → p.m < 2 ^ 24 →
      s.hState = 2 → mfAtLeast p.m (s.txMf c) 65 = true → s.stepArmed .A = false → s.stepArmed .B = false → ∃ t, exec
      (.commitLeftQueue c false) s = .next t ∧ t.hState = 3 ∧ t.get F.PLAN_SWITCH.SWITCH_MF = p.m ∧ (kindOf (t.link.at c).own 1).map
      (·.cstate) = some 3 ∧ t.flag 0x02 5 = true ∧ t.flag 0x0E (19 + 8 * c.idx) = true ∧ s.keepsRegs t [R.PLAN_SWITCH, R.LINK_COMMIT
      c] ∧ t.mem = s.mem)
  ∧ (∀ (s : State) (c : Carrier) (tag : Nat) (body : List Byte) (p : Proposal), s.cpu = 2 → body.length = 6 → beNat (slice body 0 1) =
      2 → kindOf (s.link.at c).held 2 = some p → p.cstate = 2 → p.m = beNat (slice body 2 3) → mfAtLeast p.m (s.rxMf c) 65 = true →
      s.on (F.LINK_RX_STEP.ARMED c) = false → ∃ t, exec (.commitReceived c tag body) s = .next t ∧ t.on (F.LINK_RX_STEP.ARMED c) =
      true ∧ t.get (F.LINK_RX_STEP.MF c) = p.m % 2 ^ 24 ∧ (kindOf (t.link.at c).held 2).map (·.cstate) = some 3 ∧ t.flag 0x0E (19 + 8
      * c.idx) = true ∧ s.keepsRegs t [R.LINK_RX_STEP c, R.LINK_COMMIT c] ∧ t.mem = s.mem)
  ∧ (∀ (s : State) (c : Carrier) (tag : Nat) (body : List Byte) (p : Proposal), s.cpu = 2 → body.length = 6 → beNat (slice body 0 1) =
      1 ∨ beNat (slice body 0 1) = 2 → kindOf (s.link.at c).held (beNat (slice body 0 1)) = some p → p.cstate = 2 → p.m = beNat (slice
      body 2 3) → ∃ t, exec (.withdrawReceived c tag body) s = .next t ∧ kindOf (t.link.at c).held (beNat (slice body 0 1)) = none ∧
      t.get (F.LINK_LINK_COUNT.ABORTS c) = min (F.LINK_LINK_COUNT.ABORTS c).top (s.get (F.LINK_LINK_COUNT.ABORTS c) + 1) ∧ t.flag 0x0E
      (20 + 8 * c.idx) = true ∧ t.mem = s.mem)
  ∧ (∀ (s : State) (c : Carrier) (tag code rtt : Nat), s.cpu = 2 → (s.link.at c).capsTag = some tag → ∃ t, exec (.nakReceived c tag
      code rtt) s = .next t ∧ (t.link.at c).capsTag = none ∧ (t.link.at c).own = (s.link.at c).own ∧ t.rtt c = (if s.rtt c = 0 then 0
      else min (F.LINK_RTT.RTT c).top rtt) ∧ s.keepsRegs t [R.LINK_RTT c])
  ∧ (∀ (s : State) (c : Carrier) (tag code rtt : Nat) (p : Proposal), s.cpu = 2 → (s.link.at c).capsTag ≠ some tag → (s.link.at
      c).own.find? (fun p => p.tag = tag && p.cstate = 1) = some p → kindOf (s.link.at c).own p.kind = some p → ∃ t, exec
      (.nakReceived c tag code rtt) s = .next t ∧ kindOf (t.link.at c).own p.kind = none ∧ (code = 8 → t.flag 0x0E (20 + 8 * c.idx) =
      true) ∧ t.mem = s.mem)
  ∧ (∀ (s : State) (c : Carrier) (step : Bool) (p : Proposal), s.cpu = 2 → kindOf (s.link.at c).own (if step then 2 else 1) = some p →
      p.cstate = 1 → ∃ t, exec (.proposalDeadline c step) s = .next t ∧ kindOf (t.link.at c).own (if step then 2 else 1) = none ∧
      t.get (F.LINK_LINK_COUNT.ABORTS c) = min (F.LINK_LINK_COUNT.ABORTS c).top (s.get (F.LINK_LINK_COUNT.ABORTS c) + 1) ∧ t.flag 0x0E
      (20 + 8 * c.idx) = true ∧ s.keepsRegs t [R.LINK_LINK_COUNT c, R.LINK_COMMIT c] ∧ t.mem = s.mem)
  ∧ (∀ (s : State) (c : Carrier) (step : Bool) (p : Proposal), s.cpu = 2 → kindOf (s.link.at c).held (if step then 2 else 1) = some p
      → p.cstate = 2 → ∃ t, exec (.acceptedDeadline c step) s = .next t ∧ kindOf (t.link.at c).held (if step then 2 else 1) = none ∧
      t.get (F.LINK_LINK_COUNT.ABORTS c) = min (F.LINK_LINK_COUNT.ABORTS c).top (s.get (F.LINK_LINK_COUNT.ABORTS c) + 1) ∧ t.flag 0x0E
      (20 + 8 * c.idx) = true ∧ (if step = false ∧ p.sole = false ∧ s.hState = 2 then t.hState = 0 ∧ t.plan.build = [] ∧ t.get
      F.PLAN_STATUS.REASON = 0x46 else s.keepsRegs t [R.LINK_LINK_COUNT c, R.LINK_COMMIT c]) ∧ t.mem = s.mem)
  ∧ (∀ (s : State) (c : Carrier) (step sole : Bool) (mf : Nat), s.cpu ≠ 2 → ∃ t, exec (.propose c step sole mf) s = .next t ∧ t = s)
  ∧ (∀ (s : State) (c : Carrier) (tag : Nat) (body : List Byte), s.cpu ≠ 2 → ∃ t, exec (.proposeReceived c tag body) s = .next t ∧ t =
      s)
  ∧ (∀ (s : State) (c : Carrier) (tag rtt : Nat) (body : List Byte), s.cpu ≠ 2 → ∃ t, exec (.acceptReceived c tag body rtt) s = .next
      t ∧ t = s)
  ∧ (∀ (s : State) (c : Carrier) (step : Bool), s.cpu ≠ 2 → ∃ t, exec (.commitLeftQueue c step) s = .next t ∧ t = s)
  ∧ (∀ (s : State) (c : Carrier) (tag : Nat) (body : List Byte), s.cpu ≠ 2 → ∃ t, exec (.commitReceived c tag body) s = .next t ∧ t =
      s)
  ∧ (∀ (s : State) (c : Carrier) (tag : Nat) (body : List Byte), s.cpu ≠ 2 → ∃ t, exec (.withdrawReceived c tag body) s = .next t ∧ t
      = s)
  ∧ (∀ (s : State) (c : Carrier) (tag code rtt : Nat), s.cpu ≠ 2 → ∃ t, exec (.nakReceived c tag code rtt) s = .next t ∧ t = s)
  ∧ (∀ (s : State) (c : Carrier) (step : Bool), s.cpu ≠ 2 → ∃ t, exec (.proposalDeadline c step) s = .next t ∧ t = s)
  ∧ (∀ (s : State) (c : Carrier) (step : Bool), s.cpu ≠ 2 → ∃ t, exec (.acceptedDeadline c step) s = .next t ∧ t = s)

/-- O29. SIGNAL_DETECT with the amplitude seen above SD_ON takes NO_SIGNAL to DETECT. Frame markers of a training lane: DETECT to
TRAIN, DATA to TRAIN with RETRAIN_SEEN and DATA_DOWN. CDR_CONVERGED of a lane in DETECT that does not train, and DETECT_LIMIT,
with the CDR locking to the offset: DATA with PARTNER STATIC and DATA_UP; at DETECT_LIMIT without lock FAILED, TRAIN_FAIL,
violation 0x06. TRAINING_DONE: DATA with PARTNER TRAINED and DATA_UP, the precoding as settled, LAST_MS. TRAIN_LIMIT: FAILED,
TRAIN_FAIL, violation 0x01. SIGNAL_LOST in DATA with the amplitude below SD_OFF: IDLE with ALLOW_IDLE, else SIGNAL_LOST and
DATA_DOWN, violation 0x03, NO_SIGNAL. IDLE_LIMIT in IDLE the same with 0x04. WAKE_BURST in IDLE: DATA, one of less than 1,024 UI
counted. OVERLONG_BURST in DATA or IDLE: violation 0x08. RETRAIN: NO_SIGNAL, DATA, IDLE and FAILED to DETECT, DATA_DOWN from DATA
and IDLE; in DETECT and TRAIN counted in DROPPED; in DISABLED and HOLDOFF no effect. FAILED and HOLDOFF end in NO_SIGNAL. The 16th
entry to NO_SIGNAL in a second, not from HOLDOFF, goes to HOLDOFF with HOLDOFF and violation 0x07. Concludes exec = next, on
conditions on state and operands alone, with the own effect of: signalDetect, partnerFrameMarkers, cdrConverged,
detectLimitExpired, trainingDone, trainLimitExpired, signalLost, idleLimitExpired, wakeBurst, overlongBurst, retrain,
failedWaitExpired, holdoffExpired. -/
def Obligations.LaneStatesFollowTable72 : Prop :=
  (∀ (s : State) (lane : Fin 16) (amplitude : Nat), s.laneState lane = 1 → s.get (F.HOSTLANE_IDLE_CFG.SD_ON lane) < s.amplitudeSeen
      lane amplitude → ∃ t, exec (.signalDetect lane amplitude) s = .next t ∧ t.laneState lane = 2 ∧ t.on (F.HOSTLANE_STATE.SIGNAL
      lane) = true ∧ t.mem = s.mem)
  ∧ (∀ (s : State) (lane : Fin 16), s.laneState lane = 2 → s.trains lane = true → ∃ t, exec (.partnerFrameMarkers lane) s = .next t ∧
      t.laneState lane = 3 ∧ t.get (F.HOSTLANE_LANE_COUNT.TRAINS lane) = min (F.HOSTLANE_LANE_COUNT.TRAINS lane).top (s.get
      (F.HOSTLANE_LANE_COUNT.TRAINS lane) + 1) ∧ t.on (F.HOSTLANE_STATE.CDR_LOCK lane) = true)
  ∧ (∀ (s : State) (lane : Fin 16), s.laneState lane = 4 → s.trains lane = true → ∃ t, exec (.partnerFrameMarkers lane) s = .next t ∧
      t.laneState lane = 3 ∧ t.get (F.HOSTLANE_LANE_COUNT.RETRAINS lane) = min (F.HOSTLANE_LANE_COUNT.RETRAINS lane).top (s.get
      (F.HOSTLANE_LANE_COUNT.RETRAINS lane) + 1) ∧ t.on ⟨R.HOSTLANE_EVENT lane, 5, 5⟩ = true ∧ t.on ⟨R.HOSTLANE_EVENT lane, 1, 1⟩ =
      true)
  ∧ (∀ (s : State) (lane : Fin 16) (offset : Int) (eq : LaneEq), s.laneState lane = 2 → s.trains lane = false → s.cdrLocks lane (some
      offset) = true → ∃ t, exec (.cdrConverged lane offset eq) s = .next t ∧ t.laneState lane = 4 ∧ t.get (F.HOSTLANE_STATE.PARTNER
      lane) = 2 ∧ t.on ⟨R.HOSTLANE_EVENT lane, 0, 0⟩ = true ∧ t.mem = s.mem)
  ∧ (∀ (s : State) (lane : Fin 16) (offset : Option Int) (eq : LaneEq), s.laneState lane = 2 → s.cdrLocks lane offset = true → ∃ t,
      exec (.detectLimitExpired lane offset eq) s = .next t ∧ t.laneState lane = 4 ∧ t.get (F.HOSTLANE_STATE.PARTNER lane) = 2 ∧ t.on
      ⟨R.HOSTLANE_EVENT lane, 0, 0⟩ = true)
  ∧ (∀ (s : State) (lane : Fin 16) (offset : Option Int) (eq : LaneEq), s.laneState lane = 2 → s.cdrLocks lane offset = false → ∃ t,
      exec (.detectLimitExpired lane offset eq) s = .next t ∧ t.laneState lane = 6 ∧ t.on ⟨R.HOSTLANE_EVENT lane, 2, 2⟩ = true ∧ t.get
      (F.HOSTLANE_VIOLATION.LAST lane) = 6 ∧ t.get (F.HOSTLANE_VIOLATION.COUNT lane) = min (F.HOSTLANE_VIOLATION.COUNT lane).top
      (s.get (F.HOSTLANE_VIOLATION.COUNT lane) + 1))
  ∧ (∀ (s : State) (lane : Fin 16) (ms : Nat) (granted requested : Bool) (eq : LaneEq), s.laneState lane = 3 → ∃ t, exec
      (.trainingDone lane ms granted requested eq) s = .next t ∧ t.laneState lane = 4 ∧ t.get (F.HOSTLANE_STATE.PARTNER lane) = 1 ∧
      t.on ⟨R.HOSTLANE_EVENT lane, 0, 0⟩ = true ∧ t.on (F.HOSTLANE_TX_CFG.PRECODE_TX lane) = requested ∧ t.on
      (F.HOSTLANE_RX_CFG.PRECODE_RX lane) = (s.on (F.HOSTLANE_RX_CFG.PRECODE_RX lane) && granted) ∧ t.get
      (F.HOSTLANE_TRAIN_STATUS.LAST_MS lane) = min (F.HOSTLANE_TRAIN_STATUS.LAST_MS lane).top ms)
  ∧ (∀ (s : State) (lane : Fin 16), s.laneState lane = 3 → ∃ t, exec (.trainLimitExpired lane) s = .next t ∧ t.laneState lane = 6 ∧
      t.on ⟨R.HOSTLANE_EVENT lane, 2, 2⟩ = true ∧ t.get (F.HOSTLANE_VIOLATION.LAST lane) = 1 ∧ t.get (F.HOSTLANE_VIOLATION.COUNT lane)
      = min (F.HOSTLANE_VIOLATION.COUNT lane).top (s.get (F.HOSTLANE_VIOLATION.COUNT lane) + 1))
  ∧ (∀ (s : State) (lane : Fin 16) (amplitude : Nat), s.laneState lane = 4 → s.on (F.HOSTLANE_CTRL.ALLOW_IDLE lane) = true →
      s.amplitudeSeen lane amplitude < s.get (F.HOSTLANE_IDLE_CFG.SD_OFF lane) → ∃ t, exec (.signalLost lane amplitude) s = .next t ∧
      t.laneState lane = 5 ∧ t.on (F.HOSTLANE_STATE.SIGNAL lane) = false ∧ t.on (F.HOSTLANE_STATE.CDR_LOCK lane) = false ∧ t.mem =
      s.mem)
  ∧ (∀ (s : State) (lane : Fin 16) (amplitude : Nat), s.laneState lane = 4 → s.on (F.HOSTLANE_CTRL.ALLOW_IDLE lane) = false →
      s.amplitudeSeen lane amplitude < s.get (F.HOSTLANE_IDLE_CFG.SD_OFF lane) → (s.lane lane).noSignals < 15 → ∃ t, exec (.signalLost
      lane amplitude) s = .next t ∧ t.laneState lane = 1 ∧ t.on ⟨R.HOSTLANE_EVENT lane, 3, 3⟩ = true ∧ t.on ⟨R.HOSTLANE_EVENT lane, 1,
      1⟩ = true ∧ t.get (F.HOSTLANE_LANE_COUNT.SIG_LOST lane) = min (F.HOSTLANE_LANE_COUNT.SIG_LOST lane).top (s.get
      (F.HOSTLANE_LANE_COUNT.SIG_LOST lane) + 1) ∧ t.get (F.HOSTLANE_VIOLATION.LAST lane) = 3 ∧ t.get (F.HOSTLANE_VIOLATION.COUNT
      lane) = min (F.HOSTLANE_VIOLATION.COUNT lane).top (s.get (F.HOSTLANE_VIOLATION.COUNT lane) + 1))
  ∧ (∀ (s : State) (lane : Fin 16) (amplitude : Nat), s.laneState lane = 4 → s.on (F.HOSTLANE_CTRL.ALLOW_IDLE lane) = false →
      s.amplitudeSeen lane amplitude < s.get (F.HOSTLANE_IDLE_CFG.SD_OFF lane) → 15 ≤ (s.lane lane).noSignals → lane.val <
      s.lanes.length → ∃ t, exec (.signalLost lane amplitude) s = .next t ∧ t.laneState lane = 7 ∧ t.on ⟨R.HOSTLANE_EVENT lane, 3, 3⟩
      = true ∧ t.on ⟨R.HOSTLANE_EVENT lane, 1, 1⟩ = true ∧ t.on ⟨R.HOSTLANE_EVENT lane, 8, 8⟩ = true ∧ t.get
      (F.HOSTLANE_VIOLATION.LAST lane) = 7)
  ∧ (∀ (s : State) (lane : Fin 16), s.laneState lane = 5 → 15 ≤ (s.lane lane).noSignals → lane.val < s.lanes.length → ∃ t, exec
      (.idleLimitExpired lane) s = .next t ∧ t.laneState lane = 7 ∧ t.on ⟨R.HOSTLANE_EVENT lane, 3, 3⟩ = true ∧ t.on ⟨R.HOSTLANE_EVENT
      lane, 1, 1⟩ = true ∧ t.on ⟨R.HOSTLANE_EVENT lane, 8, 8⟩ = true ∧ t.get (F.HOSTLANE_VIOLATION.LAST lane) = 7)
  ∧ (∀ (s : State) (lane : Fin 16), s.laneState lane = 5 → (s.lane lane).noSignals < 15 → ∃ t, exec (.idleLimitExpired lane) s = .next
      t ∧ t.laneState lane = 1 ∧ t.on ⟨R.HOSTLANE_EVENT lane, 3, 3⟩ = true ∧ t.on ⟨R.HOSTLANE_EVENT lane, 1, 1⟩ = true ∧ t.get
      (F.HOSTLANE_LANE_COUNT.SIG_LOST lane) = min (F.HOSTLANE_LANE_COUNT.SIG_LOST lane).top (s.get (F.HOSTLANE_LANE_COUNT.SIG_LOST
      lane) + 1) ∧ t.get (F.HOSTLANE_VIOLATION.LAST lane) = 4 ∧ t.get (F.HOSTLANE_VIOLATION.COUNT lane) = min
      (F.HOSTLANE_VIOLATION.COUNT lane).top (s.get (F.HOSTLANE_VIOLATION.COUNT lane) + 1))
  ∧ (∀ (s : State) (lane : Fin 16) (heldUi : Nat), s.laneState lane = 5 → ∃ t, exec (.wakeBurst lane heldUi) s = .next t ∧ t.laneState
      lane = 4 ∧ t.on (F.HOSTLANE_STATE.SIGNAL lane) = true ∧ t.get (F.HOSTLANE_LANE_COUNT.BURST_SHORT lane) = (if heldUi < 1024 then
      min (F.HOSTLANE_LANE_COUNT.BURST_SHORT lane).top (s.get (F.HOSTLANE_LANE_COUNT.BURST_SHORT lane) + 1) else s.get
      (F.HOSTLANE_LANE_COUNT.BURST_SHORT lane)))
  ∧ (∀ (s : State) (lane : Fin 16), s.laneState lane = 4 ∨ s.laneState lane = 5 → ∃ t, exec (.overlongBurst lane) s = .next t ∧
      t.laneState lane = s.laneState lane ∧ t.on ⟨R.HOSTLANE_EVENT lane, 7, 7⟩ = true ∧ t.get (F.HOSTLANE_VIOLATION.LAST lane) = 8 ∧
      t.get (F.HOSTLANE_VIOLATION.COUNT lane) = min (F.HOSTLANE_VIOLATION.COUNT lane).top (s.get (F.HOSTLANE_VIOLATION.COUNT lane) +
      1) ∧ s.onlyRegs t [R.HOSTLANE_VIOLATION lane, R.HOSTLANE_EVENT lane])
  ∧ (∀ (s : State) (path : Path) (lane : Fin 16), s.mayWrite path (R.HOSTLANE_CTRL lane) → s.laneState lane = 4 ∨ s.laneState lane = 5
      → ∃ t, exec (.retrain path lane) s = .next t ∧ t.laneState lane = 2 ∧ t.on ⟨R.HOSTLANE_EVENT lane, 1, 1⟩ = true ∧ t.mem = s.mem)
  ∧ (∀ (s : State) (path : Path) (lane : Fin 16), s.mayWrite path (R.HOSTLANE_CTRL lane) → s.laneState lane = 1 ∨ s.laneState lane = 6
      → ∃ t, exec (.retrain path lane) s = .next t ∧ t.laneState lane = 2 ∧ t.mem = s.mem)
  ∧ (∀ (s : State) (path : Path) (lane : Fin 16), s.mayWrite path (R.HOSTLANE_CTRL lane) → s.laneState lane = 2 ∨ s.laneState lane = 3
      → ∃ t, exec (.retrain path lane) s = .next t ∧ t = s.bump (F.HOSTLANE_TRAIN_STATUS.DROPPED lane))
  ∧ (∀ (s : State) (path : Path) (lane : Fin 16), s.mayWrite path (R.HOSTLANE_CTRL lane) → s.laneState lane = 0 ∨ s.laneState lane = 7
      → ∃ t, exec (.retrain path lane) s = .next t ∧ t = s)
  ∧ (∀ (s : State) (lane : Fin 16), s.laneState lane = 6 → (s.lane lane).noSignals < 15 → ∃ t, exec (.failedWaitExpired lane) s =
      .next t ∧ t.laneState lane = 1 ∧ t.on (F.HOSTLANE_STATE.SIGNAL lane) = s.on (F.HOSTLANE_STATE.SIGNAL lane) ∧ t.mem = s.mem)
  ∧ (∀ (s : State) (lane : Fin 16), s.laneState lane = 7 → ∃ t, exec (.holdoffExpired lane) s = .next t ∧ t.laneState lane = 1 ∧ t.on
      (F.HOSTLANE_STATE.SIGNAL lane) = s.on (F.HOSTLANE_STATE.SIGNAL lane) ∧ t.mem = s.mem)
  ∧ (∀ (s : State) (lane : Fin 16), s.laneState lane = 6 → 15 ≤ (s.lane lane).noSignals → lane.val < s.lanes.length → ∃ t, exec
      (.failedWaitExpired lane) s = .next t ∧ t.laneState lane = 7 ∧ t.on ⟨R.HOSTLANE_EVENT lane, 8, 8⟩ = true ∧ (t.lane
      lane).noSignals = 0 ∧ t.get (F.HOSTLANE_VIOLATION.LAST lane) = 7 ∧ t.get (F.HOSTLANE_VIOLATION.COUNT lane) = min
      (F.HOSTLANE_VIOLATION.COUNT lane).top (s.get (F.HOSTLANE_VIOLATION.COUNT lane) + 1))

/-- O30. TX_FFE_WRITE outside TRAIN, and in TRAIN a PARTNER_COEFF_REQUEST of a step of a tap that the Clause addresses, or of a
preset, complete and leave six taps that lie in their ranges, with at most 40 for the non-main taps together and c(0) between 24
and what they leave of 64, whenever the taps before did; they change no other register, and a request is answered. In TRAIN a
write is discarded and counted in DROPPED; a contradictory request and a step of a tap that the Clause does not address are
violation 0x02 and answered not updated. Concludes exec = next, on conditions on state and operands alone, with the own effect of:
txFfeWrite, partnerCoeffRequest. -/
def Obligations.TransmitTapsStayInBudget : Prop :=
  (∀ (s : State) (path : Path) (lane : Fin 16) (post : Bool) (value : Word), s.mayWrite path (R.HOSTLANE_TX_FFE_PRE lane) →
      s.laneState lane ≠ 3 → tapsLegal (s.taps lane) = true → ∃ t, exec (.txFfeWrite path lane post value) s = .next t ∧ tapsLegal
      (t.taps lane) = true ∧ s.onlyRegs t [R.HOSTLANE_TX_FFE_PRE lane, R.HOSTLANE_TX_FFE_POST lane])
  ∧ (∀ (s : State) (lane : Fin 16) (k : Fin 6) (up : Bool), s.laneState lane = 3 → s.addressed lane k = true → tapsLegal (s.taps lane)
      = true → ∃ t, exec (.partnerCoeffRequest lane (.step k up)) s = .next t ∧ tapsLegal (t.taps lane) = true ∧ (.trainingAnswer lane
      .updated ∈ t.sent ∨ .trainingAnswer lane .atLimit ∈ t.sent) ∧ s.onlyRegs t [R.HOSTLANE_TX_FFE_PRE lane, R.HOSTLANE_TX_FFE_POST
      lane])
  ∧ (∀ (s : State) (lane : Fin 16) (number : Fin 8), s.laneState lane = 3 → tapsLegal (s.taps lane) = true → ∃ t, exec
      (.partnerCoeffRequest lane (.preset number)) s = .next t ∧ tapsLegal (t.taps lane) = true ∧ .trainingAnswer lane .updated ∈
      t.sent ∧ s.onlyRegs t [R.HOSTLANE_TX_FFE_PRE lane, R.HOSTLANE_TX_FFE_POST lane])
  ∧ (∀ (s : State) (lane : Fin 16) (k : Fin 6) (up : Bool), s.laneState lane = 3 → s.addressed lane k = false → ∃ t, exec
      (.partnerCoeffRequest lane (.step k up)) s = .next t ∧ .trainingAnswer lane .notUpdated ∈ t.sent ∧ t.get
      (F.HOSTLANE_VIOLATION.LAST lane) = 2 ∧ t.get (F.HOSTLANE_VIOLATION.COUNT lane) = min (F.HOSTLANE_VIOLATION.COUNT lane).top
      (s.get (F.HOSTLANE_VIOLATION.COUNT lane) + 1) ∧ t.on ⟨R.HOSTLANE_EVENT lane, 7, 7⟩ = true ∧ s.onlyRegs t [R.HOSTLANE_VIOLATION
      lane, R.HOSTLANE_EVENT lane])
  ∧ (∀ (s : State) (path : Path) (lane : Fin 16) (post : Bool) (value : Word), s.mayWrite path (R.HOSTLANE_TX_FFE_PRE lane) →
      s.laneState lane = 3 → ∃ t, exec (.txFfeWrite path lane post value) s = .next t ∧ t = s.bump (F.HOSTLANE_TRAIN_STATUS.DROPPED
      lane))
  ∧ (∀ (s : State) (lane : Fin 16), s.laneState lane = 3 → ∃ t, exec (.partnerCoeffRequest lane .contradictory) s = .next t ∧
      .trainingAnswer lane .notUpdated ∈ t.sent ∧ t.get (F.HOSTLANE_VIOLATION.LAST lane) = 2 ∧ t.get (F.HOSTLANE_VIOLATION.COUNT lane)
      = min (F.HOSTLANE_VIOLATION.COUNT lane).top (s.get (F.HOSTLANE_VIOLATION.COUNT lane) + 1) ∧ t.on ⟨R.HOSTLANE_EVENT lane, 7, 7⟩ =
      true ∧ s.onlyRegs t [R.HOSTLANE_VIOLATION lane, R.HOSTLANE_EVENT lane])

/-- O31. TX_IDLE takes effect in DATA, where its end with the PLL locked sends a wake burst, and is only stored elsewhere. QUAD_UNLOCK
clears the quad's lock bit, puts its four lanes in idle and raises its bit; QUAD_RELOCK sets the lock, and IN_IDLE stays for lanes
in DISABLED, idle by TX_IDLE or in near-end loopback. A precoding write outside TRAIN that changes its bit stores it and restarts
that precoder or decoder; in TRAIN it is discarded and counted. A change of LOOP_NEAR in DATA acts as RETRAIN; writing the value
it has changes nothing. Concludes exec = next, on conditions on state and operands alone, with the own effect of: txIdleSet,
txIdleClear, quadUnlock, quadRelock, precodeWrite, loopNearWrite. -/
def Obligations.LaneTransmitControls : Prop :=
  (∀ (s : State) (path : Path) (lane : Fin 16), s.mayWrite path (R.HOSTLANE_TX_CFG lane) → s.laneState lane = 4 → lane.val <
      s.lanes.length → ∃ t, exec (.txIdleSet path lane) s = .next t ∧ t.on (F.HOSTLANE_TX_CFG.TX_IDLE lane) = true ∧ (t.lane
      lane).idle = true ∧ t.on (F.HOSTLANE_TX_CFG.IN_IDLE lane) = true ∧ s.keepsRegs t [R.HOSTLANE_TX_CFG lane, R.HOSTLANE_INJ_COUNT
      lane] ∧ t.mem = s.mem)
  ∧ (∀ (s : State) (path : Path) (lane : Fin 16), s.mayWrite path (R.HOSTLANE_TX_CFG lane) → s.laneState lane = 4 → lane.val <
      s.lanes.length → ∃ t, exec (.txIdleClear path lane) s = .next t ∧ t.on (F.HOSTLANE_TX_CFG.TX_IDLE lane) = false ∧ (t.lane
      lane).idle = false ∧ t.on (F.HOSTLANE_TX_CFG.IN_IDLE lane) = (!s.pllLocked lane || s.on (F.HOSTLANE_CTRL.LOOP_NEAR lane)) ∧
      s.keepsRegs t [R.HOSTLANE_TX_CFG lane, R.HOSTLANE_INJ_COUNT lane] ∧ t.mem = s.mem ∧ (((s.lane lane).idle = true ∧ s.pllLocked
      lane = true) → .wakeBurst lane (s.on (F.HOSTLANE_CTRL.TX_INVERT lane)) ∈ t.sent))
  ∧ (∀ (s : State) (path : Path) (lane : Fin 16), s.mayWrite path (R.HOSTLANE_TX_CFG lane) → s.laneState lane ≠ 4 → ∃ t, exec
      (.txIdleClear path lane) s = .next t ∧ t = s.set (F.HOSTLANE_TX_CFG.TX_IDLE lane) 0)
  ∧ (∀ (s : State) (path : Path) (lane : Fin 16), s.mayWrite path (R.HOSTLANE_TX_CFG lane) → s.laneState lane ≠ 4 → ∃ t, exec
      (.txIdleSet path lane) s = .next t ∧ t = s.set (F.HOSTLANE_TX_CFG.TX_IDLE lane) 1)
  ∧ (∀ (s : State) (quad : Fin 4) (i : Fin 4), ∃ t, exec (.quadUnlock quad) s = .next t ∧ t.on ⟨R.HOSTLANE_QUAD_STATUS, quad, quad⟩ =
      false ∧ t.on (F.HOSTLANE_TX_CFG.IN_IDLE (4 * quad + i)) = true ∧ t.flag 0x10 (16 + quad) = true ∧ s.keepsRegs t
      [R.HOSTLANE_QUAD_STATUS, R.HOSTLANE_TX_CFG (4 * quad), R.HOSTLANE_TX_CFG (4 * quad + 1), R.HOSTLANE_TX_CFG (4 * quad + 2),
      R.HOSTLANE_TX_CFG (4 * quad + 3)])
  ∧ (∀ (s : State) (quad : Fin 4) (i : Fin 4), ∃ t, exec (.quadRelock quad) s = .next t ∧ t.on ⟨R.HOSTLANE_QUAD_STATUS, quad, quad⟩ =
      true ∧ t.on (F.HOSTLANE_TX_CFG.IN_IDLE (4 * quad + i)) = (decide (s.laneState (4 * quad + i) = 0) || (s.lane (4 * quad +
      i)).idle || s.on (F.HOSTLANE_CTRL.LOOP_NEAR (4 * quad + i))) ∧ s.keepsRegs t [R.HOSTLANE_QUAD_STATUS, R.HOSTLANE_TX_CFG (4 *
      quad), R.HOSTLANE_INJ_COUNT (4 * quad), R.HOSTLANE_TX_CFG (4 * quad + 1), R.HOSTLANE_INJ_COUNT (4 * quad + 1), R.HOSTLANE_TX_CFG
      (4 * quad + 2), R.HOSTLANE_INJ_COUNT (4 * quad + 2), R.HOSTLANE_TX_CFG (4 * quad + 3), R.HOSTLANE_INJ_COUNT (4 * quad + 3)] ∧
      t.mem = s.mem)
  ∧ (∀ (s : State) (path : Path) (lane : Fin 16) (value : Bool), s.mayWrite path (R.HOSTLANE_TX_CFG lane) → s.laneState lane ≠ 3 →
      s.on (F.HOSTLANE_RX_CFG.PRECODE_RX lane) ≠ value → ∃ t, exec (.precodeWrite path lane true value) s = .next t ∧ t = (s.setB
      (F.HOSTLANE_RX_CFG.PRECODE_RX lane) value).precoderRestart lane true ∧ .precoderRestart lane true ∈ t.sent)
  ∧ (∀ (s : State) (path : Path) (lane : Fin 16) (value : Bool), s.mayWrite path (R.HOSTLANE_TX_CFG lane) → s.laneState lane ≠ 3 →
      s.on (F.HOSTLANE_TX_CFG.PRECODE_TX lane) ≠ value → ∃ t, exec (.precodeWrite path lane false value) s = .next t ∧ t = (s.setB
      (F.HOSTLANE_TX_CFG.PRECODE_TX lane) value).precoderRestart lane false ∧ .precoderRestart lane false ∈ t.sent)
  ∧ (∀ (s : State) (path : Path) (lane : Fin 16) (receive value : Bool), s.mayWrite path (R.HOSTLANE_TX_CFG lane) → s.laneState lane =
      3 → ∃ t, exec (.precodeWrite path lane receive value) s = .next t ∧ t = s.bump (F.HOSTLANE_TRAIN_STATUS.DROPPED lane))
  ∧ (∀ (s : State) (path : Path) (lane : Fin 16) (value : Bool), s.mayWrite path (R.HOSTLANE_CTRL lane) → s.laneState lane = 4 → s.on
      (F.HOSTLANE_CTRL.LOOP_NEAR lane) ≠ value → ∃ t, exec (.loopNearWrite path lane value) s = .next t ∧ t.on
      (F.HOSTLANE_CTRL.LOOP_NEAR lane) = value ∧ t.laneState lane = 2 ∧ t.on ⟨R.HOSTLANE_EVENT lane, 1, 1⟩ = true ∧ t.mem = s.mem)
  ∧ (∀ (s : State) (path : Path) (lane : Fin 16) (value : Bool), s.mayWrite path (R.HOSTLANE_CTRL lane) → s.on
      (F.HOSTLANE_CTRL.LOOP_NEAR lane) = value → ∃ t, exec (.loopNearWrite path lane value) s = .next t ∧ t = s)

/-- O32. CHECKER_LOCK, after the symbols counted, of an enabled checker of a lane in DATA or IDLE without lock, whose symbols lock,
sets LOCK and takes the reference; a symbol at the checker that brings 64 errors into the last 256 bits clears it, counts
LOCK_LOSSES and raises its event; any other is counted. CHK_SNAPSHOT pends, and one while a snapshot pends changes nothing;
CHK_SNAPSHOT_COPY copies the three counters into their registers, starts them anew where CLEAR was asked and raises SNAP_DONE.
SINGLE changes and counts one symbol at once, without RATE, on a lane that sends, and waits on a silent lane; BURST runs for
BURST_LEN and counts what is left of it at its end; RATE counts one of every INTERVAL symbols; STOP ends a burst with the symbols
sent counted. While a BURST runs SINGLE, BURST and RATE_START are ignored, and the end of a burst on a silent lane changes
nothing. EYE_PUBLISH of a lane in DATA publishes its figures and increments SEQ. Concludes exec = next, on conditions on state and
operands alone, with the own effect of: checkerLock, chkLockLost, chkSnapshot, chkSnapshotCopy, injSingle, injBurst, injBurstEnd,
injRateStart, injRateInterval, injStop, eyePublish. -/
def Obligations.CheckerInjectorAndEye : Prop :=
  (∀ (s : State) (lane : Fin 16) (counted rx : List (Fin 4)) (r : ChkRef), s.on (F.HOSTLANE_CHK_CFG.CHK_EN lane) = true → (s.chkRun
      lane counted).on (F.HOSTLANE_CHK_CFG.LOCK lane) = false → s.laneState lane = 4 ∨ s.laneState lane = 5 → chkLockOn (s.get
      (F.HOSTLANE_CHK_CFG.PATTERN lane)) ((((s.chkRun lane counted).laneHears lane rx).1).map (·.val)) = some r → lane.val <
      s.lanes.length → ∃ t, exec (.checkerLock lane counted rx) s = .next t ∧ t.on (F.HOSTLANE_CHK_CFG.LOCK lane) = true ∧ (t.lane
      lane).chkRef = some r ∧ (t.lane lane).chk = ((s.chkRun lane counted).lane lane).chk ∧ (s.chkRun lane counted).keepsRegs t
      [R.HOSTLANE_CHK_CFG lane, R.HOSTLANE_INJ_COUNT lane] ∧ t.mem = s.mem)
  ∧ (∀ (s : State) (lane : Fin 16) (v w : Fin 4) (r : ChkRef), s.on (F.HOSTLANE_CHK_CFG.LOCK lane) = true → (s.lane lane).chkRef =
      some r → (s.laneHears lane [v]).1 = [w] → (r.step w).2.lost = true → lane.val < s.lanes.length → ∃ t, exec (.chkLockLost lane
      [v]) s = .next t ∧ t.on (F.HOSTLANE_CHK_CFG.LOCK lane) = false ∧ (t.lane lane).chk = ((s.lane lane).chkAdd (patternBits
      r.pattern) (r.step w).1).chk ∧ (t.lane lane).chkRef = none ∧ t.get (F.HOSTLANE_CHK_CFG.LOCK_LOSSES lane) = min
      (F.HOSTLANE_CHK_CFG.LOCK_LOSSES lane).top (s.get (F.HOSTLANE_CHK_CFG.LOCK_LOSSES lane) + 1) ∧ t.on ⟨R.HOSTLANE_EVENT lane, 6, 6⟩
      = true ∧ s.keepsRegs t [R.HOSTLANE_CHK_CFG lane, R.HOSTLANE_EVENT lane, R.HOSTLANE_INJ_COUNT lane] ∧ t.mem = s.mem)
  ∧ (∀ (s : State) (lane : Fin 16) (v w : Fin 4) (r : ChkRef), s.on (F.HOSTLANE_CHK_CFG.LOCK lane) = true → (s.lane lane).chkRef =
      some r → (s.laneHears lane [v]).1 = [w] → (r.step w).2.lost = false → lane.val < s.lanes.length → ∃ t, exec (.chkLockLost lane
      [v]) s = .next t ∧ (t.lane lane).chk = ((s.lane lane).chkAdd (patternBits r.pattern) (r.step w).1).chk ∧ (t.lane lane).chkRef =
      some (r.step w).2 ∧ s.keepsRegs t [R.HOSTLANE_INJ_COUNT lane] ∧ t.mem = s.mem)
  ∧ (∀ (s : State) (path : Path) (lane : Fin 16) (clear : Bool), s.mayWrite path (R.HOSTLANE_CHK_CFG lane) → s.on
      (F.HOSTLANE_CHK_CFG.SNAP_PENDING lane) = false → lane.val < s.lanes.length → ∃ t, exec (.chkSnapshot path lane clear) s = .next
      t ∧ t.on (F.HOSTLANE_CHK_CFG.SNAP_PENDING lane) = true ∧ (t.lane lane).chkClear = clear ∧ (t.lane lane).chk = (s.lane lane).chk
      ∧ s.keepsRegs t [R.HOSTLANE_CHK_CFG lane])
  ∧ (∀ (s : State) (path : Path) (lane : Fin 16) (clear : Bool), s.mayWrite path (R.HOSTLANE_CHK_CFG lane) → s.on
      (F.HOSTLANE_CHK_CFG.SNAP_PENDING lane) = true → ∃ t, exec (.chkSnapshot path lane clear) s = .next t ∧ t = s)
  ∧ (∀ (s : State) (lane : Fin 16) (rx now : List (Fin 4)), s.on (F.HOSTLANE_CHK_CFG.SNAP_PENDING lane) = true → lane.val <
      s.lanes.length → ∃ t, exec (.chkSnapshotCopy lane rx now) s = .next t ∧ t.on (F.HOSTLANE_CHK_CFG.SNAP_PENDING lane) = false ∧
      t.get (F.HOSTLANE_CHK_BITS_LO.VALUE lane) = (nth (((s.chkRun lane rx).chkRun lane now).lane lane).chk 0 {}).value % 2 ^ 32 ∧
      t.get (F.HOSTLANE_CHK_ERR_BITS_LO.VALUE lane) = (nth (((s.chkRun lane rx).chkRun lane now).lane lane).chk 1 {}).value % 2 ^ 32 ∧
      t.get (F.HOSTLANE_CHK_ERR_SYMS_LO.VALUE lane) = (nth (((s.chkRun lane rx).chkRun lane now).lane lane).chk 2 {}).value % 2 ^ 32 ∧
      (t.lane lane).chk = snapped (s.lane lane).chkClear (((s.chkRun lane rx).chkRun lane now).lane lane).chk ∧ t.on ⟨R.HOSTLANE_EVENT
      lane, 9, 9⟩ = true ∧ t.mem = s.mem)
  ∧ (∀ (s : State) (path : Path) (lane : Fin 16), s.mayWrite path (R.HOSTLANE_INJ_CTRL lane) → (s.lane lane).burst = none → (s.lane
      lane).rate = false → s.laneSilent lane = false → lane.val < s.lanes.length → ∃ t, exec (.injSingle path lane) s = .next t ∧
      t.get (F.HOSTLANE_INJ_COUNT.INJECTED lane) = min (F.HOSTLANE_INJ_COUNT.INJECTED lane).top (s.get (F.HOSTLANE_INJ_COUNT.INJECTED
      lane) + 1) ∧ (t.lane lane).single = false ∧ s.keepsRegs t [R.HOSTLANE_INJ_CTRL lane, R.HOSTLANE_INJ_COUNT lane] ∧ t.mem = s.mem)
  ∧ (∀ (s : State) (path : Path) (lane : Fin 16), s.mayWrite path (R.HOSTLANE_INJ_CTRL lane) → (s.lane lane).burst = none →
      s.laneSilent lane = true → lane.val < s.lanes.length → ∃ t, exec (.injSingle path lane) s = .next t ∧ (t.lane lane).single =
      true ∧ s.keepsRegs t [R.HOSTLANE_INJ_CTRL lane] ∧ t.mem = s.mem)
  ∧ (∀ (s : State) (path : Path) (lane : Fin 16), s.mayWrite path (R.HOSTLANE_INJ_CTRL lane) → (s.lane lane).burst.isSome = true → ∃
      t, exec (.injSingle path lane) s = .next t ∧ t = s)
  ∧ (∀ (s : State) (path : Path) (lane : Fin 16), s.mayWrite path (R.HOSTLANE_INJ_CTRL lane) → (s.lane lane).burst.isSome = true → ∃
      t, exec (.injBurst path lane) s = .next t ∧ t = s)
  ∧ (∀ (s : State) (path : Path) (lane : Fin 16), s.mayWrite path (R.HOSTLANE_INJ_CTRL lane) → (s.lane lane).burst.isSome = true → ∃
      t, exec (.injRateStart path lane) s = .next t ∧ t = s)
  ∧ (∀ (s : State) (path : Path) (lane : Fin 16), s.mayWrite path (R.HOSTLANE_INJ_CTRL lane) → (s.lane lane).burst = none → lane.val <
      s.lanes.length → ∃ t, exec (.injBurst path lane) s = .next t ∧ (t.lane lane).burst = some (s.get (F.HOSTLANE_INJ_CTRL.BURST_LEN
      lane)) ∧ t.on (F.HOSTLANE_INJ_CTRL.ACTIVE lane) = true ∧ s.keepsRegs t [R.HOSTLANE_INJ_CTRL lane])
  ∧ (∀ (s : State) (lane : Fin 16), (s.lane lane).burst = none ∨ s.laneSilent lane = true → ∃ t, exec (.injBurstEnd lane) s = .next t
      ∧ t = s)
  ∧ (∀ (s : State) (lane : Fin 16) (len : Nat), (s.lane lane).burst = some len → s.laneSilent lane = false → lane.val < s.lanes.length
      → ∃ t, exec (.injBurstEnd lane) s = .next t ∧ (t.lane lane).burst = none ∧ t.get (F.HOSTLANE_INJ_COUNT.INJECTED lane) = min
      (F.HOSTLANE_INJ_COUNT.INJECTED lane).top (s.get (F.HOSTLANE_INJ_COUNT.INJECTED lane) + len) ∧ t.on (F.HOSTLANE_INJ_CTRL.ACTIVE
      lane) = (s.lane lane).rate ∧ s.keepsRegs t [R.HOSTLANE_INJ_CTRL lane, R.HOSTLANE_INJ_COUNT lane])
  ∧ (∀ (s : State) (path : Path) (lane : Fin 16), s.mayWrite path (R.HOSTLANE_INJ_CTRL lane) → (s.lane lane).burst = none → lane.val <
      s.lanes.length → ∃ t, exec (.injRateStart path lane) s = .next t ∧ (t.lane lane).rate = true ∧ (t.lane lane).rateCount = 0 ∧
      t.on (F.HOSTLANE_INJ_CTRL.ACTIVE lane) = true ∧ s.keepsRegs t [R.HOSTLANE_INJ_CTRL lane])
  ∧ (∀ (s : State) (lane : Fin 16) (symbols : Nat), (s.lane lane).rate = true → (s.lane lane).single = false → (s.lane lane).burst =
      none → 1 ≤ s.get (F.HOSTLANE_INJ_RATE.INTERVAL lane) → s.laneSilent lane = false → lane.val < s.lanes.length → ∃ t, exec
      (.injRateInterval lane symbols) s = .next t ∧ t.get (F.HOSTLANE_INJ_COUNT.INJECTED lane) = min (F.HOSTLANE_INJ_COUNT.INJECTED
      lane).top (s.get (F.HOSTLANE_INJ_COUNT.INJECTED lane) + ((s.lane lane).rateCount + symbols) / s.get
      (F.HOSTLANE_INJ_RATE.INTERVAL lane)) ∧ (t.lane lane).rateCount = ((s.lane lane).rateCount + symbols) % s.get
      (F.HOSTLANE_INJ_RATE.INTERVAL lane) ∧ s.keepsRegs t [R.HOSTLANE_INJ_COUNT lane] ∧ t.mem = s.mem)
  ∧ (∀ (s : State) (path : Path) (lane : Fin 16) (sent len : Nat), s.mayWrite path (R.HOSTLANE_INJ_CTRL lane) → (s.lane lane).burst =
      some len → (s.lane lane).rate = false → (s.lane lane).single = false → s.laneSilent lane = false → lane.val < s.lanes.length → ∃
      t, exec (.injStop path lane sent) s = .next t ∧ (t.lane lane).burst = none ∧ (t.lane lane).rate = false ∧ t.get
      (F.HOSTLANE_INJ_COUNT.INJECTED lane) = min (F.HOSTLANE_INJ_COUNT.INJECTED lane).top (s.get (F.HOSTLANE_INJ_COUNT.INJECTED lane)
      + min sent len) ∧ t.on (F.HOSTLANE_INJ_CTRL.ACTIVE lane) = false ∧ s.keepsRegs t [R.HOSTLANE_INJ_CTRL lane, R.HOSTLANE_INJ_COUNT
      lane])
  ∧ (∀ (s : State) (lane : Fin 16) (eye : EyeFigures) (eq : LaneEq), s.laneState lane = 4 → ∃ t, exec (.eyePublish lane eye eq) s =
      .next t ∧ t.on (F.HOSTLANE_EYE_HEIGHT.VALID lane) = true ∧ t.get (F.HOSTLANE_EYE_HEIGHT.UPPER lane) = min
      (F.HOSTLANE_EYE_HEIGHT.UPPER lane).top eye.upper ∧ t.get (F.HOSTLANE_EYE_HEIGHT.MIDDLE lane) = min (F.HOSTLANE_EYE_HEIGHT.MIDDLE
      lane).top eye.middle ∧ t.get (F.HOSTLANE_EYE_HEIGHT.LOWER lane) = min (F.HOSTLANE_EYE_HEIGHT.LOWER lane).top eye.lower ∧ t.get
      (F.HOSTLANE_EYE_WIDTH.WIDTH lane) = min (F.HOSTLANE_EYE_WIDTH.WIDTH lane).top eye.width ∧ t.get (F.HOSTLANE_EYE_WIDTH.SNR lane)
      = min (F.HOSTLANE_EYE_WIDTH.SNR lane).top eye.snr ∧ t.get (F.HOSTLANE_EYE_WIDTH.SEQ lane) = (s.get (F.HOSTLANE_EYE_WIDTH.SEQ
      lane) + 1) % ((F.HOSTLANE_EYE_WIDTH.SEQ lane).top + 1) ∧ (t.lane lane).burst = (s.lane lane).burst ∧ s.keepsRegs t
      [R.HOSTLANE_EYE_HEIGHT lane, R.HOSTLANE_EYE_WIDTH lane, R.HOSTLANE_RX_EQ_STATUS lane] ∧ t.mem = s.mem)

/-- O33. PCS_ALIGNED within the skew limit takes ALIGNING to UP with INGRESS_UP. CLIENT_ALIGN_TIMEOUT records its violation, HI_SER
0x04, and with MARKER_LOCK_LOST they take the port DOWN, or ALIGNING where all its lanes are in DATA. LPI is violation 0x0A and no
more. A frame of an UP port with a carrier is counted, and its FCS error too; it goes toward the line as one record, with ERR
where its decoding failed, after a MARK where 8,192 bytes have gone since the last; one over MAX_FRAME is cut there with ERR and
violation 0x07; one below 64 bytes is a runt with violation 0x08. An ordered set is kept and, when it changes, sent on both
carriers; a code above 3 is violation 0x0B. ORDERED_SET_REPEAT sends LF while DOWN or ALIGNING, the set kept while UP, and nothing
else. Concludes exec = next, on conditions on state and operands alone, with the own effect of: pcsAligned, clientAlignTimeout,
hiSer, markerLockLost, lpiReceived, clientFrameIngress, orderedSetIngress, orderedSetRepeat. -/
def Obligations.IngressFollowsTable83 : Prop :=
  (∀ (s : State) (port : Fin 16) (skew : Nat), s.ingress port = 2 → skew ≤ 200 → ∃ t, exec (.pcsAligned port skew) s = .next t ∧
      t.ingress port = 3 ∧ t.get (F.CLIENT_STATE.SKEW port) = min (F.CLIENT_STATE.SKEW port).top skew ∧ t.on ⟨R.CLIENT_EVENT port, 0,
      0⟩ = true ∧ s.onlyRegs t [R.CLIENT_STATE port, R.CLIENT_EVENT port])
  ∧ (∀ (s : State) (port : Fin 16) (cause : Fin 3), s.ingress port = 2 → ∃ t, exec (.clientAlignTimeout port cause) s = .next t ∧
      t.ingress port = (if s.lanesData port then 2 else 1) ∧ t.get (F.CLIENT_VIOLATION.LAST port) = cause.val + 1 ∧ t.get
      (F.CLIENT_VIOLATION.COUNT port) = min (F.CLIENT_VIOLATION.COUNT port).top (s.get (F.CLIENT_VIOLATION.COUNT port) + 1) ∧ t.on
      ⟨R.CLIENT_EVENT port, 6, 6⟩ = true ∧ t.mem = s.mem)
  ∧ (∀ (s : State) (port : Fin 16), s.ingress port = 3 → ∃ t, exec (.hiSer port) s = .next t ∧ t.ingress port = (if s.lanesData port
      then 2 else 1) ∧ t.get (F.CLIENT_VIOLATION.LAST port) = 4 ∧ t.get (F.CLIENT_VIOLATION.COUNT port) = min
      (F.CLIENT_VIOLATION.COUNT port).top (s.get (F.CLIENT_VIOLATION.COUNT port) + 1) ∧ t.on ⟨R.CLIENT_EVENT port, 6, 6⟩ = true ∧ t.on
      ⟨R.CLIENT_EVENT port, 1, 1⟩ = true ∧ t.mem = s.mem)
  ∧ (∀ (s : State) (port : Fin 16), s.ingress port = 3 → ∃ t, exec (.markerLockLost port) s = .next t ∧ t.ingress port = (if
      s.lanesData port then 2 else 1) ∧ t.on ⟨R.CLIENT_EVENT port, 1, 1⟩ = true ∧ t.mem = s.mem)
  ∧ (∀ (s : State) (port : Fin 16), s.ingress port = 3 → ∃ t, exec (.lpiReceived port) s = .next t ∧ t.ingress port = 3 ∧ t.get
      (F.CLIENT_VIOLATION.LAST port) = 0x0A ∧ t.get (F.CLIENT_VIOLATION.COUNT port) = min (F.CLIENT_VIOLATION.COUNT port).top (s.get
      (F.CLIENT_VIOLATION.COUNT port) + 1) ∧ t.on ⟨R.CLIENT_EVENT port, 6, 6⟩ = true ∧ s.onlyRegs t [R.CLIENT_VIOLATION port,
      R.CLIENT_EVENT port])
  ∧ (∀ (s : State) (port : Fin 16) (bytes : List Byte) (bad : Bool) (due : DueWords) (n : Nat), s.ingress port = 3 → 64 ≤ bytes.length
      → bytes.length ≤ s.get (F.CLIENT_FRAME.MAX_FRAME port) → s.on (F.TIME_PORT_CTRL.TC_EN port) = false → (s.port port).spoilIn = 0
      → (s.wordsDue port due).waiting port + (frameRecord bytes bad).length ≤ 8192 * s.get (F.CLIENT_CFG.SLOTS port) → s.get
      (F.CLIENT_CTRL.LOOP port) = 0 → (s.port port).segLen = some n → n < 8192 → s.mode ≠ 1 → s.portOn port .A = true → s.portOn port
      .B = false → port.val < s.ports.length → ∃ t, exec (.clientFrameIngress port ⟨bytes, bad, 0, 0, false⟩ due) s = .next t ∧ t.sent
      = .record port .A (frameRecord bytes bad) :: s.sent ∧ (t.port port).segLen = some (n + (frameRecord bytes bad).length) ∧ nth
      (t.port port).live 0 {} = nth ((s.port port).live.modify 0 (·.add 1)) 0 {} ∧ nth (t.port port).live 1 {} = nth ((s.port
      port).live.modify 1 (·.add (if fcsGood bytes then 0 else 1))) 1 {} ∧ t.regs = s.regs ∧ t.mem = s.mem)
  ∧ (∀ (s : State) (port : Fin 16) (bytes : List Byte) (due : DueWords) (n : Nat), s.ingress port = 3 → 64 ≤ bytes.length →
      bytes.length ≤ s.get (F.CLIENT_FRAME.MAX_FRAME port) → s.on (F.TIME_PORT_CTRL.TC_EN port) = false → (s.port port).spoilIn = 0 →
      (s.wordsDue port due).waiting port + (frameRecord bytes false).length ≤ 8192 * s.get (F.CLIENT_CFG.SLOTS port) → s.get
      (F.CLIENT_CTRL.LOOP port) = 0 → (s.port port).segLen = some n → 8192 ≤ n → s.mode ≠ 1 → s.portOn port .A = true → s.portOn port
      .B = false → port.val < s.ports.length → ∃ t, exec (.clientFrameIngress port ⟨bytes, false, 0, 0, false⟩ due) s = .next t ∧
      t.sent = .record port .A (frameRecord bytes false) :: .record port .A (markRecord (s.port port).mark) :: s.sent ∧ (t.port
      port).mark = ((s.port port).mark + 1) % 2 ^ 32 ∧ (t.port port).segLen = some (8 + (frameRecord bytes false).length) ∧ t.regs =
      s.regs ∧ t.mem = s.mem)
  ∧ (∀ (s : State) (port : Fin 16) (bytes : List Byte) (bad : Bool) (due : DueWords) (n : Nat), s.ingress port = 3 → 64 ≤ bytes.length
      → s.get (F.CLIENT_FRAME.MAX_FRAME port) < bytes.length → 64 ≤ s.get (F.CLIENT_FRAME.MAX_FRAME port) → s.on
      (F.TIME_PORT_CTRL.TC_EN port) = false → (s.wordsDue port due).waiting port + (frameRecord (bytes.take (s.get
      (F.CLIENT_FRAME.MAX_FRAME port))) true).length ≤ 8192 * s.get (F.CLIENT_CFG.SLOTS port) → s.get (F.CLIENT_CTRL.LOOP port) = 0 →
      (s.port port).segLen = some n → n < 8192 → s.mode ≠ 1 → s.portOn port .A = true → s.portOn port .B = false → port.val <
      s.ports.length → ∃ t, exec (.clientFrameIngress port ⟨bytes, bad, 0, 0, false⟩ due) s = .next t ∧ .record port .A (frameRecord
      (bytes.take (s.get (F.CLIENT_FRAME.MAX_FRAME port))) true) ∈ t.sent ∧ t.get (F.CLIENT_ERR.OVERSIZE port) = min
      (F.CLIENT_ERR.OVERSIZE port).top (s.get (F.CLIENT_ERR.OVERSIZE port) + 1) ∧ t.get (F.CLIENT_VIOLATION.LAST port) = 7 ∧ t.get
      (F.CLIENT_VIOLATION.COUNT port) = min (F.CLIENT_VIOLATION.COUNT port).top (s.get (F.CLIENT_VIOLATION.COUNT port) + 1) ∧ t.on
      ⟨R.CLIENT_EVENT port, 6, 6⟩ = true ∧ s.keepsRegs t [R.CLIENT_ERR port, R.CLIENT_VIOLATION port, R.CLIENT_EVENT port] ∧ t.mem =
      s.mem)
  ∧ (∀ (s : State) (port : Fin 16) (frame : ClientFrame) (due : DueWords), s.ingress port = 3 → frame.bytes.length < 64 → ∃ t, exec
      (.clientFrameIngress port frame due) s = .next t ∧ t.get (F.CLIENT_ERR.RUNTS port) = min (F.CLIENT_ERR.RUNTS port).top (s.get
      (F.CLIENT_ERR.RUNTS port) + 1) ∧ t.get (F.CLIENT_VIOLATION.LAST port) = 8 ∧ t.on ⟨R.CLIENT_EVENT port, 6, 6⟩ = true ∧ (t.port
      port).segLen = (s.port port).segLen ∧ t.ingress port = 3 ∧ t.mem = s.mem)
  ∧ (∀ (s : State) (port : Fin 16) (set : Nat) (due : DueWords) (n : Nat), s.ingress port = 3 → 1 ≤ set → set ≤ 3 → (s.port
      port).setIn ≠ set → s.get (F.CLIENT_CTRL.LOOP port) = 0 → (s.port port).segLen = some n → n < 8192 → s.mode ≠ 1 → s.portOn port
      .A = true → s.portOn port .B = true → port.val < s.ports.length → ∃ t, exec (.orderedSetIngress port set due) s = .next t ∧
      t.sent = .record port .B (setRecord set) :: .record port .A (setRecord set) :: s.sent ∧ (t.port port).setIn = set ∧ t.regs =
      s.regs ∧ t.mem = s.mem)
  ∧ (∀ (s : State) (port : Fin 16) (set : Nat) (due : DueWords), s.ingress port = 3 → set ≤ 3 → set = 0 ∨ (s.port port).setIn = set →
      port.val < s.ports.length → ∃ t, exec (.orderedSetIngress port set due) s = .next t ∧ t.sent = s.sent ∧ (t.port port).setIn =
      set ∧ t.regs = s.regs ∧ t.mem = s.mem)
  ∧ (∀ (s : State) (port : Fin 16) (set : Nat) (due : DueWords), s.ingress port = 3 → 3 < set → ∃ t, exec (.orderedSetIngress port set
      due) s = .next t ∧ t.get (F.CLIENT_VIOLATION.LAST port) = 0x0B ∧ t.get (F.CLIENT_VIOLATION.COUNT port) = min
      (F.CLIENT_VIOLATION.COUNT port).top (s.get (F.CLIENT_VIOLATION.COUNT port) + 1) ∧ t.on ⟨R.CLIENT_EVENT port, 6, 6⟩ = true ∧
      (t.port port).setIn = (s.port port).setIn ∧ s.keepsRegs t [R.CLIENT_VIOLATION port, R.CLIENT_EVENT port] ∧ t.mem = s.mem)
  ∧ (∀ (s : State) (port : Fin 16) (due : DueWords) (n : Nat), s.ingress port = 1 ∨ s.ingress port = 2 → s.get (F.CLIENT_CTRL.LOOP
      port) = 0 → (s.port port).segLen = some n → n < 8192 → s.mode ≠ 1 → s.portOn port .A = true → s.portOn port .B = false → ∃ t,
      exec (.orderedSetRepeat port due) s = .next t ∧ t.sent = .record port .A (setRecord 1) :: s.sent ∧ t.regs = s.regs ∧ t.mem =
      s.mem)
  ∧ (∀ (s : State) (port : Fin 16) (due : DueWords) (n : Nat), s.ingress port = 3 → (s.port port).setIn ≠ 0 → s.get
      (F.CLIENT_CTRL.LOOP port) = 0 → (s.port port).segLen = some n → n < 8192 → s.mode ≠ 1 → s.portOn port .A = true → s.portOn port
      .B = false → ∃ t, exec (.orderedSetRepeat port due) s = .next t ∧ t.sent = .record port .A (setRecord (s.port port).setIn) ::
      s.sent ∧ t.regs = s.regs ∧ t.mem = s.mem)
  ∧ (∀ (s : State) (port : Fin 16) (due : DueWords), s.ingress port = 0 ∨ s.ingress port = 4 ∨ (s.ingress port = 3 ∧ (s.port
      port).setIn = 0) → ∃ t, exec (.orderedSetRepeat port due) s = .next t ∧ t = s.wordsDue port due)

/-- O34. A frame of at least 64 bytes on an UP port whose record would take the bytes that wait beyond 8,192 per slot sends nothing
toward the line (the port's stream is where it was), counts in IN_DROP, and is recorded as violation 0x09, whatever else its
decoding met. Concludes exec = next, on conditions on state and operands alone, with the own effect of: clientFrameIngress. -/
def Obligations.FullIngressBufferDropsFrame : Prop :=
  ∀ (s : State) (port : Fin 16) (frame : ClientFrame) (due : DueWords), s.ingress port = 3 → 64 ≤ frame.bytes.length → 8192 * s.get
      (F.CLIENT_CFG.SLOTS port) < (s.wordsDue port due).waiting port + (frameRecord (frame.bytes.take (s.get (F.CLIENT_FRAME.MAX_FRAME
      port))) frame.bad).length → ∃ t, exec (.clientFrameIngress port frame due) s = .next t ∧ t.get (F.CLIENT_ERR.IN_DROP port) = min
      (F.CLIENT_ERR.IN_DROP port).top (s.get (F.CLIENT_ERR.IN_DROP port) + 1) ∧ t.get (F.CLIENT_VIOLATION.LAST port) = 9 ∧ min
      (F.CLIENT_VIOLATION.COUNT port).top (s.get (F.CLIENT_VIOLATION.COUNT port) + 1) ≤ t.get (F.CLIENT_VIOLATION.COUNT port) ∧ t.on
      ⟨R.CLIENT_EVENT port, 6, 6⟩ = true ∧ (t.port port).segLen = (s.port port).segLen ∧ (t.port port).mark = (s.port port).mark ∧
      t.ingress port = 3 ∧ t.mem = s.mem

/-- O35. In SYNC a frame record that the egress can carry goes to the host ASIC as it was and fills the egress buffer; a bad HEC ends
SYNC and raises HUNT, in PROTECTED with ALIGNED 0 and the copy not good. In HUNT a bad header starts anew, a first good one is
counted, and a FILL header after it gives SYNC. ORDERED_SET_TIMEOUT ends the set sent. SEGMENT_COMPLETE writes DIFF_DELAY; beyond
the buffer's delay it clears ALIGNED; with one complete segment of a MARK in both copies, both in SYNC, it sets ALIGNED and the
good bits, and switches from a bad A to a good B in TRAFFIC, with SWITCHED, SWITCHES and the wait to restore, unless FORCE_SEL
holds it; with both bad it stays. WTR_EXPIRED goes back to a good A; FORCE_SEL is stored and in PROTECTED forces a copy, each
change counted with SWITCHED. LOOP is stored, LINE as HOST in HOST_TEST. A snapshot pends, keeping a pending one; its copy writes
the six counters, with what they count in its cycle, and starts them anew where CLEAR was asked. Concludes exec = next, on
conditions on state and operands alone, with the own effect of: recordReceived, orderedSetTimeout, segmentComplete, wtrExpired,
forceSelWrite, loopWrite, clientSnapshot, clientSnapshotCopy. -/
def Obligations.EgressAndSelectorFollowTheCopies : Prop :=
  (∀ (s : State) (port : Fin 16) (c : Carrier) (bytes : List Byte) (drained : Nat), s.portOn port c = true → s.mode ≠ 1 ∧ s.mode ≠ 2 →
      (s.copyOf port c).sync = true → (s.port port).ending ≠ some c → (s.port port).spoilOut = 0 → bytes.length < 2 ^ 14 → hecGood
      (frameRecord bytes false) = true → s.on (F.CLIENT_STATE.EGRESS_DATA port) = true → (s.port port).held - drained + bytes.length ≤
      s.egressBytes port → s.get (F.CLIENT_CTRL.LOOP port) = 0 → s.on (F.TIME_PORT_CTRL.TC_EN port) = false → port.val <
      s.ports.length → ∃ t, exec (.recordReceived port c (frameRecord bytes false) false drained) s = .next t ∧ t.sent = .clientFrame
      port bytes false (t.egressGap port) :: s.sent ∧ (t.port port).held = (s.port port).held - drained + bytes.length ∧ (t.port
      port).setOut = 0 ∧ t.regs = s.regs ∧ t.mem = s.mem)
  ∧ (∀ (s : State) (port : Fin 16) (c : Carrier) (record : List Byte) (errored : Bool) (drained : Nat), s.portOn port c = true →
      s.mode ≠ 2 → (s.copyOf port c).sync = true → hecGood record = false → port.val < s.ports.length → ∃ t, exec (.recordReceived
      port c record errored drained) s = .next t ∧ (t.copyOf port c).sync = false ∧ t.on ⟨R.CLIENT_EVENT port, 7, 7⟩ = true ∧
      s.keepsRegs t [R.CLIENT_EVENT port, R.CLIENT_PROT_STATUS port])
  ∧ (∀ (s : State) (port : Fin 16) (c : Carrier) (record : List Byte) (errored : Bool) (drained : Nat), s.portOn port c = true →
      s.mode = 2 → (s.copyOf port c).sync = true → hecGood record = false → port.val < s.ports.length → ∃ t, exec (.recordReceived
      port c record errored drained) s = .next t ∧ (t.copyOf port c).sync = false ∧ t.on (F.CLIENT_STATE.ALIGNED port) = false ∧ t.on
      (goodBit port c) = false ∧ t.on ⟨R.CLIENT_EVENT port, 7, 7⟩ = true ∧ t.mem = s.mem)
  ∧ (∀ (s : State) (port : Fin 16) (c : Carrier) (errored : Bool) (drained : Nat), s.portOn port c = true → (s.copyOf port c).sync =
      false → (s.copyOf port c).found ≠ 0 → port.val < s.ports.length → ∃ t, exec (.recordReceived port c fillRecord errored drained)
      s = .next t ∧ (t.copyOf port c).sync = true ∧ t.regs = s.regs ∧ t.sent = s.sent)
  ∧ (∀ (s : State) (port : Fin 16) (c : Carrier) (record : List Byte) (errored : Bool) (drained : Nat), s.portOn port c = true →
      (s.copyOf port c).sync = false → (s.copyOf port c).found = 0 ∨ hecGood record = false → port.val < s.ports.length → ∃ t, exec
      (.recordReceived port c record errored drained) s = .next t ∧ (t.copyOf port c).sync = false ∧ (t.copyOf port c).found = (if
      hecGood record then 1 else 0) ∧ t.regs = s.regs ∧ t.sent = s.sent)
  ∧ (∀ (s : State) (port : Fin 16), port.val < s.ports.length → ∃ t, exec (.orderedSetTimeout port) s = .next t ∧ (t.port port).setOut
      = 0 ∧ t.regs = s.regs ∧ t.sent = s.sent)
  ∧ (∀ (s : State) (port : Fin 16) (delayNs drained : Nat), s.mode = 2 → s.portUsed port = true → bufferDelayNs < delayNs → ∃ t, exec
      (.segmentComplete port delayNs drained) s = .next t ∧ t.on (F.CLIENT_STATE.ALIGNED port) = false ∧ t.get
      (F.CLIENT_PROT_STATUS.DIFF_DELAY port) = min (F.CLIENT_PROT_STATUS.DIFF_DELAY port).top (roundHalfDown delayNs 1000).toNat ∧
      t.mem = s.mem)
  ∧ (∀ (s : State) (port : Fin 16) (delayNs drained : Nat) (x y : Segment), s.mode = 2 → s.portUsed port = true → delayNs ≤
      bufferDelayNs → (s.copyOf port .A).sync = true ∧ (s.copyOf port .B).sync = true → (s.copyOf port .A).segs = [x] → (s.copyOf port
      .B).segs = [y] → x.mark = y.mark → port.val < s.ports.length → ∃ t, exec (.segmentComplete port delayNs drained) s = .next t ∧
      t.on (F.CLIENT_STATE.ALIGNED port) = true ∧ t.on (F.CLIENT_PROT_STATUS.A_GOOD port) = (!x.bad) ∧ t.on
      (F.CLIENT_PROT_STATUS.B_GOOD port) = (!y.bad) ∧ (t.copyOf port .A).segs = [] ∧ (t.copyOf port .B).segs = [] ∧ t.mem = s.mem)
  ∧ (∀ (s : State) (port : Fin 16) (delayNs drained : Nat) (x y : Segment), s.mode = 2 → s.portUsed port = true → delayNs ≤
      bufferDelayNs → (s.copyOf port .A).sync = true ∧ (s.copyOf port .B).sync = true → (s.copyOf port .A).segs = [x] → (s.copyOf port
      .B).segs = [y] → x.mark = y.mark → port.val < s.ports.length → s.selected port = .A → x.bad = true → y.bad = false → s.inTraffic
      .B = true → s.get (F.CLIENT_CTRL.FORCE_SEL port) = 0 → ∃ t, exec (.segmentComplete port delayNs drained) s = .next t ∧
      t.selected port = .B ∧ t.get (F.CLIENT_PROT_STATUS.SWITCHES port) = min (F.CLIENT_PROT_STATUS.SWITCHES port).top (s.get
      (F.CLIENT_PROT_STATUS.SWITCHES port) + 1) ∧ t.on ⟨R.CLIENT_EVENT port, 4, 4⟩ = true ∧ (t.port port).wtr = s.on
      (F.CLIENT_CFG.REVERTIVE port))
  ∧ (∀ (s : State) (port : Fin 16) (delayNs drained : Nat) (x y : Segment), s.mode = 2 → s.portUsed port = true → delayNs ≤
      bufferDelayNs → (s.copyOf port .A).sync = true ∧ (s.copyOf port .B).sync = true → (s.copyOf port .A).segs = [x] → (s.copyOf port
      .B).segs = [y] → x.mark = y.mark → port.val < s.ports.length → x.bad = true ∧ y.bad = true ∨ s.get (F.CLIENT_CTRL.FORCE_SEL
      port) ≠ 0 → ∃ t, exec (.segmentComplete port delayNs drained) s = .next t ∧ t.selected port = s.selected port ∧ t.get
      (F.CLIENT_PROT_STATUS.SWITCHES port) = s.get (F.CLIENT_PROT_STATUS.SWITCHES port))
  ∧ (∀ (s : State) (port : Fin 16), (s.port port).wtr = true → s.selected port = .B → s.on (F.CLIENT_CFG.REVERTIVE port) = true →
      s.get (F.CLIENT_CTRL.FORCE_SEL port) = 0 → s.copyGood port .A = true → s.copySd .A = false → ∃ t, exec (.wtrExpired port) s =
      .next t ∧ t.selected port = .A ∧ t.get (F.CLIENT_PROT_STATUS.SWITCHES port) = min (F.CLIENT_PROT_STATUS.SWITCHES port).top
      (s.get (F.CLIENT_PROT_STATUS.SWITCHES port) + 1) ∧ t.on ⟨R.CLIENT_EVENT port, 4, 4⟩ = true ∧ s.keepsRegs t [R.CLIENT_STATE port,
      R.CLIENT_PROT_STATUS port, R.CLIENT_EVENT port])
  ∧ (∀ (s : State) (path : Path) (port : Fin 16) (value : Fin 4), s.mayWrite path (R.CLIENT_CTRL port) → s.portUsed port = true →
      s.mode = 2 → 1 ≤ value.val → s.get (F.CLIENT_STATE.SELECTED port) ≠ min 2 value.val → ∃ t, exec (.forceSelWrite path port value)
      s = .next t ∧ t.get (F.CLIENT_CTRL.FORCE_SEL port) = min 2 value.val ∧ t.get (F.CLIENT_STATE.SELECTED port) = min 2 value.val ∧
      t.get (F.CLIENT_PROT_STATUS.SWITCHES port) = min (F.CLIENT_PROT_STATUS.SWITCHES port).top (s.get (F.CLIENT_PROT_STATUS.SWITCHES
      port) + 1) ∧ t.on ⟨R.CLIENT_EVENT port, 4, 4⟩ = true ∧ s.keepsRegs t [R.CLIENT_CTRL port, R.CLIENT_STATE port,
      R.CLIENT_PROT_STATUS port, R.CLIENT_EVENT port])
  ∧ (∀ (s : State) (path : Path) (port : Fin 16) (value : Fin 4), s.mayWrite path (R.CLIENT_CTRL port) → s.portUsed port = true →
      s.mode ≠ 2 ∨ value.val = 0 → ∃ t, exec (.forceSelWrite path port value) s = .next t ∧ t = s.set (F.CLIENT_CTRL.FORCE_SEL port)
      (min 2 value.val))
  ∧ (∀ (s : State) (path : Path) (port : Fin 16) (value : Fin 4), s.mayWrite path (R.CLIENT_CTRL port) → s.portUsed port = true → ∃ t,
      exec (.loopWrite path port value) s = .next t ∧ t.get (F.CLIENT_CTRL.LOOP port) = (if s.mode = 7 then min 1 value.val else min 2
      value.val) ∧ s.keepsRegs t [R.CLIENT_CTRL port, R.CLIENT_STATE port, R.CLIENT_EVENT port] ∧ t.mem = s.mem)
  ∧ (∀ (s : State) (path : Path) (port : Fin 16) (clear : Bool), s.mayWrite path (R.CLIENT_CTRL port) → s.portUsed port = true →
      port.val < s.ports.length → ∃ t, exec (.clientSnapshot path port clear) s = .next t ∧ (t.port port).snap = some ((s.port
      port).snap.getD clear) ∧ (t.port port).live = (s.port port).live ∧ t.regs = s.regs)
  ∧ (∀ (s : State) (port : Fin 16) (clear : Bool) (now : List Nat), (s.port port).snap = some clear → port.val < s.ports.length → ∃ t,
      exec (.clientSnapshotCopy port now) s = .next t ∧ t.get (F.CLIENT_IN_FRAMES_LO.VALUE port) = (nth (counted now (s.port
      port).live) 0 {}).value % 2 ^ 32 ∧ t.get (F.CLIENT_IN_FCS_ERR_LO.VALUE port) = (nth (counted now (s.port port).live) 1 {}).value
      % 2 ^ 32 ∧ t.get (F.CLIENT_RS_CORR_LO.VALUE port) = (nth (counted now (s.port port).live) 2 {}).value % 2 ^ 32 ∧ t.get
      (F.CLIENT_RS_UNCORR_LO.VALUE port) = (nth (counted now (s.port port).live) 3 {}).value % 2 ^ 32 ∧ t.get
      (F.CLIENT_OUT_FRAMES_LO.VALUE port) = (nth (counted now (s.port port).live) 4 {}).value % 2 ^ 32 ∧ t.get
      (F.CLIENT_OUT_ERR_LO.VALUE port) = (nth (counted now (s.port port).live) 5 {}).value % 2 ^ 32 ∧ (t.port port).snap = none ∧
      (t.port port).live = snapped clear (counted now (s.port port).live) ∧ t.on ⟨R.CLIENT_EVENT port, 8, 8⟩ = true ∧ t.mem = s.mem)

/-- O36. A write of TIME_SET's upper word that reaches it sets the clock to the staged and written words, sets VALID, cancels the slew
and raises CLOCK_SET. INVALIDATE clears VALID. TIME_ADJ in STEP mode moves the clock by the offset and raises STEPPED; in SLEW
mode it adds to the slew remainder. SLEW_COMPLETE ends the slew where the TIME domain's clock runs. With no command waiting (and
no slew, and no image on trial) a second passes on the running clock at the applied frequency. Concludes exec = next, on
conditions on state and operands alone, with the own effect of: timeSetCommit, invalidate, timeAdjCommit, slewComplete. -/
def Obligations.ClockIsSetAndAdjusted : Prop :=
  (∀ (s : State) (path : Path) (value : Word), s.mayWrite path R.TIME_SET_3 → ∃ t, exec (.timeSetCommit path value) s = .next t ∧
      t.clock = Clock.ofTicks (Clock.ticks (clockOfWords (s.staged path R.TIME_SET_0) (s.staged path R.TIME_SET_1) (s.staged path
      R.TIME_SET_2) value)) ∧ t.on F.TIME_STATUS.VALID = true ∧ t.time.slew = 0 ∧ t.on F.TIME_STATUS.SLEWING = false ∧ t.flag 0x14 4 =
      true ∧ (s.ttState ≠ 0 → t.ttState = 1) ∧ t.mem = s.mem)
  ∧ (∀ (s : State) (path : Path), s.mayWrite path R.TIME_CTRL → ∃ t, exec (.invalidate path) s = .next t ∧ t = s.set
      F.TIME_STATUS.VALID 0)
  ∧ (∀ (s : State) (path : Path) (value : Word), s.mayWrite path R.TIME_ADJ_HI → s.on F.TIME_ADJ_CTRL.MODE = false → ∃ t, exec
      (.timeAdjCommit path value) s = .next t ∧ t.clock = Clock.ofTicks (s.clock.ticks + (toSigned 32 value.toNat * 65536 + (bitsOf
      (s.staged path R.TIME_ADJ_LO) 31 16 : Int)) * 65536) ∧ t.flag 0x14 5 = true ∧ t.time.slew = s.time.slew ∧ t.mem = s.mem)
  ∧ (∀ (s : State) (path : Path) (value : Word), s.mayWrite path R.TIME_ADJ_HI → s.on F.TIME_ADJ_CTRL.MODE = true → ∃ t, exec
      (.timeAdjCommit path value) s = .next t ∧ t.clock = s.clock ∧ t.time.slew = s.time.slew + (toSigned 32 value.toNat * 65536 +
      (bitsOf (s.staged path R.TIME_ADJ_LO) 31 16 : Int)) ∧ t.on F.TIME_STATUS.SLEWING = decide (t.time.slew ≠ 0) ∧ s.keepsRegs t
      [R.TIME_STATUS, R.TIME_ADJ_REMAIN, R.TIME_FREQ_APPLIED] ∧ t.mem = s.mem)
  ∧ (∀ (s : State), s.timeRuns = true → ∃ t, exec (.slewComplete) s = .next t ∧ t.time.slew = 0 ∧ t.clock = Clock.ofTicks
      (s.clock.ticks + s.time.slew * 65536) ∧ t.on F.TIME_STATUS.SLEWING = false ∧ t.mem = s.mem)
  ∧ (∀ (s : State), s.pending = [] → s.timeRuns = true → s.time.slew = 0 → s.get F.SEC_FW_STATUS.TRIAL_LEFT = 0 → ∃ t, step s = .next
      t ∧ t.clock = Clock.ofTicks (s.clock.ticks + secTicks + clampI (-freqTop * 256) (freqTop * 256) (s.baseFreq * 256) * 65536) ∧
      t.time.slew = 0 ∧ t.pending = [])

/-- O37. REF_LOST without HOLDOVER clears PLL_LOCK, sets HOLDOVER and raises its bit; REF_RESTORED in HOLDOVER undoes it and raises
REF_RESTORED; each is ignored otherwise. A rising edge of TC0, measured against the nearest whole second, with SERVO_EN makes the
servo the source of the frequency: a first one beyond STEP_US steps the clock by minus the offset, any other sets the frequency by
the PI law. A complete transfer set whose departure is missing, lies in a multiframe marked SLIP or in the one after it, whose
overhead was not good, or whose mean delay is negative or above 250 ms, is discarded and counted; a good one in WAIT writes OFFSET
and DELAY, increments SEQ and goes to MEASURING. TT_SET_TIMEOUT goes back to WAIT, with SYNC_LOST from SYNCED. Concludes exec =
next, on conditions on state and operands alone, with the own effect of: refLost, refRestored, servoMeasurement, ttMeasurement,
ttSetTimeout. -/
def Obligations.ReferencesServoAndLineTransfer : Prop :=
  (∀ (s : State), s.on F.TIME_STATUS.HOLDOVER = false → ∃ t, exec (.refLost) s = .next t ∧ t.on F.TIME_STATUS.HOLDOVER = true ∧ t.on
      F.TIME_STATUS.PLL_LOCK = false ∧ t.flag 0x14 2 = true ∧ s.onlyRegs t [R.TIME_STATUS])
  ∧ (∀ (s : State), s.on F.TIME_STATUS.HOLDOVER = true → ∃ t, exec (.refRestored) s = .next t ∧ t.on F.TIME_STATUS.HOLDOVER = false ∧
      t.on F.TIME_STATUS.PLL_LOCK = true ∧ t.flag 0x14 3 = true ∧ s.onlyRegs t [R.TIME_STATUS])
  ∧ (∀ (s : State), s.on F.TIME_STATUS.HOLDOVER = true → ∃ t, exec (.refLost) s = .next t ∧ t = s)
  ∧ (∀ (s : State), s.on F.TIME_STATUS.HOLDOVER = false → ∃ t, exec (.refRestored) s = .next t ∧ t = s)
  ∧ (∀ (s : State) (edge : Stamp), s.get F.TIME_STATUS.REF = 2 → s.on F.TIME_CTRL.SERVO_EN = true → s.time.first = true → (s.get
      F.TIME_SERVO.STEP_US * 1000 * 65536 : Int) < (wholeSecondOffset (stampUnits edge)).natAbs → ∃ t, exec (.servoMeasurement edge) s
      = .next t ∧ t.clock = Clock.ofTicks (s.clock.ticks - wholeSecondOffset (stampUnits edge) * 65536) ∧ t.time.first = false ∧
      t.time.servoF = some (s.time.servoF.getD 0) ∧ t.on F.TIME_STATUS.SERVO_ACTIVE = true ∧ t.flag 0x14 5 = true ∧ t.mem = s.mem)
  ∧ (∀ (s : State) (edge : Stamp), s.get F.TIME_STATUS.REF = 2 → s.on F.TIME_CTRL.SERVO_EN = true → s.time.first = false → ∃ t, exec
      (.servoMeasurement edge) s = .next t ∧ t.clock = s.clock ∧ t.time.integ = s.time.integ + wholeSecondOffset (stampUnits edge) ∧
      t.time.servoF = some (clampI (-freqTop) freqTop (-(wholeSecondOffset (stampUnits edge) / 256 / 2 ^ s.get F.TIME_SERVO.KP +
      (s.time.integ + wholeSecondOffset (stampUnits edge)) / 256 / 2 ^ s.get F.TIME_SERVO.KI))) ∧ t.on F.TIME_STATUS.SERVO_ACTIVE =
      true ∧ t.mem = s.mem)
  ∧ (∀ (s : State) (m : TransferSet), s.time.set = some m → s.ttState ≠ 0 → m.valid = true → s.on F.TIME_STATUS.VALID = true →
      s.departure m.ref = none → ∃ t, exec (.ttMeasurement) s = .next t ∧ t = (s.onTime fun x => { x with set := none }).bump
      F.TIME_TT_STATUS.DISCARDED)
  ∧ (∀ (s : State) (m : TransferSet) (t3 : Int) (slip : Bool), s.time.set = some m → s.ttState ≠ 0 → m.valid = true → s.on
      F.TIME_STATUS.VALID = true → s.departure m.ref = some (t3, slip) → slip = true ∨ m.good = false ∨ (m.t2 - m.t1 + (m.t4 - t3 /
      65536)) / 2 < 0 ∨ 250000000 * 65536 < (m.t2 - m.t1 + (m.t4 - t3 / 65536)) / 2 → ∃ t, exec (.ttMeasurement) s = .next t ∧ t =
      (s.onTime fun x => { x with set := none }).bump F.TIME_TT_STATUS.DISCARDED)
  ∧ (∀ (s : State) (m : TransferSet) (t3 : Int), s.time.set = some m → s.ttState = 1 → m.valid = true → m.good = true → s.on
      F.TIME_STATUS.VALID = true → s.departure m.ref = some (t3, false) → 0 ≤ (m.t2 - m.t1 + (m.t4 - t3 / 65536)) / 2 → (m.t2 - m.t1 +
      (m.t4 - t3 / 65536)) / 2 ≤ 250000000 * 65536 → s.lineSteers = false → s.time.ttIn < 15 → ∃ t, exec (.ttMeasurement) s = .next t
      ∧ t.ttState = 2 ∧ t.getS F.TIME_TT_OFFSET.VALUE = clampI (-(2 ^ 31)) (2 ^ 31 - 1) (((m.t2 - m.t1 - (m.t4 - t3 / 65536)) / 2 -
      (if s.get F.TIME_STATUS.ROLE = 2 then s.getS F.TIME_ASYMMETRY.VALUE else -s.getS F.TIME_ASYMMETRY.VALUE)) / 256) ∧ t.get
      F.TIME_TT_STATUS.SEQ = (s.get F.TIME_TT_STATUS.SEQ + 1) % (F.TIME_TT_STATUS.SEQ.top + 1) ∧ t.get F.TIME_TT_DELAY.VALUE = min
      F.TIME_TT_DELAY.VALUE.top ((m.t2 - m.t1 + (m.t4 - t3 / 65536)) / 2 / 65536).toNat ∧ t.clock = s.clock ∧ t.mem = s.mem)
  ∧ (∀ (s : State), s.ttState ≠ 0 → ∃ t, exec (.ttSetTimeout) s = .next t ∧ t.ttState = 1 ∧ (s.ttState = 3 → t.flag 0x14 1 = true) ∧
      t.time.ttIn = 0 ∧ t.clock = s.clock ∧ t.mem = s.mem)

/-- O38. TP_ARM with a START at least 1 us ahead makes the output ACTIVE with its leading edge at START; a late START sets LATE with
its bit and in ONCE mode arms nothing, in PERIODIC mode the first START + k periods at least 1 us ahead. TP_STOP ends an output at
once between pulses, after the pulse in one. TP_EDGE of an ACTIVE output, while the TIME domain's clock runs, issues the leading
edge, by POLARITY, and the trailing one, which ends a ONCE output. An edge of the selected kind on an enabled capture input that
is not masked, and whose queue has room, is stamped with the qualifier delay and DELAY taken off, and raises the input's bit; with
16 waiting it is lost and counted. Reading the low word takes the oldest stamp and latches its upper words for the path, with OVF
if stamps were lost before it; the bit falls with the last; an empty queue reads 0. Concludes exec = next, on conditions on state
and operands alone, with the own effect of: tpArm, tpStop, tpEdge, captureEdge, captureRead. -/
def Obligations.PulsesAndCaptures : Prop :=
  (∀ (s : State) (path : Path) (n : Fin 4), s.mayWrite path (R.TP_CTRL n) → s.clock.ticks + 1000 * nsTicks ≤ (s.tpStart n).ticks →
      n.val < s.time.pulses.length → ∃ t, exec (.tpArm path n) s = .next t ∧ t.on (F.TP_CTRL.ACTIVE n) = true ∧ (t.pulse n).lead =
      (s.tpStart n).ticks ∧ (t.pulse n).period = clampN 20 4294967295 (s.get (F.TP_PERIOD.NS n)) * nsTicks ∧ (t.pulse n).high = false
      ∧ s.keepsRegs t [R.TP_CTRL n] ∧ t.mem = s.mem)
  ∧ (∀ (s : State) (path : Path) (n : Fin 4), s.mayWrite path (R.TP_CTRL n) → (s.tpStart n).ticks < s.clock.ticks + 1000 * nsTicks →
      s.on (F.TP_CTRL.MODE n) = false → ∃ t, exec (.tpArm path n) s = .next t ∧ t.on (F.TP_CTRL.LATE n) = true ∧ t.on
      (F.TP_CTRL.ACTIVE n) = s.on (F.TP_CTRL.ACTIVE n) ∧ t.flag 0x14 (8 + n) = true ∧ s.onlyRegs t [R.TP_CTRL n])
  ∧ (∀ (s : State) (path : Path) (n : Fin 4), s.mayWrite path (R.TP_CTRL n) → (s.tpStart n).ticks < s.clock.ticks + 1000 * nsTicks →
      s.on (F.TP_CTRL.MODE n) = true → n.val < s.time.pulses.length → ∃ t, exec (.tpArm path n) s = .next t ∧ t.on (F.TP_CTRL.LATE n)
      = true ∧ t.on (F.TP_CTRL.ACTIVE n) = true ∧ s.clock.ticks + 1000 * nsTicks ≤ (t.pulse n).lead ∧ (t.pulse n).lead < s.clock.ticks
      + 1000 * nsTicks + (t.pulse n).period ∧ (t.pulse n).lead % (t.pulse n).period = (s.tpStart n).ticks % (t.pulse n).period ∧
      t.flag 0x14 (8 + n) = true ∧ s.keepsRegs t [R.TP_CTRL n])
  ∧ (∀ (s : State) (path : Path) (n : Fin 4), s.mayWrite path (R.TP_CTRL n) → (s.pulse n).high = false → ∃ t, exec (.tpStop path n) s
      = .next t ∧ t = s.set (F.TP_CTRL.ACTIVE n) 0)
  ∧ (∀ (s : State) (path : Path) (n : Fin 4), s.mayWrite path (R.TP_CTRL n) → (s.pulse n).high = true → n.val < s.time.pulses.length →
      ∃ t, exec (.tpStop path n) s = .next t ∧ (t.pulse n).stopping = true ∧ (t.pulse n).high = true ∧ t.regs = s.regs)
  ∧ (∀ (s : State) (n : Fin 4), s.timeRuns = true → s.on (F.TP_CTRL.ACTIVE n) = true → (s.pulse n).high = false → n.val <
      s.time.pulses.length → ∃ t, exec (.tpEdge n) s = .next t ∧ (t.pulse n).high = true ∧ .pulse n (!s.on (F.TP_CTRL.POLARITY n)) ∈
      t.sent ∧ t.regs = s.regs ∧ t.mem = s.mem)
  ∧ (∀ (s : State) (n : Fin 4), s.timeRuns = true → s.on (F.TP_CTRL.ACTIVE n) = true → (s.pulse n).high = true → n.val <
      s.time.pulses.length → ∃ t, exec (.tpEdge n) s = .next t ∧ (t.pulse n).high = false ∧ (t.pulse n).lead = (s.pulse n).lead +
      (s.pulse n).period ∧ .pulse n (s.on (F.TP_CTRL.POLARITY n)) ∈ t.sent ∧ t.on (F.TP_CTRL.ACTIVE n) = (s.on (F.TP_CTRL.MODE n) &&
      !(s.pulse n).stopping) ∧ s.keepsRegs t [R.TP_CTRL n])
  ∧ (∀ (s : State) (m : Fin 2) (falling : Bool), s.on (F.PINS_QUAL_STATUS.MASKED (3 + m)) = false → s.captureOn m = true → (s.get
      (F.TC_CTRL.EDGE m) = 3 ∨ s.get (F.TC_CTRL.EDGE m) = (if falling then 2 else 1)) → (s.capture m).queue.length < 16 → m.val <
      s.time.captures.length → ∃ t, exec (.captureEdge m falling) s = .next t ∧ (t.capture m).queue = (s.capture m).queue ++
      [(s.tcStamp m s.clock.ticks, falling)] ∧ t.get (F.TC_CTRL.LEVEL m) = (s.capture m).queue.length + 1 ∧ t.flag 0x14 (12 + m) =
      true ∧ ((m ≠ 0 ∨ falling = true) → s.keepsRegs t [R.TC_CTRL m]) ∧ t.mem = s.mem)
  ∧ (∀ (s : State) (m : Fin 2) (falling : Bool), s.on (F.PINS_QUAL_STATUS.MASKED (3 + m)) = false → s.captureOn m = true → (s.get
      (F.TC_CTRL.EDGE m) = 3 ∨ s.get (F.TC_CTRL.EDGE m) = (if falling then 2 else 1)) → 16 ≤ (s.capture m).queue.length → m.val <
      s.time.captures.length → ∃ t, exec (.captureEdge m falling) s = .next t ∧ (t.capture m).queue = (s.capture m).queue ∧ (t.capture
      m).lost = true ∧ t.get (F.TC_CTRL.LOST m) = min (F.TC_CTRL.LOST m).top (s.get (F.TC_CTRL.LOST m) + 1) ∧ t.flag 0x14 (14 + m) =
      true)
  ∧ (∀ (s : State) (path : Path) (m : Fin 2) (v : Clock) (falling : Bool) (rest : List (Clock × Bool)), s.unheard path false = false →
      s.isDown (R.TC_CAP_0 m) = false → (s.capture m).queue = (v, falling) :: rest → m.val < s.time.captures.length → ∃ t, exec
      (.captureRead path m) s = .next t ∧ (t.capture m).queue = rest ∧ (t.capture m).lost = false ∧ (rest = [] → t.flag 0x14 (12 + m)
      = false) ∧ t.readData = timeWord v 0 ||| BitVec.ofNat 32 (1 + (if falling then 2 else 0) + (if (s.capture m).lost then 4 else
      0)) ∧ t.shadow path (R.TC_CAP_1 m) = timeWord v 1 ∧ t.shadow path (R.TC_CAP_2 m) = timeWord v 2 ∧ t.shadow path (R.TC_CAP_3 m) =
      timeWord v 3 ∧ s.keepsRegs t [R.TC_CTRL m])
  ∧ (∀ (s : State) (path : Path) (m : Fin 2), s.unheard path false = false → s.isDown (R.TC_CAP_0 m) = false → (s.capture m).queue =
      [] → ∃ t, exec (.captureRead path m) s = .next t ∧ t = { s with readData := 0 })

/-- O39. GO of Plough while the modem is free sets BUSY and, where nothing refuses the packet, sends it whitened with preamble, sync
word, length byte and CRC; a carrier that is dark or does not inject refuses it with its REASON, or with LOOP = 1 lets it on air
in the part alone; GO while BUSY and another path's GO are discarded and counted. ABORT while BUSY sets ABORTED. TX_PACKET_END
clears BUSY, counts SENT and raises TX_DONE. SYNC, SYNC_N and the return of ADC-B samples reset all chains: receptions abandoned
and counted, outputs unsettled, the DC level to be loaded with the fast phase, first window not valid. CHAIN_SETTLED, after its
samples, marks a chain with no output left to mark and no other. The samples of DETECTOR_WINDOW_END while ADC-B runs go through
the DC blocker, and their clips are counted; those that complete the window publish the input's detectors together and advance
SEQ, fewer only add to the window. Concludes exec = next, on conditions on state and operands alone, with the own effect of: go,
abort, txPacketEnd, sync, syncN, adcbSamplesReturn, chainSettled, detectorWindowEnd. -/
def Obligations.HeadlandSendingAndResets : Prop :=
  (∀ (s : State) (c : Carrier), s.isDown R.HEADLAND_TX_CTRL = false → s.on F.HEADLAND_TX_CTRL.BUSY = false → c = Carrier.ofIdx (s.get
      F.HEADLAND_TX_CTRL.CARRIER) → s.headlandRefusal c = none → ∃ t, exec (.go .plough) s = .next t ∧ t.on F.HEADLAND_TX_CTRL.BUSY =
      true ∧ t.on F.HEADLAND_TX_CTRL.ABORTED = false ∧ t.sent = .headland c (s.get F.HEADLAND_TX_CTRL.SUB) (packetOf (s.rd
      R.HEADLAND_SYNC_WORD) s.txPayload) :: s.sent ∧ t.headlandActive c = true ∧ s.keepsRegs t [R.HEADLAND_TX_CTRL,
      R.HEADLAND_TX_STATUS] ∧ t.mem = s.mem)
  ∧ (∀ (s : State) (r : Nat), s.isDown R.HEADLAND_TX_CTRL = false → s.on F.HEADLAND_TX_CTRL.BUSY = false → s.headlandRefusal
      (Carrier.ofIdx (s.get F.HEADLAND_TX_CTRL.CARRIER)) = some r → s.on F.HEADLAND_IN_CFG.LOOP = false → ∃ t, exec (.go .plough) s =
      .next t ∧ t.on F.HEADLAND_TX_CTRL.BUSY = false ∧ t.get F.HEADLAND_TX_STATUS.REASON = r ∧ t.get (F.HEADLAND_TX_COUNT.REFUSED) =
      min (F.HEADLAND_TX_COUNT.REFUSED).top (s.get (F.HEADLAND_TX_COUNT.REFUSED) + 1) ∧ t.flag 0x16 3 = true ∧ s.onlyRegs t
      [R.HEADLAND_TX_STATUS, R.HEADLAND_TX_COUNT])
  ∧ (∀ (s : State) (r : Nat), s.isDown R.HEADLAND_TX_CTRL = false → s.on F.HEADLAND_TX_CTRL.BUSY = false → s.headlandRefusal
      (Carrier.ofIdx (s.get F.HEADLAND_TX_CTRL.CARRIER)) = some r → s.on F.HEADLAND_IN_CFG.LOOP = true → ∃ t, exec (.go .plough) s =
      .next t ∧ t.on F.HEADLAND_TX_CTRL.BUSY = true ∧ t.on F.HEADLAND_TX_CTRL.ABORTED = false ∧ t.sent = s.sent ∧ s.keepsRegs t
      [R.HEADLAND_TX_CTRL, R.HEADLAND_TX_STATUS] ∧ t.mem = s.mem)
  ∧ (∀ (s : State), s.isDown R.HEADLAND_TX_CTRL = false → s.on F.HEADLAND_TX_CTRL.BUSY = true → ∃ t, exec (.go .plough) s = .next t ∧
      t = s.bump F.HEADLAND_TX_COUNT.DROPPED)
  ∧ (∀ (s : State) (path : Path), s.isDown R.HEADLAND_TX_CTRL = false → path ≠ .plough → ∃ t, exec (.go path) s = .next t ∧ t = s.bump
      F.HEADLAND_TX_COUNT.DROPPED)
  ∧ (∀ (s : State), s.isDown R.HEADLAND_TX_CTRL = false → s.on F.HEADLAND_TX_CTRL.BUSY = true → ∃ t, exec (.abort .plough) s = .next t
      ∧ t = s.set F.HEADLAND_TX_CTRL.ABORTED 1)
  ∧ (∀ (s : State), s.on F.HEADLAND_TX_CTRL.BUSY = true → s.head.waiting = [] → ∃ t, exec (.txPacketEnd) s = .next t ∧ t.on
      F.HEADLAND_TX_CTRL.BUSY = false ∧ t.get (F.HEADLAND_TX_COUNT.SENT) = min (F.HEADLAND_TX_COUNT.SENT).top (s.get
      (F.HEADLAND_TX_COUNT.SENT) + 1) ∧ t.flag 0x16 2 = true ∧ s.onlyRegs t [R.HEADLAND_TX_CTRL, R.HEADLAND_TX_COUNT, R.FURROW_TX_HL
      .A, R.FURROW_TX_HL .B])
  ∧ (∀ (s : State) (path : Path) (chain : Fin 8), s.mayWrite path R.HEADLAND_IN_CFG → ∃ t, exec (.sync path) s = .next t ∧ t.rxHl
      chain = 0 ∧ t.on (F.HEADLAND_CHAIN_STATUS.SETTLED chain) = false ∧ t.on F.HEADLAND_DC_LEVEL.SETTLED = false ∧ t.on
      F.HEADLAND_IN_DET.VALID = false ∧ t.head.firstWindow = true ∧ t.head.dc = none ∧ t.head.fast = 1024 ∧ t.head.queue =
      s.head.queue ∧ (s.rxHl chain ≠ 0 → t.get (F.HEADLAND_CHAIN_CAPTURE.ABANDONED chain) = min (F.HEADLAND_CHAIN_CAPTURE.ABANDONED
      chain).top (s.get (F.HEADLAND_CHAIN_CAPTURE.ABANDONED chain) + 1)) ∧ t.flag 0x16 8 = true ∧ t.mem = s.mem)
  ∧ (∀ (s : State) (chain : Fin 8), ∃ t, exec (.syncN) s = .next t ∧ t.rxHl chain = 0 ∧ t.on (F.HEADLAND_CHAIN_STATUS.SETTLED chain) =
      false ∧ t.on F.HEADLAND_DC_LEVEL.SETTLED = false ∧ t.on F.HEADLAND_IN_DET.VALID = false ∧ t.head.firstWindow = true ∧ t.head.dc
      = none ∧ t.head.fast = 1024 ∧ t.head.queue = s.head.queue ∧ (s.rxHl chain ≠ 0 → t.get (F.HEADLAND_CHAIN_CAPTURE.ABANDONED chain)
      = min (F.HEADLAND_CHAIN_CAPTURE.ABANDONED chain).top (s.get (F.HEADLAND_CHAIN_CAPTURE.ABANDONED chain) + 1)) ∧ t.flag 0x16 8 =
      true ∧ t.mem = s.mem)
  ∧ (∀ (s : State) (chain : Fin 8), ∃ t, exec (.adcbSamplesReturn) s = .next t ∧ t.rxHl chain = 0 ∧ t.on
      (F.HEADLAND_CHAIN_STATUS.SETTLED chain) = false ∧ t.on F.HEADLAND_DC_LEVEL.SETTLED = false ∧ t.on F.HEADLAND_IN_DET.VALID =
      false ∧ t.head.firstWindow = true ∧ t.head.dc = none ∧ t.head.fast = 1024 ∧ t.head.queue = s.head.queue ∧ (s.rxHl chain ≠ 0 →
      t.get (F.HEADLAND_CHAIN_CAPTURE.ABANDONED chain) = min (F.HEADLAND_CHAIN_CAPTURE.ABANDONED chain).top (s.get
      (F.HEADLAND_CHAIN_CAPTURE.ABANDONED chain) + 1)) ∧ t.mem = s.mem)
  ∧ (∀ (s : State) (chain : Fin 8) (samples : List Int), s.adcbRuns = true → ((State.samplesIn samples.length samples s).chain
      chain).dsp.left = 0 → ∃ t, exec (.chainSettled chain samples) s = .next t ∧ t.on (F.HEADLAND_CHAIN_STATUS.SETTLED chain) = true
      ∧ (State.samplesIn samples.length samples s).keepsRegs t [R.HEADLAND_CHAIN_STATUS chain, R.HEADLAND_DC_LEVEL] ∧ t.mem = s.mem)
  ∧ (∀ (s : State) (chain : Fin 8) (samples : List Int), s.adcbRuns = true → ((State.samplesIn samples.length samples s).chain
      chain).dsp.left ≠ 0 → ∃ t, exec (.chainSettled chain samples) s = .next t ∧ t = (State.samplesIn samples.length samples s))
  ∧ (∀ (s : State) (samples : List Int), s.adcbRuns = true → s.on F.HEADLAND_IN_CFG.LOOP = false → 0 < samples.length → s.head.seen +
      samples.length = s.windowSize → ∃ t, exec (.detectorWindowEnd samples) s = .next t ∧ (∀ d, (blockRun (s.get
      F.HEADLAND_IN_CFG.DC_K) (s.on F.HEADLAND_IN_CFG.DC_FREEZE) s.head.dc s.head.fast samples).2.1 = some d → t.get
      F.HEADLAND_DC_LEVEL.LEVEL = min F.HEADLAND_DC_LEVEL.LEVEL.top d.toNat) ∧ t.get F.HEADLAND_IN_DET.PEAK = min
      F.HEADLAND_IN_DET.PEAK.top (peakCode (peakWith s.head.peak (blockRun (s.get F.HEADLAND_IN_CFG.DC_K) (s.on
      F.HEADLAND_IN_CFG.DC_FREEZE) s.head.dc s.head.fast samples).1)) ∧ t.get F.HEADLAND_IN_DET.RMS = min F.HEADLAND_IN_DET.RMS.top
      (rmsCode (squaresWith s.head.squares (blockRun (s.get F.HEADLAND_IN_CFG.DC_K) (s.on F.HEADLAND_IN_CFG.DC_FREEZE) s.head.dc
      s.head.fast samples).1) s.windowSize) ∧ t.get F.HEADLAND_IN_DET.SEQ = (s.get F.HEADLAND_IN_DET.SEQ + 1) %
      (F.HEADLAND_IN_DET.SEQ.top + 1) ∧ t.on F.HEADLAND_IN_DET.VALID = !s.head.firstWindow ∧ t.head.firstWindow = false ∧ t.head.seen
      = 0 ∧ t.get F.HEADLAND_IN_CLIP.CLIPS = min F.HEADLAND_IN_CLIP.CLIPS.top (s.get F.HEADLAND_IN_CLIP.CLIPS + clipsOf samples) ∧ (0
      < clipsOf samples → t.flag 0x16 6 = true) ∧ t.mem = s.mem)
  ∧ (∀ (s : State) (samples : List Int), s.adcbRuns = true → s.on F.HEADLAND_IN_CFG.LOOP = false → 0 < samples.length → s.head.seen +
      samples.length < s.windowSize → ∃ t, exec (.detectorWindowEnd samples) s = .next t ∧ (∀ d, (blockRun (s.get
      F.HEADLAND_IN_CFG.DC_K) (s.on F.HEADLAND_IN_CFG.DC_FREEZE) s.head.dc s.head.fast samples).2.1 = some d → t.get
      F.HEADLAND_DC_LEVEL.LEVEL = min F.HEADLAND_DC_LEVEL.LEVEL.top d.toNat) ∧ t.head.seen = s.head.seen + samples.length ∧
      t.head.peak = peakWith s.head.peak (blockRun (s.get F.HEADLAND_IN_CFG.DC_K) (s.on F.HEADLAND_IN_CFG.DC_FREEZE) s.head.dc
      s.head.fast samples).1 ∧ t.head.squares = squaresWith s.head.squares (blockRun (s.get F.HEADLAND_IN_CFG.DC_K) (s.on
      F.HEADLAND_IN_CFG.DC_FREEZE) s.head.dc s.head.fast samples).1 ∧ t.get F.HEADLAND_IN_DET.SEQ = s.get F.HEADLAND_IN_DET.SEQ ∧
      t.get F.HEADLAND_IN_DET.PEAK = s.get F.HEADLAND_IN_DET.PEAK ∧ t.get F.HEADLAND_IN_CLIP.CLIPS = min F.HEADLAND_IN_CLIP.CLIPS.top
      (s.get F.HEADLAND_IN_CLIP.CLIPS + clipsOf samples) ∧ (0 < clipsOf samples → t.flag 0x16 6 = true) ∧ t.mem = s.mem)

/-- O40. A primary detection on settled samples of a listened subcarrier starts in PREAMBLE, latching level, sync word and tolerance.
A new preamble restarts in PREAMBLE (FALSE_START), and in HEADER or PAYLOAD only when it is stronger by CAPTURE_DB (else IGNORED);
in PAYLOAD it is a capture; its own signal, one while searching, and symbols that do not correlate beyond the threshold change
nothing. A sync word within the tolerance goes to HEADER with its level and the offset held to 2 kHz, any other changes nothing; a
window without one counts NO_SYNC. A good length byte goes to PAYLOAD, a bad one counts HDR_BAD. The last CRC bit counts GOOD and
queues the payload, or OVERFLOW with 8 waiting, or CRC_BAD. POP takes the oldest packet and advances SEQ. The threshold is a free
value (log 86). Concludes exec = next, on conditions on state and operands alone, with the own effect of: primaryDetection,
newPreamble, syncWordMatch, syncWindowEnd, lengthByte, lastCrcBit, pop. -/
def Obligations.HeadlandReceiverFollowsTable104 : Prop :=
  (∀ (s : State) (chain : Fin 8) (preamble : Preamble), s.rxHl chain = 0 → s.on (F.HEADLAND_CHAIN_STATUS.SETTLED chain) = true →
      s.listens chain = true → correlates false preamble.symbols = true → chain.val < s.head.chains.length → ∃ t, exec
      (.primaryDetection chain preamble) s = .next t ∧ t.rxHl chain = 1 ∧ (t.chain chain).ref = s.levelAt chain preamble.level ∧
      (t.chain chain).word = s.rd R.HEADLAND_SYNC_WORD ∧ (t.chain chain).tol = s.get F.HEADLAND_RX_CFG.SYNC_TOL ∧ s.keepsRegs t
      [R.HEADLAND_CHAIN_STATUS chain] ∧ t.mem = s.mem)
  ∧ (∀ (s : State) (chain : Fin 8) (preamble : Preamble) (timing frequency afc : Int), s.rxHl chain = 1 ∨ (s.rxHl chain = 2 ∧ (s.chain
      chain).ref + 2 * s.get F.HEADLAND_RX_CFG.CAPTURE_DB ≤ s.levelAt chain preamble.level) → correlates true preamble.symbols = true
      → s.ownSignal chain timing frequency afc = false → chain.val < s.head.chains.length → ∃ t, exec (.newPreamble chain preamble
      timing frequency afc) s = .next t ∧ t.rxHl chain = 1 ∧ (t.chain chain).ref = s.levelAt chain preamble.level ∧ (t.chain
      chain).word = s.rd R.HEADLAND_SYNC_WORD ∧ (t.chain chain).tol = s.get F.HEADLAND_RX_CFG.SYNC_TOL ∧ (t.chain chain).restarted =
      true ∧ t.get (F.HEADLAND_CHAIN_CAPTURE.FALSE_START chain) = min (F.HEADLAND_CHAIN_CAPTURE.FALSE_START chain).top (s.get
      (F.HEADLAND_CHAIN_CAPTURE.FALSE_START chain) + 1) ∧ t.flag 0x16 4 = true ∧ t.mem = s.mem)
  ∧ (∀ (s : State) (chain : Fin 8) (preamble : Preamble) (timing frequency afc : Int), s.rxHl chain = 3 → (s.chain chain).ref + 2 *
      s.get F.HEADLAND_RX_CFG.CAPTURE_DB ≤ s.levelAt chain preamble.level → correlates true preamble.symbols = true → s.ownSignal
      chain timing frequency afc = false → chain.val < s.head.chains.length → ∃ t, exec (.newPreamble chain preamble timing frequency
      afc) s = .next t ∧ t.rxHl chain = 1 ∧ (t.chain chain).ref = s.levelAt chain preamble.level ∧ (t.chain chain).captured = true ∧
      t.get (F.HEADLAND_CHAIN_CAPTURE.CAPTURED_OVER chain) = min (F.HEADLAND_CHAIN_CAPTURE.CAPTURED_OVER chain).top (s.get
      (F.HEADLAND_CHAIN_CAPTURE.CAPTURED_OVER chain) + 1) ∧ t.flag 0x16 5 = true ∧ t.mem = s.mem)
  ∧ (∀ (s : State) (chain : Fin 8) (preamble : Preamble) (timing frequency afc : Int), s.rxHl chain = 2 ∨ s.rxHl chain = 3 → s.levelAt
      chain preamble.level < (s.chain chain).ref + 2 * s.get F.HEADLAND_RX_CFG.CAPTURE_DB → correlates true preamble.symbols = true →
      s.ownSignal chain timing frequency afc = false → ∃ t, exec (.newPreamble chain preamble timing frequency afc) s = .next t ∧ t =
      s.bump (F.HEADLAND_CHAIN_CAPTURE.IGNORED chain))
  ∧ (∀ (s : State) (chain : Fin 8) (preamble : Preamble) (timing frequency afc : Int), s.ownSignal chain timing frequency afc = true ∨
      s.rxHl chain = 0 ∨ correlates true preamble.symbols = false → ∃ t, exec (.newPreamble chain preamble timing frequency afc) s =
      .next t ∧ t = s)
  ∧ (∀ (s : State) (chain : Fin 8) (word : Word) (level : Nat) (foffset : Int), s.rxHl chain = 1 → bitsDiffer word (s.chain
      chain).word ≤ (s.chain chain).tol → chain.val < s.head.chains.length → ∃ t, exec (.syncWordMatch chain word level foffset) s =
      .next t ∧ t.rxHl chain = 2 ∧ t.get (F.HEADLAND_CHAIN_STATUS.RSSI chain) = s.levelAt chain level ∧ (t.chain chain).foffset =
      clampI (-2000) 2000 foffset ∧ (t.chain chain).ref = s.levelAt chain level ∧ s.keepsRegs t [R.HEADLAND_CHAIN_STATUS chain] ∧
      t.mem = s.mem)
  ∧ (∀ (s : State) (chain : Fin 8) (word : Word) (level : Nat) (foffset : Int), s.rxHl chain ≠ 1 ∨ (s.chain chain).tol < bitsDiffer
      word (s.chain chain).word → ∃ t, exec (.syncWordMatch chain word level foffset) s = .next t ∧ t = s)
  ∧ (∀ (s : State) (chain : Fin 8), s.rxHl chain = 1 → ∃ t, exec (.syncWindowEnd chain) s = .next t ∧ t.rxHl chain = 0 ∧ t.get
      (F.HEADLAND_CHAIN_RX_COUNT.NO_SYNC chain) = min (F.HEADLAND_CHAIN_RX_COUNT.NO_SYNC chain).top (s.get
      (F.HEADLAND_CHAIN_RX_COUNT.NO_SYNC chain) + 1) ∧ s.keepsRegs t [R.HEADLAND_CHAIN_STATUS chain, R.HEADLAND_CHAIN_RX_COUNT chain]
      ∧ t.head.queue = s.head.queue)
  ∧ (∀ (s : State) (chain : Fin 8) (value : Byte), s.rxHl chain = 2 → headerOk value.toNat = true → chain.val < s.head.chains.length →
      ∃ t, exec (.lengthByte chain value) s = .next t ∧ t.rxHl chain = 3 ∧ (t.chain chain).length = value.toNat % 64 ∧ s.keepsRegs t
      [R.HEADLAND_CHAIN_STATUS chain])
  ∧ (∀ (s : State) (chain : Fin 8) (value : Byte), s.rxHl chain = 2 → headerOk value.toNat = false → ∃ t, exec (.lengthByte chain
      value) s = .next t ∧ t.rxHl chain = 0 ∧ t.get (F.HEADLAND_CHAIN_RX_COUNT.HDR_BAD chain) = min (F.HEADLAND_CHAIN_RX_COUNT.HDR_BAD
      chain).top (s.get (F.HEADLAND_CHAIN_RX_COUNT.HDR_BAD chain) + 1) ∧ s.keepsRegs t [R.HEADLAND_CHAIN_STATUS chain,
      R.HEADLAND_CHAIN_RX_COUNT chain])
  ∧ (∀ (s : State) (chain : Fin 8) (payload : List Byte), s.rxHl chain = 3 → (s.chain chain).length = payload.length →
      s.head.queue.length < 8 → ∃ t, exec (.lastCrcBit chain (whiten (payload ++ beBytes 2 (crc16 (BitVec.ofNat 8 (lengthByte
      payload.length) :: payload))))) s = .next t ∧ t.rxHl chain = 0 ∧ t.get (F.HEADLAND_CHAIN_RX_COUNT.GOOD chain) = min
      (F.HEADLAND_CHAIN_RX_COUNT.GOOD chain).top (s.get (F.HEADLAND_CHAIN_RX_COUNT.GOOD chain) + 1) ∧ t.head.queue = s.head.queue ++
      [⟨chain, (s.chain chain).ref, (s.chain chain).captured, (s.chain chain).restarted, (s.chain chain).foffset, payload⟩] ∧ t.get
      F.HEADLAND_RXQ_CTRL.LEVEL = s.head.queue.length + 1 ∧ t.mem = s.mem)
  ∧ (∀ (s : State) (chain : Fin 8) (payload : List Byte), s.rxHl chain = 3 → (s.chain chain).length = payload.length → 8 ≤
      s.head.queue.length → ∃ t, exec (.lastCrcBit chain (whiten (payload ++ beBytes 2 (crc16 (BitVec.ofNat 8 (lengthByte
      payload.length) :: payload))))) s = .next t ∧ t.rxHl chain = 0 ∧ t.get (F.HEADLAND_CHAIN_RX_COUNT.GOOD chain) = min
      (F.HEADLAND_CHAIN_RX_COUNT.GOOD chain).top (s.get (F.HEADLAND_CHAIN_RX_COUNT.GOOD chain) + 1) ∧ t.get
      (F.HEADLAND_RXQ_CTRL.OVERFLOW) = min (F.HEADLAND_RXQ_CTRL.OVERFLOW).top (s.get (F.HEADLAND_RXQ_CTRL.OVERFLOW) + 1) ∧
      t.head.queue = s.head.queue ∧ t.flag 0x16 1 = true ∧ t.mem = s.mem)
  ∧ (∀ (s : State) (chain : Fin 8) (payload : List Byte) (bad : Byte), s.rxHl chain = 3 → (s.chain chain).length = payload.length →
      bad ≠ 0 → ∃ t, exec (.lastCrcBit chain (whiten (payload ++ (beBytes 2 (crc16 (BitVec.ofNat 8 (lengthByte payload.length) ::
      payload))).map (· ^^^ bad)))) s = .next t ∧ t.rxHl chain = 0 ∧ t.get (F.HEADLAND_CHAIN_RX_COUNT.CRC_BAD chain) = min
      (F.HEADLAND_CHAIN_RX_COUNT.CRC_BAD chain).top (s.get (F.HEADLAND_CHAIN_RX_COUNT.CRC_BAD chain) + 1) ∧ t.head.queue =
      s.head.queue ∧ s.keepsRegs t [R.HEADLAND_CHAIN_STATUS chain, R.HEADLAND_CHAIN_RX_COUNT chain])
  ∧ (∀ (s : State), s.isDown R.HEADLAND_TX_CTRL = false → ∃ t, exec (.pop .plough) s = .next t ∧ t.head.queue = s.head.queue.drop 1 ∧
      t.get F.HEADLAND_RXQ_HEAD1.SEQ = (s.get F.HEADLAND_RXQ_HEAD1.SEQ + 1) % (F.HEADLAND_RXQ_HEAD1.SEQ.top + 1) ∧ t.get
      F.HEADLAND_RXQ_CTRL.LEVEL = (s.head.queue.length - 1) % 16 ∧ t.mem = s.mem)

/-- O41. ADC_FRAME_START in FRAME mode with no pass and a free converter starts one; with a pass of FRAME mode running, or a
calibration conversion in progress, it counts LATE. SEQ_START in SINGLE mode with the converter free starts a pass. The end of a
sequence entry's conversion writes VALUE by R228, sets VALID, advances TAG and sets OVERRUN where the last result was not read; an
injected one writes its result, advances its TAG and raises INJ_DONE; one of a calibration step is added to the step's sum. INJ_GO
on a free converter converts at once, on a busy one queues; with four waiting it is dropped and counted. Reading a result returns
it and marks it as read. CAL_G_WRITE commits OFS and G of a channel and gain together. Concludes exec = next, on conditions on
state and operands alone, with the own effect of: adcFrameStart, seqStart, conversionComplete, injGo, hkadcResultRead, calGWrite. -/
def Obligations.AdcASequencesAndResults : Prop :=
  (∀ (s : State), s.ana.adc.pass = none → s.get F.HKADC_SEQ_CTRL.MODE = 1 → s.ana.adc.current = none → s.ana.adc.requests = [] →
      s.diagReady = none → ∃ t, exec (.adcFrameStart) s = .next t ∧ t.on F.HKADC_SEQ_STATUS.RUNNING = true ∧ t.ana.adc.pass = some
      ((List.range (s.get F.HKADC_SEQ_CTRL.LENGTH + 1)).map (fun e => s.rd (R.HKADC_ENTRY e)), 1) ∧ t.ana.adc.current.isSome = true ∧
      t.mem = s.mem)
  ∧ (∀ (s : State), s.ana.adc.pass.isSome = true → s.ana.adc.mode = 1 → ∃ t, exec (.adcFrameStart) s = .next t ∧ t.get
      (F.HKADC_SEQ_STATUS.LATE) = min (F.HKADC_SEQ_STATUS.LATE).top (s.get (F.HKADC_SEQ_STATUS.LATE) + 1) ∧ t.flag 0x18 0 = true ∧
      t.ana.adc.pass = s.ana.adc.pass ∧ s.keepsRegs t [R.HKADC_SEQ_STATUS] ∧ t.mem = s.mem)
  ∧ (∀ (s : State) (c : Conversion), s.ana.adc.pass = none → s.get F.HKADC_SEQ_CTRL.MODE = 1 → s.ana.adc.current = some c → c.what =
      .cal ∨ c.what = .left → ∃ t, exec (.adcFrameStart) s = .next t ∧ t.get (F.HKADC_SEQ_STATUS.LATE) = min
      (F.HKADC_SEQ_STATUS.LATE).top (s.get (F.HKADC_SEQ_STATUS.LATE) + 1) ∧ t.flag 0x18 0 = true ∧ t.ana.adc.pass = none ∧
      t.ana.adc.current = some c ∧ s.keepsRegs t [R.HKADC_SEQ_STATUS] ∧ t.mem = s.mem)
  ∧ (∀ (s : State) (path : Path), s.mayWrite path R.HKADC_SEQ_CTRL → s.get F.HKADC_SEQ_CTRL.MODE = 3 → s.ana.adc.pass = none →
      s.ana.adc.current = none → s.ana.adc.requests = [] → s.diagReady = none → s.calState = 0 → ∃ t, exec (.seqStart path) s = .next
      t ∧ t.on F.HKADC_SEQ_STATUS.RUNNING = true ∧ t.ana.adc.pass.isSome = true ∧ t.ana.adc.current.isSome = true ∧ t.ana.adc.starts =
      s.ana.adc.starts ∧ t.mem = s.mem)
  ∧ (∀ (s : State) (raw : Fin 4096) (elapsed : Nat) (c : Conversion) (e : Nat), s.ana.adc.current = some c → c.what = .entry e → e <
      16 → s.diagOn c.channel = false → s.ana.adc.dirty = [] → ∃ t, exec (.conversionComplete raw elapsed) s = .next t ∧ t.get
      ⟨resultWord e, 23, 0⟩ = calibrated raw c.ofs c.g ∧ t.on ⟨resultWord e, 31, 31⟩ = true ∧ t.get ⟨resultWord e, 29, 24⟩ = (s.get
      ⟨resultWord e, 29, 24⟩ + 1) % 64 ∧ t.on ⟨resultWord e, 30, 30⟩ = (s.on ⟨resultWord e, 31, 31⟩ && !s.ana.adc.read.contains e) ∧
      t.mem = s.mem)
  ∧ (∀ (s : State) (raw : Fin 4096) (elapsed : Nat) (c : Conversion), s.ana.adc.current = some c → c.what = .inject → ∃ t, exec
      (.conversionComplete raw elapsed) s = .next t ∧ t.get ⟨R.HKADC_INJ_RESULT, 23, 0⟩ = calibrated raw c.ofs c.g ∧ t.on
      ⟨R.HKADC_INJ_RESULT, 31, 31⟩ = true ∧ t.get ⟨R.HKADC_INJ_RESULT, 29, 24⟩ = (s.get ⟨R.HKADC_INJ_RESULT, 29, 24⟩ + 1) % 64 ∧
      t.flag 0x18 1 = true ∧ t.mem = s.mem)
  ∧ (∀ (s : State) (raw : Fin 4096) (elapsed : Nat) (c : Conversion), s.ana.adc.current = some c → c.what = .cal → ∃ t, exec
      (.conversionComplete raw elapsed) s = .next t ∧ t.ana.adc.calCount = s.ana.adc.calCount + 1 ∧ t.ana.adc.calSum =
      s.ana.adc.calSum + raw ∧ t.mem = s.mem)
  ∧ (∀ (s : State) (path : Path) (channel : Fin 32) (sample : Fin 16) (gain : Fin 4), s.mayWrite path R.HKADC_INJ_CTRL →
      s.ana.adc.requests = [] → s.ana.adc.current = none → s.calStepping = false → ∃ t, exec (.injGo path channel sample gain) s =
      .next t ∧ t.ana.adc.current = some (s.conversion .inject channel gain) ∧ t.ana.adc.requests = [] ∧ t.get F.HKADC_INJ_CTRL.LEVEL
      = 0 ∧ s.keepsRegs t [R.HKADC_INJ_CTRL] ∧ t.mem = s.mem)
  ∧ (∀ (s : State) (path : Path) (channel : Fin 32) (sample : Fin 16) (gain : Fin 4), s.mayWrite path R.HKADC_INJ_CTRL →
      s.ana.adc.requests.length < 4 → s.ana.adc.current.isSome = true → ∃ t, exec (.injGo path channel sample gain) s = .next t ∧
      t.ana.adc.requests = s.ana.adc.requests ++ [(channel.val, gain.val)] ∧ t.get F.HKADC_INJ_CTRL.LEVEL = s.ana.adc.requests.length
      + 1 ∧ t.get F.HKADC_INJ_CTRL.CHANNEL = channel ∧ t.get F.HKADC_INJ_CTRL.SAMPLE = min 9 sample.val ∧ s.keepsRegs t
      [R.HKADC_INJ_CTRL] ∧ t.mem = s.mem)
  ∧ (∀ (s : State) (path : Path) (channel : Fin 32) (sample : Fin 16) (gain : Fin 4), s.mayWrite path R.HKADC_INJ_CTRL → 4 ≤
      s.ana.adc.requests.length → ∃ t, exec (.injGo path channel sample gain) s = .next t ∧ t.get (F.HKADC_COUNT.INJ_DROPPED) = min
      (F.HKADC_COUNT.INJ_DROPPED).top (s.get (F.HKADC_COUNT.INJ_DROPPED) + 1) ∧ t.flag 0x18 6 = true ∧ t.ana.adc.requests =
      s.ana.adc.requests ∧ s.onlyRegs t [R.HKADC_INJ_CTRL, R.HKADC_COUNT])
  ∧ (∀ (s : State) (path : Path) (e : Fin 17), s.unheard path false = false → s.isDown (resultWord e) = false → ∃ t, exec
      (.hkadcResultRead path e) s = .next t ∧ t.readData = s.rd (resultWord e) ∧ e.val ∈ t.ana.adc.read ∧ t.regs = s.regs ∧ t.mem =
      s.mem)
  ∧ (∀ (s : State) (path : Path) (pair : Fin 128) (value : Word), s.mayWrite path (R.HKADC_CAL_G pair) → ∃ t, exec (.calGWrite path
      pair value) s = .next t ∧ t.rd (R.HKADC_CAL_G pair) = value &&& 0xFFFFFF ∧ Store.read (fun _ => 0) t.ana.adc.ofs pair = s.rd
      (R.HKADC_CAL_OFS pair) ∧ s.keepsRegs t [R.HKADC_CAL_G pair] ∧ t.mem = s.mem)

/-- O42. ZERO in IDLE on a channel that no closed loop uses starts the zero step; on one in use it is refused with REASON 1. The 64th
conversion of the zero step gives its mean and the calibration waits; FULL then starts the full step, or is refused with REASON 1
where a loop uses the channel, and with REASON 3 in IDLE; ZERO and FULL in a step are refused with REASON 2. A plausible end of
the full step commits OFS and G together and raises CAL_DONE; another is refused with REASON 4, one with the channel in use with
REASON 1, and the old coefficients stay. CANCEL and the zero timeout go to IDLE with REASON 6 and 5. DIAG of a free channel with
the calibration IDLE drives the first level, of another ends with RESULT 4; its end after 16 conversions passes exactly where
WORST is within TOL, and restores CODE. Concludes exec = next, on conditions on state and operands alone, with the own effect of:
calZero, calStepComplete, calFull, calCancel, calZeroTimeout, diag, diagComplete. -/
def Obligations.AdcACalibrationAndDiagnosis : Prop :=
  (∀ (s : State) (path : Path) (channel : Fin 32) (gain : Fin 4), s.mayWrite path R.HKADC_CAL_CTRL → s.calState = 0 → s.channelInUse
      channel = false → ∃ t, exec (.calZero path channel gain) s = .next t ∧ t.calState = 1 ∧ t.ana.adc.calChannel = channel.val ∧
      t.ana.adc.calGain = gain.val ∧ t.get F.HKADC_CAL_CTRL.REASON = 0 ∧ t.mem = s.mem)
  ∧ (∀ (s : State) (path : Path) (channel : Fin 32) (gain : Fin 4), s.mayWrite path R.HKADC_CAL_CTRL → s.calState = 0 → s.channelInUse
      channel = true → ∃ t, exec (.calZero path channel gain) s = .next t ∧ t.calState = 0 ∧ t.get F.HKADC_CAL_CTRL.REASON = 1 ∧
      t.flag 0x18 3 = true ∧ s.onlyRegs t [R.HKADC_CAL_CTRL])
  ∧ (∀ (s : State) (path : Path) (channel : Fin 32) (gain : Fin 4), s.mayWrite path R.HKADC_CAL_CTRL → s.calState = 1 ∨ s.calState = 3
      → ∃ t, exec (.calZero path channel gain) s = .next t ∧ t.calState = s.calState ∧ t.get F.HKADC_CAL_CTRL.REASON = 2 ∧ t.flag 0x18
      3 = true ∧ t.ana.adc = s.ana.adc ∧ s.onlyRegs t [R.HKADC_CAL_CTRL])
  ∧ (∀ (s : State), s.calState = 1 → 64 ≤ s.ana.adc.calCount → ∃ t, exec (.calStepComplete) s = .next t ∧ t.calState = 2 ∧ t.ana.adc.z
      = s.ana.adc.calSum * 64 ∧ t.mem = s.mem)
  ∧ (∀ (s : State) (path : Path), s.mayWrite path R.HKADC_CAL_CTRL → s.calState = 2 → s.channelInUse s.ana.adc.calChannel = false → ∃
      t, exec (.calFull path) s = .next t ∧ t.calState = 3 ∧ t.get F.HKADC_CAL_CTRL.REASON = 0 ∧ t.ana.adc.z = s.ana.adc.z)
  ∧ (∀ (s : State) (path : Path), s.mayWrite path R.HKADC_CAL_CTRL → s.calState = 2 → s.channelInUse s.ana.adc.calChannel = true → ∃
      t, exec (.calFull path) s = .next t ∧ t.calState = 2 ∧ t.get F.HKADC_CAL_CTRL.REASON = 1 ∧ t.flag 0x18 3 = true ∧ s.onlyRegs t
      [R.HKADC_CAL_CTRL])
  ∧ (∀ (s : State) (path : Path), s.mayWrite path R.HKADC_CAL_CTRL → s.calState = 1 ∨ s.calState = 3 → ∃ t, exec (.calFull path) s =
      .next t ∧ t.calState = s.calState ∧ t.get F.HKADC_CAL_CTRL.REASON = 2 ∧ t.flag 0x18 3 = true ∧ s.onlyRegs t [R.HKADC_CAL_CTRL])
  ∧ (∀ (s : State) (path : Path), s.mayWrite path R.HKADC_CAL_CTRL → s.calState = 0 → ∃ t, exec (.calFull path) s = .next t ∧
      t.calState = 0 ∧ t.get F.HKADC_CAL_CTRL.REASON = 3 ∧ t.flag 0x18 3 = true ∧ s.onlyRegs t [R.HKADC_CAL_CTRL])
  ∧ (∀ (s : State) (mean g : Int) (j : Nat), s.calState = 3 → 64 ≤ s.ana.adc.calCount → mean = s.ana.adc.calSum * 64 → s.channelInUse
      s.ana.adc.calChannel = false → s.ana.adc.calChannel < 32 → s.ana.adc.calGain < 4 → j = 4 * s.ana.adc.calChannel +
      s.ana.adc.calGain → g = s.get F.HKADC_CAL_TARGET.FS_TARGET * 2 ^ 34 / (mean - s.ana.adc.z) → ∃ t, exec (.calStepComplete) s =
      .next t ∧ t.calState = 0 ∧ ((s.ana.adc.z < mean ∧ s.ana.adc.z.natAbs ≤ 64 * 4096 ∧ 3774874 ≤ g ∧ g ≤ 4613734) → (t.rd
      (R.HKADC_CAL_G j) = BitVec.ofNat 32 g.toNat ∧ t.rd (R.HKADC_CAL_OFS j) = BitVec.ofNat 32 (ofSigned 24 s.ana.adc.z) ∧ Store.read
      (fun _ => 0) t.ana.adc.ofs j = t.rd (R.HKADC_CAL_OFS j) ∧ t.flag 0x18 2 = true)) ∧ (¬(s.ana.adc.z < mean ∧ s.ana.adc.z.natAbs ≤
      64 * 4096 ∧ 3774874 ≤ g ∧ g ≤ 4613734) → (t.get F.HKADC_CAL_CTRL.REASON = 4 ∧ t.flag 0x18 3 = true ∧ t.rd (R.HKADC_CAL_G j) =
      s.rd (R.HKADC_CAL_G j) ∧ t.ana.adc.ofs = s.ana.adc.ofs)) ∧ t.mem = s.mem)
  ∧ (∀ (s : State), s.calState = 3 → 64 ≤ s.ana.adc.calCount → s.channelInUse s.ana.adc.calChannel = true → ∃ t, exec
      (.calStepComplete) s = .next t ∧ t.calState = 0 ∧ t.get F.HKADC_CAL_CTRL.REASON = 1 ∧ t.flag 0x18 3 = true ∧ t.ana.adc.ofs =
      s.ana.adc.ofs ∧ t.mem = s.mem)
  ∧ (∀ (s : State), s.ana.adc.calCount < 64 → ∃ t, exec (.calStepComplete) s = .next t ∧ t = s)
  ∧ (∀ (s : State) (path : Path), s.mayWrite path R.HKADC_CAL_CTRL → s.calState ≠ 0 → ∃ t, exec (.calCancel path) s = .next t ∧
      t.calState = 0 ∧ t.get F.HKADC_CAL_CTRL.REASON = 6 ∧ t.flag 0x18 3 = true ∧ t.mem = s.mem)
  ∧ (∀ (s : State), s.calState = 2 → ∃ t, exec (.calZeroTimeout) s = .next t ∧ t.calState = 0 ∧ t.get F.HKADC_CAL_CTRL.REASON = 5 ∧
      t.flag 0x18 3 = true ∧ t.mem = s.mem)
  ∧ (∀ (s : State) (path : Path) (channel : Fin 32), s.mayWrite path R.HKADC_TESTDAC → s.ana.adc.diag = none → s.channelInUse
      (diagChannel channel) = false → s.calState = 0 → ∃ t, exec (.diag path channel) s = .next t ∧ t.get F.HKADC_TESTDAC.CHANNEL =
      diagChannel channel ∧ t.get F.HKADC_TESTDAC.RESULT = 1 ∧ t.get F.HKADC_TESTDAC.CODE = 128 ∧ t.ana.adc.diag = some ⟨diagChannel
      channel, s.get F.HKADC_TESTDAC.CODE, 1000, []⟩ ∧ s.keepsRegs t [R.HKADC_TESTDAC] ∧ t.mem = s.mem)
  ∧ (∀ (s : State) (path : Path) (channel : Fin 32), s.mayWrite path R.HKADC_TESTDAC → s.ana.adc.diag = none → s.channelInUse
      (diagChannel channel) = true ∨ s.calState ≠ 0 → ∃ t, exec (.diag path channel) s = .next t ∧ t.get F.HKADC_TESTDAC.RESULT = 4 ∧
      t.ana.adc.diag = none ∧ t.get F.HKADC_TESTDAC.CODE = s.get F.HKADC_TESTDAC.CODE ∧ s.onlyRegs t [R.HKADC_TESTDAC])
  ∧ (∀ (s : State) (raws : List (Fin 4096)) (x : DiagSt) (values : List Nat), s.ana.adc.diag = some x → values = (x.results ++
      (raws.map (·.val)).map fun raw => calibrated raw (s.conversion .diag x.channel 0).ofs (s.conversion .diag x.channel 0).g).take
      16 → values.length = 16 → ∃ t, exec (.diagComplete raws) s = .next t ∧ t.get F.HKADC_TESTDAC.RESULT = (if diagWorst values ≤ 16
      * s.get F.HKADC_DIAG.TOL then 2 else 3) ∧ t.get F.HKADC_DIAG.WORST = min F.HKADC_DIAG.WORST.top (diagWorst values) ∧ t.get
      F.HKADC_TESTDAC.CODE = x.code % 1024 ∧ t.flag 0x18 4 = true ∧ (16 * s.get F.HKADC_DIAG.TOL < diagWorst values → t.flag 0x18 5 =
      true) ∧ t.ana.adc.diag = none ∧ t.mem = s.mem)
  ∧ (∀ (s : State) (raws : List (Fin 4096)) (x : DiagSt), s.ana.adc.diag = some x → x.results.length + raws.length < 16 → ∃ t, exec
      (.diagComplete raws) s = .next t ∧ t = s)

/-- O43. An update of a channel without a span change moves PDAC0 to PDAC15 to CODE (SOURCE 0, no sine), or to the safe code while
held safe, in one step; PDAC16 to PDAC19 move towards it by at most STEP and what RATE gives. With SOURCE 1 PDAC0 to PDAC15 take
the next code of the queue, or hold the last with UNDERFLOW counted. A push enters a queue of 16 and is counted in OVERFLOW when
full. SPAN starts a change with SPAN_BUSY, and is refused and counted while a closed loop drives the channel; SPAN_DONE ends a
change whose output has reached its code in the new span, and no other. A second reading above OT_LIMIT with OT 0 sets OT and
LATCHED, counts TRIPS and raises OVER_TEMP; one more than 10 °C below it clears OT; LATCHED is cleared on command only while OT is
0. Concludes exec = next, on conditions on state and operands alone, with the own effect of: pdacUpdate, pdacQueuePush, spanWrite,
spanDone, overTemp, otClear, latchedClear. -/
def Obligations.PrecisionOutputsMoveAndAreHeldSafe : Prop :=
  (∀ (s : State) (ch : Fin 20) (elapsed : Nat), (s.dac ch).change = none → s.heldSafe ch = false → s.get (F.PDAC_CH_CFG.SOURCE ch) = 0
      → s.on (F.PDAC_CH_CFG.SINE_EN ch) = false → ∃ t, exec (.pdacUpdate ch elapsed) s = .next t ∧ (ch.val < 16 → t.get
      (F.PDAC_CH_CODE.APPLIED ch) = s.get (F.PDAC_CH_CODE.CODE ch)) ∧ (16 ≤ ch.val → t.get (F.PDAC_CH_CODE.APPLIED ch) = (stepTowards
      (min (s.get (F.PDAC_CH_SLEW.STEP (ch - 16))) (((s.dac ch).carry + s.get (F.PDAC_CH_SLEW.RATE (ch - 16)) * s.get
      (F.PDAC_CH_CLOCK.DIV ch)) / 50000)) (s.get (F.PDAC_CH_CODE.APPLIED ch)) (s.get (F.PDAC_CH_CODE.CODE ch))).toNat) ∧ s.keepsRegs t
      [R.PDAC_CH_CODE ch, R.HKADC_INJ_CTRL, R.PDAC_SINE_PHASE 0, R.PDAC_SINE_PHASE 1, R.PDAC_SINE_PHASE 2, R.PDAC_SINE_PHASE 3] ∧
      t.mem = s.mem)
  ∧ (∀ (s : State) (ch : Fin 20) (elapsed : Nat), (s.dac ch).change = none → s.heldSafe ch = true → ∃ t, exec (.pdacUpdate ch elapsed)
      s = .next t ∧ (ch.val < 16 → t.get (F.PDAC_CH_CODE.APPLIED ch) = s.safeCode ch) ∧ (16 ≤ ch.val → t.get (F.PDAC_CH_CODE.APPLIED
      ch) = (stepTowards (min (s.get (F.PDAC_CH_SLEW.STEP (ch - 16))) (((s.dac ch).carry + s.get (F.PDAC_CH_SLEW.RATE (ch - 16)) *
      s.get (F.PDAC_CH_CLOCK.DIV ch)) / 50000)) (s.get (F.PDAC_CH_CODE.APPLIED ch)) (s.safeCode ch)).toNat) ∧ s.keepsRegs t
      [R.PDAC_CH_CODE ch, R.HKADC_INJ_CTRL, R.PDAC_SINE_PHASE 0, R.PDAC_SINE_PHASE 1, R.PDAC_SINE_PHASE 2, R.PDAC_SINE_PHASE 3] ∧
      t.mem = s.mem)
  ∧ (∀ (s : State) (ch : Fin 20) (elapsed code : Nat) (rest : List Nat), (s.dac ch).change = none → s.heldSafe ch = false → s.get
      (F.PDAC_CH_CFG.SOURCE ch) = 1 → s.on (F.PDAC_CH_CFG.SINE_EN ch) = false → (s.dac ch).queue = code :: rest → code < 65536 →
      ch.val < 16 → ch.val < s.ana.pdac.length → ∃ t, exec (.pdacUpdate ch elapsed) s = .next t ∧ t.get (F.PDAC_CH_CODE.APPLIED ch) =
      code ∧ (t.dac ch).queue = rest ∧ t.mem = s.mem)
  ∧ (∀ (s : State) (ch : Fin 20) (elapsed : Nat), (s.dac ch).change = none → s.heldSafe ch = false → s.get (F.PDAC_CH_CFG.SOURCE ch) =
      1 → s.on (F.PDAC_CH_CFG.SINE_EN ch) = false → (s.dac ch).queue = [] → (s.dac ch).last < 65536 → ch.val < 16 → ∃ t, exec
      (.pdacUpdate ch elapsed) s = .next t ∧ t.get (F.PDAC_CH_CODE.APPLIED ch) = (s.dac ch).last ∧ t.get (F.PDAC_CH_COUNT.UNDERFLOW
      ch) = min (F.PDAC_CH_COUNT.UNDERFLOW ch).top (s.get (F.PDAC_CH_COUNT.UNDERFLOW ch) + 1) ∧ t.flag 0x19 1 = true ∧ t.mem = s.mem)
  ∧ (∀ (s : State) (path : Path) (ch : Fin 20) (code : Fin 65536), s.mayWrite path (R.PDAC_CH_QUEUE ch) → (s.dac ch).queue.length < 16
      → ch.val < s.ana.pdac.length → ∃ t, exec (.pdacQueuePush path ch code) s = .next t ∧ (t.dac ch).queue = (s.dac ch).queue ++
      [code.val] ∧ t.get (F.PDAC_CH_CLOCK.LEVEL ch) = (s.dac ch).queue.length + 1 ∧ s.keepsRegs t [R.PDAC_CH_CLOCK ch])
  ∧ (∀ (s : State) (path : Path) (ch : Fin 20) (code : Fin 65536), s.mayWrite path (R.PDAC_CH_QUEUE ch) → 16 ≤ (s.dac ch).queue.length
      → ∃ t, exec (.pdacQueuePush path ch code) s = .next t ∧ t.get (F.PDAC_CH_COUNT.OVERFLOW ch) = min (F.PDAC_CH_COUNT.OVERFLOW
      ch).top (s.get (F.PDAC_CH_COUNT.OVERFLOW ch) + 1) ∧ t.flag 0x19 2 = true ∧ (t.dac ch).queue = (s.dac ch).queue)
  ∧ (∀ (s : State) (path : Path) (ch : Fin 20) (span : Fin 4), s.mayWrite path (R.PDAC_CH_CFG ch) → s.dacInLoop ch = false → (s.dac
      ch).change = none → (s.dac ch).span ≠ min 2 span.val → ch.val < s.ana.pdac.length → ∃ t, exec (.spanWrite path ch span) s =
      .next t ∧ t.get (F.PDAC_CH_CFG.SPAN ch) = min 2 span.val ∧ t.on (F.PDAC_CH_CFG.SPAN_BUSY ch) = true ∧ (t.dac ch).change.map
      (·.new) = some (min 2 span.val) ∧ s.keepsRegs t [R.PDAC_CH_CFG ch])
  ∧ (∀ (s : State) (path : Path) (ch : Fin 20) (span : Fin 4), s.mayWrite path (R.PDAC_CH_CFG ch) → s.dacInLoop ch = true → ∃ t, exec
      (.spanWrite path ch span) s = .next t ∧ t.get (F.PDAC_CH_COUNT.SPAN_REFUSED ch) = min (F.PDAC_CH_COUNT.SPAN_REFUSED ch).top
      (s.get (F.PDAC_CH_COUNT.SPAN_REFUSED ch) + 1) ∧ t.flag 0x19 4 = true ∧ s.onlyRegs t [R.PDAC_CH_COUNT ch])
  ∧ (∀ (s : State) (ch : Fin 20) (c : SpanChange), (s.dac ch).change = some c → c.step = 4 → s.spanReached ch = true → s.get
      (F.PDAC_CH_CFG.SPAN ch) = (s.dac ch).span → ch.val < s.ana.pdac.length → ∃ t, exec (.spanDone ch) s = .next t ∧ (t.dac
      ch).change = none ∧ t.on (F.PDAC_CH_CFG.SPAN_BUSY ch) = false ∧ t.flag 0x19 3 = true ∧ s.keepsRegs t [R.PDAC_CH_CFG ch])
  ∧ (∀ (s : State) (ch : Fin 20) (c : SpanChange), (s.dac ch).change = some c → c.step ≠ 4 ∨ s.spanReached ch = false → ∃ t, exec
      (.spanDone ch) s = .next t ∧ t = s)
  ∧ (∀ (s : State) (temp : Int), s.on F.PDAC_GLOBAL.OT = false → (s.get F.PDAC_GLOBAL.OT_LIMIT : Int) < temp → ∃ t, exec (.overTemp
      temp) s = .next t ∧ t.on F.PDAC_GLOBAL.OT = true ∧ t.on F.PDAC_OT_STATUS.LATCHED = true ∧ t.get (F.PDAC_OT_STATUS.TRIPS) = min
      (F.PDAC_OT_STATUS.TRIPS).top (s.get (F.PDAC_OT_STATUS.TRIPS) + 1) ∧ t.flag 0x19 0 = true ∧ t.mem = s.mem)
  ∧ (∀ (s : State) (temp : Int), temp < (s.get F.PDAC_GLOBAL.OT_LIMIT : Int) - 10 → ∃ t, exec (.otClear temp) s = .next t ∧ t.on
      F.PDAC_GLOBAL.OT = false ∧ t.on F.PDAC_OT_STATUS.LATCHED = s.on F.PDAC_OT_STATUS.LATCHED ∧ s.onlyRegs t [R.PDAC_GLOBAL])
  ∧ (∀ (s : State) (path : Path), s.mayWrite path R.PDAC_OT_STATUS → s.on F.PDAC_GLOBAL.OT = false → s.on F.PDAC_OT_STATUS.LATCHED =
      true → ∃ t, exec (.latchedClear path) s = .next t ∧ t.on F.PDAC_OT_STATUS.LATCHED = false ∧ t.mem = s.mem)
  ∧ (∀ (s : State) (path : Path), s.mayWrite path R.PDAC_OT_STATUS → s.on F.PDAC_GLOBAL.OT = true → ∃ t, exec (.latchedClear path) s =
      .next t ∧ t = s)

/-- O44. A frame counts LOOP_FRAME and shows the cycles of the frame before; a loop in MANUAL or closed whose update is still due
counts DL_MISSES and sets DL_MISS, and stays due. A due loop updates when no lower one waits, its entries have converted in this
frame and its cycles fit, else nothing. A MANUAL update outputs MAN_OUT. With good feedback, no preload and the same LAW, a
CLOSED_A update under any law without a guarded ceiling clamps the law's u of Table 12.2 to the limits and holds the integrator
where e pushes further; a preloading update keeps u0 within the limits and sets I := u0 - KP·e - FF. An update with VALID 0, or
the first implausible one, changes neither output nor integrator; a second implausible one, or no refresh for 2 periods, holds the
loop with cause 1; a following error for FE_TIME updates with FE_HOLD holds it with cause 3. MODE is refused while another loop
that is not OFF drives the channel, else taken with a hand-over from the base code within the limits, stored in HOLD by cause 2 or
4. LOOP_RECLOSE closes after 256 good samples. A write of FB_ENTRY of a closed loop, and any over CXL, I3C or Plough while the
plan loads it, is discarded and counted. Trace buffers start at word 0 and stop. Concludes exec = next, on conditions on state and
operands alone, with the own effect of: engineFrameStart, loopUpdate, loopModeWrite, loopReclose, loopRegisterWrite, traceRun,
traceStop. -/
def Obligations.LoopsFollowTable123 : Prop :=
  (∀ (s : State), (∀ k : Fin 16, (s.lp k).out = none) → (∀ k : Fin 16, (s.loopState k ≠ 3 ∧ s.loopState k ≠ 4)) → (∀ k : Fin 16, (s.lp
      k).due = false) → (∀ b : Fin 4, s.on (F.LOOP_TRACE_CTRL.EVERY_FRAME b) = false) → ∃ t, exec (.engineFrameStart) s = .next t ∧
      t.get F.LOOP_FRAME.COUNT = (s.get F.LOOP_FRAME.COUNT + 1) % 2 ^ 32 ∧ t.get F.LOOP_ENGINE_LOAD.LAST = min 1023 s.ana.cycles ∧
      t.get F.LOOP_ENGINE_LOAD.PEAK = min 1023 (max s.ana.cycles (s.get F.LOOP_ENGINE_LOAD.PEAK)) ∧ t.ana.cycles = 0 ∧ s.keepsRegs t
      [R.LOOP_FRAME, R.LOOP_ENGINE_LOAD] ∧ t.mem = s.mem)
  ∧ (∀ (s : State) (n : Fin 16), n.val < s.ana.loops.length → s.updates n = true → (s.lp n).due = true → ∃ t, exec (.engineFrameStart)
      s = .next t ∧ t.get (F.LOOP_COUNT.DL_MISSES n) = min (F.LOOP_COUNT.DL_MISSES n).top (s.get (F.LOOP_COUNT.DL_MISSES n) + 1) ∧
      t.on ⟨R.LOOP_FLAGS n, 3, 3⟩ = true ∧ (t.lp n).due = true ∧ (t.lp n).integ = (s.lp n).integ ∧ t.mem = s.mem)
  ∧ (∀ (s : State) (n : Fin 16), s.mayUpdate n = false → ∃ t, exec (.loopUpdate n) s = .next t ∧ t = s)
  ∧ (∀ (s : State) (n : Fin 16), n.val < s.ana.loops.length → s.mayUpdate n = true → s.loopState n = 1 → ∃ t, exec (.loopUpdate n) s =
      .next t ∧ (t.lp n).due = false ∧ t.ana.cycles = s.ana.cycles + s.updateCost n ∧ (t.lp n).u = s.get (F.LOOP_MAN_OUT.MAN_OUT n) *
      256 ∧ (t.lp n).out = some (s.get (F.LOOP_MAN_OUT.MAN_OUT n)) ∧ t.loopState n = 1 ∧ t.mem = s.mem)
  ∧ (∀ (s : State) (n : Fin 16) (f e p i x lo hi : Int), n.val < s.ana.loops.length → s.mayUpdate n = true → s.loopState n = 3 → s.get
      (F.LOOP_STALE.STALE_COUNT n) = 0 → s.notRefreshed n = false → s.on (F.HKADC_RESULT.VALID (s.get (F.LOOP_INPUT.FB_ENTRY n))) =
      true → s.get (F.LOOP_PLAUS.PLAUS_MIN n) ≤ (nth s.ana.adc.raw (s.get (F.LOOP_INPUT.FB_ENTRY n)) 0) → (nth s.ana.adc.raw (s.get
      (F.LOOP_INPUT.FB_ENTRY n)) 0) ≤ s.get (F.LOOP_PLAUS.PLAUS_MAX n) → s.get (F.LOOP_FE.FE_LIMIT n) = 0 → s.get (F.LOOP_P_LAW.LAW n
      0) ≠ 3 ∨ s.on (F.LOOP_INPUT.AUX_EN n) = false → (s.lp n).preload = none → (s.lp n).law = s.get (F.LOOP_P_LAW.LAW n 0) → f =
      s.feedback n 0 ((s.get (F.HKADC_RESULT.VALUE (s.get (F.LOOP_INPUT.FB_ENTRY n))) : Int)) → e = s.loopError n 0 f → p =
      s.feedForward n 0 + round16 (s.get (F.LOOP_P_KP.VALUE n 0) * e) → i = sat48 ((s.lp n).integ + round16 (s.get (F.LOOP_P_KI.VALUE
      n 0) * e)) → x = (if s.get (F.LOOP_P_LAW.LAW n 0) = 1 then round16 (s.get (F.LOOP_P_KD_SCALE.VALUE n 0) * (f - (s.lp n).f)) else
      0) → lo = s.get (F.LOOP_P_OUT_LIM.OUT_MIN n 0) * 256 → hi = s.get (F.LOOP_P_OUT_LIM.OUT_MAX n 0) * 256 → ∃ t, exec (.loopUpdate
      n) s = .next t ∧ (t.lp n).f = f ∧ (t.lp n).e = e ∧ (t.lp n).u = max lo (min hi (p + i - x)) ∧ (t.lp n).due = false ∧
      t.ana.cycles = s.ana.cycles + s.updateCost n ∧ (t.lp n).integ = (if (hi < p + i - x ∧ 0 < e) ∨ (p + i - x < lo ∧ e < 0) then
      (s.lp n).integ else i) ∧ (t.lp n).out = some (outCode (t.lp n).u) ∧ (t.lp n).sum = 0 ∧ t.getS (F.LOOP_ERROR.E n) = e ∧
      t.loopState n = 3 ∧ t.mem = s.mem)
  ∧ (∀ (s : State) (n : Fin 16) (u0 f e lo hi : Int), n.val < s.ana.loops.length → s.mayUpdate n = true → s.loopState n = 3 → s.get
      (F.LOOP_STALE.STALE_COUNT n) = 0 → s.notRefreshed n = false → s.on (F.HKADC_RESULT.VALID (s.get (F.LOOP_INPUT.FB_ENTRY n))) =
      true → s.get (F.LOOP_PLAUS.PLAUS_MIN n) ≤ (nth s.ana.adc.raw (s.get (F.LOOP_INPUT.FB_ENTRY n)) 0) → (nth s.ana.adc.raw (s.get
      (F.LOOP_INPUT.FB_ENTRY n)) 0) ≤ s.get (F.LOOP_PLAUS.PLAUS_MAX n) → s.get (F.LOOP_FE.FE_LIMIT n) = 0 → (s.lp n).preload = some u0
      → f = s.feedback n 0 ((s.get (F.HKADC_RESULT.VALUE (s.get (F.LOOP_INPUT.FB_ENTRY n))) : Int)) → e = s.loopError n 0 f → lo =
      s.get (F.LOOP_P_OUT_LIM.OUT_MIN n 0) * 256 → hi = s.get (F.LOOP_P_OUT_LIM.OUT_MAX n 0) * 256 → ∃ t, exec (.loopUpdate n) s =
      .next t ∧ (t.lp n).u = clampI lo hi u0 ∧ (t.lp n).integ = sat48 (clampI lo hi u0 - round16 (s.get (F.LOOP_P_KP.VALUE n 0) * e) -
      s.feedForward n 0) ∧ (t.lp n).f = f ∧ (t.lp n).preload = none ∧ (t.lp n).out = some (outCode (t.lp n).u) ∧ t.loopState n = 3 ∧
      t.mem = s.mem)
  ∧ (∀ (s : State) (n : Fin 16), n.val < s.ana.loops.length → s.mayUpdate n = true → s.loopState n = 3 → s.get
      (F.LOOP_STALE.STALE_COUNT n) = 0 → s.notRefreshed n = false → (s.on (F.HKADC_RESULT.VALID (s.get (F.LOOP_INPUT.FB_ENTRY n))) =
      false ∧ s.get (F.LOOP_PLAUS.PLAUS_MIN n) ≤ (nth s.ana.adc.raw (s.get (F.LOOP_INPUT.FB_ENTRY n)) 0) ∧ (nth s.ana.adc.raw (s.get
      (F.LOOP_INPUT.FB_ENTRY n)) 0) ≤ s.get (F.LOOP_PLAUS.PLAUS_MAX n)) ∨ ((s.lp n).wild = 0 ∧ ((nth s.ana.adc.raw (s.get
      (F.LOOP_INPUT.FB_ENTRY n)) 0) < s.get (F.LOOP_PLAUS.PLAUS_MIN n) ∨ s.get (F.LOOP_PLAUS.PLAUS_MAX n) < (nth s.ana.adc.raw (s.get
      (F.LOOP_INPUT.FB_ENTRY n)) 0))) → ∃ t, exec (.loopUpdate n) s = .next t ∧ (t.lp n).u = (s.lp n).u ∧ (t.lp n).integ = (s.lp
      n).integ ∧ (t.lp n).out = (s.lp n).out ∧ (t.lp n).due = false ∧ t.loopState n = 3 ∧ t.get (F.LOOP_OUT.CODE n) = s.get
      (F.LOOP_OUT.CODE n) ∧ t.mem = s.mem)
  ∧ (∀ (s : State) (n : Fin 16), n.val < s.ana.loops.length → s.mayUpdate n = true → s.loopState n = 3 → s.get
      (F.LOOP_STALE.STALE_COUNT n) = 0 → s.notRefreshed n = false → 1 ≤ (s.lp n).wild → (nth s.ana.adc.raw (s.get
      (F.LOOP_INPUT.FB_ENTRY n)) 0) < s.get (F.LOOP_PLAUS.PLAUS_MIN n) ∨ s.get (F.LOOP_PLAUS.PLAUS_MAX n) < (nth s.ana.adc.raw (s.get
      (F.LOOP_INPUT.FB_ENTRY n)) 0) → ∃ t, exec (.loopUpdate n) s = .next t ∧ t.loopState n = 2 ∧ t.holdCause n = 1 ∧ t.get
      (F.LOOP_COUNT.FB_LOSSES n) = min (F.LOOP_COUNT.FB_LOSSES n).top (s.get (F.LOOP_COUNT.FB_LOSSES n) + 1) ∧ t.on ⟨R.LOOP_FLAGS n,
      0, 0⟩ = true ∧ (t.lp n).integ = (s.lp n).integ ∧ (s.on (F.LOOP_CTRL.SAFE_ON_LOSS n) = false → t.get (F.LOOP_OUT.CODE n) = (s.lp
      n).goodOut % 65536) ∧ t.get (F.LOOP_STATUS.LOSS_CAUSE n) = 3)
  ∧ (∀ (s : State) (n : Fin 16), n.val < s.ana.loops.length → s.mayUpdate n = true → s.loopState n = 3 → s.get
      (F.LOOP_STALE.STALE_COUNT n) = 0 → s.notRefreshed n = true → ∃ t, exec (.loopUpdate n) s = .next t ∧ t.loopState n = 2 ∧
      t.holdCause n = 1 ∧ t.get (F.LOOP_COUNT.FB_LOSSES n) = min (F.LOOP_COUNT.FB_LOSSES n).top (s.get (F.LOOP_COUNT.FB_LOSSES n) + 1)
      ∧ t.on ⟨R.LOOP_FLAGS n, 0, 0⟩ = true ∧ (t.lp n).integ = (s.lp n).integ ∧ (s.on (F.LOOP_CTRL.SAFE_ON_LOSS n) = false → t.get
      (F.LOOP_OUT.CODE n) = (s.lp n).goodOut % 65536) ∧ t.get (F.LOOP_STATUS.LOSS_CAUSE n) = 2)
  ∧ (∀ (s : State) (n : Fin 16), n.val < s.ana.loops.length → s.loopState n = 3 → (s.lp n).due = true → 2 * s.get (F.LOOP_CTRL.DIV n)
      < nth s.ana.adc.idle (s.get (F.LOOP_INPUT.FB_ENTRY n)) 0 + 1 → s.get (F.LOOP_INPUT.FB_ENTRY n) < s.ana.adc.idle.length → ∃ t,
      exec (.engineFrameStart) s = .next t ∧ t.loopState n = 2 ∧ t.holdCause n = 1 ∧ t.get (F.LOOP_COUNT.FB_LOSSES n) = min
      (F.LOOP_COUNT.FB_LOSSES n).top (s.get (F.LOOP_COUNT.FB_LOSSES n) + 1) ∧ t.on ⟨R.LOOP_FLAGS n, 0, 0⟩ = true ∧ (t.lp n).integ =
      (s.lp n).integ ∧ (s.on (F.LOOP_CTRL.SAFE_ON_LOSS n) = false → t.get (F.LOOP_OUT.CODE n) = (s.lp n).goodOut % 65536) ∧ t.get
      (F.LOOP_STATUS.LOSS_CAUSE n) = 2 ∧ t.get (F.LOOP_COUNT.DL_MISSES n) = min (F.LOOP_COUNT.DL_MISSES n).top (s.get
      (F.LOOP_COUNT.DL_MISSES n) + 1))
  ∧ (∀ (s : State) (n : Fin 16) (e : Int), n.val < s.ana.loops.length → s.mayUpdate n = true → s.loopState n = 3 → s.get
      (F.LOOP_STALE.STALE_COUNT n) = 0 → s.notRefreshed n = false → s.on (F.HKADC_RESULT.VALID (s.get (F.LOOP_INPUT.FB_ENTRY n))) =
      true → s.get (F.LOOP_PLAUS.PLAUS_MIN n) ≤ (nth s.ana.adc.raw (s.get (F.LOOP_INPUT.FB_ENTRY n)) 0) → (nth s.ana.adc.raw (s.get
      (F.LOOP_INPUT.FB_ENTRY n)) 0) ≤ s.get (F.LOOP_PLAUS.PLAUS_MAX n) → e = s.loopError n 0 (s.feedback n 0 ((s.get
      (F.HKADC_RESULT.VALUE (s.get (F.LOOP_INPUT.FB_ENTRY n))) : Int))) → 0 < s.get (F.LOOP_FE.FE_LIMIT n) → s.get (F.LOOP_FE.FE_LIMIT
      n) < e.natAbs → s.get (F.LOOP_FE.FE_TIME n) ≤ (s.lp n).fe + 1 → s.on (F.LOOP_CTRL.FE_HOLD n) = true → ∃ t, exec (.loopUpdate n)
      s = .next t ∧ t.loopState n = 2 ∧ t.holdCause n = 3 ∧ t.get (F.LOOP_COUNT.FE_TRIPS n) = min (F.LOOP_COUNT.FE_TRIPS n).top (s.get
      (F.LOOP_COUNT.FE_TRIPS n) + 1) ∧ t.on ⟨R.LOOP_FLAGS n, 2, 2⟩ = true ∧ (t.lp n).integ = (s.lp n).integ ∧ (t.lp n).u = (s.lp n).u
      ∧ (t.lp n).fe = 0 ∧ t.mem = s.mem)
  ∧ (∀ (s : State) (path : Path) (n m : Fin 16) (mode : Fin 8), s.mayWrite path (R.LOOP_CTRL n) → mode.val ≠ 0 → m ≠ n → s.loopState m
      ≠ 0 → s.loopDac m = s.loopDac n → s.closed n = false → (s.loopState n = 2 → s.holdCause n ≠ 4) → ∃ t, exec (.loopModeWrite path
      n mode) s = .next t ∧ t.get (F.LOOP_STATUS.REFUSED n) = min (F.LOOP_STATUS.REFUSED n).top (s.get (F.LOOP_STATUS.REFUSED n) + 1)
      ∧ s.onlyRegs t [R.LOOP_STATUS n])
  ∧ (∀ (s : State) (path : Path) (n : Fin 16) (mode : Fin 8), s.mayWrite path (R.LOOP_CTRL n) → (∀ m : Fin 16, m ≠ n → s.loopState m =
      0) → (s.loopState n = 2 → (s.holdCause n ≠ 2 ∧ s.holdCause n ≠ 4)) → ∃ t, exec (.loopModeWrite path n mode) s = .next t ∧ t.get
      (F.LOOP_CTRL.MODE n) = min 4 mode.val ∧ t.loopState n = min 4 mode.val ∧ t.holdCause n = 0 ∧ t.mem = s.mem)
  ∧ (∀ (s : State) (path : Path) (n : Fin 16) (u0 : Int), s.mayWrite path (R.LOOP_CTRL n) → (∀ m : Fin 16, m ≠ n → s.loopState m = 0)
      → (s.loopState n = 2 → (s.holdCause n ≠ 2 ∧ s.holdCause n ≠ 4)) → s.loopDac n < 20 → n.val < s.ana.loops.length → u0 = clampI
      (s.get (F.LOOP_P_OUT_LIM.OUT_MIN n 0) * 256) (s.get (F.LOOP_P_OUT_LIM.OUT_MAX n 0) * 256) ((s.dac (s.loopDac n)).base * 256) → ∃
      t, exec (.loopModeWrite path n 3) s = .next t ∧ t.loopState n = 3 ∧ (t.lp n).preload = some u0 ∧ (t.lp n).u = u0 ∧ (t.lp
      n).period = 0 ∧ t.get (F.LOOP_OUT.CODE n) = (u0 / 256).toNat % 65536 ∧ (u0 ≠ (s.dac (s.loopDac n)).base * 256 → t.on
      ⟨R.LOOP_FLAGS n, 1, 1⟩ = true) ∧ t.mem = s.mem)
  ∧ (∀ (s : State) (path : Path) (n : Fin 16) (mode : Fin 8), s.mayWrite path (R.LOOP_CTRL n) → (∀ m : Fin 16, m ≠ n → s.loopState m =
      0) → s.loopState n = 2 → s.holdCause n = 2 → ∃ t, exec (.loopModeWrite path n mode) s = .next t ∧ t.get (F.LOOP_CTRL.MODE n) =
      min 4 mode.val ∧ t.loopState n = 2 ∧ t.holdCause n = 2 ∧ s.onlyRegs t [R.LOOP_CTRL n])
  ∧ (∀ (s : State) (n : Fin 16), s.loopState n = 2 → s.holdCause n = 1 → s.on (F.LOOP_CTRL.AUTO_RECLOSE n) = true → 256 ≤ s.get
      (F.LOOP_OUT.GOOD n) → ∃ t, exec (.loopReclose n) s = .next t ∧ t.loopState n = s.get (F.LOOP_CTRL.MODE n) ∧ t.holdCause n = 0 ∧
      t.on ⟨R.LOOP_FLAGS n, 5, 5⟩ = true)
  ∧ (∀ (s : State) (n : Fin 16), s.get (F.LOOP_OUT.GOOD n) < 256 → ∃ t, exec (.loopReclose n) s = .next t ∧ t = s)
  ∧ (∀ (s : State) (path : Path) (n : Fin 16) (value : Word), s.mayWrite path (R.LOOP_CTRL n) → s.closed n = true → s.loopState n ≠ 2
      → bitsOf value 3 0 ≠ bitsOf (s.rd (R.LOOP_INPUT n)) 3 0 → ∃ t, exec (.loopRegisterWrite path n 1 value) s = .next t ∧ t.get
      (F.LOOP_INPUT.FB_ENTRY n) = s.get (F.LOOP_INPUT.FB_ENTRY n) ∧ t.get (F.LOOP_INPUT.AUX_LIMIT n) = bitsOf value 27 16 ∧ t.get
      (F.LOOP_STATUS.REFUSED n) = min (F.LOOP_STATUS.REFUSED n).top (s.get (F.LOOP_STATUS.REFUSED n) + 1) ∧ s.keepsRegs t
      [R.LOOP_INPUT n, R.LOOP_STATUS n] ∧ t.mem = s.mem)
  ∧ (∀ (s : State) (path : Path) (n : Fin 16) (word : Fin 64) (value : Word), s.mayWrite path (R.LOOP_CTRL n) → loopBarred path = true
      → s.loopState n = 2 → s.holdCause n = 4 → ∃ t, exec (.loopRegisterWrite path n word value) s = .next t ∧ t.get
      (F.LOOP_STATUS.REFUSED n) = min (F.LOOP_STATUS.REFUSED n).top (s.get (F.LOOP_STATUS.REFUSED n) + 1) ∧ s.onlyRegs t
      [R.LOOP_STATUS n])
  ∧ (∀ (s : State) (path : Path) (b : Fin 4), s.mayWrite path (R.LOOP_TRACE_CTRL b) → s.on (F.LOOP_TRACE_CTRL.RUN b) = false → ∃ t,
      exec (.traceRun path b true) s = .next t ∧ t.on (F.LOOP_TRACE_CTRL.RUN b) = true ∧ t.get (F.LOOP_TRACE_STATUS.WR_PTR b) = 0 ∧
      s.keepsRegs t [R.LOOP_TRACE_CTRL b, R.LOOP_TRACE_STATUS b] ∧ t.mem = s.mem)
  ∧ (∀ (s : State) (path : Path) (b : Fin 4), s.mayWrite path (R.LOOP_TRACE_CTRL b) → s.on (F.LOOP_TRACE_CTRL.RUN b) = true → ∃ t,
      exec (.traceRun path b false) s = .next t ∧ t.on (F.LOOP_TRACE_CTRL.RUN b) = false ∧ t.on (F.LOOP_TRACE_STATUS.STOPPED b) = true
      ∧ t.flag 0x1A (16 + b) = true ∧ t.get (F.LOOP_TRACE_STATUS.WR_PTR b) = s.get (F.LOOP_TRACE_STATUS.WR_PTR b) ∧ s.onlyRegs t
      [R.LOOP_TRACE_CTRL b, R.LOOP_TRACE_STATUS b])
  ∧ (∀ (s : State) (b : Fin 4), (nth s.ana.traces b.val {}).post = some 0 → s.on (F.LOOP_TRACE_CTRL.RUN b) = true → ∃ t, exec
      (.traceStop b) s = .next t ∧ t.on (F.LOOP_TRACE_CTRL.RUN b) = false ∧ t.on (F.LOOP_TRACE_STATUS.STOPPED b) = true ∧ t.flag 0x1A
      (16 + b) = true ∧ s.onlyRegs t [R.LOOP_TRACE_CTRL b, R.LOOP_TRACE_STATUS b])

/-- O45. A read of a word of a powered region: syndrome 0 returns the data; an odd one the corrected data, the word rewritten clean,
CE, MEM_LAST_CE and the bucket (CE_OVF and LEVEL 0 at THRESH); an even one but 0xFF poisons the word, counts UE and logs it; 0xFF
changes nothing; the last two return no data, in regions 0, 1 and 8 0 instead, and act on the consumer: the table entry is to be
recomputed and its output errored, the client frames have ERR, Plough's mtval takes the address, a validation ends with
LOAD_SOURCE. Plough's read of Hedge's SRAM is 0 and counted. Any one upset bit is corrected; any two are not. A write of bytes
merges and keeps poison or poisons by R257; a full write clears it. An armed flip mask turns the next write's stored bits over,
records the word, disarms and raises FLIP_DONE. Only the word accessed changes. An access to a region that is off waits. A word
that the region does not have is a fault. That one read's upset arrives as an operand is log 4. Concludes exec = next, on
conditions on state and operands alone, with the own effect of: memoryRead, memoryPartialWrite, memoryFullWrite, flipArm. -/
def Obligations.MemoryReadsAndWritesFollowR256R257 : Prop :=
  (∀ (s : State) (r : Fin 9) (w : Nat) (u : MemWord) (b : MemReader), w < regionWords r → s.domOn (wordDomain r w) = true → syndromeOf
      (turned (s.memWord r w) u) = 0 → (r.val = 5 → b ≠ .plough) → ∃ t, exec (.memoryRead r w u b) s = .next t ∧ t.mem.last = some
      (dataOf (turned (s.memWord r w) u)) ∧ t.memWord r w = turned (s.memWord r w) u ∧ t.mem.words = Store.write (fun _ => 0)
      s.mem.words (memKey r w) (t.memWord r w) ∧ t.regs = s.regs)
  ∧ (∀ (s : State) (r : Fin 9) (w : Nat) (u : MemWord) (b : MemReader), w < regionWords r → s.domOn (wordDomain r w) = true →
      correctable (syndromeOf (turned (s.memWord r w) u)) = true → (r.val = 5 → b ≠ .plough) → ∃ t, exec (.memoryRead r w u b) s =
      .next t ∧ t.mem.last = some (s.correction (turned (s.memWord r w) u)).1 ∧ t.memWord r w = memWordOf (s.correction (turned
      (s.memWord r w) u)).1 0 ∧ t.mem.words = Store.write (fun _ => 0) s.mem.words (memKey r w) (t.memWord r w) ∧ t.get
      (F.MEM_CE.COUNT r) = min (F.MEM_CE.COUNT r).top (s.get (F.MEM_CE.COUNT r) + 1) ∧ t.get F.MEM_LAST_CE.REGION = r ∧ t.get
      F.MEM_LAST_CE.SYNDROME = (syndromeOf (turned (s.memWord r w) u)).toNat ∧ t.get F.MEM_LAST_CE.WORD = w ∧ (s.get
      (F.MEM_BUCKET.LEVEL r) + 1 < s.get (F.MEM_BUCKET.THRESH r) → t.get (F.MEM_BUCKET.LEVEL r) = s.get (F.MEM_BUCKET.LEVEL r) + 1) ∧
      (s.get (F.MEM_BUCKET.THRESH r) ≤ s.get (F.MEM_BUCKET.LEVEL r) + 1 → (t.get (F.MEM_BUCKET.LEVEL r) = 0 ∧ t.flag 0x1C r = true)))
  ∧ (∀ (s : State) (r : Fin 9) (w : Nat) (u : MemWord) (b : MemReader), w < regionWords r → s.domOn (wordDomain r w) = true → r.val =
      0 ∨ r.val = 1 ∨ r.val = 8 → correctable (syndromeOf (turned (s.memWord r w) u)) = false → syndromeOf (turned (s.memWord r w) u)
      ≠ 0 → syndromeOf (turned (s.memWord r w) u) ≠ 0xFF → ∃ t, exec (.memoryRead r w u b) s = .next t ∧ t.mem.last = some 0 ∧
      t.memWord r w = memWordOf (dataOf (turned (s.memWord r w) u)) 0xFF ∧ t.mem.words = Store.write (fun _ => 0) s.mem.words (memKey
      r w) (t.memWord r w) ∧ t.get (F.MEM_UE.UE r) = min (F.MEM_UE.UE r).top (s.get (F.MEM_UE.UE r) + 1) ∧ t.flag 0x1C 17 = true ∧
      t.get F.MEM_LAST_UE.REGION = r ∧ t.get F.MEM_LAST_UE.SYNDROME = 0xFF ∧ t.get F.MEM_LAST_UE.WORD = w)
  ∧ (∀ (s : State) (r : Fin 9) (w : Nat) (u : MemWord) (b : MemReader), w < regionWords r → s.domOn (wordDomain r w) = true → r.val =
      3 ∨ r.val = 6 ∨ r.val = 7 → correctable (syndromeOf (turned (s.memWord r w) u)) = false → syndromeOf (turned (s.memWord r w) u)
      ≠ 0 → syndromeOf (turned (s.memWord r w) u) ≠ 0xFF → ∃ t, exec (.memoryRead r w u b) s = .next t ∧ t.mem.last = none ∧ t.memWord
      r w = memWordOf (dataOf (turned (s.memWord r w) u)) 0xFF ∧ t.mem.words = Store.write (fun _ => 0) s.mem.words (memKey r w)
      (t.memWord r w) ∧ t.get (F.MEM_UE.UE r) = min (F.MEM_UE.UE r).top (s.get (F.MEM_UE.UE r) + 1) ∧ t.flag 0x1C 17 = true ∧ t.get
      F.MEM_LAST_UE.REGION = r ∧ t.get F.MEM_LAST_UE.SYNDROME = 0xFF ∧ t.get F.MEM_LAST_UE.WORD = w)
  ∧ (∀ (s : State) (r : Fin 9) (w : Nat) (u : MemWord) (b : MemReader), w < regionWords r → s.domOn (wordDomain r w) = true → r.val =
      0 ∨ r.val = 1 ∨ r.val = 8 → syndromeOf (turned (s.memWord r w) u) = 0xFF → ∃ t, exec (.memoryRead r w u b) s = .next t ∧
      t.mem.last = some 0 ∧ t.memWord r w = turned (s.memWord r w) u ∧ t.mem.words = Store.write (fun _ => 0) s.mem.words (memKey r w)
      (t.memWord r w) ∧ t.regs = s.regs)
  ∧ (∀ (s : State) (r : Fin 9) (w : Nat) (u : MemWord) (b : MemReader), w < regionWords r → s.domOn (wordDomain r w) = true → r.val =
      3 ∨ r.val = 6 ∨ r.val = 7 → syndromeOf (turned (s.memWord r w) u) = 0xFF → ∃ t, exec (.memoryRead r w u b) s = .next t ∧
      t.mem.last = none ∧ t.memWord r w = turned (s.memWord r w) u ∧ t.mem.words = Store.write (fun _ => 0) s.mem.words (memKey r w)
      (t.memWord r w) ∧ t.regs = s.regs)
  ∧ (∀ (s : State) (w : Nat) (u : MemWord) (c : Carrier), w < regionWords 7 → s.domOn (wordDomain 7 w) = true → syndromeOf (turned
      (s.memWord 7 w) u) = 0xFF → ∃ t, exec (.memoryRead 7 w u (.table c)) s = .next t ∧ w ∈ t.mem.stale ∧ t.sent = .errored c ::
      s.sent ∧ t.regs = s.regs)
  ∧ (∀ (s : State) (w : Nat) (u : MemWord) (port : Fin 16) (n : Fin 3), w < regionWords 3 → s.domOn (wordDomain 3 w) = true →
      syndromeOf (turned (s.memWord 3 w) u) = 0xFF → port.val < s.ports.length → ∃ t, exec (.memoryRead 3 w u (.client port false n))
      s = .next t ∧ (t.port port).spoilIn = (s.port port).spoilIn + n ∧ t.regs = s.regs)
  ∧ (∀ (s : State) (w : Nat) (u : MemWord) (b : MemReader), w < regionWords 4 → s.domOn (wordDomain 4 w) = true → syndromeOf (turned
      (s.memWord 4 w) u) = 0xFF → b ≠ .plan → ∃ t, exec (.memoryRead 4 w u b) s = .next t ∧ t.mem.last = none ∧ t.mem.mtval = 8 * w ∧
      t.regs = s.regs)
  ∧ (∀ (s : State) (r : Fin 9) (w : Nat) (u : MemWord), w < regionWords r → s.domOn (wordDomain r w) = true → syndromeOf (turned
      (s.memWord r w) u) = 0xFF → r.val = 4 → s.bufState = 3 → s.plan.after ≠ .boot → ∃ t, exec (.memoryRead r w u .plan) s = .next t
      ∧ t.mem.last = none ∧ t.bufState = 5 ∧ t.get F.PLAN_STATUS.REASON = 0x09 ∧ t.flag 0x02 2 = true)
  ∧ (∀ (s : State) (w : Nat) (u : MemWord), w < regionWords 5 → ∃ t, exec (.memoryRead 5 w u .plough) s = .next t ∧ t.mem.last = some
      0 ∧ t.mem.words = s.mem.words ∧ t.get (F.CPU_COUNT.ALIAS_DROPPED) = min (F.CPU_COUNT.ALIAS_DROPPED).top (s.get
      (F.CPU_COUNT.ALIAS_DROPPED) + 1) ∧ s.keepsRegs t [R.CPU_COUNT])
  ∧ (∀ (s : State) (r : Fin 9) (w : Nat) (i : Fin 72) (b : MemReader), w < regionWords r → s.domOn (wordDomain r w) = true →
      syndromeOf (s.memWord r w) = 0 → (r.val = 5 → b ≠ .plough) → ∃ t, exec (.memoryRead r w (1 <<< i.val) b) s = .next t ∧
      t.mem.last = some (dataOf (s.memWord r w)) ∧ t.memWord r w = memWordOf (dataOf (s.memWord r w)) 0 ∧ t.get (F.MEM_CE.COUNT r) =
      min (F.MEM_CE.COUNT r).top (s.get (F.MEM_CE.COUNT r) + 1))
  ∧ (∀ (s : State) (r : Fin 9) (w : Nat) (i j : Fin 72) (b : MemReader), w < regionWords r → s.domOn (wordDomain r w) = true → i ≠ j →
      syndromeOf (s.memWord r w) = 0 → (r.val = 5 → b ≠ .plough) → ∃ t, exec (.memoryRead r w (1 <<< i.val ||| 1 <<< j.val) b) s =
      .next t ∧ t.mem.last = (if r.val = 0 ∨ r.val = 1 ∨ r.val = 8 then some 0 else none))
  ∧ (∀ (s : State) (r : Fin 9) (w : Nat) (u : MemWord) (b : MemReader), w < regionWords r → s.domOn (wordDomain r w) = false → (r.val
      = 5 → b ≠ .plough) → ∃ t, exec (.memoryRead r w u b) s = .next t ∧ t = s.memWait (.read r w u b))
  ∧ (∀ (s : State) (r : Fin 9) (w : Nat) (u : MemWord) (k : Fin 256) (v : BitVec 64), w < regionWords r → s.domOn (wordDomain r w) =
      false → ∃ t, exec (.memoryPartialWrite r w k v u) s = .next t ∧ t = s.memWait (.merge r w k v u))
  ∧ (∀ (s : State) (r : Fin 9) (w : Nat) (v : BitVec 64), w < regionWords r → s.domOn (wordDomain r w) = false → ∃ t, exec
      (.memoryFullWrite r w v) s = .next t ∧ t = s.memWait (.write r w v))
  ∧ (∀ (s : State) (r : Fin 9) (w : Nat) (u : MemWord) (k : Fin 256) (v : BitVec 64), w < regionWords r → s.domOn (wordDomain r w) =
      true → s.on F.MEM_FLIP_CTRL.ARMED = false ∨ s.get F.MEM_FLIP_CTRL.REGION ≠ r → syndromeOf (turned (s.memWord r w) u) = 0 → ∃ t,
      exec (.memoryPartialWrite r w k v u) s = .next t ∧ t.memWord r w = memWordOf (mergeBytes (dataOf (turned (s.memWord r w) u)) v
      k) 0 ∧ t.mem.words = Store.write (fun _ => 0) s.mem.words (memKey r w) (t.memWord r w) ∧ t.regs = s.regs)
  ∧ (∀ (s : State) (r : Fin 9) (w : Nat) (u : MemWord) (k : Fin 256) (v : BitVec 64), w < regionWords r → s.domOn (wordDomain r w) =
      true → s.on F.MEM_FLIP_CTRL.ARMED = false ∨ s.get F.MEM_FLIP_CTRL.REGION ≠ r → correctable (syndromeOf (turned (s.memWord r w)
      u)) = true → ∃ t, exec (.memoryPartialWrite r w k v u) s = .next t ∧ t.memWord r w = memWordOf (mergeBytes (s.correction (turned
      (s.memWord r w) u)).1 v k) 0 ∧ t.mem.words = Store.write (fun _ => 0) s.mem.words (memKey r w) (t.memWord r w) ∧ t.get
      (F.MEM_CE.COUNT r) = min (F.MEM_CE.COUNT r).top (s.get (F.MEM_CE.COUNT r) + 1) ∧ t.get F.MEM_LAST_CE.REGION = r ∧ t.get
      F.MEM_LAST_CE.SYNDROME = (syndromeOf (turned (s.memWord r w) u)).toNat ∧ t.get F.MEM_LAST_CE.WORD = w ∧ (s.get
      (F.MEM_BUCKET.LEVEL r) + 1 < s.get (F.MEM_BUCKET.THRESH r) → t.get (F.MEM_BUCKET.LEVEL r) = s.get (F.MEM_BUCKET.LEVEL r) + 1) ∧
      (s.get (F.MEM_BUCKET.THRESH r) ≤ s.get (F.MEM_BUCKET.LEVEL r) + 1 → (t.get (F.MEM_BUCKET.LEVEL r) = 0 ∧ t.flag 0x1C r = true)))
  ∧ (∀ (s : State) (r : Fin 9) (w : Nat) (u : MemWord) (k : Fin 256) (v : BitVec 64), w < regionWords r → s.domOn (wordDomain r w) =
      true → s.on F.MEM_FLIP_CTRL.ARMED = false ∨ s.get F.MEM_FLIP_CTRL.REGION ≠ r → correctable (syndromeOf (turned (s.memWord r w)
      u)) = false → syndromeOf (turned (s.memWord r w) u) ≠ 0 → syndromeOf (turned (s.memWord r w) u) ≠ 0xFF → ∃ t, exec
      (.memoryPartialWrite r w k v u) s = .next t ∧ t.memWord r w = memWordOf (mergeBytes (dataOf (turned (s.memWord r w) u)) v k)
      0xFF ∧ t.mem.words = Store.write (fun _ => 0) s.mem.words (memKey r w) (t.memWord r w) ∧ t.get (F.MEM_UE.UE r) = min
      (F.MEM_UE.UE r).top (s.get (F.MEM_UE.UE r) + 1) ∧ t.get (F.MEM_UE.POISON_WRITES r) = min (F.MEM_UE.POISON_WRITES r).top (s.get
      (F.MEM_UE.POISON_WRITES r) + 1) ∧ t.flag 0x1C 18 = true ∧ t.get F.MEM_LAST_UE.REGION = r ∧ t.get F.MEM_LAST_UE.SYNDROME = 0xFF ∧
      t.get F.MEM_LAST_UE.WORD = w)
  ∧ (∀ (s : State) (r : Fin 9) (w : Nat) (u : MemWord) (k : Fin 256) (v : BitVec 64), w < regionWords r → s.domOn (wordDomain r w) =
      true → s.on F.MEM_FLIP_CTRL.ARMED = false ∨ s.get F.MEM_FLIP_CTRL.REGION ≠ r → syndromeOf (turned (s.memWord r w) u) = 0xFF → ∃
      t, exec (.memoryPartialWrite r w k v u) s = .next t ∧ t.memWord r w = memWordOf (mergeBytes (dataOf (turned (s.memWord r w) u))
      v k) 0xFF ∧ t.mem.words = Store.write (fun _ => 0) s.mem.words (memKey r w) (t.memWord r w) ∧ t.regs = s.regs)
  ∧ (∀ (s : State) (r : Fin 9) (w : Nat) (v : BitVec 64), w < regionWords r → s.domOn (wordDomain r w) = true → s.on
      F.MEM_FLIP_CTRL.ARMED = false ∨ s.get F.MEM_FLIP_CTRL.REGION ≠ r → ∃ t, exec (.memoryFullWrite r w v) s = .next t ∧ t.memWord r
      w = memWordOf v 0 ∧ t.mem.words = Store.write (fun _ => 0) s.mem.words (memKey r w) (t.memWord r w) ∧ t.regs = s.regs)
  ∧ (∀ (s : State) (r : Fin 9) (w : Nat) (v : BitVec 64), w < regionWords r → s.domOn (wordDomain r w) = true → s.on
      F.MEM_FLIP_CTRL.ARMED = true → s.get F.MEM_FLIP_CTRL.REGION = r → s.rd R.MEM_FLIP_DATA_LO = 0 → s.rd R.MEM_FLIP_DATA_HI = 0 → ∃
      t, exec (.memoryFullWrite r w v) s = .next t ∧ t.memWord r w = memWordOf v (BitVec.ofNat 8 (s.get F.MEM_FLIP_CTRL.CHECK)) ∧
      t.mem.words = Store.write (fun _ => 0) s.mem.words (memKey r w) (t.memWord r w) ∧ t.on F.MEM_FLIP_CTRL.ARMED = false ∧ t.get
      F.MEM_FLIP_ADDR.REGION = r ∧ t.get F.MEM_FLIP_ADDR.WORD = w ∧ t.flag 0x1C 21 = true ∧ s.keepsRegs t [R.MEM_FLIP_CTRL,
      R.MEM_FLIP_ADDR])
  ∧ (∀ (s : State) (path : Path) (region : Fin 16) (check : Byte), s.mayWriteRws path R.MEM_FLIP_CTRL 2 → ∃ t, exec (.flipArm path
      region check) s = .next t ∧ t.on F.MEM_FLIP_CTRL.ARMED = true ∧ t.get F.MEM_FLIP_CTRL.REGION = min 8 region.val ∧ t.get
      F.MEM_FLIP_CTRL.CHECK = check.toNat ∧ s.onlyRegs t [R.MEM_FLIP_CTRL])
  ∧ (∀ (s : State) (r : Fin 9) (w : Nat) (u : MemWord) (b : MemReader) (k : Fin 256) (v : BitVec 64), regionWords r ≤ w → exec
      (.memoryRead r w u b) s = .fault .noSuchWord ∧ exec (.memoryPartialWrite r w k v u) s = .fault .noSuchWord ∧ exec
      (.memoryFullWrite r w v) s = .fault .noSuchWord)

/-- O46. BUCKET_LEAK lowers LEVEL of its region by 1 above 0. HARROW_STEP in a powered region (of one domain) with EN and no self-test
looks at its pointer's word: a correctable word is rewritten clean and counted in CORRECTED, poison is left and counted in
POISONED, a clean one is left; the pointer moves on by one within the region, and from its last word to its first. With EN 0
nothing happens. MEMORY_INIT_DONE with no access waiting leaves every word 0 and raises INIT_DONE. Concludes exec = next, on
conditions on state and operands alone, with the own effect of: bucketLeak, harrowStep, memoryInitDone. -/
def Obligations.BucketsHarrowAndInitialisation : Prop :=
  (∀ (s : State) (r : Fin 9), ∃ t, exec (.bucketLeak r) s = .next t ∧ t.get (F.MEM_BUCKET.LEVEL r) = s.get (F.MEM_BUCKET.LEVEL r) - 1
      ∧ s.onlyRegs t [R.MEM_BUCKET r])
  ∧ (∀ (s : State) (r : Fin 9) (u : MemWord) (ms w : Nat), s.on F.MEM_HARROW_CTRL.EN = true → s.bistRuns = false → r.val ≠ 2 → s.domOn
      (wordDomain r w) = true → w = nth s.mem.next r.val 0 → w + 1 < regionWords r → s.mem.next.length = 9 → syndromeOf (turned
      (s.memWord r w) u) = 0 → ∃ t, exec (.harrowStep r u ms) s = .next t ∧ nth t.mem.next r.val 0 = w + 1 ∧ t.memWord r w = turned
      (s.memWord r w) u ∧ t.regs = s.regs)
  ∧ (∀ (s : State) (r : Fin 9) (u : MemWord) (ms w : Nat), s.on F.MEM_HARROW_CTRL.EN = true → s.bistRuns = false → r.val ≠ 2 → s.domOn
      (wordDomain r w) = true → w = nth s.mem.next r.val 0 → w + 1 < regionWords r → s.mem.next.length = 9 → correctable (syndromeOf
      (turned (s.memWord r w) u)) = true → ∃ t, exec (.harrowStep r u ms) s = .next t ∧ nth t.mem.next r.val 0 = w + 1 ∧ t.memWord r w
      = memWordOf (s.correction (turned (s.memWord r w) u)).1 0 ∧ t.get (F.MEM_HARROW.CORRECTED r) = min (F.MEM_HARROW.CORRECTED
      r).top (s.get (F.MEM_HARROW.CORRECTED r) + 1) ∧ t.get (F.MEM_CE.COUNT r) = min (F.MEM_CE.COUNT r).top (s.get (F.MEM_CE.COUNT r)
      + 1))
  ∧ (∀ (s : State) (r : Fin 9) (u : MemWord) (ms w : Nat), s.on F.MEM_HARROW_CTRL.EN = true → s.bistRuns = false → r.val ≠ 2 → s.domOn
      (wordDomain r w) = true → w = nth s.mem.next r.val 0 → w + 1 < regionWords r → s.mem.next.length = 9 → syndromeOf (turned
      (s.memWord r w) u) = 0xFF → ∃ t, exec (.harrowStep r u ms) s = .next t ∧ nth t.mem.next r.val 0 = w + 1 ∧ t.memWord r w = turned
      (s.memWord r w) u ∧ t.get (F.MEM_HARROW.POISONED r) = min (F.MEM_HARROW.POISONED r).top (s.get (F.MEM_HARROW.POISONED r) + 1) ∧
      s.keepsRegs t [R.MEM_HARROW r])
  ∧ (∀ (s : State) (r : Fin 9) (u : MemWord) (ms w : Nat), s.on F.MEM_HARROW_CTRL.EN = true → s.bistRuns = false → r.val ≠ 2 → s.domOn
      (wordDomain r w) = true → w = nth s.mem.next r.val 0 → w + 1 = regionWords r → s.mem.next.length = 9 → syndromeOf (turned
      (s.memWord r w) u) = 0 → ∃ t, exec (.harrowStep r u ms) s = .next t ∧ nth t.mem.next r.val 0 = 0 ∧ t.memWord r w = turned
      (s.memWord r w) u)
  ∧ (∀ (s : State) (r : Fin 9) (u : MemWord) (ms : Nat), s.on F.MEM_HARROW_CTRL.EN = false → ∃ t, exec (.harrowStep r u ms) s = .next
      t ∧ t = s)
  ∧ (∀ (s : State), s.mem.waiting = [] → ∃ t, exec (.memoryInitDone) s = .next t ∧ t.mem.words = [] ∧ t.flag 0x1C 20 = true ∧
      s.keepsRegs t [])

/-- O47. CXL_PERST_DEASSERT and CXL_REF_RESTORED start training from DOWN where both the reference and the release are there.
CXL_L0_REACHED in TRAINING makes the port UP, reports PROTO, WIDTH and SPEED, and is LINK_UP through wake source 3;
CXL_TRAINING_TIMEOUT counts TRAIN_FAILS, CXL_LINK_RECOVERY in UP CORR_ERR, and each leaves the state. CXL_LINK_DOWN,
CXL_PERST_ASSERT, CXL_HOT_RESET and CXL_REF_LOST take UP to DOWN with LINK_DOWN, an orderly one with the window NONE, else with
SURPRISE and WIN_LOST and the window NONE; the last three take TRAINING to DOWN without LINK_DOWN. CXL_RETRAIN keeps the state.
CXL_PERST_ASSERT and CXL_HOT_RESET disable MSI-X. MSIX_ENABLE of a disabled MSI-X pends every vector whose cause is present: under
the function mask they wait, without it and with the port UP each unmasked one sends its message; of an enabled one it pends
nothing; it also disables MSI-X. Concludes exec = next, on conditions on state and operands alone, with the own effect of:
cxlPerstDeassert, cxlRefRestored, cxlL0Reached, cxlTrainingTimeout, cxlLinkRecovery, cxlLinkDown, cxlPerstAssert, cxlHotReset,
cxlRefLost, cxlRetrain, msixEnable. -/
def Obligations.CxlPortFollowsTable135 : Prop :=
  (∀ (s : State), s.portState = 0 → s.cxl.refOk = true → ∃ t, exec (.cxlPerstDeassert) s = .next t ∧ t.portState = 1 ∧ t.cxl.released
      = true ∧ s.keepsRegs t [R.CXLCTL_LINK] ∧ t.mem = s.mem)
  ∧ (∀ (s : State), s.portState = 0 → s.cxl.refOk = false → ∃ t, exec (.cxlPerstDeassert) s = .next t ∧ t.portState = 0 ∧
      t.cxl.released = true ∧ t.regs = s.regs)
  ∧ (∀ (s : State), s.portState = 0 → s.cxl.released = true → ∃ t, exec (.cxlRefRestored) s = .next t ∧ t.portState = 1 ∧ t.cxl.refOk
      = true ∧ s.keepsRegs t [R.CXLCTL_LINK])
  ∧ (∀ (s : State) (proto : Fin 3) (width : Fin 16) (speed : Fin 7), s.portState = 1 → s.on (F.PWR_WAKE_MAP.EN 3) = false ∨ s.domOn
      (s.get (F.PWR_WAKE_MAP.DOMAIN 3)) = true → ∃ t, exec (.cxlL0Reached proto width speed) s = .next t ∧ t.portState = 2 ∧ t.get
      F.CXLCTL_LINK.PROTO = proto ∧ t.get F.CXLCTL_LINK.WIDTH = min width.val (s.get F.CXLCTL_LINK_CTRL.MAX_WIDTH) ∧ t.get
      F.CXLCTL_LINK.SPEED = min speed.val (s.get F.CXLCTL_LINK_CTRL.MAX_SPEED) ∧ t.flag 0x1D 0 = true ∧ s.keepsRegs t [R.CXLCTL_LINK,
      R.MSIX_PBA 0, R.MSIX_PBA 1] ∧ t.mem = s.mem)
  ∧ (∀ (s : State), s.portState = 1 → ∃ t, exec (.cxlTrainingTimeout) s = .next t ∧ t.portState = 1 ∧ t.get
      (F.CXLCTL_LINK_COUNT.TRAIN_FAILS) = min (F.CXLCTL_LINK_COUNT.TRAIN_FAILS).top (s.get (F.CXLCTL_LINK_COUNT.TRAIN_FAILS) + 1) ∧
      s.onlyRegs t [R.CXLCTL_LINK_COUNT])
  ∧ (∀ (s : State), s.portState = 2 → ∃ t, exec (.cxlLinkRecovery) s = .next t ∧ t.portState = 2 ∧ t.get
      (F.CXLCTL_LINK_COUNT.CORR_ERR) = min (F.CXLCTL_LINK_COUNT.CORR_ERR).top (s.get (F.CXLCTL_LINK_COUNT.CORR_ERR) + 1) ∧ s.keepsRegs
      t [R.CXLCTL_LINK_COUNT] ∧ t.winState = s.winState ∧ t.sent = s.sent ∧ t.mem = s.mem)
  ∧ (∀ (s : State), s.portState = 2 → s.winState = 0 → ∃ t, exec (.cxlLinkDown) s = .next t ∧ t.portState = 0 ∧ t.flag 0x1D 1 = true ∧
      t.get F.CXLCTL_LINK_COUNT.SURPRISES = s.get F.CXLCTL_LINK_COUNT.SURPRISES ∧ t.winState = 0 ∧ t.on (F.SEC_SESSION.OPEN 0) =
      false)
  ∧ (∀ (s : State), s.portState = 2 → s.winState = 0 → ∃ t, exec (.cxlPerstAssert) s = .next t ∧ t.portState = 0 ∧ t.flag 0x1D 1 =
      true ∧ t.get F.CXLCTL_LINK_COUNT.SURPRISES = s.get F.CXLCTL_LINK_COUNT.SURPRISES ∧ t.winState = 0 ∧ t.on (F.SEC_SESSION.OPEN 0)
      = false)
  ∧ (∀ (s : State), s.portState = 2 → s.winState = 0 → ∃ t, exec (.cxlHotReset) s = .next t ∧ t.portState = 0 ∧ t.flag 0x1D 1 = true ∧
      t.get F.CXLCTL_LINK_COUNT.SURPRISES = s.get F.CXLCTL_LINK_COUNT.SURPRISES ∧ t.winState = 0 ∧ t.on (F.SEC_SESSION.OPEN 0) =
      false)
  ∧ (∀ (s : State), s.portState = 2 → s.winState = 0 → ∃ t, exec (.cxlRefLost) s = .next t ∧ t.portState = 0 ∧ t.flag 0x1D 1 = true ∧
      t.get F.CXLCTL_LINK_COUNT.SURPRISES = s.get F.CXLCTL_LINK_COUNT.SURPRISES ∧ t.winState = 0 ∧ t.on (F.SEC_SESSION.OPEN 0) =
      false)
  ∧ (∀ (s : State), s.portState = 2 → s.winState ≠ 0 → ∃ t, exec (.cxlLinkDown) s = .next t ∧ t.portState = 0 ∧ t.flag 0x1D 1 = true ∧
      t.flag 0x1D 2 = true ∧ t.flag 0x1D 5 = true ∧ t.get (F.CXLCTL_LINK_COUNT.SURPRISES) = min (F.CXLCTL_LINK_COUNT.SURPRISES).top
      (s.get (F.CXLCTL_LINK_COUNT.SURPRISES) + 1) ∧ t.winState = 0 ∧ t.cxl.lines = [] ∧ t.on (F.SEC_SESSION.OPEN 0) = false)
  ∧ (∀ (s : State), s.portState = 2 → s.winState ≠ 0 → ∃ t, exec (.cxlPerstAssert) s = .next t ∧ t.portState = 0 ∧ t.flag 0x1D 1 =
      true ∧ t.flag 0x1D 2 = true ∧ t.flag 0x1D 5 = true ∧ t.get (F.CXLCTL_LINK_COUNT.SURPRISES) = min
      (F.CXLCTL_LINK_COUNT.SURPRISES).top (s.get (F.CXLCTL_LINK_COUNT.SURPRISES) + 1) ∧ t.winState = 0 ∧ t.cxl.lines = [] ∧ t.on
      (F.SEC_SESSION.OPEN 0) = false)
  ∧ (∀ (s : State), s.portState = 2 → s.winState ≠ 0 → ∃ t, exec (.cxlHotReset) s = .next t ∧ t.portState = 0 ∧ t.flag 0x1D 1 = true ∧
      t.flag 0x1D 2 = true ∧ t.flag 0x1D 5 = true ∧ t.get (F.CXLCTL_LINK_COUNT.SURPRISES) = min (F.CXLCTL_LINK_COUNT.SURPRISES).top
      (s.get (F.CXLCTL_LINK_COUNT.SURPRISES) + 1) ∧ t.winState = 0 ∧ t.cxl.lines = [] ∧ t.on (F.SEC_SESSION.OPEN 0) = false)
  ∧ (∀ (s : State), s.portState = 2 → s.winState ≠ 0 → ∃ t, exec (.cxlRefLost) s = .next t ∧ t.portState = 0 ∧ t.flag 0x1D 1 = true ∧
      t.flag 0x1D 2 = true ∧ t.flag 0x1D 5 = true ∧ t.get (F.CXLCTL_LINK_COUNT.SURPRISES) = min (F.CXLCTL_LINK_COUNT.SURPRISES).top
      (s.get (F.CXLCTL_LINK_COUNT.SURPRISES) + 1) ∧ t.winState = 0 ∧ t.cxl.lines = [] ∧ t.on (F.SEC_SESSION.OPEN 0) = false)
  ∧ (∀ (s : State), s.portState = 1 → ∃ t, exec (.cxlPerstAssert) s = .next t ∧ t.portState = 0 ∧ t.flag 0x1D 1 = s.flag 0x1D 1 ∧
      t.winState = s.winState ∧ t.mem = s.mem ∧ t.msixEnabled = false)
  ∧ (∀ (s : State), s.portState = 1 → ∃ t, exec (.cxlHotReset) s = .next t ∧ t.portState = 0 ∧ t.flag 0x1D 1 = s.flag 0x1D 1 ∧
      t.winState = s.winState ∧ t.mem = s.mem ∧ t.msixEnabled = false)
  ∧ (∀ (s : State), s.portState = 1 → ∃ t, exec (.cxlRefLost) s = .next t ∧ t.portState = 0 ∧ t.flag 0x1D 1 = s.flag 0x1D 1 ∧
      t.winState = s.winState ∧ t.mem = s.mem ∧ t.cxl.refOk = false)
  ∧ (∀ (s : State) (path : Path) (value : Word) (width : Fin 16) (speed : Fin 7), s.mayWrite path R.CXLCTL_LINK_CTRL → s.portState = 2
      → ∃ t, exec (.cxlRetrain path value width speed) s = .next t ∧ t.portState = 2 ∧ t.get F.CXLCTL_LINK.WIDTH = min width.val
      (t.get F.CXLCTL_LINK_CTRL.MAX_WIDTH) ∧ t.get F.CXLCTL_LINK.SPEED = min speed.val (t.get F.CXLCTL_LINK_CTRL.MAX_SPEED) ∧
      t.winState = s.winState ∧ s.onlyRegs t [R.CXLCTL_LINK, R.CXLCTL_LINK_CTRL])
  ∧ (∀ (s : State) (path : Path) (value : Word) (width : Fin 16) (speed : Fin 7), s.mayWrite path R.CXLCTL_LINK_CTRL → s.portState ≠ 2
      → ∃ t, exec (.cxlRetrain path value width speed) s = .next t ∧ t.portState = s.portState ∧ t.get F.CXLCTL_LINK_CTRL.MAX_SPEED =
      max 1 (min 6 (bitsOf value 3 0)) ∧ s.onlyRegs t [R.CXLCTL_LINK_CTRL])
  ∧ (∀ (s : State), s.msixEnabled = false → ∃ t, exec (.msixEnable true true) s = .next t ∧ t.msixEnabled = true ∧ t.msixMasked = true
      ∧ (∀ v : Fin 64, s.cause v = true → t.on (pba v) = true) ∧ s.keepsRegs t [R.MSIX_PBA 0, R.MSIX_PBA 1] ∧ t.sent = s.sent)
  ∧ (∀ (s : State), s.msixEnabled = false → s.cxlUp = true → ∃ t, exec (.msixEnable true false) s = .next t ∧ t.msixEnabled = true ∧
      t.msixMasked = false ∧ (∀ v : Fin 64, (s.cause v = true ∧ s.on (vectorMask v) = false) → (.msix v ∈ t.sent ∧ t.on (pba v) =
      false)) ∧ (∀ v : Fin 64, (s.cause v = true ∧ s.on (vectorMask v) = true) → t.on (pba v) = true) ∧ s.keepsRegs t [R.MSIX_PBA 0,
      R.MSIX_PBA 1])
  ∧ (∀ (s : State) (masked : Bool), ∃ t, exec (.msixEnable false masked) s = .next t ∧ t.msixEnabled = false ∧ t.msixMasked = masked ∧
      t.regs = s.regs ∧ t.sent = s.sent)
  ∧ (∀ (s : State), s.msixEnabled = true → ∃ t, exec (.msixEnable true true) s = .next t ∧ t.msixEnabled = true ∧ t.msixMasked = true
      ∧ t.regs = s.regs ∧ t.sent = s.sent)

/-- O48. GRANT by the host with the port UP as CXL and the window NONE grants it with the next epoch and WIN_GRANTED; otherwise it is
violation 0x05; over another path it is discarded and counted. REVOKE of GRANTED goes to REVOKING, in REVOKING does nothing, in
NONE is a violation. WRITE_BACK_COMPLETE ends REVOKING with WIN_REVOKED, its timeout with WIN_LOST. Timeouts and host errors are
counted with violations 0x07 and 0x06; the fourth timeout in a row loses the window. A snoop is answered with the line held or no
data, which is then given up. GO while BUSY is violation 0x01, with LENGTH 0 EMPTY and DONE, otherwise BUSY. MBX_COMMAND_DONE with
a response waiting clears BUSY and sets DONE and LENGTH. HEAD moves to a written entry, else to TAIL with violation 0x08.
Concludes exec = next, on conditions on state and operands alone, with the own effect of: grant, revoke, writeBackComplete,
writeBackTimeout, windowRequestTimeout, windowHostError, hostSnoop, mbxGo, mbxCommandDone, mbxNotifyHeadWrite. -/
def Obligations.WindowAndMailboxFollowTable136AndR271 : Prop :=
  (∀ (s : State) (path : Path), s.mayWrite path R.CXLCTL_WIN_CMD → isCxl path = true → s.winState = 0 → s.cxlUp = true → s.get
      F.CXLCTL_LINK.PROTO = 2 → ∃ t, exec (.grant path) s = .next t ∧ t.winState = 1 ∧ t.get F.CXLCTL_WIN_EPOCH.EPOCH = (s.get
      F.CXLCTL_WIN_EPOCH.EPOCH + 1) % 2 ^ 32 ∧ t.flag 0x1D 3 = true ∧ t.cxl.timeouts = 0)
  ∧ (∀ (s : State) (path : Path), s.mayWrite path R.CXLCTL_WIN_CMD → isCxl path = true → s.winState ≠ 0 ∨ s.cxlUp = false ∨ s.get
      F.CXLCTL_LINK.PROTO ≠ 2 → ∃ t, exec (.grant path) s = .next t ∧ t.get (F.CXLCTL_VIOLATION.COUNT) = min
      (F.CXLCTL_VIOLATION.COUNT).top (s.get (F.CXLCTL_VIOLATION.COUNT) + 1) ∧ t.get F.CXLCTL_VIOLATION.LAST = 0x05 ∧ t.flag 0x1D 7 =
      true ∧ t.winState = s.winState ∧ s.onlyRegs t [R.CXLCTL_VIOLATION])
  ∧ (∀ (s : State) (path : Path), s.mayWrite path R.CXLCTL_WIN_CMD → isCxl path = false → ∃ t, exec (.grant path) s = .next t ∧ t.get
      (F.CXLCTL_WIN_COUNT.DROPPED) = min (F.CXLCTL_WIN_COUNT.DROPPED).top (s.get (F.CXLCTL_WIN_COUNT.DROPPED) + 1) ∧ s.onlyRegs t
      [R.CXLCTL_WIN_COUNT])
  ∧ (∀ (s : State) (path : Path), s.mayWrite path R.CXLCTL_WIN_CMD → isCxl path = true → s.winState = 1 → s.bufState ≠ 1 → s.fwState ≠
      1 → ∃ t, exec (.revoke path) s = .next t ∧ t.winState = 2 ∧ t.cxl.lines = s.cxl.lines ∧ t.get F.CXLCTL_WIN_EPOCH.EPOCH = s.get
      F.CXLCTL_WIN_EPOCH.EPOCH)
  ∧ (∀ (s : State) (path : Path), s.mayWrite path R.CXLCTL_WIN_CMD → isCxl path = true → s.winState = 2 → ∃ t, exec (.revoke path) s =
      .next t ∧ t = s)
  ∧ (∀ (s : State) (path : Path), s.mayWrite path R.CXLCTL_WIN_CMD → isCxl path = true → s.winState = 0 → ∃ t, exec (.revoke path) s =
      .next t ∧ t.get (F.CXLCTL_VIOLATION.COUNT) = min (F.CXLCTL_VIOLATION.COUNT).top (s.get (F.CXLCTL_VIOLATION.COUNT) + 1) ∧ t.get
      F.CXLCTL_VIOLATION.LAST = 0x05 ∧ t.flag 0x1D 7 = true ∧ t.winState = 0 ∧ s.onlyRegs t [R.CXLCTL_VIOLATION])
  ∧ (∀ (s : State), s.winState = 2 → ∃ t, exec (.writeBackComplete) s = .next t ∧ t.winState = 0 ∧ t.cxl.lines = [] ∧ t.flag 0x1D 4 =
      true ∧ s.keepsRegs t [R.CXLCTL_WIN_CMD])
  ∧ (∀ (s : State), s.winState = 2 → ∃ t, exec (.writeBackTimeout) s = .next t ∧ t.winState = 0 ∧ t.cxl.lines = [] ∧ t.flag 0x1D 5 =
      true ∧ s.keepsRegs t [R.CXLCTL_WIN_CMD])
  ∧ (∀ (s : State) (user : WindowUser), s.winState = 1 → s.cxl.timeouts < 3 → s.bufState ≠ 1 → s.fwState ≠ 1 → ∃ t, exec
      (.windowRequestTimeout user) s = .next t ∧ t.get (F.CXLCTL_VIOLATION.COUNT) = min (F.CXLCTL_VIOLATION.COUNT).top (s.get
      (F.CXLCTL_VIOLATION.COUNT) + 1) ∧ t.get F.CXLCTL_VIOLATION.LAST = 0x07 ∧ t.flag 0x1D 7 = true ∧ t.get
      (F.CXLCTL_WIN_COUNT.TIMEOUTS) = min (F.CXLCTL_WIN_COUNT.TIMEOUTS).top (s.get (F.CXLCTL_WIN_COUNT.TIMEOUTS) + 1) ∧ t.cxl.timeouts
      = s.cxl.timeouts + 1 ∧ t.winState = 1 ∧ s.keepsRegs t [R.CXLCTL_WIN_COUNT, R.CXLCTL_VIOLATION])
  ∧ (∀ (s : State) (user : WindowUser), s.winState = 1 → s.cxl.timeouts = 3 → s.bufState ≠ 1 → s.fwState ≠ 1 → ∃ t, exec
      (.windowRequestTimeout user) s = .next t ∧ t.get (F.CXLCTL_VIOLATION.COUNT) = min (F.CXLCTL_VIOLATION.COUNT).top (s.get
      (F.CXLCTL_VIOLATION.COUNT) + 1) ∧ t.get F.CXLCTL_VIOLATION.LAST = 0x07 ∧ t.flag 0x1D 7 = true ∧ t.get
      (F.CXLCTL_WIN_COUNT.TIMEOUTS) = min (F.CXLCTL_WIN_COUNT.TIMEOUTS).top (s.get (F.CXLCTL_WIN_COUNT.TIMEOUTS) + 1) ∧ t.winState = 0
      ∧ t.cxl.lines = [] ∧ t.flag 0x1D 5 = true)
  ∧ (∀ (s : State), s.winState = 1 → s.bufState = 1 → s.plan.load = .window → ∃ t, exec (.windowRequestTimeout .plan) s = .next t ∧
      t.bufState = 0 ∧ t.get F.PLAN_STATUS.REASON = 0x09 ∧ t.get (F.CXLCTL_WIN_COUNT.TIMEOUTS) = min (F.CXLCTL_WIN_COUNT.TIMEOUTS).top
      (s.get (F.CXLCTL_WIN_COUNT.TIMEOUTS) + 1) ∧ t.flag 0x02 2 = true)
  ∧ (∀ (s : State) (user : WindowUser), s.winState ≠ 0 → s.bufState ≠ 1 → s.fwState ≠ 1 → ∃ t, exec (.windowHostError user) s = .next
      t ∧ t.get (F.CXLCTL_VIOLATION.COUNT) = min (F.CXLCTL_VIOLATION.COUNT).top (s.get (F.CXLCTL_VIOLATION.COUNT) + 1) ∧ t.get
      F.CXLCTL_VIOLATION.LAST = 0x06 ∧ t.flag 0x1D 7 = true ∧ t.get (F.CXLCTL_WIN_COUNT.HOST_ERR) = min
      (F.CXLCTL_WIN_COUNT.HOST_ERR).top (s.get (F.CXLCTL_WIN_COUNT.HOST_ERR) + 1) ∧ t.cxl.timeouts = 0 ∧ t.winState = s.winState ∧
      s.keepsRegs t [R.CXLCTL_WIN_COUNT, R.CXLCTL_VIOLATION])
  ∧ (∀ (s : State) (line : Nat), ∃ t, exec (.hostSnoop line) s = .next t ∧ t.sent = .snoop ((s.cxl.lines.find? (fun l => l.1 =
      line)).map (·.2)) :: s.sent ∧ t.cxl.lines = s.cxl.lines.filter (fun l => l.1 ≠ line) ∧ t.regs = s.regs ∧ t.mem = s.mem)
  ∧ (∀ (s : State) (length : Fin 8192), s.cxlUp = true → s.on F.MBX_STATUS.BUSY = true → ∃ t, exec (.mbxGo length) s = .next t ∧ t.get
      (F.CXLCTL_VIOLATION.COUNT) = min (F.CXLCTL_VIOLATION.COUNT).top (s.get (F.CXLCTL_VIOLATION.COUNT) + 1) ∧ t.get
      F.CXLCTL_VIOLATION.LAST = 0x01 ∧ t.flag 0x1D 7 = true ∧ s.onlyRegs t [R.CXLCTL_VIOLATION])
  ∧ (∀ (s : State), s.cxlUp = true → s.on F.MBX_STATUS.BUSY = false → ∃ t, exec (.mbxGo 0) s = .next t ∧ t.get
      (F.CXLCTL_VIOLATION.COUNT) = min (F.CXLCTL_VIOLATION.COUNT).top (s.get (F.CXLCTL_VIOLATION.COUNT) + 1) ∧ t.get
      F.CXLCTL_VIOLATION.LAST = 0x03 ∧ t.flag 0x1D 7 = true ∧ t.get F.MBX_STATUS.ERROR = 1 ∧ t.on F.MBX_STATUS.DONE = true ∧ t.on
      F.MBX_STATUS.BUSY = false ∧ s.keepsRegs t [R.CXLCTL_VIOLATION])
  ∧ (∀ (s : State) (length : Fin 8192) (m : List Byte), s.cxlUp = true → s.on F.MBX_STATUS.BUSY = false → length.val ≠ 0 → m =
      s.getBytes (R.MBX_COMMAND 0) (min 4096 length.val) → 8 ≤ m.length → m.length = 8 + beNat (slice m 6 2) + (if beNat (slice m 1 1)
      = 4 then 0 else 40) → 0 < s.sec.requests.length → ∃ t, exec (.mbxGo length) s = .next t ∧ t.on F.MBX_STATUS.BUSY = true ∧ t.on
      F.MBX_STATUS.DONE = false ∧ nth t.sec.requests 0 none = some m ∧ s.keepsRegs t [R.MBX_STATUS])
  ∧ (∀ (s : State) (r : List Byte), s.on F.MBX_STATUS.BUSY = true → s.sec.mbxResp = some r → s.cxl.discard = false → r.length ≤ 4096 →
      ∃ t, exec (.mbxCommandDone) s = .next t ∧ t.on F.MBX_STATUS.BUSY = false ∧ t.on F.MBX_STATUS.DONE = true ∧ t.get
      F.MBX_STATUS.LENGTH = r.length ∧ t.getBytes (R.MBX_RESPONSE 0) r.length = r ∧ t.sec.mbxResp = none)
  ∧ (∀ (s : State) (r : List Byte), s.on F.MBX_STATUS.BUSY = true → s.sec.mbxResp = some r → s.cxl.discard = true → ∃ t, exec
      (.mbxCommandDone) s = .next t ∧ t.on F.MBX_STATUS.BUSY = false ∧ t.on F.MBX_STATUS.DONE = false ∧ s.keepsRegs t [])
  ∧ (∀ (s : State) (head : Fin 16) (h k : Nat), h = s.get F.MBX_NOTIFY_HEAD.HEAD → k = s.get F.MBX_NOTIFY_TAIL.TAIL → ∃ t, exec
      (.mbxNotifyHeadWrite head) s = .next t ∧ ((head.val + 16 - h) % 16 ≤ (k + 16 - h) % 16 → t.get F.MBX_NOTIFY_HEAD.HEAD = head) ∧
      ((k + 16 - h) % 16 < (head.val + 16 - h) % 16 → (t.get F.MBX_NOTIFY_HEAD.HEAD = k ∧ t.get F.CXLCTL_VIOLATION.LAST = 0x08 ∧
      t.flag 0x1D 7 = true)) ∧ s.keepsRegs t [R.CXLCTL_VIOLATION] ∧ t.mem = s.mem)

/-- O49. HELLO ends its path's session. Of an unlocked role 1 to 4 it leaves a challenge with a SID that is not 0 and 32 bytes of
nonce; role 0 or above 4 is MALFORMED, a locked one LOCKED_OUT. PROVE without a challenge, of another SID or late is refused with
STATE. A proof that verifies opens the session with the keys of R289 and clears the failures; another is MAC_BAD and counts, and
the fifth in a row locks the role. A request whose MAC fails, or whose COUNTER does not rise, is refused; the 16th bad MAC,
COUNTER 0xFFFFFFFF, END, the idle timeout and the loss of the I3C address end the session. SET_ROLE_KEY sets a key of no higher
role and ends the role's sessions; in BLANK it sets MAKER without a session once. LC_CHANGE takes each transition of Table 14.9
under its condition; a role too low is NAK 0x11, a request outside the table LIFE_CYCLE. What proofs and MACs evaluate to is left
free (log 5). Concludes exec = next, on conditions on state and operands alone, with the own effect of: hello, prove, endSession,
fwVerify, lcChange, sessionIdleTimeout, lockoutExpired, i3cDynamicAddressLost, setRoleKey. -/
def Obligations.SessionsFollowR288ToR294 : Prop :=
  (∀ (s : State) (e : Envelope) (role : Fin 256), s.wmpReady e → e.session = 0 → e.path.val < s.sec.sessions.length → 1 ≤ role.val →
      role.val ≤ 4 → s.get (F.SEC_LOCKOUT.LEFT (role.val - 1)) = 0 → ∃ t, exec (.hello e role) s = .next t ∧ (t.session
      e.path).challenge.any (fun q => q.1 ≠ 0 && q.2.1 = role.val && q.2.2.length = 32) = true ∧ t.on (F.SEC_SESSION.OPEN e.path) =
      false ∧ (s.on (F.SEC_SESSION.OPEN e.path) = true → t.flag 0x1E 1 = true) ∧ .reply e.path none ∈ t.sent ∧ s.keepsRegs t
      [R.SEC_SESSION e.path] ∧ t.mem = s.mem)
  ∧ (∀ (s : State) (e : Envelope) (role : Fin 256), s.wmpReady e → e.session = 0 → role.val = 0 ∨ 4 < role.val → ∃ t, exec (.hello e
      role) s = .next t ∧ .reply e.path (some 0x02) ∈ t.sent ∧ t.on (F.SEC_SESSION.OPEN e.path) = false ∧ (s.on (F.SEC_SESSION.OPEN
      e.path) = true → t.flag 0x1E 1 = true) ∧ s.keepsRegs t [R.SEC_SESSION e.path] ∧ t.mem = s.mem)
  ∧ (∀ (s : State) (e : Envelope) (role : Fin 256), s.wmpReady e → e.session = 0 → 1 ≤ role.val → role.val ≤ 4 → s.get
      (F.SEC_LOCKOUT.LEFT (role.val - 1)) ≠ 0 → ∃ t, exec (.hello e role) s = .next t ∧ .reply e.path (some 0x14) ∈ t.sent ∧ t.on
      (F.SEC_SESSION.OPEN e.path) = false ∧ s.keepsRegs t [R.SEC_SESSION e.path] ∧ t.get (F.SEC_LOCKOUT.FAILURES (role.val - 1)) =
      s.get (F.SEC_LOCKOUT.FAILURES (role.val - 1)))
  ∧ (∀ (s : State) (e : Envelope) (sid : Nat) (nonce proof : List Byte) (late : Bool), s.wmpReady e → e.session = 0 → (s.session
      e.path).challenge = none → ∃ t, exec (.prove e sid nonce proof late) s = .next t ∧ .reply e.path (some 0x16) ∈ t.sent ∧
      s.keepsRegs t [])
  ∧ (∀ (s : State) (e : Envelope) (sid sid2 role : Nat) (nonce proof nd : List Byte) (late : Bool), s.wmpReady e → e.session = 0 →
      e.path.val < s.sec.sessions.length → (s.session e.path).challenge = some (sid2, role, nd) → sid ≠ sid2 ∨ late = true → ∃ t, exec
      (.prove e sid nonce proof late) s = .next t ∧ .reply e.path (some 0x16) ∈ t.sent ∧ (t.session e.path).challenge = none ∧
      s.keepsRegs t [])
  ∧ (∀ (s : State) (e : Envelope) (sid role : Nat) (nonce proof nd : List Byte), s.wmpReady e → e.session = 0 → e.path.val <
      s.sec.sessions.length → (s.session e.path).challenge = some (sid, role, nd) → 1 ≤ role → role ≤ 4 → s.get (F.SEC_LOCKOUT.LEFT
      (role - 1)) = 0 → ∃ t, exec (.prove e sid nonce proof false) s = .next t ∧ ((proof = Config.hmac (s.roleKey role) (labelH ++ nd
      ++ nonce ++ beBytes 4 sid ++ beBytes 1 role ++ beBytes 1 e.path ++ leBytes 4 (s.rd R.GLOBAL_ID).toNat)) → (t.on
      (F.SEC_SESSION.OPEN e.path) = true ∧ t.get (F.SEC_SESSION.ROLE e.path) = role ∧ t.get (F.SEC_SESSION.IDLE_LEFT e.path) = s.get
      F.SEC_SESSION_CFG.IDLE_S ∧ (t.session e.path).sid = sid ∧ (t.session e.path).counter = 0 ∧ (t.session e.path).keyIn = (hkdf (nd
      ++ nonce) (s.roleKey role) (labelOkm ++ beBytes 4 sid ++ beBytes 1 role ++ beBytes 1 e.path)).take 64 ∧ (t.session
      e.path).keyOut = (hkdf (nd ++ nonce) (s.roleKey role) (labelOkm ++ beBytes 4 sid ++ beBytes 1 role ++ beBytes 1 e.path)).drop 64
      ∧ t.get (F.SEC_LOCKOUT.FAILURES (role - 1)) = 0 ∧ t.get (F.SEC_LOCKOUT.N (role - 1)) = 0 ∧ t.flag 0x1E 0 = true ∧ .reply e.path
      none ∈ t.sent)) ∧ (¬(proof = Config.hmac (s.roleKey role) (labelH ++ nd ++ nonce ++ beBytes 4 sid ++ beBytes 1 role ++ beBytes 1
      e.path ++ leBytes 4 (s.rd R.GLOBAL_ID).toNat)) → ((t.session e.path).challenge = none ∧ t.on (F.SEC_SESSION.OPEN e.path) = s.on
      (F.SEC_SESSION.OPEN e.path) ∧ t.flag 0x1E 2 = true ∧ t.get F.SEC_VIOLATION.LAST = 0x08 ∧ .reply e.path (some 0x12) ∈ t.sent ∧
      (s.get (F.SEC_LOCKOUT.FAILURES (role - 1)) < 4 → t.get (F.SEC_LOCKOUT.FAILURES (role - 1)) = s.get (F.SEC_LOCKOUT.FAILURES (role
      - 1)) + 1) ∧ (4 ≤ s.get (F.SEC_LOCKOUT.FAILURES (role - 1)) → (t.get (F.SEC_LOCKOUT.FAILURES (role - 1)) = 0 ∧ t.get
      (F.SEC_LOCKOUT.LEFT (role - 1)) = min 3840 (60 * 2 ^ (min 15 (s.get (F.SEC_LOCKOUT.N (role - 1)) + 1) - 1)) ∧ t.flag 0x1E 3 =
      true)))))
  ∧ (∀ (s : State) (e : Envelope) (sid role : Nat) (nonce proof nd : List Byte), s.wmpReady e → e.session = 0 → e.path.val <
      s.sec.sessions.length → (s.session e.path).challenge = some (sid, role, nd) → s.get (F.SEC_LOCKOUT.LEFT (role - 1)) ≠ 0 → ∃ t,
      exec (.prove e sid nonce proof false) s = .next t ∧ .reply e.path (some 0x14) ∈ t.sent ∧ (t.session e.path).challenge = none ∧
      s.keepsRegs t [])
  ∧ (∀ (s : State) (e : Envelope), s.wmpReady e → e.session ≠ 0 → s.on (F.SEC_SESSION.OPEN e.path) = true → (s.session e.path).sid =
      e.session → e.path.val < s.sec.sessions.length → ∃ t, exec (.endSession e) s = .next t ∧ (¬(e.mac = (Config.hmac (s.session
      e.path).keyIn (wmpHead e 1 3 0 ++ [] ++ (beBytes 4 e.session ++ beBytes 4 e.counter))).take 32) → (.reply e.path (some 0x12) ∈
      t.sent ∧ t.get F.SEC_VIOLATION.LAST = 0x04 ∧ t.get F.SEC_WMP_COUNT.MAC_BAD = min 255 (s.get F.SEC_WMP_COUNT.MAC_BAD + 1) ∧ t.on
      (F.SEC_SESSION.OPEN e.path) = ((s.session e.path).macBad + 1 < 16 : Bool))) ∧ ((e.mac = (Config.hmac (s.session e.path).keyIn
      (wmpHead e 1 3 0 ++ [] ++ (beBytes 4 e.session ++ beBytes 4 e.counter))).take 32 ∧ e.counter ≤ (s.session e.path).counter) →
      (.reply e.path (some 0x13) ∈ t.sent ∧ t.on (F.SEC_SESSION.OPEN e.path) = true ∧ t.get F.SEC_VIOLATION.LAST = 0x05 ∧ t.get
      F.SEC_WMP_COUNT.REPLAY = min 255 (s.get F.SEC_WMP_COUNT.REPLAY + 1))) ∧ ((e.mac = (Config.hmac (s.session e.path).keyIn (wmpHead
      e 1 3 0 ++ [] ++ (beBytes 4 e.session ++ beBytes 4 e.counter))).take 32 ∧ (s.session e.path).counter < e.counter) → (.reply
      e.path none ∈ t.sent ∧ t.on (F.SEC_SESSION.OPEN e.path) = false ∧ t.flag 0x1E 1 = true)))
  ∧ (∀ (s : State) (e : Envelope), s.wmpReady e → e.session ≠ 0 → s.on (F.SEC_SESSION.OPEN e.path) = false ∨ (s.session e.path).sid ≠
      e.session → ∃ t, exec (.endSession e) s = .next t ∧ .reply e.path (some 0x10) ∈ t.sent ∧ t.get (F.SEC_WMP_COUNT.NO_SESSION) =
      min (F.SEC_WMP_COUNT.NO_SESSION).top (s.get (F.SEC_WMP_COUNT.NO_SESSION) + 1) ∧ t.get F.SEC_VIOLATION.LAST = 0x06 ∧ t.get
      (F.SEC_VIOLATION.COUNT) = min (F.SEC_VIOLATION.COUNT).top (s.get (F.SEC_VIOLATION.COUNT) + 1) ∧ t.flag 0x1E 11 = true ∧ t.on
      (F.SEC_SESSION.OPEN e.path) = s.on (F.SEC_SESSION.OPEN e.path))
  ∧ (∀ (s : State) (e : Envelope), s.wmpReady e → e.session ≠ 0 → s.on (F.SEC_SESSION.OPEN e.path) = true → (s.session e.path).sid =
      e.session → e.path.val < s.sec.sessions.length → (s.session e.path).counter < e.counter → e.counter = 0xFFFFFFFF → 1 ≤ s.roleOn
      e.path → e.mac = (Config.hmac (s.session e.path).keyIn (wmpHead e 5 3 0 ++ [] ++ (beBytes 4 e.session ++ beBytes 4
      e.counter))).take 32 → ∃ t, exec (.fwVerify e) s = .next t ∧ t.on (F.SEC_SESSION.OPEN e.path) = false ∧ t.flag 0x1E 1 = true)
  ∧ (∀ (s : State) (e : Envelope) (target : Fin 256), s.wmpReady e → e.session = 0 → ∃ t, exec (.lcChange e target) s = .next t ∧
      .reply e.path (some 0x11) ∈ t.sent ∧ t.get (F.SEC_WMP_COUNT.ROLE) = min (F.SEC_WMP_COUNT.ROLE).top (s.get (F.SEC_WMP_COUNT.ROLE)
      + 1) ∧ t.lifeCycle = s.lifeCycle ∧ t.sec.lcOtp = s.sec.lcOtp ∧ t.get F.SEC_VIOLATION.LAST = 0x07 ∧ t.get (F.SEC_VIOLATION.COUNT)
      = min (F.SEC_VIOLATION.COUNT).top (s.get (F.SEC_VIOLATION.COUNT) + 1) ∧ t.flag 0x1E 11 = true)
  ∧ (∀ (s : State) (p : Fin 4), s.on (F.SEC_SESSION.OPEN p) = true → ∃ t, exec (.sessionIdleTimeout p) s = .next t ∧ t.on
      (F.SEC_SESSION.OPEN p) = false ∧ t.flag 0x1E 1 = true ∧ s.keepsRegs t [R.SEC_SESSION p] ∧ t.mem = s.mem)
  ∧ (∀ (s : State) (r : Fin 4), ∃ t, exec (.lockoutExpired r) s = .next t ∧ t.get (F.SEC_LOCKOUT.LEFT r) = 0 ∧ s.onlyRegs t
      [R.SEC_LOCKOUT r])
  ∧ (∀ (s : State), s.on (F.SEC_SESSION.OPEN 1) = true → ∃ t, exec (.i3cDynamicAddressLost) s = .next t ∧ t.i3cAddress = none ∧ t.on
      (F.SEC_SESSION.OPEN 1) = false ∧ t.flag 0x1E 1 = true ∧ s.keepsRegs t [R.SEC_SESSION 1])
  ∧ (∀ (s : State) (e : Envelope) (role : Fin 256) (key : List Byte), s.wmpInSession e 1 4 (beBytes 1 role ++ [0, 0, 0] ++ key) 0 → 1
      ≤ role.val → role.val ≤ 3 → role.val ≤ s.roleOn e.path → key.length = 32 → s.sec.roleKeys.length = 4 → ∃ t, exec (.setRoleKey e
      role key) s = .next t ∧ nth t.sec.roleKeys (role.val - 1) none = some key ∧ t.get F.SEC_LC.KEYS_SET / 2 ^ (role.val - 1) % 2 = 1
      ∧ t.flag 0x1E 10 = true ∧ (∀ p : Fin 4, s.on (F.SEC_SESSION.OPEN p) = true → s.roleOn p = role.val → t.on (F.SEC_SESSION.OPEN p)
      = false) ∧ .reply e.path none ∈ t.sent)
  ∧ (∀ (s : State) (e : Envelope) (role : Fin 256) (key : List Byte), s.wmpInSession e 1 4 (beBytes 1 role ++ [0, 0, 0] ++ key) 0 →
      s.roleOn e.path < role.val ∨ role.val = 4 → 1 ≤ role.val → role.val ≤ 4 → key.length = 32 → ∃ t, exec (.setRoleKey e role key) s
      = .next t ∧ .reply e.path (some 0x11) ∈ t.sent ∧ t.sec.roleKeys = s.sec.roleKeys ∧ t.get F.SEC_VIOLATION.LAST = 0x07 ∧ t.get
      (F.SEC_VIOLATION.COUNT) = min (F.SEC_VIOLATION.COUNT).top (s.get (F.SEC_VIOLATION.COUNT) + 1) ∧ t.flag 0x1E 11 = true)
  ∧ (∀ (s : State) (e : Envelope) (key : List Byte), s.wmpReady e → e.session = 0 → e.path.val < 2 → s.lifeCycle = 0 → s.sec.blankUsed
      = false → key.length = 32 → s.sec.roleKeys.length = 4 → ∃ t, exec (.setRoleKey e 2 key) s = .next t ∧ nth t.sec.roleKeys 1 none
      = some key ∧ t.sec.blankUsed = true ∧ t.flag 0x1E 10 = true ∧ .reply e.path none ∈ t.sent)
  ∧ (∀ (s : State) (e : Envelope) (role : Fin 256) (key : List Byte), s.wmpReady e → e.session = 0 → 1 ≤ role.val → role.val ≤ 4 →
      key.length = 32 → role.val ≠ 2 ∨ s.lifeCycle ≠ 0 ∨ 2 ≤ e.path.val ∨ s.sec.blankUsed = true → ∃ t, exec (.setRoleKey e role key)
      s = .next t ∧ .reply e.path (some 0x11) ∈ t.sent ∧ t.sec.roleKeys = s.sec.roleKeys ∧ t.get F.SEC_VIOLATION.LAST = 0x07 ∧ t.get
      (F.SEC_VIOLATION.COUNT) = min (F.SEC_VIOLATION.COUNT).top (s.get (F.SEC_VIOLATION.COUNT) + 1) ∧ t.flag 0x1E 11 = true)
  ∧ (∀ (s : State) (e : Envelope) (role : Fin 256) (key : List Byte), s.wmpReady e → e.session = 0 → role.val = 0 ∨ 4 < role.val ∨
      key.length ≠ 32 → ∃ t, exec (.setRoleKey e role key) s = .next t ∧ .reply e.path (some 0x02) ∈ t.sent ∧ t.sec.roleKeys =
      s.sec.roleKeys)
  ∧ (∀ (s : State) (e : Envelope), s.wmpInSession e 1 5 (beBytes 1 1 ++ [0, 0, 0]) 1 → s.lifeCycle = 0 → 2 ≤ s.roleOn e.path → (nth
      s.sec.roleKeys 0 none).isSome = true → (nth s.sec.roleKeys 1 none).isSome = true → ∃ t, exec (.lcChange e 1) s = .next t ∧
      t.sec.lcOtp = 1 ∧ t.lifeCycle = 1 ∧ (∀ p : Fin 4, t.on (F.SEC_SESSION.OPEN p) = false) ∧ t.flag 0x1E 9 = true ∧ .reply e.path
      none ∈ t.sent)
  ∧ (∀ (s : State) (e : Envelope), s.wmpInSession e 1 5 (beBytes 1 2 ++ [0, 0, 0]) 1 → s.lifeCycle = 1 → 2 ≤ s.roleOn e.path → ∃ t,
      exec (.lcChange e 2) s = .next t ∧ ((s.slotPlanGood 0 || s.slotPlanGood 1) = true → (t.sec.lcOtp = 2 ∧ t.lifeCycle = 2 ∧ (∀ p :
      Fin 4, t.on (F.SEC_SESSION.OPEN p) = false) ∧ t.flag 0x1E 9 = true ∧ .reply e.path none ∈ t.sent)) ∧ ((s.slotPlanGood 0 ||
      s.slotPlanGood 1) = false → (t.lifeCycle = 1 ∧ t.sec.lcOtp = s.sec.lcOtp ∧ .reply e.path (some 0x15) ∈ t.sent)))
  ∧ (∀ (s : State) (e : Envelope) (target : Fin 256) (role : Nat), s.wmpInSession e 1 5 (beBytes 1 target ++ [0, 0, 0]) 1 →
      (s.lifeCycle, target.val, role) ∈ [(0, 1, 2), (1, 2, 2), (2, 3, 3), (3, 2, 3), (1, 4, 4), (2, 4, 4), (3, 4, 4)] → s.roleOn
      e.path < role → ∃ t, exec (.lcChange e target) s = .next t ∧ .reply e.path (some 0x11) ∈ t.sent ∧ t.lifeCycle = s.lifeCycle ∧
      t.sec.lcOtp = s.sec.lcOtp ∧ t.get F.SEC_VIOLATION.LAST = 0x07 ∧ t.get (F.SEC_VIOLATION.COUNT) = min (F.SEC_VIOLATION.COUNT).top
      (s.get (F.SEC_VIOLATION.COUNT) + 1) ∧ t.flag 0x1E 11 = true)
  ∧ (∀ (s : State) (e : Envelope) (target : Fin 256), s.wmpInSession e 1 5 (beBytes 1 target ++ [0, 0, 0]) 1 → s.lifeCycle ≤ 4 →
      (s.lifeCycle, target.val) ∉ [(0, 1), (1, 2), (2, 3), (3, 2), (1, 4), (2, 4), (3, 4)] → ∃ t, exec (.lcChange e target) s = .next
      t ∧ .reply e.path (some 0x15) ∈ t.sent ∧ t.lifeCycle = s.lifeCycle ∧ t.sec.lcOtp = s.sec.lcOtp)
  ∧ (∀ (s : State) (e : Envelope), s.wmpInSession e 1 5 (beBytes 1 2 ++ [0, 0, 0]) 1 → s.lifeCycle = 3 → s.sec.lcOtp = 2 → 3 ≤
      s.roleOn e.path → ∃ t, exec (.lcChange e 2) s = .next t ∧ t.sec.service = false ∧ t.sec.jtag = false ∧ t.on F.SEC_LC.JTAG_OPEN =
      false ∧ t.bist.fusing = none ∧ t.lifeCycle = 2 ∧ (∀ p : Fin 4, t.on (F.SEC_SESSION.OPEN p) = false) ∧ t.flag 0x1E 9 = true ∧
      .reply e.path none ∈ t.sent)
  ∧ (∀ (s : State) (e : Envelope), s.wmpInSession e 1 5 (beBytes 1 4 ++ [0, 0, 0]) 1 → 1 ≤ s.lifeCycle → s.lifeCycle ≤ 3 → 4 ≤
      s.roleOn e.path → ∃ t, exec (.lcChange e 4) s = .next t ∧ t.sec.lcOtp = 4 ∧ t.lifeCycle = 4 ∧ t.sec.roleKeys = List.replicate 4
      none ∧ t.sec.keys = s.sec.keys.take 6 ++ List.replicate 6 [] ∧ (∀ k : Fin 8, t.on (F.CPU_TASK.RUNNING k) = false) ∧ t.plan.buf =
      standbyImage ∧ (∀ p : Fin 4, t.on (F.SEC_SESSION.OPEN p) = false))
  ∧ (∀ (s : State) (e : Envelope), s.wmpInSession e 1 5 (beBytes 1 3 ++ [0, 0, 0]) 1 → s.lifeCycle = 2 → s.sec.lcOtp = 2 → 3 ≤
      s.roleOn e.path → ∃ t, exec (.lcChange e 3) s = .next t ∧ t.sec.service = true ∧ t.lifeCycle = 3 ∧ (∀ p : Fin 4, t.on
      (F.SEC_SESSION.OPEN p) = false) ∧ t.flag 0x1E 9 = true ∧ .reply e.path none ∈ t.sent)

/-- O50. A chunk at offset 0 with nothing loading starts a load of its type, later ones go on with it, and the last of TOTAL_LEN
completes it; one of no or over 1,024 bytes is MALFORMED, one out of sequence STATE with violation 0x0C. FW_LOAD_WINDOW without
the window is NO_WINDOW, beyond it LOAD_SOURCE, else it starts a load, which IMAGE_LOADED completes. FW_VERIFY of a LOADED image
starts verification with the verdict of Table 14.4; its end gives VALID or REJECTED with the REASON. FW_ACTIVATE of a VALID Plough
image stops Plough into QUIESCING, of a Hedge image restarts Hedge, each in the other slot on trial; a loaded copy that fails is
reverted; a KEY_UPDATE that takes a class's last key is LAST_KEY. FW_COMMIT advances the rollback count; TRIAL_EXPIRED and
READY_TIMEOUT return to the previous slot. KEY_INSTALL and KEY_REVOKE act on slots 6 to 11, never on a class's last key.
TASK_INSTALL takes the VALID staged task of its index, TASK_REMOVE clears an entry. Concludes exec = next, on conditions on state
and operands alone, with the own effect of: fwChunk, fwLoadWindow, imageLoaded, fwVerify, fwVerifyDone, fwActivate, fwCommit,
trialExpired, readyTimeout, keyInstall, keyRevoke, taskInstall, taskRemove. -/
def Obligations.FirmwareKeysAndTasksFollowR280ToR285 : Prop :=
  (∀ (s : State) (e : Envelope) (data : List Byte), s.wmpInSession e 5 1 (beBytes 1 2 ++ beBytes 4 0 ++ data) 1 → s.mayStage = true →
      1 ≤ data.length → data.length ≤ 0x20 → ∃ t, exec (.fwChunk e 2 0 data) s = .next t ∧ t.fwState = 1 ∧ t.get F.SEC_FW_STATUS.TYPE
      = 2 ∧ t.get F.SEC_FW_STATUS.REASON = 0 ∧ t.sec.staged = data ∧ .reply e.path none ∈ t.sent ∧ s.keepsRegs t [R.SEC_FW_STATUS,
      R.SEC_SESSION e.path])
  ∧ (∀ (s : State) (e : Envelope) (offset : Nat) (data : List Byte), s.wmpInSession e 5 1 (beBytes 1 2 ++ beBytes 4 offset ++ data) 1
      → s.fwState ≠ 1 → offset ≠ 0 → 1 ≤ data.length → data.length ≤ 1024 → ∃ t, exec (.fwChunk e 2 offset data) s = .next t ∧ .reply
      e.path (some 0x16) ∈ t.sent ∧ t.fwState = s.fwState ∧ t.sec.staged = s.sec.staged ∧ t.get F.SEC_VIOLATION.LAST = 0x0C ∧ t.get
      (F.SEC_VIOLATION.COUNT) = min (F.SEC_VIOLATION.COUNT).top (s.get (F.SEC_VIOLATION.COUNT) + 1) ∧ t.flag 0x1E 11 = true)
  ∧ (∀ (s : State) (e : Envelope) (data : List Byte), s.wmpInSession e 5 1 (beBytes 1 2 ++ beBytes 4 0 ++ data) 1 → s.mayStage = true
      → 0x24 ≤ data.length → data.length ≤ 1024 → fwTotal data ≤ data.length → ∃ t, exec (.fwChunk e 2 0 data) s = .next t ∧ t.fwState
      = 2 ∧ t.sec.staged = data ∧ .reply e.path none ∈ t.sent ∧ s.keepsRegs t [R.SEC_FW_STATUS, R.SEC_SESSION e.path])
  ∧ (∀ (s : State) (e : Envelope) (offset : Nat) (data : List Byte), s.wmpInSession e 5 1 (beBytes 1 2 ++ beBytes 4 offset ++ data) 1
      → s.fwState = 1 → s.get F.SEC_FW_STATUS.TYPE = 2 → s.sec.expected = none → 1 ≤ data.length → data.length ≤ 1024 → offset +
      data.length ≤ 64 + 3 * 1024 * 1024 + 532 → ∃ t, exec (.fwChunk e 2 offset data) s = .next t ∧ t.sec.staged = splice s.sec.staged
      offset data ∧ (t.fwState = 1 ∨ t.fwState = 2) ∧ .reply e.path none ∈ t.sent ∧ s.keepsRegs t [R.SEC_FW_STATUS, R.SEC_SESSION
      e.path])
  ∧ (∀ (s : State) (e : Envelope) (offset : Nat) (data : List Byte), s.wmpInSession e 5 1 (beBytes 1 2 ++ beBytes 4 offset ++ data) 1
      → data = [] ∨ 1024 < data.length → ∃ t, exec (.fwChunk e 2 offset data) s = .next t ∧ .reply e.path (some 0x02) ∈ t.sent ∧
      t.fwState = s.fwState ∧ t.sec.staged = s.sec.staged)
  ∧ (∀ (s : State) (e : Envelope) (offset length : Nat), s.wmpInSession e 5 2 (beBytes 1 2 ++ beBytes 4 offset ++ beBytes 4 length) 1
      → s.mayStage = false → ∃ t, exec (.fwLoadWindow e 2 offset length) s = .next t ∧ .reply e.path (some 0x16) ∈ t.sent ∧ t.fwState
      = s.fwState)
  ∧ (∀ (s : State) (e : Envelope) (offset length : Nat), s.wmpInSession e 5 2 (beBytes 1 2 ++ beBytes 4 offset ++ beBytes 4 length) 1
      → s.mayStage = true → s.windowGranted = true → s.inWindow (offset * 4096) length = false → ∃ t, exec (.fwLoadWindow e 2 offset
      length) s = .next t ∧ t.fwState = 5 ∧ t.get F.SEC_FW_STATUS.REASON = 9 ∧ t.flag 0x1E 5 = true ∧ t.get (F.CXLCTL_WIN_COUNT.RANGE)
      = min (F.CXLCTL_WIN_COUNT.RANGE).top (s.get (F.CXLCTL_WIN_COUNT.RANGE) + 1) ∧ .reply e.path none ∈ t.sent)
  ∧ (∀ (s : State) (e : Envelope) (offset length : Nat), s.wmpInSession e 5 2 (beBytes 1 2 ++ beBytes 4 offset ++ beBytes 4 length) 1
      → s.mayStage = true → s.windowGranted = false → ∃ t, exec (.fwLoadWindow e 2 offset length) s = .next t ∧ .reply e.path (some
      0x19) ∈ t.sent ∧ t.fwState = s.fwState)
  ∧ (∀ (s : State) (e : Envelope) (offset length : Nat), s.wmpInSession e 5 2 (beBytes 1 2 ++ beBytes 4 offset ++ beBytes 4 length) 1
      → s.mayStage = true → s.windowGranted = true → s.inWindow (offset * 4096) length = true → ∃ t, exec (.fwLoadWindow e 2 offset
      length) s = .next t ∧ t.fwState = 1 ∧ t.get F.SEC_FW_STATUS.TYPE = 2 ∧ t.sec.expected = some length ∧ .reply e.path none ∈
      t.sent)
  ∧ (∀ (s : State) (data : List Byte) (n : Nat), s.fwState = 1 → s.sec.expected = some n → s.windowGranted = true → ∃ t, exec
      (.imageLoaded data) s = .next t ∧ t.fwState = 2 ∧ t.sec.staged = data.take n ∧ s.keepsRegs t [R.SEC_FW_STATUS])
  ∧ (∀ (s : State) (data : List Byte) (n : Nat), s.fwState = 1 → s.sec.expected = some n → s.windowGranted = false → ∃ t, exec
      (.imageLoaded data) s = .next t ∧ t.fwState = 5 ∧ t.get F.SEC_FW_STATUS.REASON = 9 ∧ t.flag 0x1E 5 = true)
  ∧ (∀ (s : State) (e : Envelope), s.wmpInSession e 5 3 [] 1 → s.fwState = 2 → ∃ t, exec (.fwVerify e) s = .next t ∧ t.fwState = 3 ∧
      t.sec.verdict = s.imageCheck s.sec.staged s.sec.staged.length true ∧ (s.sec.staged = [] → t.sec.verdict = 0x09) ∧ .reply e.path
      none ∈ t.sent ∧ s.keepsRegs t [R.SEC_FW_STATUS, R.SEC_SESSION e.path])
  ∧ (∀ (s : State) (e : Envelope), s.wmpInSession e 5 3 [] 1 → s.fwState = 3 → ∃ t, exec (.fwVerify e) s = .next t ∧ .reply e.path
      (some 0x05) ∈ t.sent ∧ t.fwState = 3)
  ∧ (∀ (s : State) (e : Envelope), s.wmpInSession e 5 3 [] 1 → s.fwState ≠ 2 → s.fwState ≠ 3 → ∃ t, exec (.fwVerify e) s = .next t ∧
      .reply e.path (some 0x16) ∈ t.sent ∧ t.fwState = s.fwState)
  ∧ (∀ (s : State), s.fwState = 3 → s.sec.verdict = 0 → ∃ t, exec (.fwVerifyDone) s = .next t ∧ t.fwState = 4 ∧ t.get
      F.SEC_FW_STATUS.REASON = 0 ∧ t.flag 0x1E 4 = true ∧ s.onlyRegs t [R.SEC_FW_STATUS])
  ∧ (∀ (s : State), s.fwState = 3 → s.sec.verdict ≠ 0 → s.sec.verdict < 256 → ∃ t, exec (.fwVerifyDone) s = .next t ∧ t.fwState = 5 ∧
      t.get F.SEC_FW_STATUS.REASON = s.sec.verdict ∧ t.flag 0x1E 5 = true ∧ s.onlyRegs t [R.SEC_FW_STATUS])
  ∧ (∀ (s : State) (e : Envelope), s.wmpInSession e 5 4 [] 1 → s.bufState ≠ 6 → s.fwState = 4 → fwType s.sec.staged = some .hedge →
      s.sec.active.length = 2 → s.sec.trial.length = 2 → nth s.sec.active 0 0 ≤ 1 → s.sec.images.length = 4 → ∃ t, exec (.fwActivate
      e) s = .next t ∧ t.fwState = 6 ∧ t.sec.activating = some .hedge ∧ t.sec.hedge = .restarting ∧ nth t.sec.active 0 0 = 1 - nth
      s.sec.active 0 0 ∧ nth t.sec.trial 0 false = true ∧ t.slotImage 0 (nth t.sec.active 0 0) = s.sec.staged ∧ t.get
      F.SEC_FW_STATUS.TRIAL_LEFT = s.get F.SEC_SESSION_CFG.COMMIT_S ∧ (∀ p : Fin 4, t.on (F.SEC_SESSION.OPEN p) = false) ∧ .reply
      e.path none ∈ t.sent)
  ∧ (∀ (s : State) (e : Envelope), s.wmpInSession e 5 4 [] 1 → s.bufState ≠ 6 → s.fwState = 4 → fwType s.sec.staged = some .plough →
      s.sec.active.length = 2 → s.sec.trial.length = 2 → nth s.sec.active 1 0 ≤ 1 → ∃ t, exec (.fwActivate e) s = .next t ∧ t.fwState
      = 6 ∧ t.sec.activating = some .plough ∧ t.cpu = 3 ∧ t.get F.CPU_STATUS.CORES_UP = 0 ∧ nth t.sec.active 1 0 = 1 - nth
      s.sec.active 1 0 ∧ nth t.sec.trial 1 false = true ∧ t.get (F.CPU_COUNT.RESTARTS) = min (F.CPU_COUNT.RESTARTS).top (s.get
      (F.CPU_COUNT.RESTARTS) + 1) ∧ t.flag 0x1F 0 = true ∧ .reply e.path none ∈ t.sent)
  ∧ (∀ (s : State) (e : Envelope), s.wmpInSession e 5 4 [] 1 → s.bufState ≠ 6 → s.fwState = 4 → fwType s.sec.staged = some .keyUpdate
      → ∃ t, exec (.fwActivate e) s = .next t ∧ (s.keysLast s.sec.staged = true → (t.fwState = 4 ∧ t.sec.keys = s.sec.keys ∧
      t.sec.revoked = s.sec.revoked ∧ .reply e.path (some 0x18) ∈ t.sent)) ∧ (s.keysLast s.sec.staged = false → (t.fwState = 7 ∧ t.get
      F.SEC_FW_STATUS.TRIAL_LEFT = s.get F.SEC_SESSION_CFG.COMMIT_S ∧ t.flag 0x1E 6 = true ∧ .reply e.path none ∈ t.sent)))
  ∧ (∀ (s : State), s.fwState = 6 → s.sec.activating = some .plough → s.cpu = 3 → s.slotGood 1 (nth s.sec.active 1 0) = false → s.get
      F.SEC_FW_STATUS.TYPE = 2 → s.sec.active.length = 2 → s.sec.trial.length = 2 → nth s.sec.active 1 0 ≤ 1 → ∃ t, exec
      (.fwVerifyDone) s = .next t ∧ t.fwState = 0 ∧ t.sec.activating = none ∧ nth t.sec.active 1 0 = 1 - nth s.sec.active 1 0 ∧ nth
      t.sec.trial 1 true = false ∧ t.flag 0x1E 7 = true)
  ∧ (∀ (s : State) (e : Envelope), s.wmpInSession e 5 4 [] 1 → s.bufState = 6 → ∃ t, exec (.fwActivate e) s = .next t ∧ .reply e.path
      (some 0x05) ∈ t.sent ∧ t.fwState = s.fwState)
  ∧ (∀ (s : State) (e : Envelope), s.wmpInSession e 5 4 [] 1 → s.bufState ≠ 6 → s.fwState ≠ 4 → ∃ t, exec (.fwActivate e) s = .next t
      ∧ .reply e.path (some 0x16) ∈ t.sent ∧ t.fwState = s.fwState)
  ∧ (∀ (s : State) (e : Envelope) (k : Nat), s.wmpInSession e 5 5 [] 1 → s.fwState = 7 → s.get F.SEC_FW_STATUS.TYPE = k + 1 → k < 2 →
      s.sec.trial.length = 2 → s.sec.fuses.length = 3 → ∃ t, exec (.fwCommit e) s = .next t ∧ t.fwState = 0 ∧ nth t.sec.trial k true =
      false ∧ nth t.sec.fuses k 0 = max (nth s.sec.fuses k 0) (fwSvn (s.slotImage k (nth s.sec.active k 0))) ∧ t.get
      F.SEC_FW_STATUS.TRIAL_LEFT = 0 ∧ t.flag 0x1E 8 = true ∧ .reply e.path none ∈ t.sent)
  ∧ (∀ (s : State), s.fwState = 7 → s.get F.SEC_FW_STATUS.TYPE = 1 → s.sec.active.length = 2 → s.sec.trial.length = 2 → nth
      s.sec.active 0 0 ≤ 1 → ∃ t, exec (.trialExpired) s = .next t ∧ t.fwState = 0 ∧ t.get F.SEC_FW_STATUS.TRIAL_LEFT = 0 ∧ nth
      t.sec.active 0 0 = 1 - nth s.sec.active 0 0 ∧ nth t.sec.trial 0 true = false ∧ t.sec.hedge = .restarting ∧ t.flag 0x1E 7 = true)
  ∧ (∀ (s : State), s.fwState = 7 → s.get F.SEC_FW_STATUS.TYPE = 2 → s.cpu = 1 → s.sec.active.length = 2 → s.sec.trial.length = 2 →
      nth s.sec.active 1 0 ≤ 1 → ∃ t, exec (.readyTimeout) s = .next t ∧ t.fwState = 0 ∧ nth t.sec.active 1 0 = 1 - nth s.sec.active 1
      0 ∧ nth t.sec.trial 1 true = false ∧ t.flag 0x1E 7 = true ∧ t.flag 0x1F 0 = true)
  ∧ (∀ (s : State), s.fwState = 7 → s.get F.SEC_FW_STATUS.TYPE = 3 → ∃ t, exec (.trialExpired) s = .next t ∧ t.fwState = 0 ∧ t.get
      F.SEC_FW_STATUS.TRIAL_LEFT = 0 ∧ t.flag 0x1E 7 = true ∧ t.sec.images = s.sec.images ∧ t.sec.keys = s.sec.keys ∧ s.keepsRegs t
      [R.SEC_FW_STATUS])
  ∧ (∀ (s : State), s.fwState ≠ 6 → s.fwState ≠ 7 → ∃ t, exec (.trialExpired) s = .next t ∧ t = s)
  ∧ (∀ (s : State) (e : Envelope) (slot : Fin 256) (key : List Byte), s.wmpInSession e 5 6 (Config.keyInstallBody slot key) 2 → 6 ≤
      slot.val → slot.val ≤ 11 → s.sec.keys.length = 12 → key ≠ [] → ∃ t, exec (.keyInstall e slot key) s = .next t ∧ nth t.sec.keys
      slot [] = key ∧ t.get F.SEC_KEYS.PRESENT / 2 ^ slot.val % 2 = 1 ∧ t.sec.revoked = s.sec.revoked ∧ t.flag 0x1E 10 = true ∧ .reply
      e.path none ∈ t.sent)
  ∧ (∀ (s : State) (e : Envelope) (slot : Fin 256) (key : List Byte), s.wmpInSession e 5 6 (Config.keyInstallBody slot key) 2 →
      slot.val < 6 ∨ 11 < slot.val → ∃ t, exec (.keyInstall e slot key) s = .next t ∧ .reply e.path (some 0x02) ∈ t.sent ∧ t.sec.keys
      = s.sec.keys)
  ∧ (∀ (s : State) (e : Envelope) (slot : Fin 256), s.wmpInSession e 5 7 (Config.keyRevokeBody slot) 2 → 6 ≤ slot.val → slot.val ≤ 11
      → s.lastKey slot = false → ∃ t, exec (.keyRevoke e slot) s = .next t ∧ slot.val ∈ t.sec.revoked ∧ t.get F.SEC_KEYS.REVOKED / 2 ^
      slot.val % 2 = 1 ∧ t.sec.keys = s.sec.keys ∧ t.flag 0x1E 10 = true ∧ .reply e.path none ∈ t.sent)
  ∧ (∀ (s : State) (e : Envelope) (slot : Fin 256), s.wmpInSession e 5 7 (Config.keyRevokeBody slot) 2 → 6 ≤ slot.val → slot.val ≤ 11
      → s.lastKey slot = true → ∃ t, exec (.keyRevoke e slot) s = .next t ∧ .reply e.path (some 0x18) ∈ t.sent ∧ t.sec.revoked =
      s.sec.revoked)
  ∧ (∀ (s : State) (e : Envelope) (index : Fin 256), s.wmpInSession e 5 8 (beBytes 1 index) 2 → s.fwState = 4 → fwType s.sec.staged =
      some .task → taskId s.sec.staged = min 7 index.val → s.sec.tasks.length = 8 → ∃ t, exec (.taskInstall e index) s = .next t ∧ nth
      t.sec.tasks (min 7 index.val) [] = s.sec.staged ∧ t.on (F.CPU_TASK.LOADED (min 7 index.val)) = true ∧ t.get (F.CPU_TASK.FAULTS
      (min 7 index.val)) = 0 ∧ t.fwState = 0 ∧ .reply e.path none ∈ t.sent)
  ∧ (∀ (s : State) (e : Envelope) (index : Fin 256), s.wmpInSession e 5 8 (beBytes 1 index) 2 → s.fwState ≠ 4 ∨ fwType s.sec.staged ≠
      some .task ∨ taskId s.sec.staged ≠ min 7 index.val → ∃ t, exec (.taskInstall e index) s = .next t ∧ .reply e.path (some 0x16) ∈
      t.sent ∧ t.sec.tasks = s.sec.tasks)
  ∧ (∀ (s : State) (e : Envelope) (index : Fin 256), s.wmpInSession e 5 9 (beBytes 1 index) 2 → s.sec.tasks.length = 8 → ∃ t, exec
      (.taskRemove e index) s = .next t ∧ nth t.sec.tasks (min 7 index.val) [] = [] ∧ t.rd (R.CPU_TASK (min 7 index.val)) = 0 ∧ .reply
      e.path none ∈ t.sent ∧ s.keepsRegs t [R.CPU_TASK (min 7 index.val), R.SEC_SESSION e.path])

/-- O51. The last released core's READY makes Plough run, its tasks start and an activated image be on trial. A silent core restarts
it with WDOG, and the third restart in 60 s holds it down; CPU_CTRL restarts it. Hedge's watchdog restarts Hedge and ends every
session; the restart's end boots it again, with no good image into the ROM's subset. A running task over its share is counted in
BUDGET; one whose access its descriptor forbids stops, at its third fault disabled. CPU_SWINT_SET of Plough adds causes; of others
it does nothing. With Plough running and awake an MGR request is carried out: a renegotiation in TRAFFIC sends CAPS, a headland
message goes to the modem, a step or switch is proposed; with Plough DOWN or HELD it is refused with STATE, restarting with BUSY.
Unknown classes are refused. I3C writes to the target's address are delivered or violations, reads take responses before
notifications, ENTDAA is answered with the identity, and DISEC stops hot-joins. Concludes exec = next, on conditions on state and
operands alone, with the own effect of: ploughReady, heartbeat, ploughWatchdog, ploughRestart, hedgeWatchdog,
hedgeRestartComplete, taskBudgetExceeded, taskException, cpuSwintSet, mgrRenegotiate, hlSend, stepRequest, replanSwitch,
unknownClass, i3cPrivateWrite, i3cPrivateRead, i3cAddressAssign, hotJoinTimer. -/
def Obligations.PloughHedgeAndTheirTasksFollowR287ToR298 : Prop :=
  (∀ (s : State) (core : Fin 4), s.cpu = 1 → s.domOn 3 = true → s.on ⟨R.CPU_STATUS, core, core⟩ = true → s.get F.CPU_STATUS.READY +
      (if s.on ⟨R.CPU_STATUS, 4 + core.val, 4 + core.val⟩ then 0 else 2 ^ core.val) = s.get F.CPU_STATUS.CORES_UP → s.sec.activating ≠
      some .plough → ∃ t, exec (.ploughReady core) s = .next t ∧ t.cpu = 2 ∧ (∀ k : Fin 8, s.tasksRun = true → s.on (F.CPU_TASK.LOADED
      k) = true → s.on (F.CPU_TASK.DISABLED k) = false → (taskDesc (nth s.sec.tasks k [])).cores &&& s.get F.CPU_STATUS.CORES_UP ≠ 0 →
      t.on (F.CPU_TASK.RUNNING k) = true) ∧ t.fwState = s.fwState ∧ t.mem = s.mem)
  ∧ (∀ (s : State) (core : Fin 4), s.cpu = 1 → s.domOn 3 = true → s.on ⟨R.CPU_STATUS, core, core⟩ = true → s.get F.CPU_STATUS.READY +
      (if s.on ⟨R.CPU_STATUS, 4 + core.val, 4 + core.val⟩ then 0 else 2 ^ core.val) = s.get F.CPU_STATUS.CORES_UP → s.sec.activating =
      some .plough → ∃ t, exec (.ploughReady core) s = .next t ∧ t.cpu = 2 ∧ t.fwState = 7 ∧ t.sec.activating = none ∧ t.flag 0x1E 6 =
      true ∧ t.mem = s.mem)
  ∧ (∀ (s : State) (core : Fin 4), s.cpu = 1 → s.domOn 3 = true → s.on ⟨R.CPU_STATUS, core, core⟩ = true → s.get F.CPU_STATUS.READY +
      (if s.on ⟨R.CPU_STATUS, 4 + core.val, 4 + core.val⟩ then 0 else 2 ^ core.val) ≠ s.get F.CPU_STATUS.CORES_UP → ∃ t, exec
      (.ploughReady core) s = .next t ∧ t.cpu = 1 ∧ t.on ⟨R.CPU_STATUS, 4 + core.val, 4 + core.val⟩ = true ∧ s.onlyRegs t
      [R.CPU_STATUS])
  ∧ (∀ (s : State) (core : Fin 4), s.cpu ≠ 1 ∨ s.domOn 3 = false ∨ s.on ⟨R.CPU_STATUS, core, core⟩ = false → ∃ t, exec (.ploughReady
      core) s = .next t ∧ t = s)
  ∧ (∀ (s : State) (core : Fin 4), ∃ t, exec (.heartbeat core) s = .next t ∧ t = s)
  ∧ (∀ (s : State) (core : Fin 4), s.cpu = 2 → s.fwState ≠ 6 → s.fwState ≠ 7 → s.sec.restartAges.length < 2 → ∃ t, exec
      (.ploughWatchdog core) s = .next t ∧ t.cpu = 1 ∧ t.get (F.CPU_COUNT.RESTARTS) = min (F.CPU_COUNT.RESTARTS).top (s.get
      (F.CPU_COUNT.RESTARTS) + 1) ∧ t.get (F.CPU_COUNT.WDOG) = min (F.CPU_COUNT.WDOG).top (s.get (F.CPU_COUNT.WDOG) + 1) ∧ t.flag 0x1F
      0 = true ∧ t.flag 0x1F 2 = true ∧ t.get F.CPU_STATUS.CORES_UP = s.goodCores ∧ t.sec.restartAges = 0 :: s.sec.restartAges)
  ∧ (∀ (s : State) (core : Fin 4), s.cpu = 2 → s.fwState ≠ 6 → s.fwState ≠ 7 → 2 ≤ s.sec.restartAges.length → ∃ t, exec
      (.ploughWatchdog core) s = .next t ∧ t.cpu = 4 ∧ t.get (F.CPU_COUNT.WDOG) = min (F.CPU_COUNT.WDOG).top (s.get (F.CPU_COUNT.WDOG)
      + 1) ∧ t.flag 0x1F 1 = true ∧ t.get F.CPU_STATUS.CORES_UP = 0 ∧ t.inServiceFail (130 + core.val) = true)
  ∧ (∀ (s : State) (path : Path), s.mayWriteRws path R.CPU_CTRL 1 → s.cpu = 4 → ∃ t, exec (.ploughRestart path) s = .next t ∧ t.cpu =
      1 ∧ t.get (F.CPU_COUNT.RESTARTS) = min (F.CPU_COUNT.RESTARTS).top (s.get (F.CPU_COUNT.RESTARTS) + 1) ∧ t.flag 0x1F 0 = true)
  ∧ (∀ (s : State) (core : Fin 4), s.cpu ≠ 1 → s.cpu ≠ 2 → ∃ t, exec (.ploughWatchdog core) s = .next t ∧ t = s)
  ∧ (∀ (s : State) (path : Path), s.mayWriteRws path R.CPU_CTRL 1 → s.cpu = 0 ∨ s.cpu = 3 → ∃ t, exec (.ploughRestart path) s = .next
      t ∧ t.cpu = s.cpu ∧ t.get F.CPU_COUNT.RESTARTS = s.get F.CPU_COUNT.RESTARTS ∧ t.mem = s.mem)
  ∧ (∀ (s : State), s.fwState ≠ 6 → s.fwState ≠ 7 → ∃ t, exec (.hedgeWatchdog) s = .next t ∧ t.sec.hedge = .restarting ∧ (∀ p : Fin 4,
      t.on (F.SEC_SESSION.OPEN p) = false))
  ∧ (∀ (s : State), s.sec.hedge = .restarting → s.slotPick 0 = none → s.sec.activating = none → ∃ t, exec (.hedgeRestartComplete) s =
      .next t ∧ t.sec.hedge = .romOnly ∧ .event 0x1E0D ∈ t.sent ∧ t.mem = s.mem)
  ∧ (∀ (s : State) (k : Fin 2), s.sec.hedge = .restarting → s.sec.activating = some .hedge → ∃ t, exec (.hedgeRestartComplete) s =
      .next t ∧ (s.slotPick 0 = some k.val → s.bist.lost.contains 5 = false → (t.sec.hedge = .running ∧ t.get F.SEC_BOOT.HEDGE_SLOT =
      k.val)) ∧ t.sec.activating = none ∧ t.fwState = 7 ∧ t.flag 0x1E 6 = true ∧ t.mem = s.mem)
  ∧ (∀ (s : State), s.sec.hedge ≠ .restarting → ∃ t, exec (.hedgeRestartComplete) s = .next t ∧ t = s)
  ∧ (∀ (s : State) (k : Fin 8) (cpu : Nat), s.on (F.CPU_TASK.RUNNING k) = true → ∃ t, exec (.taskBudgetExceeded k cpu) s = .next t ∧
      (s.taskShare k < cpu → (t.get (F.CPU_TASK.BUDGET k) = min 255 (s.get (F.CPU_TASK.BUDGET k) + 1) ∧ t.flag 0x1F 4 = true)) ∧ (cpu
      ≤ s.taskShare k → t.get (F.CPU_TASK.BUDGET k) = s.get (F.CPU_TASK.BUDGET k)) ∧ t.get (F.CPU_TASK.CPU k) = min (s.taskShare k)
      cpu ∧ t.on (F.CPU_TASK.RUNNING k) = true ∧ s.onlyRegs t [R.CPU_TASK k])
  ∧ (∀ (s : State) (k : Fin 8) (cpu : Nat), s.on (F.CPU_TASK.RUNNING k) = false → ∃ t, exec (.taskBudgetExceeded k cpu) s = .next t ∧
      t = s)
  ∧ (∀ (s : State) (k : Fin 8) (cause : TaskCause), s.on (F.CPU_TASK.RUNNING k) = false ∨ (taskDesc (nth s.sec.tasks k [])).forbids
      cause = false → ∃ t, exec (.taskException k cause) s = .next t ∧ t = s)
  ∧ (∀ (s : State) (k : Fin 8) (cause : TaskCause), s.on (F.CPU_TASK.RUNNING k) = true → cause = .read 0x1E ∨ cause = .read 0x1F ∨
      cause = .store ∨ cause = .other ∨ (taskDesc (nth s.sec.tasks k [])).forbids cause = true → ∃ t, exec (.taskException k cause) s
      = .next t ∧ t.on (F.CPU_TASK.RUNNING k) = false ∧ t.get (F.CPU_TASK.FAULTS k) = min 255 (s.get (F.CPU_TASK.FAULTS k) + 1) ∧ (2 ≤
      s.get (F.CPU_TASK.FAULTS k) → t.on (F.CPU_TASK.DISABLED k) = true) ∧ t.flag 0x1F 3 = true ∧ s.onlyRegs t [R.CPU_TASK k])
  ∧ (∀ (s : State) (bits : Fin 16384), s.isDown R.CPU_SWINT_SET = false → ∃ t, exec (.cpuSwintSet .plough bits) s = .next t ∧ t.get
      F.CPU_SWINT.BITS = s.get F.CPU_SWINT.BITS ||| bits.val ∧ s.keepsRegs t [R.CPU_SWINT] ∧ t.mem = s.mem)
  ∧ (∀ (s : State) (bits : Fin 16384), s.isDown R.CPU_SWINT_SET = false → ∃ t, exec (.cpuSwintSet .cxl bits) s = .next t ∧ t = s)
  ∧ (∀ (s : State) (e : Envelope) (carrier : Fin 256), s.wmpInSession e 7 2 (beBytes 1 carrier) 1 → s.cpu ≠ 0 → s.cpu ≠ 4 → s.domOn 3
      = false → ∃ t, exec (.mgrRenegotiate e carrier) s = .next t ∧ ((e, .renegotiate (carrierOf carrier)) ∈ t.mgrInbox ∨ t.mgrInbox =
      []))
  ∧ (∀ (s : State) (e : Envelope) (carrier : Fin 256), s.wmpInSession e 7 2 (beBytes 1 carrier) 1 → s.cpu = 2 → s.domOn 3 = true →
      s.mgrInbox = [] → s.on (F.PWR_WAKE_MAP.EN 2) = false ∨ s.domOn (s.get (F.PWR_WAKE_MAP.DOMAIN 2)) = true → s.linkState (carrierOf
      carrier) = 4 → s.locked (carrierOf carrier) = true → ∃ t, exec (.mgrRenegotiate e carrier) s = .next t ∧ (t.link.at (carrierOf
      carrier)).capsTag.isSome = true ∧ (t.link.at (carrierOf carrier)).capsSends = 1 ∧ t.linkState (carrierOf carrier) = 4 ∧ .reply
      e.path none ∈ t.sent ∧ s.keepsRegs t [R.SEC_SESSION e.path])
  ∧ (∀ (s : State) (e : Envelope) (carrier sub : Fin 256) (data : List Byte), s.wmpInSession e 7 3 (beBytes 1 carrier ++ beBytes 1 sub
      ++ beBytes 1 data.length ++ data) 1 → s.cpu = 2 → s.domOn 3 = true → s.mgrInbox = [] → s.on (F.PWR_WAKE_MAP.EN 2) = false ∨
      s.domOn (s.get (F.PWR_WAKE_MAP.DOMAIN 2)) = true → s.on F.HEADLAND_TX_CTRL.BUSY = true → ∃ t, exec (.hlSend e carrier sub data)
      s = .next t ∧ t.head.waiting = s.head.waiting ++ [((carrierOf carrier), min 15 sub.val, data)] ∧ .reply e.path none ∈ t.sent ∧
      s.keepsRegs t [R.SEC_SESSION e.path])
  ∧ (∀ (s : State) (e : Envelope) (carrier : Fin 256) (targets : List Byte) (n : Nat), s.wmpInSession e 7 1 (beBytes 1 carrier ++ [0]
      ++ targets) 1 → s.cpu = 2 → s.domOn 3 = true → s.mgrInbox = [] → s.on (F.PWR_WAKE_MAP.EN 2) = false ∨ s.domOn (s.get
      (F.PWR_WAKE_MAP.DOMAIN 2)) = true → s.changeNak (carrierOf carrier) 2 = some n → ∃ t, exec (.stepRequest e carrier targets) s =
      .next t ∧ .reply e.path (some n) ∈ t.sent ∧ t.link = s.link)
  ∧ (∀ (s : State) (e : Envelope) (carrier : Fin 256) (targets : List Byte), s.wmpInSession e 7 1 (beBytes 1 carrier ++ [0] ++
      targets) 1 → s.cpu = 2 → s.domOn 3 = true → s.mgrInbox = [] → s.on (F.PWR_WAKE_MAP.EN 2) = false ∨ s.domOn (s.get
      (F.PWR_WAKE_MAP.DOMAIN 2)) = true → s.changeNak (carrierOf carrier) 2 = none → kindOf (s.link.at (carrierOf carrier)).own 2 =
      none → s.stepArmed (carrierOf carrier) = false → s.heldMfs (carrierOf carrier) = [] → s.leastLead (carrierOf carrier) < 2 ^ 22 →
      ∃ t, exec (.stepRequest e carrier targets) s = .next t ∧ (kindOf (t.link.at (carrierOf carrier)).own 2).map (·.cstate) = some 1
      ∧ .reply e.path none ∈ t.sent)
  ∧ (∀ (s : State) (e : Envelope) (carrier : Fin 256), s.wmpInSession e 7 4 (beBytes 1 carrier) 1 → s.cpu = 2 → s.domOn 3 = true →
      s.mgrInbox = [] → s.on (F.PWR_WAKE_MAP.EN 2) = false ∨ s.domOn (s.get (F.PWR_WAKE_MAP.DOMAIN 2)) = true → s.changeNak (carrierOf
      carrier) 1 = none → kindOf (s.link.at (carrierOf carrier)).own 1 = none → s.hState = 2 → s.heldMfs (carrierOf carrier) = [] →
      s.leastLead (carrierOf carrier) < 2 ^ 22 → ∃ t, exec (.replanSwitch e carrier) s = .next t ∧ (kindOf (t.link.at (carrierOf
      carrier)).own 1).map (·.cstate) = some 1 ∧ .reply e.path none ∈ t.sent)
  ∧ (∀ (s : State) (e : Envelope) (carrier : Fin 256), s.wmpInSession e 7 2 (beBytes 1 carrier) 1 → s.cpu = 0 ∨ s.cpu = 4 → ∃ t, exec
      (.mgrRenegotiate e carrier) s = .next t ∧ .reply e.path (some 0x16) ∈ t.sent ∧ t.link = s.link)
  ∧ (∀ (s : State) (e : Envelope) (carrier : Fin 256), s.wmpInSession e 7 2 (beBytes 1 carrier) 1 → s.cpu = 1 ∨ s.cpu = 3 → s.domOn 3
      = true → ∃ t, exec (.mgrRenegotiate e carrier) s = .next t ∧ .reply e.path (some 0x05) ∈ t.sent ∧ t.link = s.link)
  ∧ (∀ (s : State) (e : Envelope) (cls typ : Fin 256), s.wmpReady e → classTaken e.path cls = false → ∃ t, exec (.unknownClass e cls
      typ) s = .next t ∧ .reply e.path (some 0x0E) ∈ t.sent ∧ t.sec.sessions = s.sec.sessions ∧ t.get F.SEC_VIOLATION.LAST = 0x02 ∧
      t.get (F.SEC_VIOLATION.COUNT) = min (F.SEC_VIOLATION.COUNT).top (s.get (F.SEC_VIOLATION.COUNT) + 1) ∧ t.flag 0x1E 11 = true)
  ∧ (∀ (s : State) (e : Envelope) (cls typ : Fin 256), s.wmpReady e → classTaken e.path cls = true → typeKnown cls typ = false → ∃ t,
      exec (.unknownClass e cls typ) s = .next t ∧ .reply e.path (some 0x01) ∈ t.sent ∧ t.get F.SEC_VIOLATION.LAST = 0x02 ∧ t.get
      (F.SEC_VIOLATION.COUNT) = min (F.SEC_VIOLATION.COUNT).top (s.get (F.SEC_VIOLATION.COUNT) + 1) ∧ t.flag 0x1E 11 = true)
  ∧ (∀ (s : State) (addr : Fin 128) (bytes : List Byte), s.i3cAnswers addr = true → s.sec.hedge ≠ .restarting → s.sec.requests.length
      = 4 → nth s.sec.requests 1 none = none → bytes.length ≤ 4096 → 8 ≤ bytes.length → bytes.length = 8 + beNat (slice bytes 6 2) +
      (if beNat (slice bytes 1 1) = 4 then 0 else 40) → ∃ t, exec (.i3cPrivateWrite (.message addr bytes true)) s = .next t ∧ nth
      t.sec.requests 1 none = some bytes ∧ t.regs = s.regs ∧ t.sent = s.sent)
  ∧ (∀ (s : State) (addr : Fin 128) (bytes : List Byte), s.i3cAnswers addr = true → s.sec.hedge ≠ .restarting → nth s.sec.requests 1
      none = none → bytes.length ≤ 4096 → (bytes.length < 8 ∨ bytes.length ≠ 8 + beNat (slice bytes 6 2) + (if beNat (slice bytes 1 1)
      = 4 then 0 else 40)) → ∃ t, exec (.i3cPrivateWrite (.message addr bytes true)) s = .next t ∧ .reply 1 (some 2) ∈ t.sent ∧ t.get
      F.SEC_VIOLATION.LAST = 0x01 ∧ t.get (F.SEC_VIOLATION.COUNT) = min (F.SEC_VIOLATION.COUNT).top (s.get (F.SEC_VIOLATION.COUNT) +
      1) ∧ t.flag 0x1E 11 = true)
  ∧ (∀ (s : State) (addr : Fin 128) (bytes : List Byte) (whole : Bool), s.i3cAnswers addr = false ∨ s.sec.hedge = .restarting → ∃ t,
      exec (.i3cPrivateWrite (.message addr bytes whole)) s = .next t ∧ t = s)
  ∧ (∀ (s : State) (on : Bool), ∃ t, exec (.i3cPrivateWrite (if on then .enec else .disec)) s = .next t ∧ t.sec.hotJoin = on ∧ t.regs
      = s.regs ∧ t.sent = s.sent)
  ∧ (∀ (s : State) (x : I3cWrite), x = .unsupported ∨ x = .hdr → ∃ t, exec (.i3cPrivateWrite x) s = .next t ∧ t.get
      F.SEC_VIOLATION.LAST = 0x0B ∧ t.get (F.SEC_VIOLATION.COUNT) = min (F.SEC_VIOLATION.COUNT).top (s.get (F.SEC_VIOLATION.COUNT) +
      1) ∧ t.flag 0x1E 11 = true ∧ t.sec.requests = s.sec.requests ∧ s.keepsRegs t [R.SEC_VIOLATION])
  ∧ (∀ (s : State) (addr : Fin 128) (bytes : List Byte) (whole : Bool), s.i3cAnswers addr = true → s.sec.hedge ≠ .restarting → (nth
      s.sec.requests 1 none).isSome = true → ∃ t, exec (.i3cPrivateWrite (.message addr bytes whole)) s = .next t ∧ t.get
      F.SEC_VIOLATION.LAST = 0x09 ∧ t.get (F.SEC_VIOLATION.COUNT) = min (F.SEC_VIOLATION.COUNT).top (s.get (F.SEC_VIOLATION.COUNT) +
      1) ∧ t.flag 0x1E 11 = true ∧ t.sec.requests = s.sec.requests)
  ∧ (∀ (s : State) (addr : Fin 128) (bytes : List Byte) (whole : Bool), s.i3cAnswers addr = true → s.sec.hedge ≠ .restarting → nth
      s.sec.requests 1 none = none → whole = false ∨ 4096 < bytes.length → ∃ t, exec (.i3cPrivateWrite (.message addr bytes whole)) s
      = .next t ∧ t.get F.SEC_VIOLATION.LAST = 0x0A ∧ t.get (F.SEC_VIOLATION.COUNT) = min (F.SEC_VIOLATION.COUNT).top (s.get
      (F.SEC_VIOLATION.COUNT) + 1) ∧ t.flag 0x1E 11 = true ∧ t.sec.requests = s.sec.requests)
  ∧ (∀ (s : State) (addr : Fin 128) (r : List Byte), s.i3cAnswers addr = true → s.sec.hedge ≠ .restarting → s.sec.i3cResp = some r → ∃
      t, exec (.i3cPrivateRead addr) s = .next t ∧ t.sent = .i3cRead (some r) :: s.sent ∧ t.sec.i3cResp = none ∧ t.i3cNotes =
      s.i3cNotes ∧ t.regs = s.regs)
  ∧ (∀ (s : State) (addr : Fin 128) (n : List Byte) (rest : List (List Byte)), s.i3cAnswers addr = true → s.sec.hedge ≠ .restarting →
      s.sec.i3cResp = none → s.i3cNotes = n :: rest → ∃ t, exec (.i3cPrivateRead addr) s = .next t ∧ t.sent = .i3cRead (some n) ::
      s.sent ∧ t.i3cNotes = rest ∧ t.regs = s.regs)
  ∧ (∀ (s : State) (addr : Fin 128), s.i3cAnswers addr = true → s.sec.hedge = .restarting ∨ (s.sec.i3cResp = none ∧ s.i3cNotes = []) →
      ∃ t, exec (.i3cPrivateRead addr) s = .next t ∧ t.sent = .i3cRead none :: s.sent ∧ t.i3cNotes = s.i3cNotes ∧ t.sec = s.sec ∧
      t.regs = s.regs)
  ∧ (∀ (s : State) (addr : Fin 128), s.i3cAnswers addr = false → ∃ t, exec (.i3cPrivateRead addr) s = .next t ∧ t = s)
  ∧ (∀ (s : State) (addr : Fin 128), s.i3cAddress = none → ∃ t, exec (.i3cAddressAssign .entdaa addr) s = .next t ∧ t.i3cAddress =
      some addr.val ∧ t.sent = (if s.i3cNotes.isEmpty then [] else [.ibi 1]) ++ (if s.sec.i3cResp.isSome then [.ibi 2] else []) ++
      .i3cIdentity (Config.mipiId % 2 ^ 15 * 2 ^ 33 + 0x3280 * 2 ^ 16 + (s.rd R.PINS_STRAPS).toNat % 2 ^ 16) 0x06 0 :: s.sent ∧ t.regs
      = s.regs)
  ∧ (∀ (s : State) (addr static : Fin 128), s.i3cAddress = none → static.val = s.i3cStatic → ∃ t, exec (.i3cAddressAssign (.setdasa
      static) addr) s = .next t ∧ t.i3cAddress = some addr.val ∧ t.sent = (if s.i3cNotes.isEmpty then [] else [.ibi 1]) ++ (if
      s.sec.i3cResp.isSome then [.ibi 2] else []) ++ s.sent ∧ t.regs = s.regs)
  ∧ (∀ (s : State) (addr old : Fin 128), s.i3cAddress = some old.val → ∃ t, exec (.i3cAddressAssign (.setnewda old) addr) s = .next t
      ∧ t.i3cAddress = some addr.val ∧ t.sent = (if s.i3cNotes.isEmpty then [] else [.ibi 1]) ++ (if s.sec.i3cResp.isSome then [.ibi
      2] else []) ++ s.sent ∧ t.regs = s.regs)
  ∧ (∀ (s : State) (how : I3cAssign) (addr : Fin 128), ((how = .entdaa ∧ s.i3cAddress ≠ none) ∨ (∃ x : Fin 128, how = .setdasa x ∧
      (s.i3cAddress ≠ none ∨ x.val ≠ s.i3cStatic)) ∨ (∃ x : Fin 128, how = .setnewda x ∧ s.i3cAddress ≠ some x.val)) → ∃ t, exec
      (.i3cAddressAssign how addr) s = .next t ∧ t = s)
  ∧ (∀ (s : State), s.i3cAddress ≠ none ∨ s.sec.hotJoin = false → ∃ t, exec (.hotJoinTimer) s = .next t ∧ t = s)
  ∧ (∀ (s : State), s.i3cAddress = none → s.sec.hotJoin = true → ∃ t, exec (.hotJoinTimer) s = .next t ∧ t.sent = .hotJoin :: s.sent ∧
      t.regs = s.regs ∧ t.mem = s.mem)

/-- O52. ARM of a unit that neither spills nor is HELD arms it, its capture discarded, its sequencer in S0; else it is IGNORED. In
CHANGE_ONLY an instant with the masked words last stored is not stored, another goes into the staging words of its entries, and no
other word changes. FORCE, GLEAN_FIRE_N with FIRE_IN, and a sequencer state whose condition A holds with TRIG_A fire an ARMED
unit, latching TRIG_TAG and PRE_ACTUAL; a joined partner fires after it. The end of recording goes to SPILLING with SPILL and the
window GRANTED, else to DONE. STOP of an ARMED unit leaves TRIG_TAG 0xFFFFFFFF. A spill record is written into the window, and the
last one goes to DONE, or with AUTO_REARM to ARMED. READ_DATA latches an entry and advances READ_PTR; one that cannot be corrected
reads INVALID with SAMPLE and TAG 0. SNAPSHOT copies a counter after the increments of its cycle and clears its flags, with CLEAR
the counter too; a load sets it, and OVF_AT_WRITE where a wrap meets it. A precise sample fills the buffer, or is LOST when full
without WRAP; a core counter that wraps sets OF, and if OF was 0 its interrupt. Concludes exec = next, on conditions on state and
operands alone, with the own effect of: unitArm, unitForce, gleanFireNEdge, gleanArmEdge, sequencerTrigger, captureComplete,
unitStop, spillRecordWritten, readDataRead, statSnapshot, statLoad, psSample, hpmCounterOverflow. -/
def Obligations.GleanerFollowsTable153 : Prop :=
  (∀ (s : State) (path : Path) (unit : Fin 4) (units : Fin 16), s.mayWrite path R.GLEAN_ARM_CTRL → inMask units unit = true →
      s.bist.lost.contains 6 = false → s.unitState unit ≠ 3 → s.unitState unit ≠ 4 → unit.val < s.glean.units.length → ∃ t, exec
      (.unitArm path units) s = .next t ∧ t.unitState unit = 1 ∧ t.get (F.GLEAN_STATE.SEQ unit) = 0 ∧ t.get (F.GLEAN_STATUS.COUNT
      unit) = 0 ∧ t.rd (R.GLEAN_LAST_DEAD unit) = 0xFFFFFFFF ∧ (t.unit unit).count = 0 ∧ (t.unit unit).index = 0 ∧ (t.unit
      unit).stored = none ∧ (t.unit unit).trigEntry = none ∧ t.mem = s.mem)
  ∧ (∀ (s : State) (path : Path) (unit : Fin 4) (units : Fin 16), s.mayWrite path R.GLEAN_ARM_CTRL → inMask units unit = true →
      s.bist.lost.contains 6 = false → s.unitState unit = 3 ∨ s.unitState unit = 4 → ∃ t, exec (.unitArm path units) s = .next t ∧
      t.get (F.GLEAN_COUNT.IGNORED unit) = min (F.GLEAN_COUNT.IGNORED unit).top (s.get (F.GLEAN_COUNT.IGNORED unit) + 1) ∧ t.unitState
      unit = s.unitState unit ∧ (t.unit unit) = (s.unit unit) ∧ t.mem = s.mem)
  ∧ (∀ (s : State) (path : Path) (units : Fin 16), s.mayWrite path R.GLEAN_ARM_CTRL → s.bist.lost.contains 6 = true → ∃ t, exec
      (.unitArm path units) s = .next t ∧ t = s)
  ∧ (∀ (s : State) (path : Path) (unit : Fin 4) (units : Fin 16) (feeds : List TapFeed) (r : State) (g : GleanUnit), s.mayWrite path
      R.GLEAN_ARM_CTRL → inMask units unit = true → r = s.recordAll feeds → r.unitState unit = 1 → r.on (F.PWR_WAKE_MAP.EN 4) = false
      ∨ r.domOn (r.get (F.PWR_WAKE_MAP.DOMAIN 4)) = true → g = (r.unit unit) → unit.val < s.glean.units.length → ∃ t, exec (.unitForce
      path units feeds) s = .next t ∧ t.unitState unit = 2 ∧ t.rd (R.GLEAN_TRIG_TAG unit) = BitVec.ofNat 32 g.index ∧ t.get
      (F.GLEAN_PRE_ACTUAL.VALUE unit) = min 131071 (min g.pre g.count) ∧ (t.unit unit).trigEntry = some (min g.pre g.count) ∧ (t.unit
      unit).count = min g.pre g.count ∧ (t.unit unit).total = g.total ∧ t.flag 0x20 unit = true ∧ t.mem = r.mem)
  ∧ (∀ (s : State) (path : Path) (unit v : Fin 4) (units : Fin 16) (feeds : List TapFeed) (r : State), s.mayWrite path
      R.GLEAN_ARM_CTRL → inMask units unit = true → inMask units v = false → r = s.recordAll feeds → r.unitState unit = 1 →
      r.unitState v = 1 → (r.unit unit).join = true → (r.unit v).join = true → v.val < s.glean.units.length → unit.val <
      s.glean.units.length → ∃ t, exec (.unitForce path units feeds) s = .next t ∧ t.unitState unit = 2 ∧ t.unitState v = 2 ∧ t.rd
      (R.GLEAN_TRIG_TAG v) = BitVec.ofNat 32 (r.unit v).index)
  ∧ (∀ (s : State) (path : Path) (unit : Fin 4) (units : Fin 16) (feeds : List TapFeed) (r : State), s.mayWrite path R.GLEAN_ARM_CTRL
      → units.val = 2 ^ unit.val → r = s.recordAll feeds → r.unitState unit ≠ 1 → ∃ t, exec (.unitForce path units feeds) s = .next t
      ∧ t = r)
  ∧ (∀ (s : State) (unit : Fin 4) (feeds : List TapFeed) (r : State), r = s.recordAll feeds → r.on F.GLEAN_XDEV.FIRE_IN = true →
      r.unitState unit = 1 → (r.unit unit).join = true → r.on (F.PWR_WAKE_MAP.EN 4) = false ∨ r.domOn (r.get (F.PWR_WAKE_MAP.DOMAIN
      4)) = true → unit.val < s.glean.units.length → ∃ t, exec (.gleanFireNEdge feeds) s = .next t ∧ t.unitState unit = 2 ∧ t.flag
      0x20 unit = true)
  ∧ (∀ (s : State) (feeds : List TapFeed) (r : State), r = s.recordAll feeds → r.on F.GLEAN_XDEV.FIRE_IN = false → ∃ t, exec
      (.gleanFireNEdge feeds) s = .next t ∧ t = r)
  ∧ (∀ (s : State) (unit : Fin 4), s.on F.GLEAN_XDEV.ARM_OUT = false → bitsOf (s.gleanWord unit 0) 6 6 = 1 → s.bist.lost.contains 6 =
      false → s.unitState unit ≠ 3 → s.unitState unit ≠ 4 → unit.val < s.glean.units.length → ∃ t, exec (.gleanArmEdge) s = .next t ∧
      t.unitState unit = 1 ∧ (t.unit unit).count = 0 ∧ t.mem = s.mem)
  ∧ (∀ (s : State), s.on F.GLEAN_XDEV.ARM_OUT = true → ∃ t, exec (.gleanArmEdge) s = .next t ∧ t = s)
  ∧ (∀ (s : State) (unit : Fin 4) (cycle : GleanCycle) (feeds : List TapFeed) (r : State) (w : Word), r = s.recordAll feeds →
      r.unitState unit = 1 → (r.unit unit).waits = false → w = (r.unit unit).word (0x80 + 4 * r.get (F.GLEAN_STATE.SEQ unit)) → bitsOf
      w 31 29 = 1 → bitsOf w 13 13 = 1 → r.on (F.PWR_WAKE_MAP.EN 4) = false ∨ r.domOn (r.get (F.PWR_WAKE_MAP.DOMAIN 4)) = true →
      unit.val < s.glean.units.length → ∃ t, exec (.sequencerTrigger unit cycle feeds) s = .next t ∧ t.unitState unit = 2 ∧ t.get
      (F.GLEAN_STATE.SEQ unit) = bitsOf w 19 17 ∧ t.rd (R.GLEAN_TRIG_TAG unit) = BitVec.ofNat 32 (r.unit unit).index ∧ t.flag 0x20
      unit = true)
  ∧ (∀ (s : State) (unit : Fin 4) (x : TapInstant) (now : Clock) (k p : Nat) (old : List Nat), s.glean.due = [⟨unit.val, now, x⟩] →
      s.unitState unit = 2 → burstTap unit (s.unit unit).tap = false → (s.unit unit).mode = 1 → (s.unit unit).stored = some (k, old) →
      (s.unit unit).index - k < 2 ^ 31 → (s.unit unit).trigEntry = some p → unit.val < s.glean.units.length → (x.words.take
      (instantWords unit (s.unit unit).tap)).map (fun w => w % 2 ^ 24 &&& bitsOf ((s.unit unit).word 0x40) 23 0) = old → (s.unit
      unit).complete = false → ∃ t, exec (.captureComplete unit ⟨0, []⟩) s = .next t ∧ (t.unit unit).total = (s.unit unit).total ∧
      (t.unit unit).count = (s.unit unit).count ∧ (t.unit unit).index = (s.unit unit).index + 1 ∧ (t.unit unit).stored = (s.unit
      unit).stored ∧ t.unitState unit = 2 ∧ s.keepsRegs t [R.GLEAN_STATUS unit] ∧ t.mem = s.mem)
  ∧ (∀ (s : State) (unit : Fin 4) (x : TapInstant) (now : Clock) (k p : Nat) (old : List Nat) (es : List (BitVec 64)), s.glean.due =
      [⟨unit.val, now, x⟩] → s.unitState unit = 2 → burstTap unit (s.unit unit).tap = false → (s.unit unit).mode = 1 → (s.unit
      unit).stored = some (k, old) → (s.unit unit).index - k < 2 ^ 31 → (s.unit unit).trigEntry = some p → unit.val <
      s.glean.units.length → (x.words.take (instantWords unit (s.unit unit).tap)).map (fun w => w % 2 ^ 24 &&& bitsOf ((s.unit
      unit).word 0x40) 23 0) ≠ old → es = instantEntries (s.unit unit).index false x.unsettled (x.words.take (instantWords unit
      (s.unit unit).tap)) → (s.unit unit).count + es.length < p + (s.unit unit).post → 2 ≤ (s.unit unit).depth → (s.unit unit).depth ≤
      65536 → s.on F.MEM_FLIP_CTRL.ARMED = false → ∃ t, exec (.captureComplete unit ⟨0, []⟩) s = .next t ∧ (t.unit unit).total =
      (s.unit unit).total + es.length ∧ (t.unit unit).count = (s.unit unit).count + es.length ∧ (∀ i : Fin 2, i.val < es.length →
      t.memWord 6 ((s.unit unit).slot unit ((s.unit unit).total + i)) = memWordOf (nth es i 0) 0) ∧ (∀ (r2 : Fin 9) (w2 : Nat), w2 < 2
      ^ 20 → (∀ i : Fin 2, i.val < es.length → r2.val ≠ 6 ∨ w2 ≠ ((s.unit unit).slot unit ((s.unit unit).total + i))) → t.memWord r2
      w2 = s.memWord r2 w2) ∧ (t.unit unit).index = (s.unit unit).index + 1 ∧ t.unitState unit = 2)
  ∧ (∀ (s : State) (unit : Fin 4) (feed : TapFeed) (r : State), r = s.meetDue.record unit feed → r.unitState unit = 2 → (r.unit
      unit).complete = true → (r.unit unit).spills = false ∨ r.windowGranted = false → unit.val < s.glean.units.length → ∃ t, exec
      (.captureComplete unit feed) s = .next t ∧ t.unitState unit = 5 ∧ t.flag 0x20 (4 + unit) = true ∧ (t.unit unit).count = (r.unit
      unit).count ∧ (t.unit unit).total = (r.unit unit).total ∧ t.get (F.GLEAN_COUNT.CAPTURES unit) = min 65535 (r.get
      (F.GLEAN_COUNT.CAPTURES unit) + 1) ∧ r.keepsRegs t [R.GLEAN_STATE unit, R.GLEAN_STATUS unit, R.GLEAN_COUNT unit] ∧ t.mem =
      r.mem)
  ∧ (∀ (s : State) (unit : Fin 4) (feed : TapFeed) (r : State), r = s.meetDue.record unit feed → r.unitState unit = 2 → (r.unit
      unit).complete = true → (r.unit unit).spills = true → r.windowGranted = true → unit.val < s.glean.units.length → ∃ t, exec
      (.captureComplete unit feed) s = .next t ∧ t.unitState unit = 3 ∧ (t.unit unit).spillAt = 0 ∧ (t.unit unit).count = (r.unit
      unit).count ∧ t.mem = r.mem)
  ∧ (∀ (s : State) (unit : Fin 4) (feed : TapFeed) (r : State), r = s.meetDue.record unit feed → r.unitState unit ≠ 2 ∨ (r.unit
      unit).complete = false → ∃ t, exec (.captureComplete unit feed) s = .next t ∧ t = r)
  ∧ (∀ (s : State) (path : Path) (unit : Fin 4) (units : Fin 16) (feeds : List TapFeed) (r : State), s.mayWrite path R.GLEAN_ARM_CTRL
      → inMask units unit = true → r = s.recordAll feeds → r.unitState unit = 1 ∨ r.unitState unit = 2 → (r.unit unit).spills = false
      ∨ r.windowGranted = false → unit.val < s.glean.units.length → ∃ t, exec (.unitStop path units feeds) s = .next t ∧ t.unitState
      unit = 5 ∧ t.rd (R.GLEAN_TRIG_TAG unit) = (if r.unitState unit = 1 then 0xFFFFFFFF else r.rd (R.GLEAN_TRIG_TAG unit)) ∧ (t.unit
      unit).count = (r.unit unit).count ∧ (t.unit unit).total = (r.unit unit).total ∧ (t.unit unit).trigEntry = (r.unit
      unit).trigEntry ∧ t.flag 0x20 (4 + unit) = true ∧ t.mem = r.mem)
  ∧ (∀ (s : State) (path : Path) (unit : Fin 4) (units : Fin 16) (feeds : List TapFeed) (r : State), s.mayWrite path R.GLEAN_ARM_CTRL
      → inMask units unit = true → r = s.recordAll feeds → r.unitState unit = 1 ∨ r.unitState unit = 2 → (r.unit unit).spills = true →
      r.windowGranted = true → unit.val < s.glean.units.length → ∃ t, exec (.unitStop path units feeds) s = .next t ∧ t.unitState unit
      = 3 ∧ (t.unit unit).count = (r.unit unit).count ∧ t.mem = r.mem)
  ∧ (∀ (s : State) (path : Path) (unit : Fin 4) (units : Fin 16) (feeds : List TapFeed) (r : State), s.mayWrite path R.GLEAN_ARM_CTRL
      → units.val = 2 ^ unit.val → r = s.recordAll feeds → r.unitState unit = 4 → ∃ t, exec (.unitStop path units feeds) s = .next t ∧
      t.unitState unit = 5 ∧ (t.unit unit) = (r.unit unit) ∧ r.onlyRegs t [R.GLEAN_STATE unit] ∧ t.mem = r.mem)
  ∧ (∀ (s : State) (unit : Fin 4) (upsets : List MemWord) (us n len size w flags : Nat) (part : List (BitVec 64)), s.unitState unit =
      3 → (∀ v : Fin 4, v < unit → s.unitState v ≠ 3) → s.windowGranted = true → n = min 4096 ((s.unit unit).count - (s.unit
      unit).spillAt) → len = (80 + 8 * n + 63) / 64 → size = s.get F.GLEAN_SPILL_SIZE.SIZE * 64 → w = s.get F.GLEAN_SPILL_WPTR.PTR → w
      + len ≤ size → unit.val < s.glean.units.length → part = (s.entriesFrom unit (s.unit unit).spillAt ((List.range n).map fun i =>
      nth upsets i 0)).1 → flags = unit.val + (if (s.unit unit).spillAt = 0 then 4 else 0) + (if (s.unit unit).count ≤ (s.unit
      unit).spillAt + n then 8 else 0) + (if part.any entryInvalid then 16 else 0) → len + 1 ≤ size - (w + size - s.get
      F.GLEAN_SPILL_RPTR.PTR % size) % size → s.ringReach w len = true → s.get F.GLEAN_SPILL_SIZE.SIZE ≤ 4096 → (s.unit unit).count ≤
      (s.unit unit).spillAt + n → (s.unit unit).rearms = false → ∃ t, exec (.spillRecordWritten (.spill upsets us)) s = .next t ∧
      t.unitState unit = 5 ∧ t.flag 0x20 (4 + unit) = true ∧ t.get F.GLEAN_SPILL_WPTR.PTR = (w + len) % size ∧ t.glean.seq =
      (s.glean.seq + 1) % 2 ^ 32 ∧ .window (s.get F.GLEAN_SPILL_BASE.BASE * 64 + w) (windowRecord (s.rd R.CXLCTL_WIN_EPOCH) flags
      s.glean.seq (s.spillDescriptor unit (s.unit unit).spillAt n ++ part.flatMap (fun e => leBytes 8 e.toNat))) ∈ t.sent)
  ∧ (∀ (s : State) (unit : Fin 4) (upsets : List MemWord) (us n len size w flags : Nat) (part : List (BitVec 64)), s.unitState unit =
      3 → (∀ v : Fin 4, v < unit → s.unitState v ≠ 3) → s.windowGranted = true → n = min 4096 ((s.unit unit).count - (s.unit
      unit).spillAt) → len = (80 + 8 * n + 63) / 64 → size = s.get F.GLEAN_SPILL_SIZE.SIZE * 64 → w = s.get F.GLEAN_SPILL_WPTR.PTR → w
      + len ≤ size → unit.val < s.glean.units.length → part = (s.entriesFrom unit (s.unit unit).spillAt ((List.range n).map fun i =>
      nth upsets i 0)).1 → flags = unit.val + (if (s.unit unit).spillAt = 0 then 4 else 0) + (if (s.unit unit).count ≤ (s.unit
      unit).spillAt + n then 8 else 0) + (if part.any entryInvalid then 16 else 0) → len + 1 ≤ size - (w + size - s.get
      F.GLEAN_SPILL_RPTR.PTR % size) % size → s.ringReach w len = true → s.get F.GLEAN_SPILL_SIZE.SIZE ≤ 4096 → (s.unit unit).count ≤
      (s.unit unit).spillAt + n → (s.unit unit).rearms = true → ∃ t, exec (.spillRecordWritten (.spill upsets us)) s = .next t ∧
      t.unitState unit = 1 ∧ t.flag 0x20 (4 + unit) = true ∧ t.rd (R.GLEAN_LAST_DEAD unit) = BitVec.ofNat 32 (min 0xFFFFFFFF us) ∧
      (t.unit unit).count = 0 ∧ (t.unit unit).auto = true ∧ .window (s.get F.GLEAN_SPILL_BASE.BASE * 64 + w) (windowRecord (s.rd
      R.CXLCTL_WIN_EPOCH) flags s.glean.seq (s.spillDescriptor unit (s.unit unit).spillAt n ++ part.flatMap (fun e => leBytes 8
      e.toNat))) ∈ t.sent)
  ∧ (∀ (s : State) (unit : Fin 4) (upsets : List MemWord) (us n len size w flags : Nat) (part : List (BitVec 64)), s.unitState unit =
      3 → (∀ v : Fin 4, v < unit → s.unitState v ≠ 3) → s.windowGranted = true → n = min 4096 ((s.unit unit).count - (s.unit
      unit).spillAt) → len = (80 + 8 * n + 63) / 64 → size = s.get F.GLEAN_SPILL_SIZE.SIZE * 64 → w = s.get F.GLEAN_SPILL_WPTR.PTR → w
      + len ≤ size → unit.val < s.glean.units.length → part = (s.entriesFrom unit (s.unit unit).spillAt ((List.range n).map fun i =>
      nth upsets i 0)).1 → flags = unit.val + (if (s.unit unit).spillAt = 0 then 4 else 0) + (if (s.unit unit).count ≤ (s.unit
      unit).spillAt + n then 8 else 0) + (if part.any entryInvalid then 16 else 0) → len + 1 ≤ size - (w + size - s.get
      F.GLEAN_SPILL_RPTR.PTR % size) % size → s.ringReach w len = true → s.get F.GLEAN_SPILL_SIZE.SIZE ≤ 4096 → (s.unit unit).spillAt
      + n < (s.unit unit).count → ∃ t, exec (.spillRecordWritten (.spill upsets us)) s = .next t ∧ t.unitState unit = 3 ∧ (t.unit
      unit).spillAt = (s.unit unit).spillAt + n ∧ t.get F.GLEAN_SPILL_WPTR.PTR = (w + len) % size ∧ .window (s.get
      F.GLEAN_SPILL_BASE.BASE * 64 + w) (windowRecord (s.rd R.CXLCTL_WIN_EPOCH) flags s.glean.seq (s.spillDescriptor unit (s.unit
      unit).spillAt n ++ part.flatMap (fun e => leBytes 8 e.toNat))) ∈ t.sent)
  ∧ (∀ (s : State) (unit : Fin 4) (upsets : List MemWord) (us n len size w : Nat), s.unitState unit = 3 → (∀ v : Fin 4, v < unit →
      s.unitState v ≠ 3) → s.windowGranted = true → n = min 4096 ((s.unit unit).count - (s.unit unit).spillAt) → len = (80 + 8 * n +
      63) / 64 → size = s.get F.GLEAN_SPILL_SIZE.SIZE * 64 → w = s.get F.GLEAN_SPILL_WPTR.PTR → w + len ≤ size → unit.val <
      s.glean.units.length → size - (w + size - s.get F.GLEAN_SPILL_RPTR.PTR % size) % size < len + 1 → ∃ t, exec (.spillRecordWritten
      (.spill upsets us)) s = .next t ∧ t = s)
  ∧ (∀ (s : State) (upsets : List MemWord) (us : Nat), (s.windowGranted = false ∨ ∀ v : Fin 4, s.unitState v ≠ 3) → ∃ t, exec
      (.spillRecordWritten (.spill upsets us)) s = .next t ∧ t = s)
  ∧ (∀ (s : State) (at64 : Nat) (body bytes : List Byte), s.windowGranted = true → s.cpu = 2 → bytes = windowRecord (s.rd
      R.CXLCTL_WIN_EPOCH) 0 s.cxl.taskSeq body 2 → s.inWindow (at64 * 64) bytes.length = true → ∃ t, exec (.spillRecordWritten
      (.plough none at64 body)) s = .next t ∧ t.sent = .window at64 bytes :: s.sent ∧ t.cxl.taskSeq = (s.cxl.taskSeq + 1) % 2 ^ 32 ∧
      t.regs = s.regs ∧ t.mem = s.mem)
  ∧ (∀ (s : State) (path : Path) (unit : Fin 4) (upset : MemWord) (k n : Nat) (m : MemWord), s.unheard path false = false → s.isDown
      (R.GLEAN_READ_DATA_LO unit) = false → k = s.get (F.GLEAN_READ_PTR.VALUE unit) → k < (s.unit unit).count → n = ((s.unit
      unit).slot unit ((s.unit unit).total - (s.unit unit).count + k)) → m = turned (s.memWord 6 n) upset → syndromeOf m = 0 →
      entryInvalid (dataOf m) = false → ∃ t, exec (.readDataRead path unit upset) s = .next t ∧ t.readData = (dataOf m).setWidth 32 ∧
      t.rd (R.GLEAN_READ_DATA_HI unit) = (dataOf m >>> 32).setWidth 32 ∧ t.get (F.GLEAN_READ_PTR.VALUE unit) = (k + 1) % 131072 ∧
      s.keepsRegs t [R.GLEAN_READ_DATA_LO unit, R.GLEAN_READ_DATA_HI unit, R.GLEAN_READ_PTR unit])
  ∧ (∀ (s : State) (path : Path) (unit : Fin 4) (upset : MemWord) (k n : Nat) (m : MemWord), s.unheard path false = false → s.isDown
      (R.GLEAN_READ_DATA_LO unit) = false → k = s.get (F.GLEAN_READ_PTR.VALUE unit) → k < (s.unit unit).count → n = ((s.unit
      unit).slot unit ((s.unit unit).total - (s.unit unit).count + k)) → m = turned (s.memWord 6 n) upset → syndromeOf m ≠ 0 →
      correctable (syndromeOf m) = false → ∃ t, exec (.readDataRead path unit upset) s = .next t ∧ bitsOf t.readData 25 25 = 1 ∧
      bitsOf t.readData 23 0 = 0 ∧ t.rd (R.GLEAN_READ_DATA_HI unit) = 0 ∧ t.get (F.GLEAN_COUNT.INVALID unit) = min
      (F.GLEAN_COUNT.INVALID unit).top (s.get (F.GLEAN_COUNT.INVALID unit) + 1) ∧ t.flag 0x20 (12 + unit) = true ∧ t.get
      (F.GLEAN_READ_PTR.VALUE unit) = (k + 1) % 131072)
  ∧ (∀ (s : State) (path : Path) (clear : Bool) (now : List Nat) (k : Fin 32) (old c : Ctr48), s.mayWrite path R.GLEAN_STAT_CTRL →
      s.glean.stats.length = 32 → old = nth s.glean.stats k.val {} → c = old.add (nth now k.val 0) → ∃ t, exec (.statSnapshot path
      clear now) s = .next t ∧ t.rd (R.GLEAN_STAT_LO k) = BitVec.ofNat 32 c.value ∧ t.get (F.GLEAN_STAT_HI.VALUE k) = c.value / 2 ^ 32
      % 65536 ∧ t.on (F.GLEAN_STAT_HI.OVF k) = c.ovf ∧ t.on (F.GLEAN_STAT_HI.OVF_AT_WRITE k) = (c.atWrite || (clear && decide (c.value
      < old.value))) ∧ nth t.glean.stats k.val {} = (if clear then {} else { value := c.value }) ∧ t.mem = s.mem)
  ∧ (∀ (s : State) (path : Path) (counter : Fin 32) (value : Word) (now : List Nat) (old : Ctr48), s.mayWrite path (R.GLEAN_STAT_HI
      counter) → s.glean.stats.length = 32 → old = nth s.glean.stats counter.val {} → ∃ t, exec (.statLoad path counter value now) s =
      .next t ∧ (nth t.glean.stats counter.val {}).value = (s.staged path (R.GLEAN_STAT_LO counter)).toNat + bitsOf value 15 0 * 2 ^
      32 ∧ (nth t.glean.stats counter.val {}).ovf = (old.ovf || decide (2 ^ 48 ≤ old.value + nth now counter.val 0)) ∧ (nth
      t.glean.stats counter.val {}).atWrite = (old.atWrite || decide (2 ^ 48 ≤ old.value + nth now counter.val 0)) ∧ t.mem = s.mem)
  ∧ (∀ (s : State) (core : Fin 4) (n : Nat) (sample : PreciseSample) (k left : Nat), s.on (F.GLEAN_PS_CTRL.EN core) = true → s.get
      (F.GLEAN_PS_LEVEL.LEVEL core) < 512 ∨ s.on (F.GLEAN_PS_CTRL.WRAP core) = true → k = s.get (F.GLEAN_PS_STATUS.INDEX core) → left
      = (nth s.glean.cores core.val {}).psLeft → left ≤ n → core.val < s.glean.cores.length → ∃ t, exec (.psSample core n sample) s =
      .next t ∧ t.rd (R.GLEAN_PS_BUF core (4 * k)) = sample.pc.setWidth 32 ∧ t.rd (R.GLEAN_PS_BUF core (4 * k + 2)) = sample.insn ∧
      t.get (F.GLEAN_PS_STATUS.INDEX core) = (k + 1) % 512 ∧ t.get (F.GLEAN_PS_LEVEL.LEVEL core) = min 512 (s.get
      (F.GLEAN_PS_LEVEL.LEVEL core) + 1) ∧ (s.get (F.GLEAN_PS_LEVEL.LEVEL core) = 383 ∨ s.get (F.GLEAN_PS_LEVEL.LEVEL core) = 511 →
      t.flag 0x20 (16 + core) = true) ∧ (s.get (F.GLEAN_PS_CTRL.JITTER core) = 0 → (nth t.glean.cores core.val {}).psLeft = s.get
      (F.GLEAN_PS_PERIOD.VALUE core) - (n - left)) ∧ t.mem = s.mem)
  ∧ (∀ (s : State) (core : Fin 4) (n left : Nat) (sample : PreciseSample), s.on (F.GLEAN_PS_CTRL.EN core) = true → s.on
      (F.GLEAN_PS_CTRL.WRAP core) = false → s.get (F.GLEAN_PS_LEVEL.LEVEL core) = 512 → left = (nth s.glean.cores core.val {}).psLeft
      → left ≤ n → ∃ t, exec (.psSample core n sample) s = .next t ∧ t.get (F.GLEAN_PS_STATUS.LOST core) = min (F.GLEAN_PS_STATUS.LOST
      core).top (s.get (F.GLEAN_PS_STATUS.LOST core) + 1) ∧ s.keepsRegs t [R.GLEAN_PS_STATUS core] ∧ t.mem = s.mem)
  ∧ (∀ (s : State) (core : Fin 4) (n left : Nat) (sample : PreciseSample), s.on (F.GLEAN_PS_CTRL.EN core) = true → left = (nth
      s.glean.cores core.val {}).psLeft → n < left → core.val < s.glean.cores.length → ∃ t, exec (.psSample core n sample) s = .next t
      ∧ (nth t.glean.cores core.val {}).psLeft = left - n ∧ t.regs = s.regs ∧ t.mem = s.mem)
  ∧ (∀ (s : State) (core : Fin 4) (n : Nat) (sample : PreciseSample), s.on (F.GLEAN_PS_CTRL.EN core) = false → ∃ t, exec (.psSample
      core n sample) s = .next t ∧ t = s)
  ∧ (∀ (s : State) (core : Fin 4) (counter : Fin 12) (run : CoreRun) (x : CoreSt) (n v : Nat), core.val < s.glean.cores.length → x =
      nth s.glean.cores core.val {} → x.counters.length = 12 → x.events.length = 12 → n = (if eventCounts (nth x.events counter.val 0)
      run.priv then run.occurrences else 0) → v = (nth x.counters counter.val 0).toNat + (if run.write.isSome then n - 1 else n) → ∃
      t, exec (.hpmCounterOverflow core counter run) s = .next t ∧ nth (nth t.glean.cores core.val {}).counters counter.val 1 =
      run.write.getD (BitVec.ofNat 64 v) ∧ (2 ^ 64 ≤ v → (nth (nth t.glean.cores core.val {}).events counter.val 0).getLsbD 63 = true)
      ∧ (2 ^ 64 ≤ v → (nth t.glean.cores core.val {}).overflow = (x.overflow || !(nth x.events counter.val 0).getLsbD 63)) ∧ (v < 2 ^
      64 → ((nth t.glean.cores core.val {}).overflow = x.overflow ∧ (nth t.glean.cores core.val {}).events = x.events)) ∧ (nth
      t.glean.cores core.val {}).mcycle = x.mcycle + BitVec.ofNat 64 run.cycles ∧ (nth t.glean.cores core.val {}).minstret =
      x.minstret + BitVec.ofNat 64 run.retired ∧ t.regs = s.regs ∧ t.mem = s.mem)

/-- O53. A vote write changes only its path's bits; a first vote on a sleeping domain that has not failed wakes it with ATTEMPTS 1,
and one on an ON domain stops its drop timer; the last vote withdrawn starts the timer. Its expiry fences the domain, which then
takes DROP_STATE: REST keeps its RW fields, OFF loses them. WAKE_COMPLETE gives ON, once the voltage is done and no gap runs. A
failed step waits 10 ms and is tried again; the fourth failure sets FAILED with CAUSE, records PWR_FAIL and raises WAKE_FAIL with
its event. WAKE_RETRY wakes every FAILED domain, with none it is ignored and counted. DOMAIN_RESET goes through OFF, on an ON-only
domain does nothing. A mapped wake source with its target asleep is latched and votes; latched again it is coalesced. The wake
timer starts, stops and fires. Concludes exec = next, on conditions on state and operands alone, with the own effect of:
voteWrite, dropTimerExpired, fenceComplete, wakeComplete, wakeStepFail, wakeRetryGapExpired, wakeRetry, domainReset,
wakeSourceFired, wakeTimerWrite, wakeTimerExpired. -/
def Obligations.DomainsFollowTable163 : Prop :=
  (∀ (s : State) (path : Path) (domain : Fin 27) (value : Word), s.mayWrite path (R.PWR_VOTE domain) → ∃ t, exec (.voteWrite path
      domain value) s = .next t ∧ t.get (F.PWR_VOTE.VOTES domain) = ((s.get (F.PWR_VOTE.VOTES domain) &&& (0xFF ^^^ voteMask path))
      ||| (bitsOf value 7 0 &&& voteMask path)) ∧ (path ≠ .plough ∨ (s.get (F.PWR_VOTE.VOTES domain) ^^^ bitsOf value 7 0) &&& 0x4D =
      0 → s.keepsRegs t [R.PWR_VOTE domain, R.PWR_DOM_STATUS domain]) ∧ (path = .plough → (s.get (F.PWR_VOTE.VOTES domain) ^^^ bitsOf
      value 7 0) &&& 0x4D ≠ 0 → t.get (F.CPU_COUNT.ALIAS_DROPPED) = min (F.CPU_COUNT.ALIAS_DROPPED).top (s.get
      (F.CPU_COUNT.ALIAS_DROPPED) + 1)) ∧ t.mem = s.mem)
  ∧ (∀ (s : State) (domain : Fin 27) (value : Word), s.mayWrite .cxl (R.PWR_VOTE domain) → onOnly domain = false → bitsOf value 2 2 =
      1 → s.domState domain ≤ 2 → s.on (F.PWR_DOM_STATUS.FAILED domain) = false → s.on F.PWR_STATUS.HALTED = false → ∃ t, exec
      (.voteWrite .cxl domain value) s = .next t ∧ t.domState domain = 4 ∧ t.get (F.PWR_DOM_STATUS.ATTEMPTS domain) = 1)
  ∧ (∀ (s : State) (domain : Fin 27) (value : Word), s.mayWrite .cxl (R.PWR_VOTE domain) → onOnly domain = false → s.domState domain =
      3 → s.get (F.PWR_VOTE.VOTES domain) = 4 → bitsOf value 2 2 = 0 → ∃ t, exec (.voteWrite .cxl domain value) s = .next t ∧
      domain.val ∈ t.power.dropTimers ∧ t.domState domain = 3 ∧ s.keepsRegs t [R.PWR_VOTE domain])
  ∧ (∀ (s : State) (domain : Fin 27) (value : Word), s.mayWrite .cxl (R.PWR_VOTE domain) → onOnly domain = false → s.domState domain =
      3 → bitsOf value 2 2 = 1 → ∃ t, exec (.voteWrite .cxl domain value) s = .next t ∧ domain.val ∉ t.power.dropTimers ∧ t.domState
      domain = 3)
  ∧ (∀ (s : State) (domain : Fin 27), s.power.dropTimers.contains domain.val = true → s.domOn domain = true → ∃ t, exec
      (.dropTimerExpired domain) s = .next t ∧ t.domState domain = 5 ∧ domain.val ∉ t.power.dropTimers ∧ s.keepsRegs t
      [R.PWR_DOM_STATUS domain])
  ∧ (∀ (s : State) (domain : Fin 27), s.power.dropTimers.contains domain.val = false → ∃ t, exec (.dropTimerExpired domain) s = .next
      t ∧ t = s)
  ∧ (∀ (s : State) (domain : Fin 27), s.domState domain = 5 → s.get (F.PWR_VOTE.VOTES domain) = 0 → ∃ t, exec (.fenceComplete domain)
      s = .next t ∧ t.domState domain = dropTarget (s.get (F.PWR_DOM_CFG.DROP_STATE domain)) ∧ (s.get (F.PWR_DOM_CFG.DROP_STATE
      domain) = 0 → s.keepsRegs t [R.PWR_DOM_STATUS domain]) ∧ t.mem = s.mem)
  ∧ (∀ (s : State) (p : Fin 16), s.domState 25 = 5 → s.get (F.PWR_VOTE.VOTES 25) = 0 → s.get (F.PWR_DOM_CFG.DROP_STATE 25) = 1 →
      s.regsCanonical = true → ∃ t, exec (.fenceComplete 25) s = .next t ∧ t.domState 25 = 1 ∧ t.get (F.CLIENT_CTRL.LOOP p) = s.get
      (F.CLIENT_CTRL.LOOP p))
  ∧ (∀ (s : State) (p : Fin 16), s.domState 25 = 5 → s.get (F.PWR_VOTE.VOTES 25) = 0 → 2 ≤ s.get (F.PWR_DOM_CFG.DROP_STATE 25) →
      s.regsCanonical = true → ∃ t, exec (.fenceComplete 25) s = .next t ∧ t.domState 25 = 0 ∧ t.get (F.CLIENT_CTRL.LOOP p) = 0)
  ∧ (∀ (s : State) (domain : Fin 27), s.power.shutWaits = false → s.mgrInbox = [] → s.domState domain = 4 → s.voltPending domain =
      false → s.power.gaps.contains domain.val = false → s.power.latched = [] → s.power.resets = [] → s.get (F.PWR_VOTE.VOTES domain)
      ≠ 0 → ∃ t, exec (.wakeComplete domain) s = .next t ∧ t.domState domain = 3 ∧ t.power.dropTimers = s.power.dropTimers)
  ∧ (∀ (s : State) (domain : Fin 27), s.power.shutWaits = false → s.mgrInbox = [] → s.domState domain = 4 → s.voltPending domain =
      true ∨ s.power.gaps.contains domain.val = true → ∃ t, exec (.wakeComplete domain) s = .next t ∧ t = s)
  ∧ (∀ (s : State) (domain : Fin 27) (cause : WakeCause), s.power.shutWaits = false → s.mgrInbox = [] → s.domState domain = 4 → 3 ≤
      causeCode cause → s.voltPending domain = false → s.power.gaps.contains domain.val = false → s.get (F.PWR_DOM_STATUS.ATTEMPTS
      domain) < 4 → ∃ t, exec (.wakeStepFail domain cause) s = .next t ∧ t.domState domain = 4 ∧ domain.val ∈ t.power.gaps ∧ t.regs =
      s.regs)
  ∧ (∀ (s : State) (domain : Fin 27) (cause : WakeCause) (port : Fin 2), s.power.shutWaits = false → s.mgrInbox = [] → s.domState
      domain = 4 → causeCode cause ≤ 2 → avsPort domain = some port.val → s.avsFront port = some (.wake domain.val) → s.get
      (F.PWR_DOM_STATUS.ATTEMPTS domain) < 4 → ∃ t, exec (.wakeStepFail domain cause) s = .next t ∧ t.domState domain = 4 ∧ domain.val
      ∈ t.power.gaps ∧ (causeCode cause = 1 → t.get (F.PWR_AVS.NOACKS port) = min (F.PWR_AVS.NOACKS port).top (s.get (F.PWR_AVS.NOACKS
      port) + 1)) ∧ (causeCode cause = 2 → t.get (F.PWR_AVS.NAKS port) = min (F.PWR_AVS.NAKS port).top (s.get (F.PWR_AVS.NAKS port) +
      1)) ∧ s.keepsRegs t [R.PWR_AVS port])
  ∧ (∀ (s : State) (domain : Fin 27) (cause : WakeCause), s.power.shutWaits = false → s.mgrInbox = [] → s.voltPending domain = false →
      causeCode cause ≤ 2 ∨ s.power.gaps.contains domain.val = true → ∃ t, exec (.wakeStepFail domain cause) s = .next t ∧ t = s)
  ∧ (∀ (s : State) (domain : Fin 27) (cause : WakeCause), s.power.shutWaits = false → s.mgrInbox = [] → s.domState domain = 4 → 3 ≤
      causeCode cause → s.voltPending domain = false → s.power.gaps.contains domain.val = false → s.get (F.PWR_DOM_STATUS.ATTEMPTS
      domain) = 4 → s.power.resets = [] → onOnly domain = false → ∃ t, exec (.wakeStepFail domain cause) s = .next t ∧ t.domState
      domain = (if Store.read (fun _ => 0) s.power.wakingFrom domain = 0 then 0 else 1) ∧ t.on (F.PWR_DOM_STATUS.FAILED domain) = true
      ∧ t.get (F.PWR_DOM_STATUS.CAUSE domain) = causeCode cause ∧ t.get F.PWR_FAIL.DOMAIN = domain ∧ t.get F.PWR_FAIL.CAUSE =
      causeCode cause ∧ t.get F.PWR_FAIL.ATTEMPTS = 4 ∧ t.get (F.PWR_FAIL.FAILS) = min (F.PWR_FAIL.FAILS).top (s.get
      (F.PWR_FAIL.FAILS) + 1) ∧ t.flag 0x22 0 = true ∧ .event (0x2210 + causeCode cause) ∈ t.sent)
  ∧ (∀ (s : State) (domain : Fin 27), s.domState domain = 4 → s.power.gaps.contains domain.val = true → s.get
      (F.PWR_DOM_STATUS.ATTEMPTS domain) < 4 → ∃ t, exec (.wakeRetryGapExpired domain) s = .next t ∧ t.domState domain = 4 ∧ t.get
      (F.PWR_DOM_STATUS.ATTEMPTS domain) = s.get (F.PWR_DOM_STATUS.ATTEMPTS domain) + 1 ∧ domain.val ∉ t.power.gaps ∧ s.keepsRegs t
      [R.PWR_DOM_STATUS domain])
  ∧ (∀ (s : State) (path : Path) (domain : Fin 27), s.mayWriteRws path R.PWR_CTRL 1 → s.failedDomains = [domain.val] → s.domState
      domain ≤ 2 → s.on F.PWR_STATUS.HALTED = false → ∃ t, exec (.wakeRetry path) s = .next t ∧ t.domState domain = 4 ∧ t.on
      (F.PWR_DOM_STATUS.FAILED domain) = false ∧ t.get (F.PWR_DOM_STATUS.ATTEMPTS domain) = 1 ∧ s.keepsRegs t [R.PWR_DOM_STATUS
      domain])
  ∧ (∀ (s : State) (path : Path), s.mayWriteRws path R.PWR_CTRL 1 → s.failedDomains = [] → ∃ t, exec (.wakeRetry path) s = .next t ∧ t
      = s.bump F.PWR_STATUS.IGNORED)
  ∧ (∀ (s : State) (path : Path) (domain : Fin 27), s.mayWriteRws path (R.PWR_DOM_CFG domain) 1 → onOnly domain = false → s.domState
      domain ≠ 4 → s.get (F.PWR_VOTE.VOTES domain) = 0 → ∃ t, exec (.domainReset path domain) s = .next t ∧ t.domState domain = 0 ∧
      t.on (F.PWR_DOM_STATUS.FAILED domain) = s.on (F.PWR_DOM_STATUS.FAILED domain) ∧ domain.val ∉ t.power.dropTimers)
  ∧ (∀ (s : State) (path : Path) (domain : Fin 27), s.mayWriteRws path (R.PWR_DOM_CFG domain) 1 → onOnly domain = true → ∃ t, exec
      (.domainReset path domain) s = .next t ∧ t = s)
  ∧ (∀ (s : State) (source : Fin 8) (d : Nat), s.on (F.PWR_WAKE_MAP.EN source) = true → d = s.get (F.PWR_WAKE_MAP.DOMAIN source) → 3 ≤
      d → d ≤ 25 → s.domState d ≤ 2 → s.on (F.PWR_DOM_STATUS.FAILED d) = false → s.on F.PWR_STATUS.HALTED = false → s.on
      ⟨R.PWR_WAKE_LATCH, source, source⟩ = false → ∃ t, exec (.wakeSourceFired source) s = .next t ∧ t.on ⟨R.PWR_WAKE_LATCH, source,
      source⟩ = true ∧ t.domState d = 4 ∧ t.get (F.PWR_VOTE.VOTES d) / 2 ^ s.get (F.PWR_WAKE_MAP.CLIENT source) % 2 = 1 ∧ t.get
      (F.PWR_WAKE_COUNT.WAKES) = min (F.PWR_WAKE_COUNT.WAKES).top (s.get (F.PWR_WAKE_COUNT.WAKES) + 1) ∧ t.power.latched =
      s.power.latched ++ [⟨source, .nothing⟩])
  ∧ (∀ (s : State) (source : Fin 8) (d : Nat), s.on (F.PWR_WAKE_MAP.EN source) = true → d = s.get (F.PWR_WAKE_MAP.DOMAIN source) →
      s.domOn d = false → s.on ⟨R.PWR_WAKE_LATCH, source, source⟩ = true → ∃ t, exec (.wakeSourceFired source) s = .next t ∧ t.get
      (F.PWR_WAKE_COUNT.COALESCED) = min (F.PWR_WAKE_COUNT.COALESCED).top (s.get (F.PWR_WAKE_COUNT.COALESCED) + 1) ∧ t.power.latched =
      s.power.latched)
  ∧ (∀ (s : State) (source : Fin 8), s.on (F.PWR_WAKE_MAP.EN source) = false → ∃ t, exec (.wakeSourceFired source) s = .next t ∧ t =
      s)
  ∧ (∀ (s : State) (path : Path) (value : Word), s.mayWrite path R.PWR_WAKE_TIMER → ∃ t, exec (.wakeTimerWrite path value) s = .next t
      ∧ t.on F.PWR_WAKE_TIMER.EN = value.getLsbD 31 ∧ t.get F.PWR_WAKE_TIMER.MS = max 1 (bitsOf value 23 0) ∧ s.onlyRegs t
      [R.PWR_WAKE_TIMER])
  ∧ (∀ (s : State), s.on F.PWR_WAKE_TIMER.EN = true → s.on (F.PWR_WAKE_MAP.EN 5) = false → ∃ t, exec (.wakeTimerExpired) s = .next t ∧
      t.on F.PWR_WAKE_TIMER.EN = false ∧ s.onlyRegs t [R.PWR_WAKE_TIMER])

/-- O54. PL_REQUEST clamps the level to MIN; with no change running and a level other than the one in force it sets BUSY and asks
AVS0, a slower level taking the divider first; BUSY, it is stored. Voltage-done records the reading and puts the level in force
with PL_DONE; a failed step is retried 10 ms later, three times, then PL_FAIL is raised with event 0x2202 and BUSY cleared.
Failures are counted per port; a wake's failed step acts as a failed wake step. A retry asks the port again. Concludes exec =
next, on conditions on state and operands alone, with the own effect of: plRequest, avsVoltageDone, avsAckTimeout, avsErrorAck,
plRetry. -/
def Obligations.LevelsFollowR330R331 : Prop :=
  (∀ (s : State) (path : Path) (level : Fin 4) (r : Nat), s.mayWrite path R.PWR_PL → s.on F.PWR_PL.BUSY = false → r = min level.val
      (s.get F.PWR_PL.MIN) → r ≠ s.level → ∃ t, exec (.plRequest path level) s = .next t ∧ t.get F.PWR_PL.REQUEST = r ∧ t.on
      F.PWR_PL.BUSY = true ∧ t.level = max s.level r ∧ t.power.plTarget = r ∧ t.power.avs = s.power.avs ++ [(0, .level)] ∧ (s.avsFront
      0 = none → .avsWrite 0 (s.levelVolts r) ∈ t.sent) ∧ s.keepsRegs t [R.PWR_PL])
  ∧ (∀ (s : State) (path : Path) (level : Fin 4), s.mayWrite path R.PWR_PL → s.on F.PWR_PL.BUSY = true → ∃ t, exec (.plRequest path
      level) s = .next t ∧ t.get F.PWR_PL.REQUEST = min level.val (s.get F.PWR_PL.MIN) ∧ t.level = s.level ∧ t.power = s.power ∧
      s.onlyRegs t [R.PWR_PL])
  ∧ (∀ (s : State) (port : Fin 2) (mv : Fin 4096), s.avsFront port = some .level → s.power.plTarget < 4 → s.get F.PWR_PL.REQUEST =
      s.power.plTarget → ∃ t, exec (.avsVoltageDone port mv) s = .next t ∧ t.level = s.power.plTarget ∧ t.on F.PWR_PL.BUSY = false ∧
      t.get (F.PWR_AVS.MV port) = mv ∧ t.flag 0x22 4 = true ∧ s.keepsRegs t [R.PWR_PL, R.PWR_AVS port])
  ∧ (∀ (s : State) (port : Fin 2) (d : Nat) (mv : Fin 4096), s.avsFront port = some (.wake d) → ∃ t, exec (.avsVoltageDone port mv) s
      = .next t ∧ t.get (F.PWR_AVS.MV port) = mv ∧ s.keepsRegs t [R.PWR_AVS port])
  ∧ (∀ (s : State) (port : Fin 2), s.power.shutWaits = false → s.avsFront port = some .level → s.power.plFails < 3 → ∃ t, exec
      (.avsAckTimeout port) s = .next t ∧ t.power.plGap = true ∧ t.power.plFails = s.power.plFails + 1 ∧ t.get (F.PWR_AVS.NOACKS port)
      = min (F.PWR_AVS.NOACKS port).top (s.get (F.PWR_AVS.NOACKS port) + 1) ∧ s.keepsRegs t [R.PWR_AVS port])
  ∧ (∀ (s : State) (port : Fin 2), s.power.shutWaits = false → s.avsFront port = some .level → 3 ≤ s.power.plFails → s.get
      F.PWR_PL.REQUEST = s.power.plTarget → ∃ t, exec (.avsErrorAck port) s = .next t ∧ t.on F.PWR_PL.BUSY = false ∧ t.level = s.level
      ∧ t.flag 0x22 1 = true ∧ .event 0x2202 ∈ t.sent ∧ t.get (F.PWR_AVS.NAKS port) = min (F.PWR_AVS.NAKS port).top (s.get
      (F.PWR_AVS.NAKS port) + 1) ∧ s.keepsRegs t [R.PWR_AVS port, R.PWR_PL])
  ∧ (∀ (s : State) (port : Fin 2) (d : Fin 27), s.power.shutWaits = false → s.avsFront port = some (.wake d.val) → s.domState d = 4 →
      s.get (F.PWR_DOM_STATUS.ATTEMPTS d) < 4 → ∃ t, exec (.avsAckTimeout port) s = .next t ∧ d.val ∈ t.power.gaps ∧ t.domState d = 4
      ∧ t.get (F.PWR_AVS.NOACKS port) = min (F.PWR_AVS.NOACKS port).top (s.get (F.PWR_AVS.NOACKS port) + 1) ∧ s.keepsRegs t [R.PWR_AVS
      port])
  ∧ (∀ (s : State), s.power.plGap = true → ∃ t, exec (.plRetry) s = .next t ∧ t.power.plGap = false ∧ t.power.avs = s.power.avs ++
      [(0, .level)] ∧ t.regs = s.regs)

/-- O55. SHUTDOWN with no cold apply and no wake running sets SHUTTING, puts every loop OFF and every precision output to its safe
value; one that must wait is kept; one while SHUTTING or HALTED is ignored and counted. With BIST_SKIP the end of the seed store
writes halts the part: HALTED, no domain but the four that are only ON stays up, votes but Hedge's gone. POR, RESET_N and
WARM_RESET reset the part and then boot it: before the boot RESET_CAUSE is set, every session closed and the local clock as at
reset; the wake timer is kept by a warm reset and cleared by POR; the memories are empty after it. Every reset keeps revocations,
fuses and plan slots, but POR leaves a rollback count that it finds being burnt between its old and new value; a warm one keeps
vote bits 2 and 3. Which state a boot starts in is log 16. Concludes exec = next, on conditions on state and operands alone, with
the own effect of: shutdown, seedStoreWritesDone, por, resetN, warmReset. -/
def Obligations.ShutDownAndResetsFollowR334R336 : Prop :=
  (∀ (s : State) (path : Path), s.mayWriteRws path R.PWR_CTRL 1 → s.shut = false → s.shutHeld = false → ∃ t, exec (.shutdown path) s =
      .next t ∧ t.on F.PWR_STATUS.SHUTTING = true ∧ (∀ n : Fin 16, t.loopState n = 0) ∧ (∀ k : Fin 20, t.heldSafe k = true) ∧ (∀ k :
      Fin 8, t.on (F.CPU_TASK.RUNNING k) = false) ∧ t.mem = s.mem)
  ∧ (∀ (s : State) (path : Path), s.mayWriteRws path R.PWR_CTRL 1 → s.shut = false → s.shutHeld = true → ∃ t, exec (.shutdown path) s
      = .next t ∧ t.power.shutWaits = true ∧ t.regs = s.regs)
  ∧ (∀ (s : State) (path : Path), s.mayWriteRws path R.PWR_CTRL 1 → s.shut = true → ∃ t, exec (.shutdown path) s = .next t ∧ t =
      s.bump F.PWR_STATUS.IGNORED)
  ∧ (∀ (s : State), s.on F.PWR_STATUS.SHUTTING = true → s.power.shutTests = false → s.cal.stores = [] → s.shutTesting = false → ∃ t,
      exec (.seedStoreWritesDone) s = .next t ∧ t.on F.PWR_STATUS.HALTED = true ∧ t.on F.PWR_STATUS.SHUTTING = false ∧ (∀ d : Fin 27,
      3 ≤ d.val → d.val ≤ 25 → t.domState d = 0) ∧ (∀ d : Fin 27, t.get (F.PWR_VOTE.VOTES d) ≤ 1) ∧ t.cpu = 0)
  ∧ (∀ (s : State) (test : BootTest), ∃ t, exec (.por test) s = .next t ∧ t = (s.coldReset).boot test ∧ (s.coldReset).get
      F.PWR_STATUS.RESET_CAUSE = 0 ∧ (∀ p : Fin 4, (s.coldReset).on (F.SEC_SESSION.OPEN p) = false) ∧ (s.coldReset).on
      F.PWR_STATUS.HALTED = false ∧ (s.coldReset).clock = State.reset.clock ∧ (s.coldReset).rd R.PWR_WAKE_TIMER = 0 ∧ t.mem.words = []
      ∧ t.sec.revoked = s.sec.revoked ∧ (s.sec.burning = none → t.sec.fuses = s.sec.fuses) ∧ t.bist.rowFuses.take
      s.bist.rowFuses.length = s.bist.rowFuses ∧ (s.bist.fusing = none → t.bist.rowFuses = s.bist.rowFuses) ∧ (s.bufState ≠ 7 →
      t.plan.slots = s.plan.slots))
  ∧ (∀ (s : State) (test : BootTest), ∃ t, exec (.resetN test) s = .next t ∧ t = (s.warmReset 1 test.reached).boot test ∧ (s.warmReset
      1 test.reached).get F.PWR_STATUS.RESET_CAUSE = 1 ∧ (∀ p : Fin 4, (s.warmReset 1 test.reached).on (F.SEC_SESSION.OPEN p) = false)
      ∧ (s.warmReset 1 test.reached).on F.PWR_STATUS.HALTED = false ∧ (s.warmReset 1 test.reached).clock = State.reset.clock ∧
      (s.warmReset 1 test.reached).rd R.PWR_WAKE_TIMER = s.rd R.PWR_WAKE_TIMER ∧ t.mem.words = [] ∧ t.sec.revoked = s.sec.revoked ∧
      t.sec.fuses = s.sec.fuses ∧ t.bist.rowFuses.take s.bist.rowFuses.length = s.bist.rowFuses ∧ (s.bist.fusing = none →
      t.bist.rowFuses = s.bist.rowFuses) ∧ (s.bufState ≠ 7 → t.plan.slots = s.plan.slots))
  ∧ (∀ (s : State) (test : BootTest) (path : Path), s.mayWriteRws path R.PWR_CTRL 1 → ∃ t, exec (.warmReset path test) s = .next t ∧ t
      = (s.warmReset 2 test.reached).boot test ∧ (s.warmReset 2 test.reached).get F.PWR_STATUS.RESET_CAUSE = 2 ∧ (∀ p : Fin 4,
      (s.warmReset 2 test.reached).on (F.SEC_SESSION.OPEN p) = false) ∧ (s.warmReset 2 test.reached).on F.PWR_STATUS.HALTED = false ∧
      (s.warmReset 2 test.reached).clock = State.reset.clock ∧ (s.warmReset 2 test.reached).rd R.PWR_WAKE_TIMER = s.rd
      R.PWR_WAKE_TIMER ∧ t.mem.words = [] ∧ t.sec.revoked = s.sec.revoked ∧ t.sec.fuses = s.sec.fuses ∧ t.bist.rowFuses.take
      s.bist.rowFuses.length = s.bist.rowFuses ∧ (s.bist.fusing = none → t.bist.rowFuses = s.bist.rowFuses) ∧ (s.bufState ≠ 7 →
      t.plan.slots = s.plan.slots))
  ∧ (∀ (s : State) (test : BootTest) (kind old left : Nat), s.sec.burning = some (kind, old, left) → kind < s.sec.fuses.length → old ≤
      nth s.sec.fuses kind 0 → ∃ t, exec (.por test) s = .next t ∧ old ≤ nth t.sec.fuses kind 0 ∧ nth t.sec.fuses kind 0 ≤ nth
      s.sec.fuses kind 0 ∧ t.sec.revoked = s.sec.revoked)
  ∧ (∀ (s : State) (cause : Fin 3) (reached : List BistReport) (d : Fin 27), s.power.latched = [] → (s.warmReset cause reached).get
      (F.PWR_VOTE.VOTES d) = s.get (F.PWR_VOTE.VOTES d) &&& 0x0C)

/-- O56. A command on a reserved slot is refused with REASON 5; RUN while a RUN or STORE runs with 1, outside LINE_TEST with 2; else
it measures. Its measurement raises RUN_DONE; a body that passes R346 is moved towards, one that fails is reported with REASON 3
and FIELD and the values in use are kept. STORE takes the values now in the registers; the written record goes to the copy not in
use, with the next SEQ (1 for a slot without a record), and is then the record in use; a failed read-back erases that copy, gives
REASON 4 and keeps the record in use. RELOAD takes the newer copy if it passes, else the older with IMPLAUSIBLE, else the slot
reads MISSING. A step moves each sub-converter's entry by one unit and each housekeeping pair by 16 and 64 units, and does nothing
for a HOST_LANE record or without a movement. A tracking estimate moves the interleave while BG_EN is set and the carrier tracks,
and is stored only when TEMP_DELTA and MIN_HOURS since the last such store allow. Concludes exec = next, on conditions on state
and operands alone, with the own effect of: calRun, calRunDone, calStore, calStoreDone, calReload, calGradualStep,
bgTrackEstimate. -/
def Obligations.CalibrationFollowsR344ToR350 : Prop :=
  (∀ (s : State) (path : Path) (slot : Fin 32), s.mayWriteRws path R.CAL_CMD 2 → calType slot = 0 → ∃ t, exec (.calRun path slot) s =
      .next t ∧ t.get F.CAL_STATUS.REASON = 5 ∧ t.get F.CAL_STATUS.SLOT = slot ∧ s.onlyRegs t [R.CAL_CMD, R.CAL_STATUS])
  ∧ (∀ (s : State) (path : Path) (slot : Fin 32), s.mayWriteRws path R.CAL_CMD 2 → calType slot ≠ 0 → s.shut = true ∨ s.calBusy ≠ 0 →
      ∃ t, exec (.calRun path slot) s = .next t ∧ t.get F.CAL_STATUS.REASON = 1 ∧ t.get F.CAL_STATUS.SLOT = slot ∧ s.onlyRegs t
      [R.CAL_CMD, R.CAL_STATUS])
  ∧ (∀ (s : State) (path : Path) (slot : Fin 32), s.mayWriteRws path R.CAL_CMD 2 → calType slot ≠ 0 → s.shut = false → s.calBusy = 0 →
      s.mode ≠ 6 → ∃ t, exec (.calRun path slot) s = .next t ∧ t.get F.CAL_STATUS.REASON = 2 ∧ t.get F.CAL_STATUS.SLOT = slot ∧
      s.onlyRegs t [R.CAL_CMD, R.CAL_STATUS])
  ∧ (∀ (s : State) (path : Path) (slot : Fin 32), s.mayWriteRws path R.CAL_CMD 2 → calType slot ≠ 0 → s.shut = false → s.calBusy = 0 →
      s.mode = 6 → ∃ t, exec (.calRun path slot) s = .next t ∧ t.calBusy = 1 ∧ t.cal.running = slot ∧ s.keepsRegs t [R.CAL_CMD,
      R.CAL_STATUS] ∧ t.mem = s.mem ∧ t.cal.copyA = s.cal.copyA ∧ t.cal.copyB = s.cal.copyB)
  ∧ (∀ (s : State) (body : List Byte) (slot : Fin 32), s.calBusy = 1 → slot.val = s.cal.running → body.length = calLen (calType slot)
      → calFault slot body = none → ∃ t, exec (.calRunDone body) s = .next t ∧ t.calBusy = (if s.cal.stores.isEmpty then 0 else 2) ∧
      t.cal.target = s.cal.target.set slot (some body) ∧ t.on (F.CAL_SLOT.MOVING slot) = true ∧ slot.val ∈ t.cal.measured ∧ t.flag
      0x23 4 = true ∧ t.cal.copyA = s.cal.copyA ∧ t.cal.copyB = s.cal.copyB)
  ∧ (∀ (s : State) (body : List Byte) (slot : Fin 32) (at1 : Nat), s.calBusy = 1 → slot.val = s.cal.running → body.length = calLen
      (calType slot) → calFault slot body = some at1 → ∃ t, exec (.calRunDone body) s = .next t ∧ t.cal.target = s.cal.target ∧ t.get
      F.CAL_STATUS.SLOT = slot ∧ t.get F.CAL_STATUS.FIELD = at1 % 65536 ∧ t.flag 0x23 4 = true ∧ s.keepsRegs t [R.CAL_STATUS] ∧ t.get
      F.CAL_STATUS.REASON = 3 ∧ t.flag 0x23 1 = true ∧ .event 0x2302 ∈ t.sent)
  ∧ (∀ (s : State) (body : List Byte), s.calBusy ≠ 1 → ∃ t, exec (.calRunDone body) s = .next t ∧ t = s)
  ∧ (∀ (s : State) (path : Path) (slot : Fin 32) (temp : Int) (quality : Nat), s.mayWriteRws path R.CAL_CMD 2 → calType slot ≠ 0 →
      s.shut = false → calFault slot (s.calCapture slot) = none → ∃ t, exec (.calStore path slot temp quality) s = .next t ∧
      t.cal.stores = s.cal.stores ++ [⟨slot, if s.cal.measured.contains slot.val then 0 else 2, temp, quality, s.calCapture slot⟩] ∧
      t.calBusy = (if s.calBusy = 0 then 2 else s.calBusy) ∧ s.keepsRegs t [R.CAL_CMD, R.CAL_STATUS])
  ∧ (∀ (s : State) (path : Path) (slot : Fin 32) (temp : Int) (quality : Nat) (at1 : Nat), s.mayWriteRws path R.CAL_CMD 2 → calType
      slot ≠ 0 → s.shut = false → calFault slot (s.calCapture slot) = some at1 → ∃ t, exec (.calStore path slot temp quality) s =
      .next t ∧ t.cal = s.cal ∧ t.get F.CAL_STATUS.SLOT = slot ∧ t.get F.CAL_STATUS.FIELD = at1 % 65536 ∧ s.keepsRegs t [R.CAL_CMD,
      R.CAL_STATUS] ∧ t.get F.CAL_STATUS.REASON = 3 ∧ t.flag 0x23 1 = true ∧ .event 0x2302 ∈ t.sent)
  ∧ (∀ (s : State) (q : CalStore) (rest : List CalStore), s.cal.stores = q :: rest → q.slot < 32 → nth s.cal.used q.slot none ≠ some
      false → ∃ t, exec (.calStoreDone true) s = .next t ∧ t.cal.stores = rest ∧ t.cal.copyA = s.cal.copyA.set q.slot (calRecord
      q.slot (s.calNextSeq q.slot) q.source q.quality q.temp q.body) ∧ t.cal.copyB = s.cal.copyB ∧ t.get (F.CAL_SEQ.SEQ q.slot) = (if
      (nth s.cal.used q.slot none).isSome then (s.get (F.CAL_SEQ.SEQ q.slot) + 1) % 2 ^ 32 else 1) ∧ t.cal.used = s.cal.used.set
      q.slot (some false) ∧ t.on (F.CAL_SLOT.VALID_A q.slot) = true ∧ t.on (F.CAL_SLOT.USING_B q.slot) = false ∧ t.get
      (F.CAL_SLOT.SOURCE q.slot) = q.source % 4 ∧ t.flag 0x23 2 = true ∧ .event 0x2303 ∈ t.sent ∧ s.keepsRegs t [R.CAL_STATUS,
      R.CAL_SLOT q.slot, R.CAL_SEQ q.slot])
  ∧ (∀ (s : State) (q : CalStore) (rest : List CalStore), s.cal.stores = q :: rest → q.slot < 32 → nth s.cal.used q.slot none = some
      false → ∃ t, exec (.calStoreDone true) s = .next t ∧ t.cal.copyB = s.cal.copyB.set q.slot (calRecord q.slot (s.calNextSeq
      q.slot) q.source q.quality q.temp q.body) ∧ t.cal.copyA = s.cal.copyA ∧ t.get (F.CAL_SEQ.SEQ q.slot) = (s.get (F.CAL_SEQ.SEQ
      q.slot) + 1) % 2 ^ 32 ∧ t.on (F.CAL_SLOT.USING_B q.slot) = true ∧ t.flag 0x23 2 = true)
  ∧ (∀ (s : State) (q : CalStore) (rest : List CalStore), s.cal.stores = q :: rest → q.slot < 32 → nth s.cal.used q.slot none = some
      false → ∃ t, exec (.calStoreDone false) s = .next t ∧ t.cal.copyB = s.cal.copyB.set q.slot [] ∧ t.cal.copyA = s.cal.copyA ∧
      t.cal.used = s.cal.used ∧ t.get F.CAL_STATUS.REASON = 4 ∧ t.on (F.CAL_SLOT.VALID_B q.slot) = false ∧ t.get (F.CAL_SEQ.SEQ
      q.slot) = s.get (F.CAL_SEQ.SEQ q.slot) ∧ t.flag 0x23 3 = true ∧ .event 0x2304 ∈ t.sent)
  ∧ (∀ (s : State) (same : Bool), s.cal.stores = [] → ∃ t, exec (.calStoreDone same) s = .next t ∧ t = s)
  ∧ (∀ (s : State) (path : Path) (slot : Fin 32) (toB : Bool) (r : List Byte) (rest : List (Bool × List Byte)), s.mayWriteRws path
      R.CAL_CMD 2 → calType slot ≠ 0 → s.calCopies slot = (toB, r) :: rest → calFault slot (calBody slot r) = none → ∃ t, exec
      (.calReload path slot) s = .next t ∧ t.on (F.CAL_SLOT.USING_B slot) = toB ∧ t.on (F.CAL_SLOT.MISSING slot) = false ∧ t.on
      (F.CAL_SLOT.MOVING slot) = true ∧ t.cal.target = s.cal.target.set slot (some (calBody slot r)) ∧ t.get (F.CAL_SEQ.SEQ slot) =
      calSeq r % 2 ^ 32 ∧ t.cal.copyA = s.cal.copyA ∧ t.cal.copyB = s.cal.copyB)
  ∧ (∀ (s : State) (path : Path) (slot : Fin 32) (toB : Bool) (r q : List Byte) (at1 : Nat), s.mayWriteRws path R.CAL_CMD 2 → calType
      slot ≠ 0 → s.calCopies slot = [(toB, r), (!toB, q)] → calFault slot (calBody slot r) = some at1 → calFault slot (calBody slot q)
      = none → ∃ t, exec (.calReload path slot) s = .next t ∧ t.on (F.CAL_SLOT.USING_B slot) = !toB ∧ t.get (F.CAL_SEQ.SEQ slot) =
      calSeq q % 2 ^ 32 ∧ t.get F.CAL_STATUS.FIELD = at1 % 65536 ∧ t.get F.CAL_STATUS.REASON = 3 ∧ t.flag 0x23 1 = true ∧ .event
      0x2302 ∈ t.sent)
  ∧ (∀ (s : State) (path : Path) (slot : Fin 32), s.mayWriteRws path R.CAL_CMD 2 → calType slot ≠ 0 → (∀ p ∈ s.calCopies slot,
      (calFault slot (calBody slot p.2)).isSome = true) → ∃ t, exec (.calReload path slot) s = .next t ∧ t.on (F.CAL_SLOT.MISSING
      slot) = true ∧ t.cal.target = s.cal.target ∧ t.flag 0x23 0 = true ∧ .event 0x2301 ∈ t.sent)
  ∧ (∀ (s : State) (slot : Fin 32), nth s.cal.target slot none = none → ∃ t, exec (.calGradualStep slot) s = .next t ∧ t = s)
  ∧ (∀ (s : State) (slot : Fin 32), calType slot = 7 → ∃ t, exec (.calGradualStep slot) s = .next t ∧ t = s)
  ∧ (∀ (s : State) (slot : Fin 32) (body : List Byte) (il : List IlEntry), nth s.cal.target slot none = some body → slot.val < 4 → il
      = (List.range 1024).map (fun e => IlEntry.mk (stepTowards 1 (nth (nth s.cal.il slot []) e ⟨0, 0, 0⟩).ofs (ilEntry body e).ofs)
      (stepTowards 1 (nth (nth s.cal.il slot []) e ⟨0, 0, 0⟩).gain (ilEntry body e).gain) (stepTowards 1 (nth (nth s.cal.il slot []) e
      ⟨0, 0, 0⟩).skew (ilEntry body e).skew)) → ∃ t, exec (.calGradualStep slot) s = .next t ∧ t.cal.il = s.cal.il.set slot il ∧
      s.keepsRegs t [R.CAL_SLOT slot])
  ∧ (∀ (s : State) (body : List Byte) (j : Fin 128), nth s.cal.target 8 none = some body → ∃ t, exec (.calGradualStep 8) s = .next t ∧
      t.getS (F.HKADC_CAL_OFS.OFS j) = stepTowards 16 (s.getS (F.HKADC_CAL_OFS.OFS j)) (calSigned body (8 * j) 3) ∧ t.get
      (F.HKADC_CAL_G.G j) = (stepTowards 64 (s.get (F.HKADC_CAL_G.G j)) (leNat (slice body (8 * j + 4) 3))).toNat)
  ∧ (∀ (s : State) (slot : Fin 4) (body : List Byte) (quality : Nat) (temp : Int), (s.on F.CAL_BG.BG_EN = false ∨ (if slot.val < 2
      then s.rxState (Carrier.ofIdx (slot.val % 2)) ≠ 9 else s.txState (Carrier.ofIdx (slot.val % 2)) ≠ 2)) → ∃ t, exec
      (.bgTrackEstimate slot body quality temp) s = .next t ∧ t = s)
  ∧ (∀ (s : State) (slot : Fin 4) (body : List Byte) (quality : Nat) (temp : Int), s.on F.CAL_BG.BG_EN = true → (if slot.val < 2 then
      s.rxState (Carrier.ofIdx (slot.val % 2)) = 9 else s.txState (Carrier.ofIdx (slot.val % 2)) = 2) → s.shut = false → body.length =
      5120 → calFault slot body = none → ∃ t, exec (.bgTrackEstimate slot body quality temp) s = .next t ∧ t.cal.target =
      s.cal.target.set slot (some body) ∧ t.on (F.CAL_SLOT.MOVING (slot : Nat)) = true ∧ t.cal.stores = s.cal.stores ++ (if s.get
      F.CAL_BG.TEMP_DELTA ≤ (temp - nth s.cal.temp slot 0).natAbs ∧ (∀ n, nth s.cal.bgAge slot none = some n → 3600 * s.get
      F.CAL_BG.MIN_HOURS ≤ n) then [⟨slot, 1, temp, quality, body⟩] else []))

/-- O57. A unit stopped at its time limit is judged by R356: FAIL with a mismatch whatever its count, else PASS at the planned count,
else INCOMPLETE. At the end of the full test a unit under test that nothing was reported of passes, one reported with a mismatch
fails and raises UNIT_FAIL with its number, and Hedge's votes are withdrawn. The written results become the record, unless the
read-back differed, and HALTED follows, or after RUN a warm reset. RUN asks for a shut-down that tests; HARD_REPAIR fuses the soft
row repairs, HARD_FALLOW the unit given, up to the free entries; with none free REPAIR_FULL is raised and nothing is burnt. While
a BIST runs RUN and HARD_REPAIR are ignored and counted. HARD_DONE burns what was begun. CLEAR_FALLOW clears the mark and no fuse.
A state that does not allow a command counts it in SEC_RWS_DROPPED. Concludes exec = next, on conditions on state and operands
alone, with the own effect of: bistUnitTimeout, bistComplete, bistResultsWritten, bistRun, hardRepair, hardFallow, hardDone,
clearFallow. -/
def Obligations.SelfTestFollowsR355ToR363 : Prop :=
  (∀ (s : State) (report : BistReport) (r : BistRecord), s.bistRuns = true → report.unit.val ∈ s.underTest → report.unit.val ∉
      s.bist.judged → s.bist.aon = some r → ∃ t, exec (.bistUnitTimeout report) s = .next t ∧ entryResult (t.results.entry
      report.unit) = (if report.bad.isEmpty = false ∨ report.spareBad = true then 2 else if planned false report.unit ≤ report.count
      then 1 else 3) ∧ report.unit.val ∈ t.bist.judged ∧ (report.unit.val < 134 → t.get F.BIST_STATUS.STATE = 2) ∧ s.keepsRegs t
      [R.BIST_STATUS] ∧ t.bist.record = s.bist.record)
  ∧ (∀ (s : State) (report : BistReport) (r : BistRecord), s.bistRuns = true → report.unit.val ∈ s.underTest → report.unit.val ∉
      s.bist.judged → s.bist.aon = some r → report.bad ≠ [] → ∃ t, exec (.bistUnitTimeout report) s = .next t ∧ entryResult
      (t.results.entry report.unit) = 2)
  ∧ (∀ (s : State) (report : BistReport), s.bistRuns = false ∨ report.unit.val ∉ s.underTest ∨ report.unit.val ∈ s.bist.judged → ∃ t,
      exec (.bistUnitTimeout report) s = .next t ∧ t = s)
  ∧ (∀ (s : State) (u : Fin 916) (d : Fin 27) (r : BistRecord), s.bistRuns = true → s.bist.aon = some r → s.bist.judged = [] → u.val ∈
      s.underTest → 3 ≤ d.val → d.val ≤ 25 → ∃ t, exec (.bistComplete []) s = .next t ∧ t.get F.BIST_STATUS.STATE = 3 ∧ entryResult
      (t.results.entry u) = 1 ∧ t.get (F.PWR_VOTE.VOTES d) % 2 = 0)
  ∧ (∀ (s : State) (report : BistReport) (r : BistRecord), s.bistRuns = true → s.bist.aon = some r → s.bist.judged = [] →
      report.unit.val ∈ s.underTest → report.bad ≠ [] → ∃ t, exec (.bistComplete [report]) s = .next t ∧ t.get F.BIST_STATUS.STATE = 3
      ∧ entryResult (t.results.entry report.unit) = 2 ∧ t.flag 0x24 2 = true ∧ .event 0x2403 ∈ t.sent ∧ .detail report.unit ∈ t.sent)
  ∧ (∀ (s : State) (reports : List BistReport), s.bistRuns = false → ∃ t, exec (.bistComplete reports) s = .next t ∧ t = s)
  ∧ (∀ (s : State) (same : Bool) (test : BootTest), s.get F.BIST_STATUS.STATE ≠ 3 → ∃ t, exec (.bistResultsWritten same test) s =
      .next t ∧ t = s)
  ∧ (∀ (s : State) (same : Bool) (test : BootTest), s.get F.BIST_STATUS.STATE = 3 → s.power.shutRun = false → ∃ t, exec
      (.bistResultsWritten same test) s = .next t ∧ t.on F.PWR_STATUS.HALTED = true ∧ t.get F.BIST_STATUS.STATE = 0 ∧ t.bist.record =
      (if same then (s.bist.aon <|> s.bist.record) else s.bist.record) ∧ t.bist.rowFuses = s.bist.rowFuses ∧ (∀ d : Fin 27, 3 ≤ d.val
      → d.val ≤ 25 → t.domState d = 0))
  ∧ (∀ (s : State) (same : Bool) (test : BootTest), s.get F.BIST_STATUS.STATE = 3 → s.power.shutRun = true → ∃ t, exec
      (.bistResultsWritten same test) s = .next t ∧ t = ((s.bistWritten same).warmReset 2 test.reached).boot test ∧ (s.bistWritten
      same).bist.record = (if same then (s.bist.aon <|> s.bist.record) else s.bist.record) ∧ t.bist.rowFuses.take
      s.bist.rowFuses.length = s.bist.rowFuses)
  ∧ (∀ (s : State) (path : Path) (least : Nat), bistRole s.lifeCycle true = some least → s.mayWriteRws path R.BIST_CTRL least →
      s.bistRuns = false → s.bist.fusing = none → s.shut = false → s.shutHeld = false → ∃ t, exec (.bistRun path) s = .next t ∧ t.on
      F.PWR_STATUS.SHUTTING = true ∧ t.power.shutRun = true ∧ t.power.shutSkips = (s.power.shutWaits && s.power.shutSkips) ∧ (∀ n :
      Fin 16, t.loopState n = 0))
  ∧ (∀ (s : State) (path : Path) (least : Nat), bistRole s.lifeCycle true = some least → s.mayWriteRws path R.BIST_CTRL least →
      s.bistRuns = true ∨ s.shut = true → ∃ t, exec (.bistRun path) s = .next t ∧ t = s.bump F.BIST_STATUS.IGNORED)
  ∧ (∀ (s : State) (path : Path) (least : Nat), bistRole s.lifeCycle false = some least → s.mayWriteRws path R.BIST_CTRL least →
      s.bistRuns = true → ∃ t, exec (.hardRepair path) s = .next t ∧ t = s.bump F.BIST_STATUS.IGNORED)
  ∧ (∀ (s : State) (path : Path) (least : Nat), bistRole s.lifeCycle false = some least → s.mayWriteRws path R.BIST_CTRL least → s.get
      F.BIST_STATUS.STATE = 0 → s.bist.fusing = none → s.bist.rowFuses.length < 64 → ∃ t, exec (.hardRepair path) s = .next t ∧ t.get
      F.BIST_STATUS.STATE = 4 ∧ t.bist.fusing = some (s.unfused.take (64 - s.bist.rowFuses.length), []) ∧ t.bist.rowFuses =
      s.bist.rowFuses ∧ s.keepsRegs t [R.BIST_STATUS])
  ∧ (∀ (s : State) (path : Path) (least : Nat), bistRole s.lifeCycle false = some least → s.mayWriteRws path R.BIST_CTRL least →
      s.bistRuns = false → s.bist.fusing = none → 64 ≤ s.bist.rowFuses.length → s.unfused ≠ [] → ∃ t, exec (.hardRepair path) s =
      .next t ∧ t.flag 0x24 5 = true ∧ .event 0x2406 ∈ t.sent ∧ t.bist = s.bist ∧ s.onlyRegs t [])
  ∧ (∀ (s : State) (path : Path) (least : Nat) (unit : Fin 1024), bistRole s.lifeCycle false = some least → s.mayWriteRws path
      R.BIST_CTRL least → s.get F.BIST_STATUS.STATE = 0 → s.bist.fusing = none → s.bist.fallowFuses.length < 32 → ∃ t, exec
      (.hardFallow path unit) s = .next t ∧ t.get F.BIST_CTRL.UNIT = min 915 unit.val ∧ t.get F.BIST_STATUS.STATE = 4 ∧ t.bist.fusing
      = some ([], if s.bist.fallowFuses.contains (min 915 unit.val) then [] else [min 915 unit.val]) ∧ t.bist.fallowFuses =
      s.bist.fallowFuses ∧ s.keepsRegs t [R.BIST_CTRL, R.BIST_STATUS])
  ∧ (∀ (s : State) (path : Path) (least : Nat) (unit : Fin 1024), bistRole s.lifeCycle false = some least → s.mayWriteRws path
      R.BIST_CTRL least → s.bist.fusing = none → 32 ≤ s.bist.fallowFuses.length → min 915 unit.val ∉ s.bist.fallowFuses → ∃ t, exec
      (.hardFallow path unit) s = .next t ∧ t.flag 0x24 5 = true ∧ t.bist = s.bist ∧ s.onlyRegs t [R.BIST_CTRL])
  ∧ (∀ (s : State) (rows : List (Nat × Nat)) (units : List Nat), s.bist.fusing = some (rows, units) → s.get F.BIST_STATUS.STATE = 4 →
      ∃ t, exec (.hardDone) s = .next t ∧ t.bist.rowFuses = s.bist.rowFuses ++ rows ∧ t.bist.fallowFuses = s.bist.fallowFuses ++ units
      ∧ t.bist.fusing = none ∧ t.get F.BIST_STATUS.STATE = 0 ∧ t.get F.BIST_REPAIR.ROW_FREE = 64 - t.bist.rowFuses.length ∧ t.get
      F.BIST_REPAIR.FALLOW_FREE = 32 - t.bist.fallowFuses.length ∧ t.flag 0x24 4 = true ∧ s.keepsRegs t [R.BIST_STATUS,
      R.BIST_REPAIR])
  ∧ (∀ (s : State), s.bist.fusing = none → ∃ t, exec (.hardDone) s = .next t ∧ t = s)
  ∧ (∀ (s : State) (path : Path) (least : Nat) (unit : Fin 1024), bistRole s.lifeCycle true = some least → s.mayWriteRws path
      R.BIST_CTRL least → ∃ t, exec (.clearFallow path unit) s = .next t ∧ t.inServiceFail (min 915 unit.val) = false ∧ t.get
      F.BIST_CTRL.UNIT = min 915 unit.val ∧ t.bist.fallowFuses = s.bist.fallowFuses ∧ s.keepsRegs t [R.BIST_CTRL])
  ∧ (∀ (s : State) (path : Path), bistRole s.lifeCycle true = none → s.mayWrite path R.BIST_CTRL → ∃ t, exec (.bistRun path) s = .next
      t ∧ t.get F.SEC_RWS_DROPPED.COUNT = min F.SEC_RWS_DROPPED.COUNT.top (s.get F.SEC_RWS_DROPPED.COUNT + 1) ∧ t.bist = s.bist)
  ∧ (∀ (s : State) (path : Path), bistRole s.lifeCycle false = none → s.mayWrite path R.BIST_CTRL → ∃ t, exec (.hardRepair path) s =
      .next t ∧ t.get F.SEC_RWS_DROPPED.COUNT = min F.SEC_RWS_DROPPED.COUNT.top (s.get F.SEC_RWS_DROPPED.COUNT + 1) ∧ t.bist = s.bist)
  ∧ (∀ (s : State) (path : Path) (unit : Fin 1024), bistRole s.lifeCycle false = none → s.mayWrite path R.BIST_CTRL → ∃ t, exec
      (.hardFallow path unit) s = .next t ∧ t.get F.SEC_RWS_DROPPED.COUNT = min F.SEC_RWS_DROPPED.COUNT.top (s.get
      F.SEC_RWS_DROPPED.COUNT + 1) ∧ t.bist = s.bist)
  ∧ (∀ (s : State) (path : Path) (unit : Fin 1024), bistRole s.lifeCycle true = none → s.mayWrite path R.BIST_CTRL → ∃ t, exec
      (.clearFallow path unit) s = .next t ∧ t.get F.SEC_RWS_DROPPED.COUNT = min F.SEC_RWS_DROPPED.COUNT.top (s.get
      F.SEC_RWS_DROPPED.COUNT + 1) ∧ t.bist = s.bist)

/-- O58. A detected fault issues its code and takes the entry at NEXT, class DETECTED with COUNT 1, with NEW_ENTRY raised and FAULT_N
asserted: a furrow's residue failure 0x0480 with the furrow as DETAIL and IN_SERVICE_FAIL (none while BIST runs), a stopped clock
xxF0 in a powered block, parity xxF1, lockstep 0x2501 with a restart of Hedge, a repeated die-to-die error 0x2502, a supply
0x2503. A single die-to-die error and an upset of PD_AON are class MASKED and leave FAULT_N. A code with an active entry only
counts in it; with every entry active a new code is counted in LOST. ACK from any path clears ACTIVE where the cause has ended and
keeps it where it persists. TEST asserts FAULT_N without an entry until its end. Concludes exec = next, on conditions on state and
operands alone, with the own effect of: furrowResidueFail, clockStop, cfgParity, lockstepMismatch, d2dCrcError, supplyOutOfRange,
aonRegisterUpset, ack, faultTest, faultTestEnd. -/
def Obligations.FaultsFollowTable184AndR366 : Prop :=
  (∀ (s : State) (i : Fin 64) (furrow : Fin 104), s.bistRuns = false → s.hState = 0 → s.get F.FAULT_STATUS.NEXT = i → s.on
      (F.FAULT_ENTRY_CODE.ACTIVE i) = false → (∀ k : Fin 64, s.on (F.FAULT_ENTRY_CODE.ACTIVE k) = true → s.get
      (F.FAULT_ENTRY_CODE.CODE k) ≠ 0x0480) → ∃ t, exec (.furrowResidueFail furrow) s = .next t ∧ t.get (F.FAULT_ENTRY_CODE.CODE i) =
      0x0480 ∧ t.get (F.FAULT_ENTRY_CODE.CLASS i) = 2 ∧ t.on (F.FAULT_ENTRY_CODE.ACTIVE i) = true ∧ t.get (F.FAULT_ENTRY_CODE.COUNT i)
      = 1 ∧ t.get F.FAULT_STATUS.NEXT = (i.val + 1) % 64 ∧ t.flag 0x25 0 = true ∧ t.on F.FAULT_STATUS.ASSERTED = true ∧ t.get
      (F.FAULT_ENTRY_DETAIL.VALUE i) = furrow ∧ t.inServiceFail furrow = true ∧ t.flag 0x24 2 = true ∧ .detail furrow ∈ t.sent ∧
      .event 0x0480 ∈ t.sent)
  ∧ (∀ (s : State) (furrow : Fin 104), s.bistRuns = true → ∃ t, exec (.furrowResidueFail furrow) s = .next t ∧ t = s)
  ∧ (∀ (s : State) (i : Fin 64) (block : Fin 39) (clk : Fin 20), (rowAt (blockBase block)).isSome = true → s.domOn (clockDomain block
      clk) = true → (block.val = 4 → s.furrowClock = true) → s.get F.FAULT_STATUS.NEXT = i → s.on (F.FAULT_ENTRY_CODE.ACTIVE i) =
      false → (∀ k : Fin 64, s.on (F.FAULT_ENTRY_CODE.ACTIVE k) = true → s.get (F.FAULT_ENTRY_CODE.CODE k) ≠ (block.val * 256 + 0xF0))
      → ∃ t, exec (.clockStop block clk) s = .next t ∧ t.get (F.FAULT_ENTRY_CODE.CODE i) = (block.val * 256 + 0xF0) ∧ t.get
      (F.FAULT_ENTRY_CODE.CLASS i) = 2 ∧ t.on (F.FAULT_ENTRY_CODE.ACTIVE i) = true ∧ t.get (F.FAULT_ENTRY_CODE.COUNT i) = 1 ∧ t.get
      F.FAULT_STATUS.NEXT = (i.val + 1) % 64 ∧ t.flag 0x25 0 = true ∧ t.on F.FAULT_STATUS.ASSERTED = true ∧ clockOf block clk ∈
      t.stoppedClocks ∧ s.keepsRegs t [R.FAULT_ENTRY_CODE i, R.FAULT_ENTRY_DETAIL i, R.FAULT_ENTRY_TIME_LO i, R.FAULT_ENTRY_TIME_HI i,
      R.FAULT_STATUS])
  ∧ (∀ (s : State) (block : Fin 39) (clk : Fin 20), s.domOn (clockDomain block clk) = false ∨ (block.val = 4 ∧ s.furrowClock = false)
      → ∃ t, exec (.clockStop block clk) s = .next t ∧ t = s)
  ∧ (∀ (s : State) (i : Fin 64) (block : Fin 39), (rowAt (blockBase block)).isSome = true → s.get F.FAULT_STATUS.NEXT = i → s.on
      (F.FAULT_ENTRY_CODE.ACTIVE i) = false → (∀ k : Fin 64, s.on (F.FAULT_ENTRY_CODE.ACTIVE k) = true → s.get
      (F.FAULT_ENTRY_CODE.CODE k) ≠ (block.val * 256 + 0xF1)) → ∃ t, exec (.cfgParity block) s = .next t ∧ t.get
      (F.FAULT_ENTRY_CODE.CODE i) = (block.val * 256 + 0xF1) ∧ t.get (F.FAULT_ENTRY_CODE.CLASS i) = 2 ∧ t.on
      (F.FAULT_ENTRY_CODE.ACTIVE i) = true ∧ t.get (F.FAULT_ENTRY_CODE.COUNT i) = 1 ∧ t.get F.FAULT_STATUS.NEXT = (i.val + 1) % 64 ∧
      t.flag 0x25 0 = true ∧ t.on F.FAULT_STATUS.ASSERTED = true ∧ s.keepsRegs t [R.FAULT_ENTRY_CODE i, R.FAULT_ENTRY_DETAIL i,
      R.FAULT_ENTRY_TIME_LO i, R.FAULT_ENTRY_TIME_HI i, R.FAULT_STATUS] ∧ t.mem = s.mem ∧ t.bist = s.bist ∧ t.sec = s.sec)
  ∧ (∀ (s : State) (i : Fin 64), s.get F.FAULT_STATUS.NEXT = i → s.on (F.FAULT_ENTRY_CODE.ACTIVE i) = false → (∀ k : Fin 64, s.on
      (F.FAULT_ENTRY_CODE.ACTIVE k) = true → s.get (F.FAULT_ENTRY_CODE.CODE k) ≠ 0x2501) → ∃ t, exec (.lockstepMismatch) s = .next t ∧
      t.get (F.FAULT_ENTRY_CODE.CODE i) = 0x2501 ∧ t.get (F.FAULT_ENTRY_CODE.CLASS i) = 2 ∧ t.on (F.FAULT_ENTRY_CODE.ACTIVE i) = true
      ∧ t.get (F.FAULT_ENTRY_CODE.COUNT i) = 1 ∧ t.get F.FAULT_STATUS.NEXT = (i.val + 1) % 64 ∧ t.flag 0x25 0 = true ∧ t.on
      F.FAULT_STATUS.ASSERTED = true ∧ t.sec.hedge = .restarting ∧ (∀ p : Fin 4, t.on (F.SEC_SESSION.OPEN p) = false))
  ∧ (∀ (s : State) (i : Fin 64), s.get F.FAULT_STATUS.NEXT = i → s.on (F.FAULT_ENTRY_CODE.ACTIVE i) = false → (∀ k : Fin 64, s.on
      (F.FAULT_ENTRY_CODE.ACTIVE k) = true → s.get (F.FAULT_ENTRY_CODE.CODE k) ≠ 0x2502) → ∃ t, exec (.d2dCrcError true) s = .next t ∧
      t.get (F.FAULT_ENTRY_CODE.CODE i) = 0x2502 ∧ t.get (F.FAULT_ENTRY_CODE.CLASS i) = 2 ∧ t.on (F.FAULT_ENTRY_CODE.ACTIVE i) = true
      ∧ t.get (F.FAULT_ENTRY_CODE.COUNT i) = 1 ∧ t.get F.FAULT_STATUS.NEXT = (i.val + 1) % 64 ∧ t.flag 0x25 0 = true ∧ t.on
      F.FAULT_STATUS.ASSERTED = true)
  ∧ (∀ (s : State) (i : Fin 64), s.detectedActive = false → s.faultTest = false → s.get F.FAULT_STATUS.NEXT = i → s.on
      (F.FAULT_ENTRY_CODE.ACTIVE i) = false → (∀ k : Fin 64, s.on (F.FAULT_ENTRY_CODE.ACTIVE k) = true → s.get
      (F.FAULT_ENTRY_CODE.CODE k) ≠ 0x2502) → ∃ t, exec (.d2dCrcError false) s = .next t ∧ t.get (F.FAULT_ENTRY_CODE.CODE i) = 0x2502
      ∧ t.get (F.FAULT_ENTRY_CODE.CLASS i) = 1 ∧ t.on (F.FAULT_ENTRY_CODE.ACTIVE i) = true ∧ t.get (F.FAULT_ENTRY_CODE.COUNT i) = 1 ∧
      t.get F.FAULT_STATUS.NEXT = (i.val + 1) % 64 ∧ t.flag 0x25 0 = true ∧ t.on F.FAULT_STATUS.ASSERTED = false)
  ∧ (∀ (s : State) (i : Fin 64), s.get F.FAULT_STATUS.NEXT = i → s.on (F.FAULT_ENTRY_CODE.ACTIVE i) = false → (∀ k : Fin 64, s.on
      (F.FAULT_ENTRY_CODE.ACTIVE k) = true → s.get (F.FAULT_ENTRY_CODE.CODE k) ≠ 0x2503) → ∃ t, exec (.supplyOutOfRange) s = .next t ∧
      t.get (F.FAULT_ENTRY_CODE.CODE i) = 0x2503 ∧ t.get (F.FAULT_ENTRY_CODE.CLASS i) = 2 ∧ t.on (F.FAULT_ENTRY_CODE.ACTIVE i) = true
      ∧ t.get (F.FAULT_ENTRY_CODE.COUNT i) = 1 ∧ t.get F.FAULT_STATUS.NEXT = (i.val + 1) % 64 ∧ t.flag 0x25 0 = true ∧ t.on
      F.FAULT_STATUS.ASSERTED = true ∧ .event 0x2503 ∈ t.sent ∧ t.get (F.FAULT_ENTRY_TIME_LO.NS i) = s.clock.ns % 2 ^ 32)
  ∧ (∀ (s : State) (i : Fin 64), s.detectedActive = false → s.faultTest = false → s.get F.FAULT_STATUS.NEXT = i → s.on
      (F.FAULT_ENTRY_CODE.ACTIVE i) = false → (∀ k : Fin 64, s.on (F.FAULT_ENTRY_CODE.ACTIVE k) = true → s.get
      (F.FAULT_ENTRY_CODE.CODE k) ≠ 0x2504) → ∃ t, exec (.aonRegisterUpset) s = .next t ∧ t.get (F.FAULT_ENTRY_CODE.CODE i) = 0x2504 ∧
      t.get (F.FAULT_ENTRY_CODE.CLASS i) = 1 ∧ t.on (F.FAULT_ENTRY_CODE.ACTIVE i) = true ∧ t.get (F.FAULT_ENTRY_CODE.COUNT i) = 1 ∧
      t.get F.FAULT_STATUS.NEXT = (i.val + 1) % 64 ∧ t.flag 0x25 0 = true ∧ t.on F.FAULT_STATUS.ASSERTED = false ∧ .event 0x2504 ∈
      t.sent)
  ∧ (∀ (s : State) (i : Fin 64), s.on (F.FAULT_ENTRY_CODE.ACTIVE i) = true → s.get (F.FAULT_ENTRY_CODE.CODE i) = 0x2503 → (∀ k : Fin
      64, k.val < i.val → s.get (F.FAULT_ENTRY_CODE.CODE k) ≠ 0x2503) → ∃ t, exec (.supplyOutOfRange) s = .next t ∧ t.get
      (F.FAULT_ENTRY_CODE.COUNT i) = min 255 (s.get (F.FAULT_ENTRY_CODE.COUNT i) + 1) ∧ t.get F.FAULT_STATUS.NEXT = s.get
      F.FAULT_STATUS.NEXT ∧ t.on F.FAULT_STATUS.ASSERTED = true ∧ s.keepsRegs t [R.FAULT_ENTRY_CODE i, R.FAULT_STATUS])
  ∧ (∀ (s : State), (∀ k : Fin 64, s.on (F.FAULT_ENTRY_CODE.ACTIVE k) = true ∧ s.get (F.FAULT_ENTRY_CODE.CODE k) ≠ 0x2503) → ∃ t, exec
      (.supplyOutOfRange) s = .next t ∧ t.get F.FAULT_STATUS.LOST = min 255 (s.get F.FAULT_STATUS.LOST + 1) ∧ t.get
      F.FAULT_STATUS.NEXT = s.get F.FAULT_STATUS.NEXT ∧ t.flag 0x25 1 = true ∧ .event 0x2506 ∈ t.sent ∧ s.onlyRegs t [R.FAULT_STATUS])
  ∧ (∀ (s : State) (path : Path) (i : Fin 64), s.isDown R.FAULT_CTRL = false → s.causePersists i = false → ∃ t, exec (.ack path) s =
      .next t ∧ t.on (F.FAULT_ENTRY_CODE.ACTIVE i) = false ∧ t.on F.FAULT_STATUS.ASSERTED = (t.detectedActive || t.faultTest) ∧ t.get
      F.FAULT_STATUS.NEXT = s.get F.FAULT_STATUS.NEXT)
  ∧ (∀ (s : State) (path : Path) (i : Fin 64), s.isDown R.FAULT_CTRL = false → s.causePersists i = true → ∃ t, exec (.ack path) s =
      .next t ∧ t.rd (R.FAULT_ENTRY_CODE i) = s.rd (R.FAULT_ENTRY_CODE i))
  ∧ (∀ (s : State) (path : Path), s.mayWriteRws path R.FAULT_CTRL 2 → ∃ t, exec (.faultTest path) s = .next t ∧ t.on
      F.FAULT_STATUS.ASSERTED = true ∧ t.faultTest = true ∧ s.keepsRegs t [R.FAULT_STATUS])
  ∧ (∀ (s : State), s.detectedActive = false → ∃ t, exec (.faultTestEnd) s = .next t ∧ t.on F.FAULT_STATUS.ASSERTED = false ∧
      t.faultTest = false ∧ s.keepsRegs t [R.FAULT_STATUS])
  ∧ (∀ (s : State), s.detectedActive = true → ∃ t, exec (.faultTestEnd) s = .next t ∧ t.on F.FAULT_STATUS.ASSERTED = true ∧
      t.faultTest = false)

/-- O59. Two readings in a row above 115 °C set TRIPPED, raise THERM_TRIP, write a DETECTED entry 0x2601 and start an orderly
shut-down that skips BIST, or one that waits; where one is at or below 115 °C only TEMP changes. A level shorter than MIN_WIDTH is
filtered and counted; a longer one becomes the qualified level and is delivered, an assertion starting the gap of MIN_GAP; within
it nothing is delivered and an assertion is counted in COALESCED; a masked input delivers nothing. The gap's end delivers the
qualified level where it differs from the last delivered. WAKE_N's assertion is wake source 0. STUCK of an unmasked active input
with a limit is counted, masks it and is raised; its release unmasks it and delivers nothing. Concludes exec = next, on conditions
on state and operands alone, with the own effect of: thermTrip, qualifierChange, minGapEnd, stuck, stuckRelease. -/
def Obligations.PinsFollowR380R383R384 : Prop :=
  (∀ (s : State) (first temp : Int), first ≤ 115 ∨ temp ≤ 115 → ∃ t, exec (.thermTrip first temp) s = .next t ∧ t.get
      F.PINS_THERM.TEMP = ofSigned 8 (clampI (-128) 127 temp) ∧ t.on F.PINS_THERM.TRIPPED = s.on F.PINS_THERM.TRIPPED ∧ s.onlyRegs t
      [R.PINS_THERM])
  ∧ (∀ (s : State) (first temp : Int), 115 < first → 115 < temp → s.on F.PINS_THERM.TRIPPED = false → s.shut = false → s.shutHeld =
      false → ∃ t, exec (.thermTrip first temp) s = .next t ∧ t.on F.PINS_THERM.TRIPPED = true ∧ t.flag 0x26 16 = true ∧ .event 0x2601
      ∈ t.sent ∧ t.on F.PWR_STATUS.SHUTTING = true ∧ t.power.shutSkips = true ∧ (∀ n : Fin 16, t.loopState n = 0))
  ∧ (∀ (s : State) (first temp : Int) (i : Fin 64), 115 < first → 115 < temp → s.on F.PINS_THERM.TRIPPED = false → s.shut = false →
      s.shutHeld = true → s.get F.FAULT_STATUS.NEXT = i → s.on (F.FAULT_ENTRY_CODE.ACTIVE i) = false → (∀ k : Fin 64, s.on
      (F.FAULT_ENTRY_CODE.ACTIVE k) = true → s.get (F.FAULT_ENTRY_CODE.CODE k) ≠ 0x2601) → ∃ t, exec (.thermTrip first temp) s = .next
      t ∧ t.on F.PINS_THERM.TRIPPED = true ∧ t.power.shutWaits = true ∧ t.power.shutSkips = true ∧ t.on F.PWR_STATUS.SHUTTING = false
      ∧ t.get (F.FAULT_ENTRY_CODE.CODE i) = 0x2601 ∧ t.get (F.FAULT_ENTRY_CODE.CLASS i) = 2 ∧ t.on (F.FAULT_ENTRY_CODE.ACTIVE i) =
      true ∧ t.get (F.FAULT_ENTRY_CODE.COUNT i) = 1 ∧ t.get F.FAULT_STATUS.NEXT = (i.val + 1) % 64 ∧ t.flag 0x25 0 = true ∧ t.on
      F.FAULT_STATUS.ASSERTED = true)
  ∧ (∀ (s : State) (first temp : Int), 115 < first → 115 < temp → s.on F.PINS_THERM.TRIPPED = true → ∃ t, exec (.thermTrip first temp)
      s = .next t ∧ s.onlyRegs t [R.PINS_THERM])
  ∧ (∀ (s : State) (q : Fin 15) (high : Bool) (width : Nat), s.on (F.PINS_QUAL_STATUS.MASKED q) = false → s.on
      (F.PINS_QUAL_STATUS.QUALIFIED q) = false → high ≠ s.on (F.PINS_QUAL_CFG.ACTIVE_LOW q) → width < s.get (F.PINS_QUAL_CFG.MIN_WIDTH
      q) → ∃ t, exec (.qualifierChange q high width) s = .next t ∧ t.get (F.PINS_QUAL_STATUS.FILTERED q) = min 255 (s.get
      (F.PINS_QUAL_STATUS.FILTERED q) + 1) ∧ t.on (F.PINS_QUAL_STATUS.QUALIFIED q) = false ∧ s.onlyRegs t [R.PINS_QUAL_STATUS q,
      R.PINS_GPIO_IN])
  ∧ (∀ (s : State) (q : Fin 15) (high : Bool) (width : Nat), s.on (F.PINS_QUAL_STATUS.MASKED q) = false → s.on
      (F.PINS_QUAL_STATUS.QUALIFIED q) = false → high ≠ s.on (F.PINS_QUAL_CFG.ACTIVE_LOW q) → s.get (F.PINS_QUAL_CFG.MIN_WIDTH q) ≤
      width → (s.qual q).gap = false → 5 ≤ q.val → q.val < 7 ∨ s.on ⟨R.PINS_GPIO_CTRL, 9 + q.val, 9 + q.val⟩ = false → q.val <
      s.quals.length → ∃ t, exec (.qualifierChange q high width) s = .next t ∧ t.on (F.PINS_QUAL_STATUS.QUALIFIED q) = true ∧ t.on
      (F.PINS_QUAL_STATUS.RAW q) = high ∧ (t.qual q).delivered = true ∧ (t.qual q).gap = s.on (F.PINS_QUAL_CFG.MIN_GAP q) ∧
      s.keepsRegs t [R.PINS_QUAL_STATUS q, R.PINS_GPIO_IN])
  ∧ (∀ (s : State) (high : Bool) (width : Nat) (d : Nat), s.on (F.PINS_QUAL_STATUS.MASKED 0) = false → s.on
      (F.PINS_QUAL_STATUS.QUALIFIED 0) = false → high ≠ s.on (F.PINS_QUAL_CFG.ACTIVE_LOW 0) → s.get (F.PINS_QUAL_CFG.MIN_WIDTH 0) ≤
      width → (s.qual 0).gap = false → s.on (F.PWR_WAKE_MAP.EN 0) = true → d = s.get (F.PWR_WAKE_MAP.DOMAIN 0) → 3 ≤ d → d ≤ 25 →
      s.domState d ≤ 2 → s.on (F.PWR_DOM_STATUS.FAILED d) = false → s.on F.PWR_STATUS.HALTED = false → s.on ⟨R.PWR_WAKE_LATCH, 0, 0⟩ =
      false → ∃ t, exec (.qualifierChange 0 high width) s = .next t ∧ t.on ⟨R.PWR_WAKE_LATCH, 0, 0⟩ = true ∧ t.domState d = 4)
  ∧ (∀ (s : State) (q : Fin 15) (high : Bool) (width : Nat), s.on (F.PINS_QUAL_STATUS.MASKED q) = false → s.on
      (F.PINS_QUAL_STATUS.QUALIFIED q) = false → high ≠ s.on (F.PINS_QUAL_CFG.ACTIVE_LOW q) → s.get (F.PINS_QUAL_CFG.MIN_WIDTH q) ≤
      width → (s.qual q).gap = true → ∃ t, exec (.qualifierChange q high width) s = .next t ∧ t.on (F.PINS_QUAL_STATUS.QUALIFIED q) =
      true ∧ t.get (F.PINS_QUAL_STATUS.COALESCED q) = min 255 (s.get (F.PINS_QUAL_STATUS.COALESCED q) + 1) ∧ (t.qual q).delivered =
      (s.qual q).delivered ∧ (t.qual q).gap = true ∧ s.keepsRegs t [R.PINS_QUAL_STATUS q, R.PINS_GPIO_IN])
  ∧ (∀ (s : State) (q : Fin 15) (high : Bool) (width : Nat), s.on (F.PINS_QUAL_STATUS.MASKED q) = true → ∃ t, exec (.qualifierChange q
      high width) s = .next t ∧ t.on (F.PINS_QUAL_STATUS.RAW q) = high ∧ t.on (F.PINS_QUAL_STATUS.QUALIFIED q) = s.on
      (F.PINS_QUAL_STATUS.QUALIFIED q) ∧ t.quals = s.quals ∧ s.onlyRegs t [R.PINS_QUAL_STATUS q, R.PINS_GPIO_IN])
  ∧ (∀ (s : State) (q : Fin 15), (s.qual q).gap = true → (s.qual q).delivered = true → s.on (F.PINS_QUAL_STATUS.QUALIFIED q) = false →
      s.on (F.PINS_QUAL_STATUS.MASKED q) = false → q.val < s.quals.length → ∃ t, exec (.minGapEnd q) s = .next t ∧ (t.qual q).gap =
      false ∧ (t.qual q).delivered = false ∧ t.regs = s.regs)
  ∧ (∀ (s : State) (q : Fin 15), (s.qual q).gap = true → (s.qual q).delivered = s.on (F.PINS_QUAL_STATUS.QUALIFIED q) → q.val <
      s.quals.length → ∃ t, exec (.minGapEnd q) s = .next t ∧ (t.qual q).gap = false ∧ (t.qual q).delivered = (s.qual q).delivered ∧
      t.regs = s.regs)
  ∧ (∀ (s : State) (q : Fin 15), (s.qual q).gap = false → ∃ t, exec (.minGapEnd q) s = .next t ∧ t = s)
  ∧ (∀ (s : State) (q : Fin 15), s.get (F.PINS_QUAL_CFG.STUCK_LIMIT q) ≠ 0 → s.on (F.PINS_QUAL_STATUS.QUALIFIED q) = true → s.on
      (F.PINS_QUAL_STATUS.MASKED q) = false → ∃ t, exec (.stuck q) s = .next t ∧ t.get (F.PINS_QUAL_STATUS.STUCKS q) = min 255 (s.get
      (F.PINS_QUAL_STATUS.STUCKS q) + 1) ∧ t.on (F.PINS_QUAL_STATUS.MASKED q) = true ∧ t.flag 0x26 q = true ∧ .event (0x2610 + q.val)
      ∈ t.sent ∧ s.onlyRegs t [R.PINS_QUAL_STATUS q])
  ∧ (∀ (s : State) (q : Fin 15), s.get (F.PINS_QUAL_CFG.STUCK_LIMIT q) = 0 ∨ s.on (F.PINS_QUAL_STATUS.QUALIFIED q) = false ∨ s.on
      (F.PINS_QUAL_STATUS.MASKED q) = true → ∃ t, exec (.stuck q) s = .next t ∧ t = s)
  ∧ (∀ (s : State) (q : Fin 15), s.on (F.PINS_QUAL_STATUS.MASKED q) = true → q.val < s.quals.length → ∃ t, exec (.stuckRelease q) s =
      .next t ∧ t.on (F.PINS_QUAL_STATUS.MASKED q) = false ∧ t.on (F.PINS_QUAL_STATUS.QUALIFIED q) = false ∧ (t.qual q).delivered =
      false ∧ s.keepsRegs t [R.PINS_QUAL_STATUS q, R.PINS_GPIO_IN])

/-- O60. A raw code r becomes clamp(((r × 4,096) − OFS) × G / 2^22, 0, 0xFF_FFFF), with OFS signed. Writing the G word commits OFS and
G together; a conversion that begins takes the committed OFS and G, one in progress keeps its pair; at reset OFS is 0 and G
0x40_0000. An update with the queue empty holds the last code, counts UNDERFLOW and raises QUEUE_UNF; a push to a full queue is
discarded, counted in OVERFLOW and raises QUEUE_OVF; a change of SOURCE leaves queue and output as they are and the next update
takes the new source; SOURCE LOOP with no loop driving the channel holds the last code. Concludes exec = next, on conditions on
state and operands alone, with the own effect of: calGWrite, injGo, pdacUpdate, pdacQueuePush, registerWrite. -/
def Obligations.CoefficientsAndQueuesFollowR228AndR233 : Prop :=
  (∀ (raw : Fin 4096) (ofs : Int) (g : Nat), (calibrated raw ofs g : Int) = max 0 (min 0xFFFFFF (((raw.val : Int) * 4096 - ofs) * g /
      2 ^ 22)))
  ∧ (∀ (s : State) (path : Path) (pair : Fin 128) (value : Word), s.mayWrite path (R.HKADC_CAL_G pair) → ∃ t, exec (.calGWrite path
      pair value) s = .next t ∧ t.get (F.HKADC_CAL_G.G pair) = bitsOf value 23 0 ∧ Store.read (fun _ => 0) t.ana.adc.ofs pair = s.rd
      (R.HKADC_CAL_OFS pair) ∧ t.ana.adc.current = s.ana.adc.current)
  ∧ (∀ (s : State) (path : Path) (channel : Fin 32) (sample : Fin 16) (gain : Fin 4), s.mayWrite path R.HKADC_INJ_CTRL →
      s.ana.adc.requests = [] → s.ana.adc.current = none → s.calState = 0 → ∃ t, exec (.injGo path channel sample gain) s = .next t ∧
      t.ana.adc.current = some ⟨.inject, channel, gain, toSigned 24 (bitsOf (Store.read (fun _ => 0) s.ana.adc.ofs (4 * channel +
      gain)) 23 0), s.get (F.HKADC_CAL_G.G (4 * channel + gain))⟩)
  ∧ (∀ (j : Fin 128), (Store.read (fun _ => 0) State.reset.ana.adc.ofs j = 0 ∧ State.reset.get (F.HKADC_CAL_OFS.OFS j) = 0 ∧
      State.reset.get (F.HKADC_CAL_G.G j) = 0x400000))
  ∧ (∀ (s : State) (ch : Fin 20) (elapsed : Nat), (s.dac ch).change = none → s.heldSafe ch = false → s.on (F.PDAC_CH_CFG.SINE_EN ch) =
      false → ch.val < s.ana.pdac.length → s.get (F.PDAC_CH_CFG.SOURCE ch) = 1 → (s.dac ch).queue = [] → ∃ t, exec (.pdacUpdate ch
      elapsed) s = .next t ∧ (t.dac ch).last = (s.dac ch).last ∧ (ch.val < 16 → t.get (F.PDAC_CH_CODE.APPLIED ch) = (s.dac ch).last %
      65536) ∧ t.get (F.PDAC_CH_COUNT.UNDERFLOW ch) = min (F.PDAC_CH_COUNT.UNDERFLOW ch).top (s.get (F.PDAC_CH_COUNT.UNDERFLOW ch) +
      1) ∧ t.flag 0x19 1 = true ∧ (t.dac ch).queue = [])
  ∧ (∀ (s : State) (ch : Fin 20) (elapsed : Nat) (c : Nat) (rest : List Nat), (s.dac ch).change = none → s.heldSafe ch = false → s.on
      (F.PDAC_CH_CFG.SINE_EN ch) = false → ch.val < s.ana.pdac.length → s.get (F.PDAC_CH_CFG.SOURCE ch) = 1 → (s.dac ch).queue = c ::
      rest → ∃ t, exec (.pdacUpdate ch elapsed) s = .next t ∧ (t.dac ch).last = c ∧ (t.dac ch).queue = rest ∧ t.get
      (F.PDAC_CH_COUNT.UNDERFLOW ch) = s.get (F.PDAC_CH_COUNT.UNDERFLOW ch))
  ∧ (∀ (s : State) (path : Path) (ch : Fin 20) (code : Fin 65536), s.mayWrite path (R.PDAC_CH_QUEUE ch) → 16 ≤ (s.dac ch).queue.length
      → ∃ t, exec (.pdacQueuePush path ch code) s = .next t ∧ t.dac ch = s.dac ch ∧ t.get (F.PDAC_CH_COUNT.OVERFLOW ch) = min
      (F.PDAC_CH_COUNT.OVERFLOW ch).top (s.get (F.PDAC_CH_COUNT.OVERFLOW ch) + 1) ∧ t.flag 0x19 2 = true ∧ s.onlyRegs t
      [R.PDAC_CH_COUNT ch])
  ∧ (∀ (s : State) (path : Path) (ch : Fin 20) (value : Word) (amb : Ambient), s.mayWrite path (R.PDAC_CH_CFG ch) → s.get
      (F.PDAC_CH_CFG.SPAN ch) = min 2 (bitsOf value 9 8) → ∃ t, exec (.registerWrite path (R.PDAC_CH_CFG ch) value amb) s = .next t ∧
      t.get (F.PDAC_CH_CFG.SOURCE ch) = min 2 (bitsOf value 1 0) ∧ t.dac ch = s.dac ch ∧ t.get (F.PDAC_CH_CODE.APPLIED ch) = s.get
      (F.PDAC_CH_CODE.APPLIED ch))
  ∧ (∀ (s : State) (ch : Fin 20) (elapsed : Nat), (s.dac ch).change = none → s.heldSafe ch = false → s.on (F.PDAC_CH_CFG.SINE_EN ch) =
      false → ch.val < s.ana.pdac.length → s.get (F.PDAC_CH_CFG.SOURCE ch) = 0 → ∃ t, exec (.pdacUpdate ch elapsed) s = .next t ∧
      (t.dac ch).last = s.get (F.PDAC_CH_CODE.CODE ch) ∧ (t.dac ch).queue = (s.dac ch).queue)
  ∧ (∀ (s : State) (ch : Fin 20) (elapsed : Nat) (u : Nat), (s.dac ch).change = none → s.heldSafe ch = false → s.on
      (F.PDAC_CH_CFG.SINE_EN ch) = false → ch.val < s.ana.pdac.length → s.get (F.PDAC_CH_CFG.SOURCE ch) = 2 → (s.dac ch).loopCode =
      some u → ∃ t, exec (.pdacUpdate ch elapsed) s = .next t ∧ (t.dac ch).last = u ∧ (t.dac ch).queue = (s.dac ch).queue)
  ∧ (∀ (s : State) (ch : Fin 20) (elapsed : Nat), (s.dac ch).change = none → s.heldSafe ch = false → s.on (F.PDAC_CH_CFG.SINE_EN ch) =
      false → ch.val < s.ana.pdac.length → s.get (F.PDAC_CH_CFG.SOURCE ch) = 2 → (s.dac ch).loopCode = none → ∃ t, exec (.pdacUpdate
      ch elapsed) s = .next t ∧ (t.dac ch).last = (s.dac ch).last ∧ (ch.val < 16 → t.get (F.PDAC_CH_CODE.APPLIED ch) = (s.dac ch).last
      % 65536) ∧ (t.dac ch).queue = (s.dac ch).queue)
end

