-- ==== Sys2Proof/Laws/Store.lean ====
section
/-!
SUPPORT. The laws of sparse stores: read after write, writes elsewhere, and the canonical form kept by a write.
-/
namespace Sys2Proof.Machine

variable {α : Type}

theorem Store.risingFrom_mono {m n : Nat} {st : Store α} (h : m ≤ n) (hr : Store.risingFrom n st = true) :
    Store.risingFrom m st = true := by
  cases st with
  | nil => rfl
  | cons p st =>
    simp only [Store.risingFrom, Bool.and_eq_true, decide_eq_true_eq] at hr ⊢
    exact ⟨by omega, hr.2⟩

theorem Store.read_of_risingFrom {d : Nat → α} {n a : Nat} {st : Store α} (h : a < n)
    (hr : Store.risingFrom n st = true) : Store.read d st a = d a := by
  induction st generalizing n with
  | nil => rfl
  | cons p st ih =>
    obtain ⟨b, v⟩ := p
    simp only [Store.risingFrom, Bool.and_eq_true, decide_eq_true_eq] at hr
    have : a ≠ b := by omega
    simp only [Store.read, if_neg this]
    exact ih (n := b + 1) (by omega) hr.2

theorem Store.read_put_same (d : Nat → α) (st : Store α) (a : Nat) (w : α) :
    Store.read d (Store.put st a w) a = w := by
  induction st with
  | nil => simp [Store.put, Store.read]
  | cons p st ih =>
    obtain ⟨b, v⟩ := p
    simp only [Store.put]
    split
    · simp [Store.read]
    · split
      · simp [Store.read]
      · rename_i h1 h2
        simp only [Store.read, if_neg h2]
        exact ih

theorem Store.read_put_other (d : Nat → α) (st : Store α) {a x : Nat} (w : α) (h : x ≠ a) :
    Store.read d (Store.put st a w) x = Store.read d st x := by
  induction st with
  | nil => simp [Store.put, Store.read, h]
  | cons p st ih =>
    obtain ⟨b, v⟩ := p
    simp only [Store.put]
    split
    · simp [Store.read, h]
    · split
      · rename_i h1 h2
        subst h2
        simp [Store.read, h]
      · simp only [Store.read]
        split
        · rfl
        · exact ih

theorem Store.read_drop_other (d : Nat → α) (st : Store α) {a x : Nat} (h : x ≠ a) :
    Store.read d (Store.drop st a) x = Store.read d st x := by
  induction st with
  | nil => rfl
  | cons p st ih =>
    obtain ⟨b, v⟩ := p
    simp only [Store.drop]
    split
    · rename_i h1
      subst h1
      simp only [Store.read, if_neg h]
      exact ih
    · simp only [Store.read]
      split
      · rfl
      · exact ih

theorem Store.read_drop_same (d : Nat → α) (st : Store α) (a : Nat) :
    Store.read d (Store.drop st a) a = d a := by
  induction st with
  | nil => rfl
  | cons p st ih =>
    obtain ⟨b, v⟩ := p
    simp only [Store.drop]
    split
    · exact ih
    · rename_i h1
      simp only [Store.read, if_neg h1]
      exact ih

theorem Store.risingFrom_drop {n : Nat} (st : Store α) (a : Nat) (hr : Store.risingFrom n st = true) :
    Store.risingFrom n (Store.drop st a) = true := by
  induction st generalizing n with
  | nil => rfl
  | cons p st ih =>
    obtain ⟨b, v⟩ := p
    simp only [Store.risingFrom, Bool.and_eq_true, decide_eq_true_eq] at hr
    simp only [Store.drop]
    split
    · exact Store.risingFrom_mono (by omega) (ih hr.2)
    · simp only [Store.risingFrom, Bool.and_eq_true, decide_eq_true_eq]
      exact ⟨hr.1, ih hr.2⟩

theorem Store.risingFrom_put {n : Nat} (st : Store α) (a : Nat) (w : α) (ha : n ≤ a)
    (hr : Store.risingFrom n st = true) : Store.risingFrom n (Store.put st a w) = true := by
  induction st generalizing n with
  | nil => simp [Store.put, Store.risingFrom, ha]
  | cons p st ih =>
    obtain ⟨b, v⟩ := p
    simp only [Store.risingFrom, Bool.and_eq_true, decide_eq_true_eq] at hr
    simp only [Store.put]
    split
    · simp only [Store.risingFrom, Bool.and_eq_true, decide_eq_true_eq]
      exact ⟨ha, by omega, hr.2⟩
    · split
      · rename_i h1 h2
        subst h2
        simp only [Store.risingFrom, Bool.and_eq_true, decide_eq_true_eq]
        exact ⟨ha, hr.2⟩
      · simp only [Store.risingFrom, Bool.and_eq_true, decide_eq_true_eq]
        exact ⟨hr.1, ih (by omega) hr.2⟩

theorem Store.mem_drop {st : Store α} {a : Nat} {p : Nat × α} (h : p ∈ Store.drop st a) : p ∈ st := by
  induction st with
  | nil => exact h
  | cons q st ih =>
    obtain ⟨b, v⟩ := q
    simp only [Store.drop] at h
    split at h
    · exact List.mem_cons_of_mem _ (ih h)
    · rcases List.mem_cons.mp h with h | h
      · exact h ▸ List.mem_cons_self
      · exact List.mem_cons_of_mem _ (ih h)

theorem Store.mem_put {st : Store α} {a : Nat} {w : α} {p : Nat × α} (h : p ∈ Store.put st a w) :
    p = (a, w) ∨ p ∈ st := by
  induction st with
  | nil => simpa [Store.put] using h
  | cons q st ih =>
    obtain ⟨b, v⟩ := q
    simp only [Store.put] at h
    split at h
    · rcases List.mem_cons.mp h with h | h
      · exact .inl h
      · exact .inr h
    · split at h
      · rcases List.mem_cons.mp h with h | h
        · exact .inl h
        · exact .inr (List.mem_cons_of_mem _ h)
      · rcases List.mem_cons.mp h with h | h
        · exact .inr (h ▸ List.mem_cons_self)
        · rcases ih h with h | h
          · exact .inl h
          · exact .inr (List.mem_cons_of_mem _ h)

/-- A write keeps the canonical form. -/
theorem Store.wf_write [DecidableEq α] (d : Nat → α) (st : Store α) (a : Nat) (w : α)
    (h : Store.wf d st = true) : Store.wf d (Store.write d st a w) = true := by
  simp only [Store.wf, Bool.and_eq_true, List.all_eq_true] at h ⊢
  unfold Store.write
  split
  · exact ⟨Store.risingFrom_drop st a h.1, fun p hp => h.2 p (Store.mem_drop hp)⟩
  · rename_i hw
    refine ⟨Store.risingFrom_put st a w (Nat.zero_le _) h.1, fun p hp => ?_⟩
    rcases Store.mem_put hp with rfl | hp
    · simpa using hw
    · exact h.2 p hp

/-- Reading the address just written gives the value written. -/
theorem Store.read_write_same [DecidableEq α] (d : Nat → α) (st : Store α) (a : Nat) (w : α) :
    Store.read d (Store.write d st a w) a = w := by
  unfold Store.write
  split
  · rename_i hw
    rw [Store.read_drop_same d st a, hw]
  · exact Store.read_put_same d st a w

/-- A write leaves every other address alone. -/
theorem Store.read_write_other [DecidableEq α] (d : Nat → α) (st : Store α) {a x : Nat} (w : α) (h : x ≠ a) :
    Store.read d (Store.write d st a w) x = Store.read d st x := by
  unfold Store.write
  split
  · exact Store.read_drop_other d st h
  · exact Store.read_put_other d st w h

end Sys2Proof.Machine
end

