-- ==== Sys2Proof/Laws/Reg.lean ====
section
/-!
SUPPORT. Laws of register words and fields: what a read gives after a write of the same word, of another word, of the same field and of
another field of the same word.
-/
namespace Sys2Proof.Machine

/-! ### Words -/

@[simp] theorem State.rd_wr_same (s : State) (a : Nat) (w : Word) : (s.wr a w).rd a = w := by
  simp [State.rd, State.wr, Store.read_write_same]

theorem State.rd_wr_other (s : State) {a x : Nat} (w : Word) (h : x ≠ a) : (s.wr a w).rd x = s.rd x := by
  simp [State.rd, State.wr, Store.read_write_other _ _ _ h]

/-! ### Bit fields -/

/-- A number cut at a field: what lies above it, the field, what lies below. -/
theorem nat_field (n lo k : Nat) : n = n / 2 ^ (lo + k) * 2 ^ (lo + k) + n / 2 ^ lo % 2 ^ k * 2 ^ lo + n % 2 ^ lo := by
  have h1 := Nat.div_add_mod n (2 ^ lo)
  have h2 := Nat.div_add_mod (n / 2 ^ lo) (2 ^ k)
  rw [Nat.div_div_eq_div_mul, ← Nat.pow_add] at h2
  calc n = 2 ^ lo * (n / 2 ^ lo) + n % 2 ^ lo := h1.symm
    _ = 2 ^ lo * (2 ^ k * (n / 2 ^ (lo + k)) + n / 2 ^ lo % 2 ^ k) + n % 2 ^ lo := by rw [h2]
    _ = _ := by
      rw [Nat.mul_add, Nat.pow_add]
      simp only [Nat.mul_comm, Nat.mul_assoc]

theorem bitsOf_lt (w : Word) (hi lo : Nat) : bitsOf w hi lo < 2 ^ (hi + 1 - lo) := Nat.mod_lt _ (Nat.two_pow_pos _)

/-- The number of a word with a field replaced. -/
theorem withBits_toNat (w : Word) {hi lo : Nat} (v : Nat) (h1 : lo ≤ hi) (h2 : hi < 32) :
    (withBits w hi lo v).toNat
      = w.toNat / 2 ^ (hi + 1) * 2 ^ (hi + 1) + v % 2 ^ (hi + 1 - lo) * 2 ^ lo + w.toNat % 2 ^ lo := by
  have hk : lo + (hi + 1 - lo) = hi + 1 := by omega
  have hf := nat_field w.toNat lo (hi + 1 - lo)
  rw [hk] at hf
  have hw : w.toNat < 2 ^ 32 := w.isLt
  have hsplit : 2 ^ 32 = 2 ^ (31 - hi) * 2 ^ (hi + 1) := by rw [← Nat.pow_add]; congr 1; omega
  have htop : w.toNat / 2 ^ (hi + 1) < 2 ^ (31 - hi) := by
    apply Nat.div_lt_of_lt_mul
    rw [Nat.mul_comm, ← hsplit]
    exact hw
  have hv : v % 2 ^ (hi + 1 - lo) < 2 ^ (hi + 1 - lo) := Nat.mod_lt _ (Nat.two_pow_pos _)
  have hl : w.toNat % 2 ^ lo < 2 ^ lo := Nat.mod_lt _ (Nat.two_pow_pos _)
  have hmid : v % 2 ^ (hi + 1 - lo) * 2 ^ lo + w.toNat % 2 ^ lo < 2 ^ (hi + 1) := by
    calc v % 2 ^ (hi + 1 - lo) * 2 ^ lo + w.toNat % 2 ^ lo
        < v % 2 ^ (hi + 1 - lo) * 2 ^ lo + 2 ^ lo := by omega
      _ = (v % 2 ^ (hi + 1 - lo) + 1) * 2 ^ lo := by rw [Nat.add_mul, Nat.one_mul]
      _ ≤ 2 ^ (hi + 1 - lo) * 2 ^ lo := Nat.mul_le_mul_right _ hv
      _ = 2 ^ (hi + 1) := by rw [← Nat.pow_add]; congr 1; omega
  have hall : w.toNat / 2 ^ (hi + 1) * 2 ^ (hi + 1) + (v % 2 ^ (hi + 1 - lo) * 2 ^ lo + w.toNat % 2 ^ lo) < 2 ^ 32 := by
    calc w.toNat / 2 ^ (hi + 1) * 2 ^ (hi + 1) + (v % 2 ^ (hi + 1 - lo) * 2 ^ lo + w.toNat % 2 ^ lo)
        < w.toNat / 2 ^ (hi + 1) * 2 ^ (hi + 1) + 2 ^ (hi + 1) := by omega
      _ = (w.toNat / 2 ^ (hi + 1) + 1) * 2 ^ (hi + 1) := by rw [Nat.add_mul, Nat.one_mul]
      _ ≤ 2 ^ (31 - hi) * 2 ^ (hi + 1) := Nat.mul_le_mul_right _ htop
      _ = 2 ^ 32 := hsplit.symm
  rw [withBits, BitVec.toNat_ofNat, Nat.mod_eq_of_lt]
  · rw [bitsOf]
    generalize w.toNat / 2 ^ lo % 2 ^ (hi + 1 - lo) * 2 ^ lo = m at *
    omega
  · rw [bitsOf]
    generalize w.toNat / 2 ^ lo % 2 ^ (hi + 1 - lo) * 2 ^ lo = m at *
    omega

/-- A replaced field reads as the low bits of what was written. -/
theorem bitsOf_withBits_same (w : Word) {hi lo : Nat} (v : Nat) (h1 : lo ≤ hi) (h2 : hi < 32) :
    bitsOf (withBits w hi lo v) hi lo = v % 2 ^ (hi + 1 - lo) := by
  have hp : 0 < 2 ^ lo := Nat.two_pow_pos _
  have hl : w.toNat % 2 ^ lo < 2 ^ lo := Nat.mod_lt _ hp
  have hk : 2 ^ (hi + 1) = 2 ^ (hi + 1 - lo) * 2 ^ lo := by rw [← Nat.pow_add]; congr 1; omega
  rw [bitsOf, withBits_toNat w v h1 h2, hk, ← Nat.mul_assoc, ← Nat.add_mul, Nat.add_comm, Nat.add_mul_div_right _ _ hp,
    Nat.div_eq_of_lt hl, Nat.zero_add, Nat.add_comm, Nat.add_mul_mod_self_right, Nat.mod_mod]

/-- A field above the replaced one is unchanged. -/
theorem bitsOf_withBits_above (w : Word) {hi lo h l : Nat} (v : Nat) (h1 : lo ≤ hi) (h2 : hi < 32) (h3 : hi < l) :
    bitsOf (withBits w hi lo v) h l = bitsOf w h l := by
  have hv : v % 2 ^ (hi + 1 - lo) < 2 ^ (hi + 1 - lo) := Nat.mod_lt _ (Nat.two_pow_pos _)
  have hl : w.toNat % 2 ^ lo < 2 ^ lo := Nat.mod_lt _ (Nat.two_pow_pos _)
  have hmid : v % 2 ^ (hi + 1 - lo) * 2 ^ lo + w.toNat % 2 ^ lo < 2 ^ (hi + 1) := by
    calc v % 2 ^ (hi + 1 - lo) * 2 ^ lo + w.toNat % 2 ^ lo
        < v % 2 ^ (hi + 1 - lo) * 2 ^ lo + 2 ^ lo := by omega
      _ = (v % 2 ^ (hi + 1 - lo) + 1) * 2 ^ lo := by rw [Nat.add_mul, Nat.one_mul]
      _ ≤ 2 ^ (hi + 1 - lo) * 2 ^ lo := Nat.mul_le_mul_right _ hv
      _ = 2 ^ (hi + 1) := by rw [← Nat.pow_add]; congr 1; omega
  have hd : (withBits w hi lo v).toNat / 2 ^ (hi + 1) = w.toNat / 2 ^ (hi + 1) := by
    rw [withBits_toNat w v h1 h2, Nat.add_assoc, Nat.add_comm, Nat.add_mul_div_right _ _ (Nat.two_pow_pos _), Nat.div_eq_of_lt hmid,
      Nat.zero_add]
  have hs : 2 ^ l = 2 ^ (hi + 1) * 2 ^ (l - (hi + 1)) := by rw [← Nat.pow_add]; congr 1; omega
  rw [bitsOf, bitsOf, hs, ← Nat.div_div_eq_div_mul, ← Nat.div_div_eq_div_mul, hd]

/-- A field below the replaced one is unchanged. -/
theorem bitsOf_withBits_below (w : Word) {hi lo h l : Nat} (v : Nat) (h1 : lo ≤ hi) (h2 : hi < 32) (h3 : h < lo) :
    bitsOf (withBits w hi lo v) h l = bitsOf w h l := by
  have hm : (withBits w hi lo v).toNat % 2 ^ lo = w.toNat % 2 ^ lo := by
    have hk : 2 ^ (hi + 1) = 2 ^ (hi + 1 - lo) * 2 ^ lo := by rw [← Nat.pow_add]; congr 1; omega
    rw [withBits_toNat w v h1 h2, hk, ← Nat.mul_assoc, ← Nat.add_mul, Nat.mul_add_mod_self_right, Nat.mod_mod]
  by_cases hlh : l ≤ h
  · have e : ∀ n : Nat, n / 2 ^ l % 2 ^ (h + 1 - l) = n % 2 ^ lo / 2 ^ l % 2 ^ (h + 1 - l) := by
      intro n
      have hs : 2 ^ lo = 2 ^ l * 2 ^ (lo - l) := by rw [← Nat.pow_add]; congr 1; omega
      have hs2 : 2 ^ (lo - l) = 2 ^ (h + 1 - l) * 2 ^ (lo - (h + 1)) := by rw [← Nat.pow_add]; congr 1; omega
      rw [hs, Nat.mod_mul_right_div_self, hs2, Nat.mod_mul_right_mod]
    rw [bitsOf, bitsOf, e, hm, ← e]
  · have hz : h + 1 - l = 0 := by omega
    simp [bitsOf, hz, Nat.mod_one]

/-! ### Fields -/

theorem State.get_set_same (s : State) (f : Fld) (v : Nat) (h1 : f.lo ≤ f.hi) (h2 : f.hi < 32) :
    (s.set f v).get f = v % 2 ^ (f.hi + 1 - f.lo) := by
  simp [State.get, State.set, bitsOf_withBits_same _ _ h1 h2]

theorem State.get_set_other (s : State) {f g : Fld} (v : Nat) (h : g.addr ≠ f.addr) : (s.set f v).get g = s.get g := by
  simp [State.get, State.set, State.rd_wr_other _ _ h]

theorem State.get_set_above (s : State) {f g : Fld} (v : Nat) (h1 : f.lo ≤ f.hi) (h2 : f.hi < 32) (h3 : f.hi < g.lo) :
    (s.set f v).get g = s.get g := by
  by_cases h : g.addr = f.addr
  · simp [State.get, State.set, h, bitsOf_withBits_above _ _ h1 h2 h3]
  · exact s.get_set_other v h

theorem State.get_set_below (s : State) {f g : Fld} (v : Nat) (h1 : f.lo ≤ f.hi) (h2 : f.hi < 32) (h3 : g.hi < f.lo) :
    (s.set f v).get g = s.get g := by
  by_cases h : g.addr = f.addr
  · simp [State.get, State.set, h, bitsOf_withBits_below _ _ h1 h2 h3]
  · exact s.get_set_other v h

theorem State.get_wr_other (s : State) {a : Nat} {g : Fld} (w : Word) (h : g.addr ≠ a) : (s.wr a w).get g = s.get g := by
  simp [State.get, State.rd_wr_other _ _ h]

theorem State.rd_set_other (s : State) {f : Fld} {x : Nat} (v : Nat) (h : x ≠ f.addr) : (s.set f v).rd x = s.rd x := by
  simp [State.set, State.rd_wr_other _ _ h]

end Sys2Proof.Machine
end

