-- ==== Sys2Proof/Laws/State.lean ====
section
/-!
SUPPORT. What each named update of State leaves as it was, one lemma per field, each true by `rfl`, so that no proof unfolds a record
update; and what it makes of its own field.
-/
namespace Sys2Proof.Machine

variable (s : State)

/-! ### wr -/

@[simp] theorem State.wr_shadows (a : Nat) (w : Word) : (s.wr a w).shadows = s.shadows := rfl
@[simp] theorem State.wr_staging (a : Nat) (w : Word) : (s.wr a w).staging = s.staging := rfl
@[simp] theorem State.wr_readData (a : Nat) (w : Word) : (s.wr a w).readData = s.readData := rfl
@[simp] theorem State.wr_burst (a : Nat) (w : Word) : (s.wr a w).burst = s.burst := rfl
@[simp] theorem State.wr_clock (a : Nat) (w : Word) : (s.wr a w).clock = s.clock := rfl
@[simp] theorem State.wr_msixEnabled (a : Nat) (w : Word) : (s.wr a w).msixEnabled = s.msixEnabled := rfl
@[simp] theorem State.wr_msixMasked (a : Nat) (w : Word) : (s.wr a w).msixMasked = s.msixMasked := rfl
@[simp] theorem State.wr_occ (a : Nat) (w : Word) : (s.wr a w).occ = s.occ := rfl
@[simp] theorem State.wr_occTime (a : Nat) (w : Word) : (s.wr a w).occTime = s.occTime := rfl
@[simp] theorem State.wr_limited (a : Nat) (w : Word) : (s.wr a w).limited = s.limited := rfl
@[simp] theorem State.wr_i3cNotes (a : Nat) (w : Word) : (s.wr a w).i3cNotes = s.i3cNotes := rfl
@[simp] theorem State.wr_i3cAddress (a : Nat) (w : Word) : (s.wr a w).i3cAddress = s.i3cAddress := rfl
@[simp] theorem State.wr_wmpMajor (a : Nat) (w : Word) : (s.wr a w).wmpMajor = s.wmpMajor := rfl
@[simp] theorem State.wr_wmpMinor (a : Nat) (w : Word) : (s.wr a w).wmpMinor = s.wmpMinor := rfl
@[simp] theorem State.wr_mgrInbox (a : Nat) (w : Word) : (s.wr a w).mgrInbox = s.mgrInbox := rfl
@[simp] theorem State.wr_faultTest (a : Nat) (w : Word) : (s.wr a w).faultTest = s.faultTest := rfl
@[simp] theorem State.wr_faultOrder (a : Nat) (w : Word) : (s.wr a w).faultOrder = s.faultOrder := rfl
@[simp] theorem State.wr_stoppedClocks (a : Nat) (w : Word) : (s.wr a w).stoppedClocks = s.stoppedClocks := rfl
@[simp] theorem State.wr_plan (a : Nat) (w : Word) : (s.wr a w).plan = s.plan := rfl
@[simp] theorem State.wr_rx (a : Nat) (w : Word) : (s.wr a w).rx = s.rx := rfl
@[simp] theorem State.wr_tx (a : Nat) (w : Word) : (s.wr a w).tx = s.tx := rfl
@[simp] theorem State.wr_line (a : Nat) (w : Word) : (s.wr a w).line = s.line := rfl
@[simp] theorem State.wr_link (a : Nat) (w : Word) : (s.wr a w).link = s.link := rfl
@[simp] theorem State.wr_neighbours (a : Nat) (w : Word) : (s.wr a w).neighbours = s.neighbours := rfl
@[simp] theorem State.wr_nbHeard (a : Nat) (w : Word) : (s.wr a w).nbHeard = s.nbHeard := rfl
@[simp] theorem State.wr_nbVersions (a : Nat) (w : Word) : (s.wr a w).nbVersions = s.nbVersions := rfl
@[simp] theorem State.wr_label (a : Nat) (w : Word) : (s.wr a w).label = s.label := rfl
@[simp] theorem State.wr_lanes (a : Nat) (w : Word) : (s.wr a w).lanes = s.lanes := rfl
@[simp] theorem State.wr_ports (a : Nat) (w : Word) : (s.wr a w).ports = s.ports := rfl
@[simp] theorem State.wr_time (a : Nat) (w : Word) : (s.wr a w).time = s.time := rfl
@[simp] theorem State.wr_head (a : Nat) (w : Word) : (s.wr a w).head = s.head := rfl
@[simp] theorem State.wr_ana (a : Nat) (w : Word) : (s.wr a w).ana = s.ana := rfl
@[simp] theorem State.wr_sec (a : Nat) (w : Word) : (s.wr a w).sec = s.sec := rfl
@[simp] theorem State.wr_power (a : Nat) (w : Word) : (s.wr a w).power = s.power := rfl
@[simp] theorem State.wr_cal (a : Nat) (w : Word) : (s.wr a w).cal = s.cal := rfl
@[simp] theorem State.wr_bist (a : Nat) (w : Word) : (s.wr a w).bist = s.bist := rfl
@[simp] theorem State.wr_glean (a : Nat) (w : Word) : (s.wr a w).glean = s.glean := rfl
@[simp] theorem State.wr_mem (a : Nat) (w : Word) : (s.wr a w).mem = s.mem := rfl
@[simp] theorem State.wr_cxl (a : Nat) (w : Word) : (s.wr a w).cxl = s.cxl := rfl
@[simp] theorem State.wr_quals (a : Nat) (w : Word) : (s.wr a w).quals = s.quals := rfl
@[simp] theorem State.wr_sent (a : Nat) (w : Word) : (s.wr a w).sent = s.sent := rfl
@[simp] theorem State.wr_freeCount (a : Nat) (w : Word) : (s.wr a w).freeCount = s.freeCount := rfl
@[simp] theorem State.wr_pending (a : Nat) (w : Word) : (s.wr a w).pending = s.pending := rfl

/-! ### set -/

@[simp] theorem State.set_shadows (f : Fld) (v : Nat) : (s.set f v).shadows = s.shadows := rfl
@[simp] theorem State.set_staging (f : Fld) (v : Nat) : (s.set f v).staging = s.staging := rfl
@[simp] theorem State.set_readData (f : Fld) (v : Nat) : (s.set f v).readData = s.readData := rfl
@[simp] theorem State.set_burst (f : Fld) (v : Nat) : (s.set f v).burst = s.burst := rfl
@[simp] theorem State.set_clock (f : Fld) (v : Nat) : (s.set f v).clock = s.clock := rfl
@[simp] theorem State.set_msixEnabled (f : Fld) (v : Nat) : (s.set f v).msixEnabled = s.msixEnabled := rfl
@[simp] theorem State.set_msixMasked (f : Fld) (v : Nat) : (s.set f v).msixMasked = s.msixMasked := rfl
@[simp] theorem State.set_occ (f : Fld) (v : Nat) : (s.set f v).occ = s.occ := rfl
@[simp] theorem State.set_occTime (f : Fld) (v : Nat) : (s.set f v).occTime = s.occTime := rfl
@[simp] theorem State.set_limited (f : Fld) (v : Nat) : (s.set f v).limited = s.limited := rfl
@[simp] theorem State.set_i3cNotes (f : Fld) (v : Nat) : (s.set f v).i3cNotes = s.i3cNotes := rfl
@[simp] theorem State.set_i3cAddress (f : Fld) (v : Nat) : (s.set f v).i3cAddress = s.i3cAddress := rfl
@[simp] theorem State.set_wmpMajor (f : Fld) (v : Nat) : (s.set f v).wmpMajor = s.wmpMajor := rfl
@[simp] theorem State.set_wmpMinor (f : Fld) (v : Nat) : (s.set f v).wmpMinor = s.wmpMinor := rfl
@[simp] theorem State.set_mgrInbox (f : Fld) (v : Nat) : (s.set f v).mgrInbox = s.mgrInbox := rfl
@[simp] theorem State.set_faultTest (f : Fld) (v : Nat) : (s.set f v).faultTest = s.faultTest := rfl
@[simp] theorem State.set_faultOrder (f : Fld) (v : Nat) : (s.set f v).faultOrder = s.faultOrder := rfl
@[simp] theorem State.set_stoppedClocks (f : Fld) (v : Nat) : (s.set f v).stoppedClocks = s.stoppedClocks := rfl
@[simp] theorem State.set_plan (f : Fld) (v : Nat) : (s.set f v).plan = s.plan := rfl
@[simp] theorem State.set_rx (f : Fld) (v : Nat) : (s.set f v).rx = s.rx := rfl
@[simp] theorem State.set_tx (f : Fld) (v : Nat) : (s.set f v).tx = s.tx := rfl
@[simp] theorem State.set_line (f : Fld) (v : Nat) : (s.set f v).line = s.line := rfl
@[simp] theorem State.set_link (f : Fld) (v : Nat) : (s.set f v).link = s.link := rfl
@[simp] theorem State.set_neighbours (f : Fld) (v : Nat) : (s.set f v).neighbours = s.neighbours := rfl
@[simp] theorem State.set_nbHeard (f : Fld) (v : Nat) : (s.set f v).nbHeard = s.nbHeard := rfl
@[simp] theorem State.set_nbVersions (f : Fld) (v : Nat) : (s.set f v).nbVersions = s.nbVersions := rfl
@[simp] theorem State.set_label (f : Fld) (v : Nat) : (s.set f v).label = s.label := rfl
@[simp] theorem State.set_lanes (f : Fld) (v : Nat) : (s.set f v).lanes = s.lanes := rfl
@[simp] theorem State.set_ports (f : Fld) (v : Nat) : (s.set f v).ports = s.ports := rfl
@[simp] theorem State.set_time (f : Fld) (v : Nat) : (s.set f v).time = s.time := rfl
@[simp] theorem State.set_head (f : Fld) (v : Nat) : (s.set f v).head = s.head := rfl
@[simp] theorem State.set_ana (f : Fld) (v : Nat) : (s.set f v).ana = s.ana := rfl
@[simp] theorem State.set_sec (f : Fld) (v : Nat) : (s.set f v).sec = s.sec := rfl
@[simp] theorem State.set_power (f : Fld) (v : Nat) : (s.set f v).power = s.power := rfl
@[simp] theorem State.set_cal (f : Fld) (v : Nat) : (s.set f v).cal = s.cal := rfl
@[simp] theorem State.set_bist (f : Fld) (v : Nat) : (s.set f v).bist = s.bist := rfl
@[simp] theorem State.set_glean (f : Fld) (v : Nat) : (s.set f v).glean = s.glean := rfl
@[simp] theorem State.set_mem (f : Fld) (v : Nat) : (s.set f v).mem = s.mem := rfl
@[simp] theorem State.set_cxl (f : Fld) (v : Nat) : (s.set f v).cxl = s.cxl := rfl
@[simp] theorem State.set_quals (f : Fld) (v : Nat) : (s.set f v).quals = s.quals := rfl
@[simp] theorem State.set_sent (f : Fld) (v : Nat) : (s.set f v).sent = s.sent := rfl
@[simp] theorem State.set_freeCount (f : Fld) (v : Nat) : (s.set f v).freeCount = s.freeCount := rfl
@[simp] theorem State.set_pending (f : Fld) (v : Nat) : (s.set f v).pending = s.pending := rfl

/-! ### setB -/

@[simp] theorem State.setB_shadows (f : Fld) (b : Bool) : (s.setB f b).shadows = s.shadows := rfl
@[simp] theorem State.setB_staging (f : Fld) (b : Bool) : (s.setB f b).staging = s.staging := rfl
@[simp] theorem State.setB_readData (f : Fld) (b : Bool) : (s.setB f b).readData = s.readData := rfl
@[simp] theorem State.setB_burst (f : Fld) (b : Bool) : (s.setB f b).burst = s.burst := rfl
@[simp] theorem State.setB_clock (f : Fld) (b : Bool) : (s.setB f b).clock = s.clock := rfl
@[simp] theorem State.setB_msixEnabled (f : Fld) (b : Bool) : (s.setB f b).msixEnabled = s.msixEnabled := rfl
@[simp] theorem State.setB_msixMasked (f : Fld) (b : Bool) : (s.setB f b).msixMasked = s.msixMasked := rfl
@[simp] theorem State.setB_occ (f : Fld) (b : Bool) : (s.setB f b).occ = s.occ := rfl
@[simp] theorem State.setB_occTime (f : Fld) (b : Bool) : (s.setB f b).occTime = s.occTime := rfl
@[simp] theorem State.setB_limited (f : Fld) (b : Bool) : (s.setB f b).limited = s.limited := rfl
@[simp] theorem State.setB_i3cNotes (f : Fld) (b : Bool) : (s.setB f b).i3cNotes = s.i3cNotes := rfl
@[simp] theorem State.setB_i3cAddress (f : Fld) (b : Bool) : (s.setB f b).i3cAddress = s.i3cAddress := rfl
@[simp] theorem State.setB_wmpMajor (f : Fld) (b : Bool) : (s.setB f b).wmpMajor = s.wmpMajor := rfl
@[simp] theorem State.setB_wmpMinor (f : Fld) (b : Bool) : (s.setB f b).wmpMinor = s.wmpMinor := rfl
@[simp] theorem State.setB_mgrInbox (f : Fld) (b : Bool) : (s.setB f b).mgrInbox = s.mgrInbox := rfl
@[simp] theorem State.setB_faultTest (f : Fld) (b : Bool) : (s.setB f b).faultTest = s.faultTest := rfl
@[simp] theorem State.setB_faultOrder (f : Fld) (b : Bool) : (s.setB f b).faultOrder = s.faultOrder := rfl
@[simp] theorem State.setB_stoppedClocks (f : Fld) (b : Bool) : (s.setB f b).stoppedClocks = s.stoppedClocks := rfl
@[simp] theorem State.setB_plan (f : Fld) (b : Bool) : (s.setB f b).plan = s.plan := rfl
@[simp] theorem State.setB_rx (f : Fld) (b : Bool) : (s.setB f b).rx = s.rx := rfl
@[simp] theorem State.setB_tx (f : Fld) (b : Bool) : (s.setB f b).tx = s.tx := rfl
@[simp] theorem State.setB_line (f : Fld) (b : Bool) : (s.setB f b).line = s.line := rfl
@[simp] theorem State.setB_link (f : Fld) (b : Bool) : (s.setB f b).link = s.link := rfl
@[simp] theorem State.setB_neighbours (f : Fld) (b : Bool) : (s.setB f b).neighbours = s.neighbours := rfl
@[simp] theorem State.setB_nbHeard (f : Fld) (b : Bool) : (s.setB f b).nbHeard = s.nbHeard := rfl
@[simp] theorem State.setB_nbVersions (f : Fld) (b : Bool) : (s.setB f b).nbVersions = s.nbVersions := rfl
@[simp] theorem State.setB_label (f : Fld) (b : Bool) : (s.setB f b).label = s.label := rfl
@[simp] theorem State.setB_lanes (f : Fld) (b : Bool) : (s.setB f b).lanes = s.lanes := rfl
@[simp] theorem State.setB_ports (f : Fld) (b : Bool) : (s.setB f b).ports = s.ports := rfl
@[simp] theorem State.setB_time (f : Fld) (b : Bool) : (s.setB f b).time = s.time := rfl
@[simp] theorem State.setB_head (f : Fld) (b : Bool) : (s.setB f b).head = s.head := rfl
@[simp] theorem State.setB_ana (f : Fld) (b : Bool) : (s.setB f b).ana = s.ana := rfl
@[simp] theorem State.setB_sec (f : Fld) (b : Bool) : (s.setB f b).sec = s.sec := rfl
@[simp] theorem State.setB_power (f : Fld) (b : Bool) : (s.setB f b).power = s.power := rfl
@[simp] theorem State.setB_cal (f : Fld) (b : Bool) : (s.setB f b).cal = s.cal := rfl
@[simp] theorem State.setB_bist (f : Fld) (b : Bool) : (s.setB f b).bist = s.bist := rfl
@[simp] theorem State.setB_glean (f : Fld) (b : Bool) : (s.setB f b).glean = s.glean := rfl
@[simp] theorem State.setB_mem (f : Fld) (b : Bool) : (s.setB f b).mem = s.mem := rfl
@[simp] theorem State.setB_cxl (f : Fld) (b : Bool) : (s.setB f b).cxl = s.cxl := rfl
@[simp] theorem State.setB_quals (f : Fld) (b : Bool) : (s.setB f b).quals = s.quals := rfl
@[simp] theorem State.setB_sent (f : Fld) (b : Bool) : (s.setB f b).sent = s.sent := rfl
@[simp] theorem State.setB_freeCount (f : Fld) (b : Bool) : (s.setB f b).freeCount = s.freeCount := rfl
@[simp] theorem State.setB_pending (f : Fld) (b : Bool) : (s.setB f b).pending = s.pending := rfl

/-! ### setS -/

@[simp] theorem State.setS_shadows (f : Fld) (v : Int) : (s.setS f v).shadows = s.shadows := rfl
@[simp] theorem State.setS_staging (f : Fld) (v : Int) : (s.setS f v).staging = s.staging := rfl
@[simp] theorem State.setS_readData (f : Fld) (v : Int) : (s.setS f v).readData = s.readData := rfl
@[simp] theorem State.setS_burst (f : Fld) (v : Int) : (s.setS f v).burst = s.burst := rfl
@[simp] theorem State.setS_clock (f : Fld) (v : Int) : (s.setS f v).clock = s.clock := rfl
@[simp] theorem State.setS_msixEnabled (f : Fld) (v : Int) : (s.setS f v).msixEnabled = s.msixEnabled := rfl
@[simp] theorem State.setS_msixMasked (f : Fld) (v : Int) : (s.setS f v).msixMasked = s.msixMasked := rfl
@[simp] theorem State.setS_occ (f : Fld) (v : Int) : (s.setS f v).occ = s.occ := rfl
@[simp] theorem State.setS_occTime (f : Fld) (v : Int) : (s.setS f v).occTime = s.occTime := rfl
@[simp] theorem State.setS_limited (f : Fld) (v : Int) : (s.setS f v).limited = s.limited := rfl
@[simp] theorem State.setS_i3cNotes (f : Fld) (v : Int) : (s.setS f v).i3cNotes = s.i3cNotes := rfl
@[simp] theorem State.setS_i3cAddress (f : Fld) (v : Int) : (s.setS f v).i3cAddress = s.i3cAddress := rfl
@[simp] theorem State.setS_wmpMajor (f : Fld) (v : Int) : (s.setS f v).wmpMajor = s.wmpMajor := rfl
@[simp] theorem State.setS_wmpMinor (f : Fld) (v : Int) : (s.setS f v).wmpMinor = s.wmpMinor := rfl
@[simp] theorem State.setS_mgrInbox (f : Fld) (v : Int) : (s.setS f v).mgrInbox = s.mgrInbox := rfl
@[simp] theorem State.setS_faultTest (f : Fld) (v : Int) : (s.setS f v).faultTest = s.faultTest := rfl
@[simp] theorem State.setS_faultOrder (f : Fld) (v : Int) : (s.setS f v).faultOrder = s.faultOrder := rfl
@[simp] theorem State.setS_stoppedClocks (f : Fld) (v : Int) : (s.setS f v).stoppedClocks = s.stoppedClocks := rfl
@[simp] theorem State.setS_plan (f : Fld) (v : Int) : (s.setS f v).plan = s.plan := rfl
@[simp] theorem State.setS_rx (f : Fld) (v : Int) : (s.setS f v).rx = s.rx := rfl
@[simp] theorem State.setS_tx (f : Fld) (v : Int) : (s.setS f v).tx = s.tx := rfl
@[simp] theorem State.setS_line (f : Fld) (v : Int) : (s.setS f v).line = s.line := rfl
@[simp] theorem State.setS_link (f : Fld) (v : Int) : (s.setS f v).link = s.link := rfl
@[simp] theorem State.setS_neighbours (f : Fld) (v : Int) : (s.setS f v).neighbours = s.neighbours := rfl
@[simp] theorem State.setS_nbHeard (f : Fld) (v : Int) : (s.setS f v).nbHeard = s.nbHeard := rfl
@[simp] theorem State.setS_nbVersions (f : Fld) (v : Int) : (s.setS f v).nbVersions = s.nbVersions := rfl
@[simp] theorem State.setS_label (f : Fld) (v : Int) : (s.setS f v).label = s.label := rfl
@[simp] theorem State.setS_lanes (f : Fld) (v : Int) : (s.setS f v).lanes = s.lanes := rfl
@[simp] theorem State.setS_ports (f : Fld) (v : Int) : (s.setS f v).ports = s.ports := rfl
@[simp] theorem State.setS_time (f : Fld) (v : Int) : (s.setS f v).time = s.time := rfl
@[simp] theorem State.setS_head (f : Fld) (v : Int) : (s.setS f v).head = s.head := rfl
@[simp] theorem State.setS_ana (f : Fld) (v : Int) : (s.setS f v).ana = s.ana := rfl
@[simp] theorem State.setS_sec (f : Fld) (v : Int) : (s.setS f v).sec = s.sec := rfl
@[simp] theorem State.setS_power (f : Fld) (v : Int) : (s.setS f v).power = s.power := rfl
@[simp] theorem State.setS_cal (f : Fld) (v : Int) : (s.setS f v).cal = s.cal := rfl
@[simp] theorem State.setS_bist (f : Fld) (v : Int) : (s.setS f v).bist = s.bist := rfl
@[simp] theorem State.setS_glean (f : Fld) (v : Int) : (s.setS f v).glean = s.glean := rfl
@[simp] theorem State.setS_mem (f : Fld) (v : Int) : (s.setS f v).mem = s.mem := rfl
@[simp] theorem State.setS_cxl (f : Fld) (v : Int) : (s.setS f v).cxl = s.cxl := rfl
@[simp] theorem State.setS_quals (f : Fld) (v : Int) : (s.setS f v).quals = s.quals := rfl
@[simp] theorem State.setS_sent (f : Fld) (v : Int) : (s.setS f v).sent = s.sent := rfl
@[simp] theorem State.setS_freeCount (f : Fld) (v : Int) : (s.setS f v).freeCount = s.freeCount := rfl
@[simp] theorem State.setS_pending (f : Fld) (v : Int) : (s.setS f v).pending = s.pending := rfl

/-! ### bump -/

@[simp] theorem State.bump_shadows (f : Fld) (n : Nat) : (s.bump f n).shadows = s.shadows := rfl
@[simp] theorem State.bump_staging (f : Fld) (n : Nat) : (s.bump f n).staging = s.staging := rfl
@[simp] theorem State.bump_readData (f : Fld) (n : Nat) : (s.bump f n).readData = s.readData := rfl
@[simp] theorem State.bump_burst (f : Fld) (n : Nat) : (s.bump f n).burst = s.burst := rfl
@[simp] theorem State.bump_clock (f : Fld) (n : Nat) : (s.bump f n).clock = s.clock := rfl
@[simp] theorem State.bump_msixEnabled (f : Fld) (n : Nat) : (s.bump f n).msixEnabled = s.msixEnabled := rfl
@[simp] theorem State.bump_msixMasked (f : Fld) (n : Nat) : (s.bump f n).msixMasked = s.msixMasked := rfl
@[simp] theorem State.bump_occ (f : Fld) (n : Nat) : (s.bump f n).occ = s.occ := rfl
@[simp] theorem State.bump_occTime (f : Fld) (n : Nat) : (s.bump f n).occTime = s.occTime := rfl
@[simp] theorem State.bump_limited (f : Fld) (n : Nat) : (s.bump f n).limited = s.limited := rfl
@[simp] theorem State.bump_i3cNotes (f : Fld) (n : Nat) : (s.bump f n).i3cNotes = s.i3cNotes := rfl
@[simp] theorem State.bump_i3cAddress (f : Fld) (n : Nat) : (s.bump f n).i3cAddress = s.i3cAddress := rfl
@[simp] theorem State.bump_wmpMajor (f : Fld) (n : Nat) : (s.bump f n).wmpMajor = s.wmpMajor := rfl
@[simp] theorem State.bump_wmpMinor (f : Fld) (n : Nat) : (s.bump f n).wmpMinor = s.wmpMinor := rfl
@[simp] theorem State.bump_mgrInbox (f : Fld) (n : Nat) : (s.bump f n).mgrInbox = s.mgrInbox := rfl
@[simp] theorem State.bump_faultTest (f : Fld) (n : Nat) : (s.bump f n).faultTest = s.faultTest := rfl
@[simp] theorem State.bump_faultOrder (f : Fld) (n : Nat) : (s.bump f n).faultOrder = s.faultOrder := rfl
@[simp] theorem State.bump_stoppedClocks (f : Fld) (n : Nat) : (s.bump f n).stoppedClocks = s.stoppedClocks := rfl
@[simp] theorem State.bump_plan (f : Fld) (n : Nat) : (s.bump f n).plan = s.plan := rfl
@[simp] theorem State.bump_rx (f : Fld) (n : Nat) : (s.bump f n).rx = s.rx := rfl
@[simp] theorem State.bump_tx (f : Fld) (n : Nat) : (s.bump f n).tx = s.tx := rfl
@[simp] theorem State.bump_line (f : Fld) (n : Nat) : (s.bump f n).line = s.line := rfl
@[simp] theorem State.bump_link (f : Fld) (n : Nat) : (s.bump f n).link = s.link := rfl
@[simp] theorem State.bump_neighbours (f : Fld) (n : Nat) : (s.bump f n).neighbours = s.neighbours := rfl
@[simp] theorem State.bump_nbHeard (f : Fld) (n : Nat) : (s.bump f n).nbHeard = s.nbHeard := rfl
@[simp] theorem State.bump_nbVersions (f : Fld) (n : Nat) : (s.bump f n).nbVersions = s.nbVersions := rfl
@[simp] theorem State.bump_label (f : Fld) (n : Nat) : (s.bump f n).label = s.label := rfl
@[simp] theorem State.bump_lanes (f : Fld) (n : Nat) : (s.bump f n).lanes = s.lanes := rfl
@[simp] theorem State.bump_ports (f : Fld) (n : Nat) : (s.bump f n).ports = s.ports := rfl
@[simp] theorem State.bump_time (f : Fld) (n : Nat) : (s.bump f n).time = s.time := rfl
@[simp] theorem State.bump_head (f : Fld) (n : Nat) : (s.bump f n).head = s.head := rfl
@[simp] theorem State.bump_ana (f : Fld) (n : Nat) : (s.bump f n).ana = s.ana := rfl
@[simp] theorem State.bump_sec (f : Fld) (n : Nat) : (s.bump f n).sec = s.sec := rfl
@[simp] theorem State.bump_power (f : Fld) (n : Nat) : (s.bump f n).power = s.power := rfl
@[simp] theorem State.bump_cal (f : Fld) (n : Nat) : (s.bump f n).cal = s.cal := rfl
@[simp] theorem State.bump_bist (f : Fld) (n : Nat) : (s.bump f n).bist = s.bist := rfl
@[simp] theorem State.bump_glean (f : Fld) (n : Nat) : (s.bump f n).glean = s.glean := rfl
@[simp] theorem State.bump_mem (f : Fld) (n : Nat) : (s.bump f n).mem = s.mem := rfl
@[simp] theorem State.bump_cxl (f : Fld) (n : Nat) : (s.bump f n).cxl = s.cxl := rfl
@[simp] theorem State.bump_quals (f : Fld) (n : Nat) : (s.bump f n).quals = s.quals := rfl
@[simp] theorem State.bump_sent (f : Fld) (n : Nat) : (s.bump f n).sent = s.sent := rfl
@[simp] theorem State.bump_freeCount (f : Fld) (n : Nat) : (s.bump f n).freeCount = s.freeCount := rfl
@[simp] theorem State.bump_pending (f : Fld) (n : Nat) : (s.bump f n).pending = s.pending := rfl

/-! ### setSat -/

@[simp] theorem State.setSat_shadows (f : Fld) (v : Nat) : (s.setSat f v).shadows = s.shadows := rfl
@[simp] theorem State.setSat_staging (f : Fld) (v : Nat) : (s.setSat f v).staging = s.staging := rfl
@[simp] theorem State.setSat_readData (f : Fld) (v : Nat) : (s.setSat f v).readData = s.readData := rfl
@[simp] theorem State.setSat_burst (f : Fld) (v : Nat) : (s.setSat f v).burst = s.burst := rfl
@[simp] theorem State.setSat_clock (f : Fld) (v : Nat) : (s.setSat f v).clock = s.clock := rfl
@[simp] theorem State.setSat_msixEnabled (f : Fld) (v : Nat) : (s.setSat f v).msixEnabled = s.msixEnabled := rfl
@[simp] theorem State.setSat_msixMasked (f : Fld) (v : Nat) : (s.setSat f v).msixMasked = s.msixMasked := rfl
@[simp] theorem State.setSat_occ (f : Fld) (v : Nat) : (s.setSat f v).occ = s.occ := rfl
@[simp] theorem State.setSat_occTime (f : Fld) (v : Nat) : (s.setSat f v).occTime = s.occTime := rfl
@[simp] theorem State.setSat_limited (f : Fld) (v : Nat) : (s.setSat f v).limited = s.limited := rfl
@[simp] theorem State.setSat_i3cNotes (f : Fld) (v : Nat) : (s.setSat f v).i3cNotes = s.i3cNotes := rfl
@[simp] theorem State.setSat_i3cAddress (f : Fld) (v : Nat) : (s.setSat f v).i3cAddress = s.i3cAddress := rfl
@[simp] theorem State.setSat_wmpMajor (f : Fld) (v : Nat) : (s.setSat f v).wmpMajor = s.wmpMajor := rfl
@[simp] theorem State.setSat_wmpMinor (f : Fld) (v : Nat) : (s.setSat f v).wmpMinor = s.wmpMinor := rfl
@[simp] theorem State.setSat_mgrInbox (f : Fld) (v : Nat) : (s.setSat f v).mgrInbox = s.mgrInbox := rfl
@[simp] theorem State.setSat_faultTest (f : Fld) (v : Nat) : (s.setSat f v).faultTest = s.faultTest := rfl
@[simp] theorem State.setSat_faultOrder (f : Fld) (v : Nat) : (s.setSat f v).faultOrder = s.faultOrder := rfl
@[simp] theorem State.setSat_stoppedClocks (f : Fld) (v : Nat) : (s.setSat f v).stoppedClocks = s.stoppedClocks := rfl
@[simp] theorem State.setSat_plan (f : Fld) (v : Nat) : (s.setSat f v).plan = s.plan := rfl
@[simp] theorem State.setSat_rx (f : Fld) (v : Nat) : (s.setSat f v).rx = s.rx := rfl
@[simp] theorem State.setSat_tx (f : Fld) (v : Nat) : (s.setSat f v).tx = s.tx := rfl
@[simp] theorem State.setSat_line (f : Fld) (v : Nat) : (s.setSat f v).line = s.line := rfl
@[simp] theorem State.setSat_link (f : Fld) (v : Nat) : (s.setSat f v).link = s.link := rfl
@[simp] theorem State.setSat_neighbours (f : Fld) (v : Nat) : (s.setSat f v).neighbours = s.neighbours := rfl
@[simp] theorem State.setSat_nbHeard (f : Fld) (v : Nat) : (s.setSat f v).nbHeard = s.nbHeard := rfl
@[simp] theorem State.setSat_nbVersions (f : Fld) (v : Nat) : (s.setSat f v).nbVersions = s.nbVersions := rfl
@[simp] theorem State.setSat_label (f : Fld) (v : Nat) : (s.setSat f v).label = s.label := rfl
@[simp] theorem State.setSat_lanes (f : Fld) (v : Nat) : (s.setSat f v).lanes = s.lanes := rfl
@[simp] theorem State.setSat_ports (f : Fld) (v : Nat) : (s.setSat f v).ports = s.ports := rfl
@[simp] theorem State.setSat_time (f : Fld) (v : Nat) : (s.setSat f v).time = s.time := rfl
@[simp] theorem State.setSat_head (f : Fld) (v : Nat) : (s.setSat f v).head = s.head := rfl
@[simp] theorem State.setSat_ana (f : Fld) (v : Nat) : (s.setSat f v).ana = s.ana := rfl
@[simp] theorem State.setSat_sec (f : Fld) (v : Nat) : (s.setSat f v).sec = s.sec := rfl
@[simp] theorem State.setSat_power (f : Fld) (v : Nat) : (s.setSat f v).power = s.power := rfl
@[simp] theorem State.setSat_cal (f : Fld) (v : Nat) : (s.setSat f v).cal = s.cal := rfl
@[simp] theorem State.setSat_bist (f : Fld) (v : Nat) : (s.setSat f v).bist = s.bist := rfl
@[simp] theorem State.setSat_glean (f : Fld) (v : Nat) : (s.setSat f v).glean = s.glean := rfl
@[simp] theorem State.setSat_mem (f : Fld) (v : Nat) : (s.setSat f v).mem = s.mem := rfl
@[simp] theorem State.setSat_cxl (f : Fld) (v : Nat) : (s.setSat f v).cxl = s.cxl := rfl
@[simp] theorem State.setSat_quals (f : Fld) (v : Nat) : (s.setSat f v).quals = s.quals := rfl
@[simp] theorem State.setSat_sent (f : Fld) (v : Nat) : (s.setSat f v).sent = s.sent := rfl
@[simp] theorem State.setSat_freeCount (f : Fld) (v : Nat) : (s.setSat f v).freeCount = s.freeCount := rfl
@[simp] theorem State.setSat_pending (f : Fld) (v : Nat) : (s.setSat f v).pending = s.pending := rfl

/-! ### wrapAdd -/

@[simp] theorem State.wrapAdd_shadows (f : Fld) (n : Nat) : (s.wrapAdd f n).shadows = s.shadows := rfl
@[simp] theorem State.wrapAdd_staging (f : Fld) (n : Nat) : (s.wrapAdd f n).staging = s.staging := rfl
@[simp] theorem State.wrapAdd_readData (f : Fld) (n : Nat) : (s.wrapAdd f n).readData = s.readData := rfl
@[simp] theorem State.wrapAdd_burst (f : Fld) (n : Nat) : (s.wrapAdd f n).burst = s.burst := rfl
@[simp] theorem State.wrapAdd_clock (f : Fld) (n : Nat) : (s.wrapAdd f n).clock = s.clock := rfl
@[simp] theorem State.wrapAdd_msixEnabled (f : Fld) (n : Nat) : (s.wrapAdd f n).msixEnabled = s.msixEnabled := rfl
@[simp] theorem State.wrapAdd_msixMasked (f : Fld) (n : Nat) : (s.wrapAdd f n).msixMasked = s.msixMasked := rfl
@[simp] theorem State.wrapAdd_occ (f : Fld) (n : Nat) : (s.wrapAdd f n).occ = s.occ := rfl
@[simp] theorem State.wrapAdd_occTime (f : Fld) (n : Nat) : (s.wrapAdd f n).occTime = s.occTime := rfl
@[simp] theorem State.wrapAdd_limited (f : Fld) (n : Nat) : (s.wrapAdd f n).limited = s.limited := rfl
@[simp] theorem State.wrapAdd_i3cNotes (f : Fld) (n : Nat) : (s.wrapAdd f n).i3cNotes = s.i3cNotes := rfl
@[simp] theorem State.wrapAdd_i3cAddress (f : Fld) (n : Nat) : (s.wrapAdd f n).i3cAddress = s.i3cAddress := rfl
@[simp] theorem State.wrapAdd_wmpMajor (f : Fld) (n : Nat) : (s.wrapAdd f n).wmpMajor = s.wmpMajor := rfl
@[simp] theorem State.wrapAdd_wmpMinor (f : Fld) (n : Nat) : (s.wrapAdd f n).wmpMinor = s.wmpMinor := rfl
@[simp] theorem State.wrapAdd_mgrInbox (f : Fld) (n : Nat) : (s.wrapAdd f n).mgrInbox = s.mgrInbox := rfl
@[simp] theorem State.wrapAdd_faultTest (f : Fld) (n : Nat) : (s.wrapAdd f n).faultTest = s.faultTest := rfl
@[simp] theorem State.wrapAdd_faultOrder (f : Fld) (n : Nat) : (s.wrapAdd f n).faultOrder = s.faultOrder := rfl
@[simp] theorem State.wrapAdd_stoppedClocks (f : Fld) (n : Nat) : (s.wrapAdd f n).stoppedClocks = s.stoppedClocks := rfl
@[simp] theorem State.wrapAdd_plan (f : Fld) (n : Nat) : (s.wrapAdd f n).plan = s.plan := rfl
@[simp] theorem State.wrapAdd_rx (f : Fld) (n : Nat) : (s.wrapAdd f n).rx = s.rx := rfl
@[simp] theorem State.wrapAdd_tx (f : Fld) (n : Nat) : (s.wrapAdd f n).tx = s.tx := rfl
@[simp] theorem State.wrapAdd_line (f : Fld) (n : Nat) : (s.wrapAdd f n).line = s.line := rfl
@[simp] theorem State.wrapAdd_link (f : Fld) (n : Nat) : (s.wrapAdd f n).link = s.link := rfl
@[simp] theorem State.wrapAdd_neighbours (f : Fld) (n : Nat) : (s.wrapAdd f n).neighbours = s.neighbours := rfl
@[simp] theorem State.wrapAdd_nbHeard (f : Fld) (n : Nat) : (s.wrapAdd f n).nbHeard = s.nbHeard := rfl
@[simp] theorem State.wrapAdd_nbVersions (f : Fld) (n : Nat) : (s.wrapAdd f n).nbVersions = s.nbVersions := rfl
@[simp] theorem State.wrapAdd_label (f : Fld) (n : Nat) : (s.wrapAdd f n).label = s.label := rfl
@[simp] theorem State.wrapAdd_lanes (f : Fld) (n : Nat) : (s.wrapAdd f n).lanes = s.lanes := rfl
@[simp] theorem State.wrapAdd_ports (f : Fld) (n : Nat) : (s.wrapAdd f n).ports = s.ports := rfl
@[simp] theorem State.wrapAdd_time (f : Fld) (n : Nat) : (s.wrapAdd f n).time = s.time := rfl
@[simp] theorem State.wrapAdd_head (f : Fld) (n : Nat) : (s.wrapAdd f n).head = s.head := rfl
@[simp] theorem State.wrapAdd_ana (f : Fld) (n : Nat) : (s.wrapAdd f n).ana = s.ana := rfl
@[simp] theorem State.wrapAdd_sec (f : Fld) (n : Nat) : (s.wrapAdd f n).sec = s.sec := rfl
@[simp] theorem State.wrapAdd_power (f : Fld) (n : Nat) : (s.wrapAdd f n).power = s.power := rfl
@[simp] theorem State.wrapAdd_cal (f : Fld) (n : Nat) : (s.wrapAdd f n).cal = s.cal := rfl
@[simp] theorem State.wrapAdd_bist (f : Fld) (n : Nat) : (s.wrapAdd f n).bist = s.bist := rfl
@[simp] theorem State.wrapAdd_glean (f : Fld) (n : Nat) : (s.wrapAdd f n).glean = s.glean := rfl
@[simp] theorem State.wrapAdd_mem (f : Fld) (n : Nat) : (s.wrapAdd f n).mem = s.mem := rfl
@[simp] theorem State.wrapAdd_cxl (f : Fld) (n : Nat) : (s.wrapAdd f n).cxl = s.cxl := rfl
@[simp] theorem State.wrapAdd_quals (f : Fld) (n : Nat) : (s.wrapAdd f n).quals = s.quals := rfl
@[simp] theorem State.wrapAdd_sent (f : Fld) (n : Nat) : (s.wrapAdd f n).sent = s.sent := rfl
@[simp] theorem State.wrapAdd_freeCount (f : Fld) (n : Nat) : (s.wrapAdd f n).freeCount = s.freeCount := rfl
@[simp] theorem State.wrapAdd_pending (f : Fld) (n : Nat) : (s.wrapAdd f n).pending = s.pending := rfl

/-! ### set48 -/

@[simp] theorem State.set48_shadows (lo hi : Fld) (v : Nat) : (s.set48 lo hi v).shadows = s.shadows := rfl
@[simp] theorem State.set48_staging (lo hi : Fld) (v : Nat) : (s.set48 lo hi v).staging = s.staging := rfl
@[simp] theorem State.set48_readData (lo hi : Fld) (v : Nat) : (s.set48 lo hi v).readData = s.readData := rfl
@[simp] theorem State.set48_burst (lo hi : Fld) (v : Nat) : (s.set48 lo hi v).burst = s.burst := rfl
@[simp] theorem State.set48_clock (lo hi : Fld) (v : Nat) : (s.set48 lo hi v).clock = s.clock := rfl
@[simp] theorem State.set48_msixEnabled (lo hi : Fld) (v : Nat) : (s.set48 lo hi v).msixEnabled = s.msixEnabled := rfl
@[simp] theorem State.set48_msixMasked (lo hi : Fld) (v : Nat) : (s.set48 lo hi v).msixMasked = s.msixMasked := rfl
@[simp] theorem State.set48_occ (lo hi : Fld) (v : Nat) : (s.set48 lo hi v).occ = s.occ := rfl
@[simp] theorem State.set48_occTime (lo hi : Fld) (v : Nat) : (s.set48 lo hi v).occTime = s.occTime := rfl
@[simp] theorem State.set48_limited (lo hi : Fld) (v : Nat) : (s.set48 lo hi v).limited = s.limited := rfl
@[simp] theorem State.set48_i3cNotes (lo hi : Fld) (v : Nat) : (s.set48 lo hi v).i3cNotes = s.i3cNotes := rfl
@[simp] theorem State.set48_i3cAddress (lo hi : Fld) (v : Nat) : (s.set48 lo hi v).i3cAddress = s.i3cAddress := rfl
@[simp] theorem State.set48_wmpMajor (lo hi : Fld) (v : Nat) : (s.set48 lo hi v).wmpMajor = s.wmpMajor := rfl
@[simp] theorem State.set48_wmpMinor (lo hi : Fld) (v : Nat) : (s.set48 lo hi v).wmpMinor = s.wmpMinor := rfl
@[simp] theorem State.set48_mgrInbox (lo hi : Fld) (v : Nat) : (s.set48 lo hi v).mgrInbox = s.mgrInbox := rfl
@[simp] theorem State.set48_faultTest (lo hi : Fld) (v : Nat) : (s.set48 lo hi v).faultTest = s.faultTest := rfl
@[simp] theorem State.set48_faultOrder (lo hi : Fld) (v : Nat) : (s.set48 lo hi v).faultOrder = s.faultOrder := rfl
@[simp] theorem State.set48_stoppedClocks (lo hi : Fld) (v : Nat) : (s.set48 lo hi v).stoppedClocks = s.stoppedClocks := rfl
@[simp] theorem State.set48_plan (lo hi : Fld) (v : Nat) : (s.set48 lo hi v).plan = s.plan := rfl
@[simp] theorem State.set48_rx (lo hi : Fld) (v : Nat) : (s.set48 lo hi v).rx = s.rx := rfl
@[simp] theorem State.set48_tx (lo hi : Fld) (v : Nat) : (s.set48 lo hi v).tx = s.tx := rfl
@[simp] theorem State.set48_line (lo hi : Fld) (v : Nat) : (s.set48 lo hi v).line = s.line := rfl
@[simp] theorem State.set48_link (lo hi : Fld) (v : Nat) : (s.set48 lo hi v).link = s.link := rfl
@[simp] theorem State.set48_neighbours (lo hi : Fld) (v : Nat) : (s.set48 lo hi v).neighbours = s.neighbours := rfl
@[simp] theorem State.set48_nbHeard (lo hi : Fld) (v : Nat) : (s.set48 lo hi v).nbHeard = s.nbHeard := rfl
@[simp] theorem State.set48_nbVersions (lo hi : Fld) (v : Nat) : (s.set48 lo hi v).nbVersions = s.nbVersions := rfl
@[simp] theorem State.set48_label (lo hi : Fld) (v : Nat) : (s.set48 lo hi v).label = s.label := rfl
@[simp] theorem State.set48_lanes (lo hi : Fld) (v : Nat) : (s.set48 lo hi v).lanes = s.lanes := rfl
@[simp] theorem State.set48_ports (lo hi : Fld) (v : Nat) : (s.set48 lo hi v).ports = s.ports := rfl
@[simp] theorem State.set48_time (lo hi : Fld) (v : Nat) : (s.set48 lo hi v).time = s.time := rfl
@[simp] theorem State.set48_head (lo hi : Fld) (v : Nat) : (s.set48 lo hi v).head = s.head := rfl
@[simp] theorem State.set48_ana (lo hi : Fld) (v : Nat) : (s.set48 lo hi v).ana = s.ana := rfl
@[simp] theorem State.set48_sec (lo hi : Fld) (v : Nat) : (s.set48 lo hi v).sec = s.sec := rfl
@[simp] theorem State.set48_power (lo hi : Fld) (v : Nat) : (s.set48 lo hi v).power = s.power := rfl
@[simp] theorem State.set48_cal (lo hi : Fld) (v : Nat) : (s.set48 lo hi v).cal = s.cal := rfl
@[simp] theorem State.set48_bist (lo hi : Fld) (v : Nat) : (s.set48 lo hi v).bist = s.bist := rfl
@[simp] theorem State.set48_glean (lo hi : Fld) (v : Nat) : (s.set48 lo hi v).glean = s.glean := rfl
@[simp] theorem State.set48_mem (lo hi : Fld) (v : Nat) : (s.set48 lo hi v).mem = s.mem := rfl
@[simp] theorem State.set48_cxl (lo hi : Fld) (v : Nat) : (s.set48 lo hi v).cxl = s.cxl := rfl
@[simp] theorem State.set48_quals (lo hi : Fld) (v : Nat) : (s.set48 lo hi v).quals = s.quals := rfl
@[simp] theorem State.set48_sent (lo hi : Fld) (v : Nat) : (s.set48 lo hi v).sent = s.sent := rfl
@[simp] theorem State.set48_freeCount (lo hi : Fld) (v : Nat) : (s.set48 lo hi v).freeCount = s.freeCount := rfl
@[simp] theorem State.set48_pending (lo hi : Fld) (v : Nat) : (s.set48 lo hi v).pending = s.pending := rfl

/-! ### send -/

@[simp] theorem State.send_regs (o : Out) : (s.send o).regs = s.regs := rfl
@[simp] theorem State.send_shadows (o : Out) : (s.send o).shadows = s.shadows := rfl
@[simp] theorem State.send_staging (o : Out) : (s.send o).staging = s.staging := rfl
@[simp] theorem State.send_readData (o : Out) : (s.send o).readData = s.readData := rfl
@[simp] theorem State.send_burst (o : Out) : (s.send o).burst = s.burst := rfl
@[simp] theorem State.send_clock (o : Out) : (s.send o).clock = s.clock := rfl
@[simp] theorem State.send_msixEnabled (o : Out) : (s.send o).msixEnabled = s.msixEnabled := rfl
@[simp] theorem State.send_msixMasked (o : Out) : (s.send o).msixMasked = s.msixMasked := rfl
@[simp] theorem State.send_occ (o : Out) : (s.send o).occ = s.occ := rfl
@[simp] theorem State.send_occTime (o : Out) : (s.send o).occTime = s.occTime := rfl
@[simp] theorem State.send_limited (o : Out) : (s.send o).limited = s.limited := rfl
@[simp] theorem State.send_i3cNotes (o : Out) : (s.send o).i3cNotes = s.i3cNotes := rfl
@[simp] theorem State.send_i3cAddress (o : Out) : (s.send o).i3cAddress = s.i3cAddress := rfl
@[simp] theorem State.send_wmpMajor (o : Out) : (s.send o).wmpMajor = s.wmpMajor := rfl
@[simp] theorem State.send_wmpMinor (o : Out) : (s.send o).wmpMinor = s.wmpMinor := rfl
@[simp] theorem State.send_mgrInbox (o : Out) : (s.send o).mgrInbox = s.mgrInbox := rfl
@[simp] theorem State.send_faultTest (o : Out) : (s.send o).faultTest = s.faultTest := rfl
@[simp] theorem State.send_faultOrder (o : Out) : (s.send o).faultOrder = s.faultOrder := rfl
@[simp] theorem State.send_stoppedClocks (o : Out) : (s.send o).stoppedClocks = s.stoppedClocks := rfl
@[simp] theorem State.send_plan (o : Out) : (s.send o).plan = s.plan := rfl
@[simp] theorem State.send_rx (o : Out) : (s.send o).rx = s.rx := rfl
@[simp] theorem State.send_tx (o : Out) : (s.send o).tx = s.tx := rfl
@[simp] theorem State.send_line (o : Out) : (s.send o).line = s.line := rfl
@[simp] theorem State.send_link (o : Out) : (s.send o).link = s.link := rfl
@[simp] theorem State.send_neighbours (o : Out) : (s.send o).neighbours = s.neighbours := rfl
@[simp] theorem State.send_nbHeard (o : Out) : (s.send o).nbHeard = s.nbHeard := rfl
@[simp] theorem State.send_nbVersions (o : Out) : (s.send o).nbVersions = s.nbVersions := rfl
@[simp] theorem State.send_label (o : Out) : (s.send o).label = s.label := rfl
@[simp] theorem State.send_lanes (o : Out) : (s.send o).lanes = s.lanes := rfl
@[simp] theorem State.send_ports (o : Out) : (s.send o).ports = s.ports := rfl
@[simp] theorem State.send_time (o : Out) : (s.send o).time = s.time := rfl
@[simp] theorem State.send_head (o : Out) : (s.send o).head = s.head := rfl
@[simp] theorem State.send_ana (o : Out) : (s.send o).ana = s.ana := rfl
@[simp] theorem State.send_sec (o : Out) : (s.send o).sec = s.sec := rfl
@[simp] theorem State.send_power (o : Out) : (s.send o).power = s.power := rfl
@[simp] theorem State.send_cal (o : Out) : (s.send o).cal = s.cal := rfl
@[simp] theorem State.send_bist (o : Out) : (s.send o).bist = s.bist := rfl
@[simp] theorem State.send_glean (o : Out) : (s.send o).glean = s.glean := rfl
@[simp] theorem State.send_mem (o : Out) : (s.send o).mem = s.mem := rfl
@[simp] theorem State.send_cxl (o : Out) : (s.send o).cxl = s.cxl := rfl
@[simp] theorem State.send_quals (o : Out) : (s.send o).quals = s.quals := rfl
@[simp] theorem State.send_sent (o : Out) : (s.send o).sent = o :: s.sent := rfl
@[simp] theorem State.send_freeCount (o : Out) : (s.send o).freeCount = s.freeCount := rfl
@[simp] theorem State.send_pending (o : Out) : (s.send o).pending = s.pending := rfl
@[simp] theorem State.send_rd (o : Out) (x : Nat) : (s.send o).rd x = s.rd x := rfl
@[simp] theorem State.send_get (o : Out) (g : Fld) : (s.send o).get g = s.get g := rfl
@[simp] theorem State.send_on (o : Out) (g : Fld) : (s.send o).on g = s.on g := rfl
@[simp] theorem State.send_getS (o : Out) (g : Fld) : (s.send o).getS g = s.getS g := rfl

/-! ### latch -/

@[simp] theorem State.latch_regs (p : Path) (a : Nat) (w : Word) : (s.latch p a w).regs = s.regs := rfl
@[simp] theorem State.latch_staging (p : Path) (a : Nat) (w : Word) : (s.latch p a w).staging = s.staging := rfl
@[simp] theorem State.latch_readData (p : Path) (a : Nat) (w : Word) : (s.latch p a w).readData = s.readData := rfl
@[simp] theorem State.latch_burst (p : Path) (a : Nat) (w : Word) : (s.latch p a w).burst = s.burst := rfl
@[simp] theorem State.latch_clock (p : Path) (a : Nat) (w : Word) : (s.latch p a w).clock = s.clock := rfl
@[simp] theorem State.latch_msixEnabled (p : Path) (a : Nat) (w : Word) : (s.latch p a w).msixEnabled = s.msixEnabled := rfl
@[simp] theorem State.latch_msixMasked (p : Path) (a : Nat) (w : Word) : (s.latch p a w).msixMasked = s.msixMasked := rfl
@[simp] theorem State.latch_occ (p : Path) (a : Nat) (w : Word) : (s.latch p a w).occ = s.occ := rfl
@[simp] theorem State.latch_occTime (p : Path) (a : Nat) (w : Word) : (s.latch p a w).occTime = s.occTime := rfl
@[simp] theorem State.latch_limited (p : Path) (a : Nat) (w : Word) : (s.latch p a w).limited = s.limited := rfl
@[simp] theorem State.latch_i3cNotes (p : Path) (a : Nat) (w : Word) : (s.latch p a w).i3cNotes = s.i3cNotes := rfl
@[simp] theorem State.latch_i3cAddress (p : Path) (a : Nat) (w : Word) : (s.latch p a w).i3cAddress = s.i3cAddress := rfl
@[simp] theorem State.latch_wmpMajor (p : Path) (a : Nat) (w : Word) : (s.latch p a w).wmpMajor = s.wmpMajor := rfl
@[simp] theorem State.latch_wmpMinor (p : Path) (a : Nat) (w : Word) : (s.latch p a w).wmpMinor = s.wmpMinor := rfl
@[simp] theorem State.latch_mgrInbox (p : Path) (a : Nat) (w : Word) : (s.latch p a w).mgrInbox = s.mgrInbox := rfl
@[simp] theorem State.latch_faultTest (p : Path) (a : Nat) (w : Word) : (s.latch p a w).faultTest = s.faultTest := rfl
@[simp] theorem State.latch_faultOrder (p : Path) (a : Nat) (w : Word) : (s.latch p a w).faultOrder = s.faultOrder := rfl
@[simp] theorem State.latch_stoppedClocks (p : Path) (a : Nat) (w : Word) : (s.latch p a w).stoppedClocks = s.stoppedClocks := rfl
@[simp] theorem State.latch_plan (p : Path) (a : Nat) (w : Word) : (s.latch p a w).plan = s.plan := rfl
@[simp] theorem State.latch_rx (p : Path) (a : Nat) (w : Word) : (s.latch p a w).rx = s.rx := rfl
@[simp] theorem State.latch_tx (p : Path) (a : Nat) (w : Word) : (s.latch p a w).tx = s.tx := rfl
@[simp] theorem State.latch_line (p : Path) (a : Nat) (w : Word) : (s.latch p a w).line = s.line := rfl
@[simp] theorem State.latch_link (p : Path) (a : Nat) (w : Word) : (s.latch p a w).link = s.link := rfl
@[simp] theorem State.latch_neighbours (p : Path) (a : Nat) (w : Word) : (s.latch p a w).neighbours = s.neighbours := rfl
@[simp] theorem State.latch_nbHeard (p : Path) (a : Nat) (w : Word) : (s.latch p a w).nbHeard = s.nbHeard := rfl
@[simp] theorem State.latch_nbVersions (p : Path) (a : Nat) (w : Word) : (s.latch p a w).nbVersions = s.nbVersions := rfl
@[simp] theorem State.latch_label (p : Path) (a : Nat) (w : Word) : (s.latch p a w).label = s.label := rfl
@[simp] theorem State.latch_lanes (p : Path) (a : Nat) (w : Word) : (s.latch p a w).lanes = s.lanes := rfl
@[simp] theorem State.latch_ports (p : Path) (a : Nat) (w : Word) : (s.latch p a w).ports = s.ports := rfl
@[simp] theorem State.latch_time (p : Path) (a : Nat) (w : Word) : (s.latch p a w).time = s.time := rfl
@[simp] theorem State.latch_head (p : Path) (a : Nat) (w : Word) : (s.latch p a w).head = s.head := rfl
@[simp] theorem State.latch_ana (p : Path) (a : Nat) (w : Word) : (s.latch p a w).ana = s.ana := rfl
@[simp] theorem State.latch_sec (p : Path) (a : Nat) (w : Word) : (s.latch p a w).sec = s.sec := rfl
@[simp] theorem State.latch_power (p : Path) (a : Nat) (w : Word) : (s.latch p a w).power = s.power := rfl
@[simp] theorem State.latch_cal (p : Path) (a : Nat) (w : Word) : (s.latch p a w).cal = s.cal := rfl
@[simp] theorem State.latch_bist (p : Path) (a : Nat) (w : Word) : (s.latch p a w).bist = s.bist := rfl
@[simp] theorem State.latch_glean (p : Path) (a : Nat) (w : Word) : (s.latch p a w).glean = s.glean := rfl
@[simp] theorem State.latch_mem (p : Path) (a : Nat) (w : Word) : (s.latch p a w).mem = s.mem := rfl
@[simp] theorem State.latch_cxl (p : Path) (a : Nat) (w : Word) : (s.latch p a w).cxl = s.cxl := rfl
@[simp] theorem State.latch_quals (p : Path) (a : Nat) (w : Word) : (s.latch p a w).quals = s.quals := rfl
@[simp] theorem State.latch_sent (p : Path) (a : Nat) (w : Word) : (s.latch p a w).sent = s.sent := rfl
@[simp] theorem State.latch_freeCount (p : Path) (a : Nat) (w : Word) : (s.latch p a w).freeCount = s.freeCount := rfl
@[simp] theorem State.latch_pending (p : Path) (a : Nat) (w : Word) : (s.latch p a w).pending = s.pending := rfl
@[simp] theorem State.latch_rd (p : Path) (a : Nat) (w : Word) (x : Nat) : (s.latch p a w).rd x = s.rd x := rfl
@[simp] theorem State.latch_get (p : Path) (a : Nat) (w : Word) (g : Fld) : (s.latch p a w).get g = s.get g := rfl
@[simp] theorem State.latch_on (p : Path) (a : Nat) (w : Word) (g : Fld) : (s.latch p a w).on g = s.on g := rfl
@[simp] theorem State.latch_getS (p : Path) (a : Nat) (w : Word) (g : Fld) : (s.latch p a w).getS g = s.getS g := rfl

/-! ### stage -/

@[simp] theorem State.stage_regs (p : Path) (a : Nat) (w : Word) : (s.stage p a w).regs = s.regs := rfl
@[simp] theorem State.stage_shadows (p : Path) (a : Nat) (w : Word) : (s.stage p a w).shadows = s.shadows := rfl
@[simp] theorem State.stage_readData (p : Path) (a : Nat) (w : Word) : (s.stage p a w).readData = s.readData := rfl
@[simp] theorem State.stage_burst (p : Path) (a : Nat) (w : Word) : (s.stage p a w).burst = s.burst := rfl
@[simp] theorem State.stage_clock (p : Path) (a : Nat) (w : Word) : (s.stage p a w).clock = s.clock := rfl
@[simp] theorem State.stage_msixEnabled (p : Path) (a : Nat) (w : Word) : (s.stage p a w).msixEnabled = s.msixEnabled := rfl
@[simp] theorem State.stage_msixMasked (p : Path) (a : Nat) (w : Word) : (s.stage p a w).msixMasked = s.msixMasked := rfl
@[simp] theorem State.stage_occ (p : Path) (a : Nat) (w : Word) : (s.stage p a w).occ = s.occ := rfl
@[simp] theorem State.stage_occTime (p : Path) (a : Nat) (w : Word) : (s.stage p a w).occTime = s.occTime := rfl
@[simp] theorem State.stage_limited (p : Path) (a : Nat) (w : Word) : (s.stage p a w).limited = s.limited := rfl
@[simp] theorem State.stage_i3cNotes (p : Path) (a : Nat) (w : Word) : (s.stage p a w).i3cNotes = s.i3cNotes := rfl
@[simp] theorem State.stage_i3cAddress (p : Path) (a : Nat) (w : Word) : (s.stage p a w).i3cAddress = s.i3cAddress := rfl
@[simp] theorem State.stage_wmpMajor (p : Path) (a : Nat) (w : Word) : (s.stage p a w).wmpMajor = s.wmpMajor := rfl
@[simp] theorem State.stage_wmpMinor (p : Path) (a : Nat) (w : Word) : (s.stage p a w).wmpMinor = s.wmpMinor := rfl
@[simp] theorem State.stage_mgrInbox (p : Path) (a : Nat) (w : Word) : (s.stage p a w).mgrInbox = s.mgrInbox := rfl
@[simp] theorem State.stage_faultTest (p : Path) (a : Nat) (w : Word) : (s.stage p a w).faultTest = s.faultTest := rfl
@[simp] theorem State.stage_faultOrder (p : Path) (a : Nat) (w : Word) : (s.stage p a w).faultOrder = s.faultOrder := rfl
@[simp] theorem State.stage_stoppedClocks (p : Path) (a : Nat) (w : Word) : (s.stage p a w).stoppedClocks = s.stoppedClocks := rfl
@[simp] theorem State.stage_plan (p : Path) (a : Nat) (w : Word) : (s.stage p a w).plan = s.plan := rfl
@[simp] theorem State.stage_rx (p : Path) (a : Nat) (w : Word) : (s.stage p a w).rx = s.rx := rfl
@[simp] theorem State.stage_tx (p : Path) (a : Nat) (w : Word) : (s.stage p a w).tx = s.tx := rfl
@[simp] theorem State.stage_line (p : Path) (a : Nat) (w : Word) : (s.stage p a w).line = s.line := rfl
@[simp] theorem State.stage_link (p : Path) (a : Nat) (w : Word) : (s.stage p a w).link = s.link := rfl
@[simp] theorem State.stage_neighbours (p : Path) (a : Nat) (w : Word) : (s.stage p a w).neighbours = s.neighbours := rfl
@[simp] theorem State.stage_nbHeard (p : Path) (a : Nat) (w : Word) : (s.stage p a w).nbHeard = s.nbHeard := rfl
@[simp] theorem State.stage_nbVersions (p : Path) (a : Nat) (w : Word) : (s.stage p a w).nbVersions = s.nbVersions := rfl
@[simp] theorem State.stage_label (p : Path) (a : Nat) (w : Word) : (s.stage p a w).label = s.label := rfl
@[simp] theorem State.stage_lanes (p : Path) (a : Nat) (w : Word) : (s.stage p a w).lanes = s.lanes := rfl
@[simp] theorem State.stage_ports (p : Path) (a : Nat) (w : Word) : (s.stage p a w).ports = s.ports := rfl
@[simp] theorem State.stage_time (p : Path) (a : Nat) (w : Word) : (s.stage p a w).time = s.time := rfl
@[simp] theorem State.stage_head (p : Path) (a : Nat) (w : Word) : (s.stage p a w).head = s.head := rfl
@[simp] theorem State.stage_ana (p : Path) (a : Nat) (w : Word) : (s.stage p a w).ana = s.ana := rfl
@[simp] theorem State.stage_sec (p : Path) (a : Nat) (w : Word) : (s.stage p a w).sec = s.sec := rfl
@[simp] theorem State.stage_power (p : Path) (a : Nat) (w : Word) : (s.stage p a w).power = s.power := rfl
@[simp] theorem State.stage_cal (p : Path) (a : Nat) (w : Word) : (s.stage p a w).cal = s.cal := rfl
@[simp] theorem State.stage_bist (p : Path) (a : Nat) (w : Word) : (s.stage p a w).bist = s.bist := rfl
@[simp] theorem State.stage_glean (p : Path) (a : Nat) (w : Word) : (s.stage p a w).glean = s.glean := rfl
@[simp] theorem State.stage_mem (p : Path) (a : Nat) (w : Word) : (s.stage p a w).mem = s.mem := rfl
@[simp] theorem State.stage_cxl (p : Path) (a : Nat) (w : Word) : (s.stage p a w).cxl = s.cxl := rfl
@[simp] theorem State.stage_quals (p : Path) (a : Nat) (w : Word) : (s.stage p a w).quals = s.quals := rfl
@[simp] theorem State.stage_sent (p : Path) (a : Nat) (w : Word) : (s.stage p a w).sent = s.sent := rfl
@[simp] theorem State.stage_freeCount (p : Path) (a : Nat) (w : Word) : (s.stage p a w).freeCount = s.freeCount := rfl
@[simp] theorem State.stage_pending (p : Path) (a : Nat) (w : Word) : (s.stage p a w).pending = s.pending := rfl
@[simp] theorem State.stage_rd (p : Path) (a : Nat) (w : Word) (x : Nat) : (s.stage p a w).rd x = s.rd x := rfl
@[simp] theorem State.stage_get (p : Path) (a : Nat) (w : Word) (g : Fld) : (s.stage p a w).get g = s.get g := rfl
@[simp] theorem State.stage_on (p : Path) (a : Nat) (w : Word) (g : Fld) : (s.stage p a w).on g = s.on g := rfl
@[simp] theorem State.stage_getS (p : Path) (a : Nat) (w : Word) (g : Fld) : (s.stage p a w).getS g = s.getS g := rfl

/-! ### onPlan -/

@[simp] theorem State.onPlan_regs (f : PlanSt → PlanSt) : (s.onPlan f).regs = s.regs := rfl
@[simp] theorem State.onPlan_shadows (f : PlanSt → PlanSt) : (s.onPlan f).shadows = s.shadows := rfl
@[simp] theorem State.onPlan_staging (f : PlanSt → PlanSt) : (s.onPlan f).staging = s.staging := rfl
@[simp] theorem State.onPlan_readData (f : PlanSt → PlanSt) : (s.onPlan f).readData = s.readData := rfl
@[simp] theorem State.onPlan_burst (f : PlanSt → PlanSt) : (s.onPlan f).burst = s.burst := rfl
@[simp] theorem State.onPlan_clock (f : PlanSt → PlanSt) : (s.onPlan f).clock = s.clock := rfl
@[simp] theorem State.onPlan_msixEnabled (f : PlanSt → PlanSt) : (s.onPlan f).msixEnabled = s.msixEnabled := rfl
@[simp] theorem State.onPlan_msixMasked (f : PlanSt → PlanSt) : (s.onPlan f).msixMasked = s.msixMasked := rfl
@[simp] theorem State.onPlan_occ (f : PlanSt → PlanSt) : (s.onPlan f).occ = s.occ := rfl
@[simp] theorem State.onPlan_occTime (f : PlanSt → PlanSt) : (s.onPlan f).occTime = s.occTime := rfl
@[simp] theorem State.onPlan_limited (f : PlanSt → PlanSt) : (s.onPlan f).limited = s.limited := rfl
@[simp] theorem State.onPlan_i3cNotes (f : PlanSt → PlanSt) : (s.onPlan f).i3cNotes = s.i3cNotes := rfl
@[simp] theorem State.onPlan_i3cAddress (f : PlanSt → PlanSt) : (s.onPlan f).i3cAddress = s.i3cAddress := rfl
@[simp] theorem State.onPlan_wmpMajor (f : PlanSt → PlanSt) : (s.onPlan f).wmpMajor = s.wmpMajor := rfl
@[simp] theorem State.onPlan_wmpMinor (f : PlanSt → PlanSt) : (s.onPlan f).wmpMinor = s.wmpMinor := rfl
@[simp] theorem State.onPlan_mgrInbox (f : PlanSt → PlanSt) : (s.onPlan f).mgrInbox = s.mgrInbox := rfl
@[simp] theorem State.onPlan_faultTest (f : PlanSt → PlanSt) : (s.onPlan f).faultTest = s.faultTest := rfl
@[simp] theorem State.onPlan_faultOrder (f : PlanSt → PlanSt) : (s.onPlan f).faultOrder = s.faultOrder := rfl
@[simp] theorem State.onPlan_stoppedClocks (f : PlanSt → PlanSt) : (s.onPlan f).stoppedClocks = s.stoppedClocks := rfl
@[simp] theorem State.onPlan_plan (f : PlanSt → PlanSt) : (s.onPlan f).plan = f s.plan := rfl
@[simp] theorem State.onPlan_rx (f : PlanSt → PlanSt) : (s.onPlan f).rx = s.rx := rfl
@[simp] theorem State.onPlan_tx (f : PlanSt → PlanSt) : (s.onPlan f).tx = s.tx := rfl
@[simp] theorem State.onPlan_line (f : PlanSt → PlanSt) : (s.onPlan f).line = s.line := rfl
@[simp] theorem State.onPlan_link (f : PlanSt → PlanSt) : (s.onPlan f).link = s.link := rfl
@[simp] theorem State.onPlan_neighbours (f : PlanSt → PlanSt) : (s.onPlan f).neighbours = s.neighbours := rfl
@[simp] theorem State.onPlan_nbHeard (f : PlanSt → PlanSt) : (s.onPlan f).nbHeard = s.nbHeard := rfl
@[simp] theorem State.onPlan_nbVersions (f : PlanSt → PlanSt) : (s.onPlan f).nbVersions = s.nbVersions := rfl
@[simp] theorem State.onPlan_label (f : PlanSt → PlanSt) : (s.onPlan f).label = s.label := rfl
@[simp] theorem State.onPlan_lanes (f : PlanSt → PlanSt) : (s.onPlan f).lanes = s.lanes := rfl
@[simp] theorem State.onPlan_ports (f : PlanSt → PlanSt) : (s.onPlan f).ports = s.ports := rfl
@[simp] theorem State.onPlan_time (f : PlanSt → PlanSt) : (s.onPlan f).time = s.time := rfl
@[simp] theorem State.onPlan_head (f : PlanSt → PlanSt) : (s.onPlan f).head = s.head := rfl
@[simp] theorem State.onPlan_ana (f : PlanSt → PlanSt) : (s.onPlan f).ana = s.ana := rfl
@[simp] theorem State.onPlan_sec (f : PlanSt → PlanSt) : (s.onPlan f).sec = s.sec := rfl
@[simp] theorem State.onPlan_power (f : PlanSt → PlanSt) : (s.onPlan f).power = s.power := rfl
@[simp] theorem State.onPlan_cal (f : PlanSt → PlanSt) : (s.onPlan f).cal = s.cal := rfl
@[simp] theorem State.onPlan_bist (f : PlanSt → PlanSt) : (s.onPlan f).bist = s.bist := rfl
@[simp] theorem State.onPlan_glean (f : PlanSt → PlanSt) : (s.onPlan f).glean = s.glean := rfl
@[simp] theorem State.onPlan_mem (f : PlanSt → PlanSt) : (s.onPlan f).mem = s.mem := rfl
@[simp] theorem State.onPlan_cxl (f : PlanSt → PlanSt) : (s.onPlan f).cxl = s.cxl := rfl
@[simp] theorem State.onPlan_quals (f : PlanSt → PlanSt) : (s.onPlan f).quals = s.quals := rfl
@[simp] theorem State.onPlan_sent (f : PlanSt → PlanSt) : (s.onPlan f).sent = s.sent := rfl
@[simp] theorem State.onPlan_freeCount (f : PlanSt → PlanSt) : (s.onPlan f).freeCount = s.freeCount := rfl
@[simp] theorem State.onPlan_pending (f : PlanSt → PlanSt) : (s.onPlan f).pending = s.pending := rfl
@[simp] theorem State.onPlan_rd (f : PlanSt → PlanSt) (x : Nat) : (s.onPlan f).rd x = s.rd x := rfl
@[simp] theorem State.onPlan_get (f : PlanSt → PlanSt) (g : Fld) : (s.onPlan f).get g = s.get g := rfl
@[simp] theorem State.onPlan_on (f : PlanSt → PlanSt) (g : Fld) : (s.onPlan f).on g = s.on g := rfl
@[simp] theorem State.onPlan_getS (f : PlanSt → PlanSt) (g : Fld) : (s.onPlan f).getS g = s.getS g := rfl

/-! ### onRx -/

@[simp] theorem State.onRx_regs (c : Carrier) (f : RxSt → RxSt) : (s.onRx c f).regs = s.regs := rfl
@[simp] theorem State.onRx_shadows (c : Carrier) (f : RxSt → RxSt) : (s.onRx c f).shadows = s.shadows := rfl
@[simp] theorem State.onRx_staging (c : Carrier) (f : RxSt → RxSt) : (s.onRx c f).staging = s.staging := rfl
@[simp] theorem State.onRx_readData (c : Carrier) (f : RxSt → RxSt) : (s.onRx c f).readData = s.readData := rfl
@[simp] theorem State.onRx_burst (c : Carrier) (f : RxSt → RxSt) : (s.onRx c f).burst = s.burst := rfl
@[simp] theorem State.onRx_clock (c : Carrier) (f : RxSt → RxSt) : (s.onRx c f).clock = s.clock := rfl
@[simp] theorem State.onRx_msixEnabled (c : Carrier) (f : RxSt → RxSt) : (s.onRx c f).msixEnabled = s.msixEnabled := rfl
@[simp] theorem State.onRx_msixMasked (c : Carrier) (f : RxSt → RxSt) : (s.onRx c f).msixMasked = s.msixMasked := rfl
@[simp] theorem State.onRx_occ (c : Carrier) (f : RxSt → RxSt) : (s.onRx c f).occ = s.occ := rfl
@[simp] theorem State.onRx_occTime (c : Carrier) (f : RxSt → RxSt) : (s.onRx c f).occTime = s.occTime := rfl
@[simp] theorem State.onRx_limited (c : Carrier) (f : RxSt → RxSt) : (s.onRx c f).limited = s.limited := rfl
@[simp] theorem State.onRx_i3cNotes (c : Carrier) (f : RxSt → RxSt) : (s.onRx c f).i3cNotes = s.i3cNotes := rfl
@[simp] theorem State.onRx_i3cAddress (c : Carrier) (f : RxSt → RxSt) : (s.onRx c f).i3cAddress = s.i3cAddress := rfl
@[simp] theorem State.onRx_wmpMajor (c : Carrier) (f : RxSt → RxSt) : (s.onRx c f).wmpMajor = s.wmpMajor := rfl
@[simp] theorem State.onRx_wmpMinor (c : Carrier) (f : RxSt → RxSt) : (s.onRx c f).wmpMinor = s.wmpMinor := rfl
@[simp] theorem State.onRx_mgrInbox (c : Carrier) (f : RxSt → RxSt) : (s.onRx c f).mgrInbox = s.mgrInbox := rfl
@[simp] theorem State.onRx_faultTest (c : Carrier) (f : RxSt → RxSt) : (s.onRx c f).faultTest = s.faultTest := rfl
@[simp] theorem State.onRx_faultOrder (c : Carrier) (f : RxSt → RxSt) : (s.onRx c f).faultOrder = s.faultOrder := rfl
@[simp] theorem State.onRx_stoppedClocks (c : Carrier) (f : RxSt → RxSt) : (s.onRx c f).stoppedClocks = s.stoppedClocks := rfl
@[simp] theorem State.onRx_plan (c : Carrier) (f : RxSt → RxSt) : (s.onRx c f).plan = s.plan := rfl
@[simp] theorem State.onRx_rx (c : Carrier) (f : RxSt → RxSt) : (s.onRx c f).rx = s.rx.upd c f := rfl
@[simp] theorem State.onRx_tx (c : Carrier) (f : RxSt → RxSt) : (s.onRx c f).tx = s.tx := rfl
@[simp] theorem State.onRx_line (c : Carrier) (f : RxSt → RxSt) : (s.onRx c f).line = s.line := rfl
@[simp] theorem State.onRx_link (c : Carrier) (f : RxSt → RxSt) : (s.onRx c f).link = s.link := rfl
@[simp] theorem State.onRx_neighbours (c : Carrier) (f : RxSt → RxSt) : (s.onRx c f).neighbours = s.neighbours := rfl
@[simp] theorem State.onRx_nbHeard (c : Carrier) (f : RxSt → RxSt) : (s.onRx c f).nbHeard = s.nbHeard := rfl
@[simp] theorem State.onRx_nbVersions (c : Carrier) (f : RxSt → RxSt) : (s.onRx c f).nbVersions = s.nbVersions := rfl
@[simp] theorem State.onRx_label (c : Carrier) (f : RxSt → RxSt) : (s.onRx c f).label = s.label := rfl
@[simp] theorem State.onRx_lanes (c : Carrier) (f : RxSt → RxSt) : (s.onRx c f).lanes = s.lanes := rfl
@[simp] theorem State.onRx_ports (c : Carrier) (f : RxSt → RxSt) : (s.onRx c f).ports = s.ports := rfl
@[simp] theorem State.onRx_time (c : Carrier) (f : RxSt → RxSt) : (s.onRx c f).time = s.time := rfl
@[simp] theorem State.onRx_head (c : Carrier) (f : RxSt → RxSt) : (s.onRx c f).head = s.head := rfl
@[simp] theorem State.onRx_ana (c : Carrier) (f : RxSt → RxSt) : (s.onRx c f).ana = s.ana := rfl
@[simp] theorem State.onRx_sec (c : Carrier) (f : RxSt → RxSt) : (s.onRx c f).sec = s.sec := rfl
@[simp] theorem State.onRx_power (c : Carrier) (f : RxSt → RxSt) : (s.onRx c f).power = s.power := rfl
@[simp] theorem State.onRx_cal (c : Carrier) (f : RxSt → RxSt) : (s.onRx c f).cal = s.cal := rfl
@[simp] theorem State.onRx_bist (c : Carrier) (f : RxSt → RxSt) : (s.onRx c f).bist = s.bist := rfl
@[simp] theorem State.onRx_glean (c : Carrier) (f : RxSt → RxSt) : (s.onRx c f).glean = s.glean := rfl
@[simp] theorem State.onRx_mem (c : Carrier) (f : RxSt → RxSt) : (s.onRx c f).mem = s.mem := rfl
@[simp] theorem State.onRx_cxl (c : Carrier) (f : RxSt → RxSt) : (s.onRx c f).cxl = s.cxl := rfl
@[simp] theorem State.onRx_quals (c : Carrier) (f : RxSt → RxSt) : (s.onRx c f).quals = s.quals := rfl
@[simp] theorem State.onRx_sent (c : Carrier) (f : RxSt → RxSt) : (s.onRx c f).sent = s.sent := rfl
@[simp] theorem State.onRx_freeCount (c : Carrier) (f : RxSt → RxSt) : (s.onRx c f).freeCount = s.freeCount := rfl
@[simp] theorem State.onRx_pending (c : Carrier) (f : RxSt → RxSt) : (s.onRx c f).pending = s.pending := rfl
@[simp] theorem State.onRx_rd (c : Carrier) (f : RxSt → RxSt) (x : Nat) : (s.onRx c f).rd x = s.rd x := rfl
@[simp] theorem State.onRx_get (c : Carrier) (f : RxSt → RxSt) (g : Fld) : (s.onRx c f).get g = s.get g := rfl
@[simp] theorem State.onRx_on (c : Carrier) (f : RxSt → RxSt) (g : Fld) : (s.onRx c f).on g = s.on g := rfl
@[simp] theorem State.onRx_getS (c : Carrier) (f : RxSt → RxSt) (g : Fld) : (s.onRx c f).getS g = s.getS g := rfl

/-! ### onTx -/

@[simp] theorem State.onTx_regs (c : Carrier) (f : TxSt → TxSt) : (s.onTx c f).regs = s.regs := rfl
@[simp] theorem State.onTx_shadows (c : Carrier) (f : TxSt → TxSt) : (s.onTx c f).shadows = s.shadows := rfl
@[simp] theorem State.onTx_staging (c : Carrier) (f : TxSt → TxSt) : (s.onTx c f).staging = s.staging := rfl
@[simp] theorem State.onTx_readData (c : Carrier) (f : TxSt → TxSt) : (s.onTx c f).readData = s.readData := rfl
@[simp] theorem State.onTx_burst (c : Carrier) (f : TxSt → TxSt) : (s.onTx c f).burst = s.burst := rfl
@[simp] theorem State.onTx_clock (c : Carrier) (f : TxSt → TxSt) : (s.onTx c f).clock = s.clock := rfl
@[simp] theorem State.onTx_msixEnabled (c : Carrier) (f : TxSt → TxSt) : (s.onTx c f).msixEnabled = s.msixEnabled := rfl
@[simp] theorem State.onTx_msixMasked (c : Carrier) (f : TxSt → TxSt) : (s.onTx c f).msixMasked = s.msixMasked := rfl
@[simp] theorem State.onTx_occ (c : Carrier) (f : TxSt → TxSt) : (s.onTx c f).occ = s.occ := rfl
@[simp] theorem State.onTx_occTime (c : Carrier) (f : TxSt → TxSt) : (s.onTx c f).occTime = s.occTime := rfl
@[simp] theorem State.onTx_limited (c : Carrier) (f : TxSt → TxSt) : (s.onTx c f).limited = s.limited := rfl
@[simp] theorem State.onTx_i3cNotes (c : Carrier) (f : TxSt → TxSt) : (s.onTx c f).i3cNotes = s.i3cNotes := rfl
@[simp] theorem State.onTx_i3cAddress (c : Carrier) (f : TxSt → TxSt) : (s.onTx c f).i3cAddress = s.i3cAddress := rfl
@[simp] theorem State.onTx_wmpMajor (c : Carrier) (f : TxSt → TxSt) : (s.onTx c f).wmpMajor = s.wmpMajor := rfl
@[simp] theorem State.onTx_wmpMinor (c : Carrier) (f : TxSt → TxSt) : (s.onTx c f).wmpMinor = s.wmpMinor := rfl
@[simp] theorem State.onTx_mgrInbox (c : Carrier) (f : TxSt → TxSt) : (s.onTx c f).mgrInbox = s.mgrInbox := rfl
@[simp] theorem State.onTx_faultTest (c : Carrier) (f : TxSt → TxSt) : (s.onTx c f).faultTest = s.faultTest := rfl
@[simp] theorem State.onTx_faultOrder (c : Carrier) (f : TxSt → TxSt) : (s.onTx c f).faultOrder = s.faultOrder := rfl
@[simp] theorem State.onTx_stoppedClocks (c : Carrier) (f : TxSt → TxSt) : (s.onTx c f).stoppedClocks = s.stoppedClocks := rfl
@[simp] theorem State.onTx_plan (c : Carrier) (f : TxSt → TxSt) : (s.onTx c f).plan = s.plan := rfl
@[simp] theorem State.onTx_rx (c : Carrier) (f : TxSt → TxSt) : (s.onTx c f).rx = s.rx := rfl
@[simp] theorem State.onTx_tx (c : Carrier) (f : TxSt → TxSt) : (s.onTx c f).tx = s.tx.upd c f := rfl
@[simp] theorem State.onTx_line (c : Carrier) (f : TxSt → TxSt) : (s.onTx c f).line = s.line := rfl
@[simp] theorem State.onTx_link (c : Carrier) (f : TxSt → TxSt) : (s.onTx c f).link = s.link := rfl
@[simp] theorem State.onTx_neighbours (c : Carrier) (f : TxSt → TxSt) : (s.onTx c f).neighbours = s.neighbours := rfl
@[simp] theorem State.onTx_nbHeard (c : Carrier) (f : TxSt → TxSt) : (s.onTx c f).nbHeard = s.nbHeard := rfl
@[simp] theorem State.onTx_nbVersions (c : Carrier) (f : TxSt → TxSt) : (s.onTx c f).nbVersions = s.nbVersions := rfl
@[simp] theorem State.onTx_label (c : Carrier) (f : TxSt → TxSt) : (s.onTx c f).label = s.label := rfl
@[simp] theorem State.onTx_lanes (c : Carrier) (f : TxSt → TxSt) : (s.onTx c f).lanes = s.lanes := rfl
@[simp] theorem State.onTx_ports (c : Carrier) (f : TxSt → TxSt) : (s.onTx c f).ports = s.ports := rfl
@[simp] theorem State.onTx_time (c : Carrier) (f : TxSt → TxSt) : (s.onTx c f).time = s.time := rfl
@[simp] theorem State.onTx_head (c : Carrier) (f : TxSt → TxSt) : (s.onTx c f).head = s.head := rfl
@[simp] theorem State.onTx_ana (c : Carrier) (f : TxSt → TxSt) : (s.onTx c f).ana = s.ana := rfl
@[simp] theorem State.onTx_sec (c : Carrier) (f : TxSt → TxSt) : (s.onTx c f).sec = s.sec := rfl
@[simp] theorem State.onTx_power (c : Carrier) (f : TxSt → TxSt) : (s.onTx c f).power = s.power := rfl
@[simp] theorem State.onTx_cal (c : Carrier) (f : TxSt → TxSt) : (s.onTx c f).cal = s.cal := rfl
@[simp] theorem State.onTx_bist (c : Carrier) (f : TxSt → TxSt) : (s.onTx c f).bist = s.bist := rfl
@[simp] theorem State.onTx_glean (c : Carrier) (f : TxSt → TxSt) : (s.onTx c f).glean = s.glean := rfl
@[simp] theorem State.onTx_mem (c : Carrier) (f : TxSt → TxSt) : (s.onTx c f).mem = s.mem := rfl
@[simp] theorem State.onTx_cxl (c : Carrier) (f : TxSt → TxSt) : (s.onTx c f).cxl = s.cxl := rfl
@[simp] theorem State.onTx_quals (c : Carrier) (f : TxSt → TxSt) : (s.onTx c f).quals = s.quals := rfl
@[simp] theorem State.onTx_sent (c : Carrier) (f : TxSt → TxSt) : (s.onTx c f).sent = s.sent := rfl
@[simp] theorem State.onTx_freeCount (c : Carrier) (f : TxSt → TxSt) : (s.onTx c f).freeCount = s.freeCount := rfl
@[simp] theorem State.onTx_pending (c : Carrier) (f : TxSt → TxSt) : (s.onTx c f).pending = s.pending := rfl
@[simp] theorem State.onTx_rd (c : Carrier) (f : TxSt → TxSt) (x : Nat) : (s.onTx c f).rd x = s.rd x := rfl
@[simp] theorem State.onTx_get (c : Carrier) (f : TxSt → TxSt) (g : Fld) : (s.onTx c f).get g = s.get g := rfl
@[simp] theorem State.onTx_on (c : Carrier) (f : TxSt → TxSt) (g : Fld) : (s.onTx c f).on g = s.on g := rfl
@[simp] theorem State.onTx_getS (c : Carrier) (f : TxSt → TxSt) (g : Fld) : (s.onTx c f).getS g = s.getS g := rfl

/-! ### onLine -/

@[simp] theorem State.onLine_regs (c : Carrier) (f : LineSt → LineSt) : (s.onLine c f).regs = s.regs := rfl
@[simp] theorem State.onLine_shadows (c : Carrier) (f : LineSt → LineSt) : (s.onLine c f).shadows = s.shadows := rfl
@[simp] theorem State.onLine_staging (c : Carrier) (f : LineSt → LineSt) : (s.onLine c f).staging = s.staging := rfl
@[simp] theorem State.onLine_readData (c : Carrier) (f : LineSt → LineSt) : (s.onLine c f).readData = s.readData := rfl
@[simp] theorem State.onLine_burst (c : Carrier) (f : LineSt → LineSt) : (s.onLine c f).burst = s.burst := rfl
@[simp] theorem State.onLine_clock (c : Carrier) (f : LineSt → LineSt) : (s.onLine c f).clock = s.clock := rfl
@[simp] theorem State.onLine_msixEnabled (c : Carrier) (f : LineSt → LineSt) : (s.onLine c f).msixEnabled = s.msixEnabled := rfl
@[simp] theorem State.onLine_msixMasked (c : Carrier) (f : LineSt → LineSt) : (s.onLine c f).msixMasked = s.msixMasked := rfl
@[simp] theorem State.onLine_occ (c : Carrier) (f : LineSt → LineSt) : (s.onLine c f).occ = s.occ := rfl
@[simp] theorem State.onLine_occTime (c : Carrier) (f : LineSt → LineSt) : (s.onLine c f).occTime = s.occTime := rfl
@[simp] theorem State.onLine_limited (c : Carrier) (f : LineSt → LineSt) : (s.onLine c f).limited = s.limited := rfl
@[simp] theorem State.onLine_i3cNotes (c : Carrier) (f : LineSt → LineSt) : (s.onLine c f).i3cNotes = s.i3cNotes := rfl
@[simp] theorem State.onLine_i3cAddress (c : Carrier) (f : LineSt → LineSt) : (s.onLine c f).i3cAddress = s.i3cAddress := rfl
@[simp] theorem State.onLine_wmpMajor (c : Carrier) (f : LineSt → LineSt) : (s.onLine c f).wmpMajor = s.wmpMajor := rfl
@[simp] theorem State.onLine_wmpMinor (c : Carrier) (f : LineSt → LineSt) : (s.onLine c f).wmpMinor = s.wmpMinor := rfl
@[simp] theorem State.onLine_mgrInbox (c : Carrier) (f : LineSt → LineSt) : (s.onLine c f).mgrInbox = s.mgrInbox := rfl
@[simp] theorem State.onLine_faultTest (c : Carrier) (f : LineSt → LineSt) : (s.onLine c f).faultTest = s.faultTest := rfl
@[simp] theorem State.onLine_faultOrder (c : Carrier) (f : LineSt → LineSt) : (s.onLine c f).faultOrder = s.faultOrder := rfl
@[simp] theorem State.onLine_stoppedClocks (c : Carrier) (f : LineSt → LineSt) : (s.onLine c f).stoppedClocks = s.stoppedClocks := rfl
@[simp] theorem State.onLine_plan (c : Carrier) (f : LineSt → LineSt) : (s.onLine c f).plan = s.plan := rfl
@[simp] theorem State.onLine_rx (c : Carrier) (f : LineSt → LineSt) : (s.onLine c f).rx = s.rx := rfl
@[simp] theorem State.onLine_tx (c : Carrier) (f : LineSt → LineSt) : (s.onLine c f).tx = s.tx := rfl
@[simp] theorem State.onLine_line (c : Carrier) (f : LineSt → LineSt) : (s.onLine c f).line = s.line.upd c f := rfl
@[simp] theorem State.onLine_link (c : Carrier) (f : LineSt → LineSt) : (s.onLine c f).link = s.link := rfl
@[simp] theorem State.onLine_neighbours (c : Carrier) (f : LineSt → LineSt) : (s.onLine c f).neighbours = s.neighbours := rfl
@[simp] theorem State.onLine_nbHeard (c : Carrier) (f : LineSt → LineSt) : (s.onLine c f).nbHeard = s.nbHeard := rfl
@[simp] theorem State.onLine_nbVersions (c : Carrier) (f : LineSt → LineSt) : (s.onLine c f).nbVersions = s.nbVersions := rfl
@[simp] theorem State.onLine_label (c : Carrier) (f : LineSt → LineSt) : (s.onLine c f).label = s.label := rfl
@[simp] theorem State.onLine_lanes (c : Carrier) (f : LineSt → LineSt) : (s.onLine c f).lanes = s.lanes := rfl
@[simp] theorem State.onLine_ports (c : Carrier) (f : LineSt → LineSt) : (s.onLine c f).ports = s.ports := rfl
@[simp] theorem State.onLine_time (c : Carrier) (f : LineSt → LineSt) : (s.onLine c f).time = s.time := rfl
@[simp] theorem State.onLine_head (c : Carrier) (f : LineSt → LineSt) : (s.onLine c f).head = s.head := rfl
@[simp] theorem State.onLine_ana (c : Carrier) (f : LineSt → LineSt) : (s.onLine c f).ana = s.ana := rfl
@[simp] theorem State.onLine_sec (c : Carrier) (f : LineSt → LineSt) : (s.onLine c f).sec = s.sec := rfl
@[simp] theorem State.onLine_power (c : Carrier) (f : LineSt → LineSt) : (s.onLine c f).power = s.power := rfl
@[simp] theorem State.onLine_cal (c : Carrier) (f : LineSt → LineSt) : (s.onLine c f).cal = s.cal := rfl
@[simp] theorem State.onLine_bist (c : Carrier) (f : LineSt → LineSt) : (s.onLine c f).bist = s.bist := rfl
@[simp] theorem State.onLine_glean (c : Carrier) (f : LineSt → LineSt) : (s.onLine c f).glean = s.glean := rfl
@[simp] theorem State.onLine_mem (c : Carrier) (f : LineSt → LineSt) : (s.onLine c f).mem = s.mem := rfl
@[simp] theorem State.onLine_cxl (c : Carrier) (f : LineSt → LineSt) : (s.onLine c f).cxl = s.cxl := rfl
@[simp] theorem State.onLine_quals (c : Carrier) (f : LineSt → LineSt) : (s.onLine c f).quals = s.quals := rfl
@[simp] theorem State.onLine_sent (c : Carrier) (f : LineSt → LineSt) : (s.onLine c f).sent = s.sent := rfl
@[simp] theorem State.onLine_freeCount (c : Carrier) (f : LineSt → LineSt) : (s.onLine c f).freeCount = s.freeCount := rfl
@[simp] theorem State.onLine_pending (c : Carrier) (f : LineSt → LineSt) : (s.onLine c f).pending = s.pending := rfl
@[simp] theorem State.onLine_rd (c : Carrier) (f : LineSt → LineSt) (x : Nat) : (s.onLine c f).rd x = s.rd x := rfl
@[simp] theorem State.onLine_get (c : Carrier) (f : LineSt → LineSt) (g : Fld) : (s.onLine c f).get g = s.get g := rfl
@[simp] theorem State.onLine_on (c : Carrier) (f : LineSt → LineSt) (g : Fld) : (s.onLine c f).on g = s.on g := rfl
@[simp] theorem State.onLine_getS (c : Carrier) (f : LineSt → LineSt) (g : Fld) : (s.onLine c f).getS g = s.getS g := rfl

/-! ### onLink -/

@[simp] theorem State.onLink_regs (c : Carrier) (f : LinkSt → LinkSt) : (s.onLink c f).regs = s.regs := rfl
@[simp] theorem State.onLink_shadows (c : Carrier) (f : LinkSt → LinkSt) : (s.onLink c f).shadows = s.shadows := rfl
@[simp] theorem State.onLink_staging (c : Carrier) (f : LinkSt → LinkSt) : (s.onLink c f).staging = s.staging := rfl
@[simp] theorem State.onLink_readData (c : Carrier) (f : LinkSt → LinkSt) : (s.onLink c f).readData = s.readData := rfl
@[simp] theorem State.onLink_burst (c : Carrier) (f : LinkSt → LinkSt) : (s.onLink c f).burst = s.burst := rfl
@[simp] theorem State.onLink_clock (c : Carrier) (f : LinkSt → LinkSt) : (s.onLink c f).clock = s.clock := rfl
@[simp] theorem State.onLink_msixEnabled (c : Carrier) (f : LinkSt → LinkSt) : (s.onLink c f).msixEnabled = s.msixEnabled := rfl
@[simp] theorem State.onLink_msixMasked (c : Carrier) (f : LinkSt → LinkSt) : (s.onLink c f).msixMasked = s.msixMasked := rfl
@[simp] theorem State.onLink_occ (c : Carrier) (f : LinkSt → LinkSt) : (s.onLink c f).occ = s.occ := rfl
@[simp] theorem State.onLink_occTime (c : Carrier) (f : LinkSt → LinkSt) : (s.onLink c f).occTime = s.occTime := rfl
@[simp] theorem State.onLink_limited (c : Carrier) (f : LinkSt → LinkSt) : (s.onLink c f).limited = s.limited := rfl
@[simp] theorem State.onLink_i3cNotes (c : Carrier) (f : LinkSt → LinkSt) : (s.onLink c f).i3cNotes = s.i3cNotes := rfl
@[simp] theorem State.onLink_i3cAddress (c : Carrier) (f : LinkSt → LinkSt) : (s.onLink c f).i3cAddress = s.i3cAddress := rfl
@[simp] theorem State.onLink_wmpMajor (c : Carrier) (f : LinkSt → LinkSt) : (s.onLink c f).wmpMajor = s.wmpMajor := rfl
@[simp] theorem State.onLink_wmpMinor (c : Carrier) (f : LinkSt → LinkSt) : (s.onLink c f).wmpMinor = s.wmpMinor := rfl
@[simp] theorem State.onLink_mgrInbox (c : Carrier) (f : LinkSt → LinkSt) : (s.onLink c f).mgrInbox = s.mgrInbox := rfl
@[simp] theorem State.onLink_faultTest (c : Carrier) (f : LinkSt → LinkSt) : (s.onLink c f).faultTest = s.faultTest := rfl
@[simp] theorem State.onLink_faultOrder (c : Carrier) (f : LinkSt → LinkSt) : (s.onLink c f).faultOrder = s.faultOrder := rfl
@[simp] theorem State.onLink_stoppedClocks (c : Carrier) (f : LinkSt → LinkSt) : (s.onLink c f).stoppedClocks = s.stoppedClocks := rfl
@[simp] theorem State.onLink_plan (c : Carrier) (f : LinkSt → LinkSt) : (s.onLink c f).plan = s.plan := rfl
@[simp] theorem State.onLink_rx (c : Carrier) (f : LinkSt → LinkSt) : (s.onLink c f).rx = s.rx := rfl
@[simp] theorem State.onLink_tx (c : Carrier) (f : LinkSt → LinkSt) : (s.onLink c f).tx = s.tx := rfl
@[simp] theorem State.onLink_line (c : Carrier) (f : LinkSt → LinkSt) : (s.onLink c f).line = s.line := rfl
@[simp] theorem State.onLink_link (c : Carrier) (f : LinkSt → LinkSt) : (s.onLink c f).link = s.link.upd c f := rfl
@[simp] theorem State.onLink_neighbours (c : Carrier) (f : LinkSt → LinkSt) : (s.onLink c f).neighbours = s.neighbours := rfl
@[simp] theorem State.onLink_nbHeard (c : Carrier) (f : LinkSt → LinkSt) : (s.onLink c f).nbHeard = s.nbHeard := rfl
@[simp] theorem State.onLink_nbVersions (c : Carrier) (f : LinkSt → LinkSt) : (s.onLink c f).nbVersions = s.nbVersions := rfl
@[simp] theorem State.onLink_label (c : Carrier) (f : LinkSt → LinkSt) : (s.onLink c f).label = s.label := rfl
@[simp] theorem State.onLink_lanes (c : Carrier) (f : LinkSt → LinkSt) : (s.onLink c f).lanes = s.lanes := rfl
@[simp] theorem State.onLink_ports (c : Carrier) (f : LinkSt → LinkSt) : (s.onLink c f).ports = s.ports := rfl
@[simp] theorem State.onLink_time (c : Carrier) (f : LinkSt → LinkSt) : (s.onLink c f).time = s.time := rfl
@[simp] theorem State.onLink_head (c : Carrier) (f : LinkSt → LinkSt) : (s.onLink c f).head = s.head := rfl
@[simp] theorem State.onLink_ana (c : Carrier) (f : LinkSt → LinkSt) : (s.onLink c f).ana = s.ana := rfl
@[simp] theorem State.onLink_sec (c : Carrier) (f : LinkSt → LinkSt) : (s.onLink c f).sec = s.sec := rfl
@[simp] theorem State.onLink_power (c : Carrier) (f : LinkSt → LinkSt) : (s.onLink c f).power = s.power := rfl
@[simp] theorem State.onLink_cal (c : Carrier) (f : LinkSt → LinkSt) : (s.onLink c f).cal = s.cal := rfl
@[simp] theorem State.onLink_bist (c : Carrier) (f : LinkSt → LinkSt) : (s.onLink c f).bist = s.bist := rfl
@[simp] theorem State.onLink_glean (c : Carrier) (f : LinkSt → LinkSt) : (s.onLink c f).glean = s.glean := rfl
@[simp] theorem State.onLink_mem (c : Carrier) (f : LinkSt → LinkSt) : (s.onLink c f).mem = s.mem := rfl
@[simp] theorem State.onLink_cxl (c : Carrier) (f : LinkSt → LinkSt) : (s.onLink c f).cxl = s.cxl := rfl
@[simp] theorem State.onLink_quals (c : Carrier) (f : LinkSt → LinkSt) : (s.onLink c f).quals = s.quals := rfl
@[simp] theorem State.onLink_sent (c : Carrier) (f : LinkSt → LinkSt) : (s.onLink c f).sent = s.sent := rfl
@[simp] theorem State.onLink_freeCount (c : Carrier) (f : LinkSt → LinkSt) : (s.onLink c f).freeCount = s.freeCount := rfl
@[simp] theorem State.onLink_pending (c : Carrier) (f : LinkSt → LinkSt) : (s.onLink c f).pending = s.pending := rfl
@[simp] theorem State.onLink_rd (c : Carrier) (f : LinkSt → LinkSt) (x : Nat) : (s.onLink c f).rd x = s.rd x := rfl
@[simp] theorem State.onLink_get (c : Carrier) (f : LinkSt → LinkSt) (g : Fld) : (s.onLink c f).get g = s.get g := rfl
@[simp] theorem State.onLink_on (c : Carrier) (f : LinkSt → LinkSt) (g : Fld) : (s.onLink c f).on g = s.on g := rfl
@[simp] theorem State.onLink_getS (c : Carrier) (f : LinkSt → LinkSt) (g : Fld) : (s.onLink c f).getS g = s.getS g := rfl

/-! ### onLane -/

@[simp] theorem State.onLane_regs (n : Nat) (f : LaneSt → LaneSt) : (s.onLane n f).regs = s.regs := rfl
@[simp] theorem State.onLane_shadows (n : Nat) (f : LaneSt → LaneSt) : (s.onLane n f).shadows = s.shadows := rfl
@[simp] theorem State.onLane_staging (n : Nat) (f : LaneSt → LaneSt) : (s.onLane n f).staging = s.staging := rfl
@[simp] theorem State.onLane_readData (n : Nat) (f : LaneSt → LaneSt) : (s.onLane n f).readData = s.readData := rfl
@[simp] theorem State.onLane_burst (n : Nat) (f : LaneSt → LaneSt) : (s.onLane n f).burst = s.burst := rfl
@[simp] theorem State.onLane_clock (n : Nat) (f : LaneSt → LaneSt) : (s.onLane n f).clock = s.clock := rfl
@[simp] theorem State.onLane_msixEnabled (n : Nat) (f : LaneSt → LaneSt) : (s.onLane n f).msixEnabled = s.msixEnabled := rfl
@[simp] theorem State.onLane_msixMasked (n : Nat) (f : LaneSt → LaneSt) : (s.onLane n f).msixMasked = s.msixMasked := rfl
@[simp] theorem State.onLane_occ (n : Nat) (f : LaneSt → LaneSt) : (s.onLane n f).occ = s.occ := rfl
@[simp] theorem State.onLane_occTime (n : Nat) (f : LaneSt → LaneSt) : (s.onLane n f).occTime = s.occTime := rfl
@[simp] theorem State.onLane_limited (n : Nat) (f : LaneSt → LaneSt) : (s.onLane n f).limited = s.limited := rfl
@[simp] theorem State.onLane_i3cNotes (n : Nat) (f : LaneSt → LaneSt) : (s.onLane n f).i3cNotes = s.i3cNotes := rfl
@[simp] theorem State.onLane_i3cAddress (n : Nat) (f : LaneSt → LaneSt) : (s.onLane n f).i3cAddress = s.i3cAddress := rfl
@[simp] theorem State.onLane_wmpMajor (n : Nat) (f : LaneSt → LaneSt) : (s.onLane n f).wmpMajor = s.wmpMajor := rfl
@[simp] theorem State.onLane_wmpMinor (n : Nat) (f : LaneSt → LaneSt) : (s.onLane n f).wmpMinor = s.wmpMinor := rfl
@[simp] theorem State.onLane_mgrInbox (n : Nat) (f : LaneSt → LaneSt) : (s.onLane n f).mgrInbox = s.mgrInbox := rfl
@[simp] theorem State.onLane_faultTest (n : Nat) (f : LaneSt → LaneSt) : (s.onLane n f).faultTest = s.faultTest := rfl
@[simp] theorem State.onLane_faultOrder (n : Nat) (f : LaneSt → LaneSt) : (s.onLane n f).faultOrder = s.faultOrder := rfl
@[simp] theorem State.onLane_stoppedClocks (n : Nat) (f : LaneSt → LaneSt) : (s.onLane n f).stoppedClocks = s.stoppedClocks := rfl
@[simp] theorem State.onLane_plan (n : Nat) (f : LaneSt → LaneSt) : (s.onLane n f).plan = s.plan := rfl
@[simp] theorem State.onLane_rx (n : Nat) (f : LaneSt → LaneSt) : (s.onLane n f).rx = s.rx := rfl
@[simp] theorem State.onLane_tx (n : Nat) (f : LaneSt → LaneSt) : (s.onLane n f).tx = s.tx := rfl
@[simp] theorem State.onLane_line (n : Nat) (f : LaneSt → LaneSt) : (s.onLane n f).line = s.line := rfl
@[simp] theorem State.onLane_link (n : Nat) (f : LaneSt → LaneSt) : (s.onLane n f).link = s.link := rfl
@[simp] theorem State.onLane_neighbours (n : Nat) (f : LaneSt → LaneSt) : (s.onLane n f).neighbours = s.neighbours := rfl
@[simp] theorem State.onLane_nbHeard (n : Nat) (f : LaneSt → LaneSt) : (s.onLane n f).nbHeard = s.nbHeard := rfl
@[simp] theorem State.onLane_nbVersions (n : Nat) (f : LaneSt → LaneSt) : (s.onLane n f).nbVersions = s.nbVersions := rfl
@[simp] theorem State.onLane_label (n : Nat) (f : LaneSt → LaneSt) : (s.onLane n f).label = s.label := rfl
@[simp] theorem State.onLane_lanes (n : Nat) (f : LaneSt → LaneSt) : (s.onLane n f).lanes = s.lanes.modify n f := rfl
@[simp] theorem State.onLane_ports (n : Nat) (f : LaneSt → LaneSt) : (s.onLane n f).ports = s.ports := rfl
@[simp] theorem State.onLane_time (n : Nat) (f : LaneSt → LaneSt) : (s.onLane n f).time = s.time := rfl
@[simp] theorem State.onLane_head (n : Nat) (f : LaneSt → LaneSt) : (s.onLane n f).head = s.head := rfl
@[simp] theorem State.onLane_ana (n : Nat) (f : LaneSt → LaneSt) : (s.onLane n f).ana = s.ana := rfl
@[simp] theorem State.onLane_sec (n : Nat) (f : LaneSt → LaneSt) : (s.onLane n f).sec = s.sec := rfl
@[simp] theorem State.onLane_power (n : Nat) (f : LaneSt → LaneSt) : (s.onLane n f).power = s.power := rfl
@[simp] theorem State.onLane_cal (n : Nat) (f : LaneSt → LaneSt) : (s.onLane n f).cal = s.cal := rfl
@[simp] theorem State.onLane_bist (n : Nat) (f : LaneSt → LaneSt) : (s.onLane n f).bist = s.bist := rfl
@[simp] theorem State.onLane_glean (n : Nat) (f : LaneSt → LaneSt) : (s.onLane n f).glean = s.glean := rfl
@[simp] theorem State.onLane_mem (n : Nat) (f : LaneSt → LaneSt) : (s.onLane n f).mem = s.mem := rfl
@[simp] theorem State.onLane_cxl (n : Nat) (f : LaneSt → LaneSt) : (s.onLane n f).cxl = s.cxl := rfl
@[simp] theorem State.onLane_quals (n : Nat) (f : LaneSt → LaneSt) : (s.onLane n f).quals = s.quals := rfl
@[simp] theorem State.onLane_sent (n : Nat) (f : LaneSt → LaneSt) : (s.onLane n f).sent = s.sent := rfl
@[simp] theorem State.onLane_freeCount (n : Nat) (f : LaneSt → LaneSt) : (s.onLane n f).freeCount = s.freeCount := rfl
@[simp] theorem State.onLane_pending (n : Nat) (f : LaneSt → LaneSt) : (s.onLane n f).pending = s.pending := rfl
@[simp] theorem State.onLane_rd (n : Nat) (f : LaneSt → LaneSt) (x : Nat) : (s.onLane n f).rd x = s.rd x := rfl
@[simp] theorem State.onLane_get (n : Nat) (f : LaneSt → LaneSt) (g : Fld) : (s.onLane n f).get g = s.get g := rfl
@[simp] theorem State.onLane_on (n : Nat) (f : LaneSt → LaneSt) (g : Fld) : (s.onLane n f).on g = s.on g := rfl
@[simp] theorem State.onLane_getS (n : Nat) (f : LaneSt → LaneSt) (g : Fld) : (s.onLane n f).getS g = s.getS g := rfl

/-! ### onPort -/

@[simp] theorem State.onPort_regs (p : Nat) (f : PortSt → PortSt) : (s.onPort p f).regs = s.regs := rfl
@[simp] theorem State.onPort_shadows (p : Nat) (f : PortSt → PortSt) : (s.onPort p f).shadows = s.shadows := rfl
@[simp] theorem State.onPort_staging (p : Nat) (f : PortSt → PortSt) : (s.onPort p f).staging = s.staging := rfl
@[simp] theorem State.onPort_readData (p : Nat) (f : PortSt → PortSt) : (s.onPort p f).readData = s.readData := rfl
@[simp] theorem State.onPort_burst (p : Nat) (f : PortSt → PortSt) : (s.onPort p f).burst = s.burst := rfl
@[simp] theorem State.onPort_clock (p : Nat) (f : PortSt → PortSt) : (s.onPort p f).clock = s.clock := rfl
@[simp] theorem State.onPort_msixEnabled (p : Nat) (f : PortSt → PortSt) : (s.onPort p f).msixEnabled = s.msixEnabled := rfl
@[simp] theorem State.onPort_msixMasked (p : Nat) (f : PortSt → PortSt) : (s.onPort p f).msixMasked = s.msixMasked := rfl
@[simp] theorem State.onPort_occ (p : Nat) (f : PortSt → PortSt) : (s.onPort p f).occ = s.occ := rfl
@[simp] theorem State.onPort_occTime (p : Nat) (f : PortSt → PortSt) : (s.onPort p f).occTime = s.occTime := rfl
@[simp] theorem State.onPort_limited (p : Nat) (f : PortSt → PortSt) : (s.onPort p f).limited = s.limited := rfl
@[simp] theorem State.onPort_i3cNotes (p : Nat) (f : PortSt → PortSt) : (s.onPort p f).i3cNotes = s.i3cNotes := rfl
@[simp] theorem State.onPort_i3cAddress (p : Nat) (f : PortSt → PortSt) : (s.onPort p f).i3cAddress = s.i3cAddress := rfl
@[simp] theorem State.onPort_wmpMajor (p : Nat) (f : PortSt → PortSt) : (s.onPort p f).wmpMajor = s.wmpMajor := rfl
@[simp] theorem State.onPort_wmpMinor (p : Nat) (f : PortSt → PortSt) : (s.onPort p f).wmpMinor = s.wmpMinor := rfl
@[simp] theorem State.onPort_mgrInbox (p : Nat) (f : PortSt → PortSt) : (s.onPort p f).mgrInbox = s.mgrInbox := rfl
@[simp] theorem State.onPort_faultTest (p : Nat) (f : PortSt → PortSt) : (s.onPort p f).faultTest = s.faultTest := rfl
@[simp] theorem State.onPort_faultOrder (p : Nat) (f : PortSt → PortSt) : (s.onPort p f).faultOrder = s.faultOrder := rfl
@[simp] theorem State.onPort_stoppedClocks (p : Nat) (f : PortSt → PortSt) : (s.onPort p f).stoppedClocks = s.stoppedClocks := rfl
@[simp] theorem State.onPort_plan (p : Nat) (f : PortSt → PortSt) : (s.onPort p f).plan = s.plan := rfl
@[simp] theorem State.onPort_rx (p : Nat) (f : PortSt → PortSt) : (s.onPort p f).rx = s.rx := rfl
@[simp] theorem State.onPort_tx (p : Nat) (f : PortSt → PortSt) : (s.onPort p f).tx = s.tx := rfl
@[simp] theorem State.onPort_line (p : Nat) (f : PortSt → PortSt) : (s.onPort p f).line = s.line := rfl
@[simp] theorem State.onPort_link (p : Nat) (f : PortSt → PortSt) : (s.onPort p f).link = s.link := rfl
@[simp] theorem State.onPort_neighbours (p : Nat) (f : PortSt → PortSt) : (s.onPort p f).neighbours = s.neighbours := rfl
@[simp] theorem State.onPort_nbHeard (p : Nat) (f : PortSt → PortSt) : (s.onPort p f).nbHeard = s.nbHeard := rfl
@[simp] theorem State.onPort_nbVersions (p : Nat) (f : PortSt → PortSt) : (s.onPort p f).nbVersions = s.nbVersions := rfl
@[simp] theorem State.onPort_label (p : Nat) (f : PortSt → PortSt) : (s.onPort p f).label = s.label := rfl
@[simp] theorem State.onPort_lanes (p : Nat) (f : PortSt → PortSt) : (s.onPort p f).lanes = s.lanes := rfl
@[simp] theorem State.onPort_ports (p : Nat) (f : PortSt → PortSt) : (s.onPort p f).ports = s.ports.modify p f := rfl
@[simp] theorem State.onPort_time (p : Nat) (f : PortSt → PortSt) : (s.onPort p f).time = s.time := rfl
@[simp] theorem State.onPort_head (p : Nat) (f : PortSt → PortSt) : (s.onPort p f).head = s.head := rfl
@[simp] theorem State.onPort_ana (p : Nat) (f : PortSt → PortSt) : (s.onPort p f).ana = s.ana := rfl
@[simp] theorem State.onPort_sec (p : Nat) (f : PortSt → PortSt) : (s.onPort p f).sec = s.sec := rfl
@[simp] theorem State.onPort_power (p : Nat) (f : PortSt → PortSt) : (s.onPort p f).power = s.power := rfl
@[simp] theorem State.onPort_cal (p : Nat) (f : PortSt → PortSt) : (s.onPort p f).cal = s.cal := rfl
@[simp] theorem State.onPort_bist (p : Nat) (f : PortSt → PortSt) : (s.onPort p f).bist = s.bist := rfl
@[simp] theorem State.onPort_glean (p : Nat) (f : PortSt → PortSt) : (s.onPort p f).glean = s.glean := rfl
@[simp] theorem State.onPort_mem (p : Nat) (f : PortSt → PortSt) : (s.onPort p f).mem = s.mem := rfl
@[simp] theorem State.onPort_cxl (p : Nat) (f : PortSt → PortSt) : (s.onPort p f).cxl = s.cxl := rfl
@[simp] theorem State.onPort_quals (p : Nat) (f : PortSt → PortSt) : (s.onPort p f).quals = s.quals := rfl
@[simp] theorem State.onPort_sent (p : Nat) (f : PortSt → PortSt) : (s.onPort p f).sent = s.sent := rfl
@[simp] theorem State.onPort_freeCount (p : Nat) (f : PortSt → PortSt) : (s.onPort p f).freeCount = s.freeCount := rfl
@[simp] theorem State.onPort_pending (p : Nat) (f : PortSt → PortSt) : (s.onPort p f).pending = s.pending := rfl
@[simp] theorem State.onPort_rd (p : Nat) (f : PortSt → PortSt) (x : Nat) : (s.onPort p f).rd x = s.rd x := rfl
@[simp] theorem State.onPort_get (p : Nat) (f : PortSt → PortSt) (g : Fld) : (s.onPort p f).get g = s.get g := rfl
@[simp] theorem State.onPort_on (p : Nat) (f : PortSt → PortSt) (g : Fld) : (s.onPort p f).on g = s.on g := rfl
@[simp] theorem State.onPort_getS (p : Nat) (f : PortSt → PortSt) (g : Fld) : (s.onPort p f).getS g = s.getS g := rfl

/-! ### onTime -/

@[simp] theorem State.onTime_regs (f : TimeSt → TimeSt) : (s.onTime f).regs = s.regs := rfl
@[simp] theorem State.onTime_shadows (f : TimeSt → TimeSt) : (s.onTime f).shadows = s.shadows := rfl
@[simp] theorem State.onTime_staging (f : TimeSt → TimeSt) : (s.onTime f).staging = s.staging := rfl
@[simp] theorem State.onTime_readData (f : TimeSt → TimeSt) : (s.onTime f).readData = s.readData := rfl
@[simp] theorem State.onTime_burst (f : TimeSt → TimeSt) : (s.onTime f).burst = s.burst := rfl
@[simp] theorem State.onTime_clock (f : TimeSt → TimeSt) : (s.onTime f).clock = s.clock := rfl
@[simp] theorem State.onTime_msixEnabled (f : TimeSt → TimeSt) : (s.onTime f).msixEnabled = s.msixEnabled := rfl
@[simp] theorem State.onTime_msixMasked (f : TimeSt → TimeSt) : (s.onTime f).msixMasked = s.msixMasked := rfl
@[simp] theorem State.onTime_occ (f : TimeSt → TimeSt) : (s.onTime f).occ = s.occ := rfl
@[simp] theorem State.onTime_occTime (f : TimeSt → TimeSt) : (s.onTime f).occTime = s.occTime := rfl
@[simp] theorem State.onTime_limited (f : TimeSt → TimeSt) : (s.onTime f).limited = s.limited := rfl
@[simp] theorem State.onTime_i3cNotes (f : TimeSt → TimeSt) : (s.onTime f).i3cNotes = s.i3cNotes := rfl
@[simp] theorem State.onTime_i3cAddress (f : TimeSt → TimeSt) : (s.onTime f).i3cAddress = s.i3cAddress := rfl
@[simp] theorem State.onTime_wmpMajor (f : TimeSt → TimeSt) : (s.onTime f).wmpMajor = s.wmpMajor := rfl
@[simp] theorem State.onTime_wmpMinor (f : TimeSt → TimeSt) : (s.onTime f).wmpMinor = s.wmpMinor := rfl
@[simp] theorem State.onTime_mgrInbox (f : TimeSt → TimeSt) : (s.onTime f).mgrInbox = s.mgrInbox := rfl
@[simp] theorem State.onTime_faultTest (f : TimeSt → TimeSt) : (s.onTime f).faultTest = s.faultTest := rfl
@[simp] theorem State.onTime_faultOrder (f : TimeSt → TimeSt) : (s.onTime f).faultOrder = s.faultOrder := rfl
@[simp] theorem State.onTime_stoppedClocks (f : TimeSt → TimeSt) : (s.onTime f).stoppedClocks = s.stoppedClocks := rfl
@[simp] theorem State.onTime_plan (f : TimeSt → TimeSt) : (s.onTime f).plan = s.plan := rfl
@[simp] theorem State.onTime_rx (f : TimeSt → TimeSt) : (s.onTime f).rx = s.rx := rfl
@[simp] theorem State.onTime_tx (f : TimeSt → TimeSt) : (s.onTime f).tx = s.tx := rfl
@[simp] theorem State.onTime_line (f : TimeSt → TimeSt) : (s.onTime f).line = s.line := rfl
@[simp] theorem State.onTime_link (f : TimeSt → TimeSt) : (s.onTime f).link = s.link := rfl
@[simp] theorem State.onTime_neighbours (f : TimeSt → TimeSt) : (s.onTime f).neighbours = s.neighbours := rfl
@[simp] theorem State.onTime_nbHeard (f : TimeSt → TimeSt) : (s.onTime f).nbHeard = s.nbHeard := rfl
@[simp] theorem State.onTime_nbVersions (f : TimeSt → TimeSt) : (s.onTime f).nbVersions = s.nbVersions := rfl
@[simp] theorem State.onTime_label (f : TimeSt → TimeSt) : (s.onTime f).label = s.label := rfl
@[simp] theorem State.onTime_lanes (f : TimeSt → TimeSt) : (s.onTime f).lanes = s.lanes := rfl
@[simp] theorem State.onTime_ports (f : TimeSt → TimeSt) : (s.onTime f).ports = s.ports := rfl
@[simp] theorem State.onTime_time (f : TimeSt → TimeSt) : (s.onTime f).time = f s.time := rfl
@[simp] theorem State.onTime_head (f : TimeSt → TimeSt) : (s.onTime f).head = s.head := rfl
@[simp] theorem State.onTime_ana (f : TimeSt → TimeSt) : (s.onTime f).ana = s.ana := rfl
@[simp] theorem State.onTime_sec (f : TimeSt → TimeSt) : (s.onTime f).sec = s.sec := rfl
@[simp] theorem State.onTime_power (f : TimeSt → TimeSt) : (s.onTime f).power = s.power := rfl
@[simp] theorem State.onTime_cal (f : TimeSt → TimeSt) : (s.onTime f).cal = s.cal := rfl
@[simp] theorem State.onTime_bist (f : TimeSt → TimeSt) : (s.onTime f).bist = s.bist := rfl
@[simp] theorem State.onTime_glean (f : TimeSt → TimeSt) : (s.onTime f).glean = s.glean := rfl
@[simp] theorem State.onTime_mem (f : TimeSt → TimeSt) : (s.onTime f).mem = s.mem := rfl
@[simp] theorem State.onTime_cxl (f : TimeSt → TimeSt) : (s.onTime f).cxl = s.cxl := rfl
@[simp] theorem State.onTime_quals (f : TimeSt → TimeSt) : (s.onTime f).quals = s.quals := rfl
@[simp] theorem State.onTime_sent (f : TimeSt → TimeSt) : (s.onTime f).sent = s.sent := rfl
@[simp] theorem State.onTime_freeCount (f : TimeSt → TimeSt) : (s.onTime f).freeCount = s.freeCount := rfl
@[simp] theorem State.onTime_pending (f : TimeSt → TimeSt) : (s.onTime f).pending = s.pending := rfl
@[simp] theorem State.onTime_rd (f : TimeSt → TimeSt) (x : Nat) : (s.onTime f).rd x = s.rd x := rfl
@[simp] theorem State.onTime_get (f : TimeSt → TimeSt) (g : Fld) : (s.onTime f).get g = s.get g := rfl
@[simp] theorem State.onTime_on (f : TimeSt → TimeSt) (g : Fld) : (s.onTime f).on g = s.on g := rfl
@[simp] theorem State.onTime_getS (f : TimeSt → TimeSt) (g : Fld) : (s.onTime f).getS g = s.getS g := rfl

/-! ### onHead -/

@[simp] theorem State.onHead_regs (f : HeadlandSt → HeadlandSt) : (s.onHead f).regs = s.regs := rfl
@[simp] theorem State.onHead_shadows (f : HeadlandSt → HeadlandSt) : (s.onHead f).shadows = s.shadows := rfl
@[simp] theorem State.onHead_staging (f : HeadlandSt → HeadlandSt) : (s.onHead f).staging = s.staging := rfl
@[simp] theorem State.onHead_readData (f : HeadlandSt → HeadlandSt) : (s.onHead f).readData = s.readData := rfl
@[simp] theorem State.onHead_burst (f : HeadlandSt → HeadlandSt) : (s.onHead f).burst = s.burst := rfl
@[simp] theorem State.onHead_clock (f : HeadlandSt → HeadlandSt) : (s.onHead f).clock = s.clock := rfl
@[simp] theorem State.onHead_msixEnabled (f : HeadlandSt → HeadlandSt) : (s.onHead f).msixEnabled = s.msixEnabled := rfl
@[simp] theorem State.onHead_msixMasked (f : HeadlandSt → HeadlandSt) : (s.onHead f).msixMasked = s.msixMasked := rfl
@[simp] theorem State.onHead_occ (f : HeadlandSt → HeadlandSt) : (s.onHead f).occ = s.occ := rfl
@[simp] theorem State.onHead_occTime (f : HeadlandSt → HeadlandSt) : (s.onHead f).occTime = s.occTime := rfl
@[simp] theorem State.onHead_limited (f : HeadlandSt → HeadlandSt) : (s.onHead f).limited = s.limited := rfl
@[simp] theorem State.onHead_i3cNotes (f : HeadlandSt → HeadlandSt) : (s.onHead f).i3cNotes = s.i3cNotes := rfl
@[simp] theorem State.onHead_i3cAddress (f : HeadlandSt → HeadlandSt) : (s.onHead f).i3cAddress = s.i3cAddress := rfl
@[simp] theorem State.onHead_wmpMajor (f : HeadlandSt → HeadlandSt) : (s.onHead f).wmpMajor = s.wmpMajor := rfl
@[simp] theorem State.onHead_wmpMinor (f : HeadlandSt → HeadlandSt) : (s.onHead f).wmpMinor = s.wmpMinor := rfl
@[simp] theorem State.onHead_mgrInbox (f : HeadlandSt → HeadlandSt) : (s.onHead f).mgrInbox = s.mgrInbox := rfl
@[simp] theorem State.onHead_faultTest (f : HeadlandSt → HeadlandSt) : (s.onHead f).faultTest = s.faultTest := rfl
@[simp] theorem State.onHead_faultOrder (f : HeadlandSt → HeadlandSt) : (s.onHead f).faultOrder = s.faultOrder := rfl
@[simp] theorem State.onHead_stoppedClocks (f : HeadlandSt → HeadlandSt) : (s.onHead f).stoppedClocks = s.stoppedClocks := rfl
@[simp] theorem State.onHead_plan (f : HeadlandSt → HeadlandSt) : (s.onHead f).plan = s.plan := rfl
@[simp] theorem State.onHead_rx (f : HeadlandSt → HeadlandSt) : (s.onHead f).rx = s.rx := rfl
@[simp] theorem State.onHead_tx (f : HeadlandSt → HeadlandSt) : (s.onHead f).tx = s.tx := rfl
@[simp] theorem State.onHead_line (f : HeadlandSt → HeadlandSt) : (s.onHead f).line = s.line := rfl
@[simp] theorem State.onHead_link (f : HeadlandSt → HeadlandSt) : (s.onHead f).link = s.link := rfl
@[simp] theorem State.onHead_neighbours (f : HeadlandSt → HeadlandSt) : (s.onHead f).neighbours = s.neighbours := rfl
@[simp] theorem State.onHead_nbHeard (f : HeadlandSt → HeadlandSt) : (s.onHead f).nbHeard = s.nbHeard := rfl
@[simp] theorem State.onHead_nbVersions (f : HeadlandSt → HeadlandSt) : (s.onHead f).nbVersions = s.nbVersions := rfl
@[simp] theorem State.onHead_label (f : HeadlandSt → HeadlandSt) : (s.onHead f).label = s.label := rfl
@[simp] theorem State.onHead_lanes (f : HeadlandSt → HeadlandSt) : (s.onHead f).lanes = s.lanes := rfl
@[simp] theorem State.onHead_ports (f : HeadlandSt → HeadlandSt) : (s.onHead f).ports = s.ports := rfl
@[simp] theorem State.onHead_time (f : HeadlandSt → HeadlandSt) : (s.onHead f).time = s.time := rfl
@[simp] theorem State.onHead_head (f : HeadlandSt → HeadlandSt) : (s.onHead f).head = f s.head := rfl
@[simp] theorem State.onHead_ana (f : HeadlandSt → HeadlandSt) : (s.onHead f).ana = s.ana := rfl
@[simp] theorem State.onHead_sec (f : HeadlandSt → HeadlandSt) : (s.onHead f).sec = s.sec := rfl
@[simp] theorem State.onHead_power (f : HeadlandSt → HeadlandSt) : (s.onHead f).power = s.power := rfl
@[simp] theorem State.onHead_cal (f : HeadlandSt → HeadlandSt) : (s.onHead f).cal = s.cal := rfl
@[simp] theorem State.onHead_bist (f : HeadlandSt → HeadlandSt) : (s.onHead f).bist = s.bist := rfl
@[simp] theorem State.onHead_glean (f : HeadlandSt → HeadlandSt) : (s.onHead f).glean = s.glean := rfl
@[simp] theorem State.onHead_mem (f : HeadlandSt → HeadlandSt) : (s.onHead f).mem = s.mem := rfl
@[simp] theorem State.onHead_cxl (f : HeadlandSt → HeadlandSt) : (s.onHead f).cxl = s.cxl := rfl
@[simp] theorem State.onHead_quals (f : HeadlandSt → HeadlandSt) : (s.onHead f).quals = s.quals := rfl
@[simp] theorem State.onHead_sent (f : HeadlandSt → HeadlandSt) : (s.onHead f).sent = s.sent := rfl
@[simp] theorem State.onHead_freeCount (f : HeadlandSt → HeadlandSt) : (s.onHead f).freeCount = s.freeCount := rfl
@[simp] theorem State.onHead_pending (f : HeadlandSt → HeadlandSt) : (s.onHead f).pending = s.pending := rfl
@[simp] theorem State.onHead_rd (f : HeadlandSt → HeadlandSt) (x : Nat) : (s.onHead f).rd x = s.rd x := rfl
@[simp] theorem State.onHead_get (f : HeadlandSt → HeadlandSt) (g : Fld) : (s.onHead f).get g = s.get g := rfl
@[simp] theorem State.onHead_on (f : HeadlandSt → HeadlandSt) (g : Fld) : (s.onHead f).on g = s.on g := rfl
@[simp] theorem State.onHead_getS (f : HeadlandSt → HeadlandSt) (g : Fld) : (s.onHead f).getS g = s.getS g := rfl

/-! ### onAdc -/

@[simp] theorem State.onAdc_regs (f : AdcSt → AdcSt) : (s.onAdc f).regs = s.regs := rfl
@[simp] theorem State.onAdc_shadows (f : AdcSt → AdcSt) : (s.onAdc f).shadows = s.shadows := rfl
@[simp] theorem State.onAdc_staging (f : AdcSt → AdcSt) : (s.onAdc f).staging = s.staging := rfl
@[simp] theorem State.onAdc_readData (f : AdcSt → AdcSt) : (s.onAdc f).readData = s.readData := rfl
@[simp] theorem State.onAdc_burst (f : AdcSt → AdcSt) : (s.onAdc f).burst = s.burst := rfl
@[simp] theorem State.onAdc_clock (f : AdcSt → AdcSt) : (s.onAdc f).clock = s.clock := rfl
@[simp] theorem State.onAdc_msixEnabled (f : AdcSt → AdcSt) : (s.onAdc f).msixEnabled = s.msixEnabled := rfl
@[simp] theorem State.onAdc_msixMasked (f : AdcSt → AdcSt) : (s.onAdc f).msixMasked = s.msixMasked := rfl
@[simp] theorem State.onAdc_occ (f : AdcSt → AdcSt) : (s.onAdc f).occ = s.occ := rfl
@[simp] theorem State.onAdc_occTime (f : AdcSt → AdcSt) : (s.onAdc f).occTime = s.occTime := rfl
@[simp] theorem State.onAdc_limited (f : AdcSt → AdcSt) : (s.onAdc f).limited = s.limited := rfl
@[simp] theorem State.onAdc_i3cNotes (f : AdcSt → AdcSt) : (s.onAdc f).i3cNotes = s.i3cNotes := rfl
@[simp] theorem State.onAdc_i3cAddress (f : AdcSt → AdcSt) : (s.onAdc f).i3cAddress = s.i3cAddress := rfl
@[simp] theorem State.onAdc_wmpMajor (f : AdcSt → AdcSt) : (s.onAdc f).wmpMajor = s.wmpMajor := rfl
@[simp] theorem State.onAdc_wmpMinor (f : AdcSt → AdcSt) : (s.onAdc f).wmpMinor = s.wmpMinor := rfl
@[simp] theorem State.onAdc_mgrInbox (f : AdcSt → AdcSt) : (s.onAdc f).mgrInbox = s.mgrInbox := rfl
@[simp] theorem State.onAdc_faultTest (f : AdcSt → AdcSt) : (s.onAdc f).faultTest = s.faultTest := rfl
@[simp] theorem State.onAdc_faultOrder (f : AdcSt → AdcSt) : (s.onAdc f).faultOrder = s.faultOrder := rfl
@[simp] theorem State.onAdc_stoppedClocks (f : AdcSt → AdcSt) : (s.onAdc f).stoppedClocks = s.stoppedClocks := rfl
@[simp] theorem State.onAdc_plan (f : AdcSt → AdcSt) : (s.onAdc f).plan = s.plan := rfl
@[simp] theorem State.onAdc_rx (f : AdcSt → AdcSt) : (s.onAdc f).rx = s.rx := rfl
@[simp] theorem State.onAdc_tx (f : AdcSt → AdcSt) : (s.onAdc f).tx = s.tx := rfl
@[simp] theorem State.onAdc_line (f : AdcSt → AdcSt) : (s.onAdc f).line = s.line := rfl
@[simp] theorem State.onAdc_link (f : AdcSt → AdcSt) : (s.onAdc f).link = s.link := rfl
@[simp] theorem State.onAdc_neighbours (f : AdcSt → AdcSt) : (s.onAdc f).neighbours = s.neighbours := rfl
@[simp] theorem State.onAdc_nbHeard (f : AdcSt → AdcSt) : (s.onAdc f).nbHeard = s.nbHeard := rfl
@[simp] theorem State.onAdc_nbVersions (f : AdcSt → AdcSt) : (s.onAdc f).nbVersions = s.nbVersions := rfl
@[simp] theorem State.onAdc_label (f : AdcSt → AdcSt) : (s.onAdc f).label = s.label := rfl
@[simp] theorem State.onAdc_lanes (f : AdcSt → AdcSt) : (s.onAdc f).lanes = s.lanes := rfl
@[simp] theorem State.onAdc_ports (f : AdcSt → AdcSt) : (s.onAdc f).ports = s.ports := rfl
@[simp] theorem State.onAdc_time (f : AdcSt → AdcSt) : (s.onAdc f).time = s.time := rfl
@[simp] theorem State.onAdc_head (f : AdcSt → AdcSt) : (s.onAdc f).head = s.head := rfl
@[simp] theorem State.onAdc_sec (f : AdcSt → AdcSt) : (s.onAdc f).sec = s.sec := rfl
@[simp] theorem State.onAdc_power (f : AdcSt → AdcSt) : (s.onAdc f).power = s.power := rfl
@[simp] theorem State.onAdc_cal (f : AdcSt → AdcSt) : (s.onAdc f).cal = s.cal := rfl
@[simp] theorem State.onAdc_bist (f : AdcSt → AdcSt) : (s.onAdc f).bist = s.bist := rfl
@[simp] theorem State.onAdc_glean (f : AdcSt → AdcSt) : (s.onAdc f).glean = s.glean := rfl
@[simp] theorem State.onAdc_mem (f : AdcSt → AdcSt) : (s.onAdc f).mem = s.mem := rfl
@[simp] theorem State.onAdc_cxl (f : AdcSt → AdcSt) : (s.onAdc f).cxl = s.cxl := rfl
@[simp] theorem State.onAdc_quals (f : AdcSt → AdcSt) : (s.onAdc f).quals = s.quals := rfl
@[simp] theorem State.onAdc_sent (f : AdcSt → AdcSt) : (s.onAdc f).sent = s.sent := rfl
@[simp] theorem State.onAdc_freeCount (f : AdcSt → AdcSt) : (s.onAdc f).freeCount = s.freeCount := rfl
@[simp] theorem State.onAdc_pending (f : AdcSt → AdcSt) : (s.onAdc f).pending = s.pending := rfl
@[simp] theorem State.onAdc_rd (f : AdcSt → AdcSt) (x : Nat) : (s.onAdc f).rd x = s.rd x := rfl
@[simp] theorem State.onAdc_get (f : AdcSt → AdcSt) (g : Fld) : (s.onAdc f).get g = s.get g := rfl
@[simp] theorem State.onAdc_on (f : AdcSt → AdcSt) (g : Fld) : (s.onAdc f).on g = s.on g := rfl
@[simp] theorem State.onAdc_getS (f : AdcSt → AdcSt) (g : Fld) : (s.onAdc f).getS g = s.getS g := rfl

/-! ### onDac -/

@[simp] theorem State.onDac_regs (k : Nat) (f : PdacSt → PdacSt) : (s.onDac k f).regs = s.regs := rfl
@[simp] theorem State.onDac_shadows (k : Nat) (f : PdacSt → PdacSt) : (s.onDac k f).shadows = s.shadows := rfl
@[simp] theorem State.onDac_staging (k : Nat) (f : PdacSt → PdacSt) : (s.onDac k f).staging = s.staging := rfl
@[simp] theorem State.onDac_readData (k : Nat) (f : PdacSt → PdacSt) : (s.onDac k f).readData = s.readData := rfl
@[simp] theorem State.onDac_burst (k : Nat) (f : PdacSt → PdacSt) : (s.onDac k f).burst = s.burst := rfl
@[simp] theorem State.onDac_clock (k : Nat) (f : PdacSt → PdacSt) : (s.onDac k f).clock = s.clock := rfl
@[simp] theorem State.onDac_msixEnabled (k : Nat) (f : PdacSt → PdacSt) : (s.onDac k f).msixEnabled = s.msixEnabled := rfl
@[simp] theorem State.onDac_msixMasked (k : Nat) (f : PdacSt → PdacSt) : (s.onDac k f).msixMasked = s.msixMasked := rfl
@[simp] theorem State.onDac_occ (k : Nat) (f : PdacSt → PdacSt) : (s.onDac k f).occ = s.occ := rfl
@[simp] theorem State.onDac_occTime (k : Nat) (f : PdacSt → PdacSt) : (s.onDac k f).occTime = s.occTime := rfl
@[simp] theorem State.onDac_limited (k : Nat) (f : PdacSt → PdacSt) : (s.onDac k f).limited = s.limited := rfl
@[simp] theorem State.onDac_i3cNotes (k : Nat) (f : PdacSt → PdacSt) : (s.onDac k f).i3cNotes = s.i3cNotes := rfl
@[simp] theorem State.onDac_i3cAddress (k : Nat) (f : PdacSt → PdacSt) : (s.onDac k f).i3cAddress = s.i3cAddress := rfl
@[simp] theorem State.onDac_wmpMajor (k : Nat) (f : PdacSt → PdacSt) : (s.onDac k f).wmpMajor = s.wmpMajor := rfl
@[simp] theorem State.onDac_wmpMinor (k : Nat) (f : PdacSt → PdacSt) : (s.onDac k f).wmpMinor = s.wmpMinor := rfl
@[simp] theorem State.onDac_mgrInbox (k : Nat) (f : PdacSt → PdacSt) : (s.onDac k f).mgrInbox = s.mgrInbox := rfl
@[simp] theorem State.onDac_faultTest (k : Nat) (f : PdacSt → PdacSt) : (s.onDac k f).faultTest = s.faultTest := rfl
@[simp] theorem State.onDac_faultOrder (k : Nat) (f : PdacSt → PdacSt) : (s.onDac k f).faultOrder = s.faultOrder := rfl
@[simp] theorem State.onDac_stoppedClocks (k : Nat) (f : PdacSt → PdacSt) : (s.onDac k f).stoppedClocks = s.stoppedClocks := rfl
@[simp] theorem State.onDac_plan (k : Nat) (f : PdacSt → PdacSt) : (s.onDac k f).plan = s.plan := rfl
@[simp] theorem State.onDac_rx (k : Nat) (f : PdacSt → PdacSt) : (s.onDac k f).rx = s.rx := rfl
@[simp] theorem State.onDac_tx (k : Nat) (f : PdacSt → PdacSt) : (s.onDac k f).tx = s.tx := rfl
@[simp] theorem State.onDac_line (k : Nat) (f : PdacSt → PdacSt) : (s.onDac k f).line = s.line := rfl
@[simp] theorem State.onDac_link (k : Nat) (f : PdacSt → PdacSt) : (s.onDac k f).link = s.link := rfl
@[simp] theorem State.onDac_neighbours (k : Nat) (f : PdacSt → PdacSt) : (s.onDac k f).neighbours = s.neighbours := rfl
@[simp] theorem State.onDac_nbHeard (k : Nat) (f : PdacSt → PdacSt) : (s.onDac k f).nbHeard = s.nbHeard := rfl
@[simp] theorem State.onDac_nbVersions (k : Nat) (f : PdacSt → PdacSt) : (s.onDac k f).nbVersions = s.nbVersions := rfl
@[simp] theorem State.onDac_label (k : Nat) (f : PdacSt → PdacSt) : (s.onDac k f).label = s.label := rfl
@[simp] theorem State.onDac_lanes (k : Nat) (f : PdacSt → PdacSt) : (s.onDac k f).lanes = s.lanes := rfl
@[simp] theorem State.onDac_ports (k : Nat) (f : PdacSt → PdacSt) : (s.onDac k f).ports = s.ports := rfl
@[simp] theorem State.onDac_time (k : Nat) (f : PdacSt → PdacSt) : (s.onDac k f).time = s.time := rfl
@[simp] theorem State.onDac_head (k : Nat) (f : PdacSt → PdacSt) : (s.onDac k f).head = s.head := rfl
@[simp] theorem State.onDac_sec (k : Nat) (f : PdacSt → PdacSt) : (s.onDac k f).sec = s.sec := rfl
@[simp] theorem State.onDac_power (k : Nat) (f : PdacSt → PdacSt) : (s.onDac k f).power = s.power := rfl
@[simp] theorem State.onDac_cal (k : Nat) (f : PdacSt → PdacSt) : (s.onDac k f).cal = s.cal := rfl
@[simp] theorem State.onDac_bist (k : Nat) (f : PdacSt → PdacSt) : (s.onDac k f).bist = s.bist := rfl
@[simp] theorem State.onDac_glean (k : Nat) (f : PdacSt → PdacSt) : (s.onDac k f).glean = s.glean := rfl
@[simp] theorem State.onDac_mem (k : Nat) (f : PdacSt → PdacSt) : (s.onDac k f).mem = s.mem := rfl
@[simp] theorem State.onDac_cxl (k : Nat) (f : PdacSt → PdacSt) : (s.onDac k f).cxl = s.cxl := rfl
@[simp] theorem State.onDac_quals (k : Nat) (f : PdacSt → PdacSt) : (s.onDac k f).quals = s.quals := rfl
@[simp] theorem State.onDac_sent (k : Nat) (f : PdacSt → PdacSt) : (s.onDac k f).sent = s.sent := rfl
@[simp] theorem State.onDac_freeCount (k : Nat) (f : PdacSt → PdacSt) : (s.onDac k f).freeCount = s.freeCount := rfl
@[simp] theorem State.onDac_pending (k : Nat) (f : PdacSt → PdacSt) : (s.onDac k f).pending = s.pending := rfl
@[simp] theorem State.onDac_rd (k : Nat) (f : PdacSt → PdacSt) (x : Nat) : (s.onDac k f).rd x = s.rd x := rfl
@[simp] theorem State.onDac_get (k : Nat) (f : PdacSt → PdacSt) (g : Fld) : (s.onDac k f).get g = s.get g := rfl
@[simp] theorem State.onDac_on (k : Nat) (f : PdacSt → PdacSt) (g : Fld) : (s.onDac k f).on g = s.on g := rfl
@[simp] theorem State.onDac_getS (k : Nat) (f : PdacSt → PdacSt) (g : Fld) : (s.onDac k f).getS g = s.getS g := rfl

/-! ### onLoop -/

@[simp] theorem State.onLoop_regs (n : Nat) (f : LoopSt → LoopSt) : (s.onLoop n f).regs = s.regs := rfl
@[simp] theorem State.onLoop_shadows (n : Nat) (f : LoopSt → LoopSt) : (s.onLoop n f).shadows = s.shadows := rfl
@[simp] theorem State.onLoop_staging (n : Nat) (f : LoopSt → LoopSt) : (s.onLoop n f).staging = s.staging := rfl
@[simp] theorem State.onLoop_readData (n : Nat) (f : LoopSt → LoopSt) : (s.onLoop n f).readData = s.readData := rfl
@[simp] theorem State.onLoop_burst (n : Nat) (f : LoopSt → LoopSt) : (s.onLoop n f).burst = s.burst := rfl
@[simp] theorem State.onLoop_clock (n : Nat) (f : LoopSt → LoopSt) : (s.onLoop n f).clock = s.clock := rfl
@[simp] theorem State.onLoop_msixEnabled (n : Nat) (f : LoopSt → LoopSt) : (s.onLoop n f).msixEnabled = s.msixEnabled := rfl
@[simp] theorem State.onLoop_msixMasked (n : Nat) (f : LoopSt → LoopSt) : (s.onLoop n f).msixMasked = s.msixMasked := rfl
@[simp] theorem State.onLoop_occ (n : Nat) (f : LoopSt → LoopSt) : (s.onLoop n f).occ = s.occ := rfl
@[simp] theorem State.onLoop_occTime (n : Nat) (f : LoopSt → LoopSt) : (s.onLoop n f).occTime = s.occTime := rfl
@[simp] theorem State.onLoop_limited (n : Nat) (f : LoopSt → LoopSt) : (s.onLoop n f).limited = s.limited := rfl
@[simp] theorem State.onLoop_i3cNotes (n : Nat) (f : LoopSt → LoopSt) : (s.onLoop n f).i3cNotes = s.i3cNotes := rfl
@[simp] theorem State.onLoop_i3cAddress (n : Nat) (f : LoopSt → LoopSt) : (s.onLoop n f).i3cAddress = s.i3cAddress := rfl
@[simp] theorem State.onLoop_wmpMajor (n : Nat) (f : LoopSt → LoopSt) : (s.onLoop n f).wmpMajor = s.wmpMajor := rfl
@[simp] theorem State.onLoop_wmpMinor (n : Nat) (f : LoopSt → LoopSt) : (s.onLoop n f).wmpMinor = s.wmpMinor := rfl
@[simp] theorem State.onLoop_mgrInbox (n : Nat) (f : LoopSt → LoopSt) : (s.onLoop n f).mgrInbox = s.mgrInbox := rfl
@[simp] theorem State.onLoop_faultTest (n : Nat) (f : LoopSt → LoopSt) : (s.onLoop n f).faultTest = s.faultTest := rfl
@[simp] theorem State.onLoop_faultOrder (n : Nat) (f : LoopSt → LoopSt) : (s.onLoop n f).faultOrder = s.faultOrder := rfl
@[simp] theorem State.onLoop_stoppedClocks (n : Nat) (f : LoopSt → LoopSt) : (s.onLoop n f).stoppedClocks = s.stoppedClocks := rfl
@[simp] theorem State.onLoop_plan (n : Nat) (f : LoopSt → LoopSt) : (s.onLoop n f).plan = s.plan := rfl
@[simp] theorem State.onLoop_rx (n : Nat) (f : LoopSt → LoopSt) : (s.onLoop n f).rx = s.rx := rfl
@[simp] theorem State.onLoop_tx (n : Nat) (f : LoopSt → LoopSt) : (s.onLoop n f).tx = s.tx := rfl
@[simp] theorem State.onLoop_line (n : Nat) (f : LoopSt → LoopSt) : (s.onLoop n f).line = s.line := rfl
@[simp] theorem State.onLoop_link (n : Nat) (f : LoopSt → LoopSt) : (s.onLoop n f).link = s.link := rfl
@[simp] theorem State.onLoop_neighbours (n : Nat) (f : LoopSt → LoopSt) : (s.onLoop n f).neighbours = s.neighbours := rfl
@[simp] theorem State.onLoop_nbHeard (n : Nat) (f : LoopSt → LoopSt) : (s.onLoop n f).nbHeard = s.nbHeard := rfl
@[simp] theorem State.onLoop_nbVersions (n : Nat) (f : LoopSt → LoopSt) : (s.onLoop n f).nbVersions = s.nbVersions := rfl
@[simp] theorem State.onLoop_label (n : Nat) (f : LoopSt → LoopSt) : (s.onLoop n f).label = s.label := rfl
@[simp] theorem State.onLoop_lanes (n : Nat) (f : LoopSt → LoopSt) : (s.onLoop n f).lanes = s.lanes := rfl
@[simp] theorem State.onLoop_ports (n : Nat) (f : LoopSt → LoopSt) : (s.onLoop n f).ports = s.ports := rfl
@[simp] theorem State.onLoop_time (n : Nat) (f : LoopSt → LoopSt) : (s.onLoop n f).time = s.time := rfl
@[simp] theorem State.onLoop_head (n : Nat) (f : LoopSt → LoopSt) : (s.onLoop n f).head = s.head := rfl
@[simp] theorem State.onLoop_sec (n : Nat) (f : LoopSt → LoopSt) : (s.onLoop n f).sec = s.sec := rfl
@[simp] theorem State.onLoop_power (n : Nat) (f : LoopSt → LoopSt) : (s.onLoop n f).power = s.power := rfl
@[simp] theorem State.onLoop_cal (n : Nat) (f : LoopSt → LoopSt) : (s.onLoop n f).cal = s.cal := rfl
@[simp] theorem State.onLoop_bist (n : Nat) (f : LoopSt → LoopSt) : (s.onLoop n f).bist = s.bist := rfl
@[simp] theorem State.onLoop_glean (n : Nat) (f : LoopSt → LoopSt) : (s.onLoop n f).glean = s.glean := rfl
@[simp] theorem State.onLoop_mem (n : Nat) (f : LoopSt → LoopSt) : (s.onLoop n f).mem = s.mem := rfl
@[simp] theorem State.onLoop_cxl (n : Nat) (f : LoopSt → LoopSt) : (s.onLoop n f).cxl = s.cxl := rfl
@[simp] theorem State.onLoop_quals (n : Nat) (f : LoopSt → LoopSt) : (s.onLoop n f).quals = s.quals := rfl
@[simp] theorem State.onLoop_sent (n : Nat) (f : LoopSt → LoopSt) : (s.onLoop n f).sent = s.sent := rfl
@[simp] theorem State.onLoop_freeCount (n : Nat) (f : LoopSt → LoopSt) : (s.onLoop n f).freeCount = s.freeCount := rfl
@[simp] theorem State.onLoop_pending (n : Nat) (f : LoopSt → LoopSt) : (s.onLoop n f).pending = s.pending := rfl
@[simp] theorem State.onLoop_rd (n : Nat) (f : LoopSt → LoopSt) (x : Nat) : (s.onLoop n f).rd x = s.rd x := rfl
@[simp] theorem State.onLoop_get (n : Nat) (f : LoopSt → LoopSt) (g : Fld) : (s.onLoop n f).get g = s.get g := rfl
@[simp] theorem State.onLoop_on (n : Nat) (f : LoopSt → LoopSt) (g : Fld) : (s.onLoop n f).on g = s.on g := rfl
@[simp] theorem State.onLoop_getS (n : Nat) (f : LoopSt → LoopSt) (g : Fld) : (s.onLoop n f).getS g = s.getS g := rfl

/-! ### onSec -/

@[simp] theorem State.onSec_regs (f : SecSt → SecSt) : (s.onSec f).regs = s.regs := rfl
@[simp] theorem State.onSec_shadows (f : SecSt → SecSt) : (s.onSec f).shadows = s.shadows := rfl
@[simp] theorem State.onSec_staging (f : SecSt → SecSt) : (s.onSec f).staging = s.staging := rfl
@[simp] theorem State.onSec_readData (f : SecSt → SecSt) : (s.onSec f).readData = s.readData := rfl
@[simp] theorem State.onSec_burst (f : SecSt → SecSt) : (s.onSec f).burst = s.burst := rfl
@[simp] theorem State.onSec_clock (f : SecSt → SecSt) : (s.onSec f).clock = s.clock := rfl
@[simp] theorem State.onSec_msixEnabled (f : SecSt → SecSt) : (s.onSec f).msixEnabled = s.msixEnabled := rfl
@[simp] theorem State.onSec_msixMasked (f : SecSt → SecSt) : (s.onSec f).msixMasked = s.msixMasked := rfl
@[simp] theorem State.onSec_occ (f : SecSt → SecSt) : (s.onSec f).occ = s.occ := rfl
@[simp] theorem State.onSec_occTime (f : SecSt → SecSt) : (s.onSec f).occTime = s.occTime := rfl
@[simp] theorem State.onSec_limited (f : SecSt → SecSt) : (s.onSec f).limited = s.limited := rfl
@[simp] theorem State.onSec_i3cNotes (f : SecSt → SecSt) : (s.onSec f).i3cNotes = s.i3cNotes := rfl
@[simp] theorem State.onSec_i3cAddress (f : SecSt → SecSt) : (s.onSec f).i3cAddress = s.i3cAddress := rfl
@[simp] theorem State.onSec_wmpMajor (f : SecSt → SecSt) : (s.onSec f).wmpMajor = s.wmpMajor := rfl
@[simp] theorem State.onSec_wmpMinor (f : SecSt → SecSt) : (s.onSec f).wmpMinor = s.wmpMinor := rfl
@[simp] theorem State.onSec_mgrInbox (f : SecSt → SecSt) : (s.onSec f).mgrInbox = s.mgrInbox := rfl
@[simp] theorem State.onSec_faultTest (f : SecSt → SecSt) : (s.onSec f).faultTest = s.faultTest := rfl
@[simp] theorem State.onSec_faultOrder (f : SecSt → SecSt) : (s.onSec f).faultOrder = s.faultOrder := rfl
@[simp] theorem State.onSec_stoppedClocks (f : SecSt → SecSt) : (s.onSec f).stoppedClocks = s.stoppedClocks := rfl
@[simp] theorem State.onSec_plan (f : SecSt → SecSt) : (s.onSec f).plan = s.plan := rfl
@[simp] theorem State.onSec_rx (f : SecSt → SecSt) : (s.onSec f).rx = s.rx := rfl
@[simp] theorem State.onSec_tx (f : SecSt → SecSt) : (s.onSec f).tx = s.tx := rfl
@[simp] theorem State.onSec_line (f : SecSt → SecSt) : (s.onSec f).line = s.line := rfl
@[simp] theorem State.onSec_link (f : SecSt → SecSt) : (s.onSec f).link = s.link := rfl
@[simp] theorem State.onSec_neighbours (f : SecSt → SecSt) : (s.onSec f).neighbours = s.neighbours := rfl
@[simp] theorem State.onSec_nbHeard (f : SecSt → SecSt) : (s.onSec f).nbHeard = s.nbHeard := rfl
@[simp] theorem State.onSec_nbVersions (f : SecSt → SecSt) : (s.onSec f).nbVersions = s.nbVersions := rfl
@[simp] theorem State.onSec_label (f : SecSt → SecSt) : (s.onSec f).label = s.label := rfl
@[simp] theorem State.onSec_lanes (f : SecSt → SecSt) : (s.onSec f).lanes = s.lanes := rfl
@[simp] theorem State.onSec_ports (f : SecSt → SecSt) : (s.onSec f).ports = s.ports := rfl
@[simp] theorem State.onSec_time (f : SecSt → SecSt) : (s.onSec f).time = s.time := rfl
@[simp] theorem State.onSec_head (f : SecSt → SecSt) : (s.onSec f).head = s.head := rfl
@[simp] theorem State.onSec_ana (f : SecSt → SecSt) : (s.onSec f).ana = s.ana := rfl
@[simp] theorem State.onSec_sec (f : SecSt → SecSt) : (s.onSec f).sec = f s.sec := rfl
@[simp] theorem State.onSec_power (f : SecSt → SecSt) : (s.onSec f).power = s.power := rfl
@[simp] theorem State.onSec_cal (f : SecSt → SecSt) : (s.onSec f).cal = s.cal := rfl
@[simp] theorem State.onSec_bist (f : SecSt → SecSt) : (s.onSec f).bist = s.bist := rfl
@[simp] theorem State.onSec_glean (f : SecSt → SecSt) : (s.onSec f).glean = s.glean := rfl
@[simp] theorem State.onSec_mem (f : SecSt → SecSt) : (s.onSec f).mem = s.mem := rfl
@[simp] theorem State.onSec_cxl (f : SecSt → SecSt) : (s.onSec f).cxl = s.cxl := rfl
@[simp] theorem State.onSec_quals (f : SecSt → SecSt) : (s.onSec f).quals = s.quals := rfl
@[simp] theorem State.onSec_sent (f : SecSt → SecSt) : (s.onSec f).sent = s.sent := rfl
@[simp] theorem State.onSec_freeCount (f : SecSt → SecSt) : (s.onSec f).freeCount = s.freeCount := rfl
@[simp] theorem State.onSec_pending (f : SecSt → SecSt) : (s.onSec f).pending = s.pending := rfl
@[simp] theorem State.onSec_rd (f : SecSt → SecSt) (x : Nat) : (s.onSec f).rd x = s.rd x := rfl
@[simp] theorem State.onSec_get (f : SecSt → SecSt) (g : Fld) : (s.onSec f).get g = s.get g := rfl
@[simp] theorem State.onSec_on (f : SecSt → SecSt) (g : Fld) : (s.onSec f).on g = s.on g := rfl
@[simp] theorem State.onSec_getS (f : SecSt → SecSt) (g : Fld) : (s.onSec f).getS g = s.getS g := rfl

/-! ### onSession -/

@[simp] theorem State.onSession_regs (p : Nat) (f : SessionSt → SessionSt) : (s.onSession p f).regs = s.regs := rfl
@[simp] theorem State.onSession_shadows (p : Nat) (f : SessionSt → SessionSt) : (s.onSession p f).shadows = s.shadows := rfl
@[simp] theorem State.onSession_staging (p : Nat) (f : SessionSt → SessionSt) : (s.onSession p f).staging = s.staging := rfl
@[simp] theorem State.onSession_readData (p : Nat) (f : SessionSt → SessionSt) : (s.onSession p f).readData = s.readData := rfl
@[simp] theorem State.onSession_burst (p : Nat) (f : SessionSt → SessionSt) : (s.onSession p f).burst = s.burst := rfl
@[simp] theorem State.onSession_clock (p : Nat) (f : SessionSt → SessionSt) : (s.onSession p f).clock = s.clock := rfl
@[simp] theorem State.onSession_msixEnabled (p : Nat) (f : SessionSt → SessionSt) : (s.onSession p f).msixEnabled = s.msixEnabled := rfl
@[simp] theorem State.onSession_msixMasked (p : Nat) (f : SessionSt → SessionSt) : (s.onSession p f).msixMasked = s.msixMasked := rfl
@[simp] theorem State.onSession_occ (p : Nat) (f : SessionSt → SessionSt) : (s.onSession p f).occ = s.occ := rfl
@[simp] theorem State.onSession_occTime (p : Nat) (f : SessionSt → SessionSt) : (s.onSession p f).occTime = s.occTime := rfl
@[simp] theorem State.onSession_limited (p : Nat) (f : SessionSt → SessionSt) : (s.onSession p f).limited = s.limited := rfl
@[simp] theorem State.onSession_i3cNotes (p : Nat) (f : SessionSt → SessionSt) : (s.onSession p f).i3cNotes = s.i3cNotes := rfl
@[simp] theorem State.onSession_i3cAddress (p : Nat) (f : SessionSt → SessionSt) : (s.onSession p f).i3cAddress = s.i3cAddress := rfl
@[simp] theorem State.onSession_wmpMajor (p : Nat) (f : SessionSt → SessionSt) : (s.onSession p f).wmpMajor = s.wmpMajor := rfl
@[simp] theorem State.onSession_wmpMinor (p : Nat) (f : SessionSt → SessionSt) : (s.onSession p f).wmpMinor = s.wmpMinor := rfl
@[simp] theorem State.onSession_mgrInbox (p : Nat) (f : SessionSt → SessionSt) : (s.onSession p f).mgrInbox = s.mgrInbox := rfl
@[simp] theorem State.onSession_faultTest (p : Nat) (f : SessionSt → SessionSt) : (s.onSession p f).faultTest = s.faultTest := rfl
@[simp] theorem State.onSession_faultOrder (p : Nat) (f : SessionSt → SessionSt) : (s.onSession p f).faultOrder = s.faultOrder := rfl
@[simp] theorem State.onSession_stoppedClocks (p : Nat) (f : SessionSt → SessionSt) : (s.onSession p f).stoppedClocks = s.stoppedClocks := rfl
@[simp] theorem State.onSession_plan (p : Nat) (f : SessionSt → SessionSt) : (s.onSession p f).plan = s.plan := rfl
@[simp] theorem State.onSession_rx (p : Nat) (f : SessionSt → SessionSt) : (s.onSession p f).rx = s.rx := rfl
@[simp] theorem State.onSession_tx (p : Nat) (f : SessionSt → SessionSt) : (s.onSession p f).tx = s.tx := rfl
@[simp] theorem State.onSession_line (p : Nat) (f : SessionSt → SessionSt) : (s.onSession p f).line = s.line := rfl
@[simp] theorem State.onSession_link (p : Nat) (f : SessionSt → SessionSt) : (s.onSession p f).link = s.link := rfl
@[simp] theorem State.onSession_neighbours (p : Nat) (f : SessionSt → SessionSt) : (s.onSession p f).neighbours = s.neighbours := rfl
@[simp] theorem State.onSession_nbHeard (p : Nat) (f : SessionSt → SessionSt) : (s.onSession p f).nbHeard = s.nbHeard := rfl
@[simp] theorem State.onSession_nbVersions (p : Nat) (f : SessionSt → SessionSt) : (s.onSession p f).nbVersions = s.nbVersions := rfl
@[simp] theorem State.onSession_label (p : Nat) (f : SessionSt → SessionSt) : (s.onSession p f).label = s.label := rfl
@[simp] theorem State.onSession_lanes (p : Nat) (f : SessionSt → SessionSt) : (s.onSession p f).lanes = s.lanes := rfl
@[simp] theorem State.onSession_ports (p : Nat) (f : SessionSt → SessionSt) : (s.onSession p f).ports = s.ports := rfl
@[simp] theorem State.onSession_time (p : Nat) (f : SessionSt → SessionSt) : (s.onSession p f).time = s.time := rfl
@[simp] theorem State.onSession_head (p : Nat) (f : SessionSt → SessionSt) : (s.onSession p f).head = s.head := rfl
@[simp] theorem State.onSession_ana (p : Nat) (f : SessionSt → SessionSt) : (s.onSession p f).ana = s.ana := rfl
@[simp] theorem State.onSession_power (p : Nat) (f : SessionSt → SessionSt) : (s.onSession p f).power = s.power := rfl
@[simp] theorem State.onSession_cal (p : Nat) (f : SessionSt → SessionSt) : (s.onSession p f).cal = s.cal := rfl
@[simp] theorem State.onSession_bist (p : Nat) (f : SessionSt → SessionSt) : (s.onSession p f).bist = s.bist := rfl
@[simp] theorem State.onSession_glean (p : Nat) (f : SessionSt → SessionSt) : (s.onSession p f).glean = s.glean := rfl
@[simp] theorem State.onSession_mem (p : Nat) (f : SessionSt → SessionSt) : (s.onSession p f).mem = s.mem := rfl
@[simp] theorem State.onSession_cxl (p : Nat) (f : SessionSt → SessionSt) : (s.onSession p f).cxl = s.cxl := rfl
@[simp] theorem State.onSession_quals (p : Nat) (f : SessionSt → SessionSt) : (s.onSession p f).quals = s.quals := rfl
@[simp] theorem State.onSession_sent (p : Nat) (f : SessionSt → SessionSt) : (s.onSession p f).sent = s.sent := rfl
@[simp] theorem State.onSession_freeCount (p : Nat) (f : SessionSt → SessionSt) : (s.onSession p f).freeCount = s.freeCount := rfl
@[simp] theorem State.onSession_pending (p : Nat) (f : SessionSt → SessionSt) : (s.onSession p f).pending = s.pending := rfl
@[simp] theorem State.onSession_rd (p : Nat) (f : SessionSt → SessionSt) (x : Nat) : (s.onSession p f).rd x = s.rd x := rfl
@[simp] theorem State.onSession_get (p : Nat) (f : SessionSt → SessionSt) (g : Fld) : (s.onSession p f).get g = s.get g := rfl
@[simp] theorem State.onSession_on (p : Nat) (f : SessionSt → SessionSt) (g : Fld) : (s.onSession p f).on g = s.on g := rfl
@[simp] theorem State.onSession_getS (p : Nat) (f : SessionSt → SessionSt) (g : Fld) : (s.onSession p f).getS g = s.getS g := rfl

/-! ### onPower -/

@[simp] theorem State.onPower_regs (f : PowerSt → PowerSt) : (s.onPower f).regs = s.regs := rfl
@[simp] theorem State.onPower_shadows (f : PowerSt → PowerSt) : (s.onPower f).shadows = s.shadows := rfl
@[simp] theorem State.onPower_staging (f : PowerSt → PowerSt) : (s.onPower f).staging = s.staging := rfl
@[simp] theorem State.onPower_readData (f : PowerSt → PowerSt) : (s.onPower f).readData = s.readData := rfl
@[simp] theorem State.onPower_burst (f : PowerSt → PowerSt) : (s.onPower f).burst = s.burst := rfl
@[simp] theorem State.onPower_clock (f : PowerSt → PowerSt) : (s.onPower f).clock = s.clock := rfl
@[simp] theorem State.onPower_msixEnabled (f : PowerSt → PowerSt) : (s.onPower f).msixEnabled = s.msixEnabled := rfl
@[simp] theorem State.onPower_msixMasked (f : PowerSt → PowerSt) : (s.onPower f).msixMasked = s.msixMasked := rfl
@[simp] theorem State.onPower_occ (f : PowerSt → PowerSt) : (s.onPower f).occ = s.occ := rfl
@[simp] theorem State.onPower_occTime (f : PowerSt → PowerSt) : (s.onPower f).occTime = s.occTime := rfl
@[simp] theorem State.onPower_limited (f : PowerSt → PowerSt) : (s.onPower f).limited = s.limited := rfl
@[simp] theorem State.onPower_i3cNotes (f : PowerSt → PowerSt) : (s.onPower f).i3cNotes = s.i3cNotes := rfl
@[simp] theorem State.onPower_i3cAddress (f : PowerSt → PowerSt) : (s.onPower f).i3cAddress = s.i3cAddress := rfl
@[simp] theorem State.onPower_wmpMajor (f : PowerSt → PowerSt) : (s.onPower f).wmpMajor = s.wmpMajor := rfl
@[simp] theorem State.onPower_wmpMinor (f : PowerSt → PowerSt) : (s.onPower f).wmpMinor = s.wmpMinor := rfl
@[simp] theorem State.onPower_mgrInbox (f : PowerSt → PowerSt) : (s.onPower f).mgrInbox = s.mgrInbox := rfl
@[simp] theorem State.onPower_faultTest (f : PowerSt → PowerSt) : (s.onPower f).faultTest = s.faultTest := rfl
@[simp] theorem State.onPower_faultOrder (f : PowerSt → PowerSt) : (s.onPower f).faultOrder = s.faultOrder := rfl
@[simp] theorem State.onPower_stoppedClocks (f : PowerSt → PowerSt) : (s.onPower f).stoppedClocks = s.stoppedClocks := rfl
@[simp] theorem State.onPower_plan (f : PowerSt → PowerSt) : (s.onPower f).plan = s.plan := rfl
@[simp] theorem State.onPower_rx (f : PowerSt → PowerSt) : (s.onPower f).rx = s.rx := rfl
@[simp] theorem State.onPower_tx (f : PowerSt → PowerSt) : (s.onPower f).tx = s.tx := rfl
@[simp] theorem State.onPower_line (f : PowerSt → PowerSt) : (s.onPower f).line = s.line := rfl
@[simp] theorem State.onPower_link (f : PowerSt → PowerSt) : (s.onPower f).link = s.link := rfl
@[simp] theorem State.onPower_neighbours (f : PowerSt → PowerSt) : (s.onPower f).neighbours = s.neighbours := rfl
@[simp] theorem State.onPower_nbHeard (f : PowerSt → PowerSt) : (s.onPower f).nbHeard = s.nbHeard := rfl
@[simp] theorem State.onPower_nbVersions (f : PowerSt → PowerSt) : (s.onPower f).nbVersions = s.nbVersions := rfl
@[simp] theorem State.onPower_label (f : PowerSt → PowerSt) : (s.onPower f).label = s.label := rfl
@[simp] theorem State.onPower_lanes (f : PowerSt → PowerSt) : (s.onPower f).lanes = s.lanes := rfl
@[simp] theorem State.onPower_ports (f : PowerSt → PowerSt) : (s.onPower f).ports = s.ports := rfl
@[simp] theorem State.onPower_time (f : PowerSt → PowerSt) : (s.onPower f).time = s.time := rfl
@[simp] theorem State.onPower_head (f : PowerSt → PowerSt) : (s.onPower f).head = s.head := rfl
@[simp] theorem State.onPower_ana (f : PowerSt → PowerSt) : (s.onPower f).ana = s.ana := rfl
@[simp] theorem State.onPower_sec (f : PowerSt → PowerSt) : (s.onPower f).sec = s.sec := rfl
@[simp] theorem State.onPower_power (f : PowerSt → PowerSt) : (s.onPower f).power = f s.power := rfl
@[simp] theorem State.onPower_cal (f : PowerSt → PowerSt) : (s.onPower f).cal = s.cal := rfl
@[simp] theorem State.onPower_bist (f : PowerSt → PowerSt) : (s.onPower f).bist = s.bist := rfl
@[simp] theorem State.onPower_glean (f : PowerSt → PowerSt) : (s.onPower f).glean = s.glean := rfl
@[simp] theorem State.onPower_mem (f : PowerSt → PowerSt) : (s.onPower f).mem = s.mem := rfl
@[simp] theorem State.onPower_cxl (f : PowerSt → PowerSt) : (s.onPower f).cxl = s.cxl := rfl
@[simp] theorem State.onPower_quals (f : PowerSt → PowerSt) : (s.onPower f).quals = s.quals := rfl
@[simp] theorem State.onPower_sent (f : PowerSt → PowerSt) : (s.onPower f).sent = s.sent := rfl
@[simp] theorem State.onPower_freeCount (f : PowerSt → PowerSt) : (s.onPower f).freeCount = s.freeCount := rfl
@[simp] theorem State.onPower_pending (f : PowerSt → PowerSt) : (s.onPower f).pending = s.pending := rfl
@[simp] theorem State.onPower_rd (f : PowerSt → PowerSt) (x : Nat) : (s.onPower f).rd x = s.rd x := rfl
@[simp] theorem State.onPower_get (f : PowerSt → PowerSt) (g : Fld) : (s.onPower f).get g = s.get g := rfl
@[simp] theorem State.onPower_on (f : PowerSt → PowerSt) (g : Fld) : (s.onPower f).on g = s.on g := rfl
@[simp] theorem State.onPower_getS (f : PowerSt → PowerSt) (g : Fld) : (s.onPower f).getS g = s.getS g := rfl

/-! ### onCal -/

@[simp] theorem State.onCal_regs (f : CalSt → CalSt) : (s.onCal f).regs = s.regs := rfl
@[simp] theorem State.onCal_shadows (f : CalSt → CalSt) : (s.onCal f).shadows = s.shadows := rfl
@[simp] theorem State.onCal_staging (f : CalSt → CalSt) : (s.onCal f).staging = s.staging := rfl
@[simp] theorem State.onCal_readData (f : CalSt → CalSt) : (s.onCal f).readData = s.readData := rfl
@[simp] theorem State.onCal_burst (f : CalSt → CalSt) : (s.onCal f).burst = s.burst := rfl
@[simp] theorem State.onCal_clock (f : CalSt → CalSt) : (s.onCal f).clock = s.clock := rfl
@[simp] theorem State.onCal_msixEnabled (f : CalSt → CalSt) : (s.onCal f).msixEnabled = s.msixEnabled := rfl
@[simp] theorem State.onCal_msixMasked (f : CalSt → CalSt) : (s.onCal f).msixMasked = s.msixMasked := rfl
@[simp] theorem State.onCal_occ (f : CalSt → CalSt) : (s.onCal f).occ = s.occ := rfl
@[simp] theorem State.onCal_occTime (f : CalSt → CalSt) : (s.onCal f).occTime = s.occTime := rfl
@[simp] theorem State.onCal_limited (f : CalSt → CalSt) : (s.onCal f).limited = s.limited := rfl
@[simp] theorem State.onCal_i3cNotes (f : CalSt → CalSt) : (s.onCal f).i3cNotes = s.i3cNotes := rfl
@[simp] theorem State.onCal_i3cAddress (f : CalSt → CalSt) : (s.onCal f).i3cAddress = s.i3cAddress := rfl
@[simp] theorem State.onCal_wmpMajor (f : CalSt → CalSt) : (s.onCal f).wmpMajor = s.wmpMajor := rfl
@[simp] theorem State.onCal_wmpMinor (f : CalSt → CalSt) : (s.onCal f).wmpMinor = s.wmpMinor := rfl
@[simp] theorem State.onCal_mgrInbox (f : CalSt → CalSt) : (s.onCal f).mgrInbox = s.mgrInbox := rfl
@[simp] theorem State.onCal_faultTest (f : CalSt → CalSt) : (s.onCal f).faultTest = s.faultTest := rfl
@[simp] theorem State.onCal_faultOrder (f : CalSt → CalSt) : (s.onCal f).faultOrder = s.faultOrder := rfl
@[simp] theorem State.onCal_stoppedClocks (f : CalSt → CalSt) : (s.onCal f).stoppedClocks = s.stoppedClocks := rfl
@[simp] theorem State.onCal_plan (f : CalSt → CalSt) : (s.onCal f).plan = s.plan := rfl
@[simp] theorem State.onCal_rx (f : CalSt → CalSt) : (s.onCal f).rx = s.rx := rfl
@[simp] theorem State.onCal_tx (f : CalSt → CalSt) : (s.onCal f).tx = s.tx := rfl
@[simp] theorem State.onCal_line (f : CalSt → CalSt) : (s.onCal f).line = s.line := rfl
@[simp] theorem State.onCal_link (f : CalSt → CalSt) : (s.onCal f).link = s.link := rfl
@[simp] theorem State.onCal_neighbours (f : CalSt → CalSt) : (s.onCal f).neighbours = s.neighbours := rfl
@[simp] theorem State.onCal_nbHeard (f : CalSt → CalSt) : (s.onCal f).nbHeard = s.nbHeard := rfl
@[simp] theorem State.onCal_nbVersions (f : CalSt → CalSt) : (s.onCal f).nbVersions = s.nbVersions := rfl
@[simp] theorem State.onCal_label (f : CalSt → CalSt) : (s.onCal f).label = s.label := rfl
@[simp] theorem State.onCal_lanes (f : CalSt → CalSt) : (s.onCal f).lanes = s.lanes := rfl
@[simp] theorem State.onCal_ports (f : CalSt → CalSt) : (s.onCal f).ports = s.ports := rfl
@[simp] theorem State.onCal_time (f : CalSt → CalSt) : (s.onCal f).time = s.time := rfl
@[simp] theorem State.onCal_head (f : CalSt → CalSt) : (s.onCal f).head = s.head := rfl
@[simp] theorem State.onCal_ana (f : CalSt → CalSt) : (s.onCal f).ana = s.ana := rfl
@[simp] theorem State.onCal_sec (f : CalSt → CalSt) : (s.onCal f).sec = s.sec := rfl
@[simp] theorem State.onCal_power (f : CalSt → CalSt) : (s.onCal f).power = s.power := rfl
@[simp] theorem State.onCal_cal (f : CalSt → CalSt) : (s.onCal f).cal = f s.cal := rfl
@[simp] theorem State.onCal_bist (f : CalSt → CalSt) : (s.onCal f).bist = s.bist := rfl
@[simp] theorem State.onCal_glean (f : CalSt → CalSt) : (s.onCal f).glean = s.glean := rfl
@[simp] theorem State.onCal_mem (f : CalSt → CalSt) : (s.onCal f).mem = s.mem := rfl
@[simp] theorem State.onCal_cxl (f : CalSt → CalSt) : (s.onCal f).cxl = s.cxl := rfl
@[simp] theorem State.onCal_quals (f : CalSt → CalSt) : (s.onCal f).quals = s.quals := rfl
@[simp] theorem State.onCal_sent (f : CalSt → CalSt) : (s.onCal f).sent = s.sent := rfl
@[simp] theorem State.onCal_freeCount (f : CalSt → CalSt) : (s.onCal f).freeCount = s.freeCount := rfl
@[simp] theorem State.onCal_pending (f : CalSt → CalSt) : (s.onCal f).pending = s.pending := rfl
@[simp] theorem State.onCal_rd (f : CalSt → CalSt) (x : Nat) : (s.onCal f).rd x = s.rd x := rfl
@[simp] theorem State.onCal_get (f : CalSt → CalSt) (g : Fld) : (s.onCal f).get g = s.get g := rfl
@[simp] theorem State.onCal_on (f : CalSt → CalSt) (g : Fld) : (s.onCal f).on g = s.on g := rfl
@[simp] theorem State.onCal_getS (f : CalSt → CalSt) (g : Fld) : (s.onCal f).getS g = s.getS g := rfl

/-! ### onBist -/

@[simp] theorem State.onBist_regs (f : BistSt → BistSt) : (s.onBist f).regs = s.regs := rfl
@[simp] theorem State.onBist_shadows (f : BistSt → BistSt) : (s.onBist f).shadows = s.shadows := rfl
@[simp] theorem State.onBist_staging (f : BistSt → BistSt) : (s.onBist f).staging = s.staging := rfl
@[simp] theorem State.onBist_readData (f : BistSt → BistSt) : (s.onBist f).readData = s.readData := rfl
@[simp] theorem State.onBist_burst (f : BistSt → BistSt) : (s.onBist f).burst = s.burst := rfl
@[simp] theorem State.onBist_clock (f : BistSt → BistSt) : (s.onBist f).clock = s.clock := rfl
@[simp] theorem State.onBist_msixEnabled (f : BistSt → BistSt) : (s.onBist f).msixEnabled = s.msixEnabled := rfl
@[simp] theorem State.onBist_msixMasked (f : BistSt → BistSt) : (s.onBist f).msixMasked = s.msixMasked := rfl
@[simp] theorem State.onBist_occ (f : BistSt → BistSt) : (s.onBist f).occ = s.occ := rfl
@[simp] theorem State.onBist_occTime (f : BistSt → BistSt) : (s.onBist f).occTime = s.occTime := rfl
@[simp] theorem State.onBist_limited (f : BistSt → BistSt) : (s.onBist f).limited = s.limited := rfl
@[simp] theorem State.onBist_i3cNotes (f : BistSt → BistSt) : (s.onBist f).i3cNotes = s.i3cNotes := rfl
@[simp] theorem State.onBist_i3cAddress (f : BistSt → BistSt) : (s.onBist f).i3cAddress = s.i3cAddress := rfl
@[simp] theorem State.onBist_wmpMajor (f : BistSt → BistSt) : (s.onBist f).wmpMajor = s.wmpMajor := rfl
@[simp] theorem State.onBist_wmpMinor (f : BistSt → BistSt) : (s.onBist f).wmpMinor = s.wmpMinor := rfl
@[simp] theorem State.onBist_mgrInbox (f : BistSt → BistSt) : (s.onBist f).mgrInbox = s.mgrInbox := rfl
@[simp] theorem State.onBist_faultTest (f : BistSt → BistSt) : (s.onBist f).faultTest = s.faultTest := rfl
@[simp] theorem State.onBist_faultOrder (f : BistSt → BistSt) : (s.onBist f).faultOrder = s.faultOrder := rfl
@[simp] theorem State.onBist_stoppedClocks (f : BistSt → BistSt) : (s.onBist f).stoppedClocks = s.stoppedClocks := rfl
@[simp] theorem State.onBist_plan (f : BistSt → BistSt) : (s.onBist f).plan = s.plan := rfl
@[simp] theorem State.onBist_rx (f : BistSt → BistSt) : (s.onBist f).rx = s.rx := rfl
@[simp] theorem State.onBist_tx (f : BistSt → BistSt) : (s.onBist f).tx = s.tx := rfl
@[simp] theorem State.onBist_line (f : BistSt → BistSt) : (s.onBist f).line = s.line := rfl
@[simp] theorem State.onBist_link (f : BistSt → BistSt) : (s.onBist f).link = s.link := rfl
@[simp] theorem State.onBist_neighbours (f : BistSt → BistSt) : (s.onBist f).neighbours = s.neighbours := rfl
@[simp] theorem State.onBist_nbHeard (f : BistSt → BistSt) : (s.onBist f).nbHeard = s.nbHeard := rfl
@[simp] theorem State.onBist_nbVersions (f : BistSt → BistSt) : (s.onBist f).nbVersions = s.nbVersions := rfl
@[simp] theorem State.onBist_label (f : BistSt → BistSt) : (s.onBist f).label = s.label := rfl
@[simp] theorem State.onBist_lanes (f : BistSt → BistSt) : (s.onBist f).lanes = s.lanes := rfl
@[simp] theorem State.onBist_ports (f : BistSt → BistSt) : (s.onBist f).ports = s.ports := rfl
@[simp] theorem State.onBist_time (f : BistSt → BistSt) : (s.onBist f).time = s.time := rfl
@[simp] theorem State.onBist_head (f : BistSt → BistSt) : (s.onBist f).head = s.head := rfl
@[simp] theorem State.onBist_ana (f : BistSt → BistSt) : (s.onBist f).ana = s.ana := rfl
@[simp] theorem State.onBist_sec (f : BistSt → BistSt) : (s.onBist f).sec = s.sec := rfl
@[simp] theorem State.onBist_power (f : BistSt → BistSt) : (s.onBist f).power = s.power := rfl
@[simp] theorem State.onBist_cal (f : BistSt → BistSt) : (s.onBist f).cal = s.cal := rfl
@[simp] theorem State.onBist_bist (f : BistSt → BistSt) : (s.onBist f).bist = f s.bist := rfl
@[simp] theorem State.onBist_glean (f : BistSt → BistSt) : (s.onBist f).glean = s.glean := rfl
@[simp] theorem State.onBist_mem (f : BistSt → BistSt) : (s.onBist f).mem = s.mem := rfl
@[simp] theorem State.onBist_cxl (f : BistSt → BistSt) : (s.onBist f).cxl = s.cxl := rfl
@[simp] theorem State.onBist_quals (f : BistSt → BistSt) : (s.onBist f).quals = s.quals := rfl
@[simp] theorem State.onBist_sent (f : BistSt → BistSt) : (s.onBist f).sent = s.sent := rfl
@[simp] theorem State.onBist_freeCount (f : BistSt → BistSt) : (s.onBist f).freeCount = s.freeCount := rfl
@[simp] theorem State.onBist_pending (f : BistSt → BistSt) : (s.onBist f).pending = s.pending := rfl
@[simp] theorem State.onBist_rd (f : BistSt → BistSt) (x : Nat) : (s.onBist f).rd x = s.rd x := rfl
@[simp] theorem State.onBist_get (f : BistSt → BistSt) (g : Fld) : (s.onBist f).get g = s.get g := rfl
@[simp] theorem State.onBist_on (f : BistSt → BistSt) (g : Fld) : (s.onBist f).on g = s.on g := rfl
@[simp] theorem State.onBist_getS (f : BistSt → BistSt) (g : Fld) : (s.onBist f).getS g = s.getS g := rfl

/-! ### onGlean -/

@[simp] theorem State.onGlean_regs (f : GleanSt → GleanSt) : (s.onGlean f).regs = s.regs := rfl
@[simp] theorem State.onGlean_shadows (f : GleanSt → GleanSt) : (s.onGlean f).shadows = s.shadows := rfl
@[simp] theorem State.onGlean_staging (f : GleanSt → GleanSt) : (s.onGlean f).staging = s.staging := rfl
@[simp] theorem State.onGlean_readData (f : GleanSt → GleanSt) : (s.onGlean f).readData = s.readData := rfl
@[simp] theorem State.onGlean_burst (f : GleanSt → GleanSt) : (s.onGlean f).burst = s.burst := rfl
@[simp] theorem State.onGlean_clock (f : GleanSt → GleanSt) : (s.onGlean f).clock = s.clock := rfl
@[simp] theorem State.onGlean_msixEnabled (f : GleanSt → GleanSt) : (s.onGlean f).msixEnabled = s.msixEnabled := rfl
@[simp] theorem State.onGlean_msixMasked (f : GleanSt → GleanSt) : (s.onGlean f).msixMasked = s.msixMasked := rfl
@[simp] theorem State.onGlean_occ (f : GleanSt → GleanSt) : (s.onGlean f).occ = s.occ := rfl
@[simp] theorem State.onGlean_occTime (f : GleanSt → GleanSt) : (s.onGlean f).occTime = s.occTime := rfl
@[simp] theorem State.onGlean_limited (f : GleanSt → GleanSt) : (s.onGlean f).limited = s.limited := rfl
@[simp] theorem State.onGlean_i3cNotes (f : GleanSt → GleanSt) : (s.onGlean f).i3cNotes = s.i3cNotes := rfl
@[simp] theorem State.onGlean_i3cAddress (f : GleanSt → GleanSt) : (s.onGlean f).i3cAddress = s.i3cAddress := rfl
@[simp] theorem State.onGlean_wmpMajor (f : GleanSt → GleanSt) : (s.onGlean f).wmpMajor = s.wmpMajor := rfl
@[simp] theorem State.onGlean_wmpMinor (f : GleanSt → GleanSt) : (s.onGlean f).wmpMinor = s.wmpMinor := rfl
@[simp] theorem State.onGlean_mgrInbox (f : GleanSt → GleanSt) : (s.onGlean f).mgrInbox = s.mgrInbox := rfl
@[simp] theorem State.onGlean_faultTest (f : GleanSt → GleanSt) : (s.onGlean f).faultTest = s.faultTest := rfl
@[simp] theorem State.onGlean_faultOrder (f : GleanSt → GleanSt) : (s.onGlean f).faultOrder = s.faultOrder := rfl
@[simp] theorem State.onGlean_stoppedClocks (f : GleanSt → GleanSt) : (s.onGlean f).stoppedClocks = s.stoppedClocks := rfl
@[simp] theorem State.onGlean_plan (f : GleanSt → GleanSt) : (s.onGlean f).plan = s.plan := rfl
@[simp] theorem State.onGlean_rx (f : GleanSt → GleanSt) : (s.onGlean f).rx = s.rx := rfl
@[simp] theorem State.onGlean_tx (f : GleanSt → GleanSt) : (s.onGlean f).tx = s.tx := rfl
@[simp] theorem State.onGlean_line (f : GleanSt → GleanSt) : (s.onGlean f).line = s.line := rfl
@[simp] theorem State.onGlean_link (f : GleanSt → GleanSt) : (s.onGlean f).link = s.link := rfl
@[simp] theorem State.onGlean_neighbours (f : GleanSt → GleanSt) : (s.onGlean f).neighbours = s.neighbours := rfl
@[simp] theorem State.onGlean_nbHeard (f : GleanSt → GleanSt) : (s.onGlean f).nbHeard = s.nbHeard := rfl
@[simp] theorem State.onGlean_nbVersions (f : GleanSt → GleanSt) : (s.onGlean f).nbVersions = s.nbVersions := rfl
@[simp] theorem State.onGlean_label (f : GleanSt → GleanSt) : (s.onGlean f).label = s.label := rfl
@[simp] theorem State.onGlean_lanes (f : GleanSt → GleanSt) : (s.onGlean f).lanes = s.lanes := rfl
@[simp] theorem State.onGlean_ports (f : GleanSt → GleanSt) : (s.onGlean f).ports = s.ports := rfl
@[simp] theorem State.onGlean_time (f : GleanSt → GleanSt) : (s.onGlean f).time = s.time := rfl
@[simp] theorem State.onGlean_head (f : GleanSt → GleanSt) : (s.onGlean f).head = s.head := rfl
@[simp] theorem State.onGlean_ana (f : GleanSt → GleanSt) : (s.onGlean f).ana = s.ana := rfl
@[simp] theorem State.onGlean_sec (f : GleanSt → GleanSt) : (s.onGlean f).sec = s.sec := rfl
@[simp] theorem State.onGlean_power (f : GleanSt → GleanSt) : (s.onGlean f).power = s.power := rfl
@[simp] theorem State.onGlean_cal (f : GleanSt → GleanSt) : (s.onGlean f).cal = s.cal := rfl
@[simp] theorem State.onGlean_bist (f : GleanSt → GleanSt) : (s.onGlean f).bist = s.bist := rfl
@[simp] theorem State.onGlean_glean (f : GleanSt → GleanSt) : (s.onGlean f).glean = f s.glean := rfl
@[simp] theorem State.onGlean_mem (f : GleanSt → GleanSt) : (s.onGlean f).mem = s.mem := rfl
@[simp] theorem State.onGlean_cxl (f : GleanSt → GleanSt) : (s.onGlean f).cxl = s.cxl := rfl
@[simp] theorem State.onGlean_quals (f : GleanSt → GleanSt) : (s.onGlean f).quals = s.quals := rfl
@[simp] theorem State.onGlean_sent (f : GleanSt → GleanSt) : (s.onGlean f).sent = s.sent := rfl
@[simp] theorem State.onGlean_freeCount (f : GleanSt → GleanSt) : (s.onGlean f).freeCount = s.freeCount := rfl
@[simp] theorem State.onGlean_pending (f : GleanSt → GleanSt) : (s.onGlean f).pending = s.pending := rfl
@[simp] theorem State.onGlean_rd (f : GleanSt → GleanSt) (x : Nat) : (s.onGlean f).rd x = s.rd x := rfl
@[simp] theorem State.onGlean_get (f : GleanSt → GleanSt) (g : Fld) : (s.onGlean f).get g = s.get g := rfl
@[simp] theorem State.onGlean_on (f : GleanSt → GleanSt) (g : Fld) : (s.onGlean f).on g = s.on g := rfl
@[simp] theorem State.onGlean_getS (f : GleanSt → GleanSt) (g : Fld) : (s.onGlean f).getS g = s.getS g := rfl

/-! ### onUnit -/

@[simp] theorem State.onUnit_regs (u : Nat) (f : GleanUnit → GleanUnit) : (s.onUnit u f).regs = s.regs := rfl
@[simp] theorem State.onUnit_shadows (u : Nat) (f : GleanUnit → GleanUnit) : (s.onUnit u f).shadows = s.shadows := rfl
@[simp] theorem State.onUnit_staging (u : Nat) (f : GleanUnit → GleanUnit) : (s.onUnit u f).staging = s.staging := rfl
@[simp] theorem State.onUnit_readData (u : Nat) (f : GleanUnit → GleanUnit) : (s.onUnit u f).readData = s.readData := rfl
@[simp] theorem State.onUnit_burst (u : Nat) (f : GleanUnit → GleanUnit) : (s.onUnit u f).burst = s.burst := rfl
@[simp] theorem State.onUnit_clock (u : Nat) (f : GleanUnit → GleanUnit) : (s.onUnit u f).clock = s.clock := rfl
@[simp] theorem State.onUnit_msixEnabled (u : Nat) (f : GleanUnit → GleanUnit) : (s.onUnit u f).msixEnabled = s.msixEnabled := rfl
@[simp] theorem State.onUnit_msixMasked (u : Nat) (f : GleanUnit → GleanUnit) : (s.onUnit u f).msixMasked = s.msixMasked := rfl
@[simp] theorem State.onUnit_occ (u : Nat) (f : GleanUnit → GleanUnit) : (s.onUnit u f).occ = s.occ := rfl
@[simp] theorem State.onUnit_occTime (u : Nat) (f : GleanUnit → GleanUnit) : (s.onUnit u f).occTime = s.occTime := rfl
@[simp] theorem State.onUnit_limited (u : Nat) (f : GleanUnit → GleanUnit) : (s.onUnit u f).limited = s.limited := rfl
@[simp] theorem State.onUnit_i3cNotes (u : Nat) (f : GleanUnit → GleanUnit) : (s.onUnit u f).i3cNotes = s.i3cNotes := rfl
@[simp] theorem State.onUnit_i3cAddress (u : Nat) (f : GleanUnit → GleanUnit) : (s.onUnit u f).i3cAddress = s.i3cAddress := rfl
@[simp] theorem State.onUnit_wmpMajor (u : Nat) (f : GleanUnit → GleanUnit) : (s.onUnit u f).wmpMajor = s.wmpMajor := rfl
@[simp] theorem State.onUnit_wmpMinor (u : Nat) (f : GleanUnit → GleanUnit) : (s.onUnit u f).wmpMinor = s.wmpMinor := rfl
@[simp] theorem State.onUnit_mgrInbox (u : Nat) (f : GleanUnit → GleanUnit) : (s.onUnit u f).mgrInbox = s.mgrInbox := rfl
@[simp] theorem State.onUnit_faultTest (u : Nat) (f : GleanUnit → GleanUnit) : (s.onUnit u f).faultTest = s.faultTest := rfl
@[simp] theorem State.onUnit_faultOrder (u : Nat) (f : GleanUnit → GleanUnit) : (s.onUnit u f).faultOrder = s.faultOrder := rfl
@[simp] theorem State.onUnit_stoppedClocks (u : Nat) (f : GleanUnit → GleanUnit) : (s.onUnit u f).stoppedClocks = s.stoppedClocks := rfl
@[simp] theorem State.onUnit_plan (u : Nat) (f : GleanUnit → GleanUnit) : (s.onUnit u f).plan = s.plan := rfl
@[simp] theorem State.onUnit_rx (u : Nat) (f : GleanUnit → GleanUnit) : (s.onUnit u f).rx = s.rx := rfl
@[simp] theorem State.onUnit_tx (u : Nat) (f : GleanUnit → GleanUnit) : (s.onUnit u f).tx = s.tx := rfl
@[simp] theorem State.onUnit_line (u : Nat) (f : GleanUnit → GleanUnit) : (s.onUnit u f).line = s.line := rfl
@[simp] theorem State.onUnit_link (u : Nat) (f : GleanUnit → GleanUnit) : (s.onUnit u f).link = s.link := rfl
@[simp] theorem State.onUnit_neighbours (u : Nat) (f : GleanUnit → GleanUnit) : (s.onUnit u f).neighbours = s.neighbours := rfl
@[simp] theorem State.onUnit_nbHeard (u : Nat) (f : GleanUnit → GleanUnit) : (s.onUnit u f).nbHeard = s.nbHeard := rfl
@[simp] theorem State.onUnit_nbVersions (u : Nat) (f : GleanUnit → GleanUnit) : (s.onUnit u f).nbVersions = s.nbVersions := rfl
@[simp] theorem State.onUnit_label (u : Nat) (f : GleanUnit → GleanUnit) : (s.onUnit u f).label = s.label := rfl
@[simp] theorem State.onUnit_lanes (u : Nat) (f : GleanUnit → GleanUnit) : (s.onUnit u f).lanes = s.lanes := rfl
@[simp] theorem State.onUnit_ports (u : Nat) (f : GleanUnit → GleanUnit) : (s.onUnit u f).ports = s.ports := rfl
@[simp] theorem State.onUnit_time (u : Nat) (f : GleanUnit → GleanUnit) : (s.onUnit u f).time = s.time := rfl
@[simp] theorem State.onUnit_head (u : Nat) (f : GleanUnit → GleanUnit) : (s.onUnit u f).head = s.head := rfl
@[simp] theorem State.onUnit_ana (u : Nat) (f : GleanUnit → GleanUnit) : (s.onUnit u f).ana = s.ana := rfl
@[simp] theorem State.onUnit_sec (u : Nat) (f : GleanUnit → GleanUnit) : (s.onUnit u f).sec = s.sec := rfl
@[simp] theorem State.onUnit_power (u : Nat) (f : GleanUnit → GleanUnit) : (s.onUnit u f).power = s.power := rfl
@[simp] theorem State.onUnit_cal (u : Nat) (f : GleanUnit → GleanUnit) : (s.onUnit u f).cal = s.cal := rfl
@[simp] theorem State.onUnit_bist (u : Nat) (f : GleanUnit → GleanUnit) : (s.onUnit u f).bist = s.bist := rfl
@[simp] theorem State.onUnit_mem (u : Nat) (f : GleanUnit → GleanUnit) : (s.onUnit u f).mem = s.mem := rfl
@[simp] theorem State.onUnit_cxl (u : Nat) (f : GleanUnit → GleanUnit) : (s.onUnit u f).cxl = s.cxl := rfl
@[simp] theorem State.onUnit_quals (u : Nat) (f : GleanUnit → GleanUnit) : (s.onUnit u f).quals = s.quals := rfl
@[simp] theorem State.onUnit_sent (u : Nat) (f : GleanUnit → GleanUnit) : (s.onUnit u f).sent = s.sent := rfl
@[simp] theorem State.onUnit_freeCount (u : Nat) (f : GleanUnit → GleanUnit) : (s.onUnit u f).freeCount = s.freeCount := rfl
@[simp] theorem State.onUnit_pending (u : Nat) (f : GleanUnit → GleanUnit) : (s.onUnit u f).pending = s.pending := rfl
@[simp] theorem State.onUnit_rd (u : Nat) (f : GleanUnit → GleanUnit) (x : Nat) : (s.onUnit u f).rd x = s.rd x := rfl
@[simp] theorem State.onUnit_get (u : Nat) (f : GleanUnit → GleanUnit) (g : Fld) : (s.onUnit u f).get g = s.get g := rfl
@[simp] theorem State.onUnit_on (u : Nat) (f : GleanUnit → GleanUnit) (g : Fld) : (s.onUnit u f).on g = s.on g := rfl
@[simp] theorem State.onUnit_getS (u : Nat) (f : GleanUnit → GleanUnit) (g : Fld) : (s.onUnit u f).getS g = s.getS g := rfl

/-! ### onMem -/

@[simp] theorem State.onMem_regs (f : MemSt → MemSt) : (s.onMem f).regs = s.regs := rfl
@[simp] theorem State.onMem_shadows (f : MemSt → MemSt) : (s.onMem f).shadows = s.shadows := rfl
@[simp] theorem State.onMem_staging (f : MemSt → MemSt) : (s.onMem f).staging = s.staging := rfl
@[simp] theorem State.onMem_readData (f : MemSt → MemSt) : (s.onMem f).readData = s.readData := rfl
@[simp] theorem State.onMem_burst (f : MemSt → MemSt) : (s.onMem f).burst = s.burst := rfl
@[simp] theorem State.onMem_clock (f : MemSt → MemSt) : (s.onMem f).clock = s.clock := rfl
@[simp] theorem State.onMem_msixEnabled (f : MemSt → MemSt) : (s.onMem f).msixEnabled = s.msixEnabled := rfl
@[simp] theorem State.onMem_msixMasked (f : MemSt → MemSt) : (s.onMem f).msixMasked = s.msixMasked := rfl
@[simp] theorem State.onMem_occ (f : MemSt → MemSt) : (s.onMem f).occ = s.occ := rfl
@[simp] theorem State.onMem_occTime (f : MemSt → MemSt) : (s.onMem f).occTime = s.occTime := rfl
@[simp] theorem State.onMem_limited (f : MemSt → MemSt) : (s.onMem f).limited = s.limited := rfl
@[simp] theorem State.onMem_i3cNotes (f : MemSt → MemSt) : (s.onMem f).i3cNotes = s.i3cNotes := rfl
@[simp] theorem State.onMem_i3cAddress (f : MemSt → MemSt) : (s.onMem f).i3cAddress = s.i3cAddress := rfl
@[simp] theorem State.onMem_wmpMajor (f : MemSt → MemSt) : (s.onMem f).wmpMajor = s.wmpMajor := rfl
@[simp] theorem State.onMem_wmpMinor (f : MemSt → MemSt) : (s.onMem f).wmpMinor = s.wmpMinor := rfl
@[simp] theorem State.onMem_mgrInbox (f : MemSt → MemSt) : (s.onMem f).mgrInbox = s.mgrInbox := rfl
@[simp] theorem State.onMem_faultTest (f : MemSt → MemSt) : (s.onMem f).faultTest = s.faultTest := rfl
@[simp] theorem State.onMem_faultOrder (f : MemSt → MemSt) : (s.onMem f).faultOrder = s.faultOrder := rfl
@[simp] theorem State.onMem_stoppedClocks (f : MemSt → MemSt) : (s.onMem f).stoppedClocks = s.stoppedClocks := rfl
@[simp] theorem State.onMem_plan (f : MemSt → MemSt) : (s.onMem f).plan = s.plan := rfl
@[simp] theorem State.onMem_rx (f : MemSt → MemSt) : (s.onMem f).rx = s.rx := rfl
@[simp] theorem State.onMem_tx (f : MemSt → MemSt) : (s.onMem f).tx = s.tx := rfl
@[simp] theorem State.onMem_line (f : MemSt → MemSt) : (s.onMem f).line = s.line := rfl
@[simp] theorem State.onMem_link (f : MemSt → MemSt) : (s.onMem f).link = s.link := rfl
@[simp] theorem State.onMem_neighbours (f : MemSt → MemSt) : (s.onMem f).neighbours = s.neighbours := rfl
@[simp] theorem State.onMem_nbHeard (f : MemSt → MemSt) : (s.onMem f).nbHeard = s.nbHeard := rfl
@[simp] theorem State.onMem_nbVersions (f : MemSt → MemSt) : (s.onMem f).nbVersions = s.nbVersions := rfl
@[simp] theorem State.onMem_label (f : MemSt → MemSt) : (s.onMem f).label = s.label := rfl
@[simp] theorem State.onMem_lanes (f : MemSt → MemSt) : (s.onMem f).lanes = s.lanes := rfl
@[simp] theorem State.onMem_ports (f : MemSt → MemSt) : (s.onMem f).ports = s.ports := rfl
@[simp] theorem State.onMem_time (f : MemSt → MemSt) : (s.onMem f).time = s.time := rfl
@[simp] theorem State.onMem_head (f : MemSt → MemSt) : (s.onMem f).head = s.head := rfl
@[simp] theorem State.onMem_ana (f : MemSt → MemSt) : (s.onMem f).ana = s.ana := rfl
@[simp] theorem State.onMem_sec (f : MemSt → MemSt) : (s.onMem f).sec = s.sec := rfl
@[simp] theorem State.onMem_power (f : MemSt → MemSt) : (s.onMem f).power = s.power := rfl
@[simp] theorem State.onMem_cal (f : MemSt → MemSt) : (s.onMem f).cal = s.cal := rfl
@[simp] theorem State.onMem_bist (f : MemSt → MemSt) : (s.onMem f).bist = s.bist := rfl
@[simp] theorem State.onMem_glean (f : MemSt → MemSt) : (s.onMem f).glean = s.glean := rfl
@[simp] theorem State.onMem_mem (f : MemSt → MemSt) : (s.onMem f).mem = f s.mem := rfl
@[simp] theorem State.onMem_cxl (f : MemSt → MemSt) : (s.onMem f).cxl = s.cxl := rfl
@[simp] theorem State.onMem_quals (f : MemSt → MemSt) : (s.onMem f).quals = s.quals := rfl
@[simp] theorem State.onMem_sent (f : MemSt → MemSt) : (s.onMem f).sent = s.sent := rfl
@[simp] theorem State.onMem_freeCount (f : MemSt → MemSt) : (s.onMem f).freeCount = s.freeCount := rfl
@[simp] theorem State.onMem_pending (f : MemSt → MemSt) : (s.onMem f).pending = s.pending := rfl
@[simp] theorem State.onMem_rd (f : MemSt → MemSt) (x : Nat) : (s.onMem f).rd x = s.rd x := rfl
@[simp] theorem State.onMem_get (f : MemSt → MemSt) (g : Fld) : (s.onMem f).get g = s.get g := rfl
@[simp] theorem State.onMem_on (f : MemSt → MemSt) (g : Fld) : (s.onMem f).on g = s.on g := rfl
@[simp] theorem State.onMem_getS (f : MemSt → MemSt) (g : Fld) : (s.onMem f).getS g = s.getS g := rfl

/-! ### onCxl -/

@[simp] theorem State.onCxl_regs (f : CxlSt → CxlSt) : (s.onCxl f).regs = s.regs := rfl
@[simp] theorem State.onCxl_shadows (f : CxlSt → CxlSt) : (s.onCxl f).shadows = s.shadows := rfl
@[simp] theorem State.onCxl_staging (f : CxlSt → CxlSt) : (s.onCxl f).staging = s.staging := rfl
@[simp] theorem State.onCxl_readData (f : CxlSt → CxlSt) : (s.onCxl f).readData = s.readData := rfl
@[simp] theorem State.onCxl_burst (f : CxlSt → CxlSt) : (s.onCxl f).burst = s.burst := rfl
@[simp] theorem State.onCxl_clock (f : CxlSt → CxlSt) : (s.onCxl f).clock = s.clock := rfl
@[simp] theorem State.onCxl_msixEnabled (f : CxlSt → CxlSt) : (s.onCxl f).msixEnabled = s.msixEnabled := rfl
@[simp] theorem State.onCxl_msixMasked (f : CxlSt → CxlSt) : (s.onCxl f).msixMasked = s.msixMasked := rfl
@[simp] theorem State.onCxl_occ (f : CxlSt → CxlSt) : (s.onCxl f).occ = s.occ := rfl
@[simp] theorem State.onCxl_occTime (f : CxlSt → CxlSt) : (s.onCxl f).occTime = s.occTime := rfl
@[simp] theorem State.onCxl_limited (f : CxlSt → CxlSt) : (s.onCxl f).limited = s.limited := rfl
@[simp] theorem State.onCxl_i3cNotes (f : CxlSt → CxlSt) : (s.onCxl f).i3cNotes = s.i3cNotes := rfl
@[simp] theorem State.onCxl_i3cAddress (f : CxlSt → CxlSt) : (s.onCxl f).i3cAddress = s.i3cAddress := rfl
@[simp] theorem State.onCxl_wmpMajor (f : CxlSt → CxlSt) : (s.onCxl f).wmpMajor = s.wmpMajor := rfl
@[simp] theorem State.onCxl_wmpMinor (f : CxlSt → CxlSt) : (s.onCxl f).wmpMinor = s.wmpMinor := rfl
@[simp] theorem State.onCxl_mgrInbox (f : CxlSt → CxlSt) : (s.onCxl f).mgrInbox = s.mgrInbox := rfl
@[simp] theorem State.onCxl_faultTest (f : CxlSt → CxlSt) : (s.onCxl f).faultTest = s.faultTest := rfl
@[simp] theorem State.onCxl_faultOrder (f : CxlSt → CxlSt) : (s.onCxl f).faultOrder = s.faultOrder := rfl
@[simp] theorem State.onCxl_stoppedClocks (f : CxlSt → CxlSt) : (s.onCxl f).stoppedClocks = s.stoppedClocks := rfl
@[simp] theorem State.onCxl_plan (f : CxlSt → CxlSt) : (s.onCxl f).plan = s.plan := rfl
@[simp] theorem State.onCxl_rx (f : CxlSt → CxlSt) : (s.onCxl f).rx = s.rx := rfl
@[simp] theorem State.onCxl_tx (f : CxlSt → CxlSt) : (s.onCxl f).tx = s.tx := rfl
@[simp] theorem State.onCxl_line (f : CxlSt → CxlSt) : (s.onCxl f).line = s.line := rfl
@[simp] theorem State.onCxl_link (f : CxlSt → CxlSt) : (s.onCxl f).link = s.link := rfl
@[simp] theorem State.onCxl_neighbours (f : CxlSt → CxlSt) : (s.onCxl f).neighbours = s.neighbours := rfl
@[simp] theorem State.onCxl_nbHeard (f : CxlSt → CxlSt) : (s.onCxl f).nbHeard = s.nbHeard := rfl
@[simp] theorem State.onCxl_nbVersions (f : CxlSt → CxlSt) : (s.onCxl f).nbVersions = s.nbVersions := rfl
@[simp] theorem State.onCxl_label (f : CxlSt → CxlSt) : (s.onCxl f).label = s.label := rfl
@[simp] theorem State.onCxl_lanes (f : CxlSt → CxlSt) : (s.onCxl f).lanes = s.lanes := rfl
@[simp] theorem State.onCxl_ports (f : CxlSt → CxlSt) : (s.onCxl f).ports = s.ports := rfl
@[simp] theorem State.onCxl_time (f : CxlSt → CxlSt) : (s.onCxl f).time = s.time := rfl
@[simp] theorem State.onCxl_head (f : CxlSt → CxlSt) : (s.onCxl f).head = s.head := rfl
@[simp] theorem State.onCxl_ana (f : CxlSt → CxlSt) : (s.onCxl f).ana = s.ana := rfl
@[simp] theorem State.onCxl_sec (f : CxlSt → CxlSt) : (s.onCxl f).sec = s.sec := rfl
@[simp] theorem State.onCxl_power (f : CxlSt → CxlSt) : (s.onCxl f).power = s.power := rfl
@[simp] theorem State.onCxl_cal (f : CxlSt → CxlSt) : (s.onCxl f).cal = s.cal := rfl
@[simp] theorem State.onCxl_bist (f : CxlSt → CxlSt) : (s.onCxl f).bist = s.bist := rfl
@[simp] theorem State.onCxl_glean (f : CxlSt → CxlSt) : (s.onCxl f).glean = s.glean := rfl
@[simp] theorem State.onCxl_mem (f : CxlSt → CxlSt) : (s.onCxl f).mem = s.mem := rfl
@[simp] theorem State.onCxl_cxl (f : CxlSt → CxlSt) : (s.onCxl f).cxl = f s.cxl := rfl
@[simp] theorem State.onCxl_quals (f : CxlSt → CxlSt) : (s.onCxl f).quals = s.quals := rfl
@[simp] theorem State.onCxl_sent (f : CxlSt → CxlSt) : (s.onCxl f).sent = s.sent := rfl
@[simp] theorem State.onCxl_freeCount (f : CxlSt → CxlSt) : (s.onCxl f).freeCount = s.freeCount := rfl
@[simp] theorem State.onCxl_pending (f : CxlSt → CxlSt) : (s.onCxl f).pending = s.pending := rfl
@[simp] theorem State.onCxl_rd (f : CxlSt → CxlSt) (x : Nat) : (s.onCxl f).rd x = s.rd x := rfl
@[simp] theorem State.onCxl_get (f : CxlSt → CxlSt) (g : Fld) : (s.onCxl f).get g = s.get g := rfl
@[simp] theorem State.onCxl_on (f : CxlSt → CxlSt) (g : Fld) : (s.onCxl f).on g = s.on g := rfl
@[simp] theorem State.onCxl_getS (f : CxlSt → CxlSt) (g : Fld) : (s.onCxl f).getS g = s.getS g := rfl

/-! ### onQual -/

@[simp] theorem State.onQual_regs (q : Nat) (f : QualSt → QualSt) : (s.onQual q f).regs = s.regs := rfl
@[simp] theorem State.onQual_shadows (q : Nat) (f : QualSt → QualSt) : (s.onQual q f).shadows = s.shadows := rfl
@[simp] theorem State.onQual_staging (q : Nat) (f : QualSt → QualSt) : (s.onQual q f).staging = s.staging := rfl
@[simp] theorem State.onQual_readData (q : Nat) (f : QualSt → QualSt) : (s.onQual q f).readData = s.readData := rfl
@[simp] theorem State.onQual_burst (q : Nat) (f : QualSt → QualSt) : (s.onQual q f).burst = s.burst := rfl
@[simp] theorem State.onQual_clock (q : Nat) (f : QualSt → QualSt) : (s.onQual q f).clock = s.clock := rfl
@[simp] theorem State.onQual_msixEnabled (q : Nat) (f : QualSt → QualSt) : (s.onQual q f).msixEnabled = s.msixEnabled := rfl
@[simp] theorem State.onQual_msixMasked (q : Nat) (f : QualSt → QualSt) : (s.onQual q f).msixMasked = s.msixMasked := rfl
@[simp] theorem State.onQual_occ (q : Nat) (f : QualSt → QualSt) : (s.onQual q f).occ = s.occ := rfl
@[simp] theorem State.onQual_occTime (q : Nat) (f : QualSt → QualSt) : (s.onQual q f).occTime = s.occTime := rfl
@[simp] theorem State.onQual_limited (q : Nat) (f : QualSt → QualSt) : (s.onQual q f).limited = s.limited := rfl
@[simp] theorem State.onQual_i3cNotes (q : Nat) (f : QualSt → QualSt) : (s.onQual q f).i3cNotes = s.i3cNotes := rfl
@[simp] theorem State.onQual_i3cAddress (q : Nat) (f : QualSt → QualSt) : (s.onQual q f).i3cAddress = s.i3cAddress := rfl
@[simp] theorem State.onQual_wmpMajor (q : Nat) (f : QualSt → QualSt) : (s.onQual q f).wmpMajor = s.wmpMajor := rfl
@[simp] theorem State.onQual_wmpMinor (q : Nat) (f : QualSt → QualSt) : (s.onQual q f).wmpMinor = s.wmpMinor := rfl
@[simp] theorem State.onQual_mgrInbox (q : Nat) (f : QualSt → QualSt) : (s.onQual q f).mgrInbox = s.mgrInbox := rfl
@[simp] theorem State.onQual_faultTest (q : Nat) (f : QualSt → QualSt) : (s.onQual q f).faultTest = s.faultTest := rfl
@[simp] theorem State.onQual_faultOrder (q : Nat) (f : QualSt → QualSt) : (s.onQual q f).faultOrder = s.faultOrder := rfl
@[simp] theorem State.onQual_stoppedClocks (q : Nat) (f : QualSt → QualSt) : (s.onQual q f).stoppedClocks = s.stoppedClocks := rfl
@[simp] theorem State.onQual_plan (q : Nat) (f : QualSt → QualSt) : (s.onQual q f).plan = s.plan := rfl
@[simp] theorem State.onQual_rx (q : Nat) (f : QualSt → QualSt) : (s.onQual q f).rx = s.rx := rfl
@[simp] theorem State.onQual_tx (q : Nat) (f : QualSt → QualSt) : (s.onQual q f).tx = s.tx := rfl
@[simp] theorem State.onQual_line (q : Nat) (f : QualSt → QualSt) : (s.onQual q f).line = s.line := rfl
@[simp] theorem State.onQual_link (q : Nat) (f : QualSt → QualSt) : (s.onQual q f).link = s.link := rfl
@[simp] theorem State.onQual_neighbours (q : Nat) (f : QualSt → QualSt) : (s.onQual q f).neighbours = s.neighbours := rfl
@[simp] theorem State.onQual_nbHeard (q : Nat) (f : QualSt → QualSt) : (s.onQual q f).nbHeard = s.nbHeard := rfl
@[simp] theorem State.onQual_nbVersions (q : Nat) (f : QualSt → QualSt) : (s.onQual q f).nbVersions = s.nbVersions := rfl
@[simp] theorem State.onQual_label (q : Nat) (f : QualSt → QualSt) : (s.onQual q f).label = s.label := rfl
@[simp] theorem State.onQual_lanes (q : Nat) (f : QualSt → QualSt) : (s.onQual q f).lanes = s.lanes := rfl
@[simp] theorem State.onQual_ports (q : Nat) (f : QualSt → QualSt) : (s.onQual q f).ports = s.ports := rfl
@[simp] theorem State.onQual_time (q : Nat) (f : QualSt → QualSt) : (s.onQual q f).time = s.time := rfl
@[simp] theorem State.onQual_head (q : Nat) (f : QualSt → QualSt) : (s.onQual q f).head = s.head := rfl
@[simp] theorem State.onQual_ana (q : Nat) (f : QualSt → QualSt) : (s.onQual q f).ana = s.ana := rfl
@[simp] theorem State.onQual_sec (q : Nat) (f : QualSt → QualSt) : (s.onQual q f).sec = s.sec := rfl
@[simp] theorem State.onQual_power (q : Nat) (f : QualSt → QualSt) : (s.onQual q f).power = s.power := rfl
@[simp] theorem State.onQual_cal (q : Nat) (f : QualSt → QualSt) : (s.onQual q f).cal = s.cal := rfl
@[simp] theorem State.onQual_bist (q : Nat) (f : QualSt → QualSt) : (s.onQual q f).bist = s.bist := rfl
@[simp] theorem State.onQual_glean (q : Nat) (f : QualSt → QualSt) : (s.onQual q f).glean = s.glean := rfl
@[simp] theorem State.onQual_mem (q : Nat) (f : QualSt → QualSt) : (s.onQual q f).mem = s.mem := rfl
@[simp] theorem State.onQual_cxl (q : Nat) (f : QualSt → QualSt) : (s.onQual q f).cxl = s.cxl := rfl
@[simp] theorem State.onQual_quals (q : Nat) (f : QualSt → QualSt) : (s.onQual q f).quals = s.quals.modify q f := rfl
@[simp] theorem State.onQual_sent (q : Nat) (f : QualSt → QualSt) : (s.onQual q f).sent = s.sent := rfl
@[simp] theorem State.onQual_freeCount (q : Nat) (f : QualSt → QualSt) : (s.onQual q f).freeCount = s.freeCount := rfl
@[simp] theorem State.onQual_pending (q : Nat) (f : QualSt → QualSt) : (s.onQual q f).pending = s.pending := rfl
@[simp] theorem State.onQual_rd (q : Nat) (f : QualSt → QualSt) (x : Nat) : (s.onQual q f).rd x = s.rd x := rfl
@[simp] theorem State.onQual_get (q : Nat) (f : QualSt → QualSt) (g : Fld) : (s.onQual q f).get g = s.get g := rfl
@[simp] theorem State.onQual_on (q : Nat) (f : QualSt → QualSt) (g : Fld) : (s.onQual q f).on g = s.on g := rfl
@[simp] theorem State.onQual_getS (q : Nat) (f : QualSt → QualSt) (g : Fld) : (s.onQual q f).getS g = s.getS g := rfl

end Sys2Proof.Machine
end

