-- ==== Sys2Proof/Laws/Event.lean ====
section
/-!
SUPPORT. What interrupts, event codes and notifications leave as it was: every field of State but those that `State.hushed` empties, and
every BAR0 word that is no INT_STATUS (`ordinary`).
-/
namespace Sys2Proof.Machine

/-- Folding an update over a list keeps what each update keeps. -/
theorem foldl_keeps {α β : Type} (g : State → β) (f : State → α → State) (h : ∀ s x, g (f s x) = g s) (l : List α) (s : State) :
    g (l.foldl f s) = g s := by
  induction l generalizing s with
  | nil => rfl
  | cons x l ih => rw [List.foldl_cons, ih, h]

/-- Units told of an event code are, but for the codes that have arrived, the units before. -/
theorem hushed_units (us : List GleanUnit) (f : GleanUnit × Nat → GleanUnit) (hf : ∀ p, f p = { p.1 with arrived := [] }) (n : Nat) :
    (us.zipIdx n).map f = us.map fun u => { u with arrived := [] } := by
  induction us generalizing n with
  | nil => rfl
  | cons u us ih => rw [List.zipIdx_cons, List.map_cons, List.map_cons, ih, hf]


/-! ### Interrupts -/

theorem State.wr_hushed (s : State) (a : Nat) (w : Word) : (s.wr a w).hushed = s.hushed := rfl
theorem State.set_hushed (s : State) (f : Fld) (v : Nat) : (s.set f v).hushed = s.hushed := rfl
theorem State.setB_hushed (s : State) (f : Fld) (b : Bool) : (s.setB f b).hushed = s.hushed := rfl
theorem State.bump_hushed (s : State) (f : Fld) (n : Nat) : (s.bump f n).hushed = s.hushed := rfl
theorem State.send_hushed (s : State) (o : Out) : (s.send o).hushed = s.hushed := rfl

theorem State.msix_hushed (s : State) (v : Nat) : (s.msix v).hushed = s.hushed := by
  unfold State.msix
  split
  · split <;> rfl
  · rfl

theorem State.msix_rd (s : State) (v : Nat) {x : Nat} (h : ordinary x) : (s.msix v).rd x = s.rd x := by
  have hp : x ≠ (pba v).addr := by have := h.1; simp only [pba, bar2]; omega
  unfold State.msix
  split
  · split
    · exact State.rd_set_other _ _ hp
    · rfl
  · rfl

theorem State.msixEdge_hushed (before after : State) (v : Nat) : (before.msixEdge after v).hushed = after.hushed := by
  unfold State.msixEdge
  split
  · exact State.msix_hushed _ _
  · rfl

theorem State.msixEdge_rd (before after : State) (v : Nat) {x : Nat} (h : ordinary x) : (before.msixEdge after v).rd x = after.rd x := by
  unfold State.msixEdge
  split
  · exact State.msix_rd _ _ h
  · rfl

theorem State.raiseMask_hushed (s : State) (blk : Nat) (m : Word) : (s.raiseMask blk m).hushed = s.hushed := by
  rw [State.raiseMask, State.msixEdge_hushed, State.wr_hushed]

theorem State.raiseMask_rd (s : State) (blk : Nat) (m : Word) {x : Nat} (h : ordinary x) : (s.raiseMask blk m).rd x = s.rd x := by
  have hp : x ≠ intStatus blk := by have := h.2; unfold intStatus; omega
  rw [State.raiseMask, State.msixEdge_rd _ _ _ h, State.rd_wr_other _ _ hp]

theorem State.raise_hushed (s : State) (blk bit : Nat) : (s.raise blk bit).hushed = s.hushed := State.raiseMask_hushed _ _ _

theorem State.raise_rd (s : State) (blk bit : Nat) {x : Nat} (h : ordinary x) : (s.raise blk bit).rd x = s.rd x :=
  State.raiseMask_rd _ _ _ h

/-! ### Event codes -/

theorem State.statCount_hushed (s : State) (n : Nat → Nat) : (s.statCount n).hushed = s.hushed := by
  unfold State.statCount
  dsimp only
  split
  · exact State.raise_hushed _ _ _
  · rfl

theorem State.statCount_rd (s : State) (n : Nat → Nat) {x : Nat} (h : ordinary x) : (s.statCount n).rd x = s.rd x := by
  unfold State.statCount
  dsimp only
  split
  · exact State.raise_rd _ _ _ h
  · rfl

theorem State.gleanHears_hushed (s : State) (code : Nat) : (s.gleanHears code).hushed = s.hushed := by
  refine Eq.trans ?_ (State.statCount_hushed s (s.statOf code))
  unfold State.gleanHears State.hushed
  dsimp only
  rw [List.map_map, hushed_units]
  intro p
  dsimp only [Function.comp]
  split <;> rfl

theorem State.gleanHears_rd (s : State) (code : Nat) {x : Nat} (h : ordinary x) : (s.gleanHears code).rd x = s.rd x :=
  State.statCount_rd _ _ h

theorem State.putBytes_hushed (s : State) (a : Nat) (bs : List Byte) : (s.putBytes a bs).hushed = s.hushed :=
  foldl_keeps State.hushed (fun s i => s.wr (a + 4 * i) (BitVec.ofNat 32 (leNat (slice bs (4 * i) 4)))) (fun t _ => t.wr_hushed _ _) _ s

theorem State.countOcc_hushed (s : State) (p code : Nat) : (s.countOcc p code).hushed = s.hushed := rfl
theorem State.countOcc_rd (s : State) (p code x : Nat) : (s.countOcc p code).rd x = s.rd x := rfl

theorem State.putBytes_rd (s : State) (a : Nat) (bs : List Byte) {x : Nat} (h : x < a) : (s.putBytes a bs).rd x = s.rd x :=
  foldl_keeps (fun t => t.rd x) _ (fun _ _ => State.rd_wr_other _ _ (by omega)) _ s

theorem State.ringPut_hushed (s : State) (bs : List Byte) : (s.ringPut bs).hushed = s.hushed := by
  unfold State.ringPut
  dsimp only
  split
  · rw [State.raise_hushed, State.bump_hushed]
  · rw [State.msixEdge_hushed, State.set_hushed, State.putBytes_hushed]

theorem State.ringPut_rd (s : State) (bs : List Byte) {x : Nat} (h : ordinary x) : (s.ringPut bs).rd x = s.rd x := by
  have ht : x ≠ R.MBX_NOTIFY_TAIL := by have := h.1; simp only [R.MBX_NOTIFY_TAIL]; omega
  unfold State.ringPut
  dsimp only
  split
  · rw [State.raise_rd _ _ _ h, State.bump, State.rd_set_other _ _ ht]
  · rw [State.msixEdge_rd _ _ _ h, State.rd_set_other _ _ ht, State.putBytes_rd]
    have := h.1
    simp only [bar2]
    omega

theorem State.notifyOn_hushed (s : State) (p code : Nat) : (s.notifyOn p code).hushed = s.hushed := by
  unfold State.notifyOn
  dsimp only
  split
  · split
    · exact State.ringPut_hushed _ _
    · split
      · split <;> rfl
      · unfold State.mccSend Carrier.ofIdx Duo.upd
        repeat' split
        all_goals rfl
  · rfl

theorem State.notifyOn_rd (s : State) (p code : Nat) {x : Nat} (h : ordinary x) : (s.notifyOn p code).rd x = s.rd x := by
  unfold State.notifyOn
  dsimp only
  split
  · split
    · exact State.ringPut_rd _ _ h
    · split
      · split <;> rfl
      · rfl
  · rfl

theorem State.issue_hushed (s : State) (code : Nat) : (s.issue code).hushed = s.hushed := by
  unfold State.issue
  rw [foldl_keeps State.hushed _ (fun t p => t.notifyOn_hushed p code), State.send_hushed,
    foldl_keeps State.hushed _ (fun t p => t.countOcc_hushed p code)]
  exact State.gleanHears_hushed _ _

theorem State.issue_rd (s : State) (code : Nat) {x : Nat} (h : ordinary x) : (s.issue code).rd x = s.rd x := by
  unfold State.issue
  rw [foldl_keeps (fun t => t.rd x) _ (fun t p => t.notifyOn_rd p code h), State.send_rd,
    foldl_keeps (fun t => t.rd x) _ (fun t p => t.countOcc_rd p code x)]
  exact State.gleanHears_rd _ _ h

/-- Issuing codes in turn keeps what each issue keeps. -/
theorem State.issueAll_keeps {β : Type} (g : State → β) (h : ∀ s code, g (s.issue code) = g s) (n : Nat) (codes : List Nat) (s : State) :
    g (State.issueAll n codes s) = g s := by
  induction n generalizing codes s with
  | zero => rfl
  | succ n ih =>
    cases codes with
    | nil => rfl
    | cons c cs => exact (ih _ _).trans (h s c)

theorem State.event_hushed (s : State) (code : Nat) : (s.event code).hushed = s.hushed :=
  State.issueAll_keeps State.hushed State.issue_hushed _ _ _

theorem State.event_rd (s : State) (code : Nat) {x : Nat} (h : ordinary x) : (s.event code).rd x = s.rd x :=
  State.issueAll_keeps (fun t => t.rd x) (fun t c => t.issue_rd c h) _ _ _

theorem State.eventOncePerSecond_hushed (s : State) (code : Nat) : (s.eventOncePerSecond code).hushed = s.hushed := by
  unfold State.eventOncePerSecond
  split
  · rw [State.issueAll_keeps State.hushed State.issue_hushed, foldl_keeps State.hushed _ (fun t p => t.countOcc_hushed p code)]
    exact State.gleanHears_hushed _ _
  · exact State.event_hushed _ _

theorem State.eventOncePerSecond_rd (s : State) (code : Nat) {x : Nat} (h : ordinary x) : (s.eventOncePerSecond code).rd x = s.rd x := by
  unfold State.eventOncePerSecond
  split
  · rw [State.issueAll_keeps (fun t => t.rd x) (fun t c => t.issue_rd c h),
      foldl_keeps (fun t => t.rd x) _ (fun t p => t.countOcc_rd p code x)]
    exact State.gleanHears_rd _ _ h
  · exact State.event_rd _ _ h

theorem State.statAdd_hushed (s : State) (n : Nat → Nat) : (s.statAdd n).hushed = s.hushed := by
  unfold State.statAdd
  split
  · exact (State.event_hushed _ _).trans (State.statCount_hushed _ _)
  · exact State.statCount_hushed _ _

theorem State.statAdd_rd (s : State) (n : Nat → Nat) {x : Nat} (h : ordinary x) : (s.statAdd n).rd x = s.rd x := by
  unfold State.statAdd
  split
  · exact (State.event_rd _ _ h).trans (State.statCount_rd _ _ h)
  · exact State.statCount_rd _ _ h

theorem State.raiseEvent_hushed (s : State) (blk bit code : Nat) : (s.raiseEvent blk bit code).hushed = s.hushed :=
  (State.event_hushed _ _).trans (State.raise_hushed _ _ _)

theorem State.raiseEvent_rd (s : State) (blk bit code : Nat) {x : Nat} (h : ordinary x) : (s.raiseEvent blk bit code).rd x = s.rd x :=
  (State.event_rd _ _ h).trans (State.raise_rd _ _ _ h)

theorem State.raiseLimited_hushed (s : State) (blk bit code : Nat) : (s.raiseLimited blk bit code).hushed = s.hushed :=
  (State.eventOncePerSecond_hushed _ _).trans (State.raise_hushed _ _ _)

theorem State.raiseLimited_rd (s : State) (blk bit code : Nat) {x : Nat} (h : ordinary x) : (s.raiseLimited blk bit code).rd x = s.rd x :=
  (State.eventOncePerSecond_rd _ _ h).trans (State.raise_rd _ _ _ h)

theorem State.raiseOnce_hushed (s : State) (blk bit code : Nat) : (s.raiseOnce blk bit code).hushed = s.hushed := by
  unfold State.raiseOnce
  split
  · exact State.eventOncePerSecond_hushed _ _
  · exact State.raiseLimited_hushed _ _ _ _

theorem State.raiseOnce_rd (s : State) (blk bit code : Nat) {x : Nat} (h : ordinary x) : (s.raiseOnce blk bit code).rd x = s.rd x := by
  unfold State.raiseOnce
  split
  · exact State.eventOncePerSecond_rd _ _ h
  · exact State.raiseLimited_rd _ _ _ _ h

/-! ### raise, field by field -/

@[simp] theorem State.raise_shadows (s : State) (blk bit : Nat) : (s.raise blk bit).shadows = s.shadows := by
  have h := congrArg State.shadows (s.raise_hushed blk bit); exact h
@[simp] theorem State.raise_staging (s : State) (blk bit : Nat) : (s.raise blk bit).staging = s.staging := by
  have h := congrArg State.staging (s.raise_hushed blk bit); exact h
@[simp] theorem State.raise_readData (s : State) (blk bit : Nat) : (s.raise blk bit).readData = s.readData := by
  have h := congrArg State.readData (s.raise_hushed blk bit); exact h
@[simp] theorem State.raise_burst (s : State) (blk bit : Nat) : (s.raise blk bit).burst = s.burst := by
  have h := congrArg State.burst (s.raise_hushed blk bit); exact h
@[simp] theorem State.raise_clock (s : State) (blk bit : Nat) : (s.raise blk bit).clock = s.clock := by
  have h := congrArg State.clock (s.raise_hushed blk bit); exact h
@[simp] theorem State.raise_msixEnabled (s : State) (blk bit : Nat) : (s.raise blk bit).msixEnabled = s.msixEnabled := by
  have h := congrArg State.msixEnabled (s.raise_hushed blk bit); exact h
@[simp] theorem State.raise_msixMasked (s : State) (blk bit : Nat) : (s.raise blk bit).msixMasked = s.msixMasked := by
  have h := congrArg State.msixMasked (s.raise_hushed blk bit); exact h
@[simp] theorem State.raise_i3cAddress (s : State) (blk bit : Nat) : (s.raise blk bit).i3cAddress = s.i3cAddress := by
  have h := congrArg State.i3cAddress (s.raise_hushed blk bit); exact h
@[simp] theorem State.raise_wmpMajor (s : State) (blk bit : Nat) : (s.raise blk bit).wmpMajor = s.wmpMajor := by
  have h := congrArg State.wmpMajor (s.raise_hushed blk bit); exact h
@[simp] theorem State.raise_wmpMinor (s : State) (blk bit : Nat) : (s.raise blk bit).wmpMinor = s.wmpMinor := by
  have h := congrArg State.wmpMinor (s.raise_hushed blk bit); exact h
@[simp] theorem State.raise_mgrInbox (s : State) (blk bit : Nat) : (s.raise blk bit).mgrInbox = s.mgrInbox := by
  have h := congrArg State.mgrInbox (s.raise_hushed blk bit); exact h
@[simp] theorem State.raise_faultTest (s : State) (blk bit : Nat) : (s.raise blk bit).faultTest = s.faultTest := by
  have h := congrArg State.faultTest (s.raise_hushed blk bit); exact h
@[simp] theorem State.raise_faultOrder (s : State) (blk bit : Nat) : (s.raise blk bit).faultOrder = s.faultOrder := by
  have h := congrArg State.faultOrder (s.raise_hushed blk bit); exact h
@[simp] theorem State.raise_stoppedClocks (s : State) (blk bit : Nat) : (s.raise blk bit).stoppedClocks = s.stoppedClocks := by
  have h := congrArg State.stoppedClocks (s.raise_hushed blk bit); exact h
@[simp] theorem State.raise_plan (s : State) (blk bit : Nat) : (s.raise blk bit).plan = s.plan := by
  have h := congrArg State.plan (s.raise_hushed blk bit); exact h
@[simp] theorem State.raise_rx (s : State) (blk bit : Nat) : (s.raise blk bit).rx = s.rx := by
  have h := congrArg State.rx (s.raise_hushed blk bit); exact h
@[simp] theorem State.raise_tx (s : State) (blk bit : Nat) : (s.raise blk bit).tx = s.tx := by
  have h := congrArg State.tx (s.raise_hushed blk bit); exact h
@[simp] theorem State.raise_link (s : State) (blk bit : Nat) : (s.raise blk bit).link = s.link := by
  have h := congrArg State.link (s.raise_hushed blk bit); exact h
@[simp] theorem State.raise_neighbours (s : State) (blk bit : Nat) : (s.raise blk bit).neighbours = s.neighbours := by
  have h := congrArg State.neighbours (s.raise_hushed blk bit); exact h
@[simp] theorem State.raise_nbHeard (s : State) (blk bit : Nat) : (s.raise blk bit).nbHeard = s.nbHeard := by
  have h := congrArg State.nbHeard (s.raise_hushed blk bit); exact h
@[simp] theorem State.raise_nbVersions (s : State) (blk bit : Nat) : (s.raise blk bit).nbVersions = s.nbVersions := by
  have h := congrArg State.nbVersions (s.raise_hushed blk bit); exact h
@[simp] theorem State.raise_label (s : State) (blk bit : Nat) : (s.raise blk bit).label = s.label := by
  have h := congrArg State.label (s.raise_hushed blk bit); exact h
@[simp] theorem State.raise_lanes (s : State) (blk bit : Nat) : (s.raise blk bit).lanes = s.lanes := by
  have h := congrArg State.lanes (s.raise_hushed blk bit); exact h
@[simp] theorem State.raise_ports (s : State) (blk bit : Nat) : (s.raise blk bit).ports = s.ports := by
  have h := congrArg State.ports (s.raise_hushed blk bit); exact h
@[simp] theorem State.raise_time (s : State) (blk bit : Nat) : (s.raise blk bit).time = s.time := by
  have h := congrArg State.time (s.raise_hushed blk bit); exact h
@[simp] theorem State.raise_head (s : State) (blk bit : Nat) : (s.raise blk bit).head = s.head := by
  have h := congrArg State.head (s.raise_hushed blk bit); exact h
@[simp] theorem State.raise_ana (s : State) (blk bit : Nat) : (s.raise blk bit).ana = s.ana := by
  have h := congrArg State.ana (s.raise_hushed blk bit); exact h
@[simp] theorem State.raise_sec (s : State) (blk bit : Nat) : (s.raise blk bit).sec = s.sec := by
  have h := congrArg State.sec (s.raise_hushed blk bit); exact h
@[simp] theorem State.raise_power (s : State) (blk bit : Nat) : (s.raise blk bit).power = s.power := by
  have h := congrArg State.power (s.raise_hushed blk bit); exact h
@[simp] theorem State.raise_cal (s : State) (blk bit : Nat) : (s.raise blk bit).cal = s.cal := by
  have h := congrArg State.cal (s.raise_hushed blk bit); exact h
@[simp] theorem State.raise_bist (s : State) (blk bit : Nat) : (s.raise blk bit).bist = s.bist := by
  have h := congrArg State.bist (s.raise_hushed blk bit); exact h
@[simp] theorem State.raise_mem (s : State) (blk bit : Nat) : (s.raise blk bit).mem = s.mem := by
  have h := congrArg State.mem (s.raise_hushed blk bit); exact h
@[simp] theorem State.raise_cxl (s : State) (blk bit : Nat) : (s.raise blk bit).cxl = s.cxl := by
  have h := congrArg State.cxl (s.raise_hushed blk bit); exact h
@[simp] theorem State.raise_quals (s : State) (blk bit : Nat) : (s.raise blk bit).quals = s.quals := by
  have h := congrArg State.quals (s.raise_hushed blk bit); exact h
@[simp] theorem State.raise_freeCount (s : State) (blk bit : Nat) : (s.raise blk bit).freeCount = s.freeCount := by
  have h := congrArg State.freeCount (s.raise_hushed blk bit); exact h
@[simp] theorem State.raise_pending (s : State) (blk bit : Nat) : (s.raise blk bit).pending = s.pending := by
  have h := congrArg State.pending (s.raise_hushed blk bit); exact h
theorem State.raise_get (s : State) (blk bit : Nat) {g : Fld} (h : ordinary g.addr) : (s.raise blk bit).get g = s.get g := by
  rw [State.get, State.get, s.raise_rd blk bit h]

/-! ### event, field by field -/

@[simp] theorem State.event_shadows (s : State) (code : Nat) : (s.event code).shadows = s.shadows := by
  have h := congrArg State.shadows (s.event_hushed code); exact h
@[simp] theorem State.event_staging (s : State) (code : Nat) : (s.event code).staging = s.staging := by
  have h := congrArg State.staging (s.event_hushed code); exact h
@[simp] theorem State.event_readData (s : State) (code : Nat) : (s.event code).readData = s.readData := by
  have h := congrArg State.readData (s.event_hushed code); exact h
@[simp] theorem State.event_burst (s : State) (code : Nat) : (s.event code).burst = s.burst := by
  have h := congrArg State.burst (s.event_hushed code); exact h
@[simp] theorem State.event_clock (s : State) (code : Nat) : (s.event code).clock = s.clock := by
  have h := congrArg State.clock (s.event_hushed code); exact h
@[simp] theorem State.event_msixEnabled (s : State) (code : Nat) : (s.event code).msixEnabled = s.msixEnabled := by
  have h := congrArg State.msixEnabled (s.event_hushed code); exact h
@[simp] theorem State.event_msixMasked (s : State) (code : Nat) : (s.event code).msixMasked = s.msixMasked := by
  have h := congrArg State.msixMasked (s.event_hushed code); exact h
@[simp] theorem State.event_i3cAddress (s : State) (code : Nat) : (s.event code).i3cAddress = s.i3cAddress := by
  have h := congrArg State.i3cAddress (s.event_hushed code); exact h
@[simp] theorem State.event_wmpMajor (s : State) (code : Nat) : (s.event code).wmpMajor = s.wmpMajor := by
  have h := congrArg State.wmpMajor (s.event_hushed code); exact h
@[simp] theorem State.event_wmpMinor (s : State) (code : Nat) : (s.event code).wmpMinor = s.wmpMinor := by
  have h := congrArg State.wmpMinor (s.event_hushed code); exact h
@[simp] theorem State.event_mgrInbox (s : State) (code : Nat) : (s.event code).mgrInbox = s.mgrInbox := by
  have h := congrArg State.mgrInbox (s.event_hushed code); exact h
@[simp] theorem State.event_faultTest (s : State) (code : Nat) : (s.event code).faultTest = s.faultTest := by
  have h := congrArg State.faultTest (s.event_hushed code); exact h
@[simp] theorem State.event_faultOrder (s : State) (code : Nat) : (s.event code).faultOrder = s.faultOrder := by
  have h := congrArg State.faultOrder (s.event_hushed code); exact h
@[simp] theorem State.event_stoppedClocks (s : State) (code : Nat) : (s.event code).stoppedClocks = s.stoppedClocks := by
  have h := congrArg State.stoppedClocks (s.event_hushed code); exact h
@[simp] theorem State.event_plan (s : State) (code : Nat) : (s.event code).plan = s.plan := by
  have h := congrArg State.plan (s.event_hushed code); exact h
@[simp] theorem State.event_rx (s : State) (code : Nat) : (s.event code).rx = s.rx := by
  have h := congrArg State.rx (s.event_hushed code); exact h
@[simp] theorem State.event_tx (s : State) (code : Nat) : (s.event code).tx = s.tx := by
  have h := congrArg State.tx (s.event_hushed code); exact h
@[simp] theorem State.event_link (s : State) (code : Nat) : (s.event code).link = s.link := by
  have h := congrArg State.link (s.event_hushed code); exact h
@[simp] theorem State.event_neighbours (s : State) (code : Nat) : (s.event code).neighbours = s.neighbours := by
  have h := congrArg State.neighbours (s.event_hushed code); exact h
@[simp] theorem State.event_nbHeard (s : State) (code : Nat) : (s.event code).nbHeard = s.nbHeard := by
  have h := congrArg State.nbHeard (s.event_hushed code); exact h
@[simp] theorem State.event_nbVersions (s : State) (code : Nat) : (s.event code).nbVersions = s.nbVersions := by
  have h := congrArg State.nbVersions (s.event_hushed code); exact h
@[simp] theorem State.event_label (s : State) (code : Nat) : (s.event code).label = s.label := by
  have h := congrArg State.label (s.event_hushed code); exact h
@[simp] theorem State.event_lanes (s : State) (code : Nat) : (s.event code).lanes = s.lanes := by
  have h := congrArg State.lanes (s.event_hushed code); exact h
@[simp] theorem State.event_ports (s : State) (code : Nat) : (s.event code).ports = s.ports := by
  have h := congrArg State.ports (s.event_hushed code); exact h
@[simp] theorem State.event_time (s : State) (code : Nat) : (s.event code).time = s.time := by
  have h := congrArg State.time (s.event_hushed code); exact h
@[simp] theorem State.event_head (s : State) (code : Nat) : (s.event code).head = s.head := by
  have h := congrArg State.head (s.event_hushed code); exact h
@[simp] theorem State.event_ana (s : State) (code : Nat) : (s.event code).ana = s.ana := by
  have h := congrArg State.ana (s.event_hushed code); exact h
@[simp] theorem State.event_sec (s : State) (code : Nat) : (s.event code).sec = s.sec := by
  have h := congrArg State.sec (s.event_hushed code); exact h
@[simp] theorem State.event_power (s : State) (code : Nat) : (s.event code).power = s.power := by
  have h := congrArg State.power (s.event_hushed code); exact h
@[simp] theorem State.event_cal (s : State) (code : Nat) : (s.event code).cal = s.cal := by
  have h := congrArg State.cal (s.event_hushed code); exact h
@[simp] theorem State.event_bist (s : State) (code : Nat) : (s.event code).bist = s.bist := by
  have h := congrArg State.bist (s.event_hushed code); exact h
@[simp] theorem State.event_mem (s : State) (code : Nat) : (s.event code).mem = s.mem := by
  have h := congrArg State.mem (s.event_hushed code); exact h
@[simp] theorem State.event_cxl (s : State) (code : Nat) : (s.event code).cxl = s.cxl := by
  have h := congrArg State.cxl (s.event_hushed code); exact h
@[simp] theorem State.event_quals (s : State) (code : Nat) : (s.event code).quals = s.quals := by
  have h := congrArg State.quals (s.event_hushed code); exact h
@[simp] theorem State.event_freeCount (s : State) (code : Nat) : (s.event code).freeCount = s.freeCount := by
  have h := congrArg State.freeCount (s.event_hushed code); exact h
@[simp] theorem State.event_pending (s : State) (code : Nat) : (s.event code).pending = s.pending := by
  have h := congrArg State.pending (s.event_hushed code); exact h
theorem State.event_get (s : State) (code : Nat) {g : Fld} (h : ordinary g.addr) : (s.event code).get g = s.get g := by
  rw [State.get, State.get, s.event_rd code h]

/-! ### eventOncePerSecond, field by field -/

@[simp] theorem State.eventOncePerSecond_shadows (s : State) (code : Nat) : (s.eventOncePerSecond code).shadows = s.shadows := by
  have h := congrArg State.shadows (s.eventOncePerSecond_hushed code); exact h
@[simp] theorem State.eventOncePerSecond_staging (s : State) (code : Nat) : (s.eventOncePerSecond code).staging = s.staging := by
  have h := congrArg State.staging (s.eventOncePerSecond_hushed code); exact h
@[simp] theorem State.eventOncePerSecond_readData (s : State) (code : Nat) : (s.eventOncePerSecond code).readData = s.readData := by
  have h := congrArg State.readData (s.eventOncePerSecond_hushed code); exact h
@[simp] theorem State.eventOncePerSecond_burst (s : State) (code : Nat) : (s.eventOncePerSecond code).burst = s.burst := by
  have h := congrArg State.burst (s.eventOncePerSecond_hushed code); exact h
@[simp] theorem State.eventOncePerSecond_clock (s : State) (code : Nat) : (s.eventOncePerSecond code).clock = s.clock := by
  have h := congrArg State.clock (s.eventOncePerSecond_hushed code); exact h
@[simp] theorem State.eventOncePerSecond_msixEnabled (s : State) (code : Nat) : (s.eventOncePerSecond code).msixEnabled = s.msixEnabled := by
  have h := congrArg State.msixEnabled (s.eventOncePerSecond_hushed code); exact h
@[simp] theorem State.eventOncePerSecond_msixMasked (s : State) (code : Nat) : (s.eventOncePerSecond code).msixMasked = s.msixMasked := by
  have h := congrArg State.msixMasked (s.eventOncePerSecond_hushed code); exact h
@[simp] theorem State.eventOncePerSecond_i3cAddress (s : State) (code : Nat) : (s.eventOncePerSecond code).i3cAddress = s.i3cAddress := by
  have h := congrArg State.i3cAddress (s.eventOncePerSecond_hushed code); exact h
@[simp] theorem State.eventOncePerSecond_wmpMajor (s : State) (code : Nat) : (s.eventOncePerSecond code).wmpMajor = s.wmpMajor := by
  have h := congrArg State.wmpMajor (s.eventOncePerSecond_hushed code); exact h
@[simp] theorem State.eventOncePerSecond_wmpMinor (s : State) (code : Nat) : (s.eventOncePerSecond code).wmpMinor = s.wmpMinor := by
  have h := congrArg State.wmpMinor (s.eventOncePerSecond_hushed code); exact h
@[simp] theorem State.eventOncePerSecond_mgrInbox (s : State) (code : Nat) : (s.eventOncePerSecond code).mgrInbox = s.mgrInbox := by
  have h := congrArg State.mgrInbox (s.eventOncePerSecond_hushed code); exact h
@[simp] theorem State.eventOncePerSecond_faultTest (s : State) (code : Nat) : (s.eventOncePerSecond code).faultTest = s.faultTest := by
  have h := congrArg State.faultTest (s.eventOncePerSecond_hushed code); exact h
@[simp] theorem State.eventOncePerSecond_faultOrder (s : State) (code : Nat) : (s.eventOncePerSecond code).faultOrder = s.faultOrder := by
  have h := congrArg State.faultOrder (s.eventOncePerSecond_hushed code); exact h
@[simp] theorem State.eventOncePerSecond_stoppedClocks (s : State) (code : Nat) : (s.eventOncePerSecond code).stoppedClocks = s.stoppedClocks := by
  have h := congrArg State.stoppedClocks (s.eventOncePerSecond_hushed code); exact h
@[simp] theorem State.eventOncePerSecond_plan (s : State) (code : Nat) : (s.eventOncePerSecond code).plan = s.plan := by
  have h := congrArg State.plan (s.eventOncePerSecond_hushed code); exact h
@[simp] theorem State.eventOncePerSecond_rx (s : State) (code : Nat) : (s.eventOncePerSecond code).rx = s.rx := by
  have h := congrArg State.rx (s.eventOncePerSecond_hushed code); exact h
@[simp] theorem State.eventOncePerSecond_tx (s : State) (code : Nat) : (s.eventOncePerSecond code).tx = s.tx := by
  have h := congrArg State.tx (s.eventOncePerSecond_hushed code); exact h
@[simp] theorem State.eventOncePerSecond_link (s : State) (code : Nat) : (s.eventOncePerSecond code).link = s.link := by
  have h := congrArg State.link (s.eventOncePerSecond_hushed code); exact h
@[simp] theorem State.eventOncePerSecond_neighbours (s : State) (code : Nat) : (s.eventOncePerSecond code).neighbours = s.neighbours := by
  have h := congrArg State.neighbours (s.eventOncePerSecond_hushed code); exact h
@[simp] theorem State.eventOncePerSecond_nbHeard (s : State) (code : Nat) : (s.eventOncePerSecond code).nbHeard = s.nbHeard := by
  have h := congrArg State.nbHeard (s.eventOncePerSecond_hushed code); exact h
@[simp] theorem State.eventOncePerSecond_nbVersions (s : State) (code : Nat) : (s.eventOncePerSecond code).nbVersions = s.nbVersions := by
  have h := congrArg State.nbVersions (s.eventOncePerSecond_hushed code); exact h
@[simp] theorem State.eventOncePerSecond_label (s : State) (code : Nat) : (s.eventOncePerSecond code).label = s.label := by
  have h := congrArg State.label (s.eventOncePerSecond_hushed code); exact h
@[simp] theorem State.eventOncePerSecond_lanes (s : State) (code : Nat) : (s.eventOncePerSecond code).lanes = s.lanes := by
  have h := congrArg State.lanes (s.eventOncePerSecond_hushed code); exact h
@[simp] theorem State.eventOncePerSecond_ports (s : State) (code : Nat) : (s.eventOncePerSecond code).ports = s.ports := by
  have h := congrArg State.ports (s.eventOncePerSecond_hushed code); exact h
@[simp] theorem State.eventOncePerSecond_time (s : State) (code : Nat) : (s.eventOncePerSecond code).time = s.time := by
  have h := congrArg State.time (s.eventOncePerSecond_hushed code); exact h
@[simp] theorem State.eventOncePerSecond_head (s : State) (code : Nat) : (s.eventOncePerSecond code).head = s.head := by
  have h := congrArg State.head (s.eventOncePerSecond_hushed code); exact h
@[simp] theorem State.eventOncePerSecond_ana (s : State) (code : Nat) : (s.eventOncePerSecond code).ana = s.ana := by
  have h := congrArg State.ana (s.eventOncePerSecond_hushed code); exact h
@[simp] theorem State.eventOncePerSecond_sec (s : State) (code : Nat) : (s.eventOncePerSecond code).sec = s.sec := by
  have h := congrArg State.sec (s.eventOncePerSecond_hushed code); exact h
@[simp] theorem State.eventOncePerSecond_power (s : State) (code : Nat) : (s.eventOncePerSecond code).power = s.power := by
  have h := congrArg State.power (s.eventOncePerSecond_hushed code); exact h
@[simp] theorem State.eventOncePerSecond_cal (s : State) (code : Nat) : (s.eventOncePerSecond code).cal = s.cal := by
  have h := congrArg State.cal (s.eventOncePerSecond_hushed code); exact h
@[simp] theorem State.eventOncePerSecond_bist (s : State) (code : Nat) : (s.eventOncePerSecond code).bist = s.bist := by
  have h := congrArg State.bist (s.eventOncePerSecond_hushed code); exact h
@[simp] theorem State.eventOncePerSecond_mem (s : State) (code : Nat) : (s.eventOncePerSecond code).mem = s.mem := by
  have h := congrArg State.mem (s.eventOncePerSecond_hushed code); exact h
@[simp] theorem State.eventOncePerSecond_cxl (s : State) (code : Nat) : (s.eventOncePerSecond code).cxl = s.cxl := by
  have h := congrArg State.cxl (s.eventOncePerSecond_hushed code); exact h
@[simp] theorem State.eventOncePerSecond_quals (s : State) (code : Nat) : (s.eventOncePerSecond code).quals = s.quals := by
  have h := congrArg State.quals (s.eventOncePerSecond_hushed code); exact h
@[simp] theorem State.eventOncePerSecond_freeCount (s : State) (code : Nat) : (s.eventOncePerSecond code).freeCount = s.freeCount := by
  have h := congrArg State.freeCount (s.eventOncePerSecond_hushed code); exact h
@[simp] theorem State.eventOncePerSecond_pending (s : State) (code : Nat) : (s.eventOncePerSecond code).pending = s.pending := by
  have h := congrArg State.pending (s.eventOncePerSecond_hushed code); exact h
theorem State.eventOncePerSecond_get (s : State) (code : Nat) {g : Fld} (h : ordinary g.addr) : (s.eventOncePerSecond code).get g = s.get g := by
  rw [State.get, State.get, s.eventOncePerSecond_rd code h]

/-! ### raiseEvent, field by field -/

@[simp] theorem State.raiseEvent_shadows (s : State) (blk bit code : Nat) : (s.raiseEvent blk bit code).shadows = s.shadows := by
  have h := congrArg State.shadows (s.raiseEvent_hushed blk bit code); exact h
@[simp] theorem State.raiseEvent_staging (s : State) (blk bit code : Nat) : (s.raiseEvent blk bit code).staging = s.staging := by
  have h := congrArg State.staging (s.raiseEvent_hushed blk bit code); exact h
@[simp] theorem State.raiseEvent_readData (s : State) (blk bit code : Nat) : (s.raiseEvent blk bit code).readData = s.readData := by
  have h := congrArg State.readData (s.raiseEvent_hushed blk bit code); exact h
@[simp] theorem State.raiseEvent_burst (s : State) (blk bit code : Nat) : (s.raiseEvent blk bit code).burst = s.burst := by
  have h := congrArg State.burst (s.raiseEvent_hushed blk bit code); exact h
@[simp] theorem State.raiseEvent_clock (s : State) (blk bit code : Nat) : (s.raiseEvent blk bit code).clock = s.clock := by
  have h := congrArg State.clock (s.raiseEvent_hushed blk bit code); exact h
@[simp] theorem State.raiseEvent_msixEnabled (s : State) (blk bit code : Nat) : (s.raiseEvent blk bit code).msixEnabled = s.msixEnabled := by
  have h := congrArg State.msixEnabled (s.raiseEvent_hushed blk bit code); exact h
@[simp] theorem State.raiseEvent_msixMasked (s : State) (blk bit code : Nat) : (s.raiseEvent blk bit code).msixMasked = s.msixMasked := by
  have h := congrArg State.msixMasked (s.raiseEvent_hushed blk bit code); exact h
@[simp] theorem State.raiseEvent_i3cAddress (s : State) (blk bit code : Nat) : (s.raiseEvent blk bit code).i3cAddress = s.i3cAddress := by
  have h := congrArg State.i3cAddress (s.raiseEvent_hushed blk bit code); exact h
@[simp] theorem State.raiseEvent_wmpMajor (s : State) (blk bit code : Nat) : (s.raiseEvent blk bit code).wmpMajor = s.wmpMajor := by
  have h := congrArg State.wmpMajor (s.raiseEvent_hushed blk bit code); exact h
@[simp] theorem State.raiseEvent_wmpMinor (s : State) (blk bit code : Nat) : (s.raiseEvent blk bit code).wmpMinor = s.wmpMinor := by
  have h := congrArg State.wmpMinor (s.raiseEvent_hushed blk bit code); exact h
@[simp] theorem State.raiseEvent_mgrInbox (s : State) (blk bit code : Nat) : (s.raiseEvent blk bit code).mgrInbox = s.mgrInbox := by
  have h := congrArg State.mgrInbox (s.raiseEvent_hushed blk bit code); exact h
@[simp] theorem State.raiseEvent_faultTest (s : State) (blk bit code : Nat) : (s.raiseEvent blk bit code).faultTest = s.faultTest := by
  have h := congrArg State.faultTest (s.raiseEvent_hushed blk bit code); exact h
@[simp] theorem State.raiseEvent_faultOrder (s : State) (blk bit code : Nat) : (s.raiseEvent blk bit code).faultOrder = s.faultOrder := by
  have h := congrArg State.faultOrder (s.raiseEvent_hushed blk bit code); exact h
@[simp] theorem State.raiseEvent_stoppedClocks (s : State) (blk bit code : Nat) : (s.raiseEvent blk bit code).stoppedClocks = s.stoppedClocks := by
  have h := congrArg State.stoppedClocks (s.raiseEvent_hushed blk bit code); exact h
@[simp] theorem State.raiseEvent_plan (s : State) (blk bit code : Nat) : (s.raiseEvent blk bit code).plan = s.plan := by
  have h := congrArg State.plan (s.raiseEvent_hushed blk bit code); exact h
@[simp] theorem State.raiseEvent_rx (s : State) (blk bit code : Nat) : (s.raiseEvent blk bit code).rx = s.rx := by
  have h := congrArg State.rx (s.raiseEvent_hushed blk bit code); exact h
@[simp] theorem State.raiseEvent_tx (s : State) (blk bit code : Nat) : (s.raiseEvent blk bit code).tx = s.tx := by
  have h := congrArg State.tx (s.raiseEvent_hushed blk bit code); exact h
@[simp] theorem State.raiseEvent_link (s : State) (blk bit code : Nat) : (s.raiseEvent blk bit code).link = s.link := by
  have h := congrArg State.link (s.raiseEvent_hushed blk bit code); exact h
@[simp] theorem State.raiseEvent_neighbours (s : State) (blk bit code : Nat) : (s.raiseEvent blk bit code).neighbours = s.neighbours := by
  have h := congrArg State.neighbours (s.raiseEvent_hushed blk bit code); exact h
@[simp] theorem State.raiseEvent_nbHeard (s : State) (blk bit code : Nat) : (s.raiseEvent blk bit code).nbHeard = s.nbHeard := by
  have h := congrArg State.nbHeard (s.raiseEvent_hushed blk bit code); exact h
@[simp] theorem State.raiseEvent_nbVersions (s : State) (blk bit code : Nat) : (s.raiseEvent blk bit code).nbVersions = s.nbVersions := by
  have h := congrArg State.nbVersions (s.raiseEvent_hushed blk bit code); exact h
@[simp] theorem State.raiseEvent_label (s : State) (blk bit code : Nat) : (s.raiseEvent blk bit code).label = s.label := by
  have h := congrArg State.label (s.raiseEvent_hushed blk bit code); exact h
@[simp] theorem State.raiseEvent_lanes (s : State) (blk bit code : Nat) : (s.raiseEvent blk bit code).lanes = s.lanes := by
  have h := congrArg State.lanes (s.raiseEvent_hushed blk bit code); exact h
@[simp] theorem State.raiseEvent_ports (s : State) (blk bit code : Nat) : (s.raiseEvent blk bit code).ports = s.ports := by
  have h := congrArg State.ports (s.raiseEvent_hushed blk bit code); exact h
@[simp] theorem State.raiseEvent_time (s : State) (blk bit code : Nat) : (s.raiseEvent blk bit code).time = s.time := by
  have h := congrArg State.time (s.raiseEvent_hushed blk bit code); exact h
@[simp] theorem State.raiseEvent_head (s : State) (blk bit code : Nat) : (s.raiseEvent blk bit code).head = s.head := by
  have h := congrArg State.head (s.raiseEvent_hushed blk bit code); exact h
@[simp] theorem State.raiseEvent_ana (s : State) (blk bit code : Nat) : (s.raiseEvent blk bit code).ana = s.ana := by
  have h := congrArg State.ana (s.raiseEvent_hushed blk bit code); exact h
@[simp] theorem State.raiseEvent_sec (s : State) (blk bit code : Nat) : (s.raiseEvent blk bit code).sec = s.sec := by
  have h := congrArg State.sec (s.raiseEvent_hushed blk bit code); exact h
@[simp] theorem State.raiseEvent_power (s : State) (blk bit code : Nat) : (s.raiseEvent blk bit code).power = s.power := by
  have h := congrArg State.power (s.raiseEvent_hushed blk bit code); exact h
@[simp] theorem State.raiseEvent_cal (s : State) (blk bit code : Nat) : (s.raiseEvent blk bit code).cal = s.cal := by
  have h := congrArg State.cal (s.raiseEvent_hushed blk bit code); exact h
@[simp] theorem State.raiseEvent_bist (s : State) (blk bit code : Nat) : (s.raiseEvent blk bit code).bist = s.bist := by
  have h := congrArg State.bist (s.raiseEvent_hushed blk bit code); exact h
@[simp] theorem State.raiseEvent_mem (s : State) (blk bit code : Nat) : (s.raiseEvent blk bit code).mem = s.mem := by
  have h := congrArg State.mem (s.raiseEvent_hushed blk bit code); exact h
@[simp] theorem State.raiseEvent_cxl (s : State) (blk bit code : Nat) : (s.raiseEvent blk bit code).cxl = s.cxl := by
  have h := congrArg State.cxl (s.raiseEvent_hushed blk bit code); exact h
@[simp] theorem State.raiseEvent_quals (s : State) (blk bit code : Nat) : (s.raiseEvent blk bit code).quals = s.quals := by
  have h := congrArg State.quals (s.raiseEvent_hushed blk bit code); exact h
@[simp] theorem State.raiseEvent_freeCount (s : State) (blk bit code : Nat) : (s.raiseEvent blk bit code).freeCount = s.freeCount := by
  have h := congrArg State.freeCount (s.raiseEvent_hushed blk bit code); exact h
@[simp] theorem State.raiseEvent_pending (s : State) (blk bit code : Nat) : (s.raiseEvent blk bit code).pending = s.pending := by
  have h := congrArg State.pending (s.raiseEvent_hushed blk bit code); exact h
theorem State.raiseEvent_get (s : State) (blk bit code : Nat) {g : Fld} (h : ordinary g.addr) : (s.raiseEvent blk bit code).get g = s.get g := by
  rw [State.get, State.get, s.raiseEvent_rd blk bit code h]

/-! ### raiseLimited, field by field -/

@[simp] theorem State.raiseLimited_shadows (s : State) (blk bit code : Nat) : (s.raiseLimited blk bit code).shadows = s.shadows := by
  have h := congrArg State.shadows (s.raiseLimited_hushed blk bit code); exact h
@[simp] theorem State.raiseLimited_staging (s : State) (blk bit code : Nat) : (s.raiseLimited blk bit code).staging = s.staging := by
  have h := congrArg State.staging (s.raiseLimited_hushed blk bit code); exact h
@[simp] theorem State.raiseLimited_readData (s : State) (blk bit code : Nat) : (s.raiseLimited blk bit code).readData = s.readData := by
  have h := congrArg State.readData (s.raiseLimited_hushed blk bit code); exact h
@[simp] theorem State.raiseLimited_burst (s : State) (blk bit code : Nat) : (s.raiseLimited blk bit code).burst = s.burst := by
  have h := congrArg State.burst (s.raiseLimited_hushed blk bit code); exact h
@[simp] theorem State.raiseLimited_clock (s : State) (blk bit code : Nat) : (s.raiseLimited blk bit code).clock = s.clock := by
  have h := congrArg State.clock (s.raiseLimited_hushed blk bit code); exact h
@[simp] theorem State.raiseLimited_msixEnabled (s : State) (blk bit code : Nat) : (s.raiseLimited blk bit code).msixEnabled = s.msixEnabled := by
  have h := congrArg State.msixEnabled (s.raiseLimited_hushed blk bit code); exact h
@[simp] theorem State.raiseLimited_msixMasked (s : State) (blk bit code : Nat) : (s.raiseLimited blk bit code).msixMasked = s.msixMasked := by
  have h := congrArg State.msixMasked (s.raiseLimited_hushed blk bit code); exact h
@[simp] theorem State.raiseLimited_i3cAddress (s : State) (blk bit code : Nat) : (s.raiseLimited blk bit code).i3cAddress = s.i3cAddress := by
  have h := congrArg State.i3cAddress (s.raiseLimited_hushed blk bit code); exact h
@[simp] theorem State.raiseLimited_wmpMajor (s : State) (blk bit code : Nat) : (s.raiseLimited blk bit code).wmpMajor = s.wmpMajor := by
  have h := congrArg State.wmpMajor (s.raiseLimited_hushed blk bit code); exact h
@[simp] theorem State.raiseLimited_wmpMinor (s : State) (blk bit code : Nat) : (s.raiseLimited blk bit code).wmpMinor = s.wmpMinor := by
  have h := congrArg State.wmpMinor (s.raiseLimited_hushed blk bit code); exact h
@[simp] theorem State.raiseLimited_mgrInbox (s : State) (blk bit code : Nat) : (s.raiseLimited blk bit code).mgrInbox = s.mgrInbox := by
  have h := congrArg State.mgrInbox (s.raiseLimited_hushed blk bit code); exact h
@[simp] theorem State.raiseLimited_faultTest (s : State) (blk bit code : Nat) : (s.raiseLimited blk bit code).faultTest = s.faultTest := by
  have h := congrArg State.faultTest (s.raiseLimited_hushed blk bit code); exact h
@[simp] theorem State.raiseLimited_faultOrder (s : State) (blk bit code : Nat) : (s.raiseLimited blk bit code).faultOrder = s.faultOrder := by
  have h := congrArg State.faultOrder (s.raiseLimited_hushed blk bit code); exact h
@[simp] theorem State.raiseLimited_stoppedClocks (s : State) (blk bit code : Nat) : (s.raiseLimited blk bit code).stoppedClocks = s.stoppedClocks := by
  have h := congrArg State.stoppedClocks (s.raiseLimited_hushed blk bit code); exact h
@[simp] theorem State.raiseLimited_plan (s : State) (blk bit code : Nat) : (s.raiseLimited blk bit code).plan = s.plan := by
  have h := congrArg State.plan (s.raiseLimited_hushed blk bit code); exact h
@[simp] theorem State.raiseLimited_rx (s : State) (blk bit code : Nat) : (s.raiseLimited blk bit code).rx = s.rx := by
  have h := congrArg State.rx (s.raiseLimited_hushed blk bit code); exact h
@[simp] theorem State.raiseLimited_tx (s : State) (blk bit code : Nat) : (s.raiseLimited blk bit code).tx = s.tx := by
  have h := congrArg State.tx (s.raiseLimited_hushed blk bit code); exact h
@[simp] theorem State.raiseLimited_link (s : State) (blk bit code : Nat) : (s.raiseLimited blk bit code).link = s.link := by
  have h := congrArg State.link (s.raiseLimited_hushed blk bit code); exact h
@[simp] theorem State.raiseLimited_neighbours (s : State) (blk bit code : Nat) : (s.raiseLimited blk bit code).neighbours = s.neighbours := by
  have h := congrArg State.neighbours (s.raiseLimited_hushed blk bit code); exact h
@[simp] theorem State.raiseLimited_nbHeard (s : State) (blk bit code : Nat) : (s.raiseLimited blk bit code).nbHeard = s.nbHeard := by
  have h := congrArg State.nbHeard (s.raiseLimited_hushed blk bit code); exact h
@[simp] theorem State.raiseLimited_nbVersions (s : State) (blk bit code : Nat) : (s.raiseLimited blk bit code).nbVersions = s.nbVersions := by
  have h := congrArg State.nbVersions (s.raiseLimited_hushed blk bit code); exact h
@[simp] theorem State.raiseLimited_label (s : State) (blk bit code : Nat) : (s.raiseLimited blk bit code).label = s.label := by
  have h := congrArg State.label (s.raiseLimited_hushed blk bit code); exact h
@[simp] theorem State.raiseLimited_lanes (s : State) (blk bit code : Nat) : (s.raiseLimited blk bit code).lanes = s.lanes := by
  have h := congrArg State.lanes (s.raiseLimited_hushed blk bit code); exact h
@[simp] theorem State.raiseLimited_ports (s : State) (blk bit code : Nat) : (s.raiseLimited blk bit code).ports = s.ports := by
  have h := congrArg State.ports (s.raiseLimited_hushed blk bit code); exact h
@[simp] theorem State.raiseLimited_time (s : State) (blk bit code : Nat) : (s.raiseLimited blk bit code).time = s.time := by
  have h := congrArg State.time (s.raiseLimited_hushed blk bit code); exact h
@[simp] theorem State.raiseLimited_head (s : State) (blk bit code : Nat) : (s.raiseLimited blk bit code).head = s.head := by
  have h := congrArg State.head (s.raiseLimited_hushed blk bit code); exact h
@[simp] theorem State.raiseLimited_ana (s : State) (blk bit code : Nat) : (s.raiseLimited blk bit code).ana = s.ana := by
  have h := congrArg State.ana (s.raiseLimited_hushed blk bit code); exact h
@[simp] theorem State.raiseLimited_sec (s : State) (blk bit code : Nat) : (s.raiseLimited blk bit code).sec = s.sec := by
  have h := congrArg State.sec (s.raiseLimited_hushed blk bit code); exact h
@[simp] theorem State.raiseLimited_power (s : State) (blk bit code : Nat) : (s.raiseLimited blk bit code).power = s.power := by
  have h := congrArg State.power (s.raiseLimited_hushed blk bit code); exact h
@[simp] theorem State.raiseLimited_cal (s : State) (blk bit code : Nat) : (s.raiseLimited blk bit code).cal = s.cal := by
  have h := congrArg State.cal (s.raiseLimited_hushed blk bit code); exact h
@[simp] theorem State.raiseLimited_bist (s : State) (blk bit code : Nat) : (s.raiseLimited blk bit code).bist = s.bist := by
  have h := congrArg State.bist (s.raiseLimited_hushed blk bit code); exact h
@[simp] theorem State.raiseLimited_mem (s : State) (blk bit code : Nat) : (s.raiseLimited blk bit code).mem = s.mem := by
  have h := congrArg State.mem (s.raiseLimited_hushed blk bit code); exact h
@[simp] theorem State.raiseLimited_cxl (s : State) (blk bit code : Nat) : (s.raiseLimited blk bit code).cxl = s.cxl := by
  have h := congrArg State.cxl (s.raiseLimited_hushed blk bit code); exact h
@[simp] theorem State.raiseLimited_quals (s : State) (blk bit code : Nat) : (s.raiseLimited blk bit code).quals = s.quals := by
  have h := congrArg State.quals (s.raiseLimited_hushed blk bit code); exact h
@[simp] theorem State.raiseLimited_freeCount (s : State) (blk bit code : Nat) : (s.raiseLimited blk bit code).freeCount = s.freeCount := by
  have h := congrArg State.freeCount (s.raiseLimited_hushed blk bit code); exact h
@[simp] theorem State.raiseLimited_pending (s : State) (blk bit code : Nat) : (s.raiseLimited blk bit code).pending = s.pending := by
  have h := congrArg State.pending (s.raiseLimited_hushed blk bit code); exact h
theorem State.raiseLimited_get (s : State) (blk bit code : Nat) {g : Fld} (h : ordinary g.addr) : (s.raiseLimited blk bit code).get g = s.get g := by
  rw [State.get, State.get, s.raiseLimited_rd blk bit code h]

/-! ### raiseOnce, field by field -/

@[simp] theorem State.raiseOnce_shadows (s : State) (blk bit code : Nat) : (s.raiseOnce blk bit code).shadows = s.shadows := by
  have h := congrArg State.shadows (s.raiseOnce_hushed blk bit code); exact h
@[simp] theorem State.raiseOnce_staging (s : State) (blk bit code : Nat) : (s.raiseOnce blk bit code).staging = s.staging := by
  have h := congrArg State.staging (s.raiseOnce_hushed blk bit code); exact h
@[simp] theorem State.raiseOnce_readData (s : State) (blk bit code : Nat) : (s.raiseOnce blk bit code).readData = s.readData := by
  have h := congrArg State.readData (s.raiseOnce_hushed blk bit code); exact h
@[simp] theorem State.raiseOnce_burst (s : State) (blk bit code : Nat) : (s.raiseOnce blk bit code).burst = s.burst := by
  have h := congrArg State.burst (s.raiseOnce_hushed blk bit code); exact h
@[simp] theorem State.raiseOnce_clock (s : State) (blk bit code : Nat) : (s.raiseOnce blk bit code).clock = s.clock := by
  have h := congrArg State.clock (s.raiseOnce_hushed blk bit code); exact h
@[simp] theorem State.raiseOnce_msixEnabled (s : State) (blk bit code : Nat) : (s.raiseOnce blk bit code).msixEnabled = s.msixEnabled := by
  have h := congrArg State.msixEnabled (s.raiseOnce_hushed blk bit code); exact h
@[simp] theorem State.raiseOnce_msixMasked (s : State) (blk bit code : Nat) : (s.raiseOnce blk bit code).msixMasked = s.msixMasked := by
  have h := congrArg State.msixMasked (s.raiseOnce_hushed blk bit code); exact h
@[simp] theorem State.raiseOnce_i3cAddress (s : State) (blk bit code : Nat) : (s.raiseOnce blk bit code).i3cAddress = s.i3cAddress := by
  have h := congrArg State.i3cAddress (s.raiseOnce_hushed blk bit code); exact h
@[simp] theorem State.raiseOnce_wmpMajor (s : State) (blk bit code : Nat) : (s.raiseOnce blk bit code).wmpMajor = s.wmpMajor := by
  have h := congrArg State.wmpMajor (s.raiseOnce_hushed blk bit code); exact h
@[simp] theorem State.raiseOnce_wmpMinor (s : State) (blk bit code : Nat) : (s.raiseOnce blk bit code).wmpMinor = s.wmpMinor := by
  have h := congrArg State.wmpMinor (s.raiseOnce_hushed blk bit code); exact h
@[simp] theorem State.raiseOnce_mgrInbox (s : State) (blk bit code : Nat) : (s.raiseOnce blk bit code).mgrInbox = s.mgrInbox := by
  have h := congrArg State.mgrInbox (s.raiseOnce_hushed blk bit code); exact h
@[simp] theorem State.raiseOnce_faultTest (s : State) (blk bit code : Nat) : (s.raiseOnce blk bit code).faultTest = s.faultTest := by
  have h := congrArg State.faultTest (s.raiseOnce_hushed blk bit code); exact h
@[simp] theorem State.raiseOnce_faultOrder (s : State) (blk bit code : Nat) : (s.raiseOnce blk bit code).faultOrder = s.faultOrder := by
  have h := congrArg State.faultOrder (s.raiseOnce_hushed blk bit code); exact h
@[simp] theorem State.raiseOnce_stoppedClocks (s : State) (blk bit code : Nat) : (s.raiseOnce blk bit code).stoppedClocks = s.stoppedClocks := by
  have h := congrArg State.stoppedClocks (s.raiseOnce_hushed blk bit code); exact h
@[simp] theorem State.raiseOnce_plan (s : State) (blk bit code : Nat) : (s.raiseOnce blk bit code).plan = s.plan := by
  have h := congrArg State.plan (s.raiseOnce_hushed blk bit code); exact h
@[simp] theorem State.raiseOnce_rx (s : State) (blk bit code : Nat) : (s.raiseOnce blk bit code).rx = s.rx := by
  have h := congrArg State.rx (s.raiseOnce_hushed blk bit code); exact h
@[simp] theorem State.raiseOnce_tx (s : State) (blk bit code : Nat) : (s.raiseOnce blk bit code).tx = s.tx := by
  have h := congrArg State.tx (s.raiseOnce_hushed blk bit code); exact h
@[simp] theorem State.raiseOnce_link (s : State) (blk bit code : Nat) : (s.raiseOnce blk bit code).link = s.link := by
  have h := congrArg State.link (s.raiseOnce_hushed blk bit code); exact h
@[simp] theorem State.raiseOnce_neighbours (s : State) (blk bit code : Nat) : (s.raiseOnce blk bit code).neighbours = s.neighbours := by
  have h := congrArg State.neighbours (s.raiseOnce_hushed blk bit code); exact h
@[simp] theorem State.raiseOnce_nbHeard (s : State) (blk bit code : Nat) : (s.raiseOnce blk bit code).nbHeard = s.nbHeard := by
  have h := congrArg State.nbHeard (s.raiseOnce_hushed blk bit code); exact h
@[simp] theorem State.raiseOnce_nbVersions (s : State) (blk bit code : Nat) : (s.raiseOnce blk bit code).nbVersions = s.nbVersions := by
  have h := congrArg State.nbVersions (s.raiseOnce_hushed blk bit code); exact h
@[simp] theorem State.raiseOnce_label (s : State) (blk bit code : Nat) : (s.raiseOnce blk bit code).label = s.label := by
  have h := congrArg State.label (s.raiseOnce_hushed blk bit code); exact h
@[simp] theorem State.raiseOnce_lanes (s : State) (blk bit code : Nat) : (s.raiseOnce blk bit code).lanes = s.lanes := by
  have h := congrArg State.lanes (s.raiseOnce_hushed blk bit code); exact h
@[simp] theorem State.raiseOnce_ports (s : State) (blk bit code : Nat) : (s.raiseOnce blk bit code).ports = s.ports := by
  have h := congrArg State.ports (s.raiseOnce_hushed blk bit code); exact h
@[simp] theorem State.raiseOnce_time (s : State) (blk bit code : Nat) : (s.raiseOnce blk bit code).time = s.time := by
  have h := congrArg State.time (s.raiseOnce_hushed blk bit code); exact h
@[simp] theorem State.raiseOnce_head (s : State) (blk bit code : Nat) : (s.raiseOnce blk bit code).head = s.head := by
  have h := congrArg State.head (s.raiseOnce_hushed blk bit code); exact h
@[simp] theorem State.raiseOnce_ana (s : State) (blk bit code : Nat) : (s.raiseOnce blk bit code).ana = s.ana := by
  have h := congrArg State.ana (s.raiseOnce_hushed blk bit code); exact h
@[simp] theorem State.raiseOnce_sec (s : State) (blk bit code : Nat) : (s.raiseOnce blk bit code).sec = s.sec := by
  have h := congrArg State.sec (s.raiseOnce_hushed blk bit code); exact h
@[simp] theorem State.raiseOnce_power (s : State) (blk bit code : Nat) : (s.raiseOnce blk bit code).power = s.power := by
  have h := congrArg State.power (s.raiseOnce_hushed blk bit code); exact h
@[simp] theorem State.raiseOnce_cal (s : State) (blk bit code : Nat) : (s.raiseOnce blk bit code).cal = s.cal := by
  have h := congrArg State.cal (s.raiseOnce_hushed blk bit code); exact h
@[simp] theorem State.raiseOnce_bist (s : State) (blk bit code : Nat) : (s.raiseOnce blk bit code).bist = s.bist := by
  have h := congrArg State.bist (s.raiseOnce_hushed blk bit code); exact h
@[simp] theorem State.raiseOnce_mem (s : State) (blk bit code : Nat) : (s.raiseOnce blk bit code).mem = s.mem := by
  have h := congrArg State.mem (s.raiseOnce_hushed blk bit code); exact h
@[simp] theorem State.raiseOnce_cxl (s : State) (blk bit code : Nat) : (s.raiseOnce blk bit code).cxl = s.cxl := by
  have h := congrArg State.cxl (s.raiseOnce_hushed blk bit code); exact h
@[simp] theorem State.raiseOnce_quals (s : State) (blk bit code : Nat) : (s.raiseOnce blk bit code).quals = s.quals := by
  have h := congrArg State.quals (s.raiseOnce_hushed blk bit code); exact h
@[simp] theorem State.raiseOnce_freeCount (s : State) (blk bit code : Nat) : (s.raiseOnce blk bit code).freeCount = s.freeCount := by
  have h := congrArg State.freeCount (s.raiseOnce_hushed blk bit code); exact h
@[simp] theorem State.raiseOnce_pending (s : State) (blk bit code : Nat) : (s.raiseOnce blk bit code).pending = s.pending := by
  have h := congrArg State.pending (s.raiseOnce_hushed blk bit code); exact h
theorem State.raiseOnce_get (s : State) (blk bit code : Nat) {g : Fld} (h : ordinary g.addr) : (s.raiseOnce blk bit code).get g = s.get g := by
  rw [State.get, State.get, s.raiseOnce_rd blk bit code h]

end Sys2Proof.Machine
end

