-- ==== Sys2Proof/Laws/Frame.lean ====
section
/-!
SUPPORT. Composing frames: `State.onlyRegs` through the basic register operations, and INT_STATUS bits through interrupts and events.
-/
namespace Sys2Proof.Machine

/-! ### Frames -/

theorem onlyRegs_refl (s : State) (l : List Nat) : s.onlyRegs s l := ⟨rfl, fun _ _ _ => rfl⟩

theorem onlyRegs_wr {s0 s : State} {l : List Nat} (h : s0.onlyRegs s l) {a : Nat} (ha : a ∈ l) (w : Word) : s0.onlyRegs (s.wr a w) l :=
  ⟨(State.wr_hushed s a w).trans h.1, fun x hx hn =>
    (State.rd_wr_other s w (fun e => hn (by rw [e]; exact ha))).trans (h.2 x hx hn)⟩

theorem onlyRegs_set {s0 s : State} {l : List Nat} (h : s0.onlyRegs s l) {f : Fld} (ha : f.addr ∈ l) (v : Nat) : s0.onlyRegs (s.set f v) l :=
  onlyRegs_wr h ha _

theorem onlyRegs_setB {s0 s : State} {l : List Nat} (h : s0.onlyRegs s l) {f : Fld} (ha : f.addr ∈ l) (b : Bool) : s0.onlyRegs (s.setB f b) l :=
  onlyRegs_wr h ha _

theorem onlyRegs_setS {s0 s : State} {l : List Nat} (h : s0.onlyRegs s l) {f : Fld} (ha : f.addr ∈ l) (v : Int) : s0.onlyRegs (s.setS f v) l :=
  onlyRegs_wr h ha _

theorem onlyRegs_setSat {s0 s : State} {l : List Nat} (h : s0.onlyRegs s l) {f : Fld} (ha : f.addr ∈ l) (v : Nat) : s0.onlyRegs (s.setSat f v) l :=
  onlyRegs_wr h ha _

theorem onlyRegs_bump {s0 s : State} {l : List Nat} (h : s0.onlyRegs s l) {f : Fld} (ha : f.addr ∈ l) (n : Nat) : s0.onlyRegs (s.bump f n) l :=
  onlyRegs_wr h ha _

theorem onlyRegs_raise {s0 s : State} {l : List Nat} (h : s0.onlyRegs s l) (blk bit : Nat) : s0.onlyRegs (s.raise blk bit) l :=
  ⟨(State.raise_hushed s blk bit).trans h.1, fun x hx hn => (State.raise_rd s blk bit hx).trans (h.2 x hx hn)⟩

theorem onlyRegs_event {s0 s : State} {l : List Nat} (h : s0.onlyRegs s l) (code : Nat) : s0.onlyRegs (s.event code) l :=
  ⟨(State.event_hushed s code).trans h.1, fun x hx hn => (State.event_rd s code hx).trans (h.2 x hx hn)⟩

theorem onlyRegs_raiseEvent {s0 s : State} {l : List Nat} (h : s0.onlyRegs s l) (blk bit code : Nat) :
    s0.onlyRegs (s.raiseEvent blk bit code) l := onlyRegs_event (onlyRegs_raise h blk bit) code

theorem onlyRegs_raiseLimited {s0 s : State} {l : List Nat} (h : s0.onlyRegs s l) (blk bit code : Nat) :
    s0.onlyRegs (s.raiseLimited blk bit code) l :=
  ⟨(State.raiseLimited_hushed s blk bit code).trans h.1, fun x hx hn => (State.raiseLimited_rd s blk bit code hx).trans (h.2 x hx hn)⟩

theorem onlyRegs_raiseOnce {s0 s : State} {l : List Nat} (h : s0.onlyRegs s l) (blk bit code : Nat) :
    s0.onlyRegs (s.raiseOnce blk bit code) l :=
  ⟨(State.raiseOnce_hushed s blk bit code).trans h.1, fun x hx hn => (State.raiseOnce_rd s blk bit code hx).trans (h.2 x hx hn)⟩

theorem onlyRegs_ite {s0 a b : State} {l : List Nat} {c : Prop} [Decidable c] (ha : s0.onlyRegs a l) (hb : s0.onlyRegs b l) :
    s0.onlyRegs (if c then a else b) l := by split <;> assumption

/-! ### INT_STATUS bits -/

/-- Every INT_STATUS bit of `s` is set in `t`. -/
def FlagsKept (s t : State) : Prop := ∀ blk bit, blk < 128 → s.flag blk bit = true → t.flag blk bit = true

theorem FlagsKept.refl (s : State) : FlagsKept s s := fun _ _ _ h => h

theorem FlagsKept.trans {s t u : State} (h1 : FlagsKept s t) (h2 : FlagsKept t u) : FlagsKept s u :=
  fun b k hb h => h2 b k hb (h1 b k hb h)

theorem flagsKept_wr (s : State) {a : Nat} (h : a % 0x80000 ≠ 4 ∨ 0x4000000 ≤ a) (w : Word) : FlagsKept s (s.wr a w) := by
  intro b k hb hf
  have : intStatus b ≠ a := by simp only [intStatus]; omega
  simpa only [State.flag, State.rd_wr_other s w this] using hf

theorem flagsKept_set (s : State) {f : Fld} (h : f.addr % 0x80000 ≠ 4 ∨ 0x4000000 ≤ f.addr) (v : Nat) : FlagsKept s (s.set f v) :=
  flagsKept_wr s h _

theorem flagsKept_foldl {α : Type} {f : State → α → State} (h : ∀ s x, FlagsKept s (f s x)) (l : List α) (s : State) :
    FlagsKept s (l.foldl f s) := by
  induction l generalizing s with
  | nil => exact FlagsKept.refl s
  | cons x l ih => exact (h s x).trans (ih _)

theorem flagsKept_regs {s t : State} (h : t.regs = s.regs) : FlagsKept s t := by
  intro b k _ hf
  simpa only [State.flag, State.rd, h] using hf

theorem State.msix_flags (s : State) (v : Nat) : FlagsKept s (s.msix v) := by
  unfold State.msix
  split
  · split
    · exact flagsKept_set s (.inr (by simp only [pba, bar2]; omega)) _
    · exact flagsKept_regs rfl
  · exact FlagsKept.refl s

theorem State.msix_flag (s : State) (v : Nat) {b : Nat} (k : Nat) (hb : b < 128) : (s.msix v).flag b k = s.flag b k := by
  unfold State.msix
  split
  · split
    · have : intStatus b ≠ (pba v).addr := by simp only [intStatus, pba, bar2]; omega
      simp only [State.flag, State.setB, State.set, State.rd_wr_other s _ this]
    · rfl
  · rfl

theorem State.msixEdge_flag (before after : State) (v : Nat) {b : Nat} (k : Nat) (hb : b < 128) :
    (before.msixEdge after v).flag b k = after.flag b k := by
  unfold State.msixEdge
  split
  · exact State.msix_flag _ _ _ hb
  · rfl

theorem State.raiseMask_flag (s : State) {blk : Nat} (m : Word) (bit : Nat) (hb : blk < 128) :
    (s.raiseMask blk m).flag blk bit = (s.flag blk bit || m.getLsbD bit) := by
  unfold State.raiseMask
  rw [State.msixEdge_flag _ _ _ _ hb]
  simp only [State.flag, State.rd, State.wr, Store.read_write_same, BitVec.getLsbD_or]

theorem State.raiseMask_flags (s : State) (blk : Nat) (m : Word) : FlagsKept s (s.raiseMask blk m) := by
  intro b k hb hf
  unfold State.raiseMask
  rw [State.msixEdge_flag _ _ _ _ hb]
  by_cases e : b = blk
  · subst e
    simp only [State.flag] at hf
    simp only [State.flag, State.rd, State.wr, Store.read_write_same, BitVec.getLsbD_or] at hf ⊢
    simp [hf]
  · have : intStatus b ≠ intStatus blk := by simp only [intStatus]; omega
    simpa only [State.flag, State.rd_wr_other s _ this] using hf

theorem State.raise_flags (s : State) (blk bit : Nat) : FlagsKept s (s.raise blk bit) := State.raiseMask_flags s blk _

/-- An interrupt bit is set once it is raised. -/
theorem State.raise_flag (s : State) {blk bit : Nat} (hb : blk < 128) (hk : bit < 32) : (s.raise blk bit).flag blk bit = true := by
  unfold State.raise
  rw [State.raiseMask_flag s _ _ hb]
  have : (BitVec.ofNat 32 (2 ^ bit)).getLsbD bit = true := by
    rw [BitVec.getLsbD_ofNat]
    simp [hk, Nat.testBit_two_pow_self]
  rw [this, Bool.or_true]

theorem State.putBytes_flags (s : State) {a : Nat} (ha : 0x4000000 ≤ a) (bs : List Byte) : FlagsKept s (s.putBytes a bs) :=
  flagsKept_foldl (fun s i => flagsKept_wr s (.inr (by omega)) _) _ s

theorem State.ringPut_flags (s : State) (bs : List Byte) : FlagsKept s (s.ringPut bs) := by
  unfold State.ringPut
  dsimp only
  split
  · exact (flagsKept_set s (.inr (by decide)) _).trans (State.raise_flags _ _ _)
  · intro b k hb hf
    rw [State.msixEdge_flag _ _ _ _ hb]
    exact ((State.putBytes_flags s (by simp only [bar2]; omega) bs).trans (flagsKept_set _ (.inr (by decide)) _)) b k hb hf

theorem State.mccSend_regs (s : State) (c : Carrier) (m : List Byte) : (s.mccSend c m).regs = s.regs := by
  unfold State.mccSend; split <;> rfl

theorem State.countOcc_regs (s : State) (p code : Nat) : (s.countOcc p code).regs = s.regs := rfl

theorem flagsKept_of {s t u : State} (h : FlagsKept s t) (hr : u.regs = t.regs) : FlagsKept s u := h.trans (flagsKept_regs hr)

theorem State.ringPut_flags_of (s : State) {t : State} (bs : List Byte) (h : t.regs = s.regs) : FlagsKept s (t.ringPut bs) :=
  (flagsKept_regs h).trans (State.ringPut_flags t bs)

theorem State.notifyOn_flags (s : State) (p code : Nat) : FlagsKept s (s.notifyOn p code) := by
  unfold State.notifyOn
  dsimp only
  split
  · split
    · apply State.ringPut_flags_of
      rw [State.send_regs]
    · split
      · split
        · apply flagsKept_regs
          rw [State.send_regs, State.send_regs]
        · apply flagsKept_regs
          rw [State.send_regs]
      · apply flagsKept_regs
        rw [State.mccSend_regs, State.send_regs]
  · exact FlagsKept.refl s

theorem State.countOcc_flags (s : State) (l : List Nat) (code : Nat) : FlagsKept s (l.foldl (fun s p => s.countOcc p code) s) :=
  flagsKept_foldl (fun s p => flagsKept_regs (State.countOcc_regs s p code)) _ _

theorem State.statCount_flags (s : State) (n : Nat → Nat) : FlagsKept s (s.statCount n) := by
  unfold State.statCount
  dsimp only
  split
  · refine FlagsKept.trans ?_ (State.raise_flags _ _ _)
    intro b k _ hf
    exact hf
  · intro b k _ hf
    exact hf

theorem State.gleanHears_flags (s : State) (code : Nat) : FlagsKept s (s.gleanHears code) :=
  flagsKept_of (State.statCount_flags s _) rfl

theorem State.issue_flags (s : State) (code : Nat) : FlagsKept s (s.issue code) := by
  unfold State.issue
  refine FlagsKept.trans ?_ (flagsKept_foldl (fun s p => State.notifyOn_flags s p code) _ _)
  refine flagsKept_of ?_ (State.send_regs _ _)
  exact (State.gleanHears_flags s _).trans (State.countOcc_flags _ _ _)

theorem State.issueAll_flags (n : Nat) (codes : List Nat) (s : State) : FlagsKept s (State.issueAll n codes s) := by
  induction n generalizing codes s with
  | zero => exact FlagsKept.refl s
  | succ n ih =>
    cases codes with
    | nil => exact FlagsKept.refl s
    | cons c cs => exact (State.issue_flags s c).trans (ih _ _)

theorem State.event_flags (s : State) (code : Nat) : FlagsKept s (s.event code) := State.issueAll_flags _ _ _

theorem State.eventOncePerSecond_flags (s : State) (code : Nat) : FlagsKept s (s.eventOncePerSecond code) := by
  unfold State.eventOncePerSecond
  split
  · exact ((State.gleanHears_flags s _).trans (State.countOcc_flags _ _ _)).trans (State.issueAll_flags _ _ _)
  · refine FlagsKept.trans ?_ (State.event_flags _ code)
    intro b k _ hf
    exact hf

theorem State.statAdd_flags (s : State) (n : Nat → Nat) : FlagsKept s (s.statAdd n) := by
  unfold State.statAdd
  split
  · exact (State.statCount_flags s _).trans (State.event_flags _ _)
  · exact State.statCount_flags s _

theorem State.raiseEvent_flag (s : State) {blk bit : Nat} (code : Nat) (hb : blk < 128) (hk : bit < 32) :
    (s.raiseEvent blk bit code).flag blk bit = true := State.event_flags _ code blk bit hb (State.raise_flag s hb hk)

theorem State.raiseEvent_flags (s : State) (blk bit code : Nat) : FlagsKept s (s.raiseEvent blk bit code) :=
  (State.raise_flags s blk bit).trans (State.event_flags _ code)

theorem State.raiseLimited_flag (s : State) {blk bit : Nat} (code : Nat) (hb : blk < 128) (hk : bit < 32) :
    (s.raiseLimited blk bit code).flag blk bit = true := State.eventOncePerSecond_flags _ code blk bit hb (State.raise_flag s hb hk)

theorem State.raiseLimited_flags (s : State) (blk bit code : Nat) : FlagsKept s (s.raiseLimited blk bit code) :=
  (State.raise_flags s blk bit).trans (State.eventOncePerSecond_flags _ code)

/-! ### The BIST record's copies (R345, R362) -/

/-- A record that has been stored is the one in use. -/
theorem BistSt.store_record (b : BistSt) (r : BistRecord) : (b.store r).record = some r := by
  have h : ∀ w : Word, 1 ≤ (w + 1 - w).toNat ∧ (w + 1 - w).toNat < 2 ^ 31 := by intro w; constructor <;> bv_omega
  have h' : ∀ w : Word, ¬(1 ≤ (w - (w + 1)).toNat ∧ (w - (w + 1)).toNat < 2 ^ 31) := by intro w; bv_omega
  rcases ha : b.copyA with _ | x <;> rcases hb : b.copyB with _ | y
  · simp only [BistSt.store, BistSt.record, BistSt.used, ha, hb, Option.map]
  · simp only [BistSt.store, BistSt.record, BistSt.used, ha, hb, Bool.and_eq_true, decide_eq_true_eq, h', if_false, Option.map]
  · simp only [BistSt.store, BistSt.record, BistSt.used, ha, hb, Bool.and_eq_true, decide_eq_true_eq, h, and_self, if_true, Option.map]
  · by_cases e : 1 ≤ (y.seq - x.seq).toNat ∧ (y.seq - x.seq).toNat < 2 ^ 31
    · simp only [BistSt.store, BistSt.record, BistSt.used, ha, hb, Bool.and_eq_true, decide_eq_true_eq, e, and_self, if_true, h', if_false, Option.map]
    · simp only [BistSt.store, BistSt.record, BistSt.used, ha, hb, Bool.and_eq_true, decide_eq_true_eq, e, if_false, h, and_self, if_true, Option.map]

/-- A store cut short leaves the record in use as it was. -/
theorem BistSt.cut_record (b : BistSt) : b.cut.record = b.record := by
  rcases ha : b.copyA with _ | x <;> rcases hb : b.copyB with _ | y
  · simp only [BistSt.cut, BistSt.record, BistSt.used, ha, hb]
  · simp only [BistSt.cut, BistSt.record, BistSt.used, ha, hb]
  · simp only [BistSt.cut, BistSt.record, BistSt.used, ha, hb]
  · by_cases e : 1 ≤ (y.seq - x.seq).toNat ∧ (y.seq - x.seq).toNat < 2 ^ 31
    · simp only [BistSt.cut, BistSt.record, BistSt.used, ha, hb, Bool.and_eq_true, decide_eq_true_eq, e, and_self, if_true]
    · simp only [BistSt.cut, BistSt.record, BistSt.used, ha, hb, Bool.and_eq_true, decide_eq_true_eq, e, if_false]

end Sys2Proof.Machine
end

