-- ==== Sys2Proof/Laws/Free.lean ====
section
/-! SUPPORT. What holds of functions of free values whatever those values are. -/

namespace Sys2Proof.Machine

/-- The alternating pattern itself correlates beyond every threshold that a correlator may have. -/
theorem correlates_alternating (second : Bool) :
    correlates second [1, -1, 1, -1, 1, -1, 1, -1, 1, -1, 1, -1, 1, -1, 1, -1] = true := by
  have h := (Config.hlThreshold second).isLt
  apply decide_eq_true
  show (Config.hlThreshold second).val * 256 < 65536 * 256
  omega

/-- Symbols whose alternating sum is zero do not correlate. -/
theorem correlates_eq_false (second : Bool) (symbols : List Int)
    (h : symbols.zipIdx.foldl (fun (a : Int) (x, i) => if i % 2 = 0 then a + x else a - x) 0 = 0) : correlates second symbols = false := by
  apply decide_eq_false
  rw [h]
  simp

end Sys2Proof.Machine
end

