-- ==== Sys2Proof/Laws/Kept.lean ====
section
/-!
SUPPORT. What every operation and every meaning keeps: the queue, the canonical form of both stores, burnt OTP bits, and, but for those
of the memories and the resets (stated for `Kept False`), the words of the on-chip memories. One lemma for each function.
-/
namespace Sys2Proof.Machine

/-- `s` came from `s0` with its queue as it was, its stores canonical if they were, every burnt bit burnt, and, where `still` holds,
its memory words as they were. -/
structure Kept (still : Prop) (s0 s : State) : Prop where
  queue : s.pending = s0.pending
  canon : s0.canonical = true → s.canonical = true
  otp : s0.BurntIn s
  words : still → s.mem.words = s0.mem.words

/-- Burnt bits of the security state stay. -/
structure SecKept (x y : SecSt) : Prop where
  revoked : ∀ k ∈ x.revoked, k ∈ y.revoked
  counts : ∀ i, x.burnt i ≤ y.burnt i

/-- Burnt bits of repair stay. -/
structure BistKept (x y : BistSt) : Prop where
  rows : ∀ q ∈ x.rowFuses, q ∈ y.rowFuses
  units : ∀ u ∈ x.fallowFuses, u ∈ y.fallowFuses

theorem mem_revoked {k j : Nat} {l : List Nat} (h : j ∈ l) : j ∈ k :: l.filter (· ≠ k) := by
  by_cases e : j = k
  · exact e ▸ List.mem_cons_self
  · exact List.mem_cons_of_mem _ (List.mem_filter.mpr ⟨h, by simpa using e⟩)

theorem nth_modify_le (l : List Nat) (k i : Nat) {f : Nat → Nat} (hf : ∀ x, x ≤ f x) : nth l i 0 ≤ nth (l.modify k f) i 0 := by
  simp only [nth, List.getD_eq_getElem?_getD, List.getElem?_modify]
  cases l[i]? with
  | none => simp
  | some x => by_cases e : k = i <;> simp [e, hf]

theorem State.BurntIn.of_eq {s0 s t : State} (h : s0.BurntIn s) (h1 : t.sec.revoked = s.sec.revoked) (h2 : t.sec.burnt = s.sec.burnt) (h4 : t.bist.rowFuses = s.bist.rowFuses) (h5 : t.bist.fallowFuses = s.bist.fallowFuses) : s0.BurntIn t := by
  obtain ⟨a, b, d, e⟩ := h
  constructor <;> simp only [h1, h2, h4, h5] <;> assumption

/-- An outcome whose next state, if it has one, is kept. -/
structure KeptO (still : Prop) (s0 : State) (o : Host.Outcome State Fault Refusal) : Prop where
  next_kept : ∀ t, o = .next t → Kept still s0 t

theorem KeptO.next {still : Prop} {s0 s : State} (h : Kept still s0 s) : KeptO still s0 (.next s) := ⟨by intro t e; cases e; exact h⟩

theorem KeptO.fault {still : Prop} {s0 : State} {f : Fault} : KeptO still s0 (.fault f) := ⟨by intro t e; cases e⟩

theorem kept_ite {still : Prop} {s0 a b : State} {c : Prop} [Decidable c] (ha : Kept still s0 a) (hb : Kept still s0 b) : Kept still s0 (if c then a else b) := by split <;> assumption

theorem kept_iteO {still : Prop} {s0 : State} {a b : Host.Outcome State Fault Refusal} {c : Prop} [Decidable c] (ha : KeptO still s0 a) (hb : KeptO still s0 b) : KeptO still s0 (if c then a else b) := by split <;> assumption

theorem kept_foldl {α : Type} {still : Prop} {s0 : State} {f : State → α → State} {l : List α} {s : State} (hf : ∀ s x, Kept still s0 s → Kept still s0 (f s x)) (h : Kept still s0 s) : Kept still s0 (l.foldl f s) := by
  induction l generalizing s with
  | nil => exact h
  | cons x l ih => exact ih (hf _ _ h)

theorem kept_foldr {α : Type} {still : Prop} {s0 : State} {f : α → State → State} {l : List α} {s : State} (hf : ∀ x s, Kept still s0 s → Kept still s0 (f x s)) (h : Kept still s0 s) : Kept still s0 (l.foldr f s) := by
  induction l with
  | nil => exact h
  | cons x l ih => exact hf _ _ ih

theorem SecSt.burnt_le (x : SecSt) (i : Nat) : x.burnt i ≤ nth x.fuses i 0 := by
  unfold SecSt.burnt
  split
  · split
    · exact Nat.min_le_right _ _
    · exact Nat.le_refl _
  · exact Nat.le_refl _

theorem nth_set (l : List Nat) (k i v : Nat) : nth (l.set k v) i 0 = if k = i ∧ k < l.length then v else nth l i 0 := by
  simp only [nth, List.getD_eq_getElem?_getD, List.getElem?_set]
  by_cases e : k = i
  · subst e
    by_cases hl : k < l.length <;> simp [hl]
  · simp [e]

theorem rollbackCut_burnt (x : SecSt) {kind old k : Nat} (n : Nat) (h : x.burning = some (kind, old, k)) :
    SecKept x { x with fuses := x.fuses.set kind (old + n) } := by
  refine ⟨fun _ h => h, fun i => ?_⟩
  simp only [SecSt.burnt, h, nth_set]
  split
  · rename_i e
    subst e
    split <;> omega
  · rename_i e
    simp [e]

theorem fwCommit_burnt (x : SecSt) (kind svn : Nat) (trial : List Bool) : SecKept x
    { x with trial := trial, fuses := x.fuses.set kind (max (nth x.fuses kind 0) svn),
             burning := if nth x.fuses kind 0 < svn then some (kind, nth x.fuses kind 0, 2) else x.burning } := by
  refine ⟨fun _ h => h, fun i => ?_⟩
  by_cases hs : nth x.fuses kind 0 < svn
  · have hb := x.burnt_le i
    show x.burnt i ≤ SecSt.burnt _ i
    generalize x.burnt i = n at hb
    simp only [SecSt.burnt, hs, if_true, nth_set]
    by_cases e : kind = i
    · subst e
      by_cases hl : kind < x.fuses.length
      · simp only [hl, and_self, if_true]; omega
      · simp only [hl, and_false, if_false, if_true]; omega
    · simpa only [e, false_and, if_false] using hb
  · have hm : max (nth x.fuses kind 0) svn = nth x.fuses kind 0 := by omega
    have hn : ∀ j, nth (x.fuses.set kind (nth x.fuses kind 0)) j 0 = nth x.fuses j 0 := by
      intro j
      rw [nth_set]
      split
      · rename_i e; rw [e.1]
      · rfl
    simp only [SecSt.burnt, hs, if_false, hm, hn]
    exact Nat.le_refl _

theorem burnSecond_kept (x : SecSt) (ages : List Nat) : SecKept x { x with restartAges := ages, burning := burnSecond x.burning } := by
  refine ⟨fun _ h => h, fun i => ?_⟩
  have hb := x.burnt_le i
  obtain hx | ⟨k, old, n, hx⟩ : x.burning = none ∨ ∃ k old n, x.burning = some (k, old, n) := by
    rcases x.burning with _ | ⟨k, old, n⟩
    · exact Or.inl rfl
    · exact Or.inr ⟨k, old, n, rfl⟩
  · rw [SecSt.burnt, SecSt.burnt, hx]
    exact Nat.le_refl _
  · match n, hx with
    | 0, hx => exact Nat.le_trans hb (by rw [SecSt.burnt, hx]; exact Nat.le_refl _)
    | 1, hx => exact Nat.le_trans hb (by rw [SecSt.burnt, hx]; exact Nat.le_refl _)
    | n + 2, hx =>
      rw [SecSt.burnt, SecSt.burnt, hx]
      exact Nat.le_refl _

theorem BistSt.store_kept (b : BistSt) (r : BistRecord) : BistKept b (b.store r) := by
  unfold BistSt.store
  split <;> exact ⟨fun _ h => h, fun _ h => h⟩

theorem BistSt.cut_kept (b : BistSt) : BistKept b b.cut := by
  unfold BistSt.cut
  split <;> exact ⟨fun _ h => h, fun _ h => h⟩

theorem kept_leaf {still : Prop} {s0 s t : State} (h : Kept still s0 s) (h1 : t.pending = s.pending) (h2 : t.regs = s.regs) (h3 : t.mem.words = s.mem.words)
    (e1 : t.sec.revoked = s.sec.revoked) (e2 : t.sec.burnt = s.sec.burnt) (e4 : t.bist.rowFuses = s.bist.rowFuses)
    (e5 : t.bist.fallowFuses = s.bist.fallowFuses) : Kept still s0 t :=
  ⟨h1.trans h.queue, fun c => by have := h.canon c; simpa [State.canonical, State.regsCanonical, State.memCanonical, h2, h3] using this,
    h.otp.of_eq e1 e2 e4 e5, fun hm => h3.trans (h.words hm)⟩

theorem kept_mk_simp {still : Prop} {s0 s : State} {shadows_ : Store Word} {staging_ : Store Word} {readData_ : Word} {burst_ : List Byte} {clock_ : Clock} {msixEnabled_ : Bool} {msixMasked_ : Bool} {occ_ : Store Nat} {occTime_ : Store Clock} {limited_ : List Nat} {i3cNotes_ : List (List Byte)} {i3cAddress_ : Option Nat} {wmpMajor_ : Nat} {wmpMinor_ : Nat} {mgrInbox_ : List (Envelope × MgrReq)} {faultTest_ : Bool} {faultOrder_ : List Nat} {stoppedClocks_ : List (Nat × Nat)} {plan_ : PlanSt} {rx_ : Duo RxSt} {tx_ : Duo TxSt} {line_ : Duo LineSt} {link_ : Duo LinkSt} {neighbours_ : List Nat} {nbHeard_ : List (List Heard)} {nbVersions_ : List Nat} {label_ : List Byte} {lanes_ : List LaneSt} {ports_ : List PortSt} {time_ : TimeSt} {head_ : HeadlandSt} {ana_ : AnaSt} {sec_ : SecSt} {power_ : PowerSt} {cal_ : CalSt} {bist_ : BistSt} {glean_ : GleanSt} {mem_ : MemSt} {cxl_ : CxlSt} {quals_ : List QualSt} {sent_ : List Out} {freeCount_ : Nat} (hm : mem_.words = s.mem.words) (e1 : sec_.revoked = s.sec.revoked) (e2 : sec_.burnt = s.sec.burnt)
    (e4 : bist_.rowFuses = s.bist.rowFuses) (e5 : bist_.fallowFuses = s.bist.fallowFuses) : Kept still s0 (State.mk s.regs shadows_ staging_ readData_ burst_ clock_ msixEnabled_ msixMasked_ occ_ occTime_ limited_ i3cNotes_ i3cAddress_ wmpMajor_ wmpMinor_ mgrInbox_ faultTest_ faultOrder_ stoppedClocks_ plan_ rx_ tx_ line_ link_ neighbours_ nbHeard_ nbVersions_ label_ lanes_ ports_ time_ head_ ana_ sec_ power_ cal_ bist_ glean_ mem_ cxl_ quals_ sent_ freeCount_ s.pending) = Kept still s0 s :=
  propext ⟨fun h => kept_leaf h rfl rfl hm.symm e1.symm e2.symm e4.symm e5.symm, fun h => kept_leaf h rfl rfl hm e1 e2 e4 e5⟩

theorem Store.wf_foldl {α β : Type} [DecidableEq α] {d : Nat → α} {f : Store α → β → Store α} (hf : ∀ st x, Store.wf d st = true → Store.wf d (f st x) = true)
    {l : List β} {st : Store α} (h : Store.wf d st = true) : Store.wf d (l.foldl f st) = true := by
  induction l generalizing st with
  | nil => exact h
  | cons x l ih => exact ih (hf _ _ h)

theorem Store.risingFrom_filter {α : Type} (p : Nat × α → Bool) (st : Store α) {n : Nat} (h : Store.risingFrom n st = true) :
    Store.risingFrom n (st.filter p) = true := by
  induction st generalizing n with
  | nil => rfl
  | cons x st ih =>
    obtain ⟨b, v⟩ := x
    simp only [Store.risingFrom, Bool.and_eq_true, decide_eq_true_eq] at h
    rw [List.filter_cons]
    split
    · simp only [Store.risingFrom, Bool.and_eq_true, decide_eq_true_eq]
      exact ⟨h.1, ih h.2⟩
    · exact Store.risingFrom_mono (Nat.le_succ_of_le h.1) (ih h.2)

theorem Store.wf_filter {α : Type} [DecidableEq α] (d : Nat → α) (st : Store α) (p : Nat × α → Bool) (h : Store.wf d st = true) :
    Store.wf d (st.filter p) = true := by
  simp only [Store.wf, Bool.and_eq_true, List.all_eq_true] at h ⊢
  exact ⟨Store.risingFrom_filter p st h.1, fun q hq => h.2 q (List.mem_filter.mp hq).1⟩

theorem pair_kept {α : Type} {still : Prop} {s0 : State} {p : α × State} {a : α} {t : State} (e : p = (a, t)) (h : Kept still s0 p.2) : Kept still s0 t := by rw [e] at h; exact h

theorem kept_stores {still : Prop} {s0 s t : State} (h : Kept still s0 s) (hq : t.pending = s.pending)
    (hr : Store.wf resetWord s.regs = true → Store.wf resetWord t.regs = true)
    (hm : Store.wf (fun _ => 0) s.mem.words = true → Store.wf (fun _ => 0) t.mem.words = true)
    (hm' : still → t.mem.words = s.mem.words) (e1 : t.sec.revoked = s.sec.revoked) (e2 : t.sec.burnt = s.sec.burnt) (e4 : t.bist.rowFuses = s.bist.rowFuses)
    (e5 : t.bist.fallowFuses = s.bist.fallowFuses) : Kept still s0 t :=
  ⟨hq.trans h.queue, fun c => by
    have := h.canon c
    simp only [State.canonical, State.regsCanonical, State.memCanonical, Bool.and_eq_true] at this ⊢
    exact ⟨hr this.1, hm this.2⟩, h.otp.of_eq e1 e2 e4 e5, fun c => (hm' c).trans (h.words c)⟩

theorem State.wr_kept {still : Prop} {s0 s : State} (h : Kept still s0 s) (a : Nat) (w : Word) : Kept still s0 (s.wr a w) :=
  kept_stores h rfl (Store.wf_write _ _ _ _) id (fun _ => rfl) rfl rfl rfl rfl

theorem State.set_kept {still : Prop} {s0 s : State} (h : Kept still s0 s) (f : Fld) (v : Nat) : Kept still s0 (State.set s f v) := by
  unfold State.set
  try dsimp only
  repeat' first | (with_reducible first | assumption | intro _ | apply State.wr_kept) | dsimp only

theorem State.setB_kept {still : Prop} {s0 s : State} (h : Kept still s0 s) (f : Fld) (b : Bool) : Kept still s0 (State.setB s f b) := by
  unfold State.setB
  repeat' first | (with_reducible first | assumption | intro _ | apply State.set_kept | apply kept_ite) | split | dsimp only

theorem State.setS_kept {still : Prop} {s0 s : State} (h : Kept still s0 s) (f : Fld) (v : Int) : Kept still s0 (State.setS s f v) := by
  unfold State.setS
  repeat' first | (with_reducible first | assumption | intro _ | apply State.set_kept) | dsimp only

theorem State.bump_kept {still : Prop} {s0 s : State} (h : Kept still s0 s) (f : Fld) (n : Nat) : Kept still s0 (State.bump s f n) := by
  unfold State.bump
  repeat' first | (with_reducible first | assumption | intro _ | apply State.set_kept) | dsimp only

theorem State.setSat_kept {still : Prop} {s0 s : State} (h : Kept still s0 s) (f : Fld) (v : Nat) : Kept still s0 (State.setSat s f v) := by
  unfold State.setSat
  repeat' first | (with_reducible first | assumption | intro _ | apply State.set_kept) | dsimp only

theorem State.wrapAdd_kept {still : Prop} {s0 s : State} (h : Kept still s0 s) (f : Fld) (n : Nat) : Kept still s0 (State.wrapAdd s f n) := by
  unfold State.wrapAdd
  repeat' first | (with_reducible first | assumption | intro _ | apply State.set_kept) | dsimp only

theorem State.set48_kept {still : Prop} {s0 s : State} (h : Kept still s0 s) (lo : Fld) (hi : Fld) (v : Nat) : Kept still s0 (State.set48 s lo hi v) := by
  unfold State.set48
  repeat' first | (with_reducible first | assumption | intro _ | apply State.set_kept) | dsimp only

theorem kept_foldl_snd {α β : Type} {still : Prop} {s0 : State} {f : β × State → α → β × State} {l : List α} {i : β × State}
    (hf : ∀ i x, Kept still s0 i.2 → Kept still s0 (f i x).2) (h : Kept still s0 i.2) : Kept still s0 (l.foldl f i).2 := by
  induction l generalizing i with
  | nil => exact h
  | cons x l ih => exact ih (hf _ _ h)

theorem State.freeWord_kept {still : Prop} {s0 s : State} (h : Kept still s0 s) : Kept still s0 (State.freeWord s).2 :=
  kept_leaf h rfl rfl rfl rfl rfl rfl rfl

theorem State.send_kept {still : Prop} {s0 s : State} (h : Kept still s0 s) (o : Out) : Kept still s0 (State.send s o) := by
  unfold State.send
  try dsimp only
  repeat' first | (with_reducible first | assumption | intro _) | simp only [↓kept_mk_simp] | dsimp only

theorem State.onMem_kept {s0 s : State} (h : Kept False s0 s) (f : MemSt → MemSt) (hf : ∀ m, (f m).words = m.words ∨ (f m).words = []) :
    Kept False s0 (State.onMem s f) :=
  kept_stores h rfl id (fun hw => by
    rcases hf s.mem with e | e
    · exact (congrArg _ e).trans hw
    · exact (congrArg _ e).trans rfl) False.elim rfl rfl rfl rfl

theorem State.msix_kept {still : Prop} {s0 s : State} (h : Kept still s0 s) (v : Nat) : Kept still s0 (State.msix s v) := by
  unfold State.msix
  repeat' first | (with_reducible first | assumption | intro _ | apply State.send_kept | apply State.setB_kept | apply kept_ite) | split | dsimp only

theorem State.msixEdge_kept {still : Prop} {s0 s : State} (h : Kept still s0 s) (before : State) (v : Nat) : Kept still s0 (State.msixEdge before s v) := by
  unfold State.msixEdge
  repeat' first | (with_reducible first | assumption | intro _ | apply State.msix_kept | apply kept_ite) | split | dsimp only

theorem State.raiseMask_kept {still : Prop} {s0 s : State} (h : Kept still s0 s) (blk : Nat) (mask : Word) : Kept still s0 (State.raiseMask s blk mask) := by
  unfold State.raiseMask
  repeat' first | (with_reducible first | assumption | intro _ | apply State.msixEdge_kept | apply State.wr_kept) | dsimp only

theorem State.raise_kept {still : Prop} {s0 s : State} (h : Kept still s0 s) (blk : Nat) (bit : Nat) : Kept still s0 (State.raise s blk bit) := by
  unfold State.raise
  repeat' first | (with_reducible first | assumption | intro _ | apply State.raiseMask_kept) | dsimp only

theorem State.putBytes_kept {still : Prop} {s0 s : State} (h : Kept still s0 s) (a : Nat) (bs : List Byte) : Kept still s0 (State.putBytes s a bs) := by
  unfold State.putBytes
  repeat' first | (with_reducible first | assumption | intro _ | apply State.wr_kept | apply kept_foldl) | dsimp only

theorem State.mccSend_kept {still : Prop} {s0 s : State} (h : Kept still s0 s) (c : Carrier) (msg : List Byte) : Kept still s0 (State.mccSend s c msg) := by
  unfold State.mccSend
  try dsimp only
  repeat' first | (with_reducible first | assumption | intro _ | apply kept_ite) | simp only [↓kept_mk_simp] | split | dsimp only

theorem State.ringPut_kept {still : Prop} {s0 s : State} (h : Kept still s0 s) (bs : List Byte) : Kept still s0 (State.ringPut s bs) := by
  unfold State.ringPut
  try dsimp only
  repeat' first | (with_reducible first | assumption | intro _ | apply State.bump_kept | apply State.msixEdge_kept | apply State.putBytes_kept | apply State.raise_kept | apply State.set_kept | apply kept_ite) | split | dsimp only

theorem State.countOcc_kept {still : Prop} {s0 s : State} (h : Kept still s0 s) (p : Nat) (code : Nat) : Kept still s0 (State.countOcc s p code) := by
  unfold State.countOcc
  try dsimp only
  repeat' first | (with_reducible first | assumption | intro _ | apply kept_ite) | simp only [↓kept_mk_simp] | split | dsimp only

theorem State.notifyOn_kept {still : Prop} {s0 s : State} (h : Kept still s0 s) (p : Nat) (code : Nat) : Kept still s0 (State.notifyOn s p code) := by
  unfold State.notifyOn
  try dsimp only
  repeat' first | (with_reducible first | assumption | intro _ | apply State.mccSend_kept | apply State.ringPut_kept | apply State.send_kept | apply kept_ite) | simp only [↓kept_mk_simp] | split | dsimp only

theorem State.ovfMap_kept {still : Prop} {s0 s : State} (h : Kept still s0 s) (k : Nat) (cs : List Ctr48) : Kept still s0 (State.ovfMap s k cs) := by
  unfold State.ovfMap
  repeat' first | (with_reducible first | assumption | intro _ | apply State.set_kept) | dsimp only

theorem State.statCount_kept {still : Prop} {s0 s : State} (h : Kept still s0 s) (n : Nat → Nat) : Kept still s0 (State.statCount s n) := by
  unfold State.statCount
  try dsimp only
  repeat' first | (with_reducible first | assumption | intro _ | apply State.raise_kept | apply kept_ite) | simp only [↓kept_mk_simp] | split | dsimp only

theorem State.gleanHears_kept {still : Prop} {s0 s : State} (h : Kept still s0 s) (code : Nat) : Kept still s0 (State.gleanHears s code) := by
  unfold State.gleanHears
  try dsimp only
  repeat' first | (with_reducible first | assumption | intro _ | apply State.statCount_kept | apply kept_ite) | simp only [↓kept_mk_simp] | split | dsimp only

theorem State.tapped_kept {still : Prop} {s0 s : State} (h : Kept still s0 s) (u : Nat) (tap : Nat) (inst : Nat) (x : TapInstant) : Kept still s0 (State.tapped s u tap inst x) := by
  unfold State.tapped
  try dsimp only
  repeat' first | (with_reducible first | assumption | intro _ | apply kept_ite) | simp only [↓kept_mk_simp] | split | dsimp only

theorem State.issue_kept {still : Prop} {s0 s : State} (h : Kept still s0 s) (code : Nat) : Kept still s0 (State.issue s code) := by
  unfold State.issue
  exact kept_foldl (fun _ _ h => State.notifyOn_kept h ..) (State.send_kept (kept_foldl (fun _ _ h => State.countOcc_kept h ..) (State.gleanHears_kept h ..)) ..)

theorem State.issueAll_kept {still : Prop} {s0 s : State} (h : Kept still s0 s) (n : Nat) (codes : List Nat) : Kept still s0 (State.issueAll n codes s) := by
  induction n generalizing codes s with
  | zero => exact h
  | succ n ih =>
    cases codes with
    | nil => exact h
    | cons c cs => exact ih (State.issue_kept h c) _

theorem State.event_kept {still : Prop} {s0 s : State} (h : Kept still s0 s) (code : Nat) : Kept still s0 (State.event s code) := by
  unfold State.event
  repeat' first | (with_reducible first | assumption | intro _ | apply State.issueAll_kept) | dsimp only

theorem State.eventOncePerSecond_kept {still : Prop} {s0 s : State} (h : Kept still s0 s) (code : Nat) : Kept still s0 (State.eventOncePerSecond s code) := by
  unfold State.eventOncePerSecond
  try dsimp only
  repeat' first | (with_reducible first | assumption | intro _ | apply State.countOcc_kept | apply State.event_kept | apply State.gleanHears_kept | apply State.issueAll_kept | apply kept_ite | apply kept_foldl) | simp only [↓kept_mk_simp] | split | dsimp only

theorem State.statAdd_kept {still : Prop} {s0 s : State} (h : Kept still s0 s) (n : Nat → Nat) : Kept still s0 (State.statAdd s n) := by
  unfold State.statAdd
  repeat' first | (with_reducible first | assumption | intro _ | apply State.event_kept | apply State.statCount_kept | apply kept_ite) | split | dsimp only

theorem State.raiseEvent_kept {still : Prop} {s0 s : State} (h : Kept still s0 s) (blk : Nat) (bit : Nat) (code : Nat) : Kept still s0 (State.raiseEvent s blk bit code) := by
  unfold State.raiseEvent
  repeat' first | (with_reducible first | assumption | intro _ | apply State.event_kept | apply State.raise_kept) | dsimp only

theorem State.raiseLimited_kept {still : Prop} {s0 s : State} (h : Kept still s0 s) (blk : Nat) (bit : Nat) (code : Nat) : Kept still s0 (State.raiseLimited s blk bit code) := by
  unfold State.raiseLimited
  repeat' first | (with_reducible first | assumption | intro _ | apply State.eventOncePerSecond_kept | apply State.raise_kept) | dsimp only

theorem State.raiseOnce_kept {still : Prop} {s0 s : State} (h : Kept still s0 s) (blk : Nat) (bit : Nat) (code : Nat) : Kept still s0 (State.raiseOnce s blk bit code) := by
  unfold State.raiseOnce
  repeat' first | (with_reducible first | assumption | intro _ | apply State.eventOncePerSecond_kept | apply State.raiseLimited_kept | apply kept_ite) | split | dsimp only

theorem State.faultPin_kept {still : Prop} {s0 s : State} (h : Kept still s0 s) : Kept still s0 (State.faultPin s) := by
  unfold State.faultPin
  try dsimp only
  repeat' first | (with_reducible first | assumption | intro _ | apply State.raise_kept | apply State.set_kept | apply State.setB_kept | apply kept_ite) | split | dsimp only

theorem State.faultLog_kept {still : Prop} {s0 s : State} (h : Kept still s0 s) (code : Nat) (cls : Nat) (detail : Option Nat) : Kept still s0 (State.faultLog s code cls detail) := by
  unfold State.faultLog
  try dsimp only
  repeat' first | (with_reducible first | assumption | intro _ | apply State.bump_kept | apply State.faultPin_kept | apply State.freeWord_kept | apply State.raise_kept | apply State.raiseEvent_kept | apply State.set_kept | apply State.setB_kept | apply State.wr_kept) | simp only [↓kept_mk_simp] | refine pair_kept (by assumption) ?_ | split | dsimp only

theorem State.detected_kept {still : Prop} {s0 s : State} (h : Kept still s0 s) (code : Nat) (detail : Option Nat) : Kept still s0 (State.detected s code detail) := by
  unfold State.detected
  repeat' first | (with_reducible first | assumption | intro _ | apply State.event_kept | apply State.faultLog_kept) | dsimp only

theorem State.rwsDropped_kept {still : Prop} {s0 s : State} (h : Kept still s0 s) (p : Path) : Kept still s0 (State.rwsDropped s p) := by
  unfold State.rwsDropped
  try dsimp only
  repeat' first | (with_reducible first | assumption | intro _ | apply State.bump_kept) | simp only [↓kept_mk_simp] | refine pair_kept (by assumption) ?_ | split | dsimp only

theorem State.onSec_kept {still : Prop} {s0 s : State} (h : Kept still s0 s) (f : SecSt → SecSt) (hf : SecKept s.sec (f s.sec)) : Kept still s0 (State.onSec s f) :=
  ⟨h.queue, h.canon, ⟨fun k hk => hf.revoked k (h.otp.revoked k hk), fun i => Nat.le_trans (h.otp.counts i) (hf.counts i),
    h.otp.rows, h.otp.units⟩, h.words⟩

theorem State.onSession_kept {still : Prop} {s0 s : State} (h : Kept still s0 s) (p : Nat) (f : SessionSt → SessionSt) : Kept still s0 (State.onSession s p f) := by
  unfold State.onSession
  try dsimp only
  repeat' first | exact SecKept.mk (fun _ h => h) (fun _ => Nat.le_refl _) | (with_reducible first | assumption | intro _ | apply State.onSec_kept) | simp only [↓kept_mk_simp] | dsimp only

theorem State.respond_kept {still : Prop} {s0 s : State} (h : Kept still s0 s) (p : Nat) (bytes : List Byte) : Kept still s0 (State.respond s p bytes) := by
  unfold State.respond
  try dsimp only
  repeat' first | exact SecKept.mk (fun _ h => h) (fun _ => Nat.le_refl _) | (with_reducible first | assumption | intro _ | apply State.mccSend_kept | apply State.onSec_kept | apply State.send_kept | apply kept_ite) | simp only [↓kept_mk_simp] | split | dsimp only

theorem State.respondLast_kept {still : Prop} {s0 s : State} (h : Kept still s0 s) (p : Nat) (nak : Option Nat) : Kept still s0 (State.respondLast s p nak) := by
  unfold State.respondLast
  try dsimp only
  repeat' first | exact SecKept.mk (fun _ h => h) (fun _ => Nat.le_refl _) | (with_reducible first | assumption | intro _ | apply State.nak_kept | apply State.onSec_kept | apply State.respond_kept | apply State.set_kept) | simp only [↓kept_mk_simp] | refine pair_kept (by assumption) ?_ | split | dsimp only

theorem State.answer_kept {still : Prop} {s0 s : State} (h : Kept still s0 s) (p : Path) (nak : Option Nat) : Kept still s0 (State.answer s p nak) := by
  unfold State.answer
  try dsimp only
  repeat' first | (with_reducible first | assumption | intro _ | apply State.nak_kept | apply State.reply_kept | apply State.respondLast_kept | apply State.send_kept) | simp only [↓kept_mk_simp] | refine pair_kept (by assumption) ?_ | split | dsimp only

theorem State.sessionEnd_kept {still : Prop} {s0 s : State} (h : Kept still s0 s) (p : Nat) : Kept still s0 (State.sessionEnd s p) := by
  unfold State.sessionEnd
  repeat' first | (with_reducible first | assumption | intro _ | apply State.onSession_kept | apply State.raise_kept | apply State.wr_kept | apply kept_ite) | split | dsimp only

theorem State.violate_kept {still : Prop} {s0 s : State} (h : Kept still s0 s) (code : Nat) : Kept still s0 (State.violate s code) := by
  unfold State.violate
  repeat' first | (with_reducible first | assumption | intro _ | apply State.bump_kept | apply State.raiseLimited_kept | apply State.set_kept) | dsimp only

theorem State.deliver?_kept {still : Prop} {s0 s : State} (h : Kept still s0 s) (p : Nat) (bytes : List Byte) : Kept still s0 (State.deliver? s p bytes) := by
  unfold State.deliver?
  try dsimp only
  repeat' first | exact SecKept.mk (fun _ h => h) (fun _ => Nat.le_refl _) | (with_reducible first | assumption | intro _ | apply State.onSec_kept | apply State.reply_kept | apply State.respondLast_kept | apply State.send_kept | apply State.set_kept | apply State.violate_kept | apply kept_ite) | simp only [↓kept_mk_simp] | split | dsimp only

theorem State.refuseRight_kept {still : Prop} {s0 s : State} (h : Kept still s0 s) (p : Path) : Kept still s0 (State.refuseRight s p) := by
  unfold State.refuseRight
  try dsimp only
  repeat' first | (with_reducible first | assumption | intro _ | apply State.answer_kept | apply State.bump_kept | apply State.rwsDropped_kept | apply State.violate_kept) | simp only [↓kept_mk_simp] | refine pair_kept (by assumption) ?_ | split | dsimp only

theorem State.windowFault_kept {still : Prop} {s0 s : State} (h : Kept still s0 s) (count : Fld) : Kept still s0 (State.windowFault s count) := by
  unfold State.windowFault
  repeat' first | (with_reducible first | assumption | intro _ | apply State.bump_kept | apply State.raiseOnce_kept) | dsimp only

theorem State.windowAnswered_kept {still : Prop} {s0 s : State} (h : Kept still s0 s) : Kept still s0 (State.windowAnswered s) := by
  unfold State.windowAnswered
  try dsimp only
  repeat' first | (with_reducible first | assumption | intro _) | simp only [↓kept_mk_simp] | dsimp only

theorem State.setMark_kept {still : Prop} {s0 s : State} (h : Kept still s0 s) (u : Nat) (v : Bool) : Kept still s0 (State.setMark s u v) :=
  have hb := BistSt.store_kept s.bist ((s.bist.record.getD {}).mark u v)
  ⟨h.queue, h.canon, ⟨h.otp.revoked, h.otp.counts, fun q hq => hb.rows q (h.otp.rows q hq), fun x hx => hb.units x (h.otp.units x hx)⟩, h.words⟩

theorem State.unitFail_kept {still : Prop} {s0 s : State} (h : Kept still s0 s) (u : Nat) : Kept still s0 (State.unitFail s u) := by
  unfold State.unitFail
  repeat' first | (with_reducible first | assumption | intro _ | apply State.raiseEvent_kept | apply State.send_kept) | dsimp only

theorem State.markInService_kept {still : Prop} {s0 s : State} (h : Kept still s0 s) (u : Nat) : Kept still s0 (State.markInService s u) := by
  unfold State.markInService
  repeat' first | (with_reducible first | assumption | intro _ | apply State.setMark_kept | apply State.unitFail_kept) | dsimp only

theorem State.onPower_kept {still : Prop} {s0 s : State} (h : Kept still s0 s) (f : PowerSt → PowerSt) : Kept still s0 (State.onPower s f) := by
  unfold State.onPower
  try dsimp only
  repeat' first | (with_reducible first | assumption | intro _) | simp only [↓kept_mk_simp] | dsimp only

theorem State.avsServe_kept {still : Prop} {s0 s : State} (h : Kept still s0 s) (p : Nat) (before : Option AvsReq) : Kept still s0 (State.avsServe s p before) := by
  unfold State.avsServe
  try dsimp only
  repeat' first | (with_reducible first | assumption | intro _ | apply State.send_kept | apply kept_ite) | simp only [↓kept_mk_simp] | refine pair_kept (by assumption) ?_ | split | dsimp only

theorem State.avsAsk_kept {still : Prop} {s0 s : State} (h : Kept still s0 s) (p : Nat) (r : AvsReq) : Kept still s0 (State.avsAsk s p r) := by
  unfold State.avsAsk
  try dsimp only
  repeat' first | (with_reducible first | assumption | intro _ | apply State.avsServe_kept | apply State.onPower_kept) | simp only [↓kept_mk_simp] | dsimp only

theorem State.wakeSequence_kept {still : Prop} {s0 s : State} (h : Kept still s0 s) (d : Nat) : Kept still s0 (State.wakeSequence s d) := by
  unfold State.wakeSequence
  try dsimp only
  repeat' first | (with_reducible first | assumption | intro _ | apply State.avsAsk_kept | apply State.onPower_kept | apply kept_ite) | simp only [↓kept_mk_simp] | refine pair_kept (by assumption) ?_ | split | dsimp only

theorem State.wakeDomain_kept {still : Prop} {s0 s : State} (h : Kept still s0 s) (d : Nat) : Kept still s0 (State.wakeDomain s d) := by
  unfold State.wakeDomain
  try dsimp only
  repeat' first | (with_reducible first | assumption | intro _ | apply State.onPower_kept | apply State.set_kept | apply State.wakeSequence_kept | apply kept_ite) | simp only [↓kept_mk_simp] | split | dsimp only

theorem State.setVotes_kept {still : Prop} {s0 s : State} (h : Kept still s0 s) (d : Nat) (votes : Nat) : Kept still s0 (State.setVotes s d votes) := by
  unfold State.setVotes
  try dsimp only
  repeat' first | (with_reducible first | assumption | intro _ | apply State.onPower_kept | apply State.set_kept | apply State.wakeDomain_kept | apply kept_ite) | simp only [↓kept_mk_simp] | split | dsimp only

theorem State.vote_kept {still : Prop} {s0 s : State} (h : Kept still s0 s) (d : Nat) (bit : Nat) (v : Bool) : Kept still s0 (State.vote s d bit v) := by
  unfold State.vote
  try dsimp only
  repeat' first | (with_reducible first | assumption | intro _ | apply State.setVotes_kept | apply kept_ite) | split | dsimp only

theorem State.deliver_kept {still : Prop} {s0 s : State} (h : Kept still s0 s) (w : WakeItem) : Kept still s0 (State.deliver s w) := by
  unfold State.deliver
  try dsimp only
  repeat' first | (with_reducible first | assumption | intro _ | apply State.raise_kept | apply State.raiseEvent_kept) | simp only [↓kept_mk_simp] | refine pair_kept (by assumption) ?_ | split | dsimp only

theorem State.wakeSource_kept {still : Prop} {s0 s : State} (h : Kept still s0 s) (k : Nat) (act : Deferred) : Kept still s0 (State.wakeSource s k act) := by
  unfold State.wakeSource
  try dsimp only
  repeat' first | (with_reducible first | assumption | intro _ | apply State.bump_kept | apply State.deliver_kept | apply State.onPower_kept | apply State.setB_kept | apply State.vote_kept | apply kept_ite) | simp only [↓kept_mk_simp] | split | dsimp only

theorem State.onCal_kept {still : Prop} {s0 s : State} (h : Kept still s0 s) (f : CalSt → CalSt) : Kept still s0 (State.onCal s f) := by
  unfold State.onCal
  try dsimp only
  repeat' first | (with_reducible first | assumption | intro _) | simp only [↓kept_mk_simp] | dsimp only

theorem State.calRaise_kept {still : Prop} {s0 s : State} (h : Kept still s0 s) (bit : Nat) : Kept still s0 (State.calRaise s bit) := by
  unfold State.calRaise
  repeat' first | (with_reducible first | assumption | intro _ | apply State.raise_kept | apply State.raiseEvent_kept | apply kept_ite) | split | dsimp only

theorem State.calSettle_kept {still : Prop} {s0 s : State} (h : Kept still s0 s) (slot : Nat) : Kept still s0 (State.calSettle s slot) := by
  unfold State.calSettle
  try dsimp only
  repeat' first | (with_reducible first | assumption | intro _ | apply State.calRaise_kept | apply State.onCal_kept | apply State.set_kept | apply kept_ite) | simp only [↓kept_mk_simp] | split | dsimp only

theorem State.memPut_kept {s0 s : State} (h : Kept False s0 s) (r w : Nat) (x : MemWord) : Kept False s0 (State.memPut s r w x) :=
  kept_stores h rfl id (Store.wf_write _ _ _ _) False.elim rfl rfl rfl rfl

theorem State.corrected_kept {still : Prop} {s0 s : State} (h : Kept still s0 s) (r : Nat) (w : Nat) (y : BitVec 8) : Kept still s0 (State.corrected s r w y) := by
  unfold State.corrected
  try dsimp only
  repeat' first | (with_reducible first | assumption | intro _ | apply State.bump_kept | apply State.faultLog_kept | apply State.raiseEvent_kept | apply State.set_kept | apply kept_ite) | split | dsimp only

theorem State.correction_kept {still : Prop} {s0 s : State} (h : Kept still s0 s) (x : MemWord) : Kept still s0 (State.correction s x).2 := by
  unfold State.correction
  try dsimp only
  repeat' first | (with_reducible first | assumption | intro _ | apply State.freeWord_kept | apply kept_ite) | simp only [↓kept_mk_simp] | refine pair_kept (by assumption) ?_ | split | dsimp only

theorem State.poisoned_kept {s0 s : State} (h : Kept False s0 s) (r : Nat) (w : Nat) (d : BitVec 64) : Kept False s0 (State.poisoned s r w d) := by
  unfold State.poisoned
  try dsimp only
  repeat' first | (with_reducible first | assumption | intro _ | apply State.bump_kept | apply State.memPut_kept | apply State.set_kept) | dsimp only

theorem State.memFetch_kept {s0 s : State} (h : Kept False s0 s) (r : Nat) (w : Nat) (upset : MemWord) : Kept False s0 (State.memFetch s r w upset).2 := by
  unfold State.memFetch
  try dsimp only
  repeat' first | (with_reducible first | assumption | intro _ | apply State.corrected_kept | apply State.correction_kept | apply State.detected_kept | apply State.memPut_kept | apply State.poisoned_kept | apply State.raise_kept | apply kept_ite) | refine pair_kept (by assumption) ?_ | split | dsimp only

theorem State.consumed_kept {s0 s : State} (h : Kept False s0 s) (r : Nat) (w : Nat) (reader : MemReader) : Kept False s0 (State.consumed s r w reader) := by
  unfold State.consumed
  try dsimp only
  repeat' first | exact (fun _ => Or.inl rfl) | exact (fun _ => Or.inr rfl) | (with_reducible first | assumption | intro _ | apply State.detected_kept | apply State.onMem_kept | apply State.send_kept | apply kept_ite) | simp only [↓kept_mk_simp] | refine pair_kept (by assumption) ?_ | split | dsimp only

theorem State.entriesRemade_kept {s0 s : State} (h : Kept False s0 s) : Kept False s0 (State.entriesRemade s) := by
  unfold State.entriesRemade
  try dsimp only
  repeat' first | exact (fun _ => Or.inl rfl) | exact (fun _ => Or.inr rfl) | (with_reducible first | assumption | intro _ | apply State.freeWord_kept | apply State.memPut_kept | apply State.onMem_kept | apply kept_foldl) | simp only [↓kept_mk_simp] | refine pair_kept (by assumption) ?_ | split | dsimp only

theorem State.memGet_kept {s0 s : State} (h : Kept False s0 s) (r : Nat) (w : Nat) (upset : MemWord) (reader : MemReader) : Kept False s0 (State.memGet s r w upset reader) := by
  unfold State.memGet
  try dsimp only
  repeat' first | exact (fun _ => Or.inl rfl) | exact (fun _ => Or.inr rfl) | (with_reducible first | assumption | intro _ | apply State.consumed_kept | apply State.memFetch_kept | apply State.onMem_kept | apply kept_ite) | simp only [↓kept_mk_simp] | refine pair_kept (by assumption) ?_ | split | dsimp only

theorem State.memStore_kept {s0 s : State} (h : Kept False s0 s) (r : Nat) (w : Nat) (x : MemWord) : Kept False s0 (State.memStore s r w x) := by
  unfold State.memStore
  try dsimp only
  repeat' first | (with_reducible first | assumption | intro _ | apply State.memPut_kept | apply State.raise_kept | apply State.set_kept | apply kept_ite) | split | dsimp only

theorem State.memPutFull_kept {s0 s : State} (h : Kept False s0 s) (r : Nat) (w : Nat) (d : BitVec 64) : Kept False s0 (State.memPutFull s r w d) := by
  unfold State.memPutFull
  repeat' first | (with_reducible first | assumption | intro _ | apply State.memStore_kept) | dsimp only

theorem State.memPutSome_kept {s0 s : State} (h : Kept False s0 s) (r : Nat) (w : Nat) (bytes : Nat) (d : BitVec 64) (upset : MemWord) : Kept False s0 (State.memPutSome s r w bytes d upset) := by
  unfold State.memPutSome
  try dsimp only
  repeat' first | (with_reducible first | assumption | intro _ | apply State.bump_kept | apply State.corrected_kept | apply State.correction_kept | apply State.detected_kept | apply State.memStore_kept | apply State.poisoned_kept | apply State.raise_kept | apply kept_ite) | refine pair_kept (by assumption) ?_ | split | dsimp only

theorem State.memWait_kept {s0 s : State} (h : Kept False s0 s) (x : MemAccess) : Kept False s0 (State.memWait s x) := by
  unfold State.memWait
  try dsimp only
  repeat' first | exact (fun _ => Or.inl rfl) | exact (fun _ => Or.inr rfl) | (with_reducible first | assumption | intro _ | apply State.onMem_kept) | simp only [↓kept_mk_simp] | dsimp only

theorem State.memAccess_kept {s0 s : State} (h : Kept False s0 s) (a : MemAccess) : Kept False s0 (State.memAccess s a) := by
  cases a
  · exact State.memGet_kept h ..
  · exact State.memPutSome_kept h ..
  · exact State.memPutFull_kept h ..

theorem State.memResume_kept {s0 s : State} (h : Kept False s0 s) : Kept False s0 (State.memResume s) := by
  unfold State.memResume
  try dsimp only
  repeat' first | exact (fun _ => Or.inl rfl) | exact (fun _ => Or.inr rfl) | (with_reducible first | assumption | intro _ | apply State.go_kept | apply State.memAccess_kept | apply State.onMem_kept | apply kept_foldl) | simp only [↓kept_mk_simp] | refine pair_kept (by assumption) ?_ | split | dsimp only

theorem State.lapEnd_kept {still : Prop} {s0 s : State} (h : Kept still s0 s) (ms : Nat) : Kept still s0 (State.lapEnd s ms) := by
  have hm : Kept still s0 (s.onMem fun m => { m with walked := [], lapMs := 0 }) := kept_leaf h rfl rfl rfl rfl rfl rfl rfl
  unfold State.lapEnd
  refine kept_ite ?_ h
  dsimp only
  have hs := State.setSat_kept (State.wrapAdd_kept hm F.MEM_HARROW_LAP.LAPS 1) F.MEM_HARROW_LAP.LAST_LAP ms
  exact kept_ite (State.raiseEvent_kept hs ..) hs

theorem State.secRaise_kept {still : Prop} {s0 s : State} (h : Kept still s0 s) (b : Nat) : Kept still s0 (State.secRaise s b) := by
  unfold State.secRaise
  repeat' first | (with_reducible first | assumption | intro _ | apply State.raise_kept | apply State.raiseEvent_kept | apply State.raiseLimited_kept | apply kept_ite) | split | dsimp only

theorem State.cpuRaise_kept {still : Prop} {s0 s : State} (h : Kept still s0 s) (b : Nat) : Kept still s0 (State.cpuRaise s b) := by
  unfold State.cpuRaise
  repeat' first | (with_reducible first | assumption | intro _ | apply State.raiseEvent_kept | apply State.raiseLimited_kept | apply kept_ite) | split | dsimp only

theorem State.reply_kept {still : Prop} {s0 s : State} (h : Kept still s0 s) (e : Envelope) (cls : Nat) (typ : Nat) (nak : Option Nat) (body : List Byte) : Kept still s0 (State.reply s e cls typ nak body) := by
  unfold State.reply
  try dsimp only
  repeat' first | exact SecKept.mk (fun _ h => h) (fun _ => Nat.le_refl _) | (with_reducible first | assumption | intro _ | apply State.nak_kept | apply State.onSec_kept | apply State.respond_kept | apply State.send_kept | apply State.set_kept) | simp only [↓kept_mk_simp] | dsimp only

theorem State.nak_kept {still : Prop} {s0 s : State} (h : Kept still s0 s) (e : Envelope) (cls : Nat) (typ : Nat) (code : Nat) : Kept still s0 (State.nak s e cls typ code) := by
  unfold State.nak
  repeat' first | (with_reducible first | assumption | intro _ | apply State.reply_kept) | dsimp only

theorem State.roleNak_kept {still : Prop} {s0 s : State} (h : Kept still s0 s) (e : Envelope) (cls : Nat) (typ : Nat) : Kept still s0 (State.roleNak s e cls typ) := by
  unfold State.roleNak
  repeat' first | (with_reducible first | assumption | intro _ | apply State.bump_kept | apply State.nak_kept | apply State.violate_kept) | dsimp only

theorem State.done_kept {still : Prop} {s0 s : State} (h : Kept still s0 s) (e : Envelope) (cls : Nat) (typ : Nat) : Kept still s0 (State.done s e cls typ) := by
  unfold State.done
  repeat' first | (with_reducible first | assumption | intro _ | apply State.reply_kept) | dsimp only

theorem State.versionNak_kept {still : Prop} {s0 s : State} (h : Kept still s0 s) (e : Envelope) (cls : Nat) (typ : Nat) : Kept still s0 (State.versionNak s e cls typ) := by
  unfold State.versionNak
  try dsimp only
  repeat' first | (with_reducible first | assumption | intro _ | apply State.nak_kept | apply State.violate_kept) | simp only [↓kept_mk_simp] | dsimp only

theorem State.macBad_kept {still : Prop} {s0 s : State} (h : Kept still s0 s) (e : Envelope) (cls : Nat) (typ : Nat) : Kept still s0 (State.macBad s e cls typ) := by
  unfold State.macBad
  try dsimp only
  repeat' first | (with_reducible first | assumption | intro _ | apply State.bump_kept | apply State.nak_kept | apply State.onSession_kept | apply State.sessionEnd_kept | apply State.violate_kept | apply kept_ite) | simp only [↓kept_mk_simp] | split | dsimp only

theorem State.sessionUsed_kept {still : Prop} {s0 s : State} (h : Kept still s0 s) (e : Envelope) {k : State → State} (hk : ∀ s, Kept still s0 s → Kept still s0 (k s)) : Kept still s0 (State.sessionUsed s e k) := by
  unfold State.sessionUsed
  try dsimp only
  repeat' first | (with_reducible first | assumption | intro _ | apply hk | apply State.sessionEnd_kept | apply State.set_kept | apply kept_ite) | split | dsimp only

theorem State.wmp_kept {still : Prop} {s0 s : State} (h : Kept still s0 s) (e : Envelope) (cls : Nat) (typ : Nat) (body : List Byte) (least : Nat) {k : State → State} (hk : ∀ s, Kept still s0 s → Kept still s0 (k s)) (hedgeImage : Bool) : Kept still s0 (State.wmp s e cls typ body least k hedgeImage) := by
  unfold State.wmp
  try dsimp only
  repeat' first | (with_reducible first | assumption | intro _ | apply hk | apply State.bump_kept | apply State.keyIn_kept | apply State.macBad_kept | apply State.nak_kept | apply State.onSession_kept | apply State.roleNak_kept | apply State.sessionUsed_kept | apply State.versionNak_kept | apply State.violate_kept | apply kept_ite) | simp only [↓kept_mk_simp] | split | dsimp only

theorem State.latch_kept {still : Prop} {s0 s : State} (h : Kept still s0 s) (p : Path) (a : Nat) (w : Word) : Kept still s0 (State.latch s p a w) := by
  unfold State.latch
  try dsimp only
  repeat' first | (with_reducible first | assumption | intro _) | simp only [↓kept_mk_simp] | dsimp only

theorem State.stage_kept {still : Prop} {s0 s : State} (h : Kept still s0 s) (p : Path) (a : Nat) (w : Word) : Kept still s0 (State.stage s p a w) := by
  unfold State.stage
  try dsimp only
  repeat' first | (with_reducible first | assumption | intro _) | simp only [↓kept_mk_simp] | dsimp only

theorem State.downAccess_kept {still : Prop} {s0 s : State} (h : Kept still s0 s) (p : Path) (a : Nat) (write : Bool) : Kept still s0 (State.downAccess s p a write) := by
  unfold State.downAccess
  try dsimp only
  repeat' first | (with_reducible first | assumption | intro _ | apply State.bump_kept | apply State.eventOncePerSecond_kept | apply State.raise_kept | apply State.set_kept | apply State.setB_kept) | dsimp only

theorem State.downRead_kept {still : Prop} {s0 s : State} (h : Kept still s0 s) (p : Path) (a : Nat) : Kept still s0 (State.downRead s p a) := by
  unfold State.downRead
  try dsimp only
  repeat' first | (with_reducible first | assumption | intro _ | apply State.downAccess_kept | apply State.latch_kept | apply kept_ite | apply kept_foldl) | simp only [↓kept_mk_simp] | refine pair_kept (by assumption) ?_ | split | dsimp only

theorem State.unanswered_kept {still : Prop} {s0 s : State} (h : Kept still s0 s) (p : Path) : Kept still s0 (State.unanswered s p) := by
  unfold State.unanswered
  repeat' first | (with_reducible first | assumption | intro _ | apply State.answer_kept | apply kept_ite) | split | dsimp only

theorem State.rwWrite_kept {still : Prop} {s0 s : State} (h : Kept still s0 s) (p : Path) (a : Nat) {k : State → State} (hk : ∀ s, Kept still s0 s → Kept still s0 (k s)) : Kept still s0 (State.rwWrite s p a k) := by
  unfold State.rwWrite
  repeat' first | (with_reducible first | assumption | intro _ | apply hk | apply State.downAccess_kept | apply State.refuseRight_kept | apply State.unanswered_kept | apply kept_ite) | split | dsimp only

theorem State.rwsWrite_kept {still : Prop} {s0 s : State} (h : Kept still s0 s) (p : Path) (a : Nat) (least : Nat) {k : State → State} (hk : ∀ s, Kept still s0 s → Kept still s0 (k s)) : Kept still s0 (State.rwsWrite s p a least k) := by
  unfold State.rwsWrite
  repeat' first | (with_reducible first | assumption | intro _ | apply hk | apply State.downAccess_kept | apply State.refuseRight_kept | apply State.rwsDropped_kept | apply State.unanswered_kept | apply kept_ite) | split | dsimp only

theorem State.toBuf_kept {still : Prop} {s0 s : State} (h : Kept still s0 s) (st : Nat) : Kept still s0 (State.toBuf s st) := by
  unfold State.toBuf
  repeat' first | (with_reducible first | assumption | intro _ | apply State.set_kept) | dsimp only

theorem State.onPlan_kept {still : Prop} {s0 s : State} (h : Kept still s0 s) (f : PlanSt → PlanSt) : Kept still s0 (State.onPlan s f) := by
  unfold State.onPlan
  try dsimp only
  repeat' first | (with_reducible first | assumption | intro _) | simp only [↓kept_mk_simp] | dsimp only

theorem State.planAnswer_kept {still : Prop} {s0 s : State} (h : Kept still s0 s) (x : Sender) (nak : Option Nat) : Kept still s0 (State.planAnswer s x nak) := by
  unfold State.planAnswer
  try dsimp only
  repeat' first | (with_reducible first | assumption | intro _ | apply State.answer_kept | apply State.nak_kept | apply State.reply_kept | apply State.wmp_kept) | simp only [↓kept_mk_simp] | refine pair_kept (by assumption) ?_ | split | dsimp only

theorem State.planIgnored_kept {still : Prop} {s0 s : State} (h : Kept still s0 s) (x : Sender) : Kept still s0 (State.planIgnored s x) := by
  unfold State.planIgnored
  repeat' first | (with_reducible first | assumption | intro _ | apply State.bump_kept | apply State.planAnswer_kept) | dsimp only

theorem State.planAccepted_kept {still : Prop} {s0 s : State} (h : Kept still s0 s) (x : Sender) (cmd : Nat) : Kept still s0 (State.planAccepted s x cmd) := by
  unfold State.planAccepted
  repeat' first | (with_reducible first | assumption | intro _ | apply State.planAnswer_kept | apply State.set_kept) | dsimp only

theorem State.planCommand_kept {still : Prop} {s0 s : State} (h : Kept still s0 s) (x : Sender) (word : Nat) {k : State → State} (hk : ∀ s, Kept still s0 s → Kept still s0 (k s)) : Kept still s0 (State.planCommand s x word k) := by
  unfold State.planCommand
  try dsimp only
  repeat' first | (with_reducible first | assumption | intro _ | apply hk | apply State.nak_kept | apply State.rwsWrite_kept | apply State.wmp_kept | apply kept_ite) | simp only [↓kept_mk_simp] | refine pair_kept (by assumption) ?_ | split | dsimp only

theorem State.rejectPlan_kept {still : Prop} {s0 s : State} (h : Kept still s0 s) (st : Nat) (reason : Nat) (record : Nat) : Kept still s0 (State.rejectPlan s st reason record) := by
  unfold State.rejectPlan
  repeat' first | (with_reducible first | assumption | intro _ | apply State.raiseEvent_kept | apply State.set_kept | apply State.toBuf_kept) | dsimp only

theorem State.startLoad_kept {still : Prop} {s0 s : State} (h : Kept still s0 s) (k : LoadKind) (expected : Nat) : Kept still s0 (State.startLoad s k expected) := by
  unfold State.startLoad
  try dsimp only
  repeat' first | (with_reducible first | assumption | intro _ | apply State.onPlan_kept | apply State.toBuf_kept) | simp only [↓kept_mk_simp] | dsimp only

theorem State.loaded_kept {still : Prop} {s0 s : State} (h : Kept still s0 s) : Kept still s0 (State.loaded s) := by
  unfold State.loaded
  try dsimp only
  repeat' first | (with_reducible first | assumption | intro _ | apply State.raise_kept | apply State.set_kept | apply State.toBuf_kept) | dsimp only

theorem State.sourceError_kept {still : Prop} {s0 s : State} (h : Kept still s0 s) : Kept still s0 (State.sourceError s) := by
  unfold State.sourceError
  try dsimp only
  repeat' first | (with_reducible first | assumption | intro _ | apply State.onPlan_kept | apply State.rejectPlan_kept) | simp only [↓kept_mk_simp] | dsimp only

theorem State.loadWindow_kept {still : Prop} {s0 s : State} (h : Kept still s0 s) : Kept still s0 (State.loadWindow s) := by
  unfold State.loadWindow
  try dsimp only
  repeat' first | (with_reducible first | assumption | intro _ | apply State.sourceError_kept | apply State.startLoad_kept | apply State.windowFault_kept | apply kept_ite) | split | dsimp only

theorem State.loadSlot_kept {still : Prop} {s0 s : State} (h : Kept still s0 s) (slot : Nat) : Kept still s0 (State.loadSlot s slot) := by
  unfold State.loadSlot
  try dsimp only
  repeat' first | (with_reducible first | assumption | intro _ | apply State.onPlan_kept | apply State.startLoad_kept) | simp only [↓kept_mk_simp] | dsimp only

theorem State.chunkWrite_kept {still : Prop} {s0 s : State} (h : Kept still s0 s) (off : Nat) (data : List Byte) : Kept still s0 (State.chunkWrite s off data) := by
  unfold State.chunkWrite
  try dsimp only
  repeat' first | (with_reducible first | assumption | intro _ | apply State.loaded_kept | apply State.onPlan_kept | apply kept_ite) | simp only [↓kept_mk_simp] | refine pair_kept (by assumption) ?_ | split | dsimp only

theorem State.planChunk_kept {still : Prop} {s0 s : State} (h : Kept still s0 s) (off : Nat) (data : List Byte) : Kept still s0 (State.planChunk s off data).1 := by
  unfold State.planChunk
  repeat' first | (with_reducible first | assumption | intro _ | apply State.bump_kept | apply State.chunkWrite_kept | apply State.startLoad_kept | apply State.violate_kept | apply kept_ite) | split | dsimp only

theorem State.startValidation_kept {still : Prop} {s0 s : State} (h : Kept still s0 s) (after : PlanAfter) : Kept still s0 (State.startValidation s after) := by
  unfold State.startValidation
  try dsimp only
  repeat' first | (with_reducible first | assumption | intro _ | apply State.onPlan_kept | apply State.toBuf_kept) | simp only [↓kept_mk_simp] | dsimp only

theorem State.storeSlot_kept {still : Prop} {s0 s : State} (h : Kept still s0 s) (slot : Nat) : Kept still s0 (State.storeSlot s slot) := by
  unfold State.storeSlot
  try dsimp only
  repeat' first | (with_reducible first | assumption | intro _ | apply State.onPlan_kept | apply State.set_kept | apply State.toBuf_kept) | simp only [↓kept_mk_simp] | dsimp only

theorem State.toH_kept {still : Prop} {s0 s : State} (h : Kept still s0 s) (h : Nat) : Kept still s0 (State.toH s h) := by
  unfold State.toH
  repeat' first | (with_reducible first | assumption | intro _ | apply State.set_kept) | dsimp only

theorem State.planVotes_kept {still : Prop} {s0 s : State} (h : Kept still s0 s) (ds : List Nat) (v : Bool) : Kept still s0 (State.planVotes s ds v) := by
  unfold State.planVotes
  repeat' first | (with_reducible first | assumption | intro _ | apply State.vote_kept | apply kept_foldl) | dsimp only

theorem State.releaseBuild_kept {still : Prop} {s0 s : State} (h : Kept still s0 s) : Kept still s0 (State.releaseBuild s) := by
  unfold State.releaseBuild
  try dsimp only
  repeat' first | (with_reducible first | assumption | intro _ | apply State.onPlan_kept | apply State.planVotes_kept | apply State.set_kept | apply State.toH_kept | apply kept_ite) | simp only [↓kept_mk_simp] | refine pair_kept (by assumption) ?_ | split | dsimp only

theorem State.abortSwitch_kept {still : Prop} {s0 s : State} (h : Kept still s0 s) (reason : Nat) : Kept still s0 (State.abortSwitch s reason) := by
  unfold State.abortSwitch
  repeat' first | (with_reducible first | assumption | intro _ | apply State.raiseEvent_kept | apply State.releaseBuild_kept | apply State.set_kept) | dsimp only

theorem State.planCancel_kept {still : Prop} {s0 s : State} (h : Kept still s0 s) (x : Sender) : Kept still s0 (State.planCancel s x) := by
  unfold State.planCancel
  repeat' first | (with_reducible first | assumption | intro _ | apply State.planAccepted_kept | apply State.planIgnored_kept | apply State.raise_kept | apply State.releaseBuild_kept | apply kept_ite) | split | dsimp only

theorem execLoadWindow_kept {still : Prop} {s0 s : State} (h : Kept still s0 s) (sender : Sender) : KeptO still s0 (execLoadWindow sender s) := by
  unfold execLoadWindow
  repeat' first | (with_reducible first | assumption | intro _ | apply State.loadWindow_kept | apply State.planAccepted_kept | apply State.planCommand_kept | apply State.planIgnored_kept | apply KeptO.next | apply kept_iteO | apply kept_ite) | split | dsimp only

theorem execLoadSlot_kept {still : Prop} {s0 s : State} (h : Kept still s0 s) (sender : Sender) (slot : Fin 4) : KeptO still s0 (execLoadSlot sender slot s) := by
  unfold execLoadSlot
  repeat' first | (with_reducible first | assumption | intro _ | apply State.loadSlot_kept | apply State.planAccepted_kept | apply State.planCommand_kept | apply State.planIgnored_kept | apply State.set_kept | apply KeptO.next | apply kept_iteO | apply kept_ite) | split | dsimp only

theorem execValidate_kept {still : Prop} {s0 s : State} (h : Kept still s0 s) (sender : Sender) : KeptO still s0 (execValidate sender s) := by
  unfold execValidate
  repeat' first | (with_reducible first | assumption | intro _ | apply State.planAccepted_kept | apply State.planCommand_kept | apply State.planIgnored_kept | apply State.startValidation_kept | apply KeptO.next | apply kept_iteO | apply kept_ite) | split | dsimp only

theorem execCancel_kept {still : Prop} {s0 s : State} (h : Kept still s0 s) (sender : Sender) : KeptO still s0 (execCancel sender s) := by
  unfold execCancel
  repeat' first | (with_reducible first | assumption | intro _ | apply State.planCancel_kept | apply State.planCommand_kept | apply KeptO.next) | dsimp only

theorem execStoreSlot_kept {still : Prop} {s0 s : State} (h : Kept still s0 s) (sender : Sender) (slot : Fin 4) : KeptO still s0 (execStoreSlot sender slot s) := by
  unfold execStoreSlot
  repeat' first | (with_reducible first | assumption | intro _ | apply State.planAccepted_kept | apply State.planCommand_kept | apply State.planIgnored_kept | apply State.set_kept | apply State.storeSlot_kept | apply KeptO.next | apply kept_iteO | apply kept_ite) | split | dsimp only

theorem execLoadDone_kept {still : Prop} {s0 s : State} (h : Kept still s0 s) (data : List Byte) : KeptO still s0 (execLoadDone data s) := by
  unfold execLoadDone
  try dsimp only
  repeat' first | (with_reducible first | assumption | intro _ | apply State.loaded_kept | apply State.onPlan_kept | apply State.windowAnswered_kept | apply KeptO.next | apply kept_iteO | apply kept_ite) | simp only [↓kept_mk_simp] | refine pair_kept (by assumption) ?_ | split | dsimp only

theorem execLoadSourceError_kept {still : Prop} {s0 s : State} (h : Kept still s0 s) : KeptO still s0 (execLoadSourceError s) := by
  unfold execLoadSourceError
  repeat' first | (with_reducible first | assumption | intro _ | apply State.sourceError_kept | apply KeptO.next | apply kept_iteO | apply kept_ite) | split | dsimp only

theorem execStoreSlotDone_kept {still : Prop} {s0 s : State} (h : Kept still s0 s) (same : Bool) : KeptO still s0 (execStoreSlotDone same s) := by
  unfold execStoreSlotDone
  try dsimp only
  repeat' first | (with_reducible first | assumption | intro _ | apply State.onPlan_kept | apply State.set_kept | apply State.toBuf_kept | apply KeptO.next | apply kept_iteO | apply kept_ite) | simp only [↓kept_mk_simp] | split | dsimp only

theorem execBuildTimeout_kept {still : Prop} {s0 s : State} (h : Kept still s0 s) : KeptO still s0 (execBuildTimeout s) := by
  unfold execBuildTimeout
  repeat' first | (with_reducible first | assumption | intro _ | apply State.abortSwitch_kept | apply KeptO.next | apply kept_iteO | apply kept_ite) | split | dsimp only

theorem State.buildFault_kept {still : Prop} {s0 s : State} (h : Kept still s0 s) (furrow : Nat) : Kept still s0 (State.buildFault s furrow) := by
  unfold State.buildFault
  repeat' first | (with_reducible first | assumption | intro _ | apply State.abortSwitch_kept | apply kept_ite) | split | dsimp only

theorem execBuildFault_kept {still : Prop} {s0 s : State} (h : Kept still s0 s) (furrow : Fin 104) : KeptO still s0 (execBuildFault furrow s) := by
  unfold execBuildFault
  repeat' first | (with_reducible first | assumption | intro _ | apply State.buildFault_kept | apply KeptO.next) | dsimp only

theorem execSwitchAbortDeadline_kept {still : Prop} {s0 s : State} (h : Kept still s0 s) : KeptO still s0 (execSwitchAbortDeadline s) := by
  unfold execSwitchAbortDeadline
  repeat' first | (with_reducible first | assumption | intro _ | apply State.abortSwitch_kept | apply KeptO.next | apply kept_iteO | apply kept_ite) | split | dsimp only

theorem State.onLine_kept {still : Prop} {s0 s : State} (h : Kept still s0 s) (c : Carrier) (f : LineSt → LineSt) : Kept still s0 (State.onLine s c f) := by
  unfold State.onLine
  try dsimp only
  repeat' first | (with_reducible first | assumption | intro _) | simp only [↓kept_mk_simp] | dsimp only

theorem State.onLink_kept {still : Prop} {s0 s : State} (h : Kept still s0 s) (c : Carrier) (f : LinkSt → LinkSt) : Kept still s0 (State.onLink s c f) := by
  unfold State.onLink
  try dsimp only
  repeat' first | (with_reducible first | assumption | intro _) | simp only [↓kept_mk_simp] | dsimp only

theorem State.frameRaise_kept {still : Prop} {s0 s : State} (h : Kept still s0 s) (c : Carrier) (bit : Nat) : Kept still s0 (State.frameRaise s c bit) := by
  unfold State.frameRaise
  repeat' first | (with_reducible first | assumption | intro _ | apply State.raiseEvent_kept) | dsimp only

theorem State.mgrRaise_kept {still : Prop} {s0 s : State} (h : Kept still s0 s) (c : Carrier) (n : Nat) : Kept still s0 (State.mgrRaise s c n) := by
  unfold State.mgrRaise
  repeat' first | (with_reducible first | assumption | intro _ | apply State.raiseEvent_kept) | dsimp only

theorem State.fecRaise_kept {still : Prop} {s0 s : State} (h : Kept still s0 s) (c : Carrier) (bit : Nat) : Kept still s0 (State.fecRaise s c bit) := by
  unfold State.fecRaise
  repeat' first | (with_reducible first | assumption | intro _ | apply State.raiseEvent_kept) | dsimp only

theorem State.mfLost_kept {still : Prop} {s0 s : State} (h : Kept still s0 s) (c : Carrier) : Kept still s0 (State.mfLost s c) := by
  unfold State.mfLost
  try dsimp only
  repeat' first | (with_reducible first | assumption | intro _ | apply State.frameRaise_kept | apply State.onLine_kept | apply State.set_kept | apply kept_ite) | simp only [↓kept_mk_simp] | split | dsimp only

theorem State.evalAbandon_kept {still : Prop} {s0 s : State} (h : Kept still s0 s) (c : Carrier) : Kept still s0 (State.evalAbandon s c) := by
  unfold State.evalAbandon
  try dsimp only
  repeat' first | (with_reducible first | assumption | intro _ | apply State.set_kept | apply kept_ite) | split | dsimp only

theorem State.alignLost_kept {still : Prop} {s0 s : State} (h : Kept still s0 s) (c : Carrier) : Kept still s0 (State.alignLost s c) := by
  unfold State.alignLost
  try dsimp only
  repeat' first | (with_reducible first | assumption | intro _ | apply State.evalAbandon_kept | apply State.frameRaise_kept | apply State.mfLost_kept | apply State.onLine_kept | apply State.set_kept | apply kept_ite) | simp only [↓kept_mk_simp] | split | dsimp only

theorem State.managed_kept {still : Prop} {s0 s : State} (h : Kept still s0 s) {k : State → State} (hk : ∀ s, Kept still s0 s → Kept still s0 (k s)) : Kept still s0 (State.managed s k) := by
  unfold State.managed
  repeat' first | (with_reducible first | assumption | intro _ | apply hk | apply kept_ite) | split | dsimp only

theorem State.linkViolation_kept {still : Prop} {s0 s : State} (h : Kept still s0 s) (c : Carrier) (code : Nat) : Kept still s0 (State.linkViolation s c code) := by
  unfold State.linkViolation
  repeat' first | (with_reducible first | assumption | intro _ | apply State.bump_kept | apply State.managed_kept | apply State.mgrRaise_kept | apply State.set_kept) | dsimp only

theorem State.ploughOnly_kept {still : Prop} {s0 s : State} (h : Kept still s0 s) (p : Path) (c : Carrier) {k : State → State} (hk : ∀ s, Kept still s0 s → Kept still s0 (k s)) : Kept still s0 (State.ploughOnly s p c k) := by
  unfold State.ploughOnly
  try dsimp only
  repeat' first | (with_reducible first | assumption | intro _ | apply hk | apply State.bump_kept) | simp only [↓kept_mk_simp] | refine pair_kept (by assumption) ?_ | split | dsimp only

theorem State.onTime_kept {still : Prop} {s0 s : State} (h : Kept still s0 s) (f : TimeSt → TimeSt) : Kept still s0 (State.onTime s f) := by
  unfold State.onTime
  try dsimp only
  repeat' first | (with_reducible first | assumption | intro _) | simp only [↓kept_mk_simp] | dsimp only

theorem State.timeRaise_kept {still : Prop} {s0 s : State} (h : Kept still s0 s) (bit : Nat) (code : Nat) : Kept still s0 (State.timeRaise s bit code) := by
  unfold State.timeRaise
  repeat' first | (with_reducible first | assumption | intro _ | apply State.raiseEvent_kept) | dsimp only

theorem State.timeShow_kept {still : Prop} {s0 s : State} (h : Kept still s0 s) : Kept still s0 (State.timeShow s) := by
  unfold State.timeShow
  try dsimp only
  repeat' first | (with_reducible first | assumption | intro _ | apply State.setB_kept | apply State.setS_kept) | dsimp only

theorem State.onPulse_kept {still : Prop} {s0 s : State} (h : Kept still s0 s) (n : Nat) (f : PulseSt → PulseSt) : Kept still s0 (State.onPulse s n f) := by
  unfold State.onPulse
  try dsimp only
  repeat' first | (with_reducible first | assumption | intro _ | apply State.onTime_kept) | simp only [↓kept_mk_simp] | dsimp only

theorem State.pulseShow_kept {still : Prop} {s0 s : State} (h : Kept still s0 s) (n : Nat) {f : State → State} (hf : ∀ s, Kept still s0 s → Kept still s0 (f s)) : Kept still s0 (State.pulseShow s n f) := by
  unfold State.pulseShow
  repeat' first | (with_reducible first | assumption | intro _ | apply hf | apply State.send_kept | apply kept_ite) | split | dsimp only

theorem State.issueEdge_kept {still : Prop} {s0 s : State} (h : Kept still s0 s) (n : Nat) : Kept still s0 (State.issueEdge s n) := by
  unfold State.issueEdge
  try dsimp only
  repeat' first | (with_reducible first | assumption | intro _ | apply State.onPulse_kept | apply State.pulseShow_kept | apply State.set_kept | apply kept_ite) | simp only [↓kept_mk_simp] | split | dsimp only

theorem State.passEdge_kept {still : Prop} {s0 s : State} (h : Kept still s0 s) (n : Nat) : Kept still s0 (State.passEdge s n) := by
  unfold State.passEdge
  try dsimp only
  repeat' first | (with_reducible first | assumption | intro _ | apply State.issueEdge_kept | apply State.onPulse_kept | apply kept_ite) | split | dsimp only

theorem State.clockTo_kept {still : Prop} {s0 s : State} (h : Kept still s0 s) (n : Int) : Kept still s0 (State.clockTo s n) := by
  unfold State.clockTo
  try dsimp only
  repeat' first | (with_reducible first | assumption | intro _ | apply State.passEdge_kept | apply kept_ite | apply kept_foldl) | simp only [↓kept_mk_simp] | split | dsimp only

theorem State.clockStep_kept {still : Prop} {s0 s : State} (h : Kept still s0 s) (units : Int) : Kept still s0 (State.clockStep s units) := by
  unfold State.clockStep
  repeat' first | (with_reducible first | assumption | intro _ | apply State.clockTo_kept) | dsimp only

theorem State.clockSecond_kept {still : Prop} {s0 s : State} (h : Kept still s0 s) : Kept still s0 (State.clockSecond s) := by
  unfold State.clockSecond
  try dsimp only
  repeat' first | (with_reducible first | assumption | intro _ | apply State.onTime_kept | apply State.timeShow_kept | apply kept_ite) | simp only [↓kept_mk_simp] | split | dsimp only

theorem State.recordDeparture_kept {still : Prop} {s0 s : State} (h : Kept still s0 s) (c : Carrier) (number : Nat) : Kept still s0 (State.recordDeparture s c number) := by
  unfold State.recordDeparture
  try dsimp only
  repeat' first | (with_reducible first | assumption | intro _ | apply State.onTime_kept | apply kept_ite) | simp only [↓kept_mk_simp] | split | dsimp only

theorem State.markSlip_kept {still : Prop} {s0 s : State} (h : Kept still s0 s) (c : Carrier) : Kept still s0 (State.markSlip s c) := by
  unfold State.markSlip
  try dsimp only
  repeat' first | (with_reducible first | assumption | intro _ | apply State.onTime_kept | apply kept_ite) | simp only [↓kept_mk_simp] | split | dsimp only

theorem State.stampArrival_kept {still : Prop} {s0 s : State} (h : Kept still s0 s) (c : Carrier) (number : Nat) : Kept still s0 (State.stampArrival s c number) := by
  unfold State.stampArrival
  try dsimp only
  repeat' first | (with_reducible first | assumption | intro _ | apply State.onLine_kept | apply kept_ite) | simp only [↓kept_mk_simp] | split | dsimp only

theorem State.transferArrival_kept {still : Prop} {s0 s : State} (h : Kept still s0 s) (c : Carrier) (number : Nat) (oh : List Byte) : Kept still s0 (State.transferArrival s c number oh) := by
  unfold State.transferArrival
  try dsimp only
  repeat' first | (with_reducible first | assumption | intro _ | apply State.onTime_kept | apply State.set_kept | apply kept_ite) | simp only [↓kept_mk_simp] | split | dsimp only

theorem State.transferBad_kept {still : Prop} {s0 s : State} (h : Kept still s0 s) (c : Carrier) : Kept still s0 (State.transferBad s c) := by
  unfold State.transferBad
  try dsimp only
  repeat' first | (with_reducible first | assumption | intro _ | apply State.onTime_kept | apply State.set_kept | apply kept_ite) | simp only [↓kept_mk_simp] | split | dsimp only

theorem State.servoStop_kept {still : Prop} {s0 s : State} (h : Kept still s0 s) : Kept still s0 (State.servoStop s) := by
  unfold State.servoStop
  try dsimp only
  repeat' first | (with_reducible first | assumption | intro _ | apply State.onTime_kept | apply State.timeShow_kept) | simp only [↓kept_mk_simp] | dsimp only

theorem State.toTt_kept {still : Prop} {s0 s : State} (h : Kept still s0 s) (st : Nat) : Kept still s0 (State.toTt s st) := by
  unfold State.toTt
  try dsimp only
  repeat' first | (with_reducible first | assumption | intro _ | apply State.onTime_kept | apply State.servoStop_kept | apply State.set_kept | apply kept_ite) | simp only [↓kept_mk_simp] | split | dsimp only

theorem State.ttWait_kept {still : Prop} {s0 s : State} (h : Kept still s0 s) : Kept still s0 (State.ttWait s) := by
  unfold State.ttWait
  try dsimp only
  repeat' first | (with_reducible first | assumption | intro _ | apply State.timeRaise_kept | apply State.toTt_kept | apply kept_ite) | split | dsimp only

theorem State.ttAgreed_kept {still : Prop} {s0 s : State} (h : Kept still s0 s) (c : Carrier) : Kept still s0 (State.ttAgreed s c) := by
  unfold State.ttAgreed
  repeat' first | (with_reducible first | assumption | intro _ | apply State.toTt_kept | apply kept_ite) | split | dsimp only

theorem State.ttLapsed_kept {still : Prop} {s0 s : State} (h : Kept still s0 s) (c : Carrier) : Kept still s0 (State.ttLapsed s c) := by
  unfold State.ttLapsed
  repeat' first | (with_reducible first | assumption | intro _ | apply State.toTt_kept | apply kept_ite) | split | dsimp only

theorem State.stampIn_kept {still : Prop} {s0 s : State} (h : Kept still s0 s) (p : Nat) (b : List Byte) : Kept still s0 (State.stampIn s p b).2 := by
  unfold State.stampIn
  try dsimp only
  repeat' first | (with_reducible first | assumption | intro _ | apply State.bump_kept | apply kept_ite) | simp only [↓kept_mk_simp] | refine pair_kept (by assumption) ?_ | split | dsimp only

theorem State.stampOut_kept {still : Prop} {s0 s : State} (h : Kept still s0 s) (p : Nat) (b : List Byte) (err : Bool) : Kept still s0 (State.stampOut s p b err).2 := by
  unfold State.stampOut
  try dsimp only
  repeat' first | (with_reducible first | assumption | intro _ | apply State.bump_kept | apply State.raiseOnce_kept | apply kept_ite) | simp only [↓kept_mk_simp] | refine pair_kept (by assumption) ?_ | split | dsimp only

theorem State.onHead_kept {still : Prop} {s0 s : State} (h : Kept still s0 s) (f : HeadlandSt → HeadlandSt) : Kept still s0 (State.onHead s f) := by
  unfold State.onHead
  try dsimp only
  repeat' first | (with_reducible first | assumption | intro _) | simp only [↓kept_mk_simp] | dsimp only

theorem State.headlandDropped_kept {still : Prop} {s0 s : State} (h : Kept still s0 s) : Kept still s0 (State.headlandDropped s) := by
  unfold State.headlandDropped
  repeat' first | (with_reducible first | assumption | intro _ | apply State.bump_kept) | dsimp only

theorem State.go_kept {still : Prop} {s0 s : State} (h : Kept still s0 s) : Kept still s0 (State.go s) := by
  unfold State.go
  try dsimp only
  repeat' first | (with_reducible first | assumption | intro _ | apply State.bump_kept | apply State.raiseEvent_kept | apply State.send_kept | apply State.set_kept | apply State.setB_kept | apply kept_ite) | simp only [↓kept_mk_simp] | refine pair_kept (by assumption) ?_ | split | dsimp only

theorem State.headlandLoad_kept {still : Prop} {s0 s : State} (h : Kept still s0 s) (c : Carrier) (sub : Nat) (payload : List Byte) : Kept still s0 (State.headlandLoad s c sub payload) := by
  unfold State.headlandLoad
  try dsimp only
  repeat' first | (with_reducible first | assumption | intro _ | apply State.go_kept | apply State.set_kept | apply State.wr_kept | apply kept_foldl) | dsimp only

theorem State.headlandPump_kept {still : Prop} {s0 s : State} (h : Kept still s0 s) (n : Nat) : Kept still s0 (s.headlandPump n) := by
  induction n generalizing s with
  | zero => exact h
  | succ n ih =>
    unfold State.headlandPump
    split
    · exact h
    · split
      · exact h
      · exact ih (State.headlandLoad_kept (State.onHead_kept h _) ..)

theorem State.headlandSend_kept {still : Prop} {s0 s : State} (h : Kept still s0 s) (c : Carrier) (sub : Nat) (bytes : List Byte) : Kept still s0 (State.headlandSend s c sub bytes) := by
  unfold State.headlandSend
  try dsimp only
  repeat' first | (with_reducible first | assumption | intro _ | apply State.headlandPump_kept | apply State.onHead_kept) | simp only [↓kept_mk_simp] | dsimp only

theorem State.headlandAbort_kept {still : Prop} {s0 s : State} (h : Kept still s0 s) : Kept still s0 (State.headlandAbort s) := by
  unfold State.headlandAbort
  repeat' first | (with_reducible first | assumption | intro _ | apply State.set_kept | apply kept_ite) | split | dsimp only

theorem State.headlandDarken_kept {still : Prop} {s0 s : State} (h : Kept still s0 s) (c : Carrier) : Kept still s0 (State.headlandDarken s c) := by
  unfold State.headlandDarken
  repeat' first | (with_reducible first | assumption | intro _ | apply State.raiseEvent_kept | apply State.set_kept | apply kept_ite) | split | dsimp only

theorem State.lineRaise_kept {still : Prop} {s0 s : State} (h : Kept still s0 s) (c : Carrier) (bit : Nat) : Kept still s0 (State.lineRaise s c bit) := by
  unfold State.lineRaise
  try dsimp only
  repeat' first | (with_reducible first | assumption | intro _ | apply State.raiseEvent_kept) | dsimp only

theorem State.rxRaise_kept {still : Prop} {s0 s : State} (h : Kept still s0 s) (c : Carrier) (bit : Nat) : Kept still s0 (State.rxRaise s c bit) := by
  unfold State.rxRaise
  repeat' first | (with_reducible first | assumption | intro _ | apply State.raiseEvent_kept) | dsimp only

theorem State.onRx_kept {still : Prop} {s0 s : State} (h : Kept still s0 s) (c : Carrier) (f : RxSt → RxSt) : Kept still s0 (State.onRx s c f) := by
  unfold State.onRx
  try dsimp only
  repeat' first | (with_reducible first | assumption | intro _) | simp only [↓kept_mk_simp] | dsimp only

theorem State.toRx_kept {still : Prop} {s0 s : State} (h : Kept still s0 s) (c : Carrier) (st : Nat) : Kept still s0 (State.toRx s c st) := by
  unfold State.toRx
  try dsimp only
  repeat' first | (with_reducible first | assumption | intro _ | apply State.alignLost_kept | apply State.set_kept | apply kept_ite) | split | dsimp only

theorem State.pilotLock_kept {still : Prop} {s0 s : State} (h : Kept still s0 s) (c : Carrier) (sub : Nat) (v : Bool) : Kept still s0 (State.pilotLock s c sub v) := by
  unfold State.pilotLock
  repeat' first | (with_reducible first | assumption | intro _ | apply State.setB_kept) | dsimp only

theorem State.estInvalid_kept {still : Prop} {s0 s : State} (h : Kept still s0 s) (c : Carrier) : Kept still s0 (State.estInvalid s c) := by
  unfold State.estInvalid
  repeat' first | (with_reducible first | assumption | intro _ | apply State.set_kept | apply kept_ite) | split | dsimp only

theorem State.clearAdaptive_kept {still : Prop} {s0 s : State} (h : Kept still s0 s) (c : Carrier) : Kept still s0 (State.clearAdaptive s c) := by
  unfold State.clearAdaptive
  try dsimp only
  repeat' first | (with_reducible first | assumption | intro _ | apply State.estInvalid_kept | apply State.onRx_kept | apply State.pilotLock_kept | apply State.set_kept | apply kept_foldl) | simp only [↓kept_mk_simp] | dsimp only

theorem State.leaveTrack_kept {still : Prop} {s0 s : State} (h : Kept still s0 s) (c : Carrier) : Kept still s0 (State.leaveTrack s c) := by
  unfold State.leaveTrack
  repeat' first | (with_reducible first | assumption | intro _ | apply State.estInvalid_kept | apply State.rxRaise_kept | apply kept_ite) | split | dsimp only

theorem State.toLos_kept {still : Prop} {s0 s : State} (h : Kept still s0 s) (c : Carrier) : Kept still s0 (State.toLos s c) := by
  unfold State.toLos
  repeat' first | (with_reducible first | assumption | intro _ | apply State.clearAdaptive_kept | apply State.toRx_kept | apply kept_ite) | split | dsimp only

theorem State.acquire_kept {still : Prop} {s0 s : State} (h : Kept still s0 s) (c : Carrier) (src : Nat) {k : State → State} (hk : ∀ s, Kept still s0 s → Kept still s0 (k s)) : Kept still s0 (State.acquire s c src k) := by
  unfold State.acquire
  repeat' first | (with_reducible first | assumption | intro _ | apply hk | apply kept_ite) | split | dsimp only

theorem State.enterCdSearch_kept {still : Prop} {s0 s : State} (h : Kept still s0 s) (c : Carrier) : Kept still s0 (State.enterCdSearch s c) := by
  unfold State.enterCdSearch
  try dsimp only
  repeat' first | (with_reducible first | assumption | intro _ | apply State.onRx_kept | apply State.toRx_kept | apply kept_ite) | simp only [↓kept_mk_simp] | split | dsimp only

theorem State.pend_kept {still : Prop} {s0 s : State} (h : Kept still s0 s) (c : Carrier) (pair : Bool) (owner : Bool) (reverting : Bool) : Kept still s0 (State.pend s c pair owner reverting) := by
  unfold State.pend
  try dsimp only
  repeat' first | (with_reducible first | assumption | intro _ | apply State.onRx_kept | apply State.set_kept) | simp only [↓kept_mk_simp] | dsimp only

theorem State.requestSwap_kept {still : Prop} {s0 s : State} (h : Kept still s0 s) (c : Carrier) (reverting : Bool) : Kept still s0 (State.requestSwap s c reverting) := by
  unfold State.requestSwap
  repeat' first | (with_reducible first | assumption | intro _ | apply State.pend_kept | apply kept_ite) | split | dsimp only

theorem State.evalStart_kept {still : Prop} {s0 s : State} (h : Kept still s0 s) (c : Carrier) (pct : Nat) (reverting : Bool) : Kept still s0 (State.evalStart s c pct reverting) := by
  unfold State.evalStart
  try dsimp only
  repeat' first | (with_reducible first | assumption | intro _ | apply State.evalAbandon_kept | apply State.onLine_kept | apply State.onRx_kept | apply State.set_kept | apply kept_ite | apply kept_foldl) | simp only [↓kept_mk_simp] | split | dsimp only

theorem State.evalStartPair_kept {still : Prop} {s0 s : State} (h : Kept still s0 s) (c : Carrier) (pct : Nat) (reverting : Bool) : Kept still s0 (State.evalStartPair s c pct reverting) := by
  unfold State.evalStartPair
  try dsimp only
  repeat' first | (with_reducible first | assumption | intro _ | apply State.evalStart_kept | apply State.onRx_kept | apply kept_foldl) | simp only [↓kept_mk_simp] | dsimp only

theorem State.exchangeOne_kept {still : Prop} {s0 s : State} (h : Kept still s0 s) (c : Carrier) : Kept still s0 (State.exchangeOne s c) := by
  unfold State.exchangeOne
  try dsimp only
  repeat' first | (with_reducible first | assumption | intro _ | apply State.bump_kept | apply State.onRx_kept | apply State.rxRaise_kept | apply State.set_kept | apply kept_ite) | simp only [↓kept_mk_simp] | split | dsimp only

theorem State.exchange_kept {still : Prop} {s0 s : State} (h : Kept still s0 s) (c : Carrier) : Kept still s0 (State.exchange s c) := by
  unfold State.exchange
  try dsimp only
  repeat' first | (with_reducible first | assumption | intro _ | apply State.evalStart_kept | apply State.evalStartPair_kept | apply State.exchangeOne_kept | apply kept_ite) | split | dsimp only

theorem State.evalEnd_kept {still : Prop} {s0 s : State} (h : Kept still s0 s) (c : Carrier) : Kept still s0 (State.evalEnd s c) := by
  unfold State.evalEnd
  try dsimp only
  repeat' first | (with_reducible first | assumption | intro _ | apply State.evalAbandon_kept | apply State.pend_kept | apply kept_ite) | split | dsimp only

theorem State.shadowWrite_kept {still : Prop} {s0 s : State} (h : Kept still s0 s) (c : Carrier) (word : Option Nat) (v : Word) : Kept still s0 (State.shadowWrite s c word v) := by
  unfold State.shadowWrite
  try dsimp only
  repeat' first | (with_reducible first | assumption | intro _ | apply State.bump_kept | apply State.onRx_kept | apply State.set_kept | apply kept_ite) | simp only [↓kept_mk_simp] | refine pair_kept (by assumption) ?_ | split | dsimp only

theorem State.tapCommand_kept {still : Prop} {s0 s : State} (h : Kept still s0 s) (c : Carrier) (sub : Nat) (load : Bool) : Kept still s0 (State.tapCommand s c sub load) := by
  unfold State.tapCommand
  try dsimp only
  repeat' first | (with_reducible first | assumption | intro _ | apply State.bump_kept | apply State.onRx_kept | apply State.set_kept | apply kept_ite) | simp only [↓kept_mk_simp] | split | dsimp only

theorem State.tapDone_kept {still : Prop} {s0 s : State} (h : Kept still s0 s) (c : Carrier) (sub : Nat) : Kept still s0 (State.tapDone s c sub) := by
  unfold State.tapDone
  try dsimp only
  repeat' first | (with_reducible first | assumption | intro _ | apply State.onRx_kept | apply State.rxRaise_kept | apply State.set_kept | apply kept_ite) | simp only [↓kept_mk_simp] | refine pair_kept (by assumption) ?_ | split | dsimp only

theorem State.singular_kept {still : Prop} {s0 s : State} (h : Kept still s0 s) (c : Carrier) (sub : Nat) : Kept still s0 (State.singular s c sub) := by
  unfold State.singular
  try dsimp only
  repeat' first | (with_reducible first | assumption | intro _ | apply State.bump_kept | apply State.onRx_kept | apply State.rxRaise_kept | apply kept_ite) | simp only [↓kept_mk_simp] | split | dsimp only

theorem State.adapt_kept {still : Prop} {s0 s : State} (h : Kept still s0 s) (c : Carrier) (a : Adaptation) : Kept still s0 (State.adapt s c a) := by
  unfold State.adapt
  try dsimp only
  repeat' first | (with_reducible first | assumption | intro _ | apply State.onRx_kept | apply kept_ite | apply kept_foldl) | simp only [↓kept_mk_simp] | split | dsimp only

theorem State.gradualRx_kept {still : Prop} {s0 s : State} (h : Kept still s0 s) (c : Carrier) (residual : Int) : Kept still s0 (State.gradualRx s c residual) := by
  unfold State.gradualRx
  try dsimp only
  repeat' first | (with_reducible first | assumption | intro _ | apply State.onRx_kept | apply State.set_kept) | simp only [↓kept_mk_simp] | refine pair_kept (by assumption) ?_ | split | dsimp only

theorem State.tapsChange_kept {still : Prop} {s0 s : State} (h : Kept still s0 s) (c : Carrier) : Kept still s0 (State.tapsChange s c) := by
  unfold State.tapsChange
  try dsimp only
  repeat' first | (with_reducible first | assumption | intro _ | apply State.onRx_kept | apply State.set_kept | apply kept_ite | apply kept_foldl) | simp only [↓kept_mk_simp] | split | dsimp only

theorem State.losSet_kept {still : Prop} {s0 s : State} (h : Kept still s0 s) (c : Carrier) : Kept still s0 (State.losSet s c) := by
  unfold State.losSet
  repeat' first | (with_reducible first | assumption | intro _ | apply State.leaveTrack_kept | apply State.lineRaise_kept | apply State.set_kept | apply State.toLos_kept | apply kept_ite) | split | dsimp only

theorem State.losDrop_kept {still : Prop} {s0 s : State} (h : Kept still s0 s) (c : Carrier) : Kept still s0 (State.losDrop s c) := by
  unfold State.losDrop
  try dsimp only
  repeat' first | (with_reducible first | assumption | intro _ | apply State.set_kept | apply State.toRx_kept | apply State.wakeSource_kept | apply kept_ite) | split | dsimp only

theorem State.losWatch_kept {still : Prop} {s0 s : State} (h : Kept still s0 s) (c : Carrier) (rms : List Nat) : Kept still s0 (State.losWatch s c rms) := by
  unfold State.losWatch
  try dsimp only
  repeat' first | (with_reducible first | assumption | intro _ | apply State.losDrop_kept | apply State.losSet_kept | apply State.onRx_kept | apply kept_ite) | simp only [↓kept_mk_simp] | split | dsimp only

theorem State.framePeriod_kept {still : Prop} {s0 s : State} (h : Kept still s0 s) (c : Carrier) (rms : List Byte) (clips : List Nat) (singular : List Nat) (a : Adaptation) : Kept still s0 (State.framePeriod s c rms clips singular a) := by
  unfold State.framePeriod
  try dsimp only
  repeat' first | (with_reducible first | assumption | intro _ | apply State.adapt_kept | apply State.bump_kept | apply State.gradualRx_kept | apply State.lineRaise_kept | apply State.losWatch_kept | apply State.set_kept | apply State.singular_kept | apply State.tapsChange_kept | apply kept_ite | apply kept_foldl) | split | dsimp only

theorem State.setDb_kept {still : Prop} {s0 s : State} (h : Kept still s0 s) (f : Fld) (v : Option Nat) : Kept still s0 (State.setDb s f v) := by
  unfold State.setDb
  try dsimp only
  repeat' first | (with_reducible first | assumption | intro _ | apply State.freeWord_kept | apply State.set_kept) | simp only [↓kept_mk_simp] | refine pair_kept (by assumption) ?_ | split | dsimp only

theorem State.estimate_kept {still : Prop} {s0 s : State} (h : Kept still s0 s) (valid : Fld) (value : Fld) (ok : Bool) (v : Option Nat) : Kept still s0 (State.estimate s valid value ok v) := by
  unfold State.estimate
  repeat' first | (with_reducible first | assumption | intro _ | apply State.setB_kept | apply State.setDb_kept) | dsimp only

theorem State.publish_kept {still : Prop} {s0 s : State} (h : Kept still s0 s) (c : Carrier) (e : Estimates) : Kept still s0 (State.publish s c e) := by
  unfold State.publish
  try dsimp only
  repeat' first | (with_reducible first | assumption | intro _ | apply State.estimate_kept | apply State.onLine_kept | apply State.raise_kept | apply State.setDb_kept | apply State.setS_kept | apply State.setSat_kept | apply State.wrapAdd_kept | apply kept_ite | apply kept_foldl) | simp only [↓kept_mk_simp] | split | dsimp only

theorem execRxFramePeriod_kept {still : Prop} {s0 s : State} (h : Kept still s0 s) (c : Carrier) (rms : List Byte) (clips : List Nat) (singular : List (Fin 16)) (adapt : Adaptation) : KeptO still s0 (execRxFramePeriod c rms clips singular adapt s) := by
  unfold execRxFramePeriod
  repeat' first | (with_reducible first | assumption | intro _ | apply State.adapt_kept | apply State.framePeriod_kept | apply State.singular_kept | apply KeptO.next) | dsimp only

theorem execLosAssert_kept {still : Prop} {s0 s : State} (h : Kept still s0 s) (c : Carrier) : KeptO still s0 (execLosAssert c s) := by
  unfold execLosAssert
  repeat' first | (with_reducible first | assumption | intro _ | apply State.losSet_kept | apply KeptO.next) | dsimp only

theorem execLosClear_kept {still : Prop} {s0 s : State} (h : Kept still s0 s) (c : Carrier) : KeptO still s0 (execLosClear c s) := by
  unfold execLosClear
  repeat' first | (with_reducible first | assumption | intro _ | apply State.losDrop_kept | apply KeptO.next) | dsimp only

theorem execRxQueueOvf_kept {still : Prop} {s0 s : State} (h : Kept still s0 s) (c : Carrier) : KeptO still s0 (execRxQueueOvf c s) := by
  unfold execRxQueueOvf
  repeat' first | (with_reducible first | assumption | intro _ | apply State.bump_kept | apply State.lineRaise_kept | apply KeptO.next) | dsimp only

theorem execSwap_kept {still : Prop} {s0 s : State} (h : Kept still s0 s) (path : Path) (c : Carrier) (pair : Bool) : KeptO still s0 (execSwap path c pair s) := by
  unfold execSwap
  repeat' first | (with_reducible first | assumption | intro _ | apply State.requestSwap_kept | apply State.rwWrite_kept | apply State.setB_kept | apply KeptO.next) | dsimp only

theorem execNlcExchange_kept {still : Prop} {s0 s : State} (h : Kept still s0 s) (c : Carrier) : KeptO still s0 (execNlcExchange c s) := by
  unfold execNlcExchange
  repeat' first | (with_reducible first | assumption | intro _ | apply State.exchange_kept | apply KeptO.next) | dsimp only

theorem execNlcEvalEnd_kept {still : Prop} {s0 s : State} (h : Kept still s0 s) (c : Carrier) : KeptO still s0 (execNlcEvalEnd c s) := by
  unfold execNlcEvalEnd
  repeat' first | (with_reducible first | assumption | intro _ | apply State.evalEnd_kept | apply KeptO.next) | dsimp only

theorem execNlcShadowWrite_kept {still : Prop} {s0 s : State} (h : Kept still s0 s) (path : Path) (c : Carrier) (word : Option (Fin 4096)) (value : Word) : KeptO still s0 (execNlcShadowWrite path c word value s) := by
  unfold execNlcShadowWrite
  repeat' first | (with_reducible first | assumption | intro _ | apply State.rwWrite_kept | apply State.shadowWrite_kept | apply KeptO.next) | dsimp only

theorem execTapSnapshot_kept {still : Prop} {s0 s : State} (h : Kept still s0 s) (path : Path) (c : Carrier) (sub : Fin 16) : KeptO still s0 (execTapSnapshot path c sub s) := by
  unfold execTapSnapshot
  repeat' first | (with_reducible first | assumption | intro _ | apply State.rwWrite_kept | apply State.tapCommand_kept | apply KeptO.next) | dsimp only

theorem execTapLoad_kept {still : Prop} {s0 s : State} (h : Kept still s0 s) (path : Path) (c : Carrier) (sub : Fin 16) : KeptO still s0 (execTapLoad path c sub s) := by
  unfold execTapLoad
  repeat' first | (with_reducible first | assumption | intro _ | apply State.rwWrite_kept | apply State.tapCommand_kept | apply KeptO.next) | dsimp only

theorem execTapDone_kept {still : Prop} {s0 s : State} (h : Kept still s0 s) (c : Carrier) (sub : Fin 16) : KeptO still s0 (execTapDone c sub s) := by
  unfold execTapDone
  repeat' first | (with_reducible first | assumption | intro _ | apply State.tapDone_kept | apply KeptO.next) | dsimp only

theorem execRestart_kept {still : Prop} {s0 s : State} (h : Kept still s0 s) (path : Path) (c : Carrier) : KeptO still s0 (execRestart path c s) := by
  unfold execRestart
  repeat' first | (with_reducible first | assumption | intro _ | apply State.rwWrite_kept | apply State.set_kept | apply State.toLos_kept | apply KeptO.next) | dsimp only

theorem execAgcSettled_kept {still : Prop} {s0 s : State} (h : Kept still s0 s) (c : Carrier) : KeptO still s0 (execAgcSettled c s) := by
  unfold execAgcSettled
  repeat' first | (with_reducible first | assumption | intro _ | apply State.acquire_kept | apply State.enterCdSearch_kept | apply KeptO.next) | dsimp only

theorem execCdSearchComplete_kept {still : Prop} {s0 s : State} (h : Kept still s0 s) (c : Carrier) (coarse : List Nat) (fine : List Nat) : KeptO still s0 (execCdSearchComplete c coarse fine s) := by
  unfold execCdSearchComplete
  try dsimp only
  repeat' first | (with_reducible first | assumption | intro _ | apply State.acquire_kept | apply State.onRx_kept | apply State.toRx_kept | apply KeptO.next | apply kept_iteO | apply kept_ite) | simp only [↓kept_mk_simp] | split | dsimp only

theorem execClockLocked_kept {still : Prop} {s0 s : State} (h : Kept still s0 s) (c : Carrier) : KeptO still s0 (execClockLocked c s) := by
  unfold execClockLocked
  repeat' first | (with_reducible first | assumption | intro _ | apply State.acquire_kept | apply State.toRx_kept | apply KeptO.next) | dsimp only

theorem execFreqStable_kept {still : Prop} {s0 s : State} (h : Kept still s0 s) (c : Carrier) : KeptO still s0 (execFreqStable c s) := by
  unfold execFreqStable
  repeat' first | (with_reducible first | assumption | intro _ | apply State.acquire_kept | apply State.toRx_kept | apply KeptO.next) | dsimp only

theorem execCmaConverged_kept {still : Prop} {s0 s : State} (h : Kept still s0 s) (c : Carrier) : KeptO still s0 (execCmaConverged c s) := by
  unfold execCmaConverged
  repeat' first | (with_reducible first | assumption | intro _ | apply State.acquire_kept | apply State.toRx_kept | apply KeptO.next) | dsimp only

theorem execPilotsFound_kept {still : Prop} {s0 s : State} (h : Kept still s0 s) (c : Carrier) (position : Nat) : KeptO still s0 (execPilotsFound c position s) := by
  unfold execPilotsFound
  try dsimp only
  repeat' first | (with_reducible first | assumption | intro _ | apply State.acquire_kept | apply State.onRx_kept | apply State.pilotLock_kept | apply State.toRx_kept | apply KeptO.next | apply kept_foldl) | simp only [↓kept_mk_simp] | dsimp only

theorem execSnrStable_kept {still : Prop} {s0 s : State} (h : Kept still s0 s) (c : Carrier) (acqUs : Nat) : KeptO still s0 (execSnrStable c acqUs s) := by
  unfold execSnrStable
  repeat' first | (with_reducible first | assumption | intro _ | apply State.acquire_kept | apply State.rxRaise_kept | apply State.setSat_kept | apply State.toRx_kept | apply KeptO.next) | dsimp only

theorem execAcqLimit_kept {still : Prop} {s0 s : State} (h : Kept still s0 s) (c : Carrier) : KeptO still s0 (execAcqLimit c s) := by
  unfold execAcqLimit
  try dsimp only
  repeat' first | (with_reducible first | assumption | intro _ | apply State.enterCdSearch_kept | apply State.onRx_kept | apply State.setSat_kept | apply State.toRx_kept | apply KeptO.next | apply kept_iteO | apply kept_ite) | simp only [↓kept_mk_simp] | split | dsimp only

theorem execPilotLockLost_kept {still : Prop} {s0 s : State} (h : Kept still s0 s) (c : Carrier) (sub : Fin 16) : KeptO still s0 (execPilotLockLost c sub s) := by
  unfold execPilotLockLost
  try dsimp only
  repeat' first | (with_reducible first | assumption | intro _ | apply State.leaveTrack_kept | apply State.pilotLock_kept | apply State.toRx_kept | apply KeptO.next | apply kept_iteO | apply kept_ite) | split | dsimp only

theorem execClockLockLost_kept {still : Prop} {s0 s : State} (h : Kept still s0 s) (c : Carrier) : KeptO still s0 (execClockLockLost c s) := by
  unfold execClockLockLost
  repeat' first | (with_reducible first | assumption | intro _ | apply State.leaveTrack_kept | apply State.toRx_kept | apply KeptO.next | apply kept_iteO | apply kept_ite) | split | dsimp only

theorem execCycleSlip_kept {still : Prop} {s0 s : State} (h : Kept still s0 s) (c : Carrier) (turn : Fin 4) (persists : Bool) : KeptO still s0 (execCycleSlip c turn persists s) := by
  unfold execCycleSlip
  repeat' first | (with_reducible first | assumption | intro _ | apply State.bump_kept | apply State.rxRaise_kept | apply KeptO.next | apply kept_iteO | apply kept_ite) | split | dsimp only

theorem execEstIntervalEnd_kept {still : Prop} {s0 s : State} (h : Kept still s0 s) (c : Carrier) (est : Estimates) : KeptO still s0 (execEstIntervalEnd c est s) := by
  unfold execEstIntervalEnd
  try dsimp only
  repeat' first | (with_reducible first | assumption | intro _ | apply State.onRx_kept | apply State.publish_kept | apply KeptO.next | apply kept_iteO | apply kept_ite) | simp only [↓kept_mk_simp] | split | dsimp only

theorem execGroupConverged_kept {still : Prop} {s0 s : State} (h : Kept still s0 s) (group : Fin 32) : KeptO still s0 (execGroupConverged group s) := by
  unfold execGroupConverged
  try dsimp only
  repeat' first | (with_reducible first | assumption | intro _ | apply State.onPlan_kept | apply KeptO.next) | simp only [↓kept_mk_simp] | refine pair_kept (by assumption) ?_ | split | dsimp only

theorem State.txRaise_kept {still : Prop} {s0 s : State} (h : Kept still s0 s) (c : Carrier) (n : Nat) : Kept still s0 (State.txRaise s c n) := by
  unfold State.txRaise
  repeat' first | (with_reducible first | assumption | intro _ | apply State.raiseEvent_kept) | dsimp only

theorem State.onTx_kept {still : Prop} {s0 s : State} (h : Kept still s0 s) (c : Carrier) (f : TxSt → TxSt) : Kept still s0 (State.onTx s c f) := by
  unfold State.onTx
  try dsimp only
  repeat' first | (with_reducible first | assumption | intro _) | simp only [↓kept_mk_simp] | dsimp only

theorem State.toTx_kept {still : Prop} {s0 s : State} (h : Kept still s0 s) (c : Carrier) (st : Nat) : Kept still s0 (State.toTx s c st) := by
  unfold State.toTx
  repeat' first | (with_reducible first | assumption | intro _ | apply State.set_kept) | dsimp only

theorem State.rampDown_kept {still : Prop} {s0 s : State} (h : Kept still s0 s) (c : Carrier) : Kept still s0 (State.rampDown s c) := by
  unfold State.rampDown
  repeat' first | (with_reducible first | assumption | intro _ | apply State.headlandDarken_kept | apply State.toTx_kept | apply kept_ite) | split | dsimp only

theorem State.rampUp_kept {still : Prop} {s0 s : State} (h : Kept still s0 s) (c : Carrier) : Kept still s0 (State.rampUp s c) := by
  unfold State.rampUp
  repeat' first | (with_reducible first | assumption | intro _ | apply State.toTx_kept | apply kept_ite) | split | dsimp only

theorem State.netUpdate_kept {still : Prop} {s0 s : State} (h : Kept still s0 s) (c : Carrier) : Kept still s0 (State.netUpdate s c) := by
  unfold State.netUpdate
  try dsimp only
  repeat' first | (with_reducible first | assumption | intro _ | apply State.set_kept | apply State.setSat_kept | apply State.wr_kept | apply kept_foldl) | simp only [↓kept_mk_simp] | refine pair_kept (by assumption) ?_ | split | dsimp only

theorem State.settleNote_kept {still : Prop} {s0 s : State} (h : Kept still s0 s) (before : State) (c : Carrier) : Kept still s0 (State.settleNote s before c) := by
  unfold State.settleNote
  repeat' first | (with_reducible first | assumption | intro _ | apply State.raise_kept | apply kept_ite) | split | dsimp only

theorem State.gradualStep_kept {still : Prop} {s0 s : State} (h : Kept still s0 s) (c : Carrier) (g : GradualControl) : Kept still s0 (State.gradualStep s c g) := by
  unfold State.gradualStep
  try dsimp only
  repeat' first | (with_reducible first | assumption | intro _ | apply State.onTx_kept | apply State.setS_kept | apply State.settleNote_kept | apply kept_ite) | simp only [↓kept_mk_simp] | refine pair_kept (by assumption) ?_ | split | dsimp only

theorem State.boundaryControls_kept {still : Prop} {s0 s : State} (h : Kept still s0 s) (c : Carrier) : Kept still s0 (State.boundaryControls s c) := by
  unfold State.boundaryControls
  try dsimp only
  repeat' first | (with_reducible first | assumption | intro _ | apply State.onTx_kept) | simp only [↓kept_mk_simp] | dsimp only

theorem State.gradualJump_kept {still : Prop} {s0 s : State} (h : Kept still s0 s) (c : Carrier) : Kept still s0 (State.gradualJump s c) := by
  unfold State.gradualJump
  try dsimp only
  repeat' first | (with_reducible first | assumption | intro _ | apply State.boundaryControls_kept | apply State.onTx_kept | apply State.set_kept | apply State.settleNote_kept | apply kept_foldl) | simp only [↓kept_mk_simp] | dsimp only

theorem State.respLoad_kept {still : Prop} {s0 s : State} (h : Kept still s0 s) (c : Carrier) : Kept still s0 (State.respLoad s c) := by
  unfold State.respLoad
  repeat' first | (with_reducible first | assumption | intro _ | apply State.bump_kept | apply State.set_kept | apply kept_ite) | split | dsimp only

theorem State.respShadowWrite_kept {still : Prop} {s0 s : State} (h : Kept still s0 s) (c : Carrier) (w : Nat) (v : Word) : Kept still s0 (State.respShadowWrite s c w v) := by
  unfold State.respShadowWrite
  repeat' first | (with_reducible first | assumption | intro _ | apply State.bump_kept | apply State.wr_kept | apply kept_ite) | split | dsimp only

theorem State.respLoaded_kept {still : Prop} {s0 s : State} (h : Kept still s0 s) (c : Carrier) : Kept still s0 (State.respLoaded s c) := by
  unfold State.respLoaded
  try dsimp only
  repeat' first | (with_reducible first | assumption | intro _ | apply State.calSettle_kept | apply State.onCal_kept | apply State.onTx_kept | apply State.set_kept | apply State.txRaise_kept | apply kept_ite) | simp only [↓kept_mk_simp] | split | dsimp only

theorem State.writeTarget_kept {still : Prop} {s0 s : State} (h : Kept still s0 s) (p : Path) (c : Carrier) (k : Nat) (v : Nat) : Kept still s0 (State.writeTarget s p c k v) := by
  unfold State.writeTarget
  repeat' first | (with_reducible first | assumption | intro _ | apply State.bump_kept | apply State.netUpdate_kept | apply State.ploughOnly_kept | apply State.set_kept | apply kept_ite) | split | dsimp only

theorem State.stepArm_kept {still : Prop} {s0 s : State} (h : Kept still s0 s) (c : Carrier) (m : Nat) : Kept still s0 (State.stepArm s c m) := by
  unfold State.stepArm
  try dsimp only
  repeat' first | (with_reducible first | assumption | intro _ | apply State.bump_kept | apply State.set_kept | apply State.txRaise_kept | apply kept_ite) | simp only [↓kept_mk_simp] | refine pair_kept (by assumption) ?_ | split | dsimp only

theorem State.stepDone_kept {still : Prop} {s0 s : State} (h : Kept still s0 s) (c : Carrier) : Kept still s0 (State.stepDone s c) := by
  unfold State.stepDone
  try dsimp only
  repeat' first | (with_reducible first | assumption | intro _ | apply State.bump_kept | apply State.netUpdate_kept | apply State.set_kept | apply State.txRaise_kept | apply kept_ite | apply kept_foldl) | split | dsimp only

theorem execMute_kept {still : Prop} {s0 s : State} (h : Kept still s0 s) (path : Path) (c : Carrier) : KeptO still s0 (execMute path c s) := by
  unfold execMute
  repeat' first | (with_reducible first | assumption | intro _ | apply State.rampDown_kept | apply State.rwWrite_kept | apply State.set_kept | apply KeptO.next) | dsimp only

theorem execUnmute_kept {still : Prop} {s0 s : State} (h : Kept still s0 s) (path : Path) (c : Carrier) : KeptO still s0 (execUnmute path c s) := by
  unfold execUnmute
  repeat' first | (with_reducible first | assumption | intro _ | apply State.rampUp_kept | apply State.rwWrite_kept | apply State.set_kept | apply KeptO.next) | dsimp only

theorem State.rampStep_kept {still : Prop} {s0 s : State} (h : Kept still s0 s) (c : Carrier) : Kept still s0 (State.rampStep s c) := by
  unfold State.rampStep
  try dsimp only
  repeat' first | (with_reducible first | assumption | intro _ | apply State.onTx_kept | apply kept_ite) | simp only [↓kept_mk_simp] | split | dsimp only

theorem execTxRampEnd_kept {still : Prop} {s0 s : State} (h : Kept still s0 s) (c : Carrier) : KeptO still s0 (execTxRampEnd c s) := by
  unfold execTxRampEnd
  try dsimp only
  repeat' first | (with_reducible first | assumption | intro _ | apply State.lineRaise_kept | apply State.onTx_kept | apply State.send_kept | apply State.toTx_kept | apply KeptO.next | apply kept_iteO | apply kept_ite) | simp only [↓kept_mk_simp] | split | dsimp only

theorem execTxQueueUnf_kept {still : Prop} {s0 s : State} (h : Kept still s0 s) (c : Carrier) : KeptO still s0 (execTxQueueUnf c s) := by
  unfold execTxQueueUnf
  repeat' first | (with_reducible first | assumption | intro _ | apply State.bump_kept | apply State.lineRaise_kept | apply State.send_kept | apply KeptO.next) | dsimp only

theorem execRespLoad_kept {still : Prop} {s0 s : State} (h : Kept still s0 s) (path : Path) (c : Carrier) : KeptO still s0 (execRespLoad path c s) := by
  unfold execRespLoad
  repeat' first | (with_reducible first | assumption | intro _ | apply State.respLoad_kept | apply State.rwWrite_kept | apply KeptO.next) | dsimp only

theorem execRespLoaded_kept {still : Prop} {s0 s : State} (h : Kept still s0 s) (c : Carrier) : KeptO still s0 (execRespLoaded c s) := by
  unfold execRespLoaded
  repeat' first | (with_reducible first | assumption | intro _ | apply State.respLoaded_kept | apply KeptO.next) | dsimp only

theorem execGradualControlStep_kept {still : Prop} {s0 s : State} (h : Kept still s0 s) (c : Carrier) (control : GradualControl) : KeptO still s0 (execGradualControlStep c control s) := by
  unfold execGradualControlStep
  repeat' first | (with_reducible first | assumption | intro _ | apply State.gradualStep_kept | apply KeptO.next) | dsimp only

theorem execTxFramePeriod_kept {still : Prop} {s0 s : State} (h : Kept still s0 s) (c : Carrier) (clips : List Nat) : KeptO still s0 (execTxFramePeriod c clips s) := by
  unfold execTxFramePeriod
  try dsimp only
  repeat' first | (with_reducible first | assumption | intro _ | apply State.boundaryControls_kept | apply State.bump_kept | apply State.onTx_kept | apply State.rampStep_kept | apply State.txRaise_kept | apply KeptO.next | apply kept_iteO | apply kept_ite) | simp only [↓kept_mk_simp] | split | dsimp only

theorem execEntropyTargetWrite_kept {still : Prop} {s0 s : State} (h : Kept still s0 s) (path : Path) (c : Carrier) (sub : Fin 16) (target : Nat) : KeptO still s0 (execEntropyTargetWrite path c sub target s) := by
  unfold execEntropyTargetWrite
  repeat' first | (with_reducible first | assumption | intro _ | apply State.downAccess_kept | apply State.writeTarget_kept | apply KeptO.next | apply kept_iteO | apply kept_ite) | split | dsimp only

theorem execStepArm_kept {still : Prop} {s0 s : State} (h : Kept still s0 s) (path : Path) (c : Carrier) (mf : Nat) : KeptO still s0 (execStepArm path c mf s) := by
  unfold execStepArm
  repeat' first | (with_reducible first | assumption | intro _ | apply State.downAccess_kept | apply State.ploughOnly_kept | apply State.stepArm_kept | apply KeptO.next | apply kept_iteO | apply kept_ite) | split | dsimp only

theorem execStepCancel_kept {still : Prop} {s0 s : State} (h : Kept still s0 s) (path : Path) (c : Carrier) : KeptO still s0 (execStepCancel path c s) := by
  unfold execStepCancel
  repeat' first | (with_reducible first | assumption | intro _ | apply State.bump_kept | apply State.downAccess_kept | apply KeptO.next | apply kept_iteO | apply kept_ite) | split | dsimp only

theorem State.onPort_kept {still : Prop} {s0 s : State} (h : Kept still s0 s) (p : Nat) (f : PortSt → PortSt) : Kept still s0 (State.onPort s p f) := by
  unfold State.onPort
  try dsimp only
  repeat' first | (with_reducible first | assumption | intro _) | simp only [↓kept_mk_simp] | dsimp only

theorem State.clientEvent_kept {still : Prop} {s0 s : State} (h : Kept still s0 s) (p : Nat) (b : Nat) : Kept still s0 (State.clientEvent s p b) := by
  unfold State.clientEvent
  try dsimp only
  repeat' first | (with_reducible first | assumption | intro _ | apply State.event_kept | apply State.raise_kept | apply State.set_kept | apply kept_ite) | split | dsimp only

theorem State.clientViolation_kept {still : Prop} {s0 s : State} (h : Kept still s0 s) (p : Nat) (code : Nat) : Kept still s0 (State.clientViolation s p code) := by
  unfold State.clientViolation
  repeat' first | (with_reducible first | assumption | intro _ | apply State.bump_kept | apply State.clientEvent_kept | apply State.set_kept) | dsimp only

theorem State.clientViolationQuiet_kept {still : Prop} {s0 s : State} (h : Kept still s0 s) (p : Nat) (code : Nat) : Kept still s0 (State.clientViolationQuiet s p code) := by
  unfold State.clientViolationQuiet
  try dsimp only
  repeat' first | (with_reducible first | assumption | intro _ | apply State.clientViolation_kept | apply State.onPort_kept | apply kept_ite) | simp only [↓kept_mk_simp] | split | dsimp only

theorem State.egressUpdate_kept {still : Prop} {s0 s : State} (h : Kept still s0 s) (p : Nat) : Kept still s0 (State.egressUpdate s p) := by
  unfold State.egressUpdate
  try dsimp only
  repeat' first | (with_reducible first | assumption | intro _ | apply State.clientEvent_kept | apply State.setB_kept | apply kept_ite) | split | dsimp only

theorem State.egressAll_kept {still : Prop} {s0 s : State} (h : Kept still s0 s) : Kept still s0 (State.egressAll s) := by
  unfold State.egressAll
  repeat' first | (with_reducible first | assumption | intro _ | apply State.egressUpdate_kept | apply kept_foldl) | dsimp only

theorem State.toCarriers_kept {still : Prop} {s0 s : State} (h : Kept still s0 s) (p : Nat) (rec : List Byte) : Kept still s0 (State.toCarriers s p rec) := by
  unfold State.toCarriers
  try dsimp only
  repeat' first | (with_reducible first | assumption | intro _ | apply State.onPort_kept | apply State.send_kept | apply State.tapped_kept | apply kept_ite) | simp only [↓kept_mk_simp] | split | dsimp only

theorem State.firstMark_kept {still : Prop} {s0 s : State} (h : Kept still s0 s) (p : Nat) : Kept still s0 (State.firstMark s p) := by
  unfold State.firstMark
  try dsimp only
  repeat' first | (with_reducible first | assumption | intro _ | apply State.freeWord_kept | apply State.onPort_kept | apply kept_ite) | simp only [↓kept_mk_simp] | refine pair_kept (by assumption) ?_ | split | dsimp only

theorem State.markIfDue_kept {still : Prop} {s0 s : State} (h : Kept still s0 s) (p : Nat) : Kept still s0 (State.markIfDue s p) := by
  unfold State.markIfDue
  try dsimp only
  repeat' first | (with_reducible first | assumption | intro _ | apply State.firstMark_kept | apply State.onPort_kept | apply State.toCarriers_kept | apply kept_ite) | simp only [↓kept_mk_simp] | refine pair_kept (by assumption) ?_ | split | dsimp only

theorem State.toLine_kept {still : Prop} {s0 s : State} (h : Kept still s0 s) (p : Nat) (rec : List Byte) : Kept still s0 (State.toLine s p rec) := by
  unfold State.toLine
  try dsimp only
  repeat' first | (with_reducible first | assumption | intro _ | apply State.markIfDue_kept | apply State.onPort_kept | apply State.toCarriers_kept) | simp only [↓kept_mk_simp] | dsimp only

theorem State.egressDrain_kept {still : Prop} {s0 s : State} (h : Kept still s0 s) (p : Nat) (n : Nat) : Kept still s0 (State.egressDrain s p n) := by
  unfold State.egressDrain
  try dsimp only
  repeat' first | (with_reducible first | assumption | intro _ | apply State.onPort_kept) | simp only [↓kept_mk_simp] | dsimp only

theorem State.toHost_kept {still : Prop} {s0 s : State} (h : Kept still s0 s) (p : Nat) (bytes : List Byte) (err : Bool) : Kept still s0 (State.toHost s p bytes err) := by
  unfold State.toHost
  try dsimp only
  repeat' first | (with_reducible first | assumption | intro _ | apply State.bump_kept | apply State.onPort_kept | apply State.send_kept | apply State.stampOut_kept | apply kept_ite) | simp only [↓kept_mk_simp] | refine pair_kept (by assumption) ?_ | split | dsimp only

theorem State.forwardToHost_kept {still : Prop} {s0 s : State} (h : Kept still s0 s) (p : Nat) (rec : List Byte) : Kept still s0 (State.forwardToHost s p rec) := by
  unfold State.forwardToHost
  try dsimp only
  repeat' first | (with_reducible first | assumption | intro _ | apply State.onPort_kept | apply State.set_kept | apply State.toHost_kept) | simp only [↓kept_mk_simp] | refine pair_kept (by assumption) ?_ | split | dsimp only

theorem State.forward_kept {still : Prop} {s0 s : State} (h : Kept still s0 s) (p : Nat) (bad : Bool) (rec : List Byte) : Kept still s0 (State.forward s p bad rec) := by
  unfold State.forward
  try dsimp only
  repeat' first | (with_reducible first | assumption | intro _ | apply State.forwardToHost_kept | apply State.tapped_kept | apply State.toLine_kept | apply kept_ite) | simp only [↓kept_mk_simp] | split | dsimp only

theorem State.ingressRecord_kept {still : Prop} {s0 s : State} (h : Kept still s0 s) (p : Nat) (rec : List Byte) : Kept still s0 (State.ingressRecord s p rec) := by
  unfold State.ingressRecord
  try dsimp only
  repeat' first | (with_reducible first | assumption | intro _ | apply State.forwardToHost_kept | apply State.toLine_kept | apply kept_ite) | split | dsimp only

theorem State.toIngress_kept {still : Prop} {s0 s : State} (h : Kept still s0 s) (p : Nat) (st : Nat) : Kept still s0 (State.toIngress s p st) := by
  unfold State.toIngress
  repeat' first | (with_reducible first | assumption | intro _ | apply State.set_kept) | dsimp only

theorem State.ingressDown_kept {still : Prop} {s0 s : State} (h : Kept still s0 s) (p : Nat) : Kept still s0 (State.ingressDown s p) := by
  unfold State.ingressDown
  try dsimp only
  repeat' first | (with_reducible first | assumption | intro _ | apply State.ingressRecord_kept | apply State.onPort_kept | apply State.toIngress_kept | apply kept_ite) | simp only [↓kept_mk_simp] | split | dsimp only

theorem State.lanesChanged_kept {still : Prop} {s0 s : State} (h : Kept still s0 s) (p : Nat) : Kept still s0 (State.lanesChanged s p) := by
  unfold State.lanesChanged
  try dsimp only
  repeat' first | (with_reducible first | assumption | intro _ | apply State.clientEvent_kept | apply State.ingressDown_kept | apply State.onPort_kept | apply State.toIngress_kept | apply kept_ite) | simp only [↓kept_mk_simp] | refine pair_kept (by assumption) ?_ | split | dsimp only

theorem State.ingressFails_kept {still : Prop} {s0 s : State} (h : Kept still s0 s) (p : Nat) : Kept still s0 (State.ingressFails s p) := by
  unfold State.ingressFails
  repeat' first | (with_reducible first | assumption | intro _ | apply State.clientEvent_kept | apply State.ingressDown_kept) | dsimp only

theorem State.linkAnswer_kept {still : Prop} {s0 s : State} (h : Kept still s0 s) (c : Carrier) (typ : Nat) (flags : Nat) (tag : Nat) (body : List Byte) : Kept still s0 (State.linkAnswer s c typ flags tag body) := by
  unfold State.linkAnswer
  try dsimp only
  repeat' first | (with_reducible first | assumption | intro _ | apply State.mccSend_kept | apply State.onLink_kept) | simp only [↓kept_mk_simp] | dsimp only

theorem State.linkNak_kept {still : Prop} {s0 s : State} (h : Kept still s0 s) (c : Carrier) (typ : Nat) (tag : Nat) (code : Nat) : Kept still s0 (State.linkNak s c typ tag code) := by
  unfold State.linkNak
  try dsimp only
  repeat' first | (with_reducible first | assumption | intro _ | apply State.bump_kept | apply State.linkAnswer_kept | apply State.mccSend_kept | apply kept_ite) | split | dsimp only

theorem State.linkMalformed_kept {still : Prop} {s0 s : State} (h : Kept still s0 s) (c : Carrier) (typ : Nat) (tag : Nat) : Kept still s0 (State.linkMalformed s c typ tag) := by
  unfold State.linkMalformed
  repeat' first | (with_reducible first | assumption | intro _ | apply State.linkNak_kept | apply State.linkViolation_kept) | dsimp only

theorem State.linkRequest_kept {still : Prop} {s0 s : State} (h : Kept still s0 s) (c : Carrier) (tag : Nat) {k : State → State} (hk : ∀ s, Kept still s0 s → Kept still s0 (k s)) : Kept still s0 (State.linkRequest s c tag k) := by
  unfold State.linkRequest
  try dsimp only
  repeat' first | (with_reducible first | assumption | intro _ | apply hk | apply State.mccSend_kept | apply kept_ite) | simp only [↓kept_mk_simp] | refine pair_kept (by assumption) ?_ | split | dsimp only

theorem State.mccTake_kept {still : Prop} {s0 s : State} (h : Kept still s0 s) (c : Carrier) : Kept still s0 (State.mccTake s c) := by
  unfold State.mccTake
  try dsimp only
  repeat' first | (with_reducible first | assumption | intro _ | apply State.onLine_kept) | simp only [↓kept_mk_simp] | dsimp only

theorem State.tagUsed_kept {still : Prop} {s0 s : State} (h : Kept still s0 s) (c : Carrier) : Kept still s0 (State.tagUsed s c) := by
  unfold State.tagUsed
  try dsimp only
  repeat' first | (with_reducible first | assumption | intro _ | apply State.onLink_kept) | simp only [↓kept_mk_simp] | dsimp only

theorem State.toLink_kept {still : Prop} {s0 s : State} (h : Kept still s0 s) (c : Carrier) (st : Nat) : Kept still s0 (State.toLink s c st) := by
  unfold State.toLink
  try dsimp only
  repeat' first | (with_reducible first | assumption | intro _ | apply State.egressAll_kept | apply State.sessionEnd_kept | apply State.set_kept | apply State.ttWait_kept | apply kept_ite) | split | dsimp only

theorem State.showCommit_kept {still : Prop} {s0 s : State} (h : Kept still s0 s) (c : Carrier) : Kept still s0 (State.showCommit s c) := by
  unfold State.showCommit
  try dsimp only
  repeat' first | (with_reducible first | assumption | intro _ | apply State.set_kept | apply State.wr_kept | apply kept_ite) | simp only [↓kept_mk_simp] | refine pair_kept (by assumption) ?_ | split | dsimp only

theorem State.setOwn_kept {still : Prop} {s0 s : State} (h : Kept still s0 s) (c : Carrier) (kind : Nat) (p : Option Proposal) : Kept still s0 (State.setOwn s c kind p) := by
  unfold State.setOwn
  try dsimp only
  repeat' first | (with_reducible first | assumption | intro _ | apply State.onLink_kept | apply State.showCommit_kept) | simp only [↓kept_mk_simp] | dsimp only

theorem State.setHeld_kept {still : Prop} {s0 s : State} (h : Kept still s0 s) (c : Carrier) (kind : Nat) (p : Option Proposal) : Kept still s0 (State.setHeld s c kind p) := by
  unfold State.setHeld
  try dsimp only
  repeat' first | (with_reducible first | assumption | intro _ | apply State.onLink_kept | apply State.showCommit_kept) | simp only [↓kept_mk_simp] | dsimp only

theorem State.commitAbort_kept {still : Prop} {s0 s : State} (h : Kept still s0 s) (c : Carrier) : Kept still s0 (State.commitAbort s c) := by
  unfold State.commitAbort
  repeat' first | (with_reducible first | assumption | intro _ | apply State.bump_kept | apply State.mgrRaise_kept) | dsimp only

theorem State.abandonCommits_kept {still : Prop} {s0 s : State} (h : Kept still s0 s) (c : Carrier) : Kept still s0 (State.abandonCommits s c) := by
  unfold State.abandonCommits
  try dsimp only
  repeat' first | (with_reducible first | assumption | intro _ | apply State.onLink_kept | apply State.showCommit_kept | apply kept_ite) | simp only [↓kept_mk_simp] | split | dsimp only

theorem State.sendCaps_kept {still : Prop} {s0 s : State} (h : Kept still s0 s) (c : Carrier) : Kept still s0 (State.sendCaps s c) := by
  unfold State.sendCaps
  try dsimp only
  repeat' first | (with_reducible first | assumption | intro _ | apply State.mccSend_kept | apply State.onLink_kept | apply State.tagUsed_kept) | simp only [↓kept_mk_simp] | dsimp only

theorem State.enterNegotiate_kept {still : Prop} {s0 s : State} (h : Kept still s0 s) (c : Carrier) : Kept still s0 (State.enterNegotiate s c) := by
  unfold State.enterNegotiate
  try dsimp only
  repeat' first | (with_reducible first | assumption | intro _ | apply State.abandonCommits_kept | apply State.onLink_kept | apply State.sendCaps_kept | apply State.toLink_kept) | simp only [↓kept_mk_simp] | dsimp only

theorem State.enterLost_kept {still : Prop} {s0 s : State} (h : Kept still s0 s) (c : Carrier) : Kept still s0 (State.enterLost s c) := by
  unfold State.enterLost
  try dsimp only
  repeat' first | (with_reducible first | assumption | intro _ | apply State.abandonCommits_kept | apply State.bump_kept | apply State.mgrRaise_kept | apply State.onLink_kept | apply State.toLink_kept) | simp only [↓kept_mk_simp] | dsimp only

theorem State.backoffUp_kept {still : Prop} {s0 s : State} (h : Kept still s0 s) (c : Carrier) : Kept still s0 (State.backoffUp s c) := by
  unfold State.backoffUp
  repeat' first | (with_reducible first | assumption | intro _ | apply State.set_kept) | dsimp only

theorem State.enterIncompatible_kept {still : Prop} {s0 s : State} (h : Kept still s0 s) (c : Carrier) : Kept still s0 (State.enterIncompatible s c) := by
  unfold State.enterIncompatible
  try dsimp only
  repeat' first | (with_reducible first | assumption | intro _ | apply State.abandonCommits_kept | apply State.mgrRaise_kept | apply State.onLink_kept | apply State.toLink_kept) | simp only [↓kept_mk_simp] | dsimp only

theorem State.takeE_kept {still : Prop} {s0 s : State} (h : Kept still s0 s) (c : Carrier) : Kept still s0 (State.takeE s c) := by
  unfold State.takeE
  try dsimp only
  repeat' first | (with_reducible first | assumption | intro _ | apply State.onLine_kept | apply kept_ite) | simp only [↓kept_mk_simp] | split | dsimp only

theorem State.adopt_kept {still : Prop} {s0 s : State} (h : Kept still s0 s) (c : Carrier) : Kept still s0 (State.adopt s c) := by
  unfold State.adopt
  try dsimp only
  repeat' first | (with_reducible first | assumption | intro _ | apply State.markSlip_kept | apply State.onLine_kept | apply kept_ite) | simp only [↓kept_mk_simp] | split | dsimp only

theorem State.enterAlign_kept {still : Prop} {s0 s : State} (h : Kept still s0 s) (c : Carrier) : Kept still s0 (State.enterAlign s c) := by
  unfold State.enterAlign
  try dsimp only
  repeat' first | (with_reducible first | assumption | intro _ | apply State.adopt_kept | apply State.onLine_kept | apply State.onLink_kept | apply State.takeE_kept | apply State.toLink_kept | apply State.ttAgreed_kept | apply kept_ite) | simp only [↓kept_mk_simp] | split | dsimp only

theorem State.applyAgreed_kept {still : Prop} {s0 s : State} (h : Kept still s0 s) (c : Carrier) (g : Agreed) : Kept still s0 (State.applyAgreed s c g) := by
  unfold State.applyAgreed
  try dsimp only
  repeat' first | (with_reducible first | assumption | intro _ | apply State.onLink_kept | apply State.set_kept | apply State.ttLapsed_kept | apply State.wmp_kept | apply kept_ite) | simp only [↓kept_mk_simp] | split | dsimp only

theorem State.capsAck_kept {still : Prop} {s0 s : State} (h : Kept still s0 s) (c : Carrier) (g : Agreed) (body : List Byte) : Kept still s0 (State.capsAck s c g body) := by
  unfold State.capsAck
  try dsimp only
  repeat' first | (with_reducible first | assumption | intro _ | apply State.applyAgreed_kept | apply State.enterAlign_kept | apply State.linkViolation_kept | apply kept_ite) | split | dsimp only

theorem State.capsReceived_kept {still : Prop} {s0 s : State} (h : Kept still s0 s) (c : Carrier) (tag : Nat) (k : Caps) : Kept still s0 (State.capsReceived s c tag k) := by
  unfold State.capsReceived
  try dsimp only
  repeat' first | (with_reducible first | assumption | intro _ | apply State.capsAck_kept | apply State.enterIncompatible_kept | apply State.linkAnswer_kept | apply State.linkNak_kept | apply State.onLine_kept | apply State.onLink_kept | apply State.sendCaps_kept | apply State.set_kept | apply kept_ite) | simp only [↓kept_mk_simp] | refine pair_kept (by assumption) ?_ | split | dsimp only

theorem State.renegotiate_kept {still : Prop} {s0 s : State} (h : Kept still s0 s) (c : Carrier) : Kept still s0 (State.renegotiate s c) := by
  unfold State.renegotiate
  repeat' first | (with_reducible first | assumption | intro _ | apply State.enterNegotiate_kept | apply State.managed_kept | apply State.sendCaps_kept | apply kept_ite) | split | dsimp only

theorem State.sendBeacon_kept {still : Prop} {s0 s : State} (h : Kept still s0 s) (c : Carrier) : Kept still s0 (State.sendBeacon s c) := by
  unfold State.sendBeacon
  repeat' first | (with_reducible first | assumption | intro _ | apply State.headlandSend_kept | apply kept_ite) | split | dsimp only

theorem State.headlandIgnored_kept {still : Prop} {s0 s : State} (h : Kept still s0 s) (c : Carrier) (code : Nat) : Kept still s0 (State.headlandIgnored s c code) := by
  unfold State.headlandIgnored
  repeat' first | (with_reducible first | assumption | intro _ | apply State.bump_kept | apply State.linkViolation_kept) | dsimp only

theorem State.beaconRetry_kept {still : Prop} {s0 s : State} (h : Kept still s0 s) (changed : Bool) (node : Nat) (c : Carrier) : Kept still s0 (State.beaconRetry s changed node c) := by
  unfold State.beaconRetry
  repeat' first | (with_reducible first | assumption | intro _ | apply State.enterNegotiate_kept | apply kept_ite) | split | dsimp only

theorem State.nbEnter_kept {still : Prop} {s0 s : State} (h : Kept still s0 s) (bytes : List Byte) (rssi : Nat) : Kept still s0 (State.nbEnter s bytes rssi) := by
  unfold State.nbEnter
  try dsimp only
  repeat' first | (with_reducible first | assumption | intro _ | apply State.mgrRaise_kept | apply State.set_kept | apply State.setSat_kept | apply kept_ite) | simp only [↓kept_mk_simp] | split | dsimp only

theorem State.candidate_kept {still : Prop} {s0 s : State} (h : Kept still s0 s) (c : Carrier) : Kept still s0 (State.candidate s c) := by
  unfold State.candidate
  try dsimp only
  repeat' first | (with_reducible first | assumption | intro _ | apply State.set_kept | apply kept_foldl) | simp only [↓kept_mk_simp] | refine pair_kept (by assumption) ?_ | split | dsimp only

theorem State.propose_kept {still : Prop} {s0 s : State} (h : Kept still s0 s) (c : Carrier) (kind : Nat) (sole : Bool) (m : Nat) : Kept still s0 (State.propose s c kind sole m) := by
  unfold State.propose
  try dsimp only
  repeat' first | (with_reducible first | assumption | intro _ | apply State.mccSend_kept | apply State.onPlan_kept | apply State.setOwn_kept | apply State.tagUsed_kept | apply kept_ite) | simp only [↓kept_mk_simp] | split | dsimp only

theorem State.withdrawOwn_kept {still : Prop} {s0 s : State} (h : Kept still s0 s) (c : Carrier) (kind : Nat) : Kept still s0 (State.withdrawOwn s c kind) := by
  unfold State.withdrawOwn
  try dsimp only
  repeat' first | (with_reducible first | assumption | intro _ | apply State.commitAbort_kept | apply State.mccSend_kept | apply State.setOwn_kept) | simp only [↓kept_mk_simp] | refine pair_kept (by assumption) ?_ | split | dsimp only

theorem State.replanCommit_kept {still : Prop} {s0 s : State} (h : Kept still s0 s) (c : Carrier) (m : Nat) : Kept still s0 (State.replanCommit s c m) := by
  unfold State.replanCommit
  try dsimp only
  repeat' first | (with_reducible first | assumption | intro _ | apply State.raise_kept | apply State.set_kept | apply State.toH_kept | apply kept_ite) | split | dsimp only

theorem State.rxStepArm_kept {still : Prop} {s0 s : State} (h : Kept still s0 s) (c : Carrier) (m : Nat) : Kept still s0 (State.rxStepArm s c m) := by
  unfold State.rxStepArm
  try dsimp only
  repeat' first | (with_reducible first | assumption | intro _ | apply State.onLine_kept | apply State.set_kept | apply State.setB_kept) | simp only [↓kept_mk_simp] | dsimp only

theorem State.armHeld_kept {still : Prop} {s0 s : State} (h : Kept still s0 s) (c : Carrier) (kind : Nat) : Kept still s0 (State.armHeld s c kind) := by
  unfold State.armHeld
  try dsimp only
  repeat' first | (with_reducible first | assumption | intro _ | apply State.commitAbort_kept | apply State.mgrRaise_kept | apply State.replanCommit_kept | apply State.rxStepArm_kept | apply State.setHeld_kept | apply kept_ite) | simp only [↓kept_mk_simp] | refine pair_kept (by assumption) ?_ | split | dsimp only

theorem State.proposeReceived_kept {still : Prop} {s0 s : State} (h : Kept still s0 s) (c : Carrier) (tag : Nat) (body : List Byte) : Kept still s0 (State.proposeReceived s c tag body) := by
  unfold State.proposeReceived
  try dsimp only
  repeat' first | (with_reducible first | assumption | intro _ | apply State.linkAnswer_kept | apply State.linkMalformed_kept | apply State.linkNak_kept | apply State.onPlan_kept | apply State.setHeld_kept | apply State.withdrawOwn_kept | apply kept_ite) | simp only [↓kept_mk_simp] | refine pair_kept (by assumption) ?_ | split | dsimp only

theorem State.acceptReceived_kept {still : Prop} {s0 s : State} (h : Kept still s0 s) (c : Carrier) (tag : Nat) (body : List Byte) : Kept still s0 (State.acceptReceived s c tag body) := by
  unfold State.acceptReceived
  try dsimp only
  repeat' first | (with_reducible first | assumption | intro _ | apply State.linkMalformed_kept | apply State.linkViolation_kept | apply State.mccSend_kept | apply State.setOwn_kept | apply State.withdrawOwn_kept | apply kept_ite) | simp only [↓kept_mk_simp] | refine pair_kept (by assumption) ?_ | split | dsimp only

theorem State.commitLeft_kept {still : Prop} {s0 s : State} (h : Kept still s0 s) (c : Carrier) (kind : Nat) : Kept still s0 (State.commitLeft s c kind) := by
  unfold State.commitLeft
  try dsimp only
  repeat' first | (with_reducible first | assumption | intro _ | apply State.commitAbort_kept | apply State.mgrRaise_kept | apply State.replanCommit_kept | apply State.setOwn_kept | apply State.stepArm_kept | apply kept_ite) | simp only [↓kept_mk_simp] | refine pair_kept (by assumption) ?_ | split | dsimp only

theorem State.commitOver_kept {still : Prop} {s0 s : State} (h : Kept still s0 s) (c : Carrier) (kind : Nat) (m : Nat) : Kept still s0 (State.commitOver s c kind m) := by
  unfold State.commitOver
  try dsimp only
  repeat' first | (with_reducible first | assumption | intro _ | apply State.onLink_kept | apply State.showCommit_kept) | simp only [↓kept_mk_simp] | dsimp only

theorem State.sendFrame_kept {still : Prop} {s0 s : State} (h : Kept still s0 s) (c : Carrier) : Kept still s0 (State.sendFrame s c) := by
  unfold State.sendFrame
  try dsimp only
  repeat' first | (with_reducible first | assumption | intro _ | apply State.onLine_kept | apply State.recordDeparture_kept | apply State.send_kept | apply State.set_kept | apply kept_ite) | simp only [↓kept_mk_simp] | split | dsimp only

theorem State.laneRun_kept {still : Prop} {s0 s : State} (h : Kept still s0 s) (n : Nat) (k : Nat) : Kept still s0 (State.laneRun s n k) := by
  unfold State.laneRun
  try dsimp only
  repeat' first | (with_reducible first | assumption | intro _ | apply State.bump_kept | apply kept_ite) | simp only [↓kept_mk_simp] | split | dsimp only

theorem State.laneHears_kept {still : Prop} {s0 s : State} (h : Kept still s0 s) (n : Nat) (ball : List (Fin 4)) : Kept still s0 (State.laneHears s n ball).2 := by
  unfold State.laneHears
  try dsimp only
  repeat' first | (with_reducible first | assumption | intro _ | apply State.laneRun_kept | apply kept_ite) | simp only [↓kept_mk_simp] | split | dsimp only

theorem State.drawPort_kept {still : Prop} {s0 s : State} (h : Kept still s0 s) (p : Nat) (c : Carrier) (n : Nat) : Kept still s0 (State.drawPort s p c n) := by
  unfold State.drawPort
  try dsimp only
  repeat' first | (with_reducible first | assumption | intro _ | apply State.onPort_kept) | simp only [↓kept_mk_simp] | refine pair_kept (by assumption) ?_ | split | dsimp only

theorem State.wordsDue_kept {still : Prop} {s0 s : State} (h : Kept still s0 s) (p : Nat) (due : DueWords) : Kept still s0 (State.wordsDue s p due) := by
  unfold State.wordsDue
  try dsimp only
  repeat' first | (with_reducible first | assumption | intro _ | apply State.drawPort_kept | apply State.egressDrain_kept | apply kept_ite) | split | dsimp only

theorem State.portWords_kept {still : Prop} {s0 s : State} (h : Kept still s0 s) (c : Carrier) (p : Nat) (n : Nat) : Kept still s0 (State.portWords s c p n).2 := by
  unfold State.portWords
  try dsimp only
  repeat' first | (with_reducible first | assumption | intro _ | apply State.drawPort_kept | apply State.onPort_kept) | simp only [↓kept_mk_simp] | dsimp only

theorem State.allWords_kept {still : Prop} {s0 s : State} (h : Kept still s0 s) (c : Carrier) (cap : Nat) (words : Nat) : Kept still s0 (State.allWords s c cap words).2 := by
  unfold State.allWords
  try dsimp only
  repeat' first | (with_reducible first | assumption | intro _ | apply State.portWords_kept | apply kept_foldl | apply kept_foldl_snd) | simp only [↓kept_mk_simp] | refine pair_kept (by assumption) ?_ | split | dsimp only

theorem State.endMf_kept {still : Prop} {s0 s : State} (h : Kept still s0 s) (c : Carrier) : Kept still s0 (State.endMf s c) := by
  unfold State.endMf
  try dsimp only
  repeat' first | (with_reducible first | assumption | intro _ | apply State.allWords_kept | apply State.forward_kept | apply kept_ite) | simp only [↓kept_mk_simp] | refine pair_kept (by assumption) ?_ | split | dsimp only

theorem State.startMf_kept {s0 s : State} (h : Kept False s0 s) (c : Carrier) : Kept False s0 (State.startMf s c) := by
  unfold State.startMf
  try dsimp only
  repeat' first | (with_reducible first | assumption | intro _ | apply State.bump_kept | apply State.endMf_kept | apply State.entriesRemade_kept | apply State.onLine_kept | apply State.raise_kept | apply State.set_kept | apply State.setS_kept | apply State.setSat_kept | apply kept_ite) | simp only [↓kept_mk_simp] | split | dsimp only

theorem State.toAlign_kept {still : Prop} {s0 s : State} (h : Kept still s0 s) (c : Carrier) (st : Nat) : Kept still s0 (State.toAlign s c st) := by
  unfold State.toAlign
  repeat' first | (with_reducible first | assumption | intro _ | apply State.set_kept) | dsimp only

theorem State.fawMatch_kept {still : Prop} {s0 s : State} (h : Kept still s0 s) (c : Carrier) (pos : Nat) : Kept still s0 (State.fawMatch s c pos) := by
  unfold State.fawMatch
  try dsimp only
  repeat' first | (with_reducible first | assumption | intro _ | apply State.frameRaise_kept | apply State.onLine_kept | apply State.toAlign_kept | apply kept_ite) | simp only [↓kept_mk_simp] | split | dsimp only

theorem State.fawMiss_kept {still : Prop} {s0 s : State} (h : Kept still s0 s) (c : Carrier) : Kept still s0 (State.fawMiss s c) := by
  unfold State.fawMiss
  try dsimp only
  repeat' first | (with_reducible first | assumption | intro _ | apply State.alignLost_kept | apply State.bump_kept | apply State.faultLog_kept | apply State.onLine_kept | apply State.toAlign_kept | apply kept_ite) | simp only [↓kept_mk_simp] | split | dsimp only

theorem State.mfHunt_kept {still : Prop} {s0 s : State} (h : Kept still s0 s) (c : Carrier) (n : Nat) : Kept still s0 (State.mfHunt s c n) := by
  unfold State.mfHunt
  try dsimp only
  repeat' first | (with_reducible first | assumption | intro _ | apply State.frameRaise_kept | apply State.onLine_kept | apply State.set_kept | apply kept_ite) | simp only [↓kept_mk_simp] | refine pair_kept (by assumption) ?_ | split | dsimp only

theorem State.mfTrack_kept {still : Prop} {s0 s : State} (h : Kept still s0 s) (c : Carrier) (good : Option Nat) : Kept still s0 (State.mfTrack s c good) := by
  unfold State.mfTrack
  try dsimp only
  repeat' first | (with_reducible first | assumption | intro _ | apply State.mfHunt_kept | apply State.mfLost_kept | apply State.onLine_kept | apply State.set_kept | apply kept_ite) | simp only [↓kept_mk_simp] | refine pair_kept (by assumption) ?_ | split | dsimp only

theorem State.peerFields_kept {still : Prop} {s0 s : State} (h : Kept still s0 s) (c : Carrier) (oh : List Byte) : Kept still s0 (State.peerFields s c oh) := by
  unfold State.peerFields
  try dsimp only
  repeat' first | (with_reducible first | assumption | intro _ | apply State.frameRaise_kept | apply State.set_kept | apply kept_ite | apply kept_foldl) | split | dsimp only

theorem State.announced_kept {still : Prop} {s0 s : State} (h : Kept still s0 s) (c : Carrier) (oh : List Byte) : Kept still s0 (State.announced s c oh) := by
  unfold State.announced
  try dsimp only
  repeat' first | (with_reducible first | assumption | intro _ | apply State.armHeld_kept | apply State.frameRaise_kept | apply State.linkViolation_kept | apply State.managed_kept | apply State.onLine_kept | apply State.rxStepArm_kept | apply State.set_kept | apply kept_ite) | simp only [↓kept_mk_simp] | refine pair_kept (by assumption) ?_ | split | dsimp only

theorem State.peerChecks_kept {still : Prop} {s0 s : State} (h : Kept still s0 s) (c : Carrier) (oh : List Byte) (node0 : Nat) : Kept still s0 (State.peerChecks s c oh node0) := by
  unfold State.peerChecks
  try dsimp only
  repeat' first | (with_reducible first | assumption | intro _ | apply State.enterIncompatible_kept | apply State.enterNegotiate_kept | apply State.forward_kept | apply State.linkViolation_kept | apply State.mgrRaise_kept | apply State.onLine_kept | apply State.set_kept | apply kept_ite) | simp only [↓kept_mk_simp] | split | dsimp only

theorem State.blockAlign_kept {still : Prop} {s0 s : State} (h : Kept still s0 s) (c : Carrier) (ptr : Nat) : Kept still s0 (State.blockAlign s c ptr) := by
  unfold State.blockAlign
  try dsimp only
  repeat' first | (with_reducible first | assumption | intro _ | apply State.onLine_kept | apply State.set_kept) | simp only [↓kept_mk_simp] | dsimp only

theorem State.logFrame_kept {still : Prop} {s0 s : State} (h : Kept still s0 s) (c : Carrier) (number : Option Nat) : Kept still s0 (State.logFrame s c number) := by
  unfold State.logFrame
  try dsimp only
  repeat' first | (with_reducible first | assumption | intro _ | apply State.onLine_kept) | simp only [↓kept_mk_simp] | dsimp only

theorem State.goodOverhead_kept {still : Prop} {s0 s : State} (h : Kept still s0 s) (c : Carrier) (bytes : List Byte) : Kept still s0 (State.goodOverhead s c bytes) := by
  unfold State.goodOverhead
  try dsimp only
  repeat' first | (with_reducible first | assumption | intro _ | apply State.announced_kept | apply State.blockAlign_kept | apply State.linkViolation_kept | apply State.logFrame_kept | apply State.managed_kept | apply State.mfTrack_kept | apply State.onLine_kept | apply State.peerChecks_kept | apply State.peerFields_kept | apply State.raise_kept | apply State.set_kept | apply State.stampArrival_kept | apply State.takeE_kept | apply State.transferArrival_kept | apply kept_ite) | simp only [↓kept_mk_simp] | split | dsimp only

theorem State.overheadIn_kept {still : Prop} {s0 s : State} (h : Kept still s0 s) (c : Carrier) (bytes : List Byte) : Kept still s0 (State.overheadIn s c bytes) := by
  unfold State.overheadIn
  try dsimp only
  repeat' first | (with_reducible first | assumption | intro _ | apply State.bump_kept | apply State.frameRaise_kept | apply State.goodOverhead_kept | apply State.logFrame_kept | apply State.mfTrack_kept | apply State.onLine_kept | apply State.set_kept | apply State.setSat_kept | apply State.transferBad_kept | apply kept_ite) | simp only [↓kept_mk_simp] | refine pair_kept (by assumption) ?_ | split | dsimp only

theorem State.asmDrop_kept {still : Prop} {s0 s : State} (h : Kept still s0 s) (c : Carrier) : Kept still s0 (State.asmDrop s c) := by
  unfold State.asmDrop
  try dsimp only
  repeat' first | (with_reducible first | assumption | intro _ | apply State.bump_kept | apply State.onLine_kept | apply kept_ite) | simp only [↓kept_mk_simp] | split | dsimp only

theorem State.asmDone_kept {still : Prop} {s0 s : State} (h : Kept still s0 s) (c : Carrier) (msg : List Byte) : Kept still s0 (State.asmDone s c msg) := by
  unfold State.asmDone
  try dsimp only
  repeat' first | (with_reducible first | assumption | intro _ | apply State.bump_kept | apply State.deliver?_kept | apply State.linkMalformed_kept | apply State.linkNak_kept | apply State.linkViolation_kept | apply State.managed_kept | apply State.onLine_kept | apply kept_ite) | simp only [↓kept_mk_simp] | split | dsimp only

theorem State.cellIn_kept {still : Prop} {s0 s : State} (h : Kept still s0 s) (c : Carrier) (cell : List Byte) : Kept still s0 (State.cellIn s c cell) := by
  unfold State.cellIn
  try dsimp only
  repeat' first | (with_reducible first | assumption | intro _ | apply State.asmDone_kept | apply State.asmDrop_kept | apply State.bump_kept | apply State.linkViolation_kept | apply State.onLine_kept | apply kept_ite) | simp only [↓kept_mk_simp] | refine pair_kept (by assumption) ?_ | split | dsimp only

theorem State.frameTold_kept {still : Prop} {s0 s : State} (h : Kept still s0 s) (c : Carrier) (corr : Nat) (later : Nat) (unc : Bool) : Kept still s0 (State.frameTold s c corr later unc) := by
  unfold State.frameTold
  try dsimp only
  repeat' first | (with_reducible first | assumption | intro _ | apply State.onLine_kept | apply State.tapped_kept | apply kept_ite) | simp only [↓kept_mk_simp] | split | dsimp only

theorem State.decodedBlock_kept {still : Prop} {s0 s : State} (h : Kept still s0 s) (c : Carrier) (corr : Nat) (later : Nat) (reached : Option Nat) : Kept still s0 (State.decodedBlock s c corr later reached) := by
  unfold State.decodedBlock
  try dsimp only
  repeat' first | (with_reducible first | assumption | intro _ | apply State.fecRaise_kept | apply State.frameTold_kept | apply State.onLine_kept | apply State.setSat_kept | apply kept_ite) | simp only [↓kept_mk_simp] | refine pair_kept (by assumption) ?_ | split | dsimp only

theorem State.engineFail_kept {still : Prop} {s0 s : State} (h : Kept still s0 s) (c : Carrier) (e : Nat) : Kept still s0 (State.engineFail s c e) := by
  unfold State.engineFail
  try dsimp only
  repeat' first | (with_reducible first | assumption | intro _ | apply State.faultLog_kept | apply State.fecRaise_kept | apply State.markInService_kept | apply State.set_kept | apply kept_ite) | simp only [↓kept_mk_simp] | refine pair_kept (by assumption) ?_ | split | dsimp only

theorem State.snapCopy_kept {still : Prop} {s0 s : State} (h : Kept still s0 s) (c : Carrier) (now : List Nat) : Kept still s0 (State.snapCopy s c now) := by
  unfold State.snapCopy
  try dsimp only
  repeat' first | (with_reducible first | assumption | intro _ | apply State.onLine_kept | apply State.ovfMap_kept | apply State.raise_kept | apply State.set_kept) | simp only [↓kept_mk_simp] | refine pair_kept (by assumption) ?_ | split | dsimp only

theorem State.degrade_kept {still : Prop} {s0 s : State} (h : Kept still s0 s) (c : Carrier) (corr : Nat) (bits : Nat) : Kept still s0 (State.degrade s c corr bits) := by
  unfold State.degrade
  try dsimp only
  repeat' first | (with_reducible first | assumption | intro _ | apply State.fecRaise_kept | apply State.onLine_kept | apply State.set_kept | apply kept_ite) | simp only [↓kept_mk_simp] | split | dsimp only

theorem State.mfChecks_kept {still : Prop} {s0 s : State} (h : Kept still s0 s) (c : Carrier) : Kept still s0 (State.mfChecks s c) := by
  unfold State.mfChecks
  try dsimp only
  repeat' first | (with_reducible first | assumption | intro _ | apply State.enterLost_kept | apply State.managed_kept | apply State.onLine_kept | apply State.renegotiate_kept | apply kept_ite) | simp only [↓kept_mk_simp] | split | dsimp only

theorem State.rxMfEnd_kept {s0 s : State} (h : Kept False s0 s) (c : Carrier) (bits : Nat) (words : List (BitVec 128)) : Kept False s0 (State.rxMfEnd s c bits words) := by
  unfold State.rxMfEnd
  try dsimp only
  repeat' first | (with_reducible first | assumption | intro _ | apply State.degrade_kept | apply State.entriesRemade_kept | apply State.forward_kept | apply State.mfChecks_kept | apply State.onLine_kept | apply State.setB_kept | apply State.setSat_kept | apply kept_ite) | simp only [↓kept_mk_simp] | split | dsimp only

theorem execLineFrameSend_kept {still : Prop} {s0 s : State} (h : Kept still s0 s) (c : Carrier) : KeptO still s0 (execLineFrameSend c s) := by
  unfold execLineFrameSend
  repeat' first | (with_reducible first | assumption | intro _ | apply State.sendFrame_kept | apply KeptO.next) | dsimp only

theorem execTxMultiframeStart_kept {s0 s : State} (h : Kept False s0 s) (c : Carrier) : KeptO False s0 (execTxMultiframeStart c s) := by
  unfold execTxMultiframeStart
  try dsimp only
  repeat' first | (with_reducible first | assumption | intro _ | apply State.setHeld_kept | apply State.startMf_kept | apply KeptO.next | apply kept_iteO | apply kept_ite) | simp only [↓kept_mk_simp] | refine pair_kept (by assumption) ?_ | split | dsimp only

theorem execAdopt_kept {still : Prop} {s0 s : State} (h : Kept still s0 s) (path : Path) (c : Carrier) : KeptO still s0 (execAdopt path c s) := by
  unfold execAdopt
  repeat' first | (with_reducible first | assumption | intro _ | apply State.adopt_kept | apply State.rwWrite_kept | apply KeptO.next) | dsimp only

theorem execFawMatch_kept {still : Prop} {s0 s : State} (h : Kept still s0 s) (c : Carrier) (position : Nat) (signs : List Byte) : KeptO still s0 (execFawMatch c position signs s) := by
  unfold execFawMatch
  repeat' first | (with_reducible first | assumption | intro _ | apply State.fawMatch_kept | apply KeptO.next | apply kept_iteO | apply kept_ite) | split | dsimp only

theorem execFawMiss_kept {still : Prop} {s0 s : State} (h : Kept still s0 s) (c : Carrier) (signs : List Byte) : KeptO still s0 (execFawMiss c signs s) := by
  unfold execFawMiss
  repeat' first | (with_reducible first | assumption | intro _ | apply State.fawMiss_kept | apply KeptO.next | apply kept_iteO | apply kept_ite) | split | dsimp only

theorem execResync_kept {still : Prop} {s0 s : State} (h : Kept still s0 s) (path : Path) (c : Carrier) : KeptO still s0 (execResync path c s) := by
  unfold execResync
  repeat' first | (with_reducible first | assumption | intro _ | apply State.alignLost_kept | apply State.rwWrite_kept | apply KeptO.next) | dsimp only

theorem execOverheadReceived_kept {still : Prop} {s0 s : State} (h : Kept still s0 s) (c : Carrier) (bytes : List Byte) : KeptO still s0 (execOverheadReceived c bytes s) := by
  unfold execOverheadReceived
  repeat' first | (with_reducible first | assumption | intro _ | apply State.overheadIn_kept | apply KeptO.next) | dsimp only

theorem execMccCellReceived_kept {still : Prop} {s0 s : State} (h : Kept still s0 s) (c : Carrier) (cell : List Byte) : KeptO still s0 (execMccCellReceived c cell s) := by
  unfold execMccCellReceived
  repeat' first | (with_reducible first | assumption | intro _ | apply State.cellIn_kept | apply KeptO.next) | dsimp only

theorem execRxStepArm_kept {still : Prop} {s0 s : State} (h : Kept still s0 s) (path : Path) (c : Carrier) (mf : Nat) : KeptO still s0 (execRxStepArm path c mf s) := by
  unfold execRxStepArm
  repeat' first | (with_reducible first | assumption | intro _ | apply State.bump_kept | apply State.downAccess_kept | apply State.ploughOnly_kept | apply State.rxStepArm_kept | apply KeptO.next | apply kept_iteO | apply kept_ite) | split | dsimp only

theorem execRxStepDeadline_kept {still : Prop} {s0 s : State} (h : Kept still s0 s) (c : Carrier) : KeptO still s0 (execRxStepDeadline c s) := by
  unfold execRxStepDeadline
  try dsimp only
  repeat' first | (with_reducible first | assumption | intro _ | apply State.frameRaise_kept | apply KeptO.next | apply kept_iteO | apply kept_ite) | split | dsimp only

theorem execRxStepSwitch_kept {still : Prop} {s0 s : State} (h : Kept still s0 s) (c : Carrier) : KeptO still s0 (execRxStepSwitch c s) := by
  unfold execRxStepSwitch
  try dsimp only
  repeat' first | (with_reducible first | assumption | intro _ | apply State.commitOver_kept | apply State.onLine_kept | apply State.set_kept | apply KeptO.next | apply kept_iteO | apply kept_ite) | simp only [↓kept_mk_simp] | split | dsimp only

theorem execFecBlockDecoded_kept {still : Prop} {s0 s : State} (h : Kept still s0 s) (c : Carrier) (corrected : Nat) (later : Nat) (reached : Option (Fin 13)) : KeptO still s0 (execFecBlockDecoded c corrected later reached s) := by
  unfold execFecBlockDecoded
  repeat' first | (with_reducible first | assumption | intro _ | apply State.corrected_kept | apply State.decodedBlock_kept | apply KeptO.next) | dsimp only

theorem execEngineResidueFail_kept {still : Prop} {s0 s : State} (h : Kept still s0 s) (c : Carrier) (engine : Fin 13) : KeptO still s0 (execEngineResidueFail c engine s) := by
  unfold execEngineResidueFail
  repeat' first | (with_reducible first | assumption | intro _ | apply State.engineFail_kept | apply KeptO.next | apply kept_iteO | apply kept_ite) | split | dsimp only

theorem execFecSnapshot_kept {still : Prop} {s0 s : State} (h : Kept still s0 s) (path : Path) (c : Carrier) (clear : Bool) : KeptO still s0 (execFecSnapshot path c clear s) := by
  unfold execFecSnapshot
  try dsimp only
  repeat' first | (with_reducible first | assumption | intro _ | apply State.onLine_kept | apply State.rwWrite_kept | apply KeptO.next | apply kept_iteO | apply kept_ite) | simp only [↓kept_mk_simp] | split | dsimp only

theorem execFecSnapshotCopy_kept {still : Prop} {s0 s : State} (h : Kept still s0 s) (c : Carrier) (now : List Nat) : KeptO still s0 (execFecSnapshotCopy c now s) := by
  unfold execFecSnapshotCopy
  repeat' first | (with_reducible first | assumption | intro _ | apply State.snapCopy_kept | apply KeptO.next) | dsimp only

theorem execRxMultiframeEnd_kept {s0 s : State} (h : Kept False s0 s) (c : Carrier) (labelBits : Nat) (words : List (BitVec 128)) : KeptO False s0 (execRxMultiframeEnd c labelBits words s) := by
  unfold execRxMultiframeEnd
  repeat' first | (with_reducible first | assumption | intro _ | apply State.rxMfEnd_kept | apply KeptO.next) | dsimp only

theorem execEntropyStep_kept {still : Prop} {s0 s : State} (h : Kept still s0 s) (c : Carrier) : KeptO still s0 (execEntropyStep c s) := by
  unfold execEntropyStep
  repeat' first | (with_reducible first | assumption | intro _ | apply State.commitOver_kept | apply State.stepDone_kept | apply KeptO.next | apply kept_iteO | apply kept_ite) | split | dsimp only

theorem execLocked_kept {still : Prop} {s0 s : State} (h : Kept still s0 s) (c : Carrier) : KeptO still s0 (execLocked c s) := by
  unfold execLocked
  repeat' first | (with_reducible first | assumption | intro _ | apply State.enterNegotiate_kept | apply State.managed_kept | apply KeptO.next | apply kept_iteO | apply kept_ite) | split | dsimp only

theorem execCapsReceived_kept {still : Prop} {s0 s : State} (h : Kept still s0 s) (c : Carrier) (tag : Nat) (body : List Byte) : KeptO still s0 (execCapsReceived c tag body s) := by
  unfold execCapsReceived
  try dsimp only
  repeat' first | (with_reducible first | assumption | intro _ | apply State.capsReceived_kept | apply State.linkMalformed_kept | apply State.linkRequest_kept | apply State.managed_kept | apply State.mccTake_kept | apply KeptO.next | apply kept_iteO | apply kept_ite) | simp only [↓kept_mk_simp] | refine pair_kept (by assumption) ?_ | split | dsimp only

theorem execCapsAckReceived_kept {still : Prop} {s0 s : State} (h : Kept still s0 s) (c : Carrier) (tag : Nat) (body : List Byte) (rtt : Nat) : KeptO still s0 (execCapsAckReceived c tag body rtt s) := by
  unfold execCapsAckReceived
  try dsimp only
  repeat' first | (with_reducible first | assumption | intro _ | apply State.capsAck_kept | apply State.linkMalformed_kept | apply State.managed_kept | apply State.mccTake_kept | apply State.onLink_kept | apply State.setSat_kept | apply KeptO.next | apply kept_iteO | apply kept_ite) | simp only [↓kept_mk_simp] | refine pair_kept (by assumption) ?_ | split | dsimp only

theorem execRequestRetry_kept {still : Prop} {s0 s : State} (h : Kept still s0 s) (c : Carrier) (request : Fin 3) : KeptO still s0 (execRequestRetry c request s) := by
  unfold execRequestRetry
  try dsimp only
  repeat' first | (with_reducible first | assumption | intro _ | apply State.backoffUp_kept | apply State.enterLost_kept | apply State.managed_kept | apply State.mccSend_kept | apply State.onLink_kept | apply State.setOwn_kept | apply State.withdrawOwn_kept | apply KeptO.next | apply kept_iteO | apply kept_ite) | simp only [↓kept_mk_simp] | refine pair_kept (by assumption) ?_ | split | dsimp only

theorem execAlignComplete_kept {still : Prop} {s0 s : State} (h : Kept still s0 s) (c : Carrier) : KeptO still s0 (execAlignComplete c s) := by
  unfold execAlignComplete
  try dsimp only
  repeat' first | (with_reducible first | assumption | intro _ | apply State.managed_kept | apply State.mgrRaise_kept | apply State.toLink_kept | apply KeptO.next | apply kept_iteO | apply kept_ite) | split | dsimp only

theorem execAlignTimeout_kept {still : Prop} {s0 s : State} (h : Kept still s0 s) (c : Carrier) : KeptO still s0 (execAlignTimeout c s) := by
  unfold execAlignTimeout
  repeat' first | (with_reducible first | assumption | intro _ | apply State.backoffUp_kept | apply State.enterLost_kept | apply State.managed_kept | apply KeptO.next | apply kept_iteO | apply kept_ite) | split | dsimp only

theorem execLossHoldExpired_kept {still : Prop} {s0 s : State} (h : Kept still s0 s) (c : Carrier) : KeptO still s0 (execLossHoldExpired c s) := by
  unfold execLossHoldExpired
  try dsimp only
  repeat' first | (with_reducible first | assumption | intro _ | apply State.enterLost_kept | apply State.headlandSend_kept | apply State.managed_kept | apply KeptO.next | apply kept_iteO | apply kept_ite) | split | dsimp only

theorem execBackoffExpired_kept {still : Prop} {s0 s : State} (h : Kept still s0 s) (c : Carrier) : KeptO still s0 (execBackoffExpired c s) := by
  unfold execBackoffExpired
  try dsimp only
  repeat' first | (with_reducible first | assumption | intro _ | apply State.enterNegotiate_kept | apply State.managed_kept | apply State.onLink_kept | apply KeptO.next | apply kept_iteO | apply kept_ite) | simp only [↓kept_mk_simp] | split | dsimp only

theorem execIncompatibleRetry_kept {still : Prop} {s0 s : State} (h : Kept still s0 s) (c : Carrier) : KeptO still s0 (execIncompatibleRetry c s) := by
  unfold execIncompatibleRetry
  repeat' first | (with_reducible first | assumption | intro _ | apply State.enterNegotiate_kept | apply State.managed_kept | apply KeptO.next | apply kept_iteO | apply kept_ite) | split | dsimp only

theorem execRenegotiate_kept {still : Prop} {s0 s : State} (h : Kept still s0 s) (path : Path) (c : Carrier) : KeptO still s0 (execRenegotiate path c s) := by
  unfold execRenegotiate
  repeat' first | (with_reducible first | assumption | intro _ | apply State.renegotiate_kept | apply State.rwWrite_kept | apply KeptO.next) | dsimp only

theorem execTakeE_kept {still : Prop} {s0 s : State} (h : Kept still s0 s) (path : Path) (c : Carrier) : KeptO still s0 (execTakeE path c s) := by
  unfold execTakeE
  repeat' first | (with_reducible first | assumption | intro _ | apply State.downAccess_kept | apply State.ploughOnly_kept | apply State.takeE_kept | apply KeptO.next | apply kept_iteO | apply kept_ite) | split | dsimp only

theorem execTakeEApply_kept {still : Prop} {s0 s : State} (h : Kept still s0 s) (c : Carrier) : KeptO still s0 (execTakeEApply c s) := by
  unfold execTakeEApply
  try dsimp only
  repeat' first | (with_reducible first | assumption | intro _ | apply State.onLine_kept | apply State.onLink_kept | apply State.takeE_kept | apply KeptO.next) | simp only [↓kept_mk_simp] | refine pair_kept (by assumption) ?_ | split | dsimp only

theorem execBeaconTimer_kept {still : Prop} {s0 s : State} (h : Kept still s0 s) (c : Carrier) : KeptO still s0 (execBeaconTimer c s) := by
  unfold execBeaconTimer
  repeat' first | (with_reducible first | assumption | intro _ | apply State.managed_kept | apply State.sendBeacon_kept | apply KeptO.next) | dsimp only

theorem execBeaconReceived_kept {still : Prop} {s0 s : State} (h : Kept still s0 s) (c : Carrier) (bytes : List Byte) (rssi : Nat) : KeptO still s0 (execBeaconReceived c bytes rssi s) := by
  unfold execBeaconReceived
  try dsimp only
  repeat' first | (with_reducible first | assumption | intro _ | apply State.beaconRetry_kept | apply State.candidate_kept | apply State.headlandIgnored_kept | apply State.linkViolation_kept | apply State.managed_kept | apply State.nbEnter_kept | apply State.set_kept | apply KeptO.next | apply kept_iteO | apply kept_ite | apply kept_foldl) | split | dsimp only

theorem execQueryReceived_kept {still : Prop} {s0 s : State} (h : Kept still s0 s) (c : Carrier) (bytes : List Byte) (recent : Bool) : KeptO still s0 (execQueryReceived c bytes recent s) := by
  unfold execQueryReceived
  try dsimp only
  repeat' first | (with_reducible first | assumption | intro _ | apply State.headlandIgnored_kept | apply State.managed_kept | apply State.sendBeacon_kept | apply KeptO.next | apply kept_iteO | apply kept_ite) | split | dsimp only

theorem execLinkDownReceived_kept {still : Prop} {s0 s : State} (h : Kept still s0 s) (c : Carrier) (bytes : List Byte) : KeptO still s0 (execLinkDownReceived c bytes s) := by
  unfold execLinkDownReceived
  try dsimp only
  repeat' first | (with_reducible first | assumption | intro _ | apply State.headlandIgnored_kept | apply State.managed_kept | apply State.onLink_kept | apply KeptO.next | apply kept_iteO | apply kept_ite) | simp only [↓kept_mk_simp] | split | dsimp only

theorem execNeighbourExpired_kept {still : Prop} {s0 s : State} (h : Kept still s0 s) (entry : Fin 16) : KeptO still s0 (execNeighbourExpired entry s) := by
  unfold execNeighbourExpired
  try dsimp only
  repeat' first | (with_reducible first | assumption | intro _ | apply State.candidate_kept | apply State.managed_kept | apply State.mgrRaise_kept | apply State.set_kept | apply State.wr_kept | apply KeptO.next | apply kept_iteO | apply kept_ite | apply kept_foldl) | simp only [↓kept_mk_simp] | split | dsimp only

theorem execProposeReceived_kept {still : Prop} {s0 s : State} (h : Kept still s0 s) (c : Carrier) (tag : Nat) (body : List Byte) : KeptO still s0 (execProposeReceived c tag body s) := by
  unfold execProposeReceived
  repeat' first | (with_reducible first | assumption | intro _ | apply State.linkRequest_kept | apply State.managed_kept | apply State.mccTake_kept | apply State.proposeReceived_kept | apply KeptO.next) | dsimp only

theorem execAcceptReceived_kept {still : Prop} {s0 s : State} (h : Kept still s0 s) (c : Carrier) (tag : Nat) (body : List Byte) (rtt : Nat) : KeptO still s0 (execAcceptReceived c tag body rtt s) := by
  unfold execAcceptReceived
  try dsimp only
  repeat' first | (with_reducible first | assumption | intro _ | apply State.acceptReceived_kept | apply State.managed_kept | apply State.mccTake_kept | apply State.setSat_kept | apply KeptO.next | apply kept_iteO | apply kept_ite) | split | dsimp only

theorem execCommitLeftQueue_kept {still : Prop} {s0 s : State} (h : Kept still s0 s) (c : Carrier) (step : Bool) : KeptO still s0 (execCommitLeftQueue c step s) := by
  unfold execCommitLeftQueue
  repeat' first | (with_reducible first | assumption | intro _ | apply State.commitLeft_kept | apply State.managed_kept | apply KeptO.next | apply kept_iteO | apply kept_ite) | split | dsimp only

theorem execCommitReceived_kept {still : Prop} {s0 s : State} (h : Kept still s0 s) (c : Carrier) (tag : Nat) (body : List Byte) : KeptO still s0 (execCommitReceived c tag body s) := by
  unfold execCommitReceived
  try dsimp only
  repeat' first | (with_reducible first | assumption | intro _ | apply State.armHeld_kept | apply State.linkMalformed_kept | apply State.linkViolation_kept | apply State.managed_kept | apply State.mccTake_kept | apply KeptO.next | apply kept_iteO | apply kept_ite) | simp only [↓kept_mk_simp] | refine pair_kept (by assumption) ?_ | split | dsimp only

theorem execWithdrawReceived_kept {still : Prop} {s0 s : State} (h : Kept still s0 s) (c : Carrier) (tag : Nat) (body : List Byte) : KeptO still s0 (execWithdrawReceived c tag body s) := by
  unfold execWithdrawReceived
  try dsimp only
  repeat' first | (with_reducible first | assumption | intro _ | apply State.commitAbort_kept | apply State.linkMalformed_kept | apply State.linkViolation_kept | apply State.managed_kept | apply State.mccTake_kept | apply State.setHeld_kept | apply KeptO.next | apply kept_iteO | apply kept_ite) | simp only [↓kept_mk_simp] | refine pair_kept (by assumption) ?_ | split | dsimp only

theorem execNakReceived_kept {still : Prop} {s0 s : State} (h : Kept still s0 s) (c : Carrier) (tag : Nat) (code : Nat) (rtt : Nat) : KeptO still s0 (execNakReceived c tag code rtt s) := by
  unfold execNakReceived
  try dsimp only
  repeat' first | (with_reducible first | assumption | intro _ | apply State.managed_kept | apply State.mccTake_kept | apply State.onLink_kept | apply State.setOwn_kept | apply State.setSat_kept | apply State.withdrawOwn_kept | apply KeptO.next | apply kept_iteO | apply kept_ite) | simp only [↓kept_mk_simp] | refine pair_kept (by assumption) ?_ | split | dsimp only

theorem execProposalDeadline_kept {still : Prop} {s0 s : State} (h : Kept still s0 s) (c : Carrier) (step : Bool) : KeptO still s0 (execProposalDeadline c step s) := by
  unfold execProposalDeadline
  try dsimp only
  repeat' first | (with_reducible first | assumption | intro _ | apply State.managed_kept | apply State.withdrawOwn_kept | apply KeptO.next | apply kept_iteO | apply kept_ite) | simp only [↓kept_mk_simp] | refine pair_kept (by assumption) ?_ | split | dsimp only

theorem execAcceptedDeadline_kept {still : Prop} {s0 s : State} (h : Kept still s0 s) (c : Carrier) (step : Bool) : KeptO still s0 (execAcceptedDeadline c step s) := by
  unfold execAcceptedDeadline
  try dsimp only
  repeat' first | (with_reducible first | assumption | intro _ | apply State.abortSwitch_kept | apply State.commitAbort_kept | apply State.managed_kept | apply State.setHeld_kept | apply KeptO.next | apply kept_iteO | apply kept_ite) | simp only [↓kept_mk_simp] | refine pair_kept (by assumption) ?_ | split | dsimp only

theorem execPropose_kept {still : Prop} {s0 s : State} (h : Kept still s0 s) (c : Carrier) (step : Bool) (sole : Bool) (mf : Nat) : KeptO still s0 (execPropose c step sole mf s) := by
  unfold execPropose
  repeat' first | (with_reducible first | assumption | intro _ | apply State.managed_kept | apply State.propose_kept | apply KeptO.next | apply kept_iteO | apply kept_ite) | split | dsimp only

theorem State.ingressCount_kept {still : Prop} {s0 s : State} (h : Kept still s0 s) (p : Nat) (f : ClientFrame) : Kept still s0 (State.ingressCount s p f) := by
  unfold State.ingressCount
  try dsimp only
  repeat' first | (with_reducible first | assumption | intro _ | apply State.clientViolationQuiet_kept | apply State.corrected_kept | apply State.onPort_kept | apply kept_ite) | simp only [↓kept_mk_simp] | split | dsimp only

theorem State.frameIn_kept {still : Prop} {s0 s : State} (h : Kept still s0 s) (p : Nat) (f : ClientFrame) : Kept still s0 (State.frameIn s p f) := by
  unfold State.frameIn
  try dsimp only
  repeat' first | (with_reducible first | assumption | intro _ | apply State.bump_kept | apply State.clientViolation_kept | apply State.ingressCount_kept | apply State.ingressRecord_kept | apply State.onPort_kept | apply State.stampIn_kept | apply kept_ite) | simp only [↓kept_mk_simp] | refine pair_kept (by assumption) ?_ | split | dsimp only

theorem State.setReceived_kept {still : Prop} {s0 s : State} (h : Kept still s0 s) (p : Nat) (set : Nat) : Kept still s0 (State.setReceived s p set) := by
  unfold State.setReceived
  try dsimp only
  repeat' first | (with_reducible first | assumption | intro _ | apply State.clientViolation_kept | apply State.ingressRecord_kept | apply State.onPort_kept | apply State.set_kept | apply kept_ite) | simp only [↓kept_mk_simp] | split | dsimp only

theorem State.onCopy_kept {still : Prop} {s0 s : State} (h : Kept still s0 s) (p : Nat) (c : Carrier) (f : CopySt → CopySt) : Kept still s0 (State.onCopy s p c f) := by
  unfold State.onCopy
  try dsimp only
  repeat' first | (with_reducible first | assumption | intro _ | apply State.onPort_kept) | simp only [↓kept_mk_simp] | dsimp only

theorem State.forwardRest_kept {still : Prop} {s0 s : State} (h : Kept still s0 s) (p : Nat) (bad : Bool) (g : Segment) : Kept still s0 (State.forwardRest s p bad g) := by
  unfold State.forwardRest
  repeat' first | (with_reducible first | assumption | intro _ | apply State.forward_kept | apply kept_foldl) | dsimp only

theorem State.alignedLost_kept {still : Prop} {s0 s : State} (h : Kept still s0 s) (p : Nat) : Kept still s0 (State.alignedLost s p) := by
  unfold State.alignedLost
  repeat' first | (with_reducible first | assumption | intro _ | apply State.clientEvent_kept | apply State.set_kept | apply kept_ite) | split | dsimp only

theorem State.switchTo_kept {still : Prop} {s0 s : State} (h : Kept still s0 s) (p : Nat) (c : Carrier) (inside : Bool) : Kept still s0 (State.switchTo s p c inside) := by
  unfold State.switchTo
  try dsimp only
  repeat' first | (with_reducible first | assumption | intro _ | apply State.bump_kept | apply State.clientEvent_kept | apply State.onPort_kept | apply State.set_kept | apply kept_ite) | simp only [↓kept_mk_simp] | split | dsimp only

theorem State.select_kept {still : Prop} {s0 s : State} (h : Kept still s0 s) (p : Nat) (inside : Bool) : Kept still s0 (State.select s p inside) := by
  unfold State.select
  try dsimp only
  repeat' first | (with_reducible first | assumption | intro _ | apply State.switchTo_kept | apply kept_ite) | split | dsimp only

theorem State.unalign_kept {still : Prop} {s0 s : State} (h : Kept still s0 s) (p : Nat) : Kept still s0 (State.unalign s p) := by
  unfold State.unalign
  try dsimp only
  repeat' first | (with_reducible first | assumption | intro _ | apply State.alignedLost_kept | apply State.forwardRest_kept | apply State.onCopy_kept | apply kept_ite | apply kept_foldl) | simp only [↓kept_mk_simp] | split | dsimp only

theorem State.toHunt_kept {still : Prop} {s0 s : State} (h : Kept still s0 s) (p : Nat) (c : Carrier) : Kept still s0 (State.toHunt s p c) := by
  unfold State.toHunt
  try dsimp only
  repeat' first | (with_reducible first | assumption | intro _ | apply State.clientEvent_kept | apply State.onCopy_kept | apply State.onPort_kept | apply State.select_kept | apply State.setB_kept | apply State.unalign_kept | apply kept_ite) | simp only [↓kept_mk_simp] | split | dsimp only

theorem State.markIn_kept {still : Prop} {s0 s : State} (h : Kept still s0 s) (p : Nat) (c : Carrier) (n : Nat) (errored : Bool) : Kept still s0 (State.markIn s p c n errored) := by
  unfold State.markIn
  try dsimp only
  repeat' first | (with_reducible first | assumption | intro _ | apply State.done_kept | apply State.onCopy_kept | apply State.setB_kept | apply kept_ite) | simp only [↓kept_mk_simp] | refine pair_kept (by assumption) ?_ | split | dsimp only

theorem State.dropSkipped_kept {still : Prop} {s0 s : State} (h : Kept still s0 s) (p : Nat) : Kept still s0 (State.dropSkipped s p) := by
  unfold State.dropSkipped
  try dsimp only
  repeat' first | (with_reducible first | assumption | intro _ | apply State.onPort_kept) | simp only [↓kept_mk_simp] | dsimp only

theorem State.releaseJoint_kept {still : Prop} {s0 s : State} (h : Kept still s0 s) (p n : Nat) : Kept still s0 (s.releaseJoint p n) := by
  induction n generalizing s with
  | zero => exact h
  | succ n ih =>
    unfold State.releaseJoint
    dsimp only
    split
    · exact ih (State.set_kept (State.onPort_kept (State.onCopy_kept (State.forwardRest_kept h ..) ..) ..) ..)
    · exact h

theorem State.jointEgress_kept {still : Prop} {s0 s : State} (h : Kept still s0 s) (p : Nat) : Kept still s0 (State.jointEgress s p) := by
  unfold State.jointEgress
  try dsimp only
  repeat' first | (with_reducible first | assumption | intro _ | apply State.alignedLost_kept | apply State.dropSkipped_kept | apply State.onPort_kept | apply State.releaseJoint_kept | apply kept_ite) | simp only [↓kept_mk_simp] | refine pair_kept (by assumption) ?_ | split | dsimp only

theorem State.copyBound_kept {still : Prop} {s0 s : State} (h : Kept still s0 s) (p : Nat) (c : Carrier) : Kept still s0 (State.copyBound s p c) := by
  unfold State.copyBound
  try dsimp only
  repeat' first | (with_reducible first | assumption | intro _ | apply State.onCopy_kept | apply State.unalign_kept | apply kept_ite) | simp only [↓kept_mk_simp] | split | dsimp only

theorem State.protectedMark_kept {still : Prop} {s0 s : State} (h : Kept still s0 s) (p : Nat) (c : Carrier) : Kept still s0 (State.protectedMark s p c) := by
  unfold State.protectedMark
  try dsimp only
  repeat' first | (with_reducible first | assumption | intro _ | apply State.onPort_kept | apply State.select_kept | apply kept_ite) | simp only [↓kept_mk_simp] | split | dsimp only

theorem State.protectedRecord_kept {still : Prop} {s0 s : State} (h : Kept still s0 s) (p : Nat) (c : Carrier) (rec : List Byte) (errored : Bool) : Kept still s0 (State.protectedRecord s p c rec errored) := by
  unfold State.protectedRecord
  try dsimp only
  repeat' first | (with_reducible first | assumption | intro _ | apply State.forward_kept | apply State.onCopy_kept | apply kept_ite) | simp only [↓kept_mk_simp] | split | dsimp only

theorem State.endedRecord_kept {still : Prop} {s0 s : State} (h : Kept still s0 s) (p : Nat) (c : Carrier) (rec : List Byte) : Kept still s0 (State.endedRecord s p c rec) := by
  unfold State.endedRecord
  try dsimp only
  repeat' first | (with_reducible first | assumption | intro _ | apply State.forward_kept | apply State.onPort_kept | apply kept_ite) | simp only [↓kept_mk_simp] | split | dsimp only

theorem State.recordIn_kept {still : Prop} {s0 s : State} (h : Kept still s0 s) (p : Nat) (c : Carrier) (rec : List Byte) (errored : Bool) : Kept still s0 (State.recordIn s p c rec errored) := by
  unfold State.recordIn
  try dsimp only
  repeat' first | (with_reducible first | assumption | intro _ | apply State.copyBound_kept | apply State.endedRecord_kept | apply State.forward_kept | apply State.jointEgress_kept | apply State.markIn_kept | apply State.onCopy_kept | apply State.protectedMark_kept | apply State.protectedRecord_kept | apply kept_ite) | simp only [↓kept_mk_simp] | split | dsimp only

theorem State.recordReceived_kept {still : Prop} {s0 s : State} (h : Kept still s0 s) (p : Nat) (c : Carrier) (rec : List Byte) (errored : Bool) : Kept still s0 (State.recordReceived s p c rec errored) := by
  unfold State.recordReceived
  try dsimp only
  repeat' first | (with_reducible first | assumption | intro _ | apply State.onCopy_kept | apply State.recordIn_kept | apply State.toHunt_kept | apply kept_ite) | simp only [↓kept_mk_simp] | split | dsimp only

theorem State.segmentComplete_kept {still : Prop} {s0 s : State} (h : Kept still s0 s) (p : Nat) (delayNs : Nat) : Kept still s0 (State.segmentComplete s p delayNs) := by
  unfold State.segmentComplete
  try dsimp only
  repeat' first | (with_reducible first | assumption | intro _ | apply State.forwardRest_kept | apply State.onPort_kept | apply State.select_kept | apply State.set_kept | apply State.setB_kept | apply State.setSat_kept | apply State.unalign_kept | apply kept_ite) | simp only [↓kept_mk_simp] | refine pair_kept (by assumption) ?_ | split | dsimp only

theorem State.forceSel_kept {still : Prop} {s0 s : State} (h : Kept still s0 s) (p : Nat) (v : Nat) : Kept still s0 (State.forceSel s p v) := by
  unfold State.forceSel
  try dsimp only
  repeat' first | (with_reducible first | assumption | intro _ | apply State.set_kept | apply State.switchTo_kept | apply kept_ite) | split | dsimp only

theorem State.portLoopWrite_kept {still : Prop} {s0 s : State} (h : Kept still s0 s) (p : Nat) (v : Nat) : Kept still s0 (State.portLoopWrite s p v) := by
  unfold State.portLoopWrite
  try dsimp only
  repeat' first | (with_reducible first | assumption | intro _ | apply State.egressUpdate_kept | apply State.set_kept | apply kept_ite) | split | dsimp only

theorem State.clientSnap_kept {still : Prop} {s0 s : State} (h : Kept still s0 s) (p : Nat) (clear : Bool) : Kept still s0 (State.clientSnap s p clear) := by
  unfold State.clientSnap
  try dsimp only
  repeat' first | (with_reducible first | assumption | intro _ | apply State.onPort_kept | apply kept_ite) | simp only [↓kept_mk_simp] | split | dsimp only

theorem State.clientCopy_kept {still : Prop} {s0 s : State} (h : Kept still s0 s) (p : Nat) (now : List Nat) : Kept still s0 (State.clientCopy s p now) := by
  unfold State.clientCopy
  try dsimp only
  repeat' first | (with_reducible first | assumption | intro _ | apply State.clientEvent_kept | apply State.onPort_kept | apply State.ovfMap_kept | apply State.set48_kept) | simp only [↓kept_mk_simp] | refine pair_kept (by assumption) ?_ | split | dsimp only

theorem State.portWrite_kept {still : Prop} {s0 s : State} (h : Kept still s0 s) (path : Path) (p : Nat) {k : State → State} (hk : ∀ s, Kept still s0 s → Kept still s0 (k s)) : Kept still s0 (State.portWrite s path p k) := by
  unfold State.portWrite
  repeat' first | (with_reducible first | assumption | intro _ | apply hk | apply State.rwWrite_kept | apply kept_ite) | split | dsimp only

theorem execPcsAligned_kept {still : Prop} {s0 s : State} (h : Kept still s0 s) (port : Fin 16) (skew : Nat) : KeptO still s0 (execPcsAligned port skew s) := by
  unfold execPcsAligned
  repeat' first | (with_reducible first | assumption | intro _ | apply State.clientEvent_kept | apply State.setSat_kept | apply State.toIngress_kept | apply KeptO.next | apply kept_iteO | apply kept_ite) | split | dsimp only

theorem execClientAlignTimeout_kept {still : Prop} {s0 s : State} (h : Kept still s0 s) (port : Fin 16) (cause : Fin 3) : KeptO still s0 (execClientAlignTimeout port cause s) := by
  unfold execClientAlignTimeout
  repeat' first | (with_reducible first | assumption | intro _ | apply State.clientViolation_kept | apply State.ingressDown_kept | apply KeptO.next | apply kept_iteO | apply kept_ite) | split | dsimp only

theorem execHiSer_kept {still : Prop} {s0 s : State} (h : Kept still s0 s) (port : Fin 16) : KeptO still s0 (execHiSer port s) := by
  unfold execHiSer
  repeat' first | (with_reducible first | assumption | intro _ | apply State.clientViolation_kept | apply State.ingressFails_kept | apply KeptO.next | apply kept_iteO | apply kept_ite) | split | dsimp only

theorem execMarkerLockLost_kept {still : Prop} {s0 s : State} (h : Kept still s0 s) (port : Fin 16) : KeptO still s0 (execMarkerLockLost port s) := by
  unfold execMarkerLockLost
  repeat' first | (with_reducible first | assumption | intro _ | apply State.ingressFails_kept | apply KeptO.next | apply kept_iteO | apply kept_ite) | split | dsimp only

theorem execClientFrameIngress_kept {still : Prop} {s0 s : State} (h : Kept still s0 s) (port : Fin 16) (frame : ClientFrame) (due : DueWords) : KeptO still s0 (execClientFrameIngress port frame due s) := by
  unfold execClientFrameIngress
  try dsimp only
  repeat' first | (with_reducible first | assumption | intro _ | apply State.frameIn_kept | apply State.wordsDue_kept | apply KeptO.next | apply kept_iteO | apply kept_ite) | split | dsimp only

theorem execOrderedSetIngress_kept {still : Prop} {s0 s : State} (h : Kept still s0 s) (port : Fin 16) (set : Nat) (due : DueWords) : KeptO still s0 (execOrderedSetIngress port set due s) := by
  unfold execOrderedSetIngress
  try dsimp only
  repeat' first | (with_reducible first | assumption | intro _ | apply State.set_kept | apply State.setReceived_kept | apply State.wordsDue_kept | apply KeptO.next | apply kept_iteO | apply kept_ite) | split | dsimp only

theorem execOrderedSetRepeat_kept {still : Prop} {s0 s : State} (h : Kept still s0 s) (port : Fin 16) (due : DueWords) : KeptO still s0 (execOrderedSetRepeat port due s) := by
  unfold execOrderedSetRepeat
  try dsimp only
  repeat' first | (with_reducible first | assumption | intro _ | apply State.ingressRecord_kept | apply State.wordsDue_kept | apply KeptO.next | apply kept_iteO | apply kept_ite) | split | dsimp only

theorem execLpiReceived_kept {still : Prop} {s0 s : State} (h : Kept still s0 s) (port : Fin 16) : KeptO still s0 (execLpiReceived port s) := by
  unfold execLpiReceived
  repeat' first | (with_reducible first | assumption | intro _ | apply State.clientViolation_kept | apply KeptO.next | apply kept_iteO | apply kept_ite) | split | dsimp only

theorem execRecordReceived_kept {still : Prop} {s0 s : State} (h : Kept still s0 s) (port : Fin 16) (c : Carrier) (record : List Byte) (errored : Bool) (drained : Nat) : KeptO still s0 (execRecordReceived port c record errored drained s) := by
  unfold execRecordReceived
  repeat' first | (with_reducible first | assumption | intro _ | apply State.egressDrain_kept | apply State.recordReceived_kept | apply KeptO.next | apply kept_iteO | apply kept_ite) | split | dsimp only

theorem execOrderedSetTimeout_kept {still : Prop} {s0 s : State} (h : Kept still s0 s) (port : Fin 16) : KeptO still s0 (execOrderedSetTimeout port s) := by
  unfold execOrderedSetTimeout
  try dsimp only
  repeat' first | (with_reducible first | assumption | intro _ | apply State.onPort_kept | apply KeptO.next) | simp only [↓kept_mk_simp] | dsimp only

theorem execSegmentComplete_kept {still : Prop} {s0 s : State} (h : Kept still s0 s) (port : Fin 16) (delayNs : Nat) (drained : Nat) : KeptO still s0 (execSegmentComplete port delayNs drained s) := by
  unfold execSegmentComplete
  repeat' first | (with_reducible first | assumption | intro _ | apply State.egressDrain_kept | apply State.segmentComplete_kept | apply KeptO.next | apply kept_iteO | apply kept_ite) | split | dsimp only

theorem execWtrExpired_kept {still : Prop} {s0 s : State} (h : Kept still s0 s) (port : Fin 16) : KeptO still s0 (execWtrExpired port s) := by
  unfold execWtrExpired
  repeat' first | (with_reducible first | assumption | intro _ | apply State.switchTo_kept | apply KeptO.next | apply kept_iteO | apply kept_ite) | split | dsimp only

theorem execForceSelWrite_kept {still : Prop} {s0 s : State} (h : Kept still s0 s) (path : Path) (port : Fin 16) (value : Fin 4) : KeptO still s0 (execForceSelWrite path port value s) := by
  unfold execForceSelWrite
  repeat' first | (with_reducible first | assumption | intro _ | apply State.forceSel_kept | apply State.portWrite_kept | apply KeptO.next) | dsimp only

theorem execLoopWrite_kept {still : Prop} {s0 s : State} (h : Kept still s0 s) (path : Path) (port : Fin 16) (value : Fin 4) : KeptO still s0 (execLoopWrite path port value s) := by
  unfold execLoopWrite
  repeat' first | (with_reducible first | assumption | intro _ | apply State.portLoopWrite_kept | apply State.portWrite_kept | apply KeptO.next) | dsimp only

theorem execClientSnapshot_kept {still : Prop} {s0 s : State} (h : Kept still s0 s) (path : Path) (port : Fin 16) (clear : Bool) : KeptO still s0 (execClientSnapshot path port clear s) := by
  unfold execClientSnapshot
  repeat' first | (with_reducible first | assumption | intro _ | apply State.clientSnap_kept | apply State.portWrite_kept | apply KeptO.next) | dsimp only

theorem execClientSnapshotCopy_kept {still : Prop} {s0 s : State} (h : Kept still s0 s) (port : Fin 16) (now : List Nat) : KeptO still s0 (execClientSnapshotCopy port now s) := by
  unfold execClientSnapshotCopy
  repeat' first | (with_reducible first | assumption | intro _ | apply State.clientCopy_kept | apply KeptO.next) | dsimp only

theorem State.onAdc_kept {still : Prop} {s0 s : State} (h : Kept still s0 s) (f : AdcSt → AdcSt) : Kept still s0 (State.onAdc s f) := by
  unfold State.onAdc
  try dsimp only
  repeat' first | (with_reducible first | assumption | intro _) | simp only [↓kept_mk_simp] | dsimp only

theorem State.onDac_kept {still : Prop} {s0 s : State} (h : Kept still s0 s) (k : Nat) (f : PdacSt → PdacSt) : Kept still s0 (State.onDac s k f) := by
  unfold State.onDac
  try dsimp only
  repeat' first | (with_reducible first | assumption | intro _) | simp only [↓kept_mk_simp] | dsimp only

theorem State.onLoop_kept {still : Prop} {s0 s : State} (h : Kept still s0 s) (n : Nat) (f : LoopSt → LoopSt) : Kept still s0 (State.onLoop s n f) := by
  unfold State.onLoop
  try dsimp only
  repeat' first | (with_reducible first | assumption | intro _) | simp only [↓kept_mk_simp] | dsimp only

theorem State.commitPair_kept {still : Prop} {s0 s : State} (h : Kept still s0 s) (j : Nat) (ofs : Word) (g : Word) : Kept still s0 (State.commitPair s j ofs g) := by
  unfold State.commitPair
  try dsimp only
  repeat' first | (with_reducible first | assumption | intro _ | apply State.onAdc_kept | apply State.wr_kept) | simp only [↓kept_mk_simp] | dsimp only

theorem State.traceEvent_kept {still : Prop} {s0 s : State} (h : Kept still s0 s) (n : Nat) : Kept still s0 (State.traceEvent s n) := by
  unfold State.traceEvent
  try dsimp only
  repeat' first | (with_reducible first | assumption | intro _ | apply State.set_kept | apply kept_ite | apply kept_foldl) | simp only [↓kept_mk_simp] | split | dsimp only

theorem State.loopFlag_kept {still : Prop} {s0 s : State} (h : Kept still s0 s) (n : Nat) (b : Nat) : Kept still s0 (State.loopFlag s n b) := by
  unfold State.loopFlag
  try dsimp only
  repeat' first | (with_reducible first | assumption | intro _ | apply State.event_kept | apply State.eventOncePerSecond_kept | apply State.msixEdge_kept | apply State.set_kept | apply State.traceEvent_kept | apply kept_ite) | split | dsimp only

theorem State.shutdownDone_kept {still : Prop} {s0 s : State} (h : Kept still s0 s) : Kept still s0 (State.shutdownDone s) := by
  unfold State.shutdownDone
  try dsimp only
  repeat' first | (with_reducible first | assumption | intro _ | apply State.onPower_kept | apply State.raiseEvent_kept | apply kept_ite) | simp only [↓kept_mk_simp] | split | dsimp only

theorem State.sineAdvance_kept {still : Prop} {s0 s : State} (h : Kept still s0 s) (cycles : Nat) : Kept still s0 (State.sineAdvance s cycles) := by
  unfold State.sineAdvance
  repeat' first | (with_reducible first | assumption | intro _ | apply State.wrapAdd_kept | apply kept_foldl) | dsimp only

theorem State.handOut_kept {still : Prop} {s0 s : State} (h : Kept still s0 s) (n : Nat) (code : Nat) : Kept still s0 (State.handOut s n code) := by
  unfold State.handOut
  try dsimp only
  repeat' first | (with_reducible first | assumption | intro _ | apply State.onDac_kept | apply State.set_kept) | simp only [↓kept_mk_simp] | dsimp only

theorem State.handOver_kept {still : Prop} {s0 s : State} (h : Kept still s0 s) (n : Nat) (mode : Nat) : Kept still s0 (State.handOver s n mode) := by
  unfold State.handOver
  try dsimp only
  repeat' first | (with_reducible first | assumption | intro _ | apply State.bump_kept | apply State.handOut_kept | apply State.loopFlag_kept | apply State.onDac_kept | apply State.onLoop_kept | apply State.set_kept | apply kept_ite) | simp only [↓kept_mk_simp] | split | dsimp only

theorem State.loopHold_kept {still : Prop} {s0 s : State} (h : Kept still s0 s) (n : Nat) (cause : Nat) : Kept still s0 (State.loopHold s n cause) := by
  unfold State.loopHold
  try dsimp only
  repeat' first | (with_reducible first | assumption | intro _ | apply State.onLoop_kept | apply State.set_kept) | simp only [↓kept_mk_simp] | dsimp only

theorem State.modeWrite_kept {still : Prop} {s0 s : State} (h : Kept still s0 s) (n : Nat) (mode : Nat) : Kept still s0 (State.modeWrite s n mode) := by
  unfold State.modeWrite
  try dsimp only
  repeat' first | (with_reducible first | assumption | intro _ | apply State.handOver_kept | apply State.set_kept | apply kept_ite) | split | dsimp only

theorem State.releaseDac_kept {still : Prop} {s0 s : State} (h : Kept still s0 s) (n : Nat) (old : Nat) : Kept still s0 (State.releaseDac s n old) := by
  unfold State.releaseDac
  try dsimp only
  repeat' first | (with_reducible first | assumption | intro _ | apply State.onDac_kept | apply kept_ite) | simp only [↓kept_mk_simp] | split | dsimp only

theorem State.ctrlWrite_kept {still : Prop} {s0 s : State} (h : Kept still s0 s) (n : Nat) (old : Word) (new : Word) (w : Word) : Kept still s0 (State.ctrlWrite s n old new w) := by
  unfold State.ctrlWrite
  try dsimp only
  repeat' first | (with_reducible first | assumption | intro _ | apply State.bump_kept | apply State.modeWrite_kept | apply State.releaseDac_kept | apply State.wr_kept | apply kept_ite) | split | dsimp only

theorem State.loopWrite_kept {still : Prop} {s0 s : State} (h : Kept still s0 s) (n : Nat) (off : Nat) (w : Word) : Kept still s0 (State.loopWrite s n off w) := by
  unfold State.loopWrite
  try dsimp only
  repeat' first | (with_reducible first | assumption | intro _ | apply State.bump_kept | apply State.ctrlWrite_kept | apply State.msixEdge_kept | apply State.wr_kept | apply kept_ite | apply kept_foldl) | simp only [↓kept_mk_simp] | refine pair_kept (by assumption) ?_ | split | dsimp only

theorem State.loopWritePath_kept {still : Prop} {s0 s : State} (h : Kept still s0 s) (p : Path) (n : Nat) (off : Nat) (w : Word) : Kept still s0 (State.loopWritePath s p n off w) := by
  unfold State.loopWritePath
  repeat' first | (with_reducible first | assumption | intro _ | apply State.bump_kept | apply State.loopWrite_kept | apply kept_ite) | split | dsimp only

theorem State.traceRecord_kept {still : Prop} {s0 s : State} (h : Kept still s0 s) (b : Nat) : Kept still s0 (State.traceRecord s b) := by
  unfold State.traceRecord
  try dsimp only
  repeat' first | (with_reducible first | assumption | intro _ | apply State.set_kept | apply State.wr_kept | apply kept_ite) | simp only [↓kept_mk_simp] | split | dsimp only

theorem State.calImplausible_kept {still : Prop} {s0 s : State} (h : Kept still s0 s) (slot : Nat) (field : Nat) : Kept still s0 (State.calImplausible s slot field) := by
  unfold State.calImplausible
  repeat' first | (with_reducible first | assumption | intro _ | apply State.calRaise_kept | apply State.set_kept) | dsimp only

theorem State.opticsWrite_kept {still : Prop} {s0 s : State} (h : Kept still s0 s) (c : Carrier) (body : List Byte) : Kept still s0 (State.opticsWrite s c body) := by
  unfold State.opticsWrite
  try dsimp only
  repeat' first | (with_reducible first | assumption | intro _ | apply State.wr_kept | apply kept_ite | apply kept_foldl) | split | dsimp only

theorem State.laneStart_kept {still : Prop} {s0 s : State} (h : Kept still s0 s) (n : Nat) (body : List Byte) : Kept still s0 (State.laneStart s n body) := by
  unfold State.laneStart
  try dsimp only
  repeat' first | (with_reducible first | assumption | intro _ | apply State.set_kept | apply State.wr_kept) | dsimp only

theorem State.calApply_kept {still : Prop} {s0 s : State} (h : Kept still s0 s) (slot : Nat) (body : List Byte) : Kept still s0 (State.calApply s slot body) := by
  unfold State.calApply
  try dsimp only
  repeat' first | (with_reducible first | assumption | intro _ | apply State.commitPair_kept | apply State.laneStart_kept | apply State.onCal_kept | apply State.onRx_kept | apply State.onTx_kept | apply State.opticsWrite_kept | apply State.set_kept | apply State.wr_kept | apply kept_foldl) | simp only [↓kept_mk_simp] | refine pair_kept (by assumption) ?_ | split | dsimp only

theorem State.calMove_kept {still : Prop} {s0 s : State} (h : Kept still s0 s) (slot : Nat) (body : List Byte) : Kept still s0 (State.calMove s slot body) := by
  unfold State.calMove
  try dsimp only
  repeat' first | (with_reducible first | assumption | intro _ | apply State.onCal_kept | apply State.opticsWrite_kept | apply State.set_kept | apply State.settleNote_kept) | simp only [↓kept_mk_simp] | refine pair_kept (by assumption) ?_ | split | dsimp only

theorem State.calStepMove_kept {still : Prop} {s0 s : State} (h : Kept still s0 s) (slot : Nat) : Kept still s0 (State.calStepMove s slot) := by
  unfold State.calStepMove
  try dsimp only
  repeat' first | (with_reducible first | assumption | intro _ | apply State.calSettle_kept | apply State.commitPair_kept | apply State.onCal_kept | apply State.onTx_kept | apply State.set_kept | apply State.txRaise_kept | apply kept_ite | apply kept_foldl) | simp only [↓kept_mk_simp] | refine pair_kept (by assumption) ?_ | split | dsimp only

theorem State.laneCalibrate_kept {still : Prop} {s0 s : State} (h : Kept still s0 s) (n : Nat) : Kept still s0 (State.laneCalibrate s n) := by
  unfold State.laneCalibrate
  try dsimp only
  repeat' first | (with_reducible first | assumption | intro _ | apply State.calSettle_kept | apply State.laneStart_kept) | simp only [↓kept_mk_simp] | refine pair_kept (by assumption) ?_ | split | dsimp only

theorem State.calTakeover_kept {still : Prop} {s0 s : State} (h : Kept still s0 s) (a : Nat) : Kept still s0 (State.calTakeover s a) := by
  unfold State.calTakeover
  try dsimp only
  repeat' first | (with_reducible first | assumption | intro _ | apply State.onCal_kept | apply State.set_kept) | simp only [↓kept_mk_simp] | refine pair_kept (by assumption) ?_ | split | dsimp only

theorem State.calShow_kept {still : Prop} {s0 s : State} (h : Kept still s0 s) (slot : Nat) (toB : Bool) (r : List Byte) : Kept still s0 (State.calShow s slot toB r) := by
  unfold State.calShow
  try dsimp only
  repeat' first | (with_reducible first | assumption | intro _ | apply State.onCal_kept | apply State.set_kept | apply State.setB_kept) | simp only [↓kept_mk_simp] | dsimp only

theorem State.calLoad_kept {still : Prop} {s0 s : State} (h : Kept still s0 s) (slot : Nat) (now : Bool) : Kept still s0 (State.calLoad s slot now) := by
  unfold State.calLoad
  try dsimp only
  repeat' first | (with_reducible first | assumption | intro _ | apply State.calApply_kept | apply State.calImplausible_kept | apply State.calMove_kept | apply State.calRaise_kept | apply State.calShow_kept | apply State.onCal_kept | apply State.set_kept | apply State.setB_kept | apply kept_ite) | simp only [↓kept_mk_simp] | refine pair_kept (by assumption) ?_ | split | dsimp only

theorem State.calRefuse_kept {still : Prop} {s0 s : State} (h : Kept still s0 s) (slot : Nat) (reason : Nat) : Kept still s0 (State.calRefuse s slot reason) := by
  unfold State.calRefuse
  repeat' first | (with_reducible first | assumption | intro _ | apply State.set_kept) | dsimp only

theorem State.calEnqueue_kept {still : Prop} {s0 s : State} (h : Kept still s0 s) (q : CalStore) : Kept still s0 (State.calEnqueue s q) := by
  unfold State.calEnqueue
  try dsimp only
  repeat' first | (with_reducible first | assumption | intro _ | apply State.onCal_kept | apply State.set_kept | apply kept_ite) | simp only [↓kept_mk_simp] | split | dsimp only

theorem State.calRun_kept {still : Prop} {s0 s : State} (h : Kept still s0 s) (slot : Nat) : Kept still s0 (State.calRun s slot) := by
  unfold State.calRun
  try dsimp only
  repeat' first | (with_reducible first | assumption | intro _ | apply State.calRefuse_kept | apply State.onCal_kept | apply State.set_kept | apply kept_ite) | simp only [↓kept_mk_simp] | split | dsimp only

theorem State.calStore_kept {still : Prop} {s0 s : State} (h : Kept still s0 s) (slot : Nat) (temp : Int) (quality : Nat) : Kept still s0 (State.calStore s slot temp quality) := by
  unfold State.calStore
  try dsimp only
  repeat' first | (with_reducible first | assumption | intro _ | apply State.calEnqueue_kept | apply State.calImplausible_kept | apply State.calRefuse_kept | apply kept_ite) | simp only [↓kept_mk_simp] | refine pair_kept (by assumption) ?_ | split | dsimp only

theorem State.calRunDone_kept {still : Prop} {s0 s : State} (h : Kept still s0 s) (body : List Byte) : Kept still s0 (State.calRunDone s body) := by
  unfold State.calRunDone
  try dsimp only
  repeat' first | (with_reducible first | assumption | intro _ | apply State.calImplausible_kept | apply State.calMove_kept | apply State.calRaise_kept | apply State.onCal_kept | apply State.set_kept | apply kept_ite) | simp only [↓kept_mk_simp] | refine pair_kept (by assumption) ?_ | split | dsimp only

theorem State.calWriteCopy_kept {still : Prop} {s0 s : State} (h : Kept still s0 s) (slot : Nat) (toB : Bool) (bytes : List Byte) : Kept still s0 (State.calWriteCopy s slot toB bytes) := by
  unfold State.calWriteCopy
  try dsimp only
  repeat' first | (with_reducible first | assumption | intro _ | apply State.onCal_kept | apply State.set_kept | apply kept_ite) | simp only [↓kept_mk_simp] | split | dsimp only

theorem State.calStored_kept {still : Prop} {s0 s : State} (h : Kept still s0 s) (same : Bool) : Kept still s0 (State.calStored s same) := by
  unfold State.calStored
  try dsimp only
  repeat' first | (with_reducible first | assumption | intro _ | apply State.calRaise_kept | apply State.calRefuse_kept | apply State.calShow_kept | apply State.calWriteCopy_kept | apply State.onCal_kept | apply State.set_kept | apply State.setB_kept | apply kept_ite) | simp only [↓kept_mk_simp] | refine pair_kept (by assumption) ?_ | split | dsimp only

theorem State.calSecond_kept {still : Prop} {s0 s : State} (h : Kept still s0 s) : Kept still s0 (State.calSecond s) := by
  unfold State.calSecond
  try dsimp only
  repeat' first | (with_reducible first | assumption | intro _ | apply State.onCal_kept) | simp only [↓kept_mk_simp] | dsimp only

theorem State.calTrack_kept {still : Prop} {s0 s : State} (h : Kept still s0 s) (slot : Nat) (body : List Byte) (quality : Nat) (temp : Int) : Kept still s0 (State.calTrack s slot body quality temp) := by
  unfold State.calTrack
  try dsimp only
  repeat' first | (with_reducible first | assumption | intro _ | apply State.calEnqueue_kept | apply State.calImplausible_kept | apply State.calMove_kept | apply State.onCal_kept | apply State.set_kept | apply kept_ite) | simp only [↓kept_mk_simp] | refine pair_kept (by assumption) ?_ | split | dsimp only

theorem State.calColdApply_kept {still : Prop} {s0 s : State} (h : Kept still s0 s) : Kept still s0 (State.calColdApply s) := by
  unfold State.calColdApply
  try dsimp only
  repeat' first | (with_reducible first | assumption | intro _ | apply State.calApply_kept | apply State.calSettle_kept | apply kept_ite | apply kept_foldl) | simp only [↓kept_mk_simp] | refine pair_kept (by assumption) ?_ | split | dsimp only

theorem State.onLane_kept {still : Prop} {s0 s : State} (h : Kept still s0 s) (n : Nat) (f : LaneSt → LaneSt) : Kept still s0 (State.onLane s n f) := by
  unfold State.onLane
  try dsimp only
  repeat' first | (with_reducible first | assumption | intro _) | simp only [↓kept_mk_simp] | dsimp only

theorem State.laneEvent_kept {still : Prop} {s0 s : State} (h : Kept still s0 s) (n : Nat) (b : Nat) : Kept still s0 (State.laneEvent s n b) := by
  unfold State.laneEvent
  try dsimp only
  repeat' first | (with_reducible first | assumption | intro _ | apply State.event_kept | apply State.raise_kept | apply State.set_kept | apply kept_ite) | split | dsimp only

theorem State.laneViolation_kept {still : Prop} {s0 s : State} (h : Kept still s0 s) (n : Nat) (code : Nat) : Kept still s0 (State.laneViolation s n code) := by
  unfold State.laneViolation
  repeat' first | (with_reducible first | assumption | intro _ | apply State.bump_kept | apply State.laneEvent_kept | apply State.set_kept) | dsimp only

theorem State.singleRun_kept {still : Prop} {s0 s : State} (h : Kept still s0 s) (n : Nat) : Kept still s0 (State.singleRun s n) := by
  unfold State.singleRun
  try dsimp only
  repeat' first | (with_reducible first | assumption | intro _ | apply State.laneRun_kept | apply kept_ite) | split | dsimp only

theorem State.showIdle_kept {still : Prop} {s0 s : State} (h : Kept still s0 s) (n : Nat) : Kept still s0 (State.showIdle s n) := by
  unfold State.showIdle
  try dsimp only
  repeat' first | (with_reducible first | assumption | intro _ | apply State.setB_kept | apply State.singleRun_kept | apply kept_ite) | split | dsimp only

theorem State.precoderRestart_kept {still : Prop} {s0 s : State} (h : Kept still s0 s) (n : Nat) (receive : Bool) : Kept still s0 (State.precoderRestart s n receive) := by
  unfold State.precoderRestart
  try dsimp only
  repeat' first | (with_reducible first | assumption | intro _ | apply State.onLane_kept | apply State.send_kept | apply kept_ite) | simp only [↓kept_mk_simp] | split | dsimp only

theorem State.wakeSend_kept {still : Prop} {s0 s : State} (h : Kept still s0 s) (n : Nat) : Kept still s0 (State.wakeSend s n) := by
  unfold State.wakeSend
  try dsimp only
  repeat' first | (with_reducible first | assumption | intro _ | apply State.onLane_kept | apply State.precoderRestart_kept | apply State.send_kept | apply State.wakeBurst_kept) | simp only [↓kept_mk_simp] | dsimp only

theorem State.laneIdle_kept {still : Prop} {s0 s : State} (h : Kept still s0 s) (n : Nat) (v : Bool) : Kept still s0 (State.laneIdle s n v) := by
  unfold State.laneIdle
  try dsimp only
  repeat' first | (with_reducible first | assumption | intro _ | apply State.onLane_kept | apply State.showIdle_kept | apply State.wakeSend_kept | apply kept_ite) | simp only [↓kept_mk_simp] | split | dsimp only

theorem State.toLane_kept {still : Prop} {s0 s : State} (h : Kept still s0 s) (n : Nat) (st : Nat) : Kept still s0 (State.toLane s n st) := by
  unfold State.toLane
  try dsimp only
  repeat' first | (with_reducible first | assumption | intro _ | apply State.laneCalibrate_kept | apply State.laneIdle_kept | apply State.lanesChanged_kept | apply State.set_kept | apply kept_ite) | simp only [↓kept_mk_simp] | refine pair_kept (by assumption) ?_ | split | dsimp only

theorem State.dataDown_kept {still : Prop} {s0 s : State} (h : Kept still s0 s) (n : Nat) : Kept still s0 (State.dataDown s n) := by
  unfold State.dataDown
  repeat' first | (with_reducible first | assumption | intro _ | apply State.laneEvent_kept | apply kept_ite) | split | dsimp only

theorem State.noSignal_kept {still : Prop} {s0 s : State} (h : Kept still s0 s) (n : Nat) : Kept still s0 (State.noSignal s n) := by
  unfold State.noSignal
  try dsimp only
  repeat' first | (with_reducible first | assumption | intro _ | apply State.laneEvent_kept | apply State.laneViolation_kept | apply State.onLane_kept | apply State.toLane_kept | apply kept_ite) | simp only [↓kept_mk_simp] | split | dsimp only

theorem State.showConverged_kept {still : Prop} {s0 s : State} (h : Kept still s0 s) (n : Nat) : Kept still s0 (State.showConverged s n) := by
  unfold State.showConverged
  repeat' first | (with_reducible first | assumption | intro _ | apply State.setB_kept) | dsimp only

theorem State.eqSettings_kept {still : Prop} {s0 s : State} (h : Kept still s0 s) (n : Nat) : Kept still s0 (State.eqSettings s n) := by
  unfold State.eqSettings
  try dsimp only
  repeat' first | (with_reducible first | assumption | intro _ | apply State.onLane_kept | apply State.set_kept | apply State.showConverged_kept | apply kept_ite) | simp only [↓kept_mk_simp] | split | dsimp only

theorem State.setEq_kept {still : Prop} {s0 s : State} (h : Kept still s0 s) (n : Nat) (eq : LaneEq) : Kept still s0 (State.setEq s n eq) := by
  unfold State.setEq
  try dsimp only
  repeat' first | (with_reducible first | assumption | intro _ | apply State.eqSettings_kept | apply State.onLane_kept | apply State.set_kept | apply State.setS_kept | apply kept_ite) | simp only [↓kept_mk_simp] | split | dsimp only

theorem State.laneUp_kept {still : Prop} {s0 s : State} (h : Kept still s0 s) (n : Nat) (partner : Nat) (eq : LaneEq) : Kept still s0 (State.laneUp s n partner eq) := by
  unfold State.laneUp
  try dsimp only
  repeat' first | (with_reducible first | assumption | intro _ | apply State.laneEvent_kept | apply State.precoderRestart_kept | apply State.set_kept | apply State.setEq_kept | apply State.toLane_kept) | dsimp only

theorem State.laneFail_kept {still : Prop} {s0 s : State} (h : Kept still s0 s) (n : Nat) (code : Nat) : Kept still s0 (State.laneFail s n code) := by
  unfold State.laneFail
  repeat' first | (with_reducible first | assumption | intro _ | apply State.laneEvent_kept | apply State.laneViolation_kept | apply State.toLane_kept) | dsimp only

theorem State.laneDropped_kept {still : Prop} {s0 s : State} (h : Kept still s0 s) (n : Nat) : Kept still s0 (State.laneDropped s n) := by
  unfold State.laneDropped
  repeat' first | (with_reducible first | assumption | intro _ | apply State.bump_kept) | dsimp only

theorem State.retrain_kept {still : Prop} {s0 s : State} (h : Kept still s0 s) (n : Nat) : Kept still s0 (State.retrain s n) := by
  unfold State.retrain
  try dsimp only
  repeat' first | (with_reducible first | assumption | intro _ | apply State.dataDown_kept | apply State.laneDropped_kept | apply State.toLane_kept) | simp only [↓kept_mk_simp] | refine pair_kept (by assumption) ?_ | split | dsimp only

theorem State.trainStart_kept {still : Prop} {s0 s : State} (h : Kept still s0 s) (n : Nat) : Kept still s0 (State.trainStart s n) := by
  unfold State.trainStart
  repeat' first | (with_reducible first | assumption | intro _ | apply State.send_kept | apply State.set_kept | apply State.toLane_kept) | dsimp only

theorem State.markers_kept {still : Prop} {s0 s : State} (h : Kept still s0 s) (n : Nat) : Kept still s0 (State.markers s n) := by
  unfold State.markers
  try dsimp only
  repeat' first | (with_reducible first | assumption | intro _ | apply State.bump_kept | apply State.laneEvent_kept | apply State.trainStart_kept | apply kept_ite) | simp only [↓kept_mk_simp] | refine pair_kept (by assumption) ?_ | split | dsimp only

theorem State.trained_kept {still : Prop} {s0 s : State} (h : Kept still s0 s) (n : Nat) (ms : Nat) (granted : Bool) (requested : Bool) (eq : LaneEq) : Kept still s0 (State.trained s n ms granted requested eq) := by
  unfold State.trained
  try dsimp only
  repeat' first | (with_reducible first | assumption | intro _ | apply State.laneUp_kept | apply State.setB_kept | apply State.setSat_kept) | dsimp only

theorem State.signalGone_kept {still : Prop} {s0 s : State} (h : Kept still s0 s) (n : Nat) (code : Nat) : Kept still s0 (State.signalGone s n code) := by
  unfold State.signalGone
  try dsimp only
  repeat' first | (with_reducible first | assumption | intro _ | apply State.bump_kept | apply State.laneEvent_kept | apply State.laneViolation_kept | apply State.noSignal_kept) | dsimp only

theorem State.signalFound_kept {still : Prop} {s0 s : State} (h : Kept still s0 s) (n : Nat) (ball : Nat) : Kept still s0 (State.signalFound s n ball) := by
  unfold State.signalFound
  try dsimp only
  repeat' first | (with_reducible first | assumption | intro _ | apply State.set_kept | apply State.toLane_kept | apply kept_ite) | split | dsimp only

theorem State.signalLost_kept {still : Prop} {s0 s : State} (h : Kept still s0 s) (n : Nat) (ball : Nat) : Kept still s0 (State.signalLost s n ball) := by
  unfold State.signalLost
  try dsimp only
  repeat' first | (with_reducible first | assumption | intro _ | apply State.set_kept | apply State.signalGone_kept | apply State.toLane_kept | apply kept_ite) | split | dsimp only

theorem State.wakeBurst_kept {still : Prop} {s0 s : State} (h : Kept still s0 s) (n : Nat) (heldUi : Nat) : Kept still s0 (State.wakeBurst s n heldUi) := by
  unfold State.wakeBurst
  try dsimp only
  repeat' first | (with_reducible first | assumption | intro _ | apply State.bump_kept | apply State.laneEvent_kept | apply State.laneViolation_kept | apply State.precoderRestart_kept | apply State.set_kept | apply State.setB_kept | apply State.toLane_kept | apply kept_ite) | split | dsimp only

theorem State.txIdle_kept {still : Prop} {s0 s : State} (h : Kept still s0 s) (n : Nat) (v : Bool) : Kept still s0 (State.txIdle s n v) := by
  unfold State.txIdle
  try dsimp only
  repeat' first | (with_reducible first | assumption | intro _ | apply State.laneIdle_kept | apply State.setB_kept | apply kept_ite) | split | dsimp only

theorem State.setTaps_kept {still : Prop} {s0 s : State} (h : Kept still s0 s) (n : Nat) (taps : List Int) : Kept still s0 (State.setTaps s n taps) := by
  unfold State.setTaps
  repeat' first | (with_reducible first | assumption | intro _ | apply State.setS_kept | apply kept_foldl) | dsimp only

theorem State.ffeWrite_kept {still : Prop} {s0 s : State} (h : Kept still s0 s) (n : Nat) (post : Bool) (w : Word) : Kept still s0 (State.ffeWrite s n post w) := by
  unfold State.ffeWrite
  try dsimp only
  repeat' first | (with_reducible first | assumption | intro _ | apply State.laneDropped_kept | apply State.setTaps_kept | apply kept_ite) | split | dsimp only

theorem State.coeffRequest_kept {still : Prop} {s0 s : State} (h : Kept still s0 s) (n : Nat) (r : CoeffRequest) : Kept still s0 (State.coeffRequest s n r) := by
  unfold State.coeffRequest
  try dsimp only
  repeat' first | (with_reducible first | assumption | intro _ | apply State.laneViolation_kept | apply State.send_kept | apply State.setTaps_kept | apply kept_ite) | simp only [↓kept_mk_simp] | refine pair_kept (by assumption) ?_ | split | dsimp only

theorem State.precodeWrite_kept {still : Prop} {s0 s : State} (h : Kept still s0 s) (n : Nat) (rx : Bool) (v : Bool) : Kept still s0 (State.precodeWrite s n rx v) := by
  unfold State.precodeWrite
  try dsimp only
  repeat' first | (with_reducible first | assumption | intro _ | apply State.laneDropped_kept | apply State.precoderRestart_kept | apply State.setB_kept | apply kept_ite) | split | dsimp only

theorem State.chkStep_kept {still : Prop} {s0 s : State} (h : Kept still s0 s) (n : Nat) (v : Fin 4) : Kept still s0 (State.chkStep s n v) := by
  unfold State.chkStep
  try dsimp only
  repeat' first | (with_reducible first | assumption | intro _ | apply State.bump_kept | apply State.laneEvent_kept | apply State.onLane_kept | apply State.set_kept | apply kept_ite) | simp only [↓kept_mk_simp] | refine pair_kept (by assumption) ?_ | split | dsimp only

theorem State.chkRun_kept {still : Prop} {s0 s : State} (h : Kept still s0 s) (n : Nat) (ball : List (Fin 4)) : Kept still s0 (State.chkRun s n ball) := by
  unfold State.chkRun
  try dsimp only
  repeat' first | (with_reducible first | assumption | intro _ | apply State.chkStep_kept | apply State.laneHears_kept | apply State.onLane_kept | apply kept_ite | apply kept_foldl) | simp only [↓kept_mk_simp] | refine pair_kept (by assumption) ?_ | split | dsimp only

theorem State.chkSnap_kept {still : Prop} {s0 s : State} (h : Kept still s0 s) (n : Nat) (clear : Bool) : Kept still s0 (State.chkSnap s n clear) := by
  unfold State.chkSnap
  try dsimp only
  repeat' first | (with_reducible first | assumption | intro _ | apply State.onLane_kept | apply State.set_kept | apply kept_ite) | simp only [↓kept_mk_simp] | split | dsimp only

theorem State.chkCopy_kept {still : Prop} {s0 s : State} (h : Kept still s0 s) (n : Nat) (before : List Ctr48) : Kept still s0 (State.chkCopy s n before) := by
  unfold State.chkCopy
  try dsimp only
  repeat' first | (with_reducible first | assumption | intro _ | apply State.laneEvent_kept | apply State.onLane_kept | apply State.ovfMap_kept | apply State.set_kept | apply State.set48_kept | apply kept_ite) | simp only [↓kept_mk_simp] | split | dsimp only

theorem State.showInj_kept {still : Prop} {s0 s : State} (h : Kept still s0 s) (n : Nat) : Kept still s0 (State.showInj s n) := by
  unfold State.showInj
  repeat' first | (with_reducible first | assumption | intro _ | apply State.setB_kept) | dsimp only

theorem State.injCommand_kept {still : Prop} {s0 s : State} (h : Kept still s0 s) (path : Path) (n : Nat) {k : State → State} (hk : ∀ s, Kept still s0 s → Kept still s0 (k s)) : Kept still s0 (State.injCommand s path n k) := by
  unfold State.injCommand
  repeat' first | (with_reducible first | assumption | intro _ | apply hk | apply State.rwWrite_kept | apply State.showInj_kept | apply kept_ite) | split | dsimp only

theorem State.injSingle_kept {still : Prop} {s0 s : State} (h : Kept still s0 s) (n : Nat) : Kept still s0 (State.injSingle s n) := by
  unfold State.injSingle
  try dsimp only
  repeat' first | (with_reducible first | assumption | intro _ | apply State.onLane_kept | apply State.singleRun_kept) | simp only [↓kept_mk_simp] | dsimp only

theorem State.injBurst_kept {still : Prop} {s0 s : State} (h : Kept still s0 s) (n : Nat) : Kept still s0 (State.injBurst s n) := by
  unfold State.injBurst
  try dsimp only
  repeat' first | (with_reducible first | assumption | intro _ | apply State.onLane_kept) | simp only [↓kept_mk_simp] | dsimp only

theorem State.injRate_kept {still : Prop} {s0 s : State} (h : Kept still s0 s) (n : Nat) : Kept still s0 (State.injRate s n) := by
  unfold State.injRate
  try dsimp only
  repeat' first | (with_reducible first | assumption | intro _ | apply State.onLane_kept) | simp only [↓kept_mk_simp] | dsimp only

theorem State.rateSymbols_kept {still : Prop} {s0 s : State} (h : Kept still s0 s) (n : Nat) (k : Nat) : Kept still s0 (State.rateSymbols s n k) := by
  unfold State.rateSymbols
  repeat' first | (with_reducible first | assumption | intro _ | apply State.laneRun_kept | apply kept_ite) | split | dsimp only

theorem State.burstEnd_kept {still : Prop} {s0 s : State} (h : Kept still s0 s) (n : Nat) : Kept still s0 (State.burstEnd s n) := by
  unfold State.burstEnd
  try dsimp only
  repeat' first | (with_reducible first | assumption | intro _ | apply State.laneRun_kept | apply State.onLane_kept | apply State.showInj_kept | apply kept_ite) | simp only [↓kept_mk_simp] | refine pair_kept (by assumption) ?_ | split | dsimp only

theorem State.injStop_kept {still : Prop} {s0 s : State} (h : Kept still s0 s) (n : Nat) (sent : Nat) : Kept still s0 (State.injStop s n sent) := by
  unfold State.injStop
  try dsimp only
  repeat' first | (with_reducible first | assumption | intro _ | apply State.laneRun_kept | apply State.onLane_kept | apply State.showInj_kept | apply kept_ite) | simp only [↓kept_mk_simp] | split | dsimp only

theorem State.eyePublish_kept {still : Prop} {s0 s : State} (h : Kept still s0 s) (n : Nat) (e : EyeFigures) (eq : LaneEq) : Kept still s0 (State.eyePublish s n e eq) := by
  unfold State.eyePublish
  try dsimp only
  repeat' first | (with_reducible first | assumption | intro _ | apply State.set_kept | apply State.setEq_kept | apply State.setSat_kept | apply State.wrapAdd_kept | apply kept_ite) | split | dsimp only

theorem State.loopNear_kept {still : Prop} {s0 s : State} (h : Kept still s0 s) (n : Nat) (v : Bool) : Kept still s0 (State.loopNear s n v) := by
  unfold State.loopNear
  try dsimp only
  repeat' first | (with_reducible first | assumption | intro _ | apply State.onLane_kept | apply State.retrain_kept | apply State.setB_kept | apply State.showIdle_kept | apply kept_ite) | simp only [↓kept_mk_simp] | split | dsimp only

theorem State.showQuad_kept {still : Prop} {s0 s : State} (h : Kept still s0 s) (q : Nat) : Kept still s0 (State.showQuad s q) := by
  unfold State.showQuad
  repeat' first | (with_reducible first | assumption | intro _ | apply State.showIdle_kept | apply kept_foldl) | dsimp only

theorem execSignalDetect_kept {still : Prop} {s0 s : State} (h : Kept still s0 s) (lane : Fin 16) (amplitude : Nat) : KeptO still s0 (execSignalDetect lane amplitude s) := by
  unfold execSignalDetect
  repeat' first | (with_reducible first | assumption | intro _ | apply State.signalFound_kept | apply KeptO.next) | dsimp only

theorem execPartnerFrameMarkers_kept {still : Prop} {s0 s : State} (h : Kept still s0 s) (lane : Fin 16) : KeptO still s0 (execPartnerFrameMarkers lane s) := by
  unfold execPartnerFrameMarkers
  repeat' first | (with_reducible first | assumption | intro _ | apply State.markers_kept | apply KeptO.next) | dsimp only

theorem execCdrConverged_kept {still : Prop} {s0 s : State} (h : Kept still s0 s) (lane : Fin 16) (offset : Int) (eq : LaneEq) : KeptO still s0 (execCdrConverged lane offset eq s) := by
  unfold execCdrConverged
  repeat' first | (with_reducible first | assumption | intro _ | apply State.laneUp_kept | apply KeptO.next | apply kept_iteO | apply kept_ite) | split | dsimp only

theorem execDetectLimitExpired_kept {still : Prop} {s0 s : State} (h : Kept still s0 s) (lane : Fin 16) (offset : Option Int) (eq : LaneEq) : KeptO still s0 (execDetectLimitExpired lane offset eq s) := by
  unfold execDetectLimitExpired
  repeat' first | (with_reducible first | assumption | intro _ | apply State.laneFail_kept | apply State.laneUp_kept | apply State.set_kept | apply KeptO.next | apply kept_iteO | apply kept_ite) | split | dsimp only

theorem execTrainingDone_kept {still : Prop} {s0 s : State} (h : Kept still s0 s) (lane : Fin 16) (ms : Nat) (granted : Bool) (requested : Bool) (eq : LaneEq) : KeptO still s0 (execTrainingDone lane ms granted requested eq s) := by
  unfold execTrainingDone
  repeat' first | (with_reducible first | assumption | intro _ | apply State.trained_kept | apply KeptO.next | apply kept_iteO | apply kept_ite) | split | dsimp only

theorem execTrainLimitExpired_kept {still : Prop} {s0 s : State} (h : Kept still s0 s) (lane : Fin 16) : KeptO still s0 (execTrainLimitExpired lane s) := by
  unfold execTrainLimitExpired
  repeat' first | (with_reducible first | assumption | intro _ | apply State.laneFail_kept | apply KeptO.next | apply kept_iteO | apply kept_ite) | split | dsimp only

theorem execSignalLost_kept {still : Prop} {s0 s : State} (h : Kept still s0 s) (lane : Fin 16) (amplitude : Nat) : KeptO still s0 (execSignalLost lane amplitude s) := by
  unfold execSignalLost
  repeat' first | (with_reducible first | assumption | intro _ | apply State.signalLost_kept | apply KeptO.next) | dsimp only

theorem execIdleLimitExpired_kept {still : Prop} {s0 s : State} (h : Kept still s0 s) (lane : Fin 16) : KeptO still s0 (execIdleLimitExpired lane s) := by
  unfold execIdleLimitExpired
  repeat' first | (with_reducible first | assumption | intro _ | apply State.signalGone_kept | apply KeptO.next | apply kept_iteO | apply kept_ite) | split | dsimp only

theorem execWakeBurst_kept {still : Prop} {s0 s : State} (h : Kept still s0 s) (lane : Fin 16) (heldUi : Nat) : KeptO still s0 (execWakeBurst lane heldUi s) := by
  unfold execWakeBurst
  repeat' first | (with_reducible first | assumption | intro _ | apply State.wakeBurst_kept | apply KeptO.next) | dsimp only

theorem execOverlongBurst_kept {still : Prop} {s0 s : State} (h : Kept still s0 s) (lane : Fin 16) : KeptO still s0 (execOverlongBurst lane s) := by
  unfold execOverlongBurst
  repeat' first | (with_reducible first | assumption | intro _ | apply State.laneViolation_kept | apply KeptO.next | apply kept_iteO | apply kept_ite) | split | dsimp only

theorem execRetrain_kept {still : Prop} {s0 s : State} (h : Kept still s0 s) (path : Path) (lane : Fin 16) : KeptO still s0 (execRetrain path lane s) := by
  unfold execRetrain
  repeat' first | (with_reducible first | assumption | intro _ | apply State.retrain_kept | apply State.rwWrite_kept | apply KeptO.next) | dsimp only

theorem execFailedWaitExpired_kept {still : Prop} {s0 s : State} (h : Kept still s0 s) (lane : Fin 16) : KeptO still s0 (execFailedWaitExpired lane s) := by
  unfold execFailedWaitExpired
  repeat' first | (with_reducible first | assumption | intro _ | apply State.noSignal_kept | apply KeptO.next | apply kept_iteO | apply kept_ite) | split | dsimp only

theorem execHoldoffExpired_kept {still : Prop} {s0 s : State} (h : Kept still s0 s) (lane : Fin 16) : KeptO still s0 (execHoldoffExpired lane s) := by
  unfold execHoldoffExpired
  repeat' first | (with_reducible first | assumption | intro _ | apply State.noSignal_kept | apply KeptO.next | apply kept_iteO | apply kept_ite) | split | dsimp only

theorem execTxIdleSet_kept {still : Prop} {s0 s : State} (h : Kept still s0 s) (path : Path) (lane : Fin 16) : KeptO still s0 (execTxIdleSet path lane s) := by
  unfold execTxIdleSet
  repeat' first | (with_reducible first | assumption | intro _ | apply State.rwWrite_kept | apply State.txIdle_kept | apply KeptO.next) | dsimp only

theorem execTxIdleClear_kept {still : Prop} {s0 s : State} (h : Kept still s0 s) (path : Path) (lane : Fin 16) : KeptO still s0 (execTxIdleClear path lane s) := by
  unfold execTxIdleClear
  repeat' first | (with_reducible first | assumption | intro _ | apply State.rwWrite_kept | apply State.txIdle_kept | apply KeptO.next) | dsimp only

theorem execQuadUnlock_kept {still : Prop} {s0 s : State} (h : Kept still s0 s) (quad : Fin 4) : KeptO still s0 (execQuadUnlock quad s) := by
  unfold execQuadUnlock
  repeat' first | (with_reducible first | assumption | intro _ | apply State.raiseEvent_kept | apply State.set_kept | apply State.showQuad_kept | apply KeptO.next) | dsimp only

theorem execQuadRelock_kept {still : Prop} {s0 s : State} (h : Kept still s0 s) (quad : Fin 4) : KeptO still s0 (execQuadRelock quad s) := by
  unfold execQuadRelock
  try dsimp only
  repeat' first | (with_reducible first | assumption | intro _ | apply State.set_kept | apply State.showQuad_kept | apply State.wakeSend_kept | apply KeptO.next | apply kept_iteO | apply kept_ite | apply kept_foldl) | split | dsimp only

theorem execPartnerCoeffRequest_kept {still : Prop} {s0 s : State} (h : Kept still s0 s) (lane : Fin 16) (req : CoeffRequest) : KeptO still s0 (execPartnerCoeffRequest lane req s) := by
  unfold execPartnerCoeffRequest
  repeat' first | (with_reducible first | assumption | intro _ | apply State.coeffRequest_kept | apply KeptO.next) | dsimp only

theorem execTxFfeWrite_kept {still : Prop} {s0 s : State} (h : Kept still s0 s) (path : Path) (lane : Fin 16) (post : Bool) (value : Word) : KeptO still s0 (execTxFfeWrite path lane post value s) := by
  unfold execTxFfeWrite
  repeat' first | (with_reducible first | assumption | intro _ | apply State.ffeWrite_kept | apply State.rwWrite_kept | apply KeptO.next) | dsimp only

theorem execPrecodeWrite_kept {still : Prop} {s0 s : State} (h : Kept still s0 s) (path : Path) (lane : Fin 16) (receive : Bool) (value : Bool) : KeptO still s0 (execPrecodeWrite path lane receive value s) := by
  unfold execPrecodeWrite
  repeat' first | (with_reducible first | assumption | intro _ | apply State.precodeWrite_kept | apply State.rwWrite_kept | apply KeptO.next) | dsimp only

theorem execCheckerLock_kept {still : Prop} {s0 s : State} (h : Kept still s0 s) (lane : Fin 16) (counted : List (Fin 4)) (rx : List (Fin 4)) : KeptO still s0 (execCheckerLock lane counted rx s) := by
  unfold execCheckerLock
  try dsimp only
  repeat' first | (with_reducible first | assumption | intro _ | apply State.chkRun_kept | apply State.laneHears_kept | apply State.onLane_kept | apply State.set_kept | apply KeptO.next | apply kept_iteO | apply kept_ite) | simp only [↓kept_mk_simp] | refine pair_kept (by assumption) ?_ | split | dsimp only

theorem execChkLockLost_kept {still : Prop} {s0 s : State} (h : Kept still s0 s) (lane : Fin 16) (rx : List (Fin 4)) : KeptO still s0 (execChkLockLost lane rx s) := by
  unfold execChkLockLost
  repeat' first | (with_reducible first | assumption | intro _ | apply State.chkRun_kept | apply KeptO.next) | dsimp only

theorem execChkSnapshot_kept {still : Prop} {s0 s : State} (h : Kept still s0 s) (path : Path) (lane : Fin 16) (clear : Bool) : KeptO still s0 (execChkSnapshot path lane clear s) := by
  unfold execChkSnapshot
  repeat' first | (with_reducible first | assumption | intro _ | apply State.chkSnap_kept | apply State.rwWrite_kept | apply KeptO.next) | dsimp only

theorem execChkSnapshotCopy_kept {still : Prop} {s0 s : State} (h : Kept still s0 s) (lane : Fin 16) (rx : List (Fin 4)) (now : List (Fin 4)) : KeptO still s0 (execChkSnapshotCopy lane rx now s) := by
  unfold execChkSnapshotCopy
  try dsimp only
  repeat' first | (with_reducible first | assumption | intro _ | apply State.chkCopy_kept | apply State.chkRun_kept | apply KeptO.next) | dsimp only

theorem execInjSingle_kept {still : Prop} {s0 s : State} (h : Kept still s0 s) (path : Path) (lane : Fin 16) : KeptO still s0 (execInjSingle path lane s) := by
  unfold execInjSingle
  repeat' first | (with_reducible first | assumption | intro _ | apply State.injCommand_kept | apply State.injSingle_kept | apply KeptO.next) | dsimp only

theorem execInjBurst_kept {still : Prop} {s0 s : State} (h : Kept still s0 s) (path : Path) (lane : Fin 16) : KeptO still s0 (execInjBurst path lane s) := by
  unfold execInjBurst
  repeat' first | (with_reducible first | assumption | intro _ | apply State.injBurst_kept | apply State.injCommand_kept | apply KeptO.next) | dsimp only

theorem execInjBurstEnd_kept {still : Prop} {s0 s : State} (h : Kept still s0 s) (lane : Fin 16) : KeptO still s0 (execInjBurstEnd lane s) := by
  unfold execInjBurstEnd
  repeat' first | (with_reducible first | assumption | intro _ | apply State.burstEnd_kept | apply KeptO.next) | dsimp only

theorem execInjRateStart_kept {still : Prop} {s0 s : State} (h : Kept still s0 s) (path : Path) (lane : Fin 16) : KeptO still s0 (execInjRateStart path lane s) := by
  unfold execInjRateStart
  repeat' first | (with_reducible first | assumption | intro _ | apply State.injCommand_kept | apply State.injRate_kept | apply KeptO.next) | dsimp only

theorem execInjRateInterval_kept {still : Prop} {s0 s : State} (h : Kept still s0 s) (lane : Fin 16) (symbols : Nat) : KeptO still s0 (execInjRateInterval lane symbols s) := by
  unfold execInjRateInterval
  repeat' first | (with_reducible first | assumption | intro _ | apply State.rateSymbols_kept | apply KeptO.next) | dsimp only

theorem execInjStop_kept {still : Prop} {s0 s : State} (h : Kept still s0 s) (path : Path) (lane : Fin 16) (sent : Nat) : KeptO still s0 (execInjStop path lane sent s) := by
  unfold execInjStop
  repeat' first | (with_reducible first | assumption | intro _ | apply State.injStop_kept | apply State.rwWrite_kept | apply KeptO.next) | dsimp only

theorem execEyePublish_kept {still : Prop} {s0 s : State} (h : Kept still s0 s) (lane : Fin 16) (eye : EyeFigures) (eq : LaneEq) : KeptO still s0 (execEyePublish lane eye eq s) := by
  unfold execEyePublish
  repeat' first | (with_reducible first | assumption | intro _ | apply State.eyePublish_kept | apply KeptO.next) | dsimp only

theorem execLoopNearWrite_kept {still : Prop} {s0 s : State} (h : Kept still s0 s) (path : Path) (lane : Fin 16) (value : Bool) : KeptO still s0 (execLoopNearWrite path lane value s) := by
  unfold execLoopNearWrite
  repeat' first | (with_reducible first | assumption | intro _ | apply State.loopNear_kept | apply State.rwWrite_kept | apply KeptO.next) | dsimp only

theorem State.timeSet_kept {still : Prop} {s0 s : State} (h : Kept still s0 s) (t : Clock) : Kept still s0 (State.timeSet s t) := by
  unfold State.timeSet
  try dsimp only
  repeat' first | (with_reducible first | assumption | intro _ | apply State.clockTo_kept | apply State.onTime_kept | apply State.set_kept | apply State.timeRaise_kept | apply State.timeShow_kept | apply State.toTt_kept) | simp only [↓kept_mk_simp] | dsimp only

theorem State.timeAdjust_kept {still : Prop} {s0 s : State} (h : Kept still s0 s) (units : Int) : Kept still s0 (State.timeAdjust s units) := by
  unfold State.timeAdjust
  try dsimp only
  repeat' first | (with_reducible first | assumption | intro _ | apply State.clockStep_kept | apply State.onTime_kept | apply State.timeRaise_kept | apply State.timeShow_kept | apply kept_ite) | simp only [↓kept_mk_simp] | split | dsimp only

theorem State.slewDone_kept {still : Prop} {s0 s : State} (h : Kept still s0 s) : Kept still s0 (State.slewDone s) := by
  unfold State.slewDone
  try dsimp only
  repeat' first | (with_reducible first | assumption | intro _ | apply State.onTime_kept | apply State.timeShow_kept) | simp only [↓kept_mk_simp] | dsimp only

theorem State.servoStep_kept {still : Prop} {s0 s : State} (h : Kept still s0 s) (off : Int) : Kept still s0 (State.servoStep s off) := by
  unfold State.servoStep
  try dsimp only
  repeat' first | (with_reducible first | assumption | intro _ | apply State.clockStep_kept | apply State.onTime_kept | apply State.timeRaise_kept | apply State.timeShow_kept | apply kept_ite) | simp only [↓kept_mk_simp] | split | dsimp only

theorem State.servoMeasure_kept {still : Prop} {s0 s : State} (h : Kept still s0 s) (off : Int) : Kept still s0 (State.servoMeasure s off) := by
  unfold State.servoMeasure
  try dsimp only
  repeat' first | (with_reducible first | assumption | intro _ | apply State.onTime_kept | apply State.servoStep_kept | apply State.timeRaise_kept | apply kept_ite) | simp only [↓kept_mk_simp] | refine pair_kept (by assumption) ?_ | split | dsimp only

theorem State.tcMeasure_kept {still : Prop} {s0 s : State} (h : Kept still s0 s) (units : Int) : Kept still s0 (State.tcMeasure s units) := by
  unfold State.tcMeasure
  repeat' first | (with_reducible first | assumption | intro _ | apply State.servoMeasure_kept | apply kept_ite) | split | dsimp only

theorem State.ttTrack_kept {still : Prop} {s0 s : State} (h : Kept still s0 s) (off : Int) : Kept still s0 (State.ttTrack s off) := by
  unfold State.ttTrack
  try dsimp only
  repeat' first | (with_reducible first | assumption | intro _ | apply State.onTime_kept | apply State.servoStep_kept | apply State.set_kept | apply State.timeRaise_kept | apply State.toTt_kept | apply kept_ite) | simp only [↓kept_mk_simp] | refine pair_kept (by assumption) ?_ | split | dsimp only

theorem State.ttDiscard_kept {still : Prop} {s0 s : State} (h : Kept still s0 s) : Kept still s0 (State.ttDiscard s) := by
  unfold State.ttDiscard
  repeat' first | (with_reducible first | assumption | intro _ | apply State.bump_kept) | dsimp only

theorem State.ttMeasure_kept {still : Prop} {s0 s : State} (h : Kept still s0 s) (m : TransferSet) : Kept still s0 (State.ttMeasure s m) := by
  unfold State.ttMeasure
  try dsimp only
  repeat' first | (with_reducible first | assumption | intro _ | apply State.setS_kept | apply State.setSat_kept | apply State.tapped_kept | apply State.ttDiscard_kept | apply State.ttTrack_kept | apply State.wrapAdd_kept | apply kept_ite) | simp only [↓kept_mk_simp] | refine pair_kept (by assumption) ?_ | split | dsimp only

theorem State.tpArm_kept {still : Prop} {s0 s : State} (h : Kept still s0 s) (n : Nat) : Kept still s0 (State.tpArm s n) := by
  unfold State.tpArm
  try dsimp only
  repeat' first | (with_reducible first | assumption | intro _ | apply State.onPulse_kept | apply State.pulseShow_kept | apply State.set_kept | apply State.timeRaise_kept | apply kept_ite) | split | dsimp only

theorem State.tpStop_kept {still : Prop} {s0 s : State} (h : Kept still s0 s) (n : Nat) : Kept still s0 (State.tpStop s n) := by
  unfold State.tpStop
  try dsimp only
  repeat' first | (with_reducible first | assumption | intro _ | apply State.onPulse_kept | apply State.pulseShow_kept | apply State.set_kept | apply kept_ite) | simp only [↓kept_mk_simp] | split | dsimp only

theorem State.tpEdge_kept {still : Prop} {s0 s : State} (h : Kept still s0 s) (n : Nat) : Kept still s0 (State.tpEdge s n) := by
  unfold State.tpEdge
  try dsimp only
  repeat' first | (with_reducible first | assumption | intro _ | apply State.issueEdge_kept | apply kept_ite) | simp only [↓kept_mk_simp] | split | dsimp only

theorem State.onCapture_kept {still : Prop} {s0 s : State} (h : Kept still s0 s) (m : Nat) (f : CaptureSt → CaptureSt) : Kept still s0 (State.onCapture s m f) := by
  unfold State.onCapture
  try dsimp only
  repeat' first | (with_reducible first | assumption | intro _ | apply State.onTime_kept | apply State.set_kept) | simp only [↓kept_mk_simp] | dsimp only

theorem State.captureStamp_kept {still : Prop} {s0 s : State} (h : Kept still s0 s) (m : Nat) (falling : Bool) (t : Clock) : Kept still s0 (State.captureStamp s m falling t) := by
  unfold State.captureStamp
  try dsimp only
  repeat' first | (with_reducible first | assumption | intro _ | apply State.bump_kept | apply State.onCapture_kept | apply State.raise_kept | apply State.timeRaise_kept | apply kept_ite) | simp only [↓kept_mk_simp] | split | dsimp only

theorem State.captureEdge_kept {still : Prop} {s0 s : State} (h : Kept still s0 s) (m : Nat) (falling : Bool) (time : Int) : Kept still s0 (State.captureEdge s m falling time) := by
  unfold State.captureEdge
  try dsimp only
  repeat' first | (with_reducible first | assumption | intro _ | apply State.captureStamp_kept | apply State.tcMeasure_kept | apply kept_ite) | split | dsimp only

theorem State.captureRead_kept {still : Prop} {s0 s : State} (h : Kept still s0 s) (p : Path) (m : Nat) : Kept still s0 (State.captureRead s p m) := by
  unfold State.captureRead
  try dsimp only
  repeat' first | (with_reducible first | assumption | intro _ | apply State.latch_kept | apply State.onCapture_kept | apply State.setB_kept | apply kept_ite) | simp only [↓kept_mk_simp] | refine pair_kept (by assumption) ?_ | split | dsimp only

theorem execTimeSetCommit_kept {still : Prop} {s0 s : State} (h : Kept still s0 s) (path : Path) (value : Word) : KeptO still s0 (execTimeSetCommit path value s) := by
  unfold execTimeSetCommit
  repeat' first | (with_reducible first | assumption | intro _ | apply State.rwWrite_kept | apply State.timeSet_kept | apply KeptO.next) | dsimp only

theorem execInvalidate_kept {still : Prop} {s0 s : State} (h : Kept still s0 s) (path : Path) : KeptO still s0 (execInvalidate path s) := by
  unfold execInvalidate
  repeat' first | (with_reducible first | assumption | intro _ | apply State.rwWrite_kept | apply State.set_kept | apply KeptO.next) | dsimp only

theorem execTimeAdjCommit_kept {still : Prop} {s0 s : State} (h : Kept still s0 s) (path : Path) (value : Word) : KeptO still s0 (execTimeAdjCommit path value s) := by
  unfold execTimeAdjCommit
  repeat' first | (with_reducible first | assumption | intro _ | apply State.rwWrite_kept | apply State.timeAdjust_kept | apply KeptO.next) | dsimp only

theorem execSlewComplete_kept {still : Prop} {s0 s : State} (h : Kept still s0 s) : KeptO still s0 (execSlewComplete s) := by
  unfold execSlewComplete
  repeat' first | (with_reducible first | assumption | intro _ | apply State.slewDone_kept | apply KeptO.next | apply kept_iteO | apply kept_ite) | split | dsimp only

theorem execRefLost_kept {still : Prop} {s0 s : State} (h : Kept still s0 s) : KeptO still s0 (execRefLost s) := by
  unfold execRefLost
  repeat' first | (with_reducible first | assumption | intro _ | apply State.set_kept | apply State.timeRaise_kept | apply KeptO.next | apply kept_iteO | apply kept_ite) | split | dsimp only

theorem execRefRestored_kept {still : Prop} {s0 s : State} (h : Kept still s0 s) : KeptO still s0 (execRefRestored s) := by
  unfold execRefRestored
  repeat' first | (with_reducible first | assumption | intro _ | apply State.set_kept | apply State.timeRaise_kept | apply KeptO.next | apply kept_iteO | apply kept_ite) | split | dsimp only

theorem execServoMeasurement_kept {still : Prop} {s0 s : State} (h : Kept still s0 s) (edge : Stamp) : KeptO still s0 (execServoMeasurement edge s) := by
  unfold execServoMeasurement
  repeat' first | (with_reducible first | assumption | intro _ | apply State.tcMeasure_kept | apply KeptO.next) | dsimp only

theorem execTtMeasurement_kept {still : Prop} {s0 s : State} (h : Kept still s0 s) : KeptO still s0 (execTtMeasurement s) := by
  unfold execTtMeasurement
  try dsimp only
  repeat' first | (with_reducible first | assumption | intro _ | apply State.onTime_kept | apply State.set_kept | apply State.ttMeasure_kept | apply KeptO.next | apply kept_iteO | apply kept_ite) | simp only [↓kept_mk_simp] | refine pair_kept (by assumption) ?_ | split | dsimp only

theorem execTtSetTimeout_kept {still : Prop} {s0 s : State} (h : Kept still s0 s) : KeptO still s0 (execTtSetTimeout s) := by
  unfold execTtSetTimeout
  repeat' first | (with_reducible first | assumption | intro _ | apply State.ttWait_kept | apply KeptO.next) | dsimp only

theorem execTpArm_kept {still : Prop} {s0 s : State} (h : Kept still s0 s) (path : Path) (n : Fin 4) : KeptO still s0 (execTpArm path n s) := by
  unfold execTpArm
  repeat' first | (with_reducible first | assumption | intro _ | apply State.rwWrite_kept | apply State.tpArm_kept | apply KeptO.next) | dsimp only

theorem execTpStop_kept {still : Prop} {s0 s : State} (h : Kept still s0 s) (path : Path) (n : Fin 4) : KeptO still s0 (execTpStop path n s) := by
  unfold execTpStop
  repeat' first | (with_reducible first | assumption | intro _ | apply State.rwWrite_kept | apply State.tpStop_kept | apply KeptO.next) | dsimp only

theorem execTpEdge_kept {still : Prop} {s0 s : State} (h : Kept still s0 s) (n : Fin 4) : KeptO still s0 (execTpEdge n s) := by
  unfold execTpEdge
  repeat' first | (with_reducible first | assumption | intro _ | apply State.tpEdge_kept | apply KeptO.next) | dsimp only

theorem execCaptureEdge_kept {still : Prop} {s0 s : State} (h : Kept still s0 s) (m : Fin 2) (falling : Bool) : KeptO still s0 (execCaptureEdge m falling s) := by
  unfold execCaptureEdge
  repeat' first | (with_reducible first | assumption | intro _ | apply State.captureEdge_kept | apply KeptO.next | apply kept_iteO | apply kept_ite) | split | dsimp only

theorem execCaptureRead_kept {still : Prop} {s0 s : State} (h : Kept still s0 s) (path : Path) (m : Fin 2) : KeptO still s0 (execCaptureRead path m s) := by
  unfold execCaptureRead
  repeat' first | (with_reducible first | assumption | intro _ | apply State.captureRead_kept | apply State.downRead_kept | apply KeptO.next | apply kept_iteO | apply kept_ite) | split | dsimp only

theorem State.headlandWrite_kept {still : Prop} {s0 s : State} (h : Kept still s0 s) (p : Path) {k : State → State} (hk : ∀ s, Kept still s0 s → Kept still s0 (k s)) : Kept still s0 (State.headlandWrite s p k) := by
  unfold State.headlandWrite
  repeat' first | (with_reducible first | assumption | intro _ | apply hk | apply State.downAccess_kept | apply State.headlandDropped_kept | apply kept_ite) | split | dsimp only

theorem State.onChain_kept {still : Prop} {s0 s : State} (h : Kept still s0 s) (k : Nat) (f : ChainSt → ChainSt) : Kept still s0 (State.onChain s k f) := by
  unfold State.onChain
  try dsimp only
  repeat' first | (with_reducible first | assumption | intro _ | apply State.onHead_kept) | simp only [↓kept_mk_simp] | dsimp only

theorem State.toHl_kept {still : Prop} {s0 s : State} (h : Kept still s0 s) (k : Nat) (st : Nat) : Kept still s0 (State.toHl s k st) := by
  unfold State.toHl
  repeat' first | (with_reducible first | assumption | intro _ | apply State.set_kept) | dsimp only

theorem State.toSearch_kept {still : Prop} {s0 s : State} (h : Kept still s0 s) (k : Nat) : Kept still s0 (State.toSearch s k) := by
  unfold State.toSearch
  try dsimp only
  repeat' first | (with_reducible first | assumption | intro _ | apply State.onChain_kept | apply State.toHl_kept) | simp only [↓kept_mk_simp] | dsimp only

theorem State.abandon_kept {still : Prop} {s0 s : State} (h : Kept still s0 s) (k : Nat) : Kept still s0 (State.abandon s k) := by
  unfold State.abandon
  repeat' first | (with_reducible first | assumption | intro _ | apply State.bump_kept | apply State.toSearch_kept | apply kept_ite) | split | dsimp only

theorem State.chainReset_kept {still : Prop} {s0 s : State} (h : Kept still s0 s) : Kept still s0 (State.chainReset s) := by
  unfold State.chainReset
  try dsimp only
  repeat' first | (with_reducible first | assumption | intro _ | apply State.abandon_kept | apply State.onChain_kept | apply State.onHead_kept | apply State.set_kept | apply kept_foldl) | simp only [↓kept_mk_simp] | dsimp only

theorem State.chainsSync_kept {still : Prop} {s0 s : State} (h : Kept still s0 s) : Kept still s0 (State.chainsSync s) := by
  unfold State.chainsSync
  repeat' first | (with_reducible first | assumption | intro _ | apply State.chainReset_kept | apply State.raiseEvent_kept) | dsimp only

theorem State.showSettled_kept {still : Prop} {s0 s : State} (h : Kept still s0 s) : Kept still s0 (State.showSettled s) := by
  unfold State.showSettled
  repeat' first | (with_reducible first | assumption | intro _ | apply State.setB_kept) | dsimp only

theorem State.chainSettled_kept {still : Prop} {s0 s : State} (h : Kept still s0 s) (k : Nat) : Kept still s0 (State.chainSettled s k) := by
  unfold State.chainSettled
  try dsimp only
  repeat' first | (with_reducible first | assumption | intro _ | apply State.raise_kept | apply State.set_kept | apply State.showSettled_kept | apply kept_ite) | split | dsimp only

theorem State.showReduced_kept {still : Prop} {s0 s : State} (h : Kept still s0 s) (k : Nat) : Kept still s0 (State.showReduced s k) := by
  unfold State.showReduced
  repeat' first | (with_reducible first | assumption | intro _ | apply State.setB_kept) | dsimp only

theorem State.applyShifts_kept {still : Prop} {s0 s : State} (h : Kept still s0 s) (k : Nat) : Kept still s0 (State.applyShifts s k) := by
  unfold State.applyShifts
  repeat' first | (with_reducible first | assumption | intro _ | apply State.setS_kept | apply State.showReduced_kept | apply kept_foldl) | dsimp only

theorem State.lowerShifts_kept {still : Prop} {s0 s : State} (h : Kept still s0 s) (k : Nat) : Kept still s0 (State.lowerShifts s k) := by
  unfold State.lowerShifts
  repeat' first | (with_reducible first | assumption | intro _ | apply State.setS_kept | apply State.showReduced_kept | apply kept_foldl) | dsimp only

theorem State.reduceShift_kept {still : Prop} {s0 s : State} (h : Kept still s0 s) (k : Nat) : Kept still s0 (State.reduceShift s k) := by
  unfold State.reduceShift
  try dsimp only
  repeat' first | (with_reducible first | assumption | intro _ | apply State.onChain_kept | apply State.set_kept | apply State.setS_kept | apply State.showReduced_kept | apply State.showSettled_kept) | simp only [↓kept_mk_simp] | refine pair_kept (by assumption) ?_ | split | dsimp only

theorem State.restoreShift_kept {still : Prop} {s0 s : State} (h : Kept still s0 s) (k : Nat) : Kept still s0 (State.restoreShift s k) := by
  unfold State.restoreShift
  try dsimp only
  repeat' first | (with_reducible first | assumption | intro _ | apply State.setS_kept | apply State.showReduced_kept) | simp only [↓kept_mk_simp] | refine pair_kept (by assumption) ?_ | split | dsimp only

theorem State.autoShift_kept {still : Prop} {s0 s : State} (h : Kept still s0 s) (k : Nat) (saturated : Bool) (low : Bool) : Kept still s0 (State.autoShift s k saturated low) := by
  unfold State.autoShift
  try dsimp only
  repeat' first | (with_reducible first | assumption | intro _ | apply State.onChain_kept | apply State.reduceShift_kept | apply State.restoreShift_kept | apply kept_ite) | simp only [↓kept_mk_simp] | split | dsimp only

theorem State.chainFeed_kept {still : Prop} {s0 s : State} (h : Kept still s0 s) (ys : List Int) (k : Nat) : Kept still s0 (State.chainFeed s ys k) := by
  unfold State.chainFeed
  try dsimp only
  repeat' first | (with_reducible first | assumption | intro _ | apply State.bump_kept | apply State.chainSettled_kept | apply State.onChain_kept | apply State.raiseLimited_kept | apply State.tapped_kept | apply kept_ite | apply kept_foldr) | simp only [↓kept_mk_simp] | split | dsimp only

theorem State.chainWindow_kept {still : Prop} {s0 s : State} (h : Kept still s0 s) (k : Nat) : Kept still s0 (State.chainWindow s k) := by
  unfold State.chainWindow
  try dsimp only
  repeat' first | (with_reducible first | assumption | intro _ | apply State.autoShift_kept | apply State.onChain_kept | apply State.set_kept) | simp only [↓kept_mk_simp] | dsimp only

theorem State.feedSamples_kept {still : Prop} {s0 s : State} (h : Kept still s0 s) (samples : List Int) : Kept still s0 (State.feedSamples s samples) := by
  unfold State.feedSamples
  try dsimp only
  repeat' first | (with_reducible first | assumption | intro _ | apply State.bump_kept | apply State.chainFeed_kept | apply State.onHead_kept | apply State.raiseLimited_kept | apply State.setSat_kept | apply State.tapped_kept | apply kept_ite | apply kept_foldl) | simp only [↓kept_mk_simp] | refine pair_kept (by assumption) ?_ | split | dsimp only

theorem State.windowEnd_kept {still : Prop} {s0 s : State} (h : Kept still s0 s) : Kept still s0 (State.windowEnd s) := by
  unfold State.windowEnd
  try dsimp only
  repeat' first | (with_reducible first | assumption | intro _ | apply State.chainWindow_kept | apply State.onHead_kept | apply State.setB_kept | apply State.setSat_kept | apply State.wrapAdd_kept | apply kept_foldl) | simp only [↓kept_mk_simp] | dsimp only

theorem State.samplesIn_kept {still : Prop} {s0 s : State} (h : Kept still s0 s) (n : Nat) (xs : List Int) : Kept still s0 (State.samplesIn n xs s) := by
  induction n generalizing xs s with
  | zero => exact h
  | succ n ih =>
    unfold State.samplesIn
    split
    · exact h
    · refine ih ?_ _
      split
      · exact State.windowEnd_kept (State.feedSamples_kept h _)
      · exact State.feedSamples_kept h _

theorem State.startPreamble_kept {still : Prop} {s0 s : State} (h : Kept still s0 s) (k : Nat) (rssi : Nat) : Kept still s0 (State.startPreamble s k rssi) := by
  unfold State.startPreamble
  try dsimp only
  repeat' first | (with_reducible first | assumption | intro _ | apply State.onChain_kept | apply State.toHl_kept) | simp only [↓kept_mk_simp] | dsimp only

theorem State.falseStart_kept {still : Prop} {s0 s : State} (h : Kept still s0 s) (k : Nat) (rssi : Nat) : Kept still s0 (State.falseStart s k rssi) := by
  unfold State.falseStart
  try dsimp only
  repeat' first | (with_reducible first | assumption | intro _ | apply State.bump_kept | apply State.onChain_kept | apply State.raiseLimited_kept | apply State.startPreamble_kept) | simp only [↓kept_mk_simp] | dsimp only

theorem State.captureOver_kept {still : Prop} {s0 s : State} (h : Kept still s0 s) (k : Nat) (rssi : Nat) : Kept still s0 (State.captureOver s k rssi) := by
  unfold State.captureOver
  try dsimp only
  repeat' first | (with_reducible first | assumption | intro _ | apply State.bump_kept | apply State.onChain_kept | apply State.raiseLimited_kept | apply State.startPreamble_kept) | simp only [↓kept_mk_simp] | dsimp only

theorem State.newPreamble_kept {still : Prop} {s0 s : State} (h : Kept still s0 s) (k : Nat) (rssi : Nat) (own : Bool) : Kept still s0 (State.newPreamble s k rssi own) := by
  unfold State.newPreamble
  try dsimp only
  repeat' first | (with_reducible first | assumption | intro _ | apply State.bump_kept | apply State.captureOver_kept | apply State.falseStart_kept | apply kept_ite) | simp only [↓kept_mk_simp] | refine pair_kept (by assumption) ?_ | split | dsimp only

theorem State.syncMatch_kept {still : Prop} {s0 s : State} (h : Kept still s0 s) (k : Nat) (word : Word) (rssi : Nat) (foffset : Int) : Kept still s0 (State.syncMatch s k word rssi foffset) := by
  unfold State.syncMatch
  try dsimp only
  repeat' first | (with_reducible first | assumption | intro _ | apply State.onChain_kept | apply State.set_kept | apply State.toHl_kept | apply kept_ite) | simp only [↓kept_mk_simp] | split | dsimp only

theorem State.lengthIn_kept {still : Prop} {s0 s : State} (h : Kept still s0 s) (k : Nat) (b : Byte) : Kept still s0 (State.lengthIn s k b) := by
  unfold State.lengthIn
  try dsimp only
  repeat' first | (with_reducible first | assumption | intro _ | apply State.bump_kept | apply State.onChain_kept | apply State.toHl_kept | apply State.toSearch_kept | apply kept_ite) | simp only [↓kept_mk_simp] | split | dsimp only

theorem State.showQueue_kept {still : Prop} {s0 s : State} (h : Kept still s0 s) : Kept still s0 (State.showQueue s) := by
  unfold State.showQueue
  try dsimp only
  repeat' first | (with_reducible first | assumption | intro _ | apply State.set_kept | apply State.setB_kept | apply State.setS_kept | apply State.wr_kept | apply kept_foldl) | dsimp only

theorem State.enqueue_kept {still : Prop} {s0 s : State} (h : Kept still s0 s) (p : HlPacket) : Kept still s0 (State.enqueue s p) := by
  unfold State.enqueue
  try dsimp only
  repeat' first | (with_reducible first | assumption | intro _ | apply State.bump_kept | apply State.onHead_kept | apply State.raise_kept | apply State.raiseEvent_kept | apply State.showQueue_kept | apply State.wakeSource_kept | apply kept_ite) | simp only [↓kept_mk_simp] | split | dsimp only

theorem State.lastCrc_kept {still : Prop} {s0 s : State} (h : Kept still s0 s) (k : Nat) (data : List Byte) : Kept still s0 (State.lastCrc s k data) := by
  unfold State.lastCrc
  try dsimp only
  repeat' first | (with_reducible first | assumption | intro _ | apply State.bump_kept | apply State.enqueue_kept | apply State.toSearch_kept | apply kept_ite) | split | dsimp only

theorem State.pop_kept {still : Prop} {s0 s : State} (h : Kept still s0 s) : Kept still s0 (State.pop s) := by
  unfold State.pop
  try dsimp only
  repeat' first | (with_reducible first | assumption | intro _ | apply State.onHead_kept | apply State.showQueue_kept | apply State.wrapAdd_kept) | simp only [↓kept_mk_simp] | dsimp only

theorem execGo_kept {still : Prop} {s0 s : State} (h : Kept still s0 s) (path : Path) : KeptO still s0 (execGo path s) := by
  unfold execGo
  repeat' first | (with_reducible first | assumption | intro _ | apply State.go_kept | apply State.headlandDropped_kept | apply State.headlandWrite_kept | apply KeptO.next | apply kept_iteO | apply kept_ite) | split | dsimp only

theorem execAbort_kept {still : Prop} {s0 s : State} (h : Kept still s0 s) (path : Path) : KeptO still s0 (execAbort path s) := by
  unfold execAbort
  repeat' first | (with_reducible first | assumption | intro _ | apply State.headlandAbort_kept | apply State.headlandWrite_kept | apply KeptO.next) | dsimp only

theorem execTxPacketEnd_kept {still : Prop} {s0 s : State} (h : Kept still s0 s) : KeptO still s0 (execTxPacketEnd s) := by
  unfold execTxPacketEnd
  try dsimp only
  repeat' first | (with_reducible first | assumption | intro _ | apply State.bump_kept | apply State.headlandPump_kept | apply State.raise_kept | apply State.set_kept | apply KeptO.next | apply kept_iteO | apply kept_ite) | split | dsimp only

theorem execSync_kept {still : Prop} {s0 s : State} (h : Kept still s0 s) (path : Path) : KeptO still s0 (execSync path s) := by
  unfold execSync
  repeat' first | (with_reducible first | assumption | intro _ | apply State.chainsSync_kept | apply State.rwWrite_kept | apply KeptO.next) | dsimp only

theorem execSyncN_kept {still : Prop} {s0 s : State} (h : Kept still s0 s) : KeptO still s0 (execSyncN s) := by
  unfold execSyncN
  repeat' first | (with_reducible first | assumption | intro _ | apply State.chainsSync_kept | apply KeptO.next) | dsimp only

theorem execAdcbSamplesReturn_kept {still : Prop} {s0 s : State} (h : Kept still s0 s) : KeptO still s0 (execAdcbSamplesReturn s) := by
  unfold execAdcbSamplesReturn
  repeat' first | (with_reducible first | assumption | intro _ | apply State.chainReset_kept | apply KeptO.next) | dsimp only

theorem execChainSettled_kept {still : Prop} {s0 s : State} (h : Kept still s0 s) (chain : Fin 8) (samples : List Int) : KeptO still s0 (execChainSettled chain samples s) := by
  unfold execChainSettled
  repeat' first | (with_reducible first | assumption | intro _ | apply State.chainSettled_kept | apply State.samplesIn_kept | apply KeptO.next | apply kept_iteO | apply kept_ite) | split | dsimp only

theorem execDetectorWindowEnd_kept {still : Prop} {s0 s : State} (h : Kept still s0 s) (samples : List Int) : KeptO still s0 (execDetectorWindowEnd samples s) := by
  unfold execDetectorWindowEnd
  repeat' first | (with_reducible first | assumption | intro _ | apply State.samplesIn_kept | apply KeptO.next | apply kept_iteO | apply kept_ite) | split | dsimp only

theorem execPrimaryDetection_kept {still : Prop} {s0 s : State} (h : Kept still s0 s) (chain : Fin 8) (preamble : Preamble) : KeptO still s0 (execPrimaryDetection chain preamble s) := by
  unfold execPrimaryDetection
  repeat' first | (with_reducible first | assumption | intro _ | apply State.startPreamble_kept | apply KeptO.next | apply kept_iteO | apply kept_ite) | split | dsimp only

theorem execNewPreamble_kept {still : Prop} {s0 s : State} (h : Kept still s0 s) (chain : Fin 8) (preamble : Preamble) (timing : Int) (frequency : Int) (afc : Int) : KeptO still s0 (execNewPreamble chain preamble timing frequency afc s) := by
  unfold execNewPreamble
  repeat' first | (with_reducible first | assumption | intro _ | apply State.newPreamble_kept | apply KeptO.next | apply kept_iteO | apply kept_ite) | split | dsimp only

theorem execSyncWordMatch_kept {still : Prop} {s0 s : State} (h : Kept still s0 s) (chain : Fin 8) (word : Word) (level : Nat) (foffset : Int) : KeptO still s0 (execSyncWordMatch chain word level foffset s) := by
  unfold execSyncWordMatch
  repeat' first | (with_reducible first | assumption | intro _ | apply State.syncMatch_kept | apply KeptO.next) | dsimp only

theorem execSyncWindowEnd_kept {still : Prop} {s0 s : State} (h : Kept still s0 s) (chain : Fin 8) : KeptO still s0 (execSyncWindowEnd chain s) := by
  unfold execSyncWindowEnd
  repeat' first | (with_reducible first | assumption | intro _ | apply State.bump_kept | apply State.toSearch_kept | apply KeptO.next | apply kept_iteO | apply kept_ite) | split | dsimp only

theorem execLengthByte_kept {still : Prop} {s0 s : State} (h : Kept still s0 s) (chain : Fin 8) (value : Byte) : KeptO still s0 (execLengthByte chain value s) := by
  unfold execLengthByte
  repeat' first | (with_reducible first | assumption | intro _ | apply State.lengthIn_kept | apply KeptO.next) | dsimp only

theorem execLastCrcBit_kept {still : Prop} {s0 s : State} (h : Kept still s0 s) (chain : Fin 8) (data : List Byte) : KeptO still s0 (execLastCrcBit chain data s) := by
  unfold execLastCrcBit
  repeat' first | (with_reducible first | assumption | intro _ | apply State.lastCrc_kept | apply KeptO.next) | dsimp only

theorem execPop_kept {still : Prop} {s0 s : State} (h : Kept still s0 s) (path : Path) : KeptO still s0 (execPop path s) := by
  unfold execPop
  repeat' first | (with_reducible first | assumption | intro _ | apply State.headlandWrite_kept | apply State.pop_kept | apply KeptO.next) | dsimp only

theorem State.showLoop_kept {still : Prop} {s0 s : State} (h : Kept still s0 s) (n : Nat) : Kept still s0 (State.showLoop s n) := by
  unfold State.showLoop
  repeat' first | (with_reducible first | assumption | intro _ | apply State.setS_kept) | dsimp only

theorem State.feedbackLost_kept {still : Prop} {s0 s : State} (h : Kept still s0 s) (n : Nat) (cause : Nat) (lastGood : Nat) : Kept still s0 (State.feedbackLost s n cause lastGood) := by
  unfold State.feedbackLost
  try dsimp only
  repeat' first | (with_reducible first | assumption | intro _ | apply State.bump_kept | apply State.faultLog_kept | apply State.handOut_kept | apply State.loopFlag_kept | apply State.loopHold_kept | apply State.onDac_kept | apply State.onLoop_kept | apply State.set_kept | apply kept_ite) | simp only [↓kept_mk_simp] | split | dsimp only

theorem State.following_kept {still : Prop} {s0 s : State} (h : Kept still s0 s) (n : Nat) (e : Int) : Kept still s0 (State.following s n e).2 := by
  unfold State.following
  try dsimp only
  repeat' first | (with_reducible first | assumption | intro _ | apply State.bump_kept | apply State.loopFlag_kept | apply State.onLoop_kept | apply kept_ite) | simp only [↓kept_mk_simp] | split | dsimp only

theorem State.loopTold_kept {still : Prop} {s0 s : State} (h : Kept still s0 s) (n : Nat) : Kept still s0 (State.loopTold s n) := by
  unfold State.loopTold
  repeat' first | (with_reducible first | assumption | intro _ | apply State.tapped_kept | apply kept_foldl) | dsimp only

theorem State.traceUpdate_kept {still : Prop} {s0 s : State} (h : Kept still s0 s) (n : Nat) : Kept still s0 (State.traceUpdate s n) := by
  unfold State.traceUpdate
  try dsimp only
  repeat' first | (with_reducible first | assumption | intro _ | apply State.loopTold_kept | apply State.traceRecord_kept | apply kept_ite | apply kept_foldl) | split | dsimp only

theorem State.runLaw_kept {still : Prop} {s0 s : State} (h : Kept still s0 s) (n : Nat) (f : Int) (e : Int) : Kept still s0 (State.runLaw s n f e) := by
  unfold State.runLaw
  try dsimp only
  repeat' first | (with_reducible first | assumption | intro _ | apply State.loopFlag_kept | apply State.onLoop_kept | apply kept_ite) | simp only [↓kept_mk_simp] | refine pair_kept (by assumption) ?_ | split | dsimp only

theorem State.checkedUpdate_kept {still : Prop} {s0 s : State} (h : Kept still s0 s) (n : Nat) : Kept still s0 (State.checkedUpdate s n) := by
  unfold State.checkedUpdate
  try dsimp only
  repeat' first | (with_reducible first | assumption | intro _ | apply State.feedbackLost_kept | apply State.following_kept | apply State.loopHold_kept | apply State.onLoop_kept | apply State.runLaw_kept | apply kept_ite) | simp only [↓kept_mk_simp] | refine pair_kept (by assumption) ?_ | split | dsimp only

theorem State.closedUpdate_kept {still : Prop} {s0 s : State} (h : Kept still s0 s) (n : Nat) : Kept still s0 (State.closedUpdate s n) := by
  unfold State.closedUpdate
  try dsimp only
  repeat' first | (with_reducible first | assumption | intro _ | apply State.checkedUpdate_kept | apply State.onLoop_kept) | simp only [↓kept_mk_simp] | dsimp only

theorem State.loopRun_kept {still : Prop} {s0 s : State} (h : Kept still s0 s) (n : Nat) : Kept still s0 (State.loopRun s n) := by
  unfold State.loopRun
  try dsimp only
  repeat' first | (with_reducible first | assumption | intro _ | apply State.closedUpdate_kept | apply State.onLoop_kept | apply State.showLoop_kept | apply State.traceUpdate_kept | apply kept_ite) | simp only [↓kept_mk_simp] | split | dsimp only

theorem State.loopUpdate_kept {still : Prop} {s0 s : State} (h : Kept still s0 s) (n : Nat) : Kept still s0 (State.loopUpdate s n) := by
  unfold State.loopUpdate
  try dsimp only
  repeat' first | (with_reducible first | assumption | intro _ | apply State.loopRun_kept | apply State.onLoop_kept | apply kept_ite) | simp only [↓kept_mk_simp] | split | dsimp only

theorem State.lockIn_kept {still : Prop} {s0 s : State} (h : Kept still s0 s) (n : Nat) : Kept still s0 (State.lockIn s n) := by
  unfold State.lockIn
  try dsimp only
  repeat' first | (with_reducible first | assumption | intro _ | apply State.onLoop_kept | apply kept_ite) | simp only [↓kept_mk_simp] | split | dsimp only

theorem State.handOutputs_kept {still : Prop} {s0 s : State} (h : Kept still s0 s) (n : Nat) : Kept still s0 (State.handOutputs s n) := by
  unfold State.handOutputs
  try dsimp only
  repeat' first | (with_reducible first | assumption | intro _ | apply State.handOut_kept | apply State.onLoop_kept) | simp only [↓kept_mk_simp] | refine pair_kept (by assumption) ?_ | split | dsimp only

theorem State.deadlineMiss_kept {still : Prop} {s0 s : State} (h : Kept still s0 s) (n : Nat) : Kept still s0 (State.deadlineMiss s n) := by
  unfold State.deadlineMiss
  try dsimp only
  repeat' first | (with_reducible first | assumption | intro _ | apply State.bump_kept | apply State.feedbackLost_kept | apply State.loopFlag_kept | apply kept_ite) | split | dsimp only

theorem State.periodFrame_kept {still : Prop} {s0 s : State} (h : Kept still s0 s) (n : Nat) : Kept still s0 (State.periodFrame s n) := by
  unfold State.periodFrame
  try dsimp only
  repeat' first | (with_reducible first | assumption | intro _ | apply State.onLoop_kept | apply kept_ite) | simp only [↓kept_mk_simp] | split | dsimp only

theorem State.engineFrame_kept {still : Prop} {s0 s : State} (h : Kept still s0 s) : Kept still s0 (State.engineFrame s) := by
  unfold State.engineFrame
  try dsimp only
  repeat' first | (with_reducible first | assumption | intro _ | apply State.deadlineMiss_kept | apply State.handOutputs_kept | apply State.lockIn_kept | apply State.onAdc_kept | apply State.periodFrame_kept | apply State.setSat_kept | apply State.traceRecord_kept | apply State.wrapAdd_kept | apply kept_ite | apply kept_foldl) | simp only [↓kept_mk_simp] | split | dsimp only

theorem State.reclose_kept {still : Prop} {s0 s : State} (h : Kept still s0 s) (n : Nat) : Kept still s0 (State.reclose s n) := by
  unfold State.reclose
  repeat' first | (with_reducible first | assumption | intro _ | apply State.handOver_kept | apply State.loopFlag_kept | apply kept_ite) | split | dsimp only

theorem State.traceHalt_kept {still : Prop} {s0 s : State} (h : Kept still s0 s) (b : Nat) : Kept still s0 (State.traceHalt s b) := by
  unfold State.traceHalt
  repeat' first | (with_reducible first | assumption | intro _ | apply State.raise_kept | apply State.set_kept | apply kept_ite) | split | dsimp only

theorem State.traceRun_kept {still : Prop} {s0 s : State} (h : Kept still s0 s) (b : Nat) (run : Bool) : Kept still s0 (State.traceRun s b run) := by
  unfold State.traceRun
  try dsimp only
  repeat' first | (with_reducible first | assumption | intro _ | apply State.set_kept | apply State.traceHalt_kept | apply State.wr_kept | apply kept_ite) | simp only [↓kept_mk_simp] | split | dsimp only

theorem execEngineFrameStart_kept {still : Prop} {s0 s : State} (h : Kept still s0 s) : KeptO still s0 (execEngineFrameStart s) := by
  unfold execEngineFrameStart
  repeat' first | (with_reducible first | assumption | intro _ | apply State.engineFrame_kept | apply KeptO.next) | dsimp only

theorem execLoopUpdate_kept {still : Prop} {s0 s : State} (h : Kept still s0 s) (loop : Fin 16) : KeptO still s0 (execLoopUpdate loop s) := by
  unfold execLoopUpdate
  repeat' first | (with_reducible first | assumption | intro _ | apply State.loopUpdate_kept | apply KeptO.next) | dsimp only

theorem execLoopModeWrite_kept {still : Prop} {s0 s : State} (h : Kept still s0 s) (path : Path) (loop : Fin 16) (mode : Fin 8) : KeptO still s0 (execLoopModeWrite path loop mode s) := by
  unfold execLoopModeWrite
  try dsimp only
  repeat' first | (with_reducible first | assumption | intro _ | apply State.loopWritePath_kept | apply State.rwWrite_kept | apply KeptO.next) | dsimp only

theorem execLoopReclose_kept {still : Prop} {s0 s : State} (h : Kept still s0 s) (loop : Fin 16) : KeptO still s0 (execLoopReclose loop s) := by
  unfold execLoopReclose
  repeat' first | (with_reducible first | assumption | intro _ | apply State.reclose_kept | apply KeptO.next) | dsimp only

theorem execLoopRegisterWrite_kept {still : Prop} {s0 s : State} (h : Kept still s0 s) (path : Path) (loop : Fin 16) (word : Fin 64) (value : Word) : KeptO still s0 (execLoopRegisterWrite path loop word value s) := by
  unfold execLoopRegisterWrite
  repeat' first | (with_reducible first | assumption | intro _ | apply State.loopWritePath_kept | apply State.rwWrite_kept | apply KeptO.next) | dsimp only

theorem execTraceRun_kept {still : Prop} {s0 s : State} (h : Kept still s0 s) (path : Path) (buffer : Fin 4) (run : Bool) : KeptO still s0 (execTraceRun path buffer run s) := by
  unfold execTraceRun
  repeat' first | (with_reducible first | assumption | intro _ | apply State.rwWrite_kept | apply State.traceRun_kept | apply KeptO.next) | dsimp only

theorem execTraceStop_kept {still : Prop} {s0 s : State} (h : Kept still s0 s) (buffer : Fin 4) : KeptO still s0 (execTraceStop buffer s) := by
  unfold execTraceStop
  repeat' first | (with_reducible first | assumption | intro _ | apply State.traceHalt_kept | apply KeptO.next | apply kept_iteO | apply kept_ite) | split | dsimp only

theorem State.clearDirty_kept {still : Prop} {s0 s : State} (h : Kept still s0 s) : Kept still s0 (State.clearDirty s) := by
  unfold State.clearDirty
  try dsimp only
  repeat' first | (with_reducible first | assumption | intro _ | apply State.onAdc_kept | apply State.set_kept | apply kept_foldl) | simp only [↓kept_mk_simp] | dsimp only

theorem State.takePower_kept {still : Prop} {s0 s : State} (h : Kept still s0 s) : Kept still s0 (State.takePower s) := by
  unfold State.takePower
  try dsimp only
  repeat' first | (with_reducible first | assumption | intro _ | apply State.onAdc_kept | apply State.setB_kept) | simp only [↓kept_mk_simp] | dsimp only

theorem State.passStart_kept {still : Prop} {s0 s : State} (h : Kept still s0 s) : Kept still s0 (State.passStart s) := by
  unfold State.passStart
  try dsimp only
  repeat' first | (with_reducible first | assumption | intro _ | apply State.clearDirty_kept | apply State.onAdc_kept | apply State.set_kept | apply State.takePower_kept) | simp only [↓kept_mk_simp] | dsimp only

theorem State.passKick_kept {still : Prop} {s0 s : State} (h : Kept still s0 s) : Kept still s0 (State.passKick s) := by
  unfold State.passKick
  try dsimp only
  repeat' first | (with_reducible first | assumption | intro _ | apply State.onAdc_kept | apply State.passStart_kept | apply kept_ite) | simp only [↓kept_mk_simp] | refine pair_kept (by assumption) ?_ | split | dsimp only

theorem State.passEnd_kept {still : Prop} {s0 s : State} (h : Kept still s0 s) (entries : List Word) : Kept still s0 (State.passEnd s entries) := by
  unfold State.passEnd
  try dsimp only
  repeat' first | (with_reducible first | assumption | intro _ | apply State.clearDirty_kept | apply State.onAdc_kept | apply State.set_kept | apply State.setSat_kept | apply State.takePower_kept) | simp only [↓kept_mk_simp] | dsimp only

theorem State.showRequests_kept {still : Prop} {s0 s : State} (h : Kept still s0 s) : Kept still s0 (State.showRequests s) := by
  unfold State.showRequests
  repeat' first | (with_reducible first | assumption | intro _ | apply State.set_kept) | dsimp only

theorem State.nextEntry_kept {still : Prop} {s0 s : State} (h : Kept still s0 s) : Kept still s0 (State.nextEntry s) := by
  unfold State.nextEntry
  try dsimp only
  repeat' first | (with_reducible first | assumption | intro _ | apply State.onAdc_kept) | simp only [↓kept_mk_simp] | refine pair_kept (by assumption) ?_ | split | dsimp only

theorem State.passNext_kept {still : Prop} {s0 s : State} (h : Kept still s0 s) : Kept still s0 (State.passNext s) := by
  unfold State.passNext
  try dsimp only
  repeat' first | (with_reducible first | assumption | intro _ | apply State.nextEntry_kept | apply State.onAdc_kept | apply State.passEnd_kept | apply State.passKick_kept | apply kept_ite) | simp only [↓kept_mk_simp] | refine pair_kept (by assumption) ?_ | split | dsimp only

theorem State.convertNext_kept {still : Prop} {s0 s : State} (h : Kept still s0 s) : Kept still s0 (State.convertNext s) := by
  unfold State.convertNext
  try dsimp only
  repeat' first | (with_reducible first | assumption | intro _ | apply State.onAdc_kept | apply State.passNext_kept | apply State.showRequests_kept | apply kept_ite) | simp only [↓kept_mk_simp] | refine pair_kept (by assumption) ?_ | split | dsimp only

theorem State.goodSample_kept {still : Prop} {s0 s : State} (h : Kept still s0 s) (e : Nat) (raw : Nat) : Kept still s0 (State.goodSample s e raw) := by
  unfold State.goodSample
  repeat' first | (with_reducible first | assumption | intro _ | apply State.bump_kept | apply State.set_kept | apply kept_ite | apply kept_foldl) | split | dsimp only

theorem State.resultIn_kept {still : Prop} {s0 s : State} (h : Kept still s0 s) (e : Nat) (value : Nat) : Kept still s0 (State.resultIn s e value) := by
  unfold State.resultIn
  try dsimp only
  repeat' first | (with_reducible first | assumption | intro _ | apply State.onAdc_kept | apply State.set_kept | apply State.setB_kept | apply State.tapped_kept) | simp only [↓kept_mk_simp] | dsimp only

theorem State.diagResult_kept {still : Prop} {s0 s : State} (h : Kept still s0 s) (value : Nat) : Kept still s0 (State.diagResult s value) := by
  unfold State.diagResult
  try dsimp only
  repeat' first | (with_reducible first | assumption | intro _ | apply State.onAdc_kept | apply State.set_kept | apply kept_ite) | simp only [↓kept_mk_simp] | split | dsimp only

theorem State.entryConverted_kept {still : Prop} {s0 s : State} (h : Kept still s0 s) (e : Nat) : Kept still s0 (State.entryConverted s e) := by
  unfold State.entryConverted
  try dsimp only
  repeat' first | (with_reducible first | assumption | intro _ | apply State.onAdc_kept | apply State.set_kept | apply kept_ite) | simp only [↓kept_mk_simp] | split | dsimp only

theorem State.conversionDone_kept {still : Prop} {s0 s : State} (h : Kept still s0 s) (raw : Nat) : Kept still s0 (State.conversionDone s raw) := by
  unfold State.conversionDone
  try dsimp only
  repeat' first | (with_reducible first | assumption | intro _ | apply State.convertNext_kept | apply State.diagResult_kept | apply State.entryConverted_kept | apply State.goodSample_kept | apply State.onAdc_kept | apply State.raise_kept | apply State.resultIn_kept | apply State.set_kept | apply kept_ite) | simp only [↓kept_mk_simp] | refine pair_kept (by assumption) ?_ | split | dsimp only

theorem State.cyclesPass_kept {still : Prop} {s0 s : State} (h : Kept still s0 s) (cycles : Nat) : Kept still s0 (State.cyclesPass s cycles) := by
  unfold State.cyclesPass
  try dsimp only
  repeat' first | (with_reducible first | assumption | intro _ | apply State.convertNext_kept | apply State.onAdc_kept | apply State.sineAdvance_kept | apply kept_ite) | simp only [↓kept_mk_simp] | split | dsimp only

theorem State.injGo_kept {still : Prop} {s0 s : State} (h : Kept still s0 s) (ch : Nat) (sample : Nat) (gain : Nat) : Kept still s0 (State.injGo s ch sample gain) := by
  unfold State.injGo
  try dsimp only
  repeat' first | (with_reducible first | assumption | intro _ | apply State.bump_kept | apply State.convertNext_kept | apply State.onAdc_kept | apply State.raiseEvent_kept | apply State.set_kept | apply State.showRequests_kept | apply kept_ite) | simp only [↓kept_mk_simp] | split | dsimp only

theorem State.calRefused_kept {still : Prop} {s0 s : State} (h : Kept still s0 s) (reason : Nat) : Kept still s0 (State.calRefused s reason) := by
  unfold State.calRefused
  repeat' first | (with_reducible first | assumption | intro _ | apply State.raiseEvent_kept | apply State.set_kept) | dsimp only

theorem State.toCal_kept {still : Prop} {s0 s : State} (h : Kept still s0 s) (st : Nat) : Kept still s0 (State.toCal s st) := by
  unfold State.toCal
  try dsimp only
  repeat' first | (with_reducible first | assumption | intro _ | apply State.onAdc_kept | apply State.set_kept | apply kept_ite) | simp only [↓kept_mk_simp] | split | dsimp only

theorem State.calZero_kept {still : Prop} {s0 s : State} (h : Kept still s0 s) (ch : Nat) (gain : Nat) : Kept still s0 (State.calZero s ch gain) := by
  unfold State.calZero
  try dsimp only
  repeat' first | (with_reducible first | assumption | intro _ | apply State.calRefused_kept | apply State.convertNext_kept | apply State.onAdc_kept | apply State.set_kept | apply State.toCal_kept | apply kept_ite) | simp only [↓kept_mk_simp] | refine pair_kept (by assumption) ?_ | split | dsimp only

theorem State.calFull_kept {still : Prop} {s0 s : State} (h : Kept still s0 s) : Kept still s0 (State.calFull s) := by
  unfold State.calFull
  try dsimp only
  repeat' first | (with_reducible first | assumption | intro _ | apply State.calRefused_kept | apply State.convertNext_kept | apply State.set_kept | apply State.toCal_kept | apply kept_ite) | simp only [↓kept_mk_simp] | refine pair_kept (by assumption) ?_ | split | dsimp only

theorem State.calCancel_kept {still : Prop} {s0 s : State} (h : Kept still s0 s) : Kept still s0 (State.calCancel s) := by
  unfold State.calCancel
  repeat' first | (with_reducible first | assumption | intro _ | apply State.calRefused_kept | apply State.convertNext_kept | apply State.toCal_kept | apply kept_ite) | split | dsimp only

theorem State.calFullDone_kept {still : Prop} {s0 s : State} (h : Kept still s0 s) (f : Int) : Kept still s0 (State.calFullDone s f) := by
  unfold State.calFullDone
  try dsimp only
  repeat' first | (with_reducible first | assumption | intro _ | apply State.calRefused_kept | apply State.commitPair_kept | apply State.raiseEvent_kept | apply State.toCal_kept | apply kept_ite) | simp only [↓kept_mk_simp] | split | dsimp only

theorem State.calStep_kept {still : Prop} {s0 s : State} (h : Kept still s0 s) : Kept still s0 (State.calStep s) := by
  unfold State.calStep
  try dsimp only
  repeat' first | (with_reducible first | assumption | intro _ | apply State.calFullDone_kept | apply State.convertNext_kept | apply State.onAdc_kept | apply State.toCal_kept | apply kept_ite) | simp only [↓kept_mk_simp] | refine pair_kept (by assumption) ?_ | split | dsimp only

theorem State.diagStart_kept {still : Prop} {s0 s : State} (h : Kept still s0 s) (ch : Nat) : Kept still s0 (State.diagStart s ch) := by
  unfold State.diagStart
  try dsimp only
  repeat' first | (with_reducible first | assumption | intro _ | apply State.onAdc_kept | apply State.set_kept | apply kept_ite) | simp only [↓kept_mk_simp] | split | dsimp only

theorem State.testDacWrite_kept {still : Prop} {s0 s : State} (h : Kept still s0 s) (w : Word) : Kept still s0 (State.testDacWrite s w) := by
  unfold State.testDacWrite
  try dsimp only
  repeat' first | (with_reducible first | assumption | intro _ | apply State.onAdc_kept | apply State.set_kept) | simp only [↓kept_mk_simp] | refine pair_kept (by assumption) ?_ | split | dsimp only

theorem State.diagEnd_kept {still : Prop} {s0 s : State} (h : Kept still s0 s) (raws : List Nat) : Kept still s0 (State.diagEnd s raws) := by
  unfold State.diagEnd
  try dsimp only
  repeat' first | (with_reducible first | assumption | intro _ | apply State.convertNext_kept | apply State.onAdc_kept | apply State.raise_kept | apply State.raiseEvent_kept | apply State.set_kept | apply State.setSat_kept | apply kept_ite) | simp only [↓kept_mk_simp] | refine pair_kept (by assumption) ?_ | split | dsimp only

theorem State.baseCode_kept {still : Prop} {s0 s : State} (h : Kept still s0 s) (k : Nat) : Kept still s0 (State.baseCode s k).2 := by
  unfold State.baseCode
  try dsimp only
  repeat' first | (with_reducible first | assumption | intro _ | apply State.bump_kept | apply State.onDac_kept | apply State.raiseLimited_kept | apply State.set_kept) | simp only [↓kept_mk_simp] | refine pair_kept (by assumption) ?_ | split | dsimp only

theorem State.outputStage_kept {still : Prop} {s0 s : State} (h : Kept still s0 s) (k : Nat) (target : Nat) : Kept still s0 (State.outputStage s k target) := by
  unfold State.outputStage
  try dsimp only
  repeat' first | (with_reducible first | assumption | intro _ | apply State.onDac_kept | apply State.set_kept | apply kept_ite) | simp only [↓kept_mk_simp] | split | dsimp only

theorem State.withSine_kept {still : Prop} {s0 s : State} (h : Kept still s0 s) (k : Nat) (base : Nat) : Kept still s0 (State.withSine s k base).2 := by
  unfold State.withSine
  try dsimp only
  repeat' first | (with_reducible first | assumption | intro _ | apply State.bump_kept | apply State.raiseLimited_kept | apply kept_ite) | split | dsimp only

theorem State.driveTo_kept {still : Prop} {s0 s : State} (h : Kept still s0 s) (k : Nat) (base : Nat) : Kept still s0 (State.driveTo s k base) := by
  unfold State.driveTo
  try dsimp only
  repeat' first | (with_reducible first | assumption | intro _ | apply State.onDac_kept | apply State.outputStage_kept | apply State.withSine_kept | apply kept_ite) | simp only [↓kept_mk_simp] | refine pair_kept (by assumption) ?_ | split | dsimp only

theorem State.drivePlain_kept {still : Prop} {s0 s : State} (h : Kept still s0 s) (k : Nat) (code : Nat) : Kept still s0 (State.drivePlain s k code) := by
  unfold State.drivePlain
  try dsimp only
  repeat' first | (with_reducible first | assumption | intro _ | apply State.onDac_kept | apply State.outputStage_kept) | simp only [↓kept_mk_simp] | dsimp only

theorem State.dacUpdate_kept {still : Prop} {s0 s : State} (h : Kept still s0 s) (k : Nat) : Kept still s0 (State.dacUpdate s k) := by
  unfold State.dacUpdate
  try dsimp only
  repeat' first | (with_reducible first | assumption | intro _ | apply State.baseCode_kept | apply State.drivePlain_kept | apply State.driveTo_kept | apply State.onDac_kept | apply State.set_kept | apply kept_ite) | simp only [↓kept_mk_simp] | refine pair_kept (by assumption) ?_ | split | dsimp only

theorem State.dacTold_kept {still : Prop} {s0 s : State} (h : Kept still s0 s) (k : Nat) : Kept still s0 (State.dacTold s k) := by
  unfold State.dacTold
  repeat' first | (with_reducible first | assumption | intro _ | apply State.tapped_kept) | dsimp only

theorem State.spanStart_kept {still : Prop} {s0 s : State} (h : Kept still s0 s) (k : Nat) (new : Nat) : Kept still s0 (State.spanStart s k new) := by
  unfold State.spanStart
  try dsimp only
  repeat' first | (with_reducible first | assumption | intro _ | apply State.onDac_kept | apply State.set_kept | apply kept_ite) | simp only [↓kept_mk_simp] | split | dsimp only

theorem State.spanWrite_kept {still : Prop} {s0 s : State} (h : Kept still s0 s) (k : Nat) (span : Nat) : Kept still s0 (State.spanWrite s k span) := by
  unfold State.spanWrite
  try dsimp only
  repeat' first | (with_reducible first | assumption | intro _ | apply State.bump_kept | apply State.raiseEvent_kept | apply State.set_kept | apply State.spanStart_kept | apply kept_ite) | split | dsimp only

theorem State.spanDone_kept {still : Prop} {s0 s : State} (h : Kept still s0 s) (k : Nat) : Kept still s0 (State.spanDone s k) := by
  unfold State.spanDone
  try dsimp only
  repeat' first | (with_reducible first | assumption | intro _ | apply State.onDac_kept | apply State.raise_kept | apply State.set_kept | apply State.spanStart_kept | apply kept_ite) | simp only [↓kept_mk_simp] | refine pair_kept (by assumption) ?_ | split | dsimp only

theorem State.holdLoops_kept {still : Prop} {s0 s : State} (h : Kept still s0 s) : Kept still s0 (State.holdLoops s) := by
  unfold State.holdLoops
  repeat' first | (with_reducible first | assumption | intro _ | apply State.loopHold_kept | apply kept_ite | apply kept_foldl) | split | dsimp only

theorem State.clearLatched_kept {still : Prop} {s0 s : State} (h : Kept still s0 s) : Kept still s0 (State.clearLatched s) := by
  unfold State.clearLatched
  try dsimp only
  repeat' first | (with_reducible first | assumption | intro _ | apply State.handOver_kept | apply State.onLoop_kept | apply State.set_kept | apply kept_ite | apply kept_foldl) | simp only [↓kept_mk_simp] | split | dsimp only

theorem State.dacPush_kept {still : Prop} {s0 s : State} (h : Kept still s0 s) (k : Nat) (code : Nat) : Kept still s0 (State.dacPush s k code) := by
  unfold State.dacPush
  try dsimp only
  repeat' first | (with_reducible first | assumption | intro _ | apply State.bump_kept | apply State.onDac_kept | apply State.raiseLimited_kept | apply State.set_kept | apply kept_ite) | simp only [↓kept_mk_simp] | split | dsimp only

theorem State.frameLost_kept {still : Prop} {s0 s : State} (h : Kept still s0 s) : Kept still s0 (State.frameLost s) := by
  unfold State.frameLost
  repeat' first | (with_reducible first | assumption | intro _ | apply State.bump_kept | apply State.raiseEvent_kept) | dsimp only

theorem State.adcFrame_kept {still : Prop} {s0 s : State} (h : Kept still s0 s) : Kept still s0 (State.adcFrame s) := by
  unfold State.adcFrame
  try dsimp only
  repeat' first | (with_reducible first | assumption | intro _ | apply State.convertNext_kept | apply State.frameLost_kept | apply State.onAdc_kept | apply State.passStart_kept | apply kept_ite) | simp only [↓kept_mk_simp] | refine pair_kept (by assumption) ?_ | split | dsimp only

theorem execAdcFrameStart_kept {still : Prop} {s0 s : State} (h : Kept still s0 s) : KeptO still s0 (execAdcFrameStart s) := by
  unfold execAdcFrameStart
  repeat' first | (with_reducible first | assumption | intro _ | apply State.adcFrame_kept | apply KeptO.next) | dsimp only

theorem execSeqStart_kept {still : Prop} {s0 s : State} (h : Kept still s0 s) (path : Path) : KeptO still s0 (execSeqStart path s) := by
  unfold execSeqStart
  try dsimp only
  repeat' first | (with_reducible first | assumption | intro _ | apply State.convertNext_kept | apply State.onAdc_kept | apply State.rwWrite_kept | apply KeptO.next | apply kept_iteO | apply kept_ite) | simp only [↓kept_mk_simp] | split | dsimp only

theorem execConversionComplete_kept {still : Prop} {s0 s : State} (h : Kept still s0 s) (raw : Fin 4096) (elapsed : Nat) : KeptO still s0 (execConversionComplete raw elapsed s) := by
  unfold execConversionComplete
  repeat' first | (with_reducible first | assumption | intro _ | apply State.conversionDone_kept | apply State.cyclesPass_kept | apply KeptO.next) | dsimp only

theorem execInjGo_kept {still : Prop} {s0 s : State} (h : Kept still s0 s) (path : Path) (channel : Fin 32) (sample : Fin 16) (gain : Fin 4) : KeptO still s0 (execInjGo path channel sample gain s) := by
  unfold execInjGo
  repeat' first | (with_reducible first | assumption | intro _ | apply State.injGo_kept | apply State.rwWrite_kept | apply KeptO.next) | dsimp only

theorem execCalZero_kept {still : Prop} {s0 s : State} (h : Kept still s0 s) (path : Path) (channel : Fin 32) (gain : Fin 4) : KeptO still s0 (execCalZero path channel gain s) := by
  unfold execCalZero
  repeat' first | (with_reducible first | assumption | intro _ | apply State.calZero_kept | apply State.rwWrite_kept | apply KeptO.next) | dsimp only

theorem execCalFull_kept {still : Prop} {s0 s : State} (h : Kept still s0 s) (path : Path) : KeptO still s0 (execCalFull path s) := by
  unfold execCalFull
  repeat' first | (with_reducible first | assumption | intro _ | apply State.calFull_kept | apply State.rwWrite_kept | apply KeptO.next) | dsimp only

theorem execCalCancel_kept {still : Prop} {s0 s : State} (h : Kept still s0 s) (path : Path) : KeptO still s0 (execCalCancel path s) := by
  unfold execCalCancel
  repeat' first | (with_reducible first | assumption | intro _ | apply State.calCancel_kept | apply State.rwWrite_kept | apply KeptO.next) | dsimp only

theorem execCalStepComplete_kept {still : Prop} {s0 s : State} (h : Kept still s0 s) : KeptO still s0 (execCalStepComplete s) := by
  unfold execCalStepComplete
  repeat' first | (with_reducible first | assumption | intro _ | apply State.calStep_kept | apply KeptO.next) | dsimp only

theorem execCalZeroTimeout_kept {still : Prop} {s0 s : State} (h : Kept still s0 s) : KeptO still s0 (execCalZeroTimeout s) := by
  unfold execCalZeroTimeout
  repeat' first | (with_reducible first | assumption | intro _ | apply State.calRefused_kept | apply State.toCal_kept | apply KeptO.next | apply kept_iteO | apply kept_ite) | split | dsimp only

theorem execCalGWrite_kept {still : Prop} {s0 s : State} (h : Kept still s0 s) (path : Path) (pair : Fin 128) (value : Word) : KeptO still s0 (execCalGWrite path pair value s) := by
  unfold execCalGWrite
  repeat' first | (with_reducible first | assumption | intro _ | apply State.commitPair_kept | apply State.rwWrite_kept | apply KeptO.next) | dsimp only

theorem execDiag_kept {still : Prop} {s0 s : State} (h : Kept still s0 s) (path : Path) (channel : Fin 32) : KeptO still s0 (execDiag path channel s) := by
  unfold execDiag
  repeat' first | (with_reducible first | assumption | intro _ | apply State.diagStart_kept | apply State.rwWrite_kept | apply KeptO.next) | dsimp only

theorem execDiagComplete_kept {still : Prop} {s0 s : State} (h : Kept still s0 s) (raws : List (Fin 4096)) : KeptO still s0 (execDiagComplete raws s) := by
  unfold execDiagComplete
  repeat' first | (with_reducible first | assumption | intro _ | apply State.diagEnd_kept | apply KeptO.next) | dsimp only

theorem execPdacUpdate_kept {still : Prop} {s0 s : State} (h : Kept still s0 s) (ch : Fin 20) (elapsed : Nat) : KeptO still s0 (execPdacUpdate ch elapsed s) := by
  unfold execPdacUpdate
  repeat' first | (with_reducible first | assumption | intro _ | apply State.cyclesPass_kept | apply State.dacTold_kept | apply State.dacUpdate_kept | apply State.shutdownDone_kept | apply KeptO.next) | dsimp only

theorem execPdacQueuePush_kept {still : Prop} {s0 s : State} (h : Kept still s0 s) (path : Path) (ch : Fin 20) (code : Fin 65536) : KeptO still s0 (execPdacQueuePush path ch code s) := by
  unfold execPdacQueuePush
  repeat' first | (with_reducible first | assumption | intro _ | apply State.dacPush_kept | apply State.rwWrite_kept | apply KeptO.next) | dsimp only

theorem execSpanWrite_kept {still : Prop} {s0 s : State} (h : Kept still s0 s) (path : Path) (ch : Fin 20) (span : Fin 4) : KeptO still s0 (execSpanWrite path ch span s) := by
  unfold execSpanWrite
  repeat' first | (with_reducible first | assumption | intro _ | apply State.rwWrite_kept | apply State.spanWrite_kept | apply KeptO.next) | dsimp only

theorem execSpanDone_kept {still : Prop} {s0 s : State} (h : Kept still s0 s) (ch : Fin 20) : KeptO still s0 (execSpanDone ch s) := by
  unfold execSpanDone
  repeat' first | (with_reducible first | assumption | intro _ | apply State.spanDone_kept | apply KeptO.next) | dsimp only

theorem execOverTemp_kept {still : Prop} {s0 s : State} (h : Kept still s0 s) (temp : Int) : KeptO still s0 (execOverTemp temp s) := by
  unfold execOverTemp
  try dsimp only
  repeat' first | (with_reducible first | assumption | intro _ | apply State.bump_kept | apply State.faultLog_kept | apply State.holdLoops_kept | apply State.raiseEvent_kept | apply State.set_kept | apply State.setS_kept | apply KeptO.next | apply kept_iteO | apply kept_ite) | exact KeptO.fault | split | dsimp only

theorem execOtClear_kept {still : Prop} {s0 s : State} (h : Kept still s0 s) (temp : Int) : KeptO still s0 (execOtClear temp s) := by
  unfold execOtClear
  try dsimp only
  repeat' first | (with_reducible first | assumption | intro _ | apply State.set_kept | apply State.setS_kept | apply KeptO.next | apply kept_iteO | apply kept_ite) | split | dsimp only

theorem execLatchedClear_kept {still : Prop} {s0 s : State} (h : Kept still s0 s) (path : Path) : KeptO still s0 (execLatchedClear path s) := by
  unfold execLatchedClear
  repeat' first | (with_reducible first | assumption | intro _ | apply State.clearLatched_kept | apply State.rwWrite_kept | apply KeptO.next) | dsimp only

theorem execHkadcResultRead_kept {still : Prop} {s0 s : State} (h : Kept still s0 s) (path : Path) (e : Fin 17) : KeptO still s0 (execHkadcResultRead path e s) := by
  unfold execHkadcResultRead
  try dsimp only
  repeat' first | (with_reducible first | assumption | intro _ | apply State.downRead_kept | apply State.onAdc_kept | apply KeptO.next | apply kept_iteO | apply kept_ite) | simp only [↓kept_mk_simp] | split | dsimp only

theorem State.plStart_kept {still : Prop} {s0 s : State} (h : Kept still s0 s) : Kept still s0 (State.plStart s) := by
  unfold State.plStart
  try dsimp only
  repeat' first | (with_reducible first | assumption | intro _ | apply State.avsAsk_kept | apply State.onPower_kept | apply State.set_kept | apply kept_ite) | simp only [↓kept_mk_simp] | split | dsimp only

theorem State.plRequest_kept {still : Prop} {s0 s : State} (h : Kept still s0 s) (level : Nat) : Kept still s0 (State.plRequest s level) := by
  unfold State.plRequest
  repeat' first | (with_reducible first | assumption | intro _ | apply State.plStart_kept | apply State.set_kept) | dsimp only

theorem State.plLoad_kept {still : Prop} {s0 s : State} (h : Kept still s0 s) (minPl : Nat) (request : Nat) : Kept still s0 (State.plLoad s minPl request) := by
  unfold State.plLoad
  repeat' first | (with_reducible first | assumption | intro _ | apply State.plRequest_kept | apply State.set_kept) | dsimp only

theorem State.plDone_kept {still : Prop} {s0 s : State} (h : Kept still s0 s) : Kept still s0 (State.plDone s) := by
  unfold State.plDone
  repeat' first | (with_reducible first | assumption | intro _ | apply State.plStart_kept | apply State.raise_kept | apply State.set_kept) | dsimp only

theorem State.plFailed_kept {still : Prop} {s0 s : State} (h : Kept still s0 s) : Kept still s0 (State.plFailed s) := by
  unfold State.plFailed
  try dsimp only
  repeat' first | (with_reducible first | assumption | intro _ | apply State.onPower_kept | apply State.plStart_kept | apply State.raiseEvent_kept | apply State.set_kept | apply kept_ite) | simp only [↓kept_mk_simp] | split | dsimp only

theorem State.plRetry_kept {still : Prop} {s0 s : State} (h : Kept still s0 s) : Kept still s0 (State.plRetry s) := by
  unfold State.plRetry
  try dsimp only
  repeat' first | (with_reducible first | assumption | intro _ | apply State.avsAsk_kept | apply State.onPower_kept | apply kept_ite) | simp only [↓kept_mk_simp] | split | dsimp only

theorem State.regsSlept_kept {still : Prop} {s0 s : State} (h : Kept still s0 s) (d : Nat) (off : Bool) : Kept still s0 (State.regsSlept s d off) := by
  refine kept_stores h rfl (fun hw => ?_) id (fun _ => rfl) rfl rfl rfl rfl
  refine Store.wf_foldl (fun st p hs => ?_) hw
  split
  · exact Store.wf_write _ _ _ _ hs
  · exact hs

theorem State.quadPll_kept {still : Prop} {s0 s : State} (h : Kept still s0 s) (q : Nat) (v : Bool) : Kept still s0 (State.quadPll s q v) := by
  unfold State.quadPll
  try dsimp only
  repeat' first | (with_reducible first | assumption | intro _ | apply State.setB_kept | apply State.showIdle_kept | apply kept_foldl) | dsimp only

theorem State.stateSlept_kept {still : Prop} {s0 s : State} (h : Kept still s0 s) (d : Nat) : Kept still s0 (State.stateSlept s d) := by
  unfold State.stateSlept
  try dsimp only
  repeat' first | (with_reducible first | assumption | intro _ | apply State.clearAdaptive_kept | apply State.onLane_kept | apply State.onLine_kept | apply State.onPort_kept | apply State.onRx_kept | apply State.onTx_kept | apply State.quadPll_kept | apply kept_ite | apply kept_foldl) | simp only [↓kept_mk_simp] | split | dsimp only

theorem State.coresLost_kept {still : Prop} {s0 s : State} (h : Kept still s0 s) (d : Nat) (st : Nat) : Kept still s0 (State.coresLost s d st) := by
  unfold State.coresLost
  try dsimp only
  repeat' first | (with_reducible first | assumption | intro _ | apply kept_ite) | simp only [↓kept_mk_simp] | split | dsimp only

theorem State.sleepDomain_kept {still : Prop} {s0 s : State} (h : Kept still s0 s) (d : Nat) (st : Nat) : Kept still s0 (State.sleepDomain s d st) := by
  unfold State.sleepDomain
  try dsimp only
  repeat' first | (with_reducible first | assumption | intro _ | apply State.avsAsk_kept | apply State.coresLost_kept | apply State.lapEnd_kept | apply State.onPower_kept | apply State.regsSlept_kept | apply State.set_kept | apply State.stateSlept_kept | apply kept_ite) | simp only [↓kept_mk_simp] | split | dsimp only

theorem State.wordsInit_kept {s0 s : State} (h : Kept False s0 s) (d : Nat) : Kept False s0 (State.wordsInit s d) := by
  unfold State.wordsInit
  dsimp only
  split
  · exact h
  · exact kept_stores h rfl id (Store.wf_filter _ _ _) False.elim rfl rfl rfl rfl

theorem State.decoderAnew_kept {still : Prop} {s0 s : State} (h : Kept still s0 s) (d : Nat) : Kept still s0 (State.decoderAnew s d) := by
  unfold State.decoderAnew
  try dsimp only
  repeat' first | (with_reducible first | assumption | intro _ | apply State.onLine_kept | apply State.set_kept | apply kept_ite) | simp only [↓kept_mk_simp] | split | dsimp only

theorem State.avsDrop_kept {still : Prop} {s0 s : State} (h : Kept still s0 s) (d : Nat) : Kept still s0 (State.avsDrop s d) := by
  unfold State.avsDrop
  try dsimp only
  repeat' first | (with_reducible first | assumption | intro _ | apply State.avsServe_kept | apply State.onPower_kept) | simp only [↓kept_mk_simp] | dsimp only

theorem State.replay_kept {still : Prop} {s0 s : State} (h : Kept still s0 s) (d : Nat) : Kept still s0 (State.replay s d) := by
  unfold State.replay
  try dsimp only
  repeat' first | (with_reducible first | assumption | intro _ | apply State.deliver_kept | apply State.onPower_kept | apply State.raise_kept | apply State.setB_kept | apply kept_ite | apply kept_foldl) | simp only [↓kept_mk_simp] | split | dsimp only

theorem State.domainOff_kept {still : Prop} {s0 s : State} (h : Kept still s0 s) (d : Nat) : Kept still s0 (State.domainOff s d) := by
  unfold State.domainOff
  try dsimp only
  repeat' first | (with_reducible first | assumption | intro _ | apply State.avsDrop_kept | apply State.onPower_kept | apply State.sleepDomain_kept | apply State.wakeDomain_kept | apply kept_ite) | simp only [↓kept_mk_simp] | split | dsimp only

theorem State.resetNow_kept {still : Prop} {s0 s : State} (h : Kept still s0 s) (d : Nat) : Kept still s0 (State.resetNow s d) := by
  unfold State.resetNow
  repeat' first | (with_reducible first | assumption | intro _ | apply State.domainOff_kept | apply kept_ite) | split | dsimp only

theorem State.wakeDone_kept {s0 s : State} (h : Kept False s0 s) (d : Nat) : Kept False s0 (State.wakeDone s d) := by
  unfold State.wakeDone
  try dsimp only
  repeat' first | (with_reducible first | assumption | intro _ | apply State.decoderAnew_kept | apply State.memResume_kept | apply State.onPower_kept | apply State.quadPll_kept | apply State.replay_kept | apply State.resetNow_kept | apply State.set_kept | apply State.wordsInit_kept | apply kept_ite) | simp only [↓kept_mk_simp] | split | dsimp only

theorem State.wakeFail_kept {still : Prop} {s0 s : State} (h : Kept still s0 s) (d : Nat) (cause : Nat) : Kept still s0 (State.wakeFail s d cause) := by
  unfold State.wakeFail
  try dsimp only
  repeat' first | (with_reducible first | assumption | intro _ | apply State.avsDrop_kept | apply State.bump_kept | apply State.detected_kept | apply State.onPower_kept | apply State.raise_kept | apply State.resetNow_kept | apply State.set_kept | apply State.sleepDomain_kept | apply kept_ite) | simp only [↓kept_mk_simp] | split | dsimp only

theorem State.wakeAgain_kept {still : Prop} {s0 s : State} (h : Kept still s0 s) (d : Nat) : Kept still s0 (State.wakeAgain s d) := by
  unfold State.wakeAgain
  try dsimp only
  repeat' first | (with_reducible first | assumption | intro _ | apply State.onPower_kept | apply State.set_kept | apply State.wakeSequence_kept | apply kept_ite) | simp only [↓kept_mk_simp] | split | dsimp only

theorem State.avsPop_kept {still : Prop} {s0 s : State} (h : Kept still s0 s) (p : Nat) : Kept still s0 (State.avsPop s p) := by
  unfold State.avsPop
  try dsimp only
  repeat' first | (with_reducible first | assumption | intro _ | apply State.avsServe_kept | apply State.onPower_kept) | simp only [↓kept_mk_simp] | dsimp only

theorem State.avsDone_kept {still : Prop} {s0 s : State} (h : Kept still s0 s) (p : Nat) (mv : Nat) : Kept still s0 (State.avsDone s p mv) := by
  unfold State.avsDone
  try dsimp only
  repeat' first | (with_reducible first | assumption | intro _ | apply State.avsPop_kept | apply State.plDone_kept | apply State.set_kept) | simp only [↓kept_mk_simp] | refine pair_kept (by assumption) ?_ | split | dsimp only

theorem State.avsFail_kept {still : Prop} {s0 s : State} (h : Kept still s0 s) (p : Nat) (cause : Nat) : Kept still s0 (State.avsFail s p cause) := by
  unfold State.avsFail
  try dsimp only
  repeat' first | (with_reducible first | assumption | intro _ | apply State.avsPop_kept | apply State.bump_kept | apply State.plFailed_kept | apply State.wakeFail_kept | apply kept_ite) | simp only [↓kept_mk_simp] | refine pair_kept (by assumption) ?_ | split | dsimp only

theorem State.wakeStepFail_kept {still : Prop} {s0 s : State} (h : Kept still s0 s) (d : Nat) (cause : Nat) : Kept still s0 (State.wakeStepFail s d cause) := by
  unfold State.wakeStepFail
  try dsimp only
  repeat' first | (with_reducible first | assumption | intro _ | apply State.avsFail_kept | apply State.wakeFail_kept | apply kept_ite) | simp only [↓kept_mk_simp] | refine pair_kept (by assumption) ?_ | split | dsimp only

theorem State.onBist_kept {still : Prop} {s0 s : State} (h : Kept still s0 s) (f : BistSt → BistSt) (hf : BistKept s.bist (f s.bist)) : Kept still s0 (State.onBist s f) :=
  ⟨h.queue, h.canon, ⟨h.otp.revoked, h.otp.counts, fun q hq => hf.rows q (h.otp.rows q hq), fun u hu => hf.units u (h.otp.units u hu)⟩, h.words⟩

theorem State.bistRaise_kept {still : Prop} {s0 s : State} (h : Kept still s0 s) (b : Nat) : Kept still s0 (State.bistRaise s b) := by
  unfold State.bistRaise
  repeat' first | (with_reducible first | assumption | intro _ | apply State.raise_kept | apply State.raiseEvent_kept | apply kept_ite) | split | dsimp only

theorem State.showReports_kept {still : Prop} {s0 s : State} (h : Kept still s0 s) (r : BistRecord) : Kept still s0 (State.showReports s r) := by
  unfold State.showReports
  try dsimp only
  repeat' first | (with_reducible first | assumption | intro _ | apply State.wr_kept | apply kept_foldl) | simp only [↓kept_mk_simp] | refine pair_kept (by assumption) ?_ | split | dsimp only

theorem State.bistStart_kept {still : Prop} {s0 s : State} (h : Kept still s0 s) : Kept still s0 (State.bistStart s) := by
  unfold State.bistStart
  try dsimp only
  repeat' first | exact BistKept.mk (fun _ h => h) (fun _ h => h) | (with_reducible first | assumption | intro _ | apply State.onBist_kept | apply State.set_kept | apply State.vote_kept | apply kept_foldl) | simp only [↓kept_mk_simp] | dsimp only

theorem State.bistStop_kept {still : Prop} {s0 s : State} (h : Kept still s0 s) (rep : BistReport) : Kept still s0 (State.bistStop s rep) := by
  unfold State.bistStop
  try dsimp only
  repeat' first | exact BistKept.mk (fun _ h => h) (fun _ h => h) | (with_reducible first | assumption | intro _ | apply State.onBist_kept | apply State.set_kept | apply kept_ite) | simp only [↓kept_mk_simp] | split | dsimp only

theorem State.bistHold_kept {still : Prop} {s0 s : State} (h : Kept still s0 s) (reports : List BistReport) (restPass : Bool) : Kept still s0 (State.bistHold s reports restPass) := by
  unfold State.bistHold
  try dsimp only
  repeat' first | exact BistKept.mk (fun _ h => h) (fun _ h => h) | (with_reducible first | assumption | intro _ | apply State.onBist_kept) | simp only [↓kept_mk_simp] | dsimp only

theorem State.bistEnd_kept {still : Prop} {s0 s : State} (h : Kept still s0 s) (reports : List BistReport) : Kept still s0 (State.bistEnd s reports) := by
  unfold State.bistEnd
  try dsimp only
  repeat' first | (with_reducible first | assumption | intro _ | apply State.bistHold_kept | apply State.bistRaise_kept | apply State.set_kept | apply State.showReports_kept | apply State.unitFail_kept | apply State.vote_kept | apply kept_ite | apply kept_foldl) | split | dsimp only

theorem State.bistWritten_kept {still : Prop} {s0 s : State} (h : Kept still s0 s) (same : Bool) : Kept still s0 (State.bistWritten s same) := by
  unfold State.bistWritten
  try dsimp only
  repeat' first | exact BistSt.store_kept _ _ | exact BistSt.cut_kept _ | exact BistKept.mk (BistSt.store_kept _ _).rows (BistSt.store_kept _ _).units | exact BistKept.mk (fun _ h => h) (fun _ h => h) | (with_reducible first | assumption | intro _ | apply State.onBist_kept | apply State.set_kept | apply kept_ite) | simp only [↓kept_mk_simp] | refine pair_kept (by assumption) ?_ | split | dsimp only

theorem State.quickTest_kept {still : Prop} {s0 s : State} (h : Kept still s0 s) (reports : List BistReport) (ms : Nat) : Kept still s0 (State.quickTest s reports ms) := by
  unfold State.quickTest
  try dsimp only
  repeat' first | exact BistSt.store_kept _ _ | exact BistSt.cut_kept _ | exact BistKept.mk (BistSt.store_kept _ _).rows (BistSt.store_kept _ _).units | exact BistKept.mk (fun _ h => h) (fun _ h => h) | (with_reducible first | assumption | intro _ | apply State.bistRaise_kept | apply State.onBist_kept | apply State.set_kept | apply State.setSat_kept | apply State.showReports_kept | apply State.unitFail_kept | apply kept_ite | apply kept_foldl) | simp only [↓kept_mk_simp] | split | dsimp only

theorem State.showRepair_kept {still : Prop} {s0 s : State} (h : Kept still s0 s) : Kept still s0 (State.showRepair s) := by
  unfold State.showRepair
  try dsimp only
  repeat' first | (with_reducible first | assumption | intro _ | apply State.set_kept | apply State.setSat_kept) | dsimp only

theorem State.fallowSet_kept {still : Prop} {s0 s : State} (h : Kept still s0 s) : Kept still s0 (State.fallowSet s) := by
  unfold State.fallowSet
  try dsimp only
  repeat' first | exact BistKept.mk (fun _ h => h) (fun _ h => h) | (with_reducible first | assumption | intro _ | apply State.bistRaise_kept | apply State.onBist_kept | apply State.set_kept | apply State.showRepair_kept | apply State.wr_kept | apply kept_ite | apply kept_foldl) | simp only [↓kept_mk_simp] | split | dsimp only

theorem State.fused_kept {still : Prop} {s0 s : State} (h : Kept still s0 s) : Kept still s0 (State.fused s) := by
  unfold State.fused
  try dsimp only
  repeat' first | exact BistKept.mk (fun _ h => h) (fun _ h => h) | exact BistKept.mk (fun _ h => List.mem_append_left _ h) (fun _ h => List.mem_append_left _ h) | (with_reducible first | assumption | intro _ | apply State.bistRaise_kept | apply State.onBist_kept | apply State.set_kept | apply State.showRepair_kept | apply kept_ite) | simp only [↓kept_mk_simp] | refine pair_kept (by assumption) ?_ | split | dsimp only

theorem State.fuse_kept {still : Prop} {s0 s : State} (h : Kept still s0 s) (rows : List (Nat × Nat)) (units : List Nat) : Kept still s0 (State.fuse s rows units) := by
  unfold State.fuse
  try dsimp only
  repeat' first | exact BistKept.mk (fun _ h => h) (fun _ h => h) | (with_reducible first | assumption | intro _ | apply State.bistRaise_kept | apply State.onBist_kept | apply State.set_kept | apply kept_ite) | simp only [↓kept_mk_simp] | split | dsimp only

theorem State.bistIgnored_kept {still : Prop} {s0 s : State} (h : Kept still s0 s) : Kept still s0 (State.bistIgnored s) := by
  unfold State.bistIgnored
  repeat' first | (with_reducible first | assumption | intro _ | apply State.bump_kept) | dsimp only

theorem State.bistCommand_kept {still : Prop} {s0 s : State} (h : Kept still s0 s) (p : Path) (mayMaker : Bool) {k : State → State} (hk : ∀ s, Kept still s0 s → Kept still s0 (k s)) : Kept still s0 (State.bistCommand s p mayMaker k) := by
  unfold State.bistCommand
  try dsimp only
  repeat' first | (with_reducible first | assumption | intro _ | apply hk | apply State.downAccess_kept | apply State.refuseRight_kept | apply State.rwsDropped_kept | apply State.rwsWrite_kept | apply State.unanswered_kept | apply kept_ite) | simp only [↓kept_mk_simp] | refine pair_kept (by assumption) ?_ | split | dsimp only

theorem State.faultAck_kept {still : Prop} {s0 s : State} (h : Kept still s0 s) : Kept still s0 (State.faultAck s) := by
  unfold State.faultAck
  repeat' first | (with_reducible first | assumption | intro _ | apply State.faultPin_kept | apply State.set_kept | apply kept_ite | apply kept_foldl) | split | dsimp only

theorem State.planVotesFor_kept {still : Prop} {s0 s : State} (h : Kept still s0 s) (p : Plan) (bs : List Bound) : Kept still s0 (State.planVotesFor s p bs) := by
  unfold State.planVotesFor
  try dsimp only
  repeat' first | (with_reducible first | assumption | intro _ | apply State.planVotes_kept) | dsimp only

theorem State.planVotesNone_kept {still : Prop} {s0 s : State} (h : Kept still s0 s) : Kept still s0 (State.planVotesNone s) := by
  unfold State.planVotesNone
  repeat' first | (with_reducible first | assumption | intro _ | apply State.planVotes_kept) | dsimp only

theorem State.linkVotes_kept {still : Prop} {s0 s : State} (h : Kept still s0 s) (c : Carrier) (v : Bool) : Kept still s0 (State.linkVotes s c v) := by
  unfold State.linkVotes
  try dsimp only
  repeat' first | (with_reducible first | assumption | intro _ | apply State.vote_kept | apply kept_foldl) | simp only [↓kept_mk_simp] | refine pair_kept (by assumption) ?_ | split | dsimp only

theorem State.linkDark_kept {still : Prop} {s0 s : State} (h : Kept still s0 s) (c : Carrier) : Kept still s0 (State.linkDark s c) := by
  unfold State.linkDark
  try dsimp only
  repeat' first | (with_reducible first | assumption | intro _ | apply State.linkVotes_kept | apply State.onLink_kept | apply State.set_kept | apply State.toLink_kept | apply State.wr_kept | apply kept_ite) | split | dsimp only

theorem State.stepsDiscard_kept {still : Prop} {s0 s : State} (h : Kept still s0 s) (c : Carrier) : Kept still s0 (State.stepsDiscard s c) := by
  unfold State.stepsDiscard
  repeat' first | (with_reducible first | assumption | intro _ | apply State.set_kept) | dsimp only

theorem State.hostSideStops_kept {still : Prop} {s0 s : State} (h : Kept still s0 s) : Kept still s0 (State.hostSideStops s) := by
  unfold State.hostSideStops
  try dsimp only
  repeat' first | (with_reducible first | assumption | intro _ | apply State.set_kept | apply State.toIngress_kept | apply State.toLane_kept | apply kept_ite | apply kept_foldl) | split | dsimp only

theorem State.rxStatusClear_kept {still : Prop} {s0 s : State} (h : Kept still s0 s) (c : Carrier) : Kept still s0 (State.rxStatusClear s c) := by
  unfold State.rxStatusClear
  try dsimp only
  repeat' first | (with_reducible first | assumption | intro _ | apply State.set_kept | apply State.wr_kept | apply kept_foldl) | dsimp only

theorem State.rxRelease_kept {still : Prop} {s0 s : State} (h : Kept still s0 s) (c : Carrier) : Kept still s0 (State.rxRelease s c) := by
  unfold State.rxRelease
  repeat' first | (with_reducible first | assumption | intro _ | apply State.clearAdaptive_kept | apply State.evalAbandon_kept | apply State.rxStatusClear_kept | apply State.toRx_kept) | dsimp only

theorem State.applyStart_kept {still : Prop} {s0 s : State} (h : Kept still s0 s) : Kept still s0 (State.applyStart s) := by
  unfold State.applyStart
  try dsimp only
  repeat' first | (with_reducible first | assumption | intro _ | apply State.abortSwitch_kept | apply State.egressAll_kept | apply State.headlandAbort_kept | apply State.hostSideStops_kept | apply State.linkDark_kept | apply State.onPlan_kept | apply State.rampDown_kept | apply State.stepsDiscard_kept | apply State.toBuf_kept | apply State.toTt_kept | apply kept_ite | apply kept_foldl) | simp only [↓kept_mk_simp] | split | dsimp only

theorem State.swapDiscard_kept {still : Prop} {s0 s : State} (h : Kept still s0 s) (c : Carrier) : Kept still s0 (State.swapDiscard s c) := by
  unfold State.swapDiscard
  try dsimp only
  repeat' first | (with_reducible first | assumption | intro _ | apply State.set_kept | apply kept_ite) | split | dsimp only

theorem State.nlcStart_kept {still : Prop} {s0 s : State} (h : Kept still s0 s) (c : Carrier) (p : Plan) : Kept still s0 (State.nlcStart s c p) := by
  unfold State.nlcStart
  try dsimp only
  repeat' first | (with_reducible first | assumption | intro _ | apply State.evalAbandon_kept | apply State.onRx_kept | apply State.set_kept | apply State.swapDiscard_kept | apply kept_ite) | simp only [↓kept_mk_simp] | split | dsimp only

theorem State.rangesWrite_kept {still : Prop} {s0 s : State} (h : Kept still s0 s) (c : Carrier) (p : Plan) : Kept still s0 (State.rangesWrite s c p) := by
  unfold State.rangesWrite
  try dsimp only
  repeat' first | (with_reducible first | assumption | intro _ | apply State.set_kept | apply kept_foldl) | dsimp only

theorem State.txRegs_kept {still : Prop} {s0 s : State} (h : Kept still s0 s) (c : Carrier) (p : Plan) : Kept still s0 (State.txRegs s c p) := by
  unfold State.txRegs
  try dsimp only
  repeat' first | (with_reducible first | assumption | intro _ | apply State.rangesWrite_kept | apply State.set_kept | apply State.setS_kept | apply State.wr_kept | apply kept_foldl) | dsimp only

theorem State.rxRegs_kept {still : Prop} {s0 s : State} (h : Kept still s0 s) (c : Carrier) (p : Plan) : Kept still s0 (State.rxRegs s c p) := by
  unfold State.rxRegs
  try dsimp only
  repeat' first | (with_reducible first | assumption | intro _ | apply State.nlcStart_kept | apply State.onRx_kept | apply State.set_kept | apply State.setS_kept | apply kept_foldl) | simp only [↓kept_mk_simp] | dsimp only

theorem State.applyBind_kept {still : Prop} {s0 s : State} (h : Kept still s0 s) (p : Plan) : Kept still s0 (State.applyBind s p) := by
  unfold State.applyBind
  try dsimp only
  repeat' first | (with_reducible first | assumption | intro _ | apply State.onPlan_kept | apply State.rxRegs_kept | apply State.rxRelease_kept | apply State.set_kept | apply State.txRegs_kept | apply kept_foldl) | simp only [↓kept_mk_simp] | dsimp only

theorem State.loopDefaults_kept {still : Prop} {s0 s : State} (h : Kept still s0 s) (n : Nat) (r : Rec) : Kept still s0 (State.loopDefaults s n r) := by
  unfold State.loopDefaults
  try dsimp only
  repeat' first | (with_reducible first | assumption | intro _ | apply State.handOver_kept | apply State.loopHold_kept | apply State.loopWrite_kept | apply kept_ite | apply kept_foldl) | split | dsimp only

theorem State.loopsApply_kept {still : Prop} {s0 s : State} (h : Kept still s0 s) (p : Plan) : Kept still s0 (State.loopsApply s p) := by
  unfold State.loopsApply
  try dsimp only
  repeat' first | (with_reducible first | assumption | intro _ | apply State.loopDefaults_kept | apply kept_foldl) | simp only [↓kept_mk_simp] | refine pair_kept (by assumption) ?_ | split | dsimp only

theorem State.headlandApply_kept {still : Prop} {s0 s : State} (h : Kept still s0 s) (p : Plan) : Kept still s0 (State.headlandApply s p) := by
  unfold State.headlandApply
  try dsimp only
  repeat' first | (with_reducible first | assumption | intro _ | apply State.abandon_kept | apply State.set_kept | apply State.showSettled_kept | apply State.wr_kept | apply kept_ite | apply kept_foldl) | split | dsimp only

theorem State.timeApply_kept {still : Prop} {s0 s : State} (h : Kept still s0 s) (p : Plan) : Kept still s0 (State.timeApply s p) := by
  unfold State.timeApply
  try dsimp only
  repeat' first | (with_reducible first | assumption | intro _ | apply State.servoStop_kept | apply State.set_kept | apply kept_ite) | simp only [↓kept_mk_simp] | refine pair_kept (by assumption) ?_ | split | dsimp only

theorem State.fecApply_kept {still : Prop} {s0 s : State} (h : Kept still s0 s) (c : Carrier) (p : Plan) : Kept still s0 (State.fecApply s c p) := by
  unfold State.fecApply
  try dsimp only
  repeat' first | (with_reducible first | assumption | intro _ | apply State.set_kept | apply State.setB_kept | apply kept_foldl) | simp only [↓kept_mk_simp] | refine pair_kept (by assumption) ?_ | split | dsimp only

theorem State.framerApply_kept {still : Prop} {s0 s : State} (h : Kept still s0 s) (c : Carrier) (p : Plan) : Kept still s0 (State.framerApply s c p) := by
  unfold State.framerApply
  try dsimp only
  repeat' first | (with_reducible first | assumption | intro _ | apply State.onLine_kept | apply State.set_kept | apply State.setB_kept | apply State.wr_kept | apply kept_foldl) | dsimp only

theorem State.portApply_kept {still : Prop} {s0 s : State} (h : Kept still s0 s) (n : Nat) (p : Plan) : Kept still s0 (State.portApply s n p) := by
  unfold State.portApply
  try dsimp only
  repeat' first | (with_reducible first | assumption | intro _ | apply State.onPort_kept | apply State.set_kept | apply State.setB_kept | apply State.wr_kept | apply kept_ite) | simp only [↓kept_mk_simp] | refine pair_kept (by assumption) ?_ | split | dsimp only

theorem State.laneApply_kept {still : Prop} {s0 s : State} (h : Kept still s0 s) (n : Nat) (p : Plan) : Kept still s0 (State.laneApply s n p) := by
  unfold State.laneApply
  try dsimp only
  repeat' first | (with_reducible first | assumption | intro _ | apply State.set_kept | apply State.setB_kept) | simp only [↓kept_mk_simp] | refine pair_kept (by assumption) ?_ | split | dsimp only

theorem State.lanesStart_kept {still : Prop} {s0 s : State} (h : Kept still s0 s) : Kept still s0 (State.lanesStart s) := by
  unfold State.lanesStart
  repeat' first | (with_reducible first | assumption | intro _ | apply State.noSignal_kept | apply kept_ite | apply kept_foldl) | split | dsimp only

theorem State.applyFramer_kept {still : Prop} {s0 s : State} (h : Kept still s0 s) (p : Plan) : Kept still s0 (State.applyFramer s p) := by
  unfold State.applyFramer
  try dsimp only
  repeat' first | (with_reducible first | assumption | intro _ | apply State.fecApply_kept | apply State.framerApply_kept | apply State.laneApply_kept | apply State.lanesStart_kept | apply State.portApply_kept | apply kept_foldl) | dsimp only

theorem State.applyStage_kept {still : Prop} {s0 s : State} (h : Kept still s0 s) (p : Plan) (ms : Nat) : Kept still s0 (State.applyStage s p ms) := by
  unfold State.applyStage
  try dsimp only
  repeat' first | (with_reducible first | assumption | intro _ | apply State.applyBind_kept | apply State.applyFramer_kept | apply State.calColdApply_kept | apply State.headlandApply_kept | apply State.loopsApply_kept | apply State.plLoad_kept | apply State.plRequest_kept | apply State.planVotesFor_kept | apply State.timeApply_kept) | simp only [↓kept_mk_simp] | refine pair_kept (by assumption) ?_ | split | dsimp only

theorem State.applyUpTo_kept {still : Prop} {s0 s : State} (h : Kept still s0 s) (ms : Nat) : Kept still s0 (State.applyUpTo s ms) := by
  unfold State.applyUpTo
  try dsimp only
  repeat' first | (with_reducible first | assumption | intro _ | apply State.applyStage_kept | apply State.onPlan_kept | apply kept_foldl) | simp only [↓kept_mk_simp] | dsimp only

theorem State.carrierApplied_kept {still : Prop} {s0 s : State} (h : Kept still s0 s) (c : Carrier) (p : Plan) : Kept still s0 (State.carrierApplied s c p) := by
  unfold State.carrierApplied
  try dsimp only
  repeat' first | (with_reducible first | assumption | intro _ | apply State.gradualJump_kept | apply State.linkVotes_kept | apply State.netUpdate_kept | apply State.onLink_kept | apply State.rampUp_kept | apply State.set_kept | apply State.toLink_kept | apply State.toRx_kept | apply kept_ite) | simp only [↓kept_mk_simp] | split | dsimp only

theorem State.modeApply_kept {still : Prop} {s0 s : State} (h : Kept still s0 s) (mode : Nat) (minPl : Nat) : Kept still s0 (State.modeApply s mode minPl) := by
  unfold State.modeApply
  try dsimp only
  repeat' first | (with_reducible first | assumption | intro _ | apply State.raiseEvent_kept | apply State.set_kept | apply kept_ite) | split | dsimp only

theorem State.applyDone_kept {still : Prop} {s0 s : State} (h : Kept still s0 s) : Kept still s0 (State.applyDone s) := by
  unfold State.applyDone
  try dsimp only
  repeat' first | (with_reducible first | assumption | intro _ | apply State.applyUpTo_kept | apply State.carrierApplied_kept | apply State.egressAll_kept | apply State.lanesChanged_kept | apply State.modeApply_kept | apply State.onPlan_kept | apply State.planVotesNone_kept | apply State.raiseEvent_kept | apply State.set_kept | apply State.toBuf_kept | apply State.toIngress_kept | apply kept_ite | apply kept_foldl) | simp only [↓kept_mk_simp] | split | dsimp only

theorem State.rxCopy_kept {still : Prop} {s0 s : State} (h : Kept still s0 s) (c : Carrier) : Kept still s0 (State.rxCopy s c) := by
  unfold State.rxCopy
  try dsimp only
  repeat' first | (with_reducible first | assumption | intro _ | apply State.onRx_kept) | simp only [↓kept_mk_simp] | dsimp only

theorem State.prepare_kept {still : Prop} {s0 s : State} (h : Kept still s0 s) : Kept still s0 (State.prepare s) := by
  unfold State.prepare
  try dsimp only
  repeat' first | (with_reducible first | assumption | intro _ | apply State.onPlan_kept | apply State.plRequest_kept | apply State.planVotes_kept | apply State.rejectPlan_kept | apply State.rxCopy_kept | apply State.set_kept | apply State.toH_kept | apply kept_ite | apply kept_foldl) | simp only [↓kept_mk_simp] | refine pair_kept (by assumption) ?_ | split | dsimp only

theorem State.restore_kept {still : Prop} {s0 s : State} (h : Kept still s0 s) (c : Carrier) (a : Nat) (w : Word) : Kept still s0 (State.restore s c a w) := by
  unfold State.restore
  try dsimp only
  repeat' first | (with_reducible first | assumption | intro _ | apply State.wr_kept | apply kept_ite) | split | dsimp only

theorem State.rxSwitch_kept {still : Prop} {s0 s : State} (h : Kept still s0 s) (c : Carrier) : Kept still s0 (State.rxSwitch s c) := by
  unfold State.rxSwitch
  try dsimp only
  repeat' first | (with_reducible first | assumption | intro _ | apply State.evalAbandon_kept | apply State.nlcStart_kept | apply State.onPlan_kept | apply State.onRx_kept | apply State.restore_kept | apply State.set_kept | apply State.swapDiscard_kept | apply kept_ite | apply kept_foldl) | simp only [↓kept_mk_simp] | split | dsimp only

theorem State.switchStart_kept {still : Prop} {s0 s : State} (h : Kept still s0 s) : Kept still s0 (State.switchStart s) := by
  unfold State.switchStart
  try dsimp only
  repeat' first | (with_reducible first | assumption | intro _ | apply State.rxSwitch_kept | apply State.set_kept | apply State.toH_kept | apply kept_ite | apply kept_foldl) | split | dsimp only

theorem State.powerApply_kept {still : Prop} {s0 s : State} (h : Kept still s0 s) (p : Plan) : Kept still s0 (State.powerApply s p) := by
  unfold State.powerApply
  try dsimp only
  repeat' first | (with_reducible first | assumption | intro _ | apply State.plLoad_kept | apply State.plRequest_kept | apply State.planVotesFor_kept | apply State.planVotesNone_kept | apply kept_ite) | split | dsimp only

theorem State.votesFollow_kept {still : Prop} {s0 s : State} (h : Kept still s0 s) (p : Plan) (was : List Bound) : Kept still s0 (State.votesFollow s p was) := by
  unfold State.votesFollow
  try dsimp only
  repeat' first | (with_reducible first | assumption | intro _ | apply State.plLoad_kept | apply State.planVotes_kept | apply kept_ite) | split | dsimp only

theorem State.switchDone_kept {still : Prop} {s0 s : State} (h : Kept still s0 s) : Kept still s0 (State.switchDone s) := by
  unfold State.switchDone
  try dsimp only
  repeat' first | (with_reducible first | assumption | intro _ | apply State.bump_kept | apply State.commitOver_kept | apply State.onPlan_kept | apply State.powerApply_kept | apply State.raiseEvent_kept | apply State.rangesWrite_kept | apply State.set_kept | apply State.toH_kept | apply State.votesFollow_kept | apply kept_ite | apply kept_foldl) | simp only [↓kept_mk_simp] | split | dsimp only

theorem State.bootSlot_kept {still : Prop} {s0 s : State} (h : Kept still s0 s) (slot : Nat) : Kept still s0 (State.bootSlot s slot) := by
  unfold State.bootSlot
  try dsimp only
  repeat' first | (with_reducible first | assumption | intro _ | apply State.loadSlot_kept | apply State.loaded_kept | apply State.onPlan_kept | apply State.startValidation_kept) | simp only [↓kept_mk_simp] | dsimp only

theorem State.bootPlan_kept {still : Prop} {s0 s : State} (h : Kept still s0 s) : Kept still s0 (State.bootPlan s) := by
  unfold State.bootPlan
  try dsimp only
  repeat' first | (with_reducible first | assumption | intro _ | apply State.bootSlot_kept | apply State.onPlan_kept) | simp only [↓kept_mk_simp] | dsimp only

theorem State.bootRejected_kept {still : Prop} {s0 s : State} (h : Kept still s0 s) : Kept still s0 (State.bootRejected s) := by
  unfold State.bootRejected
  try dsimp only
  repeat' first | (with_reducible first | assumption | intro _ | apply State.bootSlot_kept | apply State.event_kept | apply State.raise_kept | apply State.set_kept | apply kept_ite) | split | dsimp only

theorem State.validated_kept {still : Prop} {s0 s : State} (h : Kept still s0 s) : Kept still s0 (State.validated s) := by
  unfold State.validated
  try dsimp only
  repeat' first | (with_reducible first | assumption | intro _ | apply State.applyStart_kept | apply State.bootRejected_kept | apply State.prepare_kept | apply State.raise_kept | apply State.rejectPlan_kept | apply State.set_kept | apply State.toBuf_kept | apply kept_ite) | simp only [↓kept_mk_simp] | refine pair_kept (by assumption) ?_ | split | dsimp only

theorem State.random_kept {still : Prop} {s0 s : State} (h : Kept still s0 s) (n : Nat) : Kept still s0 (State.random n s).2 := by
  induction n generalizing s with
  | zero => exact h
  | succ n ih => exact ih (State.freeWord_kept h)

theorem State.hello_kept {still : Prop} {s0 s : State} (h : Kept still s0 s) (e : Envelope) (role : Nat) : Kept still s0 (State.hello s e role) := by
  unfold State.hello
  try dsimp only
  repeat' first | (with_reducible first | assumption | intro _ | apply State.freeWord_kept | apply State.nak_kept | apply State.onSession_kept | apply State.random_kept | apply State.reply_kept | apply State.sessionEnd_kept | apply kept_ite) | simp only [↓kept_mk_simp] | refine pair_kept (by assumption) ?_ | split | dsimp only

theorem State.proofFailed_kept {still : Prop} {s0 s : State} (h : Kept still s0 s) (e : Envelope) (role : Nat) : Kept still s0 (State.proofFailed s e role) := by
  unfold State.proofFailed
  try dsimp only
  repeat' first | (with_reducible first | assumption | intro _ | apply State.bump_kept | apply State.nak_kept | apply State.secRaise_kept | apply State.set_kept | apply State.violate_kept | apply kept_ite) | split | dsimp only

theorem State.sessionOpen_kept {still : Prop} {s0 s : State} (h : Kept still s0 s) (p : Nat) (sid : Nat) (role : Nat) (okm : List Byte) : Kept still s0 (State.sessionOpen s p sid role okm) := by
  unfold State.sessionOpen
  try dsimp only
  repeat' first | (with_reducible first | assumption | intro _ | apply State.keyIn_kept | apply State.keyOut_kept | apply State.onSession_kept | apply State.secRaise_kept | apply State.sessionEnd_kept | apply State.set_kept) | dsimp only

theorem State.prove_kept {still : Prop} {s0 s : State} (h : Kept still s0 s) (e : Envelope) (sid : Nat) (nonce : List Byte) (proof : List Byte) (late : Bool) : Kept still s0 (State.prove s e sid nonce proof late) := by
  unfold State.prove
  try dsimp only
  repeat' first | (with_reducible first | assumption | intro _ | apply State.nak_kept | apply State.onSession_kept | apply State.proofFailed_kept | apply State.reply_kept | apply State.sessionOpen_kept | apply State.set_kept | apply kept_ite) | simp only [↓kept_mk_simp] | refine pair_kept (by assumption) ?_ | split | dsimp only

theorem State.roleSessionsEnd_kept {still : Prop} {s0 s : State} (h : Kept still s0 s) (role : Nat) : Kept still s0 (State.roleSessionsEnd s role) := by
  unfold State.roleSessionsEnd
  repeat' first | (with_reducible first | assumption | intro _ | apply State.sessionEnd_kept | apply kept_ite | apply kept_foldl) | split | dsimp only

theorem State.sessionsEnd_kept {still : Prop} {s0 s : State} (h : Kept still s0 s) : Kept still s0 (State.sessionsEnd s) := by
  unfold State.sessionsEnd
  repeat' first | (with_reducible first | assumption | intro _ | apply State.sessionEnd_kept | apply kept_foldl) | dsimp only

theorem State.showLc_kept {still : Prop} {s0 s : State} (h : Kept still s0 s) : Kept still s0 (State.showLc s) := by
  unfold State.showLc
  try dsimp only
  repeat' first | (with_reducible first | assumption | intro _ | apply State.set_kept | apply State.setB_kept | apply kept_ite | apply kept_foldl) | split | dsimp only

theorem State.setRoleKey_kept {still : Prop} {s0 s : State} (h : Kept still s0 s) (e : Envelope) (role : Nat) (key : List Byte) : Kept still s0 (State.setRoleKey s e role key) := by
  unfold State.setRoleKey
  try dsimp only
  repeat' first | exact SecKept.mk (fun _ h => h) (fun _ => Nat.le_refl _) | (with_reducible first | assumption | intro _ | apply State.done_kept | apply State.onSec_kept | apply State.roleSessionsEnd_kept | apply State.secRaise_kept | apply State.set_kept | apply State.showLc_kept) | simp only [↓kept_mk_simp] | dsimp only

theorem State.roleKeyIn_kept {still : Prop} {s0 s : State} (h : Kept still s0 s) (e : Envelope) (role : Nat) (key : List Byte) : Kept still s0 (State.roleKeyIn s e role key) := by
  unfold State.roleKeyIn
  repeat' first | (with_reducible first | assumption | intro _ | apply State.nak_kept | apply State.roleNak_kept | apply State.setRoleKey_kept | apply kept_ite) | split | dsimp only

theorem State.roleKeyBlank_kept {still : Prop} {s0 s : State} (h : Kept still s0 s) (e : Envelope) (role : Nat) (key : List Byte) : Kept still s0 (State.roleKeyBlank s e role key) := by
  unfold State.roleKeyBlank
  try dsimp only
  repeat' first | exact SecKept.mk (fun _ h => h) (fun _ => Nat.le_refl _) | (with_reducible first | assumption | intro _ | apply State.nak_kept | apply State.onSec_kept | apply State.roleNak_kept | apply State.setRoleKey_kept | apply kept_ite) | simp only [↓kept_mk_simp] | split | dsimp only

theorem State.showKeys_kept {still : Prop} {s0 s : State} (h : Kept still s0 s) : Kept still s0 (State.showKeys s) := by
  unfold State.showKeys
  repeat' first | (with_reducible first | assumption | intro _ | apply State.set_kept) | dsimp only

theorem State.recordLoad_kept {still : Prop} {s0 s : State} (h : Kept still s0 s) : Kept still s0 (State.recordLoad s) := by
  unfold State.recordLoad
  try dsimp only
  repeat' first | exact SecKept.mk (fun _ h => h) (fun _ => Nat.le_refl _) | (with_reducible first | assumption | intro _ | apply State.onSec_kept) | simp only [↓kept_mk_simp] | dsimp only

theorem State.recordWrite_kept {still : Prop} {s0 s : State} (h : Kept still s0 s) (f : SecSt → SecSt) (hf : ∀ x, SecKept x (f x)) : Kept still s0 (State.recordWrite s f) := by
  refine State.onSec_kept h _ ?_
  dsimp only
  split
  · exact ⟨(hf _).revoked, (hf _).counts⟩
  · exact ⟨(hf { s.sec with keys := s.sec.keys.take 6 ++ List.replicate 6 [], service := false, recordGood := true }).revoked,
      (hf { s.sec with keys := s.sec.keys.take 6 ++ List.replicate 6 [], service := false, recordGood := true }).counts⟩

theorem State.keyIn_kept {still : Prop} {s0 s : State} (h : Kept still s0 s) (k : Nat) (key : List Byte) : Kept still s0 (State.keyIn s k key) := by
  unfold State.keyIn
  try dsimp only
  repeat' first | exact (fun _ => SecKept.mk (fun _ h => h) (fun _ => Nat.le_refl _)) | (with_reducible first | assumption | intro _ | apply State.recordWrite_kept | apply State.secRaise_kept | apply State.set_kept | apply State.showKeys_kept) | simp only [↓kept_mk_simp] | dsimp only

theorem State.keyOut_kept {still : Prop} {s0 s : State} (h : Kept still s0 s) (k : Nat) : Kept still s0 (State.keyOut s k) := by
  unfold State.keyOut
  try dsimp only
  repeat' first | exact SecKept.mk (fun _ h => h) (fun _ => Nat.le_refl _) | exact SecKept.mk (fun k h => mem_revoked h) (fun _ => Nat.le_refl _) | (with_reducible first | assumption | intro _ | apply State.onSec_kept | apply State.secRaise_kept | apply State.showKeys_kept) | simp only [↓kept_mk_simp] | dsimp only

theorem State.toFw_kept {still : Prop} {s0 s : State} (h : Kept still s0 s) (st : Nat) : Kept still s0 (State.toFw s st) := by
  unfold State.toFw
  repeat' first | (with_reducible first | assumption | intro _ | apply State.set_kept) | dsimp only

theorem State.stageStart_kept {still : Prop} {s0 s : State} (h : Kept still s0 s) (t : ImageType) (expected : Option Nat) : Kept still s0 (State.stageStart s t expected) := by
  unfold State.stageStart
  try dsimp only
  repeat' first | exact SecKept.mk (fun _ h => h) (fun _ => Nat.le_refl _) | (with_reducible first | assumption | intro _ | apply State.onSec_kept | apply State.set_kept | apply State.toFw_kept) | simp only [↓kept_mk_simp] | dsimp only

theorem State.stageBytes_kept {still : Prop} {s0 s : State} (h : Kept still s0 s) (off : Nat) (data : List Byte) : Kept still s0 (State.stageBytes s off data) := by
  unfold State.stageBytes
  try dsimp only
  repeat' first | exact SecKept.mk (fun _ h => h) (fun _ => Nat.le_refl _) | (with_reducible first | assumption | intro _ | apply State.onSec_kept | apply State.toFw_kept | apply kept_ite) | simp only [↓kept_mk_simp] | split | dsimp only

theorem State.fwChunk_kept {still : Prop} {s0 s : State} (h : Kept still s0 s) (e : Envelope) (t : ImageType) (off : Nat) (data : List Byte) : Kept still s0 (State.fwChunk s e t off data) := by
  unfold State.fwChunk
  try dsimp only
  repeat' first | (with_reducible first | assumption | intro _ | apply State.done_kept | apply State.nak_kept | apply State.stageBytes_kept | apply State.stageStart_kept | apply State.violate_kept | apply kept_ite) | split | dsimp only

theorem State.fwSourceError_kept {still : Prop} {s0 s : State} (h : Kept still s0 s) : Kept still s0 (State.fwSourceError s) := by
  unfold State.fwSourceError
  repeat' first | (with_reducible first | assumption | intro _ | apply State.secRaise_kept | apply State.set_kept | apply State.toFw_kept) | dsimp only

theorem State.fwLoadWindow_kept {still : Prop} {s0 s : State} (h : Kept still s0 s) (e : Envelope) (t : ImageType) (off : Nat) (len : Nat) : Kept still s0 (State.fwLoadWindow s e t off len) := by
  unfold State.fwLoadWindow
  try dsimp only
  repeat' first | (with_reducible first | assumption | intro _ | apply State.done_kept | apply State.fwSourceError_kept | apply State.nak_kept | apply State.stageStart_kept | apply State.windowFault_kept | apply kept_ite) | split | dsimp only

theorem State.fwLoaded_kept {still : Prop} {s0 s : State} (h : Kept still s0 s) (data : List Byte) : Kept still s0 (State.fwLoaded s data) := by
  unfold State.fwLoaded
  try dsimp only
  repeat' first | exact SecKept.mk (fun _ h => h) (fun _ => Nat.le_refl _) | (with_reducible first | assumption | intro _ | apply State.fwSourceError_kept | apply State.onSec_kept | apply State.toFw_kept | apply kept_ite) | simp only [↓kept_mk_simp] | refine pair_kept (by assumption) ?_ | split | dsimp only

theorem State.fwVerify_kept {still : Prop} {s0 s : State} (h : Kept still s0 s) (e : Envelope) : Kept still s0 (State.fwVerify s e) := by
  unfold State.fwVerify
  try dsimp only
  repeat' first | exact SecKept.mk (fun _ h => h) (fun _ => Nat.le_refl _) | (with_reducible first | assumption | intro _ | apply State.done_kept | apply State.nak_kept | apply State.onSec_kept | apply State.toFw_kept | apply kept_ite) | simp only [↓kept_mk_simp] | split | dsimp only

theorem State.tasksStop_kept {still : Prop} {s0 s : State} (h : Kept still s0 s) : Kept still s0 (State.tasksStop s) := by
  unfold State.tasksStop
  repeat' first | (with_reducible first | assumption | intro _ | apply State.set_kept | apply kept_foldl) | dsimp only

theorem State.ploughStop_kept {still : Prop} {s0 s : State} (h : Kept still s0 s) (st : Nat) : Kept still s0 (State.ploughStop s st) := by
  unfold State.ploughStop
  repeat' first | (with_reducible first | assumption | intro _ | apply State.set_kept | apply State.tasksStop_kept) | dsimp only

theorem State.ploughStart_kept {still : Prop} {s0 s : State} (h : Kept still s0 s) : Kept still s0 (State.ploughStart s) := by
  unfold State.ploughStart
  repeat' first | (with_reducible first | assumption | intro _ | apply State.ploughStop_kept | apply State.set_kept | apply State.vote_kept) | dsimp only

theorem State.ploughRestart_kept {still : Prop} {s0 s : State} (h : Kept still s0 s) : Kept still s0 (State.ploughRestart s) := by
  unfold State.ploughRestart
  repeat' first | (with_reducible first | assumption | intro _ | apply State.bump_kept | apply State.cpuRaise_kept | apply State.ploughStart_kept) | dsimp only

theorem State.tasksStart_kept {still : Prop} {s0 s : State} (h : Kept still s0 s) : Kept still s0 (State.tasksStart s) := by
  unfold State.tasksStart
  repeat' first | (with_reducible first | assumption | intro _ | apply State.set_kept | apply kept_ite | apply kept_foldl) | split | dsimp only

theorem State.ploughReady_kept {still : Prop} {s0 s : State} (h : Kept still s0 s) (core : Nat) : Kept still s0 (State.ploughReady s core) := by
  unfold State.ploughReady
  try dsimp only
  repeat' first | exact SecKept.mk (fun _ h => h) (fun _ => Nat.le_refl _) | (with_reducible first | assumption | intro _ | apply State.onSec_kept | apply State.secRaise_kept | apply State.set_kept | apply State.tasksStart_kept | apply State.toFw_kept | apply State.vote_kept | apply kept_ite) | simp only [↓kept_mk_simp] | split | dsimp only

theorem State.showTrial_kept {still : Prop} {s0 s : State} (h : Kept still s0 s) : Kept still s0 (State.showTrial s) := by
  unfold State.showTrial
  try dsimp only
  repeat' first | (with_reducible first | assumption | intro _ | apply State.set_kept | apply State.toFw_kept | apply kept_ite) | split | dsimp only

theorem State.showOtp_kept {still : Prop} {s0 s : State} (h : Kept still s0 s) : Kept still s0 (State.showOtp s) := by
  unfold State.showOtp
  try dsimp only
  repeat' first | (with_reducible first | assumption | intro _ | apply State.set_kept | apply State.showKeys_kept | apply State.showLc_kept) | dsimp only

theorem State.hedgeBoot_kept {still : Prop} {s0 s : State} (h : Kept still s0 s) : Kept still s0 (State.hedgeBoot s) := by
  unfold State.hedgeBoot
  try dsimp only
  repeat' first | exact SecKept.mk (fun _ h => h) (fun _ => Nat.le_refl _) | (with_reducible first | assumption | intro _ | apply State.event_kept | apply State.onSec_kept | apply State.recordLoad_kept | apply State.set_kept | apply State.setB_kept | apply State.showOtp_kept | apply State.wr_kept | apply kept_ite) | simp only [↓kept_mk_simp] | refine pair_kept (by assumption) ?_ | split | dsimp only

theorem State.ploughShown_kept {still : Prop} {s0 s : State} (h : Kept still s0 s) (k : Nat) : Kept still s0 (State.ploughShown s k) := by
  unfold State.ploughShown
  try dsimp only
  repeat' first | exact SecKept.mk (fun _ h => h) (fun _ => Nat.le_refl _) | (with_reducible first | assumption | intro _ | apply State.onSec_kept | apply State.set_kept | apply State.setB_kept | apply State.wr_kept) | simp only [↓kept_mk_simp] | dsimp only

theorem State.ploughBoot_kept {still : Prop} {s0 s : State} (h : Kept still s0 s) : Kept still s0 (State.ploughBoot s) := by
  unfold State.ploughBoot
  try dsimp only
  repeat' first | (with_reducible first | assumption | intro _ | apply State.event_kept | apply State.ploughShown_kept | apply State.ploughStart_kept | apply State.ploughStop_kept | apply State.setB_kept | apply kept_ite) | simp only [↓kept_mk_simp] | refine pair_kept (by assumption) ?_ | split | dsimp only

theorem State.hedgeRestart_kept {still : Prop} {s0 s : State} (h : Kept still s0 s) : Kept still s0 (State.hedgeRestart s) := by
  unfold State.hedgeRestart
  try dsimp only
  repeat' first | exact SecKept.mk (fun _ h => h) (fun _ => Nat.le_refl _) | (with_reducible first | assumption | intro _ | apply State.onSec_kept | apply State.sessionsEnd_kept) | simp only [↓kept_mk_simp] | dsimp only

theorem State.slotTake_kept {still : Prop} {s0 s : State} (h : Kept still s0 s) (kind : Nat) (img : List Byte) : Kept still s0 (State.slotTake s kind img) := by
  unfold State.slotTake
  try dsimp only
  repeat' first | exact SecKept.mk (fun _ h => h) (fun _ => Nat.le_refl _) | (with_reducible first | assumption | intro _ | apply State.onSec_kept | apply State.set_kept) | simp only [↓kept_mk_simp] | dsimp only

theorem State.keysUpdate_kept {still : Prop} {s0 s : State} (h : Kept still s0 s) (img : List Byte) : Kept still s0 (State.keysUpdate s img) := by
  unfold State.keysUpdate
  try dsimp only
  repeat' first | (with_reducible first | assumption | intro _ | apply State.keyIn_kept | apply State.keyOut_kept | apply State.keyUpdate_kept | apply kept_foldl) | dsimp only

theorem State.keyUpdate_kept {still : Prop} {s0 s : State} (h : Kept still s0 s) (img : List Byte) : Kept still s0 (State.keyUpdate s img) := by
  unfold State.keyUpdate
  try dsimp only
  repeat' first | exact SecKept.mk (fun _ h => h) (fun _ => Nat.le_refl _) | (with_reducible first | assumption | intro _ | apply State.keysUpdate_kept | apply State.onSec_kept | apply State.roleSessionsEnd_kept | apply State.secRaise_kept | apply State.set_kept | apply State.showLc_kept) | simp only [↓kept_mk_simp] | refine pair_kept (by assumption) ?_ | split | dsimp only

theorem State.fwActivate_kept {still : Prop} {s0 s : State} (h : Kept still s0 s) (e : Envelope) : Kept still s0 (State.fwActivate s e) := by
  unfold State.fwActivate
  try dsimp only
  repeat' first | exact SecKept.mk (fun _ h => h) (fun _ => Nat.le_refl _) | (with_reducible first | assumption | intro _ | apply State.abandonCommits_kept | apply State.bump_kept | apply State.cpuRaise_kept | apply State.done_kept | apply State.hedgeRestart_kept | apply State.keyUpdate_kept | apply State.nak_kept | apply State.onSec_kept | apply State.ploughStop_kept | apply State.secRaise_kept | apply State.set_kept | apply State.slotTake_kept | apply State.toFw_kept | apply State.vote_kept | apply kept_ite | apply kept_foldl) | simp only [↓kept_mk_simp] | refine pair_kept (by assumption) ?_ | split | dsimp only

theorem State.fwCommit_kept {still : Prop} {s0 s : State} (h : Kept still s0 s) (e : Envelope) : Kept still s0 (State.fwCommit s e) := by
  unfold State.fwCommit
  try dsimp only
  repeat' first | exact SecKept.mk (fun _ h => h) (fun _ => Nat.le_refl _) | exact fwCommit_burnt _ _ _ _ | (with_reducible first | assumption | intro _ | apply State.done_kept | apply State.nak_kept | apply State.onSec_kept | apply State.secRaise_kept | apply State.set_kept | apply State.showOtp_kept | apply State.toFw_kept | apply kept_ite) | simp only [↓kept_mk_simp] | split | dsimp only

theorem State.fwRevert_kept {still : Prop} {s0 s : State} (h : Kept still s0 s) : Kept still s0 (State.fwRevert s) := by
  unfold State.fwRevert
  try dsimp only
  repeat' first | exact SecKept.mk (fun _ h => h) (fun _ => Nat.le_refl _) | (with_reducible first | assumption | intro _ | apply State.bump_kept | apply State.cpuRaise_kept | apply State.hedgeRestart_kept | apply State.onSec_kept | apply State.ploughBoot_kept | apply State.secRaise_kept | apply State.set_kept | apply State.toFw_kept | apply kept_ite) | simp only [↓kept_mk_simp] | split | dsimp only

theorem State.copyVerified_kept {still : Prop} {s0 s : State} (h : Kept still s0 s) : Kept still s0 (State.copyVerified s) := by
  unfold State.copyVerified
  try dsimp only
  repeat' first | (with_reducible first | assumption | intro _ | apply State.fwRevert_kept | apply State.ploughShown_kept | apply State.ploughStart_kept | apply kept_ite) | split | dsimp only

theorem State.fwVerified_kept {still : Prop} {s0 s : State} (h : Kept still s0 s) : Kept still s0 (State.fwVerified s) := by
  unfold State.fwVerified
  repeat' first | (with_reducible first | assumption | intro _ | apply State.copyVerified_kept | apply State.secRaise_kept | apply State.set_kept | apply State.toFw_kept | apply kept_ite) | split | dsimp only

theorem State.hedgeRestarted_kept {still : Prop} {s0 s : State} (h : Kept still s0 s) : Kept still s0 (State.hedgeRestarted s) := by
  unfold State.hedgeRestarted
  try dsimp only
  repeat' first | exact SecKept.mk (fun _ h => h) (fun _ => Nat.le_refl _) | (with_reducible first | assumption | intro _ | apply State.hedgeBoot_kept | apply State.onSec_kept | apply State.secRaise_kept | apply State.toFw_kept | apply kept_ite) | simp only [↓kept_mk_simp] | split | dsimp only

theorem State.trialWatchdog_kept {still : Prop} {s0 s : State} (h : Kept still s0 s) (t : Nat) : Kept still s0 (State.trialWatchdog s t).2 := by
  unfold State.trialWatchdog
  try dsimp only
  repeat' first | exact SecKept.mk (fun _ h => h) (fun _ => Nat.le_refl _) | (with_reducible first | assumption | intro _ | apply State.fwRevert_kept | apply State.onSec_kept | apply kept_ite) | simp only [↓kept_mk_simp] | split | dsimp only

theorem State.ploughWatchdog_kept {still : Prop} {s0 s : State} (h : Kept still s0 s) (core : Nat) : Kept still s0 (State.ploughWatchdog s core) := by
  unfold State.ploughWatchdog
  try dsimp only
  repeat' first | exact SecKept.mk (fun _ h => h) (fun _ => Nat.le_refl _) | (with_reducible first | assumption | intro _ | apply State.bump_kept | apply State.cpuRaise_kept | apply State.faultLog_kept | apply State.markInService_kept | apply State.onSec_kept | apply State.ploughRestart_kept | apply State.ploughStop_kept | apply State.trialWatchdog_kept | apply kept_ite) | simp only [↓kept_mk_simp] | refine pair_kept (by assumption) ?_ | split | dsimp only

theorem State.hedgeWatchdog_kept {still : Prop} {s0 s : State} (h : Kept still s0 s) : Kept still s0 (State.hedgeWatchdog s) := by
  unfold State.hedgeWatchdog
  try dsimp only
  repeat' first | (with_reducible first | assumption | intro _ | apply State.faultLog_kept | apply State.freeWord_kept | apply State.hedgeRestart_kept | apply State.trialWatchdog_kept) | simp only [↓kept_mk_simp] | refine pair_kept (by assumption) ?_ | split | dsimp only

theorem State.taskInstall_kept {still : Prop} {s0 s : State} (h : Kept still s0 s) (e : Envelope) (index : Nat) : Kept still s0 (State.taskInstall s e index) := by
  unfold State.taskInstall
  try dsimp only
  repeat' first | exact SecKept.mk (fun _ h => h) (fun _ => Nat.le_refl _) | (with_reducible first | assumption | intro _ | apply State.done_kept | apply State.nak_kept | apply State.onSec_kept | apply State.set_kept | apply State.toFw_kept | apply State.wr_kept | apply kept_ite) | simp only [↓kept_mk_simp] | split | dsimp only

theorem State.taskRemove_kept {still : Prop} {s0 s : State} (h : Kept still s0 s) (e : Envelope) (index : Nat) : Kept still s0 (State.taskRemove s e index) := by
  unfold State.taskRemove
  try dsimp only
  repeat' first | exact SecKept.mk (fun _ h => h) (fun _ => Nat.le_refl _) | (with_reducible first | assumption | intro _ | apply State.done_kept | apply State.nak_kept | apply State.onSec_kept | apply State.set_kept | apply State.wr_kept | apply kept_ite) | simp only [↓kept_mk_simp] | split | dsimp only

theorem State.lcMove_kept {still : Prop} {s0 s : State} (h : Kept still s0 s) (e : Envelope) (f : SecSt → SecSt) (hf : SecKept s.sec (f s.sec)) :
    Kept still s0 (State.lcMove s e f) :=
  State.secRaise_kept (State.sessionsEnd_kept (State.done_kept (State.showLc_kept (State.onSec_kept h f hf)) ..)) ..

theorem State.lcChange_kept {still : Prop} {s0 s : State} (h : Kept still s0 s) (e : Envelope) (target : Nat) : Kept still s0 (State.lcChange s e target) := by
  unfold State.lcChange
  try dsimp only
  repeat' first | exact SecKept.mk (fun _ h => h) (fun _ => Nat.le_refl _) | exact (fun _ => SecKept.mk (fun _ h => h) (fun _ => Nat.le_refl _)) | exact (fun _ h => h) | exact BistKept.mk (fun _ h => h) (fun _ h => h) | (with_reducible first | assumption | intro _ | apply State.applyStart_kept | apply State.lcMove_kept | apply State.nak_kept | apply State.onBist_kept | apply State.onPlan_kept | apply State.recordWrite_kept | apply State.roleNak_kept | apply State.set_kept | apply State.showKeys_kept | apply State.showLc_kept | apply State.tasksStop_kept | apply kept_ite) | simp only [↓kept_mk_simp] | refine pair_kept (by assumption) ?_ | split | dsimp only

theorem State.someMf_kept {still : Prop} {s0 s : State} (h : Kept still s0 s) (c : Carrier) : Kept still s0 (State.someMf s c).2 := by
  unfold State.someMf
  try dsimp only
  repeat' first | (with_reducible first | assumption | intro _ | apply State.freeWord_kept) | refine pair_kept (by assumption) ?_ | split | dsimp only

theorem State.mgrHandle_kept {still : Prop} {s0 s : State} (h : Kept still s0 s) (e : Envelope) (m : MgrReq) : Kept still s0 (State.mgrHandle s e m) := by
  unfold State.mgrHandle
  try dsimp only
  repeat' first | (with_reducible first | assumption | intro _ | apply State.done_kept | apply State.headlandSend_kept | apply State.nak_kept | apply State.propose_kept | apply State.renegotiate_kept | apply State.someMf_kept | apply State.writeTarget_kept | apply kept_ite | apply kept_foldl) | simp only [↓kept_mk_simp] | refine pair_kept (by assumption) ?_ | split | dsimp only

theorem State.mgrGive_kept {still : Prop} {s0 s : State} (h : Kept still s0 s) (e : Envelope) (m : MgrReq) : Kept still s0 (State.mgrGive s e m) := by
  unfold State.mgrGive
  repeat' first | (with_reducible first | assumption | intro _ | apply State.mgrHandle_kept | apply State.nak_kept | apply kept_ite) | split | dsimp only

theorem State.mgrDrain_kept {still : Prop} {s0 s : State} (h : Kept still s0 s) : Kept still s0 (State.mgrDrain s) := by
  unfold State.mgrDrain
  try dsimp only
  repeat' first | (with_reducible first | assumption | intro _ | apply State.mgrGive_kept | apply kept_foldl) | simp only [↓kept_mk_simp] | dsimp only

theorem State.mgrRequest_kept {still : Prop} {s0 s : State} (h : Kept still s0 s) (e : Envelope) (m : MgrReq) : Kept still s0 (State.mgrRequest s e m) := by
  unfold State.mgrRequest
  try dsimp only
  repeat' first | (with_reducible first | assumption | intro _ | apply State.mgrGive_kept | apply State.wakeSource_kept | apply kept_ite) | simp only [↓kept_mk_simp] | split | dsimp only

theorem State.shutNow_kept {still : Prop} {s0 s : State} (h : Kept still s0 s) : Kept still s0 (State.shutNow s) := by
  unfold State.shutNow
  try dsimp only
  repeat' first | (with_reducible first | assumption | intro _ | apply State.egressAll_kept | apply State.handOver_kept | apply State.linkDark_kept | apply State.onPower_kept | apply State.rampDown_kept | apply State.set_kept | apply State.stepsDiscard_kept | apply State.tasksStop_kept | apply kept_foldl) | simp only [↓kept_mk_simp] | dsimp only

theorem State.shutRequest_kept {still : Prop} {s0 s : State} (h : Kept still s0 s) (skip : Bool) (run : Bool) : Kept still s0 (State.shutRequest s skip run) := by
  unfold State.shutRequest
  try dsimp only
  repeat' first | (with_reducible first | assumption | intro _ | apply State.bump_kept | apply State.onPower_kept | apply State.shutNow_kept | apply kept_ite) | simp only [↓kept_mk_simp] | split | dsimp only

theorem State.shutTry_kept {still : Prop} {s0 s : State} (h : Kept still s0 s) : Kept still s0 (State.shutTry s) := by
  unfold State.shutTry
  repeat' first | (with_reducible first | assumption | intro _ | apply State.shutNow_kept | apply kept_ite) | split | dsimp only

theorem State.haltDomain_kept {still : Prop} {s0 s : State} (h : Kept still s0 s) (d : Nat) : Kept still s0 (State.haltDomain s d) := by
  unfold State.haltDomain
  try dsimp only
  repeat' first | (with_reducible first | assumption | intro _ | apply State.avsDrop_kept | apply State.onPower_kept | apply State.sleepDomain_kept) | simp only [↓kept_mk_simp] | dsimp only

theorem State.halt_kept {still : Prop} {s0 s : State} (h : Kept still s0 s) : Kept still s0 (State.halt s) := by
  unfold State.halt
  try dsimp only
  repeat' first | (with_reducible first | assumption | intro _ | apply State.haltDomain_kept | apply State.onPower_kept | apply State.set_kept | apply State.shutdownDone_kept | apply kept_foldl) | simp only [↓kept_mk_simp] | dsimp only

theorem State.faultCopied_kept {still : Prop} {s0 s : State} (h : Kept still s0 s) : Kept still s0 (State.faultCopied s) := by
  unfold State.faultCopied
  try dsimp only
  repeat' first | (with_reducible first | assumption | intro _ | apply State.onCal_kept | apply kept_ite) | simp only [↓kept_mk_simp] | split | dsimp only

theorem State.seedWritesDone_kept {still : Prop} {s0 s : State} (h : Kept still s0 s) : Kept still s0 (State.seedWritesDone s) := by
  unfold State.seedWritesDone
  try dsimp only
  repeat' first | (with_reducible first | assumption | intro _ | apply State.bistStart_kept | apply State.faultCopied_kept | apply State.halt_kept | apply State.onPower_kept | apply State.ploughStop_kept | apply State.setVotes_kept | apply kept_ite | apply kept_foldl) | simp only [↓kept_mk_simp] | split | dsimp only

theorem execPlanChunk_kept {still : Prop} {s0 s : State} (h : Kept still s0 s) (e : Envelope) (offset : Word) (data : List Byte) : KeptO still s0 (execPlanChunk e offset data s) := by
  unfold execPlanChunk
  try dsimp only
  repeat' first | (with_reducible first | assumption | intro _ | apply State.nak_kept | apply State.planChunk_kept | apply State.reply_kept | apply State.wmp_kept | apply KeptO.next | apply kept_iteO | apply kept_ite) | refine pair_kept (by assumption) ?_ | split | dsimp only

theorem execApplyCold_kept {still : Prop} {s0 s : State} (h : Kept still s0 s) (sender : Sender) : KeptO still s0 (execApplyCold sender s) := by
  unfold execApplyCold
  repeat' first | (with_reducible first | assumption | intro _ | apply State.applyStart_kept | apply State.planAccepted_kept | apply State.planCommand_kept | apply State.planIgnored_kept | apply State.startValidation_kept | apply KeptO.next | apply kept_iteO | apply kept_ite) | split | dsimp only

theorem execValidationComplete_kept {still : Prop} {s0 s : State} (h : Kept still s0 s) : KeptO still s0 (execValidationComplete s) := by
  unfold execValidationComplete
  repeat' first | (with_reducible first | assumption | intro _ | apply State.validated_kept | apply KeptO.next | apply kept_iteO | apply kept_ite) | split | dsimp only

theorem execColdApplyStage_kept {still : Prop} {s0 s : State} (h : Kept still s0 s) (ms : Nat) : KeptO still s0 (execColdApplyStage ms s) := by
  unfold execColdApplyStage
  repeat' first | (with_reducible first | assumption | intro _ | apply State.applyUpTo_kept | apply KeptO.next | apply kept_iteO | apply kept_ite) | split | dsimp only

theorem execColdApplyComplete_kept {still : Prop} {s0 s : State} (h : Kept still s0 s) : KeptO still s0 (execColdApplyComplete s) := by
  unfold execColdApplyComplete
  repeat' first | (with_reducible first | assumption | intro _ | apply State.applyDone_kept | apply State.shutTry_kept | apply KeptO.next | apply kept_iteO | apply kept_ite) | split | dsimp only

theorem execPrepareHitless_kept {still : Prop} {s0 s : State} (h : Kept still s0 s) (sender : Sender) : KeptO still s0 (execPrepareHitless sender s) := by
  unfold execPrepareHitless
  repeat' first | (with_reducible first | assumption | intro _ | apply State.planAccepted_kept | apply State.planCommand_kept | apply State.planIgnored_kept | apply State.prepare_kept | apply State.startValidation_kept | apply KeptO.next | apply kept_iteO | apply kept_ite) | split | dsimp only

theorem execBuildReady_kept {still : Prop} {s0 s : State} (h : Kept still s0 s) : KeptO still s0 (execBuildReady s) := by
  unfold execBuildReady
  repeat' first | (with_reducible first | assumption | intro _ | apply State.raise_kept | apply State.toH_kept | apply KeptO.next | apply kept_iteO | apply kept_ite) | split | dsimp only

theorem execSwitchStart_kept {still : Prop} {s0 s : State} (h : Kept still s0 s) (mf : Nat) : KeptO still s0 (execSwitchStart mf s) := by
  unfold execSwitchStart
  repeat' first | (with_reducible first | assumption | intro _ | apply State.switchStart_kept | apply KeptO.next | apply kept_iteO | apply kept_ite) | split | dsimp only

theorem execRxSelectorSwitch_kept {still : Prop} {s0 s : State} (h : Kept still s0 s) (c : Carrier) : KeptO still s0 (execRxSelectorSwitch c s) := by
  unfold execRxSelectorSwitch
  repeat' first | (with_reducible first | assumption | intro _ | apply State.rxSwitch_kept | apply KeptO.next | apply kept_iteO | apply kept_ite) | split | dsimp only

theorem execSwitchDone_kept {still : Prop} {s0 s : State} (h : Kept still s0 s) : KeptO still s0 (execSwitchDone s) := by
  unfold execSwitchDone
  repeat' first | (with_reducible first | assumption | intro _ | apply State.switchDone_kept | apply KeptO.next | apply kept_iteO | apply kept_ite) | split | dsimp only

theorem State.voteIn_kept {still : Prop} {s0 s : State} (h : Kept still s0 s) (p : Path) (d : Nat) (new : Nat) : Kept still s0 (State.voteIn s p d new) := by
  unfold State.voteIn
  try dsimp only
  repeat' first | (with_reducible first | assumption | intro _ | apply State.bump_kept | apply State.setVotes_kept | apply kept_ite) | split | dsimp only

theorem execVoteWrite_kept {still : Prop} {s0 s : State} (h : Kept still s0 s) (path : Path) (domain : Fin 27) (value : Word) : KeptO still s0 (execVoteWrite path domain value s) := by
  unfold execVoteWrite
  repeat' first | (with_reducible first | assumption | intro _ | apply State.rwWrite_kept | apply State.voteIn_kept | apply KeptO.next) | dsimp only

theorem execDropTimerExpired_kept {still : Prop} {s0 s : State} (h : Kept still s0 s) (domain : Fin 27) : KeptO still s0 (execDropTimerExpired domain s) := by
  unfold execDropTimerExpired
  try dsimp only
  repeat' first | (with_reducible first | assumption | intro _ | apply State.onPower_kept | apply State.set_kept | apply KeptO.next | apply kept_iteO | apply kept_ite) | simp only [↓kept_mk_simp] | split | dsimp only

theorem execFenceComplete_kept {still : Prop} {s0 s : State} (h : Kept still s0 s) (domain : Fin 27) : KeptO still s0 (execFenceComplete domain s) := by
  unfold execFenceComplete
  try dsimp only
  repeat' first | (with_reducible first | assumption | intro _ | apply State.sleepDomain_kept | apply State.wakeDomain_kept | apply KeptO.next | apply kept_iteO | apply kept_ite) | split | dsimp only

theorem State.afterWake_kept {still : Prop} {s0 s : State} (h : Kept still s0 s) : Kept still s0 (State.afterWake s) := by
  unfold State.afterWake
  repeat' first | (with_reducible first | assumption | intro _ | apply State.mgrDrain_kept | apply State.shutTry_kept | apply kept_ite) | split | dsimp only

theorem execWakeComplete_kept {s0 s : State} (h : Kept False s0 s) (domain : Fin 27) : KeptO False s0 (execWakeComplete domain s) := by
  unfold execWakeComplete
  repeat' first | (with_reducible first | assumption | intro _ | apply State.afterWake_kept | apply State.wakeDone_kept | apply KeptO.next) | dsimp only

theorem execWakeStepFail_kept {still : Prop} {s0 s : State} (h : Kept still s0 s) (domain : Fin 27) (cause : WakeCause) : KeptO still s0 (execWakeStepFail domain cause s) := by
  unfold execWakeStepFail
  repeat' first | (with_reducible first | assumption | intro _ | apply State.shutTry_kept | apply State.wakeStepFail_kept | apply KeptO.next) | dsimp only

theorem execWakeRetryGapExpired_kept {still : Prop} {s0 s : State} (h : Kept still s0 s) (domain : Fin 27) : KeptO still s0 (execWakeRetryGapExpired domain s) := by
  unfold execWakeRetryGapExpired
  repeat' first | (with_reducible first | assumption | intro _ | apply State.wakeAgain_kept | apply KeptO.next) | dsimp only

theorem execWakeRetry_kept {still : Prop} {s0 s : State} (h : Kept still s0 s) (path : Path) : KeptO still s0 (execWakeRetry path s) := by
  unfold execWakeRetry
  repeat' first | (with_reducible first | assumption | intro _ | apply State.bump_kept | apply State.rwsWrite_kept | apply State.set_kept | apply State.wakeDomain_kept | apply KeptO.next | apply kept_iteO | apply kept_ite | apply kept_foldl) | split | dsimp only

theorem execDomainReset_kept {still : Prop} {s0 s : State} (h : Kept still s0 s) (path : Path) (domain : Fin 27) : KeptO still s0 (execDomainReset path domain s) := by
  unfold execDomainReset
  try dsimp only
  repeat' first | (with_reducible first | assumption | intro _ | apply State.domainOff_kept | apply State.onPower_kept | apply State.rwsWrite_kept | apply KeptO.next | apply kept_iteO | apply kept_ite) | simp only [↓kept_mk_simp] | split | dsimp only

theorem execWakeSourceFired_kept {still : Prop} {s0 s : State} (h : Kept still s0 s) (source : Fin 8) : KeptO still s0 (execWakeSourceFired source s) := by
  unfold execWakeSourceFired
  repeat' first | (with_reducible first | assumption | intro _ | apply State.wakeSource_kept | apply KeptO.next) | dsimp only

theorem execWakeTimerWrite_kept {still : Prop} {s0 s : State} (h : Kept still s0 s) (path : Path) (value : Word) : KeptO still s0 (execWakeTimerWrite path value s) := by
  unfold execWakeTimerWrite
  repeat' first | (with_reducible first | assumption | intro _ | apply State.rwWrite_kept | apply State.set_kept | apply KeptO.next) | dsimp only

theorem execWakeTimerExpired_kept {still : Prop} {s0 s : State} (h : Kept still s0 s) : KeptO still s0 (execWakeTimerExpired s) := by
  unfold execWakeTimerExpired
  repeat' first | (with_reducible first | assumption | intro _ | apply State.set_kept | apply State.wakeSource_kept | apply KeptO.next | apply kept_iteO | apply kept_ite) | split | dsimp only

theorem execPlRequest_kept {still : Prop} {s0 s : State} (h : Kept still s0 s) (path : Path) (level : Fin 4) : KeptO still s0 (execPlRequest path level s) := by
  unfold execPlRequest
  repeat' first | (with_reducible first | assumption | intro _ | apply State.plRequest_kept | apply State.rwWrite_kept | apply KeptO.next) | dsimp only

theorem execAvsVoltageDone_kept {still : Prop} {s0 s : State} (h : Kept still s0 s) (port : Fin 2) (mv : Fin 4096) : KeptO still s0 (execAvsVoltageDone port mv s) := by
  unfold execAvsVoltageDone
  repeat' first | (with_reducible first | assumption | intro _ | apply State.avsDone_kept | apply KeptO.next) | dsimp only

theorem execAvsAckTimeout_kept {still : Prop} {s0 s : State} (h : Kept still s0 s) (port : Fin 2) : KeptO still s0 (execAvsAckTimeout port s) := by
  unfold execAvsAckTimeout
  repeat' first | (with_reducible first | assumption | intro _ | apply State.avsFail_kept | apply State.shutTry_kept | apply KeptO.next) | dsimp only

theorem execAvsErrorAck_kept {still : Prop} {s0 s : State} (h : Kept still s0 s) (port : Fin 2) : KeptO still s0 (execAvsErrorAck port s) := by
  unfold execAvsErrorAck
  repeat' first | (with_reducible first | assumption | intro _ | apply State.avsFail_kept | apply State.shutTry_kept | apply KeptO.next) | dsimp only

theorem execPlRetry_kept {still : Prop} {s0 s : State} (h : Kept still s0 s) : KeptO still s0 (execPlRetry s) := by
  unfold execPlRetry
  repeat' first | (with_reducible first | assumption | intro _ | apply State.plRetry_kept | apply KeptO.next) | dsimp only

theorem execShutdown_kept {still : Prop} {s0 s : State} (h : Kept still s0 s) (path : Path) : KeptO still s0 (execShutdown path s) := by
  unfold execShutdown
  repeat' first | (with_reducible first | assumption | intro _ | apply State.rwsWrite_kept | apply State.shutRequest_kept | apply KeptO.next) | dsimp only

theorem execSeedStoreWritesDone_kept {still : Prop} {s0 s : State} (h : Kept still s0 s) : KeptO still s0 (execSeedStoreWritesDone s) := by
  unfold execSeedStoreWritesDone
  repeat' first | (with_reducible first | assumption | intro _ | apply State.seedWritesDone_kept | apply KeptO.next) | dsimp only

theorem State.calCommand_kept {still : Prop} {s0 s : State} (h : Kept still s0 s) (p : Path) (slot : Nat) {k : State → State} (hk : ∀ s, Kept still s0 s → Kept still s0 (k s)) : Kept still s0 (State.calCommand s p slot k) := by
  unfold State.calCommand
  repeat' first | (with_reducible first | assumption | intro _ | apply hk | apply State.rwsWrite_kept | apply State.set_kept) | dsimp only

theorem execCalRun_kept {still : Prop} {s0 s : State} (h : Kept still s0 s) (path : Path) (slot : Fin 32) : KeptO still s0 (execCalRun path slot s) := by
  unfold execCalRun
  repeat' first | (with_reducible first | assumption | intro _ | apply State.calCommand_kept | apply State.calRun_kept | apply KeptO.next) | dsimp only

theorem execCalRunDone_kept {still : Prop} {s0 s : State} (h : Kept still s0 s) (body : List Byte) : KeptO still s0 (execCalRunDone body s) := by
  unfold execCalRunDone
  repeat' first | (with_reducible first | assumption | intro _ | apply State.calRunDone_kept | apply KeptO.next) | dsimp only

theorem execCalStore_kept {still : Prop} {s0 s : State} (h : Kept still s0 s) (path : Path) (slot : Fin 32) (temp : Int) (quality : Nat) : KeptO still s0 (execCalStore path slot temp quality s) := by
  unfold execCalStore
  repeat' first | (with_reducible first | assumption | intro _ | apply State.calCommand_kept | apply State.calStore_kept | apply KeptO.next) | dsimp only

theorem execCalStoreDone_kept {still : Prop} {s0 s : State} (h : Kept still s0 s) (same : Bool) : KeptO still s0 (execCalStoreDone same s) := by
  unfold execCalStoreDone
  repeat' first | (with_reducible first | assumption | intro _ | apply State.calStored_kept | apply KeptO.next) | dsimp only

theorem execCalReload_kept {still : Prop} {s0 s : State} (h : Kept still s0 s) (path : Path) (slot : Fin 32) : KeptO still s0 (execCalReload path slot s) := by
  unfold execCalReload
  repeat' first | (with_reducible first | assumption | intro _ | apply State.calCommand_kept | apply State.calLoad_kept | apply State.calRefuse_kept | apply KeptO.next | apply kept_iteO | apply kept_ite) | split | dsimp only

theorem execCalGradualStep_kept {still : Prop} {s0 s : State} (h : Kept still s0 s) (slot : Fin 32) : KeptO still s0 (execCalGradualStep slot s) := by
  unfold execCalGradualStep
  repeat' first | (with_reducible first | assumption | intro _ | apply State.calStepMove_kept | apply KeptO.next) | dsimp only

theorem execBgTrackEstimate_kept {still : Prop} {s0 s : State} (h : Kept still s0 s) (slot : Fin 4) (body : List Byte) (quality : Nat) (temp : Int) : KeptO still s0 (execBgTrackEstimate slot body quality temp s) := by
  unfold execBgTrackEstimate
  repeat' first | (with_reducible first | assumption | intro _ | apply State.calTrack_kept | apply KeptO.next) | dsimp only

theorem execBistComplete_kept {still : Prop} {s0 s : State} (h : Kept still s0 s) (reports : List BistReport) : KeptO still s0 (execBistComplete reports s) := by
  unfold execBistComplete
  repeat' first | (with_reducible first | assumption | intro _ | apply State.bistEnd_kept | apply KeptO.next | apply kept_iteO | apply kept_ite) | split | dsimp only

theorem execBistUnitTimeout_kept {still : Prop} {s0 s : State} (h : Kept still s0 s) (report : BistReport) : KeptO still s0 (execBistUnitTimeout report s) := by
  unfold execBistUnitTimeout
  repeat' first | (with_reducible first | assumption | intro _ | apply State.bistStop_kept | apply KeptO.next) | dsimp only

theorem State.hardRepair_kept {still : Prop} {s0 s : State} (h : Kept still s0 s) : Kept still s0 (State.hardRepair s) := by
  unfold State.hardRepair
  repeat' first | (with_reducible first | assumption | intro _ | apply State.bistIgnored_kept | apply State.fuse_kept | apply kept_ite) | split | dsimp only

theorem execHardRepair_kept {still : Prop} {s0 s : State} (h : Kept still s0 s) (path : Path) : KeptO still s0 (execHardRepair path s) := by
  unfold execHardRepair
  repeat' first | (with_reducible first | assumption | intro _ | apply State.bistCommand_kept | apply State.hardRepair_kept | apply KeptO.next) | dsimp only

theorem execHardFallow_kept {still : Prop} {s0 s : State} (h : Kept still s0 s) (path : Path) (unit : Fin 1024) : KeptO still s0 (execHardFallow path unit s) := by
  unfold execHardFallow
  try dsimp only
  repeat' first | (with_reducible first | assumption | intro _ | apply State.bistCommand_kept | apply State.bistIgnored_kept | apply State.fuse_kept | apply State.set_kept | apply KeptO.next | apply kept_iteO | apply kept_ite) | split | dsimp only

theorem execHardDone_kept {still : Prop} {s0 s : State} (h : Kept still s0 s) : KeptO still s0 (execHardDone s) := by
  unfold execHardDone
  repeat' first | (with_reducible first | assumption | intro _ | apply State.fused_kept | apply KeptO.next) | dsimp only

theorem execClearFallow_kept {still : Prop} {s0 s : State} (h : Kept still s0 s) (path : Path) (unit : Fin 1024) : KeptO still s0 (execClearFallow path unit s) := by
  unfold execClearFallow
  try dsimp only
  repeat' first | (with_reducible first | assumption | intro _ | apply State.bistCommand_kept | apply State.set_kept | apply State.setMark_kept | apply KeptO.next) | dsimp only

theorem execFurrowResidueFail_kept {still : Prop} {s0 s : State} (h : Kept still s0 s) (furrow : Fin 104) : KeptO still s0 (execFurrowResidueFail furrow s) := by
  unfold execFurrowResidueFail
  repeat' first | (with_reducible first | assumption | intro _ | apply State.buildFault_kept | apply State.detected_kept | apply State.markInService_kept | apply KeptO.next | apply kept_iteO | apply kept_ite) | split | dsimp only

theorem execClockStop_kept {still : Prop} {s0 s : State} (h : Kept still s0 s) (block : Fin 39) (clk : Fin 20) : KeptO still s0 (execClockStop block clk s) := by
  unfold execClockStop
  try dsimp only
  repeat' first | (with_reducible first | assumption | intro _ | apply State.detected_kept | apply KeptO.next | apply kept_iteO | apply kept_ite) | simp only [↓kept_mk_simp] | split | dsimp only

theorem execCfgParity_kept {still : Prop} {s0 s : State} (h : Kept still s0 s) (block : Fin 39) : KeptO still s0 (execCfgParity block s) := by
  unfold execCfgParity
  repeat' first | (with_reducible first | assumption | intro _ | apply State.detected_kept | apply KeptO.next | apply kept_iteO | apply kept_ite) | split | dsimp only

theorem execLockstepMismatch_kept {still : Prop} {s0 s : State} (h : Kept still s0 s) : KeptO still s0 (execLockstepMismatch s) := by
  unfold execLockstepMismatch
  repeat' first | (with_reducible first | assumption | intro _ | apply State.detected_kept | apply State.hedgeRestart_kept | apply KeptO.next) | dsimp only

theorem execD2dCrcError_kept {still : Prop} {s0 s : State} (h : Kept still s0 s) (again : Bool) : KeptO still s0 (execD2dCrcError again s) := by
  unfold execD2dCrcError
  repeat' first | (with_reducible first | assumption | intro _ | apply State.detected_kept | apply State.faultLog_kept | apply KeptO.next | apply kept_iteO | apply kept_ite) | exact KeptO.fault | split | dsimp only

theorem execSupplyOutOfRange_kept {still : Prop} {s0 s : State} (h : Kept still s0 s) : KeptO still s0 (execSupplyOutOfRange s) := by
  unfold execSupplyOutOfRange
  repeat' first | (with_reducible first | assumption | intro _ | apply State.detected_kept | apply KeptO.next) | dsimp only

theorem execAonRegisterUpset_kept {still : Prop} {s0 s : State} (h : Kept still s0 s) : KeptO still s0 (execAonRegisterUpset s) := by
  unfold execAonRegisterUpset
  repeat' first | (with_reducible first | assumption | intro _ | apply State.event_kept | apply State.faultLog_kept | apply KeptO.next) | exact KeptO.fault | dsimp only

theorem execAck_kept {still : Prop} {s0 s : State} (h : Kept still s0 s) (path : Path) : KeptO still s0 (execAck path s) := by
  unfold execAck
  repeat' first | (with_reducible first | assumption | intro _ | apply State.downAccess_kept | apply State.faultAck_kept | apply KeptO.next | apply kept_iteO | apply kept_ite) | exact KeptO.fault | split | dsimp only

theorem execFaultTest_kept {still : Prop} {s0 s : State} (h : Kept still s0 s) (path : Path) : KeptO still s0 (execFaultTest path s) := by
  unfold execFaultTest
  try dsimp only
  repeat' first | (with_reducible first | assumption | intro _ | apply State.faultPin_kept | apply State.rwsWrite_kept | apply KeptO.next) | exact KeptO.fault | simp only [↓kept_mk_simp] | dsimp only

theorem execFaultTestEnd_kept {still : Prop} {s0 s : State} (h : Kept still s0 s) : KeptO still s0 (execFaultTestEnd s) := by
  unfold execFaultTestEnd
  try dsimp only
  repeat' first | (with_reducible first | assumption | intro _ | apply State.faultPin_kept | apply KeptO.next) | exact KeptO.fault | simp only [↓kept_mk_simp] | dsimp only

theorem State.onGlean_kept {still : Prop} {s0 s : State} (h : Kept still s0 s) (f : GleanSt → GleanSt) : Kept still s0 (State.onGlean s f) := by
  unfold State.onGlean
  try dsimp only
  repeat' first | (with_reducible first | assumption | intro _) | simp only [↓kept_mk_simp] | dsimp only

theorem State.onUnit_kept {still : Prop} {s0 s : State} (h : Kept still s0 s) (u : Nat) (f : GleanUnit → GleanUnit) : Kept still s0 (State.onUnit s u f) := by
  unfold State.onUnit
  try dsimp only
  repeat' first | (with_reducible first | assumption | intro _ | apply State.onGlean_kept) | simp only [↓kept_mk_simp] | dsimp only

theorem State.toUnit_kept {still : Prop} {s0 s : State} (h : Kept still s0 s) (u : Nat) (st : Nat) : Kept still s0 (State.toUnit s u st) := by
  unfold State.toUnit
  repeat' first | (with_reducible first | assumption | intro _ | apply State.set_kept) | dsimp only

theorem State.putEntry_kept {s0 s : State} (h : Kept False s0 s) (u : Nat) (e : BitVec 64) : Kept False s0 (State.putEntry s u e) := by
  unfold State.putEntry
  try dsimp only
  repeat' first | (with_reducible first | assumption | intro _ | apply State.memPutFull_kept | apply State.onUnit_kept | apply kept_ite) | split | dsimp only

theorem State.putEntries_kept {s0 s : State} (h : Kept False s0 s) (u : Nat) (es : List (BitVec 64)) : Kept False s0 (State.putEntries s u es) := by
  unfold State.putEntries
  try dsimp only
  repeat' first | (with_reducible first | assumption | intro _ | apply State.putEntry_kept | apply State.setSat_kept | apply kept_foldl) | dsimp only

theorem State.entryRead_kept {s0 s : State} (h : Kept False s0 s) (u : Nat) (i : Nat) (upset : MemWord) : Kept False s0 (State.entryRead s u i upset).2 := by
  unfold State.entryRead
  try dsimp only
  repeat' first | (with_reducible first | assumption | intro _ | apply State.freeWord_kept | apply State.memFetch_kept) | simp only [↓kept_mk_simp] | refine pair_kept (by assumption) ?_ | split | dsimp only

theorem State.entriesFrom_kept {s0 s : State} (h : Kept False s0 s) (u i : Nat) (ms : List MemWord) : Kept False s0 (State.entriesFrom s u i ms).2 := by
  induction ms generalizing i s with
  | nil => exact h
  | cons m ms ih => exact ih (State.entryRead_kept h ..) _

theorem State.recorded_kept {s0 s : State} (h : Kept False s0 s) (u : Nat) (x : GleanUnit × List (BitVec 64)) : Kept False s0 (State.recorded s u x) := by
  unfold State.recorded
  repeat' first | (with_reducible first | assumption | intro _ | apply State.onUnit_kept | apply State.putEntries_kept) | dsimp only

theorem State.recordBlock_kept {s0 s : State} (h : Kept False s0 s) (u : Nat) (b : TapBlock) : Kept False s0 (State.recordBlock s u b) := by
  unfold State.recordBlock
  try dsimp only
  repeat' first | (with_reducible first | assumption | intro _ | apply State.freeWord_kept | apply State.recorded_kept | apply kept_ite) | refine pair_kept (by assumption) ?_ | split | dsimp only

theorem State.recordInstant_kept {s0 s : State} (h : Kept False s0 s) (u : Nat) (x : TapInstant) : Kept False s0 (State.recordInstant s u x) := by
  unfold State.recordInstant
  try dsimp only
  repeat' first | (with_reducible first | assumption | intro _ | apply State.recorded_kept | apply kept_ite) | split | dsimp only

theorem State.armNow_kept {still : Prop} {s0 s : State} (h : Kept still s0 s) (u : Nat) (auto : Bool) (dead : Nat) : Kept still s0 (State.armNow s u auto dead) := by
  unfold State.armNow
  try dsimp only
  repeat' first | (with_reducible first | assumption | intro _ | apply State.onGlean_kept | apply State.onUnit_kept | apply State.set_kept | apply State.toUnit_kept | apply State.wr_kept) | simp only [↓kept_mk_simp] | dsimp only

theorem State.arm_kept {still : Prop} {s0 s : State} (h : Kept still s0 s) (u : Nat) : Kept still s0 (State.arm s u) := by
  unfold State.arm
  repeat' first | (with_reducible first | assumption | intro _ | apply State.armNow_kept | apply State.bump_kept | apply kept_ite) | split | dsimp only

theorem State.armAll_kept {still : Prop} {s0 s : State} (h : Kept still s0 s) (us : List Nat) : Kept still s0 (State.armAll s us) := by
  unfold State.armAll
  try dsimp only
  repeat' first | (with_reducible first | assumption | intro _ | apply State.arm_kept | apply State.send_kept | apply kept_ite | apply kept_foldl) | split | dsimp only

theorem State.fireOne_kept {still : Prop} {s0 s : State} (h : Kept still s0 s) (now : Clock) (u : Nat) : Kept still s0 (State.fireOne s now u) := by
  unfold State.fireOne
  try dsimp only
  repeat' first | (with_reducible first | assumption | intro _ | apply State.onUnit_kept | apply State.raise_kept | apply State.setSat_kept | apply State.toUnit_kept | apply State.wakeSource_kept | apply State.wr_kept | apply kept_foldl) | simp only [↓kept_mk_simp] | dsimp only

theorem State.fireSet_kept {still : Prop} {s0 s : State} (h : Kept still s0 s) (now : Clock) (us : List Nat) : Kept still s0 (State.fireSet s now us) := by
  unfold State.fireSet
  try dsimp only
  repeat' first | (with_reducible first | assumption | intro _ | apply State.fireOne_kept | apply State.send_kept | apply kept_ite | apply kept_foldl) | split | dsimp only

theorem State.joinedFire_kept {still : Prop} {s0 s : State} (h : Kept still s0 s) (now : Clock) (fired : List Nat) : Kept still s0 (State.joinedFire s now fired) := by
  unfold State.joinedFire
  try dsimp only
  repeat' first | (with_reducible first | assumption | intro _ | apply State.fireOne_kept | apply State.onUnit_kept | apply kept_foldl) | simp only [↓kept_mk_simp] | dsimp only

theorem State.fire_kept {still : Prop} {s0 s : State} (h : Kept still s0 s) (now : Clock) (us : List Nat) : Kept still s0 (State.fire s now us) := by
  unfold State.fire
  repeat' first | (with_reducible first | assumption | intro _ | apply State.fireSet_kept | apply State.joinedFire_kept) | dsimp only

theorem State.fireEdge_kept {still : Prop} {s0 s : State} (h : Kept still s0 s) : Kept still s0 (State.fireEdge s) := by
  unfold State.fireEdge
  repeat' first | (with_reducible first | assumption | intro _ | apply State.fire_kept | apply kept_ite) | split | dsimp only

theorem State.captureEnd_kept {still : Prop} {s0 s : State} (h : Kept still s0 s) (u : Nat) : Kept still s0 (State.captureEnd s u) := by
  unfold State.captureEnd
  try dsimp only
  repeat' first | (with_reducible first | assumption | intro _ | apply State.bump_kept | apply State.onUnit_kept | apply State.raise_kept | apply State.setSat_kept | apply State.toUnit_kept | apply kept_ite) | simp only [↓kept_mk_simp] | split | dsimp only

theorem State.captureDone_kept {still : Prop} {s0 s : State} (h : Kept still s0 s) (u : Nat) : Kept still s0 (State.captureDone s u) := by
  unfold State.captureDone
  repeat' first | (with_reducible first | assumption | intro _ | apply State.captureEnd_kept | apply kept_ite) | split | dsimp only

theorem State.stop_kept {still : Prop} {s0 s : State} (h : Kept still s0 s) (u : Nat) : Kept still s0 (State.stop s u) := by
  unfold State.stop
  repeat' first | (with_reducible first | assumption | intro _ | apply State.captureEnd_kept | apply State.toUnit_kept | apply State.wr_kept | apply kept_ite) | split | dsimp only

theorem State.armCtrl_kept {still : Prop} {s0 s : State} (h : Kept still s0 s) (arms : List Nat) (stops : List Nat) (forces : List Nat) : Kept still s0 (State.armCtrl s arms stops forces) := by
  unfold State.armCtrl
  try dsimp only
  repeat' first | (with_reducible first | assumption | intro _ | apply State.armAll_kept | apply State.fireSet_kept | apply State.joinedFire_kept | apply State.stop_kept | apply kept_foldl) | dsimp only

theorem State.spillHold_kept {still : Prop} {s0 s : State} (h : Kept still s0 s) : Kept still s0 (State.spillHold s) := by
  unfold State.spillHold
  repeat' first | (with_reducible first | assumption | intro _ | apply State.raiseEvent_kept | apply State.toUnit_kept | apply kept_ite | apply kept_foldl) | split | dsimp only

theorem State.spillResume_kept {still : Prop} {s0 s : State} (h : Kept still s0 s) : Kept still s0 (State.spillResume s) := by
  unfold State.spillResume
  try dsimp only
  repeat' first | (with_reducible first | assumption | intro _ | apply State.onGlean_kept | apply State.onUnit_kept | apply State.toUnit_kept | apply kept_ite | apply kept_foldl) | simp only [↓kept_mk_simp] | split | dsimp only

theorem State.linesOut_kept {still : Prop} {s0 s : State} (h : Kept still s0 s) (at64 : Nat) (bytes : List Byte) : Kept still s0 (State.linesOut s at64 bytes) := by
  unfold State.linesOut
  try dsimp only
  repeat' first | (with_reducible first | assumption | intro _ | apply State.send_kept) | simp only [↓kept_mk_simp] | dsimp only

theorem State.ringWrite_kept {still : Prop} {s0 s : State} (h : Kept still s0 s) (off : Nat) (flags : Nat) (body : List Byte) (next : Nat) : Kept still s0 (State.ringWrite s off flags body next) := by
  unfold State.ringWrite
  try dsimp only
  repeat' first | (with_reducible first | assumption | intro _ | apply State.linesOut_kept | apply State.onGlean_kept | apply State.set_kept) | simp only [↓kept_mk_simp] | dsimp only

theorem State.invalidSeen_kept {still : Prop} {s0 s : State} (h : Kept still s0 s) (u : Nat) (n : Nat) : Kept still s0 (State.invalidSeen s u n) := by
  unfold State.invalidSeen
  repeat' first | (with_reducible first | assumption | intro _ | apply State.bump_kept | apply State.raiseEvent_kept | apply kept_ite) | split | dsimp only

theorem State.spilled_kept {still : Prop} {s0 s : State} (h : Kept still s0 s) (u : Nat) (deadUs : Nat) : Kept still s0 (State.spilled s u deadUs) := by
  unfold State.spilled
  try dsimp only
  repeat' first | (with_reducible first | assumption | intro _ | apply State.armNow_kept | apply State.raise_kept | apply State.toUnit_kept | apply kept_ite) | split | dsimp only

theorem State.spillRecord_kept {s0 s : State} (h : Kept False s0 s) (upsets : List MemWord) (deadUs : Nat) : Kept False s0 (State.spillRecord s upsets deadUs) := by
  unfold State.spillRecord
  try dsimp only
  repeat' first | (with_reducible first | assumption | intro _ | apply State.entriesFrom_kept | apply State.invalidSeen_kept | apply State.onUnit_kept | apply State.ringWrite_kept | apply State.spilled_kept | apply State.windowFault_kept | apply kept_ite) | simp only [↓kept_mk_simp] | refine pair_kept (by assumption) ?_ | split | dsimp only

theorem State.ploughRecord_kept {still : Prop} {s0 s : State} (h : Kept still s0 s) (task : Option (Fin 8)) (at64 : Nat) (body : List Byte) : Kept still s0 (State.ploughRecord s task at64 body) := by
  unfold State.ploughRecord
  try dsimp only
  repeat' first | (with_reducible first | assumption | intro _ | apply State.linesOut_kept | apply State.windowFault_kept | apply kept_ite) | simp only [↓kept_mk_simp] | refine pair_kept (by assumption) ?_ | split | dsimp only

theorem State.readEntry_kept {s0 s : State} (h : Kept False s0 s) (p : Path) (u : Nat) (upset : MemWord) : Kept False s0 (State.readEntry s p u upset) := by
  unfold State.readEntry
  try dsimp only
  repeat' first | (with_reducible first | assumption | intro _ | apply State.entryRead_kept | apply State.freeWord_kept | apply State.invalidSeen_kept | apply State.latch_kept | apply State.wr_kept | apply State.wrapAdd_kept | apply kept_ite) | simp only [↓kept_mk_simp] | refine pair_kept (by assumption) ?_ | split | dsimp only

theorem State.seqCount_kept {still : Prop} {s0 s : State} (h : Kept still s0 s) (u : Nat) (k : Nat) : Kept still s0 (State.seqCount s u k) := by
  unfold State.seqCount
  try dsimp only
  repeat' first | (with_reducible first | assumption | intro _ | apply State.wr_kept | apply kept_ite) | split | dsimp only

theorem State.seqTake_kept {still : Prop} {s0 s : State} (h : Kept still s0 s) (now : Clock) (u : Nat) (next : Nat) (inc : Nat) (trig : Bool) : Kept still s0 (State.seqTake s now u next inc trig) := by
  unfold State.seqTake
  try dsimp only
  repeat' first | (with_reducible first | assumption | intro _ | apply State.fire_kept | apply State.onUnit_kept | apply State.seqCount_kept | apply State.set_kept | apply State.wr_kept | apply kept_ite | apply kept_foldl) | simp only [↓kept_mk_simp] | split | dsimp only

theorem State.statMatches_kept {still : Prop} {s0 s : State} (h : Kept still s0 s) (u : Nat) (hits : List Nat) : Kept still s0 (State.statMatches s u hits) := by
  unfold State.statMatches
  try dsimp only
  repeat' first | (with_reducible first | assumption | intro _ | apply State.statAdd_kept | apply kept_ite) | split | dsimp only

theorem State.seqConditions_kept {still : Prop} {s0 s : State} (h : Kept still s0 s) (now : Clock) (u : Nat) (hits : List Nat) : Kept still s0 (State.seqConditions s now u hits) := by
  unfold State.seqConditions
  try dsimp only
  repeat' first | (with_reducible first | assumption | intro _ | apply State.seqTake_kept | apply kept_ite) | split | dsimp only

theorem State.seqCycle_kept {s0 s : State} (h : Kept False s0 s) (now : Clock) (u : Nat) (xs : List TapInstant) : Kept False s0 (State.seqCycle s now u xs) := by
  unfold State.seqCycle
  try dsimp only
  repeat' first | (with_reducible first | assumption | intro _ | apply State.onUnit_kept | apply State.recordInstant_kept | apply State.seqConditions_kept | apply State.statMatches_kept | apply kept_foldl) | simp only [↓kept_mk_simp] | refine pair_kept (by assumption) ?_ | split | dsimp only

theorem State.meetDue_kept {s0 s : State} (h : Kept False s0 s) : Kept False s0 (State.meetDue s) := by
  unfold State.meetDue
  try dsimp only
  repeat' first | (with_reducible first | assumption | intro _ | apply State.onGlean_kept | apply State.seqCycle_kept | apply kept_foldl) | simp only [↓kept_mk_simp] | dsimp only

theorem State.record_kept {s0 s : State} (h : Kept False s0 s) (u : Nat) (f : TapFeed) : Kept False s0 (State.record s u f) := by
  unfold State.record
  try dsimp only
  repeat' first | (with_reducible first | assumption | intro _ | apply State.recordBlock_kept | apply State.seqCycle_kept | apply kept_foldl) | dsimp only

theorem State.recordAll_kept {s0 s : State} (h : Kept False s0 s) (feeds : List TapFeed) : Kept False s0 (State.recordAll s feeds) := by
  unfold State.recordAll
  repeat' first | (with_reducible first | assumption | intro _ | apply State.meetDue_kept | apply State.record_kept | apply kept_foldl) | dsimp only

theorem State.timersRun_kept {still : Prop} {s0 s : State} (h : Kept still s0 s) (u : Nat) (n : Nat) : Kept still s0 (State.timersRun s u n) := by
  unfold State.timersRun
  try dsimp only
  repeat' first | (with_reducible first | assumption | intro _ | apply State.onUnit_kept) | simp only [↓kept_mk_simp] | dsimp only

theorem State.seqRun_kept {s0 s : State} (h : Kept False s0 s) (u : Nat) (c : GleanCycle) : Kept False s0 (State.seqRun s u c) := by
  unfold State.seqRun
  try dsimp only
  repeat' first | (with_reducible first | assumption | intro _ | apply State.seqCycle_kept | apply State.timersRun_kept | apply kept_ite) | split | dsimp only

theorem State.depthClamp_kept {still : Prop} {s0 s : State} (h : Kept still s0 s) (u : Nat) : Kept still s0 (State.depthClamp s u) := by
  unfold State.depthClamp
  try dsimp only
  repeat' first | (with_reducible first | assumption | intro _ | apply State.set_kept) | dsimp only

theorem State.tapClamp_kept {still : Prop} {s0 s : State} (h : Kept still s0 s) (u : Nat) : Kept still s0 (State.tapClamp s u) := by
  unfold State.tapClamp
  try dsimp only
  repeat' first | (with_reducible first | assumption | intro _ | apply State.set_kept | apply kept_ite) | split | dsimp only

theorem State.statSnap_kept {still : Prop} {s0 s : State} (h : Kept still s0 s) (clear : Bool) (now : List Nat) : Kept still s0 (State.statSnap s clear now) := by
  unfold State.statSnap
  try dsimp only
  repeat' first | (with_reducible first | assumption | intro _ | apply State.onGlean_kept | apply State.set48_kept | apply State.setB_kept | apply State.statAdd_kept | apply kept_foldl) | simp only [↓kept_mk_simp] | dsimp only

theorem State.statLoad_kept {still : Prop} {s0 s : State} (h : Kept still s0 s) (i : Nat) (v : Nat) (now : List Nat) : Kept still s0 (State.statLoad s i v now) := by
  unfold State.statLoad
  try dsimp only
  repeat' first | (with_reducible first | assumption | intro _ | apply State.onGlean_kept | apply State.statAdd_kept) | simp only [↓kept_mk_simp] | dsimp only

theorem State.psSample_kept {still : Prop} {s0 s : State} (h : Kept still s0 s) (c : Nat) (x : PreciseSample) : Kept still s0 (State.psSample s c x) := by
  unfold State.psSample
  try dsimp only
  repeat' first | (with_reducible first | assumption | intro _ | apply State.bump_kept | apply State.raise_kept | apply State.set_kept | apply State.wr_kept | apply kept_ite) | split | dsimp only

theorem State.onCore_kept {still : Prop} {s0 s : State} (h : Kept still s0 s) (c : Nat) (f : CoreSt → CoreSt) : Kept still s0 (State.onCore s c f) := by
  unfold State.onCore
  try dsimp only
  repeat' first | (with_reducible first | assumption | intro _ | apply State.onGlean_kept) | simp only [↓kept_mk_simp] | dsimp only

theorem State.psPeriod_kept {still : Prop} {s0 s : State} (h : Kept still s0 s) (c : Nat) : Kept still s0 (State.psPeriod s c).2 := by
  unfold State.psPeriod
  try dsimp only
  repeat' first | (with_reducible first | assumption | intro _ | apply State.freeWord_kept | apply kept_ite) | refine pair_kept (by assumption) ?_ | split | dsimp only

theorem State.psBegin_kept {still : Prop} {s0 s : State} (h : Kept still s0 s) (c : Nat) (past : Nat) : Kept still s0 (State.psBegin s c past) := by
  unfold State.psBegin
  try dsimp only
  repeat' first | (with_reducible first | assumption | intro _ | apply State.onCore_kept | apply State.psPeriod_kept) | simp only [↓kept_mk_simp] | refine pair_kept (by assumption) ?_ | split | dsimp only

theorem State.psOccur_kept {still : Prop} {s0 s : State} (h : Kept still s0 s) (c : Nat) (n : Nat) (x : PreciseSample) : Kept still s0 (State.psOccur s c n x) := by
  unfold State.psOccur
  try dsimp only
  repeat' first | (with_reducible first | assumption | intro _ | apply State.onCore_kept | apply State.psBegin_kept | apply State.psSample_kept | apply kept_ite) | simp only [↓kept_mk_simp] | split | dsimp only

theorem execUnitArm_kept {still : Prop} {s0 s : State} (h : Kept still s0 s) (path : Path) (units : Fin 16) : KeptO still s0 (execUnitArm path units s) := by
  unfold execUnitArm
  repeat' first | (with_reducible first | assumption | intro _ | apply State.armCtrl_kept | apply State.rwWrite_kept | apply KeptO.next) | dsimp only

theorem execUnitStop_kept {s0 s : State} (h : Kept False s0 s) (path : Path) (units : Fin 16) (feeds : List TapFeed) : KeptO False s0 (execUnitStop path units feeds s) := by
  unfold execUnitStop
  repeat' first | (with_reducible first | assumption | intro _ | apply State.armCtrl_kept | apply State.recordAll_kept | apply State.rwWrite_kept | apply KeptO.next) | dsimp only

theorem execUnitForce_kept {s0 s : State} (h : Kept False s0 s) (path : Path) (units : Fin 16) (feeds : List TapFeed) : KeptO False s0 (execUnitForce path units feeds s) := by
  unfold execUnitForce
  repeat' first | (with_reducible first | assumption | intro _ | apply State.armCtrl_kept | apply State.recordAll_kept | apply State.rwWrite_kept | apply KeptO.next) | dsimp only

theorem execGleanArmEdge_kept {still : Prop} {s0 s : State} (h : Kept still s0 s) : KeptO still s0 (execGleanArmEdge s) := by
  unfold execGleanArmEdge
  repeat' first | (with_reducible first | assumption | intro _ | apply State.arm_kept | apply KeptO.next | apply kept_iteO | apply kept_ite | apply kept_foldl) | split | dsimp only

theorem execGleanFireNEdge_kept {s0 s : State} (h : Kept False s0 s) (feeds : List TapFeed) : KeptO False s0 (execGleanFireNEdge feeds s) := by
  unfold execGleanFireNEdge
  repeat' first | (with_reducible first | assumption | intro _ | apply State.fireEdge_kept | apply State.recordAll_kept | apply KeptO.next) | dsimp only

theorem execSequencerTrigger_kept {s0 s : State} (h : Kept False s0 s) (unit : Fin 4) (cycle : GleanCycle) (feeds : List TapFeed) : KeptO False s0 (execSequencerTrigger unit cycle feeds s) := by
  unfold execSequencerTrigger
  repeat' first | (with_reducible first | assumption | intro _ | apply State.recordAll_kept | apply State.seqRun_kept | apply KeptO.next) | dsimp only

theorem execCaptureComplete_kept {s0 s : State} (h : Kept False s0 s) (unit : Fin 4) (feed : TapFeed) : KeptO False s0 (execCaptureComplete unit feed s) := by
  unfold execCaptureComplete
  repeat' first | (with_reducible first | assumption | intro _ | apply State.captureDone_kept | apply State.meetDue_kept | apply State.record_kept | apply KeptO.next) | dsimp only

theorem execSpillRecordWritten_kept {s0 s : State} (h : Kept False s0 s) (record : WindowRecord) : KeptO False s0 (execSpillRecordWritten record s) := by
  unfold execSpillRecordWritten
  try dsimp only
  repeat' first | (with_reducible first | assumption | intro _ | apply State.ploughRecord_kept | apply State.record_kept | apply State.spillRecord_kept | apply KeptO.next) | simp only [↓kept_mk_simp] | refine pair_kept (by assumption) ?_ | split | dsimp only

theorem execReadDataRead_kept {s0 s : State} (h : Kept False s0 s) (path : Path) (unit : Fin 4) (upset : MemWord) : KeptO False s0 (execReadDataRead path unit upset s) := by
  unfold execReadDataRead
  repeat' first | (with_reducible first | assumption | intro _ | apply State.downRead_kept | apply State.readEntry_kept | apply KeptO.next | apply kept_iteO | apply kept_ite) | split | dsimp only

theorem execStatSnapshot_kept {still : Prop} {s0 s : State} (h : Kept still s0 s) (path : Path) (clear : Bool) (now : List Nat) : KeptO still s0 (execStatSnapshot path clear now s) := by
  unfold execStatSnapshot
  repeat' first | (with_reducible first | assumption | intro _ | apply State.rwWrite_kept | apply State.statSnap_kept | apply KeptO.next) | dsimp only

theorem execStatLoad_kept {still : Prop} {s0 s : State} (h : Kept still s0 s) (path : Path) (counter : Fin 32) (value : Word) (now : List Nat) : KeptO still s0 (execStatLoad path counter value now s) := by
  unfold execStatLoad
  repeat' first | (with_reducible first | assumption | intro _ | apply State.rwWrite_kept | apply State.statLoad_kept | apply KeptO.next) | dsimp only

theorem execPsSample_kept {still : Prop} {s0 s : State} (h : Kept still s0 s) (core : Fin 4) (occurrences : Nat) (sample : PreciseSample) : KeptO still s0 (execPsSample core occurrences sample s) := by
  unfold execPsSample
  repeat' first | (with_reducible first | assumption | intro _ | apply State.psOccur_kept | apply KeptO.next) | dsimp only

theorem execHpmCounterOverflow_kept {still : Prop} {s0 s : State} (h : Kept still s0 s) (core : Fin 4) (counter : Fin 12) (run : CoreRun) : KeptO still s0 (execHpmCounterOverflow core counter run s) := by
  unfold execHpmCounterOverflow
  repeat' first | (with_reducible first | assumption | intro _ | apply State.onCore_kept | apply KeptO.next) | dsimp only

theorem State.uncorrectable_kept {s0 s : State} (h : Kept False s0 s) (r : Nat) (w : Nat) (reader : MemReader) : Kept False s0 (State.uncorrectable s r w reader) := by
  unfold State.uncorrectable
  try dsimp only
  repeat' first | exact (fun _ => Or.inl rfl) | exact (fun _ => Or.inr rfl) | (with_reducible first | assumption | intro _ | apply State.bootRejected_kept | apply State.consumed_kept | apply State.detected_kept | apply State.hedgeRestart_kept | apply State.onMem_kept | apply State.rejectPlan_kept | apply kept_ite) | simp only [↓kept_mk_simp] | split | dsimp only

theorem State.memRead_kept {s0 s : State} (h : Kept False s0 s) (r : Nat) (w : Nat) (upset : MemWord) (reader : MemReader) : Kept False s0 (State.memRead s r w upset reader) := by
  unfold State.memRead
  try dsimp only
  repeat' first | exact (fun _ => Or.inl rfl) | exact (fun _ => Or.inr rfl) | (with_reducible first | assumption | intro _ | apply State.bump_kept | apply State.memFetch_kept | apply State.memWait_kept | apply State.onMem_kept | apply State.uncorrectable_kept | apply kept_ite) | simp only [↓kept_mk_simp] | refine pair_kept (by assumption) ?_ | split | dsimp only

theorem State.memWrite_kept {s0 s : State} (h : Kept False s0 s) (r : Nat) (w : Nat) (d : BitVec 64) : Kept False s0 (State.memWrite s r w d) := by
  unfold State.memWrite
  repeat' first | (with_reducible first | assumption | intro _ | apply State.memPutFull_kept | apply State.memWait_kept | apply kept_ite) | split | dsimp only

theorem State.memMerge_kept {s0 s : State} (h : Kept False s0 s) (r : Nat) (w : Nat) (bytes : Nat) (d : BitVec 64) (upset : MemWord) : Kept False s0 (State.memMerge s r w bytes d upset) := by
  unfold State.memMerge
  repeat' first | (with_reducible first | assumption | intro _ | apply State.memPutSome_kept | apply State.memWait_kept | apply kept_ite) | split | dsimp only

theorem State.harrowWord_kept {s0 s : State} (h : Kept False s0 s) (r : Nat) (w : Nat) (upset : MemWord) : Kept False s0 (State.harrowWord s r w upset) := by
  unfold State.harrowWord
  try dsimp only
  repeat' first | (with_reducible first | assumption | intro _ | apply State.bump_kept | apply State.memFetch_kept | apply kept_ite) | split | dsimp only

theorem State.regionWalked_kept {s0 s : State} (h : Kept False s0 s) (r : Nat) (ms : Nat) : Kept False s0 (State.regionWalked s r ms) := by
  unfold State.regionWalked
  try dsimp only
  repeat' first | exact (fun _ => Or.inl rfl) | exact (fun _ => Or.inr rfl) | (with_reducible first | assumption | intro _ | apply State.lapEnd_kept | apply State.onMem_kept | apply State.set_kept | apply kept_ite) | simp only [↓kept_mk_simp] | split | dsimp only

theorem State.harrowPass_kept {s0 s : State} (h : Kept False s0 s) (r : Nat) (w : Nat) (ms : Nat) : Kept False s0 (State.harrowPass s r w ms) := by
  unfold State.harrowPass
  try dsimp only
  repeat' first | exact (fun _ => Or.inl rfl) | exact (fun _ => Or.inr rfl) | (with_reducible first | assumption | intro _ | apply State.onMem_kept | apply State.regionWalked_kept | apply State.set_kept | apply kept_ite) | simp only [↓kept_mk_simp] | refine pair_kept (by assumption) ?_ | split | dsimp only

theorem State.harrow_kept {s0 s : State} (h : Kept False s0 s) (r : Nat) (upset : MemWord) (ms : Nat) : Kept False s0 (State.harrow s r upset ms) := by
  unfold State.harrow
  try dsimp only
  repeat' first | exact (fun _ => Or.inl rfl) | exact (fun _ => Or.inr rfl) | (with_reducible first | assumption | intro _ | apply State.harrowPass_kept | apply State.harrowWord_kept | apply State.onMem_kept | apply State.regionWalked_kept | apply kept_ite) | simp only [↓kept_mk_simp] | refine pair_kept (by assumption) ?_ | split | dsimp only

theorem State.memInit_kept {s0 s : State} (h : Kept False s0 s) : Kept False s0 (State.memInit s) := by
  unfold State.memInit
  repeat' first | exact (fun _ => Or.inl rfl) | exact (fun _ => Or.inr rfl) | (with_reducible first | assumption | intro _ | apply State.memResume_kept | apply State.onMem_kept | apply State.raise_kept) | dsimp only

theorem execMemoryRead_kept {s0 s : State} (h : Kept False s0 s) (region : Fin 9) (word : Nat) (upset : MemWord) (reader : MemReader) : KeptO False s0 (execMemoryRead region word upset reader s) := by
  unfold execMemoryRead
  repeat' first | (with_reducible first | assumption | intro _ | apply State.memRead_kept | apply KeptO.next | apply kept_iteO | apply kept_ite) | exact KeptO.fault | split | dsimp only

theorem execMemoryPartialWrite_kept {s0 s : State} (h : Kept False s0 s) (region : Fin 9) (word : Nat) (bytes : Fin 256) (value : BitVec 64) (upset : MemWord) : KeptO False s0 (execMemoryPartialWrite region word bytes value upset s) := by
  unfold execMemoryPartialWrite
  repeat' first | (with_reducible first | assumption | intro _ | apply State.memMerge_kept | apply KeptO.next | apply kept_iteO | apply kept_ite) | exact KeptO.fault | split | dsimp only

theorem execMemoryFullWrite_kept {s0 s : State} (h : Kept False s0 s) (region : Fin 9) (word : Nat) (value : BitVec 64) : KeptO False s0 (execMemoryFullWrite region word value s) := by
  unfold execMemoryFullWrite
  repeat' first | (with_reducible first | assumption | intro _ | apply State.memWrite_kept | apply KeptO.next | apply kept_iteO | apply kept_ite) | exact KeptO.fault | split | dsimp only

theorem execFlipArm_kept {still : Prop} {s0 s : State} (h : Kept still s0 s) (path : Path) (region : Fin 16) (check : Byte) : KeptO still s0 (execFlipArm path region check s) := by
  unfold execFlipArm
  repeat' first | (with_reducible first | assumption | intro _ | apply State.rwsWrite_kept | apply State.set_kept | apply KeptO.next) | dsimp only

theorem execHarrowStep_kept {s0 s : State} (h : Kept False s0 s) (region : Fin 9) (upset : MemWord) (lapMs : Nat) : KeptO False s0 (execHarrowStep region upset lapMs s) := by
  unfold execHarrowStep
  repeat' first | (with_reducible first | assumption | intro _ | apply State.harrow_kept | apply KeptO.next) | dsimp only

theorem execBucketLeak_kept {still : Prop} {s0 s : State} (h : Kept still s0 s) (region : Fin 9) : KeptO still s0 (execBucketLeak region s) := by
  unfold execBucketLeak
  repeat' first | (with_reducible first | assumption | intro _ | apply State.set_kept | apply KeptO.next) | dsimp only

theorem execMemoryInitDone_kept {s0 s : State} (h : Kept False s0 s) : KeptO False s0 (execMemoryInitDone s) := by
  unfold execMemoryInitDone
  repeat' first | (with_reducible first | assumption | intro _ | apply State.memInit_kept | apply KeptO.next) | dsimp only

theorem State.onCxl_kept {still : Prop} {s0 s : State} (h : Kept still s0 s) (f : CxlSt → CxlSt) : Kept still s0 (State.onCxl s f) := by
  unfold State.onCxl
  try dsimp only
  repeat' first | (with_reducible first | assumption | intro _) | simp only [↓kept_mk_simp] | dsimp only

theorem State.cxlRaise_kept {still : Prop} {s0 s : State} (h : Kept still s0 s) (b : Nat) : Kept still s0 (State.cxlRaise s b) := by
  unfold State.cxlRaise
  repeat' first | (with_reducible first | assumption | intro _ | apply State.raiseEvent_kept) | dsimp only

theorem State.cxlViolate_kept {still : Prop} {s0 s : State} (h : Kept still s0 s) (code : Nat) : Kept still s0 (State.cxlViolate s code) := by
  unfold State.cxlViolate
  repeat' first | (with_reducible first | assumption | intro _ | apply State.bump_kept | apply State.cxlRaise_kept | apply State.set_kept) | dsimp only

theorem State.winUsersStop_kept {still : Prop} {s0 s : State} (h : Kept still s0 s) : Kept still s0 (State.winUsersStop s) := by
  unfold State.winUsersStop
  try dsimp only
  repeat' first | (with_reducible first | assumption | intro _ | apply State.fwSourceError_kept | apply State.sourceError_kept | apply State.spillHold_kept | apply kept_ite) | split | dsimp only

theorem State.winLose_kept {still : Prop} {s0 s : State} (h : Kept still s0 s) : Kept still s0 (State.winLose s) := by
  unfold State.winLose
  try dsimp only
  repeat' first | (with_reducible first | assumption | intro _ | apply State.cxlRaise_kept | apply State.onCxl_kept | apply State.set_kept | apply State.winUsersStop_kept | apply kept_ite) | simp only [↓kept_mk_simp] | split | dsimp only

theorem State.winGrant_kept {still : Prop} {s0 s : State} (h : Kept still s0 s) : Kept still s0 (State.winGrant s) := by
  unfold State.winGrant
  try dsimp only
  repeat' first | (with_reducible first | assumption | intro _ | apply State.cxlRaise_kept | apply State.cxlViolate_kept | apply State.onCxl_kept | apply State.set_kept | apply State.spillResume_kept | apply State.wrapAdd_kept | apply kept_ite) | simp only [↓kept_mk_simp] | split | dsimp only

theorem State.winRevoke_kept {still : Prop} {s0 s : State} (h : Kept still s0 s) : Kept still s0 (State.winRevoke s) := by
  unfold State.winRevoke
  try dsimp only
  repeat' first | (with_reducible first | assumption | intro _ | apply State.cxlViolate_kept | apply State.set_kept | apply State.winUsersStop_kept) | simp only [↓kept_mk_simp] | refine pair_kept (by assumption) ?_ | split | dsimp only

theorem State.winCommand_kept {still : Prop} {s0 s : State} (h : Kept still s0 s) (p : Path) {k : State → State} (hk : ∀ s, Kept still s0 s → Kept still s0 (k s)) : Kept still s0 (State.winCommand s p k) := by
  unfold State.winCommand
  repeat' first | (with_reducible first | assumption | intro _ | apply hk | apply State.bump_kept | apply State.rwWrite_kept | apply kept_ite) | split | dsimp only

theorem State.userFails_kept {still : Prop} {s0 s : State} (h : Kept still s0 s) (u : WindowUser) : Kept still s0 (State.userFails s u) := by
  unfold State.userFails
  try dsimp only
  repeat' first | (with_reducible first | assumption | intro _ | apply State.fwSourceError_kept | apply State.sourceError_kept | apply kept_ite) | simp only [↓kept_mk_simp] | refine pair_kept (by assumption) ?_ | split | dsimp only

theorem State.winTimeout_kept {still : Prop} {s0 s : State} (h : Kept still s0 s) (u : WindowUser) : Kept still s0 (State.winTimeout s u) := by
  unfold State.winTimeout
  try dsimp only
  repeat' first | (with_reducible first | assumption | intro _ | apply State.cxlViolate_kept | apply State.onCxl_kept | apply State.userFails_kept | apply State.winLose_kept | apply State.windowFault_kept | apply kept_ite) | simp only [↓kept_mk_simp] | split | dsimp only

theorem State.winError_kept {still : Prop} {s0 s : State} (h : Kept still s0 s) (u : WindowUser) : Kept still s0 (State.winError s u) := by
  unfold State.winError
  try dsimp only
  repeat' first | (with_reducible first | assumption | intro _ | apply State.cxlViolate_kept | apply State.onCxl_kept | apply State.userFails_kept | apply State.windowFault_kept | apply kept_ite) | simp only [↓kept_mk_simp] | split | dsimp only

theorem State.snoop_kept {still : Prop} {s0 s : State} (h : Kept still s0 s) (line : Nat) : Kept still s0 (State.snoop s line) := by
  unfold State.snoop
  try dsimp only
  repeat' first | (with_reducible first | assumption | intro _ | apply State.onCxl_kept | apply State.send_kept) | simp only [↓kept_mk_simp] | dsimp only

theorem State.portDown_kept {still : Prop} {s0 s : State} (h : Kept still s0 s) : Kept still s0 (State.portDown s) := by
  unfold State.portDown
  repeat' first | (with_reducible first | assumption | intro _ | apply State.wr_kept) | dsimp only

theorem State.leaveUp_kept {still : Prop} {s0 s : State} (h : Kept still s0 s) : Kept still s0 (State.leaveUp s) := by
  unfold State.leaveUp
  try dsimp only
  repeat' first | (with_reducible first | assumption | intro _ | apply State.bump_kept | apply State.cxlRaise_kept | apply State.onCxl_kept | apply State.portDown_kept | apply State.sessionEnd_kept | apply State.winLose_kept | apply kept_ite) | simp only [↓kept_mk_simp] | split | dsimp only

theorem State.portLoss_kept {still : Prop} {s0 s : State} (h : Kept still s0 s) : Kept still s0 (State.portLoss s) := by
  unfold State.portLoss
  try dsimp only
  repeat' first | (with_reducible first | assumption | intro _ | apply State.leaveUp_kept | apply State.portDown_kept) | simp only [↓kept_mk_simp] | refine pair_kept (by assumption) ?_ | split | dsimp only

theorem State.train_kept {still : Prop} {s0 s : State} (h : Kept still s0 s) : Kept still s0 (State.train s) := by
  unfold State.train
  repeat' first | (with_reducible first | assumption | intro _ | apply State.portDown_kept | apply State.set_kept) | dsimp only

theorem State.configReset_kept {still : Prop} {s0 s : State} (h : Kept still s0 s) : Kept still s0 (State.configReset s) := by
  unfold State.configReset
  try dsimp only
  repeat' first | (with_reducible first | assumption | intro _ | apply State.set_kept | apply State.wr_kept | apply kept_foldl) | simp only [↓kept_mk_simp] | dsimp only

theorem State.mbxGo_kept {still : Prop} {s0 s : State} (h : Kept still s0 s) (len : Nat) : Kept still s0 (State.mbxGo s len) := by
  unfold State.mbxGo
  try dsimp only
  repeat' first | exact SecKept.mk (fun _ h => h) (fun _ => Nat.le_refl _) | (with_reducible first | assumption | intro _ | apply State.cxlViolate_kept | apply State.deliver?_kept | apply State.msixEdge_kept | apply State.onCxl_kept | apply State.onSec_kept | apply State.set_kept | apply State.wr_kept | apply kept_ite) | simp only [↓kept_mk_simp] | split | dsimp only

theorem State.mbxDone_kept {still : Prop} {s0 s : State} (h : Kept still s0 s) : Kept still s0 (State.mbxDone s) := by
  unfold State.mbxDone
  try dsimp only
  repeat' first | exact SecKept.mk (fun _ h => h) (fun _ => Nat.le_refl _) | (with_reducible first | assumption | intro _ | apply State.msixEdge_kept | apply State.onCxl_kept | apply State.onSec_kept | apply State.putBytes_kept | apply State.set_kept | apply State.wr_kept | apply kept_ite) | simp only [↓kept_mk_simp] | refine pair_kept (by assumption) ?_ | split | dsimp only

theorem State.headWrite_kept {still : Prop} {s0 s : State} (h : Kept still s0 s) (h : Nat) : Kept still s0 (State.headWrite s h) := by
  unfold State.headWrite
  try dsimp only
  repeat' first | (with_reducible first | assumption | intro _ | apply State.cxlViolate_kept | apply State.msix_kept | apply State.set_kept | apply kept_ite) | split | dsimp only

theorem State.msixReleaseOne_kept {still : Prop} {s0 s : State} (h : Kept still s0 s) (v : Nat) : Kept still s0 (State.msixReleaseOne s v) := by
  unfold State.msixReleaseOne
  try dsimp only
  repeat' first | (with_reducible first | assumption | intro _ | apply State.msix_kept | apply State.send_kept | apply State.setB_kept | apply kept_ite) | split | dsimp only

theorem State.msixRelease_kept {still : Prop} {s0 s : State} (h : Kept still s0 s) : Kept still s0 (State.msixRelease s) := by
  unfold State.msixRelease
  repeat' first | (with_reducible first | assumption | intro _ | apply State.msixReleaseOne_kept | apply kept_foldl) | dsimp only

theorem State.msixWrite_kept {still : Prop} {s0 s : State} (h : Kept still s0 s) (enable : Bool) (masked : Bool) : Kept still s0 (State.msixWrite s enable masked) := by
  unfold State.msixWrite
  try dsimp only
  repeat' first | (with_reducible first | assumption | intro _ | apply State.msixRelease_kept | apply State.setB_kept | apply kept_ite | apply kept_foldl) | simp only [↓kept_mk_simp] | split | dsimp only

theorem execCxlPerstDeassert_kept {still : Prop} {s0 s : State} (h : Kept still s0 s) : KeptO still s0 (execCxlPerstDeassert s) := by
  unfold execCxlPerstDeassert
  try dsimp only
  repeat' first | (with_reducible first | assumption | intro _ | apply State.onCxl_kept | apply State.train_kept | apply KeptO.next | apply kept_iteO | apply kept_ite) | simp only [↓kept_mk_simp] | split | dsimp only

theorem State.linkShow_kept {still : Prop} {s0 s : State} (h : Kept still s0 s) (width : Nat) (speed : Nat) : Kept still s0 (State.linkShow s width speed) := by
  unfold State.linkShow
  repeat' first | (with_reducible first | assumption | intro _ | apply State.set_kept) | dsimp only

theorem execCxlL0Reached_kept {still : Prop} {s0 s : State} (h : Kept still s0 s) (proto : Fin 3) (width : Fin 16) (speed : Fin 7) : KeptO still s0 (execCxlL0Reached proto width speed s) := by
  unfold execCxlL0Reached
  try dsimp only
  repeat' first | (with_reducible first | assumption | intro _ | apply State.linkShow_kept | apply State.msixRelease_kept | apply State.raise_kept | apply State.set_kept | apply State.wakeSource_kept | apply KeptO.next | apply kept_iteO | apply kept_ite) | split | dsimp only

theorem execCxlTrainingTimeout_kept {still : Prop} {s0 s : State} (h : Kept still s0 s) : KeptO still s0 (execCxlTrainingTimeout s) := by
  unfold execCxlTrainingTimeout
  repeat' first | (with_reducible first | assumption | intro _ | apply State.bump_kept | apply KeptO.next | apply kept_iteO | apply kept_ite) | split | dsimp only

theorem execCxlLinkRecovery_kept {still : Prop} {s0 s : State} (h : Kept still s0 s) : KeptO still s0 (execCxlLinkRecovery s) := by
  unfold execCxlLinkRecovery
  try dsimp only
  repeat' first | (with_reducible first | assumption | intro _ | apply State.bump_kept | apply State.onCxl_kept | apply KeptO.next | apply kept_iteO | apply kept_ite) | simp only [↓kept_mk_simp] | split | dsimp only

theorem execCxlLinkDown_kept {still : Prop} {s0 s : State} (h : Kept still s0 s) : KeptO still s0 (execCxlLinkDown s) := by
  unfold execCxlLinkDown
  repeat' first | (with_reducible first | assumption | intro _ | apply State.leaveUp_kept | apply KeptO.next | apply kept_iteO | apply kept_ite) | split | dsimp only

theorem execCxlPerstAssert_kept {still : Prop} {s0 s : State} (h : Kept still s0 s) : KeptO still s0 (execCxlPerstAssert s) := by
  unfold execCxlPerstAssert
  try dsimp only
  repeat' first | (with_reducible first | assumption | intro _ | apply State.configReset_kept | apply State.onCxl_kept | apply State.portLoss_kept | apply KeptO.next) | simp only [↓kept_mk_simp] | dsimp only

theorem execCxlHotReset_kept {still : Prop} {s0 s : State} (h : Kept still s0 s) : KeptO still s0 (execCxlHotReset s) := by
  unfold execCxlHotReset
  repeat' first | (with_reducible first | assumption | intro _ | apply State.configReset_kept | apply State.portLoss_kept | apply KeptO.next) | dsimp only

theorem execCxlRefLost_kept {still : Prop} {s0 s : State} (h : Kept still s0 s) : KeptO still s0 (execCxlRefLost s) := by
  unfold execCxlRefLost
  try dsimp only
  repeat' first | (with_reducible first | assumption | intro _ | apply State.onCxl_kept | apply State.portLoss_kept | apply KeptO.next) | simp only [↓kept_mk_simp] | dsimp only

theorem execCxlRefRestored_kept {still : Prop} {s0 s : State} (h : Kept still s0 s) : KeptO still s0 (execCxlRefRestored s) := by
  unfold execCxlRefRestored
  try dsimp only
  repeat' first | (with_reducible first | assumption | intro _ | apply State.onCxl_kept | apply State.train_kept | apply KeptO.next | apply kept_iteO | apply kept_ite) | simp only [↓kept_mk_simp] | split | dsimp only

theorem execCxlRetrain_kept {still : Prop} {s0 s : State} (h : Kept still s0 s) (path : Path) (value : Word) (width : Fin 16) (speed : Fin 7) : KeptO still s0 (execCxlRetrain path value width speed s) := by
  unfold execCxlRetrain
  try dsimp only
  repeat' first | (with_reducible first | assumption | intro _ | apply State.linkShow_kept | apply State.rwWrite_kept | apply State.wr_kept | apply KeptO.next | apply kept_iteO | apply kept_ite) | simp only [↓kept_mk_simp] | refine pair_kept (by assumption) ?_ | split | dsimp only

theorem execGrant_kept {still : Prop} {s0 s : State} (h : Kept still s0 s) (path : Path) : KeptO still s0 (execGrant path s) := by
  unfold execGrant
  repeat' first | (with_reducible first | assumption | intro _ | apply State.winCommand_kept | apply State.winGrant_kept | apply KeptO.next) | dsimp only

theorem execRevoke_kept {still : Prop} {s0 s : State} (h : Kept still s0 s) (path : Path) : KeptO still s0 (execRevoke path s) := by
  unfold execRevoke
  repeat' first | (with_reducible first | assumption | intro _ | apply State.winCommand_kept | apply State.winRevoke_kept | apply KeptO.next) | dsimp only

theorem execWriteBackComplete_kept {still : Prop} {s0 s : State} (h : Kept still s0 s) : KeptO still s0 (execWriteBackComplete s) := by
  unfold execWriteBackComplete
  try dsimp only
  repeat' first | (with_reducible first | assumption | intro _ | apply State.cxlRaise_kept | apply State.onCxl_kept | apply State.set_kept | apply KeptO.next | apply kept_iteO | apply kept_ite) | simp only [↓kept_mk_simp] | split | dsimp only

theorem execWriteBackTimeout_kept {still : Prop} {s0 s : State} (h : Kept still s0 s) : KeptO still s0 (execWriteBackTimeout s) := by
  unfold execWriteBackTimeout
  repeat' first | (with_reducible first | assumption | intro _ | apply State.winLose_kept | apply KeptO.next | apply kept_iteO | apply kept_ite) | split | dsimp only

theorem execWindowRequestTimeout_kept {still : Prop} {s0 s : State} (h : Kept still s0 s) (user : WindowUser) : KeptO still s0 (execWindowRequestTimeout user s) := by
  unfold execWindowRequestTimeout
  repeat' first | (with_reducible first | assumption | intro _ | apply State.winTimeout_kept | apply KeptO.next) | dsimp only

theorem execWindowHostError_kept {still : Prop} {s0 s : State} (h : Kept still s0 s) (user : WindowUser) : KeptO still s0 (execWindowHostError user s) := by
  unfold execWindowHostError
  repeat' first | (with_reducible first | assumption | intro _ | apply State.winError_kept | apply KeptO.next) | dsimp only

theorem execHostSnoop_kept {still : Prop} {s0 s : State} (h : Kept still s0 s) (line : Nat) : KeptO still s0 (execHostSnoop line s) := by
  unfold execHostSnoop
  repeat' first | (with_reducible first | assumption | intro _ | apply State.snoop_kept | apply KeptO.next) | dsimp only

theorem execMbxGo_kept {still : Prop} {s0 s : State} (h : Kept still s0 s) (length : Fin 8192) : KeptO still s0 (execMbxGo length s) := by
  unfold execMbxGo
  repeat' first | (with_reducible first | assumption | intro _ | apply State.mbxGo_kept | apply KeptO.next) | dsimp only

theorem execMbxCommandDone_kept {still : Prop} {s0 s : State} (h : Kept still s0 s) : KeptO still s0 (execMbxCommandDone s) := by
  unfold execMbxCommandDone
  repeat' first | (with_reducible first | assumption | intro _ | apply State.mbxDone_kept | apply KeptO.next) | dsimp only

theorem execMbxNotifyHeadWrite_kept {still : Prop} {s0 s : State} (h : Kept still s0 s) (head : Fin 16) : KeptO still s0 (execMbxNotifyHeadWrite head s) := by
  unfold execMbxNotifyHeadWrite
  repeat' first | (with_reducible first | assumption | intro _ | apply State.headWrite_kept | apply KeptO.next) | dsimp only

theorem execMsixEnable_kept {still : Prop} {s0 s : State} (h : Kept still s0 s) (enable : Bool) (masked : Bool) : KeptO still s0 (execMsixEnable enable masked s) := by
  unfold execMsixEnable
  repeat' first | (with_reducible first | assumption | intro _ | apply State.msixWrite_kept | apply KeptO.next) | dsimp only

theorem State.freeBelow_kept {still : Prop} {s0 s : State} (h : Kept still s0 s) (n : Nat) : Kept still s0 (State.freeBelow s n).2 := by
  unfold State.freeBelow
  try dsimp only
  repeat' first | (with_reducible first | assumption | intro _ | apply State.freeWord_kept) | refine pair_kept (by assumption) ?_ | split | dsimp only

theorem State.fuseCut_kept {still : Prop} {s0 s : State} (h : Kept still s0 s) : Kept still s0 (State.fuseCut s) := by
  unfold State.fuseCut
  try dsimp only
  repeat' first | exact BistKept.mk (fun _ h => h) (fun _ h => h) | exact BistKept.mk (fun _ h => List.mem_append_left _ h) (fun _ h => List.mem_append_left _ h) | (with_reducible first | assumption | intro _ | apply State.freeBelow_kept | apply State.onBist_kept) | simp only [↓kept_mk_simp] | refine pair_kept (by assumption) ?_ | split | dsimp only

theorem State.seedCut_kept {still : Prop} {s0 s : State} (h : Kept still s0 s) : Kept still s0 (State.seedCut s) := by
  unfold State.seedCut
  try dsimp only
  repeat' first | exact BistSt.store_kept _ _ | exact BistSt.cut_kept _ | exact BistKept.mk (BistSt.store_kept _ _).rows (BistSt.store_kept _ _).units | exact BistKept.mk (fun _ h => h) (fun _ h => h) | (with_reducible first | assumption | intro _ | apply State.calWriteCopy_kept | apply State.freeBelow_kept | apply State.onBist_kept | apply State.onPlan_kept | apply State.set_kept | apply kept_ite) | simp only [↓kept_mk_simp] | refine pair_kept (by assumption) ?_ | split | dsimp only

theorem State.rollbackCut_kept {still : Prop} {s0 s : State} (h : Kept still s0 s) : Kept still s0 (State.rollbackCut s) := by
  unfold State.rollbackCut
  try dsimp only
  repeat' first | exact SecKept.mk (fun _ h => h) (fun _ => Nat.le_refl _) | exact rollbackCut_burnt _ _ (by assumption) | (with_reducible first | assumption | intro _ | apply State.freeBelow_kept | apply State.onSec_kept | apply State.set_kept) | simp only [↓kept_mk_simp] | refine pair_kept (by assumption) ?_ | split | dsimp only

theorem kept_cleared {s0 s t : State} (h : Kept False s0 s) (hq : t.pending = s.pending)
    (hr : Store.wf resetWord s.regs = true → Store.wf resetWord t.regs = true) (hm : t.mem.words = []) (e1 : t.sec.revoked = s.sec.revoked)
    (e2 : t.sec.fuses = s.sec.fuses) (e3 : t.sec.burning = none) (e4 : t.bist.rowFuses = s.bist.rowFuses)
    (e5 : t.bist.fallowFuses = s.bist.fallowFuses) : Kept False s0 t :=
  ⟨hq.trans h.queue, fun c => by
    have := h.canon c
    simp only [State.canonical, State.regsCanonical, State.memCanonical, Bool.and_eq_true] at this ⊢
    exact ⟨hr this.1, by rw [hm]; rfl⟩,
    ⟨fun k hk => e1 ▸ h.otp.revoked k hk,
      fun i => Nat.le_trans (h.otp.counts i) (Nat.le_trans (s.sec.burnt_le i) (Nat.le_of_eq (by rw [SecSt.burnt, e3, e2]))),
      fun q hq => e4 ▸ h.otp.rows q hq, fun u hu => e5 ▸ h.otp.units u hu⟩, False.elim⟩

theorem State.base_kept {s0 s : State} (h : Kept False s0 s) : Kept False s0 (State.base s) := kept_cleared h rfl (fun _ => rfl) rfl rfl rfl rfl rfl rfl

theorem State.bootSlotOnly_kept {still : Prop} {s0 s : State} (h : Kept still s0 s) : Kept still s0 (State.bootSlotOnly s) := by
  unfold State.bootSlotOnly
  repeat' first | (with_reducible first | assumption | intro _ | apply State.wr_kept) | dsimp only

theorem State.coldReset_kept {s0 s : State} (h : Kept False s0 s) : Kept False s0 (State.coldReset s) := by
  refine kept_foldl (fun s r h => ?_) (State.bootSlotOnly_kept
    (kept_cleared (State.rollbackCut_kept (State.fuseCut_kept (State.seedCut_kept h))) rfl (Store.wf_filter _ _ _) rfl rfl rfl rfl rfl rfl))
  split
  · exact State.set_kept h ..
  · exact h

theorem State.aonWarm_kept {still : Prop} {s0 s : State} (h : Kept still s0 s) (cause : Nat) : Kept still s0 (State.aonWarm s cause) := by
  unfold State.aonWarm
  try dsimp only
  repeat' first | (with_reducible first | assumption | intro _ | apply State.set_kept | apply State.setVotes_kept | apply State.wr_kept | apply kept_foldl) | dsimp only

theorem State.latchedVotes_kept {still : Prop} {s0 s : State} (h : Kept still s0 s) : Kept still s0 (State.latchedVotes s) := by
  unfold State.latchedVotes
  repeat' first | (with_reducible first | assumption | intro _ | apply State.vote_kept | apply kept_foldl) | dsimp only

theorem State.warmReset_kept {s0 s : State} (h : Kept False s0 s) (cause : Nat) (reached : List BistReport) :
    Kept False s0 (State.warmReset s cause reached) := by
  refine State.latchedVotes_kept (State.aonWarm_kept (State.bootSlotOnly_kept ?_) _)
  refine kept_cleared (State.fuseCut_kept (State.seedCut_kept (kept_ite (c := _) (State.bistHold_kept h ..) h))) rfl (Store.wf_filter _ _ _) rfl rfl rfl rfl rfl rfl

theorem State.tableRead_kept {still : Prop} {s0 s : State} (h : Kept still s0 s) : Kept still s0 (State.tableRead s) := by
  unfold State.tableRead
  try dsimp only
  repeat' first | (with_reducible first | assumption | intro _ | apply State.calRaise_kept | apply State.onCal_kept | apply kept_ite) | simp only [↓kept_mk_simp] | split | dsimp only

theorem State.tasksShow_kept {still : Prop} {s0 s : State} (h : Kept still s0 s) : Kept still s0 (State.tasksShow s) := by
  unfold State.tasksShow
  repeat' first | (with_reducible first | assumption | intro _ | apply State.set_kept | apply kept_ite | apply kept_foldl) | split | dsimp only

theorem State.boot_kept {s0 s : State} (h : Kept False s0 s) (test : BootTest) : Kept False s0 (State.boot s test) := by
  unfold State.boot
  try dsimp only
  repeat' first | (with_reducible first | assumption | intro _ | apply State.bootPlan_kept | apply State.calLoad_kept | apply State.fallowSet_kept | apply State.freeWord_kept | apply State.hedgeBoot_kept | apply State.memInit_kept | apply State.ploughBoot_kept | apply State.quickTest_kept | apply State.send_kept | apply State.set_kept | apply State.showTrial_kept | apply State.tableRead_kept | apply State.tasksShow_kept | apply State.train_kept | apply State.wr_kept | apply kept_ite | apply kept_foldl) | refine pair_kept (by assumption) ?_ | split | dsimp only

theorem execPor_kept {s0 s : State} (h : Kept False s0 s) (test : BootTest) : KeptO False s0 (execPor test s) := by
  unfold execPor
  repeat' first | (with_reducible first | assumption | intro _ | apply State.boot_kept | apply State.coldReset_kept | apply KeptO.next) | dsimp only

theorem execResetN_kept {s0 s : State} (h : Kept False s0 s) (test : BootTest) : KeptO False s0 (execResetN test s) := by
  unfold execResetN
  repeat' first | (with_reducible first | assumption | intro _ | apply State.boot_kept | apply State.warmReset_kept | apply KeptO.next) | dsimp only

theorem execWarmReset_kept {s0 s : State} (h : Kept False s0 s) (path : Path) (test : BootTest) : KeptO False s0 (execWarmReset path test s) := by
  unfold execWarmReset
  repeat' first | (with_reducible first | assumption | intro _ | apply State.boot_kept | apply State.rwsWrite_kept | apply State.warmReset_kept | apply KeptO.next) | dsimp only

theorem State.bistRun_kept {still : Prop} {s0 s : State} (h : Kept still s0 s) : Kept still s0 (State.bistRun s) := by
  unfold State.bistRun
  repeat' first | (with_reducible first | assumption | intro _ | apply State.bistIgnored_kept | apply State.shutRequest_kept | apply kept_ite) | split | dsimp only

theorem execBistRun_kept {still : Prop} {s0 s : State} (h : Kept still s0 s) (path : Path) : KeptO still s0 (execBistRun path s) := by
  unfold execBistRun
  repeat' first | (with_reducible first | assumption | intro _ | apply State.bistCommand_kept | apply State.bistRun_kept | apply KeptO.next) | dsimp only

theorem execBistResultsWritten_kept {s0 s : State} (h : Kept False s0 s) (same : Bool) (test : BootTest) : KeptO False s0 (execBistResultsWritten same test s) := by
  unfold execBistResultsWritten
  try dsimp only
  repeat' first | (with_reducible first | assumption | intro _ | apply State.bistWritten_kept | apply State.boot_kept | apply State.halt_kept | apply State.warmReset_kept | apply KeptO.next | apply kept_iteO | apply kept_ite) | split | dsimp only

theorem execHello_kept {still : Prop} {s0 s : State} (h : Kept still s0 s) (e : Envelope) (role : Fin 256) : KeptO still s0 (execHello e role s) := by
  unfold execHello
  repeat' first | (with_reducible first | assumption | intro _ | apply State.hello_kept | apply State.wmp_kept | apply KeptO.next) | dsimp only

theorem execProve_kept {still : Prop} {s0 s : State} (h : Kept still s0 s) (e : Envelope) (sid : Nat) (nonce : List Byte) (proof : List Byte) (late : Bool) : KeptO still s0 (execProve e sid nonce proof late s) := by
  unfold execProve
  repeat' first | (with_reducible first | assumption | intro _ | apply State.prove_kept | apply State.wmp_kept | apply KeptO.next) | dsimp only

theorem State.noSession_kept {still : Prop} {s0 s : State} (h : Kept still s0 s) (e : Envelope) (cls : Nat) (typ : Nat) : Kept still s0 (State.noSession s e cls typ) := by
  unfold State.noSession
  repeat' first | (with_reducible first | assumption | intro _ | apply State.bump_kept | apply State.nak_kept | apply State.violate_kept) | dsimp only

theorem execEndSession_kept {still : Prop} {s0 s : State} (h : Kept still s0 s) (e : Envelope) : KeptO still s0 (execEndSession e s) := by
  unfold execEndSession
  repeat' first | (with_reducible first | assumption | intro _ | apply State.done_kept | apply State.noSession_kept | apply State.sessionEnd_kept | apply State.wmp_kept | apply KeptO.next | apply kept_iteO | apply kept_ite) | split | dsimp only

theorem execSetRoleKey_kept {still : Prop} {s0 s : State} (h : Kept still s0 s) (e : Envelope) (role : Fin 256) (key : List Byte) : KeptO still s0 (execSetRoleKey e role key s) := by
  unfold execSetRoleKey
  repeat' first | (with_reducible first | assumption | intro _ | apply State.roleKeyBlank_kept | apply State.roleKeyIn_kept | apply State.wmp_kept | apply KeptO.next | apply kept_iteO | apply kept_ite) | split | dsimp only

theorem execLcChange_kept {still : Prop} {s0 s : State} (h : Kept still s0 s) (e : Envelope) (target : Fin 256) : KeptO still s0 (execLcChange e target s) := by
  unfold execLcChange
  repeat' first | (with_reducible first | assumption | intro _ | apply State.lcChange_kept | apply State.wmp_kept | apply KeptO.next) | dsimp only

theorem execFwChunk_kept {still : Prop} {s0 s : State} (h : Kept still s0 s) (e : Envelope) (type : Fin 256) (offset : Nat) (data : List Byte) : KeptO still s0 (execFwChunk e type offset data s) := by
  unfold execFwChunk
  repeat' first | (with_reducible first | assumption | intro _ | apply State.fwChunk_kept | apply State.wmp_kept | apply KeptO.next) | dsimp only

theorem execFwLoadWindow_kept {still : Prop} {s0 s : State} (h : Kept still s0 s) (e : Envelope) (type : Fin 256) (offset : Nat) (length : Nat) : KeptO still s0 (execFwLoadWindow e type offset length s) := by
  unfold execFwLoadWindow
  repeat' first | (with_reducible first | assumption | intro _ | apply State.fwLoadWindow_kept | apply State.wmp_kept | apply KeptO.next) | dsimp only

theorem execFwVerify_kept {still : Prop} {s0 s : State} (h : Kept still s0 s) (e : Envelope) : KeptO still s0 (execFwVerify e s) := by
  unfold execFwVerify
  repeat' first | (with_reducible first | assumption | intro _ | apply State.fwVerify_kept | apply State.wmp_kept | apply KeptO.next) | dsimp only

theorem execFwVerifyDone_kept {still : Prop} {s0 s : State} (h : Kept still s0 s) : KeptO still s0 (execFwVerifyDone s) := by
  unfold execFwVerifyDone
  repeat' first | (with_reducible first | assumption | intro _ | apply State.fwVerified_kept | apply KeptO.next) | dsimp only

theorem execFwActivate_kept {still : Prop} {s0 s : State} (h : Kept still s0 s) (e : Envelope) : KeptO still s0 (execFwActivate e s) := by
  unfold execFwActivate
  repeat' first | (with_reducible first | assumption | intro _ | apply State.fwActivate_kept | apply State.wmp_kept | apply KeptO.next) | dsimp only

theorem execFwCommit_kept {still : Prop} {s0 s : State} (h : Kept still s0 s) (e : Envelope) : KeptO still s0 (execFwCommit e s) := by
  unfold execFwCommit
  repeat' first | (with_reducible first | assumption | intro _ | apply State.fwCommit_kept | apply State.wmp_kept | apply KeptO.next) | dsimp only

theorem execImageLoaded_kept {still : Prop} {s0 s : State} (h : Kept still s0 s) (data : List Byte) : KeptO still s0 (execImageLoaded data s) := by
  unfold execImageLoaded
  repeat' first | (with_reducible first | assumption | intro _ | apply State.fwLoaded_kept | apply State.windowAnswered_kept | apply KeptO.next | apply kept_iteO | apply kept_ite) | split | dsimp only

theorem execKeyInstall_kept {still : Prop} {s0 s : State} (h : Kept still s0 s) (e : Envelope) (slot : Fin 256) (key : List Byte) : KeptO still s0 (execKeyInstall e slot key s) := by
  unfold execKeyInstall
  repeat' first | (with_reducible first | assumption | intro _ | apply State.done_kept | apply State.keyIn_kept | apply State.nak_kept | apply State.wmp_kept | apply KeptO.next | apply kept_iteO | apply kept_ite) | split | dsimp only

theorem execKeyRevoke_kept {still : Prop} {s0 s : State} (h : Kept still s0 s) (e : Envelope) (slot : Fin 256) : KeptO still s0 (execKeyRevoke e slot s) := by
  unfold execKeyRevoke
  repeat' first | (with_reducible first | assumption | intro _ | apply State.done_kept | apply State.keyOut_kept | apply State.nak_kept | apply State.wmp_kept | apply KeptO.next | apply kept_iteO | apply kept_ite) | split | dsimp only

theorem execTaskInstall_kept {still : Prop} {s0 s : State} (h : Kept still s0 s) (e : Envelope) (index : Fin 256) : KeptO still s0 (execTaskInstall e index s) := by
  unfold execTaskInstall
  repeat' first | (with_reducible first | assumption | intro _ | apply State.taskInstall_kept | apply State.wmp_kept | apply KeptO.next) | dsimp only

theorem execTaskRemove_kept {still : Prop} {s0 s : State} (h : Kept still s0 s) (e : Envelope) (index : Fin 256) : KeptO still s0 (execTaskRemove e index s) := by
  unfold execTaskRemove
  repeat' first | (with_reducible first | assumption | intro _ | apply State.taskRemove_kept | apply State.wmp_kept | apply KeptO.next) | dsimp only

theorem execStepRequest_kept {still : Prop} {s0 s : State} (h : Kept still s0 s) (e : Envelope) (carrier : Fin 256) (targets : List Byte) : KeptO still s0 (execStepRequest e carrier targets s) := by
  unfold execStepRequest
  repeat' first | (with_reducible first | assumption | intro _ | apply State.mgrRequest_kept | apply State.wmp_kept | apply KeptO.next) | dsimp only

theorem execMgrRenegotiate_kept {still : Prop} {s0 s : State} (h : Kept still s0 s) (e : Envelope) (carrier : Fin 256) : KeptO still s0 (execMgrRenegotiate e carrier s) := by
  unfold execMgrRenegotiate
  repeat' first | (with_reducible first | assumption | intro _ | apply State.mgrRequest_kept | apply State.renegotiate_kept | apply State.wmp_kept | apply KeptO.next) | dsimp only

theorem execHlSend_kept {still : Prop} {s0 s : State} (h : Kept still s0 s) (e : Envelope) (carrier : Fin 256) (sub : Fin 256) (data : List Byte) : KeptO still s0 (execHlSend e carrier sub data s) := by
  unfold execHlSend
  repeat' first | (with_reducible first | assumption | intro _ | apply State.mgrRequest_kept | apply State.wmp_kept | apply KeptO.next) | dsimp only

theorem execReplanSwitch_kept {still : Prop} {s0 s : State} (h : Kept still s0 s) (e : Envelope) (carrier : Fin 256) : KeptO still s0 (execReplanSwitch e carrier s) := by
  unfold execReplanSwitch
  repeat' first | (with_reducible first | assumption | intro _ | apply State.mgrRequest_kept | apply State.wmp_kept | apply KeptO.next) | dsimp only

theorem execUnknownClass_kept {still : Prop} {s0 s : State} (h : Kept still s0 s) (e : Envelope) (cls : Fin 256) (typ : Fin 256) : KeptO still s0 (execUnknownClass e cls typ s) := by
  unfold execUnknownClass
  repeat' first | (with_reducible first | assumption | intro _ | apply State.nak_kept | apply State.versionNak_kept | apply State.violate_kept | apply KeptO.next | apply kept_iteO | apply kept_ite) | split | dsimp only

theorem execSessionIdleTimeout_kept {still : Prop} {s0 s : State} (h : Kept still s0 s) (p : Fin 4) : KeptO still s0 (execSessionIdleTimeout p s) := by
  unfold execSessionIdleTimeout
  repeat' first | (with_reducible first | assumption | intro _ | apply State.sessionEnd_kept | apply KeptO.next) | dsimp only

theorem execLockoutExpired_kept {still : Prop} {s0 s : State} (h : Kept still s0 s) (r : Fin 4) : KeptO still s0 (execLockoutExpired r s) := by
  unfold execLockoutExpired
  repeat' first | (with_reducible first | assumption | intro _ | apply State.set_kept | apply KeptO.next) | dsimp only

theorem execTrialExpired_kept {still : Prop} {s0 s : State} (h : Kept still s0 s) : KeptO still s0 (execTrialExpired s) := by
  unfold execTrialExpired
  repeat' first | (with_reducible first | assumption | intro _ | apply State.fwRevert_kept | apply KeptO.next) | dsimp only

theorem execReadyTimeout_kept {still : Prop} {s0 s : State} (h : Kept still s0 s) : KeptO still s0 (execReadyTimeout s) := by
  unfold execReadyTimeout
  try dsimp only
  repeat' first | (with_reducible first | assumption | intro _ | apply State.fwRevert_kept | apply KeptO.next | apply kept_iteO | apply kept_ite) | split | dsimp only

theorem execPloughReady_kept {still : Prop} {s0 s : State} (h : Kept still s0 s) (core : Fin 4) : KeptO still s0 (execPloughReady core s) := by
  unfold execPloughReady
  repeat' first | (with_reducible first | assumption | intro _ | apply State.ploughReady_kept | apply KeptO.next) | dsimp only

theorem execHeartbeat_kept {still : Prop} {s0 s : State} (h : Kept still s0 s) (_core : Fin 4) : KeptO still s0 (execHeartbeat _core s) := by
  unfold execHeartbeat
  repeat' first | (with_reducible first | assumption | intro _ | apply KeptO.next) | dsimp only

theorem execPloughWatchdog_kept {still : Prop} {s0 s : State} (h : Kept still s0 s) (core : Fin 4) : KeptO still s0 (execPloughWatchdog core s) := by
  unfold execPloughWatchdog
  repeat' first | (with_reducible first | assumption | intro _ | apply State.ploughWatchdog_kept | apply KeptO.next) | dsimp only

theorem execHedgeWatchdog_kept {still : Prop} {s0 s : State} (h : Kept still s0 s) : KeptO still s0 (execHedgeWatchdog s) := by
  unfold execHedgeWatchdog
  repeat' first | (with_reducible first | assumption | intro _ | apply State.hedgeWatchdog_kept | apply KeptO.next) | dsimp only

theorem execHedgeRestartComplete_kept {still : Prop} {s0 s : State} (h : Kept still s0 s) : KeptO still s0 (execHedgeRestartComplete s) := by
  unfold execHedgeRestartComplete
  repeat' first | (with_reducible first | assumption | intro _ | apply State.hedgeRestarted_kept | apply KeptO.next) | dsimp only

theorem execPloughRestart_kept {still : Prop} {s0 s : State} (h : Kept still s0 s) (path : Path) : KeptO still s0 (execPloughRestart path s) := by
  unfold execPloughRestart
  repeat' first | (with_reducible first | assumption | intro _ | apply State.ploughRestart_kept | apply State.rwsWrite_kept | apply KeptO.next | apply kept_iteO | apply kept_ite) | split | dsimp only

theorem execTaskBudgetExceeded_kept {still : Prop} {s0 s : State} (h : Kept still s0 s) (t : Fin 8) (cpu : Nat) : KeptO still s0 (execTaskBudgetExceeded t cpu s) := by
  unfold execTaskBudgetExceeded
  try dsimp only
  repeat' first | (with_reducible first | assumption | intro _ | apply State.bump_kept | apply State.cpuRaise_kept | apply State.set_kept | apply KeptO.next | apply kept_iteO | apply kept_ite) | split | dsimp only

theorem execTaskException_kept {still : Prop} {s0 s : State} (h : Kept still s0 s) (t : Fin 8) (cause : TaskCause) : KeptO still s0 (execTaskException t cause s) := by
  unfold execTaskException
  try dsimp only
  repeat' first | (with_reducible first | assumption | intro _ | apply State.bump_kept | apply State.cpuRaise_kept | apply State.set_kept | apply KeptO.next | apply kept_iteO | apply kept_ite) | split | dsimp only

theorem execCpuSwintSet_kept {still : Prop} {s0 s : State} (h : Kept still s0 s) (path : Path) (bits : Fin 16384) : KeptO still s0 (execCpuSwintSet path bits s) := by
  unfold execCpuSwintSet
  try dsimp only
  repeat' first | (with_reducible first | assumption | intro _ | apply State.msix_kept | apply State.rwWrite_kept | apply State.set_kept | apply KeptO.next | apply kept_iteO | apply kept_ite | apply kept_foldl) | simp only [↓kept_mk_simp] | refine pair_kept (by assumption) ?_ | split | dsimp only

theorem State.i3cMessage_kept {still : Prop} {s0 s : State} (h : Kept still s0 s) (bytes : List Byte) (whole : Bool) : Kept still s0 (State.i3cMessage s bytes whole) := by
  unfold State.i3cMessage
  repeat' first | (with_reducible first | assumption | intro _ | apply State.deliver?_kept | apply State.violate_kept | apply kept_ite) | split | dsimp only

theorem execI3cPrivateWrite_kept {still : Prop} {s0 s : State} (h : Kept still s0 s) (transfer : I3cWrite) : KeptO still s0 (execI3cPrivateWrite transfer s) := by
  unfold execI3cPrivateWrite
  try dsimp only
  repeat' first | exact SecKept.mk (fun _ h => h) (fun _ => Nat.le_refl _) | (with_reducible first | assumption | intro _ | apply State.i3cMessage_kept | apply State.onSec_kept | apply State.violate_kept | apply KeptO.next | apply kept_iteO | apply kept_ite) | simp only [↓kept_mk_simp] | refine pair_kept (by assumption) ?_ | split | dsimp only

theorem execI3cPrivateRead_kept {still : Prop} {s0 s : State} (h : Kept still s0 s) (addr : Fin 128) : KeptO still s0 (execI3cPrivateRead addr s) := by
  unfold execI3cPrivateRead
  try dsimp only
  repeat' first | exact SecKept.mk (fun _ h => h) (fun _ => Nat.le_refl _) | (with_reducible first | assumption | intro _ | apply State.onSec_kept | apply State.send_kept | apply KeptO.next | apply kept_iteO | apply kept_ite) | simp only [↓kept_mk_simp] | refine pair_kept (by assumption) ?_ | split | dsimp only

theorem State.i3cTake_kept {still : Prop} {s0 s : State} (h : Kept still s0 s) (addr : Nat) : Kept still s0 (State.i3cTake s addr) := by
  unfold State.i3cTake
  try dsimp only
  repeat' first | (with_reducible first | assumption | intro _ | apply State.send_kept | apply kept_ite) | simp only [↓kept_mk_simp] | split | dsimp only

theorem execI3cAddressAssign_kept {still : Prop} {s0 s : State} (h : Kept still s0 s) (how : I3cAssign) (addr : Fin 128) : KeptO still s0 (execI3cAddressAssign how addr s) := by
  unfold execI3cAddressAssign
  try dsimp only
  repeat' first | (with_reducible first | assumption | intro _ | apply State.i3cTake_kept | apply State.send_kept | apply KeptO.next | apply kept_iteO | apply kept_ite) | simp only [↓kept_mk_simp] | refine pair_kept (by assumption) ?_ | split | dsimp only

theorem execHotJoinTimer_kept {still : Prop} {s0 s : State} (h : Kept still s0 s) : KeptO still s0 (execHotJoinTimer s) := by
  unfold execHotJoinTimer
  repeat' first | (with_reducible first | assumption | intro _ | apply State.send_kept | apply KeptO.next | apply kept_iteO | apply kept_ite) | split | dsimp only

theorem execI3cDynamicAddressLost_kept {still : Prop} {s0 s : State} (h : Kept still s0 s) : KeptO still s0 (execI3cDynamicAddressLost s) := by
  unfold execI3cDynamicAddressLost
  try dsimp only
  repeat' first | (with_reducible first | assumption | intro _ | apply State.sessionEnd_kept | apply KeptO.next) | simp only [↓kept_mk_simp] | dsimp only

theorem execThermTrip_kept {still : Prop} {s0 s : State} (h : Kept still s0 s) (first : Int) (second : Int) : KeptO still s0 (execThermTrip first second s) := by
  unfold execThermTrip
  try dsimp only
  repeat' first | (with_reducible first | assumption | intro _ | apply State.detected_kept | apply State.raise_kept | apply State.second_kept | apply State.set_kept | apply State.shutRequest_kept | apply KeptO.next | apply kept_iteO | apply kept_ite) | split | dsimp only

theorem State.onQual_kept {still : Prop} {s0 s : State} (h : Kept still s0 s) (q : Nat) (f : QualSt → QualSt) : Kept still s0 (State.onQual s q f) := by
  unfold State.onQual
  try dsimp only
  repeat' first | (with_reducible first | assumption | intro _) | simp only [↓kept_mk_simp] | dsimp only

theorem State.rawLevel_kept {still : Prop} {s0 s : State} (h : Kept still s0 s) (q : Nat) (high : Bool) : Kept still s0 (State.rawLevel s q high) := by
  unfold State.rawLevel
  try dsimp only
  repeat' first | (with_reducible first | assumption | intro _ | apply State.setB_kept | apply kept_ite) | split | dsimp only

theorem State.consume_kept {still : Prop} {s0 s : State} (h : Kept still s0 s) (q : Nat) (active : Bool) (time : Int) : Kept still s0 (State.consume s q active time) := by
  unfold State.consume
  repeat' first | (with_reducible first | assumption | intro _ | apply State.captureEdge_kept | apply State.chainsSync_kept | apply State.fireEdge_kept | apply State.wakeSource_kept | apply kept_ite) | split | dsimp only

theorem State.qualDeliver_kept {still : Prop} {s0 s : State} (h : Kept still s0 s) (q : Nat) (active : Bool) (time : Int) : Kept still s0 (State.qualDeliver s q active time) := by
  unfold State.qualDeliver
  try dsimp only
  repeat' first | (with_reducible first | assumption | intro _ | apply State.consume_kept | apply State.onQual_kept) | dsimp only

theorem State.qualChange_kept {still : Prop} {s0 s : State} (h : Kept still s0 s) (q : Nat) (high : Bool) (width : Nat) : Kept still s0 (State.qualChange s q high width) := by
  unfold State.qualChange
  try dsimp only
  repeat' first | (with_reducible first | assumption | intro _ | apply State.bump_kept | apply State.onQual_kept | apply State.qualDeliver_kept | apply State.rawLevel_kept | apply State.setB_kept | apply kept_ite) | simp only [↓kept_mk_simp] | split | dsimp only

theorem execQualifierChange_kept {still : Prop} {s0 s : State} (h : Kept still s0 s) (q : Fin 15) (high : Bool) (width : Nat) : KeptO still s0 (execQualifierChange q high width s) := by
  unfold execQualifierChange
  repeat' first | (with_reducible first | assumption | intro _ | apply State.qualChange_kept | apply KeptO.next) | dsimp only

theorem execMinGapEnd_kept {still : Prop} {s0 s : State} (h : Kept still s0 s) (q : Fin 15) : KeptO still s0 (execMinGapEnd q s) := by
  unfold execMinGapEnd
  try dsimp only
  repeat' first | (with_reducible first | assumption | intro _ | apply State.onQual_kept | apply State.qualDeliver_kept | apply KeptO.next | apply kept_iteO | apply kept_ite) | simp only [↓kept_mk_simp] | split | dsimp only

theorem execStuck_kept {still : Prop} {s0 s : State} (h : Kept still s0 s) (q : Fin 15) : KeptO still s0 (execStuck q s) := by
  unfold execStuck
  repeat' first | (with_reducible first | assumption | intro _ | apply State.bump_kept | apply State.raiseEvent_kept | apply State.set_kept | apply KeptO.next | apply kept_iteO | apply kept_ite) | split | dsimp only

theorem execStuckRelease_kept {still : Prop} {s0 s : State} (h : Kept still s0 s) (q : Fin 15) : KeptO still s0 (execStuckRelease q s) := by
  unfold execStuckRelease
  try dsimp only
  repeat' first | (with_reducible first | assumption | intro _ | apply State.onQual_kept | apply State.rawLevel_kept | apply State.set_kept | apply KeptO.next | apply kept_iteO | apply kept_ite) | simp only [↓kept_mk_simp] | split | dsimp only

theorem State.store_kept {still : Prop} {s0 s : State} (h : Kept still s0 s) (p : Path) (a : Nat) (v : Word) (keep : List (Nat × Nat)) : Kept still s0 (State.store s p a v keep) := by
  unfold State.store
  try dsimp only
  repeat' first | (with_reducible first | assumption | intro _ | apply State.calTakeover_kept | apply State.rwsDropped_kept | apply State.wr_kept | apply kept_ite | apply kept_foldl) | simp only [↓kept_mk_simp] | refine pair_kept (by assumption) ?_ | split | dsimp only

theorem State.guarded_kept {still : Prop} {s0 s : State} (h : Kept still s0 s) (p : Path) (least : Nat) {k : State → State} (hk : ∀ s, Kept still s0 s → Kept still s0 (k s)) : Kept still s0 (State.guarded s p least k) := by
  unfold State.guarded
  repeat' first | (with_reducible first | assumption | intro _ | apply hk | apply State.rwsDropped_kept | apply kept_ite) | split | dsimp only

theorem State.whenBit_kept {still : Prop} {s0 s : State} (h : Kept still s0 s) (v : Word) (b : Nat) {k : State → State} (hk : ∀ s, Kept still s0 s → Kept still s0 (k s)) : Kept still s0 (State.whenBit s v b k) := by
  unfold State.whenBit
  repeat' first | (with_reducible first | assumption | intro _ | apply hk | apply kept_ite) | split | dsimp only

theorem State.took_kept {still : Prop} {s0 s : State} (h : Kept still s0 s) (o : Host.Outcome State Fault Refusal) (ho : KeptO still s0 o) : Kept still s0 (State.took s o) := by
  unfold State.took
  split
  · exact ho.next_kept _ rfl
  · exact h

theorem State.wPlan_kept {still : Prop} {s0 s : State} (h : Kept still s0 s) (p : Path) (a : Nat) (v : Word) : Kept still s0 (State.wPlan s p a v) := by
  unfold State.wPlan
  try dsimp only
  repeat' first | (with_reducible first | assumption | intro _ | apply State.guarded_kept | apply State.set_kept | apply State.store_kept | apply State.took_kept | apply execApplyCold_kept | apply execCancel_kept | apply execLoadSlot_kept | apply execLoadWindow_kept | apply execPrepareHitless_kept | apply execStoreSlot_kept | apply execValidate_kept | apply kept_ite) | simp only [↓kept_mk_simp] | refine pair_kept (by assumption) ?_ | split | dsimp only

theorem State.wFurrowCarrier_kept {still : Prop} {s0 s : State} (h : Kept still s0 s) (p : Path) (c : Carrier) (off : Nat) (a : Nat) (v : Word) : Kept still s0 (State.wFurrowCarrier s p c off a v) := by
  unfold State.wFurrowCarrier
  try dsimp only
  repeat' first | (with_reducible first | assumption | intro _ | apply State.bump_kept | apply State.onRx_kept | apply State.requestSwap_kept | apply State.respLoad_kept | apply State.setS_kept | apply State.shadowWrite_kept | apply State.stepArm_kept | apply State.store_kept | apply State.took_kept | apply State.whenBit_kept | apply execRestart_kept | apply execStepCancel_kept | apply kept_ite) | simp only [↓kept_mk_simp] | refine pair_kept (by assumption) ?_ | split | dsimp only

theorem State.wFurrowWord_kept {still : Prop} {s0 s : State} (h : Kept still s0 s) (p : Path) (a : Nat) (v : Word) : Kept still s0 (State.wFurrowWord s p a v) := by
  unfold State.wFurrowWord
  try dsimp only
  repeat' first | (with_reducible first | assumption | intro _ | apply State.onRx_kept | apply State.respShadowWrite_kept | apply State.shadowWrite_kept | apply State.store_kept | apply State.tapCommand_kept | apply State.wFurrowCarrier_kept | apply State.whenBit_kept | apply State.writeTarget_kept | apply kept_ite) | simp only [↓kept_mk_simp] | split | dsimp only

theorem State.wFurrow_kept {still : Prop} {s0 s : State} (h : Kept still s0 s) (p : Path) (a : Nat) (v : Word) : Kept still s0 (State.wFurrow s p a v) := by
  unfold State.wFurrow
  try dsimp only
  repeat' first | (with_reducible first | assumption | intro _ | apply State.settleNote_kept | apply State.wFurrowWord_kept | apply kept_ite) | split | dsimp only

theorem State.wLine_kept {still : Prop} {s0 s : State} (h : Kept still s0 s) (p : Path) (c : Carrier) (a : Nat) (v : Word) : Kept still s0 (State.wLine s p c a v) := by
  unfold State.wLine
  try dsimp only
  repeat' first | (with_reducible first | assumption | intro _ | apply State.rampDown_kept | apply State.rampUp_kept | apply State.store_kept | apply kept_ite) | simp only [↓kept_mk_simp] | refine pair_kept (by assumption) ?_ | split | dsimp only

theorem State.wFec_kept {still : Prop} {s0 s : State} (h : Kept still s0 s) (p : Path) (a : Nat) (v : Word) : Kept still s0 (State.wFec s p a v) := by
  unfold State.wFec
  try dsimp only
  repeat' first | (with_reducible first | assumption | intro _ | apply State.store_kept | apply State.took_kept | apply State.whenBit_kept | apply execFecSnapshot_kept | apply kept_ite) | split | dsimp only

theorem State.wLink_kept {still : Prop} {s0 s : State} (h : Kept still s0 s) (p : Path) (a : Nat) (v : Word) : Kept still s0 (State.wLink s p a v) := by
  unfold State.wLink
  try dsimp only
  repeat' first | (with_reducible first | assumption | intro _ | apply State.adopt_kept | apply State.alignLost_kept | apply State.bump_kept | apply State.set_kept | apply State.store_kept | apply State.took_kept | apply State.whenBit_kept | apply State.wr_kept | apply execRenegotiate_kept | apply execRxStepArm_kept | apply execTakeE_kept | apply kept_ite) | simp only [↓kept_mk_simp] | refine pair_kept (by assumption) ?_ | split | dsimp only

theorem State.enableWrite_kept {still : Prop} {s0 s : State} (h : Kept still s0 s) (p : Path) (a : Nat) (event : Nat) (blk : Nat) (bit : Nat) (v : Word) : Kept still s0 (State.enableWrite s p a event blk bit v) := by
  unfold State.enableWrite
  try dsimp only
  repeat' first | (with_reducible first | assumption | intro _ | apply State.event_kept | apply State.raise_kept | apply State.store_kept | apply kept_ite) | split | dsimp only

theorem State.wLane_kept {still : Prop} {s0 s : State} (h : Kept still s0 s) (p : Path) (n : Nat) (off : Nat) (a : Nat) (v : Word) (m : Ambient) : Kept still s0 (State.wLane s p n off a v m) := by
  unfold State.wLane
  try dsimp only
  repeat' first | (with_reducible first | assumption | intro _ | apply State.calTakeover_kept | apply State.chkSnap_kept | apply State.enableWrite_kept | apply State.eqSettings_kept | apply State.ffeWrite_kept | apply State.injBurst_kept | apply State.injCommand_kept | apply State.injRate_kept | apply State.injSingle_kept | apply State.injStop_kept | apply State.loopNear_kept | apply State.onLane_kept | apply State.precodeWrite_kept | apply State.retrain_kept | apply State.send_kept | apply State.set_kept | apply State.store_kept | apply State.txIdle_kept | apply State.whenBit_kept | apply kept_ite) | simp only [↓kept_mk_simp] | refine pair_kept (by assumption) ?_ | split | dsimp only

theorem State.wHostLane_kept {still : Prop} {s0 s : State} (h : Kept still s0 s) (p : Path) (a : Nat) (v : Word) (m : Ambient) : Kept still s0 (State.wHostLane s p a v m) := by
  unfold State.wHostLane
  repeat' first | (with_reducible first | assumption | intro _ | apply State.store_kept | apply State.wLane_kept | apply kept_ite) | split | dsimp only

theorem State.wPort_kept {still : Prop} {s0 s : State} (h : Kept still s0 s) (p : Path) (n : Nat) (off : Nat) (a : Nat) (v : Word) : Kept still s0 (State.wPort s p n off a v) := by
  unfold State.wPort
  try dsimp only
  repeat' first | (with_reducible first | assumption | intro _ | apply State.clientSnap_kept | apply State.enableWrite_kept | apply State.forceSel_kept | apply State.portLoopWrite_kept | apply State.store_kept | apply State.whenBit_kept | apply kept_ite) | simp only [↓kept_mk_simp] | refine pair_kept (by assumption) ?_ | split | dsimp only

theorem State.wClient_kept {still : Prop} {s0 s : State} (h : Kept still s0 s) (p : Path) (a : Nat) (v : Word) : Kept still s0 (State.wClient s p a v) := by
  unfold State.wClient
  repeat' first | (with_reducible first | assumption | intro _ | apply State.store_kept | apply State.wPort_kept | apply kept_ite) | split | dsimp only

theorem State.wTimeIo_kept {still : Prop} {s0 s : State} (h : Kept still s0 s) (p : Path) (a : Nat) (v : Word) : Kept still s0 (State.wTimeIo s p a v) := by
  unfold State.wTimeIo
  try dsimp only
  repeat' first | (with_reducible first | assumption | intro _ | apply State.pulseShow_kept | apply State.set_kept | apply State.stage_kept | apply State.store_kept | apply State.tpArm_kept | apply State.tpStop_kept | apply State.whenBit_kept | apply kept_ite) | split | dsimp only

theorem State.wTime_kept {still : Prop} {s0 s : State} (h : Kept still s0 s) (p : Path) (a : Nat) (v : Word) : Kept still s0 (State.wTime s p a v) := by
  unfold State.wTime
  try dsimp only
  repeat' first | (with_reducible first | assumption | intro _ | apply State.servoStop_kept | apply State.set_kept | apply State.setB_kept | apply State.stage_kept | apply State.store_kept | apply State.timeShow_kept | apply State.took_kept | apply State.wTimeIo_kept | apply State.whenBit_kept | apply execTimeAdjCommit_kept | apply execTimeSetCommit_kept | apply kept_ite | apply kept_foldl) | split | dsimp only

theorem State.wHeadTx_kept {still : Prop} {s0 s : State} (h : Kept still s0 s) (p : Path) (a : Nat) (v : Word) : Kept still s0 (State.wHeadTx s p a v) := by
  unfold State.wHeadTx
  try dsimp only
  repeat' first | (with_reducible first | assumption | intro _ | apply State.go_kept | apply State.headlandAbort_kept | apply State.headlandDropped_kept | apply State.headlandWrite_kept | apply State.store_kept | apply State.whenBit_kept | apply kept_ite) | split | dsimp only

theorem State.wHeadIn_kept {still : Prop} {s0 s : State} (h : Kept still s0 s) (p : Path) (a : Nat) (v : Word) : Kept still s0 (State.wHeadIn s p a v) := by
  unfold State.wHeadIn
  try dsimp only
  repeat' first | (with_reducible first | assumption | intro _ | apply State.applyShifts_kept | apply State.chainReset_kept | apply State.chainsSync_kept | apply State.store_kept | apply State.whenBit_kept | apply kept_ite | apply kept_foldl) | split | dsimp only

theorem State.wHeadland_kept {still : Prop} {s0 s : State} (h : Kept still s0 s) (p : Path) (a : Nat) (v : Word) : Kept still s0 (State.wHeadland s p a v) := by
  unfold State.wHeadland
  try dsimp only
  repeat' first | (with_reducible first | assumption | intro _ | apply State.abandon_kept | apply State.applyShifts_kept | apply State.lowerShifts_kept | apply State.showSettled_kept | apply State.store_kept | apply State.took_kept | apply State.wHeadIn_kept | apply State.wHeadTx_kept | apply State.whenBit_kept | apply execPop_kept | apply kept_ite | apply kept_foldl) | split | dsimp only

theorem State.wHkadc_kept {still : Prop} {s0 s : State} (h : Kept still s0 s) (p : Path) (a : Nat) (v : Word) : Kept still s0 (State.wHkadc s p a v) := by
  unfold State.wHkadc
  try dsimp only
  repeat' first | (with_reducible first | assumption | intro _ | apply State.calCancel_kept | apply State.calFull_kept | apply State.calTakeover_kept | apply State.calZero_kept | apply State.clearDirty_kept | apply State.commitPair_kept | apply State.convertNext_kept | apply State.diagStart_kept | apply State.injGo_kept | apply State.onAdc_kept | apply State.store_kept | apply State.takePower_kept | apply State.testDacWrite_kept | apply State.whenBit_kept | apply kept_ite) | simp only [↓kept_mk_simp] | refine pair_kept (by assumption) ?_ | split | dsimp only

theorem State.wPdac_kept {still : Prop} {s0 s : State} (h : Kept still s0 s) (p : Path) (a : Nat) (v : Word) : Kept still s0 (State.wPdac s p a v) := by
  unfold State.wPdac
  try dsimp only
  repeat' first | (with_reducible first | assumption | intro _ | apply State.clearLatched_kept | apply State.dacPush_kept | apply State.spanWrite_kept | apply State.store_kept | apply State.whenBit_kept | apply kept_ite) | split | dsimp only

theorem State.wLoop_kept {still : Prop} {s0 s : State} (h : Kept still s0 s) (p : Path) (a : Nat) (v : Word) : Kept still s0 (State.wLoop s p a v) := by
  unfold State.wLoop
  repeat' first | (with_reducible first | assumption | intro _ | apply State.loopWritePath_kept | apply State.store_kept | apply State.traceRun_kept | apply kept_ite) | split | dsimp only

theorem State.wMem_kept {still : Prop} {s0 s : State} (h : Kept still s0 s) (p : Path) (a : Nat) (v : Word) : Kept still s0 (State.wMem s p a v) := by
  unfold State.wMem
  try dsimp only
  repeat' first | (with_reducible first | assumption | intro _ | apply State.guarded_kept | apply State.set_kept | apply State.store_kept | apply State.whenBit_kept | apply kept_ite) | split | dsimp only

theorem State.wCxl_kept {still : Prop} {s0 s : State} (h : Kept still s0 s) (p : Path) (a : Nat) (v : Word) (m : Ambient) : Kept still s0 (State.wCxl s p a v m) := by
  unfold State.wCxl
  try dsimp only
  repeat' first | exact (fun _ h => h) | (with_reducible first | assumption | intro _ | apply State.bump_kept | apply State.cxlViolate_kept | apply State.store_kept | apply State.took_kept | apply State.winCommand_kept | apply execCxlRetrain_kept | apply execGrant_kept | apply execRevoke_kept | apply kept_ite) | simp only [↓kept_mk_simp] | refine pair_kept (by assumption) ?_ | split | dsimp only

theorem State.swintClear_kept {still : Prop} {s0 s : State} (h : Kept still s0 s) (p : Path) (a : Nat) (v : Word) : Kept still s0 (State.swintClear s p a v) := by
  unfold State.swintClear
  try dsimp only
  repeat' first | (with_reducible first | assumption | intro _ | apply State.msix_kept | apply State.store_kept | apply kept_ite | apply kept_foldl) | split | dsimp only

theorem State.wCpu_kept {still : Prop} {s0 s : State} (h : Kept still s0 s) (p : Path) (a : Nat) (v : Word) : Kept still s0 (State.wCpu s p a v) := by
  unfold State.wCpu
  repeat' first | (with_reducible first | assumption | intro _ | apply State.guarded_kept | apply State.store_kept | apply State.swintClear_kept | apply State.took_kept | apply State.whenBit_kept | apply execCpuSwintSet_kept | apply execPloughRestart_kept | apply kept_ite) | split | dsimp only

theorem State.wUnit_kept {still : Prop} {s0 s : State} (h : Kept still s0 s) (p : Path) (u : Nat) (off : Nat) (a : Nat) (v : Word) : Kept still s0 (State.wUnit s p u off a v) := by
  unfold State.wUnit
  try dsimp only
  repeat' first | (with_reducible first | assumption | intro _ | apply State.depthClamp_kept | apply State.store_kept | apply State.tapClamp_kept | apply kept_ite) | split | dsimp only

theorem State.wSampler_kept {still : Prop} {s0 s : State} (h : Kept still s0 s) (p : Path) (c : Nat) (a : Nat) (v : Word) : Kept still s0 (State.wSampler s p c a v) := by
  unfold State.wSampler
  try dsimp only
  repeat' first | (with_reducible first | assumption | intro _ | apply State.psBegin_kept | apply State.set_kept | apply State.store_kept | apply kept_ite) | split | dsimp only

theorem State.wGlean_kept {s0 s : State} (h : Kept False s0 s) (p : Path) (a : Nat) (v : Word) (m : Ambient) : Kept False s0 (State.wGlean s p a v m) := by
  unfold State.wGlean
  repeat' first | (with_reducible first | assumption | intro _ | apply State.armCtrl_kept | apply State.recordAll_kept | apply State.stage_kept | apply State.statLoad_kept | apply State.statSnap_kept | apply State.store_kept | apply State.wSampler_kept | apply State.wUnit_kept | apply State.whenBit_kept | apply kept_ite) | split | dsimp only

theorem State.wPwr_kept {s0 s : State} (h : Kept False s0 s) (p : Path) (a : Nat) (v : Word) (m : Ambient) : Kept False s0 (State.wPwr s p a v m) := by
  unfold State.wPwr
  try dsimp only
  repeat' first | (with_reducible first | assumption | intro _ | apply State.guarded_kept | apply State.plRequest_kept | apply State.shutRequest_kept | apply State.store_kept | apply State.took_kept | apply State.voteIn_kept | apply State.whenBit_kept | apply execDomainReset_kept | apply execWakeRetry_kept | apply execWakeTimerWrite_kept | apply execWarmReset_kept | apply kept_ite) | split | dsimp only

theorem State.wCal_kept {still : Prop} {s0 s : State} (h : Kept still s0 s) (p : Path) (a : Nat) (v : Word) (m : Ambient) : Kept still s0 (State.wCal s p a v m) := by
  unfold State.wCal
  try dsimp only
  repeat' first | (with_reducible first | assumption | intro _ | apply State.store_kept | apply State.took_kept | apply execCalReload_kept | apply execCalRun_kept | apply execCalStore_kept | apply kept_ite) | simp only [↓kept_mk_simp] | refine pair_kept (by assumption) ?_ | split | dsimp only

theorem State.wBist_kept {still : Prop} {s0 s : State} (h : Kept still s0 s) (p : Path) (a : Nat) (v : Word) : Kept still s0 (State.wBist s p a v) := by
  unfold State.wBist
  try dsimp only
  repeat' first | (with_reducible first | assumption | intro _ | apply State.bistCommand_kept | apply State.bistRun_kept | apply State.hardRepair_kept | apply State.set_kept | apply State.store_kept | apply State.took_kept | apply execClearFallow_kept | apply execHardFallow_kept | apply kept_ite) | simp only [↓kept_mk_simp] | refine pair_kept (by assumption) ?_ | split | dsimp only

theorem State.wFault_kept {still : Prop} {s0 s : State} (h : Kept still s0 s) (p : Path) (a : Nat) (v : Word) : Kept still s0 (State.wFault s p a v) := by
  unfold State.wFault
  try dsimp only
  repeat' first | (with_reducible first | assumption | intro _ | apply State.faultAck_kept | apply State.store_kept | apply State.took_kept | apply State.whenBit_kept | apply execFaultTest_kept | apply kept_ite) | split | dsimp only

theorem State.gpioDriven_kept {still : Prop} {s0 s : State} (h : Kept still s0 s) : Kept still s0 (State.gpioDriven s) := by
  unfold State.gpioDriven
  repeat' first | (with_reducible first | assumption | intro _ | apply State.rawLevel_kept | apply kept_ite | apply kept_foldl) | split | dsimp only

theorem State.wPins_kept {still : Prop} {s0 s : State} (h : Kept still s0 s) (p : Path) (a : Nat) (v : Word) : Kept still s0 (State.wPins s p a v) := by
  unfold State.wPins
  try dsimp only
  repeat' first | (with_reducible first | assumption | intro _ | apply State.gpioDriven_kept | apply State.set_kept | apply State.store_kept | apply kept_ite) | split | dsimp only

theorem State.commandBytes_kept {still : Prop} {s0 s : State} (h : Kept still s0 s) (a : Nat) (bytes : List Byte) : Kept still s0 (State.commandBytes s a bytes) := by
  unfold State.commandBytes
  repeat' first | (with_reducible first | assumption | intro _ | apply State.cxlViolate_kept | apply State.set_kept | apply kept_ite | apply kept_foldl) | split | dsimp only

theorem State.wBar2_kept {still : Prop} {s0 s : State} (h : Kept still s0 s) (p : Path) (a : Nat) (v : Word) : Kept still s0 (State.wBar2 s p a v) := by
  unfold State.wBar2
  repeat' first | (with_reducible first | assumption | intro _ | apply State.commandBytes_kept | apply State.headWrite_kept | apply State.mbxGo_kept | apply State.msixRelease_kept | apply State.store_kept | apply State.whenBit_kept | apply kept_ite) | split | dsimp only

theorem State.blockWrite_kept {s0 s : State} (h : Kept False s0 s) (p : Path) (a : Nat) (v : Word) (m : Ambient) : Kept False s0 (State.blockWrite s p a v m) := by
  unfold State.blockWrite
  try dsimp only
  repeat' first | (with_reducible first | assumption | intro _ | apply State.store_kept | apply State.wBist_kept | apply State.wCal_kept | apply State.wClient_kept | apply State.wCpu_kept | apply State.wCxl_kept | apply State.wFault_kept | apply State.wFec_kept | apply State.wFurrow_kept | apply State.wGlean_kept | apply State.wHeadland_kept | apply State.wHkadc_kept | apply State.wHostLane_kept | apply State.wLine_kept | apply State.wLink_kept | apply State.wLoop_kept | apply State.wMem_kept | apply State.wPdac_kept | apply State.wPins_kept | apply State.wPlan_kept | apply State.wPwr_kept | apply State.wTime_kept) | simp only [↓kept_mk_simp] | refine pair_kept (by assumption) ?_ | split | dsimp only

theorem State.intSet_kept {still : Prop} {s0 s : State} (h : Kept still s0 s) (a : Nat) (v : Word) : Kept still s0 (State.intSet s a v) := by
  unfold State.intSet
  repeat' first | (with_reducible first | assumption | intro _ | apply State.raiseMask_kept) | dsimp only

theorem State.intWrite_kept {s0 s : State} (h : Kept False s0 s) (p : Path) (a : Nat) (v : Word) (m : Ambient) : Kept False s0 (State.intWrite s p a v m) := by
  unfold State.intWrite
  try dsimp only
  repeat' first | (with_reducible first | assumption | intro _ | apply State.blockWrite_kept | apply State.msix_kept | apply kept_ite) | split | dsimp only

theorem State.regAccepted_kept {s0 s : State} (h : Kept False s0 s) (p : Path) (a : Nat) (v : Word) (m : Ambient) : Kept False s0 (State.regAccepted s p a v m) := by
  unfold State.regAccepted
  try dsimp only
  repeat' first | (with_reducible first | assumption | intro _ | apply State.blockWrite_kept | apply State.bump_kept | apply State.intSet_kept | apply State.intWrite_kept | apply kept_ite) | simp only [↓kept_mk_simp] | refine pair_kept (by assumption) ?_ | split | dsimp only

theorem State.narrowWord_kept {still : Prop} {s0 s : State} (h : Kept still s0 s) (p : Path) (a : Nat) : Kept still s0 (State.narrowWord s p a) := by
  unfold State.narrowWord
  try dsimp only
  repeat' first | (with_reducible first | assumption | intro _ | apply State.bump_kept | apply State.downAccess_kept | apply State.raise_kept | apply State.raiseEvent_kept | apply kept_ite) | split | dsimp only

theorem State.narrowBar2_kept {still : Prop} {s0 s : State} (h : Kept still s0 s) (p : Path) (a : Nat) (bytes : List Byte) : Kept still s0 (State.narrowBar2 s p a bytes) := by
  unfold State.narrowBar2
  try dsimp only
  repeat' first | (with_reducible first | assumption | intro _ | apply State.commandBytes_kept | apply State.narrowWord_kept | apply kept_ite | apply kept_foldl) | split | dsimp only

theorem State.regWrite_kept {s0 s : State} (h : Kept False s0 s) (p : Path) (a : Nat) (v : Word) (m : Ambient) : Kept False s0 (State.regWrite s p a v m) := by
  unfold State.regWrite
  try dsimp only
  repeat' first | (with_reducible first | assumption | intro _ | apply State.narrowBar2_kept | apply State.narrowWord_kept | apply State.regAccepted_kept | apply State.rwWrite_kept | apply State.unanswered_kept | apply State.wBar2_kept | apply kept_ite | apply kept_foldl) | simp only [↓kept_mk_simp] | refine pair_kept (by assumption) ?_ | split | dsimp only

theorem State.writeWords_kept {s0 s : State} (h : Kept False s0 s) (p : Path) (a : Nat) (words : List Word) (m : Ambient) : Kept False s0 (State.writeWords s p a words m) := by
  unfold State.writeWords
  repeat' first | (with_reducible first | assumption | intro _ | apply State.regWrite_kept | apply kept_foldl) | dsimp only

theorem State.narrowWrite_kept {still : Prop} {s0 s : State} (h : Kept still s0 s) (p : Path) (a : Nat) (n : Nat) (v : Word) : Kept still s0 (State.narrowWrite s p a n v) := by
  unfold State.narrowWrite
  try dsimp only
  repeat' first | (with_reducible first | assumption | intro _ | apply State.narrowBar2_kept | apply State.narrowWord_kept | apply State.unanswered_kept | apply kept_ite | apply kept_foldl) | simp only [↓kept_mk_simp] | refine pair_kept (by assumption) ?_ | split | dsimp only

theorem State.readWord_kept {still : Prop} {s0 s : State} (h : Kept still s0 s) (p : Path) (a : Nat) : Kept still s0 (State.readWord s p a) := by
  unfold State.readWord
  try dsimp only
  repeat' first | (with_reducible first | assumption | intro _ | apply State.latch_kept | apply State.wr_kept | apply kept_ite | apply kept_foldl) | simp only [↓kept_mk_simp] | refine pair_kept (by assumption) ?_ | split | dsimp only

theorem State.regRead_kept {s0 s : State} (h : Kept False s0 s) (p : Path) (a : Nat) (upset : MemWord) : Kept False s0 (State.regRead s p a upset) := by
  unfold State.regRead
  try dsimp only
  repeat' first | (with_reducible first | assumption | intro _ | apply State.captureRead_kept | apply State.downRead_kept | apply State.readEntry_kept | apply State.readWord_kept | apply State.took_kept | apply execHkadcResultRead_kept | apply kept_ite) | simp only [↓kept_mk_simp] | refine pair_kept (by assumption) ?_ | split | dsimp only

theorem State.readBytes_kept {s0 s : State} (h : Kept False s0 s) (p : Path) (a n : Nat) (upset : MemWord) : Kept False s0 (State.readBytes s p a n upset) := by
  unfold State.readBytes
  refine kept_ite h ?_
  exact kept_leaf (kept_foldl_snd (f := fun (acc : List Byte × State) w =>
      let t := acc.2.regRead p w upset
      (acc.1 ++ leBytes 4 t.readData.toNat, t)) (fun _ _ h => State.regRead_kept h ..) h) rfl rfl rfl rfl rfl rfl rfl

theorem State.regMessageRead_kept {s0 s : State} (h : Kept False s0 s) (e : Envelope) (addr : Nat) (count : Nat) (upset : MemWord) : Kept False s0 (State.regMessageRead s e addr count upset) := by
  unfold State.regMessageRead
  try dsimp only
  repeat' first | (with_reducible first | assumption | intro _ | apply State.nak_kept | apply State.regRead_kept | apply State.reply_kept | apply State.wmp_kept | apply kept_ite | apply kept_foldl | apply kept_foldl_snd) | refine pair_kept (by assumption) ?_ | split | dsimp only

theorem State.regMessageWrite_kept {s0 s : State} (h : Kept False s0 s) (e : Envelope) (addr : Nat) (words : List Word) (m : Ambient) : Kept False s0 (State.regMessageWrite s e addr words m) := by
  unfold State.regMessageWrite
  try dsimp only
  repeat' first | exact SecKept.mk (fun _ h => h) (fun _ => Nat.le_refl _) | (with_reducible first | assumption | intro _ | apply State.done_kept | apply State.nak_kept | apply State.onSec_kept | apply State.regWrite_kept | apply State.wmp_kept | apply kept_ite | apply kept_foldl | apply kept_foldl_snd) | simp only [↓kept_mk_simp] | split | dsimp only

theorem execRegisterWrite_kept {s0 s : State} (h : Kept False s0 s) (path : Path) (addr : Nat) (value : Word) (amb : Ambient) : KeptO False s0 (execRegisterWrite path addr value amb s) := by
  unfold execRegisterWrite
  repeat' first | (with_reducible first | assumption | intro _ | apply State.regWrite_kept | apply State.writeWords_kept | apply KeptO.next) | dsimp only

theorem execNarrowWrite_kept {still : Prop} {s0 s : State} (h : Kept still s0 s) (path : Path) (addr : Nat) (n : Fin 3) (value : Word) : KeptO still s0 (execNarrowWrite path addr n value s) := by
  unfold execNarrowWrite
  repeat' first | (with_reducible first | assumption | intro _ | apply State.narrowWrite_kept | apply KeptO.next) | dsimp only

theorem execRcRead_kept {s0 s : State} (h : Kept False s0 s) (path : Path) (addr : Nat) (n : Fin 4096) (upset : MemWord) : KeptO False s0 (execRcRead path addr n upset s) := by
  unfold execRcRead
  repeat' first | (with_reducible first | assumption | intro _ | apply State.readBytes_kept | apply KeptO.next) | dsimp only

theorem execWideLowRead_kept {s0 s : State} (h : Kept False s0 s) (path : Path) (addr : Nat) (n : Fin 4096) (upset : MemWord) : KeptO False s0 (execWideLowRead path addr n upset s) := by
  unfold execWideLowRead
  repeat' first | (with_reducible first | assumption | intro _ | apply State.readBytes_kept | apply KeptO.next) | dsimp only

theorem execWideLowerWrite_kept {s0 s : State} (h : Kept False s0 s) (path : Path) (addr : Nat) (value : Word) (amb : Ambient) : KeptO False s0 (execWideLowerWrite path addr value amb s) := by
  unfold execWideLowerWrite
  repeat' first | (with_reducible first | assumption | intro _ | apply State.regWrite_kept | apply State.writeWords_kept | apply KeptO.next) | dsimp only

theorem execWideUpperWrite_kept {s0 s : State} (h : Kept False s0 s) (path : Path) (addr : Nat) (value : Word) (amb : Ambient) : KeptO False s0 (execWideUpperWrite path addr value amb s) := by
  unfold execWideUpperWrite
  repeat' first | (with_reducible first | assumption | intro _ | apply State.regWrite_kept | apply KeptO.next) | dsimp only

theorem execIntSetWrite_kept {s0 s : State} (h : Kept False s0 s) (path : Path) (addr : Nat) (value : Word) (amb : Ambient) : KeptO False s0 (execIntSetWrite path addr value amb s) := by
  unfold execIntSetWrite
  repeat' first | (with_reducible first | assumption | intro _ | apply State.regWrite_kept | apply KeptO.next) | dsimp only

theorem execIntStatusWrite_kept {s0 s : State} (h : Kept False s0 s) (path : Path) (addr : Nat) (value : Word) (amb : Ambient) : KeptO False s0 (execIntStatusWrite path addr value amb s) := by
  unfold execIntStatusWrite
  repeat' first | (with_reducible first | assumption | intro _ | apply State.regWrite_kept | apply KeptO.next) | dsimp only

theorem execDownRegisterAccess_kept {s0 s : State} (h : Kept False s0 s) (path : Path) (addr : Nat) (write : Bool) (n : Fin 4) : KeptO False s0 (execDownRegisterAccess path addr write n s) := by
  unfold execDownRegisterAccess
  repeat' first | (with_reducible first | assumption | intro _ | apply State.downAccess_kept | apply State.narrowWrite_kept | apply State.readBytes_kept | apply State.unanswered_kept | apply KeptO.next | apply kept_iteO | apply kept_ite) | split | dsimp only

theorem execRegRead_kept {s0 s : State} (h : Kept False s0 s) (e : Envelope) (addr : Word) (count : Fin 256) (upset : MemWord) : KeptO False s0 (execRegRead e addr count upset s) := by
  unfold execRegRead
  repeat' first | (with_reducible first | assumption | intro _ | apply State.regMessageRead_kept | apply State.wmp_kept | apply KeptO.next) | dsimp only

theorem execRegWrite_kept {s0 s : State} (h : Kept False s0 s) (e : Envelope) (addr : Word) (words : List Word) (amb : Ambient) : KeptO False s0 (execRegWrite e addr words amb s) := by
  unfold execRegWrite
  repeat' first | (with_reducible first | assumption | intro _ | apply State.regMessageWrite_kept | apply State.wmp_kept | apply KeptO.next | apply kept_iteO | apply kept_ite) | split | dsimp only

theorem State.idleSecond_kept {still : Prop} {s0 s : State} (h : Kept still s0 s) (p : Nat) : Kept still s0 (State.idleSecond s p) := by
  unfold State.idleSecond
  repeat' first | (with_reducible first | assumption | intro _ | apply State.sessionEnd_kept | apply State.set_kept | apply kept_ite) | split | dsimp only

theorem State.lockoutSecond_kept {still : Prop} {s0 s : State} (h : Kept still s0 s) (r : Nat) : Kept still s0 (State.lockoutSecond s r) := by
  unfold State.lockoutSecond
  repeat' first | (with_reducible first | assumption | intro _ | apply State.set_kept) | dsimp only

theorem State.trialSecond_kept {still : Prop} {s0 s : State} (h : Kept still s0 s) : Kept still s0 (State.trialSecond s) := by
  unfold State.trialSecond
  try dsimp only
  repeat' first | (with_reducible first | assumption | intro _ | apply State.fwRevert_kept | apply State.set_kept) | simp only [↓kept_mk_simp] | refine pair_kept (by assumption) ?_ | split | dsimp only

theorem State.ageSecond_kept {still : Prop} {s0 s : State} (h : Kept still s0 s) (n : Nat) : Kept still s0 (State.ageSecond s n) := by
  unfold State.ageSecond
  repeat' first | (with_reducible first | assumption | intro _ | apply State.setSat_kept | apply kept_ite) | split | dsimp only

theorem State.second_kept {still : Prop} {s0 s : State} (h : Kept still s0 s) : Kept still s0 (State.second s) := by
  unfold State.second
  try dsimp only
  repeat' first | exact SecKept.mk (fun _ h => h) (fun _ => Nat.le_refl _) | exact burnSecond_kept _ _ | (with_reducible first | assumption | intro _ | apply State.ageSecond_kept | apply State.calSecond_kept | apply State.clockSecond_kept | apply State.idleSecond_kept | apply State.lockoutSecond_kept | apply State.onSec_kept | apply State.statAdd_kept | apply State.trialSecond_kept | apply kept_ite | apply kept_foldl) | simp only [↓kept_mk_simp] | split | dsimp only

end Sys2Proof.Machine
end

