-- ==== Sys2Proof/Laws/Link.lean ====
section
/-!
SUPPORT. What the link manager's gate does: it acts while Plough is RUNNING and is frozen otherwise (R279, R296, R297).
-/
namespace Sys2Proof.Machine

theorem managed_running {s : State} (h : s.cpu = 2) (k : State → State) : s.managed k = k s := by
  simp [State.managed, h]

theorem managed_frozen {s : State} (h : s.cpu ≠ 2) (k : State → State) : s.managed k = s := by
  simp [State.managed, h]

/-- The gate adds nothing: an outcome of a managed effect is the effect's, or the state itself. -/
theorem managed_cases (s : State) (k : State → State) :
    (s.cpu = 2 ∧ s.managed k = k s) ∨ (s.cpu ≠ 2 ∧ s.managed k = s) := by
  by_cases h : s.cpu = 2
  · exact .inl ⟨h, managed_running h k⟩
  · exact .inr ⟨h, managed_frozen h k⟩

end Sys2Proof.Machine
end

