-- ==== Sys2Proof/Machine/HeadlandWave.lean ====
section
/-!
DEFINITION. The headland modem's waveform (R205, R206, R209), exact over the reals. No command's outcome depends on it: what a packet does
to State is in HeadlandOps and Headland. The Gaussian pulse is cut at 3 symbols and not rescaled (log 72).
-/
namespace Sys2Proof.Machine

/-- The centre of subcarrier n, Hz (R205). -/
noncomputable def hlCentre (n : ℕ) : ℝ := 150000 + 30000 * n

/-- The symbols of a packet, each byte most significant bit first (R206). -/
def hlBits (packet : List Byte) : List Bool := packet.flatMap fun b => (List.range 8).map fun i => b.toNat / 2 ^ (7 - i) % 2 = 1

/-- The impulse response of a Gaussian filter of BT = 0.5 for symbols of 0.5 ms. -/
noncomputable def gaussian (t : ℝ) : ℝ :=
  let B : ℝ := 1000
  Real.sqrt (2 * Real.pi / Real.log 2) * B * Real.exp (-(2 * (Real.pi * B * t) ^ 2) / Real.log 2)

/-- The frequency pulse: NRZ through that filter, truncated to 3 symbols about its middle (R205). -/
noncomputable def freqPulse (t : ℝ) : ℝ :=
  if |t| ≤ 0.00075 then ∫ u in (t - 0.00025)..(t + 0.00025), gaussian u else 0

/-- The frequency offset at time t after the first symbol's start: ±500 Hz by the bits (R205). -/
noncomputable def hlFrequency (bits : List Bool) (t : ℝ) : ℝ :=
  ∑ i ∈ Finset.range bits.length, (if nth bits i false then 500 else -500) * freqPulse (t - (i + 0.5) * 0.0005)

/-- The ramp envelope of a packet of `n` symbols: raised cosines of 4 symbols before and after it (R209). -/
noncomputable def hlEnvelope (n : ℕ) (t : ℝ) : ℝ :=
  let len : ℝ := n * 0.0005
  if t < -0.002 ∨ len + 0.002 < t then 0
  else if t < 0 then (1 + Real.cos (Real.pi * t / 0.002)) / 2
  else if t ≤ len then 1
  else (1 + Real.cos (Real.pi * (t - len) / 0.002)) / 2

/-- h(t) = A(t) cos(2π f_n t + φ(t)), time from the first symbol; the ramps carry the unmodulated tone (R209). -/
noncomputable def hlWave (sub : ℕ) (packet : List Byte) (t : ℝ) : ℝ :=
  let bits := hlBits packet
  let len : ℝ := bits.length * 0.0005
  hlEnvelope bits.length t
    * Real.cos (2 * Real.pi * hlCentre sub * t + 2 * Real.pi * ∫ u in (0 : ℝ)..(max 0 (min t len)), hlFrequency bits u)

/-- What LOOP feeds to the chains at sample n of the 1 MSa/s: h at 2,048 × applied depth codes (R221). -/
noncomputable def State.hlLoopSample (s : State) (c : Carrier) (sub : ℕ) (packet : List Byte) (n : ℤ) : ℝ :=
  2048 * ((s.get (F.FURROW_TX_HL.APPLIED c) : ℝ) / 1000) * hlWave sub packet (n / 1000000)

/-- A packet of LENGTH payload bytes takes 104 + 8 × LENGTH symbols (R206). -/
theorem hlBits_packetOf (sync : Word) (payload : List Byte) : (hlBits (packetOf sync payload)).length = 104 + 8 * payload.length := by
  have whitenFrom_length : ∀ (bs : List Byte) (r : Nat), (whitenFrom r bs).length = bs.length := by
    intro bs
    induction bs with
    | nil => intro r; rfl
    | cons b bs ih => intro r; simp [whitenFrom, ih]
  simp [hlBits, List.length_flatMap, packetOf, whiten, whitenFrom_length, beBytes]
  omega

end Sys2Proof.Machine
end

