-- ==== Sys2Proof/Machine/TxSignal.lean ====
section
/-!
DEFINITION. The transmitted waveform (R76 to R86): symbols to DAC codes in the order of Table 4.3, exact over the reals, read from the
registers and applied values of State. No command's outcome depends on it: what the samples do to State are the counts and states of
Transmit. Ideal filters and delays of unlimited length stand for the part's own (log 72).
-/
namespace Sys2Proof.Machine

/-! ### Symbols of the line (rows 1 to 3 of Table 4.3) -/

/-- The point of a symbol: scaled by 1/√E_s (R79). -/
noncomputable def Symbol.point (x : Symbol) : ℂ := ((x.i : ℂ) + Complex.I * (x.q : ℂ)) / (Real.sqrt ((x.energy.1 : ℝ) / (x.energy.2 : ℝ)) : ℂ)

/-- The symbol at position G on a polarisation (0 X, 1 Y): pilot, overhead or payload (R95 to R97, R106). Subcarriers as (base, ENTROPY);
`bytes` gives a frame's overhead, `label` the bit of a label slot. -/
def lineSymbol (subs : List (Nat × Nat)) (bytes : Nat → List Byte) (label : Slot → Bool) (g p : Nat) : Symbol :=
  let count := subs.length
  let s := g % count
  let (base, e) := nth subs s (0, 64)
  if isPilot count g then pilotSymbol s p (g / count / 64)
  else if isPayload count g then
    payloadSymbol base (symbolEnergy base e) (((slotsAt base g).filter fun x => x.y = (p = 1)).map label)
  else overheadSymbol (bytes (g / framePositions)) ((overheadPositions count (g / framePositions)).idxOf g) p

/-- Every label slot of a LINE_TEST carrier without an FEC record takes the generator's next bit (R108); `gen` is the LT_GEN pattern, which
the spec does not give (`Config.lineTest`). -/
def patternLabel (bases : List Nat) (gen : Nat → Bool) (x : Slot) : Bool :=
  gen (((labelStream bases (x.g + 1)).findIdx? (· = x)).getD 0)

/-- The bit of a label slot of a carrier (rows 1 and 2): from the multiframes sent since the cold apply, matched, coded and placed (R77, R105 to
R108). Without an FEC record it is the LT_GEN pattern's. -/
def State.lineLabel (s : State) (c : Carrier) (x : Slot) : Bool :=
  let bases := (s.runSubs c).map (·.base)
  match s.runFec c with
  | none => patternLabel bases (Config.lineTest c) x
  | some f =>
    let slots := labelStream bases ((x.g / framePositions + 2) * framePositions)
    let i := slots.idxOf x
    encodeBlock f.code ((s.line.at c).info f.code) (i / blockBits) (blockBit f.code slots i)

/-- The multiframe sent that holds a position, counted since the cold apply. -/
def LineSt.mfAt (l : LineSt) (g : Nat) : Option TxMf :=
  l.mfs.find? fun m => m.first ≤ g / framePositions && g / framePositions < m.first + m.frames

/-- The symbol that a carrier sends at position G on a polarisation (row 3): of the multiframe that holds it, with its entropies and its frames'
overhead (R79, R96, R97, R106). -/
def State.symbolAt (s : State) (c : Carrier) (g p : Nat) : Option Symbol :=
  ((s.line.at c).mfAt g).map fun m => lineSymbol m.subs (fun f => nth m.overhead (f - m.first) []) (s.lineLabel c) g p

/-! ### Subcarrier synthesis (rows 4 and 5) -/

/-- The symbol rate of a carrier in Hz, and Fs = 9/8 of it. -/
noncomputable def State.symbolRate (s : State) (c : Carrier) : ℝ := (((s.runCarrier c).map (·.rate)).getD 0 : ℕ) * 250000000
noncomputable def State.sampleRate (s : State) (c : Carrier) : ℝ := 9 / 8 * s.symbolRate c

/-- ρ_eff (R81). -/
noncomputable def State.rollOff (s : State) (c : Carrier) : ℝ := (s.get (F.FURROW_TX_ROLL_OFF.EFFECTIVE c) : ℝ) / 1000

/-- The subcarrier spacing Δ = (Rs / COUNT) (1 + ρ_eff) (R81). -/
noncomputable def State.spacing (s : State) (c : Carrier) : ℝ := s.symbolRate c / s.subCount c * (1 + s.rollOff c)

/-- The centre of subcarrier k from the carrier centre: (k − (COUNT − 1) / 2) Δ (R81). -/
noncomputable def State.subCentre (s : State) (c : Carrier) (k : ℕ) : ℝ := (k - ((s.subCount c : ℝ) - 1) / 2) * s.spacing c

/-- The root-raised-cosine amplitude response of roll-off ρ for symbols of period T, 1 in its flat part. -/
noncomputable def rrcResponse (ρ T f : ℝ) : ℝ :=
  if |f| ≤ (1 - ρ) / (2 * T) then 1
  else if |f| ≤ (1 + ρ) / (2 * T) then Real.sqrt ((1 + Real.cos (Real.pi * T / ρ * (|f| - (1 - ρ) / (2 * T)))) / 2)
  else 0

/-- The pulse of that response at time t, T at its spectrum's flat part. -/
noncomputable def rrcPulse (ρ T t : ℝ) : ℝ :=
  T * ∫ f in (-(1 + ρ) / (2 * T))..((1 + ρ) / (2 * T)), rrcResponse ρ T f * Real.cos (2 * Real.pi * f * t)

/-- K = √(COUNT / Σ 10^(o / 10)) over the applied offsets, recomputed at every step (R82). -/
noncomputable def State.powerScale (s : State) (c : Carrier) : ℝ :=
  Real.sqrt (s.subCount c / ∑ k ∈ Finset.range (s.subCount c), (10 : ℝ) ^ ((s.getS (F.FURROW_TX_SC_POWER.APPLIED c k) : ℝ) / 100))

/-- g of subcarrier k: K × 10^(o / 20), APPLIED in 0.1 dB (R82). -/
noncomputable def State.powerGain (s : State) (c : Carrier) (k : ℕ) : ℝ :=
  s.powerScale c * (10 : ℝ) ^ ((s.getS (F.FURROW_TX_SC_POWER.APPLIED c k) : ℝ) / 200)

/-- Sample n of a polarisation of the carrier: each subcarrier's symbols `a k i`, i = 0 at time 0, shaped, placed at its centre and scaled
(R81, R82). -/
noncomputable def State.synthesis (s : State) (c : Carrier) (a : ℕ → ℤ → ℂ) (n : ℤ) : ℂ :=
  let t : ℝ := n / s.sampleRate c
  let T : ℝ := s.subCount c / s.symbolRate c
  ∑ k ∈ Finset.range (s.subCount c),
    s.powerGain c k * Complex.exp (2 * Real.pi * Complex.I * (s.subCentre c k * t : ℝ)) * ∑' i : ℤ, a k i * (rrcPulse (s.rollOff c) T (t - i * T) : ℂ)

/-- Symbol i of a subcarrier on a polarisation: that of position COUNT × i + k (R95); no signal outside what has been sent. -/
noncomputable def State.subSymbol (s : State) (c : Carrier) (p k : ℕ) (i : ℤ) : ℂ :=
  if i < 0 then 0 else ((s.symbolAt c (s.subCount c * i.toNat + k) p).map Symbol.point).getD 0

/-- Sample n of a polarisation's field after synthesis (rows 1 to 5), time 0 at the first symbol since the cold apply. -/
noncomputable def State.lineField (s : State) (c : Carrier) (p : ℕ) (n : ℤ) : ℂ := s.synthesis c (s.subSymbol c p) n

/-! ### Headland injection and correction (rows 6 to 10) -/

/-- The factor on every sample of all four tributaries for the modem's h: √(1 + m h), m = applied DEPTH / 1,000, which HL_INJECT = 0 brings
to 0 (R85). -/
noncomputable def State.injectGain (s : State) (c : Carrier) (h : ℝ) : ℝ :=
  Real.sqrt (1 + (s.get (F.FURROW_TX_HL.APPLIED c) : ℝ) / 1000 * h)

/-- The tributaries of a polarisation (0 X, 1 Y) after IQ correction: Q multiplied by 1 + GAIN 2^−14 and rotated by PHASE 2^−14 rad against
I, as the part of a field I + j (1 + g) e^(jφ) Q (R83; DEDUCED, log 72). -/
noncomputable def State.iqCorrected (s : State) (c : Carrier) (p : ℕ) (i q : ℝ) : ℝ × ℝ :=
  let g : ℝ := 1 + (nth (s.tx.at c).iq (2 * p) 0 : ℝ) / 2 ^ 14
  let φ : ℝ := (nth (s.tx.at c).iq (2 * p + 1) 0 : ℝ) / 2 ^ 14
  (i - g * Real.sin φ * q, g * Real.cos φ * q)

/-- The clip level of a tributary of a given RMS: RMS × 10^(CLIP_RATIO / 200) (R84). -/
noncomputable def State.clipLevel (s : State) (c : Carrier) (rms : ℝ) : ℝ := rms * (10 : ℝ) ^ (((s.tx.at c).clipRatio : ℝ) / 200)

/-- Pre-distortion of a tributary normalised to ±1 at the clip level: (2 / (π μ)) arcsin(x sin(π μ / 2)), μ = MOD_INDEX / 256; PD_BYPASS
passes x (R83). -/
noncomputable def State.predistorted (s : State) (c : Carrier) (x : ℝ) : ℝ :=
  let μ : ℝ := ((s.tx.at c).modIndex : ℝ) / 256
  if (s.tx.at c).pdBypass then x else 2 / (Real.pi * μ) * Real.arcsin (x * Real.sin (Real.pi * μ / 2))

/-- Tap t of set j of the active response set, 1.0 = 0x2000 (R83). -/
noncomputable def State.respTap (s : State) (c : Carrier) (j t : ℕ) : ℝ :=
  let w := nth (s.tx.at c).resp (17 * j + t / 2) 0
  ((toSigned 16 (if t % 2 = 0 then bitsOf w 15 0 else bitsOf w 31 16) : ℤ) : ℝ) / 8192

/-- b of the pre-emphasis filter: (10^(BOOST / 200) − 1) / 4 (R83). -/
noncomputable def State.boostTap (s : State) (c : Carrier) : ℝ := ((10 : ℝ) ^ (((s.tx.at c).boost : ℝ) / 200) - 1) / 4

/-- A tributary after the 33-tap set convolved with [−b, 1 + 2b, −b], centre taps in place, all 35 products kept (DESIGN CHOICE, log 72: the
rule calls the result a 33-tap FIR); RESP_BYPASS passes it (R83). -/
noncomputable def State.responded (s : State) (c : Carrier) (j : ℕ) (x : ℤ → ℝ) (n : ℤ) : ℝ :=
  let b := s.boostTap c
  let y (m : ℤ) : ℝ := (1 + 2 * b) * x m - b * x (m - 1) - b * x (m + 1)
  if (s.tx.at c).respBypass then x n else ∑ t ∈ Finset.range 33, s.respTap c j t * y (n + 16 - t)

/-- The normalised sinc. -/
noncomputable def sincPi (t : ℝ) : ℝ := if t = 0 then 1 else Real.sin (Real.pi * t) / (Real.pi * t)

/-- A stream delayed by d samples, as a band-limited signal is (log 72). -/
noncomputable def delayed (x : ℤ → ℝ) (d : ℝ) (n : ℤ) : ℝ := ∑' m : ℤ, x m * sincPi (n - d - m)

/-- A tributary after skew correction: 1/256 sample steps of the applied skew (R83). -/
noncomputable def State.txSkewed (s : State) (c : Carrier) (j : ℕ) (x : ℤ → ℝ) (n : ℤ) : ℝ :=
  delayed x ((nth (s.tx.at c).skew j 0 : ℝ) / 256) n

/-! ### Ramps and quantisation (row 11) -/

/-- The factor of the transmitter's ramp: raised-cosine in how far it has come, 1 when ON and 0 when OFF (R86). -/
noncomputable def State.rampGain (s : State) (c : Carrier) : ℝ :=
  match s.txState c with
  | 0 => 0
  | 2 => 1
  | _ => (1 - Real.cos (Real.pi * ((s.tx.at c).ramp : ℝ) / s.rampFull c)) / 2

/-- The nearest integer, the lower of two (R9). -/
noncomputable def nearest (x : ℝ) : ℤ := ⌈x - 1 / 2⌉

/-- Whether a sample at v times the clip level is clipped (R84). -/
def clipsAt (v : ℝ) : Prop := 127 < |127 * v|

/-- The code of a sample at v times the clip level: within ±127, so never −128 (R84). -/
noncomputable def dacCode (v : ℝ) : ℤ := max (-127) (min 127 (nearest (127 * v)))

/-- Sample n of a tributary (0 XI, 1 XQ, 2 YI, 3 YQ) as sent: the stages of TX_CORR in the order of Table 4.3 on the two polarisations' fields
`x`, with the modem's baseband h and each tributary's RMS before them. In OFF, and for a block missing in the queue, the DACs send code 0
(R76, R86). -/
noncomputable def State.dacSample (s : State) (c : Carrier) (x : ℕ → ℤ → ℂ) (h : ℤ → ℝ) (rms : ℕ → ℝ) (missing : ℤ → Prop) (j : ℕ) (n : ℤ) : ℤ :=
  let field (m : ℤ) : ℂ := (s.rampGain c * s.injectGain c (h m) : ℝ) * x (j / 2) m
  let trib (m : ℤ) : ℝ :=
    let iq := s.iqCorrected c (j / 2) (field m).re (field m).im
    if j % 2 = 0 then iq.1 else iq.2
  let pre (m : ℤ) : ℝ := s.predistorted c (trib m / s.clipLevel c (rms j))
  open Classical in
  if s.txState c = 0 ∨ missing n then 0 else dacCode (s.txSkewed c j (s.responded c j pre) n)

/-- Sample n of a tributary as sent, all eleven rows of Table 4.3 in order: the line's own symbols, synthesis, headland injection, correction and
quantisation (R76). -/
noncomputable def State.lineSample (s : State) (c : Carrier) (h : ℤ → ℝ) (rms : ℕ → ℝ) (missing : ℤ → Prop) (j : ℕ) (n : ℤ) : ℤ :=
  s.dacSample c (s.lineField c) h rms missing j n

end Sys2Proof.Machine
end

