-- ==== Sys2Proof/Machine/RxSignal.lean ====
section
/-!
DEFINITION. What the receive stages compute on a signal (R54, R57, R63, R66 to R68, R117), exact over the reals, read from the registers
and applied values of State. No command's outcome depends on it: what the signal does to State are the counts, locks and estimates of
Receive and Line (log 72).
-/
namespace Sys2Proof.Machine

/-! ### Front end (R54) -/

/-- The mean of a stream over `n` samples from sample `a`. -/
noncomputable def meanOver (a : ℤ) (n : ℕ) (x : ℤ → ℝ) : ℝ := (∑ k ∈ Finset.range n, x (a + k)) / n

/-- A tributary (0 XI, 1 XQ, 2 YI, 3 YQ) delayed by its applied skew in 1/256 sample. -/
noncomputable def State.rxDelayed (s : State) (c : Carrier) (x : ℕ → ℤ → ℝ) (j : ℕ) : ℤ → ℝ := delayed (x j) ((nth (s.rx.at c).skew j 0 : ℝ) / 256)

/-- The field of a polarisation (0 X, 1 Y) after the front end: its two tributaries delayed, less their DC offsets, and scaled to unit mean
power; offsets and power are measured over `n` samples from `a`, which the spec leaves open (R54, R57). -/
noncomputable def State.frontEnd (s : State) (c : Carrier) (a : ℤ) (n : ℕ) (x : ℕ → ℤ → ℝ) (p : ℕ) (k : ℤ) : ℂ :=
  let ac (j : ℕ) (k : ℤ) : ℝ := s.rxDelayed c x j k - meanOver a n (s.rxDelayed c x j)
  let power := meanOver a n fun k => ac (2 * p) k ^ 2 + ac (2 * p + 1) k ^ 2
  (ac (2 * p) k + Complex.I * ac (2 * p + 1) k) / (Real.sqrt power : ℂ)

/-! ### Nonlinear compensation (R57, R58) -/

/-- Term t of a bank: words 2 t and 2 t + 1. -/
def nlcTerm (bank : Store Word) (t : Nat) : NlcTerm :=
  let w0 : Word := Store.read (fun _ => 0) bank (2 * t)
  let w1 : Word := Store.read (fun _ => 0) bank (2 * t + 1)
  ⟨toSigned 8 (bitsOf w0 7 0), toSigned 8 (bitsOf w0 15 8), toSigned 24 (bitsOf w0 31 16 + 65536 * bitsOf w1 7 0), toSigned 24 (bitsOf w1 31 8)⟩

/-- The active set. -/
def State.nlcTerms (s : State) (c : Carrier) : List NlcTerm :=
  (List.range (s.get (F.FURROW_RX_NLC_TERMS.ACTIVE c))).map (nlcTerm (s.nlcBank c true))

/-- Whether a term has M = −128, which is no coefficient. -/
def NlcTerm.divides (t : NlcTerm) : Bool := t.m = -128

/-- The self terms of a set: those before the first dividing term in form 1, all but such terms in form 0. -/
def selfTerms (joint : Bool) (ts : List NlcTerm) : List NlcTerm :=
  if joint then ts.takeWhile (!·.divides) else ts.filter (!·.divides)

/-- The cross terms of a form-1 set: those after the first dividing term; a further one of M = −128 is no coefficient either. -/
def crossTerms (joint : Bool) (ts : List NlcTerm) : List NlcTerm :=
  if joint then ((ts.dropWhile (!·.divides)).drop 1).filter (!·.divides) else []

/-- The coefficient c = (RE + j IM) 2^−20. -/
noncomputable def NlcTerm.coeff (t : NlcTerm) : ℂ := ((t.re : ℂ) + Complex.I * (t.im : ℂ)) / 2 ^ 20

/-- The sum of a list of terms at sample k: c (x[k+M−d] x*[k+M+N−d] + y[k+M−d] y*[k+M+N−d]) z[k+N]. -/
noncomputable def nlcSum (ts : List NlcTerm) (x y z : ℤ → ℂ) (d k : ℤ) : ℂ :=
  (ts.map fun t =>
    t.coeff * (x (k + t.m - d) * star (x (k + t.m + t.n - d)) + y (k + t.m - d) * star (y (k + t.m + t.n - d))) * z (k + t.n)).sum

/-- Output sample k of a polarisation: `own` and `other` are the fields of this carrier and of the other one by polarisation (0 X, 1 Y).
Bypassed, the stage passes its input (R57, R58). -/
noncomputable def State.nlcOut (s : State) (c : Carrier) (own other : ℕ → ℤ → ℂ) (p : ℕ) (k : ℤ) : ℂ :=
  let joint := s.stageRuns c [0x13]
  let g : ℂ := (s.get (F.FURROW_RX_NLC_PARAM.GAIN c) : ℂ) / 2 ^ 12
  let d := s.getS (F.FURROW_RX_NLC_PARAM.XDELAY c)
  if (s.rx.at c).bypass then own p k
  else
    own p k + g * nlcSum (selfTerms joint (s.nlcTerms c)) (own 0) (own 1) (own p) 0 k
      + g * nlcSum (crossTerms joint (s.nlcTerms c)) (other 0) (other 1) (own p) d k

/-! ### Equaliser (R63, R64) -/

/-- Output i of a subcarrier's filter bank at tap-spaced sample k: Σ over inputs j and taps t of h(i, j)[t] x_j[k + 16 − t]. -/
noncomputable def State.equalised (s : State) (c : Carrier) (sub : ℕ) (x : ℕ → ℤ → ℝ) (i : ℕ) (k : ℤ) : ℝ :=
  ∑ j ∈ Finset.range 4, ∑ t ∈ Finset.range 33, (tapOf (nth (s.rx.at c).tapLive sub []) (4 * i + j) t : ℝ) / 8192 * x j (k + 16 - t)

/-- The magnitude of the correlation of the X and Y outputs over `n` samples from `a`; over 0.9 the subcarrier is singular (R63). -/
noncomputable def outputCorrelation (a : ℤ) (n : ℕ) (x y : ℤ → ℂ) : ℝ :=
  ‖∑ k ∈ Finset.range n, x (a + k) * star (y (a + k))‖
    / Real.sqrt ((∑ k ∈ Finset.range n, ‖x (a + k)‖ ^ 2) * ∑ k ∈ Finset.range n, ‖y (a + k)‖ ^ 2)

/-! ### Clock and phase recovery (R66, R67) -/

/-- The clock loop's bandwidth in Hz: 0.25 MHz × 2^BW (R66). -/
def State.clockBandwidth (s : State) (c : Carrier) : Nat := 250000 * 2 ^ s.get (F.FURROW_RX_CLK_CTRL.BW c)

/-- The pilots of a subcarrier and polarisation as received, the known symbol removed, averaged over PILOT_AVG of them: pilot m and those before
it. `r` gives the received symbols by own index, `pilot` the sent ones (R67; the place of the window is DESIGN CHOICE, log 72). -/
noncomputable def State.pilotMean (s : State) (c : Carrier) (r : ℤ → ℂ) (pilot : ℤ → ℂ) (m : ℤ) : ℂ :=
  (∑ k ∈ Finset.range (s.get (F.FURROW_RX_CPR_CTRL.PILOT_AVG c)), r (64 * (m - k)) * star (pilot (m - k))) / (s.get (F.FURROW_RX_CPR_CTRL.PILOT_AVG c) : ℕ)

/-- The pilot phase at own index i: at a pilot that of the average, between two pilots interpolated along the shorter way (R67; linear,
DESIGN CHOICE, log 72). -/
noncomputable def State.pilotPhase (s : State) (c : Carrier) (r : ℤ → ℂ) (pilot : ℤ → ℂ) (i : ℤ) : ℝ :=
  let m := i / 64
  let z := s.pilotMean c r pilot m
  Complex.arg z + ((i % 64 : ℤ) : ℝ) / 64 * Complex.arg (s.pilotMean c r pilot (m + 1) * star z)

/-- The decision-directed refinement of DD_MODE: a measured phase limited to ±π/8 around the pilot phase (R67). -/
noncomputable def State.refined (s : State) (c : Carrier) (pilot measured : ℝ) : ℝ :=
  if s.on (F.FURROW_RX_CPR_CTRL.DD_MODE c) then pilot + max (-(Real.pi / 8)) (min (Real.pi / 8) (measured - pilot)) else pilot

/-- A symbol with its phase removed. -/
noncomputable def derotated (r : ℂ) (phase : ℝ) : ℂ := r * Complex.exp (-(Complex.I * phase))

/-- The multiple of π/2 by which the unwrapped decision-directed phase differs from the pilot phase; not 0 is a cycle slip (R67). -/
noncomputable def slipTurns (pilot dd : ℝ) : ℤ := nearest ((pilot - dd) / (Real.pi / 2))

/-- The 63 held symbols after a slip: turned by the multiple of π/2 before they reach the demapper (R67). -/
noncomputable def slipCorrected (held : List ℂ) (turns : ℤ) : List ℂ := held.map (· * Complex.exp (-(Complex.I * (turns * (Real.pi / 2) : ℝ))))

/-! ### Demapping (R68) -/

/-- The labels of one polarisation's symbol: `m` bits. -/
def labelsOf : Nat → List (List Bool)
  | 0 => [[]]
  | m + 1 => (labelsOf m).flatMap fun l => [false :: l, true :: l]

/-- The prior of a symbol of a base at an ENTROPY: the product of its axes' amplitude priors, signs equally likely (R68). -/
noncomputable def symbolPrior (base entropy : Nat) (x : Symbol) : ℝ :=
  let ps : List (ℕ × ℕ) := amplitudePrior base entropy
  let total : ℕ := (ps.map (·.2)).foldl (· + ·) 0
  let axis (v : Int) : ℝ := match ps.find? (fun p => p.1 = v.natAbs) with
    | some p => (p.2 : ℝ) / (2 * total)
    | none => 1 / 2
  axis x.i * axis x.q

/-- The terms P(s) exp(−|r − s|² / σ²) of the symbols whose bit i has a value. -/
noncomputable def llrTerms (base entropy : Nat) (r : ℂ) (σ2 : ℝ) (i : Nat) (b : Bool) : List ℝ :=
  ((labelsOf (baseBits base)).filter fun l => nth l i false = b).map fun l =>
    let x := payloadSymbol base (symbolEnergy base entropy) l
    symbolPrior base entropy x * Real.exp (-(‖r - x.point‖ ^ 2) / σ2)

/-- The log-likelihood ratio of bit i: over sums of terms, or over their largest with METRIC = 1 (R68). -/
noncomputable def State.llr (s : State) (c : Carrier) (base entropy : Nat) (r : ℂ) (σ2 : ℝ) (i : Nat) : ℝ :=
  let side (b : Bool) : ℝ :=
    let ts := llrTerms base entropy r σ2 i b
    if s.on (F.FURROW_RX_DEMAP_CTRL.METRIC c) then ts.foldr max 0 else ts.sum
  Real.log (side false) - Real.log (side true)

/-- An LLR as it leaves the stage: scaled by LLR_SCALE / 16, or by a scale set from σ² when that is 0, to 6 bits, −31 to +31 (R68). `auto` is
the automatic scale, which the spec does not give. -/
noncomputable def State.llrOut (s : State) (c : Carrier) (auto : ℝ → ℝ) (σ2 l : ℝ) : ℤ :=
  let k := s.get (F.FURROW_RX_DEMAP_CTRL.LLR_SCALE c)
  max (-31) (min 31 (nearest ((if k = 0 then auto σ2 else (k : ℝ) / 16) * l)))

/-- Two blocks before the first of a running chain are decoded as erased: every LLR 0 (R117). -/
def chainLlrs (first : Nat) (llrs : Nat → Nat → Int) (t n : Nat) : Int := if t < first then 0 else llrs t n

end Sys2Proof.Machine
end

