-- ==== Sys2Proof/Tests/Slice0.lean ====
section
/-!
SUPPORT. Tests: ill-formed commands, the spec's worked examples, single steps; and for every statement with hypotheses a state and
operands that meet them.
-/
set_option Elab.async false

namespace Sys2Proof.Tests
open Sys2Proof Sys2Proof.Machine

/-! ### Ill-formed commands are refused (WellFormed) -/

theorem test_wf_address : (Instr.registerWrite .cxl 0x4010000 0 ⟨[], ⟨[], [], 0⟩, 0, 0, 0, 0, [], [], 0⟩).wf = false := by decide
theorem test_wf_envelope : (Instr.fwVerify ⟨0, 0x20, 1, 9, 1, []⟩).wf = false := by decide
theorem test_wf_envelope_good : (Instr.fwVerify ⟨0, 0x20, 1, 9, 1, List.replicate 32 0⟩).wf = true := by decide
theorem test_wf_chunk : (Instr.planChunk ⟨0, 0x20, 1, 9, 1, []⟩ 0 [1]).wf = false := by decide
theorem test_wf_plan : planSized (List.replicate 8 0) = true := by decide
theorem test_wf_multiframe : (Instr.switchStart 0x1000000).wf = false := by decide
theorem test_wf_tributaries : perTributary [1, 2, 3] = false := by decide
theorem test_wf_subcarriers : (Instr.stepRequest ⟨0, 0x20, 1, 9, 1, List.replicate 32 0⟩ 0 [1]).wf = false := by decide
theorem test_wf_overhead : (Instr.overheadReceived .A [0]).wf = false := by decide
theorem test_wf_cell : (Instr.mccCellReceived .A [0]).wf = false := by decide
theorem test_wf_tag : tagged 0x10000 = false := by decide
theorem test_wf_nak_code : (Instr.nakReceived .A 1 256 0).wf = false := by decide
theorem test_wf_packet : packetSized (List.replicate 61 0) = false := by decide
theorem test_wf_key : (Instr.setRoleKey ⟨0, 0x20, 1, 9, 1, List.replicate 32 0⟩ 1 [1]).wf = false := by decide
theorem test_wf_marks : (Instr.gleanFireNEdge []).wf = false := by decide
theorem test_wf_degrees : (Instr.calStore .cxl 0 128 0).wf = false := by decide

/-! ### Examples of the spec -/

/-- Example under R14: without the latch the two halves of the counter would not fit together. -/
def wideAt (lo hi : Word) (s : State) : State :=
  (s.wr (R.FEC_CORR_BITS_LO .B) lo).wr (R.FEC_CORR_BITS_HI .B) hi
theorem test_wide_read_low :
    (((wideAt 0xFFFFFFFE 1 (State.reset.set (F.PWR_DOM_STATUS.STATE 20) 3)).regRead .cxl (R.FEC_CORR_BITS_LO .B) 0).readData) = 0xFFFFFFFE := by
  decide +kernel
theorem test_wide_read_shadow :
    ((wideAt 3 2 ((wideAt 0xFFFFFFFE 1 (State.reset.set (F.PWR_DOM_STATUS.STATE 20) 3)).regRead .cxl (R.FEC_CORR_BITS_LO .B) 0)).regRead
      .cxl (R.FEC_CORR_BITS_HI .B) 0).readData = 1 := by decide +kernel

/-- Example under R57: a self term in the two words of the shadow window. -/
theorem test_nlc_words : nlcWords [⟨2, -1, -16384, 8192⟩] = [(0, 0xC000FF02), (1, 0x002000FF)] := by decide +kernel

/-- Examples under R69: 280 GBd with SNR 13.00 dB and SNR_TRX 20.00 dB; a pre-FEC BER of 2.0e-2. -/
theorem test_osnr : osnrOf 0x0D00 0x1400 1120 = some 7032 := by decide +kernel
theorem test_q : qOf 85899346 = some 1600 := by decide +kernel

/-- Example under R104: L27, c = 10 and j = 1. -/
theorem test_row_group : rowGroup 2 1 10 = 55 := by decide +kernel
theorem test_row_shift : rowShift 1 10 = 81 := by decide +kernel

/-- Worked figures of the reference link (chapter 5): the block pointers of frames 1 and 2. -/
theorem test_fec_ptr_1 : fecPtr 2056192 = 55808 := by decide
theorem test_fec_ptr_2 : fecPtr 4112384 = 15616 := by decide

/-- Example under R146: V = 3, 1, 0, 2. -/
theorem test_precode : precode 0 [3, 1, 0, 2] = [3, 2, 2, 0] := by decide
theorem test_precode_decode : precodeDecode 0 [3, 2, 2, 0] = [3, 1, 0, 2] := by decide

/-- Example under R147: a write of 0x0028_F400 over the preset. -/
theorem test_ffe_pre :
    ((State.reset.set (F.PWR_DOM_STATUS.STATE 21) 3).ffeWrite 0 false 0x0028F400).rd (R.HOSTLANE_TX_FFE_PRE 0) = 0x0018F400 := by decide +kernel
theorem test_ffe_post :
    ((State.reset.set (F.PWR_DOM_STATUS.STATE 21) 3).ffeWrite 0 false 0x0028F400).rd (R.HOSTLANE_TX_FFE_POST 0) = 0x0000FC18 := by decide +kernel

/-- Example under R198: the ingress field, and the correction added at egress. -/
theorem test_ptp_field : stampCode ⟨86401, 999985000, 0x80000000⟩ = 0xBB9A8F68 := by decide
theorem test_ptp_residence :
    0x278000 + residence 0xBB9A8F68 ⟨86402, 14742310, 0x40000000⟩ * 2 ^ 16 + stampFrac ⟨86402, 14742310, 0x40000000⟩ = 0xE12DE5C000 := by decide

/-- Example under R207: the length byte of a beacon. -/
theorem test_length_byte : lengthByte 32 = 0xA0 := by decide

/-- Example under R224: four entries with SAMPLE = 9 take 8.0 µs. -/
theorem test_pass_us : passUs (List.replicate 4 0x900) false = 8 := by decide

/-- Example under R229: G of the full step, and the raw code 2,000. -/
theorem test_hkadc_gain : (3686 * 2 ^ 34 / (15206400 - 29696) : Int) = 4172513 := by decide
theorem test_hkadc_value : calibrated 2000 29696 4172513 / 4096 = 1982 := by decide

/-- Example under R235: PDAC17 moves 2 codes in an update. -/
theorem test_pdac_slew :
    ((((((State.reset.set (F.PDAC_CH_CODE.APPLIED 17) 13107).set (F.PDAC_CH_CLOCK.DIV 17) 100).set (F.PDAC_CH_SLEW.STEP 1) 64).set
      (F.PDAC_CH_SLEW.RATE 1) 1000).outputStage 17 39322).get (F.PDAC_CH_CODE.APPLIED 17)) = 13109 := by decide +kernel

/-- Example under R259: the leak brings LEVEL from 9 to 8. -/
theorem test_bucket_leak :
    (match execBucketLeak 4 (State.reset.set (F.MEM_BUCKET.LEVEL 4) 9) with
      | .next t => t.get (F.MEM_BUCKET.LEVEL 4)
      | _ => 0) = 8 := by decide +kernel

/-- Example under R313: POST is clamped to DEPTH − PRE. -/
theorem test_glean_post :
    ((((State.reset.set (F.GLEAN_DEPTH.VALUE 3) 65536).set (F.GLEAN_PRE.VALUE 3) 16384).set (F.GLEAN_POST.VALUE 3) 60000).depthClamp 3).get
      (F.GLEAN_POST.VALUE 3) = 49152 := by decide +kernel

/-- Example under R345: SEQ 0 of copy B is newer than SEQ 0xFFFF_FFFF of copy A. -/
def seqCopies : State :=
  State.reset.onCal fun k =>
    { k with copyA := k.copyA.set 16 (calRecord 16 0xFFFFFFFF 0 7 20 (List.replicate 16 0)),
             copyB := k.copyB.set 16 (calRecord 16 0 0 7 20 (List.replicate 16 0)) }
theorem test_cal_newer : (seqCopies.calCopies 16).map (·.1) = [true, false] := by decide +kernel
theorem test_cal_next_seq :
    ((State.reset.onCal fun k => { k with used := k.used.set 16 (some true) }).set (F.CAL_SEQ.SEQ 16) 0).calNextSeq 16 = 1 := by decide +kernel

/-- Example of the test cut short (chapter 18): furrow 29 fails at a checkpoint, furrow 32 stops at half its patterns. -/
theorem test_bist_fail : entryResult ((({} : BistRecord).take false 0 ⟨29, 262144, [63], false⟩).entry 29) = 2 := by decide +kernel
theorem test_bist_incomplete : entryResult ((({} : BistRecord).take false 0 ⟨32, 524288, [], false⟩).entry 32) = 3 := by decide +kernel

/-! ### Steps -/

theorem test_step_takes_front :
    step { State.reset with pending := [.heartbeat 0, .agcSettled .A] } = exec (.heartbeat 0) { State.reset with pending := [.agcSettled .A] } := rfl
theorem test_idle_second : (match step State.reset with
    | .next t => t.clock.sec
    | _ => 0) = 1 := by decide +kernel
theorem test_no_word : State.reset.withFetchWord 32 5 = State.reset := rfl
theorem test_residue_fault :
    (match execFurrowResidueFail 29 State.reset with
      | .next t => t.on F.FAULT_STATUS.ASSERTED
      | _ => false) = true := by decide +kernel
theorem test_no_therm_trip :
    (match execThermTrip 116 115 State.reset with
      | .next t => t.on F.PINS_THERM.TRIPPED
      | _ => true) = false := by decide +kernel
theorem test_down_access :
    (match execTxFfeWrite .cxl 0 false 0x0028F400 State.reset with
      | .next t => t.rd (R.HOSTLANE_TX_FFE_PRE 0)
      | _ => 0) = State.reset.rd (R.HOSTLANE_TX_FFE_PRE 0) := by decide +kernel

end Sys2Proof.Tests

/-! ### Hypotheses are met -/

namespace Sys2Proof.Machine
/-- A running plan of mode SINGLE with a CARRIER record of four subcarriers for each carrier (Table 2.5), for witnesses. -/
def State.withPlan (s : State) : State :=
  s.onPlan fun q => { q with running := some ⟨0, 1, 1, [⟨1, 0, 0, List.replicate 24 4⟩, ⟨1, 0, 1, List.replicate 24 4⟩]⟩ }
/-- As `withPlan`, with both carriers transmitting and receiving. -/
def State.withPlanTx (s : State) : State :=
  s.onPlan fun q => { q with running := some ⟨0, 1, 1, [⟨1, 0, 0, [4, 1, 4, 3] ++ List.replicate 20 4⟩, ⟨1, 0, 1, [4, 1, 4, 3] ++ List.replicate 20 4⟩]⟩ }
end Sys2Proof.Machine

namespace Sys2Proof
open Sys2Proof.Machine
/-- A message with the MAC that a session with empty keys asks, for witnesses. -/
def Envelope.sealed (e : Envelope) (cls typ : Nat) (body : List Byte) : Envelope :=
  { e with mac := (Config.hmac [] (wmpHead e cls typ body.length ++ body ++ (beBytes 4 e.session ++ beBytes 4 e.counter))).take 32 }
end Sys2Proof
namespace Sys2Proof.Machine
/-- The first 64 bytes of a plan of mode SINGLE and epoch 2 without records, for witnesses. -/
def bareImage : List Byte := List.replicate 5 0 ++ [1] ++ List.replicate 10 0 ++ [2] ++ List.replicate 47 0
/-- That plan in a VALID buffer, over a running plan of epoch 1. -/
def State.withBare (s : State) : State :=
  (s.set F.PLAN_STATUS.STATE 4).onPlan fun q => { q with buf := bareImage, running := some ⟨0, 1, 1, []⟩ }
end Sys2Proof.Machine
namespace Sys2Proof.Machine
/-- Bytes of zero read as zero. -/
theorem leNat_zeros (n : Nat) : leNat (List.replicate n 0) = 0 := by
  induction n with
  | zero => rfl
  | succ n ih =>
    show (0 : Byte).toNat + 256 * leNat (List.replicate n 0) = 0
    rw [ih]; rfl
theorem calSigned_zeros (n off k : Nat) : calSigned (List.replicate n 0) off k = 0 := by
  simp only [calSigned, slice, List.drop_replicate, List.take_replicate, leNat_zeros, toSigned]
  split <;> simp_all
/-- A DAC_IL body of zeros is plausible (R346). -/
theorem calFault_zeros (body : List Byte) (h : ∀ off k, calSigned body off k = 0) : calFault 3 body = none := by
  simp only [calFault, Option.map_eq_none_iff, List.find?_eq_none]
  intro f hf
  simp only [calFields, calType, h] at hf
  simp at hf
  obtain ⟨e, -, h | h | h⟩ := hf <;> subst h <;> simp [within]
end Sys2Proof.Machine

namespace Sys2Proof.Tests
open Sys2Proof Sys2Proof.Machine

/-- A command that answers a next state, with a queue that is not empty. -/
theorem witness_QueueIsLeftAlone : ∃ (s t : State) (c : Instr), exec c s = .next t ∧ s.pending = [.agcSettled .A] :=
  ⟨{ State.reset with pending := [.agcSettled .A] }, { State.reset with pending := [.agcSettled .A] }, .heartbeat 0, rfl, rfl⟩

/-- The premises meet. -/
theorem witness_StepKeepsStoresCanonical : ∃ s t : State, s.canonical = true ∧ step s = .next t :=
  ⟨{ State.reset with pending := [.heartbeat 0] }, State.reset, by decide +kernel, rfl⟩

/-- A step from a state with a revoked slot and burnt fuses. -/
theorem witness_BurntBitsStay : ∃ s t : State, step s = .next t ∧ s.sec.revoked = [6] ∧ s.bist.fallowFuses = [3] :=
  ⟨{ ((State.reset.onSec fun x => { x with revoked := [6] }).onBist fun b => { b with fallowFuses := [3] }) with pending := [.heartbeat 0] },
   ((State.reset.onSec fun x => { x with revoked := [6] }).onBist fun b => { b with fallowFuses := [3] }), rfl, rfl, rfl⟩

/-- The premises meet. -/
theorem witness_MemoryWordsChangeOnlyByMemoryCommands : ∃ (s t : State) (c : Instr), writesMemory c = false ∧ exec c s = .next t :=
  ⟨State.reset, State.reset, .heartbeat 0, rfl, rfl⟩

/-- Hypotheses of O7 are met. -/
theorem witness_RegisterWritesStoreByAccessType :
    (∃ (s : State) (path : Path) (amb : Ambient), s.mayWrite path R.GLOBAL_SCRATCH ∧ amb.more = []) ∧
    (∃ (s : State) (path : Path) (amb : Ambient), s.mayWrite path R.GLOBAL_ID ∧ amb.more = []) ∧
    (∃ (s : State) (path : Path) (addr : Nat) (amb : Ambient), addr < 0x4000000 ∧ addr % 4 = 0 ∧ rowAt addr = none ∧ s.unheard path true = false ∧ amb.more = []) :=
  ⟨⟨State.reset, .plough, ⟨[], ⟨[], [], 0⟩, 0, 0, 0, 0, [], [], 0⟩, by decide +kernel⟩,
    ⟨State.reset, .cxl, ⟨[], ⟨[], [], 0⟩, 0, 0, 0, 0, [], [], 0⟩, by decide +kernel⟩,
    ⟨State.reset, .cxl, 0x1380000, ⟨[], ⟨[], [], 0⟩, 0, 0, 0, 0, [], [], 0⟩, by decide +kernel⟩⟩

/-- Hypotheses of O8 are met. -/
theorem witness_NarrowAndWideAccesses :
    (∃ (s : State) (path : Path) (addr : Nat) (n : Fin 3), addr < 0x4000000 ∧ addr % 4 + n.val < 4 ∧ s.unheard path true = false ∧ s.isDown (addr / 4 * 4) = false) ∧
    (∃ (s : State) (path : Path) (k : Nat) (n : Fin 4096), k + n.val < 4 ∧ s.mayRead path R.GLOBAL_ACCESS_ERR) ∧
    (∃ (s : State) (path : Path) (other : Path) (c : Carrier), s.mayRead path (R.FEC_CORR_BITS_LO c) ∧ other ≠ path) ∧
    (∃ (s : State) (path : Path) (c : Carrier), s.mayRead path (R.FEC_CORR_BITS_HI c)) ∧
    (∃ (s : State) (path : Path) (n : Fin 4) (i : Fin 3) (amb : Ambient), s.mayWrite path (R.TP_START_0 n + 4 * i) ∧ amb.more = []) ∧
    (∃ (s : State) (path : Path) (n : Fin 4), s.mayWrite path (R.TP_START_3 n)) ∧
    (∃ (s : State) (path : Path) (n : Fin 4) (w1 : Word) (w2 : Word) (w3 : Word) (amb : Ambient), s.mayWrite path (R.TP_START_0 n) ∧ amb.more = [w1, w2, w3]) :=
  ⟨⟨State.reset, .cxl, 0x32, 1, by decide +kernel⟩,
    ⟨State.reset.set F.GLOBAL_ACCESS_ERR.NARROW_WRITES 0x1234, .cxl, 1, 0, by decide +kernel⟩,
    ⟨(State.reset.set (F.PWR_DOM_STATUS.STATE 20) 3).set (F.FEC_CORR_BITS_HI.VALUE .B) 9, .cxl, .plough, .B, by decide +kernel⟩,
    ⟨(State.reset.set (F.PWR_DOM_STATUS.STATE 20) 3), .cxl, .B, by decide +kernel⟩,
    ⟨State.reset, .cxl, 3, 2, ⟨[], ⟨[], [], 0⟩, 0, 0, 0, 0, [], [], 0⟩, by decide +kernel⟩,
    ⟨State.reset, .cxl, 3, by decide +kernel⟩,
    ⟨State.reset, .cxl, 2, 5, 9, 77, ⟨[5, 9, 77], ⟨[], [], 0⟩, 0, 0, 0, 0, [], [], 0⟩, by decide +kernel⟩⟩

/-- Hypotheses of O9 are met. -/
theorem witness_InterruptRegistersAndMessages :
    (∃ (s : State) (path : Path), s.mayWrite path R.GLOBAL_INT_SET) ∧
    (∃ (s : State) (path : Path) (value : Word), s.mayWrite path R.GLOBAL_INT_SET ∧ s.msixEnabled = true ∧ s.cxlUp = true ∧ s.msixMasked = false ∧ s.on (vectorMask 0) = false ∧ s.cause 0 = false ∧ (value &&& 7 &&& s.rd R.GLOBAL_INT_ENABLE) ≠ 0) ∧
    (∃ (s : State) (path : Path), s.mayWrite path R.GLOBAL_INT_STATUS) ∧
    (∃ (s : State) (path : Path) (value : Word), s.mayWrite path R.GLOBAL_INT_STATUS ∧ s.msixEnabled = true ∧ s.cxlUp = true ∧ s.msixMasked = false ∧ s.on (vectorMask 0) = false ∧ (s.rd R.GLOBAL_INT_STATUS &&& ~~~(value &&& 7) &&& s.rd R.GLOBAL_INT_ENABLE) ≠ 0) :=
  ⟨⟨State.reset, .cxl, by decide +kernel⟩,
    ⟨{ ((State.reset.set (vectorMask 0) 0).set F.CXLCTL_LINK.STATE 2).wr R.GLOBAL_INT_ENABLE 2 with msixEnabled := true, msixMasked := false }, .cxl, 2, by decide +kernel⟩,
    ⟨State.reset.wr R.GLOBAL_INT_STATUS 7, .cxl, by decide +kernel⟩,
    ⟨{ (((State.reset.set (vectorMask 0) 0).set F.CXLCTL_LINK.STATE 2).wr R.GLOBAL_INT_ENABLE 2).wr R.GLOBAL_INT_STATUS 3 with msixEnabled := true, msixMasked := false }, .cxl, 1, by decide +kernel⟩⟩

/-- Hypotheses of O10 are met. -/
theorem witness_DownRegistersAndRegMessages :
    (∃ (s : State) (path : Path) (addr : Nat) (write : Bool), addr < 0x4000000 ∧ addr % 4 = 0 ∧ s.unheard path write = false ∧ s.isDown addr = true) ∧
    (∃ (s : State) (e : Envelope), s.wmpReady e ∧ e.session = 0 ∧ e.path = 0 ∧ s.isDown R.GLOBAL_SCRATCH = false) ∧
    (∃ (s : State) (e : Envelope), s.wmpReady e ∧ e.session = 0 ∧ e.path = 0 ∧ s.isDown R.GLOBAL_SCRATCH = false) ∧
    (∃ (s : State) (e : Envelope) (value : Word), s.wmpInSession e 2 2 (beBytes 4 0x30 ++ beBytes 4 value.toNat) (if e.path.val = 0 then 0 else 1) ∧ s.isDown R.GLOBAL_SCRATCH = false) :=
  ⟨⟨State.reset, .plough, R.CLIENT_CTRL 15, false, by decide +kernel⟩,
    ⟨State.reset, ⟨0, 0x20, 5, 0, 0, []⟩, by decide +kernel⟩,
    ⟨State.reset, ⟨0, 0x20, 5, 0, 0, []⟩, by decide +kernel⟩,
    ⟨(((State.reset.set (F.SEC_SESSION.OPEN 1) 1).set (F.SEC_SESSION.ROLE 1) 1).onSession 1 (fun x => { x with sid := 9 })), Envelope.sealed ⟨1, 0x20, 5, 9, 1, []⟩ 2 2 (beBytes 4 0x30 ++ beBytes 4 7), 7, by (repeat' apply And.intro) <;> first | decide +kernel | rfl⟩⟩

/-- Hypotheses of O11 are met. -/
theorem witness_PlanBufferLoadsAndStores :
    (∃ (s : State) (sender : Sender), s.mayPlan sender 1 = true ∧ s.mayLoad = true ∧ s.windowGranted = true ∧ s.inWindow (s.get F.PLAN_SRC_OFFSET.OFFSET * 4096) (s.get F.PLAN_SRC_LENGTH.LENGTH) = true) ∧
    (∃ (s : State) (sender : Sender), s.mayPlan sender 1 = true ∧ s.mayLoad = true ∧ s.windowGranted = false) ∧
    (∃ (s : State) (sender : Sender), s.mayPlan sender 1 = true ∧ s.mayLoad = true ∧ s.windowGranted = true ∧ s.inWindow (s.get F.PLAN_SRC_OFFSET.OFFSET * 4096) (s.get F.PLAN_SRC_LENGTH.LENGTH) = false) ∧
    (∃ (s : State) (sender : Sender) (slot : Fin 4), s.mayPlan sender (2 + 16 * slot) = true ∧ s.mayLoad = true) ∧
    (∃ (s : State), s.bufState = 1 ∧ s.plan.load = .window) ∧
    (∃ (s : State), s.bufState = 1 ∧ s.plan.load = .slot) ∧
    (∃ (s : State), s.bufState = 1) ∧
    (∃ (s : State) (e : Envelope) (offset : Word) (data : List Byte), s.wmpInSession e 3 1 (beBytes 4 offset.toNat ++ data) 1 ∧ s.mayLoad = true ∧ data ≠ [] ∧ offset.toNat + data.length ≤ 0x1F) ∧
    (∃ (s : State) (e : Envelope) (data : List Byte), s.wmpInSession e 3 1 (beBytes 4 0 ++ data) 1 ∧ s.mayLoad = true ∧ 0x20 ≤ data.length ∧ imgDeliver data ≤ data.length ∧ data.length ≤ 1024) ∧
    (∃ (s : State) (sender : Sender) (slot : Fin 4), s.mayPlan sender (7 + 16 * slot) = true ∧ s.bufState = 4 ∧ s.plan.slots.length = 4) ∧
    (∃ (s : State), s.bufState = 7) ∧
    (∃ (s : State) (sender : Sender), s.mayPlan sender (1) = true ∧ s.mayLoad = false) ∧
    (∃ (s : State) (sender : Sender) (slot : Fin 4), s.mayPlan sender (2 + 16 * slot) = true ∧ s.mayLoad = false) ∧
    (∃ (s : State) (sender : Sender), s.mayPlan sender (3) = true ∧ s.bufState ≠ 2) ∧
    (∃ (s : State) (sender : Sender), s.mayPlan sender (4) = true ∧ s.bufState ≠ 2 ∧ s.bufState ≠ 4) ∧
    (∃ (s : State) (sender : Sender), s.mayPlan sender (5) = true ∧ s.hState ≠ 0) ∧
    (∃ (s : State) (sender : Sender) (slot : Fin 4), s.mayPlan sender (7 + 16 * slot) = true ∧ s.bufState ≠ 4) ∧
    (∃ (s : State) (sender : Sender), s.mayPlan sender (6) = true ∧ s.hState ≠ 1 ∧ s.hState ≠ 2) :=
  ⟨⟨((State.reset.set F.CXLCTL_WIN_CMD.WSTATE 1).set F.CXLCTL_WIN_SIZE.SIZE 1), .reg .hedge, by decide +kernel⟩,
    ⟨State.reset, .reg .hedge, by decide +kernel⟩,
    ⟨((State.reset.set F.CXLCTL_WIN_CMD.WSTATE 1).set F.CXLCTL_WIN_SIZE.SIZE 1).set F.PLAN_SRC_OFFSET.OFFSET 0x20000, .reg .hedge, by decide +kernel⟩,
    ⟨State.reset, .reg .hedge, 3, by decide +kernel⟩,
    ⟨State.reset.set F.PLAN_STATUS.STATE 1 |>.onPlan fun q => { q with load := .window, expected := 2 }, by decide +kernel⟩,
    ⟨State.reset.set F.PLAN_STATUS.STATE 1 |>.onPlan fun q => { q with load := .slot, expected := 2, buf := bareImage }, by decide +kernel⟩,
    ⟨State.reset.set F.PLAN_STATUS.STATE 1, by decide +kernel⟩,
    ⟨(((State.reset.set (F.SEC_SESSION.OPEN 1) 1).set (F.SEC_SESSION.ROLE 1) 1).onSession 1 (fun x => { x with sid := 9 })), Envelope.sealed ⟨1, 0x20, 5, 9, 1, []⟩ 3 1 (beBytes 4 5 ++ [7, 8]), 5, [7, 8], by (repeat' apply And.intro) <;> first | decide +kernel | rfl⟩,
    ⟨(((State.reset.set (F.SEC_SESSION.OPEN 2) 1).set (F.SEC_SESSION.ROLE 2) 2).onSession 2 (fun x => { x with sid := 9 })), Envelope.sealed ⟨2, 0x20, 5, 9, 1, []⟩ 3 1 (beBytes 4 0 ++ List.replicate 64 0), List.replicate 64 0, by (repeat' apply And.intro) <;> first | decide +kernel | rfl⟩,
    ⟨State.reset.withBare, .reg .hedge, 2, by decide +kernel⟩,
    ⟨State.reset.set F.PLAN_STATUS.STATE 7, by decide +kernel⟩,
    ⟨State.reset.set F.PLAN_STATUS.STATE 1, .reg .hedge, by decide +kernel⟩,
    ⟨State.reset.set F.PLAN_STATUS.STATE 3, .reg .hedge, 1, by decide +kernel⟩,
    ⟨State.reset, .reg .hedge, by decide +kernel⟩,
    ⟨State.reset.set F.PLAN_STATUS.STATE 5, .reg .hedge, by decide +kernel⟩,
    ⟨State.reset.set F.PLAN_SWITCH.HSTATE 1, .reg .hedge, by decide +kernel⟩,
    ⟨State.reset, .reg .hedge, 1, by decide +kernel⟩,
    ⟨State.reset.set F.PLAN_SWITCH.HSTATE 3, .reg .hedge, by decide +kernel⟩⟩

/-- Hypotheses of O12 are met. -/
theorem witness_ValidationAndColdApply :
    (∃ (s : State) (sender : Sender), s.mayPlan sender 3 = true ∧ s.bufState = 2) ∧
    (∃ (s : State), s.bufState = 3 ∧ s.plan.after = .validate) ∧
    (∃ (s : State) (sender : Sender), s.mayPlan sender 4 = true ∧ s.bufState = 2 ∧ s.mayApply = true) ∧
    (∃ (s : State) (sender : Sender), s.mayPlan sender 4 = true ∧ s.bufState = 4 ∧ s.mayApply = true) ∧
    (∃ (s : State), s.bufState = 6) ∧
    (∃ (s : State), s.bufState = 6 ∧ s.shut = false) :=
  ⟨⟨State.reset.set F.PLAN_STATUS.STATE 2, .reg .hedge, by decide +kernel⟩,
    ⟨State.reset.set F.PLAN_STATUS.STATE 3 |>.onPlan fun q => { q with after := .validate }, by decide +kernel⟩,
    ⟨State.reset.set F.PLAN_STATUS.STATE 2, .reg .hedge, by decide +kernel⟩,
    ⟨State.reset.withBare, .reg .hedge, by decide +kernel⟩,
    ⟨State.reset.withBare.set F.PLAN_STATUS.STATE 6, by decide +kernel⟩,
    ⟨State.reset.withBare.set F.PLAN_STATUS.STATE 6, by decide +kernel⟩⟩

/-- Hypotheses of O13 are met. -/
theorem witness_HitlessReplanFollowsTable220 :
    (∃ (s : State) (sender : Sender), s.mayPlan sender 5 = true ∧ s.bufState = 4 ∧ s.hState = 0 ∧ s.mayApply = true ∧ (imgPlan s.plan.buf).check24 s.plan.running (s.get F.PLAN_RUN_EPOCH.EPOCH) (s.healthyFurrows.length - s.get F.PLAN_FURROWS.RUNNING) = none) ∧
    (∃ (s : State), s.hState = 1 ∧ s.allConverged = true) ∧
    (∃ (s : State) (sender : Sender), s.mayPlan sender 6 = true ∧ (s.hState = 1 ∨ s.hState = 2)) ∧
    (∃ (s : State), s.hState = 1) ∧
    (∃ (s : State) (furrow : Fin 104), (s.hState = 1 ∨ s.hState = 2 ∨ s.hState = 3) ∧ s.plan.build.any (fun b => b.furrows.contains furrow.val) = true) ∧
    (∃ (s : State), s.hState = 2 ∧ s.plan.proposedMf.isSome = true) ∧
    (∃ (s : State) (mf : Nat), s.hState = 3 ∧ mf = s.get F.PLAN_SWITCH.SWITCH_MF) ∧
    (∃ (s : State) (c : Carrier), s.hState = 4 ∧ c ∈ s.rxToSwitch) ∧
    (∃ (s : State), s.hState = 4 ∧ s.rxToSwitch = []) :=
  ⟨⟨State.reset.withBare.set F.PLAN_RUN_EPOCH.EPOCH 1, .reg .hedge, by decide +kernel⟩,
    ⟨State.reset.set F.PLAN_SWITCH.HSTATE 1 |>.onPlan fun q => { q with build := [⟨31, 0x14, .A, 0, 4, [0, 1, 2, 3]⟩], converged := [31] }, by decide +kernel⟩,
    ⟨State.reset.set F.PLAN_SWITCH.HSTATE 2 |>.onPlan fun q => { q with build := [⟨31, 0x14, .A, 0, 4, [0, 1, 2, 3]⟩], converged := [31] }, .reg .hedge, by decide +kernel⟩,
    ⟨State.reset.set F.PLAN_SWITCH.HSTATE 1 |>.onPlan fun q => { q with build := [⟨31, 0x14, .A, 0, 4, [0, 1, 2, 3]⟩], converged := [31] }, by decide +kernel⟩,
    ⟨State.reset.set F.PLAN_SWITCH.HSTATE 3 |>.onPlan fun q => { q with build := [⟨31, 0x14, .A, 0, 4, [0, 1, 2, 3]⟩], converged := [31] }, 3, by decide +kernel⟩,
    ⟨State.reset.set F.PLAN_SWITCH.HSTATE 2 |>.onPlan fun q => { q with proposedMf := some 90 }, by decide +kernel⟩,
    ⟨State.reset.set F.PLAN_SWITCH.HSTATE 3, 0, by decide +kernel⟩,
    ⟨State.reset.withPlanTx.set F.PLAN_SWITCH.HSTATE 4, .B, by decide +kernel⟩,
    ⟨State.reset.withBare.set F.PLAN_SWITCH.HSTATE 4, by decide +kernel⟩⟩

/-- Hypotheses of O14 are met. -/
theorem witness_ReceiveAcquisitionAdvances :
    (∃ (s : State) (c : Carrier), s.on (F.FURROW_RX_CTRL.HOLD_ACQ c) = false ∧ s.rxState c = 2 ∧ s.get (F.FURROW_RX_CD_CTRL.MODE c) = 0) ∧
    (∃ (s : State) (c : Carrier), s.on (F.FURROW_RX_CTRL.HOLD_ACQ c) = false ∧ s.rxState c = 2 ∧ s.get (F.FURROW_RX_CD_CTRL.MODE c) ≠ 0) ∧
    (∃ (s : State) (c : Carrier), s.on (F.FURROW_RX_CTRL.HOLD_ACQ c) = false ∧ s.rxState c = 3 ∧ s.get (F.FURROW_RX_CD_CTRL.MODE c) = 0) ∧
    (∃ (s : State) (c : Carrier), s.on (F.FURROW_RX_CTRL.HOLD_ACQ c) = false ∧ s.rxState c = 4) ∧
    (∃ (s : State) (c : Carrier), s.on (F.FURROW_RX_CTRL.HOLD_ACQ c) = false ∧ s.rxState c = 5) ∧
    (∃ (s : State) (c : Carrier), s.on (F.FURROW_RX_CTRL.HOLD_ACQ c) = false ∧ s.rxState c = 6) ∧
    (∃ (s : State) (c : Carrier), s.on (F.FURROW_RX_CTRL.HOLD_ACQ c) = false ∧ s.rxState c = 7) ∧
    (∃ (s : State) (c : Carrier), s.on (F.FURROW_RX_CTRL.HOLD_ACQ c) = false ∧ s.rxState c = 8) :=
  ⟨⟨State.reset.set (F.FURROW_RX_STATE.STATE .A) 2, .A, by decide +kernel⟩,
    ⟨State.reset.set (F.FURROW_RX_STATE.STATE .A) 2 |>.set (F.FURROW_RX_CD_CTRL.MODE .A) 1, .A, by decide +kernel⟩,
    ⟨State.reset.set (F.FURROW_RX_STATE.STATE .A) 3, .A, by decide +kernel⟩,
    ⟨State.reset.set (F.FURROW_RX_STATE.STATE .A) 4, .A, by decide +kernel⟩,
    ⟨State.reset.set (F.FURROW_RX_STATE.STATE .A) 5, .A, by decide +kernel⟩,
    ⟨State.reset.set (F.FURROW_RX_STATE.STATE .A) 6, .A, by decide +kernel⟩,
    ⟨State.reset.set (F.FURROW_RX_STATE.STATE .A) 7, .A, by decide +kernel⟩,
    ⟨State.reset.set (F.FURROW_RX_STATE.STATE .A) 8, .A, by decide +kernel⟩⟩

/-- Hypotheses of O15 are met. -/
theorem witness_HoldAcqStopsAcquisition :
    (∃ (s : State) (c : Carrier), s.on (F.FURROW_RX_CTRL.HOLD_ACQ c) = true) ∧
    (∃ (s : State) (c : Carrier), s.on (F.FURROW_RX_CTRL.HOLD_ACQ c) = true) ∧
    (∃ (s : State) (c : Carrier), s.on (F.FURROW_RX_CTRL.HOLD_ACQ c) = true) ∧
    (∃ (s : State) (c : Carrier), s.on (F.FURROW_RX_CTRL.HOLD_ACQ c) = true) ∧
    (∃ (s : State) (c : Carrier), s.on (F.FURROW_RX_CTRL.HOLD_ACQ c) = true) ∧
    (∃ (s : State) (c : Carrier), s.on (F.FURROW_RX_CTRL.HOLD_ACQ c) = true) ∧
    (∃ (s : State) (c : Carrier), s.on (F.FURROW_RX_CTRL.HOLD_ACQ c) = true) :=
  ⟨⟨State.reset.set (F.FURROW_RX_CTRL.HOLD_ACQ .B) 1, .B, by decide +kernel⟩,
    ⟨State.reset.set (F.FURROW_RX_CTRL.HOLD_ACQ .B) 1, .B, by decide +kernel⟩,
    ⟨State.reset.set (F.FURROW_RX_CTRL.HOLD_ACQ .B) 1, .B, by decide +kernel⟩,
    ⟨State.reset.set (F.FURROW_RX_CTRL.HOLD_ACQ .B) 1, .B, by decide +kernel⟩,
    ⟨State.reset.set (F.FURROW_RX_CTRL.HOLD_ACQ .B) 1, .B, by decide +kernel⟩,
    ⟨State.reset.set (F.FURROW_RX_CTRL.HOLD_ACQ .B) 1, .B, by decide +kernel⟩,
    ⟨State.reset.set (F.FURROW_RX_CTRL.HOLD_ACQ .B) 1, .B, by decide +kernel⟩⟩

/-- Hypotheses of O16 are met. -/
theorem witness_ReceiveLossesAndRestart :
    (∃ (s : State) (c : Carrier), s.on (F.LINE_RX_LOS_CFG.LOS c) = false ∧ s.rxState c ≠ 0) ∧
    (∃ (s : State) (c : Carrier), s.rxState c = 1) ∧
    (∃ (s : State) (c : Carrier), s.on (F.LINE_RX_LOS_CFG.LOS c) = true ∧ s.rxState c = 1 ∧ s.on (F.PWR_WAKE_MAP.EN 7) = false) ∧
    (∃ (s : State) (path : Path) (c : Carrier), s.mayWrite path (R.FURROW_RX_CTRL c) ∧ s.rxState c ≠ 0) ∧
    (∃ (s : State) (c : Carrier), s.rxState c = 9) ∧
    (∃ (s : State) (c : Carrier), s.rxState c = 9) ∧
    (∃ (s : State) (c : Carrier), 2 ≤ s.rxState c ∧ s.rxState c ≤ 8 ∧ (s.get (F.FURROW_RX_STATE.RETRIES c) + 1) % 4 = 0) ∧
    (∃ (s : State) (c : Carrier), 2 ≤ s.rxState c ∧ s.rxState c ≤ 8 ∧ (s.get (F.FURROW_RX_STATE.RETRIES c) + 1) % 4 ≠ 0 ∧ s.get (F.FURROW_RX_CD_CTRL.MODE c) = 0) ∧
    (∃ (s : State) (c : Carrier), 2 ≤ s.rxState c ∧ s.rxState c ≤ 8 ∧ (s.get (F.FURROW_RX_STATE.RETRIES c) + 1) % 4 ≠ 0 ∧ s.get (F.FURROW_RX_CD_CTRL.MODE c) ≠ 0) ∧
    (∃ (turn : Fin 4), turn ≠ 0) ∧
    (∃ (turn : Fin 4), turn ≠ 0) :=
  ⟨⟨State.reset.set (F.FURROW_RX_STATE.STATE .A) 9 |>.set (F.LINE_RX_LOS_CFG.LOS .A) 0, .A, by decide +kernel⟩,
    ⟨(State.reset.set (F.FURROW_RX_STATE.STATE .B) 1).set (F.LINE_RX_LOS_CFG.LOS .B) 1, .B, by decide +kernel⟩,
    ⟨((State.reset.set (F.FURROW_RX_STATE.STATE .B) 1).set (F.LINE_RX_LOS_CFG.LOS .B) 1).set (F.PWR_WAKE_MAP.EN 7) 0, .B, by decide +kernel⟩,
    ⟨(State.reset.set (F.FURROW_RX_STATE.STATE .A) 7).set (F.PWR_DOM_STATUS.STATE 6) 3, .cxl, .A, by decide +kernel⟩,
    ⟨State.reset.set (F.FURROW_RX_STATE.STATE .A) 9, .A, by decide +kernel⟩,
    ⟨State.reset.set (F.FURROW_RX_STATE.STATE .A) 9, .A, by decide +kernel⟩,
    ⟨(State.reset.set (F.FURROW_RX_STATE.STATE .A) 2).set (F.FURROW_RX_STATE.RETRIES .A) 3, .A, by decide +kernel⟩,
    ⟨State.reset.set (F.FURROW_RX_STATE.STATE .A) 7, .A, by decide +kernel⟩,
    ⟨State.reset.set (F.FURROW_RX_STATE.STATE .A) 7 |>.set (F.FURROW_RX_CD_CTRL.MODE .A) 2, .A, by decide +kernel⟩,
    ⟨3, by decide +kernel⟩,
    ⟨1, by decide +kernel⟩⟩

/-- Hypotheses of O17 are met. -/
theorem witness_NonlinearBanksSwap :
    (∃ (s : State) (path : Path) (c : Carrier) (pair : Bool), s.mayWrite path (R.FURROW_RX_NLC_CTRL c) ∧ s.on (F.FURROW_RX_NLC_CTRL.SWAP_PENDING c) = false ∧ (pair = false ∨ s.mode ≠ 1)) ∧
    (∃ (s : State) (path : Path) (c : Carrier), s.mayWrite path (R.FURROW_RX_NLC_CTRL c) ∧ s.on (F.FURROW_RX_NLC_CTRL.SWAP_PENDING c) = false ∧ s.mode = 1) ∧
    (∃ (s : State) (path : Path) (c : Carrier), s.mayWrite path (R.FURROW_RX_NLC_CTRL c) ∧ s.on (F.FURROW_RX_NLC_CTRL.SWAP_PENDING c) = true) ∧
    (∃ (s : State) (c : Carrier), s.on (F.FURROW_RX_NLC_CTRL.SWAP_PENDING c) = true ∧ (s.rx.at c).owner = true ∧ (s.rx.at c).pair = false ∧ (s.rx.at c).reverting = false) ∧
    (∃ (s : State) (c : Carrier), s.on (F.FURROW_RX_NLC_CTRL.SWAP_PENDING c) = true ∧ (s.rx.at c).owner = true ∧ (s.rx.at c).pair = true) ∧
    (∃ (s : State) (c : Carrier), s.on (F.FURROW_RX_NLC_CTRL.EVAL c) = true ∧ (s.rx.at c).evalPair = false ∧ s.on (F.FURROW_RX_NLC_CTRL.SWAP_PENDING c) = false) ∧
    (∃ (s : State) (c : Carrier), s.on (F.FURROW_RX_NLC_CTRL.EVAL c) = true ∧ (s.rx.at c).evalPair = true ∧ s.on (F.FURROW_RX_NLC_CTRL.SWAP_PENDING c) = false ∧ s.on (F.FURROW_RX_NLC_CTRL.SWAP_PENDING c.other) = false) ∧
    (∃ (s : State) (path : Path) (c : Carrier), s.mayWrite path (R.FURROW_RX_NLC_TERMS c) ∧ (s.on (F.FURROW_RX_NLC_CTRL.SWAP_PENDING c) || s.on (F.FURROW_RX_NLC_CTRL.EVAL c)) = true) ∧
    (∃ (s : State) (path : Path) (c : Carrier), s.mayWrite path (R.FURROW_RX_NLC_TERMS c) ∧ (s.on (F.FURROW_RX_NLC_CTRL.SWAP_PENDING c) || s.on (F.FURROW_RX_NLC_CTRL.EVAL c)) = false) ∧
    (∃ (s : State) (path : Path) (c : Carrier), s.mayWrite path (R.FURROW_RX_NLC_TERMS c) ∧ (s.on (F.FURROW_RX_NLC_CTRL.SWAP_PENDING c) || s.on (F.FURROW_RX_NLC_CTRL.EVAL c)) = false) :=
  ⟨⟨(State.reset.set (F.PWR_DOM_STATUS.STATE 6) 3), .cxl, .A, true, by decide +kernel⟩,
    ⟨(State.reset.set (F.PWR_DOM_STATUS.STATE 6) 3).set F.GLOBAL_MODE.MODE 1, .cxl, .A, by decide +kernel⟩,
    ⟨(State.reset.set (F.PWR_DOM_STATUS.STATE 6) 3).set (F.FURROW_RX_NLC_CTRL.SWAP_PENDING .A) 1, .cxl, .A, by decide +kernel⟩,
    ⟨State.reset.set (F.FURROW_RX_NLC_CTRL.SWAP_PENDING .B) 1, .B, by decide +kernel⟩,
    ⟨(State.reset.set (F.FURROW_RX_NLC_CTRL.SWAP_PENDING .A) 1).set (F.FURROW_RX_NLC_CTRL.SWAP_PENDING .B) 1 |>.onRx .B fun r => { r with pair := true }, .B, by decide +kernel⟩,
    ⟨State.reset.set (F.FURROW_RX_NLC_CTRL.EVAL .A) 1 |>.onRx .A (fun r => { r with evalPct := 10 }) |>.onLine .A fun l => { l with evalBefore := 100, evalAfter := 111 }, .A, by decide +kernel⟩,
    ⟨State.reset.set (F.FURROW_RX_NLC_CTRL.EVAL .A) 1 |>.onRx .A (fun r => { r with evalPct := 10, evalPair := true }) |>.onLine .A fun l => { l with evalBefore := 100, evalAfter := 111 }, .A, by decide +kernel⟩,
    ⟨(State.reset.set (F.PWR_DOM_STATUS.STATE 6) 3).set (F.FURROW_RX_NLC_CTRL.EVAL .A) 1, .cxl, .A, by decide +kernel⟩,
    ⟨(State.reset.set (F.PWR_DOM_STATUS.STATE 6) 3), .cxl, .A, by decide +kernel⟩,
    ⟨(State.reset.set (F.PWR_DOM_STATUS.STATE 6) 3), .cxl, .A, by decide +kernel⟩⟩

/-- Hypotheses of O18 are met. -/
theorem witness_TapCommandsAndEstimates :
    (∃ (s : State) (path : Path) (c : Carrier) (sub : Fin 16), s.mayWrite path (R.FURROW_RX_SC_TAP_CMD c sub) ∧ sub.val < s.subCount c ∧ s.on (F.FURROW_RX_SC_TAP_CMD.BUSY c sub) = false) ∧
    (∃ (s : State) (path : Path) (c : Carrier) (sub : Fin 16), s.mayWrite path (R.FURROW_RX_SC_TAP_CMD c sub) ∧ sub.val < s.subCount c ∧ s.on (F.FURROW_RX_SC_TAP_CMD.BUSY c sub) = false) ∧
    (∃ (s : State) (path : Path) (c : Carrier) (sub : Fin 16), s.mayWrite path (R.FURROW_RX_SC_TAP_CMD c sub) ∧ sub.val < s.subCount c ∧ s.on (F.FURROW_RX_SC_TAP_CMD.BUSY c sub) = true) ∧
    (∃ (s : State) (path : Path) (c : Carrier) (sub : Fin 16), s.mayWrite path (R.FURROW_RX_SC_TAP_CMD c sub) ∧ sub.val < s.subCount c ∧ s.on (F.FURROW_RX_SC_TAP_CMD.BUSY c sub) = true) ∧
    (∃ (s : State) (path : Path) (c : Carrier) (sub : Fin 16), s.mayWrite path (R.FURROW_RX_SC_TAP_CMD c sub) ∧ s.subCount c ≤ sub.val) ∧
    (∃ (s : State) (path : Path) (c : Carrier) (sub : Fin 16), s.mayWrite path (R.FURROW_RX_SC_TAP_CMD c sub) ∧ s.subCount c ≤ sub.val) ∧
    (∃ (s : State) (c : Carrier) (sub : Fin 16), s.on (F.FURROW_RX_SC_TAP_CMD.BUSY c sub) = true ∧ (s.rx.at c).tapCmd.length = 16 ∧ (s.rx.at c).tapShadow.length = 16 ∧ (s.rx.at c).tapLive.length = 16 ∧ nth (s.rx.at c).tapCmd sub none = some true) ∧
    (∃ (s : State) (c : Carrier) (sub : Fin 16), s.on (F.FURROW_RX_SC_TAP_CMD.BUSY c sub) = true ∧ (s.rx.at c).tapCmd.length = 16 ∧ (s.rx.at c).tapShadow.length = 16 ∧ (s.rx.at c).tapLive.length = 16 ∧ nth (s.rx.at c).tapCmd sub none = some false) ∧
    (∃ (s : State) (c : Carrier), (s.on (F.FURROW_RX_EST_CTRL.HOLD c) = true ∨ s.rxState c = 0)) ∧
    (∃ (s : State) (c : Carrier), s.on (F.FURROW_RX_EST_CTRL.HOLD c) = false ∧ s.rxState c ≠ 0) ∧
    (∃ (s : State) (c : Carrier) (rms : List Byte), s.rxState c ≠ 0 ∧ s.on (F.LINE_RX_LOS_CFG.LOS c) = false ∧ 15 ≤ (s.rx.at c).dark ∧ (∀ k : Fin 4, (nth rms k 0).toNat + s.get (F.LINE_RX_LOS_CFG.HYST c) < s.get (F.LINE_RX_LOS_CFG.THRESH c))) ∧
    (∃ (s : State) (group : Fin 32) (b : Bound), s.plan.build.find? (fun b => b.group = group.val) = some b) :=
  ⟨⟨(State.reset.set (F.PWR_DOM_STATUS.STATE 6) 3).withPlan, .cxl, .A, 1, by decide +kernel⟩,
    ⟨(State.reset.set (F.PWR_DOM_STATUS.STATE 6) 3).withPlan, .cxl, .A, 1, by decide +kernel⟩,
    ⟨(State.reset.set (F.PWR_DOM_STATUS.STATE 6) 3).withPlan.set (F.FURROW_RX_SC_TAP_CMD.BUSY .A 0) 1, .cxl, .A, 0, by decide +kernel⟩,
    ⟨(State.reset.set (F.PWR_DOM_STATUS.STATE 6) 3).withPlan.set (F.FURROW_RX_SC_TAP_CMD.BUSY .A 0) 1, .cxl, .A, 0, by decide +kernel⟩,
    ⟨(State.reset.set (F.PWR_DOM_STATUS.STATE 6) 3), .cxl, .A, 15, by decide +kernel⟩,
    ⟨(State.reset.set (F.PWR_DOM_STATUS.STATE 6) 3), .cxl, .A, 15, by decide +kernel⟩,
    ⟨(State.reset.set (F.FURROW_RX_SC_TAP_CMD.BUSY .A 15) 1).onRx .A fun r => { r with tapCmd := r.tapCmd.set 15 (some true) }, .A, 15, by decide +kernel⟩,
    ⟨(State.reset.set (F.FURROW_RX_SC_TAP_CMD.BUSY .A 15) 1).onRx .A fun r => { r with tapCmd := r.tapCmd.set 15 (some false) }, .A, 15, by decide +kernel⟩,
    ⟨State.reset.set (F.FURROW_RX_EST_CTRL.HOLD .A) 1, .A, by decide +kernel⟩,
    ⟨State.reset.set (F.FURROW_RX_STATE.STATE .A) 9, .A, by decide +kernel⟩,
    ⟨((State.reset.set (F.LINE_RX_LOS_CFG.THRESH .A) 50).set (F.LINE_RX_LOS_CFG.LOS .A) 0).set (F.FURROW_RX_STATE.STATE .A) 9 |>.onRx .A fun r => { r with dark := 15 }, .A, [], by decide +kernel⟩,
    ⟨State.reset.onPlan fun q => { q with build := [⟨31, 0x14, .A, 0, 4, [0, 1, 2, 3]⟩] }, 31, ⟨31, 0x14, .A, 0, 4, [0, 1, 2, 3]⟩, by decide +kernel⟩⟩

/-- Hypotheses of O19 are met. -/
theorem witness_TransmitterStateFollowsR86 :
    (∃ (s : State) (path : Path) (c : Carrier), s.mayWrite path (R.LINE_TX_CTRL c) ∧ (s.txState c = 2 ∨ s.txState c = 1)) ∧
    (∃ (s : State) (path : Path) (c : Carrier), s.mayWrite path (R.LINE_TX_CTRL c) ∧ (s.txState c = 0 ∨ s.txState c = 3)) ∧
    (∃ (s : State) (path : Path) (c : Carrier), s.mayWrite path (R.LINE_TX_CTRL c) ∧ ((s.txState c = 1 ∨ s.txState c = 2) ∨ s.on (F.LINE_TX_CTRL.ENABLED c) = false ∨ s.bufState = 6 ∨ s.shut = true)) ∧
    (∃ (s : State) (path : Path) (c : Carrier), s.mayWrite path (R.LINE_TX_CTRL c) ∧ (s.txState c = 0 ∨ s.txState c = 3) ∧ s.on (F.LINE_TX_CTRL.ENABLED c) = true ∧ s.bufState ≠ 6 ∧ s.shut = false) ∧
    (∃ (s : State) (c : Carrier), s.txState c = 1) ∧
    (∃ (s : State) (c : Carrier), s.txState c = 3) :=
  ⟨⟨(State.reset.set (F.PWR_DOM_STATUS.STATE 4) 3).set (F.LINE_TX_CTRL.TX_STATE .A) 2, .cxl, .A, by decide +kernel⟩,
    ⟨(State.reset.set (F.PWR_DOM_STATUS.STATE 4) 3), .cxl, .A, by decide +kernel⟩,
    ⟨(State.reset.set (F.PWR_DOM_STATUS.STATE 4) 3).set (F.LINE_TX_CTRL.MUTE .A) 1, .cxl, .A, by decide +kernel⟩,
    ⟨((State.reset.set (F.PWR_DOM_STATUS.STATE 4) 3).set (F.LINE_TX_CTRL.MUTE .A) 1).set (F.LINE_TX_CTRL.ENABLED .A) 1, .cxl, .A, by decide +kernel⟩,
    ⟨(State.reset.set (F.PWR_DOM_STATUS.STATE 4) 3).set (F.LINE_TX_CTRL.TX_STATE .A) 1, .A, by decide +kernel⟩,
    ⟨(State.reset.set (F.PWR_DOM_STATUS.STATE 4) 3).set (F.LINE_TX_CTRL.TX_STATE .A) 3, .A, by decide +kernel⟩⟩

/-- Hypotheses of O20 are met. -/
theorem witness_ResponseSetAndGradualControls :
    (∃ (s : State) (path : Path) (c : Carrier), s.mayWrite path (R.FURROW_TX_RESP c) ∧ s.on (F.FURROW_TX_RESP.BUSY c) = false) ∧
    (∃ (s : State) (path : Path) (c : Carrier), s.mayWrite path (R.FURROW_TX_RESP c) ∧ s.on (F.FURROW_TX_RESP.BUSY c) = true) ∧
    (∃ (s : State) (c : Carrier), s.on (F.FURROW_TX_RESP.BUSY c) = true) ∧
    (∃ (s : State) (c : Carrier) (sub : Fin 16), sub.val < s.subCount c) ∧
    (∃ (s : State) (c : Carrier) (sub : Fin 16), s.subCount c ≤ sub.val ∧ (s.settled c) = true) ∧
    (∃ (s : State) (c : Carrier), (s.tx.at c).skew.length = 4) ∧
    (∃ (s : State) (c : Carrier), (s.tx.at c).iq.length = 4) ∧
    (∃ (clips : List Nat), frameClipped clips = true) ∧
    (∃ (s : State) (c : Carrier) (clips : List Nat), s.on (F.FURROW_TX_RESP.BUSY c) = false ∧ frameClipped clips = false) :=
  ⟨⟨(State.reset.set (F.PWR_DOM_STATUS.STATE 6) 3), .cxl, .A, by decide +kernel⟩,
    ⟨(State.reset.set (F.PWR_DOM_STATUS.STATE 6) 3).set (F.FURROW_TX_RESP.BUSY .A) 1, .cxl, .A, by decide +kernel⟩,
    ⟨State.reset.set (F.FURROW_TX_RESP.BUSY .B) 1, .B, by decide +kernel⟩,
    ⟨State.reset.withPlan.set (F.FURROW_TX_SC_POWER.OFFSET .A 3) 5, .A, 3, by decide +kernel⟩,
    ⟨State.reset, .A, 15, by decide +kernel⟩,
    ⟨State.reset.set (F.FURROW_TX_SKEW_YQ.SKEW .A) 5, .A, by decide +kernel⟩,
    ⟨State.reset.set (F.FURROW_TX_IQ_X.GAIN .A) 5, .A, by decide +kernel⟩,
    ⟨[0, 5], by decide +kernel⟩,
    ⟨State.reset.set (F.FURROW_TX_RESP.BOOST .A) 3, .A, [4], by decide +kernel⟩⟩

/-- Hypotheses of O21 are met. -/
theorem witness_EntropyStepsStagedAndArmed :
    (∃ (s : State) (c : Carrier) (sub : Fin 16), s.isDown (R.FURROW_TX_SC_ENTROPY c sub) = false ∧ sub.val < s.subCount c ∧ s.stepArmed c = false) ∧
    (∃ (s : State) (c : Carrier) (sub : Fin 16) (path : Path), s.isDown (R.FURROW_TX_SC_ENTROPY c sub) = false ∧ sub.val < s.subCount c ∧ path ≠ .plough) ∧
    (∃ (s : State) (c : Carrier) (sub : Fin 16), s.isDown (R.FURROW_TX_SC_ENTROPY c sub) = false ∧ s.subCount c ≤ sub.val) ∧
    (∃ (s : State) (c : Carrier) (sub : Fin 16), s.isDown (R.FURROW_TX_SC_ENTROPY c sub) = false ∧ sub.val < s.subCount c ∧ s.stepArmed c = true) ∧
    (∃ (s : State) (c : Carrier) (path : Path), s.isDown (R.FURROW_TX_STEP c) = false ∧ path ≠ .plough) ∧
    (∃ (s : State) (c : Carrier), s.isDown (R.FURROW_TX_STEP c) = false ∧ s.stepArmed c = true) ∧
    (∃ (s : State) (c : Carrier) (mf : Nat), s.isDown (R.FURROW_TX_STEP c) = false ∧ s.stepArmed c = false ∧ s.armReason c (mf % 2 ^ 24) ≠ 0) ∧
    (∃ (s : State) (c : Carrier) (mf : Nat), s.isDown (R.FURROW_TX_STEP c) = false ∧ s.stepArmed c = false ∧ s.armReason c (mf % 2 ^ 24) = 0) ∧
    (∃ (s : State) (c : Carrier), s.isDown (R.FURROW_TX_STEP c) = false) ∧
    (∃ (s : State) (c : Carrier), s.stepArmed c = true ∧ s.subCount c ≤ 16 ∧ s.txMf c = s.get (F.FURROW_TX_STEP.STEP_MF c)) :=
  ⟨⟨((State.reset.set (F.PWR_DOM_STATUS.STATE 6) 3).withPlan.set (F.FURROW_TX_SC_RANGE.MAX .A 0) 64), .A, 0, by decide +kernel⟩,
    ⟨((State.reset.set (F.PWR_DOM_STATUS.STATE 6) 3).withPlan.set (F.FURROW_TX_SC_RANGE.MAX .A 0) 64), .A, 0, .cxl, by decide +kernel⟩,
    ⟨((State.reset.set (F.PWR_DOM_STATUS.STATE 6) 3).withPlan.set (F.FURROW_TX_SC_RANGE.MAX .A 0) 64), .A, 15, by decide +kernel⟩,
    ⟨((State.reset.set (F.PWR_DOM_STATUS.STATE 6) 3).withPlan.set (F.FURROW_TX_SC_RANGE.MAX .A 0) 64).set (F.FURROW_TX_STEP.ARMED .A) 1, .A, 0, by decide +kernel⟩,
    ⟨(State.reset.set (F.PWR_DOM_STATUS.STATE 6) 3), .A, .wmp 1, by decide +kernel⟩,
    ⟨(State.reset.set (F.PWR_DOM_STATUS.STATE 6) 3).set (F.FURROW_TX_STEP.ARMED .A) 1, .A, by decide +kernel⟩,
    ⟨(State.reset.set (F.PWR_DOM_STATUS.STATE 6) 3), .A, 100, by decide +kernel⟩,
    ⟨(State.reset.set (F.PWR_DOM_STATUS.STATE 6) 3).withPlanTx, .A, 65, by decide +kernel⟩,
    ⟨(State.reset.set (F.PWR_DOM_STATUS.STATE 6) 3), .A, by decide +kernel⟩,
    ⟨(State.reset.withPlan.set (F.FURROW_TX_STEP.ARMED .A) 1).set (F.FURROW_TX_SC_ENTROPY.TARGET .A 3) 80, .A, by decide +kernel⟩⟩

/-- Hypotheses of O22 are met. -/
theorem witness_FrameAlignmentFollowsTable53 :
    (∃ (s : State) (c : Carrier) (signs : List Byte), s.fawMatches c signs = true ∧ s.hunts c = true ∧ s.alignState c = 0) ∧
    (∃ (s : State) (c : Carrier) (pos : Nat) (signs : List Byte), s.fawMatches c signs = true ∧ s.hunts c = true ∧ s.alignState c = 1 ∧ pos = (s.line.at c).expected ∧ (s.line.at c).hits + 1 < s.get (F.LINK_ALIGN_CFG.HITS c)) ∧
    (∃ (s : State) (c : Carrier) (pos : Nat) (signs : List Byte), s.fawMatches c signs = true ∧ s.hunts c = true ∧ s.alignState c = 1 ∧ pos = (s.line.at c).expected ∧ s.get (F.LINK_ALIGN_CFG.HITS c) ≤ (s.line.at c).hits + 1) ∧
    (∃ (s : State) (c : Carrier) (pos : Nat) (signs : List Byte), s.fawMatches c signs = true ∧ s.hunts c = true ∧ s.alignState c = 2 ∧ pos = (s.line.at c).expected) ∧
    (∃ (s : State) (c : Carrier) (pos : Nat) (signs : List Byte), (s.fawMatches c signs = false ∨ s.hunts c = false ∨ (s.alignState c ≠ 0 ∧ pos ≠ (s.line.at c).expected))) ∧
    (∃ (s : State) (c : Carrier) (signs : List Byte), s.fawMatches c signs = false ∧ s.alignState c = 1) ∧
    (∃ (s : State) (c : Carrier) (signs : List Byte), s.fawMatches c signs = false ∧ s.alignState c = 2 ∧ (s.line.at c).misses + 1 < s.get (F.LINK_ALIGN_CFG.MISS c)) ∧
    (∃ (s : State) (c : Carrier) (signs : List Byte), s.fawMatches c signs = false ∧ s.alignState c = 2 ∧ s.get (F.LINK_ALIGN_CFG.MISS c) ≤ (s.line.at c).misses + 1) ∧
    (∃ (s : State) (c : Carrier) (signs : List Byte), (s.fawMatches c signs = true ∨ (s.alignState c ≠ 1 ∧ s.alignState c ≠ 2))) ∧
    (∃ (s : State) (path : Path) (c : Carrier), s.mayWrite path (R.LINK_ALIGN_CFG c)) :=
  ⟨⟨(State.reset.set (F.FURROW_RX_STATE.STATE .A) 9).set (F.LINK_ALIGN_STATUS.STATE .A) 0, .A, faw, by decide +kernel⟩,
    ⟨((State.reset.set (F.FURROW_RX_STATE.STATE .A) 9).set (F.LINK_ALIGN_STATUS.STATE .A) 1 |>.set (F.LINK_ALIGN_CFG.HITS .A) 3).onLine .A fun l => { l with expected := 500, hits := 1 }, .A, 500, faw, by decide +kernel⟩,
    ⟨((State.reset.set (F.FURROW_RX_STATE.STATE .A) 9).set (F.LINK_ALIGN_STATUS.STATE .A) 1 |>.set (F.LINK_ALIGN_CFG.HITS .A) 2).onLine .A fun l => { l with expected := 500, hits := 1 }, .A, 500, faw, by decide +kernel⟩,
    ⟨((State.reset.set (F.FURROW_RX_STATE.STATE .A) 9).set (F.LINK_ALIGN_STATUS.STATE .A) 2).onLine .A fun l => { l with expected := 500, misses := 1 }, .A, 500, faw, by decide +kernel⟩,
    ⟨((State.reset.set (F.FURROW_RX_STATE.STATE .A) 9).set (F.LINK_ALIGN_STATUS.STATE .A) 2).onLine .A fun l => { l with expected := 500, misses := 1 }, .A, 501, faw, by decide +kernel⟩,
    ⟨(State.reset.set (F.FURROW_RX_STATE.STATE .A) 9).set (F.LINK_ALIGN_STATUS.STATE .A) 1, .A, [], by decide +kernel⟩,
    ⟨(State.reset.set (F.FURROW_RX_STATE.STATE .A) 9).set (F.LINK_ALIGN_STATUS.STATE .A) 2 |>.set (F.LINK_ALIGN_CFG.MISS .A) 2, .A, [], by decide +kernel⟩,
    ⟨((State.reset.set (F.FURROW_RX_STATE.STATE .A) 9).set (F.LINK_ALIGN_STATUS.STATE .A) 2 |>.set (F.LINK_ALIGN_CFG.MISS .A) 2).onLine .A fun l => { l with expected := 500, misses := 1 }, .A, [], by decide +kernel⟩,
    ⟨(State.reset.set (F.FURROW_RX_STATE.STATE .A) 9).set (F.LINK_ALIGN_STATUS.STATE .A) 0, .A, [], by decide +kernel⟩,
    ⟨(State.reset.set (F.FURROW_RX_STATE.STATE .A) 9).set (F.LINK_ALIGN_STATUS.STATE .A) 2, .cxl, .A, by decide +kernel⟩⟩

/-- Hypotheses of O23 are met. -/
theorem witness_FramesNumbersAndCells :
    (∃ (s : State) (c : Carrier), s.on (F.LINE_TX_CTRL.ENABLED c) = true) ∧
    (∃ (s : State) (c : Carrier), (s.line.at c).started = true) ∧
    (∃ (s : State) (path : Path) (c : Carrier), s.mayWrite path (R.LINK_NUMBERING c) ∧ s.get (F.LINK_NUMBERING.ROLE c) = 2 ∧ 2 ≤ s.get (F.LINK_STATE.FRAME_MAJOR c)) ∧
    (∃ (s : State) (c : Carrier) (bytes : List Byte), s.alignState c = 2 ∧ overheadDecode bytes = none) ∧
    (∃ (s : State) (c : Carrier) (n : Nat) (bytes : List Byte) (info : List Byte), s.alignState c = 2 ∧ overheadDecode bytes = some (info, n)) ∧
    (∃ (s : State) (c : Carrier), s.alignState c ≠ 2) ∧
    (∃ (cell : List Byte), (nth cell 0 0).toNat < 0x80) ∧
    (∃ (s : State) (c : Carrier) (cell : List Byte), (nth cell 0 0).toNat = 0xC0 ∧ 1 ≤ (nth cell 2 0).toNat ∧ (nth cell 2 0).toNat ≤ 28 ∧ cellsHeld (s.line.at c).rxMsgs < 64 ∧ (s.line.at c).asm = none ∧ (s.line.at c).rxSeq = none) ∧
    (∃ (code : Nat) (r : Nat) (z : Nat), r < parityGroups code ∧ z < groupBits) :=
  ⟨⟨State.reset.set (F.LINE_TX_CTRL.ENABLED .A) 1, .A, by decide +kernel⟩,
    ⟨State.reset.onLine .A fun l => { l with started := true, slip := 2 }, .A, by decide +kernel⟩,
    ⟨(State.reset.set (F.LINK_NUMBERING.ROLE .A) 2).set (F.LINK_STATE.FRAME_MAJOR .A) 2, .plough, .A, by decide +kernel⟩,
    ⟨(State.reset.set (F.FURROW_RX_STATE.STATE .A) 9).set (F.LINK_ALIGN_STATUS.STATE .A) 2, .A, (List.replicate 16 0 ++ [1]), by decide +kernel⟩,
    ⟨(State.reset.set (F.FURROW_RX_STATE.STATE .A) 9).set (F.LINK_ALIGN_STATUS.STATE .A) 2, .A, 0, (List.replicate 512 0), List.replicate 448 0, by decide +kernel⟩,
    ⟨(State.reset.set (F.FURROW_RX_STATE.STATE .A) 9).set (F.LINK_ALIGN_STATUS.STATE .A) 1, .A, by decide +kernel⟩,
    ⟨[0x7F], by decide +kernel⟩,
    ⟨State.reset, .A, [0xC0, 7, 28, 0] ++ List.replicate 28 9, by decide +kernel⟩,
    ⟨2, 218, 95, by decide +kernel⟩⟩

/-- Hypotheses of O24 are met. -/
theorem witness_DecoderCountersAndReceiveSteps :
    (∃ (s : State) (c : Carrier), (s.line.at c).counting = true ∧ (s.line.at c).live.length = 4) ∧
    (∃ (s : State) (c : Carrier), (s.line.at c).counting = false) ∧
    (∃ (s : State) (path : Path) (c : Carrier), s.mayWrite path (R.FEC_CTRL c) ∧ (s.line.at c).snap = none) ∧
    (∃ (s : State) (path : Path) (c : Carrier), s.mayWrite path (R.FEC_CTRL c) ∧ (s.line.at c).snap.isSome = true) ∧
    (∃ (s : State) (c : Carrier) (clear : Bool), (s.line.at c).snap = some clear ∧ (s.line.at c).live.length = 4) ∧
    (∃ (s : State) (c : Carrier) (bits : Nat), (s.line.at c).counting = true ∧ bits ≠ 0) ∧
    (∃ (s : State) (c : Carrier), s.isDown (R.LINK_RX_STEP c) = false ∧ s.on (F.LINK_RX_STEP.ARMED c) = false) ∧
    (∃ (s : State) (path : Path) (c : Carrier), s.isDown (R.LINK_RX_STEP c) = false ∧ (path ≠ .plough ∨ s.on (F.LINK_RX_STEP.ARMED c) = true)) ∧
    (∃ (s : State) (c : Carrier), s.on (F.LINK_RX_STEP.ARMED c) = true ∧ s.on (F.LINK_RX_STEP.MATCHED c) = false ∧ mfAhead (s.get (F.LINK_RX_STEP.MF c)) (s.rxMf c) ≤ 8) ∧
    (∃ (s : State) (c : Carrier), s.on (F.LINK_RX_STEP.ARMED c) = true) ∧
    (∃ (s : State), s.bistRuns = false) :=
  ⟨⟨State.reset.onLine .A fun l => { l with counting := true }, .A, by decide +kernel⟩,
    ⟨State.reset, .A, by decide +kernel⟩,
    ⟨State.reset.set (F.PWR_DOM_STATUS.STATE 19) 3, .cxl, .A, by decide +kernel⟩,
    ⟨(State.reset.set (F.PWR_DOM_STATUS.STATE 19) 3).onLine .A fun l => { l with snap := some true }, .cxl, .A, by decide +kernel⟩,
    ⟨State.reset.onLine .A fun l => { l with snap := some true }, .A, true, by decide +kernel⟩,
    ⟨State.reset.onLine .A fun l => { l with counting := true }, .A, 268435456, by decide +kernel⟩,
    ⟨State.reset, .A, by decide +kernel⟩,
    ⟨State.reset, .cxl, .A, by decide +kernel⟩,
    ⟨State.reset.set (F.LINK_RX_STEP.ARMED .A) 1, .A, by decide +kernel⟩,
    ⟨State.reset.set (F.LINK_RX_STEP.ARMED .A) 1, .A, by decide +kernel⟩,
    ⟨State.reset, by decide +kernel⟩⟩

/-- Hypotheses of O25 are met. -/
theorem witness_LinkStatesFollowTable62 :
    (∃ (s : State) (c : Carrier), s.cpu = 2 ∧ s.linkState c = 1 ∧ s.locked c = true) ∧
    (∃ (s : State) (c : Carrier), s.cpu = 2 ∧ s.linkState c = 5 ∧ s.locked c = true ∧ s.get (F.LINK_STATE.BACKOFF c) = 0) ∧
    (∃ (s : State) (c : Carrier), s.cpu = 2 ∧ s.linkState c = 3 ∧ (s.link.at c).eTaken = true ∧ (s.adopts c = false ∨ (if s.get (F.LINK_NUMBERING.ROLE c) = 2 then (s.line.at c).adopted else (s.line.at c).jumped) = true)) ∧
    (∃ (s : State) (c : Carrier), s.cpu = 2 ∧ (s.linkState c ≠ 3 ∨ (s.link.at c).eTaken = false ∨ (s.adopts c = true ∧ (if s.get (F.LINK_NUMBERING.ROLE c) = 2 then (s.line.at c).adopted else (s.line.at c).jumped) = false))) ∧
    (∃ (s : State) (c : Carrier), s.cpu = 2 ∧ s.linkState c = 3) ∧
    (∃ (s : State) (c : Carrier), s.cpu = 2 ∧ (s.linkState c = 2 ∨ s.linkState c = 3 ∨ s.linkState c = 4 ∨ s.linkState c = 6) ∧ s.locked c = false) ∧
    (∃ (s : State) (c : Carrier), s.cpu = 2 ∧ s.linkState c = 5) ∧
    (∃ (s : State) (c : Carrier), s.cpu = 2 ∧ s.linkState c = 6 ∧ s.locked c = true) ∧
    (∃ (s : State) (path : Path) (c : Carrier), s.cpu = 2 ∧ s.mayWrite path (R.LINK_MGR_CTRL c) ∧ s.linkState c = 4 ∧ s.locked c = true) ∧
    (∃ (s : State) (path : Path) (c : Carrier), s.cpu = 2 ∧ s.mayWrite path (R.LINK_MGR_CTRL c) ∧ s.linkState c = 6 ∧ s.locked c = true) ∧
    (∃ (s : State) (c : Carrier), s.isDown (R.LINK_MGR_CTRL c) = false ∧ (s.linkState c = 4 ∨ s.on (F.LINK_RX_STEP.ARMED c) = true)) ∧
    (∃ (s : State) (c : Carrier) (path : Path), s.isDown (R.LINK_MGR_CTRL c) = false ∧ path ≠ .plough) ∧
    (∃ (s : State) (c : Carrier), s.isDown (R.LINK_MGR_CTRL c) = false ∧ s.linkState c ≠ 4 ∧ s.on (F.LINK_RX_STEP.ARMED c) = false) ∧
    (∃ (s : State) (c : Carrier) (e : List Nat) (b : List Nat), (s.line.at c).taken = some (e, b)) ∧
    (∃ (s : State) (c : Carrier) (tag : Nat), s.cpu = 2 ∧ (s.link.at c).capsTag = some tag ∧ (s.link.at c).ackSeen = none ∧ (s.link.at c).capsSends < 4) ∧
    (∃ (s : State) (c : Carrier) (tag : Nat), s.cpu = 2 ∧ (s.link.at c).capsTag = some tag ∧ (s.link.at c).ackSeen = none ∧ 4 ≤ (s.link.at c).capsSends ∧ s.linkState c = 2) ∧
    (∃ (s : State) (c : Carrier) (request : Fin 3) (p : Proposal), s.cpu = 2 ∧ request ≠ 0 ∧ kindOf (s.link.at c).own request = some p ∧ p.cstate = 1 ∧ p.sends < 4) ∧
    (∃ (s : State) (c : Carrier) (request : Fin 3) (p : Proposal), s.cpu = 2 ∧ request ≠ 0 ∧ kindOf (s.link.at c).own request = some p ∧ p.cstate = 1 ∧ 4 ≤ p.sends) ∧
    (∃ (s : State), s.cpu ≠ 2) ∧
    (∃ (s : State), s.cpu ≠ 2) ∧
    (∃ (s : State), s.cpu ≠ 2) ∧
    (∃ (s : State), s.cpu ≠ 2) ∧
    (∃ (s : State), s.cpu ≠ 2) ∧
    (∃ (s : State), s.cpu ≠ 2) ∧
    (∃ (s : State), s.cpu ≠ 2) :=
  ⟨⟨(((((State.reset.set F.CPU_STATUS.STATE 2).set (F.LINK_STATE.STATE .A) 1).set (F.LINK_ALIGN_STATUS.STATE .A) 2).set (F.LINK_ALIGN_STATUS.MF_LOCK .A) 1)), .A, by decide +kernel⟩,
    ⟨(((((State.reset.set F.CPU_STATUS.STATE 2).set (F.LINK_STATE.STATE .A) 5).set (F.LINK_ALIGN_STATUS.STATE .A) 2).set (F.LINK_ALIGN_STATUS.MF_LOCK .A) 1)), .A, by decide +kernel⟩,
    ⟨(((State.reset.set F.CPU_STATUS.STATE 2).set (F.LINK_STATE.STATE .A) 3).onLink .A fun k => { k with eTaken := true }), .A, by decide +kernel⟩,
    ⟨(((State.reset.set F.CPU_STATUS.STATE 2).set (F.LINK_STATE.STATE .A) 3)), .A, by decide +kernel⟩,
    ⟨(((State.reset.set F.CPU_STATUS.STATE 2).set (F.LINK_STATE.STATE .A) 3)), .A, by decide +kernel⟩,
    ⟨(((State.reset.set F.CPU_STATUS.STATE 2).set (F.LINK_STATE.STATE .A) 4)), .A, by decide +kernel⟩,
    ⟨(((State.reset.set F.CPU_STATUS.STATE 2).set (F.LINK_STATE.STATE .A) 5)), .A, by decide +kernel⟩,
    ⟨(((((State.reset.set F.CPU_STATUS.STATE 2).set (F.LINK_STATE.STATE .A) 6).set (F.LINK_ALIGN_STATUS.STATE .A) 2).set (F.LINK_ALIGN_STATUS.MF_LOCK .A) 1)), .A, by decide +kernel⟩,
    ⟨(((((State.reset.set F.CPU_STATUS.STATE 2).set (F.LINK_STATE.STATE .A) 4).set (F.LINK_ALIGN_STATUS.STATE .A) 2).set (F.LINK_ALIGN_STATUS.MF_LOCK .A) 1)), .cxl, .A, by decide +kernel⟩,
    ⟨(((((State.reset.set F.CPU_STATUS.STATE 2).set (F.LINK_STATE.STATE .A) 6).set (F.LINK_ALIGN_STATUS.STATE .A) 2).set (F.LINK_ALIGN_STATUS.MF_LOCK .A) 1)), .cxl, .A, by decide +kernel⟩,
    ⟨((State.reset.set (F.LINK_STATE.STATE .A) 4)), .A, by decide +kernel⟩,
    ⟨((State.reset.set (F.LINK_STATE.STATE .A) 3)), .A, .cxl, by decide +kernel⟩,
    ⟨((State.reset.set (F.LINK_STATE.STATE .A) 3)), .A, by decide +kernel⟩,
    ⟨State.reset.onLine .A fun l => { l with taken := some ([80], [1]) }, .A, [80], [1], by decide +kernel⟩,
    ⟨(State.reset.set F.CPU_STATUS.STATE 2).onLink .A fun k => { k with capsTag := some 9, capsSends := 3 }, .A, 9, by decide +kernel⟩,
    ⟨(((State.reset.set F.CPU_STATUS.STATE 2).set (F.LINK_STATE.STATE .A) 2).onLink .A fun k => { k with capsTag := some 9, capsSends := 4 }), .A, 9, by decide +kernel⟩,
    ⟨(State.reset.set F.CPU_STATUS.STATE 2).onLink .A fun k => { k with own := [⟨2, 1000, false, 1, 4, [], 3⟩] }, .A, 2, ⟨2, 1000, false, 1, 4, [], 3⟩, by decide +kernel⟩,
    ⟨(State.reset.set F.CPU_STATUS.STATE 2).onLink .A fun k => { k with own := [⟨2, 1000, false, 1, 4, [], 4⟩] }, .A, 2, ⟨2, 1000, false, 1, 4, [], 4⟩, by decide +kernel⟩,
    ⟨((((State.reset.set (F.LINK_STATE.STATE .A) 1).set (F.LINK_ALIGN_STATUS.STATE .A) 2).set (F.LINK_ALIGN_STATUS.MF_LOCK .A) 1)), by decide +kernel⟩,
    ⟨((State.reset.set (F.LINK_STATE.STATE .A) 4)), by decide +kernel⟩,
    ⟨((State.reset.set (F.LINK_STATE.STATE .A) 3)), by decide +kernel⟩,
    ⟨((((State.reset.set (F.LINK_STATE.STATE .A) 5).set (F.LINK_ALIGN_STATUS.STATE .A) 2).set (F.LINK_ALIGN_STATUS.MF_LOCK .A) 1)), by decide +kernel⟩,
    ⟨State.reset, by decide +kernel⟩,
    ⟨State.reset, by decide +kernel⟩,
    ⟨State.reset, by decide +kernel⟩⟩

/-- Hypotheses of O26 are met. -/
theorem witness_CapabilitiesAreSettledAlike :
    (∃ (s : State) (c : Carrier) (body : List Byte) (k : Caps) (g : Agreed), s.cpu = 2 ∧ (s.linkState c = 2 ∨ s.linkState c = 3 ∨ s.linkState c = 4) ∧ (s.link.at c).answered = none ∧ (s.link.at c).ackSeen = none ∧ capsOf body = some k ∧ agree (s.ownCaps c) k = some g ∧ sameConfig (s.ownCaps c) k = true ∧ s.jointPeerOk c k.node = true) ∧
    (∃ (s : State) (c : Carrier) (body : List Byte) (k : Caps), s.cpu = 2 ∧ (s.linkState c = 2 ∨ s.linkState c = 3 ∨ s.linkState c = 4) ∧ (s.link.at c).answered = none ∧ capsOf body = some k ∧ agree (s.ownCaps c) k = none) ∧
    (∃ (s : State) (c : Carrier) (body : List Byte), s.cpu = 2 ∧ (s.link.at c).answered = none ∧ body.length ≠ 28) ∧
    (∃ (s : State) (c : Carrier) (tag : Nat) (body : List Byte) (g : Agreed), s.cpu = 2 ∧ (s.link.at c).capsTag = some tag ∧ (s.link.at c).agreed = some g ∧ body = g.body ∧ s.linkState c = 2) :=
  ⟨⟨(((State.reset.set F.CPU_STATUS.STATE 2).set (F.LINK_STATE.STATE .A) 2).onPlan fun q => { q with running := some ⟨0, 1, 1, [⟨6, 0, 0, [2, 0, 0, 0, 5, 0, 0, 0]⟩]⟩ }), .A, (Caps.body ⟨7, 1, 2, 0, 1, 2, 0, 16, 0, 5, 0, 0, 0, 0, 0, 0, 0⟩), ⟨7, 1, 2, 0, 1, 2, 0, 16, 0, 5, 0, 0, 0, 0, 0, 0, 0⟩, ⟨32, 32, 5⟩, by decide +kernel⟩,
    ⟨(((State.reset.set F.CPU_STATUS.STATE 2).set (F.LINK_STATE.STATE .A) 2)), .A, (Caps.body ⟨7, 1, 2, 0, 1, 2, 0, 16, 0, 5, 0, 0, 0, 0, 0, 0, 0⟩), ⟨7, 1, 2, 0, 1, 2, 0, 16, 0, 5, 0, 0, 0, 0, 0, 0, 0⟩, by decide +kernel⟩,
    ⟨(((State.reset.set F.CPU_STATUS.STATE 2).set (F.LINK_STATE.STATE .A) 2)), .A, [], by decide +kernel⟩,
    ⟨(((State.reset.set F.CPU_STATUS.STATE 2).set (F.LINK_STATE.STATE .A) 2).onLink .A fun k => { k with capsTag := some 3, agreed := some ⟨32, 32, 5⟩ }), .A, 3, (Agreed.body ⟨32, 32, 5⟩), ⟨32, 32, 5⟩, by decide +kernel⟩⟩

/-- Hypotheses of O27 are met. -/
theorem witness_HeadlandMessagesAreHandled :
    (∃ (s : State) (c : Carrier), s.cpu = 2 ∧ s.linkState c ≠ 0 ∧ s.txState c = 2 ∧ s.on F.HEADLAND_TX_CTRL.BUSY = true) ∧
    (∃ (s : State) (c : Carrier), s.cpu = 2 ∧ s.linkState c ≠ 0 ∧ s.txState c = 2 ∧ s.on F.HEADLAND_TX_CTRL.BUSY = false ∧ s.head.waiting = [] ∧ s.headlandRefusal c = none) ∧
    (∃ (s : State) (c : Carrier), s.cpu = 2 ∧ (s.linkState c = 0 ∨ s.txState c ≠ 2)) ∧
    (∃ (s : State) (bytes : List Byte), s.cpu = 2 ∧ bytes.length = 32 ∧ beNat (slice bytes 0 1) = 1 ∧ beNat (slice bytes 2 4) ≠ s.nodeId ∧ s.nbFind (beNat (slice bytes 2 4)) = none) ∧
    (∃ (s : State) (bytes : List Byte), s.cpu = 2 ∧ bytes.length = 32 ∧ beNat (slice bytes 0 1) = 1 ∧ beNat (slice bytes 2 4) = s.nodeId ∧ s.nbFind s.nodeId = none) ∧
    (∃ (s : State) (bytes : List Byte), s.cpu = 2 ∧ (bytes.length ≠ 32 ∨ beNat (slice bytes 0 1) ≠ 1)) ∧
    (∃ (s : State) (bytes : List Byte), s.cpu = 2 ∧ (bytes.length ≠ 6 ∨ beNat (slice bytes 0 1) ≠ 2)) ∧
    (∃ (s : State) (bytes : List Byte), s.cpu = 2 ∧ (bytes.length ≠ 10 ∨ beNat (slice bytes 0 1) ≠ 3)) ∧
    (∃ (s : State) (bytes : List Byte), s.cpu = 2 ∧ bytes.length = 10 ∧ beNat (slice bytes 0 1) = 3 ∧ beNat (slice bytes 6 4) ≠ s.nodeId) ∧
    (∃ (s : State) (bytes : List Byte), s.cpu = 2 ∧ bytes.length = 6 ∧ beNat (slice bytes 0 1) = 2 ∧ beNat (slice bytes 2 4) ≠ s.nodeId ∧ beNat (slice bytes 2 4) ≠ 0xFFFFFFFF) ∧
    (∃ (s : State) (bytes : List Byte), s.cpu = 2 ∧ bytes.length = 6 ∧ beNat (slice bytes 0 1) = 2 ∧ (beNat (slice bytes 2 4) = s.nodeId ∨ beNat (slice bytes 2 4) = 0xFFFFFFFF)) ∧
    (∃ (s : State) (bytes : List Byte), s.cpu = 2 ∧ bytes.length = 6 ∧ beNat (slice bytes 0 1) = 2 ∧ (beNat (slice bytes 2 4) = s.nodeId ∨ beNat (slice bytes 2 4) = 0xFFFFFFFF) ∧ s.on F.HEADLAND_TX_CTRL.BUSY = true ∧ s.linkState .A ≠ 0 ∧ s.txState .A = 2 ∧ s.linkState .B ≠ 0 ∧ s.txState .B = 2) ∧
    (∃ (s : State) (bytes : List Byte), s.cpu = 2 ∧ bytes.length = 10 ∧ beNat (slice bytes 0 1) = 3 ∧ beNat (slice bytes 6 4) = s.nodeId) ∧
    (∃ (s : State) (entry : Fin 16), s.cpu = 2 ∧ s.nbNode entry ≠ 0) ∧
    (∃ (s : State), s.cpu ≠ 2) ∧
    (∃ (s : State), s.cpu ≠ 2) ∧
    (∃ (s : State), s.cpu ≠ 2) ∧
    (∃ (s : State), s.cpu ≠ 2) ∧
    (∃ (s : State), s.cpu ≠ 2) :=
  ⟨⟨(((State.reset.set F.CPU_STATUS.STATE 2).set (F.LINK_STATE.STATE .A) 4).set (F.LINE_TX_CTRL.TX_STATE .A) 2 |>.set F.HEADLAND_TX_CTRL.BUSY 1), .A, by decide +kernel⟩,
    ⟨(((State.reset.set F.CPU_STATUS.STATE 2).set (F.LINK_STATE.STATE .A) 4).set (F.LINE_TX_CTRL.TX_STATE .A) 2 |>.withPlan |>.set (F.FURROW_TX_CTRL.HL_INJECT .A) 1 |>.set (F.LINE_TX_CTRL.ENABLED .A) 1), .A, by decide +kernel⟩,
    ⟨(State.reset.set F.CPU_STATUS.STATE 2), .A, by decide +kernel⟩,
    ⟨(State.reset.set F.CPU_STATUS.STATE 2), ([1, 0x10, 0, 0, 0, 5, 0, 9, 1, 2] ++ List.replicate 22 0), by decide +kernel⟩,
    ⟨((State.reset.set F.CPU_STATUS.STATE 2).onPlan fun q => { q with running := some ⟨0, 1, 1, [⟨6, 0, 0, [2, 0, 0, 0, 5, 0, 0, 0]⟩]⟩ }), ([1, 0x10, 0, 0, 0, 5, 0, 9, 1, 2] ++ List.replicate 22 0), by decide +kernel⟩,
    ⟨(State.reset.set F.CPU_STATUS.STATE 2), [1], by decide +kernel⟩,
    ⟨(State.reset.set F.CPU_STATUS.STATE 2), [1], by decide +kernel⟩,
    ⟨(State.reset.set F.CPU_STATUS.STATE 2), [1], by decide +kernel⟩,
    ⟨(State.reset.set F.CPU_STATUS.STATE 2), [3, 0, 0, 0, 0, 5, 0, 0, 0, 9], by decide +kernel⟩,
    ⟨(State.reset.set F.CPU_STATUS.STATE 2), [2, 0, 0, 0, 0, 5], by decide +kernel⟩,
    ⟨(State.reset.set F.CPU_STATUS.STATE 2), [2, 0, 0xFF, 0xFF, 0xFF, 0xFF], by decide +kernel⟩,
    ⟨(((State.reset.set F.CPU_STATUS.STATE 2).set (F.LINK_STATE.STATE .A) 4).set (F.LINE_TX_CTRL.TX_STATE .A) 2 |>.set F.HEADLAND_TX_CTRL.BUSY 1 |>.set (F.LINK_STATE.STATE .B) 1 |>.set (F.LINE_TX_CTRL.TX_STATE .B) 2), [2, 0, 0xFF, 0xFF, 0xFF, 0xFF], by decide +kernel⟩,
    ⟨(State.reset.set F.CPU_STATUS.STATE 2), [3, 0, 0, 0, 0, 5, 0, 0, 0, 0], by decide +kernel⟩,
    ⟨(State.reset.set F.CPU_STATUS.STATE 2).set (F.LINK_NB_NODE.NODE 15) 5, 15, by decide +kernel⟩,
    ⟨State.reset, by decide +kernel⟩,
    ⟨State.reset, by decide +kernel⟩,
    ⟨State.reset, by decide +kernel⟩,
    ⟨State.reset, by decide +kernel⟩,
    ⟨State.reset, by decide +kernel⟩⟩

/-- Hypotheses of O28 are met. -/
theorem witness_TwoWayCommitFollowsR135ToR139 :
    (∃ (s : State) (c : Carrier) (mf : Nat), s.cpu = 2 ∧ s.changeNak c 1 = none ∧ kindOf (s.link.at c).own 1 = none ∧ mfAtLeast mf (s.txMf c) (s.leastLead c) = true ∧ (s.heldMfs c).contains mf = false ∧ s.hState = 2) ∧
    (∃ (s : State) (c : Carrier) (mf : Nat), s.cpu = 2 ∧ s.changeNak c 2 = none ∧ kindOf (s.link.at c).own 2 = none ∧ mfAtLeast mf (s.txMf c) (s.leastLead c) = true ∧ (s.heldMfs c).contains mf = false ∧ (s.link.at c).own = [] ∧ (s.link.at c).held = []) ∧
    (∃ (s : State) (c : Carrier) (body : List Byte), s.cpu = 2 ∧ (s.link.at c).answered = none ∧ body.length = 26 ∧ (beNat (slice body 0 1) = 1 ∨ beNat (slice body 0 1) = 2) ∧ beNat (slice body 1 1) = 0 ∧ s.proposeNak c (beNat (slice body 0 1)) (beNat (slice body 2 3)) false = none ∧ (s.link.at c).own = []) ∧
    (∃ (s : State) (c : Carrier) (n : Nat) (body : List Byte), s.cpu = 2 ∧ (s.link.at c).answered = none ∧ body.length = 26 ∧ (beNat (slice body 0 1) = 1 ∨ beNat (slice body 0 1) = 2) ∧ beNat (slice body 1 1) = 0 ∧ s.proposeNak c (beNat (slice body 0 1)) (beNat (slice body 2 3)) false = some n) ∧
    (∃ (s : State) (c : Carrier) (tag : Nat) (rtt : Nat) (body : List Byte) (p : Proposal), s.cpu = 2 ∧ body.length = 6 ∧ (beNat (slice body 0 1) = 1 ∨ beNat (slice body 0 1) = 2) ∧ kindOf (s.link.at c).own (beNat (slice body 0 1)) = some p ∧ p.cstate = 1 ∧ p.m = beNat (slice body 2 3) ∧ mfAtLeast p.m (s.txMf c) ((s.setSat (F.LINK_RTT.RTT c) rtt).armLead c) = true ∧ p.tag = tag) ∧
    (∃ (s : State) (c : Carrier) (tag : Nat) (rtt : Nat) (body : List Byte) (p : Proposal), s.cpu = 2 ∧ body.length = 6 ∧ (beNat (slice body 0 1) = 1 ∨ beNat (slice body 0 1) = 2) ∧ kindOf (s.link.at c).own (beNat (slice body 0 1)) = some p ∧ p.cstate = 1 ∧ p.m = beNat (slice body 2 3) ∧ mfAtLeast p.m (s.txMf c) ((s.setSat (F.LINK_RTT.RTT c) rtt).armLead c) = false ∧ p.tag = tag) ∧
    (∃ (s : State) (c : Carrier) (p : Proposal), s.cpu = 2 ∧ kindOf (s.link.at c).own 1 = some p ∧ p.cstate = 2 ∧ p.m < 2 ^ 24 ∧ s.hState = 2 ∧ mfAtLeast p.m (s.txMf c) 65 = true ∧ s.stepArmed .A = false ∧ s.stepArmed .B = false) ∧
    (∃ (s : State) (c : Carrier) (body : List Byte) (p : Proposal), s.cpu = 2 ∧ body.length = 6 ∧ beNat (slice body 0 1) = 2 ∧ kindOf (s.link.at c).held 2 = some p ∧ p.cstate = 2 ∧ p.m = beNat (slice body 2 3) ∧ mfAtLeast p.m (s.rxMf c) 65 = true ∧ s.on (F.LINK_RX_STEP.ARMED c) = false) ∧
    (∃ (s : State) (c : Carrier) (body : List Byte) (p : Proposal), s.cpu = 2 ∧ body.length = 6 ∧ (beNat (slice body 0 1) = 1 ∨ beNat (slice body 0 1) = 2) ∧ kindOf (s.link.at c).held (beNat (slice body 0 1)) = some p ∧ p.cstate = 2 ∧ p.m = beNat (slice body 2 3)) ∧
    (∃ (s : State) (c : Carrier) (tag : Nat), s.cpu = 2 ∧ (s.link.at c).capsTag = some tag) ∧
    (∃ (s : State) (c : Carrier) (tag : Nat) (p : Proposal), s.cpu = 2 ∧ (s.link.at c).capsTag ≠ some tag ∧ (s.link.at c).own.find? (fun p => p.tag = tag && p.cstate = 1) = some p ∧ kindOf (s.link.at c).own p.kind = some p) ∧
    (∃ (s : State) (c : Carrier) (step : Bool) (p : Proposal), s.cpu = 2 ∧ kindOf (s.link.at c).own (if step then 2 else 1) = some p ∧ p.cstate = 1) ∧
    (∃ (s : State) (c : Carrier) (step : Bool) (p : Proposal), s.cpu = 2 ∧ kindOf (s.link.at c).held (if step then 2 else 1) = some p ∧ p.cstate = 2) ∧
    (∃ (s : State), s.cpu ≠ 2) ∧
    (∃ (s : State), s.cpu ≠ 2) ∧
    (∃ (s : State), s.cpu ≠ 2) ∧
    (∃ (s : State), s.cpu ≠ 2) ∧
    (∃ (s : State), s.cpu ≠ 2) ∧
    (∃ (s : State), s.cpu ≠ 2) ∧
    (∃ (s : State), s.cpu ≠ 2) ∧
    (∃ (s : State), s.cpu ≠ 2) ∧
    (∃ (s : State), s.cpu ≠ 2) :=
  ⟨⟨(((((((State.reset.set F.CPU_STATUS.STATE 2).set (F.LINK_STATE.STATE .A) 4))).set (F.LINK_FEATURES.VALUE .A) 6).set (F.LINK_NUMBERING.ROLE .A) 1).set F.PLAN_SWITCH.HSTATE 2), .A, 1000, by decide +kernel⟩,
    ⟨(((((((State.reset.set F.CPU_STATUS.STATE 2).set (F.LINK_STATE.STATE .A) 4))).set (F.LINK_FEATURES.VALUE .A) 6).set (F.LINK_NUMBERING.ROLE .A) 1).set F.PLAN_SWITCH.HSTATE 2).onPlan fun q => { q with running := some ⟨0, 1, 1, [⟨0x0A, 0, 0, List.replicate 64 0⟩]⟩ }, .A, 1000, by decide +kernel⟩,
    ⟨(((((((State.reset.set F.CPU_STATUS.STATE 2).set (F.LINK_STATE.STATE .A) 4))).set (F.LINK_FEATURES.VALUE .A) 6).set (F.LINK_NUMBERING.ROLE .A) 1).set F.PLAN_SWITCH.HSTATE 2), .A, ([1, 0, 0, 3, 0] ++ List.replicate 21 0), by decide +kernel⟩,
    ⟨(State.reset.set F.CPU_STATUS.STATE 2), .A, 12, ([1, 0, 0, 3, 0] ++ List.replicate 21 0), by decide +kernel⟩,
    ⟨(((((((State.reset.set F.CPU_STATUS.STATE 2).set (F.LINK_STATE.STATE .A) 4))).set (F.LINK_FEATURES.VALUE .A) 6).set (F.LINK_NUMBERING.ROLE .A) 1).set F.PLAN_SWITCH.HSTATE 2).onLink .A fun k => { k with own := [⟨1, 768, false, 1, 4, [], 1⟩] }, .A, 4, 50, [1, 0, 0, 3, 0, 0], ⟨1, 768, false, 1, 4, [], 1⟩, by decide +kernel⟩,
    ⟨(((((((State.reset.set F.CPU_STATUS.STATE 2).set (F.LINK_STATE.STATE .A) 4))).set (F.LINK_FEATURES.VALUE .A) 6).set (F.LINK_NUMBERING.ROLE .A) 1).set F.PLAN_SWITCH.HSTATE 2).onLink .A fun k => { k with own := [⟨1, 20, false, 1, 4, [], 1⟩] }, .A, 4, 50, [1, 0, 0, 0, 20, 0], ⟨1, 20, false, 1, 4, [], 1⟩, by decide +kernel⟩,
    ⟨(((((((State.reset.set F.CPU_STATUS.STATE 2).set (F.LINK_STATE.STATE .A) 4))).set (F.LINK_FEATURES.VALUE .A) 6).set (F.LINK_NUMBERING.ROLE .A) 1).set F.PLAN_SWITCH.HSTATE 2).onLink .A fun k => { k with own := [⟨1, 1000, false, 2, 4, [], 1⟩] }, .A, ⟨1, 1000, false, 2, 4, [], 1⟩, by decide +kernel⟩,
    ⟨(((((((State.reset.set F.CPU_STATUS.STATE 2).set (F.LINK_STATE.STATE .A) 4))).set (F.LINK_FEATURES.VALUE .A) 6).set (F.LINK_NUMBERING.ROLE .A) 1).set F.PLAN_SWITCH.HSTATE 2).onLink .A fun k => { k with held := [⟨2, 768, false, 2, 4, [], 1⟩] }, .A, [2, 0, 0, 3, 0, 0], ⟨2, 768, false, 2, 4, [], 1⟩, by decide +kernel⟩,
    ⟨(((((((State.reset.set F.CPU_STATUS.STATE 2).set (F.LINK_STATE.STATE .A) 4))).set (F.LINK_FEATURES.VALUE .A) 6).set (F.LINK_NUMBERING.ROLE .A) 1).set F.PLAN_SWITCH.HSTATE 2).onLink .A fun k => { k with held := [⟨2, 768, false, 2, 4, [], 1⟩] }, .A, [2, 0, 0, 3, 0, 0], ⟨2, 768, false, 2, 4, [], 1⟩, by decide +kernel⟩,
    ⟨(State.reset.set F.CPU_STATUS.STATE 2).onLink .A fun k => { k with capsTag := some 3 }, .A, 3, by decide +kernel⟩,
    ⟨(((((((State.reset.set F.CPU_STATUS.STATE 2).set (F.LINK_STATE.STATE .A) 4))).set (F.LINK_FEATURES.VALUE .A) 6).set (F.LINK_NUMBERING.ROLE .A) 1).set F.PLAN_SWITCH.HSTATE 2).onLink .A fun k => { k with own := [⟨1, 1000, false, 1, 4, [], 1⟩] }, .A, 4, ⟨1, 1000, false, 1, 4, [], 1⟩, by decide +kernel⟩,
    ⟨(((((((State.reset.set F.CPU_STATUS.STATE 2).set (F.LINK_STATE.STATE .A) 4))).set (F.LINK_FEATURES.VALUE .A) 6).set (F.LINK_NUMBERING.ROLE .A) 1).set F.PLAN_SWITCH.HSTATE 2).onLink .A fun k => { k with own := [⟨2, 1000, false, 1, 4, [], 1⟩] }, .A, true, ⟨2, 1000, false, 1, 4, [], 1⟩, by decide +kernel⟩,
    ⟨(((((((State.reset.set F.CPU_STATUS.STATE 2).set (F.LINK_STATE.STATE .A) 4))).set (F.LINK_FEATURES.VALUE .A) 6).set (F.LINK_NUMBERING.ROLE .A) 1).set F.PLAN_SWITCH.HSTATE 2).onLink .A fun k => { k with held := [⟨1, 1000, false, 2, 4, [], 1⟩] }, .A, false, ⟨1, 1000, false, 2, 4, [], 1⟩, by decide +kernel⟩,
    ⟨((((((State.reset.set (F.LINK_STATE.STATE .A) 4))).set (F.LINK_FEATURES.VALUE .A) 6).set (F.LINK_NUMBERING.ROLE .A) 1).set F.PLAN_SWITCH.HSTATE 2), by decide +kernel⟩,
    ⟨((((((State.reset.set (F.LINK_STATE.STATE .A) 4))).set (F.LINK_FEATURES.VALUE .A) 6).set (F.LINK_NUMBERING.ROLE .A) 1).set F.PLAN_SWITCH.HSTATE 2), by decide +kernel⟩,
    ⟨((((((State.reset.set (F.LINK_STATE.STATE .A) 4))).set (F.LINK_FEATURES.VALUE .A) 6).set (F.LINK_NUMBERING.ROLE .A) 1).set F.PLAN_SWITCH.HSTATE 2), by decide +kernel⟩,
    ⟨((((((State.reset.set (F.LINK_STATE.STATE .A) 4))).set (F.LINK_FEATURES.VALUE .A) 6).set (F.LINK_NUMBERING.ROLE .A) 1).set F.PLAN_SWITCH.HSTATE 2), by decide +kernel⟩,
    ⟨((((((State.reset.set (F.LINK_STATE.STATE .A) 4))).set (F.LINK_FEATURES.VALUE .A) 6).set (F.LINK_NUMBERING.ROLE .A) 1).set F.PLAN_SWITCH.HSTATE 2), by decide +kernel⟩,
    ⟨((((((State.reset.set (F.LINK_STATE.STATE .A) 4))).set (F.LINK_FEATURES.VALUE .A) 6).set (F.LINK_NUMBERING.ROLE .A) 1).set F.PLAN_SWITCH.HSTATE 2), by decide +kernel⟩,
    ⟨((((((State.reset.set (F.LINK_STATE.STATE .A) 4))).set (F.LINK_FEATURES.VALUE .A) 6).set (F.LINK_NUMBERING.ROLE .A) 1).set F.PLAN_SWITCH.HSTATE 2), by decide +kernel⟩,
    ⟨((((((State.reset.set (F.LINK_STATE.STATE .A) 4))).set (F.LINK_FEATURES.VALUE .A) 6).set (F.LINK_NUMBERING.ROLE .A) 1).set F.PLAN_SWITCH.HSTATE 2), by decide +kernel⟩,
    ⟨((((((State.reset.set (F.LINK_STATE.STATE .A) 4))).set (F.LINK_FEATURES.VALUE .A) 6).set (F.LINK_NUMBERING.ROLE .A) 1).set F.PLAN_SWITCH.HSTATE 2), by decide +kernel⟩⟩

/-- Hypotheses of O29 are met. -/
theorem witness_LaneStatesFollowTable72 :
    (∃ (s : State) (lane : Fin 16) (amplitude : Nat), s.laneState lane = 1 ∧ s.get (F.HOSTLANE_IDLE_CFG.SD_ON lane) < s.amplitudeSeen lane amplitude) ∧
    (∃ (s : State) (lane : Fin 16), s.laneState lane = 2 ∧ s.trains lane = true) ∧
    (∃ (s : State) (lane : Fin 16), s.laneState lane = 4 ∧ s.trains lane = true) ∧
    (∃ (s : State) (lane : Fin 16) (offset : Int), s.laneState lane = 2 ∧ s.trains lane = false ∧ s.cdrLocks lane (some offset) = true) ∧
    (∃ (s : State) (lane : Fin 16) (offset : Option Int), s.laneState lane = 2 ∧ s.cdrLocks lane offset = true) ∧
    (∃ (s : State) (lane : Fin 16) (offset : Option Int), s.laneState lane = 2 ∧ s.cdrLocks lane offset = false) ∧
    (∃ (s : State) (lane : Fin 16), s.laneState lane = 3) ∧
    (∃ (s : State) (lane : Fin 16), s.laneState lane = 3) ∧
    (∃ (s : State) (lane : Fin 16) (amplitude : Nat), s.laneState lane = 4 ∧ s.on (F.HOSTLANE_CTRL.ALLOW_IDLE lane) = true ∧ s.amplitudeSeen lane amplitude < s.get (F.HOSTLANE_IDLE_CFG.SD_OFF lane)) ∧
    (∃ (s : State) (lane : Fin 16) (amplitude : Nat), s.laneState lane = 4 ∧ s.on (F.HOSTLANE_CTRL.ALLOW_IDLE lane) = false ∧ s.amplitudeSeen lane amplitude < s.get (F.HOSTLANE_IDLE_CFG.SD_OFF lane) ∧ (s.lane lane).noSignals < 15) ∧
    (∃ (s : State) (lane : Fin 16) (amplitude : Nat), s.laneState lane = 4 ∧ s.on (F.HOSTLANE_CTRL.ALLOW_IDLE lane) = false ∧ s.amplitudeSeen lane amplitude < s.get (F.HOSTLANE_IDLE_CFG.SD_OFF lane) ∧ 15 ≤ (s.lane lane).noSignals ∧ lane.val < s.lanes.length) ∧
    (∃ (s : State) (lane : Fin 16), s.laneState lane = 5 ∧ 15 ≤ (s.lane lane).noSignals ∧ lane.val < s.lanes.length) ∧
    (∃ (s : State) (lane : Fin 16), s.laneState lane = 5 ∧ (s.lane lane).noSignals < 15) ∧
    (∃ (s : State) (lane : Fin 16), s.laneState lane = 5) ∧
    (∃ (s : State) (lane : Fin 16), (s.laneState lane = 4 ∨ s.laneState lane = 5)) ∧
    (∃ (s : State) (path : Path) (lane : Fin 16), s.mayWrite path (R.HOSTLANE_CTRL lane) ∧ (s.laneState lane = 4 ∨ s.laneState lane = 5)) ∧
    (∃ (s : State) (path : Path) (lane : Fin 16), s.mayWrite path (R.HOSTLANE_CTRL lane) ∧ (s.laneState lane = 1 ∨ s.laneState lane = 6)) ∧
    (∃ (s : State) (path : Path) (lane : Fin 16), s.mayWrite path (R.HOSTLANE_CTRL lane) ∧ (s.laneState lane = 2 ∨ s.laneState lane = 3)) ∧
    (∃ (s : State) (path : Path) (lane : Fin 16), s.mayWrite path (R.HOSTLANE_CTRL lane) ∧ (s.laneState lane = 0 ∨ s.laneState lane = 7)) ∧
    (∃ (s : State) (lane : Fin 16), s.laneState lane = 6 ∧ (s.lane lane).noSignals < 15) ∧
    (∃ (s : State) (lane : Fin 16), s.laneState lane = 7) ∧
    (∃ (s : State) (lane : Fin 16), s.laneState lane = 6 ∧ 15 ≤ (s.lane lane).noSignals ∧ lane.val < s.lanes.length) :=
  ⟨⟨(((State.reset).set (F.HOSTLANE_STATE.STATE 3) 1)), 3, 4000, by decide +kernel⟩,
    ⟨(((State.reset).set (F.HOSTLANE_STATE.STATE 3) 2).set (F.HOSTLANE_CTRL.TRAIN_EN 3) 1), 3, by decide +kernel⟩,
    ⟨(((State.reset).set (F.HOSTLANE_STATE.STATE 3) 4).set (F.HOSTLANE_CTRL.TRAIN_EN 3) 1), 3, by decide +kernel⟩,
    ⟨(((State.reset).set (F.HOSTLANE_STATE.STATE 3) 2).set (F.HOSTLANE_CTRL.TRAIN_EN 3) 0), 3, -200000, by decide +kernel⟩,
    ⟨(((State.reset).set (F.HOSTLANE_STATE.STATE 3) 2)), 3, some 200000, by decide +kernel⟩,
    ⟨(((State.reset).set (F.HOSTLANE_STATE.STATE 3) 2)), 3, some 200001, by decide +kernel⟩,
    ⟨(((State.reset).set (F.HOSTLANE_STATE.STATE 3) 3)), 3, by decide +kernel⟩,
    ⟨(((State.reset).set (F.HOSTLANE_STATE.STATE 3) 3)), 3, by decide +kernel⟩,
    ⟨(((State.reset).set (F.HOSTLANE_STATE.STATE 3) 4).set (F.HOSTLANE_CTRL.ALLOW_IDLE 3) 1), 3, 0, by decide +kernel⟩,
    ⟨(((State.reset).set (F.HOSTLANE_STATE.STATE 3) 4).set (F.HOSTLANE_CTRL.ALLOW_IDLE 3) 0), 3, 0, by decide +kernel⟩,
    ⟨(((State.reset).set (F.HOSTLANE_STATE.STATE 3) 4).set (F.HOSTLANE_CTRL.ALLOW_IDLE 3) 0 |>.onLane 3 fun l => { l with noSignals := 15 }), 3, 0, by decide +kernel⟩,
    ⟨(((State.reset).set (F.HOSTLANE_STATE.STATE 3) 5).onLane 3 fun l => { l with noSignals := 15 }), 3, by decide +kernel⟩,
    ⟨(((State.reset).set (F.HOSTLANE_STATE.STATE 3) 5)), 3, by decide +kernel⟩,
    ⟨(((State.reset).set (F.HOSTLANE_STATE.STATE 3) 5)), 3, by decide +kernel⟩,
    ⟨(((State.reset).set (F.HOSTLANE_STATE.STATE 3) 5)), 3, by decide +kernel⟩,
    ⟨(((State.reset.set (F.PWR_DOM_STATUS.STATE 21) 3).set (F.HOSTLANE_STATE.STATE 3) 5)), .cxl, 3, by decide +kernel⟩,
    ⟨(((State.reset.set (F.PWR_DOM_STATUS.STATE 21) 3).set (F.HOSTLANE_STATE.STATE 3) 6)), .cxl, 3, by decide +kernel⟩,
    ⟨(((State.reset.set (F.PWR_DOM_STATUS.STATE 21) 3).set (F.HOSTLANE_STATE.STATE 3) 3)), .cxl, 3, by decide +kernel⟩,
    ⟨(((State.reset.set (F.PWR_DOM_STATUS.STATE 21) 3).set (F.HOSTLANE_STATE.STATE 3) 7)), .cxl, 3, by decide +kernel⟩,
    ⟨(((State.reset).set (F.HOSTLANE_STATE.STATE 3) 6)), 3, by decide +kernel⟩,
    ⟨(((State.reset).set (F.HOSTLANE_STATE.STATE 3) 7)), 3, by decide +kernel⟩,
    ⟨(((State.reset).set (F.HOSTLANE_STATE.STATE 3) 6).onLane 3 fun l => { l with noSignals := 15 }), 3, by decide +kernel⟩⟩

/-- Hypotheses of O30 are met. -/
theorem witness_TransmitTapsStayInBudget :
    (∃ (s : State) (path : Path) (lane : Fin 16), s.mayWrite path (R.HOSTLANE_TX_FFE_PRE lane) ∧ s.laneState lane ≠ 3 ∧ tapsLegal (s.taps lane) = true) ∧
    (∃ (s : State) (lane : Fin 16) (k : Fin 6), s.laneState lane = 3 ∧ s.addressed lane k = true ∧ tapsLegal (s.taps lane) = true) ∧
    (∃ (s : State) (lane : Fin 16), s.laneState lane = 3 ∧ tapsLegal (s.taps lane) = true) ∧
    (∃ (s : State) (lane : Fin 16) (k : Fin 6), s.laneState lane = 3 ∧ s.addressed lane k = false) ∧
    (∃ (s : State) (path : Path) (lane : Fin 16), s.mayWrite path (R.HOSTLANE_TX_FFE_PRE lane) ∧ s.laneState lane = 3) ∧
    (∃ (s : State) (lane : Fin 16), s.laneState lane = 3) :=
  ⟨⟨(((State.reset.set (F.PWR_DOM_STATUS.STATE 21) 3).set (F.HOSTLANE_STATE.STATE 3) 4)), .cxl, 3, by decide +kernel⟩,
    ⟨(((State.reset).set (F.HOSTLANE_STATE.STATE 3) 3)), 3, 3, by decide +kernel⟩,
    ⟨(((State.reset).set (F.HOSTLANE_STATE.STATE 3) 3)), 3, by decide +kernel⟩,
    ⟨(((State.reset).set (F.HOSTLANE_STATE.STATE 3) 3)), 3, 5, by decide +kernel⟩,
    ⟨(((State.reset.set (F.PWR_DOM_STATUS.STATE 21) 3).set (F.HOSTLANE_STATE.STATE 3) 3)), .cxl, 3, by decide +kernel⟩,
    ⟨(((State.reset).set (F.HOSTLANE_STATE.STATE 3) 3)), 3, by decide +kernel⟩⟩

/-- Hypotheses of O31 are met. -/
theorem witness_LaneTransmitControls :
    (∃ (s : State) (path : Path) (lane : Fin 16), s.mayWrite path (R.HOSTLANE_TX_CFG lane) ∧ s.laneState lane = 4 ∧ lane.val < s.lanes.length) ∧
    (∃ (s : State) (path : Path) (lane : Fin 16), s.mayWrite path (R.HOSTLANE_TX_CFG lane) ∧ s.laneState lane = 4 ∧ lane.val < s.lanes.length) ∧
    (∃ (s : State) (path : Path) (lane : Fin 16), s.mayWrite path (R.HOSTLANE_TX_CFG lane) ∧ s.laneState lane ≠ 4) ∧
    (∃ (s : State) (path : Path) (lane : Fin 16), s.mayWrite path (R.HOSTLANE_TX_CFG lane) ∧ s.laneState lane ≠ 4) ∧
    (∃ (s : State) (path : Path) (lane : Fin 16) (value : Bool), s.mayWrite path (R.HOSTLANE_TX_CFG lane) ∧ s.laneState lane ≠ 3 ∧ s.on (F.HOSTLANE_RX_CFG.PRECODE_RX lane) ≠ value) ∧
    (∃ (s : State) (path : Path) (lane : Fin 16) (value : Bool), s.mayWrite path (R.HOSTLANE_TX_CFG lane) ∧ s.laneState lane ≠ 3 ∧ s.on (F.HOSTLANE_TX_CFG.PRECODE_TX lane) ≠ value) ∧
    (∃ (s : State) (path : Path) (lane : Fin 16), s.mayWrite path (R.HOSTLANE_TX_CFG lane) ∧ s.laneState lane = 3) ∧
    (∃ (s : State) (path : Path) (lane : Fin 16) (value : Bool), s.mayWrite path (R.HOSTLANE_CTRL lane) ∧ s.laneState lane = 4 ∧ s.on (F.HOSTLANE_CTRL.LOOP_NEAR lane) ≠ value) ∧
    (∃ (s : State) (path : Path) (lane : Fin 16) (value : Bool), s.mayWrite path (R.HOSTLANE_CTRL lane) ∧ s.on (F.HOSTLANE_CTRL.LOOP_NEAR lane) = value) :=
  ⟨⟨(((State.reset.set (F.PWR_DOM_STATUS.STATE 21) 3).set (F.HOSTLANE_STATE.STATE 3) 4).onLane 3 fun l => { l with idle := true }), .cxl, 3, by decide +kernel⟩,
    ⟨(((State.reset.set (F.PWR_DOM_STATUS.STATE 21) 3).set (F.HOSTLANE_STATE.STATE 3) 4).onLane 3 fun l => { l with idle := true }), .cxl, 3, by decide +kernel⟩,
    ⟨(((State.reset.set (F.PWR_DOM_STATUS.STATE 21) 3).set (F.HOSTLANE_STATE.STATE 3) 3)), .cxl, 3, by decide +kernel⟩,
    ⟨(((State.reset.set (F.PWR_DOM_STATUS.STATE 21) 3).set (F.HOSTLANE_STATE.STATE 3) 3)), .cxl, 3, by decide +kernel⟩,
    ⟨(((State.reset.set (F.PWR_DOM_STATUS.STATE 21) 3).set (F.HOSTLANE_STATE.STATE 3) 4)), .cxl, 3, true, by decide +kernel⟩,
    ⟨(((State.reset.set (F.PWR_DOM_STATUS.STATE 21) 3).set (F.HOSTLANE_STATE.STATE 3) 4)), .cxl, 3, true, by decide +kernel⟩,
    ⟨(((State.reset.set (F.PWR_DOM_STATUS.STATE 21) 3).set (F.HOSTLANE_STATE.STATE 3) 3)), .cxl, 3, by decide +kernel⟩,
    ⟨(((State.reset.set (F.PWR_DOM_STATUS.STATE 21) 3).set (F.HOSTLANE_STATE.STATE 3) 4)), .cxl, 3, true, by decide +kernel⟩,
    ⟨(((State.reset.set (F.PWR_DOM_STATUS.STATE 21) 3).set (F.HOSTLANE_STATE.STATE 3) 4)), .cxl, 3, false, by decide +kernel⟩⟩

/-- Hypotheses of O32 are met. -/
theorem witness_CheckerInjectorAndEye :
    (∃ (s : State) (lane : Fin 16) (counted : List (Fin 4)) (rx : List (Fin 4)) (r : ChkRef), s.on (F.HOSTLANE_CHK_CFG.CHK_EN lane) = true ∧ (s.chkRun lane counted).on (F.HOSTLANE_CHK_CFG.LOCK lane) = false ∧ (s.laneState lane = 4 ∨ s.laneState lane = 5) ∧ chkLockOn (s.get (F.HOSTLANE_CHK_CFG.PATTERN lane)) ((((s.chkRun lane counted).laneHears lane rx).1).map (·.val)) = some r ∧ lane.val < s.lanes.length) ∧
    (∃ (s : State) (lane : Fin 16) (v : Fin 4) (w : Fin 4) (r : ChkRef), s.on (F.HOSTLANE_CHK_CFG.LOCK lane) = true ∧ (s.lane lane).chkRef = some r ∧ (s.laneHears lane [v]).1 = [w] ∧ (r.step w).2.lost = true ∧ lane.val < s.lanes.length) ∧
    (∃ (s : State) (lane : Fin 16) (v : Fin 4) (w : Fin 4) (r : ChkRef), s.on (F.HOSTLANE_CHK_CFG.LOCK lane) = true ∧ (s.lane lane).chkRef = some r ∧ (s.laneHears lane [v]).1 = [w] ∧ (r.step w).2.lost = false ∧ lane.val < s.lanes.length) ∧
    (∃ (s : State) (path : Path) (lane : Fin 16), s.mayWrite path (R.HOSTLANE_CHK_CFG lane) ∧ s.on (F.HOSTLANE_CHK_CFG.SNAP_PENDING lane) = false ∧ lane.val < s.lanes.length) ∧
    (∃ (s : State) (path : Path) (lane : Fin 16), s.mayWrite path (R.HOSTLANE_CHK_CFG lane) ∧ s.on (F.HOSTLANE_CHK_CFG.SNAP_PENDING lane) = true) ∧
    (∃ (s : State) (lane : Fin 16), s.on (F.HOSTLANE_CHK_CFG.SNAP_PENDING lane) = true ∧ lane.val < s.lanes.length) ∧
    (∃ (s : State) (path : Path) (lane : Fin 16), s.mayWrite path (R.HOSTLANE_INJ_CTRL lane) ∧ (s.lane lane).burst = none ∧ (s.lane lane).rate = false ∧ s.laneSilent lane = false ∧ lane.val < s.lanes.length) ∧
    (∃ (s : State) (path : Path) (lane : Fin 16), s.mayWrite path (R.HOSTLANE_INJ_CTRL lane) ∧ (s.lane lane).burst = none ∧ s.laneSilent lane = true ∧ lane.val < s.lanes.length) ∧
    (∃ (s : State) (path : Path) (lane : Fin 16), s.mayWrite path (R.HOSTLANE_INJ_CTRL lane) ∧ (s.lane lane).burst.isSome = true) ∧
    (∃ (s : State) (path : Path) (lane : Fin 16), s.mayWrite path (R.HOSTLANE_INJ_CTRL lane) ∧ (s.lane lane).burst.isSome = true) ∧
    (∃ (s : State) (path : Path) (lane : Fin 16), s.mayWrite path (R.HOSTLANE_INJ_CTRL lane) ∧ (s.lane lane).burst.isSome = true) ∧
    (∃ (s : State) (path : Path) (lane : Fin 16), s.mayWrite path (R.HOSTLANE_INJ_CTRL lane) ∧ (s.lane lane).burst = none ∧ lane.val < s.lanes.length) ∧
    (∃ (s : State) (lane : Fin 16), ((s.lane lane).burst = none ∨ s.laneSilent lane = true)) ∧
    (∃ (s : State) (lane : Fin 16) (len : Nat), (s.lane lane).burst = some len ∧ s.laneSilent lane = false ∧ lane.val < s.lanes.length) ∧
    (∃ (s : State) (path : Path) (lane : Fin 16), s.mayWrite path (R.HOSTLANE_INJ_CTRL lane) ∧ (s.lane lane).burst = none ∧ lane.val < s.lanes.length) ∧
    (∃ (s : State) (lane : Fin 16), (s.lane lane).rate = true ∧ (s.lane lane).single = false ∧ (s.lane lane).burst = none ∧ 1 ≤ s.get (F.HOSTLANE_INJ_RATE.INTERVAL lane) ∧ s.laneSilent lane = false ∧ lane.val < s.lanes.length) ∧
    (∃ (s : State) (path : Path) (lane : Fin 16) (len : Nat), s.mayWrite path (R.HOSTLANE_INJ_CTRL lane) ∧ (s.lane lane).burst = some len ∧ (s.lane lane).rate = false ∧ (s.lane lane).single = false ∧ s.laneSilent lane = false ∧ lane.val < s.lanes.length) ∧
    (∃ (s : State) (lane : Fin 16), s.laneState lane = 4) :=
  ⟨⟨(((State.reset).set (F.HOSTLANE_STATE.STATE 3) 5).set (F.HOSTLANE_CHK_CFG.CHK_EN 3) 1), 3, [], List.replicate 64 0, ⟨6, 0, []⟩, by decide +kernel⟩,
    ⟨(((State.reset).set (F.HOSTLANE_STATE.STATE 3) 4).set (F.HOSTLANE_CHK_CFG.LOCK 3) 1 |>.onLane 3 fun l => { l with chkRef := some ⟨0, 0, List.replicate 256 true⟩ }), 3, 2, 2, ⟨0, 0, List.replicate 256 true⟩, by decide +kernel⟩,
    ⟨(((State.reset).set (F.HOSTLANE_STATE.STATE 3) 4).set (F.HOSTLANE_CHK_CFG.LOCK 3) 1 |>.set (F.HOSTLANE_CTRL.RX_INVERT 3) 1 |>.onLane 3 fun l => { l with chkRef := some ⟨0, 5, []⟩ }), 3, 2, 1, ⟨0, 5, []⟩, by decide +kernel⟩,
    ⟨(((State.reset.set (F.PWR_DOM_STATUS.STATE 21) 3).set (F.HOSTLANE_STATE.STATE 3) 4)), .cxl, 3, by decide +kernel⟩,
    ⟨(((State.reset.set (F.PWR_DOM_STATUS.STATE 21) 3).set (F.HOSTLANE_STATE.STATE 3) 4).set (F.HOSTLANE_CHK_CFG.SNAP_PENDING 3) 1), .cxl, 3, by decide +kernel⟩,
    ⟨(((State.reset).set (F.HOSTLANE_STATE.STATE 3) 4).set (F.HOSTLANE_CHK_CFG.SNAP_PENDING 3) 1 |>.set (F.HOSTLANE_CHK_CFG.LOCK 3) 1 |>.onLane 3 fun l => { l with chkRef := some ⟨0, 5, []⟩ }), 3, by decide +kernel⟩,
    ⟨(((State.reset.set (F.PWR_DOM_STATUS.STATE 21) 3).set (F.HOSTLANE_STATE.STATE 3) 4)).set ⟨R.HOSTLANE_QUAD_STATUS, 0, 0⟩ 1, .cxl, 3, by decide +kernel⟩,
    ⟨(((State.reset.set (F.PWR_DOM_STATUS.STATE 21) 3).set (F.HOSTLANE_STATE.STATE 3) 0)), .cxl, 3, by decide +kernel⟩,
    ⟨(((State.reset.set (F.PWR_DOM_STATUS.STATE 21) 3).set (F.HOSTLANE_STATE.STATE 3) 4).onLane 3 fun l => { l with burst := some 8 }), .cxl, 3, by decide +kernel⟩,
    ⟨(((State.reset.set (F.PWR_DOM_STATUS.STATE 21) 3).set (F.HOSTLANE_STATE.STATE 3) 4).onLane 3 fun l => { l with burst := some 8 }), .cxl, 3, by decide +kernel⟩,
    ⟨(((State.reset.set (F.PWR_DOM_STATUS.STATE 21) 3).set (F.HOSTLANE_STATE.STATE 3) 4).onLane 3 fun l => { l with burst := some 8 }), .cxl, 3, by decide +kernel⟩,
    ⟨(((State.reset.set (F.PWR_DOM_STATUS.STATE 21) 3).set (F.HOSTLANE_STATE.STATE 3) 4)), .cxl, 3, by decide +kernel⟩,
    ⟨(((State.reset).set (F.HOSTLANE_STATE.STATE 3) 4).onLane 3 fun l => { l with burst := some 8 }), 3, by decide +kernel⟩,
    ⟨(((State.reset).set (F.HOSTLANE_STATE.STATE 3) 4).set ⟨R.HOSTLANE_QUAD_STATUS, 0, 0⟩ 1 |>.onLane 3 fun l => { l with burst := some 8 }), 3, 8, by decide +kernel⟩,
    ⟨(((State.reset.set (F.PWR_DOM_STATUS.STATE 21) 3).set (F.HOSTLANE_STATE.STATE 3) 4)), .cxl, 3, by decide +kernel⟩,
    ⟨(((State.reset).set (F.HOSTLANE_STATE.STATE 3) 4).set ⟨R.HOSTLANE_QUAD_STATUS, 0, 0⟩ 1 |>.onLane 3 fun l => { l with rate := true, rateCount := 7 }), 3, by decide +kernel⟩,
    ⟨(((State.reset.set (F.PWR_DOM_STATUS.STATE 21) 3).set (F.HOSTLANE_STATE.STATE 3) 4).set ⟨R.HOSTLANE_QUAD_STATUS, 0, 0⟩ 1 |>.onLane 3 fun l => { l with burst := some 8 }), .cxl, 3, 8, by decide +kernel⟩,
    ⟨(((State.reset).set (F.HOSTLANE_STATE.STATE 3) 4)), 3, by decide +kernel⟩⟩

/-- Hypotheses of O33 are met. -/
theorem witness_IngressFollowsTable83 :
    (∃ (s : State) (port : Fin 16) (skew : Nat), s.ingress port = 2 ∧ skew ≤ 200) ∧
    (∃ (s : State) (port : Fin 16), s.ingress port = 2) ∧
    (∃ (s : State) (port : Fin 16), s.ingress port = 3) ∧
    (∃ (s : State) (port : Fin 16), s.ingress port = 3) ∧
    (∃ (s : State) (port : Fin 16), s.ingress port = 3) ∧
    (∃ (s : State) (port : Fin 16) (bytes : List Byte) (bad : Bool) (due : DueWords) (n : Nat), s.ingress port = 3 ∧ 64 ≤ bytes.length ∧ bytes.length ≤ s.get (F.CLIENT_FRAME.MAX_FRAME port) ∧ s.on (F.TIME_PORT_CTRL.TC_EN port) = false ∧ (s.port port).spoilIn = 0 ∧ (s.wordsDue port due).waiting port + (frameRecord bytes bad).length ≤ 8192 * s.get (F.CLIENT_CFG.SLOTS port) ∧ s.get (F.CLIENT_CTRL.LOOP port) = 0 ∧ (s.port port).segLen = some n ∧ n < 8192 ∧ s.mode ≠ 1 ∧ s.portOn port .A = true ∧ s.portOn port .B = false ∧ port.val < s.ports.length) ∧
    (∃ (s : State) (port : Fin 16) (bytes : List Byte) (due : DueWords) (n : Nat), s.ingress port = 3 ∧ 64 ≤ bytes.length ∧ bytes.length ≤ s.get (F.CLIENT_FRAME.MAX_FRAME port) ∧ s.on (F.TIME_PORT_CTRL.TC_EN port) = false ∧ (s.port port).spoilIn = 0 ∧ (s.wordsDue port due).waiting port + (frameRecord bytes false).length ≤ 8192 * s.get (F.CLIENT_CFG.SLOTS port) ∧ s.get (F.CLIENT_CTRL.LOOP port) = 0 ∧ (s.port port).segLen = some n ∧ 8192 ≤ n ∧ s.mode ≠ 1 ∧ s.portOn port .A = true ∧ s.portOn port .B = false ∧ port.val < s.ports.length) ∧
    (∃ (s : State) (port : Fin 16) (bytes : List Byte) (due : DueWords) (n : Nat), s.ingress port = 3 ∧ 64 ≤ bytes.length ∧ s.get (F.CLIENT_FRAME.MAX_FRAME port) < bytes.length ∧ 64 ≤ s.get (F.CLIENT_FRAME.MAX_FRAME port) ∧ s.on (F.TIME_PORT_CTRL.TC_EN port) = false ∧ (s.wordsDue port due).waiting port + (frameRecord (bytes.take (s.get (F.CLIENT_FRAME.MAX_FRAME port))) true).length ≤ 8192 * s.get (F.CLIENT_CFG.SLOTS port) ∧ s.get (F.CLIENT_CTRL.LOOP port) = 0 ∧ (s.port port).segLen = some n ∧ n < 8192 ∧ s.mode ≠ 1 ∧ s.portOn port .A = true ∧ s.portOn port .B = false ∧ port.val < s.ports.length) ∧
    (∃ (s : State) (port : Fin 16) (frame : ClientFrame), s.ingress port = 3 ∧ frame.bytes.length < 64) ∧
    (∃ (s : State) (port : Fin 16) (set : Nat) (n : Nat), s.ingress port = 3 ∧ 1 ≤ set ∧ set ≤ 3 ∧ (s.port port).setIn ≠ set ∧ s.get (F.CLIENT_CTRL.LOOP port) = 0 ∧ (s.port port).segLen = some n ∧ n < 8192 ∧ s.mode ≠ 1 ∧ s.portOn port .A = true ∧ s.portOn port .B = true ∧ port.val < s.ports.length) ∧
    (∃ (s : State) (port : Fin 16) (set : Nat), s.ingress port = 3 ∧ set ≤ 3 ∧ (set = 0 ∨ (s.port port).setIn = set) ∧ port.val < s.ports.length) ∧
    (∃ (s : State) (port : Fin 16) (set : Nat), s.ingress port = 3 ∧ 3 < set) ∧
    (∃ (s : State) (port : Fin 16) (n : Nat), (s.ingress port = 1 ∨ s.ingress port = 2) ∧ s.get (F.CLIENT_CTRL.LOOP port) = 0 ∧ (s.port port).segLen = some n ∧ n < 8192 ∧ s.mode ≠ 1 ∧ s.portOn port .A = true ∧ s.portOn port .B = false) ∧
    (∃ (s : State) (port : Fin 16) (n : Nat), s.ingress port = 3 ∧ (s.port port).setIn ≠ 0 ∧ s.get (F.CLIENT_CTRL.LOOP port) = 0 ∧ (s.port port).segLen = some n ∧ n < 8192 ∧ s.mode ≠ 1 ∧ s.portOn port .A = true ∧ s.portOn port .B = false) ∧
    (∃ (s : State) (port : Fin 16), (s.ingress port = 0 ∨ s.ingress port = 4 ∨ (s.ingress port = 3 ∧ (s.port port).setIn = 0))) :=
  ⟨⟨((((State.reset.set (F.PWR_DOM_STATUS.STATE 25) 3).set (F.CLIENT_CFG.IN_USE 5) 1 |>.set (F.CLIENT_CFG.CARRIERS 5) 1 |>.set (F.CLIENT_CFG.SLOTS 5) 1 |>.set (F.CLIENT_CFG.LANES 5) 1).set (F.CLIENT_STATE.INGRESS 5) 2)), 5, 200, by decide +kernel⟩,
    ⟨((((State.reset.set (F.PWR_DOM_STATUS.STATE 25) 3).set (F.CLIENT_CFG.IN_USE 5) 1 |>.set (F.CLIENT_CFG.CARRIERS 5) 1 |>.set (F.CLIENT_CFG.SLOTS 5) 1 |>.set (F.CLIENT_CFG.LANES 5) 1).set (F.CLIENT_STATE.INGRESS 5) 2)), 5, by decide +kernel⟩,
    ⟨((((State.reset.set (F.PWR_DOM_STATUS.STATE 25) 3).set (F.CLIENT_CFG.IN_USE 5) 1 |>.set (F.CLIENT_CFG.CARRIERS 5) 1 |>.set (F.CLIENT_CFG.SLOTS 5) 1 |>.set (F.CLIENT_CFG.LANES 5) 1).set (F.CLIENT_STATE.INGRESS 5) 3)), 5, by decide +kernel⟩,
    ⟨((((State.reset.set (F.PWR_DOM_STATUS.STATE 25) 3).set (F.CLIENT_CFG.IN_USE 5) 1 |>.set (F.CLIENT_CFG.CARRIERS 5) 1 |>.set (F.CLIENT_CFG.SLOTS 5) 1 |>.set (F.CLIENT_CFG.LANES 5) 1).set (F.CLIENT_STATE.INGRESS 5) 3)), 5, by decide +kernel⟩,
    ⟨((((State.reset.set (F.PWR_DOM_STATUS.STATE 25) 3).set (F.CLIENT_CFG.IN_USE 5) 1 |>.set (F.CLIENT_CFG.CARRIERS 5) 1 |>.set (F.CLIENT_CFG.SLOTS 5) 1 |>.set (F.CLIENT_CFG.LANES 5) 1).set (F.CLIENT_STATE.INGRESS 5) 3)), 5, by decide +kernel⟩,
    ⟨((((State.reset.set (F.PWR_DOM_STATUS.STATE 25) 3).set (F.CLIENT_CFG.IN_USE 5) 1 |>.set (F.CLIENT_CFG.CARRIERS 5) 1 |>.set (F.CLIENT_CFG.SLOTS 5) 1 |>.set (F.CLIENT_CFG.LANES 5) 1).set (F.CLIENT_STATE.INGRESS 5) 3).onPort 5 fun q => { q with segLen := some 8 }), 5, List.replicate 64 7, true, ⟨1, 0, 0⟩, 8, by decide +kernel⟩,
    ⟨((((State.reset.set (F.PWR_DOM_STATUS.STATE 25) 3).set (F.CLIENT_CFG.IN_USE 5) 1 |>.set (F.CLIENT_CFG.CARRIERS 5) 1 |>.set (F.CLIENT_CFG.SLOTS 5) 1 |>.set (F.CLIENT_CFG.LANES 5) 1).set (F.CLIENT_STATE.INGRESS 5) 3).onPort 5 fun q => { q with segLen := some 8192 }), 5, List.replicate 64 7, ⟨1, 0, 0⟩, 8192, by decide +kernel⟩,
    ⟨((((State.reset.set (F.PWR_DOM_STATUS.STATE 25) 3).set (F.CLIENT_CFG.IN_USE 5) 1 |>.set (F.CLIENT_CFG.CARRIERS 5) 1 |>.set (F.CLIENT_CFG.SLOTS 5) 1 |>.set (F.CLIENT_CFG.LANES 5) 1).set (F.CLIENT_STATE.INGRESS 5) 3).set (F.CLIENT_FRAME.MAX_FRAME 5) 64 |>.onPort 5 fun q => { q with segLen := some 8 }), 5, List.replicate 65 7, ⟨1, 0, 0⟩, 8, by decide +kernel⟩,
    ⟨((((State.reset.set (F.PWR_DOM_STATUS.STATE 25) 3).set (F.CLIENT_CFG.IN_USE 5) 1 |>.set (F.CLIENT_CFG.CARRIERS 5) 1 |>.set (F.CLIENT_CFG.SLOTS 5) 1 |>.set (F.CLIENT_CFG.LANES 5) 1).set (F.CLIENT_STATE.INGRESS 5) 3)), 5, ⟨[], false, 0, 0, false⟩, by decide +kernel⟩,
    ⟨((((State.reset.set (F.PWR_DOM_STATUS.STATE 25) 3).set (F.CLIENT_CFG.IN_USE 5) 1 |>.set (F.CLIENT_CFG.CARRIERS 5) 1 |>.set (F.CLIENT_CFG.SLOTS 5) 1 |>.set (F.CLIENT_CFG.LANES 5) 1).set (F.CLIENT_STATE.INGRESS 5) 3).set (F.CLIENT_CFG.CARRIERS 5) 3 |>.onPort 5 fun q => { q with segLen := some 8 }), 5, 2, 8, by decide +kernel⟩,
    ⟨((((State.reset.set (F.PWR_DOM_STATUS.STATE 25) 3).set (F.CLIENT_CFG.IN_USE 5) 1 |>.set (F.CLIENT_CFG.CARRIERS 5) 1 |>.set (F.CLIENT_CFG.SLOTS 5) 1 |>.set (F.CLIENT_CFG.LANES 5) 1).set (F.CLIENT_STATE.INGRESS 5) 3)), 5, 0, by decide +kernel⟩,
    ⟨((((State.reset.set (F.PWR_DOM_STATUS.STATE 25) 3).set (F.CLIENT_CFG.IN_USE 5) 1 |>.set (F.CLIENT_CFG.CARRIERS 5) 1 |>.set (F.CLIENT_CFG.SLOTS 5) 1 |>.set (F.CLIENT_CFG.LANES 5) 1).set (F.CLIENT_STATE.INGRESS 5) 3)), 5, 4, by decide +kernel⟩,
    ⟨((((State.reset.set (F.PWR_DOM_STATUS.STATE 25) 3).set (F.CLIENT_CFG.IN_USE 5) 1 |>.set (F.CLIENT_CFG.CARRIERS 5) 1 |>.set (F.CLIENT_CFG.SLOTS 5) 1 |>.set (F.CLIENT_CFG.LANES 5) 1).set (F.CLIENT_STATE.INGRESS 5) 1).onPort 5 fun q => { q with segLen := some 8 }), 5, 8, by decide +kernel⟩,
    ⟨((((State.reset.set (F.PWR_DOM_STATUS.STATE 25) 3).set (F.CLIENT_CFG.IN_USE 5) 1 |>.set (F.CLIENT_CFG.CARRIERS 5) 1 |>.set (F.CLIENT_CFG.SLOTS 5) 1 |>.set (F.CLIENT_CFG.LANES 5) 1).set (F.CLIENT_STATE.INGRESS 5) 3).onPort 5 fun q => { q with segLen := some 8, setIn := 3 }), 5, 8, by decide +kernel⟩,
    ⟨((((State.reset.set (F.PWR_DOM_STATUS.STATE 25) 3).set (F.CLIENT_CFG.IN_USE 5) 1 |>.set (F.CLIENT_CFG.CARRIERS 5) 1 |>.set (F.CLIENT_CFG.SLOTS 5) 1 |>.set (F.CLIENT_CFG.LANES 5) 1).set (F.CLIENT_STATE.INGRESS 5) 4)), 5, by decide +kernel⟩⟩

/-- Hypotheses of O34 are met. -/
theorem witness_FullIngressBufferDropsFrame :
    (∃ (s : State) (port : Fin 16) (frame : ClientFrame) (due : DueWords), s.ingress port = 3 ∧ 64 ≤ frame.bytes.length ∧ 8192 * s.get (F.CLIENT_CFG.SLOTS port) < (s.wordsDue port due).waiting port + (frameRecord (frame.bytes.take (s.get (F.CLIENT_FRAME.MAX_FRAME port))) frame.bad).length) :=
  ⟨((((State.reset.set (F.PWR_DOM_STATUS.STATE 25) 3).set (F.CLIENT_CFG.IN_USE 5) 1 |>.set (F.CLIENT_CFG.CARRIERS 5) 1 |>.set (F.CLIENT_CFG.SLOTS 5) 1 |>.set (F.CLIENT_CFG.LANES 5) 1).set (F.CLIENT_STATE.INGRESS 5) 3).onPort 5 fun q => { q with stream := ⟨List.replicate 8192 0, []⟩ }), 5, ⟨List.replicate 64 7, false, 0, 0, false⟩, ⟨1, 0, 0⟩, by decide +kernel⟩

/-- Hypotheses of O35 are met. -/
theorem witness_EgressAndSelectorFollowTheCopies :
    (∃ (s : State) (port : Fin 16) (c : Carrier) (bytes : List Byte) (drained : Nat), s.portOn port c = true ∧ s.mode ≠ 1 ∧ s.mode ≠ 2 ∧ (s.copyOf port c).sync = true ∧ (s.port port).ending ≠ some c ∧ (s.port port).spoilOut = 0 ∧ bytes.length < 2 ^ 14 ∧ hecGood (frameRecord bytes false) = true ∧ s.on (F.CLIENT_STATE.EGRESS_DATA port) = true ∧ (s.port port).held - drained + bytes.length ≤ s.egressBytes port ∧ s.get (F.CLIENT_CTRL.LOOP port) = 0 ∧ s.on (F.TIME_PORT_CTRL.TC_EN port) = false ∧ port.val < s.ports.length) ∧
    (∃ (s : State) (port : Fin 16) (c : Carrier) (record : List Byte), s.portOn port c = true ∧ s.mode ≠ 2 ∧ (s.copyOf port c).sync = true ∧ hecGood record = false ∧ port.val < s.ports.length) ∧
    (∃ (s : State) (port : Fin 16) (c : Carrier) (record : List Byte), s.portOn port c = true ∧ s.mode = 2 ∧ (s.copyOf port c).sync = true ∧ hecGood record = false ∧ port.val < s.ports.length) ∧
    (∃ (s : State) (port : Fin 16) (c : Carrier), s.portOn port c = true ∧ (s.copyOf port c).sync = false ∧ (s.copyOf port c).found ≠ 0 ∧ port.val < s.ports.length) ∧
    (∃ (s : State) (port : Fin 16) (c : Carrier) (record : List Byte), s.portOn port c = true ∧ (s.copyOf port c).sync = false ∧ ((s.copyOf port c).found = 0 ∨ hecGood record = false) ∧ port.val < s.ports.length) ∧
    (∃ (s : State) (port : Fin 16), port.val < s.ports.length) ∧
    (∃ (s : State) (port : Fin 16) (delayNs : Nat), s.mode = 2 ∧ s.portUsed port = true ∧ bufferDelayNs < delayNs) ∧
    (∃ (s : State) (port : Fin 16) (delayNs : Nat) (x : Segment) (y : Segment), s.mode = 2 ∧ s.portUsed port = true ∧ delayNs ≤ bufferDelayNs ∧ (s.copyOf port .A).sync = true ∧ (s.copyOf port .B).sync = true ∧ (s.copyOf port .A).segs = [x] ∧ (s.copyOf port .B).segs = [y] ∧ x.mark = y.mark ∧ port.val < s.ports.length) ∧
    (∃ (s : State) (port : Fin 16) (delayNs : Nat) (x : Segment) (y : Segment), s.mode = 2 ∧ s.portUsed port = true ∧ delayNs ≤ bufferDelayNs ∧ (s.copyOf port .A).sync = true ∧ (s.copyOf port .B).sync = true ∧ (s.copyOf port .A).segs = [x] ∧ (s.copyOf port .B).segs = [y] ∧ x.mark = y.mark ∧ port.val < s.ports.length ∧ s.selected port = .A ∧ x.bad = true ∧ y.bad = false ∧ s.inTraffic .B = true ∧ s.get (F.CLIENT_CTRL.FORCE_SEL port) = 0) ∧
    (∃ (s : State) (port : Fin 16) (delayNs : Nat) (x : Segment) (y : Segment), s.mode = 2 ∧ s.portUsed port = true ∧ delayNs ≤ bufferDelayNs ∧ (s.copyOf port .A).sync = true ∧ (s.copyOf port .B).sync = true ∧ (s.copyOf port .A).segs = [x] ∧ (s.copyOf port .B).segs = [y] ∧ x.mark = y.mark ∧ port.val < s.ports.length ∧ (x.bad = true ∧ y.bad = true ∨ s.get (F.CLIENT_CTRL.FORCE_SEL port) ≠ 0)) ∧
    (∃ (s : State) (port : Fin 16), (s.port port).wtr = true ∧ s.selected port = .B ∧ s.on (F.CLIENT_CFG.REVERTIVE port) = true ∧ s.get (F.CLIENT_CTRL.FORCE_SEL port) = 0 ∧ s.copyGood port .A = true ∧ s.copySd .A = false) ∧
    (∃ (s : State) (path : Path) (port : Fin 16) (value : Fin 4), s.mayWrite path (R.CLIENT_CTRL port) ∧ s.portUsed port = true ∧ s.mode = 2 ∧ 1 ≤ value.val ∧ s.get (F.CLIENT_STATE.SELECTED port) ≠ min 2 value.val) ∧
    (∃ (s : State) (path : Path) (port : Fin 16) (value : Fin 4), s.mayWrite path (R.CLIENT_CTRL port) ∧ s.portUsed port = true ∧ (s.mode ≠ 2 ∨ value.val = 0)) ∧
    (∃ (s : State) (path : Path) (port : Fin 16), s.mayWrite path (R.CLIENT_CTRL port) ∧ s.portUsed port = true) ∧
    (∃ (s : State) (path : Path) (port : Fin 16), s.mayWrite path (R.CLIENT_CTRL port) ∧ s.portUsed port = true ∧ port.val < s.ports.length) ∧
    (∃ (s : State) (port : Fin 16) (clear : Bool), (s.port port).snap = some clear ∧ port.val < s.ports.length) :=
  ⟨⟨((((State.reset.set (F.PWR_DOM_STATUS.STATE 25) 3).set (F.CLIENT_CFG.IN_USE 5) 1 |>.set (F.CLIENT_CFG.CARRIERS 5) 1 |>.set (F.CLIENT_CFG.SLOTS 5) 1 |>.set (F.CLIENT_CFG.LANES 5) 1).set (F.CLIENT_STATE.INGRESS 5) 3).set (F.CLIENT_STATE.EGRESS_DATA 5) 1 |>.onPort 5 fun q => { q with copies := ⟨{ sync := true }, { sync := true }⟩ }), 5, .A, List.replicate 64 7, 10, by decide +kernel⟩,
    ⟨((((State.reset.set (F.PWR_DOM_STATUS.STATE 25) 3).set (F.CLIENT_CFG.IN_USE 5) 1 |>.set (F.CLIENT_CFG.CARRIERS 5) 1 |>.set (F.CLIENT_CFG.SLOTS 5) 1 |>.set (F.CLIENT_CFG.LANES 5) 1).set (F.CLIENT_STATE.INGRESS 5) 3).onPort 5 fun q => { q with copies := ⟨{ sync := true }, { sync := true }⟩ }), 5, .A, [1], by decide +kernel⟩,
    ⟨((((State.reset.set (F.PWR_DOM_STATUS.STATE 25) 3).set (F.CLIENT_CFG.IN_USE 5) 1 |>.set (F.CLIENT_CFG.CARRIERS 5) 1 |>.set (F.CLIENT_CFG.SLOTS 5) 1 |>.set (F.CLIENT_CFG.LANES 5) 1).set (F.CLIENT_STATE.INGRESS 5) 3).set F.GLOBAL_MODE.MODE 2 |>.set (F.CLIENT_STATE.ALIGNED 5) 1 |>.onPort 5 fun q => { q with copies := ⟨{ sync := true }, { sync := true }⟩ }), 5, .A, [1], by decide +kernel⟩,
    ⟨((((State.reset.set (F.PWR_DOM_STATUS.STATE 25) 3).set (F.CLIENT_CFG.IN_USE 5) 1 |>.set (F.CLIENT_CFG.CARRIERS 5) 1 |>.set (F.CLIENT_CFG.SLOTS 5) 1 |>.set (F.CLIENT_CFG.LANES 5) 1).set (F.CLIENT_STATE.INGRESS 5) 3).onPort 5 fun q => { q with copies := ⟨{ found := 1 }, { found := 1 }⟩ }), 5, .A, by decide +kernel⟩,
    ⟨((((State.reset.set (F.PWR_DOM_STATUS.STATE 25) 3).set (F.CLIENT_CFG.IN_USE 5) 1 |>.set (F.CLIENT_CFG.CARRIERS 5) 1 |>.set (F.CLIENT_CFG.SLOTS 5) 1 |>.set (F.CLIENT_CFG.LANES 5) 1).set (F.CLIENT_STATE.INGRESS 5) 3)), 5, .A, setRecord 1, by decide +kernel⟩,
    ⟨((((State.reset.set (F.PWR_DOM_STATUS.STATE 25) 3).set (F.CLIENT_CFG.IN_USE 5) 1 |>.set (F.CLIENT_CFG.CARRIERS 5) 1 |>.set (F.CLIENT_CFG.SLOTS 5) 1 |>.set (F.CLIENT_CFG.LANES 5) 1).set (F.CLIENT_STATE.INGRESS 5) 3)), 5, by decide +kernel⟩,
    ⟨((((State.reset.set (F.PWR_DOM_STATUS.STATE 25) 3).set (F.CLIENT_CFG.IN_USE 5) 1 |>.set (F.CLIENT_CFG.CARRIERS 5) 1 |>.set (F.CLIENT_CFG.SLOTS 5) 1 |>.set (F.CLIENT_CFG.LANES 5) 1).set (F.CLIENT_STATE.INGRESS 5) 3).set F.GLOBAL_MODE.MODE 2), 5, 10486, by decide +kernel⟩,
    ⟨((((State.reset.set (F.PWR_DOM_STATUS.STATE 25) 3).set (F.CLIENT_CFG.IN_USE 5) 1 |>.set (F.CLIENT_CFG.CARRIERS 5) 1 |>.set (F.CLIENT_CFG.SLOTS 5) 1 |>.set (F.CLIENT_CFG.LANES 5) 1).set (F.CLIENT_STATE.INGRESS 5) 3).set F.GLOBAL_MODE.MODE 2 |>.set (F.LINK_STATE.STATE .A) 4 |>.set (F.LINK_STATE.STATE .B) 4 |>.set (F.CLIENT_STATE.SELECTED 5) 1 |>.onPort 5 fun q => { q with copies := ⟨{ sync := true, segs := [⟨5, false, [setRecord 1], 0⟩] }, { sync := true, segs := [⟨5, true, [setRecord 1], 0⟩] }⟩ }), 5, 10485, ⟨5, false, [setRecord 1], 0⟩, ⟨5, true, [setRecord 1], 0⟩, by decide +kernel⟩,
    ⟨((((State.reset.set (F.PWR_DOM_STATUS.STATE 25) 3).set (F.CLIENT_CFG.IN_USE 5) 1 |>.set (F.CLIENT_CFG.CARRIERS 5) 1 |>.set (F.CLIENT_CFG.SLOTS 5) 1 |>.set (F.CLIENT_CFG.LANES 5) 1).set (F.CLIENT_STATE.INGRESS 5) 3).set F.GLOBAL_MODE.MODE 2 |>.set (F.LINK_STATE.STATE .A) 4 |>.set (F.LINK_STATE.STATE .B) 4 |>.set (F.CLIENT_STATE.SELECTED 5) 1 |>.onPort 5 fun q => { q with copies := ⟨{ sync := true, segs := [⟨5, true, [setRecord 1], 0⟩] }, { sync := true, segs := [⟨5, false, [setRecord 1], 0⟩] }⟩ }), 5, 10485, ⟨5, true, [setRecord 1], 0⟩, ⟨5, false, [setRecord 1], 0⟩, by decide +kernel⟩,
    ⟨((((State.reset.set (F.PWR_DOM_STATUS.STATE 25) 3).set (F.CLIENT_CFG.IN_USE 5) 1 |>.set (F.CLIENT_CFG.CARRIERS 5) 1 |>.set (F.CLIENT_CFG.SLOTS 5) 1 |>.set (F.CLIENT_CFG.LANES 5) 1).set (F.CLIENT_STATE.INGRESS 5) 3).set F.GLOBAL_MODE.MODE 2 |>.set (F.LINK_STATE.STATE .A) 4 |>.set (F.LINK_STATE.STATE .B) 4 |>.set (F.CLIENT_STATE.SELECTED 5) 1 |>.onPort 5 fun q => { q with copies := ⟨{ sync := true, segs := [⟨5, true, [setRecord 1], 0⟩] }, { sync := true, segs := [⟨5, true, [setRecord 1], 0⟩] }⟩ }), 5, 10485, ⟨5, true, [setRecord 1], 0⟩, ⟨5, true, [setRecord 1], 0⟩, by decide +kernel⟩,
    ⟨((((State.reset.set (F.PWR_DOM_STATUS.STATE 25) 3).set (F.CLIENT_CFG.IN_USE 5) 1 |>.set (F.CLIENT_CFG.CARRIERS 5) 1 |>.set (F.CLIENT_CFG.SLOTS 5) 1 |>.set (F.CLIENT_CFG.LANES 5) 1).set (F.CLIENT_STATE.INGRESS 5) 3).set (F.CLIENT_STATE.SELECTED 5) 2 |>.set (F.CLIENT_CFG.REVERTIVE 5) 1 |>.set (F.CLIENT_PROT_STATUS.A_GOOD 5) 1 |>.set (F.LINK_STATE.STATE .A) 4 |>.onPort 5 fun q => { q with wtr := true }), 5, by decide +kernel⟩,
    ⟨((((State.reset.set (F.PWR_DOM_STATUS.STATE 25) 3).set (F.CLIENT_CFG.IN_USE 5) 1 |>.set (F.CLIENT_CFG.CARRIERS 5) 1 |>.set (F.CLIENT_CFG.SLOTS 5) 1 |>.set (F.CLIENT_CFG.LANES 5) 1).set (F.CLIENT_STATE.INGRESS 5) 3).set F.GLOBAL_MODE.MODE 2 |>.set (F.CLIENT_STATE.SELECTED 5) 1), .cxl, 5, 3, by decide +kernel⟩,
    ⟨((((State.reset.set (F.PWR_DOM_STATUS.STATE 25) 3).set (F.CLIENT_CFG.IN_USE 5) 1 |>.set (F.CLIENT_CFG.CARRIERS 5) 1 |>.set (F.CLIENT_CFG.SLOTS 5) 1 |>.set (F.CLIENT_CFG.LANES 5) 1).set (F.CLIENT_STATE.INGRESS 5) 3)), .cxl, 5, 0, by decide +kernel⟩,
    ⟨((((State.reset.set (F.PWR_DOM_STATUS.STATE 25) 3).set (F.CLIENT_CFG.IN_USE 5) 1 |>.set (F.CLIENT_CFG.CARRIERS 5) 1 |>.set (F.CLIENT_CFG.SLOTS 5) 1 |>.set (F.CLIENT_CFG.LANES 5) 1).set (F.CLIENT_STATE.INGRESS 5) 3).set F.GLOBAL_MODE.MODE 7), .cxl, 5, by decide +kernel⟩,
    ⟨((((State.reset.set (F.PWR_DOM_STATUS.STATE 25) 3).set (F.CLIENT_CFG.IN_USE 5) 1 |>.set (F.CLIENT_CFG.CARRIERS 5) 1 |>.set (F.CLIENT_CFG.SLOTS 5) 1 |>.set (F.CLIENT_CFG.LANES 5) 1).set (F.CLIENT_STATE.INGRESS 5) 3)), .cxl, 5, by decide +kernel⟩,
    ⟨((((State.reset.set (F.PWR_DOM_STATUS.STATE 25) 3).set (F.CLIENT_CFG.IN_USE 5) 1 |>.set (F.CLIENT_CFG.CARRIERS 5) 1 |>.set (F.CLIENT_CFG.SLOTS 5) 1 |>.set (F.CLIENT_CFG.LANES 5) 1).set (F.CLIENT_STATE.INGRESS 5) 3).onPort 5 fun q => { q with snap := some true }), 5, true, by decide +kernel⟩⟩

/-- Hypotheses of O36 are met. -/
theorem witness_ClockIsSetAndAdjusted :
    (∃ (s : State) (path : Path), s.mayWrite path R.TIME_SET_3) ∧
    (∃ (s : State) (path : Path), s.mayWrite path R.TIME_CTRL) ∧
    (∃ (s : State) (path : Path), s.mayWrite path R.TIME_ADJ_HI ∧ s.on F.TIME_ADJ_CTRL.MODE = false) ∧
    (∃ (s : State) (path : Path), s.mayWrite path R.TIME_ADJ_HI ∧ s.on F.TIME_ADJ_CTRL.MODE = true) ∧
    (∃ (s : State), s.timeRuns = true) ∧
    (∃ (s : State), s.pending = [] ∧ s.timeRuns = true ∧ s.time.slew = 0 ∧ s.get F.SEC_FW_STATUS.TRIAL_LEFT = 0) :=
  ⟨⟨(State.reset.stage .cxl R.TIME_SET_2 0x1234), .cxl, by decide +kernel⟩,
    ⟨State.reset, .cxl, by decide +kernel⟩,
    ⟨State.reset, .cxl, by decide +kernel⟩,
    ⟨State.reset.set F.TIME_ADJ_CTRL.MODE 1, .cxl, by decide +kernel⟩,
    ⟨State.reset.onTime fun t => { t with slew := 500 }, by decide +kernel⟩,
    ⟨State.reset, by decide +kernel⟩⟩

/-- Hypotheses of O37 are met. -/
theorem witness_ReferencesServoAndLineTransfer :
    (∃ (s : State), s.on F.TIME_STATUS.HOLDOVER = false) ∧
    (∃ (s : State), s.on F.TIME_STATUS.HOLDOVER = true) ∧
    (∃ (s : State), s.on F.TIME_STATUS.HOLDOVER = true) ∧
    (∃ (s : State), s.on F.TIME_STATUS.HOLDOVER = false) ∧
    (∃ (s : State) (edge : Stamp), s.get F.TIME_STATUS.REF = 2 ∧ s.on F.TIME_CTRL.SERVO_EN = true ∧ s.time.first = true ∧ (s.get F.TIME_SERVO.STEP_US * 1000 * 65536 : Int) < (wholeSecondOffset (stampUnits edge)).natAbs) ∧
    (∃ (s : State), s.get F.TIME_STATUS.REF = 2 ∧ s.on F.TIME_CTRL.SERVO_EN = true ∧ s.time.first = false) ∧
    (∃ (s : State) (m : TransferSet), s.time.set = some m ∧ s.ttState ≠ 0 ∧ m.valid = true ∧ s.on F.TIME_STATUS.VALID = true ∧ s.departure m.ref = none) ∧
    (∃ (s : State) (m : TransferSet) (t3 : Int) (slip : Bool), s.time.set = some m ∧ s.ttState ≠ 0 ∧ m.valid = true ∧ s.on F.TIME_STATUS.VALID = true ∧ s.departure m.ref = some (t3, slip) ∧ (slip = true ∨ m.good = false ∨ (m.t2 - m.t1 + (m.t4 - t3 / 65536)) / 2 < 0 ∨ 250000000 * 65536 < (m.t2 - m.t1 + (m.t4 - t3 / 65536)) / 2)) ∧
    (∃ (s : State) (m : TransferSet) (t3 : Int), s.time.set = some m ∧ s.ttState = 1 ∧ m.valid = true ∧ m.good = true ∧ s.on F.TIME_STATUS.VALID = true ∧ s.departure m.ref = some (t3, false) ∧ 0 ≤ (m.t2 - m.t1 + (m.t4 - t3 / 65536)) / 2 ∧ (m.t2 - m.t1 + (m.t4 - t3 / 65536)) / 2 ≤ 250000000 * 65536 ∧ s.lineSteers = false ∧ s.time.ttIn < 15) ∧
    (∃ (s : State), s.ttState ≠ 0) :=
  ⟨⟨State.reset, by decide +kernel⟩,
    ⟨State.reset.set F.TIME_STATUS.HOLDOVER 1, by decide +kernel⟩,
    ⟨State.reset.set F.TIME_STATUS.HOLDOVER 1, by decide +kernel⟩,
    ⟨State.reset, by decide +kernel⟩,
    ⟨((State.reset.set F.TIME_STATUS.REF 2).set F.TIME_CTRL.SERVO_EN 1).onTime fun t => { t with first := true }, ⟨5, 400000000, 0⟩, by decide +kernel⟩,
    ⟨((State.reset.set F.TIME_STATUS.REF 2).set F.TIME_CTRL.SERVO_EN 1).onTime fun t => { t with first := false }, by decide +kernel⟩,
    ⟨((State.reset.set F.TIME_STATUS.TT_STATE 1).set F.TIME_STATUS.VALID 1 |>.onTime fun t => { t with set := some ⟨0, 0, 0, 256, true, true⟩ }), ⟨0, 0, 0, 256, true, true⟩, by decide +kernel⟩,
    ⟨((State.reset.set F.TIME_STATUS.TT_STATE 1).set F.TIME_STATUS.VALID 1 |>.onTime fun t => { t with sent := [(256, 0, true)], set := some ⟨0, 0, 0, 256, true, true⟩ }), ⟨0, 0, 0, 256, true, true⟩, 0, true, by decide +kernel⟩,
    ⟨((State.reset.set F.TIME_STATUS.TT_STATE 1).set F.TIME_STATUS.VALID 1 |>.onTime fun t => { t with sent := [(256, 0, false)], set := some ⟨0, 13107200, 19660800, 256, true, true⟩ }), ⟨0, 13107200, 19660800, 256, true, true⟩, 0, by decide +kernel⟩,
    ⟨((State.reset.set F.TIME_STATUS.TT_STATE 3)), by decide +kernel⟩⟩

/-- Hypotheses of O38 are met. -/
theorem witness_PulsesAndCaptures :
    (∃ (s : State) (path : Path) (n : Fin 4), s.mayWrite path (R.TP_CTRL n) ∧ s.clock.ticks + 1000 * nsTicks ≤ (s.tpStart n).ticks ∧ n.val < s.time.pulses.length) ∧
    (∃ (s : State) (path : Path) (n : Fin 4), s.mayWrite path (R.TP_CTRL n) ∧ (s.tpStart n).ticks < s.clock.ticks + 1000 * nsTicks ∧ s.on (F.TP_CTRL.MODE n) = false) ∧
    (∃ (s : State) (path : Path) (n : Fin 4), s.mayWrite path (R.TP_CTRL n) ∧ (s.tpStart n).ticks < s.clock.ticks + 1000 * nsTicks ∧ s.on (F.TP_CTRL.MODE n) = true ∧ n.val < s.time.pulses.length) ∧
    (∃ (s : State) (path : Path) (n : Fin 4), s.mayWrite path (R.TP_CTRL n) ∧ (s.pulse n).high = false) ∧
    (∃ (s : State) (path : Path) (n : Fin 4), s.mayWrite path (R.TP_CTRL n) ∧ (s.pulse n).high = true ∧ n.val < s.time.pulses.length) ∧
    (∃ (s : State) (n : Fin 4), s.timeRuns = true ∧ s.on (F.TP_CTRL.ACTIVE n) = true ∧ (s.pulse n).high = false ∧ n.val < s.time.pulses.length) ∧
    (∃ (s : State) (n : Fin 4), s.timeRuns = true ∧ s.on (F.TP_CTRL.ACTIVE n) = true ∧ (s.pulse n).high = true ∧ n.val < s.time.pulses.length) ∧
    (∃ (s : State) (m : Fin 2) (falling : Bool), s.on (F.PINS_QUAL_STATUS.MASKED (3 + m)) = false ∧ s.captureOn m = true ∧ (s.get (F.TC_CTRL.EDGE m) = 3 ∨ s.get (F.TC_CTRL.EDGE m) = (if falling then 2 else 1)) ∧ (s.capture m).queue.length < 16 ∧ m.val < s.time.captures.length) ∧
    (∃ (s : State) (m : Fin 2) (falling : Bool), s.on (F.PINS_QUAL_STATUS.MASKED (3 + m)) = false ∧ s.captureOn m = true ∧ (s.get (F.TC_CTRL.EDGE m) = 3 ∨ s.get (F.TC_CTRL.EDGE m) = (if falling then 2 else 1)) ∧ 16 ≤ (s.capture m).queue.length ∧ m.val < s.time.captures.length) ∧
    (∃ (s : State) (path : Path) (m : Fin 2) (v : Clock) (falling : Bool) (rest : List (Clock × Bool)), s.unheard path false = false ∧ s.isDown (R.TC_CAP_0 m) = false ∧ (s.capture m).queue = (v, falling) :: rest ∧ m.val < s.time.captures.length) ∧
    (∃ (s : State) (path : Path) (m : Fin 2), s.unheard path false = false ∧ s.isDown (R.TC_CAP_0 m) = false ∧ (s.capture m).queue = []) :=
  ⟨⟨(State.reset.set (F.TP_START_2.SEC_LO 3) 5), .cxl, 3, by decide +kernel⟩,
    ⟨State.reset, .cxl, 3, by decide +kernel⟩,
    ⟨(State.reset.set (F.TP_CTRL.MODE 3) 1), .cxl, 3, by decide +kernel⟩,
    ⟨State.reset, .cxl, 3, by decide +kernel⟩,
    ⟨(State.reset.onPulse 3 fun _ => { lead := 0, period := 4294967296000, width := 4294967296, high := true, stopping := false }), .cxl, 3, by decide +kernel⟩,
    ⟨(State.reset.onPulse 3 fun _ => { lead := 0, period := 4294967296000, width := 4294967296, high := false, stopping := false }).set (F.TP_CTRL.ACTIVE 3) 1, 3, by decide +kernel⟩,
    ⟨(State.reset.onPulse 3 fun _ => { lead := 0, period := 4294967296000, width := 4294967296, high := true, stopping := false }).set (F.TP_CTRL.ACTIVE 3) 1, 3, by decide +kernel⟩,
    ⟨((State.reset.set (F.TC_CTRL.EN 1) 1).set (F.TC_CTRL.EDGE 1) 3), 1, true, by decide +kernel⟩,
    ⟨((State.reset.set (F.TC_CTRL.EN 1) 1).set (F.TC_CTRL.EDGE 1) 3).onTime fun t => { t with captures := t.captures.modify 1 fun c => { c with queue := List.replicate 16 (⟨0, 0, 0⟩, true) } }, 1, true, by decide +kernel⟩,
    ⟨State.reset.onTime fun t => { t with captures := t.captures.modify 1 fun c => { c with queue := [(⟨1, 2, 3⟩, true)] } }, .cxl, 1, ⟨1, 2, 3⟩, true, [], by decide +kernel⟩,
    ⟨State.reset, .cxl, 1, by decide +kernel⟩⟩

/-- Hypotheses of O39 are met. -/
theorem witness_HeadlandSendingAndResets :
    (∃ (s : State) (c : Carrier), s.isDown R.HEADLAND_TX_CTRL = false ∧ s.on F.HEADLAND_TX_CTRL.BUSY = false ∧ c = Carrier.ofIdx (s.get F.HEADLAND_TX_CTRL.CARRIER) ∧ s.headlandRefusal c = none) ∧
    (∃ (s : State) (r : Nat), s.isDown R.HEADLAND_TX_CTRL = false ∧ s.on F.HEADLAND_TX_CTRL.BUSY = false ∧ s.headlandRefusal (Carrier.ofIdx (s.get F.HEADLAND_TX_CTRL.CARRIER)) = some r ∧ s.on F.HEADLAND_IN_CFG.LOOP = false) ∧
    (∃ (s : State) (r : Nat), s.isDown R.HEADLAND_TX_CTRL = false ∧ s.on F.HEADLAND_TX_CTRL.BUSY = false ∧ s.headlandRefusal (Carrier.ofIdx (s.get F.HEADLAND_TX_CTRL.CARRIER)) = some r ∧ s.on F.HEADLAND_IN_CFG.LOOP = true) ∧
    (∃ (s : State), s.isDown R.HEADLAND_TX_CTRL = false ∧ s.on F.HEADLAND_TX_CTRL.BUSY = true) ∧
    (∃ (s : State) (path : Path), s.isDown R.HEADLAND_TX_CTRL = false ∧ path ≠ .plough) ∧
    (∃ (s : State), s.isDown R.HEADLAND_TX_CTRL = false ∧ s.on F.HEADLAND_TX_CTRL.BUSY = true) ∧
    (∃ (s : State), s.on F.HEADLAND_TX_CTRL.BUSY = true ∧ s.head.waiting = []) ∧
    (∃ (s : State) (path : Path), s.mayWrite path R.HEADLAND_IN_CFG) ∧
    (∃ (s : State) (chain : Fin 8) (samples : List Int), s.adcbRuns = true ∧ ((State.samplesIn samples.length samples s).chain chain).dsp.left = 0) ∧
    (∃ (s : State) (chain : Fin 8) (samples : List Int), s.adcbRuns = true ∧ ((State.samplesIn samples.length samples s).chain chain).dsp.left ≠ 0) ∧
    (∃ (s : State) (samples : List Int), s.adcbRuns = true ∧ s.on F.HEADLAND_IN_CFG.LOOP = false ∧ 0 < samples.length ∧ s.head.seen + samples.length = s.windowSize) ∧
    (∃ (s : State) (samples : List Int), s.adcbRuns = true ∧ s.on F.HEADLAND_IN_CFG.LOOP = false ∧ 0 < samples.length ∧ s.head.seen + samples.length < s.windowSize) :=
  ⟨⟨((State.reset.set (F.LINE_TX_CTRL.TX_STATE .A) 2).set (F.LINE_TX_CTRL.ENABLED .A) 1 |>.set (F.FURROW_TX_CTRL.HL_INJECT .A) 1 |>.set F.HEADLAND_TX_CTRL.LENGTH 4), .A, by decide +kernel⟩,
    ⟨State.reset, 1, by decide +kernel⟩,
    ⟨State.reset.set F.HEADLAND_IN_CFG.LOOP 1, 1, by decide +kernel⟩,
    ⟨State.reset.set F.HEADLAND_TX_CTRL.BUSY 1, by decide +kernel⟩,
    ⟨State.reset, .cxl, by decide +kernel⟩,
    ⟨State.reset.set F.HEADLAND_TX_CTRL.BUSY 1, by decide +kernel⟩,
    ⟨State.reset.set F.HEADLAND_TX_CTRL.BUSY 1, by decide +kernel⟩,
    ⟨((State.reset.set (F.HEADLAND_CHAIN_STATUS.RXSTATE 7) 3)), .cxl, by decide +kernel⟩,
    ⟨(State.reset.set F.HEADLAND_RX_CFG.RX_MASK 255).onChain 7 fun x => { x with dsp := { x.dsp with left := 0 } }, 7, [], by decide +kernel⟩,
    ⟨(State.reset.set F.HEADLAND_RX_CFG.RX_MASK 255), 7, [], by decide +kernel⟩,
    ⟨(State.reset.set F.HEADLAND_RX_CFG.RX_MASK 255).onHead fun h => { h with seen := 4092 }, [4095, 0, 2053, 2054], by decide +kernel⟩,
    ⟨(State.reset.set F.HEADLAND_RX_CFG.RX_MASK 255), [4095, 0, 2053, 2054], by decide +kernel⟩⟩

/-- Hypotheses of O40 are met. -/
theorem witness_HeadlandReceiverFollowsTable104 :
    (∃ (s : State) (chain : Fin 8) (preamble : Preamble), s.rxHl chain = 0 ∧ s.on (F.HEADLAND_CHAIN_STATUS.SETTLED chain) = true ∧ s.listens chain = true ∧ correlates false preamble.symbols = true ∧ chain.val < s.head.chains.length) ∧
    (∃ (s : State) (chain : Fin 8) (preamble : Preamble) (timing : Int) (frequency : Int) (afc : Int), (s.rxHl chain = 1 ∨ (s.rxHl chain = 2 ∧ (s.chain chain).ref + 2 * s.get F.HEADLAND_RX_CFG.CAPTURE_DB ≤ s.levelAt chain preamble.level)) ∧ correlates true preamble.symbols = true ∧ s.ownSignal chain timing frequency afc = false ∧ chain.val < s.head.chains.length) ∧
    (∃ (s : State) (chain : Fin 8) (preamble : Preamble) (timing : Int) (frequency : Int) (afc : Int), s.rxHl chain = 3 ∧ (s.chain chain).ref + 2 * s.get F.HEADLAND_RX_CFG.CAPTURE_DB ≤ s.levelAt chain preamble.level ∧ correlates true preamble.symbols = true ∧ s.ownSignal chain timing frequency afc = false ∧ chain.val < s.head.chains.length) ∧
    (∃ (s : State) (chain : Fin 8) (preamble : Preamble) (timing : Int) (frequency : Int) (afc : Int), (s.rxHl chain = 2 ∨ s.rxHl chain = 3) ∧ s.levelAt chain preamble.level < (s.chain chain).ref + 2 * s.get F.HEADLAND_RX_CFG.CAPTURE_DB ∧ correlates true preamble.symbols = true ∧ s.ownSignal chain timing frequency afc = false) ∧
    (∃ (s : State) (chain : Fin 8) (preamble : Preamble) (timing : Int) (frequency : Int) (afc : Int), (s.ownSignal chain timing frequency afc = true ∨ s.rxHl chain = 0 ∨ correlates true preamble.symbols = false)) ∧
    (∃ (s : State) (chain : Fin 8) (word : Word), s.rxHl chain = 1 ∧ bitsDiffer word (s.chain chain).word ≤ (s.chain chain).tol ∧ chain.val < s.head.chains.length) ∧
    (∃ (s : State) (chain : Fin 8) (word : Word), (s.rxHl chain ≠ 1 ∨ (s.chain chain).tol < bitsDiffer word (s.chain chain).word)) ∧
    (∃ (s : State) (chain : Fin 8), s.rxHl chain = 1) ∧
    (∃ (s : State) (chain : Fin 8) (value : Byte), s.rxHl chain = 2 ∧ headerOk value.toNat = true ∧ chain.val < s.head.chains.length) ∧
    (∃ (s : State) (chain : Fin 8) (value : Byte), s.rxHl chain = 2 ∧ headerOk value.toNat = false) ∧
    (∃ (s : State) (chain : Fin 8) (payload : List Byte), s.rxHl chain = 3 ∧ (s.chain chain).length = payload.length ∧ s.head.queue.length < 8) ∧
    (∃ (s : State) (chain : Fin 8) (payload : List Byte), s.rxHl chain = 3 ∧ (s.chain chain).length = payload.length ∧ 8 ≤ s.head.queue.length) ∧
    (∃ (s : State) (chain : Fin 8) (payload : List Byte) (bad : Byte), s.rxHl chain = 3 ∧ (s.chain chain).length = payload.length ∧ bad ≠ 0) ∧
    (∃ (s : State), s.isDown R.HEADLAND_TX_CTRL = false) :=
  ⟨⟨((State.reset.set (F.HEADLAND_CHAIN_STATUS.RXSTATE 7) 0).set (F.HEADLAND_CHAIN_STATUS.SETTLED 7) 1 |>.set F.HEADLAND_RX_CFG.RX_MASK 255), 7, ⟨[1, -1, 1, -1, 1, -1, 1, -1, 1, -1, 1, -1, 1, -1, 1, -1], 2 ^ 40⟩, by (repeat' apply And.intro) <;> first | exact correlates_alternating _ | decide +kernel⟩,
    ⟨((State.reset.set (F.HEADLAND_CHAIN_STATUS.RXSTATE 7) 1)), 7, ⟨[1, -1, 1, -1, 1, -1, 1, -1, 1, -1, 1, -1, 1, -1, 1, -1], 2 ^ 40⟩, 128, 0, 0, by (repeat' apply And.intro) <;> first | exact correlates_alternating _ | decide +kernel⟩,
    ⟨((State.reset.set (F.HEADLAND_CHAIN_STATUS.RXSTATE 7) 3).set F.HEADLAND_RX_CFG.CAPTURE_DB 0), 7, ⟨[1, -1, 1, -1, 1, -1, 1, -1, 1, -1, 1, -1, 1, -1, 1, -1], 2 ^ 40⟩, 128, 0, 0, by (repeat' apply And.intro) <;> first | exact correlates_alternating _ | decide +kernel⟩,
    ⟨((State.reset.set (F.HEADLAND_CHAIN_STATUS.RXSTATE 7) 3).onChain 7 fun x => { x with ref := 300 }), 7, ⟨[1, -1, 1, -1, 1, -1, 1, -1, 1, -1, 1, -1, 1, -1, 1, -1], 2 ^ 40⟩, 128, 0, 0, by (repeat' apply And.intro) <;> first | exact correlates_alternating _ | decide +kernel⟩,
    ⟨((State.reset.set (F.HEADLAND_CHAIN_STATUS.RXSTATE 7) 1)), 7, ⟨[1, -1, 1, -1, 1, -1, 1, -1, 1, -1, 1, -1, 1, -1, 1, -1], 2 ^ 40⟩, 64, 0, 0, by decide +kernel⟩,
    ⟨((State.reset.set (F.HEADLAND_CHAIN_STATUS.RXSTATE 7) 1).onChain 7 fun x => { x with tol := 3 }), 7, 7, by decide +kernel⟩,
    ⟨((State.reset.set (F.HEADLAND_CHAIN_STATUS.RXSTATE 7) 1).onChain 7 fun x => { x with tol := 3 }), 7, 15, by decide +kernel⟩,
    ⟨((State.reset.set (F.HEADLAND_CHAIN_STATUS.RXSTATE 7) 1)), 7, by decide +kernel⟩,
    ⟨((State.reset.set (F.HEADLAND_CHAIN_STATUS.RXSTATE 7) 2)), 7, 0xA0, by decide +kernel⟩,
    ⟨((State.reset.set (F.HEADLAND_CHAIN_STATUS.RXSTATE 7) 2)), 7, 0, by decide +kernel⟩,
    ⟨((State.reset.set (F.HEADLAND_CHAIN_STATUS.RXSTATE 7) 3).onChain 7 fun x => { x with length := 2 }), 7, [5, 6], by decide +kernel⟩,
    ⟨((State.reset.set (F.HEADLAND_CHAIN_STATUS.RXSTATE 7) 3).onHead fun h => { h with queue := List.replicate 8 ⟨1, 2, false, false, 3, [4]⟩ }).onChain 7 fun x => { x with length := 2 }, 7, [5, 6], by decide +kernel⟩,
    ⟨((State.reset.set (F.HEADLAND_CHAIN_STATUS.RXSTATE 7) 3).onChain 7 fun x => { x with length := 2 }), 7, [5, 6], 1, by decide +kernel⟩,
    ⟨State.reset.onHead fun h => { h with queue := [⟨1, 2, false, false, 3, [4]⟩] }, by decide +kernel⟩⟩

/-- Hypotheses of O41 are met. -/
theorem witness_AdcASequencesAndResults :
    (∃ (s : State), s.ana.adc.pass = none ∧ s.get F.HKADC_SEQ_CTRL.MODE = 1 ∧ s.ana.adc.current = none ∧ s.ana.adc.requests = [] ∧ s.diagReady = none) ∧
    (∃ (s : State), s.ana.adc.pass.isSome = true ∧ s.ana.adc.mode = 1) ∧
    (∃ (s : State) (c : Conversion), s.ana.adc.pass = none ∧ s.get F.HKADC_SEQ_CTRL.MODE = 1 ∧ s.ana.adc.current = some c ∧ (c.what = .cal ∨ c.what = .left)) ∧
    (∃ (s : State) (path : Path), s.mayWrite path R.HKADC_SEQ_CTRL ∧ s.get F.HKADC_SEQ_CTRL.MODE = 3 ∧ s.ana.adc.pass = none ∧ s.ana.adc.current = none ∧ s.ana.adc.requests = [] ∧ s.diagReady = none ∧ s.calState = 0) ∧
    (∃ (s : State) (c : Conversion) (e : Nat), s.ana.adc.current = some c ∧ c.what = .entry e ∧ e < 16 ∧ s.diagOn c.channel = false ∧ s.ana.adc.dirty = []) ∧
    (∃ (s : State) (c : Conversion), s.ana.adc.current = some c ∧ c.what = .inject) ∧
    (∃ (s : State) (c : Conversion), s.ana.adc.current = some c ∧ c.what = .cal) ∧
    (∃ (s : State) (path : Path), s.mayWrite path R.HKADC_INJ_CTRL ∧ s.ana.adc.requests = [] ∧ s.ana.adc.current = none ∧ s.calStepping = false) ∧
    (∃ (s : State) (path : Path), s.mayWrite path R.HKADC_INJ_CTRL ∧ s.ana.adc.requests.length < 4 ∧ s.ana.adc.current.isSome = true) ∧
    (∃ (s : State) (path : Path), s.mayWrite path R.HKADC_INJ_CTRL ∧ 4 ≤ s.ana.adc.requests.length) ∧
    (∃ (s : State) (path : Path) (e : Fin 17), s.unheard path false = false ∧ s.isDown (resultWord e) = false) ∧
    (∃ (s : State) (path : Path) (pair : Fin 128), s.mayWrite path (R.HKADC_CAL_G pair)) :=
  ⟨⟨State.reset.set F.HKADC_SEQ_CTRL.MODE 1, by decide +kernel⟩,
    ⟨(State.reset.onAdc fun a => { a with pass := some ([0], 0), mode := 1 }), by decide +kernel⟩,
    ⟨((State.reset.set F.HKADC_SEQ_CTRL.MODE 1).onAdc fun a => { a with current := some ⟨.cal, 3, 1, 64, 4194304⟩ }), ⟨.cal, 3, 1, 64, 4194304⟩, by decide +kernel⟩,
    ⟨State.reset.set F.HKADC_SEQ_CTRL.MODE 3, .cxl, by decide +kernel⟩,
    ⟨(State.reset.onAdc fun a => { a with current := some ⟨.entry 15, 3, 1, 64, 4194304⟩, pass := some ([0, 0], 1) }), ⟨.entry 15, 3, 1, 64, 4194304⟩, 15, by decide +kernel⟩,
    ⟨(State.reset.onAdc fun a => { a with current := some ⟨.inject, 3, 1, 64, 4194304⟩ }), ⟨.inject, 3, 1, 64, 4194304⟩, by decide +kernel⟩,
    ⟨(State.reset.onAdc fun a => { a with current := some ⟨.cal, 3, 1, 64, 4194304⟩ }), ⟨.cal, 3, 1, 64, 4194304⟩, by decide +kernel⟩,
    ⟨State.reset, .cxl, by decide +kernel⟩,
    ⟨(State.reset.onAdc fun a => { a with current := some ⟨.inject, 3, 1, 64, 4194304⟩ }), .cxl, by decide +kernel⟩,
    ⟨(State.reset.onAdc fun a => { a with requests := List.replicate 4 (1, 1) }), .cxl, by decide +kernel⟩,
    ⟨State.reset, .plough, 16, by decide +kernel⟩,
    ⟨State.reset, .cxl, 127, by decide +kernel⟩⟩

/-- Hypotheses of O42 are met. -/
theorem witness_AdcACalibrationAndDiagnosis :
    (∃ (s : State) (path : Path) (channel : Fin 32), s.mayWrite path R.HKADC_CAL_CTRL ∧ s.calState = 0 ∧ s.channelInUse channel = false) ∧
    (∃ (s : State) (path : Path) (channel : Fin 32), s.mayWrite path R.HKADC_CAL_CTRL ∧ s.calState = 0 ∧ s.channelInUse channel = true) ∧
    (∃ (s : State) (path : Path), s.mayWrite path R.HKADC_CAL_CTRL ∧ (s.calState = 1 ∨ s.calState = 3)) ∧
    (∃ (s : State), s.calState = 1 ∧ 64 ≤ s.ana.adc.calCount) ∧
    (∃ (s : State) (path : Path), s.mayWrite path R.HKADC_CAL_CTRL ∧ s.calState = 2 ∧ s.channelInUse s.ana.adc.calChannel = false) ∧
    (∃ (s : State) (path : Path), s.mayWrite path R.HKADC_CAL_CTRL ∧ s.calState = 2 ∧ s.channelInUse s.ana.adc.calChannel = true) ∧
    (∃ (s : State) (path : Path), s.mayWrite path R.HKADC_CAL_CTRL ∧ (s.calState = 1 ∨ s.calState = 3)) ∧
    (∃ (s : State) (path : Path), s.mayWrite path R.HKADC_CAL_CTRL ∧ s.calState = 0) ∧
    (∃ (s : State) (mean : Int) (g : Int) (j : Nat), s.calState = 3 ∧ 64 ≤ s.ana.adc.calCount ∧ mean = s.ana.adc.calSum * 64 ∧ s.channelInUse s.ana.adc.calChannel = false ∧ s.ana.adc.calChannel < 32 ∧ s.ana.adc.calGain < 4 ∧ j = 4 * s.ana.adc.calChannel + s.ana.adc.calGain ∧ g = s.get F.HKADC_CAL_TARGET.FS_TARGET * 2 ^ 34 / (mean - s.ana.adc.z)) ∧
    (∃ (s : State), s.calState = 3 ∧ 64 ≤ s.ana.adc.calCount ∧ s.channelInUse s.ana.adc.calChannel = true) ∧
    (∃ (s : State), s.ana.adc.calCount < 64) ∧
    (∃ (s : State) (path : Path), s.mayWrite path R.HKADC_CAL_CTRL ∧ s.calState ≠ 0) ∧
    (∃ (s : State), s.calState = 2) ∧
    (∃ (s : State) (path : Path) (channel : Fin 32), s.mayWrite path R.HKADC_TESTDAC ∧ s.ana.adc.diag = none ∧ s.channelInUse (diagChannel channel) = false ∧ s.calState = 0) ∧
    (∃ (s : State) (path : Path) (channel : Fin 32), s.mayWrite path R.HKADC_TESTDAC ∧ s.ana.adc.diag = none ∧ (s.channelInUse (diagChannel channel) = true ∨ s.calState ≠ 0)) ∧
    (∃ (s : State) (raws : List (Fin 4096)) (x : DiagSt) (values : List Nat), s.ana.adc.diag = some x ∧ values = (x.results ++ (raws.map (·.val)).map fun raw => calibrated raw (s.conversion .diag x.channel 0).ofs (s.conversion .diag x.channel 0).g).take 16 ∧ values.length = 16) ∧
    (∃ (s : State) (raws : List (Fin 4096)) (x : DiagSt), s.ana.adc.diag = some x ∧ x.results.length + raws.length < 16) :=
  ⟨⟨State.reset, .cxl, 31, by decide +kernel⟩,
    ⟨State.reset.set (F.LOOP_STATUS.STATE 3) 3, .cxl, 0, by decide +kernel⟩,
    ⟨(State.reset.set F.HKADC_CAL_CTRL.STATE 3), .cxl, by decide +kernel⟩,
    ⟨(State.reset.set F.HKADC_CAL_CTRL.STATE 1 |>.onAdc fun a => { a with calCount := 64, calSum := 100 }), by decide +kernel⟩,
    ⟨(State.reset.set F.HKADC_CAL_CTRL.STATE 2), .cxl, by decide +kernel⟩,
    ⟨(State.reset.set F.HKADC_CAL_CTRL.STATE 2 |>.set (F.LOOP_STATUS.STATE 3) 3), .cxl, by decide +kernel⟩,
    ⟨(State.reset.set F.HKADC_CAL_CTRL.STATE 1), .cxl, by decide +kernel⟩,
    ⟨State.reset, .cxl, by decide +kernel⟩,
    ⟨(State.reset.set F.HKADC_CAL_CTRL.STATE 3 |>.set F.HKADC_CAL_TARGET.FS_TARGET 4000 |>.onAdc fun a => { a with calCount := 64, calSum := 256000 }), 16384000, 4194304, 0, by decide +kernel⟩,
    ⟨(State.reset.set F.HKADC_CAL_CTRL.STATE 3 |>.set (F.LOOP_STATUS.STATE 3) 3 |>.onAdc fun a => { a with calCount := 64 }), by decide +kernel⟩,
    ⟨(State.reset.set F.HKADC_CAL_CTRL.STATE 3), by decide +kernel⟩,
    ⟨(State.reset.set F.HKADC_CAL_CTRL.STATE 2), .cxl, by decide +kernel⟩,
    ⟨(State.reset.set F.HKADC_CAL_CTRL.STATE 2), by decide +kernel⟩,
    ⟨State.reset, .cxl, 24, by decide +kernel⟩,
    ⟨(State.reset.set F.HKADC_CAL_CTRL.STATE 2), .cxl, 24, by decide +kernel⟩,
    ⟨State.reset.onAdc fun a => { a with diag := some { channel := 3, code := 77, results := List.replicate 15 7 } }, [7], { channel := 3, code := 77, results := List.replicate 15 7 }, List.replicate 15 7 ++ [28672], by decide +kernel⟩,
    ⟨State.reset.onAdc fun a => { a with diag := some { channel := 3, code := 77 } }, [], { channel := 3, code := 77 }, by decide +kernel⟩⟩

/-- Hypotheses of O43 are met. -/
theorem witness_PrecisionOutputsMoveAndAreHeldSafe :
    (∃ (s : State) (ch : Fin 20), (s.dac ch).change = none ∧ s.heldSafe ch = false ∧ s.get (F.PDAC_CH_CFG.SOURCE ch) = 0 ∧ s.on (F.PDAC_CH_CFG.SINE_EN ch) = false) ∧
    (∃ (s : State) (ch : Fin 20), (s.dac ch).change = none ∧ s.heldSafe ch = true) ∧
    (∃ (s : State) (ch : Fin 20) (code : Nat) (rest : List Nat), (s.dac ch).change = none ∧ s.heldSafe ch = false ∧ s.get (F.PDAC_CH_CFG.SOURCE ch) = 1 ∧ s.on (F.PDAC_CH_CFG.SINE_EN ch) = false ∧ (s.dac ch).queue = code :: rest ∧ code < 65536 ∧ ch.val < 16 ∧ ch.val < s.ana.pdac.length) ∧
    (∃ (s : State) (ch : Fin 20), (s.dac ch).change = none ∧ s.heldSafe ch = false ∧ s.get (F.PDAC_CH_CFG.SOURCE ch) = 1 ∧ s.on (F.PDAC_CH_CFG.SINE_EN ch) = false ∧ (s.dac ch).queue = [] ∧ (s.dac ch).last < 65536 ∧ ch.val < 16) ∧
    (∃ (s : State) (path : Path) (ch : Fin 20), s.mayWrite path (R.PDAC_CH_QUEUE ch) ∧ (s.dac ch).queue.length < 16 ∧ ch.val < s.ana.pdac.length) ∧
    (∃ (s : State) (path : Path) (ch : Fin 20), s.mayWrite path (R.PDAC_CH_QUEUE ch) ∧ 16 ≤ (s.dac ch).queue.length) ∧
    (∃ (s : State) (path : Path) (ch : Fin 20) (span : Fin 4), s.mayWrite path (R.PDAC_CH_CFG ch) ∧ s.dacInLoop ch = false ∧ (s.dac ch).change = none ∧ (s.dac ch).span ≠ min 2 span.val ∧ ch.val < s.ana.pdac.length) ∧
    (∃ (s : State) (path : Path) (ch : Fin 20), s.mayWrite path (R.PDAC_CH_CFG ch) ∧ s.dacInLoop ch = true) ∧
    (∃ (s : State) (ch : Fin 20) (c : SpanChange), (s.dac ch).change = some c ∧ c.step = 4 ∧ s.spanReached ch = true ∧ s.get (F.PDAC_CH_CFG.SPAN ch) = (s.dac ch).span ∧ ch.val < s.ana.pdac.length) ∧
    (∃ (s : State) (ch : Fin 20) (c : SpanChange), (s.dac ch).change = some c ∧ (c.step ≠ 4 ∨ s.spanReached ch = false)) ∧
    (∃ (s : State) (temp : Int), s.on F.PDAC_GLOBAL.OT = false ∧ (s.get F.PDAC_GLOBAL.OT_LIMIT : Int) < temp) ∧
    (∃ (s : State) (temp : Int), temp < (s.get F.PDAC_GLOBAL.OT_LIMIT : Int) - 10) ∧
    (∃ (s : State) (path : Path), s.mayWrite path R.PDAC_OT_STATUS ∧ s.on F.PDAC_GLOBAL.OT = false ∧ s.on F.PDAC_OT_STATUS.LATCHED = true) ∧
    (∃ (s : State) (path : Path), s.mayWrite path R.PDAC_OT_STATUS ∧ s.on F.PDAC_GLOBAL.OT = true) :=
  ⟨⟨(State.reset.set (F.PDAC_CH_CODE.CODE 19) 500).set (F.PDAC_CH_SLEW.STEP 3) 9, 19, by decide +kernel⟩,
    ⟨(State.reset.set F.PDAC_OT_STATUS.LATCHED 1).set (F.PDAC_CH_CFG.OT_SAFE 15) 1, 15, by decide +kernel⟩,
    ⟨(State.reset.set (F.PDAC_CH_CFG.SOURCE 15) 1).onDac 15 fun d => { d with queue := [7, 8] }, 15, 7, [8], by decide +kernel⟩,
    ⟨(State.reset.set (F.PDAC_CH_CFG.SOURCE 15) 1).onDac 15 fun d => { d with last := 77 }, 15, by decide +kernel⟩,
    ⟨State.reset, .cxl, 19, by decide +kernel⟩,
    ⟨State.reset.onDac 19 fun d => { d with queue := List.replicate 16 7 }, .cxl, 19, by decide +kernel⟩,
    ⟨State.reset, .cxl, 19, 3, by decide +kernel⟩,
    ⟨(State.reset.set (F.LOOP_STATUS.STATE 3) 3).set (F.LOOP_CTRL.PDAC 3) 19, .cxl, 19, by decide +kernel⟩,
    ⟨State.reset.onDac 19 fun d => { d with change := some ⟨4, 0, 0, 1000⟩ }, 19, ⟨4, 0, 0, 1000⟩, by decide +kernel⟩,
    ⟨State.reset.onDac 19 fun d => { d with change := some ⟨2, 0, 0, 1000⟩ }, 19, ⟨2, 0, 0, 1000⟩, by decide +kernel⟩,
    ⟨State.reset, 126, by decide +kernel⟩,
    ⟨State.reset, 90, by decide +kernel⟩,
    ⟨State.reset.set F.PDAC_OT_STATUS.LATCHED 1, .cxl, by decide +kernel⟩,
    ⟨(State.reset.set F.PDAC_OT_STATUS.LATCHED 1).set F.PDAC_GLOBAL.OT 1, .cxl, by decide +kernel⟩⟩

/-- Hypotheses of O44 are met. -/
theorem witness_LoopsFollowTable123 :
    (∃ (s : State), (∀ k : Fin 16, (s.lp k).out = none) ∧ (∀ k : Fin 16, (s.loopState k ≠ 3 ∧ s.loopState k ≠ 4)) ∧ (∀ k : Fin 16, (s.lp k).due = false) ∧ (∀ b : Fin 4, s.on (F.LOOP_TRACE_CTRL.EVERY_FRAME b) = false)) ∧
    (∃ (s : State) (n : Fin 16), n.val < s.ana.loops.length ∧ s.updates n = true ∧ (s.lp n).due = true) ∧
    (∃ (s : State) (n : Fin 16), s.mayUpdate n = false) ∧
    (∃ (s : State) (n : Fin 16), n.val < s.ana.loops.length ∧ s.mayUpdate n = true ∧ s.loopState n = 1) ∧
    (∃ (s : State) (n : Fin 16) (f : Int) (e : Int) (p : Int) (i : Int) (x : Int) (lo : Int) (hi : Int), n.val < s.ana.loops.length ∧ s.mayUpdate n = true ∧ s.loopState n = 3 ∧ s.get (F.LOOP_STALE.STALE_COUNT n) = 0 ∧ s.notRefreshed n = false ∧ s.on (F.HKADC_RESULT.VALID (s.get (F.LOOP_INPUT.FB_ENTRY n))) = true ∧ s.get (F.LOOP_PLAUS.PLAUS_MIN n) ≤ (nth s.ana.adc.raw (s.get (F.LOOP_INPUT.FB_ENTRY n)) 0) ∧ (nth s.ana.adc.raw (s.get (F.LOOP_INPUT.FB_ENTRY n)) 0) ≤ s.get (F.LOOP_PLAUS.PLAUS_MAX n) ∧ s.get (F.LOOP_FE.FE_LIMIT n) = 0 ∧ (s.get (F.LOOP_P_LAW.LAW n 0) ≠ 3 ∨ s.on (F.LOOP_INPUT.AUX_EN n) = false) ∧ (s.lp n).preload = none ∧ (s.lp n).law = s.get (F.LOOP_P_LAW.LAW n 0) ∧ f = s.feedback n 0 ((s.get (F.HKADC_RESULT.VALUE (s.get (F.LOOP_INPUT.FB_ENTRY n))) : Int)) ∧ e = s.loopError n 0 f ∧ p = s.feedForward n 0 + round16 (s.get (F.LOOP_P_KP.VALUE n 0) * e) ∧ i = sat48 ((s.lp n).integ + round16 (s.get (F.LOOP_P_KI.VALUE n 0) * e)) ∧ x = (if s.get (F.LOOP_P_LAW.LAW n 0) = 1 then round16 (s.get (F.LOOP_P_KD_SCALE.VALUE n 0) * (f - (s.lp n).f)) else 0) ∧ lo = s.get (F.LOOP_P_OUT_LIM.OUT_MIN n 0) * 256 ∧ hi = s.get (F.LOOP_P_OUT_LIM.OUT_MAX n 0) * 256) ∧
    (∃ (s : State) (n : Fin 16) (u0 : Int) (f : Int) (e : Int) (lo : Int) (hi : Int), n.val < s.ana.loops.length ∧ s.mayUpdate n = true ∧ s.loopState n = 3 ∧ s.get (F.LOOP_STALE.STALE_COUNT n) = 0 ∧ s.notRefreshed n = false ∧ s.on (F.HKADC_RESULT.VALID (s.get (F.LOOP_INPUT.FB_ENTRY n))) = true ∧ s.get (F.LOOP_PLAUS.PLAUS_MIN n) ≤ (nth s.ana.adc.raw (s.get (F.LOOP_INPUT.FB_ENTRY n)) 0) ∧ (nth s.ana.adc.raw (s.get (F.LOOP_INPUT.FB_ENTRY n)) 0) ≤ s.get (F.LOOP_PLAUS.PLAUS_MAX n) ∧ s.get (F.LOOP_FE.FE_LIMIT n) = 0 ∧ (s.lp n).preload = some u0 ∧ f = s.feedback n 0 ((s.get (F.HKADC_RESULT.VALUE (s.get (F.LOOP_INPUT.FB_ENTRY n))) : Int)) ∧ e = s.loopError n 0 f ∧ lo = s.get (F.LOOP_P_OUT_LIM.OUT_MIN n 0) * 256 ∧ hi = s.get (F.LOOP_P_OUT_LIM.OUT_MAX n 0) * 256) ∧
    (∃ (s : State) (n : Fin 16), n.val < s.ana.loops.length ∧ s.mayUpdate n = true ∧ s.loopState n = 3 ∧ s.get (F.LOOP_STALE.STALE_COUNT n) = 0 ∧ s.notRefreshed n = false ∧ ((s.on (F.HKADC_RESULT.VALID (s.get (F.LOOP_INPUT.FB_ENTRY n))) = false ∧ s.get (F.LOOP_PLAUS.PLAUS_MIN n) ≤ (nth s.ana.adc.raw (s.get (F.LOOP_INPUT.FB_ENTRY n)) 0) ∧ (nth s.ana.adc.raw (s.get (F.LOOP_INPUT.FB_ENTRY n)) 0) ≤ s.get (F.LOOP_PLAUS.PLAUS_MAX n)) ∨ ((s.lp n).wild = 0 ∧ ((nth s.ana.adc.raw (s.get (F.LOOP_INPUT.FB_ENTRY n)) 0) < s.get (F.LOOP_PLAUS.PLAUS_MIN n) ∨ s.get (F.LOOP_PLAUS.PLAUS_MAX n) < (nth s.ana.adc.raw (s.get (F.LOOP_INPUT.FB_ENTRY n)) 0))))) ∧
    (∃ (s : State) (n : Fin 16), n.val < s.ana.loops.length ∧ s.mayUpdate n = true ∧ s.loopState n = 3 ∧ s.get (F.LOOP_STALE.STALE_COUNT n) = 0 ∧ s.notRefreshed n = false ∧ 1 ≤ (s.lp n).wild ∧ ((nth s.ana.adc.raw (s.get (F.LOOP_INPUT.FB_ENTRY n)) 0) < s.get (F.LOOP_PLAUS.PLAUS_MIN n) ∨ s.get (F.LOOP_PLAUS.PLAUS_MAX n) < (nth s.ana.adc.raw (s.get (F.LOOP_INPUT.FB_ENTRY n)) 0))) ∧
    (∃ (s : State) (n : Fin 16), n.val < s.ana.loops.length ∧ s.mayUpdate n = true ∧ s.loopState n = 3 ∧ s.get (F.LOOP_STALE.STALE_COUNT n) = 0 ∧ s.notRefreshed n = true) ∧
    (∃ (s : State) (n : Fin 16), n.val < s.ana.loops.length ∧ s.loopState n = 3 ∧ (s.lp n).due = true ∧ 2 * s.get (F.LOOP_CTRL.DIV n) < nth s.ana.adc.idle (s.get (F.LOOP_INPUT.FB_ENTRY n)) 0 + 1 ∧ s.get (F.LOOP_INPUT.FB_ENTRY n) < s.ana.adc.idle.length) ∧
    (∃ (s : State) (n : Fin 16) (e : Int), n.val < s.ana.loops.length ∧ s.mayUpdate n = true ∧ s.loopState n = 3 ∧ s.get (F.LOOP_STALE.STALE_COUNT n) = 0 ∧ s.notRefreshed n = false ∧ s.on (F.HKADC_RESULT.VALID (s.get (F.LOOP_INPUT.FB_ENTRY n))) = true ∧ s.get (F.LOOP_PLAUS.PLAUS_MIN n) ≤ (nth s.ana.adc.raw (s.get (F.LOOP_INPUT.FB_ENTRY n)) 0) ∧ (nth s.ana.adc.raw (s.get (F.LOOP_INPUT.FB_ENTRY n)) 0) ≤ s.get (F.LOOP_PLAUS.PLAUS_MAX n) ∧ e = s.loopError n 0 (s.feedback n 0 ((s.get (F.HKADC_RESULT.VALUE (s.get (F.LOOP_INPUT.FB_ENTRY n))) : Int))) ∧ 0 < s.get (F.LOOP_FE.FE_LIMIT n) ∧ s.get (F.LOOP_FE.FE_LIMIT n) < e.natAbs ∧ s.get (F.LOOP_FE.FE_TIME n) ≤ (s.lp n).fe + 1 ∧ s.on (F.LOOP_CTRL.FE_HOLD n) = true) ∧
    (∃ (s : State) (path : Path) (n : Fin 16) (m : Fin 16) (mode : Fin 8), s.mayWrite path (R.LOOP_CTRL n) ∧ mode.val ≠ 0 ∧ m ≠ n ∧ s.loopState m ≠ 0 ∧ s.loopDac m = s.loopDac n ∧ s.closed n = false ∧ (s.loopState n = 2 → s.holdCause n ≠ 4)) ∧
    (∃ (s : State) (path : Path) (n : Fin 16), s.mayWrite path (R.LOOP_CTRL n) ∧ (∀ m : Fin 16, m ≠ n → s.loopState m = 0) ∧ (s.loopState n = 2 → (s.holdCause n ≠ 2 ∧ s.holdCause n ≠ 4))) ∧
    (∃ (s : State) (path : Path) (n : Fin 16) (u0 : Int), s.mayWrite path (R.LOOP_CTRL n) ∧ (∀ m : Fin 16, m ≠ n → s.loopState m = 0) ∧ (s.loopState n = 2 → (s.holdCause n ≠ 2 ∧ s.holdCause n ≠ 4)) ∧ s.loopDac n < 20 ∧ n.val < s.ana.loops.length ∧ u0 = clampI (s.get (F.LOOP_P_OUT_LIM.OUT_MIN n 0) * 256) (s.get (F.LOOP_P_OUT_LIM.OUT_MAX n 0) * 256) ((s.dac (s.loopDac n)).base * 256)) ∧
    (∃ (s : State) (path : Path) (n : Fin 16), s.mayWrite path (R.LOOP_CTRL n) ∧ (∀ m : Fin 16, m ≠ n → s.loopState m = 0) ∧ s.loopState n = 2 ∧ s.holdCause n = 2) ∧
    (∃ (s : State) (n : Fin 16), s.loopState n = 2 ∧ s.holdCause n = 1 ∧ s.on (F.LOOP_CTRL.AUTO_RECLOSE n) = true ∧ 256 ≤ s.get (F.LOOP_OUT.GOOD n)) ∧
    (∃ (s : State) (n : Fin 16), s.get (F.LOOP_OUT.GOOD n) < 256) ∧
    (∃ (s : State) (path : Path) (n : Fin 16) (value : Word), s.mayWrite path (R.LOOP_CTRL n) ∧ s.closed n = true ∧ s.loopState n ≠ 2 ∧ bitsOf value 3 0 ≠ bitsOf (s.rd (R.LOOP_INPUT n)) 3 0) ∧
    (∃ (s : State) (path : Path) (n : Fin 16), s.mayWrite path (R.LOOP_CTRL n) ∧ loopBarred path = true ∧ s.loopState n = 2 ∧ s.holdCause n = 4) ∧
    (∃ (s : State) (path : Path) (b : Fin 4), s.mayWrite path (R.LOOP_TRACE_CTRL b) ∧ s.on (F.LOOP_TRACE_CTRL.RUN b) = false) ∧
    (∃ (s : State) (path : Path) (b : Fin 4), s.mayWrite path (R.LOOP_TRACE_CTRL b) ∧ s.on (F.LOOP_TRACE_CTRL.RUN b) = true) ∧
    (∃ (s : State) (b : Fin 4), (nth s.ana.traces b.val {}).post = some 0 ∧ s.on (F.LOOP_TRACE_CTRL.RUN b) = true) :=
  ⟨⟨((State.reset.set F.LOOP_FRAME.COUNT 0xFFFFFFFF) |> fun s => { s with ana := { s.ana with cycles := 900 } }), by decide +kernel⟩,
    ⟨((State.reset.set (F.LOOP_STATUS.STATE 3) 3).onLoop 3 fun l => { l with due := true }), 3, by decide +kernel⟩,
    ⟨State.reset, 3, by decide +kernel⟩,
    ⟨((State.reset.set (F.LOOP_STATUS.STATE 3) 1).set (F.LOOP_MAN_OUT.MAN_OUT 3) 32768 |>.onLoop 3 fun l => { l with due := true }), 3, by decide +kernel⟩,
    ⟨(((((((((State.reset.set (F.LOOP_STATUS.STATE 3) 3).set (F.LOOP_CTRL.PDAC 3) 4).set (F.LOOP_INPUT.FB_ENTRY 3) 2).set (F.HKADC_RESULT.VALID 2) 1).set (F.HKADC_RESULT.VALUE 2) 2000).set (F.LOOP_P_SETPOINT.VALUE 3 0) 100).onAdc (fun a => { a with raw := List.replicate 17 100, converted := [2] }) |>.onLoop 3 fun l => { l with due := true }) |>.set (F.LOOP_STALE.STALE_COUNT 3) 0) |>.set (F.LOOP_P_KI.VALUE 3 0) 65536 |>.set (F.LOOP_P_KP.VALUE 3 0) 65536), 3, 2000, -1900, -1900, -1900, 0, 0, 16776960, by decide +kernel⟩,
    ⟨(((((((((State.reset.set (F.LOOP_STATUS.STATE 3) 3).set (F.LOOP_CTRL.PDAC 3) 4).set (F.LOOP_INPUT.FB_ENTRY 3) 2).set (F.HKADC_RESULT.VALID 2) 1).set (F.HKADC_RESULT.VALUE 2) 2000).set (F.LOOP_P_SETPOINT.VALUE 3 0) 100).onAdc (fun a => { a with raw := List.replicate 17 100, converted := [2] }) |>.onLoop 3 fun l => { l with due := true }) |>.set (F.LOOP_STALE.STALE_COUNT 3) 0) |>.set (F.LOOP_P_KP.VALUE 3 0) 65536 |>.onLoop 3 fun l => { l with preload := some 70000 }), 3, 70000, 2000, -1900, 0, 16776960, by decide +kernel⟩,
    ⟨(((((((((State.reset.set (F.LOOP_STATUS.STATE 3) 3).set (F.LOOP_CTRL.PDAC 3) 4).set (F.LOOP_INPUT.FB_ENTRY 3) 2).set (F.HKADC_RESULT.VALID 2) 1).set (F.HKADC_RESULT.VALUE 2) 2000).set (F.LOOP_P_SETPOINT.VALUE 3 0) 100).onAdc (fun a => { a with raw := List.replicate 17 100, converted := [2] }) |>.onLoop 3 fun l => { l with due := true }) |>.set (F.LOOP_STALE.STALE_COUNT 3) 0) |>.set (F.LOOP_PLAUS.PLAUS_MIN 3) 101), 3, by decide +kernel⟩,
    ⟨(((((((((State.reset.set (F.LOOP_STATUS.STATE 3) 3).set (F.LOOP_CTRL.PDAC 3) 4).set (F.LOOP_INPUT.FB_ENTRY 3) 2).set (F.HKADC_RESULT.VALID 2) 1).set (F.HKADC_RESULT.VALUE 2) 2000).set (F.LOOP_P_SETPOINT.VALUE 3 0) 100).onAdc (fun a => { a with raw := List.replicate 17 100, converted := [2] }) |>.onLoop 3 fun l => { l with due := true }) |>.set (F.LOOP_STALE.STALE_COUNT 3) 0) |>.set (F.LOOP_PLAUS.PLAUS_MIN 3) 101 |>.onLoop 3 fun l => { l with wild := 1, goodOut := 777 }), 3, by decide +kernel⟩,
    ⟨(((((((((State.reset.set (F.LOOP_STATUS.STATE 3) 3).set (F.LOOP_CTRL.PDAC 3) 4).set (F.LOOP_INPUT.FB_ENTRY 3) 2).set (F.HKADC_RESULT.VALID 2) 1).set (F.HKADC_RESULT.VALUE 2) 2000).set (F.LOOP_P_SETPOINT.VALUE 3 0) 100).onAdc (fun a => { a with raw := List.replicate 17 100, converted := [2] }) |>.onLoop 3 fun l => { l with due := true }) |>.set (F.LOOP_STALE.STALE_COUNT 3) 0) |>.onAdc fun a => { a with idle := List.replicate 16 600 }), 3, by decide +kernel⟩,
    ⟨(((((((((State.reset.set (F.LOOP_STATUS.STATE 3) 3).set (F.LOOP_CTRL.PDAC 3) 4).set (F.LOOP_INPUT.FB_ENTRY 3) 2).set (F.HKADC_RESULT.VALID 2) 1).set (F.HKADC_RESULT.VALUE 2) 2000).set (F.LOOP_P_SETPOINT.VALUE 3 0) 100).onAdc (fun a => { a with raw := List.replicate 17 100, converted := [2] }) |>.onLoop 3 fun l => { l with due := true }) |>.set (F.LOOP_STALE.STALE_COUNT 3) 0) |>.onAdc fun a => { a with idle := List.replicate 16 600 }), 3, by decide +kernel⟩,
    ⟨(((((((((State.reset.set (F.LOOP_STATUS.STATE 3) 3).set (F.LOOP_CTRL.PDAC 3) 4).set (F.LOOP_INPUT.FB_ENTRY 3) 2).set (F.HKADC_RESULT.VALID 2) 1).set (F.HKADC_RESULT.VALUE 2) 2000).set (F.LOOP_P_SETPOINT.VALUE 3 0) 100).onAdc (fun a => { a with raw := List.replicate 17 100, converted := [2] }) |>.onLoop 3 fun l => { l with due := true }) |>.set (F.LOOP_STALE.STALE_COUNT 3) 0) |>.set (F.LOOP_FE.FE_LIMIT 3) 1899 |>.set (F.LOOP_FE.FE_TIME 3) 1 |>.set (F.LOOP_CTRL.FE_HOLD 3) 1), 3, -1900, by decide +kernel⟩,
    ⟨((State.reset.set (F.LOOP_STATUS.STATE 3) 1)), .cxl, 15, 3, 7, by decide +kernel⟩,
    ⟨State.reset, .cxl, 15, by decide +kernel⟩,
    ⟨(State.reset.set (F.LOOP_P_OUT_LIM.OUT_MIN 15 0) 9), .cxl, 15, 2304, by decide +kernel⟩,
    ⟨((State.reset.set (F.LOOP_STATUS.STATE 3) 2).set (F.LOOP_STATUS.HOLD_CAUSE 3) 2), .cxl, 3, by decide +kernel⟩,
    ⟨((State.reset.set (F.LOOP_STATUS.STATE 3) 2).set (F.LOOP_STATUS.HOLD_CAUSE 3) 1 |>.set (F.LOOP_CTRL.AUTO_RECLOSE 3) 1 |>.set (F.LOOP_OUT.GOOD 3) 256 |>.set (F.LOOP_CTRL.MODE 3) 4), 3, by decide +kernel⟩,
    ⟨State.reset, 3, by decide +kernel⟩,
    ⟨((State.reset.set (F.LOOP_STATUS.STATE 3) 3)), .cxl, 3, 0x05550007, by decide +kernel⟩,
    ⟨((State.reset.set (F.LOOP_STATUS.STATE 3) 2).set (F.LOOP_STATUS.HOLD_CAUSE 3) 4), .cxl, 3, by decide +kernel⟩,
    ⟨State.reset, .cxl, 3, by decide +kernel⟩,
    ⟨State.reset.set (F.LOOP_TRACE_CTRL.RUN 3) 1, .cxl, 3, by decide +kernel⟩,
    ⟨(State.reset.set (F.LOOP_TRACE_CTRL.RUN 3) 1) |> fun s => { s with ana := { s.ana with traces := List.replicate 4 { post := some 0 } } }, 3, by decide +kernel⟩⟩

/-- Hypotheses of O45 are met. -/
theorem witness_MemoryReadsAndWritesFollowR256R257 :
    (∃ (s : State) (r : Fin 9) (w : Nat) (u : MemWord) (b : MemReader), w < regionWords r ∧ s.domOn (wordDomain r w) = true ∧ syndromeOf (turned (s.memWord r w) u) = 0 ∧ (r.val = 5 → b ≠ .plough)) ∧
    (∃ (s : State) (r : Fin 9) (w : Nat) (u : MemWord) (b : MemReader), w < regionWords r ∧ s.domOn (wordDomain r w) = true ∧ correctable (syndromeOf (turned (s.memWord r w) u)) = true ∧ (r.val = 5 → b ≠ .plough)) ∧
    (∃ (s : State) (r : Fin 9) (w : Nat) (u : MemWord), w < regionWords r ∧ s.domOn (wordDomain r w) = true ∧ (r.val = 0 ∨ r.val = 1 ∨ r.val = 8) ∧ correctable (syndromeOf (turned (s.memWord r w) u)) = false ∧ syndromeOf (turned (s.memWord r w) u) ≠ 0 ∧ syndromeOf (turned (s.memWord r w) u) ≠ 0xFF) ∧
    (∃ (s : State) (r : Fin 9) (w : Nat) (u : MemWord), w < regionWords r ∧ s.domOn (wordDomain r w) = true ∧ (r.val = 3 ∨ r.val = 6 ∨ r.val = 7) ∧ correctable (syndromeOf (turned (s.memWord r w) u)) = false ∧ syndromeOf (turned (s.memWord r w) u) ≠ 0 ∧ syndromeOf (turned (s.memWord r w) u) ≠ 0xFF) ∧
    (∃ (s : State) (r : Fin 9) (w : Nat) (u : MemWord), w < regionWords r ∧ s.domOn (wordDomain r w) = true ∧ (r.val = 0 ∨ r.val = 1 ∨ r.val = 8) ∧ syndromeOf (turned (s.memWord r w) u) = 0xFF) ∧
    (∃ (s : State) (r : Fin 9) (w : Nat) (u : MemWord), w < regionWords r ∧ s.domOn (wordDomain r w) = true ∧ (r.val = 3 ∨ r.val = 6 ∨ r.val = 7) ∧ syndromeOf (turned (s.memWord r w) u) = 0xFF) ∧
    (∃ (s : State) (w : Nat) (u : MemWord), w < regionWords 7 ∧ s.domOn (wordDomain 7 w) = true ∧ syndromeOf (turned (s.memWord 7 w) u) = 0xFF) ∧
    (∃ (s : State) (w : Nat) (u : MemWord) (port : Fin 16), w < regionWords 3 ∧ s.domOn (wordDomain 3 w) = true ∧ syndromeOf (turned (s.memWord 3 w) u) = 0xFF ∧ port.val < s.ports.length) ∧
    (∃ (s : State) (w : Nat) (u : MemWord) (b : MemReader), w < regionWords 4 ∧ s.domOn (wordDomain 4 w) = true ∧ syndromeOf (turned (s.memWord 4 w) u) = 0xFF ∧ b ≠ .plan) ∧
    (∃ (s : State) (r : Fin 9) (w : Nat) (u : MemWord), w < regionWords r ∧ s.domOn (wordDomain r w) = true ∧ syndromeOf (turned (s.memWord r w) u) = 0xFF ∧ r.val = 4 ∧ s.bufState = 3 ∧ s.plan.after ≠ .boot) ∧
    (∃ (w : Nat), w < regionWords 5) ∧
    (∃ (s : State) (r : Fin 9) (w : Nat) (b : MemReader), w < regionWords r ∧ s.domOn (wordDomain r w) = true ∧ syndromeOf (s.memWord r w) = 0 ∧ (r.val = 5 → b ≠ .plough)) ∧
    (∃ (s : State) (r : Fin 9) (w : Nat) (i : Fin 72) (j : Fin 72) (b : MemReader), w < regionWords r ∧ s.domOn (wordDomain r w) = true ∧ i ≠ j ∧ syndromeOf (s.memWord r w) = 0 ∧ (r.val = 5 → b ≠ .plough)) ∧
    (∃ (s : State) (r : Fin 9) (w : Nat) (b : MemReader), w < regionWords r ∧ s.domOn (wordDomain r w) = false ∧ (r.val = 5 → b ≠ .plough)) ∧
    (∃ (s : State) (r : Fin 9) (w : Nat), w < regionWords r ∧ s.domOn (wordDomain r w) = false) ∧
    (∃ (s : State) (r : Fin 9) (w : Nat), w < regionWords r ∧ s.domOn (wordDomain r w) = false) ∧
    (∃ (s : State) (r : Fin 9) (w : Nat) (u : MemWord), w < regionWords r ∧ s.domOn (wordDomain r w) = true ∧ (s.on F.MEM_FLIP_CTRL.ARMED = false ∨ s.get F.MEM_FLIP_CTRL.REGION ≠ r) ∧ syndromeOf (turned (s.memWord r w) u) = 0) ∧
    (∃ (s : State) (r : Fin 9) (w : Nat) (u : MemWord), w < regionWords r ∧ s.domOn (wordDomain r w) = true ∧ (s.on F.MEM_FLIP_CTRL.ARMED = false ∨ s.get F.MEM_FLIP_CTRL.REGION ≠ r) ∧ correctable (syndromeOf (turned (s.memWord r w) u)) = true) ∧
    (∃ (s : State) (r : Fin 9) (w : Nat) (u : MemWord), w < regionWords r ∧ s.domOn (wordDomain r w) = true ∧ (s.on F.MEM_FLIP_CTRL.ARMED = false ∨ s.get F.MEM_FLIP_CTRL.REGION ≠ r) ∧ correctable (syndromeOf (turned (s.memWord r w) u)) = false ∧ syndromeOf (turned (s.memWord r w) u) ≠ 0 ∧ syndromeOf (turned (s.memWord r w) u) ≠ 0xFF) ∧
    (∃ (s : State) (r : Fin 9) (w : Nat) (u : MemWord), w < regionWords r ∧ s.domOn (wordDomain r w) = true ∧ (s.on F.MEM_FLIP_CTRL.ARMED = false ∨ s.get F.MEM_FLIP_CTRL.REGION ≠ r) ∧ syndromeOf (turned (s.memWord r w) u) = 0xFF) ∧
    (∃ (s : State) (r : Fin 9) (w : Nat), w < regionWords r ∧ s.domOn (wordDomain r w) = true ∧ (s.on F.MEM_FLIP_CTRL.ARMED = false ∨ s.get F.MEM_FLIP_CTRL.REGION ≠ r)) ∧
    (∃ (s : State) (r : Fin 9) (w : Nat), w < regionWords r ∧ s.domOn (wordDomain r w) = true ∧ s.on F.MEM_FLIP_CTRL.ARMED = true ∧ s.get F.MEM_FLIP_CTRL.REGION = r ∧ s.rd R.MEM_FLIP_DATA_LO = 0 ∧ s.rd R.MEM_FLIP_DATA_HI = 0) ∧
    (∃ (s : State) (path : Path), s.mayWriteRws path R.MEM_FLIP_CTRL 2) ∧
    (∃ (r : Fin 9) (w : Nat), regionWords r ≤ w) :=
  ⟨⟨((State.reset.memPut 4 256 (memWordOf 77 0))), 4, 256, 0, .agent, by decide +kernel⟩,
    ⟨((State.reset.memPut 4 256 (memWordOf 77 1)) |>.set (F.MEM_BUCKET.LEVEL 4) 15), 4, 256, 0, .agent, by decide +kernel⟩,
    ⟨((State.reset.set (F.PWR_DOM_STATUS.STATE 2) 3).memPut 8 256 (memWordOf 77 3)), 8, 256, 0, by decide +kernel⟩,
    ⟨(State.reset.memPut 6 256 (memWordOf 77 3)), 6, 256, 0, by decide +kernel⟩,
    ⟨((State.reset.set (F.PWR_DOM_STATUS.STATE 2) 3).memPut 8 256 (memWordOf 77 0xFF)), 8, 256, 0, by decide +kernel⟩,
    ⟨(State.reset.memPut 6 256 (memWordOf 77 0xFF)), 6, 256, 0, by decide +kernel⟩,
    ⟨(State.reset.memPut 7 256 (memWordOf 77 0xFF)), 256, 0, by decide +kernel⟩,
    ⟨((State.reset.set (F.PWR_DOM_STATUS.STATE 25) 3).memPut 3 256 (memWordOf 77 0xFF)), 256, 0, 5, by decide +kernel⟩,
    ⟨(State.reset.memPut 4 256 (memWordOf 77 0xFF)), 256, 0, .plough, by decide +kernel⟩,
    ⟨((State.reset.memPut 4 256 (memWordOf 77 0xFF)) |>.set F.PLAN_STATUS.STATE 3), 4, 256, 0, by decide +kernel⟩,
    ⟨256, by decide +kernel⟩,
    ⟨((State.reset.memPut 4 256 (memWordOf 77 0))), 4, 256, .agent, by decide +kernel⟩,
    ⟨((State.reset.memPut 4 256 (memWordOf 77 0))), 4, 256, 63, 71, .agent, by decide +kernel⟩,
    ⟨State.reset, 3, 256, .agent, by decide +kernel⟩,
    ⟨State.reset, 3, 256, by decide +kernel⟩,
    ⟨State.reset, 3, 256, by decide +kernel⟩,
    ⟨((State.reset.memPut 4 256 (memWordOf 77 0))), 4, 256, 0, by decide +kernel⟩,
    ⟨((State.reset.memPut 4 256 (memWordOf 77 2))), 4, 256, 0, by decide +kernel⟩,
    ⟨((State.reset.memPut 4 256 (memWordOf 77 3))), 4, 256, 0, by decide +kernel⟩,
    ⟨((State.reset.memPut 4 256 (memWordOf 77 0xFF))), 4, 256, 0, by decide +kernel⟩,
    ⟨((State.reset.memPut 4 256 (memWordOf 77 0xFF))), 4, 256, by decide +kernel⟩,
    ⟨((State.reset.memPut 4 256 (memWordOf 77 0)) |>.set F.MEM_FLIP_CTRL.ARMED 1 |>.set F.MEM_FLIP_CTRL.REGION 4 |>.set F.MEM_FLIP_CTRL.CHECK 255), 4, 256, by decide +kernel⟩,
    ⟨State.reset, .hedge, by decide +kernel⟩,
    ⟨4, 524288, by decide +kernel⟩⟩

/-- Hypotheses of O46 are met. -/
theorem witness_BucketsHarrowAndInitialisation :
    (∃ (s : State) (r : Fin 9) (u : MemWord) (w : Nat), s.on F.MEM_HARROW_CTRL.EN = true ∧ s.bistRuns = false ∧ r.val ≠ 2 ∧ s.domOn (wordDomain r w) = true ∧ w = nth s.mem.next r.val 0 ∧ w + 1 < regionWords r ∧ s.mem.next.length = 9 ∧ syndromeOf (turned (s.memWord r w) u) = 0) ∧
    (∃ (s : State) (r : Fin 9) (u : MemWord) (w : Nat), s.on F.MEM_HARROW_CTRL.EN = true ∧ s.bistRuns = false ∧ r.val ≠ 2 ∧ s.domOn (wordDomain r w) = true ∧ w = nth s.mem.next r.val 0 ∧ w + 1 < regionWords r ∧ s.mem.next.length = 9 ∧ correctable (syndromeOf (turned (s.memWord r w) u)) = true) ∧
    (∃ (s : State) (r : Fin 9) (u : MemWord) (w : Nat), s.on F.MEM_HARROW_CTRL.EN = true ∧ s.bistRuns = false ∧ r.val ≠ 2 ∧ s.domOn (wordDomain r w) = true ∧ w = nth s.mem.next r.val 0 ∧ w + 1 < regionWords r ∧ s.mem.next.length = 9 ∧ syndromeOf (turned (s.memWord r w) u) = 0xFF) ∧
    (∃ (s : State) (r : Fin 9) (u : MemWord) (w : Nat), s.on F.MEM_HARROW_CTRL.EN = true ∧ s.bistRuns = false ∧ r.val ≠ 2 ∧ s.domOn (wordDomain r w) = true ∧ w = nth s.mem.next r.val 0 ∧ w + 1 = regionWords r ∧ s.mem.next.length = 9 ∧ syndromeOf (turned (s.memWord r w) u) = 0) ∧
    (∃ (s : State), s.on F.MEM_HARROW_CTRL.EN = false) ∧
    (∃ (s : State), s.mem.waiting = []) :=
  ⟨⟨State.reset, 8, 0, 0, by decide +kernel⟩,
    ⟨State.reset.memPut 8 0 (memWordOf 77 1), 8, 0, 0, by decide +kernel⟩,
    ⟨State.reset.memPut 8 0 (memWordOf 77 0xFF), 8, 0, 0, by decide +kernel⟩,
    ⟨State.reset.onMem fun m => { m with next := m.next.set 8 65535 }, 8, 0, 65535, by decide +kernel⟩,
    ⟨State.reset.set F.MEM_HARROW_CTRL.EN 0, by decide +kernel⟩,
    ⟨((State.reset.memPut 4 256 (memWordOf 77 0))), by decide +kernel⟩⟩

/-- Hypotheses of O47 are met. -/
theorem witness_CxlPortFollowsTable135 :
    (∃ (s : State), s.portState = 0 ∧ s.cxl.refOk = true) ∧
    (∃ (s : State), s.portState = 0 ∧ s.cxl.refOk = false) ∧
    (∃ (s : State), s.portState = 0 ∧ s.cxl.released = true) ∧
    (∃ (s : State), s.portState = 1 ∧ (s.on (F.PWR_WAKE_MAP.EN 3) = false ∨ s.domOn (s.get (F.PWR_WAKE_MAP.DOMAIN 3)) = true)) ∧
    (∃ (s : State), s.portState = 1) ∧
    (∃ (s : State), s.portState = 2) ∧
    (∃ (s : State), s.portState = 2 ∧ s.winState = 0) ∧
    (∃ (s : State), s.portState = 2 ∧ s.winState = 0) ∧
    (∃ (s : State), s.portState = 2 ∧ s.winState = 0) ∧
    (∃ (s : State), s.portState = 2 ∧ s.winState = 0) ∧
    (∃ (s : State), s.portState = 2 ∧ s.winState ≠ 0) ∧
    (∃ (s : State), s.portState = 2 ∧ s.winState ≠ 0) ∧
    (∃ (s : State), s.portState = 2 ∧ s.winState ≠ 0) ∧
    (∃ (s : State), s.portState = 2 ∧ s.winState ≠ 0) ∧
    (∃ (s : State), s.portState = 1) ∧
    (∃ (s : State), s.portState = 1) ∧
    (∃ (s : State), s.portState = 1) ∧
    (∃ (s : State) (path : Path), s.mayWrite path R.CXLCTL_LINK_CTRL ∧ s.portState = 2) ∧
    (∃ (s : State) (path : Path), s.mayWrite path R.CXLCTL_LINK_CTRL ∧ s.portState ≠ 2) ∧
    (∃ (s : State), s.msixEnabled = false) ∧
    (∃ (s : State), s.msixEnabled = false ∧ s.cxlUp = true) ∧
    (∃ (s : State), s.msixEnabled = true) :=
  ⟨⟨State.reset, by decide +kernel⟩,
    ⟨State.reset.onCxl fun c => { c with refOk := false }, by decide +kernel⟩,
    ⟨State.reset.onCxl fun c => { c with refOk := false, released := true }, by decide +kernel⟩,
    ⟨(State.reset.set F.CXLCTL_LINK.STATE 1).set (F.PWR_WAKE_MAP.EN 3) 0, by decide +kernel⟩,
    ⟨State.reset.set F.CXLCTL_LINK.STATE 1, by decide +kernel⟩,
    ⟨(State.reset.set F.CXLCTL_LINK.STATE 2), by decide +kernel⟩,
    ⟨(State.reset.set F.CXLCTL_LINK.STATE 2 |>.set (F.SEC_SESSION.OPEN 0) 1), by decide +kernel⟩,
    ⟨(State.reset.set F.CXLCTL_LINK.STATE 2 |>.set (F.SEC_SESSION.OPEN 0) 1), by decide +kernel⟩,
    ⟨(State.reset.set F.CXLCTL_LINK.STATE 2 |>.set (F.SEC_SESSION.OPEN 0) 1), by decide +kernel⟩,
    ⟨(State.reset.set F.CXLCTL_LINK.STATE 2 |>.set (F.SEC_SESSION.OPEN 0) 1), by decide +kernel⟩,
    ⟨(State.reset.set F.CXLCTL_LINK.STATE 2 |>.set F.CXLCTL_WIN_CMD.WSTATE 1), by decide +kernel⟩,
    ⟨(State.reset.set F.CXLCTL_LINK.STATE 2 |>.set F.CXLCTL_WIN_CMD.WSTATE 1), by decide +kernel⟩,
    ⟨(State.reset.set F.CXLCTL_LINK.STATE 2 |>.set F.CXLCTL_WIN_CMD.WSTATE 1), by decide +kernel⟩,
    ⟨(State.reset.set F.CXLCTL_LINK.STATE 2 |>.set F.CXLCTL_WIN_CMD.WSTATE 1), by decide +kernel⟩,
    ⟨State.reset.set F.CXLCTL_LINK.STATE 1, by decide +kernel⟩,
    ⟨State.reset.set F.CXLCTL_LINK.STATE 1, by decide +kernel⟩,
    ⟨State.reset.set F.CXLCTL_LINK.STATE 1, by decide +kernel⟩,
    ⟨(State.reset.set F.CXLCTL_LINK.STATE 2), .cxl, by decide +kernel⟩,
    ⟨State.reset, .cxl, by decide +kernel⟩,
    ⟨State.reset.set F.MBX_STATUS.DONE 1, by decide +kernel⟩,
    ⟨(((State.reset.set F.CXLCTL_LINK.STATE 2).set F.CXLCTL_LINK.PROTO 2).set F.MBX_STATUS.DONE 1).set (vectorMask 0x30) 0, by decide +kernel⟩,
    ⟨{ State.reset with msixEnabled := true }, by decide +kernel⟩⟩

/-- Hypotheses of O48 are met. -/
theorem witness_WindowAndMailboxFollowTable136AndR271 :
    (∃ (s : State) (path : Path), s.mayWrite path R.CXLCTL_WIN_CMD ∧ isCxl path = true ∧ s.winState = 0 ∧ s.cxlUp = true ∧ s.get F.CXLCTL_LINK.PROTO = 2) ∧
    (∃ (s : State) (path : Path), s.mayWrite path R.CXLCTL_WIN_CMD ∧ isCxl path = true ∧ (s.winState ≠ 0 ∨ s.cxlUp = false ∨ s.get F.CXLCTL_LINK.PROTO ≠ 2)) ∧
    (∃ (s : State) (path : Path), s.mayWrite path R.CXLCTL_WIN_CMD ∧ isCxl path = false) ∧
    (∃ (s : State) (path : Path), s.mayWrite path R.CXLCTL_WIN_CMD ∧ isCxl path = true ∧ s.winState = 1 ∧ s.bufState ≠ 1 ∧ s.fwState ≠ 1) ∧
    (∃ (s : State) (path : Path), s.mayWrite path R.CXLCTL_WIN_CMD ∧ isCxl path = true ∧ s.winState = 2) ∧
    (∃ (s : State) (path : Path), s.mayWrite path R.CXLCTL_WIN_CMD ∧ isCxl path = true ∧ s.winState = 0) ∧
    (∃ (s : State), s.winState = 2) ∧
    (∃ (s : State), s.winState = 2) ∧
    (∃ (s : State), s.winState = 1 ∧ s.cxl.timeouts < 3 ∧ s.bufState ≠ 1 ∧ s.fwState ≠ 1) ∧
    (∃ (s : State), s.winState = 1 ∧ s.cxl.timeouts = 3 ∧ s.bufState ≠ 1 ∧ s.fwState ≠ 1) ∧
    (∃ (s : State), s.winState = 1 ∧ s.bufState = 1 ∧ s.plan.load = .window) ∧
    (∃ (s : State), s.winState ≠ 0 ∧ s.bufState ≠ 1 ∧ s.fwState ≠ 1) ∧
    (∃ (s : State), s.cxlUp = true ∧ s.on F.MBX_STATUS.BUSY = true) ∧
    (∃ (s : State), s.cxlUp = true ∧ s.on F.MBX_STATUS.BUSY = false) ∧
    (∃ (s : State) (length : Fin 8192) (m : List Byte), s.cxlUp = true ∧ s.on F.MBX_STATUS.BUSY = false ∧ length.val ≠ 0 ∧ m = s.getBytes (R.MBX_COMMAND 0) (min 4096 length.val) ∧ 8 ≤ m.length ∧ m.length = 8 + beNat (slice m 6 2) + (if beNat (slice m 1 1) = 4 then 0 else 40) ∧ 0 < s.sec.requests.length) ∧
    (∃ (s : State) (r : List Byte), s.on F.MBX_STATUS.BUSY = true ∧ s.sec.mbxResp = some r ∧ s.cxl.discard = false ∧ r.length ≤ 4096) ∧
    (∃ (s : State) (r : List Byte), s.on F.MBX_STATUS.BUSY = true ∧ s.sec.mbxResp = some r ∧ s.cxl.discard = true) ∧
    (∃ (s : State) (h : Nat) (k : Nat), h = s.get F.MBX_NOTIFY_HEAD.HEAD ∧ k = s.get F.MBX_NOTIFY_TAIL.TAIL) :=
  ⟨⟨(((State.reset.set F.CXLCTL_LINK.STATE 2).set F.CXLCTL_LINK.PROTO 2)), .cxl, by decide +kernel⟩,
    ⟨((State.reset.set F.CXLCTL_WIN_CMD.WSTATE 2)), .wmp 0, by decide +kernel⟩,
    ⟨State.reset, .plough, by decide +kernel⟩,
    ⟨((State.reset.set F.CXLCTL_WIN_CMD.WSTATE 1)), .cxl, by decide +kernel⟩,
    ⟨((State.reset.set F.CXLCTL_WIN_CMD.WSTATE 2)), .cxl, by decide +kernel⟩,
    ⟨State.reset, .cxl, by decide +kernel⟩,
    ⟨((State.reset.set F.CXLCTL_WIN_CMD.WSTATE 2)), by decide +kernel⟩,
    ⟨((State.reset.set F.CXLCTL_WIN_CMD.WSTATE 2)), by decide +kernel⟩,
    ⟨((State.reset.set F.CXLCTL_WIN_CMD.WSTATE 1)), by decide +kernel⟩,
    ⟨((State.reset.set F.CXLCTL_WIN_CMD.WSTATE 1).onCxl fun c => { c with timeouts := 3 }), by decide +kernel⟩,
    ⟨((State.reset.set F.CXLCTL_WIN_CMD.WSTATE 1).set F.PLAN_STATUS.STATE 1 |>.onPlan fun q => { q with load := .window }), by decide +kernel⟩,
    ⟨((State.reset.set F.CXLCTL_WIN_CMD.WSTATE 1)), by decide +kernel⟩,
    ⟨(((State.reset.set F.CXLCTL_LINK.STATE 2).set F.CXLCTL_LINK.PROTO 2).set F.MBX_STATUS.BUSY 1), by decide +kernel⟩,
    ⟨(((State.reset.set F.CXLCTL_LINK.STATE 2).set F.CXLCTL_LINK.PROTO 2)), by decide +kernel⟩,
    ⟨(((State.reset.set F.CXLCTL_LINK.STATE 2).set F.CXLCTL_LINK.PROTO 2)), 48, List.replicate 48 0, by decide +kernel⟩,
    ⟨(((State.reset.set F.CXLCTL_LINK.STATE 2).set F.CXLCTL_LINK.PROTO 2).set F.MBX_STATUS.BUSY 1 |>.onSec fun x => { x with mbxResp := some [1, 2, 3, 4, 5] }), [1, 2, 3, 4, 5], by decide +kernel⟩,
    ⟨State.reset.set F.MBX_STATUS.BUSY 1 |>.onSec (fun x => { x with mbxResp := some [1] }) |>.onCxl fun c => { c with discard := true }, [1], by decide +kernel⟩,
    ⟨(State.reset.set F.MBX_NOTIFY_HEAD.HEAD 14).set F.MBX_NOTIFY_TAIL.TAIL 2, 14, 2, by decide +kernel⟩⟩

/-- Hypotheses of O49 are met. -/
theorem witness_SessionsFollowR288ToR294 :
    (∃ (s : State) (e : Envelope) (role : Fin 256), s.wmpReady e ∧ e.session = 0 ∧ e.path.val < s.sec.sessions.length ∧ 1 ≤ role.val ∧ role.val ≤ 4 ∧ s.get (F.SEC_LOCKOUT.LEFT (role.val - 1)) = 0) ∧
    (∃ (s : State) (e : Envelope) (role : Fin 256), s.wmpReady e ∧ e.session = 0 ∧ (role.val = 0 ∨ 4 < role.val)) ∧
    (∃ (s : State) (e : Envelope) (role : Fin 256), s.wmpReady e ∧ e.session = 0 ∧ 1 ≤ role.val ∧ role.val ≤ 4 ∧ s.get (F.SEC_LOCKOUT.LEFT (role.val - 1)) ≠ 0) ∧
    (∃ (s : State) (e : Envelope), s.wmpReady e ∧ e.session = 0 ∧ (s.session e.path).challenge = none) ∧
    (∃ (s : State) (e : Envelope) (sid : Nat) (sid2 : Nat) (role : Nat) (nd : List Byte) (late : Bool), s.wmpReady e ∧ e.session = 0 ∧ e.path.val < s.sec.sessions.length ∧ (s.session e.path).challenge = some (sid2, role, nd) ∧ (sid ≠ sid2 ∨ late = true)) ∧
    (∃ (s : State) (e : Envelope) (sid : Nat) (role : Nat) (nd : List Byte), s.wmpReady e ∧ e.session = 0 ∧ e.path.val < s.sec.sessions.length ∧ (s.session e.path).challenge = some (sid, role, nd) ∧ 1 ≤ role ∧ role ≤ 4 ∧ s.get (F.SEC_LOCKOUT.LEFT (role - 1)) = 0) ∧
    (∃ (s : State) (e : Envelope) (sid : Nat) (role : Nat) (nd : List Byte), s.wmpReady e ∧ e.session = 0 ∧ e.path.val < s.sec.sessions.length ∧ (s.session e.path).challenge = some (sid, role, nd) ∧ s.get (F.SEC_LOCKOUT.LEFT (role - 1)) ≠ 0) ∧
    (∃ (s : State) (e : Envelope), s.wmpReady e ∧ e.session ≠ 0 ∧ s.on (F.SEC_SESSION.OPEN e.path) = true ∧ (s.session e.path).sid = e.session ∧ e.path.val < s.sec.sessions.length) ∧
    (∃ (s : State) (e : Envelope), s.wmpReady e ∧ e.session ≠ 0 ∧ (s.on (F.SEC_SESSION.OPEN e.path) = false ∨ (s.session e.path).sid ≠ e.session)) ∧
    (∃ (s : State) (e : Envelope), s.wmpReady e ∧ e.session ≠ 0 ∧ s.on (F.SEC_SESSION.OPEN e.path) = true ∧ (s.session e.path).sid = e.session ∧ e.path.val < s.sec.sessions.length ∧ (s.session e.path).counter < e.counter ∧ e.counter = 0xFFFFFFFF ∧ 1 ≤ s.roleOn e.path ∧ e.mac = (Config.hmac (s.session e.path).keyIn (wmpHead e 5 3 0 ++ [] ++ (beBytes 4 e.session ++ beBytes 4 e.counter))).take 32) ∧
    (∃ (s : State) (e : Envelope), s.wmpReady e ∧ e.session = 0) ∧
    (∃ (s : State) (p : Fin 4), s.on (F.SEC_SESSION.OPEN p) = true) ∧
    (∃ (s : State), s.on (F.SEC_SESSION.OPEN 1) = true) ∧
    (∃ (s : State) (e : Envelope) (role : Fin 256) (key : List Byte), s.wmpInSession e 1 4 (beBytes 1 role ++ [0, 0, 0] ++ key) 0 ∧ 1 ≤ role.val ∧ role.val ≤ 3 ∧ role.val ≤ s.roleOn e.path ∧ key.length = 32 ∧ s.sec.roleKeys.length = 4) ∧
    (∃ (s : State) (e : Envelope) (role : Fin 256) (key : List Byte), s.wmpInSession e 1 4 (beBytes 1 role ++ [0, 0, 0] ++ key) 0 ∧ (s.roleOn e.path < role.val ∨ role.val = 4) ∧ 1 ≤ role.val ∧ role.val ≤ 4 ∧ key.length = 32) ∧
    (∃ (s : State) (e : Envelope) (key : List Byte), s.wmpReady e ∧ e.session = 0 ∧ e.path.val < 2 ∧ s.lifeCycle = 0 ∧ s.sec.blankUsed = false ∧ key.length = 32 ∧ s.sec.roleKeys.length = 4) ∧
    (∃ (s : State) (e : Envelope) (role : Fin 256) (key : List Byte), s.wmpReady e ∧ e.session = 0 ∧ 1 ≤ role.val ∧ role.val ≤ 4 ∧ key.length = 32 ∧ (role.val ≠ 2 ∨ s.lifeCycle ≠ 0 ∨ 2 ≤ e.path.val ∨ s.sec.blankUsed = true)) ∧
    (∃ (s : State) (e : Envelope) (role : Fin 256) (key : List Byte), s.wmpReady e ∧ e.session = 0 ∧ (role.val = 0 ∨ 4 < role.val ∨ key.length ≠ 32)) ∧
    (∃ (s : State) (e : Envelope), s.wmpInSession e 1 5 (beBytes 1 1 ++ [0, 0, 0]) 1 ∧ s.lifeCycle = 0 ∧ 2 ≤ s.roleOn e.path ∧ (nth s.sec.roleKeys 0 none).isSome = true ∧ (nth s.sec.roleKeys 1 none).isSome = true) ∧
    (∃ (s : State) (e : Envelope), s.wmpInSession e 1 5 (beBytes 1 2 ++ [0, 0, 0]) 1 ∧ s.lifeCycle = 1 ∧ 2 ≤ s.roleOn e.path) ∧
    (∃ (s : State) (e : Envelope) (target : Fin 256) (role : Nat), s.wmpInSession e 1 5 (beBytes 1 target ++ [0, 0, 0]) 1 ∧ (s.lifeCycle, target.val, role) ∈ [(0, 1, 2), (1, 2, 2), (2, 3, 3), (3, 2, 3), (1, 4, 4), (2, 4, 4), (3, 4, 4)] ∧ s.roleOn e.path < role) ∧
    (∃ (s : State) (e : Envelope) (target : Fin 256), s.wmpInSession e 1 5 (beBytes 1 target ++ [0, 0, 0]) 1 ∧ s.lifeCycle ≤ 4 ∧ (s.lifeCycle, target.val) ∉ [(0, 1), (1, 2), (2, 3), (3, 2), (1, 4), (2, 4), (3, 4)]) ∧
    (∃ (s : State) (e : Envelope), s.wmpInSession e 1 5 (beBytes 1 2 ++ [0, 0, 0]) 1 ∧ s.lifeCycle = 3 ∧ s.sec.lcOtp = 2 ∧ 3 ≤ s.roleOn e.path) ∧
    (∃ (s : State) (e : Envelope), s.wmpInSession e 1 5 (beBytes 1 4 ++ [0, 0, 0]) 1 ∧ 1 ≤ s.lifeCycle ∧ s.lifeCycle ≤ 3 ∧ 4 ≤ s.roleOn e.path) ∧
    (∃ (s : State) (e : Envelope), s.wmpInSession e 1 5 (beBytes 1 3 ++ [0, 0, 0]) 1 ∧ s.lifeCycle = 2 ∧ s.sec.lcOtp = 2 ∧ 3 ≤ s.roleOn e.path) :=
  ⟨⟨State.reset.set (F.SEC_SESSION.OPEN 1) 1, (⟨1, 0x20, 5, 0, 0, []⟩ : Envelope), 4, by decide +kernel⟩,
    ⟨State.reset.set (F.SEC_SESSION.OPEN 1) 1, (⟨1, 0x20, 5, 0, 0, []⟩ : Envelope), 5, by decide +kernel⟩,
    ⟨State.reset.set (F.SEC_LOCKOUT.LEFT 3) 60, (⟨1, 0x20, 5, 0, 0, []⟩ : Envelope), 4, by decide +kernel⟩,
    ⟨State.reset, (⟨1, 0x20, 5, 0, 0, []⟩ : Envelope), by decide +kernel⟩,
    ⟨((State.reset.set (F.SEC_SESSION.OPEN 1) 1).onSession 1 fun x => { x with challenge := some (9, 2, []) }), (⟨1, 0x20, 5, 0, 0, []⟩ : Envelope), 9, 9, 2, [], true, by decide +kernel⟩,
    ⟨(((State.reset.set (F.SEC_SESSION.OPEN 1) 1).onSession 1 fun x => { x with challenge := some (9, 2, []) }) |>.set (F.SEC_LOCKOUT.FAILURES 1) 4), (⟨1, 0x20, 5, 0, 0, []⟩ : Envelope), 9, 2, [], by decide +kernel⟩,
    ⟨(((State.reset.set (F.SEC_SESSION.OPEN 1) 1).onSession 1 fun x => { x with challenge := some (9, 2, []) }) |>.set (F.SEC_LOCKOUT.LEFT 1) 4), (⟨1, 0x20, 5, 0, 0, []⟩ : Envelope), 9, 2, [], by decide +kernel⟩,
    ⟨(((State.reset.set (F.SEC_SESSION.OPEN 1) 1).set (F.SEC_SESSION.ROLE 1) 2).onSession 1 (fun x => { x with sid := 9 })), ⟨1, 0x20, 5, 9, 1, []⟩, by decide +kernel⟩,
    ⟨State.reset, ⟨1, 0x20, 5, 9, 1, []⟩, by decide +kernel⟩,
    ⟨(((State.reset.set (F.SEC_SESSION.OPEN 1) 1).set (F.SEC_SESSION.ROLE 1) 2).onSession 1 (fun x => { x with sid := 9 })), Envelope.sealed ⟨1, 0x20, 5, 9, 0xFFFFFFFF, []⟩ 5 3 [], by (repeat' apply And.intro) <;> first | decide +kernel | rfl⟩,
    ⟨State.reset, (⟨1, 0x20, 5, 0, 0, []⟩ : Envelope), by decide +kernel⟩,
    ⟨State.reset.set (F.SEC_SESSION.OPEN 3) 1, 3, by decide +kernel⟩,
    ⟨State.reset.set (F.SEC_SESSION.OPEN 1) 1, by decide +kernel⟩,
    ⟨(((State.reset.set (F.SEC_SESSION.OPEN 1) 1).set (F.SEC_SESSION.ROLE 1) 2).onSession 1 (fun x => { x with sid := 9 })), Envelope.sealed ⟨1, 0x20, 5, 9, 1, []⟩ 1 4 (beBytes 1 2 ++ [0, 0, 0] ++ (List.replicate 32 1)), 2, (List.replicate 32 1), by (repeat' apply And.intro) <;> first | decide +kernel | rfl⟩,
    ⟨(((State.reset.set (F.SEC_SESSION.OPEN 1) 1).set (F.SEC_SESSION.ROLE 1) 2).onSession 1 (fun x => { x with sid := 9 })), Envelope.sealed ⟨1, 0x20, 5, 9, 1, []⟩ 1 4 (beBytes 1 3 ++ [0, 0, 0] ++ (List.replicate 32 1)), 3, (List.replicate 32 1), by (repeat' apply And.intro) <;> first | decide +kernel | rfl⟩,
    ⟨State.reset, (⟨1, 0x20, 5, 0, 0, []⟩ : Envelope), (List.replicate 32 1), by decide +kernel⟩,
    ⟨State.reset, (⟨2, 0x20, 5, 0, 0, []⟩ : Envelope), 2, (List.replicate 32 1), by decide +kernel⟩,
    ⟨State.reset, (⟨1, 0x20, 5, 0, 0, []⟩ : Envelope), 2, [7], by decide +kernel⟩,
    ⟨(((State.reset.set (F.SEC_SESSION.OPEN 1) 1).set (F.SEC_SESSION.ROLE 1) 2).onSession 1 (fun x => { x with sid := 9 })) |>.onSec fun x => { x with roleKeys := [some [], some [], none, none] }, Envelope.sealed ⟨1, 0x20, 5, 9, 1, []⟩ 1 5 (beBytes 1 1 ++ [0, 0, 0]), by (repeat' apply And.intro) <;> first | decide +kernel | rfl⟩,
    ⟨(((State.reset.set (F.SEC_SESSION.OPEN 1) 1).set (F.SEC_SESSION.ROLE 1) 2).onSession 1 (fun x => { x with sid := 9 })) |>.set F.SEC_LC.STATE 1, Envelope.sealed ⟨1, 0x20, 5, 9, 1, []⟩ 1 5 (beBytes 1 2 ++ [0, 0, 0]), by (repeat' apply And.intro) <;> first | decide +kernel | rfl⟩,
    ⟨(((State.reset.set (F.SEC_SESSION.OPEN 1) 1).set (F.SEC_SESSION.ROLE 1) 2).onSession 1 (fun x => { x with sid := 9 })) |>.set F.SEC_LC.STATE 3, Envelope.sealed ⟨1, 0x20, 5, 9, 1, []⟩ 1 5 (beBytes 1 4 ++ [0, 0, 0]), 4, 4, by (repeat' apply And.intro) <;> first | decide +kernel | rfl⟩,
    ⟨(((State.reset.set (F.SEC_SESSION.OPEN 1) 1).set (F.SEC_SESSION.ROLE 1) 2).onSession 1 (fun x => { x with sid := 9 })), Envelope.sealed ⟨1, 0x20, 5, 9, 1, []⟩ 1 5 (beBytes 1 2 ++ [0, 0, 0]), 2, by (repeat' apply And.intro) <;> first | decide +kernel | rfl⟩,
    ⟨(((State.reset.set (F.SEC_SESSION.OPEN 1) 1).set (F.SEC_SESSION.ROLE 1) 3).onSession 1 (fun x => { x with sid := 9 })) |>.set F.SEC_LC.STATE 3 |>.onSec fun x => { x with lcOtp := 2, service := true, jtag := true }, Envelope.sealed ⟨1, 0x20, 5, 9, 1, []⟩ 1 5 (beBytes 1 2 ++ [0, 0, 0]), by (repeat' apply And.intro) <;> first | decide +kernel | rfl⟩,
    ⟨(((State.reset.set (F.SEC_SESSION.OPEN 1) 1).set (F.SEC_SESSION.ROLE 1) 4).onSession 1 (fun x => { x with sid := 9 })) |>.set F.SEC_LC.STATE 2 |>.onSec fun x => { x with lcOtp := 2 }, Envelope.sealed ⟨1, 0x20, 5, 9, 1, []⟩ 1 5 (beBytes 1 4 ++ [0, 0, 0]), by (repeat' apply And.intro) <;> first | decide +kernel | rfl⟩,
    ⟨(((State.reset.set (F.SEC_SESSION.OPEN 1) 1).set (F.SEC_SESSION.ROLE 1) 3).onSession 1 (fun x => { x with sid := 9 })) |>.set F.SEC_LC.STATE 2 |>.onSec fun x => { x with lcOtp := 2 }, Envelope.sealed ⟨1, 0x20, 5, 9, 1, []⟩ 1 5 (beBytes 1 3 ++ [0, 0, 0]), by (repeat' apply And.intro) <;> first | decide +kernel | rfl⟩⟩

/-- Hypotheses of O50 are met. -/
theorem witness_FirmwareKeysAndTasksFollowR280ToR285 :
    (∃ (s : State) (e : Envelope) (data : List Byte), s.wmpInSession e 5 1 (beBytes 1 2 ++ beBytes 4 0 ++ data) 1 ∧ s.mayStage = true ∧ 1 ≤ data.length ∧ data.length ≤ 0x20) ∧
    (∃ (s : State) (e : Envelope) (offset : Nat) (data : List Byte), s.wmpInSession e 5 1 (beBytes 1 2 ++ beBytes 4 offset ++ data) 1 ∧ s.fwState ≠ 1 ∧ offset ≠ 0 ∧ 1 ≤ data.length ∧ data.length ≤ 1024) ∧
    (∃ (s : State) (e : Envelope) (data : List Byte), s.wmpInSession e 5 1 (beBytes 1 2 ++ beBytes 4 0 ++ data) 1 ∧ s.mayStage = true ∧ 0x24 ≤ data.length ∧ data.length ≤ 1024 ∧ fwTotal data ≤ data.length) ∧
    (∃ (s : State) (e : Envelope) (offset : Nat) (data : List Byte), s.wmpInSession e 5 1 (beBytes 1 2 ++ beBytes 4 offset ++ data) 1 ∧ s.fwState = 1 ∧ s.get F.SEC_FW_STATUS.TYPE = 2 ∧ s.sec.expected = none ∧ 1 ≤ data.length ∧ data.length ≤ 1024 ∧ offset + data.length ≤ 64 + 3 * 1024 * 1024 + 532) ∧
    (∃ (s : State) (e : Envelope) (offset : Nat) (data : List Byte), s.wmpInSession e 5 1 (beBytes 1 2 ++ beBytes 4 offset ++ data) 1 ∧ (data = [] ∨ 1024 < data.length)) ∧
    (∃ (s : State) (e : Envelope) (offset : Nat) (length : Nat), s.wmpInSession e 5 2 (beBytes 1 2 ++ beBytes 4 offset ++ beBytes 4 length) 1 ∧ s.mayStage = false) ∧
    (∃ (s : State) (e : Envelope) (offset : Nat) (length : Nat), s.wmpInSession e 5 2 (beBytes 1 2 ++ beBytes 4 offset ++ beBytes 4 length) 1 ∧ s.mayStage = true ∧ s.windowGranted = true ∧ s.inWindow (offset * 4096) length = false) ∧
    (∃ (s : State) (e : Envelope) (offset : Nat) (length : Nat), s.wmpInSession e 5 2 (beBytes 1 2 ++ beBytes 4 offset ++ beBytes 4 length) 1 ∧ s.mayStage = true ∧ s.windowGranted = false) ∧
    (∃ (s : State) (e : Envelope) (offset : Nat) (length : Nat), s.wmpInSession e 5 2 (beBytes 1 2 ++ beBytes 4 offset ++ beBytes 4 length) 1 ∧ s.mayStage = true ∧ s.windowGranted = true ∧ s.inWindow (offset * 4096) length = true) ∧
    (∃ (s : State) (n : Nat), s.fwState = 1 ∧ s.sec.expected = some n ∧ s.windowGranted = true) ∧
    (∃ (s : State) (n : Nat), s.fwState = 1 ∧ s.sec.expected = some n ∧ s.windowGranted = false) ∧
    (∃ (s : State) (e : Envelope), s.wmpInSession e 5 3 [] 1 ∧ s.fwState = 2) ∧
    (∃ (s : State) (e : Envelope), s.wmpInSession e 5 3 [] 1 ∧ s.fwState = 3) ∧
    (∃ (s : State) (e : Envelope), s.wmpInSession e 5 3 [] 1 ∧ s.fwState ≠ 2 ∧ s.fwState ≠ 3) ∧
    (∃ (s : State), s.fwState = 3 ∧ s.sec.verdict = 0) ∧
    (∃ (s : State), s.fwState = 3 ∧ s.sec.verdict ≠ 0 ∧ s.sec.verdict < 256) ∧
    (∃ (s : State) (e : Envelope), s.wmpInSession e 5 4 [] 1 ∧ s.bufState ≠ 6 ∧ s.fwState = 4 ∧ fwType s.sec.staged = some .hedge ∧ s.sec.active.length = 2 ∧ s.sec.trial.length = 2 ∧ nth s.sec.active 0 0 ≤ 1 ∧ s.sec.images.length = 4) ∧
    (∃ (s : State) (e : Envelope), s.wmpInSession e 5 4 [] 1 ∧ s.bufState ≠ 6 ∧ s.fwState = 4 ∧ fwType s.sec.staged = some .plough ∧ s.sec.active.length = 2 ∧ s.sec.trial.length = 2 ∧ nth s.sec.active 1 0 ≤ 1) ∧
    (∃ (s : State) (e : Envelope), s.wmpInSession e 5 4 [] 1 ∧ s.bufState ≠ 6 ∧ s.fwState = 4 ∧ fwType s.sec.staged = some .keyUpdate) ∧
    (∃ (s : State), s.fwState = 6 ∧ s.sec.activating = some .plough ∧ s.cpu = 3 ∧ s.slotGood 1 (nth s.sec.active 1 0) = false ∧ s.get F.SEC_FW_STATUS.TYPE = 2 ∧ s.sec.active.length = 2 ∧ s.sec.trial.length = 2 ∧ nth s.sec.active 1 0 ≤ 1) ∧
    (∃ (s : State) (e : Envelope), s.wmpInSession e 5 4 [] 1 ∧ s.bufState = 6) ∧
    (∃ (s : State) (e : Envelope), s.wmpInSession e 5 4 [] 1 ∧ s.bufState ≠ 6 ∧ s.fwState ≠ 4) ∧
    (∃ (s : State) (e : Envelope) (k : Nat), s.wmpInSession e 5 5 [] 1 ∧ s.fwState = 7 ∧ s.get F.SEC_FW_STATUS.TYPE = k + 1 ∧ k < 2 ∧ s.sec.trial.length = 2 ∧ s.sec.fuses.length = 3) ∧
    (∃ (s : State), s.fwState = 7 ∧ s.get F.SEC_FW_STATUS.TYPE = 1 ∧ s.sec.active.length = 2 ∧ s.sec.trial.length = 2 ∧ nth s.sec.active 0 0 ≤ 1) ∧
    (∃ (s : State), s.fwState = 7 ∧ s.get F.SEC_FW_STATUS.TYPE = 2 ∧ s.cpu = 1 ∧ s.sec.active.length = 2 ∧ s.sec.trial.length = 2 ∧ nth s.sec.active 1 0 ≤ 1) ∧
    (∃ (s : State), s.fwState = 7 ∧ s.get F.SEC_FW_STATUS.TYPE = 3) ∧
    (∃ (s : State), s.fwState ≠ 6 ∧ s.fwState ≠ 7) ∧
    (∃ (s : State) (e : Envelope) (slot : Fin 256) (key : List Byte), s.wmpInSession e 5 6 (Config.keyInstallBody slot key) 2 ∧ 6 ≤ slot.val ∧ slot.val ≤ 11 ∧ s.sec.keys.length = 12 ∧ key ≠ []) ∧
    (∃ (s : State) (e : Envelope) (slot : Fin 256) (key : List Byte), s.wmpInSession e 5 6 (Config.keyInstallBody slot key) 2 ∧ (slot.val < 6 ∨ 11 < slot.val)) ∧
    (∃ (s : State) (e : Envelope) (slot : Fin 256), s.wmpInSession e 5 7 (Config.keyRevokeBody slot) 2 ∧ 6 ≤ slot.val ∧ slot.val ≤ 11 ∧ s.lastKey slot = false) ∧
    (∃ (s : State) (e : Envelope) (slot : Fin 256), s.wmpInSession e 5 7 (Config.keyRevokeBody slot) 2 ∧ 6 ≤ slot.val ∧ slot.val ≤ 11 ∧ s.lastKey slot = true) ∧
    (∃ (s : State) (e : Envelope) (index : Fin 256), s.wmpInSession e 5 8 (beBytes 1 index) 2 ∧ s.fwState = 4 ∧ fwType s.sec.staged = some .task ∧ taskId s.sec.staged = min 7 index.val ∧ s.sec.tasks.length = 8) ∧
    (∃ (s : State) (e : Envelope) (index : Fin 256), s.wmpInSession e 5 8 (beBytes 1 index) 2 ∧ (s.fwState ≠ 4 ∨ fwType s.sec.staged ≠ some .task ∨ taskId s.sec.staged ≠ min 7 index.val)) ∧
    (∃ (s : State) (e : Envelope) (index : Fin 256), s.wmpInSession e 5 9 (beBytes 1 index) 2 ∧ s.sec.tasks.length = 8) :=
  ⟨⟨(((State.reset.set (F.SEC_SESSION.OPEN 1) 1).set (F.SEC_SESSION.ROLE 1) 1).onSession 1 (fun x => { x with sid := 9 })), Envelope.sealed ⟨1, 0x20, 5, 9, 1, []⟩ 5 1 (beBytes 1 2 ++ beBytes 4 0 ++ [1, 2]), [1, 2], by (repeat' apply And.intro) <;> first | decide +kernel | rfl⟩,
    ⟨(((State.reset.set (F.SEC_SESSION.OPEN 1) 1).set (F.SEC_SESSION.ROLE 1) 1).onSession 1 (fun x => { x with sid := 9 })), Envelope.sealed ⟨1, 0x20, 5, 9, 1, []⟩ 5 1 (beBytes 1 2 ++ beBytes 4 7 ++ [1, 2]), 7, [1, 2], by (repeat' apply And.intro) <;> first | decide +kernel | rfl⟩,
    ⟨(((State.reset.set (F.SEC_SESSION.OPEN 1) 1).set (F.SEC_SESSION.ROLE 1) 1).onSession 1 (fun x => { x with sid := 9 })), Envelope.sealed ⟨1, 0x20, 5, 9, 1, []⟩ 5 1 (beBytes 1 2 ++ beBytes 4 0 ++ List.replicate 64 0), List.replicate 64 0, by (repeat' apply And.intro) <;> first | decide +kernel | rfl⟩,
    ⟨(((State.reset.set (F.SEC_SESSION.OPEN 1) 1).set (F.SEC_SESSION.ROLE 1) 1).onSession 1 (fun x => { x with sid := 9 })) |>.set F.SEC_FW_STATUS.STATE 1 |>.set F.SEC_FW_STATUS.TYPE 2, Envelope.sealed ⟨1, 0x20, 5, 9, 1, []⟩ 5 1 (beBytes 1 2 ++ beBytes 4 7 ++ [1, 2]), 7, [1, 2], by (repeat' apply And.intro) <;> first | decide +kernel | rfl⟩,
    ⟨(((State.reset.set (F.SEC_SESSION.OPEN 1) 1).set (F.SEC_SESSION.ROLE 1) 1).onSession 1 (fun x => { x with sid := 9 })), Envelope.sealed ⟨1, 0x20, 5, 9, 1, []⟩ 5 1 (beBytes 1 2 ++ beBytes 4 7), 7, [], by (repeat' apply And.intro) <;> first | decide +kernel | rfl⟩,
    ⟨(((State.reset.set (F.SEC_SESSION.OPEN 1) 1).set (F.SEC_SESSION.ROLE 1) 1).onSession 1 (fun x => { x with sid := 9 })) |>.set F.SEC_FW_STATUS.STATE 3, Envelope.sealed ⟨1, 0x20, 5, 9, 1, []⟩ 5 2 (beBytes 1 2 ++ beBytes 4 0 ++ beBytes 4 7), 0, 7, by (repeat' apply And.intro) <;> first | decide +kernel | rfl⟩,
    ⟨(((State.reset.set (F.SEC_SESSION.OPEN 1) 1).set (F.SEC_SESSION.ROLE 1) 1).onSession 1 (fun x => { x with sid := 9 })) |>.set F.CXLCTL_WIN_CMD.WSTATE 1, Envelope.sealed ⟨1, 0x20, 5, 9, 1, []⟩ 5 2 (beBytes 1 2 ++ beBytes 4 0xFFFFF ++ beBytes 4 7), 0xFFFFF, 7, by (repeat' apply And.intro) <;> first | decide +kernel | rfl⟩,
    ⟨(((State.reset.set (F.SEC_SESSION.OPEN 1) 1).set (F.SEC_SESSION.ROLE 1) 1).onSession 1 (fun x => { x with sid := 9 })), Envelope.sealed ⟨1, 0x20, 5, 9, 1, []⟩ 5 2 (beBytes 1 2 ++ beBytes 4 0 ++ beBytes 4 7), 0, 7, by (repeat' apply And.intro) <;> first | decide +kernel | rfl⟩,
    ⟨(((State.reset.set (F.SEC_SESSION.OPEN 1) 1).set (F.SEC_SESSION.ROLE 1) 1).onSession 1 (fun x => { x with sid := 9 })) |>.set F.CXLCTL_WIN_CMD.WSTATE 1, Envelope.sealed ⟨1, 0x20, 5, 9, 1, []⟩ 5 2 (beBytes 1 2 ++ beBytes 4 0 ++ beBytes 4 7), 0, 7, by (repeat' apply And.intro) <;> first | decide +kernel | rfl⟩,
    ⟨State.reset.set F.SEC_FW_STATUS.STATE 1 |>.set F.CXLCTL_WIN_CMD.WSTATE 1 |>.onSec fun x => { x with expected := some 2 }, 2, by decide +kernel⟩,
    ⟨State.reset.set F.SEC_FW_STATUS.STATE 1 |>.onSec fun x => { x with expected := some 2 }, 2, by decide +kernel⟩,
    ⟨(((State.reset.set (F.SEC_SESSION.OPEN 1) 1).set (F.SEC_SESSION.ROLE 1) 1).onSession 1 (fun x => { x with sid := 9 })) |>.set F.SEC_FW_STATUS.STATE 2, Envelope.sealed ⟨1, 0x20, 5, 9, 1, []⟩ 5 3 [], by (repeat' apply And.intro) <;> first | decide +kernel | rfl⟩,
    ⟨(((State.reset.set (F.SEC_SESSION.OPEN 1) 1).set (F.SEC_SESSION.ROLE 1) 1).onSession 1 (fun x => { x with sid := 9 })) |>.set F.SEC_FW_STATUS.STATE 3, Envelope.sealed ⟨1, 0x20, 5, 9, 1, []⟩ 5 3 [], by (repeat' apply And.intro) <;> first | decide +kernel | rfl⟩,
    ⟨(((State.reset.set (F.SEC_SESSION.OPEN 1) 1).set (F.SEC_SESSION.ROLE 1) 1).onSession 1 (fun x => { x with sid := 9 })) |>.set F.SEC_FW_STATUS.STATE 4, Envelope.sealed ⟨1, 0x20, 5, 9, 1, []⟩ 5 3 [], by (repeat' apply And.intro) <;> first | decide +kernel | rfl⟩,
    ⟨State.reset.set F.SEC_FW_STATUS.STATE 3, by decide +kernel⟩,
    ⟨State.reset.set F.SEC_FW_STATUS.STATE 3 |>.onSec fun x => { x with verdict := 7 }, by decide +kernel⟩,
    ⟨(((State.reset.set (F.SEC_SESSION.OPEN 1) 1).set (F.SEC_SESSION.ROLE 1) 1).onSession 1 (fun x => { x with sid := 9 })) |>.set F.SEC_FW_STATUS.STATE 4 |>.onSec fun x => { x with staged := List.replicate 12 0 ++ [1] }, Envelope.sealed ⟨1, 0x20, 5, 9, 1, []⟩ 5 4 [], by (repeat' apply And.intro) <;> first | decide +kernel | rfl⟩,
    ⟨(((State.reset.set (F.SEC_SESSION.OPEN 1) 1).set (F.SEC_SESSION.ROLE 1) 1).onSession 1 (fun x => { x with sid := 9 })) |>.set F.SEC_FW_STATUS.STATE 4 |>.onSec fun x => { x with staged := List.replicate 12 0 ++ [2] }, Envelope.sealed ⟨1, 0x20, 5, 9, 1, []⟩ 5 4 [], by (repeat' apply And.intro) <;> first | decide +kernel | rfl⟩,
    ⟨(((State.reset.set (F.SEC_SESSION.OPEN 1) 1).set (F.SEC_SESSION.ROLE 1) 1).onSession 1 (fun x => { x with sid := 9 })) |>.set F.SEC_FW_STATUS.STATE 4 |>.onSec fun x => { x with staged := List.replicate 12 0 ++ [3] }, Envelope.sealed ⟨1, 0x20, 5, 9, 1, []⟩ 5 4 [], by (repeat' apply And.intro) <;> first | decide +kernel | rfl⟩,
    ⟨State.reset.set F.SEC_FW_STATUS.STATE 6 |>.set F.SEC_FW_STATUS.TYPE 2 |>.set F.CPU_STATUS.STATE 3 |>.onSec fun x => { x with activating := some .plough }, by decide +kernel⟩,
    ⟨(((State.reset.set (F.SEC_SESSION.OPEN 1) 1).set (F.SEC_SESSION.ROLE 1) 1).onSession 1 (fun x => { x with sid := 9 })) |>.set F.PLAN_STATUS.STATE 6, Envelope.sealed ⟨1, 0x20, 5, 9, 1, []⟩ 5 4 [], by (repeat' apply And.intro) <;> first | decide +kernel | rfl⟩,
    ⟨(((State.reset.set (F.SEC_SESSION.OPEN 1) 1).set (F.SEC_SESSION.ROLE 1) 1).onSession 1 (fun x => { x with sid := 9 })) |>.set F.SEC_FW_STATUS.STATE 2, Envelope.sealed ⟨1, 0x20, 5, 9, 1, []⟩ 5 4 [], by (repeat' apply And.intro) <;> first | decide +kernel | rfl⟩,
    ⟨(((State.reset.set (F.SEC_SESSION.OPEN 1) 1).set (F.SEC_SESSION.ROLE 1) 1).onSession 1 (fun x => { x with sid := 9 })) |>.set F.SEC_FW_STATUS.STATE 7 |>.set F.SEC_FW_STATUS.TYPE 2, Envelope.sealed ⟨1, 0x20, 5, 9, 1, []⟩ 5 5 [], 1, by (repeat' apply And.intro) <;> first | decide +kernel | rfl⟩,
    ⟨State.reset.set F.SEC_FW_STATUS.STATE 7 |>.set F.SEC_FW_STATUS.TYPE 1, by decide +kernel⟩,
    ⟨State.reset.set F.SEC_FW_STATUS.STATE 7 |>.set F.SEC_FW_STATUS.TYPE 2 |>.set F.CPU_STATUS.STATE 1, by decide +kernel⟩,
    ⟨State.reset.set F.SEC_FW_STATUS.STATE 7 |>.set F.SEC_FW_STATUS.TYPE 3, by decide +kernel⟩,
    ⟨State.reset, by decide +kernel⟩,
    ⟨(((State.reset.set (F.SEC_SESSION.OPEN 1) 1).set (F.SEC_SESSION.ROLE 1) 2).onSession 1 (fun x => { x with sid := 9 })), Envelope.sealed ⟨1, 0x20, 5, 9, 1, []⟩ 5 6 (Config.keyInstallBody 11 [1]), 11, [1], by (repeat' apply And.intro) <;> first | decide +kernel | rfl⟩,
    ⟨(((State.reset.set (F.SEC_SESSION.OPEN 1) 1).set (F.SEC_SESSION.ROLE 1) 2).onSession 1 (fun x => { x with sid := 9 })), Envelope.sealed ⟨1, 0x20, 5, 9, 1, []⟩ 5 6 (Config.keyInstallBody 5 [1]), 5, [1], by (repeat' apply And.intro) <;> first | decide +kernel | rfl⟩,
    ⟨(((State.reset.set (F.SEC_SESSION.OPEN 1) 1).set (F.SEC_SESSION.ROLE 1) 2).onSession 1 (fun x => { x with sid := 9 })) |>.onSec fun x => { x with keys := List.replicate 12 [1] }, Envelope.sealed ⟨1, 0x20, 5, 9, 1, []⟩ 5 7 (Config.keyRevokeBody 10), 10, by (repeat' apply And.intro) <;> first | decide +kernel | rfl⟩,
    ⟨(((State.reset.set (F.SEC_SESSION.OPEN 1) 1).set (F.SEC_SESSION.ROLE 1) 2).onSession 1 (fun x => { x with sid := 9 })), Envelope.sealed ⟨1, 0x20, 5, 9, 1, []⟩ 5 7 (Config.keyRevokeBody 10), 10, by (repeat' apply And.intro) <;> first | decide +kernel | rfl⟩,
    ⟨(((State.reset.set (F.SEC_SESSION.OPEN 1) 1).set (F.SEC_SESSION.ROLE 1) 2).onSession 1 (fun x => { x with sid := 9 })) |>.set F.SEC_FW_STATUS.STATE 4 |>.onSec fun x => { x with staged := List.replicate 12 0 ++ [4] ++ List.replicate 51 0 ++ [7] }, Envelope.sealed ⟨1, 0x20, 5, 9, 1, []⟩ 5 8 (beBytes 1 7), 7, by (repeat' apply And.intro) <;> first | decide +kernel | rfl⟩,
    ⟨(((State.reset.set (F.SEC_SESSION.OPEN 1) 1).set (F.SEC_SESSION.ROLE 1) 2).onSession 1 (fun x => { x with sid := 9 })) |>.set F.SEC_FW_STATUS.STATE 4 |>.onSec fun x => { x with staged := List.replicate 12 0 ++ [4] ++ List.replicate 51 0 ++ [6] }, Envelope.sealed ⟨1, 0x20, 5, 9, 1, []⟩ 5 8 (beBytes 1 200), 200, by (repeat' apply And.intro) <;> first | decide +kernel | rfl⟩,
    ⟨(((State.reset.set (F.SEC_SESSION.OPEN 1) 1).set (F.SEC_SESSION.ROLE 1) 2).onSession 1 (fun x => { x with sid := 9 })) |>.set (F.CPU_TASK.LOADED 7) 1, Envelope.sealed ⟨1, 0x20, 5, 9, 1, []⟩ 5 9 (beBytes 1 7), 7, by (repeat' apply And.intro) <;> first | decide +kernel | rfl⟩⟩

/-- Hypotheses of O51 are met. -/
theorem witness_PloughHedgeAndTheirTasksFollowR287ToR298 :
    (∃ (s : State) (core : Fin 4), s.cpu = 1 ∧ s.domOn 3 = true ∧ s.on ⟨R.CPU_STATUS, core, core⟩ = true ∧ s.get F.CPU_STATUS.READY + (if s.on ⟨R.CPU_STATUS, 4 + core.val, 4 + core.val⟩ then 0 else 2 ^ core.val) = s.get F.CPU_STATUS.CORES_UP ∧ s.sec.activating ≠ some .plough) ∧
    (∃ (s : State) (core : Fin 4), s.cpu = 1 ∧ s.domOn 3 = true ∧ s.on ⟨R.CPU_STATUS, core, core⟩ = true ∧ s.get F.CPU_STATUS.READY + (if s.on ⟨R.CPU_STATUS, 4 + core.val, 4 + core.val⟩ then 0 else 2 ^ core.val) = s.get F.CPU_STATUS.CORES_UP ∧ s.sec.activating = some .plough) ∧
    (∃ (s : State) (core : Fin 4), s.cpu = 1 ∧ s.domOn 3 = true ∧ s.on ⟨R.CPU_STATUS, core, core⟩ = true ∧ s.get F.CPU_STATUS.READY + (if s.on ⟨R.CPU_STATUS, 4 + core.val, 4 + core.val⟩ then 0 else 2 ^ core.val) ≠ s.get F.CPU_STATUS.CORES_UP) ∧
    (∃ (s : State) (core : Fin 4), (s.cpu ≠ 1 ∨ s.domOn 3 = false ∨ s.on ⟨R.CPU_STATUS, core, core⟩ = false)) ∧
    (∃ (s : State), s.cpu = 2 ∧ s.fwState ≠ 6 ∧ s.fwState ≠ 7 ∧ s.sec.restartAges.length < 2) ∧
    (∃ (s : State), s.cpu = 2 ∧ s.fwState ≠ 6 ∧ s.fwState ≠ 7 ∧ 2 ≤ s.sec.restartAges.length) ∧
    (∃ (s : State) (path : Path), s.mayWriteRws path R.CPU_CTRL 1 ∧ s.cpu = 4) ∧
    (∃ (s : State), s.cpu ≠ 1 ∧ s.cpu ≠ 2) ∧
    (∃ (s : State) (path : Path), s.mayWriteRws path R.CPU_CTRL 1 ∧ (s.cpu = 0 ∨ s.cpu = 3)) ∧
    (∃ (s : State), s.fwState ≠ 6 ∧ s.fwState ≠ 7) ∧
    (∃ (s : State), s.sec.hedge = .restarting ∧ s.slotPick 0 = none ∧ s.sec.activating = none) ∧
    (∃ (s : State), s.sec.hedge = .restarting ∧ s.sec.activating = some .hedge) ∧
    (∃ (s : State), s.sec.hedge ≠ .restarting) ∧
    (∃ (s : State) (k : Fin 8), s.on (F.CPU_TASK.RUNNING k) = true) ∧
    (∃ (s : State) (k : Fin 8), s.on (F.CPU_TASK.RUNNING k) = false) ∧
    (∃ (s : State) (k : Fin 8) (cause : TaskCause), (s.on (F.CPU_TASK.RUNNING k) = false ∨ (taskDesc (nth s.sec.tasks k [])).forbids cause = false)) ∧
    (∃ (s : State) (k : Fin 8) (cause : TaskCause), s.on (F.CPU_TASK.RUNNING k) = true ∧ (cause = .read 0x1E ∨ cause = .read 0x1F ∨ cause = .store ∨ cause = .other ∨ (taskDesc (nth s.sec.tasks k [])).forbids cause = true)) ∧
    (∃ (s : State), s.isDown R.CPU_SWINT_SET = false) ∧
    (∃ (s : State), s.isDown R.CPU_SWINT_SET = false) ∧
    (∃ (s : State) (e : Envelope) (carrier : Fin 256), s.wmpInSession e 7 2 (beBytes 1 carrier) 1 ∧ s.cpu ≠ 0 ∧ s.cpu ≠ 4 ∧ s.domOn 3 = false) ∧
    (∃ (s : State) (e : Envelope) (carrier : Fin 256), s.wmpInSession e 7 2 (beBytes 1 carrier) 1 ∧ s.cpu = 2 ∧ s.domOn 3 = true ∧ s.mgrInbox = [] ∧ (s.on (F.PWR_WAKE_MAP.EN 2) = false ∨ s.domOn (s.get (F.PWR_WAKE_MAP.DOMAIN 2)) = true) ∧ s.linkState (carrierOf carrier) = 4 ∧ s.locked (carrierOf carrier) = true) ∧
    (∃ (s : State) (e : Envelope) (carrier : Fin 256) (sub : Fin 256) (data : List Byte), s.wmpInSession e 7 3 (beBytes 1 carrier ++ beBytes 1 sub ++ beBytes 1 data.length ++ data) 1 ∧ s.cpu = 2 ∧ s.domOn 3 = true ∧ s.mgrInbox = [] ∧ (s.on (F.PWR_WAKE_MAP.EN 2) = false ∨ s.domOn (s.get (F.PWR_WAKE_MAP.DOMAIN 2)) = true) ∧ s.on F.HEADLAND_TX_CTRL.BUSY = true) ∧
    (∃ (s : State) (e : Envelope) (carrier : Fin 256) (targets : List Byte) (n : Nat), s.wmpInSession e 7 1 (beBytes 1 carrier ++ [0] ++ targets) 1 ∧ s.cpu = 2 ∧ s.domOn 3 = true ∧ s.mgrInbox = [] ∧ (s.on (F.PWR_WAKE_MAP.EN 2) = false ∨ s.domOn (s.get (F.PWR_WAKE_MAP.DOMAIN 2)) = true) ∧ s.changeNak (carrierOf carrier) 2 = some n) ∧
    (∃ (s : State) (e : Envelope) (carrier : Fin 256) (targets : List Byte), s.wmpInSession e 7 1 (beBytes 1 carrier ++ [0] ++ targets) 1 ∧ s.cpu = 2 ∧ s.domOn 3 = true ∧ s.mgrInbox = [] ∧ (s.on (F.PWR_WAKE_MAP.EN 2) = false ∨ s.domOn (s.get (F.PWR_WAKE_MAP.DOMAIN 2)) = true) ∧ s.changeNak (carrierOf carrier) 2 = none ∧ kindOf (s.link.at (carrierOf carrier)).own 2 = none ∧ s.stepArmed (carrierOf carrier) = false ∧ s.heldMfs (carrierOf carrier) = [] ∧ s.leastLead (carrierOf carrier) < 2 ^ 22) ∧
    (∃ (s : State) (e : Envelope) (carrier : Fin 256), s.wmpInSession e 7 4 (beBytes 1 carrier) 1 ∧ s.cpu = 2 ∧ s.domOn 3 = true ∧ s.mgrInbox = [] ∧ (s.on (F.PWR_WAKE_MAP.EN 2) = false ∨ s.domOn (s.get (F.PWR_WAKE_MAP.DOMAIN 2)) = true) ∧ s.changeNak (carrierOf carrier) 1 = none ∧ kindOf (s.link.at (carrierOf carrier)).own 1 = none ∧ s.hState = 2 ∧ s.heldMfs (carrierOf carrier) = [] ∧ s.leastLead (carrierOf carrier) < 2 ^ 22) ∧
    (∃ (s : State) (e : Envelope) (carrier : Fin 256), s.wmpInSession e 7 2 (beBytes 1 carrier) 1 ∧ (s.cpu = 0 ∨ s.cpu = 4)) ∧
    (∃ (s : State) (e : Envelope) (carrier : Fin 256), s.wmpInSession e 7 2 (beBytes 1 carrier) 1 ∧ (s.cpu = 1 ∨ s.cpu = 3) ∧ s.domOn 3 = true) ∧
    (∃ (s : State) (e : Envelope) (cls : Fin 256), s.wmpReady e ∧ classTaken e.path cls = false) ∧
    (∃ (s : State) (e : Envelope) (cls : Fin 256) (typ : Fin 256), s.wmpReady e ∧ classTaken e.path cls = true ∧ typeKnown cls typ = false) ∧
    (∃ (s : State) (addr : Fin 128) (bytes : List Byte), s.i3cAnswers addr = true ∧ s.sec.hedge ≠ .restarting ∧ s.sec.requests.length = 4 ∧ nth s.sec.requests 1 none = none ∧ bytes.length ≤ 4096 ∧ 8 ≤ bytes.length ∧ bytes.length = 8 + beNat (slice bytes 6 2) + (if beNat (slice bytes 1 1) = 4 then 0 else 40)) ∧
    (∃ (s : State) (addr : Fin 128) (bytes : List Byte), s.i3cAnswers addr = true ∧ s.sec.hedge ≠ .restarting ∧ nth s.sec.requests 1 none = none ∧ bytes.length ≤ 4096 ∧ (bytes.length < 8 ∨ bytes.length ≠ 8 + beNat (slice bytes 6 2) + (if beNat (slice bytes 1 1) = 4 then 0 else 40))) ∧
    (∃ (s : State) (addr : Fin 128), (s.i3cAnswers addr = false ∨ s.sec.hedge = .restarting)) ∧
    (∃ (x : I3cWrite), (x = .unsupported ∨ x = .hdr)) ∧
    (∃ (s : State) (addr : Fin 128), s.i3cAnswers addr = true ∧ s.sec.hedge ≠ .restarting ∧ (nth s.sec.requests 1 none).isSome = true) ∧
    (∃ (s : State) (addr : Fin 128) (bytes : List Byte) (whole : Bool), s.i3cAnswers addr = true ∧ s.sec.hedge ≠ .restarting ∧ nth s.sec.requests 1 none = none ∧ (whole = false ∨ 4096 < bytes.length)) ∧
    (∃ (s : State) (addr : Fin 128) (r : List Byte), s.i3cAnswers addr = true ∧ s.sec.hedge ≠ .restarting ∧ s.sec.i3cResp = some r) ∧
    (∃ (s : State) (addr : Fin 128) (n : List Byte) (rest : List (List Byte)), s.i3cAnswers addr = true ∧ s.sec.hedge ≠ .restarting ∧ s.sec.i3cResp = none ∧ s.i3cNotes = n :: rest) ∧
    (∃ (s : State) (addr : Fin 128), s.i3cAnswers addr = true ∧ (s.sec.hedge = .restarting ∨ (s.sec.i3cResp = none ∧ s.i3cNotes = []))) ∧
    (∃ (s : State) (addr : Fin 128), s.i3cAnswers addr = false) ∧
    (∃ (s : State), s.i3cAddress = none) ∧
    (∃ (s : State) (static : Fin 128), s.i3cAddress = none ∧ static.val = s.i3cStatic) ∧
    (∃ (s : State) (old : Fin 128), s.i3cAddress = some old.val) ∧
    (∃ (s : State) (how : I3cAssign), ((how = .entdaa ∧ s.i3cAddress ≠ none) ∨ (∃ x : Fin 128, how = .setdasa x ∧ (s.i3cAddress ≠ none ∨ x.val ≠ s.i3cStatic)) ∨ (∃ x : Fin 128, how = .setnewda x ∧ s.i3cAddress ≠ some x.val))) ∧
    (∃ (s : State), (s.i3cAddress ≠ none ∨ s.sec.hotJoin = false)) ∧
    (∃ (s : State), s.i3cAddress = none ∧ s.sec.hotJoin = true) :=
  ⟨⟨State.reset.set F.CPU_STATUS.STATE 1 |>.set (F.PWR_DOM_STATUS.STATE 3) 3 |>.set F.CPU_STATUS.CORES_UP 1, 0, by decide +kernel⟩,
    ⟨State.reset.set F.CPU_STATUS.STATE 1 |>.set (F.PWR_DOM_STATUS.STATE 3) 3 |>.set F.CPU_STATUS.CORES_UP 1 |>.onSec fun x => { x with activating := some .plough }, 0, by decide +kernel⟩,
    ⟨State.reset.set F.CPU_STATUS.STATE 1 |>.set (F.PWR_DOM_STATUS.STATE 3) 3 |>.set F.CPU_STATUS.CORES_UP 3, 0, by decide +kernel⟩,
    ⟨State.reset, 3, by decide +kernel⟩,
    ⟨((State.reset.set F.CPU_STATUS.STATE 2)), by decide +kernel⟩,
    ⟨((State.reset.set F.CPU_STATUS.STATE 2).onSec fun x => { x with restartAges := [3, 9] }), by decide +kernel⟩,
    ⟨((State.reset.set F.CPU_STATUS.STATE 4).set (F.PWR_DOM_STATUS.STATE 3) 3), .hedge, by decide +kernel⟩,
    ⟨State.reset, by decide +kernel⟩,
    ⟨((State.reset.set F.CPU_STATUS.STATE 3).set (F.PWR_DOM_STATUS.STATE 3) 3), .hedge, by decide +kernel⟩,
    ⟨State.reset.set (F.SEC_SESSION.OPEN 3) 1, by decide +kernel⟩,
    ⟨State.reset.onSec fun x => { x with hedge := .restarting }, by decide +kernel⟩,
    ⟨State.reset.onSec fun x => { x with hedge := .restarting, activating := some .hedge }, by decide +kernel⟩,
    ⟨State.reset, by decide +kernel⟩,
    ⟨State.reset.set (F.CPU_TASK.RUNNING 7) 1, 7, by decide +kernel⟩,
    ⟨State.reset, 7, by decide +kernel⟩,
    ⟨State.reset, 7, .store, by decide +kernel⟩,
    ⟨State.reset.set (F.CPU_TASK.RUNNING 7) 1 |>.set (F.CPU_TASK.FAULTS 7) 2, 7, .read 0x1E, by decide +kernel⟩,
    ⟨(State.reset.set (F.PWR_DOM_STATUS.STATE 3) 3).set F.CPU_SWINT.BITS 1, by decide +kernel⟩,
    ⟨(State.reset.set (F.PWR_DOM_STATUS.STATE 3) 3), by decide +kernel⟩,
    ⟨(((State.reset.set (F.SEC_SESSION.OPEN 1) 1).set (F.SEC_SESSION.ROLE 1) 1).onSession 1 (fun x => { x with sid := 9 })) |>.set F.CPU_STATUS.STATE 2 |>.set (F.PWR_WAKE_MAP.EN 2) 0, Envelope.sealed ⟨1, 0x20, 5, 9, 1, []⟩ 7 2 (beBytes 1 0), 0, by (repeat' apply And.intro) <;> first | decide +kernel | rfl⟩,
    ⟨(((State.reset.set (F.SEC_SESSION.OPEN 1) 1).set (F.SEC_SESSION.ROLE 1) 1).onSession 1 (fun x => { x with sid := 9 })) |>.set F.CPU_STATUS.STATE 2 |>.set (F.PWR_DOM_STATUS.STATE 3) 3 |>.set (F.LINK_STATE.STATE .A) 4 |>.set (F.LINK_ALIGN_STATUS.STATE .A) 2 |>.set (F.LINK_ALIGN_STATUS.MF_LOCK .A) 1, Envelope.sealed ⟨1, 0x20, 5, 9, 1, []⟩ 7 2 (beBytes 1 0), 0, by (repeat' apply And.intro) <;> first | decide +kernel | rfl⟩,
    ⟨(((State.reset.set (F.SEC_SESSION.OPEN 1) 1).set (F.SEC_SESSION.ROLE 1) 1).onSession 1 (fun x => { x with sid := 9 })) |>.set F.CPU_STATUS.STATE 2 |>.set (F.PWR_DOM_STATUS.STATE 3) 3 |>.set F.HEADLAND_TX_CTRL.BUSY 1, Envelope.sealed ⟨1, 0x20, 5, 9, 1, []⟩ 7 3 (beBytes 1 0 ++ beBytes 1 200 ++ beBytes 1 2 ++ [1, 2]), 0, 200, [1, 2], by (repeat' apply And.intro) <;> first | decide +kernel | rfl⟩,
    ⟨(((State.reset.set (F.SEC_SESSION.OPEN 1) 1).set (F.SEC_SESSION.ROLE 1) 1).onSession 1 (fun x => { x with sid := 9 })) |>.set F.CPU_STATUS.STATE 2 |>.set (F.PWR_DOM_STATUS.STATE 3) 3, Envelope.sealed ⟨1, 0x20, 5, 9, 1, []⟩ 7 1 (beBytes 1 0 ++ [0] ++ [1]), 0, [1], 12, by (repeat' apply And.intro) <;> first | decide +kernel | rfl⟩,
    ⟨(((State.reset.set (F.SEC_SESSION.OPEN 1) 1).set (F.SEC_SESSION.ROLE 1) 1).onSession 1 (fun x => { x with sid := 9 })) |>.set F.CPU_STATUS.STATE 2 |>.set (F.PWR_DOM_STATUS.STATE 3) 3 |>.set (F.LINK_STATE.STATE .A) 4 |>.set (F.LINK_FEATURES.VALUE .A) 6 |>.set (F.LINK_NUMBERING.ROLE .A) 1 |>.set F.PLAN_SWITCH.HSTATE 2 |>.onPlan fun q => { q with running := some ⟨0, 1, 1, [⟨0x0A, 0, 0, List.replicate 64 0⟩]⟩ }, Envelope.sealed ⟨1, 0x20, 5, 9, 1, []⟩ 7 1 (beBytes 1 0 ++ [0] ++ [1]), 0, [1], by (repeat' apply And.intro) <;> first | decide +kernel | rfl⟩,
    ⟨(((State.reset.set (F.SEC_SESSION.OPEN 1) 1).set (F.SEC_SESSION.ROLE 1) 1).onSession 1 (fun x => { x with sid := 9 })) |>.set F.CPU_STATUS.STATE 2 |>.set (F.PWR_DOM_STATUS.STATE 3) 3 |>.set (F.LINK_STATE.STATE .A) 4 |>.set (F.LINK_FEATURES.VALUE .A) 6 |>.set (F.LINK_NUMBERING.ROLE .A) 1 |>.set F.PLAN_SWITCH.HSTATE 2, Envelope.sealed ⟨1, 0x20, 5, 9, 1, []⟩ 7 4 (beBytes 1 0), 0, by (repeat' apply And.intro) <;> first | decide +kernel | rfl⟩,
    ⟨(((State.reset.set (F.SEC_SESSION.OPEN 1) 1).set (F.SEC_SESSION.ROLE 1) 1).onSession 1 (fun x => { x with sid := 9 })), Envelope.sealed ⟨1, 0x20, 5, 9, 1, []⟩ 7 2 (beBytes 1 0), 0, by (repeat' apply And.intro) <;> first | decide +kernel | rfl⟩,
    ⟨(((State.reset.set (F.SEC_SESSION.OPEN 1) 1).set (F.SEC_SESSION.ROLE 1) 1).onSession 1 (fun x => { x with sid := 9 })) |>.set F.CPU_STATUS.STATE 1 |>.set (F.PWR_DOM_STATUS.STATE 3) 3, Envelope.sealed ⟨1, 0x20, 5, 9, 1, []⟩ 7 2 (beBytes 1 0), 0, by (repeat' apply And.intro) <;> first | decide +kernel | rfl⟩,
    ⟨State.reset, (⟨1, 0x20, 5, 0, 0, []⟩ : Envelope), 6, by decide +kernel⟩,
    ⟨State.reset, (⟨1, 0x20, 5, 0, 0, []⟩ : Envelope), 5, 10, by decide +kernel⟩,
    ⟨State.reset, 0x58, List.replicate 48 0, by decide +kernel⟩,
    ⟨State.reset, 0x58, List.replicate 47 0, by decide +kernel⟩,
    ⟨State.reset, 0x57, by decide +kernel⟩,
    ⟨.hdr, by decide +kernel⟩,
    ⟨State.reset.onSec fun x => { x with requests := [none, some [], none, none] }, 0x58, by decide +kernel⟩,
    ⟨State.reset, 0x58, [], false, by decide +kernel⟩,
    ⟨State.reset.onSec fun x => { x with i3cResp := some [7] }, 0x58, [7], by decide +kernel⟩,
    ⟨{ State.reset with i3cNotes := [[7], [8]] }, 0x58, [7], [[8]], by decide +kernel⟩,
    ⟨State.reset, 0x58, by decide +kernel⟩,
    ⟨State.reset, 0x57, by decide +kernel⟩,
    ⟨{ State.reset with i3cNotes := [[7], [8]] }, by decide +kernel⟩,
    ⟨{ State.reset with i3cNotes := [[7], [8]] }, 0x58, by decide +kernel⟩,
    ⟨{ State.reset with i3cAddress := some 9, i3cNotes := [[7], [8]] }, 9, by decide +kernel⟩,
    ⟨State.reset, .setdasa 0x57, by decide +kernel⟩,
    ⟨State.reset.onSec fun x => { x with hotJoin := false }, by decide +kernel⟩,
    ⟨State.reset, by decide +kernel⟩⟩

/-- Hypotheses of O52 are met. -/
theorem witness_GleanerFollowsTable153 :
    (∃ (s : State) (path : Path) (unit : Fin 4) (units : Fin 16), s.mayWrite path R.GLEAN_ARM_CTRL ∧ inMask units unit = true ∧ s.bist.lost.contains 6 = false ∧ s.unitState unit ≠ 3 ∧ s.unitState unit ≠ 4 ∧ unit.val < s.glean.units.length) ∧
    (∃ (s : State) (path : Path) (unit : Fin 4) (units : Fin 16), s.mayWrite path R.GLEAN_ARM_CTRL ∧ inMask units unit = true ∧ s.bist.lost.contains 6 = false ∧ (s.unitState unit = 3 ∨ s.unitState unit = 4)) ∧
    (∃ (s : State) (path : Path), s.mayWrite path R.GLEAN_ARM_CTRL ∧ s.bist.lost.contains 6 = true) ∧
    (∃ (s : State) (path : Path) (unit : Fin 4) (units : Fin 16) (feeds : List TapFeed) (r : State) (g : GleanUnit), s.mayWrite path R.GLEAN_ARM_CTRL ∧ inMask units unit = true ∧ r = s.recordAll feeds ∧ r.unitState unit = 1 ∧ (r.on (F.PWR_WAKE_MAP.EN 4) = false ∨ r.domOn (r.get (F.PWR_WAKE_MAP.DOMAIN 4)) = true) ∧ g = (r.unit unit) ∧ unit.val < s.glean.units.length) ∧
    (∃ (s : State) (path : Path) (unit : Fin 4) (v : Fin 4) (units : Fin 16) (feeds : List TapFeed) (r : State), s.mayWrite path R.GLEAN_ARM_CTRL ∧ inMask units unit = true ∧ inMask units v = false ∧ r = s.recordAll feeds ∧ r.unitState unit = 1 ∧ r.unitState v = 1 ∧ (r.unit unit).join = true ∧ (r.unit v).join = true ∧ v.val < s.glean.units.length ∧ unit.val < s.glean.units.length) ∧
    (∃ (s : State) (path : Path) (unit : Fin 4) (units : Fin 16) (feeds : List TapFeed) (r : State), s.mayWrite path R.GLEAN_ARM_CTRL ∧ units.val = 2 ^ unit.val ∧ r = s.recordAll feeds ∧ r.unitState unit ≠ 1) ∧
    (∃ (s : State) (unit : Fin 4) (feeds : List TapFeed) (r : State), r = s.recordAll feeds ∧ r.on F.GLEAN_XDEV.FIRE_IN = true ∧ r.unitState unit = 1 ∧ (r.unit unit).join = true ∧ (r.on (F.PWR_WAKE_MAP.EN 4) = false ∨ r.domOn (r.get (F.PWR_WAKE_MAP.DOMAIN 4)) = true) ∧ unit.val < s.glean.units.length) ∧
    (∃ (s : State) (feeds : List TapFeed) (r : State), r = s.recordAll feeds ∧ r.on F.GLEAN_XDEV.FIRE_IN = false) ∧
    (∃ (s : State) (unit : Fin 4), s.on F.GLEAN_XDEV.ARM_OUT = false ∧ bitsOf (s.gleanWord unit 0) 6 6 = 1 ∧ s.bist.lost.contains 6 = false ∧ s.unitState unit ≠ 3 ∧ s.unitState unit ≠ 4 ∧ unit.val < s.glean.units.length) ∧
    (∃ (s : State), s.on F.GLEAN_XDEV.ARM_OUT = true) ∧
    (∃ (s : State) (unit : Fin 4) (feeds : List TapFeed) (r : State) (w : Word), r = s.recordAll feeds ∧ r.unitState unit = 1 ∧ (r.unit unit).waits = false ∧ w = (r.unit unit).word (0x80 + 4 * r.get (F.GLEAN_STATE.SEQ unit)) ∧ bitsOf w 31 29 = 1 ∧ bitsOf w 13 13 = 1 ∧ (r.on (F.PWR_WAKE_MAP.EN 4) = false ∨ r.domOn (r.get (F.PWR_WAKE_MAP.DOMAIN 4)) = true) ∧ unit.val < s.glean.units.length) ∧
    (∃ (s : State) (unit : Fin 4) (x : TapInstant) (now : Clock) (k : Nat) (p : Nat) (old : List Nat), s.glean.due = [⟨unit.val, now, x⟩] ∧ s.unitState unit = 2 ∧ burstTap unit (s.unit unit).tap = false ∧ (s.unit unit).mode = 1 ∧ (s.unit unit).stored = some (k, old) ∧ (s.unit unit).index - k < 2 ^ 31 ∧ (s.unit unit).trigEntry = some p ∧ unit.val < s.glean.units.length ∧ (x.words.take (instantWords unit (s.unit unit).tap)).map (fun w => w % 2 ^ 24 &&& bitsOf ((s.unit unit).word 0x40) 23 0) = old ∧ (s.unit unit).complete = false) ∧
    (∃ (s : State) (unit : Fin 4) (x : TapInstant) (now : Clock) (k : Nat) (p : Nat) (old : List Nat) (es : List (BitVec 64)), s.glean.due = [⟨unit.val, now, x⟩] ∧ s.unitState unit = 2 ∧ burstTap unit (s.unit unit).tap = false ∧ (s.unit unit).mode = 1 ∧ (s.unit unit).stored = some (k, old) ∧ (s.unit unit).index - k < 2 ^ 31 ∧ (s.unit unit).trigEntry = some p ∧ unit.val < s.glean.units.length ∧ (x.words.take (instantWords unit (s.unit unit).tap)).map (fun w => w % 2 ^ 24 &&& bitsOf ((s.unit unit).word 0x40) 23 0) ≠ old ∧ es = instantEntries (s.unit unit).index false x.unsettled (x.words.take (instantWords unit (s.unit unit).tap)) ∧ (s.unit unit).count + es.length < p + (s.unit unit).post ∧ 2 ≤ (s.unit unit).depth ∧ (s.unit unit).depth ≤ 65536 ∧ s.on F.MEM_FLIP_CTRL.ARMED = false) ∧
    (∃ (s : State) (unit : Fin 4) (feed : TapFeed) (r : State), r = s.meetDue.record unit feed ∧ r.unitState unit = 2 ∧ (r.unit unit).complete = true ∧ ((r.unit unit).spills = false ∨ r.windowGranted = false) ∧ unit.val < s.glean.units.length) ∧
    (∃ (s : State) (unit : Fin 4) (feed : TapFeed) (r : State), r = s.meetDue.record unit feed ∧ r.unitState unit = 2 ∧ (r.unit unit).complete = true ∧ (r.unit unit).spills = true ∧ r.windowGranted = true ∧ unit.val < s.glean.units.length) ∧
    (∃ (s : State) (unit : Fin 4) (feed : TapFeed) (r : State), r = s.meetDue.record unit feed ∧ (r.unitState unit ≠ 2 ∨ (r.unit unit).complete = false)) ∧
    (∃ (s : State) (path : Path) (unit : Fin 4) (units : Fin 16) (feeds : List TapFeed) (r : State), s.mayWrite path R.GLEAN_ARM_CTRL ∧ inMask units unit = true ∧ r = s.recordAll feeds ∧ (r.unitState unit = 1 ∨ r.unitState unit = 2) ∧ ((r.unit unit).spills = false ∨ r.windowGranted = false) ∧ unit.val < s.glean.units.length) ∧
    (∃ (s : State) (path : Path) (unit : Fin 4) (units : Fin 16) (feeds : List TapFeed) (r : State), s.mayWrite path R.GLEAN_ARM_CTRL ∧ inMask units unit = true ∧ r = s.recordAll feeds ∧ (r.unitState unit = 1 ∨ r.unitState unit = 2) ∧ (r.unit unit).spills = true ∧ r.windowGranted = true ∧ unit.val < s.glean.units.length) ∧
    (∃ (s : State) (path : Path) (unit : Fin 4) (units : Fin 16) (feeds : List TapFeed) (r : State), s.mayWrite path R.GLEAN_ARM_CTRL ∧ units.val = 2 ^ unit.val ∧ r = s.recordAll feeds ∧ r.unitState unit = 4) ∧
    (∃ (s : State) (unit : Fin 4) (upsets : List MemWord) (n : Nat) (len : Nat) (size : Nat) (w : Nat) (flags : Nat) (part : List (BitVec 64)), s.unitState unit = 3 ∧ (∀ v : Fin 4, v < unit → s.unitState v ≠ 3) ∧ s.windowGranted = true ∧ n = min 4096 ((s.unit unit).count - (s.unit unit).spillAt) ∧ len = (80 + 8 * n + 63) / 64 ∧ size = s.get F.GLEAN_SPILL_SIZE.SIZE * 64 ∧ w = s.get F.GLEAN_SPILL_WPTR.PTR ∧ w + len ≤ size ∧ unit.val < s.glean.units.length ∧ part = (s.entriesFrom unit (s.unit unit).spillAt ((List.range n).map fun i => nth upsets i 0)).1 ∧ flags = unit.val + (if (s.unit unit).spillAt = 0 then 4 else 0) + (if (s.unit unit).count ≤ (s.unit unit).spillAt + n then 8 else 0) + (if part.any entryInvalid then 16 else 0) ∧ len + 1 ≤ size - (w + size - s.get F.GLEAN_SPILL_RPTR.PTR % size) % size ∧ s.ringReach w len = true ∧ s.get F.GLEAN_SPILL_SIZE.SIZE ≤ 4096 ∧ (s.unit unit).count ≤ (s.unit unit).spillAt + n ∧ (s.unit unit).rearms = false) ∧
    (∃ (s : State) (unit : Fin 4) (upsets : List MemWord) (n : Nat) (len : Nat) (size : Nat) (w : Nat) (flags : Nat) (part : List (BitVec 64)), s.unitState unit = 3 ∧ (∀ v : Fin 4, v < unit → s.unitState v ≠ 3) ∧ s.windowGranted = true ∧ n = min 4096 ((s.unit unit).count - (s.unit unit).spillAt) ∧ len = (80 + 8 * n + 63) / 64 ∧ size = s.get F.GLEAN_SPILL_SIZE.SIZE * 64 ∧ w = s.get F.GLEAN_SPILL_WPTR.PTR ∧ w + len ≤ size ∧ unit.val < s.glean.units.length ∧ part = (s.entriesFrom unit (s.unit unit).spillAt ((List.range n).map fun i => nth upsets i 0)).1 ∧ flags = unit.val + (if (s.unit unit).spillAt = 0 then 4 else 0) + (if (s.unit unit).count ≤ (s.unit unit).spillAt + n then 8 else 0) + (if part.any entryInvalid then 16 else 0) ∧ len + 1 ≤ size - (w + size - s.get F.GLEAN_SPILL_RPTR.PTR % size) % size ∧ s.ringReach w len = true ∧ s.get F.GLEAN_SPILL_SIZE.SIZE ≤ 4096 ∧ (s.unit unit).count ≤ (s.unit unit).spillAt + n ∧ (s.unit unit).rearms = true) ∧
    (∃ (s : State) (unit : Fin 4) (upsets : List MemWord) (n : Nat) (len : Nat) (size : Nat) (w : Nat) (flags : Nat) (part : List (BitVec 64)), s.unitState unit = 3 ∧ (∀ v : Fin 4, v < unit → s.unitState v ≠ 3) ∧ s.windowGranted = true ∧ n = min 4096 ((s.unit unit).count - (s.unit unit).spillAt) ∧ len = (80 + 8 * n + 63) / 64 ∧ size = s.get F.GLEAN_SPILL_SIZE.SIZE * 64 ∧ w = s.get F.GLEAN_SPILL_WPTR.PTR ∧ w + len ≤ size ∧ unit.val < s.glean.units.length ∧ part = (s.entriesFrom unit (s.unit unit).spillAt ((List.range n).map fun i => nth upsets i 0)).1 ∧ flags = unit.val + (if (s.unit unit).spillAt = 0 then 4 else 0) + (if (s.unit unit).count ≤ (s.unit unit).spillAt + n then 8 else 0) + (if part.any entryInvalid then 16 else 0) ∧ len + 1 ≤ size - (w + size - s.get F.GLEAN_SPILL_RPTR.PTR % size) % size ∧ s.ringReach w len = true ∧ s.get F.GLEAN_SPILL_SIZE.SIZE ≤ 4096 ∧ (s.unit unit).spillAt + n < (s.unit unit).count) ∧
    (∃ (s : State) (unit : Fin 4) (n : Nat) (len : Nat) (size : Nat) (w : Nat), s.unitState unit = 3 ∧ (∀ v : Fin 4, v < unit → s.unitState v ≠ 3) ∧ s.windowGranted = true ∧ n = min 4096 ((s.unit unit).count - (s.unit unit).spillAt) ∧ len = (80 + 8 * n + 63) / 64 ∧ size = s.get F.GLEAN_SPILL_SIZE.SIZE * 64 ∧ w = s.get F.GLEAN_SPILL_WPTR.PTR ∧ w + len ≤ size ∧ unit.val < s.glean.units.length ∧ size - (w + size - s.get F.GLEAN_SPILL_RPTR.PTR % size) % size < len + 1) ∧
    (∃ (s : State), (s.windowGranted = false ∨ ∀ v : Fin 4, s.unitState v ≠ 3)) ∧
    (∃ (s : State) (at64 : Nat) (body : List Byte) (bytes : List Byte), s.windowGranted = true ∧ s.cpu = 2 ∧ bytes = windowRecord (s.rd R.CXLCTL_WIN_EPOCH) 0 s.cxl.taskSeq body 2 ∧ s.inWindow (at64 * 64) bytes.length = true) ∧
    (∃ (s : State) (path : Path) (unit : Fin 4) (upset : MemWord) (k : Nat) (n : Nat) (m : MemWord), s.unheard path false = false ∧ s.isDown (R.GLEAN_READ_DATA_LO unit) = false ∧ k = s.get (F.GLEAN_READ_PTR.VALUE unit) ∧ k < (s.unit unit).count ∧ n = ((s.unit unit).slot unit ((s.unit unit).total - (s.unit unit).count + k)) ∧ m = turned (s.memWord 6 n) upset ∧ syndromeOf m = 0 ∧ entryInvalid (dataOf m) = false) ∧
    (∃ (s : State) (path : Path) (unit : Fin 4) (upset : MemWord) (k : Nat) (n : Nat) (m : MemWord), s.unheard path false = false ∧ s.isDown (R.GLEAN_READ_DATA_LO unit) = false ∧ k = s.get (F.GLEAN_READ_PTR.VALUE unit) ∧ k < (s.unit unit).count ∧ n = ((s.unit unit).slot unit ((s.unit unit).total - (s.unit unit).count + k)) ∧ m = turned (s.memWord 6 n) upset ∧ syndromeOf m ≠ 0 ∧ correctable (syndromeOf m) = false) ∧
    (∃ (s : State) (path : Path) (now : List Nat) (k : Fin 32) (old : Ctr48) (c : Ctr48), s.mayWrite path R.GLEAN_STAT_CTRL ∧ s.glean.stats.length = 32 ∧ old = nth s.glean.stats k.val {} ∧ c = old.add (nth now k.val 0)) ∧
    (∃ (s : State) (path : Path) (counter : Fin 32) (old : Ctr48), s.mayWrite path (R.GLEAN_STAT_HI counter) ∧ s.glean.stats.length = 32 ∧ old = nth s.glean.stats counter.val {}) ∧
    (∃ (s : State) (core : Fin 4) (n : Nat) (k : Nat) (left : Nat), s.on (F.GLEAN_PS_CTRL.EN core) = true ∧ (s.get (F.GLEAN_PS_LEVEL.LEVEL core) < 512 ∨ s.on (F.GLEAN_PS_CTRL.WRAP core) = true) ∧ k = s.get (F.GLEAN_PS_STATUS.INDEX core) ∧ left = (nth s.glean.cores core.val {}).psLeft ∧ left ≤ n ∧ core.val < s.glean.cores.length) ∧
    (∃ (s : State) (core : Fin 4) (n : Nat) (left : Nat), s.on (F.GLEAN_PS_CTRL.EN core) = true ∧ s.on (F.GLEAN_PS_CTRL.WRAP core) = false ∧ s.get (F.GLEAN_PS_LEVEL.LEVEL core) = 512 ∧ left = (nth s.glean.cores core.val {}).psLeft ∧ left ≤ n) ∧
    (∃ (s : State) (core : Fin 4) (n : Nat) (left : Nat), s.on (F.GLEAN_PS_CTRL.EN core) = true ∧ left = (nth s.glean.cores core.val {}).psLeft ∧ n < left ∧ core.val < s.glean.cores.length) ∧
    (∃ (s : State) (core : Fin 4), s.on (F.GLEAN_PS_CTRL.EN core) = false) ∧
    (∃ (s : State) (core : Fin 4) (counter : Fin 12) (run : CoreRun) (x : CoreSt) (n : Nat) (v : Nat), core.val < s.glean.cores.length ∧ x = nth s.glean.cores core.val {} ∧ x.counters.length = 12 ∧ x.events.length = 12 ∧ n = (if eventCounts (nth x.events counter.val 0) run.priv then run.occurrences else 0) ∧ v = (nth x.counters counter.val 0).toNat + (if run.write.isSome then n - 1 else n)) :=
  ⟨⟨((State.reset.set (F.GLEAN_STATE.STATE 3) 5)), .cxl, 3, 9, by decide +kernel⟩,
    ⟨((State.reset.set (F.GLEAN_STATE.STATE 3) 4)), .cxl, 3, 8, by decide +kernel⟩,
    ⟨State.reset.onBist fun b => { b with lost := [6] }, .cxl, by decide +kernel⟩,
    ⟨((State.reset.set (F.GLEAN_STATE.STATE 3) 1) |>.set (F.PWR_WAKE_MAP.EN 4) 0 |>.onUnit 3 (fun g => { g with cfg := [0x00000001, 5, 0, 16, 2, 8] ++ List.replicate 10 0 ++ [0xFFFFFF], index := 9, stored := some (3, [7]), total := 4, count := 4 })), .cxl, 3, 8, [], (((State.reset.set (F.GLEAN_STATE.STATE 3) 1) |>.set (F.PWR_WAKE_MAP.EN 4) 0 |>.onUnit 3 (fun g => { g with cfg := [0x00000001, 5, 0, 16, 2, 8] ++ List.replicate 10 0 ++ [0xFFFFFF], index := 9, stored := some (3, [7]), total := 4, count := 4 }))).recordAll [], ((((State.reset.set (F.GLEAN_STATE.STATE 3) 1) |>.set (F.PWR_WAKE_MAP.EN 4) 0 |>.onUnit 3 (fun g => { g with cfg := [0x00000001, 5, 0, 16, 2, 8] ++ List.replicate 10 0 ++ [0xFFFFFF], index := 9, stored := some (3, [7]), total := 4, count := 4 }))).recordAll []).unit 3, by decide +kernel⟩,
    ⟨((State.reset.set (F.GLEAN_STATE.STATE 3) 1).set (F.GLEAN_STATE.STATE 2) 1 |>.onUnit 3 (fun g => { g with cfg := [0x20] }) |>.onUnit 2 fun g => { g with cfg := [0x20] }), .cxl, 3, 2, 8, [], (((State.reset.set (F.GLEAN_STATE.STATE 3) 1).set (F.GLEAN_STATE.STATE 2) 1 |>.onUnit 3 (fun g => { g with cfg := [0x20] }) |>.onUnit 2 fun g => { g with cfg := [0x20] })).recordAll [], by decide +kernel⟩,
    ⟨State.reset, .cxl, 3, 8, [], (State.reset).recordAll [], by decide +kernel⟩,
    ⟨((State.reset.set (F.GLEAN_STATE.STATE 3) 1).set (F.PWR_WAKE_MAP.EN 4) 0 |>.set F.GLEAN_XDEV.FIRE_IN 1 |>.onUnit 3 fun g => { g with cfg := [0x20] }), 3, [], (((State.reset.set (F.GLEAN_STATE.STATE 3) 1).set (F.PWR_WAKE_MAP.EN 4) 0 |>.set F.GLEAN_XDEV.FIRE_IN 1 |>.onUnit 3 fun g => { g with cfg := [0x20] })).recordAll [], by decide +kernel⟩,
    ⟨State.reset, [], (State.reset).recordAll [], by decide +kernel⟩,
    ⟨State.reset.set (F.GLEAN_CTRL.PIN_ARM 3) 1, 3, by decide +kernel⟩,
    ⟨State.reset.set F.GLEAN_XDEV.ARM_OUT 1, by decide +kernel⟩,
    ⟨((State.reset.set (F.GLEAN_STATE.STATE 3) 1).set (F.PWR_WAKE_MAP.EN 4) 0 |>.onUnit 3 fun g => { g with cfg := List.replicate 32 0 ++ [0x20042000] }), 3, [], (((State.reset.set (F.GLEAN_STATE.STATE 3) 1).set (F.PWR_WAKE_MAP.EN 4) 0 |>.onUnit 3 fun g => { g with cfg := List.replicate 32 0 ++ [0x20042000] })).recordAll [], 0x20042000, by decide +kernel⟩,
    ⟨((State.reset.set (F.GLEAN_STATE.STATE 3) 2) |>.set (F.PWR_WAKE_MAP.EN 4) 0 |>.onUnit 3 (fun g => { g with cfg := [0x00000001, 5, 0, 16, 2, 8] ++ List.replicate 10 0 ++ [0xFFFFFF], index := 9, stored := some (3, [7]), total := 4, count := 4, trigEntry := some 2 }) |>.onGlean fun g => { g with due := [⟨3, ⟨0, 0, 0⟩, ⟨[7], false⟩⟩] }), 3, ⟨[7], false⟩, ⟨0, 0, 0⟩, 3, 2, [7], by decide +kernel⟩,
    ⟨((State.reset.set (F.GLEAN_STATE.STATE 3) 2) |>.set (F.PWR_WAKE_MAP.EN 4) 0 |>.onUnit 3 (fun g => { g with cfg := [0x00000001, 5, 0, 16, 2, 8] ++ List.replicate 10 0 ++ [0xFFFFFF], index := 9, stored := some (3, [7]), total := 4, count := 4, trigEntry := some 2 }) |>.onGlean fun g => { g with due := [⟨3, ⟨0, 0, 0⟩, ⟨[8], true⟩⟩] }), 3, ⟨[8], true⟩, ⟨0, 0, 0⟩, 3, 2, [7], [0x901000008], by decide +kernel⟩,
    ⟨((State.reset.set (F.GLEAN_STATE.STATE 3) 2) |>.set (F.PWR_WAKE_MAP.EN 4) 0 |>.onUnit 3 (fun g => { g with cfg := [0x00000001, 5, 0, 16, 2, 8] ++ List.replicate 10 0 ++ [0xFFFFFF], index := 9, stored := some (3, [7]), total := 10, count := 10, trigEntry := some 2 })), 3, ⟨0, []⟩, (((State.reset.set (F.GLEAN_STATE.STATE 3) 2) |>.set (F.PWR_WAKE_MAP.EN 4) 0 |>.onUnit 3 (fun g => { g with cfg := [0x00000001, 5, 0, 16, 2, 8] ++ List.replicate 10 0 ++ [0xFFFFFF], index := 9, stored := some (3, [7]), total := 10, count := 10, trigEntry := some 2 }))).meetDue.record 3 ⟨0, []⟩, by decide +kernel⟩,
    ⟨(((State.reset.set (F.GLEAN_STATE.STATE 3) 2) |>.set F.CXLCTL_WIN_CMD.WSTATE 1) |>.onUnit 3 fun g => { g with cfg := [0x10], trigEntry := some 0 }), 3, ⟨0, []⟩, ((((State.reset.set (F.GLEAN_STATE.STATE 3) 2) |>.set F.CXLCTL_WIN_CMD.WSTATE 1) |>.onUnit 3 fun g => { g with cfg := [0x10], trigEntry := some 0 })).meetDue.record 3 ⟨0, []⟩, by decide +kernel⟩,
    ⟨State.reset, 3, ⟨0, []⟩, (State.reset).meetDue.record 3 ⟨0, []⟩, by decide +kernel⟩,
    ⟨((State.reset.set (F.GLEAN_STATE.STATE 3) 1)), .cxl, 3, 12, [], (((State.reset.set (F.GLEAN_STATE.STATE 3) 1))).recordAll [], by decide +kernel⟩,
    ⟨(((State.reset.set (F.GLEAN_STATE.STATE 3) 1) |>.set F.CXLCTL_WIN_CMD.WSTATE 1) |>.onUnit 3 fun g => { g with cfg := [0x10] }), .cxl, 3, 8, [], ((((State.reset.set (F.GLEAN_STATE.STATE 3) 1) |>.set F.CXLCTL_WIN_CMD.WSTATE 1) |>.onUnit 3 fun g => { g with cfg := [0x10] })).recordAll [], by decide +kernel⟩,
    ⟨((State.reset.set (F.GLEAN_STATE.STATE 3) 4)), .cxl, 3, 8, [], (((State.reset.set (F.GLEAN_STATE.STATE 3) 4))).recordAll [], by decide +kernel⟩,
    ⟨((State.reset.set (F.GLEAN_STATE.STATE 3) 3) |>.set F.CXLCTL_WIN_CMD.WSTATE 1 |>.set F.CXLCTL_WIN_SIZE.SIZE 1 |>.set F.GLEAN_SPILL_SIZE.SIZE 16 |>.onUnit 3 fun g => { g with cfg := [0, 0, 0, 16], total := 4, count := 4 }), 3, [], 4, 2, 1024, 0, 15, [0, 0, 0, 0], by decide +kernel⟩,
    ⟨((State.reset.set (F.GLEAN_STATE.STATE 3) 3) |>.set F.CXLCTL_WIN_CMD.WSTATE 1 |>.set F.CXLCTL_WIN_SIZE.SIZE 1 |>.set F.GLEAN_SPILL_SIZE.SIZE 16 |>.onUnit 3 fun g => { g with cfg := [8, 0, 0, 16], total := 4, count := 4 }), 3, [], 4, 2, 1024, 0, 15, [0, 0, 0, 0], by decide +kernel⟩,
    ⟨((State.reset.set (F.GLEAN_STATE.STATE 3) 3) |>.set F.CXLCTL_WIN_CMD.WSTATE 1 |>.set F.CXLCTL_WIN_SIZE.SIZE 1 |>.set F.GLEAN_SPILL_SIZE.SIZE 16 |>.onUnit 3 fun g => { g with cfg := [0, 0, 0, 16], total := 5000, count := 5000 }), 3, [], 4096, 514, 1024, 0, (3 : Fin 4).val + (if ((((State.reset.set (F.GLEAN_STATE.STATE 3) 3) |>.set F.CXLCTL_WIN_CMD.WSTATE 1 |>.set F.CXLCTL_WIN_SIZE.SIZE 1 |>.set F.GLEAN_SPILL_SIZE.SIZE 16 |>.onUnit 3 fun g => { g with cfg := [0, 0, 0, 16], total := 5000, count := 5000 })).unit (3 : Fin 4)).spillAt = 0 then 4 else 0) + (if ((((State.reset.set (F.GLEAN_STATE.STATE 3) 3) |>.set F.CXLCTL_WIN_CMD.WSTATE 1 |>.set F.CXLCTL_WIN_SIZE.SIZE 1 |>.set F.GLEAN_SPILL_SIZE.SIZE 16 |>.onUnit 3 fun g => { g with cfg := [0, 0, 0, 16], total := 5000, count := 5000 })).unit (3 : Fin 4)).count ≤ ((((State.reset.set (F.GLEAN_STATE.STATE 3) 3) |>.set F.CXLCTL_WIN_CMD.WSTATE 1 |>.set F.CXLCTL_WIN_SIZE.SIZE 1 |>.set F.GLEAN_SPILL_SIZE.SIZE 16 |>.onUnit 3 fun g => { g with cfg := [0, 0, 0, 16], total := 5000, count := 5000 })).unit (3 : Fin 4)).spillAt + 4096 then 8 else 0) + (if (((((State.reset.set (F.GLEAN_STATE.STATE 3) 3) |>.set F.CXLCTL_WIN_CMD.WSTATE 1 |>.set F.CXLCTL_WIN_SIZE.SIZE 1 |>.set F.GLEAN_SPILL_SIZE.SIZE 16 |>.onUnit 3 fun g => { g with cfg := [0, 0, 0, 16], total := 5000, count := 5000 })).entriesFrom (3 : Fin 4) ((((State.reset.set (F.GLEAN_STATE.STATE 3) 3) |>.set F.CXLCTL_WIN_CMD.WSTATE 1 |>.set F.CXLCTL_WIN_SIZE.SIZE 1 |>.set F.GLEAN_SPILL_SIZE.SIZE 16 |>.onUnit 3 fun g => { g with cfg := [0, 0, 0, 16], total := 5000, count := 5000 })).unit (3 : Fin 4)).spillAt ((List.range 4096).map fun i => nth ([] : List MemWord) i 0)).1).any entryInvalid then 16 else 0), ((((State.reset.set (F.GLEAN_STATE.STATE 3) 3) |>.set F.CXLCTL_WIN_CMD.WSTATE 1 |>.set F.CXLCTL_WIN_SIZE.SIZE 1 |>.set F.GLEAN_SPILL_SIZE.SIZE 16 |>.onUnit 3 fun g => { g with cfg := [0, 0, 0, 16], total := 5000, count := 5000 })).entriesFrom (3 : Fin 4) ((((State.reset.set (F.GLEAN_STATE.STATE 3) 3) |>.set F.CXLCTL_WIN_CMD.WSTATE 1 |>.set F.CXLCTL_WIN_SIZE.SIZE 1 |>.set F.GLEAN_SPILL_SIZE.SIZE 16 |>.onUnit 3 fun g => { g with cfg := [0, 0, 0, 16], total := 5000, count := 5000 })).unit (3 : Fin 4)).spillAt ((List.range 4096).map fun i => nth ([] : List MemWord) i 0)).1, by (repeat' apply And.intro) <;> first | with_reducible rfl | decide +kernel⟩,
    ⟨((State.reset.set (F.GLEAN_STATE.STATE 3) 3) |>.set F.CXLCTL_WIN_CMD.WSTATE 1 |>.set F.CXLCTL_WIN_SIZE.SIZE 1 |>.set F.GLEAN_SPILL_SIZE.SIZE 16 |>.set F.GLEAN_SPILL_RPTR.PTR 1 |>.onUnit 3 fun g => { g with cfg := [0, 0, 0, 16], total := 4, count := 4 }), 3, 4, 2, 1024, 0, by decide +kernel⟩,
    ⟨State.reset, by decide +kernel⟩,
    ⟨(State.reset |>.set F.CXLCTL_WIN_CMD.WSTATE 1 |>.set F.CXLCTL_WIN_SIZE.SIZE 1 |>.set F.CPU_STATUS.STATE 2), 5, [7], windowRecord 0 0 0 [7] 2, by decide +kernel⟩,
    ⟨((State.reset.set (F.GLEAN_STATE.STATE 3) 5).set (F.GLEAN_READ_PTR.VALUE 3) 1 |>.onUnit 3 (fun g => { g with cfg := [0, 0, 0, 16], total := 2, count := 2 }) |>.memPut 6 196609 0x500000009), .cxl, 3, 0, 1, 196609, 0x500000009, by decide +kernel⟩,
    ⟨((State.reset.set (F.GLEAN_STATE.STATE 3) 5).set (F.GLEAN_READ_PTR.VALUE 3) 1 |>.onUnit 3 (fun g => { g with cfg := [0, 0, 0, 16], total := 2, count := 2 }) |>.memPut 6 196609 0x500000009), .cxl, 3, 0x030000000000000000, 1, 196609, 0x030000000500000009, by decide +kernel⟩,
    ⟨State.reset.onGlean fun g => { g with stats := List.replicate 32 { value := 0xFFFFFFFFFFFF, ovf := false } }, .cxl, List.replicate 32 2, 31, { value := 0xFFFFFFFFFFFF }, { value := 1, ovf := true }, by decide +kernel⟩,
    ⟨State.reset.onGlean fun g => { g with stats := List.replicate 32 { value := 0xFFFFFFFFFFFF } }, .cxl, 31, { value := 0xFFFFFFFFFFFF }, by decide +kernel⟩,
    ⟨(State.reset.set (F.GLEAN_PS_CTRL.EN 3) 1).set (F.GLEAN_PS_STATUS.INDEX 3) 511, 3, 1, 511, 0, by decide +kernel⟩,
    ⟨(State.reset.set (F.GLEAN_PS_CTRL.EN 3) 1).set (F.GLEAN_PS_LEVEL.LEVEL 3) 512, 3, 1, 0, by decide +kernel⟩,
    ⟨(State.reset.set (F.GLEAN_PS_CTRL.EN 3) 1).onCore 3 fun x => { x with psLeft := 5 }, 3, 4, 5, by decide +kernel⟩,
    ⟨State.reset, 3, by decide +kernel⟩,
    ⟨State.reset.onCore 3 fun x => { x with counters := List.replicate 12 0xFFFFFFFFFFFFFFFF, events := List.replicate 12 1 }, 3, 11, ⟨1, 3, 9, 5, none⟩, { counters := List.replicate 12 0xFFFFFFFFFFFFFFFF, events := List.replicate 12 1 }, 1, 18446744073709551616, by decide +kernel⟩⟩

/-- Hypotheses of O53 are met. -/
theorem witness_DomainsFollowTable163 :
    (∃ (s : State) (path : Path) (domain : Fin 27), s.mayWrite path (R.PWR_VOTE domain)) ∧
    (∃ (s : State) (domain : Fin 27) (value : Word), s.mayWrite .cxl (R.PWR_VOTE domain) ∧ onOnly domain = false ∧ bitsOf value 2 2 = 1 ∧ s.domState domain ≤ 2 ∧ s.on (F.PWR_DOM_STATUS.FAILED domain) = false ∧ s.on F.PWR_STATUS.HALTED = false) ∧
    (∃ (s : State) (domain : Fin 27) (value : Word), s.mayWrite .cxl (R.PWR_VOTE domain) ∧ onOnly domain = false ∧ s.domState domain = 3 ∧ s.get (F.PWR_VOTE.VOTES domain) = 4 ∧ bitsOf value 2 2 = 0) ∧
    (∃ (s : State) (domain : Fin 27) (value : Word), s.mayWrite .cxl (R.PWR_VOTE domain) ∧ onOnly domain = false ∧ s.domState domain = 3 ∧ bitsOf value 2 2 = 1) ∧
    (∃ (s : State) (domain : Fin 27), s.power.dropTimers.contains domain.val = true ∧ s.domOn domain = true) ∧
    (∃ (s : State) (domain : Fin 27), s.power.dropTimers.contains domain.val = false) ∧
    (∃ (s : State) (domain : Fin 27), s.domState domain = 5 ∧ s.get (F.PWR_VOTE.VOTES domain) = 0) ∧
    (∃ (s : State), s.domState 25 = 5 ∧ s.get (F.PWR_VOTE.VOTES 25) = 0 ∧ s.get (F.PWR_DOM_CFG.DROP_STATE 25) = 1 ∧ s.regsCanonical = true) ∧
    (∃ (s : State), s.domState 25 = 5 ∧ s.get (F.PWR_VOTE.VOTES 25) = 0 ∧ 2 ≤ s.get (F.PWR_DOM_CFG.DROP_STATE 25) ∧ s.regsCanonical = true) ∧
    (∃ (s : State) (domain : Fin 27), s.power.shutWaits = false ∧ s.mgrInbox = [] ∧ s.domState domain = 4 ∧ s.voltPending domain = false ∧ s.power.gaps.contains domain.val = false ∧ s.power.latched = [] ∧ s.power.resets = [] ∧ s.get (F.PWR_VOTE.VOTES domain) ≠ 0) ∧
    (∃ (s : State) (domain : Fin 27), s.power.shutWaits = false ∧ s.mgrInbox = [] ∧ s.domState domain = 4 ∧ (s.voltPending domain = true ∨ s.power.gaps.contains domain.val = true)) ∧
    (∃ (s : State) (domain : Fin 27) (cause : WakeCause), s.power.shutWaits = false ∧ s.mgrInbox = [] ∧ s.domState domain = 4 ∧ 3 ≤ causeCode cause ∧ s.voltPending domain = false ∧ s.power.gaps.contains domain.val = false ∧ s.get (F.PWR_DOM_STATUS.ATTEMPTS domain) < 4) ∧
    (∃ (s : State) (domain : Fin 27) (cause : WakeCause) (port : Fin 2), s.power.shutWaits = false ∧ s.mgrInbox = [] ∧ s.domState domain = 4 ∧ causeCode cause ≤ 2 ∧ avsPort domain = some port.val ∧ s.avsFront port = some (.wake domain.val) ∧ s.get (F.PWR_DOM_STATUS.ATTEMPTS domain) < 4) ∧
    (∃ (s : State) (domain : Fin 27) (cause : WakeCause), s.power.shutWaits = false ∧ s.mgrInbox = [] ∧ s.voltPending domain = false ∧ (causeCode cause ≤ 2 ∨ s.power.gaps.contains domain.val = true)) ∧
    (∃ (s : State) (domain : Fin 27) (cause : WakeCause), s.power.shutWaits = false ∧ s.mgrInbox = [] ∧ s.domState domain = 4 ∧ 3 ≤ causeCode cause ∧ s.voltPending domain = false ∧ s.power.gaps.contains domain.val = false ∧ s.get (F.PWR_DOM_STATUS.ATTEMPTS domain) = 4 ∧ s.power.resets = [] ∧ onOnly domain = false) ∧
    (∃ (s : State) (domain : Fin 27), s.domState domain = 4 ∧ s.power.gaps.contains domain.val = true ∧ s.get (F.PWR_DOM_STATUS.ATTEMPTS domain) < 4) ∧
    (∃ (s : State) (path : Path) (domain : Fin 27), s.mayWriteRws path R.PWR_CTRL 1 ∧ s.failedDomains = [domain.val] ∧ s.domState domain ≤ 2 ∧ s.on F.PWR_STATUS.HALTED = false) ∧
    (∃ (s : State) (path : Path), s.mayWriteRws path R.PWR_CTRL 1 ∧ s.failedDomains = []) ∧
    (∃ (s : State) (path : Path) (domain : Fin 27), s.mayWriteRws path (R.PWR_DOM_CFG domain) 1 ∧ onOnly domain = false ∧ s.domState domain ≠ 4 ∧ s.get (F.PWR_VOTE.VOTES domain) = 0) ∧
    (∃ (s : State) (path : Path) (domain : Fin 27), s.mayWriteRws path (R.PWR_DOM_CFG domain) 1 ∧ onOnly domain = true) ∧
    (∃ (s : State) (source : Fin 8) (d : Nat), s.on (F.PWR_WAKE_MAP.EN source) = true ∧ d = s.get (F.PWR_WAKE_MAP.DOMAIN source) ∧ 3 ≤ d ∧ d ≤ 25 ∧ s.domState d ≤ 2 ∧ s.on (F.PWR_DOM_STATUS.FAILED d) = false ∧ s.on F.PWR_STATUS.HALTED = false ∧ s.on ⟨R.PWR_WAKE_LATCH, source, source⟩ = false) ∧
    (∃ (s : State) (source : Fin 8) (d : Nat), s.on (F.PWR_WAKE_MAP.EN source) = true ∧ d = s.get (F.PWR_WAKE_MAP.DOMAIN source) ∧ s.domOn d = false ∧ s.on ⟨R.PWR_WAKE_LATCH, source, source⟩ = true) ∧
    (∃ (s : State) (source : Fin 8), s.on (F.PWR_WAKE_MAP.EN source) = false) ∧
    (∃ (s : State) (path : Path), s.mayWrite path R.PWR_WAKE_TIMER) ∧
    (∃ (s : State), s.on F.PWR_WAKE_TIMER.EN = true ∧ s.on (F.PWR_WAKE_MAP.EN 5) = false) :=
  ⟨⟨State.reset.set (F.PWR_VOTE.VOTES 25) 0xF0, .plough, 25, by decide +kernel⟩,
    ⟨State.reset, 25, 4, by decide +kernel⟩,
    ⟨((State.reset.set (F.PWR_DOM_STATUS.STATE 25) 3).set (F.PWR_VOTE.VOTES 25) 4), 25, 0xFB, by decide +kernel⟩,
    ⟨((State.reset.set (F.PWR_DOM_STATUS.STATE 25) 3).onPower fun w => { w with dropTimers := [25] }), 25, 4, by decide +kernel⟩,
    ⟨((State.reset.set (F.PWR_DOM_STATUS.STATE 25) 3).onPower fun w => { w with dropTimers := [25] }), 25, by decide +kernel⟩,
    ⟨State.reset, 25, by decide +kernel⟩,
    ⟨((State.reset.set (F.PWR_DOM_STATUS.STATE 25) 5)), 25, by decide +kernel⟩,
    ⟨((State.reset.set (F.PWR_DOM_STATUS.STATE 25) 5).set (F.CLIENT_CTRL.LOOP 9) 1 |>.set (F.PWR_DOM_CFG.DROP_STATE 25) 1), by decide +kernel⟩,
    ⟨((State.reset.set (F.PWR_DOM_STATUS.STATE 25) 5).set (F.CLIENT_CTRL.LOOP 9) 1 |>.set (F.PWR_DOM_CFG.DROP_STATE 25) 2), by decide +kernel⟩,
    ⟨((State.reset.set (F.PWR_DOM_STATUS.STATE 25) 4).set (F.PWR_VOTE.VOTES 25) 4), 25, by decide +kernel⟩,
    ⟨((State.reset.set (F.PWR_DOM_STATUS.STATE 25) 4).onPower fun w => { w with gaps := [25] }), 25, by decide +kernel⟩,
    ⟨((State.reset.set (F.PWR_DOM_STATUS.STATE 25) 4).set (F.PWR_DOM_STATUS.ATTEMPTS 25) 3), 25, .pllNoLock, by decide +kernel⟩,
    ⟨((State.reset.set (F.PWR_DOM_STATUS.STATE 4) 4).onPower fun w => { w with avs := [(1, .wake 4)] }), 4, .avsNak, 1, by decide +kernel⟩,
    ⟨State.reset, 25, .avsNoAck, by decide +kernel⟩,
    ⟨((State.reset.set (F.PWR_DOM_STATUS.STATE 25) 4).set (F.PWR_DOM_STATUS.ATTEMPTS 25) 4 |>.onPower fun w => { w with wakingFrom := [(25, 1)] }), 25, .pllNoLock, by decide +kernel⟩,
    ⟨((State.reset.set (F.PWR_DOM_STATUS.STATE 25) 4).set (F.PWR_DOM_STATUS.ATTEMPTS 25) 3 |>.onPower fun w => { w with gaps := [25] }), 25, by decide +kernel⟩,
    ⟨State.reset.set (F.PWR_DOM_STATUS.FAILED 25) 1, .hedge, 25, by decide +kernel⟩,
    ⟨State.reset, .hedge, by decide +kernel⟩,
    ⟨((State.reset.set (F.PWR_DOM_STATUS.STATE 25) 3)), .hedge, 25, by decide +kernel⟩,
    ⟨State.reset, .hedge, 26, by decide +kernel⟩,
    ⟨State.reset, 7, 3, by decide +kernel⟩,
    ⟨State.reset.set ⟨R.PWR_WAKE_LATCH, 7, 7⟩ 1, 7, 3, by decide +kernel⟩,
    ⟨State.reset.set (F.PWR_WAKE_MAP.EN 7) 0, 7, by decide +kernel⟩,
    ⟨State.reset, .cxl, by decide +kernel⟩,
    ⟨(State.reset.set (F.PWR_WAKE_MAP.EN 5) 0).set F.PWR_WAKE_TIMER.EN 1, by decide +kernel⟩⟩

/-- Hypotheses of O54 are met. -/
theorem witness_LevelsFollowR330R331 :
    (∃ (s : State) (path : Path) (level : Fin 4) (r : Nat), s.mayWrite path R.PWR_PL ∧ s.on F.PWR_PL.BUSY = false ∧ r = min level.val (s.get F.PWR_PL.MIN) ∧ r ≠ s.level) ∧
    (∃ (s : State) (path : Path), s.mayWrite path R.PWR_PL ∧ s.on F.PWR_PL.BUSY = true) ∧
    (∃ (s : State) (port : Fin 2), s.avsFront port = some .level ∧ s.power.plTarget < 4 ∧ s.get F.PWR_PL.REQUEST = s.power.plTarget) ∧
    (∃ (s : State) (port : Fin 2) (d : Nat), s.avsFront port = some (.wake d)) ∧
    (∃ (s : State) (port : Fin 2), s.power.shutWaits = false ∧ s.avsFront port = some .level ∧ s.power.plFails < 3) ∧
    (∃ (s : State) (port : Fin 2), s.power.shutWaits = false ∧ s.avsFront port = some .level ∧ 3 ≤ s.power.plFails ∧ s.get F.PWR_PL.REQUEST = s.power.plTarget) ∧
    (∃ (s : State) (port : Fin 2) (d : Fin 27), s.power.shutWaits = false ∧ s.avsFront port = some (.wake d.val) ∧ s.domState d = 4 ∧ s.get (F.PWR_DOM_STATUS.ATTEMPTS d) < 4) ∧
    (∃ (s : State), s.power.plGap = true) :=
  ⟨⟨State.reset, .cxl, 1, 1, by decide +kernel⟩,
    ⟨State.reset.set F.PWR_PL.BUSY 1, .cxl, by decide +kernel⟩,
    ⟨State.reset.set F.PWR_PL.REQUEST 1 |>.onPower fun w => { w with avs := [(0, .level)], plTarget := 1 }, 0, by decide +kernel⟩,
    ⟨State.reset.onPower fun w => { w with avs := [(1, .wake 4)] }, 1, 4, by decide +kernel⟩,
    ⟨State.reset.onPower fun w => { w with avs := [(0, .level)] }, 0, by decide +kernel⟩,
    ⟨State.reset.onPower fun w => { w with avs := [(0, .level)], plFails := 3 }, 0, by decide +kernel⟩,
    ⟨((State.reset.set (F.PWR_DOM_STATUS.STATE 4) 4).onPower fun w => { w with avs := [(1, .wake 4)] }), 1, 4, by decide +kernel⟩,
    ⟨State.reset.onPower fun w => { w with plGap := true }, by decide +kernel⟩⟩

/-- Hypotheses of O55 are met. -/
theorem witness_ShutDownAndResetsFollowR334R336 :
    (∃ (s : State) (path : Path), s.mayWriteRws path R.PWR_CTRL 1 ∧ s.shut = false ∧ s.shutHeld = false) ∧
    (∃ (s : State) (path : Path), s.mayWriteRws path R.PWR_CTRL 1 ∧ s.shut = false ∧ s.shutHeld = true) ∧
    (∃ (s : State) (path : Path), s.mayWriteRws path R.PWR_CTRL 1 ∧ s.shut = true) ∧
    (∃ (s : State), s.on F.PWR_STATUS.SHUTTING = true ∧ s.power.shutTests = false ∧ s.cal.stores = [] ∧ s.shutTesting = false) ∧
    (∃ (s : State) (path : Path), s.mayWriteRws path R.PWR_CTRL 1) ∧
    (∃ (s : State) (kind : Nat) (old : Nat) (left : Nat), s.sec.burning = some (kind, old, left) ∧ kind < s.sec.fuses.length ∧ old ≤ nth s.sec.fuses kind 0) ∧
    (∃ (s : State), s.power.latched = []) :=
  ⟨⟨State.reset.set (F.LOOP_STATUS.STATE 3) 3, .hedge, by decide +kernel⟩,
    ⟨((State.reset.set (F.PWR_DOM_STATUS.STATE 25) 4)), .hedge, by decide +kernel⟩,
    ⟨((State.reset.set F.PWR_STATUS.SHUTTING 1)), .hedge, by decide +kernel⟩,
    ⟨((State.reset.set F.PWR_STATUS.SHUTTING 1).set F.PWR_CTRL.BIST_SKIP 1 |>.set (F.PWR_VOTE.VOTES 25) 0xFF), by decide +kernel⟩,
    ⟨(State.reset.memPut 4 9 7) |>.set (F.PWR_VOTE.VOTES 25) 0xFF |>.set F.PWR_WAKE_TIMER.MS 9, .hedge, by decide +kernel⟩,
    ⟨State.reset.onSec fun x => { x with fuses := [0, 9, 0], burning := some (1, 4, 1) }, 1, 4, 1, by decide +kernel⟩,
    ⟨State.reset.set (F.PWR_VOTE.VOTES 25) 0xFF, by decide +kernel⟩⟩

/-- Hypotheses of O56 are met. -/
theorem witness_CalibrationFollowsR344ToR350 :
    (∃ (s : State) (path : Path) (slot : Fin 32), s.mayWriteRws path R.CAL_CMD 2 ∧ calType slot = 0) ∧
    (∃ (s : State) (path : Path) (slot : Fin 32), s.mayWriteRws path R.CAL_CMD 2 ∧ calType slot ≠ 0 ∧ (s.shut = true ∨ s.calBusy ≠ 0)) ∧
    (∃ (s : State) (path : Path) (slot : Fin 32), s.mayWriteRws path R.CAL_CMD 2 ∧ calType slot ≠ 0 ∧ s.shut = false ∧ s.calBusy = 0 ∧ s.mode ≠ 6) ∧
    (∃ (s : State) (path : Path) (slot : Fin 32), s.mayWriteRws path R.CAL_CMD 2 ∧ calType slot ≠ 0 ∧ s.shut = false ∧ s.calBusy = 0 ∧ s.mode = 6) ∧
    (∃ (s : State) (body : List Byte) (slot : Fin 32), s.calBusy = 1 ∧ slot.val = s.cal.running ∧ body.length = calLen (calType slot) ∧ calFault slot body = none) ∧
    (∃ (s : State) (body : List Byte) (slot : Fin 32) (at1 : Nat), s.calBusy = 1 ∧ slot.val = s.cal.running ∧ body.length = calLen (calType slot) ∧ calFault slot body = some at1) ∧
    (∃ (s : State), s.calBusy ≠ 1) ∧
    (∃ (s : State) (path : Path) (slot : Fin 32), s.mayWriteRws path R.CAL_CMD 2 ∧ calType slot ≠ 0 ∧ s.shut = false ∧ calFault slot (s.calCapture slot) = none) ∧
    (∃ (s : State) (path : Path) (slot : Fin 32) (at1 : Nat), s.mayWriteRws path R.CAL_CMD 2 ∧ calType slot ≠ 0 ∧ s.shut = false ∧ calFault slot (s.calCapture slot) = some at1) ∧
    (∃ (s : State) (q : CalStore) (rest : List CalStore), s.cal.stores = q :: rest ∧ q.slot < 32 ∧ nth s.cal.used q.slot none ≠ some false) ∧
    (∃ (s : State) (q : CalStore) (rest : List CalStore), s.cal.stores = q :: rest ∧ q.slot < 32 ∧ nth s.cal.used q.slot none = some false) ∧
    (∃ (s : State) (q : CalStore) (rest : List CalStore), s.cal.stores = q :: rest ∧ q.slot < 32 ∧ nth s.cal.used q.slot none = some false) ∧
    (∃ (s : State), s.cal.stores = []) ∧
    (∃ (s : State) (path : Path) (slot : Fin 32) (toB : Bool) (r : List Byte) (rest : List (Bool × List Byte)), s.mayWriteRws path R.CAL_CMD 2 ∧ calType slot ≠ 0 ∧ s.calCopies slot = (toB, r) :: rest ∧ calFault slot (calBody slot r) = none) ∧
    (∃ (s : State) (path : Path) (slot : Fin 32) (toB : Bool) (r : List Byte) (q : List Byte) (at1 : Nat), s.mayWriteRws path R.CAL_CMD 2 ∧ calType slot ≠ 0 ∧ s.calCopies slot = [(toB, r), (!toB, q)] ∧ calFault slot (calBody slot r) = some at1 ∧ calFault slot (calBody slot q) = none) ∧
    (∃ (s : State) (path : Path) (slot : Fin 32), s.mayWriteRws path R.CAL_CMD 2 ∧ calType slot ≠ 0 ∧ (∀ p ∈ s.calCopies slot, (calFault slot (calBody slot p.2)).isSome = true)) ∧
    (∃ (s : State) (slot : Fin 32), nth s.cal.target slot none = none) ∧
    (∃ (slot : Fin 32), calType slot = 7) ∧
    (∃ (s : State) (slot : Fin 32) (body : List Byte) (il : List IlEntry), nth s.cal.target slot none = some body ∧ slot.val < 4 ∧ il = (List.range 1024).map (fun e => IlEntry.mk (stepTowards 1 (nth (nth s.cal.il slot []) e ⟨0, 0, 0⟩).ofs (ilEntry body e).ofs) (stepTowards 1 (nth (nth s.cal.il slot []) e ⟨0, 0, 0⟩).gain (ilEntry body e).gain) (stepTowards 1 (nth (nth s.cal.il slot []) e ⟨0, 0, 0⟩).skew (ilEntry body e).skew))) ∧
    (∃ (s : State) (body : List Byte), nth s.cal.target 8 none = some body) ∧
    (∃ (s : State) (slot : Fin 4), (s.on F.CAL_BG.BG_EN = false ∨ (if slot.val < 2 then s.rxState (Carrier.ofIdx (slot.val % 2)) ≠ 9 else s.txState (Carrier.ofIdx (slot.val % 2)) ≠ 2))) ∧
    (∃ (s : State) (slot : Fin 4) (body : List Byte), s.on F.CAL_BG.BG_EN = true ∧ (if slot.val < 2 then s.rxState (Carrier.ofIdx (slot.val % 2)) = 9 else s.txState (Carrier.ofIdx (slot.val % 2)) = 2) ∧ s.shut = false ∧ body.length = 5120 ∧ calFault slot body = none) :=
  ⟨⟨State.reset, .hedge, 15, by decide +kernel⟩,
    ⟨State.reset.set F.CAL_STATUS.STATE 2, .hedge, 31, by decide +kernel⟩,
    ⟨State.reset, .hedge, 31, by decide +kernel⟩,
    ⟨State.reset.set F.GLOBAL_MODE.MODE 6, .hedge, 31, by decide +kernel⟩,
    ⟨(State.reset.onCal fun k => { k with running := 16 }).set F.CAL_STATUS.STATE 1, [0, 0, 0, 0, 32, 0, 0, 0, 0, 0, 60, 0, 0, 0, 0, 0], 16, by decide +kernel⟩,
    ⟨(State.reset.onCal fun k => { k with running := 16 }).set F.CAL_STATUS.STATE 1, List.replicate 16 0, 16, 4, by decide +kernel⟩,
    ⟨State.reset, by decide +kernel⟩,
    ⟨(State.reset.set (F.HOSTLANE_TX_CFG.AMPLITUDE 0) 60), .hedge, 16, by decide +kernel⟩,
    ⟨(State.reset.set (F.HOSTLANE_TX_CFG.AMPLITUDE 0) 20), .hedge, 16, 8, by decide +kernel⟩,
    ⟨(State.reset.onCal fun k => { k with stores := [⟨16, 2, 20, 7, [0, 0, 0, 0, 32, 0, 0, 0, 0, 0, 60, 0, 0, 0, 0, 0]⟩], used := k.used.set 16 (some true) }).set (F.CAL_SEQ.SEQ 16) 0xFFFFFFFF, ⟨16, 2, 20, 7, [0, 0, 0, 0, 32, 0, 0, 0, 0, 0, 60, 0, 0, 0, 0, 0]⟩, [], by decide +kernel⟩,
    ⟨(State.reset.onCal fun k => { k with stores := [⟨16, 2, 20, 7, [0, 0, 0, 0, 32, 0, 0, 0, 0, 0, 60, 0, 0, 0, 0, 0]⟩], used := k.used.set 16 (some false) }).set (F.CAL_SEQ.SEQ 16) 4, ⟨16, 2, 20, 7, [0, 0, 0, 0, 32, 0, 0, 0, 0, 0, 60, 0, 0, 0, 0, 0]⟩, [], by decide +kernel⟩,
    ⟨(State.reset.onCal fun k => { k with stores := [⟨16, 2, 20, 7, []⟩], used := k.used.set 16 (some false) }), ⟨16, 2, 20, 7, []⟩, [], by decide +kernel⟩,
    ⟨State.reset, by decide +kernel⟩,
    ⟨(State.reset.onCal fun k => { k with copyA := k.copyA.set 16 (calRecord 16 5 0 77 20 [0, 0, 0, 0, 32, 0, 0, 0, 0, 0, 60, 0, 0, 0, 0, 0]) }), .hedge, 16, false, (calRecord 16 5 0 77 20 [0, 0, 0, 0, 32, 0, 0, 0, 0, 0, 60, 0, 0, 0, 0, 0]), [], by decide +kernel⟩,
    ⟨(State.reset.onCal fun k => { k with copyA := k.copyA.set 16 (calRecord 16 5 0 77 20 [0, 0, 0, 0, 32, 0, 0, 0, 0, 0, 60, 0, 0, 0, 0, 0]), copyB := k.copyB.set 16 (calRecord 16 6 0 77 20 (List.replicate 16 0)) }), .hedge, 16, true, calRecord 16 6 0 77 20 (List.replicate 16 0), (calRecord 16 5 0 77 20 [0, 0, 0, 0, 32, 0, 0, 0, 0, 0, 60, 0, 0, 0, 0, 0]), 4, by decide +kernel⟩,
    ⟨State.reset, .hedge, 16, by decide +kernel⟩,
    ⟨State.reset, 31, by decide +kernel⟩,
    ⟨31, by decide +kernel⟩,
    ⟨(State.reset.onCal fun k => { k with target := k.target.set 3 (some [1, 2, 0, 3, 0]) }), 3, [1, 2, 0, 3, 0], ⟨1, 1, 1⟩ :: List.replicate 1023 ⟨0, 0, 0⟩, by decide +kernel⟩,
    ⟨(State.reset.onCal fun k => { k with target := k.target.set 8 (some [0, 0x74, 0, 0, 0x81, 0xAA, 0x3F]) }), [0, 0x74, 0, 0, 0x81, 0xAA, 0x3F], by decide +kernel⟩,
    ⟨State.reset, 3, by decide +kernel⟩,
    ⟨State.reset.set (F.LINE_TX_CTRL.TX_STATE .B) 2, 3, List.replicate 5120 0, by decide +kernel, by decide +kernel, by decide +kernel, List.length_replicate, calFault_zeros _ (calSigned_zeros 5120)⟩⟩

/-- Hypotheses of O57 are met. -/
theorem witness_SelfTestFollowsR355ToR363 :
    (∃ (s : State) (report : BistReport) (r : BistRecord), s.bistRuns = true ∧ report.unit.val ∈ s.underTest ∧ report.unit.val ∉ s.bist.judged ∧ s.bist.aon = some r) ∧
    (∃ (s : State) (report : BistReport) (r : BistRecord), s.bistRuns = true ∧ report.unit.val ∈ s.underTest ∧ report.unit.val ∉ s.bist.judged ∧ s.bist.aon = some r ∧ report.bad ≠ []) ∧
    (∃ (s : State) (report : BistReport), (s.bistRuns = false ∨ report.unit.val ∉ s.underTest ∨ report.unit.val ∈ s.bist.judged)) ∧
    (∃ (s : State) (u : Fin 916) (d : Fin 27) (r : BistRecord), s.bistRuns = true ∧ s.bist.aon = some r ∧ s.bist.judged = [] ∧ u.val ∈ s.underTest ∧ 3 ≤ d.val ∧ d.val ≤ 25) ∧
    (∃ (s : State) (report : BistReport) (r : BistRecord), s.bistRuns = true ∧ s.bist.aon = some r ∧ s.bist.judged = [] ∧ report.unit.val ∈ s.underTest ∧ report.bad ≠ []) ∧
    (∃ (s : State), s.bistRuns = false) ∧
    (∃ (s : State), s.get F.BIST_STATUS.STATE ≠ 3) ∧
    (∃ (s : State), s.get F.BIST_STATUS.STATE = 3 ∧ s.power.shutRun = false) ∧
    (∃ (s : State), s.get F.BIST_STATUS.STATE = 3 ∧ s.power.shutRun = true) ∧
    (∃ (s : State) (path : Path) (least : Nat), bistRole s.lifeCycle true = some least ∧ s.mayWriteRws path R.BIST_CTRL least ∧ s.bistRuns = false ∧ s.bist.fusing = none ∧ s.shut = false ∧ s.shutHeld = false) ∧
    (∃ (s : State) (path : Path) (least : Nat), bistRole s.lifeCycle true = some least ∧ s.mayWriteRws path R.BIST_CTRL least ∧ (s.bistRuns = true ∨ s.shut = true)) ∧
    (∃ (s : State) (path : Path) (least : Nat), bistRole s.lifeCycle false = some least ∧ s.mayWriteRws path R.BIST_CTRL least ∧ s.bistRuns = true) ∧
    (∃ (s : State) (path : Path) (least : Nat), bistRole s.lifeCycle false = some least ∧ s.mayWriteRws path R.BIST_CTRL least ∧ s.get F.BIST_STATUS.STATE = 0 ∧ s.bist.fusing = none ∧ s.bist.rowFuses.length < 64) ∧
    (∃ (s : State) (path : Path) (least : Nat), bistRole s.lifeCycle false = some least ∧ s.mayWriteRws path R.BIST_CTRL least ∧ s.bistRuns = false ∧ s.bist.fusing = none ∧ 64 ≤ s.bist.rowFuses.length ∧ s.unfused ≠ []) ∧
    (∃ (s : State) (path : Path) (least : Nat), bistRole s.lifeCycle false = some least ∧ s.mayWriteRws path R.BIST_CTRL least ∧ s.get F.BIST_STATUS.STATE = 0 ∧ s.bist.fusing = none ∧ s.bist.fallowFuses.length < 32) ∧
    (∃ (s : State) (path : Path) (least : Nat) (unit : Fin 1024), bistRole s.lifeCycle false = some least ∧ s.mayWriteRws path R.BIST_CTRL least ∧ s.bist.fusing = none ∧ 32 ≤ s.bist.fallowFuses.length ∧ min 915 unit.val ∉ s.bist.fallowFuses) ∧
    (∃ (s : State) (rows : List (Nat × Nat)) (units : List Nat), s.bist.fusing = some (rows, units) ∧ s.get F.BIST_STATUS.STATE = 4) ∧
    (∃ (s : State), s.bist.fusing = none) ∧
    (∃ (s : State) (path : Path) (least : Nat), bistRole s.lifeCycle true = some least ∧ s.mayWriteRws path R.BIST_CTRL least) ∧
    (∃ (s : State) (path : Path), bistRole s.lifeCycle true = none ∧ s.mayWrite path R.BIST_CTRL) ∧
    (∃ (s : State) (path : Path), bistRole s.lifeCycle false = none ∧ s.mayWrite path R.BIST_CTRL) ∧
    (∃ (s : State) (path : Path), bistRole s.lifeCycle false = none ∧ s.mayWrite path R.BIST_CTRL) ∧
    (∃ (s : State) (path : Path), bistRole s.lifeCycle true = none ∧ s.mayWrite path R.BIST_CTRL) :=
  ⟨⟨(State.reset.onBist fun b => { b with aon := some {} }).set F.BIST_STATUS.STATE 1, ⟨29, 1048575, [], false⟩, {}, by decide +kernel⟩,
    ⟨(State.reset.onBist fun b => { b with aon := some {} }).set F.BIST_STATUS.STATE 1, ⟨29, 1048576, [63], false⟩, {}, by decide +kernel⟩,
    ⟨State.reset, ⟨29, 0, [], false⟩, by decide +kernel⟩,
    ⟨(State.reset.onBist fun b => { b with aon := some {} }).set F.BIST_STATUS.STATE 2 |>.set (F.PWR_VOTE.VOTES 25) 1, 915, 25, {}, by decide +kernel⟩,
    ⟨(State.reset.onBist fun b => { b with aon := some {} }).set F.BIST_STATUS.STATE 2, ⟨29, 262144, [63], false⟩, {}, by decide +kernel⟩,
    ⟨State.reset, by decide +kernel⟩,
    ⟨State.reset, by decide +kernel⟩,
    ⟨(State.reset.onBist fun b => { b with aon := some {} }).set F.BIST_STATUS.STATE 3, by decide +kernel⟩,
    ⟨(State.reset.onBist fun b => { b with aon := some {} }).set F.BIST_STATUS.STATE 3 |>.onPower fun w => { w with shutRun := true }, by decide +kernel⟩,
    ⟨State.reset, .hedge, 4, by decide +kernel⟩,
    ⟨State.reset.set F.BIST_STATUS.STATE 1, .hedge, 4, by decide +kernel⟩,
    ⟨State.reset.set F.BIST_STATUS.STATE 2, .hedge, 4, by decide +kernel⟩,
    ⟨(State.reset.onBist fun b => { b with copyA := some ⟨1, { soft := [(3, 9)] }⟩ }), .hedge, 4, by decide +kernel⟩,
    ⟨(State.reset.onBist fun b => { b with copyA := some ⟨1, { soft := [(3, 9)] }⟩, rowFuses := List.replicate 64 (1, 1) }), .hedge, 4, by decide +kernel⟩,
    ⟨State.reset, .hedge, 4, by decide +kernel⟩,
    ⟨(State.reset.onBist fun b => { b with fallowFuses := List.range 32 }), .hedge, 4, 32, by decide +kernel⟩,
    ⟨(State.reset.onBist fun b => { b with fusing := some ([(3, 9)], []) }).set F.BIST_STATUS.STATE 4, [(3, 9)], [], by decide +kernel⟩,
    ⟨State.reset, by decide +kernel⟩,
    ⟨State.reset.setMark 29 true, .hedge, 4, by decide +kernel⟩,
    ⟨State.reset.set F.SEC_LC.STATE 2, .cxl, by decide +kernel⟩,
    ⟨State.reset.set F.SEC_LC.STATE 2, .cxl, by decide +kernel⟩,
    ⟨State.reset.set F.SEC_LC.STATE 2, .cxl, by decide +kernel⟩,
    ⟨State.reset.set F.SEC_LC.STATE 2, .cxl, by decide +kernel⟩⟩

/-- Hypotheses of O58 are met. -/
theorem witness_FaultsFollowTable184AndR366 :
    (∃ (s : State) (i : Fin 64), s.bistRuns = false ∧ s.hState = 0 ∧ s.get F.FAULT_STATUS.NEXT = i ∧ s.on (F.FAULT_ENTRY_CODE.ACTIVE i) = false ∧ (∀ k : Fin 64, s.on (F.FAULT_ENTRY_CODE.ACTIVE k) = true → s.get (F.FAULT_ENTRY_CODE.CODE k) ≠ 0x0480)) ∧
    (∃ (s : State), s.bistRuns = true) ∧
    (∃ (s : State) (i : Fin 64) (block : Fin 39) (clk : Fin 20), (rowAt (blockBase block)).isSome = true ∧ s.domOn (clockDomain block clk) = true ∧ (block.val = 4 → s.furrowClock = true) ∧ s.get F.FAULT_STATUS.NEXT = i ∧ s.on (F.FAULT_ENTRY_CODE.ACTIVE i) = false ∧ (∀ k : Fin 64, s.on (F.FAULT_ENTRY_CODE.ACTIVE k) = true → s.get (F.FAULT_ENTRY_CODE.CODE k) ≠ (block.val * 256 + 0xF0))) ∧
    (∃ (s : State) (block : Fin 39) (clk : Fin 20), (s.domOn (clockDomain block clk) = false ∨ (block.val = 4 ∧ s.furrowClock = false))) ∧
    (∃ (s : State) (i : Fin 64) (block : Fin 39), (rowAt (blockBase block)).isSome = true ∧ s.get F.FAULT_STATUS.NEXT = i ∧ s.on (F.FAULT_ENTRY_CODE.ACTIVE i) = false ∧ (∀ k : Fin 64, s.on (F.FAULT_ENTRY_CODE.ACTIVE k) = true → s.get (F.FAULT_ENTRY_CODE.CODE k) ≠ (block.val * 256 + 0xF1))) ∧
    (∃ (s : State) (i : Fin 64), s.get F.FAULT_STATUS.NEXT = i ∧ s.on (F.FAULT_ENTRY_CODE.ACTIVE i) = false ∧ (∀ k : Fin 64, s.on (F.FAULT_ENTRY_CODE.ACTIVE k) = true → s.get (F.FAULT_ENTRY_CODE.CODE k) ≠ 0x2501)) ∧
    (∃ (s : State) (i : Fin 64), s.get F.FAULT_STATUS.NEXT = i ∧ s.on (F.FAULT_ENTRY_CODE.ACTIVE i) = false ∧ (∀ k : Fin 64, s.on (F.FAULT_ENTRY_CODE.ACTIVE k) = true → s.get (F.FAULT_ENTRY_CODE.CODE k) ≠ 0x2502)) ∧
    (∃ (s : State) (i : Fin 64), s.detectedActive = false ∧ s.faultTest = false ∧ s.get F.FAULT_STATUS.NEXT = i ∧ s.on (F.FAULT_ENTRY_CODE.ACTIVE i) = false ∧ (∀ k : Fin 64, s.on (F.FAULT_ENTRY_CODE.ACTIVE k) = true → s.get (F.FAULT_ENTRY_CODE.CODE k) ≠ 0x2502)) ∧
    (∃ (s : State) (i : Fin 64), s.get F.FAULT_STATUS.NEXT = i ∧ s.on (F.FAULT_ENTRY_CODE.ACTIVE i) = false ∧ (∀ k : Fin 64, s.on (F.FAULT_ENTRY_CODE.ACTIVE k) = true → s.get (F.FAULT_ENTRY_CODE.CODE k) ≠ 0x2503)) ∧
    (∃ (s : State) (i : Fin 64), s.detectedActive = false ∧ s.faultTest = false ∧ s.get F.FAULT_STATUS.NEXT = i ∧ s.on (F.FAULT_ENTRY_CODE.ACTIVE i) = false ∧ (∀ k : Fin 64, s.on (F.FAULT_ENTRY_CODE.ACTIVE k) = true → s.get (F.FAULT_ENTRY_CODE.CODE k) ≠ 0x2504)) ∧
    (∃ (s : State) (i : Fin 64), s.on (F.FAULT_ENTRY_CODE.ACTIVE i) = true ∧ s.get (F.FAULT_ENTRY_CODE.CODE i) = 0x2503 ∧ (∀ k : Fin 64, k.val < i.val → s.get (F.FAULT_ENTRY_CODE.CODE k) ≠ 0x2503)) ∧
    (∃ (s : State), (∀ k : Fin 64, s.on (F.FAULT_ENTRY_CODE.ACTIVE k) = true ∧ s.get (F.FAULT_ENTRY_CODE.CODE k) ≠ 0x2503)) ∧
    (∃ (s : State) (i : Fin 64), s.isDown R.FAULT_CTRL = false ∧ s.causePersists i = false) ∧
    (∃ (s : State) (i : Fin 64), s.isDown R.FAULT_CTRL = false ∧ s.causePersists i = true) ∧
    (∃ (s : State) (path : Path), s.mayWriteRws path R.FAULT_CTRL 2) ∧
    (∃ (s : State), s.detectedActive = false) ∧
    (∃ (s : State), s.detectedActive = true) :=
  ⟨⟨State.reset.set F.FAULT_STATUS.NEXT 63, 63, by decide +kernel⟩,
    ⟨State.reset.set F.BIST_STATUS.STATE 2, by decide +kernel⟩,
    ⟨State.reset.set F.FAULT_STATUS.NEXT 63, 63, 0x1E, 0, by decide +kernel⟩,
    ⟨State.reset, 0x12, 0, by decide +kernel⟩,
    ⟨State.reset.set F.FAULT_STATUS.NEXT 63, 63, 0x12, by decide +kernel⟩,
    ⟨State.reset.set F.FAULT_STATUS.NEXT 63, 63, by decide +kernel⟩,
    ⟨State.reset.set F.FAULT_STATUS.NEXT 63, 63, by decide +kernel⟩,
    ⟨State.reset.set F.FAULT_STATUS.NEXT 63, 63, by decide +kernel⟩,
    ⟨State.reset.set F.FAULT_STATUS.NEXT 63, 63, by decide +kernel⟩,
    ⟨State.reset.set F.FAULT_STATUS.NEXT 63, 63, by decide +kernel⟩,
    ⟨State.reset.wr (R.FAULT_ENTRY_CODE 5) 0xFF0C2503, 5, by decide +kernel⟩,
    ⟨((List.range 64).foldl (fun s i => s.wr (R.FAULT_ENTRY_CODE i) (BitVec.ofNat 32 (0x10C0400 + i))) State.reset), by decide +kernel⟩,
    ⟨State.reset.wr (R.FAULT_ENTRY_CODE 5) 0x10C2503, 5, by decide +kernel⟩,
    ⟨{ (State.reset.wr (R.FAULT_ENTRY_CODE 5) 0x10C12F0) with stoppedClocks := [(0x12, 0)] }, 5, by decide +kernel⟩,
    ⟨State.reset, .hedge, by decide +kernel⟩,
    ⟨{ (State.reset.set F.FAULT_STATUS.ASSERTED 1) with faultTest := true }, by decide +kernel⟩,
    ⟨State.reset.wr (R.FAULT_ENTRY_CODE 5) 0x10C2503, by decide +kernel⟩⟩

/-- Hypotheses of O59 are met. -/
theorem witness_PinsFollowR380R383R384 :
    (∃ (first : Int) (temp : Int), (first ≤ 115 ∨ temp ≤ 115)) ∧
    (∃ (s : State) (first : Int) (temp : Int), 115 < first ∧ 115 < temp ∧ s.on F.PINS_THERM.TRIPPED = false ∧ s.shut = false ∧ s.shutHeld = false) ∧
    (∃ (s : State) (first : Int) (temp : Int) (i : Fin 64), 115 < first ∧ 115 < temp ∧ s.on F.PINS_THERM.TRIPPED = false ∧ s.shut = false ∧ s.shutHeld = true ∧ s.get F.FAULT_STATUS.NEXT = i ∧ s.on (F.FAULT_ENTRY_CODE.ACTIVE i) = false ∧ (∀ k : Fin 64, s.on (F.FAULT_ENTRY_CODE.ACTIVE k) = true → s.get (F.FAULT_ENTRY_CODE.CODE k) ≠ 0x2601)) ∧
    (∃ (s : State) (first : Int) (temp : Int), 115 < first ∧ 115 < temp ∧ s.on F.PINS_THERM.TRIPPED = true) ∧
    (∃ (s : State) (q : Fin 15) (high : Bool) (width : Nat), s.on (F.PINS_QUAL_STATUS.MASKED q) = false ∧ s.on (F.PINS_QUAL_STATUS.QUALIFIED q) = false ∧ high ≠ s.on (F.PINS_QUAL_CFG.ACTIVE_LOW q) ∧ width < s.get (F.PINS_QUAL_CFG.MIN_WIDTH q)) ∧
    (∃ (s : State) (q : Fin 15) (high : Bool) (width : Nat), s.on (F.PINS_QUAL_STATUS.MASKED q) = false ∧ s.on (F.PINS_QUAL_STATUS.QUALIFIED q) = false ∧ high ≠ s.on (F.PINS_QUAL_CFG.ACTIVE_LOW q) ∧ s.get (F.PINS_QUAL_CFG.MIN_WIDTH q) ≤ width ∧ (s.qual q).gap = false ∧ 5 ≤ q.val ∧ (q.val < 7 ∨ s.on ⟨R.PINS_GPIO_CTRL, 9 + q.val, 9 + q.val⟩ = false) ∧ q.val < s.quals.length) ∧
    (∃ (s : State) (high : Bool) (width : Nat) (d : Nat), s.on (F.PINS_QUAL_STATUS.MASKED 0) = false ∧ s.on (F.PINS_QUAL_STATUS.QUALIFIED 0) = false ∧ high ≠ s.on (F.PINS_QUAL_CFG.ACTIVE_LOW 0) ∧ s.get (F.PINS_QUAL_CFG.MIN_WIDTH 0) ≤ width ∧ (s.qual 0).gap = false ∧ s.on (F.PWR_WAKE_MAP.EN 0) = true ∧ d = s.get (F.PWR_WAKE_MAP.DOMAIN 0) ∧ 3 ≤ d ∧ d ≤ 25 ∧ s.domState d ≤ 2 ∧ s.on (F.PWR_DOM_STATUS.FAILED d) = false ∧ s.on F.PWR_STATUS.HALTED = false ∧ s.on ⟨R.PWR_WAKE_LATCH, 0, 0⟩ = false) ∧
    (∃ (s : State) (q : Fin 15) (high : Bool) (width : Nat), s.on (F.PINS_QUAL_STATUS.MASKED q) = false ∧ s.on (F.PINS_QUAL_STATUS.QUALIFIED q) = false ∧ high ≠ s.on (F.PINS_QUAL_CFG.ACTIVE_LOW q) ∧ s.get (F.PINS_QUAL_CFG.MIN_WIDTH q) ≤ width ∧ (s.qual q).gap = true) ∧
    (∃ (s : State) (q : Fin 15), s.on (F.PINS_QUAL_STATUS.MASKED q) = true) ∧
    (∃ (s : State) (q : Fin 15), (s.qual q).gap = true ∧ (s.qual q).delivered = true ∧ s.on (F.PINS_QUAL_STATUS.QUALIFIED q) = false ∧ s.on (F.PINS_QUAL_STATUS.MASKED q) = false ∧ q.val < s.quals.length) ∧
    (∃ (s : State) (q : Fin 15), (s.qual q).gap = true ∧ (s.qual q).delivered = s.on (F.PINS_QUAL_STATUS.QUALIFIED q) ∧ q.val < s.quals.length) ∧
    (∃ (s : State) (q : Fin 15), (s.qual q).gap = false) ∧
    (∃ (s : State) (q : Fin 15), s.get (F.PINS_QUAL_CFG.STUCK_LIMIT q) ≠ 0 ∧ s.on (F.PINS_QUAL_STATUS.QUALIFIED q) = true ∧ s.on (F.PINS_QUAL_STATUS.MASKED q) = false) ∧
    (∃ (s : State) (q : Fin 15), (s.get (F.PINS_QUAL_CFG.STUCK_LIMIT q) = 0 ∨ s.on (F.PINS_QUAL_STATUS.QUALIFIED q) = false ∨ s.on (F.PINS_QUAL_STATUS.MASKED q) = true)) ∧
    (∃ (s : State) (q : Fin 15), s.on (F.PINS_QUAL_STATUS.MASKED q) = true ∧ q.val < s.quals.length) :=
  ⟨⟨116, -5, by decide +kernel⟩,
    ⟨State.reset, 116, 116, by decide +kernel⟩,
    ⟨((State.reset.set F.FAULT_STATUS.NEXT 63).set (F.PWR_DOM_STATUS.STATE 25) 4), 116, 116, 63, by decide +kernel⟩,
    ⟨State.reset.set F.PINS_THERM.TRIPPED 1, 116, 116, by decide +kernel⟩,
    ⟨State.reset, 14, true, 7, by decide +kernel⟩,
    ⟨State.reset, 14, true, 8, by decide +kernel⟩,
    ⟨State.reset, false, 80, 3, by decide +kernel⟩,
    ⟨{ State.reset with quals := List.replicate 15 { delivered := false, gap := true } }, 1, false, 80, by decide +kernel⟩,
    ⟨((State.reset.set (F.PINS_QUAL_STATUS.QUALIFIED 1) 1).set (F.PINS_QUAL_STATUS.MASKED 1) 1), 1, by decide +kernel⟩,
    ⟨{ State.reset with quals := List.replicate 15 { delivered := true, gap := true } }, 1, by decide +kernel⟩,
    ⟨{ State.reset with quals := List.replicate 15 { delivered := false, gap := true } }, 1, by decide +kernel⟩,
    ⟨State.reset, 1, by decide +kernel⟩,
    ⟨((State.reset.set (F.PINS_QUAL_STATUS.QUALIFIED 1) 1)), 1, by decide +kernel⟩,
    ⟨State.reset, 5, by decide +kernel⟩,
    ⟨((State.reset.set (F.PINS_QUAL_STATUS.QUALIFIED 1) 1).set (F.PINS_QUAL_STATUS.MASKED 1) 1), 1, by decide +kernel⟩⟩

/-- Hypotheses of O60 are met. -/
theorem witness_CoefficientsAndQueuesFollowR228AndR233 :
    (∃ (s : State) (path : Path) (pair : Fin 128), s.mayWrite path (R.HKADC_CAL_G pair)) ∧
    (∃ (s : State) (path : Path), s.mayWrite path R.HKADC_INJ_CTRL ∧ s.ana.adc.requests = [] ∧ s.ana.adc.current = none ∧ s.calState = 0) ∧
    (∃ (s : State) (ch : Fin 20), (s.dac ch).change = none ∧ s.heldSafe ch = false ∧ s.on (F.PDAC_CH_CFG.SINE_EN ch) = false ∧ ch.val < s.ana.pdac.length ∧ s.get (F.PDAC_CH_CFG.SOURCE ch) = 1 ∧ (s.dac ch).queue = []) ∧
    (∃ (s : State) (ch : Fin 20) (c : Nat) (rest : List Nat), (s.dac ch).change = none ∧ s.heldSafe ch = false ∧ s.on (F.PDAC_CH_CFG.SINE_EN ch) = false ∧ ch.val < s.ana.pdac.length ∧ s.get (F.PDAC_CH_CFG.SOURCE ch) = 1 ∧ (s.dac ch).queue = c :: rest) ∧
    (∃ (s : State) (path : Path) (ch : Fin 20), s.mayWrite path (R.PDAC_CH_QUEUE ch) ∧ 16 ≤ (s.dac ch).queue.length) ∧
    (∃ (s : State) (path : Path) (ch : Fin 20) (value : Word), s.mayWrite path (R.PDAC_CH_CFG ch) ∧ s.get (F.PDAC_CH_CFG.SPAN ch) = min 2 (bitsOf value 9 8)) ∧
    (∃ (s : State) (ch : Fin 20), (s.dac ch).change = none ∧ s.heldSafe ch = false ∧ s.on (F.PDAC_CH_CFG.SINE_EN ch) = false ∧ ch.val < s.ana.pdac.length ∧ s.get (F.PDAC_CH_CFG.SOURCE ch) = 0) ∧
    (∃ (s : State) (ch : Fin 20) (u : Nat), (s.dac ch).change = none ∧ s.heldSafe ch = false ∧ s.on (F.PDAC_CH_CFG.SINE_EN ch) = false ∧ ch.val < s.ana.pdac.length ∧ s.get (F.PDAC_CH_CFG.SOURCE ch) = 2 ∧ (s.dac ch).loopCode = some u) ∧
    (∃ (s : State) (ch : Fin 20), (s.dac ch).change = none ∧ s.heldSafe ch = false ∧ s.on (F.PDAC_CH_CFG.SINE_EN ch) = false ∧ ch.val < s.ana.pdac.length ∧ s.get (F.PDAC_CH_CFG.SOURCE ch) = 2 ∧ (s.dac ch).loopCode = none) :=
  ⟨⟨State.reset, .cxl, 127, by decide +kernel⟩,
    ⟨State.reset, .cxl, by decide +kernel⟩,
    ⟨((State.reset.set (F.PDAC_CH_CFG.SOURCE 7) 1).onDac 7 fun d => { d with last := 77 }), 7, by decide +kernel⟩,
    ⟨((State.reset.set (F.PDAC_CH_CFG.SOURCE 7) 1).onDac 7 fun d => { d with queue := [5, 6] }), 7, 5, [6], by decide +kernel⟩,
    ⟨((State.reset.set (F.PDAC_CH_CFG.SOURCE 7) 1).onDac 7 fun d => { d with queue := List.replicate 16 9 }), .cxl, 7, by decide +kernel⟩,
    ⟨((State.reset.set (F.PDAC_CH_CFG.SOURCE 7) 1).onDac 7 fun d => { d with queue := [5] }), .cxl, 7, 3, by decide +kernel⟩,
    ⟨((State.reset.set (F.PDAC_CH_CFG.SOURCE 7) 0).onDac 7 fun d => { d with queue := [5] }), 7, by decide +kernel⟩,
    ⟨((State.reset.set (F.PDAC_CH_CFG.SOURCE 7) 2).onDac 7 fun d => { d with queue := [5], loopCode := some 9 }), 7, 9, by decide +kernel⟩,
    ⟨((State.reset.set (F.PDAC_CH_CFG.SOURCE 7) 2).onDac 7 fun d => { d with queue := [5], last := 77 }), 7, by decide +kernel⟩⟩

end Sys2Proof.Tests
end

section
/-!
SUPPORT. What one step keeps, whatever its command: the laws of Kept of each meaning, put together for `exec` and for `step`.
-/
namespace Sys2Proof.Machine
open Sys2Proof

/-- Nothing has happened yet: a state keeps what it has. -/
theorem Kept.refl (still : Prop) (s : State) : Kept still s s :=
  ⟨rfl, id, ⟨fun _ h => h, fun _ => Nat.le_refl _, fun _ h => h, fun _ h => h⟩, fun _ => rfl⟩

/-- What is kept under a condition is kept, but for the memories' words, under none. -/
theorem Kept.toFalse {still : Prop} {s0 s : State} (h : Kept still s0 s) : Kept False s0 s :=
  ⟨h.queue, h.canon, h.otp, False.elim⟩

/-- Where the condition cannot hold, nothing is asked of the memories' words. -/
theorem KeptO.ofFalse {still : Prop} {s0 : State} {o : Host.Outcome State Fault Refusal} (hs : ¬ still) (h : KeptO False s0 o) :
    KeptO still s0 o :=
  ⟨fun t e => by
    have k := h.next_kept t e
    exact ⟨k.queue, k.canon, k.otp, fun x => absurd x hs⟩⟩

/-- Every command keeps the queue, the canonical stores and the burnt bits; one that is no memory command (`writesMemory`) keeps the
memories' words too. -/
theorem exec_kept {still : Prop} {s0 s : State} (c : Instr) (hc : still → writesMemory c = false) (h : Kept still s0 s) :
    KeptO still s0 (exec c s) := by
  cases c with
  | registerWrite => exact .ofFalse (fun x => nomatch hc x) (execRegisterWrite_kept h.toFalse ..)
  | narrowWrite => exact execNarrowWrite_kept h ..
  | rcRead => exact .ofFalse (fun x => nomatch hc x) (execRcRead_kept h.toFalse ..)
  | wideLowRead => exact .ofFalse (fun x => nomatch hc x) (execWideLowRead_kept h.toFalse ..)
  | wideLowerWrite => exact .ofFalse (fun x => nomatch hc x) (execWideLowerWrite_kept h.toFalse ..)
  | wideUpperWrite => exact .ofFalse (fun x => nomatch hc x) (execWideUpperWrite_kept h.toFalse ..)
  | intSetWrite => exact .ofFalse (fun x => nomatch hc x) (execIntSetWrite_kept h.toFalse ..)
  | intStatusWrite => exact .ofFalse (fun x => nomatch hc x) (execIntStatusWrite_kept h.toFalse ..)
  | downRegisterAccess => exact .ofFalse (fun x => nomatch hc x) (execDownRegisterAccess_kept h.toFalse ..)
  | loadWindow => exact execLoadWindow_kept h ..
  | loadSlot => exact execLoadSlot_kept h ..
  | planChunk => exact execPlanChunk_kept h ..
  | validate => exact execValidate_kept h ..
  | applyCold => exact execApplyCold_kept h ..
  | prepareHitless => exact execPrepareHitless_kept h ..
  | cancel => exact execCancel_kept h ..
  | storeSlot => exact execStoreSlot_kept h ..
  | loadDone => exact execLoadDone_kept h ..
  | loadSourceError => exact execLoadSourceError_kept h ..
  | validationComplete => exact execValidationComplete_kept h ..
  | coldApplyStage => exact execColdApplyStage_kept h ..
  | coldApplyComplete => exact execColdApplyComplete_kept h ..
  | storeSlotDone => exact execStoreSlotDone_kept h ..
  | buildReady => exact execBuildReady_kept h ..
  | buildTimeout => exact execBuildTimeout_kept h ..
  | buildFault => exact execBuildFault_kept h ..
  | switchAbortDeadline => exact execSwitchAbortDeadline_kept h ..
  | switchStart => exact execSwitchStart_kept h ..
  | rxSelectorSwitch => exact execRxSelectorSwitch_kept h ..
  | switchDone => exact execSwitchDone_kept h ..
  | rxFramePeriod => exact execRxFramePeriod_kept h ..
  | losAssert => exact execLosAssert_kept h ..
  | losClear => exact execLosClear_kept h ..
  | rxQueueOvf => exact execRxQueueOvf_kept h ..
  | swap => exact execSwap_kept h ..
  | nlcExchange => exact execNlcExchange_kept h ..
  | nlcEvalEnd => exact execNlcEvalEnd_kept h ..
  | nlcShadowWrite => exact execNlcShadowWrite_kept h ..
  | tapSnapshot => exact execTapSnapshot_kept h ..
  | tapLoad => exact execTapLoad_kept h ..
  | tapDone => exact execTapDone_kept h ..
  | restart => exact execRestart_kept h ..
  | agcSettled => exact execAgcSettled_kept h ..
  | cdSearchComplete => exact execCdSearchComplete_kept h ..
  | clockLocked => exact execClockLocked_kept h ..
  | freqStable => exact execFreqStable_kept h ..
  | cmaConverged => exact execCmaConverged_kept h ..
  | pilotsFound => exact execPilotsFound_kept h ..
  | snrStable => exact execSnrStable_kept h ..
  | acqLimit => exact execAcqLimit_kept h ..
  | pilotLockLost => exact execPilotLockLost_kept h ..
  | clockLockLost => exact execClockLockLost_kept h ..
  | cycleSlip => exact execCycleSlip_kept h ..
  | estIntervalEnd => exact execEstIntervalEnd_kept h ..
  | groupConverged => exact execGroupConverged_kept h ..
  | mute => exact execMute_kept h ..
  | unmute => exact execUnmute_kept h ..
  | txRampEnd => exact execTxRampEnd_kept h ..
  | txQueueUnf => exact execTxQueueUnf_kept h ..
  | respLoad => exact execRespLoad_kept h ..
  | respLoaded => exact execRespLoaded_kept h ..
  | gradualControlStep => exact execGradualControlStep_kept h ..
  | txFramePeriod => exact execTxFramePeriod_kept h ..
  | entropyTargetWrite => exact execEntropyTargetWrite_kept h ..
  | stepArm => exact execStepArm_kept h ..
  | stepCancel => exact execStepCancel_kept h ..
  | entropyStep => exact execEntropyStep_kept h ..
  | lineFrameSend => exact execLineFrameSend_kept h ..
  | txMultiframeStart => exact .ofFalse (fun x => nomatch hc x) (execTxMultiframeStart_kept h.toFalse ..)
  | adopt => exact execAdopt_kept h ..
  | fawMatch => exact execFawMatch_kept h ..
  | fawMiss => exact execFawMiss_kept h ..
  | resync => exact execResync_kept h ..
  | overheadReceived => exact execOverheadReceived_kept h ..
  | mccCellReceived => exact execMccCellReceived_kept h ..
  | rxStepArm => exact execRxStepArm_kept h ..
  | rxStepDeadline => exact execRxStepDeadline_kept h ..
  | rxStepSwitch => exact execRxStepSwitch_kept h ..
  | fecBlockDecoded => exact execFecBlockDecoded_kept h ..
  | engineResidueFail => exact execEngineResidueFail_kept h ..
  | fecSnapshot => exact execFecSnapshot_kept h ..
  | fecSnapshotCopy => exact execFecSnapshotCopy_kept h ..
  | rxMultiframeEnd => exact .ofFalse (fun x => nomatch hc x) (execRxMultiframeEnd_kept h.toFalse ..)
  | locked => exact execLocked_kept h ..
  | capsReceived => exact execCapsReceived_kept h ..
  | capsAckReceived => exact execCapsAckReceived_kept h ..
  | requestRetry => exact execRequestRetry_kept h ..
  | alignComplete => exact execAlignComplete_kept h ..
  | alignTimeout => exact execAlignTimeout_kept h ..
  | lossHoldExpired => exact execLossHoldExpired_kept h ..
  | backoffExpired => exact execBackoffExpired_kept h ..
  | incompatibleRetry => exact execIncompatibleRetry_kept h ..
  | renegotiate => exact execRenegotiate_kept h ..
  | takeE => exact execTakeE_kept h ..
  | takeEApply => exact execTakeEApply_kept h ..
  | beaconTimer => exact execBeaconTimer_kept h ..
  | beaconReceived => exact execBeaconReceived_kept h ..
  | queryReceived => exact execQueryReceived_kept h ..
  | linkDownReceived => exact execLinkDownReceived_kept h ..
  | neighbourExpired => exact execNeighbourExpired_kept h ..
  | proposeReceived => exact execProposeReceived_kept h ..
  | acceptReceived => exact execAcceptReceived_kept h ..
  | commitLeftQueue => exact execCommitLeftQueue_kept h ..
  | commitReceived => exact execCommitReceived_kept h ..
  | withdrawReceived => exact execWithdrawReceived_kept h ..
  | nakReceived => exact execNakReceived_kept h ..
  | proposalDeadline => exact execProposalDeadline_kept h ..
  | acceptedDeadline => exact execAcceptedDeadline_kept h ..
  | signalDetect => exact execSignalDetect_kept h ..
  | partnerFrameMarkers => exact execPartnerFrameMarkers_kept h ..
  | cdrConverged => exact execCdrConverged_kept h ..
  | detectLimitExpired => exact execDetectLimitExpired_kept h ..
  | trainingDone => exact execTrainingDone_kept h ..
  | trainLimitExpired => exact execTrainLimitExpired_kept h ..
  | signalLost => exact execSignalLost_kept h ..
  | idleLimitExpired => exact execIdleLimitExpired_kept h ..
  | wakeBurst => exact execWakeBurst_kept h ..
  | overlongBurst => exact execOverlongBurst_kept h ..
  | retrain => exact execRetrain_kept h ..
  | failedWaitExpired => exact execFailedWaitExpired_kept h ..
  | holdoffExpired => exact execHoldoffExpired_kept h ..
  | txIdleSet => exact execTxIdleSet_kept h ..
  | txIdleClear => exact execTxIdleClear_kept h ..
  | quadUnlock => exact execQuadUnlock_kept h ..
  | quadRelock => exact execQuadRelock_kept h ..
  | partnerCoeffRequest => exact execPartnerCoeffRequest_kept h ..
  | txFfeWrite => exact execTxFfeWrite_kept h ..
  | precodeWrite => exact execPrecodeWrite_kept h ..
  | checkerLock => exact execCheckerLock_kept h ..
  | chkLockLost => exact execChkLockLost_kept h ..
  | chkSnapshot => exact execChkSnapshot_kept h ..
  | chkSnapshotCopy => exact execChkSnapshotCopy_kept h ..
  | injSingle => exact execInjSingle_kept h ..
  | injBurst => exact execInjBurst_kept h ..
  | injBurstEnd => exact execInjBurstEnd_kept h ..
  | injRateStart => exact execInjRateStart_kept h ..
  | injRateInterval => exact execInjRateInterval_kept h ..
  | injStop => exact execInjStop_kept h ..
  | eyePublish => exact execEyePublish_kept h ..
  | loopNearWrite => exact execLoopNearWrite_kept h ..
  | pcsAligned => exact execPcsAligned_kept h ..
  | clientAlignTimeout => exact execClientAlignTimeout_kept h ..
  | hiSer => exact execHiSer_kept h ..
  | markerLockLost => exact execMarkerLockLost_kept h ..
  | clientFrameIngress => exact execClientFrameIngress_kept h ..
  | orderedSetIngress => exact execOrderedSetIngress_kept h ..
  | orderedSetRepeat => exact execOrderedSetRepeat_kept h ..
  | lpiReceived => exact execLpiReceived_kept h ..
  | recordReceived => exact execRecordReceived_kept h ..
  | orderedSetTimeout => exact execOrderedSetTimeout_kept h ..
  | segmentComplete => exact execSegmentComplete_kept h ..
  | wtrExpired => exact execWtrExpired_kept h ..
  | forceSelWrite => exact execForceSelWrite_kept h ..
  | loopWrite => exact execLoopWrite_kept h ..
  | clientSnapshot => exact execClientSnapshot_kept h ..
  | clientSnapshotCopy => exact execClientSnapshotCopy_kept h ..
  | timeSetCommit => exact execTimeSetCommit_kept h ..
  | invalidate => exact execInvalidate_kept h ..
  | timeAdjCommit => exact execTimeAdjCommit_kept h ..
  | slewComplete => exact execSlewComplete_kept h ..
  | refLost => exact execRefLost_kept h ..
  | refRestored => exact execRefRestored_kept h ..
  | servoMeasurement => exact execServoMeasurement_kept h ..
  | ttMeasurement => exact execTtMeasurement_kept h ..
  | ttSetTimeout => exact execTtSetTimeout_kept h ..
  | tpArm => exact execTpArm_kept h ..
  | tpStop => exact execTpStop_kept h ..
  | tpEdge => exact execTpEdge_kept h ..
  | captureEdge => exact execCaptureEdge_kept h ..
  | captureRead => exact execCaptureRead_kept h ..
  | go => exact execGo_kept h ..
  | abort => exact execAbort_kept h ..
  | txPacketEnd => exact execTxPacketEnd_kept h ..
  | sync => exact execSync_kept h ..
  | syncN => exact execSyncN_kept h ..
  | adcbSamplesReturn => exact execAdcbSamplesReturn_kept h ..
  | chainSettled => exact execChainSettled_kept h ..
  | detectorWindowEnd => exact execDetectorWindowEnd_kept h ..
  | primaryDetection => exact execPrimaryDetection_kept h ..
  | newPreamble => exact execNewPreamble_kept h ..
  | syncWordMatch => exact execSyncWordMatch_kept h ..
  | syncWindowEnd => exact execSyncWindowEnd_kept h ..
  | lengthByte => exact execLengthByte_kept h ..
  | lastCrcBit => exact execLastCrcBit_kept h ..
  | pop => exact execPop_kept h ..
  | adcFrameStart => exact execAdcFrameStart_kept h ..
  | seqStart => exact execSeqStart_kept h ..
  | conversionComplete => exact execConversionComplete_kept h ..
  | injGo => exact execInjGo_kept h ..
  | calZero => exact execCalZero_kept h ..
  | calFull => exact execCalFull_kept h ..
  | calCancel => exact execCalCancel_kept h ..
  | calStepComplete => exact execCalStepComplete_kept h ..
  | calZeroTimeout => exact execCalZeroTimeout_kept h ..
  | calGWrite => exact execCalGWrite_kept h ..
  | diag => exact execDiag_kept h ..
  | diagComplete => exact execDiagComplete_kept h ..
  | pdacUpdate => exact execPdacUpdate_kept h ..
  | pdacQueuePush => exact execPdacQueuePush_kept h ..
  | spanWrite => exact execSpanWrite_kept h ..
  | spanDone => exact execSpanDone_kept h ..
  | overTemp => exact execOverTemp_kept h ..
  | otClear => exact execOtClear_kept h ..
  | latchedClear => exact execLatchedClear_kept h ..
  | engineFrameStart => exact execEngineFrameStart_kept h ..
  | loopUpdate => exact execLoopUpdate_kept h ..
  | loopModeWrite => exact execLoopModeWrite_kept h ..
  | loopReclose => exact execLoopReclose_kept h ..
  | loopRegisterWrite => exact execLoopRegisterWrite_kept h ..
  | traceRun => exact execTraceRun_kept h ..
  | traceStop => exact execTraceStop_kept h ..
  | memoryRead => exact .ofFalse (fun x => nomatch hc x) (execMemoryRead_kept h.toFalse ..)
  | memoryPartialWrite => exact .ofFalse (fun x => nomatch hc x) (execMemoryPartialWrite_kept h.toFalse ..)
  | memoryFullWrite => exact .ofFalse (fun x => nomatch hc x) (execMemoryFullWrite_kept h.toFalse ..)
  | flipArm => exact execFlipArm_kept h ..
  | harrowStep => exact .ofFalse (fun x => nomatch hc x) (execHarrowStep_kept h.toFalse ..)
  | bucketLeak => exact execBucketLeak_kept h ..
  | memoryInitDone => exact .ofFalse (fun x => nomatch hc x) (execMemoryInitDone_kept h.toFalse ..)
  | cxlPerstDeassert => exact execCxlPerstDeassert_kept h ..
  | cxlL0Reached => exact execCxlL0Reached_kept h ..
  | cxlTrainingTimeout => exact execCxlTrainingTimeout_kept h ..
  | cxlLinkRecovery => exact execCxlLinkRecovery_kept h ..
  | cxlLinkDown => exact execCxlLinkDown_kept h ..
  | cxlPerstAssert => exact execCxlPerstAssert_kept h ..
  | cxlHotReset => exact execCxlHotReset_kept h ..
  | cxlRefLost => exact execCxlRefLost_kept h ..
  | cxlRetrain => exact execCxlRetrain_kept h ..
  | grant => exact execGrant_kept h ..
  | revoke => exact execRevoke_kept h ..
  | writeBackComplete => exact execWriteBackComplete_kept h ..
  | writeBackTimeout => exact execWriteBackTimeout_kept h ..
  | windowRequestTimeout => exact execWindowRequestTimeout_kept h ..
  | windowHostError => exact execWindowHostError_kept h ..
  | hostSnoop => exact execHostSnoop_kept h ..
  | mbxGo => exact execMbxGo_kept h ..
  | mbxCommandDone => exact execMbxCommandDone_kept h ..
  | mbxNotifyHeadWrite => exact execMbxNotifyHeadWrite_kept h ..
  | msixEnable => exact execMsixEnable_kept h ..
  | por => exact .ofFalse (fun x => nomatch hc x) (execPor_kept h.toFalse ..)
  | resetN => exact .ofFalse (fun x => nomatch hc x) (execResetN_kept h.toFalse ..)
  | warmReset => exact .ofFalse (fun x => nomatch hc x) (execWarmReset_kept h.toFalse ..)
  | hello => exact execHello_kept h ..
  | prove => exact execProve_kept h ..
  | endSession => exact execEndSession_kept h ..
  | setRoleKey => exact execSetRoleKey_kept h ..
  | lcChange => exact execLcChange_kept h ..
  | regRead => exact .ofFalse (fun x => nomatch hc x) (execRegRead_kept h.toFalse ..)
  | regWrite => exact .ofFalse (fun x => nomatch hc x) (execRegWrite_kept h.toFalse ..)
  | fwChunk => exact execFwChunk_kept h ..
  | fwLoadWindow => exact execFwLoadWindow_kept h ..
  | fwVerify => exact execFwVerify_kept h ..
  | fwVerifyDone => exact execFwVerifyDone_kept h ..
  | fwActivate => exact execFwActivate_kept h ..
  | fwCommit => exact execFwCommit_kept h ..
  | keyInstall => exact execKeyInstall_kept h ..
  | keyRevoke => exact execKeyRevoke_kept h ..
  | taskInstall => exact execTaskInstall_kept h ..
  | taskRemove => exact execTaskRemove_kept h ..
  | stepRequest => exact execStepRequest_kept h ..
  | mgrRenegotiate => exact execMgrRenegotiate_kept h ..
  | hlSend => exact execHlSend_kept h ..
  | replanSwitch => exact execReplanSwitch_kept h ..
  | unknownClass => exact execUnknownClass_kept h ..
  | sessionIdleTimeout => exact execSessionIdleTimeout_kept h ..
  | lockoutExpired => exact execLockoutExpired_kept h ..
  | trialExpired => exact execTrialExpired_kept h ..
  | readyTimeout => exact execReadyTimeout_kept h ..
  | ploughReady => exact execPloughReady_kept h ..
  | heartbeat core => exact execHeartbeat_kept h core
  | ploughWatchdog => exact execPloughWatchdog_kept h ..
  | hedgeWatchdog => exact execHedgeWatchdog_kept h ..
  | ploughRestart => exact execPloughRestart_kept h ..
  | taskBudgetExceeded => exact execTaskBudgetExceeded_kept h ..
  | taskException => exact execTaskException_kept h ..
  | i3cPrivateWrite => exact execI3cPrivateWrite_kept h ..
  | i3cPrivateRead => exact execI3cPrivateRead_kept h ..
  | i3cAddressAssign => exact execI3cAddressAssign_kept h ..
  | hotJoinTimer => exact execHotJoinTimer_kept h ..
  | cpuSwintSet => exact execCpuSwintSet_kept h ..
  | unitArm => exact execUnitArm_kept h ..
  | unitStop => exact .ofFalse (fun x => nomatch hc x) (execUnitStop_kept h.toFalse ..)
  | unitForce => exact .ofFalse (fun x => nomatch hc x) (execUnitForce_kept h.toFalse ..)
  | gleanArmEdge => exact execGleanArmEdge_kept h ..
  | gleanFireNEdge => exact .ofFalse (fun x => nomatch hc x) (execGleanFireNEdge_kept h.toFalse ..)
  | sequencerTrigger => exact .ofFalse (fun x => nomatch hc x) (execSequencerTrigger_kept h.toFalse ..)
  | captureComplete => exact .ofFalse (fun x => nomatch hc x) (execCaptureComplete_kept h.toFalse ..)
  | spillRecordWritten => exact .ofFalse (fun x => nomatch hc x) (execSpillRecordWritten_kept h.toFalse ..)
  | readDataRead => exact .ofFalse (fun x => nomatch hc x) (execReadDataRead_kept h.toFalse ..)
  | statSnapshot => exact execStatSnapshot_kept h ..
  | statLoad => exact execStatLoad_kept h ..
  | psSample => exact execPsSample_kept h ..
  | hpmCounterOverflow => exact execHpmCounterOverflow_kept h ..
  | voteWrite => exact execVoteWrite_kept h ..
  | dropTimerExpired => exact execDropTimerExpired_kept h ..
  | fenceComplete => exact execFenceComplete_kept h ..
  | wakeComplete => exact .ofFalse (fun x => nomatch hc x) (execWakeComplete_kept h.toFalse ..)
  | wakeStepFail => exact execWakeStepFail_kept h ..
  | wakeRetryGapExpired => exact execWakeRetryGapExpired_kept h ..
  | wakeRetry => exact execWakeRetry_kept h ..
  | domainReset => exact execDomainReset_kept h ..
  | wakeSourceFired => exact execWakeSourceFired_kept h ..
  | wakeTimerWrite => exact execWakeTimerWrite_kept h ..
  | wakeTimerExpired => exact execWakeTimerExpired_kept h ..
  | plRequest => exact execPlRequest_kept h ..
  | avsVoltageDone => exact execAvsVoltageDone_kept h ..
  | avsAckTimeout => exact execAvsAckTimeout_kept h ..
  | avsErrorAck => exact execAvsErrorAck_kept h ..
  | plRetry => exact execPlRetry_kept h ..
  | shutdown => exact execShutdown_kept h ..
  | seedStoreWritesDone => exact execSeedStoreWritesDone_kept h ..
  | bistComplete => exact execBistComplete_kept h ..
  | bistUnitTimeout => exact execBistUnitTimeout_kept h ..
  | bistResultsWritten => exact .ofFalse (fun x => nomatch hc x) (execBistResultsWritten_kept h.toFalse ..)
  | calRun => exact execCalRun_kept h ..
  | calRunDone => exact execCalRunDone_kept h ..
  | calStore => exact execCalStore_kept h ..
  | calStoreDone => exact execCalStoreDone_kept h ..
  | calReload => exact execCalReload_kept h ..
  | calGradualStep => exact execCalGradualStep_kept h ..
  | bgTrackEstimate => exact execBgTrackEstimate_kept h ..
  | bistRun => exact execBistRun_kept h ..
  | hardRepair => exact execHardRepair_kept h ..
  | hardFallow => exact execHardFallow_kept h ..
  | clearFallow => exact execClearFallow_kept h ..
  | furrowResidueFail => exact execFurrowResidueFail_kept h ..
  | clockStop => exact execClockStop_kept h ..
  | cfgParity => exact execCfgParity_kept h ..
  | lockstepMismatch => exact execLockstepMismatch_kept h ..
  | d2dCrcError => exact execD2dCrcError_kept h ..
  | supplyOutOfRange => exact execSupplyOutOfRange_kept h ..
  | aonRegisterUpset => exact execAonRegisterUpset_kept h ..
  | ack => exact execAck_kept h ..
  | faultTest => exact execFaultTest_kept h ..
  | faultTestEnd => exact execFaultTestEnd_kept h ..
  | thermTrip => exact execThermTrip_kept h ..
  | qualifierChange => exact execQualifierChange_kept h ..
  | minGapEnd => exact execMinGapEnd_kept h ..
  | stuck => exact execStuck_kept h ..
  | stuckRelease => exact execStuckRelease_kept h ..
  | cxlRefRestored => exact execCxlRefRestored_kept h ..
  | hedgeRestartComplete => exact execHedgeRestartComplete_kept h ..
  | imageLoaded => exact execImageLoaded_kept h ..
  | hardDone => exact execHardDone_kept h ..
  | hkadcResultRead => exact execHkadcResultRead_kept h ..
  | i3cDynamicAddressLost => exact execI3cDynamicAddressLost_kept h ..
  | propose => exact execPropose_kept h ..

/-- Every step keeps the canonical stores and the burnt bits. -/
theorem step_kept {s t : State} (h : step s = .next t) :
    (s.canonical = true → t.canonical = true) ∧ s.BurntIn t := by
  cases hp : s.pending with
  | nil =>
    rw [step, hp] at h
    cases h
    have k := State.second_kept (Kept.refl False s)
    exact ⟨k.canon, k.otp⟩
  | cons c rest =>
    rw [step, hp] at h
    have k := (exec_kept c False.elim (Kept.refl False { s with pending := rest })).next_kept t h
    exact ⟨k.canon, ⟨k.otp.revoked, k.otp.counts, k.otp.rows, k.otp.units⟩⟩

/-- Settles O4: every operation of the model keeps both stores canonical (`exec_kept`, `State.second_kept`). -/
theorem stepKeepsStoresCanonical : Obligations.StepKeepsStoresCanonical :=
  fun _ _ hs h => (step_kept h).1 hs

end Sys2Proof.Machine
end

section
/-!
SUPPORT. Words bit by bit: what a replaced field, a field written by W1C, and the bytes of a word hold.
-/
namespace Sys2Proof.Machine
open Sys2Proof

/-! ### Bits of a word with a field replaced -/

/-- A bit of a word as a one-bit field. -/
theorem getLsbD_eq_bitsOf (w : Word) (i : Nat) : w.getLsbD i = decide (bitsOf w i i = 1) := by
  rw [bitsOf, Nat.add_sub_cancel_left, ← BitVec.testBit_toNat, Nat.testBit_eq_decide_div_mod_eq, Nat.pow_one]

/-- A replaced field brings the low bits of the value; every other bit stays. -/
theorem getLsbD_withBits (w : Word) {hi lo : Nat} (v i : Nat) (h1 : lo ≤ hi) (h2 : hi < 32) :
    (withBits w hi lo v).getLsbD i = if lo ≤ i ∧ i ≤ hi then v.testBit (i - lo) else w.getLsbD i := by
  split
  · next h =>
    have hf := congrArg (fun n => n.testBit (i - lo)) (bitsOf_withBits_same w v h1 h2)
    have hi' : i - lo < hi + 1 - lo := by omega
    have he : lo + (i - lo) = i := by omega
    rw [← BitVec.testBit_toNat]
    simpa [bitsOf, Nat.testBit_mod_two_pow, Nat.testBit_div_two_pow, hi', he, Nat.add_comm] using hf
  · next h =>
    rw [getLsbD_eq_bitsOf, getLsbD_eq_bitsOf]
    rcases Nat.lt_or_ge hi i with hgt | hle
    · rw [bitsOf_withBits_above w v h1 h2 hgt]
    · rw [bitsOf_withBits_below w v h1 h2 (by omega)]

/-- Bits of a field of a word. -/
theorem testBit_bitsOf (w : Word) (hi lo i : Nat) : (bitsOf w hi lo).testBit i = (decide (i < hi + 1 - lo) && w.getLsbD (i + lo)) := by
  rw [bitsOf, Nat.testBit_mod_two_pow, Nat.testBit_div_two_pow, BitVec.testBit_toNat, Nat.add_comm]

/-- Replacing a whole word. -/
theorem withBits_whole (w v : Word) : withBits w 31 0 (bitsOf v 31 0) = v :=
  BitVec.eq_of_getLsbD_eq fun i hi => by
    rw [getLsbD_withBits w _ i (by omega) (by omega), if_pos (by omega), testBit_bitsOf]
    simp [hi]

/-- A field copied from another word. -/
theorem getLsbD_withBits_bitsOf (w v : Word) {hi lo : Nat} (i : Nat) (h1 : lo ≤ hi) (h2 : hi < 32) :
    (withBits w hi lo (bitsOf v hi lo)).getLsbD i = if lo ≤ i ∧ i ≤ hi then v.getLsbD i else w.getLsbD i := by
  rw [getLsbD_withBits w _ i h1 h2]
  refine if_ctx_congr Iff.rfl (fun h => ?_) (fun _ => rfl)
  have hlt : i - lo < hi + 1 - lo := by omega
  rw [testBit_bitsOf, Nat.sub_add_cancel h.1]
  simp [hlt]

/-- A W1C field (R3): a bit written 1 is cleared, every other bit of the field is as it was. -/
theorem getLsbD_writeField_w1c (rws : Bool) (old new acc : Word) {hi lo : Nat} (l : Legal) (i : Nat) (h1 : lo ≤ hi) (h2 : hi < 32) :
    (writeField rws old new acc ⟨hi, lo, .w1c, l⟩).getLsbD i
      = if lo ≤ i ∧ i ≤ hi then old.getLsbD i && !new.getLsbD i else acc.getLsbD i := by
  simp only [writeField]
  rw [getLsbD_withBits acc _ i h1 h2]
  refine if_ctx_congr Iff.rfl (fun h => ?_) (fun _ => rfl)
  have hlt : i - lo < hi + 1 - lo := by omega
  have h32 : i - lo < 32 := by omega
  rw [BitVec.testBit_toNat, BitVec.getLsbD_and, BitVec.getLsbD_not, BitVec.getLsbD_ofNat, BitVec.getLsbD_ofNat, testBit_bitsOf,
    testBit_bitsOf, Nat.sub_add_cancel h.1]
  simp [hlt, h32]

/-! ### Bytes of a word -/

theorem drop_leBytes (n k v : Nat) : (leBytes n v).drop k = leBytes (n - k) (v / 256 ^ k) := by
  induction k generalizing n v with
  | zero => simp
  | succ k ih =>
    cases n with
    | zero => simp [leBytes]
    | succ n =>
      rw [leBytes, List.drop_succ_cons, ih, Nat.div_div_eq_div_mul, Nat.pow_succ', Nat.succ_sub_succ]

theorem take_leBytes (n m v : Nat) (h : m ≤ n) : (leBytes n v).take m = leBytes m v := by
  induction m generalizing n v with
  | zero => rfl
  | succ m ih =>
    cases n with
    | zero => omega
    | succ n => rw [leBytes, List.take_succ_cons, ih n _ (by omega), leBytes]

theorem leNat_leBytes (n v : Nat) : leNat (leBytes n v) = v % 256 ^ n := by
  induction n generalizing v with
  | zero => simp [leBytes, leNat, Nat.mod_one]
  | succ n ih =>
    change (BitVec.ofNat 8 v).toNat + 256 * leNat (leBytes n (v / 256)) = _
    rw [ih, BitVec.toNat_ofNat, Nat.pow_succ' (m := 256)]
    exact Nat.mod_mul.symm

/-- The number that some bytes of a word make is the field they are. -/
theorem leNat_slice_leBytes (w : Word) (k n : Nat) (h : k + n < 4) :
    leNat ((slice (leBytes 4 w.toNat) k (n + 1)).take 4) = bitsOf w (8 * k + 8 * n + 7) (8 * k) := by
  have hw : 8 * k + 8 * n + 7 + 1 - 8 * k = 8 * (n + 1) := by omega
  rw [slice, List.take_take, drop_leBytes, take_leBytes _ _ _ (by omega), leNat_leBytes, Nat.min_eq_right (by omega), bitsOf, hw,
    Nat.pow_mul, Nat.pow_mul]

end Sys2Proof.Machine
end

section
/-!
SUPPORT. What an access of a path to a register does where nothing stands in its way: writes of one word, and reads of the bytes of
one word.
-/
namespace Sys2Proof.Machine
open Sys2Proof

/-! ### The commands -/

theorem exec_registerWrite (path : Path) (addr : Nat) (value : Word) (amb : Ambient) (s : State) :
    exec (.registerWrite path addr value amb) s = .next ((s.regWrite path addr value amb).writeWords path (addr + 4) amb.more amb) := rfl

theorem exec_narrowWrite (path : Path) (addr : Nat) (n : Fin 3) (value : Word) (s : State) :
    exec (.narrowWrite path addr n value) s = .next (s.narrowWrite path addr (n + 1) value) := rfl

theorem exec_rcRead (path : Path) (addr : Nat) (n : Fin 4096) (upset : MemWord) (s : State) :
    exec (.rcRead path addr n upset) s = .next (s.readBytes path addr (n + 1) upset) := rfl

theorem exec_wideLowRead (path : Path) (addr : Nat) (n : Fin 4096) (upset : MemWord) (s : State) :
    exec (.wideLowRead path addr n upset) s = .next (s.readBytes path addr (n + 1) upset) := rfl

theorem exec_wideLowerWrite (path : Path) (addr : Nat) (value : Word) (amb : Ambient) (s : State) :
    exec (.wideLowerWrite path addr value amb) s = .next ((s.regWrite path addr value amb).writeWords path (addr + 4) amb.more amb) := rfl

theorem exec_wideUpperWrite (path : Path) (addr : Nat) (value : Word) (amb : Ambient) (s : State) :
    exec (.wideUpperWrite path addr value amb) s = .next (s.regWrite path addr value amb) := rfl

theorem exec_intSetWrite (path : Path) (addr : Nat) (value : Word) (amb : Ambient) (s : State) :
    exec (.intSetWrite path addr value amb) s = .next (s.regWrite path addr value amb) := rfl

theorem exec_intStatusWrite (path : Path) (addr : Nat) (value : Word) (amb : Ambient) (s : State) :
    exec (.intStatusWrite path addr value amb) s = .next (s.regWrite path addr value amb) := rfl

/-! ### Writes -/

/-- A write that may reach its register is carried out (R292, R332). -/
theorem State.rwWrite_accepted {s : State} {p : Path} {a : Nat} (h : s.mayWrite p a) (k : State → State) : s.rwWrite p a k = k s := by
  obtain ⟨hu, hd, hr⟩ := h
  simp [State.rwWrite, hu, hd, hr]

/-- A request of one word brings no more of them (R264). -/
@[simp] theorem State.writeWords_nil (s : State) (p : Path) (a : Nat) (m : Ambient) : s.writeWords p a [] m = s := rfl

/-- An assigned, aligned word of BAR0. -/
def isWord (a : Nat) : Bool := a < bar0End && a % 4 = 0 && (rowAt a).isSome

/-- Such a word that is no header register of its block and lies outside SEC: its write is that of its block. -/
def isBody (a : Nat) : Bool := isWord a && !isHeader a && blockOf a ≠ 0x1E

theorem State.regWrite_accepted {s : State} {p : Path} {a : Nat} (v : Word) (m : Ambient) (ha : isWord a = true) (h : s.mayWrite p a) :
    s.regWrite p a v m = s.regAccepted p a v m := by
  simp only [isWord, Bool.and_eq_true, decide_eq_true_eq] at ha
  obtain ⟨⟨hb, h4⟩, hr⟩ := ha
  have hn : (rowAt a).isNone = false := by rw [← Option.not_isSome, hr]; rfl
  simp [State.regWrite, Nat.not_le.mpr hb, h.1, h4, hn, State.rwWrite_accepted h]

theorem State.regWrite_body {s : State} {p : Path} {a : Nat} (v : Word) (m : Ambient) (ha : isBody a = true) (h : s.mayWrite p a) :
    s.regWrite p a v m = s.blockWrite p a v m := by
  simp only [isBody, Bool.and_eq_true, Bool.not_eq_true', decide_eq_true_eq] at ha
  obtain ⟨⟨hw, hh⟩, hs⟩ := ha
  simp [State.regWrite_accepted v m hw h, State.regAccepted, hh, hs]

/-- An accepted write of INT_STATUS or INT_ENABLE is stored, and the block's message may go again (R26). -/
theorem State.regAccepted_intWrite (s : State) (p : Path) {a : Nat} (v : Word) (m : Ambient) (hh : isHeader a = true)
    (hs : blockOf a ≠ 0x1E) (h : a % 16 = 4 ∨ a % 16 = 8) : s.regAccepted p a v m = s.intWrite p a v m := by
  rcases h with h | h <;> simp [State.regAccepted, hh, hs, h]

/-- An accepted write of INT_SET raises bits (R7). -/
theorem State.regAccepted_intSet (s : State) (p : Path) {a : Nat} (v : Word) (m : Ambient) (hh : isHeader a = true)
    (hs : blockOf a ≠ 0x1E) (h : a % 16 = 12) : s.regAccepted p a v m = s.intSet a v := by
  simp [State.regAccepted, hh, hs, h]

/-- A block's ID ignores writes (R2). -/
theorem State.regAccepted_id (s : State) (p : Path) {a : Nat} (v : Word) (m : Ambient) (hh : isHeader a = true)
    (hs : blockOf a ≠ 0x1E) (h : a % 16 = 0) : s.regAccepted p a v m = s := by
  simp [State.regAccepted, hh, hs, h]

/-- A write of an unassigned word is ignored (R4). -/
theorem State.regWrite_unassigned {s : State} {p : Path} {a : Nat} (v : Word) (m : Ambient) (hb : a < bar0End) (h4 : a % 4 = 0)
    (hr : rowAt a = none) (hu : s.unheard p true = false) : s.regWrite p a v m = s := by
  simp [State.regWrite, Nat.not_le.mpr hb, hu, h4, hr]

/-- A register without RWS fields that no calibration record moves is stored by the access types of its fields (R3). -/
theorem State.store_eq (s : State) (p : Path) {a : Nat} (v : Word) {r : Row} (hr : rowAt a = some r) (hw : r.has .rws = false)
    (hc : calOwner a = none) : s.store p a v = s.wr a (r.written (s.rwsAllowed p (leastRole a)) (s.rd a) v) := by
  simp [State.store, hr, hw, State.calTakeover, hc]

/-- Registers of GLOBAL have no meaning beyond what they store. -/
theorem State.blockWrite_global (s : State) (p : Path) {a : Nat} (v : Word) (m : Ambient) (h : blockOf a = 0) :
    s.blockWrite p a v m = s.store p a v := by
  rw [State.blockWrite, h]
  rfl

/-! ### Narrow writes (R5) -/

theorem wordsTouched_one {a n : Nat} (h : a % 4 + n < 4) : wordsTouched a (n + 1) = [a / 4 * 4] := by
  rw [wordsTouched, if_pos (by omega)]

/-- A narrow write within a word of BAR0 is a discarded write of that word. -/
theorem State.narrowWrite_one {s : State} {p : Path} {a n : Nat} (v : Word) (hb : a < bar0End) (hn : a % 4 + n < 4)
    (hu : s.unheard p true = false) : s.narrowWrite p a (n + 1) v = s.narrowWord p (a / 4 * 4) := by
  simp [State.narrowWrite, Nat.not_le.mpr hb, hu, wordsTouched_one hn]

/-! ### Reads -/

theorem wordsSpanned_one {a n : Nat} (h : a % 4 + n < 4) : wordsSpanned a (n + 1) = [a / 4 * 4] := by
  have h1 : (a % 4 + (n + 1) + 3) / 4 = 1 := by omega
  simp [wordsSpanned, h1]

/-- A read of bytes of one word is a read of the word, of which it returns the bytes (R5). -/
theorem State.readBytes_one {s : State} {p : Path} {a n : Nat} (upset : MemWord) (hn : a % 4 + n < 4) (hu : s.unheard p false = false) :
    s.readBytes p a (n + 1) upset =
      { s.regRead p (a / 4 * 4) upset with
        readData := BitVec.ofNat 32 (bitsOf (s.regRead p (a / 4 * 4) upset).readData (8 * (a % 4) + 8 * n + 7) (8 * (a % 4))) } := by
  have h8 : ¬ 8 ≤ n + 1 := by omega
  simp [State.readBytes, hu, wordsSpanned_one hn, h8, leNat_slice_leBytes _ _ _ hn]

/-- The words whose read has an effect of its own: captures' stamps, captured entries and HKADC results. -/
def readsSpecially (a : Nat) : Bool :=
  a = R.TC_CAP_0 0 || a = R.TC_CAP_0 1 || (0x10010E8 ≤ a && a < 0x1002000 && (a - 0x10010E8) % 0x400 = 0)
    || (R.HKADC_RESULT 0 ≤ a && a < R.HKADC_RESULT 16) || a = R.HKADC_INJ_RESULT

theorem State.regRead_plain {s : State} {p : Path} {a : Nat} (upset : MemWord) (hb : a < bar0End) (ha : readsSpecially a = false)
    (hd : s.isDown a = false) : s.regRead p a upset = s.readWord p a := by
  simp only [readsSpecially, Bool.or_eq_false_iff, Bool.and_eq_false_iff, decide_eq_false_iff_not, and_assoc] at ha
  obtain ⟨h1, h2, h3, h4, h5⟩ := ha
  have h3' : ¬(0x10010E8 ≤ a ∧ a < 0x1002000 ∧ (a - 0x10010E8) % 0x400 = 0) := fun ⟨x, y, z⟩ => h3.elim (·.elim (· x) (· y)) (· z)
  have h4' : ¬(R.HKADC_RESULT 0 ≤ a ∧ a < R.HKADC_RESULT 16) := fun ⟨x, y⟩ => h4.elim (· x) (· y)
  simp only [State.regRead, Nat.not_le.mpr hb, hd, h1, h2, h3', h4', h5, if_false, Bool.false_eq_true]

/-- The words of which the part derives what a read returns, rather than what is stored. -/
def readsDerived (a : Nat) : Bool :=
  a = R.BIST_UNIT_RESULT || (0x901000 ≤ a && a < 0x902000) || a = R.GLOBAL_INT_SUMMARY_LO || a = R.GLOBAL_INT_SUMMARY_HI
    || a = intStatus 0x1A || a = R.CPU_SWINT_SET || a = R.PLAN_FURROWS || a = R.HOSTLANE_QUAD_STATUS || (0xA00020 ≤ a && a < 0xA00030)
    || (0x708404 ≤ a && a < 0x708484) || a = R.MSIX_PBA 0 || a = R.MSIX_PBA 1 || a = R.HEADLAND_DC_LEVEL || a = R.HEADLAND_IN_DET
    || (0xB01000 ≤ a && a < 0xB01200) || (latencyAt a).isSome || (0x240000 ≤ a && a < 0x280000)

/-- Any other word shows what is stored, WO fields as 0. -/
theorem State.shown_stored (s : State) {a : Nat} {r : Row} (hr : rowAt a = some r) (ha : readsDerived a = false) :
    s.shown a = r.visible (s.rd a) := by
  simp only [readsDerived, Bool.or_eq_false_iff, Bool.and_eq_false_iff, decide_eq_false_iff_not, and_assoc] at ha
  obtain ⟨h1, h2, h3, h4, h5, h6, h7, h8, h9, h10, h11, h12, h13, h14, h15, h16, h17⟩ := ha
  have hsub : s.absentSub a = false := by
    have : a < 0x240000 ∨ 0x280000 ≤ a := by omega
    simp [State.absentSub, subWindow, this]
  have h17' : ∀ c : Prop, ¬(0x240000 ≤ a ∧ a < 0x280000 ∧ c) := fun _ ⟨x, y, _⟩ => h17.elim (· x) (· y)
  have h17'' : ¬(0x240000 ≤ a ∧ a < 0x280000) := fun ⟨x, y⟩ => h17.elim (· x) (· y)
  have h2' : ∀ c : Prop, ¬(0x901000 ≤ a ∧ a < 0x902000 ∧ c) := fun _ ⟨x, y, _⟩ => h2.elim (· x) (· y)
  have h9' : ¬(0xA00020 ≤ a ∧ a < 0xA00030) := fun ⟨x, y⟩ => h9.elim (· x) (· y)
  have h10' : ∀ c : Prop, ¬(0x708404 ≤ a ∧ a < 0x708484 ∧ c) := fun _ ⟨x, y, _⟩ => h10.elim (· x) (· y)
  have h15' : (decide (0xB01000 ≤ a) && decide (a < 0xB01200)) = false := by
    rw [← Bool.not_eq_true, Bool.and_eq_true, decide_eq_true_eq, decide_eq_true_eq]
    exact fun ⟨x, y⟩ => h15.elim (· x) (· y)
  simp [State.shown, State.view, h1, h2', h3, h4, h5, h6, h7, h8, h9', h10', hsub, h11, h12, h13, h14, h15', h16, h17', h17'', hr]

end Sys2Proof.Machine
end

section
/-!
SUPPORT and statements. The registers of GLOBAL: SCRATCH and ID, the narrow writes' count, INT_STATUS and INT_SET with their messages.
-/
namespace Sys2Proof.Machine
open Sys2Proof

/-! ### Plain registers (O7) -/

/-- SCRATCH takes what is written. -/
theorem State.store_scratch (s : State) (p : Path) (v : Word) : s.store p R.GLOBAL_SCRATCH v = s.wr R.GLOBAL_SCRATCH v := by
  rw [s.store_eq p v (r := ⟨0x30, [], 0, [⟨31, 0, .rw, .any⟩]⟩) (by decide +kernel) (by decide) (by decide +kernel)]
  simp [Row.written, writeField, Legal.apply, withBits_whole]

/-- Settles O7: each write goes to its register's store, or to none. -/
theorem registerWritesStoreByAccessType : Obligations.RegisterWritesStoreByAccessType := by
  refine ⟨fun s path value amb h hm => ?_, fun s path value amb h hm => ?_, fun s path addr value amb hb h4 hr hu hm => ?_⟩
  · refine ⟨s.wr R.GLOBAL_SCRATCH value, ?_, s.rd_wr_same _ _, onlyRegs_wr (onlyRegs_refl _ _) List.mem_cons_self _⟩
    rw [exec_registerWrite, hm, State.writeWords_nil, State.regWrite_body _ _ (by decide +kernel) h,
      State.blockWrite_global _ _ _ _ (by decide), State.store_scratch]
  · refine ⟨s, ?_, rfl, onlyRegs_refl _ _⟩
    rw [exec_registerWrite, hm, State.writeWords_nil, State.regWrite_accepted _ _ (by decide +kernel) h,
      State.regAccepted_id _ _ _ _ (by decide +kernel) (by decide) (by decide)]
  · refine ⟨s, ?_, rfl⟩
    rw [exec_registerWrite, hm, State.writeWords_nil, State.regWrite_unassigned _ _ hb h4 hr hu]

/-! ### Interrupts (O9) -/

/-- The three bits of `GLOBAL_INT_STATUS`. -/
theorem getLsbD_seven (i : Nat) : (7 : Word).getLsbD i = decide (i < 3) := by
  change (BitVec.ofNat 32 (2 ^ 3 - 1)).getLsbD i = _
  rw [BitVec.getLsbD_ofNat, Nat.testBit_two_pow_sub_one, Bool.and_eq_right_iff_imp]
  simp only [decide_eq_true_eq]
  omega

/-- The row of `GLOBAL_INT_STATUS`. -/
theorem rowAt_intStatus_global :
    rowAt R.GLOBAL_INT_STATUS = some ⟨4, [], 0, [⟨2, 2, .w1c, .any⟩, ⟨1, 1, .w1c, .any⟩, ⟨0, 0, .w1c, .any⟩]⟩ := by decide +kernel

/-- INT_SET sets each W1C field of GLOBAL_INT_STATUS to the bits written. (`delta` at this address: the equation for every address is
slow to check.) -/
theorem eventBits_intSet (v : Word) : eventBits R.GLOBAL_INT_SET v
    = withBits (withBits (withBits 0 2 2 (bitsOf v 2 2)) 1 1 (bitsOf v 1 1)) 0 0 (bitsOf v 0 0) := by
  have ha : intStatus (blockOf R.GLOBAL_INT_SET) = R.GLOBAL_INT_STATUS := by decide
  delta eventBits
  rw [ha, rowAt_intStatus_global]
  rfl

/-- The bits that INT_SET may set in `GLOBAL_INT_STATUS`. -/
theorem eventBits_global (v : Word) : eventBits R.GLOBAL_INT_SET v = v &&& 7 := by
  rw [eventBits_intSet]
  refine BitVec.eq_of_getLsbD_eq fun i hi => ?_
  rw [BitVec.getLsbD_and, getLsbD_seven, getLsbD_withBits_bitsOf _ _ _ (by omega) (by omega),
    getLsbD_withBits_bitsOf _ _ _ (by omega) (by omega), getLsbD_withBits_bitsOf _ _ _ (by omega) (by omega)]
  grind

/-- GLOBAL_INT_STATUS with bits of a word set. -/
def State.intRaised (s : State) (v : Word) : State := s.wr R.GLOBAL_INT_STATUS (s.rd R.GLOBAL_INT_STATUS ||| (v &&& 7))

/-- INT_SET raises the bits written 1 (R7). -/
theorem State.intSet_global (s : State) (v : Word) : s.intSet R.GLOBAL_INT_SET v = s.msixEdge (s.intRaised v) 0 := by
  rw [State.intSet, eventBits_global]
  rfl

/-- INT_STATUS clears the bits written 1 (R3). -/
theorem State.store_intStatus (s : State) (p : Path) (v : Word) :
    s.store p R.GLOBAL_INT_STATUS v = s.wr R.GLOBAL_INT_STATUS (s.rd R.GLOBAL_INT_STATUS &&& ~~~(v &&& 7)) := by
  rw [s.store_eq p v rowAt_intStatus_global (by decide) (by decide +kernel)]
  congr 1
  refine BitVec.eq_of_getLsbD_eq fun i hi => ?_
  rw [BitVec.getLsbD_and, BitVec.getLsbD_not, BitVec.getLsbD_and, getLsbD_seven]
  simp only [Row.written, List.foldl]
  rw [getLsbD_writeField_w1c _ _ _ _ _ _ (by omega) (by omega), getLsbD_writeField_w1c _ _ _ _ _ _ (by omega) (by omega),
    getLsbD_writeField_w1c _ _ _ _ _ _ (by omega) (by omega)]
  grind

/-- GLOBAL_INT_STATUS with the bits written 1 cleared. -/
def State.intCleared (s : State) (v : Word) : State := s.wr R.GLOBAL_INT_STATUS (s.rd R.GLOBAL_INT_STATUS &&& ~~~(v &&& 7))

/-- Its message goes again while a cause is left (R26). -/
theorem State.intWrite_global (s : State) (p : Path) (v : Word) (m : Ambient) :
    s.intWrite p R.GLOBAL_INT_STATUS v m = if (s.intCleared v).cause 0 then (s.intCleared v).msix 0 else s.intCleared v := by
  rw [State.intWrite, s.blockWrite_global p v m (by decide), State.store_intStatus]
  rfl

/-- The cause of GLOBAL's message: an enabled bit of INT_STATUS is set (R26). -/
theorem State.cause_global (s : State) : s.cause 0 = (s.rd R.GLOBAL_INT_STATUS &&& s.rd R.GLOBAL_INT_ENABLE != 0) := rfl

/-- Where MSI-X is enabled and neither the function nor the vector masked, and the port is UP, a message is sent (R26, R272). -/
theorem State.msix_sends {s : State} {v : Nat} (he : s.msixEnabled = true) (hu : s.cxlUp = true) (hm : s.msixMasked = false)
    (hv : s.on (vectorMask v) = false) : s.msix v = s.send (.msix v) := by
  simp [State.msix, he, hu, hm, hv]

/-- A write of `GLOBAL_INT_STATUS` changes nothing that sending a message looks at. -/
theorem State.msix_wr_intStatus {s : State} (w : Word) (he : s.msixEnabled = true) (hu : s.cxlUp = true) (hm : s.msixMasked = false)
    (hv : s.on (vectorMask 0) = false) : (s.wr R.GLOBAL_INT_STATUS w).msix 0 = (s.wr R.GLOBAL_INT_STATUS w).send (.msix 0) := by
  refine State.msix_sends he ?_ hm ?_
  · rw [State.cxlUp, State.get_wr_other _ _ (by decide)]
    exact hu
  · rw [State.on, State.get_wr_other _ _ (by decide)]
    exact hv

/-- Changes of INT_STATUS and messages are no changes of other words. -/
theorem onlyRegs_msix {s0 s : State} {l : List Nat} (h : s0.onlyRegs s l) (v : Nat) : s0.onlyRegs (s.msix v) l :=
  ⟨(State.msix_hushed s v).trans h.1, fun x hx hn => (State.msix_rd s v hx).trans (h.2 x hx hn)⟩

theorem onlyRegs_wr_intStatus {s0 s : State} {l : List Nat} (h : s0.onlyRegs s l) (w : Word) : s0.onlyRegs (s.wr R.GLOBAL_INT_STATUS w) l :=
  ⟨(State.wr_hushed s _ w).trans h.1, fun x hx hn => (State.rd_wr_other s w (fun e => hx.2 (by rw [e]; rfl))).trans (h.2 x hx hn)⟩

theorem onlyRegs_msixEdge {s0 s : State} {l : List Nat} (h : s0.onlyRegs s l) (before : State) (v : Nat) :
    s0.onlyRegs (before.msixEdge s v) l := by
  unfold State.msixEdge
  exact onlyRegs_ite (onlyRegs_msix h v) h

/-- A message changes no word of BAR0. -/
theorem State.msix_rd_bar0 (s : State) (v : Nat) {x : Nat} (h : x < 0x4000000) : (s.msix v).rd x = s.rd x := by
  have hp : x ≠ (pba v).addr := by simp only [pba, bar2]; omega
  unfold State.msix
  split
  · split
    · exact State.rd_set_other _ _ hp
    · rfl
  · rfl

theorem State.msixEdge_rd_bar0 (before after : State) (v : Nat) {x : Nat} (h : x < 0x4000000) :
    (before.msixEdge after v).rd x = after.rd x := by
  unfold State.msixEdge
  split
  · exact State.msix_rd_bar0 _ _ h
  · rfl

/-- Settles O9: both writes change INT_STATUS alone; INT_SET sends on the edge of the cause, INT_STATUS while the cause is present. -/
theorem interruptRegistersAndMessages : Obligations.InterruptRegistersAndMessages := by
  have hset (s : State) (path : Path) (value : Word) (amb : Ambient) (h : s.mayWrite path R.GLOBAL_INT_SET) :
      exec (.intSetWrite path R.GLOBAL_INT_SET value amb) s = .next (s.msixEdge (s.intRaised value) 0) := by
    rw [exec_intSetWrite, State.regWrite_accepted _ _ (by decide +kernel) h,
      State.regAccepted_intSet _ _ _ _ (by decide +kernel) (by decide) (by decide), State.intSet_global]
  have hstat (s : State) (path : Path) (value : Word) (amb : Ambient) (h : s.mayWrite path R.GLOBAL_INT_STATUS) :
      exec (.intStatusWrite path R.GLOBAL_INT_STATUS value amb) s
        = .next (if (s.intCleared value).cause 0 then (s.intCleared value).msix 0 else s.intCleared value) := by
    rw [exec_intStatusWrite, State.regWrite_accepted _ _ (by decide +kernel) h,
      State.regAccepted_intWrite _ _ _ _ (by decide +kernel) (by decide) (.inl (by decide)), State.intWrite_global]
  refine ⟨fun s path value amb h => ⟨_, hset s path value amb h, ?_, ?_⟩, fun s path value amb h he hu hm hv hc hn =>
    ⟨_, hset s path value amb h, ?_⟩, fun s path value amb h => ⟨_, hstat s path value amb h, ?_, ?_⟩,
    fun s path value amb h he hu hm hv hn => ⟨_, hstat s path value amb h, ?_⟩⟩
  · rw [State.msixEdge_rd_bar0 _ _ _ (by decide)]
    exact State.rd_wr_same _ _ _
  · exact onlyRegs_msixEdge (onlyRegs_wr_intStatus (onlyRegs_refl _ _) _) _ _
  · have hc' : (s.intRaised value).cause 0 = true := by
      rw [State.cause_global, State.intRaised, State.rd_wr_same, State.rd_wr_other _ _ (by decide), bne_iff_ne]
      exact fun h0 => hn (BitVec.eq_of_getLsbD_eq fun i hi => by
        have hi0 := congrArg (fun w => BitVec.getLsbD w i) h0
        simp only [BitVec.getLsbD_and, BitVec.getLsbD_or] at hi0 ⊢
        grind)
    rw [State.msixEdge, hc', hc]
    exact congrArg State.sent (State.msix_wr_intStatus _ he hu hm hv)
  · split
    · rw [State.msix_rd_bar0 _ _ (by decide)]
      exact State.rd_wr_same _ _ _
    · exact State.rd_wr_same _ _ _
  · exact onlyRegs_ite (onlyRegs_msix (onlyRegs_wr_intStatus (onlyRegs_refl _ _) _) _) (onlyRegs_wr_intStatus (onlyRegs_refl _ _) _)
  · have hc : (s.intCleared value).cause 0 = true := by
      rw [State.cause_global, State.intCleared, State.rd_wr_same, State.rd_wr_other _ _ (by decide), bne_iff_ne]
      exact hn
    rw [if_pos hc]
    exact congrArg State.sent (State.msix_wr_intStatus _ he hu hm hv)

end Sys2Proof.Machine
end

section
/-!
SUPPORT and statement. Narrow writes, reads of counters that clear, and wide values: shadows of the upper words, staging copies of the
lower ones (R5, R11 to R13).
-/
namespace Sys2Proof.Machine
open Sys2Proof

/-! ### Fields -/

/-- A field of a counter after a bump (R3). -/
theorem State.get_bump_same (s : State) (f : Fld) (n : Nat) (h1 : f.lo ≤ f.hi) (h2 : f.hi < 32) :
    (s.bump f n).get f = min f.top (s.get f + n) := by
  have hp : 0 < 2 ^ (f.hi + 1 - f.lo) := Nat.two_pow_pos _
  rw [State.bump, s.get_set_same f _ h1 h2, Nat.mod_eq_of_lt]
  have hm := Nat.min_le_left f.top (s.get f + n)
  rw [Fld.top] at hm ⊢
  omega

/-! ### Narrow writes (R5) -/

/-- A narrow write of a word that is not down is counted, and told. -/
theorem State.narrowWord_up {s : State} (p : Path) {a : Nat} (h : s.isDown a = false) :
    s.narrowWord p a =
      let t := (s.bump F.GLOBAL_ACCESS_ERR.NARROW_WRITES).raiseEvent 0 0 1
      if s.get F.GLOBAL_ACCESS_ERR.NARROW_WRITES = 0xFFFE then t.raise 0 1 else t := by
  simp [State.narrowWord, h]

theorem narrowWrite_counts (s : State) (path : Path) (addr : Nat) (n : Fin 3) (value : Word) (hb : addr < 0x4000000)
    (hn : addr % 4 + n.val < 4) (hu : s.unheard path true = false) (hd : s.isDown (addr / 4 * 4) = false) :
    ∃ t, exec (.narrowWrite path addr n value) s = .next t ∧ t.get F.GLOBAL_ACCESS_ERR.NARROW_WRITES
        = min F.GLOBAL_ACCESS_ERR.NARROW_WRITES.top (s.get F.GLOBAL_ACCESS_ERR.NARROW_WRITES + 1)
      ∧ t.flag 0 0 = true ∧ s.onlyRegs t [R.GLOBAL_ACCESS_ERR] := by
  have ho : ordinary F.GLOBAL_ACCESS_ERR.NARROW_WRITES.addr := ⟨by decide, by decide⟩
  have hg : ((s.bump F.GLOBAL_ACCESS_ERR.NARROW_WRITES).raiseEvent 0 0 1).get F.GLOBAL_ACCESS_ERR.NARROW_WRITES
      = min F.GLOBAL_ACCESS_ERR.NARROW_WRITES.top (s.get F.GLOBAL_ACCESS_ERR.NARROW_WRITES + 1) := by
    rw [State.raiseEvent_get _ _ _ _ ho, s.get_bump_same _ _ (by decide) (by decide)]
  have hf := (s.bump F.GLOBAL_ACCESS_ERR.NARROW_WRITES).raiseEvent_flag (blk := 0) (bit := 0) 1 (by decide) (by decide)
  have hk := onlyRegs_raiseEvent (onlyRegs_bump (onlyRegs_refl s [R.GLOBAL_ACCESS_ERR])
    (f := F.GLOBAL_ACCESS_ERR.NARROW_WRITES) List.mem_cons_self 1) 0 0 1
  rw [exec_narrowWrite, State.narrowWrite_one value hb hn hu, State.narrowWord_up path hd]
  refine ⟨_, rfl, ?_⟩
  dsimp only
  split
  · exact ⟨(State.raise_get _ _ _ ho).trans hg, State.raise_flags _ _ _ _ _ (by decide) hf, onlyRegs_raise hk _ _⟩
  · exact ⟨hg, hf, hk⟩

/-! ### A counter that clears when read (R3) -/

/-- A read of `GLOBAL_ACCESS_ERR` returns its word and clears the count. -/
theorem State.readWord_accessErr (s : State) (p : Path) :
    s.readWord p R.GLOBAL_ACCESS_ERR =
      { s.set F.GLOBAL_ACCESS_ERR.NARROW_WRITES 0 with readData := s.rd R.GLOBAL_ACCESS_ERR } := by
  have hr : rowAt R.GLOBAL_ACCESS_ERR = some ⟨0x18, [], 0, [⟨15, 0, .rc, .any⟩]⟩ := by decide +kernel
  have hw : wideOf R.GLOBAL_ACCESS_ERR = none := by decide
  simp only [State.readWord, hr, hw, s.shown_stored hr (by decide +kernel)]
  rfl

theorem rcRead_clears (s : State) (path : Path) (k : Nat) (n : Fin 4096) (upset : MemWord) (hk : k + n.val < 4)
    (h : s.mayRead path R.GLOBAL_ACCESS_ERR) :
    ∃ t, exec (.rcRead path (R.GLOBAL_ACCESS_ERR + k) n upset) s = .next t
      ∧ t.readData = BitVec.ofNat 32 (bitsOf (s.rd R.GLOBAL_ACCESS_ERR) (8 * k + 8 * n.val + 7) (8 * k))
      ∧ t.get F.GLOBAL_ACCESS_ERR.NARROW_WRITES = 0 ∧ s.keepsRegs t [R.GLOBAL_ACCESS_ERR] ∧ t.mem = s.mem := by
  have ha : (R.GLOBAL_ACCESS_ERR + k) / 4 * 4 = R.GLOBAL_ACCESS_ERR := by simp only [R.GLOBAL_ACCESS_ERR]; omega
  have hm : (R.GLOBAL_ACCESS_ERR + k) % 4 = k := by simp only [R.GLOBAL_ACCESS_ERR]; omega
  rw [exec_rcRead, State.readBytes_one upset (by rwa [hm]) h.1, ha, hm, State.regRead_plain upset (by decide) (by decide +kernel) h.2,
    State.readWord_accessErr]
  exact ⟨_, rfl, rfl, s.get_set_same F.GLOBAL_ACCESS_ERR.NARROW_WRITES 0 (by decide) (by decide),
    (onlyRegs_set (onlyRegs_refl s [R.GLOBAL_ACCESS_ERR]) (f := F.GLOBAL_ACCESS_ERR.NARROW_WRITES) List.mem_cons_self 0).2, rfl⟩

/-! ### Shadows (R11) -/

theorem Path.idx_inj {p q : Path} (h : p.idx = q.idx) : p = q := by
  cases p <;> cases q <;> grind [Path.idx]

/-- A path's shadow is what it latched. -/
theorem State.shadow_latch_same (s : State) (p : Path) (a : Nat) (w : Word) : (s.latch p a w).shadow p a = w :=
  Store.read_write_same _ _ _ _

/-- Each path has shadows of its own. -/
theorem State.shadow_latch_path (s : State) {p q : Path} (a : Nat) (w : Word) (h : q ≠ p) : (s.latch p a w).shadow q a = s.shadow q a := by
  refine Store.read_write_other _ _ _ fun e => h (Path.idx_inj ?_)
  simp only [wideKey] at e
  omega

/-- A read of the low word of a value of two words latches the upper one. -/
theorem State.readWord_wideLow (s : State) (p : Path) {a : Nat} {r : Row} (hr : rowAt a = some r) (hw : wideOf a = some (a, 2)) :
    s.readWord p a = { s.latch p (a + 4) (s.shown (a + 4)) with readData := s.shown a } := by
  simp [State.readWord, hr, hw, List.range_succ]

/-- A read of an upper word returns the shadow. -/
theorem State.readWord_wideUpper (s : State) (p : Path) {a lo n : Nat} {r : Row} (hr : rowAt a = some r) (hw : wideOf a = some (lo, n))
    (h : a ≠ lo) : s.readWord p a = { s with readData := s.shadow p a } := by
  simp [State.readWord, hr, hw, h]

/-- A read of four bytes at an aligned address is a read of its word. -/
theorem State.readBytes_aligned {s : State} {p : Path} {a : Nat} (upset : MemWord) (ha : a % 4 = 0) (hu : s.unheard p false = false) :
    s.readBytes p a 4 upset = s.regRead p a upset := by
  have h4 : a / 4 * 4 = a := by omega
  have hw (w : Word) : BitVec.ofNat 32 (bitsOf w 31 0) = w := by
    rw [bitsOf, Nat.pow_zero, Nat.div_one, Nat.mod_eq_of_lt w.isLt, BitVec.ofNat_toNat, BitVec.setWidth_eq]
  rw [State.readBytes_one (n := 3) upset (by omega) hu, h4, ha]
  simp only [Nat.mul_zero, Nat.zero_add, hw]

theorem rowAt_corrBits (c : Carrier) :
    rowAt (R.FEC_CORR_BITS_LO c) = some ⟨0x600120, [(2, 0x40000)], 0, [⟨31, 0, .ro, .any⟩]⟩
      ∧ rowAt (R.FEC_CORR_BITS_HI c) = some ⟨0x600124, [(2, 0x40000)], 0, [⟨15, 0, .ro, .any⟩]⟩ := by
  cases c <;> decide +kernel

theorem wideOf_corrBits (c : Carrier) :
    wideOf (R.FEC_CORR_BITS_LO c) = some (R.FEC_CORR_BITS_LO c, 2) ∧ wideOf (R.FEC_CORR_BITS_HI c) = some (R.FEC_CORR_BITS_LO c, 2) := by
  cases c <;> decide

/-- Both words of a decoder counter are plain words of BAR0. -/
theorem corrBits_plain (c : Carrier) :
    (readsSpecially (R.FEC_CORR_BITS_LO c) = false ∧ readsSpecially (R.FEC_CORR_BITS_HI c) = false)
      ∧ readsDerived (R.FEC_CORR_BITS_LO c) = false ∧ readsDerived (R.FEC_CORR_BITS_HI c) = false := by
  cases c <;> decide +kernel

theorem corrBits_aligned (c : Carrier) : (R.FEC_CORR_BITS_LO c < bar0End ∧ R.FEC_CORR_BITS_HI c < bar0End)
    ∧ R.FEC_CORR_BITS_LO c % 4 = 0 ∧ R.FEC_CORR_BITS_HI c % 4 = 0 := by
  cases c <;> decide

theorem wideLowRead_latches (s : State) (path other : Path) (c : Carrier) (upset : MemWord)
    (h : s.mayRead path (R.FEC_CORR_BITS_LO c)) (ho : other ≠ path) :
    ∃ t, exec (.wideLowRead path (R.FEC_CORR_BITS_LO c) 3 upset) s = .next t ∧ t.readData = s.rd (R.FEC_CORR_BITS_LO c)
      ∧ t.shadow path (R.FEC_CORR_BITS_HI c) = s.rd (R.FEC_CORR_BITS_HI c)
      ∧ t.shadow other (R.FEC_CORR_BITS_HI c) = s.shadow other (R.FEC_CORR_BITS_HI c) ∧ t.regs = s.regs ∧ t.mem = s.mem := by
  obtain ⟨⟨hsl, hsh⟩, hdl, hdh⟩ := corrBits_plain c
  obtain ⟨⟨hbl, hbh⟩, hal, hah⟩ := corrBits_aligned c
  have hi : R.FEC_CORR_BITS_LO c + 4 = R.FEC_CORR_BITS_HI c := by simp only [R.FEC_CORR_BITS_LO, R.FEC_CORR_BITS_HI]; omega
  have he : exec (.wideLowRead path (R.FEC_CORR_BITS_LO c) 3 upset) s = .next { s.latch path (R.FEC_CORR_BITS_HI c)
      (s.rd (R.FEC_CORR_BITS_HI c)) with readData := s.rd (R.FEC_CORR_BITS_LO c) } := by
    refine congrArg Host.Outcome.next ((State.readBytes_aligned upset hal h.1).trans ?_)
    rw [State.regRead_plain upset hbl hsl h.2, State.readWord_wideLow s path (rowAt_corrBits c).1 (wideOf_corrBits c).1, hi,
      s.shown_stored (rowAt_corrBits c).1 hdl, s.shown_stored (rowAt_corrBits c).2 hdh]
    rfl
  exact ⟨_, he, rfl, s.shadow_latch_same _ _ _, s.shadow_latch_path _ _ ho, rfl, rfl⟩

theorem wideUpperRead_shadow (s : State) (path : Path) (c : Carrier) (upset : MemWord) (h : s.mayRead path (R.FEC_CORR_BITS_HI c)) :
    ∃ t, exec (.wideLowRead path (R.FEC_CORR_BITS_HI c) 3 upset) s = .next t
      ∧ t = { s with readData := s.shadow path (R.FEC_CORR_BITS_HI c) } := by
  obtain ⟨⟨hsl, hsh⟩, hdl, hdh⟩ := corrBits_plain c
  obtain ⟨⟨hbl, hbh⟩, hal, hah⟩ := corrBits_aligned c
  have hne : R.FEC_CORR_BITS_HI c ≠ R.FEC_CORR_BITS_LO c := by simp only [R.FEC_CORR_BITS_LO, R.FEC_CORR_BITS_HI]; omega
  refine ⟨_, congrArg Host.Outcome.next (State.readBytes_aligned upset hah h.1), ?_⟩
  rw [State.regRead_plain upset hbh hsh h.2, State.readWord_wideUpper s path (rowAt_corrBits c).2 (wideOf_corrBits c).2 hne]

/-! ### Staging copies (R12, R13) -/

/-- A path's staging copy is what it last wrote. -/
theorem State.staged_stage_same (s : State) (p : Path) (a : Nat) (w : Word) : (s.stage p a w).staged p a = w :=
  Store.read_write_same _ _ _ _

/-- Each word has a staging copy of its own. -/
theorem State.staged_stage_other (s : State) (p : Path) {a b : Nat} (w : Word) (h : b ≠ a) : (s.stage p a w).staged p b = s.staged p b := by
  refine Store.read_write_other _ _ _ fun e => h ?_
  simp only [wideKey] at e
  omega

/-- The words of a test pulse's start are words of TIME that their block's write handles. -/
theorem isBody_start (n i : Fin 4) : isBody (R.TP_START_0 n + 4 * i) = true ∧ blockOf (R.TP_START_0 n + 4 * i) = 0x14 := by
  revert n i
  decide +kernel

theorem start_range (n i : Fin 4) : 0xA02000 ≤ R.TP_START_0 n + 4 * i ∧ R.TP_START_0 n + 4 * i < 0xA03000
    ∧ (R.TP_START_0 n + 4 * i) % 0x40 = 0x10 + 4 * i := by
  simp only [R.TP_START_0]
  omega

/-- A write of a test pulse's register is one of TIME's pulse and capture registers. -/
theorem State.wTime_io (s : State) (p : Path) {a : Nat} (v : Word) (h1 : 0xA02000 ≤ a) (h2 : a < 0xA04000) : s.wTime p a v = s.wTimeIo p a v := by
  have ha (b : Nat) (hb : b < 0xA02000) : a ≠ b := by omega
  simp [State.wTime, h1, h2, ha R.TIME_CTRL (by decide), ha R.TIME_SET_0 (by decide), ha R.TIME_SET_1 (by decide),
    ha R.TIME_SET_2 (by decide), ha R.TIME_SET_3 (by decide), ha R.TIME_ADJ_LO (by decide), ha R.TIME_ADJ_HI (by decide),
    ha R.TIME_FREQ (by decide), ha R.TIME_ADJ_CTRL (by decide), ha (intStatus 0x14) (by decide)]

theorem State.regWrite_start {s : State} {p : Path} (n i : Fin 4) (v : Word) (m : Ambient) (h : s.mayWrite p (R.TP_START_0 n + 4 * i)) :
    s.regWrite p (R.TP_START_0 n + 4 * i) v m = s.wTimeIo p (R.TP_START_0 n + 4 * i) v := by
  obtain ⟨hb, hbl⟩ := isBody_start n i
  obtain ⟨h1, h2, -⟩ := start_range n i
  rw [State.regWrite_body v m hb h, State.blockWrite, hbl]
  exact s.wTime_io p v h1 (by omega)

/-- The lower words of a start are staged. -/
theorem State.regWrite_startLow {s : State} {p : Path} (n i : Fin 4) (hi : i < 3) (v : Word) (m : Ambient)
    (h : s.mayWrite p (R.TP_START_0 n + 4 * i)) : s.regWrite p (R.TP_START_0 n + 4 * i) v m = s.stage p (R.TP_START_0 n + 4 * i) v := by
  obtain ⟨h1, h2, h3⟩ := start_range n i
  have hlt : 0x10 + 4 * i.val < 0x1C := by omega
  rw [State.regWrite_start n i v m h, State.wTimeIo]
  simp [h2, h3, hlt]

theorem rowAt_start (n : Fin 4) :
    (rowAt (R.TP_START_0 n) = some ⟨0xA02010, [(4, 0x40)], 0, [⟨31, 16, .rw, .any⟩]⟩
      ∧ rowAt (R.TP_START_1 n) = some ⟨0xA02014, [(4, 0x40)], 0, [⟨29, 0, .rw, .between 0 999999999⟩]⟩)
    ∧ rowAt (R.TP_START_2 n) = some ⟨0xA02018, [(4, 0x40)], 0, [⟨31, 0, .rw, .any⟩]⟩
      ∧ rowAt (R.TP_START_3 n) = some ⟨0xA0201C, [(4, 0x40)], 0, [⟨15, 0, .rw, .any⟩]⟩ := by
  revert n
  decide +kernel

/-- No calibration record holds a pulse's start. -/
theorem calOwner_start (n : Fin 4) : (calOwner (R.TP_START_0 n) = none ∧ calOwner (R.TP_START_1 n) = none)
    ∧ calOwner (R.TP_START_2 n) = none ∧ calOwner (R.TP_START_3 n) = none := by
  revert n
  decide +kernel

/-- A test pulse's start with its four words written. -/
def State.startSet (s : State) (n : Nat) (w0 w1 w2 w3 : Word) : State :=
  let s := s.set (F.TP_START_0.FRAC n) (bitsOf w0 31 16)
  let s := s.set (F.TP_START_1.NS n) (clampN 0 999999999 (bitsOf w1 29 0))
  let s := s.set (F.TP_START_2.SEC_LO n) (bitsOf w2 31 0)
  s.set (F.TP_START_3.SEC_HI n) (bitsOf w3 15 0)

/-- A write of the upper word commits all four (R13). -/
theorem State.regWrite_startUpper {s : State} {p : Path} (n : Fin 4) (v : Word) (m : Ambient) (h : s.mayWrite p (R.TP_START_3 n)) :
    s.regWrite p (R.TP_START_3 n) v m
      = s.startSet n (s.staged p (R.TP_START_0 n)) (s.staged p (R.TP_START_1 n)) (s.staged p (R.TP_START_2 n)) v := by
  have h3 : R.TP_START_3 n = R.TP_START_0 n + 4 * (3 : Fin 4) := by simp only [R.TP_START_0, R.TP_START_3, Fin.isValue]; omega
  obtain ⟨ha, hb, hc⟩ := start_range n 3
  obtain ⟨⟨hr0, hr1⟩, hr2, hr3⟩ := rowAt_start n
  obtain ⟨⟨hc0, hc1⟩, hc2, hc3⟩ := calOwner_start n
  have hn : (R.TP_START_3 n - 0xA02000) / 0x40 = n := by simp only [R.TP_START_3]; omega
  rw [h3] at h ⊢
  rw [State.regWrite_start n 3 v m h, State.wTimeIo]
  rw [← h3] at hb hc ⊢
  simp only [hb, hc, hn, State.store_eq _ _ _ hr0 (by decide) hc0, State.store_eq _ _ _ hr1 (by decide) hc1,
    State.store_eq _ _ _ hr2 (by decide) hc2, State.store_eq _ _ _ hr3 (by decide) hc3]
  rfl

/-- What the four words of a start hold once they are committed. -/
theorem State.startSet_holds (s : State) (n : Nat) (w0 w1 w2 w3 : Word) :
    ((s.startSet n w0 w1 w2 w3).get (F.TP_START_0.FRAC n) = bitsOf w0 31 16
      ∧ (s.startSet n w0 w1 w2 w3).get (F.TP_START_1.NS n) = min 999999999 (bitsOf w1 29 0))
    ∧ (s.startSet n w0 w1 w2 w3).rd (R.TP_START_2 n) = w2 ∧ (s.startSet n w0 w1 w2 w3).get (F.TP_START_3.SEC_HI n) = bitsOf w3 15 0 := by
  have h01 : R.TP_START_0 n ≠ R.TP_START_1 n := by simp only [R.TP_START_0, R.TP_START_1]; omega
  have h02 : R.TP_START_0 n ≠ R.TP_START_2 n := by simp only [R.TP_START_0, R.TP_START_2]; omega
  have h03 : R.TP_START_0 n ≠ R.TP_START_3 n := by simp only [R.TP_START_0, R.TP_START_3]; omega
  have h12 : R.TP_START_1 n ≠ R.TP_START_2 n := by simp only [R.TP_START_1, R.TP_START_2]; omega
  have h13 : R.TP_START_1 n ≠ R.TP_START_3 n := by simp only [R.TP_START_1, R.TP_START_3]; omega
  have h23 : R.TP_START_2 n ≠ R.TP_START_3 n := by simp only [R.TP_START_2, R.TP_START_3]; omega
  unfold State.startSet
  dsimp only
  refine ⟨⟨?_, ?_⟩, ?_, ?_⟩
  · rw [State.get_set_other _ _ h03, State.get_set_other _ _ h02, State.get_set_other _ _ h01,
      State.get_set_same _ (F.TP_START_0.FRAC n) _ (Nat.le_add_left 16 15) (Nat.lt_add_one 31)]
    exact Nat.mod_eq_of_lt (bitsOf_lt w0 31 16)
  · have hlt := bitsOf_lt w1 29 0
    rw [State.get_set_other _ _ h13, State.get_set_other _ _ h12,
      State.get_set_same _ (F.TP_START_1.NS n) _ (Nat.zero_le 29) (by decide : 29 < 32)]
    simp only [F.TP_START_1.NS, clampN]
    omega
  · rw [State.rd_set_other _ _ h23]
    exact (State.rd_wr_same _ (R.TP_START_2 n) _).trans (withBits_whole _ _)
  · rw [State.get_set_same _ (F.TP_START_3.SEC_HI n) _ (Nat.zero_le 15) (by decide : 15 < 32)]
    exact Nat.mod_eq_of_lt (bitsOf_lt w3 15 0)

theorem onlyRegs_startSet (s : State) (n : Nat) (w0 w1 w2 w3 : Word) :
    s.onlyRegs (s.startSet n w0 w1 w2 w3) [R.TP_START_0 n, R.TP_START_1 n, R.TP_START_2 n, R.TP_START_3 n] :=
  onlyRegs_set (onlyRegs_set (onlyRegs_set (onlyRegs_set (onlyRegs_refl s _) (f := F.TP_START_0.FRAC n) (by simp [F.TP_START_0.FRAC]) _)
    (f := F.TP_START_1.NS n) (by simp [F.TP_START_1.NS]) _) (f := F.TP_START_2.SEC_LO n) (by simp [F.TP_START_2.SEC_LO]) _)
    (f := F.TP_START_3.SEC_HI n) (by simp [F.TP_START_3.SEC_HI]) _

/-- The four words of a start are up or down together. -/
theorem State.isDown_start (s : State) (n i : Fin 4) :
    s.isDown (R.TP_START_0 n + 4 * i) = (!s.domOn 2 || s.stoppedClocks.contains (0x14, 0)) := by
  have hf (n i : Fin 4) : ((rowAt (R.TP_START_0 n + 4 * i)).isSome = true ∧ isHeader (R.TP_START_0 n + 4 * i) = false)
      ∧ holdingDomain (R.TP_START_0 n + 4 * i) = 2 ∧ homeClocks (R.TP_START_0 n + 4 * i) = [(0x14, 0)] := by
    revert n i
    decide +kernel
  obtain ⟨⟨hr, hh⟩, hd, hc⟩ := hf n i
  have hlt : ¬ R.TP_START_0 n + 4 * i < 0x400000 := by simp only [R.TP_START_0]; omega
  simp [State.isDown, hr, hh, hd, hc, hlt]

/-- A path that may write one word of a start may write the others. -/
theorem mayWrite_start {s : State} {p : Path} {n : Fin 4} (i j : Fin 4) (h : s.mayWrite p (R.TP_START_0 n + 4 * i)) :
    s.mayWrite p (R.TP_START_0 n + 4 * j) := by
  obtain ⟨hu, hd, hr⟩ := h
  rw [State.isDown_start] at hd
  exact ⟨hu, (s.isDown_start n j).trans hd, hr⟩

theorem mayWrite_stage {s : State} {p : Path} {a : Nat} (b : Nat) (w : Word) (h : s.mayWrite p a) : (s.stage p b w).mayWrite p a := h

theorem wideLowerWrite_stages (s : State) (path : Path) (n : Fin 4) (i : Fin 3) (value : Word) (amb : Ambient)
    (h : s.mayWrite path (R.TP_START_0 n + 4 * i)) (hm : amb.more = []) :
    ∃ t, exec (.wideLowerWrite path (R.TP_START_0 n + 4 * i) value amb) s = .next t
      ∧ t.staged path (R.TP_START_0 n + 4 * i) = value ∧ t.regs = s.regs ∧ t.mem = s.mem := by
  refine ⟨s.stage path (R.TP_START_0 n + 4 * i) value, ?_, s.staged_stage_same _ _ _, rfl, rfl⟩
  rw [exec_wideLowerWrite, hm, State.writeWords_nil]
  exact congrArg Host.Outcome.next (State.regWrite_startLow n i.castSucc i.isLt value amb h)

theorem wideUpperWrite_commits (s : State) (path : Path) (n : Fin 4) (value : Word) (amb : Ambient)
    (h : s.mayWrite path (R.TP_START_3 n)) :
    ∃ t, exec (.wideUpperWrite path (R.TP_START_3 n) value amb) s = .next t
      ∧ t.get (F.TP_START_0.FRAC n) = bitsOf (s.staged path (R.TP_START_0 n)) 31 16
      ∧ t.get (F.TP_START_1.NS n) = min 999999999 (bitsOf (s.staged path (R.TP_START_1 n)) 29 0)
      ∧ t.rd (R.TP_START_2 n) = s.staged path (R.TP_START_2 n) ∧ t.get (F.TP_START_3.SEC_HI n) = bitsOf value 15 0
      ∧ s.onlyRegs t [R.TP_START_0 n, R.TP_START_1 n, R.TP_START_2 n, R.TP_START_3 n] := by
  obtain ⟨⟨h0, h1⟩, h2, h3⟩ := s.startSet_holds n (s.staged path (R.TP_START_0 n)) (s.staged path (R.TP_START_1 n))
    (s.staged path (R.TP_START_2 n)) value
  exact ⟨_, congrArg Host.Outcome.next (State.regWrite_startUpper n value amb h), h0, h1, h2, h3, onlyRegs_startSet _ _ _ _ _ _⟩

/-- The three lower words of a start held in a path's staging copies. -/
def State.startStaged (s : State) (p : Path) (n : Nat) (w0 w1 w2 : Word) : State :=
  ((s.stage p (R.TP_START_0 n) w0).stage p (R.TP_START_1 n) w1).stage p (R.TP_START_2 n) w2

theorem State.startStaged_holds (s : State) (p : Path) (n : Nat) (w0 w1 w2 : Word) :
    (s.startStaged p n w0 w1 w2).staged p (R.TP_START_0 n) = w0 ∧ (s.startStaged p n w0 w1 w2).staged p (R.TP_START_1 n) = w1
      ∧ (s.startStaged p n w0 w1 w2).staged p (R.TP_START_2 n) = w2 := by
  have h01 : R.TP_START_0 n ≠ R.TP_START_1 n := by simp only [R.TP_START_0, R.TP_START_1]; omega
  have h02 : R.TP_START_0 n ≠ R.TP_START_2 n := by simp only [R.TP_START_0, R.TP_START_2]; omega
  have h12 : R.TP_START_1 n ≠ R.TP_START_2 n := by simp only [R.TP_START_1, R.TP_START_2]; omega
  refine ⟨?_, ?_, State.staged_stage_same _ _ _ _⟩
  · rw [State.startStaged, State.staged_stage_other _ _ _ h02, State.staged_stage_other _ _ _ h01, State.staged_stage_same]
  · rw [State.startStaged, State.staged_stage_other _ _ _ h12, State.staged_stage_same]

/-- One request of four words stages three and commits. -/
theorem State.regWrite_startWords {s : State} {p : Path} (n : Fin 4) (w0 w1 w2 w3 : Word) (m : Ambient)
    (h : s.mayWrite p (R.TP_START_0 n)) :
    (s.regWrite p (R.TP_START_0 n) w0 m).writeWords p (R.TP_START_0 n + 4) [w1, w2, w3] m
      = (s.startStaged p n w0 w1 w2).startSet n w0 w1 w2 w3 := by
  have h1 : R.TP_START_1 n = R.TP_START_0 n + 4 := by simp only [R.TP_START_0, R.TP_START_1]; omega
  have h2 : R.TP_START_2 n = R.TP_START_0 n + 4 + 4 := by simp only [R.TP_START_0, R.TP_START_2]; omega
  have h3 : R.TP_START_3 n = R.TP_START_0 n + 4 + 8 := by simp only [R.TP_START_0, R.TP_START_3]; omega
  have hl (t : State) (ht : t.mayWrite p (R.TP_START_0 n)) (i : Fin 4) (hi : i < 3) (w : Word) :
      t.regWrite p (R.TP_START_0 n + 4 * i) w m = t.stage p (R.TP_START_0 n + 4 * i) w :=
    State.regWrite_startLow n i hi w m (mayWrite_start 0 i ht)
  have m1 := mayWrite_stage (R.TP_START_0 n) w0 h
  have m2 := mayWrite_stage (R.TP_START_1 n) w1 m1
  have m3 : (s.startStaged p n w0 w1 w2).mayWrite p (R.TP_START_3 n) := by
    rw [h3]
    exact mayWrite_start 0 3 (mayWrite_stage (R.TP_START_2 n) w2 m2)
  obtain ⟨g0, g1, g2⟩ := s.startStaged_holds p n w0 w1 w2
  calc (s.regWrite p (R.TP_START_0 n) w0 m).writeWords p (R.TP_START_0 n + 4) [w1, w2, w3] m
      = (((s.regWrite p (R.TP_START_0 n) w0 m).regWrite p (R.TP_START_1 n) w1 m).regWrite p (R.TP_START_2 n) w2 m).regWrite p
          (R.TP_START_3 n) w3 m := by rw [h1, h2, h3]; rfl
    _ = (((s.stage p (R.TP_START_0 n) w0).regWrite p (R.TP_START_1 n) w1 m).regWrite p (R.TP_START_2 n) w2 m).regWrite p
          (R.TP_START_3 n) w3 m := by rw [show s.regWrite p (R.TP_START_0 n) w0 m = _ from hl s h 0 (by decide) w0]; rfl
    _ = (((s.stage p (R.TP_START_0 n) w0).stage p (R.TP_START_1 n) w1).regWrite p (R.TP_START_2 n) w2 m).regWrite p
          (R.TP_START_3 n) w3 m := by rw [h1, show State.regWrite _ p (R.TP_START_0 n + 4) w1 m = _ from hl _ m1 1 (by decide) w1]; rfl
    _ = (s.startStaged p n w0 w1 w2).regWrite p (R.TP_START_3 n) w3 m := by
      rw [h2, show State.regWrite _ p (R.TP_START_0 n + 4 + 4) w2 m = _ from hl _ m2 2 (by decide) w2, State.startStaged, h2]; rfl
    _ = _ := by rw [State.regWrite_startUpper n w3 m m3, g0, g1, g2]

theorem wideLowerWrite_commits (s : State) (path : Path) (n : Fin 4) (w0 w1 w2 w3 : Word) (amb : Ambient)
    (h : s.mayWrite path (R.TP_START_0 n)) (hm : amb.more = [w1, w2, w3]) :
    ∃ t, exec (.wideLowerWrite path (R.TP_START_0 n) w0 amb) s = .next t ∧ t.get (F.TP_START_0.FRAC n) = bitsOf w0 31 16
      ∧ t.get (F.TP_START_1.NS n) = min 999999999 (bitsOf w1 29 0) ∧ t.rd (R.TP_START_2 n) = w2
      ∧ t.get (F.TP_START_3.SEC_HI n) = bitsOf w3 15 0
      ∧ s.keepsRegs t [R.TP_START_0 n, R.TP_START_1 n, R.TP_START_2 n, R.TP_START_3 n] ∧ t.mem = s.mem := by
  obtain ⟨⟨h0, h1⟩, h2, h3⟩ := (s.startStaged path n w0 w1 w2).startSet_holds n w0 w1 w2 w3
  refine ⟨_, ?_, h0, h1, h2, h3, (onlyRegs_startSet _ _ _ _ _ _).2, rfl⟩
  rw [exec_wideLowerWrite, hm, State.regWrite_startWords n w0 w1 w2 w3 amb h]

/-- Settles O8: one lemma for each kind of access. -/
theorem narrowAndWideAccesses : Obligations.NarrowAndWideAccesses :=
  ⟨narrowWrite_counts, rcRead_clears, wideLowRead_latches, wideUpperRead_shadow, wideLowerWrite_stages, wideUpperWrite_commits,
    wideLowerWrite_commits⟩

end Sys2Proof.Machine
end

section
/-!
Statement. What the part holds at reset (R3, R255).
-/
namespace Sys2Proof.Machine
open Sys2Proof

/-- No register is stored at reset: each reads its reset value. -/
theorem State.rd_reset (a : Nat) : State.reset.rd a = resetWord a := rfl

theorem resetWord_hkadcCal (j : Fin 128) : resetWord (R.HKADC_CAL_OFS j) = 0 ∧ resetWord (R.HKADC_CAL_G j) = 0x400000 := by
  revert j
  decide +kernel

theorem resetWord_qualCfg (q : Fin 15) : resetWord (R.PINS_QUAL_CFG q) = match q.val with
    | 0 => 0x01064150 | 1 => 0x013E8110 | 2 => 0x0100A108 | 3 | 4 => 0x64064008 | 5 | 6 => 0xFF | _ => 0x00064008 := by
  revert q
  decide +kernel

/-- Settles O3: the stores and the queue are empty, and the registers named read their reset values. -/
theorem resetHoldsTheGivenValues : Obligations.ResetHoldsTheGivenValues :=
  ⟨by decide +kernel, rfl, rfl, (State.rd_reset _).trans (by decide +kernel), (State.rd_reset _).trans (by decide +kernel),
    resetWord_hkadcCal, resetWord_qualCfg⟩

end Sys2Proof.Machine
end

section
/-!
SUPPORT and statement. The local clock: set, stepped, slewed, and advanced by a second (R184 to R188).
-/
namespace Sys2Proof.Machine
open Sys2Proof

/-! ### Fields of one register -/

/-- Whether two fields share no bit. -/
def apart (f g : Fld) : Bool := f.addr ≠ g.addr || f.hi < g.lo || g.hi < f.lo

/-- Setting a field leaves those apart from it. -/
theorem State.get_set_apart (s : State) {f g : Fld} (v : Nat) (h1 : g.lo ≤ g.hi) (h2 : g.hi < 32) (h : apart f g = true) :
    (s.set g v).get f = s.get f := by
  simp only [apart, Bool.or_eq_true, decide_eq_true_eq] at h
  obtain (h | h) | h := h
  · exact s.get_set_other v h
  · exact s.get_set_below v h1 h2 h
  · exact s.get_set_above v h1 h2 h

/-- A one-bit field that was set reads as set. -/
theorem State.on_setB_same (s : State) (f : Fld) (b : Bool) (h1 : f.hi = f.lo) (h2 : f.hi < 32) : (s.setB f b).on f = b := by
  have hk : f.hi + 1 - f.lo = 1 := by omega
  rw [State.on, State.setB, s.get_set_same f _ h1.ge h2, hk]
  cases b <;> rfl

/-! ### What leaves the clock alone -/

/-- What the settings of the clock are about: its time, the slew that is left, the memories and the queue. -/
def State.hands (s : State) : Clock × Int × MemSt × List Instr := (s.clock, s.time.slew, s.mem, s.pending)

theorem State.of_hands {s : State} {c : Clock} {n : Int} {m : MemSt} {q : List Instr} (h : s.hands = (c, n, m, q)) :
    (s.clock = c ∧ s.time.slew = n) ∧ s.mem = m ∧ s.pending = q := by
  simpa only [State.hands, Prod.mk.injEq, and_assoc] using h

/-- Interrupts and events leave the hands. -/
theorem State.hands_of_hushed {s t : State} (h : t.hushed = s.hushed) : t.hands = s.hands := by
  change t.hushed.hands = s.hushed.hands
  rw [h]

theorem State.timeRaise_hands (s : State) (bit code : Nat) : (s.timeRaise bit code).hands = s.hands :=
  State.hands_of_hushed (s.raiseEvent_hushed _ _ _)

theorem State.set_hands (s : State) (f : Fld) (v : Nat) : (s.set f v).hands = s.hands := rfl

theorem State.onPulse_hands (s : State) (n : Nat) (f : PulseSt → PulseSt) : (s.onPulse n f).hands = s.hands := rfl

theorem State.timeShow_hands (s : State) : s.timeShow.hands = s.hands := by
  unfold State.timeShow
  dsimp only [State.setB, State.setS]
  rw [State.set_hands, State.set_hands, State.set_hands, State.set_hands]

theorem State.servoStop_hands (s : State) : s.servoStop.hands = s.hands := by
  rw [State.servoStop, State.timeShow_hands]
  rfl

theorem State.toTt_hands (s : State) (st : Nat) : (s.toTt st).hands = s.hands := by
  unfold State.toTt
  dsimp only
  split
  · split
    · rw [State.servoStop_hands]
      rfl
    · split <;> rfl
  · rfl

theorem State.pulseShow_hands (s : State) (n : Nat) {f : State → State} (h : (f s).hands = s.hands) : (s.pulseShow n f).hands = s.hands := by
  unfold State.pulseShow
  split
  · exact h
  · exact h

theorem State.issueEdge_hands (s : State) (n : Nat) : (s.issueEdge n).hands = s.hands := by
  unfold State.issueEdge
  split
  · refine s.pulseShow_hands n ?_
    dsimp only
    split
    · split
      · exact (State.set_hands _ _ _).trans (State.onPulse_hands _ _ _)
      · exact State.onPulse_hands _ _ _
    · exact State.onPulse_hands _ _ _
  · rfl

theorem State.passEdge_hands (s : State) (n : Nat) : (s.passEdge n).hands = s.hands := by
  unfold State.passEdge
  dsimp only
  split
  · split
    · exact (State.onPulse_hands _ _ _).trans (s.issueEdge_hands n)
    · exact s.issueEdge_hands n
  · rfl

/-- A set clock shows what it was set to; the edges passed change nothing else (R200). -/
theorem State.clockTo_hands (s : State) (n : Int) : (s.clockTo n).hands = (Clock.ofTicks n, s.time.slew, s.mem, s.pending) := by
  unfold State.clockTo
  dsimp only
  split
  · exact foldl_keeps State.hands State.passEdge State.passEdge_hands _ _
  · rfl

/-! ### The registers that follow the slew and the servo (R203) -/

/-- Whether a field is none of those that follow the slew and the servo. -/
def unshown (f : Fld) : Bool :=
  [F.TIME_STATUS.SLEWING, F.TIME_STATUS.SERVO_ACTIVE, F.TIME_ADJ_REMAIN.NS, F.TIME_FREQ_APPLIED.F].all (apart f)

theorem State.timeShow_get (s : State) {f : Fld} (h : unshown f = true) : s.timeShow.get f = s.get f := by
  simp only [unshown, List.all_cons, List.all_nil, Bool.and_true, Bool.and_eq_true] at h
  obtain ⟨h1, h2, h3, h4⟩ := h
  unfold State.timeShow
  dsimp only [State.setB, State.setS]
  rw [State.get_set_apart _ _ (by decide) (by decide) h4, State.get_set_apart _ _ (by decide) (by decide) h3,
    State.get_set_apart _ _ (by decide) (by decide) h2, State.get_set_apart _ _ (by decide) (by decide) h1]

theorem State.timeShow_slewing (s : State) : s.timeShow.on F.TIME_STATUS.SLEWING = decide (s.time.slew ≠ 0) := by
  refine Eq.trans ?_ (s.on_setB_same F.TIME_STATUS.SLEWING (s.time.slew ≠ 0) rfl (by decide))
  unfold State.timeShow State.on
  dsimp only [State.setS]
  rw [State.get_set_apart _ _ (by decide) (by decide) (by decide), State.get_set_apart _ _ (by decide) (by decide) (by decide)]
  exact congrArg (· != 0) (State.get_set_apart _ _ (by decide) (by decide) (by decide))

theorem onlyRegs_timeShow {s0 s : State} {l : List Nat} (h : s0.onlyRegs s l) (h1 : R.TIME_STATUS ∈ l) (h2 : R.TIME_ADJ_REMAIN ∈ l)
    (h3 : R.TIME_FREQ_APPLIED ∈ l) : s0.onlyRegs s.timeShow l :=
  onlyRegs_setS (onlyRegs_setS (onlyRegs_setB (onlyRegs_setB h (f := F.TIME_STATUS.SLEWING) h1 _) (f := F.TIME_STATUS.SERVO_ACTIVE) h1 _)
    (f := F.TIME_ADJ_REMAIN.NS) h2 _) (f := F.TIME_FREQ_APPLIED.F) h3 _

/-! ### The line transfer's state (Table 9.3) -/

theorem State.toTt_get (s : State) (st : Nat) {f : Fld} (h : unshown f = true) :
    (s.toTt st).get f = (s.set F.TIME_STATUS.TT_STATE st).get f := by
  unfold State.toTt
  dsimp only
  split
  · split
    · exact State.timeShow_get _ h
    · split <;> rfl
  · rfl

theorem State.timeRaise_get (s : State) (bit code : Nat) {f : Fld} (h : ordinary f.addr) : (s.timeRaise bit code).get f = s.get f :=
  s.raiseEvent_get _ _ _ h

theorem ordinary_status : ordinary R.TIME_STATUS := ⟨by decide, by decide⟩

/-! ### Setting and adjusting (R186, R187) -/

theorem exec_timeSetCommit {s : State} {p : Path} (v : Word) (h : s.mayWrite p R.TIME_SET_3) :
    exec (.timeSetCommit p v) s
      = .next (s.timeSet (clockOfWords (s.staged p R.TIME_SET_0) (s.staged p R.TIME_SET_1) (s.staged p R.TIME_SET_2) v)) :=
  congrArg Host.Outcome.next (State.rwWrite_accepted h _)

theorem exec_invalidate {s : State} {p : Path} (h : s.mayWrite p R.TIME_CTRL) :
    exec (.invalidate p) s = .next (s.set F.TIME_STATUS.VALID 0) :=
  congrArg Host.Outcome.next (State.rwWrite_accepted h _)

theorem exec_timeAdjCommit {s : State} {p : Path} (v : Word) (h : s.mayWrite p R.TIME_ADJ_HI) :
    exec (.timeAdjCommit p v) s
      = .next (s.timeAdjust (toSigned 32 v.toNat * 65536 + (bitsOf (s.staged p R.TIME_ADJ_LO) 31 16 : Int))) :=
  congrArg Host.Outcome.next (State.rwWrite_accepted h _)

theorem exec_slewComplete {s : State} (h : s.timeRuns = true) : exec .slewComplete s = .next s.slewDone :=
  congrArg Host.Outcome.next (if_pos h)

/-- The clock set, its slew cancelled and VALID set, before its line transfer starts anew. -/
def State.clockSet (s : State) (t : Clock) : State :=
  ((s.clockTo t.ticks).onTime fun x => { x with slew := 0 }).set F.TIME_STATUS.VALID 1

theorem State.timeSet_eq (s : State) (t : Clock) : s.timeSet t = (((s.clockSet t).toTt 1).timeShow).timeRaise 4 0x1405 := by
  rw [State.timeSet, State.clockSet]

theorem State.clockSet_hands (s : State) (t : Clock) : (s.clockSet t).hands = (Clock.ofTicks t.ticks, 0, s.mem, s.pending) := by
  obtain ⟨⟨hc, -⟩, hm, hp⟩ := State.of_hands (s.clockTo_hands t.ticks)
  rw [State.clockSet, State.set_hands]
  simp only [State.hands, State.onTime, hc, hm, hp]

theorem State.timeSet_hands (s : State) (t : Clock) : (s.timeSet t).hands = (Clock.ofTicks t.ticks, 0, s.mem, s.pending) := by
  rw [State.timeSet_eq, State.timeRaise_hands, State.timeShow_hands, State.toTt_hands, State.clockSet_hands]

theorem State.timeSet_status (s : State) (t : Clock) :
    (s.timeSet t).on F.TIME_STATUS.VALID = true ∧ (s.timeSet t).on F.TIME_STATUS.SLEWING = false ∧ (s.timeSet t).ttState = 1 := by
  have hs : ((s.clockSet t).toTt 1).time.slew = 0 :=
    (State.of_hands ((State.toTt_hands _ 1).trans (s.clockSet_hands t))).1.2
  rw [State.timeSet_eq]
  refine ⟨?_, ?_, ?_⟩
  · rw [State.on, State.timeRaise_get _ _ _ ordinary_status, State.timeShow_get _ (by decide), State.toTt_get _ _ (by decide),
      State.get_set_apart _ _ (by decide) (by decide) (by decide), State.clockSet, State.get_set_same _ _ _ (by decide) (by decide)]
    decide
  · rw [State.on, State.timeRaise_get _ _ _ ordinary_status]
    exact (State.timeShow_slewing _).trans (by simp [hs])
  · rw [State.ttState, State.timeRaise_get _ _ _ ordinary_status, State.timeShow_get _ (by decide), State.toTt_get _ _ (by decide),
      State.get_set_same _ _ _ (by decide) (by decide)]
    decide

theorem State.clockStep_hands (s : State) (units : Int) :
    (s.clockStep units).hands = (Clock.ofTicks (s.clock.ticks + units * 65536), s.time.slew, s.mem, s.pending) := s.clockTo_hands _

/-- An offset added to the slew that is left. -/
def State.slewBy (s : State) (units : Int) : State := s.onTime fun t => { t with slew := t.slew + units }

theorem State.timeAdjust_slew {s : State} (units : Int) (h : s.on F.TIME_ADJ_CTRL.MODE = true) :
    s.timeAdjust units = (s.slewBy units).timeShow := by
  rw [State.timeAdjust, if_pos h, State.slewBy]

theorem State.timeAdjust_step {s : State} (units : Int) (h : s.on F.TIME_ADJ_CTRL.MODE = false) :
    s.timeAdjust units = (s.clockStep units).timeRaise 5 0x1406 := by
  rw [State.timeAdjust, h, if_neg Bool.false_ne_true]

/-- The clock moved by the slew that was left, none being left. -/
def State.slewSpent (s : State) : State :=
  { s with clock := Clock.ofTicks (s.clock.ticks + s.time.slew * 65536) }.onTime fun t => { t with slew := 0 }

theorem State.slewDone_eq (s : State) : s.slewDone = s.slewSpent.timeShow := by
  rw [State.slewDone, State.slewSpent]

/-! ### A second (R184) -/

/-- With no slew left a second passes at the frequency without a slew term. -/
theorem State.clockSecond_unslewed {s : State} (h : s.time.slew = 0) :
    s.clockSecond.hands
      = (Clock.ofTicks (s.clock.ticks + secTicks + clampI (-freqTop * 256) (freqTop * 256) (s.baseFreq * 256) * 65536), 0, s.mem, s.pending) := by
  have ht : s.slewTerm = 0 := by simp [State.slewTerm, h]
  have hz (x : Int) : clampI 0 0 x = 0 := by unfold clampI; omega
  unfold State.clockSecond
  dsimp only
  rw [State.timeShow_hands]
  simp only [ht, h, Int.zero_mul, min_self, if_neg (Int.lt_irrefl 0), Int.add_zero, hz, State.hands, State.onTime, Int.sub_zero]

/-- What a second with no image on trial is about: the hands, and the seconds of the trial left. -/
def State.secondView (s : State) : (Clock × Int × MemSt × List Instr) × Nat := (s.hands, s.get F.SEC_FW_STATUS.TRIAL_LEFT)

theorem State.secondView_of {s t : State} (h : t.hands = s.hands) (hr : t.rd R.SEC_FW_STATUS = s.rd R.SEC_FW_STATUS) :
    t.secondView = s.secondView := by
  rw [State.secondView, State.secondView, h, State.get, State.get]
  exact congrArg (fun w => (s.hands, bitsOf w _ _)) hr

theorem State.secondView_of_hushed {s t : State} (h : t.hushed = s.hushed) (hr : t.rd R.SEC_FW_STATUS = s.rd R.SEC_FW_STATUS) :
    t.secondView = s.secondView := State.secondView_of (State.hands_of_hushed h) hr

theorem State.set_secondView (s : State) {f : Fld} (v : Nat) (h : R.SEC_FW_STATUS ≠ f.addr) : (s.set f v).secondView = s.secondView :=
  State.secondView_of (s.set_hands f v) (s.rd_set_other v h)

theorem ordinary_fwStatus : ordinary R.SEC_FW_STATUS := ⟨by decide, by decide⟩

theorem State.sessionEnd_secondView (s : State) {p : Nat} (h : p < 4) : (s.sessionEnd p).secondView = s.secondView := by
  have hne : R.SEC_FW_STATUS ≠ R.SEC_SESSION p := by simp only [R.SEC_FW_STATUS, R.SEC_SESSION]; omega
  unfold State.sessionEnd
  split
  · refine (State.secondView_of_hushed (State.raise_hushed _ _ _) (State.raise_rd _ _ _ ordinary_fwStatus)).trans ?_
    exact State.secondView_of rfl (s.rd_wr_other 0 hne)
  · rfl

theorem State.idleSecond_secondView (s : State) {p : Nat} (h : p < 4) : (s.idleSecond p).secondView = s.secondView := by
  unfold State.idleSecond
  split
  · rfl
  · split
    · exact s.sessionEnd_secondView h
    · exact s.set_secondView _ (by simp only [R.SEC_FW_STATUS, F.SEC_SESSION.IDLE_LEFT, R.SEC_SESSION]; omega)

theorem State.lockoutSecond_secondView (s : State) {r : Nat} (h : r < 4) : (s.lockoutSecond r).secondView = s.secondView :=
  s.set_secondView _ (by simp only [R.SEC_FW_STATUS, F.SEC_LOCKOUT.LEFT, R.SEC_LOCKOUT]; omega)

theorem State.ageSecond_secondView (s : State) (n : Nat) : (s.ageSecond n).secondView = s.secondView := by
  unfold State.ageSecond
  split
  · rfl
  · exact s.set_secondView _ (by simp only [R.SEC_FW_STATUS, F.LINK_NB_INFO.AGE, R.LINK_NB_INFO]; omega)

theorem State.statAdd_secondView (s : State) (n : Nat → Nat) : (s.statAdd n).secondView = s.secondView :=
  State.secondView_of_hushed (s.statAdd_hushed n) (s.statAdd_rd n ordinary_fwStatus)

theorem State.calSecond_secondView (s : State) : s.calSecond.secondView = s.secondView := State.secondView_of rfl rfl

/-- A fold over the numbers below `n` keeps a view that each of its steps keeps. -/
theorem foldl_range_keeps {β : Type} (g : State → β) (f : State → Nat → State) (n : Nat) (h : ∀ s k, k < n → g (f s k) = g s)
    (s : State) : g ((List.range n).foldl f s) = g s :=
  List.foldlRecOn (motive := fun t => g t = g s) (List.range n) f rfl fun t ht k hk => (h t k (List.mem_range.mp hk)).trans ht

theorem State.clockSecond_trialLeft (s : State) : s.clockSecond.get F.SEC_FW_STATUS.TRIAL_LEFT = s.get F.SEC_FW_STATUS.TRIAL_LEFT := by
  unfold State.clockSecond
  dsimp only
  rw [State.timeShow_get _ (by decide)]
  rfl

theorem State.trialSecond_none {s : State} (h : s.get F.SEC_FW_STATUS.TRIAL_LEFT = 0) : s.trialSecond = s := by
  simp [State.trialSecond, h]

/-- After the clock, a second counts idle sessions, lockouts and ages, and at its end the trial. -/
theorem State.second_secondView (s : State) :
    ∃ u : State, s.second = u.trialSecond ∧ u.secondView = (if s.timeRuns then s.clockSecond else s).secondView := by
  unfold State.second
  dsimp only
  generalize (if s.timeRuns then s.clockSecond else s) = c
  refine ⟨_, rfl, ?_⟩
  rw [foldl_range_keeps State.secondView State.ageSecond 16 fun t n _ => t.ageSecond_secondView n,
    foldl_range_keeps State.secondView State.lockoutSecond 4 fun t _ hr => t.lockoutSecond_secondView hr,
    foldl_range_keeps State.secondView State.idleSecond 4 fun t _ hp => t.idleSecond_secondView hp]
  rw [State.calSecond_secondView, State.statAdd_secondView]
  exact State.secondView_of rfl rfl

/-- A second with no slew left and no image on trial. -/
theorem State.second_hands {s : State} (hr : s.timeRuns = true) (h : s.time.slew = 0) (ht : s.get F.SEC_FW_STATUS.TRIAL_LEFT = 0) :
    s.second.hands
      = (Clock.ofTicks (s.clock.ticks + secTicks + clampI (-freqTop * 256) (freqTop * 256) (s.baseFreq * 256) * 65536), 0, s.mem, s.pending) := by
  obtain ⟨u, hu, hv⟩ := s.second_secondView
  rw [if_pos hr, State.secondView, State.secondView, Prod.mk.injEq, State.clockSecond_trialLeft, ht] at hv
  obtain ⟨hh, hl⟩ := hv
  rw [hu, State.trialSecond_none hl, hh, State.clockSecond_unslewed h]

/-! ### The statement -/

theorem timeSetCommit_sets (s : State) (path : Path) (value : Word) (h : s.mayWrite path R.TIME_SET_3) :
    ∃ t, exec (.timeSetCommit path value) s = .next t ∧ t.clock = Clock.ofTicks (Clock.ticks (clockOfWords (s.staged path R.TIME_SET_0)
        (s.staged path R.TIME_SET_1) (s.staged path R.TIME_SET_2) value))
      ∧ t.on F.TIME_STATUS.VALID = true ∧ t.time.slew = 0 ∧ t.on F.TIME_STATUS.SLEWING = false ∧ t.flag 0x14 4 = true
      ∧ (s.ttState ≠ 0 → t.ttState = 1) ∧ t.mem = s.mem := by
  refine ⟨_, exec_timeSetCommit value h, ?_⟩
  generalize clockOfWords _ _ _ value = c
  obtain ⟨⟨hc, hn⟩, hm, -⟩ := State.of_hands (s.timeSet_hands c)
  obtain ⟨hv, hl, ht⟩ := s.timeSet_status c
  exact ⟨hc, hv, hn, hl, State.raiseEvent_flag _ _ (by decide) (by decide), fun _ => ht, hm⟩

theorem timeAdjCommit_steps (s : State) (path : Path) (value : Word) (h : s.mayWrite path R.TIME_ADJ_HI)
    (hmode : s.on F.TIME_ADJ_CTRL.MODE = false) :
    ∃ t, exec (.timeAdjCommit path value) s = .next t
      ∧ t.clock = Clock.ofTicks (s.clock.ticks + (toSigned 32 value.toNat * 65536
        + (bitsOf (s.staged path R.TIME_ADJ_LO) 31 16 : Int)) * 65536)
      ∧ t.flag 0x14 5 = true ∧ t.time.slew = s.time.slew ∧ t.mem = s.mem := by
  refine ⟨_, exec_timeAdjCommit value h, ?_⟩
  generalize toSigned 32 value.toNat * 65536 + (bitsOf (s.staged path R.TIME_ADJ_LO) 31 16 : Int) = units
  rw [State.timeAdjust_step units hmode]
  obtain ⟨⟨hc, hn⟩, hm, -⟩ := State.of_hands ((State.timeRaise_hands _ 5 0x1406).trans (s.clockStep_hands units))
  exact ⟨hc, State.raiseEvent_flag _ _ (by decide) (by decide), hn, hm⟩

theorem timeAdjCommit_slews (s : State) (path : Path) (value : Word) (h : s.mayWrite path R.TIME_ADJ_HI)
    (hmode : s.on F.TIME_ADJ_CTRL.MODE = true) :
    ∃ t, exec (.timeAdjCommit path value) s = .next t ∧ t.clock = s.clock
      ∧ t.time.slew = s.time.slew + (toSigned 32 value.toNat * 65536 + (bitsOf (s.staged path R.TIME_ADJ_LO) 31 16 : Int))
      ∧ t.on F.TIME_STATUS.SLEWING = decide (t.time.slew ≠ 0)
      ∧ s.keepsRegs t [R.TIME_STATUS, R.TIME_ADJ_REMAIN, R.TIME_FREQ_APPLIED] ∧ t.mem = s.mem := by
  refine ⟨_, exec_timeAdjCommit value h, ?_⟩
  generalize toSigned 32 value.toNat * 65536 + (bitsOf (s.staged path R.TIME_ADJ_LO) 31 16 : Int) = units
  rw [State.timeAdjust_slew units hmode]
  have hh : (s.slewBy units).timeShow.hands = (s.clock, s.time.slew + units, s.mem, s.pending) := State.timeShow_hands _
  obtain ⟨⟨hc, hn⟩, hm, -⟩ := State.of_hands hh
  refine ⟨hc, hn, ?_, (onlyRegs_timeShow (onlyRegs_refl (s.slewBy units) _) (by simp) (by simp) (by simp)).2, hm⟩
  rw [State.timeShow_slewing, hn]
  rfl

theorem slewComplete_ends (s : State) (h : s.timeRuns = true) :
    ∃ t, exec .slewComplete s = .next t ∧ t.time.slew = 0 ∧ t.clock = Clock.ofTicks (s.clock.ticks + s.time.slew * 65536)
      ∧ t.on F.TIME_STATUS.SLEWING = false ∧ t.mem = s.mem := by
  refine ⟨_, exec_slewComplete h, ?_⟩
  rw [State.slewDone_eq]
  have hh : s.slewSpent.timeShow.hands = (Clock.ofTicks (s.clock.ticks + s.time.slew * 65536), 0, s.mem, s.pending) :=
    State.timeShow_hands _
  obtain ⟨⟨hc, hn⟩, hm, -⟩ := State.of_hands hh
  exact ⟨hn, hc, State.timeShow_slewing _, hm⟩

theorem step_second (s : State) (hp : s.pending = []) (hr : s.timeRuns = true) (h : s.time.slew = 0)
    (ht : s.get F.SEC_FW_STATUS.TRIAL_LEFT = 0) :
    ∃ t, step s = .next t
      ∧ t.clock = Clock.ofTicks (s.clock.ticks + secTicks + clampI (-freqTop * 256) (freqTop * 256) (s.baseFreq * 256) * 65536)
      ∧ t.time.slew = 0 ∧ t.pending = [] := by
  obtain ⟨⟨hc, hn⟩, -, hq⟩ := State.of_hands (State.second_hands hr h ht)
  exact ⟨s.second, by rw [step, hp], hc, hn, hq.trans hp⟩

/-- Settles O36: one lemma for each command, and one for the second that passes on an empty queue. -/
theorem clockIsSetAndAdjusted : Obligations.ClockIsSetAndAdjusted :=
  ⟨timeSetCommit_sets, fun _ _ h => ⟨_, exec_invalidate h, rfl⟩, timeAdjCommit_steps, timeAdjCommit_slews, slewComplete_ends, step_second⟩

end Sys2Proof.Machine
end

section
/-!
SUPPORT and statement. A hitless re-plan's switch at a receive chain: what it does to the words that the new groups copied (R58, R72).
-/
namespace Sys2Proof.Machine
open Sys2Proof

/-- A copied word is written back as it is, at whatever address it was copied from, but for the one register with bits of its stage's own. -/
theorem State.restore_eq_wr (s : State) (c : Carrier) {a : Nat} (w : Word) (h : a ≠ R.FURROW_RX_NLC_CTRL c) :
    s.restore c a w = s.wr a w := if_neg h

/-- With no new groups and none released, a chain's switch writes back what was copied and nothing after it. -/
theorem State.rxSwitch_rd_copied {s : State} {c : Carrier} {a : Nat} {w : Word} (hcopy : (s.rx.at c).copy.regs = [(a, w)])
    (ha : a ≠ R.FURROW_RX_NLC_CTRL c) (hbuild : s.plan.build = []) (hbound : s.plan.bound = []) : (s.rxSwitch c).rd a = w := by
  simp [State.rxSwitch, hcopy, hbuild, hbound, State.restore_eq_wr _ c w ha]

/-- RX_SELECTOR_SWITCH at a carrier that is to switch (Table 2.20). -/
theorem exec_rxSelectorSwitch {s : State} {c : Carrier} (h : s.hState = 4) (hc : c ∈ s.rxToSwitch) :
    exec (.rxSelectorSwitch c) s = .next (s.rxSwitch c) :=
  congrArg Host.Outcome.next (if_pos (by simp [h, hc]))

/-- A SWITCHING part whose running plan receives on carrier A (FLAGS bit 1, Table 2.4), with one copied word: that of `PLAN_SWITCH`, zero. -/
def State.strayCopy : State :=
  { State.reset.set F.PLAN_SWITCH.HSTATE 4 with
    plan := { State.reset.plan with running := some ⟨0, 1, 1, [⟨1, 0, 0, [0, 0, 4, 2]⟩]⟩ }
    rx := State.reset.rx.upd .A fun r => { r with copy := { regs := [(R.PLAN_SWITCH, 0)] } } }

/-- The switch at carrier A writes `PLAN_SWITCH`, and so takes the part from SWITCHING to IDLE. -/
theorem State.strayCopy_switch_idle : (State.strayCopy.rxSwitch .A).hState = 0 := by
  have hw : (State.strayCopy.rxSwitch .A).rd R.PLAN_SWITCH = 0 := State.rxSwitch_rd_copied rfl (by decide) rfl rfl
  exact congrArg (bitsOf · 2 0) hw

/-- Refutes O13: its clause on RX_SELECTOR_SWITCH says HSTATE stays SWITCHING in every state, and the switch writes each word that a chain
has copied back to the address it came from. `State.strayCopy` holds a copy of `PLAN_SWITCH` itself. PREPARE_HITLESS copies receive control
registers only (`copiedRegs`), which the clause does not ask of the state. -/
theorem not_hitlessReplanFollowsTable220 : ¬ Obligations.HitlessReplanFollowsTable220 := by
  rintro ⟨-, -, -, -, -, -, -, hswitch, -⟩
  have h4 : State.strayCopy.hState = 4 := by decide +kernel
  have hc : Carrier.A ∈ State.strayCopy.rxToSwitch := by decide +kernel
  obtain ⟨t, ht, -, hstay, -⟩ := hswitch State.strayCopy .A h4 hc
  rw [exec_rxSelectorSwitch h4 hc] at ht
  cases ht
  exact absurd (hstay.symm.trans State.strayCopy_switch_idle) (by decide)

end Sys2Proof.Machine
end

section
/-!
SUPPORT. Frames by place: an operation that writes only some BAR0 words, beside INT_STATUS bits that it sets and what it sends, leaves the
other words, the memories and the internal state of the plan and of self-test as they were. One lemma for each operation that a cold
apply or a shut-down runs.
-/
-- An argument that a tactic fills waits for all declarations before it: elaborated in parallel, such proofs would each hold a thread.
set_option Elab.async false

namespace Sys2Proof.Machine
open Sys2Proof

/-- From `s0` to `s` only BAR0 words of a set were written, beside INT_STATUS bits that were set: other words read as before, INT_STATUS bits
outside the set stay, and the memories and the internal state of the plan and of self-test are as they were. -/
structure Frame (W : Nat → Prop) (s0 s : State) : Prop where
  mem : s.mem = s0.mem
  plan : s.plan = s0.plan
  bist : s.bist = s0.bist
  regs : ∀ x, ordinary x → ¬ W x → s.rd x = s0.rd x
  flags : ∀ b k, b < 128 → ¬ W (intStatus b) → s0.flag b k = true → s.flag b k = true

/-- Only words from an address on were written. Registers of a block lie above its base whatever their indices are, so that a plan's own
numbers cannot make an operation write below the block. -/
abbrev Above (n : Nat) : State → State → Prop := Frame (n ≤ ·)

/-! ### Composing frames -/

section
variable {W : Nat → Prop} {s0 s t : State}

theorem Frame.refl (W : Nat → Prop) (s : State) : Frame W s s := ⟨rfl, rfl, rfl, fun _ _ _ => rfl, fun _ _ _ _ h => h⟩

theorem Frame.trans (h : Frame W s0 s) (k : Frame W s t) : Frame W s0 t :=
  ⟨k.mem.trans h.mem, k.plan.trans h.plan, k.bist.trans h.bist, fun x hx hn => (k.regs x hx hn).trans (h.regs x hx hn),
    fun b i hb hn hf => k.flags b i hb hn (h.flags b i hb hn hf)⟩

theorem Frame.get (h : Frame W s0 s) {f : Fld} (hx : ordinary f.addr) (hn : ¬ W f.addr) : s.get f = s0.get f := by
  rw [State.get, State.get, h.regs _ hx hn]

theorem Frame.ite {a b : State} {c : Prop} [Decidable c] (ha : Frame W s0 a) (hb : Frame W s0 b) : Frame W s0 (if c then a else b) := by
  split <;> assumption

theorem Frame.foldl {α : Type} {f : State → α → State} {l : List α} (h : Frame W s0 s)
    (hf : ∀ s x, x ∈ l → Frame W s0 s → Frame W s0 (f s x)) : Frame W s0 (l.foldl f s) :=
  List.foldlRecOn (motive := Frame W s0) l f h fun s hs x hx => hf s x hx hs

/-- Updates of other fields of State than the register file, the memories, the plan and self-test. -/
theorem Frame.fields (h : Frame W s0 s) (hr : t.regs = s.regs := by rfl) (hm : t.mem = s.mem := by rfl) (hp : t.plan = s.plan := by rfl)
    (hb : t.bist = s.bist := by rfl) : Frame W s0 t :=
  h.trans ⟨hm, hp, hb, fun x _ _ => congrArg (Store.read resetWord · x) hr, fun b k hb _ hf => flagsKept_regs hr b k hb hf⟩

/-- What interrupts and events do. -/
theorem Frame.quiet (h : Frame W s0 s) (ht : t.hushed = s.hushed) (hr : ∀ x, ordinary x → t.rd x = s.rd x) (hf : FlagsKept s t) :
    Frame W s0 t := by
  have hm := congrArg State.mem ht
  have hp := congrArg State.plan ht
  have hb := congrArg State.bist ht
  exact h.trans ⟨hm, hp, hb, fun x hx _ => hr x hx, fun b k hb _ => hf b k hb⟩

/-- A word of the set is written. A word of a block whose base is `n` or beyond lies in the set of the words from `n` on. -/
theorem Frame.wr (h : Frame W s0 s) {a : Nat} {w : Word}
    (ha : W a := by
      refine Nat.le_trans (by assumption) ?_
      repeat first | decide | exact Nat.add_le_add_right (by decide) _ | apply Nat.le_add_right_of_le) :
    Frame W s0 (s.wr a w) := by
  have hne (x : Nat) (hn : ¬ W x) : x ≠ a := fun e => hn (e.symm ▸ ha)
  refine h.trans ⟨rfl, rfl, rfl, fun x _ hn => s.rd_wr_other w (hne x hn), fun b k _ hn hf => ?_⟩
  rwa [State.flag, s.rd_wr_other w (hne _ hn)]

theorem Frame.set (h : Frame W s0 s) {f : Fld} {v : Nat}
    (ha : W f.addr := by
      refine Nat.le_trans (by assumption) ?_
      repeat first | decide | exact Nat.add_le_add_right (by decide) _ | apply Nat.le_add_right_of_le) :
    Frame W s0 (s.set f v) := h.wr ha

/-- A word of a carrier's that lies in a range which the set covers. -/
theorem Frame.setIn (h : Frame W s0 s) {l u : Nat} (hW : ∀ a, l ≤ a → a < u → W a) {f : Fld} {v : Nat}
    (hf : l ≤ f.addr ∧ f.addr < u := by cases ‹Carrier› <;> decide) : Frame W s0 (s.set f v) := h.set (hW _ hf.1 hf.2)

theorem Frame.send (h : Frame W s0 s) {o : Out} : Frame W s0 (s.send o) := h.fields

theorem Frame.onPower (h : Frame W s0 s) {f : PowerSt → PowerSt} : Frame W s0 (s.onPower f) := h.fields
theorem Frame.onSec (h : Frame W s0 s) {f : SecSt → SecSt} : Frame W s0 (s.onSec f) := h.fields
theorem Frame.onSession (h : Frame W s0 s) {p : Nat} {f : SessionSt → SessionSt} : Frame W s0 (s.onSession p f) := h.fields
theorem Frame.onLine (h : Frame W s0 s) {c : Carrier} {f : LineSt → LineSt} : Frame W s0 (s.onLine c f) := h.fields
theorem Frame.onLink (h : Frame W s0 s) {c : Carrier} {f : LinkSt → LinkSt} : Frame W s0 (s.onLink c f) := h.fields
theorem Frame.onRx (h : Frame W s0 s) {c : Carrier} {f : RxSt → RxSt} : Frame W s0 (s.onRx c f) := h.fields
theorem Frame.onTx (h : Frame W s0 s) {c : Carrier} {f : TxSt → TxSt} : Frame W s0 (s.onTx c f) := h.fields
theorem Frame.onTime (h : Frame W s0 s) {f : TimeSt → TimeSt} : Frame W s0 (s.onTime f) := h.fields
theorem Frame.onHead (h : Frame W s0 s) {f : HeadlandSt → HeadlandSt} : Frame W s0 (s.onHead f) := h.fields
theorem Frame.onChain (h : Frame W s0 s) {k : Nat} {f : ChainSt → ChainSt} : Frame W s0 (s.onChain k f) := h.fields
theorem Frame.onAdc (h : Frame W s0 s) {f : AdcSt → AdcSt} : Frame W s0 (s.onAdc f) := h.fields
theorem Frame.onDac (h : Frame W s0 s) {k : Nat} {f : PdacSt → PdacSt} : Frame W s0 (s.onDac k f) := h.fields
theorem Frame.onLoop (h : Frame W s0 s) {k : Nat} {f : LoopSt → LoopSt} : Frame W s0 (s.onLoop k f) := h.fields
theorem Frame.onCal (h : Frame W s0 s) {f : CalSt → CalSt} : Frame W s0 (s.onCal f) := h.fields
theorem Frame.onLane (h : Frame W s0 s) {k : Nat} {f : LaneSt → LaneSt} : Frame W s0 (s.onLane k f) := h.fields
theorem Frame.onPort (h : Frame W s0 s) {p : Nat} {f : PortSt → PortSt} : Frame W s0 (s.onPort p f) := h.fields

theorem Frame.raise (h : Frame W s0 s) {blk bit : Nat} : Frame W s0 (s.raise blk bit) :=
  h.quiet (s.raise_hushed blk bit) (fun _ hx => s.raise_rd blk bit hx) (s.raise_flags blk bit)

theorem Frame.event (h : Frame W s0 s) {code : Nat} : Frame W s0 (s.event code) :=
  h.quiet (s.event_hushed code) (fun _ hx => s.event_rd code hx) (s.event_flags code)

theorem Frame.raiseEvent (h : Frame W s0 s) {blk bit code : Nat} : Frame W s0 (s.raiseEvent blk bit code) := h.raise.event

theorem Frame.eventOncePerSecond (h : Frame W s0 s) {code : Nat} : Frame W s0 (s.eventOncePerSecond code) :=
  h.quiet (s.eventOncePerSecond_hushed code) (fun _ hx => s.eventOncePerSecond_rd code hx) (s.eventOncePerSecond_flags code)

theorem Frame.raiseOnce (h : Frame W s0 s) {blk bit code : Nat} : Frame W s0 (s.raiseOnce blk bit code) :=
  h.eventOncePerSecond.ite h.raise.eventOncePerSecond

theorem Frame.msixEdge (h : Frame W s0 s) {before : State} {v : Nat} : Frame W s0 (before.msixEdge s v) :=
  h.quiet (State.msixEdge_hushed before s v) (fun _ hx => State.msixEdge_rd before s v hx)
    fun _ k hb hf => (State.msixEdge_flag before s v k hb).trans hf

end

/-! ### Power: votes, wakes and levels -/

section
variable {W : Nat → Prop} {s0 s : State}

theorem Frame.avsServe (h : Frame W s0 s) {p : Nat} {b : Option AvsReq} : Frame W s0 (s.avsServe p b) := by
  unfold State.avsServe
  split
  · exact h
  · exact h.ite h.send

theorem Frame.avsAsk (h : Frame W s0 s) {p : Nat} {r : AvsReq} : Frame W s0 (s.avsAsk p r) := h.onPower.avsServe

theorem Frame.wakeSequence (h : Frame W s0 s) {d : Nat} : Frame W s0 (s.wakeSequence d) := by
  unfold State.wakeSequence
  split
  · exact h.ite h.onPower.avsAsk
  · exact h

/-- The words of a domain that a vote may write. -/
def domainWords (d : Nat) (W : Nat → Prop) : Prop := W (R.PWR_VOTE d) ∧ W (R.PWR_DOM_STATUS d)

theorem domainWords_above {n : Nat} (hn : n ≤ 0x1100000) (d : Nat) : domainWords d (n ≤ ·) :=
  ⟨by simp only [R.PWR_VOTE]; omega, by simp only [R.PWR_DOM_STATUS]; omega⟩

theorem Frame.wakeDomain (h : Frame W s0 s) {d : Nat} (hd : domainWords d W) : Frame W s0 (s.wakeDomain d) :=
  Frame.ite ((h.onPower.set hd.2).set hd.2).wakeSequence h

theorem Frame.setVotes (h : Frame W s0 s) {d v : Nat} (hd : domainWords d W) : Frame W s0 (s.setVotes d v) :=
  have h1 := h.set (f := F.PWR_VOTE.VOTES d) (v := v) hd.1
  h1.ite ((h1.onPower.wakeDomain hd).ite (h1.onPower.ite h1))

theorem Frame.vote (h : Frame W s0 s) {d b : Nat} {v : Bool} (hd : domainWords d W) : Frame W s0 (s.vote d b v) := h.setVotes hd

theorem Frame.planVotes (h : Frame W s0 s) {ds : List Nat} {v : Bool} (hd : ∀ d ∈ ds, domainWords d W) : Frame W s0 (s.planVotes ds v) :=
  h.foldl fun _ d hx h => h.vote (hd d hx)

theorem Frame.planVotesFor (h : Frame W s0 s) {p : Plan} {bs : List Bound}
    (hd : ∀ d, d ∈ p.domains bs ∨ d < 26 → domainWords d W) : Frame W s0 (s.planVotesFor p bs) :=
  (h.planVotes fun d hx => hd d (.inl hx)).planVotes fun d hx => hd d (.inr (by
    obtain ⟨k, hk, rfl⟩ := List.mem_map.mp (List.mem_filter.mp hx).1
    have := List.mem_range.mp hk
    omega))

theorem Frame.plStart (h : Frame W s0 s) (hW : W R.PWR_PL) : Frame W s0 s.plStart :=
  h.ite (((h.set hW).onPower.set hW).ite (h.set hW).onPower).avsAsk

theorem Frame.plLoad (h : Frame W s0 s) (hW : W R.PWR_PL) {m r : Nat} : Frame W s0 (s.plLoad m r) :=
  ((h.set hW).set hW).plStart hW

end

section
variable {n : Nat} {s0 s : State}

theorem Frame.linkVotes (h : Above n s0 s) (hn : n ≤ 0x1100000 := by omega) {c : Carrier} {v : Bool} : Above n s0 (s.linkVotes c v) := by
  unfold State.linkVotes
  split
  · exact h
  · exact h.foldl fun _ d _ h => h.vote (domainWords_above hn d)

theorem Frame.planVotesNone (h : Above n s0 s) (hn : n ≤ 0x1100000 := by omega) : Above n s0 s.planVotesNone :=
  h.planVotes fun d _ => domainWords_above hn d

/-! ### Client ports: events and egress -/

theorem Frame.clientEvent (h : Above n s0 s) (hn : n ≤ 0x900000 := by omega) {p b : Nat} : Above n s0 (s.clientEvent p b) :=
  Frame.ite (h.set.raise.ite h.set) (h.set.raise.ite h.set).event

theorem Frame.egressUpdate (h : Above n s0 s) (hn : n ≤ 0x900000 := by omega) {p : Nat} : Above n s0 (s.egressUpdate p) :=
  Frame.ite (h.set.clientEvent.ite (h.set.clientEvent.ite h.set)) h

theorem Frame.egressAll (h : Above n s0 s) (hn : n ≤ 0x900000 := by omega) : Above n s0 s.egressAll :=
  h.foldl fun _ _ _ h => h.egressUpdate

/-! ### Time: the line transfer and the servo -/

theorem Frame.timeShow (h : Above n s0 s) (hn : n ≤ 0xA00000 := by omega) : Above n s0 s.timeShow := h.set.set.set.set

theorem Frame.servoStop (h : Above n s0 s) (hn : n ≤ 0xA00000 := by omega) : Above n s0 s.servoStop := h.onTime.timeShow

theorem Frame.toTt (h : Above n s0 s) (hn : n ≤ 0xA00000 := by omega) {st : Nat} : Above n s0 (s.toTt st) := by
  have h1 : Above n s0 ((s.set F.TIME_STATUS.TT_STATE st).onTime fun t => { t with ttIn := 0, ttOut := 0 }) := h.set.onTime
  exact (h1.servoStop.ite (h1.onTime.ite h1)).ite h1

theorem Frame.ttWait (h : Above n s0 s) (hn : n ≤ 0xA00000 := by omega) : Above n s0 s.ttWait :=
  h.ite (h.toTt.raiseEvent.ite h.toTt)

/-! ### Transmitters and the headland modem -/

theorem Frame.headlandAbort (h : Above n s0 s) (hn : n ≤ 0xB00000 := by omega) : Above n s0 s.headlandAbort := h.set.ite h

theorem Frame.headlandDarken (h : Above n s0 s) (hn : n ≤ 0xB00000 := by omega) {c : Carrier} : Above n s0 (s.headlandDarken c) :=
  h.set.raiseEvent.ite h

theorem Frame.toTx (h : Above n s0 s) (hn : n ≤ 0x400000 := by omega) {c : Carrier} {st : Nat} : Above n s0 (s.toTx c st) := h.set

theorem Frame.rampDown (h : Above n s0 s) (hn : n ≤ 0x400000 := by omega) {c : Carrier} : Above n s0 (s.rampDown c) :=
  h.toTx.headlandDarken.ite h

theorem Frame.rampUp (h : Above n s0 s) (hn : n ≤ 0x400000 := by omega) {c : Carrier} : Above n s0 (s.rampUp c) := h.toTx.ite h

theorem Frame.headlandAbandon (h : Above n s0 s) (hn : n ≤ 0xB00000 := by omega) {k : Nat} : Above n s0 (s.abandon k) :=
  h.ite h.set.set.onChain

theorem Frame.headlandApply (h : Above n s0 s) (hn : n ≤ 0x200000 := by omega) {p : Plan} : Above n s0 (s.headlandApply p) := by
  have h1 (t : State) (ht : Above n s0 t) : Above n s0 (carriers.foldl (fun s c => s.set (F.FURROW_TX_HL.DEPTH c) (p.headland 1 1 5 40 10)) t) :=
    ht.foldl fun _ _ _ h => h.set
  have h2 (t : State) (ht : Above n s0 t) : Above n s0 ((List.range 8).foldl (fun s k => if s.listens k then s else s.abandon k) t) :=
    ht.foldl fun _ _ _ h => h.ite h.headlandAbandon
  exact (h2 _ (h1 _ h.set.set.set.set.set).wr).set

/-! ### Link managers -/

theorem Frame.sessionEnd (h : Above n s0 s) (hn : n ≤ 0xF00000 := by omega) {p : Nat} : Above n s0 (s.sessionEnd p) :=
  h.wr.onSession.raise.ite h

theorem Frame.toLink (h : Above n s0 s) {c : Carrier} (hn : n ≤ 0x700000 + 0x40000 * c.idx) {st : Nat} : Above n s0 (s.toLink c st) := by
  have hc : c.idx ≤ 1 := by cases c <;> decide
  have h1 : Above n s0 (if s.linkState c = 4 && st ≠ 4 && s.ttCarrier c then s.ttWait else s) := h.ttWait.ite h
  exact (h1.sessionEnd.ite h1).set.egressAll

theorem Frame.linkDark (h : Above n s0 s) {c : Carrier} (hn : n ≤ 0x700000 + 0x40000 * c.idx) : Above n s0 (s.linkDark c) := by
  have hc : c.idx ≤ 1 := by cases c <;> decide
  have h1 : Above n s0 (if s.linkState c = 0 then s else s.linkVotes c false) := h.ite h.linkVotes
  exact (h1.onLink.toLink hn).wr.wr.wr.set.set.set.set.set.set

end

section
variable {n : Nat} {s0 s : State}

/-! ### Calibration records that take effect -/

theorem Frame.calRaise (h : Above n s0 s) {bit : Nat} : Above n s0 (s.calRaise bit) := h.raise.ite h.raiseEvent

theorem Frame.calSettle (h : Above n s0 s) (hn : n ≤ 0x1180000 := by omega) {slot : Nat} : Above n s0 (s.calSettle slot) :=
  Frame.ite h.onCal.set.calRaise h.onCal.set

theorem Frame.laneStart (h : Above n s0 s) (hn : n ≤ 0x800000 := by omega) {k : Nat} {body : List Byte} :
    Above n s0 (s.laneStart k body) := h.wr.wr.set.set

theorem opticsReg_above {a : Nat} {c : Carrier} (h : a ∈ opticsReg c) : 0x200000 ≤ a := by
  cases c <;> revert h <;> decide +revert

theorem Frame.opticsWrite (h : Above n s0 s) (hn : n ≤ 0x200000 := by omega) {c : Carrier} {body : List Byte} :
    Above n s0 (s.opticsWrite c body) :=
  h.foldl fun _ _ hx h => h.wr (Nat.le_trans hn (opticsReg_above (List.fst_mem_of_mem_zipIdx hx)))

theorem Frame.commitPair (h : Above n s0 s) (hn : n ≤ 0xC00000 := by omega) {j : Nat} {x g : Word} : Above n s0 (s.commitPair j x g) := by
  unfold State.commitPair
  exact h.wr.wr.onAdc

theorem Frame.calApply (h : Above n s0 s) (hn : n ≤ 0x200000 := by omega) {slot : Nat} {body : List Byte} :
    Above n s0 (s.calApply slot body) := by
  unfold State.calApply
  dsimp only
  split
  · exact h.onCal
  · exact h.onCal
  · exact h.onTx
  · exact h.opticsWrite.onRx.onTx
  · exact h.foldl fun _ _ _ h => h.commitPair
  · exact h.onCal.foldl fun _ _ _ h => h.wr.wr
  · exact h.laneStart
  · exact h

theorem Frame.calColdApply (h : Above n s0 s) (hn : n ≤ 0x200000 := by omega) : Above n s0 s.calColdApply := by
  refine h.foldl fun s slot _ h => ?_
  split
  · exact h.calApply.calSettle
  · exact h.calApply
  · exact h

/-! ### Client ports: the record stream and the ingress -/

theorem Frame.tapped (h : Above n s0 s) {u tap inst : Nat} {x : TapInstant} : Above n s0 (s.tapped u tap inst x) := Frame.ite h.fields h

theorem Frame.toCarriers (h : Above n s0 s) {p : Nat} {rec : List Byte} : Above n s0 (s.toCarriers p rec) :=
  Frame.ite (h.tapped.send.onPort.ite h.tapped)
    (Frame.ite (h.tapped.send.onPort.ite h.tapped).send.onPort (h.tapped.send.onPort.ite h.tapped))

theorem Frame.firstMark (h : Above n s0 s) {p : Nat} : Above n s0 (s.firstMark p) :=
  have h1 : Above n s0 s.freeWord.2 := h.fields
  h1.onPort.ite h

theorem Frame.markIfDue (h : Above n s0 s) {p : Nat} : Above n s0 (s.markIfDue p) := h.firstMark.onPort.toCarriers.onPort.ite h

theorem Frame.toLine (h : Above n s0 s) {p : Nat} {rec : List Byte} : Above n s0 (s.toLine p rec) := h.markIfDue.toCarriers.onPort

theorem Frame.stampOut (h : Above n s0 s) (hn : n ≤ 0xA00000 := by omega) {p : Nat} {b : List Byte} {err : Bool} :
    Above n s0 (s.stampOut p b err).2 := by
  unfold State.stampOut
  split
  · split
    · dsimp only
      split
      · exact h.set
      · split
        · exact h.set.raiseOnce
        · exact Frame.ite h.set h.set.set.raiseOnce
    · exact h
  · exact h

theorem Frame.toHost (h : Above n s0 s) (hn : n ≤ 0x900000 := by omega) {p : Nat} {b : List Byte} {err : Bool} :
    Above n s0 (s.toHost p b err) :=
  Frame.ite h.onPort (h.onPort.set.ite h.onPort.onPort.stampOut.send)

theorem Frame.forwardToHost (h : Above n s0 s) (hn : n ≤ 0x900000 := by omega) {p : Nat} {rec : List Byte} :
    Above n s0 (s.forwardToHost p rec) := by
  unfold State.forwardToHost
  split
  · exact h.onPort.toHost
  · exact h.onPort
  · exact h

theorem Frame.ingressRecord (h : Above n s0 s) (hn : n ≤ 0x900000 := by omega) {p : Nat} {rec : List Byte} :
    Above n s0 (s.ingressRecord p rec) := Frame.ite (h.ite h.toLine).forwardToHost (h.ite h.toLine)

theorem Frame.toIngress (h : Above n s0 s) (hn : n ≤ 0x900000 := by omega) {p st : Nat} : Above n s0 (s.toIngress p st) := h.set

theorem Frame.ingressDown (h : Above n s0 s) (hn : n ≤ 0x900000 := by omega) {p : Nat} : Above n s0 (s.ingressDown p) :=
  h.toIngress.onPort.ingressRecord.toIngress.ite h.toIngress.onPort.ingressRecord

theorem Frame.lanesChanged (h : Above n s0 s) (hn : n ≤ 0x900000 := by omega) {p : Nat} : Above n s0 (s.lanesChanged p) := by
  unfold State.lanesChanged
  split
  · exact h
  · split
    · exact h.toIngress.ite h
    · exact h.clientEvent.ingressDown.ite (h.ite h.toIngress.onPort)
    · exact h.clientEvent.ingressDown.ite (h.toIngress.ite h)
    · exact h

end

/-! ### Host lanes -/

section
variable {W : Nat → Prop} {s0 s : State} {k : Nat}

/-- The words of a lane past its state and events. -/
def laneWords (k : Nat) (W : Nat → Prop) : Prop := ∀ a, R.HOSTLANE_TX_FFE_PRE k ≤ a → a < R.HOSTLANE_TX_FFE_PRE k + 0xF0 → W a

theorem laneWords_above {n : Nat} (hn : n ≤ 0x800000) (k : Nat) : laneWords k (n ≤ ·) := fun a ha _ => by
  simp only [R.HOSTLANE_TX_FFE_PRE] at ha
  omega

theorem Frame.laneRun (h : Frame W s0 s) (hW : laneWords k W) {m : Nat} : Frame W s0 (s.laneRun k m) := by
  have h1 : Frame W s0 (s.bump (F.HOSTLANE_INJ_COUNT.INJECTED k) ((s.injMarks k m).filter (· = true)).length) :=
    h.set (hW _ (Nat.add_le_add_right (by decide) _) (by simp only [F.HOSTLANE_INJ_COUNT.INJECTED, R.HOSTLANE_INJ_COUNT, R.HOSTLANE_TX_FFE_PRE]; omega))
  exact Frame.ite h.fields h1.fields

theorem Frame.singleRun (h : Frame W s0 s) (hW : laneWords k W) : Frame W s0 (s.singleRun k) := h.laneRun hW

theorem Frame.showIdle (h : Frame W s0 s) (hW : laneWords k W) : Frame W s0 (s.showIdle k) := by
  have h1 : Frame W s0 (s.setB (F.HOSTLANE_TX_CFG.IN_IDLE k) (s.laneSilent k || s.on (F.HOSTLANE_CTRL.LOOP_NEAR k))) :=
    h.set (hW _ (Nat.add_le_add_right (by decide) _) (by simp only [F.HOSTLANE_TX_CFG.IN_IDLE, R.HOSTLANE_TX_CFG, R.HOSTLANE_TX_FFE_PRE]; omega))
  exact (h1.singleRun hW).ite h1

theorem Frame.wakeSend (h : Frame W s0 s) : Frame W s0 (s.wakeSend k) := h.onLane.send.onLane.send

theorem Frame.laneIdle (h : Frame W s0 s) (hW : laneWords k W) {v : Bool} : Frame W s0 (s.laneIdle k v) :=
  (h.onLane.showIdle hW).wakeSend.ite (h.onLane.showIdle hW)

end

section
variable {n : Nat} {s0 s : State}

theorem Frame.laneEvent (h : Above n s0 s) (hn : n ≤ 0x800000 := by omega) {k b : Nat} : Above n s0 (s.laneEvent k b) :=
  Frame.ite (h.set.raise.ite h.set) (h.set.raise.ite h.set).event

theorem Frame.laneViolation (h : Above n s0 s) (hn : n ≤ 0x800000 := by omega) {k code : Nat} : Above n s0 (s.laneViolation k code) :=
  h.set.set.laneEvent

theorem Frame.laneCalibrate (h : Above n s0 s) (hn : n ≤ 0x800000 := by omega) {k : Nat} : Above n s0 (s.laneCalibrate k) := by
  unfold State.laneCalibrate
  split
  · exact h.laneStart.calSettle
  · exact h

theorem Frame.toLane (h : Above n s0 s) (hn : n ≤ 0x800000 := by omega) {k st : Nat} : Above n s0 (s.toLane k st) := by
  unfold State.toLane
  have h1 : Above n s0 (s.set (F.HOSTLANE_STATE.STATE k) st) := h.set
  have h2 := Frame.ite (c := st = 0) (h1.set (f := F.HOSTLANE_STATE.SIGNAL k) (v := 0)) h1
  have h3 := Frame.ite (c := (st = 3 || st = 4 || st = 6) = true) h2 (h2.set (f := F.HOSTLANE_STATE.CDR_LOCK k) (v := 0))
  have h4 := Frame.ite (c := st = 2) (h3.laneCalibrate (k := k)) h3
  dsimp only
  split
  · exact (Frame.ite (h4.laneIdle (laneWords_above hn k)) (h4.laneIdle (laneWords_above hn k)).set).lanesChanged
  · exact Frame.ite (h4.laneIdle (laneWords_above hn k)) (h4.laneIdle (laneWords_above hn k)).set

theorem Frame.noSignal (h : Above n s0 s) (hn : n ≤ 0x800000 := by omega) {k : Nat} : Above n s0 (s.noSignal k) :=
  h.onLane.toLane.laneEvent.laneViolation.ite h.onLane.toLane

theorem Frame.lanesStart (h : Above n s0 s) (hn : n ≤ 0x800000 := by omega) : Above n s0 s.lanesStart :=
  h.foldl fun _ _ _ h => h.noSignal.ite h

end

/-! ### Receive chains -/

section
variable {W : Nat → Prop} {s0 s : State}

/-- The blocks FURROW, LINE, FEC and LINK, in which the words of a carrier's receive side lie. -/
def lineBlocks (W : Nat → Prop) : Prop := ∀ a, 0x200000 ≤ a → a < 0x800000 → W a

theorem lineBlocks_above {n : Nat} (hn : n ≤ 0x200000) : lineBlocks (n ≤ ·) := fun _ h _ => Nat.le_trans hn h

theorem Frame.evalAbandon (h : Frame W s0 s) (hW : lineBlocks W) {c : Carrier} : Frame W s0 (s.evalAbandon c) :=
  ((h.setIn hW).ite h).setIn hW

theorem Frame.frameRaise (h : Frame W s0 s) {c : Carrier} {bit : Nat} : Frame W s0 (s.frameRaise c bit) := h.raiseEvent

theorem Frame.mfLost (h : Frame W s0 s) (hW : lineBlocks W) {c : Carrier} : Frame W s0 (s.mfLost c) :=
  (h.onLine.setIn hW).frameRaise.ite h.onLine

theorem Frame.alignLost (h : Frame W s0 s) (hW : lineBlocks W) {c : Carrier} : Frame W s0 (s.alignLost c) :=
  ((((h.frameRaise.ite h).mfLost hW).setIn hW).evalAbandon hW).onLine.setIn hW

theorem Frame.toRx (h : Frame W s0 s) (hW : lineBlocks W) {c : Carrier} {st : Nat} : Frame W s0 (s.toRx c st) :=
  ((h.setIn hW).alignLost hW).ite (h.setIn hW)

theorem Frame.estInvalid (h : Frame W s0 s) (hW : lineBlocks W) {c : Carrier} : Frame W s0 (s.estInvalid c) :=
  h.ite ((((h.setIn hW).setIn hW).setIn hW).setIn hW)

theorem scStatus_inLine (c : Carrier) {k : Nat} (h : k < 16) :
    0x200000 ≤ R.FURROW_RX_SC_STATUS c k ∧ R.FURROW_RX_SC_STATUS c k < 0x800000 := by
  cases c <;> simp only [R.FURROW_RX_SC_STATUS, Carrier.idx] <;> omega

theorem Frame.pilotLock (h : Frame W s0 s) (hW : lineBlocks W) {c : Carrier} {k : Nat} (hk : k < 16) {v : Bool} :
    Frame W s0 (s.pilotLock c k v) :=
  (h.setIn hW (scStatus_inLine c hk)).setIn hW
    (show 0x200000 ≤ R.FURROW_RX_STATE c ∧ R.FURROW_RX_STATE c < 0x800000 by cases c <;> decide)

theorem Frame.clearAdaptive (h : Frame W s0 s) (hW : lineBlocks W) {c : Carrier} : Frame W s0 (s.clearAdaptive c) :=
  (h.onRx.foldl fun _ _ hx h =>
    (h.pilotLock hW (List.mem_range.mp hx)).setIn hW (scStatus_inLine c (List.mem_range.mp hx))).estInvalid hW

theorem rxStatus_inLine {a : Nat} {c : Carrier} (h : a ∈ [R.FURROW_RX_ACQ_TIME c, R.FURROW_RX_CD_EST c, R.FURROW_RX_CLK_OFFSET c,
    R.FURROW_RX_FO_EST c, R.FURROW_RX_SNR c, R.FURROW_RX_OSNR c, R.FURROW_RX_DGD c, R.FURROW_RX_PDL c, R.FURROW_RX_Q c]) :
    0x200000 ≤ a ∧ a < 0x800000 := by
  cases c <;> revert h <;> decide +revert

theorem scSnr_inLine (c : Carrier) {k : Nat} (h : k < 16) : 0x200000 ≤ R.FURROW_RX_SC_SNR c k ∧ R.FURROW_RX_SC_SNR c k < 0x800000 := by
  cases c <;> simp only [R.FURROW_RX_SC_SNR, Carrier.idx] <;> omega

theorem Frame.rxStatusClear (h : Frame W s0 s) (hW : lineBlocks W) {c : Carrier} : Frame W s0 (s.rxStatusClear c) :=
  ((h.foldl fun _ _ hx h => h.wr (hW _ (rxStatus_inLine hx).1 (rxStatus_inLine hx).2)).setIn hW).foldl fun _ _ hx h =>
    h.wr (hW _ (scSnr_inLine c (List.mem_range.mp hx)).1 (scSnr_inLine c (List.mem_range.mp hx)).2)

theorem Frame.rxRelease (h : Frame W s0 s) (hW : lineBlocks W) {c : Carrier} : Frame W s0 (s.rxRelease c) :=
  (((h.clearAdaptive hW).toRx hW).evalAbandon hW).rxStatusClear hW

end

section
variable {n : Nat} {s0 s : State}

theorem Frame.swapDiscard (h : Above n s0 s) (hn : n ≤ 0x200000 := by omega) {c : Carrier} : Above n s0 (s.swapDiscard c) :=
  (h.set.ite h).set

theorem Frame.nlcStart (h : Above n s0 s) (hn : n ≤ 0x200000 := by omega) {c : Carrier} {p : Plan} : Above n s0 (s.nlcStart c p) :=
  h.swapDiscard.onRx.set.set.evalAbandon (lineBlocks_above hn)

theorem Frame.rxRegs (h : Above n s0 s) (hn : n ≤ 0x200000 := by omega) {c : Carrier} {p : Plan} : Above n s0 (s.rxRegs c p) :=
  (h.set.nlcStart.foldl fun _ _ _ h => h.set).onRx

/-! ### Transmit chains -/

theorem Frame.rangesWrite (h : Above n s0 s) (hn : n ≤ 0x200000 := by omega) {c : Carrier} {p : Plan} : Above n s0 (s.rangesWrite c p) :=
  h.foldl fun _ _ _ h => h.set.set.set.set

theorem Frame.txRegs (h : Above n s0 s) (hn : n ≤ 0x200000 := by omega) {c : Carrier} {p : Plan} : Above n s0 (s.txRegs c p) :=
  (h.set.set.set.foldl fun _ _ _ h => h.set.set.set.wr.set.wr).rangesWrite

theorem Frame.netUpdate (h : Above n s0 s) (hn : n ≤ 0x200000 := by omega) {c : Carrier} : Above n s0 (s.netUpdate c) := by
  unfold State.netUpdate
  dsimp only
  split
  · exact h.set.set.set.set.foldl fun _ _ _ h => h.set.set
  · exact h.wr.set.set.foldl fun _ _ _ h => h.wr

theorem Frame.gradualJump (h : Above n s0 s) (hn : n ≤ 0x200000 := by omega) {c : Carrier} : Above n s0 (s.gradualJump c) := by
  have h1 : Above n s0 ((List.range (s.subCount c)).foldl (fun s k =>
      s.set (F.FURROW_TX_SC_POWER.APPLIED c k) (s.get (F.FURROW_TX_SC_POWER.OFFSET c k))) s) := h.foldl fun _ _ _ h => h.set
  exact h1.set.onTx.onTx.raise.ite h1.set.onTx.onTx

/-! ### Framer, FEC, ports and lanes at t0 + 80 ms -/

theorem Frame.fecApply (h : Above n s0 s) (hn : n ≤ 0x200000 := by omega) {c : Carrier} {p : Plan} : Above n s0 (s.fecApply c p) := by
  unfold State.fecApply
  dsimp only
  split
  · exact h.set.set.set.set.set.set
  · exact h.set.set.set.set.set.set.set.set

theorem Frame.framerApply (h : Above n s0 s) (hn : n ≤ 0x200000 := by omega) {c : Carrier} {p : Plan} : Above n s0 (s.framerApply c p) :=
  h.onLine.wr.wr.set.set

theorem Frame.portApply (h : Above n s0 s) (hn : n ≤ 0x200000 := by omega) {k : Nat} {p : Plan} : Above n s0 (s.portApply k p) := by
  unfold State.portApply
  dsimp only
  split
  · exact h.onPort.wr.wr
  · exact h.onPort.wr.wr.set.set.set.set.set.set.set.set.set.ite h.onPort.wr.wr.set.set.set.set.set.set.set.set

theorem Frame.laneApply (h : Above n s0 s) (hn : n ≤ 0x200000 := by omega) {k : Nat} {p : Plan} : Above n s0 (s.laneApply k p) := by
  unfold State.laneApply
  dsimp only
  split
  · exact h.set.set.set
  · split
    · exact h.set.set.set
    · exact h.set.set.set.set.set.set.set.set

theorem Frame.applyFramer (h : Above n s0 s) (hn : n ≤ 0x200000 := by omega) {p : Plan} : Above n s0 (s.applyFramer p) :=
  (((h.foldl fun _ _ _ h => h.fecApply.framerApply).foldl fun _ _ _ h => h.portApply).foldl fun _ _ _ h => h.laneApply).lanesStart

/-! ### Loops and time at t0 + 60 ms -/

theorem Frame.traceEvent (h : Above n s0 s) {k : Nat} : Above n s0 (s.traceEvent k) := h.foldl fun _ _ _ h => Frame.ite h.fields h

theorem Frame.loopFlag (h : Above n s0 s) (hn : n ≤ 0xD00000 := by omega) {k b : Nat} : Above n s0 (s.loopFlag k b) :=
  h.set.msixEdge.traceEvent.eventOncePerSecond.ite h.set.msixEdge.traceEvent.event

theorem Frame.handOver (h : Above n s0 s) (hn : n ≤ 0xD00000 := by omega) {k mode : Nat} : Above n s0 (s.handOver k mode) :=
  have h1 := h.set (f := F.LOOP_STATUS.STATE k) (v := mode) |>.set (f := F.LOOP_STATUS.HOLD_CAUSE k) (v := 0)
    |>.set (f := F.LOOP_OUT.GOOD k) (v := 0)
  Frame.ite h1.onDac.onLoop.onDac (h1.onDac.onLoop.set.loopFlag.ite h1.onDac.onLoop).onLoop.set.onDac

theorem Frame.loopHold (h : Above n s0 s) (hn : n ≤ 0xD00000 := by omega) {k cause : Nat} : Above n s0 (s.loopHold k cause) :=
  h.set.set.onLoop

theorem Frame.modeWrite (h : Above n s0 s) (hn : n ≤ 0xD00000 := by omega) {k mode : Nat} : Above n s0 (s.modeWrite k mode) :=
  h.set.ite h.set.handOver

theorem Frame.releaseDac (h : Above n s0 s) {k old : Nat} : Above n s0 (s.releaseDac k old) := h.ite h.onDac

theorem Frame.ctrlWrite (h : Above n s0 s) (hn : n ≤ 0xD00000 := by omega) {k : Nat} {old new w : Word} :
    Above n s0 (s.ctrlWrite k old new w) := h.set.ite h.wr.releaseDac.modeWrite

theorem Frame.loopWrite (h : Above n s0 s) (hn : n ≤ 0xD00000 := by omega) {k off : Nat} {w : Word} : Above n s0 (s.loopWrite k off w) := by
  unfold State.loopWrite
  dsimp only
  split
  · exact h
  · exact (h.ite h.set).ctrlWrite.ite (h.ite h.set).wr.msixEdge

theorem Frame.loopDefaults (h : Above n s0 s) (hn : n ≤ 0xD00000 := by omega) {k : Nat} {r : Rec} : Above n s0 (s.loopDefaults k r) :=
  have h1 (t : State) (ht : Above n s0 t) (ws : List (List Byte × Nat)) :
      Above n s0 (ws.foldl (fun s w => s.loopWrite k (4 * w.2) (BitVec.ofNat 32 (leNat w.1))) t) := ht.foldl fun _ _ _ h => h.loopWrite
  (h1 _ h.loopHold _).handOver.loopHold.ite (h1 _ h.loopHold _).handOver

theorem Frame.loopsApply (h : Above n s0 s) (hn : n ≤ 0xD00000 := by omega) {p : Plan} : Above n s0 (s.loopsApply p) := by
  refine h.foldl fun s k _ h => ?_
  split
  · exact h.loopDefaults
  · exact h

theorem Frame.timeApply (h : Above n s0 s) (hn : n ≤ 0xA00000 := by omega) {p : Plan} : Above n s0 (s.timeApply p) :=
  Frame.set (Frame.set (Frame.set ((h.ite h.servoStop).set.ite (h.ite h.servoStop))))

/-! ### The end of a cold apply, and a shut-down -/

theorem Frame.carrierApplied (h : Above n s0 s) (hn : n ≤ 0x200000 := by omega) {c : Carrier} {p : Plan} :
    Above n s0 (s.carrierApplied c p) :=
  have h1 := (h.netUpdate (c := c)).gradualJump (c := c)
  have h2 := Frame.ite (c := (((p.carrier c).map (·.rx)).getD false) = true)
    ((h1.set (f := F.FURROW_RX_STATE.RETRIES c) (v := 0)).toRx (lineBlocks_above hn) (c := c) (st := 1)) h1
  (h2.rampUp.toLink (by omega)).onLink.linkVotes.ite h2.rampUp

theorem Frame.stepsDiscard (h : Above n s0 s) (hn : n ≤ 0x200000 := by omega) {c : Carrier} : Above n s0 (s.stepsDiscard c) :=
  h.set.set.set

theorem Frame.tasksStop (h : Above n s0 s) (hn : n ≤ 0xF80000 := by omega) : Above n s0 s.tasksStop := h.foldl fun _ _ _ h => h.set

theorem Frame.loopsOff (h : Above n s0 s) (hn : n ≤ 0xD00000 := by omega) :
    Above n s0 ((List.range 16).foldl (fun s k => (s.set (F.LOOP_CTRL.MODE k) 0).handOver k 0) s) :=
  h.foldl fun _ _ _ h => h.set.handOver

theorem Frame.carriersDark (h : Above n s0 s) (hn : n ≤ 0x200000 := by omega) :
    Above n s0 (carriers.foldl State.stepsDiscard (carriers.foldl State.linkDark s)) :=
  (h.foldl fun _ _ _ h => h.linkDark (by omega)).foldl fun _ _ _ h => h.stepsDiscard

theorem Frame.shutNow (h : Above n s0 s) (hn : n ≤ 0x200000 := by omega) : Above n s0 s.shutNow :=
  (h.set.onPower.foldl fun _ _ _ h => h.rampDown).egressAll.loopsOff.carriersDark.tasksStop

theorem Frame.shutTry (h : Above n s0 s) (hn : n ≤ 0x200000 := by omega) : Above n s0 s.shutTry := h.shutNow.ite h

end
end Sys2Proof.Machine
end

section
/-!
SUPPORT. The plan buffer's commands: what taking up a sender's command, answering it, and each step of the buffer leaves and sets (R45, R286, R290, R393).
-/
-- An argument that a tactic fills waits for all declarations before it: elaborated in parallel, such proofs would each hold a thread.
set_option Elab.async false

namespace Sys2Proof.Machine
open Sys2Proof

/-! ### Lists of registers kept -/

theorem Frame.keeps {s t : State} {l : List Nat} (h : Frame (· ∈ l) s t) : s.keepsRegs t l := h.regs

theorem Frame.mono {V W : Nat → Prop} {s t : State} (h : Frame V s t) (hVW : ∀ a, V a → W a) : Frame W s t :=
  ⟨h.mem, h.plan, h.bist, fun x hx hn => h.regs x hx fun hv => hn (hVW x hv),
    fun b k hb hn hf => h.flags b k hb (fun hv => hn (hVW _ hv)) hf⟩

theorem State.keepsRegs.trans {s t u : State} {l m : List Nat} (h : s.keepsRegs t l) (k : t.keepsRegs u m) (hm : m ⊆ l) : s.keepsRegs u l :=
  fun x hx hn => (k x hx fun hi => hn (hm hi)).trans (h x hx hn)

theorem State.keepsRegs.get {s t : State} {l : List Nat} (h : s.keepsRegs t l) {f : Fld} (hx : ordinary f.addr) (hn : f.addr ∉ l) :
    t.get f = s.get f := by
  rw [State.get, State.get, h _ hx hn]

/-! ### Answers -/

section
variable {W : Nat → Prop} {s0 s : State}

theorem Frame.respond (h : Frame W s0 s) {p : Nat} {bytes : List Byte} : Frame W s0 (s.respond p bytes) := by
  unfold State.respond State.mccSend
  exact h.onSec.ite ((h.onSec.send.ite h.onSec).ite (h.ite h.fields))

theorem Frame.reply (h : Frame W s0 s) {e : Envelope} {cls typ : Nat} {nak : Option Nat} {body : List Byte} :
    Frame W s0 (s.reply e cls typ nak body) := h.send.onSec.respond

theorem Frame.respondLast (h : Frame W s0 s) {p : Nat} {nak : Option Nat} : Frame W s0 (s.respondLast p nak) := by
  unfold State.respondLast
  split
  · exact h
  · exact h.onSec.respond

theorem Frame.answer (h : Frame W s0 s) {p : Path} {nak : Option Nat} : Frame W s0 (s.answer p nak) := by
  unfold State.answer
  split
  · exact h.send.respondLast
  · exact h

theorem Frame.planAnswer (h : Frame W s0 s) {x : Sender} {nak : Option Nat} : Frame W s0 (s.planAnswer x nak) := by
  cases x with
  | reg p => exact h.answer
  | wmp e => exact h.reply

end

theorem State.respond_sent (s : State) (p : Nat) (bytes : List Byte) {o : Out} (h : o ∈ s.sent) : o ∈ (s.respond p bytes).sent := by
  unfold State.respond State.mccSend
  split
  · exact h
  · split
    · dsimp only
      split
      · exact List.mem_cons_of_mem _ h
      · exact h
    · split <;> exact h

theorem State.reply_sent (s : State) (e : Envelope) (cls typ : Nat) (nak : Option Nat) (body : List Byte) :
    .reply e.path nak ∈ (s.reply e cls typ nak body).sent := State.respond_sent _ _ _ List.mem_cons_self

/-! ### Taking up a sender's command -/

/-- A message in a session of its path was taken up: its COUNTER is the session's last, and the session's IDLE time starts anew (R290). -/
def State.heard (s : State) (e : Envelope) : State :=
  let t := s.onSession e.path.val fun x => { x with counter := e.counter }
  t.set (F.SEC_SESSION.IDLE_LEFT e.path.val) (t.get F.SEC_SESSION_CFG.IDLE_S)

theorem State.wmp_inSession {s : State} {e : Envelope} {cls typ least : Nat} {body : List Byte} (h : s.wmpInSession e cls typ body least)
    (k : State → State) : s.wmp e cls typ body least k = k (s.heard e) := by
  obtain ⟨⟨hrun, hlo, hhi⟩, hses, hopen, hsid, hmac, hctr, hmax, hrole⟩ := h
  have hv : ¬ (e.version / 16 = 0 ∨ 2 < e.version / 16) := by omega
  have hleast (f : SessionSt → SessionSt) : ¬ (s.onSession e.path.val f).roleOn e.path.val < least := Nat.not_lt.mpr hrole
  have hend : ¬ e.counter = 0xFFFFFFFF := by omega
  simp only [State.wmp, State.sessionUsed, State.heard, hrun, hv, hses, hopen, hsid, ← hmac, Nat.not_le.mpr hctr, hleast, hend, reduceCtorEq,
    if_false, decide_false, Bool.false_and, Bool.not_true, Bool.false_or, ne_eq, not_true_eq_false, Bool.false_eq_true]

/-- What taking up a plan command does before its own effect. -/
def State.taken (s : State) : Sender → State
  | .reg _ => s
  | .wmp e => s.heard e

theorem State.planCommand_taken {s : State} {x : Sender} {word : Nat} (h : s.mayPlan x word = true) (k : State → State) :
    s.planCommand x word k = k (s.taken x) := by
  cases x with
  | reg p =>
    simp only [State.mayPlan, Bool.and_eq_true, decide_eq_true_eq, Bool.not_eq_true'] at h
    obtain ⟨⟨hrun, hup⟩, hright⟩ := h
    have hheard : s.unheard p true = false := by cases p <;> simp [State.unheard, hrun]
    have hrw : s.rwAllowed p = true := by
      cases p with
      | wmp q =>
        simp only [State.rwsAllowed, pathSession, Bool.and_eq_true, decide_eq_true_eq] at hright
        simp [State.rwAllowed, hright.2.2]
      | _ => rfl
    simp [State.planCommand, State.rwsWrite, hheard, hup, hrw, hright, hrun, State.taken]
  | wmp e =>
    have hin := of_decide_eq_true h
    obtain ⟨⟨hrun, -⟩, -⟩ := id hin
    simp only [State.planCommand, hrun, reduceCtorEq, if_false]
    exact State.wmp_inSession hin k

theorem heard_frame (s : State) (e : Envelope) : Frame (· ∈ [R.SEC_SESSION e.path]) s (s.heard e) :=
  (Frame.refl _ s).onSession.set (by exact List.mem_singleton_self _)

theorem taken_frame (s : State) (x : Sender) : Frame (· ∈ senderRegs x) s (s.taken x) := by
  cases x with
  | reg p => exact Frame.refl _ s
  | wmp e => exact heard_frame s e

theorem not_mem_senderRegs {a : Nat} (x : Sender) (h : a < 0xF00040 ∨ 0xF00050 ≤ a) : a ∉ senderRegs x := by
  cases x with
  | reg p => exact List.not_mem_nil
  | wmp e =>
    intro ha
    have := List.mem_singleton.mp ha
    simp only [R.SEC_SESSION] at this
    omega

theorem State.taken_get (s : State) (x : Sender) {f : Fld} (hf : ordinary f.addr) (hn : f.addr < 0xF00040 ∨ 0xF00050 ≤ f.addr) :
    (s.taken x).get f = s.get f := (taken_frame s x).get hf (not_mem_senderRegs x hn)

@[simp] theorem State.taken_plan (s : State) (x : Sender) : (s.taken x).plan = s.plan := (taken_frame s x).plan

@[simp] theorem State.taken_bufState (s : State) (x : Sender) : (s.taken x).bufState = s.bufState := s.taken_get x ⟨by decide, by decide⟩ (by decide)

@[simp] theorem State.taken_hState (s : State) (x : Sender) : (s.taken x).hState = s.hState := s.taken_get x ⟨by decide, by decide⟩ (by decide)

@[simp] theorem State.taken_mayLoad (s : State) (x : Sender) : (s.taken x).mayLoad = s.mayLoad := by
  simp [State.mayLoad]

/-- A plan command that its state lists, taken up and accepted. -/
def State.accepted (s : State) (x : Sender) (cmd : Nat) : State := (s.taken x).planAccepted x cmd

theorem accepted_frame (s : State) (x : Sender) (cmd : Nat) : Frame (· ∈ R.PLAN_COMMAND :: senderRegs x) s (s.accepted x cmd) :=
  Frame.planAnswer (((taken_frame s x).mono fun _ => List.mem_cons_of_mem _).set (by exact List.mem_cons_self))

theorem State.accepted_get (s : State) (x : Sender) (cmd : Nat) {f : Fld} (hf : ordinary f.addr) (hc : f.addr ≠ R.PLAN_COMMAND)
    (hn : f.addr < 0xF00040 ∨ 0xF00050 ≤ f.addr) : (s.accepted x cmd).get f = s.get f :=
  (accepted_frame s x cmd).get hf fun h => (List.mem_cons.mp h).elim hc (not_mem_senderRegs x hn)

theorem State.accepted_cmd (s : State) (x : Sender) {cmd : Nat} (h : cmd < 16 := by decide) :
    (s.accepted x cmd).get F.PLAN_COMMAND.CMD = cmd := by
  have hset : ((s.taken x).set F.PLAN_COMMAND.CMD cmd).get F.PLAN_COMMAND.CMD = cmd := by
    rw [State.get_set_same _ _ _ (by decide) (by decide)]
    exact Nat.mod_eq_of_lt h
  exact ((Frame.refl (fun _ => False) _).planAnswer.get ⟨by decide, by decide⟩ id).trans hset

/-! ### Commands not listed for the state -/

theorem ignored_holds (s : State) (x : Sender) :
    ((s.taken x).planIgnored x).get F.PLAN_IGNORED.COMMANDS = min F.PLAN_IGNORED.COMMANDS.top (s.get F.PLAN_IGNORED.COMMANDS + 1)
    ∧ ((s.taken x).planIgnored x).bufState = s.bufState ∧ s.keepsRegs ((s.taken x).planIgnored x) (R.PLAN_IGNORED :: senderRegs x)
    ∧ ((s.taken x).planIgnored x).plan = s.plan := by
  have hb : Frame (· ∈ R.PLAN_IGNORED :: senderRegs x) s ((s.taken x).bump F.PLAN_IGNORED.COMMANDS) :=
    ((taken_frame s x).mono fun _ => List.mem_cons_of_mem _).set (by exact List.mem_cons_self)
  have ha : Frame (fun _ => False) ((s.taken x).bump F.PLAN_IGNORED.COMMANDS) ((s.taken x).planIgnored x) := (Frame.refl _ _).planAnswer
  refine ⟨?_, ?_, hb.planAnswer.keeps, hb.planAnswer.plan⟩
  · rw [ha.get ⟨by decide, by decide⟩ id, State.get_bump_same _ _ _ (by decide) (by decide), s.taken_get x ⟨by decide, by decide⟩ (by decide)]
  · exact ((ha.get ⟨by decide, by decide⟩ id).trans (State.get_set_other _ _ (by decide))).trans (s.taken_bufState x)

/-! ### The steps of the buffer -/

theorem rejectPlan_frame (s : State) (st reason record : Nat) : Frame (· ∈ [R.PLAN_STATUS]) s (s.rejectPlan st reason record) :=
  ((((Frame.refl _ s).set (by decide)).set (by decide)).set (by decide)).raiseEvent

theorem State.rejectPlan_bufState (s : State) (st reason record : Nat) : (s.rejectPlan st reason record).bufState = st % 8 := by
  rw [State.bufState, State.rejectPlan, State.raiseEvent_get _ _ _ _ ⟨by decide, by decide⟩,
    State.get_set_apart _ _ (by decide) (by decide) (by decide), State.get_set_apart _ _ (by decide) (by decide) (by decide)]
  exact State.get_set_same _ _ _ (by decide) (by decide)

theorem State.rejectPlan_reason (s : State) (st reason record : Nat) :
    (s.rejectPlan st reason record).get F.PLAN_STATUS.REASON = reason % 256 := by
  rw [State.rejectPlan, State.raiseEvent_get _ _ _ _ ⟨by decide, by decide⟩, State.get_set_apart _ _ (by decide) (by decide) (by decide)]
  exact State.get_set_same _ _ _ (by decide) (by decide)

theorem State.rejectPlan_record (s : State) (st reason record : Nat) :
    (s.rejectPlan st reason record).get F.PLAN_STATUS.RECORD = record % 65536 := by
  rw [State.rejectPlan, State.raiseEvent_get _ _ _ _ ⟨by decide, by decide⟩]
  exact State.get_set_same _ _ _ (by decide) (by decide)

theorem State.rejectPlan_flag (s : State) (st reason record : Nat) : (s.rejectPlan st reason record).flag 0x02 2 = true :=
  State.raiseEvent_flag _ _ (by decide) (by decide)

/-- A load that failed at its source: EMPTY, REASON 0x09, RECORD 0xFFFF, REJECTED raised. -/
def State.sourceFailed (s : State) : Prop :=
  s.bufState = 0 ∧ s.get F.PLAN_STATUS.REASON = 9 ∧ s.get F.PLAN_STATUS.RECORD = 0xFFFF ∧ s.flag 0x02 2 = true

theorem State.sourceError_failed (s : State) : s.sourceError.sourceFailed :=
  ⟨State.rejectPlan_bufState _ _ _ _, State.rejectPlan_reason _ _ _ _, State.rejectPlan_record _ _ _ _, State.rejectPlan_flag _ _ _ _⟩

theorem State.sourceError_keeps (s : State) : s.keepsRegs s.sourceError [R.PLAN_STATUS] :=
  fun x hx hn => (rejectPlan_frame (s.onPlan fun q => { q with load := .idle }) 0 0x09 0xFFFF).regs x hx hn

theorem State.toBuf_bufState (s : State) (st : Nat) : (s.toBuf st).bufState = st % 8 := State.get_set_same _ _ _ (by decide) (by decide)

theorem State.startLoad_keeps (s : State) (k : LoadKind) (n : Nat) : s.keepsRegs (s.startLoad k n) [R.PLAN_STATUS] :=
  fun x hx hn => ((Frame.refl (· ∈ [R.PLAN_STATUS]) s).set (f := F.PLAN_STATUS.STATE) (v := 1) (by decide)).regs x hx hn

theorem loaded_frame (s : State) : Frame (· ∈ [R.PLAN_STATUS, R.PLAN_BUF_EPOCH]) s s.loaded :=
  (((Frame.refl _ s).set (by decide)).set (by decide)).raise

theorem State.loaded_bufState (s : State) : s.loaded.bufState = 2 := by
  rw [State.bufState, State.loaded, State.raise_get _ _ _ ⟨by decide, by decide⟩, State.get_set_other _ _ (by decide)]
  exact s.toBuf_bufState 2

theorem State.loaded_flag (s : State) : s.loaded.flag 0x02 0 = true := State.raise_flag _ (by decide) (by decide)

/-! ### LOAD_WINDOW and LOAD_SLOT -/

theorem accepted_keeps (s : State) (x : Sender) (cmd : Nat) :
    s.keepsRegs (s.accepted x cmd) (R.PLAN_STATUS :: R.PLAN_COMMAND :: senderRegs x) :=
  ((accepted_frame s x cmd).mono fun _ => List.mem_cons_of_mem _).keeps

theorem State.keepsRegs.status {s t u : State} {l : List Nat} (h : s.keepsRegs t (R.PLAN_STATUS :: l)) (k : t.keepsRegs u [R.PLAN_STATUS]) :
    s.keepsRegs u (R.PLAN_STATUS :: l) := h.trans k (List.cons_subset_cons _ (List.nil_subset _))

/-- A plan command with a slot that its state lists, taken up and accepted. -/
def State.acceptedSlot (s : State) (x : Sender) (cmd slot : Nat) : State := (s.accepted x cmd).set F.PLAN_COMMAND.SLOT slot

theorem acceptedSlot_frame (s : State) (x : Sender) (cmd slot : Nat) :
    Frame (· ∈ R.PLAN_COMMAND :: senderRegs x) s (s.acceptedSlot x cmd slot) := (accepted_frame s x cmd).set (by exact List.mem_cons_self)

theorem acceptedSlot_keeps (s : State) (x : Sender) (cmd slot : Nat) :
    s.keepsRegs (s.acceptedSlot x cmd slot) (R.PLAN_STATUS :: R.PLAN_COMMAND :: senderRegs x) :=
  ((acceptedSlot_frame s x cmd slot).mono fun _ => List.mem_cons_of_mem _).keeps

@[simp] theorem State.acceptedSlot_plan (s : State) (x : Sender) (cmd slot : Nat) : (s.acceptedSlot x cmd slot).plan = s.plan :=
  (acceptedSlot_frame s x cmd slot).plan

theorem State.acceptedSlot_cmd (s : State) (x : Sender) {cmd : Nat} (slot : Nat) (h : cmd < 16 := by decide) :
    (s.acceptedSlot x cmd slot).get F.PLAN_COMMAND.CMD = cmd :=
  (State.get_set_apart _ _ (by decide) (by decide) (by decide)).trans (s.accepted_cmd x h)

theorem State.acceptedSlot_slot (s : State) (x : Sender) (cmd : Nat) (slot : Fin 4) :
    (s.acceptedSlot x cmd slot).get F.PLAN_COMMAND.SLOT = slot :=
  (State.get_set_same _ _ _ (by decide) (by decide)).trans (Nat.mod_eq_of_lt (slot.isLt.trans (by decide)))

theorem exec_loadWindow {s : State} {x : Sender} (h : s.mayPlan x 1 = true) :
    exec (.loadWindow x) s = .next (if s.mayLoad then (s.accepted x 1).loadWindow else (s.taken x).planIgnored x) := by
  change Host.Outcome.next (s.planCommand _ _ _) = _
  rw [State.planCommand_taken h, State.taken_mayLoad]
  rfl

theorem State.startLoad_get (s : State) (k : LoadKind) (n : Nat) {f : Fld} (hx : ordinary f.addr) (hn : f.addr ≠ R.PLAN_STATUS) :
    (s.startLoad k n).get f = s.get f := (s.startLoad_keeps k n).get hx fun h => hn (List.mem_singleton.mp h)

/-- What LOAD_WINDOW does by what the window gives, read before the load starts. -/
theorem State.loadWindow_cases (s : State) : s.loadWindow =
    if !s.windowGranted then (s.startLoad .window (s.get F.PLAN_SRC_LENGTH.LENGTH)).sourceError
    else if !s.inWindow (s.get F.PLAN_SRC_OFFSET.OFFSET * 4096) (s.get F.PLAN_SRC_LENGTH.LENGTH) then
      ((s.startLoad .window (s.get F.PLAN_SRC_LENGTH.LENGTH)).windowFault F.CXLCTL_WIN_COUNT.RANGE).sourceError
    else s.startLoad .window (s.get F.PLAN_SRC_LENGTH.LENGTH) := by
  have hget {n : Nat} {f : Fld} (hx : ordinary f.addr) (hn : f.addr ≠ R.PLAN_STATUS) : (s.startLoad .window n).get f = s.get f :=
    s.startLoad_get .window n hx hn
  have hg (n : Nat) : (s.startLoad .window n).windowGranted = s.windowGranted := by
    rw [State.windowGranted, State.windowGranted, hget ⟨by decide, by decide⟩ (by decide)]
  have hi (n off len : Nat) : (s.startLoad .window n).inWindow off len = s.inWindow off len := by
    rw [State.inWindow, State.inWindow, hget ⟨by decide, by decide⟩ (by decide)]
  simp only [State.loadWindow, hg, hi, hget (f := F.PLAN_SRC_OFFSET.OFFSET) ⟨by decide, by decide⟩ (by decide)]

theorem State.accepted_windowGranted (s : State) (x : Sender) (cmd : Nat) : (s.accepted x cmd).windowGranted = s.windowGranted := by
  rw [State.windowGranted, State.windowGranted, s.accepted_get x cmd ⟨by decide, by decide⟩ (by decide) (by decide)]

theorem State.accepted_inWindow (s : State) (x : Sender) (cmd : Nat) (off len : Nat) :
    (s.accepted x cmd).inWindow off len = s.inWindow off len := by
  rw [State.inWindow, State.inWindow, s.accepted_get x cmd ⟨by decide, by decide⟩ (by decide) (by decide)]

/-- What a LOAD_WINDOW that may start does by what the window gives. -/
theorem exec_loadWindow_cases {s : State} {x : Sender} (h : s.mayPlan x 1 = true) (hl : s.mayLoad = true) :
    exec (.loadWindow x) s = .next (
      if !s.windowGranted then ((s.accepted x 1).startLoad .window (s.get F.PLAN_SRC_LENGTH.LENGTH)).sourceError
      else if !s.inWindow (s.get F.PLAN_SRC_OFFSET.OFFSET * 4096) (s.get F.PLAN_SRC_LENGTH.LENGTH) then
        (((s.accepted x 1).startLoad .window (s.get F.PLAN_SRC_LENGTH.LENGTH)).windowFault F.CXLCTL_WIN_COUNT.RANGE).sourceError
      else (s.accepted x 1).startLoad .window (s.get F.PLAN_SRC_LENGTH.LENGTH)) := by
  rw [exec_loadWindow h, if_pos hl, State.loadWindow_cases, State.accepted_windowGranted, State.accepted_inWindow,
    s.accepted_get x 1 (f := F.PLAN_SRC_LENGTH.LENGTH) ⟨by decide, by decide⟩ (by decide) (by decide),
    s.accepted_get x 1 (f := F.PLAN_SRC_OFFSET.OFFSET) ⟨by decide, by decide⟩ (by decide) (by decide)]

theorem loadWindow_starts {s : State} {x : Sender} (h : s.mayPlan x 1 = true) (hl : s.mayLoad = true) (hg : s.windowGranted = true)
    (hi : s.inWindow (s.get F.PLAN_SRC_OFFSET.OFFSET * 4096) (s.get F.PLAN_SRC_LENGTH.LENGTH) = true) :
    ∃ t, exec (.loadWindow x) s = .next t ∧ t.bufState = 1 ∧ t.get F.PLAN_COMMAND.CMD = 1 ∧ t.plan.load = .window
      ∧ t.plan.expected = s.get F.PLAN_SRC_LENGTH.LENGTH ∧ s.keepsRegs t (R.PLAN_STATUS :: R.PLAN_COMMAND :: senderRegs x) ∧ t.mem = s.mem := by
  refine ⟨(s.accepted x 1).startLoad .window (s.get F.PLAN_SRC_LENGTH.LENGTH), ?_, State.toBuf_bufState _ 1, ?_, rfl, rfl,
    (accepted_keeps s x 1).status (State.startLoad_keeps _ _ _), (accepted_frame s x 1).mem⟩
  · simp [exec_loadWindow_cases h hl, hg, hi]
  · exact (State.startLoad_get _ _ _ ⟨by decide, by decide⟩ (by decide)).trans (s.accepted_cmd x)

theorem loadWindow_ungranted {s : State} {x : Sender} (h : s.mayPlan x 1 = true) (hl : s.mayLoad = true) (hg : s.windowGranted = false) :
    ∃ t, exec (.loadWindow x) s = .next t ∧ t.sourceFailed ∧ s.keepsRegs t (R.PLAN_STATUS :: R.PLAN_COMMAND :: senderRegs x) := by
  refine ⟨((s.accepted x 1).startLoad .window (s.get F.PLAN_SRC_LENGTH.LENGTH)).sourceError, ?_, State.sourceError_failed _,
    ((accepted_keeps s x 1).status (State.startLoad_keeps _ _ _)).status (State.sourceError_keeps _)⟩
  simp [exec_loadWindow_cases h hl, hg]

theorem loadWindow_beyond {s : State} {x : Sender} (h : s.mayPlan x 1 = true) (hl : s.mayLoad = true) (hg : s.windowGranted = true)
    (hi : s.inWindow (s.get F.PLAN_SRC_OFFSET.OFFSET * 4096) (s.get F.PLAN_SRC_LENGTH.LENGTH) = false) :
    ∃ t, exec (.loadWindow x) s = .next t ∧ t.sourceFailed := by
  refine ⟨_, ?_, State.sourceError_failed (((s.accepted x 1).startLoad .window (s.get F.PLAN_SRC_LENGTH.LENGTH)).windowFault
    F.CXLCTL_WIN_COUNT.RANGE)⟩
  simp [exec_loadWindow_cases h hl, hg, hi]

theorem exec_loadSlot {s : State} {x : Sender} {slot : Fin 4} (h : s.mayPlan x (2 + 16 * slot) = true) :
    exec (.loadSlot x slot) s = .next (if s.mayLoad then (s.acceptedSlot x 2 slot).loadSlot slot else (s.taken x).planIgnored x) := by
  change Host.Outcome.next (s.planCommand _ _ _) = _
  rw [State.planCommand_taken h, State.taken_mayLoad]
  rfl

theorem State.loadSlot_keeps (s : State) (slot : Nat) : s.keepsRegs (s.loadSlot slot) [R.PLAN_STATUS] :=
  s.startLoad_keeps .slot (imgDeliver (nth s.plan.slots slot []))

theorem loadSlot_starts {s : State} {x : Sender} {slot : Fin 4} (h : s.mayPlan x (2 + 16 * slot) = true) (hl : s.mayLoad = true) :
    ∃ t, exec (.loadSlot x slot) s = .next t ∧ t.bufState = 1 ∧ t.get F.PLAN_COMMAND.CMD = 2 ∧ t.get F.PLAN_COMMAND.SLOT = slot
      ∧ t.plan.load = .slot ∧ t.plan.expected = imgDeliver (nth s.plan.slots slot [])
      ∧ s.keepsRegs t (R.PLAN_STATUS :: R.PLAN_COMMAND :: senderRegs x) ∧ t.mem = s.mem := by
  have hkept {f : Fld} (hx : ordinary f.addr) (hn : f.addr ≠ R.PLAN_STATUS) :
      ((s.acceptedSlot x 2 slot).loadSlot slot).get f = (s.acceptedSlot x 2 slot).get f :=
    (State.loadSlot_keeps _ _).get hx fun h => hn (List.mem_singleton.mp h)
  refine ⟨(s.acceptedSlot x 2 slot).loadSlot slot, by rw [exec_loadSlot h, if_pos hl], State.toBuf_bufState _ 1, ?_, ?_, rfl, ?_,
    (acceptedSlot_keeps s x 2 slot).status (State.loadSlot_keeps _ _), (acceptedSlot_frame s x 2 slot).mem⟩
  · exact (hkept ⟨by decide, by decide⟩ (by decide)).trans (s.acceptedSlot_cmd x slot)
  · exact (hkept ⟨by decide, by decide⟩ (by decide)).trans (s.acceptedSlot_slot x 2 slot)
  · change imgDeliver (nth (s.acceptedSlot x 2 slot).plan.slots slot []) = _
    rw [State.acceptedSlot_plan]

/-! ### A load's end -/

theorem loadDone_ofWindow {s : State} (data : List Byte) (h : s.bufState = 1) (hk : s.plan.load = .window) :
    ∃ t, exec (.loadDone data) s = .next t ∧ t.bufState = 2 ∧ t.plan.buf = data.take s.plan.expected ∧ t.plan.delivered = data.length
      ∧ t.flag 0x02 0 = true ∧ s.keepsRegs t [R.PLAN_STATUS, R.PLAN_BUF_EPOCH] := by
  let u := (s.onPlan fun q => { q with buf := data.take q.expected, delivered := data.length }).windowAnswered
  have hp := (loaded_frame u).plan
  refine ⟨u.loaded, ?_, u.loaded_bufState, congrArg PlanSt.buf hp, congrArg PlanSt.delivered hp, u.loaded_flag,
    fun x hx hn => (loaded_frame u).regs x hx hn⟩
  change Host.Outcome.next _ = _
  rw [if_pos h, hk]

theorem loadDone_ofSlot {s : State} (data : List Byte) (h : s.bufState = 1) (hk : s.plan.load = .slot) :
    ∃ t, exec (.loadDone data) s = .next t ∧ t.bufState = 2 ∧ t.plan.buf = s.plan.buf ∧ t.plan.delivered = s.plan.expected
      ∧ t.flag 0x02 0 = true ∧ s.keepsRegs t [R.PLAN_STATUS, R.PLAN_BUF_EPOCH] := by
  let u := s.onPlan fun q => { q with delivered := q.expected }
  have hp := (loaded_frame u).plan
  refine ⟨u.loaded, ?_, u.loaded_bufState, (congrArg PlanSt.buf hp).trans rfl, congrArg PlanSt.delivered hp, u.loaded_flag,
    fun x hx hn => (loaded_frame u).regs x hx hn⟩
  change Host.Outcome.next _ = _
  rw [if_pos h, hk]

theorem exec_loadSourceError {s : State} (h : s.bufState = 1) : exec .loadSourceError s = .next s.sourceError := by
  change Host.Outcome.next _ = _
  rw [if_pos h]

/-! ### PLAN_CHUNK -/

theorem exec_planChunk {s : State} {e : Envelope} {offset : Word} {data : List Byte}
    (h : s.wmpInSession e 3 1 (beBytes 4 offset.toNat ++ data) 1) :
    exec (.planChunk e offset data) s =
      .next (((s.heard e).planChunk offset.toNat data).1.reply e 3 1 ((s.heard e).planChunk offset.toNat data).2 []) := by
  obtain ⟨⟨hrun, -⟩, -⟩ := id h
  change Host.Outcome.next _ = _
  rw [hrun, if_neg (by decide), State.wmp_inSession h]

theorem State.bufState_of_mayLoad {s : State} (h : s.mayLoad = true) : s.bufState ≠ 1 := by
  intro h1
  simp [State.mayLoad, h1] at h

/-- The first chunk of a load. -/
theorem State.planChunk_starts {s : State} {off : Nat} {data : List Byte} (hl : s.mayLoad = true) (hd : data ≠ []) (hlen : data.length ≤ 1024)
    (hmax : off + data.length ≤ planMax) : s.planChunk off data = ((s.startLoad .chunk 0).chunkWrite off data, none) := by
  simp [State.planChunk, hd, Nat.not_lt.mpr hlen, Nat.not_lt.mpr hmax, s.bufState_of_mayLoad hl, hl]

/-- The plan's state once the first chunk of a load is written. -/
def PlanSt.firstChunk (q : PlanSt) (off : Nat) (data : List Byte) : PlanSt :=
  { q with load := .chunk, expected := 0, delivered := 0, written := [(off, off + data.length)], buf := splice [] off data }

theorem PlanSt.chunkTotal_beforeEnd (q : PlanSt) {off : Nat} {data : List Byte} (h : off + data.length ≤ 0x1F) :
    (q.firstChunk off data).chunkTotal = none := by
  simp only [PlanSt.chunkTotal, PlanSt.firstChunk]
  simp
  omega

theorem splice_nil_zero (data : List Byte) : splice [] 0 data = data := by simp [splice]

theorem PlanSt.chunkTotal_whole (q : PlanSt) {data : List Byte} (h : 0x20 ≤ data.length) :
    (q.firstChunk 0 data).chunkTotal = some (imgDeliver data) := by
  simp only [PlanSt.chunkTotal, PlanSt.firstChunk, splice_nil_zero]
  simp
  omega

theorem covered_whole {len k : Nat} (h : k ≤ len) : covered [(0, 0 + len)] k = true := by simpa [covered] using h

theorem State.chunkWrite_beforeEnd (s : State) {off : Nat} {data : List Byte} (h : off + data.length ≤ 0x1F) :
    (s.startLoad .chunk 0).chunkWrite off data = (s.toBuf 1).onPlan (·.firstChunk off data) := by
  have hc := s.plan.chunkTotal_beforeEnd h
  unfold State.chunkWrite
  dsimp only
  split
  · rfl
  case _ n hn => exact absurd (hn.symm.trans hc) (by simp)

theorem State.chunkWrite_whole (s : State) {data : List Byte} (h : 0x20 ≤ data.length) (hn : imgDeliver data ≤ data.length) :
    (s.startLoad .chunk 0).chunkWrite 0 data = ((s.toBuf 1).onPlan fun q =>
      { q.firstChunk 0 data with buf := data.take (imgDeliver data), delivered := imgDeliver data, expected := imgDeliver data }).loaded := by
  have hc := s.plan.chunkTotal_whole h
  unfold State.chunkWrite
  dsimp only
  split
  case _ he => exact absurd (he.symm.trans hc) (by simp)
  case _ n he =>
    obtain rfl : n = imgDeliver data := Option.some.inj (he.symm.trans hc)
    refine (if_pos (covered_whole hn)).trans ?_
    simp only [State.onPlan, State.startLoad, splice_nil_zero]
    rfl

theorem State.heard_mayLoad (s : State) (e : Envelope) : (s.heard e).mayLoad = s.mayLoad := s.taken_mayLoad (.wmp e)

theorem planChunk_starts {s : State} {e : Envelope} {offset : Word} {data : List Byte}
    (h : s.wmpInSession e 3 1 (beBytes 4 offset.toNat ++ data) 1) (hl : s.mayLoad = true) (hd : data ≠ [])
    (hend : offset.toNat + data.length ≤ 0x1F) :
    ∃ t, exec (.planChunk e offset data) s = .next t ∧ t.bufState = 1 ∧ t.plan.load = .chunk ∧ t.plan.buf = splice [] offset.toNat data
      ∧ .reply e.path none ∈ t.sent ∧ s.keepsRegs t [R.PLAN_STATUS, R.SEC_SESSION e.path] := by
  let u := ((s.heard e).toBuf 1).onPlan (·.firstChunk offset.toNat data)
  have hr : Frame (fun _ => False) u (u.reply e 3 1 none []) := (Frame.refl _ u).reply
  have hs : Frame (· ∈ [R.PLAN_STATUS, R.SEC_SESSION e.path]) s ((s.heard e).toBuf 1) :=
    ((heard_frame s e).mono fun _ => List.mem_cons_of_mem _).set (by exact List.mem_cons_self)
  refine ⟨u.reply e 3 1 none [], ?_, ?_, ?_, ?_, State.reply_sent _ _ _ _ _ _, fun x hx hn => (hr.regs x hx id).trans (hs.regs x hx hn)⟩
  · have hmax : offset.toNat + data.length ≤ planMax := Nat.le_trans hend (by decide)
    rw [exec_planChunk h, State.planChunk_starts ((s.heard_mayLoad e).trans hl) hd (by omega) hmax,
      State.chunkWrite_beforeEnd _ hend]
  · exact (hr.get ⟨by decide, by decide⟩ id).trans ((s.heard e).toBuf_bufState 1)
  · exact congrArg PlanSt.load hr.plan
  · exact congrArg PlanSt.buf hr.plan

theorem planChunk_whole {s : State} {e : Envelope} {data : List Byte} (h : s.wmpInSession e 3 1 (beBytes 4 0 ++ data) 1)
    (hl : s.mayLoad = true) (hhead : 0x20 ≤ data.length) (hall : imgDeliver data ≤ data.length) (hlen : data.length ≤ 1024) :
    ∃ t, exec (.planChunk e 0 data) s = .next t ∧ t.bufState = 2 ∧ t.plan.buf = data.take (imgDeliver data)
      ∧ t.plan.delivered = imgDeliver data ∧ t.flag 0x02 0 = true ∧ .reply e.path none ∈ t.sent
      ∧ s.keepsRegs t [R.PLAN_STATUS, R.PLAN_BUF_EPOCH, R.SEC_SESSION e.path] := by
  let u := ((s.heard e).toBuf 1).onPlan fun q =>
    { q.firstChunk 0 data with buf := data.take (imgDeliver data), delivered := imgDeliver data, expected := imgDeliver data }
  have hr : Frame (fun _ => False) u.loaded (u.loaded.reply e 3 1 none []) := (Frame.refl _ u.loaded).reply
  have hp := hr.plan.trans (loaded_frame u).plan
  have hs : Frame (· ∈ [R.PLAN_STATUS, R.PLAN_BUF_EPOCH, R.SEC_SESSION e.path]) s ((s.heard e).toBuf 1) :=
    ((heard_frame s e).mono fun _ hm => List.mem_cons_of_mem _ (List.mem_cons_of_mem _ hm)).set (by exact List.mem_cons_self)
  have hu : Frame (· ∈ [R.PLAN_STATUS, R.PLAN_BUF_EPOCH, R.SEC_SESSION e.path]) u u.loaded :=
    (loaded_frame u).mono fun _ hm => List.mem_append_left [R.SEC_SESSION e.path] hm
  refine ⟨u.loaded.reply e 3 1 none [], ?_, ?_, congrArg PlanSt.buf hp, congrArg PlanSt.delivered hp,
    hr.flags _ _ (by decide) id u.loaded_flag, State.reply_sent _ _ _ _ _ _,
    fun x hx hn => ((hr.regs x hx id).trans (hu.regs x hx hn)).trans (hs.regs x hx hn)⟩
  · have hd : data ≠ [] := List.ne_nil_of_length_pos (by omega)
    have hmax : 0 + data.length ≤ planMax := by
      have : 1024 ≤ planMax := by decide
      omega
    rw [exec_planChunk (offset := 0) h]
    change Host.Outcome.next (((s.heard e).planChunk 0 data).1.reply e 3 1 ((s.heard e).planChunk 0 data).2 []) = _
    rw [State.planChunk_starts ((s.heard_mayLoad e).trans hl) hd hlen hmax, State.chunkWrite_whole _ hhead hall]
  · exact (hr.get ⟨by decide, by decide⟩ id).trans u.loaded_bufState

/-! ### STORE_SLOT -/

theorem exec_storeSlot {s : State} {x : Sender} {slot : Fin 4} (h : s.mayPlan x (7 + 16 * slot) = true) :
    exec (.storeSlot x slot) s = .next (if s.bufState = 4 then (s.acceptedSlot x 7 slot).storeSlot slot else (s.taken x).planIgnored x) := by
  change Host.Outcome.next (s.planCommand _ _ _) = _
  rw [State.planCommand_taken h, State.taken_bufState]
  rfl

theorem State.storeSlot_keeps (s : State) (slot : Nat) : s.keepsRegs (s.storeSlot slot) [R.PLAN_STATUS] :=
  fun x hx hn => ((Frame.refl (· ∈ [R.PLAN_STATUS]) s).set (f := F.PLAN_STATUS.STATE) (v := 7) (by decide)).regs x hx hn

theorem State.storeSlot_slots (s : State) (slot : Nat) :
    (s.storeSlot slot).plan.slots = s.plan.slots.set slot (s.plan.buf.take (imgTotal s.plan.buf)) := rfl

theorem storeSlot_starts {s : State} {x : Sender} {slot : Fin 4} (h : s.mayPlan x (7 + 16 * slot) = true) (hv : s.bufState = 4)
    (hslots : s.plan.slots.length = 4) :
    ∃ t, exec (.storeSlot x slot) s = .next t ∧ t.bufState = 7 ∧ t.get F.PLAN_COMMAND.CMD = 7 ∧ t.get F.PLAN_COMMAND.SLOT = slot
      ∧ nth t.plan.slots slot [] = s.plan.buf.take (imgTotal s.plan.buf)
      ∧ s.keepsRegs t (R.PLAN_STATUS :: R.PLAN_COMMAND :: senderRegs x) := by
  have hkept {f : Fld} (hx : ordinary f.addr) (hn : f.addr ≠ R.PLAN_STATUS) :
      ((s.acceptedSlot x 7 slot).storeSlot slot).get f = (s.acceptedSlot x 7 slot).get f :=
    (State.storeSlot_keeps _ _).get hx fun h => hn (List.mem_singleton.mp h)
  refine ⟨(s.acceptedSlot x 7 slot).storeSlot slot, by rw [exec_storeSlot h, if_pos hv], State.toBuf_bufState _ 7, ?_, ?_, ?_,
    (acceptedSlot_keeps s x 7 slot).status (State.storeSlot_keeps _ _)⟩
  · exact (hkept ⟨by decide, by decide⟩ (by decide)).trans (s.acceptedSlot_cmd x slot)
  · exact (hkept ⟨by decide, by decide⟩ (by decide)).trans (s.acceptedSlot_slot x 7 slot)
  · have hlt : slot.val < s.plan.slots.length := by omega
    rw [State.storeSlot_slots, State.acceptedSlot_plan]
    simp [nth, hlt]

theorem storeSlotDone_holds {s : State} (same : Bool) (h : s.bufState = 7) :
    ∃ t, exec (.storeSlotDone same) s = .next t ∧ t.bufState = 4 ∧ (same = false → t.get F.PLAN_STATUS.REASON = 9)
      ∧ t.plan.slots = (if same then s.plan.slots else s.plan.slots.set s.plan.storing []) ∧ s.keepsRegs t [R.PLAN_STATUS] ∧ t.mem = s.mem := by
  have hb : Frame (· ∈ [R.PLAN_STATUS]) s (s.toBuf 4) := (Frame.refl _ s).set (by decide)
  have hr : Frame (· ∈ [R.PLAN_STATUS]) s ((s.toBuf 4).set F.PLAN_STATUS.REASON 0x09) := hb.set (by decide)
  have hexec : exec (.storeSlotDone same) s = .next (if same then s.toBuf 4 else ((s.toBuf 4).set F.PLAN_STATUS.REASON 0x09).onPlan
      fun q => { q with slots := q.slots.set q.storing [] }) := by
    change Host.Outcome.next (if _ then _ else _) = _
    rw [if_pos h]
  cases same with
  | true => exact ⟨s.toBuf 4, hexec, s.toBuf_bufState 4, nofun, congrArg PlanSt.slots hb.plan, hb.keeps, hb.mem⟩
  | false =>
    have hreason : ((s.toBuf 4).set F.PLAN_STATUS.REASON 9).get F.PLAN_STATUS.REASON = 9 % 256 :=
      State.get_set_same _ _ _ (by decide) (by decide)
    refine ⟨((s.toBuf 4).set F.PLAN_STATUS.REASON 0x09).onPlan fun q => { q with slots := q.slots.set q.storing [] }, hexec, ?_,
      fun _ => (State.onPlan_get _ _ _).trans hreason, (if_neg Bool.false_ne_true).symm,
      fun x hx hn => (State.onPlan_rd _ _ _).trans (hr.regs x hx hn), hr.mem⟩
    exact ((State.onPlan_get _ _ _).trans (State.get_set_apart _ _ (by decide) (by decide) (by decide))).trans (s.toBuf_bufState 4)

/-! ### Which states list a command -/

theorem exec_validate {s : State} {x : Sender} (h : s.mayPlan x 3 = true) :
    exec (.validate x) s = .next (if s.bufState = 2 then (s.accepted x 3).startValidation .validate else (s.taken x).planIgnored x) := by
  change Host.Outcome.next (s.planCommand _ _ _) = _
  rw [State.planCommand_taken h, State.taken_bufState]
  rfl

theorem State.taken_mayApply (s : State) (x : Sender) : (s.taken x).mayApply = s.mayApply := by
  have hshut : (s.taken x).shut = s.shut := by
    rw [State.shut, State.shut, State.on, State.on, State.on, State.on, s.taken_get x ⟨by decide, by decide⟩ (by decide),
      s.taken_get x ⟨by decide, by decide⟩ (by decide)]
  rw [State.mayApply, State.mayApply, hshut, s.taken_plan x, s.taken_get x ⟨by decide, by decide⟩ (by decide)]

theorem exec_applyCold {s : State} {x : Sender} (h : s.mayPlan x 4 = true) :
    exec (.applyCold x) s = .next (
      if s.bufState = 2 && s.mayApply then (s.accepted x 4).startValidation .applyCold
      else if s.bufState = 4 && s.mayApply then (s.accepted x 4).applyStart
      else (s.taken x).planIgnored x) := by
  change Host.Outcome.next (s.planCommand _ _ _) = _
  rw [State.planCommand_taken h, State.taken_bufState, State.taken_mayApply]
  rfl

theorem exec_prepareHitless_ignored {s : State} {x : Sender} (h : s.mayPlan x 5 = true) (hh : s.hState ≠ 0) :
    exec (.prepareHitless x) s = .next ((s.taken x).planIgnored x) := by
  change Host.Outcome.next (s.planCommand _ _ _) = _
  rw [State.planCommand_taken h]
  simp [hh]

theorem exec_cancel_ignored {s : State} {x : Sender} (h : s.mayPlan x 6 = true) (h1 : s.hState ≠ 1) (h2 : s.hState ≠ 2) :
    exec (.cancel x) s = .next ((s.taken x).planIgnored x) := by
  change Host.Outcome.next (s.planCommand _ _ _) = _
  rw [State.planCommand_taken h]
  simp [State.planCancel, h1, h2]

/-- Settles O11: a clause for each command, from what taking up, accepting or ignoring it does and what its step of the buffer does. -/
theorem planBufferLoadsAndStores : Obligations.PlanBufferLoadsAndStores := by
  unfold Obligations.PlanBufferLoadsAndStores
  refine ⟨fun s x h hl hg hi => loadWindow_starts h hl hg hi, fun s x h hl hg => ?_, fun s x h hl hg hi => ?_,
    fun s x slot h hl => loadSlot_starts h hl, fun s data h hk => loadDone_ofWindow data h hk, fun s data h hk => loadDone_ofSlot data h hk,
    fun s h => ?_, fun s e offset data h hl hd hend => planChunk_starts h hl hd hend,
    fun s e data h hl hhead hall hlen => planChunk_whole h hl hhead hall hlen, fun s x slot h hv hslots => storeSlot_starts h hv hslots,
    fun s same h => storeSlotDone_holds same h, fun s x h hl => ⟨_, ?_, ignored_holds s x⟩, fun s x slot h hl => ⟨_, ?_, ignored_holds s x⟩,
    fun s x h hb => ⟨_, ?_, ignored_holds s x⟩, fun s x h h2 h4 => ⟨_, ?_, ignored_holds s x⟩,
    fun s x h hh => ⟨_, exec_prepareHitless_ignored h hh, ignored_holds s x⟩, fun s x slot h hb => ⟨_, ?_, ignored_holds s x⟩,
    fun s x h h1 h2 => ⟨_, exec_cancel_ignored h h1 h2, ignored_holds s x⟩⟩
  case refine_1 =>
    obtain ⟨t, ht, ⟨hb, hr, hc, hf⟩, hk⟩ := loadWindow_ungranted h hl hg
    exact ⟨t, ht, hb, hr, hc, hf, hk⟩
  case refine_2 => exact loadWindow_beyond h hl hg hi
  case refine_3 =>
    obtain ⟨hb, hr, hc, hf⟩ := s.sourceError_failed
    exact ⟨_, exec_loadSourceError h, hb, hr, hc, hf, s.sourceError_keeps⟩
  case refine_4 => simp [exec_loadWindow h, hl]
  case refine_5 => simp [exec_loadSlot h, hl]
  case refine_6 => simp [exec_validate h, hb]
  case refine_7 => simp [exec_applyCold h, h2, h4]
  case refine_8 => simp [exec_storeSlot h, hb]

end Sys2Proof.Machine
end

section
/-!
SUPPORT. Validation and the cold apply: the verdict's effect, what each stage of Table 2.19 leaves and sets, its end, and its start
(R43, R44, R47, R48, Table 2.19).
-/
-- An argument that a tactic fills waits for all declarations before it: elaborated in parallel, such proofs would each hold a thread.
set_option Elab.async false

namespace Sys2Proof.Machine
open Sys2Proof

/-! ### VALIDATE and its verdict -/

theorem State.startValidation_keeps (s : State) (a : PlanAfter) : s.keepsRegs (s.startValidation a) [R.PLAN_STATUS] :=
  fun x hx hn => ((Frame.refl (· ∈ [R.PLAN_STATUS]) s).set (f := F.PLAN_STATUS.STATE) (v := 3) (by decide)).regs x hx hn

theorem State.accepted_validating (s : State) (x : Sender) (cmd : Nat) (a : PlanAfter) :
    ((s.accepted x cmd).startValidation a).bufState = 3
    ∧ s.keepsRegs ((s.accepted x cmd).startValidation a) (R.PLAN_STATUS :: R.PLAN_COMMAND :: senderRegs x) :=
  ⟨State.toBuf_bufState _ 3, (accepted_keeps s x cmd).status (State.startValidation_keeps _ _)⟩

theorem validate_starts {s : State} {x : Sender} (h : s.mayPlan x 3 = true) (hl : s.bufState = 2) :
    ∃ t, exec (.validate x) s = .next t ∧ t.bufState = 3 ∧ t.get F.PLAN_COMMAND.CMD = 3 ∧ t.plan.after = .validate
      ∧ s.keepsRegs t (R.PLAN_STATUS :: R.PLAN_COMMAND :: senderRegs x) := by
  obtain ⟨hb, hk⟩ := s.accepted_validating x 3 .validate
  refine ⟨(s.accepted x 3).startValidation .validate, by rw [exec_validate h, if_pos hl], hb, ?_, rfl, hk⟩
  exact ((State.startValidation_keeps _ _).get ⟨by decide, by decide⟩ (by decide)).trans (s.accepted_cmd x)

theorem applyCold_validates {s : State} {x : Sender} (h : s.mayPlan x 4 = true) (hl : s.bufState = 2) (hm : s.mayApply = true) :
    ∃ t, exec (.applyCold x) s = .next t ∧ t.bufState = 3 ∧ t.plan.after = .applyCold
      ∧ s.keepsRegs t (R.PLAN_STATUS :: R.PLAN_COMMAND :: senderRegs x) := by
  obtain ⟨hb, hk⟩ := s.accepted_validating x 4 .applyCold
  exact ⟨(s.accepted x 4).startValidation .applyCold, by simp [exec_applyCold h, hl, hm], hb, rfl, hk⟩

/-- The buffer is VALID: REASON 0, RECORD 0xFFFF. -/
def State.markValid (s : State) : State := (((s.toBuf 4).set F.PLAN_STATUS.REASON 0).set F.PLAN_STATUS.RECORD 0xFFFF).raise 0x02 1

theorem markValid_frame (s : State) : Frame (· ∈ [R.PLAN_STATUS]) s s.markValid :=
  ((((Frame.refl _ s).set (by decide)).set (by decide)).set (by decide)).raise

theorem State.markValid_bufState (s : State) : s.markValid.bufState = 4 := by
  rw [State.bufState, State.markValid, State.raise_get _ _ _ ⟨by decide, by decide⟩,
    State.get_set_apart _ _ (by decide) (by decide) (by decide), State.get_set_apart _ _ (by decide) (by decide) (by decide)]
  exact s.toBuf_bufState 4

theorem State.markValid_reason (s : State) : s.markValid.get F.PLAN_STATUS.REASON = 0 := by
  rw [State.markValid, State.raise_get _ _ _ ⟨by decide, by decide⟩, State.get_set_apart _ _ (by decide) (by decide) (by decide),
    State.get_set_same _ _ _ (by decide) (by decide), Nat.zero_mod]

theorem State.markValid_record (s : State) : s.markValid.get F.PLAN_STATUS.RECORD = 0xFFFF % 65536 := by
  rw [State.markValid, State.raise_get _ _ _ ⟨by decide, by decide⟩]
  exact State.get_set_same _ _ _ (by decide) (by decide)

theorem State.markValid_flag (s : State) : s.markValid.flag 0x02 1 = true := State.raise_flag _ (by decide) (by decide)

theorem State.validated_valid {s : State} (ha : s.plan.after = .validate) (hv : s.validation = none) : s.validated = s.markValid := by
  simp only [State.validated, hv, ha]
  rfl

theorem State.validated_rejected {s : State} {reason k : Nat} (ha : s.plan.after = .validate) (hv : s.validation = some (reason, k)) :
    s.validated = s.rejectPlan 5 reason k := by
  simp [State.validated, hv, ha]

theorem validationComplete_holds {s : State} (h : s.bufState = 3) (ha : s.plan.after = .validate) :
    ∃ t, exec .validationComplete s = .next t ∧ t.bufState = (if s.validation.isNone then 4 else 5)
      ∧ t.get F.PLAN_STATUS.REASON = ((s.validation.map (·.1)).getD 0) % 256
      ∧ t.get F.PLAN_STATUS.RECORD = ((s.validation.map (·.2)).getD 0xFFFF) % 65536
      ∧ t.flag 0x02 (if s.validation.isNone then 1 else 2) = true ∧ s.keepsRegs t [R.PLAN_STATUS] ∧ t.plan = s.plan := by
  have hexec : exec .validationComplete s = .next s.validated := by
    change Host.Outcome.next _ = _
    rw [if_pos h]
  cases hv : s.validation with
  | none =>
    rw [State.validated_valid ha hv] at hexec
    exact ⟨_, hexec, s.markValid_bufState, s.markValid_reason, s.markValid_record, s.markValid_flag, (markValid_frame s).keeps,
      (markValid_frame s).plan⟩
  | some v =>
    obtain ⟨reason, k⟩ := v
    rw [State.validated_rejected ha hv] at hexec
    exact ⟨_, hexec, s.rejectPlan_bufState 5 reason k, s.rejectPlan_reason 5 reason k, s.rejectPlan_record 5 reason k,
      s.rejectPlan_flag 5 reason k, (rejectPlan_frame s 5 reason k).keeps, (rejectPlan_frame s 5 reason k).plan⟩

/-! ### What binding reads, and what runs before it -/

/-- The words from block FURROW on but for those that tell fallow furrows. -/
def beyondPlan (a : Nat) : Prop := 0x200000 ≤ a ∧ (a < R.BIST_FALLOW 0 ∨ R.BIST_FALLOW 4 ≤ a)

theorem beyondPlan_lineBlocks : lineBlocks beyondPlan := fun _ hl hu => ⟨hl, .inl (Nat.lt_trans hu (by decide))⟩

theorem beyondPlan_domain {d : Nat} (h : d < 0x1000) : domainWords d beyondPlan := by
  simp only [domainWords, beyondPlan, R.PWR_VOTE, R.PWR_DOM_STATUS, R.BIST_FALLOW]
  omega

theorem healthyFurrows_of_frame {s t : State} (h : Frame beyondPlan s t) : t.healthyFurrows = s.healthyFurrows := by
  refine List.filter_congr fun f hf => ?_
  have hlt : f / 32 < 4 := by
    have := List.mem_range.mp hf
    omega
  have hfallow : t.on ⟨R.BIST_FALLOW (f / 32), f % 32, f % 32⟩ = s.on ⟨R.BIST_FALLOW (f / 32), f % 32, f % 32⟩ := by
    refine congrArg (· != 0) (h.get ?_ ?_)
    all_goals
      simp only [ordinary, beyondPlan, R.BIST_FALLOW]
      omega
  have hfail : t.inServiceFail f = s.inServiceFail f := by
    rw [State.inServiceFail, State.inServiceFail, State.unitWord, State.unitWord, State.results, State.results, h.bist]
  rw [State.furrowHealthy, State.furrowHealthy, hfallow, hfail]

theorem bindPlan_of_frame {s t : State} (h : Frame beyondPlan s t) (p : Plan) : t.bindPlan p = s.bindPlan p := by
  rw [State.bindPlan, State.bindPlan, healthyFurrows_of_frame h]

theorem bindGroups_furrow {gs : List GroupRec} {pool : List Nat} {b : Bound} {f : Nat} (hb : b ∈ bindGroups gs pool) (hf : f ∈ b.furrows) :
    f ∈ pool := by
  induction gs generalizing pool with
  | nil => cases hb
  | cons g gs ih =>
    obtain rfl | hb := List.mem_cons.mp hb
    · exact List.mem_of_mem_take hf
    · exact List.mem_of_mem_drop (ih hb)

theorem furrowDomains_bindPlan {s : State} {p : Plan} {d : Nat} (h : d ∈ furrowDomains (s.bindPlan p)) : d < 19 := by
  obtain ⟨f, hf, rfl⟩ := List.mem_map.mp (List.mem_eraseDups.mp h)
  obtain ⟨b, hb, hf⟩ := List.mem_flatMap.mp hf
  have := List.mem_range.mp (List.mem_filter.mp (bindGroups_furrow hb hf)).1
  omega

theorem leNat_lt (bs : List Byte) : leNat bs < 256 ^ bs.length := by
  induction bs with
  | nil => decide
  | cons b bs ih =>
    have := b.isLt
    rw [leNat, List.foldr_cons, ← leNat, List.length_cons, Nat.pow_succ]
    omega

theorem Rec.le_one_lt (r : Rec) (off : Nat) : r.le off 1 < 256 :=
  Nat.lt_of_lt_of_le (leNat_lt _) (Nat.pow_le_pow_right (by decide) (List.length_take_le 1 _))

theorem laneList_lt {p : Plan} {n l : Nat} {q : PortRec} (h : p.port n = some q) (hl : l ∈ q.laneList) : l < 0x200 := by
  obtain ⟨r, -, rfl⟩ := Option.map_eq_some_iff.mp h
  obtain ⟨k, hk, rfl⟩ := List.mem_map.mp hl
  have hk : k < r.le 3 1 := List.mem_range.mp hk
  have := r.le_one_lt 3
  dsimp only
  omega

theorem portDomains_lt {p : Plan} {ports : List Nat} {d : Nat} (h : d ∈ p.portDomains ports) : d < 0x1000 := by
  unfold Plan.portDomains at h
  split at h
  · cases h
  · obtain rfl | h := List.mem_cons.mp h
    · decide
    · obtain ⟨q, hq, h⟩ := List.mem_flatMap.mp (List.mem_eraseDups.mp h)
      obtain ⟨n, -, hn⟩ := List.mem_filterMap.mp hq
      obtain ⟨l, hl, rfl⟩ := List.mem_map.mp h
      have := laneList_lt hn hl
      omega

theorem domains_bindPlan {s : State} {p : Plan} {d : Nat} (h : d ∈ p.domains (s.bindPlan p)) : d < 0x1000 := by
  have hline (c : Carrier) : lineDomain c < 0x1000 ∧ fecDomain c < 0x1000 := by cases c <;> decide
  simp only [Plan.domains, List.mem_append, List.mem_map] at h
  obtain ((⟨c, -, rfl⟩ | ⟨c, -, rfl⟩) | h) | h := h
  · exact (hline c).1
  · exact (hline c).2
  · exact Nat.lt_trans (furrowDomains_bindPlan h) (by decide)
  · exact portDomains_lt h

/-! ### The stages of Table 2.19 -/

/-- The stages before binding leave what binding reads. -/
theorem applyStage_early {s0 s : State} (h : Frame beyondPlan s0 s) (p : Plan) {ms : Nat} (hms : ms < 20) :
    Frame beyondPlan s0 (s.applyStage p ms) := by
  unfold State.applyStage
  split
  case h_1 =>
    refine (h.planVotesFor fun d hd => beyondPlan_domain ?_).plLoad ⟨by decide, .inl (by decide)⟩
    exact hd.elim domains_bindPlan fun hd => by omega
  case h_6 => exact h
  all_goals omega

/-- The stages after binding write from block FURROW on. -/
theorem applyStage_late {s0 s : State} (h : Above 0x200000 s0 s) (p : Plan) {ms : Nat} (hms : 20 < ms) :
    Above 0x200000 s0 (s.applyStage p ms) := by
  unfold State.applyStage
  split
  case h_3 => exact h.calColdApply
  case h_4 => exact h.loopsApply.headlandApply.timeApply
  case h_5 => exact h.applyFramer
  case h_6 => exact h
  all_goals omega

/-- What a cold apply's stages leave: the memories, the buffer, the time of the last stage, and of the words below block FURROW all but
`PLAN_FURROWS`. -/
structure Staged (s t : State) : Prop where
  mem : t.mem = s.mem
  buf : t.plan.buf = s.plan.buf
  applyMs : t.plan.applyMs = s.plan.applyMs
  regs : ∀ x, ordinary x → x < 0x200000 → x ≠ R.PLAN_FURROWS → t.rd x = s.rd x

theorem Staged.trans {s t u : State} (h : Staged s t) (k : Staged t u) : Staged s u :=
  ⟨k.mem.trans h.mem, k.buf.trans h.buf, k.applyMs.trans h.applyMs, fun x hx hl hn => (k.regs x hx hl hn).trans (h.regs x hx hl hn)⟩

theorem Staged.get {s t : State} (h : Staged s t) {f : Fld} (hx : ordinary f.addr) (hl : f.addr < 0x200000) (hn : f.addr ≠ R.PLAN_FURROWS) :
    t.get f = s.get f := by
  rw [State.get, State.get, h.regs _ hx hl hn]

theorem Frame.staged {s t : State} (h : Above 0x200000 s t) : Staged s t :=
  ⟨h.mem, congrArg PlanSt.buf h.plan, congrArg PlanSt.applyMs h.plan, fun x hx hl _ => h.regs x hx (Nat.not_le.mpr hl)⟩

theorem Frame.above {s t : State} (h : Frame beyondPlan s t) : Above 0x200000 s t := h.mono fun _ ha => ha.1

/-- The receive groups are released. -/
def State.rxReleased (s : State) : State := carriers.foldl State.rxRelease s

theorem rxReleased_frame (s : State) : Frame beyondPlan s s.rxReleased :=
  (Frame.refl _ s).foldl fun _ _ _ h => h.rxRelease beyondPlan_lineBlocks

/-- The plan's groups are bound and counted. -/
def State.bindTo (s : State) (p : Plan) : State :=
  (s.onPlan fun q => { q with bound := s.bindPlan p, build := [] }).set F.PLAN_FURROWS.RUNNING p.furrowTotal

theorem State.bindTo_regs (s : State) (p : Plan) {x : Nat} (h : x ≠ R.PLAN_FURROWS) : (s.bindTo p).rd x = s.rd x :=
  (State.rd_set_other _ _ h).trans (State.onPlan_rd _ _ _)

theorem State.bindTo_staged (s : State) (p : Plan) : Staged s (s.bindTo p) := ⟨rfl, rfl, rfl, fun _ _ _ h => s.bindTo_regs p h⟩

theorem State.bindTo_bound (s : State) (p : Plan) : (s.bindTo p).plan.bound = s.bindPlan p := rfl

/-- Stage programs are loaded. -/
def State.programsLoad (s : State) (p : Plan) : State := carriers.foldl (fun s c => (s.rxRegs c p).txRegs c p) s

theorem programsLoad_frame (s : State) (p : Plan) : Above 0x200000 s (s.programsLoad p) :=
  (Frame.refl _ s).foldl fun _ _ _ h => h.rxRegs.txRegs

theorem State.applyBind_eq (s : State) (p : Plan) : s.applyBind p = (s.rxReleased.bindTo p).programsLoad p := rfl

/-- Binding: the plan's groups on the furrows healthy before it. -/
theorem applyBind_holds (s : State) (p : Plan) :
    Staged s (s.applyBind p) ∧ (s.applyBind p).plan.bound = s.bindPlan p
    ∧ (s.applyBind p).get F.PLAN_FURROWS.RUNNING = p.furrowTotal % 256 := by
  have hload := programsLoad_frame (s.rxReleased.bindTo p) p
  rw [State.applyBind_eq]
  refine ⟨((rxReleased_frame s).above.staged.trans (s.rxReleased.bindTo_staged p)).trans hload.staged, ?_, ?_⟩
  · rw [hload.plan, State.bindTo_bound, bindPlan_of_frame (rxReleased_frame s)]
  · exact (hload.get ⟨by decide, by decide⟩ (by decide)).trans (State.get_set_same _ _ _ (by decide) (by decide))

theorem applyStage_staged (s : State) (p : Plan) (ms : Nat) : Staged s (s.applyStage p ms) := by
  obtain h | rfl | h := Nat.lt_trichotomy ms 20
  · exact (applyStage_early (Frame.refl _ s) p h).above.staged
  · exact (applyBind_holds s p).1
  · exact (applyStage_late (Frame.refl _ s) p h).staged

/-- Stages in their order. -/
def State.stagesRun (s : State) (p : Plan) (l : List Nat) : State := l.foldl (fun s t => s.applyStage p t) s

theorem stagesRun_staged (s : State) (p : Plan) (l : List Nat) : Staged s (s.stagesRun p l) :=
  List.foldlRecOn (motive := Staged s) l _ ⟨rfl, rfl, rfl, fun _ _ _ _ => rfl⟩ fun _ h ms _ => h.trans (applyStage_staged _ p ms)

theorem stagesRun_early (s : State) (p : Plan) {l : List Nat} (hl : ∀ t ∈ l, t < 20) : Frame beyondPlan s (s.stagesRun p l) :=
  (Frame.refl _ s).foldl fun _ t ht h => applyStage_early h p (hl t ht)

theorem stagesRun_late (s : State) (p : Plan) {l : List Nat} (hl : ∀ t ∈ l, 20 < t) : Above 0x200000 s (s.stagesRun p l) :=
  (Frame.refl _ s).foldl fun _ t ht h => applyStage_late h p (hl t ht)

/-- The stages that have run by a time after another. -/
def dueStages (last ms : Nat) : List Nat := [1, 5, 20, 40, 60, 80].filter fun t => last < t && t ≤ ms

theorem State.applyUpTo_eq (s : State) (ms : Nat) : s.applyUpTo ms =
    (s.stagesRun (imgPlan s.plan.buf) (dueStages s.plan.applyMs ms)).onPlan fun q => { q with applyMs := max q.applyMs ms } := rfl

/-- When the stage of 20 ms is due, the others due are before it and after it. -/
theorem dueStages_binding {last ms : Nat} (h : last < 20) (hms : 20 ≤ ms) :
    ∃ before after, dueStages last ms = before ++ 20 :: after ∧ (∀ t ∈ before, t < 20) ∧ ∀ t ∈ after, 20 < t := by
  refine ⟨[1, 5].filter fun t => last < t && t ≤ ms, [40, 60, 80].filter fun t => last < t && t ≤ ms, ?_, ?_, ?_⟩
  · exact (List.filter_append [1, 5] (20 :: [40, 60, 80])).trans (congrArg _ (List.filter_cons_of_pos (by simp [h, hms])))
  · intro t ht
    have := (List.mem_filter.mp ht).1
    simp at this
    omega
  · intro t ht
    have := (List.mem_filter.mp ht).1
    simp at this
    omega

theorem applyUpTo_mem (s : State) (ms : Nat) : (s.applyUpTo ms).mem = s.mem := (stagesRun_staged s _ _).mem

theorem applyUpTo_applyMs (s : State) (ms : Nat) : (s.applyUpTo ms).plan.applyMs = max s.plan.applyMs ms :=
  congrArg (max · ms) (stagesRun_staged s _ _).applyMs

theorem applyUpTo_get (s : State) (ms : Nat) {f : Fld} (hx : ordinary f.addr) (hl : f.addr < 0x200000) (hn : f.addr ≠ R.PLAN_FURROWS) :
    (s.applyUpTo ms).get f = s.get f := by
  rw [State.applyUpTo_eq, State.onPlan_get]
  exact (stagesRun_staged s _ _).get hx hl hn

theorem stagesRun_binds (s : State) (p : Plan) {before after : List Nat} (hb : ∀ t ∈ before, t < 20) (ha : ∀ t ∈ after, 20 < t) :
    (s.stagesRun p (before ++ 20 :: after)).plan.bound = s.bindPlan p
    ∧ (s.stagesRun p (before ++ 20 :: after)).get F.PLAN_FURROWS.RUNNING = p.furrowTotal % 256 := by
  have heq : s.stagesRun p (before ++ 20 :: after) = ((s.stagesRun p before).applyBind p).stagesRun p after := by
    rw [State.stagesRun, List.foldl_append, List.foldl_cons]
    rfl
  have hlate := stagesRun_late ((s.stagesRun p before).applyBind p) p ha
  obtain ⟨-, hbound, hrun⟩ := applyBind_holds (s.stagesRun p before) p
  rw [heq, hlate.plan, hbound, hlate.get ⟨by decide, by decide⟩ (by decide), hrun]
  exact ⟨bindPlan_of_frame (stagesRun_early s p hb) p, rfl⟩

theorem applyUpTo_binds {s : State} {ms : Nat} (h : s.plan.applyMs < 20) (hms : 20 ≤ ms) :
    (s.applyUpTo ms).plan.bound = s.bindPlan (imgPlan s.plan.buf)
    ∧ (s.applyUpTo ms).get F.PLAN_FURROWS.RUNNING = (imgPlan s.plan.buf).furrowTotal % 256 := by
  obtain ⟨before, after, hdue, hb, ha⟩ := dueStages_binding h hms
  rw [State.applyUpTo_eq, State.onPlan_get, hdue]
  exact stagesRun_binds s _ hb ha

theorem coldApplyStage_holds {s : State} (ms : Nat) (h : s.bufState = 6) :
    ∃ t, exec (.coldApplyStage ms) s = .next t ∧ t.bufState = 6 ∧ t.plan.applyMs = max s.plan.applyMs (min 80 ms)
      ∧ ((s.plan.applyMs < 20 ∧ 20 ≤ ms) → (t.plan.bound = s.bindPlan (imgPlan s.plan.buf)
        ∧ t.get F.PLAN_FURROWS.RUNNING = (imgPlan s.plan.buf).furrowTotal % 256))
      ∧ t.mem = s.mem := by
  refine ⟨s.applyUpTo (min 80 ms), ?_, ?_, applyUpTo_applyMs s _, fun ⟨hlast, hms⟩ => applyUpTo_binds hlast (by omega), applyUpTo_mem s _⟩
  · change Host.Outcome.next _ = _
    rw [if_pos h]
  · exact (applyUpTo_get s _ ⟨by decide, by decide⟩ (by decide) (by decide)).trans h

/-! ### The end of a cold apply -/

/-- The buffer is VALID and its plan the running one. -/
def State.runsPlan (s : State) (p : Plan) : State :=
  ((s.toBuf 4).onPlan fun q => { q with running := some p }).set F.PLAN_RUN_EPOCH.EPOCH p.epoch

/-- Carriers acquire and beacon (Tables 3.5 and 6.2). -/
def State.carriersApplied (s : State) (p : Plan) : State := carriers.foldl (fun s c => s.carrierApplied c p) s

/-- Ports in use leave DISABLED, APPLIED is raised, and a vote not held is withdrawn (Tables 2.13, 2.19 and 8.3). -/
def State.portsApplied (s : State) (p : Plan) : State :=
  let s := (List.range 16).foldl (fun s n => if s.portUsed n then (s.toIngress n 1).lanesChanged n else s) s
  let s := s.egressAll.raiseEvent 0x02 3 0x0250
  if p.holdsVote then s else s.planVotesNone

theorem State.applyDone_eq (s : State) : s.applyDone =
    ((((s.applyUpTo 80).runsPlan (imgPlan s.plan.buf)).carriersApplied (imgPlan s.plan.buf)).modeApply (imgPlan s.plan.buf).mode
      (imgPlan s.plan.buf).minPl).portsApplied (imgPlan s.plan.buf) := rfl

theorem carriersApplied_frame (s : State) (p : Plan) : Above 0x200000 s (s.carriersApplied p) :=
  (Frame.refl _ s).foldl fun _ _ _ h => h.carrierApplied

theorem portsApplied_frame (s : State) (p : Plan) : Above 0x200000 s (s.portsApplied p) := by
  have h : Above 0x200000 s ((List.range 16).foldl (fun s n => if s.portUsed n then (s.toIngress n 1).lanesChanged n else s) s) :=
    (Frame.refl _ s).foldl fun _ _ _ h => h.toIngress.lanesChanged.ite h
  exact h.egressAll.raiseEvent.ite h.egressAll.raiseEvent.planVotesNone

theorem State.portsApplied_flag (s : State) (p : Plan) : (s.portsApplied p).flag 0x02 3 = true := by
  unfold State.portsApplied
  dsimp only
  split
  · exact State.raiseEvent_flag _ _ (by decide) (by decide)
  · exact (Frame.refl (0x200000 ≤ ·) _).planVotesNone.flags _ _ (by decide) (by decide) (State.raiseEvent_flag _ _ (by decide) (by decide))

theorem imgLe_four_lt (img : List Byte) (off : Nat) : imgLe img off 4 < 2 ^ 32 := by
  have hbyte (k : Nat) : imgByte img k < 256 := (nth img k 0xFF#8).isLt
  have h0 := hbyte (off + 0)
  have h1 := hbyte (off + 1)
  have h2 := hbyte (off + 2)
  have h3 := hbyte (off + 3)
  simp only [imgLe, List.range_succ, List.range_zero, List.nil_append, List.cons_append, List.foldr_cons, List.foldr_nil]
  omega

theorem runsPlan_mem (s : State) (p : Plan) : (s.runsPlan p).mem = s.mem := rfl

theorem runsPlan_running (s : State) (p : Plan) : (s.runsPlan p).plan.running = some p := rfl

theorem State.runsPlan_bufState (s : State) (p : Plan) : (s.runsPlan p).bufState = 4 :=
  ((State.get_set_other _ _ (by decide)).trans (State.onPlan_get _ _ _)).trans (s.toBuf_bufState 4)

theorem State.runsPlan_epoch (s : State) (img : List Byte) :
    (s.runsPlan (imgPlan img)).get F.PLAN_RUN_EPOCH.EPOCH = (imgPlan img).epoch :=
  (State.get_set_same _ _ _ (by decide) (by decide)).trans (Nat.mod_eq_of_lt (imgLe_four_lt img 0x10))

theorem State.runsPlan_mode (s : State) (p : Plan) : (s.runsPlan p).mode = s.mode :=
  ((State.get_set_other _ _ (by decide)).trans (State.onPlan_get _ _ _)).trans (State.get_set_other _ _ (by decide))

theorem modeApply_frame (s : State) (m r : Nat) : Frame (· ∈ [R.GLOBAL_MODE]) s (s.modeApply m r) :=
  have h := ((Frame.refl (· ∈ [R.GLOBAL_MODE]) s).set (f := F.GLOBAL_MODE.MODE) (v := m) (by decide)).set
    (f := F.GLOBAL_MODE.MIN_PL) (v := r) (by decide)
  h.ite h.raiseEvent

theorem State.modeApply_mode (s : State) (m r : Nat) : (s.modeApply m r).get F.GLOBAL_MODE.MODE = m % 16 := by
  have h : ((s.set F.GLOBAL_MODE.MODE m).set F.GLOBAL_MODE.MIN_PL r).get F.GLOBAL_MODE.MODE = m % 16 :=
    (State.get_set_apart _ _ (by decide) (by decide) (by decide)).trans (State.get_set_same _ _ _ (by decide) (by decide))
  unfold State.modeApply
  dsimp only
  split
  · exact h
  · exact (State.raiseEvent_get _ _ _ _ ⟨by decide, by decide⟩).trans h

theorem State.modeApply_flag {s : State} {m : Nat} (h : s.mode ≠ m % 16) (r : Nat) : (s.modeApply m r).flag 0x00 2 = true := by
  have hlt : s.mode < 16 := Nat.mod_lt _ (by decide)
  have hne : s.mode ≠ m := by omega
  unfold State.modeApply
  dsimp only
  rw [if_neg hne]
  exact State.raiseEvent_flag _ _ (by decide) (by decide)

theorem coldApplyComplete_holds {s : State} (h : s.bufState = 6) :
    ∃ t, exec .coldApplyComplete s = .next t ∧ t.bufState = 4 ∧ t.plan.running = some (imgPlan s.plan.buf)
      ∧ t.get F.PLAN_RUN_EPOCH.EPOCH = (imgPlan s.plan.buf).epoch ∧ t.get F.GLOBAL_MODE.MODE = (imgPlan s.plan.buf).mode % 16
      ∧ t.flag 0x02 3 = true ∧ ((s.mode ≠ (imgPlan s.plan.buf).mode % 16) → t.flag 0x00 2 = true) ∧ t.mem = s.mem := by
  let p := imgPlan s.plan.buf
  let u := (s.applyUpTo 80).runsPlan p
  let v := u.carriersApplied p
  let w := v.modeApply p.mode p.minPl
  have hv : Above 0x200000 u v := carriersApplied_frame u p
  have hw : Frame (· ∈ [R.GLOBAL_MODE]) v w := modeApply_frame v p.mode p.minPl
  have hports : Above 0x200000 w (w.portsApplied p) := portsApplied_frame w p
  have hend : Above 0x200000 (w.portsApplied p) (w.portsApplied p).shutTry := (Frame.refl _ _).shutTry
  have hlast := hports.trans hend
  have hget {f : Fld} (hx : ordinary f.addr) (hl : f.addr < 0x200000) (hn : f.addr ∉ [R.GLOBAL_MODE]) :
      (w.portsApplied p).shutTry.get f = u.get f :=
    ((hlast.get hx (Nat.not_le.mpr hl)).trans (hw.get hx hn)).trans (hv.get hx (Nat.not_le.mpr hl))
  have hmode : v.mode = s.mode := (hv.get ⟨by decide, by decide⟩ (by decide)).trans
    ((State.runsPlan_mode _ p).trans (applyUpTo_get s 80 ⟨by decide, by decide⟩ (by decide) (by decide)))
  refine ⟨(w.portsApplied p).shutTry, ?_, ?_, ?_, ?_, ?_, ?_, fun hne => ?_, ?_⟩
  · change Host.Outcome.next _ = _
    rw [if_pos h, State.applyDone_eq]
  · exact (hget ⟨by decide, by decide⟩ (by decide) (by decide)).trans (State.runsPlan_bufState _ p)
  · rw [hlast.plan, hw.plan, hv.plan]
    exact runsPlan_running _ p
  · exact (hget ⟨by decide, by decide⟩ (by decide) (by decide)).trans (State.runsPlan_epoch _ _)
  · exact (hlast.get ⟨by decide, by decide⟩ (by decide)).trans (State.modeApply_mode _ _ _)
  · exact hend.flags _ _ (by decide) (by decide) (State.portsApplied_flag _ p)
  · exact hlast.flags _ _ (by decide) (by decide) (State.modeApply_flag (hmode ▸ hne) _)
  · rw [hlast.mem, hw.mem, hv.mem]
    exact (runsPlan_mem _ p).trans (applyUpTo_mem s 80)

/-! ### The start of a cold apply: a re-plan is superseded -/

theorem planVotes_frame (s : State) (ds : List Nat) (v : Bool) : Above 0x1100000 s (s.planVotes ds v) :=
  (Frame.refl _ s).planVotes fun d _ => domainWords_above (Nat.le_refl _) d

theorem State.releaseBuild_mem (s : State) : s.releaseBuild.mem = s.mem := (planVotes_frame s _ _).mem

theorem State.releaseBuild_hState (s : State) : s.releaseBuild.hState = 0 :=
  ((State.onPlan_get _ _ _).trans (State.get_set_other _ _ (by decide))).trans (State.get_set_same _ _ _ (by decide) (by decide))

theorem State.releaseBuild_command (s : State) : s.releaseBuild.get F.PLAN_COMMAND.CMD = s.get F.PLAN_COMMAND.CMD :=
  (((State.onPlan_get _ _ _).trans (State.get_set_other _ _ (by decide))).trans (State.get_set_other _ _ (by decide))).trans
    ((planVotes_frame s _ _).get ⟨by decide, by decide⟩ (by decide))

theorem abortSwitch_frame (s : State) (reason : Nat) : Frame (· ∈ [R.PLAN_STATUS]) s.releaseBuild (s.abortSwitch reason) :=
  ((Frame.refl _ _).set (by decide)).raiseEvent

/-- A re-plan that is under way is superseded. -/
def State.superseded (s : State) : State := if s.hState = 0 then s else s.abortSwitch 0x47

theorem State.superseded_holds (s : State) :
    s.superseded.hState = 0 ∧ s.superseded.get F.PLAN_COMMAND.CMD = s.get F.PLAN_COMMAND.CMD ∧ s.superseded.mem = s.mem := by
  unfold State.superseded
  split
  case isTrue h => exact ⟨h, rfl, rfl⟩
  case isFalse h =>
    have hf := abortSwitch_frame s 0x47
    exact ⟨(hf.get ⟨by decide, by decide⟩ (by decide)).trans s.releaseBuild_hState,
      (hf.get ⟨by decide, by decide⟩ (by decide)).trans s.releaseBuild_command, hf.mem.trans s.releaseBuild_mem⟩

/-! ### Transmitters ramp down, link managers go dark, steps are discarded -/

/-- The buffer is APPLYING, no stage run. -/
def State.applyBegun (s : State) : State := (s.toBuf 6).onPlan fun q => { q with applyMs := 0 }

/-- Egress at local fault, transmitters ramp down. -/
def State.silenced (s : State) : State := carriers.foldl State.rampDown s.egressAll.headlandAbort

theorem silenced_frame (s : State) : Above 0x200000 s s.silenced :=
  (Frame.refl _ s).egressAll.headlandAbort.foldl fun _ _ _ h => h.rampDown

/-- What a link manager agreed is over. -/
def State.linkForgets (s : State) (c : Carrier) : State :=
  let s := ((s.wr (R.LINK_COMMIT c) 0).wr (R.LINK_FEATURES c) 0).wr (R.LINK_PEER_FEATURES c) 0
  let s := ((s.set (F.LINK_NUMBERING.ROLE c) 0).set (F.LINK_STATE.FRAME_MAJOR c) 0).set (F.LINK_STATE.FRAME_MINOR c) 0
  ((s.set (F.LINK_STATE.WMP_MAJOR c) 0).set (F.LINK_STATE.WMP_MINOR c) 0).set (F.LINK_STATE.BACKOFF c) 0

theorem State.linkForgets_linkState (s : State) (c : Carrier) : (s.linkForgets c).linkState c = s.linkState c := by
  cases c
  all_goals
    rw [State.linkState, State.linkForgets, State.get_set_apart _ _ (by decide) (by decide) (by decide),
      State.get_set_apart _ _ (by decide) (by decide) (by decide), State.get_set_apart _ _ (by decide) (by decide) (by decide),
      State.get_set_apart _ _ (by decide) (by decide) (by decide), State.get_set_apart _ _ (by decide) (by decide) (by decide),
      State.get_set_other _ _ (by decide), State.get_wr_other _ _ (by decide), State.get_wr_other _ _ (by decide),
      State.get_wr_other _ _ (by decide)]
    rfl

theorem State.linkForgets_role (s : State) (c : Carrier) : (s.linkForgets c).get (F.LINK_NUMBERING.ROLE c) = 0 := by
  cases c
  all_goals
    rw [State.linkForgets, State.get_set_other _ _ (by decide), State.get_set_other _ _ (by decide), State.get_set_other _ _ (by decide),
      State.get_set_other _ _ (by decide), State.get_set_other _ _ (by decide), State.get_set_same _ _ _ (by decide) (by decide),
      Nat.zero_mod]

theorem State.toLink_linkState (s : State) (c : Carrier) (st : Nat) : (s.toLink c st).linkState c = st % 16 := by
  have h {t : State} : t.egressAll.linkState c = t.linkState c :=
    ((Frame.refl (0x900000 ≤ ·) t).egressAll).get (by cases c <;> exact ⟨by decide, by decide⟩) (by cases c <;> decide)
  exact h.trans (State.get_set_same _ _ _ (by cases c <;> decide) (by cases c <;> decide))

theorem State.linkDark_holds (s : State) (c : Carrier) : (s.linkDark c).linkState c = 0 ∧ (s.linkDark c).get (F.LINK_NUMBERING.ROLE c) = 0 :=
  ⟨(State.linkForgets_linkState _ c).trans (State.toLink_linkState _ c 0), State.linkForgets_role _ c⟩

theorem State.darkened_holds (s : State) (c : Carrier) :
    (carriers.foldl State.linkDark s).linkState c = 0 ∧ (carriers.foldl State.linkDark s).get (F.LINK_NUMBERING.ROLE c) = 0 := by
  have hB : Above 0x740000 (s.linkDark .A) ((s.linkDark .A).linkDark .B) := (Frame.refl _ _).linkDark (by decide)
  cases c with
  | A =>
    obtain ⟨hs, hr⟩ := s.linkDark_holds .A
    exact ⟨(hB.get ⟨by decide, by decide⟩ (by decide)).trans hs, (hB.get ⟨by decide, by decide⟩ (by decide)).trans hr⟩
  | B => exact State.linkDark_holds _ .B

/-- The words of a carrier's armed steps. -/
def stepWords (c : Carrier) : List Nat := [R.FURROW_TX_STEP c, R.LINK_RX_STEP c]

theorem stepsDiscard_frame (s : State) (c : Carrier) : Frame (· ∈ stepWords c) s (s.stepsDiscard c) :=
  (((Frame.refl _ s).set (by cases c <;> decide)).set (by cases c <;> decide)).set (by cases c <;> decide)

theorem State.stepsDiscard_disarms (s : State) (c : Carrier) : (s.stepsDiscard c).get (F.FURROW_TX_STEP.ARMED c) = 0 := by
  have hne : (F.FURROW_TX_STEP.ARMED c).addr ≠ R.LINK_RX_STEP c := by cases c <;> decide
  exact ((State.get_set_other _ _ hne).trans (State.get_set_other _ _ hne)).trans
    (State.get_set_same _ _ _ (by cases c <;> decide) (by cases c <;> decide))

theorem State.stepsDiscarded_disarms (s : State) (c : Carrier) :
    (carriers.foldl State.stepsDiscard s).get (F.FURROW_TX_STEP.ARMED c) = 0 := by
  cases c with
  | A => exact ((stepsDiscard_frame _ .B).get ⟨by decide, by decide⟩ (by decide)).trans (s.stepsDiscard_disarms .A)
  | B => exact State.stepsDiscard_disarms _ .B

theorem stepsDiscarded_frame (s : State) : Frame (fun a => ∃ c, a ∈ stepWords c) s (carriers.foldl State.stepsDiscard s) :=
  (Frame.refl _ s).foldl fun t c _ h => h.trans ((stepsDiscard_frame t c).mono fun _ ha => ⟨c, ha⟩)

/-! ### Client ports and host lanes stop -/

/-- The words of a lane. -/
def laneBlock (k a : Nat) : Prop := R.HOSTLANE_CTRL k ≤ a ∧ a < R.HOSTLANE_CTRL k + 0x100

theorem laneBlock_words (k : Nat) : laneWords k (laneBlock k) := fun a hl hu => by
  simp only [laneBlock, R.HOSTLANE_TX_FFE_PRE, R.HOSTLANE_CTRL] at hl hu ⊢
  omega

theorem laneBlock_state (k : Nat) : laneBlock k (R.HOSTLANE_STATE k) := by
  simp only [laneBlock, R.HOSTLANE_STATE, R.HOSTLANE_CTRL]
  omega

/-- A lane enters DISABLED, before its client port follows. -/
def State.laneOff (s : State) (k : Nat) : State :=
  let s := ((s.set (F.HOSTLANE_STATE.STATE k) 0).set (F.HOSTLANE_STATE.SIGNAL k) 0).set (F.HOSTLANE_STATE.CDR_LOCK k) 0
  (s.laneIdle k false).set (F.HOSTLANE_EYE_HEIGHT.VALID k) 0

theorem laneOff_frame (s : State) (k : Nat) : Frame (laneBlock k) s (s.laneOff k) := by
  have hs := laneBlock_state k
  have he : laneBlock k (R.HOSTLANE_EYE_HEIGHT k) := by
    simp only [laneBlock, R.HOSTLANE_EYE_HEIGHT, R.HOSTLANE_CTRL]
    omega
  exact (((((Frame.refl _ s).set hs).set hs).set hs).laneIdle (laneBlock_words k)).set he

theorem State.laneState_outside {W : Nat → Prop} {s t : State} (h : Frame W s t) {k : Nat} (hk : k < 16) (hW : ¬ W (R.HOSTLANE_STATE k)) :
    t.laneState k = s.laneState k := by
  refine h.get ?_ hW
  simp only [ordinary, F.HOSTLANE_STATE.STATE, R.HOSTLANE_STATE]
  omega

theorem State.laneOff_laneState (s : State) {k : Nat} (hk : k < 16) : (s.laneOff k).laneState k = 0 := by
  let u := ((s.set (F.HOSTLANE_STATE.STATE k) 0).set (F.HOSTLANE_STATE.SIGNAL k) 0).set (F.HOSTLANE_STATE.CDR_LOCK k) 0
  have hu : u.laneState k = 0 := by
    have hle {a b : Nat} (h : Nat.ble a b = true) : a ≤ b := Nat.le_of_ble_eq_true h
    refine (State.get_set_apart _ _ (hle rfl) (hle rfl) ?_).trans ((State.get_set_apart _ _ (hle rfl) (hle rfl) ?_).trans
      (State.get_set_same _ _ _ (hle rfl) (hle rfl)))
    all_goals simp [apart, F.HOSTLANE_STATE.STATE, F.HOSTLANE_STATE.SIGNAL, F.HOSTLANE_STATE.CDR_LOCK]
  have hidle : Frame (R.HOSTLANE_TX_FFE_PRE k ≤ ·) u (u.laneIdle k false) := (Frame.refl _ u).laneIdle fun _ ha _ => ha
  refine (State.get_set_other _ _ ?_).trans ((State.laneState_outside hidle hk ?_).trans hu)
  all_goals
    simp only [F.HOSTLANE_STATE.STATE, F.HOSTLANE_EYE_HEIGHT.VALID, R.HOSTLANE_STATE, R.HOSTLANE_EYE_HEIGHT, R.HOSTLANE_TX_FFE_PRE]
    omega

theorem State.ingress_outside {W : Nat → Prop} {s t : State} (h : Frame W s t) {p : Nat} (hp : p < 16) (hW : ¬ W (R.CLIENT_STATE p)) :
    t.ingress p = s.ingress p := by
  refine h.get ?_ hW
  simp only [ordinary, F.CLIENT_STATE.INGRESS, R.CLIENT_STATE]
  omega

/-- Every client port's ingress is DISABLED. -/
def State.portsOff (s : State) : Prop := ∀ p < 16, s.ingress p = 0

theorem State.lanesChanged_disabled {s : State} {p : Nat} (h : s.ingress p = 0) : s.lanesChanged p = s := by
  simp only [State.lanesChanged, h]
  exact ite_self s

theorem State.portsOff.frame {s t : State} {k : Nat} (h : s.portsOff) (hf : Frame (laneBlock k) s t) (hk : k < 16) : t.portsOff := by
  intro p hp
  refine (State.ingress_outside hf hp ?_).trans (h p hp)
  simp only [laneBlock, R.CLIENT_STATE, R.HOSTLANE_CTRL]
  omega

theorem State.lanePort_lt {s : State} {k p : Nat} (h : s.lanePort k = some p) : p < 16 := by
  unfold State.lanePort at h
  split at h
  · obtain rfl := Option.some.inj h
    exact Nat.mod_lt _ (Nat.le_of_ble_eq_true rfl)
  · cases h

theorem State.laneOff_lanesChanged {s : State} {k : Nat} (h : s.portsOff) (hk : k < 16) {p : Nat} (hp : (s.laneOff k).lanePort k = some p) :
    (s.laneOff k).lanesChanged p = s.laneOff k :=
  State.lanesChanged_disabled (h.frame (laneOff_frame s k) hk p (State.lanePort_lt hp))

theorem State.toLane_portsOff {s : State} {k : Nat} (h : s.portsOff) (hk : k < 16) : s.toLane k 0 = s.laneOff k := by
  rw [State.toLane]
  simp only [Nat.reduceEqDiff, if_true, decide_false, Bool.or_false, Bool.false_eq_true, if_false, Bool.false_and]
  split
  case h_1 p hp => exact State.laneOff_lanesChanged h hk hp
  case h_2 => rfl

/-- A lane that is not DISABLED enters it and forgets its partner. -/
def State.laneStops (s : State) (k : Nat) : State :=
  if s.laneState k = 0 then s else (s.toLane k 0).set (F.HOSTLANE_STATE.PARTNER k) 0

theorem laneStops_frame {s : State} {k : Nat} (h : s.portsOff) (hk : k < 16) : Frame (laneBlock k) s (s.laneStops k) := by
  unfold State.laneStops
  rw [State.toLane_portsOff h hk]
  exact (Frame.refl _ s).ite ((laneOff_frame s k).set (laneBlock_state k))

theorem State.laneStops_laneState {s : State} {k : Nat} (h : s.portsOff) (hk : k < 16) : (s.laneStops k).laneState k = 0 := by
  unfold State.laneStops
  split
  case isTrue h0 => exact h0
  case isFalse =>
    rw [State.toLane_portsOff h hk]
    refine (State.get_set_apart _ _ (Nat.le_of_ble_eq_true rfl) (Nat.le_of_ble_eq_true rfl) ?_).trans (s.laneOff_laneState hk)
    simp [apart, F.HOSTLANE_STATE.STATE, F.HOSTLANE_STATE.PARTNER]

theorem State.lanesStop_off {s : State} (h : s.portsOff) {k : Nat} (hk : k ≤ 16) :
    ((List.range k).foldl State.laneStops s).portsOff ∧ ∀ m < k, ((List.range k).foldl State.laneStops s).laneState m = 0 := by
  induction k with
  | zero => exact ⟨h, nofun⟩
  | succ k ih =>
    obtain ⟨hp, hl⟩ := ih (by omega)
    rw [List.range_succ, List.foldl_append, List.foldl_cons, List.foldl_nil]
    have hf := laneStops_frame hp (show k < 16 by omega)
    refine ⟨hp.frame hf (by omega), fun m hm => ?_⟩
    obtain rfl | hlt := Nat.lt_succ_iff_lt_or_eq.mp hm |>.symm
    · exact State.laneStops_laneState hp (by omega)
    · refine (State.laneState_outside hf (by omega) ?_).trans (hl m hlt)
      simp only [laneBlock, R.HOSTLANE_STATE, R.HOSTLANE_CTRL]
      omega

theorem State.ingressStop_off (s : State) {k : Nat} (hk : k ≤ 16) :
    ∀ p < k, ((List.range k).foldl (fun s p => s.toIngress p 0) s).ingress p = 0 := by
  induction k with
  | zero => exact nofun
  | succ k ih =>
    intro p hp
    rw [List.range_succ, List.foldl_append, List.foldl_cons, List.foldl_nil]
    obtain rfl | hlt := Nat.lt_succ_iff_lt_or_eq.mp hp |>.symm
    · exact State.get_set_same _ _ _ (Nat.le_of_ble_eq_true rfl) (Nat.le_of_ble_eq_true rfl)
    · refine (State.get_set_other _ _ ?_).trans (ih (by omega) p hlt)
      simp only [F.CLIENT_STATE.INGRESS, R.CLIENT_STATE]
      omega

theorem State.hostSideStops_off (s : State) : s.hostSideStops.portsOff ∧ ∀ m < 16, s.hostSideStops.laneState m = 0 :=
  State.lanesStop_off (s.ingressStop_off (Nat.le_refl 16)) (Nat.le_refl 16)

theorem Frame.hostSideStops {n : Nat} {s0 s : State} (h : Above n s0 s) (hn : n ≤ 0x800000 := by omega) : Above n s0 s.hostSideStops := by
  have h1 : Above n s0 ((List.range 16).foldl (fun s p => s.toIngress p 0) s) := h.foldl fun _ _ _ h => h.toIngress
  exact h1.foldl fun _ _ _ h => h.ite h.toLane.set

/-! ### The start of a cold apply -/

/-- All that stops at t0. -/
def State.stops (s : State) : State := (carriers.foldl State.stepsDiscard (carriers.foldl State.linkDark s.silenced)).hostSideStops.toTt 0

theorem State.applyStart_eq (s : State) : s.applyStart = s.superseded.applyBegun.stops := rfl

theorem stops_frame (s : State) : Above 0x200000 s s.stops := (silenced_frame s).carriersDark.hostSideStops.toTt

theorem link_not_mem_stepWords (c d : Carrier) : R.LINK_STATE c ∉ stepWords d ∧ R.LINK_NUMBERING c ∉ stepWords d := by
  cases c <;> cases d <;> decide

theorem State.stops_link (s : State) (c : Carrier) :
    s.stops.linkState c = 0 ∧ s.stops.get (F.LINK_NUMBERING.ROLE c) = 0 ∧ s.stops.on (F.FURROW_TX_STEP.ARMED c) = false := by
  let u := carriers.foldl State.linkDark s.silenced
  let v := carriers.foldl State.stepsDiscard u
  have hv : Frame (fun a => ∃ d, a ∈ stepWords d) u v := stepsDiscarded_frame u
  have hend : Above 0x800000 v s.stops := ((Frame.refl _ v).hostSideStops (Nat.le_refl _)).toTt
  have hget {f : Fld} (hx : ordinary f.addr) (hl : f.addr < 0x800000) (hn : ∀ d, f.addr ∉ stepWords d) : s.stops.get f = u.get f :=
    (hend.get hx (Nat.not_le.mpr hl)).trans (hv.get hx fun ⟨d, hd⟩ => hn d hd)
  obtain ⟨hstate, hrole⟩ := State.darkened_holds s.silenced c
  refine ⟨(hget ?_ ?_ fun d => (link_not_mem_stepWords c d).1).trans hstate, (hget ?_ ?_ fun d => (link_not_mem_stepWords c d).2).trans hrole,
    congrArg (· != 0) ((hend.get ?_ ?_).trans (u.stepsDiscarded_disarms c))⟩
  case refine_1 | refine_3 | refine_5 => cases c <;> exact ⟨by decide, by decide⟩
  case refine_2 | refine_4 | refine_6 => cases c <;> decide

theorem State.stops_hostSide (s : State) {k : Nat} (hk : k < 16) : s.stops.laneState k = 0 ∧ s.stops.ingress k = 0 := by
  let u := (carriers.foldl State.stepsDiscard (carriers.foldl State.linkDark s.silenced)).hostSideStops
  have hend : Above 0xA00000 u s.stops := (Frame.refl _ u).toTt
  obtain ⟨hports, hlanes⟩ := State.hostSideStops_off (carriers.foldl State.stepsDiscard (carriers.foldl State.linkDark s.silenced))
  refine ⟨(State.laneState_outside hend hk ?_).trans (hlanes k hk), (State.ingress_outside hend hk ?_).trans (hports k hk)⟩
  all_goals
    simp only [R.HOSTLANE_STATE, R.CLIENT_STATE]
    omega

theorem applyCold_starts {s : State} {x : Sender} (c : Carrier) (k : Fin 16) (h : s.mayPlan x 4 = true) (hv : s.bufState = 4)
    (hm : s.mayApply = true) :
    ∃ t, exec (.applyCold x) s = .next t ∧ t.bufState = 6 ∧ t.get F.PLAN_COMMAND.CMD = 4 ∧ t.linkState c = 0
      ∧ t.get (F.LINK_NUMBERING.ROLE c) = 0 ∧ t.on (F.FURROW_TX_STEP.ARMED c) = false ∧ t.laneState k = 0
      ∧ t.get (F.CLIENT_STATE.INGRESS k) = 0 ∧ t.hState = 0 ∧ t.plan.applyMs = 0 ∧ t.mem = s.mem := by
  let a := (s.accepted x 4).superseded
  have hstops := stops_frame a.applyBegun
  obtain ⟨hidle, hcmd, hmem⟩ := (s.accepted x 4).superseded_holds
  obtain ⟨hlink, hrole, harmed⟩ := a.applyBegun.stops_link c
  obtain ⟨hlane, hingress⟩ := a.applyBegun.stops_hostSide k.isLt
  have hbegun {f : Fld} (hx : ordinary f.addr) (hl : f.addr < 0x200000) (hn : f.addr ≠ R.PLAN_STATUS) : a.applyBegun.stops.get f = a.get f :=
    ((hstops.get hx (Nat.not_le.mpr hl)).trans (State.onPlan_get _ _ _)).trans (State.get_set_other _ _ hn)
  refine ⟨a.applyBegun.stops, by simp [exec_applyCold h, hv, hm, State.applyStart_eq, a], ?_, ?_, hlink, hrole, harmed, hlane, hingress, ?_, ?_, ?_⟩
  · exact ((hstops.get ⟨by decide, by decide⟩ (by decide)).trans (State.onPlan_get _ _ _)).trans (a.toBuf_bufState 6)
  · exact (hbegun ⟨by decide, by decide⟩ (by decide) (by decide)).trans (hcmd.trans (s.accepted_cmd x))
  · exact (hbegun ⟨by decide, by decide⟩ (by decide) (by decide)).trans hidle
  · rw [hstops.plan]
    rfl
  · exact hstops.mem.trans (hmem.trans (accepted_frame s x 4).mem)

/-- Settles O12: a clause for each command, from the verdict's effect, the stages of Table 2.19, and what stops at its start. -/
theorem validationAndColdApply : Obligations.ValidationAndColdApply :=
  ⟨fun _ _ h hl => validate_starts h hl, fun _ h ha => validationComplete_holds h ha, fun _ _ h hl hm => applyCold_validates h hl hm,
    fun _ _ c k h hv hm => applyCold_starts c k h hv hm, fun _ ms h => coldApplyStage_holds ms h, fun _ h _ => coldApplyComplete_holds h⟩

end Sys2Proof.Machine
end

section
/-!
SUPPORT. The receive chain's shared operations (chapter 3): one carrier's half of a pair, and what the acquisition state's change, the loss of
frame alignment, pilot locks and the clearing of adaptive state write and leave.
-/
-- An argument that a tactic fills waits for all declarations before it: elaborated in parallel, such proofs would each hold a thread.
set_option Elab.async false

namespace Sys2Proof.Machine
open Sys2Proof

/-! ### One carrier's half of a pair -/

@[simp] theorem Duo.at_upd_same {α : Type} (d : Duo α) (c : Carrier) (f : α → α) : (d.upd c f).at c = f (d.at c) := by
  cases c <;> rfl

@[simp] theorem Duo.at_upd_other {α : Type} (d : Duo α) (c : Carrier) (f : α → α) : (d.upd c f).at c.other = d.at c.other := by
  cases c <;> rfl

@[simp] theorem Duo.at_upd_of_other {α : Type} (d : Duo α) (c : Carrier) (f : α → α) : (d.upd c.other f).at c = d.at c := by
  cases c <;> rfl

theorem carrier_eq_or_other (c a : Carrier) : a = c ∨ a = c.other := by cases c <;> cases a <;> decide

/-! ### Fields -/

/-- A one-bit field that stays reads as before. -/
theorem State.on_of_get {s t : State} {f : Fld} (h : t.get f = s.get f) : t.on f = s.on f := congrArg (· != 0) h

/-- A field set to 0 is off. -/
theorem State.on_set_zero (s : State) (f : Fld) (h1 : f.lo ≤ f.hi) (h2 : f.hi < 32) : (s.set f 0).on f = false := by
  rw [State.on, s.get_set_same f 0 h1 h2, Nat.zero_mod]
  rfl

/-- A field set, saturating at its largest value. -/
theorem State.get_setSat_same (s : State) (f : Fld) (v : Nat) (h1 : f.lo ≤ f.hi) (h2 : f.hi < 32) : (s.setSat f v).get f = min f.top v := by
  have hp : 0 < 2 ^ (f.hi + 1 - f.lo) := Nat.two_pow_pos _
  rw [State.setSat, s.get_set_same f _ h1 h2]
  apply Nat.mod_eq_of_lt
  simp only [Fld.top]
  omega

/-- Whether a field's word is BAR0, no INT_STATUS and none of a list. -/
def outside (l : List Nat) (f : Fld) : Bool := decide (f.addr < 0x4000000 ∧ f.addr % 0x80000 ≠ 4) && !l.contains f.addr

theorem outside_iff {l : List Nat} {f : Fld} : outside l f = true ↔ ordinary f.addr ∧ f.addr ∉ l := by
  simp [outside, ordinary]

/-- What writes only words of a list leaves a field outside of it. -/
theorem Frame.read {l : List Nat} {s t : State} (h : Frame (· ∈ l) s t) {f : Fld} (hf : outside l f = true) : t.get f = s.get f :=
  have ⟨hx, hn⟩ := outside_iff.mp hf
  h.get hx hn

theorem Frame.readOn {l : List Nat} {s t : State} (h : Frame (· ∈ l) s t) {f : Fld} (hf : outside l f = true) : t.on f = s.on f :=
  State.on_of_get (h.read hf)

/-- An INT_STATUS bit outside a list's words stays set. -/
theorem Frame.readFlag {l : List Nat} {s t : State} (h : Frame (· ∈ l) s t) {b k : Nat} (hb : b < 128) (hl : l.contains (intStatus b) = false)
    (hf : s.flag b k = true) : t.flag b k = true :=
  h.flags b k hb (by simpa using hl) hf

/-- Raising a bit with its event leaves fields. -/
theorem State.raiseEvent_read (s : State) (blk bit code : Nat) {f : Fld} (hf : outside [] f = true) : (s.raiseEvent blk bit code).get f = s.get f :=
  s.raiseEvent_get blk bit code (outside_iff.mp hf).1

/-- A bit past the word's end is none of its bits. -/
theorem withBits_beyond (w : Word) {n : Nat} (v : Nat) (h : 32 ≤ n) : withBits w n n v = w := by
  have hp : 2 ^ n = 2 ^ 32 * 2 ^ (n - 32) := by rw [← Nat.pow_add, Nat.add_sub_cancel' h]
  have hw : w.toNat / 2 ^ n = 0 := Nat.div_eq_of_lt (w.isLt.trans_le (Nat.pow_le_pow_right (by decide) h))
  apply BitVec.eq_of_toNat_eq
  rw [withBits, bitsOf, hw, Nat.zero_mod, Nat.zero_mul, Nat.sub_zero, BitVec.toNat_ofNat, hp, Nat.mul_left_comm, Nat.add_mul_mod_self_left]
  exact Nat.mod_eq_of_lt w.isLt

/-- Setting one bit, even one past the word's end, leaves the fields below it. -/
theorem State.get_setB_above (s : State) {f : Fld} {a n : Nat} (b : Bool) (h : f.hi < n) : (s.setB ⟨a, n, n⟩ b).get f = s.get f := by
  by_cases hn : n < 32
  · exact s.get_set_below _ (Nat.le_refl n) hn h
  · by_cases ha : f.addr = a
    · simp [State.setB, State.set, State.get, ha, withBits_beyond _ _ (Nat.not_lt.mp hn)]
    · exact s.get_set_other _ ha

/-- What one of a list's updates brings, and every other keeps, holds after all of them. -/
theorem foldl_establishes {α : Type} (P : State → Prop) (f : State → α → State) {l : List α} {x : α} (hx : x ∈ l)
    (hset : ∀ s, P (f s x)) (hkeep : ∀ s y, P s → P (f s y)) (s : State) : P (l.foldl f s) := by
  induction l generalizing s with
  | nil => exact absurd hx List.not_mem_nil
  | cons y l ih =>
    rcases List.mem_cons.mp hx with rfl | h
    · exact List.foldlRecOn l f (hset s) fun t ht z _ => hkeep t z ht
    · exact ih h _

/-! ### Loss of frame alignment (Table 5.3) and the acquisition state (Table 3.5) -/

/-- The words that end a swap's comparison. -/
def evalWords (c : Carrier) : List Nat := [R.FURROW_RX_NLC_CTRL c, R.FURROW_RX_NLC_CTRL c.other]

theorem evalWords_both (c : Carrier) : ∀ a ∈ evalWords c, a ∈ [R.FURROW_RX_NLC_CTRL .A, R.FURROW_RX_NLC_CTRL .B] := by
  cases c <;> decide

theorem evalWords_other (c : Carrier) : ∀ a ∈ evalWords c.other, a ∈ evalWords c := by
  cases c <;> decide

/-- The words that the loss of frame alignment writes. -/
def alignWords (c : Carrier) : List Nat := [R.LINK_ALIGN_STATUS c, R.FEC_STATUS c] ++ evalWords c

theorem evalAbandon_frame (s : State) (c : Carrier) : Frame (· ∈ evalWords c) s (s.evalAbandon c) :=
  (((Frame.refl _ s).set (by cases c <;> decide)).ite (Frame.refl _ s)).set (by cases c <;> decide)

theorem alignLost_frame (s : State) (c : Carrier) : Frame (· ∈ alignWords c) s (s.alignLost c) :=
  have hlost : Frame (· ∈ alignWords c) s ((if s.alignState c = 2 then s.frameRaise c 1 else s).mfLost c) :=
    ((((Frame.refl _ s).frameRaise.ite (Frame.refl _ s)).onLine).set (by cases c <;> decide)).frameRaise.ite
      (((Frame.refl _ s).frameRaise.ite (Frame.refl _ s)).onLine)
  (((hlost.set (by cases c <;> decide)).trans ((evalAbandon_frame _ c).mono fun _ => List.mem_append_right _)).onLine).set
    (by cases c <;> decide)

@[simp] theorem State.evalAbandon_rx (s : State) (c : Carrier) : (s.evalAbandon c).rx = s.rx := by
  unfold State.evalAbandon
  dsimp only
  split <;> rfl

@[simp] theorem State.alignLost_rx (s : State) (c : Carrier) : (s.alignLost c).rx = s.rx := by
  have hif : (if s.alignState c = 2 then s.frameRaise c 1 else s).rx = s.rx := by
    split
    · exact State.raiseEvent_rx _ _ _ _
    · rfl
  have hmf (t : State) : (t.mfLost c).rx = t.rx := by
    unfold State.mfLost
    dsimp only
    split
    · exact State.raiseEvent_rx _ _ _ _
    · rfl
  rw [State.alignLost, State.set_rx, State.onLine_rx, State.evalAbandon_rx, State.set_rx, hmf, hif]

/-- The acquisition state's word and those of alignment. -/
def stateWords (c : Carrier) : List Nat := R.FURROW_RX_STATE c :: alignWords c

theorem toRx_frame (s : State) (c : Carrier) (st : Nat) : Frame (· ∈ stateWords c) s (s.toRx c st) :=
  have hset : Frame (· ∈ stateWords c) s (s.set (F.FURROW_RX_STATE.STATE c) st) := (Frame.refl _ s).set List.mem_cons_self
  (hset.trans ((alignLost_frame _ c).mono fun _ => List.mem_cons_of_mem _)).ite hset

@[simp] theorem State.toRx_rx (s : State) (c : Carrier) (st : Nat) : (s.toRx c st).rx = s.rx := by
  unfold State.toRx
  dsimp only
  split
  · exact State.alignLost_rx _ c
  · rfl

/-- A chain that was not past PILOT, or stays so, keeps frame alignment. -/
theorem State.toRx_aligned {s : State} {c : Carrier} {st : Nat} (h : s.rxState c < 8 ∨ st = 8 ∨ st = 9) :
    s.toRx c st = s.set (F.FURROW_RX_STATE.STATE c) st := by
  unfold State.toRx
  dsimp only
  rw [if_neg]
  simp only [Bool.and_eq_true, Bool.or_eq_true, Bool.not_eq_true', Bool.or_eq_false_iff, decide_eq_true_eq, decide_eq_false_iff_not]
  omega

/-- A field apart from STATE, in no word of alignment, is as it was after a change of the acquisition state. -/
theorem State.toRx_get (s : State) (c : Carrier) (st : Nat) {f : Fld} (ha : apart f (F.FURROW_RX_STATE.STATE c) = true)
    (hf : outside (alignWords c) f = true) : (s.toRx c st).get f = s.get f := by
  have hset : (s.set (F.FURROW_RX_STATE.STATE c) st).get f = s.get f := s.get_set_apart _ (Nat.zero_le _) (by decide : 3 < 32) ha
  unfold State.toRx
  dsimp only
  split
  · exact ((alignLost_frame _ c).read hf).trans hset
  · exact hset

theorem State.toRx_rxState (s : State) (c : Carrier) {st : Nat} (h : st < 16 := by decide) : (s.toRx c st).rxState c = st := by
  have hset : (s.set (F.FURROW_RX_STATE.STATE c) st).get (F.FURROW_RX_STATE.STATE c) = st :=
    (s.get_set_same _ _ (Nat.zero_le _) (by decide : 3 < 32)).trans (Nat.mod_eq_of_lt h)
  unfold State.rxState State.toRx
  dsimp only
  split
  · exact ((alignLost_frame _ c).read (by cases c <;> decide)).trans hset
  · exact hset

/-! ### Pilot locks, and what LOS clears (R69, R71) -/

theorem scStatus_ne_state (c : Carrier) (k : Nat) : R.FURROW_RX_SC_STATUS c k ≠ R.FURROW_RX_STATE c := by
  simp only [R.FURROW_RX_SC_STATUS, R.FURROW_RX_STATE]
  omega

theorem scStatus_inj {c : Carrier} {j k : Nat} (h : R.FURROW_RX_SC_STATUS c j = R.FURROW_RX_SC_STATUS c k) : j = k := by
  simp only [R.FURROW_RX_SC_STATUS] at h
  omega

/-- A pilot lock leaves the fields of STATE and RETRIES. -/
theorem State.pilotLock_state (s : State) (c : Carrier) (k : Nat) (v : Bool) {f : Fld} (ha : f.addr = R.FURROW_RX_STATE c) (hf : f.hi < 16) :
    (s.pilotLock c k v).get f = s.get f :=
  (State.get_setB_above _ _ (by omega)).trans (s.get_set_other _ (ha ▸ (scStatus_ne_state c k).symm))

theorem State.pilotLock_rxState (s : State) (c : Carrier) (k : Nat) (v : Bool) : (s.pilotLock c k v).rxState c = s.rxState c :=
  s.pilotLock_state c k v rfl (by decide : 3 < 16)

/-- A pilot lock is written to its subcarrier's status. -/
theorem State.pilotLock_on (s : State) (c : Carrier) (k : Nat) (v : Bool) :
    (s.pilotLock c k v).on (F.FURROW_RX_SC_STATUS.PILOT_LOCK c k) = v :=
  (State.on_of_get (State.get_set_other _ _ (scStatus_ne_state c k))).trans (s.on_setB_same _ v rfl (by decide : 2 < 32))

/-- The status of another subcarrier is left alone. -/
theorem State.pilotLock_other (s : State) (c : Carrier) {j k : Nat} (v : Bool) {f : Fld} (ha : f.addr = R.FURROW_RX_SC_STATUS c j) (h : j ≠ k) :
    (s.pilotLock c k v).get f = s.get f :=
  (State.get_set_other _ _ (ha ▸ scStatus_ne_state c j)).trans (s.get_set_other _ (ha ▸ fun e => h (scStatus_inj e)))

end Sys2Proof.Machine
end

section
/-!
SUPPORT and statements. Acquisition's forward steps (Table 3.5): what a step does where HOLD_ACQ is 0 and the chain is in its source state, and
that none is taken where HOLD_ACQ is 1.
-/
namespace Sys2Proof.Machine
open Sys2Proof

/-! ### The commands -/

theorem exec_agcSettled (c : Carrier) (s : State) : exec (.agcSettled c) s = .next (s.acquire c 2 fun s => s.enterCdSearch c) := rfl

/-- The end of an AUTO search in CD_SEARCH: the best candidate is applied (R56). -/
def State.cdFound (s : State) (c : Carrier) (coarse fine : List Nat) : State :=
  (s.onRx c fun r => { r with cd := { r.cd with applied := s.cdBest c coarse fine, wait := 0 }, fullSearch := false }).toRx c 4

theorem exec_cdSearchComplete (c : Carrier) (coarse fine : List Nat) (s : State) : exec (.cdSearchComplete c coarse fine) s =
    .next (s.acquire c 3 fun s => if s.get (F.FURROW_RX_CD_CTRL.MODE c) = 0 then s.cdFound c coarse fine else s) := rfl

/-- Every subcarrier's pilots are held. -/
def State.pilotsHeld (s : State) (c : Carrier) : State := (List.range (s.subCount c)).foldl (fun s k => s.pilotLock c k true) s

theorem exec_pilotsFound (c : Carrier) (position : Nat) (s : State) : exec (.pilotsFound c position) s =
    .next (s.acquire c 7 fun s => ((s.pilotsHeld c).onRx c fun r => { r with pilotPos := some position }).toRx c 8) := rfl

theorem exec_snrStable (c : Carrier) (us : Nat) (s : State) : exec (.snrStable c us) s =
    .next (s.acquire c 8 fun s => ((s.setSat (F.FURROW_RX_ACQ_TIME.VALUE c) us).toRx c 9).rxRaise c 0) := rfl

/-! ### HOLD_ACQ -/

theorem State.acquire_moves {s : State} {c : Carrier} {src : Nat} (hh : s.on (F.FURROW_RX_CTRL.HOLD_ACQ c) = false) (hs : s.rxState c = src)
    (k : State → State) : s.acquire c src k = k s := by
  simp [State.acquire, hh, hs]

theorem State.acquire_held {s : State} {c : Carrier} (hh : s.on (F.FURROW_RX_CTRL.HOLD_ACQ c) = true) (src : Nat) (k : State → State) :
    s.acquire c src k = s := by
  simp [State.acquire, hh]

/-- Settles O15: each of the seven events is a transition that HOLD_ACQ stops. -/
theorem holdAcqStopsAcquisition : Obligations.HoldAcqStopsAcquisition := by
  have held {s : State} {c : Carrier} (hh : s.on (F.FURROW_RX_CTRL.HOLD_ACQ c) = true) (src : Nat) (k : State → State) :
      ∃ t, (Host.Outcome.next (s.acquire c src k) : Host.Outcome State Fault Refusal) = .next t ∧ t = s := ⟨_, rfl, s.acquire_held hh src k⟩
  exact ⟨fun _ _ h => held h 2 _, fun _ _ _ _ h => held h 3 _, fun _ _ h => held h 4 _, fun _ _ h => held h 5 _,
    fun _ _ h => held h 6 _, fun _ _ _ h => held h 7 _, fun _ _ _ h => held h 8 _⟩

/-! ### Entry to CD_SEARCH (Table 3.5) -/

theorem State.enterCdSearch_auto {s : State} {c : Carrier} (hm : s.get (F.FURROW_RX_CD_CTRL.MODE c) = 0) : s.enterCdSearch c = s.toRx c 3 :=
  if_pos hm

/-- CD_SET is applied, and the chain goes on to CLOCK. -/
def State.cdSetApplied (s : State) (c : Carrier) : State :=
  (s.onRx c fun r => { r with cd := { r.cd with applied := s.getS (F.FURROW_RX_CD_SET.VALUE c) } }).toRx c 4

theorem State.enterCdSearch_set {s : State} {c : Carrier} (hm : s.get (F.FURROW_RX_CD_CTRL.MODE c) ≠ 0) :
    s.enterCdSearch c = s.cdSetApplied c := if_neg hm

theorem State.cdSetApplied_applied (s : State) (c : Carrier) :
    ((s.cdSetApplied c).rx.at c).cd.applied = s.getS (F.FURROW_RX_CD_SET.VALUE c) := by
  simp [State.cdSetApplied]

/-! ### The steps -/

/-- A step below EQ_TRAIN that updates the chain's state beyond its registers writes STATE alone. -/
theorem toRx_onRx_keeps {s : State} {c : Carrier} (st : Nat) (f : RxSt → RxSt) (h : s.rxState c < 8) :
    s.keepsRegs ((s.onRx c f).toRx c st) [R.FURROW_RX_STATE c] ∧ ((s.onRx c f).toRx c st).mem = s.mem := by
  have hf : Frame (· ∈ [R.FURROW_RX_STATE c]) s ((s.onRx c f).set (F.FURROW_RX_STATE.STATE c) st) :=
    (Frame.refl _ s).onRx.set (List.mem_singleton_self _)
  rw [State.toRx_aligned (s := s.onRx c f) (.inl h)]
  exact ⟨hf.keeps, hf.mem⟩

/-- A step between two states below EQ_TRAIN writes STATE and nothing else. -/
theorem acquire_writes {s : State} {c : Carrier} {src : Nat} (dst : Nat) (hh : s.on (F.FURROW_RX_CTRL.HOLD_ACQ c) = false)
    (hs : s.rxState c = src) (hlt : src < 8) : s.acquire c src (fun s => s.toRx c dst) = s.set (F.FURROW_RX_STATE.STATE c) dst :=
  (State.acquire_moves hh hs _).trans (State.toRx_aligned (.inl (hs ▸ hlt)))

theorem agcSettled_auto {s : State} {c : Carrier} (hh : s.on (F.FURROW_RX_CTRL.HOLD_ACQ c) = false) (hs : s.rxState c = 2)
    (hm : s.get (F.FURROW_RX_CD_CTRL.MODE c) = 0) : exec (.agcSettled c) s = .next (s.set (F.FURROW_RX_STATE.STATE c) 3) := by
  rw [exec_agcSettled, State.acquire_moves hh hs, State.enterCdSearch_auto hm, State.toRx_aligned (.inl (hs ▸ by decide))]

theorem agcSettled_set {s : State} {c : Carrier} (hh : s.on (F.FURROW_RX_CTRL.HOLD_ACQ c) = false) (hs : s.rxState c = 2)
    (hm : s.get (F.FURROW_RX_CD_CTRL.MODE c) ≠ 0) : exec (.agcSettled c) s = .next (s.cdSetApplied c) := by
  rw [exec_agcSettled, State.acquire_moves hh hs, State.enterCdSearch_set hm]

theorem cdSearchComplete_auto {s : State} {c : Carrier} (coarse fine : List Nat) (hh : s.on (F.FURROW_RX_CTRL.HOLD_ACQ c) = false)
    (hs : s.rxState c = 3) (hm : s.get (F.FURROW_RX_CD_CTRL.MODE c) = 0) :
    exec (.cdSearchComplete c coarse fine) s = .next (s.cdFound c coarse fine) := by
  rw [exec_cdSearchComplete, State.acquire_moves hh hs, if_pos hm]

@[simp] theorem State.pilotsHeld_mem (s : State) (c : Carrier) : (s.pilotsHeld c).mem = s.mem :=
  foldl_keeps State.mem (fun s k => s.pilotLock c k true) (fun _ _ => rfl) _ s

/-- Every pilot of the carrier's subcarriers is held. -/
theorem State.pilotsHeld_on (s : State) (c : Carrier) {k : Nat} (hk : k < s.subCount c) :
    (s.pilotsHeld c).on (F.FURROW_RX_SC_STATUS.PILOT_LOCK c k) = true := by
  refine foldl_establishes (fun t => t.on (F.FURROW_RX_SC_STATUS.PILOT_LOCK c k) = true) (fun t k => t.pilotLock c k true)
    (List.mem_range.mpr hk) (fun t => t.pilotLock_on c k true) (fun t j h => ?_) s
  by_cases hj : k = j
  · subst hj
    exact t.pilotLock_on c k true
  · exact (State.on_of_get (t.pilotLock_other c true rfl hj)).trans h

theorem pilotsFound_holds {s : State} {c : Carrier} (position : Nat) (hh : s.on (F.FURROW_RX_CTRL.HOLD_ACQ c) = false) (hs : s.rxState c = 7) :
    ∃ t, exec (.pilotsFound c position) s = .next t ∧ t.rxState c = 8 ∧ (t.rx.at c).pilotPos = some position
      ∧ (∀ k < min 16 (s.subCount c), t.on (F.FURROW_RX_SC_STATUS.PILOT_LOCK c k) = true) ∧ t.mem = s.mem := by
  refine ⟨((s.pilotsHeld c).onRx c fun r => { r with pilotPos := some position }).toRx c 8, ?_, State.toRx_rxState _ c, ?_, fun k hk => ?_, ?_⟩
  · rw [exec_pilotsFound, State.acquire_moves hh hs]
  · simp
  · rw [State.toRx_aligned (.inr (.inl rfl))]
    exact (State.on_of_get (State.get_set_other _ _ (scStatus_ne_state c k))).trans (s.pilotsHeld_on c (hk.trans_le (Nat.min_le_right _ _)))
  · exact (toRx_frame _ c 8).mem.trans (s.pilotsHeld_mem c)

theorem snrStable_holds {s : State} {c : Carrier} (us : Nat) (hh : s.on (F.FURROW_RX_CTRL.HOLD_ACQ c) = false) (hs : s.rxState c = 8) :
    ∃ t, exec (.snrStable c us) s = .next t ∧ t.rxState c = 9 ∧ t.get (F.FURROW_RX_ACQ_TIME.VALUE c) = min (F.FURROW_RX_ACQ_TIME.VALUE c).top us
      ∧ t.flag 0x04 (8 * c.idx) = true ∧ s.onlyRegs t [R.FURROW_RX_STATE c, R.FURROW_RX_ACQ_TIME c] := by
  have htrack := State.toRx_aligned (s := s.setSat (F.FURROW_RX_ACQ_TIME.VALUE c) us) (c := c) (st := 9) (.inr (.inr rfl))
  refine ⟨((s.setSat (F.FURROW_RX_ACQ_TIME.VALUE c) us).toRx c 9).rxRaise c 0, ?_, ?_, ?_, ?_, ?_⟩
  · rw [exec_snrStable, State.acquire_moves hh hs]
  · exact (State.raiseEvent_read _ _ _ _ (by cases c <;> decide)).trans (State.toRx_rxState _ c)
  · rw [State.rxRaise, State.raiseEvent_read _ _ _ _ (by cases c <;> decide), htrack, State.get_set_other _ _ (by cases c <;> decide)]
    exact s.get_setSat_same _ us (Nat.zero_le _) (by decide : 31 < 32)
  · rw [State.rxRaise, Nat.zero_add]
    exact State.raiseEvent_flag _ _ (by decide) (by cases c <;> decide)
  · rw [htrack]
    exact onlyRegs_raiseEvent (onlyRegs_set (onlyRegs_set (onlyRegs_refl s _) (List.mem_cons_of_mem _ (List.mem_singleton_self _)) _)
      List.mem_cons_self _) _ _ _

/-- Settles O14: a clause for each step, from what its command does in its source state. -/
theorem receiveAcquisitionAdvances : Obligations.ReceiveAcquisitionAdvances := by
  have step {s : State} {c : Carrier} {src : Nat} (dst : Nat) (hh : s.on (F.FURROW_RX_CTRL.HOLD_ACQ c) = false) (hs : s.rxState c = src)
      (hlt : src < 8) : ∃ t, (Host.Outcome.next (s.acquire c src fun s => s.toRx c dst) : Host.Outcome State Fault Refusal) = .next t
        ∧ t = s.set (F.FURROW_RX_STATE.STATE c) dst := ⟨_, rfl, acquire_writes dst hh hs hlt⟩
  refine ⟨fun s c hh hs hm => ⟨_, agcSettled_auto hh hs hm, rfl⟩, fun s c hh hs hm => ?_, fun s c coarse fine hh hs hm => ?_,
    fun _ _ hh hs => step 5 hh hs (by decide), fun _ _ hh hs => step 6 hh hs (by decide), fun _ _ hh hs => step 7 hh hs (by decide),
    fun _ _ position hh hs => pilotsFound_holds position hh hs, fun _ _ us hh hs => snrStable_holds us hh hs⟩
  · exact ⟨_, agcSettled_set hh hs hm, State.toRx_rxState _ c, s.cdSetApplied_applied c, toRx_onRx_keeps 4 _ (hs ▸ by decide)⟩
  · refine ⟨_, cdSearchComplete_auto coarse fine hh hs hm, State.toRx_rxState _ c, ?_, ?_, toRx_onRx_keeps 4 _ (hs ▸ by decide)⟩
    all_goals simp [State.cdFound]

end Sys2Proof.Machine
end

section
/-!
SUPPORT and statement. The receive chain's losses and its restart (R53, R67, R71, Table 3.5): what LOS clears and leaves, and what a lost lock, a
limit, an overflow and a cycle slip write.
-/
-- An argument that a tactic fills waits for all declarations before it: elaborated in parallel, such proofs would each hold a thread.
set_option Elab.async false

namespace Sys2Proof.Machine
open Sys2Proof

/-! ### Estimates that are no longer measured (R69) -/

/-- The registers of the estimates with a VALID bit. -/
def estWords (c : Carrier) : List Nat := [R.FURROW_RX_SNR c, R.FURROW_RX_OSNR c, R.FURROW_RX_PDL c, R.FURROW_RX_Q c]

theorem estInvalid_frame (s : State) (c : Carrier) : Frame (· ∈ estWords c) s (s.estInvalid c) :=
  (Frame.refl _ s).ite (((((Frame.refl _ s).set (by cases c <;> decide)).set (by cases c <;> decide)).set (by cases c <;> decide)).set
    (by cases c <;> decide))

@[simp] theorem State.estInvalid_rx (s : State) (c : Carrier) : (s.estInvalid c).rx = s.rx := by
  unfold State.estInvalid
  split
  · rfl
  · rw [State.set_rx, State.set_rx, State.set_rx, State.set_rx]

theorem State.estInvalid_snr {s : State} {c : Carrier} (h : s.on (F.FURROW_RX_EST_CTRL.HOLD c) = false) :
    (s.estInvalid c).on (F.FURROW_RX_SNR.VALID c) = false := by
  have hset := s.on_set_zero (F.FURROW_RX_SNR.VALID c) (Nat.le_refl _) (by decide : 31 < 32)
  rw [State.estInvalid, if_neg (by simp [h])]
  refine (State.on_of_get ?_).trans hset
  rw [State.get_set_other _ _ (by cases c <;> decide), State.get_set_other _ _ (by cases c <;> decide),
    State.get_set_other _ _ (by cases c <;> decide)]

/-! ### Locks and convergence of the subcarriers -/

/-- The status words of the subcarriers. -/
def scWords (c : Carrier) : List Nat := (List.range 16).map (R.FURROW_RX_SC_STATUS c)

theorem scStatus_ordinary (c : Carrier) (k : Fin 16) : ordinary (R.FURROW_RX_SC_STATUS c k) := by
  cases c <;> exact ⟨by decide +revert, by decide +revert⟩

theorem scStatus_mem (c : Carrier) {k : Nat} (h : k < 16) : R.FURROW_RX_SC_STATUS c k ∈ scWords c :=
  List.mem_map_of_mem (List.mem_range.mpr h)

/-- A subcarrier is neither locked nor converged. -/
def State.unlock (s : State) (c : Carrier) (k : Nat) : State := (s.pilotLock c k false).set (F.FURROW_RX_SC_STATUS.CONVERGED c k) 0

/-- No subcarrier is. -/
def State.unlockAll (s : State) (c : Carrier) : State := (List.range 16).foldl (fun s k => s.unlock c k) s

theorem unlock_frame (s : State) (c : Carrier) {k : Nat} (hk : k < 16) : Frame (· ∈ R.FURROW_RX_STATE c :: scWords c) s (s.unlock c k) := by
  have hmem : R.FURROW_RX_SC_STATUS c k ∈ R.FURROW_RX_STATE c :: scWords c := List.mem_cons_of_mem _ (scStatus_mem c hk)
  exact (((Frame.refl _ s).set (by exact hmem)).set (by exact List.mem_cons_self)).set (by exact hmem)

theorem unlockAll_frame (s : State) (c : Carrier) : Frame (· ∈ R.FURROW_RX_STATE c :: scWords c) s (s.unlockAll c) :=
  (Frame.refl _ s).foldl fun t _ hk h => h.trans (unlock_frame t c (List.mem_range.mp hk))

@[simp] theorem State.unlockAll_rx (s : State) (c : Carrier) : (s.unlockAll c).rx = s.rx :=
  foldl_keeps State.rx (fun s k => s.unlock c k) (fun _ _ => rfl) _ s

theorem State.unlock_state (s : State) (c : Carrier) (k : Nat) {f : Fld} (ha : f.addr = R.FURROW_RX_STATE c) (hf : f.hi < 16) :
    (s.unlock c k).get f = s.get f :=
  (State.get_set_other _ _ (ha ▸ (scStatus_ne_state c k).symm)).trans (s.pilotLock_state c k false ha hf)

theorem State.unlockAll_state (s : State) (c : Carrier) {f : Fld} (ha : f.addr = R.FURROW_RX_STATE c) (hf : f.hi < 16) :
    (s.unlockAll c).get f = s.get f :=
  foldl_keeps (fun t => t.get f) (fun s k => s.unlock c k) (fun t k => t.unlock_state c k ha hf) _ s

/-- A field that unlocking its own subcarrier turns off is off once all are unlocked. -/
theorem State.unlockAll_off (s : State) (c : Carrier) {k : Nat} (hk : k < 16) {f : Fld} (ha : f.addr = R.FURROW_RX_SC_STATUS c k)
    (hoff : ∀ t : State, (t.unlock c k).on f = false) : (s.unlockAll c).on f = false := by
  refine foldl_establishes (fun t => t.on f = false) (fun t k => t.unlock c k) (List.mem_range.mpr hk) hoff (fun t j h => ?_) s
  by_cases hj : k = j
  · subst hj
    exact hoff t
  · have hne : f.addr ≠ R.FURROW_RX_SC_STATUS c j := ha ▸ fun e => hj (scStatus_inj e)
    exact (State.on_of_get ((State.get_set_other _ _ hne).trans (t.pilotLock_other c false ha hj))).trans h

theorem State.unlockAll_pilot (s : State) (c : Carrier) {k : Nat} (hk : k < 16) :
    (s.unlockAll c).on (F.FURROW_RX_SC_STATUS.PILOT_LOCK c k) = false :=
  s.unlockAll_off c hk rfl fun t =>
    (State.on_of_get (State.get_set_below _ _ (Nat.le_refl 3) (by decide : 3 < 32) (by decide : 2 < 3))).trans (t.pilotLock_on c k false)

theorem State.unlockAll_converged (s : State) (c : Carrier) {k : Nat} (hk : k < 16) :
    (s.unlockAll c).on (F.FURROW_RX_SC_STATUS.CONVERGED c k) = false :=
  s.unlockAll_off c hk rfl fun _ => State.on_set_zero _ _ (Nat.le_refl 3) (by decide : 3 < 32)

/-! ### The state LOS (Table 3.5) -/

/-- The live taps at the identity, no pilot position. -/
def RxSt.cleared (r : RxSt) : RxSt := { r with tapLive := List.replicate 16 [], pilotPos := none }

theorem State.clearAdaptive_eq (s : State) (c : Carrier) : s.clearAdaptive c = ((s.onRx c RxSt.cleared).unlockAll c).estInvalid c := rfl

/-- The words that clearing the adaptive state writes. -/
def adaptWords (c : Carrier) : List Nat := R.FURROW_RX_STATE c :: scWords c ++ estWords c

theorem clearAdaptive_frame (s : State) (c : Carrier) : Frame (· ∈ adaptWords c) s (s.clearAdaptive c) :=
  (((Frame.refl _ s).onRx (c := c) (f := RxSt.cleared)).trans ((unlockAll_frame _ c).mono fun _ => List.mem_append_left _)).trans
    ((estInvalid_frame _ c).mono fun _ => List.mem_append_right _)

theorem State.clearAdaptive_state (s : State) (c : Carrier) {f : Fld} (ha : f.addr = R.FURROW_RX_STATE c) (hf : f.hi < 16) :
    (s.clearAdaptive c).get f = s.get f :=
  ((estInvalid_frame _ c).get (by rw [ha]; cases c <;> exact ⟨by decide, by decide⟩) (by rw [ha]; cases c <;> decide)).trans
    (State.unlockAll_state _ c ha hf)

theorem scStatus_not_lockWords (c : Carrier) (k : Fin 16) : R.FURROW_RX_SC_STATUS c k ∉ estWords c ++ stateWords c := by
  cases c <;> decide +revert

/-- A subcarrier's status is as it was after the chain's other words were written. -/
theorem Frame.readSc {W : Nat → Prop} {s t : State} {c : Carrier} {k : Fin 16} {f : Fld} (h : Frame W s t)
    (hW : ∀ a, W a → a ∈ estWords c ++ stateWords c) (ha : f.addr = R.FURROW_RX_SC_STATUS c k) : t.on f = s.on f :=
  State.on_of_get (h.get (ha ▸ scStatus_ordinary c k) fun hw => scStatus_not_lockWords c k (ha ▸ hW _ hw))

/-- The words that entering LOS writes. -/
def losWords (c : Carrier) : List Nat := adaptWords c ++ stateWords c

theorem State.toLos_eq {s : State} {c : Carrier} (h : s.rxState c ≠ 0) : s.toLos c = (s.clearAdaptive c).toRx c 1 := if_neg h

theorem toLos_frame (s : State) (c : Carrier) : Frame (· ∈ losWords c) s (s.toLos c) :=
  (Frame.refl _ s).ite (((clearAdaptive_frame s c).mono fun _ => List.mem_append_left _).trans
    ((toRx_frame _ c 1).mono fun _ => List.mem_append_right _))

/-- LOS of a chain that was not IDLE: what it clears is cleared, and RETRIES stays. -/
structure State.Lost (s t : State) (c : Carrier) : Prop where
  state : t.rxState c = 1
  rx : t.rx = s.rx.upd c RxSt.cleared
  retries : t.get (F.FURROW_RX_STATE.RETRIES c) = s.get (F.FURROW_RX_STATE.RETRIES c)
  pilot : ∀ k : Fin 16, t.on (F.FURROW_RX_SC_STATUS.PILOT_LOCK c k) = false
  converged : ∀ k : Fin 16, t.on (F.FURROW_RX_SC_STATUS.CONVERGED c k) = false
  snr : s.on (F.FURROW_RX_EST_CTRL.HOLD c) = false → t.on (F.FURROW_RX_SNR.VALID c) = false

theorem State.toLos_lost {s : State} {c : Carrier} (h : s.rxState c ≠ 0) : s.Lost (s.toLos c) c := by
  have hsc (k : Fin 16) {f : Fld} (ha : f.addr = R.FURROW_RX_SC_STATUS c k) :
      ((s.clearAdaptive c).toRx c 1).on f = ((s.onRx c RxSt.cleared).unlockAll c).on f :=
    ((toRx_frame _ c 1).readSc (fun _ => List.mem_append_right _) ha).trans
      ((estInvalid_frame _ c).readSc (fun _ => List.mem_append_left _) ha)
  have hhold : ((s.onRx c RxSt.cleared).unlockAll c).on (F.FURROW_RX_EST_CTRL.HOLD c) = s.on (F.FURROW_RX_EST_CTRL.HOLD c) :=
    (unlockAll_frame _ c).readOn (by cases c <;> decide)
  rw [State.toLos_eq h]
  constructor
  case state => exact State.toRx_rxState _ c
  case rx => simp [State.clearAdaptive_eq]
  case retries =>
    exact (State.toRx_get _ c 1 (by cases c <;> decide) (by cases c <;> decide)).trans
      (s.clearAdaptive_state c rfl (by decide : 15 < 16))
  case pilot => exact fun k => (hsc k rfl).trans (State.unlockAll_pilot _ c k.isLt)
  case converged => exact fun k => (hsc k rfl).trans (State.unlockAll_converged _ c k.isLt)
  case snr =>
    intro hh
    exact ((toRx_frame _ c 1).readOn (by cases c <;> decide)).trans
      (State.estInvalid_snr (hhold.trans hh))

/-! ### Leaving TRACK -/

theorem leaveTrack_frame (s : State) (c : Carrier) : Frame (· ∈ estWords c) s (s.leaveTrack c) :=
  (estInvalid_frame s c).raiseEvent.ite (Frame.refl _ s)

@[simp] theorem State.leaveTrack_rx (s : State) (c : Carrier) : (s.leaveTrack c).rx = s.rx := by
  unfold State.leaveTrack
  split
  · exact (State.raiseEvent_rx _ _ _ _).trans (s.estInvalid_rx c)
  · rfl

theorem State.leaveTrack_flag {s : State} {c : Carrier} (h : s.rxState c = 9) : (s.leaveTrack c).flag 0x04 (1 + 8 * c.idx) = true := by
  rw [State.leaveTrack, if_pos h]
  exact State.raiseEvent_flag _ _ (by decide) (by cases c <;> decide)

/-- The words that a lost lock writes. -/
def lockWords (c : Carrier) : List Nat := estWords c ++ stateWords c

theorem lockLost_frame (s : State) (c : Carrier) (st : Nat) : Frame (· ∈ lockWords c) s ((s.leaveTrack c).toRx c st) :=
  ((leaveTrack_frame s c).mono fun _ => List.mem_append_left _).trans ((toRx_frame _ c st).mono fun _ => List.mem_append_right _)

/-- A chain in TRACK that lost a lock goes back with LOCK_LOST raised, its state beyond the registers as it was. -/
theorem lockLost_holds {s : State} {c : Carrier} {st : Nat} (h : s.rxState c = 9) (hst : st < 16 := by decide) :
    ((s.leaveTrack c).toRx c st).rxState c = st ∧ ((s.leaveTrack c).toRx c st).flag 0x04 (1 + 8 * c.idx) = true
    ∧ ((s.leaveTrack c).toRx c st).rx = s.rx ∧ ((s.leaveTrack c).toRx c st).mem = s.mem :=
  ⟨State.toRx_rxState _ c hst,
    (toRx_frame _ c st).readFlag (by decide) (by cases c <;> decide) (State.leaveTrack_flag h),
    (State.toRx_rx _ c st).trans (s.leaveTrack_rx c), (lockLost_frame s c st).mem⟩

theorem pilotLockLost_holds {s : State} {c : Carrier} (sub : Fin 16) (h : s.rxState c = 9) :
    ∃ t, exec (.pilotLockLost c sub) s = .next t ∧ t.rxState c = 6 ∧ t.on (F.FURROW_RX_SC_STATUS.PILOT_LOCK c sub) = false
      ∧ t.flag 0x04 (1 + 8 * c.idx) = true ∧ t.rx = s.rx ∧ t.mem = s.mem := by
  have h9 := (s.pilotLock_rxState c sub false).trans h
  obtain ⟨hstate, hflag, hrx, hmem⟩ := lockLost_holds (st := 6) h9
  refine ⟨_, congrArg Host.Outcome.next (if_pos h9), hstate, ?_, hflag, hrx, hmem⟩
  exact ((lockLost_frame _ c 6).readSc (fun _ h => h) rfl).trans (s.pilotLock_on c sub false)

theorem clockLockLost_holds {s : State} {c : Carrier} (h : s.rxState c = 9) :
    ∃ t, exec (.clockLockLost c) s = .next t ∧ t.rxState c = 4 ∧ t.flag 0x04 (1 + 8 * c.idx) = true ∧ t.rx = s.rx ∧ t.mem = s.mem :=
  ⟨_, congrArg Host.Outcome.next (if_pos h), lockLost_holds h⟩

/-! ### LOS_ASSERT and RESTART -/

/-- LOS set and RX_LOS raised. -/
def State.losRaised (s : State) (c : Carrier) : State := (s.set (F.LINE_RX_LOS_CFG.LOS c) 1).lineRaise c 0

theorem State.losSet_eq {s : State} {c : Carrier} (h : s.on (F.LINE_RX_LOS_CFG.LOS c) = false) :
    s.losSet c = ((s.losRaised c).leaveTrack c).toLos c := if_neg (by simp [h])

theorem losRaised_frame (s : State) (c : Carrier) : Frame (· ∈ [R.LINE_RX_LOS_CFG c]) s (s.losRaised c) :=
  ((Frame.refl _ s).set (by exact List.mem_singleton_self _)).raiseEvent

theorem losEntered_frame (s : State) (c : Carrier) : Frame (· ∈ losWords c) s ((s.leaveTrack c).toLos c) :=
  ((leaveTrack_frame s c).mono fun _ h => List.mem_append_left _ (List.mem_append_right _ h)).trans (toLos_frame _ c)

/-- LOS is set where it was not: LOS and RX_LOS, and the chain in LOS. -/
theorem State.losSet_holds {s : State} {c : Carrier} (hl : s.on (F.LINE_RX_LOS_CFG.LOS c) = false) (h : s.rxState c ≠ 0) :
    (s.losSet c).on (F.LINE_RX_LOS_CFG.LOS c) = true ∧ (s.losSet c).flag (8 + 2 * c.idx) 0 = true ∧ s.Lost (s.losSet c) c
    ∧ (s.losSet c).mem = s.mem := by
  have hraised := losRaised_frame s c
  have hleft := leaveTrack_frame (s.losRaised c) c
  have hf := losEntered_frame (s.losRaised c) c
  have hrx : ((s.losRaised c).leaveTrack c).rx = s.rx :=
    ((State.leaveTrack_rx _ c).trans (State.raiseEvent_rx _ _ _ _)).trans (s.set_rx _ _)
  have hget {f : Fld} (hn : outside [R.LINE_RX_LOS_CFG c] f = true) (he : outside (estWords c) f = true) :
      ((s.losRaised c).leaveTrack c).get f = s.get f := (hleft.read he).trans (hraised.read hn)
  have hstate : ((s.losRaised c).leaveTrack c).rxState c = s.rxState c := hget (by cases c <;> decide) (by cases c <;> decide)
  rw [State.losSet_eq hl]
  refine ⟨?_, ?_, ?_, hf.mem.trans hraised.mem⟩
  · refine (hf.readOn (by cases c <;> decide)).trans ?_
    refine (State.on_of_get (State.raiseEvent_read _ _ _ _ (by cases c <;> decide))).trans ?_
    exact s.on_setB_same (F.LINE_RX_LOS_CFG.LOS c) true rfl (by decide : 16 < 32)
  · exact hf.readFlag (by cases c <;> decide) (by cases c <;> decide) (State.raiseEvent_flag _ _ (by cases c <;> decide) (by decide))
  · obtain ⟨hst, hlrx, hret, hpilot, hconv, hsnr⟩ := State.toLos_lost (hstate.trans_ne h)
    exact ⟨hst, hrx ▸ hlrx, hret.trans (hget (by cases c <;> decide) (by cases c <;> decide)),
      hpilot, hconv, fun hh => hsnr ((State.on_of_get (hget (by cases c <;> decide) (by cases c <;> decide))).trans hh)⟩

theorem State.Lost.applied {s t : State} {c : Carrier} (h : s.Lost t c) : (t.rx.at c).cd.applied = (s.rx.at c).cd.applied := by
  rw [h.rx, Duo.at_upd_same]
  rfl

theorem State.Lost.tapLive {s t : State} {c : Carrier} (h : s.Lost t c) : (t.rx.at c).tapLive = List.replicate 16 [] := by
  rw [h.rx, Duo.at_upd_same]
  rfl

theorem exec_restart {s : State} {path : Path} {c : Carrier} (hw : s.mayWrite path (R.FURROW_RX_CTRL c)) :
    exec (.restart path c) s = .next ((s.set (F.FURROW_RX_STATE.RETRIES c) 0).toLos c) := congrArg Host.Outcome.next (State.rwWrite_accepted hw _)

theorem restart_holds {s : State} {path : Path} {c : Carrier} (hw : s.mayWrite path (R.FURROW_RX_CTRL c)) (h : s.rxState c ≠ 0) :
    ∃ t, exec (.restart path c) s = .next t ∧ t.rxState c = 1 ∧ t.get (F.FURROW_RX_STATE.RETRIES c) = 0
      ∧ (t.rx.at c).cd.applied = (s.rx.at c).cd.applied ∧ (t.rx.at c).tapLive = List.replicate 16 [] ∧ t.mem = s.mem := by
  have hstate : (s.set (F.FURROW_RX_STATE.RETRIES c) 0).rxState c = s.rxState c :=
    s.get_set_below 0 (by decide : 8 ≤ 15) (by decide : 15 < 32) (by decide : 3 < 8)
  have hlost := State.toLos_lost (hstate.trans_ne h)
  exact ⟨_, exec_restart hw, hlost.state, hlost.retries.trans (s.get_set_same _ 0 (by decide : 8 ≤ 15) (by decide : 15 < 32)),
    hlost.applied.trans (by rw [State.set_rx]), hlost.tapLive, (toLos_frame _ c).mem.trans (s.set_mem _ _)⟩

/-! ### LOS_CLEAR -/

/-- A wake event that stands for nothing writes registers of PWR alone. -/
theorem wakeSource_frame (s : State) (k : Nat) : Above 0x1100000 s (s.wakeSource k .nothing) := by
  unfold State.wakeSource
  dsimp only
  split
  · exact Frame.refl _ s
  · have hn : 0x1100000 ≤ 0x1100000 := Nat.le_refl _
    exact ((Frame.refl _ s).set.ite ((Frame.refl _ s).onPower.set (show 0x1100000 ≤ R.PWR_WAKE_LATCH by decide)).set).vote (domainWords_above hn _)

/-- The loss of signal withdrawn, with its wake event. -/
def State.losWithdrawn (s : State) (c : Carrier) : State :=
  if s.on (F.LINE_RX_LOS_CFG.LOS c) then (s.set (F.LINE_RX_LOS_CFG.LOS c) 0).wakeSource 7 .nothing else s

theorem State.losWithdrawn_state (s : State) (c : Carrier) : (s.losWithdrawn c).rxState c = s.rxState c := by
  unfold State.losWithdrawn
  split
  · exact ((wakeSource_frame _ 7).get (by cases c <;> exact ⟨by decide, by decide⟩) (by cases c <;> decide)).trans
      (s.get_set_other _ (by cases c <;> decide))
  · rfl

theorem State.losWithdrawn_off (s : State) (c : Carrier) : (s.losWithdrawn c).on (F.LINE_RX_LOS_CFG.LOS c) = false := by
  unfold State.losWithdrawn
  split
  next h =>
    exact (State.on_of_get ((wakeSource_frame _ 7).get (by cases c <;> exact ⟨by decide, by decide⟩) (by cases c <;> decide))).trans
      (s.on_set_zero _ (Nat.le_refl 16) (by decide : 16 < 32))
  next h => exact Bool.eq_false_iff.mpr h

/-- LOS_CLEAR of a chain in LOS goes on to AGC. -/
theorem exec_losClear {s : State} {c : Carrier} (h : s.rxState c = 1) :
    exec (.losClear c) s = .next ((s.losWithdrawn c).set (F.FURROW_RX_STATE.STATE c) 2) := by
  have h1 := (s.losWithdrawn_state c).trans h
  exact congrArg Host.Outcome.next ((if_pos h1).trans (State.toRx_aligned (.inl (h1 ▸ by decide))))

theorem losClear_holds {s : State} {c : Carrier} (h : s.rxState c = 1) :
    ∃ t, exec (.losClear c) s = .next t ∧ t.on (F.LINE_RX_LOS_CFG.LOS c) = false ∧ t.rxState c = 2 :=
  ⟨_, exec_losClear h, (State.on_of_get (State.get_set_other _ _ (by cases c <;> decide))).trans (s.losWithdrawn_off c),
    State.get_set_same _ _ _ (Nat.zero_le _) (by decide : 3 < 32)⟩

/-- Unmapped, the wake event is delivered at once: nothing but LOS changes. -/
theorem State.losWithdrawn_unmapped {s : State} {c : Carrier} (hl : s.on (F.LINE_RX_LOS_CFG.LOS c) = true)
    (he : s.on (F.PWR_WAKE_MAP.EN 7) = false) : s.losWithdrawn c = s.set (F.LINE_RX_LOS_CFG.LOS c) 0 := by
  have hen : (s.set (F.LINE_RX_LOS_CFG.LOS c) 0).on (F.PWR_WAKE_MAP.EN 7) = false :=
    (State.on_of_get (s.get_set_other _ (by cases c <;> decide))).trans he
  simp [State.losWithdrawn, hl, State.wakeSource, hen, State.deliver]

theorem losClear_unmapped {s : State} {c : Carrier} (hl : s.on (F.LINE_RX_LOS_CFG.LOS c) = true) (h : s.rxState c = 1)
    (he : s.on (F.PWR_WAKE_MAP.EN 7) = false) :
    ∃ t, exec (.losClear c) s = .next t ∧ t.on (F.LINE_RX_LOS_CFG.LOS c) = false ∧ t.rxState c = 2
      ∧ s.onlyRegs t [R.LINE_RX_LOS_CFG c, R.FURROW_RX_STATE c] := by
  obtain ⟨t, hexec, hoff, hstate⟩ := losClear_holds h
  refine ⟨t, hexec, hoff, hstate, ?_⟩
  rw [exec_losClear h, State.losWithdrawn_unmapped hl he] at hexec
  cases hexec
  exact onlyRegs_set (onlyRegs_set (onlyRegs_refl s _) List.mem_cons_self _) (List.mem_cons_of_mem _ (List.mem_singleton_self _)) _

/-! ### ACQ_LIMIT -/

/-- A limit is counted. -/
def State.retried (s : State) (c : Carrier) : State := s.setSat (F.FURROW_RX_STATE.RETRIES c) (s.get (F.FURROW_RX_STATE.RETRIES c) + 1)

theorem exec_acqLimit {s : State} {c : Carrier} (h1 : 2 ≤ s.rxState c) (h2 : s.rxState c ≤ 8) :
    exec (.acqLimit c) s = .next (if (s.get (F.FURROW_RX_STATE.RETRIES c) + 1) % 4 = 0
      then ((s.retried c).onRx c fun r => { r with fullSearch := true }).toRx c 2 else (s.retried c).enterCdSearch c) :=
  congrArg Host.Outcome.next (if_pos (by simp [h1, h2]))

/-- RETRIES holds the new count after a change of state and of what lies beyond the registers. -/
theorem State.retried_toRx (s : State) (c : Carrier) (f : RxSt → RxSt) (st : Nat) :
    (((s.retried c).onRx c f).toRx c st).get (F.FURROW_RX_STATE.RETRIES c)
      = min (F.FURROW_RX_STATE.RETRIES c).top (s.get (F.FURROW_RX_STATE.RETRIES c) + 1) :=
  (State.toRx_get _ c st (by cases c <;> decide) (by cases c <;> decide)).trans
    (s.get_setSat_same _ _ (by decide : 8 ≤ 15) (by decide : 15 < 32))

theorem State.retried_get (s : State) (c : Carrier) {f : Fld} (h : f.addr ≠ R.FURROW_RX_STATE c) : (s.retried c).get f = s.get f :=
  s.get_set_other _ h

section
variable {s : State} {c : Carrier} (h1 : 2 ≤ s.rxState c) (h2 : s.rxState c ≤ 8)
include h1 h2

theorem acqLimit_again (hn : (s.get (F.FURROW_RX_STATE.RETRIES c) + 1) % 4 = 0) : ∃ t, exec (.acqLimit c) s = .next t ∧ t.rxState c = 2
    ∧ t.get (F.FURROW_RX_STATE.RETRIES c) = min (F.FURROW_RX_STATE.RETRIES c).top (s.get (F.FURROW_RX_STATE.RETRIES c) + 1)
    ∧ (t.rx.at c).fullSearch = true := by
  refine ⟨_, (exec_acqLimit h1 h2).trans (congrArg _ (if_pos hn)), State.toRx_rxState _ c, s.retried_toRx c _ 2, ?_⟩
  simp

theorem acqLimit_auto (hn : (s.get (F.FURROW_RX_STATE.RETRIES c) + 1) % 4 ≠ 0) (hm : s.get (F.FURROW_RX_CD_CTRL.MODE c) = 0) :
    ∃ t, exec (.acqLimit c) s = .next t ∧ t.rxState c = 3
    ∧ t.get (F.FURROW_RX_STATE.RETRIES c) = min (F.FURROW_RX_STATE.RETRIES c).top (s.get (F.FURROW_RX_STATE.RETRIES c) + 1)
    ∧ (t.rx.at c).cd.applied = (s.rx.at c).cd.applied := by
  have hmode := (s.retried_get c (f := F.FURROW_RX_CD_CTRL.MODE c) (by cases c <;> decide)).trans hm
  have hexec := (exec_acqLimit h1 h2).trans (congrArg Host.Outcome.next ((if_neg hn).trans (State.enterCdSearch_auto hmode)))
  refine ⟨_, hexec, State.toRx_rxState _ c, ?_, ?_⟩
  · exact (State.toRx_get _ c 3 (by cases c <;> decide) (by cases c <;> decide)).trans
      (s.get_setSat_same _ _ (by decide : 8 ≤ 15) (by decide : 15 < 32))
  · rw [State.toRx_rx]
    rfl

theorem acqLimit_set (hn : (s.get (F.FURROW_RX_STATE.RETRIES c) + 1) % 4 ≠ 0) (hm : s.get (F.FURROW_RX_CD_CTRL.MODE c) ≠ 0) :
    ∃ t, exec (.acqLimit c) s = .next t ∧ t.rxState c = 4
    ∧ t.get (F.FURROW_RX_STATE.RETRIES c) = min (F.FURROW_RX_STATE.RETRIES c).top (s.get (F.FURROW_RX_STATE.RETRIES c) + 1)
    ∧ (t.rx.at c).cd.applied = s.getS (F.FURROW_RX_CD_SET.VALUE c) := by
  have hmode := (s.retried_get c (f := F.FURROW_RX_CD_CTRL.MODE c) (by cases c <;> decide)).trans_ne hm
  have hexec := (exec_acqLimit h1 h2).trans (congrArg Host.Outcome.next ((if_neg hn).trans (State.enterCdSearch_set hmode)))
  exact ⟨_, hexec, State.toRx_rxState _ c, s.retried_toRx c _ 4, (State.cdSetApplied_applied _ c).trans
    (congrArg (toSigned 32) (s.retried_get c (f := F.FURROW_RX_CD_SET.VALUE c) (by cases c <;> decide)))⟩

end

/-! ### Counts -/

theorem rxQueueOvf_holds (s : State) (c : Carrier) : ∃ t, exec (.rxQueueOvf c) s = .next t
    ∧ t.get (F.LINE_RX_QUEUE.OVERFLOWS c) = min (F.LINE_RX_QUEUE.OVERFLOWS c).top (s.get (F.LINE_RX_QUEUE.OVERFLOWS c) + 1)
    ∧ t.flag (8 + 2 * c.idx) 2 = true ∧ s.onlyRegs t [R.LINE_RX_QUEUE c] :=
  ⟨_, rfl, (State.raiseEvent_read _ _ _ _ (by cases c <;> decide)).trans
      (s.get_bump_same _ 1 (Nat.zero_le _) (by decide : 15 < 32)),
    State.raiseEvent_flag _ _ (by cases c <;> decide) (by decide),
    onlyRegs_raiseEvent (onlyRegs_bump (onlyRegs_refl s _) (List.mem_singleton_self _) _) _ _ _⟩

theorem cycleSlip_persists {s : State} {c : Carrier} {turn : Fin 4} (h : turn ≠ 0) : ∃ t, exec (.cycleSlip c turn true) s = .next t
    ∧ t.get (F.FURROW_RX_SLIPS.UNRESOLVED c) = min (F.FURROW_RX_SLIPS.UNRESOLVED c).top (s.get (F.FURROW_RX_SLIPS.UNRESOLVED c) + 1)
    ∧ t.flag 0x04 (4 + 8 * c.idx) = true ∧ s.onlyRegs t [R.FURROW_RX_SLIPS c] :=
  ⟨_, congrArg Host.Outcome.next (if_neg h), (State.raiseEvent_read _ _ _ _ (by cases c <;> decide)).trans
      (s.get_bump_same _ 1 (by decide : 16 ≤ 31) (by decide : 31 < 32)),
    State.raiseEvent_flag _ _ (by decide) (by cases c <;> decide),
    onlyRegs_raiseEvent (onlyRegs_bump (onlyRegs_refl s _) (List.mem_singleton_self _) _) _ _ _⟩

theorem cycleSlip_corrected {s : State} {c : Carrier} {turn : Fin 4} (h : turn ≠ 0) : ∃ t, exec (.cycleSlip c turn false) s = .next t
    ∧ t.get (F.FURROW_RX_SLIPS.CORRECTED c) = min (F.FURROW_RX_SLIPS.CORRECTED c).top (s.get (F.FURROW_RX_SLIPS.CORRECTED c) + 1)
    ∧ s.onlyRegs t [R.FURROW_RX_SLIPS c] :=
  ⟨_, congrArg Host.Outcome.next (if_neg h), s.get_bump_same _ 1 (Nat.zero_le _) (by decide : 15 < 32),
    onlyRegs_bump (onlyRegs_refl s _) (List.mem_singleton_self _) _⟩

/-- Settles O16: a clause for each loss, from what entering LOS, leaving TRACK and a limit do. -/
theorem receiveLossesAndRestart : Obligations.ReceiveLossesAndRestart := by
  refine ⟨fun s c k hl h => ?_, fun _ _ h => losClear_holds h, fun _ _ hl h he => losClear_unmapped hl h he,
    fun _ _ _ hw h => restart_holds hw h, fun _ _ sub h => pilotLockLost_holds sub h, fun _ _ h => clockLockLost_holds h,
    fun _ _ h1 h2 hn => acqLimit_again h1 h2 hn, fun _ _ h1 h2 hn hm => acqLimit_auto h1 h2 hn hm,
    fun _ _ h1 h2 hn hm => acqLimit_set h1 h2 hn hm, rxQueueOvf_holds, fun _ _ _ h => cycleSlip_persists h,
    fun _ _ _ h => cycleSlip_corrected h⟩
  obtain ⟨hlos, hflag, hlost, hmem⟩ := State.losSet_holds hl h
  exact ⟨s.losSet c, rfl, hlos, hlost.pilot k, hlost.converged k, hlost.state, hflag, hlost.applied, hlost.tapLive, hlost.snr, hmem⟩

end Sys2Proof.Machine
end

section
/-!
SUPPORT and statement. The nonlinear compensation banks (R58 to R60): a request pends, the exchange turns the banks over, a comparison ends
with or without a revert, and the shadow is guarded.
-/
-- An argument that a tactic fills waits for all declarations before it: elaborated in parallel, such proofs would each hold a thread.
set_option Elab.async false

namespace Sys2Proof.Machine
open Sys2Proof

/-! ### The words of the banks -/

/-- The words of the two banks (R58). -/
def RxSt.banks (r : RxSt) : Store Word × Store Word := (r.bank0, r.bank1)

/-- An update of one carrier's receive state that keeps the words keeps those of both carriers. -/
theorem State.onRx_banks (s : State) (c a : Carrier) {f : RxSt → RxSt} (hf : ∀ r, (f r).banks = r.banks) :
    ((s.onRx c f).rx.at a).banks = (s.rx.at a).banks := by
  rcases carrier_eq_or_other c a with rfl | rfl
  · rw [State.onRx_rx, Duo.at_upd_same, hf]
  · rw [State.onRx_rx, Duo.at_upd_other]

/-! ### A pending swap (R58) -/

theorem pend_frame (s : State) (c : Carrier) (pair owner reverting : Bool) :
    Frame (· ∈ [R.FURROW_RX_NLC_CTRL c]) s (s.pend c pair owner reverting) := ((Frame.refl _ s).set (by exact List.mem_singleton_self _)).onRx

theorem State.pend_pending (s : State) (c : Carrier) (pair owner reverting : Bool) :
    (s.pend c pair owner reverting).on (F.FURROW_RX_NLC_CTRL.SWAP_PENDING c) = true := by
  rw [State.pend, State.onRx_on]
  exact s.on_setB_same (F.FURROW_RX_NLC_CTRL.SWAP_PENDING c) true rfl (by decide : 6 < 32)

theorem State.pend_get (s : State) (c : Carrier) (pair owner reverting : Bool) {f : Fld}
    (hf : apart f (F.FURROW_RX_NLC_CTRL.SWAP_PENDING c) = true) : (s.pend c pair owner reverting).get f = s.get f := by
  rw [State.pend, State.onRx_get, State.get_set_apart _ _ (Nat.le_refl 6) (by decide : 6 < 32) hf]

theorem State.pend_banks (s : State) (c a : Carrier) (pair owner reverting : Bool) :
    ((s.pend c pair owner reverting).rx.at a).banks = (s.rx.at a).banks := by
  refine (State.onRx_banks _ c a ?_).trans (by rw [State.set_rx])
  exact fun _ => rfl

/-- A paired swap pends on both carriers. -/
def State.pendBoth (s : State) (c : Carrier) (reverting : Bool) : State :=
  (s.pend c true true reverting).pend c.other true false reverting

theorem pendBoth_frame (s : State) (c : Carrier) (reverting : Bool) : Frame (· ∈ evalWords c) s (s.pendBoth c reverting) :=
  ((pend_frame s c true true reverting).mono (by simp [evalWords])).trans ((pend_frame _ c.other true false reverting).mono (by simp [evalWords]))

theorem State.pendBoth_pending (s : State) (c a : Carrier) (reverting : Bool) :
    (s.pendBoth c reverting).on (F.FURROW_RX_NLC_CTRL.SWAP_PENDING a) = true := by
  rcases carrier_eq_or_other c a with rfl | rfl
  · exact ((pend_frame _ a.other true false reverting).readOn (by cases a <;> decide)).trans (s.pend_pending a true true reverting)
  · exact State.pend_pending _ c.other true false reverting

theorem State.pendBoth_pair (s : State) (c a : Carrier) (reverting : Bool) : ((s.pendBoth c reverting).rx.at a).pair = true := by
  rcases carrier_eq_or_other c a with rfl | rfl <;> simp [State.pendBoth, State.pend]

theorem State.pendBoth_owner (s : State) (c : Carrier) (reverting : Bool) : ((s.pendBoth c reverting).rx.at c).owner = true := by
  simp [State.pendBoth, State.pend]

theorem State.pendBoth_banks (s : State) (c a : Carrier) (reverting : Bool) :
    ((s.pendBoth c reverting).rx.at a).banks = (s.rx.at a).banks :=
  (State.pend_banks _ c.other a true false reverting).trans (s.pend_banks c a true true reverting)

/-! ### SWAP -/

theorem exec_swap {s : State} {path : Path} {c : Carrier} (hw : s.mayWrite path (R.FURROW_RX_NLC_CTRL c)) (pair : Bool) :
    exec (.swap path c pair) s = .next ((s.setB (F.FURROW_RX_NLC_CTRL.PAIR c) pair).requestSwap c false) :=
  congrArg Host.Outcome.next (State.rwWrite_accepted hw _)

theorem State.setPair_get (s : State) (c : Carrier) (pair : Bool) {f : Fld} (hf : apart f (F.FURROW_RX_NLC_CTRL.PAIR c) = true) :
    (s.setB (F.FURROW_RX_NLC_CTRL.PAIR c) pair).get f = s.get f := s.get_set_apart _ (Nat.le_refl 4) (by decide : 4 < 32) hf

theorem State.setPair_pending (s : State) (c : Carrier) (pair : Bool) :
    (s.setB (F.FURROW_RX_NLC_CTRL.PAIR c) pair).on (F.FURROW_RX_NLC_CTRL.SWAP_PENDING c) = s.on (F.FURROW_RX_NLC_CTRL.SWAP_PENDING c) :=
  State.on_of_get (s.setPair_get c pair (by cases c <;> decide))

theorem setPair_frame (s : State) (c : Carrier) (pair : Bool) :
    Frame (· ∈ [R.FURROW_RX_NLC_CTRL c]) s (s.setB (F.FURROW_RX_NLC_CTRL.PAIR c) pair) :=
  (Frame.refl _ s).set (by exact List.mem_singleton_self _)

/-- A request is for a pair where it has PAIR and the mode is JOINT. -/
theorem State.setPair_paired (s : State) (c : Carrier) (pair : Bool) :
    (s.setB (F.FURROW_RX_NLC_CTRL.PAIR c) pair).paired c = (pair && decide (s.mode = 1)) := by
  have hpair := s.on_setB_same (F.FURROW_RX_NLC_CTRL.PAIR c) pair rfl (by decide : 4 < 32)
  have hmode : (s.setB (F.FURROW_RX_NLC_CTRL.PAIR c) pair).mode = s.mode := s.setPair_get c pair (by cases c <;> decide)
  rw [State.paired, hpair, hmode]

theorem State.requestSwap_own {s : State} {c : Carrier} (h : s.on (F.FURROW_RX_NLC_CTRL.SWAP_PENDING c) = false) (hp : s.paired c = false)
    (reverting : Bool) : s.requestSwap c reverting = s.pend c false true reverting := by
  simp [State.requestSwap, h, hp]

theorem State.requestSwap_both {s : State} {c : Carrier} (h : s.on (F.FURROW_RX_NLC_CTRL.SWAP_PENDING c) = false) (hp : s.paired c = true)
    (reverting : Bool) : s.requestSwap c reverting = s.pendBoth c reverting := by
  simp [State.requestSwap, h, hp, State.pendBoth]

theorem swap_own {s : State} {path : Path} {c : Carrier} {pair : Bool} (hw : s.mayWrite path (R.FURROW_RX_NLC_CTRL c))
    (h : s.on (F.FURROW_RX_NLC_CTRL.SWAP_PENDING c) = false) (hp : pair = false ∨ s.mode ≠ 1) :
    ∃ t, exec (.swap path c pair) s = .next t ∧ t.on (F.FURROW_RX_NLC_CTRL.SWAP_PENDING c) = true
      ∧ t.get (F.FURROW_RX_NLC_CTRL.ACTIVE_BANK c) = s.get (F.FURROW_RX_NLC_CTRL.ACTIVE_BANK c)
      ∧ (t.rx.at c).banks = (s.rx.at c).banks ∧ s.keepsRegs t [R.FURROW_RX_NLC_CTRL c] ∧ t.mem = s.mem := by
  have hpend := (s.setPair_pending c pair).trans h
  have hpair : (s.setB (F.FURROW_RX_NLC_CTRL.PAIR c) pair).paired c = false := by
    rw [State.setPair_paired]
    rcases hp with rfl | hp
    · rfl
    · simp [hp]
  have hf := (setPair_frame s c pair).trans (pend_frame _ c false true false)
  refine ⟨_, (exec_swap hw pair).trans (congrArg _ (State.requestSwap_own hpend hpair false)), State.pend_pending _ c _ _ _, ?_, ?_, hf.keeps,
    hf.mem⟩
  · exact (State.pend_get _ c _ _ _ (by cases c <;> decide)).trans (s.setPair_get c pair (by cases c <;> decide))
  · rw [State.pend_banks, State.setB_rx]

theorem swap_both {s : State} {path : Path} {c : Carrier} (a : Carrier) (hw : s.mayWrite path (R.FURROW_RX_NLC_CTRL c))
    (h : s.on (F.FURROW_RX_NLC_CTRL.SWAP_PENDING c) = false) (hm : s.mode = 1) :
    ∃ t, exec (.swap path c true) s = .next t ∧ t.on (F.FURROW_RX_NLC_CTRL.SWAP_PENDING a) = true ∧ (t.rx.at a).pair = true
      ∧ (t.rx.at c).owner = true ∧ (t.rx.at a).banks = (s.rx.at a).banks
      ∧ s.keepsRegs t [R.FURROW_RX_NLC_CTRL .A, R.FURROW_RX_NLC_CTRL .B] ∧ t.mem = s.mem := by
  have hpend := (s.setPair_pending c true).trans h
  have hpair : (s.setB (F.FURROW_RX_NLC_CTRL.PAIR c) true).paired c = true := by
    rw [State.setPair_paired, hm]
    rfl
  have hf := ((setPair_frame s c true).mono (by simp [evalWords])).trans (pendBoth_frame _ c false)
  refine ⟨_, (exec_swap hw true).trans (congrArg _ (State.requestSwap_both hpend hpair false)), State.pendBoth_pending _ c a _,
    State.pendBoth_pair _ c a _, State.pendBoth_owner _ c _, ?_, (hf.mono (evalWords_both c)).keeps, hf.mem⟩
  rw [State.pendBoth_banks, State.setB_rx]

theorem swap_pending {s : State} {path : Path} {c : Carrier} (pair : Bool) (hw : s.mayWrite path (R.FURROW_RX_NLC_CTRL c))
    (h : s.on (F.FURROW_RX_NLC_CTRL.SWAP_PENDING c) = true) :
    exec (.swap path c pair) s = .next (s.setB (F.FURROW_RX_NLC_CTRL.PAIR c) pair) :=
  (exec_swap hw pair).trans (congrArg _ (if_pos ((s.setPair_pending c pair).trans h)))

/-! ### What an exchange is about -/

/-- What an exchange turns over at a carrier: whether it pends, ACTIVE_BANK, the term counts, SWAPS, and the words. -/
structure SwapView where
  pending : Bool
  bank : Nat
  active : Nat
  shadow : Nat
  swaps : Nat
  words : Store Word × Store Word

def State.swapView (s : State) (c : Carrier) : SwapView :=
  { pending := s.on (F.FURROW_RX_NLC_CTRL.SWAP_PENDING c), bank := s.get (F.FURROW_RX_NLC_CTRL.ACTIVE_BANK c),
    active := s.get (F.FURROW_RX_NLC_TERMS.ACTIVE c), shadow := s.get (F.FURROW_RX_NLC_TERMS.SHADOW c),
    swaps := s.get (F.FURROW_RX_NLC_STATUS.SWAPS c), words := (s.rx.at c).banks }

/-- The banks turned over (R58): the other one is active, the counts have changed places, the words stay where they are. -/
def SwapView.exchanged (v : SwapView) : SwapView :=
  { pending := false, bank := 1 - v.bank, active := v.shadow, shadow := v.active, swaps := min 255 (v.swaps + 1), words := v.words }

/-- The fields of a carrier's view. -/
def swapFields (c : Carrier) : List Fld :=
  [F.FURROW_RX_NLC_CTRL.SWAP_PENDING c, F.FURROW_RX_NLC_CTRL.ACTIVE_BANK c, F.FURROW_RX_NLC_TERMS.ACTIVE c, F.FURROW_RX_NLC_TERMS.SHADOW c,
    F.FURROW_RX_NLC_STATUS.SWAPS c]

theorem State.swapView_of {s t : State} {c : Carrier} (hf : ∀ f ∈ swapFields c, t.get f = s.get f) (hw : (t.rx.at c).banks = (s.rx.at c).banks) :
    t.swapView c = s.swapView c := by
  simp only [swapFields, List.forall_mem_cons, List.not_mem_nil, false_implies, implies_true, and_true] at hf
  obtain ⟨hpending, hbank, hactive, hshadow, hswaps⟩ := hf
  rw [State.swapView, State.swapView, State.on_of_get hpending, hbank, hactive, hshadow, hswaps, hw]

/-! ### The exchange at one carrier -/

/-- The registers of an exchange: the bank, the counts' places, SWAPS. -/
def State.banksTurned (s : State) (c : Carrier) : State :=
  let t := s.set (F.FURROW_RX_NLC_CTRL.SWAP_PENDING c) 0
  let t := t.set (F.FURROW_RX_NLC_CTRL.ACTIVE_BANK c) (1 - t.get (F.FURROW_RX_NLC_CTRL.ACTIVE_BANK c))
  ((t.set (F.FURROW_RX_NLC_TERMS.ACTIVE c) (s.get (F.FURROW_RX_NLC_TERMS.SHADOW c))).set (F.FURROW_RX_NLC_TERMS.SHADOW c)
    (s.get (F.FURROW_RX_NLC_TERMS.ACTIVE c))).bump (F.FURROW_RX_NLC_STATUS.SWAPS c)

/-- A revert is counted. -/
def State.revertCounted (s : State) (c : Carrier) (reverting : Bool) : State :=
  if reverting then (s.bump (F.FURROW_RX_NLC_STATUS.REVERTS c)).rxRaise c 3 else s

theorem State.exchangeOne_eq (s : State) (c : Carrier) : s.exchangeOne c =
    (((s.banksTurned c).rxRaise c 2).revertCounted c (s.rx.at c).reverting).onRx c fun r => { r with owner := true, reverting := false } := rfl

/-- The words that an exchange writes. -/
def exchangeWords (c : Carrier) : List Nat := [R.FURROW_RX_NLC_CTRL c, R.FURROW_RX_NLC_TERMS c, R.FURROW_RX_NLC_STATUS c]

@[simp] theorem State.banksTurned_rx (s : State) (c : Carrier) : (s.banksTurned c).rx = s.rx := by
  rw [State.banksTurned, State.bump_rx, State.set_rx, State.set_rx, State.set_rx, State.set_rx]

theorem banksTurned_frame (s : State) (c : Carrier) : Frame (· ∈ exchangeWords c) s (s.banksTurned c) :=
  (((((Frame.refl _ s).set (by cases c <;> decide)).set (by cases c <;> decide)).set (by cases c <;> decide)).set
    (by cases c <;> decide)).set (by cases c <;> decide)

theorem revertCounted_frame (s : State) (c : Carrier) (reverting : Bool) :
    Frame (· ∈ [R.FURROW_RX_NLC_STATUS c]) s (s.revertCounted c reverting) :=
  ((Frame.refl _ s).set (by exact List.mem_singleton_self _)).raiseEvent.ite (Frame.refl _ s)

@[simp] theorem State.revertCounted_rx (s : State) (c : Carrier) (reverting : Bool) : (s.revertCounted c reverting).rx = s.rx := by
  unfold State.revertCounted
  split
  · rw [State.rxRaise, State.raiseEvent_rx, State.bump_rx]
  · rfl

theorem State.revertCounted_get (s : State) (c : Carrier) (reverting : Bool) {f : Fld} (hf : outside [] f = true)
    (ha : apart f (F.FURROW_RX_NLC_STATUS.REVERTS c) = true) : (s.revertCounted c reverting).get f = s.get f := by
  unfold State.revertCounted
  split
  · rw [State.rxRaise, State.raiseEvent_read _ _ _ _ hf, State.bump, State.get_set_apart _ _ (by decide : 24 ≤ 31) (by decide : 31 < 32) ha]
  · rfl

theorem exchangeOne_frame (s : State) (c : Carrier) : Frame (· ∈ exchangeWords c) s (s.exchangeOne c) :=
  ((banksTurned_frame s c).raiseEvent.trans ((revertCounted_frame _ c _).mono (by cases c <;> simp [exchangeWords]))).onRx

theorem State.exchangeOne_get (s : State) (c : Carrier) {f : Fld} (hf : outside [] f = true)
    (ha : apart f (F.FURROW_RX_NLC_STATUS.REVERTS c) = true) : (s.exchangeOne c).get f = (s.banksTurned c).get f := by
  rw [State.exchangeOne_eq, State.onRx_get, State.revertCounted_get _ _ _ hf ha, State.rxRaise, State.raiseEvent_read _ _ _ _ hf]

theorem State.exchangeOne_banks (s : State) (c a : Carrier) : ((s.exchangeOne c).rx.at a).banks = (s.rx.at a).banks := by
  rw [State.exchangeOne_eq]
  refine (State.onRx_banks _ c a ?_).trans ?_
  · exact fun _ => rfl
  · rw [State.revertCounted_rx, State.rxRaise, State.raiseEvent_rx, State.banksTurned_rx]

/-- What the registers of an exchange hold. -/
theorem State.banksTurned_holds (s : State) (c : Carrier) : (s.banksTurned c).on (F.FURROW_RX_NLC_CTRL.SWAP_PENDING c) = false
    ∧ (s.banksTurned c).get (F.FURROW_RX_NLC_CTRL.ACTIVE_BANK c) = 1 - s.get (F.FURROW_RX_NLC_CTRL.ACTIVE_BANK c)
    ∧ (s.banksTurned c).get (F.FURROW_RX_NLC_TERMS.ACTIVE c) = s.get (F.FURROW_RX_NLC_TERMS.SHADOW c)
    ∧ (s.banksTurned c).get (F.FURROW_RX_NLC_TERMS.SHADOW c) = s.get (F.FURROW_RX_NLC_TERMS.ACTIVE c)
    ∧ (s.banksTurned c).get (F.FURROW_RX_NLC_STATUS.SWAPS c) = min 255 (s.get (F.FURROW_RX_NLC_STATUS.SWAPS c) + 1) := by
  have hactive : s.get (F.FURROW_RX_NLC_TERMS.ACTIVE c) < 4096 := bitsOf_lt _ 27 16
  have hshadow : s.get (F.FURROW_RX_NLC_TERMS.SHADOW c) < 4096 := bitsOf_lt _ 11 0
  have htop : (F.FURROW_RX_NLC_STATUS.SWAPS c).top = 255 := rfl
  cases c
  all_goals
    simp (disch := decide) only [State.banksTurned, State.on, State.bump, State.get_set_same, State.get_set_apart, htop]
    refine ⟨by decide, ?_, Nat.mod_eq_of_lt hshadow, Nat.mod_eq_of_lt hactive, ?_⟩
    · exact Nat.mod_eq_of_lt (Nat.lt_of_le_of_lt (Nat.sub_le _ _) (by decide))
    · exact Nat.mod_eq_of_lt (Nat.lt_of_le_of_lt (Nat.min_le_left _ _) (by decide))

theorem State.exchangeOne_view (s : State) (c : Carrier) : (s.exchangeOne c).swapView c = (s.swapView c).exchanged := by
  obtain ⟨hpending, hbank, hactive, hshadow, hswaps⟩ := s.banksTurned_holds c
  have hquiet : ∀ f ∈ swapFields c, outside [] f = true ∧ apart f (F.FURROW_RX_NLC_STATUS.REVERTS c) = true := by
    cases c <;> decide
  have hview : (s.exchangeOne c).swapView c = (s.banksTurned c).swapView c :=
    State.swapView_of (fun f hf => s.exchangeOne_get c (hquiet f hf).1 (hquiet f hf).2) (by rw [s.exchangeOne_banks, s.banksTurned_rx])
  rw [hview, State.swapView, hpending, hbank, hactive, hshadow, hswaps, s.banksTurned_rx]
  rfl

/-- The other carrier's banks are left alone. -/
theorem State.exchangeOne_view_other (s : State) {c a : Carrier} (h : a ≠ c) : (s.exchangeOne c).swapView a = s.swapView a := by
  have hout : ∀ f ∈ swapFields a, outside (exchangeWords c) f = true := by revert h; cases c <;> cases a <;> decide
  exact State.swapView_of (fun f hf => (exchangeOne_frame s c).read (hout f hf)) (s.exchangeOne_banks c a)

theorem State.exchangeOne_flag (s : State) (c : Carrier) : (s.exchangeOne c).flag 0x04 (2 + 8 * c.idx) = true :=
  (revertCounted_frame _ c _).readFlag (by decide) (by cases c <;> decide) (State.raiseEvent_flag _ _ (by decide) (by cases c <;> decide))

theorem State.hushed_corrHist (s : State) (c : Carrier) : (s.hushed.line.at c).corrHist = (s.line.at c).corrHist := by
  cases c <;> rfl

/-- The counts of the last 16 received multiframes are no concern of interrupts and events. -/
theorem State.raiseEvent_corrHist (s : State) (blk bit code : Nat) (c : Carrier) :
    ((s.raiseEvent blk bit code).line.at c).corrHist = (s.line.at c).corrHist := by
  rw [← State.hushed_corrHist, State.raiseEvent_hushed, State.hushed_corrHist]

theorem State.revertCounted_corrHist (s : State) (c : Carrier) (reverting : Bool) :
    ((s.revertCounted c reverting).line.at c).corrHist = (s.line.at c).corrHist := by
  unfold State.revertCounted
  split
  · rw [State.rxRaise, State.raiseEvent_corrHist, State.bump_line]
  · rfl

theorem State.exchangeOne_corrHist (s : State) (c : Carrier) : ((s.exchangeOne c).line.at c).corrHist = (s.line.at c).corrHist := by
  rw [State.exchangeOne_eq, State.onRx_line, State.revertCounted_corrHist, State.rxRaise, State.raiseEvent_corrHist, State.banksTurned,
    State.bump_line, State.set_line, State.set_line, State.set_line, State.set_line]

/-! ### The comparison (R60) -/

theorem State.evalAbandon_get (s : State) (c : Carrier) {f : Fld} (ha : apart f (F.FURROW_RX_NLC_CTRL.EVAL c) = true)
    (hb : apart f (F.FURROW_RX_NLC_CTRL.EVAL c.other) = true) : (s.evalAbandon c).get f = s.get f := by
  unfold State.evalAbandon
  dsimp only
  rw [State.get_set_apart _ _ (Nat.le_refl 7) (by decide : 7 < 32) ha]
  split
  · rw [State.get_set_apart _ _ (Nat.le_refl 7) (by decide : 7 < 32) hb]
  · rfl

theorem State.evalAbandon_eval (s : State) (c : Carrier) : (s.evalAbandon c).on (F.FURROW_RX_NLC_CTRL.EVAL c) = false :=
  State.on_set_zero _ _ (Nat.le_refl 7) (by decide : 7 < 32)

theorem State.evalAbandon_own {s : State} {c : Carrier} (h : (s.rx.at c).evalPair = false) :
    s.evalAbandon c = s.set (F.FURROW_RX_NLC_CTRL.EVAL c) 0 := by
  simp [State.evalAbandon, h]

@[simp] theorem State.evalAbandon_line (s : State) (c : Carrier) : (s.evalAbandon c).line = s.line := by
  unfold State.evalAbandon
  dsimp only
  split
  · rw [State.set_line, State.set_line]
  · rw [State.set_line]

/-- A comparison under way at a carrier, from the counts of the last 16 received multiframes. -/
def State.evalBegun (s : State) (c : Carrier) (pct : Nat) : State :=
  ((s.onLine c fun l => { l with evalBefore := l.corrHist.foldl (· + ·) 0, evalAfter := 0 }).set (F.FURROW_RX_NLC_CTRL.EVAL c) 1).onRx c
    fun r => { r with evalPair := false, evalPct := pct }

theorem State.evalStart_eq (s : State) (c : Carrier) (pct : Nat) (reverting : Bool) :
    s.evalStart c pct reverting = if reverting || pct = 0 then s.evalAbandon c else (s.evalAbandon c).evalBegun c pct := rfl

theorem evalStart_frame (s : State) (c : Carrier) (pct : Nat) (reverting : Bool) : Frame (· ∈ evalWords c) s (s.evalStart c pct reverting) :=
  (evalAbandon_frame s c).ite ((evalAbandon_frame s c).onLine.set (by cases c <;> decide)).onRx

theorem State.evalStart_get (s : State) (c : Carrier) (pct : Nat) (reverting : Bool) {f : Fld}
    (ha : apart f (F.FURROW_RX_NLC_CTRL.EVAL c) = true) (hb : apart f (F.FURROW_RX_NLC_CTRL.EVAL c.other) = true) :
    (s.evalStart c pct reverting).get f = s.get f := by
  rw [State.evalStart_eq]
  split
  · exact s.evalAbandon_get c ha hb
  · rw [State.evalBegun, State.onRx_get, State.get_set_apart _ _ (Nat.le_refl 7) (by decide : 7 < 32) ha, State.onLine_get,
      s.evalAbandon_get c ha hb]

theorem State.evalStart_banks (s : State) (c a : Carrier) (pct : Nat) (reverting : Bool) :
    ((s.evalStart c pct reverting).rx.at a).banks = (s.rx.at a).banks := by
  rw [State.evalStart_eq]
  split
  · rw [State.evalAbandon_rx]
  · refine (State.onRx_banks _ c a ?_).trans ?_
    · exact fun _ => rfl
    · rw [State.set_rx, State.onLine_rx, State.evalAbandon_rx]

theorem swapFields_apart_eval (c a : Carrier) : ∀ f ∈ swapFields a, apart f (F.FURROW_RX_NLC_CTRL.EVAL c) = true := by
  cases c <;> cases a <;> decide

theorem State.evalStart_view (s : State) (c a : Carrier) (pct : Nat) (reverting : Bool) :
    (s.evalStart c pct reverting).swapView a = s.swapView a :=
  State.swapView_of (fun f hf => s.evalStart_get c pct reverting (swapFields_apart_eval c a f hf) (swapFields_apart_eval c.other a f hf))
    (s.evalStart_banks c a pct reverting)

theorem State.evalStart_eval (s : State) (c : Carrier) (pct : Nat) :
    (s.evalStart c pct false).on (F.FURROW_RX_NLC_CTRL.EVAL c) = decide (pct ≠ 0) := by
  rw [State.evalStart_eq]
  by_cases h : pct = 0
  · rw [if_pos (by simp [h]), State.evalAbandon_eval, decide_eq_false (not_not_intro h)]
  · rw [if_neg (by simp [h]), decide_eq_true h, State.evalBegun, State.onRx_on]
    exact State.on_setB_same _ (F.FURROW_RX_NLC_CTRL.EVAL c) true rfl (by decide : 7 < 32)

/-- The percentage and the count before of a comparison that starts. -/
theorem State.evalStart_judged (s : State) (c : Carrier) {pct : Nat} (h : pct ≠ 0) :
    ((s.evalStart c pct false).line.at c).evalBefore = (s.line.at c).corrHist.foldl (· + ·) 0
    ∧ ((s.evalStart c pct false).rx.at c).evalPct = pct := by
  rw [State.evalStart_eq, if_neg (by simp [h]), State.evalBegun, State.onRx_line, State.set_line, State.onLine_line, Duo.at_upd_same,
    State.evalAbandon_line, State.onRx_rx, Duo.at_upd_same]
  exact ⟨rfl, rfl⟩

/-- Both comparisons judge the pair. -/
def State.evalPaired (s : State) : State := carriers.foldl (fun s c => s.onRx c fun r => { r with evalPair := true }) s

theorem State.evalStartPair_eq (s : State) (c : Carrier) (pct : Nat) (reverting : Bool) :
    s.evalStartPair c pct reverting = ((s.evalStart c pct reverting).evalStart c.other pct reverting).evalPaired := rfl

theorem State.evalPaired_view (s : State) (a : Carrier) : s.evalPaired.swapView a = s.swapView a := by
  have hkeep (t : State) (c : Carrier) : (t.onRx c fun r => { r with evalPair := true }).swapView a = t.swapView a :=
    State.swapView_of (fun f _ => t.onRx_get c _ f) (t.onRx_banks c a fun _ => rfl)
  exact foldl_keeps (State.swapView · a) (fun s c => s.onRx c fun r => { r with evalPair := true }) hkeep _ s

theorem State.evalStartPair_view (s : State) (c a : Carrier) (pct : Nat) (reverting : Bool) :
    (s.evalStartPair c pct reverting).swapView a = s.swapView a := by
  rw [State.evalStartPair_eq, State.evalPaired_view, State.evalStart_view, State.evalStart_view]

theorem evalStartPair_frame (s : State) (c : Carrier) (pct : Nat) (reverting : Bool) :
    Frame (· ∈ evalWords c) s (s.evalStartPair c pct reverting) :=
  ((evalStart_frame s c pct reverting).trans ((evalStart_frame _ c.other pct reverting).mono (evalWords_other c))).onRx.onRx

/-! ### NLC_EXCHANGE -/

section
variable {s : State} {c : Carrier} (h : s.on (F.FURROW_RX_NLC_CTRL.SWAP_PENDING c) = true) (ho : (s.rx.at c).owner = true)
include h ho

theorem exec_nlcExchange_own (hp : (s.rx.at c).pair = false) : exec (.nlcExchange c) s =
    .next ((s.exchangeOne c).evalStart c (s.swapPct c false) (s.rx.at c).reverting) :=
  congrArg Host.Outcome.next (by simp [State.exchange, h, ho, hp])

theorem exec_nlcExchange_pair (hp : (s.rx.at c).pair = true) : exec (.nlcExchange c) s =
    .next (((s.exchangeOne c).exchangeOne c.other).evalStartPair c (s.swapPct c true) (s.rx.at c).reverting) :=
  congrArg Host.Outcome.next (by simp [State.exchange, h, ho, hp])

end

/-- The banks of a carrier have been turned over. -/
theorem State.swapView_exchanged {s t : State} {c : Carrier} (h : t.swapView c = (s.swapView c).exchanged) :
    t.on (F.FURROW_RX_NLC_CTRL.SWAP_PENDING c) = false
    ∧ t.get (F.FURROW_RX_NLC_CTRL.ACTIVE_BANK c) = 1 - s.get (F.FURROW_RX_NLC_CTRL.ACTIVE_BANK c)
    ∧ t.get (F.FURROW_RX_NLC_TERMS.ACTIVE c) = s.get (F.FURROW_RX_NLC_TERMS.SHADOW c)
    ∧ t.get (F.FURROW_RX_NLC_TERMS.SHADOW c) = s.get (F.FURROW_RX_NLC_TERMS.ACTIVE c)
    ∧ (t.rx.at c).bank0 = (s.rx.at c).bank0 ∧ (t.rx.at c).bank1 = (s.rx.at c).bank1
    ∧ t.get (F.FURROW_RX_NLC_STATUS.SWAPS c) = min (F.FURROW_RX_NLC_STATUS.SWAPS c).top (s.get (F.FURROW_RX_NLC_STATUS.SWAPS c) + 1) := by
  have hwords := congrArg SwapView.words h
  exact ⟨congrArg SwapView.pending h, congrArg SwapView.bank h, congrArg SwapView.active h, congrArg SwapView.shadow h,
    congrArg Prod.fst hwords, congrArg Prod.snd hwords, congrArg SwapView.swaps h⟩

theorem nlcExchange_own {s : State} {c : Carrier} (h : s.on (F.FURROW_RX_NLC_CTRL.SWAP_PENDING c) = true) (ho : (s.rx.at c).owner = true)
    (hp : (s.rx.at c).pair = false) (hr : (s.rx.at c).reverting = false) :
    ∃ t, exec (.nlcExchange c) s = .next t ∧ t.swapView c = (s.swapView c).exchanged ∧ t.flag 0x04 (2 + 8 * c.idx) = true
      ∧ t.on (F.FURROW_RX_NLC_CTRL.EVAL c) = decide (s.get (F.FURROW_RX_NLC_CTRL.REVERT_PCT c) ≠ 0)
      ∧ (s.get (F.FURROW_RX_NLC_CTRL.REVERT_PCT c) ≠ 0 → (t.line.at c).evalBefore = (s.line.at c).corrHist.foldl (· + ·) 0
        ∧ (t.rx.at c).evalPct = s.get (F.FURROW_RX_NLC_CTRL.REVERT_PCT c))
      ∧ s.keepsRegs t [R.FURROW_RX_NLC_CTRL c.other, R.FURROW_RX_NLC_CTRL c, R.FURROW_RX_NLC_TERMS c, R.FURROW_RX_NLC_STATUS c] := by
  have hpct : s.swapPct c false = s.get (F.FURROW_RX_NLC_CTRL.REVERT_PCT c) := by simp [State.swapPct]
  have hexec := exec_nlcExchange_own h ho hp
  rw [hr, hpct] at hexec
  have heval := evalStart_frame (s.exchangeOne c) c (s.get (F.FURROW_RX_NLC_CTRL.REVERT_PCT c)) false
  have hwords : ∀ a ∈ evalWords c, a ∈ R.FURROW_RX_NLC_CTRL c.other :: exchangeWords c := by cases c <;> decide
  refine ⟨_, hexec, (State.evalStart_view _ c c _ _).trans (s.exchangeOne_view c),
    heval.readFlag (by decide) (by cases c <;> decide) (s.exchangeOne_flag c), State.evalStart_eval _ c _, fun hn => ?_, ?_⟩
  · obtain ⟨hbefore, hp⟩ := (s.exchangeOne c).evalStart_judged c hn
    exact ⟨hbefore.trans (by rw [s.exchangeOne_corrHist]), hp⟩
  · exact (((exchangeOne_frame s c).mono fun _ => List.mem_cons_of_mem _).trans (heval.mono hwords)).keeps

theorem nlcExchange_pair {s : State} {c : Carrier} (a : Carrier) (h : s.on (F.FURROW_RX_NLC_CTRL.SWAP_PENDING c) = true)
    (ho : (s.rx.at c).owner = true) (hp : (s.rx.at c).pair = true) :
    ∃ t, exec (.nlcExchange c) s = .next t ∧ t.swapView a = (s.swapView a).exchanged ∧ t.flag 0x04 (2 + 8 * a.idx) = true ∧ t.mem = s.mem := by
  have heval := evalStartPair_frame ((s.exchangeOne c).exchangeOne c.other) c (s.swapPct c true) (s.rx.at c).reverting
  have hother := exchangeOne_frame (s.exchangeOne c) c.other
  refine ⟨_, exec_nlcExchange_pair h ho hp, (State.evalStartPair_view _ c a _ _).trans ?_,
    heval.readFlag (by decide) (by cases c <;> decide) ?_, (heval.mem.trans hother.mem).trans (exchangeOne_frame s c).mem⟩
  · rcases carrier_eq_or_other c a with rfl | rfl
    · exact (State.exchangeOne_view_other _ (by cases a <;> decide)).trans (s.exchangeOne_view a)
    · exact (State.exchangeOne_view _ c.other).trans (congrArg SwapView.exchanged (s.exchangeOne_view_other (by cases c <;> decide)))
  · rcases carrier_eq_or_other c a with rfl | rfl
    · exact hother.readFlag (by decide) (by cases a <;> decide) (s.exchangeOne_flag a)
    · exact State.exchangeOne_flag _ c.other

/-! ### NLC_EVAL_END -/

theorem exec_nlcEvalEnd_own {s : State} {c : Carrier} (h : s.on (F.FURROW_RX_NLC_CTRL.EVAL c) = true) (hp : (s.rx.at c).evalPair = false) :
    exec (.nlcEvalEnd c) s = .next (if (s.line.at c).evalBefore * (100 + (s.rx.at c).evalPct) < 100 * (s.line.at c).evalAfter
      then (s.evalAbandon c).pend c false true true else s.evalAbandon c) :=
  congrArg Host.Outcome.next (by simp [State.evalEnd, h, hp])

theorem exec_nlcEvalEnd_pair {s : State} {c : Carrier} (h : s.on (F.FURROW_RX_NLC_CTRL.EVAL c) = true) (hp : (s.rx.at c).evalPair = true) :
    exec (.nlcEvalEnd c) s = .next (if ((s.line.at c).evalBefore + (s.line.at c.other).evalBefore) * (100 + (s.rx.at c).evalPct)
        < 100 * ((s.line.at c).evalAfter + (s.line.at c.other).evalAfter)
      then (s.evalAbandon c).pendBoth c true else s.evalAbandon c) :=
  congrArg Host.Outcome.next (by simp [State.evalEnd, h, hp, State.pendBoth])

theorem nlcEvalEnd_own {s : State} {c : Carrier} (h : s.on (F.FURROW_RX_NLC_CTRL.EVAL c) = true) (hp : (s.rx.at c).evalPair = false)
    (hn : s.on (F.FURROW_RX_NLC_CTRL.SWAP_PENDING c) = false) :
    ∃ t, exec (.nlcEvalEnd c) s = .next t ∧ t.on (F.FURROW_RX_NLC_CTRL.EVAL c) = false
      ∧ t.on (F.FURROW_RX_NLC_CTRL.SWAP_PENDING c)
        = decide ((s.line.at c).evalBefore * (100 + (s.rx.at c).evalPct) < 100 * (s.line.at c).evalAfter)
      ∧ s.keepsRegs t [R.FURROW_RX_NLC_CTRL c] ∧ t.mem = s.mem := by
  have hf : Frame (· ∈ [R.FURROW_RX_NLC_CTRL c]) s (s.evalAbandon c) := by
    rw [State.evalAbandon_own hp]
    exact (Frame.refl _ s).set (by exact List.mem_singleton_self _)
  refine ⟨_, exec_nlcEvalEnd_own h hp, ?_⟩
  split
  next hlt =>
    have hpend := hf.trans (pend_frame _ c false true true)
    exact ⟨(State.on_of_get (State.pend_get _ c _ _ _ (by cases c <;> decide))).trans (s.evalAbandon_eval c),
      (State.pend_pending _ c _ _ _).trans (decide_eq_true hlt).symm, hpend.keeps, hpend.mem⟩
  next hlt =>
    refine ⟨s.evalAbandon_eval c, ?_, hf.keeps, hf.mem⟩
    exact ((State.on_of_get (s.evalAbandon_get c (by cases c <;> decide) (by cases c <;> decide))).trans hn).trans (decide_eq_false hlt).symm

theorem nlcEvalEnd_pair {s : State} {c : Carrier} (a : Carrier) (h : s.on (F.FURROW_RX_NLC_CTRL.EVAL c) = true)
    (hp : (s.rx.at c).evalPair = true) (hn : s.on (F.FURROW_RX_NLC_CTRL.SWAP_PENDING c) = false)
    (hm : s.on (F.FURROW_RX_NLC_CTRL.SWAP_PENDING c.other) = false) :
    ∃ t, exec (.nlcEvalEnd c) s = .next t ∧ t.on (F.FURROW_RX_NLC_CTRL.EVAL c) = false
      ∧ t.on (F.FURROW_RX_NLC_CTRL.SWAP_PENDING a)
        = decide (((s.line.at c).evalBefore + (s.line.at c.other).evalBefore) * (100 + (s.rx.at c).evalPct)
          < 100 * ((s.line.at c).evalAfter + (s.line.at c.other).evalAfter))
      ∧ s.keepsRegs t [R.FURROW_RX_NLC_CTRL .A, R.FURROW_RX_NLC_CTRL .B] ∧ t.mem = s.mem := by
  have hf := evalAbandon_frame s c
  have hna : s.on (F.FURROW_RX_NLC_CTRL.SWAP_PENDING a) = false := by rcases carrier_eq_or_other c a with rfl | rfl <;> assumption
  refine ⟨_, exec_nlcEvalEnd_pair h hp, ?_⟩
  split
  next hlt =>
    have hpend := hf.trans (pendBoth_frame _ c true)
    refine ⟨?_, (State.pendBoth_pending _ c a _).trans (decide_eq_true hlt).symm, (hpend.mono (evalWords_both c)).keeps, hpend.mem⟩
    exact (State.on_of_get ((State.pend_get _ c.other _ _ _ (by cases c <;> decide)).trans
      (State.pend_get _ c _ _ _ (by cases c <;> decide)))).trans (s.evalAbandon_eval c)
  next hlt =>
    refine ⟨s.evalAbandon_eval c, ?_, (hf.mono (evalWords_both c)).keeps, hf.mem⟩
    exact ((State.on_of_get (s.evalAbandon_get c (by cases c <;> cases a <;> decide) (by cases c <;> cases a <;> decide))).trans hna).trans
      (decide_eq_false hlt).symm

/-! ### NLC_SHADOW_WRITE (R59) -/

theorem exec_nlcShadowWrite {s : State} {path : Path} {c : Carrier} (hw : s.mayWrite path (R.FURROW_RX_NLC_TERMS c))
    (word : Option (Fin 4096)) (value : Word) :
    exec (.nlcShadowWrite path c word value) s = .next (s.shadowWrite c (word.map (·.val)) value) :=
  congrArg Host.Outcome.next (State.rwWrite_accepted hw _)

section
variable {s : State} {path : Path} {c : Carrier} (hw : s.mayWrite path (R.FURROW_RX_NLC_TERMS c))
include hw

theorem nlcShadowWrite_dropped (hl : s.shadowLocked c = true) (word : Option (Fin 4096)) (value : Word) :
    exec (.nlcShadowWrite path c word value) s = .next (s.bump (F.FURROW_RX_NLC_STATUS.WR_DROPPED c)) :=
  (exec_nlcShadowWrite hw word value).trans (congrArg _ (if_pos hl))

theorem nlcShadowWrite_terms (hl : s.shadowLocked c = false) (value : Word) :
    exec (.nlcShadowWrite path c none value) s = .next (s.set (F.FURROW_RX_NLC_TERMS.SHADOW c) (min 2048 (bitsOf value 11 0))) :=
  (exec_nlcShadowWrite hw none value).trans (congrArg _ (if_neg (by simp [hl])))

/-- A word is written to the bank that is not active, whichever that is. -/
theorem nlcShadowWrite_word (hl : s.shadowLocked c = false) (w : Fin 4096) (value : Word) :
    ∃ t, exec (.nlcShadowWrite path c (some w) value) s = .next t ∧ Store.read (fun _ => 0) (t.nlcBank c false) w.val = value
      ∧ t.nlcBank c true = s.nlcBank c true ∧ t.regs = s.regs ∧ t.mem = s.mem := by
  have hexec := (exec_nlcShadowWrite hw (some w) value).trans (congrArg Host.Outcome.next (if_neg (by simp [hl])))
  cases hbank : s.on (F.FURROW_RX_NLC_CTRL.ACTIVE_BANK c)
  · refine ⟨s.onRx c fun r => { r with bank1 := Store.write (fun _ => 0) r.bank1 w value }, hexec.trans ?_, ?_, ?_, rfl, rfl⟩
    · simp [hbank]
    · simp [State.nlcBank, hbank, Store.read_write_same]
    · simp [State.nlcBank, hbank]
  · refine ⟨s.onRx c fun r => { r with bank0 := Store.write (fun _ => 0) r.bank0 w value }, hexec.trans ?_, ?_, ?_, rfl, rfl⟩
    · simp [hbank]
    · simp [State.nlcBank, hbank, Store.read_write_same]
    · simp [State.nlcBank, hbank]

end

/-- Settles O17: a clause for each case of a request, an exchange, a comparison's end and a shadow write. -/
theorem nonlinearBanksSwap : Obligations.NonlinearBanksSwap := by
  refine ⟨fun s path c pair hw h hp => ?_, fun s path c a hw h hm => ?_, fun s path c pair hw h => ⟨_, swap_pending pair hw h, rfl⟩,
    fun s c h ho hp hr => ?_, fun s c a h ho hp => ?_, fun _ _ h hp hn => nlcEvalEnd_own h hp hn, fun _ _ a h hp hn hm => nlcEvalEnd_pair a h hp hn hm,
    fun _ _ _ word value hw hl => ⟨_, nlcShadowWrite_dropped hw hl word value, rfl⟩, fun _ _ _ w value hw hl => nlcShadowWrite_word hw hl w value,
    fun _ _ _ value hw hl => ⟨_, nlcShadowWrite_terms hw hl value, rfl⟩⟩
  · obtain ⟨t, hexec, hpending, hbank, hwords, hkeeps⟩ := swap_own hw h hp
    exact ⟨t, hexec, hpending, hbank, congrArg Prod.fst hwords, congrArg Prod.snd hwords, hkeeps⟩
  · obtain ⟨t, hexec, hpending, hpair, howner, hwords, hkeeps⟩ := swap_both a hw h hm
    exact ⟨t, hexec, hpending, hpair, howner, congrArg Prod.fst hwords, congrArg Prod.snd hwords, hkeeps⟩
  · obtain ⟨t, hexec, hview, hrest⟩ := nlcExchange_own h ho hp hr
    obtain ⟨hpending, hbank, hactive, hshadow, h0, h1, hswaps⟩ := State.swapView_exchanged hview
    exact ⟨t, hexec, hpending, hbank, hactive, hshadow, h0, h1, hswaps, hrest⟩
  · obtain ⟨t, hexec, hview, hrest⟩ := nlcExchange_pair a h ho hp
    obtain ⟨hpending, hbank, hactive, hshadow, h0, h1, hswaps⟩ := State.swapView_exchanged hview
    exact ⟨t, hexec, hpending, hbank, hactive, hshadow, h0, h1, hswaps, hrest⟩

end Sys2Proof.Machine
end

section
/-!
SUPPORT and refutation. The published CD value (R69): the applied value is an integer of any size, the register CD_EST that shows it has 32 bits.
-/
namespace Sys2Proof.Machine
open Sys2Proof

/-- A two's complement number of 32 bits lies below 2^31. -/
theorem toSigned_lt {v : Nat} (h : v < 2 ^ 32) : toSigned 32 v < 2 ^ 31 := by
  unfold toSigned
  split <;> omega

theorem State.cdEst_lt (s : State) (c : Carrier) : s.getS (F.FURROW_RX_CD_EST.VALUE c) < 2 ^ 31 := toSigned_lt (bitsOf_lt _ 31 0)

/-- Carrier A's chain is in LOS and publishes, and its applied CD value, 2^31 ps/nm, is one more than the register shows. -/
def cdBeyondRegister : State :=
  ((State.reset.set (F.FURROW_RX_EST_CTRL.HOLD .A) 0).set (F.FURROW_RX_STATE.STATE .A) 1).onRx .A
    fun r => { r with cd := { r.cd with applied := 2 ^ 31 } }

theorem cdBeyondRegister_rxState : cdBeyondRegister.rxState .A = 1 := by
  rw [State.rxState, cdBeyondRegister, State.onRx_get]
  exact State.get_set_same _ _ 1 (by decide) (by decide)

theorem cdBeyondRegister_publishes : cdBeyondRegister.on (F.FURROW_RX_EST_CTRL.HOLD .A) = false := by
  rw [cdBeyondRegister, State.onRx_on, State.on_of_get (State.get_set_other _ 1 (by decide))]
  exact State.on_set_zero _ _ (by decide) (by decide)

theorem cdBeyondRegister_applied : (cdBeyondRegister.rx.at .A).cd.applied = 2 ^ 31 := by
  rw [cdBeyondRegister, State.onRx_rx, Duo.at_upd_same]

/-- Refutes O18: its clause on EST_INTERVAL_END has CD_EST read the applied CD value in every state, and no register of 32 bits reads 2^31, the
value applied in `cdBeyondRegister`. (The clause lacks the condition that the applied value fits the register.) -/
theorem not_tapCommandsAndEstimates : ¬ Obligations.TapCommandsAndEstimates := by
  rintro ⟨-, -, -, -, -, -, -, -, -, hpublish, -⟩
  have hstate : cdBeyondRegister.rxState .A ≠ 0 := by
    rw [cdBeyondRegister_rxState]
    decide
  obtain ⟨t, -, -, -, -, -, hcd, -⟩ := hpublish cdBeyondRegister .A ⟨[], 0, false, 0, 0, 0, 0⟩ cdBeyondRegister_publishes hstate
  exact absurd (hcd.trans cdBeyondRegister_applied) (t.cdEst_lt .A).ne

end Sys2Proof.Machine
end

section
/-!
SUPPORT and statement. Muting, ramps and underflows of a transmitter (R86): what was sent stays sent, and what the ramp's start, its reversal
and its end write.
-/
namespace Sys2Proof.Machine
open Sys2Proof

/-! ### What has been sent stays sent -/

/-- Everything that `s` has sent is sent in `t`. -/
def SentKept (s t : State) : Prop := s.sent ⊆ t.sent

theorem SentKept.of_eq {s t : State} (h : t.sent = s.sent) : SentKept s t := fun _ ho => h ▸ ho

theorem SentKept.refl (s : State) : SentKept s s := .of_eq rfl

theorem SentKept.trans {s t u : State} (h : SentKept s t) (k : SentKept t u) : SentKept s u := List.Subset.trans h k

theorem SentKept.send {s t : State} (h : SentKept s t) (o : Out) : SentKept s (t.send o) := fun _ ho => List.mem_cons_of_mem _ (h ho)

theorem sentKept_foldl {α : Type} {f : State → α → State} (h : ∀ s x, SentKept s (f s x)) (l : List α) (s : State) :
    SentKept s (l.foldl f s) :=
  List.foldlRecOn l f (SentKept.refl s) fun t ht x _ => ht.trans (h t x)

theorem State.msixEdge_sent (before after : State) (v : Nat) : SentKept after (before.msixEdge after v) := by
  unfold State.msixEdge State.msix
  split
  · split
    · split
      · exact .of_eq (State.setB_sent _ _ _)
      · exact (SentKept.refl after).send _
    · exact .refl after
  · exact .refl after

theorem State.raise_sent (s : State) (blk bit : Nat) : SentKept s (s.raise blk bit) := by
  unfold State.raise State.raiseMask
  exact (SentKept.of_eq (State.wr_sent s _ _)).trans (State.msixEdge_sent s _ blk)

theorem State.putBytes_sent (s : State) (a : Nat) (bs : List Byte) : (s.putBytes a bs).sent = s.sent :=
  foldl_keeps State.sent _ (fun t i => State.wr_sent t (a + 4 * i) _) _ s

theorem State.ringPut_sent (s : State) (bs : List Byte) : SentKept s (s.ringPut bs) := by
  unfold State.ringPut
  dsimp only
  split
  · exact (SentKept.of_eq (State.bump_sent s _ _)).trans (State.raise_sent _ _ _)
  · refine SentKept.trans ?_ (State.msixEdge_sent _ _ _)
    exact .of_eq ((State.set_sent _ _ _).trans (s.putBytes_sent _ _))

theorem State.mccSend_sent (s : State) (c : Carrier) (m : List Byte) : (s.mccSend c m).sent = s.sent := by
  unfold State.mccSend
  split <;> rfl

theorem State.notifyOn_sent (s : State) (p code : Nat) : SentKept s (s.notifyOn p code) := by
  have hnote {t : State} {o : Out} (h : t.sent = o :: s.sent) : SentKept s t := ((SentKept.refl s).send o).trans (.of_eq h)
  unfold State.notifyOn
  dsimp only
  split
  · split
    · exact (hnote rfl).trans (State.ringPut_sent _ _)
    · split
      · split
        · exact (hnote rfl).send _
        · exact hnote rfl
      · exact (hnote rfl).trans (.of_eq (State.mccSend_sent _ _ _))
  · exact .refl s

theorem State.statCount_sent (s : State) (n : Nat → Nat) : SentKept s (s.statCount n) := by
  unfold State.statCount
  dsimp only
  split
  · refine SentKept.trans (.of_eq ?_) (State.raise_sent _ _ _)
    rfl
  · exact .of_eq rfl

theorem State.issue_sent (s : State) (code : Nat) : SentKept s (s.issue code) := by
  have hheard : SentKept s (s.gleanHears code) := (s.statCount_sent (s.statOf code)).trans (.of_eq rfl)
  have hcount := hheard.trans (sentKept_foldl (f := fun s p => s.countOcc p code) (fun _ _ => .of_eq rfl) (List.range 4) _)
  exact (hcount.send _).trans (sentKept_foldl (fun t p => t.notifyOn_sent p code) _ _)

theorem State.issueAll_sent (n : Nat) (codes : List Nat) (s : State) : SentKept s (State.issueAll n codes s) := by
  induction n generalizing codes s with
  | zero => exact .refl s
  | succ n ih =>
    cases codes with
    | nil => exact .refl s
    | cons c cs => exact (s.issue_sent c).trans (ih _ _)

/-- Raising a bit with its event leaves what was sent. -/
theorem State.raiseEvent_sent (s : State) (blk bit code : Nat) : SentKept s (s.raiseEvent blk bit code) :=
  (s.raise_sent blk bit).trans (State.issueAll_sent 4 [code] _)

/-! ### A carrier's interrupts -/

theorem State.lineRaise_flag (s : State) (c : Carrier) {bit : Nat} (h : bit < 32) : (s.lineRaise c bit).flag (8 + 2 * c.idx) bit = true :=
  s.raiseEvent_flag _ (by cases c <;> decide) h

/-! ### The transmitter state -/

theorem State.toTx_txState (s : State) (c : Carrier) {st : Nat} (h : st < 4) : (s.toTx c st).txState c = st :=
  (s.get_set_same _ st (by decide : 16 ≤ 17) (by decide : 17 < 32)).trans (Nat.mod_eq_of_lt h)

theorem State.toTx_get (s : State) (c : Carrier) (st : Nat) {f : Fld} (hf : apart f (F.LINE_TX_CTRL.TX_STATE c) = true) :
    (s.toTx c st).get f = s.get f := s.get_set_apart st (by decide : 16 ≤ 17) (by decide : 17 < 32) hf

theorem toTx_frame (s : State) (c : Carrier) (st : Nat) : Frame (· ∈ [R.LINE_TX_CTRL c]) s (s.toTx c st) :=
  (Frame.refl _ s).set (by exact List.mem_singleton_self _)

theorem onlyRegs_toTx {s0 s : State} {l : List Nat} (h : s0.onlyRegs s l) {c : Carrier} (ha : R.LINE_TX_CTRL c ∈ l) (st : Nat) :
    s0.onlyRegs (s.toTx c st) l := onlyRegs_wr h ha _

theorem State.setMute_get (s : State) (c : Carrier) (v : Nat) {f : Fld} (hf : apart f (F.LINE_TX_CTRL.MUTE c) = true) :
    (s.set (F.LINE_TX_CTRL.MUTE c) v).get f = s.get f := s.get_set_apart v (Nat.le_refl 1) (by decide : 1 < 32) hf

theorem setMute_frame (s : State) (c : Carrier) (v : Nat) : Frame (· ∈ [R.LINE_TX_CTRL c]) s (s.set (F.LINE_TX_CTRL.MUTE c) v) :=
  (Frame.refl _ s).set (by exact List.mem_singleton_self _)

theorem State.setMute_txState (s : State) (c : Carrier) (v : Nat) : (s.set (F.LINE_TX_CTRL.MUTE c) v).txState c = s.txState c :=
  s.setMute_get c v (by cases c <;> decide)

theorem State.setMute_held (s : State) (c : Carrier) (v : Nat) :
    (s.set (F.LINE_TX_CTRL.MUTE c) v).on (F.LINE_TX_CTRL.ENABLED c) = s.on (F.LINE_TX_CTRL.ENABLED c)
    ∧ (s.set (F.LINE_TX_CTRL.MUTE c) v).bufState = s.bufState ∧ (s.set (F.LINE_TX_CTRL.MUTE c) v).shut = s.shut := by
  have hon {f : Fld} (hf : apart f (F.LINE_TX_CTRL.MUTE c) = true) : (s.set (F.LINE_TX_CTRL.MUTE c) v).on f = s.on f :=
    State.on_of_get (s.setMute_get c v hf)
  refine ⟨hon (by cases c <;> decide), s.setMute_get c v (by cases c <;> decide), ?_⟩
  rw [State.shut, State.shut, hon (by cases c <;> decide), hon (by cases c <;> decide)]

theorem headlandDarken_frame (s : State) (c : Carrier) : Frame (· ∈ [R.HEADLAND_TX_STATUS]) s (s.headlandDarken c) :=
  ((Frame.refl _ s).set (by exact List.mem_singleton_self _)).raiseEvent.ite (Frame.refl _ s)

theorem State.rampDown_transmitting {s : State} {c : Carrier} (h : s.txState c = 2 ∨ s.txState c = 1) :
    s.rampDown c = (s.toTx c 3).headlandDarken c := if_pos (by simpa using h)

theorem State.rampDown_dark {s : State} {c : Carrier} (h : s.txState c = 0 ∨ s.txState c = 3) : s.rampDown c = s :=
  if_neg (by rcases h with h | h <;> simp [h])

/-- A carrier ramps up where it is dark or on its way down, the plan has it transmit, it is not muted, and nothing holds it off. -/
theorem State.rampUp_free {s : State} {c : Carrier} (h : s.txState c = 0 ∨ s.txState c = 3) (he : s.on (F.LINE_TX_CTRL.ENABLED c) = true)
    (hm : s.on (F.LINE_TX_CTRL.MUTE c) = false) (hb : s.bufState ≠ 6) (hs : s.shut = false) : s.rampUp c = s.toTx c 1 :=
  if_pos (by simpa [he, hm, hb, hs] using h)

theorem State.rampUp_held {s : State} {c : Carrier}
    (h : (s.txState c = 1 ∨ s.txState c = 2) ∨ s.on (F.LINE_TX_CTRL.ENABLED c) = false ∨ s.bufState = 6 ∨ s.shut = true) :
    s.rampUp c = s := if_neg (by rcases h with (h | h) | h | h | h <;> simp [h])

/-! ### MUTE and UNMUTE -/

section
variable {s : State} {path : Path} {c : Carrier} (hw : s.mayWrite path (R.LINE_TX_CTRL c))
include hw

theorem exec_mute : exec (.mute path c) s = .next ((s.set (F.LINE_TX_CTRL.MUTE c) 1).rampDown c) :=
  congrArg Host.Outcome.next (State.rwWrite_accepted hw _)

theorem exec_unmute : exec (.unmute path c) s = .next ((s.set (F.LINE_TX_CTRL.MUTE c) 0).rampUp c) :=
  congrArg Host.Outcome.next (State.rwWrite_accepted hw _)

theorem mute_transmitting (h : s.txState c = 2 ∨ s.txState c = 1) : ∃ t, exec (.mute path c) s = .next t ∧ t.txState c = 3
    ∧ t.on (F.LINE_TX_CTRL.MUTE c) = true ∧ s.keepsRegs t [R.LINE_TX_CTRL c, R.HEADLAND_TX_STATUS, R.HEADLAND_TX_CTRL] ∧ t.mem = s.mem := by
  have hramp := State.rampDown_transmitting (s := s.set (F.LINE_TX_CTRL.MUTE c) 1) (c := c) (by rwa [s.setMute_txState c 1])
  have hdark := headlandDarken_frame ((s.set (F.LINE_TX_CTRL.MUTE c) 1).toTx c 3) c
  have hf := (((setMute_frame s c 1).trans (toTx_frame _ c 3)).mono (W := (· ∈ [R.LINE_TX_CTRL c, R.HEADLAND_TX_STATUS, R.HEADLAND_TX_CTRL]))
    (by simp)).trans (hdark.mono (by simp))
  refine ⟨_, (exec_mute hw).trans (congrArg _ hramp), ?_, ?_, hf.keeps, hf.mem⟩
  · exact (hdark.read (by cases c <;> decide)).trans (State.toTx_txState _ c (by decide))
  · exact (hdark.readOn (by cases c <;> decide)).trans
      ((State.on_of_get (State.toTx_get _ c 3 (by cases c <;> decide))).trans (s.on_setB_same (F.LINE_TX_CTRL.MUTE c) true rfl (by decide : 1 < 32)))

theorem mute_dark (h : s.txState c = 0 ∨ s.txState c = 3) :
    exec (.mute path c) s = .next (s.set (F.LINE_TX_CTRL.MUTE c) 1) :=
  (exec_mute hw).trans (congrArg _ (State.rampDown_dark (by rwa [s.setMute_txState c 1])))

theorem unmute_held
    (h : (s.txState c = 1 ∨ s.txState c = 2) ∨ s.on (F.LINE_TX_CTRL.ENABLED c) = false ∨ s.bufState = 6 ∨ s.shut = true) :
    exec (.unmute path c) s = .next (s.set (F.LINE_TX_CTRL.MUTE c) 0) := by
  obtain ⟨he, hb, hs⟩ := s.setMute_held c 0
  exact (exec_unmute hw).trans (congrArg _ (State.rampUp_held (by rwa [s.setMute_txState c 0, he, hb, hs])))

theorem unmute_free (h : s.txState c = 0 ∨ s.txState c = 3) (he : s.on (F.LINE_TX_CTRL.ENABLED c) = true) (hb : s.bufState ≠ 6)
    (hs : s.shut = false) : ∃ t, exec (.unmute path c) s = .next t ∧ t.txState c = 1 ∧ t.on (F.LINE_TX_CTRL.MUTE c) = false
      ∧ s.onlyRegs t [R.LINE_TX_CTRL c] := by
  obtain ⟨he', hb', hs'⟩ := s.setMute_held c 0
  have hm : (s.set (F.LINE_TX_CTRL.MUTE c) 0).on (F.LINE_TX_CTRL.MUTE c) = false := s.on_set_zero _ (Nat.le_refl 1) (by decide : 1 < 32)
  have hramp := State.rampUp_free (s := s.set (F.LINE_TX_CTRL.MUTE c) 0) (c := c) (by rwa [s.setMute_txState c 0])
    (he'.trans he) hm (by rwa [hb']) (hs'.trans hs)
  refine ⟨_, (exec_unmute hw).trans (congrArg _ hramp), State.toTx_txState _ c (by decide), ?_, ?_⟩
  · exact (State.on_of_get (State.toTx_get _ c 1 (by cases c <;> decide))).trans hm
  · exact onlyRegs_toTx (onlyRegs_set (onlyRegs_refl s _) List.mem_cons_self 0) List.mem_cons_self 1

end

/-! ### TX_RAMP_END -/

theorem exec_txRampEnd_up {s : State} {c : Carrier} (h : s.txState c = 1) :
    exec (.txRampEnd c) s = .next (((s.onTx c fun x => { x with ramp := s.rampFull c }).toTx c 2).lineRaise c 17) :=
  congrArg Host.Outcome.next (if_pos h)

theorem exec_txRampEnd_down {s : State} {c : Carrier} (h : s.txState c = 3) : exec (.txRampEnd c) s =
    .next ((((s.onTx c fun x => { x with ramp := 0 }).toTx c 0).send (.dacZero c)).lineRaise c 17) :=
  congrArg Host.Outcome.next ((if_neg (by simp [h])).trans (if_pos h))

/-- Raising an interrupt of the LINE block leaves the transmitter state. -/
theorem State.lineRaise_txState (s : State) (c : Carrier) (bit : Nat) : (s.lineRaise c bit).txState c = s.txState c :=
  State.raiseEvent_read _ _ _ _ (by cases c <;> decide)

theorem txRampEnd_up {s : State} {c : Carrier} (h : s.txState c = 1) : ∃ t, exec (.txRampEnd c) s = .next t ∧ t.txState c = 2
    ∧ (t.tx.at c).ramp = s.rampFull c ∧ t.flag (8 + 2 * c.idx) 17 = true ∧ s.keepsRegs t [R.LINE_TX_CTRL c] ∧ t.mem = s.mem := by
  have hf : Frame (· ∈ [R.LINE_TX_CTRL c]) s (((s.onTx c fun x => { x with ramp := s.rampFull c }).toTx c 2).lineRaise c 17) :=
    ((Frame.refl _ s).onTx.set (by exact List.mem_singleton_self _)).raiseEvent
  refine ⟨_, exec_txRampEnd_up h, ?_, ?_, State.lineRaise_flag _ c (by decide), hf.keeps, hf.mem⟩
  · exact (State.lineRaise_txState _ c 17).trans (State.toTx_txState _ c (by decide))
  · rw [State.lineRaise, State.raiseEvent_tx, State.toTx, State.set_tx, State.onTx_tx, Duo.at_upd_same]

theorem txRampEnd_down {s : State} {c : Carrier} (h : s.txState c = 3) : ∃ t, exec (.txRampEnd c) s = .next t ∧ t.txState c = 0
    ∧ (t.tx.at c).ramp = 0 ∧ .dacZero c ∈ t.sent ∧ t.flag (8 + 2 * c.idx) 17 = true ∧ s.keepsRegs t [R.LINE_TX_CTRL c] ∧ t.mem = s.mem := by
  have hf : Frame (· ∈ [R.LINE_TX_CTRL c]) s ((((s.onTx c fun x => { x with ramp := 0 }).toTx c 0).send (.dacZero c)).lineRaise c 17) :=
    ((Frame.refl _ s).onTx.set (by exact List.mem_singleton_self _)).send.raiseEvent
  refine ⟨_, exec_txRampEnd_down h, ?_, ?_, State.raiseEvent_sent _ _ _ _ List.mem_cons_self, State.lineRaise_flag _ c (by decide), hf.keeps,
    hf.mem⟩
  · exact ((State.lineRaise_txState _ c 17).trans (State.send_get _ _ _)).trans (State.toTx_txState _ c (by decide))
  · rw [State.lineRaise, State.raiseEvent_tx, State.send_tx, State.toTx, State.set_tx, State.onTx_tx, Duo.at_upd_same]

/-! ### TX_QUEUE_UNF -/

theorem onlyRegs_send {s0 s : State} {l : List Nat} (h : s0.onlyRegs s l) (o : Out) : s0.onlyRegs (s.send o) l :=
  ⟨(State.send_hushed s o).trans h.1, h.2⟩

theorem txQueueUnf_counts (s : State) (c : Carrier) : ∃ t, exec (.txQueueUnf c) s = .next t
    ∧ t.get (F.LINE_TX_QUEUE.UNDERFLOWS c) = min (F.LINE_TX_QUEUE.UNDERFLOWS c).top (s.get (F.LINE_TX_QUEUE.UNDERFLOWS c) + 1)
    ∧ .dacZero c ∈ t.sent ∧ t.flag (8 + 2 * c.idx) 16 = true ∧ s.onlyRegs t [R.LINE_TX_QUEUE c] := by
  refine ⟨_, rfl, ?_, State.raiseEvent_sent _ _ _ _ List.mem_cons_self, State.lineRaise_flag _ c (by decide), ?_⟩
  · exact (State.raiseEvent_read _ _ _ _ (by cases c <;> decide)).trans
      (State.get_bump_same _ (F.LINE_TX_QUEUE.UNDERFLOWS c) 1 (Nat.zero_le _) (by decide : 15 < 32))
  · exact onlyRegs_raiseEvent (onlyRegs_bump (onlyRegs_send (onlyRegs_refl s _) _) List.mem_cons_self _) _ _ _

/-- Settles O19: a clause for each state that a MUTE, an UNMUTE and a ramp's end find, and the underflow. -/
theorem transmitterStateFollowsR86 : Obligations.TransmitterStateFollowsR86 :=
  ⟨fun _ _ _ hw h => mute_transmitting hw h, fun _ _ _ hw h => ⟨_, mute_dark hw h, rfl⟩, fun _ _ _ hw h => ⟨_, unmute_held hw h, rfl⟩,
    fun _ _ _ hw h he hb hs => unmute_free hw h he hb hs, fun _ _ h => txRampEnd_up h, fun _ _ h => txRampEnd_down h, txQueueUnf_counts⟩

end Sys2Proof.Machine
end

section
/-!
SUPPORT and statement. The transmit chain's controls: a LOAD of the DAC response set (R83), one step of a gradual control (R75, R82), and what a
transmit frame boundary takes (Table 4.2, R84).
-/
namespace Sys2Proof.Machine
open Sys2Proof

/-! ### Signed fields -/

theorem toSigned_bounds {n v : Nat} (h : v < 2 ^ (n + 1)) : -2 ^ n ≤ toSigned (n + 1) v ∧ toSigned (n + 1) v < 2 ^ n := by
  have hp : (2 : Int) ^ n = (2 ^ n : Nat) := by norm_cast
  rw [toSigned, Nat.add_sub_cancel, hp]
  rw [Nat.pow_succ] at h ⊢
  split <;> omega

/-- A number in range is read back from its two's complement encoding. -/
theorem toSigned_ofSigned {n : Nat} {v : Int} (h : -2 ^ n ≤ v ∧ v < 2 ^ n) : toSigned (n + 1) (ofSigned (n + 1) v) = v := by
  obtain ⟨hlo, hhi⟩ := h
  have hp : (2 : Int) ^ n = (2 ^ n : Nat) := by norm_cast
  rw [hp] at hlo hhi
  rw [toSigned, ofSigned, Nat.add_sub_cancel, Nat.pow_succ]
  generalize 2 ^ n = p at *
  rcases Int.lt_or_le v 0 with hv | hv
  · have hmod : v % ((p * 2 : Nat) : Int) = v + (p * 2 : Nat) := by
      rw [← Int.add_emod_right]
      exact Int.emod_eq_of_lt (by omega) (by omega)
    rw [hmod, if_neg] <;> omega
  · rw [Int.emod_eq_of_lt hv (by omega), if_pos] <;> omega

theorem ofSigned_lt (n : Nat) (v : Int) : ofSigned n v < 2 ^ n := by
  have hp : ((2 ^ n : Nat) : Int) ≠ 0 := by exact_mod_cast (Nat.two_pow_pos n).ne'
  have hlo := Int.emod_nonneg v hp
  have hhi := Int.emod_lt_of_pos v (by omega : (0 : Int) < (2 ^ n : Nat))
  rw [ofSigned]
  omega

/-- A number in range without a sign is its own encoding. -/
theorem ofSigned_nonneg {n : Nat} {v : Int} (h : 0 ≤ v ∧ v < 2 ^ n) : (ofSigned n v : Int) = v := by
  have hmod : v % ((2 ^ n : Nat) : Int) = v := Int.emod_eq_of_lt h.1 (by exact_mod_cast h.2)
  rw [ofSigned, hmod, Int.toNat_of_nonneg h.1]

theorem State.get_setS_same (s : State) (f : Fld) (v : Int) (h1 : f.lo ≤ f.hi) (h2 : f.hi < 32) :
    (s.setS f v).get f = ofSigned (f.hi + 1 - f.lo) v := (s.get_set_same f _ h1 h2).trans (Nat.mod_eq_of_lt (ofSigned_lt _ v))

/-- A signed field that was set to a number in its range reads that number. -/
theorem State.getS_setS_same (s : State) (f : Fld) {n : Nat} {v : Int} (hn : f.hi + 1 - f.lo = n + 1) (h1 : f.lo ≤ f.hi) (h2 : f.hi < 32)
    (h : -2 ^ n ≤ v ∧ v < 2 ^ n) : (s.setS f v).getS f = v := by
  rw [State.getS, s.get_setS_same f v h1 h2, hn, toSigned_ofSigned h]

theorem State.getS_bounds (s : State) (f : Fld) {n : Nat} (hn : f.hi + 1 - f.lo = n + 1) : -2 ^ n ≤ s.getS f ∧ s.getS f < 2 ^ n := by
  rw [State.getS, hn]
  exact toSigned_bounds (hn ▸ bitsOf_lt _ _ _)

/-- A step towards a target leaves no range that holds both. -/
theorem stepTowards_bounds {lo hi cur target : Int} (hc : lo ≤ cur ∧ cur < hi) (ht : lo ≤ target ∧ target < hi) :
    lo ≤ stepTowards 1 cur target ∧ stepTowards 1 cur target < hi := by
  unfold stepTowards
  split <;> omega

/-! ### A carrier's transmit state -/

theorem Duo.upd_congr {α : Type} {d : Duo α} {c : Carrier} {f g : α → α} (h : f (d.at c) = g (d.at c)) : d.upd c f = d.upd c g := by
  cases c <;> simp only [Duo.upd, Duo.at] at h ⊢ <;> rw [h]

theorem State.txRaise_flag (s : State) (c : Carrier) {n : Nat} (h : n < 8) : (s.txRaise c n).flag 0x04 (16 + n + 8 * c.idx) = true :=
  s.raiseEvent_flag _ (by decide) (by cases c <;> simp only [Carrier.idx] <;> omega)

/-! ### RESP_LOAD and RESP_LOADED (R83) -/

theorem exec_respLoad {s : State} {path : Path} {c : Carrier} (hw : s.mayWrite path (R.FURROW_TX_RESP c)) :
    exec (.respLoad path c) s = .next (s.respLoad c) := congrArg Host.Outcome.next (State.rwWrite_accepted hw _)

theorem State.respLoad_free {s : State} {c : Carrier} (h : s.on (F.FURROW_TX_RESP.BUSY c) = false) :
    s.respLoad c = s.set (F.FURROW_TX_RESP.BUSY c) 1 := if_neg (by simp [h])

theorem State.respLoad_waiting {s : State} {c : Carrier} (h : s.on (F.FURROW_TX_RESP.BUSY c) = true) :
    s.respLoad c = s.bump (F.FURROW_TX_RESP.DROPPED c) := if_pos h

/-- The shadow and BOOST taken into the active set, and the LOAD over. -/
def State.respTaken (s : State) (c : Carrier) : State :=
  ((s.onTx c fun x => { x with
    resp := (List.range 68).map (fun w => s.rd (R.FURROW_TX_RESP_SHADOW c w))
    boost := s.get (F.FURROW_TX_RESP.BOOST c) }).set (F.FURROW_TX_RESP.BUSY c) 0).txRaise c 3

/-- What moved a record's values, if a record's were moving, stops (R348). -/
def State.recordStopped (s : State) (slot : Nat) : State :=
  let t := s.onCal fun k => { k with measured := k.measured.filter (· ≠ slot) }
  if (nth s.cal.target slot none).isSome then t.calSettle slot else t

theorem State.respLoaded_waiting {s : State} {c : Carrier} (h : s.on (F.FURROW_TX_RESP.BUSY c) = true) :
    s.respLoaded c = (s.respTaken c).recordStopped (4 + c.idx) := if_neg (by simp [h])

theorem respTaken_frame (s : State) (c : Carrier) : Frame (· ∈ [R.FURROW_TX_RESP c]) s (s.respTaken c) :=
  ((Frame.refl _ s).onTx.set (by exact List.mem_singleton_self _)).raiseEvent

theorem State.respTaken_tx (s : State) (c : Carrier) : (s.respTaken c).tx.at c = { s.tx.at c with
    resp := (List.range 68).map (fun w => s.rd (R.FURROW_TX_RESP_SHADOW c w)), boost := s.get (F.FURROW_TX_RESP.BOOST c) } := by
  rw [State.respTaken, State.txRaise, State.raiseEvent_tx, State.set_tx, State.onTx_tx, Duo.at_upd_same]

theorem State.respTaken_busy (s : State) (c : Carrier) : (s.respTaken c).on (F.FURROW_TX_RESP.BUSY c) = false :=
  (State.on_of_get (State.raiseEvent_read _ _ _ _ (by cases c <;> decide))).trans
    (State.on_set_zero _ (F.FURROW_TX_RESP.BUSY c) (Nat.le_refl 4) (by decide : 4 < 32))

theorem State.calRaise_tx (s : State) (bit : Nat) : (s.calRaise bit).tx = s.tx := by
  unfold State.calRaise
  split
  · exact s.raise_tx _ _
  · exact s.raiseEvent_tx _ _ _

theorem calSettle_frame (s : State) (slot : Nat) : Frame (· ∈ [R.CAL_SLOT slot]) s (s.calSettle slot) :=
  have hset : Frame (· ∈ [R.CAL_SLOT slot]) s ((s.onCal fun k => { k with target := k.target.set slot none }).set (F.CAL_SLOT.MOVING slot) 0) :=
    (Frame.refl _ s).onCal.set (by exact List.mem_singleton_self _)
  (hset.raise.ite hset.raiseEvent).ite hset

theorem State.calSettle_tx (s : State) (slot : Nat) : (s.calSettle slot).tx = s.tx := by
  unfold State.calSettle
  dsimp only
  split
  · exact (State.calRaise_tx _ 5).trans (State.set_tx _ _ _)
  · exact State.set_tx _ _ _

theorem recordStopped_frame (s : State) (slot : Nat) : Frame (· ∈ [R.CAL_SLOT slot]) s (s.recordStopped slot) :=
  ((Frame.refl _ s).onCal.trans (calSettle_frame _ slot)).ite (Frame.refl _ s).onCal

theorem State.recordStopped_tx (s : State) (slot : Nat) : (s.recordStopped slot).tx = s.tx := by
  unfold State.recordStopped
  dsimp only
  split
  · exact (State.calSettle_tx _ slot).trans (State.onCal_tx _ _)
  · exact State.onCal_tx _ _

theorem State.recordStopped_still {s : State} {slot : Nat} (h : nth s.cal.target slot none = none) :
    s.recordStopped slot = s.onCal fun k => { k with measured := k.measured.filter (· ≠ slot) } := if_neg (by simp [h])

theorem respLoaded_waiting {s : State} {c : Carrier} (h : s.on (F.FURROW_TX_RESP.BUSY c) = true) : ∃ t, exec (.respLoaded c) s = .next t
    ∧ (t.tx.at c).resp = (List.range 68).map (fun w => s.rd (R.FURROW_TX_RESP_SHADOW c w))
    ∧ (t.tx.at c).boost = s.get (F.FURROW_TX_RESP.BOOST c) ∧ t.on (F.FURROW_TX_RESP.BUSY c) = false ∧ t.flag 0x04 (19 + 8 * c.idx) = true
    ∧ (nth s.cal.target (4 + c.idx) none = none → s.keepsRegs t [R.FURROW_TX_RESP c]) ∧ t.mem = s.mem := by
  have htaken := respTaken_frame s c
  have hstop := recordStopped_frame (s.respTaken c) (4 + c.idx)
  have htx : ((s.respTaken c).recordStopped (4 + c.idx)).tx.at c = _ := (congrArg (Duo.at · c) (State.recordStopped_tx _ _)).trans (s.respTaken_tx c)
  refine ⟨_, congrArg Host.Outcome.next (State.respLoaded_waiting h), by rw [htx], by rw [htx], ?_, ?_, fun hn x hx hb => ?_,
    hstop.mem.trans htaken.mem⟩
  · exact (hstop.readOn (by cases c <;> decide)).trans (s.respTaken_busy c)
  · exact hstop.readFlag (by decide) (by cases c <;> decide) (State.txRaise_flag _ c (n := 3) (by decide))
  · have hcal : (s.respTaken c).cal = s.cal := by rw [State.respTaken, State.txRaise, State.raiseEvent_cal, State.set_cal, State.onTx_cal]
    rw [State.recordStopped_still (by rwa [hcal]), State.onCal_rd]
    exact htaken.keeps x hx hb

/-! ### GRADUAL_CONTROL_STEP (R75, R94) -/

theorem settleNote_frame (s before : State) (c : Carrier) : Frame (· ∈ []) s (s.settleNote before c) := (Frame.refl _ s).raise.ite (Frame.refl _ s)

theorem State.settleNote_get (s before : State) (c : Carrier) {f : Fld} (hf : ordinary f.addr) : (s.settleNote before c).get f = s.get f :=
  (settleNote_frame s before c).get hf List.not_mem_nil

theorem State.settleNote_tx (s before : State) (c : Carrier) : (s.settleNote before c).tx = s.tx := by
  unfold State.settleNote
  split
  · exact s.raise_tx _ _
  · rfl

theorem State.settleNote_self (s : State) (c : Carrier) : s.settleNote s c = s := if_neg (by simp)

theorem onlyRegs_settleNote {s0 s : State} {l : List Nat} (h : s0.onlyRegs s l) (before : State) (c : Carrier) :
    s0.onlyRegs (s.settleNote before c) l := onlyRegs_ite (onlyRegs_raise h _ _) h

theorem scPower_ordinary (c : Carrier) (k : Fin 16) : ordinary (R.FURROW_TX_SC_POWER c k) := by
  cases c <;> simp only [ordinary, R.FURROW_TX_SC_POWER, Carrier.idx] <;> omega

theorem exec_gradualControlStep_power {s : State} {c : Carrier} {k : Fin 16} (h : k.val < s.subCount c) :
    exec (.gradualControlStep c (.power k)) s = .next ((s.setS (F.FURROW_TX_SC_POWER.APPLIED c k)
      (stepTowards 1 (s.getS (F.FURROW_TX_SC_POWER.APPLIED c k)) (s.getS (F.FURROW_TX_SC_POWER.OFFSET c k)))).settleNote s c) :=
  congrArg (fun t : State => Host.Outcome.next (t.settleNote s c)) (if_pos h)

theorem gradualControlStep_power {s : State} {c : Carrier} {k : Fin 16} (h : k.val < s.subCount c) :
    ∃ t, exec (.gradualControlStep c (.power k)) s = .next t
      ∧ t.getS (F.FURROW_TX_SC_POWER.APPLIED c k)
        = stepTowards 1 (s.getS (F.FURROW_TX_SC_POWER.APPLIED c k)) (s.getS (F.FURROW_TX_SC_POWER.OFFSET c k))
      ∧ s.onlyRegs t [R.FURROW_TX_SC_POWER c k] := by
  have hrange := stepTowards_bounds (s.getS_bounds (F.FURROW_TX_SC_POWER.APPLIED c k) (n := 7) rfl)
    (s.getS_bounds (F.FURROW_TX_SC_POWER.OFFSET c k) (n := 7) rfl)
  refine ⟨_, exec_gradualControlStep_power h, ?_, onlyRegs_settleNote (onlyRegs_setS (onlyRegs_refl s _) List.mem_cons_self _) s c⟩
  exact (congrArg (toSigned 8) (State.settleNote_get _ s c (scPower_ordinary c k))).trans
    (State.getS_setS_same s _ rfl (by decide : 8 ≤ 15) (by decide : 15 < 32) hrange)

theorem exec_gradualControlStep_absent {s : State} {c : Carrier} {k : Fin 16} (h : s.subCount c ≤ k.val) :
    exec (.gradualControlStep c (.power k)) s = .next s :=
  congrArg Host.Outcome.next ((congrArg (fun t : State => t.settleNote s c) (if_neg (Nat.not_lt.mpr h))).trans (s.settleNote_self c))

theorem nth_stepAt_same {l ts : List Int} {k : Nat} (h : k < l.length) : nth (stepAt l ts k) k 0 = stepTowards 1 (nth l k 0) (nth ts k 0) := by
  simp [stepAt, nth, h]

theorem nth_stepAt_other (l ts : List Int) {j k : Nat} (h : j ≠ k) : nth (stepAt l ts k) j 0 = nth l j 0 := by
  simp [stepAt, nth, List.getElem?_set_ne h.symm]

section
variable {get : TxSt → List Int} {put : List Int → TxSt → TxSt} (hput : ∀ l x, get (put l x) = l)
include hput

/-- One value of a list in a carrier's transmit state takes a step, with the note of R94: the others, the rest of the state, the registers but
INT_STATUS, and the memories stay. -/
theorem listStep_holds (s : State) (c : Carrier) (targets : List Int) (k : Fin 4) (h : (get (s.tx.at c)).length = 4) {t : State}
    (ht : t = (s.onTx c fun x => put (stepAt (get x) targets k) x).settleNote s c) :
    nth (get (t.tx.at c)) k 0 = stepTowards 1 (nth (get (s.tx.at c)) k 0) (nth targets k 0)
    ∧ (t.tx = s.tx.upd c fun x => put (get (t.tx.at c)) x)
    ∧ (∀ j : Fin 4, j ≠ k → nth (get (t.tx.at c)) j 0 = nth (get (s.tx.at c)) j 0) ∧ s.keepsRegs t [] ∧ t.mem = s.mem := by
  have htx : t.tx = s.tx.upd c fun x => put (stepAt (get x) targets k) x := ht ▸ State.settleNote_tx _ s c
  have hlist : get (t.tx.at c) = stepAt (get (s.tx.at c)) targets k := by rw [htx, Duo.at_upd_same, hput]
  have hf : Frame (· ∈ []) s t := ht ▸ (Frame.refl _ s).onTx.trans (settleNote_frame _ s c)
  rw [hlist]
  exact ⟨nth_stepAt_same (k.isLt.trans_eq h.symm), htx.trans (Duo.upd_congr rfl), fun j hj => nth_stepAt_other _ _ (Fin.val_ne_of_ne hj),
    hf.keeps, hf.mem⟩

end

theorem gradualControlStep_skew {s : State} {c : Carrier} (k : Fin 4) (h : (s.tx.at c).skew.length = 4) :
    ∃ t, exec (.gradualControlStep c (.skew k)) s = .next t
      ∧ nth (t.tx.at c).skew k 0 = stepTowards 1 (nth (s.tx.at c).skew k 0) (nth (s.skewTargets c) k 0)
      ∧ (t.tx = s.tx.upd c fun x => { x with skew := (t.tx.at c).skew })
      ∧ (∀ j : Fin 4, j ≠ k → nth (t.tx.at c).skew j 0 = nth (s.tx.at c).skew j 0) ∧ s.keepsRegs t [] ∧ t.mem = s.mem :=
  ⟨_, rfl, listStep_holds (put := fun l x => { x with skew := l }) (fun _ _ => rfl) s c (s.skewTargets c) k h rfl⟩

theorem gradualControlStep_iq {s : State} {c : Carrier} (k : Fin 4) (h : (s.tx.at c).iq.length = 4) :
    ∃ t, exec (.gradualControlStep c (.iq k)) s = .next t
      ∧ nth (t.tx.at c).iq k 0 = stepTowards 1 (nth (s.tx.at c).iq k 0) (nth (s.iqTargets c) k 0)
      ∧ (t.tx = s.tx.upd c fun x => { x with iq := (t.tx.at c).iq })
      ∧ (∀ j : Fin 4, j ≠ k → nth (t.tx.at c).iq j 0 = nth (s.tx.at c).iq j 0) ∧ s.keepsRegs t [] ∧ t.mem = s.mem :=
  ⟨_, rfl, listStep_holds (put := fun l x => { x with iq := l }) (fun _ _ => rfl) s c (s.iqTargets c) k h rfl⟩

theorem State.depthTarget_lt (s : State) (c : Carrier) : s.depthTarget c < 64 := by
  unfold State.depthTarget
  split
  · exact bitsOf_lt _ 5 0
  · decide

theorem exec_gradualControlStep_depth (s : State) (c : Carrier) : exec (.gradualControlStep c .depth) s =
    .next ((s.setS (F.FURROW_TX_HL.APPLIED c) (stepTowards 1 (s.get (F.FURROW_TX_HL.APPLIED c)) (s.depthTarget c))).settleNote s c) := rfl

theorem gradualControlStep_depth (s : State) (c : Carrier) : ∃ t, exec (.gradualControlStep c .depth) s = .next t
    ∧ (t.get (F.FURROW_TX_HL.APPLIED c) : Int) = stepTowards 1 (s.get (F.FURROW_TX_HL.APPLIED c)) (s.depthTarget c)
    ∧ s.onlyRegs t [R.FURROW_TX_HL c] := by
  have happlied : s.get (F.FURROW_TX_HL.APPLIED c) < 64 := bitsOf_lt _ 13 8
  have htarget := s.depthTarget_lt c
  have hrange := stepTowards_bounds (lo := 0) (hi := 2 ^ 6) (cur := s.get (F.FURROW_TX_HL.APPLIED c)) (target := s.depthTarget c)
    (by omega) (by omega)
  refine ⟨_, exec_gradualControlStep_depth s c, ?_, onlyRegs_settleNote (onlyRegs_setS (onlyRegs_refl s _) List.mem_cons_self _) s c⟩
  rw [State.settleNote_get _ s c (by cases c <;> exact ⟨by decide, by decide⟩)]
  exact (congrArg Nat.cast (s.get_setS_same _ _ (by decide : 8 ≤ 13) (by decide : 13 < 32))).trans (ofSigned_nonneg hrange)

/-! ### TX_FRAME_PERIOD (R84, Table 4.2) -/

/-- What a frame boundary takes, whatever was clipped. -/
def State.boundaryTaken (s : State) (c : Carrier) : State :=
  ((if s.on (F.FURROW_TX_RESP.BUSY c) then s else s.onTx c fun x => { x with boost := s.get (F.FURROW_TX_RESP.BOOST c) }).boundaryControls
    c).rampStep c

theorem exec_txFramePeriod_clipped (s : State) (c : Carrier) {clips : List Nat} (h : frameClipped clips = true) :
    exec (.txFramePeriod c clips) s = .next (((s.boundaryTaken c).bump (F.FURROW_TX_CLIP.CLIPPED c)).txRaise c 4) :=
  congrArg Host.Outcome.next (if_pos h)

theorem exec_txFramePeriod_unclipped (s : State) (c : Carrier) {clips : List Nat} (h : frameClipped clips = false) :
    exec (.txFramePeriod c clips) s = .next (s.boundaryTaken c) := congrArg Host.Outcome.next (if_neg (by simp [h]))

/-- How far a ramp has come a frame period later. -/
def State.rampNext (s : State) (c : Carrier) (ramp : Nat) : Nat :=
  if s.txState c = 1 then min (s.rampFull c) (ramp + 1048576) else if s.txState c = 3 then ramp - 1048576 else ramp

theorem State.onTx_id (s : State) (c : Carrier) : (s.onTx c fun x => x) = s := by cases c <;> rfl

theorem State.onTx_onTx (s : State) (c : Carrier) (f g : TxSt → TxSt) : (s.onTx c f).onTx c g = s.onTx c fun x => g (f x) := by
  cases c <;> rfl

theorem State.rampStep_eq (s : State) (c : Carrier) : s.rampStep c = s.onTx c fun x => { x with ramp := s.rampNext c x.ramp } := by
  unfold State.rampStep State.rampNext
  split
  · rfl
  · split
    · rfl
    · exact (s.onTx_id c).symm

/-- A boundary writes the carrier's transmit state alone. -/
theorem State.boundaryTaken_eq (s : State) (c : Carrier) : s.boundaryTaken c = s.onTx c fun x => { x with
    boost := if s.on (F.FURROW_TX_RESP.BUSY c) then x.boost else s.get (F.FURROW_TX_RESP.BOOST c),
    modIndex := s.get (F.FURROW_TX_MOD.MOD_INDEX c), clipRatio := s.get (F.FURROW_TX_MOD.CLIP_RATIO c),
    pdBypass := s.on (F.FURROW_TX_CTRL.PD_BYPASS c), respBypass := s.on (F.FURROW_TX_CTRL.RESP_BYPASS c), ramp := s.rampNext c x.ramp } := by
  unfold State.boundaryTaken
  rw [State.rampStep_eq, State.boundaryControls, State.onTx_onTx]
  split
  · rfl
  · rw [State.onTx_onTx]
    rfl

theorem txFramePeriod_clipped (s : State) (c : Carrier) {clips : List Nat} (h : frameClipped clips = true) :
    ∃ t, exec (.txFramePeriod c clips) s = .next t
      ∧ t.get (F.FURROW_TX_CLIP.CLIPPED c) = min (F.FURROW_TX_CLIP.CLIPPED c).top (s.get (F.FURROW_TX_CLIP.CLIPPED c) + 1)
      ∧ t.flag 0x04 (20 + 8 * c.idx) = true ∧ (t.tx.at c).clipRatio = s.get (F.FURROW_TX_MOD.CLIP_RATIO c)
      ∧ s.keepsRegs t [R.FURROW_TX_CLIP c] ∧ t.mem = s.mem := by
  have hexec := exec_txFramePeriod_clipped s c h
  rw [State.boundaryTaken_eq] at hexec
  have hf : ∀ f, Frame (· ∈ [R.FURROW_TX_CLIP c]) s (((s.onTx c f).bump (F.FURROW_TX_CLIP.CLIPPED c)).txRaise c 4) := fun f =>
    ((Frame.refl _ s).onTx.set (by exact List.mem_singleton_self _)).raiseEvent
  refine ⟨_, hexec, ?_, State.txRaise_flag _ c (n := 4) (by decide), ?_, (hf _).keeps, (hf _).mem⟩
  · exact (State.raiseEvent_read _ _ _ _ (by cases c <;> decide)).trans
      (State.get_bump_same _ (F.FURROW_TX_CLIP.CLIPPED c) 1 (Nat.zero_le _) (by decide : 15 < 32))
  · rw [State.txRaise, State.raiseEvent_tx, State.bump_tx, State.onTx_tx, Duo.at_upd_same]

theorem txFramePeriod_unclipped {s : State} {c : Carrier} {clips : List Nat} (hb : s.on (F.FURROW_TX_RESP.BUSY c) = false)
    (h : frameClipped clips = false) : ∃ t, exec (.txFramePeriod c clips) s = .next t
      ∧ (t.tx.at c).boost = s.get (F.FURROW_TX_RESP.BOOST c) ∧ (t.tx.at c).modIndex = s.get (F.FURROW_TX_MOD.MOD_INDEX c)
      ∧ (t.tx.at c).pdBypass = s.on (F.FURROW_TX_CTRL.PD_BYPASS c) ∧ (t.tx.at c).respBypass = s.on (F.FURROW_TX_CTRL.RESP_BYPASS c)
      ∧ (t.tx.at c).resp = (s.tx.at c).resp ∧ t.regs = s.regs ∧ t.mem = s.mem := by
  have hexec := exec_txFramePeriod_unclipped s c h
  rw [State.boundaryTaken_eq] at hexec
  refine ⟨_, hexec, ?_⟩
  rw [State.onTx_tx, Duo.at_upd_same, hb]
  exact ⟨rfl, rfl, rfl, rfl, rfl, rfl, rfl⟩

/-- Settles O20: a clause for a LOAD that waits or not, its end, each gradual control, and a frame boundary with and without clipping. -/
theorem responseSetAndGradualControls : Obligations.ResponseSetAndGradualControls :=
  ⟨fun _ _ _ hw h => ⟨_, (exec_respLoad hw).trans (congrArg _ (State.respLoad_free h)), rfl⟩,
    fun _ _ _ hw h => ⟨_, (exec_respLoad hw).trans (congrArg _ (State.respLoad_waiting h)), rfl⟩, fun _ _ h => respLoaded_waiting h,
    fun _ _ _ h => gradualControlStep_power h, fun _ _ _ h _ => ⟨_, exec_gradualControlStep_absent h, rfl⟩,
    fun _ _ k h => gradualControlStep_skew k h, fun _ _ k h => gradualControlStep_iq k h, gradualControlStep_depth,
    fun s c _ h => txFramePeriod_clipped s c h, fun _ _ _ hb h => txFramePeriod_unclipped hb h⟩

end Sys2Proof.Machine
end

section
/-!
SUPPORT and statement. Entropy steps (R87 to R89): staging TARGET, the checks of an ARM, and the step at its multiframe.
-/
namespace Sys2Proof.Machine
open Sys2Proof

/-! ### What only Plough may write (R89) -/

theorem State.ploughOnly_other {p : Path} (h : p ≠ .plough) (s : State) (c : Carrier) (k : State → State) :
    s.ploughOnly p c k = s.bump (F.FURROW_TX_STEP_STATUS.DROPPED c) := by
  cases p with
  | plough => exact absurd rfl h
  | _ => rfl

/-! ### Net rates (R80, R87) -/

/-- The words that show a carrier's net rates and capacities. -/
def netWord (c : Carrier) (a : Nat) : Prop := a = R.FURROW_TX_NET c ∨ a = R.FURROW_TX_SLOTS c ∨ ∃ k, a = R.FURROW_TX_SC_NET c k

theorem netUpdate_frame (s : State) (c : Carrier) : Frame (netWord c) s (s.netUpdate c) := by
  have hnet : netWord c (R.FURROW_TX_NET c) := .inl rfl
  have hslots : netWord c (R.FURROW_TX_SLOTS c) := .inr (.inl rfl)
  have hsub (k : Nat) : netWord c (R.FURROW_TX_SC_NET c k) := .inr (.inr ⟨k, rfl⟩)
  unfold State.netUpdate
  dsimp only
  split
  · exact (((((Frame.refl _ s).set hnet).set hnet).set hslots).set hslots).foldl fun _ k _ h => (h.set (hsub k)).set (hsub k)
  · exact ((((Frame.refl _ s).wr hnet).set hslots).set hslots).foldl fun _ k _ h => h.wr (hsub k)

theorem State.netUpdate_tx (s : State) (c : Carrier) : (s.netUpdate c).tx = s.tx := by
  unfold State.netUpdate
  dsimp only
  split
  · refine (foldl_keeps State.tx _ (fun t k => (State.setSat_tx _ _ _).trans (State.setSat_tx t _ _)) _ _).trans ?_
    rw [State.set_tx, State.set_tx, State.setSat_tx, State.setSat_tx]
  · refine (foldl_keeps State.tx _ (fun t k => State.wr_tx t _ _) _ _).trans ?_
    rw [State.set_tx, State.set_tx, State.wr_tx]

/-! ### The words of entropy steps -/

theorem scEntropy_ordinary (c : Carrier) {k : Nat} (h : k < 16) : ordinary (R.FURROW_TX_SC_ENTROPY c k) := by
  cases c <;> simp only [ordinary, R.FURROW_TX_SC_ENTROPY, Carrier.idx] <;> omega

theorem scEntropy_not_netWord (c : Carrier) (k : Nat) : ¬ netWord c (R.FURROW_TX_SC_ENTROPY c k) := by
  simp only [netWord, R.FURROW_TX_SC_ENTROPY, R.FURROW_TX_NET, R.FURROW_TX_SLOTS, R.FURROW_TX_SC_NET]
  omega

/-- A net rate's word lies past the words of an ARM. -/
theorem netWord_ne_step {c : Carrier} {a : Nat} (h : a = R.FURROW_TX_STEP c ∨ a = R.FURROW_TX_STEP_STATUS c) : ¬ netWord c a := by
  simp only [netWord, R.FURROW_TX_STEP, R.FURROW_TX_STEP_STATUS, R.FURROW_TX_NET, R.FURROW_TX_SLOTS, R.FURROW_TX_SC_NET] at h ⊢
  omega

/-! ### ENTROPY_TARGET_WRITE -/

section
variable {s : State} {c : Carrier} {sub : Fin 16} (hd : s.isDown (R.FURROW_TX_SC_ENTROPY c sub) = false)
include hd

theorem exec_entropyTargetWrite (path : Path) (target : Nat) :
    exec (.entropyTargetWrite path c sub target) s = .next (s.writeTarget path c sub target) :=
  congrArg Host.Outcome.next (if_neg (by simp [hd]))

theorem entropyTargetWrite_absent (path : Path) (target : Nat) (h : s.subCount c ≤ sub.val) :
    exec (.entropyTargetWrite path c sub target) s = .next s := (exec_entropyTargetWrite hd path target).trans (congrArg _ (if_pos h))

theorem exec_entropyTargetWrite_present (path : Path) (target : Nat) (h : sub.val < s.subCount c) :
    exec (.entropyTargetWrite path c sub target) s = .next (s.ploughOnly path c fun s =>
      if s.stepArmed c then s.bump (F.FURROW_TX_STEP_STATUS.DROPPED c)
      else (s.set (F.FURROW_TX_SC_ENTROPY.TARGET c sub) (s.clampTarget c sub target)).netUpdate c) :=
  (exec_entropyTargetWrite hd path target).trans (congrArg _ (if_neg (Nat.not_le.mpr h)))

theorem entropyTargetWrite_staged (target : Nat) (h : sub.val < s.subCount c) (ha : s.stepArmed c = false) :
    ∃ t, exec (.entropyTargetWrite .plough c sub target) s = .next t
      ∧ t.get (F.FURROW_TX_SC_ENTROPY.TARGET c sub) = s.clampTarget c sub target % 256
      ∧ t.get (F.FURROW_TX_SC_ENTROPY.CURRENT c sub) = s.get (F.FURROW_TX_SC_ENTROPY.CURRENT c sub) ∧ t.tx = s.tx ∧ t.mem = s.mem := by
  have hnet := netUpdate_frame (s.set (F.FURROW_TX_SC_ENTROPY.TARGET c sub) (s.clampTarget c sub target)) c
  have hget {f : Fld} (hf : f.addr = R.FURROW_TX_SC_ENTROPY c sub) := hnet.get (f := f) (hf ▸ scEntropy_ordinary c sub.isLt)
    (hf ▸ scEntropy_not_netWord c sub)
  refine ⟨_, (exec_entropyTargetWrite_present hd .plough target h).trans (congrArg Host.Outcome.next (if_neg (by simp [ha]))), ?_, ?_,
    (State.netUpdate_tx _ c).trans (s.set_tx _ _), hnet.mem.trans (s.set_mem _ _)⟩
  · exact (hget rfl).trans (s.get_set_same _ _ (by decide : 16 ≤ 23) (by decide : 23 < 32))
  · exact (hget rfl).trans (s.get_set_below _ (by decide : 16 ≤ 23) (by decide : 23 < 32) (by decide : 15 < 16))

theorem entropyTargetWrite_armed (target : Nat) (h : sub.val < s.subCount c) (ha : s.stepArmed c = true) :
    exec (.entropyTargetWrite .plough c sub target) s = .next (s.bump (F.FURROW_TX_STEP_STATUS.DROPPED c)) :=
  (exec_entropyTargetWrite_present hd .plough target h).trans (congrArg Host.Outcome.next (if_pos ha))

theorem entropyTargetWrite_other {path : Path} (target : Nat) (h : sub.val < s.subCount c) (hp : path ≠ .plough) :
    exec (.entropyTargetWrite path c sub target) s = .next (s.bump (F.FURROW_TX_STEP_STATUS.DROPPED c)) :=
  (exec_entropyTargetWrite_present hd path target h).trans (congrArg _ (State.ploughOnly_other hp s c _))

end

/-! ### The checks of an ARM (Table 4.4) -/

theorem State.armReason_lt (s : State) (c : Carrier) (m : Nat) : s.armReason c m < 8 := by
  unfold State.armReason
  repeat' split
  all_goals decide

/-- The checks look at no field of the register that an ARM is written to. -/
theorem State.armReason_setStepMf (s : State) (c : Carrier) (v m : Nat) :
    (s.set (F.FURROW_TX_STEP.STEP_MF c) v).armReason c m = s.armReason c m := by
  have hget {f : Fld} (h : f.addr ≠ R.FURROW_TX_STEP c) : (s.set (F.FURROW_TX_STEP.STEP_MF c) v).get f = s.get f := s.get_set_other v h
  have hon {f : Fld} (h : f.addr ≠ R.FURROW_TX_STEP c) : (s.set (F.FURROW_TX_STEP.STEP_MF c) v).on f = s.on f := State.on_of_get (hget h)
  have hmf : (s.set (F.FURROW_TX_STEP.STEP_MF c) v).txMf c = s.txMf c := congrArg (· / 256) (hget (by cases c <;> decide))
  have hreplan : (s.set (F.FURROW_TX_STEP.STEP_MF c) v).replanAt m = s.replanAt m := by
    rw [State.replanAt, State.replanAt, State.hState, State.hState, hget (by cases c <;> decide), hget (by cases c <;> decide)]
  have hhold : (s.set (F.FURROW_TX_STEP.STEP_MF c) v).holdOk c m = s.holdOk c m := by
    have hk (k : Nat) : R.FURROW_TX_SC_ENTROPY c k ≠ R.FURROW_TX_STEP c ∧ R.FURROW_TX_SC_LAST_STEP c k ≠ R.FURROW_TX_STEP c
        ∧ R.FURROW_TX_SC_RANGE c k ≠ R.FURROW_TX_STEP c := by
      simp only [R.FURROW_TX_SC_ENTROPY, R.FURROW_TX_SC_LAST_STEP, R.FURROW_TX_SC_RANGE, R.FURROW_TX_STEP]
      omega
    unfold State.holdOk
    refine congrArg (List.all (List.range (s.subCount c))) (funext fun k => ?_)
    obtain ⟨hentropy, hlast, hrange⟩ := hk k
    rw [hget (f := F.FURROW_TX_SC_ENTROPY.TARGET c k) hentropy, hget (f := F.FURROW_TX_SC_ENTROPY.CURRENT c k) hentropy,
      hon (f := F.FURROW_TX_SC_LAST_STEP.VALID c k) hlast, hget (f := F.FURROW_TX_SC_LAST_STEP.MF c k) hlast,
      hget (f := F.FURROW_TX_SC_RANGE.HOLD_MF c k) hrange]
  have hrun : (s.set (F.FURROW_TX_STEP.STEP_MF c) v).runCarrier c = s.runCarrier c := rfl
  rw [State.armReason, State.armReason, hrun, hmf, hreplan, hhold, hget (f := F.FURROW_TX_SLOTS.TARGET c) (by cases c <;> decide),
    hget (f := F.FURROW_TX_SLOTS.USED c) (by cases c <;> decide)]

/-! ### STEP_ARM and STEP_CANCEL (Table 4.5) -/

theorem State.stepArm_armed {s : State} {c : Carrier} (h : s.stepArmed c = true) (m : Nat) :
    s.stepArm c m = s.bump (F.FURROW_TX_STEP_STATUS.DROPPED c) := if_pos h

/-- The registers of an ARM that passes its checks. -/
def State.armTaken (s : State) (c : Carrier) (m : Nat) : State :=
  (s.set (F.FURROW_TX_STEP.STEP_MF c) m).set (F.FURROW_TX_STEP.ARMED c) 1

/-- The registers of an ARM that a check refuses for a reason. -/
def State.armRefused (s : State) (c : Carrier) (m reason : Nat) : State :=
  ((s.set (F.FURROW_TX_STEP.STEP_MF c) m).set (F.FURROW_TX_STEP.REASON c) reason).bump (F.FURROW_TX_STEP_STATUS.REFUSED c)

theorem State.stepArm_passed {s : State} {c : Carrier} (h : s.stepArmed c = false) {m : Nat} (hr : s.armReason c (m % 2 ^ 24) = 0) :
    s.stepArm c m = (s.armTaken c m).txRaise c 0 := by
  simp only [State.stepArm, h, State.armReason_setStepMf, hr, Bool.false_eq_true, if_false, State.armTaken]

theorem State.stepArm_refused {s : State} {c : Carrier} (h : s.stepArmed c = false) {m : Nat} (hr : s.armReason c (m % 2 ^ 24) ≠ 0) :
    s.stepArm c m = (s.armRefused c m (s.armReason c (m % 2 ^ 24))).txRaise c 2 := by
  obtain ⟨r, hr⟩ := Nat.exists_eq_succ_of_ne_zero hr
  simp only [State.stepArm, h, State.armReason_setStepMf, hr, Bool.false_eq_true, if_false, State.armRefused]

theorem State.armTaken_holds (s : State) (c : Carrier) (m : Nat) :
    (s.armTaken c m).stepArmed c = true ∧ (s.armTaken c m).get (F.FURROW_TX_STEP.STEP_MF c) = m % 2 ^ 24 := by
  constructor
  · exact State.on_setB_same _ (F.FURROW_TX_STEP.ARMED c) true rfl (by decide : 2 < 32)
  · exact (State.get_set_above _ _ (Nat.le_refl 2) (by decide : 2 < 32) (by decide : 2 < 8)).trans
      (s.get_set_same (F.FURROW_TX_STEP.STEP_MF c) m (by decide : 8 ≤ 31) (by decide : 31 < 32))

theorem State.armRefused_holds (s : State) (c : Carrier) (m : Nat) {reason : Nat} (h : reason < 8) :
    (s.armRefused c m reason).get (F.FURROW_TX_STEP.REASON c) = reason ∧ (s.armRefused c m reason).stepArmed c = s.stepArmed c
    ∧ (s.armRefused c m reason).get (F.FURROW_TX_STEP_STATUS.REFUSED c)
      = min (F.FURROW_TX_STEP_STATUS.REFUSED c).top (s.get (F.FURROW_TX_STEP_STATUS.REFUSED c) + 1) := by
  have hne : R.FURROW_TX_STEP c ≠ R.FURROW_TX_STEP_STATUS c := by cases c <;> decide
  have hbelow {f : Fld} (ha : f.addr = R.FURROW_TX_STEP c) : (s.armRefused c m reason).get f
      = ((s.set (F.FURROW_TX_STEP.STEP_MF c) m).set (F.FURROW_TX_STEP.REASON c) reason).get f := State.get_set_other _ _ (ha ▸ hne)
  refine ⟨(hbelow rfl).trans ?_, State.on_of_get ((hbelow rfl).trans ?_), ?_⟩
  · exact (State.get_set_same _ (F.FURROW_TX_STEP.REASON c) reason (by decide : 5 ≤ 7) (by decide : 7 < 32)).trans (Nat.mod_eq_of_lt h)
  · exact (State.get_set_below _ _ (by decide : 5 ≤ 7) (by decide : 7 < 32) (by decide : 2 < 5)).trans
      (s.get_set_below _ (by decide : 8 ≤ 31) (by decide : 31 < 32) (by decide : 2 < 8))
  · refine (State.get_bump_same _ _ 1 (by decide : 24 ≤ 31) (by decide : 31 < 32)).trans ?_
    rw [State.get_set_other _ _ hne.symm, State.get_set_other _ _ hne.symm]

theorem armTaken_onlyRegs (s : State) (c : Carrier) (m : Nat) : s.onlyRegs (s.armTaken c m) [R.FURROW_TX_STEP c] := by
  unfold State.armTaken
  refine onlyRegs_set (onlyRegs_set (onlyRegs_refl s _) ?_ _) ?_ _
  all_goals exact List.mem_cons_self

theorem armRefused_onlyRegs (s : State) (c : Carrier) (m reason : Nat) :
    s.onlyRegs (s.armRefused c m reason) [R.FURROW_TX_STEP c, R.FURROW_TX_STEP_STATUS c] := by
  unfold State.armRefused
  refine onlyRegs_bump (onlyRegs_set (onlyRegs_set (onlyRegs_refl s _) ?_ _) ?_ _) ?_ _
  · exact List.mem_cons_self
  · exact List.mem_cons_self
  · exact List.mem_cons_of_mem _ List.mem_cons_self

theorem State.txRaise_get (s : State) (c : Carrier) (n : Nat) {f : Fld} (hf : outside [] f = true) : (s.txRaise c n).get f = s.get f :=
  s.raiseEvent_read _ _ _ hf

section
variable {s : State} {c : Carrier} (hd : s.isDown (R.FURROW_TX_STEP c) = false)
include hd

theorem exec_stepArm (path : Path) (mf : Nat) : exec (.stepArm path c mf) s = .next (s.ploughOnly path c fun s => s.stepArm c mf) :=
  congrArg Host.Outcome.next (if_neg (by simp [hd]))

theorem exec_stepCancel (path : Path) : exec (.stepCancel path c) s = .next (s.bump (F.FURROW_TX_STEP_STATUS.DROPPED c)) :=
  congrArg Host.Outcome.next (if_neg (by simp [hd]))

theorem stepArm_other {path : Path} (mf : Nat) (hp : path ≠ .plough) :
    exec (.stepArm path c mf) s = .next (s.bump (F.FURROW_TX_STEP_STATUS.DROPPED c)) :=
  (exec_stepArm hd path mf).trans (congrArg _ (State.ploughOnly_other hp s c _))

theorem stepArm_armed (mf : Nat) (h : s.stepArmed c = true) :
    exec (.stepArm .plough c mf) s = .next (s.bump (F.FURROW_TX_STEP_STATUS.DROPPED c)) :=
  (exec_stepArm hd .plough mf).trans (congrArg _ (State.stepArm_armed h mf))

theorem stepArm_refused {mf : Nat} (h : s.stepArmed c = false) (hr : s.armReason c (mf % 2 ^ 24) ≠ 0) :
    ∃ t, exec (.stepArm .plough c mf) s = .next t ∧ t.get (F.FURROW_TX_STEP.REASON c) = s.armReason c (mf % 2 ^ 24)
      ∧ t.stepArmed c = false
      ∧ t.get (F.FURROW_TX_STEP_STATUS.REFUSED c) = min (F.FURROW_TX_STEP_STATUS.REFUSED c).top (s.get (F.FURROW_TX_STEP_STATUS.REFUSED c) + 1)
      ∧ t.flag 0x04 (18 + 8 * c.idx) = true ∧ s.onlyRegs t [R.FURROW_TX_STEP c, R.FURROW_TX_STEP_STATUS c] := by
  obtain ⟨hreason, harmed, hcount⟩ := s.armRefused_holds c mf (s.armReason_lt c (mf % 2 ^ 24))
  exact ⟨_, (exec_stepArm hd .plough mf).trans (congrArg Host.Outcome.next (State.stepArm_refused h hr)),
    (State.txRaise_get _ c 2 (by cases c <;> decide)).trans hreason,
    (State.on_of_get (State.txRaise_get _ c 2 (by cases c <;> decide))).trans (harmed.trans h),
    (State.txRaise_get _ c 2 (by cases c <;> decide)).trans hcount, State.txRaise_flag _ c (n := 2) (by decide),
    onlyRegs_raiseEvent (armRefused_onlyRegs s c mf _) _ _ _⟩

theorem stepArm_passed {mf : Nat} (h : s.stepArmed c = false) (hr : s.armReason c (mf % 2 ^ 24) = 0) :
    ∃ t, exec (.stepArm .plough c mf) s = .next t ∧ t.stepArmed c = true ∧ t.get (F.FURROW_TX_STEP.STEP_MF c) = mf % 2 ^ 24
      ∧ t.flag 0x04 (16 + 8 * c.idx) = true ∧ s.onlyRegs t [R.FURROW_TX_STEP c] := by
  obtain ⟨harmed, hmf⟩ := s.armTaken_holds c mf
  exact ⟨_, (exec_stepArm hd .plough mf).trans (congrArg Host.Outcome.next (State.stepArm_passed h hr)),
    (State.on_of_get (State.txRaise_get _ c 0 (by cases c <;> decide))).trans harmed,
    (State.txRaise_get _ c 0 (by cases c <;> decide)).trans hmf, State.txRaise_flag _ c (n := 0) (by decide),
    onlyRegs_raiseEvent (armTaken_onlyRegs s c mf) _ _ _⟩

end

/-! ### ENTROPY_STEP -/

/-- A subcarrier whose TARGET differs from its CURRENT takes it, at a multiframe. -/
def State.targetTaken (s : State) (c : Carrier) (m k : Nat) : State :=
  if s.get (F.FURROW_TX_SC_ENTROPY.TARGET c k) = s.get (F.FURROW_TX_SC_ENTROPY.CURRENT c k) then s
  else ((s.set (F.FURROW_TX_SC_ENTROPY.CURRENT c k) (s.get (F.FURROW_TX_SC_ENTROPY.TARGET c k))).set (F.FURROW_TX_SC_LAST_STEP.MF c k) m).set
    (F.FURROW_TX_SC_LAST_STEP.VALID c k) 1

/-- Every subcarrier takes its TARGET. -/
def State.targetsTaken (s : State) (c : Carrier) (m n : Nat) : State := (List.range n).foldl (fun s k => s.targetTaken c m k) s

/-- The registers of a step carried out. -/
def State.stepTaken (s : State) (c : Carrier) : State :=
  ((s.targetsTaken c (s.get (F.FURROW_TX_STEP.STEP_MF c)) (s.subCount c)).set (F.FURROW_TX_STEP.ARMED c) 0).bump (F.FURROW_TX_STEP_STATUS.DONE c)

theorem State.stepDone_eq (s : State) (c : Carrier) : s.stepDone c = ((s.stepTaken c).netUpdate c).txRaise c 1 := rfl

/-- The words that a subcarrier's step writes are of no other kind. -/
theorem lastStep_ne (c : Carrier) (k : Nat) {a : Nat}
    (h : a = R.FURROW_TX_STEP_STATUS c ∨ a = R.FURROW_TX_STEP c ∨ ∃ j, a = R.FURROW_TX_SC_ENTROPY c j) : a ≠ R.FURROW_TX_SC_LAST_STEP c k := by
  simp only [R.FURROW_TX_STEP_STATUS, R.FURROW_TX_STEP, R.FURROW_TX_SC_ENTROPY, R.FURROW_TX_SC_LAST_STEP] at h ⊢
  omega

theorem scEntropy_inj {c : Carrier} {j k : Nat} (h : R.FURROW_TX_SC_ENTROPY c j = R.FURROW_TX_SC_ENTROPY c k) : j = k := by
  simp only [R.FURROW_TX_SC_ENTROPY] at h
  omega

theorem scEntropy_ne_step (c : Carrier) (k : Nat) : R.FURROW_TX_SC_ENTROPY c k ≠ R.FURROW_TX_STEP c
    ∧ R.FURROW_TX_SC_ENTROPY c k ≠ R.FURROW_TX_STEP_STATUS c := by
  simp only [R.FURROW_TX_SC_ENTROPY, R.FURROW_TX_STEP, R.FURROW_TX_STEP_STATUS]
  omega

theorem apart_of_addr {f g : Fld} (h : f.addr ≠ g.addr) : apart f g = true := by simp [apart, h]

/-- A subcarrier's step leaves the fields apart from its CURRENT, but for LAST_STEP. -/
theorem State.targetTaken_get (s : State) (c : Carrier) (m k : Nat) {f : Fld} (hf : apart f (F.FURROW_TX_SC_ENTROPY.CURRENT c k) = true)
    (hl : f.addr ≠ R.FURROW_TX_SC_LAST_STEP c k) : (s.targetTaken c m k).get f = s.get f := by
  unfold State.targetTaken
  split
  · rfl
  · rw [State.get_set_other _ _ hl, State.get_set_other _ _ hl, State.get_set_apart _ _ (by decide : 8 ≤ 15) (by decide : 15 < 32) hf]

theorem State.targetTaken_current (s : State) (c : Carrier) (m k : Nat) :
    (s.targetTaken c m k).get (F.FURROW_TX_SC_ENTROPY.CURRENT c k) = s.get (F.FURROW_TX_SC_ENTROPY.TARGET c k) := by
  have hl : R.FURROW_TX_SC_ENTROPY c k ≠ R.FURROW_TX_SC_LAST_STEP c k := lastStep_ne c k (.inr (.inr ⟨k, rfl⟩))
  have htarget : s.get (F.FURROW_TX_SC_ENTROPY.TARGET c k) < 256 := bitsOf_lt _ 23 16
  unfold State.targetTaken
  split
  next h => exact h.symm
  next =>
    rw [State.get_set_other _ _ hl, State.get_set_other _ _ hl]
    exact (s.get_set_same _ _ (by decide : 8 ≤ 15) (by decide : 15 < 32)).trans (Nat.mod_eq_of_lt htarget)

/-- The step of another subcarrier leaves a subcarrier's entropies, and every step its TARGET. -/
theorem State.targetTaken_target (s : State) (c : Carrier) (m j k : Nat) :
    (s.targetTaken c m k).get (F.FURROW_TX_SC_ENTROPY.TARGET c j) = s.get (F.FURROW_TX_SC_ENTROPY.TARGET c j) :=
  s.targetTaken_get c m k (by simp [apart, F.FURROW_TX_SC_ENTROPY.TARGET, F.FURROW_TX_SC_ENTROPY.CURRENT])
    (lastStep_ne c k (.inr (.inr ⟨j, rfl⟩)))

theorem State.targetTaken_other (s : State) (c : Carrier) (m : Nat) {j k : Nat} (h : j ≠ k) :
    (s.targetTaken c m k).get (F.FURROW_TX_SC_ENTROPY.CURRENT c j) = s.get (F.FURROW_TX_SC_ENTROPY.CURRENT c j) :=
  s.targetTaken_get c m k (apart_of_addr fun e => h (scEntropy_inj e))
    (lastStep_ne c k (.inr (.inr ⟨j, rfl⟩)))

theorem State.targetsTaken_succ (s : State) (c : Carrier) (m n : Nat) :
    s.targetsTaken c m (n + 1) = (s.targetsTaken c m n).targetTaken c m n := by
  rw [State.targetsTaken, List.range_succ, List.foldl_append]
  rfl

theorem State.targetsTaken_target (s : State) (c : Carrier) (m n j : Nat) :
    (s.targetsTaken c m n).get (F.FURROW_TX_SC_ENTROPY.TARGET c j) = s.get (F.FURROW_TX_SC_ENTROPY.TARGET c j) :=
  foldl_keeps (State.get · (F.FURROW_TX_SC_ENTROPY.TARGET c j)) _ (fun t k => t.targetTaken_target c m j k) _ s

/-- Each of the first `n` subcarriers has its TARGET as CURRENT. -/
theorem State.targetsTaken_current (s : State) (c : Carrier) (m : Nat) {n j : Nat} (h : j < n) :
    (s.targetsTaken c m n).get (F.FURROW_TX_SC_ENTROPY.CURRENT c j) = s.get (F.FURROW_TX_SC_ENTROPY.TARGET c j) := by
  induction n with
  | zero => exact absurd h (Nat.not_lt_zero j)
  | succ n ih =>
    rw [State.targetsTaken_succ]
    rcases Nat.lt_succ_iff_lt_or_eq.mp h with h | rfl
    · exact (State.targetTaken_other _ c m h.ne).trans (ih h)
    · exact (State.targetTaken_current _ c m j).trans (s.targetsTaken_target c m j j)

theorem State.targetsTaken_mem (s : State) (c : Carrier) (m n : Nat) : (s.targetsTaken c m n).mem = s.mem :=
  foldl_keeps State.mem _ (fun t k => by
    unfold State.targetTaken
    split
    · rfl
    · rw [State.set_mem, State.set_mem, State.set_mem]) _ s

/-- The counters of steps are as they were. -/
theorem State.targetsTaken_status (s : State) (c : Carrier) (m n : Nat) {f : Fld} (hf : f.addr = R.FURROW_TX_STEP_STATUS c) :
    (s.targetsTaken c m n).get f = s.get f :=
  foldl_keeps (State.get · f) _ (fun t k => t.targetTaken_get c m k
    (apart_of_addr (hf ▸ (scEntropy_ne_step c k).2.symm)) (lastStep_ne c k (.inl hf))) _ s

theorem State.stepTaken_holds (s : State) (c : Carrier) : (s.stepTaken c).stepArmed c = false
    ∧ (∀ k < s.subCount c, (s.stepTaken c).get (F.FURROW_TX_SC_ENTROPY.CURRENT c k) = s.get (F.FURROW_TX_SC_ENTROPY.TARGET c k))
    ∧ (s.stepTaken c).get (F.FURROW_TX_STEP_STATUS.DONE c)
      = min (F.FURROW_TX_STEP_STATUS.DONE c).top (s.get (F.FURROW_TX_STEP_STATUS.DONE c) + 1)
    ∧ (s.stepTaken c).mem = s.mem := by
  have hne : R.FURROW_TX_STEP c ≠ R.FURROW_TX_STEP_STATUS c := by cases c <;> decide
  unfold State.stepTaken
  refine ⟨?_, fun k hk => ?_, ?_, ?_⟩
  · exact (State.on_of_get (State.get_set_other _ _ hne)).trans (State.on_set_zero _ (F.FURROW_TX_STEP.ARMED c) (Nat.le_refl 2) (by decide : 2 < 32))
  · obtain ⟨hstep, hstatus⟩ := scEntropy_ne_step c k
    exact (State.get_set_other _ _ hstatus).trans ((State.get_set_other _ _ hstep).trans (s.targetsTaken_current c _ hk))
  · refine (State.get_bump_same _ _ 1 (by decide : 16 ≤ 23) (by decide : 23 < 32)).trans ?_
    rw [State.get_set_other _ _ hne.symm, s.targetsTaken_status c _ _ rfl]
  · rw [State.bump_mem, State.set_mem, State.targetsTaken_mem]

theorem commitOver_frame (s : State) (c : Carrier) (kind m : Nat) : Frame (· ∈ [R.LINK_COMMIT c]) s (s.commitOver c kind m) := by
  have hmem : R.LINK_COMMIT c ∈ [R.LINK_COMMIT c] := List.mem_singleton_self _
  have hset {s0 t : State} (h : Frame (· ∈ [R.LINK_COMMIT c]) s0 t) {f : Fld} (hf : f.addr = R.LINK_COMMIT c) (v : Nat) :
      Frame (· ∈ [R.LINK_COMMIT c]) s0 (t.set f v) := h.set (hf ▸ hmem)
  unfold State.commitOver State.showCommit
  dsimp only
  have hlink := (Frame.refl (· ∈ [R.LINK_COMMIT c]) s).onLink (c := c)
    (f := fun k => { k with
      own := k.own.filter (fun q => !(q.kind = kind && q.m = m)), held := k.held.filter (fun q => !(q.kind = kind && q.m = m)) })
  split
  · exact hset (hset (hset (hset hlink rfl _) rfl _) rfl _) rfl _
  · exact hset (hset (hset (hset hlink rfl _) rfl _) rfl _) rfl _
  · exact hlink.wr hmem

theorem exec_entropyStep {s : State} {c : Carrier} (h : s.stepArmed c = true) :
    exec (.entropyStep c) s = .next ((((s.stepTaken c).netUpdate c).txRaise c 1).commitOver c 2 (s.get (F.FURROW_TX_STEP.STEP_MF c))) :=
  congrArg Host.Outcome.next (if_pos h)

theorem entropyStep_armed {s : State} {c : Carrier} (h : s.stepArmed c = true) (hn : s.subCount c ≤ 16) :
    ∃ t, exec (.entropyStep c) s = .next t ∧ t.stepArmed c = false
      ∧ (∀ k < s.subCount c, t.get (F.FURROW_TX_SC_ENTROPY.CURRENT c k) = s.get (F.FURROW_TX_SC_ENTROPY.TARGET c k))
      ∧ t.get (F.FURROW_TX_STEP_STATUS.DONE c) = min (F.FURROW_TX_STEP_STATUS.DONE c).top (s.get (F.FURROW_TX_STEP_STATUS.DONE c) + 1)
      ∧ t.flag 0x04 (17 + 8 * c.idx) = true ∧ t.mem = s.mem := by
  obtain ⟨harmed, hcurrent, hdone, hmem⟩ := s.stepTaken_holds c
  have hnet := netUpdate_frame (s.stepTaken c) c
  have hover := commitOver_frame (((s.stepTaken c).netUpdate c).txRaise c 1) c 2 (s.get (F.FURROW_TX_STEP.STEP_MF c))
  have hraise : Frame (netWord c) (s.stepTaken c) (((s.stepTaken c).netUpdate c).txRaise c 1) := hnet.raiseEvent
  have hget {f : Fld} (hx : ordinary f.addr) (hw : ¬ netWord c f.addr) (hl : f.addr ≠ R.LINK_COMMIT c) :=
    (hover.get hx (fun e => hl (List.mem_singleton.mp e))).trans (hraise.get hx hw)
  refine ⟨_, exec_entropyStep h, ?_, fun k hk => ?_, ?_, ?_, (hover.mem.trans hraise.mem).trans hmem⟩
  · exact (State.on_of_get (hget (by cases c <;> exact ⟨by decide, by decide⟩) (netWord_ne_step (.inl rfl)) (by cases c <;> decide))).trans harmed
  · refine (hget (scEntropy_ordinary c (by omega)) (scEntropy_not_netWord c k) ?_).trans (hcurrent k hk)
    cases c <;> simp only [F.FURROW_TX_SC_ENTROPY.CURRENT, R.FURROW_TX_SC_ENTROPY, R.LINK_COMMIT, Carrier.idx] <;> omega
  · exact (hget (by cases c <;> exact ⟨by decide, by decide⟩) (netWord_ne_step (.inr rfl)) (by cases c <;> decide)).trans hdone
  · exact hover.readFlag (by decide) (by cases c <;> decide) (State.txRaise_flag _ c (n := 1) (by decide))

/-- Settles O21: a clause for each way that a TARGET's write, an ARM, a CANCEL and a step at its multiframe go. -/
theorem entropyStepsStagedAndArmed : Obligations.EntropyStepsStagedAndArmed :=
  ⟨fun _ _ _ target hd h ha => entropyTargetWrite_staged hd target h ha,
    fun _ _ _ target _ hd h hp => ⟨_, entropyTargetWrite_other hd target h hp, rfl⟩,
    fun _ _ _ target path hd h => ⟨_, entropyTargetWrite_absent hd path target h, rfl⟩,
    fun _ _ _ target hd h ha => ⟨_, entropyTargetWrite_armed hd target h ha, rfl⟩, fun _ _ mf _ hd hp => ⟨_, stepArm_other hd mf hp, rfl⟩,
    fun _ _ mf hd h => ⟨_, stepArm_armed hd mf h, rfl⟩, fun _ _ _ hd h hr => stepArm_refused hd h hr,
    fun _ _ _ hd h hr => stepArm_passed hd h hr, fun _ _ path hd => ⟨_, exec_stepCancel hd path, rfl⟩,
    fun _ _ h hn _ => entropyStep_armed h hn⟩

end Sys2Proof.Machine
end

section
/-!
SUPPORT and statement. Arming a receive step (R116): it takes the announced targets as the captured ones, which are state of the framer beside
its registers.
-/
namespace Sys2Proof.Machine
open Sys2Proof

/-- RX_STEP_ARM of Plough, with none armed (R116). -/
theorem exec_rxStepArm {s : State} {c : Carrier} (hdown : s.isDown (R.LINK_RX_STEP c) = false) (harmed : s.on (F.LINK_RX_STEP.ARMED c) = false)
    (m : Nat) : exec (.rxStepArm .plough c m) s = .next (s.rxStepArm c m) := by
  change execRxStepArm .plough c m s = _
  simp [execRxStepArm, State.ploughOnly, hdown, harmed]

/-- Arming captures the announced targets. -/
theorem State.rxStepArm_capE (s : State) (c : Carrier) (m : Nat) : ((s.rxStepArm c m).line.at c).capE = (s.line.at c).annE := by
  rw [State.rxStepArm, State.setB_line, State.onLine, Duo.at_upd_same, State.set_line, State.set_line]

/-- The captured targets are no waiting cells and no register. -/
theorem State.hushed_capE (s : State) (c : Carrier) : (s.hushed.line.at c).capE = (s.line.at c).capE := by
  cases c <;> rfl

/-- The peer of carrier A has announced the target 1, and no step was captured yet. -/
def announcedNotCaptured : State := State.reset.onLine .A fun l => { l with annE := [1] }

/-- Refutes O24: its clause on RX_STEP_ARM says that nothing beside `RX_STEP` changes, and arming takes the announced targets as the captured
ones, which RX_STEP_SWITCH puts in effect (R116). In `announcedNotCaptured` the two differ. -/
theorem not_decoderCountersAndReceiveSteps : ¬ Obligations.DecoderCountersAndReceiveSteps := by
  rintro ⟨-, -, -, -, -, -, harm, -⟩
  have hdown : announcedNotCaptured.isDown (R.LINK_RX_STEP .A) = false := by decide +kernel
  have harmed : announcedNotCaptured.on (F.LINK_RX_STEP.ARMED .A) = false := by decide +kernel
  obtain ⟨t, ht, -, -, -, hkept, -⟩ := harm announcedNotCaptured .A 0 hdown harmed
  rw [exec_rxStepArm hdown harmed 0] at ht
  cases ht
  have hcap : (announcedNotCaptured.line.at .A).annE = (announcedNotCaptured.line.at .A).capE := by
    rw [← State.rxStepArm_capE announcedNotCaptured .A 0, ← State.hushed_capE, hkept, State.hushed_capE]
  exact absurd hcap (by decide +kernel)

end Sys2Proof.Machine
end

section
/-!
SUPPORT. Rules for the line framer and the link manager (chapters 5 and 6): what interrupts, events and messages leave of a framer's state, the
LINK block's words as a frame, what the fault log writes, and what a LINK field reads after a write of the same word.
-/
-- An argument that a tactic fills waits for all declarations before it: elaborated in parallel, such proofs would each hold a thread.
set_option Elab.async false

namespace Sys2Proof.Machine
open Sys2Proof

/-! ### The framers' state but for the cells that wait -/

/-- From `s` to `t` the line framers hold what they held, but for the management cells that wait to be sent: interrupts, events and messages
queue cells at most. -/
def LineKept (s t : State) : Prop := t.hushed.line = s.hushed.line

theorem LineKept.refl (s : State) : LineKept s s := Eq.refl _

theorem LineKept.trans {s t u : State} (h : LineKept s t) (k : LineKept t u) : LineKept s u := Eq.trans k h

theorem LineKept.of_hushed {s t : State} (h : t.hushed = s.hushed) : LineKept s t := congrArg State.line h

theorem LineKept.of_line {s t : State} (h : t.line = s.line) : LineKept s t := by
  rw [LineKept, State.hushed, State.hushed, h]

/-- What leaves the whole of the framers' state. -/
theorem LineKept.fields {s t u : State} (h : LineKept s t) (hu : u.line = t.line) : LineKept s u := h.trans (.of_line hu)

theorem LineKept.wr {s t : State} (h : LineKept s t) {a : Nat} {w : Word} : LineKept s (t.wr a w) := h.fields (State.wr_line ..)

theorem LineKept.set {s t : State} (h : LineKept s t) {f : Fld} {v : Nat} : LineKept s (t.set f v) := h.fields (State.set_line ..)

theorem LineKept.setB {s t : State} (h : LineKept s t) {f : Fld} {b : Bool} : LineKept s (t.setB f b) := h.fields (State.setB_line ..)

theorem LineKept.bump {s t : State} (h : LineKept s t) {f : Fld} {n : Nat} : LineKept s (t.bump f n) := h.fields (State.bump_line ..)

theorem LineKept.raise {s t : State} (h : LineKept s t) (blk bit : Nat) : LineKept s (t.raise blk bit) :=
  h.trans (.of_hushed (t.raise_hushed blk bit))

theorem LineKept.raiseEvent {s t : State} (h : LineKept s t) (blk bit code : Nat) : LineKept s (t.raiseEvent blk bit code) :=
  h.trans (.of_hushed (t.raiseEvent_hushed blk bit code))

theorem LineKept.ite {s a b : State} {c : Prop} [Decidable c] (ha : LineKept s a) (hb : LineKept s b) : LineKept s (if c then a else b) := by
  split <;> assumption

theorem State.hushed_line_at (s : State) (c : Carrier) : s.hushed.line.at c = { s.line.at c with cells := [], unsent := [] } := by
  cases c <;> rfl

/-- A part of a framer's state that no waiting cell shows in. -/
theorem LineKept.read {α : Type} {s t : State} (h : LineKept s t) (c : Carrier) (f : LineSt → α)
    (hf : ∀ l : LineSt, f { l with cells := [], unsent := [] } = f l := by exact fun _ => rfl) : f (t.line.at c) = f (s.line.at c) := by
  have hc := congrArg (fun d : Duo LineSt => f (d.at c)) h
  simpa only [State.hushed_line_at, hf] using hc

/-! ### Words of the LINK block -/

/-- The words of a list and every word outside the LINK block. -/
def besideLink (l : List Nat) (a : Nat) : Prop := a ∈ l ∨ a < 0x700000 ∨ 0x780000 ≤ a

/-- Whether a field lies in the LINK block, in no INT_STATUS and in none of a list's words. -/
def linkField (l : List Nat) (f : Fld) : Bool := decide (0x700008 ≤ f.addr ∧ f.addr < 0x780000) && !l.contains f.addr

theorem linkField_iff {l : List Nat} {f : Fld} : linkField l f = true ↔ (0x700008 ≤ f.addr ∧ f.addr < 0x780000) ∧ f.addr ∉ l := by
  simp [linkField]

/-- A LINK field outside the list's words stays. -/
theorem Frame.readLink {l : List Nat} {s t : State} (h : Frame (besideLink l) s t) {f : Fld} (hf : linkField l f = true) : t.get f = s.get f := by
  obtain ⟨⟨hlo, hhi⟩, hl⟩ := linkField_iff.mp hf
  refine h.get ⟨by omega, by omega⟩ ?_
  rintro (hm | ho)
  · exact hl hm
  · omega

/-- An INT_STATUS bit of the LINK block stays set. -/
theorem Frame.linkFlag {l : List Nat} {s t : State} (h : Frame (besideLink l) s t) {k : Nat} (hl : l.contains (intStatus 0x0E) = false)
    (hf : s.flag 0x0E k = true) : t.flag 0x0E k = true := by
  refine h.flags 0x0E k (by decide) ?_ hf
  rintro (hm | ho)
  · simp [hm] at hl
  · exact absurd ho (by decide)

theorem Frame.besideOf {l m : List Nat} {s t : State} (h : Frame (· ∈ m) s t) (hm : m ⊆ l) : Frame (besideLink l) s t :=
  h.mono fun _ ha => .inl (hm ha)

theorem Frame.besideAbove {l : List Nat} {n : Nat} {s t : State} (h : Above n s t) (hn : 0x780000 ≤ n := by decide) : Frame (besideLink l) s t :=
  h.mono fun _ ha => .inr (.inr (Nat.le_trans hn ha))

theorem Frame.besideMono {l m : List Nat} {s t : State} (h : Frame (besideLink m) s t) (hm : m ⊆ l) : Frame (besideLink l) s t :=
  h.mono fun _ ha => ha.imp_left fun hi => hm hi

/-- A LINK interrupt bit of a carrier, 8 bits beside the other carrier's. -/
theorem State.linkRaise_flag (s : State) (c : Carrier) {n : Nat} (code : Nat) (h : n < 24) :
    (s.raiseEvent 0x0E (n + 8 * c.idx) code).flag 0x0E (n + 8 * c.idx) = true :=
  State.raiseEvent_flag s code (by decide) (by cases c <;> simp only [Carrier.idx] <;> omega)

theorem State.frameRaise_flag (s : State) (c : Carrier) {n : Nat} (h : n < 24) : (s.frameRaise c n).flag 0x0E (n + 8 * c.idx) = true :=
  s.linkRaise_flag c _ h

theorem State.mgrRaise_flag (s : State) (c : Carrier) {n : Nat} (h : n < 8) : (s.mgrRaise c n).flag 0x0E (16 + n + 8 * c.idx) = true :=
  s.linkRaise_flag c _ (by omega)

/-! ### The fault log (R367) -/

theorem faultPin_frame (s : State) : Above 0x1280000 s s.faultPin :=
  ((((Frame.refl _ s).set (by decide)).set (by decide)).raise).ite (((Frame.refl _ s).set (by decide)).set (by decide))

theorem faultPin_line (s : State) : LineKept s s.faultPin := by
  have h1 (f g : Fld) (b : Bool) (n : Nat) : LineKept s ((s.setB f b).set g n) := (LineKept.refl s).setB.set
  exact ((h1 ..).raise _ _).ite (h1 ..)

/-- A fault entry's detail word: the value stated, or a free one. -/
def State.faultDetail (s : State) (i : Nat) (detail : Option Nat) : State :=
  match detail with
  | some d => s.set (F.FAULT_ENTRY_DETAIL.VALUE i) d
  | none => s.freeWord.2.wr (R.FAULT_ENTRY_DETAIL i) s.freeWord.1

theorem State.faultDetail_kept (s : State) (i : Nat) (detail : Option Nat) :
    Above 0x1280000 s (s.faultDetail i detail) ∧ LineKept s (s.faultDetail i detail) := by
  have hn : 0x1280000 ≤ 0x1280000 := Nat.le_refl _
  cases detail with
  | some d => exact ⟨(Frame.refl _ s).set, (LineKept.refl s).set⟩
  | none =>
    have hfree : Above 0x1280000 s s.freeWord.2 := (Frame.refl _ s).fields
    exact ⟨hfree.wr, LineKept.wr (.of_line rfl)⟩

/-- What a fault log entry leaves: every BAR0 word below the block of chapter 18, and the framers' state. -/
theorem faultLog_kept (s : State) (code cls : Nat) (detail : Option Nat) :
    Above 0x1280000 s (s.faultLog code cls detail) ∧ LineKept s (s.faultLog code cls detail) := by
  have hn : 0x1280000 ≤ 0x1280000 := Nat.le_refl _
  have hpin {t : State} (h : Above 0x1280000 s t ∧ LineKept s t) : Above 0x1280000 s t.faultPin ∧ LineKept s t.faultPin :=
    ⟨h.1.trans (faultPin_frame t), h.2.trans (faultPin_line t)⟩
  unfold State.faultLog
  split
  · exact hpin ⟨(Frame.refl _ s).set.set, (LineKept.refl s).bump.set⟩
  · split
    · exact ⟨(Frame.refl _ s).set.raiseEvent, (LineKept.refl s).bump.raiseEvent _ _ _⟩
    next i _ =>
      extract_lets s1 s2 s3 s4 s5 s6 s7 s8 s9 s10
      have h5 : Above 0x1280000 s s5 := (Frame.refl _ s).wr.set.set.set.set
      have l5 : LineKept s s5 := (LineKept.refl s).wr.set.setB.set.set
      clear_value s5
      have h6 : Above 0x1280000 s5 s6 ∧ LineKept s5 s6 := s5.faultDetail_kept i detail
      have h9 : Above 0x1280000 s6 s9 := (Frame.refl _ s6).set.set.set
      have l9 : LineKept s6 s9 := (LineKept.refl s6).set.set.set
      clear_value s9
      have h10 : Above 0x1280000 s9 s10 := (Frame.refl _ s9).fields
      have l10 : LineKept s9 s10 := .of_line rfl
      clear_value s10
      exact hpin ⟨(((h5.trans h6.1).trans h9).trans h10).raise, (((l5.trans h6.2).trans l9).trans l10).raise _ _⟩

end Sys2Proof.Machine
end

section
/-!
SUPPORT and statement. Frame alignment (R110, Table 5.3): what a FAW match and a miss do in each alignment state, and what the loss of alignment
leaves.
-/
-- An argument that a tactic fills waits for all declarations before it: elaborated in parallel, such proofs would each hold a thread.
set_option Elab.async false

namespace Sys2Proof.Machine
open Sys2Proof

/-! ### The commands -/

theorem exec_fawMatch_matched {s : State} {c : Carrier} {signs : List Byte} (h : s.fawMatches c signs = true) (pos : Nat) :
    exec (.fawMatch c pos signs) s = .next (s.fawMatch c pos) := congrArg Host.Outcome.next (if_pos h)

theorem exec_fawMatch_unmatched {s : State} {c : Carrier} {signs : List Byte} (h : s.fawMatches c signs = false) (pos : Nat) :
    exec (.fawMatch c pos signs) s = .next s := congrArg Host.Outcome.next (if_neg (by simp [h]))

theorem exec_fawMiss_missed {s : State} {c : Carrier} {signs : List Byte} (h : s.fawMatches c signs = false) :
    exec (.fawMiss c signs) s = .next (s.fawMiss c) := congrArg Host.Outcome.next (if_neg (by simp [h]))

theorem exec_fawMiss_matched {s : State} {c : Carrier} {signs : List Byte} (h : s.fawMatches c signs = true) :
    exec (.fawMiss c signs) s = .next s := congrArg Host.Outcome.next (if_pos h)

theorem exec_resync {s : State} {p : Path} {c : Carrier} (h : s.mayWrite p (R.LINK_ALIGN_CFG c)) :
    exec (.resync p c) s = .next (s.alignLost c) := congrArg Host.Outcome.next (State.rwWrite_accepted h _)

/-! ### A match and a miss, state by state -/

section
variable {s : State} {c : Carrier} {pos : Nat}

/-- The framer's state with the next FAW expected a frame after `pos`. -/
def State.expectNext (s : State) (c : Carrier) (pos : Nat) (f : LineSt → LineSt) : State :=
  s.onLine c fun l => f { l with expected := pos + framePositions }

theorem State.expectNext_at (s : State) (c : Carrier) (pos : Nat) (f : LineSt → LineSt) :
    ((s.expectNext c pos f).line.at c) = f { s.line.at c with expected := pos + framePositions } := by
  rw [State.expectNext, State.onLine_line, Duo.at_upd_same]

theorem State.fawMatch_oof (hh : s.hunts c = true) (ha : s.alignState c = 0) :
    s.fawMatch c pos = (s.expectNext c pos fun l => { l with hits := 1, misses := 0 }).toAlign c 1 := by
  simp [State.fawMatch, State.expectNext, hh, ha]

theorem State.fawMatch_counts (hh : s.hunts c = true) (ha : s.alignState c = 1) (hp : pos = (s.line.at c).expected)
    (hn : (s.line.at c).hits + 1 < s.get (F.LINK_ALIGN_CFG.HITS c)) :
    s.fawMatch c pos = s.expectNext c pos fun l => { l with hits := l.hits + 1 } := by
  simp [State.fawMatch, State.expectNext, hh, ha, hp, hn]

theorem State.fawMatch_found (hh : s.hunts c = true) (ha : s.alignState c = 1) (hp : pos = (s.line.at c).expected)
    (hn : s.get (F.LINK_ALIGN_CFG.HITS c) ≤ (s.line.at c).hits + 1) : s.fawMatch c pos =
      ((s.expectNext c pos fun l => { l with hits := 0, misses := 0, awaitPtr := true }).toAlign c 2).frameRaise c 0 := by
  simp [State.fawMatch, State.expectNext, hh, ha, hp, Nat.not_lt.mpr hn]

theorem State.fawMatch_inFrame (hh : s.hunts c = true) (ha : s.alignState c = 2) (hp : pos = (s.line.at c).expected) :
    s.fawMatch c pos = s.expectNext c pos fun l => { l with misses := 0 } := by
  simp [State.fawMatch, State.expectNext, hh, ha, hp]

theorem State.fawMatch_ignored (h : s.hunts c = false ∨ (s.alignState c ≠ 0 ∧ pos ≠ (s.line.at c).expected)) : s.fawMatch c pos = s := by
  rcases h with h | ⟨ha, hp⟩
  · simp [State.fawMatch, h]
  · simp [State.fawMatch, ha, hp]

theorem State.fawMiss_pre (ha : s.alignState c = 1) : s.fawMiss c = (s.onLine c fun l => { l with hits := 0 }).toAlign c 0 := by
  simp [State.fawMiss, ha]

theorem State.fawMiss_counts (ha : s.alignState c = 2) (hn : (s.line.at c).misses + 1 < s.get (F.LINK_ALIGN_CFG.MISS c)) :
    s.fawMiss c = (s.bump (F.LINK_OH_COUNT.FAW_MISSES c)).onLine c fun l =>
      { l with misses := l.misses + 1, expected := l.expected + framePositions } := by
  have hget : (s.bump (F.LINK_OH_COUNT.FAW_MISSES c)).get (F.LINK_ALIGN_CFG.MISS c) = s.get (F.LINK_ALIGN_CFG.MISS c) :=
    State.get_set_other _ _ (by cases c <;> decide)
  simp [State.fawMiss, ha, hget, hn]

theorem State.fawMiss_lost (ha : s.alignState c = 2) (hn : s.get (F.LINK_ALIGN_CFG.MISS c) ≤ (s.line.at c).misses + 1) :
    s.fawMiss c = ((s.bump (F.LINK_OH_COUNT.FAW_MISSES c)).alignLost c).faultLog (0x0E02 + 0x10 * c.idx) 2 none := by
  have hget : (s.bump (F.LINK_OH_COUNT.FAW_MISSES c)).get (F.LINK_ALIGN_CFG.MISS c) = s.get (F.LINK_ALIGN_CFG.MISS c) :=
    State.get_set_other _ _ (by cases c <;> decide)
  simp [State.fawMiss, ha, hget, Nat.not_lt.mpr hn]

theorem State.fawMiss_oof (h1 : s.alignState c ≠ 1) (h2 : s.alignState c ≠ 2) : s.fawMiss c = s := by
  simp [State.fawMiss, h1, h2]

end

/-! ### The alignment state, and what its loss leaves -/

theorem State.toAlign_alignState (s : State) (c : Carrier) {st : Nat} (h : st < 4 := by decide) : (s.toAlign c st).alignState c = st :=
  (s.get_set_same (F.LINK_ALIGN_STATUS.STATE c) st (Nat.zero_le _) (by decide : 1 < 32)).trans (Nat.mod_eq_of_lt h)

theorem toAlign_frame (s : State) (c : Carrier) (st : Nat) : Frame (· ∈ [R.LINK_ALIGN_STATUS c]) s (s.toAlign c st) :=
  (Frame.refl _ s).set List.mem_cons_self

theorem mfLost_frame (s : State) (c : Carrier) : Frame (· ∈ [R.LINK_ALIGN_STATUS c]) s (s.mfLost c) :=
  ((Frame.refl _ s).onLine.set (by cases c <;> decide)).frameRaise.ite (Frame.refl _ s).onLine

theorem State.mfLost_unlocked (s : State) (c : Carrier) : (s.mfLost c).mfLocked c = false := by
  unfold State.mfLost
  dsimp only
  split
  · exact (State.on_of_get (State.raiseEvent_read _ _ _ _ (by cases c <;> decide))).trans
      (State.on_set_zero _ _ (Nat.le_refl 4) (by decide : 4 < 32))
  next h => exact Bool.eq_false_iff.mpr h

/-- What follows FRAME_LOST in the loss of alignment. -/
theorem alignLost_frame_frameLost {s : State} {c : Carrier} (h : s.alignState c = 2) :
    Frame (· ∈ alignWords c) (s.frameRaise c 1) (s.alignLost c) := by
  rw [State.alignLost, if_pos h]
  have hmf := (mfLost_frame (s.frameRaise c 1) c).mono (W := (· ∈ alignWords c)) fun _ ha =>
    List.mem_append_left _ (List.mem_singleton.mp ha ▸ List.mem_cons_self)
  exact ((hmf.set (by cases c <;> decide)).trans ((evalAbandon_frame _ c).mono fun _ => List.mem_append_right _)).onLine.set
    (by cases c <;> decide)

theorem State.alignLost_flag {s : State} {c : Carrier} (h : s.alignState c = 2) : (s.alignLost c).flag 0x0E (1 + 8 * c.idx) = true :=
  (alignLost_frame_frameLost h).flags 0x0E _ (by decide) (by cases c <;> decide) (s.frameRaise_flag c (by decide))

theorem State.alignLost_alignState (s : State) (c : Carrier) : (s.alignLost c).alignState c = 0 := State.toAlign_alignState _ c

theorem State.alignLost_unlocked (s : State) (c : Carrier) : (s.alignLost c).mfLocked c = false := by
  let t := (if s.alignState c = 2 then s.frameRaise c 1 else s).mfLost c
  have hunlocked : t.mfLocked c = false := State.mfLost_unlocked _ c
  have hkept : (s.alignLost c).get (F.LINK_ALIGN_STATUS.MF_LOCK c) = t.get (F.LINK_ALIGN_STATUS.MF_LOCK c) := by
    refine (State.get_set_apart _ _ (Nat.zero_le _) (by decide : 1 < 32) (by cases c <;> decide)).trans ?_
    exact ((evalAbandon_frame _ c).read (by cases c <;> decide)).trans (State.get_set_other _ _ (by cases c <;> decide))
  exact (State.on_of_get hkept).trans hunlocked

theorem State.alignLost_fecUnaligned (s : State) (c : Carrier) : (s.alignLost c).on (F.FEC_STATUS.ALIGNED c) = false := by
  let t := (if s.alignState c = 2 then s.frameRaise c 1 else s).mfLost c
  have hkept : (s.alignLost c).get (F.FEC_STATUS.ALIGNED c) = (t.set (F.FEC_STATUS.ALIGNED c) 0).get (F.FEC_STATUS.ALIGNED c) :=
    (State.get_set_other _ _ (by cases c <;> decide)).trans ((evalAbandon_frame _ c).read (by cases c <;> decide))
  exact (State.on_of_get hkept).trans (State.on_set_zero _ _ (by cases c <;> decide) (by cases c <;> decide))

theorem State.alignLost_counting (s : State) (c : Carrier) : ((s.alignLost c).line.at c).counting = false := by
  rw [State.alignLost, State.set_line, State.onLine_line, Duo.at_upd_same]

/-! ### The obligation -/

/-- Settles O22, state by state: the equations above give each next state, and a loss of alignment is followed by the fault log, which writes no
word of the line and nothing of the framer. -/
theorem frameAlignmentFollowsTable53 : Obligations.FrameAlignmentFollowsTable53 := by
  unfold Obligations.FrameAlignmentFollowsTable53
  refine ⟨?_, ?_, ?_, ?_, ?_, ?_, ?_, ?_, ?_, ?_⟩
  case refine_1 =>
    intro s c pos signs hm hh ha
    have hf := toAlign_frame (s.expectNext c pos fun l => { l with hits := 1, misses := 0 }) c 1
    have hl : (s.fawMatch c pos).line.at c = { s.line.at c with expected := pos + framePositions, hits := 1, misses := 0 } := by
      rw [State.fawMatch_oof hh ha, State.toAlign, State.set_line, State.expectNext_at]
    refine ⟨_, exec_fawMatch_matched hm pos, ?_, by rw [hl], by rw [hl], ?_, ?_⟩ <;> rw [State.fawMatch_oof hh ha]
    · exact State.toAlign_alignState _ c
    · exact hf.keeps
    · exact hf.mem
  case refine_2 =>
    intro s c pos signs hm hh ha hp hn
    refine ⟨_, exec_fawMatch_matched hm pos, ?_⟩
    rw [State.fawMatch_counts hh ha hp hn, State.expectNext_at]
    exact ⟨ha, rfl, rfl, rfl⟩
  case refine_3 =>
    intro s c pos signs hm hh ha hp hn
    refine ⟨_, exec_fawMatch_matched hm pos, ?_⟩
    rw [State.fawMatch_found hh ha hp hn]
    have hexp := congrArg LineSt.expected (s.expectNext_at c pos fun l => { l with hits := 0, misses := 0, awaitPtr := true })
    have hv : Frame (· ∈ [R.LINK_ALIGN_STATUS c]) s (s.expectNext c pos fun l => { l with hits := 0, misses := 0, awaitPtr := true }) :=
      (Frame.refl _ s).onLine
    generalize (s.expectNext c pos fun l => { l with hits := 0, misses := 0, awaitPtr := true }) = v at hexp hv
    have hf : Frame (· ∈ [R.LINK_ALIGN_STATUS c]) s ((v.toAlign c 2).frameRaise c 0) := (hv.trans (toAlign_frame v c 2)).frameRaise
    have hl : (((v.toAlign c 2).frameRaise c 0).line.at c).expected = pos + framePositions :=
      (((LineKept.refl v).set.raiseEvent 0x0E _ _).read c (·.expected)).trans hexp
    have ha : ((v.toAlign c 2).frameRaise c 0).alignState c = 2 :=
      (State.raiseEvent_read _ _ _ _ (by cases c <;> decide)).trans (v.toAlign_alignState c)
    have hflag : ((v.toAlign c 2).frameRaise c 0).flag 0x0E (8 * c.idx) = true := by
      rw [← Nat.zero_add (8 * c.idx)]
      exact State.frameRaise_flag _ c (by decide)
    exact ⟨ha, hl, hflag, hf.keeps, hf.mem⟩
  case refine_4 =>
    intro s c pos signs hm hh ha hp
    refine ⟨_, exec_fawMatch_matched hm pos, ?_⟩
    rw [State.fawMatch_inFrame hh ha hp, State.expectNext_at]
    exact ⟨ha, rfl, rfl, rfl⟩
  case refine_5 =>
    intro s c pos signs h
    cases hm : s.fawMatches c signs with
    | false => exact ⟨s, exec_fawMatch_unmatched hm pos, rfl⟩
    | true => exact ⟨_, exec_fawMatch_matched hm pos, State.fawMatch_ignored (h.resolve_left (by simp [hm]))⟩
  case refine_6 =>
    intro s c signs hm ha
    refine ⟨_, exec_fawMiss_missed hm, ?_⟩
    rw [State.fawMiss_pre ha]
    exact ⟨State.toAlign_alignState _ c, by rw [State.toAlign, State.set_line, State.onLine_line, Duo.at_upd_same],
      (toAlign_frame (s.onLine c fun l => { l with hits := 0 }) c 0).keeps⟩
  case refine_7 =>
    intro s c signs hm ha hn
    refine ⟨_, exec_fawMiss_missed hm, ?_⟩
    rw [State.fawMiss_counts ha hn, State.onLine_line, Duo.at_upd_same]
    have hf : Frame (· ∈ [R.LINK_OH_COUNT c]) s (s.bump (F.LINK_OH_COUNT.FAW_MISSES c)) := (Frame.refl _ s).set List.mem_cons_self
    exact ⟨(hf.read (by cases c <;> decide)).trans ha, s.get_bump_same _ 1 (Nat.zero_le _) (by decide : 15 < 32), rfl, rfl, hf.keeps⟩
  case refine_8 =>
    intro s c signs hm ha hn
    refine ⟨_, exec_fawMiss_missed hm, ?_⟩
    rw [State.fawMiss_lost ha hn]
    let u := s.bump (F.LINK_OH_COUNT.FAW_MISSES c)
    obtain ⟨hf, hl⟩ := faultLog_kept (u.alignLost c) (0x0E02 + 0x10 * c.idx) 2 none
    have hlink := hf.besideAbove (l := [])
    have hu : u.alignState c = 2 := (State.get_set_other _ _ (by cases c <;> decide)).trans ha
    have hmisses : (u.alignLost c).get (F.LINK_OH_COUNT.FAW_MISSES c) = _ :=
      ((alignLost_frame u c).read (by cases c <;> decide)).trans (s.get_bump_same _ 1 (Nat.zero_le _) (by decide : 15 < 32))
    exact ⟨(hlink.readLink (by cases c <;> decide)).trans (u.alignLost_alignState c),
      (State.on_of_get (hlink.readLink (by cases c <;> decide))).trans (u.alignLost_unlocked c),
      (hlink.readLink (by cases c <;> decide)).trans hmisses,
      hlink.linkFlag rfl (State.alignLost_flag hu),
      (hl.read c (·.counting)).trans (u.alignLost_counting c),
      hf.mem.trans (alignLost_frame u c).mem⟩
  case refine_9 =>
    rintro s c signs (hm | ⟨h1, h2⟩)
    · exact ⟨s, exec_fawMiss_matched hm, rfl⟩
    · cases hm : s.fawMatches c signs with
      | true => exact ⟨s, exec_fawMiss_matched hm, rfl⟩
      | false => exact ⟨_, exec_fawMiss_missed hm, State.fawMiss_oof h1 h2⟩
  case refine_10 =>
    intro s path c h
    exact ⟨_, exec_resync h, s.alignLost_alignState c, s.alignLost_unlocked c, s.alignLost_fecUnaligned c, s.alignLost_counting c,
      (alignLost_frame s c).mem⟩

end Sys2Proof.Machine
end

section
/-!
SUPPORT. The link manager's operations (chapter 6): what each writes, and what it makes of the manager's state of its carrier.
-/
-- An argument that a tactic fills waits for all declarations before it: elaborated in parallel, such proofs would each hold a thread.
set_option Elab.async false

namespace Sys2Proof.Machine
open Sys2Proof

/-! ### The link state (Table 6.1) -/

@[simp] theorem State.clientEvent_link (s : State) (p b : Nat) : (s.clientEvent p b).link = s.link := by
  simp only [State.clientEvent]
  split_ifs <;> simp

@[simp] theorem State.egressUpdate_link (s : State) (p : Nat) : (s.egressUpdate p).link = s.link := by
  unfold State.egressUpdate
  dsimp only
  split_ifs <;> simp

@[simp] theorem State.egressAll_link (s : State) : s.egressAll.link = s.link :=
  List.foldlRecOn (motive := fun t : State => t.link = s.link) _ _ rfl fun _ ht _ _ => (State.egressUpdate_link ..).trans ht

@[simp] theorem State.servoStop_link (s : State) : s.servoStop.link = s.link := rfl

@[simp] theorem State.toTt_link (s : State) (st : Nat) : (s.toTt st).link = s.link := by
  unfold State.toTt
  dsimp only
  split_ifs <;> simp

@[simp] theorem State.ttWait_link (s : State) : s.ttWait.link = s.link := by
  unfold State.ttWait State.timeRaise
  dsimp only
  split_ifs <;> simp

@[simp] theorem State.sessionEnd_link (s : State) (p : Nat) : (s.sessionEnd p).link = s.link := by
  unfold State.sessionEnd
  split <;> simp

/-- A change of the link state leaves what the managers hold. -/
@[simp] theorem State.toLink_link (s : State) (c : Carrier) (st : Nat) : (s.toLink c st).link = s.link := by
  unfold State.toLink
  dsimp only
  split_ifs <;> simp

/-- What leaves TRAFFIC does before the link state is set. -/
def State.leaveTraffic (s : State) (c : Carrier) (st : Nat) : State :=
  let s := if s.linkState c = 4 && st ≠ 4 && s.ttCarrier c then s.ttWait else s
  if s.linkState c = 4 && st ≠ 4 then s.sessionEnd (2 + c.idx) else s

theorem leaveTraffic_frame (s : State) (c : Carrier) (st : Nat) (l : List Nat) : Frame (besideLink l) s (s.leaveTraffic c st) := by
  have h1 : Above 0x780000 s (if s.linkState c = 4 && st ≠ 4 && s.ttCarrier c then s.ttWait else s) := (Frame.refl _ s).ttWait.ite (Frame.refl _ s)
  exact (h1.sessionEnd.ite h1).besideAbove

theorem egressAll_frame (s : State) (l : List Nat) : Frame (besideLink l) s s.egressAll :=
  (show Above 0x780000 s s.egressAll from (Frame.refl _ s).egressAll).besideAbove

theorem toLink_frame (s : State) (c : Carrier) (st : Nat) : Frame (besideLink [R.LINK_STATE c]) s (s.toLink c st) :=
  ((leaveTraffic_frame s c st _).set (.inl (by cases c <;> decide))).trans (egressAll_frame _ _)

/-- A LINK field apart from the link state stays. -/
theorem State.toLink_get (s : State) (c : Carrier) (st : Nat) {f : Fld} (hf : linkField [] f = true)
    (ha : apart f (F.LINK_STATE.STATE c) = true) : (s.toLink c st).get f = s.get f :=
  ((egressAll_frame _ []).readLink hf).trans
    ((State.get_set_apart _ _ (Nat.zero_le _) (by decide : 3 < 32) ha).trans ((leaveTraffic_frame s c st []).readLink hf))

/-! ### What a message on the management channel leaves -/

@[simp] theorem State.mccSend_link (s : State) (c : Carrier) (m : List Byte) : (s.mccSend c m).link = s.link := by
  unfold State.mccSend
  split <;> rfl

theorem mccSend_frame {W : Nat → Prop} (s : State) (c : Carrier) (m : List Byte) : Frame W s (s.mccSend c m) := by
  unfold State.mccSend
  exact (Frame.refl W s).ite (Frame.refl W s).fields

/-- The cells that wait, in the queue or at their sender, are those before it and the message's. -/
theorem State.mccSend_cells {s : State} {c : Carrier} {m : List Byte} (h : m.length ≤ 2044) :
    ((s.mccSend c m).line.at c).cells ++ ((s.mccSend c m).line.at c).unsent =
      (s.line.at c).cells ++ (s.line.at c).unsent ++ cellsOf m := by
  rw [State.mccSend, if_neg (Nat.not_lt.mpr h)]
  dsimp only
  rw [Duo.at_upd_same, LineSt.fillQueue]
  simp [List.take_append_drop, List.append_assoc]

/-! ### Proposals in progress -/

theorem showCommit_frame (s : State) (c : Carrier) : Frame (· ∈ [R.LINK_COMMIT c]) s (s.showCommit c) := by
  have hmem : R.LINK_COMMIT c ∈ [R.LINK_COMMIT c] := List.mem_singleton_self _
  have hset {t : State} (h : Frame (· ∈ [R.LINK_COMMIT c]) s t) {f : Fld} (hf : f.addr = R.LINK_COMMIT c) (v : Nat) :
      Frame (· ∈ [R.LINK_COMMIT c]) s (t.set f v) := h.set (hf ▸ hmem)
  have h0 := Frame.refl (· ∈ [R.LINK_COMMIT c]) s
  unfold State.showCommit
  dsimp only
  split
  · exact hset (hset (hset (hset h0 rfl _) rfl _) rfl _) rfl _
  · exact hset (hset (hset (hset h0 rfl _) rfl _) rfl _) rfl _
  · exact h0.wr hmem

@[simp] theorem State.showCommit_link (s : State) (c : Carrier) : (s.showCommit c).link = s.link := by
  unfold State.showCommit
  dsimp only
  split <;> simp

theorem setOwn_frame (s : State) (c : Carrier) (kind : Nat) (p : Option Proposal) : Frame (· ∈ [R.LINK_COMMIT c]) s (s.setOwn c kind p) :=
  (Frame.refl _ s).onLink.trans (showCommit_frame _ c)

theorem State.setOwn_at (s : State) (c : Carrier) (kind : Nat) (p : Option Proposal) :
    (s.setOwn c kind p).link.at c = { s.link.at c with own := putKind (s.link.at c).own kind p } := by
  rw [State.setOwn, State.showCommit_link, State.onLink_link, Duo.at_upd_same]

/-- The proposal put in for a kind is the one of that kind. -/
theorem kindOf_putKind_some {l : List Proposal} {kind : Nat} {p : Proposal} (h : p.kind = kind) : kindOf (putKind l kind (some p)) kind = some p := by
  simp [kindOf, putKind, h]

theorem kindOf_putKind_none (l : List Proposal) (kind : Nat) : kindOf (putKind l kind none) kind = none := by
  simp [kindOf, putKind]

/-- A proposal that was looked up by its kind is of it. -/
theorem kindOf_kind {l : List Proposal} {kind : Nat} {p : Proposal} (h : kindOf l kind = some p) : p.kind = kind := by
  simpa using List.find?_some h

theorem abandonCommits_frame (s : State) (c : Carrier) : Frame (· ∈ [R.LINK_COMMIT c]) s (s.abandonCommits c) :=
  ((Frame.refl _ s).onLink.trans (showCommit_frame _ c)).ite (Frame.refl _ s)

/-- Abandoning commits takes away proposals only. -/
theorem State.abandonCommits_at (s : State) (c : Carrier) :
    ∃ own held, (s.abandonCommits c).link.at c = { s.link.at c with own := own, held := held } := by
  unfold State.abandonCommits
  split
  · exact ⟨_, _, by rw [State.showCommit_link, State.onLink_link, Duo.at_upd_same]⟩
  · exact ⟨(s.link.at c).own, (s.link.at c).held, rfl⟩

/-! ### CAPS, and the states that a manager enters -/

theorem sendCaps_frame {W : Nat → Prop} (s : State) (c : Carrier) : Frame W s (s.sendCaps c) := (mccSend_frame s c _).onLink.onLink

@[simp] theorem State.sendCaps_regs (s : State) (c : Carrier) : (s.sendCaps c).regs = s.regs := by
  simp only [State.sendCaps, State.tagUsed, State.onLink_regs, State.mccSend_regs]

theorem State.sendCaps_at (s : State) (c : Carrier) : (s.sendCaps c).link.at c =
    { s.link.at c with nextTag := ((s.link.at c).nextTag + 1) % 2 ^ 16, capsTag := some (s.linkTag c), capsSends := 1 } := by
  simp only [State.sendCaps, State.tagUsed, State.onLink_link, Duo.at_upd_same, State.mccSend_link]

/-- The words that a change of the link state with what follows it writes. -/
def linkWords (c : Carrier) : List Nat := [R.LINK_STATE c, R.LINK_COMMIT c, R.LINK_LINK_COUNT c]

/-- The state in which a manager enters a link state: commits not armed are abandoned. -/
def State.enter (s : State) (c : Carrier) (st : Nat) : State := (s.abandonCommits c).toLink c st

theorem enter_frame (s : State) (c : Carrier) (st : Nat) : Frame (besideLink (linkWords c)) s (s.enter c st) :=
  ((abandonCommits_frame s c).besideOf (by simp [linkWords])).trans ((toLink_frame _ c st).besideMono (by simp [linkWords]))

theorem State.enter_linkState (s : State) (c : Carrier) (st : Nat) : (s.enter c st).linkState c = st % 16 := State.toLink_linkState _ c st

/-- A LINK field apart from the link state and the commit shown stays. -/
theorem State.enter_get (s : State) (c : Carrier) (st : Nat) {f : Fld} (hf : linkField [R.LINK_COMMIT c] f = true)
    (ha : apart f (F.LINK_STATE.STATE c) = true) : (s.enter c st).get f = s.get f := by
  obtain ⟨hblock, hcommit⟩ := linkField_iff.mp hf
  exact (State.toLink_get _ c st (linkField_iff.mpr ⟨hblock, List.not_mem_nil⟩) ha).trans
    (((abandonCommits_frame s c).besideOf (List.Subset.refl _)).readLink hf)

theorem State.enter_at (s : State) (c : Carrier) (st : Nat) : ∃ own held, (s.enter c st).link.at c = { s.link.at c with own := own, held := held } := by
  rw [State.enter, State.toLink_link]
  exact s.abandonCommits_at c

/-- Entry to NEGOTIATE: a CAPS is outstanding, and nothing is agreed. -/
theorem State.enterNegotiate_at (s : State) (c : Carrier) :
    ((s.enterNegotiate c).link.at c).capsTag = some (s.linkTag c) ∧ ((s.enterNegotiate c).link.at c).capsSends = 1 ∧
      ((s.enterNegotiate c).link.at c).agreed = none ∧ ((s.enterNegotiate c).link.at c).backoffOver = false := by
  obtain ⟨own, held, hat⟩ := s.enter_at c 2
  have h : s.enterNegotiate c = ((s.enter c 2).onLink c fun k =>
    { k with agreed := none, ackSeen := none, negotiated := none, eTaken := false, backoffOver := false }).sendCaps c := rfl
  rw [h, State.sendCaps_at, State.linkTag, State.linkTag, State.onLink_link, Duo.at_upd_same, hat]
  exact ⟨rfl, rfl, rfl, rfl⟩

theorem enterNegotiate_frame (s : State) (c : Carrier) : Frame (besideLink (linkWords c)) s (s.enterNegotiate c) :=
  (enter_frame s c 2).onLink.trans (sendCaps_frame _ c)

theorem State.enterNegotiate_linkState (s : State) (c : Carrier) : (s.enterNegotiate c).linkState c = 2 :=
  ((sendCaps_frame (W := fun _ => False) _ c).get (by cases c <;> exact ⟨by decide, by decide⟩) id).trans (s.enter_linkState c 2)

/-- Entry to LOST: what was entered, the losses counted and LINK_DOWN raised. -/
theorem State.enterLost_eq (s : State) (c : Carrier) : s.enterLost c =
    (((s.enter c 5).onLink c fun k => { k with fast := true, capsTag := none, backoffOver := false }).bump
      (F.LINK_LINK_COUNT.LOSSES c)).mgrRaise c 1 := rfl

theorem enterLost_frame (s : State) (c : Carrier) : Frame (besideLink (linkWords c)) s (s.enterLost c) :=
  ((enter_frame s c 5).onLink.set (.inl (by cases c <;> decide))).raiseEvent

theorem State.enterLost_linkState (s : State) (c : Carrier) : (s.enterLost c).linkState c = 5 :=
  (State.raiseEvent_read _ _ _ _ (by cases c <;> decide)).trans
    ((State.get_set_other _ _ (by cases c <;> decide)).trans (s.enter_linkState c 5))

theorem State.enterLost_backoff (s : State) (c : Carrier) : (s.enterLost c).get (F.LINK_STATE.BACKOFF c) = s.get (F.LINK_STATE.BACKOFF c) :=
  (State.raiseEvent_read _ _ _ _ (by cases c <;> decide)).trans
    ((State.get_set_other _ _ (by cases c <;> decide)).trans (s.enter_get c 5 (by cases c <;> decide) (by cases c <;> decide)))

theorem State.enterLost_losses (s : State) (c : Carrier) : (s.enterLost c).get (F.LINK_LINK_COUNT.LOSSES c) =
    min (F.LINK_LINK_COUNT.LOSSES c).top (s.get (F.LINK_LINK_COUNT.LOSSES c) + 1) := by
  have hkept : (s.enter c 5).get (F.LINK_LINK_COUNT.LOSSES c) = s.get (F.LINK_LINK_COUNT.LOSSES c) :=
    s.enter_get c 5 (by cases c <;> decide) (by cases c <;> decide)
  rw [State.enterLost_eq, State.mgrRaise, State.raiseEvent_read _ _ _ _ (by cases c <;> decide),
    State.get_bump_same _ _ _ (by cases c <;> decide) (by cases c <;> decide), State.onLink_get, hkept]

theorem State.enterLost_flag (s : State) (c : Carrier) : (s.enterLost c).flag 0x0E (17 + 8 * c.idx) = true := State.mgrRaise_flag _ c (by decide)

theorem State.enterLost_at (s : State) (c : Carrier) : ((s.enterLost c).link.at c).fast = true ∧ ((s.enterLost c).link.at c).capsTag = none := by
  rw [State.enterLost_eq, State.mgrRaise, State.raiseEvent_link, State.bump_link, State.onLink_link, Duo.at_upd_same]
  exact ⟨rfl, rfl⟩

end Sys2Proof.Machine
end

section
/-!
SUPPORT and statement. The link states (Table 6.2): the commands that move them, the retries of a request (R134), TAKE_E (R142), and what a stop of
Plough freezes (R296, R297).
-/
-- An argument that a tactic fills waits for all declarations before it: elaborated in parallel, such proofs would each hold a thread.
set_option Elab.async false

namespace Sys2Proof.Machine
open Sys2Proof

/-! ### Lengths of messages -/

@[simp] theorem length_beBytes (n v : Nat) : (beBytes n v).length = n := by
  induction n with
  | zero => rfl
  | succ n ih => rw [beBytes, List.length_cons, ih]

theorem State.linkMsg_length (s : State) (c : Carrier) (typ flags tag : Nat) (body : List Byte) :
    (s.linkMsg c typ flags tag body).length = 8 + body.length := by
  simp only [State.linkMsg, List.length_append, length_beBytes]

theorem Caps.body_length (k : Caps) : k.body.length = 28 := by
  simp only [Caps.body, List.length_append, length_beBytes]

/-! ### Messages on the headland channel -/

theorem Frame.go {s0 s : State} (h : Above 0xB00000 s0 s) : Above 0xB00000 s0 s.go := by
  have hn : 0xB00000 ≤ 0xB00000 := Nat.le_refl _
  unfold State.go
  dsimp only
  split
  · exact h.set.set.raiseEvent
  · exact h.set.set.set.send.ite h.set.set.set

@[simp] theorem State.go_link (s : State) : s.go.link = s.link := by
  unfold State.go
  dsimp only
  split
  · simp
  · split <;> simp

theorem Frame.headlandLoad {s0 s : State} (h : Above 0xB00000 s0 s) (c : Carrier) (sub : Nat) (payload : List Byte) :
    Above 0xB00000 s0 (s.headlandLoad c sub payload) := by
  have hn : 0xB00000 ≤ 0xB00000 := Nat.le_refl _
  have hdata (bytes : List Byte) : Above 0xB00000 s0 ((List.range 15).foldl
      (fun s k => s.wr (R.HEADLAND_TX_DATA k) (BitVec.ofNat 32 (beNat (slice bytes (4 * k) 4)))) s) := h.foldl fun _ _ _ h => h.wr
  exact (hdata _).set.set.set.go

@[simp] theorem State.headlandLoad_link (s : State) (c : Carrier) (sub : Nat) (payload : List Byte) :
    (s.headlandLoad c sub payload).link = s.link := by
  have hdata (bytes : List Byte) : ((List.range 15).foldl
      (fun s k => s.wr (R.HEADLAND_TX_DATA k) (BitVec.ofNat 32 (beNat (slice bytes (4 * k) 4)))) s).link = s.link :=
    List.foldlRecOn (motive := fun t : State => t.link = s.link) _ _ rfl fun _ ht _ _ => (State.wr_link ..).trans ht
  exact (State.go_link _).trans ((State.set_link ..).trans ((State.set_link ..).trans ((State.set_link ..).trans (hdata _))))

theorem headlandPump_frame (n : Nat) (s : State) : Above 0xB00000 s (s.headlandPump n) := by
  induction n generalizing s with
  | zero => exact Frame.refl _ s
  | succ n ih =>
    unfold State.headlandPump
    split
    · exact Frame.refl _ s
    · split
      · exact Frame.refl _ s
      · exact ((Frame.refl _ s).onHead.headlandLoad ..).trans (ih _)

@[simp] theorem State.headlandPump_link (n : Nat) (s : State) : (s.headlandPump n).link = s.link := by
  induction n generalizing s with
  | zero => rfl
  | succ n ih =>
    unfold State.headlandPump
    split
    · rfl
    · split
      · rfl
      · exact (ih _).trans ((State.headlandLoad_link ..).trans (State.onHead_link ..))

/-- A message that waits for the modem, or goes to it, writes words of the HEADLAND block and later ones only. -/
theorem headlandSend_frame (s : State) (c : Carrier) (sub : Nat) (bytes : List Byte) (l : List Nat) :
    Frame (besideLink l) s (s.headlandSend c sub bytes) :=
  ((Frame.refl _ s).onHead.trans (headlandPump_frame _ _)).besideAbove

@[simp] theorem State.headlandSend_link (s : State) (c : Carrier) (sub : Nat) (bytes : List Byte) :
    (s.headlandSend c sub bytes).link = s.link := (State.headlandPump_link ..).trans (State.onHead_link ..)

/-! ### BACKOFF, and the way to LOST -/

theorem State.backoffUp_backoff (s : State) (c : Carrier) :
    (s.backoffUp c).get (F.LINK_STATE.BACKOFF c) = min 6 (s.get (F.LINK_STATE.BACKOFF c) + 1) := by
  have hwidth : (F.LINK_STATE.BACKOFF c).hi + 1 - (F.LINK_STATE.BACKOFF c).lo = 3 := by cases c <;> rfl
  rw [State.backoffUp, State.get_set_same _ _ _ (by cases c <;> decide) (by cases c <;> decide), hwidth]
  exact Nat.mod_eq_of_lt (by omega)

/-- Entry to LOST with BACKOFF one more. -/
theorem State.backoffLost_holds (s : State) (c : Carrier) :
    ((s.backoffUp c).enterLost c).linkState c = 5 ∧
      ((s.backoffUp c).enterLost c).get (F.LINK_STATE.BACKOFF c) = min 6 (s.get (F.LINK_STATE.BACKOFF c) + 1) ∧
      ((s.backoffUp c).enterLost c).get (F.LINK_LINK_COUNT.LOSSES c) =
        min (F.LINK_LINK_COUNT.LOSSES c).top (s.get (F.LINK_LINK_COUNT.LOSSES c) + 1) ∧
      ((s.backoffUp c).enterLost c).flag 0x0E (17 + 8 * c.idx) = true ∧ (((s.backoffUp c).enterLost c).link.at c).fast = true ∧
      ((s.backoffUp c).enterLost c).mem = s.mem := by
  have hlosses : (s.backoffUp c).get (F.LINK_LINK_COUNT.LOSSES c) = s.get (F.LINK_LINK_COUNT.LOSSES c) :=
    State.get_set_other _ _ (by cases c <;> decide)
  exact ⟨State.enterLost_linkState _ c, (State.enterLost_backoff _ c).trans (s.backoffUp_backoff c),
    (State.enterLost_losses (s.backoffUp c) c).trans (by rw [hlosses]), State.enterLost_flag _ c, (State.enterLost_at _ c).1,
    (enterLost_frame _ c).mem.trans (State.set_mem ..)⟩

/-! ### The commands while Plough runs -/

section
variable {s : State} {c : Carrier}

theorem exec_locked_enters (hr : s.cpu = 2) (hl : s.locked c = true)
    (hst : s.linkState c = 1 ∨ s.linkState c = 5 ∧ s.get (F.LINK_STATE.BACKOFF c) = 0) : exec (.locked c) s = .next (s.enterNegotiate c) := by
  refine congrArg Host.Outcome.next ((managed_running hr _).trans ?_)
  rcases hst with h1 | ⟨h5, h0⟩
  · simp [hl, h1]
  · simp [hl, h5, h0]

/-- What ALIGN_COMPLETE waits for (Table 6.2): the entropies taken, and the jump where numbering is to be adopted. -/
def State.alignDone (s : State) (c : Carrier) : Bool :=
  (s.link.at c).eTaken && (!s.adopts c || if s.get (F.LINK_NUMBERING.ROLE c) = 2 then (s.line.at c).adopted else (s.line.at c).jumped)

theorem exec_alignComplete (hr : s.cpu = 2) : exec (.alignComplete c) s =
    .next (if s.linkState c = 3 && s.alignDone c then (s.toLink c 4).mgrRaise c 0 else s) := by
  refine congrArg Host.Outcome.next ((managed_running hr _).trans (if_congr ?_ rfl rfl))
  rw [State.alignDone, Bool.and_assoc]

theorem exec_alignTimeout (hr : s.cpu = 2) (h3 : s.linkState c = 3) : exec (.alignTimeout c) s = .next ((s.backoffUp c).enterLost c) :=
  congrArg Host.Outcome.next ((managed_running hr _).trans (if_pos h3))

theorem exec_lossHoldExpired (hr : s.cpu = 2) (hst : s.linkState c = 2 ∨ s.linkState c = 3 ∨ s.linkState c = 4 ∨ s.linkState c = 6)
    (hl : s.locked c = false) : exec (.lossHoldExpired c) s =
      .next (((s.enterLost c).headlandSend c s.planSub (s.linkDownMsg c)).headlandSend c s.planSub (s.linkDownMsg c)) :=
  congrArg Host.Outcome.next ((managed_running hr _).trans (if_pos (by simpa [hl, or_assoc] using hst)))

theorem exec_backoffExpired (hr : s.cpu = 2) (h5 : s.linkState c = 5) : exec (.backoffExpired c) s =
    .next (if s.locked c then s.enterNegotiate c else s.onLink c fun k => { k with backoffOver := true }) :=
  congrArg Host.Outcome.next ((managed_running hr _).trans (if_pos h5))

theorem exec_incompatibleRetry (hr : s.cpu = 2) (h6 : s.linkState c = 6) (hl : s.locked c = true) :
    exec (.incompatibleRetry c) s = .next (s.enterNegotiate c) :=
  congrArg Host.Outcome.next ((managed_running hr _).trans (if_pos (by simp [h6, hl])))

theorem exec_renegotiate {p : Path} (hr : s.cpu = 2) (hw : s.mayWrite p (R.LINK_MGR_CTRL c)) (hl : s.locked c = true) :
    exec (.renegotiate p c) s =
      .next (if s.linkState c = 4 then s.sendCaps c else if s.linkState c = 6 then s.enterNegotiate c else s) := by
  refine congrArg Host.Outcome.next ((State.rwWrite_accepted hw _).trans ((managed_running hr _).trans ?_))
  simp [hl]

theorem exec_takeE (hd : s.isDown (R.LINK_MGR_CTRL c) = false) : exec (.takeE .plough c) s = .next (s.takeE c) :=
  congrArg Host.Outcome.next (if_neg (by simp [hd]))

theorem exec_takeE_other {p : Path} (hd : s.isDown (R.LINK_MGR_CTRL c) = false) (hp : p ≠ .plough) :
    exec (.takeE p c) s = .next (s.bump (F.FURROW_TX_STEP_STATUS.DROPPED c)) :=
  congrArg Host.Outcome.next ((if_neg (by simp [hd])).trans (State.ploughOnly_other hp s c _))

end

theorem exec_takeEApply {s : State} {c : Carrier} {e b : List Nat} (h : (s.line.at c).taken = some (e, b)) : exec (.takeEApply c) s =
    .next ((s.onLine c fun l => { l with takeE := false, taken := none, rxE := e, rxB := b, eBad := 0, eMf := false }).onLink c
      fun k => { k with eTaken := true }) := by
  change execTakeEApply c s = _
  rw [execTakeEApply, h]

/-! ### Requests without an answer (R134) -/

section
variable {s : State} {c : Carrier} {tag : Nat} {request : Fin 3} {p : Proposal}

/-- A CAPS outstanding goes out again. -/
def State.capsAgain (s : State) (c : Carrier) (tag : Nat) : State :=
  (s.mccSend c (s.linkMsg c 1 0 tag (s.ownCaps c).body)).onLink c fun k => { k with capsSends := k.capsSends + 1 }

theorem exec_requestRetry_capsAgain (hr : s.cpu = 2) (ht : (s.link.at c).capsTag = some tag) (ha : (s.link.at c).ackSeen = none)
    (hn : (s.link.at c).capsSends < 4) : exec (.requestRetry c 0) s = .next (s.capsAgain c tag) := by
  refine congrArg Host.Outcome.next ((managed_running hr _).trans ?_)
  simp [ht, ha, hn, State.capsAgain]

theorem exec_requestRetry_capsLost (hr : s.cpu = 2) (ht : (s.link.at c).capsTag = some tag) (ha : (s.link.at c).ackSeen = none)
    (hn : 4 ≤ (s.link.at c).capsSends) (h2 : s.linkState c = 2) : exec (.requestRetry c 0) s = .next ((s.backoffUp c).enterLost c) := by
  refine congrArg Host.Outcome.next ((managed_running hr _).trans ?_)
  simp [ht, ha, Nat.not_lt.mpr hn, h2]

/-- A proposal without an answer goes out again. -/
def State.proposalAgain (s : State) (c : Carrier) (kind : Nat) (p : Proposal) : State :=
  (s.mccSend c (s.linkMsg c 0x10 0 p.tag p.body)).setOwn c kind (some { p with sends := p.sends + 1 })

theorem exec_requestRetry_proposal (hr : s.cpu = 2) (h0 : request ≠ 0) (hp : kindOf (s.link.at c).own request = some p) (h1 : p.cstate = 1) :
    exec (.requestRetry c request) s = .next (if p.sends < 4 then s.proposalAgain c request p else s.withdrawOwn c request) := by
  have hv : request.val ≠ 0 := fun h => h0 (Fin.ext h)
  refine congrArg Host.Outcome.next ((managed_running hr _).trans ?_)
  simp [hv, hp, h1, State.proposalAgain]

theorem proposalAgain_frame (s : State) (c : Carrier) (kind : Nat) (p : Proposal) :
    Frame (· ∈ [R.LINK_COMMIT c]) s (s.proposalAgain c kind p) := (mccSend_frame s c _).trans (setOwn_frame _ c kind _)

/-- This end's proposal is withdrawn: told to the peer, taken away, and the abort counted (R139). -/
theorem State.withdrawOwn_eq (hp : kindOf (s.link.at c).own request = some p) : s.withdrawOwn c request =
    ((s.mccSend c (s.linkMsg c 0x13 0 p.tag (commitBody p))).setOwn c request none).commitAbort c := by
  unfold State.withdrawOwn
  rw [hp]

theorem State.withdrawOwn_holds (hp : kindOf (s.link.at c).own request = some p) :
    kindOf ((s.withdrawOwn c request).link.at c).own request = none ∧
      (s.withdrawOwn c request).get (F.LINK_LINK_COUNT.ABORTS c) =
        min (F.LINK_LINK_COUNT.ABORTS c).top (s.get (F.LINK_LINK_COUNT.ABORTS c) + 1) ∧
      (s.withdrawOwn c request).flag 0x0E (20 + 8 * c.idx) = true ∧ (s.withdrawOwn c request).mem = s.mem := by
  rw [State.withdrawOwn_eq hp]
  have hf := (mccSend_frame s c (s.linkMsg c 0x13 0 p.tag (commitBody p))).trans (setOwn_frame _ c request none)
  have hown := (s.mccSend c (s.linkMsg c 0x13 0 p.tag (commitBody p))).setOwn_at c request none
  generalize (s.mccSend c (s.linkMsg c 0x13 0 p.tag (commitBody p))).setOwn c request none = t at hf hown
  have hset : Frame (· ∈ [R.LINK_COMMIT c, R.LINK_LINK_COUNT c]) s (t.commitAbort c) :=
    ((hf.mono fun _ ha => List.mem_cons.mpr (.inl (List.mem_singleton.mp ha))).set (by cases c <;> decide)).raiseEvent
  refine ⟨?_, ?_, State.mgrRaise_flag _ c (by decide), hset.mem⟩
  · rw [State.commitAbort, State.mgrRaise, State.raiseEvent_link, State.bump_link, hown]
    exact kindOf_putKind_none _ _
  · rw [State.commitAbort, State.mgrRaise, State.raiseEvent_read _ _ _ _ (by cases c <;> decide),
      State.get_bump_same _ _ _ (by cases c <;> decide) (by cases c <;> decide), hf.read (by cases c <;> decide)]

end

/-! ### The obligation -/

/-- Settles O25, command by command: the entries to NEGOTIATE and LOST say what they make of the link's state, a withdrawn or retried proposal is
looked up by its kind, and `managed` runs nothing while Plough is not RUNNING. -/
theorem linkStatesFollowTable62 : Obligations.LinkStatesFollowTable62 := by
  unfold Obligations.LinkStatesFollowTable62
  refine ⟨?_, ?_, ?_, ?_, ?_, ?_, ?_, ?_, ?_, ?_, ?_, ?_, ?_, ?_, ?_, ?_, ?_, ?_,
    fun s c h => ⟨_, congrArg Host.Outcome.next (managed_frozen h _), rfl⟩,
    fun s c h => ⟨_, congrArg Host.Outcome.next (managed_frozen h _), rfl⟩,
    fun s c h => ⟨_, congrArg Host.Outcome.next (managed_frozen h _), rfl⟩,
    fun s c h => ⟨_, congrArg Host.Outcome.next (managed_frozen h _), rfl⟩,
    fun s c h => ⟨_, congrArg Host.Outcome.next (managed_frozen h _), rfl⟩,
    fun s c h => ⟨_, congrArg Host.Outcome.next (managed_frozen h _), rfl⟩,
    fun s c request h => ⟨_, congrArg Host.Outcome.next (managed_frozen h _), rfl⟩⟩
  case refine_1 =>
    intro s c hr h1 hl
    obtain ⟨htag, -, hagreed, -⟩ := s.enterNegotiate_at c
    exact ⟨_, exec_locked_enters hr hl (.inl h1), s.enterNegotiate_linkState c, htag, hagreed, (enterNegotiate_frame s c).mem⟩
  case refine_2 =>
    intro s c hr h5 hl h0
    exact ⟨_, exec_locked_enters hr hl (.inr ⟨h5, h0⟩), s.enterNegotiate_linkState c, (s.enterNegotiate_at c).1, (enterNegotiate_frame s c).mem⟩
  case refine_3 =>
    intro s c hr h3 htaken hjump
    have hdone : (s.linkState c = 3 && s.alignDone c) = true := by simpa [h3, State.alignDone, htaken] using hjump
    refine ⟨_, exec_alignComplete hr, ?_⟩
    rw [if_pos hdone]
    exact ⟨(State.raiseEvent_read _ _ _ _ (by cases c <;> decide)).trans (s.toLink_linkState c 4), State.mgrRaise_flag _ c (by decide),
      (State.raiseEvent_link ..).trans (s.toLink_link c 4), (toLink_frame s c 4).raiseEvent.mem⟩
  case refine_4 =>
    intro s c hr h
    refine ⟨_, exec_alignComplete hr, if_neg ?_⟩
    rcases h with h3 | htaken | ⟨hadopts, hjump⟩
    · simp [h3]
    · simp [State.alignDone, htaken]
    · simp [State.alignDone, hadopts, hjump]
  case refine_5 =>
    intro s c hr h3
    exact ⟨_, exec_alignTimeout hr h3, s.backoffLost_holds c⟩
  case refine_6 =>
    intro s c hr hst hl
    refine ⟨_, exec_lossHoldExpired hr hst hl, ?_⟩
    have hf := (headlandSend_frame (s.enterLost c) c s.planSub (s.linkDownMsg c) []).trans (headlandSend_frame _ c s.planSub (s.linkDownMsg c) [])
    refine ⟨(hf.readLink (by cases c <;> decide)).trans (s.enterLost_linkState c),
      (hf.readLink (by cases c <;> decide)).trans (s.enterLost_losses c), hf.linkFlag rfl (s.enterLost_flag c), ?_,
      hf.mem.trans (enterLost_frame s c).mem⟩
    rw [State.headlandSend_link, State.headlandSend_link]
    exact (s.enterLost_at c).1
  case refine_7 =>
    intro s c hr h5
    refine ⟨_, exec_backoffExpired hr h5, ?_⟩
    cases hl : s.locked c with
    | true => exact ⟨s.enterNegotiate_linkState c, (s.enterNegotiate_at c).2.2.2, (enterNegotiate_frame s c).mem⟩
    | false => exact ⟨h5, by simp, rfl⟩
  case refine_8 =>
    intro s c hr h6 hl
    exact ⟨_, exec_incompatibleRetry hr h6 hl, s.enterNegotiate_linkState c, (s.enterNegotiate_at c).1⟩
  case refine_9 =>
    intro s p c hr hw h4 hl
    refine ⟨_, exec_renegotiate hr hw hl, ?_⟩
    rw [if_pos h4, State.sendCaps_at]
    exact ⟨rfl, rfl, s.sendCaps_regs c, (sendCaps_frame (W := fun _ => False) s c).mem⟩
  case refine_10 =>
    intro s p c hr hw h6 hl
    refine ⟨_, exec_renegotiate hr hw hl, ?_⟩
    rw [if_neg (by omega), if_pos h6]
    obtain ⟨htag, hsends, -⟩ := s.enterNegotiate_at c
    exact ⟨s.enterNegotiate_linkState c, htag, hsends, (enterNegotiate_frame s c).mem⟩
  case refine_11 =>
    intro s c hd h
    exact ⟨_, exec_takeE hd, if_pos (by simpa using h)⟩
  case refine_12 =>
    intro s c p hd hp
    exact ⟨_, exec_takeE_other hd hp, rfl⟩
  case refine_13 =>
    intro s c hd h4 ha
    refine ⟨_, exec_takeE hd, ?_⟩
    rw [State.takeE, if_neg (by simp [h4, ha]), State.onLine_line, Duo.at_upd_same]
    exact ⟨rfl, rfl, rfl, rfl⟩
  case refine_14 =>
    intro s c e b h
    refine ⟨_, exec_takeEApply h, ?_⟩
    rw [State.onLink_line, State.onLine_line, State.onLink_link, Duo.at_upd_same, Duo.at_upd_same]
    exact ⟨rfl, rfl, rfl, rfl, rfl, rfl⟩
  case refine_15 =>
    intro s c tag hr ht ha hn
    refine ⟨_, exec_requestRetry_capsAgain hr ht ha hn, ?_⟩
    rw [State.capsAgain, State.onLink_link, State.onLink_line, Duo.at_upd_same, State.mccSend_link]
    exact ⟨rfl, ht, State.mccSend_cells (by rw [State.linkMsg_length, Caps.body_length]; decide),
      (State.onLink_regs ..).trans (State.mccSend_regs ..)⟩
  case refine_16 =>
    intro s c tag hr ht ha hn h2
    obtain ⟨hst, -, hlosses, -⟩ := s.backoffLost_holds c
    exact ⟨_, exec_requestRetry_capsLost hr ht ha hn h2, hst, hlosses, (State.enterLost_at _ c).2⟩
  case refine_17 =>
    intro s c request p hr h0 hp h1 hn
    refine ⟨_, exec_requestRetry_proposal hr h0 hp h1, ?_⟩
    rw [if_pos hn]
    refine ⟨?_, (proposalAgain_frame s c request p).read (by cases c <;> decide), (proposalAgain_frame s c request p).mem⟩
    rw [State.proposalAgain, State.setOwn_at, kindOf_putKind_some (p := { p with sends := p.sends + 1 }) (kindOf_kind (p := p) hp)]
    rfl
  case refine_18 =>
    intro s c request p hr h0 hp h1 hn
    refine ⟨_, exec_requestRetry_proposal hr h0 hp h1, ?_⟩
    rw [if_neg (by omega)]
    exact State.withdrawOwn_holds hp

end Sys2Proof.Machine
end

section
/-!
SUPPORT and statement. Capabilities (R130, R131): a peer CAPS settled and answered, or refused, and the CAPS_ACK that takes a link to ALIGN.
-/
-- An argument that a tactic fills waits for all declarations before it: elaborated in parallel, such proofs would each hold a thread.
set_option Elab.async false

namespace Sys2Proof.Machine
open Sys2Proof

/-! ### Agreed values -/

/-- Which end computes them makes no difference to the agreed values. -/
theorem agree_comm (a b : Caps) : agree a b = agree b a := by
  simp only [agree, Nat.min_comm a.frameHi, Nat.min_comm a.wmpHi, Nat.max_comm a.frameLo, Nat.max_comm a.wmpLo, Nat.and_comm a.features]
  congr 3 <;> simp only [Nat.min_comm]

theorem Agreed.body_length (g : Agreed) : g.body.length = 8 := by
  simp only [Agreed.body, List.length_append, length_beBytes]

/-! ### Several fields written one after the other -/

/-- Fields set in turn. -/
def State.setAll (s : State) (l : List (Fld × Nat)) : State := l.foldl (fun s p => s.set p.1 p.2) s

/-- Whether a field lies in a word. -/
def fits (f : Fld) : Bool := f.lo ≤ f.hi && f.hi < 32

theorem State.get_setAll_apart (s : State) (l : List (Fld × Nat)) {f : Fld} (h : l.all (fun p => fits p.1 && apart f p.1) = true) :
    (s.setAll l).get f = s.get f := by
  refine List.foldlRecOn (motive := fun t : State => t.get f = s.get f) l _ rfl fun t ht p hp => ?_
  have hfit := List.all_eq_true.mp h p hp
  simp only [fits, Bool.and_eq_true, decide_eq_true_eq] at hfit
  obtain ⟨⟨hlo, hhi⟩, hapart⟩ := hfit
  exact (State.get_set_apart _ _ hlo hhi hapart).trans ht

/-- A field reads what was set last, where the fields set after it are apart from it. -/
theorem State.get_setAll (s : State) (before after : List (Fld × Nat)) {f : Fld} (v : Nat) (hf : fits f = true)
    (h : after.all (fun p => fits p.1 && apart f p.1) = true) :
    (s.setAll (before ++ (f, v) :: after)).get f = v % 2 ^ (f.hi + 1 - f.lo) := by
  simp only [fits, Bool.and_eq_true, decide_eq_true_eq] at hf
  have hsplit : s.setAll (before ++ (f, v) :: after) = ((s.setAll before).set f v).setAll after := by
    simp only [State.setAll, List.foldl_append, List.foldl_cons]
  rw [hsplit, State.get_setAll_apart _ _ h, State.get_set_same _ _ _ hf.1 hf.2]

theorem setAll_frame (s : State) (l : List (Fld × Nat)) {W : Nat → Prop} (h : ∀ p ∈ l, W p.1.addr) : Frame W s (s.setAll l) :=
  (Frame.refl W s).foldl fun _ p hp ht => ht.set (h p hp)

/-! ### A peer CAPS (R131) -/

/-- The peer's capabilities are noted. -/
def State.peerCaps (s : State) (c : Carrier) (k : Caps) : State :=
  (s.onLink c fun x => { x with peer := some k }).set (F.LINK_PEER_FEATURES.VALUE c) k.features

/-- In TRAFFIC this end's CAPS goes out too, unless one is outstanding (Table 6.2). -/
def State.capsTurn (s : State) (c : Carrier) : State :=
  if s.linkState c = 4 && s.locked c && (s.link.at c).capsTag.isNone then s.sendCaps c else s

/-- A peer CAPS is answered with the agreed values, which this end holds from then on. -/
def State.capsAnswered (s : State) (c : Carrier) (tag : Nat) (g : Agreed) : State :=
  ((s.linkAnswer c 2 1 tag g.body).onLine c fun l => { l with nextVersion := some g.frame }).onLink c fun x =>
    { x with agreed := some g, ackSeen := none }

section
variable {s : State} {c : Carrier} {tag : Nat} {k : Caps} {body : List Byte}

theorem peerCaps_frame (s : State) (c : Carrier) (k : Caps) : Frame (· ∈ [R.LINK_PEER_FEATURES c]) (s.mccTake c) ((s.mccTake c).peerCaps c k) :=
  (Frame.refl _ _).onLink.set (by cases c <;> decide)

theorem State.peerCaps_at (s : State) (c : Carrier) (k : Caps) : (s.peerCaps c k).link.at c = { s.link.at c with peer := some k } := by
  rw [State.peerCaps, State.set_link, State.onLink_link, Duo.at_upd_same]

/-- What this end offers rests on its plan, its mode and its registers, none of which a peer's capabilities change. -/
theorem ownCaps_kept {t : State} (h : Frame (· ∈ [R.LINK_PEER_FEATURES c]) s t) (hsec : t.sec = s.sec) : t.ownCaps c = s.ownCaps c := by
  have hmin : t.get F.PLAN_FORMAT.FRAME_MAJOR_MIN = s.get F.PLAN_FORMAT.FRAME_MAJOR_MIN := h.read (by cases c <;> decide)
  have hmax : t.get F.PLAN_FORMAT.FRAME_MAJOR_MAX = s.get F.PLAN_FORMAT.FRAME_MAJOR_MAX := h.read (by cases c <;> decide)
  have hmajor : t.get F.PLAN_FORMAT.PLAN_MAJOR = s.get F.PLAN_FORMAT.PLAN_MAJOR := h.read (by cases c <;> decide)
  have hminor : t.get F.PLAN_FORMAT.PLAN_MINOR = s.get F.PLAN_FORMAT.PLAN_MINOR := h.read (by cases c <;> decide)
  have hmode : t.mode = s.mode := h.read (by cases c <;> decide)
  have hfollow : t.on (F.LINK_MGR_CTRL.AUTO_FOLLOW c) = s.on (F.LINK_MGR_CTRL.AUTO_FOLLOW c) := State.on_of_get (h.read (by cases c <;> decide))
  have hepoch : t.get F.PLAN_RUN_EPOCH.EPOCH = s.get F.PLAN_RUN_EPOCH.EPOCH := h.read (by cases c <;> decide)
  have hframe : t.runFrame = s.runFrame := by rw [State.runFrame, h.plan, State.runFrame]
  have hoffers : t.offers c = s.offers c := by rw [State.offers, h.plan, hframe, hfollow, hmode, State.offers]
  simp only [State.ownCaps, State.nodeId, State.frameLo, State.frameHi, State.runCarrier, State.subCount, State.codeOf, State.runFec,
    State.runSubs, h.plan, hsec, hmin, hmax, hmajor, hminor, hmode, hframe, hoffers, hepoch]

theorem State.peerCaps_ownCaps (s : State) (c : Carrier) (k : Caps) : ((s.mccTake c).peerCaps c k).ownCaps c = s.ownCaps c :=
  ownCaps_kept (s := s) ((Frame.refl _ s).onLine.trans (peerCaps_frame s c k)) rfl

theorem State.peerCaps_jointPeerOk (s : State) (c : Carrier) (k : Caps) (node : Nat) :
    ((s.mccTake c).peerCaps c k).jointPeerOk c node = s.jointPeerOk c node := by
  have hmode : ((s.mccTake c).peerCaps c k).mode = s.mode := (peerCaps_frame s c k).read (by cases c <;> decide)
  have hother : ((s.mccTake c).peerCaps c k).link.at c.other = s.link.at c.other := Duo.at_upd_other _ c _
  unfold State.jointPeerOk
  rw [hmode, hother]

/-- A peer CAPS whose request is the first answered, before its body is judged. -/
theorem exec_capsReceived (hr : s.cpu = 2) (ha : (s.link.at c).answered = none) : exec (.capsReceived c tag body) s =
    .next (match capsOf body with
      | none => (s.mccTake c).linkMalformed c 1 tag
      | some k =>
        if s.linkState c = 2 || s.linkState c = 3 || s.linkState c = 4 then (s.mccTake c).capsReceived c tag k else s.mccTake c) := by
  have hlink : ((s.mccTake c).link.at c).answered = none := ha
  refine congrArg Host.Outcome.next ((managed_running hr _).trans ?_)
  unfold State.linkRequest
  rw [hlink]
  rfl

/-! ### Answers and refusals -/

theorem linkAnswer_frame {W : Nat → Prop} (s : State) (c : Carrier) (typ flags tag : Nat) (body : List Byte) :
    Frame W s (s.linkAnswer c typ flags tag body) := (mccSend_frame s c _).onLink

theorem State.linkAnswer_at (s : State) (c : Carrier) (typ flags tag : Nat) (body : List Byte) :
    (s.linkAnswer c typ flags tag body).link.at c = { s.link.at c with answered := some (tag, s.linkMsg c typ flags tag body) } := by
  rw [State.linkAnswer, State.onLink_link, Duo.at_upd_same, State.mccSend_link]

/-- A message's bytes rest on the WMP version agreed. -/
theorem linkMsg_kept {t : State} (hmajor : t.get (F.LINK_STATE.WMP_MAJOR c) = s.get (F.LINK_STATE.WMP_MAJOR c))
    (hminor : t.get (F.LINK_STATE.WMP_MINOR c) = s.get (F.LINK_STATE.WMP_MINOR c)) (typ flags tag : Nat) (body : List Byte) :
    t.linkMsg c typ flags tag body = s.linkMsg c typ flags tag body := by
  rw [State.linkMsg, State.wmpVersion, hmajor, hminor, State.linkMsg, State.wmpVersion]

/-- The NAK of a CAPS is an answer that is kept, and it is counted. -/
theorem State.linkNak_caps (s : State) (c : Carrier) (tag code : Nat) :
    s.linkNak c 1 tag code = (s.linkAnswer c 1 3 tag (beBytes 1 code)).bump (F.LINK_LINK_COUNT.NAKS c) := rfl

theorem State.linkNak_naks (s : State) (c : Carrier) (tag code : Nat) : (s.linkNak c 1 tag code).get (F.LINK_LINK_COUNT.NAKS c) =
    min (F.LINK_LINK_COUNT.NAKS c).top (s.get (F.LINK_LINK_COUNT.NAKS c) + 1) := by
  have hkept : (s.linkAnswer c 1 3 tag (beBytes 1 code)).get (F.LINK_LINK_COUNT.NAKS c) = s.get (F.LINK_LINK_COUNT.NAKS c) :=
    (linkAnswer_frame (W := fun _ => False) ..).get (by cases c <;> exact ⟨by decide, by decide⟩) id
  rw [State.linkNak_caps, State.get_bump_same _ _ _ (by cases c <;> decide) (by cases c <;> decide), hkept]

theorem linkNak_frame (s : State) (c : Carrier) (tag code : Nat) : Frame (· ∈ [R.LINK_LINK_COUNT c]) s (s.linkNak c 1 tag code) :=
  (linkAnswer_frame ..).set (by cases c <;> decide)

/-! ### A CAPS that is accepted -/

theorem capsTurn_frame {W : Nat → Prop} (s : State) (c : Carrier) : Frame W s (s.capsTurn c) := (sendCaps_frame s c).ite (Frame.refl W s)

/-- This end's own CAPS changes nothing that an answer rests on. -/
theorem State.capsTurn_at (s : State) (c : Carrier) : ∃ next out sends,
    (s.capsTurn c).link.at c = { s.link.at c with nextTag := next, capsTag := out, capsSends := sends } ∧
      (s.linkState c = 4 → s.locked c = true → (s.link.at c).capsTag = none → out = some (s.linkTag c)) := by
  unfold State.capsTurn
  split
  · exact ⟨_, _, _, s.sendCaps_at c, fun _ _ _ => rfl⟩
  next h =>
    exact ⟨(s.link.at c).nextTag, (s.link.at c).capsTag, (s.link.at c).capsSends, rfl, fun h4 hl hc => absurd (by simp [h4, hl, hc]) h⟩

theorem capsAnswered_frame {W : Nat → Prop} (s : State) (c : Carrier) (tag : Nat) (g : Agreed) : Frame W s (s.capsAnswered c tag g) :=
  (linkAnswer_frame ..).onLine.onLink

theorem State.capsAnswered_at (s : State) (c : Carrier) (tag : Nat) (g : Agreed) : (s.capsAnswered c tag g).link.at c =
    { s.link.at c with answered := some (tag, s.linkMsg c 2 1 tag g.body), agreed := some g, ackSeen := none } := by
  rw [State.capsAnswered, State.onLink_link, Duo.at_upd_same, State.onLine_link, State.linkAnswer_at]

/-- A CAPS with common majors, the same configuration and an acceptable peer, before which no CAPS_ACK came. -/
theorem State.capsReceived_accepted {g : Agreed} (hagree : agree (s.ownCaps c) k = some g) (hconf : sameConfig (s.ownCaps c) k = true)
    (hjoint : s.jointPeerOk c k.node = true) (hearly : (s.link.at c).ackSeen = none) :
    (s.mccTake c).capsReceived c tag k = (((s.mccTake c).peerCaps c k).capsTurn c).capsAnswered c tag g := by
  have hack : ((((s.mccTake c).peerCaps c k).capsTurn c).link.at c).ackSeen = none := by
    obtain ⟨next, out, sends, hat, -⟩ := ((s.mccTake c).peerCaps c k).capsTurn_at c
    rw [hat, State.peerCaps_at]
    exact hearly
  have hown := s.peerCaps_ownCaps c k
  have hpeer := s.peerCaps_jointPeerOk c k k.node
  unfold State.capsReceived
  extract_lets u
  change u.ownCaps c = _ at hown
  change u.jointPeerOk c k.node = _ at hpeer
  change ((u.capsTurn c).link.at c).ackSeen = none at hack
  change _ = (u.capsTurn c).capsAnswered c tag g
  clear_value u
  rw [hown, hagree]
  dsimp only
  rw [hpeer, if_pos (by rw [hconf, hjoint]; rfl)]
  have hnone : (((u.capsTurn c).linkAnswer c 2 1 tag g.body).link.at c).ackSeen = none := by
    rw [State.linkAnswer_at]
    exact hack
  change (match (((u.capsTurn c).linkAnswer c 2 1 tag g.body).link.at c).ackSeen with
    | some b => ((u.capsTurn c).capsAnswered c tag g).capsAck c g b
    | none => (u.capsTurn c).capsAnswered c tag g) = _
  rw [hnone]

/-- A CAPS without a common major. -/
theorem State.capsReceived_refused (hagree : agree (s.ownCaps c) k = none) :
    (s.mccTake c).capsReceived c tag k = (((s.mccTake c).peerCaps c k).linkNak c 1 tag 0x0D).enterIncompatible c := by
  have hown := s.peerCaps_ownCaps c k
  unfold State.capsReceived
  extract_lets u
  change u.ownCaps c = _ at hown
  change _ = (u.linkNak c 1 tag 0x0D).enterIncompatible c
  clear_value u
  rw [hown, hagree]

/-- What an accepted CAPS makes of the link. -/
theorem State.capsAccepted_holds (s : State) (c : Carrier) (tag : Nat) (k : Caps) (g : Agreed) :
    let t := (((s.mccTake c).peerCaps c k).capsTurn c).capsAnswered c tag g
    (t.link.at c).agreed = some g ∧ (t.link.at c).peer = some k ∧ (t.link.at c).answered = some (tag, s.linkMsg c 2 1 tag g.body) ∧
      t.get (F.LINK_PEER_FEATURES.VALUE c) = k.features % 2 ^ 32 ∧ t.linkState c = s.linkState c ∧
      (s.linkState c = 4 ∧ s.locked c = true ∧ (s.link.at c).capsTag = none → (t.link.at c).capsTag = some (s.linkTag c)) ∧
      s.keepsRegs t [R.LINK_PEER_FEATURES c] ∧ t.mem = s.mem := by
  have hfeatures : ((s.mccTake c).peerCaps c k).get (F.LINK_PEER_FEATURES.VALUE c) = k.features % 2 ^ 32 :=
    State.get_set_same _ _ _ (Nat.zero_le _) (by decide : 31 < 32)
  have hu : Frame (· ∈ [R.LINK_PEER_FEATURES c]) s ((s.mccTake c).peerCaps c k) := (Frame.refl _ s).onLine.trans (peerCaps_frame s c k)
  have hat : ((s.mccTake c).peerCaps c k).link.at c = { s.link.at c with peer := some k } := State.peerCaps_at _ c k
  generalize (s.mccTake c).peerCaps c k = u at hfeatures hu hat
  have hrest {W : Nat → Prop} : Frame W u ((u.capsTurn c).capsAnswered c tag g) := (capsTurn_frame u c).trans (capsAnswered_frame _ c tag g)
  have hall : Frame (· ∈ [R.LINK_PEER_FEATURES c]) s ((u.capsTurn c).capsAnswered c tag g) := hu.trans hrest
  have hmsg : (u.capsTurn c).linkMsg c 2 1 tag g.body = s.linkMsg c 2 1 tag g.body :=
    have hturn := hu.trans (capsTurn_frame u c)
    linkMsg_kept (hturn.read (by cases c <;> decide)) (hturn.read (by cases c <;> decide)) ..
  have hlocked : u.locked c = s.locked c := by
    rw [State.locked, State.mfLocked, State.alignState, hu.read (by cases c <;> decide), State.on_of_get (hu.read (by cases c <;> decide))]
    rfl
  obtain ⟨next, out, sends, hturn, hout⟩ := u.capsTurn_at c
  have hlast := (u.capsTurn c).capsAnswered_at c tag g
  rw [hmsg, hturn, hat] at hlast
  refine ⟨by rw [hlast], by rw [hlast], by rw [hlast], ?_, hall.read (by cases c <;> decide), ?_, hall.keeps, hall.mem⟩
  · exact (hrest.get (W := fun _ => False) (by cases c <;> exact ⟨by decide, by decide⟩) id).trans hfeatures
  · rintro ⟨h4, hl, hc⟩
    rw [hlast]
    refine (hout ((hu.read (by cases c <;> decide)).trans h4) (hlocked.trans hl) (by rw [hat]; exact hc)).trans ?_
    rw [State.linkTag, hat, State.linkTag]

/-! ### Refused capabilities, and malformed ones -/

/-- A refused CAPS is noted and answered with a NAK, and the link goes to INCOMPATIBLE (Table 6.2). -/
theorem State.capsRefused_holds (s : State) (c : Carrier) (tag code : Nat) :
    ((s.linkNak c 1 tag code).enterIncompatible c).linkState c = 6 ∧
      ((s.linkNak c 1 tag code).enterIncompatible c).get (F.LINK_LINK_COUNT.NAKS c) =
        min (F.LINK_LINK_COUNT.NAKS c).top (s.get (F.LINK_LINK_COUNT.NAKS c) + 1) ∧
      ((s.linkNak c 1 tag code).enterIncompatible c).flag 0x0E (18 + 8 * c.idx) = true ∧
      (((s.linkNak c 1 tag code).enterIncompatible c).link.at c).peer = (s.link.at c).peer ∧
      (((s.linkNak c 1 tag code).enterIncompatible c).link.at c).answered = some (tag, s.linkMsg c 1 3 tag (beBytes 1 code)) := by
  have hnaks := s.linkNak_naks c tag code
  have hlink : (s.linkNak c 1 tag code).link.at c =
      { s.link.at c with answered := some (tag, s.linkMsg c 1 3 tag (beBytes 1 code)) } := by
    rw [State.linkNak_caps, State.bump_link, State.linkAnswer_at]
  generalize s.linkNak c 1 tag code = t at hnaks hlink
  obtain ⟨own, held, hat⟩ := t.enter_at c 6
  have henter : t.enterIncompatible c = ((t.enter c 6).onLink c fun k => { k with capsTag := none }).mgrRaise c 2 := rfl
  have hafter : (t.enterIncompatible c).link.at c = { t.link.at c with own := own, held := held, capsTag := none } := by
    rw [henter, State.mgrRaise, State.raiseEvent_link, State.onLink_link, Duo.at_upd_same, hat]
  refine ⟨?_, ?_, State.mgrRaise_flag _ c (by decide), by rw [hafter, hlink], by rw [hafter, hlink]⟩
  · exact (State.raiseEvent_read _ _ _ _ (by cases c <;> decide)).trans (t.enter_linkState c 6)
  · rw [henter, State.mgrRaise, State.raiseEvent_read _ _ _ _ (by cases c <;> decide), State.onLink_get,
      t.enter_get c 6 (by cases c <;> decide) (by cases c <;> decide), hnaks]

/-- A violation is recorded while Plough runs (R141). -/
theorem State.linkViolation_running (hr : s.cpu = 2) (code : Nat) : s.linkViolation c code =
    ((s.bump (F.LINK_VIOLATION.COUNT c)).set (F.LINK_VIOLATION.LAST c) code).mgrRaise c 5 := managed_running hr _

/-- A malformed CAPS is violation 0x02, and its NAK is counted. -/
theorem State.capsMalformed_holds (hr : s.cpu = 2) :
    (s.linkMalformed c 1 tag).get (F.LINK_VIOLATION.COUNT c) =
        min (F.LINK_VIOLATION.COUNT c).top (s.get (F.LINK_VIOLATION.COUNT c) + 1) ∧
      (s.linkMalformed c 1 tag).get (F.LINK_VIOLATION.LAST c) = 2 ∧
      (s.linkMalformed c 1 tag).get (F.LINK_LINK_COUNT.NAKS c) =
        min (F.LINK_LINK_COUNT.NAKS c).top (s.get (F.LINK_LINK_COUNT.NAKS c) + 1) ∧
      (s.linkMalformed c 1 tag).flag 0x0E (21 + 8 * c.idx) = true ∧
      s.keepsRegs (s.linkMalformed c 1 tag) [R.LINK_VIOLATION c, R.LINK_LINK_COUNT c] := by
  let u := (s.bump (F.LINK_VIOLATION.COUNT c)).set (F.LINK_VIOLATION.LAST c) 2
  have hviolation : s.linkViolation c 2 = u.mgrRaise c 5 := State.linkViolation_running hr 2
  have hf : Frame (· ∈ [R.LINK_VIOLATION c]) s (s.linkViolation c 2) := by
    rw [hviolation]
    exact (((Frame.refl _ s).set (by cases c <;> decide)).set (by cases c <;> decide)).raiseEvent
  have hcount : (s.linkViolation c 2).get (F.LINK_VIOLATION.COUNT c) =
      min (F.LINK_VIOLATION.COUNT c).top (s.get (F.LINK_VIOLATION.COUNT c) + 1) := by
    rw [hviolation]
    exact (State.raiseEvent_read _ _ _ _ (by cases c <;> decide)).trans
      ((State.get_set_apart _ _ (by cases c <;> decide) (by cases c <;> decide) (by cases c <;> decide)).trans
        (State.get_bump_same _ _ _ (by cases c <;> decide) (by cases c <;> decide)))
  have hlast : (s.linkViolation c 2).get (F.LINK_VIOLATION.LAST c) = 2 := by
    rw [hviolation]
    exact (State.raiseEvent_read _ _ _ _ (by cases c <;> decide)).trans
      (State.get_set_same _ _ _ (by cases c <;> decide) (by cases c <;> decide))
  have hflag : (s.linkViolation c 2).flag 0x0E (21 + 8 * c.idx) = true := by
    rw [hviolation]
    exact State.mgrRaise_flag _ c (by decide)
  have hnak := linkNak_frame (s.linkViolation c 2) c tag 2
  refine ⟨(hnak.read (by cases c <;> decide)).trans hcount, (hnak.read (by cases c <;> decide)).trans hlast,
    ((s.linkViolation c 2).linkNak_naks c tag 2).trans ?_, ?_, ?_⟩
  · rw [hf.read (by cases c <;> decide)]
  · exact hnak.flags 0x0E _ (by decide) (by cases c <;> decide) hflag
  · exact ((hf.mono (W := (· ∈ [R.LINK_VIOLATION c, R.LINK_LINK_COUNT c])) fun _ ha => List.mem_cons.mpr (.inl (List.mem_singleton.mp ha))).trans
      (hnak.mono fun _ ha => List.mem_cons_of_mem _ ha)).keeps

/-! ### The CAPS_ACK with this end's agreed values -/

/-- The numbering role by NODE_ID (R112): 1 of the lower one, 2 of the higher. -/
def State.ackRole (s : State) (c : Carrier) : Nat :=
  let peer := ((s.link.at c).peer.map (·.node)).getD 0
  if s.nodeId < peer then 1 else if peer < s.nodeId then 2 else 0

theorem State.ackRole_lt (s : State) (c : Carrier) : s.ackRole c < 4 := by
  unfold State.ackRole
  dsimp only
  split_ifs <;> decide

/-- What agreed values write, first to last. -/
def State.agreedFields (s : State) (c : Carrier) (g : Agreed) : List (Fld × Nat) :=
  [(F.LINK_STATE.FRAME_MAJOR c, g.frame / 16), (F.LINK_STATE.FRAME_MINOR c, g.frame % 16), (F.LINK_STATE.WMP_MAJOR c, g.wmp / 16),
    (F.LINK_STATE.WMP_MINOR c, g.wmp % 16), (F.LINK_FEATURES.VALUE c, g.features), (F.LINK_STATE.BACKOFF c, 0),
    (F.LINK_NUMBERING.ROLE c, s.ackRole c)]

theorem State.applyAgreed_eq (s : State) (c : Carrier) (g : Agreed) : s.applyAgreed c g =
    ((s.setAll (s.agreedFields c g)).ttLapsed c).onLink c fun k => { k with capsTag := none, negotiated := k.peer.map (·.node) } := rfl

/-- The line transfer's turns in chapter 9 write no LINK word. -/
theorem ttLapsed_frame (s : State) (c : Carrier) (l : List Nat) : Frame (besideLink l) s (s.ttLapsed c) :=
  (show Above 0x780000 s (s.ttLapsed c) from (Frame.refl _ s).toTt.ite (Frame.refl _ s)).besideAbove

theorem ttAgreed_frame (s : State) (c : Carrier) (l : List Nat) : Frame (besideLink l) s (s.ttAgreed c) :=
  (show Above 0x780000 s (s.ttAgreed c) from (Frame.refl _ s).toTt.ite (Frame.refl _ s)).besideAbove

@[simp] theorem State.ttLapsed_link (s : State) (c : Carrier) : (s.ttLapsed c).link = s.link := by
  unfold State.ttLapsed
  split <;> simp

@[simp] theorem State.ttAgreed_link (s : State) (c : Carrier) : (s.ttAgreed c).link = s.link := by
  unfold State.ttAgreed
  split <;> simp

/-- Asking for entropies and adopting numbering write no register. -/
theorem takeE_frame {W : Nat → Prop} (s : State) (c : Carrier) : Frame W s (s.takeE c) := (Frame.refl W s).ite (Frame.refl W s).onLine

theorem markSlip_frame {W : Nat → Prop} (s : State) (c : Carrier) : Frame W s (s.markSlip c) := (Frame.refl W s).onTime.ite (Frame.refl W s)

theorem adopt_frame {W : Nat → Prop} (s : State) (c : Carrier) : Frame W s (s.adopt c) :=
  ((Frame.refl W s).onLine.trans (markSlip_frame _ c)).ite (Frame.refl W s)

@[simp] theorem State.takeE_link (s : State) (c : Carrier) : (s.takeE c).link = s.link := by
  unfold State.takeE
  split <;> simp

@[simp] theorem State.adopt_link (s : State) (c : Carrier) : (s.adopt c).link = s.link := by
  unfold State.adopt State.markSlip
  split_ifs <;> simp

/-- What entry to ALIGN does after the link state is set. -/
theorem enterAlign_frame (s : State) (c : Carrier) (l : List Nat) : Frame (besideLink l) (s.toLink c 3) (s.enterAlign c) := by
  unfold State.enterAlign
  dsimp only
  have h := ((ttAgreed_frame (s.toLink c 3) c l).onLink (c := c) (f := fun k => { k with eTaken := false })).onLine (c := c)
    (f := fun l => { l with jumped := false })
  exact ((h.trans (takeE_frame _ c)).trans (adopt_frame _ c)).ite (h.trans (takeE_frame _ c))

theorem State.enterAlign_at (s : State) (c : Carrier) : (s.enterAlign c).link.at c = { s.link.at c with eTaken := false } := by
  unfold State.enterAlign
  dsimp only
  split <;> simp

/-- The words that agreed values are written to. -/
def agreedWords (c : Carrier) : List Nat := [R.LINK_STATE c, R.LINK_FEATURES c, R.LINK_NUMBERING c]

theorem agreedFields_words (s : State) (c : Carrier) (g : Agreed) : ∀ p ∈ s.agreedFields c g, p.1.addr ∈ agreedWords c := by
  simp only [State.agreedFields, List.forall_mem_cons]
  cases c <;> exact ⟨by decide, by decide, by decide, by decide, by decide, by decide, by decide, nofun⟩

/-- Agreed values leave the link state. -/
theorem State.applyAgreed_linkState (s : State) (c : Carrier) (g : Agreed) : (s.applyAgreed c g).linkState c = s.linkState c :=
  ((ttLapsed_frame _ c []).readLink (by cases c <;> decide)).trans (State.get_setAll_apart s (s.agreedFields c g) (by cases c <;> rfl))

/-- What a CAPS_ACK with this end's agreed values does in NEGOTIATE, from the state with its message taken and the round trip noted. -/
theorem State.capsAcked_holds (s : State) (c : Carrier) (g : Agreed) :
    let t := (s.applyAgreed c g).enterAlign c
    t.linkState c = 3 ∧ t.get (F.LINK_STATE.FRAME_MAJOR c) = g.frame / 16 % 16 ∧ t.get (F.LINK_STATE.WMP_MAJOR c) = g.wmp / 16 % 16 ∧
      t.get (F.LINK_FEATURES.VALUE c) = g.features % 2 ^ 32 ∧ t.get (F.LINK_STATE.BACKOFF c) = 0 ∧
      t.get (F.LINK_RTT.RTT c) = s.get (F.LINK_RTT.RTT c) ∧ t.get (F.LINK_NUMBERING.ROLE c) = s.ackRole c ∧
      (t.link.at c).capsTag = none ∧ t.mem = s.mem := by
  let a := s.setAll (s.agreedFields c g)
  have hset : Frame (besideLink (agreedWords c)) s a := setAll_frame s _ fun p hp => .inl (agreedFields_words s c g p hp)
  have hlapsed : Frame (besideLink []) a (s.applyAgreed c g) := (ttLapsed_frame a c []).onLink
  have hafter := enterAlign_frame (s.applyAgreed c g) c []
  -- a LINK field apart from the link state reads what the agreed values wrote
  have hread {f : Fld} (hf : linkField [] f = true) (ha : apart f (F.LINK_STATE.STATE c) = true) :
      ((s.applyAgreed c g).enterAlign c).get f = a.get f :=
    (hafter.readLink hf).trans ((State.toLink_get _ c 3 hf ha).trans (hlapsed.readLink hf))
  have hmajor : a.get (F.LINK_STATE.FRAME_MAJOR c) = g.frame / 16 % 16 :=
    s.get_setAll [] ((s.agreedFields c g).drop 1) _ (by cases c <;> rfl) (by cases c <;> rfl)
  have hwmp : a.get (F.LINK_STATE.WMP_MAJOR c) = g.wmp / 16 % 16 :=
    s.get_setAll ((s.agreedFields c g).take 2) ((s.agreedFields c g).drop 3) _ (by cases c <;> rfl) (by cases c <;> rfl)
  have hfeatures : a.get (F.LINK_FEATURES.VALUE c) = g.features % 2 ^ 32 :=
    s.get_setAll ((s.agreedFields c g).take 4) ((s.agreedFields c g).drop 5) _ (by cases c <;> rfl) (by cases c <;> rfl)
  have hbackoff : a.get (F.LINK_STATE.BACKOFF c) = 0 % 2 ^ 3 :=
    s.get_setAll ((s.agreedFields c g).take 5) ((s.agreedFields c g).drop 6) _ (by cases c <;> rfl) (by cases c <;> rfl)
  have hrole : a.get (F.LINK_NUMBERING.ROLE c) = s.ackRole c % 2 ^ 2 :=
    s.get_setAll ((s.agreedFields c g).take 6) [] _ (by cases c <;> rfl) rfl
  have hout : ((s.applyAgreed c g).link.at c).capsTag = none := by
    rw [State.applyAgreed_eq, State.onLink_link, Duo.at_upd_same]
  refine ⟨(hafter.readLink (by cases c <;> decide)).trans (State.toLink_linkState _ c 3),
    (hread (by cases c <;> decide) (by cases c <;> decide)).trans hmajor,
    (hread (by cases c <;> decide) (by cases c <;> decide)).trans hwmp,
    (hread (by cases c <;> decide) (by cases c <;> decide)).trans hfeatures,
    (hread (by cases c <;> decide) (by cases c <;> decide)).trans hbackoff,
    (hread (by cases c <;> decide) (by cases c <;> decide)).trans (hset.readLink (by cases c <;> decide)),
    (hread (by cases c <;> decide) (by cases c <;> decide)).trans (hrole.trans (Nat.mod_eq_of_lt (s.ackRole_lt c))),
    ?_, (hafter.mem.trans (toLink_frame _ c 3).mem).trans (hlapsed.mem.trans hset.mem)⟩
  rw [State.enterAlign_at]
  exact hout

theorem exec_capsAckReceived {g : Agreed} {rtt : Nat} (hr : s.cpu = 2) (ht : (s.link.at c).capsTag = some tag)
    (hg : (s.link.at c).agreed = some g) (h2 : s.linkState c = 2) : exec (.capsAckReceived c tag g.body rtt) s =
      .next ((((s.mccTake c).setSat (F.LINK_RTT.RTT c) rtt).applyAgreed c g).enterAlign c) := by
  have htag : ((s.mccTake c).link.at c).capsTag = some tag := ht
  have hagreed : (((s.mccTake c).setSat (F.LINK_RTT.RTT c) rtt).link.at c).agreed = some g := hg
  have hstate : (((s.mccTake c).setSat (F.LINK_RTT.RTT c) rtt).applyAgreed c g).linkState c = 2 :=
    (State.applyAgreed_linkState _ c g).trans ((State.get_set_other _ _ (by cases c <;> decide)).trans h2)
  refine congrArg Host.Outcome.next ((managed_running hr _).trans ?_)
  dsimp only
  rw [if_neg (by simp [g.body_length]), if_neg (by simp [htag]), hagreed]
  dsimp only
  rw [State.capsAck, if_pos rfl]
  exact if_pos hstate

end

/-! ### The obligation -/

/-- Settles O26: a CAPS is followed through its noting, this end's own CAPS and the answer, or through the NAK to INCOMPATIBLE; a CAPS_ACK through the
agreed values' fields and the entry to ALIGN. -/
theorem capabilitiesAreSettledAlike : Obligations.CapabilitiesAreSettledAlike := by
  unfold Obligations.CapabilitiesAreSettledAlike
  refine ⟨agree_comm, ?_, ?_, ?_, ?_⟩
  case refine_1 =>
    intro s c tag body k g hr hst hans hack hk hagree hconf hjoint
    refine ⟨_, exec_capsReceived hr hans, ?_⟩
    rw [hk]
    dsimp only
    rw [if_pos (by simpa [or_assoc] using hst), State.capsReceived_accepted hagree hconf hjoint hack]
    exact s.capsAccepted_holds c tag k g
  case refine_2 =>
    intro s c tag body k hr hst hans hk hagree
    refine ⟨_, exec_capsReceived hr hans, ?_⟩
    rw [hk]
    dsimp only
    rw [if_pos (by simpa [or_assoc] using hst), State.capsReceived_refused hagree]
    obtain ⟨hstate, hnaks, hflag, hpeer, hanswered⟩ := ((s.mccTake c).peerCaps c k).capsRefused_holds c tag 0x0D
    have hkept : ((s.mccTake c).peerCaps c k).get (F.LINK_LINK_COUNT.NAKS c) = s.get (F.LINK_LINK_COUNT.NAKS c) :=
      (peerCaps_frame s c k).read (by cases c <;> decide)
    exact ⟨hstate, hnaks.trans (by rw [hkept]), hflag, hpeer.trans (by rw [State.peerCaps_at]), by rw [hanswered]; rfl⟩
  case refine_3 =>
    intro s c tag body hr hans hlen
    refine ⟨_, exec_capsReceived hr hans, ?_⟩
    rw [show capsOf body = none from if_pos hlen]
    exact State.capsMalformed_holds (s := s.mccTake c) hr
  case refine_4 =>
    rintro s c tag rtt body g hr ht hg rfl h2
    refine ⟨_, exec_capsAckReceived hr ht hg h2, ?_⟩
    obtain ⟨hstate, hframe, hwmp, hfeatures, hbackoff, hrtt, hrole, hout, hmem⟩ :=
      ((s.mccTake c).setSat (F.LINK_RTT.RTT c) rtt).capsAcked_holds c g
    exact ⟨hstate, hframe, hwmp, hfeatures, hbackoff,
      hrtt.trans (State.get_setSat_same _ _ _ (by cases c <;> decide) (by cases c <;> decide)), hrole, hout, hmem⟩

end Sys2Proof.Machine
end

section
/-!
SUPPORT. The line code (R104, R105): a block as encoded satisfies its checks.
-/
namespace Sys2Proof.Machine
open Sys2Proof

/-- Information bits are sent as they are. -/
theorem encodeBlock_info (code : Nat) (info : Chain) (t : Nat) {n : Nat} (h : n < infoBitsOf code) : encodeBlock code info t n = info t n :=
  if_pos h

/-- Behind the information bits lie the parity bits, group after group. -/
theorem encodeBlock_parity (code : Nat) (info : Chain) (t g : Nat) {z : Nat} (h : z < groupBits) :
    encodeBlock code info t (infoBitsOf code + groupBits * g + z) = parityBit code info t g z := by
  have hsub : infoBitsOf code + groupBits * g + z - infoBitsOf code = groupBits * g + z := by omega
  have hdiv : (groupBits * g + z) / groupBits = g := by
    rw [Nat.mul_add_div (by decide), Nat.div_eq_of_lt h, Nat.add_zero]
  have hmod : (groupBits * g + z) % groupBits = z := by
    rw [Nat.mul_add_mod, Nat.mod_eq_of_lt h]
  rw [encodeBlock, if_neg (by omega), hsub, hdiv, hmod]

/-- Bits of an information group are information bits. -/
theorem groupBit_lt {code c x : Nat} (h : c < infoGroups code) : groupBits * c + x % groupBits < infoBitsOf code := by
  have hx : x % groupBits < groupBits := Nat.mod_lt _ (by decide)
  calc groupBits * c + x % groupBits < groupBits * c + groupBits := Nat.add_lt_add_left hx _
    _ = groupBits * (c + 1) := rfl
    _ ≤ infoBitsOf code := Nat.mul_le_mul_left _ h

/-- The information part of a check sees information bits only, which the encoder leaves. -/
theorem checkInfo_encodeBlock (code : Nat) (info : Chain) (t r z : Nat) :
    checkInfo code (encodeBlock code info) t r z = checkInfo code info t r z := by
  unfold checkInfo
  refine congrArg xorAll (List.map_congr_left fun j _ => ?_)
  refine if_congr Iff.rfl rfl (congrArg xorAll (List.map_congr_left fun c hc => encodeBlock_info _ _ _ (groupBit_lt ?_)))
  exact List.mem_range.mp (List.mem_filter.mp hc).1

/-- A check of an encoded block is the sum of its parity bit's own equation with itself (R105). -/
theorem checkBit_encodeBlock (code : Nat) (info : Chain) (t r : Nat) {z : Nat} (h : z < groupBits) :
    checkBit code (encodeBlock code info) t r z = false := by
  unfold checkBit
  dsimp only
  rw [checkInfo_encodeBlock, encodeBlock_parity _ _ _ _ h, encodeBlock_parity _ _ _ _ h]
  cases r with
  | zero => rw [if_pos rfl, parityBit, Bool.xor_false, Bool.xor_self]
  | succ g =>
    rw [if_neg (Nat.succ_ne_zero g), parityBit, Nat.add_sub_cancel, Bool.xor_assoc, Bool.xor_self, Bool.xor_false, Bool.xor_self]

end Sys2Proof.Machine
end

section
/-!
SUPPORT. A good overhead (R99, R100): all that is made of it leaves the word of OH_GOOD, but for multiframe lock, and the count of corrected bytes.
-/
-- An argument that a tactic fills waits for all declarations before it: elaborated in parallel, such proofs would each hold a thread.
set_option Elab.async false

namespace Sys2Proof.Machine
open Sys2Proof

/-- The words other than the alignment status and the corrected bytes of a carrier. -/
abbrev offOverhead (c : Carrier) (a : Nat) : Prop := a ≠ R.LINK_ALIGN_STATUS c ∧ a ≠ R.LINK_OH_CORR c

/-- OH_GOOD and the count of corrected bytes stay. -/
def OverheadKept (c : Carrier) (s t : State) : Prop :=
  t.get (F.LINK_ALIGN_STATUS.OH_GOOD c) = s.get (F.LINK_ALIGN_STATUS.OH_GOOD c) ∧ t.get (F.LINK_OH_CORR.BYTES c) = s.get (F.LINK_OH_CORR.BYTES c)

section
variable {c : Carrier} {s t u : State}

theorem OverheadKept.refl (c : Carrier) (s : State) : OverheadKept c s s := ⟨rfl, rfl⟩

theorem OverheadKept.trans (h : OverheadKept c s t) (k : OverheadKept c t u) : OverheadKept c s u := ⟨k.1.trans h.1, k.2.trans h.2⟩

theorem OverheadKept.of_frame (h : Frame (offOverhead c) s t) : OverheadKept c s t :=
  ⟨h.get (by cases c <;> exact ⟨by decide, by decide⟩) fun hw => hw.1 rfl,
    h.get (by cases c <;> exact ⟨by decide, by decide⟩) fun hw => hw.2 rfl⟩

theorem OverheadKept.ite {p : Prop} [Decidable p] (ht : OverheadKept c s t) (hu : OverheadKept c s u) : OverheadKept c s (if p then t else u) := by
  split <;> assumption

/-- The lock of multiframes is another bit of the same word. -/
theorem OverheadKept.setLock (s : State) (c : Carrier) (v : Nat) : OverheadKept c s (s.set (F.LINK_ALIGN_STATUS.MF_LOCK c) v) :=
  ⟨State.get_set_apart _ _ (Nat.le_refl 4) (by decide : 4 < 32) (by cases c <;> decide), State.get_set_other _ _ (by cases c <;> decide)⟩

/-- Words of the link manager, and those outside the LINK block. -/
theorem Frame.offOverhead {l : List Nat} (h : Frame (besideLink l) s t) (hl : l ⊆ linkWords c := by simp) : Frame (offOverhead c) s t := by
  refine h.mono fun a ha => ?_
  have hout (x : Nat) (hx : (0x700000 ≤ x ∧ x < 0x780000) ∧ x ∉ linkWords c) : a ≠ x := by
    rintro rfl
    rcases ha with hm | ho
    · exact hx.2 (hl hm)
    · omega
  exact ⟨hout _ (by cases c <;> decide), hout _ (by cases c <;> decide)⟩

end

/-! ### Multiframe numbering (R111) -/

section
variable (s : State) (c : Carrier)

theorem mfLost_overhead : OverheadKept c s (s.mfLost c) := by
  have h0 : Frame (offOverhead c) s (s.onLine c fun l => { l with last := none, run := 0, wrong := 0, rxSlip := 0, corrMf := 0, uncMf := false }) :=
    (Frame.refl _ s).onLine
  exact OverheadKept.ite ((OverheadKept.of_frame h0).trans ((OverheadKept.setLock _ c 0).trans (.of_frame (Frame.refl _ _).frameRaise)))
    (.of_frame h0)

theorem mfHunt_overhead (n : Nat) : OverheadKept c s (s.mfHunt c n) := by
  unfold State.mfHunt
  extract_lets l crosses run ended s1
  have h1 : OverheadKept c s s1 := .of_frame (Frame.refl _ s).onLine
  clear_value s1
  split
  · have h2 : OverheadKept c s1 ((s1.set (F.LINK_ALIGN_STATUS.MF_LOCK c) 1).set (F.LINK_RX_FRAME.VALUE c) n) :=
      (OverheadKept.setLock s1 c 1).trans (.of_frame ((Frame.refl _ _).set (by cases c <;> decide)))
    exact (h1.trans h2).trans (.of_frame (Frame.refl _ _).onLine.frameRaise)
  · exact h1

/-- The expected number advances, and a wrong one is counted, outside the word of OH_GOOD; only a loss of lock and a new hunt write there. -/
theorem mfTrack_overhead (good : Option Nat) : OverheadKept c s (s.mfTrack c good) := by
  unfold State.mfTrack
  split
  · split
    · exact mfHunt_overhead s c _
    · exact OverheadKept.refl c s
  · extract_lets l was e boundary jumping s1 s2
    have h1 : OverheadKept c s s1 := .of_frame ((Frame.refl _ s).set (by cases c <;> decide))
    have h2 : OverheadKept c s s2 := h1.trans (.of_frame ((Frame.refl _ s1).onLine.ite (Frame.refl _ s1)))
    clear_value s2
    split
    · exact h2
    · split_ifs
      · exact h2.trans (.of_frame ((Frame.refl _ s2).set (by cases c <;> decide)).onLine)
      · exact h2.trans (.of_frame (Frame.refl _ s2).onLine)
      · exact h2.trans (.of_frame (Frame.refl _ s2).onLine)
      · exact h2.trans ((mfLost_overhead s2 c).trans (mfHunt_overhead _ c _))

end

/-! ### The peer's fields, and alignment of blocks -/

section
variable {s0 s : State} {c : Carrier}

theorem peerSnr_off (c : Carrier) {k : Nat} (h : k < 16) : offOverhead c (R.LINK_PEER_SNR c k) := by
  cases c <;> simp only [offOverhead, R.LINK_PEER_SNR, R.LINK_ALIGN_STATUS, R.LINK_OH_CORR, Carrier.idx] <;> omega

/-- The words of the peer's fields but for its SNR. -/
def peerWords (c : Carrier) : List Nat :=
  [R.LINK_PEER_CFG c, R.LINK_PEER_NODE c, R.LINK_PEER_EPOCH c, R.LINK_PEER_SW c, R.LINK_PEER_SNR_SEQ c]

theorem peerWords_off (c : Carrier) : ∀ a ∈ peerWords c, offOverhead c a := by
  cases c <;> decide

theorem peerFields_off (h : Frame (offOverhead c) s0 s) (oh : List Byte) : Frame (offOverhead c) s0 (s.peerFields c oh) := by
  have hset {t : State} (ht : Frame (offOverhead c) s0 t) {f : Fld} {v : Nat} (hf : f.addr ∈ peerWords c) :
      Frame (offOverhead c) s0 (t.set f v) := ht.set (peerWords_off c _ hf)
  unfold State.peerFields
  extract_lets f s1 s2 s3 s4 s5 s6
  have h1 : Frame (offOverhead c) s0 s1 := h.frameRaise.ite h
  have h2 : Frame (offOverhead c) s0 s2 := hset (hset h1 (by simp [peerWords, F.LINK_PEER_CFG.VERSION])) (by simp [peerWords, F.LINK_PEER_CFG.CONFIG])
  have h3 : Frame (offOverhead c) s0 s3 :=
    hset (hset h2 (by simp [peerWords, F.LINK_PEER_CFG.DEFECTS])) (by simp [peerWords, F.LINK_PEER_CFG.NUMBERING])
  have h4 : Frame (offOverhead c) s0 s4 :=
    hset (hset h3 (by simp [peerWords, F.LINK_PEER_NODE.VALUE])) (by simp [peerWords, F.LINK_PEER_EPOCH.VALUE])
  have h5 : Frame (offOverhead c) s0 s5 := hset (hset (hset h4 (by simp [peerWords, F.LINK_PEER_SW.SW_MF]))
    (by simp [peerWords, F.LINK_PEER_SW.TYPE])) (by simp [peerWords, F.LINK_PEER_SW.ARMED])
  have h6 : Frame (offOverhead c) s0 s6 :=
    hset (hset h5 (by simp [peerWords, F.LINK_PEER_SNR_SEQ.SEQ])) (by simp [peerWords, F.LINK_PEER_SNR_SEQ.VALID])
  exact h6.foldl fun _ k hk ht => (ht.set (peerSnr_off c (List.mem_range.mp hk))).set (peerSnr_off c (List.mem_range.mp hk))

theorem blockAlign_off (h : Frame (offOverhead c) s0 s) (ptr : Nat) : Frame (offOverhead c) s0 (s.blockAlign c ptr) :=
  h.onLine.set (by cases c <;> decide)

theorem linkViolation_off (h : Frame (offOverhead c) s0 s) (code : Nat) : Frame (offOverhead c) s0 (s.linkViolation c code) :=
  Frame.ite ((h.set (by cases c <;> decide)).set (by cases c <;> decide)).raiseEvent h

/-! ### Announced changes (R116, R138) -/

theorem setHeld_off (h : Frame (offOverhead c) s0 s) (kind : Nat) (p : Option Proposal) : Frame (offOverhead c) s0 (s.setHeld c kind p) :=
  h.onLink.trans ((showCommit_frame _ c).besideOf (l := [R.LINK_COMMIT c]) (List.Subset.refl _) |>.offOverhead (by simp [linkWords]))

theorem commitAbort_off (h : Frame (offOverhead c) s0 s) : Frame (offOverhead c) s0 (s.commitAbort c) :=
  (h.set (by cases c <;> decide)).raiseEvent

theorem rxStepArm_off (h : Frame (offOverhead c) s0 s) (m : Nat) : Frame (offOverhead c) s0 (s.rxStepArm c m) :=
  ((h.set (by cases c <;> decide)).set (by cases c <;> decide)).onLine.set (by cases c <;> decide)

theorem replanCommit_off (h : Frame (offOverhead c) s0 s) (m : Nat) : Frame (offOverhead c) s0 (s.replanCommit c m) :=
  Frame.ite (((h.set (by cases c <;> decide)).set (by cases c <;> decide)).raise) h

theorem armHeld_off (h : Frame (offOverhead c) s0 s) (kind : Nat) : Frame (offOverhead c) s0 (s.armHeld c kind) := by
  unfold State.armHeld
  split
  · exact h
  next p _ =>
    have hr := replanCommit_off h p.m
    dsimp only
    split_ifs
    · exact h
    · exact h
    · exact (setHeld_off (rxStepArm_off h p.m) ..).raiseEvent
    · exact (setHeld_off h ..).raiseEvent
    · exact h
    · exact setHeld_off h ..
    · exact (setHeld_off hr ..).raiseEvent
    · exact commitAbort_off (setHeld_off hr ..)

/-- What the managers do, they do while Plough runs. -/
theorem managed_off (h : Frame (offOverhead c) s0 s) {k : State → State} (hk : Frame (offOverhead c) s0 (k s)) :
    Frame (offOverhead c) s0 (s.managed k) := hk.ite h

theorem announced_off (h : Frame (offOverhead c) s0 s) (oh : List Byte) : Frame (offOverhead c) s0 (s.announced c oh) := by
  unfold State.announced
  extract_lets ctrl m fresh targets s1 here s2 accepted s3 freshPlan r1 acceptedPlan r2
  have h2 : Frame (offOverhead c) s0 s2 := h.onLine.frameRaise.ite h.onLine
  have h3 : Frame (offOverhead c) s0 s3 := h2.onLine.set (by cases c <;> decide)
  have hr1 : Frame (offOverhead c) s0 r1 := h.onLine
  have hr2 : Frame (offOverhead c) s0 r2 := hr1.frameRaise.ite hr1
  clear_value s3 s2 r2 r1
  split_ifs
  · exact h
  · exact managed_off h3 (armHeld_off h3 2)
  · exact h3
  · exact managed_off h2 (armHeld_off h2 2)
  · exact managed_off h2 (rxStepArm_off h2 m)
  · exact linkViolation_off h2 _
  · exact h2
  · exact hr1
  · exact managed_off hr2 (armHeld_off hr2 1)
  · exact linkViolation_off hr2 _
  · exact hr2
  · exact h

/-! ### The managers' checks of a good overhead (Tables 6.2 and 6.7) -/

theorem enterNegotiate_off (h : Frame (offOverhead c) s0 s) : Frame (offOverhead c) s0 (s.enterNegotiate c) :=
  h.trans ((enterNegotiate_frame s c).offOverhead (List.Subset.refl _))

theorem enterIncompatible_off (h : Frame (offOverhead c) s0 s) : Frame (offOverhead c) s0 (s.enterIncompatible c) :=
  (h.trans ((enter_frame s c 6).offOverhead (List.Subset.refl _))).onLink.raiseEvent

theorem peerChecks_off (h : Frame (offOverhead c) s0 s) (oh : List Byte) (node0 : Nat) :
    Frame (offOverhead c) s0 (s.peerChecks c oh node0) := by
  unfold State.peerChecks
  extract_lets f node st s1 own e l s2
  have h1 : Frame (offOverhead c) s0 s1 := (linkViolation_off (h.set (by cases c <;> decide)) _).ite h
  clear_value s1
  split_ifs
  · exact h1
  · exact enterNegotiate_off h1.raiseEvent
  · exact enterIncompatible_off (linkViolation_off h1 _)
  · exact (h1.ite (linkViolation_off h1 _)).onLine
  · exact h1

/-! ### The whole of a good overhead -/

theorem stampArrival_off (h : Frame (offOverhead c) s0 s) (number : Nat) : Frame (offOverhead c) s0 (s.stampArrival c number) := h.onLine.ite h

theorem transferArrival_off (h : Frame (offOverhead c) s0 s) (number : Nat) (oh : List Byte) :
    Frame (offOverhead c) s0 (s.transferArrival c number oh) := h.onTime.ite h

/-- A good overhead leaves OH_GOOD and the count of corrected bytes, which were written before it is looked at. -/
theorem goodOverhead_overhead (s : State) (c : Carrier) (bytes : List Byte) : OverheadKept c s (s.goodOverhead c bytes) := by
  unfold State.goodOverhead
  extract_lets v oh number node0 strange s1 slip s2 s3 s4 s5 e b s6 s7
  have htrack : OverheadKept c s s1 := mfTrack_overhead s c (some number)
  clear_value s1
  have h2 : Frame (offOverhead c) s1 s2 := (Frame.refl _ s1).onLine.raise.ite (Frame.refl _ s1)
  have h3 : Frame (offOverhead c) s1 s3 := (blockAlign_off h2 _).ite h2
  have h4 : Frame (offOverhead c) s1 s4 := peerFields_off h3 _
  have h5 : Frame (offOverhead c) s1 s5 := (linkViolation_off h4.onLine _).ite h4
  have h7 : Frame (offOverhead c) s1 s7 := transferArrival_off (stampArrival_off h5.onLine _) ..
  clear_value s7
  have hann := announced_off h7 oh
  exact htrack.trans (.of_frame (managed_off hann (peerChecks_off hann oh node0)).onLine)

end

end Sys2Proof.Machine
end

section
/-!
SUPPORT and statement. Frames sent, multiframe numbers, received overhead, management cells and the line code (R99 to R105, R112, R113).
-/
-- An argument that a tactic fills waits for all declarations before it: elaborated in parallel, such proofs would each hold a thread.
set_option Elab.async false

namespace Sys2Proof.Machine
open Sys2Proof

/-- The registers alone say what a field reads. -/
theorem State.get_of_regs {s t : State} (h : t.regs = s.regs) (f : Fld) : t.get f = s.get f :=
  congrArg (fun r => bitsOf (Store.read resetWord r f.addr) f.hi f.lo) h

/-! ### Frames sent (R101) -/

/-- The number of the next frame: one more, unless a multiframe has just begun. -/
def State.frameNumber (s : State) (c : Carrier) : Nat :=
  if (s.line.at c).fresh then s.get (F.LINK_TX_FRAME.VALUE c) else (s.get (F.LINK_TX_FRAME.VALUE c) + 1) % 2 ^ 32

theorem State.frameNumber_lt (s : State) (c : Carrier) : s.frameNumber c < 2 ^ 32 := by
  unfold State.frameNumber
  split
  · exact bitsOf_lt _ 31 0
  · exact Nat.mod_lt _ (by decide)

theorem recordDeparture_frame {W : Nat → Prop} (s : State) (c : Carrier) (number : Nat) : Frame W s (s.recordDeparture c number) :=
  (Frame.refl W s).onTime.ite (Frame.refl W s)

@[simp] theorem State.recordDeparture_sent (s : State) (c : Carrier) (number : Nat) : (s.recordDeparture c number).sent = s.sent := by
  unfold State.recordDeparture
  split <;> simp

/-- A frame of an enabled carrier: numbered, its defects shown, one overhead sent. -/
theorem State.sendFrame_holds {s : State} {c : Carrier} (h : s.on (F.LINE_TX_CTRL.ENABLED c) = true) :
    (s.sendFrame c).get (F.LINK_TX_FRAME.VALUE c) = s.frameNumber c ∧ ((s.sendFrame c).line.at c).fresh = false ∧
      ((s.sendFrame c).line.at c).frames = (s.line.at c).frames + 1 ∧ (s.sendFrame c).sent.length = s.sent.length + 1 ∧
      Frame (· ∈ [R.LINK_TX_FRAME c, R.LINK_DEFECTS c]) s (s.sendFrame c) := by
  unfold State.sendFrame
  rw [if_pos h]
  extract_lets l now number s1 oh s2 s3 bits es
  have hnumber : s1.get (F.LINK_TX_FRAME.VALUE c) = s.frameNumber c :=
    (State.get_set_other _ _ (by cases c <;> decide)).trans
      ((State.get_set_same _ _ _ (Nat.zero_le _) (by decide : 31 < 32)).trans (Nat.mod_eq_of_lt (s.frameNumber_lt c)))
  have hf : Frame (· ∈ [R.LINK_TX_FRAME c, R.LINK_DEFECTS c]) s s1 :=
    ((Frame.refl _ s).set (by cases c <;> decide)).set (by cases c <;> decide)
  have hsent : s1.sent = s.sent := (State.set_sent ..).trans (State.set_sent ..)
  clear_value s1
  have hrest {W : Nat → Prop} : Frame W s1 s3 := (Frame.refl W s1).send.trans (recordDeparture_frame ..)
  have hlen : s3.sent.length = s1.sent.length + 1 := congrArg List.length (State.recordDeparture_sent s2 c number)
  clear_value s3
  rw [State.onLine_get, State.onLine_line, State.onLine_sent, Duo.at_upd_same]
  exact ⟨((hrest (W := fun _ => False)).get (by cases c <;> exact ⟨by decide, by decide⟩) id).trans hnumber, rfl, rfl,
    hlen.trans (by rw [hsent]), (hf.trans hrest).onLine⟩

/-! ### Multiframe numbers (R112) -/

@[simp] theorem State.allWords_regs (s : State) (c : Carrier) (cap words : Nat) : (s.allWords c cap words).2.regs = s.regs := by
  unfold State.allWords
  split
  · rfl
  · exact List.foldlRecOn (motive := fun acc : List (List Nat × List (BitVec 128)) × State => acc.2.regs = s.regs) _ _ rfl
      fun _ ht _ _ => ht

@[simp] theorem State.endMf_regs (s : State) (c : Carrier) : (s.endMf c).regs = s.regs := by
  unfold State.endMf
  dsimp only
  split
  · rfl
  · exact State.allWords_regs ..

@[simp] theorem State.entriesRemade_regs (s : State) : s.entriesRemade.regs = s.regs :=
  List.foldlRecOn (motive := fun t : State => t.regs = s.regs) s.mem.stale _ rfl fun _ ht _ _ => ht

theorem State.nextMf_lt (s : State) (c : Carrier) : s.nextMf c < 2 ^ 24 := by
  have htx : s.txMf c < 2 ^ 24 := Nat.div_lt_of_lt_mul (bitsOf_lt _ 31 0)
  have hrx : s.rxMf c < 2 ^ 24 := Nat.div_lt_of_lt_mul (bitsOf_lt _ 31 0)
  unfold State.nextMf
  dsimp only
  split
  · exact htx
  · split
    · exact Nat.mod_lt _ (by decide)
    · exact htx
    · exact hrx
    · exact Nat.mod_lt _ (by decide)

/-- What begins with a transmit multiframe: its number, W of the one that ends, and a frame that is the first of it. -/
theorem State.startMf_holds (s : State) (c : Carrier) : (s.startMf c).txMf c = s.nextMf c ∧
    (s.startMf c).get (F.LINK_MF_WORDS.W c) = min (F.LINK_MF_WORDS.W c).top (s.mfWords c) ∧ ((s.startMf c).line.at c).fresh = true := by
  unfold State.startMf
  extract_lets l jump slipped mf s1 s2 s3 s4 first s5 d s6 l6
  have hwords : s2.get (F.LINK_MF_WORDS.W c) = min (F.LINK_MF_WORDS.W c).top (s.mfWords c) := by
    have hs1 : s1.regs = (s.setSat (F.LINK_MF_WORDS.W c) (s.mfWords c)).regs := (State.entriesRemade_regs _).trans (State.endMf_regs _ c)
    exact (State.get_set_other _ _ (by cases c <;> decide)).trans
      ((State.get_of_regs hs1 _).trans (State.get_setSat_same _ _ _ (by cases c <;> decide) (by cases c <;> decide)))
  have hnumber : s2.get (F.LINK_TX_FRAME.VALUE c) = mf * 256 :=
    (State.get_set_same _ _ _ (Nat.zero_le _) (by decide : 31 < 32)).trans
      (Nat.mod_eq_of_lt (show mf * 256 < 2 ^ 32 from Nat.mul_lt_mul_of_pos_right (s.nextMf_lt c) (by decide)))
  clear_value s2
  have h4 : Frame (· ∈ [R.LINK_NUMBERING c]) s2 s4 :=
    ((Frame.refl _ s2).raise.ite (Frame.refl _ s2)).trans (((Frame.refl _ s3).set (by cases c <;> decide)).ite (Frame.refl _ s3))
  clear_value s4
  have h6 : Frame (· ∈ [R.LINK_NUMBERING c]) s2 s6 := h4.onLine.set (by cases c <;> decide)
  have hfresh : (s6.line.at c).fresh = true := by
    rw [State.setS_line, State.onLine_line, Duo.at_upd_same]
  clear_value s6
  have hslip (v : Nat) : ((s6.onLine c fun l => { l with slip := v }).line.at c).fresh = true := by
    rw [State.onLine_line, Duo.at_upd_same]
    exact hfresh
  have hmf : s6.get (F.LINK_TX_FRAME.VALUE c) / 256 = mf := by
    rw [h6.read (by cases c <;> decide), hnumber, Nat.mul_div_cancel _ (by decide)]
  have hW := (h6.read (by cases c <;> decide)).trans hwords
  split_ifs
  · exact ⟨hmf, hW, hslip 1⟩
  · exact ⟨hmf, hW, hslip 2⟩
  · exact ⟨hmf, hW, hfresh⟩
  · exact ⟨hmf, hW, hfresh⟩

@[simp] theorem State.showCommit_line (s : State) (c : Carrier) : (s.showCommit c).line = s.line := by
  unfold State.showCommit
  dsimp only
  split <;> simp

theorem setHeld_frame (s : State) (c : Carrier) (kind : Nat) (p : Option Proposal) : Frame (· ∈ [R.LINK_COMMIT c]) s (s.setHeld c kind p) :=
  (Frame.refl _ s).onLink.trans (showCommit_frame _ c)

/-- A change held with SOLE = 1 is released once its multiframe has passed (R138). -/
def State.soleReleased (s : State) (c : Carrier) : State :=
  match kindOf (s.link.at c).held 1 with
  | some p => if p.cstate = 4 && !mfAtLeast p.m (s.txMf c) 1 then s.setHeld c 1 none else s
  | none => s

theorem exec_txMultiframeStart (s : State) (c : Carrier) : exec (.txMultiframeStart c) s = .next ((s.startMf c).soleReleased c) := rfl

theorem soleReleased_frame (s : State) (c : Carrier) : Frame (· ∈ [R.LINK_COMMIT c]) s (s.soleReleased c) := by
  unfold State.soleReleased
  split
  · exact (setHeld_frame s c 1 none).ite (Frame.refl _ s)
  · exact Frame.refl _ s

@[simp] theorem State.soleReleased_line (s : State) (c : Carrier) : (s.soleReleased c).line = s.line := by
  unfold State.soleReleased
  split
  · split
    · exact (State.showCommit_line ..).trans (State.onLink_line ..)
    · rfl
  · rfl

/-! ### Adopted numbering (R112) -/

@[simp] theorem State.markSlip_line (s : State) (c : Carrier) : (s.markSlip c).line = s.line := by
  unfold State.markSlip
  split <;> simp

theorem State.adopt_adopter {s : State} {c : Carrier} (hrole : s.get (F.LINK_NUMBERING.ROLE c) = 2)
    (hmajor : 2 ≤ s.get (F.LINK_STATE.FRAME_MAJOR c)) :
    s.adopt c = (s.onLine c fun l => { l with slip := 3, adopted := false }).markSlip c := if_pos (by simp [hrole, hmajor])

/-! ### Received overhead (R99, R100) -/

/-- An overhead that does not decode moves the expected number only. -/
theorem mfTrack_none_frame (s : State) (c : Carrier) : Frame (· ∈ [R.LINK_RX_FRAME c]) s (s.mfTrack c none) := by
  unfold State.mfTrack
  split
  · exact Frame.refl _ s
  · have h1 : Frame (· ∈ [R.LINK_RX_FRAME c]) s (s.set (F.LINK_RX_FRAME.VALUE c) (nextNumber (s.line.at c).rxSlip (s.get (F.LINK_RX_FRAME.VALUE c)))) :=
      (Frame.refl _ s).set (List.mem_singleton_self _)
    exact h1.onLine.ite h1

theorem State.mfTrack_none_asm (s : State) (c : Carrier) : ((s.mfTrack c none).line.at c).asm = (s.line.at c).asm := by
  unfold State.mfTrack
  split
  · rfl
  · dsimp only
    split
    · rw [State.onLine_line, State.set_line, Duo.at_upd_same]
    · rw [State.set_line]

theorem transferBad_frame {W : Nat → Prop} (s : State) (c : Carrier) : Frame W s (s.transferBad c) := (Frame.refl W s).onTime.ite (Frame.refl W s)

@[simp] theorem State.transferBad_line (s : State) (c : Carrier) : (s.transferBad c).line = s.line := by
  unfold State.transferBad
  split <;> simp

/-- In frame an overhead that does not decode is counted, and drops the message in assembly (R113). -/
theorem State.overheadIn_bad {s : State} {c : Carrier} {bytes : List Byte} (ha : s.alignState c = 2) (hd : overheadDecode bytes = none) :
    (s.overheadIn c bytes).on (F.LINK_ALIGN_STATUS.OH_GOOD c) = false ∧
      (s.overheadIn c bytes).get (F.LINK_OH_COUNT.OH_UNCORR c) =
        min (F.LINK_OH_COUNT.OH_UNCORR c).top (s.get (F.LINK_OH_COUNT.OH_UNCORR c) + 1) ∧
      ((s.overheadIn c bytes).line.at c).asm = none ∧ (s.overheadIn c bytes).mem = s.mem := by
  rw [State.overheadIn, if_neg (not_not_intro ha), hd]
  extract_lets l s1 s2 s3
  have hgood : s1.on (F.LINK_ALIGN_STATUS.OH_GOOD c) = false :=
    (State.on_of_get (State.get_set_other _ _ (by cases c <;> decide))).trans
      (State.on_set_zero _ _ (by cases c <;> decide) (by cases c <;> decide))
  have hcount : s1.get (F.LINK_OH_COUNT.OH_UNCORR c) =
      min (F.LINK_OH_COUNT.OH_UNCORR c).top (s.get (F.LINK_OH_COUNT.OH_UNCORR c) + 1) := by
    have hkept : (s.set (F.LINK_ALIGN_STATUS.OH_GOOD c) 0).get (F.LINK_OH_COUNT.OH_UNCORR c) = s.get (F.LINK_OH_COUNT.OH_UNCORR c) :=
      State.get_set_other _ _ (by cases c <;> decide)
    exact (State.get_bump_same _ _ _ (by cases c <;> decide) (by cases c <;> decide)).trans (by rw [hkept])
  have hmem : s1.mem = s.mem := (State.bump_mem ..).trans (State.set_mem ..)
  clear_value s1
  have h3 : Frame (· ∈ [R.LINK_MCC_COUNT c, R.LINK_RX_FRAME c]) s1 s3 :=
    ((Frame.refl _ s1).ite (Frame.refl _ s1).frameRaise).trans (((Frame.refl _ s2).set (by cases c <;> decide)).ite (Frame.refl _ s2))
  clear_value s3
  let s4 := s3.onLine c fun l => { l with ohMf := true, asm := none }
  have hasm : (s4.line.at c).asm = none := by rw [State.onLine_line, Duo.at_upd_same]
  have htrack : Frame (· ∈ [R.LINK_MCC_COUNT c, R.LINK_RX_FRAME c]) s4 (s4.mfTrack c none) :=
    (mfTrack_none_frame s4 c).mono fun _ ha => List.mem_cons_of_mem _ ha
  have hall : Frame (· ∈ [R.LINK_MCC_COUNT c, R.LINK_RX_FRAME c]) s1 (((s4.mfTrack c none).transferBad c).logFrame c none) :=
    (h3.onLine.trans (htrack.trans (transferBad_frame _ c))).onLine
  refine ⟨(State.on_of_get (hall.read (by cases c <;> decide))).trans hgood, (hall.read (by cases c <;> decide)).trans hcount, ?_,
    hall.mem.trans hmem⟩
  rw [State.logFrame, State.onLine_line, Duo.at_upd_same, State.transferBad_line]
  exact (s4.mfTrack_none_asm c).trans hasm

/-- In frame an overhead that decodes adds its corrected bytes and is good. -/
theorem State.overheadIn_good {s : State} {c : Carrier} {n : Nat} {bytes info : List Byte} (ha : s.alignState c = 2)
    (hd : overheadDecode bytes = some (info, n)) :
    (s.overheadIn c bytes).on (F.LINK_ALIGN_STATUS.OH_GOOD c) = true ∧
      (s.overheadIn c bytes).get (F.LINK_OH_CORR.BYTES c) = min (F.LINK_OH_CORR.BYTES c).top (s.get (F.LINK_OH_CORR.BYTES c) + n) := by
  rw [State.overheadIn, if_neg (not_not_intro ha), hd]
  let s1 := s.setSat (F.LINK_OH_CORR.BYTES c) (s.get (F.LINK_OH_CORR.BYTES c) + n)
  have hcount : s1.get (F.LINK_OH_CORR.BYTES c) = _ := State.get_setSat_same s _ _ (Nat.zero_le _) (by decide : 31 < 32)
  obtain ⟨hgood, hbytes⟩ := goodOverhead_overhead (s1.set (F.LINK_ALIGN_STATUS.OH_GOOD c) 1) c info
  exact ⟨(State.on_of_get hgood).trans (s1.on_setB_same (F.LINK_ALIGN_STATUS.OH_GOOD c) true rfl (by decide : 5 < 32)),
    hbytes.trans ((State.get_set_other _ _ (by cases c <;> decide)).trans hcount)⟩

/-! ### Cells of the management channel (R113) -/

theorem State.cellIn_invalid {s : State} {cell : List Byte} (c : Carrier) (h : (nth cell 0 0).toNat < 0x80) : s.cellIn c cell = s := if_pos h

theorem State.asmDrop_none {s : State} {c : Carrier} (h : (s.line.at c).asm = none) : s.asmDrop c = s := if_neg (by simp [h])

/-- A cell that starts a message, with others to follow, begins its assembly. -/
theorem State.cellIn_starts {s : State} {c : Carrier} {cell : List Byte} (hctrl : (nth cell 0 0).toNat = 0xC0) (hlo : 1 ≤ (nth cell 2 0).toNat)
    (hhi : (nth cell 2 0).toNat ≤ 28) (hroom : cellsHeld (s.line.at c).rxMsgs < 64) (hasm : (s.line.at c).asm = none)
    (hseq : (s.line.at c).rxSeq = none) : s.cellIn c cell =
      (s.onLine c fun l => { l with rxSeq := some (nth cell 1 0).toNat }).onLine c fun l =>
        { l with asm := some (slice cell 4 (nth cell 2 0).toNat) } := by
  have hlen : (slice cell 4 (nth cell 2 0).toNat).length ≤ 28 := (List.length_take_le _ _).trans hhi
  unfold State.cellIn
  extract_lets ctrl seq len l gap s1 s2 som s3 before
  have hnone : (s1.line.at c).asm = none := by
    rw [State.onLine_line, Duo.at_upd_same]
    exact hasm
  have hsom : som := by
    change (nth cell 0 0).toNat / 0x40 % 2 = 1
    rw [hctrl]
  have hs2 : s2 = s1 := if_neg (by simp [gap, l, hseq])
  have hs3 : s3 = s1 := (if_pos hsom).trans (by rw [hs2, State.asmDrop_none hnone])
  have hbefore : before = some [] := if_pos hsom
  rw [if_neg (show ¬ (nth cell 0 0).toNat < 0x80 by omega), if_neg (Nat.not_le.mpr hroom),
    if_neg (show ¬ ((nth cell 2 0).toNat = 0 ∨ 28 < (nth cell 2 0).toNat) by omega), hbefore, hs3]
  dsimp only
  rw [List.nil_append, if_neg (Nat.not_lt.mpr (hlen.trans (by decide : 28 ≤ 2048))), if_neg (by rw [show ctrl = 0xC0 from hctrl]; decide)]

/-! ### The obligation -/

/-- Settles O23: each command's parts above, and of the line code that a check of an encoded block meets its parity bit's own equation. -/
theorem framesNumbersAndCells : Obligations.FramesNumbersAndCells := by
  unfold Obligations.FramesNumbersAndCells
  refine ⟨?_, ?_, ?_, ?_, ?_, ?_, ?_, ?_, ?_⟩
  case refine_1 =>
    intro s c h
    obtain ⟨hnumber, hfresh, hframes, hsent, hf⟩ := State.sendFrame_holds h
    exact ⟨_, rfl, hnumber, hfresh, hframes, hsent, hf.keeps, hf.mem⟩
  case refine_2 =>
    intro s c hstarted
    have hf := soleReleased_frame (s.startMf c) c
    obtain ⟨hmf, hW, hfresh⟩ := s.startMf_holds c
    have hnext : ((s.startMf c).soleReleased c).txMf c = s.nextMf c := (congrArg (· / 256) (hf.read (by cases c <;> decide))).trans hmf
    rw [← State.soleReleased_line] at hfresh
    refine ⟨_, exec_txMultiframeStart s c, hnext.trans ?_, (hf.read (by cases c <;> decide)).trans hW, hfresh⟩
    exact if_neg (by simp [hstarted])
  case refine_3 =>
    intro s path c hw hrole hmajor
    refine ⟨_, congrArg Host.Outcome.next (State.rwWrite_accepted hw _), ?_⟩
    rw [State.adopt_adopter hrole hmajor, State.markSlip_line, State.onLine_line, Duo.at_upd_same]
    exact ⟨rfl, rfl, (markSlip_frame (W := fun _ => False) _ c).mem⟩
  case refine_4 => exact fun s c bytes ha hd => ⟨_, rfl, State.overheadIn_bad ha hd⟩
  case refine_5 => exact fun s c n bytes info ha hd => ⟨_, rfl, State.overheadIn_good ha hd⟩
  case refine_6 => exact fun s c bytes ha => ⟨_, rfl, if_pos ha⟩
  case refine_7 => exact fun s c cell h => ⟨_, rfl, State.cellIn_invalid c h⟩
  case refine_8 =>
    intro s c cell hctrl hlo hhi hroom hasm hseq
    refine ⟨_, congrArg Host.Outcome.next (State.cellIn_starts hctrl hlo hhi hroom hasm hseq), ?_⟩
    rw [State.onLine_line, State.onLine_line, Duo.at_upd_same, Duo.at_upd_same]
    exact ⟨rfl, rfl, rfl, rfl⟩
  case refine_9 => exact fun code t r z info _ hz => checkBit_encodeBlock code info t r hz

end Sys2Proof.Machine
end

section
/-!
STATEMENT. Headland messages (R126 to R129): the table loses a neighbour together with the candidate that it was.
-/
-- An argument that a tactic fills waits for all declarations before it: elaborated in parallel, such proofs would each hold a thread.
set_option Elab.async false

namespace Sys2Proof.Machine
open Sys2Proof

/-! ### A neighbour that is a candidate peer -/

/-- A running plan with a CARRIER record of carrier A only: 0x118 quarter GBd, four subcarriers, CENTRE_N 8. -/
def carrierPlan : Plan := ⟨0, 1, 1, [⟨1, 0, 0, [0x18, 1, 4, 3] ++ List.replicate 8 0 ++ [8] ++ List.replicate 11 0⟩]⟩

/-- A beacon of node 9, carrier A, with that plan's CENTRE_N and SYMBOL_RATE (Table 6.3). -/
def candidateBeacon : List Byte := [1, 0, 0, 0, 0, 9, 0, 8, 1, 0x18] ++ List.replicate 22 0

/-- Plough runs, with that plan. -/
def carrierRunning : State := (State.reset.set F.CPU_STATUS.STATE 2).onPlan fun q => { q with running := some carrierPlan }

/-- The beacon of node 9 was heard: entry 0 of the table lists it, and it is carrier A's candidate peer (R129). -/
def candidateHeard : State := (carrierRunning.nbEnter candidateBeacon 100).candidate .A

/-- BEACON_RECEIVED leads there. -/
theorem candidateHeard_listed : exec (.beaconReceived .A candidateBeacon 100) carrierRunning = .next candidateHeard ∧
    candidateHeard.cpu = 2 ∧ candidateHeard.nbNode (0 : Fin 16) = 9 ∧ candidateHeard.get (F.LINK_CANDIDATE.VALUE .A) = 9 :=
  ⟨rfl, by decide +kernel⟩

/-- The neighbour expires: the candidates are chosen anew (R129), and none is left. -/
theorem candidateHeard_expires : ∃ t, exec (.neighbourExpired 0) candidateHeard = .next t ∧ t.get (F.LINK_CANDIDATE.VALUE .A) = 0 :=
  ⟨_, rfl, by decide +kernel⟩

/-- Refutes O27, at the clause of an expired neighbour: its frame lists the entry's two words only, but where the neighbour was a carrier's
candidate peer the choice anew, which R129 asks for, writes LINK_CANDIDATE too. -/
theorem not_headlandMessagesAreHandled : ¬ Obligations.HeadlandMessagesAreHandled := by
  unfold Obligations.HeadlandMessagesAreHandled
  rintro ⟨-, -, -, -, -, -, -, -, -, -, -, -, -, hexpired, -⟩
  obtain ⟨-, hcpu, hnode, hcandidate⟩ := candidateHeard_listed
  obtain ⟨t, ht, -, -, -, hkeeps, -⟩ := hexpired candidateHeard 0 hcpu (by rw [hnode]; decide)
  obtain ⟨u, hu, hnone⟩ := candidateHeard_expires
  obtain rfl : t = u := Host.Outcome.next.inj (ht.symm.trans hu)
  have hkept : t.get (F.LINK_CANDIDATE.VALUE .A) = 9 := (hkeeps.get ⟨by decide, by decide⟩ (by decide)).trans hcandidate
  rw [hnone] at hkept
  exact absurd hkept (by decide)

end Sys2Proof.Machine
end

section
/-!
SUPPORT. Commits in progress (R135 to R139): what LINK_COMMIT shows of a proposal, how a commit ends without arming, and what arms one.
-/
-- An argument that a tactic fills waits for all declarations before it: elaborated in parallel, such proofs would each hold a thread.
set_option Elab.async false

namespace Sys2Proof.Machine
open Sys2Proof

/-! ### One word after another -/

/-- What writes one word, and then another. -/
theorem Frame.andThen {a b : Nat} {s t u : State} (h : Frame (· ∈ [a]) s t) (k : Frame (· ∈ [b]) t u) : Frame (· ∈ [a, b]) s u :=
  (h.mono fun _ ha => List.mem_cons.mpr (.inl (List.mem_singleton.mp ha))).trans (k.mono fun _ ha => List.mem_cons_of_mem _ ha)

theorem Frame.mgrRaise {W : Nat → Prop} {s t : State} (h : Frame W s t) {c : Carrier} {n : Nat} : Frame W s (t.mgrRaise c n) := h.raiseEvent

/-! ### What is shown of a commit (R142) -/

/-- What LINK_COMMIT is written for a proposal: the last field is written last. -/
def commitFields (c : Carrier) (p : Proposal) (initiator cstate : Nat) : List (Fld × Nat) :=
  [(F.LINK_COMMIT.M c, p.m), (F.LINK_COMMIT.KIND c, p.kind), (F.LINK_COMMIT.INITIATOR c, initiator), (F.LINK_COMMIT.CSTATE c, cstate)]

theorem State.get_commitFields (s : State) (c : Carrier) (p : Proposal) (initiator cstate : Nat) :
    (s.setAll (commitFields c p initiator cstate)).get (F.LINK_COMMIT.M c) = p.m % 2 ^ 24 ∧
      (s.setAll (commitFields c p initiator cstate)).get (F.LINK_COMMIT.INITIATOR c) = initiator % 2 ∧
      (s.setAll (commitFields c p initiator cstate)).get (F.LINK_COMMIT.CSTATE c) = cstate % 8 :=
  ⟨s.get_setAll [] ((commitFields c p initiator cstate).drop 1) _ (by cases c <;> rfl) (by cases c <;> rfl),
    s.get_setAll ((commitFields c p initiator cstate).take 2) ((commitFields c p initiator cstate).drop 3) _ (by cases c <;> rfl)
      (by cases c <;> rfl),
    s.get_setAll ((commitFields c p initiator cstate).take 3) [] _ (by cases c <;> rfl) rfl⟩

/-- This end's latest proposal is the one shown. -/
theorem State.showCommit_own {s : State} {c : Carrier} {p : Proposal} (h : (s.link.at c).own.head? = some p) :
    s.showCommit c = s.setAll (commitFields c p 1 p.cstate) := by
  unfold State.showCommit
  dsimp only
  rw [h]
  rfl

/-- Without a proposal of this end, the latest one held for the peer is shown. -/
theorem State.showCommit_held {s : State} {c : Carrier} {p : Proposal} (ho : (s.link.at c).own = []) (h : (s.link.at c).held.head? = some p) :
    s.showCommit c = s.setAll (commitFields c p 0 (min 3 (if p.cstate = 4 then 2 else p.cstate))) := by
  unfold State.showCommit
  dsimp only
  rw [ho, h]
  rfl

theorem State.setOwn_shows (s : State) (c : Carrier) (kind : Nat) (p : Proposal) :
    (s.setOwn c kind (some p)).get (F.LINK_COMMIT.M c) = p.m % 2 ^ 24 ∧ (s.setOwn c kind (some p)).get (F.LINK_COMMIT.INITIATOR c) = 1 ∧
      (s.setOwn c kind (some p)).get (F.LINK_COMMIT.CSTATE c) = p.cstate % 8 := by
  rw [State.setOwn, State.showCommit_own (p := p) (by rw [State.onLink_link, Duo.at_upd_same]; rfl)]
  exact State.get_commitFields _ c p 1 p.cstate

theorem State.setHeld_shows {s : State} {c : Carrier} (ho : (s.link.at c).own = []) (kind : Nat) {p : Proposal} (h2 : p.cstate = 2) :
    (s.setHeld c kind (some p)).get (F.LINK_COMMIT.INITIATOR c) = 0 ∧ (s.setHeld c kind (some p)).get (F.LINK_COMMIT.CSTATE c) = 2 := by
  rw [State.setHeld, State.showCommit_held (p := p) (by rw [State.onLink_link, Duo.at_upd_same]; exact ho)
    (by rw [State.onLink_link, Duo.at_upd_same]; rfl), h2]
  exact (State.get_commitFields _ c p 0 2).2

theorem State.setHeld_at (s : State) (c : Carrier) (kind : Nat) (p : Option Proposal) :
    (s.setHeld c kind p).link.at c = { s.link.at c with held := putKind (s.link.at c).held kind p } := by
  rw [State.setHeld, State.showCommit_link, State.onLink_link, Duo.at_upd_same]

/-! ### Commits that end without arming (R139) -/

/-- From `s` to `t` a commit ended without arming: counted, COMMIT_ABORT raised, and LINK_COMMIT shown anew. -/
structure Aborted (c : Carrier) (s t : State) : Prop where
  aborts : t.get (F.LINK_LINK_COUNT.ABORTS c) = min (F.LINK_LINK_COUNT.ABORTS c).top (s.get (F.LINK_LINK_COUNT.ABORTS c) + 1)
  flag : t.flag 0x0E (20 + 8 * c.idx) = true
  frame : Frame (· ∈ [R.LINK_LINK_COUNT c, R.LINK_COMMIT c]) s t

@[simp] theorem State.commitAbort_link (s : State) (c : Carrier) : (s.commitAbort c).link = s.link :=
  (State.raiseEvent_link ..).trans (State.bump_link ..)

theorem commitAbort_aborted {s t : State} {c : Carrier} (h : Frame (· ∈ [R.LINK_COMMIT c]) s t) : Aborted c s (t.commitAbort c) where
  aborts := by
    rw [State.commitAbort, State.mgrRaise, State.raiseEvent_read _ _ _ _ (by cases c <;> decide),
      State.get_bump_same _ _ _ (by cases c <;> decide) (by cases c <;> decide), h.read (by cases c <;> decide)]
  flag := State.mgrRaise_flag _ c (by decide)
  frame := ((h.mono fun _ ha => List.mem_cons_of_mem _ ha).set (by cases c <;> decide)).raiseEvent

/-- This end's proposal of any kind, withdrawn: gone, and its commit aborted. -/
theorem State.withdrawOwn_aborted {s : State} {c : Carrier} {kind : Nat} {p : Proposal} (hp : kindOf (s.link.at c).own kind = some p) :
    kindOf ((s.withdrawOwn c kind).link.at c).own kind = none ∧ Aborted c s (s.withdrawOwn c kind) := by
  let t := s.mccSend c (s.linkMsg c 0x13 0 p.tag (commitBody p))
  have hw : s.withdrawOwn c kind = (t.setOwn c kind none).commitAbort c := by
    unfold State.withdrawOwn
    rw [hp]
  rw [hw, State.commitAbort_link, State.setOwn_at]
  exact ⟨kindOf_putKind_none _ _, commitAbort_aborted ((mccSend_frame s c _).trans (setOwn_frame t c kind none))⟩

/-- A change held for the peer, released. -/
theorem State.heldReleased_aborted (s : State) (c : Carrier) (kind : Nat) :
    kindOf (((s.setHeld c kind none).commitAbort c).link.at c).held kind = none ∧ Aborted c s ((s.setHeld c kind none).commitAbort c) := by
  rw [State.commitAbort_link, State.setHeld_at]
  exact ⟨kindOf_putKind_none _ _, commitAbort_aborted (setHeld_frame s c kind none)⟩

/-! ### A re-plan's build that is given up (Table 2.20) -/

@[simp] theorem State.avsServe_link (s : State) (p : Nat) (before : Option AvsReq) : (s.avsServe p before).link = s.link := by
  unfold State.avsServe
  split
  · rfl
  · split <;> simp

@[simp] theorem State.wakeSequence_link (s : State) (d : Nat) : (s.wakeSequence d).link = s.link := by
  unfold State.wakeSequence
  split
  · split <;> simp [State.avsAsk]
  · rfl

@[simp] theorem State.wakeDomain_link (s : State) (d : Nat) : (s.wakeDomain d).link = s.link := by
  unfold State.wakeDomain
  split <;> simp

@[simp] theorem State.vote_link (s : State) (d bit : Nat) (v : Bool) : (s.vote d bit v).link = s.link := by
  unfold State.vote State.setVotes
  dsimp only
  split_ifs <;> simp

@[simp] theorem State.planVotes_link (s : State) (ds : List Nat) (v : Bool) : (s.planVotes ds v).link = s.link :=
  List.foldlRecOn (motive := fun t : State => t.link = s.link) ds _ rfl fun _ ht _ _ => (State.vote_link ..).trans ht

/-- A re-plan's end leaves what the managers hold. -/
@[simp] theorem State.abortSwitch_link (s : State) (reason : Nat) : (s.abortSwitch reason).link = s.link :=
  (State.raiseEvent_link ..).trans (State.planVotes_link ..)

/-- A build's release writes words of the plan and votes of domains, and then the plan's internal state. -/
theorem releaseBuild_eq (s : State) : ∃ t f, Frame (besideLink []) s t ∧ s.releaseBuild = t.onPlan f := by
  unfold State.releaseBuild
  refine ⟨_, _, ?_, rfl⟩
  exact ((planVotes_frame s _ _).besideAbove.set (.inr (.inl (by decide)))).set (.inr (.inl (by decide)))

/-- A re-plan's end leaves LINK fields and LINK interrupt bits. -/
theorem abortSwitch_keeps (s : State) (reason : Nat) :
    (∀ f, linkField [] f = true → (s.abortSwitch reason).get f = s.get f) ∧
      ∀ k, s.flag 0x0E k = true → (s.abortSwitch reason).flag 0x0E k = true := by
  obtain ⟨t, f, ht, hrel⟩ := releaseBuild_eq s
  have hend : Frame (besideLink []) s.releaseBuild (s.abortSwitch reason) :=
    (abortSwitch_frame s reason).mono fun a ha => .inr (.inl (List.mem_singleton.mp ha ▸ by decide))
  rw [hrel] at hend
  exact ⟨fun f hf => (hend.readLink hf).trans (ht.readLink hf), fun k hk => hend.linkFlag rfl (ht.linkFlag rfl hk)⟩

/-- A re-plan's end: no build is left, and REASON names it. -/
theorem State.abortSwitch_holds (s : State) {reason : Nat} (h : reason < 256 := by decide) : (s.abortSwitch reason).hState = 0 ∧
    (s.abortSwitch reason).plan.build = [] ∧ (s.abortSwitch reason).get F.PLAN_STATUS.REASON = reason ∧ (s.abortSwitch reason).mem = s.mem := by
  have hend := abortSwitch_frame s reason
  have hreason : (s.abortSwitch reason).get F.PLAN_STATUS.REASON = reason % 2 ^ 8 :=
    (State.raiseEvent_read _ _ _ _ (by decide)).trans (State.get_set_same _ _ _ (by decide) (by decide))
  exact ⟨(hend.read (by decide)).trans s.releaseBuild_hState, congrArg PlanSt.build hend.plan, hreason.trans (Nat.mod_eq_of_lt h),
    hend.mem.trans s.releaseBuild_mem⟩

/-! ### What arms a commit (R138, Table 2.20) -/

/-- The commit event of a re-plan in READY that is in time, with no entropy step armed. -/
theorem State.replanCommit_armed {s : State} {c : Carrier} {m : Nat} (h2 : s.hState = 2) (hm : mfAtLeast m (s.txMf c) 65 = true)
    (hA : s.stepArmed .A = false) (hB : s.stepArmed .B = false) :
    s.replanCommit c m = ((s.toH 3).set F.PLAN_SWITCH.SWITCH_MF m).raise 0x02 5 := by
  unfold State.replanCommit
  simp [h2, hm, hA, hB]

/-- A re-plan armed at M. -/
theorem State.replanArmed_holds (s : State) {m : Nat} (h : m < 2 ^ 24) :
    let t := ((s.toH 3).set F.PLAN_SWITCH.SWITCH_MF m).raise 0x02 5
    t.hState = 3 ∧ t.get F.PLAN_SWITCH.SWITCH_MF = m ∧ t.flag 0x02 5 = true ∧ Frame (· ∈ [R.PLAN_SWITCH]) s t := by
  have hmf : ((s.toH 3).set F.PLAN_SWITCH.SWITCH_MF m).get F.PLAN_SWITCH.SWITCH_MF = m % 2 ^ 24 :=
    State.get_set_same _ _ _ (by decide) (by decide)
  have hstate : ((s.toH 3).set F.PLAN_SWITCH.SWITCH_MF m).hState = 3 :=
    (State.get_set_apart _ _ (by decide) (by decide) (by decide)).trans (State.get_set_same _ _ _ (by decide) (by decide))
  exact ⟨(State.raise_get _ _ _ ⟨by decide, by decide⟩).trans hstate,
    (State.raise_get _ _ _ ⟨by decide, by decide⟩).trans (hmf.trans (Nat.mod_eq_of_lt h)), State.raise_flag _ (by decide) (by decide),
    (((Frame.refl _ s).set (by decide)).set (by decide)).raise⟩

/-- A receive step armed at M. -/
theorem State.rxStepArm_holds (s : State) (c : Carrier) (m : Nat) : (s.rxStepArm c m).on (F.LINK_RX_STEP.ARMED c) = true ∧
    (s.rxStepArm c m).get (F.LINK_RX_STEP.MF c) = m % 2 ^ 24 ∧ Frame (· ∈ [R.LINK_RX_STEP c]) s (s.rxStepArm c m) := by
  refine ⟨?_, ?_, (((Frame.refl _ s).set (by cases c <;> decide)).set (by cases c <;> decide)).onLine.set (by cases c <;> decide)⟩
  · have harmed : (s.rxStepArm c m).get (F.LINK_RX_STEP.ARMED c) = 1 % 2 ^ 1 :=
      (State.get_set_apart _ _ (Nat.le_refl 2) (by decide : 2 < 32) (by cases c <;> decide)).trans
        (State.get_set_same _ _ _ (Nat.le_refl 1) (by decide : 1 < 32))
    rw [State.on, harmed]
    rfl
  · exact (State.get_set_apart _ _ (Nat.le_refl 2) (by decide : 2 < 32) (by cases c <;> decide)).trans
      ((State.get_set_apart _ _ (Nat.le_refl 1) (by decide : 1 < 32) (by cases c <;> decide)).trans
        (State.get_set_same _ _ _ (by decide : 8 ≤ 31) (by decide : 31 < 32)))

end Sys2Proof.Machine
end

section
/-!
SUPPORT and statement. Agreeing a change (R135 to R139): PROPOSE, ACCEPT, COMMIT, WITHDRAW and NAK, sent and received, and the two deadlines.
-/
-- An argument that a tactic fills waits for all declarations before it: elaborated in parallel, such proofs would each hold a thread.
set_option Elab.async false

namespace Sys2Proof.Machine
open Sys2Proof

/-! ### PROPOSE (R135) -/

/-- A proposal sent: its tag used, the proposal outstanding. -/
def State.proposed (s : State) (c : Carrier) (p : Proposal) : State :=
  ((s.mccSend c (s.linkMsg c 0x10 0 p.tag p.body)).tagUsed c).setOwn c p.kind (some p)

theorem State.proposed_holds (s : State) (c : Carrier) (p : Proposal) : kindOf ((s.proposed c p).link.at c).own p.kind = some p ∧
    (s.proposed c p).get (F.LINK_COMMIT.M c) = p.m % 2 ^ 24 ∧ (s.proposed c p).get (F.LINK_COMMIT.INITIATOR c) = 1 ∧
    (s.proposed c p).get (F.LINK_COMMIT.CSTATE c) = p.cstate % 8 ∧ Frame (· ∈ [R.LINK_COMMIT c]) s (s.proposed c p) := by
  obtain ⟨hm, hinit, hcstate⟩ := ((s.mccSend c (s.linkMsg c 0x10 0 p.tag p.body)).tagUsed c).setOwn_shows c p.kind p
  refine ⟨?_, hm, hinit, hcstate, (mccSend_frame s c _).onLink.trans (setOwn_frame _ c p.kind _)⟩
  rw [State.proposed, State.setOwn_at]
  exact kindOf_putKind_some rfl

/-- A change whose conditions hold, of which none is outstanding, and whose M keeps the least lead and is not held, is proposed. -/
theorem State.propose_sends {s : State} {c : Carrier} {kind m : Nat} (sole : Bool) (hnak : s.changeNak c kind = none)
    (hown : kindOf (s.link.at c).own kind = none) (hlead : mfAtLeast m (s.txMf c) (s.leastLead c) = true)
    (hheld : (s.heldMfs c).contains m = false) (hready : kind = 1 → s.hState = 2) : ∃ body, s.propose c kind sole m =
      if kind = 1 then (s.proposed c ⟨kind, m, sole, 1, s.linkTag c, body, 1⟩).onPlan fun q => { q with proposedMf := some m }
      else s.proposed c ⟨kind, m, sole, 1, s.linkTag c, body, 1⟩ := by
  refine ⟨_, if_neg ?_⟩
  rw [hnak, hown, hlead, hheld]
  by_cases h : kind = 1
  · simp [h, hready h]
  · simp [h]

/-! ### A PROPOSE from the peer (R134, R136, R137) -/

theorem exec_proposeReceived {s : State} {c : Carrier} {tag : Nat} {body : List Byte} (hr : s.cpu = 2) (ha : (s.link.at c).answered = none) :
    exec (.proposeReceived c tag body) s = .next ((s.mccTake c).proposeReceived c tag body) := by
  have hlink : ((s.mccTake c).link.at c).answered = none := ha
  refine congrArg Host.Outcome.next ((managed_running hr _).trans ?_)
  unfold State.linkRequest
  rw [hlink]

/-- A PROPOSE with SOLE = 0 accepted: answered, held for the peer, and of a re-plan the deadline of this end's own build set. -/
def State.proposalHeld (s : State) (c : Carrier) (tag kind m : Nat) : State :=
  (s.linkAnswer c 0x11 1 tag (commitBody ⟨kind, m, false, 0, 0, [], 0⟩)).setHeld c kind (some ⟨kind, m, false, 2, tag, [], 0⟩)

section
variable {s : State} {c : Carrier} {tag : Nat} {body : List Byte}

/-- A well-formed PROPOSE with SOLE = 0 is judged by the responder's checks. -/
theorem propose_wellFormed (hl : body.length = 26) (hk : beNat (slice body 0 1) = 1 ∨ beNat (slice body 0 1) = 2)
    (hs : beNat (slice body 1 1) = 0) :
    ¬ (body.length ≠ 26 ∨ beNat (slice body 0 1) = 0 ∨ 2 < beNat (slice body 0 1) ∨ 1 < beNat (slice body 1 1)) := by
  omega

theorem State.proposeReceived_held (hl : body.length = 26) (hk : beNat (slice body 0 1) = 1 ∨ beNat (slice body 0 1) = 2)
    (hs : beNat (slice body 1 1) = 0) (hnak : s.proposeNak c (beNat (slice body 0 1)) (beNat (slice body 2 3)) false = none)
    (hown : (s.link.at c).own = []) : s.proposeReceived c tag body =
      if beNat (slice body 0 1) = 1 then
        (s.proposalHeld c tag (beNat (slice body 0 1)) (beNat (slice body 2 3))).onPlan fun q =>
          { q with proposedMf := some (beNat (slice body 2 3)) }
      else s.proposalHeld c tag (beNat (slice body 0 1)) (beNat (slice body 2 3)) := by
  unfold State.proposeReceived
  dsimp only
  rw [if_neg (propose_wellFormed hl hk hs), hs, show decide (0 = 1) = false from rfl, hnak, hown]
  simp [State.proposalHeld]

theorem State.proposeReceived_refused {n : Nat} (hl : body.length = 26) (hk : beNat (slice body 0 1) = 1 ∨ beNat (slice body 0 1) = 2)
    (hs : beNat (slice body 1 1) = 0) (hnak : s.proposeNak c (beNat (slice body 0 1)) (beNat (slice body 2 3)) false = some n) :
    s.proposeReceived c tag body = s.linkNak c 0x10 tag n := by
  unfold State.proposeReceived
  dsimp only
  rw [if_neg (propose_wellFormed hl hk hs), hs, show decide (0 = 1) = false from rfl, hnak]

/-- The NAK of a PROPOSE is an answer that is kept, and it is counted. -/
theorem State.linkNak_propose (s : State) (c : Carrier) (tag code : Nat) :
    s.linkNak c 0x10 tag code = (s.linkAnswer c 0x10 3 tag (beBytes 1 code)).bump (F.LINK_LINK_COUNT.NAKS c) := rfl

end

theorem State.proposalHeld_holds {s : State} {c : Carrier} (hown : (s.link.at c).own = []) (tag kind m : Nat) :
    kindOf ((s.proposalHeld c tag kind m).link.at c).held kind = some ⟨kind, m, false, 2, tag, [], 0⟩ ∧
      ((s.proposalHeld c tag kind m).link.at c).answered.map (·.1) = some tag ∧
      (s.proposalHeld c tag kind m).get (F.LINK_COMMIT.INITIATOR c) = 0 ∧ (s.proposalHeld c tag kind m).get (F.LINK_COMMIT.CSTATE c) = 2 ∧
      Frame (· ∈ [R.LINK_COMMIT c]) s (s.proposalHeld c tag kind m) := by
  let u := s.linkAnswer c 0x11 1 tag (commitBody ⟨kind, m, false, 0, 0, [], 0⟩)
  have hat : u.link.at c = _ := s.linkAnswer_at c 0x11 1 tag _
  have hu : (u.link.at c).own = [] := by rw [hat]; exact hown
  obtain ⟨hinit, hcstate⟩ := State.setHeld_shows hu kind (p := ⟨kind, m, false, 2, tag, [], 0⟩) rfl
  have hheld : (s.proposalHeld c tag kind m).link.at c = _ := u.setHeld_at c kind _
  refine ⟨?_, ?_, hinit, hcstate, (linkAnswer_frame ..).trans (setHeld_frame u c kind _)⟩
  · rw [hheld]
    exact kindOf_putKind_some rfl
  · rw [hheld, hat]
    rfl

theorem State.proposeNak_holds (s : State) (c : Carrier) (tag code : Nat) :
    ((s.linkNak c 0x10 tag code).link.at c).held = (s.link.at c).held ∧
      ((s.linkNak c 0x10 tag code).link.at c).answered.map (·.1) = some tag ∧
      (s.linkNak c 0x10 tag code).get (F.LINK_LINK_COUNT.NAKS c) =
        min (F.LINK_LINK_COUNT.NAKS c).top (s.get (F.LINK_LINK_COUNT.NAKS c) + 1) ∧
      Frame (· ∈ [R.LINK_LINK_COUNT c]) s (s.linkNak c 0x10 tag code) := by
  have hanswer : Frame (· ∈ []) s (s.linkAnswer c 0x10 3 tag (beBytes 1 code)) := linkAnswer_frame ..
  rw [State.linkNak_propose, State.bump_link, State.linkAnswer_at, State.get_bump_same _ _ _ (by cases c <;> decide) (by cases c <;> decide),
    hanswer.read (by cases c <;> decide)]
  exact ⟨rfl, rfl, rfl, (linkAnswer_frame ..).set (by cases c <;> decide)⟩

/-! ### ACCEPT (R138) -/

theorem changeOf_eq {body : List Byte} (hl : body.length = 6) (hk : beNat (slice body 0 1) = 1 ∨ beNat (slice body 0 1) = 2) :
    changeOf body = some (beNat (slice body 0 1), beNat (slice body 2 3)) := if_pos ⟨hl, hk⟩

/-- An ACCEPT of the outstanding proposal, its round trip taken. -/
def State.rttTaken (s : State) (c : Carrier) (rtt : Nat) : State := (s.mccTake c).setSat (F.LINK_RTT.RTT c) rtt

theorem rttTaken_frame (s : State) (c : Carrier) (rtt : Nat) : Frame (· ∈ [R.LINK_RTT c]) s (s.rttTaken c rtt) :=
  (Frame.refl _ s).onLine.set (by cases c <;> decide)

theorem State.rttTaken_rtt (s : State) (c : Carrier) (rtt : Nat) : (s.rttTaken c rtt).get (F.LINK_RTT.RTT c) = min (F.LINK_RTT.RTT c).top rtt :=
  State.get_setSat_same _ _ _ (by cases c <;> decide) (by cases c <;> decide)

/-- COMMIT goes out for a proposal that is accepted with margin. -/
def State.commits (s : State) (c : Carrier) (p : Proposal) : State :=
  (s.mccSend c (s.linkMsg c 0x12 0 p.tag (commitBody p))).setOwn c p.kind (some { p with cstate := 2 })

theorem State.commits_holds (s : State) (c : Carrier) (p : Proposal) :
    kindOf ((s.commits c p).link.at c).own p.kind = some { p with cstate := 2 } ∧ Frame (· ∈ [R.LINK_COMMIT c]) s (s.commits c p) := by
  rw [State.commits, State.setOwn_at]
  exact ⟨kindOf_putKind_some rfl, (mccSend_frame s c _).trans (setOwn_frame ..)⟩

section
variable {s : State} {c : Carrier} {tag rtt : Nat} {body : List Byte} {p : Proposal}

theorem exec_acceptReceived (hr : s.cpu = 2) (hl : body.length = 6) (hk : beNat (slice body 0 1) = 1 ∨ beNat (slice body 0 1) = 2)
    (hp : kindOf (s.link.at c).own (beNat (slice body 0 1)) = some p) (h1 : p.cstate = 1) (hm : p.m = beNat (slice body 2 3))
    (ht : p.tag = tag) : exec (.acceptReceived c tag body rtt) s =
      .next (if mfAtLeast p.m (s.txMf c) ((s.setSat (F.LINK_RTT.RTT c) rtt).armLead c) then (s.rttTaken c rtt).commits c p
        else (s.rttTaken c rtt).withdrawOwn c p.kind) := by
  have hknown : ((s.mccTake c).link.at c).own.any (fun p => p.tag = tag) = true :=
    List.any_eq_true.mpr ⟨p, List.mem_of_find?_eq_some hp, decide_eq_true ht⟩
  have hown : kindOf ((s.rttTaken c rtt).link.at c).own (beNat (slice body 0 1)) = some p := hp
  have hmf : (s.rttTaken c rtt).txMf c = s.txMf c := congrArg (· / 256) ((rttTaken_frame s c rtt).read (by cases c <;> decide))
  have hlead : (s.rttTaken c rtt).armLead c = (s.setSat (F.LINK_RTT.RTT c) rtt).armLead c := rfl
  refine congrArg Host.Outcome.next ((managed_running hr _).trans ?_)
  dsimp only
  rw [if_pos hknown]
  change (s.rttTaken c rtt).acceptReceived c tag body = _
  unfold State.acceptReceived
  rw [changeOf_eq hl hk]
  dsimp only
  rw [hown]
  dsimp only
  rw [if_neg (by simp [h1]), if_pos (by simp [h1, hm]), hmf, hlead, ← hm, ← kindOf_kind hp]
  rfl

/-! ### COMMIT (R138) -/

/-- An accepted re-plan that its commit event arms. -/
theorem exec_commitLeftQueue (hr : s.cpu = 2) (hp : kindOf (s.link.at c).own 1 = some p) (h2 : p.cstate = 2)
    (harmed : (s.replanCommit c p.m).hState = 3 ∧ (s.replanCommit c p.m).get F.PLAN_SWITCH.SWITCH_MF = p.m) :
    exec (.commitLeftQueue c false) s =
      .next (((s.replanCommit c p.m).setOwn c 1 (some { p with cstate := 3 })).mgrRaise c 3) := by
  refine congrArg Host.Outcome.next ((managed_running hr _).trans ?_)
  change s.commitLeft c 1 = _
  unfold State.commitLeft
  rw [hp]
  dsimp only
  rw [if_neg (by simp [h2]), if_neg (by simp [kindOf_kind hp]), if_pos (by simp [State.replanAt, harmed.1, harmed.2])]

/-- A held step in time, no receive step armed. -/
theorem exec_commitReceived (hr : s.cpu = 2) (hl : body.length = 6) (hk : beNat (slice body 0 1) = 2)
    (hp : kindOf (s.link.at c).held 2 = some p) (h2 : p.cstate = 2) (hm : p.m = beNat (slice body 2 3))
    (htime : mfAtLeast p.m (s.rxMf c) 65 = true) (hfree : s.on (F.LINK_RX_STEP.ARMED c) = false) :
    exec (.commitReceived c tag body) s =
      .next ((((s.mccTake c).rxStepArm c p.m).setHeld c 2 (some { p with cstate := 3 })).mgrRaise c 3) := by
  have hheld : kindOf ((s.mccTake c).link.at c).held 2 = some p := hp
  have hkind := kindOf_kind hp
  have hahead : mfAtLeast p.m ((s.mccTake c).rxMf c) 65 = true := htime
  have hunarmed : (s.mccTake c).on (F.LINK_RX_STEP.ARMED c) = false := hfree
  refine congrArg Host.Outcome.next ((managed_running hr _).trans ?_)
  dsimp only
  rw [changeOf_eq hl (.inr hk), hk]
  dsimp only
  rw [hheld]
  dsimp only
  rw [if_pos hm]
  unfold State.armHeld
  rw [hheld]
  dsimp only
  rw [if_neg (by simp [h2]), hkind, if_neg (by simp [State.reference, hahead]), if_pos rfl]
  exact if_pos (by simp [hunarmed])

/-! ### WITHDRAW, NAK and the deadlines (R137, R139) -/

theorem exec_withdrawReceived (hr : s.cpu = 2) (hl : body.length = 6) (hk : beNat (slice body 0 1) = 1 ∨ beNat (slice body 0 1) = 2)
    (hp : kindOf (s.link.at c).held (beNat (slice body 0 1)) = some p) (h2 : p.cstate = 2) (hm : p.m = beNat (slice body 2 3)) :
    exec (.withdrawReceived c tag body) s = .next (((s.mccTake c).setHeld c (beNat (slice body 0 1)) none).commitAbort c) := by
  have hheld : kindOf ((s.mccTake c).link.at c).held (beNat (slice body 0 1)) = some p := hp
  refine congrArg Host.Outcome.next ((managed_running hr _).trans ?_)
  dsimp only
  rw [changeOf_eq hl hk]
  dsimp only
  rw [hheld]
  dsimp only
  rw [if_neg (by simp [hm]), if_pos h2]

/-- A NAK taken, and the round trip of the request that it answers if one is known. -/
def State.answered (s : State) (c : Carrier) (rtt : Nat) : State :=
  if s.rtt c != 0 then (s.mccTake c).setSat (F.LINK_RTT.RTT c) rtt else s.mccTake c

@[simp] theorem State.answered_link (s : State) (c : Carrier) (rtt : Nat) : (s.answered c rtt).link = s.link := by
  unfold State.answered
  split <;> rfl

theorem answered_frame (s : State) (c : Carrier) (rtt : Nat) : Frame (· ∈ [R.LINK_RTT c]) s (s.answered c rtt) :=
  (rttTaken_frame s c rtt).ite (Frame.refl _ s).onLine

theorem State.answered_rtt (s : State) (c : Carrier) (rtt : Nat) :
    (s.answered c rtt).rtt c = if s.rtt c = 0 then 0 else min (F.LINK_RTT.RTT c).top rtt := by
  unfold State.answered
  split
  next h => exact (s.rttTaken_rtt c rtt).trans (if_neg (by simpa using h)).symm
  next h =>
    have h0 : s.rtt c = 0 := by simpa using h
    exact (show (s.mccTake c).rtt c = 0 from h0).trans (if_pos h0).symm

theorem exec_nakReceived_caps (hr : s.cpu = 2) (ht : (s.link.at c).capsTag = some tag) (code : Nat) :
    exec (.nakReceived c tag code rtt) s = .next ((s.answered c rtt).onLink c fun k => { k with capsTag := none }) := by
  have htag : ((s.mccTake c).link.at c).capsTag = some tag := ht
  refine congrArg Host.Outcome.next ((managed_running hr _).trans ?_)
  dsimp only
  rw [if_pos htag, htag, decide_eq_true rfl, Bool.true_or, Bool.true_and]
  rfl

theorem exec_nakReceived_proposal (hr : s.cpu = 2) (ht : (s.link.at c).capsTag ≠ some tag)
    (hp : (s.link.at c).own.find? (fun p => p.tag = tag && p.cstate = 1) = some p) (code : Nat) : exec (.nakReceived c tag code rtt) s =
      .next (if code = 0x08 then (s.answered c rtt).withdrawOwn c p.kind else (s.answered c rtt).setOwn c p.kind none) := by
  have htag : ((s.mccTake c).link.at c).capsTag ≠ some tag := ht
  have hfind : ((s.mccTake c).link.at c).own.find? (fun p => p.tag = tag && p.cstate = 1) = some p := hp
  have hmatch := List.find?_some hp
  have hany : ((s.mccTake c).link.at c).own.any (fun p => p.tag = tag && p.cstate = 1) = true :=
    List.any_eq_true.mpr ⟨p, List.mem_of_find?_eq_some hp, hmatch⟩
  refine congrArg Host.Outcome.next ((managed_running hr _).trans ?_)
  dsimp only
  rw [if_neg htag, hfind, hany, Bool.or_true, Bool.true_and]
  rfl

theorem exec_proposalDeadline {step : Bool} (hr : s.cpu = 2) (hp : kindOf (s.link.at c).own (if step then 2 else 1) = some p)
    (h1 : p.cstate = 1) : exec (.proposalDeadline c step) s = .next (s.withdrawOwn c (if step then 2 else 1)) := by
  refine congrArg Host.Outcome.next ((managed_running hr _).trans ?_)
  dsimp only
  rw [hp]
  exact if_pos h1

theorem exec_acceptedDeadline {step : Bool} (hr : s.cpu = 2) (hp : kindOf (s.link.at c).held (if step then 2 else 1) = some p)
    (h2 : p.cstate = 2) : exec (.acceptedDeadline c step) s =
      .next (let t := (s.setHeld c (if step then 2 else 1) none).commitAbort c
        if step = false ∧ p.sole = false ∧ s.hState = 2 then t.abortSwitch 0x46 else t) := by
  have hstate : ((s.setHeld c (if step then 2 else 1) none).commitAbort c).hState = s.hState :=
    (s.heldReleased_aborted c _).2.frame.read (by cases c <;> decide)
  refine congrArg Host.Outcome.next ((managed_running hr _).trans ?_)
  dsimp only
  rw [hp]
  dsimp only
  rw [if_pos h2, hstate]
  exact if_congr (by cases step <;> simp) rfl rfl

end

/-! ### The obligation -/

/-- Settles O28, command by command: a proposal sent or accepted is the one LINK_COMMIT shows, one that ends without arming is an abort, and
`managed` runs nothing while Plough is not RUNNING. -/
theorem twoWayCommitFollowsR135ToR139 : Obligations.TwoWayCommitFollowsR135ToR139 := by
  unfold Obligations.TwoWayCommitFollowsR135ToR139
  refine ⟨?_, ?_, ?_, ?_, ?_, ?_, ?_, ?_, ?_, ?_, ?_, ?_, ?_,
    fun s c step sole mf h => ⟨_, congrArg Host.Outcome.next (managed_frozen h _), rfl⟩,
    fun s c tag body h => ⟨_, congrArg Host.Outcome.next (managed_frozen h _), rfl⟩,
    fun s c tag rtt body h => ⟨_, congrArg Host.Outcome.next (managed_frozen h _), rfl⟩,
    fun s c step h => ⟨_, congrArg Host.Outcome.next (managed_frozen h _), rfl⟩,
    fun s c tag body h => ⟨_, congrArg Host.Outcome.next (managed_frozen h _), rfl⟩,
    fun s c tag body h => ⟨_, congrArg Host.Outcome.next (managed_frozen h _), rfl⟩,
    fun s c tag code rtt h => ⟨_, congrArg Host.Outcome.next (managed_frozen h _), rfl⟩,
    fun s c step h => ⟨_, congrArg Host.Outcome.next (managed_frozen h _), rfl⟩,
    fun s c step h => ⟨_, congrArg Host.Outcome.next (managed_frozen h _), rfl⟩⟩
  case refine_1 =>
    intro s c sole mf hr hnak hown hlead hheld hready
    obtain ⟨body, hsends⟩ := State.propose_sends sole hnak hown hlead hheld fun _ => hready
    obtain ⟨hkind, hm, hinit, hcstate, hf⟩ := s.proposed_holds c ⟨1, mf, sole, 1, s.linkTag c, body, 1⟩
    exact ⟨_, congrArg Host.Outcome.next ((managed_running hr _).trans hsends), congrArg (Option.map _) hkind, rfl, hm, hinit, hcstate,
      hf.keeps, hf.mem⟩
  case refine_2 =>
    intro s c mf hr hnak hown hlead hheld _
    obtain ⟨body, hsends⟩ := State.propose_sends false hnak hown hlead hheld fun h => absurd h (by decide)
    obtain ⟨hkind, hm, hinit, hcstate, hf⟩ := s.proposed_holds c ⟨2, mf, false, 1, s.linkTag c, body, 1⟩
    exact ⟨_, congrArg Host.Outcome.next ((managed_running hr _).trans hsends), congrArg (Option.map _) hkind, hm, hinit, hcstate, hf.plan,
      hf.keeps, hf.mem⟩
  case refine_3 =>
    intro s c tag body hr hans hl hk hs hnak hown
    refine ⟨_, exec_proposeReceived hr hans, ?_⟩
    rw [State.proposeReceived_held (s := s.mccTake c) hl hk hs hnak hown]
    obtain ⟨hheld, hanswered, hinit, hcstate, hf⟩ :=
      State.proposalHeld_holds (s := s.mccTake c) hown tag (beNat (slice body 0 1)) (beNat (slice body 2 3))
    split
    · exact ⟨congrArg (Option.map _) hheld, hanswered, hinit, hcstate, hf.keeps, hf.mem⟩
    · exact ⟨congrArg (Option.map _) hheld, hanswered, hinit, hcstate, hf.keeps, hf.mem⟩
  case refine_4 =>
    intro s c tag n body hr hans hl hk hs hnak
    refine ⟨_, exec_proposeReceived hr hans, ?_⟩
    rw [State.proposeReceived_refused (s := s.mccTake c) hl hk hs hnak]
    obtain ⟨hheld, hanswered, hnaks, hf⟩ := (s.mccTake c).proposeNak_holds c tag n
    exact ⟨hheld, hanswered, hnaks, hf.keeps⟩
  case refine_5 =>
    intro s c tag rtt body p hr hl hk hp h1 hm hlead ht
    refine ⟨_, exec_acceptReceived hr hl hk hp h1 hm ht, ?_⟩
    rw [if_pos hlead]
    obtain ⟨hkind, hf⟩ := (s.rttTaken c rtt).commits_holds c p
    have hall := (rttTaken_frame s c rtt).andThen hf
    exact ⟨congrArg (Option.map _) hkind, (hf.read (by cases c <;> decide)).trans (s.rttTaken_rtt c rtt), hall.keeps, hall.mem⟩
  case refine_6 =>
    intro s c tag rtt body p hr hl hk hp h1 hm hlead ht
    refine ⟨_, exec_acceptReceived hr hl hk hp h1 hm ht, ?_⟩
    rw [if_neg (by simp [hlead]), kindOf_kind hp]
    obtain ⟨hgone, habort⟩ := State.withdrawOwn_aborted (s := s.rttTaken c rtt) hp
    have hrtt := rttTaken_frame s c rtt
    exact ⟨hgone, habort.aborts.trans (by rw [hrtt.read (by cases c <;> decide)]), habort.flag, habort.frame.mem.trans hrtt.mem⟩
  case refine_7 =>
    intro s c p hr hp h2 hlt hready htime hA hB
    obtain ⟨hstate, hmf, hflag, hf⟩ := s.replanArmed_holds hlt
    rw [← State.replanCommit_armed hready htime hA hB] at hstate hmf hflag hf
    have hcommit := (setOwn_frame (s.replanCommit c p.m) c 1 (some { p with cstate := 3 })).mgrRaise (c := c) (n := 3)
    have hall := hf.andThen hcommit
    refine ⟨_, exec_commitLeftQueue hr hp h2 ⟨hstate, hmf⟩, (hcommit.read (by cases c <;> decide)).trans hstate,
      (hcommit.read (by cases c <;> decide)).trans hmf, ?_, hcommit.readFlag (by decide) (by cases c <;> decide) hflag,
      State.mgrRaise_flag _ c (by decide), hall.keeps, hall.mem⟩
    rw [State.mgrRaise, State.raiseEvent_link, State.setOwn_at, kindOf_putKind_some (p := { p with cstate := 3 }) (kindOf_kind (p := p) hp)]
    rfl
  case refine_8 =>
    intro s c tag body p hr hl hk hp h2 hm htime hfree
    obtain ⟨harmed, hmf, hf⟩ := (s.mccTake c).rxStepArm_holds c p.m
    have hcommit := (setHeld_frame ((s.mccTake c).rxStepArm c p.m) c 2 (some { p with cstate := 3 })).mgrRaise (c := c) (n := 3)
    have hall := hf.andThen hcommit
    refine ⟨_, exec_commitReceived hr hl hk hp h2 hm htime hfree, (hcommit.readOn (by cases c <;> decide)).trans harmed,
      (hcommit.read (by cases c <;> decide)).trans hmf, ?_, State.mgrRaise_flag _ c (by decide), hall.keeps, hall.mem⟩
    rw [State.mgrRaise, State.raiseEvent_link, State.setHeld_at, kindOf_putKind_some (p := { p with cstate := 3 }) (kindOf_kind (p := p) hp)]
    rfl
  case refine_9 =>
    intro s c tag body p hr hl hk hp h2 hm
    obtain ⟨hgone, habort⟩ := (s.mccTake c).heldReleased_aborted c (beNat (slice body 0 1))
    exact ⟨_, exec_withdrawReceived hr hl hk hp h2 hm, hgone, habort.aborts, habort.flag, habort.frame.mem⟩
  case refine_10 =>
    intro s c tag code rtt hr ht
    refine ⟨_, exec_nakReceived_caps hr ht code, ?_, ?_, s.answered_rtt c rtt, (answered_frame s c rtt).keeps⟩
    · rw [State.onLink_link, Duo.at_upd_same]
    · rw [State.onLink_link, Duo.at_upd_same, State.answered_link]
  case refine_11 =>
    intro s c tag code rtt p hr ht hfind hp
    refine ⟨_, exec_nakReceived_proposal hr ht hfind code, ?_⟩
    have hmem := (answered_frame s c rtt).mem
    split
    · obtain ⟨hgone, habort⟩ := State.withdrawOwn_aborted (s := s.answered c rtt) (c := c) (by rw [State.answered_link]; exact hp)
      exact ⟨hgone, fun _ => habort.flag, habort.frame.mem.trans hmem⟩
    next hcode =>
      refine ⟨?_, fun h => absurd h hcode, (setOwn_frame ..).mem.trans hmem⟩
      rw [State.setOwn_at]
      exact kindOf_putKind_none _ _
  case refine_12 =>
    intro s c step p hr hp h1
    obtain ⟨hgone, habort⟩ := State.withdrawOwn_aborted hp
    exact ⟨_, exec_proposalDeadline hr hp h1, hgone, habort.aborts, habort.flag, habort.frame.keeps, habort.frame.mem⟩
  case refine_13 =>
    intro s c step p hr hp h2
    refine ⟨_, exec_acceptedDeadline hr hp h2, ?_⟩
    obtain ⟨hgone, habort⟩ := s.heldReleased_aborted c (if step then 2 else 1)
    dsimp only
    generalize (s.setHeld c (if step then 2 else 1) none).commitAbort c = t at hgone habort
    split
    · obtain ⟨hread, hflags⟩ := abortSwitch_keeps t 0x46
      obtain ⟨hstate, hbuild, hreason, hmem⟩ := t.abortSwitch_holds (reason := 0x46)
      rw [State.abortSwitch_link]
      exact ⟨hgone, (hread _ (by cases c <;> decide)).trans habort.aborts, hflags _ habort.flag, ⟨hstate, hbuild, hreason⟩,
        hmem.trans habort.frame.mem⟩
    · exact ⟨hgone, habort.aborts, habort.flag, habort.frame.keeps, habort.frame.mem⟩

end Sys2Proof.Machine
end

section
/-!
SUPPORT and statement. Errors injected at a rate (R157), where INTERVAL is made shorter than the symbols since the last one changed.
-/
namespace Sys2Proof.Machine
open Sys2Proof

/-- A lane in DATA, its quad's PLL locked, that has sent 20 symbols since RATE_START at the INTERVAL of reset, which was then set to 16. -/
def State.rateShortened : State :=
  let sends := (State.reset.set (F.HOSTLANE_STATE.STATE 3) 4).set ⟨R.HOSTLANE_QUAD_STATUS, 0, 0⟩ 1
  ((sends.injRate 3).rateSymbols 3 20).set (F.HOSTLANE_INJ_RATE.INTERVAL 3) 16

theorem State.rateShortened_lane : (State.rateShortened.lane 3).rate = true ∧ (State.rateShortened.lane 3).single = false
    ∧ (State.rateShortened.lane 3).burst = none ∧ (State.rateShortened.lane 3).rateCount = 20
    ∧ State.rateShortened.get (F.HOSTLANE_INJ_RATE.INTERVAL 3) = 16 ∧ State.rateShortened.laneSilent 3 = false
    ∧ 3 < State.rateShortened.lanes.length := by
  decide +kernel

/-- The 21st symbol is no 16th one: it is sent unchanged. -/
theorem State.rateShortened_next : (State.rateShortened.rateSymbols 3 1).get (F.HOSTLANE_INJ_COUNT.INJECTED 3) = 0
    ∧ State.rateShortened.get (F.HOSTLANE_INJ_COUNT.INJECTED 3) = 0 := by
  decide +kernel

/-- Refutes O32: its clause on INJ_RATE_INTERVAL counts (symbols so far + symbols sent) / INTERVAL changed symbols in every state. A lane that has
sent 20 symbols when INTERVAL is set to 16, as `State.rateShortened`, is past one interval already and changes none of the next; the clause
counts one. (It lacks the condition that the symbols so far are fewer than INTERVAL.) -/
theorem not_checkerInjectorAndEye : ¬ Obligations.CheckerInjectorAndEye := by
  rintro ⟨-, -, -, -, -, -, -, -, -, -, -, -, -, -, -, hrate, -⟩
  obtain ⟨hr, hsingle, hburst, hcount, hevery, hsilent, hlen⟩ := State.rateShortened_lane
  obtain ⟨hnext, hbefore⟩ := State.rateShortened_next
  have hone : 1 ≤ State.rateShortened.get (F.HOSTLANE_INJ_RATE.INTERVAL 3) := by
    rw [hevery]
    decide
  obtain ⟨t, ht, hinjected, -⟩ := hrate State.rateShortened 3 1 hr hsingle hburst hone hsilent hlen
  obtain rfl : State.rateShortened.rateSymbols 3 1 = t := Host.Outcome.next.inj ht
  have hclause : (State.rateShortened.rateSymbols 3 1).get (F.HOSTLANE_INJ_COUNT.INJECTED 3) = min (F.HOSTLANE_INJ_COUNT.INJECTED 3).top
      (State.rateShortened.get (F.HOSTLANE_INJ_COUNT.INJECTED 3)
        + ((State.rateShortened.lane 3).rateCount + 1) / State.rateShortened.get (F.HOSTLANE_INJ_RATE.INTERVAL 3)) := hinjected
  rw [hnext, hbefore, hcount, hevery] at hclause
  exact absurd hclause (by decide)

end Sys2Proof.Machine
end

section
/-!
SUPPORT. Host lanes (chapter 7): the words and fields of a lane, its internal state, its events and violations (R161, R162).
-/
-- An argument that a tactic fills waits for all declarations before it: elaborated in parallel, such proofs would each hold a thread.
set_option Elab.async false

namespace Sys2Proof.Machine
open Sys2Proof

/-! ### Words and fields of the HOSTLANE block -/

/-- The words of a list and every word outside the HOSTLANE block. -/
def besideHost (l : List Nat) (a : Nat) : Prop := a ∈ l ∨ a < 0x800000 ∨ 0x880000 ≤ a

/-- Whether a field lies in the HOSTLANE block, in no INT_STATUS and in none of a list's words. -/
def hostField (l : List Nat) (f : Fld) : Bool := decide (0x800008 ≤ f.addr ∧ f.addr < 0x880000) && !l.contains f.addr

theorem hostField_iff {l : List Nat} {f : Fld} : hostField l f = true ↔ (0x800008 ≤ f.addr ∧ f.addr < 0x880000) ∧ f.addr ∉ l := by
  simp [hostField]

section
variable {s t : State} {lane : Fin 16} {l m : Nat → List Nat}

theorem Frame.besideHost {l m : List Nat} (h : Frame (· ∈ l) s t) (hm : l ⊆ m) : Frame (besideHost m) s t :=
  h.mono fun _ ha => .inl (hm ha)

theorem Frame.besideHostAbove {l : List Nat} {n : Nat} (h : Above n s t) (hn : 0x880000 ≤ n := by decide) : Frame (Machine.besideHost l) s t :=
  h.mono fun _ ha => .inr (.inr (Nat.le_trans hn ha))

/-- A field of a lane outside the words written stays. -/
theorem Frame.readLane (h : Frame (Machine.besideHost (l lane)) s t) (f : Nat → Fld)
    (hf : ∀ i : Fin 16, hostField (l i) (f i) = true := by decide) : t.get (f lane) = s.get (f lane) := by
  obtain ⟨⟨hlo, hhi⟩, hl⟩ := hostField_iff.mp (hf lane)
  refine h.get ⟨by omega, by omega⟩ ?_
  rintro (hm | ho)
  · exact hl hm
  · omega

/-- Setting a field of a lane leaves those apart from it. -/
theorem State.get_setLane (s : State) (lane : Fin 16) (f g : Nat → Fld) (v : Nat)
    (h : ∀ i : Fin 16, (apart (f i) (g i) && decide ((g i).lo ≤ (g i).hi ∧ (g i).hi < 32)) = true := by decide) :
    (s.set (g lane) v).get (f lane) = s.get (f lane) := by
  have hl := h lane
  simp only [Bool.and_eq_true, decide_eq_true_eq] at hl
  obtain ⟨hapart, hlo, hhi⟩ := hl
  exact s.get_set_apart v hlo hhi hapart

end

/-! ### One lane beyond its registers -/

/-- What an update of one lane keeps of it, it keeps of every lane. -/
theorem nth_modify_keeps {α β : Type} (p : α → β) {f : α → α} (hf : ∀ x, p (f x) = p x) (l : List α) (n m : Nat) (d : α) :
    p (nth (l.modify n f) m d) = p (nth l m d) := by
  simp only [nth, List.getD_eq_getElem?_getD, List.getElem?_modify]
  split
  · cases l[m]? with
    | none => rfl
    | some x => exact hf x
  · simp

theorem State.onLane_keeps {β : Type} (p : LaneSt → β) (s : State) (n m : Nat) {f : LaneSt → LaneSt} (hf : ∀ x, p (f x) = p x) :
    p ((s.onLane n f).lane m) = p (s.lane m) := nth_modify_keeps p hf s.lanes n m {}

theorem State.onLane_lane {s : State} {n : Nat} (h : n < s.lanes.length) (f : LaneSt → LaneSt) : (s.onLane n f).lane n = f (s.lane n) := by
  simp [State.lane, nth, h]

theorem State.lane_of_lanes {s t : State} (h : t.lanes = s.lanes) (n : Nat) : t.lane n = s.lane n := congrArg (fun l => nth l n ({} : LaneSt)) h

/-! ### Events and violations (R161, R162) -/

/-- A bit of a lane's EVENT register. -/
abbrev eventBit (b n : Nat) : Fld := ⟨R.HOSTLANE_EVENT n, b, b⟩

/-- The words that an event writes, and those of a violation. -/
def eventWords (n : Nat) : List Nat := [R.HOSTLANE_EVENT n]
def violationWords (n : Nat) : List Nat := [R.HOSTLANE_VIOLATION n, R.HOSTLANE_EVENT n]

/-- Past the bit itself, an event raises and notifies only. -/
theorem laneEvent_raises (s : State) (n b : Nat) : Frame (· ∈ []) (s.set (eventBit b n) 1) (s.laneEvent n b) :=
  have h := Frame.refl (· ∈ []) (s.set (eventBit b n) 1)
  Frame.ite (h.raise.ite h) (h.raise.ite h).event

theorem laneEvent_frame (s : State) (n b : Nat) : Frame (· ∈ eventWords n) s (s.laneEvent n b) :=
  ((Frame.refl _ s).set (List.mem_singleton_self _)).trans ((laneEvent_raises s n b).mono nofun)

theorem eventBit_outside (lane : Fin 16) (b : Nat) : outside [] (eventBit b lane) = true := by
  rw [outside_iff]
  simp only [ordinary, R.HOSTLANE_EVENT]
  exact ⟨by omega, nofun⟩

theorem State.laneEvent_on (s : State) (lane : Fin 16) {b : Nat} (hb : b < 32 := by decide) :
    (s.laneEvent lane b).on (eventBit b lane) = true :=
  ((laneEvent_raises s lane b).readOn (eventBit_outside lane b)).trans (s.on_setB_same _ true rfl hb)

/-- Event bits that are set stay set. -/
theorem State.laneEvent_keeps (s : State) (lane : Fin 16) {b k : Nat} (h : s.on (eventBit k lane) = true) (hb : b < 32 := by decide) :
    (s.laneEvent lane b).on (eventBit k lane) = true := by
  by_cases hk : k = b
  · rw [hk]
    exact s.laneEvent_on lane hb
  · refine ((laneEvent_raises s lane b).readOn (eventBit_outside lane k)).trans ((State.on_of_get ?_).trans h)
    refine s.get_set_apart _ (Nat.le_refl b) hb ?_
    simp only [apart, Bool.or_eq_true, decide_eq_true_eq]
    omega

@[simp] theorem State.laneEvent_lanes (s : State) (n b : Nat) : (s.laneEvent n b).lanes = s.lanes := by
  simp only [State.laneEvent]
  split_ifs <;> simp

theorem onlyRegs_laneEvent {s0 s : State} {l : List Nat} (h : s0.onlyRegs s l) {n : Nat} (ha : R.HOSTLANE_EVENT n ∈ l) (b : Nat) :
    s0.onlyRegs (s.laneEvent n b) l :=
  have h1 := onlyRegs_set h (f := eventBit b n) ha 1
  have h2 := onlyRegs_ite (onlyRegs_raise h1 0x10 n) h1
  onlyRegs_ite h2 (onlyRegs_event h2 _)

/-- The violation's record, before its event. -/
def State.violationCounted (s : State) (n code : Nat) : State := (s.bump (F.HOSTLANE_VIOLATION.COUNT n)).set (F.HOSTLANE_VIOLATION.LAST n) code

/-- What a violation of a code leaves behind (R161). -/
structure State.Violated (s t : State) (lane : Fin 16) (code : Nat) : Prop where
  last : t.get (F.HOSTLANE_VIOLATION.LAST lane) = code
  count : t.get (F.HOSTLANE_VIOLATION.COUNT lane) = min (F.HOSTLANE_VIOLATION.COUNT lane).top (s.get (F.HOSTLANE_VIOLATION.COUNT lane) + 1)
  raised : t.on (eventBit 7 lane) = true
  only : s.onlyRegs t (violationWords lane)

theorem violationCounted_onlyRegs (s : State) (n code : Nat) : s.onlyRegs (s.violationCounted n code) (violationWords n) :=
  have hm : R.HOSTLANE_VIOLATION n ∈ violationWords n := List.mem_cons_self
  onlyRegs_set (onlyRegs_bump (onlyRegs_refl s _) (f := F.HOSTLANE_VIOLATION.COUNT n) hm 1) (f := F.HOSTLANE_VIOLATION.LAST n) hm code

theorem violationCounted_frame (s : State) (n code : Nat) : Frame (· ∈ violationWords n) s (s.violationCounted n code) :=
  have h : Frame (· ∈ violationWords n) s (s.bump (F.HOSTLANE_VIOLATION.COUNT n)) := (Frame.refl _ s).set List.mem_cons_self
  h.set (f := F.HOSTLANE_VIOLATION.LAST n) List.mem_cons_self

theorem laneViolation_frame (s : State) (n code : Nat) : Frame (· ∈ violationWords n) s (s.laneViolation n code) :=
  (violationCounted_frame s n code).trans ((laneEvent_frame _ n 7).mono fun _ => List.mem_cons_of_mem _)

theorem State.violationCounted_get (s : State) (lane : Fin 16) (code : Nat) :
    (s.violationCounted lane code).get (F.HOSTLANE_VIOLATION.LAST lane) = code % 256 ∧
      (s.violationCounted lane code).get (F.HOSTLANE_VIOLATION.COUNT lane) =
        min (F.HOSTLANE_VIOLATION.COUNT lane).top (s.get (F.HOSTLANE_VIOLATION.COUNT lane) + 1) :=
  ⟨State.get_set_same _ _ code (Nat.le_of_ble_eq_true rfl) (by decide : 23 < 32),
    (State.get_setLane _ lane F.HOSTLANE_VIOLATION.COUNT F.HOSTLANE_VIOLATION.LAST code).trans
      (s.get_bump_same _ 1 (Nat.zero_le _) (by decide : 15 < 32))⟩

theorem State.laneViolation_holds (s : State) (lane : Fin 16) {code : Nat} (h : code < 256 := by decide) :
    s.Violated (s.laneViolation lane code) lane code :=
  have ⟨hlast, hcount⟩ := s.violationCounted_get lane code
  have hevent : Frame (Machine.besideHost (eventWords lane)) (s.violationCounted lane code) (s.laneViolation lane code) :=
    (laneEvent_frame _ lane 7).besideHost (List.Subset.refl _)
  { last := (hevent.readLane F.HOSTLANE_VIOLATION.LAST).trans (hlast.trans (Nat.mod_eq_of_lt h))
    count := (hevent.readLane F.HOSTLANE_VIOLATION.COUNT).trans hcount
    raised := State.laneEvent_on _ lane
    only := onlyRegs_laneEvent (violationCounted_onlyRegs s lane code) (List.mem_cons_of_mem _ List.mem_cons_self) 7 }

/-- Event bits that are set stay set. -/
theorem State.laneViolation_keeps (s : State) (lane : Fin 16) (code : Nat) {k : Nat} (h : s.on (eventBit k lane) = true) :
    (s.laneViolation lane code).on (eventBit k lane) = true := by
  refine State.laneEvent_keeps _ lane ((State.on_of_get ?_).trans h)
  have hne : (eventBit k lane).addr ≠ R.HOSTLANE_VIOLATION lane := by
    simp only [R.HOSTLANE_EVENT, R.HOSTLANE_VIOLATION]
    omega
  exact (State.get_set_other _ _ hne).trans (s.get_set_other _ hne)

@[simp] theorem State.laneViolation_lanes (s : State) (n code : Nat) : (s.laneViolation n code).lanes = s.lanes := by
  simp [State.laneViolation]

end Sys2Proof.Machine
end

section
/-!
SUPPORT. What a lane's symbols (R157) and its electrical idle (R153) write and leave.
-/
-- An argument that a tactic fills waits for all declarations before it: elaborated in parallel, such proofs would each hold a thread.
set_option Elab.async false

namespace Sys2Proof.Machine
open Sys2Proof

/-! ### Symbols sent (R157) -/

/-- What sending symbols leaves of a lane: its electrical idle and its entries to NO_SIGNAL. -/
def LaneSt.held (l : LaneSt) : Bool × Nat := (l.idle, l.noSignals)

theorem laneRun_frame (s : State) (n k : Nat) : Frame (· ∈ [R.HOSTLANE_INJ_COUNT n]) s (s.laneRun n k) := by
  have h := Frame.refl (· ∈ [R.HOSTLANE_INJ_COUNT n]) s
  have h1 : Frame (· ∈ [R.HOSTLANE_INJ_COUNT n]) s (s.bump (F.HOSTLANE_INJ_COUNT.INJECTED n) ((s.injMarks n k).filter (· = true)).length) :=
    h.set (List.mem_singleton_self _)
  exact Frame.ite h.fields h1.fields

theorem State.laneRun_get (s : State) {n : Nat} (k : Nat) {f : Fld} (hf : f.addr ≠ R.HOSTLANE_INJ_COUNT n) : (s.laneRun n k).get f = s.get f := by
  unfold State.laneRun
  dsimp only
  split
  · rfl
  · exact s.get_set_other (f := F.HOSTLANE_INJ_COUNT.INJECTED n) _ hf

theorem State.laneRun_lanes (s : State) (n k : Nat) :
    ∃ f : LaneSt → LaneSt, (s.laneRun n k).lanes = s.lanes.modify n f ∧ ∀ l, (f l).held = l.held := by
  unfold State.laneRun
  dsimp only
  split <;> exact ⟨_, rfl, fun _ => rfl⟩

theorem State.laneRun_held (s : State) (n k m : Nat) : ((s.laneRun n k).lane m).held = (s.lane m).held := by
  obtain ⟨f, hl, hf⟩ := s.laneRun_lanes n k
  rw [State.lane, hl]
  exact nth_modify_keeps LaneSt.held hf s.lanes n m {}

/-! ### Electrical idle (R144, R153, R159) -/

/-- What IN_IDLE shows: the transmitter is silent, or near-end loopback idles the ball. -/
def State.ballIdle (s : State) (n : Nat) : Bool := s.laneSilent n || s.on (F.HOSTLANE_CTRL.LOOP_NEAR n)

/-- The words that a change of electrical idle writes. -/
def idleWords (n : Nat) : List Nat := [R.HOSTLANE_TX_CFG n, R.HOSTLANE_INJ_COUNT n]

/-- IN_IDLE written, before a SINGLE that waits is sent. -/
def State.idleShown (s : State) (n : Nat) : State := s.setB (F.HOSTLANE_TX_CFG.IN_IDLE n) (s.ballIdle n)

theorem State.showIdle_eq (s : State) (n : Nat) :
    s.showIdle n = if ((s.idleShown n).lane n).single then (s.idleShown n).singleRun n else s.idleShown n := rfl

theorem showIdle_frame (s : State) (n : Nat) : Frame (· ∈ idleWords n) s (s.showIdle n) := by
  have h : Frame (· ∈ idleWords n) s (s.idleShown n) := (Frame.refl _ s).set List.mem_cons_self
  exact (h.trans ((laneRun_frame _ n _).mono fun _ => List.mem_cons_of_mem _)).ite h

theorem State.showIdle_get (s : State) {n : Nat} {f : Fld} (hf : f.addr ≠ R.HOSTLANE_INJ_COUNT n) :
    (s.showIdle n).get f = (s.idleShown n).get f := by
  rw [State.showIdle_eq]
  split
  · exact State.laneRun_get _ _ hf
  · rfl

/-- Fields apart from IN_IDLE stay, but for the injector's count. -/
theorem State.showIdle_apart (s : State) {n : Nat} {f : Fld} (hf : f.addr ≠ R.HOSTLANE_INJ_COUNT n)
    (ha : apart f (F.HOSTLANE_TX_CFG.IN_IDLE n) = true) : (s.showIdle n).get f = s.get f :=
  (s.showIdle_get hf).trans (s.get_set_apart _ (Nat.le_refl 4) (by decide : 4 < 32) ha)

theorem State.showIdle_inIdle (s : State) (n : Nat) : (s.showIdle n).on (F.HOSTLANE_TX_CFG.IN_IDLE n) = s.ballIdle n := by
  refine (State.on_of_get (s.showIdle_get ?_)).trans (s.on_setB_same _ _ rfl (by decide : 4 < 32))
  simp only [F.HOSTLANE_TX_CFG.IN_IDLE, R.HOSTLANE_TX_CFG, R.HOSTLANE_INJ_COUNT]
  omega

theorem State.showIdle_held (s : State) (n m : Nat) : ((s.showIdle n).lane m).held = (s.lane m).held := by
  rw [State.showIdle_eq]
  split
  · exact State.laneRun_held _ _ _ _
  · rfl

/-- TX_IDLE in force or withdrawn, before a wake burst. -/
def State.idleSet (s : State) (n : Nat) (v : Bool) : State :=
  (s.onLane n fun l => { l with
    idle := v
    wakeOwed := !v && s.laneState n = 4 && !s.pllLocked n && (((s.lane n).idle && !v && s.laneState n = 4) || (s.lane n).wakeOwed) }).showIdle n

theorem State.laneIdle_cases (s : State) (n : Nat) (v : Bool) :
    s.laneIdle n v = (s.idleSet n v).wakeSend n ∨ s.laneIdle n v = s.idleSet n v := by
  unfold State.laneIdle
  dsimp only
  split
  · exact .inl rfl
  · exact .inr rfl

theorem idleSet_frame (s : State) (n : Nat) (v : Bool) : Frame (· ∈ idleWords n) s (s.idleSet n v) :=
  (Frame.refl _ s).onLane.trans (showIdle_frame _ n)

theorem laneIdle_frame (s : State) (n : Nat) (v : Bool) : Frame (· ∈ idleWords n) s (s.laneIdle n v) := by
  obtain h | h := s.laneIdle_cases n v
  · exact h ▸ (idleSet_frame s n v).wakeSend
  · exact h ▸ idleSet_frame s n v

theorem State.precoderRestart_regs (s : State) (n : Nat) (receive : Bool) : (s.precoderRestart n receive).regs = s.regs := by
  simp [State.precoderRestart]

theorem State.wakeSend_regs (s : State) (n : Nat) : (s.wakeSend n).regs = s.regs := by
  simp [State.wakeSend, State.precoderRestart_regs]

theorem State.precoderRestart_held (s : State) (n m : Nat) (receive : Bool) : ((s.precoderRestart n receive).lane m).held = (s.lane m).held := by
  refine nth_modify_keeps LaneSt.held (fun l => ?_) s.lanes n m {}
  split <;> rfl

theorem State.wakeSend_held (s : State) (n m : Nat) : ((s.wakeSend n).lane m).held = (s.lane m).held :=
  (State.precoderRestart_held _ n m false).trans
    (nth_modify_keeps LaneSt.held (f := fun l => { l with wakeOwed := false }) (fun _ => rfl) s.lanes n m {})

theorem State.laneIdle_get (s : State) (n : Nat) (v : Bool) (f : Fld) : (s.laneIdle n v).get f = (s.idleSet n v).get f := by
  obtain h | h := s.laneIdle_cases n v
  · rw [h, State.get, State.get, State.rd, State.wakeSend_regs]
    rfl
  · rw [h]

theorem State.laneIdle_apart (s : State) {n : Nat} (v : Bool) {f : Fld} (hf : f.addr ≠ R.HOSTLANE_INJ_COUNT n)
    (ha : apart f (F.HOSTLANE_TX_CFG.IN_IDLE n) = true) : (s.laneIdle n v).get f = s.get f :=
  (s.laneIdle_get n v f).trans (State.showIdle_apart _ hf ha)

theorem State.laneIdle_lane (s : State) (n : Nat) (v : Bool) : ((s.laneIdle n v).lane n).held = ((s.idleSet n v).lane n).held := by
  obtain h | h := s.laneIdle_cases n v
  · exact h ▸ State.wakeSend_held _ n n
  · rw [h]

theorem State.laneIdle_noSignals (s : State) (n : Nat) (v : Bool) : ((s.laneIdle n v).lane n).noSignals = (s.lane n).noSignals :=
  (congrArg Prod.snd ((s.laneIdle_lane n v).trans (State.showIdle_held _ n n))).trans (s.onLane_keeps LaneSt.noSignals n n fun _ => rfl)

theorem State.laneIdle_idle {s : State} {n : Nat} (h : n < s.lanes.length) (v : Bool) : ((s.laneIdle n v).lane n).idle = v := by
  refine (congrArg Prod.fst ((s.laneIdle_lane n v).trans (State.showIdle_held _ n n))).trans ?_
  rw [State.onLane_lane h]
  rfl

end Sys2Proof.Machine
end

section
/-!
SUPPORT. Entries to the states of Table 7.1: a client port that follows its lanes leaves them (Table 8.3); what an entry makes of the lane's
`STATE` word; what it leaves.
-/
-- An argument that a tactic fills waits for all declarations before it: elaborated in parallel, such proofs would each hold a thread.
set_option Elab.async false

namespace Sys2Proof.Machine
open Sys2Proof

/-! ### Client ports leave the lanes -/

@[simp] theorem State.tapped_lanes (s : State) (u tap inst : Nat) (x : TapInstant) : (s.tapped u tap inst x).lanes = s.lanes := by
  unfold State.tapped
  split <;> rfl

@[simp] theorem State.toCarriers_lanes (s : State) (p : Nat) (rec : List Byte) : (s.toCarriers p rec).lanes = s.lanes := by
  simp only [State.toCarriers]
  split_ifs <;> simp

@[simp] theorem State.firstMark_lanes (s : State) (p : Nat) : (s.firstMark p).lanes = s.lanes := by
  unfold State.firstMark
  split <;> rfl

@[simp] theorem State.markIfDue_lanes (s : State) (p : Nat) : (s.markIfDue p).lanes = s.lanes := by
  simp only [State.markIfDue]
  split_ifs <;> simp

@[simp] theorem State.toLine_lanes (s : State) (p : Nat) (rec : List Byte) : (s.toLine p rec).lanes = s.lanes := by
  simp [State.toLine]

@[simp] theorem State.stampOut_lanes (s : State) (p : Nat) (b : List Byte) (err : Bool) : (s.stampOut p b err).2.lanes = s.lanes := by
  have hraised (t : State) (f : Fld) (bit code : Nat) : ((t.bump f).raiseOnce 0x14 bit code).lanes = t.lanes :=
    (State.raiseOnce_lanes _ _ _ _).trans (State.bump_lanes _ _ _)
  unfold State.stampOut
  split
  · split
    · dsimp only
      split
      · exact State.bump_lanes _ _ _
      · split
        · exact hraised s _ _ _
        · dsimp only
          split
          · exact State.bump_lanes _ _ _
          · exact (hraised _ _ _ _).trans (State.bump_lanes _ _ _)
    · rfl
  · rfl

@[simp] theorem State.toHost_lanes (s : State) (p : Nat) (b : List Byte) (err : Bool) : (s.toHost p b err).lanes = s.lanes := by
  simp only [State.toHost]
  split_ifs <;> simp

@[simp] theorem State.forwardToHost_lanes (s : State) (p : Nat) (rec : List Byte) : (s.forwardToHost p rec).lanes = s.lanes := by
  unfold State.forwardToHost
  split <;> simp

@[simp] theorem State.ingressRecord_lanes (s : State) (p : Nat) (rec : List Byte) : (s.ingressRecord p rec).lanes = s.lanes := by
  simp only [State.ingressRecord]
  split_ifs <;> simp

@[simp] theorem State.toIngress_lanes (s : State) (p st : Nat) : (s.toIngress p st).lanes = s.lanes := rfl

@[simp] theorem State.clientEvent_lanes (s : State) (p b : Nat) : (s.clientEvent p b).lanes = s.lanes := by
  simp only [State.clientEvent]
  split_ifs <;> simp

@[simp] theorem State.ingressDown_lanes (s : State) (p : Nat) : (s.ingressDown p).lanes = s.lanes := by
  simp only [State.ingressDown]
  split_ifs <;> simp

@[simp] theorem State.lanesChanged_lanes (s : State) (p : Nat) : (s.lanesChanged p).lanes = s.lanes := by
  unfold State.lanesChanged
  split
  · rfl
  · split
    case h_4 => rfl
    all_goals split_ifs <;> simp

/-! ### The stages of an entry -/

/-- The lane's `STATE` word at an entry: the state; in DISABLED no signal; a CDR without lock but in TRAIN, DATA and FAILED. -/
def State.laneShown (s : State) (n st : Nat) : State :=
  let s := s.set (F.HOSTLANE_STATE.STATE n) st
  let s := if st = 0 then s.set (F.HOSTLANE_STATE.SIGNAL n) 0 else s
  if st = 3 || st = 4 || st = 6 then s else s.set (F.HOSTLANE_STATE.CDR_LOCK n) 0

/-- A waiting HOST_LANE record is taken at DETECT. -/
def State.laneRecord (s : State) (n st : Nat) : State := if st = 2 then s.laneCalibrate n else s

/-- Electrical idle and the eye figures follow the state. -/
def State.laneSettled (s : State) (n st : Nat) : State :=
  let s := s.laneIdle n (if st = 4 then s.on (F.HOSTLANE_TX_CFG.TX_IDLE n) else st = 5 && (s.lane n).idle)
  if st = 4 then s else s.set (F.HOSTLANE_EYE_HEIGHT.VALID n) 0

/-- The client port follows its lane. -/
def State.portFollows (s : State) (n : Nat) : State :=
  match s.lanePort n with
  | some p => s.lanesChanged p
  | none => s

theorem State.portFollows_some {s : State} {n p : Nat} (h : s.lanePort n = some p) : s.portFollows n = s.lanesChanged p := by
  simp only [State.portFollows, h]

theorem State.portFollows_none {s : State} {n : Nat} (h : s.lanePort n = none) : s.portFollows n = s := by
  simp only [State.portFollows, h]

theorem State.toLane_eq (s : State) (n st : Nat) : s.toLane n st = (((s.laneShown n st).laneRecord n st).laneSettled n st).portFollows n := by
  simp only [State.toLane]
  split
  next p h => exact (State.portFollows_some h).symm
  next h => exact (State.portFollows_none h).symm

/-- The words that an entry writes beside `STATE`: those of a record taken, and those of electrical idle and the eye. -/
def recordWords (n : Nat) : List Nat := [R.HOSTLANE_TX_FFE_PRE n, R.HOSTLANE_TX_FFE_POST n, R.HOSTLANE_TX_CFG n, R.HOSTLANE_RX_CFG n]
def settledWords (n : Nat) : List Nat := R.HOSTLANE_EYE_HEIGHT n :: idleWords n
def followWords (n : Nat) : List Nat := recordWords n ++ settledWords n

theorem laneStart_frame (s : State) (n : Nat) (body : List Byte) : Frame (· ∈ recordWords n) s (s.laneStart n body) := by
  have h := (Frame.refl (· ∈ recordWords n) s).wr (a := R.HOSTLANE_TX_FFE_PRE n) (w := calWord body 0 &&& 0xFFFFFF) (by simp [recordWords])
  have h := h.wr (a := R.HOSTLANE_TX_FFE_POST n) (w := calWord body 1 &&& 0xFFFFFF) (by simp [recordWords])
  have h := h.set (f := F.HOSTLANE_TX_CFG.AMPLITUDE n) (v := bitsOf (calWord body 2) 22 16) (by simp [recordWords, F.HOSTLANE_TX_CFG.AMPLITUDE])
  exact h.set (f := F.HOSTLANE_RX_CFG.CTLE_SET n) (by simp [recordWords, F.HOSTLANE_RX_CFG.CTLE_SET])

theorem laneRecord_frame (s : State) (n st : Nat) : Frame (besideHost (recordWords n)) s (s.laneRecord n st) := by
  have hset (t : State) : Frame (besideHost (recordWords n)) t (t.calSettle (16 + n)) := by
    refine (calSettle_frame t (16 + n)).mono fun a ha => .inr (.inr ?_)
    rw [List.mem_singleton.mp ha, R.CAL_SLOT]
    omega
  unfold State.laneRecord State.laneCalibrate
  refine Frame.ite ?_ (Frame.refl _ s)
  split
  · exact ((laneStart_frame s n _).besideHost (List.Subset.refl _)).trans (hset _)
  · exact Frame.refl _ s

theorem laneSettled_frame (s : State) (n st : Nat) : Frame (· ∈ settledWords n) s (s.laneSettled n st) := by
  have h (v : Bool) : Frame (· ∈ settledWords n) s (s.laneIdle n v) := (laneIdle_frame s n v).mono fun _ => List.mem_cons_of_mem _
  exact (h _).ite ((h _).set List.mem_cons_self)

theorem portFollows_frame (s : State) (n : Nat) (l : List Nat) : Frame (besideHost l) s (s.portFollows n) := by
  unfold State.portFollows
  split
  · exact (Frame.refl (0x900000 ≤ ·) s).lanesChanged.besideHostAbove
  · exact Frame.refl _ s

theorem toLane_follows (s : State) (n st : Nat) : Frame (besideHost (followWords n)) (s.laneShown n st) (s.toLane n st) := by
  rw [State.toLane_eq]
  refine Frame.trans ((laneRecord_frame _ n st).mono fun _ ha => ha.imp_left (List.mem_append_left _)) ?_
  exact ((laneSettled_frame _ n st).besideHost (List.subset_append_right _ _)).trans (portFollows_frame _ n _)

/-! ### The `STATE` word -/

theorem laneShown_frame (s : State) (n st : Nat) : Frame (· ∈ [R.HOSTLANE_STATE n]) s (s.laneShown n st) := by
  have hm : R.HOSTLANE_STATE n ∈ [R.HOSTLANE_STATE n] := List.mem_singleton_self _
  have h1 : Frame (· ∈ [R.HOSTLANE_STATE n]) s (s.set (F.HOSTLANE_STATE.STATE n) st) := (Frame.refl _ s).set hm
  have h2 := (h1.set (f := F.HOSTLANE_STATE.SIGNAL n) (v := 0) hm).ite (c := st = 0) h1
  exact Frame.ite h2 (h2.set hm)

theorem State.laneShown_apart (s : State) (lane : Fin 16) (st : Nat) (f : Nat → Fld)
    (hf : ∀ i : Fin 16, (apart (f i) (F.HOSTLANE_STATE.STATE i) && apart (f i) (F.HOSTLANE_STATE.SIGNAL i)
      && apart (f i) (F.HOSTLANE_STATE.CDR_LOCK i)) = true := by decide) : (s.laneShown lane st).get (f lane) = s.get (f lane) := by
  have hl := hf lane
  simp only [Bool.and_eq_true] at hl
  obtain ⟨⟨hstate, hsignal⟩, hcdr⟩ := hl
  have h1 : (s.set (F.HOSTLANE_STATE.STATE lane) st).get (f lane) = s.get (f lane) :=
    s.get_set_apart _ (Nat.zero_le _) (by decide : 2 < 32) hstate
  have h2 (t : State) : (t.set (F.HOSTLANE_STATE.SIGNAL lane) 0).get (f lane) = t.get (f lane) :=
    t.get_set_apart _ (Nat.le_refl 5) (by decide : 5 < 32) hsignal
  have h3 (t : State) : (t.set (F.HOSTLANE_STATE.CDR_LOCK lane) 0).get (f lane) = t.get (f lane) :=
    t.get_set_apart _ (Nat.le_refl 4) (by decide : 4 < 32) hcdr
  unfold State.laneShown
  dsimp only
  split_ifs <;> simp only [h1, h2, h3]

theorem State.laneShown_state (s : State) (lane : Fin 16) {st : Nat} (h : st < 8) : (s.laneShown lane st).laneState lane = st := by
  have h1 : (s.set (F.HOSTLANE_STATE.STATE lane) st).get (F.HOSTLANE_STATE.STATE lane) = st :=
    (s.get_set_same _ _ (Nat.zero_le _) (by decide : 2 < 32)).trans (Nat.mod_eq_of_lt h)
  have h2 (t : State) := t.get_setLane lane F.HOSTLANE_STATE.STATE F.HOSTLANE_STATE.SIGNAL 0
  have h3 (t : State) := t.get_setLane lane F.HOSTLANE_STATE.STATE F.HOSTLANE_STATE.CDR_LOCK 0
  unfold State.laneState State.laneShown
  dsimp only
  split_ifs <;> simp only [h1, h2, h3]

theorem State.laneShown_signal (s : State) (lane : Fin 16) {st : Nat} (h : st ≠ 0) :
    (s.laneShown lane st).on (F.HOSTLANE_STATE.SIGNAL lane) = s.on (F.HOSTLANE_STATE.SIGNAL lane) := by
  have h1 := s.get_setLane lane F.HOSTLANE_STATE.SIGNAL F.HOSTLANE_STATE.STATE st
  have h3 (t : State) := t.get_setLane lane F.HOSTLANE_STATE.SIGNAL F.HOSTLANE_STATE.CDR_LOCK 0
  unfold State.on State.laneShown
  dsimp only
  rw [if_neg h]
  split_ifs <;> simp only [h1, h3]

theorem State.laneShown_cdr (s : State) (lane : Fin 16) {st : Nat} (h : st = 3 ∨ st = 4 ∨ st = 6) :
    (s.laneShown lane st).on (F.HOSTLANE_STATE.CDR_LOCK lane) = s.on (F.HOSTLANE_STATE.CDR_LOCK lane) := by
  have h0 : st ≠ 0 := by omega
  unfold State.on State.laneShown
  dsimp only
  rw [if_pos (by simpa [or_assoc] using h), if_neg h0]
  rw [s.get_setLane lane F.HOSTLANE_STATE.CDR_LOCK F.HOSTLANE_STATE.STATE st]

theorem State.laneShown_cdrLost (s : State) (lane : Fin 16) {st : Nat} (h3 : st ≠ 3) (h4 : st ≠ 4) (h6 : st ≠ 6) :
    (s.laneShown lane st).on (F.HOSTLANE_STATE.CDR_LOCK lane) = false := by
  unfold State.laneShown
  dsimp only
  rw [if_neg (by simp [h3, h4, h6])]
  exact State.on_set_zero _ _ (Nat.le_refl 4) (by decide : 4 < 32)

/-! ### An entry -/

theorem State.toLane_mem (s : State) (n st : Nat) : (s.toLane n st).mem = s.mem :=
  (toLane_follows s n st).mem.trans (laneShown_frame s n st).mem

/-- A field of the `STATE` word reads as the entry wrote it. -/
theorem State.toLane_status (s : State) (lane : Fin 16) (st : Nat) (f : Nat → Fld)
    (hf : ∀ i : Fin 16, hostField (followWords i) (f i) = true := by decide) :
    (s.toLane lane st).get (f lane) = (s.laneShown lane st).get (f lane) :=
  (toLane_follows s lane st).readLane f hf

theorem State.toLane_laneState (s : State) (lane : Fin 16) {st : Nat} (h : st < 8 := by decide) : (s.toLane lane st).laneState lane = st :=
  (s.toLane_status lane st F.HOSTLANE_STATE.STATE).trans (s.laneShown_state lane h)

theorem State.toLane_signal (s : State) (lane : Fin 16) {st : Nat} (h : st ≠ 0 := by decide) :
    (s.toLane lane st).on (F.HOSTLANE_STATE.SIGNAL lane) = s.on (F.HOSTLANE_STATE.SIGNAL lane) :=
  (State.on_of_get (s.toLane_status lane st F.HOSTLANE_STATE.SIGNAL)).trans (s.laneShown_signal lane h)

theorem State.toLane_cdr (s : State) (lane : Fin 16) {st : Nat} (h : st = 3 ∨ st = 4 ∨ st = 6 := by decide) :
    (s.toLane lane st).on (F.HOSTLANE_STATE.CDR_LOCK lane) = s.on (F.HOSTLANE_STATE.CDR_LOCK lane) :=
  (State.on_of_get (s.toLane_status lane st F.HOSTLANE_STATE.CDR_LOCK)).trans (s.laneShown_cdr lane h)

theorem State.toLane_cdrLost (s : State) (lane : Fin 16) {st : Nat} (h3 : st ≠ 3 := by decide) (h4 : st ≠ 4 := by decide)
    (h6 : st ≠ 6 := by decide) : (s.toLane lane st).on (F.HOSTLANE_STATE.CDR_LOCK lane) = false :=
  (State.on_of_get (s.toLane_status lane st F.HOSTLANE_STATE.CDR_LOCK)).trans (s.laneShown_cdrLost lane h3 h4 h6)

/-- A field apart from those that show the state, in no other word that an entry writes. -/
theorem State.toLane_get (s : State) (lane : Fin 16) (st : Nat) (f : Nat → Fld)
    (hf : ∀ i : Fin 16, hostField (followWords i) (f i) = true := by decide)
    (ha : ∀ i : Fin 16, (apart (f i) (F.HOSTLANE_STATE.STATE i) && apart (f i) (F.HOSTLANE_STATE.SIGNAL i)
      && apart (f i) (F.HOSTLANE_STATE.CDR_LOCK i)) = true := by decide) : (s.toLane lane st).get (f lane) = s.get (f lane) :=
  (s.toLane_status lane st f hf).trans (s.laneShown_apart lane st f ha)

/-- Event bits that are set stay set. -/
theorem State.toLane_events (s : State) (lane : Fin 16) (st : Nat) {k : Nat} (h : s.on (eventBit k lane) = true) :
    (s.toLane lane st).on (eventBit k lane) = true := by
  have hwords : ∀ i : Fin 16, hostField (followWords i) ⟨R.HOSTLANE_EVENT i, 0, 0⟩ = true := by decide
  obtain ⟨⟨hlo, hhi⟩, hl⟩ := hostField_iff.mp (hwords lane)
  dsimp only at hlo hhi hl
  have hfollows : (s.toLane lane st).get (eventBit k lane) = (s.laneShown lane st).get (eventBit k lane) := by
    refine (toLane_follows s lane st).get ⟨?_, ?_⟩ ?_
    · exact Nat.lt_of_lt_of_le hhi (by decide)
    · dsimp only
      omega
    · rintro (hm | ho)
      · exact hl hm
      · dsimp only at ho
        omega
  have hshown : (s.laneShown lane st).get (eventBit k lane) = s.get (eventBit k lane) := by
    refine (laneShown_frame s lane st).get (outside_iff.mp (eventBit_outside lane k)).1 fun hm => ?_
    simp only [List.mem_singleton, R.HOSTLANE_EVENT, R.HOSTLANE_STATE] at hm
    omega
  exact (State.on_of_get (hfollows.trans hshown)).trans h

theorem State.laneShown_lanes (s : State) (n st : Nat) : (s.laneShown n st).lanes = s.lanes := by
  simp only [State.laneShown]
  split_ifs <;> simp only [State.set_lanes]

theorem State.calRaise_lanes (s : State) (bit : Nat) : (s.calRaise bit).lanes = s.lanes := by
  unfold State.calRaise
  split
  · exact State.raise_lanes _ _ _
  · exact State.raiseEvent_lanes _ _ _ _

theorem State.calSettle_lanes (s : State) (slot : Nat) : (s.calSettle slot).lanes = s.lanes := by
  unfold State.calSettle
  dsimp only
  split
  · exact (State.calRaise_lanes _ 5).trans (State.set_lanes _ _ _)
  · exact State.set_lanes _ _ _

theorem State.laneStart_lanes (s : State) (n : Nat) (body : List Byte) : (s.laneStart n body).lanes = s.lanes :=
  (State.set_lanes _ _ _).trans ((State.set_lanes _ _ _).trans ((State.wr_lanes _ _ _).trans (State.wr_lanes _ _ _)))

theorem State.laneRecord_lanes (s : State) (n st : Nat) : (s.laneRecord n st).lanes = s.lanes := by
  unfold State.laneRecord State.laneCalibrate
  split
  · split
    · exact (State.calSettle_lanes _ _).trans (State.laneStart_lanes _ _ _)
    · rfl
  · rfl

theorem State.laneSettled_lane (s : State) (n st : Nat) : ∃ v, (s.laneSettled n st).lane n = (s.laneIdle n v).lane n := by
  unfold State.laneSettled
  dsimp only
  split
  · exact ⟨_, rfl⟩
  · exact ⟨_, State.lane_of_lanes (State.set_lanes _ _ _) n⟩

theorem State.portFollows_lanes (s : State) (n : Nat) : (s.portFollows n).lanes = s.lanes := by
  unfold State.portFollows
  split
  · exact s.lanesChanged_lanes _
  · rfl

theorem State.toLane_noSignals (s : State) (n st : Nat) : ((s.toLane n st).lane n).noSignals = (s.lane n).noSignals := by
  obtain ⟨v, hsettled⟩ := ((s.laneShown n st).laneRecord n st).laneSettled_lane n st
  rw [State.toLane_eq, State.lane_of_lanes (State.portFollows_lanes _ n), hsettled, State.laneIdle_noSignals,
    State.lane_of_lanes (State.laneRecord_lanes _ n st), State.lane_of_lanes (s.laneShown_lanes n st)]

end Sys2Proof.Machine
end

section
/-!
SUPPORT. The transitions of Table 7.2: DATA from DETECT or TRAIN, FAILED, NO_SIGNAL and HOLDOFF, training and RETRAIN.
-/
-- An argument that a tactic fills waits for all declarations before it: elaborated in parallel, such proofs would each hold a thread.
set_option Elab.async false

namespace Sys2Proof.Machine
open Sys2Proof

/-! ### What events and entries leave of a lane's fields -/

theorem State.laneEvent_get (s : State) (lane : Fin 16) (b : Nat) (f : Nat → Fld)
    (hf : ∀ i : Fin 16, hostField (eventWords i) (f i) = true := by decide) : (s.laneEvent lane b).get (f lane) = s.get (f lane) :=
  ((laneEvent_frame s lane b).besideHost (List.Subset.refl _)).readLane f hf

theorem State.laneEvent_laneState (s : State) (lane : Fin 16) (b : Nat) : (s.laneEvent lane b).laneState lane = s.laneState lane :=
  s.laneEvent_get lane b F.HOSTLANE_STATE.STATE

theorem State.laneViolation_get (s : State) (lane : Fin 16) (code : Nat) (f : Nat → Fld)
    (hf : ∀ i : Fin 16, hostField (violationWords i) (f i) = true := by decide) : (s.laneViolation lane code).get (f lane) = s.get (f lane) :=
  ((laneViolation_frame s lane code).besideHost (List.Subset.refl _)).readLane f hf

theorem State.laneViolation_laneState (s : State) (lane : Fin 16) (code : Nat) : (s.laneViolation lane code).laneState lane = s.laneState lane :=
  s.laneViolation_get lane code F.HOSTLANE_STATE.STATE

/-- Event bits stay when a field of another word is set. -/
theorem State.set_eventBit (s : State) (lane : Fin 16) (k v : Nat) (g : Nat → Fld)
    (hg : ∀ i : Fin 16, (g i).addr ≠ R.HOSTLANE_EVENT i := by decide) : (s.set (g lane) v).on (eventBit k lane) = s.on (eventBit k lane) :=
  State.on_of_get (s.get_set_other v (hg lane).symm)

/-- Whether a field lies in the HOSTLANE block and apart from what an entry to another state than DETECT writes. -/
def entryApart (n : Nat) (f : Fld) : Bool :=
  hostField [R.HOSTLANE_INJ_COUNT n] f && apart f (F.HOSTLANE_TX_CFG.IN_IDLE n) && apart f (F.HOSTLANE_EYE_HEIGHT.VALID n)
    && (apart f (F.HOSTLANE_STATE.STATE n) && apart f (F.HOSTLANE_STATE.SIGNAL n) && apart f (F.HOSTLANE_STATE.CDR_LOCK n))

theorem entryApart_iff {n : Nat} {f : Fld} : entryApart n f = true ↔ hostField [R.HOSTLANE_INJ_COUNT n] f = true
    ∧ apart f (F.HOSTLANE_TX_CFG.IN_IDLE n) = true ∧ apart f (F.HOSTLANE_EYE_HEIGHT.VALID n) = true
    ∧ (apart f (F.HOSTLANE_STATE.STATE n) && apart f (F.HOSTLANE_STATE.SIGNAL n) && apart f (F.HOSTLANE_STATE.CDR_LOCK n)) = true := by
  simp [entryApart, and_assoc]

theorem State.laneSettled_apart (s : State) {n : Nat} (st : Nat) {f : Fld} (hf : f.addr ≠ R.HOSTLANE_INJ_COUNT n)
    (hidle : apart f (F.HOSTLANE_TX_CFG.IN_IDLE n) = true) (heye : apart f (F.HOSTLANE_EYE_HEIGHT.VALID n) = true) :
    (s.laneSettled n st).get f = s.get f := by
  unfold State.laneSettled
  dsimp only
  split
  · exact s.laneIdle_apart _ hf hidle
  · exact (State.get_set_apart _ _ (Nat.le_refl 31) (by decide : 31 < 32) heye).trans (s.laneIdle_apart _ hf hidle)

theorem State.toLane_keeps (s : State) (lane : Fin 16) {st : Nat} (h : st ≠ 2) (f : Nat → Fld)
    (hf : ∀ i : Fin 16, entryApart i (f i) = true := by decide) : (s.toLane lane st).get (f lane) = s.get (f lane) := by
  have hapart (i : Fin 16) := entryApart_iff.mp (hf i)
  obtain ⟨hhost, hidle, heye, -⟩ := hapart lane
  have hcount : (f lane).addr ≠ R.HOSTLANE_INJ_COUNT lane := fun ha => (hostField_iff.mp hhost).2 (List.mem_singleton.mpr ha)
  rw [State.toLane_eq, State.laneRecord, if_neg h]
  calc (((s.laneShown lane st).laneSettled lane st).portFollows lane).get (f lane)
    _ = ((s.laneShown lane st).laneSettled lane st).get (f lane) :=
      Frame.readLane (l := fun i => [R.HOSTLANE_INJ_COUNT i]) (portFollows_frame _ lane _) f fun i => (hapart i).1
    _ = (s.laneShown lane st).get (f lane) := State.laneSettled_apart _ st hcount hidle heye
    _ = s.get (f lane) := s.laneShown_apart lane st f fun i => (hapart i).2.2.2

/-! ### DATA with a partner -/

section
variable {W : Nat → Prop} {s0 s : State} {c : Prop} [Decidable c]

/-- A field that a mode writes or leaves. -/
theorem Frame.setIf (h : Frame W s0 s) {f : Fld} {v : Nat} (hf : W f.addr) : Frame W s0 (if c then s.set f v else s) := (h.set hf).ite h

theorem Frame.onLaneIf (h : Frame W s0 s) {n : Nat} {f : LaneSt → LaneSt} : Frame W s0 (if c then s.onLane n f else s) := h.onLane.ite h

end

theorem eqSettings_frame (s : State) (n : Nat) : Frame (· ∈ [R.HOSTLANE_RX_EQ_STATUS n]) s (s.eqSettings n) := by
  have hm : R.HOSTLANE_RX_EQ_STATUS n ∈ [R.HOSTLANE_RX_EQ_STATUS n] := List.mem_singleton_self _
  unfold State.eqSettings
  exact ((((Frame.refl _ s).setIf (f := F.HOSTLANE_RX_EQ_STATUS.CTLE n) hm).onLaneIf).setIf (f := F.HOSTLANE_RX_EQ_STATUS.H1 n) hm).set
    (f := F.HOSTLANE_RX_EQ_STATUS.CONVERGED n) hm

theorem setEq_frame (s : State) (n : Nat) (eq : LaneEq) : Frame (· ∈ [R.HOSTLANE_RX_EQ_STATUS n]) s (s.setEq n eq) := by
  have hm : R.HOSTLANE_RX_EQ_STATUS n ∈ [R.HOSTLANE_RX_EQ_STATUS n] := List.mem_singleton_self _
  unfold State.setEq
  refine Frame.trans ?_ (eqSettings_frame _ n)
  exact ((((Frame.refl _ s).setIf (f := F.HOSTLANE_RX_EQ_STATUS.CTLE n) hm).onLaneIf).setIf (f := F.HOSTLANE_RX_EQ_STATUS.H1 n) hm).onLane

/-- The equalisers, the CDR's lock and the partner as the lane enters DATA with them. -/
def State.partnered (s : State) (n partner : Nat) (eq : LaneEq) : State :=
  ((s.setEq n eq).set (F.HOSTLANE_STATE.CDR_LOCK n) 1).set (F.HOSTLANE_STATE.PARTNER n) partner

theorem partnered_frame (s : State) (n partner : Nat) (eq : LaneEq) :
    Frame (· ∈ [R.HOSTLANE_RX_EQ_STATUS n, R.HOSTLANE_STATE n]) s (s.partnered n partner eq) :=
  have hm : R.HOSTLANE_STATE n ∈ [R.HOSTLANE_RX_EQ_STATUS n, R.HOSTLANE_STATE n] := List.mem_cons_of_mem _ List.mem_cons_self
  have hset : Frame (· ∈ [R.HOSTLANE_RX_EQ_STATUS n, R.HOSTLANE_STATE n]) s (s.setEq n eq) :=
    (setEq_frame s n eq).mono fun _ ha => List.mem_cons.mpr (.inl (List.mem_singleton.mp ha))
  (hset.set (f := F.HOSTLANE_STATE.CDR_LOCK n) hm).set (f := F.HOSTLANE_STATE.PARTNER n) hm

theorem State.laneUp_eq (s : State) (n partner : Nat) (eq : LaneEq) : s.laneUp n partner eq =
    ((((s.partnered n partner eq).toLane n 4).laneEvent n 0).precoderRestart n false).precoderRestart n true := rfl

theorem State.laneUp_get (s : State) (n partner : Nat) (eq : LaneEq) (f : Fld) :
    (s.laneUp n partner eq).get f = (((s.partnered n partner eq).toLane n 4).laneEvent n 0).get f := by
  rw [State.laneUp_eq, State.get, State.get, State.rd, State.precoderRestart_regs, State.precoderRestart_regs]
  rfl

/-- What the entry to DATA from DETECT or TRAIN leaves behind. -/
structure State.LaneIsUp (s t : State) (lane : Fin 16) (partner : Nat) : Prop where
  state : t.laneState lane = 4
  partner : t.get (F.HOSTLANE_STATE.PARTNER lane) = partner
  up : t.on (eventBit 0 lane) = true
  mem : t.mem = s.mem

theorem State.precoderRestart_mem (s : State) (n : Nat) (receive : Bool) : (s.precoderRestart n receive).mem = s.mem := by
  simp [State.precoderRestart]

theorem State.laneUp_holds (s : State) (lane : Fin 16) {partner : Nat} (eq : LaneEq) (h : partner < 4 := by decide) :
    s.LaneIsUp (s.laneUp lane partner eq) lane partner where
  state := ((s.laneUp_get lane partner eq _).trans (State.laneEvent_laneState _ lane 0)).trans (State.toLane_laneState _ lane)
  partner := by
    have hset : (s.partnered lane partner eq).get (F.HOSTLANE_STATE.PARTNER lane) = partner :=
      (State.get_set_same _ _ partner (Nat.le_of_ble_eq_true rfl) (by decide : 9 < 32)).trans (Nat.mod_eq_of_lt h)
    rw [State.laneUp_get, State.laneEvent_get _ lane 0 F.HOSTLANE_STATE.PARTNER,
      State.toLane_keeps _ lane (by decide) F.HOSTLANE_STATE.PARTNER, hset]
  up := (State.on_of_get (s.laneUp_get lane partner eq _)).trans (State.laneEvent_on _ lane)
  mem := by
    rw [State.laneUp_eq, State.precoderRestart_mem, State.precoderRestart_mem, (laneEvent_frame _ _ _).mem, State.toLane_mem,
      (partnered_frame s lane partner eq).mem]

/-- The entry to DATA leaves every other field of the lane than those of the equalisers, of its STATE and of its events. -/
theorem State.laneUp_keeps (s : State) (lane : Fin 16) (partner : Nat) (eq : LaneEq) (f : Nat → Fld)
    (hentry : ∀ i : Fin 16, entryApart i (f i) = true := by decide)
    (hevent : ∀ i : Fin 16, hostField (eventWords i) (f i) = true := by decide)
    (heq : ∀ i : Fin 16, hostField [R.HOSTLANE_RX_EQ_STATUS i, R.HOSTLANE_STATE i] (f i) = true := by decide) :
    (s.laneUp lane partner eq).get (f lane) = s.get (f lane) := by
  rw [State.laneUp_get, State.laneEvent_get _ lane 0 f hevent, State.toLane_keeps _ lane (by decide) f hentry]
  exact Frame.readLane (l := fun i => [R.HOSTLANE_RX_EQ_STATUS i, R.HOSTLANE_STATE i])
    ((partnered_frame s lane partner eq).besideHost (List.Subset.refl _)) f heq

/-! ### FAILED -/

/-- What the entry to FAILED with a violation leaves behind. -/
structure State.LaneFailed (s t : State) (lane : Fin 16) (code : Nat) : Prop where
  state : t.laneState lane = 6
  fail : t.on (eventBit 2 lane) = true
  last : t.get (F.HOSTLANE_VIOLATION.LAST lane) = code
  count : t.get (F.HOSTLANE_VIOLATION.COUNT lane) = min (F.HOSTLANE_VIOLATION.COUNT lane).top (s.get (F.HOSTLANE_VIOLATION.COUNT lane) + 1)

theorem State.laneFail_holds (s : State) (lane : Fin 16) {code : Nat} (h : code < 256 := by decide) :
    s.LaneFailed (s.laneFail lane code) lane code :=
  have hv := ((s.toLane lane 6).laneEvent lane 2).laneViolation_holds lane h
  { state := ((State.laneViolation_laneState _ lane code).trans (State.laneEvent_laneState _ lane 2)).trans (s.toLane_laneState lane)
    fail := State.laneViolation_keeps _ lane code (State.laneEvent_on _ lane)
    last := hv.last
    count := by
      rw [State.laneFail, hv.count, State.laneEvent_get _ lane 2 F.HOSTLANE_VIOLATION.COUNT,
        State.toLane_keeps _ lane (by decide) F.HOSTLANE_VIOLATION.COUNT] }

/-! ### NO_SIGNAL and HOLDOFF -/

/-- An entry to NO_SIGNAL that stays there. -/
def State.noSignalAgain (s : State) (n : Nat) : State := (s.onLane n fun l => { l with noSignals := (s.lane n).noSignals + 1 }).toLane n 1

theorem State.noSignalAgain_laneState (s : State) (lane : Fin 16) : (s.noSignalAgain lane).laneState lane = 1 := State.toLane_laneState _ lane

theorem State.noSignalAgain_keeps (s : State) (lane : Fin 16) (f : Nat → Fld) (hf : ∀ i : Fin 16, entryApart i (f i) = true := by decide) :
    (s.noSignalAgain lane).get (f lane) = s.get (f lane) := State.toLane_keeps _ lane (by decide) f hf

theorem State.noSignalAgain_events (s : State) (lane : Fin 16) {k : Nat} (h : s.on (eventBit k lane) = true) :
    (s.noSignalAgain lane).on (eventBit k lane) = true := State.toLane_events _ lane 1 h

theorem State.noSignalAgain_signal (s : State) (lane : Fin 16) :
    (s.noSignalAgain lane).on (F.HOSTLANE_STATE.SIGNAL lane) = s.on (F.HOSTLANE_STATE.SIGNAL lane) := State.toLane_signal _ lane

theorem State.noSignalAgain_mem (s : State) (n : Nat) : (s.noSignalAgain n).mem = s.mem := State.toLane_mem _ n 1

/-- The 16th entry to NO_SIGNAL in a second, before its violation. -/
def State.heldOff (s : State) (n : Nat) : State := ((s.onLane n fun l => { l with noSignals := 0 }).toLane n 7).laneEvent n 8

theorem State.noSignal_again {s : State} {n : Nat} (h : (s.lane n).noSignals < 15 ∨ s.laneState n = 7) : s.noSignal n = s.noSignalAgain n := by
  refine if_neg fun hc => ?_
  simp only [Bool.and_eq_true, decide_eq_true_eq, bne_iff_ne] at hc
  omega

theorem State.noSignal_holdoff {s : State} {n : Nat} (h : 15 ≤ (s.lane n).noSignals) (h0 : s.laneState n ≠ 0) (h7 : s.laneState n ≠ 7) :
    s.noSignal n = (s.heldOff n).laneViolation n 7 := by
  refine if_pos ?_
  simp only [Bool.and_eq_true, decide_eq_true_eq, bne_iff_ne]
  omega

theorem State.heldOff_keeps (s : State) (lane : Fin 16) (f : Nat → Fld)
    (hentry : ∀ i : Fin 16, entryApart i (f i) = true := by decide)
    (hevent : ∀ i : Fin 16, hostField (eventWords i) (f i) = true := by decide) : (s.heldOff lane).get (f lane) = s.get (f lane) :=
  (State.laneEvent_get _ lane 8 f hevent).trans (State.toLane_keeps _ lane (by decide) f hentry)

theorem State.heldOff_laneState (s : State) (lane : Fin 16) : (s.heldOff lane).laneState lane = 7 :=
  (State.laneEvent_laneState _ lane 8).trans (State.toLane_laneState _ lane)

theorem State.heldOff_noSignals {s : State} {n : Nat} (h : n < s.lanes.length) : ((s.heldOff n).lane n).noSignals = 0 := by
  rw [State.heldOff, State.lane_of_lanes (State.laneEvent_lanes _ n 8), State.toLane_noSignals, State.onLane_lane h]

theorem State.heldOff_events (s : State) (lane : Fin 16) {k : Nat} (h : s.on (eventBit k lane) = true) :
    (s.heldOff lane).on (eventBit k lane) = true :=
  State.laneEvent_keeps _ lane (State.toLane_events _ lane 7 h)

/-! ### The signal lost in DATA and in IDLE -/

/-- SIGNAL_LOST, DATA_DOWN and their violation, before NO_SIGNAL. -/
def State.signalCounted (s : State) (n code : Nat) : State :=
  (((s.bump (F.HOSTLANE_LANE_COUNT.SIG_LOST n)).laneEvent n 3).laneEvent n 1).laneViolation n code

theorem State.signalGone_eq (s : State) (n code : Nat) : s.signalGone n code = (s.signalCounted n code).noSignal n := rfl

/-- A lane whose signal is lost, its state aside. -/
structure State.SignalIsGone (s t : State) (lane : Fin 16) : Prop where
  lost : t.on (eventBit 3 lane) = true
  down : t.on (eventBit 1 lane) = true
  count : t.get (F.HOSTLANE_LANE_COUNT.SIG_LOST lane) = min (F.HOSTLANE_LANE_COUNT.SIG_LOST lane).top
    (s.get (F.HOSTLANE_LANE_COUNT.SIG_LOST lane) + 1)

theorem State.signalCounted_holds (s : State) (lane : Fin 16) (code : Nat) : s.SignalIsGone (s.signalCounted lane code) lane where
  lost := State.laneViolation_keeps _ lane code (State.laneEvent_keeps _ lane (State.laneEvent_on _ lane))
  down := State.laneViolation_keeps _ lane code (State.laneEvent_on _ lane)
  count := by
    rw [State.signalCounted, State.laneViolation_get _ lane code F.HOSTLANE_LANE_COUNT.SIG_LOST,
      State.laneEvent_get _ lane 1 F.HOSTLANE_LANE_COUNT.SIG_LOST, State.laneEvent_get _ lane 3 F.HOSTLANE_LANE_COUNT.SIG_LOST]
    exact s.get_bump_same _ 1 (Nat.le_of_ble_eq_true rfl) (by decide : 23 < 32)

theorem State.signalCounted_laneState (s : State) (lane : Fin 16) (code : Nat) : (s.signalCounted lane code).laneState lane = s.laneState lane :=
  ((State.laneViolation_laneState _ lane code).trans ((State.laneEvent_laneState _ lane 1).trans (State.laneEvent_laneState _ lane 3))).trans
    (s.get_setLane lane F.HOSTLANE_STATE.STATE F.HOSTLANE_LANE_COUNT.SIG_LOST _)

theorem State.signalCounted_lanes (s : State) (n code : Nat) : (s.signalCounted n code).lanes = s.lanes :=
  (State.laneViolation_lanes _ n code).trans ((State.laneEvent_lanes _ n 1).trans ((State.laneEvent_lanes _ n 3).trans (State.bump_lanes _ _ _)))

theorem State.signalCounted_violation (s : State) (lane : Fin 16) {code : Nat} (h : code < 256) :
    (s.signalCounted lane code).get (F.HOSTLANE_VIOLATION.LAST lane) = code ∧
      (s.signalCounted lane code).get (F.HOSTLANE_VIOLATION.COUNT lane) =
        min (F.HOSTLANE_VIOLATION.COUNT lane).top (s.get (F.HOSTLANE_VIOLATION.COUNT lane) + 1) := by
  have hv := (((s.bump (F.HOSTLANE_LANE_COUNT.SIG_LOST lane)).laneEvent lane 3).laneEvent lane 1).laneViolation_holds lane h
  refine ⟨hv.last, hv.count.trans ?_⟩
  rw [State.laneEvent_get _ lane 1 F.HOSTLANE_VIOLATION.COUNT, State.laneEvent_get _ lane 3 F.HOSTLANE_VIOLATION.COUNT, State.bump,
    s.get_setLane lane F.HOSTLANE_VIOLATION.COUNT F.HOSTLANE_LANE_COUNT.SIG_LOST]

/-- What the loss of the signal leaves behind, in NO_SIGNAL. -/
structure State.SignalToNone (s t : State) (lane : Fin 16) (code : Nat) : Prop extends s.SignalIsGone t lane where
  state : t.laneState lane = 1
  last : t.get (F.HOSTLANE_VIOLATION.LAST lane) = code
  violations : t.get (F.HOSTLANE_VIOLATION.COUNT lane) = min (F.HOSTLANE_VIOLATION.COUNT lane).top
    (s.get (F.HOSTLANE_VIOLATION.COUNT lane) + 1)

theorem State.signalGone_again {s : State} {lane : Fin 16} (h : (s.lane lane).noSignals < 15) {code : Nat} (hc : code < 256 := by decide) :
    s.SignalToNone (s.signalGone lane code) lane code := by
  obtain ⟨hlost, hdown, hcount⟩ := s.signalCounted_holds lane code
  obtain ⟨hlast, hviolations⟩ := s.signalCounted_violation lane hc
  have hfew : ((s.signalCounted lane code).lane lane).noSignals < 15 := by rwa [State.lane_of_lanes (s.signalCounted_lanes lane code)]
  rw [State.signalGone_eq, State.noSignal_again (.inl hfew)]
  exact
    { lost := State.noSignalAgain_events _ lane hlost
      down := State.noSignalAgain_events _ lane hdown
      count := (State.noSignalAgain_keeps _ lane F.HOSTLANE_LANE_COUNT.SIG_LOST).trans hcount
      state := State.noSignalAgain_laneState _ lane
      last := (State.noSignalAgain_keeps _ lane F.HOSTLANE_VIOLATION.LAST).trans hlast
      violations := (State.noSignalAgain_keeps _ lane F.HOSTLANE_VIOLATION.COUNT).trans hviolations }

/-- What the loss of the signal leaves behind, in HOLDOFF. -/
structure State.SignalToHoldoff (t : State) (lane : Fin 16) : Prop where
  state : t.laneState lane = 7
  lost : t.on (eventBit 3 lane) = true
  down : t.on (eventBit 1 lane) = true
  holdoff : t.on (eventBit 8 lane) = true
  last : t.get (F.HOSTLANE_VIOLATION.LAST lane) = 7

theorem State.signalGone_holdoff {s : State} {lane : Fin 16} (h : 15 ≤ (s.lane lane).noSignals) (h0 : s.laneState lane ≠ 0)
    (h7 : s.laneState lane ≠ 7) (code : Nat) : (s.signalGone lane code).SignalToHoldoff lane := by
  obtain ⟨hlost, hdown, -⟩ := s.signalCounted_holds lane code
  have hmany : 15 ≤ ((s.signalCounted lane code).lane lane).noSignals := by rwa [State.lane_of_lanes (s.signalCounted_lanes lane code)]
  have hstate := s.signalCounted_laneState lane code
  rw [State.signalGone_eq, State.noSignal_holdoff hmany (hstate ▸ h0) (hstate ▸ h7)]
  exact
    { state := (State.laneViolation_laneState _ lane 7).trans (State.heldOff_laneState _ lane)
      lost := State.laneViolation_keeps _ lane 7 (State.heldOff_events _ lane hlost)
      down := State.laneViolation_keeps _ lane 7 (State.heldOff_events _ lane hdown)
      holdoff := State.laneViolation_keeps _ lane 7 (State.laneEvent_on _ lane)
      last := (State.laneViolation_holds _ lane).last }

/-! ### Training and RETRAIN -/

/-- The entry to TRAIN, before the request for precoding. -/
def State.trainEntry (s : State) (n : Nat) : State := (s.set (F.HOSTLANE_STATE.CDR_LOCK n) 1).toLane n 3

theorem State.trainStart_eq (s : State) (n : Nat) :
    s.trainStart n = (s.trainEntry n).send (.precodeRequest n (s.on (F.HOSTLANE_RX_CFG.PRECODE_RX n))) := rfl

theorem State.trainStart_get (s : State) (n : Nat) (f : Fld) : (s.trainStart n).get f = (s.trainEntry n).get f := by
  rw [State.trainStart_eq, State.send_get]

theorem State.trainStart_laneState (s : State) (lane : Fin 16) : (s.trainStart lane).laneState lane = 3 :=
  (s.trainStart_get lane _).trans (State.toLane_laneState _ lane)

theorem State.trainStart_cdr (s : State) (lane : Fin 16) : (s.trainStart lane).on (F.HOSTLANE_STATE.CDR_LOCK lane) = true :=
  (State.on_of_get (s.trainStart_get lane _)).trans
    ((State.toLane_cdr _ lane).trans (s.on_setB_same _ true rfl (by decide : 4 < 32)))

theorem State.trainStart_keeps (s : State) (lane : Fin 16) (f : Nat → Fld) (hentry : ∀ i : Fin 16, entryApart i (f i) = true := by decide)
    (hcdr : ∀ i : Fin 16, (apart (f i) (F.HOSTLANE_STATE.CDR_LOCK i) &&
      decide ((F.HOSTLANE_STATE.CDR_LOCK i).lo ≤ (F.HOSTLANE_STATE.CDR_LOCK i).hi ∧ (F.HOSTLANE_STATE.CDR_LOCK i).hi < 32)) = true := by decide) :
    (s.trainStart lane).get (f lane) = s.get (f lane) :=
  (s.trainStart_get lane _).trans
    ((State.toLane_keeps _ lane (by decide) f hentry).trans (s.get_setLane lane f F.HOSTLANE_STATE.CDR_LOCK 1 hcdr))

theorem State.trainStart_events (s : State) (lane : Fin 16) {k : Nat} (h : s.on (eventBit k lane) = true) :
    (s.trainStart lane).on (eventBit k lane) = true :=
  (State.on_of_get (s.trainStart_get lane _)).trans
    (State.toLane_events _ lane 3 ((s.set_eventBit lane k 1 F.HOSTLANE_STATE.CDR_LOCK).trans h))

theorem State.dataDown_mem (s : State) (n : Nat) : (s.dataDown n).mem = s.mem := by
  unfold State.dataDown
  split
  · exact (laneEvent_frame s n 1).mem
  · rfl

theorem State.retrain_moves {s : State} {n st : Nat} (h : s.laneState n = st) (hst : st ∉ [0, 2, 3, 7] := by decide) :
    s.retrain n = (s.dataDown n).toLane n 2 := by
  simp only [List.mem_cons, List.not_mem_nil, or_false, not_or] at hst
  obtain ⟨h0, h2, h3, h7⟩ := hst
  unfold State.retrain
  split
  next h' => exact absurd (h ▸ h') h0
  next h' => exact absurd (h ▸ h') h7
  next h' => exact absurd (h ▸ h') h2
  next h' => exact absurd (h ▸ h') h3
  next => rfl

theorem State.retrain_dropped {s : State} {n : Nat} (h : s.laneState n = 2 ∨ s.laneState n = 3) :
    s.retrain n = s.bump (F.HOSTLANE_TRAIN_STATUS.DROPPED n) := by
  obtain h | h := h <;> simp only [State.retrain, h] <;> rfl

theorem State.retrain_ignored {s : State} {n : Nat} (h : s.laneState n = 0 ∨ s.laneState n = 7) : s.retrain n = s := by
  obtain h | h := h <;> simp only [State.retrain, h]

end Sys2Proof.Machine
end

section
/-!
O29. Table 7.2, a lemma per command: what the lane does in the states that obey it.
-/
-- An argument that a tactic fills waits for all declarations before it: elaborated in parallel, such proofs would each hold a thread.
set_option Elab.async false

namespace Sys2Proof.Machine
open Sys2Proof

/-! ### DETECT and TRAIN -/

theorem State.signalFound_moves {s : State} {lane : Fin 16} {amplitude : Nat} (h : s.laneState lane = 1)
    (hon : s.get (F.HOSTLANE_IDLE_CFG.SD_ON lane) < s.amplitudeSeen lane amplitude) :
    s.signalFound lane amplitude = (s.set (F.HOSTLANE_STATE.SIGNAL lane) 1).toLane lane 2 := by
  have hstate : (s.set (F.HOSTLANE_STATE.SIGNAL lane) 1).laneState lane = 1 :=
    (s.get_setLane lane F.HOSTLANE_STATE.STATE F.HOSTLANE_STATE.SIGNAL 1).trans h
  unfold State.signalFound
  dsimp only
  rw [if_neg (by simp [h, hon]), if_pos hstate]

theorem State.markers_train {s : State} {n : Nat} (h : s.laneState n = 2) (ht : s.trains n = true) :
    s.markers n = (s.bump (F.HOSTLANE_LANE_COUNT.TRAINS n)).trainStart n := by
  simp only [State.markers, h, ht]
  rfl

theorem State.markers_retrain {s : State} {n : Nat} (h : s.laneState n = 4) (ht : s.trains n = true) :
    s.markers n = (((s.laneEvent n 5).laneEvent n 1).bump (F.HOSTLANE_LANE_COUNT.RETRAINS n)).trainStart n := by
  simp only [State.markers, h, ht]
  rfl

theorem State.trainStart_retrains (s : State) (lane : Fin 16) :
    ((((s.laneEvent lane 5).laneEvent lane 1).bump (F.HOSTLANE_LANE_COUNT.RETRAINS lane)).trainStart lane).get
      (F.HOSTLANE_LANE_COUNT.RETRAINS lane) = min (F.HOSTLANE_LANE_COUNT.RETRAINS lane).top (s.get (F.HOSTLANE_LANE_COUNT.RETRAINS lane) + 1) := by
  rw [State.trainStart_keeps _ lane F.HOSTLANE_LANE_COUNT.RETRAINS,
    State.get_bump_same _ (F.HOSTLANE_LANE_COUNT.RETRAINS lane) 1 (Nat.zero_le _) (by decide : 7 < 32),
    State.laneEvent_get _ lane 1 F.HOSTLANE_LANE_COUNT.RETRAINS, State.laneEvent_get _ lane 5 F.HOSTLANE_LANE_COUNT.RETRAINS]

/-- The precoding and LAST_MS as training settles them. -/
def State.trainSettled (s : State) (n ms : Nat) (granted requested : Bool) : State :=
  let agreed := s.on (F.HOSTLANE_RX_CFG.PRECODE_RX n) && granted
  (((s.setB (F.HOSTLANE_TRAIN_STATUS.PARTNER_PRECODE n) agreed).setB (F.HOSTLANE_RX_CFG.PRECODE_RX n) agreed).setB
    (F.HOSTLANE_TX_CFG.PRECODE_TX n) requested).setSat (F.HOSTLANE_TRAIN_STATUS.LAST_MS n) ms

theorem State.trained_eq (s : State) (n ms : Nat) (granted requested : Bool) (eq : LaneEq) :
    s.trained n ms granted requested eq = (s.trainSettled n ms granted requested).laneUp n 1 eq := rfl

theorem State.trainSettled_precodeTx (s : State) (lane : Fin 16) (ms : Nat) (granted requested : Bool) :
    (s.trainSettled lane ms granted requested).on (F.HOSTLANE_TX_CFG.PRECODE_TX lane) = requested :=
  (State.on_of_get (State.get_setLane _ lane F.HOSTLANE_TX_CFG.PRECODE_TX F.HOSTLANE_TRAIN_STATUS.LAST_MS _)).trans
    (State.on_setB_same _ _ requested rfl (by decide : 0 < 32))

theorem State.trainSettled_precodeRx (s : State) (lane : Fin 16) (ms : Nat) (granted requested : Bool) :
    (s.trainSettled lane ms granted requested).on (F.HOSTLANE_RX_CFG.PRECODE_RX lane) = (s.on (F.HOSTLANE_RX_CFG.PRECODE_RX lane) && granted) :=
  (State.on_of_get ((State.get_setLane _ lane F.HOSTLANE_RX_CFG.PRECODE_RX F.HOSTLANE_TRAIN_STATUS.LAST_MS _).trans
    (State.get_setLane _ lane F.HOSTLANE_RX_CFG.PRECODE_RX F.HOSTLANE_TX_CFG.PRECODE_TX _))).trans
    (State.on_setB_same _ _ _ rfl (by decide : 0 < 32))

theorem State.trainSettled_lastMs (s : State) (lane : Fin 16) (ms : Nat) (granted requested : Bool) :
    (s.trainSettled lane ms granted requested).get (F.HOSTLANE_TRAIN_STATUS.LAST_MS lane) = min (F.HOSTLANE_TRAIN_STATUS.LAST_MS lane).top ms :=
  State.get_setSat_same _ _ ms (Nat.le_of_ble_eq_true rfl) (by decide : 31 < 32)

/-- What the end of training leaves behind. -/
theorem State.trained_holds (s : State) (lane : Fin 16) (ms : Nat) (granted requested : Bool) (eq : LaneEq) :
    (s.trained lane ms granted requested eq).laneState lane = 4 ∧
    (s.trained lane ms granted requested eq).get (F.HOSTLANE_STATE.PARTNER lane) = 1 ∧
    (s.trained lane ms granted requested eq).on (eventBit 0 lane) = true ∧
    (s.trained lane ms granted requested eq).on (F.HOSTLANE_TX_CFG.PRECODE_TX lane) = requested ∧
    (s.trained lane ms granted requested eq).on (F.HOSTLANE_RX_CFG.PRECODE_RX lane) = (s.on (F.HOSTLANE_RX_CFG.PRECODE_RX lane) && granted) ∧
    (s.trained lane ms granted requested eq).get (F.HOSTLANE_TRAIN_STATUS.LAST_MS lane) = min (F.HOSTLANE_TRAIN_STATUS.LAST_MS lane).top ms := by
  rw [State.trained_eq]
  obtain ⟨hstate, hpartner, hup, -⟩ := (s.trainSettled lane ms granted requested).laneUp_holds lane (partner := 1) eq
  exact ⟨hstate, hpartner, hup,
    (State.on_of_get (State.laneUp_keeps _ lane 1 eq F.HOSTLANE_TX_CFG.PRECODE_TX)).trans (s.trainSettled_precodeTx lane ms granted requested),
    (State.on_of_get (State.laneUp_keeps _ lane 1 eq F.HOSTLANE_RX_CFG.PRECODE_RX)).trans (s.trainSettled_precodeRx lane ms granted requested),
    (State.laneUp_keeps _ lane 1 eq F.HOSTLANE_TRAIN_STATUS.LAST_MS).trans (s.trainSettled_lastMs lane ms granted requested)⟩

theorem State.laneFail_unlocked (s : State) (lane : Fin 16) :
    s.LaneFailed ((s.set (F.HOSTLANE_STATE.CDR_LOCK lane) 0).laneFail lane 6) lane 6 :=
  have hf := (s.set (F.HOSTLANE_STATE.CDR_LOCK lane) 0).laneFail_holds lane (code := 6)
  { state := hf.state, fail := hf.fail, last := hf.last
    count := hf.count.trans (by rw [s.get_setLane lane F.HOSTLANE_VIOLATION.COUNT F.HOSTLANE_STATE.CDR_LOCK]) }

/-! ### DATA and IDLE -/

/-- Signal detect and with it the CDR's lock lost. -/
def State.signalCleared (s : State) (n : Nat) : State := (s.set (F.HOSTLANE_STATE.SIGNAL n) 0).set (F.HOSTLANE_STATE.CDR_LOCK n) 0

theorem State.signalCleared_get (s : State) (lane : Fin 16) (f : Nat → Fld)
    (hf : ∀ i : Fin 16, (apart (f i) (F.HOSTLANE_STATE.SIGNAL i) && apart (f i) (F.HOSTLANE_STATE.CDR_LOCK i)) = true := by decide) :
    (s.signalCleared lane).get (f lane) = s.get (f lane) := by
  have hl := hf lane
  simp only [Bool.and_eq_true] at hl
  obtain ⟨hsignal, hcdr⟩ := hl
  exact (State.get_set_apart _ _ (Nat.le_refl 4) (by decide : 4 < 32) hcdr).trans
    (s.get_set_apart _ (Nat.le_refl 5) (by decide : 5 < 32) hsignal)

theorem State.signalLost_data {s : State} {lane : Fin 16} {amplitude : Nat} (h : s.laneState lane = 4)
    (hoff : s.amplitudeSeen lane amplitude < s.get (F.HOSTLANE_IDLE_CFG.SD_OFF lane)) : s.signalLost lane amplitude =
      if s.on (F.HOSTLANE_CTRL.ALLOW_IDLE lane) then (s.signalCleared lane).toLane lane 5 else (s.signalCleared lane).signalGone lane 3 := by
  have hstate : (s.signalCleared lane).laneState lane = 4 := (s.signalCleared_get lane F.HOSTLANE_STATE.STATE).trans h
  have hallow := State.on_of_get (s.signalCleared_get lane F.HOSTLANE_CTRL.ALLOW_IDLE)
  unfold State.signalLost
  dsimp only
  rw [if_neg (Nat.not_le_of_lt hoff)]
  exact (if_pos hstate).trans (by rw [← hallow]; rfl)

theorem State.signalLost_idles (s : State) (lane : Fin 16) : ((s.signalCleared lane).toLane lane 5).laneState lane = 5 ∧
    ((s.signalCleared lane).toLane lane 5).on (F.HOSTLANE_STATE.SIGNAL lane) = false ∧
    ((s.signalCleared lane).toLane lane 5).on (F.HOSTLANE_STATE.CDR_LOCK lane) = false ∧ ((s.signalCleared lane).toLane lane 5).mem = s.mem :=
  have hsignal : (s.signalCleared lane).on (F.HOSTLANE_STATE.SIGNAL lane) = false :=
    (State.on_of_get (State.get_setLane _ lane F.HOSTLANE_STATE.SIGNAL F.HOSTLANE_STATE.CDR_LOCK 0)).trans
      (s.on_set_zero _ (Nat.le_refl 5) (by decide : 5 < 32))
  ⟨State.toLane_laneState _ lane, (State.toLane_signal _ lane).trans hsignal, State.toLane_cdrLost _ lane, State.toLane_mem _ lane 5⟩

/-- The signal's loss is counted from the state before signal detect cleared. -/
theorem State.SignalToNone.ofCleared {s t : State} {lane : Fin 16} {code : Nat} (h : (s.signalCleared lane).SignalToNone t lane code) :
    s.SignalToNone t lane code :=
  { state := h.state, lost := h.lost, down := h.down, last := h.last
    count := by rw [h.count, s.signalCleared_get lane F.HOSTLANE_LANE_COUNT.SIG_LOST]
    violations := by rw [h.violations, s.signalCleared_get lane F.HOSTLANE_VIOLATION.COUNT] }

/-- DATA again after a wake burst, before a short one is counted. -/
def State.awake (s : State) (n heldUi : Nat) : State :=
  (((s.set (F.HOSTLANE_STATE.SIGNAL n) 1).setB (F.HOSTLANE_STATE.CDR_LOCK n) (heldUi != 0)).toLane n 4).precoderRestart n true

theorem State.wakeBurst_idle {s : State} {n : Nat} (h : s.laneState n = 5) (heldUi : Nat) : s.wakeBurst n heldUi =
    if heldUi < 1024 then (((s.awake n heldUi).bump (F.HOSTLANE_LANE_COUNT.BURST_SHORT n)).laneEvent n 4).laneViolation n 5
    else s.awake n heldUi := if_pos h

theorem State.precoderRestart_get (s : State) (n : Nat) (receive : Bool) (f : Fld) : (s.precoderRestart n receive).get f = s.get f := by
  rw [State.get, State.rd, State.precoderRestart_regs]
  rfl

theorem State.awake_laneState (s : State) (lane : Fin 16) (heldUi : Nat) : (s.awake lane heldUi).laneState lane = 4 :=
  (State.precoderRestart_get _ lane true _).trans (State.toLane_laneState _ lane)

theorem State.awake_signal (s : State) (lane : Fin 16) (heldUi : Nat) : (s.awake lane heldUi).on (F.HOSTLANE_STATE.SIGNAL lane) = true :=
  ((State.on_of_get (State.precoderRestart_get _ lane true _)).trans (State.toLane_signal _ lane)).trans
    ((State.on_of_get (State.get_setLane _ lane F.HOSTLANE_STATE.SIGNAL F.HOSTLANE_STATE.CDR_LOCK _)).trans
      (s.on_setB_same _ true rfl (by decide : 5 < 32)))

theorem State.awake_shorts (s : State) (lane : Fin 16) (heldUi : Nat) :
    (s.awake lane heldUi).get (F.HOSTLANE_LANE_COUNT.BURST_SHORT lane) = s.get (F.HOSTLANE_LANE_COUNT.BURST_SHORT lane) :=
  ((State.precoderRestart_get _ lane true _).trans (State.toLane_keeps _ lane (by decide) F.HOSTLANE_LANE_COUNT.BURST_SHORT)).trans
    ((State.get_setLane _ lane F.HOSTLANE_LANE_COUNT.BURST_SHORT F.HOSTLANE_STATE.CDR_LOCK _).trans
      (s.get_setLane lane F.HOSTLANE_LANE_COUNT.BURST_SHORT F.HOSTLANE_STATE.SIGNAL 1))

/-- A field that a short burst's count, event and violation leave. -/
theorem State.shortBurst_get (s : State) (lane : Fin 16) (f : Nat → Fld)
    (hv : ∀ i : Fin 16, hostField (violationWords i) (f i) = true := by decide)
    (he : ∀ i : Fin 16, hostField (eventWords i) (f i) = true := by decide) :
    (((s.bump (F.HOSTLANE_LANE_COUNT.BURST_SHORT lane)).laneEvent lane 4).laneViolation lane 5).get (f lane) =
      (s.bump (F.HOSTLANE_LANE_COUNT.BURST_SHORT lane)).get (f lane) :=
  (State.laneViolation_get _ lane 5 f hv).trans (State.laneEvent_get _ lane 4 f he)

theorem State.wakeBurst_holds {s : State} {lane : Fin 16} (h : s.laneState lane = 5) (heldUi : Nat) :
    (s.wakeBurst lane heldUi).laneState lane = 4 ∧ (s.wakeBurst lane heldUi).on (F.HOSTLANE_STATE.SIGNAL lane) = true ∧
    (s.wakeBurst lane heldUi).get (F.HOSTLANE_LANE_COUNT.BURST_SHORT lane) =
      if heldUi < 1024 then min (F.HOSTLANE_LANE_COUNT.BURST_SHORT lane).top (s.get (F.HOSTLANE_LANE_COUNT.BURST_SHORT lane) + 1)
      else s.get (F.HOSTLANE_LANE_COUNT.BURST_SHORT lane) := by
  rw [State.wakeBurst_idle h]
  split
  · refine ⟨?_, ?_, ?_⟩
    · exact (State.shortBurst_get _ lane F.HOSTLANE_STATE.STATE).trans
        ((State.get_setLane _ lane F.HOSTLANE_STATE.STATE F.HOSTLANE_LANE_COUNT.BURST_SHORT _).trans (s.awake_laneState lane heldUi))
    · exact (State.on_of_get ((State.shortBurst_get _ lane F.HOSTLANE_STATE.SIGNAL).trans
        (State.get_setLane _ lane F.HOSTLANE_STATE.SIGNAL F.HOSTLANE_LANE_COUNT.BURST_SHORT _))).trans (s.awake_signal lane heldUi)
    · rw [State.shortBurst_get _ lane F.HOSTLANE_LANE_COUNT.BURST_SHORT,
        State.get_bump_same _ _ 1 (Nat.le_of_ble_eq_true rfl) (by decide : 15 < 32), s.awake_shorts lane heldUi]
  · exact ⟨s.awake_laneState lane heldUi, s.awake_signal lane heldUi, s.awake_shorts lane heldUi⟩

/-! ### RETRAIN -/

theorem State.retrain_enters {s : State} {lane : Fin 16} {st : Nat} (h : s.laneState lane = st)
    (hst : st ∉ [0, 2, 3, 7] := by decide) : (s.retrain lane).laneState lane = 2 ∧ (s.retrain lane).mem = s.mem := by
  rw [State.retrain_moves h hst]
  exact ⟨State.toLane_laneState _ lane, (State.toLane_mem _ lane 2).trans (s.dataDown_mem lane)⟩

theorem State.retrain_dataDown {s : State} {lane : Fin 16} {st : Nat} (h : s.laneState lane = st) (hst : st = 4 ∨ st = 5) :
    (s.retrain lane).on (eventBit 1 lane) = true := by
  have hdown : s.dataDown lane = s.laneEvent lane 1 := if_pos (by simpa [h] using hst)
  rw [State.retrain_moves h (by rintro h; simp at h; omega), hdown]
  exact State.toLane_events _ lane 2 (s.laneEvent_on lane)

/-! ### The 16th entry to NO_SIGNAL -/

theorem State.noSignal_sixteenth {s : State} {lane : Fin 16} (h : s.laneState lane = 6) (hmany : 15 ≤ (s.lane lane).noSignals)
    (hlen : lane.val < s.lanes.length) : (s.noSignal lane).laneState lane = 7 ∧ (s.noSignal lane).on (eventBit 8 lane) = true ∧
    ((s.noSignal lane).lane lane).noSignals = 0 ∧ (s.noSignal lane).get (F.HOSTLANE_VIOLATION.LAST lane) = 7 ∧
    (s.noSignal lane).get (F.HOSTLANE_VIOLATION.COUNT lane) =
      min (F.HOSTLANE_VIOLATION.COUNT lane).top (s.get (F.HOSTLANE_VIOLATION.COUNT lane) + 1) := by
  rw [State.noSignal_holdoff hmany (by omega) (by omega)]
  obtain ⟨hlast, hcount, -, -⟩ := (s.heldOff lane).laneViolation_holds lane (code := 7)
  refine ⟨(State.laneViolation_laneState _ lane 7).trans (s.heldOff_laneState lane),
    State.laneViolation_keeps _ lane 7 (State.laneEvent_on _ lane), ?_, hlast, ?_⟩
  · rw [State.lane_of_lanes (State.laneViolation_lanes _ lane 7), State.heldOff_noSignals hlen]
  · rw [hcount, s.heldOff_keeps lane F.HOSTLANE_VIOLATION.COUNT]

/-! ### The commands -/

theorem exec_cdrConverged_up {s : State} {lane : Fin 16} {offset : Int} (eq : LaneEq) (h : s.laneState lane = 2) (ht : s.trains lane = false)
    (hc : s.cdrLocks lane (some offset) = true) : exec (.cdrConverged lane offset eq) s = .next (s.laneUp lane 2 eq) :=
  congrArg Host.Outcome.next (if_pos (by simp [h, ht, hc]))

theorem exec_detectLimitExpired {s : State} {lane : Fin 16} (offset : Option Int) (eq : LaneEq) (h : s.laneState lane = 2) :
    exec (.detectLimitExpired lane offset eq) s = .next
      (if s.cdrLocks lane offset then s.laneUp lane 2 eq else (s.set (F.HOSTLANE_STATE.CDR_LOCK lane) 0).laneFail lane 6) :=
  congrArg Host.Outcome.next (if_pos h)

theorem exec_trainingDone {s : State} {lane : Fin 16} (ms : Nat) (granted requested : Bool) (eq : LaneEq) (h : s.laneState lane = 3) :
    exec (.trainingDone lane ms granted requested eq) s = .next (s.trained lane ms granted requested eq) :=
  congrArg Host.Outcome.next (if_pos h)

theorem exec_trainLimitExpired {s : State} {lane : Fin 16} (h : s.laneState lane = 3) :
    exec (.trainLimitExpired lane) s = .next (s.laneFail lane 1) := congrArg Host.Outcome.next (if_pos h)

theorem exec_idleLimitExpired {s : State} {lane : Fin 16} (h : s.laneState lane = 5) :
    exec (.idleLimitExpired lane) s = .next (s.signalGone lane 4) := congrArg Host.Outcome.next (if_pos h)

theorem exec_overlongBurst {s : State} {lane : Fin 16} (h : s.laneState lane = 4 ∨ s.laneState lane = 5) :
    exec (.overlongBurst lane) s = .next (s.laneViolation lane 8) := congrArg Host.Outcome.next (if_pos (by simpa using h))

theorem exec_retrain {s : State} {path : Path} {lane : Fin 16} (h : s.mayWrite path (R.HOSTLANE_CTRL lane)) :
    exec (.retrain path lane) s = .next (s.retrain lane) := congrArg Host.Outcome.next (State.rwWrite_accepted h _)

theorem exec_failedWaitExpired {s : State} {lane : Fin 16} (h : s.laneState lane = 6) :
    exec (.failedWaitExpired lane) s = .next (s.noSignal lane) := congrArg Host.Outcome.next (if_pos h)

theorem exec_holdoffExpired {s : State} {lane : Fin 16} (h : s.laneState lane = 7) :
    exec (.holdoffExpired lane) s = .next (s.noSignal lane) := congrArg Host.Outcome.next (if_pos h)

/-- Settles O29, command by command: each obeys its row of Table 7.2 in the lane's state, and what it writes after that leaves what the row says. -/
theorem laneStatesFollowTable72 : Obligations.LaneStatesFollowTable72 := by
  unfold Obligations.LaneStatesFollowTable72
  refine ⟨?signal, ?train, ?retrained, ?converged, ?limitUp, ?limitFails, ?trained, ?trainFails, ?idles, ?lost, ?lostHeld, ?idleHeld, ?idleLost,
    ?wake, ?overlong, ?retrainData, ?retrainNone, ?retrainDropped, ?retrainIgnored, ?failed, ?holdoff, ?sixteenth⟩
  case signal =>
    intro s lane amplitude h hon
    refine ⟨_, congrArg Host.Outcome.next (State.signalFound_moves h hon), State.toLane_laneState _ lane, ?_,
      (State.toLane_mem _ lane 2).trans (State.set_mem _ _ _)⟩
    exact (State.toLane_signal _ lane).trans (s.on_setB_same _ true rfl (by decide : 5 < 32))
  case train =>
    intro s lane h ht
    refine ⟨_, congrArg Host.Outcome.next (State.markers_train h ht), State.trainStart_laneState _ lane, ?_, State.trainStart_cdr _ lane⟩
    exact (State.trainStart_keeps _ lane F.HOSTLANE_LANE_COUNT.TRAINS).trans
      (s.get_bump_same _ 1 (Nat.le_of_ble_eq_true rfl) (by decide : 31 < 32))
  case retrained =>
    intro s lane h ht
    refine ⟨_, congrArg Host.Outcome.next (State.markers_retrain h ht), State.trainStart_laneState _ lane, s.trainStart_retrains lane, ?_, ?_⟩
    · refine State.trainStart_events _ lane ((State.set_eventBit _ lane 5 _ F.HOSTLANE_LANE_COUNT.RETRAINS).trans ?_)
      exact State.laneEvent_keeps _ lane (s.laneEvent_on lane)
    · exact State.trainStart_events _ lane ((State.set_eventBit _ lane 1 _ F.HOSTLANE_LANE_COUNT.RETRAINS).trans (State.laneEvent_on _ lane))
  case converged =>
    intro s lane offset eq h ht hc
    obtain ⟨hstate, hpartner, hup, hmem⟩ := s.laneUp_holds lane (partner := 2) eq
    exact ⟨_, exec_cdrConverged_up eq h ht hc, hstate, hpartner, hup, hmem⟩
  case limitUp =>
    intro s lane offset eq h hc
    obtain ⟨hstate, hpartner, hup, -⟩ := s.laneUp_holds lane (partner := 2) eq
    exact ⟨_, (exec_detectLimitExpired offset eq h).trans (congrArg Host.Outcome.next (if_pos hc)), hstate, hpartner, hup⟩
  case limitFails =>
    intro s lane offset eq h hc
    obtain ⟨hstate, hfail, hlast, hcount⟩ := s.laneFail_unlocked lane
    exact ⟨_, (exec_detectLimitExpired offset eq h).trans (congrArg Host.Outcome.next (if_neg (by simp [hc]))), hstate, hfail, hlast, hcount⟩
  case trained =>
    intro s lane ms granted requested eq h
    exact ⟨_, exec_trainingDone ms granted requested eq h, s.trained_holds lane ms granted requested eq⟩
  case trainFails =>
    intro s lane h
    obtain ⟨hstate, hfail, hlast, hcount⟩ := s.laneFail_holds lane (code := 1)
    exact ⟨_, exec_trainLimitExpired h, hstate, hfail, hlast, hcount⟩
  case idles =>
    intro s lane amplitude h hallow hoff
    exact ⟨_, congrArg Host.Outcome.next ((State.signalLost_data h hoff).trans (if_pos hallow)), s.signalLost_idles lane⟩
  case lost =>
    intro s lane amplitude h hallow hoff hfew
    obtain ⟨⟨hlost, hdown, hcount⟩, hstate, hlast, hviolations⟩ :=
      (State.signalGone_again (s := s.signalCleared lane) (lane := lane) hfew (code := 3)).ofCleared
    exact ⟨_, congrArg Host.Outcome.next ((State.signalLost_data h hoff).trans (if_neg (by simp [hallow]))), hstate, hlost, hdown, hcount, hlast,
      hviolations⟩
  case lostHeld =>
    intro s lane amplitude h hallow hoff hmany hlen
    have hstate : (s.signalCleared lane).laneState lane = 4 := (s.signalCleared_get lane F.HOSTLANE_STATE.STATE).trans h
    obtain ⟨hheld, hlost, hdown, hholdoff, hlast⟩ := State.signalGone_holdoff (s := s.signalCleared lane) hmany (by omega) (by omega) 3
    exact ⟨_, congrArg Host.Outcome.next ((State.signalLost_data h hoff).trans (if_neg (by simp [hallow]))), hheld, hlost, hdown, hholdoff, hlast⟩
  case idleHeld =>
    intro s lane h hmany hlen
    obtain ⟨hheld, hlost, hdown, hholdoff, hlast⟩ := State.signalGone_holdoff hmany (by omega) (by omega) 4
    exact ⟨_, exec_idleLimitExpired h, hheld, hlost, hdown, hholdoff, hlast⟩
  case idleLost =>
    intro s lane h hfew
    obtain ⟨⟨hlost, hdown, hcount⟩, hstate, hlast, hviolations⟩ := State.signalGone_again hfew (code := 4)
    exact ⟨_, exec_idleLimitExpired h, hstate, hlost, hdown, hcount, hlast, hviolations⟩
  case wake =>
    intro s lane heldUi h
    exact ⟨_, rfl, State.wakeBurst_holds h heldUi⟩
  case overlong =>
    intro s lane h
    obtain ⟨hlast, hcount, hraised, honly⟩ := s.laneViolation_holds lane (code := 8)
    exact ⟨_, exec_overlongBurst h, s.laneViolation_laneState lane 8, hraised, hlast, hcount, honly⟩
  case retrainData =>
    intro s path lane hw h
    obtain ⟨hstate, hmem⟩ : (s.retrain lane).laneState lane = 2 ∧ (s.retrain lane).mem = s.mem := by
      obtain h | h := h <;> exact State.retrain_enters h
    exact ⟨_, exec_retrain hw, hstate, State.retrain_dataDown rfl h, hmem⟩
  case retrainNone =>
    intro s path lane hw h
    refine ⟨_, exec_retrain hw, ?_⟩
    obtain h | h := h <;> exact State.retrain_enters h
  case retrainDropped =>
    intro s path lane hw h
    exact ⟨_, exec_retrain hw, State.retrain_dropped h⟩
  case retrainIgnored =>
    intro s path lane hw h
    exact ⟨_, exec_retrain hw, State.retrain_ignored h⟩
  case failed =>
    intro s lane h hfew
    refine ⟨_, (exec_failedWaitExpired h).trans (congrArg Host.Outcome.next (State.noSignal_again (.inl hfew))), ?_⟩
    exact ⟨s.noSignalAgain_laneState lane, s.noSignalAgain_signal lane, s.noSignalAgain_mem lane⟩
  case holdoff =>
    intro s lane h
    refine ⟨_, (exec_holdoffExpired h).trans (congrArg Host.Outcome.next (State.noSignal_again (.inr h))), ?_⟩
    exact ⟨s.noSignalAgain_laneState lane, s.noSignalAgain_signal lane, s.noSignalAgain_mem lane⟩
  case sixteenth =>
    intro s lane h hmany hlen
    exact ⟨_, exec_failedWaitExpired h, State.noSignal_sixteenth h hmany hlen⟩

end Sys2Proof.Machine
end

section
/-!
O30. The transmit taps: clamping keeps the budget of R147, and the six taps stored read back.
-/
-- An argument that a tactic fills waits for all declarations before it: elaborated in parallel, such proofs would each hold a thread.
set_option Elab.async false

namespace Sys2Proof.Machine
open Sys2Proof

/-! ### The budget of R147 -/

/-- The non-main taps. -/
def sideTaps : List Nat := [0, 1, 2, 4, 5]

/-- Six taps whose non-main ones lie in their ranges and in the budget of 40 together. -/
structure SideLegal (taps : List Int) : Prop where
  length : taps.length = 6
  range : ∀ k ∈ sideTaps, ((nth taps k 0).natAbs : Int) ≤ tapLimit k
  budget : sideSum taps 3 ≤ 40

theorem tapsLegal_iff (taps : List Int) :
    tapsLegal taps = true ↔ SideLegal taps ∧ 24 ≤ nth taps 3 0 ∧ nth taps 3 0 ≤ 64 - sideSum taps 3 := by
  have hsum : 0 ≤ sideSum taps 3 := by
    simp only [sideSum]
    exact List.foldlRecOn (motive := fun a => 0 ≤ a) _ _ (Int.le_refl 0) fun _ h _ _ => Int.add_nonneg h (Int.natCast_nonneg _)
  have hlist : List.range 6 = [0, 1, 2, 3, 4, 5] := rfl
  constructor
  · intro h
    simp only [tapsLegal, Bool.and_eq_true, decide_eq_true_eq, List.all_eq_true, hlist] at h
    obtain ⟨⟨⟨⟨hlength, hrange⟩, hbudget⟩, hlow⟩, hhigh⟩ := h
    refine ⟨⟨hlength, fun k hk => hrange k ?_, hbudget⟩, hlow, hhigh⟩
    revert k
    decide
  · rintro ⟨⟨hlength, hrange, hbudget⟩, hlow, hhigh⟩
    have hmain : ((nth taps 3 0).natAbs : Int) ≤ tapLimit 3 := by
      have hlimit : tapLimit 3 = 64 := rfl
      omega
    have hall : ∀ k ∈ [0, 1, 2, 3, 4, 5], ((nth taps k 0).natAbs : Int) ≤ tapLimit k := by
      intro k hk
      by_cases h3 : k = 3
      · rw [h3]
        exact hmain
      · exact hrange k (by revert k; decide)
    simp only [tapsLegal, Bool.and_eq_true, decide_eq_true_eq, List.all_eq_true, hlist]
    exact ⟨⟨⟨⟨hlength, hall⟩, hbudget⟩, hlow⟩, hhigh⟩

theorem nth_setTap_same {taps : List Int} {k : Nat} (h : k < taps.length) (v : Int) : nth (taps.set k v) k 0 = v := by
  simp [nth, h]

theorem nth_setTap_other (taps : List Int) {k i : Nat} (h : k ≠ i) (v : Int) : nth (taps.set k v) i 0 = nth taps i 0 := by
  simp [nth, List.getElem?_set_ne h]

/-- The other taps' sum does not see a tap. -/
theorem sideSum_setTap (taps : List Int) (k : Nat) (v : Int) : sideSum (taps.set k v) k = sideSum taps k := by
  refine List.foldl_ext _ _ 0 fun a i hi => ?_
  have hne : i ≠ k := by simpa using (List.mem_filter.mp hi).2
  rw [nth_setTap_other taps hne.symm]

theorem sideSum_split (taps : List Int) {k : Nat} (hk : k ∈ sideTaps) : sideSum taps 3 = sideSum taps k + (nth taps k 0).natAbs := by
  simp only [sideTaps, List.mem_cons, List.not_mem_nil, or_false] at hk
  obtain rfl | rfl | rfl | rfl | rfl := hk <;> simp [sideSum] <;> omega

/-- A clamped tap lies in its range, and within what the others leave of the budget. -/
theorem clampI_range {limit rest v : Int} (hl : 0 ≤ limit) (hr : 0 ≤ rest) :
    ((clampI (-rest) rest (clampI (-limit) limit v)).natAbs : Int) ≤ limit ∧
      ((clampI (-rest) rest (clampI (-limit) limit v)).natAbs : Int) ≤ rest := by
  simp only [clampI]
  omega

theorem clampTap_legal {taps : List Int} (h : SideLegal taps) {k : Nat} (hk : k ∈ sideTaps) (v : Int) : SideLegal (clampTap taps k v) := by
  obtain ⟨hlength, hrange, hbudget⟩ := h
  have hsplit := sideSum_split taps hk
  have hsix : ∀ j ∈ sideTaps, j < 6 := by decide
  have hbound : k < taps.length := hlength ▸ hsix k hk
  have hclamped := clampI_range (v := v) (limit := tapLimit k) (rest := 40 - sideSum taps k) (by have := hrange k hk; omega) (by omega)
  refine ⟨(List.length_set ..).trans hlength, fun i hi => ?_, ?_⟩
  · rw [clampTap]
    by_cases hik : k = i
    · rw [← hik, nth_setTap_same hbound]
      exact hclamped.1
    · rw [nth_setTap_other taps hik]
      exact hrange i hi
  · rw [sideSum_split _ hk, clampTap, sideSum_setTap, nth_setTap_same hbound]
    omega

theorem clampMain_legal {taps : List Int} (h : SideLegal taps) (v : Int) : tapsLegal (clampMain taps v) = true := by
  obtain ⟨hlength, hrange, hbudget⟩ := h
  have hsum : sideSum (clampMain taps v) 3 = sideSum taps 3 := sideSum_setTap taps 3 _
  have hmain : nth (clampMain taps v) 3 0 = clampI 24 (64 - sideSum taps 3) v := nth_setTap_same (by omega) _
  refine (tapsLegal_iff _).mpr ⟨⟨(List.length_set ..).trans hlength, fun i hi => ?_, hsum ▸ hbudget⟩, ?_⟩
  · rw [clampMain, nth_setTap_other taps (by rintro rfl; revert hi; decide)]
    exact hrange i hi
  · rw [hsum, hmain, clampI]
    omega

theorem clampTaps_legal {taps : List Int} (h : SideLegal taps) {side : List (Nat × Int)} (hside : ∀ p ∈ side, p.1 ∈ sideTaps) (main : Int) :
    tapsLegal (clampTaps taps side main) = true :=
  clampMain_legal (List.foldlRecOn side _ h fun _ ht p hp => clampTap_legal ht (hside p hp) p.2) main

/-- Legal taps fit their fields. -/
theorem tap_bounds {taps : List Int} (h : tapsLegal taps = true) {k : Nat} (hk : k < 6) : -2 ^ 7 ≤ nth taps k 0 ∧ nth taps k 0 < 2 ^ 7 := by
  simp only [tapsLegal, Bool.and_eq_true, decide_eq_true_eq, List.all_eq_true] at h
  obtain ⟨⟨⟨⟨-, hrange⟩, -⟩, -⟩, -⟩ := h
  have hlimit : ∀ j : Fin 6, tapLimit j ≤ 64 := by decide
  have h1 := hrange k (List.mem_range.mpr hk)
  have h2 := hlimit ⟨k, hk⟩
  dsimp only at h2
  omega

/-! ### The taps stored -/

theorem tapField_apart (lane : Fin 16) {j k : Nat} (hj : j < 6) (hk : k < 6) (h : j ≠ k) : apart (tapField lane j) (tapField lane k) = true := by
  have hall : ∀ (i : Fin 16) (j k : Fin 6), j ≠ k → apart (tapField i j) (tapField i k) = true := by decide
  exact hall lane ⟨j, hj⟩ ⟨k, hk⟩ (by simpa using h)

theorem tapField_width (lane : Fin 16) {k : Nat} (hk : k < 6) : (tapField lane k).hi + 1 - (tapField lane k).lo = 7 + 1
    ∧ (tapField lane k).lo ≤ (tapField lane k).hi ∧ (tapField lane k).hi < 32 := by
  have hall : ∀ (i : Fin 16) (k : Fin 6), (tapField i k).hi + 1 - (tapField i k).lo = 7 + 1
      ∧ (tapField i k).lo ≤ (tapField i k).hi ∧ (tapField i k).hi < 32 := by decide
  exact hall lane ⟨k, hk⟩

theorem tapField_addr (n k : Nat) : (tapField n k).addr ∈ [R.HOSTLANE_TX_FFE_PRE n, R.HOSTLANE_TX_FFE_POST n] := by
  unfold tapField
  split <;> simp only [F.HOSTLANE_TX_FFE_PRE.C_M3, F.HOSTLANE_TX_FFE_PRE.C_M2, F.HOSTLANE_TX_FFE_PRE.C_M1, F.HOSTLANE_TX_FFE_POST.C_0,
    F.HOSTLANE_TX_FFE_POST.C_P1, F.HOSTLANE_TX_FFE_POST.C_P2, List.mem_cons, true_or, or_true]

/-- The first `m` taps stored. -/
def State.tapsStored (s : State) (n : Nat) (taps : List Int) (m : Nat) : State :=
  (List.range m).foldl (fun s k => s.setS (tapField n k) (nth taps k 0)) s

theorem State.tapsStored_succ (s : State) (n : Nat) (taps : List Int) (m : Nat) :
    s.tapsStored n taps (m + 1) = (s.tapsStored n taps m).setS (tapField n m) (nth taps m 0) := by
  simp only [State.tapsStored, List.range_succ, List.foldl_append, List.foldl_cons, List.foldl_nil]

theorem State.tapsStored_getS (s : State) (lane : Fin 16) {taps : List Int} (h : ∀ k < 6, -2 ^ 7 ≤ nth taps k 0 ∧ nth taps k 0 < 2 ^ 7)
    {m : Nat} (hm : m ≤ 6) {k : Nat} (hk : k < m) : (s.tapsStored lane taps m).getS (tapField lane k) = nth taps k 0 := by
  induction m with
  | zero => exact absurd hk (Nat.not_lt_zero k)
  | succ m ih =>
    obtain ⟨hwidth, hlo, hhi⟩ := tapField_width lane (show m < 6 by omega)
    rw [State.tapsStored_succ]
    by_cases hkm : k = m
    · rw [hkm]
      exact State.getS_setS_same _ _ hwidth hlo hhi (h m (by omega))
    · have hget := State.get_set_apart (s.tapsStored lane taps m) (ofSigned ((tapField lane m).hi + 1 - (tapField lane m).lo) (nth taps m 0))
        hlo hhi (tapField_apart lane (by omega) (by omega) hkm)
      rw [State.getS, State.setS, hget]
      exact ih (by omega) (by omega)

theorem nth_taps_eq {taps : List Int} (h : taps.length = 6) : (List.range 6).map (fun k => nth taps k 0) = taps := by
  refine List.ext_getElem (by simp [h]) fun i h1 h2 => ?_
  simp [nth, h2]

theorem State.taps_setTaps (s : State) (lane : Fin 16) {taps : List Int} (h : tapsLegal taps = true) : (s.setTaps lane taps).taps lane = taps := by
  obtain ⟨⟨hlength, -, -⟩, -, -⟩ := (tapsLegal_iff taps).mp h
  refine Eq.trans (List.map_congr_left fun k hk => ?_) (nth_taps_eq hlength)
  exact s.tapsStored_getS lane (fun k hk => tap_bounds h hk) (Nat.le_refl 6) (List.mem_range.mp hk)

theorem onlyRegs_setTaps (s : State) (n : Nat) (taps : List Int) :
    s.onlyRegs (s.setTaps n taps) [R.HOSTLANE_TX_FFE_PRE n, R.HOSTLANE_TX_FFE_POST n] :=
  List.foldlRecOn (motive := fun t => s.onlyRegs t [R.HOSTLANE_TX_FFE_PRE n, R.HOSTLANE_TX_FFE_POST n]) (List.range 6) _ (onlyRegs_refl s _)
    fun _ ht k _ => onlyRegs_setS ht (tapField_addr n k) _

/-! ### Writes and requests -/

theorem State.ffeWrite_clamps {s : State} {n : Nat} (h : s.laneState n ≠ 3) (hlegal : tapsLegal (s.taps n) = true) (post : Bool) (w : Word) :
    ∃ taps, tapsLegal taps = true ∧ s.ffeWrite n post w = s.setTaps n taps := by
  obtain ⟨hside, -, -⟩ := (tapsLegal_iff _).mp hlegal
  unfold State.ffeWrite
  rw [if_neg h]
  refine ⟨_, ?_, rfl⟩
  cases post
  · exact clampTaps_legal hside (by simp [sideTaps]) _
  · exact clampTaps_legal hside (by simp [sideTaps]) _

/-- The taps that a partner's step asks for, clamped. -/
def stepped (taps : List Int) (k : Fin 6) (up : Bool) : List Int :=
  let v := nth taps k 0 + (if up then 1 else -1)
  if k.val = 3 then clampMain taps v else clampMain (clampTap taps k v) (nth taps 3 0)

theorem stepped_legal {taps : List Int} (h : tapsLegal taps = true) (k : Fin 6) (up : Bool) : tapsLegal (stepped taps k up) = true := by
  obtain ⟨hside, -, -⟩ := (tapsLegal_iff _).mp h
  have hk : k.val ≠ 3 → k.val ∈ sideTaps := by
    revert k
    decide
  unfold stepped
  dsimp only
  split
  · exact clampMain_legal hside _
  · next h3 => exact clampMain_legal (clampTap_legal hside (hk h3) _) _

theorem State.coeffRequest_step {s : State} {n : Nat} {k : Fin 6} (h : s.laneState n = 3) (ha : s.addressed n k = true) (up : Bool) :
    ∃ answer, (answer = .updated ∨ answer = .atLimit) ∧
      s.coeffRequest n (.step k up) = (s.setTaps n (stepped (s.taps n) k up)).send (.trainingAnswer n answer) := by
  unfold State.coeffRequest
  rw [if_pos h]
  dsimp only
  rw [if_pos ha]
  exact ⟨_, (em _).imp (fun h => if_pos h) (fun h => if_neg h), rfl⟩

theorem State.coeffRequest_preset {s : State} {n : Nat} (h : s.laneState n = 3) (hlegal : tapsLegal (s.taps n) = true) (number : Fin 8) :
    ∃ taps, tapsLegal taps = true ∧ s.coeffRequest n (.preset number) = (s.setTaps n taps).send (.trainingAnswer n .updated) := by
  obtain ⟨hside, -, -⟩ := (tapsLegal_iff _).mp hlegal
  unfold State.coeffRequest
  rw [if_pos h]
  refine ⟨_, clampTaps_legal hside (fun p hp => ?_) _, rfl⟩
  obtain ⟨k, hk, rfl⟩ := List.mem_map.mp hp
  have hall : ∀ j ∈ [0, 1, 2, 4], j ∈ sideTaps := by decide
  exact hall k (List.mem_filter.mp hk).1

theorem State.coeffRequest_unaddressed {s : State} {n : Nat} {k : Fin 6} (h : s.laneState n = 3) (ha : s.addressed n k = false) (up : Bool) :
    s.coeffRequest n (.step k up) = (s.laneViolation n 2).send (.trainingAnswer n .notUpdated) := by
  unfold State.coeffRequest
  rw [if_pos h]
  exact if_neg (by simp [ha])

theorem State.coeffRequest_contradictory {s : State} {n : Nat} (h : s.laneState n = 3) :
    s.coeffRequest n .contradictory = (s.laneViolation n 2).send (.trainingAnswer n .notUpdated) := if_pos h

theorem State.mem_send (s : State) (o : Out) : o ∈ (s.send o).sent := List.mem_cons_self

theorem State.taps_send (s : State) (o : Out) (n : Nat) : (s.send o).taps n = s.taps n := rfl

/-- Legal taps stored and answered. -/
theorem State.setTaps_answered (s : State) (lane : Fin 16) {taps : List Int} (h : tapsLegal taps = true) (o : Out) :
    tapsLegal (((s.setTaps lane taps).send o).taps lane) = true ∧ o ∈ ((s.setTaps lane taps).send o).sent ∧
      s.onlyRegs ((s.setTaps lane taps).send o) [R.HOSTLANE_TX_FFE_PRE lane, R.HOSTLANE_TX_FFE_POST lane] :=
  ⟨by rwa [State.taps_send, s.taps_setTaps lane h], State.mem_send _ o, onlyRegs_send (onlyRegs_setTaps s lane taps) o⟩

/-- A violation answered not updated. -/
theorem State.notUpdated_holds (s : State) (lane : Fin 16) (o : Out) : s.Violated ((s.laneViolation lane 2).send o) lane 2 :=
  have ⟨hlast, hcount, hraised, honly⟩ := s.laneViolation_holds lane (code := 2)
  { last := (State.send_get _ o _).trans hlast
    count := (State.send_get _ o _).trans hcount
    raised := (State.send_on _ o _).trans hraised
    only := onlyRegs_send honly o }

theorem exec_txFfeWrite {s : State} {path : Path} {lane : Fin 16} (hw : s.mayWrite path (R.HOSTLANE_TX_FFE_PRE lane)) (post : Bool) (value : Word) :
    exec (.txFfeWrite path lane post value) s = .next (s.ffeWrite lane post value) := congrArg Host.Outcome.next (State.rwWrite_accepted hw _)

/-- Settles O30: clamping the taps one after another keeps the non-main ones in the budget, c(0) is clamped last, and what is stored reads back. -/
theorem transmitTapsStayInBudget : Obligations.TransmitTapsStayInBudget := by
  unfold Obligations.TransmitTapsStayInBudget
  refine ⟨?write, ?step, ?preset, ?unaddressed, ?discarded, ?contradictory⟩
  case write =>
    intro s path lane post value hw h hlegal
    obtain ⟨taps, htaps, heq⟩ := State.ffeWrite_clamps h hlegal post value
    exact ⟨_, (exec_txFfeWrite hw post value).trans (congrArg Host.Outcome.next heq), by rwa [State.taps_setTaps s lane htaps],
      onlyRegs_setTaps s lane taps⟩
  case step =>
    intro s lane k up h ha hlegal
    obtain ⟨answer, hanswer, heq⟩ := State.coeffRequest_step h ha up
    obtain ⟨htaps, hsent, honly⟩ := s.setTaps_answered lane (stepped_legal hlegal k up) (.trainingAnswer lane answer)
    refine ⟨_, congrArg Host.Outcome.next heq, htaps, ?_, honly⟩
    obtain rfl | rfl := hanswer
    · exact .inl hsent
    · exact .inr hsent
  case preset =>
    intro s lane number h hlegal
    obtain ⟨taps, htaps, heq⟩ := State.coeffRequest_preset h hlegal number
    exact ⟨_, congrArg Host.Outcome.next heq, s.setTaps_answered lane htaps _⟩
  case unaddressed =>
    intro s lane k up h ha
    obtain ⟨hlast, hcount, hraised, honly⟩ := s.notUpdated_holds lane (.trainingAnswer lane .notUpdated)
    exact ⟨_, congrArg Host.Outcome.next (State.coeffRequest_unaddressed h ha up), State.mem_send _ _, hlast, hcount, hraised, honly⟩
  case discarded =>
    intro s path lane post value hw h
    exact ⟨_, exec_txFfeWrite hw post value, if_pos h⟩
  case contradictory =>
    intro s lane h
    obtain ⟨hlast, hcount, hraised, honly⟩ := s.notUpdated_holds lane (.trainingAnswer lane .notUpdated)
    exact ⟨_, congrArg Host.Outcome.next (State.coeffRequest_contradictory h), State.mem_send _ _, hlast, hcount, hraised, honly⟩

end Sys2Proof.Machine
end

section
/-!
O31. TX_IDLE, the quads' PLLs, precoding and near-end loopback of a lane (R146, R153, R159).
-/
-- An argument that a tactic fills waits for all declarations before it: elaborated in parallel, such proofs would each hold a thread.
set_option Elab.async false

namespace Sys2Proof.Machine
open Sys2Proof

/-! ### What a lane's IN_IDLE is shown from -/

/-- Whether a field lies in none of the lanes' TX_CFG and INJ_COUNT words. -/
def idleAside (f : Fld) : Prop := ∀ n, f.addr ≠ R.HOSTLANE_TX_CFG n ∧ f.addr ≠ R.HOSTLANE_INJ_COUNT n

theorem idleAside_state (m : Nat) : idleAside (F.HOSTLANE_STATE.STATE m) := fun n => by
  simp only [F.HOSTLANE_STATE.STATE, R.HOSTLANE_STATE, R.HOSTLANE_TX_CFG, R.HOSTLANE_INJ_COUNT]
  omega

theorem idleAside_loopNear (m : Nat) : idleAside (F.HOSTLANE_CTRL.LOOP_NEAR m) := fun n => by
  simp only [F.HOSTLANE_CTRL.LOOP_NEAR, R.HOSTLANE_CTRL, R.HOSTLANE_TX_CFG, R.HOSTLANE_INJ_COUNT]
  omega

theorem idleAside_txInvert (m : Nat) : idleAside (F.HOSTLANE_CTRL.TX_INVERT m) := fun n => by
  simp only [F.HOSTLANE_CTRL.TX_INVERT, R.HOSTLANE_CTRL, R.HOSTLANE_TX_CFG, R.HOSTLANE_INJ_COUNT]
  omega

theorem idleAside_quad (k : Nat) : idleAside ⟨R.HOSTLANE_QUAD_STATUS, k, k⟩ := fun n => by
  simp only [R.HOSTLANE_QUAD_STATUS, R.HOSTLANE_TX_CFG, R.HOSTLANE_INJ_COUNT]
  omega

theorem State.showIdle_aside (s : State) (n : Nat) {f : Fld} (hf : idleAside f) : (s.showIdle n).get f = s.get f :=
  s.showIdle_apart (hf n).2 (apart_of_addr (hf n).1)

theorem State.showIdle_pllLocked (s : State) (n m : Nat) : (s.showIdle n).pllLocked m = s.pllLocked m :=
  State.on_of_get (s.showIdle_aside n (idleAside_quad (m / 4)))

/-- Showing IN_IDLE of any lane leaves what it is shown from, of every lane. -/
theorem State.showIdle_ballIdle (s : State) (n m : Nat) : (s.showIdle n).ballIdle m = s.ballIdle m := by
  have hstate : (s.showIdle n).laneState m = s.laneState m := s.showIdle_aside n (idleAside_state m)
  have hidle : ((s.showIdle n).lane m).idle = (s.lane m).idle := congrArg Prod.fst (s.showIdle_held n m)
  simp only [State.ballIdle, State.laneSilent, hstate, s.showIdle_pllLocked, hidle, State.on_of_get (s.showIdle_aside n (idleAside_loopNear m))]

/-- Showing IN_IDLE of one lane leaves that of another as shown. -/
theorem State.showIdle_shown {s : State} {m : Nat} (n : Nat) (h : s.on (F.HOSTLANE_TX_CFG.IN_IDLE m) = s.ballIdle m) :
    (s.showIdle n).on (F.HOSTLANE_TX_CFG.IN_IDLE m) = (s.showIdle n).ballIdle m := by
  rw [s.showIdle_ballIdle]
  by_cases hnm : n = m
  · rw [hnm, s.showIdle_inIdle]
  · refine (State.on_of_get (s.showIdle_apart ?_ (apart_of_addr ?_))).trans h
    · simp only [F.HOSTLANE_TX_CFG.IN_IDLE, R.HOSTLANE_TX_CFG, R.HOSTLANE_INJ_COUNT]
      omega
    · simp only [F.HOSTLANE_TX_CFG.IN_IDLE, R.HOSTLANE_TX_CFG]
      omega

theorem State.showQuad_inIdle (s : State) (q : Nat) (i : Fin 4) :
    (s.showQuad q).on (F.HOSTLANE_TX_CFG.IN_IDLE (4 * q + i)) = s.ballIdle (4 * q + i) := by
  have hshown : (s.showQuad q).on (F.HOSTLANE_TX_CFG.IN_IDLE (4 * q + i)) = (s.showQuad q).ballIdle (4 * q + i) :=
    foldl_establishes (fun t => t.on (F.HOSTLANE_TX_CFG.IN_IDLE (4 * q + i)) = t.ballIdle (4 * q + i)) (fun t j => t.showIdle (4 * q + j))
      (List.mem_range.mpr i.isLt) (fun t => (t.showIdle_inIdle _).trans (t.showIdle_ballIdle _ _).symm)
      (fun t j ht => t.showIdle_shown _ ht) s
  exact hshown.trans (foldl_keeps (fun t => t.ballIdle (4 * q + i)) (fun t j => t.showIdle (4 * q + j)) (fun t j => t.showIdle_ballIdle _ _) _ s)

theorem State.showQuad_aside (s : State) (q : Nat) {f : Fld} (hf : idleAside f) : (s.showQuad q).get f = s.get f :=
  foldl_keeps (fun t => t.get f) (fun t j => t.showIdle (4 * q + j)) (fun t _ => t.showIdle_aside _ hf) _ s

theorem Frame.showQuad {s0 s : State} {W : Nat → Prop} (h : Frame W s0 s) (q : Nat) (hW : ∀ i < 4, ∀ a ∈ idleWords (4 * q + i), W a) :
    Frame W s0 (s.showQuad q) :=
  Frame.foldl h fun t i hi ht => ht.trans ((showIdle_frame t _).mono (hW i (List.mem_range.mp hi)))

/-! ### TX_IDLE in DATA -/

theorem State.txIdle_data {s : State} {lane : Fin 16} (h : s.laneState lane = 4) (v : Bool) :
    s.txIdle lane v = (s.setB (F.HOSTLANE_TX_CFG.TX_IDLE lane) v).laneIdle lane v :=
  if_pos ((s.get_setLane lane F.HOSTLANE_STATE.STATE F.HOSTLANE_TX_CFG.TX_IDLE _).trans h)

theorem State.txIdle_stored {s : State} {lane : Fin 16} (h : s.laneState lane ≠ 4) (v : Bool) :
    s.txIdle lane v = s.setB (F.HOSTLANE_TX_CFG.TX_IDLE lane) v :=
  if_neg fun h4 => h ((s.get_setLane lane F.HOSTLANE_STATE.STATE F.HOSTLANE_TX_CFG.TX_IDLE _).symm.trans h4)

/-- A lane in DATA after TX_IDLE took effect shows its idle, or an unlocked PLL, or near-end loopback. -/
theorem State.laneIdle_inIdle {s : State} {lane : Fin 16} (h : s.laneState lane = 4) (hlen : lane.val < s.lanes.length) (v : Bool) :
    (s.laneIdle lane v).on (F.HOSTLANE_TX_CFG.IN_IDLE lane) = (!s.pllLocked lane || v || s.on (F.HOSTLANE_CTRL.LOOP_NEAR lane)) := by
  have h4 (f : LaneSt → LaneSt) : decide ((s.onLane lane f).laneState lane = 0) = false := by
    refine decide_eq_false ?_
    rw [show (s.onLane lane f).laneState lane = 4 from h]
    decide
  rw [State.on_of_get (s.laneIdle_get lane v _), State.idleSet, State.showIdle_inIdle, State.ballIdle, State.laneSilent, h4,
    State.onLane_lane hlen]
  rfl

/-- Words of the lane's idle and no others. -/
theorem txIdle_frame {s : State} {lane : Fin 16} (h : s.laneState lane = 4) (v : Bool) :
    Frame (· ∈ [R.HOSTLANE_TX_CFG lane, R.HOSTLANE_INJ_COUNT lane]) s (s.txIdle lane v) := by
  rw [State.txIdle_data h]
  have hset : Frame (· ∈ idleWords lane) s (s.setB (F.HOSTLANE_TX_CFG.TX_IDLE lane) v) := (Frame.refl _ s).set List.mem_cons_self
  exact hset.trans (laneIdle_frame _ lane v)

/-- What TX_IDLE in DATA leaves behind, the wake burst aside. -/
theorem State.txIdle_holds {s : State} {lane : Fin 16} (h : s.laneState lane = 4) (hlen : lane.val < s.lanes.length) (v : Bool) :
    (s.txIdle lane v).on (F.HOSTLANE_TX_CFG.TX_IDLE lane) = v ∧ ((s.txIdle lane v).lane lane).idle = v ∧
    (s.txIdle lane v).on (F.HOSTLANE_TX_CFG.IN_IDLE lane) = (!s.pllLocked lane || v || s.on (F.HOSTLANE_CTRL.LOOP_NEAR lane)) := by
  have hstate : (s.setB (F.HOSTLANE_TX_CFG.TX_IDLE lane) v).laneState lane = 4 :=
    (s.get_setLane lane F.HOSTLANE_STATE.STATE F.HOSTLANE_TX_CFG.TX_IDLE _).trans h
  have hpll : (s.setB (F.HOSTLANE_TX_CFG.TX_IDLE lane) v).pllLocked lane = s.pllLocked lane :=
    State.on_of_get (s.get_set_other _ (idleAside_quad (lane / 4) lane).1)
  have hloop : (s.setB (F.HOSTLANE_TX_CFG.TX_IDLE lane) v).on (F.HOSTLANE_CTRL.LOOP_NEAR lane) = s.on (F.HOSTLANE_CTRL.LOOP_NEAR lane) :=
    State.on_of_get (s.get_set_other _ (idleAside_loopNear lane lane).1)
  rw [State.txIdle_data h]
  refine ⟨?_, State.laneIdle_idle (by simpa using hlen) v, ?_⟩
  · have haside : ∀ i : Fin 16, (F.HOSTLANE_TX_CFG.TX_IDLE i).addr ≠ R.HOSTLANE_INJ_COUNT i
        ∧ apart (F.HOSTLANE_TX_CFG.TX_IDLE i) (F.HOSTLANE_TX_CFG.IN_IDLE i) = true := by decide
    obtain ⟨hcount, hapart⟩ := haside lane
    exact (State.on_of_get (State.laneIdle_apart _ v hcount hapart)).trans (s.on_setB_same _ v rfl (by decide : 8 < 32))
  · rw [State.laneIdle_inIdle hstate (by simpa using hlen), hpll, hloop]

theorem State.wakeSend_sent (s : State) (n : Nat) : .wakeBurst n (s.on (F.HOSTLANE_CTRL.TX_INVERT n)) ∈ (s.wakeSend n).sent :=
  List.mem_cons_of_mem _ List.mem_cons_self

/-- Idle that ends in DATA with the PLL locked sends a wake burst. -/
theorem State.laneIdle_wakes {s : State} {n : Nat} (h : s.laneState n = 4) (hidle : (s.lane n).idle = true) (hpll : s.pllLocked n = true) :
    .wakeBurst n (s.on (F.HOSTLANE_CTRL.TX_INVERT n)) ∈ (s.laneIdle n false).sent := by
  have hkept : (s.idleSet n false).pllLocked n = true := (State.showIdle_pllLocked _ n n).trans hpll
  have hinvert : (s.idleSet n false).on (F.HOSTLANE_CTRL.TX_INVERT n) = s.on (F.HOSTLANE_CTRL.TX_INVERT n) :=
    State.on_of_get (State.showIdle_aside _ n (idleAside_txInvert n))
  have hwakes : s.laneIdle n false = (s.idleSet n false).wakeSend n := by
    refine if_pos ?_
    rw [Bool.and_eq_true]
    exact ⟨by simp [hidle, h], hkept⟩
  rw [hwakes, ← hinvert]
  exact State.wakeSend_sent _ n

theorem State.txIdle_wakes {s : State} {lane : Fin 16} (h : s.laneState lane = 4) (hidle : (s.lane lane).idle = true)
    (hpll : s.pllLocked lane = true) : .wakeBurst lane (s.on (F.HOSTLANE_CTRL.TX_INVERT lane)) ∈ (s.txIdle lane false).sent := by
  have hinvert : (s.setB (F.HOSTLANE_TX_CFG.TX_IDLE lane) false).on (F.HOSTLANE_CTRL.TX_INVERT lane) = s.on (F.HOSTLANE_CTRL.TX_INVERT lane) :=
    State.on_of_get (s.get_set_other _ (idleAside_txInvert lane lane).1)
  have hstate : (s.setB (F.HOSTLANE_TX_CFG.TX_IDLE lane) false).laneState lane = 4 :=
    (s.get_setLane lane F.HOSTLANE_STATE.STATE F.HOSTLANE_TX_CFG.TX_IDLE _).trans h
  have hlocked : (s.setB (F.HOSTLANE_TX_CFG.TX_IDLE lane) false).pllLocked lane = true :=
    (State.on_of_get (s.get_set_other _ (idleAside_quad (lane / 4) lane).1)).trans hpll
  have hlane := State.lane_of_lanes (State.setB_lanes s (F.HOSTLANE_TX_CFG.TX_IDLE lane) false) lane
  rw [State.txIdle_data h, ← hinvert]
  exact State.laneIdle_wakes hstate ((congrArg LaneSt.idle hlane).trans hidle) hlocked

/-! ### The quads' PLLs -/

/-- The lock bit of a quad's PLL. -/
abbrev pllBit (q : Nat) : Fld := ⟨R.HOSTLANE_QUAD_STATUS, q, q⟩

/-- The quad's status and the idle words of its lanes. -/
def quadWords (q : Nat) : List Nat :=
  [R.HOSTLANE_QUAD_STATUS, R.HOSTLANE_TX_CFG (4 * q), R.HOSTLANE_TX_CFG (4 * q + 1), R.HOSTLANE_TX_CFG (4 * q + 2), R.HOSTLANE_TX_CFG (4 * q + 3)]

theorem State.pllLocked_quad (s : State) (q : Nat) (i : Fin 4) : s.pllLocked (4 * q + i) = s.on (pllBit q) := by
  have hq : (4 * q + i.val) / 4 = q := by omega
  rw [State.pllLocked, hq]

/-- A silent lane sends no SINGLE: showing its idle writes TX_CFG alone. -/
theorem showIdle_frame_silent {s : State} {n : Nat} (h : s.pllLocked n = false) : Frame (· ∈ [R.HOSTLANE_TX_CFG n]) s (s.showIdle n) := by
  have hshown : Frame (· ∈ [R.HOSTLANE_TX_CFG n]) s (s.idleShown n) := (Frame.refl _ s).set List.mem_cons_self
  have hpll : (s.idleShown n).pllLocked n = false := (State.on_of_get (s.get_set_other _ (idleAside_quad (n / 4) n).1)).trans h
  have hsilent : (s.idleShown n).laneSilent n = true := by simp [State.laneSilent, hpll]
  have hrun (k : Nat) : Frame (· ∈ [R.HOSTLANE_TX_CFG n]) (s.idleShown n) ((s.idleShown n).laneRun n k) := by
    unfold State.laneRun
    dsimp only
    rw [if_pos hsilent]
    exact (Frame.refl _ _).fields
  rw [State.showIdle_eq]
  exact (hshown.trans (hrun _)).ite hshown

theorem txCfg_mem_quadWords {q i : Nat} (h : i < 4) : R.HOSTLANE_TX_CFG (4 * q + i) ∈ quadWords q := by
  obtain rfl | rfl | rfl | rfl : i = 0 ∨ i = 1 ∨ i = 2 ∨ i = 3 := by omega
  all_goals simp [quadWords]

/-- An unlocked quad's lanes show their idle in TX_CFG alone. -/
theorem showQuad_frame_silent {s : State} {q : Nat} (h : s.on (pllBit q) = false) : Frame (· ∈ quadWords q) s (s.showQuad q) := by
  have hfold : Frame (· ∈ quadWords q) s (s.showQuad q) ∧ (s.showQuad q).on (pllBit q) = false := by
    refine List.foldlRecOn (motive := fun t => Frame (· ∈ quadWords q) s t ∧ t.on (pllBit q) = false) (List.range 4) _ ⟨Frame.refl _ s, h⟩ ?_
    rintro t ⟨ht, hpll⟩ i hi
    have hi4 := List.mem_range.mp hi
    refine ⟨ht.trans ((showIdle_frame_silent ((t.pllLocked_quad q ⟨i, hi4⟩).trans hpll)).mono ?_),
      (State.on_of_get (t.showIdle_aside _ (idleAside_quad q))).trans hpll⟩
    rintro a ha
    rw [List.mem_singleton.mp ha]
    exact txCfg_mem_quadWords hi4
  exact hfold.1

theorem pllBit_ordinary (q : Nat) : ordinary (pllBit q).addr := by
  simp only [ordinary, R.HOSTLANE_QUAD_STATUS]
  omega

/-- Wake bursts that waited for the lock are sent. -/
def State.quadWakes (s : State) (q : Nat) : State :=
  (List.range 4).foldl (fun s i => if (s.lane (4 * q + i)).wakeOwed then s.wakeSend (4 * q + i) else s) s

theorem State.quadWakes_regs (s : State) (q : Nat) : (s.quadWakes q).regs = s.regs := by
  refine foldl_keeps State.regs _ (fun t i => ?_) _ s
  split
  · exact State.wakeSend_regs _ _
  · rfl

theorem State.quadWakes_get (s : State) (q : Nat) (f : Fld) : (s.quadWakes q).get f = s.get f := by
  rw [State.get, State.rd, State.quadWakes_regs]
  rfl

theorem Frame.quadWakes {s0 s : State} {W : Nat → Prop} (h : Frame W s0 s) (q : Nat) : Frame W s0 (s.quadWakes q) :=
  Frame.foldl h fun _ _ _ ht => Frame.ite ht.wakeSend ht

/-- IN_IDLE of a lane of a quad whose lock bit has just been written. -/
theorem State.ballIdle_quad (s : State) (q : Nat) (v : Nat) (i : Fin 4) :
    (s.set (pllBit q) v).ballIdle (4 * q + i) = (decide (s.laneState (4 * q + i) = 0) || !(s.set (pllBit q) v).on (pllBit q) ||
      (s.lane (4 * q + i)).idle || s.on (F.HOSTLANE_CTRL.LOOP_NEAR (4 * q + i))) := by
  have hset {f : Fld} (hf : f.addr ≠ R.HOSTLANE_QUAD_STATUS) : (s.set (pllBit q) v).get f = s.get f := s.get_set_other v hf
  have hstate : (s.set (pllBit q) v).laneState (4 * q + i) = s.laneState (4 * q + i) := by
    refine hset ?_
    simp only [F.HOSTLANE_STATE.STATE, R.HOSTLANE_STATE, R.HOSTLANE_QUAD_STATUS]
    omega
  have hloop : (s.set (pllBit q) v).on (F.HOSTLANE_CTRL.LOOP_NEAR (4 * q + i)) = s.on (F.HOSTLANE_CTRL.LOOP_NEAR (4 * q + i)) := by
    refine State.on_of_get (hset ?_)
    simp only [F.HOSTLANE_CTRL.LOOP_NEAR, R.HOSTLANE_CTRL, R.HOSTLANE_QUAD_STATUS]
    omega
  rw [State.ballIdle, State.laneSilent, hstate, hloop, State.pllLocked_quad]
  rfl

/-! ### Near-end loopback -/

/-- LOOP_NEAR changed, before the RETRAIN that it acts as. -/
def State.loopSet (s : State) (n : Nat) (v : Bool) : State :=
  ((s.onLane n fun l => { l with wire := [] }).setB (F.HOSTLANE_CTRL.LOOP_NEAR n) v).showIdle n

theorem State.loopNear_change {s : State} {n : Nat} {v : Bool} (h : s.on (F.HOSTLANE_CTRL.LOOP_NEAR n) ≠ v) :
    s.loopNear n v = (s.loopSet n v).retrain n := if_neg h

theorem State.loopSet_laneState (s : State) (lane : Fin 16) (v : Bool) : (s.loopSet lane v).laneState lane = s.laneState lane :=
  (State.showIdle_aside _ lane (idleAside_state lane)).trans (State.get_setLane _ lane F.HOSTLANE_STATE.STATE F.HOSTLANE_CTRL.LOOP_NEAR _)

theorem State.loopSet_loopNear (s : State) (lane : Fin 16) (v : Bool) : (s.loopSet lane v).on (F.HOSTLANE_CTRL.LOOP_NEAR lane) = v :=
  (State.on_of_get (State.showIdle_aside _ lane (idleAside_loopNear lane))).trans (State.on_setB_same _ _ v rfl (by decide : 8 < 32))

theorem State.loopSet_mem (s : State) (n : Nat) (v : Bool) : (s.loopSet n v).mem = s.mem := (showIdle_frame _ n).mem

theorem State.dataDown_get (s : State) (lane : Fin 16) (f : Nat → Fld)
    (hf : ∀ i : Fin 16, hostField (eventWords i) (f i) = true := by decide) : (s.dataDown lane).get (f lane) = s.get (f lane) := by
  unfold State.dataDown
  split
  · exact s.laneEvent_get lane 1 f hf
  · rfl

theorem State.retrain_loopNear {s : State} {lane : Fin 16} {st : Nat} (h : s.laneState lane = st) (hst : st ∉ [0, 2, 3, 7] := by decide) :
    (s.retrain lane).on (F.HOSTLANE_CTRL.LOOP_NEAR lane) = s.on (F.HOSTLANE_CTRL.LOOP_NEAR lane) := by
  rw [State.retrain_moves h hst]
  exact State.on_of_get ((State.toLane_get _ lane 2 F.HOSTLANE_CTRL.LOOP_NEAR).trans (s.dataDown_get lane F.HOSTLANE_CTRL.LOOP_NEAR))

/-! ### The commands -/

theorem exec_txIdleSet {s : State} {path : Path} {lane : Fin 16} (hw : s.mayWrite path (R.HOSTLANE_TX_CFG lane)) :
    exec (.txIdleSet path lane) s = .next (s.txIdle lane true) := congrArg Host.Outcome.next (State.rwWrite_accepted hw _)

theorem exec_txIdleClear {s : State} {path : Path} {lane : Fin 16} (hw : s.mayWrite path (R.HOSTLANE_TX_CFG lane)) :
    exec (.txIdleClear path lane) s = .next (s.txIdle lane false) := congrArg Host.Outcome.next (State.rwWrite_accepted hw _)

theorem exec_precodeWrite {s : State} {path : Path} {lane : Fin 16} (hw : s.mayWrite path (R.HOSTLANE_TX_CFG lane)) (receive value : Bool) :
    exec (.precodeWrite path lane receive value) s = .next (s.precodeWrite lane receive value) :=
  congrArg Host.Outcome.next (State.rwWrite_accepted hw _)

theorem exec_loopNearWrite {s : State} {path : Path} {lane : Fin 16} (hw : s.mayWrite path (R.HOSTLANE_CTRL lane)) (value : Bool) :
    exec (.loopNearWrite path lane value) s = .next (s.loopNear lane value) := congrArg Host.Outcome.next (State.rwWrite_accepted hw _)

theorem State.precodeWrite_changes {s : State} {n : Nat} {rx v : Bool} (h : s.laneState n ≠ 3)
    (hv : s.on (if rx then F.HOSTLANE_RX_CFG.PRECODE_RX n else F.HOSTLANE_TX_CFG.PRECODE_TX n) ≠ v) :
    s.precodeWrite n rx v =
      (s.setB (if rx then F.HOSTLANE_RX_CFG.PRECODE_RX n else F.HOSTLANE_TX_CFG.PRECODE_TX n) v).precoderRestart n rx := by
  unfold State.precodeWrite
  rw [if_neg h]
  exact if_neg hv

theorem State.precoderRestart_sent (s : State) (n : Nat) (receive : Bool) : .precoderRestart n receive ∈ (s.precoderRestart n receive).sent :=
  State.mem_send _ _

/-- What QUAD_UNLOCK leaves behind. -/
theorem quadUnlock_holds (s : State) (quad : Fin 4) (i : Fin 4) : ∃ t, exec (.quadUnlock quad) s = .next t ∧ t.on (pllBit quad) = false ∧
    t.on (F.HOSTLANE_TX_CFG.IN_IDLE (4 * quad + i)) = true ∧ t.flag 0x10 (16 + quad) = true ∧ s.keepsRegs t (quadWords quad) := by
  have hoff : (s.set (pllBit quad) 0).on (pllBit quad) = false := s.on_set_zero _ (Nat.le_refl _) (by omega : quad.val < 32)
  have hframe : Frame (· ∈ quadWords quad) s ((s.set (pllBit quad) 0).showQuad quad) :=
    Frame.trans ((Frame.refl _ s).set (f := pllBit quad) List.mem_cons_self) (showQuad_frame_silent hoff)
  have hbit : outside [] (pllBit quad) = true := outside_iff.mpr ⟨pllBit_ordinary quad, List.not_mem_nil⟩
  have hidle : outside [] (F.HOSTLANE_TX_CFG.IN_IDLE (4 * quad + i)) = true := by
    rw [outside_iff]
    simp only [ordinary, F.HOSTLANE_TX_CFG.IN_IDLE, R.HOSTLANE_TX_CFG]
    exact ⟨by omega, List.not_mem_nil⟩
  refine ⟨_, rfl, ?_, ?_, State.raiseEvent_flag _ _ (by decide) (by omega), hframe.raiseEvent.keeps⟩
  · exact (State.on_of_get ((State.raiseEvent_read _ _ _ _ hbit).trans (State.showQuad_aside _ quad (idleAside_quad quad)))).trans hoff
  · rw [State.on_of_get (State.raiseEvent_read _ _ _ _ hidle), State.showQuad_inIdle, State.ballIdle_quad, hoff]
    simp

/-- The words that QUAD_RELOCK writes. -/
def relockWords (q : Nat) : List Nat :=
  [R.HOSTLANE_QUAD_STATUS, R.HOSTLANE_TX_CFG (4 * q), R.HOSTLANE_INJ_COUNT (4 * q), R.HOSTLANE_TX_CFG (4 * q + 1), R.HOSTLANE_INJ_COUNT (4 * q + 1),
    R.HOSTLANE_TX_CFG (4 * q + 2), R.HOSTLANE_INJ_COUNT (4 * q + 2), R.HOSTLANE_TX_CFG (4 * q + 3), R.HOSTLANE_INJ_COUNT (4 * q + 3)]

theorem idleWords_relock {q i : Nat} (h : i < 4) : ∀ a ∈ idleWords (4 * q + i), a ∈ relockWords q := by
  obtain rfl | rfl | rfl | rfl : i = 0 ∨ i = 1 ∨ i = 2 ∨ i = 3 := by omega
  all_goals simp [idleWords, relockWords]

theorem relock_frame (s : State) (q : Nat) : Frame (· ∈ relockWords q) s (((s.set (pllBit q) 1).showQuad q).quadWakes q) :=
  have hset : Frame (· ∈ relockWords q) s (s.set (pllBit q) 1) := (Frame.refl _ s).set List.mem_cons_self
  (hset.showQuad q fun _ hi => idleWords_relock hi).quadWakes q

/-- What QUAD_RELOCK leaves behind. -/
theorem quadRelock_holds (s : State) (quad : Fin 4) (i : Fin 4) : ∃ t, exec (.quadRelock quad) s = .next t ∧ t.on (pllBit quad) = true ∧
    t.on (F.HOSTLANE_TX_CFG.IN_IDLE (4 * quad + i)) = (decide (s.laneState (4 * quad + i) = 0) || (s.lane (4 * quad + i)).idle ||
      s.on (F.HOSTLANE_CTRL.LOOP_NEAR (4 * quad + i))) ∧ s.keepsRegs t (relockWords quad) ∧ t.mem = s.mem := by
  have hon : (s.set (pllBit quad) 1).on (pllBit quad) = true := s.on_setB_same (pllBit quad) true rfl (by omega : quad.val < 32)
  have hframe := relock_frame s quad
  refine ⟨((s.set (pllBit quad) 1).showQuad quad).quadWakes quad, rfl, ?_, ?_, hframe.keeps, hframe.mem⟩
  · exact (State.on_of_get ((State.quadWakes_get _ quad _).trans (State.showQuad_aside _ quad (idleAside_quad quad)))).trans hon
  · rw [State.on_of_get (State.quadWakes_get _ quad _), State.showQuad_inIdle, State.ballIdle_quad, hon]
    simp

/-- Settles O31: IN_IDLE is shown from the lane's state, its quad's lock, its idle and its loopback, and nothing that shows it moves them. -/
theorem laneTransmitControls : Obligations.LaneTransmitControls := by
  unfold Obligations.LaneTransmitControls
  refine ⟨?idleSet, ?idleClear, ?clearStored, ?setStored, quadUnlock_holds, quadRelock_holds, ?precodeRx, ?precodeTx, ?precodeDropped, ?loopChange,
    ?loopSame⟩
  case idleSet =>
    intro s path lane hw h hlen
    obtain ⟨htx, hidle, hshown⟩ := State.txIdle_holds h hlen true
    have hframe := txIdle_frame h true
    exact ⟨_, exec_txIdleSet hw, htx, hidle, hshown.trans (by simp), hframe.keeps, hframe.mem⟩
  case idleClear =>
    intro s path lane hw h hlen
    obtain ⟨htx, hidle, hshown⟩ := State.txIdle_holds h hlen false
    have hframe := txIdle_frame h false
    exact ⟨_, exec_txIdleClear hw, htx, hidle, hshown.trans (by simp), hframe.keeps, hframe.mem, fun ⟨hi, hp⟩ => State.txIdle_wakes h hi hp⟩
  case clearStored =>
    intro s path lane hw h
    exact ⟨_, exec_txIdleClear hw, State.txIdle_stored h false⟩
  case setStored =>
    intro s path lane hw h
    exact ⟨_, exec_txIdleSet hw, State.txIdle_stored h true⟩
  case precodeRx =>
    intro s path lane value hw h hv
    exact ⟨_, (exec_precodeWrite hw true value).trans (congrArg Host.Outcome.next (State.precodeWrite_changes (rx := true) h hv)), rfl,
      State.precoderRestart_sent _ lane true⟩
  case precodeTx =>
    intro s path lane value hw h hv
    exact ⟨_, (exec_precodeWrite hw false value).trans (congrArg Host.Outcome.next (State.precodeWrite_changes (rx := false) h hv)), rfl,
      State.precoderRestart_sent _ lane false⟩
  case precodeDropped =>
    intro s path lane receive value hw h
    exact ⟨_, exec_precodeWrite hw receive value, if_pos h⟩
  case loopChange =>
    intro s path lane value hw h hv
    have hstate := (s.loopSet_laneState lane value).trans h
    obtain ⟨hdetect, hmem⟩ := State.retrain_enters hstate
    exact ⟨_, (exec_loopNearWrite hw value).trans (congrArg Host.Outcome.next (State.loopNear_change hv)),
      (State.retrain_loopNear hstate).trans (s.loopSet_loopNear lane value), hdetect, State.retrain_dataDown hstate (.inl rfl),
      hmem.trans (s.loopSet_mem lane value)⟩
  case loopSame =>
    intro s path lane value hw h
    exact ⟨_, exec_loopNearWrite hw value, if_pos h⟩

end Sys2Proof.Machine
end

section
/-!
SUPPORT. Client ports (chapter 8): the words and fields of a port, its internal state, its events and violations (R181, R182).
-/
-- An argument that a tactic fills waits for all declarations before it: elaborated in parallel, such proofs would each hold a thread.
set_option Elab.async false

namespace Sys2Proof.Machine
open Sys2Proof

/-! ### Words and fields of the CLIENT block -/

/-- The words of a list and every word past the CLIENT block: those of TIME, where PTP messages count, among them. -/
def besideClient (l : List Nat) (a : Nat) : Prop := a ∈ l ∨ 0xA00000 ≤ a

/-- Whether a field lies below the end of the CLIENT block, in no INT_STATUS and in none of a list's words. -/
def clientField (l : List Nat) (f : Fld) : Bool := decide (f.addr < 0xA00000 ∧ f.addr % 0x80000 ≠ 4) && !l.contains f.addr

theorem clientField_iff {l : List Nat} {f : Fld} :
    clientField l f = true ↔ (f.addr < 0xA00000 ∧ f.addr % 0x80000 ≠ 4) ∧ f.addr ∉ l := by
  simp [clientField]

section
variable {s t : State} {port : Fin 16}

theorem Frame.besideClient {l m : List Nat} (h : Frame (· ∈ l) s t) (hm : l ⊆ m) : Frame (besideClient m) s t :=
  h.mono fun _ ha => .inl (hm ha)

theorem Frame.besideClientAbove {l : List Nat} {n : Nat} (h : Above n s t) (hn : 0xA00000 ≤ n := by decide) :
    Frame (Machine.besideClient l) s t :=
  h.mono fun _ ha => .inr (Nat.le_trans hn ha)

theorem Frame.besideClientMono {l m : List Nat} (h : Frame (Machine.besideClient l) s t) (hm : l ⊆ m) : Frame (Machine.besideClient m) s t :=
  h.mono fun _ ha => ha.imp_left (hm ·)

/-- A field outside the words written stays. -/
theorem Frame.readPort {l : Nat → List Nat} (h : Frame (Machine.besideClient (l port)) s t) (f : Nat → Fld)
    (hf : ∀ i : Fin 16, clientField (l i) (f i) = true := by decide) : t.get (f port) = s.get (f port) := by
  obtain ⟨⟨hhi, hst⟩, hl⟩ := clientField_iff.mp (hf port)
  refine h.get ⟨by omega, hst⟩ ?_
  rintro (hm | ho)
  · exact hl hm
  · omega

theorem Frame.readPortOn {l : Nat → List Nat} (h : Frame (Machine.besideClient (l port)) s t) (f : Nat → Fld)
    (hf : ∀ i : Fin 16, clientField (l i) (f i) = true := by decide) : t.on (f port) = s.on (f port) :=
  State.on_of_get (h.readPort f hf)

end

/-! ### One port beyond its registers -/

/-- What an update of one port keeps of it, it keeps of every port. -/
theorem State.onPort_keeps {β : Type} (g : PortSt → β) (s : State) (p k : Nat) {f : PortSt → PortSt} (hf : ∀ q, g (f q) = g q) :
    g ((s.onPort p f).port k) = g (s.port k) := nth_modify_keeps g hf s.ports p k {}

theorem State.onPort_port {s : State} {p : Nat} (h : p < s.ports.length) (f : PortSt → PortSt) : (s.onPort p f).port p = f (s.port p) := by
  simp [State.port, nth, h]

theorem State.port_of_ports {s t : State} (h : t.ports = s.ports) (p : Nat) : t.port p = s.port p :=
  congrArg (fun l => nth l p ({} : PortSt)) h

/-- A port that has counted stream bytes since a MARK exists. -/
theorem State.port_exists {s : State} {p n : Nat} (h : (s.port p).segLen = some n) : p < s.ports.length := by
  by_contra hp
  simp [State.port, nth, List.getD_eq_getElem?_getD, List.getElem?_eq_none (not_lt.mp hp)] at h

@[simp] theorem State.set_port (s : State) (f : Fld) (v p : Nat) : (s.set f v).port p = s.port p := rfl
@[simp] theorem State.setB_port (s : State) (f : Fld) (b : Bool) (p : Nat) : (s.setB f b).port p = s.port p := rfl
@[simp] theorem State.bump_port (s : State) (f : Fld) (n p : Nat) : (s.bump f n).port p = s.port p := rfl
@[simp] theorem State.setSat_port (s : State) (f : Fld) (v p : Nat) : (s.setSat f v).port p = s.port p := rfl
@[simp] theorem State.send_port (s : State) (o : Out) (p : Nat) : (s.send o).port p = s.port p := rfl

/-! ### Events and violations (R181, R182) -/

/-- A bit of a port's EVENT register. -/
abbrev portBit (b p : Nat) : Fld := ⟨R.CLIENT_EVENT p, b, b⟩

/-- The words that an event of a port writes, and those of a violation. -/
def portEventWords (p : Nat) : List Nat := [R.CLIENT_EVENT p]
def portViolationWords (p : Nat) : List Nat := [R.CLIENT_VIOLATION p, R.CLIENT_EVENT p]

/-- Past the bit itself, an event raises and notifies only. -/
theorem clientEvent_raises (s : State) (p b : Nat) : Frame (· ∈ []) (s.set (portBit b p) 1) (s.clientEvent p b) :=
  have h := Frame.refl (· ∈ []) (s.set (portBit b p) 1)
  Frame.ite (h.raise.ite h) (h.raise.ite h).event

theorem clientEvent_frame (s : State) (p b : Nat) : Frame (· ∈ portEventWords p) s (s.clientEvent p b) :=
  ((Frame.refl _ s).set (List.mem_singleton_self _)).trans ((clientEvent_raises s p b).mono nofun)

theorem portBit_outside (port : Fin 16) (b : Nat) : outside [] (portBit b port) = true := by
  rw [outside_iff]
  simp only [ordinary, R.CLIENT_EVENT]
  exact ⟨by omega, nofun⟩

theorem State.clientEvent_on (s : State) (port : Fin 16) {b : Nat} (hb : b < 32 := by decide) :
    (s.clientEvent port b).on (portBit b port) = true :=
  ((clientEvent_raises s port b).readOn (portBit_outside port b)).trans (s.on_setB_same _ true rfl hb)

/-- Event bits that are set stay set. -/
theorem State.clientEvent_keeps (s : State) (port : Fin 16) {b k : Nat} (h : s.on (portBit k port) = true) (hb : b < 32 := by decide) :
    (s.clientEvent port b).on (portBit k port) = true := by
  by_cases hk : k = b
  · rw [hk]
    exact s.clientEvent_on port hb
  · refine ((clientEvent_raises s port b).readOn (portBit_outside port k)).trans ((State.on_of_get ?_).trans h)
    refine s.get_set_apart _ (Nat.le_refl b) hb ?_
    simp only [apart, Bool.or_eq_true, decide_eq_true_eq]
    omega

@[simp] theorem State.clientEvent_ports (s : State) (p b : Nat) : (s.clientEvent p b).ports = s.ports := by
  simp only [State.clientEvent]
  split_ifs <;> simp

@[simp] theorem State.clientEvent_port (s : State) (p b k : Nat) : (s.clientEvent p b).port k = s.port k :=
  State.port_of_ports (s.clientEvent_ports p b) k

theorem onlyRegs_clientEvent {s0 s : State} {l : List Nat} (h : s0.onlyRegs s l) {p : Nat} (ha : R.CLIENT_EVENT p ∈ l) (b : Nat) :
    s0.onlyRegs (s.clientEvent p b) l :=
  have h1 := onlyRegs_set h (f := portBit b p) ha 1
  have h2 := onlyRegs_ite (onlyRegs_raise h1 0x12 p) h1
  onlyRegs_ite h2 (onlyRegs_event h2 _)

/-- The violation's record, before its event. -/
def State.clientCounted (s : State) (p code : Nat) : State := (s.bump (F.CLIENT_VIOLATION.COUNT p)).set (F.CLIENT_VIOLATION.LAST p) code

/-- What a violation of a code leaves behind (R181). -/
structure State.PortViolated (s t : State) (port : Fin 16) (code : Nat) : Prop where
  last : t.get (F.CLIENT_VIOLATION.LAST port) = code
  count : t.get (F.CLIENT_VIOLATION.COUNT port) = min (F.CLIENT_VIOLATION.COUNT port).top (s.get (F.CLIENT_VIOLATION.COUNT port) + 1)
  raised : t.on (portBit 6 port) = true
  only : s.onlyRegs t (portViolationWords port)

theorem clientCounted_onlyRegs (s : State) (p code : Nat) : s.onlyRegs (s.clientCounted p code) (portViolationWords p) :=
  have hm : R.CLIENT_VIOLATION p ∈ portViolationWords p := List.mem_cons_self
  onlyRegs_set (onlyRegs_bump (onlyRegs_refl s _) (f := F.CLIENT_VIOLATION.COUNT p) hm 1) (f := F.CLIENT_VIOLATION.LAST p) hm code

theorem clientCounted_frame (s : State) (p code : Nat) : Frame (· ∈ portViolationWords p) s (s.clientCounted p code) :=
  have h : Frame (· ∈ portViolationWords p) s (s.bump (F.CLIENT_VIOLATION.COUNT p)) := (Frame.refl _ s).set List.mem_cons_self
  h.set (f := F.CLIENT_VIOLATION.LAST p) List.mem_cons_self

theorem clientViolation_frame (s : State) (p code : Nat) : Frame (· ∈ portViolationWords p) s (s.clientViolation p code) :=
  (clientCounted_frame s p code).trans ((clientEvent_frame _ p 6).mono fun _ => List.mem_cons_of_mem _)

theorem State.clientCounted_get (s : State) (port : Fin 16) (code : Nat) :
    (s.clientCounted port code).get (F.CLIENT_VIOLATION.LAST port) = code % 256 ∧
      (s.clientCounted port code).get (F.CLIENT_VIOLATION.COUNT port) =
        min (F.CLIENT_VIOLATION.COUNT port).top (s.get (F.CLIENT_VIOLATION.COUNT port) + 1) :=
  ⟨State.get_set_same _ _ code (Nat.le_of_ble_eq_true rfl) (by decide : 23 < 32),
    (State.get_setLane _ port F.CLIENT_VIOLATION.COUNT F.CLIENT_VIOLATION.LAST code).trans
      (s.get_bump_same _ 1 (Nat.zero_le _) (by decide : 15 < 32))⟩

theorem State.clientViolation_holds (s : State) (port : Fin 16) {code : Nat} (h : code < 256 := by decide) :
    s.PortViolated (s.clientViolation port code) port code :=
  have ⟨hlast, hcount⟩ := s.clientCounted_get port code
  have hevent : Frame (Machine.besideClient (portEventWords port)) (s.clientCounted port code) (s.clientViolation port code) :=
    (clientEvent_frame _ port 6).besideClient (List.Subset.refl _)
  { last := (hevent.readPort F.CLIENT_VIOLATION.LAST).trans (hlast.trans (Nat.mod_eq_of_lt h))
    count := (hevent.readPort F.CLIENT_VIOLATION.COUNT).trans hcount
    raised := State.clientEvent_on _ port
    only := onlyRegs_clientEvent (clientCounted_onlyRegs s port code) (List.mem_cons_of_mem _ List.mem_cons_self) 6 }

@[simp] theorem State.clientViolation_ports (s : State) (p code : Nat) : (s.clientViolation p code).ports = s.ports := by
  simp [State.clientViolation]

@[simp] theorem State.clientViolation_port (s : State) (p code k : Nat) : (s.clientViolation p code).port k = s.port k :=
  State.port_of_ports (s.clientViolation_ports p code) k

end Sys2Proof.Machine
end

section
/-!
SUPPORT. A port's record stream (R168 to R171): record headers, what is due at a command, and what a record given to the line leaves and sends.
-/
-- An argument that a tactic fills waits for all declarations before it: elaborated in parallel, such proofs would each hold a thread.
set_option Elab.async false

namespace Sys2Proof.Machine
open Sys2Proof

/-! ### Records (R168, Tables 8.4 and 8.5) -/

theorem recordHeader_length (kind : Nat) (err : Bool) (len : Nat) : (recordHeader kind err len).length = 4 := rfl

/-- The first four bytes of a record as a number: the header's 24 bits, then the HEC. -/
theorem beNat_header (v c : Nat) (rest : List Byte) : beNat ((beBytes 3 v ++ beBytes 1 c ++ rest).take 4) = v % 2 ^ 24 * 256 + c % 256 := by
  simp [beBytes, beNat]
  omega

/-- A header's fields read as they were put in. -/
theorem headerFields_header {kind len : Nat} (err : Bool) (rest : List Byte) (hk : kind < 4) (hl : len < 2 ^ 14) :
    headerFields (recordHeader kind err len ++ rest) = (kind, err, len) := by
  simp only [headerFields, recordHeader, beNat_header]
  cases err <;> simp <;> omega

theorem headerFields_set {set : Nat} (h : set < 2 ^ 14) : headerFields (setRecord set) = (1, false, set) := by
  have hfields := headerFields_header (kind := 1) false [] (by decide) h
  rwa [List.append_nil] at hfields

theorem headerFields_frame {bytes : List Byte} (err : Bool) (h : bytes.length < 2 ^ 14) :
    headerFields (frameRecord bytes err) = (0, err, bytes.length) := by
  rw [frameRecord, List.append_assoc]
  exact headerFields_header err _ (by decide) h

theorem headerFields_fill : headerFields fillRecord = (3, false, 0) := headerFields_header (kind := 3) (len := 0) false [] (by decide) (by decide)

theorem hecGood_fill : hecGood fillRecord = true := by decide

theorem frameRecord_length (bytes : List Byte) (err : Bool) :
    (frameRecord bytes err).length = 4 + bytes.length + (4 - bytes.length % 4) % 4 := by
  simp [frameRecord, recordHeader_length, Nat.add_assoc]

/-- A frame's record is as long as that of any other frame of its length. -/
theorem frameRecord_length_eq {a b : List Byte} (h : a.length = b.length) (e f : Bool) :
    (frameRecord a e).length = (frameRecord b f).length := by
  rw [frameRecord_length, frameRecord_length, h]

/-- A record holds its frame after the header. -/
theorem frameRecord_slice (bytes : List Byte) (err : Bool) : slice (frameRecord bytes err) 4 bytes.length = bytes := by
  rw [slice, frameRecord, List.append_assoc, List.drop_left' (recordHeader_length ..), List.take_left]

/-- A whole frame record without errors is treated as it is. -/
theorem withErr_frame {bytes : List Byte} (err : Bool) (h : bytes.length < 2 ^ 14) :
    withErr false (frameRecord bytes err) = frameRecord bytes err := by
  have hlen : ¬ (frameRecord bytes err).length < 4 + bytes.length := by
    rw [frameRecord_length]
    omega
  simp [withErr, headerFields_frame err h, hlen]

/-! ### What has come due (R171, R175) -/

section
variable (s : State) (p k : Nat) (due : DueWords)

@[simp] theorem State.drawPort_regs (c : Carrier) (n : Nat) : (s.drawPort p c n).regs = s.regs := rfl
@[simp] theorem State.drawPort_sent (c : Carrier) (n : Nat) : (s.drawPort p c n).sent = s.sent := rfl
@[simp] theorem State.drawPort_mem (c : Carrier) (n : Nat) : (s.drawPort p c n).mem = s.mem := rfl
@[simp] theorem State.egressDrain_regs (n : Nat) : (s.egressDrain p n).regs = s.regs := rfl
@[simp] theorem State.egressDrain_sent (n : Nat) : (s.egressDrain p n).sent = s.sent := rfl
@[simp] theorem State.egressDrain_mem (n : Nat) : (s.egressDrain p n).mem = s.mem := rfl
@[simp] theorem State.egressDrain_get (n : Nat) (f : Fld) : (s.egressDrain p n).get f = s.get f := rfl

@[simp] theorem State.wordsDue_regs : (s.wordsDue p due).regs = s.regs := by
  simp only [State.wordsDue]
  split_ifs <;> simp

@[simp] theorem State.wordsDue_sent : (s.wordsDue p due).sent = s.sent := by
  simp only [State.wordsDue]
  split_ifs <;> simp

@[simp] theorem State.wordsDue_mem : (s.wordsDue p due).mem = s.mem := by
  simp only [State.wordsDue]
  split_ifs <;> simp

@[simp] theorem State.wordsDue_get (f : Fld) : (s.wordsDue p due).get f = s.get f := State.get_of_regs (s.wordsDue_regs p due) f

@[simp] theorem State.wordsDue_ports_length : (s.wordsDue p due).ports.length = s.ports.length := by
  have hdraw (t : State) (c : Carrier) (n : Nat) : (t.drawPort p c n).ports.length = t.ports.length := List.length_modify ..
  have hdrain : (s.egressDrain p due.out).ports.length = s.ports.length := List.length_modify ..
  simp only [State.wordsDue]
  split_ifs <;> simp only [hdraw, hdrain]

/-- What has come due takes stream bytes and frees the egress buffer: all else of a port stays. -/
theorem State.wordsDue_keeps {β : Type} (g : PortSt → β) (hg : ∀ q h st dr, g { q with held := h, stream := st, drawn := dr } = g q) :
    g ((s.wordsDue p due).port k) = g (s.port k) := by
  have hdrain (t : State) : g ((t.egressDrain p due.out).port k) = g (t.port k) := t.onPort_keeps g p k fun q => hg q _ q.stream q.drawn
  have hdraw (t : State) (c : Carrier) (n : Nat) : g ((t.drawPort p c n).port k) = g (t.port k) :=
    t.onPort_keeps g p k fun q => hg q q.held _ _
  simp only [State.wordsDue]
  split_ifs <;> simp only [hdraw, hdrain]

end

/-! ### Toward the line (R170) -/

/-- A state without what the record stream toward the line writes: the ports, what is sent, the instants delivered to Gleaner, and the free
values taken. -/
def State.offStream (s : State) : State := { s with ports := [], sent := [], freeCount := 0, glean := { s.glean with due := [] } }

theorem State.onPort_offStream (s : State) (p : Nat) (f : PortSt → PortSt) : (s.onPort p f).offStream = s.offStream := rfl
theorem State.send_offStream (s : State) (o : Out) : (s.send o).offStream = s.offStream := rfl

theorem State.tapped_offStream (s : State) (u tap inst : Nat) (x : TapInstant) : (s.tapped u tap inst x).offStream = s.offStream := by
  unfold State.tapped
  split <;> rfl

theorem State.toCarriers_offStream (s : State) (p : Nat) (rec : List Byte) : (s.toCarriers p rec).offStream = s.offStream := by
  simp only [State.toCarriers]
  split_ifs <;> simp only [State.onPort_offStream, State.send_offStream, State.tapped_offStream]

theorem State.firstMark_offStream (s : State) (p : Nat) : (s.firstMark p).offStream = s.offStream := by
  unfold State.firstMark
  split <;> rfl

theorem State.markIfDue_offStream (s : State) (p : Nat) : (s.markIfDue p).offStream = s.offStream := by
  simp only [State.markIfDue]
  split_ifs
  · simp only [State.onPort_offStream, State.toCarriers_offStream, State.firstMark_offStream]
  · rfl

theorem State.toLine_offStream (s : State) (p : Nat) (rec : List Byte) : (s.toLine p rec).offStream = s.offStream := by
  simp only [State.toLine, State.onPort_offStream, State.toCarriers_offStream, State.markIfDue_offStream]

@[simp] theorem State.tapped_regs (s : State) (u tap inst : Nat) (x : TapInstant) : (s.tapped u tap inst x).regs = s.regs := by
  have h := congrArg State.regs (s.tapped_offStream u tap inst x)
  exact h

@[simp] theorem State.toCarriers_regs (s : State) (p : Nat) (rec : List Byte) : (s.toCarriers p rec).regs = s.regs := by
  have h := congrArg State.regs (s.toCarriers_offStream p rec)
  exact h

@[simp] theorem State.toLine_regs (s : State) (p : Nat) (rec : List Byte) : (s.toLine p rec).regs = s.regs := by
  have h := congrArg State.regs (s.toLine_offStream p rec)
  exact h

@[simp] theorem State.toLine_mem (s : State) (p : Nat) (rec : List Byte) : (s.toLine p rec).mem = s.mem := by
  have h := congrArg State.mem (s.toLine_offStream p rec)
  exact h

@[simp] theorem State.tapped_ports (s : State) (u tap inst : Nat) (x : TapInstant) : (s.tapped u tap inst x).ports = s.ports := by
  unfold State.tapped
  split <;> rfl

@[simp] theorem State.tapped_sent (s : State) (u tap inst : Nat) (x : TapInstant) : (s.tapped u tap inst x).sent = s.sent := by
  unfold State.tapped
  split <;> rfl

@[simp] theorem State.tapped_mem (s : State) (u tap inst : Nat) (x : TapInstant) : (s.tapped u tap inst x).mem = s.mem := by
  unfold State.tapped
  split <;> rfl

@[simp] theorem State.tapped_get (s : State) (u tap inst : Nat) (x : TapInstant) (f : Fld) : (s.tapped u tap inst x).get f = s.get f :=
  State.get_of_regs (s.tapped_regs u tap inst x) f

@[simp] theorem State.tapped_port (s : State) (u tap inst : Nat) (x : TapInstant) (k : Nat) : (s.tapped u tap inst x).port k = s.port k :=
  State.port_of_ports (s.tapped_ports u tap inst x) k

/-- The mode and the carriers of a port are registers'. -/
theorem State.portOn_of_regs {s t : State} (h : t.regs = s.regs) (p : Nat) (c : Carrier) : t.portOn p c = s.portOn p c := by
  simp only [State.portOn, State.get_of_regs h]

@[simp] theorem State.onPort_portOn (s : State) (p : Nat) (f : PortSt → PortSt) (k : Nat) (c : Carrier) :
    (s.onPort p f).portOn k c = s.portOn k c := rfl

@[simp] theorem State.send_portOn (s : State) (o : Out) (k : Nat) (c : Carrier) : (s.send o).portOn k c = s.portOn k c := rfl

theorem State.mode_of_regs {s t : State} (h : t.regs = s.regs) : t.mode = s.mode := State.get_of_regs h _

/-- A record on the carriers with slots of the port, the later first. -/
def State.carried (s : State) (p : Nat) (rec : List Byte) : List Out :=
  (if s.portOn p .B then [.record p .B rec] else []) ++ if s.portOn p .A then [.record p .A rec] else []

theorem State.carried_of_regs {s t : State} (h : t.regs = s.regs) (p : Nat) (rec : List Byte) : t.carried p rec = s.carried p rec := by
  simp only [State.carried, State.portOn_of_regs h]

/-- Outside JOINT every carrier of the port carries a record (R177). -/
theorem State.toCarriers_sent {s : State} (p : Nat) (rec : List Byte) (h : s.mode ≠ 1) :
    (s.toCarriers p rec).sent = s.carried p rec ++ s.sent := by
  have hmode : (s.tapped 2 2 p ⟨[recordWord rec], false⟩).mode ≠ 1 := by rwa [State.mode_of_regs (s.tapped_regs ..)]
  have hon (c : Carrier) : (s.tapped 2 2 p ⟨[recordWord rec], false⟩).portOn p c = s.portOn p c := State.portOn_of_regs (s.tapped_regs ..) p c
  simp only [State.toCarriers, if_neg hmode, hon, State.carried]
  cases ha : s.portOn p .A
  · simp only [Bool.false_eq_true, if_false, hon]
    split <;> simp
  · simp only [if_true, State.onPort_portOn, State.send_portOn, hon]
    split <;> simp

/-- A record given to the carriers joins their waiting streams. -/
theorem State.toCarriers_keeps {β : Type} (g : PortSt → β) (hg : ∀ q st, g { q with stream := st } = g q) (s : State) (p k : Nat)
    (rec : List Byte) : g ((s.toCarriers p rec).port k) = g (s.port k) := by
  have hgive (t : State) (c : Carrier) :
      g (((t.send (.record p c rec)).onPort p fun q => { q with stream := q.stream.upd c (· ++ rec) }).port k) = g (t.port k) :=
    State.onPort_keeps g _ p k fun q => hg q _
  simp only [State.toCarriers]
  split_ifs <;> simp only [hgive, State.tapped_port]

@[simp] theorem State.toCarriers_ports_length (s : State) (p : Nat) (rec : List Byte) : (s.toCarriers p rec).ports.length = s.ports.length := by
  simp only [State.toCarriers]
  split_ifs <;> simp

/-- No MARK is due within 8,192 bytes of the last. -/
theorem State.markIfDue_none {s : State} {p n : Nat} (h : (s.port p).segLen = some n) (hn : n < 8192) : s.markIfDue p = s := by
  simp [State.markIfDue, h, hn]

/-- A record within the segment: it is counted and carried. -/
theorem State.toLine_within {s : State} {p n : Nat} (rec : List Byte) (h : (s.port p).segLen = some n) (hn : n < 8192) (hm : s.mode ≠ 1) :
    (s.toLine p rec).sent = s.carried p rec ++ s.sent ∧ ((s.toLine p rec).port p).segLen = some (n + rec.length) ∧
      ((s.toLine p rec).port p).mark = (s.port p).mark := by
  have hp : p < (s.toCarriers p rec).ports.length := by rw [State.toCarriers_ports_length]; exact State.port_exists h
  have hseg : ((s.toCarriers p rec).port p).segLen = some n := (s.toCarriers_keeps PortSt.segLen (fun _ _ => rfl) p p rec).trans h
  have hmark : ((s.toCarriers p rec).port p).mark = (s.port p).mark := s.toCarriers_keeps PortSt.mark (fun _ _ => rfl) p p rec
  simp only [State.toLine, State.markIfDue_none h hn]
  refine ⟨State.toCarriers_sent p rec hm, ?_, ?_⟩
  · rw [State.onPort_port hp, hseg, Option.map_some]
  · rw [State.onPort_port hp, hmark]

/-- The carrier of the segment that begins is chosen. -/
def State.segmentBegun (s : State) (p : Nat) : State := s.onPort p fun q => { q with segCarrier := s.segmentCarrier p }

/-- A MARK is given to the carriers, and the segment's bytes count from it. -/
def State.markSent (s : State) (p : Nat) : State :=
  (s.toCarriers p (markRecord (s.port p).mark)).onPort p fun q => { q with mark := (q.mark + 1) % 2 ^ 32, segLen := some 8 }

theorem State.markIfDue_due {s : State} {p n : Nat} (h : (s.port p).segLen = some n) (hn : 8192 ≤ n) :
    s.markIfDue p = (s.segmentBegun p).markSent p := by
  have hfirst : s.firstMark p = s := by simp [State.firstMark, h]
  simp only [State.markIfDue, h, hn, decide_true, if_true, hfirst, State.segmentBegun, State.markSent]

/-- A MARK outside JOINT is carried with the number that waits, and the next number waits. -/
theorem State.markSent_holds {s : State} {p : Nat} (hp : p < s.ports.length) (hm : s.mode ≠ 1) :
    (s.markSent p).sent = s.carried p (markRecord (s.port p).mark) ++ s.sent ∧
      ((s.markSent p).port p).segLen = some 8 ∧ ((s.markSent p).port p).mark = ((s.port p).mark + 1) % 2 ^ 32 := by
  have hp' : p < (s.toCarriers p (markRecord (s.port p).mark)).ports.length := by rwa [State.toCarriers_ports_length]
  have hport := State.onPort_port hp' fun q => { q with mark := (q.mark + 1) % 2 ^ 32, segLen := some 8 }
  have hmark := s.toCarriers_keeps PortSt.mark (fun _ _ => rfl) p p (markRecord (s.port p).mark)
  exact ⟨State.toCarriers_sent p _ hm, congrArg PortSt.segLen hport, (congrArg PortSt.mark hport).trans (by rw [hmark])⟩

/-- A record past 8,192 bytes since the last MARK follows a MARK, which bears the next number. -/
theorem State.toLine_marked {s : State} {p n : Nat} (rec : List Byte) (h : (s.port p).segLen = some n) (hn : 8192 ≤ n) (hm : s.mode ≠ 1) :
    (s.toLine p rec).sent = s.carried p rec ++ (s.carried p (markRecord (s.port p).mark) ++ s.sent) ∧
      ((s.toLine p rec).port p).segLen = some (8 + rec.length) ∧ ((s.toLine p rec).port p).mark = ((s.port p).mark + 1) % 2 ^ 32 := by
  have hlength : (s.segmentBegun p).ports.length = s.ports.length := List.length_modify ..
  have hnumber : ((s.segmentBegun p).port p).mark = (s.port p).mark := s.onPort_keeps PortSt.mark p p fun _ => rfl
  obtain ⟨hsent, hseg, hmark⟩ := State.markSent_holds (s := s.segmentBegun p) (hlength ▸ State.port_exists h) hm
  rw [hnumber] at hsent hmark
  have hregs : ((s.segmentBegun p).markSent p).regs = s.regs := State.toCarriers_regs (s.segmentBegun p) p _
  have hafter : s.toLine p rec = ((s.segmentBegun p).markSent p).toLine p rec := by
    rw [State.toLine, State.toLine, State.markIfDue_due h hn, State.markIfDue_none hseg (by decide)]
  obtain ⟨hout, hlen, hkept⟩ := State.toLine_within rec hseg (by decide) (by rwa [State.mode_of_regs hregs])
  rw [hafter]
  refine ⟨?_, hlen, hkept.trans hmark⟩
  rw [hout, hsent, State.carried_of_regs hregs]
  rfl

/-- A record toward the line leaves a port beside its stream. -/
theorem State.toLine_keeps {β : Type} (g : PortSt → β)
    (hg : ∀ q st m sl sc, g { q with stream := st, mark := m, segLen := sl, segCarrier := sc } = g q) (s : State) (p k : Nat)
    (rec : List Byte) : g ((s.toLine p rec).port k) = g (s.port k) := by
  have hgive (t : State) (r : List Byte) : g ((t.toCarriers p r).port k) = g (t.port k) :=
    t.toCarriers_keeps g (fun q st => hg q st q.mark q.segLen q.segCarrier) p k r
  have hupd (t : State) (f : PortSt → PortSt) (hf : ∀ q, g (f q) = g q) : g ((t.onPort p f).port k) = g (t.port k) := t.onPort_keeps g p k hf
  have hfirst : g ((s.firstMark p).port k) = g (s.port k) := by
    unfold State.firstMark
    split
    · exact State.onPort_keeps g s.freeWord.2 p k fun q => hg q q.stream _ q.segLen q.segCarrier
    · rfl
  have hmark : g ((s.markIfDue p).port k) = g (s.port k) := by
    simp only [State.markIfDue]
    split_ifs
    · exact (hupd _ _ fun q => hg q q.stream _ _ q.segCarrier).trans ((hgive _ _).trans
        ((hupd _ _ fun q => hg q q.stream q.mark q.segLen _).trans hfirst))
    · rfl
  simp only [State.toLine]
  rw [hupd _ _ fun q => hg q q.stream q.mark _ q.segCarrier, hgive, hmark]

end Sys2Proof.Machine
end

section
/-!
SUPPORT. Client ingress: a port that goes DOWN (Table 8.3), PTP stamps (R196), and a frame's counts, stamp and record (R165, R169, R173).
-/
-- An argument that a tactic fills waits for all declarations before it: elaborated in parallel, such proofs would each hold a thread.
set_option Elab.async false

namespace Sys2Proof.Machine
open Sys2Proof

/-! ### Records of the host ASIC (R169, R180) -/

/-- What only the record stream's own state tells apart reads alike. -/
theorem Frame.ofStream {s t : State} (W : Nat → Prop) (h : t.offStream = s.offStream) : Frame W s t := by
  have hregs := congrArg State.regs h
  have hmem := congrArg State.mem h
  have hplan := congrArg State.plan h
  have hbist := congrArg State.bist h
  exact (Frame.refl W s).fields hregs hmem hplan hbist

@[simp] theorem State.toLine_get (s : State) (p : Nat) (rec : List Byte) (f : Fld) : (s.toLine p rec).get f = s.get f :=
  State.get_of_regs (s.toLine_regs p rec) f

/-- Without a loop a record goes toward the line alone. -/
theorem State.ingressRecord_line {s : State} {p : Nat} (rec : List Byte) (h : s.get (F.CLIENT_CTRL.LOOP p) = 0) :
    s.ingressRecord p rec = s.toLine p rec := by
  simp [State.ingressRecord, h]

theorem State.forwardToHost_set (s : State) (p : Nat) {set : Nat} (h : set < 2 ^ 14) :
    s.forwardToHost p (setRecord set) = s.onPort p fun q => { q with setOut := set } := by
  simp only [State.forwardToHost, headerFields_set h]

/-- An ordered set writes no register, whatever the loop is. -/
theorem State.ingressRecord_set_offStream (s : State) (p : Nat) {set : Nat} (h : set < 2 ^ 14) :
    (s.ingressRecord p (setRecord set)).offStream = s.offStream := by
  simp only [State.ingressRecord]
  split_ifs <;> simp only [State.forwardToHost_set _ p h, State.onPort_offStream, State.toLine_offStream]

/-! ### DOWN (Table 8.3) -/

/-- The lanes of a port are what the plan gives it, and their states lie below the CLIENT block. -/
theorem State.lanesData_of {s t : State} {port : Fin 16} {l : Nat → List Nat} (h : Frame (besideClient (l port)) s t)
    (hl : ∀ i : Fin 16, (l i).all (0x900000 ≤ ·) = true := by decide)
    (hc : ∀ i : Fin 16, clientField (l i) (F.CLIENT_CFG.LANES i) = true := by decide) : t.lanesData port = s.lanesData port := by
  have hlanes : t.portLanes port = s.portLanes port := by
    simp only [State.portLanes, h.readPort F.CLIENT_CFG.LANES hc, h.readPort F.CLIENT_CFG.FIRST_LANE hc]
  have hstate : ∀ n ∈ s.portLanes port, t.laneState n = s.laneState n := by
    intro n hn
    obtain ⟨i, hi, rfl⟩ := List.mem_map.mp hn
    have hi := List.mem_range.mp hi
    have hcount : s.get (F.CLIENT_CFG.LANES port) < 16 := bitsOf_lt _ 19 16
    have hfirst : s.get (F.CLIENT_CFG.FIRST_LANE port) < 16 := bitsOf_lt _ 15 12
    refine h.get ⟨?_, ?_⟩ fun hw => ?_
    · simp only [F.HOSTLANE_STATE.STATE, R.HOSTLANE_STATE]
      omega
    · simp only [F.HOSTLANE_STATE.STATE, R.HOSTLANE_STATE]
      omega
    · simp only [F.HOSTLANE_STATE.STATE, R.HOSTLANE_STATE] at hw
      obtain hw | hw := hw
      · have := of_decide_eq_true (List.all_eq_true.mp (hl port) _ hw)
        omega
      · omega
  rw [Bool.eq_iff_iff]
  simp only [State.lanesData, hlanes, List.all_eq_true, decide_eq_true_eq]
  exact forall₂_congr fun n hn => by rw [hstate n hn]

/-- The port in DOWN, LF sent toward the line. -/
def State.clientDown (s : State) (p : Nat) : State :=
  ((s.toIngress p 1).onPort p fun q => { q with setIn := 0 }).ingressRecord p (setRecord 1)

theorem State.ingressDown_eq (s : State) (p : Nat) :
    s.ingressDown p = if (s.clientDown p).lanesData p then (s.clientDown p).toIngress p 2 else s.clientDown p := rfl

theorem clientDown_shows (s : State) (p : Nat) : Frame (· ∈ []) (s.toIngress p 1) (s.clientDown p) :=
  Frame.ofStream _ (State.ingressRecord_set_offStream _ p (by decide))

theorem clientDown_frame (s : State) (p : Nat) : Frame (· ∈ [R.CLIENT_STATE p]) s (s.clientDown p) :=
  ((Frame.refl _ s).set (List.mem_singleton_self _)).trans ((clientDown_shows s p).mono nofun)

theorem State.toIngress_ingress (s : State) (p : Nat) {st : Nat} (h : st < 8) : (s.toIngress p st).ingress p = st :=
  (s.get_set_same (F.CLIENT_STATE.INGRESS p) st (Nat.zero_le _) (by decide : 2 < 32)).trans (Nat.mod_eq_of_lt h)

/-- A port that goes DOWN aligns again at once where all its lanes are in DATA; nothing but its state is written. -/
theorem State.ingressDown_holds (s : State) (port : Fin 16) : (s.ingressDown port).ingress port = (if s.lanesData port then 2 else 1) ∧
    Frame (· ∈ [R.CLIENT_STATE port]) s (s.ingressDown port) := by
  have hframe := clientDown_frame s port
  have hlanes : (s.clientDown port).lanesData port = s.lanesData port :=
    State.lanesData_of (l := fun i => [R.CLIENT_STATE i]) (hframe.besideClient (List.Subset.refl _))
  have hdown : (s.clientDown port).ingress port = 1 :=
    (((clientDown_shows s port).besideClient (List.Subset.refl _)).readPort (l := fun _ => []) F.CLIENT_STATE.INGRESS).trans
      (s.toIngress_ingress port (by decide))
  rw [State.ingressDown_eq, hlanes]
  split
  · exact ⟨State.toIngress_ingress _ port (by decide), hframe.set (List.mem_singleton_self _)⟩
  · exact ⟨hdown, hframe⟩

/-! ### PTP stamps (R196, R198) -/

@[simp] theorem length_leBytes (n v : Nat) : (leBytes n v).length = n := by
  induction n generalizing v with
  | zero => rfl
  | succ n ih => simp [leBytes, ih]

theorem patch_length {b : List Byte} {off : Nat} {data : List Byte} (h : off + data.length ≤ b.length) :
    (patch b off data).length = b.length := by
  simp only [patch, List.length_append, List.length_take, List.length_drop]
  omega

theorem fcsAdjust_length {old new : List Byte} (h : new.length = old.length) (h4 : 4 ≤ old.length) :
    (fcsAdjust old new).length = old.length := by
  simp only [fcsAdjust, List.length_append, List.length_take, length_leBytes]
  omega

/-- A candidate's UDP header stands right before its message. -/
theorem ptpCandidate_udp {b : List Byte} {m : PtpAt} {u : Nat} (h : ptpCandidate b = some m) (hu : m.udp = some u) : m.msg = u + 8 := by
  simp only [ptpCandidate] at h
  split at h
  · obtain rfl := Option.some.inj h
    cases hu
  · split at h
    · obtain rfl := Option.some.inj h
      rw [← Option.some.inj hu]
    · cases h
  · split at h
    · obtain rfl := Option.some.inj h
      rw [← Option.some.inj hu]
    · cases h
  · cases h

theorem ptpAt_bounds {b : List Byte} {m : PtpAt} (h : ptpAt b = some m) : m.msg + 38 ≤ b.length ∧ ∀ u, m.udp = some u → m.msg = u + 8 := by
  unfold ptpAt at h
  split at h
  next x hx =>
    split at h
    next hlen =>
      obtain rfl := Option.some.inj h
      exact ⟨hlen.1, fun u => ptpCandidate_udp hx⟩
    · cases h
  · cases h

/-- A PTP message is rewritten in place. -/
theorem ptpRewrite_length {b : List Byte} {m : PtpAt} (h : ptpAt b = some m) (cf specific : Nat) :
    (ptpRewrite b m cf specific).length = b.length := by
  obtain ⟨hlen, hudp⟩ := ptpAt_bounds h
  have hnew : (patch b (m.msg + 8) (beBytes 8 (cf % 2 ^ 64) ++ beBytes 4 specific)).length = b.length := patch_length (by simp; omega)
  refine fcsAdjust_length ?_ (by omega)
  unfold udpAdjust
  split
  next => exact hnew
  next u hu =>
    have := hudp u hu
    dsimp only
    split
    · exact hnew
    · exact (patch_length (by rw [length_beBytes]; omega)).trans hnew

theorem State.stampIn_plain {s : State} {p : Nat} (b : List Byte) (h : s.on (F.TIME_PORT_CTRL.TC_EN p) = false) : s.stampIn p b = (b, s) := by
  simp [State.stampIn, h]

theorem State.stampIn_length (s : State) (p : Nat) (b : List Byte) : (s.stampIn p b).1.length = b.length := by
  unfold State.stampIn
  split
  · split
    next m hm => exact ptpRewrite_length hm _ _
    · rfl
  · rfl

theorem State.stampIn_ports (s : State) (p : Nat) (b : List Byte) : (s.stampIn p b).2.ports = s.ports := by
  unfold State.stampIn
  split
  · split
    · dsimp only
      split <;> rfl
    · rfl
  · rfl

theorem stampIn_frame (s : State) (p : Nat) (b : List Byte) : Above 0xA00000 s (s.stampIn p b).2 := by
  have h := Frame.refl (0xA00000 ≤ ·) s
  unfold State.stampIn
  split
  · split
    · exact (h.set (Nat.le_add_right_of_le (by decide))).ite h
    · exact h
  · exact h

/-! ### A frame's counts and violations (R165, R181) -/

/-- The counters with a frame and what its decoding met. -/
def State.frameCounted (s : State) (p : Nat) (f : ClientFrame) : State := s.onPort p fun q =>
  { q with live := (((q.live.modify 0 (·.add 1)).modify 1 (·.add (if fcsGood f.bytes then 0 else 1))).modify 2
      (·.add f.corrected)).modify 3 (·.add f.uncorrectable) }

theorem State.get_le_top (s : State) (f : Fld) : s.get f ≤ f.top := Nat.le_sub_one_of_lt (bitsOf_lt _ f.hi f.lo)

/-- Violations are counted, never taken back. -/
theorem State.clientViolation_counts (s : State) (port : Fin 16) {code : Nat} (h : code < 256 := by decide) :
    s.get (F.CLIENT_VIOLATION.COUNT port) ≤ (s.clientViolation port code).get (F.CLIENT_VIOLATION.COUNT port) := by
  rw [(s.clientViolation_holds port h).count]
  exact le_min (s.get_le_top _) (Nat.le_succ _)

/-- A violation of those recorded at most once per 1 ms is one, or changes nothing. -/
theorem State.quiet_cases (s : State) (p code : Nat) : s.clientViolationQuiet p code = s ∨
    s.clientViolationQuiet p code = (s.onPort p fun q => { q with quiet := code :: q.quiet }).clientViolation p code := by
  unfold State.clientViolationQuiet
  split
  · exact .inl rfl
  · exact .inr rfl

/-- What decoding a frame counts leaves, and what it only adds to. -/
structure State.Counted (s t : State) (port : Fin 16) : Prop where
  frame : Frame (· ∈ portViolationWords port) s t
  count : s.get (F.CLIENT_VIOLATION.COUNT port) ≤ t.get (F.CLIENT_VIOLATION.COUNT port)
  keeps : ∀ {β : Type} (g : PortSt → β), (∀ q l k, g { q with live := l, quiet := k } = g q) → g (t.port port) = g (s.port port)

theorem State.Counted.trans {s t u : State} {port : Fin 16} (h : s.Counted t port) (k : t.Counted u port) : s.Counted u port :=
  ⟨h.frame.trans k.frame, h.count.trans k.count, fun g hg => (k.keeps g hg).trans (h.keeps g hg)⟩

theorem State.quiet_counted (s : State) (port : Fin 16) {code : Nat} (h : code < 256 := by decide) :
    s.Counted (s.clientViolationQuiet port code) port := by
  obtain e | e := s.quiet_cases port code
  · rw [e]
    exact ⟨Frame.refl _ s, Nat.le_refl _, fun _ _ => rfl⟩
  · rw [e]
    refine ⟨(Frame.refl _ s).onPort.trans (clientViolation_frame _ port code), State.clientViolation_counts (s.onPort _ _) port h, fun g hg => ?_⟩
    rw [State.clientViolation_port]
    exact s.onPort_keeps g port port fun q => hg q q.live _

theorem State.frameCounted_counted (s : State) (port : Fin 16) (f : ClientFrame) : s.Counted (s.frameCounted port f) port :=
  ⟨(Frame.refl _ s).onPort, Nat.le_refl _, fun g hg => s.onPort_keeps g port port fun q => hg q _ q.quiet⟩

theorem State.ingressCount_counted (s : State) (port : Fin 16) (f : ClientFrame) : s.Counted (s.ingressCount port f) port := by
  have hcounted := s.frameCounted_counted port f
  have huncorrectable : s.Counted (if 0 < f.uncorrectable then (s.frameCounted port f).clientViolationQuiet port 5
      else s.frameCounted port f) port := by
    split
    · exact hcounted.trans (State.quiet_counted _ port)
    · exact hcounted
  unfold State.ingressCount
  dsimp only
  split
  · exact huncorrectable.trans (State.quiet_counted _ port)
  · exact huncorrectable

/-- A frame whose decoding met nothing is counted only. -/
theorem State.ingressCount_clean (s : State) (p : Nat) (bytes : List Byte) (bad : Bool) :
    s.ingressCount p ⟨bytes, bad, 0, 0, false⟩ = s.frameCounted p ⟨bytes, bad, 0, 0, false⟩ := by
  simp [State.ingressCount, State.frameCounted]

end Sys2Proof.Machine
end

section
/-!
O34. A frame from the host ASIC before its record, and one that finds no room (R169, R173).
-/
-- An argument that a tactic fills waits for all declarations before it: elaborated in parallel, such proofs would each hold a thread.
set_option Elab.async false

namespace Sys2Proof.Machine
open Sys2Proof

/-! ### A frame before its record (R169) -/

/-- The words that a frame of the host ASIC may write. -/
def frameWords (p : Nat) : List Nat := [R.CLIENT_ERR p, R.CLIENT_VIOLATION p, R.CLIENT_EVENT p]

/-- A frame counted, its length judged. -/
def State.frameMet (s : State) (p : Nat) (f : ClientFrame) : State :=
  if s.get (F.CLIENT_FRAME.MAX_FRAME p) < f.bytes.length then ((s.ingressCount p f).bump (F.CLIENT_ERR.OVERSIZE p)).clientViolation p 7
  else s.ingressCount p f

/-- A frame stamped, and its place among those spoilt taken (R196, R258). -/
def State.frameReady (s : State) (p : Nat) (f : ClientFrame) : State :=
  ((s.frameMet p f).stampIn p f.bytes).2.onPort p fun q => { q with spoilIn := q.spoilIn - 1 }

/-- The frame's record: cut at MAX_FRAME, with ERR where it was bad, too long or spoilt. -/
def State.frameTaken (s : State) (p : Nat) (f : ClientFrame) : List Byte :=
  frameRecord (((s.frameMet p f).stampIn p f.bytes).1.take (s.get (F.CLIENT_FRAME.MAX_FRAME p)))
    (f.bad || s.get (F.CLIENT_FRAME.MAX_FRAME p) < f.bytes.length || 0 < (((s.frameMet p f).stampIn p f.bytes).2.port p).spoilIn)

theorem State.frameIn_runt {s : State} {p : Nat} {f : ClientFrame} (h : f.bytes.length < 64) :
    s.frameIn p f = ((s.ingressCount p f).bump (F.CLIENT_ERR.RUNTS p)).clientViolation p 8 := by
  simp only [State.frameIn, if_pos h]

theorem State.frameIn_long {s : State} {p : Nat} {f : ClientFrame} (h : 64 ≤ f.bytes.length) :
    s.frameIn p f = if 8192 * (s.frameReady p f).get (F.CLIENT_CFG.SLOTS p) < (s.frameReady p f).waiting p + (s.frameTaken p f).length then
      ((s.frameReady p f).bump (F.CLIENT_ERR.IN_DROP p)).clientViolation p 9
    else (s.frameReady p f).ingressRecord p (s.frameTaken p f) := by
  simp only [State.frameIn, if_neg (Nat.not_lt.mpr h)]
  rfl

section
variable (s : State) (port : Fin 16) (f : ClientFrame)

/-- A frame too long is counted and is a violation. -/
theorem oversize_frame : Frame (· ∈ frameWords port) s (((s.ingressCount port f).bump (F.CLIENT_ERR.OVERSIZE port)).clientViolation port 7) := by
  have hcount : Frame (· ∈ frameWords port) s (s.ingressCount port f) :=
    (s.ingressCount_counted port f).frame.mono fun _ => List.mem_cons_of_mem _
  have hbump := hcount.set (f := F.CLIENT_ERR.OVERSIZE port)
    (v := min (F.CLIENT_ERR.OVERSIZE port).top ((s.ingressCount port f).get (F.CLIENT_ERR.OVERSIZE port) + 1)) List.mem_cons_self
  exact hbump.trans ((clientViolation_frame _ port 7).mono fun _ => List.mem_cons_of_mem _)

theorem frameMet_frame : Frame (· ∈ frameWords port) s (s.frameMet port f) :=
  Frame.ite (oversize_frame s port f) ((s.ingressCount_counted port f).frame.mono fun _ => List.mem_cons_of_mem _)

theorem frameReady_frame : Frame (besideClient (frameWords port)) s (s.frameReady port f) :=
  (((frameMet_frame s port f).besideClient (List.Subset.refl _)).trans (stampIn_frame _ port f.bytes).besideClientAbove).onPort

theorem State.frameMet_keeps {β : Type} (g : PortSt → β) (hg : ∀ q l k, g { q with live := l, quiet := k } = g q) :
    g ((s.frameMet port f).port port) = g (s.port port) := by
  have hcount := (s.ingressCount_counted port f).keeps g hg
  unfold State.frameMet
  split
  · rwa [State.clientViolation_port]
  · exact hcount

/-- A frame before its record leaves a port beside its counters, the codes already counted and the frames to be spoilt. -/
theorem State.frameReady_keeps {β : Type} (g : PortSt → β) (hg : ∀ q l k n, g { q with live := l, quiet := k, spoilIn := n } = g q) :
    g ((s.frameReady port f).port port) = g (s.port port) := by
  have hmet := s.frameMet_keeps port f g fun q l k => hg q l k q.spoilIn
  have hstamp := congrArg g (State.port_of_ports (State.stampIn_ports (s.frameMet port f) port f.bytes) port)
  unfold State.frameReady
  exact (State.onPort_keeps g _ port port fun q => hg q q.live q.quiet _).trans (hstamp.trans hmet)

/-- The bytes that wait do so before the frame's record comes. -/
theorem State.frameReady_waiting : (s.frameReady port f).waiting port = s.waiting port := by
  have hstream := s.frameReady_keeps port f PortSt.stream fun _ _ _ _ => rfl
  have hmode : (s.frameReady port f).mode = s.mode := (frameReady_frame s port f).readPort (l := frameWords) fun _ => F.GLOBAL_MODE.MODE
  simp only [State.waiting, hstream, hmode]

/-- The counts that a frame too long leaves as they were. -/
theorem State.frameReady_inDrop : (s.frameReady port f).get (F.CLIENT_ERR.IN_DROP port) = s.get (F.CLIENT_ERR.IN_DROP port) := by
  have hcount : (s.ingressCount port f).get (F.CLIENT_ERR.IN_DROP port) = s.get (F.CLIENT_ERR.IN_DROP port) :=
    ((s.ingressCount_counted port f).frame.besideClient (List.Subset.refl _)).readPort (l := portViolationWords) F.CLIENT_ERR.IN_DROP
  have hviolation (t : State) : (t.clientViolation port 7).get (F.CLIENT_ERR.IN_DROP port) = t.get (F.CLIENT_ERR.IN_DROP port) :=
    ((clientViolation_frame t port 7).besideClient (List.Subset.refl _)).readPort (l := portViolationWords) F.CLIENT_ERR.IN_DROP
  have hmet : (s.frameMet port f).get (F.CLIENT_ERR.IN_DROP port) = s.get (F.CLIENT_ERR.IN_DROP port) := by
    unfold State.frameMet
    split
    · exact (hviolation _).trans ((State.get_setLane _ port F.CLIENT_ERR.IN_DROP F.CLIENT_ERR.OVERSIZE _).trans hcount)
    · exact hcount
  exact ((stampIn_frame (s.frameMet port f) port f.bytes).besideClientAbove.readPort (l := fun _ => []) F.CLIENT_ERR.IN_DROP).trans hmet

theorem State.frameReady_counts : s.get (F.CLIENT_VIOLATION.COUNT port) ≤ (s.frameReady port f).get (F.CLIENT_VIOLATION.COUNT port) := by
  have hcount := (s.ingressCount_counted port f).count
  have hmet : s.get (F.CLIENT_VIOLATION.COUNT port) ≤ (s.frameMet port f).get (F.CLIENT_VIOLATION.COUNT port) := by
    unfold State.frameMet
    split
    · have hbump : ((s.ingressCount port f).bump (F.CLIENT_ERR.OVERSIZE port)).get (F.CLIENT_VIOLATION.COUNT port) =
          (s.ingressCount port f).get (F.CLIENT_VIOLATION.COUNT port) :=
        State.get_setLane _ port F.CLIENT_VIOLATION.COUNT F.CLIENT_ERR.OVERSIZE _
      exact (hcount.trans hbump.ge).trans (State.clientViolation_counts _ port)
    · exact hcount
  exact hmet.trans
    ((stampIn_frame (s.frameMet port f) port f.bytes).besideClientAbove.readPort (l := fun _ => []) F.CLIENT_VIOLATION.COUNT).ge

/-- A record's length is that of the frame cut at MAX_FRAME, whatever its stamp and ERR are. -/
theorem State.frameTaken_length (err : Bool) : (s.frameTaken port f).length =
    (frameRecord (f.bytes.take (s.get (F.CLIENT_FRAME.MAX_FRAME port))) err).length :=
  frameRecord_length_eq (by rw [List.length_take, List.length_take, State.stampIn_length]) _ err

end

/-! ### A frame that finds no room (R173, O34) -/

theorem exec_clientFrameIngress {s : State} {port : Fin 16} (f : ClientFrame) (due : DueWords) (h : s.ingress port = 3) :
    exec (.clientFrameIngress port f due) s = .next ((s.wordsDue port due).frameIn port f) :=
  congrArg Host.Outcome.next (if_pos ((State.wordsDue_get ..).trans h))

/-- A frame whose record would take the bytes that wait beyond the buffer leaves the stream where it was. -/
theorem State.frameIn_full {s : State} {port : Fin 16} {f : ClientFrame} (h : 64 ≤ f.bytes.length)
    (hfull : 8192 * s.get (F.CLIENT_CFG.SLOTS port) <
      s.waiting port + (frameRecord (f.bytes.take (s.get (F.CLIENT_FRAME.MAX_FRAME port))) f.bad).length) :
    s.frameIn port f = ((s.frameReady port f).bump (F.CLIENT_ERR.IN_DROP port)).clientViolation port 9 := by
  have hslots : (s.frameReady port f).get (F.CLIENT_CFG.SLOTS port) = s.get (F.CLIENT_CFG.SLOTS port) :=
    (frameReady_frame s port f).readPort F.CLIENT_CFG.SLOTS
  rw [State.frameIn_long h, if_pos]
  rwa [hslots, s.frameReady_waiting port f, s.frameTaken_length port f f.bad]

/-- Settles O34: the frame's own counts and stamp leave IN_DROP and the stream, and violations only add up. -/
theorem fullIngressBufferDropsFrame : Obligations.FullIngressBufferDropsFrame := by
  intro s port f due hup hlen hfull
  have hslots := s.wordsDue_get port due (F.CLIENT_CFG.SLOTS port)
  have hmax := s.wordsDue_get port due (F.CLIENT_FRAME.MAX_FRAME port)
  refine ⟨_, exec_clientFrameIngress f due hup, ?_⟩
  rw [State.frameIn_full hlen (by rwa [hslots, hmax])]
  have hready := frameReady_frame (s.wordsDue port due) port f
  have hdrop := (s.wordsDue port due).frameReady_inDrop port f
  have hcounts := (s.wordsDue port due).frameReady_counts port f
  have hkeeps {β : Type} := State.frameReady_keeps (s.wordsDue port due) port f (β := β)
  generalize hr : (s.wordsDue port due).frameReady port f = r at *
  have hviolated := (r.bump (F.CLIENT_ERR.IN_DROP port)).clientViolation_holds port (code := 9)
  have hframe : Frame (besideClient (portViolationWords port)) (r.bump (F.CLIENT_ERR.IN_DROP port)) _ :=
    (clientViolation_frame (r.bump (F.CLIENT_ERR.IN_DROP port)) port 9).besideClient (List.Subset.refl _)
  have hcount : (r.bump (F.CLIENT_ERR.IN_DROP port)).get (F.CLIENT_VIOLATION.COUNT port) = r.get (F.CLIENT_VIOLATION.COUNT port) :=
    State.get_setLane _ port F.CLIENT_VIOLATION.COUNT F.CLIENT_ERR.IN_DROP _
  have hingress : (r.bump (F.CLIENT_ERR.IN_DROP port)).get (F.CLIENT_STATE.INGRESS port) = r.get (F.CLIENT_STATE.INGRESS port) :=
    State.get_setLane _ port F.CLIENT_STATE.INGRESS F.CLIENT_ERR.IN_DROP _
  refine ⟨?dropped, hviolated.last, ?counted, hviolated.raised, ?segment, ?mark, ?state, ?mem⟩
  case dropped =>
    rw [hframe.readPort F.CLIENT_ERR.IN_DROP, State.get_bump_same _ _ 1 (Nat.le_of_ble_eq_true rfl) (by decide : 15 < 32), hdrop,
      State.wordsDue_get]
  case counted =>
    rw [hviolated.count, hcount]
    rw [State.wordsDue_get] at hcounts
    exact min_le_min (Nat.le_refl _) (Nat.succ_le_succ hcounts)
  case segment =>
    rw [State.clientViolation_port, State.bump_port, hkeeps PortSt.segLen fun _ _ _ _ => rfl]
    exact s.wordsDue_keeps port port due PortSt.segLen fun _ _ _ _ => rfl
  case mark =>
    rw [State.clientViolation_port, State.bump_port, hkeeps PortSt.mark fun _ _ _ _ => rfl]
    exact s.wordsDue_keeps port port due PortSt.mark fun _ _ _ _ => rfl
  case state =>
    exact (hframe.readPort F.CLIENT_STATE.INGRESS).trans (hingress.trans ((hready.readPort F.CLIENT_STATE.INGRESS).trans
      ((State.wordsDue_get ..).trans hup)))
  case mem => exact hframe.mem.trans (hready.mem.trans (s.wordsDue_mem port due))

end Sys2Proof.Machine
end

section
/-!
O33. The client ingress: its states (Table 8.3), frames and ordered sets from the host ASIC, and what repeats toward the line (R166 to R170).
-/
-- An argument that a tactic fills waits for all declarations before it: elaborated in parallel, such proofs would each hold a thread.
set_option Elab.async false

namespace Sys2Proof.Machine
open Sys2Proof

/-! ### The states (Table 8.3) -/

/-- The skew shown beside the state. -/
theorem pcsAligned_up {s : State} {port : Fin 16} {skew : Nat} (h : s.ingress port = 2) (hskew : skew ≤ 200) :
    ∃ t, exec (.pcsAligned port skew) s = .next t ∧ t.ingress port = 3 ∧
      t.get (F.CLIENT_STATE.SKEW port) = min (F.CLIENT_STATE.SKEW port).top skew ∧ t.on (portBit 0 port) = true ∧
      s.onlyRegs t [R.CLIENT_STATE port, R.CLIENT_EVENT port] := by
  have hevent : Frame (besideClient (portEventWords port)) ((s.toIngress port 3).setSat (F.CLIENT_STATE.SKEW port) skew) _ :=
    (clientEvent_frame _ port 0).besideClient (List.Subset.refl _)
  refine ⟨_, congrArg Host.Outcome.next (if_pos (by simp [h, hskew])), ?_, ?_, State.clientEvent_on _ port, ?_⟩
  · exact (hevent.readPort F.CLIENT_STATE.INGRESS).trans
      ((State.get_setLane _ port F.CLIENT_STATE.INGRESS F.CLIENT_STATE.SKEW _).trans (s.toIngress_ingress port (by decide)))
  · exact (hevent.readPort F.CLIENT_STATE.SKEW).trans
      (State.get_setSat_same _ _ skew (Nat.le_of_ble_eq_true rfl) (by decide : 31 < 32))
  · have hstate := onlyRegs_set (onlyRegs_refl s [R.CLIENT_STATE port, R.CLIENT_EVENT port]) (f := F.CLIENT_STATE.INGRESS port)
      List.mem_cons_self 3
    exact onlyRegs_clientEvent (onlyRegs_setSat hstate (f := F.CLIENT_STATE.SKEW port) List.mem_cons_self skew)
      (List.mem_cons_of_mem _ List.mem_cons_self) 0

/-- An event or a violation before the port goes DOWN: `t` is the state in which it does. -/
theorem State.ingressDown_after {s t : State} {port : Fin 16} (h : Frame (· ∈ portViolationWords port) s t) :
    (t.ingressDown port).ingress port = (if s.lanesData port then 2 else 1) ∧ (t.ingressDown port).mem = s.mem := by
  obtain ⟨hstate, hframe⟩ := t.ingressDown_holds port
  have hlanes : t.lanesData port = s.lanesData port := State.lanesData_of (h.besideClient (List.Subset.refl (portViolationWords port)))
  exact ⟨hlanes ▸ hstate, hframe.mem.trans h.mem⟩

/-- Event bits and the violation shown stay while the port goes DOWN. -/
theorem State.ingressDown_get (s : State) (port : Fin 16) (f : Nat → Fld)
    (hf : ∀ i : Fin 16, clientField [R.CLIENT_STATE i] (f i) = true := by decide) : (s.ingressDown port).get (f port) = s.get (f port) :=
  ((s.ingressDown_holds port).2.besideClient (List.Subset.refl _)).readPort (l := fun i => [R.CLIENT_STATE i]) f hf

theorem State.ingressDown_on (s : State) (port : Fin 16) {b : Nat} : (s.ingressDown port).on (portBit b port) = s.on (portBit b port) := by
  refine State.on_of_get ((s.ingressDown_holds port).2.get (outside_iff.mp (portBit_outside port b)).1 fun hm => ?_)
  simp only [List.mem_singleton, R.CLIENT_EVENT, R.CLIENT_STATE] at hm
  omega

/-- A violation shown stays through an event. -/
theorem State.clientEvent_violation_get (s : State) (port : Fin 16) (b : Nat) (f : Nat → Fld)
    (hf : ∀ i : Fin 16, clientField (portEventWords i) (f i) = true := by decide) : (s.clientEvent port b).get (f port) = s.get (f port) :=
  ((clientEvent_frame s port b).besideClient (List.Subset.refl _)).readPort (l := portEventWords) f hf

/-! ### Frames (R169) -/

theorem State.wordsDue_offStream (s : State) (p : Nat) (due : DueWords) : (s.wordsDue p due).offStream = s.offStream := by
  have hdraw (t : State) (c : Carrier) (n : Nat) : (t.drawPort p c n).offStream = t.offStream := rfl
  have hdrain : (s.egressDrain p due.out).offStream = s.offStream := rfl
  simp only [State.wordsDue]
  split_ifs <;> simp only [hdraw, hdrain]

@[simp] theorem State.wordsDue_mode (s : State) (p : Nat) (due : DueWords) : (s.wordsDue p due).mode = s.mode := s.wordsDue_get p due _

theorem State.carried_A {s : State} {p : Nat} (rec : List Byte) (ha : s.portOn p .A = true) (hb : s.portOn p .B = false) :
    s.carried p rec = [.record p .A rec] := by
  simp [State.carried, ha, hb]

theorem State.carried_both {s : State} {p : Nat} (rec : List Byte) (ha : s.portOn p .A = true) (hb : s.portOn p .B = true) :
    s.carried p rec = [.record p .B rec, .record p .A rec] := by
  simp [State.carried, ha, hb]

/-- A frame counted whose stamp and length changed nothing. -/
def State.frameNoted (s : State) (p : Nat) (f : ClientFrame) : State :=
  (s.frameCounted p f).onPort p fun q => { q with spoilIn := q.spoilIn - 1 }

theorem State.frameNoted_keeps {β : Type} (g : PortSt → β) (hg : ∀ q l n, g { q with live := l, spoilIn := n } = g q) (s : State) (p k : Nat)
    (f : ClientFrame) : g ((s.frameNoted p f).port k) = g (s.port k) :=
  (State.onPort_keeps g (s.frameCounted p f) p k fun q => hg q q.live _).trans (s.onPort_keeps g p k fun q => hg q _ q.spoilIn)

theorem nth_modify_other {α : Type} (l : List α) {i j : Nat} (h : j ≠ i) (f : α → α) (d : α) : nth (l.modify j f) i d = nth l i d := by
  simp [nth, List.getD_eq_getElem?_getD, h]

theorem nth_modify_congr {α : Type} {l m : List α} {i : Nat} (h : l[i]? = m[i]?) (f : α → α) (d : α) :
    nth (l.modify i f) i d = nth (m.modify i f) i d := by
  simp [nth, List.getD_eq_getElem?_getD, h]

/-- A frame counts as one, and an errored FCS too. -/
theorem State.frameNoted_live {s : State} {p : Nat} (h : p < s.ports.length) (f : ClientFrame) :
    nth ((s.frameNoted p f).port p).live 0 {} = nth ((s.port p).live.modify 0 (·.add 1)) 0 {} ∧
      nth ((s.frameNoted p f).port p).live 1 {} = nth ((s.port p).live.modify 1 (·.add (if fcsGood f.bytes then 0 else 1))) 1 {} := by
  have hkept : ((s.frameNoted p f).port p).live = ((s.frameCounted p f).port p).live := State.onPort_keeps PortSt.live _ p p fun _ => rfl
  rw [hkept, State.frameCounted, State.onPort_port h]
  dsimp only
  refine ⟨?_, ?_⟩
  · rw [nth_modify_other _ (by decide), nth_modify_other _ (by decide), nth_modify_other _ (by decide)]
  · rw [nth_modify_other _ (by decide), nth_modify_other _ (by decide)]
    exact nth_modify_congr (by simp) _ _

theorem State.frameCounted_get (s : State) (p : Nat) (f : ClientFrame) (g : Fld) : (s.frameCounted p f).get g = s.get g :=
  State.get_of_regs rfl g

/-- Counting a frame leaves whether PTP messages are stamped. -/
theorem State.frameMet_stamps (s : State) (port : Fin 16) (f : ClientFrame) :
    (s.frameMet port f).on (F.TIME_PORT_CTRL.TC_EN port) = s.on (F.TIME_PORT_CTRL.TC_EN port) := by
  have houtside : ∀ i : Fin 16, outside (frameWords i) (F.TIME_PORT_CTRL.TC_EN i) = true := by decide
  exact (frameMet_frame s port f).readOn (houtside port)

section
variable {s : State} {port : Fin 16} {bytes : List Byte} {bad : Bool}

/-- A whole frame whose record fits goes toward the line as one record. -/
theorem State.frameIn_clean (h64 : 64 ≤ bytes.length) (hmax : bytes.length ≤ s.get (F.CLIENT_FRAME.MAX_FRAME port))
    (htc : s.on (F.TIME_PORT_CTRL.TC_EN port) = false) (hspoil : (s.port port).spoilIn = 0)
    (hroom : s.waiting port + (frameRecord bytes bad).length ≤ 8192 * s.get (F.CLIENT_CFG.SLOTS port))
    (hloop : s.get (F.CLIENT_CTRL.LOOP port) = 0) :
    s.frameIn port ⟨bytes, bad, 0, 0, false⟩ = (s.frameNoted port ⟨bytes, bad, 0, 0, false⟩).toLine port (frameRecord bytes bad) := by
  have hmet : s.frameMet port ⟨bytes, bad, 0, 0, false⟩ = s.frameCounted port ⟨bytes, bad, 0, 0, false⟩ := by
    rw [State.frameMet, if_neg (Nat.not_lt.mpr hmax), State.ingressCount_clean]
  have hstamp := State.stampIn_plain (s := s.frameCounted port ⟨bytes, bad, 0, 0, false⟩) (p := port) bytes htc
  have hready : s.frameReady port ⟨bytes, bad, 0, 0, false⟩ = s.frameNoted port ⟨bytes, bad, 0, 0, false⟩ := by
    rw [State.frameReady, hmet, hstamp, State.frameNoted]
  have hspoiled : ((s.frameCounted port ⟨bytes, bad, 0, 0, false⟩).port port).spoilIn = 0 :=
    ((s.frameCounted_counted port _).keeps PortSt.spoilIn fun _ _ _ => rfl).trans hspoil
  have htaken : s.frameTaken port ⟨bytes, bad, 0, 0, false⟩ = frameRecord bytes bad := by
    simp [State.frameTaken, hmet, hstamp, hspoiled, List.take_of_length_le hmax, Nat.not_lt.mpr hmax]
  have hwait := s.frameReady_waiting port ⟨bytes, bad, 0, 0, false⟩
  have hslots : (s.frameNoted port ⟨bytes, bad, 0, 0, false⟩).get (F.CLIENT_CFG.SLOTS port) = s.get (F.CLIENT_CFG.SLOTS port) := rfl
  rw [State.frameIn_long h64, hwait, htaken, hready, hslots, if_neg (Nat.not_lt.mpr hroom)]
  exact State.ingressRecord_line _ hloop

/-- A frame beyond MAX_FRAME is cut there and carried with ERR, a violation. -/
theorem State.frameIn_oversize (h64 : 64 ≤ bytes.length) (hmax : s.get (F.CLIENT_FRAME.MAX_FRAME port) < bytes.length)
    (htc : s.on (F.TIME_PORT_CTRL.TC_EN port) = false)
    (hroom : s.waiting port + (frameRecord (bytes.take (s.get (F.CLIENT_FRAME.MAX_FRAME port))) true).length ≤
      8192 * s.get (F.CLIENT_CFG.SLOTS port))
    (hloop : s.get (F.CLIENT_CTRL.LOOP port) = 0) :
    s.frameIn port ⟨bytes, bad, 0, 0, false⟩ = (s.frameReady port ⟨bytes, bad, 0, 0, false⟩).toLine port
      (frameRecord (bytes.take (s.get (F.CLIENT_FRAME.MAX_FRAME port))) true) := by
  have hframe := frameReady_frame s port ⟨bytes, bad, 0, 0, false⟩
  have hstamp := State.stampIn_plain bytes ((s.frameMet_stamps port ⟨bytes, bad, 0, 0, false⟩).trans htc)
  have htaken : s.frameTaken port ⟨bytes, bad, 0, 0, false⟩ = frameRecord (bytes.take (s.get (F.CLIENT_FRAME.MAX_FRAME port))) true := by
    simp [State.frameTaken, hstamp, hmax]
  have hslots : (s.frameReady port ⟨bytes, bad, 0, 0, false⟩).get (F.CLIENT_CFG.SLOTS port) = s.get (F.CLIENT_CFG.SLOTS port) :=
    hframe.readPort F.CLIENT_CFG.SLOTS
  have hloop' : (s.frameReady port ⟨bytes, bad, 0, 0, false⟩).get (F.CLIENT_CTRL.LOOP port) = 0 :=
    (hframe.readPort F.CLIENT_CTRL.LOOP).trans hloop
  rw [State.frameIn_long h64, State.frameReady_waiting, htaken, hslots, if_neg (Nat.not_lt.mpr hroom)]
  exact State.ingressRecord_line _ hloop'

/-- What a frame too long leaves of its violation. -/
theorem State.oversize_shows (s : State) (port : Fin 16) :
    ((s.bump (F.CLIENT_ERR.OVERSIZE port)).clientViolation port 7).get (F.CLIENT_ERR.OVERSIZE port) =
        min (F.CLIENT_ERR.OVERSIZE port).top (s.get (F.CLIENT_ERR.OVERSIZE port) + 1) ∧
      ((s.bump (F.CLIENT_ERR.OVERSIZE port)).clientViolation port 7).get (F.CLIENT_VIOLATION.LAST port) = 7 ∧
      ((s.bump (F.CLIENT_ERR.OVERSIZE port)).clientViolation port 7).get (F.CLIENT_VIOLATION.COUNT port) =
        min (F.CLIENT_VIOLATION.COUNT port).top (s.get (F.CLIENT_VIOLATION.COUNT port) + 1) ∧
      ((s.bump (F.CLIENT_ERR.OVERSIZE port)).clientViolation port 7).on (portBit 6 port) = true := by
  have hoversize := s.get_bump_same (F.CLIENT_ERR.OVERSIZE port) 1 (Nat.le_of_ble_eq_true rfl) (by decide : 23 < 32)
  have hcount : (s.bump (F.CLIENT_ERR.OVERSIZE port)).get (F.CLIENT_VIOLATION.COUNT port) = s.get (F.CLIENT_VIOLATION.COUNT port) :=
    State.get_setLane _ port F.CLIENT_VIOLATION.COUNT F.CLIENT_ERR.OVERSIZE _
  generalize s.bump (F.CLIENT_ERR.OVERSIZE port) = x at *
  have hviolated := x.clientViolation_holds port (code := 7)
  have hkept : (x.clientViolation port 7).get (F.CLIENT_ERR.OVERSIZE port) = x.get (F.CLIENT_ERR.OVERSIZE port) :=
    ((clientViolation_frame x port 7).besideClient (List.Subset.refl _)).readPort (l := portViolationWords) F.CLIENT_ERR.OVERSIZE
  rw [← hcount]
  exact ⟨hkept.trans hoversize, hviolated.last, hviolated.count, hviolated.raised⟩

/-- `frameReady` is the state before the record of a frame too long. -/
theorem State.frameReady_oversize (hmax : s.get (F.CLIENT_FRAME.MAX_FRAME port) < bytes.length)
    (htc : s.on (F.TIME_PORT_CTRL.TC_EN port) = false) :
    (s.frameReady port ⟨bytes, bad, 0, 0, false⟩).get (F.CLIENT_ERR.OVERSIZE port) =
        min (F.CLIENT_ERR.OVERSIZE port).top (s.get (F.CLIENT_ERR.OVERSIZE port) + 1) ∧
      (s.frameReady port ⟨bytes, bad, 0, 0, false⟩).get (F.CLIENT_VIOLATION.LAST port) = 7 ∧
      (s.frameReady port ⟨bytes, bad, 0, 0, false⟩).get (F.CLIENT_VIOLATION.COUNT port) =
        min (F.CLIENT_VIOLATION.COUNT port).top (s.get (F.CLIENT_VIOLATION.COUNT port) + 1) ∧
      (s.frameReady port ⟨bytes, bad, 0, 0, false⟩).on (portBit 6 port) = true ∧
      Frame (· ∈ frameWords port) s (s.frameReady port ⟨bytes, bad, 0, 0, false⟩) := by
  have hmet : s.frameMet port ⟨bytes, bad, 0, 0, false⟩ =
      ((s.frameCounted port ⟨bytes, bad, 0, 0, false⟩).bump (F.CLIENT_ERR.OVERSIZE port)).clientViolation port 7 := by
    rw [State.frameMet, if_pos hmax, State.ingressCount_clean]
  have hframe := frameMet_frame s port ⟨bytes, bad, 0, 0, false⟩
  obtain ⟨hoversize, hlast, hcount, hraised⟩ := (s.frameCounted port ⟨bytes, bad, 0, 0, false⟩).oversize_shows port
  rw [← hmet] at hoversize hlast hcount hraised
  rw [State.frameCounted_get] at hoversize hcount
  rw [State.frameReady, State.stampIn_plain bytes ((s.frameMet_stamps port ⟨bytes, bad, 0, 0, false⟩).trans htc)]
  generalize s.frameMet port ⟨bytes, bad, 0, 0, false⟩ = x at *
  exact ⟨hoversize, hlast, hcount, hraised, hframe.onPort⟩

end

/-- A frame below 64 bytes is a violation, and nothing of it goes toward the line. -/
theorem State.frameIn_short {s : State} {port : Fin 16} {f : ClientFrame} (h : f.bytes.length < 64) :
    (s.frameIn port f).get (F.CLIENT_ERR.RUNTS port) = min (F.CLIENT_ERR.RUNTS port).top (s.get (F.CLIENT_ERR.RUNTS port) + 1) ∧
      (s.frameIn port f).get (F.CLIENT_VIOLATION.LAST port) = 8 ∧ (s.frameIn port f).on (portBit 6 port) = true ∧
      ((s.frameIn port f).port port).segLen = (s.port port).segLen ∧ (s.frameIn port f).ingress port = s.ingress port ∧
      (s.frameIn port f).mem = s.mem := by
  have hcounted := s.ingressCount_counted port f
  have hbefore : Frame (besideClient (portViolationWords port)) s (s.ingressCount port f) := hcounted.frame.besideClient (List.Subset.refl _)
  have hseg := hcounted.keeps PortSt.segLen fun _ _ _ => rfl
  rw [State.frameIn_runt h]
  generalize s.ingressCount port f = y at *
  have hviolated := (y.bump (F.CLIENT_ERR.RUNTS port)).clientViolation_holds port (code := 8)
  have hafter : Frame (besideClient (portViolationWords port)) (y.bump (F.CLIENT_ERR.RUNTS port)) _ :=
    (clientViolation_frame (y.bump (F.CLIENT_ERR.RUNTS port)) port 8).besideClient (List.Subset.refl _)
  have hstate : (y.bump (F.CLIENT_ERR.RUNTS port)).get (F.CLIENT_STATE.INGRESS port) = y.get (F.CLIENT_STATE.INGRESS port) :=
    State.get_setLane _ port F.CLIENT_STATE.INGRESS F.CLIENT_ERR.RUNTS _
  refine ⟨?_, hviolated.last, hviolated.raised, ?_, ?_,
    (hafter.mem.trans (State.bump_mem _ _ _)).trans hbefore.mem⟩
  · rw [hafter.readPort F.CLIENT_ERR.RUNTS, State.get_bump_same _ _ 1 (Nat.le_of_ble_eq_true rfl) (by decide : 31 < 32),
      hbefore.readPort F.CLIENT_ERR.RUNTS]
  · rwa [State.clientViolation_port, State.bump_port]
  · exact (hafter.readPort F.CLIENT_STATE.INGRESS).trans (hstate.trans (hbefore.readPort F.CLIENT_STATE.INGRESS))

/-! ### Ordered sets (R169, Table 8.2) -/

theorem exec_orderedSetIngress {s : State} {port : Fin 16} (set : Nat) (due : DueWords) (h : s.ingress port = 3) :
    exec (.orderedSetIngress port set due) s = .next ((s.wordsDue port due).setReceived port set) :=
  congrArg Host.Outcome.next (if_pos ((State.wordsDue_get ..).trans h))

/-- The set received is kept. -/
def State.setKept (s : State) (p set : Nat) : State := s.onPort p fun q => { q with setIn := set }

theorem State.setReceived_changed {s : State} {p set : Nat} (h3 : set ≤ 3) (h0 : set ≠ 0) (h : (s.port p).setIn ≠ set) :
    s.setReceived p set = (s.setKept p set).ingressRecord p (setRecord set) := by
  simp [State.setReceived, State.setKept, Nat.not_lt.mpr h3, h0, h.symm]

theorem State.setReceived_same {s : State} {p set : Nat} (h3 : set ≤ 3) (h : set = 0 ∨ (s.port p).setIn = set) :
    s.setReceived p set = s.setKept p set := by
  obtain rfl | h := h
  · simp [State.setReceived, State.setKept]
  · simp [State.setReceived, State.setKept, Nat.not_lt.mpr h3, h]

theorem State.setReceived_illegal {s : State} {p set : Nat} (h : 3 < set) : s.setReceived p set = s.clientViolation p 0x0B := by
  simp only [State.setReceived, if_pos h]

/-- What repeats is a matter of the state and the set kept alone. -/
theorem State.wordsDue_repeated (s : State) (p : Nat) (due : DueWords) : (s.wordsDue p due).repeated p = s.repeated p := by
  have hset : ((s.wordsDue p due).port p).setIn = (s.port p).setIn := s.wordsDue_keeps p p due PortSt.setIn fun _ _ _ _ => rfl
  simp only [State.repeated, State.ingress, State.wordsDue_get, hset]

theorem exec_orderedSetRepeat {s : State} {port : Fin 16} (due : DueWords) (h : s.repeated port ≠ 0) :
    exec (.orderedSetRepeat port due) s = .next ((s.wordsDue port due).ingressRecord port (setRecord (s.repeated port))) := by
  have hdue := s.wordsDue_repeated port due
  rw [← hdue] at h ⊢
  exact congrArg Host.Outcome.next (if_neg h)

theorem exec_orderedSetRepeat_none {s : State} {port : Fin 16} (due : DueWords) (h : s.repeated port = 0) :
    exec (.orderedSetRepeat port due) s = .next (s.wordsDue port due) :=
  congrArg Host.Outcome.next (if_pos ((s.wordsDue_repeated port due).trans h))

/-- A set that repeats within a segment goes toward the line on the port's carriers and writes no register. -/
theorem orderedSetRepeat_sends {s : State} {port : Fin 16} {n : Nat} (due : DueWords) (h : s.repeated port ≠ 0)
    (hloop : s.get (F.CLIENT_CTRL.LOOP port) = 0) (hseg : (s.port port).segLen = some n) (hn : n < 8192) (hm : s.mode ≠ 1) :
    ∃ t, exec (.orderedSetRepeat port due) s = .next t ∧ t.sent = s.carried port (setRecord (s.repeated port)) ++ s.sent ∧ t.regs = s.regs ∧
      t.mem = s.mem := by
  have hseg' : ((s.wordsDue port due).port port).segLen = some n := (s.wordsDue_keeps port port due PortSt.segLen fun _ _ _ _ => rfl).trans hseg
  obtain ⟨hsent, -, -⟩ := State.toLine_within (setRecord (s.repeated port)) hseg' hn (by rwa [State.wordsDue_mode])
  rw [State.wordsDue_sent, State.carried_of_regs (s.wordsDue_regs port due)] at hsent
  rw [exec_orderedSetRepeat due h, State.ingressRecord_line _ (by rwa [State.wordsDue_get])]
  exact ⟨_, rfl, hsent, by simp, by simp⟩

/-- What of a whole frame is the same before and after the line has drawn its words. -/
theorem exec_cleanFrame {s : State} {port : Fin 16} {bytes : List Byte} {bad : Bool} (due : DueWords) (hup : s.ingress port = 3)
    (h64 : 64 ≤ bytes.length) (hmax : bytes.length ≤ s.get (F.CLIENT_FRAME.MAX_FRAME port))
    (htc : s.on (F.TIME_PORT_CTRL.TC_EN port) = false) (hspoil : (s.port port).spoilIn = 0)
    (hroom : (s.wordsDue port due).waiting port + (frameRecord bytes bad).length ≤ 8192 * s.get (F.CLIENT_CFG.SLOTS port))
    (hloop : s.get (F.CLIENT_CTRL.LOOP port) = 0) :
    exec (.clientFrameIngress port ⟨bytes, bad, 0, 0, false⟩ due) s =
      .next (((s.wordsDue port due).frameNoted port ⟨bytes, bad, 0, 0, false⟩).toLine port (frameRecord bytes bad)) := by
  have hspoil' : ((s.wordsDue port due).port port).spoilIn = 0 := (s.wordsDue_keeps port port due PortSt.spoilIn fun _ _ _ _ => rfl).trans hspoil
  have hstamps : (s.wordsDue port due).on (F.TIME_PORT_CTRL.TC_EN port) = false := (State.on_of_get (s.wordsDue_get port due _)).trans htc
  rw [← s.wordsDue_get port due] at hmax hroom hloop
  rw [exec_clientFrameIngress _ due hup, State.frameIn_clean h64 hmax hstamps hspoil' hroom hloop]

theorem State.frameNoted_fields (s : State) (p : Nat) (f : ClientFrame) :
    (s.frameNoted p f).regs = s.regs ∧ (s.frameNoted p f).mem = s.mem ∧ (s.frameNoted p f).sent = s.sent := ⟨rfl, rfl, rfl⟩

/-- A whole frame writes no register. -/
theorem State.frameNoted_wordsDue (s : State) (p : Nat) (due : DueWords) (f : ClientFrame) :
    ((s.wordsDue p due).frameNoted p f).regs = s.regs ∧ ((s.wordsDue p due).frameNoted p f).mem = s.mem ∧
      ((s.wordsDue p due).frameNoted p f).sent = s.sent := by
  obtain ⟨hregs, hmem, hsent⟩ := (s.wordsDue p due).frameNoted_fields p f
  exact ⟨hregs.trans (s.wordsDue_regs p due), hmem.trans (s.wordsDue_mem p due), hsent.trans (s.wordsDue_sent p due)⟩

/-- A frame cut at MAX_FRAME goes toward the line with ERR, and its violation shows. -/
theorem oversize_carried {s : State} {port : Fin 16} {bytes : List Byte} {bad : Bool} {n : Nat} (due : DueWords) (hup : s.ingress port = 3)
    (h64 : 64 ≤ bytes.length) (hmax : s.get (F.CLIENT_FRAME.MAX_FRAME port) < bytes.length)
    (htc : s.on (F.TIME_PORT_CTRL.TC_EN port) = false)
    (hroom : (s.wordsDue port due).waiting port + (frameRecord (bytes.take (s.get (F.CLIENT_FRAME.MAX_FRAME port))) true).length ≤
      8192 * s.get (F.CLIENT_CFG.SLOTS port))
    (hloop : s.get (F.CLIENT_CTRL.LOOP port) = 0) (hseg : (s.port port).segLen = some n) (hn : n < 8192) (hm : s.mode ≠ 1)
    (ha : s.portOn port .A = true) :
    ∃ t, exec (.clientFrameIngress port ⟨bytes, bad, 0, 0, false⟩ due) s = .next t ∧
      .record port .A (frameRecord (bytes.take (s.get (F.CLIENT_FRAME.MAX_FRAME port))) true) ∈ t.sent ∧
      t.get (F.CLIENT_ERR.OVERSIZE port) = min (F.CLIENT_ERR.OVERSIZE port).top (s.get (F.CLIENT_ERR.OVERSIZE port) + 1) ∧
      t.get (F.CLIENT_VIOLATION.LAST port) = 7 ∧
      t.get (F.CLIENT_VIOLATION.COUNT port) = min (F.CLIENT_VIOLATION.COUNT port).top (s.get (F.CLIENT_VIOLATION.COUNT port) + 1) ∧
      t.on (portBit 6 port) = true ∧ s.keepsRegs t (frameWords port) ∧ t.mem = s.mem := by
  have hstamps : (s.wordsDue port due).on (F.TIME_PORT_CTRL.TC_EN port) = false := (State.on_of_get (s.wordsDue_get port due _)).trans htc
  have hdraw := Frame.ofStream (· ∈ frameWords port) (s.wordsDue_offStream port due)
  rw [exec_clientFrameIngress _ due hup]
  simp only [← s.wordsDue_get port due] at hmax hroom hloop ⊢
  rw [State.frameIn_oversize h64 hmax hstamps hroom hloop]
  obtain ⟨hcount, hlast, hviolations, hraised, hframe⟩ := State.frameReady_oversize (bad := bad) hmax hstamps
  have hseg' := (State.frameReady_keeps (s.wordsDue port due) port ⟨bytes, bad, 0, 0, false⟩ PortSt.segLen fun _ _ _ _ => rfl).trans
    ((s.wordsDue_keeps port port due PortSt.segLen fun _ _ _ _ => rfl).trans hseg)
  generalize (s.wordsDue port due).frameReady port ⟨bytes, bad, 0, 0, false⟩ = r at *
  have hread := hframe.besideClient (List.Subset.refl (frameWords port))
  have hmode : r.mode ≠ 1 := by rwa [show r.mode = _ from hread.readPort (l := frameWords) fun _ => F.GLOBAL_MODE.MODE, State.wordsDue_get]
  have hcarrier : r.portOn port .A = true := by
    rw [State.portOn, hread.readPort F.CLIENT_CFG.CARRIERS, State.wordsDue_get]
    exact ha
  obtain ⟨hout, -, -⟩ := State.toLine_within (frameRecord (bytes.take ((s.wordsDue port due).get (F.CLIENT_FRAME.MAX_FRAME port))) true) hseg' hn
    hmode
  refine ⟨_, rfl, ?_, ?_, ?_, ?_, ?_, ?_, ?_⟩
  · rw [hout]
    simp [State.carried, hcarrier]
  · rw [State.toLine_get, hcount]
  · rw [State.toLine_get, hlast]
  · rw [State.toLine_get, hviolations]
  · exact (State.on_of_get (State.toLine_get ..)).trans hraised
  · exact (hdraw.trans (hframe.trans (Frame.ofStream _ (r.toLine_offStream port _)))).keeps
  · rw [State.toLine_mem, hframe.mem, State.wordsDue_mem]

/-! ### The statement -/

/-- Settles O33. -/
theorem ingressFollowsTable83 : Obligations.IngressFollowsTable83 := by
  unfold Obligations.IngressFollowsTable83
  refine ⟨fun _ _ _ => pcsAligned_up, ?timeout, ?ser, ?lock, ?lpi, ?within, ?marked, ?oversize, ?runt, ?setChanged, ?setSame, ?setIllegal, ?fault,
    ?repeats, ?silent⟩
  case timeout =>
    intro s port cause h
    have hviolated := s.clientViolation_holds port (code := cause + 1) (by omega)
    obtain ⟨hstate, hmem⟩ := State.ingressDown_after (clientViolation_frame s port (cause + 1))
    exact ⟨_, congrArg Host.Outcome.next (if_pos h), hstate, (State.ingressDown_get _ port F.CLIENT_VIOLATION.LAST).trans hviolated.last,
      (State.ingressDown_get _ port F.CLIENT_VIOLATION.COUNT).trans hviolated.count, (State.ingressDown_on _ port).trans hviolated.raised, hmem⟩
  case ser =>
    intro s port h
    have hviolated := s.clientViolation_holds port (code := 4)
    have hevent := (clientViolation_frame s port 4).trans
      ((clientEvent_frame (s.clientViolation port 4) port 1).mono fun _ => List.mem_cons_of_mem _)
    obtain ⟨hstate, hmem⟩ := State.ingressDown_after hevent
    refine ⟨_, congrArg Host.Outcome.next (if_pos h), hstate, (State.ingressDown_get _ port F.CLIENT_VIOLATION.LAST).trans ?_,
      (State.ingressDown_get _ port F.CLIENT_VIOLATION.COUNT).trans ?_, (State.ingressDown_on _ port).trans ?_,
      (State.ingressDown_on _ port).trans (State.clientEvent_on _ port), hmem⟩
    · exact (State.clientEvent_violation_get _ port 1 F.CLIENT_VIOLATION.LAST).trans hviolated.last
    · exact (State.clientEvent_violation_get _ port 1 F.CLIENT_VIOLATION.COUNT).trans hviolated.count
    · exact State.clientEvent_keeps _ port hviolated.raised
  case lock =>
    intro s port h
    obtain ⟨hstate, hmem⟩ := State.ingressDown_after ((clientEvent_frame s port 1).mono fun _ => List.mem_cons_of_mem _)
    exact ⟨_, congrArg Host.Outcome.next (if_pos h), hstate, (State.ingressDown_on _ port).trans (State.clientEvent_on _ port), hmem⟩
  case lpi =>
    intro s port h
    have hviolated := s.clientViolation_holds port (code := 0x0A)
    have hframe := (clientViolation_frame s port 0x0A).besideClient (List.Subset.refl (portViolationWords port))
    exact ⟨_, congrArg Host.Outcome.next (if_pos h), (hframe.readPort F.CLIENT_STATE.INGRESS).trans h, hviolated.last, hviolated.count,
      hviolated.raised, hviolated.only⟩
  case within =>
    intro s port bytes bad due n hup h64 hmax htc hspoil hroom hloop hseg hn hm ha hb hp
    rw [exec_cleanFrame due hup h64 hmax htc hspoil hroom hloop]
    obtain ⟨hregs, hmem, hsent⟩ := s.frameNoted_wordsDue port due ⟨bytes, bad, 0, 0, false⟩
    have hp' : port < (s.wordsDue port due).ports.length := by rwa [State.wordsDue_ports_length]
    have hlive := State.frameNoted_live hp' ⟨bytes, bad, 0, 0, false⟩
    have hkept := State.frameNoted_keeps PortSt.segLen (fun _ _ _ => rfl) (s.wordsDue port due) port port ⟨bytes, bad, 0, 0, false⟩
    generalize (s.wordsDue port due).frameNoted port ⟨bytes, bad, 0, 0, false⟩ = u at *
    rw [s.wordsDue_keeps port port due PortSt.segLen fun _ _ _ _ => rfl, hseg] at hkept
    rw [s.wordsDue_keeps port port due PortSt.live fun _ _ _ _ => rfl] at hlive
    obtain ⟨hout, hlen, -⟩ := State.toLine_within (frameRecord bytes bad) hkept hn (by rwa [State.mode_of_regs hregs])
    have hcounters := State.toLine_keeps PortSt.live (fun _ _ _ _ _ => rfl) u port port (frameRecord bytes bad)
    rw [State.carried_of_regs hregs, State.carried_A _ ha hb, hsent] at hout
    rw [← hcounters] at hlive
    exact ⟨_, rfl, hout, hlen, hlive.1, hlive.2, (State.toLine_regs ..).trans hregs, (State.toLine_mem ..).trans hmem⟩
  case marked =>
    intro s port bytes due n hup h64 hmax htc hspoil hroom hloop hseg hn hm ha hb hp
    rw [exec_cleanFrame due hup h64 hmax htc hspoil hroom hloop]
    obtain ⟨hregs, hmem, hsent⟩ := s.frameNoted_wordsDue port due ⟨bytes, false, 0, 0, false⟩
    have hkept := State.frameNoted_keeps PortSt.segLen (fun _ _ _ => rfl) (s.wordsDue port due) port port ⟨bytes, false, 0, 0, false⟩
    have hmark := State.frameNoted_keeps PortSt.mark (fun _ _ _ => rfl) (s.wordsDue port due) port port ⟨bytes, false, 0, 0, false⟩
    generalize (s.wordsDue port due).frameNoted port ⟨bytes, false, 0, 0, false⟩ = u at *
    rw [s.wordsDue_keeps port port due PortSt.segLen fun _ _ _ _ => rfl, hseg] at hkept
    rw [s.wordsDue_keeps port port due PortSt.mark fun _ _ _ _ => rfl] at hmark
    obtain ⟨hout, hlen, hnext⟩ := State.toLine_marked (frameRecord bytes false) hkept hn (by rwa [State.mode_of_regs hregs])
    rw [State.carried_of_regs hregs, State.carried_of_regs hregs, State.carried_A _ ha hb, State.carried_A _ ha hb, hsent, hmark] at hout
    exact ⟨_, rfl, hout, hnext.trans (by rw [hmark]), hlen, (State.toLine_regs ..).trans hregs, (State.toLine_mem ..).trans hmem⟩
  case oversize =>
    intro s port bytes bad due n hup h64 hmax _ htc hroom hloop hseg hn hm ha _ _
    exact oversize_carried due hup h64 hmax htc hroom hloop hseg hn hm ha
  case runt =>
    intro s port f due hup hlen
    obtain ⟨hruns, hlast, hraised, hseg, hstate, hmem⟩ := State.frameIn_short (s := s.wordsDue port due) (port := port) hlen
    rw [State.wordsDue_get] at hruns
    exact ⟨_, exec_clientFrameIngress f due hup, hruns, hlast, hraised,
      hseg.trans (s.wordsDue_keeps port port due PortSt.segLen fun _ _ _ _ => rfl), hstate.trans ((State.wordsDue_get ..).trans hup),
      hmem.trans (s.wordsDue_mem port due)⟩
  case setChanged =>
    intro s port set due n hup h1 h3 hset hloop hseg hn hm ha hb hp
    have hkept : ((s.wordsDue port due).port port).setIn ≠ set := by rwa [s.wordsDue_keeps port port due PortSt.setIn fun _ _ _ _ => rfl]
    have hseg' : (((s.wordsDue port due).setKept port set).port port).segLen = some n :=
      ((s.wordsDue port due).onPort_keeps PortSt.segLen port port (f := fun q => { q with setIn := set }) fun _ => rfl).trans
        ((s.wordsDue_keeps port port due PortSt.segLen fun _ _ _ _ => rfl).trans hseg)
    have hregs : ((s.wordsDue port due).setKept port set).regs = s.regs := s.wordsDue_regs port due
    obtain ⟨hout, -, -⟩ := State.toLine_within (setRecord set) hseg' hn (by rwa [State.mode_of_regs hregs])
    rw [State.carried_of_regs hregs, State.carried_both _ ha hb] at hout
    rw [exec_orderedSetIngress set due hup, State.setReceived_changed h3 (by omega) hkept,
      State.ingressRecord_line _ ((State.get_of_regs hregs _).trans hloop)]
    refine ⟨_, rfl, hout.trans ?_, ?_, (State.toLine_regs ..).trans hregs, (State.toLine_mem ..).trans (s.wordsDue_mem port due)⟩
    · rw [show ((s.wordsDue port due).setKept port set).sent = s.sent from s.wordsDue_sent port due]
      rfl
    · rw [State.toLine_keeps PortSt.setIn fun _ _ _ _ _ => rfl]
      exact congrArg PortSt.setIn (State.onPort_port (by rwa [State.wordsDue_ports_length]) _)
  case setSame =>
    intro s port set due hup h3 hset hp
    have hkept : ((s.wordsDue port due).port port).setIn = (s.port port).setIn := s.wordsDue_keeps port port due PortSt.setIn fun _ _ _ _ => rfl
    rw [← hkept] at hset
    rw [exec_orderedSetIngress set due hup, State.setReceived_same h3 hset]
    refine ⟨_, rfl, s.wordsDue_sent port due, ?_, s.wordsDue_regs port due, s.wordsDue_mem port due⟩
    exact congrArg PortSt.setIn (State.onPort_port (by rwa [State.wordsDue_ports_length]) _)
  case setIllegal =>
    intro s port set due hup h
    have hviolated := (s.wordsDue port due).clientViolation_holds port (code := 0x0B)
    have hframe := (Frame.ofStream _ (s.wordsDue_offStream port due)).trans (clientViolation_frame (s.wordsDue port due) port 0x0B)
    rw [exec_orderedSetIngress set due hup, State.setReceived_illegal h]
    refine ⟨_, rfl, hviolated.last, hviolated.count.trans (by rw [State.wordsDue_get]), hviolated.raised, ?_, hframe.keeps, hframe.mem⟩
    rw [State.clientViolation_port]
    exact s.wordsDue_keeps port port due PortSt.setIn fun _ _ _ _ => rfl
  case fault =>
    intro s port due n h hloop hseg hn hm ha hb
    have hrepeated : s.repeated port = 1 := by obtain h | h := h <;> simp [State.repeated, h]
    have hsends := orderedSetRepeat_sends due (by rw [hrepeated]; decide) hloop hseg hn hm
    rwa [State.carried_A _ ha hb, hrepeated] at hsends
  case repeats =>
    intro s port due n hup hset hloop hseg hn hm ha hb
    have hrepeated : s.repeated port = (s.port port).setIn := by simp [State.repeated, hup]
    have hsends := orderedSetRepeat_sends due (by rwa [hrepeated]) hloop hseg hn hm
    rwa [State.carried_A _ ha hb, hrepeated] at hsends
  case silent =>
    intro s port due h
    have hrepeated : s.repeated port = 0 := by obtain h | h | ⟨h, hset⟩ := h <;> simp [State.repeated, *]
    exact ⟨_, exec_orderedSetRepeat_none due hrepeated, rfl⟩

end Sys2Proof.Machine
end

section
/-!
SUPPORT. The egress (R174 to R179): a record forwarded to the host ASIC, and the selector's switch.
-/
-- An argument that a tactic fills waits for all declarations before it: elaborated in parallel, such proofs would each hold a thread.
set_option Elab.async false

namespace Sys2Proof.Machine
open Sys2Proof

/-! ### A record forwarded (R175, R176, R180) -/

/-- The counter of frames that find no room is the only word of the CLIENT block that forwarding writes. -/
def forwardWords (p : Nat) : List Nat := [R.CLIENT_ERR p]

/-- A frame for the host ASIC, which ends an ordered set and waits in the egress buffer. -/
def State.egressFilled (s : State) (p : Nat) (bytes : List Byte) (err : Bool) : State :=
  (s.onPort p fun q => { q with setOut := 0 }).onPort p fun q =>
    { q with held := q.held + bytes.length, live := (q.live.modify 4 (·.add 1)).modify 5 (·.add (if err then 1 else 0)) }

/-- A stamped frame is sent after the gap that the buffer's fill gives. -/
def State.egressSent (s : State) (p : Nat) (bytes : List Byte) (err : Bool) : State :=
  (s.stampOut p bytes err).2.send (.clientFrame p (s.stampOut p bytes err).1 err ((s.stampOut p bytes err).2.egressGap p))

theorem State.toHost_eq (s : State) (p : Nat) (bytes : List Byte) (err : Bool) : s.toHost p bytes err =
    if !s.on (F.CLIENT_STATE.EGRESS_DATA p) then s.onPort p fun q => { q with setOut := 0 }
    else if s.egressBytes p < ((s.onPort p fun q => { q with setOut := 0 }).port p).held + bytes.length then
      (s.onPort p fun q => { q with setOut := 0 }).bump (F.CLIENT_ERR.OUT_DROP p)
    else (s.egressFilled p bytes err).egressSent p bytes err := rfl

section
variable (s : State) (p : Nat)

theorem toHost_frame (bytes : List Byte) (err : Bool) : Frame (besideClient (forwardWords p)) s (s.toHost p bytes err) := by
  have h := (Frame.refl (besideClient (forwardWords p)) s).onPort (p := p) (f := fun q => { q with setOut := 0 })
  exact Frame.ite h ((h.set (f := F.CLIENT_ERR.OUT_DROP p) (.inl List.mem_cons_self)).ite
    (h.onPort.trans (Frame.stampOut (Frame.refl _ _) (Nat.le_refl _)).besideClientAbove).send)

theorem forwardToHost_frame (rec : List Byte) : Frame (besideClient (forwardWords p)) s (s.forwardToHost p rec) := by
  have h (f : PortSt → PortSt) := (Frame.refl (besideClient (forwardWords p)) s).onPort (p := p) (f := f)
  unfold State.forwardToHost
  split
  · exact (h _).trans (toHost_frame ..)
  · exact h _
  · exact Frame.refl _ _

theorem forward_frame (bad : Bool) (rec : List Byte) : Frame (besideClient (forwardWords p)) s (s.forward p bad rec) := by
  have htap := Frame.ofStream (besideClient (forwardWords p)) (s.tapped_offStream 2 3 p ⟨[recordWord (withErr bad rec)], false⟩)
  have hback := htap.trans (Frame.ofStream _ (State.toLine_offStream _ p (withErr bad rec)))
  exact Frame.ite (hback.ite htap) ((hback.ite htap).trans (forwardToHost_frame ..))

theorem forwardRest_frame (bad : Bool) (g : Segment) : Frame (besideClient (forwardWords p)) s (s.forwardRest p bad g) :=
  (Frame.refl _ s).foldl fun _ _ _ h => h.trans (forward_frame ..)

end

section
variable {β : Type} (g : PortSt → β) (s : State) (p k : Nat)

theorem State.stampOut_ports (bytes : List Byte) (err : Bool) : (s.stampOut p bytes err).2.ports = s.ports := by
  unfold State.stampOut
  split
  · split
    · dsimp only
      split
      · exact State.bump_ports ..
      · split
        · exact (State.raiseOnce_ports ..).trans (State.bump_ports ..)
        · split
          · exact State.bump_ports ..
          · exact (State.raiseOnce_ports ..).trans ((State.bump_ports ..).trans (State.bump_ports ..))
    · rfl
  · rfl

theorem State.toHost_keeps (hg : ∀ q h l so, g { q with held := h, live := l, setOut := so } = g q) (bytes : List Byte) (err : Bool) :
    g ((s.toHost p bytes err).port k) = g (s.port k) := by
  have hset : g ((s.onPort p fun q => { q with setOut := 0 }).port k) = g (s.port k) := s.onPort_keeps g p k fun q => hg q q.held q.live 0
  rw [State.toHost_eq]
  split_ifs
  · exact hset
  · rwa [State.bump_port]
  · rw [State.egressSent, State.send_port, State.port_of_ports (State.stampOut_ports ..)]
    exact (State.onPort_keeps g _ p k fun q => hg q _ _ q.setOut).trans hset

/-- A record forwarded leaves a port's copies and its selector. -/
theorem State.forward_keeps (hg : ∀ q st m sl sc h l so sp,
    g { q with stream := st, mark := m, segLen := sl, segCarrier := sc, held := h, live := l, setOut := so, spoilOut := sp } = g q)
    (bad : Bool) (rec : List Byte) : g ((s.forward p bad rec).port k) = g (s.port k) := by
  have hline (t : State) (r : List Byte) : g ((t.toLine p r).port k) = g (t.port k) :=
    t.toLine_keeps g (fun q st m sl sc => hg q st m sl sc q.held q.live q.setOut q.spoilOut) p k r
  have hhost (t : State) (r : List Byte) : g ((t.forwardToHost p r).port k) = g (t.port k) := by
    have hupd (f : PortSt → PortSt) (hf : ∀ q, g (f q) = g q) : g ((t.onPort p f).port k) = g (t.port k) := t.onPort_keeps g p k hf
    unfold State.forwardToHost
    split
    · exact (State.toHost_keeps g _ p k (fun q h l so => hg q q.stream q.mark q.segLen q.segCarrier h l so q.spoilOut) _ _).trans
        (hupd _ fun q => hg q q.stream q.mark q.segLen q.segCarrier q.held q.live q.setOut _)
    · exact hupd _ fun q => hg q q.stream q.mark q.segLen q.segCarrier q.held q.live _ q.spoilOut
    · rfl
  simp only [State.forward]
  split_ifs <;> simp only [hline, hhost, State.tapped_port]

theorem State.forwardRest_keeps (hg : ∀ q st m sl sc h l so sp,
    g { q with stream := st, mark := m, segLen := sl, segCarrier := sc, held := h, live := l, setOut := so, spoilOut := sp } = g q)
    (bad : Bool) (seg : Segment) :
    g ((s.forwardRest p bad seg).port k) = g (s.port k) :=
  List.foldlRecOn (motive := fun t => g (State.port t k) = g (s.port k)) _ _ rfl fun t ht rec _ =>
    (t.forward_keeps g p k hg bad rec).trans ht

end

/-! ### The selector's switch (Table 8.6) -/

/-- The words that a switch writes. -/
def switchWords (p : Nat) : List Nat := [R.CLIENT_STATE p, R.CLIENT_PROT_STATUS p, R.CLIENT_EVENT p]

/-- A field of the selector's words apart from what a switch writes: SELECTED, SWITCHES and the port's events. -/
def besideSwitch (p : Nat) (f : Fld) : Bool :=
  clientField (portEventWords p) f && apart f (F.CLIENT_STATE.SELECTED p) && apart f (F.CLIENT_PROT_STATUS.SWITCHES p)

/-- The selection changed, counted and shown. -/
def State.switched (s : State) (p : Nat) (c : Carrier) : State :=
  ((s.set (F.CLIENT_STATE.SELECTED p) (c.idx + 1)).bump (F.CLIENT_PROT_STATUS.SWITCHES p)).clientEvent p 4

/-- Whether the wait to restore runs after a switch. -/
def State.restoreSet (s : State) (p : Nat) (c : Carrier) : State :=
  s.onPort p fun q => { q with wtr := c = .B && s.on (F.CLIENT_CFG.REVERTIVE p) }

/-- What an unaligned switch loses (R179). -/
def State.copiesLost (s : State) (p : Nat) (old : Option Carrier) : State :=
  s.onPort p fun q =>
    { q with resume := true, ending := old, copies := ⟨{ q.copies.A with segs := [] }, { q.copies.B with segs := [] }⟩ }

theorem State.switchTo_eq (s : State) (p : Nat) (c : Carrier) (inside : Bool) : s.switchTo p c inside =
    if s.on (F.CLIENT_STATE.ALIGNED p) then (s.switched p c).restoreSet p c
    else ((s.switched p c).restoreSet p c).copiesLost p (if inside then some c.other else none) := rfl

/-- Past the selection only the port's own state changes: whether it waits to restore, and what an unaligned switch loses. -/
theorem State.switchTo_regs (s : State) (p : Nat) (c : Carrier) (inside : Bool) :
    (s.switchTo p c inside).regs = (s.switched p c).regs := by
  rw [State.switchTo_eq]
  have hwait := State.onPort_regs (s.switched p c) p fun q => { q with wtr := c = .B && (s.switched p c).on (F.CLIENT_CFG.REVERTIVE p) }
  split
  · exact hwait
  · exact (State.onPort_regs ..).trans hwait

theorem switchTo_rest (s : State) (p : Nat) (c : Carrier) (inside : Bool) :
    Frame (fun _ => False) (s.switched p c) (s.switchTo p c inside) := by
  rw [State.switchTo_eq]
  generalize s.switched p c = t
  have h : Frame (fun _ => False) t (t.restoreSet p c) := (Frame.refl _ t).onPort
  exact h.ite h.onPort

section
variable (s : State) (port : Fin 16) (c : Carrier) (inside : Bool)

theorem switched_frame : Frame (· ∈ switchWords port) s (s.switched port c) := by
  have hselected := (Frame.refl (· ∈ switchWords port) s).set (f := F.CLIENT_STATE.SELECTED port) (v := c.idx + 1) List.mem_cons_self
  have hcount := hselected.set (f := F.CLIENT_PROT_STATUS.SWITCHES port) (v := min (F.CLIENT_PROT_STATUS.SWITCHES port).top
    ((s.set (F.CLIENT_STATE.SELECTED port) (c.idx + 1)).get (F.CLIENT_PROT_STATUS.SWITCHES port) + 1)) (List.mem_cons_of_mem _ List.mem_cons_self)
  exact hcount.trans ((clientEvent_frame _ port 4).mono fun _ h => List.mem_cons_of_mem _ (List.mem_cons_of_mem _ h))

theorem switchTo_frame : Frame (· ∈ switchWords port) s (s.switchTo port c inside) :=
  (switched_frame s port c).trans ((switchTo_rest s port c inside).mono nofun)

/-- The selection, the count of switches and the event show a switch. -/
theorem State.switchTo_shows :
    (s.switchTo port c inside).get (F.CLIENT_STATE.SELECTED port) = c.idx + 1 ∧
      (s.switchTo port c inside).get (F.CLIENT_PROT_STATUS.SWITCHES port) =
        min (F.CLIENT_PROT_STATUS.SWITCHES port).top (s.get (F.CLIENT_PROT_STATUS.SWITCHES port) + 1) ∧
      (s.switchTo port c inside).on (portBit 4 port) = true := by
  have hregs := s.switchTo_regs port c inside
  have hevent (t : State) (f : Nat → Fld) (hf : ∀ i : Fin 16, clientField (portEventWords i) (f i) = true) :
      (t.clientEvent port 4).get (f port) = t.get (f port) :=
    ((clientEvent_frame t port 4).besideClient (List.Subset.refl _)).readPort (l := portEventWords) f hf
  rw [State.get_of_regs hregs, State.get_of_regs hregs, State.on_of_get (State.get_of_regs hregs _), State.switched,
    hevent _ F.CLIENT_STATE.SELECTED (by decide), hevent _ F.CLIENT_PROT_STATUS.SWITCHES (by decide)]
  refine ⟨?_, ?_, State.clientEvent_on _ port⟩
  · refine (State.get_setLane _ port F.CLIENT_STATE.SELECTED F.CLIENT_PROT_STATUS.SWITCHES _).trans ?_
    refine (State.get_set_same _ _ _ (Nat.le_of_ble_eq_true rfl) (by decide : 17 < 32)).trans ?_
    cases c <;> rfl
  · rw [State.get_bump_same _ _ 1 (Nat.le_of_ble_eq_true rfl) (by decide : 15 < 32),
      State.get_setLane _ port F.CLIENT_PROT_STATUS.SWITCHES F.CLIENT_STATE.SELECTED]

/-- A switch leaves the fields beside its own. -/
theorem State.switchTo_get (f : Nat → Fld) (hf : ∀ i : Fin 16, besideSwitch i (f i) = true := by decide) :
    (s.switchTo port c inside).get (f port) = s.get (f port) := by
  simp only [besideSwitch, Bool.and_eq_true] at hf
  have hevent (t : State) : (t.clientEvent port 4).get (f port) = t.get (f port) :=
    ((clientEvent_frame t port 4).besideClient (List.Subset.refl _)).readPort (l := portEventWords) f fun i => (hf i).1.1
  rw [State.get_of_regs (s.switchTo_regs port c inside), State.switched, hevent]
  exact (State.get_set_apart _ _ (Nat.le_of_ble_eq_true rfl) (by decide : 15 < 32) (hf port).2).trans
    (s.get_set_apart _ (Nat.le_of_ble_eq_true rfl) (by decide : 17 < 32) (hf port).1.2)

/-- Event bits that are set stay set. -/
theorem State.switchTo_bit {k : Nat} (h : s.on (portBit k port) = true) : (s.switchTo port c inside).on (portBit k port) = true := by
  rw [State.on_of_get (State.get_of_regs (s.switchTo_regs port c inside) _)]
  refine State.clientEvent_keeps _ port ((State.on_of_get ?_).trans h)
  refine (State.get_set_other _ _ ?_).trans (s.get_set_other _ ?_) <;>
  · simp only [R.CLIENT_EVENT, F.CLIENT_PROT_STATUS.SWITCHES, R.CLIENT_PROT_STATUS, F.CLIENT_STATE.SELECTED, R.CLIENT_STATE]
    omega

/-- A switch of aligned copies leaves them; unaligned, it takes their segments. -/
theorem State.switchTo_keeps {β : Type} (g : PortSt → β) (hg : ∀ q w r e a b,
    g { q with wtr := w, resume := r, ending := e, copies := ⟨{ q.copies.A with segs := a }, { q.copies.B with segs := b }⟩ } = g q) (k : Nat) :
    g ((s.switchTo port c inside).port k) = g (s.port k) := by
  have hports : (s.switched port c).port k = s.port k := (State.clientEvent_port ..).trans ((State.bump_port ..).trans (State.set_port ..))
  rw [State.switchTo_eq, ← hports]
  generalize s.switched port c = t
  have hwait : g ((t.restoreSet port c).port k) = g (t.port k) :=
    t.onPort_keeps g port k fun q => hg q _ q.resume q.ending q.copies.A.segs q.copies.B.segs
  split
  · exact hwait
  · exact (State.onPort_keeps g _ port k fun q => hg q q.wtr _ _ _ _).trans hwait

end

/-- The selector keeps what it keeps where it switches. -/
theorem State.select_of {P : State → Prop} {s : State} {p : Nat} {inside : Bool} (hs : P s) (hswitch : ∀ c, P (s.switchTo p c inside)) :
    P (s.select p inside) := by
  simp only [State.select]
  split_ifs
  · exact hswitch _
  · exact hs

end Sys2Proof.Machine
end

section
/-!
O35. The egress and the selector: records from the line (R174 to R176), the copies in PROTECTED (R178, R179, Table 8.6), loops (R180) and
counter snapshots (R182, R319).
-/
-- An argument that a tactic fills waits for all declarations before it: elaborated in parallel, such proofs would each hold a thread.
set_option Elab.async false

namespace Sys2Proof.Machine
open Sys2Proof

/-! ### The selector's choice (Table 8.6) -/

section
variable (s : State) (port : Fin 16) (inside : Bool)

theorem State.select_get (f : Nat → Fld) (hf : ∀ i : Fin 16, besideSwitch i (f i) = true := by decide) :
    (s.select port inside).get (f port) = s.get (f port) :=
  State.select_of (P := fun t => t.get (f port) = s.get (f port)) rfl fun c => s.switchTo_get port c inside f hf

theorem State.select_bit {k : Nat} (h : s.on (portBit k port) = true) : (s.select port inside).on (portBit k port) = true :=
  State.select_of (P := fun t => t.on (portBit k port) = true) h fun c => s.switchTo_bit port c inside h

theorem select_frame : Frame (· ∈ switchWords port) s (s.select port inside) :=
  State.select_of (P := Frame (· ∈ switchWords port) s) (Frame.refl _ s) fun c => switchTo_frame s port c inside

/-- The copies stay in SYNC or in HUNT. -/
theorem State.select_sync (c : Carrier) : ((s.select port inside).copyOf port c).sync = (s.copyOf port c).sync :=
  State.select_of (P := fun t => (State.copyOf t port c).sync = (s.copyOf port c).sync) rfl fun d =>
    s.switchTo_keeps port d inside (fun q => (q.copies.at c).sync) (fun _ _ _ _ _ _ => by cases c <;> rfl) port

/-- A copy that is not good gives way to one that is, unless FORCE_SEL holds it. -/
theorem State.select_bad {s : State} {p : Nat} {inside : Bool} (hfree : s.get (F.CLIENT_CTRL.FORCE_SEL p) = 0)
    (hbad : s.copyGood p (s.selected p) = false) (hgood : s.copyGood p (s.selected p).other = true) :
    s.select p inside = s.switchTo p (s.selected p).other inside := by
  simp [State.select, hfree, hbad, hgood]

/-- Without a good copy to go to, or with FORCE_SEL set, the selector stays. -/
theorem State.select_stays {s : State} {p : Nat} {inside : Bool}
    (h : s.copyGood p (s.selected p).other = false ∨ s.get (F.CLIENT_CTRL.FORCE_SEL p) ≠ 0) : s.select p inside = s := by
  obtain h | h := h <;> simp [State.select, h]

/-- The wait to restore after a switch of aligned copies. -/
theorem State.switchTo_wtr {s : State} {port : Fin 16} (c : Carrier) {inside : Bool} (hal : s.on (F.CLIENT_STATE.ALIGNED port) = true)
    (hp : port < s.ports.length) : ((s.switchTo port c inside).port port).wtr = (c = .B && s.on (F.CLIENT_CFG.REVERTIVE port)) := by
  have hread : (s.switched port c).on (F.CLIENT_CFG.REVERTIVE port) = s.on (F.CLIENT_CFG.REVERTIVE port) :=
    ((switched_frame s port c).besideClient (List.Subset.refl _)).readPortOn (l := switchWords) F.CLIENT_CFG.REVERTIVE
  have hports : (s.switched port c).ports = s.ports := (State.clientEvent_ports ..).trans ((State.bump_ports ..).trans (State.set_ports ..))
  rw [State.switchTo_eq, if_pos hal, ← hread]
  exact congrArg PortSt.wtr (State.onPort_port (by rwa [hports]) _)

end

/-! ### Alignment lost (R178, R179) -/

/-- The words that a loss of alignment writes. -/
def portAlignWords (p : Nat) : List Nat := [R.CLIENT_STATE p, R.CLIENT_EVENT p, R.CLIENT_ERR p]

/-- The segments of a copy are forwarded. -/
def State.copyForwarded (s : State) (p : Nat) (k : CopySt) : State :=
  k.cur.toList.foldl (fun s g => s.forwardRest p false g) (k.segs.foldl (fun s g => s.forwardRest p g.bad g) s)

/-- Segments forwarded are the copies' no more. -/
def State.copiesTaken (s : State) (p : Nat) : State :=
  let s := s.onCopy p (s.selected p) fun k => { k with segs := [], cur := k.cur.map fun g => { g with sent := g.recs.length } }
  s.onCopy p (s.selected p).other fun k => { k with segs := [] }

theorem State.unalign_eq (s : State) (p : Nat) : s.unalign p =
    if s.on (F.CLIENT_STATE.ALIGNED p) then ((s.alignedLost p).copyForwarded p (s.copyOf p (s.selected p))).copiesTaken p else s := rfl

section
variable (s : State) (port : Fin 16)

theorem alignedLost_frame : Frame (besideClient (portAlignWords port)) s (s.alignedLost port) := by
  have hset : Frame (· ∈ portAlignWords port) s (s.set (F.CLIENT_STATE.ALIGNED port) 0) := (Frame.refl _ s).set List.mem_cons_self
  have hevent := hset.trans ((clientEvent_frame (s.set (F.CLIENT_STATE.ALIGNED port) 0) port 5).mono fun _ h =>
    List.mem_cons_of_mem _ (List.mem_singleton.mp h ▸ List.mem_cons_self))
  exact (hevent.ite (Frame.refl _ s)).besideClient (List.Subset.refl _)

theorem State.alignedLost_off : (s.alignedLost port).on (F.CLIENT_STATE.ALIGNED port) = false := by
  by_cases h : s.on (F.CLIENT_STATE.ALIGNED port) = true
  · rw [State.alignedLost, if_pos h,
      ((clientEvent_frame _ port 5).besideClient (List.Subset.refl _)).readPortOn (l := portEventWords) F.CLIENT_STATE.ALIGNED]
    exact s.on_set_zero _ (Nat.le_refl _) (by decide : 9 < 32)
  · rw [State.alignedLost, if_neg h]
    exact Bool.eq_false_of_not_eq_true h

theorem copyForwarded_frame (k : CopySt) : Frame (besideClient (forwardWords port)) s (s.copyForwarded port k) :=
  ((Frame.refl _ s).foldl fun _ _ _ h => h.trans (forwardRest_frame ..)).foldl fun _ _ _ h => h.trans (forwardRest_frame ..)

theorem copiesTaken_frame : Frame (besideClient (forwardWords port)) s (s.copiesTaken port) := (Frame.refl _ s).onPort.onPort

theorem unalign_frame : Frame (besideClient (portAlignWords port)) s (s.unalign port) := by
  have hrest := (copyForwarded_frame (s.alignedLost port) port (s.copyOf port (s.selected port))).trans (copiesTaken_frame _ port)
  rw [State.unalign_eq]
  exact ((alignedLost_frame s port).trans (hrest.besideClientMono fun _ h =>
    List.mem_cons_of_mem _ (List.mem_cons_of_mem _ h))).ite (Frame.refl _ s)

/-- The copies are aligned no more. -/
theorem State.unalign_off : (s.unalign port).on (F.CLIENT_STATE.ALIGNED port) = false := by
  by_cases h : s.on (F.CLIENT_STATE.ALIGNED port) = true
  · have hrest := (copyForwarded_frame (s.alignedLost port) port (s.copyOf port (s.selected port))).trans (copiesTaken_frame _ port)
    rw [State.unalign_eq, if_pos h, hrest.readPortOn (l := forwardWords) F.CLIENT_STATE.ALIGNED]
    exact s.alignedLost_off port
  · rw [State.unalign_eq, if_neg h]
    exact Bool.eq_false_of_not_eq_true h

end

/-! ### HUNT (R174) -/

/-- A copy in HUNT: the segment in progress is bad. -/
def State.huntBegun (s : State) (p : Nat) (c : Carrier) : State :=
  s.onCopy p c fun k => { k with sync := false, found := 0, cur := k.cur.map (fun g => { g with bad := true }) }

/-- HUNT shown, and the record in progress over. -/
def State.huntShown (s : State) (p : Nat) (c : Carrier) : State :=
  ((s.setB (goodBit p c) false).clientEvent p 7).onPort p fun q => { q with ending := if q.ending = some c then none else q.ending }

theorem State.toHunt_eq (s : State) (p : Nat) (c : Carrier) : s.toHunt p c =
    (let u := ((if s.mode = 2 then s.unalign p else s).huntBegun p c).huntShown p c
     if u.mode = 2 && u.selected p = c then u.select p false else u) := rfl

section
variable (s : State) (port : Fin 16) (c : Carrier)

theorem goodBit_beside (i : Fin 16) : besideSwitch i (goodBit i c) = true := by
  revert i
  cases c <;> decide

theorem huntShown_frame : Frame (· ∈ [R.CLIENT_EVENT port, R.CLIENT_PROT_STATUS port]) s (s.huntShown port c) := by
  have hgood : (goodBit port c).addr ∈ [R.CLIENT_EVENT port, R.CLIENT_PROT_STATUS port] := by
    cases c <;> exact List.mem_cons_of_mem _ List.mem_cons_self
  have hset : Frame (· ∈ [R.CLIENT_EVENT port, R.CLIENT_PROT_STATUS port]) s (s.setB (goodBit port c) false) := (Frame.refl _ s).set hgood
  exact (hset.trans ((clientEvent_frame (s.setB (goodBit port c) false) port 7).mono fun _ h =>
    List.mem_singleton.mp h ▸ List.mem_cons_self)).onPort

/-- A copy that is not of the ports of the part shows HUNT too. -/
theorem State.huntBegun_sync : ((s.huntBegun port c).copyOf port c).sync = false := by
  by_cases hp : port < s.ports.length
  · rw [State.copyOf, State.huntBegun, State.onCopy, State.onPort_port hp]
    cases c <;> rfl
  · have hlen : (s.huntBegun port c).ports.length = s.ports.length := List.length_modify ..
    have hport : (s.huntBegun port c).port port = {} := List.getD_eq_default _ _ (by omega)
    rw [State.copyOf, hport]
    cases c <;> rfl

/-- A copy's HUNT: no SYNC, a bad copy and the event. -/
def State.copyHunts (t : State) : Prop :=
  (t.copyOf port c).sync = false ∧ t.on (goodBit port c) = false ∧ t.on (portBit 7 port) = true

theorem State.huntShown_hunts : ((s.huntBegun port c).huntShown port c).copyHunts port c := by
  have hsync := s.huntBegun_sync port c
  generalize s.huntBegun port c = u at *
  refine ⟨?_, ?_, (State.onPort_on ..).trans (State.clientEvent_on _ port)⟩
  · have hkept : (((u.huntShown port c).port port).copies.at c).sync = ((u.port port).copies.at c).sync :=
      (((u.setB (goodBit port c) false).clientEvent port 7).onPort_keeps (fun q => (q.copies.at c).sync) port port
        (f := fun q => { q with ending := if q.ending = some c then none else q.ending }) fun _ => rfl).trans
        (congrArg (fun q : PortSt => (q.copies.at c).sync) ((State.clientEvent_port ..).trans (State.setB_port ..)))
    exact hkept.trans hsync
  · have hshown : (u.huntShown port c).on (goodBit port c) = (u.setB (goodBit port c) false).on (goodBit port c) :=
      (State.onPort_on ..).trans (((clientEvent_frame (u.setB (goodBit port c) false) port 7).besideClient (List.Subset.refl _)).readPortOn
        (l := portEventWords) (fun p => goodBit p c) (by cases c <;> decide))
    exact hshown.trans (State.on_setB_same _ _ _ (by cases c <;> rfl) (by cases c <;> exact Nat.le_of_ble_eq_true rfl))

theorem State.toHunt_hunts : (s.toHunt port c).copyHunts port c := by
  rw [State.toHunt_eq]
  have h := (if s.mode = 2 then s.unalign port else s).huntShown_hunts port c
  generalize ((if s.mode = 2 then s.unalign port else s).huntBegun port c).huntShown port c = u at *
  obtain ⟨hsync, hgood, hraised⟩ := h
  dsimp only
  split
  · exact ⟨(u.select_sync port false c).trans hsync,
      (State.on_of_get (u.select_get port false (fun p => goodBit p c) (goodBit_beside c))).trans hgood, u.select_bit port false hraised⟩
  · exact ⟨hsync, hgood, hraised⟩

/-- Outside PROTECTED a copy that goes to HUNT touches no other. -/
theorem State.toHunt_plain {s : State} (h : s.mode ≠ 2) : s.toHunt port c = (s.huntBegun port c).huntShown port c := by
  have hmode : ((s.huntBegun port c).huntShown port c).mode = s.mode :=
    ((huntShown_frame (s.huntBegun port c) port c).besideClient (List.Subset.refl _)).readPort
      (l := fun p => [R.CLIENT_EVENT p, R.CLIENT_PROT_STATUS p]) fun _ => F.GLOBAL_MODE.MODE
  simp [State.toHunt_eq, h, hmode]

/-- In PROTECTED the copies are aligned no more. -/
theorem State.toHunt_protected {s : State} (h : s.mode = 2) :
    (s.toHunt port c).on (F.CLIENT_STATE.ALIGNED port) = false ∧ (s.toHunt port c).mem = s.mem := by
  rw [State.toHunt_eq, if_pos h]
  have hframe := huntShown_frame ((s.unalign port).huntBegun port c) port c
  have halign : (((s.unalign port).huntBegun port c).huntShown port c).on (F.CLIENT_STATE.ALIGNED port) = false :=
    ((hframe.besideClient (List.Subset.refl _)).readPortOn (l := fun p => [R.CLIENT_EVENT p, R.CLIENT_PROT_STATUS p])
      F.CLIENT_STATE.ALIGNED).trans (s.unalign_off port)
  have hmem := hframe.mem.trans (unalign_frame s port).mem
  generalize ((s.unalign port).huntBegun port c).huntShown port c = u at *
  dsimp only
  split
  · exact ⟨(State.on_of_get (u.select_get port false F.CLIENT_STATE.ALIGNED)).trans halign, (select_frame u port false).mem.trans hmem⟩
  · exact ⟨halign, hmem⟩

end

end Sys2Proof.Machine
end

section
/-!
O35. Records from the line (R174 to R176), the selector's segments and commands (R178, Table 8.6), loops (R180) and counter snapshots (R182).
-/
-- An argument that a tactic fills waits for all declarations before it: elaborated in parallel, such proofs would each hold a thread.
set_option Elab.async false

namespace Sys2Proof.Machine
open Sys2Proof

/-! ### Frames that leave the egress buffer first (R175) -/

section
variable (s : State) (p : Nat) (n : Nat)

theorem State.egressDrain_copyOf (c : Carrier) : (s.egressDrain p n).copyOf p c = s.copyOf p c :=
  s.onPort_keeps (fun q => q.copies.at c) p p fun _ => rfl

theorem State.egressDrain_ports_length : (s.egressDrain p n).ports.length = s.ports.length := List.length_modify ..

theorem State.egressDrain_mode : (s.egressDrain p n).mode = s.mode := s.egressDrain_get p n _

end

theorem exec_recordReceived {s : State} {port : Fin 16} {c : Carrier} (record : List Byte) (errored : Bool) (drained : Nat)
    (h : s.portOn port c = true) : exec (.recordReceived port c record errored drained) s =
      .next ((s.egressDrain port drained).recordReceived port c record errored) := congrArg Host.Outcome.next (if_pos h)

/-! ### Records in SYNC (R174, R175) -/

section
variable {s : State} {p : Nat} {c : Carrier}

theorem State.recordReceived_good {rec : List Byte} (errored : Bool) (h : (s.copyOf p c).sync = true) (hgood : hecGood rec = true) :
    s.recordReceived p c rec errored = s.recordIn p c rec errored := by
  simp [State.recordReceived, h, hgood]

theorem State.recordReceived_bad {rec : List Byte} (errored : Bool) (h : (s.copyOf p c).sync = true) (hgood : hecGood rec = false) :
    s.recordReceived p c rec errored = s.toHunt p c := by
  simp [State.recordReceived, h, hgood]

/-- Outside JOINT and PROTECTED a frame is forwarded, whatever its segment keeps of it. -/
theorem State.recordIn_frame {rec : List Byte} (errored : Bool) (hending : (s.port p).ending ≠ some c) (hmode : s.mode ≠ 1 ∧ s.mode ≠ 2)
    (hkind : (headerFields rec).1 = 0) :
    ∃ f : CopySt → CopySt, s.recordIn p c rec errored = (s.onCopy p c f).forward p errored rec := by
  have hended : s.endedRecord p c rec = s := if_neg hending
  have hmodes (f : CopySt → CopySt) : (s.onCopy p c f).mode = s.mode := rfl
  simp only [State.recordIn, hended, hkind, hmodes, hmode, if_false, OfNat.zero_ne_ofNat]
  exact ⟨_, rfl⟩

end

/-- What the forwarding of a frame starts from: Gleaner's tap taken, and the frame's place among those spoilt. -/
def State.frameTapped (s : State) (p : Nat) (rec : List Byte) : State :=
  (s.tapped 2 3 p ⟨[recordWord rec], false⟩).onPort p fun q => { q with spoilOut := q.spoilOut - 1 }

/-- A whole frame record goes to the host ASIC as it was. -/
theorem State.forward_frameRecord {s : State} {p : Nat} {bytes : List Byte} (hlen : bytes.length < 2 ^ 14)
    (hloop : s.get (F.CLIENT_CTRL.LOOP p) = 0) (hspoil : (s.port p).spoilOut = 0) :
    s.forward p false (frameRecord bytes false) = (s.frameTapped p (frameRecord bytes false)).toHost p bytes false := by
  simp [State.forward, withErr_frame false hlen, hloop, State.forwardToHost, headerFields_frame false hlen, hspoil, frameRecord_slice,
    State.frameTapped]

/-- A frame that finds room in the egress buffer waits there and is sent, without PTP corrections as it was. -/
theorem State.toHost_room {s : State} {p : Nat} {bytes : List Byte} (hdata : s.on (F.CLIENT_STATE.EGRESS_DATA p) = true)
    (hroom : (s.port p).held + bytes.length ≤ s.egressBytes p) (htc : s.on (F.TIME_PORT_CTRL.TC_EN p) = false) :
    s.toHost p bytes false =
      (s.egressFilled p bytes false).send (.clientFrame p bytes false ((s.egressFilled p bytes false).egressGap p)) := by
  have hheld : ((s.onPort p fun q => { q with setOut := 0 }).port p).held = (s.port p).held := s.onPort_keeps PortSt.held p p fun _ => rfl
  have hstamp : (s.egressFilled p bytes false).stampOut p bytes false = (bytes, s.egressFilled p bytes false) := by
    have hon : (s.egressFilled p bytes false).on (F.TIME_PORT_CTRL.TC_EN p) = false := htc
    simp [State.stampOut, hon]
  rw [State.toHost_eq, hdata, hheld, if_neg (by decide), if_neg (Nat.not_lt.mpr hroom), State.egressSent, hstamp]

/-- The frame's bytes are held, and an ordered set ends. -/
theorem State.egressFilled_port {s : State} {p : Nat} (h : p < s.ports.length) (bytes : List Byte) (err : Bool) :
    ((s.egressFilled p bytes err).port p).held = (s.port p).held + bytes.length ∧ ((s.egressFilled p bytes err).port p).setOut = 0 := by
  have hlen : (s.onPort p fun q => { q with setOut := 0 }).ports.length = s.ports.length := List.length_modify ..
  rw [State.egressFilled, State.onPort_port (by rwa [hlen]), State.onPort_port h]
  exact ⟨rfl, rfl⟩

theorem State.egressFilled_fields (s : State) (p : Nat) (bytes : List Byte) (err : Bool) :
    (s.egressFilled p bytes err).regs = s.regs ∧ (s.egressFilled p bytes err).mem = s.mem ∧ (s.egressFilled p bytes err).sent = s.sent :=
  ⟨rfl, rfl, rfl⟩

theorem State.frameTapped_fields (s : State) (p : Nat) (rec : List Byte) :
    (s.frameTapped p rec).regs = s.regs ∧ (s.frameTapped p rec).mem = s.mem ∧ (s.frameTapped p rec).sent = s.sent ∧
      (s.frameTapped p rec).ports.length = s.ports.length ∧ ((s.frameTapped p rec).port p).held = (s.port p).held := by
  have hheld := (s.tapped 2 3 p ⟨[recordWord rec], false⟩).onPort_keeps PortSt.held p p
    (f := fun q => { q with spoilOut := q.spoilOut - 1 }) fun _ => rfl
  refine ⟨s.tapped_regs .., s.tapped_mem .., s.tapped_sent .., ?_, hheld.trans (congrArg PortSt.held (s.tapped_port ..))⟩
  exact (List.length_modify ..).trans (congrArg List.length (s.tapped_ports ..))

/-- What a frame in SYNC leaves: it is sent after the buffer's gap, and its bytes are held. -/
theorem forward_sends {s : State} {p : Nat} {bytes : List Byte} (hlen : bytes.length < 2 ^ 14) (hloop : s.get (F.CLIENT_CTRL.LOOP p) = 0)
    (hspoil : (s.port p).spoilOut = 0) (hdata : s.on (F.CLIENT_STATE.EGRESS_DATA p) = true)
    (hroom : (s.port p).held + bytes.length ≤ s.egressBytes p) (htc : s.on (F.TIME_PORT_CTRL.TC_EN p) = false) (hp : p < s.ports.length) :
    (s.forward p false (frameRecord bytes false)).sent =
        .clientFrame p bytes false ((s.forward p false (frameRecord bytes false)).egressGap p) :: s.sent ∧
      ((s.forward p false (frameRecord bytes false)).port p).held = (s.port p).held + bytes.length ∧
      ((s.forward p false (frameRecord bytes false)).port p).setOut = 0 ∧
      (s.forward p false (frameRecord bytes false)).regs = s.regs ∧ (s.forward p false (frameRecord bytes false)).mem = s.mem := by
  obtain ⟨hregs, hmem, hsent, hports, hheld⟩ := s.frameTapped_fields p (frameRecord bytes false)
  rw [State.forward_frameRecord hlen hloop hspoil]
  generalize s.frameTapped p (frameRecord bytes false) = t at *
  have hbytes : t.egressBytes p = s.egressBytes p := congrArg (8192 * ·) (State.get_of_regs hregs _)
  rw [State.toHost_room ((State.on_of_get (State.get_of_regs hregs _)).trans hdata) (by rwa [hheld, hbytes])
    ((State.on_of_get (State.get_of_regs hregs _)).trans htc)]
  obtain ⟨hfill, hset⟩ := State.egressFilled_port (hports ▸ hp) bytes false
  obtain ⟨hfregs, hfmem, hfsent⟩ := t.egressFilled_fields p bytes false
  generalize t.egressFilled p bytes false = u at *
  refine ⟨?_, hfill.trans (by rw [hheld]), hset, hfregs.trans hregs, hfmem.trans hmem⟩
  rw [← hsent, ← hfsent]
  rfl

/-- A frame in SYNC goes to the host ASIC as it was, and its segment leaves it alone. -/
theorem recordIn_sends {s : State} {p : Nat} {c : Carrier} {bytes : List Byte} (hmode : s.mode ≠ 1 ∧ s.mode ≠ 2)
    (hending : (s.port p).ending ≠ some c) (hspoil : (s.port p).spoilOut = 0) (hlen : bytes.length < 2 ^ 14)
    (hdata : s.on (F.CLIENT_STATE.EGRESS_DATA p) = true) (hroom : (s.port p).held + bytes.length ≤ s.egressBytes p)
    (hloop : s.get (F.CLIENT_CTRL.LOOP p) = 0) (htc : s.on (F.TIME_PORT_CTRL.TC_EN p) = false) (hp : p < s.ports.length) :
    ∃ t, s.recordIn p c (frameRecord bytes false) false = t ∧ t.sent = .clientFrame p bytes false (t.egressGap p) :: s.sent ∧
      (t.port p).held = (s.port p).held + bytes.length ∧ (t.port p).setOut = 0 ∧ t.regs = s.regs ∧ t.mem = s.mem := by
  obtain ⟨f, hforward⟩ := State.recordIn_frame (rec := frameRecord bytes false) false hending hmode (by rw [headerFields_frame false hlen])
  have hkept : (((s.onCopy p c f).port p).spoilOut, ((s.onCopy p c f).port p).held) = ((s.port p).spoilOut, (s.port p).held) :=
    s.onPort_keeps (fun q => (q.spoilOut, q.held)) p p (f := fun q => { q with copies := q.copies.upd c f }) fun _ => rfl
  obtain ⟨hspoiled, hheld⟩ := Prod.mk.inj hkept
  have hports : (s.onCopy p c f).ports.length = s.ports.length := List.length_modify ..
  obtain ⟨hsent, hfill, hset, hregs, hmem⟩ := forward_sends (s := s.onCopy p c f) hlen hloop (hspoiled.trans hspoil) hdata
    (by rw [hheld]; exact hroom) htc (hports ▸ hp)
  exact ⟨_, hforward, hsent, hfill.trans (by rw [hheld]), hset, hregs, hmem⟩

/-! ### Records in HUNT (R174) -/

section
variable {s : State} {p : Nat} {c : Carrier}

theorem State.onCopy_copyOf (h : p < s.ports.length) (f : CopySt → CopySt) : (s.onCopy p c f).copyOf p c = f (s.copyOf p c) := by
  rw [State.copyOf, State.onCopy, State.onPort_port h]
  cases c <;> rfl

/-- A first good header is counted, and a bad one starts anew. -/
theorem State.recordReceived_hunt {rec : List Byte} (errored : Bool) (h : (s.copyOf p c).sync = false)
    (hfound : (s.copyOf p c).found = 0 ∨ hecGood rec = false) :
    s.recordReceived p c rec errored = s.onCopy p c fun k => { k with found := if hecGood rec then 1 else 0 } := by
  cases hgood : hecGood rec
  · simp [State.recordReceived, h, hgood]
  · have hzero : (s.copyOf p c).found = 0 := hfound.resolve_right (by simp [hgood])
    simp [State.recordReceived, h, hgood, hzero]

/-- A FILL header after a good one gives SYNC, and the record that a switch left in progress is over. -/
theorem State.recordReceived_fill (errored : Bool) (h : (s.copyOf p c).sync = false) (hfound : (s.copyOf p c).found ≠ 0) :
    s.recordReceived p c fillRecord errored = s.onCopy p c (fun k => { k with sync := true, found := 0 }) ∨
      s.recordReceived p c fillRecord errored =
        (s.onCopy p c (fun k => { k with sync := true, found := 0 })).onPort p fun q => { q with ending := none } := by
  simp only [State.recordReceived, h, hecGood_fill, hfound, State.recordIn, State.endedRecord, headerFields_fill, Bool.not_true,
    Bool.false_eq_true, if_false, if_true, OfNat.ofNat_ne_zero]
  split_ifs
  · exact .inr rfl
  · exact .inl rfl

end

end Sys2Proof.Machine
end

section
/-!
O35. A segment complete in both copies (R178), the selector's commands (Table 8.6), counter snapshots (R182, R319), and the statement.
-/
-- An argument that a tactic fills waits for all declarations before it: elaborated in parallel, such proofs would each hold a thread.
set_option Elab.async false

namespace Sys2Proof.Machine
open Sys2Proof

/-! ### A segment complete in both copies (R178) -/

/-- Copies of one segment each belong together where their MARK is the same. -/
theorem pairOf_single (aligned : Bool) {x y : Segment} (h : x.mark = y.mark) : pairOf aligned [x] [y] = some ((x, []), (y, [])) := by
  cases aligned <;> simp [pairOf, h]

/-- The differential delay shown, after the frames that left the buffer. -/
def State.delayShown (s : State) (p delayNs drained : Nat) : State :=
  (s.egressDrain p drained).setSat (F.CLIENT_PROT_STATUS.DIFF_DELAY p) (roundHalfDown delayNs 1000).toNat

/-- The copies aligned, their good bits shown. -/
def State.goodShown (s : State) (p : Nat) (a b : Bool) : State :=
  ((s.set (F.CLIENT_STATE.ALIGNED p) 1).setB (F.CLIENT_PROT_STATUS.A_GOOD p) a).setB (F.CLIENT_PROT_STATUS.B_GOOD p) b

/-- Complete segments are the copies' no more. -/
def State.segmentsTaken (s : State) (p : Nat) : State :=
  s.onPort p fun q =>
    { q with resume := false, ending := none, copies := ⟨{ q.copies.A with segs := [] }, { q.copies.B with segs := [] }⟩ }

theorem exec_segmentComplete {s : State} {port : Fin 16} (delayNs drained : Nat) (hmode : s.mode = 2) (hused : s.portUsed port = true) :
    exec (.segmentComplete port delayNs drained) s = .next ((s.egressDrain port drained).segmentComplete port delayNs) :=
  congrArg Host.Outcome.next (if_pos (by rw [hmode, hused]; decide))

/-- The words of the selector's state. -/
def selectorWords (p : Nat) : List Nat := [R.CLIENT_STATE p, R.CLIENT_PROT_STATUS p]

section
variable (s : State) (port : Fin 16) (delayNs drained : Nat)

/-- Beyond the buffer's delay the copies are aligned no more. -/
theorem State.segmentComplete_late (h : bufferDelayNs < delayNs) : ∃ f : PortSt → PortSt,
    (s.egressDrain port drained).segmentComplete port delayNs = ((s.delayShown port delayNs drained).unalign port).onPort port f := by
  unfold State.segmentComplete State.delayShown
  rw [if_pos (.inl h)]
  exact ⟨_, rfl⟩

theorem delayShown_frame : Frame (· ∈ selectorWords port) s (s.delayShown port delayNs drained) := by
  have hdrain : Frame (· ∈ selectorWords port) s (s.egressDrain port drained) := (Frame.refl _ s).onPort
  exact hdrain.set (List.mem_cons_of_mem _ List.mem_cons_self)

theorem State.delayShown_get : (s.delayShown port delayNs drained).get (F.CLIENT_PROT_STATUS.DIFF_DELAY port) =
    min (F.CLIENT_PROT_STATUS.DIFF_DELAY port).top (roundHalfDown delayNs 1000).toNat :=
  State.get_setSat_same _ _ _ (Nat.le_of_ble_eq_true rfl) (by decide : 31 < 32)

theorem State.delayShown_beside (f : Nat → Fld) (hf : ∀ i : Fin 16, (apart (f i) (F.CLIENT_PROT_STATUS.DIFF_DELAY i) &&
    decide ((F.CLIENT_PROT_STATUS.DIFF_DELAY i).lo ≤ (F.CLIENT_PROT_STATUS.DIFF_DELAY i).hi ∧
      (F.CLIENT_PROT_STATUS.DIFF_DELAY i).hi < 32)) = true := by decide) :
    (s.delayShown port delayNs drained).get (f port) = s.get (f port) :=
  (State.get_setLane _ port f F.CLIENT_PROT_STATUS.DIFF_DELAY _ hf).trans (State.egressDrain_get ..)

theorem State.delayShown_copyOf (c : Carrier) : (s.delayShown port delayNs drained).copyOf port c = s.copyOf port c :=
  (congrArg (fun q : PortSt => q.copies.at c) (State.setSat_port ..)).trans (s.egressDrain_copyOf port drained c)

theorem State.delayShown_ports_length : (s.delayShown port delayNs drained).ports.length = s.ports.length :=
  (congrArg List.length (State.setSat_ports ..)).trans (s.egressDrain_ports_length port drained)

end

/-- A segment complete in both copies: they are aligned, the selector works, and the segment is forwarded. -/
theorem State.segmentComplete_pair {s : State} {port : Fin 16} {delayNs drained : Nat} {x y : Segment} (hdelay : delayNs ≤ bufferDelayNs)
    (hsync : (s.copyOf port .A).sync = true ∧ (s.copyOf port .B).sync = true) (hA : (s.copyOf port .A).segs = [x])
    (hB : (s.copyOf port .B).segs = [y]) (hmark : x.mark = y.mark) : ∃ bad g,
    (s.egressDrain port drained).segmentComplete port delayNs =
      ((((s.delayShown port delayNs drained).goodShown port (!x.bad) (!y.bad)).select port false).segmentsTaken port).forwardRest port bad g := by
  have hcopy := s.delayShown_copyOf port delayNs drained
  unfold State.delayShown at hcopy
  simp only [State.segmentComplete, hcopy, hsync, hA, hB, pairOf_single _ hmark, Nat.not_lt.mpr hdelay, Bool.not_true, Bool.false_eq_true,
    false_or, if_false]
  exact ⟨_, _, rfl⟩

section
variable (s : State) (port : Fin 16) (a b : Bool)

theorem goodShown_frame : Frame (· ∈ selectorWords port) s (s.goodShown port a b) := by
  have haligned : Frame (· ∈ selectorWords port) s (s.set (F.CLIENT_STATE.ALIGNED port) 1) := (Frame.refl _ s).set List.mem_cons_self
  have ha := haligned.set (f := F.CLIENT_PROT_STATUS.A_GOOD port) (v := if a then 1 else 0) (List.mem_cons_of_mem _ List.mem_cons_self)
  exact ha.set (f := F.CLIENT_PROT_STATUS.B_GOOD port) (v := if b then 1 else 0) (List.mem_cons_of_mem _ List.mem_cons_self)

/-- The good bits and ALIGNED are shown as they are. -/
theorem State.goodShown_shows : (s.goodShown port a b).on (F.CLIENT_STATE.ALIGNED port) = true ∧
    (s.goodShown port a b).on (F.CLIENT_PROT_STATUS.A_GOOD port) = a ∧ (s.goodShown port a b).on (F.CLIENT_PROT_STATUS.B_GOOD port) = b := by
  have hsecond (t : State) (f : Nat → Fld)
      (hf : ∀ i : Fin 16, (apart (f i) (F.CLIENT_PROT_STATUS.B_GOOD i) && decide ((F.CLIENT_PROT_STATUS.B_GOOD i).lo ≤
        (F.CLIENT_PROT_STATUS.B_GOOD i).hi ∧ (F.CLIENT_PROT_STATUS.B_GOOD i).hi < 32)) = true) :
      (t.setB (F.CLIENT_PROT_STATUS.B_GOOD port) b).on (f port) = t.on (f port) :=
    State.on_of_get (t.get_setLane port f F.CLIENT_PROT_STATUS.B_GOOD _ hf)
  refine ⟨?_, ?_, State.on_setB_same _ _ b rfl (by decide : 1 < 32)⟩
  · refine (hsecond _ F.CLIENT_STATE.ALIGNED (by decide)).trans ((State.on_of_get (State.get_setLane _ port F.CLIENT_STATE.ALIGNED
      F.CLIENT_PROT_STATUS.A_GOOD _)).trans (s.on_setB_same _ true rfl (by decide : 9 < 32)))
  · exact (hsecond _ F.CLIENT_PROT_STATUS.A_GOOD (by decide)).trans (State.on_setB_same _ _ a rfl (by decide : 0 < 32))

theorem State.goodShown_ports : (s.goodShown port a b).ports = s.ports :=
  (State.setB_ports ..).trans ((State.setB_ports ..).trans (State.set_ports ..))

/-- The selection and its count stay until the selector works. -/
theorem State.goodShown_selector : (s.goodShown port a b).get (F.CLIENT_STATE.SELECTED port) = s.get (F.CLIENT_STATE.SELECTED port) ∧
    (s.goodShown port a b).get (F.CLIENT_PROT_STATUS.SWITCHES port) = s.get (F.CLIENT_PROT_STATUS.SWITCHES port) :=
  ⟨(State.get_setLane _ port F.CLIENT_STATE.SELECTED F.CLIENT_PROT_STATUS.B_GOOD _).trans
      ((State.get_setLane _ port F.CLIENT_STATE.SELECTED F.CLIENT_PROT_STATUS.A_GOOD _).trans
        (s.get_setLane port F.CLIENT_STATE.SELECTED F.CLIENT_STATE.ALIGNED 1)),
    (State.get_setLane _ port F.CLIENT_PROT_STATUS.SWITCHES F.CLIENT_PROT_STATUS.B_GOOD _).trans
      ((State.get_setLane _ port F.CLIENT_PROT_STATUS.SWITCHES F.CLIENT_PROT_STATUS.A_GOOD _).trans
        (s.get_setLane port F.CLIENT_PROT_STATUS.SWITCHES F.CLIENT_STATE.ALIGNED 1))⟩

end

/-- What the selector meets when a segment is complete in both copies. -/
structure State.SegmentJudged (s t : State) (port : Fin 16) (a b : Bool) : Prop where
  aligned : t.on (F.CLIENT_STATE.ALIGNED port) = true
  goodA : t.on (F.CLIENT_PROT_STATUS.A_GOOD port) = a
  goodB : t.on (F.CLIENT_PROT_STATUS.B_GOOD port) = b
  selected : t.get (F.CLIENT_STATE.SELECTED port) = s.get (F.CLIENT_STATE.SELECTED port)
  switches : t.get (F.CLIENT_PROT_STATUS.SWITCHES port) = s.get (F.CLIENT_PROT_STATUS.SWITCHES port)
  frame : Frame (· ∈ selectorWords port) s t
  ports : t.ports.length = s.ports.length

theorem State.segmentJudged_holds (s : State) (port : Fin 16) (delayNs drained : Nat) (a b : Bool) :
    s.SegmentJudged ((s.delayShown port delayNs drained).goodShown port a b) port a b := by
  obtain ⟨haligned, hgoodA, hgoodB⟩ := (s.delayShown port delayNs drained).goodShown_shows port a b
  obtain ⟨hselected, hswitches⟩ := (s.delayShown port delayNs drained).goodShown_selector port a b
  exact { aligned := haligned, goodA := hgoodA, goodB := hgoodB
          selected := hselected.trans (s.delayShown_beside port delayNs drained F.CLIENT_STATE.SELECTED)
          switches := hswitches.trans (s.delayShown_beside port delayNs drained F.CLIENT_PROT_STATUS.SWITCHES)
          frame := (delayShown_frame s port delayNs drained).trans (goodShown_frame _ port a b)
          ports := (congrArg List.length (State.goodShown_ports ..)).trans (s.delayShown_ports_length port delayNs drained) }

section
variable {s t : State} {port : Fin 16} {a b : Bool}

theorem State.SegmentJudged.selector (h : s.SegmentJudged t port a b) : t.selected port = s.selected port := by
  simp only [State.selected, h.selected]

theorem State.SegmentJudged.get (h : s.SegmentJudged t port a b) (f : Nat → Fld)
    (hf : ∀ i : Fin 16, clientField (selectorWords i) (f i) = true := by decide) : t.get (f port) = s.get (f port) :=
  (h.frame.besideClient (List.Subset.refl _)).readPort (l := selectorWords) f hf

theorem State.SegmentJudged.inTraffic (h : s.SegmentJudged t port a b) (c : Carrier) : t.inTraffic c = s.inTraffic c := by
  have hstate : t.get (F.LINK_STATE.STATE c) = s.get (F.LINK_STATE.STATE c) :=
    h.get (fun _ => F.LINK_STATE.STATE c) (by cases c <;> decide)
  exact congrArg (fun n => decide (n = 4)) hstate

/-- With both segments bad, or FORCE_SEL set, the selector stays. -/
theorem State.SegmentJudged.stays (h : s.SegmentJudged t port a b)
    (hcase : (a = false ∧ b = false) ∨ s.get (F.CLIENT_CTRL.FORCE_SEL port) ≠ 0) : t.select port false = t := by
  refine State.select_stays (hcase.imp (fun hbad => ?_) fun hforce => by rwa [h.get F.CLIENT_CTRL.FORCE_SEL])
  have hgood (c : Carrier) : t.on (goodBit port c) = false := by
    cases c
    · exact h.goodA.trans hbad.1
    · exact h.goodB.trans hbad.2
  rw [State.copyGood, hgood, Bool.false_and]

/-- From a bad A the selector goes to a good B. -/
theorem State.SegmentJudged.switches_to_B (h : s.SegmentJudged t port false true) (hsel : s.selected port = .A)
    (htraffic : s.inTraffic .B = true) (hfree : s.get (F.CLIENT_CTRL.FORCE_SEL port) = 0) : t.select port false = t.switchTo port .B false := by
  have hA : t.on (goodBit port .A) = false := h.goodA
  have hB : t.on (goodBit port .B) = true := h.goodB
  have hsel' : t.selected port = .A := h.selector.trans hsel
  have hswitch := State.select_bad (s := t) (p := port) (inside := false) ((h.get F.CLIENT_CTRL.FORCE_SEL).trans hfree)
    (by rw [hsel', State.copyGood, hA, Bool.false_and])
    (by rw [hsel', Carrier.other, State.copyGood, hB, h.inTraffic, htraffic]; rfl)
  rwa [hsel'] at hswitch

end

/-! ### The segment forwarded -/

section
variable (u : State) (port : Fin 16) (bad : Bool) (g : Segment)

theorem segmentForwarded_frame : Frame (besideClient (forwardWords port)) u ((u.segmentsTaken port).forwardRest port bad g) := by
  have htaken : Frame (besideClient (forwardWords port)) u (u.segmentsTaken port) := (Frame.refl _ u).onPort
  exact htaken.trans (forwardRest_frame _ port bad g)

/-- Forwarding writes no selector word. -/
theorem State.segmentForwarded_get (f : Nat → Fld) (hf : ∀ i : Fin 16, clientField (forwardWords i) (f i) = true := by decide) :
    ((u.segmentsTaken port).forwardRest port bad g).get (f port) = u.get (f port) :=
  (segmentForwarded_frame u port bad g).readPort f hf

theorem State.segmentForwarded_bit {k : Nat} :
    ((u.segmentsTaken port).forwardRest port bad g).on (portBit k port) = u.on (portBit k port) := by
  refine State.on_of_get ((segmentForwarded_frame u port bad g).get (outside_iff.mp (portBit_outside port k)).1 ?_)
  simp only [besideClient, forwardWords, List.mem_singleton, R.CLIENT_EVENT, R.CLIENT_ERR]
  omega

theorem State.segmentForwarded_wtr : (((u.segmentsTaken port).forwardRest port bad g).port port).wtr = (u.port port).wtr := by
  have htaken : ((u.segmentsTaken port).port port).wtr = (u.port port).wtr := u.onPort_keeps PortSt.wtr port port fun _ => rfl
  exact (State.forwardRest_keeps PortSt.wtr _ port port (fun _ _ _ _ _ _ _ _ _ => rfl) bad g).trans htaken

/-- The copies hold no complete segment more. -/
theorem State.segmentForwarded_segs (c : Carrier) : (((u.segmentsTaken port).forwardRest port bad g).copyOf port c).segs = [] := by
  have htaken : (((u.segmentsTaken port).port port).copies.at c).segs = [] := by
    by_cases hp : port < u.ports.length
    · rw [State.segmentsTaken, State.onPort_port hp]
      cases c <;> rfl
    · have hlen : (u.segmentsTaken port).ports.length = u.ports.length := List.length_modify ..
      have hport : (u.segmentsTaken port).port port = {} := List.getD_eq_default _ _ (by omega)
      rw [hport]
      cases c <;> rfl
  exact (State.forwardRest_keeps (fun q => (q.copies.at c).segs) _ port port (fun _ _ _ _ _ _ _ _ _ => rfl) bad g).trans htaken

end

end Sys2Proof.Machine
end

section
/-!
O35. The selector's commands (Table 8.6), loops (R180), counter snapshots (R182, R319), and the statement.
-/
-- An argument that a tactic fills waits for all declarations before it: elaborated in parallel, such proofs would each hold a thread.
set_option Elab.async false

namespace Sys2Proof.Machine
open Sys2Proof

/-! ### Commands of a port -/

/-- A write that reaches the window of a port with a CLIENT_PORT record takes effect. -/
theorem State.portWrite_accepted {s : State} {path : Path} {p : Nat} (hw : s.mayWrite path (R.CLIENT_CTRL p)) (hu : s.portUsed p = true)
    (k : State → State) : s.portWrite path p k = k s := by
  rw [State.portWrite, State.rwWrite_accepted hw, if_pos hu]

/-- FORCE_SEL forces the other copy in PROTECTED. -/
theorem State.forceSel_switches {s : State} {port : Fin 16} {value : Fin 4} (hmode : s.mode = 2) (h1 : 1 ≤ value.val)
    (hsel : s.get (F.CLIENT_STATE.SELECTED port) ≠ min 2 value.val) :
    s.forceSel port value = (s.set (F.CLIENT_CTRL.FORCE_SEL port) (min 2 value.val)).switchTo port (Carrier.ofIdx (min 2 value.val - 1)) true := by
  have hmode' : (s.set (F.CLIENT_CTRL.FORCE_SEL port) (min 2 value.val)).mode = s.mode :=
    s.get_setLane port (fun _ => F.GLOBAL_MODE.MODE) F.CLIENT_CTRL.FORCE_SEL _
  have hkept : (s.set (F.CLIENT_CTRL.FORCE_SEL port) (min 2 value.val)).get (F.CLIENT_STATE.SELECTED port) =
      s.get (F.CLIENT_STATE.SELECTED port) := s.get_setLane port F.CLIENT_STATE.SELECTED F.CLIENT_CTRL.FORCE_SEL _
  have hnonzero : min 2 value.val ≠ 0 := by omega
  simp only [State.forceSel, hmode', hmode, hkept, hsel, hnonzero, ne_eq, not_false_eq_true, decide_true, Bool.and_self, if_true]

theorem forcedCarrier_idx {v : Nat} (h : 1 ≤ v) : (Carrier.ofIdx (min 2 v - 1)).idx + 1 = min 2 v := by
  obtain rfl | h2 := Nat.eq_or_lt_of_le h
  · rfl
  · rw [Nat.min_eq_left h2]
    rfl

/-- The copy forced is selected, counted and shown; FORCE_SEL is stored. -/
theorem forceSel_forces {s : State} {port : Fin 16} {value : Fin 4} (hmode : s.mode = 2) (h1 : 1 ≤ value.val)
    (hsel : s.get (F.CLIENT_STATE.SELECTED port) ≠ min 2 value.val) :
    (s.forceSel port value).get (F.CLIENT_CTRL.FORCE_SEL port) = min 2 value.val ∧
      (s.forceSel port value).get (F.CLIENT_STATE.SELECTED port) = min 2 value.val ∧
      (s.forceSel port value).get (F.CLIENT_PROT_STATUS.SWITCHES port) =
        min (F.CLIENT_PROT_STATUS.SWITCHES port).top (s.get (F.CLIENT_PROT_STATUS.SWITCHES port) + 1) ∧
      (s.forceSel port value).on (portBit 4 port) = true ∧
      s.keepsRegs (s.forceSel port value) [R.CLIENT_CTRL port, R.CLIENT_STATE port, R.CLIENT_PROT_STATUS port, R.CLIENT_EVENT port] := by
  have hforced := State.get_set_same s (F.CLIENT_CTRL.FORCE_SEL port) (min 2 value.val) (Nat.le_of_ble_eq_true rfl) (by decide : 9 < 32)
  have hcount := s.get_setLane port F.CLIENT_PROT_STATUS.SWITCHES F.CLIENT_CTRL.FORCE_SEL (min 2 value.val)
  have hset : Frame (· ∈ [R.CLIENT_CTRL port, R.CLIENT_STATE port, R.CLIENT_PROT_STATUS port, R.CLIENT_EVENT port]) s
      (s.set (F.CLIENT_CTRL.FORCE_SEL port) (min 2 value.val)) := (Frame.refl _ s).set List.mem_cons_self
  rw [State.forceSel_switches hmode h1 hsel]
  generalize s.set (F.CLIENT_CTRL.FORCE_SEL port) (min 2 value.val) = u at *
  obtain ⟨hselected, hswitches, hraised⟩ := u.switchTo_shows port (Carrier.ofIdx (min 2 value.val - 1)) true
  have hsmall : min 2 value.val < 4 := by omega
  exact ⟨(u.switchTo_get port _ true F.CLIENT_CTRL.FORCE_SEL).trans (hforced.trans (Nat.mod_eq_of_lt hsmall)),
    hselected.trans (forcedCarrier_idx h1), hswitches.trans (by rw [hcount]), hraised,
    (hset.trans ((switchTo_frame u port _ true).mono fun _ => List.mem_cons_of_mem _)).keeps⟩

/-- Otherwise FORCE_SEL is only stored. -/
theorem State.forceSel_stored {s : State} {port : Fin 16} {value : Fin 4} (h : s.mode ≠ 2 ∨ value.val = 0) :
    s.forceSel port value = s.set (F.CLIENT_CTRL.FORCE_SEL port) (min 2 value.val) := by
  have hmode : (s.set (F.CLIENT_CTRL.FORCE_SEL port) (min 2 value.val)).mode = s.mode :=
    s.get_setLane port (fun _ => F.GLOBAL_MODE.MODE) F.CLIENT_CTRL.FORCE_SEL _
  obtain h | h := h
  · simp [State.forceSel, hmode, h]
  · simp [State.forceSel, h]

/-- What the egress sends follows the traffic condition: the port's state and events alone. -/
theorem egressUpdate_frame (s : State) (p : Nat) : Frame (· ∈ [R.CLIENT_STATE p, R.CLIENT_EVENT p]) s (s.egressUpdate p) := by
  have hset (up : Bool) : Frame (· ∈ [R.CLIENT_STATE p, R.CLIENT_EVENT p]) s (s.setB (F.CLIENT_STATE.EGRESS_DATA p) up) :=
    (Frame.refl _ s).set List.mem_cons_self
  have hevent (up : Bool) (b : Nat) := (hset up).trans ((clientEvent_frame (s.setB (F.CLIENT_STATE.EGRESS_DATA p) up) p b).mono fun _ =>
    List.mem_cons_of_mem _)
  exact Frame.ite (Frame.ite (hevent _ 3) ((hevent _ 2).ite (hset _))) (Frame.refl _ s)

/-- LOOP is stored, LINE as HOST in HOST_TEST, and the egress follows. -/
theorem portLoopWrite_holds (s : State) (port : Fin 16) (value : Fin 4) :
    (s.portLoopWrite port value).get (F.CLIENT_CTRL.LOOP port) = (if s.mode = 7 then min 1 value.val else min 2 value.val) ∧
      s.keepsRegs (s.portLoopWrite port value) [R.CLIENT_CTRL port, R.CLIENT_STATE port, R.CLIENT_EVENT port] ∧
      (s.portLoopWrite port value).mem = s.mem := by
  have hvalue : (if s.mode = 7 then min 1 (min 2 value.val) else min 2 value.val) = if s.mode = 7 then min 1 value.val else min 2 value.val := by
    split <;> omega
  rw [State.portLoopWrite, hvalue]
  generalize hv : (if s.mode = 7 then min 1 value.val else min 2 value.val) = v
  have hsmall : v < 4 := by
    rw [← hv]
    split <;> omega
  have hset : Frame (· ∈ [R.CLIENT_CTRL port, R.CLIENT_STATE port, R.CLIENT_EVENT port]) s (s.set (F.CLIENT_CTRL.LOOP port) v) :=
    (Frame.refl _ s).set List.mem_cons_self
  have hloop := State.get_set_same s (F.CLIENT_CTRL.LOOP port) v (Nat.zero_le _) (by decide : 1 < 32)
  have hegress := egressUpdate_frame (s.set (F.CLIENT_CTRL.LOOP port) v) port
  have hall := hset.trans (hegress.mono fun _ => List.mem_cons_of_mem _)
  exact ⟨((hegress.besideClient (List.Subset.refl _)).readPort (l := fun p => [R.CLIENT_STATE p, R.CLIENT_EVENT p]) F.CLIENT_CTRL.LOOP).trans
    (hloop.trans (Nat.mod_eq_of_lt hsmall)), hall.keeps, hall.mem⟩

/-! ### Counter snapshots (R182, R319) -/

/-- The words of a port's counters. -/
def counterLo (k p : Nat) : Fld := ⟨0x901040 + 8 * k + 0x100 * p, 31, 0⟩
def counterHi (k p : Nat) : Fld := ⟨0x901044 + 8 * k + 0x100 * p, 15, 0⟩

/-- The first counters of a port written. -/
def State.countersShown (s : State) (p : Nat) (v : Nat → Nat) : Nat → State
  | 0 => s
  | n + 1 => (s.countersShown p v n).set48 (counterLo n p) (counterHi n p) (v n)

section
variable (s : State) (p : Nat) (v : Nat → Nat)

theorem State.countersShown_get {k n : Nat} (h : k < n) : (s.countersShown p v n).get (counterLo k p) = v k % 2 ^ 32 := by
  induction n with
  | zero => omega
  | succ n ih =>
    have hhigh : (counterLo k p).addr ≠ (counterHi n p).addr := by simp only [counterLo, counterHi]; omega
    rw [State.countersShown, State.set48, State.get_set_other _ _ hhigh]
    obtain rfl | hne := Nat.eq_or_lt_of_le (Nat.lt_succ_iff.mp h)
    · exact State.get_set_same _ _ _ (Nat.zero_le _) (by decide : 31 < 32)
    · have hlow : (counterLo k p).addr ≠ (counterLo n p).addr := by simp only [counterLo]; omega
      rw [State.get_set_other _ _ hlow, ih hne]

theorem countersShown_frame (n : Nat) : Above 0x900000 s (s.countersShown p v n) := by
  induction n with
  | zero => exact Frame.refl _ s
  | succ n ih =>
    have hlow : 0x900000 ≤ (counterLo n p).addr := by simp only [counterLo]; omega
    have hhigh : 0x900000 ≤ (counterHi n p).addr := by simp only [counterHi]; omega
    exact (ih.set hlow).set hhigh

theorem State.countersShown_ports (n : Nat) : (s.countersShown p v n).ports = s.ports := by
  induction n with
  | zero => rfl
  | succ n ih => exact (State.set48_ports ..).trans ih

theorem ovfMap_frame (k : Nat) (cs : List Ctr48) : Above 0xA00000 s (s.ovfMap k cs) := by
  have hword : 0xA00000 ≤ R.GLEAN_OVF_MAP k := Nat.le_add_right_of_le (by decide)
  have hovf := (Frame.refl (0xA00000 ≤ ·) s).set (f := F.GLEAN_OVF_MAP.OVF k) (v := flagMap cs (·.ovf)) hword
  exact hovf.set (f := F.GLEAN_OVF_MAP.OVF_AT_WRITE k) hword

theorem State.ovfMap_ports (k : Nat) (cs : List Ctr48) : (s.ovfMap k cs).ports = s.ports := (State.set_ports ..).trans (State.set_ports ..)

end

/-- A snapshot shows the values that the counters have after its cycle. -/
theorem copied_value (clear : Bool) (before after : List Ctr48) (k : Nat) :
    (nth (copied clear before after) k {}).value = (nth after k {}).value := by
  simp only [nth, copied, List.getD_eq_getElem?_getD, List.getElem?_map, List.getElem?_zipIdx]
  cases after[k]? <;> rfl

/-- The counters of a snapshot written, with the flags of their wraps. -/
def State.snapshotShown (s : State) (p : Nat) (shown : List Ctr48) : State :=
  (s.countersShown p (fun k => (nth shown k {}).value) 6).ovfMap (18 + p) shown

theorem State.clientCopy_eq {s : State} {p : Nat} {clear : Bool} (now : List Nat) (h : (s.port p).snap = some clear) :
    s.clientCopy p now = ((s.snapshotShown p (copied clear (s.port p).live (counted now (s.port p).live))).onPort p fun q =>
      { q with snap := none, live := snapped clear (counted now (s.port p).live) }).clientEvent p 8 := by
  simp only [State.clientCopy, h]
  rfl

section
variable (s : State) (port : Fin 16) (shown : List Ctr48)

theorem snapshotShown_frame : Above 0x900000 s (s.snapshotShown port shown) :=
  (countersShown_frame s port _ 6).trans ((ovfMap_frame _ _ shown).mono fun _ => Nat.le_trans (by decide))

theorem State.snapshotShown_ports : (s.snapshotShown port shown).ports = s.ports :=
  (State.ovfMap_ports ..).trans (State.countersShown_ports ..)

theorem State.snapshotShown_get {k : Nat} (h : k < 6) :
    (s.snapshotShown port shown).get (counterLo k port) = (nth shown k {}).value % 2 ^ 32 := by
  have hword : ordinary (counterLo k port).addr := by simp only [ordinary, counterLo]; omega
  refine ((ovfMap_frame _ _ shown).get hword ?_).trans (s.countersShown_get port _ h)
  simp only [counterLo]
  omega

end

/-- What the copy of a snapshot leaves in its counters and its port. -/
theorem clientSnapshotCopy_holds {s : State} {port : Fin 16} {clear : Bool} (now : List Nat) (h : (s.port port).snap = some clear)
    (hp : port < s.ports.length) :
    (∀ k < 6, (s.clientCopy port now).get (counterLo k port) = (nth (counted now (s.port port).live) k {}).value % 2 ^ 32) ∧
      ((s.clientCopy port now).port port).snap = none ∧
      ((s.clientCopy port now).port port).live = snapped clear (counted now (s.port port).live) ∧
      (s.clientCopy port now).on (portBit 8 port) = true ∧ (s.clientCopy port now).mem = s.mem := by
  rw [State.clientCopy_eq now h]
  generalize hafter : counted now (s.port port).live = after
  have hget {k : Nat} := s.snapshotShown_get port (copied clear (s.port port).live after) (k := k)
  have hmem := (snapshotShown_frame s port (copied clear (s.port port).live after)).mem
  have hports := s.snapshotShown_ports port (copied clear (s.port port).live after)
  simp only [copied_value] at hget
  generalize s.snapshotShown port (copied clear (s.port port).live after) = t at *
  have hevent := clientEvent_frame (t.onPort port fun q => { q with snap := none, live := snapped clear after }) port 8
  have hport := State.onPort_port (s := t) (hports ▸ hp) fun q => { q with snap := none, live := snapped clear after }
  refine ⟨fun k hk => ?_, ?_, ?_, State.clientEvent_on _ port, hevent.mem.trans ((State.onPort_mem ..).trans hmem)⟩
  · refine (hevent.get ?_ ?_).trans ((State.onPort_get ..).trans (hget hk))
    · simp only [ordinary, counterLo]
      omega
    · simp only [portEventWords, List.mem_singleton, counterLo, R.CLIENT_EVENT]
      omega
  · rw [State.clientEvent_port, hport]
  · rw [State.clientEvent_port, hport]

/-! ### The statement -/

/-- Settles O35. -/
theorem egressAndSelectorFollowTheCopies : Obligations.EgressAndSelectorFollowTheCopies := by
  unfold Obligations.EgressAndSelectorFollowTheCopies
  refine ⟨?frame, ?lost, ?lostProtected, ?found, ?hunting, ?setEnds, ?late, ?pair, ?toB, ?stays, ?restored, ?forced, ?forceStored, ?loop, ?snap,
    ?snapCopy⟩
  case frame =>
    intro s port c bytes drained hon hmode hsync hending hspoil hlen hhec hdata hroom hloop htc hp
    have hkept : (((s.egressDrain port drained).port port).ending, ((s.egressDrain port drained).port port).spoilOut) =
        ((s.port port).ending, (s.port port).spoilOut) := s.onPort_keeps (fun q => (q.ending, q.spoilOut)) port port fun _ => rfl
    obtain ⟨hended, hspoiled⟩ := Prod.mk.inj hkept
    have hheld : ((s.egressDrain port drained).port port).held = (s.port port).held - drained := congrArg PortSt.held (State.onPort_port hp _)
    have hlength := s.egressDrain_ports_length port drained
    obtain ⟨t, ht, hsent, hfill, hset, hregs, hmem⟩ := recordIn_sends (s := s.egressDrain port drained) (c := c)
      (by rwa [State.egressDrain_mode]) (by rwa [hended]) (hspoiled.trans hspoil) hlen hdata (by rw [hheld]; exact hroom) hloop htc (hlength ▸ hp)
    rw [exec_recordReceived _ _ drained hon, State.recordReceived_good false (by rw [State.egressDrain_copyOf, hsync]) hhec]
    exact ⟨t, congrArg Host.Outcome.next ht, hsent, hfill.trans (by rw [hheld]), hset, hregs, hmem⟩
  case lost =>
    intro s port c record errored drained hon hmode hsync hhec hp
    have hmode' : (s.egressDrain port drained).mode ≠ 2 := by rwa [State.egressDrain_mode]
    have hdrain : Frame (· ∈ [R.CLIENT_EVENT port, R.CLIENT_PROT_STATUS port]) s ((s.egressDrain port drained).huntBegun port c) :=
      (Frame.refl _ s).onPort.onPort
    rw [exec_recordReceived _ _ drained hon, State.recordReceived_bad errored (by rw [State.egressDrain_copyOf, hsync]) hhec]
    obtain ⟨hhunt, -, hraised⟩ := (s.egressDrain port drained).toHunt_hunts port c
    rw [State.toHunt_plain port c hmode'] at hhunt hraised ⊢
    exact ⟨_, rfl, hhunt, hraised, (hdrain.trans (huntShown_frame _ port c)).keeps⟩
  case lostProtected =>
    intro s port c record errored drained hon hmode hsync hhec hp
    rw [exec_recordReceived _ _ drained hon, State.recordReceived_bad errored (by rw [State.egressDrain_copyOf, hsync]) hhec]
    obtain ⟨hhunt, hgood, hraised⟩ := (s.egressDrain port drained).toHunt_hunts port c
    obtain ⟨haligned, hmem⟩ := State.toHunt_protected port c (s := s.egressDrain port drained) (by rwa [State.egressDrain_mode])
    exact ⟨_, rfl, hhunt, haligned, hgood, hraised, hmem.trans (s.egressDrain_mem port drained)⟩
  case found =>
    intro s port c errored drained hon hsync hfound hp
    have hcopy := s.egressDrain_copyOf port drained c
    have hsynced := State.onCopy_copyOf (c := c) (s.egressDrain_ports_length port drained ▸ hp) fun k => { k with sync := true, found := 0 }
    rw [exec_recordReceived _ _ drained hon]
    obtain h | h := State.recordReceived_fill (s := s.egressDrain port drained) (p := port) (c := c) errored (by rw [hcopy, hsync])
      (by rwa [hcopy])
    · exact ⟨_, congrArg Host.Outcome.next h, congrArg CopySt.sync hsynced, rfl, rfl⟩
    · have hkept := ((s.egressDrain port drained).onCopy port c fun k => { k with sync := true, found := 0 }).onPort_keeps
        (fun q => q.copies.at c) port port (f := fun q => { q with ending := none }) fun _ => rfl
      exact ⟨_, congrArg Host.Outcome.next h, congrArg CopySt.sync (hkept.trans hsynced), rfl, rfl⟩
  case hunting =>
    intro s port c record errored drained hon hsync hfound hp
    have hcopy := s.egressDrain_copyOf port drained c
    have hcounted := State.onCopy_copyOf (c := c) (s.egressDrain_ports_length port drained ▸ hp) fun k =>
      { k with found := if hecGood record then 1 else 0 }
    rw [exec_recordReceived _ _ drained hon, State.recordReceived_hunt errored (by rw [hcopy, hsync]) (by rwa [hcopy])]
    exact ⟨_, rfl, (congrArg CopySt.sync hcounted).trans (by rw [hcopy, hsync]), congrArg CopySt.found hcounted, rfl, rfl⟩
  case setEnds =>
    intro s port hp
    exact ⟨_, rfl, congrArg PortSt.setOut (State.onPort_port hp _), rfl, rfl⟩
  case late =>
    intro s port delayNs drained hmode hused hdelay
    obtain ⟨f, hf⟩ := s.segmentComplete_late port delayNs drained hdelay
    have hframe := unalign_frame (s.delayShown port delayNs drained) port
    have hshown := s.delayShown_get port delayNs drained
    have hmem := (delayShown_frame s port delayNs drained).mem
    rw [exec_segmentComplete delayNs drained hmode hused, hf]
    generalize s.delayShown port delayNs drained = u at *
    exact ⟨_, rfl, (State.onPort_on ..).trans (u.unalign_off port),
      (State.onPort_get ..).trans ((hframe.readPort (l := portAlignWords) F.CLIENT_PROT_STATUS.DIFF_DELAY).trans hshown),
      (State.onPort_mem ..).trans (hframe.mem.trans hmem)⟩
  case pair =>
    intro s port delayNs drained x y hmode hused hdelay hsync hA hB hmark hp
    obtain ⟨bad, g, hpair⟩ := State.segmentComplete_pair (drained := drained) hdelay hsync hA hB hmark
    have hjudged := s.segmentJudged_holds port delayNs drained (!x.bad) (!y.bad)
    rw [exec_segmentComplete delayNs drained hmode hused, hpair]
    generalize (s.delayShown port delayNs drained).goodShown port (!x.bad) (!y.bad) = u at *
    have hselect := select_frame u port false
    have hget (f : Nat → Fld) (hf : ∀ i : Fin 16, besideSwitch i (f i) = true) (hc : ∀ i : Fin 16, clientField (forwardWords i) (f i) = true) :
        (((u.select port false).segmentsTaken port).forwardRest port bad g).on (f port) = u.on (f port) :=
      State.on_of_get ((State.segmentForwarded_get _ port bad g f hc).trans (u.select_get port false f hf))
    exact ⟨_, rfl, (hget F.CLIENT_STATE.ALIGNED (by decide) (by decide)).trans hjudged.aligned,
      (hget F.CLIENT_PROT_STATUS.A_GOOD (by decide) (by decide)).trans hjudged.goodA,
      (hget F.CLIENT_PROT_STATUS.B_GOOD (by decide) (by decide)).trans hjudged.goodB, State.segmentForwarded_segs _ port bad g .A,
      State.segmentForwarded_segs _ port bad g .B, (segmentForwarded_frame _ port bad g).mem.trans (hselect.mem.trans hjudged.frame.mem)⟩
  case toB =>
    intro s port delayNs drained x y hmode hused hdelay hsync hA hB hmark hp hsel hx hy htraffic hfree
    obtain ⟨bad, g, hpair⟩ := State.segmentComplete_pair (drained := drained) hdelay hsync hA hB hmark
    have hjudged := s.segmentJudged_holds port delayNs drained (!x.bad) (!y.bad)
    rw [exec_segmentComplete delayNs drained hmode hused, hpair]
    generalize (s.delayShown port delayNs drained).goodShown port (!x.bad) (!y.bad) = u at *
    rw [hx, hy] at hjudged
    obtain ⟨hselected, hswitches, hraised⟩ := u.switchTo_shows port .B false
    have hwtr := State.switchTo_wtr (inside := false) .B hjudged.aligned (hjudged.ports ▸ hp)
    rw [hjudged.switches_to_B hsel htraffic hfree]
    refine ⟨_, rfl, ?_, ?_, ?_, ?_⟩
    · rw [State.selected, State.segmentForwarded_get _ port bad g F.CLIENT_STATE.SELECTED, hselected]
      rfl
    · rw [State.segmentForwarded_get _ port bad g F.CLIENT_PROT_STATUS.SWITCHES, hswitches, hjudged.switches]
    · rw [State.segmentForwarded_bit, hraised]
    · rw [State.segmentForwarded_wtr, hwtr, State.on_of_get (hjudged.get F.CLIENT_CFG.REVERTIVE)]
      rfl
  case stays =>
    intro s port delayNs drained x y hmode hused hdelay hsync hA hB hmark hp hcase
    obtain ⟨bad, g, hpair⟩ := State.segmentComplete_pair (drained := drained) hdelay hsync hA hB hmark
    have hjudged := s.segmentJudged_holds port delayNs drained (!x.bad) (!y.bad)
    rw [exec_segmentComplete delayNs drained hmode hused, hpair, hjudged.stays (hcase.imp_left (by simpa using ·))]
    generalize (s.delayShown port delayNs drained).goodShown port (!x.bad) (!y.bad) = u at *
    have hselected := (State.segmentForwarded_get u port bad g F.CLIENT_STATE.SELECTED).trans hjudged.selected
    exact ⟨_, rfl, by simp only [State.selected, hselected],
      (State.segmentForwarded_get u port bad g F.CLIENT_PROT_STATUS.SWITCHES).trans hjudged.switches⟩
  case restored =>
    intro s port hwtr hsel hrev hfree hgood hsd
    obtain ⟨hselected, hswitches, hraised⟩ := s.switchTo_shows port .A true
    have hexec : exec (.wtrExpired port) s = .next (s.switchTo port .A true) :=
      congrArg Host.Outcome.next (if_pos (by simp [hwtr, hsel, hrev, hfree, hgood, hsd]))
    refine ⟨_, hexec, ?_, hswitches, hraised, (switchTo_frame s port .A true).keeps⟩
    rw [State.selected, hselected]
    rfl
  case forced =>
    intro s path port value hw hused hmode h1 hsel
    obtain ⟨hforce, hselected, hswitches, hraised, hkeeps⟩ := forceSel_forces hmode h1 hsel
    exact ⟨_, congrArg Host.Outcome.next (State.portWrite_accepted hw hused _), hforce, hselected, hswitches, hraised, hkeeps⟩
  case forceStored =>
    intro s path port value hw hused h
    exact ⟨_, congrArg Host.Outcome.next (State.portWrite_accepted hw hused _), State.forceSel_stored h⟩
  case loop =>
    intro s path port value hw hused
    obtain ⟨hloop, hkeeps, hmem⟩ := portLoopWrite_holds s port value
    exact ⟨_, congrArg Host.Outcome.next (State.portWrite_accepted hw hused _), hloop, hkeeps, hmem⟩
  case snap =>
    intro s path port clear hw hused hp
    have hport : ((s.clientSnap port clear).port port) = if (s.port port).snap.isSome then s.port port else { s.port port with snap := some clear } :=
      State.onPort_port hp _
    refine ⟨_, congrArg Host.Outcome.next (State.portWrite_accepted hw hused _), ?_, ?_, State.onPort_regs ..⟩
    · rw [hport]
      cases hsnap : (s.port port).snap <;> simp [hsnap]
    · rw [hport]
      split <;> rfl
  case snapCopy =>
    intro s port clear now hsnap hp
    obtain ⟨hget, hport, hlive, hraised, hmem⟩ := clientSnapshotCopy_holds now hsnap hp
    exact ⟨_, rfl, hget 0 (by decide), hget 1 (by decide), hget 2 (by decide), hget 3 (by decide), hget 4 (by decide), hget 5 (by decide), hport,
      hlive, hraised, hmem⟩

end Sys2Proof.Machine
end
